-- ==== Sys2Proof/Word.lean ====
section
/-! DEFINITION. The word types of the KX7240: a register is 32 bits wide (R27), bit 0 least significant (R5). -/

namespace Sys2Proof

/-- A register word (R27). -/
abbrev Word := BitVec 32

/-- One byte. -/
abbrev Byte := BitVec 8

/-- A register address, page × 0x1000 + offset (R26). -/
abbrev Addr := BitVec 20

end Sys2Proof
end

