-- ==== Sys2Proof/Syntax.lean ====
section
/-! DEFINITION. The commands of the KX7240: one constructor of `Instr` for each row of spec/opcode_table.json, with the
operands that the row's rule leaves to the outside (a requester and a value for a register access, a message of the
head end, a measured quantity, a random draw). A command that writes one named register carries the WHOLE value
written; where the row names one bit of it, the meaning sets that bit. -/

namespace Sys2Proof

/-- The requesters: PCIe 0, the shelf bus 1, the control cores 2-9 (R43). -/
inductive Req where
  | pcie
  | shelf
  | core (n : Fin 8)
deriving DecidableEq, Repr

/-- A wavelength channel L0-L3, or a DDR5 channel. -/
abbrev Chan := Fin 4

/-- What else reaches OWN at the handshake of a command of page OWN (R89): forced claims, whether the lease of the holder runs out,
writes of OWN_RELEASE (TARGET and VACATE), unforced claims. -/
structure OwnHand where
  forced   : List Req := []
  lost     : Bool := false
  releases : List (Req × BitVec 3) := []
  claims   : List Req := []
deriving DecidableEq, Repr

/-- Stages of a pipeline that hold configuration of a commit group (R51, R56). -/
inductive Stage where
  | parse | classify | flow | police
deriving DecidableEq, Repr

/-- A part of a commit group that switches on its own: a pipeline stage passed by a marker (R51), the entry of a
queue-side block (R56), the map of a lane, channel or context, or a key roll of a pair (R327). -/
inductive ApplyUnit where
  | stage (pipe : Fin 4) (st : Stage)
  | entry (key : Nat)
  | lane (l : Fin 48)
  | burst (c : Chan)
  | trib (ctx : Fin 1024)
  | roll (pair : Fin 8)
deriving DecidableEq, Repr

/-- The adaptive state of a receive chain: AGC gain in 0.1 dB, CTLE code, FFE taps 0-30, DFE tap (R104, R117). -/
structure Adapt where
  agc  : Nat
  ctle : BitVec 4
  taps : List (BitVec 9)
  dfe  : BitVec 8
deriving DecidableEq, Repr

/-- One entry of the thatch map (R172). -/
structure MapEntry where
  start : Nat
  count : Nat
  kind  : BitVec 2
  addr  : BitVec 12
deriving DecidableEq, Repr

/-- An interleave group as the receive chain passes it to the deframer (R104, R146): its number in the frame, the place of its first
symbol on the line, counted in symbols of the chain's NCO modulo the 3,200,000 of a frame, and its 12,800 symbols as 2-bit decisions. -/
structure GroupRaw where
  grp  : Nat
  at_  : Nat
  line : List (BitVec 2)
deriving DecidableEq, Repr

/-- The fixed part of a downstream control message and where it came from (R235, R236). -/
structure MsgHdr where
  chan   : Chan
  slot   : Fin 36
  frame  : BitVec 48
  tid    : BitVec 12
  param  : BitVec 4
  seq    : BitVec 8
deriving DecidableEq, Repr

/-- The body of SILENCE, EMERGENCY_STOP and RELEASE (R241). -/
structure SilBody where
  bySerial : Bool
  serial   : BitVec 64
  reason   : BitVec 8
  resume   : Bool
deriving DecidableEq, Repr

/-- The body of PROFILE (R241). -/
structure ProfileBody where
  guard    : BitVec 16
  preWords : BitVec 8
  prePat   : BitVec 8
  delim    : BitVec 64
  lead     : BitVec 8
  trail    : BitVec 8
  rev      : BitVec 8
deriving DecidableEq, Repr

/-- The body of MOVE (R241). -/
structure MoveBody where
  src     : Chan
  dst     : Chan
  mode    : BitVec 2
  newEqd  : BitVec 24
  holdMs  : BitVec 16
deriving DecidableEq, Repr

/-- A grant entry (R242). -/
structure GrantEntry where
  gs      : Nat
  chan    : Chan
  start   : Nat
  len     : Nat
  msg     : Bool
  longPre : Bool
deriving DecidableEq, Repr

/-- A tributary-lane character of a slot (R219). -/
inductive SlotChar where
  | data (b : Byte)
  | empty
  | mark
  | violation
deriving DecidableEq, Repr

/-- A row received on a tributary lane (R219, R220): its marker (0: K28.5, 1: K28.1, otherwise neither), the slots, the overhead byte, the
row CRC and the lane status. -/
structure RowIn where
  marker : Nat
  slots  : List SlotChar
  oh     : Byte
  crc    : Byte
  status : Byte
deriving DecidableEq, Repr

/-- What the ECC found in a line or code word read (R412, R415, R416). -/
inductive EccOut where
  | ok
  | ce (cw : BitVec 4) (sym : BitVec 8) (synd : BitVec 32)
  | ue (cw : BitVec 4) (synd : BitVec 32)
deriving DecidableEq, Repr

/-- What a read finds stored: on chip, the outcome of the ECC; in an external line, the bytes of its 80, four code words of 20 symbols,
that faults changed, and the bits that they changed (R411, R412). -/
inductive EccIn where
  | chip (o : EccOut)
  | ext (faults : List (Fin 80 × Byte))
deriving DecidableEq, Repr

/-- A place in a protected memory: line `idx` of DDR5 channel `ch`, or code word `idx` of on-chip memory `mem`
(R411, R427). -/
inductive MemPlace where
  | ext (ch : Chan) (idx : Nat)
  | chip (mem : BitVec 8) (idx : BitVec 24)
deriving DecidableEq, Repr

/-- Who accesses a memory, numbered as SRC of R427: a requester, the datapath, the scrubber, the fill engine or the
re-keying pass. -/
inductive MemUser where
  | req (r : Req)
  | datapath | scrub | fill | rekey
deriving DecidableEq, Repr

/-- Kinds of core access that a line fill serves (R543). -/
inductive CoreAcc where
  | fetch | load | store
deriving DecidableEq, Repr

/-- Where an Ethernet frame is received or sent: a backplane lane or a legacy port (R491). -/
inductive EthPort where
  | lane (l : Fin 48)
  | port (p : Fin 8)
deriving DecidableEq, Repr

/-- A received Ethernet frame: S of R390, FCS and block check, its bytes, the ingress stamp in 1/16 ns
(R529), FEC code blocks corrected and uncorrectable (R508), and the lanes on which its cut-through transmission has begun
(R492). -/
structure FrameIn where
  len   : Nat
  fcsOk : Bool
  bytes : List Byte
  stamp : Nat
  corr  : Nat
  unc   : Nat
  cut   : List (Fin 48)
deriving DecidableEq, Repr

/-- Which copy of an active table into its shadow has completed (R229, R299, R358, R395, R469). -/
inductive CopyKind where
  | trb | gsm | prog | qmap
  | gate (l : Fin 48)
deriving DecidableEq, Repr

/-- A wake source (R606). -/
inductive WakeSrc where
  | gpio (k : Fin 8)
  | presence | rtc | seal
deriving DecidableEq, Repr

/-- The completion of a boot step with what it found (R624): B1 with the wrapping-key slots that fail their check;
B2 with the 256 bytes read at copy 0, and at copy 1 for where that is read; B3 with the banks that fail; B4 with the retirement list and
what the log holds; B5; B6 with the image read, and with header and image of copy 1 for where copy 0's image fails; B7. -/
inductive BootDone where
  | b1 (programmed bad : BitVec 8)
  | b2 (sfdp : Bool) (copy0 copy1 : List Byte)
  | b3 (badBanks : List Nat)
  | b4 (list : List Word) (lastSeq : Option Word) (torn : Bool) (silenced : Option (BitVec 8))
  | b5
  | b6 (image copy1 image1 : List Byte)
  | b7
deriving DecidableEq, Repr

/-- The commands, in the order of spec/opcode_table.json. -/
inductive Instr where
  -- Chapter 1 and page SML/SMF: the Seam and the commit messages
  | seamFlitReceive (toFab ok : Bool) (dropLine dropFab : Nat)
  | seamLaneLockLoss (fab : Bool) (lane : Fin 16) (dropLine dropFab : Nat)
  | seamLost
  | seamRetrainAttempt
  | seamUp
  | retrainEnWrite (r : Req) (v : Word)
  | prepare (tag : BitVec 8)
  | prepared (tag : BitVec 8)
  | apply (tag : BitVec 8)
  | abort (tag : BitVec 8)
  | abortDomainOff (tag : BitVec 8)
  | prepTimeout (tag : BitVec 8)
  -- Chapter 2 and R31-R34, R642-R647: register access, commit groups, markers
  | registerWrite (r : Req) (a : Addr) (v : Word) (full : Bool)
  | stagedWrite (r : Req) (a : Addr) (v : Word) (full : Bool)
  | shelfReadLow (slot : BitVec 7) (ofs : BitVec 10)
  | shelfReadHigh (slot : BitVec 7) (ofs : BitVec 10)
  | shelfWriteLow (slot : BitVec 7) (ofs : BitVec 10) (d : BitVec 16)
  | shelfWriteHigh (slot : BitVec 7) (ofs : BitVec 10) (d : BitVec 16)
  | bankSlotRead (ofs : BitVec 10)
  | bankSlotWrite (ofs : BitVec 10) (d : BitVec 16)
  | shelfWriteEffect
  | mirrorUpdate (page : BitVec 8) (whole : Bool)
  | unusedPageAccess (r : Req) (rd : Bool) (a : Addr) (high : Bool)
  | cntClr (r : Req) (page : BitVec 8) (v : Word)
  | cntHold (r : Req) (page : BitVec 8) (v : Word)
  | evtOutSet (r : Req) (page : BitVec 8) (v : Word)
  | evtRawClear (r : Req) (page : BitVec 8) (bits firing : BitVec 16)
  | evtMaskWrite (r : Req) (page : BitVec 8) (bits : BitVec 16)
  | evtForce (r : Req) (page : BitVec 8) (bits : BitVec 16)
  | cmtOpen (r : Req) (tag : BitVec 8)
  | cmtCommit (r : Req) (tag : BitVec 8)
  | cmtDiscard (r : Req) (tag : BitVec 8)
  | cmtAck (r : Req) (tag : BitVec 8)
  | markerInject (tag : BitVec 8) (pipe : Fin 4)
  | markerPass (tag : BitVec 8) (pipe : Fin 4) (st : Stage)
  | boundaryApply (tag : BitVec 8) (u : ApplyUnit)
  -- Chapter 3: ownership, presence, the seal
  | electionTimeout
  | ownClaim (r : Req) (h : OwnHand)
  | ownClaimForced (r : Req) (h : OwnHand)
  | ownReleaseTarget (r : Req) (t : BitVec 2) (h : OwnHand)
  | ownReleaseVacate (r : Req) (h : OwnHand)
  | handoverTimeout
  | leaseExpire (h : OwnHand)
  | ownHeartbeat (r : Req)
  | presenceDebounce (high : Bool)
  | presenceOn
  | presenceStuck
  | presenceUnstick
  | presenceWindowExpire
  | forceWindowExpire
  | presenceEnd (r : Req) (v : Word)
  | sealBreak (seen : List Bool)
  | sealRearm (seen : List Bool)
  | sealBrokenClear (r : Req)
  | wakeL0Timeout
  -- Chapter 4: the line receiver
  | rxEnable (r : Req) (c : Chan) (v : Word)
  | rxDisable (r : Req) (c : Chan) (v : Word)
  | preambleDetect (c : Chan) (offset : Int) (peak : BitVec 8) (gain : BitVec 9) (lag : Nat)
  | blindAcquire (c : Chan)
  | trainingCountReached (c : Chan) (locked : Bool) (a : Adapt)
  | plannedHold (c : Chan) (g : Fin 250)
  | unplannedHold (c : Chan)
  | losAssert (c : Chan) (idle : Nat)
  | dozeEnter (c : Chan) (g : Fin 250)
  | dozeWake (c : Chan)
  | cdrLossOfLock (c : Chan)
  | armWindowClose (c : Chan)
  | simDetect (r : Req) (c : Chan) (v : Word)
  | saveDef (r : Req) (c : Chan) (v : Word)
  | loadFactory (r : Req) (c : Chan) (v : Word)
  | lqBlock (c : Chan) (lq : BitVec 9) (a : Adapt)
  | noiseMeasure (c : Chan) (floor : BitVec 10)
  | rateMeasure (c : Chan) (ppm : Int) (lock : Bool)
  | clipBlock (c : Chan) (clips : Nat)
  | calStart (r : Req) (c : Chan) (v : Word)
  | calAbort (r : Req) (c : Chan) (v : Word)
  | calStep (c : Chan) (k : Nat) (nonIdle : Bool) (trim : Word)
  -- Chapter 5: downstream framing
  | syncCandidate (c : Chan) (pos : Nat) (window : BitVec 64)
  | groupDecode (c : Chan) (g : GroupRaw)
  | plannedCoast (c : Chan)
  | coastEnd (c : Chan) (g : Fin 250)
  | coastLimit (c : Chan)
  | coastFrameAdvance (c : Chan)
  | multiframeStart (c : Chan)
  | berSecond (c : Chan)
  | fragmentReceive (c : Chan) (stamp : Nat)
  | fcForget (r : Req) (c : Chan)
  -- Chapter 6: tributaries
  | containerBuild (ctx : Fin 1024)
  | containerReceive (c : Chan)
  | desyncStart (ctx : Fin 1024)
  | locTimeout (ctx : Fin 1024)
  | tribRateSecond
  | laneRowCheck (l : Fin 48) (row : RowIn)
  | hairpinByte (ctx : Fin 1024)
  | tblDataWrite (r : Req) (v : Word)
  | tblCopy (r : Req) (v : Word)
  | tblCheck (r : Req) (v : Word)
  | copyComplete (k : CopyKind)
  | tableSelect (r : Req) (a : Addr) (v : Word)
  -- Chapter 7: control messages, activation, silence, the guard
  | profile (h : MsgHdr) (b : ProfileBody)
  | announceWindow (h : MsgHdr) (frame : BitVec 48) (start len : BitVec 16) (pre : BitVec 24) (chance draw : BitVec 8) (ofs : Nat)
  | assignId (h : MsgHdr) (serial : BitVec 64) (tid : BitVec 12)
  | rangingGrant (h : MsgHdr) (frame : BitVec 48) (start : BitVec 16) (pre : BitVec 24)
  | setDelay (h : MsgHdr) (eqd : BitVec 24) (frame : BitVec 48)
  | grant (h : MsgHdr) (es : List GrantEntry)
  | move (h : MsgHdr) (b : MoveBody)
  | deactivate (h : MsgHdr)
  | silence (h : MsgHdr) (b : SilBody)
  | emergencyStop (h : MsgHdr) (b : SilBody)
  | release (h : MsgHdr) (b : SilBody)
  | timeOfDay (h : MsgHdr) (frame : BitVec 48) (sec : BitVec 48) (ns : BitVec 32)
  | keyBlob (h : MsgHdr) (bytes : List Byte)
  | keySwitch (h : MsgHdr) (frame : BitVec 48)
  | statusReq (h : MsgHdr)
  | controlMessageReject (h : MsgHdr) (type : BitVec 8) (crcFail : Bool)
  | announceTimeout
  | rangingTimeout
  | lossTimeout
  | holdTimeout
  | actDisable (r : Req) (v : Word)
  | serialWrite (r : Req) (hi : Bool) (v : Word)
  | localRel (r : Req) (v : Word)
  | guardTrip (c : Chan)
  | guardFbTrip (c : Chan)
  | guardClr (r : Req) (v : Word)
  | guardTest (r : Req) (v : Word)
  -- Chapter 8: upstream bursts
  | upstreamFrameStart (c : Chan)
  | burstFix (c : Chan)
  | burstStart (c : Chan)
  | burstEnd (c : Chan)
  | packetFragmentStart (c : Chan) (present : Nat)
  | packetRelease (c : Chan)
  | gsmDataWrite (r : Req) (v : Word)
  | gsmCopy (r : Req) (v : Word)
  | txConfigWrite (r : Req) (c : Chan) (fir : Bool) (v : Word)
  | txTestWrite (r : Req) (c : Chan) (v : Word)
  -- Chapter 9: the link cipher and the keys
  | unwrapJobComplete
  | keyCmdLink (r : Req) (v : Word)
  | keyCmdMemory (r : Req) (v : Word)
  | keyCmdWrap (r : Req) (v : Word)
  | fuseProgramDone (ok : Bool)
  | lockoutEnd
  | entropyTestFail (fab : Bool)
  | keyErasePair (r : Req) (pairs : BitVec 8)
  | keyEraseAll (r : Req)
  | unwLock (r : Req)
  | unwCfgWrite (r : Req) (v : Word)
  -- Chapter 10: parsing and classification
  | parseStart (pipe : Fin 4)
  | nop (e : Fin 128)
  | ld (e : Fin 128)
  | ldi (e : Fin 128)
  | ldm (e : Fin 128)
  | addi (e : Fin 128)
  | add (e : Fin 128)
  | andi (e : Fin 128)
  | shl (e : Fin 128)
  | shr (e : Fin 128)
  | jeq (e : Fin 128)
  | jne (e : Fin 128)
  | jlt (e : Fin 128)
  | jmp (e : Fin 128)
  | ext (e : Fin 128)
  | kst (e : Fin 128)
  | hdr (e : Fin 128)
  | lchk (e : Fin 128)
  | flag (e : Fin 128)
  | done (e : Fin 128)
  | mal (e : Fin 128)
  | illegalOpcode (e : Fin 128)
  | stepBudgetFault (e : Fin 128)
  | programFetchUe (e : Fin 128)
  | fixedExtract (pipe : Fin 4)
  | classifyWalk (pipe : Fin 4) (ueAt : Option Nat)
  | recirculate (pipe : Fin 4)
  | flowLookup (pipe : Fin 4) (ue : Bool)
  | flowAge (ext : Bool) (idx : Nat)
  | flowRead (r : Req) (v : Word) (ue : Bool)
  | flowWrite (r : Req) (v : Word)
  | flowInvalidate (r : Req) (v : Word)
  | treeDataWrite (r : Req) (v : Word)
  | coreTreeStore (n : Fin 8) (node : Nat) (word : Fin 4) (v : Word) (full : Bool)
  | progDataWrite (r : Req) (v : Word)
  | progCopy (r : Req) (v : Word)
  -- Chapter 11: buffer pools
  | bufferAllocate (pipe : Fin 4)
  | bufShare (r : Req) (v : Word)
  | bufRelease (r : Req) (v : Word)
  | bufFree (r : Req) (v : Word)
  | bufQuery (r : Req) (v : Word)
  | bufAlloc (r : Req) (v : Word)
  | bpmEnable (r : Req) (v : Word)
  | onpCntWrite (r : Req) (k : Fin 8) (v : Word)
  | extRegWrite (r : Req) (k : Fin 8) (m : Chan) (v : Word)
  | qmapDataWrite (r : Req) (v : Word)
  | qmapCopy (r : Req) (v : Word)
  -- Chapter 12: memory protection
  | memoryRead (u : MemUser) (pl : MemPlace) (o : EccIn)
  | memoryWrite (u : MemUser) (pl : MemPlace) (data : List Byte)
  | narrowWrite (u : MemUser) (pl : MemPlace)
  | lineFill (n : Fin 8) (k : CoreAcc) (a : Nat) (o : EccIn)
  | fillLine (ch : Chan)
  | scrubRead (pl : MemPlace) (o : EccIn)
  | retire (r : Req) (v : Word)
  | clearList (r : Req) (v : Word)
  | trackClr (r : Req) (v : Word)
  | rekey (r : Req) (v : Word)
  | fresh (r : Req) (v : Word)
  | rekeyLine (ch : Chan) (o : EccIn)
  | memTrain (r : Req) (m : Chan) (v : Word)
  | memWithdraw (r : Req) (m : Chan) (v : Word)
  | trainingDone (m : Chan) (gib : Nat)
  | trainingFail (m : Chan) (stp : BitVec 4)
  | skipWindowWrite (r : Req) (m : Chan) (endReg : Bool) (v : Word)
  -- Chapter 13: scheduling, shaping, policing, gates
  | enqueue (pipe : Fin 4)
  | gsSelect (c : Chan)
  | laneSelect (l : Fin 48)
  | portSelect (p : Fin 8)
  | police (pipe : Fin 4)
  | gateSwitch (l : Fin 48)
  | gateShadowWrite (r : Req) (a : Addr) (v : Word)
  | gateCopy (r : Req) (v : Word)
  | hwmClr (r : Req) (v : Word)
  | hwmClrAll (r : Req) (v : Word)
  | shpEnable (r : Req) (v : Word)
  -- Chapter 14: backplane lanes and legacy ports
  | laneCtlWrite (r : Req) (l : Fin 48) (v : Word)
  | laneSleep (r : Req) (l : Fin 48) (v : Word)
  | laneWake (r : Req) (l : Fin 48) (v : Word)
  | laneRecal (r : Req) (l : Fin 48) (v : Word)
  | laneRecalAbort (r : Req) (l : Fin 48) (v : Word)
  | laneRetrain (r : Req) (l : Fin 48) (v : Word)
  | negotiationComplete (l : Fin 48) (mode : BitVec 3) (fec : BitVec 2)
  | linkTrainingComplete (l : Fin 48)
  | linkTrainingTimeout (l : Fin 48)
  | pcsLock (l : Fin 48)
  | pcsLockLoss (l : Fin 48)
  | recalRun (l : Fin 48)
  | recalEnd (l : Fin 48)
  | wakeOnSignal (l : Fin 48)
  | wakeOnQueue (l : Fin 48)
  | pllReady (l : Fin 48)
  | refLoss
  | refReturn
  | frameReceive (e : EthPort) (f : FrameIn)
  | pauseReceive (e : EthPort) (quanta : BitVec 16)
  | pfcReceive (e : EthPort) (en : BitVec 8) (quanta : List (BitVec 16))
  | pauseTimerExpire (e : EthPort) (pri : Option (Fin 8))
  | pauseSend (e : EthPort)
  | pauseRefresh (e : EthPort)
  | txUnderrun (e : EthPort)
  | frameTransmitEnd (e : EthPort)
  | collision (p : Fin 8) (bit : Nat) (rnd : BitVec 10)
  | backoffExpire (p : Fin 8)
  | cxBpStart (p : Fin 8)
  | phyPoll (p : Fin 8) (r1 r4 r5 : BitVec 16)
  | portStepDown (p : Fin 8)
  | portStepUp (p : Fin 8)
  | mdioWrite (r : Req) (v : Word)
  | mdioRead (r : Req) (v : Word)
  | mdioFrameDone (data : BitVec 16) (ack : Bool)
  -- Chapter 15: time
  | servoHoldTimeout
  | servoDisable (r : Req) (v : Word)
  | stepByRefused (r : Req) (v : Word)
  | stepToTime (r : Req) (v : Word)
  | stepByAmount (r : Req) (v : Word)
  | stepApply
  | switchA (r : Req) (v : Word)
  | switchB (r : Req) (v : Word)
  | bSample (r : Req) (v : Word)
  | bStale
  | rtcTrimMeasure (ppm : BitVec 24)
  | rtcFail
  | fuEntryExpire (idx : Fin 256)
  | txtsRead (r : Req)
  | timeReadLatch (r : Req)
  | fcReadLatch (r : Req) (c : Chan)
  | rtcReadLatch (r : Req)
  | ppsEdge
  | frameSyncEdge
  | todUartMessage
  -- Chapter 16: control cores and task dispatch
  | take (n : Fin 8)
  | itemDone (n : Fin 8) (item : BitVec 12)
  | yield (n : Fin 8) (item : BitVec 12)
  | portPost (n : Fin 8) (item : BitVec 12) (flag : BitVec 5)
  | portCancel (n : Fin 8) (item : BitVec 12)
  | causeRead (n : Fin 8)
  | tskPost (r : Req) (v : Word)
  | tskCancel (r : Req) (v : Word)
  | postApply
  | itemCfgWrite (r : Req) (maskReg : Bool) (v : Word)
  | tskEnable (r : Req) (v : Word)
  | excDescriptorWrite
  | excTailWrite (r : Req) (v : Word)
  | injectPath (r : Req) (v : Word)
  | injectDirect (r : Req) (v : Word)
  | xwinWrite (r : Req) (n : Fin 8) (v : Word)
  -- Chapter 17: events, errors, power fail
  | eventFire (page : BitVec 8) (bit : Fin 16)
  | recRead (r : Req)
  | msixArm (r : Req) (hi : Bool) (v : Word)
  | evtEnable (r : Req) (v : Word)
  | logPageProgram (ok : Bool)
  | logSectorErase
  | powerFailAssert
  | powerFailFlushDone (late : Bool)
  | powerFailClear
  -- Chapter 18: power levels and wake
  | levelWrite (r : Req) (v : Word)
  | regulatorAck (line : Bool)
  | pmbusAttemptTimeout (line : Bool)
  | doze (r : Req) (v : Word)
  | nap (r : Req) (v : Word)
  | deep (r : Req) (v : Word)
  | wake (r : Req) (v : Word)
  | leaveLimp (r : Req) (v : Word)
  | sleepEntry
  | sleepWaitTimeout
  | dozeAutoExit
  | wakeSource (w : WakeSrc)
  | oscReadyRise
  | oscTimeout
  | domainPowerGood (d : Fin 34)
  | domainTimeout (d : Fin 34)
  -- Chapter 19: reset, boot, self-test
  | powerOn
  | powerLoss
  | resetAssert
  | resetRelease (straps : BitVec 5)
  | devRst (r : Req) (v : Word)
  | watchdogExpire
  | wdtKick (r : Req) (v : Word)
  | coreRunWrite (r : Req) (v : Word)
  | bootStepDone (o : BootDone)
  | flashReadTimeout
  | bootRetry (r : Req) (v : Word)
  | bootRun (r : Req) (v : Word)
  | bistGo (r : Req) (v : Word)
  | bistDone (err : Nat) (addr : Word)
  -- Chapter 20: host interfaces
  | pcieLinkUp (width speed : BitVec 3) (d3 msixEn funcMask : Bool)
  | pcieLinkDown
  | pcieHotReset
  | pcieFlr
  | perstAssert
  | msixUnmask (r : Req) (vec : Fin 64)
  | flashRead (r : Req) (v : Word)
  | flashProg (r : Req) (v : Word)
  | flashErase (r : Req) (v : Word)
  | flashCmdDone (bad : Bool) (data : List Byte)
  | oi2cWrite (r : Req) (v : Word)
  | oi2cRead (r : Req) (v : Word)
  | oi2cDone (result : BitVec 2) (data : List Byte)
  | oi2cSclTimeout
  | jtagOpen (r : Req) (v : Word)
  | jtagClose (r : Req) (v : Word)
  -- the rows that the table gives last
  | armWindowOpen (c : Chan)
  | tribRowTransmit (l : Fin 48)
  | entropyTestPass (fab : Bool)
  | retCmdDone (ok : Bool)
  | memoryStepTimeout (m : Chan)
  | pcieL0Exit
  | readBusError (r : Req) (a : Addr) (full : Bool)
  | sealIntact (seen : List Bool)
deriving DecidableEq, Repr

end Sys2Proof
end

