-- ==== Sys2Proof/Machine/Codec.lean ====
section
/-! DEFINITION. The codes of the fibre, as functions of bits: bit and byte order (R6), cyclic redundancy checks, the additive scrambler
(R153), the Reed-Solomon code over GF(2^10) with its encoder and decoder (R180, R181), the interleave of a group (R146). -/

namespace Sys2Proof.Machine

open Sys2Proof

/-! ### Bits and bytes (R6) -/

/-- The low `n` bits of a number, most significant first. -/
def bitsBE (n v : Nat) : List Bool := (List.range n).map (fun i => v.testBit (n - 1 - i))

/-- The number that bits give, most significant first. -/
def ofBitsBE (bs : List Bool) : Nat := bs.foldl (fun a b => 2 * a + (if b then 1 else 0)) 0

/-- Bytes of a number, most significant first (R6). -/
def toBytesBE : Nat → Nat → List Byte
  | 0, _ => []
  | n + 1, v => BitVec.ofNat 8 (v / 256 ^ n) :: toBytesBE n v

/-- The number that bytes give, most significant first (R6). -/
def ofBytesBE (bs : List Byte) : Nat := bs.foldl (fun a b => a * 256 + b.toNat) 0

/-- The bits of bytes in the order sent: byte 0 first, bit 7 of each byte first. -/
def bitsOfBytes (bs : List Byte) : List Bool := (bs.map (fun b => bitsBE 8 b.toNat)).flatten

/-- The bytes of a stream of bits; bits short of a byte are dropped. -/
def bytesOfBits : List Bool → List Byte
  | b7 :: b6 :: b5 :: b4 :: b3 :: b2 :: b1 :: b0 :: r =>
    BitVec.ofNat 8 (ofBitsBE [b7, b6, b5, b4, b3, b2, b1, b0]) :: bytesOfBits r
  | _ => []

/-- The 10-bit symbols of a stream of bits, most significant bit first (R146). -/
def symsOfBits : List Bool → List Nat
  | a :: b :: c :: d :: e :: f :: g :: h :: i :: j :: r => ofBitsBE [a, b, c, d, e, f, g, h, i, j] :: symsOfBits r
  | _ => []

/-- The bits of 10-bit symbols. -/
def bitsOfSyms (ss : List Nat) : List Bool := (ss.map (bitsBE 10)).flatten

/-- The bits of PAM4 symbol decisions, most significant bit of each pair first. -/
def bitsOfPam (ps : List (BitVec 2)) : List Bool := (ps.map (fun p => [p.getLsbD 1, p.getLsbD 0])).flatten

/-- The 2-bit decisions of a stream of bits. -/
def pamOfBits : List Bool → List (BitVec 2)
  | a :: b :: r => BitVec.ofNat 2 (ofBitsBE [a, b]) :: pamOfBits r
  | _ => []

/-- A bit sequence XOR another. -/
def xorBits (a b : List Bool) : List Bool := List.zipWith (fun x y => x != y) a b

/-- Bytes XOR bytes. -/
def xorBytes (a b : List Byte) : List Byte := List.zipWith (fun x y => x ^^^ y) a b

/-! ### Cyclic redundancy checks -/

/-- The CRC register of width `w` with polynomial `poly` and preset `init` after the bits, in transmission order. -/
def crcBits (w poly init : Nat) (bs : List Bool) : Nat :=
  bs.foldl (fun c b =>
    let d := c * 2 % 2 ^ w
    if b != c.testBit (w - 1) then d ^^^ poly else d) init

/-- CRC-32 of the header and of a control message: preset to all ones, complemented (R150). -/
def crc32 (bs : List Byte) : Nat := crcBits 32 0x04C11DB7 0xFFFFFFFF (bitsOfBytes bs) ^^^ 0xFFFFFFFF

/-- CRC-16 with polynomial 0x1021, preset to all ones (R185, R282). -/
def crc16 (bs : List Bool) : Nat := crcBits 16 0x1021 0xFFFF bs

/-! ### SHA-256 (FIPS 180-4; R622) -/

/-- The round constants. -/
def shaK : List Word :=
  [0x428a2f98, 0x71374491, 0xb5c0fbcf, 0xe9b5dba5, 0x3956c25b, 0x59f111f1, 0x923f82a4, 0xab1c5ed5, 0xd807aa98, 0x12835b01, 0x243185be,
    0x550c7dc3, 0x72be5d74, 0x80deb1fe, 0x9bdc06a7, 0xc19bf174, 0xe49b69c1, 0xefbe4786, 0x0fc19dc6, 0x240ca1cc, 0x2de92c6f, 0x4a7484aa] ++
  [0x5cb0a9dc, 0x76f988da, 0x983e5152, 0xa831c66d, 0xb00327c8, 0xbf597fc7, 0xc6e00bf3, 0xd5a79147, 0x06ca6351, 0x14292967, 0x27b70a85,
    0x2e1b2138, 0x4d2c6dfc, 0x53380d13, 0x650a7354, 0x766a0abb, 0x81c2c92e, 0x92722c85, 0xa2bfe8a1, 0xa81a664b, 0xc24b8b70, 0xc76c51a3] ++
  [0xd192e819, 0xd6990624, 0xf40e3585, 0x106aa070, 0x19a4c116, 0x1e376c08, 0x2748774c, 0x34b0bcb5, 0x391c0cb3, 0x4ed8aa4a, 0x5b9cca4f,
    0x682e6ff3, 0x748f82ee, 0x78a5636f, 0x84c87814, 0x8cc70208, 0x90befffa, 0xa4506ceb, 0xbef9a3f7, 0xc67178f2]

/-- The initial hash value. -/
def shaInit : List Word := [0x6a09e667, 0xbb67ae85, 0x3c6ef372, 0xa54ff53a, 0x510e527f, 0x9b05688c, 0x1f83d9ab, 0x5be0cd19]

/-- The message padded to whole blocks of 64 bytes. -/
def shaPad (m : List Byte) : List Byte :=
  m ++ [0x80] ++ List.replicate ((119 - m.length % 64) % 64) 0 ++ toBytesBE 8 (8 * m.length)

/-- The message schedule of a block: 64 words. -/
def shaSched (block : List Byte) : List Word :=
  let w0 := (List.range 16).map (fun i => BitVec.ofNat 32 (ofBytesBE ((block.drop (4 * i)).take 4)))
  (List.range 48).foldl (fun (w : List Word) t =>
    let x := w.getD (t + 1) 0
    let y := w.getD (t + 14) 0
    let s0 := x.rotateRight 7 ^^^ x.rotateRight 18 ^^^ (x >>> 3)
    let s1 := y.rotateRight 17 ^^^ y.rotateRight 19 ^^^ (y >>> 10)
    w ++ [w.getD t 0 + s0 + w.getD (t + 9) 0 + s1]) w0

/-- One round on the working variables a to h. -/
def shaRound (v : List Word) (kw : Word) : List Word :=
  let g := fun (i : Nat) => v.getD i 0
  let s1 := (g 4).rotateRight 6 ^^^ (g 4).rotateRight 11 ^^^ (g 4).rotateRight 25
  let t1 := g 7 + s1 + ((g 4 &&& g 5) ^^^ (~~~ g 4 &&& g 6)) + kw
  let s0 := (g 0).rotateRight 2 ^^^ (g 0).rotateRight 13 ^^^ (g 0).rotateRight 22
  let t2 := s0 + ((g 0 &&& g 1) ^^^ (g 0 &&& g 2) ^^^ (g 1 &&& g 2))
  [t1 + t2, g 0, g 1, g 2, g 3 + t1, g 4, g 5, g 6]

/-- The digest of a message. -/
def sha256 (m : List Byte) : List Byte :=
  let p := shaPad m
  let h := (List.range (p.length / 64)).foldl (fun (h : List Word) i =>
    let ks := List.zipWith (· + ·) shaK (shaSched ((p.drop (64 * i)).take 64))
    List.zipWith (· + ·) h (ks.foldl shaRound h)) shaInit
  (h.map (fun x => toBytesBE 4 x.toNat)).flatten

/-! ### The scrambler (R153, R154) -/

/-- The scrambler state after one bit: f = x[57] XOR x[38] comes in at x[0]. -/
def scrNext (x : BitVec 58) : BitVec 58 := (x <<< 1) ||| BitVec.setWidth 58 (BitVec.ofBool (x.getLsbD 57 ^^ x.getLsbD 38))

/-- The scrambler state after `n` bits. -/
def scrAfter (x : BitVec 58) : Nat → BitVec 58
  | 0 => x
  | n + 1 => scrAfter (scrNext x) n

/-- Scrambles or descrambles bits from a state. -/
def scramble : BitVec 58 → List Bool → List Bool
  | _, [] => []
  | x, b :: bs => (b != (x.getLsbD 57 ^^ x.getLsbD 38)) :: scramble (scrNext x) bs

/-- Scrambles or descrambles bytes from a state. -/
def scrambleBytes (x : BitVec 58) (bs : List Byte) : List Byte := bytesOfBits (scramble x (bitsOfBytes bs))

/-- The state at the first bit of byte 56 of a frame (R154). -/
def payloadSeed (fc : Nat) : BitVec 58 := BitVec.ofNat 58 (fc % 2 ^ 48 * 1024 + 1023)

/-! ### GF(2^10), x^10 + x^3 + 1 (R180) -/

/-- A product in GF(2^10). -/
def gfMul (a b : Nat) : Nat :=
  ((List.range 10).foldl (fun (p : Nat × Nat) i =>
    (if b.testBit i then p.1 ^^^ p.2 else p.1, if p.2.testBit 9 then (p.2 * 2) ^^^ 0x409 else p.2 * 2)) (0, a)).1

/-- α^n, α = x. -/
def alphaPow : Nat → Nat
  | 0 => 1
  | n + 1 => gfMul (alphaPow n) 2

/-- The inverse: a^1022. -/
def gfInv (a : Nat) : Nat :=
  let sq := fun (x : Nat) => gfMul x x
  let r := (List.range 9).foldl (fun (p : Nat × Nat) _ => (gfMul p.1 (sq p.2), sq p.2)) (1, a)
  r.1

/-- The value of a polynomial, lowest coefficient first. -/
def polyEval (p : List Nat) (x : Nat) : Nat := p.foldr (fun c acc => c ^^^ gfMul acc x) 0

/-- The sum of two polynomials. -/
def polyAdd : List Nat → List Nat → List Nat
  | [], q => q
  | p, [] => p
  | a :: p, b :: q => (a ^^^ b) :: polyAdd p q

/-- A polynomial times a constant. -/
def polyScale (c : Nat) (p : List Nat) : List Nat := p.map (gfMul c)

/-- The product of two polynomials. -/
def polyMul (p q : List Nat) : List Nat := p.foldr (fun c acc => polyAdd (polyScale c q) (0 :: acc)) []

/-! ### RS(640,608) and its shortened codes (R180, R181, R280) -/

/-- The generator: the product of (x - α^i) for i = 0 to 31, lowest coefficient first. -/
def rsGen : List Nat := (List.range 32).foldl (fun g i => polyMul [alphaPow i, 1] g) [1]

/-- The 32 parity symbols of information symbols, the coefficient of highest degree first. -/
def rsParity (info : List Nat) : List Nat :=
  let g := (rsGen.take 32).reverse
  info.foldl (fun r s =>
    let f := s ^^^ r.headD 0
    List.zipWith (fun a b => a ^^^ gfMul f b) (r.tail ++ [0]) g) (List.replicate 32 0)

/-- A codeword: information first, then parity. -/
def rsEncode (info : List Nat) : List Nat := info ++ rsParity info

/-- The 32 syndromes of a received word: symbol 0 is the coefficient of highest degree. -/
def syndromes (w : List Nat) : List Nat :=
  (List.range 32).map (fun i => let a := alphaPow i; w.foldl (fun acc s => gfMul acc a ^^^ s) 0)

/-- The key equation: the locator found so far, the one before its last change, its length, the gap since that change and the
discrepancy at it. -/
structure KeyEq where
  loc  : List Nat
  prev : List Nat
  len  : Nat
  gap  : Nat
  disc : Nat
deriving DecidableEq, Repr

/-- One syndrome of the key equation; `past` holds the syndromes up to it, newest first. -/
def KeyEq.step (k : KeyEq) (n : Nat) (past : List Nat) : KeyEq :=
  let d := (List.zipWith gfMul k.loc past).foldl Nat.xor 0
  if d = 0 then { k with gap := k.gap + 1 }
  else
    let c := polyAdd k.loc (List.replicate k.gap 0 ++ polyScale (gfMul d (gfInv k.disc)) k.prev)
    if 2 * k.len ≤ n then { loc := c, prev := k.loc, len := n + 1 - k.len, gap := 1, disc := d }
    else { k with loc := c, gap := k.gap + 1 }

/-- The error locator of a list of syndromes, and how many errors it stands for. -/
def locator (syn : List Nat) : List Nat × Nat :=
  let r := syn.foldl (fun (p : KeyEq × Nat × List Nat) s =>
    let past := s :: p.2.2
    (p.1.step p.2.1 past, p.2.1 + 1, past)) (⟨[1], [1], 0, 1, 1⟩, 0, [])
  (r.1.loc, r.1.len)

/-- The error at a place: the place's power X of α, and X Ω(1/X) / Λ'(1/X). -/
def errorAt (loc omega : List Nat) (x : Nat) : Nat :=
  let xi := gfInv x
  let odd := loc.zipIdx.map (fun p => if p.2 % 2 = 1 then p.1 else 0)
  gfMul x (gfMul (polyEval omega xi) (gfInv (gfMul (polyEval odd xi) x)))

/-- What decoding a codeword gives: the symbols as corrected, or as received where it is uncorrectable, and how many symbols and bits
correction changed. -/
structure Decoded where
  uncorr : Bool
  word   : List Nat
  syms   : Nat
  bits   : Nat
deriving DecidableEq, Repr

/-- How many bits of a number are 1. -/
def onesOf (n v : Nat) : Nat := (List.range n).countP (fun i => v.testBit i)

/-- Decodes a codeword of 640 symbols: up to 16 symbols are corrected; a word for which more are found, or whose locator has fewer
roots among the places of the word than its degree, is left as it is (R181). -/
def rsDecode (w : List Nat) : Decoded :=
  let syn := syndromes w
  if syn.all (fun s => s == 0) then ⟨false, w, 0, 0⟩
  else
    let (loc, n) := locator syn
    let places := w.zipIdx.map (fun p => alphaPow (w.length - 1 - p.2))
    let roots := places.countP (fun x => polyEval loc (gfInv x) == 0)
    if 16 < n ∨ roots ≠ n then ⟨true, w, 0, 0⟩
    else
      let omega := (polyMul loc syn).take 32
      let es := places.map (fun x => if polyEval loc (gfInv x) = 0 then errorAt loc omega x else 0)
      ⟨false, List.zipWith Nat.xor w es, n, (es.map (onesOf 10)).sum⟩

/-! ### The interleave of a group (R146) -/

/-- The four codewords of a group, from the symbols of the line. -/
def splitGroup : List Nat → List Nat × List Nat × List Nat × List Nat
  | a :: b :: c :: d :: r => let (p, q, s, t) := splitGroup r; (a :: p, b :: q, c :: s, d :: t)
  | _ => ([], [], [], [])

/-- The symbols of the line, from four codewords. -/
def joinGroup : List Nat → List Nat → List Nat → List Nat → List Nat
  | a :: p, b :: q, c :: s, d :: t => a :: b :: c :: d :: joinGroup p q s t
  | _, _, _, _ => []

/-- What decoding a group gives: the four codewords, and the information stream as it stands on the line, before descrambling
(R155). -/
def decodeGroup (line : List (BitVec 2)) : List Decoded × List Byte :=
  let (p, q, s, t) := splitGroup (symsOfBits (bitsOfPam line))
  let a := rsDecode p
  let b := rsDecode q
  let c := rsDecode s
  let d := rsDecode t
  ([a, b, c, d], bytesOfBits (bitsOfSyms (joinGroup (a.word.take 608) (b.word.take 608) (c.word.take 608) (d.word.take 608))))

/-- The line symbols of a group with the given information stream of 3,040 bytes, as it stands on the line. -/
def encodeGroup (info : List Byte) : List (BitVec 2) :=
  let (p, q, s, t) := splitGroup (symsOfBits (bitsOfBytes info))
  pamOfBits (bitsOfSyms (joinGroup (rsEncode p) (rsEncode q) (rsEncode s) (rsEncode t)))

end Sys2Proof.Machine
end

