-- ==== Sys2Proof/Config.lean ====
section
/-! DEFINITION. The values that the spec leaves open and no definition fixes: opaque constants. No proof can see their
values, so a statement holds whatever they are. Each is named in the assumption log. -/

namespace Sys2Proof.Config

/-- A fresh free value: the step applies it to the counter `State.fresh` and advances the counter (log entry 13). -/
opaque freeWord : Nat → Word

/-- Where on-chip pool `k` begins in the packet buffer, for the buffer counts of the eight pools (log entry 20). -/
opaque onpBase : List Nat → Nat → Nat

/-- The packet-buffer bank in which a code word of an on-chip memory lies, if it lies in one: memory number and index
(log entry 24). -/
opaque bankOf : Nat → Nat → Option Nat

/-- Where a code word of an on-chip memory stands: memory number and index (log entry 24). -/
opaque chipAddr : Nat → Nat → Nat

/-- The number of the on-chip memory that holds an address of the core memory map (log entry 24). -/
opaque chipNum : Nat → Nat

/-- The code word that the scrubber reads last in an on-chip pass: memory number and index (log entry 25). -/
opaque chipLast : Nat → Nat → Bool

/-- DRAM rank and bank of a physical line (log entry 26): the rank in bit 5. -/
opaque rankBank : Nat → BitVec 6

/-- The pipeline to which a packet is assigned, by its source and the fields of R340 (log entry 21). -/
opaque pipeHash : Nat → List Byte → Fin 4

/-- A key of 32 bytes that an entropy source draws, by the counter `State.fresh` (R436, R437, log entry 143). -/
opaque freeKey : Nat → List Byte

/-- The 64-bit check value of a key (R317, log entry 140). -/
opaque keyCheck : List Byte → BitVec 64

/-- The wrapping key that a fuse slot was given before the model begins: manufacture, an earlier install (R335, log entry 141). -/
opaque fuseKey : Nat → List Byte

/-- The mantissa (bits 3-0) and exponent (bits 11-8) of the bit-error estimate of R133 for a link-quality figure (log entry 45). -/
opaque preFec : Nat → Word

end Sys2Proof.Config
end

