-- ==== Sys2Proof/Machine/State.lean ====
section
/-! DEFINITION. The state of the KX7240: plain data, block by block in the order of the spec's chapters, its reset value,
and the reasons to stop. Registers that hold configuration, counters, latches and captured values stand in `regs` by
address (`Sys2Proof.Machine.R`); what an engine or a state machine of the spec holds stands in the structure of its
block, from which the read functions compute its status registers. -/

namespace Sys2Proof.Machine

/-! ### Maps -/

/-- A map over a key space most of whose entries have the default value: the entries that differ, keys strictly
rising (the canonical form, `Sys2Proof.Machine.SMap.wf`). -/
abbrev SMap (α : Type) := List (Nat × α)

/-! ### Reasons to stop -/

/-- Reasons to stop with a fault. -/
inductive Fault where
  /-- Raised by the meaning of a command whose operands `Instr.WellFormed` rejects (a list of the wrong length, a number
  outside the format of its message). Safe: no agent can send such a command. -/
  | illFormed
deriving DecidableEq, Repr

/-- Reasons to refuse a command. -/
inductive Refusal where
  /-- Answered by an arm of `exec` whose command has no meaning yet; safe. -/
  | notModelled (mnemonic : String)
deriving DecidableEq, Repr

/-! ### Bus responses and outputs -/

/-- How the last register access ended (R634, R640). -/
inductive Resp where
  | none
  | done
  | data (w : Word)
  | busError (cause : BitVec 3)
  | completerAbort
  | accessFault
  /-- The shelf bus is off (SHELF_EN 0), so the cycle is ignored. -/
  | ignored
deriving DecidableEq, Repr

/-- An upstream control message (R243, R244), its body as bytes. -/
structure UMsg where
  tid   : BitVec 12
  type  : BitVec 8
  param : BitVec 4
  seq   : BitVec 8
  body  : List Byte
deriving DecidableEq, Repr

/-- A burst header (R282): TID, grant stream, upstream frame, KIND, PF, LONG, backlog exponent and mantissa. -/
structure BurstHdr where
  tid   : BitVec 12
  gs    : Nat
  frame : Nat
  kind  : Nat
  pf    : Bool
  long  : Bool
  exp   : Nat
  mant  : Nat
deriving DecidableEq, Repr

/-- A PAM4 level (R278). -/
inductive Level where
  | lowerOuter | lowerInner | upperInner | upperOuter
deriving DecidableEq, Repr

/-- The PMBus commands that the device sends (R598): a read of VOUT_MODE, VOUT_TRANSITION_RATE with mV/µs, VOUT_COMMAND with mV,
OPERATION. -/
inductive PmbCmd where
  | voutMode
  | rate (mv : Nat)
  | vout (mv : Int)
  | operation (on : Bool)
deriving DecidableEq, Repr

/-- What leaves the device. -/
inductive Out where
  /-- An MSI-X message: address and data of the vector (R638, R639). -/
  | msix (vec : Nat) (addr : Nat) (data : Word)
  /-- A burst on channel `c`: its header, first word and length (R277, R282). -/
  | burst (c : Chan) (h : BurstHdr) (start len : Nat)
  /-- The levels on the pairs of channel `c` over the words of a burst, from word START on (R277-R281). -/
  | levels (c : Chan) (ls : List Level)
  /-- The first word of a test pattern that the transmitter of channel `c` begins to send (R302). -/
  | test (c : Chan) (pattern : Nat) (ls : List Level)
  /-- An upstream control message in a burst of channel `c`. -/
  | message (c : Chan) (m : UMsg)
  /-- A packet or fragment: channel, grant stream, handle, byte range, last fragment. -/
  | fragment (c : Chan) (gs : Nat) (hdl : Nat) (ofs len : Nat) (eop : Bool)
  /-- An idle fragment. -/
  | idleFragment (c : Chan)
  /-- A tributary container. -/
  | container (c : Chan) (bytes : List Byte)
  /-- A row of a tributary lane: its number, slots, overhead byte, row CRC, status byte (R219). -/
  | row (l : Fin 48) (row : Nat) (slots : List SlotChar) (oh crc status : Byte)
  /-- A packet leaves on an Ethernet port. -/
  | frame (e : EthPort) (hdl : Nat)
  /-- A flow-control frame: on (XOFF) or off, for a priority vector (PFC) or all (PAUSE). -/
  | pause (e : EthPort) (xoff : Bool) (pfc : Option (BitVec 8)) (quanta : BitVec 16)
  /-- A frame ended with an inverted FCS (R499). -/
  | badFcs (e : EthPort)
  /-- Jam of a collision (R502). -/
  | jam (p : Fin 8)
  /-- A burst write of a DDR5 channel: subchannel, line of the channel, sixteen beats of four DQ bytes and one CB byte (R411). -/
  | dram (ch : Chan) (sub : Nat) (line : Nat) (beats : List (List Byte))
  /-- Clause-22 management frame. -/
  | mdio (w : Word)
  /-- A PMBus command to the line or the fabric regulator, at its address, with PEC (R598). -/
  | pmbus (line : Bool) (addr : BitVec 7) (cmd : PmbCmd)
  /-- An I2C transaction of the optics master. -/
  | i2c (w : Word) (data : List Byte)
  /-- A flash operation of a host: OP, address, length. -/
  | flash (op : Nat) (addr len : Nat)
  | i2cClear
  /-- A flash page program of log records: its address and bytes (R579, R580). -/
  | logProgram (addr : Nat) (data : List Byte)
  /-- The erase of the log sector at an address (R581). -/
  | logErase (addr : Nat)
  /-- A 1PPS edge, an 8 kHz edge, a time-of-day message (R537, R539). -/
  | pps
  | frameSync
  | tod (bytes : List Byte)
deriving DecidableEq, Repr

/-! ### The Seam -/

/-- SEAM_STAT.STATE (R687). -/
inductive SeamPhase where
  | down | training | up | stopped
deriving DecidableEq, Repr

/-- A message of the commit class (R12). -/
inductive CmtMsg where
  | prepare (tag : BitVec 8) (ws : SMap Word)
  | prepared (tag : BitVec 8)
  | abortOff (tag : BitVec 8)
  | apply (tag : BitVec 8)
  | abort (tag : BitVec 8)
deriving DecidableEq, Repr

/-- An event record: source, die, stamp (R570). -/
structure EvRec where
  src   : Nat
  line  : Bool
  stamp : Nat
deriving DecidableEq, Repr

/-- The line die's part of a group that it holds prepared (R64), and whether it has carried out APPLY. -/
structure Prep where
  tag     : BitVec 8
  writes  : SMap Word
  applied : Bool
deriving DecidableEq, Repr

/-- The Seam: its state, the locks of the receive lanes of each die, the failed replays of the flit in check in each
direction (R16), the commit-class messages in flight, the decisions that the fabric die resends (R68), the prepared
parts of the line die, the event records that the line die holds and how many it discarded (R572); `bringUp`: the boot's bring-up of step B1
has not yet ended (R624). -/
structure Seam where
  phase     : SeamPhase := .down
  lost      : Bool := false
  lockLine  : BitVec 16 := 0
  lockFab   : BitVec 16 := 0
  failLine  : Nat := 0
  failFab   : Nat := 0
  toLine    : List CmtMsg := []
  toFab     : List CmtMsg := []
  decisions : List CmtMsg := []
  preps     : List Prep := []
  held      : List EvRec := []
  heldLost  : Nat := 0
  bringUp   : Bool := true
deriving DecidableEq, Repr

/-! ### Commit groups -/

/-- SLOTn.STATE (R71). -/
inductive SlotSt where
  | free | opened | preparing | applying | applied | aborted
deriving DecidableEq, Repr

/-- A commit slot: its state, tag, flags and cause, the staged writes by storage key, the parts that
have switched, and the pages that have not yet applied. -/
structure Slot where
  st       : SlotSt := .free
  tag      : BitVec 8 := 0
  overflow : Bool := false
  cause    : BitVec 4 := 0
  writes   : SMap Word := []
  switched : List ApplyUnit := []
  pages    : List Nat := []
deriving DecidableEq, Repr

/-- A commit marker that has reached the parse stage of its pipeline: its group, its place in the order of the pipeline
and the stages it has passed (R50-R53). -/
structure Marker where
  tag    : BitVec 8
  pipe   : Fin 4
  ord    : Nat
  passed : Nat
deriving DecidableEq, Repr

/-- CMT: the slots, the markers that wait to enter each pipeline in the order of the apply decisions (R55), and the
markers in the pipelines. -/
structure Cmt where
  slots   : Vector Slot 4 := Vector.replicate 4 {}
  waiting : List (BitVec 8 × Fin 4) := []
  markers : List Marker := []
deriving DecidableEq, Repr

/-! ### Ownership, presence, the seal -/

/-- OWN_STAT.STATE (R85). -/
inductive ThimbleSt where
  | vacant | held | releasing
deriving DecidableEq, Repr

/-- OWN: the thimble, the election, the windows, the debounced PRESENCE_N (`seenHigh`: R93 has seen it high since reset;
`counting`: a debounced fall has started the count of R93, `pressed`: its 3 s have passed), the seal loop (`hits` and `misses`: the
bits that matched, up to 64, and the mismatches in a row, `matchSeen`: a bit has matched since the last break; `matched64` and `cleared`:
the two conditions of R98 since the last break). -/
structure Own where
  st        : ThimbleSt := .vacant
  holder    : BitVec 2 := 3
  target    : BitVec 2 := 0
  elected   : Bool := false
  present   : BitVec 3 := 0
  cand      : BitVec 3 := 0
  timed     : Bool := false
  presWin   : Bool := false
  forceWin  : Bool := false
  stuck     : Bool := false
  levelHigh : Bool := false
  seenHigh  : Bool := false
  counting  : Bool := false
  pressed   : Bool := false
  sealUse   : Bool := false
  sealOk    : Bool := false
  broken    : Bool := false
  armed     : Bool := false
  hits      : Nat := 0
  misses    : Nat := 0
  matchSeen : Bool := true
  matched64 : Bool := false
  cleared   : Bool := false
  lfsr      : BitVec 8 := 0xFF
deriving DecidableEq, Repr

/-! ### Events and the error log -/

/-- The event tree: the last stamp of each source and the record ring (R569, R570). -/
structure Evt where
  stamps : SMap Nat := []
  ring   : List EvRec := []
deriving DecidableEq, Repr

/-- An error-log record (R579). -/
structure LogRec where
  seq  : Nat
  cls  : Nat
  page : Nat
  time : Nat
  body : List Byte
deriving DecidableEq, Repr

/-- The error log: the next SEQ, the buffer, the record slots of the flash ring, oldest first (`none`: a slot whose
program failed), the slot of the oldest, how many records the page program in progress writes and whether it is the second attempt (R580, R581),
a record lost by flash, and the power-fail state of PF_STAT. -/
structure Log where
  seq      : Nat := 0
  buf      : List LogRec := []
  flash    : List (Option LogRec) := []
  head     : Nat := 0
  writing  : Nat := 0
  retried  : Bool := false
  flashErr : Bool := false
  pf       : Bool := false
  flushed  : Bool := false
  late     : Bool := false
deriving DecidableEq, Repr

/-! ### Control cores and the dispatcher -/

/-- The state of a work item (R550). -/
inductive ItemSt where
  | off | waiting | ready
  | running (core : Fin 8)
deriving DecidableEq, Repr

/-- A work item's state: its flags, the flags consumed at its take, the cancel mark and the move to OFF that waits for
DONE or YIELD. -/
structure Item where
  st        : ItemSt := .off
  flags     : Word := 0
  consumed  : Word := 0
  cancelled : Bool := false
  offAtEnd  : Bool := false
deriving DecidableEq, Repr

/-- A post, or a cancel that waits behind an earlier post of its requester (R554): `src` is the event source. -/
structure Post where
  item   : BitVec 12
  flag   : BitVec 5
  src    : Option Nat
  req    : Option Req
  cancel : Bool
deriving DecidableEq, Repr

/-- The dispatcher port of a core: the items it holds, the most recently taken first, its CAUSE bits, and what FLAGS
and ARG return. -/
structure Port where
  holds    : List Nat := []
  dispatch : Bool := false
  preempt  : Bool := false
  flags    : Word := 0
  arg      : Word := 0
  lastMtval : Nat := 0
  lastCause : Nat := 0
deriving DecidableEq, Repr

/-- The dispatcher: items, the 32 lists, the post queue of 256, posts stalled outside it (R553), the core ports. -/
structure Tsk where
  items   : SMap Item := []
  lists   : SMap (List Nat) := []
  queue   : List Post := []
  stalled : List Post := []
  ports   : Vector Port 8 := Vector.replicate 8 {}
deriving DecidableEq, Repr

/-- The tree-node words that a core's stores hold (R546): the node and the words. -/
structure NodeHold where
  node  : Nat
  words : List Word
deriving DecidableEq, Repr

/-- A line of a core's instruction or data cache: its address in the model's memory, whether a data cache holds it exclusively, whether it
differs from its memory, and its 64 bytes (R542). -/
structure CacheLine where
  core  : Fin 8
  instr : Bool
  addr  : Nat
  excl  : Bool
  dirty : Bool
  data  : List Byte
deriving DecidableEq, Repr

/-- The control cores beside the dispatcher: the held tree-node words of each core, the descriptors in the exception ring by position (the handle and its queue's hold),
and the lines in the caches. -/
structure Cpu where
  nodes  : Vector (Option NodeHold) 8 := Vector.replicate 8 none
  ring   : SMap Nat := []
  caches : List CacheLine := []
deriving DecidableEq, Repr

/-! ### Power, reset, self-test, host interfaces -/

/-- PWR_STAT.STATE. -/
inductive SleepSt where
  | run | doze | nap | deep
deriving DecidableEq, Repr

/-- PWR_STAT.STEP. -/
inductive WakeStep where
  | none | entering | regulator | oscillator | memory | logic
deriving DecidableEq, Repr

/-- The requests to one regulator: waiting for its acknowledgement, retries used, the commands of an attempt, and whether the contact
since the last reset or wake has been made (R598, R599). -/
structure PmbReq where
  waiting : Bool := false
  retries : Nat := 0
  cmds    : List PmbCmd := []
  met     : Bool := false
deriving DecidableEq, Repr

/-- PWR: the level in effect and the change of level (`levelFrom` to `levelTo`), a LEVEL held under R597; the requests to the
regulators; the sleep state, the step, the sleep commands that wait under R601 (the first is the one that is entering); the
level that the wake restores, whether WAKE_DONE is due, whether the sequence belongs to a reset (R617); limp; REFUSE; domains
on, waiting for power-good, and failed in this sequence; WAKE_FAIL_N low, a WAKE_FAIL that waits for the event tree (R609). -/
structure Pwr where
  levelNow  : BitVec 2 := 0
  levelTo   : BitVec 2 := 0
  levelFrom : BitVec 2 := 0
  moving    : Bool := false
  heldLevel : Option (BitVec 2) := none
  regL      : PmbReq := {}
  regF      : PmbReq := {}
  st        : SleepSt := .run
  step      : WakeStep := .none
  entries   : List SleepSt := []
  wakeLevel : BitVec 2 := 0
  waking    : Bool := false
  fromReset : Bool := false
  limp      : Bool := false
  refuse    : BitVec 3 := 0
  on        : BitVec 34 := BitVec.allOnes 34
  waitGood  : BitVec 34 := 0
  dead      : BitVec 34 := 0
  failPin   : Bool := false
  failHeld  : Bool := false
deriving DecidableEq, Repr

/-- BOOT_STAT.STATE. -/
inductive BootSt where
  | idle | loading | running | failed | held
deriving DecidableEq, Repr

/-- What the boot keeps of a boot header (R622). -/
structure BootHdr where
  allCores : Bool
  logEn    : Bool
  bist     : Bool
  imgLen   : Word
  load     : Word
  entry    : Word
  version  : Word
  logBase  : BitVec 12
  logSect  : BitVec 12
  memCfg   : List Byte
  digest   : List Byte
deriving DecidableEq, Repr

/-- RST: the cause, the straps, RESET_N low, VSEL absent, the boot (steps running and ended, the copy in use, its
header), a DEV_RST or watchdog reset that waits for the log flush (R615). -/
structure Rst where
  cause    : BitVec 3 := 1
  straps   : BitVec 5 := 0
  inReset  : Bool := false
  unpowered : Bool := false
  boot     : BootSt := .loading
  steps    : List Nat := [1]
  ended    : List Nat := []
  cause0   : BitVec 4 := 0
  cause1   : BitVec 4 := 0
  copy     : Bool := false
  noSfdp   : Bool := false
  torn     : Bool := false
  hdr      : Option BootHdr := none
  devWait  : Option (BitVec 3) := none
deriving DecidableEq, Repr

/-- BIST_STAT.STATE. -/
inductive BistSt where
  | idle | running | passed | failed | busy
deriving DecidableEq, Repr

/-- SYS: the self-test (R628): STATE, whether a test runs, and its target. -/
structure Sys where
  bist   : BistSt := .idle
  active : Bool := false
  kind   : Nat := 0
  index  : Nat := 0
deriving DecidableEq, Repr

/-- Instructions of the test access port (R653). -/
inductive Tap where
  | idcode | bypass | sample
  | other (code : Nat)
deriving DecidableEq, Repr

/-- HIF: the PCIe link, MSI-X enable and function mask of the configuration space, the messages that the PBA holds in
the order in which they became due (R639); the shelf bus: read latch (R31), write holder (R33), write buffer (R646),
BANK, read effects that the mirror does not yet show (R645), pages whose new content the mirror has not yet taken (R58);
the flash command in progress and whether it has begun (R650), the optics transaction, JTAG and the instruction of its port. -/
structure Hif where
  l0       : Bool := false
  width    : BitVec 3 := 0
  speed    : BitVec 3 := 0
  d3       : Bool := false
  msixEn   : Bool := false
  funcMask : Bool := false
  pba      : List Nat := []
  latch    : Option (Nat × BitVec 16) := none
  holder   : Option (Nat × BitVec 16) := none
  wbuf     : List (Nat × Word) := []
  bank     : Bool := false
  early    : List Nat := []
  mirPend  : List Nat := []
  flashOp  : Option (Nat × Nat × Nat) := none
  flashRun : Bool := false
  flashRes : BitVec 3 := 0
  i2cOp    : Option Word := none
  i2cRes   : BitVec 2 := 0
  jtag     : Bool := false
  tap      : Tap := .idcode
deriving DecidableEq, Repr

/-- Levels of input pins that a rule reads: OSC_READY, LOS of each channel, the 156.25 MHz
references. -/
structure Pins where
  oscReady   : Bool := true
  los        : Vector Bool 4 := Vector.replicate 4 false
  ref156     : Bool := true
deriving DecidableEq, Repr

/-- Counts of time: device time of the line and the fabric die in 2^-16 ns (R509), `flow`, device time less every step
(R459), nanoseconds of the main reference since reset (R548), the RTC with the time towards its next count in 1/64 ns
(R526), and the remainders of the line and fabric counter in 10^-12 of 2^-16 ns (R510). -/
structure Clock where
  line : Nat := 0
  fab  : Nat := 0
  flow : Nat := 0
  mono : Nat := 0
  rtc  : Nat := 0
  rtcNs : Nat := 0
  remL : Int := 0
  remF : Int := 0
deriving DecidableEq, Repr

/-! ### Packets (R339, R342, R359, R389) -/

/-- The fields of a leaf (R359). -/
structure Leaf where
  act     : Nat := 0
  qtype   : Bool := false
  queue   : Nat := 0
  polEn   : Bool := false
  policer : Nat := 0
  flow    : Nat := 0
  rcOfs   : Nat := 0
  rcEntry : Nat := 0
  tc      : Nat := 0
  cntEn   : Bool := false
  cntIdx  : Nat := 0
  ruleId  : Nat := 0
deriving DecidableEq, Repr

/-- A packet in the packet path or in a queue: its number in the model, its source, its stored length S (R390), its bytes,
its ingress stamp (R529), its place in the order of its pipeline (R341), what parsing found (R342, R349), its epoch
(R369), its leaf, why it goes to the exception queue (CAUSE of R561; 0: it does not), the mark of a FORWARD_COPY, its
buffer (R389), its queue (R391), whether a scheduler has selected it, the tag of a transmit stamp (R530), and the forced steps of
time taken before its ingress (R531). -/
structure Pkt where
  id     : Nat := 0
  src    : Nat := 0
  len    : Nat := 0
  data   : List Byte := []
  stamp  : Nat := 0
  ord    : Nat := 0
  pass   : Nat := 0
  fb     : Bool := false
  deep   : Bool := false
  mal    : Bool := false
  frag   : Bool := false
  pf     : BitVec 4 := 0
  key    : List Byte := List.replicate 64 0
  hdrs   : List (Nat × Nat) := []
  epoch  : Option (Fin 16) := none
  leaf   : Leaf := {}
  flowId : Nat := 0
  exc    : Nat := 0
  copy   : Bool := false
  hdl    : Option Nat := none
  queue  : Nat := 0
  sel    : Bool := false
  tsTag  : Option Nat := none
  steps  : Nat := 0
deriving DecidableEq, Repr

/-! ### LRX (chapter 4) -/

/-- RX_STAT.STATE (R109). -/
inductive RxSt where
  | off | waitLight | acquire | track | held | doze
deriving DecidableEq, Repr

/-- CAL_STAT.STATE. -/
inductive CalSt where
  | idle | waiting | running | done | refused | aborted
deriving DecidableEq, Repr

/-- The factory set of R117. -/
def factorySet : Adapt := ⟨150, 8, (List.range 31).map (fun i => if i = 8 then 0x0FF else 0), 0⟩

/-- A receive chain: its state, PLANNED, the detector, CDR_LOCK, the adaptive state and the trained defaults; `past`: the adaptive
states that blocks of the last 160 ns replaced, newest first, with the time of each (R114); `frozen`: a detection has frozen the gain
(R125); when the held state's age began and when a doze began (nanoseconds of the main reference), the group of the multiframe at
which a planned hold or a doze began, how many groups its dark span or its run has, and the dark groups, counted from 0, in which a
calibration step ran (R126, R128, R136); GRID_MISMATCH of the present hold, the calibration pass, the trims in effect by step and
those that wait for the next group boundary (R139), and whether LQ_LOW and RATE_OOR may be raised again. -/
structure Rx where
  st       : RxSt := .off
  planned  : Bool := false
  armed    : Bool := false
  openS    : Bool := false
  lock     : Bool := false
  cur      : Adapt := factorySet
  dflt     : Adapt := factorySet
  defValid : Bool := false
  past     : List (Nat × Adapt) := []
  frozen   : Bool := false
  ageFrom  : Nat := 0
  dozeAt   : Nat := 0
  start    : Nat := 0
  span     : Nat := 0
  calGrps  : List Nat := []
  mismatch : Bool := false
  cal      : CalSt := .idle
  calSteps : Nat := 0
  trims    : SMap Word := []
  trimWait : Option (Nat × Word) := none
  lqLow    : Bool := false
  rateOor  : Bool := false
deriving DecidableEq, Repr

/-! ### DSF (chapter 5) -/

/-- CHn_STAT.STATE (R160). -/
inductive DsSt where
  | off | hunt | confirm | aligned | coast | verify
deriving DecidableEq, Repr

/-- A candidate of the search: its position, its confirmations, and the FRAME_CNT of its last header (R157, R158). -/
structure Cand where
  pos  : Nat
  conf : Nat
  fc   : Nat
deriving DecidableEq, Repr

/-- MAP_STATE. -/
inductive MapSt where
  | unknown | valid | darkTail
deriving DecidableEq, Repr

/-- A packet in reassembly (R309): its bytes, its ingress stamp, the forced steps taken before it; `bad`: its fragments are
discarded. -/
structure Reasm where
  data  : List Byte := []
  stamp : Nat := 0
  steps : Nat := 0
  bad   : Bool := false
deriving DecidableEq, Repr

/-- The deframer of a channel: state, PLANNED, ERR_RUN, candidates; the last accepted FRAME_CNT, the frames since, and
whether the next one is the first after a move into HUNT (R167); `grid`: the line place of a frame's first symbol (R145, R159),
`seed`: the FRAME_CNT that descrambles the frame in progress (R154, R156); `past`: the frame counts of the frames up to it, newest first
(R252); the group decoded last, whether it is whole, whether the
rest of it is discarded, its information stream and the place in it of the next fragment header (R185), whether the frame is one that
R164 delivers, and whether its group 0 may carry control messages (R236), with the message slots of that group 0 and CTRL_USED; the
multiframe (R170); the thatch map in
force, the sections gathered, what their headers said and whether R175 has failed, DARK_TAIL multiframes left;
the label under acceptance, the accepted label, HEAD_ID; CAUSE; the counts of R184 (codewords decoded, and those of them that are
correctable); the times of the last valid
headers (R165); packets in reassembly by terminal ID. -/
structure Dsf where
  st      : DsSt := .off
  planned : Bool := false
  run     : Nat := 0
  cands   : List Cand := []
  fc      : Option Nat := none
  since   : Nat := 0
  fresh   : Bool := true
  grid    : Nat := 0
  seed    : Nat := 0
  past    : List Nat := []
  grp     : Nat := 0
  grpOk   : Bool := false
  grpDead : Bool := false
  info    : List Byte := []
  at_     : Nat := 0
  deliver : Bool := false
  ctrl    : Bool := false
  slots   : List Byte := []
  used    : BitVec 36 := 0
  mfAl    : Bool := false
  mfIdx   : Option Nat := none
  hdrMf   : Nat := 0
  map     : MapSt := .unknown
  entries : List MapEntry := []
  secs    : SMap (List MapEntry) := []
  said    : Option (Nat × Nat) := none
  lastSec : Nat := 0
  bad     : Bool := false
  tail    : Nat := 0
  pslCand : Nat := 0
  pslRun  : Nat := 0
  psl     : Option Nat := none
  head    : Option Nat := none
  cause   : BitVec 12 := 0
  berBits : Nat := 0
  berCws  : Nat := 0
  berAll  : Nat := 0
  berHigh : Bool := false
  times   : List (Nat × Nat) := []
  reasm   : SMap Reasm := []
deriving DecidableEq, Repr

/-! ### TRB (chapter 6) -/

/-- HUNT, CHECK or SYNC (R220). -/
inductive RowSt where
  | hunt | check | sync
deriving DecidableEq, Repr

/-- A tributary lane: row alignment, the row checked last, the run of R220, the lane RDI that it sends, and the row that its
framer sends next. -/
structure RowLane where
  st    : RowSt := .hunt
  row   : Nat := 0
  run   : Nat := 0
  rdi   : Bool := false
  txRow : Nat := 0
deriving DecidableEq, Repr

/-- A signal label or status byte under acceptance (R215, R216): the accepted value, the last value received, and how many
times in a row that came. -/
structure Accept where
  value : Option Byte := none
  last  : Byte := 0
  run   : Nat := 0
deriving DecidableEq, Repr

/-- A tributary context. Mapper: phase accumulator and rate estimate, which is the bits per container period above nominal, both in 2^-32
bit, and the bits that arrived since the last container (R202), store and whether it has started (R204), SEQ of the
next container, container queue (R207), last class-4 frame sent, label and status of the lane slot, and whether the next
data byte is the first octet of a class-4 frame. Demapper: store, whether output runs (R208), the smoothed justifications and the output
rate, in 2^-32 bit per container period above nominal, the output phase in 2^-32 bit and when it was last advanced (R209, R210), the SEQ
expected (R211),
label and status from the fibre, LOC and AIS_IN, class-4 octets to send with the frame sent last and the mark due before
them. Hairpin: characters received and characters to send. The second: net justifications, rates, RATE_OOR (R205).
ST_FLAGS.LATCH. -/
structure Trib where
  acc     : Int := 0
  est     : Int := 0
  arrived : Nat := 0
  up      : List Bool := []
  started : Bool := false
  seq     : Nat := 0
  cq      : List (List Byte) := []
  upLast  : List Bool := []
  labLane : Accept := {}
  staLane : Accept := {}
  first   : Bool := false
  down    : List Bool := []
  flowing : Bool := false
  jest    : Int := 0
  rate    : Int := 0
  phase   : Int := 0
  outAt   : Nat := 0
  expect  : Option Nat := none
  labFib  : Accept := {}
  staFib  : Accept := {}
  loc     : Bool := false
  ais     : Bool := false
  frame   : List Byte := []
  last    : List Byte := []
  mark    : Bool := false
  hin     : List SlotChar := []
  hout    : List SlotChar := []
  netDown : Int := 0
  netUp   : Int := 0
  rateDown : BitVec 16 := 0
  rateUp  : BitVec 16 := 0
  oor     : Bool := false
  latch   : BitVec 9 := 0
deriving DecidableEq, Repr

/-- The PRBS generator and analyser of TEST_CTL: generator state, analyser state, and whether the analyser is in step. -/
structure TribTest where
  gen  : BitVec 15 := BitVec.allOnes 15
  ana  : BitVec 15 := 0
  sync : Bool := false
deriving DecidableEq, Repr

/-! ### ACT (chapter 7) -/

/-- ACT_STAT.STATE (R246). -/
inductive TermSt where
  | dark | listening | announcing | ranging | operating | holdover | silenced
deriving DecidableEq, Repr

/-- Activation of a channel: RANGED, EQD, a delay that waits for its frame (R255), the downstream frame at which the delay
last changed, the PROFILE in effect and one that waits for the next upstream frame (R276), the guard latch and FB_TRIP. -/
structure ActCh where
  ranged  : Bool := false
  eqd     : Nat := 0
  eqdNext : Option (Nat × Nat) := none
  eqdAt   : Option Nat := none
  prof    : Option ProfileBody := none
  profNext : Option ProfileBody := none
  trip    : Bool := false
  fb      : Bool := false
deriving DecidableEq, Repr

/-- The last message acted on of a pair of TYPE and PARAM (R238): its SEQ, when it came, and the RESULT acknowledged (none
yet for a KEY_BLOB whose job has not ended). -/
structure SeqRec where
  type   : Nat
  param  : BitVec 4
  seq    : BitVec 8
  at_    : Nat
  result : Option Nat
deriving DecidableEq, Repr

/-- ACT: the terminal state, PLANNED, the ID, the ranging channel, the length of the hold timer, the upstream SEQ counter, ANN_CNT, the upstream message
queue, the messages acted on, SIL_STAT, the channels. -/
structure Act where
  st      : TermSt := .dark
  planned : Bool := false
  tid     : Option (BitVec 12) := none
  rangeCh : Chan := 0
  holdMs  : Nat := 6000
  seq     : BitVec 8 := 0
  annCnt  : BitVec 8 := 0
  umsgs   : List UMsg := []
  seqs    : List SeqRec := []
  silenced : Bool := false
  emerg   : Bool := false
  fromLog : Bool := false
  reason  : BitVec 8 := 0
  ch      : Vector ActCh 4 := Vector.replicate 4 {}
deriving DecidableEq, Repr

/-! ### UPB, LTX (chapter 8) -/

/-- KIND of a burst header (R282). -/
inductive BurstKind where
  | data | announce | rangeResp
deriving DecidableEq, Repr

/-- An entry of the grant table (R273), or a scheduled ANNOUNCE or RANGE_RESP burst with its PRE_EQD (R254). -/
structure Grant where
  kind  : BurstKind
  frame : Nat
  e     : GrantEntry
  pre   : Nat := 0
deriving DecidableEq, Repr

/-- A burst whose content is fixed: its grant, its header, the PROFILE that governs it, the control messages and containers that it
carries, the bytes left for packet fragments, whether LATE_DATA has been raised in it, the index and the bytes of the key that serves
it, the copy of the grant-stream map under which it is built (R298), the information stream as far as it is built (R284), and the
packets that it may not take since their restart (R292). -/
structure Burst where
  g     : Grant
  h     : BurstHdr
  prof  : ProfileBody
  msgs  : List UMsg
  conts : List (Nat × List Byte)
  room  : Nat
  late  : Bool := false
  key   : Option (Bool × List Byte) := none
  copy  : Nat := 0
  stream : List Byte := []
  barred : List Nat := []
deriving DecidableEq, Repr

/-- A packet that the builder of a channel has pulled: its grant stream, how many of its bytes have been sent, and its line-side data as
the transparent clock left them (R535). -/
structure Pulled where
  gs   : Nat
  pkt  : Pkt
  sent : Nat
  data : List Byte := []
deriving DecidableEq, Repr

/-- A granted window of the laser guard that is open (R263): its frame, and the first and last word with BURST_EN high. -/
structure Window where
  frame : Nat
  first : Int
  last  : Int
deriving DecidableEq, Repr

/-- The builder of a channel: the upstream frame in progress, with the grid and the delay at its start and the end of the last burst in
symbols from that start (R296); the grant table, the bursts that are fixed and the burst in progress, FRAG_IDX, packets pulled and not
wholly sent, packets whose EOP fragment is in the burst in progress, the open windows of the guard, oldest first. -/
structure Upb where
  frame : Option Nat := none
  grid  : Nat := 0
  eqd   : Nat := 0
  busy  : Int := 0
  gt    : List Grant := []
  fixed : List Burst := []
  cur   : Option Burst := none
  idx   : Nat := 0
  pulled : List Pulled := []
  sent  : List Pulled := []
  wins  : List Window := []
deriving DecidableEq, Repr

/-- The transmitter settings of a channel that are in effect (R301). -/
structure TxEff where
  ctl : Word := 0x80
  fir : Word := 0x800
deriving DecidableEq, Repr

/-! ### LCK, KEY (chapter 9) -/

/-- SLOT_STAT.STATE (R312). -/
inductive KeySt where
  | empty | loaded | active | retired | spent
deriving DecidableEq, Repr

/-- A key index: its state, USED, the cause of its spend, its use count, whether KEY_WARN was raised, the highest nonce used
as FC × 65,536 + FRAG_IDX, the key of 32 bytes, which no register returns (R311), and its check value (R317). -/
structure KeySlot where
  st     : KeySt := .empty
  used   : Bool := false
  cause  : Nat := 0
  count  : Nat := 0
  warned : Bool := false
  nonce  : Option Nat := none
  key    : List Byte := []
  cv     : BitVec 64 := 0
deriving DecidableEq, Repr

/-- A pending roll (R321): the index, the frame, and whether a commit group ordered it. -/
structure Roll where
  idx   : Bool
  frame : Nat
  group : Bool
deriving DecidableEq, Repr

/-- A key pair: its two indices, the check values of the keys that left it, newest first, KEY_STAT.SPENT, the pending roll,
and the former key of an upstream roll that serves the bursts of frames before the given one (R319). -/
structure Pair where
  k0    : KeySlot := {}
  k1    : KeySlot := {}
  hist  : List (BitVec 64) := []
  spent : Bool := false
  roll  : Option Roll := none
  old   : Option (Bool × Nat) := none
deriving DecidableEq, Repr

/-- Targets of an unwrap job (R328). -/
inductive KeyTarget where
  | link (pair : Fin 8) (idx : Bool)
  | memory
  | wrap
  | reserved
deriving DecidableEq, Repr

/-- An unwrap job: its target, its blob, and the header of its KEY_BLOB; a job of the owner has none. -/
structure KeyJob where
  target : KeyTarget
  blob   : List Byte
  msg    : Option MsgHdr
deriving DecidableEq, Repr

/-- KEY: the job queue, whether its head programs a fuse slot and with which key, the wrapping keys that an install has put into fuse
slots (R336; the others are `Config.fuseKey`), the fuse slots programmed and bad, consecutive failures, the length of the back-off in
seconds and whether it runs (R331), ENTROPY_OK. -/
structure Key where
  jobs    : List KeyJob := []
  fusing  : Bool := false
  newKey  : List Byte := []
  wraps   : SMap (List Byte) := []
  fused   : BitVec 8 := 1
  bad     : BitVec 8 := 0
  fails   : Nat := 0
  backoff : Nat := 1
  locked  : Bool := false
  entropy : Bool := true
deriving DecidableEq, Repr

/-! ### PRS and CLS (chapter 10) -/

/-- A program running on parse engine `no` over the packet in front of it: the copy of program memory, C, E, H, A, B, PC
and the instructions executed (R344, R347). -/
structure Engine where
  no    : Fin 128
  copy  : Nat
  c     : Nat
  e     : Nat
  h     : Nat
  a     : BitVec 16
  b     : BitVec 16
  pc    : Nat
  steps : Nat
deriving DecidableEq, Repr

/-- What a packet in the parse stage waits for: its program, the fixed-offset extractor, or the packets ahead of it. -/
inductive ParseSt where
  | engine (e : Engine)
  | extract
  | ended
deriving DecidableEq, Repr

/-- A packet in the parse stage. -/
structure ParseSlot where
  pkt : Pkt
  st  : ParseSt
deriving DecidableEq, Repr

/-- What has entered a pipeline and has not reached the parse stage: packets, and commit markers between them (R50). -/
inductive Arrival where
  | pkt (p : Pkt)
  | mark (tag : BitVec 8)
deriving DecidableEq, Repr

/-- A pipeline: arrivals, the parse stage, packets that left the classifier by a RECIRC leaf, the recirculation store
(R372), and the packets before the classifier, the flow stage, the policer stage, the buffer stage and their queue; the
next place in the order of the parse stage. -/
structure Pipe where
  arr   : List Arrival := []
  parse : List ParseSlot := []
  rcOut : List Pkt := []
  rc    : List Pkt := []
  cls   : List Pkt := []
  flow  : List Pkt := []
  pol   : List Pkt := []
  buf   : List Pkt := []
  enq   : List Pkt := []
  ord   : Nat := 0
deriving DecidableEq, Repr

/-- EPOCH_STAT.STATE_e. -/
inductive EpochSt where
  | free | current | draining
deriving DecidableEq, Repr

/-- An epoch: its state, root, blocks and default node (R367). -/
structure Epoch where
  st   : EpochSt := .free
  root : Nat := 0
  base : Nat := 0
  nblk : Nat := 1
  dflt : Nat := 0
deriving DecidableEq, Repr

/-! ### BPM (chapter 11) -/

/-- A buffer: its generation, share count (0: FREE), last owner, a pending free, whether it is dead under R405, and
the source, length and priority of the received packet in it (R498). -/
structure Buf where
  gen   : BitVec 7 := 0
  count : Nat := 0
  owner : Nat := 0
  pend  : Bool := false
  dead  : Bool := false
  rx    : Option (Nat × Nat × Nat) := none
deriving DecidableEq, Repr

/-! ### MEM, ECC, MXE (chapter 12) -/

/-- MEM_STAT.STATE. -/
inductive MemSt where
  | off | training | up | withdrawn | selfRefresh
deriving DecidableEq, Repr

/-- A DDR5 channel: its state, FAIL_STEP, capacity in GiB, eave line, EAVE.DONE, whether the training in progress
repeats eye training only (R443), and a training that waits for the entropy source (R436). -/
structure MemCh where
  st      : MemSt := .off
  fail    : BitVec 4 := 0
  gib     : Nat := 0
  eave    : Nat := 0
  done    : Bool := false
  eyeOnly : Bool := false
  want    : Bool := false
  cap     : Nat := 0
deriving DecidableEq, Repr

/-- An entry of the tracking table (R428), with its place in the order of entry. -/
structure Track where
  bank  : Bool
  page  : Nat
  count : Nat
  born  : Nat
deriving DecidableEq, Repr

/-- ECC: the tracking table, the lines and words whose uncorrectable error is recorded (R429), retired pages and banks,
the entries of the retirement list, the command in progress (an append or a clear) and its requester, RET_STAT.RESULT, the LAST
record body. -/
structure Ecc where
  track   : List Track := []
  born    : Nat := 0
  ueSeen  : List MemPlace := []
  pages   : List Nat := []
  banks   : List Nat := []
  list    : Nat := 0
  append  : Bool := false
  clear   : Bool := false
  src     : Nat := 0
  result  : BitVec 3 := 0
  last    : List Byte := List.replicate 24 0
deriving DecidableEq, Repr

/-- MXE: the key generation, the pair (K1, K2) in use, once the entropy source has given one (R436), the next pair held and where it and
the current pair came from, the pass running, its pointers and the channels it has passed (R435-R440), ENTROPY_OK. -/
structure Mxe where
  kgen      : Nat := 0
  cur       : Option (List Byte × List Byte) := none
  next      : Option (List Byte × List Byte) := none
  nextWrap  : Bool := false
  curWrap   : Bool := false
  running   : Bool := false
  ptr       : Vector Nat 4 := Vector.replicate 4 0
  passed    : Vector Bool 4 := Vector.replicate 4 false
  entropyOk : Bool := false
deriving DecidableEq, Repr

/-! ### SCH, SHP, POL, GAT (chapter 13) -/

/-- Whose turn it is at a scheduler, and how often the queue has been selected in it (R454). -/
structure Turn where
  queue : Nat := 0
  count : Nat := 0
deriving DecidableEq, Repr

/-- The credit of a shaper or policer, in units of 2^-16 x 10^-9 packet, and the time of its last update on the clock of
R459. -/
structure Credit where
  c  : Int := 0
  at_ : Nat := 0
deriving DecidableEq, Repr

/-- A copy of a gate list (R465): LEN, CYCLE_NS, PHASE_NS and the entries that differ from (INTERVAL 1, GATES 0xFFFF). -/
structure GateList where
  len     : Nat := 0
  cycle   : Nat := 1000000
  phase   : Nat := 0
  entries : SMap (Nat × BitVec 16) := []
deriving DecidableEq, Repr

/-! ### BPQ, LMC (chapter 14) -/

/-- LANE_STAT.STATE. -/
inductive LaneSt where
  | off | sleep | waking | negotiate | train | sync | up | recal
deriving DecidableEq, Repr

/-- LANE_STAT.RECAL_STATE. -/
inductive RecalSt where
  | idle | waiting | running | done | refused | aborted
deriving DecidableEq, Repr

/-- What a lane does once the frame in transmission has ended (R484, R485). -/
inductive LaneTodo where
  | restart | sleep
deriving DecidableEq, Repr

/-- The transmit side of a lane or port: the frame in transmission; PAUSE and PFC in force towards the partner (R498). -/
structure Mac where
  tx   : Option Pkt := none
  xoff : Bool := false
  pfc  : BitVec 8 := 0
deriving DecidableEq, Repr

/-- A backplane lane (R485): its state, the mode and FEC in use, SIGNAL, COEF_VALID, RECAL_STATE, CAUSE, what waits for the
end of the frame in transmission, and the forced steps that its gate schedule has yet to take, in 2^-16 ns (R470). -/
structure Lane where
  st     : LaneSt := .off
  mode   : Nat := 0
  fec    : Nat := 0
  signal : Bool := false
  coef   : Bool := false
  recal  : RecalSt := .idle
  cause  : BitVec 10 := 0
  todo   : Option LaneTodo := none
  mac    : Mac := {}
  lag    : Int := 0
deriving DecidableEq, Repr

/-- A legacy port: link, speed, duplex, STEPPED, back-pressure, CAUSE, the collisions of the frame in transmission, and
whether a back-off runs (R502). -/
structure LPort where
  link    : Bool := false
  hundred : Bool := false
  full    : Bool := false
  stepped : Bool := false
  bp      : Bool := false
  cause   : BitVec 7 := 0
  tries   : Nat := 0
  backoff : Option Nat := none
  mac     : Mac := {}
deriving DecidableEq, Repr

/-! ### TIM, TCL (chapter 15) -/

/-- TIM_STAT.SERVO. -/
inductive ServoSt where
  | free | acquire | locked | holdover
deriving DecidableEq, Repr

/-- TIM_STAT.QUAL. -/
inductive QualSt where
  | invalid | coarse | good
deriving DecidableEq, Repr

/-- B_STAT.STATE. -/
inductive BSt where
  | off | acquire | locked | stale
deriving DecidableEq, Repr

/-- A forced step (R521), in 2^-16 ns of device time. -/
inductive TimeStep where
  | by_ (d : Int)
  | to_ (t : Nat)
deriving DecidableEq, Repr

/-- An entry of the follow-up table (R533): egress port, the message fields of its key, residence in 2^-16 ns. -/
structure FuEntry where
  port : Nat
  key  : List Byte
  r    : Int
deriving DecidableEq, Repr

/-- TIM and TCL: the servo, f and I in 0.001 ppb, its run count, consecutive refused samples, the device time less steps of
the last accepted sample; the time quality; a step that waits (R523); domain B: φ in 1/16 ns, ν in 0.001 ppb, its run
count and the time in ns of its last sample; what the selvedge domain recorded at the entry into Deep (R527) and its latch
RTC_FAIL; the steps taken, the newest three with it (R531); the follow-up table and the transmit stamps, oldest first; when the last 1PPS edge came (nanoseconds of the main
reference, R538) and the seconds of an edge whose time-of-day message has not been sent. -/
structure Tim where
  servo   : ServoSt := .free
  qual    : QualSt := .invalid
  f       : Int := 0
  i       : Int := 0
  run     : Nat := 0
  refused : Nat := 0
  lastAt  : Option Nat := none
  wait    : Option TimeStep := none
  srcB    : Bool := false
  b       : BSt := .off
  phi     : Int := 0
  nu      : Int := 0
  bRun    : Nat := 0
  bAt     : Option Nat := none
  deepT   : Nat := 0
  deepN   : Nat := 0
  deepI   : Int := 0
  rtcFail : Bool := false
  steps   : Nat := 0
  stepLog : List Int := []
  fu      : List FuEntry := []
  txts    : List (Nat × Nat) := []
  ppsAt   : Option Nat := none
  todDue  : Option Nat := none
deriving DecidableEq, Repr

/-! ### The machine -/

/-- What the registers of the line die show of it while it has no power (R36, R604). -/
structure Dark where
  tribs : SMap Trib
  rows  : Vector RowLane 48
  ttest : TribTest
  upb   : Vector Upb 4
  key   : Key
  held  : List EvRec
deriving DecidableEq, Repr

/-- The state of the block: the registers (those that differ from their reset values), the counter values that
CNT_HOLD has frozen (R38), the shelf-bus mirror (R644), memory (cells that do not hold zero), the blocks, the running timers with
the main-reference time at which each started (`Sys2Proof.Machine.T`; the Seam's bring-up and the election run at reset), and the
model's own fields: the queue of commands, the last bus response, what has left the device (newest first) and the
counter of free values. -/
structure State where
  regs    : SMap Word := []
  shown   : SMap Word := []
  mirror  : SMap Word := []
  mem     : List Host.Cell := []
  seam    : Seam := {}
  cmt     : Cmt := {}
  own     : Own := {}
  nextPkt : Nat := 0
  rx      : Vector Rx 4 := Vector.replicate 4 {}
  dsf     : Vector Dsf 4 := Vector.replicate 4 {}
  tmap    : SMap Nat := []
  tribs   : SMap Trib := []
  tfrags  : Vector (List (List Byte)) 4 := Vector.replicate 4 []
  rows    : Vector RowLane 48 := Vector.replicate 48 {}
  ttest   : TribTest := {}
  act     : Act := {}
  upb     : Vector Upb 4 := Vector.replicate 4 {}
  restarts : List (Nat × Pkt) := []
  gsm     : SMap Nat := []
  txEff   : Vector TxEff 4 := Vector.replicate 4 {}
  pairs   : Vector Pair 8 := Vector.replicate 8 {}
  key     : Key := {}
  dark    : Option Dark := none
  pipes   : Vector Pipe 4 := Vector.replicate 4 {}
  epochs  : Vector Epoch 16 := Vector.replicate 16 {}
  prog    : SMap Word := []
  rcnt    : SMap Nat := []
  rcntHeld : Option (SMap Nat) := none
  excWait : List Pkt := []
  bufs    : SMap Buf := []
  bufRot  : Vector (Fin 4) 8 := Vector.replicate 8 0
  qmap    : SMap Nat := []
  memch   : Vector MemCh 4 := Vector.replicate 4 {}
  ecc     : Ecc := {}
  mxe     : Mxe := {}
  queues  : SMap (List Pkt) := []
  turns   : SMap Turn := []
  elig    : SMap Bool := []
  shapers : SMap Credit := []
  policers : SMap Credit := []
  gates   : SMap GateList := []
  gateBusy : List (Fin 48) := []
  lanes   : Vector Lane 48 := Vector.replicate 48 {}
  lports  : Vector LPort 8 := Vector.replicate 8 {}
  mdio    : Option Word := none
  tim     : Tim := {}
  evt     : Evt := {}
  log     : Log := {}
  tsk     : Tsk := {}
  cpu     : Cpu := {}
  pwr     : Pwr := {}
  rst     : Rst := {}
  sys     : Sys := {}
  hif     : Hif := {}
  pins    : Pins := {}
  clock   : Clock := {}
  timers  : List (Nat × Nat) := [(0, 0), (3, 0)]
  pending : List Instr := []
  resp    : Resp := .none
  out     : List Out := []
  fresh   : Nat := 0
deriving DecidableEq, Repr

/-- The machine right after reset: every field at the value that its rule states, and the values of log entries 1 to 5
where the spec states none. -/
def State.reset : State := {}

end Sys2Proof.Machine
end

