-- ==== Sys2Proof/Machine/Map.lean ====
section
/-! DEFINITION. Operations on maps in canonical form. -/

namespace Sys2Proof.Machine

/-- The entry at `k`; `d` where none is listed. -/
def mapGet {α : Type} (d : α) : SMap α → Nat → α
  | [], _ => d
  | (k', v) :: m, k => if k = k' then v else mapGet d m k

/-- Removes the entry at `k`. -/
def mapDel {α : Type} (m : SMap α) (k : Nat) : SMap α := m.filter (fun e => decide (e.1 ≠ k))

/-- Lists `v` at `k`. -/
def mapIns {α : Type} : SMap α → Nat → α → SMap α
  | [], k, v => [(k, v)]
  | (k', v') :: m, k, v =>
    if k = k' then (k, v) :: m else if k < k' then (k, v) :: (k', v') :: m else (k', v') :: mapIns m k v

/-- Writes `v` at `k`; the default value `d` leaves no entry. -/
def mapPut {α : Type} [DecidableEq α] (d : α) (m : SMap α) (k : Nat) (v : α) : SMap α :=
  if v = d then mapDel m k else mapIns m k v

/-- Canonical form: keys strictly rising from above `lo`, no entry that equals the default value of its key. -/
def mapWfFrom {α : Type} [DecidableEq α] (d : Nat → α) : Option Nat → SMap α → Bool
  | _, [] => true
  | lo, (k, v) :: m => (match lo with | none => true | some l => decide (l < k)) && decide (v ≠ d k) && mapWfFrom d (some k) m

/-- Canonical form of a map with default values `d`. -/
def mapWf {α : Type} [DecidableEq α] (d : Nat → α) (m : SMap α) : Bool := mapWfFrom d none m

/-- The entries whose keys are kept by `p`. -/
def mapFilter {α : Type} (p : Nat → Bool) (m : SMap α) : SMap α := m.filter (fun e => p e.1)

/-- The keys listed. -/
def mapKeys {α : Type} (m : SMap α) : List Nat := m.map Prod.fst

end Sys2Proof.Machine
end

