-- ==== Sys2Proof/Machine/Regs.lean ====
section
/-! DEFINITION. The register tables of the spec: the layout of each page, field by field, as the field tables of its
chapter give it (offset, copies and their stride, place, type, reset value, range), and names for the registers (`R`),
the fields (`F`), the pages (`P`) and the event sources (`E`). A reset value that is a strap, a pin or a fuse stands as
0 here; `resetWord` and the read functions supply it. -/

namespace Sys2Proof.Machine

/-- Types of fields (R1-R10, R38); `ctr` is an RO counter, which CNT_HOLD and CNT_CLR act on. -/
inductive FTy where
  | ro | rw | wo | w1c | w1s | rws | ctr
deriving DecidableEq, Repr

/-- One row of a field table: the offset of the register, the number of its copies and their stride, the field's lowest
bit and width, its type, its reset value, and the ends of its range (`mx` 0: the widest value). -/
structure FieldRow where
  ofs : Nat
  n   : Nat
  st  : Nat
  lo  : Nat
  w   : Nat
  ty  : FTy
  rst : Nat
  mn  : Nat
  mx  : Nat
deriving DecidableEq, Repr

/-- A field of a register: the register's storage key, the lowest bit and the width. -/
structure Fld where
  key : Nat
  lo  : Nat
  w   : Nat
deriving DecidableEq, Repr

/-- The storage key of entry `i` of a register that a selector addresses (R226, R472): the register's address in the
low 20 bits, the entry above them. -/
def idxKey (a i : Nat) : Nat := a + (i + 1) * 0x100000

def layoutHDR : List FieldRow := [
  ⟨0x000, 1, 0x4, 0, 8, .ro, 0, 0, 0⟩,
  ⟨0x000, 1, 0x4, 8, 1, .ro, 0, 0, 0⟩,
  ⟨0x000, 1, 0x4, 16, 8, .ro, 1, 0, 0⟩,
  ⟨0x004, 1, 0x4, 0, 1, .ro, 0, 0, 0⟩,
  ⟨0x004, 1, 0x4, 1, 1, .ro, 0, 0, 0⟩,
  ⟨0x004, 1, 0x4, 2, 1, .ro, 0, 0, 0⟩,
  ⟨0x004, 1, 0x4, 8, 5, .ro, 0, 0, 0⟩,
  ⟨0x004, 1, 0x4, 16, 12, .ro, 0, 0, 0⟩,
  ⟨0x008, 1, 0x4, 0, 1, .rw, 1, 0, 0⟩,
  ⟨0x008, 1, 0x4, 1, 1, .rw, 0, 0, 0⟩,
  ⟨0x008, 1, 0x4, 2, 1, .wo, 0, 0, 0⟩,
  ⟨0x00C, 1, 0x4, 0, 1, .ro, 0, 0, 0⟩,
  ⟨0x00C, 1, 0x4, 1, 1, .ro, 0, 0, 0⟩,
  ⟨0x00C, 1, 0x4, 2, 1, .ro, 0, 0, 0⟩,
  ⟨0x00C, 1, 0x4, 3, 1, .ro, 0, 0, 0⟩,
  ⟨0x00C, 1, 0x4, 4, 1, .ro, 0, 0, 0⟩,
  ⟨0x010, 1, 0x4, 0, 16, .w1c, 0, 0, 0⟩,
  ⟨0x014, 1, 0x4, 0, 16, .rw, 65535, 0, 0⟩,
  ⟨0x018, 1, 0x4, 0, 16, .ro, 0, 0, 0⟩,
  ⟨0x01C, 1, 0x4, 0, 16, .wo, 0, 0, 0⟩,
  ⟨0x020, 1, 0x4, 0, 13, .ro, 0, 0, 0⟩,
  ⟨0x024, 1, 0x4, 0, 16, .ro, 0, 0, 0⟩,
  ⟨0x024, 1, 0x4, 16, 8, .ro, 0, 0, 0⟩,
  ⟨0x028, 1, 0x4, 0, 24, .ro, 0, 0, 0⟩,
  ⟨0x028, 1, 0x4, 31, 1, .ro, 0, 0, 0⟩]

def layoutLRX_0 : List FieldRow := [
  ⟨0x040, 1, 0x4, 0, 1, .rw, 0, 0, 0⟩,
  ⟨0x040, 1, 0x4, 1, 1, .rw, 0, 0, 0⟩,
  ⟨0x040, 1, 0x4, 2, 1, .rw, 1, 0, 0⟩,
  ⟨0x044, 1, 0x4, 0, 7, .rw, 96, 48, 120⟩,
  ⟨0x044, 1, 0x4, 8, 4, .rw, 5, 3, 7⟩,
  ⟨0x044, 1, 0x4, 16, 5, .rw, 20, 14, 24⟩,
  ⟨0x044, 1, 0x4, 24, 4, .rw, 6, 2, 12⟩,
  ⟨0x048, 1, 0x4, 0, 4, .rw, 8, 4, 12⟩,
  ⟨0x048, 1, 0x4, 4, 4, .rw, 14, 10, 0⟩,
  ⟨0x048, 1, 0x4, 8, 1, .rw, 1, 0, 0⟩,
  ⟨0x048, 1, 0x4, 12, 4, .rw, 0, 0, 0⟩,
  ⟨0x048, 1, 0x4, 16, 1, .rw, 0, 0, 0⟩,
  ⟨0x048, 1, 0x4, 24, 5, .rw, 13, 10, 16⟩,
  ⟨0x04C, 1, 0x4, 0, 2, .rw, 2, 0, 0⟩,
  ⟨0x050, 1, 0x4, 0, 8, .rw, 1, 1, 0⟩,
  ⟨0x050, 1, 0x4, 8, 8, .rw, 128, 64, 224⟩,
  ⟨0x050, 1, 0x4, 16, 6, .rw, 8, 0, 63⟩,
  ⟨0x054, 1, 0x4, 0, 12, .rw, 2048, 256, 0⟩,
  ⟨0x058, 1, 0x4, 0, 7, .rw, 12, 4, 64⟩,
  ⟨0x05C, 1, 0x4, 0, 11, .rw, 1024, 512, 0⟩,
  ⟨0x05C, 1, 0x4, 12, 4, .rw, 2, 1, 0⟩,
  ⟨0x060, 1, 0x4, 0, 9, .rw, 170, 0, 0⟩,
  ⟨0x060, 1, 0x4, 24, 4, .rw, 12, 10, 14⟩,
  ⟨0x064, 1, 0x4, 0, 1, .wo, 0, 0, 0⟩,
  ⟨0x064, 1, 0x4, 1, 1, .wo, 0, 0, 0⟩,
  ⟨0x064, 1, 0x4, 2, 1, .rw, 0, 0, 0⟩,
  ⟨0x068, 1, 0x4, 0, 1, .wo, 0, 0, 0⟩,
  ⟨0x068, 1, 0x4, 1, 1, .wo, 0, 0, 0⟩,
  ⟨0x068, 1, 0x4, 2, 1, .wo, 0, 0, 0⟩,
  ⟨0x070, 1, 0x4, 0, 3, .ro, 0, 0, 0⟩,
  ⟨0x070, 1, 0x4, 3, 1, .ro, 0, 0, 0⟩,
  ⟨0x070, 1, 0x4, 4, 1, .ro, 0, 0, 0⟩,
  ⟨0x070, 1, 0x4, 5, 1, .ro, 0, 0, 0⟩,
  ⟨0x070, 1, 0x4, 6, 1, .ro, 0, 0, 0⟩,
  ⟨0x070, 1, 0x4, 7, 1, .ro, 0, 0, 0⟩,
  ⟨0x070, 1, 0x4, 8, 1, .ro, 0, 0, 0⟩]

def layoutLRX_1 : List FieldRow := [
  ⟨0x070, 1, 0x4, 12, 4, .ro, 8, 0, 0⟩,
  ⟨0x070, 1, 0x4, 16, 9, .ro, 150, 0, 0⟩,
  ⟨0x074, 1, 0x4, 0, 16, .ro, 0, 0, 0⟩,
  ⟨0x074, 1, 0x4, 16, 1, .ro, 0, 0, 0⟩,
  ⟨0x078, 1, 0x4, 0, 9, .ro, 0, 0, 0⟩,
  ⟨0x078, 1, 0x4, 16, 1, .ro, 0, 0, 0⟩,
  ⟨0x07C, 1, 0x4, 0, 4, .ro, 0, 0, 0⟩,
  ⟨0x07C, 1, 0x4, 8, 4, .ro, 0, 0, 0⟩,
  ⟨0x07C, 1, 0x4, 12, 1, .ro, 0, 0, 0⟩,
  ⟨0x080, 1, 0x4, 0, 10, .ro, 0, 0, 0⟩,
  ⟨0x080, 1, 0x4, 16, 1, .ro, 0, 0, 0⟩,
  ⟨0x084, 1, 0x4, 0, 24, .ro, 0, 0, 0⟩,
  ⟨0x084, 1, 0x4, 31, 1, .ro, 0, 0, 0⟩,
  ⟨0x088, 1, 0x4, 0, 8, .ro, 0, 0, 0⟩,
  ⟨0x088, 1, 0x4, 8, 8, .ro, 0, 0, 0⟩,
  ⟨0x088, 1, 0x4, 16, 1, .ro, 0, 0, 0⟩,
  ⟨0x088, 1, 0x4, 17, 1, .ro, 0, 0, 0⟩,
  ⟨0x08C, 1, 0x4, 0, 3, .ro, 0, 0, 0⟩,
  ⟨0x08C, 1, 0x4, 4, 7, .ro, 0, 0, 0⟩,
  ⟨0x090, 1, 0x4, 0, 32, .ctr, 0, 0, 0⟩,
  ⟨0x094, 1, 0x4, 0, 32, .ctr, 0, 0, 0⟩,
  ⟨0x098, 1, 0x4, 0, 32, .ctr, 0, 0, 0⟩,
  ⟨0x09C, 1, 0x4, 0, 32, .ctr, 0, 0, 0⟩,
  ⟨0x0A0, 1, 0x4, 0, 32, .ctr, 0, 0, 0⟩,
  ⟨0x0A4, 1, 0x4, 0, 32, .ctr, 0, 0, 0⟩,
  ⟨0x0A8, 1, 0x4, 0, 32, .ctr, 0, 0, 0⟩,
  ⟨0x0AC, 1, 0x4, 0, 32, .ctr, 0, 0, 0⟩,
  ⟨0x100, 16, 0x4, 0, 9, .ro, 0, 0, 0⟩,
  ⟨0x100, 16, 0x4, 16, 9, .ro, 0, 0, 0⟩]

/-- The field tables of page LRX. -/
def layoutLRX : List FieldRow := layoutLRX_0 ++ layoutLRX_1

def layoutLTX : List FieldRow := [
  ⟨0x040, 4, 0x10, 0, 1, .rw, 0, 0, 0⟩,
  ⟨0x040, 4, 0x10, 4, 4, .rw, 8, 0, 0⟩,
  ⟨0x044, 4, 0x10, 0, 6, .rw, 0, 0, 32⟩,
  ⟨0x044, 4, 0x10, 8, 6, .rw, 8, 0, 48⟩,
  ⟨0x048, 4, 0x10, 0, 2, .rw, 0, 0, 0⟩,
  ⟨0x04C, 4, 0x10, 0, 2, .ro, 0, 0, 0⟩,
  ⟨0x04C, 4, 0x10, 2, 1, .ro, 0, 0, 0⟩]

def layoutDSF_0 : List FieldRow := [
  ⟨0x040, 1, 0x4, 0, 3, .rw, 3, 2, 0⟩,
  ⟨0x040, 1, 0x4, 4, 4, .rw, 5, 2, 0⟩,
  ⟨0x040, 1, 0x4, 8, 3, .rw, 2, 0, 4⟩,
  ⟨0x040, 1, 0x4, 16, 8, .rw, 128, 0, 0⟩,
  ⟨0x044, 1, 0x4, 0, 16, .rw, 6000, 1, 0⟩,
  ⟨0x048, 1, 0x4, 0, 8, .rw, 1, 0, 0⟩,
  ⟨0x048, 1, 0x4, 8, 1, .rw, 1, 0, 0⟩,
  ⟨0x04C, 1, 0x4, 0, 4, .rw, 2, 1, 9⟩,
  ⟨0x04C, 1, 0x4, 8, 4, .rw, 3, 1, 0⟩,
  ⟨0x050, 4, 0x4, 0, 12, .rw, 0, 0, 4094⟩,
  ⟨0x050, 4, 0x4, 31, 1, .rw, 0, 0, 0⟩,
  ⟨0x100, 4, 0x80, 0, 3, .ro, 0, 0, 0⟩,
  ⟨0x100, 4, 0x80, 3, 1, .ro, 0, 0, 0⟩,
  ⟨0x100, 4, 0x80, 4, 2, .ro, 0, 0, 0⟩,
  ⟨0x100, 4, 0x80, 6, 3, .ro, 0, 0, 0⟩,
  ⟨0x100, 4, 0x80, 9, 1, .ro, 0, 0, 0⟩,
  ⟨0x100, 4, 0x80, 10, 4, .ro, 0, 0, 0⟩,
  ⟨0x100, 4, 0x80, 16, 12, .w1c, 0, 0, 0⟩,
  ⟨0x104, 4, 0x80, 0, 32, .ro, 0, 0, 0⟩,
  ⟨0x108, 4, 0x80, 0, 16, .ro, 0, 0, 0⟩,
  ⟨0x108, 4, 0x80, 31, 1, .ro, 0, 0, 0⟩,
  ⟨0x10C, 4, 0x80, 0, 4, .ro, 0, 0, 0⟩,
  ⟨0x10C, 4, 0x80, 8, 8, .ro, 0, 0, 0⟩,
  ⟨0x10C, 4, 0x80, 16, 16, .ro, 0, 0, 0⟩,
  ⟨0x110, 4, 0x80, 0, 4, .ro, 0, 0, 0⟩,
  ⟨0x110, 4, 0x80, 4, 16, .ro, 0, 0, 0⟩,
  ⟨0x110, 4, 0x80, 20, 8, .ro, 0, 0, 0⟩,
  ⟨0x114, 4, 0x80, 0, 4, .ro, 0, 0, 0⟩,
  ⟨0x114, 4, 0x80, 8, 4, .ro, 0, 0, 0⟩,
  ⟨0x114, 4, 0x80, 12, 1, .ro, 0, 0, 0⟩,
  ⟨0x118, 4, 0x80, 0, 32, .ctr, 0, 0, 0⟩,
  ⟨0x11C, 4, 0x80, 0, 32, .ctr, 0, 0, 0⟩,
  ⟨0x120, 4, 0x80, 0, 32, .ctr, 0, 0, 0⟩,
  ⟨0x124, 4, 0x80, 0, 32, .ctr, 0, 0, 0⟩,
  ⟨0x128, 4, 0x80, 0, 32, .ctr, 0, 0, 0⟩,
  ⟨0x12C, 4, 0x80, 0, 32, .ctr, 0, 0, 0⟩]

def layoutDSF_1 : List FieldRow := [
  ⟨0x130, 4, 0x80, 0, 32, .ctr, 0, 0, 0⟩,
  ⟨0x134, 4, 0x80, 0, 32, .ctr, 0, 0, 0⟩,
  ⟨0x138, 4, 0x80, 0, 32, .ctr, 0, 0, 0⟩,
  ⟨0x13C, 4, 0x80, 0, 32, .ctr, 0, 0, 0⟩,
  ⟨0x140, 4, 0x80, 0, 32, .ctr, 0, 0, 0⟩,
  ⟨0x144, 4, 0x80, 0, 32, .ctr, 0, 0, 0⟩,
  ⟨0x148, 4, 0x80, 0, 32, .ctr, 0, 0, 0⟩,
  ⟨0x14C, 4, 0x80, 0, 32, .ctr, 0, 0, 0⟩,
  ⟨0x150, 4, 0x80, 0, 32, .ctr, 0, 0, 0⟩,
  ⟨0x154, 4, 0x80, 0, 32, .ctr, 0, 0, 0⟩,
  ⟨0x158, 4, 0x80, 0, 32, .ctr, 0, 0, 0⟩,
  ⟨0x15C, 4, 0x80, 0, 1, .wo, 0, 0, 0⟩]

/-- The field tables of page DSF. -/
def layoutDSF : List FieldRow := layoutDSF_0 ++ layoutDSF_1

def layoutTRB_0 : List FieldRow := [
  ⟨0x040, 1, 0x4, 0, 1, .rw, 0, 0, 0⟩,
  ⟨0x040, 1, 0x4, 1, 1, .rw, 1, 0, 0⟩,
  ⟨0x044, 1, 0x4, 0, 1, .rws, 0, 0, 0⟩,
  ⟨0x048, 1, 0x4, 0, 10, .rw, 0, 0, 0⟩,
  ⟨0x048, 1, 0x4, 16, 1, .rw, 0, 0, 0⟩,
  ⟨0x04C, 1, 0x4, 0, 1, .wo, 0, 0, 0⟩,
  ⟨0x04C, 1, 0x4, 1, 1, .wo, 0, 0, 0⟩,
  ⟨0x050, 1, 0x4, 0, 1, .ro, 1, 0, 0⟩,
  ⟨0x050, 1, 0x4, 1, 1, .ro, 0, 0, 0⟩,
  ⟨0x050, 1, 0x4, 2, 1, .ro, 0, 0, 0⟩,
  ⟨0x050, 1, 0x4, 16, 10, .ro, 0, 0, 0⟩,
  ⟨0x054, 1, 0x4, 0, 32, .rw, 0, 0, 0⟩,
  ⟨0x058, 1, 0x4, 0, 32, .rw, 0, 0, 0⟩,
  ⟨0x060, 1, 0x4, 0, 10, .rw, 0, 0, 0⟩,
  ⟨0x064, 1, 0x4, 0, 9, .w1c, 0, 0, 0⟩,
  ⟨0x064, 1, 0x4, 16, 9, .ro, 0, 0, 0⟩,
  ⟨0x068, 1, 0x4, 0, 16, .ro, 0, 0, 0⟩,
  ⟨0x068, 1, 0x4, 16, 16, .ro, 0, 0, 0⟩,
  ⟨0x06C, 1, 0x4, 0, 8, .ro, 0, 0, 0⟩,
  ⟨0x06C, 1, 0x4, 8, 8, .ro, 0, 0, 0⟩,
  ⟨0x070, 1, 0x4, 0, 32, .ctr, 0, 0, 0⟩,
  ⟨0x074, 1, 0x4, 0, 32, .ctr, 0, 0, 0⟩,
  ⟨0x078, 1, 0x4, 0, 32, .ctr, 0, 0, 0⟩,
  ⟨0x07C, 1, 0x4, 0, 32, .ctr, 0, 0, 0⟩,
  ⟨0x080, 1, 0x4, 0, 32, .ctr, 0, 0, 0⟩,
  ⟨0x084, 1, 0x4, 0, 32, .ctr, 0, 0, 0⟩,
  ⟨0x088, 1, 0x4, 0, 32, .ctr, 0, 0, 0⟩,
  ⟨0x08C, 1, 0x4, 0, 32, .ctr, 0, 0, 0⟩,
  ⟨0x090, 1, 0x4, 0, 32, .ctr, 0, 0, 0⟩,
  ⟨0x094, 1, 0x4, 0, 32, .ctr, 0, 0, 0⟩,
  ⟨0x098, 1, 0x4, 0, 32, .ctr, 0, 0, 0⟩,
  ⟨0x09C, 1, 0x4, 0, 32, .ctr, 0, 0, 0⟩,
  ⟨0x0A0, 1, 0x4, 0, 32, .ctr, 0, 0, 0⟩,
  ⟨0x0A4, 1, 0x4, 0, 10, .rw, 0, 0, 0⟩,
  ⟨0x0A4, 1, 0x4, 10, 1, .rw, 0, 0, 0⟩,
  ⟨0x0A4, 1, 0x4, 11, 1, .rw, 0, 0, 0⟩]

def layoutTRB_1 : List FieldRow := [
  ⟨0x0A4, 1, 0x4, 16, 1, .ro, 0, 0, 0⟩,
  ⟨0x0A8, 1, 0x4, 0, 32, .ctr, 0, 0, 0⟩,
  ⟨0x0AC, 1, 0x4, 0, 32, .ro, 0, 0, 0⟩,
  ⟨0x0B0, 1, 0x4, 0, 16, .ro, 0, 0, 0⟩,
  ⟨0x0B4, 1, 0x4, 0, 6, .rw, 0, 0, 0⟩,
  ⟨0x0B8, 1, 0x4, 0, 32, .ctr, 0, 0, 0⟩,
  ⟨0x100, 32, 0x4, 0, 32, .w1c, 0, 0, 0⟩]

/-- The field tables of page TRB. -/
def layoutTRB : List FieldRow := layoutTRB_0 ++ layoutTRB_1

def layoutACT_0 : List FieldRow := [
  ⟨0x040, 1, 0x4, 0, 1, .rw, 0, 0, 0⟩,
  ⟨0x040, 1, 0x4, 1, 1, .rw, 1, 0, 0⟩,
  ⟨0x044, 1, 0x4, 0, 3, .ro, 0, 0, 0⟩,
  ⟨0x044, 1, 0x4, 3, 1, .ro, 0, 0, 0⟩,
  ⟨0x044, 1, 0x4, 4, 1, .ro, 0, 0, 0⟩,
  ⟨0x044, 1, 0x4, 16, 12, .ro, 4095, 0, 0⟩,
  ⟨0x048, 1, 0x4, 0, 32, .rw, 0, 0, 0⟩,
  ⟨0x04C, 1, 0x4, 0, 32, .rw, 0, 0, 0⟩,
  ⟨0x050, 1, 0x4, 0, 16, .rw, 10000, 100, 0⟩,
  ⟨0x050, 1, 0x4, 16, 16, .rw, 1000, 10, 0⟩,
  ⟨0x054, 1, 0x4, 0, 16, .rw, 6000, 100, 0⟩,
  ⟨0x054, 1, 0x4, 16, 16, .rw, 250, 20, 0⟩,
  ⟨0x058, 1, 0x4, 0, 4, .rw, 15, 0, 0⟩,
  ⟨0x05C, 1, 0x4, 0, 4, .ro, 0, 0, 0⟩,
  ⟨0x05C, 1, 0x4, 4, 4, .ro, 0, 0, 0⟩,
  ⟨0x05C, 1, 0x4, 8, 4, .ro, 0, 0, 0⟩,
  ⟨0x05C, 1, 0x4, 12, 2, .ro, 0, 0, 0⟩,
  ⟨0x060, 4, 0x4, 0, 24, .ro, 0, 0, 0⟩,
  ⟨0x060, 4, 0x4, 31, 1, .ro, 0, 0, 0⟩,
  ⟨0x070, 1, 0x4, 0, 4, .ro, 0, 0, 0⟩,
  ⟨0x070, 1, 0x4, 4, 4, .ro, 15, 0, 0⟩,
  ⟨0x070, 1, 0x4, 8, 4, .ro, 0, 0, 0⟩,
  ⟨0x070, 1, 0x4, 12, 4, .ro, 0, 0, 0⟩,
  ⟨0x074, 1, 0x4, 0, 4, .wo, 0, 0, 0⟩,
  ⟨0x074, 1, 0x4, 8, 4, .wo, 0, 0, 0⟩,
  ⟨0x078, 1, 0x4, 0, 1, .wo, 0, 0, 0⟩,
  ⟨0x07C, 1, 0x4, 0, 1, .ro, 0, 0, 0⟩,
  ⟨0x07C, 1, 0x4, 1, 1, .ro, 0, 0, 0⟩,
  ⟨0x07C, 1, 0x4, 2, 1, .ro, 0, 0, 0⟩,
  ⟨0x07C, 1, 0x4, 8, 8, .ro, 0, 0, 0⟩,
  ⟨0x080, 1, 0x4, 0, 8, .ro, 0, 0, 0⟩,
  ⟨0x080, 1, 0x4, 8, 8, .ro, 0, 0, 0⟩,
  ⟨0x080, 1, 0x4, 16, 2, .ro, 0, 0, 0⟩,
  ⟨0x080, 1, 0x4, 18, 6, .ro, 0, 0, 0⟩,
  ⟨0x084, 1, 0x4, 0, 4, .ro, 0, 0, 0⟩,
  ⟨0x088, 1, 0x4, 0, 8, .rw, 0, 0, 0⟩]

def layoutACT_1 : List FieldRow := [
  ⟨0x090, 1, 0x4, 0, 32, .ctr, 0, 0, 0⟩,
  ⟨0x094, 1, 0x4, 0, 32, .ctr, 0, 0, 0⟩,
  ⟨0x098, 1, 0x4, 0, 32, .ctr, 0, 0, 0⟩,
  ⟨0x09C, 1, 0x4, 0, 32, .ctr, 0, 0, 0⟩,
  ⟨0x0A0, 1, 0x4, 0, 32, .ctr, 0, 0, 0⟩,
  ⟨0x0A4, 1, 0x4, 0, 32, .ctr, 0, 0, 0⟩,
  ⟨0x0A8, 1, 0x4, 0, 32, .ctr, 0, 0, 0⟩,
  ⟨0x0AC, 1, 0x4, 0, 32, .ctr, 0, 0, 0⟩,
  ⟨0x0B0, 1, 0x4, 0, 32, .ctr, 0, 0, 0⟩,
  ⟨0x0B4, 1, 0x4, 0, 32, .ctr, 0, 0, 0⟩,
  ⟨0x0B8, 1, 0x4, 0, 32, .ctr, 0, 0, 0⟩,
  ⟨0x0BC, 1, 0x4, 0, 32, .ctr, 0, 0, 0⟩,
  ⟨0x100, 12, 0x4, 0, 32, .ro, 0, 0, 0⟩]

/-- The field tables of page ACT. -/
def layoutACT : List FieldRow := layoutACT_0 ++ layoutACT_1

def layoutUPB_0 : List FieldRow := [
  ⟨0x040, 1, 0x4, 0, 1, .rw, 0, 0, 0⟩,
  ⟨0x040, 1, 0x4, 1, 1, .rw, 0, 0, 0⟩,
  ⟨0x040, 1, 0x4, 8, 8, .rw, 32, 1, 0⟩,
  ⟨0x040, 1, 0x4, 16, 6, .rw, 4, 1, 60⟩,
  ⟨0x044, 1, 0x4, 0, 1, .rws, 0, 0, 0⟩,
  ⟨0x048, 1, 0x4, 0, 13, .rw, 0, 0, 0⟩,
  ⟨0x048, 1, 0x4, 16, 1, .rw, 0, 0, 0⟩,
  ⟨0x048, 1, 0x4, 17, 1, .rw, 1, 0, 0⟩,
  ⟨0x04C, 1, 0x4, 0, 10, .rw, 0, 0, 0⟩,
  ⟨0x04C, 1, 0x4, 15, 1, .rw, 0, 0, 0⟩,
  ⟨0x050, 1, 0x4, 0, 1, .wo, 0, 0, 0⟩,
  ⟨0x054, 1, 0x4, 0, 1, .ro, 1, 0, 0⟩,
  ⟨0x054, 1, 0x4, 1, 1, .ro, 0, 0, 0⟩,
  ⟨0x058, 1, 0x4, 0, 2, .rw, 0, 0, 0⟩,
  ⟨0x058, 1, 0x4, 4, 4, .rw, 0, 0, 0⟩,
  ⟨0x058, 1, 0x4, 16, 8, .rw, 0, 0, 0⟩,
  ⟨0x05C, 1, 0x4, 0, 32, .ro, 0, 0, 0⟩,
  ⟨0x060, 1, 0x4, 0, 32, .ro, 0, 0, 0⟩,
  ⟨0x064, 1, 0x4, 0, 9, .ro, 0, 0, 0⟩,
  ⟨0x068, 1, 0x4, 0, 4, .ro, 0, 0, 0⟩,
  ⟨0x068, 1, 0x4, 4, 2, .ro, 0, 0, 0⟩,
  ⟨0x068, 1, 0x4, 6, 10, .ro, 0, 0, 0⟩,
  ⟨0x068, 1, 0x4, 16, 16, .ro, 0, 0, 0⟩,
  ⟨0x06C, 1, 0x4, 0, 4, .ro, 0, 0, 0⟩,
  ⟨0x06C, 1, 0x4, 4, 4, .ro, 0, 0, 0⟩,
  ⟨0x06C, 1, 0x4, 8, 4, .ro, 0, 0, 0⟩,
  ⟨0x06C, 1, 0x4, 16, 1, .ro, 0, 0, 0⟩,
  ⟨0x070, 1, 0x4, 0, 10, .rw, 0, 0, 0⟩,
  ⟨0x074, 1, 0x4, 0, 24, .ro, 0, 0, 0⟩,
  ⟨0x074, 1, 0x4, 24, 4, .ro, 0, 0, 0⟩,
  ⟨0x100, 4, 0x40, 0, 32, .ctr, 0, 0, 0⟩,
  ⟨0x104, 4, 0x40, 0, 32, .ctr, 0, 0, 0⟩,
  ⟨0x108, 4, 0x40, 0, 32, .ctr, 0, 0, 0⟩,
  ⟨0x10C, 4, 0x40, 0, 32, .ctr, 0, 0, 0⟩,
  ⟨0x110, 4, 0x40, 0, 32, .ctr, 0, 0, 0⟩,
  ⟨0x114, 4, 0x40, 0, 32, .ctr, 0, 0, 0⟩]

def layoutUPB_1 : List FieldRow := [
  ⟨0x118, 4, 0x40, 0, 32, .ctr, 0, 0, 0⟩,
  ⟨0x11C, 4, 0x40, 0, 32, .ctr, 0, 0, 0⟩,
  ⟨0x120, 4, 0x40, 0, 32, .ctr, 0, 0, 0⟩,
  ⟨0x124, 4, 0x40, 0, 32, .ctr, 0, 0, 0⟩,
  ⟨0x128, 4, 0x40, 0, 32, .ctr, 0, 0, 0⟩,
  ⟨0x12C, 4, 0x40, 0, 32, .ctr, 0, 0, 0⟩]

/-- The field tables of page UPB. -/
def layoutUPB : List FieldRow := layoutUPB_0 ++ layoutUPB_1

def layoutLCK_0 : List FieldRow := [
  ⟨0x040, 1, 0x4, 0, 1, .rw, 0, 0, 0⟩,
  ⟨0x040, 1, 0x4, 1, 1, .rw, 0, 0, 0⟩,
  ⟨0x040, 1, 0x4, 4, 4, .rw, 0, 0, 0⟩,
  ⟨0x040, 1, 0x4, 8, 5, .rw, 31, 20, 0⟩,
  ⟨0x044, 1, 0x4, 0, 8, .ro, 0, 0, 0⟩,
  ⟨0x044, 1, 0x4, 8, 8, .ro, 0, 0, 0⟩,
  ⟨0x044, 1, 0x4, 16, 8, .ro, 0, 0, 0⟩,
  ⟨0x044, 1, 0x4, 24, 8, .ro, 0, 0, 0⟩,
  ⟨0x048, 1, 0x4, 0, 2, .rw, 0, 0, 0⟩,
  ⟨0x048, 1, 0x4, 2, 1, .rw, 0, 0, 0⟩,
  ⟨0x048, 1, 0x4, 3, 1, .rw, 0, 0, 0⟩,
  ⟨0x04C, 1, 0x4, 0, 3, .ro, 0, 0, 0⟩,
  ⟨0x04C, 1, 0x4, 3, 1, .ro, 0, 0, 0⟩,
  ⟨0x04C, 1, 0x4, 4, 3, .ro, 0, 0, 0⟩,
  ⟨0x04C, 1, 0x4, 8, 1, .ro, 1, 0, 0⟩,
  ⟨0x050, 1, 0x4, 0, 32, .ro, 0, 0, 0⟩,
  ⟨0x054, 1, 0x4, 0, 32, .ro, 0, 0, 0⟩,
  ⟨0x058, 1, 0x4, 0, 16, .ro, 0, 0, 0⟩,
  ⟨0x058, 1, 0x4, 16, 16, .ro, 0, 0, 0⟩,
  ⟨0x05C, 1, 0x4, 0, 8, .wo, 0, 0, 0⟩,
  ⟨0x05C, 1, 0x4, 8, 1, .wo, 0, 0, 0⟩,
  ⟨0x060, 1, 0x4, 0, 8, .w1c, 0, 0, 0⟩,
  ⟨0x060, 1, 0x4, 8, 8, .w1c, 0, 0, 0⟩,
  ⟨0x060, 1, 0x4, 16, 8, .w1c, 0, 0, 0⟩,
  ⟨0x060, 1, 0x4, 24, 8, .w1c, 0, 0, 0⟩,
  ⟨0x080, 8, 0x20, 0, 32, .ctr, 0, 0, 0⟩,
  ⟨0x084, 8, 0x20, 0, 32, .ctr, 0, 0, 0⟩,
  ⟨0x088, 8, 0x20, 0, 32, .ctr, 0, 0, 0⟩,
  ⟨0x08C, 8, 0x20, 0, 32, .ctr, 0, 0, 0⟩,
  ⟨0x090, 8, 0x20, 0, 32, .ctr, 0, 0, 0⟩,
  ⟨0x094, 8, 0x20, 0, 32, .ctr, 0, 0, 0⟩,
  ⟨0x098, 8, 0x20, 0, 32, .ctr, 0, 0, 0⟩,
  ⟨0x09C, 8, 0x20, 0, 32, .ctr, 0, 0, 0⟩,
  ⟨0x200, 8, 0x10, 0, 1, .rws, 0, 0, 0⟩,
  ⟨0x200, 8, 0x10, 1, 1, .rws, 0, 0, 0⟩,
  ⟨0x204, 8, 0x10, 0, 32, .rws, 0, 0, 0⟩]

def layoutLCK_1 : List FieldRow := [
  ⟨0x208, 8, 0x10, 0, 16, .rws, 0, 0, 0⟩]

/-- The field tables of page LCK. -/
def layoutLCK : List FieldRow := layoutLCK_0 ++ layoutLCK_1

def layoutKEY : List FieldRow := [
  ⟨0x040, 1, 0x4, 0, 4, .rw, 2, 0, 0⟩,
  ⟨0x040, 1, 0x4, 4, 4, .rw, 8, 0, 0⟩,
  ⟨0x040, 1, 0x4, 8, 1, .rw, 1, 0, 0⟩,
  ⟨0x040, 1, 0x4, 12, 4, .rw, 7, 0, 0⟩,
  ⟨0x044, 1, 0x4, 0, 1, .w1s, 0, 0, 0⟩,
  ⟨0x048, 1, 0x4, 0, 2, .wo, 0, 0, 0⟩,
  ⟨0x048, 1, 0x4, 4, 2, .wo, 0, 0, 0⟩,
  ⟨0x048, 1, 0x4, 6, 1, .wo, 0, 0, 0⟩,
  ⟨0x048, 1, 0x4, 7, 1, .wo, 0, 0, 0⟩,
  ⟨0x048, 1, 0x4, 8, 1, .wo, 0, 0, 0⟩,
  ⟨0x04C, 1, 0x4, 0, 4, .ro, 0, 0, 0⟩,
  ⟨0x04C, 1, 0x4, 4, 1, .ro, 0, 0, 0⟩,
  ⟨0x04C, 1, 0x4, 8, 4, .ro, 0, 0, 0⟩,
  ⟨0x050, 1, 0x4, 0, 3, .ro, 0, 0, 0⟩,
  ⟨0x050, 1, 0x4, 8, 3, .ro, 0, 0, 0⟩,
  ⟨0x050, 1, 0x4, 16, 8, .ro, 0, 0, 0⟩,
  ⟨0x054, 1, 0x4, 0, 1, .ro, 1, 0, 0⟩,
  ⟨0x054, 1, 0x4, 1, 1, .ro, 0, 0, 0⟩,
  ⟨0x054, 1, 0x4, 2, 3, .ro, 0, 0, 0⟩,
  ⟨0x054, 1, 0x4, 16, 11, .ro, 0, 0, 0⟩,
  ⟨0x060, 1, 0x4, 0, 32, .ctr, 0, 0, 0⟩,
  ⟨0x064, 1, 0x4, 0, 32, .ctr, 0, 0, 0⟩,
  ⟨0x068, 1, 0x4, 0, 32, .ctr, 0, 0, 0⟩,
  ⟨0x06C, 1, 0x4, 0, 32, .ctr, 0, 0, 0⟩,
  ⟨0x080, 18, 0x4, 0, 32, .rw, 0, 0, 0⟩]

def layoutTIM_0 : List FieldRow := [
  ⟨0x040, 1, 0x4, 0, 1, .rw, 0, 0, 0⟩,
  ⟨0x040, 1, 0x4, 1, 1, .rw, 0, 0, 0⟩,
  ⟨0x040, 1, 0x4, 2, 1, .rw, 0, 0, 0⟩,
  ⟨0x040, 1, 0x4, 4, 2, .rw, 0, 0, 0⟩,
  ⟨0x044, 1, 0x4, 0, 4, .rw, 6, 2, 12⟩,
  ⟨0x044, 1, 0x4, 8, 5, .rw, 13, 6, 24⟩,
  ⟨0x044, 1, 0x4, 16, 8, .rw, 20, 1, 0⟩,
  ⟨0x044, 1, 0x4, 24, 4, .rw, 8, 1, 0⟩,
  ⟨0x048, 1, 0x4, 0, 20, .rw, 1000, 10, 1000000⟩,
  ⟨0x048, 1, 0x4, 24, 8, .rw, 20, 4, 0⟩,
  ⟨0x04C, 1, 0x4, 0, 12, .rw, 2000, 10, 4000⟩,
  ⟨0x050, 1, 0x4, 0, 2, .ro, 0, 0, 0⟩,
  ⟨0x050, 1, 0x4, 2, 2, .ro, 0, 0, 0⟩,
  ⟨0x050, 1, 0x4, 4, 1, .ro, 0, 0, 0⟩,
  ⟨0x050, 1, 0x4, 5, 2, .ro, 0, 0, 0⟩,
  ⟨0x050, 1, 0x4, 7, 1, .ro, 0, 0, 0⟩,
  ⟨0x050, 1, 0x4, 8, 1, .ro, 0, 0, 0⟩,
  ⟨0x050, 1, 0x4, 9, 1, .ro, 0, 0, 0⟩,
  ⟨0x054, 1, 0x4, 0, 32, .ro, 0, 0, 0⟩,
  ⟨0x058, 1, 0x4, 0, 16, .ro, 0, 0, 0⟩,
  ⟨0x05C, 1, 0x4, 0, 30, .ro, 0, 0, 0⟩,
  ⟨0x060, 1, 0x4, 0, 16, .ro, 0, 0, 0⟩,
  ⟨0x064, 1, 0x4, 0, 32, .ro, 0, 0, 0⟩,
  ⟨0x068, 1, 0x4, 0, 32, .ro, 0, 0, 0⟩,
  ⟨0x06C, 1, 0x4, 0, 32, .ro, 0, 0, 0⟩,
  ⟨0x070, 1, 0x4, 0, 32, .ro, 0, 0, 0⟩,
  ⟨0x074, 1, 0x4, 0, 16, .ro, 0, 0, 0⟩,
  ⟨0x074, 1, 0x4, 31, 1, .ro, 0, 0, 0⟩,
  ⟨0x078, 1, 0x4, 0, 30, .ro, 0, 0, 0⟩,
  ⟨0x07C, 1, 0x4, 0, 1, .wo, 0, 0, 0⟩,
  ⟨0x07C, 1, 0x4, 1, 2, .wo, 0, 0, 0⟩,
  ⟨0x07C, 1, 0x4, 4, 1, .wo, 0, 0, 0⟩,
  ⟨0x07C, 1, 0x4, 5, 1, .wo, 0, 0, 0⟩,
  ⟨0x080, 1, 0x4, 0, 32, .rw, 0, 0, 0⟩,
  ⟨0x084, 1, 0x4, 0, 16, .rw, 0, 0, 0⟩,
  ⟨0x084, 1, 0x4, 31, 1, .rw, 0, 0, 0⟩]

def layoutTIM_1 : List FieldRow := [
  ⟨0x088, 1, 0x4, 0, 30, .rw, 0, 0, 999999999⟩,
  ⟨0x090, 4, 0x4, 0, 24, .rw, 0, 0, 0⟩,
  ⟨0x0A0, 4, 0x4, 0, 32, .ro, 0, 0, 0⟩,
  ⟨0x0B0, 1, 0x4, 0, 32, .ro, 0, 0, 0⟩,
  ⟨0x0B4, 1, 0x4, 0, 16, .ro, 0, 0, 0⟩,
  ⟨0x0B8, 1, 0x4, 0, 24, .ro, 0, 0, 0⟩,
  ⟨0x0B8, 1, 0x4, 31, 1, .ro, 0, 0, 0⟩,
  ⟨0x0BC, 1, 0x4, 0, 32, .ro, 0, 0, 0⟩,
  ⟨0x0C0, 1, 0x4, 0, 4, .rw, 3, 1, 12⟩,
  ⟨0x0C0, 1, 0x4, 8, 5, .rw, 8, 2, 24⟩,
  ⟨0x0C0, 1, 0x4, 16, 8, .rw, 50, 1, 0⟩,
  ⟨0x0C4, 1, 0x4, 0, 32, .rw, 0, 0, 0⟩,
  ⟨0x0C8, 1, 0x4, 0, 30, .rw, 0, 0, 0⟩,
  ⟨0x0CC, 1, 0x4, 0, 32, .rw, 0, 0, 0⟩,
  ⟨0x0D0, 1, 0x4, 0, 2, .ro, 0, 0, 0⟩,
  ⟨0x0D4, 1, 0x4, 0, 32, .ro, 0, 0, 0⟩,
  ⟨0x0D8, 1, 0x4, 0, 32, .ro, 0, 0, 0⟩,
  ⟨0x0E0, 1, 0x4, 0, 32, .ctr, 0, 0, 0⟩,
  ⟨0x0E4, 1, 0x4, 0, 32, .ctr, 0, 0, 0⟩,
  ⟨0x0E8, 1, 0x4, 0, 32, .ctr, 0, 0, 0⟩,
  ⟨0x0EC, 1, 0x4, 0, 32, .ctr, 0, 0, 0⟩,
  ⟨0x0F0, 1, 0x4, 0, 32, .ctr, 0, 0, 0⟩,
  ⟨0x0F4, 1, 0x4, 0, 32, .ctr, 0, 0, 0⟩,
  ⟨0x0F8, 1, 0x4, 0, 32, .ctr, 0, 0, 0⟩,
  ⟨0x0FC, 1, 0x4, 0, 32, .ctr, 0, 0, 0⟩]

/-- The field tables of page TIM. -/
def layoutTIM : List FieldRow := layoutTIM_0 ++ layoutTIM_1

def layoutSM : List FieldRow := [
  ⟨0x040, 1, 0x4, 0, 1, .rw, 1, 0, 0⟩,
  ⟨0x044, 1, 0x4, 0, 2, .ro, 0, 0, 0⟩,
  ⟨0x044, 1, 0x4, 2, 1, .ro, 0, 0, 0⟩,
  ⟨0x044, 1, 0x4, 16, 16, .ro, 0, 0, 0⟩,
  ⟨0x048, 1, 0x4, 0, 7, .ro, 0, 0, 0⟩,
  ⟨0x050, 1, 0x4, 0, 32, .ctr, 0, 0, 0⟩,
  ⟨0x054, 1, 0x4, 0, 32, .ctr, 0, 0, 0⟩,
  ⟨0x058, 1, 0x4, 0, 32, .ctr, 0, 0, 0⟩,
  ⟨0x05C, 1, 0x4, 0, 32, .ctr, 0, 0, 0⟩]

def layoutPRS : List FieldRow := [
  ⟨0x040, 1, 0x4, 0, 1, .rw, 0, 0, 0⟩,
  ⟨0x040, 1, 0x4, 1, 1, .rw, 0, 0, 0⟩,
  ⟨0x044, 1, 0x4, 0, 7, .rw, 64, 16, 64⟩,
  ⟨0x048, 1, 0x4, 0, 1, .rws, 0, 0, 0⟩,
  ⟨0x04C, 1, 0x4, 0, 10, .rw, 0, 0, 0⟩,
  ⟨0x04C, 1, 0x4, 16, 1, .rw, 0, 0, 0⟩,
  ⟨0x04C, 1, 0x4, 17, 1, .rw, 1, 0, 0⟩,
  ⟨0x050, 1, 0x4, 0, 1, .wo, 0, 0, 0⟩,
  ⟨0x054, 1, 0x4, 0, 1, .ro, 1, 0, 0⟩,
  ⟨0x054, 1, 0x4, 1, 1, .ro, 0, 0, 0⟩,
  ⟨0x060, 4, 0x4, 0, 32, .rw, 0, 0, 0⟩,
  ⟨0x070, 1, 0x4, 0, 32, .ro, 0, 0, 0⟩,
  ⟨0x074, 1, 0x4, 0, 3, .ro, 0, 0, 0⟩,
  ⟨0x074, 1, 0x4, 3, 10, .ro, 0, 0, 0⟩,
  ⟨0x074, 1, 0x4, 13, 6, .ro, 0, 0, 0⟩,
  ⟨0x074, 1, 0x4, 19, 2, .ro, 0, 0, 0⟩,
  ⟨0x080, 1, 0x4, 0, 32, .ctr, 0, 0, 0⟩,
  ⟨0x084, 1, 0x4, 0, 32, .ctr, 0, 0, 0⟩,
  ⟨0x088, 1, 0x4, 0, 32, .ctr, 0, 0, 0⟩,
  ⟨0x08C, 1, 0x4, 0, 32, .ctr, 0, 0, 0⟩,
  ⟨0x090, 1, 0x4, 0, 32, .ctr, 0, 0, 0⟩,
  ⟨0x094, 1, 0x4, 0, 32, .ctr, 0, 0, 0⟩,
  ⟨0x098, 1, 0x4, 0, 32, .ctr, 0, 0, 0⟩,
  ⟨0x09C, 1, 0x4, 0, 32, .ctr, 0, 0, 0⟩,
  ⟨0x0A0, 1, 0x4, 0, 32, .ctr, 0, 0, 0⟩]

def layoutCLS_0 : List FieldRow := [
  ⟨0x040, 1, 0x4, 0, 1, .rw, 0, 0, 0⟩,
  ⟨0x040, 1, 0x4, 1, 1, .rw, 0, 0, 0⟩,
  ⟨0x044, 1, 0x4, 0, 1, .rw, 0, 0, 0⟩,
  ⟨0x044, 1, 0x4, 1, 1, .rw, 0, 0, 0⟩,
  ⟨0x044, 1, 0x4, 2, 1, .rw, 0, 0, 0⟩,
  ⟨0x044, 1, 0x4, 16, 16, .rw, 0, 0, 0⟩,
  ⟨0x048, 1, 0x4, 0, 5, .rw, 10, 10, 22⟩,
  ⟨0x048, 1, 0x4, 16, 9, .rw, 0, 0, 0⟩,
  ⟨0x04C, 1, 0x4, 0, 32, .ro, 0, 0, 0⟩,
  ⟨0x050, 1, 0x4, 0, 4, .rw, 0, 0, 0⟩,
  ⟨0x054, 1, 0x4, 0, 16, .ro, 0, 0, 0⟩,
  ⟨0x054, 1, 0x4, 16, 1, .ro, 1, 0, 0⟩,
  ⟨0x058, 1, 0x4, 0, 20, .rw, 0, 0, 0⟩,
  ⟨0x058, 1, 0x4, 20, 1, .rw, 1, 0, 0⟩,
  ⟨0x05C, 1, 0x4, 0, 1, .ro, 1, 0, 0⟩,
  ⟨0x05C, 1, 0x4, 1, 1, .ro, 0, 0, 0⟩,
  ⟨0x060, 4, 0x4, 0, 32, .rw, 0, 0, 0⟩,
  ⟨0x070, 1, 0x4, 0, 24, .rw, 0, 0, 0⟩,
  ⟨0x070, 1, 0x4, 24, 1, .rw, 0, 0, 0⟩,
  ⟨0x074, 1, 0x4, 0, 1, .wo, 0, 0, 0⟩,
  ⟨0x074, 1, 0x4, 1, 1, .wo, 0, 0, 0⟩,
  ⟨0x074, 1, 0x4, 2, 1, .wo, 0, 0, 0⟩,
  ⟨0x078, 1, 0x4, 0, 1, .ro, 1, 0, 0⟩,
  ⟨0x078, 1, 0x4, 1, 1, .ro, 0, 0, 0⟩,
  ⟨0x080, 16, 0x4, 0, 32, .rw, 0, 0, 0⟩,
  ⟨0x0C0, 1, 0x4, 0, 32, .rws, 0, 0, 0⟩,
  ⟨0x0C4, 1, 0x4, 0, 32, .rws, 0, 0, 0⟩,
  ⟨0x0C8, 1, 0x4, 0, 12, .rw, 0, 0, 0⟩,
  ⟨0x0CC, 1, 0x4, 0, 32, .ro, 0, 0, 0⟩,
  ⟨0x0D0, 1, 0x4, 0, 32, .ro, 0, 0, 0⟩,
  ⟨0x100, 64, 0x4, 0, 3, .rws, 0, 0, 0⟩,
  ⟨0x200, 8, 0x10, 0, 20, .rws, 0, 0, 0⟩,
  ⟨0x204, 8, 0x10, 0, 8, .rws, 0, 0, 0⟩,
  ⟨0x204, 8, 0x10, 8, 9, .rws, 1, 1, 256⟩,
  ⟨0x208, 8, 0x10, 0, 20, .rws, 0, 0, 0⟩,
  ⟨0x300, 1, 0x4, 0, 32, .ctr, 0, 0, 0⟩]

def layoutCLS_1 : List FieldRow := [
  ⟨0x304, 1, 0x4, 0, 32, .ctr, 0, 0, 0⟩,
  ⟨0x308, 1, 0x4, 0, 32, .ctr, 0, 0, 0⟩,
  ⟨0x30C, 1, 0x4, 0, 32, .ctr, 0, 0, 0⟩,
  ⟨0x310, 1, 0x4, 0, 32, .ctr, 0, 0, 0⟩,
  ⟨0x314, 1, 0x4, 0, 32, .ctr, 0, 0, 0⟩,
  ⟨0x318, 1, 0x4, 0, 32, .ctr, 0, 0, 0⟩,
  ⟨0x31C, 1, 0x4, 0, 32, .ctr, 0, 0, 0⟩,
  ⟨0x320, 1, 0x4, 0, 32, .ctr, 0, 0, 0⟩,
  ⟨0x324, 1, 0x4, 0, 32, .ctr, 0, 0, 0⟩,
  ⟨0x328, 1, 0x4, 0, 32, .ctr, 0, 0, 0⟩,
  ⟨0x32C, 1, 0x4, 0, 32, .ctr, 0, 0, 0⟩,
  ⟨0x330, 1, 0x4, 0, 32, .ctr, 0, 0, 0⟩,
  ⟨0x334, 1, 0x4, 0, 32, .ctr, 0, 0, 0⟩,
  ⟨0x338, 1, 0x4, 0, 32, .ctr, 0, 0, 0⟩,
  ⟨0x33C, 1, 0x4, 0, 32, .ctr, 0, 0, 0⟩]

/-- The field tables of page CLS. -/
def layoutCLS : List FieldRow := layoutCLS_0 ++ layoutCLS_1

def layoutBPM_0 : List FieldRow := [
  ⟨0x040, 1, 0x4, 0, 1, .rw, 0, 0, 0⟩,
  ⟨0x044, 1, 0x4, 0, 1, .rws, 0, 0, 0⟩,
  ⟨0x048, 1, 0x4, 0, 14, .rw, 0, 0, 8991⟩,
  ⟨0x048, 1, 0x4, 16, 1, .rw, 0, 0, 0⟩,
  ⟨0x048, 1, 0x4, 17, 1, .rw, 1, 0, 0⟩,
  ⟨0x04C, 1, 0x4, 0, 5, .rw, 0, 0, 0⟩,
  ⟨0x050, 1, 0x4, 0, 1, .wo, 0, 0, 0⟩,
  ⟨0x054, 1, 0x4, 0, 1, .ro, 1, 0, 0⟩,
  ⟨0x054, 1, 0x4, 1, 1, .ro, 0, 0, 0⟩,
  ⟨0x060, 1, 0x4, 0, 3, .wo, 0, 0, 0⟩,
  ⟨0x060, 1, 0x4, 8, 8, .wo, 0, 0, 0⟩,
  ⟨0x060, 1, 0x4, 16, 3, .wo, 0, 0, 0⟩,
  ⟨0x060, 1, 0x4, 19, 1, .wo, 0, 0, 0⟩,
  ⟨0x064, 1, 0x4, 0, 32, .rw, 0, 0, 0⟩,
  ⟨0x068, 1, 0x4, 0, 8, .rw, 0, 0, 0⟩,
  ⟨0x06C, 1, 0x4, 0, 14, .rw, 0, 0, 0⟩,
  ⟨0x070, 1, 0x4, 0, 4, .ro, 0, 0, 0⟩,
  ⟨0x070, 1, 0x4, 4, 2, .ro, 0, 0, 0⟩,
  ⟨0x070, 1, 0x4, 6, 1, .ro, 0, 0, 0⟩,
  ⟨0x070, 1, 0x4, 8, 8, .ro, 0, 0, 0⟩,
  ⟨0x070, 1, 0x4, 16, 14, .ro, 0, 0, 0⟩,
  ⟨0x070, 1, 0x4, 31, 1, .ro, 0, 0, 0⟩,
  ⟨0x074, 1, 0x4, 0, 32, .ro, 0, 0, 0⟩,
  ⟨0x078, 1, 0x4, 0, 8, .ro, 0, 0, 0⟩,
  ⟨0x078, 1, 0x4, 8, 4, .ro, 0, 0, 0⟩,
  ⟨0x078, 1, 0x4, 16, 14, .ro, 0, 0, 0⟩,
  ⟨0x07C, 1, 0x4, 0, 3, .rw, 0, 0, 0⟩,
  ⟨0x07C, 1, 0x4, 3, 1, .rw, 0, 0, 0⟩,
  ⟨0x07C, 1, 0x4, 4, 2, .rw, 0, 0, 0⟩,
  ⟨0x080, 1, 0x4, 0, 28, .ro, 0, 0, 0⟩,
  ⟨0x080, 1, 0x4, 31, 1, .ro, 1, 0, 0⟩,
  ⟨0x084, 1, 0x4, 0, 28, .ro, 0, 0, 0⟩,
  ⟨0x088, 1, 0x4, 0, 28, .ro, 0, 0, 0⟩,
  ⟨0x0A0, 1, 0x4, 0, 32, .ctr, 0, 0, 0⟩,
  ⟨0x0A4, 1, 0x4, 0, 32, .ctr, 0, 0, 0⟩,
  ⟨0x0A8, 1, 0x4, 0, 32, .ctr, 0, 0, 0⟩]

def layoutBPM_1 : List FieldRow := [
  ⟨0x0AC, 1, 0x4, 0, 32, .ctr, 0, 0, 0⟩,
  ⟨0x0B0, 1, 0x4, 0, 32, .ctr, 0, 0, 0⟩,
  ⟨0x0B4, 1, 0x4, 0, 32, .ctr, 0, 0, 0⟩,
  ⟨0x0B8, 1, 0x4, 0, 32, .ctr, 0, 0, 0⟩,
  ⟨0x0BC, 1, 0x4, 0, 32, .ctr, 0, 0, 0⟩,
  ⟨0x0C0, 1, 0x4, 0, 32, .ctr, 0, 0, 0⟩,
  ⟨0x0C4, 1, 0x4, 0, 32, .ctr, 0, 0, 0⟩,
  ⟨0x100, 8, 0x4, 0, 17, .rw, 0, 0, 0⟩,
  ⟨0x200, 32, 0x4, 0, 10, .rw, 0, 0, 511⟩,
  ⟨0x200, 32, 0x4, 16, 10, .rw, 0, 0, 512⟩,
  ⟨0x200, 32, 0x4, 30, 1, .ro, 0, 0, 0⟩,
  ⟨0x200, 32, 0x4, 31, 1, .rw, 0, 0, 0⟩,
  ⟨0x300, 32, 0x4, 0, 3, .rws, 7, 0, 0⟩,
  ⟨0x300, 32, 0x4, 4, 3, .rws, 7, 0, 0⟩,
  ⟨0x300, 32, 0x4, 8, 1, .rws, 1, 0, 0⟩,
  ⟨0x300, 32, 0x4, 9, 1, .rws, 0, 0, 0⟩,
  ⟨0x300, 32, 0x4, 10, 1, .rws, 0, 0, 0⟩,
  ⟨0x300, 32, 0x4, 16, 16, .rws, 1024, 0, 0⟩]

/-- The field tables of page BPM. -/
def layoutBPM : List FieldRow := layoutBPM_0 ++ layoutBPM_1

def layoutMEM : List FieldRow := [
  ⟨0x040, 1, 0x4, 0, 1, .rw, 0, 0, 0⟩,
  ⟨0x040, 1, 0x4, 1, 2, .rw, 2, 0, 0⟩,
  ⟨0x040, 1, 0x4, 3, 1, .rw, 1, 0, 0⟩,
  ⟨0x040, 1, 0x4, 4, 1, .rw, 0, 0, 0⟩,
  ⟨0x040, 1, 0x4, 5, 2, .rw, 0, 0, 0⟩,
  ⟨0x040, 1, 0x4, 7, 1, .rw, 1, 0, 0⟩,
  ⟨0x044, 1, 0x4, 0, 1, .wo, 0, 0, 0⟩,
  ⟨0x044, 1, 0x4, 1, 1, .wo, 0, 0, 0⟩,
  ⟨0x048, 1, 0x4, 0, 3, .ro, 0, 0, 0⟩,
  ⟨0x048, 1, 0x4, 4, 4, .ro, 0, 0, 0⟩,
  ⟨0x048, 1, 0x4, 8, 6, .ro, 0, 0, 0⟩,
  ⟨0x04C, 1, 0x4, 0, 30, .ro, 0, 0, 0⟩,
  ⟨0x04C, 1, 0x4, 31, 1, .ro, 0, 0, 0⟩,
  ⟨0x050, 1, 0x4, 0, 5, .rw, 4, 1, 16⟩,
  ⟨0x050, 1, 0x4, 8, 1, .rw, 0, 0, 0⟩,
  ⟨0x054, 1, 0x4, 0, 20, .rw, 0, 0, 0⟩,
  ⟨0x054, 1, 0x4, 31, 1, .rw, 0, 0, 0⟩,
  ⟨0x058, 1, 0x4, 0, 20, .rw, 0, 0, 0⟩,
  ⟨0x060, 1, 0x4, 0, 32, .ctr, 0, 0, 0⟩,
  ⟨0x064, 1, 0x4, 0, 32, .ctr, 0, 0, 0⟩,
  ⟨0x068, 1, 0x4, 0, 32, .ctr, 0, 0, 0⟩,
  ⟨0x06C, 1, 0x4, 0, 32, .ctr, 0, 0, 0⟩,
  ⟨0x070, 1, 0x4, 0, 32, .ctr, 0, 0, 0⟩,
  ⟨0x074, 1, 0x4, 0, 32, .ctr, 0, 0, 0⟩]

def layoutECC : List FieldRow := [
  ⟨0x040, 1, 0x4, 0, 8, .rw, 24, 1, 0⟩,
  ⟨0x040, 1, 0x4, 8, 16, .rw, 1000, 10, 0⟩,
  ⟨0x040, 1, 0x4, 31, 1, .rw, 1, 0, 0⟩,
  ⟨0x044, 1, 0x4, 0, 8, .ro, 0, 0, 0⟩,
  ⟨0x044, 1, 0x4, 8, 8, .ro, 0, 0, 0⟩,
  ⟨0x048, 1, 0x4, 0, 4, .rw, 4, 2, 0⟩,
  ⟨0x048, 1, 0x4, 8, 1, .wo, 0, 0, 0⟩,
  ⟨0x04C, 1, 0x4, 0, 25, .rw, 0, 0, 0⟩,
  ⟨0x04C, 1, 0x4, 31, 1, .rw, 0, 0, 0⟩,
  ⟨0x050, 1, 0x4, 0, 1, .wo, 0, 0, 0⟩,
  ⟨0x050, 1, 0x4, 1, 1, .wo, 0, 0, 0⟩,
  ⟨0x054, 1, 0x4, 0, 3, .ro, 0, 0, 0⟩,
  ⟨0x054, 1, 0x4, 3, 1, .ro, 0, 0, 0⟩,
  ⟨0x054, 1, 0x4, 16, 13, .ro, 0, 0, 0⟩,
  ⟨0x058, 1, 0x4, 0, 6, .rw, 0, 0, 0⟩,
  ⟨0x05C, 1, 0x4, 0, 25, .ro, 0, 0, 0⟩,
  ⟨0x05C, 1, 0x4, 25, 4, .ro, 0, 0, 0⟩,
  ⟨0x05C, 1, 0x4, 30, 1, .ro, 0, 0, 0⟩,
  ⟨0x05C, 1, 0x4, 31, 1, .ro, 0, 0, 0⟩,
  ⟨0x060, 6, 0x4, 0, 32, .ro, 0, 0, 0⟩,
  ⟨0x080, 1, 0x4, 0, 32, .ctr, 0, 0, 0⟩,
  ⟨0x084, 1, 0x4, 0, 32, .ctr, 0, 0, 0⟩,
  ⟨0x088, 1, 0x4, 0, 32, .ctr, 0, 0, 0⟩,
  ⟨0x08C, 1, 0x4, 0, 32, .ctr, 0, 0, 0⟩,
  ⟨0x090, 1, 0x4, 0, 32, .ctr, 0, 0, 0⟩]

def layoutMXE : List FieldRow := [
  ⟨0x040, 1, 0x4, 0, 5, .rw, 2, 1, 16⟩,
  ⟨0x044, 1, 0x4, 0, 1, .wo, 0, 0, 0⟩,
  ⟨0x044, 1, 0x4, 1, 1, .wo, 0, 0, 0⟩,
  ⟨0x048, 1, 0x4, 0, 16, .ro, 0, 0, 0⟩,
  ⟨0x048, 1, 0x4, 16, 1, .ro, 0, 0, 0⟩,
  ⟨0x048, 1, 0x4, 17, 1, .ro, 0, 0, 0⟩,
  ⟨0x048, 1, 0x4, 18, 1, .ro, 0, 0, 0⟩,
  ⟨0x048, 1, 0x4, 19, 1, .ro, 0, 0, 0⟩,
  ⟨0x048, 1, 0x4, 20, 1, .ro, 0, 0, 0⟩,
  ⟨0x050, 4, 0x4, 0, 30, .ro, 0, 0, 0⟩,
  ⟨0x050, 4, 0x4, 31, 1, .ro, 0, 0, 0⟩,
  ⟨0x060, 1, 0x4, 0, 32, .ctr, 0, 0, 0⟩]

def layoutSCH : List FieldRow := [
  ⟨0x040, 1, 0x4, 0, 1, .rw, 0, 0, 0⟩,
  ⟨0x040, 1, 0x4, 1, 1, .rw, 0, 0, 0⟩,
  ⟨0x044, 1, 0x4, 0, 14, .rw, 0, 0, 8991⟩,
  ⟨0x048, 1, 0x4, 0, 1, .ro, 1, 0, 0⟩,
  ⟨0x048, 1, 0x4, 1, 1, .ro, 0, 0, 0⟩,
  ⟨0x048, 1, 0x4, 2, 1, .ro, 0, 0, 0⟩,
  ⟨0x04C, 1, 0x4, 0, 3, .rws, 0, 0, 0⟩,
  ⟨0x04C, 1, 0x4, 8, 8, .rws, 1, 1, 0⟩,
  ⟨0x04C, 1, 0x4, 16, 3, .rws, 0, 0, 0⟩,
  ⟨0x04C, 1, 0x4, 19, 1, .rws, 0, 0, 0⟩,
  ⟨0x050, 1, 0x4, 0, 17, .rws, 16384, 64, 65536⟩,
  ⟨0x054, 1, 0x4, 0, 28, .rws, 0, 0, 0⟩,
  ⟨0x058, 1, 0x4, 0, 28, .ro, 0, 0, 0⟩,
  ⟨0x05C, 1, 0x4, 0, 28, .ro, 0, 0, 0⟩,
  ⟨0x060, 1, 0x4, 0, 28, .ro, 0, 0, 0⟩,
  ⟨0x064, 1, 0x4, 0, 1, .wo, 0, 0, 0⟩,
  ⟨0x064, 1, 0x4, 1, 1, .wo, 0, 0, 0⟩,
  ⟨0x068, 1, 0x4, 0, 32, .ctr, 0, 0, 0⟩,
  ⟨0x06C, 1, 0x4, 0, 32, .ctr, 0, 0, 0⟩,
  ⟨0x070, 1, 0x4, 0, 32, .ctr, 0, 0, 0⟩,
  ⟨0x080, 1, 0x4, 0, 32, .ctr, 0, 0, 0⟩,
  ⟨0x084, 1, 0x4, 0, 32, .ctr, 0, 0, 0⟩,
  ⟨0x088, 1, 0x4, 0, 32, .ctr, 0, 0, 0⟩,
  ⟨0x08C, 1, 0x4, 0, 32, .ctr, 0, 0, 0⟩]

def layoutSHP : List FieldRow := [
  ⟨0x040, 1, 0x4, 0, 1, .rw, 0, 0, 0⟩,
  ⟨0x044, 1, 0x4, 0, 14, .rw, 0, 0, 9983⟩,
  ⟨0x048, 1, 0x4, 0, 1, .ro, 1, 0, 0⟩,
  ⟨0x048, 1, 0x4, 1, 1, .ro, 0, 0, 0⟩,
  ⟨0x048, 1, 0x4, 2, 1, .ro, 0, 0, 0⟩,
  ⟨0x04C, 1, 0x4, 0, 30, .rws, 0, 0, 0⟩,
  ⟨0x050, 1, 0x4, 0, 1, .rws, 0, 0, 0⟩,
  ⟨0x050, 1, 0x4, 1, 1, .rws, 0, 0, 0⟩,
  ⟨0x050, 1, 0x4, 16, 15, .rws, 1, 1, 0⟩,
  ⟨0x054, 1, 0x4, 0, 32, .ro, 0, 0, 0⟩,
  ⟨0x060, 1, 0x4, 0, 32, .ctr, 0, 0, 0⟩]

def layoutPOL : List FieldRow := [
  ⟨0x040, 1, 0x4, 0, 1, .rw, 0, 0, 0⟩,
  ⟨0x044, 1, 0x4, 0, 14, .rw, 0, 0, 0⟩,
  ⟨0x048, 1, 0x4, 0, 1, .ro, 1, 0, 0⟩,
  ⟨0x04C, 1, 0x4, 0, 30, .rws, 0, 0, 0⟩,
  ⟨0x050, 1, 0x4, 0, 1, .rws, 0, 0, 0⟩,
  ⟨0x050, 1, 0x4, 1, 1, .rws, 0, 0, 0⟩,
  ⟨0x050, 1, 0x4, 16, 15, .rws, 1, 1, 0⟩,
  ⟨0x054, 1, 0x4, 0, 32, .ro, 0, 0, 0⟩,
  ⟨0x058, 1, 0x4, 0, 32, .ctr, 0, 0, 0⟩,
  ⟨0x05C, 1, 0x4, 0, 32, .ctr, 0, 0, 0⟩,
  ⟨0x060, 1, 0x4, 0, 32, .ctr, 0, 0, 0⟩,
  ⟨0x070, 1, 0x4, 0, 32, .ctr, 0, 0, 0⟩]

def layoutGAT : List FieldRow := [
  ⟨0x040, 1, 0x4, 0, 32, .rws, 0, 0, 0⟩,
  ⟨0x044, 1, 0x4, 0, 16, .rws, 0, 0, 0⟩,
  ⟨0x048, 1, 0x4, 0, 6, .rw, 0, 0, 47⟩,
  ⟨0x048, 1, 0x4, 8, 6, .rw, 0, 0, 0⟩,
  ⟨0x048, 1, 0x4, 16, 1, .rw, 0, 0, 0⟩,
  ⟨0x048, 1, 0x4, 17, 1, .rw, 1, 0, 0⟩,
  ⟨0x04C, 1, 0x4, 0, 1, .ro, 1, 0, 0⟩,
  ⟨0x04C, 1, 0x4, 1, 1, .ro, 0, 0, 0⟩,
  ⟨0x04C, 1, 0x4, 2, 1, .ro, 0, 0, 0⟩,
  ⟨0x050, 1, 0x4, 0, 24, .rw, 1, 1, 0⟩,
  ⟨0x054, 1, 0x4, 0, 16, .rw, 65535, 0, 0⟩,
  ⟨0x058, 1, 0x4, 0, 7, .rw, 0, 0, 64⟩,
  ⟨0x05C, 1, 0x4, 0, 30, .rw, 1000000, 1000, 1000000000⟩,
  ⟨0x060, 1, 0x4, 0, 30, .rw, 0, 0, 0⟩,
  ⟨0x064, 1, 0x4, 0, 1, .wo, 0, 0, 0⟩,
  ⟨0x068, 1, 0x4, 0, 6, .ro, 0, 0, 0⟩,
  ⟨0x068, 1, 0x4, 8, 1, .ro, 0, 0, 0⟩,
  ⟨0x068, 1, 0x4, 16, 16, .ro, 65535, 0, 0⟩,
  ⟨0x070, 1, 0x4, 0, 32, .ctr, 0, 0, 0⟩,
  ⟨0x074, 1, 0x4, 0, 32, .ctr, 0, 0, 0⟩]

def layoutBPQ_0 : List FieldRow := [
  ⟨0x040, 1, 0x4, 0, 1, .rw, 0, 0, 0⟩,
  ⟨0x044, 1, 0x4, 0, 1, .ro, 0, 0, 0⟩,
  ⟨0x044, 1, 0x4, 4, 4, .ro, 0, 0, 0⟩,
  ⟨0x100, 4, 0x80, 0, 3, .rw, 0, 0, 0⟩,
  ⟨0x100, 4, 0x80, 4, 2, .rw, 0, 0, 2⟩,
  ⟨0x100, 4, 0x80, 6, 1, .rw, 1, 0, 0⟩,
  ⟨0x100, 4, 0x80, 7, 1, .rw, 1, 0, 0⟩,
  ⟨0x100, 4, 0x80, 8, 1, .rw, 1, 0, 0⟩,
  ⟨0x100, 4, 0x80, 9, 1, .rw, 0, 0, 0⟩,
  ⟨0x100, 4, 0x80, 10, 1, .rw, 0, 0, 0⟩,
  ⟨0x100, 4, 0x80, 12, 2, .rw, 0, 0, 0⟩,
  ⟨0x100, 4, 0x80, 16, 2, .rw, 2, 0, 2⟩,
  ⟨0x100, 4, 0x80, 20, 1, .rw, 0, 0, 0⟩,
  ⟨0x104, 4, 0x80, 0, 1, .wo, 0, 0, 0⟩,
  ⟨0x104, 4, 0x80, 1, 1, .wo, 0, 0, 0⟩,
  ⟨0x104, 4, 0x80, 2, 1, .wo, 0, 0, 0⟩,
  ⟨0x104, 4, 0x80, 3, 1, .wo, 0, 0, 0⟩,
  ⟨0x104, 4, 0x80, 4, 1, .wo, 0, 0, 0⟩,
  ⟨0x108, 4, 0x80, 0, 4, .ro, 0, 0, 0⟩,
  ⟨0x108, 4, 0x80, 4, 3, .ro, 0, 0, 0⟩,
  ⟨0x108, 4, 0x80, 8, 2, .ro, 0, 0, 0⟩,
  ⟨0x108, 4, 0x80, 10, 1, .ro, 0, 0, 0⟩,
  ⟨0x108, 4, 0x80, 11, 1, .ro, 0, 0, 0⟩,
  ⟨0x108, 4, 0x80, 12, 3, .ro, 0, 0, 0⟩,
  ⟨0x108, 4, 0x80, 16, 10, .w1c, 0, 0, 0⟩,
  ⟨0x10C, 4, 0x80, 0, 15, .rw, 9216, 1518, 16384⟩,
  ⟨0x10C, 4, 0x80, 16, 3, .rw, 0, 0, 5⟩,
  ⟨0x110, 4, 0x80, 0, 2, .rw, 0, 0, 2⟩,
  ⟨0x110, 4, 0x80, 2, 3, .rw, 0, 0, 0⟩,
  ⟨0x110, 4, 0x80, 8, 3, .rw, 0, 0, 0⟩,
  ⟨0x110, 4, 0x80, 16, 16, .rw, 65535, 1, 0⟩,
  ⟨0x114, 4, 0x80, 0, 16, .rw, 0, 0, 0⟩,
  ⟨0x114, 4, 0x80, 16, 16, .rw, 0, 0, 0⟩,
  ⟨0x118, 4, 0x80, 0, 1, .ro, 0, 0, 0⟩,
  ⟨0x118, 4, 0x80, 8, 8, .ro, 0, 0, 0⟩,
  ⟨0x118, 4, 0x80, 16, 1, .ro, 0, 0, 0⟩]

def layoutBPQ_1 : List FieldRow := [
  ⟨0x118, 4, 0x80, 24, 8, .ro, 0, 0, 0⟩,
  ⟨0x11C, 4, 0x80, 0, 16, .ro, 0, 0, 0⟩,
  ⟨0x11C, 4, 0x80, 16, 16, .ro, 0, 0, 0⟩,
  ⟨0x120, 4, 0x80, 0, 1, .rw, 0, 0, 0⟩,
  ⟨0x120, 4, 0x80, 1, 1, .rw, 0, 0, 0⟩,
  ⟨0x120, 4, 0x80, 16, 16, .rw, 64, 0, 0⟩,
  ⟨0x124, 4, 0x80, 0, 1, .rw, 1, 0, 0⟩,
  ⟨0x124, 4, 0x80, 1, 1, .rw, 1, 0, 0⟩,
  ⟨0x124, 4, 0x80, 2, 1, .rw, 1, 0, 0⟩,
  ⟨0x124, 4, 0x80, 4, 1, .rw, 1, 0, 0⟩,
  ⟨0x124, 4, 0x80, 5, 1, .rw, 1, 0, 0⟩,
  ⟨0x124, 4, 0x80, 6, 1, .rw, 0, 0, 0⟩,
  ⟨0x128, 4, 0x80, 0, 6, .rw, 0, 0, 32⟩,
  ⟨0x128, 4, 0x80, 8, 6, .rw, 8, 0, 48⟩,
  ⟨0x128, 4, 0x80, 16, 4, .rw, 8, 0, 0⟩,
  ⟨0x130, 4, 0x80, 0, 32, .ctr, 0, 0, 0⟩,
  ⟨0x134, 4, 0x80, 0, 32, .ctr, 0, 0, 0⟩,
  ⟨0x138, 4, 0x80, 0, 32, .ctr, 0, 0, 0⟩,
  ⟨0x13C, 4, 0x80, 0, 32, .ctr, 0, 0, 0⟩,
  ⟨0x140, 4, 0x80, 0, 32, .ctr, 0, 0, 0⟩,
  ⟨0x144, 4, 0x80, 0, 32, .ctr, 0, 0, 0⟩,
  ⟨0x148, 4, 0x80, 0, 32, .ctr, 0, 0, 0⟩,
  ⟨0x14C, 4, 0x80, 0, 32, .ctr, 0, 0, 0⟩,
  ⟨0x150, 4, 0x80, 0, 32, .ctr, 0, 0, 0⟩,
  ⟨0x154, 4, 0x80, 0, 32, .ctr, 0, 0, 0⟩,
  ⟨0x158, 4, 0x80, 0, 32, .ctr, 0, 0, 0⟩,
  ⟨0x15C, 4, 0x80, 0, 32, .ctr, 0, 0, 0⟩,
  ⟨0x160, 4, 0x80, 0, 32, .ctr, 0, 0, 0⟩,
  ⟨0x164, 4, 0x80, 0, 32, .ctr, 0, 0, 0⟩,
  ⟨0x168, 4, 0x80, 0, 32, .ctr, 0, 0, 0⟩,
  ⟨0x16C, 4, 0x80, 0, 32, .ctr, 0, 0, 0⟩,
  ⟨0x170, 4, 0x80, 0, 32, .ctr, 0, 0, 0⟩]

/-- The field tables of page BPQk. -/
def layoutBPQ : List FieldRow := layoutBPQ_0 ++ layoutBPQ_1

def layoutLMC_0 : List FieldRow := [
  ⟨0x040, 1, 0x4, 0, 10, .rw, 100, 10, 1000⟩,
  ⟨0x044, 1, 0x4, 0, 16, .wo, 0, 0, 0⟩,
  ⟨0x044, 1, 0x4, 16, 5, .wo, 0, 0, 0⟩,
  ⟨0x044, 1, 0x4, 21, 5, .wo, 0, 0, 0⟩,
  ⟨0x044, 1, 0x4, 26, 2, .wo, 0, 0, 0⟩,
  ⟨0x044, 1, 0x4, 31, 1, .wo, 0, 0, 0⟩,
  ⟨0x048, 1, 0x4, 0, 16, .ro, 0, 0, 0⟩,
  ⟨0x048, 1, 0x4, 16, 1, .ro, 0, 0, 0⟩,
  ⟨0x048, 1, 0x4, 17, 1, .ro, 0, 0, 0⟩,
  ⟨0x100, 8, 0x80, 0, 1, .rw, 0, 0, 0⟩,
  ⟨0x100, 8, 0x80, 1, 1, .rw, 0, 0, 0⟩,
  ⟨0x100, 8, 0x80, 2, 5, .rw, 0, 0, 0⟩,
  ⟨0x100, 8, 0x80, 7, 1, .rw, 0, 0, 0⟩,
  ⟨0x100, 8, 0x80, 8, 1, .rw, 1, 0, 0⟩,
  ⟨0x100, 8, 0x80, 9, 1, .rw, 0, 0, 0⟩,
  ⟨0x100, 8, 0x80, 10, 1, .rw, 0, 0, 0⟩,
  ⟨0x100, 8, 0x80, 11, 1, .rw, 0, 0, 0⟩,
  ⟨0x100, 8, 0x80, 12, 1, .rw, 0, 0, 0⟩,
  ⟨0x100, 8, 0x80, 13, 3, .rw, 0, 0, 5⟩,
  ⟨0x100, 8, 0x80, 16, 2, .rw, 0, 0, 0⟩,
  ⟨0x104, 8, 0x80, 0, 1, .ro, 0, 0, 0⟩,
  ⟨0x104, 8, 0x80, 1, 1, .ro, 0, 0, 0⟩,
  ⟨0x104, 8, 0x80, 2, 1, .ro, 0, 0, 0⟩,
  ⟨0x104, 8, 0x80, 3, 1, .ro, 0, 0, 0⟩,
  ⟨0x104, 8, 0x80, 4, 1, .ro, 0, 0, 0⟩,
  ⟨0x104, 8, 0x80, 5, 1, .ro, 0, 0, 0⟩,
  ⟨0x104, 8, 0x80, 8, 14, .ro, 0, 0, 0⟩,
  ⟨0x104, 8, 0x80, 24, 7, .w1c, 0, 0, 0⟩,
  ⟨0x108, 8, 0x80, 0, 16, .rw, 0, 0, 0⟩,
  ⟨0x108, 8, 0x80, 16, 16, .rw, 0, 0, 0⟩,
  ⟨0x10C, 8, 0x80, 0, 16, .rw, 65535, 1, 0⟩,
  ⟨0x10C, 8, 0x80, 16, 16, .rw, 16, 0, 0⟩,
  ⟨0x110, 8, 0x80, 0, 32, .ctr, 0, 0, 0⟩,
  ⟨0x114, 8, 0x80, 0, 32, .ctr, 0, 0, 0⟩,
  ⟨0x118, 8, 0x80, 0, 32, .ctr, 0, 0, 0⟩,
  ⟨0x11C, 8, 0x80, 0, 32, .ctr, 0, 0, 0⟩]

def layoutLMC_1 : List FieldRow := [
  ⟨0x120, 8, 0x80, 0, 32, .ctr, 0, 0, 0⟩,
  ⟨0x124, 8, 0x80, 0, 32, .ctr, 0, 0, 0⟩,
  ⟨0x128, 8, 0x80, 0, 32, .ctr, 0, 0, 0⟩,
  ⟨0x12C, 8, 0x80, 0, 32, .ctr, 0, 0, 0⟩,
  ⟨0x130, 8, 0x80, 0, 32, .ctr, 0, 0, 0⟩,
  ⟨0x134, 8, 0x80, 0, 32, .ctr, 0, 0, 0⟩,
  ⟨0x138, 8, 0x80, 0, 32, .ctr, 0, 0, 0⟩,
  ⟨0x13C, 8, 0x80, 0, 32, .ctr, 0, 0, 0⟩,
  ⟨0x140, 8, 0x80, 0, 32, .ctr, 0, 0, 0⟩,
  ⟨0x144, 8, 0x80, 0, 32, .ctr, 0, 0, 0⟩,
  ⟨0x148, 8, 0x80, 0, 32, .ctr, 0, 0, 0⟩]

/-- The field tables of page LMC. -/
def layoutLMC : List FieldRow := layoutLMC_0 ++ layoutLMC_1

def layoutTCL : List FieldRow := [
  ⟨0x040, 1, 0x4, 0, 1, .rw, 0, 0, 0⟩,
  ⟨0x040, 1, 0x4, 1, 1, .rw, 0, 0, 0⟩,
  ⟨0x040, 1, 0x4, 2, 1, .rw, 1, 0, 0⟩,
  ⟨0x040, 1, 0x4, 3, 1, .rw, 1, 0, 0⟩,
  ⟨0x040, 1, 0x4, 4, 1, .rw, 1, 0, 0⟩,
  ⟨0x040, 1, 0x4, 5, 1, .rw, 0, 0, 0⟩,
  ⟨0x044, 1, 0x4, 0, 16, .rw, 1000, 10, 0⟩,
  ⟨0x048, 1, 0x4, 0, 7, .ro, 0, 0, 0⟩,
  ⟨0x04C, 1, 0x4, 0, 16, .ro, 0, 0, 0⟩,
  ⟨0x050, 1, 0x4, 0, 32, .ro, 0, 0, 0⟩,
  ⟨0x054, 1, 0x4, 0, 30, .ro, 0, 0, 0⟩,
  ⟨0x060, 1, 0x4, 0, 1, .rw, 0, 0, 0⟩,
  ⟨0x060, 1, 0x4, 1, 1, .rw, 0, 0, 0⟩,
  ⟨0x060, 1, 0x4, 2, 1, .rw, 1, 0, 0⟩,
  ⟨0x064, 1, 0x4, 0, 19, .rw, 100000, 1, 500000⟩,
  ⟨0x064, 1, 0x4, 20, 12, .rw, 0, 0, 0⟩,
  ⟨0x068, 1, 0x4, 0, 1, .rw, 0, 0, 0⟩,
  ⟨0x068, 1, 0x4, 1, 3, .rw, 0, 0, 0⟩,
  ⟨0x068, 1, 0x4, 8, 8, .rw, 37, 0, 0⟩,
  ⟨0x070, 4, 0x4, 0, 27, .rw, 10000000, 1, 125000000⟩,
  ⟨0x070, 4, 0x4, 31, 1, .rw, 0, 0, 0⟩,
  ⟨0x080, 1, 0x4, 0, 32, .ctr, 0, 0, 0⟩,
  ⟨0x084, 1, 0x4, 0, 32, .ctr, 0, 0, 0⟩,
  ⟨0x088, 1, 0x4, 0, 32, .ctr, 0, 0, 0⟩,
  ⟨0x08C, 1, 0x4, 0, 32, .ctr, 0, 0, 0⟩]

def layoutCPU : List FieldRow := [
  ⟨0x040, 8, 0x4, 0, 10, .rw, 0, 0, 511⟩,
  ⟨0x060, 1, 0x4, 6, 17, .rw, 0, 0, 0⟩,
  ⟨0x064, 1, 0x4, 0, 4, .rw, 10, 4, 12⟩,
  ⟨0x064, 1, 0x4, 4, 12, .rw, 0, 0, 0⟩,
  ⟨0x064, 1, 0x4, 16, 5, .rw, 0, 0, 0⟩,
  ⟨0x068, 1, 0x4, 0, 12, .ro, 0, 0, 0⟩,
  ⟨0x06C, 1, 0x4, 0, 12, .rw, 0, 0, 0⟩,
  ⟨0x070, 1, 0x4, 0, 32, .rw, 0, 0, 0⟩,
  ⟨0x074, 1, 0x4, 0, 8, .rw, 0, 0, 0⟩,
  ⟨0x078, 1, 0x4, 0, 17, .rw, 0, 64, 65536⟩,
  ⟨0x07C, 1, 0x4, 0, 1, .wo, 0, 0, 0⟩,
  ⟨0x07C, 1, 0x4, 1, 1, .wo, 0, 0, 0⟩,
  ⟨0x07C, 1, 0x4, 2, 1, .wo, 0, 0, 0⟩,
  ⟨0x07C, 1, 0x4, 3, 14, .wo, 0, 0, 0⟩,
  ⟨0x080, 1, 0x4, 0, 1, .ro, 0, 0, 0⟩,
  ⟨0x080, 1, 0x4, 1, 1, .ro, 0, 0, 0⟩,
  ⟨0x084, 1, 0x4, 0, 16, .rw, 0, 0, 0⟩,
  ⟨0x090, 1, 0x4, 0, 32, .ctr, 0, 0, 0⟩,
  ⟨0x094, 1, 0x4, 0, 32, .ctr, 0, 0, 0⟩,
  ⟨0x098, 1, 0x4, 0, 32, .ctr, 0, 0, 0⟩]

def layoutTSK : List FieldRow := [
  ⟨0x040, 1, 0x4, 0, 1, .rw, 0, 0, 0⟩,
  ⟨0x044, 1, 0x4, 0, 12, .rw, 0, 0, 0⟩,
  ⟨0x048, 1, 0x4, 0, 5, .rw, 31, 0, 0⟩,
  ⟨0x048, 1, 0x4, 8, 1, .rw, 0, 0, 0⟩,
  ⟨0x048, 1, 0x4, 9, 1, .rw, 0, 0, 0⟩,
  ⟨0x048, 1, 0x4, 15, 1, .rw, 0, 0, 0⟩,
  ⟨0x048, 1, 0x4, 16, 8, .rw, 255, 0, 0⟩,
  ⟨0x04C, 1, 0x4, 0, 32, .rw, 0, 0, 0⟩,
  ⟨0x050, 1, 0x4, 0, 32, .rw, 0, 0, 0⟩,
  ⟨0x054, 1, 0x4, 0, 1, .ro, 1, 0, 0⟩,
  ⟨0x058, 1, 0x4, 0, 12, .wo, 0, 0, 0⟩,
  ⟨0x058, 1, 0x4, 16, 5, .wo, 0, 0, 0⟩,
  ⟨0x05C, 1, 0x4, 0, 12, .wo, 0, 0, 0⟩]

def layoutCMT : List FieldRow := [
  ⟨0x040, 1, 0x4, 0, 8, .wo, 0, 0, 0⟩,
  ⟨0x044, 1, 0x4, 0, 8, .wo, 0, 0, 0⟩,
  ⟨0x048, 1, 0x4, 0, 8, .wo, 0, 0, 0⟩,
  ⟨0x04C, 1, 0x4, 0, 8, .wo, 0, 0, 0⟩,
  ⟨0x050, 1, 0x4, 0, 8, .ro, 0, 0, 0⟩,
  ⟨0x050, 1, 0x4, 8, 4, .ro, 0, 0, 0⟩,
  ⟨0x050, 1, 0x4, 12, 4, .ro, 0, 0, 0⟩,
  ⟨0x050, 1, 0x4, 16, 4, .ro, 0, 0, 0⟩,
  ⟨0x054, 10, 0x4, 0, 8, .rw, 0, 0, 0⟩,
  ⟨0x080, 4, 0x4, 0, 8, .ro, 0, 0, 0⟩,
  ⟨0x080, 4, 0x4, 8, 3, .ro, 0, 0, 0⟩,
  ⟨0x080, 4, 0x4, 11, 1, .ro, 0, 0, 0⟩,
  ⟨0x080, 4, 0x4, 12, 11, .ro, 0, 0, 0⟩,
  ⟨0x080, 4, 0x4, 23, 1, .ro, 0, 0, 0⟩,
  ⟨0x080, 4, 0x4, 24, 4, .ro, 0, 0, 0⟩,
  ⟨0x090, 4, 0x4, 0, 7, .ro, 0, 0, 0⟩,
  ⟨0x0A0, 1, 0x4, 0, 32, .ctr, 0, 0, 0⟩,
  ⟨0x0A4, 1, 0x4, 0, 32, .ctr, 0, 0, 0⟩,
  ⟨0x0A8, 1, 0x4, 0, 32, .ctr, 0, 0, 0⟩,
  ⟨0x0AC, 1, 0x4, 0, 16, .rw, 100, 0, 0⟩]

def layoutEVT_0 : List FieldRow := [
  ⟨0x040, 1, 0x4, 0, 1, .rw, 0, 0, 0⟩,
  ⟨0x040, 1, 0x4, 1, 1, .rw, 1, 0, 0⟩,
  ⟨0x044, 6, 0x4, 0, 16, .ro, 0, 0, 0⟩,
  ⟨0x060, 1, 0x4, 0, 32, .w1s, 4294967295, 0, 0⟩,
  ⟨0x064, 1, 0x4, 0, 32, .w1s, 4294967295, 0, 0⟩,
  ⟨0x068, 1, 0x4, 0, 4, .ro, 0, 0, 0⟩,
  ⟨0x070, 1, 0x4, 0, 11, .rw, 0, 0, 1535⟩,
  ⟨0x074, 1, 0x4, 0, 12, .rw, 0, 0, 0⟩,
  ⟨0x074, 1, 0x4, 16, 5, .rw, 0, 0, 0⟩,
  ⟨0x074, 1, 0x4, 31, 1, .rw, 0, 0, 0⟩,
  ⟨0x078, 1, 0x4, 0, 32, .ro, 0, 0, 0⟩,
  ⟨0x07C, 1, 0x4, 0, 30, .ro, 0, 0, 0⟩,
  ⟨0x07C, 1, 0x4, 31, 1, .ro, 1, 0, 0⟩,
  ⟨0x080, 1, 0x4, 0, 10, .ro, 0, 0, 0⟩,
  ⟨0x084, 1, 0x4, 0, 11, .ro, 0, 0, 0⟩,
  ⟨0x084, 1, 0x4, 16, 1, .ro, 0, 0, 0⟩,
  ⟨0x084, 1, 0x4, 31, 1, .ro, 0, 0, 0⟩,
  ⟨0x088, 1, 0x4, 0, 32, .ro, 0, 0, 0⟩,
  ⟨0x08C, 1, 0x4, 0, 30, .ro, 0, 0, 0⟩,
  ⟨0x090, 1, 0x4, 0, 12, .rw, 0, 0, 0⟩,
  ⟨0x090, 1, 0x4, 16, 12, .rw, 64, 8, 0⟩,
  ⟨0x090, 1, 0x4, 31, 1, .rw, 0, 0, 0⟩,
  ⟨0x094, 1, 0x4, 0, 7, .ro, 0, 0, 0⟩,
  ⟨0x094, 1, 0x4, 8, 1, .ro, 0, 0, 0⟩,
  ⟨0x094, 1, 0x4, 9, 1, .ro, 0, 0, 0⟩,
  ⟨0x098, 1, 0x4, 0, 32, .ro, 0, 0, 0⟩,
  ⟨0x09C, 1, 0x4, 0, 1, .ro, 0, 0, 0⟩,
  ⟨0x09C, 1, 0x4, 1, 1, .ro, 0, 0, 0⟩,
  ⟨0x09C, 1, 0x4, 2, 1, .ro, 0, 0, 0⟩,
  ⟨0x0A0, 1, 0x4, 0, 32, .ctr, 0, 0, 0⟩,
  ⟨0x0A4, 1, 0x4, 0, 32, .ctr, 0, 0, 0⟩,
  ⟨0x0A8, 1, 0x4, 0, 32, .ctr, 0, 0, 0⟩,
  ⟨0x0AC, 1, 0x4, 0, 32, .ctr, 0, 0, 0⟩,
  ⟨0x200, 96, 0x4, 0, 6, .rw, 0, 0, 0⟩,
  ⟨0x200, 96, 0x4, 7, 1, .rw, 0, 0, 0⟩,
  ⟨0x200, 96, 0x4, 8, 2, .rw, 0, 0, 0⟩]

def layoutEVT_1 : List FieldRow := [
  ⟨0x200, 96, 0x4, 11, 1, .rw, 0, 0, 0⟩]

/-- The field tables of page EVT. -/
def layoutEVT : List FieldRow := layoutEVT_0 ++ layoutEVT_1

def layoutPWR_0 : List FieldRow := [
  ⟨0x040, 1, 0x4, 0, 2, .rw, 0, 0, 0⟩,
  ⟨0x044, 1, 0x4, 0, 1, .wo, 0, 0, 0⟩,
  ⟨0x044, 1, 0x4, 1, 1, .wo, 0, 0, 0⟩,
  ⟨0x044, 1, 0x4, 2, 1, .wo, 0, 0, 0⟩,
  ⟨0x044, 1, 0x4, 3, 1, .wo, 0, 0, 0⟩,
  ⟨0x044, 1, 0x4, 4, 1, .wo, 0, 0, 0⟩,
  ⟨0x048, 1, 0x4, 0, 2, .ro, 0, 0, 0⟩,
  ⟨0x048, 1, 0x4, 2, 1, .ro, 0, 0, 0⟩,
  ⟨0x048, 1, 0x4, 4, 2, .ro, 0, 0, 0⟩,
  ⟨0x048, 1, 0x4, 6, 3, .ro, 0, 0, 0⟩,
  ⟨0x048, 1, 0x4, 9, 1, .ro, 0, 0, 0⟩,
  ⟨0x048, 1, 0x4, 10, 1, .ro, 0, 0, 0⟩,
  ⟨0x048, 1, 0x4, 12, 3, .ro, 0, 0, 0⟩,
  ⟨0x04C, 1, 0x4, 0, 8, .rw, 0, 0, 0⟩,
  ⟨0x04C, 1, 0x4, 8, 1, .rw, 1, 0, 0⟩,
  ⟨0x04C, 1, 0x4, 9, 1, .rw, 0, 0, 0⟩,
  ⟨0x04C, 1, 0x4, 10, 1, .rw, 0, 0, 0⟩,
  ⟨0x050, 1, 0x4, 0, 32, .rw, 0, 0, 0⟩,
  ⟨0x054, 1, 0x4, 0, 16, .rw, 0, 0, 0⟩,
  ⟨0x058, 1, 0x4, 0, 3, .ro, 0, 0, 0⟩,
  ⟨0x058, 1, 0x4, 4, 3, .ro, 0, 0, 0⟩,
  ⟨0x05C, 1, 0x4, 0, 3, .ro, 0, 0, 0⟩,
  ⟨0x05C, 1, 0x4, 3, 1, .ro, 0, 0, 0⟩,
  ⟨0x05C, 1, 0x4, 4, 1, .ro, 0, 0, 0⟩,
  ⟨0x05C, 1, 0x4, 31, 1, .w1c, 0, 0, 0⟩,
  ⟨0x060, 1, 0x4, 0, 7, .rw, 64, 0, 0⟩,
  ⟨0x060, 1, 0x4, 8, 7, .rw, 65, 0, 0⟩,
  ⟨0x060, 1, 0x4, 16, 8, .rw, 0, 0, 0⟩,
  ⟨0x064, 1, 0x4, 0, 32, .ro, 0, 0, 0⟩,
  ⟨0x068, 1, 0x4, 0, 2, .ro, 0, 0, 0⟩,
  ⟨0x06C, 1, 0x4, 0, 32, .w1c, 0, 0, 0⟩,
  ⟨0x070, 1, 0x4, 0, 2, .w1c, 0, 0, 0⟩,
  ⟨0x080, 1, 0x4, 0, 32, .ctr, 0, 0, 0⟩,
  ⟨0x084, 1, 0x4, 0, 32, .ctr, 0, 0, 0⟩,
  ⟨0x088, 1, 0x4, 0, 32, .ctr, 0, 0, 0⟩,
  ⟨0x08C, 1, 0x4, 0, 32, .ctr, 0, 0, 0⟩]

def layoutPWR_1 : List FieldRow := [
  ⟨0x090, 1, 0x4, 0, 32, .ctr, 0, 0, 0⟩,
  ⟨0x094, 1, 0x4, 0, 32, .ctr, 0, 0, 0⟩]

/-- The field tables of page PWR. -/
def layoutPWR : List FieldRow := layoutPWR_0 ++ layoutPWR_1

def layoutRST : List FieldRow := [
  ⟨0x040, 1, 0x4, 0, 3, .ro, 0, 0, 0⟩,
  ⟨0x044, 1, 0x4, 0, 1, .wo, 0, 0, 0⟩,
  ⟨0x048, 1, 0x4, 0, 8, .rw, 0, 0, 0⟩,
  ⟨0x04C, 1, 0x4, 0, 3, .ro, 0, 0, 0⟩,
  ⟨0x04C, 1, 0x4, 4, 4, .ro, 0, 0, 0⟩,
  ⟨0x04C, 1, 0x4, 8, 4, .ro, 0, 0, 0⟩,
  ⟨0x04C, 1, 0x4, 12, 1, .ro, 0, 0, 0⟩,
  ⟨0x04C, 1, 0x4, 13, 1, .ro, 0, 0, 0⟩,
  ⟨0x04C, 1, 0x4, 14, 1, .ro, 0, 0, 0⟩,
  ⟨0x050, 1, 0x4, 0, 1, .wo, 0, 0, 0⟩,
  ⟨0x050, 1, 0x4, 1, 1, .wo, 0, 0, 0⟩,
  ⟨0x054, 1, 0x4, 0, 32, .ro, 0, 0, 0⟩,
  ⟨0x058, 1, 0x4, 0, 32, .ro, 0, 0, 0⟩,
  ⟨0x05C, 1, 0x4, 0, 2, .ro, 0, 0, 0⟩,
  ⟨0x05C, 1, 0x4, 2, 1, .ro, 0, 0, 0⟩,
  ⟨0x05C, 1, 0x4, 3, 1, .ro, 0, 0, 0⟩,
  ⟨0x05C, 1, 0x4, 4, 1, .ro, 0, 0, 0⟩,
  ⟨0x060, 1, 0x4, 0, 16, .rw, 0, 0, 0⟩,
  ⟨0x060, 1, 0x4, 16, 2, .rw, 0, 0, 0⟩,
  ⟨0x064, 1, 0x4, 0, 1, .wo, 0, 0, 0⟩]

def layoutHIF_0 : List FieldRow := [
  ⟨0x040, 1, 0x4, 0, 1, .ro, 0, 0, 0⟩,
  ⟨0x040, 1, 0x4, 1, 3, .ro, 0, 0, 0⟩,
  ⟨0x040, 1, 0x4, 4, 3, .ro, 0, 0, 0⟩,
  ⟨0x040, 1, 0x4, 7, 1, .ro, 0, 0, 0⟩,
  ⟨0x044, 1, 0x4, 0, 8, .ro, 0, 0, 0⟩,
  ⟨0x044, 1, 0x4, 8, 12, .ro, 0, 0, 0⟩,
  ⟨0x044, 1, 0x4, 20, 3, .ro, 0, 0, 0⟩,
  ⟨0x044, 1, 0x4, 23, 1, .ro, 0, 0, 0⟩,
  ⟨0x048, 1, 0x4, 0, 6, .ro, 0, 0, 0⟩,
  ⟨0x048, 1, 0x4, 6, 1, .ro, 0, 0, 0⟩,
  ⟨0x048, 1, 0x4, 7, 1, .ro, 0, 0, 0⟩,
  ⟨0x048, 1, 0x4, 8, 1, .ro, 0, 0, 0⟩,
  ⟨0x04C, 1, 0x4, 0, 8, .ro, 0, 0, 0⟩,
  ⟨0x04C, 1, 0x4, 8, 12, .ro, 0, 0, 0⟩,
  ⟨0x04C, 1, 0x4, 20, 3, .ro, 0, 0, 0⟩,
  ⟨0x04C, 1, 0x4, 23, 1, .ro, 0, 0, 0⟩,
  ⟨0x050, 1, 0x4, 0, 1, .rw, 0, 0, 0⟩,
  ⟨0x054, 1, 0x4, 0, 7, .wo, 0, 0, 0⟩,
  ⟨0x054, 1, 0x4, 8, 8, .wo, 0, 0, 0⟩,
  ⟨0x054, 1, 0x4, 16, 4, .wo, 1, 0, 0⟩,
  ⟨0x054, 1, 0x4, 20, 1, .wo, 0, 0, 0⟩,
  ⟨0x054, 1, 0x4, 31, 1, .wo, 0, 0, 0⟩,
  ⟨0x058, 1, 0x4, 0, 1, .ro, 0, 0, 0⟩,
  ⟨0x058, 1, 0x4, 1, 2, .ro, 0, 0, 0⟩,
  ⟨0x05C, 1, 0x4, 0, 32, .rw, 0, 0, 0⟩,
  ⟨0x060, 1, 0x4, 0, 32, .rw, 0, 0, 0⟩,
  ⟨0x064, 1, 0x4, 0, 32, .rw, 0, 0, 0⟩,
  ⟨0x068, 1, 0x4, 0, 2, .wo, 0, 0, 0⟩,
  ⟨0x068, 1, 0x4, 8, 9, .wo, 256, 0, 0⟩,
  ⟨0x06C, 1, 0x4, 0, 1, .ro, 0, 0, 0⟩,
  ⟨0x06C, 1, 0x4, 1, 3, .ro, 0, 0, 0⟩,
  ⟨0x070, 1, 0x4, 0, 1, .wo, 0, 0, 0⟩,
  ⟨0x070, 1, 0x4, 1, 1, .wo, 0, 0, 0⟩,
  ⟨0x074, 1, 0x4, 0, 1, .ro, 0, 0, 0⟩,
  ⟨0x080, 1, 0x4, 0, 32, .ctr, 0, 0, 0⟩,
  ⟨0x084, 1, 0x4, 0, 32, .ctr, 0, 0, 0⟩]

def layoutHIF_1 : List FieldRow := [
  ⟨0x088, 1, 0x4, 0, 32, .ctr, 0, 0, 0⟩,
  ⟨0x08C, 1, 0x4, 0, 32, .ctr, 0, 0, 0⟩,
  ⟨0x090, 1, 0x4, 0, 32, .ctr, 0, 0, 0⟩,
  ⟨0x094, 1, 0x4, 0, 32, .ctr, 0, 0, 0⟩,
  ⟨0x100, 64, 0x4, 0, 32, .rw, 0, 0, 0⟩,
  ⟨0x800, 64, 0x10, 2, 30, .rw, 0, 0, 0⟩,
  ⟨0x804, 64, 0x10, 0, 32, .rw, 0, 0, 0⟩,
  ⟨0x808, 64, 0x10, 0, 32, .rw, 0, 0, 0⟩,
  ⟨0x80C, 64, 0x10, 0, 1, .rw, 1, 0, 0⟩,
  ⟨0xC00, 1, 0x4, 0, 32, .ro, 0, 0, 0⟩,
  ⟨0xC04, 1, 0x4, 0, 32, .ro, 0, 0, 0⟩]

/-- The field tables of page HIF. -/
def layoutHIF : List FieldRow := layoutHIF_0 ++ layoutHIF_1

def layoutOWN : List FieldRow := [
  ⟨0x040, 1, 0x4, 0, 2, .ro, 3, 0, 0⟩,
  ⟨0x040, 1, 0x4, 2, 2, .ro, 0, 0, 0⟩,
  ⟨0x040, 1, 0x4, 4, 2, .ro, 0, 0, 0⟩,
  ⟨0x040, 1, 0x4, 6, 1, .ro, 0, 0, 0⟩,
  ⟨0x040, 1, 0x4, 7, 1, .ro, 0, 0, 0⟩,
  ⟨0x040, 1, 0x4, 8, 1, .ro, 0, 0, 0⟩,
  ⟨0x040, 1, 0x4, 9, 1, .ro, 0, 0, 0⟩,
  ⟨0x040, 1, 0x4, 10, 1, .ro, 0, 0, 0⟩,
  ⟨0x040, 1, 0x4, 11, 1, .w1c, 0, 0, 0⟩,
  ⟨0x044, 1, 0x4, 0, 2, .wo, 0, 0, 0⟩,
  ⟨0x044, 1, 0x4, 2, 1, .wo, 0, 0, 0⟩,
  ⟨0x048, 1, 0x4, 0, 1, .wo, 0, 0, 0⟩,
  ⟨0x048, 1, 0x4, 1, 1, .wo, 0, 0, 0⟩,
  ⟨0x04C, 1, 0x4, 0, 1, .rw, 0, 0, 0⟩,
  ⟨0x04C, 1, 0x4, 1, 1, .rw, 0, 0, 0⟩,
  ⟨0x050, 1, 0x4, 0, 16, .rw, 1000, 0, 0⟩,
  ⟨0x050, 1, 0x4, 16, 16, .rw, 1000, 0, 0⟩,
  ⟨0x054, 1, 0x4, 0, 1, .wo, 0, 0, 0⟩,
  ⟨0x058, 1, 0x4, 0, 8, .rw, 60, 0, 0⟩,
  ⟨0x058, 1, 0x4, 8, 1, .wo, 0, 0, 0⟩,
  ⟨0x05C, 1, 0x4, 0, 2, .ro, 0, 0, 0⟩,
  ⟨0x05C, 1, 0x4, 2, 3, .ro, 0, 0, 0⟩,
  ⟨0x05C, 1, 0x4, 5, 1, .ro, 0, 0, 0⟩,
  ⟨0x060, 1, 0x4, 0, 32, .ctr, 0, 0, 0⟩,
  ⟨0x064, 1, 0x4, 0, 32, .ctr, 0, 0, 0⟩,
  ⟨0x068, 1, 0x4, 0, 4, .ro, 0, 0, 0⟩,
  ⟨0x068, 1, 0x4, 4, 8, .ro, 0, 0, 0⟩,
  ⟨0x068, 1, 0x4, 12, 12, .ro, 0, 0, 0⟩,
  ⟨0x068, 1, 0x4, 24, 3, .ro, 0, 0, 0⟩]

def layoutSYS : List FieldRow := [
  ⟨0x040, 1, 0x4, 0, 16, .ro, 29248, 0, 0⟩,
  ⟨0x040, 1, 0x4, 16, 8, .ro, 176, 0, 0⟩,
  ⟨0x044, 1, 0x4, 0, 1, .wo, 0, 0, 0⟩,
  ⟨0x044, 1, 0x4, 1, 3, .rw, 0, 0, 0⟩,
  ⟨0x044, 1, 0x4, 16, 9, .rw, 0, 0, 0⟩,
  ⟨0x048, 1, 0x4, 0, 3, .ro, 0, 0, 0⟩,
  ⟨0x04C, 1, 0x4, 0, 32, .ro, 0, 0, 0⟩,
  ⟨0x050, 1, 0x4, 0, 32, .ro, 0, 0, 0⟩]

/-! ### Pages (R683) -/

namespace P

abbrev LRX : Nat := 0x00
abbrev LTX : Nat := 0x04
abbrev DSF : Nat := 0x05
abbrev TRB : Nat := 0x06
abbrev ACT : Nat := 0x07
abbrev UPB : Nat := 0x08
abbrev LCK : Nat := 0x09
abbrev KEY : Nat := 0x0A
abbrev TIM : Nat := 0x0B
abbrev PRS : Nat := 0x40
abbrev CLS : Nat := 0x41
abbrev BPM : Nat := 0x42
abbrev MEM : Nat := 0x43
abbrev ECC : Nat := 0x47
abbrev MXE : Nat := 0x48
abbrev SCH : Nat := 0x49
abbrev SHP : Nat := 0x4A
abbrev POL : Nat := 0x4B
abbrev GAT : Nat := 0x4C
abbrev BPQ : Nat := 0x4D
abbrev LMC : Nat := 0x59
abbrev TCL : Nat := 0x5A
abbrev CPU : Nat := 0xA0
abbrev TSK : Nat := 0xA1
abbrev CMT : Nat := 0xA2
abbrev EVT : Nat := 0xA3
abbrev PWR : Nat := 0xA4
abbrev RST : Nat := 0xA5
abbrev HIF : Nat := 0xA6
abbrev OWN : Nat := 0xA7
abbrev SYS : Nat := 0xA8
abbrev SML : Nat := 0x0C
abbrev SMLL : Nat := 0x0D
abbrev SMF : Nat := 0x5B
abbrev SMFL : Nat := 0x5C

end P

/-! ### Registers: storage keys. A register with copies takes the copy, one addressed by a selector the entry, one
with a copy per requester the requester; LRX, MEM, SM and HDR registers take the channel or the page first. -/

namespace R

abbrev HDR_PAGE_ID (p : Nat) : Nat := p * 0x1000 + 0x000
abbrev HDR_PAGE_CAP (p : Nat) : Nat := p * 0x1000 + 0x004
abbrev HDR_PAGE_CTL (p : Nat) : Nat := p * 0x1000 + 0x008
abbrev HDR_PAGE_STAT (p : Nat) : Nat := p * 0x1000 + 0x00C
abbrev HDR_EVT_RAW (p : Nat) : Nat := p * 0x1000 + 0x010
abbrev HDR_EVT_MASK (p : Nat) : Nat := p * 0x1000 + 0x014
abbrev HDR_EVT_PEND (p : Nat) : Nat := p * 0x1000 + 0x018
abbrev HDR_EVT_FORCE (p : Nat) : Nat := p * 0x1000 + 0x01C
abbrev HDR_STAGE_CNT (p : Nat) : Nat := p * 0x1000 + 0x020
abbrev HDR_COMMIT_EPOCH (p : Nat) : Nat := p * 0x1000 + 0x024
abbrev HDR_LOG_PTR (p : Nat) : Nat := p * 0x1000 + 0x028
abbrev LRX_RX_CTL (c : Nat) : Nat := 0x40 + c * 0x1000
abbrev LRX_AGC_CFG (c : Nat) : Nat := 0x44 + c * 0x1000
abbrev LRX_EQ_CFG (c : Nat) : Nat := 0x48 + c * 0x1000
abbrev LRX_CDR_CFG (c : Nat) : Nat := 0x4C + c * 0x1000
abbrev LRX_PRE_CFG (c : Nat) : Nat := 0x50 + c * 0x1000
abbrev LRX_ARM_CFG (c : Nat) : Nat := 0x54 + c * 0x1000
abbrev LRX_IDLE_CFG (c : Nat) : Nat := 0x58 + c * 0x1000
abbrev LRX_DOZE_CFG (c : Nat) : Nat := 0x5C + c * 0x1000
abbrev LRX_LQ_CFG (c : Nat) : Nat := 0x60 + c * 0x1000
abbrev LRX_CAL_CTL (c : Nat) : Nat := 0x64 + c * 0x1000
abbrev LRX_ADAPT_CMD (c : Nat) : Nat := 0x68 + c * 0x1000
abbrev LRX_RX_STAT (c : Nat) : Nat := 0x70 + c * 0x1000
abbrev LRX_RATE (c : Nat) : Nat := 0x74 + c * 0x1000
abbrev LRX_LQ (c : Nat) : Nat := 0x78 + c * 0x1000
abbrev LRX_PREFEC_EST (c : Nat) : Nat := 0x7C + c * 0x1000
abbrev LRX_NOISE (c : Nat) : Nat := 0x80 + c * 0x1000
abbrev LRX_HELD_AGE (c : Nat) : Nat := 0x84 + c * 0x1000
abbrev LRX_PRE_LAST (c : Nat) : Nat := 0x88 + c * 0x1000
abbrev LRX_CAL_STAT (c : Nat) : Nat := 0x8C + c * 0x1000
abbrev LRX_CNT_DETECT (c : Nat) : Nat := 0x90 + c * 0x1000
abbrev LRX_CNT_MISS (c : Nat) : Nat := 0x94 + c * 0x1000
abbrev LRX_CNT_FREEZE (c : Nat) : Nat := 0x98 + c * 0x1000
abbrev LRX_CNT_DEFAULTS (c : Nat) : Nat := 0x9C + c * 0x1000
abbrev LRX_CNT_LOL (c : Nat) : Nat := 0xA0 + c * 0x1000
abbrev LRX_CNT_CLIP (c : Nat) : Nat := 0xA4 + c * 0x1000
abbrev LRX_CNT_DOZE_GRP (c : Nat) : Nat := 0xA8 + c * 0x1000
abbrev LRX_CNT_SLIP (c : Nat) : Nat := 0xAC + c * 0x1000
abbrev LRX_TAP (c n : Nat) : Nat := (0x100 + c * 0x1000) + n * 0x4
abbrev LTX_TX_CTL (n : Nat) : Nat := 0x04040 + n * 0x10
abbrev LTX_TX_FIR (n : Nat) : Nat := 0x04044 + n * 0x10
abbrev LTX_TX_TEST (n : Nat) : Nat := 0x04048 + n * 0x10
abbrev LTX_TX_STAT (n : Nat) : Nat := 0x0404C + n * 0x10
abbrev DSF_ALIGN_CTL : Nat := 0x05040
abbrev DSF_COAST_CFG : Nat := 0x05044
abbrev DSF_PSL_CFG : Nat := 0x05048
abbrev DSF_BER_CFG : Nat := 0x0504C
abbrev DSF_LISTEN (n : Nat) : Nat := 0x05050 + n * 0x4
abbrev DSF_CH_STAT (n : Nat) : Nat := 0x05100 + n * 0x80
abbrev DSF_CH_FC_LO (n : Nat) : Nat := 0x05104 + n * 0x80
abbrev DSF_CH_FC_HI (n : Nat) : Nat := 0x05108 + n * 0x80
abbrev DSF_CH_HDR (n : Nat) : Nat := 0x0510C + n * 0x80
abbrev DSF_CH_MAP (n : Nat) : Nat := 0x05110 + n * 0x80
abbrev DSF_CH_BER (n : Nat) : Nat := 0x05114 + n * 0x80
abbrev DSF_CH_CMD (n : Nat) : Nat := 0x0515C + n * 0x80
abbrev DSF_CNT_CW_LO (n : Nat) : Nat := 0x05118 + n * 0x80
abbrev DSF_CNT_CW_HI (n : Nat) : Nat := 0x0511C + n * 0x80
abbrev DSF_CNT_CW_CORR (n : Nat) : Nat := 0x05120 + n * 0x80
abbrev DSF_CNT_SYM_CORR_LO (n : Nat) : Nat := 0x05124 + n * 0x80
abbrev DSF_CNT_SYM_CORR_HI (n : Nat) : Nat := 0x05128 + n * 0x80
abbrev DSF_CNT_BIT_CORR_LO (n : Nat) : Nat := 0x0512C + n * 0x80
abbrev DSF_CNT_BIT_CORR_HI (n : Nat) : Nat := 0x05130 + n * 0x80
abbrev DSF_CNT_CW_UNCORR (n : Nat) : Nat := 0x05134 + n * 0x80
abbrev DSF_CNT_HDR_ERR (n : Nat) : Nat := 0x05138 + n * 0x80
abbrev DSF_CNT_LOF (n : Nat) : Nat := 0x0513C + n * 0x80
abbrev DSF_CNT_FC_JUMP (n : Nat) : Nat := 0x05140 + n * 0x80
abbrev DSF_CNT_FC_BACK (n : Nat) : Nat := 0x05144 + n * 0x80
abbrev DSF_CNT_MAP_LOST (n : Nat) : Nat := 0x05148 + n * 0x80
abbrev DSF_CNT_FRAG_DISC (n : Nat) : Nat := 0x0514C + n * 0x80
abbrev DSF_CNT_HEC_ERR (n : Nat) : Nat := 0x05150 + n * 0x80
abbrev DSF_CNT_REALIGN (n : Nat) : Nat := 0x05154 + n * 0x80
abbrev DSF_CNT_FALSE_CAND (n : Nat) : Nat := 0x05158 + n * 0x80
abbrev TRB_TRB_CTL : Nat := 0x06040
abbrev TRB_MAP_CTL : Nat := 0x06044
abbrev TRB_TBL_ADDR : Nat := 0x06048
abbrev TRB_TBL_CMD : Nat := 0x0604C
abbrev TRB_TBL_STAT : Nat := 0x06050
abbrev TRB_TBL_DATA_LO : Nat := 0x06054
abbrev TRB_TBL_DATA_HI : Nat := 0x06058
abbrev TRB_ST_SEL : Nat := 0x06060
abbrev TRB_ST_FLAGS (i : Nat) : Nat := idxKey 0x06064 i
abbrev TRB_ST_RATE : Nat := 0x06068
abbrev TRB_ST_LABEL : Nat := 0x0606C
abbrev TRB_CNT_DJN (i : Nat) : Nat := idxKey 0x06070 i
abbrev TRB_CNT_DJP (i : Nat) : Nat := idxKey 0x06074 i
abbrev TRB_CNT_UJN (i : Nat) : Nat := idxKey 0x06078 i
abbrev TRB_CNT_UJP (i : Nat) : Nat := idxKey 0x0607C i
abbrev TRB_CNT_SLIP (i : Nat) : Nat := idxKey 0x06080 i
abbrev TRB_CNT_LOST (i : Nat) : Nat := idxKey 0x06084 i
abbrev TRB_CNT_SEQ_ERR (i : Nat) : Nat := idxKey 0x06088 i
abbrev TRB_CNT_UP_DROP (i : Nat) : Nat := idxKey 0x0608C i
abbrev TRB_CNT_CHDR_ERR : Nat := 0x06090
abbrev TRB_CNT_FRAG_BAD : Nat := 0x06094
abbrev TRB_CNT_VOTE : Nat := 0x06098
abbrev TRB_CNT_FORCE : Nat := 0x0609C
abbrev TRB_CNT_GRP_LOST : Nat := 0x060A0
abbrev TRB_TEST_CTL : Nat := 0x060A4
abbrev TRB_TEST_ERR : Nat := 0x060A8
abbrev TRB_LANE_SYNC_LO : Nat := 0x060AC
abbrev TRB_LANE_SYNC_HI : Nat := 0x060B0
abbrev TRB_LANE_CRC_SEL : Nat := 0x060B4
abbrev TRB_LANE_CNT_CRC (i : Nat) : Nat := idxKey 0x060B8 i
abbrev TRB_TRIB_ALM (n : Nat) : Nat := 0x06100 + n * 0x4
abbrev ACT_ACT_CTL : Nat := 0x07040
abbrev ACT_ACT_STAT : Nat := 0x07044
abbrev ACT_SERIAL_LO : Nat := 0x07048
abbrev ACT_SERIAL_HI : Nat := 0x0704C
abbrev ACT_TMR_CFG0 : Nat := 0x07050
abbrev ACT_TMR_CFG1 : Nat := 0x07054
abbrev ACT_CHAN_CTL : Nat := 0x07058
abbrev ACT_CHAN_STAT : Nat := 0x0705C
abbrev ACT_EQD (n : Nat) : Nat := 0x07060 + n * 0x4
abbrev ACT_GUARD_STAT : Nat := 0x07070
abbrev ACT_GUARD_CMD : Nat := 0x07074
abbrev ACT_LOCAL_REL : Nat := 0x07078
abbrev ACT_SIL_STAT : Nat := 0x0707C
abbrev ACT_MSG_LAST : Nat := 0x07080
abbrev ACT_UMSG_STAT : Nat := 0x07084
abbrev ACT_CAP_SEL : Nat := 0x07088
abbrev ACT_CNT_MSG_OK : Nat := 0x07090
abbrev ACT_CNT_MSG_CRC : Nat := 0x07094
abbrev ACT_CNT_MSG_UNK : Nat := 0x07098
abbrev ACT_CNT_MSG_STATE : Nat := 0x0709C
abbrev ACT_CNT_MSG_REP : Nat := 0x070A0
abbrev ACT_CNT_MSG_BAD : Nat := 0x070A4
abbrev ACT_CNT_ANN : Nat := 0x070A8
abbrev ACT_CNT_ANN_TO : Nat := 0x070AC
abbrev ACT_CNT_HOLD : Nat := 0x070B0
abbrev ACT_CNT_SILENCE : Nat := 0x070B4
abbrev ACT_CNT_GUARD : Nat := 0x070B8
abbrev ACT_CNT_UMSG_DROP : Nat := 0x070BC
abbrev ACT_CAP (n : Nat) : Nat := 0x07100 + n * 0x4
abbrev UPB_UPB_CTL : Nat := 0x08040
abbrev UPB_GSM_CTL : Nat := 0x08044
abbrev UPB_GSM_ADDR : Nat := 0x08048
abbrev UPB_GSM_DATA : Nat := 0x0804C
abbrev UPB_GSM_CMD : Nat := 0x08050
abbrev UPB_GSM_STAT : Nat := 0x08054
abbrev UPB_GT_SEL : Nat := 0x08058
abbrev UPB_GT_ENTRY_LO : Nat := 0x0805C
abbrev UPB_GT_ENTRY_HI : Nat := 0x08060
abbrev UPB_GT_COUNT : Nat := 0x08064
abbrev UPB_GT_LAST_REFUSE : Nat := 0x08068
abbrev UPB_CH_STAT : Nat := 0x0806C
abbrev UPB_GS_SEL : Nat := 0x08070
abbrev UPB_GS_STAT : Nat := 0x08074
abbrev UPB_CNT_GRANT (n : Nat) : Nat := 0x08100 + n * 0x40
abbrev UPB_CNT_GRANT_REF (n : Nat) : Nat := 0x08104 + n * 0x40
abbrev UPB_CNT_GRANT_DISC (n : Nat) : Nat := 0x08108 + n * 0x40
abbrev UPB_CNT_BURST (n : Nat) : Nat := 0x0810C + n * 0x40
abbrev UPB_CNT_BURST_SKIP (n : Nat) : Nat := 0x08110 + n * 0x40
abbrev UPB_CNT_BURST_EMPTY (n : Nat) : Nat := 0x08114 + n * 0x40
abbrev UPB_CNT_FRAG (n : Nat) : Nat := 0x08118 + n * 0x40
abbrev UPB_CNT_PKT (n : Nat) : Nat := 0x0811C + n * 0x40
abbrev UPB_CNT_RESTART (n : Nat) : Nat := 0x08120 + n * 0x40
abbrev UPB_CNT_LATE_IDLE (n : Nat) : Nat := 0x08124 + n * 0x40
abbrev UPB_CNT_WORDS_LO (n : Nat) : Nat := 0x08128 + n * 0x40
abbrev UPB_CNT_WORDS_HI (n : Nat) : Nat := 0x0812C + n * 0x40
abbrev LCK_LCK_CTL : Nat := 0x09040
abbrev LCK_KEY_STAT : Nat := 0x09044
abbrev LCK_SLOT_SEL : Nat := 0x09048
abbrev LCK_SLOT_STAT : Nat := 0x0904C
abbrev LCK_SLOT_USE : Nat := 0x09050
abbrev LCK_SLOT_NONCE_LO : Nat := 0x09054
abbrev LCK_SLOT_NONCE_HI : Nat := 0x09058
abbrev LCK_KEY_ERASE : Nat := 0x0905C
abbrev LCK_PAIR_FLAGS : Nat := 0x09060
abbrev LCK_CNT_FRAG_LO (n : Nat) : Nat := 0x09080 + n * 0x20
abbrev LCK_CNT_FRAG_HI (n : Nat) : Nat := 0x09084 + n * 0x20
abbrev LCK_CNT_AUTH_FAIL (n : Nat) : Nat := 0x09088 + n * 0x20
abbrev LCK_CNT_NO_KEY (n : Nat) : Nat := 0x0908C + n * 0x20
abbrev LCK_CNT_OLD_KEY (n : Nat) : Nat := 0x09090 + n * 0x20
abbrev LCK_CNT_REPLAY (n : Nat) : Nat := 0x09094 + n * 0x20
abbrev LCK_CNT_CLEAR_DISC (n : Nat) : Nat := 0x09098 + n * 0x20
abbrev LCK_CNT_ROLL (n : Nat) : Nat := 0x0909C + n * 0x20
abbrev LCK_ROLL_CTL (n : Nat) : Nat := 0x09200 + n * 0x10
abbrev LCK_ROLL_FC_LO (n : Nat) : Nat := 0x09204 + n * 0x10
abbrev LCK_ROLL_FC_HI (n : Nat) : Nat := 0x09208 + n * 0x10
abbrev KEY_UNW_CFG : Nat := 0x0A040
abbrev KEY_UNW_LOCK : Nat := 0x0A044
abbrev KEY_KEY_CMD : Nat := 0x0A048
abbrev KEY_KEY_JOB : Nat := 0x0A04C
abbrev KEY_WRAP_STAT : Nat := 0x0A050
abbrev KEY_UNW_STAT : Nat := 0x0A054
abbrev KEY_CNT_UNWRAP_OK : Nat := 0x0A060
abbrev KEY_CNT_UNWRAP_FAIL : Nat := 0x0A064
abbrev KEY_CNT_DUP_KEY : Nat := 0x0A068
abbrev KEY_CNT_INSTALL : Nat := 0x0A06C
abbrev KEY_BLOB (n : Nat) : Nat := 0x0A080 + n * 0x4
abbrev TIM_TIM_CTL : Nat := 0x0B040
abbrev TIM_SERVO_CFG : Nat := 0x0B044
abbrev TIM_JUMP_CFG : Nat := 0x0B048
abbrev TIM_FREQ_CFG : Nat := 0x0B04C
abbrev TIM_TIM_STAT : Nat := 0x0B050
abbrev TIM_TIME_SEC_LO : Nat := 0x0B054
abbrev TIM_TIME_SEC_HI : Nat := 0x0B058
abbrev TIM_TIME_NS : Nat := 0x0B05C
abbrev TIM_TIME_FRAC : Nat := 0x0B060
abbrev TIM_FREQ : Nat := 0x0B064
abbrev TIM_INTEG : Nat := 0x0B068
abbrev TIM_LAST_OFS : Nat := 0x0B06C
abbrev TIM_REF_SEC_LO : Nat := 0x0B070
abbrev TIM_REF_SEC_HI : Nat := 0x0B074
abbrev TIM_REF_NS : Nat := 0x0B078
abbrev TIM_TIM_CMD : Nat := 0x0B07C
abbrev TIM_STEP_SEC_LO : Nat := 0x0B080
abbrev TIM_STEP_SEC_HI : Nat := 0x0B084
abbrev TIM_STEP_NS : Nat := 0x0B088
abbrev TIM_CH_ASYM (n : Nat) : Nat := 0x0B090 + n * 0x4
abbrev TIM_CH_OFS (n : Nat) : Nat := 0x0B0A0 + n * 0x4
abbrev TIM_RTC_LO : Nat := 0x0B0B0
abbrev TIM_RTC_HI : Nat := 0x0B0B4
abbrev TIM_RTC_TRIM : Nat := 0x0B0B8
abbrev TIM_SLEEP_LAST : Nat := 0x0B0BC
abbrev TIM_B_CFG : Nat := 0x0B0C0
abbrev TIM_B_AT_SEC : Nat := 0x0B0C4
abbrev TIM_B_AT_NS : Nat := 0x0B0C8
abbrev TIM_B_OFS : Nat := 0x0B0CC
abbrev TIM_B_STAT : Nat := 0x0B0D0
abbrev TIM_B_PHASE : Nat := 0x0B0D4
abbrev TIM_B_FREQ : Nat := 0x0B0D8
abbrev TIM_CNT_TOD : Nat := 0x0B0E0
abbrev TIM_CNT_TOD_UNRANGED : Nat := 0x0B0E4
abbrev TIM_CNT_TOD_STALE : Nat := 0x0B0E8
abbrev TIM_CNT_TOD_EQD : Nat := 0x0B0EC
abbrev TIM_CNT_JUMP : Nat := 0x0B0F0
abbrev TIM_CNT_STEP : Nat := 0x0B0F4
abbrev TIM_CNT_B_STALE : Nat := 0x0B0F8
abbrev TIM_CNT_SWITCH : Nat := 0x0B0FC
abbrev SM_SEAM_CTL (p : Nat) : Nat := p * 0x1000 + 0x040
abbrev SM_SEAM_STAT (p : Nat) : Nat := p * 0x1000 + 0x044
abbrev SM_HELD (p : Nat) : Nat := p * 0x1000 + 0x048
abbrev SM_CNT_CRC (p : Nat) : Nat := p * 0x1000 + 0x050
abbrev SM_CNT_REPLAY (p : Nat) : Nat := p * 0x1000 + 0x054
abbrev SM_CNT_DOWN (p : Nat) : Nat := p * 0x1000 + 0x058
abbrev SM_CNT_FLIT_DROP (p : Nat) : Nat := p * 0x1000 + 0x05C
abbrev PRS_PRS_CTL : Nat := 0x40040
abbrev PRS_PRS_CFG : Nat := 0x40044
abbrev PRS_PROG_CTL : Nat := 0x40048
abbrev PRS_PROG_ADDR : Nat := 0x4004C
abbrev PRS_PROG_CMD : Nat := 0x40050
abbrev PRS_PROG_STAT : Nat := 0x40054
abbrev PRS_PROG_DATA (n : Nat) : Nat := 0x40060 + n * 0x4
abbrev PRS_ENG_STAT : Nat := 0x40070
abbrev PRS_FAULT_LAST : Nat := 0x40074
abbrev PRS_CNT_PARSED_LO : Nat := 0x40080
abbrev PRS_CNT_PARSED_HI : Nat := 0x40084
abbrev PRS_CNT_FB_BUSY : Nat := 0x40088
abbrev PRS_CNT_FB_OFF : Nat := 0x4008C
abbrev PRS_CNT_FAULT : Nat := 0x40090
abbrev PRS_CNT_DEEP : Nat := 0x40094
abbrev PRS_CNT_FRAG : Nat := 0x40098
abbrev PRS_CNT_MALFORMED : Nat := 0x4009C
abbrev PRS_CNT_PROG_UE : Nat := 0x400A0
abbrev CLS_CLS_CTL : Nat := 0x41040
abbrev CLS_FLOW_CTL : Nat := 0x41044
abbrev CLS_FLOW_EXT : Nat := 0x41048
abbrev CLS_EPOCH_STAT : Nat := 0x4104C
abbrev CLS_EPOCH_SEL : Nat := 0x41050
abbrev CLS_EPOCH_CNT : Nat := 0x41054
abbrev CLS_TREE_ADDR : Nat := 0x41058
abbrev CLS_TREE_STAT : Nat := 0x4105C
abbrev CLS_TREE_DATA (n : Nat) : Nat := 0x41060 + n * 0x4
abbrev CLS_FLOW_ADDR : Nat := 0x41070
abbrev CLS_FLOW_CMD : Nat := 0x41074
abbrev CLS_FLOW_STAT : Nat := 0x41078
abbrev CLS_FLOW_DATA (n : Nat) : Nat := 0x41080 + n * 0x4
abbrev CLS_FLOW_MASK_LO : Nat := 0x410C0
abbrev CLS_FLOW_MASK_HI : Nat := 0x410C4
abbrev CLS_RCNT_SEL : Nat := 0x410C8
abbrev CLS_RCNT_LO : Nat := 0x410CC
abbrev CLS_RCNT_HI : Nat := 0x410D0
abbrev CLS_RS_BIND (n : Nat) : Nat := 0x41100 + n * 0x4
abbrev CLS_RS_ROOT (n : Nat) : Nat := 0x41200 + n * 0x10
abbrev CLS_RS_EXT (n : Nat) : Nat := 0x41204 + n * 0x10
abbrev CLS_RS_DFLT (n : Nat) : Nat := 0x41208 + n * 0x10
abbrev CLS_CNT_CLS_LO : Nat := 0x41300
abbrev CLS_CNT_CLS_HI : Nat := 0x41304
abbrev CLS_CNT_NO_RULES : Nat := 0x41308
abbrev CLS_CNT_WALK_FAULT : Nat := 0x4130C
abbrev CLS_CNT_TREE_UE : Nat := 0x41310
abbrev CLS_CNT_RECIRC : Nat := 0x41314
abbrev CLS_CNT_RC_LIMIT : Nat := 0x41318
abbrev CLS_CNT_RC_DROP : Nat := 0x4131C
abbrev CLS_CNT_BADQ : Nat := 0x41320
abbrev CLS_CNT_FLOW_HIT : Nat := 0x41324
abbrev CLS_CNT_FLOW_MISS : Nat := 0x41328
abbrev CLS_CNT_LEARN : Nat := 0x4132C
abbrev CLS_CNT_LEARN_FAIL : Nat := 0x41330
abbrev CLS_CNT_AGED : Nat := 0x41334
abbrev CLS_CNT_FLOW_UE : Nat := 0x41338
abbrev CLS_CNT_EXC : Nat := 0x4133C
abbrev BPM_BPM_CTL : Nat := 0x42040
abbrev BPM_QMAP_CTL : Nat := 0x42044
abbrev BPM_QMAP_ADDR : Nat := 0x42048
abbrev BPM_QMAP_DATA : Nat := 0x4204C
abbrev BPM_QMAP_CMD : Nat := 0x42050
abbrev BPM_QMAP_STAT : Nat := 0x42054
abbrev BPM_BUF_CMD : Nat := 0x42060
abbrev BPM_BUF_HDL_LO : Nat := 0x42064
abbrev BPM_BUF_HDL_HI : Nat := 0x42068
abbrev BPM_BUF_ARG : Nat := 0x4206C
abbrev BPM_BUF_STAT : Nat := 0x42070
abbrev BPM_LAST_REFUSE_LO : Nat := 0x42074
abbrev BPM_LAST_REFUSE_HI : Nat := 0x42078
abbrev BPM_POOL_SEL : Nat := 0x4207C
abbrev BPM_POOL_FREE : Nat := 0x42080
abbrev BPM_POOL_HELD : Nat := 0x42084
abbrev BPM_POOL_GONE : Nat := 0x42088
abbrev BPM_ONP_CNT (n : Nat) : Nat := 0x42100 + n * 0x4
abbrev BPM_EXT_REG (n : Nat) : Nat := 0x42200 + n * 0x4
abbrev BPM_PROF_CFG (n : Nat) : Nat := 0x42300 + n * 0x4
abbrev BPM_CNT_ALLOC_LO : Nat := 0x420A0
abbrev BPM_CNT_ALLOC_HI : Nat := 0x420A4
abbrev BPM_CNT_NOBUF : Nat := 0x420A8
abbrev BPM_CNT_UP : Nat := 0x420AC
abbrev BPM_CNT_SPILL : Nat := 0x420B0
abbrev BPM_CNT_TOO_LONG : Nat := 0x420B4
abbrev BPM_CNT_REFUSED : Nat := 0x420B8
abbrev BPM_CNT_SHARE : Nat := 0x420BC
abbrev BPM_CNT_DEAD : Nat := 0x420C0
abbrev BPM_CNT_RETIRED_BUF : Nat := 0x420C4
abbrev MEM_MEM_CTL (c : Nat) : Nat := 0x43040 + c * 0x1000
abbrev MEM_MEM_CMD (c : Nat) : Nat := 0x43044 + c * 0x1000
abbrev MEM_MEM_STAT (c : Nat) : Nat := 0x43048 + c * 0x1000
abbrev MEM_EAVE (c : Nat) : Nat := 0x4304C + c * 0x1000
abbrev MEM_FILL_CFG (c : Nat) : Nat := 0x43050 + c * 0x1000
abbrev MEM_SKIP_START (c : Nat) : Nat := 0x43054 + c * 0x1000
abbrev MEM_SKIP_END (c : Nat) : Nat := 0x43058 + c * 0x1000
abbrev MEM_CNT_CE (c : Nat) : Nat := 0x43060 + c * 0x1000
abbrev MEM_CNT_UE (c : Nat) : Nat := 0x43064 + c * 0x1000
abbrev MEM_CNT_WB (c : Nat) : Nat := 0x43068 + c * 0x1000
abbrev MEM_CNT_ABOVE_EAVE (c : Nat) : Nat := 0x4306C + c * 0x1000
abbrev MEM_CNT_NARROW (c : Nat) : Nat := 0x43070 + c * 0x1000
abbrev MEM_CNT_TRAIN_FAIL (c : Nat) : Nat := 0x43074 + c * 0x1000
abbrev ECC_SCRUB_CFG : Nat := 0x47040
abbrev ECC_SCRUB_STAT : Nat := 0x47044
abbrev ECC_CE_CFG : Nat := 0x47048
abbrev ECC_RET_ADDR : Nat := 0x4704C
abbrev ECC_RET_CMD : Nat := 0x47050
abbrev ECC_RET_STAT : Nat := 0x47054
abbrev ECC_TRACK_SEL : Nat := 0x47058
abbrev ECC_TRACK_ENTRY : Nat := 0x4705C
abbrev ECC_LAST (n : Nat) : Nat := 0x47060 + n * 0x4
abbrev ECC_CNT_ON_CE : Nat := 0x47080
abbrev ECC_CNT_ON_UE : Nat := 0x47084
abbrev ECC_CNT_ON_NARROW : Nat := 0x47088
abbrev ECC_CNT_CE_REPEAT : Nat := 0x4708C
abbrev ECC_CNT_RETIRED : Nat := 0x47090
abbrev MXE_MXE_CTL : Nat := 0x48040
abbrev MXE_MXE_CMD : Nat := 0x48044
abbrev MXE_MXE_STAT : Nat := 0x48048
abbrev MXE_RK_PTR (n : Nat) : Nat := 0x48050 + n * 0x4
abbrev MXE_CNT_REKEY : Nat := 0x48060
abbrev SCH_SCH_CTL : Nat := 0x49040
abbrev SCH_Q_SEL (i : Nat) : Nat := idxKey 0x49044 i
abbrev SCH_Q_STAT : Nat := 0x49048
abbrev SCH_Q_CFG (i : Nat) : Nat := idxKey 0x4904C i
abbrev SCH_Q_LEN (i : Nat) : Nat := idxKey 0x49050 i
abbrev SCH_Q_LIM (i : Nat) : Nat := idxKey 0x49054 i
abbrev SCH_Q_DEPTH : Nat := 0x49058
abbrev SCH_Q_PKTS : Nat := 0x4905C
abbrev SCH_Q_HWM (i : Nat) : Nat := idxKey 0x49060 i
abbrev SCH_Q_CMD : Nat := 0x49064
abbrev SCH_Q_TX_LO (i : Nat) : Nat := idxKey 0x49068 i
abbrev SCH_Q_TX_HI (i : Nat) : Nat := idxKey 0x4906C i
abbrev SCH_Q_DROP (i : Nat) : Nat := idxKey 0x49070 i
abbrev SCH_CNT_ENQ_LO : Nat := 0x49080
abbrev SCH_CNT_ENQ_HI : Nat := 0x49084
abbrev SCH_CNT_MAXLEN : Nat := 0x49088
abbrev SCH_CNT_QFULL : Nat := 0x4908C
abbrev SHP_SHP_CTL : Nat := 0x4A040
abbrev SHP_S_SEL (i : Nat) : Nat := idxKey 0x4A044 i
abbrev SHP_S_STAT : Nat := 0x4A048
abbrev SHP_SHAPER_RATE (i : Nat) : Nat := idxKey 0x4A04C i
abbrev SHP_SHAPER_CFG (i : Nat) : Nat := idxKey 0x4A050 i
abbrev SHP_S_CREDIT : Nat := 0x4A054
abbrev SHP_CNT_RESET : Nat := 0x4A060
abbrev POL_POL_CTL : Nat := 0x4B040
abbrev POL_P_SEL (i : Nat) : Nat := idxKey 0x4B044 i
abbrev POL_P_STAT : Nat := 0x4B048
abbrev POL_POL_RATE (i : Nat) : Nat := idxKey 0x4B04C i
abbrev POL_POL_CFG (i : Nat) : Nat := idxKey 0x4B050 i
abbrev POL_P_CREDIT : Nat := 0x4B054
abbrev POL_P_PASS_LO (i : Nat) : Nat := idxKey 0x4B058 i
abbrev POL_P_PASS_HI (i : Nat) : Nat := idxKey 0x4B05C i
abbrev POL_P_DROP (i : Nat) : Nat := idxKey 0x4B060 i
abbrev POL_CNT_POL_DROP : Nat := 0x4B070
abbrev GAT_GATE_ACT_LO : Nat := 0x4C040
abbrev GAT_GATE_ACT_HI : Nat := 0x4C044
abbrev GAT_G_SEL (i : Nat) : Nat := idxKey 0x4C048 i
abbrev GAT_G_STAT : Nat := 0x4C04C
abbrev GAT_G_ENTRY_LO : Nat := 0x4C050
abbrev GAT_G_ENTRY_HI : Nat := 0x4C054
abbrev GAT_G_LIST : Nat := 0x4C058
abbrev GAT_G_CYCLE : Nat := 0x4C05C
abbrev GAT_G_PHASE : Nat := 0x4C060
abbrev GAT_G_CMD : Nat := 0x4C064
abbrev GAT_G_LANE : Nat := 0x4C068
abbrev GAT_CNT_GATE_OVERSIZE : Nat := 0x4C070
abbrev GAT_CNT_SWITCH : Nat := 0x4C074
abbrev BPQ_QUAD_CTL (q : Nat) : Nat := 0x4D040 + q * 0x1000
abbrev BPQ_QUAD_STAT (q : Nat) : Nat := 0x4D044 + q * 0x1000
abbrev BPQ_LANE_CTL (l : Nat) : Nat := 0x4D100 + l / 4 * 0x1000 + l % 4 * 0x80
abbrev BPQ_LANE_CMD (l : Nat) : Nat := 0x4D104 + l / 4 * 0x1000 + l % 4 * 0x80
abbrev BPQ_LANE_STAT (l : Nat) : Nat := 0x4D108 + l / 4 * 0x1000 + l % 4 * 0x80
abbrev BPQ_FRAME_CFG (l : Nat) : Nat := 0x4D10C + l / 4 * 0x1000 + l % 4 * 0x80
abbrev BPQ_FC_CFG (l : Nat) : Nat := 0x4D110 + l / 4 * 0x1000 + l % 4 * 0x80
abbrev BPQ_FC_THR (l : Nat) : Nat := 0x4D114 + l / 4 * 0x1000 + l % 4 * 0x80
abbrev BPQ_FC_STAT (l : Nat) : Nat := 0x4D118 + l / 4 * 0x1000 + l % 4 * 0x80
abbrev BPQ_RX_HELD (l : Nat) : Nat := 0x4D11C + l / 4 * 0x1000 + l % 4 * 0x80
abbrev BPQ_SLEEP_CFG (l : Nat) : Nat := 0x4D120 + l / 4 * 0x1000 + l % 4 * 0x80
abbrev BPQ_AN_ADV (l : Nat) : Nat := 0x4D124 + l / 4 * 0x1000 + l % 4 * 0x80
abbrev BPQ_TX_EQ (l : Nat) : Nat := 0x4D128 + l / 4 * 0x1000 + l % 4 * 0x80
abbrev BPQ_CNT_RX_OK_LO (l : Nat) : Nat := 0x4D130 + l / 4 * 0x1000 + l % 4 * 0x80
abbrev BPQ_CNT_RX_OK_HI (l : Nat) : Nat := 0x4D134 + l / 4 * 0x1000 + l % 4 * 0x80
abbrev BPQ_CNT_TX_OK_LO (l : Nat) : Nat := 0x4D138 + l / 4 * 0x1000 + l % 4 * 0x80
abbrev BPQ_CNT_TX_OK_HI (l : Nat) : Nat := 0x4D13C + l / 4 * 0x1000 + l % 4 * 0x80
abbrev BPQ_CNT_RUNT (l : Nat) : Nat := 0x4D140 + l / 4 * 0x1000 + l % 4 * 0x80
abbrev BPQ_CNT_OVERSIZE (l : Nat) : Nat := 0x4D144 + l / 4 * 0x1000 + l % 4 * 0x80
abbrev BPQ_CNT_FCS (l : Nat) : Nat := 0x4D148 + l / 4 * 0x1000 + l % 4 * 0x80
abbrev BPQ_CNT_TX_DISC (l : Nat) : Nat := 0x4D14C + l / 4 * 0x1000 + l % 4 * 0x80
abbrev BPQ_CNT_UNDERRUN (l : Nat) : Nat := 0x4D150 + l / 4 * 0x1000 + l % 4 * 0x80
abbrev BPQ_CNT_CT_ABORT (l : Nat) : Nat := 0x4D154 + l / 4 * 0x1000 + l % 4 * 0x80
abbrev BPQ_CNT_PAUSE_RX (l : Nat) : Nat := 0x4D158 + l / 4 * 0x1000 + l % 4 * 0x80
abbrev BPQ_CNT_PAUSE_TX (l : Nat) : Nat := 0x4D15C + l / 4 * 0x1000 + l % 4 * 0x80
abbrev BPQ_CNT_FC_IGN (l : Nat) : Nat := 0x4D160 + l / 4 * 0x1000 + l % 4 * 0x80
abbrev BPQ_CNT_FEC_CORR (l : Nat) : Nat := 0x4D164 + l / 4 * 0x1000 + l % 4 * 0x80
abbrev BPQ_CNT_FEC_UNCORR (l : Nat) : Nat := 0x4D168 + l / 4 * 0x1000 + l % 4 * 0x80
abbrev BPQ_CNT_LINK_DOWN (l : Nat) : Nat := 0x4D16C + l / 4 * 0x1000 + l % 4 * 0x80
abbrev BPQ_CNT_TRAIN_FAIL (l : Nat) : Nat := 0x4D170 + l / 4 * 0x1000 + l % 4 * 0x80
abbrev LMC_LMC_CTL : Nat := 0x59040
abbrev LMC_MDIO_CMD : Nat := 0x59044
abbrev LMC_MDIO_STAT : Nat := 0x59048
abbrev LMC_PORT_CFG (n : Nat) : Nat := 0x59100 + n * 0x80
abbrev LMC_PORT_STAT (n : Nat) : Nat := 0x59104 + n * 0x80
abbrev LMC_PORT_THR (n : Nat) : Nat := 0x59108 + n * 0x80
abbrev LMC_PORT_FC (n : Nat) : Nat := 0x5910C + n * 0x80
abbrev LMC_CNT_RX_OK (n : Nat) : Nat := 0x59110 + n * 0x80
abbrev LMC_CNT_TX_OK (n : Nat) : Nat := 0x59114 + n * 0x80
abbrev LMC_CNT_RUNT (n : Nat) : Nat := 0x59118 + n * 0x80
abbrev LMC_CNT_OVERSIZE (n : Nat) : Nat := 0x5911C + n * 0x80
abbrev LMC_CNT_FCS (n : Nat) : Nat := 0x59120 + n * 0x80
abbrev LMC_CNT_TX_DISC (n : Nat) : Nat := 0x59124 + n * 0x80
abbrev LMC_CNT_COLL (n : Nat) : Nat := 0x59128 + n * 0x80
abbrev LMC_CNT_LATE_COLL (n : Nat) : Nat := 0x5912C + n * 0x80
abbrev LMC_CNT_EXC_COLL (n : Nat) : Nat := 0x59130 + n * 0x80
abbrev LMC_CNT_UNDERRUN (n : Nat) : Nat := 0x59134 + n * 0x80
abbrev LMC_CNT_PAUSE_RX (n : Nat) : Nat := 0x59138 + n * 0x80
abbrev LMC_CNT_PAUSE_TX (n : Nat) : Nat := 0x5913C + n * 0x80
abbrev LMC_CNT_FC_IGN (n : Nat) : Nat := 0x59140 + n * 0x80
abbrev LMC_CNT_BP (n : Nat) : Nat := 0x59144 + n * 0x80
abbrev LMC_CNT_STEP (n : Nat) : Nat := 0x59148 + n * 0x80
abbrev TCL_TC_CTL : Nat := 0x5A040
abbrev TCL_FU_CFG : Nat := 0x5A044
abbrev TCL_TXTS_STAT : Nat := 0x5A048
abbrev TCL_TXTS_TAG : Nat := 0x5A04C
abbrev TCL_TXTS_SEC : Nat := 0x5A050
abbrev TCL_TXTS_NS : Nat := 0x5A054
abbrev TCL_OUT_CTL : Nat := 0x5A060
abbrev TCL_PPS_CFG : Nat := 0x5A064
abbrev TCL_TODU_CFG : Nat := 0x5A068
abbrev TCL_FOUT_CFG (n : Nat) : Nat := 0x5A070 + n * 0x4
abbrev TCL_CNT_TC_CORR : Nat := 0x5A080
abbrev TCL_CNT_FU_MISS : Nat := 0x5A084
abbrev TCL_CNT_TC_SKIP : Nat := 0x5A088
abbrev TCL_CNT_TXTS_OVF : Nat := 0x5A08C
abbrev CPU_XWIN (n : Nat) : Nat := 0xA0040 + n * 0x4
abbrev CPU_EXC_BASE : Nat := 0xA0060
abbrev CPU_EXC_CFG : Nat := 0xA0064
abbrev CPU_EXC_HEAD : Nat := 0xA0068
abbrev CPU_EXC_TAIL : Nat := 0xA006C
abbrev CPU_INJ_HDL_LO : Nat := 0xA0070
abbrev CPU_INJ_HDL_HI : Nat := 0xA0074
abbrev CPU_INJ_LEN : Nat := 0xA0078
abbrev CPU_INJ_CMD : Nat := 0xA007C
abbrev CPU_INJ_STAT : Nat := 0xA0080
abbrev CPU_INJ_TAG : Nat := 0xA0084
abbrev CPU_CNT_EXC_DROP : Nat := 0xA0090
abbrev CPU_CNT_INJ : Nat := 0xA0094
abbrev CPU_CNT_EXC_DESC : Nat := 0xA0098
abbrev TSK_TSK_CTL : Nat := 0xA1040
abbrev TSK_ITEM_SEL (i : Nat) : Nat := idxKey 0xA1044 i
abbrev TSK_ITEM_CFG (i : Nat) : Nat := idxKey 0xA1048 i
abbrev TSK_ITEM_MASK (i : Nat) : Nat := idxKey 0xA104C i
abbrev TSK_ITEM_ARG (i : Nat) : Nat := idxKey 0xA1050 i
abbrev TSK_ITEM_RDY : Nat := 0xA1054
abbrev TSK_POST : Nat := 0xA1058
abbrev TSK_CANCEL : Nat := 0xA105C
abbrev CMT_CMT_OPEN : Nat := 0xA2040
abbrev CMT_CMT_COMMIT : Nat := 0xA2044
abbrev CMT_CMT_DISCARD : Nat := 0xA2048
abbrev CMT_CMT_ACK : Nat := 0xA204C
abbrev CMT_CMD_STAT : Nat := 0xA2050
abbrev CMT_CUR_TAG (n : Nat) : Nat := 0xA2054 + n * 0x4
abbrev CMT_SLOT (n : Nat) : Nat := 0xA2080 + n * 0x4
abbrev CMT_SLOT_PEND (n : Nat) : Nat := 0xA2090 + n * 0x4
abbrev CMT_CNT_APPLIED : Nat := 0xA20A0
abbrev CMT_CNT_ABORTED : Nat := 0xA20A4
abbrev CMT_CNT_REFUSED : Nat := 0xA20A8
abbrev CMT_TIMEOUT : Nat := 0xA20AC
abbrev EVT_EVT_CTL : Nat := 0xA3040
abbrev EVT_SUM (n : Nat) : Nat := 0xA3044 + n * 0x4
abbrev EVT_MSIX_ARM_LO : Nat := 0xA3060
abbrev EVT_MSIX_ARM_HI : Nat := 0xA3064
abbrev EVT_IRQ_STAT : Nat := 0xA3068
abbrev EVT_SRC_SEL (i : Nat) : Nat := idxKey 0xA3070 i
abbrev EVT_SRC_ROUTE (i : Nat) : Nat := idxKey 0xA3074 i
abbrev EVT_SRC_STAMP_SEC : Nat := 0xA3078
abbrev EVT_SRC_STAMP_NS : Nat := 0xA307C
abbrev EVT_REC_STAT : Nat := 0xA3080
abbrev EVT_REC_SRC : Nat := 0xA3084
abbrev EVT_REC_SEC : Nat := 0xA3088
abbrev EVT_REC_NS : Nat := 0xA308C
abbrev EVT_LOG_CFG : Nat := 0xA3090
abbrev EVT_LOG_STAT : Nat := 0xA3094
abbrev EVT_LOG_SEQ : Nat := 0xA3098
abbrev EVT_PF_STAT : Nat := 0xA309C
abbrev EVT_CNT_REC_LOST : Nat := 0xA30A0
abbrev EVT_CNT_LOG_LOST : Nat := 0xA30A4
abbrev EVT_CNT_LOG_REC : Nat := 0xA30A8
abbrev EVT_CNT_PF : Nat := 0xA30AC
abbrev EVT_GRP_ROUTE (n : Nat) : Nat := 0xA3200 + n * 0x4
abbrev PWR_PWR_CTL : Nat := 0xA4040
abbrev PWR_PWR_CMD : Nat := 0xA4044
abbrev PWR_PWR_STAT : Nat := 0xA4048
abbrev PWR_WAKE_SRC : Nat := 0xA404C
abbrev PWR_WAKE_AT_LO : Nat := 0xA4050
abbrev PWR_WAKE_AT_HI : Nat := 0xA4054
abbrev PWR_WAKE_LAST : Nat := 0xA4058
abbrev PWR_WAKE_FAIL : Nat := 0xA405C
abbrev PWR_PMB_CFG : Nat := 0xA4060
abbrev PWR_DOM_ON_LO : Nat := 0xA4064
abbrev PWR_DOM_ON_HI : Nat := 0xA4068
abbrev PWR_DOM_FAIL_LO : Nat := 0xA406C
abbrev PWR_DOM_FAIL_HI : Nat := 0xA4070
abbrev PWR_CNT_LEVEL : Nat := 0xA4080
abbrev PWR_CNT_LEVEL_FAIL : Nat := 0xA4084
abbrev PWR_CNT_WAKE : Nat := 0xA4088
abbrev PWR_CNT_WAKE_FAIL : Nat := 0xA408C
abbrev PWR_CNT_PMB_RETRY : Nat := 0xA4090
abbrev PWR_CNT_LIMP : Nat := 0xA4094
abbrev RST_RST_CAUSE : Nat := 0xA5040
abbrev RST_RST_CMD : Nat := 0xA5044
abbrev RST_CORE_RUN : Nat := 0xA5048
abbrev RST_BOOT_STAT : Nat := 0xA504C
abbrev RST_BOOT_CMD : Nat := 0xA5050
abbrev RST_BOOT_VER : Nat := 0xA5054
abbrev RST_ENTRY : Nat := 0xA5058
abbrev RST_STRAPS : Nat := 0xA505C
abbrev RST_WDT_CFG : Nat := 0xA5060
abbrev RST_WDT_KICK : Nat := 0xA5064
abbrev HIF_PCIE_STAT : Nat := 0xA6040
abbrev HIF_PCIE_ERR : Nat := 0xA6044
abbrev HIF_SB_STAT : Nat := 0xA6048
abbrev HIF_SB_ERR : Nat := 0xA604C
abbrev HIF_OI2C_CFG : Nat := 0xA6050
abbrev HIF_OI2C_CMD : Nat := 0xA6054
abbrev HIF_OI2C_STAT : Nat := 0xA6058
abbrev HIF_OI2C_DATA0 : Nat := 0xA605C
abbrev HIF_OI2C_DATA1 : Nat := 0xA6060
abbrev HIF_FLASH_ADDR : Nat := 0xA6064
abbrev HIF_FLASH_CMD : Nat := 0xA6068
abbrev HIF_FLASH_STAT : Nat := 0xA606C
abbrev HIF_JTAG_CTL : Nat := 0xA6070
abbrev HIF_JTAG_STAT : Nat := 0xA6074
abbrev HIF_CNT_PCIE_BUSERR : Nat := 0xA6080
abbrev HIF_CNT_SB_BUSERR : Nat := 0xA6084
abbrev HIF_CNT_SB_WOVF : Nat := 0xA6088
abbrev HIF_CNT_SB_RDE_EARLY : Nat := 0xA608C
abbrev HIF_CNT_OI2C_ERR : Nat := 0xA6090
abbrev HIF_CNT_FLASH_ERR : Nat := 0xA6094
abbrev HIF_FLASH_BUF (n : Nat) : Nat := 0xA6100 + n * 0x4
abbrev HIF_MSIX_ADDR_LO (n : Nat) : Nat := 0xA6800 + n * 0x10
abbrev HIF_MSIX_ADDR_HI (n : Nat) : Nat := 0xA6804 + n * 0x10
abbrev HIF_MSIX_DATA (n : Nat) : Nat := 0xA6808 + n * 0x10
abbrev HIF_MSIX_CTL (n : Nat) : Nat := 0xA680C + n * 0x10
abbrev HIF_PBA_LO : Nat := 0xA6C00
abbrev HIF_PBA_HI : Nat := 0xA6C04
abbrev OWN_OWN_STAT : Nat := 0xA7040
abbrev OWN_OWN_RELEASE : Nat := 0xA7044
abbrev OWN_OWN_CLAIM : Nat := 0xA7048
abbrev OWN_OWN_CTL : Nat := 0xA704C
abbrev OWN_OWN_TIMERS : Nat := 0xA7050
abbrev OWN_OWN_HEARTBEAT : Nat := 0xA7054
abbrev OWN_OWN_PRES_CTL : Nat := 0xA7058
abbrev OWN_OWN_ELECT : Nat := 0xA705C
abbrev OWN_CNT_DENIED : Nat := 0xA7060
abbrev OWN_CNT_HANDOVER : Nat := 0xA7064
abbrev OWN_LAST_DENIED : Nat := 0xA7068
abbrev SYS_SYS_ID : Nat := 0xA8040
abbrev SYS_BIST_CTL : Nat := 0xA8044
abbrev SYS_BIST_STAT : Nat := 0xA8048
abbrev SYS_BIST_ERR : Nat := 0xA804C
abbrev SYS_BIST_ADDR : Nat := 0xA8050

end R

/-! ### Fields -/

namespace F

abbrev HDR_PAGE_ID_PAGE (p : Nat) : Fld := ⟨R.HDR_PAGE_ID p, 0, 8⟩
abbrev HDR_PAGE_ID_DIE (p : Nat) : Fld := ⟨R.HDR_PAGE_ID p, 8, 1⟩
abbrev HDR_PAGE_ID_REV (p : Nat) : Fld := ⟨R.HDR_PAGE_ID p, 16, 8⟩
abbrev HDR_PAGE_CAP_STAGED (p : Nat) : Fld := ⟨R.HDR_PAGE_CAP p, 0, 1⟩
abbrev HDR_PAGE_CAP_HAS_EVT (p : Nat) : Fld := ⟨R.HDR_PAGE_CAP p, 1, 1⟩
abbrev HDR_PAGE_CAP_HAS_LOG (p : Nat) : Fld := ⟨R.HDR_PAGE_CAP p, 2, 1⟩
abbrev HDR_PAGE_CAP_EVT_NUM (p : Nat) : Fld := ⟨R.HDR_PAGE_CAP p, 8, 5⟩
abbrev HDR_PAGE_CAP_TOP_OFS (p : Nat) : Fld := ⟨R.HDR_PAGE_CAP p, 16, 12⟩
abbrev HDR_PAGE_CTL_EVT_OUT (p : Nat) : Fld := ⟨R.HDR_PAGE_CTL p, 0, 1⟩
abbrev HDR_PAGE_CTL_CNT_HOLD (p : Nat) : Fld := ⟨R.HDR_PAGE_CTL p, 1, 1⟩
abbrev HDR_PAGE_CTL_CNT_CLR (p : Nat) : Fld := ⟨R.HDR_PAGE_CTL p, 2, 1⟩
abbrev HDR_PAGE_STAT_POWERED (p : Nat) : Fld := ⟨R.HDR_PAGE_STAT p, 0, 1⟩
abbrev HDR_PAGE_STAT_STALE (p : Nat) : Fld := ⟨R.HDR_PAGE_STAT p, 1, 1⟩
abbrev HDR_PAGE_STAT_STAGED_ANY (p : Nat) : Fld := ⟨R.HDR_PAGE_STAT p, 2, 1⟩
abbrev HDR_PAGE_STAT_APPLYING (p : Nat) : Fld := ⟨R.HDR_PAGE_STAT p, 3, 1⟩
abbrev HDR_PAGE_STAT_CNT_HELD (p : Nat) : Fld := ⟨R.HDR_PAGE_STAT p, 4, 1⟩
abbrev HDR_EVT_RAW_SRC (p : Nat) : Fld := ⟨R.HDR_EVT_RAW p, 0, 16⟩
abbrev HDR_EVT_MASK_SRC (p : Nat) : Fld := ⟨R.HDR_EVT_MASK p, 0, 16⟩
abbrev HDR_EVT_PEND_SRC (p : Nat) : Fld := ⟨R.HDR_EVT_PEND p, 0, 16⟩
abbrev HDR_EVT_FORCE_SRC (p : Nat) : Fld := ⟨R.HDR_EVT_FORCE p, 0, 16⟩
abbrev HDR_STAGE_CNT_COUNT (p : Nat) : Fld := ⟨R.HDR_STAGE_CNT p, 0, 13⟩
abbrev HDR_COMMIT_EPOCH_EPOCH (p : Nat) : Fld := ⟨R.HDR_COMMIT_EPOCH p, 0, 16⟩
abbrev HDR_COMMIT_EPOCH_TAG (p : Nat) : Fld := ⟨R.HDR_COMMIT_EPOCH p, 16, 8⟩
abbrev HDR_LOG_PTR_SEQ (p : Nat) : Fld := ⟨R.HDR_LOG_PTR p, 0, 24⟩
abbrev HDR_LOG_PTR_VALID (p : Nat) : Fld := ⟨R.HDR_LOG_PTR p, 31, 1⟩
abbrev LRX_RX_CTL_ENABLE (c : Nat) : Fld := ⟨R.LRX_RX_CTL c, 0, 1⟩
abbrev LRX_RX_CTL_DOZE_EN (c : Nat) : Fld := ⟨R.LRX_RX_CTL c, 1, 1⟩
abbrev LRX_RX_CTL_NF_EN (c : Nat) : Fld := ⟨R.LRX_RX_CTL c, 2, 1⟩
abbrev LRX_AGC_CFG_TARGET (c : Nat) : Fld := ⟨R.LRX_AGC_CFG c, 0, 7⟩
abbrev LRX_AGC_CFG_FAST_TC (c : Nat) : Fld := ⟨R.LRX_AGC_CFG c, 8, 4⟩
abbrev LRX_AGC_CFG_SLOW_TC (c : Nat) : Fld := ⟨R.LRX_AGC_CFG c, 16, 5⟩
abbrev LRX_AGC_CFG_CLIP_THR (c : Nat) : Fld := ⟨R.LRX_AGC_CFG c, 24, 4⟩
abbrev LRX_EQ_CFG_MU_TRAIN (c : Nat) : Fld := ⟨R.LRX_EQ_CFG c, 0, 4⟩
abbrev LRX_EQ_CFG_MU_TRACK (c : Nat) : Fld := ⟨R.LRX_EQ_CFG c, 4, 4⟩
abbrev LRX_EQ_CFG_DFE_EN (c : Nat) : Fld := ⟨R.LRX_EQ_CFG c, 8, 1⟩
abbrev LRX_EQ_CFG_CTLE_FIX (c : Nat) : Fld := ⟨R.LRX_EQ_CFG c, 12, 4⟩
abbrev LRX_EQ_CFG_CTLE_HOLD (c : Nat) : Fld := ⟨R.LRX_EQ_CFG c, 16, 1⟩
abbrev LRX_EQ_CFG_RESUME_SYM (c : Nat) : Fld := ⟨R.LRX_EQ_CFG c, 24, 5⟩
abbrev LRX_CDR_CFG_BW (c : Nat) : Fld := ⟨R.LRX_CDR_CFG c, 0, 2⟩
abbrev LRX_PRE_CFG_SEED (c : Nat) : Fld := ⟨R.LRX_PRE_CFG c, 0, 8⟩
abbrev LRX_PRE_CFG_THR (c : Nat) : Fld := ⟨R.LRX_PRE_CFG c, 8, 8⟩
abbrev LRX_PRE_CFG_SLIP (c : Nat) : Fld := ⟨R.LRX_PRE_CFG c, 16, 6⟩
abbrev LRX_ARM_CFG_HALF (c : Nat) : Fld := ⟨R.LRX_ARM_CFG c, 0, 12⟩
abbrev LRX_IDLE_CFG_THR (c : Nat) : Fld := ⟨R.LRX_IDLE_CFG c, 0, 7⟩
abbrev LRX_DOZE_CFG_LEAD (c : Nat) : Fld := ⟨R.LRX_DOZE_CFG c, 0, 11⟩
abbrev LRX_DOZE_CFG_MIN_GRP (c : Nat) : Fld := ⟨R.LRX_DOZE_CFG c, 12, 4⟩
abbrev LRX_LQ_CFG_LOW (c : Nat) : Fld := ⟨R.LRX_LQ_CFG c, 0, 9⟩
abbrev LRX_LQ_CFG_NF_WIN (c : Nat) : Fld := ⟨R.LRX_LQ_CFG c, 24, 4⟩
abbrev LRX_CAL_CTL_START (c : Nat) : Fld := ⟨R.LRX_CAL_CTL c, 0, 1⟩
abbrev LRX_CAL_CTL_ABORT (c : Nat) : Fld := ⟨R.LRX_CAL_CTL c, 1, 1⟩
abbrev LRX_CAL_CTL_POLICY (c : Nat) : Fld := ⟨R.LRX_CAL_CTL c, 2, 1⟩
abbrev LRX_ADAPT_CMD_SIM_DETECT (c : Nat) : Fld := ⟨R.LRX_ADAPT_CMD c, 0, 1⟩
abbrev LRX_ADAPT_CMD_SAVE_DEF (c : Nat) : Fld := ⟨R.LRX_ADAPT_CMD c, 1, 1⟩
abbrev LRX_ADAPT_CMD_LOAD_FACTORY (c : Nat) : Fld := ⟨R.LRX_ADAPT_CMD c, 2, 1⟩
abbrev LRX_RX_STAT_STATE (c : Nat) : Fld := ⟨R.LRX_RX_STAT c, 0, 3⟩
abbrev LRX_RX_STAT_PLANNED (c : Nat) : Fld := ⟨R.LRX_RX_STAT c, 3, 1⟩
abbrev LRX_RX_STAT_ARMED (c : Nat) : Fld := ⟨R.LRX_RX_STAT c, 4, 1⟩
abbrev LRX_RX_STAT_OPEN_SEARCH (c : Nat) : Fld := ⟨R.LRX_RX_STAT c, 5, 1⟩
abbrev LRX_RX_STAT_CDR_LOCK (c : Nat) : Fld := ⟨R.LRX_RX_STAT c, 6, 1⟩
abbrev LRX_RX_STAT_LOS (c : Nat) : Fld := ⟨R.LRX_RX_STAT c, 7, 1⟩
abbrev LRX_RX_STAT_DEF_VALID (c : Nat) : Fld := ⟨R.LRX_RX_STAT c, 8, 1⟩
abbrev LRX_RX_STAT_CTLE (c : Nat) : Fld := ⟨R.LRX_RX_STAT c, 12, 4⟩
abbrev LRX_RX_STAT_AGC_GAIN (c : Nat) : Fld := ⟨R.LRX_RX_STAT c, 16, 9⟩
abbrev LRX_RATE_PPM (c : Nat) : Fld := ⟨R.LRX_RATE c, 0, 16⟩
abbrev LRX_RATE_VALID (c : Nat) : Fld := ⟨R.LRX_RATE c, 16, 1⟩
abbrev LRX_LQ_LQ_DB (c : Nat) : Fld := ⟨R.LRX_LQ c, 0, 9⟩
abbrev LRX_LQ_VALID (c : Nat) : Fld := ⟨R.LRX_LQ c, 16, 1⟩
abbrev LRX_PREFEC_EST_MANT (c : Nat) : Fld := ⟨R.LRX_PREFEC_EST c, 0, 4⟩
abbrev LRX_PREFEC_EST_EXP (c : Nat) : Fld := ⟨R.LRX_PREFEC_EST c, 8, 4⟩
abbrev LRX_PREFEC_EST_VALID (c : Nat) : Fld := ⟨R.LRX_PREFEC_EST c, 12, 1⟩
abbrev LRX_NOISE_FLOOR (c : Nat) : Fld := ⟨R.LRX_NOISE c, 0, 10⟩
abbrev LRX_NOISE_VALID (c : Nat) : Fld := ⟨R.LRX_NOISE c, 16, 1⟩
abbrev LRX_HELD_AGE_AGE_US (c : Nat) : Fld := ⟨R.LRX_HELD_AGE c, 0, 24⟩
abbrev LRX_HELD_AGE_OVER (c : Nat) : Fld := ⟨R.LRX_HELD_AGE c, 31, 1⟩
abbrev LRX_PRE_LAST_PEAK (c : Nat) : Fld := ⟨R.LRX_PRE_LAST c, 0, 8⟩
abbrev LRX_PRE_LAST_OFFSET (c : Nat) : Fld := ⟨R.LRX_PRE_LAST c, 8, 8⟩
abbrev LRX_PRE_LAST_OPEN (c : Nat) : Fld := ⟨R.LRX_PRE_LAST c, 16, 1⟩
abbrev LRX_PRE_LAST_SIM (c : Nat) : Fld := ⟨R.LRX_PRE_LAST c, 17, 1⟩
abbrev LRX_CAL_STAT_STATE (c : Nat) : Fld := ⟨R.LRX_CAL_STAT c, 0, 3⟩
abbrev LRX_CAL_STAT_STEPS (c : Nat) : Fld := ⟨R.LRX_CAL_STAT c, 4, 7⟩
abbrev LRX_CNT_DETECT_COUNT (c : Nat) : Fld := ⟨R.LRX_CNT_DETECT c, 0, 32⟩
abbrev LRX_CNT_MISS_COUNT (c : Nat) : Fld := ⟨R.LRX_CNT_MISS c, 0, 32⟩
abbrev LRX_CNT_FREEZE_COUNT (c : Nat) : Fld := ⟨R.LRX_CNT_FREEZE c, 0, 32⟩
abbrev LRX_CNT_DEFAULTS_COUNT (c : Nat) : Fld := ⟨R.LRX_CNT_DEFAULTS c, 0, 32⟩
abbrev LRX_CNT_LOL_COUNT (c : Nat) : Fld := ⟨R.LRX_CNT_LOL c, 0, 32⟩
abbrev LRX_CNT_CLIP_COUNT (c : Nat) : Fld := ⟨R.LRX_CNT_CLIP c, 0, 32⟩
abbrev LRX_CNT_DOZE_GRP_COUNT (c : Nat) : Fld := ⟨R.LRX_CNT_DOZE_GRP c, 0, 32⟩
abbrev LRX_CNT_SLIP_COUNT (c : Nat) : Fld := ⟨R.LRX_CNT_SLIP c, 0, 32⟩
abbrev LTX_TX_CTL_INVERT (n : Nat) : Fld := ⟨R.LTX_TX_CTL n, 0, 1⟩
abbrev LTX_TX_CTL_SWING (n : Nat) : Fld := ⟨R.LTX_TX_CTL n, 4, 4⟩
abbrev LTX_TX_FIR_PRE (n : Nat) : Fld := ⟨R.LTX_TX_FIR n, 0, 6⟩
abbrev LTX_TX_FIR_POST (n : Nat) : Fld := ⟨R.LTX_TX_FIR n, 8, 6⟩
abbrev LTX_TX_TEST_PATTERN (n : Nat) : Fld := ⟨R.LTX_TX_TEST n, 0, 2⟩
abbrev LTX_TX_STAT_STATE (n : Nat) : Fld := ⟨R.LTX_TX_STAT n, 0, 2⟩
abbrev LTX_TX_STAT_CLK_OK (n : Nat) : Fld := ⟨R.LTX_TX_STAT n, 2, 1⟩
abbrev DSF_ALIGN_CTL_N_CONFIRM : Fld := ⟨R.DSF_ALIGN_CTL, 0, 3⟩
abbrev DSF_ALIGN_CTL_M_LOSE : Fld := ⟨R.DSF_ALIGN_CTL, 4, 4⟩
abbrev DSF_ALIGN_CTL_SYNC_TOL : Fld := ⟨R.DSF_ALIGN_CTL, 8, 3⟩
abbrev DSF_ALIGN_CTL_VERIFY_WIN : Fld := ⟨R.DSF_ALIGN_CTL, 16, 8⟩
abbrev DSF_COAST_CFG_COAST_MS : Fld := ⟨R.DSF_COAST_CFG, 0, 16⟩
abbrev DSF_PSL_CFG_PSL_EXP : Fld := ⟨R.DSF_PSL_CFG, 0, 8⟩
abbrev DSF_PSL_CFG_BLOCK : Fld := ⟨R.DSF_PSL_CFG, 8, 1⟩
abbrev DSF_BER_CFG_MANT : Fld := ⟨R.DSF_BER_CFG, 0, 4⟩
abbrev DSF_BER_CFG_EXP : Fld := ⟨R.DSF_BER_CFG, 8, 4⟩
abbrev DSF_LISTEN_ID (n : Nat) : Fld := ⟨R.DSF_LISTEN n, 0, 12⟩
abbrev DSF_LISTEN_EN (n : Nat) : Fld := ⟨R.DSF_LISTEN n, 31, 1⟩
abbrev DSF_CH_STAT_STATE (n : Nat) : Fld := ⟨R.DSF_CH_STAT n, 0, 3⟩
abbrev DSF_CH_STAT_MF_ALIGNED (n : Nat) : Fld := ⟨R.DSF_CH_STAT n, 3, 1⟩
abbrev DSF_CH_STAT_MAP_STATE (n : Nat) : Fld := ⟨R.DSF_CH_STAT n, 4, 2⟩
abbrev DSF_CH_STAT_CAND (n : Nat) : Fld := ⟨R.DSF_CH_STAT n, 6, 3⟩
abbrev DSF_CH_STAT_PLANNED (n : Nat) : Fld := ⟨R.DSF_CH_STAT n, 9, 1⟩
abbrev DSF_CH_STAT_ERR_RUN (n : Nat) : Fld := ⟨R.DSF_CH_STAT n, 10, 4⟩
abbrev DSF_CH_STAT_CAUSE (n : Nat) : Fld := ⟨R.DSF_CH_STAT n, 16, 12⟩
abbrev DSF_CH_FC_LO_FC (n : Nat) : Fld := ⟨R.DSF_CH_FC_LO n, 0, 32⟩
abbrev DSF_CH_FC_HI_FC (n : Nat) : Fld := ⟨R.DSF_CH_FC_HI n, 0, 16⟩
abbrev DSF_CH_FC_HI_KNOWN (n : Nat) : Fld := ⟨R.DSF_CH_FC_HI n, 31, 1⟩
abbrev DSF_CH_HDR_MF_IDX (n : Nat) : Fld := ⟨R.DSF_CH_HDR n, 0, 4⟩
abbrev DSF_CH_HDR_PSL (n : Nat) : Fld := ⟨R.DSF_CH_HDR n, 8, 8⟩
abbrev DSF_CH_HDR_HEAD_ID (n : Nat) : Fld := ⟨R.DSF_CH_HDR n, 16, 16⟩
abbrev DSF_CH_MAP_MAP_LAST (n : Nat) : Fld := ⟨R.DSF_CH_MAP n, 0, 4⟩
abbrev DSF_CH_MAP_SECS (n : Nat) : Fld := ⟨R.DSF_CH_MAP n, 4, 16⟩
abbrev DSF_CH_MAP_TAIL_LEFT (n : Nat) : Fld := ⟨R.DSF_CH_MAP n, 20, 8⟩
abbrev DSF_CH_BER_MANT (n : Nat) : Fld := ⟨R.DSF_CH_BER n, 0, 4⟩
abbrev DSF_CH_BER_EXP (n : Nat) : Fld := ⟨R.DSF_CH_BER n, 8, 4⟩
abbrev DSF_CH_BER_VALID (n : Nat) : Fld := ⟨R.DSF_CH_BER n, 12, 1⟩
abbrev DSF_CH_CMD_FC_FORGET (n : Nat) : Fld := ⟨R.DSF_CH_CMD n, 0, 1⟩
abbrev DSF_CNT_CW_LO_COUNT (n : Nat) : Fld := ⟨R.DSF_CNT_CW_LO n, 0, 32⟩
abbrev DSF_CNT_CW_HI_COUNT (n : Nat) : Fld := ⟨R.DSF_CNT_CW_HI n, 0, 32⟩
abbrev DSF_CNT_CW_CORR_COUNT (n : Nat) : Fld := ⟨R.DSF_CNT_CW_CORR n, 0, 32⟩
abbrev DSF_CNT_SYM_CORR_LO_COUNT (n : Nat) : Fld := ⟨R.DSF_CNT_SYM_CORR_LO n, 0, 32⟩
abbrev DSF_CNT_SYM_CORR_HI_COUNT (n : Nat) : Fld := ⟨R.DSF_CNT_SYM_CORR_HI n, 0, 32⟩
abbrev DSF_CNT_BIT_CORR_LO_COUNT (n : Nat) : Fld := ⟨R.DSF_CNT_BIT_CORR_LO n, 0, 32⟩
abbrev DSF_CNT_BIT_CORR_HI_COUNT (n : Nat) : Fld := ⟨R.DSF_CNT_BIT_CORR_HI n, 0, 32⟩
abbrev DSF_CNT_CW_UNCORR_COUNT (n : Nat) : Fld := ⟨R.DSF_CNT_CW_UNCORR n, 0, 32⟩
abbrev DSF_CNT_HDR_ERR_COUNT (n : Nat) : Fld := ⟨R.DSF_CNT_HDR_ERR n, 0, 32⟩
abbrev DSF_CNT_LOF_COUNT (n : Nat) : Fld := ⟨R.DSF_CNT_LOF n, 0, 32⟩
abbrev DSF_CNT_FC_JUMP_COUNT (n : Nat) : Fld := ⟨R.DSF_CNT_FC_JUMP n, 0, 32⟩
abbrev DSF_CNT_FC_BACK_COUNT (n : Nat) : Fld := ⟨R.DSF_CNT_FC_BACK n, 0, 32⟩
abbrev DSF_CNT_MAP_LOST_COUNT (n : Nat) : Fld := ⟨R.DSF_CNT_MAP_LOST n, 0, 32⟩
abbrev DSF_CNT_FRAG_DISC_COUNT (n : Nat) : Fld := ⟨R.DSF_CNT_FRAG_DISC n, 0, 32⟩
abbrev DSF_CNT_HEC_ERR_COUNT (n : Nat) : Fld := ⟨R.DSF_CNT_HEC_ERR n, 0, 32⟩
abbrev DSF_CNT_REALIGN_COUNT (n : Nat) : Fld := ⟨R.DSF_CNT_REALIGN n, 0, 32⟩
abbrev DSF_CNT_FALSE_CAND_COUNT (n : Nat) : Fld := ⟨R.DSF_CNT_FALSE_CAND n, 0, 32⟩
abbrev TRB_TRB_CTL_EN : Fld := ⟨R.TRB_TRB_CTL, 0, 1⟩
abbrev TRB_TRB_CTL_AUTO_INC : Fld := ⟨R.TRB_TRB_CTL, 1, 1⟩
abbrev TRB_MAP_CTL_ACTIVE : Fld := ⟨R.TRB_MAP_CTL, 0, 1⟩
abbrev TRB_TBL_ADDR_CTX : Fld := ⟨R.TRB_TBL_ADDR, 0, 10⟩
abbrev TRB_TBL_ADDR_VIEW : Fld := ⟨R.TRB_TBL_ADDR, 16, 1⟩
abbrev TRB_TBL_CMD_COPY : Fld := ⟨R.TRB_TBL_CMD, 0, 1⟩
abbrev TRB_TBL_CMD_CHECK : Fld := ⟨R.TRB_TBL_CMD, 1, 1⟩
abbrev TRB_TBL_STAT_READY : Fld := ⟨R.TRB_TBL_STAT, 0, 1⟩
abbrev TRB_TBL_STAT_BUSY : Fld := ⟨R.TRB_TBL_STAT, 1, 1⟩
abbrev TRB_TBL_STAT_CONFLICT : Fld := ⟨R.TRB_TBL_STAT, 2, 1⟩
abbrev TRB_TBL_STAT_CONFLICT_CTX : Fld := ⟨R.TRB_TBL_STAT, 16, 10⟩
abbrev TRB_TBL_DATA_LO_ENTRY : Fld := ⟨R.TRB_TBL_DATA_LO, 0, 32⟩
abbrev TRB_TBL_DATA_HI_ENTRY : Fld := ⟨R.TRB_TBL_DATA_HI, 0, 32⟩
abbrev TRB_ST_SEL_CTX : Fld := ⟨R.TRB_ST_SEL, 0, 10⟩
abbrev TRB_ST_FLAGS_LATCH (i : Nat) : Fld := ⟨R.TRB_ST_FLAGS i, 0, 9⟩
abbrev TRB_ST_FLAGS_NOW (i : Nat) : Fld := ⟨R.TRB_ST_FLAGS i, 16, 9⟩
abbrev TRB_ST_RATE_DOWN : Fld := ⟨R.TRB_ST_RATE, 0, 16⟩
abbrev TRB_ST_RATE_UP : Fld := ⟨R.TRB_ST_RATE, 16, 16⟩
abbrev TRB_ST_LABEL_FIBRE : Fld := ⟨R.TRB_ST_LABEL, 0, 8⟩
abbrev TRB_ST_LABEL_LANE : Fld := ⟨R.TRB_ST_LABEL, 8, 8⟩
abbrev TRB_CNT_DJN_COUNT (i : Nat) : Fld := ⟨R.TRB_CNT_DJN i, 0, 32⟩
abbrev TRB_CNT_DJP_COUNT (i : Nat) : Fld := ⟨R.TRB_CNT_DJP i, 0, 32⟩
abbrev TRB_CNT_UJN_COUNT (i : Nat) : Fld := ⟨R.TRB_CNT_UJN i, 0, 32⟩
abbrev TRB_CNT_UJP_COUNT (i : Nat) : Fld := ⟨R.TRB_CNT_UJP i, 0, 32⟩
abbrev TRB_CNT_SLIP_COUNT (i : Nat) : Fld := ⟨R.TRB_CNT_SLIP i, 0, 32⟩
abbrev TRB_CNT_LOST_COUNT (i : Nat) : Fld := ⟨R.TRB_CNT_LOST i, 0, 32⟩
abbrev TRB_CNT_SEQ_ERR_COUNT (i : Nat) : Fld := ⟨R.TRB_CNT_SEQ_ERR i, 0, 32⟩
abbrev TRB_CNT_UP_DROP_COUNT (i : Nat) : Fld := ⟨R.TRB_CNT_UP_DROP i, 0, 32⟩
abbrev TRB_CNT_CHDR_ERR_COUNT : Fld := ⟨R.TRB_CNT_CHDR_ERR, 0, 32⟩
abbrev TRB_CNT_FRAG_BAD_COUNT : Fld := ⟨R.TRB_CNT_FRAG_BAD, 0, 32⟩
abbrev TRB_CNT_VOTE_COUNT : Fld := ⟨R.TRB_CNT_VOTE, 0, 32⟩
abbrev TRB_CNT_FORCE_COUNT : Fld := ⟨R.TRB_CNT_FORCE, 0, 32⟩
abbrev TRB_CNT_GRP_LOST_COUNT : Fld := ⟨R.TRB_CNT_GRP_LOST, 0, 32⟩
abbrev TRB_TEST_CTL_CTX : Fld := ⟨R.TRB_TEST_CTL, 0, 10⟩
abbrev TRB_TEST_CTL_GEN_EN : Fld := ⟨R.TRB_TEST_CTL, 10, 1⟩
abbrev TRB_TEST_CTL_ANA_EN : Fld := ⟨R.TRB_TEST_CTL, 11, 1⟩
abbrev TRB_TEST_CTL_ANA_SYNC : Fld := ⟨R.TRB_TEST_CTL, 16, 1⟩
abbrev TRB_TEST_ERR_COUNT : Fld := ⟨R.TRB_TEST_ERR, 0, 32⟩
abbrev TRB_LANE_SYNC_LO_SYNC : Fld := ⟨R.TRB_LANE_SYNC_LO, 0, 32⟩
abbrev TRB_LANE_SYNC_HI_SYNC : Fld := ⟨R.TRB_LANE_SYNC_HI, 0, 16⟩
abbrev TRB_LANE_CRC_SEL_LANE : Fld := ⟨R.TRB_LANE_CRC_SEL, 0, 6⟩
abbrev TRB_LANE_CNT_CRC_COUNT (i : Nat) : Fld := ⟨R.TRB_LANE_CNT_CRC i, 0, 32⟩
abbrev TRB_TRIB_ALM_CTX (n : Nat) : Fld := ⟨R.TRB_TRIB_ALM n, 0, 32⟩
abbrev ACT_ACT_CTL_EN : Fld := ⟨R.ACT_ACT_CTL, 0, 1⟩
abbrev ACT_ACT_CTL_ANN_EN : Fld := ⟨R.ACT_ACT_CTL, 1, 1⟩
abbrev ACT_ACT_STAT_STATE : Fld := ⟨R.ACT_ACT_STAT, 0, 3⟩
abbrev ACT_ACT_STAT_PLANNED : Fld := ⟨R.ACT_ACT_STAT, 3, 1⟩
abbrev ACT_ACT_STAT_TID_VALID : Fld := ⟨R.ACT_ACT_STAT, 4, 1⟩
abbrev ACT_ACT_STAT_TID : Fld := ⟨R.ACT_ACT_STAT, 16, 12⟩
abbrev ACT_SERIAL_LO_SERIAL : Fld := ⟨R.ACT_SERIAL_LO, 0, 32⟩
abbrev ACT_SERIAL_HI_SERIAL : Fld := ⟨R.ACT_SERIAL_HI, 0, 32⟩
abbrev ACT_TMR_CFG0_ANN_MS : Fld := ⟨R.ACT_TMR_CFG0, 0, 16⟩
abbrev ACT_TMR_CFG0_RANGE_MS : Fld := ⟨R.ACT_TMR_CFG0, 16, 16⟩
abbrev ACT_TMR_CFG1_HOLD_MS : Fld := ⟨R.ACT_TMR_CFG1, 0, 16⟩
abbrev ACT_TMR_CFG1_LOSS_US : Fld := ⟨R.ACT_TMR_CFG1, 16, 16⟩
abbrev ACT_CHAN_CTL_ACT_EN : Fld := ⟨R.ACT_CHAN_CTL, 0, 4⟩
abbrev ACT_CHAN_STAT_PRESENT : Fld := ⟨R.ACT_CHAN_STAT, 0, 4⟩
abbrev ACT_CHAN_STAT_RANGED : Fld := ⟨R.ACT_CHAN_STAT, 4, 4⟩
abbrev ACT_CHAN_STAT_PROF_VALID : Fld := ⟨R.ACT_CHAN_STAT, 8, 4⟩
abbrev ACT_CHAN_STAT_RANGE_CHAN : Fld := ⟨R.ACT_CHAN_STAT, 12, 2⟩
abbrev ACT_EQD_EQD (n : Nat) : Fld := ⟨R.ACT_EQD n, 0, 24⟩
abbrev ACT_EQD_VALID (n : Nat) : Fld := ⟨R.ACT_EQD n, 31, 1⟩
abbrev ACT_GUARD_STAT_TRIP : Fld := ⟨R.ACT_GUARD_STAT, 0, 4⟩
abbrev ACT_GUARD_STAT_TX_DISABLE : Fld := ⟨R.ACT_GUARD_STAT, 4, 4⟩
abbrev ACT_GUARD_STAT_BURST_EN : Fld := ⟨R.ACT_GUARD_STAT, 8, 4⟩
abbrev ACT_GUARD_STAT_FB_TRIP : Fld := ⟨R.ACT_GUARD_STAT, 12, 4⟩
abbrev ACT_GUARD_CMD_CLR : Fld := ⟨R.ACT_GUARD_CMD, 0, 4⟩
abbrev ACT_GUARD_CMD_TEST : Fld := ⟨R.ACT_GUARD_CMD, 8, 4⟩
abbrev ACT_LOCAL_REL_RELEASE : Fld := ⟨R.ACT_LOCAL_REL, 0, 1⟩
abbrev ACT_SIL_STAT_SILENCED : Fld := ⟨R.ACT_SIL_STAT, 0, 1⟩
abbrev ACT_SIL_STAT_EMERGENCY : Fld := ⟨R.ACT_SIL_STAT, 1, 1⟩
abbrev ACT_SIL_STAT_FROM_LOG : Fld := ⟨R.ACT_SIL_STAT, 2, 1⟩
abbrev ACT_SIL_STAT_REASON : Fld := ⟨R.ACT_SIL_STAT, 8, 8⟩
abbrev ACT_MSG_LAST_TYPE : Fld := ⟨R.ACT_MSG_LAST, 0, 8⟩
abbrev ACT_MSG_LAST_SEQ : Fld := ⟨R.ACT_MSG_LAST, 8, 8⟩
abbrev ACT_MSG_LAST_CHAN : Fld := ⟨R.ACT_MSG_LAST, 16, 2⟩
abbrev ACT_MSG_LAST_SLOT : Fld := ⟨R.ACT_MSG_LAST, 18, 6⟩
abbrev ACT_UMSG_STAT_DEPTH : Fld := ⟨R.ACT_UMSG_STAT, 0, 4⟩
abbrev ACT_CAP_SEL_TYPE : Fld := ⟨R.ACT_CAP_SEL, 0, 8⟩
abbrev ACT_CNT_MSG_OK_COUNT : Fld := ⟨R.ACT_CNT_MSG_OK, 0, 32⟩
abbrev ACT_CNT_MSG_CRC_COUNT : Fld := ⟨R.ACT_CNT_MSG_CRC, 0, 32⟩
abbrev ACT_CNT_MSG_UNK_COUNT : Fld := ⟨R.ACT_CNT_MSG_UNK, 0, 32⟩
abbrev ACT_CNT_MSG_STATE_COUNT : Fld := ⟨R.ACT_CNT_MSG_STATE, 0, 32⟩
abbrev ACT_CNT_MSG_REP_COUNT : Fld := ⟨R.ACT_CNT_MSG_REP, 0, 32⟩
abbrev ACT_CNT_MSG_BAD_COUNT : Fld := ⟨R.ACT_CNT_MSG_BAD, 0, 32⟩
abbrev ACT_CNT_ANN_COUNT : Fld := ⟨R.ACT_CNT_ANN, 0, 32⟩
abbrev ACT_CNT_ANN_TO_COUNT : Fld := ⟨R.ACT_CNT_ANN_TO, 0, 32⟩
abbrev ACT_CNT_HOLD_COUNT : Fld := ⟨R.ACT_CNT_HOLD, 0, 32⟩
abbrev ACT_CNT_SILENCE_COUNT : Fld := ⟨R.ACT_CNT_SILENCE, 0, 32⟩
abbrev ACT_CNT_GUARD_COUNT : Fld := ⟨R.ACT_CNT_GUARD, 0, 32⟩
abbrev ACT_CNT_UMSG_DROP_COUNT : Fld := ⟨R.ACT_CNT_UMSG_DROP, 0, 32⟩
abbrev ACT_CAP_BYTES (n : Nat) : Fld := ⟨R.ACT_CAP n, 0, 32⟩
abbrev UPB_UPB_CTL_EN : Fld := ⟨R.UPB_UPB_CTL, 0, 1⟩
abbrev UPB_UPB_CTL_EMPTY_MODE : Fld := ⟨R.UPB_UPB_CTL, 1, 1⟩
abbrev UPB_UPB_CTL_MIN_BODY : Fld := ⟨R.UPB_UPB_CTL, 8, 8⟩
abbrev UPB_UPB_CTL_PULL_LEAD : Fld := ⟨R.UPB_UPB_CTL, 16, 6⟩
abbrev UPB_GSM_CTL_ACTIVE : Fld := ⟨R.UPB_GSM_CTL, 0, 1⟩
abbrev UPB_GSM_ADDR_QUEUE : Fld := ⟨R.UPB_GSM_ADDR, 0, 13⟩
abbrev UPB_GSM_ADDR_VIEW : Fld := ⟨R.UPB_GSM_ADDR, 16, 1⟩
abbrev UPB_GSM_ADDR_AUTO_INC : Fld := ⟨R.UPB_GSM_ADDR, 17, 1⟩
abbrev UPB_GSM_DATA_GS : Fld := ⟨R.UPB_GSM_DATA, 0, 10⟩
abbrev UPB_GSM_DATA_EN : Fld := ⟨R.UPB_GSM_DATA, 15, 1⟩
abbrev UPB_GSM_CMD_COPY : Fld := ⟨R.UPB_GSM_CMD, 0, 1⟩
abbrev UPB_GSM_STAT_READY : Fld := ⟨R.UPB_GSM_STAT, 0, 1⟩
abbrev UPB_GSM_STAT_BUSY : Fld := ⟨R.UPB_GSM_STAT, 1, 1⟩
abbrev UPB_GT_SEL_CHAN : Fld := ⟨R.UPB_GT_SEL, 0, 2⟩
abbrev UPB_GT_SEL_OFFSET : Fld := ⟨R.UPB_GT_SEL, 4, 4⟩
abbrev UPB_GT_SEL_IDX : Fld := ⟨R.UPB_GT_SEL, 16, 8⟩
abbrev UPB_GT_ENTRY_LO_ENTRY : Fld := ⟨R.UPB_GT_ENTRY_LO, 0, 32⟩
abbrev UPB_GT_ENTRY_HI_ENTRY : Fld := ⟨R.UPB_GT_ENTRY_HI, 0, 32⟩
abbrev UPB_GT_COUNT_COUNT : Fld := ⟨R.UPB_GT_COUNT, 0, 9⟩
abbrev UPB_GT_LAST_REFUSE_CAUSE : Fld := ⟨R.UPB_GT_LAST_REFUSE, 0, 4⟩
abbrev UPB_GT_LAST_REFUSE_CHAN : Fld := ⟨R.UPB_GT_LAST_REFUSE, 4, 2⟩
abbrev UPB_GT_LAST_REFUSE_GS : Fld := ⟨R.UPB_GT_LAST_REFUSE, 6, 10⟩
abbrev UPB_GT_LAST_REFUSE_START : Fld := ⟨R.UPB_GT_LAST_REFUSE, 16, 16⟩
abbrev UPB_CH_STAT_MAY_TX : Fld := ⟨R.UPB_CH_STAT, 0, 4⟩
abbrev UPB_CH_STAT_KEY_OK : Fld := ⟨R.UPB_CH_STAT, 4, 4⟩
abbrev UPB_CH_STAT_BURSTING : Fld := ⟨R.UPB_CH_STAT, 8, 4⟩
abbrev UPB_CH_STAT_PF : Fld := ⟨R.UPB_CH_STAT, 16, 1⟩
abbrev UPB_GS_SEL_GS : Fld := ⟨R.UPB_GS_SEL, 0, 10⟩
abbrev UPB_GS_STAT_BACKLOG : Fld := ⟨R.UPB_GS_STAT, 0, 24⟩
abbrev UPB_GS_STAT_IN_PROG : Fld := ⟨R.UPB_GS_STAT, 24, 4⟩
abbrev UPB_CNT_GRANT_COUNT (n : Nat) : Fld := ⟨R.UPB_CNT_GRANT n, 0, 32⟩
abbrev UPB_CNT_GRANT_REF_COUNT (n : Nat) : Fld := ⟨R.UPB_CNT_GRANT_REF n, 0, 32⟩
abbrev UPB_CNT_GRANT_DISC_COUNT (n : Nat) : Fld := ⟨R.UPB_CNT_GRANT_DISC n, 0, 32⟩
abbrev UPB_CNT_BURST_COUNT (n : Nat) : Fld := ⟨R.UPB_CNT_BURST n, 0, 32⟩
abbrev UPB_CNT_BURST_SKIP_COUNT (n : Nat) : Fld := ⟨R.UPB_CNT_BURST_SKIP n, 0, 32⟩
abbrev UPB_CNT_BURST_EMPTY_COUNT (n : Nat) : Fld := ⟨R.UPB_CNT_BURST_EMPTY n, 0, 32⟩
abbrev UPB_CNT_FRAG_COUNT (n : Nat) : Fld := ⟨R.UPB_CNT_FRAG n, 0, 32⟩
abbrev UPB_CNT_PKT_COUNT (n : Nat) : Fld := ⟨R.UPB_CNT_PKT n, 0, 32⟩
abbrev UPB_CNT_RESTART_COUNT (n : Nat) : Fld := ⟨R.UPB_CNT_RESTART n, 0, 32⟩
abbrev UPB_CNT_LATE_IDLE_COUNT (n : Nat) : Fld := ⟨R.UPB_CNT_LATE_IDLE n, 0, 32⟩
abbrev UPB_CNT_WORDS_LO_COUNT (n : Nat) : Fld := ⟨R.UPB_CNT_WORDS_LO n, 0, 32⟩
abbrev UPB_CNT_WORDS_HI_COUNT (n : Nat) : Fld := ⟨R.UPB_CNT_WORDS_HI n, 0, 32⟩
abbrev LCK_LCK_CTL_EN : Fld := ⟨R.LCK_LCK_CTL, 0, 1⟩
abbrev LCK_LCK_CTL_DS_CLEAR : Fld := ⟨R.LCK_LCK_CTL, 1, 1⟩
abbrev LCK_LCK_CTL_LOCAL_ROLL : Fld := ⟨R.LCK_LCK_CTL, 4, 4⟩
abbrev LCK_LCK_CTL_WARN_EXP : Fld := ⟨R.LCK_LCK_CTL, 8, 5⟩
abbrev LCK_KEY_STAT_ACTIVE : Fld := ⟨R.LCK_KEY_STAT, 0, 8⟩
abbrev LCK_KEY_STAT_IDX : Fld := ⟨R.LCK_KEY_STAT, 8, 8⟩
abbrev LCK_KEY_STAT_SPENT : Fld := ⟨R.LCK_KEY_STAT, 16, 8⟩
abbrev LCK_KEY_STAT_PEND : Fld := ⟨R.LCK_KEY_STAT, 24, 8⟩
abbrev LCK_SLOT_SEL_CHAN : Fld := ⟨R.LCK_SLOT_SEL, 0, 2⟩
abbrev LCK_SLOT_SEL_UP : Fld := ⟨R.LCK_SLOT_SEL, 2, 1⟩
abbrev LCK_SLOT_SEL_INDEX : Fld := ⟨R.LCK_SLOT_SEL, 3, 1⟩
abbrev LCK_SLOT_STAT_STATE : Fld := ⟨R.LCK_SLOT_STAT, 0, 3⟩
abbrev LCK_SLOT_STAT_USED : Fld := ⟨R.LCK_SLOT_STAT, 3, 1⟩
abbrev LCK_SLOT_STAT_CAUSE : Fld := ⟨R.LCK_SLOT_STAT, 4, 3⟩
abbrev LCK_SLOT_STAT_READY : Fld := ⟨R.LCK_SLOT_STAT, 8, 1⟩
abbrev LCK_SLOT_USE_COUNT : Fld := ⟨R.LCK_SLOT_USE, 0, 32⟩
abbrev LCK_SLOT_NONCE_LO_FC : Fld := ⟨R.LCK_SLOT_NONCE_LO, 0, 32⟩
abbrev LCK_SLOT_NONCE_HI_FC : Fld := ⟨R.LCK_SLOT_NONCE_HI, 0, 16⟩
abbrev LCK_SLOT_NONCE_HI_FRAG_IDX : Fld := ⟨R.LCK_SLOT_NONCE_HI, 16, 16⟩
abbrev LCK_KEY_ERASE_PAIR : Fld := ⟨R.LCK_KEY_ERASE, 0, 8⟩
abbrev LCK_KEY_ERASE_ALL : Fld := ⟨R.LCK_KEY_ERASE, 8, 1⟩
abbrev LCK_PAIR_FLAGS_ROLL_DONE : Fld := ⟨R.LCK_PAIR_FLAGS, 0, 8⟩
abbrev LCK_PAIR_FLAGS_ROLL_FAIL : Fld := ⟨R.LCK_PAIR_FLAGS, 8, 8⟩
abbrev LCK_PAIR_FLAGS_WARN : Fld := ⟨R.LCK_PAIR_FLAGS, 16, 8⟩
abbrev LCK_PAIR_FLAGS_AUTH : Fld := ⟨R.LCK_PAIR_FLAGS, 24, 8⟩
abbrev LCK_CNT_FRAG_LO_COUNT (n : Nat) : Fld := ⟨R.LCK_CNT_FRAG_LO n, 0, 32⟩
abbrev LCK_CNT_FRAG_HI_COUNT (n : Nat) : Fld := ⟨R.LCK_CNT_FRAG_HI n, 0, 32⟩
abbrev LCK_CNT_AUTH_FAIL_COUNT (n : Nat) : Fld := ⟨R.LCK_CNT_AUTH_FAIL n, 0, 32⟩
abbrev LCK_CNT_NO_KEY_COUNT (n : Nat) : Fld := ⟨R.LCK_CNT_NO_KEY n, 0, 32⟩
abbrev LCK_CNT_OLD_KEY_COUNT (n : Nat) : Fld := ⟨R.LCK_CNT_OLD_KEY n, 0, 32⟩
abbrev LCK_CNT_REPLAY_COUNT (n : Nat) : Fld := ⟨R.LCK_CNT_REPLAY n, 0, 32⟩
abbrev LCK_CNT_CLEAR_DISC_COUNT (n : Nat) : Fld := ⟨R.LCK_CNT_CLEAR_DISC n, 0, 32⟩
abbrev LCK_CNT_ROLL_COUNT (n : Nat) : Fld := ⟨R.LCK_CNT_ROLL n, 0, 32⟩
abbrev LCK_ROLL_CTL_ARM (n : Nat) : Fld := ⟨R.LCK_ROLL_CTL n, 0, 1⟩
abbrev LCK_ROLL_CTL_INDEX (n : Nat) : Fld := ⟨R.LCK_ROLL_CTL n, 1, 1⟩
abbrev LCK_ROLL_FC_LO_FC (n : Nat) : Fld := ⟨R.LCK_ROLL_FC_LO n, 0, 32⟩
abbrev LCK_ROLL_FC_HI_FC (n : Nat) : Fld := ⟨R.LCK_ROLL_FC_HI n, 0, 16⟩
abbrev KEY_UNW_CFG_DUMMY_MIN : Fld := ⟨R.KEY_UNW_CFG, 0, 4⟩
abbrev KEY_UNW_CFG_DUMMY_MAX : Fld := ⟨R.KEY_UNW_CFG, 4, 4⟩
abbrev KEY_UNW_CFG_SHUFFLE : Fld := ⟨R.KEY_UNW_CFG, 8, 1⟩
abbrev KEY_UNW_CFG_JITTER_MAX : Fld := ⟨R.KEY_UNW_CFG, 12, 4⟩
abbrev KEY_UNW_LOCK_LOCK : Fld := ⟨R.KEY_UNW_LOCK, 0, 1⟩
abbrev KEY_KEY_CMD_TARGET : Fld := ⟨R.KEY_KEY_CMD, 0, 2⟩
abbrev KEY_KEY_CMD_CHAN : Fld := ⟨R.KEY_KEY_CMD, 4, 2⟩
abbrev KEY_KEY_CMD_UP : Fld := ⟨R.KEY_KEY_CMD, 6, 1⟩
abbrev KEY_KEY_CMD_INDEX : Fld := ⟨R.KEY_KEY_CMD, 7, 1⟩
abbrev KEY_KEY_CMD_GO : Fld := ⟨R.KEY_KEY_CMD, 8, 1⟩
abbrev KEY_KEY_JOB_RESULT : Fld := ⟨R.KEY_KEY_JOB, 0, 4⟩
abbrev KEY_KEY_JOB_BUSY : Fld := ⟨R.KEY_KEY_JOB, 4, 1⟩
abbrev KEY_KEY_JOB_DEPTH : Fld := ⟨R.KEY_KEY_JOB, 8, 4⟩
abbrev KEY_WRAP_STAT_SLOT : Fld := ⟨R.KEY_WRAP_STAT, 0, 3⟩
abbrev KEY_WRAP_STAT_LEFT : Fld := ⟨R.KEY_WRAP_STAT, 8, 3⟩
abbrev KEY_WRAP_STAT_BAD : Fld := ⟨R.KEY_WRAP_STAT, 16, 8⟩
abbrev KEY_UNW_STAT_ENTROPY_OK : Fld := ⟨R.KEY_UNW_STAT, 0, 1⟩
abbrev KEY_UNW_STAT_LOCKED : Fld := ⟨R.KEY_UNW_STAT, 1, 1⟩
abbrev KEY_UNW_STAT_FAILS : Fld := ⟨R.KEY_UNW_STAT, 2, 3⟩
abbrev KEY_UNW_STAT_BACKOFF_S : Fld := ⟨R.KEY_UNW_STAT, 16, 11⟩
abbrev KEY_CNT_UNWRAP_OK_COUNT : Fld := ⟨R.KEY_CNT_UNWRAP_OK, 0, 32⟩
abbrev KEY_CNT_UNWRAP_FAIL_COUNT : Fld := ⟨R.KEY_CNT_UNWRAP_FAIL, 0, 32⟩
abbrev KEY_CNT_DUP_KEY_COUNT : Fld := ⟨R.KEY_CNT_DUP_KEY, 0, 32⟩
abbrev KEY_CNT_INSTALL_COUNT : Fld := ⟨R.KEY_CNT_INSTALL, 0, 32⟩
abbrev KEY_BLOB_BYTES (n : Nat) : Fld := ⟨R.KEY_BLOB n, 0, 32⟩
abbrev TIM_TIM_CTL_EN : Fld := ⟨R.TIM_TIM_CTL, 0, 1⟩
abbrev TIM_TIM_CTL_COMPAT : Fld := ⟨R.TIM_TIM_CTL, 1, 1⟩
abbrev TIM_TIM_CTL_SRC_MODE : Fld := ⟨R.TIM_TIM_CTL, 2, 1⟩
abbrev TIM_TIM_CTL_SRC_CHAN : Fld := ⟨R.TIM_TIM_CTL, 4, 2⟩
abbrev TIM_SERVO_CFG_KP_SH : Fld := ⟨R.TIM_SERVO_CFG, 0, 4⟩
abbrev TIM_SERVO_CFG_KI_SH : Fld := ⟨R.TIM_SERVO_CFG, 8, 5⟩
abbrev TIM_SERVO_CFG_LOCK_NS : Fld := ⟨R.TIM_SERVO_CFG, 16, 8⟩
abbrev TIM_SERVO_CFG_REF_LIMIT : Fld := ⟨R.TIM_SERVO_CFG, 24, 4⟩
abbrev TIM_JUMP_CFG_JUMP_NS : Fld := ⟨R.TIM_JUMP_CFG, 0, 20⟩
abbrev TIM_JUMP_CFG_HOLD_MS : Fld := ⟨R.TIM_JUMP_CFG, 24, 8⟩
abbrev TIM_FREQ_CFG_FLIM : Fld := ⟨R.TIM_FREQ_CFG, 0, 12⟩
abbrev TIM_TIM_STAT_SERVO : Fld := ⟨R.TIM_TIM_STAT, 0, 2⟩
abbrev TIM_TIM_STAT_QUAL : Fld := ⟨R.TIM_TIM_STAT, 2, 2⟩
abbrev TIM_TIM_STAT_SRC_B : Fld := ⟨R.TIM_TIM_STAT, 4, 1⟩
abbrev TIM_TIM_STAT_CHAN : Fld := ⟨R.TIM_TIM_STAT, 5, 2⟩
abbrev TIM_TIM_STAT_SEAM_HOLD : Fld := ⟨R.TIM_TIM_STAT, 7, 1⟩
abbrev TIM_TIM_STAT_RTC_FAIL : Fld := ⟨R.TIM_TIM_STAT, 8, 1⟩
abbrev TIM_TIM_STAT_STEP_WAIT : Fld := ⟨R.TIM_TIM_STAT, 9, 1⟩
abbrev TIM_TIME_SEC_LO_SEC : Fld := ⟨R.TIM_TIME_SEC_LO, 0, 32⟩
abbrev TIM_TIME_SEC_HI_SEC : Fld := ⟨R.TIM_TIME_SEC_HI, 0, 16⟩
abbrev TIM_TIME_NS_NS : Fld := ⟨R.TIM_TIME_NS, 0, 30⟩
abbrev TIM_TIME_FRAC_FRAC : Fld := ⟨R.TIM_TIME_FRAC, 0, 16⟩
abbrev TIM_FREQ_F : Fld := ⟨R.TIM_FREQ, 0, 32⟩
abbrev TIM_INTEG_I : Fld := ⟨R.TIM_INTEG, 0, 32⟩
abbrev TIM_LAST_OFS_THETA : Fld := ⟨R.TIM_LAST_OFS, 0, 32⟩
abbrev TIM_REF_SEC_LO_SEC : Fld := ⟨R.TIM_REF_SEC_LO, 0, 32⟩
abbrev TIM_REF_SEC_HI_SEC : Fld := ⟨R.TIM_REF_SEC_HI, 0, 16⟩
abbrev TIM_REF_SEC_HI_VALID : Fld := ⟨R.TIM_REF_SEC_HI, 31, 1⟩
abbrev TIM_REF_NS_NS : Fld := ⟨R.TIM_REF_NS, 0, 30⟩
abbrev TIM_TIM_CMD_STEP : Fld := ⟨R.TIM_TIM_CMD, 0, 1⟩
abbrev TIM_TIM_CMD_STEP_MODE : Fld := ⟨R.TIM_TIM_CMD, 1, 2⟩
abbrev TIM_TIM_CMD_SWITCH_A : Fld := ⟨R.TIM_TIM_CMD, 4, 1⟩
abbrev TIM_TIM_CMD_SWITCH_B : Fld := ⟨R.TIM_TIM_CMD, 5, 1⟩
abbrev TIM_STEP_SEC_LO_SEC : Fld := ⟨R.TIM_STEP_SEC_LO, 0, 32⟩
abbrev TIM_STEP_SEC_HI_SEC : Fld := ⟨R.TIM_STEP_SEC_HI, 0, 16⟩
abbrev TIM_STEP_SEC_HI_NEG : Fld := ⟨R.TIM_STEP_SEC_HI, 31, 1⟩
abbrev TIM_STEP_NS_NS : Fld := ⟨R.TIM_STEP_NS, 0, 30⟩
abbrev TIM_CH_ASYM_PS (n : Nat) : Fld := ⟨R.TIM_CH_ASYM n, 0, 24⟩
abbrev TIM_CH_OFS_THETA (n : Nat) : Fld := ⟨R.TIM_CH_OFS n, 0, 32⟩
abbrev TIM_RTC_LO_COUNT : Fld := ⟨R.TIM_RTC_LO, 0, 32⟩
abbrev TIM_RTC_HI_COUNT : Fld := ⟨R.TIM_RTC_HI, 0, 16⟩
abbrev TIM_RTC_TRIM_PPM : Fld := ⟨R.TIM_RTC_TRIM, 0, 24⟩
abbrev TIM_RTC_TRIM_VALID : Fld := ⟨R.TIM_RTC_TRIM, 31, 1⟩
abbrev TIM_SLEEP_LAST_SEC : Fld := ⟨R.TIM_SLEEP_LAST, 0, 32⟩
abbrev TIM_B_CFG_B_KP_SH : Fld := ⟨R.TIM_B_CFG, 0, 4⟩
abbrev TIM_B_CFG_B_KI_SH : Fld := ⟨R.TIM_B_CFG, 8, 5⟩
abbrev TIM_B_CFG_B_LOCK_NS : Fld := ⟨R.TIM_B_CFG, 16, 8⟩
abbrev TIM_B_AT_SEC_SEC : Fld := ⟨R.TIM_B_AT_SEC, 0, 32⟩
abbrev TIM_B_AT_NS_NS : Fld := ⟨R.TIM_B_AT_NS, 0, 30⟩
abbrev TIM_B_OFS_OFS : Fld := ⟨R.TIM_B_OFS, 0, 32⟩
abbrev TIM_B_STAT_STATE : Fld := ⟨R.TIM_B_STAT, 0, 2⟩
abbrev TIM_B_PHASE_PHI : Fld := ⟨R.TIM_B_PHASE, 0, 32⟩
abbrev TIM_B_FREQ_NU : Fld := ⟨R.TIM_B_FREQ, 0, 32⟩
abbrev TIM_CNT_TOD_COUNT : Fld := ⟨R.TIM_CNT_TOD, 0, 32⟩
abbrev TIM_CNT_TOD_UNRANGED_COUNT : Fld := ⟨R.TIM_CNT_TOD_UNRANGED, 0, 32⟩
abbrev TIM_CNT_TOD_STALE_COUNT : Fld := ⟨R.TIM_CNT_TOD_STALE, 0, 32⟩
abbrev TIM_CNT_TOD_EQD_COUNT : Fld := ⟨R.TIM_CNT_TOD_EQD, 0, 32⟩
abbrev TIM_CNT_JUMP_COUNT : Fld := ⟨R.TIM_CNT_JUMP, 0, 32⟩
abbrev TIM_CNT_STEP_COUNT : Fld := ⟨R.TIM_CNT_STEP, 0, 32⟩
abbrev TIM_CNT_B_STALE_COUNT : Fld := ⟨R.TIM_CNT_B_STALE, 0, 32⟩
abbrev TIM_CNT_SWITCH_COUNT : Fld := ⟨R.TIM_CNT_SWITCH, 0, 32⟩
abbrev SM_SEAM_CTL_RETRAIN_EN (p : Nat) : Fld := ⟨R.SM_SEAM_CTL p, 0, 1⟩
abbrev SM_SEAM_STAT_STATE (p : Nat) : Fld := ⟨R.SM_SEAM_STAT p, 0, 2⟩
abbrev SM_SEAM_STAT_LOST (p : Nat) : Fld := ⟨R.SM_SEAM_STAT p, 2, 1⟩
abbrev SM_SEAM_STAT_LOCK (p : Nat) : Fld := ⟨R.SM_SEAM_STAT p, 16, 16⟩
abbrev SM_HELD_DEPTH (p : Nat) : Fld := ⟨R.SM_HELD p, 0, 7⟩
abbrev SM_CNT_CRC_COUNT (p : Nat) : Fld := ⟨R.SM_CNT_CRC p, 0, 32⟩
abbrev SM_CNT_REPLAY_COUNT (p : Nat) : Fld := ⟨R.SM_CNT_REPLAY p, 0, 32⟩
abbrev SM_CNT_DOWN_COUNT (p : Nat) : Fld := ⟨R.SM_CNT_DOWN p, 0, 32⟩
abbrev SM_CNT_FLIT_DROP_COUNT (p : Nat) : Fld := ⟨R.SM_CNT_FLIT_DROP p, 0, 32⟩
abbrev PRS_PRS_CTL_EN : Fld := ⟨R.PRS_PRS_CTL, 0, 1⟩
abbrev PRS_PRS_CTL_MAL_ACT : Fld := ⟨R.PRS_PRS_CTL, 1, 1⟩
abbrev PRS_PRS_CFG_STEP_MAX : Fld := ⟨R.PRS_PRS_CFG, 0, 7⟩
abbrev PRS_PROG_CTL_ACTIVE : Fld := ⟨R.PRS_PROG_CTL, 0, 1⟩
abbrev PRS_PROG_ADDR_WORD : Fld := ⟨R.PRS_PROG_ADDR, 0, 10⟩
abbrev PRS_PROG_ADDR_VIEW : Fld := ⟨R.PRS_PROG_ADDR, 16, 1⟩
abbrev PRS_PROG_ADDR_AUTO_INC : Fld := ⟨R.PRS_PROG_ADDR, 17, 1⟩
abbrev PRS_PROG_CMD_COPY : Fld := ⟨R.PRS_PROG_CMD, 0, 1⟩
abbrev PRS_PROG_STAT_READY : Fld := ⟨R.PRS_PROG_STAT, 0, 1⟩
abbrev PRS_PROG_STAT_BUSY : Fld := ⟨R.PRS_PROG_STAT, 1, 1⟩
abbrev PRS_PROG_DATA_WORD (n : Nat) : Fld := ⟨R.PRS_PROG_DATA n, 0, 32⟩
abbrev PRS_ENG_STAT_ALL : Fld := ⟨R.PRS_ENG_STAT, 0, 32⟩
abbrev PRS_FAULT_LAST_CAUSE : Fld := ⟨R.PRS_FAULT_LAST, 0, 3⟩
abbrev PRS_FAULT_LAST_PC : Fld := ⟨R.PRS_FAULT_LAST, 3, 10⟩
abbrev PRS_FAULT_LAST_SRC : Fld := ⟨R.PRS_FAULT_LAST, 13, 6⟩
abbrev PRS_FAULT_LAST_PASS : Fld := ⟨R.PRS_FAULT_LAST, 19, 2⟩
abbrev PRS_CNT_PARSED_LO_COUNT : Fld := ⟨R.PRS_CNT_PARSED_LO, 0, 32⟩
abbrev PRS_CNT_PARSED_HI_COUNT : Fld := ⟨R.PRS_CNT_PARSED_HI, 0, 32⟩
abbrev PRS_CNT_FB_BUSY_COUNT : Fld := ⟨R.PRS_CNT_FB_BUSY, 0, 32⟩
abbrev PRS_CNT_FB_OFF_COUNT : Fld := ⟨R.PRS_CNT_FB_OFF, 0, 32⟩
abbrev PRS_CNT_FAULT_COUNT : Fld := ⟨R.PRS_CNT_FAULT, 0, 32⟩
abbrev PRS_CNT_DEEP_COUNT : Fld := ⟨R.PRS_CNT_DEEP, 0, 32⟩
abbrev PRS_CNT_FRAG_COUNT : Fld := ⟨R.PRS_CNT_FRAG, 0, 32⟩
abbrev PRS_CNT_MALFORMED_COUNT : Fld := ⟨R.PRS_CNT_MALFORMED, 0, 32⟩
abbrev PRS_CNT_PROG_UE_COUNT : Fld := ⟨R.PRS_CNT_PROG_UE, 0, 32⟩
abbrev CLS_CLS_CTL_EN : Fld := ⟨R.CLS_CLS_CTL, 0, 1⟩
abbrev CLS_CLS_CTL_RCL_ACT : Fld := ⟨R.CLS_CLS_CTL, 1, 1⟩
abbrev CLS_FLOW_CTL_ON_EN : Fld := ⟨R.CLS_FLOW_CTL, 0, 1⟩
abbrev CLS_FLOW_CTL_EXT_EN : Fld := ⟨R.CLS_FLOW_CTL, 1, 1⟩
abbrev CLS_FLOW_CTL_LEARN_EN : Fld := ⟨R.CLS_FLOW_CTL, 2, 1⟩
abbrev CLS_FLOW_CTL_AGE_MS : Fld := ⟨R.CLS_FLOW_CTL, 16, 16⟩
abbrev CLS_FLOW_EXT_LOG_BKT : Fld := ⟨R.CLS_FLOW_EXT, 0, 5⟩
abbrev CLS_FLOW_EXT_BASE : Fld := ⟨R.CLS_FLOW_EXT, 16, 9⟩
abbrev CLS_EPOCH_STAT_ALL : Fld := ⟨R.CLS_EPOCH_STAT, 0, 32⟩
abbrev CLS_EPOCH_SEL_EPOCH : Fld := ⟨R.CLS_EPOCH_SEL, 0, 4⟩
abbrev CLS_EPOCH_CNT_HELD : Fld := ⟨R.CLS_EPOCH_CNT, 0, 16⟩
abbrev CLS_EPOCH_CNT_READY : Fld := ⟨R.CLS_EPOCH_CNT, 16, 1⟩
abbrev CLS_TREE_ADDR_NODE : Fld := ⟨R.CLS_TREE_ADDR, 0, 20⟩
abbrev CLS_TREE_ADDR_AUTO_INC : Fld := ⟨R.CLS_TREE_ADDR, 20, 1⟩
abbrev CLS_TREE_STAT_READY : Fld := ⟨R.CLS_TREE_STAT, 0, 1⟩
abbrev CLS_TREE_STAT_LOCKED : Fld := ⟨R.CLS_TREE_STAT, 1, 1⟩
abbrev CLS_TREE_DATA_NODE (n : Nat) : Fld := ⟨R.CLS_TREE_DATA n, 0, 32⟩
abbrev CLS_FLOW_ADDR_INDEX : Fld := ⟨R.CLS_FLOW_ADDR, 0, 24⟩
abbrev CLS_FLOW_ADDR_EXT : Fld := ⟨R.CLS_FLOW_ADDR, 24, 1⟩
abbrev CLS_FLOW_CMD_READ : Fld := ⟨R.CLS_FLOW_CMD, 0, 1⟩
abbrev CLS_FLOW_CMD_WRITE : Fld := ⟨R.CLS_FLOW_CMD, 1, 1⟩
abbrev CLS_FLOW_CMD_INVALIDATE : Fld := ⟨R.CLS_FLOW_CMD, 2, 1⟩
abbrev CLS_FLOW_STAT_DONE : Fld := ⟨R.CLS_FLOW_STAT, 0, 1⟩
abbrev CLS_FLOW_STAT_ERROR : Fld := ⟨R.CLS_FLOW_STAT, 1, 1⟩
abbrev CLS_FLOW_DATA_BYTES (n : Nat) : Fld := ⟨R.CLS_FLOW_DATA n, 0, 32⟩
abbrev CLS_FLOW_MASK_LO_BYTES : Fld := ⟨R.CLS_FLOW_MASK_LO, 0, 32⟩
abbrev CLS_FLOW_MASK_HI_BYTES : Fld := ⟨R.CLS_FLOW_MASK_HI, 0, 32⟩
abbrev CLS_RCNT_SEL_IDX : Fld := ⟨R.CLS_RCNT_SEL, 0, 12⟩
abbrev CLS_RCNT_LO_COUNT : Fld := ⟨R.CLS_RCNT_LO, 0, 32⟩
abbrev CLS_RCNT_HI_COUNT : Fld := ⟨R.CLS_RCNT_HI, 0, 32⟩
abbrev CLS_RS_BIND_RS (n : Nat) : Fld := ⟨R.CLS_RS_BIND n, 0, 3⟩
abbrev CLS_RS_ROOT_ROOT (n : Nat) : Fld := ⟨R.CLS_RS_ROOT n, 0, 20⟩
abbrev CLS_RS_EXT_BASE_BLK (n : Nat) : Fld := ⟨R.CLS_RS_EXT n, 0, 8⟩
abbrev CLS_RS_EXT_NBLK (n : Nat) : Fld := ⟨R.CLS_RS_EXT n, 8, 9⟩
abbrev CLS_RS_DFLT_DFLT (n : Nat) : Fld := ⟨R.CLS_RS_DFLT n, 0, 20⟩
abbrev CLS_CNT_CLS_LO_COUNT : Fld := ⟨R.CLS_CNT_CLS_LO, 0, 32⟩
abbrev CLS_CNT_CLS_HI_COUNT : Fld := ⟨R.CLS_CNT_CLS_HI, 0, 32⟩
abbrev CLS_CNT_NO_RULES_COUNT : Fld := ⟨R.CLS_CNT_NO_RULES, 0, 32⟩
abbrev CLS_CNT_WALK_FAULT_COUNT : Fld := ⟨R.CLS_CNT_WALK_FAULT, 0, 32⟩
abbrev CLS_CNT_TREE_UE_COUNT : Fld := ⟨R.CLS_CNT_TREE_UE, 0, 32⟩
abbrev CLS_CNT_RECIRC_COUNT : Fld := ⟨R.CLS_CNT_RECIRC, 0, 32⟩
abbrev CLS_CNT_RC_LIMIT_COUNT : Fld := ⟨R.CLS_CNT_RC_LIMIT, 0, 32⟩
abbrev CLS_CNT_RC_DROP_COUNT : Fld := ⟨R.CLS_CNT_RC_DROP, 0, 32⟩
abbrev CLS_CNT_BADQ_COUNT : Fld := ⟨R.CLS_CNT_BADQ, 0, 32⟩
abbrev CLS_CNT_FLOW_HIT_COUNT : Fld := ⟨R.CLS_CNT_FLOW_HIT, 0, 32⟩
abbrev CLS_CNT_FLOW_MISS_COUNT : Fld := ⟨R.CLS_CNT_FLOW_MISS, 0, 32⟩
abbrev CLS_CNT_LEARN_COUNT : Fld := ⟨R.CLS_CNT_LEARN, 0, 32⟩
abbrev CLS_CNT_LEARN_FAIL_COUNT : Fld := ⟨R.CLS_CNT_LEARN_FAIL, 0, 32⟩
abbrev CLS_CNT_AGED_COUNT : Fld := ⟨R.CLS_CNT_AGED, 0, 32⟩
abbrev CLS_CNT_FLOW_UE_COUNT : Fld := ⟨R.CLS_CNT_FLOW_UE, 0, 32⟩
abbrev CLS_CNT_EXC_COUNT : Fld := ⟨R.CLS_CNT_EXC, 0, 32⟩
abbrev BPM_BPM_CTL_EN : Fld := ⟨R.BPM_BPM_CTL, 0, 1⟩
abbrev BPM_QMAP_CTL_ACTIVE : Fld := ⟨R.BPM_QMAP_CTL, 0, 1⟩
abbrev BPM_QMAP_ADDR_QUEUE : Fld := ⟨R.BPM_QMAP_ADDR, 0, 14⟩
abbrev BPM_QMAP_ADDR_VIEW : Fld := ⟨R.BPM_QMAP_ADDR, 16, 1⟩
abbrev BPM_QMAP_ADDR_AUTO_INC : Fld := ⟨R.BPM_QMAP_ADDR, 17, 1⟩
abbrev BPM_QMAP_DATA_PROF : Fld := ⟨R.BPM_QMAP_DATA, 0, 5⟩
abbrev BPM_QMAP_CMD_COPY : Fld := ⟨R.BPM_QMAP_CMD, 0, 1⟩
abbrev BPM_QMAP_STAT_READY : Fld := ⟨R.BPM_QMAP_STAT, 0, 1⟩
abbrev BPM_QMAP_STAT_BUSY : Fld := ⟨R.BPM_QMAP_STAT, 1, 1⟩
abbrev BPM_BUF_CMD_OP : Fld := ⟨R.BPM_BUF_CMD, 0, 3⟩
abbrev BPM_BUF_CMD_ADD : Fld := ⟨R.BPM_BUF_CMD, 8, 8⟩
abbrev BPM_BUF_CMD_POOL : Fld := ⟨R.BPM_BUF_CMD, 16, 3⟩
abbrev BPM_BUF_CMD_EXT : Fld := ⟨R.BPM_BUF_CMD, 19, 1⟩
abbrev BPM_BUF_HDL_LO_HANDLE : Fld := ⟨R.BPM_BUF_HDL_LO, 0, 32⟩
abbrev BPM_BUF_HDL_HI_HANDLE : Fld := ⟨R.BPM_BUF_HDL_HI, 0, 8⟩
abbrev BPM_BUF_ARG_LAST_OWNER : Fld := ⟨R.BPM_BUF_ARG, 0, 14⟩
abbrev BPM_BUF_STAT_RESULT : Fld := ⟨R.BPM_BUF_STAT, 0, 4⟩
abbrev BPM_BUF_STAT_STATE : Fld := ⟨R.BPM_BUF_STAT, 4, 2⟩
abbrev BPM_BUF_STAT_PEND : Fld := ⟨R.BPM_BUF_STAT, 6, 1⟩
abbrev BPM_BUF_STAT_COUNT : Fld := ⟨R.BPM_BUF_STAT, 8, 8⟩
abbrev BPM_BUF_STAT_LAST_OWNER : Fld := ⟨R.BPM_BUF_STAT, 16, 14⟩
abbrev BPM_BUF_STAT_BUSY : Fld := ⟨R.BPM_BUF_STAT, 31, 1⟩
abbrev BPM_LAST_REFUSE_LO_HANDLE : Fld := ⟨R.BPM_LAST_REFUSE_LO, 0, 32⟩
abbrev BPM_LAST_REFUSE_HI_HANDLE : Fld := ⟨R.BPM_LAST_REFUSE_HI, 0, 8⟩
abbrev BPM_LAST_REFUSE_HI_CAUSE : Fld := ⟨R.BPM_LAST_REFUSE_HI, 8, 4⟩
abbrev BPM_LAST_REFUSE_HI_HOLDER : Fld := ⟨R.BPM_LAST_REFUSE_HI, 16, 14⟩
abbrev BPM_POOL_SEL_POOL : Fld := ⟨R.BPM_POOL_SEL, 0, 3⟩
abbrev BPM_POOL_SEL_EXT : Fld := ⟨R.BPM_POOL_SEL, 3, 1⟩
abbrev BPM_POOL_SEL_CHAN : Fld := ⟨R.BPM_POOL_SEL, 4, 2⟩
abbrev BPM_POOL_FREE_COUNT : Fld := ⟨R.BPM_POOL_FREE, 0, 28⟩
abbrev BPM_POOL_FREE_READY : Fld := ⟨R.BPM_POOL_FREE, 31, 1⟩
abbrev BPM_POOL_HELD_COUNT : Fld := ⟨R.BPM_POOL_HELD, 0, 28⟩
abbrev BPM_POOL_GONE_COUNT : Fld := ⟨R.BPM_POOL_GONE, 0, 28⟩
abbrev BPM_ONP_CNT_COUNT (n : Nat) : Fld := ⟨R.BPM_ONP_CNT n, 0, 17⟩
abbrev BPM_EXT_REG_BASE (n : Nat) : Fld := ⟨R.BPM_EXT_REG n, 0, 10⟩
abbrev BPM_EXT_REG_SIZE (n : Nat) : Fld := ⟨R.BPM_EXT_REG n, 16, 10⟩
abbrev BPM_EXT_REG_WITHDRAWN (n : Nat) : Fld := ⟨R.BPM_EXT_REG n, 30, 1⟩
abbrev BPM_EXT_REG_EN (n : Nat) : Fld := ⟨R.BPM_EXT_REG n, 31, 1⟩
abbrev BPM_PROF_CFG_CEIL_ON (n : Nat) : Fld := ⟨R.BPM_PROF_CFG n, 0, 3⟩
abbrev BPM_PROF_CFG_CEIL_EXT (n : Nat) : Fld := ⟨R.BPM_PROF_CFG n, 4, 3⟩
abbrev BPM_PROF_CFG_ON_EN (n : Nat) : Fld := ⟨R.BPM_PROF_CFG n, 8, 1⟩
abbrev BPM_PROF_CFG_EXT_EN (n : Nat) : Fld := ⟨R.BPM_PROF_CFG n, 9, 1⟩
abbrev BPM_PROF_CFG_FALL (n : Nat) : Fld := ⟨R.BPM_PROF_CFG n, 10, 1⟩
abbrev BPM_PROF_CFG_SPILL_KIB (n : Nat) : Fld := ⟨R.BPM_PROF_CFG n, 16, 16⟩
abbrev BPM_CNT_ALLOC_LO_COUNT : Fld := ⟨R.BPM_CNT_ALLOC_LO, 0, 32⟩
abbrev BPM_CNT_ALLOC_HI_COUNT : Fld := ⟨R.BPM_CNT_ALLOC_HI, 0, 32⟩
abbrev BPM_CNT_NOBUF_COUNT : Fld := ⟨R.BPM_CNT_NOBUF, 0, 32⟩
abbrev BPM_CNT_UP_COUNT : Fld := ⟨R.BPM_CNT_UP, 0, 32⟩
abbrev BPM_CNT_SPILL_COUNT : Fld := ⟨R.BPM_CNT_SPILL, 0, 32⟩
abbrev BPM_CNT_TOO_LONG_COUNT : Fld := ⟨R.BPM_CNT_TOO_LONG, 0, 32⟩
abbrev BPM_CNT_REFUSED_COUNT : Fld := ⟨R.BPM_CNT_REFUSED, 0, 32⟩
abbrev BPM_CNT_SHARE_COUNT : Fld := ⟨R.BPM_CNT_SHARE, 0, 32⟩
abbrev BPM_CNT_DEAD_COUNT : Fld := ⟨R.BPM_CNT_DEAD, 0, 32⟩
abbrev BPM_CNT_RETIRED_BUF_COUNT : Fld := ⟨R.BPM_CNT_RETIRED_BUF, 0, 32⟩
abbrev MEM_MEM_CTL_EN (c : Nat) : Fld := ⟨R.MEM_MEM_CTL c, 0, 1⟩
abbrev MEM_MEM_CTL_SPEED (c : Nat) : Fld := ⟨R.MEM_MEM_CTL c, 1, 2⟩
abbrev MEM_MEM_CTL_RANKS (c : Nat) : Fld := ⟨R.MEM_MEM_CTL c, 3, 1⟩
abbrev MEM_MEM_CTL_WIDTH (c : Nat) : Fld := ⟨R.MEM_MEM_CTL c, 4, 1⟩
abbrev MEM_MEM_CTL_DENS (c : Nat) : Fld := ⟨R.MEM_MEM_CTL c, 5, 2⟩
abbrev MEM_MEM_CTL_RDIMM (c : Nat) : Fld := ⟨R.MEM_MEM_CTL c, 7, 1⟩
abbrev MEM_MEM_CMD_TRAIN (c : Nat) : Fld := ⟨R.MEM_MEM_CMD c, 0, 1⟩
abbrev MEM_MEM_CMD_WITHDRAW (c : Nat) : Fld := ⟨R.MEM_MEM_CMD c, 1, 1⟩
abbrev MEM_MEM_STAT_STATE (c : Nat) : Fld := ⟨R.MEM_MEM_STAT c, 0, 3⟩
abbrev MEM_MEM_STAT_FAIL_STEP (c : Nat) : Fld := ⟨R.MEM_MEM_STAT c, 4, 4⟩
abbrev MEM_MEM_STAT_SIZE_GIB (c : Nat) : Fld := ⟨R.MEM_MEM_STAT c, 8, 6⟩
abbrev MEM_EAVE_LINE (c : Nat) : Fld := ⟨R.MEM_EAVE c, 0, 30⟩
abbrev MEM_EAVE_DONE (c : Nat) : Fld := ⟨R.MEM_EAVE c, 31, 1⟩
abbrev MEM_FILL_CFG_SHARE (c : Nat) : Fld := ⟨R.MEM_FILL_CFG c, 0, 5⟩
abbrev MEM_FILL_CFG_PAUSE (c : Nat) : Fld := ⟨R.MEM_FILL_CFG c, 8, 1⟩
abbrev MEM_SKIP_START_START (c : Nat) : Fld := ⟨R.MEM_SKIP_START c, 0, 20⟩
abbrev MEM_SKIP_START_EN (c : Nat) : Fld := ⟨R.MEM_SKIP_START c, 31, 1⟩
abbrev MEM_SKIP_END_END (c : Nat) : Fld := ⟨R.MEM_SKIP_END c, 0, 20⟩
abbrev MEM_CNT_CE_COUNT (c : Nat) : Fld := ⟨R.MEM_CNT_CE c, 0, 32⟩
abbrev MEM_CNT_UE_COUNT (c : Nat) : Fld := ⟨R.MEM_CNT_UE c, 0, 32⟩
abbrev MEM_CNT_WB_COUNT (c : Nat) : Fld := ⟨R.MEM_CNT_WB c, 0, 32⟩
abbrev MEM_CNT_ABOVE_EAVE_COUNT (c : Nat) : Fld := ⟨R.MEM_CNT_ABOVE_EAVE c, 0, 32⟩
abbrev MEM_CNT_NARROW_COUNT (c : Nat) : Fld := ⟨R.MEM_CNT_NARROW c, 0, 32⟩
abbrev MEM_CNT_TRAIN_FAIL_COUNT (c : Nat) : Fld := ⟨R.MEM_CNT_TRAIN_FAIL c, 0, 32⟩
abbrev ECC_SCRUB_CFG_EXT_H : Fld := ⟨R.ECC_SCRUB_CFG, 0, 8⟩
abbrev ECC_SCRUB_CFG_ON_MS : Fld := ⟨R.ECC_SCRUB_CFG, 8, 16⟩
abbrev ECC_SCRUB_CFG_EN : Fld := ⟨R.ECC_SCRUB_CFG, 31, 1⟩
abbrev ECC_SCRUB_STAT_EXT_PASSES : Fld := ⟨R.ECC_SCRUB_STAT, 0, 8⟩
abbrev ECC_SCRUB_STAT_ON_PASSES : Fld := ⟨R.ECC_SCRUB_STAT, 8, 8⟩
abbrev ECC_CE_CFG_THR : Fld := ⟨R.ECC_CE_CFG, 0, 4⟩
abbrev ECC_CE_CFG_TRACK_CLR : Fld := ⟨R.ECC_CE_CFG, 8, 1⟩
abbrev ECC_RET_ADDR_PAGE : Fld := ⟨R.ECC_RET_ADDR, 0, 25⟩
abbrev ECC_RET_ADDR_BANK : Fld := ⟨R.ECC_RET_ADDR, 31, 1⟩
abbrev ECC_RET_CMD_RETIRE : Fld := ⟨R.ECC_RET_CMD, 0, 1⟩
abbrev ECC_RET_CMD_CLEAR_LIST : Fld := ⟨R.ECC_RET_CMD, 1, 1⟩
abbrev ECC_RET_STAT_RESULT : Fld := ⟨R.ECC_RET_STAT, 0, 3⟩
abbrev ECC_RET_STAT_BUSY : Fld := ⟨R.ECC_RET_STAT, 3, 1⟩
abbrev ECC_RET_STAT_LIST_COUNT : Fld := ⟨R.ECC_RET_STAT, 16, 13⟩
abbrev ECC_TRACK_SEL_ENTRY : Fld := ⟨R.ECC_TRACK_SEL, 0, 6⟩
abbrev ECC_TRACK_ENTRY_PAGE : Fld := ⟨R.ECC_TRACK_ENTRY, 0, 25⟩
abbrev ECC_TRACK_ENTRY_COUNT : Fld := ⟨R.ECC_TRACK_ENTRY, 25, 4⟩
abbrev ECC_TRACK_ENTRY_BANK : Fld := ⟨R.ECC_TRACK_ENTRY, 30, 1⟩
abbrev ECC_TRACK_ENTRY_VALID : Fld := ⟨R.ECC_TRACK_ENTRY, 31, 1⟩
abbrev ECC_LAST_BYTES (n : Nat) : Fld := ⟨R.ECC_LAST n, 0, 32⟩
abbrev ECC_CNT_ON_CE_COUNT : Fld := ⟨R.ECC_CNT_ON_CE, 0, 32⟩
abbrev ECC_CNT_ON_UE_COUNT : Fld := ⟨R.ECC_CNT_ON_UE, 0, 32⟩
abbrev ECC_CNT_ON_NARROW_COUNT : Fld := ⟨R.ECC_CNT_ON_NARROW, 0, 32⟩
abbrev ECC_CNT_CE_REPEAT_COUNT : Fld := ⟨R.ECC_CNT_CE_REPEAT, 0, 32⟩
abbrev ECC_CNT_RETIRED_COUNT : Fld := ⟨R.ECC_CNT_RETIRED, 0, 32⟩
abbrev MXE_MXE_CTL_RK_SHARE : Fld := ⟨R.MXE_MXE_CTL, 0, 5⟩
abbrev MXE_MXE_CMD_REKEY : Fld := ⟨R.MXE_MXE_CMD, 0, 1⟩
abbrev MXE_MXE_CMD_FRESH : Fld := ⟨R.MXE_MXE_CMD, 1, 1⟩
abbrev MXE_MXE_STAT_KGEN : Fld := ⟨R.MXE_MXE_STAT, 0, 16⟩
abbrev MXE_MXE_STAT_NEXT_VALID : Fld := ⟨R.MXE_MXE_STAT, 16, 1⟩
abbrev MXE_MXE_STAT_NEXT_WRAPPED : Fld := ⟨R.MXE_MXE_STAT, 17, 1⟩
abbrev MXE_MXE_STAT_CUR_WRAPPED : Fld := ⟨R.MXE_MXE_STAT, 18, 1⟩
abbrev MXE_MXE_STAT_RUNNING : Fld := ⟨R.MXE_MXE_STAT, 19, 1⟩
abbrev MXE_MXE_STAT_ENTROPY_OK : Fld := ⟨R.MXE_MXE_STAT, 20, 1⟩
abbrev MXE_RK_PTR_LINE (n : Nat) : Fld := ⟨R.MXE_RK_PTR n, 0, 30⟩
abbrev MXE_RK_PTR_DONE (n : Nat) : Fld := ⟨R.MXE_RK_PTR n, 31, 1⟩
abbrev MXE_CNT_REKEY_COUNT : Fld := ⟨R.MXE_CNT_REKEY, 0, 32⟩
abbrev SCH_SCH_CTL_EN_UP : Fld := ⟨R.SCH_SCH_CTL, 0, 1⟩
abbrev SCH_SCH_CTL_EN_BP : Fld := ⟨R.SCH_SCH_CTL, 1, 1⟩
abbrev SCH_Q_SEL_QUEUE (i : Nat) : Fld := ⟨R.SCH_Q_SEL i, 0, 14⟩
abbrev SCH_Q_STAT_READY : Fld := ⟨R.SCH_Q_STAT, 0, 1⟩
abbrev SCH_Q_STAT_ELIGIBLE : Fld := ⟨R.SCH_Q_STAT, 1, 1⟩
abbrev SCH_Q_STAT_PAUSED : Fld := ⟨R.SCH_Q_STAT, 2, 1⟩
abbrev SCH_Q_CFG_PRIO (i : Nat) : Fld := ⟨R.SCH_Q_CFG i, 0, 3⟩
abbrev SCH_Q_CFG_WEIGHT (i : Nat) : Fld := ⟨R.SCH_Q_CFG i, 8, 8⟩
abbrev SCH_Q_CFG_PFC_PRI (i : Nat) : Fld := ⟨R.SCH_Q_CFG i, 16, 3⟩
abbrev SCH_Q_CFG_PFC_SRC (i : Nat) : Fld := ⟨R.SCH_Q_CFG i, 19, 1⟩
abbrev SCH_Q_LEN_MAX_LEN (i : Nat) : Fld := ⟨R.SCH_Q_LEN i, 0, 17⟩
abbrev SCH_Q_LIM_LIM_KIB (i : Nat) : Fld := ⟨R.SCH_Q_LIM i, 0, 28⟩
abbrev SCH_Q_DEPTH_KIB : Fld := ⟨R.SCH_Q_DEPTH, 0, 28⟩
abbrev SCH_Q_PKTS_COUNT : Fld := ⟨R.SCH_Q_PKTS, 0, 28⟩
abbrev SCH_Q_HWM_KIB (i : Nat) : Fld := ⟨R.SCH_Q_HWM i, 0, 28⟩
abbrev SCH_Q_CMD_HWM_CLR : Fld := ⟨R.SCH_Q_CMD, 0, 1⟩
abbrev SCH_Q_CMD_HWM_CLR_ALL : Fld := ⟨R.SCH_Q_CMD, 1, 1⟩
abbrev SCH_Q_TX_LO_COUNT (i : Nat) : Fld := ⟨R.SCH_Q_TX_LO i, 0, 32⟩
abbrev SCH_Q_TX_HI_COUNT (i : Nat) : Fld := ⟨R.SCH_Q_TX_HI i, 0, 32⟩
abbrev SCH_Q_DROP_COUNT (i : Nat) : Fld := ⟨R.SCH_Q_DROP i, 0, 32⟩
abbrev SCH_CNT_ENQ_LO_COUNT : Fld := ⟨R.SCH_CNT_ENQ_LO, 0, 32⟩
abbrev SCH_CNT_ENQ_HI_COUNT : Fld := ⟨R.SCH_CNT_ENQ_HI, 0, 32⟩
abbrev SCH_CNT_MAXLEN_COUNT : Fld := ⟨R.SCH_CNT_MAXLEN, 0, 32⟩
abbrev SCH_CNT_QFULL_COUNT : Fld := ⟨R.SCH_CNT_QFULL, 0, 32⟩
abbrev SHP_SHP_CTL_EN : Fld := ⟨R.SHP_SHP_CTL, 0, 1⟩
abbrev SHP_S_SEL_SHAPER (i : Nat) : Fld := ⟨R.SHP_S_SEL i, 0, 14⟩
abbrev SHP_S_STAT_READY : Fld := ⟨R.SHP_S_STAT, 0, 1⟩
abbrev SHP_S_STAT_ELIG : Fld := ⟨R.SHP_S_STAT, 1, 1⟩
abbrev SHP_S_STAT_DEBT : Fld := ⟨R.SHP_S_STAT, 2, 1⟩
abbrev SHP_SHAPER_RATE_RATE (i : Nat) : Fld := ⟨R.SHP_SHAPER_RATE i, 0, 30⟩
abbrev SHP_SHAPER_CFG_EN (i : Nat) : Fld := ⟨R.SHP_SHAPER_CFG i, 0, 1⟩
abbrev SHP_SHAPER_CFG_RESET_MODE (i : Nat) : Fld := ⟨R.SHP_SHAPER_CFG i, 1, 1⟩
abbrev SHP_SHAPER_CFG_BURST (i : Nat) : Fld := ⟨R.SHP_SHAPER_CFG i, 16, 15⟩
abbrev SHP_S_CREDIT_CREDIT : Fld := ⟨R.SHP_S_CREDIT, 0, 32⟩
abbrev SHP_CNT_RESET_COUNT : Fld := ⟨R.SHP_CNT_RESET, 0, 32⟩
abbrev POL_POL_CTL_EN : Fld := ⟨R.POL_POL_CTL, 0, 1⟩
abbrev POL_P_SEL_POLICER (i : Nat) : Fld := ⟨R.POL_P_SEL i, 0, 14⟩
abbrev POL_P_STAT_READY : Fld := ⟨R.POL_P_STAT, 0, 1⟩
abbrev POL_POL_RATE_RATE (i : Nat) : Fld := ⟨R.POL_POL_RATE i, 0, 30⟩
abbrev POL_POL_CFG_EN (i : Nat) : Fld := ⟨R.POL_POL_CFG i, 0, 1⟩
abbrev POL_POL_CFG_RESET_MODE (i : Nat) : Fld := ⟨R.POL_POL_CFG i, 1, 1⟩
abbrev POL_POL_CFG_BURST (i : Nat) : Fld := ⟨R.POL_POL_CFG i, 16, 15⟩
abbrev POL_P_CREDIT_CREDIT : Fld := ⟨R.POL_P_CREDIT, 0, 32⟩
abbrev POL_P_PASS_LO_COUNT (i : Nat) : Fld := ⟨R.POL_P_PASS_LO i, 0, 32⟩
abbrev POL_P_PASS_HI_COUNT (i : Nat) : Fld := ⟨R.POL_P_PASS_HI i, 0, 32⟩
abbrev POL_P_DROP_COUNT (i : Nat) : Fld := ⟨R.POL_P_DROP i, 0, 32⟩
abbrev POL_CNT_POL_DROP_COUNT : Fld := ⟨R.POL_CNT_POL_DROP, 0, 32⟩
abbrev GAT_GATE_ACT_LO_ACT : Fld := ⟨R.GAT_GATE_ACT_LO, 0, 32⟩
abbrev GAT_GATE_ACT_HI_ACT : Fld := ⟨R.GAT_GATE_ACT_HI, 0, 16⟩
abbrev GAT_G_SEL_LANE (i : Nat) : Fld := ⟨R.GAT_G_SEL i, 0, 6⟩
abbrev GAT_G_SEL_ENTRY (i : Nat) : Fld := ⟨R.GAT_G_SEL i, 8, 6⟩
abbrev GAT_G_SEL_VIEW (i : Nat) : Fld := ⟨R.GAT_G_SEL i, 16, 1⟩
abbrev GAT_G_SEL_AUTO_INC (i : Nat) : Fld := ⟨R.GAT_G_SEL i, 17, 1⟩
abbrev GAT_G_STAT_READY : Fld := ⟨R.GAT_G_STAT, 0, 1⟩
abbrev GAT_G_STAT_BUSY : Fld := ⟨R.GAT_G_STAT, 1, 1⟩
abbrev GAT_G_STAT_PENDING : Fld := ⟨R.GAT_G_STAT, 2, 1⟩
abbrev GAT_G_ENTRY_LO_INTERVAL_NS : Fld := ⟨R.GAT_G_ENTRY_LO, 0, 24⟩
abbrev GAT_G_ENTRY_HI_GATES : Fld := ⟨R.GAT_G_ENTRY_HI, 0, 16⟩
abbrev GAT_G_LIST_LEN : Fld := ⟨R.GAT_G_LIST, 0, 7⟩
abbrev GAT_G_CYCLE_CYCLE_NS : Fld := ⟨R.GAT_G_CYCLE, 0, 30⟩
abbrev GAT_G_PHASE_PHASE_NS : Fld := ⟨R.GAT_G_PHASE, 0, 30⟩
abbrev GAT_G_CMD_COPY : Fld := ⟨R.GAT_G_CMD, 0, 1⟩
abbrev GAT_G_LANE_ENTRY_NOW : Fld := ⟨R.GAT_G_LANE, 0, 6⟩
abbrev GAT_G_LANE_COPY_ACT : Fld := ⟨R.GAT_G_LANE, 8, 1⟩
abbrev GAT_G_LANE_OPEN : Fld := ⟨R.GAT_G_LANE, 16, 16⟩
abbrev GAT_CNT_GATE_OVERSIZE_COUNT : Fld := ⟨R.GAT_CNT_GATE_OVERSIZE, 0, 32⟩
abbrev GAT_CNT_SWITCH_COUNT : Fld := ⟨R.GAT_CNT_SWITCH, 0, 32⟩
abbrev BPQ_QUAD_CTL_SPREAD (q : Nat) : Fld := ⟨R.BPQ_QUAD_CTL q, 0, 1⟩
abbrev BPQ_QUAD_STAT_REF_OK (q : Nat) : Fld := ⟨R.BPQ_QUAD_STAT q, 0, 1⟩
abbrev BPQ_QUAD_STAT_UP (q : Nat) : Fld := ⟨R.BPQ_QUAD_STAT q, 4, 4⟩
abbrev BPQ_LANE_CTL_MODE (l : Nat) : Fld := ⟨R.BPQ_LANE_CTL l, 0, 3⟩
abbrev BPQ_LANE_CTL_FEC (l : Nat) : Fld := ⟨R.BPQ_LANE_CTL l, 4, 2⟩
abbrev BPQ_LANE_CTL_AN_EN (l : Nat) : Fld := ⟨R.BPQ_LANE_CTL l, 6, 1⟩
abbrev BPQ_LANE_CTL_TRAIN_EN (l : Nat) : Fld := ⟨R.BPQ_LANE_CTL l, 7, 1⟩
abbrev BPQ_LANE_CTL_KEEP_COEF (l : Nat) : Fld := ⟨R.BPQ_LANE_CTL l, 8, 1⟩
abbrev BPQ_LANE_CTL_RX_INV (l : Nat) : Fld := ⟨R.BPQ_LANE_CTL l, 9, 1⟩
abbrev BPQ_LANE_CTL_TX_INV (l : Nat) : Fld := ⟨R.BPQ_LANE_CTL l, 10, 1⟩
abbrev BPQ_LANE_CTL_LOOP (l : Nat) : Fld := ⟨R.BPQ_LANE_CTL l, 12, 2⟩
abbrev BPQ_LANE_CTL_SGMII_SPD (l : Nat) : Fld := ⟨R.BPQ_LANE_CTL l, 16, 2⟩
abbrev BPQ_LANE_CTL_RECAL_POLICY (l : Nat) : Fld := ⟨R.BPQ_LANE_CTL l, 20, 1⟩
abbrev BPQ_LANE_CMD_SLEEP (l : Nat) : Fld := ⟨R.BPQ_LANE_CMD l, 0, 1⟩
abbrev BPQ_LANE_CMD_WAKE (l : Nat) : Fld := ⟨R.BPQ_LANE_CMD l, 1, 1⟩
abbrev BPQ_LANE_CMD_RECAL (l : Nat) : Fld := ⟨R.BPQ_LANE_CMD l, 2, 1⟩
abbrev BPQ_LANE_CMD_RECAL_ABORT (l : Nat) : Fld := ⟨R.BPQ_LANE_CMD l, 3, 1⟩
abbrev BPQ_LANE_CMD_RETRAIN (l : Nat) : Fld := ⟨R.BPQ_LANE_CMD l, 4, 1⟩
abbrev BPQ_LANE_STAT_STATE (l : Nat) : Fld := ⟨R.BPQ_LANE_STAT l, 0, 4⟩
abbrev BPQ_LANE_STAT_MODE_NOW (l : Nat) : Fld := ⟨R.BPQ_LANE_STAT l, 4, 3⟩
abbrev BPQ_LANE_STAT_FEC_NOW (l : Nat) : Fld := ⟨R.BPQ_LANE_STAT l, 8, 2⟩
abbrev BPQ_LANE_STAT_SIGNAL (l : Nat) : Fld := ⟨R.BPQ_LANE_STAT l, 10, 1⟩
abbrev BPQ_LANE_STAT_COEF_VALID (l : Nat) : Fld := ⟨R.BPQ_LANE_STAT l, 11, 1⟩
abbrev BPQ_LANE_STAT_RECAL_STATE (l : Nat) : Fld := ⟨R.BPQ_LANE_STAT l, 12, 3⟩
abbrev BPQ_LANE_STAT_CAUSE (l : Nat) : Fld := ⟨R.BPQ_LANE_STAT l, 16, 10⟩
abbrev BPQ_FRAME_CFG_MAX_FRAME (l : Nat) : Fld := ⟨R.BPQ_FRAME_CFG l, 0, 15⟩
abbrev BPQ_FRAME_CFG_TX_START (l : Nat) : Fld := ⟨R.BPQ_FRAME_CFG l, 16, 3⟩
abbrev BPQ_FC_CFG_FC_MODE (l : Nat) : Fld := ⟨R.BPQ_FC_CFG l, 0, 2⟩
abbrev BPQ_FC_CFG_DFLT_PRI (l : Nat) : Fld := ⟨R.BPQ_FC_CFG l, 2, 3⟩
abbrev BPQ_FC_CFG_PRI_SEL (l : Nat) : Fld := ⟨R.BPQ_FC_CFG l, 8, 3⟩
abbrev BPQ_FC_CFG_PAUSE_TIME (l : Nat) : Fld := ⟨R.BPQ_FC_CFG l, 16, 16⟩
abbrev BPQ_FC_THR_XOFF_KIB (l : Nat) : Fld := ⟨R.BPQ_FC_THR l, 0, 16⟩
abbrev BPQ_FC_THR_XON_KIB (l : Nat) : Fld := ⟨R.BPQ_FC_THR l, 16, 16⟩
abbrev BPQ_FC_STAT_PAUSED (l : Nat) : Fld := ⟨R.BPQ_FC_STAT l, 0, 1⟩
abbrev BPQ_FC_STAT_PFC_HELD (l : Nat) : Fld := ⟨R.BPQ_FC_STAT l, 8, 8⟩
abbrev BPQ_FC_STAT_XOFF_OUT (l : Nat) : Fld := ⟨R.BPQ_FC_STAT l, 16, 1⟩
abbrev BPQ_FC_STAT_PFC_XOFF_OUT (l : Nat) : Fld := ⟨R.BPQ_FC_STAT l, 24, 8⟩
abbrev BPQ_RX_HELD_TOTAL_KIB (l : Nat) : Fld := ⟨R.BPQ_RX_HELD l, 0, 16⟩
abbrev BPQ_RX_HELD_PRI_KIB (l : Nat) : Fld := ⟨R.BPQ_RX_HELD l, 16, 16⟩
abbrev BPQ_SLEEP_CFG_WAKE_ON_SIG (l : Nat) : Fld := ⟨R.BPQ_SLEEP_CFG l, 0, 1⟩
abbrev BPQ_SLEEP_CFG_WAKE_ON_Q (l : Nat) : Fld := ⟨R.BPQ_SLEEP_CFG l, 1, 1⟩
abbrev BPQ_SLEEP_CFG_WAKE_KIB (l : Nat) : Fld := ⟨R.BPQ_SLEEP_CFG l, 16, 16⟩
abbrev BPQ_AN_ADV_KR10 (l : Nat) : Fld := ⟨R.BPQ_AN_ADV l, 0, 1⟩
abbrev BPQ_AN_ADV_KR25 (l : Nat) : Fld := ⟨R.BPQ_AN_ADV l, 1, 1⟩
abbrev BPQ_AN_ADV_KR50 (l : Nat) : Fld := ⟨R.BPQ_AN_ADV l, 2, 1⟩
abbrev BPQ_AN_ADV_FEC74 (l : Nat) : Fld := ⟨R.BPQ_AN_ADV l, 4, 1⟩
abbrev BPQ_AN_ADV_RSFEC (l : Nat) : Fld := ⟨R.BPQ_AN_ADV l, 5, 1⟩
abbrev BPQ_AN_ADV_PAUSE (l : Nat) : Fld := ⟨R.BPQ_AN_ADV l, 6, 1⟩
abbrev BPQ_TX_EQ_PRE (l : Nat) : Fld := ⟨R.BPQ_TX_EQ l, 0, 6⟩
abbrev BPQ_TX_EQ_POST (l : Nat) : Fld := ⟨R.BPQ_TX_EQ l, 8, 6⟩
abbrev BPQ_TX_EQ_SWING (l : Nat) : Fld := ⟨R.BPQ_TX_EQ l, 16, 4⟩
abbrev BPQ_CNT_RX_OK_LO_COUNT (l : Nat) : Fld := ⟨R.BPQ_CNT_RX_OK_LO l, 0, 32⟩
abbrev BPQ_CNT_RX_OK_HI_COUNT (l : Nat) : Fld := ⟨R.BPQ_CNT_RX_OK_HI l, 0, 32⟩
abbrev BPQ_CNT_TX_OK_LO_COUNT (l : Nat) : Fld := ⟨R.BPQ_CNT_TX_OK_LO l, 0, 32⟩
abbrev BPQ_CNT_TX_OK_HI_COUNT (l : Nat) : Fld := ⟨R.BPQ_CNT_TX_OK_HI l, 0, 32⟩
abbrev BPQ_CNT_RUNT_COUNT (l : Nat) : Fld := ⟨R.BPQ_CNT_RUNT l, 0, 32⟩
abbrev BPQ_CNT_OVERSIZE_COUNT (l : Nat) : Fld := ⟨R.BPQ_CNT_OVERSIZE l, 0, 32⟩
abbrev BPQ_CNT_FCS_COUNT (l : Nat) : Fld := ⟨R.BPQ_CNT_FCS l, 0, 32⟩
abbrev BPQ_CNT_TX_DISC_COUNT (l : Nat) : Fld := ⟨R.BPQ_CNT_TX_DISC l, 0, 32⟩
abbrev BPQ_CNT_UNDERRUN_COUNT (l : Nat) : Fld := ⟨R.BPQ_CNT_UNDERRUN l, 0, 32⟩
abbrev BPQ_CNT_CT_ABORT_COUNT (l : Nat) : Fld := ⟨R.BPQ_CNT_CT_ABORT l, 0, 32⟩
abbrev BPQ_CNT_PAUSE_RX_COUNT (l : Nat) : Fld := ⟨R.BPQ_CNT_PAUSE_RX l, 0, 32⟩
abbrev BPQ_CNT_PAUSE_TX_COUNT (l : Nat) : Fld := ⟨R.BPQ_CNT_PAUSE_TX l, 0, 32⟩
abbrev BPQ_CNT_FC_IGN_COUNT (l : Nat) : Fld := ⟨R.BPQ_CNT_FC_IGN l, 0, 32⟩
abbrev BPQ_CNT_FEC_CORR_COUNT (l : Nat) : Fld := ⟨R.BPQ_CNT_FEC_CORR l, 0, 32⟩
abbrev BPQ_CNT_FEC_UNCORR_COUNT (l : Nat) : Fld := ⟨R.BPQ_CNT_FEC_UNCORR l, 0, 32⟩
abbrev BPQ_CNT_LINK_DOWN_COUNT (l : Nat) : Fld := ⟨R.BPQ_CNT_LINK_DOWN l, 0, 32⟩
abbrev BPQ_CNT_TRAIN_FAIL_COUNT (l : Nat) : Fld := ⟨R.BPQ_CNT_TRAIN_FAIL l, 0, 32⟩
abbrev LMC_LMC_CTL_POLL_MS : Fld := ⟨R.LMC_LMC_CTL, 0, 10⟩
abbrev LMC_MDIO_CMD_DATA : Fld := ⟨R.LMC_MDIO_CMD, 0, 16⟩
abbrev LMC_MDIO_CMD_REG : Fld := ⟨R.LMC_MDIO_CMD, 16, 5⟩
abbrev LMC_MDIO_CMD_PHY : Fld := ⟨R.LMC_MDIO_CMD, 21, 5⟩
abbrev LMC_MDIO_CMD_OP : Fld := ⟨R.LMC_MDIO_CMD, 26, 2⟩
abbrev LMC_MDIO_CMD_GO : Fld := ⟨R.LMC_MDIO_CMD, 31, 1⟩
abbrev LMC_MDIO_STAT_DATA : Fld := ⟨R.LMC_MDIO_STAT, 0, 16⟩
abbrev LMC_MDIO_STAT_BUSY : Fld := ⟨R.LMC_MDIO_STAT, 16, 1⟩
abbrev LMC_MDIO_STAT_NO_ACK : Fld := ⟨R.LMC_MDIO_STAT, 17, 1⟩
abbrev LMC_PORT_CFG_EN (n : Nat) : Fld := ⟨R.LMC_PORT_CFG n, 0, 1⟩
abbrev LMC_PORT_CFG_RMII (n : Nat) : Fld := ⟨R.LMC_PORT_CFG n, 1, 1⟩
abbrev LMC_PORT_CFG_PHY_ADDR (n : Nat) : Fld := ⟨R.LMC_PORT_CFG n, 2, 5⟩
abbrev LMC_PORT_CFG_FORCE (n : Nat) : Fld := ⟨R.LMC_PORT_CFG n, 7, 1⟩
abbrev LMC_PORT_CFG_FORCE_100 (n : Nat) : Fld := ⟨R.LMC_PORT_CFG n, 8, 1⟩
abbrev LMC_PORT_CFG_FORCE_FULL (n : Nat) : Fld := ⟨R.LMC_PORT_CFG n, 9, 1⟩
abbrev LMC_PORT_CFG_OPT_2000 (n : Nat) : Fld := ⟨R.LMC_PORT_CFG n, 10, 1⟩
abbrev LMC_PORT_CFG_STEP_EN (n : Nat) : Fld := ⟨R.LMC_PORT_CFG n, 11, 1⟩
abbrev LMC_PORT_CFG_CX_BP (n : Nat) : Fld := ⟨R.LMC_PORT_CFG n, 12, 1⟩
abbrev LMC_PORT_CFG_TX_START (n : Nat) : Fld := ⟨R.LMC_PORT_CFG n, 13, 3⟩
abbrev LMC_PORT_CFG_FC_MODE (n : Nat) : Fld := ⟨R.LMC_PORT_CFG n, 16, 2⟩
abbrev LMC_PORT_STAT_LINK (n : Nat) : Fld := ⟨R.LMC_PORT_STAT n, 0, 1⟩
abbrev LMC_PORT_STAT_SPEED_100 (n : Nat) : Fld := ⟨R.LMC_PORT_STAT n, 1, 1⟩
abbrev LMC_PORT_STAT_FULL (n : Nat) : Fld := ⟨R.LMC_PORT_STAT n, 2, 1⟩
abbrev LMC_PORT_STAT_STEPPED (n : Nat) : Fld := ⟨R.LMC_PORT_STAT n, 3, 1⟩
abbrev LMC_PORT_STAT_PAUSED (n : Nat) : Fld := ⟨R.LMC_PORT_STAT n, 4, 1⟩
abbrev LMC_PORT_STAT_BP_ON (n : Nat) : Fld := ⟨R.LMC_PORT_STAT n, 5, 1⟩
abbrev LMC_PORT_STAT_HELD_KIB (n : Nat) : Fld := ⟨R.LMC_PORT_STAT n, 8, 14⟩
abbrev LMC_PORT_STAT_CAUSE (n : Nat) : Fld := ⟨R.LMC_PORT_STAT n, 24, 7⟩
abbrev LMC_PORT_THR_XOFF_KIB (n : Nat) : Fld := ⟨R.LMC_PORT_THR n, 0, 16⟩
abbrev LMC_PORT_THR_XON_KIB (n : Nat) : Fld := ⟨R.LMC_PORT_THR n, 16, 16⟩
abbrev LMC_PORT_FC_PAUSE_TIME (n : Nat) : Fld := ⟨R.LMC_PORT_FC n, 0, 16⟩
abbrev LMC_PORT_FC_UP_KIB (n : Nat) : Fld := ⟨R.LMC_PORT_FC n, 16, 16⟩
abbrev LMC_CNT_RX_OK_COUNT (n : Nat) : Fld := ⟨R.LMC_CNT_RX_OK n, 0, 32⟩
abbrev LMC_CNT_TX_OK_COUNT (n : Nat) : Fld := ⟨R.LMC_CNT_TX_OK n, 0, 32⟩
abbrev LMC_CNT_RUNT_COUNT (n : Nat) : Fld := ⟨R.LMC_CNT_RUNT n, 0, 32⟩
abbrev LMC_CNT_OVERSIZE_COUNT (n : Nat) : Fld := ⟨R.LMC_CNT_OVERSIZE n, 0, 32⟩
abbrev LMC_CNT_FCS_COUNT (n : Nat) : Fld := ⟨R.LMC_CNT_FCS n, 0, 32⟩
abbrev LMC_CNT_TX_DISC_COUNT (n : Nat) : Fld := ⟨R.LMC_CNT_TX_DISC n, 0, 32⟩
abbrev LMC_CNT_COLL_COUNT (n : Nat) : Fld := ⟨R.LMC_CNT_COLL n, 0, 32⟩
abbrev LMC_CNT_LATE_COLL_COUNT (n : Nat) : Fld := ⟨R.LMC_CNT_LATE_COLL n, 0, 32⟩
abbrev LMC_CNT_EXC_COLL_COUNT (n : Nat) : Fld := ⟨R.LMC_CNT_EXC_COLL n, 0, 32⟩
abbrev LMC_CNT_UNDERRUN_COUNT (n : Nat) : Fld := ⟨R.LMC_CNT_UNDERRUN n, 0, 32⟩
abbrev LMC_CNT_PAUSE_RX_COUNT (n : Nat) : Fld := ⟨R.LMC_CNT_PAUSE_RX n, 0, 32⟩
abbrev LMC_CNT_PAUSE_TX_COUNT (n : Nat) : Fld := ⟨R.LMC_CNT_PAUSE_TX n, 0, 32⟩
abbrev LMC_CNT_FC_IGN_COUNT (n : Nat) : Fld := ⟨R.LMC_CNT_FC_IGN n, 0, 32⟩
abbrev LMC_CNT_BP_COUNT (n : Nat) : Fld := ⟨R.LMC_CNT_BP n, 0, 32⟩
abbrev LMC_CNT_STEP_COUNT (n : Nat) : Fld := ⟨R.LMC_CNT_STEP n, 0, 32⟩
abbrev TCL_TC_CTL_EN : Fld := ⟨R.TCL_TC_CTL, 0, 1⟩
abbrev TCL_TC_CTL_MODE : Fld := ⟨R.TCL_TC_CTL, 1, 1⟩
abbrev TCL_TC_CTL_ETH : Fld := ⟨R.TCL_TC_CTL, 2, 1⟩
abbrev TCL_TC_CTL_IPV4 : Fld := ⟨R.TCL_TC_CTL, 3, 1⟩
abbrev TCL_TC_CTL_IPV6 : Fld := ⟨R.TCL_TC_CTL, 4, 1⟩
abbrev TCL_TC_CTL_FIBRE : Fld := ⟨R.TCL_TC_CTL, 5, 1⟩
abbrev TCL_FU_CFG_FU_AGE_US : Fld := ⟨R.TCL_FU_CFG, 0, 16⟩
abbrev TCL_TXTS_STAT_DEPTH : Fld := ⟨R.TCL_TXTS_STAT, 0, 7⟩
abbrev TCL_TXTS_TAG_TAG : Fld := ⟨R.TCL_TXTS_TAG, 0, 16⟩
abbrev TCL_TXTS_SEC_SEC : Fld := ⟨R.TCL_TXTS_SEC, 0, 32⟩
abbrev TCL_TXTS_NS_NS : Fld := ⟨R.TCL_TXTS_NS, 0, 30⟩
abbrev TCL_OUT_CTL_PPS_EN : Fld := ⟨R.TCL_OUT_CTL, 0, 1⟩
abbrev TCL_OUT_CTL_FS_EN : Fld := ⟨R.TCL_OUT_CTL, 1, 1⟩
abbrev TCL_OUT_CTL_SQUELCH : Fld := ⟨R.TCL_OUT_CTL, 2, 1⟩
abbrev TCL_PPS_CFG_WIDTH_US : Fld := ⟨R.TCL_PPS_CFG, 0, 19⟩
abbrev TCL_PPS_CFG_ADJ_NS : Fld := ⟨R.TCL_PPS_CFG, 20, 12⟩
abbrev TCL_TODU_CFG_EN : Fld := ⟨R.TCL_TODU_CFG, 0, 1⟩
abbrev TCL_TODU_CFG_BAUD : Fld := ⟨R.TCL_TODU_CFG, 1, 3⟩
abbrev TCL_TODU_CFG_UTC_OFS : Fld := ⟨R.TCL_TODU_CFG, 8, 8⟩
abbrev TCL_FOUT_CFG_FREQ_HZ (n : Nat) : Fld := ⟨R.TCL_FOUT_CFG n, 0, 27⟩
abbrev TCL_FOUT_CFG_EN (n : Nat) : Fld := ⟨R.TCL_FOUT_CFG n, 31, 1⟩
abbrev TCL_CNT_TC_CORR_COUNT : Fld := ⟨R.TCL_CNT_TC_CORR, 0, 32⟩
abbrev TCL_CNT_FU_MISS_COUNT : Fld := ⟨R.TCL_CNT_FU_MISS, 0, 32⟩
abbrev TCL_CNT_TC_SKIP_COUNT : Fld := ⟨R.TCL_CNT_TC_SKIP, 0, 32⟩
abbrev TCL_CNT_TXTS_OVF_COUNT : Fld := ⟨R.TCL_CNT_TXTS_OVF, 0, 32⟩
abbrev CPU_XWIN_BASE (n : Nat) : Fld := ⟨R.CPU_XWIN n, 0, 10⟩
abbrev CPU_EXC_BASE_ADDR : Fld := ⟨R.CPU_EXC_BASE, 6, 17⟩
abbrev CPU_EXC_CFG_LOG_SIZE : Fld := ⟨R.CPU_EXC_CFG, 0, 4⟩
abbrev CPU_EXC_CFG_EXC_ITEM : Fld := ⟨R.CPU_EXC_CFG, 4, 12⟩
abbrev CPU_EXC_CFG_EXC_FLAG : Fld := ⟨R.CPU_EXC_CFG, 16, 5⟩
abbrev CPU_EXC_HEAD_HEAD : Fld := ⟨R.CPU_EXC_HEAD, 0, 12⟩
abbrev CPU_EXC_TAIL_TAIL : Fld := ⟨R.CPU_EXC_TAIL, 0, 12⟩
abbrev CPU_INJ_HDL_LO_HANDLE : Fld := ⟨R.CPU_INJ_HDL_LO, 0, 32⟩
abbrev CPU_INJ_HDL_HI_HANDLE : Fld := ⟨R.CPU_INJ_HDL_HI, 0, 8⟩
abbrev CPU_INJ_LEN_S : Fld := ⟨R.CPU_INJ_LEN, 0, 17⟩
abbrev CPU_INJ_CMD_GO : Fld := ⟨R.CPU_INJ_CMD, 0, 1⟩
abbrev CPU_INJ_CMD_PATH : Fld := ⟨R.CPU_INJ_CMD, 1, 1⟩
abbrev CPU_INJ_CMD_TS : Fld := ⟨R.CPU_INJ_CMD, 2, 1⟩
abbrev CPU_INJ_CMD_INJ_Q : Fld := ⟨R.CPU_INJ_CMD, 3, 14⟩
abbrev CPU_INJ_STAT_BUSY : Fld := ⟨R.CPU_INJ_STAT, 0, 1⟩
abbrev CPU_INJ_STAT_RESULT : Fld := ⟨R.CPU_INJ_STAT, 1, 1⟩
abbrev CPU_INJ_TAG_TAG : Fld := ⟨R.CPU_INJ_TAG, 0, 16⟩
abbrev CPU_CNT_EXC_DROP_COUNT : Fld := ⟨R.CPU_CNT_EXC_DROP, 0, 32⟩
abbrev CPU_CNT_INJ_COUNT : Fld := ⟨R.CPU_CNT_INJ, 0, 32⟩
abbrev CPU_CNT_EXC_DESC_COUNT : Fld := ⟨R.CPU_CNT_EXC_DESC, 0, 32⟩
abbrev TSK_TSK_CTL_EN : Fld := ⟨R.TSK_TSK_CTL, 0, 1⟩
abbrev TSK_ITEM_SEL_ITEM (i : Nat) : Fld := ⟨R.TSK_ITEM_SEL i, 0, 12⟩
abbrev TSK_ITEM_CFG_PRIO (i : Nat) : Fld := ⟨R.TSK_ITEM_CFG i, 0, 5⟩
abbrev TSK_ITEM_CFG_MODE (i : Nat) : Fld := ⟨R.TSK_ITEM_CFG i, 8, 1⟩
abbrev TSK_ITEM_CFG_PREEMPT (i : Nat) : Fld := ⟨R.TSK_ITEM_CFG i, 9, 1⟩
abbrev TSK_ITEM_CFG_EN (i : Nat) : Fld := ⟨R.TSK_ITEM_CFG i, 15, 1⟩
abbrev TSK_ITEM_CFG_CORES (i : Nat) : Fld := ⟨R.TSK_ITEM_CFG i, 16, 8⟩
abbrev TSK_ITEM_MASK_MASK (i : Nat) : Fld := ⟨R.TSK_ITEM_MASK i, 0, 32⟩
abbrev TSK_ITEM_ARG_ARG (i : Nat) : Fld := ⟨R.TSK_ITEM_ARG i, 0, 32⟩
abbrev TSK_ITEM_RDY_READY : Fld := ⟨R.TSK_ITEM_RDY, 0, 1⟩
abbrev TSK_POST_ITEM : Fld := ⟨R.TSK_POST, 0, 12⟩
abbrev TSK_POST_FLAG : Fld := ⟨R.TSK_POST, 16, 5⟩
abbrev TSK_CANCEL_ITEM : Fld := ⟨R.TSK_CANCEL, 0, 12⟩
abbrev CMT_CMT_OPEN_TAG : Fld := ⟨R.CMT_CMT_OPEN, 0, 8⟩
abbrev CMT_CMT_COMMIT_TAG : Fld := ⟨R.CMT_CMT_COMMIT, 0, 8⟩
abbrev CMT_CMT_DISCARD_TAG : Fld := ⟨R.CMT_CMT_DISCARD, 0, 8⟩
abbrev CMT_CMT_ACK_TAG : Fld := ⟨R.CMT_CMT_ACK, 0, 8⟩
abbrev CMT_CMD_STAT_TAG : Fld := ⟨R.CMT_CMD_STAT, 0, 8⟩
abbrev CMT_CMD_STAT_CMD : Fld := ⟨R.CMT_CMD_STAT, 8, 4⟩
abbrev CMT_CMD_STAT_RESULT : Fld := ⟨R.CMT_CMD_STAT, 12, 4⟩
abbrev CMT_CMD_STAT_REQ : Fld := ⟨R.CMT_CMD_STAT, 16, 4⟩
abbrev CMT_CUR_TAG_TAG (n : Nat) : Fld := ⟨R.CMT_CUR_TAG n, 0, 8⟩
abbrev CMT_SLOT_TAG (n : Nat) : Fld := ⟨R.CMT_SLOT n, 0, 8⟩
abbrev CMT_SLOT_STATE (n : Nat) : Fld := ⟨R.CMT_SLOT n, 8, 3⟩
abbrev CMT_SLOT_CROSS_DIE (n : Nat) : Fld := ⟨R.CMT_SLOT n, 11, 1⟩
abbrev CMT_SLOT_COUNT (n : Nat) : Fld := ⟨R.CMT_SLOT n, 12, 11⟩
abbrev CMT_SLOT_OVERFLOW (n : Nat) : Fld := ⟨R.CMT_SLOT n, 23, 1⟩
abbrev CMT_SLOT_CAUSE (n : Nat) : Fld := ⟨R.CMT_SLOT n, 24, 4⟩
abbrev CMT_SLOT_PEND_PAGES (n : Nat) : Fld := ⟨R.CMT_SLOT_PEND n, 0, 7⟩
abbrev CMT_CNT_APPLIED_COUNT : Fld := ⟨R.CMT_CNT_APPLIED, 0, 32⟩
abbrev CMT_CNT_ABORTED_COUNT : Fld := ⟨R.CMT_CNT_ABORTED, 0, 32⟩
abbrev CMT_CNT_REFUSED_COUNT : Fld := ⟨R.CMT_CNT_REFUSED, 0, 32⟩
abbrev CMT_TIMEOUT_PREP_TO : Fld := ⟨R.CMT_TIMEOUT, 0, 16⟩
abbrev EVT_EVT_CTL_EN : Fld := ⟨R.EVT_EVT_CTL, 0, 1⟩
abbrev EVT_EVT_CTL_REC_EN : Fld := ⟨R.EVT_EVT_CTL, 1, 1⟩
abbrev EVT_SUM_GRP (n : Nat) : Fld := ⟨R.EVT_SUM n, 0, 16⟩
abbrev EVT_MSIX_ARM_LO_ARM : Fld := ⟨R.EVT_MSIX_ARM_LO, 0, 32⟩
abbrev EVT_MSIX_ARM_HI_ARM : Fld := ⟨R.EVT_MSIX_ARM_HI, 0, 32⟩
abbrev EVT_IRQ_STAT_LINE : Fld := ⟨R.EVT_IRQ_STAT, 0, 4⟩
abbrev EVT_SRC_SEL_SRC (i : Nat) : Fld := ⟨R.EVT_SRC_SEL i, 0, 11⟩
abbrev EVT_SRC_ROUTE_ITEM (i : Nat) : Fld := ⟨R.EVT_SRC_ROUTE i, 0, 12⟩
abbrev EVT_SRC_ROUTE_FLAG (i : Nat) : Fld := ⟨R.EVT_SRC_ROUTE i, 16, 5⟩
abbrev EVT_SRC_ROUTE_EN (i : Nat) : Fld := ⟨R.EVT_SRC_ROUTE i, 31, 1⟩
abbrev EVT_SRC_STAMP_SEC_SEC : Fld := ⟨R.EVT_SRC_STAMP_SEC, 0, 32⟩
abbrev EVT_SRC_STAMP_NS_NS : Fld := ⟨R.EVT_SRC_STAMP_NS, 0, 30⟩
abbrev EVT_SRC_STAMP_NS_READY : Fld := ⟨R.EVT_SRC_STAMP_NS, 31, 1⟩
abbrev EVT_REC_STAT_DEPTH : Fld := ⟨R.EVT_REC_STAT, 0, 10⟩
abbrev EVT_REC_SRC_SRC : Fld := ⟨R.EVT_REC_SRC, 0, 11⟩
abbrev EVT_REC_SRC_LINE : Fld := ⟨R.EVT_REC_SRC, 16, 1⟩
abbrev EVT_REC_SRC_VALID : Fld := ⟨R.EVT_REC_SRC, 31, 1⟩
abbrev EVT_REC_SEC_SEC : Fld := ⟨R.EVT_REC_SEC, 0, 32⟩
abbrev EVT_REC_NS_NS : Fld := ⟨R.EVT_REC_NS, 0, 30⟩
abbrev EVT_LOG_CFG_BASE : Fld := ⟨R.EVT_LOG_CFG, 0, 12⟩
abbrev EVT_LOG_CFG_SECT : Fld := ⟨R.EVT_LOG_CFG, 16, 12⟩
abbrev EVT_LOG_CFG_EN : Fld := ⟨R.EVT_LOG_CFG, 31, 1⟩
abbrev EVT_LOG_STAT_BUF : Fld := ⟨R.EVT_LOG_STAT, 0, 7⟩
abbrev EVT_LOG_STAT_BUSY : Fld := ⟨R.EVT_LOG_STAT, 8, 1⟩
abbrev EVT_LOG_STAT_FLASH_ERR : Fld := ⟨R.EVT_LOG_STAT, 9, 1⟩
abbrev EVT_LOG_SEQ_SEQ : Fld := ⟨R.EVT_LOG_SEQ, 0, 32⟩
abbrev EVT_PF_STAT_PF : Fld := ⟨R.EVT_PF_STAT, 0, 1⟩
abbrev EVT_PF_STAT_FLUSHED : Fld := ⟨R.EVT_PF_STAT, 1, 1⟩
abbrev EVT_PF_STAT_LATE : Fld := ⟨R.EVT_PF_STAT, 2, 1⟩
abbrev EVT_CNT_REC_LOST_COUNT : Fld := ⟨R.EVT_CNT_REC_LOST, 0, 32⟩
abbrev EVT_CNT_LOG_LOST_COUNT : Fld := ⟨R.EVT_CNT_LOG_LOST, 0, 32⟩
abbrev EVT_CNT_LOG_REC_COUNT : Fld := ⟨R.EVT_CNT_LOG_REC, 0, 32⟩
abbrev EVT_CNT_PF_COUNT : Fld := ⟨R.EVT_CNT_PF, 0, 32⟩
abbrev EVT_GRP_ROUTE_VECTOR (n : Nat) : Fld := ⟨R.EVT_GRP_ROUTE n, 0, 6⟩
abbrev EVT_GRP_ROUTE_MSIX_EN (n : Nat) : Fld := ⟨R.EVT_GRP_ROUTE n, 7, 1⟩
abbrev EVT_GRP_ROUTE_LINE (n : Nat) : Fld := ⟨R.EVT_GRP_ROUTE n, 8, 2⟩
abbrev EVT_GRP_ROUTE_IRQ_EN (n : Nat) : Fld := ⟨R.EVT_GRP_ROUTE n, 11, 1⟩
abbrev PWR_PWR_CTL_LEVEL : Fld := ⟨R.PWR_PWR_CTL, 0, 2⟩
abbrev PWR_PWR_CMD_DOZE : Fld := ⟨R.PWR_PWR_CMD, 0, 1⟩
abbrev PWR_PWR_CMD_NAP : Fld := ⟨R.PWR_PWR_CMD, 1, 1⟩
abbrev PWR_PWR_CMD_DEEP : Fld := ⟨R.PWR_PWR_CMD, 2, 1⟩
abbrev PWR_PWR_CMD_WAKE : Fld := ⟨R.PWR_PWR_CMD, 3, 1⟩
abbrev PWR_PWR_CMD_LEAVE_LIMP : Fld := ⟨R.PWR_PWR_CMD, 4, 1⟩
abbrev PWR_PWR_STAT_LEVEL_NOW : Fld := ⟨R.PWR_PWR_STAT, 0, 2⟩
abbrev PWR_PWR_STAT_MOVING : Fld := ⟨R.PWR_PWR_STAT, 2, 1⟩
abbrev PWR_PWR_STAT_STATE : Fld := ⟨R.PWR_PWR_STAT, 4, 2⟩
abbrev PWR_PWR_STAT_STEP : Fld := ⟨R.PWR_PWR_STAT, 6, 3⟩
abbrev PWR_PWR_STAT_LIMP : Fld := ⟨R.PWR_PWR_STAT, 9, 1⟩
abbrev PWR_PWR_STAT_OSC_READY : Fld := ⟨R.PWR_PWR_STAT, 10, 1⟩
abbrev PWR_PWR_STAT_REFUSE : Fld := ⟨R.PWR_PWR_STAT, 12, 3⟩
abbrev PWR_WAKE_SRC_GPIO : Fld := ⟨R.PWR_WAKE_SRC, 0, 8⟩
abbrev PWR_WAKE_SRC_PRESENCE : Fld := ⟨R.PWR_WAKE_SRC, 8, 1⟩
abbrev PWR_WAKE_SRC_RTC_ALARM : Fld := ⟨R.PWR_WAKE_SRC, 9, 1⟩
abbrev PWR_WAKE_SRC_SEAL : Fld := ⟨R.PWR_WAKE_SRC, 10, 1⟩
abbrev PWR_WAKE_AT_LO_COUNT : Fld := ⟨R.PWR_WAKE_AT_LO, 0, 32⟩
abbrev PWR_WAKE_AT_HI_COUNT : Fld := ⟨R.PWR_WAKE_AT_HI, 0, 16⟩
abbrev PWR_WAKE_LAST_SRC : Fld := ⟨R.PWR_WAKE_LAST, 0, 3⟩
abbrev PWR_WAKE_LAST_GPIO : Fld := ⟨R.PWR_WAKE_LAST, 4, 3⟩
abbrev PWR_WAKE_FAIL_STEP : Fld := ⟨R.PWR_WAKE_FAIL, 0, 3⟩
abbrev PWR_WAKE_FAIL_LINE_REG : Fld := ⟨R.PWR_WAKE_FAIL, 3, 1⟩
abbrev PWR_WAKE_FAIL_FAB_REG : Fld := ⟨R.PWR_WAKE_FAIL, 4, 1⟩
abbrev PWR_WAKE_FAIL_FAILED : Fld := ⟨R.PWR_WAKE_FAIL, 31, 1⟩
abbrev PWR_PMB_CFG_ADDR_L : Fld := ⟨R.PWR_PMB_CFG, 0, 7⟩
abbrev PWR_PMB_CFG_ADDR_F : Fld := ⟨R.PWR_PMB_CFG, 8, 7⟩
abbrev PWR_PMB_CFG_VTRIM : Fld := ⟨R.PWR_PMB_CFG, 16, 8⟩
abbrev PWR_DOM_ON_LO_ON : Fld := ⟨R.PWR_DOM_ON_LO, 0, 32⟩
abbrev PWR_DOM_ON_HI_ON : Fld := ⟨R.PWR_DOM_ON_HI, 0, 2⟩
abbrev PWR_DOM_FAIL_LO_FAIL : Fld := ⟨R.PWR_DOM_FAIL_LO, 0, 32⟩
abbrev PWR_DOM_FAIL_HI_FAIL : Fld := ⟨R.PWR_DOM_FAIL_HI, 0, 2⟩
abbrev PWR_CNT_LEVEL_COUNT : Fld := ⟨R.PWR_CNT_LEVEL, 0, 32⟩
abbrev PWR_CNT_LEVEL_FAIL_COUNT : Fld := ⟨R.PWR_CNT_LEVEL_FAIL, 0, 32⟩
abbrev PWR_CNT_WAKE_COUNT : Fld := ⟨R.PWR_CNT_WAKE, 0, 32⟩
abbrev PWR_CNT_WAKE_FAIL_COUNT : Fld := ⟨R.PWR_CNT_WAKE_FAIL, 0, 32⟩
abbrev PWR_CNT_PMB_RETRY_COUNT : Fld := ⟨R.PWR_CNT_PMB_RETRY, 0, 32⟩
abbrev PWR_CNT_LIMP_COUNT : Fld := ⟨R.PWR_CNT_LIMP, 0, 32⟩
abbrev RST_RST_CAUSE_CAUSE : Fld := ⟨R.RST_RST_CAUSE, 0, 3⟩
abbrev RST_RST_CMD_DEV_RST : Fld := ⟨R.RST_RST_CMD, 0, 1⟩
abbrev RST_CORE_RUN_RUN : Fld := ⟨R.RST_CORE_RUN, 0, 8⟩
abbrev RST_BOOT_STAT_STATE : Fld := ⟨R.RST_BOOT_STAT, 0, 3⟩
abbrev RST_BOOT_STAT_CAUSE0 : Fld := ⟨R.RST_BOOT_STAT, 4, 4⟩
abbrev RST_BOOT_STAT_CAUSE1 : Fld := ⟨R.RST_BOOT_STAT, 8, 4⟩
abbrev RST_BOOT_STAT_COPY : Fld := ⟨R.RST_BOOT_STAT, 12, 1⟩
abbrev RST_BOOT_STAT_NO_SFDP : Fld := ⟨R.RST_BOOT_STAT, 13, 1⟩
abbrev RST_BOOT_STAT_TORN : Fld := ⟨R.RST_BOOT_STAT, 14, 1⟩
abbrev RST_BOOT_CMD_RETRY : Fld := ⟨R.RST_BOOT_CMD, 0, 1⟩
abbrev RST_BOOT_CMD_RUN : Fld := ⟨R.RST_BOOT_CMD, 1, 1⟩
abbrev RST_BOOT_VER_VERSION : Fld := ⟨R.RST_BOOT_VER, 0, 32⟩
abbrev RST_ENTRY_ENTRY : Fld := ⟨R.RST_ENTRY, 0, 32⟩
abbrev RST_STRAPS_OWN_PRI : Fld := ⟨R.RST_STRAPS, 0, 2⟩
abbrev RST_STRAPS_SHELF_EN : Fld := ⟨R.RST_STRAPS, 2, 1⟩
abbrev RST_STRAPS_SEAL_USE : Fld := ⟨R.RST_STRAPS, 3, 1⟩
abbrev RST_STRAPS_BOOT_HOLD : Fld := ⟨R.RST_STRAPS, 4, 1⟩
abbrev RST_WDT_CFG_TIMEOUT_MS : Fld := ⟨R.RST_WDT_CFG, 0, 16⟩
abbrev RST_WDT_CFG_ACTION : Fld := ⟨R.RST_WDT_CFG, 16, 2⟩
abbrev RST_WDT_KICK_KICK : Fld := ⟨R.RST_WDT_KICK, 0, 1⟩
abbrev HIF_PCIE_STAT_L0 : Fld := ⟨R.HIF_PCIE_STAT, 0, 1⟩
abbrev HIF_PCIE_STAT_WIDTH : Fld := ⟨R.HIF_PCIE_STAT, 1, 3⟩
abbrev HIF_PCIE_STAT_SPEED : Fld := ⟨R.HIF_PCIE_STAT, 4, 3⟩
abbrev HIF_PCIE_STAT_D3 : Fld := ⟨R.HIF_PCIE_STAT, 7, 1⟩
abbrev HIF_PCIE_ERR_PAGE : Fld := ⟨R.HIF_PCIE_ERR, 0, 8⟩
abbrev HIF_PCIE_ERR_OFFSET : Fld := ⟨R.HIF_PCIE_ERR, 8, 12⟩
abbrev HIF_PCIE_ERR_CAUSE : Fld := ⟨R.HIF_PCIE_ERR, 20, 3⟩
abbrev HIF_PCIE_ERR_READ : Fld := ⟨R.HIF_PCIE_ERR, 23, 1⟩
abbrev HIF_SB_STAT_DEPTH : Fld := ⟨R.HIF_SB_STAT, 0, 6⟩
abbrev HIF_SB_STAT_HELD : Fld := ⟨R.HIF_SB_STAT, 6, 1⟩
abbrev HIF_SB_STAT_BANK : Fld := ⟨R.HIF_SB_STAT, 7, 1⟩
abbrev HIF_SB_STAT_ENABLED : Fld := ⟨R.HIF_SB_STAT, 8, 1⟩
abbrev HIF_SB_ERR_PAGE : Fld := ⟨R.HIF_SB_ERR, 0, 8⟩
abbrev HIF_SB_ERR_OFFSET : Fld := ⟨R.HIF_SB_ERR, 8, 12⟩
abbrev HIF_SB_ERR_CAUSE : Fld := ⟨R.HIF_SB_ERR, 20, 3⟩
abbrev HIF_SB_ERR_READ : Fld := ⟨R.HIF_SB_ERR, 23, 1⟩
abbrev HIF_OI2C_CFG_FAST : Fld := ⟨R.HIF_OI2C_CFG, 0, 1⟩
abbrev HIF_OI2C_CMD_ADDR : Fld := ⟨R.HIF_OI2C_CMD, 0, 7⟩
abbrev HIF_OI2C_CMD_OFFSET : Fld := ⟨R.HIF_OI2C_CMD, 8, 8⟩
abbrev HIF_OI2C_CMD_LEN : Fld := ⟨R.HIF_OI2C_CMD, 16, 4⟩
abbrev HIF_OI2C_CMD_READ : Fld := ⟨R.HIF_OI2C_CMD, 20, 1⟩
abbrev HIF_OI2C_CMD_GO : Fld := ⟨R.HIF_OI2C_CMD, 31, 1⟩
abbrev HIF_OI2C_STAT_BUSY : Fld := ⟨R.HIF_OI2C_STAT, 0, 1⟩
abbrev HIF_OI2C_STAT_RESULT : Fld := ⟨R.HIF_OI2C_STAT, 1, 2⟩
abbrev HIF_OI2C_DATA0_BYTES : Fld := ⟨R.HIF_OI2C_DATA0, 0, 32⟩
abbrev HIF_OI2C_DATA1_BYTES : Fld := ⟨R.HIF_OI2C_DATA1, 0, 32⟩
abbrev HIF_FLASH_ADDR_ADDR : Fld := ⟨R.HIF_FLASH_ADDR, 0, 32⟩
abbrev HIF_FLASH_CMD_OP : Fld := ⟨R.HIF_FLASH_CMD, 0, 2⟩
abbrev HIF_FLASH_CMD_LEN : Fld := ⟨R.HIF_FLASH_CMD, 8, 9⟩
abbrev HIF_FLASH_STAT_BUSY : Fld := ⟨R.HIF_FLASH_STAT, 0, 1⟩
abbrev HIF_FLASH_STAT_RESULT : Fld := ⟨R.HIF_FLASH_STAT, 1, 3⟩
abbrev HIF_JTAG_CTL_OPEN : Fld := ⟨R.HIF_JTAG_CTL, 0, 1⟩
abbrev HIF_JTAG_CTL_CLOSE : Fld := ⟨R.HIF_JTAG_CTL, 1, 1⟩
abbrev HIF_JTAG_STAT_IS_OPEN : Fld := ⟨R.HIF_JTAG_STAT, 0, 1⟩
abbrev HIF_CNT_PCIE_BUSERR_COUNT : Fld := ⟨R.HIF_CNT_PCIE_BUSERR, 0, 32⟩
abbrev HIF_CNT_SB_BUSERR_COUNT : Fld := ⟨R.HIF_CNT_SB_BUSERR, 0, 32⟩
abbrev HIF_CNT_SB_WOVF_COUNT : Fld := ⟨R.HIF_CNT_SB_WOVF, 0, 32⟩
abbrev HIF_CNT_SB_RDE_EARLY_COUNT : Fld := ⟨R.HIF_CNT_SB_RDE_EARLY, 0, 32⟩
abbrev HIF_CNT_OI2C_ERR_COUNT : Fld := ⟨R.HIF_CNT_OI2C_ERR, 0, 32⟩
abbrev HIF_CNT_FLASH_ERR_COUNT : Fld := ⟨R.HIF_CNT_FLASH_ERR, 0, 32⟩
abbrev HIF_FLASH_BUF_BYTES (n : Nat) : Fld := ⟨R.HIF_FLASH_BUF n, 0, 32⟩
abbrev HIF_MSIX_ADDR_LO_ADDR (n : Nat) : Fld := ⟨R.HIF_MSIX_ADDR_LO n, 2, 30⟩
abbrev HIF_MSIX_ADDR_HI_ADDR (n : Nat) : Fld := ⟨R.HIF_MSIX_ADDR_HI n, 0, 32⟩
abbrev HIF_MSIX_DATA_DATA (n : Nat) : Fld := ⟨R.HIF_MSIX_DATA n, 0, 32⟩
abbrev HIF_MSIX_CTL_MASK (n : Nat) : Fld := ⟨R.HIF_MSIX_CTL n, 0, 1⟩
abbrev HIF_PBA_LO_PEND : Fld := ⟨R.HIF_PBA_LO, 0, 32⟩
abbrev HIF_PBA_HI_PEND : Fld := ⟨R.HIF_PBA_HI, 0, 32⟩
abbrev OWN_OWN_STAT_HOLDER : Fld := ⟨R.OWN_OWN_STAT, 0, 2⟩
abbrev OWN_OWN_STAT_STATE : Fld := ⟨R.OWN_OWN_STAT, 2, 2⟩
abbrev OWN_OWN_STAT_TARGET : Fld := ⟨R.OWN_OWN_STAT, 4, 2⟩
abbrev OWN_OWN_STAT_PRESENT : Fld := ⟨R.OWN_OWN_STAT, 6, 1⟩
abbrev OWN_OWN_STAT_FORCE_OPEN : Fld := ⟨R.OWN_OWN_STAT, 7, 1⟩
abbrev OWN_OWN_STAT_PRES_STUCK : Fld := ⟨R.OWN_OWN_STAT, 8, 1⟩
abbrev OWN_OWN_STAT_SEAL_USED : Fld := ⟨R.OWN_OWN_STAT, 9, 1⟩
abbrev OWN_OWN_STAT_SEAL_INTACT : Fld := ⟨R.OWN_OWN_STAT, 10, 1⟩
abbrev OWN_OWN_STAT_SEAL_BROKEN : Fld := ⟨R.OWN_OWN_STAT, 11, 1⟩
abbrev OWN_OWN_RELEASE_TARGET : Fld := ⟨R.OWN_OWN_RELEASE, 0, 2⟩
abbrev OWN_OWN_RELEASE_VACATE : Fld := ⟨R.OWN_OWN_RELEASE, 2, 1⟩
abbrev OWN_OWN_CLAIM_CLAIM : Fld := ⟨R.OWN_OWN_CLAIM, 0, 1⟩
abbrev OWN_OWN_CLAIM_FORCE : Fld := ⟨R.OWN_OWN_CLAIM, 1, 1⟩
abbrev OWN_OWN_CTL_DELEGATE_CORES : Fld := ⟨R.OWN_OWN_CTL, 0, 1⟩
abbrev OWN_OWN_CTL_LEASE_EN : Fld := ⟨R.OWN_OWN_CTL, 1, 1⟩
abbrev OWN_OWN_TIMERS_HANDOVER_MS : Fld := ⟨R.OWN_OWN_TIMERS, 0, 16⟩
abbrev OWN_OWN_TIMERS_LEASE_MS : Fld := ⟨R.OWN_OWN_TIMERS, 16, 16⟩
abbrev OWN_OWN_HEARTBEAT_BEAT : Fld := ⟨R.OWN_OWN_HEARTBEAT, 0, 1⟩
abbrev OWN_OWN_PRES_CTL_WIN_S : Fld := ⟨R.OWN_OWN_PRES_CTL, 0, 8⟩
abbrev OWN_OWN_PRES_CTL_END : Fld := ⟨R.OWN_OWN_PRES_CTL, 8, 1⟩
abbrev OWN_OWN_ELECT_PRI : Fld := ⟨R.OWN_OWN_ELECT, 0, 2⟩
abbrev OWN_OWN_ELECT_CAND : Fld := ⟨R.OWN_OWN_ELECT, 2, 3⟩
abbrev OWN_OWN_ELECT_TIMED : Fld := ⟨R.OWN_OWN_ELECT, 5, 1⟩
abbrev OWN_CNT_DENIED_COUNT : Fld := ⟨R.OWN_CNT_DENIED, 0, 32⟩
abbrev OWN_CNT_HANDOVER_COUNT : Fld := ⟨R.OWN_CNT_HANDOVER, 0, 32⟩
abbrev OWN_LAST_DENIED_REQ : Fld := ⟨R.OWN_LAST_DENIED, 0, 4⟩
abbrev OWN_LAST_DENIED_PAGE : Fld := ⟨R.OWN_LAST_DENIED, 4, 8⟩
abbrev OWN_LAST_DENIED_OFFSET : Fld := ⟨R.OWN_LAST_DENIED, 12, 12⟩
abbrev OWN_LAST_DENIED_CAUSE : Fld := ⟨R.OWN_LAST_DENIED, 24, 3⟩
abbrev SYS_SYS_ID_DEVICE : Fld := ⟨R.SYS_SYS_ID, 0, 16⟩
abbrev SYS_SYS_ID_STEP : Fld := ⟨R.SYS_SYS_ID, 16, 8⟩
abbrev SYS_BIST_CTL_GO : Fld := ⟨R.SYS_BIST_CTL, 0, 1⟩
abbrev SYS_BIST_CTL_KIND : Fld := ⟨R.SYS_BIST_CTL, 1, 3⟩
abbrev SYS_BIST_CTL_INDEX : Fld := ⟨R.SYS_BIST_CTL, 16, 9⟩
abbrev SYS_BIST_STAT_STATE : Fld := ⟨R.SYS_BIST_STAT, 0, 3⟩
abbrev SYS_BIST_ERR_COUNT : Fld := ⟨R.SYS_BIST_ERR, 0, 32⟩
abbrev SYS_BIST_ADDR_ADDR : Fld := ⟨R.SYS_BIST_ADDR, 0, 32⟩

end F

/-! ### Event sources: bits of EVT_RAW, as the last paragraph of each page lists them -/

namespace E

abbrev CMT_APPLIED : Nat := 0
abbrev CMT_ABORTED : Nat := 1
abbrev CMT_REFUSED : Nat := 2
abbrev CMT_STAGE_CONFLICT : Nat := 3
abbrev OWN_THIMBLE_MOVED : Nat := 0
abbrev OWN_WRITE_DENIED : Nat := 1
abbrev OWN_PRESENCE_ON : Nat := 2
abbrev OWN_PRESENCE_OFF : Nat := 3
abbrev OWN_PRESENCE_STUCK : Nat := 4
abbrev OWN_SEAL_BROKEN : Nat := 5
abbrev OWN_FORCE_OPEN : Nat := 6
abbrev OWN_LEASE_EXPIRED : Nat := 7
abbrev OWN_HANDOVER_TIMEOUT : Nat := 8
abbrev LRX_LOS : Nat := 0
abbrev LRX_LOL : Nat := 1
abbrev LRX_DETECT : Nat := 2
abbrev LRX_REENTRY_MISS : Nat := 3
abbrev LRX_FROZEN : Nat := 4
abbrev LRX_DEFAULTS_USED : Nat := 5
abbrev LRX_RATE_OOR : Nat := 6
abbrev LRX_LQ_LOW : Nat := 7
abbrev LRX_CLIP : Nat := 8
abbrev LRX_GRID_SLIP : Nat := 9
abbrev LRX_GRID_MISMATCH : Nat := 10
abbrev LRX_CAL_DONE : Nat := 11
abbrev LRX_CAL_REFUSED : Nat := 12
abbrev DSF_LOF : Nat := 0
abbrev DSF_REALIGNED : Nat := 4
abbrev DSF_MAP_LOST : Nat := 5
abbrev DSF_UNCORR : Nat := 6
abbrev DSF_PSL_MISMATCH : Nat := 7
abbrev DSF_AIS : Nat := 8
abbrev DSF_FC_JUMP : Nat := 9
abbrev DSF_FC_BACK : Nat := 10
abbrev DSF_CHAN_MISMATCH : Nat := 11
abbrev DSF_MF_MISMATCH : Nat := 12
abbrev DSF_HEAD_CHANGE : Nat := 13
abbrev DSF_BER_HIGH : Nat := 14
abbrev DSF_COAST_LIMIT : Nat := 15
abbrev TRB_TRIB_ALARM : Nat := 0
abbrev TRB_LANE_SYNC_LOSS : Nat := 1
abbrev TRB_MAP_CONFLICT : Nat := 2
abbrev TRB_CHDR_ERR : Nat := 3
abbrev TRB_TEST_ERR : Nat := 4
abbrev TRB_UP_DROP : Nat := 5
abbrev ACT_STATE_CHANGE : Nat := 0
abbrev ACT_ID_ASSIGNED : Nat := 1
abbrev ACT_RANGED : Nat := 2
abbrev ACT_HOLD_ENTER : Nat := 3
abbrev ACT_HOLD_EXPIRED : Nat := 4
abbrev ACT_SILENCED : Nat := 5
abbrev ACT_EMERGENCY_STOP : Nat := 6
abbrev ACT_RELEASED : Nat := 7
abbrev ACT_GUARD_TRIP : Nat := 8
abbrev ACT_MSG_ERR : Nat := 9
abbrev ACT_UMSG_DROP : Nat := 10
abbrev ACT_DEACTIVATED : Nat := 11
abbrev ACT_ANN_TIMEOUT : Nat := 12
abbrev ACT_RANGE_TIMEOUT : Nat := 13
abbrev UPB_GRANT_REFUSED : Nat := 0
abbrev UPB_GRANT_DISCARD : Nat := 1
abbrev UPB_BURST_SKIP : Nat := 2
abbrev UPB_LATE_DATA : Nat := 3
abbrev UPB_RESTART : Nat := 4
abbrev LCK_KEY_SPENT : Nat := 0
abbrev LCK_KEY_WARN : Nat := 1
abbrev LCK_ROLL_DONE : Nat := 2
abbrev LCK_ROLL_FAIL : Nat := 3
abbrev LCK_ROLL_LATE : Nat := 4
abbrev LCK_ROLL_IGNORED : Nat := 5
abbrev LCK_AUTH_FAIL : Nat := 6
abbrev LCK_REPLAY : Nat := 7
abbrev KEY_UNWRAP_DONE : Nat := 0
abbrev KEY_UNWRAP_FAIL : Nat := 1
abbrev KEY_LOCKOUT : Nat := 2
abbrev KEY_ENTROPY_FAIL : Nat := 3
abbrev KEY_WRAP_INSTALLED : Nat := 4
abbrev KEY_INSTALL_FAIL : Nat := 5
abbrev PRS_FAULT : Nat := 0
abbrev PRS_PROG_UE : Nat := 1
abbrev PRS_MALFORMED : Nat := 2
abbrev PRS_FB_BUSY : Nat := 3
abbrev CLS_EPOCH_RETIRED : Nat := 0
abbrev CLS_WALK_FAULT : Nat := 1
abbrev CLS_TREE_UE : Nat := 2
abbrev CLS_RC_LIMIT : Nat := 3
abbrev CLS_RC_DROP : Nat := 4
abbrev CLS_LEARN_FAIL : Nat := 5
abbrev CLS_FLOW_UE : Nat := 6
abbrev CLS_FLOW_EXT_LOST : Nat := 7
abbrev CLS_ROOT_BUSY : Nat := 8
abbrev BPM_NOBUF : Nat := 0
abbrev BPM_REFUSE : Nat := 1
abbrev BPM_EXT_LOST : Nat := 2
abbrev BPM_REGION_DRAINED : Nat := 3
abbrev BPM_TOO_LONG : Nat := 4
abbrev MEM_TRAIN_FAIL : Nat := 0
abbrev MEM_WITHDRAWN : Nat := 1
abbrev MEM_FILL_DONE : Nat := 2
abbrev MEM_UE : Nat := 3
abbrev MEM_ABOVE_EAVE : Nat := 4
abbrev ECC_ON_UE : Nat := 0
abbrev ECC_CE_REPEAT : Nat := 1
abbrev ECC_NARROW : Nat := 2
abbrev ECC_RETIRED : Nat := 3
abbrev ECC_LIST_FULL : Nat := 4
abbrev ECC_SCRUB_PASS : Nat := 5
abbrev MXE_NEXT_LOADED : Nat := 0
abbrev MXE_REKEY_DONE : Nat := 1
abbrev MXE_REKEY_REFUSED : Nat := 2
abbrev SCH_MAXLEN : Nat := 0
abbrev SCH_QFULL : Nat := 1
abbrev GAT_GATE_OVERSIZE : Nat := 0
abbrev GAT_LIST_SWITCHED : Nat := 1
abbrev BPQ_LINK_CHG : Nat := 0
abbrev BPQ_TRAIN_FAIL : Nat := 4
abbrev BPQ_UNDERRUN : Nat := 5
abbrev BPQ_OVERSIZE : Nat := 6
abbrev BPQ_FEC_UNCORR : Nat := 7
abbrev BPQ_CT_ABORT : Nat := 8
abbrev BPQ_RECAL_DONE : Nat := 9
abbrev BPQ_RECAL_REFUSED : Nat := 10
abbrev BPQ_WAKE_DONE : Nat := 11
abbrev BPQ_FC_IGN : Nat := 12
abbrev BPQ_REF_LOSS : Nat := 13
abbrev LMC_LINK_CHG : Nat := 0
abbrev LMC_EXC_COLL : Nat := 8
abbrev LMC_LATE_COLL : Nat := 9
abbrev LMC_UNDERRUN : Nat := 10
abbrev LMC_STEP : Nat := 11
abbrev LMC_MDIO_DONE : Nat := 12
abbrev LMC_OVERSIZE : Nat := 13
abbrev LMC_FC_IGN : Nat := 14
abbrev TIM_LOCKED : Nat := 0
abbrev TIM_HOLDOVER : Nat := 1
abbrev TIM_JUMP_REFUSED : Nat := 2
abbrev TIM_STEPPED : Nat := 3
abbrev TIM_QUAL_CHANGE : Nat := 4
abbrev TIM_RTC_FAIL : Nat := 5
abbrev TIM_B_STATE : Nat := 6
abbrev TIM_SWITCHED : Nat := 7
abbrev TIM_SWITCH_REFUSED : Nat := 8
abbrev TCL_FU_MISS : Nat := 0
abbrev TCL_TXTS_READY : Nat := 1
abbrev TCL_TXTS_OVF : Nat := 2
abbrev TCL_TC_SKIP : Nat := 3
abbrev TCL_PPS : Nat := 4
abbrev CPU_EXC_DROP : Nat := 0
abbrev CPU_INJ_ERR : Nat := 1
abbrev EVT_REC_LOST : Nat := 0
abbrev EVT_LOG_LOST : Nat := 1
abbrev EVT_LOG_FLASH_ERR : Nat := 2
abbrev EVT_PF_ASSERT : Nat := 3
abbrev EVT_PF_CLEAR : Nat := 4
abbrev PWR_LEVEL_DONE : Nat := 0
abbrev PWR_LEVEL_FAIL : Nat := 1
abbrev PWR_SLEEP_REFUSED : Nat := 2
abbrev PWR_WAKE_DONE : Nat := 3
abbrev PWR_WAKE_FAIL : Nat := 4
abbrev PWR_LIMP : Nat := 5
abbrev PWR_OSC_BACK : Nat := 6
abbrev PWR_DOMAIN_FAIL : Nat := 7
abbrev PWR_DOZE_EXIT : Nat := 8
abbrev RST_BOOT_DONE : Nat := 0
abbrev RST_BOOT_FAIL : Nat := 1
abbrev RST_WDT : Nat := 2
abbrev SYS_BIST_DONE : Nat := 0
abbrev SYS_BIST_BUSY : Nat := 1
abbrev HIF_PCIE_BUSERR : Nat := 0
abbrev HIF_SB_BUSERR : Nat := 1
abbrev HIF_HALF_MISMATCH : Nat := 2
abbrev HIF_SB_WOVF : Nat := 3
abbrev HIF_OI2C_DONE : Nat := 4
abbrev HIF_FLASH_DONE : Nat := 5
abbrev HIF_FLASH_ERR : Nat := 6
abbrev HIF_JTAG_OPEN : Nat := 7
abbrev HIF_PCIE_LINK : Nat := 8
abbrev SM_SEAM_DOWN : Nat := 0
abbrev SM_SEAM_LOST : Nat := 1
abbrev SM_SEAM_UP : Nat := 2
abbrev LANE_LINK_CHG : Nat := 0
abbrev LANE_TRAIN_FAIL : Nat := 1
abbrev LANE_UNDERRUN : Nat := 2
abbrev LANE_OVERSIZE : Nat := 3
abbrev LANE_FEC_UNCORR : Nat := 4
abbrev LANE_CT_ABORT : Nat := 5
abbrev LANE_RECAL_DONE : Nat := 6
abbrev LANE_RECAL_REFUSED : Nat := 7
abbrev LANE_WAKE_DONE : Nat := 8
abbrev LANE_FC_IGN : Nat := 9
abbrev LANE_REF_LOSS : Nat := 10

end E

end Sys2Proof.Machine
end

