-- ==== Sys2Proof/Machine/Ops.lean ====
section
/-! DEFINITION. The named operations over the state: registers and fields, memory, domains, events and their delivery,
the error log, bus errors and the checks of a register access. -/

namespace Sys2Proof.Machine

open Sys2Proof

/-- The outcome of a command. -/
abbrev Res := Host.Outcome State Fault Refusal

/-! ### Pages (R26, R683) -/

/-- The page of a storage key. -/
def pageOf (k : Nat) : Nat := k / 0x1000 % 0x100

/-- The offset of a storage key in its page. -/
def ofsOf (k : Nat) : Nat := k % 0x1000

/-- Pages 0x00-0x3F belong to the line die (R26). -/
def linePage (p : Nat) : Bool := decide (p < 0x40)

/-- The used pages (R683). -/
def usedPage (p : Nat) : Bool :=
  decide (p ≤ 0x0D) || (decide (0x40 ≤ p) && decide (p ≤ 0x5C)) || (decide (0xA0 ≤ p) && decide (p ≤ 0xA8)) ||
    (decide (0xC0 ≤ p) && decide (p ≤ 0xEF)) || (decide (0xF8 ≤ p) && decide (p ≤ 0xFB))

/-- EVT_NUM of each page: the length of the list of event sources that its chapter gives. -/
def evNum (p : Nat) : Nat :=
  if p ≤ 3 then 13 else if p = P.LTX then 0 else if p = P.DSF then 16 else if p = P.TRB then 6 else if p = P.ACT then 14
  else if p = P.UPB then 5 else if p = P.LCK then 8 else if p = P.KEY then 6 else if p = P.TIM then 9
  else if p = P.SML then 3 else if p = P.SMLL then 16 else if p < 0x40 then 0
  else if p = P.PRS then 4 else if p = P.CLS then 9 else if p = P.BPM then 5 else if p ≤ 0x46 then 5
  else if p = P.ECC then 6 else if p = P.MXE then 3 else if p = P.SCH then 2 else if p = P.SHP then 0
  else if p = P.POL then 0 else if p = P.GAT then 2 else if p ≤ 0x58 then 14 else if p = P.LMC then 15
  else if p = P.TCL then 5 else if p = P.SMF then 3 else if p = P.SMFL then 16 else if p < 0xA0 then 0
  else if p = P.CPU then 2 else if p = P.TSK then 0 else if p = P.CMT then 4 else if p = P.EVT then 5
  else if p = P.PWR then 9 else if p = P.RST then 3 else if p = P.HIF then 9 else if p = P.OWN then 9
  else if p = P.SYS then 2 else if p < 0xC0 then 0 else if p ≤ 0xEF then 11 else 0

/-- The event group of a page that has event sources (R566, R683). -/
def groupOf (p : Nat) : Nat :=
  if p ≤ 3 then p else if p ≤ 0x0D then p - 1 else if p ≤ 0x49 then p - 0x40 + 13 else if p ≤ 0x5C then p - 0x4C + 23
  else if p = 0xA0 then 40 else if p ≤ 0xA7 then p - 0xA2 + 41 else if p = 0xA8 then 47 else p - 0xC0 + 48

/-- The page of an event group. -/
def groupPage (g : Nat) : Nat :=
  if g ≤ 3 then g else if g ≤ 12 then g + 1 else if g ≤ 22 then g - 13 + 0x40 else if g ≤ 39 then g - 23 + 0x4C
  else if g = 40 then 0xA0 else if g ≤ 46 then g - 41 + 0xA2 else if g = 47 then 0xA8 else g - 48 + 0xC0

/-- The power domain of a register (R683, R684). -/
def domainOf (k : Nat) : Nat :=
  let p := pageOf k
  let o := ofsOf k
  if p ≤ 3 then p + 1 else if p ≤ 9 then 9 else if p = P.KEY then 10 else if p < 0x40 then 11
  else if p = P.PRS then 13 else if p = P.CLS then 18 else if p = P.BPM then 17 else if p ≤ 0x46 then p - 0x43 + 19
  else if p = P.ECC then 29 else if p = P.POL then 13 else if p ≤ 0x4C then 23
  else if p ≤ 0x58 then 24 + (p - 0x4D) / 4 else if p = P.LMC then 27 else if p = P.TCL then 32
  else if p ≤ 0x5C then 12 else if p = P.CPU then 28 else if p = P.PWR then 0 else if p = P.OWN then 0
  else if p = P.RST then (if o = 0x040 then 0 else 29)
  else if p = P.HIF then
    (if o = 0x040 ∨ o = 0x044 ∨ o = 0x080 ∨ 0x800 ≤ o then 30
     else if o = 0x048 ∨ o = 0x04C ∨ (0x084 ≤ o ∧ o ≤ 0x08C) then 31 else 33)
  else if 0xC0 ≤ p ∧ p ≤ 0xEF then 24 + (p - 0xC0) / 16 else 29

/-- The layout of a page below its header. -/
def bodyOf (p : Nat) : List FieldRow :=
  if p ≤ 3 then layoutLRX else if p = P.LTX then layoutLTX else if p = P.DSF then layoutDSF else if p = P.TRB then layoutTRB
  else if p = P.ACT then layoutACT else if p = P.UPB then layoutUPB else if p = P.LCK then layoutLCK
  else if p = P.KEY then layoutKEY else if p = P.TIM then layoutTIM else if p = P.SML then layoutSM
  else if p < 0x40 then [] else if p = P.PRS then layoutPRS else if p = P.CLS then layoutCLS else if p = P.BPM then layoutBPM
  else if p ≤ 0x46 then layoutMEM else if p = P.ECC then layoutECC else if p = P.MXE then layoutMXE
  else if p = P.SCH then layoutSCH else if p = P.SHP then layoutSHP else if p = P.POL then layoutPOL
  else if p = P.GAT then layoutGAT else if p ≤ 0x58 then layoutBPQ else if p = P.LMC then layoutLMC
  else if p = P.TCL then layoutTCL else if p = P.SMF then layoutSM else if p < 0xA0 then []
  else if p = P.CPU then layoutCPU else if p = P.TSK then layoutTSK else if p = P.CMT then layoutCMT
  else if p = P.EVT then layoutEVT else if p = P.PWR then layoutPWR else if p = P.RST then layoutRST
  else if p = P.HIF then layoutHIF else if p = P.OWN then layoutOWN else if p = P.SYS then layoutSYS else []

/-- The layout of a page: the common header of R38 in every used page, then the page's own registers. SEAM_CTL exists in
SMF only and HELD in SML only (R687). -/
def layoutOf (p : Nat) : List FieldRow :=
  if usedPage p then
    layoutHDR ++ (bodyOf p).filter (fun r => !(decide (p = P.SML) && decide (r.ofs = 0x040)) &&
      !(decide (p = P.SMF) && decide (r.ofs = 0x048)))
  else []

/-- The row describes the register at offset `o`. -/
def FieldRow.covers (r : FieldRow) (o : Nat) : Bool :=
  decide (r.ofs ≤ o) && decide ((o - r.ofs) % r.st = 0) && decide ((o - r.ofs) / r.st < r.n)

/-- The fields of the register at a storage key. -/
def fieldsAt (k : Nat) : List FieldRow := (layoutOf (pageOf k)).filter (·.covers (ofsOf k))

/-- Buffers of on-chip pool k after reset (R384). -/
def onpReset (k : Nat) : Nat := [16384, 8192, 4096, 4096, 1024, 1365, 512, 64].getD k 0

/-- The reset value of a register that is stored. -/
def resetWord (k : Nat) : Word :=
  if pageOf k = P.BPM ∧ 0x100 ≤ ofsOf k ∧ ofsOf k < 0x120 then BitVec.ofNat 32 (onpReset ((ofsOf k - 0x100) / 4))
  else (fieldsAt k).foldl (fun w r => w ||| BitVec.ofNat 32 (r.rst <<< r.lo)) 0

/-! ### Registers and fields -/

/-- The stored word of a register. -/
def State.rd (s : State) (k : Nat) : Word := mapGet (resetWord k) s.regs k

/-- Stores a word. -/
def State.wr (s : State) (k : Nat) (w : Word) : State := { s with regs := mapPut (resetWord k) s.regs k w }

/-- The value of a field of a word. -/
def getField (w : Word) (lo n : Nat) : Nat := w.toNat / 2 ^ lo % 2 ^ n

/-- A word with a field replaced. -/
def setField (w : Word) (lo n v : Nat) : Word :=
  BitVec.ofNat 32 (w.toNat % 2 ^ lo + v % 2 ^ n * 2 ^ lo + w.toNat / 2 ^ (lo + n) * 2 ^ (lo + n))

/-- The value of a stored field. -/
def State.fld (s : State) (f : Fld) : Nat := getField (s.rd f.key) f.lo f.w

/-- A stored one-bit field. -/
def State.bit (s : State) (f : Fld) : Bool := decide (s.fld f = 1)

/-- Stores a field, leaving the rest of its register. -/
def State.setFld (s : State) (f : Fld) (v : Nat) : State := s.wr f.key (setField (s.rd f.key) f.lo f.w v)

/-- Adds 1 to a 32-bit counter, which wraps from 0xFFFF_FFFF to 0. -/
def State.bump (s : State) (k : Nat) : State := s.wr k (s.rd k + 1)

/-- Adds `n` to a 32-bit counter. -/
def State.bumpBy (s : State) (k n : Nat) : State := s.wr k (s.rd k + BitVec.ofNat 32 n)

/-- Adds `n` to a counter of two registers, _LO and _HI. -/
def State.bump64 (s : State) (lo hi n : Nat) : State :=
  let t := (s.rd lo).toNat + (s.rd hi).toNat * 2 ^ 32 + n
  (s.wr lo (BitVec.ofNat 32 t)).wr hi (BitVec.ofNat 32 (t / 2 ^ 32))

/-- Puts out something that leaves the device. -/
def State.emit (s : State) (o : Out) : State := { s with out := o :: s.out }

/-- The answer that the requester of a register access gets. -/
def State.reply (s : State) (x : Resp) : State := { s with resp := x }

/-- A fresh free value (log entry 13), and the state that has used it. -/
def State.freeVal (s : State) : Word × State := (Config.freeWord s.fresh, { s with fresh := s.fresh + 1 })

/-- Bit `b` of a number. -/
def natBit (n b : Nat) : Bool := n.testBit b

/-- A Bool as a bit. -/
def b2n (b : Bool) : Nat := if b then 1 else 0

/-! ### Memory: core RAM, the packet buffer, tree memory at their addresses of R544; external memory (R387) from
`extBase` on. A cell that is not listed holds zero: the fill of R420 and R421 leaves zeros. -/

/-- Where node `n` stands: node n at 16 n of the core memory map's tree range (R544). -/
def nodeAddr (n : Nat) : Nat := 0x50000000 + 16 * n

/-- Where the on-chip flow table stands in the memory of the model. -/
def flowBase : Nat := 0x80000000

/-- Where external memory stands in the address space of the model. -/
def extBase : Nat := 0x100000000

/-- Canonical form of memory. -/
def Memory.wf (m : List Host.Cell) : Bool := mapWf (fun _ => (0 : Byte)) m

/-- Reads a byte. -/
def State.readByte (s : State) (a : Nat) : Byte := mapGet 0 s.mem a

/-- Writes a byte. -/
def State.writeByte (s : State) (a : Nat) (b : Byte) : State := { s with mem := mapPut 0 s.mem a b }

/-- Writes bytes from `a` upward. -/
def State.writeBytes (s : State) (a : Nat) : List Byte → State
  | [] => s
  | b :: bs => (s.writeByte a b).writeBytes (a + 1) bs

/-- Reads `n` bytes from `a` upward. -/
def State.readBytes (s : State) (a n : Nat) : List Byte := (List.range n).map (fun i => s.readByte (a + i))

/-- Writes zeros over a range: its cells leave the list. -/
def State.zeroRange (s : State) (a n : Nat) : State :=
  { s with mem := mapFilter (fun k => decide (k < a) || decide (a + n ≤ k)) s.mem }

/-! ### Timers: which run, and since when (log entry 9) -/

namespace T
abbrev seamLost : Nat := 0
abbrev retrain : Nat := 1
abbrev election : Nat := 3
abbrev handover : Nat := 4
abbrev lease : Nat := 5
abbrev presence : Nat := 6
abbrev force : Nat := 7
abbrev wakeL0 : Nat := 8
abbrev announce : Nat := 9
abbrev ranging : Nat := 10
abbrev loss : Nat := 11
abbrev hold : Nat := 12
abbrev lockout : Nat := 13
abbrev servoHold : Nat := 14
abbrev bHold : Nat := 15
abbrev watchdog : Nat := 16
abbrev sleepWait : Nat := 17
abbrev osc : Nat := 18
abbrev powerFail : Nat := 20
abbrev lossHeld : Nat := 21
abbrev coast (c : Nat) : Nat := 24 + c
abbrev arm (c : Nat) : Nat := 28 + c
abbrev memStep (m : Nat) : Nat := 32 + m
abbrev prep (i : Nat) : Nat := 36 + i
abbrev backoff (p : Nat) : Nat := 40 + p
abbrev desync (x : Nat) : Nat := 0x1000 + x
abbrev loc (x : Nat) : Nat := 0x2000 + x
abbrev train (l : Nat) : Nat := 0x3000 + l
abbrev pause (e pri : Nat) : Nat := 0x4000 + 16 * e + pri
end T

/-- Timer `t` runs. -/
def State.running (s : State) (t : Nat) : Bool := (mapKeys s.timers).contains t

/-- Starts or restarts timer `t`. -/
def State.startTimer (s : State) (t : Nat) : State := { s with timers := mapIns s.timers t s.clock.mono }

/-- Stops timer `t`. -/
def State.stopTimer (s : State) (t : Nat) : State := { s with timers := mapDel s.timers t }

/-! ### Domains, time, requesters -/

/-- The power domain of a register is on. -/
def State.powered (s : State) (k : Nat) : Bool := s.pwr.on.getLsbD (domainOf k)

/-- Domain `d` is on. -/
def State.domOn (s : State) (d : Nat) : Bool := s.pwr.on.getLsbD d

/-- External memory is in self-refresh: Doze and its exit, Nap (R602, log entry 46). -/
def State.extOff (s : State) : Bool := decide (s.pwr.st = .doze) || decide (s.pwr.st = .nap)

/-- The entry into Deep waits for the frames in transmission (R605). -/
def State.quieting (s : State) : Bool := decide (s.pwr.step = .entering) && decide (s.pwr.entries.head? = some .deep)

/-- The device time of a die, in 2^-16 ns (R509). -/
def State.deviceTime (s : State) (line : Bool) : Nat := if line then s.clock.line else s.clock.fab

/-- Units of device time in a second. -/
def secUnits : Nat := 1000000000 * 65536

/-- The seconds of a device time. -/
def secOf (t : Nat) : Nat := t / secUnits

/-- The nanoseconds of a device time. -/
def nsOf (t : Nat) : Nat := t % secUnits / 65536

/-- The number of a requester under CMT.CUR_TAG (R43). -/
def reqNum : Req → Nat
  | .pcie => 0
  | .shelf => 1
  | .core n => 2 + n.val

/-- The agent of a requester, as OWN_STAT.HOLDER numbers agents. -/
def agentOf : Req → BitVec 2
  | .pcie => 0
  | .shelf => 1
  | .core _ => 2

/-- A host, as against a control core. -/
def isHost : Req → Bool
  | .core _ => false
  | _ => true

/-- The requester can reach the register space: RESET_N is high, the supply is present, and its interface works (R610,
R613, R618, R626, R640, the shelf bus of R641). -/
def State.reaches (s : State) (r : Req) : Bool :=
  !s.rst.inReset && !s.rst.unpowered &&
    (match r with
     | .pcie => s.hif.l0 && s.domOn 30
     | .shelf => s.rst.straps.getLsbD 2 && s.domOn 31
     | .core n => s.domOn 28 && (s.rd R.RST_CORE_RUN).getLsbD n.val)

/-! ### The post queue (R552, R553) -/

/-- A post enters the post queue, or stalls outside it while 256 posts stand in it; cancels that wait between them take no entry. -/
def State.enqueuePost (s : State) (p : Post) : State :=
  if (s.tsk.queue.filter (fun x => !x.cancel)).length < 256 ∧ s.tsk.stalled = [] then { s with tsk := { s.tsk with queue := s.tsk.queue ++ [p] } }
  else { s with tsk := { s.tsk with stalled := s.tsk.stalled ++ [p] } }

/-- A post of the event source has not yet been applied (R578). -/
def State.postOutstanding (s : State) (src : Nat) : Bool :=
  (s.tsk.queue ++ s.tsk.stalled).any (fun p => p.src == some src)

/-! ### MSI-X (R576, R639) -/

/-- The ARM register of a vector. -/
def armKey (v : Nat) : Nat := if v < 32 then R.EVT_MSIX_ARM_LO else R.EVT_MSIX_ARM_HI

/-- Vector `v` is armed. -/
def State.armed (s : State) (v : Nat) : Bool := (s.rd (armKey v)).getLsbD (v % 32)

/-- Disarms vector `v`. -/
def State.disarm (s : State) (v : Nat) : State := s.setFld ⟨armKey v, v % 32, 1⟩ 0

/-- A message of vector `v` is due: it is sent, or it is held in the PBA (R639). -/
def State.msixDue (s : State) (v : Nat) : State :=
  if s.hif.msixEn ∧ ¬ s.hif.funcMask ∧ s.hif.l0 ∧ s.fld (F.HIF_MSIX_CTL_MASK v) = 0 then
    s.emit (.msix v ((s.rd (R.HIF_MSIX_ADDR_LO v)).toNat / 4 * 4 + (s.rd (R.HIF_MSIX_ADDR_HI v)).toNat * 2 ^ 32)
      (s.rd (R.HIF_MSIX_DATA v)))
  else if s.hif.pba.contains v then s
  else { s with hif := { s.hif with pba := s.hif.pba ++ [v] } }

/-- The endpoint sends the messages of the PBA that may be sent, in the order in which they became due (R639). -/
def State.drainPba (s : State) : State :=
  s.hif.pba.foldl (fun t v => ({ t with hif := { t.hif with pba := t.hif.pba.filter (· ≠ v) } }).msixDue v) s

/-! ### Events (R566-R578) -/

/-- Source number of bit `b` of page `p` (R566). -/
def srcNum (p b : Nat) : Nat := 16 * groupOf p + b

/-- A source is pending while its EVT_PEND bit is 1. -/
def State.pendBits (s : State) (p : Nat) : Word := s.rd (R.HDR_EVT_RAW p) &&& ~~~ s.rd (R.HDR_EVT_MASK p)

/-- The vector that group `g` is routed to (R575). -/
def State.vectorOf (s : State) (g : Nat) : Option Nat :=
  if s.bit (F.EVT_GRP_ROUTE_MSIX_EN g) then some (s.fld (F.EVT_GRP_ROUTE_VECTOR g)) else none

/-- The group delivers: the event tree has power, and EVT_CTL.EN and EVT_OUT of its page are 1 (R567, R575). -/
def State.delivers (s : State) (p : Nat) : Bool :=
  s.domOn 29 && s.bit F.EVT_EVT_CTL_EN && s.bit (F.HDR_PAGE_CTL_EVT_OUT p)

/-- A pending rise in a group routed to an armed vector sends one message and disarms the vector (R576). -/
def State.deliverMsix (s : State) (g : Nat) : State :=
  match s.vectorOf g with
  | some v => if s.armed v then (s.disarm v).msixDue v else s
  | none => s

/-- A pending rise of a source with SRC_ROUTE.EN makes one post, unless an earlier one is outstanding (R578). -/
def State.deliverPost (s : State) (src : Nat) : State :=
  if s.bit (F.EVT_SRC_ROUTE_EN src) ∧ ¬ s.postOutstanding src then
    s.enqueuePost ⟨BitVec.ofNat 12 (s.fld (F.EVT_SRC_ROUTE_ITEM src)), BitVec.ofNat 5 (s.fld (F.EVT_SRC_ROUTE_FLAG src)),
      some src, none, false⟩
  else s

/-- A pending rise of bit `b` of page `p` is delivered. A line-die event reaches the tree only while the Seam is up
(R572). -/
def State.pendingRise (s : State) (p b : Nat) : State :=
  if s.delivers p ∧ (linePage p → s.seam.phase = .up) then (s.deliverMsix (groupOf p)).deliverPost (srcNum p b) else s

/-- Every pending source of page `p` counts as a pending rise (R567, R572, R575). -/
def State.risePending (s : State) (p : Nat) : State :=
  (List.range 16).foldl (fun t b => if (s.pendBits p).getLsbD b then t.pendingRise p b else t) s

/-- A record of a rise reaches the ring, or is held or discarded (R570, R572). -/
def State.record (s : State) (rec : EvRec) : State :=
  if ¬ s.bit F.EVT_EVT_CTL_REC_EN ∨ ¬ s.domOn 29 then s
  else if rec.line ∧ s.seam.phase ≠ .up then
    if s.seam.held.length < 64 then { s with seam := { s.seam with held := s.seam.held ++ [rec] } }
    else { s with seam := { s.seam with heldLost := s.seam.heldLost + 1 } }
  else if s.evt.ring.length < 512 then { s with evt := { s.evt with ring := s.evt.ring ++ [rec] } }
  else s.bump R.EVT_CNT_REC_LOST

/-- The ring or the store of held records discards a record that it is offered now. -/
def State.ringFull (s : State) (line : Bool) : Bool :=
  s.domOn 29 && s.bit F.EVT_EVT_CTL_REC_EN && !(line && decide (s.seam.phase ≠ .up)) && decide (512 ≤ s.evt.ring.length)

/-- Source `b` of page `p` fires with stamp `t`: its raw bit is set; a rise, or a firing that wins over a W1C, takes the
stamp, makes a record and, with the mask bit clear, counts as a pending rise (R568-R570). -/
def State.fireAt (s : State) (p b : Nat) (wins : Bool) (t : Nat) : State :=
  let raw := s.rd (R.HDR_EVT_RAW p)
  let rise := wins || !raw.getLsbD b
  let s1 := s.setFld ⟨R.HDR_EVT_RAW p, b, 1⟩ 1
  if rise then
    let s2 := { s1 with evt := { s1.evt with stamps := mapPut 0 s1.evt.stamps (srcNum p b) t } }
    let s3 := s2.record ⟨srcNum p b, linePage p, t⟩
    if (s3.rd (R.HDR_EVT_MASK p)).getLsbD b then s3 else s3.pendingRise p b
  else s1

/-- Source `b` of page `p` fires, stamped with the device time of its die (R569). A record that finds the ring full also
raises REC_LOST (R570). A source of a page whose domain is off does not fire. -/
def State.fireWith (s : State) (p b : Nat) (wins : Bool) (t : Nat) : State :=
  if ¬ s.powered (R.HDR_EVT_RAW p) then s
  else
    let lost := s.ringFull (linePage p) && (wins || !(s.rd (R.HDR_EVT_RAW p)).getLsbD b)
    let s1 := s.fireAt p b wins t
    if lost then s1.fireAt P.EVT E.EVT_REC_LOST false (s1.deviceTime false) else s1

/-- Source `b` of page `p` fires. -/
def State.fire (s : State) (p b : Nat) : State := s.fireWith p b false (s.deviceTime (linePage p))

/-! ### The error log (R580, R691) -/

/-- The log writer may program: LOG_CFG.EN is 1 and the flash has an SFDP table (R583). -/
def State.logOn (s : State) : Bool := s.bit F.EVT_LOG_CFG_EN && !s.rst.noSfdp

/-- A page program of a host is in progress (R649). -/
def State.hostProgram (s : State) : Bool := match s.hif.flashOp with | some (2, _, _) => s.hif.flashRun | _ => false

/-- A host's flash command begins, unless a page program of the log writer is in progress; an erase not while a record waits for the
writer (R650; DEDUCED, log entry 153). -/
def State.flashStart (s : State) : State :=
  match s.hif.flashOp with
  | some (op, a, len) =>
    if s.hif.flashRun ∨ s.log.writing ≠ 0 ∨ (op = 3 ∧ s.logOn ∧ s.log.buf ≠ []) then s
    else { s with hif := { s.hif with flashRun := true } }.emit (.flash op a len)
  | none => s

/-- The 64 bytes of a record (R579). -/
def LogRec.bytes (x : LogRec) : List Byte :=
  let b := toBytesBE 4 x.seq ++ [BitVec.ofNat 8 x.cls, BitVec.ofNat 8 x.page, 0, 0] ++ toBytesBE 6 (secOf x.time) ++
    toBytesBE 4 (nsOf x.time) ++ List.replicate 6 0 ++ (x.body ++ List.replicate 36 0).take 36
  b ++ toBytesBE 4 (crc32 b)

/-- Record slots in the ring: 64 in each of its sectors. -/
def State.logSlots (s : State) : Nat := s.fld F.EVT_LOG_CFG_SECT * 64

/-- The flash address of slot `n` of the ring, behind the four sectors of the retirement list. -/
def State.logAddr (s : State) (n : Nat) : Nat := (s.fld F.EVT_LOG_CFG_BASE + 4) * 4096 + n % s.logSlots * 64

/-- A page program of records begins behind `used` record slots. -/
def State.logEmit (s : State) (used : Nat) (xs : List LogRec) : State :=
  s.emit (.logProgram (s.logAddr (s.log.head + used)) (xs.map LogRec.bytes).flatten)

/-- The writer starts a page program of the oldest buffered records, as many as the flash page still takes, at most 4
(R580); it waits behind a host's page program (R650). -/
def State.logStart (s : State) : State :=
  if s.logOn ∧ s.log.writing = 0 ∧ s.log.buf ≠ [] ∧ ¬ s.hostProgram then
    let n := min (4 - s.log.flash.length % 4) s.log.buf.length
    ({ s with log := { s.log with writing := n } }).logEmit s.log.flash.length (s.log.buf.take n)
  else s

/-- Makes an error-log record: it takes its SEQ, LOG_PTR of its page takes the low 24 bits of it, and it enters the
buffer of `room` records or is discarded (R580, R691). -/
def State.makeRecordIn (s : State) (room cls page : Nat) (body : List Byte) : State :=
  let x : LogRec := ⟨s.log.seq, cls, page, s.deviceTime false, (body ++ List.replicate 32 0).take 32⟩
  let s1 := s.wr (R.HDR_LOG_PTR page) (BitVec.ofNat 32 (2 ^ 31 + s.log.seq % 2 ^ 24))
  if s.log.buf.length < room then
    ({ s1 with log := { s1.log with seq := s.log.seq + 1, buf := s.log.buf ++ [x] } }).logStart
  else
    (({ s1 with log := { s1.log with seq := s.log.seq + 1 } }).bump R.EVT_CNT_LOG_LOST).fire P.EVT E.EVT_LOG_LOST

/-- Makes an error-log record; the buffer holds 64. -/
def State.makeRecord (s : State) (cls page : Nat) (body : List Byte) : State := s.makeRecordIn 64 cls page body

/-! ### Bus errors (R640) and refused writes (R86) -/

/-- Core `n` takes an access fault: the cause and mtval (R543, R547). -/
def State.coreFault (s : State) (n : Fin 8) (cause addr : Nat) : State :=
  let pt := { s.tsk.ports[n] with lastCause := cause, lastMtval := addr }
  { s with resp := .accessFault, tsk := { s.tsk with ports := s.tsk.ports.set n pt } }

/-- A register access ends with a bus error: a host's is counted in HIF, recorded and raised; a core's is an access
fault (R547), cause 5 for a load and 7 for a store, with the address in mtval. -/
def State.busError (s : State) (r : Req) (k : Nat) (read : Bool) (cause : Nat) : State :=
  let err : Word := BitVec.ofNat 32 (pageOf k + ofsOf k * 2 ^ 8 + cause * 2 ^ 20 + b2n read * 2 ^ 23)
  match r with
  | .pcie =>
    let s1 := ((s.bump R.HIF_CNT_PCIE_BUSERR).wr R.HIF_PCIE_ERR err).fire P.HIF E.HIF_PCIE_BUSERR
    s1.reply (if read then .completerAbort else .busError (BitVec.ofNat 3 cause))
  | .shelf =>
    let s1 := ((s.bump R.HIF_CNT_SB_BUSERR).wr R.HIF_SB_ERR err).fire P.HIF E.HIF_SB_BUSERR
    s1.reply (.busError (BitVec.ofNat 3 cause))
  | .core n =>
    s.coreFault n (if read then 5 else 7) (0x40000000 + k % 0x100000)

/-- A write is refused by the register: bus error of cause 2. -/
def State.refuse (s : State) (r : Req) (k : Nat) : State := s.busError r k false 2

/-- A write refused under R79, R86, R101 or R102: it counts in CNT_DENIED, is recorded in LAST_DENIED with cause `dc`,
raises WRITE_DENIED and ends with a bus error of cause `bc`. -/
def State.deny (s : State) (r : Req) (k dc bc : Nat) : State :=
  let last : Word := BitVec.ofNat 32 (reqNum r + pageOf k * 2 ^ 4 + ofsOf k * 2 ^ 12 + dc * 2 ^ 24)
  (((s.bump R.OWN_CNT_DENIED).wr R.OWN_LAST_DENIED last).fire P.OWN E.OWN_WRITE_DENIED).busError r k false bc

/-! ### The checks of a write (R30, R36, R37, R79, R80, R690) -/

/-- The requester belongs to the holding agent (R77, R79). -/
def State.isOwner (s : State) (r : Req) : Bool := decide (s.own.st ≠ .vacant) && decide (s.own.holder = agentOf r)

/-- A control core that writes by delegation of a host holder (R80). -/
def State.isDelegate (s : State) (r : Req) : Bool :=
  !isHost r && !s.isOwner r && decide (s.own.st ≠ .vacant) && decide (s.own.holder.toNat < 2) &&
    s.bit F.OWN_OWN_CTL_DELEGATE_CORES

/-- The requester may write the register at `k`: as owner; as a delegated core outside page OWN; any requester
OWN_CLAIM, a delegated core too (DESIGN CHOICE, log entry 132); any core WDT_KICK. -/
def State.mayWrite (s : State) (r : Req) (k : Nat) : Bool :=
  s.isOwner r || (s.isDelegate r && decide (pageOf k ≠ P.OWN)) || decide (k % 0x100000 = R.OWN_OWN_CLAIM) ||
    (!isHost r && decide (k % 0x100000 = R.RST_WDT_KICK))

/-- Why a write access is refused before the register sees it, as a bus-error cause: width (R30), unused page (R690),
owner (R79), Seam down (R37), domain off (R36); in this order (log entry 11). -/
def State.writeCause (s : State) (r : Req) (k : Nat) (full : Bool) : Nat :=
  if ¬ full ∨ k % 4 ≠ 0 then 3
  else if ¬ usedPage (pageOf k) then 7
  else if ¬ s.mayWrite r k then 1
  else if linePage (pageOf k) ∧ (s.seam.phase = .down ∨ s.seam.phase = .training) then 5
  else if ¬ s.powered k then 4
  else 0

/-- A write access of requester `r` to the register at `k`: where the checks pass, `op` carries it out. -/
def State.access (s : State) (r : Req) (k : Nat) (full : Bool) (op : State → State) : State :=
  if ¬ s.reaches r then s.reply .ignored
  else
    match s.writeCause r k full with
    | 0 => op (s.reply .done)
    | 1 => s.deny r k 1 1
    | c => s.busError r k false c

/-- A guarded action (R100-R102): a delegated core's write is refused with cause 1, an owner's outside the presence
window with cause 4; where the window is open, `op` carries it out. -/
def State.guarded (s : State) (r : Req) (k : Nat) (op : State → State) : State :=
  if s.isDelegate r then s.deny r k 1 1
  else if ¬ s.own.presWin then s.deny r k 4 2
  else op s

/-- A read access of requester `r`: width and alignment (R30), the page map (R690), the Seam (R37); a domain that is off
still answers (R36). -/
def State.readCause (s : State) (k : Nat) (full : Bool) : Nat :=
  if ¬ full ∨ k % 4 ≠ 0 then 3
  else if ¬ usedPage (pageOf k) then 7
  else if linePage (pageOf k) ∧ (s.seam.phase = .down ∨ s.seam.phase = .training) then 5
  else 0

/-! ### What a write stores -/

/-- The value that a field takes for a written value: clamped to the field's range (R141, R191, R303 and the like). -/
def FieldRow.clamp (r : FieldRow) (v : Nat) : Nat :=
  let a := max r.mn v
  if r.mx = 0 then a else min r.mx a

/-- The word that a write of `v` leaves in a register with fields `rows` that held `old`: RW and RWS fields take the
clamped value, W1C and W1S bits are cleared and set, other fields keep their value. -/
def mergeWrite (rows : List FieldRow) (old v : Word) : Word :=
  rows.foldl (fun w r =>
    let x := getField v r.lo r.w
    match r.ty with
    | .rw | .rws => setField w r.lo r.w (r.clamp x)
    | .w1c => w &&& ~~~ BitVec.ofNat 32 (x * 2 ^ r.lo)
    | .w1s => w ||| BitVec.ofNat 32 (x * 2 ^ r.lo)
    | _ => w) old

/-- Carries out a write of `v` to the stored fields of the register at `k`. -/
def State.store (s : State) (k : Nat) (v : Word) : State := s.wr k (mergeWrite (fieldsAt k) (s.rd k) v)

/-- The register at `k` has RWS fields: a write to it is staged (R41-R43). -/
def isStaged (k : Nat) : Bool := (fieldsAt k).any (fun r => r.ty == .rws)

/-! ### Selected registers (R472) -/

/-- The storage key of the register at address `a` for requester `r`: a selector has one copy per requester, and a
register that a selector addresses one entry per value of the selector. -/
def State.resolve (s : State) (r : Req) (a : Nat) : Nat :=
  let q := reqNum r
  let p := pageOf a
  let o := ofsOf a
  if p = P.SCH then
    (if o = 0x044 then idxKey a q
     else if (0x04C ≤ o ∧ o ≤ 0x060) ∨ (0x068 ≤ o ∧ o ≤ 0x070) then idxKey a (s.fld (F.SCH_Q_SEL_QUEUE q)) else a)
  else if p = P.SHP then
    (if o = 0x044 then idxKey a q else if o = 0x04C ∨ o = 0x050 then idxKey a (s.fld (F.SHP_S_SEL_SHAPER q)) else a)
  else if p = P.POL then
    (if o = 0x044 then idxKey a q
     else if o = 0x04C ∨ o = 0x050 ∨ (0x058 ≤ o ∧ o ≤ 0x060) then idxKey a (s.fld (F.POL_P_SEL_POLICER q)) else a)
  else if p = P.GAT then (if o = 0x048 ∨ (0x050 ≤ o ∧ o ≤ 0x060) then idxKey a q else a)
  else if p = P.TRB then
    (if 0x070 ≤ o ∧ o ≤ 0x08C then idxKey a (s.fld F.TRB_ST_SEL_CTX)
     else if o = 0x0B8 then idxKey a (s.fld F.TRB_LANE_CRC_SEL_LANE) else a)
  else if p = P.TSK then
    (if o = 0x044 then idxKey a q
     else if 0x048 ≤ o ∧ o ≤ 0x050 then idxKey a (s.fld (F.TSK_ITEM_SEL_ITEM q)) else a)
  else if p = P.EVT then
    (if o = 0x070 then idxKey a q else if o = 0x074 then idxKey a (s.fld (F.EVT_SRC_SEL_SRC q)) else a)
  else a

/-- The registers that select what other registers show (R230, R472, R473). -/
def selectors : List Nat :=
  [R.TRB_TBL_ADDR, R.TRB_ST_SEL, R.TRB_LANE_CRC_SEL, R.UPB_GSM_ADDR, R.UPB_GT_SEL, R.UPB_GS_SEL, R.LCK_SLOT_SEL,
    R.PRS_PROG_ADDR, R.CLS_EPOCH_SEL, R.CLS_TREE_ADDR, R.CLS_RCNT_SEL, R.BPM_QMAP_ADDR, R.BPM_POOL_SEL, R.ECC_TRACK_SEL,
    P.SCH * 0x1000 + 0x044, P.SHP * 0x1000 + 0x044, P.POL * 0x1000 + 0x044, P.GAT * 0x1000 + 0x048, P.TSK * 0x1000 + 0x044,
    P.EVT * 0x1000 + 0x070]

/-- The registers whose write changes the shadow of a gate list (R469). -/
def gateShadows : List Nat := [R.GAT_G_ENTRY_HI, R.GAT_G_LIST, R.GAT_G_CYCLE, R.GAT_G_PHASE]

/-- Bytes of a line of external memory and of a code word of an on-chip memory (R411). -/
def placeSize : MemPlace → Nat
  | .ext _ _ => 64
  | .chip _ _ => 16

end Sys2Proof.Machine
end

