-- ==== Sys2Proof/Machine/Frame.lean ====
section
/-! DEFINITION. The downstream frame as bits (R145-R156, R172, R185): the sync word, the header and its CRC, the map entries, and the
descrambling of a group. -/

namespace Sys2Proof.Machine

open Sys2Proof

/-- What the RS decoder found in one codeword of a group (R181). -/
structure CwResult where
  uncorr : Bool
  syms   : Nat
  bits   : Nat
deriving DecidableEq, Repr

/-- The header of a frame, as decoded from group 0 (R149), with the comparison of the sync word and the check of HCRC (R151).
`offset` is where the header stood, in symbols from the free-run place of the grid (R160); `pos` is its place on the line (R157). -/
structure FrameHdr where
  syncOk   : Bool
  hcrcOk   : Bool
  frameCnt : BitVec 48
  mfIdx    : BitVec 4
  ver      : BitVec 4
  chan     : BitVec 2
  headId   : BitVec 16
  secValid : Bool
  secIdx   : BitVec 4
  mapLast  : BitVec 4
  darkTail : BitVec 8
  entries  : List MapEntry
  used     : BitVec 36
  psl      : BitVec 8
  offset   : Int
  pos      : Nat
deriving DecidableEq, Repr

/-- A decoded interleave group: its number in the frame, its four codewords, the header for group 0 (R182), its place on the line and
its information stream, descrambled. -/
structure GroupIn where
  grp : Nat
  cws : List CwResult
  hdr : Option FrameHdr
  at_ : Nat
  info : List Byte
deriving DecidableEq, Repr

/-- Symbols of a frame (R145). -/
def frameSyms : Nat := 3200000

/-- Symbols of a group (R145). -/
def groupSyms : Nat := 12800

/-- Bytes of the information stream of a group (R146). -/
def groupBytes : Nat := 3040

/-- The sync word (R148). -/
def syncWord : BitVec 64 := 0xB5C26F0D93A41E78

/-- How many bits of a window differ from the sync word (R157). -/
def syncDiff (window : BitVec 64) : Nat := onesOf 64 (window ^^^ syncWord).toNat

/-- `n` bytes of a stream from byte `k` on. -/
def slice (bs : List Byte) (k n : Nat) : List Byte := (bs.drop k).take n

/-- The bits `lo` to `lo + n - 1` of byte `k`. -/
def byteField (bs : List Byte) (k lo n : Nat) : Nat := (bs.getD k 0).toNat / 2 ^ lo % 2 ^ n

/-- The places on the line between two symbols, as the smaller distance around the frame. -/
def lineOffset (grid pos : Nat) : Int :=
  let d := (pos + frameSyms - grid % frameSyms) % frameSyms
  if d < frameSyms / 2 then (d : Int) else (d : Int) - frameSyms

/-- A map entry of 5 bytes (R172). -/
def readEntry (bs : List Byte) : MapEntry :=
  let v := ofBytesBE bs
  ⟨v / 2 ^ 28 % 2 ^ 12, v / 2 ^ 16 % 2 ^ 12, BitVec.ofNat 2 (v / 2 ^ 14), BitVec.ofNat 12 v⟩

/-- The 48 bytes of the header as they were before scrambling, from the information stream of group 0 (R147, R154). -/
def headerBytes (line : List Byte) : List Byte := scrambleBytes (BitVec.allOnes 58) (slice line 8 48)

/-- FRAME_CNT in the 48 header bytes. -/
def headerFc (hb : List Byte) : Nat := ofBytesBE (slice hb 0 6)

/-- HCRC checks: bytes 52-55 hold the CRC of bytes 8-51 (R150). -/
def hcrcGood (hb : List Byte) : Bool := decide (ofBytesBE (slice hb 44 4) = crc32 (slice hb 0 44))

/-- The fields of a header from its 48 bytes and from the payload that follows it (R149, R174): the first MAP_ENTRIES entries count. -/
def readHeader (grid pos : Nat) (line hb payload : List Byte) : FrameHdr where
  syncOk := decide (ofBytesBE (slice line 0 8) = syncWord.toNat)
  hcrcOk := hcrcGood hb
  frameCnt := BitVec.ofNat 48 (headerFc hb)
  mfIdx := BitVec.ofNat 4 (byteField hb 6 4 4)
  ver := BitVec.ofNat 4 (byteField hb 6 0 4)
  chan := BitVec.ofNat 2 (byteField hb 7 6 2)
  headId := BitVec.ofNat 16 (ofBytesBE (slice hb 8 2))
  secValid := decide (byteField hb 10 7 1 = 1)
  secIdx := BitVec.ofNat 4 (byteField hb 10 3 4)
  mapLast := BitVec.ofNat 4 (byteField hb 11 4 4)
  darkTail := BitVec.ofNat 8 (byteField hb 12 0 8)
  entries := (List.range (min 80 (byteField hb 13 0 7))).map (fun i => readEntry (slice payload (5 * i) 5))
  used := BitVec.ofNat 36 (ofBytesBE (slice hb 14 5))
  psl := BitVec.ofNat 8 (byteField hb 19 0 8)
  offset := lineOffset grid pos
  pos := pos

/-- The scrambler state at the first bit of group `g` of a frame, for a group other than group 0 (R153, R154). -/
def groupSeed (fc g : Nat) : BitVec 58 := scrAfter (payloadSeed fc) ((groupBytes - 56) * 8 + (g - 1) * (groupBytes * 8))

/-- A group with its codewords decoded and its information stream descrambled (R154-R156): group 0 by its own header where the header
is good, any other stream by the FRAME_CNT `fc` of its frame. -/
def readGroup (fc grid : Nat) (g : GroupRaw) : GroupIn :=
  let (ws, line) := decodeGroup g.line
  let cws := ws.map (fun d => CwResult.mk d.uncorr d.syms d.bits)
  if g.grp = 0 then
    let hb := headerBytes line
    let good := ws.all (fun d => !d.uncorr) && hcrcGood hb
    let payload := scrambleBytes (payloadSeed (if good then headerFc hb else fc)) (line.drop 56)
    ⟨0, cws, some (readHeader grid g.at_ line hb payload), g.at_, slice line 0 8 ++ hb ++ payload⟩
  else ⟨g.grp, cws, none, g.at_, scrambleBytes (groupSeed fc g.grp) line⟩

/-- The fragment header of 8 bytes at place `k` of a stream (R185). -/
def fragHeader (info : List Byte) (k : Nat) : BitVec 64 := BitVec.ofNat 64 (ofBytesBE (slice info k 8))

/-- LEN of a fragment header (R185). -/
def fragLen (h : BitVec 64) : Nat := h.toNat / 2 ^ 36 % 2 ^ 12

/-- What follows a downstream fragment header (R185-R187): its body, any GCM tag with it, and the ingress stamp in 1/16 ns (R529). -/
structure FragIn where
  body  : List Byte
  stamp : Nat
deriving DecidableEq, Repr

end Sys2Proof.Machine
end

