-- ==== Sys2Proof/Machine/Cipher.lean ====
section
/-! DEFINITION. The ciphers that the spec takes from standards, as functions of bytes: AES-256 (FIPS 197), GCM (NIST SP 800-38D) with
the nonce of a fragment (R305, R306), the key wrap of RFC 5649 (R328), XTS (IEEE 1619) of an external line (R435). A key is a list of
32 bytes, a block a list of 16. -/

namespace Sys2Proof.Machine

open Sys2Proof

/-! ### AES-256 -/

/-- A product in GF(2^8) with x^8 + x^4 + x^3 + x + 1. -/
def aesMul (a b : Nat) : Nat :=
  ((List.range 8).foldl (fun (p : Nat × Nat) i =>
    (if b.testBit i then p.1 ^^^ p.2 else p.1, if p.2.testBit 7 then (p.2 * 2) ^^^ 0x11B else p.2 * 2)) (0, a)).1

/-- The inverse in GF(2^8), 0 for 0: the power 254. -/
def aesInv (a : Nat) : Nat :=
  ((List.range 7).foldl (fun (p : Nat × Nat) _ => let q := aesMul p.2 p.2; (aesMul p.1 q, q)) (1, a)).1

/-- A byte XOR its rotations by the given distances. -/
def rotXor (x : Byte) (ds : List Nat) : Byte := ds.foldl (fun y d => y ^^^ x.rotateLeft d) 0

/-- The S-box. -/
def sbox (x : Byte) : Byte := rotXor (BitVec.ofNat 8 (aesInv x.toNat)) [0, 1, 2, 3, 4] ^^^ 0x63

/-- The inverse S-box. -/
def sboxInv (x : Byte) : Byte := BitVec.ofNat 8 (aesInv (rotXor x [1, 3, 6] ^^^ 0x05).toNat)

/-- One step of the key expansion: the words so far, the newest first. -/
def expandStep (ws : List (List Byte)) (i : Nat) : List (List Byte) :=
  let t := ws.headD []
  let t1 :=
    if i % 8 = 0 then xorBytes ((t.drop 1 ++ t.take 1).map sbox)
      [BitVec.ofNat 8 ((List.range (i / 8 - 1)).foldl (fun r _ => aesMul r 2) 1), 0, 0, 0]
    else if i % 8 = 4 then t.map sbox
    else t
  xorBytes (ws.getD 7 []) t1 :: ws

/-- The 15 round keys. -/
def roundKeys (key : List Byte) : List (List Byte) :=
  let ws := ((List.range 52).foldl (fun w i => expandStep w (i + 8)) ((List.range 8).map (fun i => slice key (4 * i) 4)).reverse).reverse
  (List.range 15).map (fun r => (slice4 ws (4 * r)).flatten)
where
  /-- Four words from word `k` on. -/
  slice4 (ws : List (List Byte)) (k : Nat) : List (List Byte) := (ws.drop k).take 4

/-- ShiftRows, or its inverse with the distance 3: byte 4c + r comes from column c + d r. -/
def shiftRows (d : Nat) (b : List Byte) : List Byte := (List.range 16).map (fun i => b.getD ((i + 4 * d * (i % 4)) % 16) 0)

/-- A column of four bytes times the circulant matrix of `m`. -/
def mixColumn (m : List Nat) (c : List Byte) : List Byte :=
  (List.range 4).map (fun r => BitVec.ofNat 8 ((List.range 4).foldl
    (fun x i => x ^^^ aesMul (m.getD ((i + 4 - r) % 4) 0) (c.getD i 0).toNat) 0))

/-- MixColumns with the matrix of `m`. -/
def mixColumns (m : List Nat) (b : List Byte) : List Byte := ((List.range 4).map (fun i => mixColumn m (slice b (4 * i) 4))).flatten

/-- The encryption of a block. -/
def aesEncrypt (key blk : List Byte) : List Byte :=
  let ks := roundKeys key
  let b := ((List.range 13).foldl (fun x r =>
    xorBytes (mixColumns [2, 3, 1, 1] (shiftRows 1 (x.map sbox))) (ks.getD (r + 1) [])) (xorBytes blk (ks.getD 0 [])))
  xorBytes (shiftRows 1 (b.map sbox)) (ks.getD 14 [])

/-- The decryption of a block. -/
def aesDecrypt (key blk : List Byte) : List Byte :=
  let ks := roundKeys key
  let b := ((List.range 13).foldl (fun x r =>
    mixColumns [14, 11, 13, 9] (xorBytes ((shiftRows 3 x).map sboxInv) (ks.getD (13 - r) []))) (xorBytes blk (ks.getD 14 [])))
  xorBytes ((shiftRows 3 b).map sboxInv) (ks.getD 0 [])

/-! ### GCM -/

/-- The blocks of a string: 16 bytes each, the last padded with zeros. -/
def blocks16 (bs : List Byte) : List (List Byte) :=
  (List.range ((bs.length + 15) / 16)).map (fun i => (slice bs (16 * i) 16 ++ List.replicate 16 0).take 16)

/-- A product in GF(2^128) in the bit order of GCM: the most significant bit is the coefficient of x^0. -/
def ghashMul (x y : Nat) : Nat :=
  ((List.range 128).foldl (fun (p : Nat × Nat) i =>
    (if x.testBit (127 - i) then p.1 ^^^ p.2 else p.1,
     if p.2.testBit 0 then (p.2 / 2) ^^^ (0xE1 * 2 ^ 120) else p.2 / 2)) (0, y)).1

/-- GHASH of blocks under the hash key `h`. -/
def ghash (h : Nat) (bs : List (List Byte)) : Nat := bs.foldl (fun y b => ghashMul (y ^^^ ofBytesBE b) h) 0

/-- The key stream over a text, from counter 2 on, with the 96-bit nonce. -/
def gcmStream (key nonce text : List Byte) : List Byte :=
  xorBytes text (((List.range ((text.length + 15) / 16)).map (fun i => aesEncrypt key (nonce ++ toBytesBE 4 (i + 2)))).flatten)

/-- The 128-bit tag of additional data and ciphertext. -/
def gcmTag (key nonce aad ct : List Byte) : List Byte :=
  let h := ofBytesBE (aesEncrypt key (List.replicate 16 0))
  let lens := toBytesBE 8 (8 * aad.length) ++ toBytesBE 8 (8 * ct.length)
  xorBytes (toBytesBE 16 (ghash h (blocks16 aad ++ blocks16 ct ++ [lens]))) (aesEncrypt key (nonce ++ toBytesBE 4 1))

/-- Ciphertext and tag of a plaintext (R305). -/
def gcmSeal (key nonce aad text : List Byte) : List Byte :=
  let ct := gcmStream key nonce text
  ct ++ gcmTag key nonce aad ct

/-- The tag at the end of a body checks (R305); a body too short for a tag does not. -/
def gcmChecks (key nonce aad body : List Byte) : Bool :=
  decide (16 ≤ body.length) && decide (body.drop (body.length - 16) = gcmTag key nonce aad (body.take (body.length - 16)))

/-- The plaintext of a body of ciphertext and tag. -/
def gcmOpen (key nonce body : List Byte) : List Byte := gcmStream key nonce (body.take (body.length - 16))

/-- The nonce of a fragment as 12 bytes (R306). -/
def fragNonce (tid : Nat) (up : Bool) (chan fc idx : Nat) : List Byte :=
  toBytesBE 12 (tid % 2 ^ 12 * 2 ^ 84 + b2n up * 2 ^ 83 + chan % 4 * 2 ^ 81 + fc % 2 ^ 48 * 2 ^ 16 + idx % 2 ^ 16)

/-! ### Key wrap (R328) -/

/-- One step of the unwrapping: the register A, the semiblocks, and the step `t` counted down. -/
def unwrapStep (kek : List Byte) (n : Nat) (p : List Byte × List (List Byte)) (t : Nat) : List Byte × List (List Byte) :=
  let i := (t - 1) % n
  let b := aesDecrypt kek (xorBytes p.1 (toBytesBE 8 t) ++ p.2.getD i [])
  (b.take 8, p.2.set i (b.drop 8))

/-- Unwraps a blob: the alternative initial value and the plaintext. -/
def keyUnwrap (kek blob : List Byte) : List Byte × List Byte :=
  let n := blob.length / 8 - 1
  let r := (List.range (6 * n)).foldl (fun p j => unwrapStep kek n p (6 * n - j))
    (blob.take 8, (List.range n).map (fun i => slice blob (8 * (i + 1)) 8))
  (r.1, r.2.flatten)

/-! ### XTS (R435) -/

/-- The tweak of the next block: times x in GF(2^128), the least significant byte first. -/
def xtsNext (t : Nat) : Nat := if t.testBit 127 then (t * 2 % 2 ^ 128) ^^^ 0x87 else t * 2

/-- Bytes of a number, least significant first. -/
def toBytesLE (n v : Nat) : List Byte := (toBytesBE n v).reverse

/-- The number that bytes give, least significant first. -/
def ofBytesLE (bs : List Byte) : Nat := ofBytesBE bs.reverse

/-- The tweak of block `j` of the line with tweak value `tw` under the key `k2`. -/
def xtsTweak (k2 : List Byte) (tw j : Nat) : List Byte :=
  toBytesLE 16 ((List.range j).foldl (fun t _ => xtsNext t) (ofBytesLE (aesEncrypt k2 (toBytesLE 16 tw))))

/-- A line of whole blocks, encrypted with keys `k1` and `k2` and the tweak value `tw`. -/
def xtsEncrypt (k1 k2 : List Byte) (tw : Nat) (line : List Byte) : List Byte :=
  ((List.range (line.length / 16)).map (fun j =>
    let t := xtsTweak k2 tw j
    xorBytes (aesEncrypt k1 (xorBytes (slice line (16 * j) 16) t)) t)).flatten

/-- The same, decrypted. -/
def xtsDecrypt (k1 k2 : List Byte) (tw : Nat) (line : List Byte) : List Byte :=
  ((List.range (line.length / 16)).map (fun j =>
    let t := xtsTweak k2 tw j
    xorBytes (aesDecrypt k1 (xorBytes (slice line (16 * j) 16) t)) t)).flatten

end Sys2Proof.Machine
end

