-- ==== Sys2Proof/Machine/Group.lean ====
section
/-! DEFINITION. Commit groups: slots, staging, the configuration in effect at each place, aborts, thimble moves (R41-R76,
R83-R87). -/

namespace Sys2Proof.Machine

open Sys2Proof

/-! ### Slots -/

/-- The slot that carries `tag` (R48). -/
def State.slotOf (s : State) (tag : BitVec 8) : Option (Fin 4) :=
  (List.finRange 4).find? (fun i => decide (s.cmt.slots[i].st ≠ .free) && decide (s.cmt.slots[i].tag = tag))

/-- The lowest free slot. -/
def State.freeSlot (s : State) : Option (Fin 4) := (List.finRange 4).find? (fun i => decide (s.cmt.slots[i].st = .free))

/-- Replaces a slot. -/
def State.setSlot (s : State) (i : Fin 4) (x : Slot) : State :=
  { s with cmt := { s.cmt with slots := s.cmt.slots.set i x } }

/-- The pages that a set of staged writes names, each once. -/
def pagesOf (ws : SMap Word) : List Nat := ((mapKeys ws).map pageOf).dedup

/-- A group that writes any line-die page is a cross-die group (R49). -/
def crossDie (ws : SMap Word) : Bool := (mapKeys ws).any (fun k => linePage (pageOf k))

/-- The slot holds the register at `k`: from the write that stages it until its page has applied or the group is
aborted (R44). -/
def Slot.holds (x : Slot) (k : Nat) : Bool :=
  (match x.st with
   | .opened | .preparing => true
   | .applying => x.pages.contains (pageOf k)
   | _ => false) && (mapKeys x.writes).contains k

/-- The group of the slot is committed and not yet at its end. -/
def Slot.committed (x : Slot) : Bool := decide (x.st = .preparing) || decide (x.st = .applying)

/-- PAGE_STAT.APPLYING: a committed group has yet to apply at page `p` (R38). -/
def State.applying (s : State) (p : Nat) : Bool :=
  (List.finRange 4).any (fun i => s.cmt.slots[i].committed && s.cmt.slots[i].pages.contains p)

/-- Staged writes held for page `p` over all groups (STAGE_CNT). -/
def State.stageCount (s : State) (p : Nat) : Nat :=
  (List.finRange 4).foldl (fun n i =>
    let x := s.cmt.slots[i]
    n + ((mapKeys x.writes).filter (fun k => decide (pageOf k = p) && x.holds k)).length) 0

/-- A slot goes to ABORTED: its staged writes are dropped, the abort is counted and raised (R73). With the writes gone, CROSS_DIE and
COUNT of the slot read 0 (DESIGN CHOICE, log entry 122). -/
def State.abortSlot (s : State) (i : Fin 4) (cause : BitVec 4) : State :=
  let x := s.cmt.slots[i]
  ((s.setSlot i { x with st := .aborted, cause := cause, writes := [], switched := [], pages := [] }).bump
    R.CMT_CNT_ABORTED).fire P.CMT E.CMT_ABORTED

/-- A slot goes to APPLIED, counted and raised (R60). -/
def State.slotApplied (s : State) (i : Fin 4) : State :=
  ((s.setSlot i { s.cmt.slots[i] with st := .applied, pages := [] }).bump R.CMT_CNT_APPLIED).fire P.CMT E.CMT_APPLIED

/-! ### Commands (R70) -/

/-- Records a command in CMD_STAT. -/
def State.cmdStat (s : State) (r : Req) (tag : BitVec 8) (cmd result : Nat) : State :=
  s.wr R.CMT_CMD_STAT (BitVec.ofNat 32 (tag.toNat + cmd * 2 ^ 8 + result * 2 ^ 12 + reqNum r * 2 ^ 16))

/-- A refused command: bus error of cause 2, CMD_STAT, CNT_REFUSED and REFUSED. -/
def State.cmdRefuse (s : State) (r : Req) (k : Nat) (tag : BitVec 8) (cmd result : Nat) : State :=
  (((s.cmdStat r tag cmd result).bump R.CMT_CNT_REFUSED).fire P.CMT E.CMT_REFUSED).refuse r k

/-- CMT_OPEN: a free slot takes the tag (R71). -/
def State.opCmtOpen (s : State) (r : Req) (tag : BitVec 8) : State :=
  if tag = 0 then s.cmdRefuse r R.CMT_CMT_OPEN tag 1 4
  else if (s.slotOf tag).isSome then s.cmdRefuse r R.CMT_CMT_OPEN tag 1 1
  else
    match s.freeSlot with
    | none => s.cmdRefuse r R.CMT_CMT_OPEN tag 1 2
    | some i => (s.setSlot i { st := .opened, tag := tag }).cmdStat r tag 1 0

/-- CMT_DISCARD: an open group is aborted with cause 1 (R71). -/
def State.opCmtDiscard (s : State) (r : Req) (tag : BitVec 8) : State :=
  if tag = 0 then s.cmdRefuse r R.CMT_CMT_DISCARD tag 3 4
  else
    match s.slotOf tag with
    | none => s.cmdRefuse r R.CMT_CMT_DISCARD tag 3 3
    | some i =>
      if s.cmt.slots[i].st = .opened then (s.abortSlot i 1).cmdStat r tag 3 0
      else s.cmdRefuse r R.CMT_CMT_DISCARD tag 3 5

/-- CMT_ACK: an APPLIED or ABORTED slot is cleared (R71, R74). -/
def State.opCmtAck (s : State) (r : Req) (tag : BitVec 8) : State :=
  if tag = 0 then s.cmdRefuse r R.CMT_CMT_ACK tag 4 4
  else
    match s.slotOf tag with
    | none => s.cmdRefuse r R.CMT_CMT_ACK tag 4 3
    | some i =>
      if s.cmt.slots[i].st = .applied ∨ s.cmt.slots[i].st = .aborted then (s.setSlot i {}).cmdStat r tag 4 0
      else s.cmdRefuse r R.CMT_CMT_ACK tag 4 5

/-! ### Staging (R43-R47) -/

/-- A staged write is refused: bus error and a count in CNT_REFUSED (R44). REFUSED is raised by refused commands only (R70). -/
def State.stageRefuse (s : State) (r : Req) (k cause : Nat) : State := (s.bump R.CMT_CNT_REFUSED).busError r k false cause

/-- The register at `k` is one of the three of a rule set that has a DRAINING epoch (R368). -/
def State.rootBusy (s : State) (k : Nat) : Bool :=
  decide (pageOf k = P.CLS) && decide (0x200 ≤ ofsOf k) && decide (ofsOf k < 0x280) && decide (ofsOf k % 16 < 12) &&
    (List.range 2).any (fun b => decide ((s.epochs.toList.getD ((ofsOf k - 0x200) / 16 * 2 + b) {}).st = .draining))

/-- A write to the RWS register at `k` is staged into the requester's current group, or refused under R44. Where several cases of R44
hold, the first in the order tag, conflict, domain, DRAINING epoch, limit decides; a refusal for a domain that is off has bus-error
cause 4 (DESIGN CHOICE, log entries 123 and 124). -/
def State.stage (s : State) (r : Req) (k : Nat) (v : Word) : State :=
  let tag := BitVec.ofNat 8 (s.fld (F.CMT_CUR_TAG_TAG (reqNum r)))
  match (if tag = 0 then none else s.slotOf tag) with
  | none => s.stageRefuse r k 2
  | some i =>
    let x := s.cmt.slots[i]
    if x.st ≠ .opened then s.stageRefuse r k 2
    else if (List.finRange 4).any (fun j => decide (j ≠ i) && (s.cmt.slots[j]).holds k) then
      (s.fire P.CMT E.CMT_STAGE_CONFLICT).stageRefuse r k 2
    else if ¬ s.powered k then s.stageRefuse r k 4
    else if s.rootBusy k then (s.stageRefuse r k 2).fire P.CLS E.CLS_ROOT_BUSY
    else if ¬ (mapKeys x.writes).contains k ∧ 1024 ≤ x.writes.length then
      (s.setSlot i { x with overflow := true }).stageRefuse r k 2
    else s.setSlot i { x with writes := mapIns x.writes k (mergeWrite (fieldsAt k) 0 v) }

/-- A staged write of requester `r`: its checks are those of any write but for the Seam, which it does not cross (R47,
log entry 11). -/
def State.accessStaged (s : State) (r : Req) (k : Nat) (full : Bool) (v : Word) : State :=
  if ¬ s.reaches r then s.reply .ignored
  else if ¬ full ∨ k % 4 ≠ 0 then s.busError r k false 3
  else if ¬ usedPage (pageOf k) then s.busError r k false 7
  else if ¬ s.mayWrite r k then s.deny r k 1 1
  else (s.reply .done).stage r k v

/-! ### The configuration in effect at a place -/

/-- The value of the RWS register at `k` that the place `u` uses: a group in APPLYING whose part at `u` has switched
gives it before its page shows it (R51, R56, R58); otherwise the register's value. -/
def State.cfgAt (s : State) (u : ApplyUnit) (k : Nat) : Word :=
  match (List.finRange 4).find? (fun i =>
      let x := s.cmt.slots[i]
      decide (x.st = .applying) && x.pages.contains (pageOf k) && x.switched.contains u && (mapKeys x.writes).contains k) with
  | some i => mapGet (s.rd k) s.cmt.slots[i].writes k
  | none => s.rd k

/-- A field of the RWS register in effect at a place. -/
def State.cfgFld (s : State) (u : ApplyUnit) (f : Fld) : Nat := getField (s.cfgAt u f.key) f.lo f.w

/-- A field of an RWS register of a block whose boundary acts on each entry by itself (R56). -/
def State.ent (s : State) (f : Fld) : Nat := s.cfgFld (.entry f.key) f

/-! ### Thimble moves (R83, R87) -/

/-- The thimble-move actions of R87, in one step. -/
def State.thimbleMove (s : State) : State :=
  let s1 := (List.finRange 4).foldl (fun t i => if t.cmt.slots[i].st = .opened then t.abortSlot i 6 else t) s
  let s2 := (List.range 10).foldl (fun t n => t.setFld (F.CMT_CUR_TAG_TAG n) 0) s1
  ((s2.setFld F.OWN_OWN_CTL_DELEGATE_CORES 0).bump R.OWN_CNT_HANDOVER).fire P.OWN E.OWN_THIMBLE_MOVED

/-- The holder becomes `a` (3: none); its lease runs from now (R88). OWN_STAT.TARGET keeps the last target (DESIGN CHOICE, log entry
125). -/
def State.setHolder (s : State) (a : BitVec 2) : State :=
  let s1 := { s with own := { s.own with st := if a = 3 then .vacant else .held, holder := a } }
  if a ≠ 3 ∧ s.bit F.OWN_OWN_CTL_LEASE_EN then (s1.stopTimer T.handover).startTimer T.lease
  else (s1.stopTimer T.handover).stopTimer T.lease

/-- The presence window closes (R95). -/
def State.closePresence (s : State) : State :=
  if s.own.presWin then
    (({ s with own := { s.own with presWin := false } }).stopTimer T.presence).fire P.OWN E.OWN_PRESENCE_OFF
  else s

/-- The force window closes. -/
def State.closeForce (s : State) : State := ({ s with own := { s.own with forceWin := false } }).stopTimer T.force

/-- The force window opens for 10 s (R93, R98). -/
def State.openForce (s : State) : State :=
  (({ s with own := { s.own with forceWin := true } }).startTimer T.force).fire P.OWN E.OWN_FORCE_OPEN

/-- The holder is lost (R85, R88). -/
def State.holderLost (s : State) (lease : Bool) : State :=
  let s1 := ((s.setHolder 3).thimbleMove).closePresence
  if lease then s1.fire P.OWN E.OWN_LEASE_EXPIRED else s1

/-- Agents in the priority order of OWN_PRI (R81). -/
def priorityOrder (pri : Nat) : List Nat :=
  if pri = 0 then [0, 1, 2] else if pri = 1 then [1, 0, 2] else if pri = 2 then [2, 0, 1] else [2]

/-- The election is decided for the candidate of highest priority; without one the thimble stays vacant, which is no
move (R83). -/
def State.decideElection (s : State) (timed : Bool) : State :=
  let s1 := ({ s with own := { s.own with elected := true, timed := timed, cand := s.own.present } }).stopTimer T.election
  match (priorityOrder (s.rst.straps.toNat % 4)).find? (fun a => natBit s.own.present.toNat a) with
  | some a => (s1.setHolder (BitVec.ofNat 2 a)).thimbleMove
  | none => s1

/-- Agent `a` becomes a candidate; the agent of highest priority decides the election (R82, R83). -/
def State.addCandidate (s : State) (a : Nat) : State :=
  if s.own.elected ∨ ¬ (priorityOrder (s.rst.straps.toNat % 4)).contains a then s
  else
    let s1 := { s with own := { s.own with present := s.own.present ||| BitVec.ofNat 3 (2 ^ a) } }
    if (priorityOrder (s.rst.straps.toNat % 4)).head? = some a then s1.decideElection false else s1

end Sys2Proof.Machine
end

