-- ==== Sys2Proof/Machine/Events.lean ====
section
/-! DEFINITION. The event registers of the common header (R38, R566-R568), page EVT (R569-R578), the error log and power
failure (R579-R589). -/

namespace Sys2Proof.Machine

open Sys2Proof

/-! ### Counters of a page (R38) -/

/-- The register at `k` is a counter. -/
def isCounter (k : Nat) : Bool := (fieldsAt k).any (fun r => r.ty == .ctr)

/-- Clears every counter of page `p`, held and live. -/
def State.clearCounters (s : State) (p : Nat) : State :=
  let keep := fun k => !(decide (pageOf k = p) && isCounter k)
  let s1 := { s with regs := mapFilter keep s.regs, shown := mapFilter keep s.shown }
  if p = P.CLS then { s1 with rcnt := [], rcntHeld := s1.rcntHeld.map (fun _ => []) } else s1

/-- Freezes the shown values of the counters of page `p`. -/
def State.holdCounters (s : State) (p : Nat) : State :=
  let mine := mapFilter (fun k => decide (pageOf k = p) && isCounter k) s.regs
  let others := mapFilter (fun k => decide (pageOf k ≠ p)) s.shown
  let s1 := { s with shown := mine.foldr (fun e m => mapIns m e.1 e.2) others }
  if p = P.CLS then { s1 with rcntHeld := some s1.rcnt } else s1

/-- Shows live values again. -/
def State.releaseCounters (s : State) (p : Nat) : State :=
  let s1 := { s with shown := mapFilter (fun k => decide (pageOf k ≠ p)) s.shown }
  if p = P.CLS then { s1 with rcntHeld := none } else s1

/-! ### Writes of the common header -/

/-- A write of PAGE_CTL: CNT_CLR clears, CNT_HOLD freezes or releases, and every pending source counts as a pending rise
when EVT_OUT changes from 0 to 1 (R38, R567). -/
def State.opPageCtl (s : State) (p : Nat) (v : Word) : State :=
  let s1 := s.store (R.HDR_PAGE_CTL p) v
  let s2 := if v.getLsbD 2 then s1.clearCounters p else s1
  let s3 :=
    if v.getLsbD 1 then (if s.bit (F.HDR_PAGE_CTL_CNT_HOLD p) then s2 else s2.holdCounters p) else s2.releaseCounters p
  if v.getLsbD 0 ∧ ¬ s.bit (F.HDR_PAGE_CTL_EVT_OUT p) then s3.risePending p else s3

/-- A write of EVT_MASK: clearing the mask bit of a source whose raw bit is set makes a pending rise (R568). -/
def State.opEvtMask (s : State) (p : Nat) (v : Word) : State :=
  let old := s.rd (R.HDR_EVT_MASK p)
  let s1 := s.store (R.HDR_EVT_MASK p) v
  (List.range (evNum p)).foldl (fun t b =>
    if old.getLsbD b && !v.getLsbD b && (s.rd (R.HDR_EVT_RAW p)).getLsbD b then t.pendingRise p b else t) s1

/-- A write of EVT_FORCE: each bit acts as a firing of its source (R568). -/
def State.opEvtForce (s : State) (p : Nat) (v : Word) : State :=
  (List.range (evNum p)).foldl (fun t b => if v.getLsbD b then t.fire p b else t) s

/-! ### Page EVT -/

/-- Group `g` has a pending source that the tree delivers (R567, R575). -/
def State.groupPending (s : State) (g : Nat) : Bool :=
  s.bit (F.HDR_PAGE_CTL_EVT_OUT (groupPage g)) && decide (s.pendBits (groupPage g) ≠ 0)

/-- A write of EVT_CTL: when EN is set, every pending source counts as a pending rise (R575). -/
def State.opEvtCtl (s : State) (v : Word) : State :=
  let s1 := s.store R.EVT_EVT_CTL v
  if v.getLsbD 0 ∧ ¬ s.bit F.EVT_EVT_CTL_EN then (List.range 96).foldl (fun t g => t.risePending (groupPage g)) s1 else s1

/-- Rearms vector `v`: a pending source of a group routed to it sends a message at once and disarms it again (R576). -/
def State.rearm (s : State) (v : Nat) : State :=
  let s1 := s.setFld ⟨armKey v, v % 32, 1⟩ 1
  if s.bit F.EVT_EVT_CTL_EN && (List.range 96).any (fun g => decide (s.vectorOf g = some v) && s.groupPending g) then
    (s1.disarm v).msixDue v
  else s1

/-- A W1S of MSIX_ARM_LO or _HI (R576). -/
def State.opMsixArm (s : State) (hi : Bool) (v : Word) : State :=
  (List.range 32).foldl (fun t b => if v.getLsbD b then t.rearm (b + 32 * b2n hi) else t) s

/-- The IRQ_N lines that are asserted (R577), as IRQ_STAT shows them. -/
def State.irqLines (s : State) : Nat :=
  (List.range 4).foldl (fun n k =>
    if s.bit F.EVT_EVT_CTL_EN && (List.range 96).any (fun g => s.bit (F.EVT_GRP_ROUTE_IRQ_EN g) &&
        decide (s.fld (F.EVT_GRP_ROUTE_LINE g) = k) && s.groupPending g) then n + 2 ^ k else n) 0

/-- A write of LOG_CFG while the writer is busy ends with a bus error (page EVT). -/
def State.opLogCfg (s : State) (r : Req) (v : Word) : State :=
  if s.log.writing ≠ 0 then s.refuse r R.EVT_LOG_CFG else (s.store R.EVT_LOG_CFG v).flashStart.logStart

/-- REC_NS of the oldest record. -/
def State.recNs (s : State) : Word := BitVec.ofNat 32 (match s.evt.ring with | [] => 0 | x :: _ => nsOf x.stamp)

/-- The computed registers of page EVT, for requester `r`. -/
def readEVT (s : State) (r : Req) (o : Nat) : Option Word :=
  let src := s.fld (F.EVT_SRC_SEL_SRC (reqNum r))
  let stamp := mapGet 0 s.evt.stamps src
  if 0x044 ≤ o ∧ o ≤ 0x058 then
    let i := (o - 0x044) / 4
    some (BitVec.ofNat 32 ((List.range 16).foldl (fun n b => if s.groupPending (16 * i + b) then n + 2 ^ b else n) 0))
  else if o = 0x068 then some (BitVec.ofNat 32 s.irqLines)
  else if o = 0x078 then some (BitVec.ofNat 32 (secOf stamp))
  else if o = 0x07C then some (BitVec.ofNat 32 (nsOf stamp + 2 ^ 31))
  else if o = 0x080 then some (BitVec.ofNat 32 s.evt.ring.length)
  else if o = 0x084 then
    some (match s.evt.ring with | [] => 0 | x :: _ => BitVec.ofNat 32 (x.src + b2n x.line * 2 ^ 16 + 2 ^ 31))
  else if o = 0x088 then some (match s.evt.ring with | [] => 0 | x :: _ => BitVec.ofNat 32 (secOf x.stamp))
  else if o = 0x08C then some s.recNs
  else if o = 0x094 then
    some (BitVec.ofNat 32 (s.log.buf.length + b2n (s.log.writing ≠ 0) * 2 ^ 8 + b2n s.log.flashErr * 2 ^ 9))
  else if o = 0x098 then some (BitVec.ofNat 32 s.log.seq)
  else if o = 0x09C then some (BitVec.ofNat 32 (b2n s.log.pf + b2n s.log.flushed * 2 + b2n s.log.late * 4))
  else none

/-- A read of REC_NS returns the nanoseconds of the oldest record and removes it (R570). -/
def State.opRecRead (s : State) : State :=
  { s.reply (.data s.recNs) with evt := { s.evt with ring := s.evt.ring.tail } }

/-- A read access of requester `r` to the register at `k`, whose effect is `op` (R78); a register of a domain that is off
only answers (R36). -/
def State.readAccess (s : State) (r : Req) (k : Nat) (full : Bool) (value : Word) (op : State → State) : State :=
  if ¬ s.reaches r then s.reply .ignored
  else
    match s.readCause k full with
    | 0 => if s.powered k then op (s.reply (.data value)) else s.reply (.data value)
    | c => s.busError r k true c

/-! ### Commands -/

/-- CNT_CLR (R38). -/
def execCntClr (r : Req) (page : BitVec 8) (v : Word) (s : State) : Res :=
  .next (s.access r (R.HDR_PAGE_CTL page.toNat) true (fun t => t.opPageCtl page.toNat (v ||| 4)))

/-- CNT_HOLD (R38): a write of PAGE_CTL that sets or clears CNT_HOLD, as bit 1 of `v` says. -/
def execCntHold (r : Req) (page : BitVec 8) (v : Word) (s : State) : Res :=
  .next (s.access r (R.HDR_PAGE_CTL page.toNat) true (fun t => t.opPageCtl page.toNat v))

/-- EVT_OUT_SET (R567). -/
def execEvtOutSet (r : Req) (page : BitVec 8) (v : Word) (s : State) : Res :=
  .next (s.access r (R.HDR_PAGE_CTL page.toNat) true (fun t => t.opPageCtl page.toNat (v ||| 1)))

/-- EVT_RAW_CLEAR (R568): a W1C write of `bits`, at whose handshake the sources `firing` fire; a firing wins. -/
def execEvtRawClear (r : Req) (page : BitVec 8) (bits firing : BitVec 16) (s : State) : Res :=
  let p := page.toNat
  let s1 := s.access r (R.HDR_EVT_RAW p) true (fun t => t.store (R.HDR_EVT_RAW p) (bits.setWidth 32))
  let took := decide (s1.resp = .done)
  .next ((List.range (evNum p)).foldl (fun t b =>
    if firing.getLsbD b then t.fireWith p b (took && bits.getLsbD b) (t.deviceTime (linePage p)) else t) s1)

/-- EVT_MASK_WRITE (R568). -/
def execEvtMaskWrite (r : Req) (page : BitVec 8) (bits : BitVec 16) (s : State) : Res :=
  .next (s.access r (R.HDR_EVT_MASK page.toNat) true (fun t => t.opEvtMask page.toNat (bits.setWidth 32)))

/-- EVT_FORCE (R568). -/
def execEvtForce (r : Req) (page : BitVec 8) (bits : BitVec 16) (s : State) : Res :=
  .next (s.access r (R.HDR_EVT_FORCE page.toNat) true (fun t => t.opEvtForce page.toNat (bits.setWidth 32)))

/-- EVENT_FIRE (R568). -/
def execEventFire (page : BitVec 8) (bit : Fin 16) (s : State) : Res :=
  .next (if bit.val < evNum page.toNat then s.fire page.toNat bit.val else s)

/-- REC_READ (R570). -/
def execRecRead (r : Req) (s : State) : Res := .next (s.readAccess r R.EVT_REC_NS true s.recNs State.opRecRead)

/-- MSIX_ARM (R576). -/
def execMsixArm (r : Req) (hi : Bool) (v : Word) (s : State) : Res :=
  .next (s.access r (if hi then R.EVT_MSIX_ARM_HI else R.EVT_MSIX_ARM_LO) true (fun t => t.opMsixArm hi v))

/-- EVT_ENABLE (R575). -/
def execEvtEnable (r : Req) (v : Word) (s : State) : Res :=
  .next (s.access r R.EVT_EVT_CTL true (fun t => t.opEvtCtl (v ||| 1)))

/-- LOG_SECTOR_ERASE (R581): with fewer than two erased sectors ahead, the writer erases its oldest sector of 64 record
slots; not after POWER_FAIL_N (R585), nor while a record waits (R650). -/
def execLogSectorErase (s : State) : Res :=
  .next (if s.logOn ∧ ¬ s.log.pf ∧ s.log.buf = [] ∧ ¬ s.hostProgram ∧ (s.logSlots - s.log.flash.length) / 64 < 2 then
    ({ s with log := { s.log with flash := s.log.flash.drop 64, head := (s.log.head + 64) % s.logSlots } }).emit
      (.logErase (s.logAddr s.log.head))
  else s)

/-- POWER_FAIL_ASSERT (R584, R585): PF is set, counted and raised; a host's flash erase and an erase of the retirement list stop, the
latter with result 4 (DESIGN CHOICE, log entry 152); a CLASS 4 record is made,
in a 65th buffer place if need be; the flush begins, or ends at once under R583. -/
def execPowerFailAssert (s : State) : Res :=
  if s.log.pf ∨ s.rst.inReset ∨ s.rst.unpowered ∨ ¬ s.domOn 29 then .next s
  else
    let edge := s.deviceTime false - 10000 * 65536
    let s1 := { s with log := { s.log with pf := true, flushed := false, late := false } }
    let s2 := (s1.bump R.EVT_CNT_PF).fire P.EVT E.EVT_PF_ASSERT
    let s3 := match s2.hif.flashOp with
      | some (3, _, _) =>
        ((({ s2 with hif := { s2.hif with flashOp := none, flashRun := false, flashRes := 3 } }).bump R.HIF_CNT_FLASH_ERR).fire P.HIF
          E.HIF_FLASH_DONE)
      | _ => s2
    let s4 := (if s3.ecc.clear then { s3 with ecc := { s3.ecc with clear := false, result := 4 } } else s3).makeRecordIn 65 4 P.EVT (BitVec.ofNat 8 s.log.buf.length :: toBytesBE 4 (secOf edge))
    .next (if s4.logOn then s4 else { s4 with log := { s4.log with flushed := true } })

/-- POWER_FAIL_CLEAR (R587). -/
def execPowerFailClear (s : State) : Res :=
  .next (if s.log.pf then
    ({ s with log := { s.log with pf := false } }).fire P.EVT E.EVT_PF_CLEAR
  else s)

end Sys2Proof.Machine
end

