-- ==== Sys2Proof/Machine/Dram.lean ====
section
/-! DEFINITION. External memory as its devices see it (R411-R413, R435, R439): the code RS(20,16), the line as sixteen beats, the keys
under which a line is stored, and what the ECC judges of a read. The model's memory holds the data of a line in clear; what leaves
the device is the stored line (log entry 98). -/

namespace Sys2Proof.Machine

open Sys2Proof

/-! ### RS(20,16) over GF(2^8), x^8 + x^4 + x^3 + x^2 + 1 (R412) -/

/-- A product in GF(2^8) of the code. -/
def eccMul (a b : Nat) : Nat :=
  ((List.range 8).foldl (fun (p : Nat × Nat) i =>
    (if b.testBit i then p.1 ^^^ p.2 else p.1, if p.2.testBit 7 then (p.2 * 2) ^^^ 0x11D else p.2 * 2)) (0, a)).1

/-- α^n. -/
def eccPow : Nat → Nat
  | 0 => 1
  | n + 1 => eccMul (eccPow n) 2

/-- The generator with the roots α^0 to α^3, highest coefficient first, without the leading 1. -/
def eccGen : List Nat :=
  ((List.range 4).foldl (fun (g : List Nat) i => List.zipWith Nat.xor (g ++ [0]) (0 :: g.map (eccMul (eccPow i)))) [1]).drop 1

/-- The four check symbols of 16 data symbols; symbol 0 is the coefficient of highest degree (log entry 139). -/
def eccChecks (data : List Nat) : List Nat :=
  data.foldl (fun r d =>
    let f := d ^^^ r.headD 0
    List.zipWith (fun a g => a ^^^ eccMul f g) (r.drop 1 ++ [0]) eccGen) [0, 0, 0, 0]

/-- A line as stored: sixteen beats of four DQ byte lanes and one CB byte (R411). -/
def lineBeats (stored : List Byte) : List (List Byte) :=
  (List.range 16).map (fun b =>
    let chk := eccChecks ((slice stored (16 * (b / 4)) 16).map BitVec.toNat)
    slice stored (4 * b) 4 ++ [BitVec.ofNat 8 (chk.getD (b % 4) 0)])

/-- The syndromes of a code word's error. -/
def eccSyndromes (e : List Nat) : List Nat :=
  (List.range 4).map (fun i => e.foldl (fun acc x => eccMul acc (eccPow i) ^^^ x) 0)

/-- What the decoder finds in a code word with error `e`: nothing, one symbol, or more than it corrects. -/
inductive WordOut where
  | clean
  | one (sym : Nat)
  | bad
deriving DecidableEq, Repr

/-- Decodes a code word by its error (R412): a single symbol s fits the syndromes v α^(i (19 - s)). -/
def eccWord (e : List Nat) : WordOut :=
  let syn := eccSyndromes e
  if syn.all (fun x => x == 0) then .clean
  else
    match (List.range 20).find? (fun s =>
      let v := syn.headD 0
      v != 0 && (List.range 4).all (fun i => syn.getD i 0 == eccMul v (eccPow (i * (19 - s))))) with
    | some s => .one s
    | none => .bad

/-- The error of code word `c` of a line, from the bytes that faults changed: byte 20c + s of a line's 80 is symbol s of code
word c. -/
def wordError (faults : List (Fin 80 × Byte)) (c : Nat) : List Nat :=
  (List.range 20).map (fun s => faults.foldl (fun x f => if f.1.val = 20 * c + s then x ^^^ f.2.toNat else x) 0)

/-- What the decoder finds in a line read with faults: the code words in error, and the symbol and the syndrome of the first of them,
as the check symbols of its error (log entry 139). -/
def eccLine (faults : List (Fin 80 × Byte)) : EccOut :=
  let es := (List.range 4).map (wordError faults)
  let rs := es.map eccWord
  let cw : BitVec 4 := BitVec.ofNat 4 ((List.range 4).foldl (fun n c => n + b2n (decide (rs.getD c .clean ≠ .clean)) * 2 ^ c) 0)
  match (List.range 4).find? (fun c => decide (rs.getD c .clean ≠ .clean)) with
  | none => .ok
  | some c =>
    let e := es.getD c []
    let synd : BitVec 32 := BitVec.ofNat 32 ((List.zipWith Nat.xor (eccChecks (e.take 16)) (e.drop 16)).foldl (fun a b => a * 256 + b) 0)
    if rs.contains .bad then .ue cw synd
    else match rs.getD c .clean with | .one s => .ce cw (BitVec.ofNat 8 s) synd | _ => .ok

/-- What the ECC judges of a read of a place: an external line is decoded (R412); the Hsiao code of an on-chip code word is not
given (R410), so its outcome comes with the read. -/
def eccJudge : MemPlace → EccIn → EccOut
  | .ext _ _, .ext faults => eccLine faults
  | .chip _ _, .chip o => o
  | _, _ => .ok

/-! ### Encryption (R435, R439) -/

/-- The pair and the key generation under which line `idx` of channel `ch` is stored. -/
def State.linePair (s : State) (ch : Chan) (idx : Nat) : (List Byte × List Byte) × Nat :=
  if s.mxe.running ∧ idx < s.mxe.ptr[ch] then (s.mxe.next.getD ([], []), s.mxe.kgen + 1) else (s.mxe.cur.getD ([], []), s.mxe.kgen)

/-- Line `idx` of channel `ch` as stored: AES-256-XTS with the tweak value L + KGEN × 2^32 (R435). -/
def State.storedLine (s : State) (ch : Chan) (idx : Nat) : List Byte :=
  let (k, g) := s.linePair ch idx
  let l := ch.val * 2 ^ 29 + idx
  xtsEncrypt k.1 k.2 (l + g * 2 ^ 32) (s.readBytes (extBase + l * 64) 64)

/-- A place has been written: the record of an uncorrectable error there is ended (R418, R429). -/
def State.placeWritten (s : State) (pl : MemPlace) : State :=
  { s with ecc := { s.ecc with ueSeen := s.ecc.ueSeen.filter (fun x => decide (x ≠ pl)) } }

/-- The controller writes line `idx` of channel `ch` to its DRAM, on subchannel `idx` mod 2 (R411, R413). -/
def State.dramWrite (s : State) (ch : Chan) (idx : Nat) : State :=
  (s.emit (.dram ch (idx % 2) idx (lineBeats (s.storedLine ch idx)))).placeWritten (.ext ch idx)

/-- Every external line that `n` bytes from address `a` of the model's memory touch goes to its DRAM. -/
def State.dramRange (s : State) (a n : Nat) : State :=
  if a < extBase ∨ n = 0 then s
  else
    let lo := (a - extBase) / 64
    (List.range ((a - extBase + n - 1) / 64 + 1 - lo)).foldl
      (fun (t : State) i => t.dramWrite (Fin.ofNat 4 ((lo + i) / 2 ^ 29)) ((lo + i) % 2 ^ 29)) s

/-- Bytes are stored in memory; those of external memory reach its DRAM. -/
def State.storeBytes (s : State) (a : Nat) (bs : List Byte) : State := (s.writeBytes a bs).dramRange a bs.length

end Sys2Proof.Machine
end

