-- ==== Sys2Proof/Machine/Cache.lean ====
section
/-! DEFINITION. The caches of the control cores (R542, R543): lines, write-back, coherence of the data caches, lines held exclusively.
What the stores of a program leave in a line the commands do not say: its bytes are then free values (log entry 121). -/

namespace Sys2Proof.Machine

open Sys2Proof

/-- Lines of 64 bytes that a cache of 32 KiB holds. -/
def cacheLines : Nat := 512

/-- An address of the model's memory over which the data caches are kept coherent: core RAM and the external window (R542). -/
def coherent (a : Nat) : Bool := decide (a < 0x800000) || decide (extBase ≤ a)

/-- The cache of core `n`, of instructions or of data, holds the line at `a`. -/
def CacheLine.at_ (x : CacheLine) (n : Fin 8) (instr : Bool) (a : Nat) : Bool :=
  decide (x.core = n) && (x.instr == instr) && decide (x.addr = a)

/-- The cached lines change. -/
def State.setCaches (s : State) (f : List CacheLine → List CacheLine) : State := { s with cpu := { s.cpu with caches := f s.cpu.caches } }

/-- A line that holds what its memory does not is written back whole (R542, R543). -/
def State.writeBack (s : State) (x : CacheLine) : State := if x.dirty then s.storeBytes x.addr x.data else s

/-- A line of another core's data cache at `a`. -/
def CacheLine.other (x : CacheLine) (n : Fin 8) (a : Nat) : Bool := decide (x.core ≠ n) && !x.instr && decide (x.addr = a)

/-- Core `n` reads a line: a data cache that holds it changed writes it back and keeps it, shared (R542). -/
def State.snoop (s : State) (n : Fin 8) (a : Nat) : State :=
  ((s.cpu.caches.filter (fun x => x.other n a)).foldl State.writeBack s).setCaches
    (List.map (fun x => if x.other n a then { x with excl := false, dirty := false } else x))

/-- Core `n` is to hold a line exclusively: no other data cache keeps it (R542). -/
def State.claimLine (s : State) (n : Fin 8) (a : Nat) : State := s.setCaches (List.filter (fun x => !x.other n a))

/-- 64 bytes that nothing constrains. -/
def State.freeLine (s : State) : List Byte × State :=
  (((List.range 16).map (fun i => toBytesBE 4 (Config.freeWord (s.fresh + i)).toNat)).flatten, { s with fresh := s.fresh + 16 })

/-- A full cache gives up a line, written back if it was changed: which one the spec does not say. -/
def State.makeRoom (s : State) (n : Fin 8) (instr : Bool) : State :=
  let mine := s.cpu.caches.filter (fun x => decide (x.core = n) && (x.instr == instr))
  if mine.length < cacheLines then s
  else
    let (w, s1) := s.freeVal
    match mine[w.toNat % mine.length]? with
    | some x => (s1.writeBack x).setCaches (List.filter (fun y => decide (y ≠ x)))
    | none => s1

/-- A line enters a cache with what its memory holds. -/
def State.takeLine (s : State) (n : Fin 8) (instr : Bool) (a : Nat) : State :=
  let t := s.makeRoom n instr
  t.setCaches (fun l => ⟨n, instr, a, false, false, t.readBytes a 64⟩ :: l)

/-- The caches of core `n` become invalid: what they had changed is discarded (R626). -/
def State.dropLines (s : State) (n : Fin 8) : State := s.setCaches (List.filter (fun x => decide (x.core ≠ n)))

/-- A store, an AMO or an SC of core `n` acts on the line at `a`, which its data cache then holds exclusively (R542). -/
def State.storeLine (s : State) (n : Fin 8) (a : Nat) : State :=
  let s1 := if coherent a then s.claimLine n a else s
  let (bs, s2) := s1.freeLine
  s2.setCaches (List.map (fun x => if x.at_ n false a then { x with excl := true, dirty := true, data := bs } else x))

/-- A core's write of a line or of part of one has reached its memory: the core's own copy holds it, and no other data cache keeps the
line (R542). -/
def State.lineWritten (s : State) (n : Fin 8) (a : Nat) (data : List Byte) : State :=
  let line := a - a % 64
  let s1 := if coherent line then s.claimLine n line else s
  s1.setCaches (List.map (fun x =>
    if x.at_ n false line then { x with data := x.data.take (a % 64) ++ data ++ x.data.drop (a % 64 + data.length), dirty := x.dirty && decide (data.length ≠ 64) } else x))

end Sys2Proof.Machine
end

