-- ==== Sys2Proof/Machine/Buffers.lean ====
section
/-! DEFINITION. Chapter 11: the buffer pools (R384-R409). -/

namespace Sys2Proof.Machine

open Sys2Proof

/-! ### Pools, regions, handles (R384-R389) -/

/-- Buffer size of pool `k` (R384). -/
def poolSize (k : Nat) : Nat := [256, 512, 1024, 2048, 4096, 9216, 16384, 65536].getD k 0

/-- A handle less its GEN field. -/
def bufKey (ext : Bool) (pool chan idx : Nat) : Nat := b2n ext * 2 ^ 32 + pool * 2 ^ 29 + chan * 2 ^ 27 + idx

/-- EXT of a buffer. -/
def keyExt (key : Nat) : Bool := natBit key 32

/-- POOL of a buffer. -/
def keyPool (key : Nat) : Nat := key / 2 ^ 29 % 8

/-- CHAN of a buffer. -/
def keyChan (key : Nat) : Nat := key / 2 ^ 27 % 4

/-- INDEX of a buffer. -/
def keyIdx (key : Nat) : Nat := key % 2 ^ 27

/-- The buffers of on-chip pool `k`. -/
def State.onpCount (s : State) (k : Nat) : Nat := s.fld (F.BPM_ONP_CNT_COUNT k)

/-- The buffers of a pool or region (R385, R386). -/
def State.regionCount (s : State) (ext : Bool) (k m : Nat) : Nat :=
  if ext then s.fld (F.BPM_EXT_REG_SIZE (4 * k + m)) * 2 ^ 26 / poolSize k else s.onpCount k

/-- A channel is withdrawn (R405). -/
def State.withdrawn (s : State) (m : Nat) : Bool := decide ((s.memch.toList.getD m {}).st = .withdrawn)

/-- Where a buffer begins: in the packet buffer, or in the external address space of R387. -/
def State.bufStart (s : State) (key : Nat) : Nat :=
  let k := keyPool key
  if keyExt key then
    keyChan key * 2 ^ 35 + s.fld (F.BPM_EXT_REG_BASE (4 * k + keyChan key)) * 2 ^ 26 + keyIdx key * poolSize k
  else Config.onpBase ((List.range 8).map s.onpCount) k + keyIdx key * poolSize k

/-- Where a buffer stands in the memory of the model. -/
def State.bufAddr (s : State) (key : Nat) : Nat :=
  if keyExt key then extBase + s.bufStart key else 0x30000000 + s.bufStart key

/-- The buffer overlaps the external page, or the on-chip bank, numbered `n`. -/
def State.overlaps (s : State) (key : Nat) (bank : Bool) (n : Nat) : Bool :=
  let u := if bank then 131072 else 4096
  let a := s.bufStart key
  (keyExt key != bank) && decide (n * u < a + poolSize (keyPool key)) && decide (a < (n + 1) * u)

/-- The buffer overlaps a retired page or bank. -/
def State.onRetired (s : State) (key : Nat) : Bool :=
  s.ecc.pages.any (fun p => s.overlaps key false p) || s.ecc.banks.any (fun b => s.overlaps key true b)

/-- The region of a buffer is in use. -/
def State.regionOn (s : State) (ext : Bool) (k m : Nat) : Bool := !ext || s.bit (F.BPM_EXT_REG_EN (4 * k + m))

/-- A buffer's record. -/
def State.buf (s : State) (key : Nat) : Buf := mapGet {} s.bufs key

/-- Replaces a buffer's record. -/
def State.setBuf (s : State) (key : Nat) (b : Buf) : State := { s with bufs := mapPut {} s.bufs key b }

/-- A buffer may be handed out once it is FREE (R388). -/
def State.bufUsable (s : State) (key : Nat) : Bool :=
  let ext := keyExt key
  let k := keyPool key
  let m := keyChan key
  decide (keyIdx key < s.regionCount ext k m) && s.regionOn ext k m && !(s.buf key).dead && !s.onRetired key &&
    (!ext || (!s.withdrawn m && decide (s.bufStart key % 2 ^ 35 + poolSize k ≤ (s.memch.toList.getD m {}).eave * 64)))

/-- The buffers of a pool or region. -/
def State.regionKeys (s : State) (ext : Bool) (k m : Nat) : List Nat :=
  (List.range (s.regionCount ext k m)).map (fun i => bufKey ext k m i)

/-- The free list of a pool or region. -/
def State.freeKeys (s : State) (ext : Bool) (k m : Nat) : List Nat :=
  (s.regionKeys ext k m).filter (fun key => decide ((s.buf key).count = 0) && s.bufUsable key)

/-- The held buffers of a pool or region. -/
def State.heldKeys (s : State) (ext : Bool) (k m : Nat) : List Nat :=
  (mapKeys s.bufs).filter (fun key => decide ((s.buf key).count ≠ 0) && (keyExt key == ext) && decide (keyPool key = k) &&
    decide (keyChan key = m))

/-! ### Allocation (R390-R397) -/

/-- Hands out a buffer of the free list `keys`; which one is a free value (log entry 22). The holder becomes the last owner
(R397). -/
def State.handOut (s : State) (keys : List Nat) (holder : Nat) : Nat × State :=
  let (w, s1) := s.freeVal
  let key := keys.getD (w.toNat % keys.length) 0
  let b := s1.buf key
  (key, (s1.setBuf key { b with count := 1, owner := holder, pend := false }).bump64 R.BPM_CNT_ALLOC_LO R.BPM_CNT_ALLOC_HI 1)

/-- The channels in the order of the rotation of external pool `k` (R388). -/
def State.rotation (s : State) (k : Nat) : List Nat :=
  (List.range 4).map (fun i => ((s.bufRot.toList.getD k 0).val + i) % 4)

/-- Pool `k` of a tier has a free buffer. -/
def State.poolHasFree (s : State) (ext : Bool) (k : Nat) : Bool :=
  if ext then (List.range 4).any (fun m => s.freeKeys true k m ≠ []) else s.freeKeys false k 0 ≠ []

/-- Allocates from pool `k` of a tier. -/
def State.allocPool (s : State) (ext : Bool) (k holder : Nat) : Option Nat × State :=
  if ext then
    match (s.rotation k).find? (fun m => s.freeKeys true k m ≠ []) with
    | none => (none, s)
    | some m =>
      let (key, s1) := s.handOut (s.freeKeys true k m) holder
      (some key, ({ s1 with bufRot := s1.bufRot.setIfInBounds k (Fin.ofNat 4 (m + 1)) }).bump R.BPM_CNT_SPILL)
  else if s.freeKeys false k 0 = [] then (none, s)
  else
    let (key, s1) := s.handOut (s.freeKeys false k 0) holder
    (some key, s1)

/-- The walk of R392: the smallest pool of size at least `len`, then each larger pool up to the ceiling (R393). -/
def State.walk (s : State) (ext : Bool) (len ceil holder : Nat) : Option Nat × State :=
  let ks := (List.range 8).filter (fun k => decide (len ≤ poolSize k) && decide (k ≤ ceil))
  match ks.find? (fun k => s.poolHasFree ext k) with
  | none => (none, s)
  | some k =>
    let (key, s1) := s.allocPool ext k holder
    (key, if ks.head? = some k then s1 else s1.bump R.BPM_CNT_UP)

/-- The pool profile of a queue (R391). -/
def State.profileOf (s : State) (q : Nat) : Nat :=
  if q = 8992 then 31 else mapGet 0 s.qmap (s.ent F.BPM_QMAP_CTL_ACTIVE * 2 ^ 14 + q)

/-- The packets that a queue holds, selected ones included. -/
def State.queue (s : State) (q : Nat) : List Pkt := mapGet [] s.queues q

/-- Replaces the packets of a queue. -/
def State.setQueue (s : State) (q : Nat) (ps : List Pkt) : State := { s with queues := mapPut [] s.queues q ps }

/-- The byte depth of a queue (R446). -/
def State.depth (s : State) (q : Nat) : Nat := ((s.queue q).map Pkt.len).sum

/-- The allocation of R392 for a packet of stored length `len` to queue `q`; in Doze every EXT_EN counts as 0 (R602). -/
def State.allocate (s : State) (q len : Nat) : Option Nat × State :=
  let p := s.profileOf q
  let on := s.ent (F.BPM_PROF_CFG_ON_EN p) = 1
  let ext := s.ent (F.BPM_PROF_CFG_EXT_EN p) = 1 ∧ ¬ s.extOff
  let ce := s.ent (F.BPM_PROF_CFG_CEIL_EXT p)
  if ¬ s.bit F.BPM_BPM_CTL_EN then (none, s)
  else if on ∧ ¬ (ext ∧ s.ent (F.BPM_PROF_CFG_SPILL_KIB p) * 1024 ≤ s.depth q) then
    match s.walk false len (s.ent (F.BPM_PROF_CFG_CEIL_ON p)) q with
    | (some key, s1) => (some key, s1)
    | (none, s1) => if ext ∧ s.ent (F.BPM_PROF_CFG_FALL p) = 1 then s1.walk true len ce q else (none, s1)
  else if ext then s.walk true len ce q
  else (none, s)

/-! ### Commands on buffers (R398-R402) -/

/-- The handle of a buffer with its present generation. -/
def State.handleOf (s : State) (key : Nat) : Nat := key * 128 + (s.buf key).gen.toNat

/-- The bytes held in buffers for packets received from source `src`, and of those for priority `pri` (R498). -/
def State.rxHeld (s : State) (src : Nat) (pri : Option Nat) : Nat :=
  ((s.bufs.filterMap (fun e => match e.2.rx with
    | some (a, len, q) => if e.2.count ≠ 0 ∧ a = src ∧ (pri = none ∨ pri = some q) then some len else none
    | none => none))).sum

/-- Back-pressure of a legacy port stops when its held bytes have fallen to XON_KIB (R504). -/
def State.stopBackPressure (s : State) (rx : Option (Nat × Nat × Nat)) : State :=
  match rx with
  | some (src, _, _) =>
    if 48 ≤ src ∧ src < 56 then
      let p := Fin.ofNat 8 (src - 48)
      if (s.rxHeld src none + 1023) / 1024 ≤ s.fld (F.LMC_PORT_THR_XON_KIB p.val) then
        { s with lports := s.lports.set p { s.lports[p] with bp := false } }
      else s
    else s
  | none => s

/-- Carries out a free: FREE, GEN + 1 (R398). A buffer on a retired page leaves and counts (R404); a dead buffer returns
nowhere (R405); the last free of a disabled region drains it (R407). -/
def State.doFree (s : State) (key : Nat) : State :=
  let b := s.buf key
  let s1 := (s.setBuf key { gen := b.gen + 1, dead := b.dead }).stopBackPressure b.rx
  let s2 := if s.onRetired key ∧ ¬ b.dead then s1.bump R.BPM_CNT_RETIRED_BUF else s1
  let ext := keyExt key
  if ext ∧ ¬ s2.regionOn ext (keyPool key) (keyChan key) ∧ s2.heldKeys ext (keyPool key) (keyChan key) = [] then
    s2.fire P.BPM E.BPM_REGION_DRAINED
  else s2

/-- A refused command: counted, recorded, logged and raised (R399). `op` is BUF_CMD.OP, or 0 for hardware. -/
def State.bufRefuse (s : State) (hdl cause holder op : Nat) : State :=
  let s1 := ((s.bump R.BPM_CNT_REFUSED).wr R.BPM_LAST_REFUSE_LO (BitVec.ofNat 32 hdl)).wr R.BPM_LAST_REFUSE_HI
    (BitVec.ofNat 32 (hdl / 2 ^ 32 % 2 ^ 8 + cause * 2 ^ 8 + holder * 2 ^ 16))
  (s1.makeRecord 2 P.BPM (toBytesBE 5 hdl ++ [BitVec.ofNat 8 cause] ++ toBytesBE 2 holder ++ [BitVec.ofNat 8 op])).fire
    P.BPM E.BPM_REFUSE

/-- The GEN of a handle is not that of its buffer, or the buffer is FREE (cause 4 of R398). -/
def State.stale (s : State) (hdl : Nat) : Bool :=
  decide ((s.buf (hdl / 128)).count = 0) || decide ((s.buf (hdl / 128)).gen.toNat ≠ hdl % 128)

/-- SHARE: the refusal cause or 0, and the state. -/
def State.bufShare (s : State) (hdl add owner holder op : Nat) : Nat × State :=
  let key := hdl / 128
  let b := s.buf key
  if s.stale hdl then (4, s.bufRefuse hdl 4 holder op)
  else if 255 < b.count + add then (5, s.bufRefuse hdl 5 holder op)
  else (0, (s.setBuf key { b with count := b.count + add, owner := owner }).bump R.BPM_CNT_SHARE)

/-- RELEASE. -/
def State.bufRelease (s : State) (hdl holder op : Nat) : Nat × State :=
  let key := hdl / 128
  let b := s.buf key
  if s.stale hdl then (4, s.bufRefuse hdl 4 holder op)
  else if holder = b.owner then (2, s.bufRefuse hdl 2 holder op)
  else if b.count < 2 then (3, s.bufRefuse hdl 3 holder op)
  else if b.count = 2 ∧ b.pend then (0, s.doFree key)
  else (0, s.setBuf key { b with count := b.count - 1 })

/-- FREE. -/
def State.bufFree (s : State) (hdl holder op : Nat) : Nat × State :=
  let key := hdl / 128
  let b := s.buf key
  if s.stale hdl then (4, s.bufRefuse hdl 4 holder op)
  else if holder ≠ b.owner then (1, s.bufRefuse hdl 1 holder op)
  else if b.count = 1 then (0, s.doFree key)
  else if b.pend then (6, s.bufRefuse hdl 6 holder op)
  else (0, s.setBuf key { b with pend := true })

/-- A hardware holder lets go of a buffer (R400). -/
def State.letGo (s : State) (hdl holder : Nat) : State :=
  if (s.buf (hdl / 128)).owner = holder then (s.bufFree hdl holder 0).2 else (s.bufRelease hdl holder 0).2

/-- Software, as a holder (R396). -/
def swHolder : Nat := 8993

/-- The exception queue, as a holder and as a queue. -/
def excQueue : Nat := 8992

/-- BUF_STAT after a command on the buffer `key`. -/
def State.showBuf (s : State) (key result : Nat) : State :=
  let b := s.buf key
  s.wr R.BPM_BUF_STAT (BitVec.ofNat 32 (result + min b.count 2 * 2 ^ 4 + b2n b.pend * 2 ^ 6 + b.count * 2 ^ 8 +
    b.owner * 2 ^ 16))

/-- BUF_HDL. -/
def State.bufHdl (s : State) : Nat := (s.rd R.BPM_BUF_HDL_LO).toNat + (s.rd R.BPM_BUF_HDL_HI).toNat % 2 ^ 8 * 2 ^ 32

/-- A write of BUF_CMD (R398, R408). -/
def State.opBufCmd (s : State) (v : Word) : State :=
  let hdl := s.bufHdl
  let op := getField v 0 3
  if op = 1 then
    let (c, s1) := s.bufShare hdl (getField v 8 8) (s.fld F.BPM_BUF_ARG_LAST_OWNER) swHolder 1
    s1.showBuf (hdl / 128) c
  else if op = 2 then
    let (c, s1) := s.bufRelease hdl swHolder 2
    s1.showBuf (hdl / 128) c
  else if op = 3 then
    let (c, s1) := s.bufFree hdl swHolder 3
    s1.showBuf (hdl / 128) c
  else if op = 4 then s.showBuf (hdl / 128) 0
  else if op = 5 then
    match (if s.bit F.BPM_BPM_CTL_EN then s.allocPool (v.getLsbD 19) (getField v 16 3) swHolder else (none, s)) with
    | (some key, s1) =>
      let h := s1.handleOf key
      ((s1.wr R.BPM_BUF_HDL_LO (BitVec.ofNat 32 h)).wr R.BPM_BUF_HDL_HI (BitVec.ofNat 32 (h / 2 ^ 32))).showBuf key 0
    | (none, s1) => s1.showBuf (hdl / 128) 7
  else s

/-! ### Configuration (R385, R386, R395) -/

/-- A self-test runs on a target of kind `kind`, and of index `idx` where that is given (R629). -/
def State.testing (s : State) (kind : Nat) (idx : Option Nat) : Bool :=
  s.sys.active && decide (s.sys.kind = kind) && idx.all (fun i => decide (s.sys.index = i))

/-- The bytes of the on-chip pools. -/
def State.onpBytes (s : State) : Nat := ((List.range 8).map (fun k => s.onpCount k * poolSize k)).sum

/-- A write of BPM_CTL (R385, R629). -/
def State.opBpmCtl (s : State) (r : Req) (v : Word) : State :=
  if v.getLsbD 0 ∧ (48 * 2 ^ 20 < s.onpBytes ∨ s.testing 0 none) then s.refuse r R.BPM_BPM_CTL
  else s.store R.BPM_BPM_CTL v

/-- A write of ONP_CNTk (R385). -/
def State.opOnpCnt (s : State) (r : Req) (k : Nat) (v : Word) : State :=
  if s.bit F.BPM_BPM_CTL_EN then s.refuse r (R.BPM_ONP_CNT k) else s.store (R.BPM_ONP_CNT k) v

/-- The bytes of channel `m` that the external flow table takes while it is in use: begin and end (R374, R387). -/
def State.flowSpan (s : State) (m : Nat) : Nat × Nat :=
  let a := s.fld F.CLS_FLOW_EXT_BASE * 2 ^ 28
  let e := a + 2 ^ s.fld F.CLS_FLOW_EXT_LOG_BKT * 256
  if s.bit F.CLS_FLOW_CTL_EXT_EN then (max a (m * 2 ^ 35) - m * 2 ^ 35, min e ((m + 1) * 2 ^ 35) - m * 2 ^ 35) else (0, 0)

/-- Two spans of bytes overlap. -/
def spansMeet (a b : Nat × Nat) : Bool := decide (a.1 < b.2) && decide (b.1 < a.2)

/-- The bytes of channel `m` that a value of EXT_REG names. -/
def regionSpan (v : Word) : Nat × Nat := (getField v 0 10 * 2 ^ 26, (getField v 0 10 + getField v 16 10) * 2 ^ 26)

/-- A write of EXT_REGk_m (R386, R629). -/
def State.opExtReg (s : State) (r : Req) (k m : Nat) (v : Word) : State :=
  let key := R.BPM_EXT_REG (4 * k + m)
  let w := mergeWrite (fieldsAt key) (s.rd key) v
  let sp := regionSpan w
  let moved := decide (getField w 0 10 ≠ getField (s.rd key) 0 10) || decide (getField w 16 10 ≠ getField (s.rd key) 16 10)
  let clash := (List.range 8).any (fun j => decide (j ≠ k) && s.regionOn true j m &&
    spansMeet sp (regionSpan (s.rd (R.BPM_EXT_REG (4 * j + m)))))
  if w.getLsbD 31 ∧ (clash ∨ spansMeet sp (s.flowSpan m) ∨ 2 ^ 35 < sp.2 ∨ s.testing 4 (some m)) then s.refuse r key
  else if moved ∧ (s.regionOn true k m ∨ s.heldKeys true k m ≠ []) then s.refuse r key
  else s.wr key w

/-- Loads the queue-map entry addressed into QMAP_DATA (R230). -/
def State.viewQmap (s : State) : State :=
  let copy := if s.bit F.BPM_QMAP_ADDR_VIEW then s.fld F.BPM_QMAP_CTL_ACTIVE else 1 - s.fld F.BPM_QMAP_CTL_ACTIVE
  s.wr R.BPM_QMAP_DATA (BitVec.ofNat 32 (mapGet 0 s.qmap (copy * 2 ^ 14 + s.fld F.BPM_QMAP_ADDR_QUEUE)))

/-- A write of QMAP_DATA (R395). -/
def State.opQmapData (s : State) (r : Req) (v : Word) : State :=
  if s.bit F.BPM_QMAP_ADDR_VIEW ∨ s.bit F.BPM_QMAP_STAT_BUSY ∨ s.applying P.BPM then s.refuse r R.BPM_QMAP_DATA
  else
    let q := s.fld F.BPM_QMAP_ADDR_QUEUE
    let s1 := { s with qmap := mapPut 0 s.qmap ((1 - s.fld F.BPM_QMAP_CTL_ACTIVE) * 2 ^ 14 + q) (getField v 0 5) }
    (if s.bit F.BPM_QMAP_ADDR_AUTO_INC then s1.setFld F.BPM_QMAP_ADDR_QUEUE (q + 1) else s1).viewQmap

/-- A write of QMAP_CMD: COPY starts (R395). -/
def State.opQmapCmd (s : State) (v : Word) : State := if v.getLsbD 0 then s.setFld F.BPM_QMAP_STAT_BUSY 1 else s

/-- The copy of the active queue map into its shadow completes. -/
def State.copyQmap (s : State) : State :=
  let a := s.fld F.BPM_QMAP_CTL_ACTIVE
  let act := s.qmap.filter (fun e => decide (e.1 / 2 ^ 14 = a))
  let new := act.foldl (fun m e => mapIns m ((1 - a) * 2 ^ 14 + e.1 % 2 ^ 14) e.2) act
  if s.bit F.BPM_QMAP_STAT_BUSY then (({ s with qmap := new }).setFld F.BPM_QMAP_STAT_BUSY 0).viewQmap else s

/-! ### Retirement and withdrawal (R404, R405) -/

/-- The free buffers that lie on a page or bank, over every pool and region. -/
def State.freeOn (s : State) (bank : Bool) (n : Nat) : Nat :=
  ((List.range 8).map (fun k => ((if bank then [0] else List.range 4).map (fun m =>
    ((s.freeKeys (!bank) k m).filter (fun key => s.overlaps key bank n)).length)).sum)).sum

/-- A page or bank leaves the pools (R404). -/
def State.leavePools (s : State) (bank : Bool) (n : Nat) : State :=
  let s1 := s.bumpBy R.BPM_CNT_RETIRED_BUF (s.freeOn bank n)
  if bank then { s1 with ecc := { s1.ecc with banks := n :: s1.ecc.banks } }
  else { s1 with ecc := { s1.ecc with pages := n :: s1.ecc.pages } }

/-- The held buffers of a withdrawn channel become dead (R405). -/
def State.killBuffers (s : State) (m : Nat) : State :=
  let kill := fun (e : Nat × Buf) =>
    if keyExt e.1 ∧ keyChan e.1 = m ∧ e.2.count ≠ 0 then (e.1, { e.2 with dead := true }) else e
  ({ s with bufs := s.bufs.map kill }).fire P.BPM E.BPM_EXT_LOST

/-- The free dead buffers of a channel return to service once it has been trained again (R405). -/
def State.reviveBuffers (s : State) (m : Nat) : State :=
  (mapKeys s.bufs).foldl (fun t key =>
    if keyExt key ∧ keyChan key = m ∧ (t.buf key).count = 0 then t.setBuf key { t.buf key with dead := false } else t) s

/-! ### Reads -/

/-- The computed registers of page BPM. -/
def readBPM (s : State) (o : Nat) : Option Word :=
  let ext := s.bit F.BPM_POOL_SEL_EXT
  let k := s.fld F.BPM_POOL_SEL_POOL
  let m := if ext then s.fld F.BPM_POOL_SEL_CHAN else 0
  let free := (s.freeKeys ext k m).length
  let held := (s.heldKeys ext k m).length
  if o = 0x080 then some (BitVec.ofNat 32 (free + 2 ^ 31))
  else if o = 0x084 then some (BitVec.ofNat 32 held)
  else if o = 0x088 then some (BitVec.ofNat 32 (s.regionCount ext k m - free - held))
  else if 0x200 ≤ o ∧ o < 0x280 then
    some (s.rd (P.BPM * 0x1000 + o) ||| BitVec.ofNat 32 (b2n (s.withdrawn (o / 4 % 4)) * 2 ^ 30))
  else none

/-! ### Commands -/

/-- BUF_SHARE (R398). -/
def execBufShare (r : Req) (v : Word) (s : State) : Res :=
  .next (s.access r R.BPM_BUF_CMD true (fun t => t.opBufCmd (setField v 0 3 1)))

/-- BUF_RELEASE (R398). -/
def execBufRelease (r : Req) (v : Word) (s : State) : Res :=
  .next (s.access r R.BPM_BUF_CMD true (fun t => t.opBufCmd (setField v 0 3 2)))

/-- BUF_FREE (R398). -/
def execBufFree (r : Req) (v : Word) (s : State) : Res :=
  .next (s.access r R.BPM_BUF_CMD true (fun t => t.opBufCmd (setField v 0 3 3)))

/-- BUF_QUERY (R408). -/
def execBufQuery (r : Req) (v : Word) (s : State) : Res :=
  .next (s.access r R.BPM_BUF_CMD true (fun t => t.opBufCmd (setField v 0 3 4)))

/-- BUF_ALLOC (R408). -/
def execBufAlloc (r : Req) (v : Word) (s : State) : Res :=
  .next (s.access r R.BPM_BUF_CMD true (fun t => t.opBufCmd (setField v 0 3 5)))

/-- BPM_ENABLE (R385): a write of BPM_CTL. -/
def execBpmEnable (r : Req) (v : Word) (s : State) : Res :=
  .next (s.access r R.BPM_BPM_CTL true (fun t => t.opBpmCtl r v))

/-- ONP_CNT_WRITE (R385). -/
def execOnpCntWrite (r : Req) (k : Fin 8) (v : Word) (s : State) : Res :=
  .next (s.access r (R.BPM_ONP_CNT k.val) true (fun t => t.opOnpCnt r k.val v))

/-- EXT_REG_WRITE (R386). -/
def execExtRegWrite (r : Req) (k : Fin 8) (m : Chan) (v : Word) (s : State) : Res :=
  .next (s.access r (R.BPM_EXT_REG (4 * k.val + m.val)) true (fun t => t.opExtReg r k.val m.val v))

/-- QMAP_DATA_WRITE (R395). -/
def execQmapDataWrite (r : Req) (v : Word) (s : State) : Res :=
  .next (s.access r R.BPM_QMAP_DATA true (fun t => t.opQmapData r v))

/-- QMAP_COPY (R395). -/
def execQmapCopy (r : Req) (v : Word) (s : State) : Res :=
  .next (s.access r R.BPM_QMAP_CMD true (fun t => t.opQmapCmd (v ||| 1)))

end Sys2Proof.Machine
end

