-- ==== Sys2Proof/Machine/Sched.lean ====
section
/-! DEFINITION. Chapter 13: enqueueing, the turns of the schedulers, shapers, policers and gate lists (R445-R476). -/

namespace Sys2Proof.Machine

open Sys2Proof

/-! ### Queues (R446, R447) -/

/-- A dropped packet's buffer is let go by its queue (R400). -/
def State.dropHeld (s : State) (p : Pkt) : State :=
  match p.hdl with
  | some h => s.letGo h p.queue
  | none => s

/-- The byte depth in KiB, rounded up (Q_DEPTH). -/
def State.depthKib (s : State) (q : Nat) : Nat := (s.depth q + 1023) / 1024

/-- A packet joins the tail of its queue, or is dropped (R447). -/
def State.enqueue (s : State) (p : Pkt) : State :=
  let q := p.queue
  let lim := s.ent (F.SCH_Q_LIM_LIM_KIB q)
  if s.ent (F.SCH_Q_LEN_MAX_LEN q) < p.len then
    (((s.bump (R.SCH_Q_DROP q)).bump R.SCH_CNT_MAXLEN).fire P.SCH E.SCH_MAXLEN).dropHeld p
  else if lim ≠ 0 ∧ lim * 1024 < s.depth q + p.len then
    (((s.bump (R.SCH_Q_DROP q)).bump R.SCH_CNT_QFULL).fire P.SCH E.SCH_QFULL).dropHeld p
  else
    let s1 := (s.setQueue q (s.queue q ++ [p])).bump64 R.SCH_CNT_ENQ_LO R.SCH_CNT_ENQ_HI 1
    if s1.fld (F.SCH_Q_HWM_KIB q) < s1.depthKib q then s1.setFld (F.SCH_Q_HWM_KIB q) (s1.depthKib q) else s1

/-- The packets of a queue that no scheduler has selected. -/
def State.waiting (s : State) (q : Nat) : List Pkt := (s.queue q).filter (fun p => !p.sel)

/-- Marks a packet of a queue as selected. -/
def State.markSelected (s : State) (q id : Nat) : State :=
  s.setQueue q ((s.queue q).map (fun p => if p.id = id then { p with sel := true } else p))

/-- A packet leaves its queue's depth, and the queue lets go of its buffer (R291, R400). -/
def State.leaveQueue (s : State) (p : Pkt) : State :=
  (s.setQueue p.queue ((s.queue p.queue).filter (fun x => decide (x.id ≠ p.id)))).dropHeld p

/-- A packet leaves its queue after sending, and counts in Q_TX. -/
def State.sentFrom (s : State) (p : Pkt) : State :=
  (s.leaveQueue p).bump64 (R.SCH_Q_TX_LO p.queue) (R.SCH_Q_TX_HI p.queue) 1

/-- The heads of a queue that lie in dead buffers are discarded (R405). -/
def State.dropDead (s : State) (q : Nat) : Nat → State
  | 0 => s
  | n + 1 =>
    match (s.waiting q).head? with
    | some p =>
      match p.hdl with
      | some h => if (s.buf (h / 128)).dead then ((s.leaveQueue p).bump R.BPM_CNT_DEAD).dropDead q n else s
      | none => s
    | none => s

/-! ### Turns (R454) -/

/-- The state of the turns of scheduler `sch` at priority `pri`. -/
def State.turn (s : State) (sch pri : Nat) : Turn := mapGet ⟨16383, 0⟩ s.turns (sch * 8 + pri)

/-- Replaces the state of the turns. -/
def State.setTurn (s : State) (sch pri : Nat) (t : Turn) : State :=
  { s with turns := mapPut ⟨16383, 0⟩ s.turns (sch * 8 + pri) t }

/-- The turn passes from a queue that is not eligible at a decision, at every priority. -/
def State.passTurns (s : State) (sch : Nat) (el : List Nat) : State :=
  (List.range 8).foldl (fun t pri =>
    let x := t.turn sch pri
    if x.count ≠ 0 ∧ ¬ el.contains x.queue then t.setTurn sch pri { x with count := 0 } else t) s

/-- A scheduler chooses among its eligible queues, given in ascending order (R454). -/
def State.choose (s : State) (sch : Nat) (el : List Nat) : Option Nat × State :=
  let s1 := s.passTurns sch el
  match (List.range 8).find? (fun pri => el.any (fun q => decide (s.ent (F.SCH_Q_CFG_PRIO q) = pri))) with
  | none => (none, s1)
  | some pri =>
    let cs := el.filter (fun q => decide (s.ent (F.SCH_Q_CFG_PRIO q) = pri))
    let x := s1.turn sch pri
    if cs.contains x.queue ∧ x.count ≠ 0 ∧ x.count < max 1 (s.ent (F.SCH_Q_CFG_WEIGHT x.queue)) then
      (some x.queue, s1.setTurn sch pri { x with count := x.count + 1 })
    else
      match (cs.find? (fun q => decide (x.queue < q))).or cs.head? with
      | some q => (some q, s1.setTurn sch pri ⟨q, 1⟩)
      | none => (none, s1)

/-- Records which queues of a scheduler were eligible at a decision (Q_STAT.ELIGIBLE). -/
def State.noteEligible (s : State) (qs el : List Nat) : State :=
  { s with elig := qs.foldl (fun m q => mapPut false m q (el.contains q)) s.elig }

/-! ### Shapers (R456-R461) -/

/-- The credit that a rate adds to `c` since its last update, capped (R456). -/
def Credit.now (x : Credit) (rate burst t : Nat) : Int :=
  min ((max 1 burst * secUnits : Nat) : Int) (x.c + ((rate * (t - x.at_) : Nat) : Int))

/-- The credit of shaper `n` now. -/
def State.shaperNow (s : State) (n : Nat) : Int :=
  (mapGet {} s.shapers n).now (s.ent (F.SHP_SHAPER_RATE_RATE n)) (s.ent (F.SHP_SHAPER_CFG_BURST n)) s.clock.flow

/-- Shaper `n` is in use. -/
def State.shaperOn (s : State) (n : Nat) : Bool :=
  s.bit F.SHP_SHP_CTL_EN && decide (s.ent (F.SHP_SHAPER_CFG_EN n) = 1)

/-- A decision consults shaper `n`, which brings its credit up to date (R456). -/
def State.consult (s : State) (n : Nat) : State :=
  if s.shaperOn n then { s with shapers := mapPut {} s.shapers n ⟨s.shaperNow n, s.clock.flow⟩ } else s

/-- Shaper `n` permits a selection (R450, R457). -/
def State.shaperPermits (s : State) (n : Nat) : Bool := !s.shaperOn n || decide (0 < s.shaperNow n)

/-- A selection takes one packet of credit (R457). -/
def State.takeCredit (s : State) (n : Nat) : State :=
  if s.shaperOn n then
    { s with shapers := mapPut {} s.shapers n ⟨s.shaperNow n - (secUnits : Nat), s.clock.flow⟩ }
  else s

/-- Sets shaper `n` under R460, with the values now in effect. -/
def State.setShaper (s : State) (n : Nat) : State :=
  let c : Int := if s.ent (F.SHP_SHAPER_CFG_RESET_MODE n) = 1 then ((max 1 (s.ent (F.SHP_SHAPER_CFG_BURST n)) * secUnits : Nat) : Int) else 0
  if s.bit F.SHP_SHP_CTL_EN then ({ s with shapers := mapPut {} s.shapers n ⟨c, s.clock.flow⟩ }).bump R.SHP_CNT_RESET else s

/-- The shapers whose configuration is not the reset value. -/
def State.shapersListed (s : State) : List Nat :=
  let ks := mapKeys s.regs ++ (s.cmt.slots.toList.map (fun x => mapKeys x.writes)).flatten
  ((ks.filter (fun k => decide (pageOf k = P.SHP) && decide (ofsOf k = 0x050))).map (fun k => k / 0x100000 - 1)).dedup

/-- A write of SHP_CTL (R460). -/
def State.opShpCtl (s : State) (v : Word) : State :=
  let s1 := s.store R.SHP_SHP_CTL v
  if ¬ v.getLsbD 0 then { s1 with shapers := [] }
  else if s.bit F.SHP_SHP_CTL_EN then s1
  else (s1.shapersListed.filter s1.shaperOn).foldl State.setShaper s1

/-! ### Policers (R462-R464) -/

/-- Policer `n` meets a packet in pipeline `pipe`: whether the packet passes, and the state. -/
def State.policer (s : State) (pipe : Fin 4) (n : Nat) : Bool × State :=
  let f := fun x => s.cfgFld (.stage pipe .police) x
  let pass := fun (t : State) => (true, t.bump64 (R.POL_P_PASS_LO n) (R.POL_P_PASS_HI n) 1)
  if ¬ s.bit F.POL_POL_CTL_EN ∨ f (F.POL_POL_CFG_EN n) = 0 then pass s
  else
    let c := (mapGet {} s.policers n).now (f (F.POL_POL_RATE_RATE n)) (f (F.POL_POL_CFG_BURST n)) s.clock.flow
    if (secUnits : Int) ≤ c then pass { s with policers := mapPut {} s.policers n ⟨c - (secUnits : Nat), s.clock.flow⟩ }
    else
      (false, (({ s with policers := mapPut {} s.policers n ⟨c, s.clock.flow⟩ }).bump (R.POL_P_DROP n)).bump
        R.POL_CNT_POL_DROP)

/-- Sets policer `n` under R464, with the configuration word `cfg`. -/
def State.setPolicer (s : State) (n : Nat) (cfg : Word) : State :=
  let c : Int := if getField cfg 1 1 = 1 then ((max 1 (getField cfg 16 15) * secUnits : Nat) : Int) else 0
  { s with policers := mapPut {} s.policers n ⟨c, s.clock.flow⟩ }

/-! ### Gate lists (R465-R469) -/

/-- Bit `l` of GATE_ACT as a field. -/
def gateBit (l : Nat) : Fld := if l < 32 then ⟨R.GAT_GATE_ACT_LO, l, 1⟩ else ⟨R.GAT_GATE_ACT_HI, l - 32, 1⟩

/-- The active copy of a lane: the new one once its switch has happened (R468). -/
def State.gateCopy (s : State) (l : Fin 48) : Nat := s.cfgFld (.lane l) (gateBit l.val)

/-- A copy of a lane's list. -/
def State.gateList (s : State) (l copy : Nat) : GateList := mapGet {} s.gates (l * 2 + copy)

/-- An entry of a list. -/
def GateList.entry (g : GateList) (k : Nat) : Nat × BitVec 16 := mapGet (1, BitVec.allOnes 16) g.entries k

/-- The parts of a cycle from entry `k` at `pos` on, as length and gates: the last entry lasts until the cycle ends, an
entry that would run past it is cut (R465). -/
def GateList.partsFrom (g : GateList) : Nat → Nat → Nat → List (Nat × BitVec 16)
  | 0, _, _ => []
  | n + 1, k, pos =>
    if g.cycle ≤ pos then []
    else
      let (iv, gs) := g.entry k
      let len := if n = 0 then g.cycle - pos else min iv (g.cycle - pos)
      (len, gs) :: g.partsFrom n (k + 1) (pos + len)

/-- The parts of a cycle. -/
def GateList.parts (g : GateList) : List (Nat × BitVec 16) := g.partsFrom g.len 0 0

/-- Where a list stands at time `t` ns: the position in its cycle. -/
def GateList.posAt (g : GateList) (t : Nat) : Nat := (t + g.cycle - g.phase % g.cycle) % g.cycle

/-- The number of the part in force at a position. -/
def partAt : List (Nat × BitVec 16) → Nat → Nat
  | [], _ => 0
  | (len, _) :: ps, pos => if pos < len then 0 else 1 + partAt ps (pos - len)

/-- The gates at a position of the parts of a cycle. -/
def gatesAt : List (Nat × BitVec 16) → Nat → BitVec 16
  | [], _ => BitVec.allOnes 16
  | (len, gs) :: ps, pos => if pos < len then gs else gatesAt ps (pos - len)

/-- Gate `q` stays open over the parts `ps` for `tx` ns, the first `skip` ns having passed. -/
def openOver (q : Nat) : List (Nat × BitVec 16) → Nat → Nat → Bool
  | [], _, _ => true
  | (len, gs) :: ps, skip, tx =>
    if tx = 0 then true
    else if len ≤ skip then openOver q ps (skip - len) tx
    else gs.getLsbD q && openOver q ps 0 (tx - (len - skip))

/-- Gate `q` is open from time `t` for `tx` ns: over the rest of the cycle and whole cycles after it, of which one
suffices. -/
def GateList.openFor (g : GateList) (q t tx : Nat) : Bool :=
  decide (g.len = 0) || openOver q (g.parts ++ g.parts) (g.posAt t) tx

/-- Time of the next cycle start of a list after `t`. -/
def GateList.nextStart (g : GateList) (t : Nat) : Nat := t + (g.cycle - g.posAt t)

/-- A switch of the lane's list is pending: the copy that it switches to (R468). -/
def State.gatePending (s : State) (l : Fin 48) : Option Nat :=
  let f := gateBit l.val
  match (List.finRange 4).find? (fun i =>
      let x := s.cmt.slots[i]
      decide (x.st = .applying) && x.pages.contains P.GAT && !x.switched.contains (.lane l) && (mapKeys x.writes).contains f.key) with
  | some i =>
    let n := getField (mapGet 0 s.cmt.slots[i].writes f.key) f.lo 1
    if n = s.fld f then none else some n
  | none => none

/-- Nanoseconds of device time that the gate schedule of a lane has reached (R465, R470). -/
def State.nowNs (s : State) (l : Fin 48) : Nat := ((s.clock.fab - s.lanes[l].lag) / 65536).toNat

/-- The gate check of R466 over the list in force, and over the new list after a pending switch (R468). -/
def State.gateOpen (s : State) (l : Fin 48) (q tx : Nat) : Bool :=
  let t := s.nowNs l
  let g := s.gateList l.val (s.gateCopy l)
  match s.gatePending l with
  | none => g.openFor q t tx
  | some c =>
    let sw := if g.len = 0 then t else g.nextStart t
    let n := s.gateList l.val c
    if t + tx ≤ sw then g.openFor q t tx else g.openFor q t (sw - t) && n.openFor q sw (t + tx - sw)

/-- The longest run of open parts. -/
def longestRun (q : Nat) : List (Nat × BitVec 16) → Nat → Nat → Nat
  | [], run, best => max run best
  | (len, gs) :: ps, run, best =>
    if gs.getLsbD q then longestRun q ps (run + len) best else longestRun q ps 0 (max run best)

/-- The limit of R467 on the transmission time of queue `q`: none where its gate is always open or never opens. -/
def GateList.limit (g : GateList) (q : Nat) : Option Nat :=
  let ps := g.parts
  if ps.all (fun p => p.2.getLsbD q) ∨ ps.all (fun p => !p.2.getLsbD q) then none
  else some (longestRun q (ps ++ ps) 0 0)

/-- Loads the list entry that requester `q` has selected into its view registers (R230, R473). -/
def State.viewGate (s : State) (q : Nat) : State :=
  let l := s.fld (F.GAT_G_SEL_LANE q)
  let a := s.fld (gateBit l)
  let g := s.gateList l (if s.bit (F.GAT_G_SEL_VIEW q) then a else 1 - a)
  let e := g.entry (s.fld (F.GAT_G_SEL_ENTRY q))
  ((((s.wr (idxKey R.GAT_G_ENTRY_LO q) (BitVec.ofNat 32 e.1)).wr (idxKey R.GAT_G_ENTRY_HI q) (e.2.setWidth 32)).wr
    (idxKey R.GAT_G_LIST q) (BitVec.ofNat 32 g.len)).wr (idxKey R.GAT_G_CYCLE q) (BitVec.ofNat 32 g.cycle)).wr
    (idxKey R.GAT_G_PHASE q) (BitVec.ofNat 32 g.phase)

/-- The lists of a lane have changed: every requester that has selected it sees its entry anew, but one that holds an interval written
and not yet stored; `g` is the shadow before (R472, R473). -/
def State.viewGates (s : State) (l : Nat) (g : GateList) : State :=
  (List.range 10).foldl (fun (t : State) q =>
    if t.fld (F.GAT_G_SEL_LANE q) = l ∧ (t.rd (idxKey R.GAT_G_ENTRY_LO q)).toNat = (g.entry (t.fld (F.GAT_G_SEL_ENTRY q))).1 then
      t.viewGate q else t) s

/-- A write of G_ENTRY_HI, G_LIST, G_CYCLE or G_PHASE goes to the shadow copy (R469). -/
def State.opGateShadow (s : State) (r : Req) (a : Nat) (v : Word) : State :=
  let q := reqNum r
  let l := s.fld (F.GAT_G_SEL_LANE q)
  if s.bit (F.GAT_G_SEL_VIEW q) ∨ s.gateBusy.any (fun x => decide (x.val = l)) ∨ s.applying P.GAT then s.refuse r a
  else
    let k := l * 2 + (1 - s.fld (gateBit l))
    let g := mapGet {} s.gates k
    let w := (mergeWrite (fieldsAt a) 0 v).toNat
    let e := s.fld (F.GAT_G_SEL_ENTRY q)
    let lo := (s.rd (idxKey R.GAT_G_ENTRY_LO q)).toNat
    let put := fun (x : GateList) => ({ s with gates := mapPut {} s.gates k x }).viewGates l g
    if a = R.GAT_G_ENTRY_HI then
      let s1 := put { g with entries := mapPut (1, BitVec.allOnes 16) g.entries e (lo, BitVec.ofNat 16 w) }
      (if s.bit (F.GAT_G_SEL_AUTO_INC q) then s1.setFld (F.GAT_G_SEL_ENTRY q) (e + 1) else s1).viewGate q
    else if a = R.GAT_G_LIST then (put { g with len := w }).viewGate q
    else if a = R.GAT_G_CYCLE then (put { g with cycle := w }).viewGate q
    else (put { g with phase := w }).viewGate q

/-- A write of G_ENTRY_LO is held until G_ENTRY_HI is written. -/
def State.opGateEntryLo (s : State) (r : Req) (v : Word) : State := s.store (idxKey R.GAT_G_ENTRY_LO (reqNum r)) v

/-- A write of G_CMD: COPY starts for the lane selected (R469). -/
def State.opGateCmd (s : State) (r : Req) (v : Word) : State :=
  if v.getLsbD 0 then
    { s with gateBusy := (Fin.ofNat 48 (s.fld (F.GAT_G_SEL_LANE (reqNum r))) :: s.gateBusy).dedup }
  else s

/-- The copy of a lane's active list into its shadow completes. -/
def State.copyGate (s : State) (l : Fin 48) : State :=
  let a := s.fld (gateBit l.val)
  if s.gateBusy.contains l then
    (List.range 10).foldl (fun (t : State) q => if t.fld (F.GAT_G_SEL_LANE q) = l.val then t.viewGate q else t)
      { s with gates := mapPut {} s.gates (l.val * 2 + (1 - a)) (s.gateList l.val a),
               gateBusy := s.gateBusy.filter (fun x => decide (x ≠ l)) }
  else s

/-! ### Registers -/

/-- A write of Q_CMD (R446). -/
def State.opQCmd (s : State) (r : Req) (v : Word) : State :=
  let s1 := if v.getLsbD 0 then s.wr (R.SCH_Q_HWM (s.fld (F.SCH_Q_SEL_QUEUE (reqNum r)))) 0 else s
  if v.getLsbD 1 then
    { s1 with regs := mapFilter (fun k => !(decide (pageOf k = P.SCH) && decide (ofsOf k = 0x060))) s1.regs }
  else s1

/-- The computed registers of page SCH but Q_STAT. -/
def readSCH (s : State) (r : Req) (o : Nat) : Option Word :=
  let q := s.fld (F.SCH_Q_SEL_QUEUE (reqNum r))
  if o = 0x058 then some (BitVec.ofNat 32 (s.depthKib q))
  else if o = 0x05C then some (BitVec.ofNat 32 (s.queue q).length)
  else none

/-- A credit as S_CREDIT and P_CREDIT show it, in units of 2^-16 packet. -/
def Credit.shown (x : Credit) : Word := BitVec.ofInt 32 (x.c / 1000000000)

/-- The computed registers of page SHP. -/
def readSHP (s : State) (r : Req) (o : Nat) : Option Word :=
  let x := mapGet {} s.shapers (s.fld (F.SHP_S_SEL_SHAPER (reqNum r)))
  if o = 0x048 then some (BitVec.ofNat 32 (1 + b2n (0 < x.c) * 2 + b2n (x.c < 0) * 4))
  else if o = 0x054 then some x.shown
  else none

/-- The computed registers of page POL. -/
def readPOL (s : State) (r : Req) (o : Nat) : Option Word :=
  if o = 0x054 then some (mapGet {} s.policers (s.fld (F.POL_P_SEL_POLICER (reqNum r)))).shown else none

/-- The computed registers of page GAT. -/
def readGAT (s : State) (r : Req) (o : Nat) : Option Word :=
  let l : Fin 48 := Fin.ofNat 48 (s.fld (F.GAT_G_SEL_LANE (reqNum r)))
  let g := s.gateList l.val (s.gateCopy l)
  let pos := g.posAt (s.nowNs l)
  if o = 0x04C then some (BitVec.ofNat 32 (1 + b2n (s.gateBusy.contains l) * 2 + b2n (s.gatePending l).isSome * 4))
  else if o = 0x068 then
    some (BitVec.ofNat 32 ((if g.len = 0 then 0 else partAt g.parts pos) + s.gateCopy l * 2 ^ 8 +
      (if g.len = 0 then 0xFFFF else (gatesAt g.parts pos).toNat) * 2 ^ 16))
  else none

/-! ### Commands -/

/-- GATE_SHADOW_WRITE (R469). -/
def execGateShadowWrite (r : Req) (a : Addr) (v : Word) (s : State) : Res :=
  if gateShadows.contains a.toNat then
    .next (s.access r a.toNat true (fun t => t.opGateShadow r a.toNat v))
  else .fault .illFormed

/-- GATE_COPY (R469). -/
def execGateCopy (r : Req) (v : Word) (s : State) : Res :=
  .next (s.access r R.GAT_G_CMD true (fun t => t.opGateCmd r (v ||| 1)))

/-- HWM_CLR (R446). -/
def execHwmClr (r : Req) (v : Word) (s : State) : Res :=
  .next (s.access r R.SCH_Q_CMD true (fun t => t.opQCmd r (v ||| 1)))

/-- HWM_CLR_ALL (R446). -/
def execHwmClrAll (r : Req) (v : Word) (s : State) : Res :=
  .next (s.access r R.SCH_Q_CMD true (fun t => t.opQCmd r (v ||| 2)))

/-- SHP_ENABLE (R460): a write of SHP_CTL with EN. -/
def execShpEnable (r : Req) (v : Word) (s : State) : Res :=
  .next (s.access r R.SHP_SHP_CTL true (fun t => t.opShpCtl (v ||| 1)))

end Sys2Proof.Machine
end

