-- ==== Sys2Proof/Machine/Memory.lean ====
section
/-! DEFINITION. Chapter 12: error correction, records, retirement, the fill engine, the scrubber, encryption (R410-R444). -/

namespace Sys2Proof.Machine

open Sys2Proof

/-! ### Places and records (R411, R427) -/

/-- DDR5 channel `m`. -/
def State.ch (s : State) (m : Chan) : MemCh := s.memch[m]

/-- Replaces DDR5 channel `m`. -/
def State.setCh (s : State) (m : Chan) (c : MemCh) : State := { s with memch := s.memch.set m c }

/-- Where a line or code word stands in the memory of the model. -/
def placeAddr : MemPlace → Nat
  | .ext ch idx => extBase + (ch.val * 2 ^ 29 + idx) * 64
  | .chip mem idx => Config.chipAddr mem.toNat idx.toNat

/-- SRC of a memory error record. -/
def userNum : MemUser → Nat
  | .req r => reqNum r
  | .datapath => 16
  | .scrub => 17
  | .fill => 18
  | .rekey => 19

/-- ADDR of a record about a place. -/
def placeNum : MemPlace → Nat
  | .ext ch idx => ch.val * 2 ^ 29 + idx
  | .chip mem idx => mem.toNat * 2 ^ 24 + idx.toNat

/-- Byte 2 of a record about a place: channel, rank, bank. -/
def placeByte2 : MemPlace → Byte
  | .ext ch idx => BitVec.ofNat 8 (ch.val * 64) ||| (Config.rankBank (ch.val * 2 ^ 29 + idx)).setWidth 8
  | .chip _ _ => 0

/-- The page that a record about a place in error names: the channel's, or ECC (R691). -/
def placePage : MemPlace → Nat
  | .ext ch _ => 0x43 + ch.val
  | .chip _ _ => P.ECC

/-- Writes a memory error record (R427): the body shows in LAST and enters the error log. -/
def State.memRecord (s : State) (page kind src : Nat) (b2 : Byte) (cw addr synd sym arg : Nat) : State :=
  let t := s.deviceTime false
  let body := [BitVec.ofNat 8 kind, BitVec.ofNat 8 src, b2, BitVec.ofNat 8 cw] ++ toBytesBE 4 addr ++ toBytesBE 4 synd ++
    [BitVec.ofNat 8 sym, BitVec.ofNat 8 arg, 0, 0] ++ toBytesBE 4 (secOf t) ++ toBytesBE 4 (nsOf t)
  { s with ecc := { s.ecc with last := body } }.makeRecord 1 page body

/-- A record of kind `kind` about a place. -/
def State.placeRecord (s : State) (page kind : Nat) (u : MemUser) (pl : MemPlace) (cw synd sym : Nat) : State :=
  s.memRecord page kind (userNum u) (placeByte2 pl) cw (placeNum pl) synd sym 0

/-- An access to a memory ends with a bus error: a control core takes an access fault with its address (R543, R547); a host's
is counted in HIF (R640, log entry 27). -/
def State.memBusError (s : State) (u : MemUser) (pl : MemPlace) (read : Bool) : State :=
  match u with
  | .req (.core n) => s.coreFault n (if read then 5 else 7) (placeAddr pl)
  | .req r => s.busError r (placePage pl * 0x1000) read 2
  | _ => s

/-! ### Correctable errors (R415, R428) -/

/-- The page or bank of a place that tracking names: a bank only where the code word lies in one; not a retired one
(R430). -/
def State.trackPlace (s : State) (pl : MemPlace) : Option (Bool × Nat) :=
  match pl with
  | .ext ch idx =>
    let p := (ch.val * 2 ^ 29 + idx) / 64
    if s.ecc.pages.contains p then none else some (false, p)
  | .chip mem idx =>
    match Config.bankOf mem.toNat idx.toNat with
    | some b => if s.ecc.banks.contains b then none else some (true, b)
    | none => none

/-- The entry that gives way: the lowest count, and the older of equal ones. -/
def trackVictim (ts : List Track) : Option Nat :=
  (List.range ts.length).find? (fun i => ts.all (fun y =>
    match ts[i]? with
    | some x => decide (x.count < y.count) || (decide (x.count = y.count) && decide (x.born ≤ y.born))
    | none => false))

/-- Adds a correctable error to the tracking table (R428). -/
def State.trackCe (s : State) (u : MemUser) (pl : MemPlace) (cw synd sym : Nat) : State :=
  match s.trackPlace pl with
  | none => s
  | some (bank, page) =>
    let ts := s.ecc.track
    match ts.findIdx? (fun x => (x.bank == bank) && decide (x.page = page)) with
    | some i =>
      let n := (ts.getD i ⟨bank, page, 0, 0⟩).count + 1
      let put := fun (t : State) (c : Nat) =>
        { t with ecc := { t.ecc with track := t.ecc.track.modify i (fun x => { x with count := c }) } }
      if s.fld F.ECC_CE_CFG_THR ≤ n then
        (((put s 0).placeRecord P.ECC 3 u pl cw synd sym).bump R.ECC_CNT_CE_REPEAT).fire P.ECC E.ECC_CE_REPEAT
      else put s n
    | none =>
      let x : Track := ⟨bank, page, 1, s.ecc.born⟩
      let ts' := if ts.length < 64 then ts ++ [x] else
        match trackVictim ts with
        | some i => ts.set i x
        | none => ts
      { s with ecc := { s.ecc with track := ts', born := s.ecc.born + 1 } }

/-- A correctable error: counted, written back (external lines count it), tracked (R415). -/
def State.memCe (s : State) (u : MemUser) (pl : MemPlace) (cw synd sym : Nat) : State :=
  let s1 := match pl with
    | .ext ch idx => ((s.bump (R.MEM_CNT_CE ch.val)).bump (R.MEM_CNT_WB ch.val)).dramWrite ch idx
    | .chip _ _ => s.bump R.ECC_CNT_ON_CE
  s1.trackCe u pl cw synd sym

/-! ### Uncorrectable errors, reads above the eave line (R416, R423, R429) -/

/-- An uncorrectable error: counted and raised; recorded once for each line or word, and again by each scrub pass
(R429). -/
def State.memUe (s : State) (u : MemUser) (pl : MemPlace) (cw synd : Nat) : State :=
  let s1 := match pl with
    | .ext ch _ => s.bump (R.MEM_CNT_UE ch.val)
    | .chip _ _ => s.bump R.ECC_CNT_ON_UE
  let s2 := if s.ecc.ueSeen.contains pl ∧ u ≠ .scrub then s1
    else
      let t := s1.placeRecord (placePage pl) (match pl with | .ext _ _ => 2 | .chip _ _ => 5) u pl cw synd 0xFF
      { t with ecc := { t.ecc with ueSeen := (pl :: t.ecc.ueSeen).dedup } }
  match pl with
  | .ext ch _ => s2.fire (0x43 + ch.val) E.MEM_UE
  | .chip _ _ => s2.fire P.ECC E.ECC_ON_UE

/-- A read at or above the eave line is not sent to the memory (R423). -/
def State.aboveEave (s : State) (u : MemUser) (ch : Chan) (idx : Nat) : State :=
  ((s.bump (R.MEM_CNT_ABOVE_EAVE ch.val)).placeRecord (0x43 + ch.val) 7 u (.ext ch idx) 0 0 0xFF).fire (0x43 + ch.val)
    E.MEM_ABOVE_EAVE

/-- A place lies at or above the eave line of its channel. -/
def State.isAbove (s : State) : MemPlace → Bool
  | .ext ch idx => decide ((s.ch ch).eave ≤ idx)
  | .chip _ _ => false

/-- A self-test runs on the memory of a place: a channel, a bank of the packet buffer, a block of the tree memory or the on-chip flow
table (R628, R629). -/
def State.placeTested (s : State) : MemPlace → Bool
  | .ext ch _ => s.testing 4 (some ch.val)
  | .chip mem idx =>
    let a := placeAddr (.chip mem idx)
    (Config.bankOf mem.toNat idx.toNat).any (fun b => s.testing 0 (some b)) ||
      (s.testing 1 none && decide (nodeAddr (s.sys.index * 4096) ≤ a) && decide (a < nodeAddr (s.sys.index * 4096) + 0x10000)) ||
      (s.testing 3 none && decide (flowBase ≤ a) && decide (a < flowBase + 65536 * 64))

/-- What a read finds is counted, tracked, recorded and raised; whether its data may be used. A memory under test gives none (R629). -/
def State.memRead (s : State) (u : MemUser) (pl : MemPlace) (o : EccIn) : Bool × State :=
  if s.placeTested pl then (false, s)
  else if s.isAbove pl ∧ u ≠ .rekey then
    match pl with
    | .ext ch idx => (false, s.aboveEave u ch idx)
    | .chip _ _ => (true, s)
  else
    match eccJudge pl o with
    | .ok => (true, s)
    | .ce cw sym synd => (true, s.memCe u pl cw.toNat synd.toNat sym.toNat)
    | .ue cw synd => (false, s.memUe u pl cw.toNat synd.toNat)

/-! ### Retirement (R430-R434) -/

/-- The list entry of R430. -/
def retEntry (bank : Bool) (n : Nat) : Nat := if bank then 2 ^ 31 + n else n

/-- The place lies in a page or bank. -/
def onPage (pl : MemPlace) (bank : Bool) (n : Nat) : Bool :=
  match pl with
  | .ext ch idx => !bank && decide ((ch.val * 2 ^ 29 + idx) / 64 = n)
  | .chip mem idx => bank && decide (Config.bankOf mem.toNat idx.toNat = some n)

/-- A page or bank is retired in silicon (R430). -/
def State.retireSilicon (s : State) (bank : Bool) (n : Nat) : State :=
  let s1 := s.leavePools bank n
  let e := { s1.ecc with ueSeen := s1.ecc.ueSeen.filter (fun pl => !onPage pl bank n),
                         track := s1.ecc.track.filter (fun x => !((x.bank == bank) && decide (x.page = n))) }
  { s1 with ecc := e }

/-- A retirement is recorded, counted and raised (R430). -/
def State.retireNote (s : State) (bank : Bool) (n src : Nat) : State :=
  ((s.memRecord P.ECC 8 src 0 0 (retEntry bank n) 0 0xFF 0).bump R.ECC_CNT_RETIRED).fire P.ECC E.ECC_RETIRED

/-- Ends a RET_CMD with a result. -/
def State.retResult (s : State) (n : BitVec 3) : State := { s with ecc := { s.ecc with result := n } }

/-- RETIRE of a page or bank (R430, R432, R434). -/
def State.retireCmd (s : State) (bank : Bool) (n src : Nat) : State :=
  if bank ∧ 384 ≤ n then s.retResult 2
  else if (if bank then s.ecc.banks else s.ecc.pages).contains n then s.retResult 1
  else
    let s1 := (s.retireSilicon bank n).retireNote bank n src
    if s.rst.noSfdp then s1.retResult 5
    else if 4096 ≤ s.ecc.list then (s1.retResult 3).fire P.ECC E.ECC_LIST_FULL
    else { s1 with ecc := { s1.ecc with append := true, src := src } }

/-- RET_CMD.RETIRE: the page or bank that RET_ADDR names. -/
def State.retireNamed (s : State) (r : Req) : State :=
  let bank := s.bit F.ECC_RET_ADDR_BANK
  s.retireCmd bank (if bank then s.fld F.ECC_RET_ADDR_PAGE % 512 else s.fld F.ECC_RET_ADDR_PAGE) (reqNum r)

/-- RET_CMD.CLEAR_LIST begins (R433); after POWER_FAIL_N no erase starts (R585, log entry 152). -/
def State.clearBegin (s : State) (r : Req) : State :=
  if s.rst.noSfdp then s.retResult 5
  else if s.log.pf then s.retResult 4
  else { s with ecc := { s.ecc with clear := true, src := reqNum r } }

/-- A write of RET_CMD (R430, R433, R434). While a command is in progress the write is refused before presence is asked for (DESIGN
CHOICE, log entry 130); one that would clear the list without presence is refused whole (R80, R101). -/
def State.opRetCmd (s : State) (r : Req) (v : Word) : State :=
  let k := R.ECC_RET_CMD
  let retire := fun (t : State) => if v.getLsbD 0 then t.retireNamed r else t
  if s.ecc.append ∨ s.ecc.clear then s.refuse r k
  else if v.getLsbD 1 then s.guarded r k (fun t => (retire t).clearBegin r)
  else retire s

/-- The flash part of a RET_CMD ends (R430, R433). ADDR of a record of kind 9 is a free value (log entry 28). -/
def State.retDone (s : State) (ok : Bool) : State :=
  let s1 :=
    if s.ecc.append then
      let e := { s.ecc with append := false, list := if ok then s.ecc.list + 1 else s.ecc.list, result := if ok then 0 else 4 }
      { s with ecc := e }
    else s
  if s.ecc.clear then
    let e := { s1.ecc with clear := false, list := if ok then 0 else s1.ecc.list, result := if ok then 0 else 4 }
    let s2 := { s1 with ecc := e }
    if ok then
      let (w, s3) := s2.freeVal
      s3.memRecord P.ECC 9 s.ecc.src 0 0 w.toNat 0 0xFF 0
    else s2
  else s1

/-- A write of CE_CFG (R428). -/
def State.opCeCfg (s : State) (v : Word) : State :=
  let s1 := s.store R.ECC_CE_CFG v
  if v.getLsbD 8 then { s1 with ecc := { s1.ecc with track := [] } } else s1

/-! ### Channels (R421-R424, R442-R444) -/

/-- Lines of the capacity used (R442). -/
def MemCh.lines (c : MemCh) : Nat := min 32 c.gib * 2 ^ 24

/-- First line of the skip window. -/
def State.skipStart (s : State) (m : Chan) : Nat := s.fld (F.MEM_SKIP_START_START m.val) * 1024

/-- First line past the skip window. -/
def State.skipEnd (s : State) (m : Chan) : Nat := s.fld (F.MEM_SKIP_END_END m.val) * 1024

/-- The skip window is in use. -/
def State.skipOn (s : State) (m : Chan) : Bool := s.bit (F.MEM_SKIP_START_EN m.val)

/-- The fill engine writes or steps over one line (R421, R422). -/
def State.fillStep (s : State) (m : Chan) : State :=
  let c := s.ch m
  if c.st ≠ .up ∨ c.done ∨ s.bit (F.MEM_FILL_CFG_PAUSE m.val) ∨ s.testing 4 (some m.val) then s
  else if c.eave < c.lines then
    let skip := (s.skipOn m && decide (s.skipStart m ≤ c.eave) && decide (c.eave < s.skipEnd m)) ||
      s.ecc.pages.contains ((m.val * 2 ^ 29 + c.eave) / 64)
    let s1 := if skip then s else (s.zeroRange (placeAddr (.ext m c.eave)) 64).dramWrite m c.eave
    let s2 := s1.setCh m { c with eave := c.eave + 1 }
    if c.eave + 1 = c.lines then (s2.setCh m { c with eave := c.eave + 1, done := true }).fire (0x43 + m.val) E.MEM_FILL_DONE
    else s2
  else (s.setCh m { c with done := true }).fire (0x43 + m.val) E.MEM_FILL_DONE

/-- The capacity in GiB that MEM_CTL states: two subchannels of 32 DQ, its device width, density and ranks (R442; DEDUCED, log entry
151). -/
def State.memCap (s : State) (m : Chan) : Nat :=
  2 * (if s.bit (F.MEM_MEM_CTL_WIDTH m.val) then 4 else 8) * (2 + min 2 (s.fld (F.MEM_MEM_CTL_DENS m.val))) *
    (if s.bit (F.MEM_MEM_CTL_RANKS m.val) then 2 else 1)

/-- Training of a channel begins under the MEM_CTL of that moment, or waits for the entropy source of the fabric die (R436); in limp state the channel stays
OFF (R610). -/
def State.startTraining (s : State) (m : Chan) (eyeOnly : Bool) : State :=
  if s.pwr.limp then s
  else if s.mxe.entropyOk then s.setCh m { s.ch m with st := .training, eyeOnly := eyeOnly, want := false, cap := s.memCap m }
  else s.setCh m { s.ch m with eyeOnly := eyeOnly, want := true }

/-- A withdrawn channel counts as passed in a re-keying pass (R439). -/
def State.rkPass (s : State) (m : Chan) : State :=
  { s with mxe := { s.mxe with passed := s.mxe.passed.set m true, ptr := s.mxe.ptr.set m (2 ^ 29) } }

/-- The pass ends when every channel has been passed (R440). -/
def State.rkFinish (s : State) : State :=
  if s.mxe.running ∧ s.mxe.passed.toList.all id then
    let g := s.mxe.kgen + 1
    let x := { s.mxe with running := false, cur := s.mxe.next, next := none, kgen := g, curWrap := s.mxe.nextWrap, nextWrap := false }
    ((({ s with mxe := x }).bump R.MXE_CNT_REKEY).memRecord P.MXE 11 19 0 0 0 0 0xFF (g % 256)).fire P.MXE E.MXE_REKEY_DONE
  else s

/-- Moves the pointer of channel `m` on to the next line that the pass treats, or to the end of the channel (R439). -/
def State.rkAdvance (s : State) (m : Chan) : State :=
  let p := s.mxe.ptr[m]
  let e := (s.ch m).eave
  if ¬ s.mxe.running ∨ s.mxe.passed[m] then s
  else if (s.ch m).st = .withdrawn then s.rkPass m
  else if p < e then s
  else if s.skipOn m ∧ e < s.skipEnd m ∧ p < s.skipEnd m then
    { s with mxe := { s.mxe with ptr := s.mxe.ptr.set m (max p (max e (s.skipStart m))) } }
  else s.rkPass m

/-- A channel is withdrawn (R444): its buffers die, the external flow table is turned off (R381), a re-keying pass passes it. -/
def State.withdraw (s : State) (m : Chan) (step : BitVec 4) (src : Nat) : State :=
  let s1 := (s.setCh m { s.ch m with st := .withdrawn, fail := step, want := false }).killBuffers m.val
  let s2 := (s1.setFld F.CLS_FLOW_CTL_EXT_EN 0).fire P.CLS E.CLS_FLOW_EXT_LOST
  let s3 := s2.memRecord (0x43 + m.val) 10 src (BitVec.ofNat 8 (m.val * 64)) 0 0 0 0xFF step.toNat
  let s4 := ((s3.bump (R.MEM_CNT_TRAIN_FAIL m.val)).fire (0x43 + m.val) E.MEM_TRAIN_FAIL).fire (0x43 + m.val) E.MEM_WITHDRAWN
  (s4.rkAdvance m).rkFinish

/-- Training succeeds: the channel is UP; the fill starts afresh, and its regions return to service, unless only the eyes
were trained again (R443, R444). -/
def State.trained (s : State) (m : Chan) (gib : Nat) : State :=
  let c := s.ch m
  if c.eyeOnly then s.setCh m { c with st := .up, fail := 0, eyeOnly := false }
  else
    (s.setCh m { c with st := .up, fail := 0, gib := min 32 gib, eave := 0, done := false }).reviveBuffers m.val

/-- A write of MEM_CMD (R444). -/
def State.opMemCmd (s : State) (r : Req) (m : Chan) (v : Word) : State :=
  let c := s.ch m
  let k := R.MEM_MEM_CMD m.val
  if s.testing 4 (some m.val) then s.refuse r k
  else
    let s1 :=
      if v.getLsbD 0 then
        (match c.st with
         | .up | .training => s.refuse r k
         | .off | .withdrawn => s.startTraining m false
         | .selfRefresh => s)
      else s
    if v.getLsbD 1 ∧ c.st = .up then s1.withdraw m 0 (reqNum r) else s1

/-- A write of SKIP_START or SKIP_END (R424, R439, log entry 29). -/
def State.opSkip (s : State) (r : Req) (m : Chan) (endReg : Bool) (v : Word) : State :=
  let k := if endReg then R.MEM_SKIP_END m.val else R.MEM_SKIP_START m.val
  let e := (s.ch m).eave
  let oldBad := s.skipOn m && decide (s.skipStart m ≤ e)
  let newBad := !endReg && v.getLsbD 31 && decide (getField v 0 20 * 1024 ≤ e)
  if s.mxe.running ∨ oldBad ∨ newBad then s.refuse r k else s.store k v

/-- A key pair is drawn from the entropy source of the fabric die (R436, R437). -/
def State.drawPair (s : State) : (List Byte × List Byte) × State :=
  ((Config.freeKey s.fresh, Config.freeKey (s.fresh + 1)), { s with fresh := s.fresh + 2 })

/-- The entropy source of the fabric die passes its tests: the current pair of a block that has none is drawn (R436). -/
def State.entropyUp (s : State) : State :=
  let s1 := { s with mxe := { s.mxe with entropyOk := true } }
  if s1.mxe.cur.isSome then s1
  else
    let (k, s2) := s1.drawPair
    { s2 with mxe := { s2.mxe with cur := some k } }

/-- A write of MXE_CMD (R437, R438). -/
def State.opMxeCmd (s : State) (r : Req) (v : Word) : State :=
  let k := R.MXE_MXE_CMD
  let s1 :=
    if v.getLsbD 0 then
      if s.mxe.next = none ∨ s.mxe.running ∨ s.mxe.kgen = 0xFFFF ∨ s.testing 4 none then
        (s.refuse r k).fire P.MXE E.MXE_REKEY_REFUSED
      else
        let x := { s.mxe with running := true, ptr := Vector.replicate 4 0, passed := Vector.replicate 4 false }
        ((List.finRange 4).foldl State.rkAdvance { s with mxe := x }).rkFinish
    else s
  if v.getLsbD 1 then
    if s1.mxe.running then s1.refuse r k
    else
      let (k, s2) := s1.drawPair
      ({ s2 with mxe := { s2.mxe with next := some k, nextWrap := false } }).fire P.MXE E.MXE_NEXT_LOADED
  else s1

/-! ### Scrubbing (R426) -/

/-- Nothing that the scrubber reads lies above a line: the end of an external pass, which goes upward (log entry 25). -/
def State.lastLine (s : State) (m : Chan) (idx : Nat) : Bool :=
  let free := fun (x : Chan) (lo hi : Nat) =>
    (List.range (hi / 64 + 1)).all (fun p => decide (hi ≤ p * 64) || decide (p * 64 + 63 < lo) ||
      s.ecc.pages.contains (x.val * 2 ^ 23 + p))
  free m (idx + 1) (s.ch m).eave && (List.finRange 4).all (fun x => decide (x ≤ m) || free x 0 (s.ch x).eave)

/-- The scrubber reads a place (R426); in Doze it pauses (R602). -/
def State.scrub (s : State) (pl : MemPlace) (o : EccIn) : State :=
  if ¬ s.bit F.ECC_SCRUB_CFG_EN ∨ s.extOff ∨ s.placeTested pl then s
  else
    match pl with
    | .ext ch idx =>
      if s.isAbove pl ∨ s.ecc.pages.contains ((ch.val * 2 ^ 29 + idx) / 64) then s
      else
        let s1 := (s.memRead .scrub pl o).2
        if s.lastLine ch idx then
          (s1.setFld F.ECC_SCRUB_STAT_EXT_PASSES (s1.fld F.ECC_SCRUB_STAT_EXT_PASSES + 1)).fire P.ECC E.ECC_SCRUB_PASS
        else s1
    | .chip mem idx =>
      if (Config.bankOf mem.toNat idx.toNat).any (fun b => s.ecc.banks.contains b) then s
      else
        let s1 := (s.memRead .scrub pl o).2
        if Config.chipLast mem.toNat idx.toNat then
          s1.setFld F.ECC_SCRUB_STAT_ON_PASSES (s1.fld F.ECC_SCRUB_STAT_ON_PASSES + 1)
        else s1

/-! ### Writes and fills (R417, R418, R543, R544) -/

/-- A full-width write stores its data and ends the record of an uncorrectable error (R418, R429). -/
def State.memWrite (s : State) (pl : MemPlace) (data : List Byte) : State :=
  (s.storeBytes (placeAddr pl) data).placeWritten pl

/-- The place behind an address of the core memory map that a cached access of core `n` reaches (R544, R545). -/
def State.corePlace (s : State) (n : Fin 8) (a : Nat) : Option MemPlace :=
  if a < 0x800000 then some (.chip (BitVec.ofNat 8 (Config.chipNum a)) (BitVec.ofNat 24 (a / 16)))
  else if 0x30000000 ≤ a ∧ a < 0x33000000 then
    some (.chip (BitVec.ofNat 8 (Config.chipNum a)) (BitVec.ofNat 24 ((a - 0x30000000) / 16)))
  else if 0x60000000 ≤ a ∧ a < 0x70000000 then
    let l := (s.fld (F.CPU_XWIN_BASE n.val) * 2 ^ 28 + (a - 0x60000000)) / 64
    some (.ext (Fin.ofNat 4 (l / 2 ^ 29)) (l % 2 ^ 29))
  else none

/-- Where the line of a cached address of core `n` stands in the model's memory (R544, R545). -/
def State.coreLine (s : State) (n : Fin 8) (a : Nat) : Nat :=
  (if a < 0x60000000 then a else extBase + s.fld (F.CPU_XWIN_BASE n.val) * 2 ^ 28 + (a - 0x60000000)) / 64 * 64

/-- An uncached range of the core memory map (R544). -/
def coreUncached (a : Nat) : Bool :=
  (decide (0x40000000 ≤ a) && decide (a < 0x40100000)) || (decide (0x50000000 ≤ a) && decide (a < 0x51000000)) ||
    (decide (0x70000000 ≤ a) && decide (a < 0x70000020))

/-- The access-fault cause of a kind of access (R543). -/
def accCause : CoreAcc → Nat
  | .fetch => 1
  | .load => 5
  | .store => 7

/-! ### Reads of registers -/

/-- MEM_STAT.STATE as a number. -/
def MemSt.num : MemSt → Nat
  | .off => 0
  | .training => 1
  | .up => 2
  | .withdrawn => 3
  | .selfRefresh => 4

/-- The computed registers of page MEMm. -/
def readMEM (s : State) (m : Chan) (o : Nat) : Option Word :=
  let c := s.ch m
  if o = 0x048 then some (BitVec.ofNat 32 (c.st.num + c.fail.toNat * 2 ^ 4 + c.gib * 2 ^ 8))
  else if o = 0x04C then some (BitVec.ofNat 32 (c.eave + b2n c.done * 2 ^ 31))
  else none

/-- The computed registers of page ECC. -/
def readECC (s : State) (o : Nat) : Option Word :=
  let e := s.ecc
  if o = 0x054 then some (BitVec.ofNat 32 (e.result.toNat + b2n (e.append || e.clear) * 2 ^ 3 + e.list * 2 ^ 16))
  else if o = 0x05C then
    some (match e.track[s.fld F.ECC_TRACK_SEL_ENTRY]? with
      | some x => BitVec.ofNat 32 (x.page + x.count * 2 ^ 25 + b2n x.bank * 2 ^ 30 + 2 ^ 31)
      | none => 0)
  else if 0x060 ≤ o ∧ o ≤ 0x074 then some (BitVec.ofNat 32 (ofBytesBE ((e.last.drop (o - 0x060)).take 4)))
  else none

/-- The computed registers of page MXE. -/
def readMXE (s : State) (o : Nat) : Option Word :=
  let x := s.mxe
  if o = 0x048 then
    some (BitVec.ofNat 32 (x.kgen + b2n x.next.isSome * 2 ^ 16 + b2n x.nextWrap * 2 ^ 17 + b2n x.curWrap * 2 ^ 18 +
      b2n x.running * 2 ^ 19 + b2n x.entropyOk * 2 ^ 20))
  else if 0x050 ≤ o ∧ o ≤ 0x05C then
    let m : Chan := Fin.ofNat 4 ((o - 0x050) / 4)
    some (BitVec.ofNat 32 (x.ptr[m] % 2 ^ 30 + b2n x.passed[m] * 2 ^ 31))
  else none

/-! ### Commands -/

/-- MEMORY_READ (R416, R423). -/
def execMemoryRead (u : MemUser) (pl : MemPlace) (o : EccIn) (s : State) : Res :=
  match s.memRead u pl o with
  | (true, s1) => .next (s1.reply .done)
  | (false, s1) => .next (s1.memBusError u pl true)

/-- MEMORY_WRITE (R418, R424, R629): a full line or code word; a core's is a write-back of its data cache (R542). -/
def execMemoryWrite (u : MemUser) (pl : MemPlace) (data : List Byte) (s : State) : Res :=
  if data.length = placeSize pl then
    if s.placeTested pl then .next (s.memBusError u pl false) else
    let t := (s.reply .done).memWrite pl data
    .next (match u with | .req (.core n) => t.lineWritten n (placeAddr pl) data | _ => t)
  else .fault .illFormed

/-- NARROW_WRITE (R417). -/
def execNarrowWrite (u : MemUser) (pl : MemPlace) (s : State) : Res :=
  let s1 := match pl with
    | .ext ch _ => s.bump (R.MEM_CNT_NARROW ch.val)
    | .chip _ _ => s.bump R.ECC_CNT_ON_NARROW
  .next (((s1.placeRecord P.ECC 6 u pl 0 0 0xFF).fire P.ECC E.ECC_NARROW).memBusError u pl false)

/-- A cached access of core `n` to the line at `l` behind the place `pl`: a line that the cache holds needs no fill; otherwise it is read,
after a data cache that holds it changed has written it back, and enters the cache, or the access faults (R542, R543). -/
def State.lineFill (s : State) (n : Fin 8) (k : CoreAcc) (a l : Nat) (pl : MemPlace) (o : EccIn) : State :=
  let instr := decide (k = .fetch)
  let s0 := if !instr && coherent l then s.snoop n l else s
  let used := fun (t : State) => (if k = .store then t.storeLine n l else t).reply .done
  if s0.cpu.caches.any (fun x => x.at_ n instr l) then used s0
  else
    match s0.memRead (.req (.core n)) pl o with
    | (true, s1) => used (s1.takeLine n instr l)
    | (false, s1) => s1.coreFault n (accCause k) a

/-- LINE_FILL (R543, R544). -/
def execLineFill (n : Fin 8) (k : CoreAcc) (a : Nat) (o : EccIn) (s : State) : Res :=
  match s.corePlace n a with
  | some pl => .next (s.lineFill n k a (s.coreLine n a) pl o)
  | none => .next (if coreUncached a then s else s.coreFault n (accCause k) a)

/-- FILL_LINE (R421, R422). -/
def execFillLine (ch : Chan) (s : State) : Res := .next (s.fillStep ch)

/-- SCRUB_READ (R426). -/
def execScrubRead (pl : MemPlace) (o : EccIn) (s : State) : Res := .next (s.scrub pl o)

/-- RETIRE (R430). -/
def execRetire (r : Req) (v : Word) (s : State) : Res :=
  .next (s.access r R.ECC_RET_CMD true (fun t => t.opRetCmd r (v ||| 1)))

/-- CLEAR_LIST (R433). -/
def execClearList (r : Req) (v : Word) (s : State) : Res :=
  .next (s.access r R.ECC_RET_CMD true (fun t => t.opRetCmd r (v ||| 2)))

/-- TRACK_CLR (R428). -/
def execTrackClr (r : Req) (v : Word) (s : State) : Res :=
  .next (s.access r R.ECC_CE_CFG true (fun t => t.opCeCfg (v ||| 0x100)))

/-- REKEY (R438). -/
def execRekey (r : Req) (v : Word) (s : State) : Res :=
  .next (s.access r R.MXE_MXE_CMD true (fun t => t.opMxeCmd r (v ||| 1)))

/-- FRESH (R437). -/
def execFresh (r : Req) (v : Word) (s : State) : Res :=
  .next (s.access r R.MXE_MXE_CMD true (fun t => t.opMxeCmd r (v ||| 2)))

/-- REKEY_LINE (R439); in Doze the pass pauses (R602). -/
def execRekeyLine (ch : Chan) (o : EccIn) (s : State) : Res :=
  .next (if s.mxe.running ∧ ¬ s.mxe.passed[ch] ∧ ¬ s.extOff then
    let s0 := s.rkAdvance ch
    if s0.mxe.passed[ch] then s0.rkFinish
    else
      let p := s0.mxe.ptr[ch]
      let (ok, s1) := s0.memRead .rekey (.ext ch p) o
      let s2 := { s1 with mxe := { s1.mxe with ptr := s1.mxe.ptr.set ch (p + 1) } }
      ((if ok then s2.dramWrite ch p else s2).rkAdvance ch).rkFinish
  else s)

/-- MEM_TRAIN (R444). -/
def execMemTrain (r : Req) (m : Chan) (v : Word) (s : State) : Res :=
  .next (s.access r (R.MEM_MEM_CMD m.val) true (fun t => t.opMemCmd r m (v ||| 1)))

/-- MEM_WITHDRAW (R444). -/
def execMemWithdraw (r : Req) (m : Chan) (v : Word) (s : State) : Res :=
  .next (s.access r (R.MEM_MEM_CMD m.val) true (fun t => t.opMemCmd r m (v ||| 2)))

/-- SKIP_WINDOW_WRITE (R424). -/
def execSkipWindowWrite (r : Req) (m : Chan) (endReg : Bool) (v : Word) (s : State) : Res :=
  .next (s.access r (if endReg then R.MEM_SKIP_END m.val else R.MEM_SKIP_START m.val) true (fun t => t.opSkip r m endReg v))

/-- RET_CMD_DONE (R430, R433). -/
def execRetCmdDone (ok : Bool) (s : State) : Res := .next (s.retDone ok)

end Sys2Proof.Machine
end

