-- ==== Sys2Proof/Machine/Parse.lean ====
section
/-! DEFINITION. Chapter 10, page PRS: the parse engines and the fixed-offset extractor (R339-R358). -/

namespace Sys2Proof.Machine

open Sys2Proof

/-! ### Packets and pipelines -/

/-- Replaces a pipeline. -/
def State.setPipe (s : State) (p : Fin 4) (x : Pipe) : State := { s with pipes := s.pipes.set p x }

/-- L: the packet length without the FCS. -/
def Pkt.l (p : Pkt) : Nat := p.len - 4

/-- A byte of the packet; 0 past its end. -/
def Pkt.byte (p : Pkt) (i : Nat) : Nat := if i < p.l then (p.data.getD i 0).toNat else 0

/-- A 16-bit field of the packet, most significant byte first. -/
def Pkt.half (p : Pkt) (i : Nat) : Nat := p.byte i * 256 + p.byte (i + 1)

/-- Bytes of the packet. -/
def Pkt.bytes (p : Pkt) (i n : Nat) : List Byte := (List.range n).map (fun j => BitVec.ofNat 8 (p.byte (i + j)))

/-- Key bytes 0-1 (R342). -/
def Pkt.meta (p : Pkt) : Nat :=
  p.src * 2 ^ 10 + b2n p.fb * 2 ^ 9 + b2n p.deep * 2 ^ 8 + b2n p.mal * 2 ^ 7 + b2n p.frag * 2 ^ 6 + p.pass * 2 ^ 4 + p.pf.toNat

/-- The key with its meta bytes (R342). -/
def Pkt.fullKey (p : Pkt) : List Byte := toBytesBE 2 p.meta ++ p.key.drop 2

/-- A key with bytes replaced from `o` on. -/
def putBytes (key : List Byte) (o : Nat) (bs : List Byte) : List Byte := key.take o ++ bs ++ key.drop (o + bs.length)

/-- The key of a packet before its program or the extractor has written it. -/
def Pkt.clean (p : Pkt) : Pkt :=
  { p with key := List.replicate 64 0, hdrs := [], deep := false, mal := false, frag := false, pf := 0 }

/-! ### Epochs (R370) -/

/-- The packets of a pipeline, wherever they stand before the flow stage. -/
def Pipe.packets (x : Pipe) : List Pkt :=
  x.parse.map ParseSlot.pkt ++ x.rcOut ++ x.rc ++ x.cls

/-- How many packets hold epoch `e` (EPOCH_CNT.HELD). -/
def State.held (s : State) (e : Fin 16) : Nat :=
  ((s.pipes.toList.map (fun x => (x.packets.filter (fun p => decide (p.epoch = some e))).length))).sum

/-- Replaces an epoch. -/
def State.setEpoch (s : State) (e : Fin 16) (x : Epoch) : State := { s with epochs := s.epochs.set e x }

/-- A DRAINING epoch that no packet holds becomes FREE (R370). -/
def State.retireEpochs (s : State) : State :=
  (List.finRange 16).foldl (fun t e =>
    if (t.epochs[e]).st = .draining ∧ t.held e = 0 then
      (t.setEpoch e { t.epochs[e] with st := .free }).fire P.CLS E.CLS_EPOCH_RETIRED
    else t) s

/-! ### The order of the parse stage (R341) -/

/-- A packet goes to the exception queue with cause `c`. -/
def Pkt.except (p : Pkt) (c : Nat) : Pkt := { p with exc := c, queue := excQueue, epoch := none }

/-- Packets that have ended leave the parse stage in the order in which they entered it: a MALFORMED packet that MAL_ACT
keeps goes to the exception queue, every other to the classifier. -/
def releaseSlots : List ParseSlot → List Pkt × List ParseSlot
  | [] => ([], [])
  | x :: xs =>
    if x.st = .ended then
      let (a, b) := releaseSlots xs
      (x.pkt :: a, b)
    else ([], x :: xs)

/-- Releases the packets that may leave the parse stage of a pipeline. -/
def State.releaseParse (s : State) (p : Fin 4) : State :=
  let x := s.pipes[p]
  let (out, rest) := releaseSlots x.parse
  s.setPipe p { x with parse := rest, cls := x.cls ++ out.filter (fun k => decide (k.exc = 0)),
                       buf := x.buf ++ out.filter (fun k => decide (k.exc ≠ 0)) }

/-- Replaces the slot of a packet in the parse stage. -/
def State.setSlotOf (s : State) (p : Fin 4) (x : ParseSlot) : State :=
  let y := s.pipes[p]
  s.setPipe p { y with parse := y.parse.map (fun z => if z.pkt.id = x.pkt.id then x else z) }

/-- Removes a packet from the parse stage. -/
def State.dropSlot (s : State) (p : Fin 4) (id : Nat) : State :=
  let y := s.pipes[p]
  ((s.setPipe p { y with parse := y.parse.filter (fun z => decide (z.pkt.id ≠ id)) }).releaseParse p).retireEpochs

/-! ### The ends of a parse (R351) -/

/-- Counts the flags of a finished key. -/
def State.countFlags (s : State) (k : Pkt) : State :=
  let s1 := if k.deep then s.bump R.PRS_CNT_DEEP else s
  if k.frag then s1.bump R.PRS_CNT_FRAG else s1

/-- A packet ends with its key, in an engine (`prog`) or in the extractor. -/
def State.parseEnd (s : State) (p : Fin 4) (k : Pkt) (prog : Bool) : State :=
  let s1 := s.countFlags k
  let s2 := if prog then s1.bump64 R.PRS_CNT_PARSED_LO R.PRS_CNT_PARSED_HI 1 else s1
  (s2.setSlotOf p ⟨k, .ended⟩).releaseParse p

/-- A packet ends MALFORMED: it is dropped, or goes to the exception queue with its key (R351). -/
def State.parseMal (s : State) (p : Fin 4) (k : Pkt) : State :=
  let s1 := (s.bump R.PRS_CNT_MALFORMED).fire P.PRS E.PRS_MALFORMED
  let k1 := { k with mal := true }
  if s.bit F.PRS_PRS_CTL_MAL_ACT then
    ((s1.setSlotOf p ⟨k1.except 3, .ended⟩).releaseParse p).retireEpochs
  else s1.dropSlot p k.id

/-- A program faults (R352): the extractor takes the packet. -/
def State.parseFault (s : State) (p : Fin 4) (k : Pkt) (cause pc : Nat) : State :=
  let s1 := (s.bump R.PRS_CNT_FAULT).wr R.PRS_FAULT_LAST
    (BitVec.ofNat 32 (cause + pc % 1024 * 2 ^ 3 + k.src * 2 ^ 13 + k.pass * 2 ^ 19))
  (s1.setSlotOf p ⟨{ k.clean with fb := true }, .extract⟩).fire P.PRS E.PRS_FAULT

/-! ### Start (R343, R344, R356, R357) -/

/-- The copy of program memory that a packet dispatched now runs: a group whose marker has passed the dispatch point gives
it (R357). -/
def State.dispatchCopy (s : State) (p : Fin 4) : Nat :=
  let here := s.cmt.markers.filter (fun m => decide (m.pipe = p) && decide (m.passed = 0))
  let news := here.filterMap (fun m =>
    match s.slotOf m.tag with
    | some i =>
      let ws := s.cmt.slots[i].writes
      if s.cmt.slots[i].st = .applying ∧ (mapKeys ws).contains R.PRS_PROG_CTL then some (getField (mapGet 0 ws R.PRS_PROG_CTL) 0 1) else none
    | none => none)
  match news.getLast? with
  | some a => a
  | none => s.cfgFld (.stage p .parse) F.PRS_PROG_CTL_ACTIVE

/-- Markers at the entry of a pipeline reach its parse stage. -/
def absorbMarks (p : Fin 4) : List Arrival → Nat → List Marker → List Arrival × Nat × List Marker
  | .mark tag :: xs, ord, ms => absorbMarks p xs (ord + 1) (ms ++ [⟨tag, p, ord, 0⟩])
  | xs, ord, ms => (xs, ord, ms)

/-- Absorbs the markers that stand first at the entry of a pipeline. -/
def State.absorb (s : State) (p : Fin 4) : State :=
  let x := s.pipes[p]
  let (arr, ord, ms) := absorbMarks p x.arr x.ord s.cmt.markers
  ({ s with cmt := { s.cmt with markers := ms } }).setPipe p { x with arr := arr, ord := ord }

/-- The engines of a pipeline that run a program. -/
def Pipe.busy (x : Pipe) : List (Fin 128) :=
  x.parse.filterMap (fun z => match z.st with | .engine e => some e.no | _ => none)

/-- The engine that takes a packet of a pipeline: the lowest-numbered free one of its 32 (log entry 30). -/
def Pipe.freeEngine (x : Pipe) (p : Fin 4) : Option (Fin 128) :=
  (List.finRange 128).find? (fun e => decide (e.val / 32 = p.val) && !x.busy.contains e)

/-- A packet enters the parse stage (R343, R344). -/
def State.parseStart (s : State) (p : Fin 4) (k0 : Pkt) : State :=
  let x := s.pipes[p]
  let k := { k0.clean with ord := x.ord, fb := false }
  let put := fun (t : State) (st : ParseSt) (q : Pkt) =>
    t.setPipe p { t.pipes[p] with ord := x.ord + 1, parse := t.pipes[p].parse ++ [⟨q, st⟩] }
  if ¬ s.bit F.PRS_PRS_CTL_EN then (put s .extract { k with fb := true }).bump R.PRS_CNT_FB_OFF
  else
    match x.freeEngine p with
    | none => ((put s .extract { k with fb := true }).bump R.PRS_CNT_FB_BUSY).fire P.PRS E.PRS_FB_BUSY
    | some e =>
      let copy := s.dispatchCopy p
      let first := decide (k.pass = 0)
      let pc := if first then (mapGet 0 s.prog (copy * 1024 + k.src)).toNat % 1024 else k.leaf.rcEntry
      let c := if first then 0 else k.leaf.rcOfs
      let s1 := put s (.engine ⟨e, copy, c, k.l, 0, 0, 0, pc, 0⟩) k
      if pc < 64 then s1.parseFault p k 3 pc else s1

/-! ### Instructions (R345-R350) -/

/-- The pipeline and slot of engine `e`, while it runs a program. -/
def State.running? (s : State) (e : Fin 128) : Option (Fin 4 × Pkt × Engine) :=
  (List.finRange 4).findSome? (fun p => (s.pipes[p]).parse.findSome? (fun z =>
    match z.st with
    | .engine g => if g.no = e then some (p, z.pkt, g) else none
    | _ => none))

/-- How an instruction ends. -/
inductive PRes where
  | cont (k : Pkt) (g : Engine)
  | ends (k : Pkt)
  | mal (k : Pkt)
  | fault (cause : Nat)

/-- Engine `e` executes the instruction at its PC if its opcode is `op`: `f` says what it does to the packet and to the
engine, whose PC already stands at the next word. -/
def State.parseOp (s : State) (e : Fin 128) (op : Nat → Bool) (f : Pkt → Engine → Word → PRes) : State :=
  match s.running? e with
  | none => s
  | some (p, k, g) =>
    let w := mapGet 0 s.prog (g.copy * 1024 + g.pc)
    if ¬ op (getField w 27 5) ∨ s.fld F.PRS_PRS_CFG_STEP_MAX ≤ g.steps then s
    else
      match f k { g with pc := (g.pc + 1) % 1024, steps := g.steps + 1 } w with
      | .cont k' g' => s.setSlotOf p ⟨k', .engine g'⟩
      | .ends k' => s.parseEnd p k' true
      | .mal k' => s.parseMal p k'
      | .fault c => s.parseFault p k c g.pc

/-- The register that X names: A (0) or B (1). -/
def Engine.reg (g : Engine) (x : Bool) : BitVec 16 := if x then g.b else g.a

/-- Writes the register that X names. -/
def Engine.setReg (g : Engine) (x : Bool) (v : BitVec 16) : Engine := if x then { g with b := v } else { g with a := v }

/-- Bit [26], X of most instructions. -/
def insX (w : Word) : Bool := w.getLsbD 26

/-- IMM. -/
def insImm (w : Word) : BitVec 16 := w.setWidth 16

/-- A jump to TGT; below 64 it faults (R352, R356). -/
def jumpTo (k : Pkt) (g : Engine) (w : Word) : PRes :=
  let t := getField w 16 10
  if t < 64 then .fault 3 else .cont k { g with pc := t }

/-- Reads window bytes `i` to `i + n - 1`: the end that R348 gives, or none. -/
def windowEnd (k : Pkt) (i n : Nat) : Option PRes :=
  match (List.range n).find? (fun j => decide (k.l ≤ i + j) || decide (256 ≤ i + j)) with
  | none => none
  | some j => if k.l ≤ i + j then some (.mal k) else some (.ends { k with deep := true })

/-- LD. -/
def opLd (k : Pkt) (g : Engine) (w : Word) : PRes :=
  let i := g.c + getField w 18 8
  let b := getField w 15 3
  let n := getField w 11 4 + 1
  let nb := (b + n - 1) / 8 + 1
  match windowEnd k i nb with
  | some r => r
  | none =>
    let v := ofBytesBE (k.bytes i nb)
    .cont k (g.setReg (insX w) (BitVec.ofNat 16 (v / 2 ^ (8 * nb - b - n) % 2 ^ n)))

/-- LDM. -/
def opLdm (k : Pkt) (g : Engine) (w : Word) : PRes :=
  let v := match getField w 0 3 with
    | 0 => some k.src
    | 1 => some k.pass
    | 2 => some k.l
    | 3 => some g.c
    | 4 => some g.e
    | 5 => some g.h
    | _ => none
  match v with
  | some n => .cont k (g.setReg (insX w) (BitVec.ofNat 16 n))
  | none => .fault 1

/-- EXT. -/
def opExt (k : Pkt) (g : Engine) (w : Word) : PRes :=
  let ko := getField w 21 6
  let n := getField w 8 4 + 1
  let i := g.c + getField w 13 8
  if ko < 2 ∨ 64 < ko + n then .fault 5
  else
    match windowEnd k i n with
    | some r => r
    | none => .cont { k with key := putBytes k.key ko (k.bytes i n) } g

/-- KST. -/
def opKst (k : Pkt) (g : Engine) (w : Word) : PRes :=
  let ko := getField w 20 6
  if ko < 2 ∨ 62 < ko then .fault 5
  else .cont { k with key := putBytes k.key ko (toBytesBE 2 (g.reg (insX w)).toNat) } g

/-- Length of a header of R349 at C, whether its checks hold, and what its action leaves: E, and FRAG. A byte that a check names is read from
the packet beyond the 256-byte window too (DEDUCED, log entry 148). -/
def hdrRule (k : Pkt) (g : Engine) (ty : Nat) (x : BitVec 16) (unit : Nat) : Option (Nat × Bool × Nat × Bool) :=
  let c := g.c
  let room : Int := (g.e : Int) - c
  if ty = 0x01 then some (14, true, g.e, false)
  else if ty = 0x02 then some (4, true, g.e, false)
  else if ty = 0x04 then
    let ihl := k.byte c % 16
    let tl := k.half (c + 2)
    let ok := decide (k.byte c / 16 = 4) && decide (5 ≤ ihl) && decide (ihl * 4 ≤ tl) &&
      (decide ((tl : Int) = room) || (decide ((tl : Int) < room) && decide (k.l = 60)))
    some (ihl * 4, ok, c + tl, decide (k.half (c + 6) % 2 ^ 14 ≠ 0))
  else if ty = 0x06 then
    let pl := k.half (c + 4)
    let ok := decide (k.byte c / 16 = 6) && decide (pl ≠ 0) &&
      (decide ((pl : Int) + 40 = room) || (decide ((pl : Int) + 40 < room) && decide (k.l = 60)))
    some (40, ok, c + 40 + pl, false)
  else if ty = 0x07 then some ((k.byte (c + 1) + 1) * 8, true, g.e, false)
  else if ty = 0x08 then some (8, true, g.e, true)
  else if ty = 0x11 then some (8, decide ((k.half (c + 4) : Int) = room), g.e, false)
  else if ty = 0x12 then some (k.byte (c + 12) / 16 * 4, decide (5 ≤ k.byte (c + 12) / 16), g.e, false)
  else if 0x20 ≤ ty ∧ ty ≤ 0x3F ∧ unit < 3 then some (x.toNat * (if unit = 0 then 1 else if unit = 1 then 4 else 8), true, g.e, false)
  else none

/-- HDR (R349, R350). -/
def opHdr (k : Pkt) (g : Engine) (w : Word) : PRes :=
  let ty := getField w 21 6
  match hdrRule k g ty (g.reg (w.getLsbD 20)) (getField w 18 2) with
  | none => .fault 4
  | some (len, ok, e, frag) =>
    if g.h = 16 then .ends { k with deep := true }
    else if ¬ ok ∨ (g.e : Int) - g.c < len then .mal k
    else if 256 < g.c + len then .ends { k with deep := true }
    else
      let k1 := { k with hdrs := k.hdrs ++ [(ty, g.c)] }
      if frag then .ends { k1 with frag := true } else .cont k1 { g with c := g.c + len, h := g.h + 1, e := e }

/-- LCHK. -/
def opLchk (k : Pkt) (g : Engine) (w : Word) : PRes :=
  let x := (g.reg (insX w)).toNat
  let room : Int := (g.e : Int) - g.c
  let ok := if w.getLsbD 25 then decide ((x : Int) ≤ room) else decide ((x : Int) = room)
  if ¬ ok then .mal k
  else .cont k (if w.getLsbD 24 then { g with e := g.c + x } else g)

/-! ### The fixed-offset extractor (R354) -/

/-- A VLAN tag protocol identifier of R342. -/
def isTpid (n : Nat) : Bool := decide (n = 0x8100) || decide (n = 0x88A8)

/-- The key fields that the extractor reads from L4. -/
def extractL4 (k : Pkt) (proto l4 : Nat) : Pkt :=
  if proto = 6 ∨ proto = 17 then
    let key := putBytes k.key 54 (k.bytes l4 4)
    { k with key := if proto = 6 then putBytes key 59 (k.bytes (l4 + 13) 1) else key }
  else { k with key := putBytes k.key 58 (k.bytes l4 1) }

/-- The packet with the key that the extractor builds, FALLBACK set, and whether it is MALFORMED (R354). EtherTypes 0x0800
and 0x86DD are those of IPv4 and IPv6 (log entry 31). -/
def extract (k0 : Pkt) : Pkt × Bool :=
  let k1 := { k0.clean with fb := true }
  let t1 := isTpid (k1.half 12)
  let t2 := t1 && isTpid (k1.half 16)
  let o := if t2 then 22 else if t1 then 18 else 14
  let et := k1.half (o - 2)
  let key1 := putBytes (putBytes k1.key 2 (k1.bytes 0 12)) 18 (k1.bytes (o - 2) 2)
  let key2 := if t1 then putBytes key1 14 (k1.bytes 14 2) else key1
  let key3 := if t2 then putBytes key2 16 (k1.bytes 18 2) else key2
  let k2 := { k1 with key := key3, deep := t2 && isTpid et }
  let g : Engine := ⟨0, 0, o, k2.l, 0, 0, 0, 0, 0⟩
  if et = 0x0800 then
    match hdrRule k2 g 0x04 0 0 with
    | some (len, ok, e, frag) =>
      if ¬ ok ∨ k2.l < o + len then (k2, true)
      else
        let ihl5 := decide (len = 20)
        let proto := k2.byte (o + 9)
        let key := putBytes (putBytes (putBytes (putBytes k2.key 20 (k2.bytes (o + 9) 1)) 21 (k2.bytes (o + 1) 1)) 34
          (k2.bytes (o + 12) 4)) 50 (k2.bytes (o + 16) 4)
        let k3 := { k2 with key := key, deep := k2.deep || !ihl5, frag := frag }
        let l4 := o + 20
        if frag ∨ ¬ ihl5 ∨ ¬ (proto = 1 ∨ proto = 6 ∨ proto = 17) then (k3, false)
        else if proto = 17 ∧ (k3.half (l4 + 4) ≠ e - l4 ∨ e < l4 + 8) then (k3, true)
        else (extractL4 k3 proto l4, false)
    | none => (k2, true)
  else if et = 0x86DD then
    match hdrRule k2 g 0x06 0 0 with
    | some (_, ok, e, _) =>
      if ¬ ok ∨ k2.l < o + 40 then (k2, true)
      else
        let nh := k2.byte (o + 6)
        let key := putBytes (putBytes (putBytes (putBytes k2.key 20 (k2.bytes (o + 6) 1)) 21
          [BitVec.ofNat 8 (k2.half o / 16)]) 22 (k2.bytes (o + 8) 16)) 38 (k2.bytes (o + 24) 16)
        let k3 := { k2 with key := key, frag := decide (nh = 44),
                            deep := k2.deep || !(decide (nh = 6) || decide (nh = 17) || decide (nh = 44) || decide (nh = 58)) }
        let l4 := o + 40
        if ¬ (nh = 6 ∨ nh = 17 ∨ nh = 58) then (k3, false)
        else if nh = 17 ∧ (k3.half (l4 + 4) ≠ e - l4 ∨ e < l4 + 8) then (k3, true)
        else (extractL4 k3 nh l4, false)
    | none => (k2, true)
  else (k2, false)

/-- A packet enters the packet path: it takes its pipeline by R340. -/
def State.enterPath (s : State) (k : Pkt) : State :=
  let k1 := { k with id := s.nextPkt }
  let p := Config.pipeHash k.src ((extract k1).1.key.take 60)
  let x := s.pipes[p]
  (({ s with nextPkt := s.nextPkt + 1 }).setPipe p { x with arr := x.arr ++ [Arrival.pkt k1] }).absorb p

/-! ### Program memory (R356, R358) -/

/-- The copy of program memory that PROG_ADDR.VIEW names. -/
def State.progView (s : State) : Nat :=
  if s.bit F.PRS_PROG_ADDR_VIEW then s.fld F.PRS_PROG_CTL_ACTIVE else 1 - s.fld F.PRS_PROG_CTL_ACTIVE

/-- Loads the four words addressed into PROG_DATA (R230). -/
def State.viewProg (s : State) : State :=
  let a := s.progView * 1024 + s.fld F.PRS_PROG_ADDR_WORD / 4 * 4
  (List.range 4).foldl (fun t i => t.wr (R.PRS_PROG_DATA i) (mapGet 0 s.prog (a + i))) s

/-- A write of PROG_DATA3 stores the four words (R358, R629). -/
def State.opProgData3 (s : State) (r : Req) (v : Word) : State :=
  if s.bit F.PRS_PROG_ADDR_VIEW ∨ s.bit F.PRS_PROG_STAT_BUSY ∨ s.applying P.PRS ∨ s.testing 2 none then
    s.refuse r (R.PRS_PROG_DATA 3)
  else
    let w := s.fld F.PRS_PROG_ADDR_WORD / 4 * 4
    let a := (1 - s.fld F.PRS_PROG_CTL_ACTIVE) * 1024 + w
    let word := fun i => if i = 3 then v else s.rd (R.PRS_PROG_DATA i)
    let s1 := { s with prog := (List.range 4).foldl (fun m i => mapPut 0 m (a + i) (word i)) s.prog }
    (if s.bit F.PRS_PROG_ADDR_AUTO_INC then s1.setFld F.PRS_PROG_ADDR_WORD (w + 4) else s1).viewProg

/-- A write of PROG_CMD: COPY starts (R358, R629). -/
def State.opProgCmd (s : State) (r : Req) (v : Word) : State :=
  if ¬ v.getLsbD 0 then s
  else if s.testing 2 none then s.refuse r R.PRS_PROG_CMD
  else s.setFld F.PRS_PROG_STAT_BUSY 1

/-- The copy of the active program into the shadow completes. -/
def State.copyProg (s : State) : State :=
  let a := s.fld F.PRS_PROG_CTL_ACTIVE
  let act := s.prog.filter (fun e => decide (e.1 / 1024 = a))
  let new := act.foldl (fun m e => mapIns m ((1 - a) * 1024 + e.1 % 1024) e.2) act
  if s.bit F.PRS_PROG_STAT_BUSY then (({ s with prog := new }).setFld F.PRS_PROG_STAT_BUSY 0).viewProg else s

/-- The computed registers of page PRS. -/
def readPRS (s : State) (o : Nat) : Option Word :=
  if o = 0x070 then
    some (BitVec.ofNat 32 ((List.finRange 4).foldl (fun n p => n + (s.pipes[p]).busy.length * 2 ^ (8 * p.val)) 0))
  else none

/-! ### Commands -/

/-- PARSE_START (R343, R372): a recirculated packet goes before a new one. -/
def execParseStart (pipe : Fin 4) (s : State) : Res :=
  let x := s.pipes[pipe]
  match x.rc with
  | k :: ks => .next ((s.setPipe pipe { x with rc := ks }).parseStart pipe k)
  | [] =>
    match x.arr with
    | .pkt k :: xs => .next (((s.setPipe pipe { x with arr := xs }).parseStart pipe k).absorb pipe)
    | _ => .next s

/-- NOP. -/
def execNop (e : Fin 128) (s : State) : Res := .next (s.parseOp e (· == 0x00) (fun k g _ => .cont k g))

/-- LD. -/
def execLd (e : Fin 128) (s : State) : Res := .next (s.parseOp e (· == 0x01) opLd)

/-- LDI. -/
def execLdi (e : Fin 128) (s : State) : Res :=
  .next (s.parseOp e (· == 0x02) (fun k g w => .cont k (g.setReg (insX w) (insImm w))))

/-- LDM. -/
def execLdm (e : Fin 128) (s : State) : Res := .next (s.parseOp e (· == 0x03) opLdm)

/-- ADDI. -/
def execAddi (e : Fin 128) (s : State) : Res :=
  .next (s.parseOp e (· == 0x04) (fun k g w => .cont k (g.setReg (insX w) (g.reg (insX w) + insImm w))))

/-- ADD. -/
def execAdd (e : Fin 128) (s : State) : Res :=
  .next (s.parseOp e (· == 0x05) (fun k g w => .cont k (g.setReg (insX w) (g.a + g.b))))

/-- ANDI. -/
def execAndi (e : Fin 128) (s : State) : Res :=
  .next (s.parseOp e (· == 0x06) (fun k g w => .cont k (g.setReg (insX w) (g.reg (insX w) &&& insImm w))))

/-- SHL. -/
def execShl (e : Fin 128) (s : State) : Res :=
  .next (s.parseOp e (· == 0x07) (fun k g w => .cont k (g.setReg (insX w) (g.reg (insX w) <<< getField w 0 4))))

/-- SHR. -/
def execShr (e : Fin 128) (s : State) : Res :=
  .next (s.parseOp e (· == 0x08) (fun k g w => .cont k (g.setReg (insX w) (g.reg (insX w) >>> getField w 0 4))))

/-- JEQ. -/
def execJeq (e : Fin 128) (s : State) : Res :=
  .next (s.parseOp e (· == 0x09) (fun k g w => if g.reg (insX w) = insImm w then jumpTo k g w else .cont k g))

/-- JNE. -/
def execJne (e : Fin 128) (s : State) : Res :=
  .next (s.parseOp e (· == 0x0A) (fun k g w => if g.reg (insX w) ≠ insImm w then jumpTo k g w else .cont k g))

/-- JLT. -/
def execJlt (e : Fin 128) (s : State) : Res :=
  .next (s.parseOp e (· == 0x0B) (fun k g w => if (g.reg (insX w)).toNat < (insImm w).toNat then jumpTo k g w else .cont k g))

/-- JMP. -/
def execJmp (e : Fin 128) (s : State) : Res := .next (s.parseOp e (· == 0x0C) jumpTo)

/-- EXT. -/
def execExt (e : Fin 128) (s : State) : Res := .next (s.parseOp e (· == 0x0D) opExt)

/-- KST. -/
def execKst (e : Fin 128) (s : State) : Res := .next (s.parseOp e (· == 0x0E) opKst)

/-- HDR (R349). -/
def execHdr (e : Fin 128) (s : State) : Res := .next (s.parseOp e (· == 0x0F) opHdr)

/-- LCHK. -/
def execLchk (e : Fin 128) (s : State) : Res := .next (s.parseOp e (· == 0x10) opLchk)

/-- FLAG. -/
def execFlag (e : Fin 128) (s : State) : Res :=
  .next (s.parseOp e (· == 0x11) (fun k g w => .cont { k with pf := k.pf ||| BitVec.ofNat 4 (2 ^ getField w 0 2) } g))

/-- DONE (R351). -/
def execDone (e : Fin 128) (s : State) : Res := .next (s.parseOp e (· == 0x12) (fun k _ _ => .ends k))

/-- MAL (R351). -/
def execMal (e : Fin 128) (s : State) : Res := .next (s.parseOp e (· == 0x13) (fun k _ _ => .mal k))

/-- ILLEGAL_OPCODE (R352). -/
def execIllegalOpcode (e : Fin 128) (s : State) : Res :=
  .next (s.parseOp e (fun n => decide (0x14 ≤ n)) (fun _ _ _ => .fault 1))

/-- STEP_BUDGET_FAULT (R347). -/
def execStepBudgetFault (e : Fin 128) (s : State) : Res :=
  .next (match s.running? e with
    | some (p, k, g) => if s.fld F.PRS_PRS_CFG_STEP_MAX ≤ g.steps then s.parseFault p k 2 g.pc else s
    | none => s)

/-- PROGRAM_FETCH_UE (R353). -/
def execProgramFetchUe (e : Fin 128) (s : State) : Res :=
  .next (match s.running? e with
    | some (p, k, _) => ((s.bump R.PRS_CNT_PROG_UE).fire P.PRS E.PRS_PROG_UE).dropSlot p k.id
    | none => s)

/-- FIXED_EXTRACT (R354). -/
def execFixedExtract (pipe : Fin 4) (s : State) : Res :=
  .next (match (s.pipes[pipe]).parse.find? (fun z => decide (z.st = .extract)) with
    | some z =>
      let (k, mal) := extract z.pkt
      if mal then s.parseMal pipe k else s.parseEnd pipe k false
    | none => s)

/-- PROG_DATA_WRITE (R358): a write of PROG_DATA3. -/
def execProgDataWrite (r : Req) (v : Word) (s : State) : Res :=
  .next (s.access r (R.PRS_PROG_DATA 3) true (fun t => t.opProgData3 r v))

/-- PROG_COPY (R358). -/
def execProgCopy (r : Req) (v : Word) (s : State) : Res :=
  .next (s.access r R.PRS_PROG_CMD true (fun t => t.opProgCmd r (v ||| 1)))

end Sys2Proof.Machine
end

