-- ==== Sys2Proof/Machine/Classify.lean ====
section
/-! DEFINITION. Chapter 10, page CLS: the classifier, recirculation, the flow contexts (R359-R383), and the stages after it
up to the queue (R390-R393, R402, R447, R462). -/

namespace Sys2Proof.Machine

open Sys2Proof

/-! ### Tree memory (R359, R365, R546) -/

/-- Word `i` of a node, little-endian as a core stores it (log entry 32). -/
def State.nodeWord (s : State) (n i : Nat) : Word :=
  BitVec.ofNat 32 (ofBytesBE (s.readBytes (nodeAddr n + 4 * i) 4).reverse)

/-- A node as a 128-bit number. -/
def State.node (s : State) (n : Nat) : Nat :=
  (List.range 4).foldl (fun a i => a + (s.nodeWord n i).toNat * 2 ^ (32 * i)) 0

/-- Stores a whole node. -/
def State.storeNode (s : State) (n : Nat) (ws : List Word) : State :=
  s.writeBytes (nodeAddr n) ((ws.map (fun w => (toBytesBE 4 w.toNat).reverse)).flatten)

/-- A block lies in an epoch. -/
def Epoch.has (x : Epoch) (blk : Nat) : Bool := decide (x.base ≤ blk) && decide (blk < x.base + x.nblk) && decide (blk < 256)

/-- A node lies in a locked block (R365). -/
def State.nodeLocked (s : State) (n : Nat) : Bool :=
  s.epochs.toList.any (fun x => decide (x.st ≠ .free) && x.has (n / 4096))

/-- The bits [hi:lo] of a node. -/
def nodeBits (n hi lo : Nat) : Nat := n / 2 ^ lo % 2 ^ (hi - lo + 1)

/-- The leaf that a node holds, if it is a valid LEAF (R359). -/
def leafOf (n : Nat) : Option Leaf :=
  if nodeBits n 127 125 = 2 ∧ nodeBits n 124 122 ≤ 4 then
    some ⟨nodeBits n 124 122, natBit n 121, nodeBits n 120 108, natBit n 107, nodeBits n 106 93, nodeBits n 92 91,
      nodeBits n 90 83, nodeBits n 82 73, nodeBits n 72 69, natBit n 68, nodeBits n 67 56, nodeBits n 55 36⟩
  else none

/-! ### Walks (R360) -/

/-- Key bits `b` to `b + n - 1`, bit `b` the most significant (R342, R359). -/
def keyBits (key : List Byte) (b n : Nat) : Nat := ofBytesBE key / 2 ^ (512 - b - n) % 2 ^ n

/-- How a walk ends. -/
inductive WalkEnd where
  | leaf (l : Leaf)
  | fault
  | ue

/-- Walks from node `i`, the next to visit; `left` nodes may still be visited; `ue` counts the visits before a read that
finds an uncorrectable error. -/
def State.walkFrom (s : State) (x : Epoch) (key : List Byte) (i : Nat) (ue : Option Nat) : Nat → WalkEnd
  | 0 => .fault
  | left + 1 =>
    if ¬ x.has (i / 4096) then .fault
    else if ue = some 0 then .ue
    else
      let n := s.node i
      let ue' := ue.map (· - 1)
      let kind := nodeBits n 127 125
      if kind = 0 then
        let b := nodeBits n 124 116
        let w := nodeBits n 115 113 + 1
        if 512 < b + w then .fault
        else s.walkFrom x key ((nodeBits n 112 93 + keyBits key b w) % 2 ^ 20) ue' left
      else if kind = 1 then
        let f := keyBits key (8 * nodeBits n 124 119) 16
        let hit := decide (nodeBits n 118 103 ≤ f) && decide (f ≤ nodeBits n 102 87)
        s.walkFrom x key (if hit then nodeBits n 86 67 else nodeBits n 66 47) ue' left
      else
        match leafOf n with
        | some l => .leaf l
        | none => .fault

/-- A marker of a pipeline that has passed no more than `passed` stages stands ahead of a packet: the packet waits behind it
(R51). -/
def State.behindMark (s : State) (p : Fin 4) (passed ord : Nat) : Bool :=
  s.cmt.markers.any (fun m => decide (m.pipe = p) && decide (m.passed ≤ passed) && decide (m.ord < ord))

/-- The epoch of rule set `r` that the group switching at the classifier of pipeline `p` brings (R367): the other bank than
the CURRENT one, bank 0 where there is none (log entry 33). -/
def State.newEpoch (s : State) (r : Nat) : Fin 16 :=
  Fin.ofNat 16 (2 * r + (if (s.epochs.toList.getD (2 * r) {}).st = .current then 1 else 0))

/-- The CURRENT epoch of rule set `r`. -/
def State.currentEpoch (s : State) (r : Nat) : Option (Fin 16) :=
  (List.finRange 16).find? (fun e => decide (e.val / 2 = r) && decide ((s.epochs[e]).st = .current))

/-- A group writes a register of rule set `r`. -/
def writesRoot (ws : SMap Word) (r : Nat) : Bool :=
  [R.CLS_RS_ROOT r, R.CLS_RS_EXT r, R.CLS_RS_DFLT r].any (fun k => (mapKeys ws).contains k)

/-- A group that writes rule set `r` has switched at the classifier of pipeline `p` and not yet applied there. -/
def State.rootSwitched (s : State) (p : Fin 4) (r : Nat) : Bool :=
  (List.finRange 4).any (fun i =>
    let x := s.cmt.slots[i]
    decide (x.st = .applying) && x.pages.contains P.CLS && x.switched.contains (.stage p .classify) && writesRoot x.writes r)

/-- The epoch that a first-pass packet takes (R369). -/
def State.epochFor (s : State) (p : Fin 4) (src : Nat) : Option (Fin 16) :=
  let r := s.cfgFld (.stage p .classify) (F.CLS_RS_BIND_RS src)
  if s.rootSwitched p r then some (s.newEpoch r) else s.currentEpoch r

/-- Counts the rule counter of a leaf. -/
def State.countRule (s : State) (l : Leaf) : State :=
  if l.cntEn then { s with rcnt := mapPut 0 s.rcnt l.cntIdx ((mapGet 0 s.rcnt l.cntIdx + 1) % 2 ^ 64) } else s

/-- Adds a packet behind the classifier. -/
def State.toFlow (s : State) (p : Fin 4) (k : Pkt) : State :=
  s.setPipe p { s.pipes[p] with flow := (s.pipes[p]).flow ++ [k] }

/-- The queue number of R391 that a leaf names. -/
def Leaf.queueNum (l : Leaf) : Nat := if l.qtype then 8192 + l.queue else l.queue

/-- The leaf names a queue that does not exist (R364). -/
def Leaf.badQueue (l : Leaf) : Bool := l.qtype && decide (800 ≤ l.queue)

/-- A packet leaves the classifier with a leaf (R359, R364, R373). The epoch stays with it under RECIRC only. -/
def State.leafAction (s : State) (p : Fin 4) (k0 : Pkt) (l : Leaf) : State :=
  let s1 := s.countRule l
  let k := { k0 with leaf := l, epoch := none, queue := l.queueNum }
  if l.badQueue then s1.bump R.CLS_CNT_BADQ
  else if l.act = 0 then s1.toFlow p k
  else if l.act = 1 then s1
  else if l.act = 2 then (s1.toFlow p (k.except 1)).bump R.CLS_CNT_EXC
  else if l.act = 3 then
    if k.pass < 2 then
      s1.setPipe p { s1.pipes[p] with rcOut := (s1.pipes[p]).rcOut ++ [{ k with epoch := k0.epoch }] }
    else
      let s2 := (s1.bump R.CLS_CNT_RC_LIMIT).fire P.CLS E.CLS_RC_LIMIT
      if s.bit F.CLS_CLS_CTL_RCL_ACT then
        (s2.toFlow p { k.except 4 with leaf := { l with flow := 0 } }).bump R.CLS_CNT_EXC
      else s2
  else (s1.toFlow p { k with copy := true }).bump R.CLS_CNT_EXC

/-! ### Flow contexts (R374-R381) -/

/-- The flow key of a packet (R374). -/
def State.flowKey (s : State) (p : Fin 4) (k : Pkt) : List Byte :=
  let m := (s.cfgAt (.stage p .flow) R.CLS_FLOW_MASK_LO).toNat + (s.cfgAt (.stage p .flow) R.CLS_FLOW_MASK_HI).toNat * 2 ^ 32
  let key := k.fullKey
  let sel := ((List.range 64).filter (fun i => natBit m i)).map (fun i => key.getD i 0)
  (sel ++ List.replicate 40 0).take 40

/-- Where a context stands. -/
def State.ctxAddr (s : State) (ext : Bool) (i : Nat) : Nat :=
  if ext then extBase + s.fld F.CLS_FLOW_EXT_BASE * 2 ^ 28 + 64 * i else flowBase + 64 * (i % 65536)

/-- The line of an external context lies at or above the eave line of its channel (R423). -/
def State.ctxAbove (s : State) (i : Nat) : Bool :=
  let l := s.fld F.CLS_FLOW_EXT_BASE * 2 ^ 22 + i
  s.isAbove (.ext (Fin.ofNat 4 (l / 2 ^ 29)) (l % 2 ^ 29))

/-- A context. -/
def State.ctx (s : State) (ext : Bool) (i : Nat) : List Byte := s.readBytes (s.ctxAddr ext i) 64

/-- Writes a context, as one line. -/
def State.setCtx (s : State) (ext : Bool) (i : Nat) (bs : List Byte) : State := s.storeBytes (s.ctxAddr ext i) bs

/-- A bit of byte 40 of a context: 7 VALID, 6 OVR_Q, 5 OVR_POL, 4 OVR_TC. -/
def ctxBit (c : List Byte) (b : Nat) : Bool := (c.getD 40 0).getLsbD b

/-- The contexts of the bucket that a flow key names in a table. -/
def State.bucket (s : State) (ext : Bool) (key : List Byte) : List Nat :=
  let h := crc32 key
  let b := if ext then h % 2 ^ s.fld F.CLS_FLOW_EXT_LOG_BKT else h % 2 ^ 14
  (List.range 4).map (fun w => 4 * b + w)

/-- Milliseconds of the main reference, modulo 65,536 (log entry 34). -/
def State.flowMs (s : State) : Nat := s.clock.mono / 1000000 % 65536

/-- The first VALID context of a bucket with the packet's key. -/
def State.findCtx (s : State) (ext : Bool) (key : List Byte) : Option Nat :=
  (s.bucket ext key).find? (fun i => ctxBit (s.ctx ext i) 7 && decide ((s.ctx ext i).take 40 = key))

/-- The first way of a bucket that is not VALID. -/
def State.freeWay (s : State) (ext : Bool) (key : List Byte) : Option Nat :=
  (s.bucket ext key).find? (fun i => !ctxBit (s.ctx ext i) 7)

/-- A hit: the fields whose OVR bits are set replace the leaf's, and the context is updated (R376). OVR_POL also enables the policer
that it names (DEDUCED, log entry 149). -/
def State.flowHit (s : State) (ext : Bool) (i : Nat) (k : Pkt) : Pkt × State :=
  let c := s.ctx ext i
  let q := ofBytesBE ((c.drop 41).take 2)
  let l := k.leaf
  let l1 := if ctxBit c 6 then { l with qtype := natBit q 15, queue := q % 2 ^ 13 } else l
  let l2 := if ctxBit c 5 then { l1 with policer := ofBytesBE ((c.drop 43).take 2) % 2 ^ 14, polEn := true } else l1
  let l3 := if ctxBit c 4 then { l2 with tc := (c.getD 40 0).toNat % 16 } else l2
  let hits := min (2 ^ 32 - 1) (ofBytesBE ((c.drop 48).take 4) + 1)
  let c1 := c.take 48 ++ toBytesBE 4 hits ++ toBytesBE 2 s.flowMs ++ c.drop 54
  ({ k with leaf := l3, flowId := ofBytesBE ((c.drop 45).take 3), queue := if k.exc = 0 then l3.queueNum else k.queue },
    (s.setCtx ext i c1).bump R.CLS_CNT_FLOW_HIT)

/-- The context that a learn writes (R377). -/
def State.learnt (s : State) (key : List Byte) : List Byte :=
  key ++ [0x80] ++ List.replicate 7 0 ++ toBytesBE 4 1 ++ toBytesBE 2 s.flowMs ++ [1] ++ List.replicate 9 0

/-- The external flow table is in use: EXT_EN, which counts as 0 in Doze (R602). -/
def State.extFlow (s : State) : Bool := s.bit F.CLS_FLOW_CTL_EXT_EN && !s.extOff

/-- A miss under FLOW 2 with LEARN_EN (R377). -/
def State.learn (s : State) (key : List Byte) : State :=
  let on := if s.bit F.CLS_FLOW_CTL_ON_EN then s.freeWay false key else none
  let ext := if s.extFlow then s.freeWay true key else none
  match on, ext with
  | some i, _ => (s.setCtx false i (s.learnt key)).bump R.CLS_CNT_LEARN
  | none, some i => (s.setCtx true i (s.learnt key)).bump R.CLS_CNT_LEARN
  | none, none => (s.bump R.CLS_CNT_LEARN_FAIL).fire P.CLS E.CLS_LEARN_FAIL

/-- A packet leaves the flow stage: an upstream packet, and one that names a policer, goes through the policer stage, a
packet for the exception queue does not (R445, R464). -/
def State.afterFlow (s : State) (p : Fin 4) (k : Pkt) : State :=
  if k.exc = 0 ∧ k.leaf.badQueue then s.bump R.CLS_CNT_BADQ
  else
    let x := s.pipes[p]
    if k.exc = 0 ∧ (k.leaf.polEn ∨ ¬ k.leaf.qtype) then s.setPipe p { x with pol := x.pol ++ [k] }
    else s.setPipe p { x with buf := x.buf ++ [k] }

/-- A packet is discarded at the flow stage (R381). -/
def State.flowUe (s : State) : State := (s.bump R.CLS_CNT_FLOW_UE).fire P.CLS E.CLS_FLOW_UE

/-- The flow stage takes a packet (R376, R377, R381). -/
def State.flowStage (s : State) (p : Fin 4) (k : Pkt) (ue : Bool) : State :=
  if ¬ (k.leaf.flow = 1 ∨ k.leaf.flow = 2) then s.afterFlow p k
  else
    let key := s.flowKey p k
    let on := if s.bit F.CLS_FLOW_CTL_ON_EN then s.findCtx false key else none
    match on with
    | some i =>
      let (k1, s1) := s.flowHit false i k
      s1.afterFlow p k1
    | none =>
      if s.extFlow ∧ (ue ∨ (s.bucket true key).any s.ctxAbove) then s.flowUe
      else
        match (if s.extFlow then s.findCtx true key else none) with
        | some i =>
          let (k1, s1) := s.flowHit true i k
          s1.afterFlow p k1
        | none =>
          let s1 := s.bump R.CLS_CNT_FLOW_MISS
          (if k.leaf.flow = 2 ∧ s.bit F.CLS_FLOW_CTL_LEARN_EN then s1.learn key else s1).afterFlow p k

/-- A write of FLOW_CMD (R379, R381, R629). -/
def State.opFlowCmd (s : State) (r : Req) (v : Word) (ue : Bool) : State :=
  let ext := s.bit F.CLS_FLOW_ADDR_EXT
  let i := s.fld F.CLS_FLOW_ADDR_INDEX
  if ¬ ext ∧ s.testing 3 none then s.refuse r R.CLS_FLOW_CMD
  else
    let s0 := s.setFld F.CLS_FLOW_STAT_ERROR 0
    let s1 :=
      if v.getLsbD 0 then
        if ext ∧ (ue ∨ s.ctxAbove i) then s0.setFld F.CLS_FLOW_STAT_ERROR 1
        else
          let c := s0.ctx ext i
          (List.range 16).foldl (fun t j => t.wr (R.CLS_FLOW_DATA j) (BitVec.ofNat 32 (ofBytesBE ((c.drop (4 * j)).take 4)))) s0
      else s0
    let s2 :=
      if v.getLsbD 1 then
        s1.setCtx ext i (((List.range 16).map (fun j => toBytesBE 4 (s1.rd (R.CLS_FLOW_DATA j)).toNat)).flatten)
      else s1
    if v.getLsbD 2 then
      let c := s2.ctx ext i
      s2.setCtx ext i (c.take 40 ++ [(c.getD 40 0) &&& 0x7F] ++ c.drop 41)
    else s2

/-- A write of FLOW_CTL (R629). -/
def State.opFlowCtl (s : State) (r : Req) (v : Word) : State :=
  if (v.getLsbD 0 ∧ s.testing 3 none) ∨ (v.getLsbD 1 ∧ s.testing 4 none) then s.refuse r R.CLS_FLOW_CTL
  else s.store R.CLS_FLOW_CTL v

/-! ### Registers -/

/-- Loads the node addressed into TREE_DATA (R230). -/
def State.viewTree (s : State) : State :=
  (List.range 4).foldl (fun t i => t.wr (R.CLS_TREE_DATA i) (s.nodeWord (s.fld F.CLS_TREE_ADDR_NODE) i)) s

/-- A write of TREE_DATA3 stores the node (R365, R629). -/
def State.opTreeData3 (s : State) (r : Req) (v : Word) : State :=
  let n := s.fld F.CLS_TREE_ADDR_NODE
  if s.nodeLocked n ∨ s.testing 1 (some (n / 4096)) then s.refuse r (R.CLS_TREE_DATA 3)
  else
    let s1 := s.storeNode n [s.rd (R.CLS_TREE_DATA 0), s.rd (R.CLS_TREE_DATA 1), s.rd (R.CLS_TREE_DATA 2), v]
    (if s.bit F.CLS_TREE_ADDR_AUTO_INC then s1.setFld F.CLS_TREE_ADDR_NODE (n + 1) else s1).viewTree

/-- The count of the rule counter selected, as CNT_HOLD lets it show (R38, R383). -/
def State.shownRule (s : State) : Nat :=
  mapGet 0 (match s.rcntHeld with | some m => m | none => s.rcnt) (s.fld F.CLS_RCNT_SEL_IDX)

/-- The computed registers of page CLS. -/
def readCLS (s : State) (o : Nat) : Option Word :=
  if o = 0x04C then
    some (BitVec.ofNat 32 ((List.finRange 16).foldl (fun n e =>
      n + (match (s.epochs[e]).st with | .free => 0 | .current => 1 | .draining => 2) * 2 ^ (2 * e.val)) 0))
  else if o = 0x054 then some (BitVec.ofNat 32 (s.held (Fin.ofNat 16 (s.fld F.CLS_EPOCH_SEL_EPOCH)) + 2 ^ 16))
  else if o = 0x05C then some (BitVec.ofNat 32 (1 + b2n (s.nodeLocked (s.fld F.CLS_TREE_ADDR_NODE)) * 2))
  else if o = 0x0CC then some (BitVec.ofNat 32 s.shownRule)
  else if o = 0x0D0 then some (BitVec.ofNat 32 (s.shownRule / 2 ^ 32))
  else none

/-! ### Commands -/

/-- CLASSIFY_WALK (R360, R363, R369). -/
def execClassifyWalk (pipe : Fin 4) (ueAt : Option Nat) (s : State) : Res :=
  match (s.pipes[pipe]).cls with
  | [] => .next s
  | k :: ks =>
    if s.behindMark pipe 1 k.ord then .next s
    else
      let s1 := s.setPipe pipe { s.pipes[pipe] with cls := ks }
      let ep := if ¬ s.bit F.CLS_CLS_CTL_EN then none else k.epoch.or (s.epochFor pipe k.src)
      match ep with
      | none => .next ((s1.bump R.CLS_CNT_NO_RULES).retireEpochs)
      | some e =>
        let x := s.epochs[e]
        match s.walkFrom x k.fullKey x.root ueAt 32 with
        | .leaf l =>
          .next (((s1.bump64 R.CLS_CNT_CLS_LO R.CLS_CNT_CLS_HI 1).leafAction pipe { k with epoch := some e } l).retireEpochs)
        | .ue => .next ((((s1.bump R.CLS_CNT_TREE_UE).fire P.CLS E.CLS_TREE_UE)).retireEpochs)
        | .fault =>
          let s2 := (s1.bump R.CLS_CNT_WALK_FAULT).fire P.CLS E.CLS_WALK_FAULT
          match (if x.has (x.dflt / 4096) then leafOf (s.node x.dflt) else none) with
          | some l => .next ((s2.leafAction pipe { k with epoch := some e } l).retireEpochs)
          | none => .next ((s2.bump R.CLS_CNT_NO_RULES).retireEpochs)

/-- RECIRCULATE (R372). -/
def execRecirculate (pipe : Fin 4) (s : State) : Res :=
  let x := s.pipes[pipe]
  match x.rcOut with
  | [] => .next s
  | k :: ks =>
    if 64 ≤ x.rc.length then
      .next ((((s.setPipe pipe { x with rcOut := ks }).bump R.CLS_CNT_RC_DROP).fire P.CLS E.CLS_RC_DROP).retireEpochs)
    else
      .next ((s.setPipe pipe { x with rcOut := ks, rc := x.rc ++ [{ k with pass := k.pass + 1 }] }).bump R.CLS_CNT_RECIRC)

/-- FLOW_LOOKUP (R376, R377): the packet that is first at the flow stage. -/
def execFlowLookup (pipe : Fin 4) (ue : Bool) (s : State) : Res :=
  match (s.pipes[pipe]).flow with
  | [] => .next s
  | k :: ks =>
    if s.behindMark pipe 2 k.ord then .next s
    else .next ((s.setPipe pipe { s.pipes[pipe] with flow := ks }).flowStage pipe k ue)

/-- FLOW_AGE (R378). -/
def execFlowAge (ext : Bool) (idx : Nat) (s : State) : Res :=
  let c := s.ctx ext idx
  let age := s.fld F.CLS_FLOW_CTL_AGE_MS
  let past := (s.flowMs + 65536 - ofBytesBE ((c.drop 52).take 2)) % 65536
  .next (if age ≠ 0 ∧ ctxBit c 7 ∧ (c.getD 54 0).getLsbD 0 ∧ age < past ∧ ¬ (ext ∧ s.ctxAbove idx) then
    (s.setCtx ext idx (c.take 40 ++ [(c.getD 40 0) &&& 0x7F] ++ c.drop 41)).bump R.CLS_CNT_AGED
  else s)

/-- FLOW_READ (R379, R381). -/
def execFlowRead (r : Req) (v : Word) (ue : Bool) (s : State) : Res :=
  .next (s.access r R.CLS_FLOW_CMD true (fun t => t.opFlowCmd r (v ||| 1) ue))

/-- FLOW_WRITE (R379). -/
def execFlowWrite (r : Req) (v : Word) (s : State) : Res :=
  .next (s.access r R.CLS_FLOW_CMD true (fun t => t.opFlowCmd r (v ||| 2) false))

/-- FLOW_INVALIDATE (R379). -/
def execFlowInvalidate (r : Req) (v : Word) (s : State) : Res :=
  .next (s.access r R.CLS_FLOW_CMD true (fun t => t.opFlowCmd r (v ||| 4) false))

/-- TREE_DATA_WRITE (R365): a write of TREE_DATA3. -/
def execTreeDataWrite (r : Req) (v : Word) (s : State) : Res :=
  .next (s.access r (R.CLS_TREE_DATA 3) true (fun t => t.opTreeData3 r v))

/-- CORE_TREE_STORE (R546): the core holds the words 0-2 of a node in order; the store of word 3 writes the node. -/
def execCoreTreeStore (n : Fin 8) (node : Nat) (word : Fin 4) (v : Word) (full : Bool) (s : State) : Res :=
  let hold := s.cpu.nodes[n]
  let put := fun (t : State) (h : Option NodeHold) => { t with cpu := { t.cpu with nodes := t.cpu.nodes.set n h } }
  let fault := s.coreFault n 7 (nodeAddr node + 4 * word.val)
  if 2 ^ 20 ≤ node then .fault .illFormed
  else if ¬ s.reaches (.core n) then .next s
  else if ¬ full then .next fault
  else if word = 0 then .next (put s (some ⟨node, [v]⟩))
  else
    match hold with
    | some h =>
      if h.node = node ∧ h.words.length = word.val then
        if word = 3 then
          .next (if s.nodeLocked node ∨ s.testing 1 (some (node / 4096)) then put fault none
            else
              let t := (s.reply .done).storeNode node (h.words ++ [v])
              put (if s.fld F.CLS_TREE_ADDR_NODE = node then t.viewTree else t) none)
        else .next (put s (some ⟨node, h.words ++ [v]⟩))
      else .next (if word = 3 then fault else put s none)
    | none => .next (if word = 3 then fault else s)

/-- POLICE (R462). -/
def execPolice (pipe : Fin 4) (s : State) : Res :=
  match (s.pipes[pipe]).pol with
  | [] => .next s
  | k :: ks =>
    if s.behindMark pipe 3 k.ord then .next s
    else
      let s1 := s.setPipe pipe { s.pipes[pipe] with pol := ks }
      if k.leaf.polEn then
        match s1.policer pipe k.leaf.policer with
        | (true, s2) => .next (s2.setPipe pipe { s2.pipes[pipe] with buf := (s2.pipes[pipe]).buf ++ [k] })
        | (false, s2) => .next s2
      else .next (s1.setPipe pipe { s1.pipes[pipe] with buf := (s1.pipes[pipe]).buf ++ [k] })

/-- The priority of a received packet: the PCP of its outer VLAN tag, or DFLT_PRI of its lane (R498). -/
def State.rxPriority (s : State) (k : Pkt) : Nat :=
  if isTpid (k.half 12) then k.byte 14 / 32 else if k.src < 48 then s.fld (F.BPQ_FC_CFG_DFLT_PRI k.src) else 0

/-- A packet with a buffer goes on from pipeline `pipe`: to the exception ring, or towards its queue. -/
def State.sendOn (s : State) (pipe : Fin 4) (q : Pkt) : State :=
  if q.queue = excQueue then { s with excWait := s.excWait ++ [q] }
  else s.setPipe pipe { s.pipes[pipe] with enq := (s.pipes[pipe]).enq ++ [q] }

/-- Packet `k` goes on in the buffer of handle `h`; a FORWARD_COPY leaf also sends a copy, which shares the buffer, to the
exception queue. -/
def State.sendCopies (s : State) (pipe : Fin 4) (k : Pkt) (h : Nat) : State :=
  let k1 := { k with hdl := some h, copy := false }
  if k.copy then
    let s1 := { (s.bufShare h 1 k.queue k.queue 0).2 with nextPkt := s.nextPkt + 1 }
    (s1.sendOn pipe k1).sendOn pipe { k1.except 2 with id := s.nextPkt }
  else s.sendOn pipe k1

/-- BUFFER_ALLOCATE (R390, R392, R393, R402): the first packet at the buffer stage takes a buffer, into which its bytes go;
an injected packet already has one. A FORWARD_COPY shares it with the exception queue. -/
def execBufferAllocate (pipe : Fin 4) (s : State) : Res :=
  match (s.pipes[pipe]).buf with
  | [] => .next s
  | k :: ks =>
    let s1 := s.setPipe pipe { s.pipes[pipe] with buf := ks }
    match k.hdl with
    | some h => .next ((s1.setBuf (h / 128) { s1.buf (h / 128) with owner := k.queue }).sendCopies pipe k h)
    | none =>
      if 65536 < k.len then .next ((s1.bump R.BPM_CNT_TOO_LONG).fire P.BPM E.BPM_TOO_LONG)
      else
        match s1.allocate k.queue k.len with
        | (some key, s2) =>
          let s3 := s2.setBuf key { s2.buf key with rx := some (k.src, k.len, s2.rxPriority k) }
          .next ((s3.storeBytes (s3.bufAddr key) k.data).sendCopies pipe k (s3.handleOf key))
        | (none, s2) => .next ((s2.bump R.BPM_CNT_NOBUF).fire P.BPM E.BPM_NOBUF)

/-- ENQUEUE (R447): the first packet with a buffer joins its queue. -/
def execEnqueue (pipe : Fin 4) (s : State) : Res :=
  match (s.pipes[pipe]).enq with
  | [] => .next s
  | k :: ks => .next ((s.setPipe pipe { s.pipes[pipe] with enq := ks }).enqueue k)

end Sys2Proof.Machine
end

