-- ==== Sys2Proof/Machine/Boundary.lean ====
section
/-! DEFINITION. The tributary map (R193, R225-R228), and how the parts of a commit group switch and its pages apply (R50-R61):
units, page applies, the actions that go with a switch. -/

namespace Sys2Proof.Machine

open Sys2Proof

/-! ### The tributary map -/

/-- The entry of context `ctx` in a copy of the map, {HI, LO}. -/
def State.mapEntry (s : State) (copy ctx : Nat) : Nat := mapGet 0 s.tmap (copy * 1024 + ctx)

/-- Field [lo + n - 1 : lo] of an entry. -/
def entBits (e lo n : Nat) : Nat := e / 2 ^ lo % 2 ^ n

/-- CLASS. -/
def entClass (e : Nat) : Nat := entBits e 1 3

/-- n of class 4. -/
def entN (e : Nat) : Nat := if entBits e 4 5 = 0 then 32 else entBits e 4 5

/-- CHAN. -/
def entChan (e : Nat) : Nat := entBits e 9 2

/-- DIR: 0 two-way, 1 fibre to lane, 2 lane to fibre, 3 hairpin. -/
def entDir (e : Nat) : Nat := entBits e 11 2

/-- The entry is in service: ENABLE, and a CLASS that is not reserved. -/
def entOn (e : Nat) : Bool := natBit e 0 && decide (entClass e ≤ 4)

/-- The slot directions that an entry claims: lane, slot, and whether it is the transmit direction (R195). -/
def entClaims (e : Nat) : List (Nat × Nat × Bool) :=
  let l := entBits e 13 6
  let t := entBits e 19 4
  if entDir e = 0 then [(l, t, false), (l, t, true)]
  else if entDir e = 1 then [(l, t, true)]
  else if entDir e = 2 then [(l, t, false)]
  else [(l, t, false), (entBits e 23 6, entBits e 32 4, true)]

/-- A lower-numbered context of the copy claims a slot direction of context `ctx` (R228). -/
def State.mapConflict (s : State) (copy ctx : Nat) : Bool :=
  let e := s.mapEntry copy ctx
  entOn e && (List.range ctx).any (fun i =>
    let f := s.mapEntry copy i
    entOn f && (entClaims f).any (fun x => (entClaims e).contains x))

/-- The copy of the map that context `ctx` uses (R225). -/
def State.tribCopy (s : State) (ctx : Fin 1024) : Nat := s.cfgFld (.trib ctx) F.TRB_MAP_CTL_ACTIVE

/-- The entry of a context in service, if it is: TRB_CTL.EN, enabled, not held disabled by a conflict. -/
def State.served (s : State) (ctx : Fin 1024) : Option Nat :=
  let c := s.tribCopy ctx
  let e := s.mapEntry c ctx.val
  if s.bit F.TRB_TRB_CTL_EN && entOn e && !s.mapConflict c ctx.val then some e else none

/-- A context's record. -/
def State.trib (s : State) (ctx : Fin 1024) : Trib := mapGet {} s.tribs ctx.val

/-- Replaces a context's record. -/
def State.setTrib (s : State) (ctx : Fin 1024) (x : Trib) : State := { s with tribs := mapPut {} s.tribs ctx.val x }

/-- Sets bits of ST_FLAGS.LATCH; a bit newly set sets the context's bit of TRIB_ALM, whose rise raises TRIB_ALARM
(R231). -/
def State.tribFlag (s : State) (ctx : Fin 1024) (bits : BitVec 9) : State :=
  let x := s.trib ctx
  if bits &&& ~~~ x.latch = 0 then s
  else
    let s1 := s.setTrib ctx { x with latch := x.latch ||| bits }
    let k := R.TRB_TRIB_ALM (ctx.val / 32)
    if (s.rd k).getLsbD (ctx.val % 32) then s1 else (s1.setFld ⟨k, ctx.val % 32, 1⟩ 1).fire P.TRB E.TRB_TRIB_ALARM

/-- The entry has a downstream direction: two-way, fibre to lane. -/
def entDown (e : Nat) : Bool := decide (entDir e = 0) || decide (entDir e = 1)

/-- The label of the class (R215). -/
def entLabel (e : Nat) : Byte := if entClass e = 4 then 0x02 else 0x01

/-- The label accepted from the fibre is neither the class's, nor unequipped, nor a test signal. -/
def Trib.tlm (x : Trib) (e : Nat) : Bool :=
  match x.labFib.value with
  | some v => decide (v ≠ 0) && decide (v ≠ 0xFE) && decide (v ≠ entLabel e)
  | none => false

/-- Channel `c` signals loss of frame to the demapper (R164). -/
def State.frameGone (s : State) (c : Nat) : Bool :=
  let x := s.dsf.toList.getD c {}
  match x.st with
  | .aligned => false
  | .coast => !x.planned
  | _ => true

/-- Channel `c` signals AIS to the demapper (R188). -/
def State.chanAis (s : State) (c : Nat) : Bool :=
  decide ((s.dsf.toList.getD c {}).psl = some 0xFF) && decide (s.fld F.DSF_PSL_CFG_PSL_EXP ≠ 0xFF)

/-- A context restarts with entry `e`: its stores are emptied (R208, R227); a channel that has lost its frame, or carries AIS, says so to
a context that joins it (R213). -/
def State.tribRestart (s : State) (ctx : Fin 1024) (e : Nat) : State :=
  let x := s.trib ctx
  let loc := entDown e && s.frameGone (entChan e)
  let ais := entDown e && s.chanAis (entChan e)
  let s1 := s.setTrib ctx { latch := x.latch, seq := x.seq, labLane := x.labLane, staLane := x.staLane, labFib := x.labFib,
                            staFib := x.staFib, rateDown := x.rateDown, rateUp := x.rateUp, outAt := s.clock.mono,
                            loc := loc, ais := ais }
  let s2 := if loc then s1.stopTimer (T.loc ctx.val) else s1.startTimer (T.loc ctx.val)
  s2.tribFlag ctx (BitVec.ofNat 9 (b2n (loc && !x.loc) + b2n (ais && !x.ais) * 2))

/-- A context passes from entry `old` to entry `new` (R215, R227, R228). -/
def State.tribSwitch (s : State) (ctx : Fin 1024) (old new copy : Nat) : State :=
  let s1 := if entClass old ≠ entClass new ∨ entBits old 4 5 ≠ entBits new 4 5 ∨ entChan old ≠ entChan new ∨
      (natBit new 0 ∧ ¬ natBit old 0) then s.tribRestart ctx new else s
  let x := s.trib ctx
  let s2 := if x.tlm new && !x.tlm old then s1.tribFlag ctx 0x004 else s1
  if s2.mapConflict copy ctx.val then (s2.tribFlag ctx 0x100).fire P.TRB E.TRB_MAP_CONFLICT else s2

/-! ### The parts of a group (R51, R56) -/

/-- The stages of a kind in the four pipelines. -/
def allPipes (st : Stage) : List ApplyUnit := (List.finRange 4).map (fun p => .stage p st)

/-- The pair whose roll a register orders. -/
def rollPair (k : Nat) : Fin 8 := Fin.ofNat 8 ((ofsOf k - 0x200) / 16)

/-- The parts that must switch before the write of `v` to the register at `k` has applied. -/
def State.unitsOf (s : State) (ws : SMap Word) (k : Nat) (v : Word) : List ApplyUnit :=
  let p := pageOf k
  if p = P.PRS then allPipes .parse
  else if p = P.CLS then (if k = R.CLS_FLOW_MASK_LO ∨ k = R.CLS_FLOW_MASK_HI then allPipes .flow else allPipes .classify)
  else if p = P.POL then allPipes .police
  else if p = P.GAT then
    ((List.finRange 48).filter (fun l => decide ((gateBit l.val).key = k) &&
      decide (getField v (gateBit l.val).lo 1 ≠ s.fld (gateBit l.val)))).map .lane
  else if p = P.UPB then (List.finRange 4).map .burst
  else if p = P.TRB then
    if getField v 0 1 = s.fld F.TRB_MAP_CTL_ACTIVE then []
    else ((List.finRange 1024).filter (fun c => entOn (s.mapEntry (s.fld F.TRB_MAP_CTL_ACTIVE) c.val))).map .trib
  else if p = P.LCK then
    let n := rollPair k
    if getField (mapGet 0 ws (R.LCK_ROLL_CTL n.val)) 0 1 = 1 then [.roll n] else []
  else [.entry k]

/-- The page of a part. -/
def unitPage : ApplyUnit → Nat
  | .stage _ .parse => P.PRS
  | .stage _ .classify => P.CLS
  | .stage _ .flow => P.CLS
  | .stage _ .police => P.POL
  | .entry k => pageOf k
  | .lane _ => P.GAT
  | .burst _ => P.UPB
  | .trib _ => P.TRB
  | .roll _ => P.LCK

/-- The stream, lane or port whose scheduler a queue belongs to (R445): streams from 0, lanes from 1,024, ports from 1,072; an upstream
queue that feeds no stream has none. -/
def State.queueSched (s : State) (q : Nat) : Option Nat :=
  if q < 8192 then
    let e := mapGet 0 s.gsm (s.fld F.UPB_GSM_CTL_ACTIVE * 2 ^ 13 + q)
    if natBit e 15 then some (e % 1024) else none
  else if q < 8960 then some (1024 + (q - 8192) / 16)
  else some (1072 + (q - 8960) / 4)

/-- The scheduler that a register of SCH or SHP concerns (R445). -/
def State.regSched (s : State) (k : Nat) : Option Nat :=
  let n := k / 0x100000 - 1
  if pageOf k = P.SCH ∨ n < 8192 then s.queueSched n
  else if n < 9216 then some (n - 8192)
  else s.queueSched (n - 1024)

/-- The registers at `k` and `j` belong to one part of a group: to the pools, to one scheduler, to one shaper, or to one queue that
feeds no stream (R56). -/
def State.samePart (s : State) (k j : Nat) : Bool :=
  if pageOf k = P.BPM then decide (pageOf j = P.BPM)
  else if pageOf j = P.BPM then false
  else
    match s.regSched k with
    | some n => decide (s.regSched j = some n)
    | none => decide (s.regSched j = none) && decide (k / 0x100000 = j / 0x100000)

/-- The parts of a slot's group on page `p`. -/
def State.pageUnits (s : State) (x : Slot) (p : Nat) : List ApplyUnit :=
  ((x.writes.filter (fun e => decide (pageOf e.1 = p))).map (fun e => s.unitsOf x.writes e.1 e.2)).flatten.dedup

/-- The die of page `p` has reached the apply decision of the group (R65, R69). -/
def State.decided (s : State) (x : Slot) (p : Nat) : Bool :=
  decide (x.st = .applying) && (!linePage p || s.seam.preps.any (fun y => decide (y.tag = x.tag) && y.applied))

/-! ### A page applies (R58, R60) -/

/-- Loads the entry that TBL_ADDR addresses into TBL_DATA (R230). -/
def State.viewTbl (s : State) : State :=
  let a := s.fld F.TRB_MAP_CTL_ACTIVE
  let e := s.mapEntry (if s.bit F.TRB_TBL_ADDR_VIEW then a else 1 - a) (s.fld F.TRB_TBL_ADDR_CTX)
  ((s.wr R.TRB_TBL_DATA_LO (BitVec.ofNat 32 e)).wr R.TRB_TBL_DATA_HI (BitVec.ofNat 32 (e / 2 ^ 32))).setFld F.TRB_TBL_STAT_READY 1

/-- Loads the entry that GSM_ADDR addresses into GSM_DATA. -/
def State.viewGsm (s : State) : State :=
  let a := s.fld F.UPB_GSM_CTL_ACTIVE
  let copy := if s.bit F.UPB_GSM_ADDR_VIEW then a else 1 - a
  (s.wr R.UPB_GSM_DATA (BitVec.ofNat 32 (mapGet 0 s.gsm (copy * 2 ^ 13 + s.fld F.UPB_GSM_ADDR_QUEUE)))).setFld F.UPB_GSM_STAT_READY 1

/-- The registers of page `p` that show a selected entry follow what its tables now hold (R230, R473). -/
def State.refreshViews (s : State) (p : Nat) : State :=
  if p = P.TRB then s.viewTbl
  else if p = P.UPB then s.viewGsm
  else if p = P.BPM then s.viewQmap
  else if p = P.PRS then s.viewProg
  else if p = P.GAT then (List.range 10).foldl State.viewGate s
  else s

/-- Rule sets whose epoch changes when the group of slot `x` applies at the classifier. -/
def rootsOf (x : Slot) : List Nat := (List.range 8).filter (fun r => writesRoot x.writes r)

/-- The epochs of a rule set change over (R367, R370). -/
def State.turnEpoch (s : State) (r : Nat) : State :=
  let new := s.newEpoch r
  let s1 := match s.currentEpoch r with
    | some e => s.setEpoch e { s.epochs[e] with st := .draining }
    | none => s
  s1.setEpoch new { s1.epochs[new] with st := .current }

/-- Removes what is left of a group's markers, which have nothing more to switch. -/
def State.dropMarks (s : State) (tag : BitVec 8) : State :=
  let c := s.cmt
  { s with cmt := { c with waiting := c.waiting.filter (fun w => decide (w.1 ≠ tag)),
                           markers := c.markers.filter (fun m => decide (m.tag ≠ tag)) },
           pipes := s.pipes.map (fun p => { p with arr := p.arr.filter (fun a => decide (a ≠ .mark tag)) }) }

/-- Page `p` applies the group of slot `i`: reads return the new content, COMMIT_EPOCH advances; the last page ends the
group. -/
def State.applyPage (s : State) (i : Fin 4) (p : Nat) : State :=
  let x := s.cmt.slots[i]
  let mine := x.writes.filter (fun e => decide (pageOf e.1 = p))
  let s1 := (mine.foldl (fun t e => t.wr e.1 e.2) s).refreshViews p
  let s2 := (s1.setFld (F.HDR_COMMIT_EPOCH_EPOCH p) (s1.fld (F.HDR_COMMIT_EPOCH_EPOCH p) + 1)).setFld
    (F.HDR_COMMIT_EPOCH_TAG p) x.tag.toNat
  let s3 := { s2 with hif := { s2.hif with mirPend := if s2.hif.mirPend.contains p then s2.hif.mirPend else s2.hif.mirPend ++ [p] } }
  let s4 := if p = P.CLS then ((rootsOf x).foldl State.turnEpoch s3) else s3
  let left := x.pages.filter (fun q => decide (q ≠ p))
  let s5 := s4.setSlot i { s4.cmt.slots[i] with pages := left }
  let s6 := if p = P.CLS then s5.retireEpochs else s5
  if left = [] then
    let s7 := s6.slotApplied i
    ({ s7 with seam := { s7.seam with preps := s7.seam.preps.filter (fun y => decide (y.tag ≠ x.tag)) } }).dropMarks x.tag
  else s6

/-- The pages of slot `i` whose parts have all switched apply. -/
def State.settle (s : State) (i : Fin 4) : State :=
  (s.cmt.slots[i]).pages.foldl (fun t p =>
    let x := t.cmt.slots[i]
    if t.decided x p && (t.pageUnits x p).all (fun u => x.switched.contains u) then t.applyPage i p else t) s

/-! ### A part switches -/

/-- Marks a part as switched. -/
def State.markUnit (s : State) (i : Fin 4) (u : ApplyUnit) : State :=
  let x := s.cmt.slots[i]
  if x.switched.contains u then s else s.setSlot i { x with switched := x.switched ++ [u] }

/-- The first stage of its kind to switch in the group. -/
def firstStage (x : Slot) (st : Stage) : Bool := !(allPipes st).any (fun u => x.switched.contains u)

/-- The new epochs of the group take their values when it first switches at a classifier (R367). -/
def State.loadEpochs (s : State) (i : Fin 4) : State :=
  let x := s.cmt.slots[i]
  let v := fun (f : Fld) => getField (mapGet (s.rd f.key) x.writes f.key) f.lo f.w
  (rootsOf x).foldl (fun t r =>
    t.setEpoch (t.newEpoch r) { st := .free, root := v (F.CLS_RS_ROOT_ROOT r), base := v (F.CLS_RS_EXT_BASE_BLK r),
                                nblk := v (F.CLS_RS_EXT_NBLK r), dflt := v (F.CLS_RS_DFLT_DFLT r) }) s

/-- The policers that the group writes are set when it first switches at a policer stage (R464). -/
def State.setPolicers (s : State) (i : Fin 4) : State :=
  let x := s.cmt.slots[i]
  let ns := (((mapKeys x.writes).filter (fun k => decide (pageOf k = P.POL))).map (fun k => k / 0x100000 - 1)).dedup
  ns.foldl (fun t n => t.setPolicer n (mapGet (t.rd (R.POL_POL_CFG n)) x.writes (R.POL_POL_CFG n))) s

/-- A part `u` of the group of slot `i` switches, with the action of its block, and the pages that have switched wholly
apply. -/
def State.switchUnit (s : State) (i : Fin 4) (u : ApplyUnit) : State :=
  let x := s.cmt.slots[i]
  if ¬ s.decided x (unitPage u) ∨ ¬ (s.pageUnits x (unitPage u)).contains u ∨ x.switched.contains u then s
  else
    let s1 := match u with
      | .stage _ .classify => if firstStage x .classify then (s.loadEpochs i).markUnit i u else s.markUnit i u
      | .stage _ .police => if firstStage x .police then (s.setPolicers i).markUnit i u else s.markUnit i u
      | .stage _ _ => s.markUnit i u
      | .entry k =>
        let mates := (mapKeys x.writes).filter (fun j =>
          ([P.SCH, P.SHP, P.BPM].contains (pageOf j)) && s.samePart k j && !x.switched.contains (.entry j))
        let t := mates.foldl (fun (t : State) j => t.markUnit i (.entry j)) s
        (((mates.filter (fun j => decide (pageOf j = P.SHP))).map (fun j => j / 0x100000 - 1)).dedup).foldl State.setShaper t
      | .lane _ => ((s.markUnit i u).bump R.GAT_CNT_SWITCH).fire P.GAT E.GAT_LIST_SWITCHED
      | .trib c =>
        let a := s.fld F.TRB_MAP_CTL_ACTIVE
        (s.markUnit i u).tribSwitch c (s.mapEntry a c.val) (s.mapEntry (1 - a) c.val) (1 - a)
      | .burst _ => s.markUnit i u
      | .roll _ => s.markUnit i u
    s1.settle i

/-- The slots in APPLYING, and with them their groups. -/
def State.applyingSlots (s : State) : List (Fin 4) := (List.finRange 4).filter (fun i => decide (s.cmt.slots[i].st = .applying))

/-- A part switches for whichever group in APPLYING has it. -/
def State.switchAny (s : State) (u : ApplyUnit) : State := s.applyingSlots.foldl (fun t i => t.switchUnit i u) s

/-- The parts of a group that switch at the apply decision itself: contexts that carry nothing in the active copy, channels
whose grant table is empty (R298), lanes whose list has no cycle (R468), queues that feed no stream (R461). -/
def State.switchNow (s : State) (i : Fin 4) : State :=
  let x := s.cmt.slots[i]
  let s0 := if s.decided x P.TRB && x.pages.contains P.TRB then
      let a := s.fld F.TRB_MAP_CTL_ACTIVE
      if getField (mapGet 0 x.writes R.TRB_MAP_CTL) 0 1 = a then s
      else
        ((List.finRange 1024).filter (fun c => !entOn (s.mapEntry a c.val) && entOn (s.mapEntry (1 - a) c.val))).foldl
          (fun (t : State) (c : Fin 1024) => (t.markUnit i (.trib c)).tribSwitch c (s.mapEntry a c.val) (s.mapEntry (1 - a) c.val) (1 - a)) s
    else s
  let us := (x.pages.map (fun p => if s0.decided x p then s0.pageUnits x p else [])).flatten
  let now := us.filter (fun u => match u with
    | .burst c => decide ((s.upb[c]).gt = []) && decide ((s.upb[c]).fixed = [])
    | .lane l => decide ((s.gateList l.val (s.gateCopy l)).len = 0)
    | .entry k => decide (pageOf k ≠ P.BPM) && decide (s.regSched k = none)
    | _ => false)
  (now.foldl (fun t u => t.switchUnit i u) s0).settle i

/-! ### Commands -/

/-- MARKER_INJECT (R50, R55): the group's marker, first in the order of its pipeline, enters the pipeline behind what has
entered it. -/
def execMarkerInject (tag : BitVec 8) (pipe : Fin 4) (s : State) : Res :=
  match s.cmt.waiting.find? (fun w => decide (w.2 = pipe)) with
  | some w =>
    if w.1 ≠ tag then .next s
    else
      let x := s.pipes[pipe]
      .next ((({ s with cmt := { s.cmt with waiting := s.cmt.waiting.erase w } }).setPipe pipe
        { x with arr := x.arr ++ [Arrival.mark tag] }).absorb pipe)
  | none => .next s

/-- The number of a stage in the order of a pipeline. -/
def stageNo : Stage → Nat
  | .parse => 0
  | .classify => 1
  | .flow => 2
  | .police => 3

/-- A packet of the stage stands ahead of place `ord`. -/
def Pipe.ahead (x : Pipe) (st : Stage) (ord : Nat) : Bool :=
  match st with
  | .parse => x.parse.any (fun z => decide (z.pkt.ord < ord))
  | .classify => x.cls.any (fun k => decide (k.ord < ord))
  | .flow => x.flow.any (fun k => decide (k.ord < ord))
  | .police => x.pol.any (fun k => decide (k.ord < ord))

/-- MARKER_PASS (R51, R53): the marker passes its next stage, once the packets ahead of it have, and the stage switches. -/
def execMarkerPass (tag : BitVec 8) (pipe : Fin 4) (st : Stage) (s : State) : Res :=
  match s.cmt.markers.find? (fun m => decide (m.pipe = pipe) && decide (m.tag = tag)) with
  | some m =>
    if m.passed ≠ stageNo st ∨ (s.pipes[pipe]).ahead st m.ord ∨
        s.cmt.markers.any (fun n => decide (n.pipe = pipe) && decide (n.ord < m.ord) && decide (n.passed ≤ m.passed)) then .next s
    else
      let ms := if st = .police then s.cmt.markers.erase m
        else s.cmt.markers.map (fun n => if n = m then { n with passed := n.passed + 1 } else n)
      let s1 := { s with cmt := { s.cmt with markers := ms } }
      match s1.slotOf tag with
      | some i => .next (s1.switchUnit i (.stage pipe st))
      | none => .next s1
  | none => .next s

/-- BOUNDARY_APPLY (R56): a block reaches its own boundary and applies its part of the group: with a register of SCH or SHP every
register of its scheduler, with one of BPM every register of the pools. A stage switches when its marker
passes it, a channel with a grant when it fixes a burst (R298), a roll at its frame (R327). -/
def execBoundaryApply (tag : BitVec 8) (u : ApplyUnit) (s : State) : Res :=
  match s.slotOf tag with
  | none => .next s
  | some i =>
    match u with
    | .stage _ _ => .next s
    | .roll _ => .next s
    | .burst c => .next (if (s.upb[c]).gt = [] ∧ (s.upb[c]).fixed = [] then s.switchUnit i u else s)
    | .entry _ => .next (s.switchUnit i u)
    | .lane _ => .next (s.switchUnit i u)
    | .trib _ => .next (s.switchUnit i u)

/-- GATE_SWITCH (R468): the first cycle start of the lane's old list after the apply decision. -/
def execGateSwitch (l : Fin 48) (s : State) : Res := .next (s.switchAny (.lane l))

end Sys2Proof.Machine
end

