-- ==== Sys2Proof/Machine/Ptp.lean ====
section
/-! DEFINITION. Page TCL: stamps and the transparent clock (R529-R536). -/

namespace Sys2Proof.Machine

open Sys2Proof

/-- Device time of the fabric die in 1/16 ns. -/
def State.fabStamp (s : State) : Nat := s.clock.fab / 4096

/-- Device time of the line die in 1/16 ns. -/
def State.lineStamp (s : State) : Nat := s.clock.line / 4096

/-! ### Transmit stamps (R530) -/

/-- The stamp point of a packet passes at egress. -/
def State.stampOut (s : State) (k : Pkt) (stamp : Nat) : State :=
  match k.tsTag with
  | none => s
  | some tag =>
    if s.tim.txts.length < 64 then
      ({ s with tim := { s.tim with txts := s.tim.txts ++ [(tag, stamp)] } }).fire P.TCL E.TCL_TXTS_READY
    else (s.bump R.TCL_CNT_TXTS_OVF).fire P.TCL E.TCL_TXTS_OVF

/-! ### Where a packet holds a PTP message -/

/-- A byte of a list. -/
def byteAt (bs : List Byte) (i : Nat) : Nat := (bs.getD i 0).toNat

/-- A half-word of a list, most significant byte first. -/
def halfAt (bs : List Byte) (i : Nat) : Nat := byteAt bs i * 256 + byteAt bs (i + 1)

/-- A PTP message in a packet: where it begins, and where the UDP checksum stands, if it has one and if it is IPv4. -/
structure PtpAt where
  ofs : Nat
  udp : Option (Nat × Bool)
deriving DecidableEq, Repr

/-- The destination port is one of PTP's. -/
def ptpPort (n : Nat) : Bool := decide (n = 319) || decide (n = 320)

/-- The PTP message that a packet carries under a mapping that TC_CTL enables, behind up to two VLAN tags (R531). -/
def State.findPtp (s : State) (bs : List Byte) : Option PtpAt :=
  let o := if isTpid (halfAt bs 12) then (if isTpid (halfAt bs 16) then 22 else 18) else 14
  let et := halfAt bs (o - 2)
  if et = 0x88F7 then (if s.bit F.TCL_TC_CTL_ETH then some ⟨o, none⟩ else none)
  else if et = 0x0800 then
    let u := o + byteAt bs o % 16 * 4
    if s.bit F.TCL_TC_CTL_IPV4 ∧ byteAt bs (o + 9) = 17 ∧ ptpPort (halfAt bs (u + 2)) then some ⟨u + 8, some (u + 6, true)⟩ else none
  else if et = 0x86DD then
    let u := o + 40
    if s.bit F.TCL_TC_CTL_IPV6 ∧ byteAt bs (o + 6) = 17 ∧ ptpPort (halfAt bs (u + 2)) then some ⟨u + 8, some (u + 6, false)⟩ else none
  else none

/-- The signed number that 8 bytes give. -/
def signed64 (n : Nat) : Int := if n < 2 ^ 63 then n else (n : Int) - 2 ^ 64

/-- One's-complement sum of 16-bit words. -/
def onesAdd (a b : Nat) : Nat := if a + b < 65536 then a + b else a + b - 65535

/-- The UDP checksum updated for words that change from `old` to `new`. -/
def checksumUpdate (c : Nat) (old new : List Nat) : Nat :=
  let x := (old.zip new).foldl (fun a w => onesAdd (onesAdd a (65535 - w.1)) w.2) (65535 - c)
  if 65535 - x = 0 then 65535 else 65535 - x

/-- A byte with its bits in the other order. -/
def revByte (b : Byte) : Byte := BitVec.ofNat 8 ((List.range 8).foldl (fun n i => n + b2n (b.getLsbD (7 - i)) * 2 ^ i) 0)

/-- The bytes of a packet with the FCS of R534 rewritten: its last four bytes, the CRC-32 of IEEE 802.3,
which takes each byte least significant bit first (log entry 35). -/
def refcs (bs : List Byte) : List Byte :=
  let body := bs.take (bs.length - 4)
  body ++ (toBytesBE 4 (crc32 (body.map revByte))).map revByte

/-- Rewrites the correctionField of the message at `m` by `d` in 2^-16 ns, the UDP checksum and the FCS (R532, R534). -/
def correct (bs : List Byte) (m : PtpAt) (d : Int) : List Byte :=
  let c := m.ofs + 8
  let old := (bs.drop c).take 8
  let new := toBytesBE 8 (((signed64 (ofBytesBE old) + d) % (2 ^ 64 : Int)).toNat)
  let bs1 := putBytes bs c new
  let words := fun (x : List Byte) => (List.range 4).map (fun i => halfAt x (2 * i))
  let bs2 := match m.udp with
    | some (u, v4) =>
      if v4 ∧ halfAt bs u = 0 then bs1 else putBytes bs1 u (toBytesBE 2 (checksumUpdate (halfAt bs u) (words old) (words new)))
    | none => bs1
  refcs bs2

/-- The key of the follow-up table: domainNumber, sourcePortIdentity, sequenceId (R533). -/
def fuKey (bs : List Byte) (m : PtpAt) : List Byte :=
  (bs.drop (m.ofs + 4)).take 1 ++ (bs.drop (m.ofs + 20)).take 12

/-- Stores a packet's corrected bytes, in the packet and in its buffer. -/
def State.restore (s : State) (k : Pkt) (bs : List Byte) : Pkt × State :=
  let k1 := { k with data := bs }
  let s1 := s.setQueue k.queue ((s.queue k.queue).map (fun x => if x.id = k.id then { x with data := bs } else x))
  (k1, match k.hdl with | some h => s1.storeBytes (s1.bufAddr (h / 128)) bs | none => s1)

/-- The transparent clock takes a packet at egress `port` (lanes 0-47, legacy ports 48-55, channels 56-59) with the egress
stamp `stamp` in 1/16 ns (R531-R535). -/
def State.tcEgress (s : State) (port : Nat) (k : Pkt) (stamp : Nat) : Pkt × State :=
  let fibre := decide (56 ≤ port) || (decide (56 ≤ k.src) && decide (k.src < 60))
  if ¬ s.bit F.TCL_TC_CTL_EN ∨ (fibre ∧ ¬ s.bit F.TCL_TC_CTL_FIBRE) then (k, s)
  else
    match s.findPtp k.data with
    | none => (k, s)
    | some m =>
      let type := byteAt k.data m.ofs % 16
      if byteAt k.data (m.ofs + 1) % 16 ≠ 2 ∨ ¬ (type = 0 ∨ type = 1 ∨ type = 8) then (k, s)
      else
        let n := s.tim.steps - k.steps
        if 3 < n then (k, (s.bump R.TCL_CNT_TC_SKIP).fire P.TCL E.TCL_TC_SKIP)
        else
          let r : Int := ((stamp : Int) - k.stamp) * 4096 + (s.tim.stepLog.take n).sum
          let two := s.bit F.TCL_TC_CTL_MODE
          let key := fuKey k.data m
          if type = 1 ∨ (type = 0 ∧ ¬ two) then
            let (k1, s1) := s.restore k (correct k.data m r)
            (k1, s1.bump R.TCL_CNT_TC_CORR)
          else if type = 0 then
            let fu := if 256 ≤ s.tim.fu.length then s.tim.fu.drop 1 else s.tim.fu
            (k, { s with tim := { s.tim with fu := fu ++ [⟨port, key, r⟩] } })
          else if ¬ two then (k, s)
          else
            match s.tim.fu.find? (fun e => decide (e.port = port) && decide (e.key = key)) with
            | some e =>
              let (k1, s1) := s.restore k (correct k.data m e.r)
              (k1, ({ s1 with tim := { s1.tim with fu := s1.tim.fu.erase e } }).bump R.TCL_CNT_TC_CORR)
            | none => (k, (s.bump R.TCL_CNT_FU_MISS).fire P.TCL E.TCL_FU_MISS)

/-- A packet leaves through egress `port` with its stamp: the transparent clock, then its transmit stamp. -/
def State.egress (s : State) (port : Nat) (k : Pkt) (stamp : Nat) : Pkt × State :=
  let (k1, s1) := s.tcEgress port k stamp
  (k1, s1.stampOut k1 stamp)

/-- FU_ENTRY_EXPIRE (R533): entry `idx` of the follow-up table, oldest first, has lived FU_AGE_US. -/
def execFuEntryExpire (idx : Fin 256) (s : State) : Res :=
  .next { s with tim := { s.tim with fu := s.tim.fu.eraseIdx idx.val } }

end Sys2Proof.Machine
end

