-- ==== Sys2Proof/Machine/Lanes.lean ====
section
/-! DEFINITION. Chapter 14: backplane lanes and legacy ports (R477-R508), and the selections of their schedulers
(R452, R453, R466, R467). -/

namespace Sys2Proof.Machine

open Sys2Proof

/-! ### Lanes -/

/-- A lane. -/
def State.lane (s : State) (l : Fin 48) : Lane := s.lanes[l]

/-- Replaces a lane. -/
def State.setLane (s : State) (l : Fin 48) (x : Lane) : State := { s with lanes := s.lanes.set l x }

/-- Replaces a legacy port. -/
def State.setPort (s : State) (p : Fin 8) (x : LPort) : State := { s with lports := s.lports.set p x }

/-- Event `b` of the lane's page, latched in CAUSE for the sources in bits 4-13 (R508). -/
def State.laneEvent (s : State) (l : Fin 48) (b : Nat) : State :=
  let x := s.lane l
  let s1 := if 4 ≤ b then s.setLane l { x with cause := x.cause ||| BitVec.ofNat 10 (2 ^ (b - 4)) } else s
  s1.fire (P.BPQ + l.val / 4) b

/-- LINK_CHG of the lane. -/
def State.linkChg (s : State) (l : Fin 48) : State := s.laneEvent l (l.val % 4)

/-- A mode that negotiates under clause 73 and trains (log entry 104). -/
def modeTrains (m : Nat) : Bool := decide (3 ≤ m) && decide (m ≤ 5)

/-- An Ethernet mode. -/
def modeEth (m : Nat) : Bool := decide (1 ≤ m) && decide (m ≤ 5)

/-- The FEC of a mode: a value that the mode does not allow is taken as the nearest allowed (R478). -/
def fecOf (mode f : Nat) : Nat :=
  if mode = 3 then min f 1 else if mode = 4 then min f 2 else if mode = 5 then 2 else 0

/-- The state to which "Start" leads (R485). -/
def State.startOf (s : State) (l : Fin 48) (mode : Nat) : LaneSt :=
  if s.bit (F.BPQ_LANE_CTL_AN_EN l.val) ∧ modeTrains mode then .negotiate
  else if s.bit (F.BPQ_LANE_CTL_TRAIN_EN l.val) ∧ modeTrains mode then .train
  else .sync

/-- A lane enters a state; link training runs against its timer (R480). -/
def State.laneTo (s : State) (l : Fin 48) (st : LaneSt) : State :=
  let s1 := s.setLane l { s.lane l with st := st }
  if st = .train then s1.startTimer (T.train l.val) else s1.stopTimer (T.train l.val)

/-- Start. -/
def State.laneStart (s : State) (l : Fin 48) : State := s.laneTo l (s.startOf l (s.lane l).mode)

/-- The lane restarts from OFF with the content of LANE_CTL (R484, R485). -/
def State.laneRestart (s : State) (l : Fin 48) : State :=
  let mode := s.fld (F.BPQ_LANE_CTL_MODE l.val)
  let x := s.lane l
  let s1 := if x.st = .up then s.bump (R.BPQ_CNT_LINK_DOWN l.val) else s
  let s2 := s1.setLane l { s1.lane l with todo := none, recal := .idle, mode := mode,
                                          fec := fecOf mode (s.fld (F.BPQ_LANE_CTL_FEC l.val)) }
  let s3 := { s2 with rows := s2.rows.set l {} }
  if mode ≠ 0 ∧ s.pins.ref156 then s3.laneStart l else s3.laneTo l .off

/-- The lane goes to SLEEP (R485). -/
def State.laneSleep (s : State) (l : Fin 48) : State :=
  (s.setLane l { s.lane l with todo := none }).laneTo l .sleep

/-- What waits for the end of the frame in transmission happens. -/
def State.laneTodo (s : State) (l : Fin 48) : State :=
  match (s.lane l).todo, (s.lane l).mac.tx with
  | some .restart, none => s.laneRestart l
  | some .sleep, none => s.laneSleep l
  | _, _ => s

/-- A write of LANE_CTL (R484, R485); in limp state a write of a MODE other than 0 is ignored (R610). -/
def State.opLaneCtl (s : State) (l : Fin 48) (v : Word) : State :=
  let s1 := s.store (R.BPQ_LANE_CTL l.val) v
  let x := s1.lane l
  if s.pwr.limp ∧ getField v 0 3 ≠ 0 then s
  else
  match x.st with
  | .off => s1.laneRestart l
  | .sleep => if s1.fld (F.BPQ_LANE_CTL_MODE l.val) = 0 then s1.laneRestart l else s1
  | _ => (s1.setLane l { x with todo := some .restart }).laneTodo l

/-- The 16 queues of a lane. -/
def laneQueues (l : Fin 48) : List Nat := (List.range 16).map (fun q => 8192 + 16 * l.val + q)

/-- A lane is drained (R494). -/
def State.drained (s : State) (l : Fin 48) : Bool :=
  let x := s.lane l
  decide (x.st = .up) && decide (x.mac.tx = none) && (laneQueues l).all (fun q => decide (s.queue q = []))

/-- A recalibration request (R495). -/
def State.recalRequest (s : State) (l : Fin 48) : State :=
  let x := s.lane l
  let wait := !s.bit (F.BPQ_LANE_CTL_RECAL_POLICY l.val)
  if s.drained l then (s.setLane l { x with recal := .running }).laneTo l .recal
  else if x.st = .up ∧ wait then s.setLane l { x with recal := .waiting }
  else (s.setLane l { x with recal := .refused }).laneEvent l E.BPQ_RECAL_REFUSED

/-- A lane in SLEEP wakes (R485). -/
def State.laneWake (s : State) (l : Fin 48) : State :=
  if (s.lane l).st = .sleep ∧ s.pins.ref156 then s.laneTo l .waking else s

/-- A write of LANE_CMD; SLEEP, WAKE, RECAL, RECAL_ABORT, RETRAIN in this order. -/
def State.opLaneCmd (s : State) (l : Fin 48) (v : Word) : State :=
  let awake := fun (t : State) => decide ((t.lane l).st = .up) || decide ((t.lane l).st = .sync) ||
    decide ((t.lane l).st = .negotiate) || decide ((t.lane l).st = .train)
  let s1 := if v.getLsbD 0 ∧ awake s then (s.setLane l { s.lane l with todo := some .sleep }).laneTodo l else s
  let s2 := if v.getLsbD 1 then s1.laneWake l else s1
  let s3 := if v.getLsbD 2 then s2.recalRequest l else s2
  let s4 := if v.getLsbD 3 ∧ (s3.lane l).recal = .waiting then s3.setLane l { s3.lane l with recal := .aborted } else s3
  if v.getLsbD 4 ∧ (s4.lane l).st = .up then
    ((s4.bump (R.BPQ_CNT_LINK_DOWN l.val)).laneStart l).linkChg l
  else s4

/-- The PCS of a lane in SYNC locks (R485). -/
def State.laneUp (s : State) (l : Fin 48) : State :=
  if (s.lane l).st = .sync then ((s.setLane l { s.lane l with signal := true }).laneTo l .up).linkChg l else s

/-- The PCS of a lane that is UP loses lock (R485). -/
def State.laneLost (s : State) (l : Fin 48) : State :=
  if (s.lane l).st = .up then ((s.bump (R.BPQ_CNT_LINK_DOWN l.val)).laneStart l).linkChg l else s

/-! ### Flow control (R496-R498, R503) -/

/-- SRC of a port (R343). -/
def srcOf : EthPort → Nat
  | .lane l => l.val
  | .port p => 48 + p.val

/-- Adds 1 to a counter of a port. -/
def State.portBump (s : State) (e : EthPort) (lane : Nat → Nat) (port : Nat → Nat) : State :=
  match e with
  | .lane l => s.bump (lane l.val)
  | .port p => s.bump (port p.val)

/-- An event of a legacy port, latched in CAUSE for the sources in bits 8-14. -/
def State.portEvent (s : State) (p : Fin 8) (b : Nat) : State :=
  let x := s.lports[p]
  let s1 := if 8 ≤ b then s.setPort p { x with cause := x.cause ||| BitVec.ofNat 7 (2 ^ (b - 8)) } else s
  s1.fire P.LMC b

/-- An event that a lane and a port both have. -/
def State.macEvent (s : State) (e : EthPort) (lane port : Nat) : State :=
  match e with
  | .lane l => s.laneEvent l lane
  | .port p => s.portEvent p port

/-- The flow-control mode of a port: 0 none, 1 PAUSE, 2 PFC. A legacy port supports 0 and 1 in full duplex (R496, R503). -/
def State.fcMode (s : State) (e : EthPort) : Nat :=
  match e with
  | .lane l => s.fld (F.BPQ_FC_CFG_FC_MODE l.val)
  | .port p => if (s.lports[p]).full ∧ s.fld (F.LMC_PORT_CFG_FC_MODE p.val) = 1 then 1 else 0

/-- The transmit side of a port. -/
def State.mac (s : State) (e : EthPort) : Mac :=
  match e with
  | .lane l => (s.lane l).mac
  | .port p => (s.lports[p]).mac

/-- Replaces the transmit side of a port. -/
def State.setMac (s : State) (e : EthPort) (m : Mac) : State :=
  match e with
  | .lane l => s.setLane l { s.lane l with mac := m }
  | .port p => s.setPort p { s.lports[p] with mac := m }

/-- The port receives and sends frames: an Ethernet lane that is UP or in RECAL, or a legacy port in use with its link up;
not in far-end loopback (R487, R489, R505). -/
def State.ethUp (s : State) (e : EthPort) : Bool :=
  match e with
  | .lane l => (decide ((s.lane l).st = .up) || decide ((s.lane l).st = .recal)) && modeEth (s.lane l).mode &&
      decide (s.fld (F.BPQ_LANE_CTL_LOOP l.val) ≠ 3)
  | .port p => s.bit (F.LMC_PORT_CFG_EN p.val) && (s.lports[p]).link

/-- A flow-control frame that the port does not act on (R496). -/
def State.fcIgnore (s : State) (e : EthPort) : State :=
  (s.portBump e R.BPQ_CNT_FC_IGN R.LMC_CNT_FC_IGN).macEvent e E.BPQ_FC_IGN E.LMC_FC_IGN

/-- A pause timer is set to a time in quanta; zero ends the pause (R497). Priority 8 stands for PAUSE. -/
def State.setPause (s : State) (e : EthPort) (pri quanta : Nat) : State :=
  if quanta = 0 then s.stopTimer (T.pause (srcOf e) pri) else s.startTimer (T.pause (srcOf e) pri)

/-- An acting or ignored PAUSE frame (R496, R497). -/
def State.takePause (s : State) (e : EthPort) (quanta : Nat) : State :=
  if s.fcMode e = 1 then (s.portBump e R.BPQ_CNT_PAUSE_RX R.LMC_CNT_PAUSE_RX).setPause e 8 quanta else s.fcIgnore e

/-- An acting or ignored PFC frame. -/
def State.takePfc (s : State) (e : EthPort) (en : BitVec 8) (quanta : List Nat) : State :=
  if s.fcMode e = 2 then
    (List.range 8).foldl (fun t p => if en.getLsbD p then t.setPause e p (quanta.getD p 0) else t)
      (s.portBump e R.BPQ_CNT_PAUSE_RX R.LMC_CNT_PAUSE_RX)
  else s.fcIgnore e

/-- Counts a frame accepted (R491). -/
def State.countRxOk (s : State) (e : EthPort) : State :=
  match e with
  | .lane l => s.bump64 (R.BPQ_CNT_RX_OK_LO l.val) (R.BPQ_CNT_RX_OK_HI l.val) 1
  | .port p => s.bump (R.LMC_CNT_RX_OK p.val)

/-- A received MAC control frame: EtherType 0x8808, then the opcode, then its operands (R496). -/
def State.controlFrame (s : State) (e : EthPort) (bs : List Byte) : State :=
  if halfAt bs 14 = 0x0001 then s.takePause e (halfAt bs 16)
  else if halfAt bs 14 = 0x0101 then
    s.takePfc e (BitVec.ofNat 8 (halfAt bs 16)) ((List.range 8).map (fun p => halfAt bs (18 + 2 * p)))
  else s.fcIgnore e

/-- XOFF_KIB, XON_KIB and PAUSE_TIME of a port. -/
def State.fcThr (s : State) (e : EthPort) : Nat × Nat × Nat :=
  match e with
  | .lane l => (s.fld (F.BPQ_FC_THR_XOFF_KIB l.val), s.fld (F.BPQ_FC_THR_XON_KIB l.val), s.fld (F.BPQ_FC_CFG_PAUSE_TIME l.val))
  | .port p => (s.fld (F.LMC_PORT_THR_XOFF_KIB p.val), s.fld (F.LMC_PORT_THR_XON_KIB p.val), s.fld (F.LMC_PORT_FC_PAUSE_TIME p.val))

/-- The held bytes of a port in KiB, rounded up (R498). -/
def State.heldKib (s : State) (e : EthPort) (pri : Option Nat) : Nat := (s.rxHeld (srcOf e) pri + 1023) / 1024

/-- Sends a flow-control frame (R498). -/
def State.sendPause (s : State) (e : EthPort) (xoff : Bool) (pfc : Option (BitVec 8)) (quanta : Nat) : State :=
  (s.portBump e R.BPQ_CNT_PAUSE_TX R.LMC_CNT_PAUSE_TX).emit (.pause e xoff pfc (BitVec.ofNat 16 quanta))

/-- The priorities whose held bytes satisfy `f`. -/
def State.priorities (s : State) (e : EthPort) (f : Nat → Bool) : BitVec 8 :=
  BitVec.ofNat 8 ((List.range 8).foldl (fun n p => if f (s.heldKib e (some p)) then n + 2 ^ p else n) 0)

/-- The held bytes have crossed a threshold: PAUSE or PFC goes out (R498). -/
def State.pauseSend (s : State) (e : EthPort) : State :=
  let (xoff, xon, time) := s.fcThr e
  let m := s.mac e
  if xoff = 0 ∨ ¬ s.ethUp e then s
  else if s.fcMode e = 1 then
    if ¬ m.xoff ∧ xoff ≤ s.heldKib e none then (s.setMac e { m with xoff := true }).sendPause e true none time
    else if m.xoff ∧ s.heldKib e none ≤ xon then (s.setMac e { m with xoff := false }).sendPause e false none 0
    else s
  else if s.fcMode e = 2 then
    let on := s.priorities e (fun k => decide (xoff ≤ k)) &&& ~~~ m.pfc
    let off := s.priorities e (fun k => decide (k ≤ xon)) &&& m.pfc
    let s1 := if on ≠ 0 then s.sendPause e true (some on) time else s
    let s2 := if off ≠ 0 then s1.sendPause e false (some off) 0 else s1
    s2.setMac e { m with pfc := (m.pfc ||| on) &&& ~~~ off }
  else s

/-- PAUSE_TIME / 2 quanta have passed with the total above XON_KIB (R498). -/
def State.pauseAgain (s : State) (e : EthPort) : State :=
  let (xoff, xon, time) := s.fcThr e
  let m := s.mac e
  if xoff = 0 ∨ ¬ s.ethUp e then s
  else if s.fcMode e = 1 then
    if m.xoff ∧ xon < s.heldKib e none then s.sendPause e true none time else s
  else if s.fcMode e = 2 then
    let again := s.priorities e (fun k => decide (xon < k)) &&& m.pfc
    if again ≠ 0 then s.sendPause e true (some again) time else s
  else s

/-! ### Reception (R491, R492) -/

/-- MAX_FRAME of a port. -/
def State.maxFrame (s : State) (e : EthPort) : Nat :=
  match e with
  | .lane l => s.fld (F.BPQ_FRAME_CFG_MAX_FRAME l.val)
  | .port p => if s.bit (F.LMC_PORT_CFG_OPT_2000 p.val) then 2000 else 1522

/-- A cut-through transmission of a discarded frame ends with an inverted FCS (R492). -/
def State.ctAbort (s : State) (l : Fin 48) : State :=
  ((s.bump (R.BPQ_CNT_CT_ABORT l.val)).laneEvent l E.BPQ_CT_ABORT).emit (.badFcs (.lane l))

/-- A frame is discarded. -/
def State.discardFrame (s : State) (f : FrameIn) : State := f.cut.foldl State.ctAbort s

/-- FEC code blocks of a frame (R508). -/
def State.countFec (s : State) (e : EthPort) (f : FrameIn) : State :=
  match e with
  | .lane l =>
    let s1 := (s.bumpBy (R.BPQ_CNT_FEC_CORR l.val) f.corr).bumpBy (R.BPQ_CNT_FEC_UNCORR l.val) f.unc
    if f.unc = 0 then s1 else s1.laneEvent l E.BPQ_FEC_UNCORR
  | .port _ => s

/-- A received frame is judged (R491). -/
def State.frameIn (s0 : State) (e : EthPort) (f : FrameIn) : State :=
  let s := s0.countFec e f
  if f.len ≤ 63 then (s.portBump e R.BPQ_CNT_RUNT R.LMC_CNT_RUNT).discardFrame f
  else if s.maxFrame e < f.len then
    ((s.portBump e R.BPQ_CNT_OVERSIZE R.LMC_CNT_OVERSIZE).macEvent e E.BPQ_OVERSIZE E.LMC_OVERSIZE).discardFrame f
  else if ¬ f.fcsOk ∨ f.unc ≠ 0 then (s.portBump e R.BPQ_CNT_FCS R.LMC_CNT_FCS).discardFrame f
  else if halfAt f.bytes 12 = 0x8808 then (s.countRxOk e).controlFrame e f.bytes
  else
    (s.countRxOk e).enterPath { src := srcOf e, len := f.len, data := f.bytes, stamp := f.stamp, steps := s.tim.steps }

/-! ### Transmission -/

/-- The bits per nanosecond of a lane's mode, as a ratio (R466). -/
def State.laneRate (s : State) (l : Fin 48) : Nat × Nat :=
  match (s.lane l).mode with
  | 1 => (1, 1)
  | 2 =>
    let v := s.fld (F.BPQ_LANE_CTL_SGMII_SPD l.val)
    if v = 0 then (1, 100) else if v = 1 then (1, 10) else (1, 1)
  | 3 => (10, 1)
  | 4 => (25, 1)
  | _ => (50, 1)

/-- tx of a packet of length `len` (R466). -/
def State.txTime (s : State) (l : Fin 48) (len : Nat) : Nat :=
  let (a, b) := s.laneRate l
  ((len + 20) * 8 * b + a - 1) / a

/-- The lane that a queue belongs to, and its number there. -/
def gateOf (q : Nat) : Nat := (q - 8192) % 16

/-- Discards the packets at the head of a queue that cannot be sent: in a dead buffer (R405), of a length that the port does
not send (R493), too long for every gate window (R467). -/
def State.cleanHead (s0 : State) (e : EthPort) (q : Nat) : Nat → State
  | 0 => s0
  | n + 1 =>
    let s := s0.dropDead q (s0.queue q).length
    match (s.waiting q).head? with
    | none => s
    | some k =>
      if k.len < 64 ∨ s.maxFrame e < k.len then
        ((s.leaveQueue k).portBump e R.BPQ_CNT_TX_DISC R.LMC_CNT_TX_DISC).cleanHead e q n
      else
        match e with
        | .port _ => s
        | .lane l =>
          match (s.gateList l.val (s.gateCopy l)).limit (gateOf q) with
          | some m =>
            if m < s.txTime l k.len then
              ((((s.leaveQueue k).bump (R.SCH_Q_DROP q)).bump R.GAT_CNT_GATE_OVERSIZE).fire P.GAT
                E.GAT_GATE_OVERSIZE).cleanHead e q n
            else s
          | none => s

/-- A backplane queue is paused (R452). -/
def State.paused (s : State) (l : Fin 48) (q : Nat) : Bool :=
  let pri := if s.ent (F.SCH_Q_CFG_PFC_SRC q) = 1 then (((s.waiting q).head?.map (fun k => k.leaf.tc)).getD 0) % 8
    else s.ent (F.SCH_Q_CFG_PFC_PRI q)
  s.running (T.pause l.val 8) || s.running (T.pause l.val pri)

/-- A backplane queue is eligible (R452). -/
def State.laneEligible (s : State) (l : Fin 48) (q : Nat) : Bool :=
  match (s.waiting q).head? with
  | none => false
  | some k => s.shaperPermits (q + 1024) && !s.paused l q && s.gateOpen l (gateOf q) (s.txTime l k.len)

/-- The packet at the head of queue `q` goes into transmission at port `e`. -/
def State.transmit (s : State) (e : EthPort) (q : Nat) : State :=
  match (s.waiting q).head? with
  | none => s
  | some k =>
    let s1 := s.markSelected q k.id
    let (k1, s2) := s1.egress (srcOf e) { k with sel := true } s.fabStamp
    s2.setMac e { s2.mac e with tx := some k1 }

/-- The frame in transmission has left the MAC or been given up; `count` says how it leaves its queue. -/
def State.endTx (s : State) (e : EthPort) (leave : State → Pkt → State) : State :=
  match (s.mac e).tx with
  | none => s
  | some k =>
    let s1 := (leave s k).setMac e { (leave s k).mac e with tx := none }
    match e with
    | .lane l => (s1.setLane l { s1.lane l with lag := 0 }).laneTodo l
    | .port p => s1.setPort p { s1.lports[p] with tries := 0, backoff := none }

/-- TX_START rises by one step below 5 (R499). -/
def State.raiseStart (s : State) (e : EthPort) : State :=
  let f := match e with
    | .lane l => F.BPQ_FRAME_CFG_TX_START l.val
    | .port p => F.LMC_PORT_CFG_TX_START p.val
  if s.fld f < 5 then s.setFld f (s.fld f + 1) else s

/-! ### Registers -/

/-- LANE_STAT.STATE as a number. -/
def laneStNum : LaneSt → Nat
  | .off => 0 | .sleep => 1 | .waking => 2 | .negotiate => 3 | .train => 4 | .sync => 5 | .up => 6 | .recal => 7

/-- RECAL_STATE as a number. -/
def recalNum : RecalSt → Nat
  | .idle => 0 | .waiting => 1 | .running => 2 | .done => 3 | .refused => 4 | .aborted => 5

/-- The computed registers of page BPQk. -/
def readBPQ (s : State) (quad o : Nat) : Option Word :=
  let l : Fin 48 := Fin.ofNat 48 (4 * quad + (o - 0x100) / 0x80)
  let x := s.lane l
  let e := EthPort.lane l
  let r := (o - 0x100) % 0x80
  if o = 0x044 then
    some (BitVec.ofNat 32 (b2n s.pins.ref156 + (List.range 4).foldl (fun n i =>
      n + b2n ((s.lane (Fin.ofNat 48 (4 * quad + i))).st = .up) * 2 ^ (4 + i)) 0))
  else if o < 0x100 ∨ 0x300 ≤ o then none
  else if r = 0x08 then
    some (BitVec.ofNat 32 (laneStNum x.st + x.mode * 2 ^ 4 + x.fec * 2 ^ 8 + b2n x.signal * 2 ^ 10 + b2n x.coef * 2 ^ 11 +
      recalNum x.recal * 2 ^ 12 + x.cause.toNat * 2 ^ 16))
  else if r = 0x18 then
    some (BitVec.ofNat 32 (b2n (s.running (T.pause l.val 8)) + (List.range 8).foldl (fun n p =>
      n + b2n (s.running (T.pause l.val p)) * 2 ^ (8 + p)) 0 + b2n x.mac.xoff * 2 ^ 16 + x.mac.pfc.toNat * 2 ^ 24))
  else if r = 0x1C then
    some (BitVec.ofNat 32 (s.heldKib e none % 2 ^ 16 + s.heldKib e (some (s.fld (F.BPQ_FC_CFG_PRI_SEL l.val))) % 2 ^ 16 * 2 ^ 16))
  else none

/-- A W1C write of LANE_STAT.CAUSE. -/
def State.opLaneStat (s : State) (l : Fin 48) (v : Word) : State :=
  s.setLane l { s.lane l with cause := (s.lane l).cause &&& ~~~ BitVec.ofNat 10 (getField v 16 10) }

/-- The computed registers of page LMC. -/
def readLMC (s : State) (o : Nat) : Option Word :=
  if 0x100 ≤ o ∧ o < 0x500 ∧ (o - 0x100) % 0x80 = 0x04 then
    let p : Fin 8 := Fin.ofNat 8 ((o - 0x100) / 0x80)
    let x := s.lports[p]
    some (BitVec.ofNat 32 (b2n x.link + b2n x.hundred * 2 + b2n x.full * 4 + b2n x.stepped * 8 +
      b2n (s.running (T.pause (48 + p.val) 8)) * 16 + b2n x.bp * 32 + s.heldKib (.port p) none % 2 ^ 14 * 2 ^ 8 +
      x.cause.toNat * 2 ^ 24))
  else none

/-- A W1C write of PORT_STAT.CAUSE. -/
def State.opPortStat (s : State) (p : Fin 8) (v : Word) : State :=
  s.setPort p { s.lports[p] with cause := (s.lports[p]).cause &&& ~~~ BitVec.ofNat 7 (getField v 24 7) }

/-- A write of MDIO_CMD (R507). -/
def State.opMdioCmd (s : State) (r : Req) (v : Word) : State :=
  if ¬ v.getLsbD 31 then s
  else if s.mdio.isSome then s.refuse r R.LMC_MDIO_CMD
  else if getField v 26 2 = 1 ∨ getField v 26 2 = 2 then
    (({ s with mdio := some v }).setFld F.LMC_MDIO_STAT_BUSY 1).emit (.mdio v)
  else s

/-! ### Commands on lanes -/

/-- LANE_CTL_WRITE (R484, R485). -/
def execLaneCtlWrite (r : Req) (l : Fin 48) (v : Word) (s : State) : Res :=
  .next (s.access r (R.BPQ_LANE_CTL l.val) true (fun t => t.opLaneCtl l v))

/-- LANE_SLEEP (R485). -/
def execLaneSleep (r : Req) (l : Fin 48) (v : Word) (s : State) : Res :=
  .next (s.access r (R.BPQ_LANE_CMD l.val) true (fun t => t.opLaneCmd l (v ||| 1)))

/-- LANE_WAKE (R485). -/
def execLaneWake (r : Req) (l : Fin 48) (v : Word) (s : State) : Res :=
  .next (s.access r (R.BPQ_LANE_CMD l.val) true (fun t => t.opLaneCmd l (v ||| 2)))

/-- LANE_RECAL (R495). -/
def execLaneRecal (r : Req) (l : Fin 48) (v : Word) (s : State) : Res :=
  .next (s.access r (R.BPQ_LANE_CMD l.val) true (fun t => t.opLaneCmd l (v ||| 4)))

/-- LANE_RECAL_ABORT (R495). -/
def execLaneRecalAbort (r : Req) (l : Fin 48) (v : Word) (s : State) : Res :=
  .next (s.access r (R.BPQ_LANE_CMD l.val) true (fun t => t.opLaneCmd l (v ||| 8)))

/-- LANE_RETRAIN (R485). -/
def execLaneRetrain (r : Req) (l : Fin 48) (v : Word) (s : State) : Res :=
  .next (s.access r (R.BPQ_LANE_CMD l.val) true (fun t => t.opLaneCmd l (v ||| 16)))

/-- The lane advertises a technology (R478). -/
def State.advertised (s : State) (l : Fin 48) (mode : Nat) : Bool :=
  if mode = 3 then s.bit (F.BPQ_AN_ADV_KR10 l.val) else if mode = 4 then s.bit (F.BPQ_AN_ADV_KR25 l.val)
  else decide (mode = 5) && s.bit (F.BPQ_AN_ADV_KR50 l.val)

/-- NEGOTIATION_COMPLETE (R478, R485): the lane takes the mode and FEC that clause 73 resolves; a technology that the lane does not
advertise cannot arise. -/
def execNegotiationComplete (l : Fin 48) (mode : BitVec 3) (fec : BitVec 2) (s : State) : Res :=
  let x := s.lane l
  if x.st ≠ .negotiate ∨ ¬ s.advertised l mode.toNat then .next s
  else
    let s1 := s.setLane l { x with mode := mode.toNat, fec := fecOf mode.toNat fec.toNat, signal := true }
    .next (s1.laneTo l (if s.bit (F.BPQ_LANE_CTL_TRAIN_EN l.val) then .train else .sync))

/-- LINK_TRAINING_COMPLETE (R485). -/
def execLinkTrainingComplete (l : Fin 48) (s : State) : Res :=
  let x := s.lane l
  .next (if x.st = .train then (s.setLane l { x with coef := true, signal := true }).laneTo l .sync else s)

/-- LINK_TRAINING_TIMEOUT (R480). -/
def execLinkTrainingTimeout (l : Fin 48) (s : State) : Res :=
  .next (if (s.lane l).st = .train ∧ s.running (T.train l.val) then
    ((s.bump (R.BPQ_CNT_TRAIN_FAIL l.val)).laneEvent l E.BPQ_TRAIN_FAIL).laneTo l
      (if s.bit (F.BPQ_LANE_CTL_AN_EN l.val) then .negotiate else .train)
  else s)

/-- PCS_LOCK (R485) of an Ethernet lane; a tributary lane goes UP by its row alignment (R220). -/
def execPcsLock (l : Fin 48) (s : State) : Res :=
  .next (if modeEth (s.lane l).mode then s.laneUp l else s)

/-- PCS_LOCK_LOSS (R485) of an Ethernet lane. -/
def execPcsLockLoss (l : Fin 48) (s : State) : Res :=
  .next (if modeEth (s.lane l).mode then s.laneLost l else s)

/-- RECAL_RUN (R494, R495). -/
def execRecalRun (l : Fin 48) (s : State) : Res :=
  .next (if (s.lane l).recal = .waiting ∧ s.drained l then
    (s.setLane l { s.lane l with recal := .running }).laneTo l .recal
  else s)

/-- RECAL_END (R485). -/
def execRecalEnd (l : Fin 48) (s : State) : Res :=
  .next (if (s.lane l).st = .recal then
    ((s.setLane l { s.lane l with recal := .done }).laneTo l .up).laneEvent l E.BPQ_RECAL_DONE
  else s)

/-- WAKE_ON_SIGNAL (R485). -/
def execWakeOnSignal (l : Fin 48) (s : State) : Res :=
  let s1 := s.setLane l { s.lane l with signal := true }
  .next (if s.bit (F.BPQ_SLEEP_CFG_WAKE_ON_SIG l.val) then s1.laneWake l else s1)

/-- WAKE_ON_QUEUE (R485). -/
def execWakeOnQueue (l : Fin 48) (s : State) : Res :=
  .next (if s.bit (F.BPQ_SLEEP_CFG_WAKE_ON_Q l.val) ∧
      (laneQueues l).any (fun q => decide (s.fld (F.BPQ_SLEEP_CFG_WAKE_KIB l.val) ≤ s.depthKib q)) then s.laneWake l else s)

/-- PLL_READY (R485, R486). -/
def execPllReady (l : Fin 48) (s : State) : Res :=
  let x := s.lane l
  if x.st ≠ .waking ∨ ¬ s.pins.ref156 then .next s
  else
    let keep := (s.bit (F.BPQ_LANE_CTL_KEEP_COEF l.val) && x.coef) || !modeTrains x.mode
    .next ((if keep then s.laneTo l .sync else s.laneStart l).laneEvent l E.BPQ_WAKE_DONE)

/-- REF_LOSS (R483, R485). -/
def execRefLoss (s : State) : Res :=
  let hit := (List.finRange 48).filter (fun l => decide ((s.lane l).st ≠ .off) && decide ((s.lane l).st ≠ .sleep))
  let s1 := hit.foldl (fun (t : State) (l : Fin 48) =>
    (if (t.lane l).st = .up then t.bump (R.BPQ_CNT_LINK_DOWN l.val) else t).laneTo l .waking) s
  let s2 := hit.foldl (fun (t : State) (l : Fin 48) => t.laneEvent l E.BPQ_REF_LOSS) s1
  .next { s2 with pins := { s2.pins with ref156 := false } }

/-- REF_RETURN (R483). -/
def execRefReturn (s : State) : Res := .next { s with pins := { s.pins with ref156 := true } }

/-- LANE_SELECT (R449, R452, R454, R466, R467, R470). -/
def execLaneSelect (l : Fin 48) (s : State) : Res :=
  let x := s.lane l
  let e := EthPort.lane l
  let gated := decide ((s.gateList l.val (s.gateCopy l)).len ≠ 0)
  if x.st ≠ .up ∨ ¬ s.ethUp e ∨ ¬ s.bit F.SCH_SCH_CTL_EN_BP ∨ x.mac.tx.isSome ∨ x.todo.isSome ∨ (s.tim.wait.isSome ∧ gated) ∨
      s.quieting then .next s
  else
    let qs := laneQueues l
    let s1 := qs.foldl (fun (t : State) q => t.cleanHead e q (t.queue q).length) s
    let s2 := qs.foldl (fun (t : State) q => if (t.waiting q) = [] then t else t.consult (q + 1024)) s1
    let el := qs.filter (fun q => s2.laneEligible l q)
    let s3 := s2.noteEligible qs el
    match s3.choose (1024 + l.val) el with
    | (some q, s4) => .next ((s4.takeCredit (q + 1024)).transmit e q)
    | (none, s4) => .next s4

/-- PORT_SELECT (R453, R487): four queues in strict order. -/
def execPortSelect (p : Fin 8) (s : State) : Res :=
  let x := s.lports[p]
  let e := EthPort.port p
  if ¬ s.ethUp e ∨ ¬ s.bit F.SCH_SCH_CTL_EN_BP ∨ x.mac.tx.isSome ∨ s.running (T.pause (48 + p.val) 8) ∨ s.quieting then .next s
  else
    let qs := (List.range 4).map (fun q => 8960 + 4 * p.val + q)
    let s1 := qs.foldl (fun (t : State) q => t.cleanHead e q (t.queue q).length) s
    let el := qs.filter (fun q => decide (s1.waiting q ≠ []))
    let s2 := s1.noteEligible qs el
    match el with
    | q :: _ => .next (s2.transmit e q)
    | [] => .next s2

/-! ### Commands on frames -/

/-- FRAME_RECEIVE (R491, R492). -/
def execFrameReceive (e : EthPort) (f : FrameIn) (s : State) : Res :=
  .next (if s.ethUp e then s.frameIn e f else s)

/-- PAUSE_RECEIVE (R496, R497): a PAUSE frame that passes R491. -/
def execPauseReceive (e : EthPort) (quanta : BitVec 16) (s : State) : Res :=
  .next (if s.ethUp e then (s.countRxOk e).takePause e quanta.toNat else s)

/-- PFC_RECEIVE (R496, R497): a PFC frame that passes R491; eight times. -/
def execPfcReceive (e : EthPort) (en : BitVec 8) (quanta : List (BitVec 16)) (s : State) : Res :=
  if quanta.length ≠ 8 then .fault .illFormed
  else .next (if s.ethUp e then (s.countRxOk e).takePfc e en (quanta.map BitVec.toNat) else s)

/-- PAUSE_TIMER_EXPIRE (R497): the timer of PAUSE, or of a priority. -/
def execPauseTimerExpire (e : EthPort) (pri : Option (Fin 8)) (s : State) : Res :=
  .next (s.stopTimer (T.pause (srcOf e) (match pri with | none => 8 | some p => p.val)))

/-- PAUSE_SEND (R498). -/
def execPauseSend (e : EthPort) (s : State) : Res := .next (s.pauseSend e)

/-- PAUSE_REFRESH (R498). -/
def execPauseRefresh (e : EthPort) (s : State) : Res := .next (s.pauseAgain e)

/-- The frame in transmission at a port, unless it waits for a back-off to end (R502). -/
def State.sending (s : State) (e : EthPort) : Option Pkt :=
  match e with
  | .lane l => (s.lane l).mac.tx
  | .port p => if (s.lports[p]).backoff.isSome then none else (s.lports[p]).mac.tx

/-- TX_UNDERRUN (R499). -/
def execTxUnderrun (e : EthPort) (s : State) : Res :=
  .next (if (s.sending e).isSome then
    ((((s.portBump e R.BPQ_CNT_UNDERRUN R.LMC_CNT_UNDERRUN).macEvent e E.BPQ_UNDERRUN E.LMC_UNDERRUN).raiseStart e).emit
      (.badFcs e)).endTx e State.leaveQueue
  else s)

/-- Counts a frame sent whole (R508). -/
def State.countTxOk (s : State) (e : EthPort) : State :=
  match e with
  | .lane l => s.bump64 (R.BPQ_CNT_TX_OK_LO l.val) (R.BPQ_CNT_TX_OK_HI l.val) 1
  | .port p => s.bump (R.LMC_CNT_TX_OK p.val)

/-- FRAME_TRANSMIT_END (R400, R508). -/
def execFrameTransmitEnd (e : EthPort) (s : State) : Res :=
  match s.sending e with
  | none => .next s
  | some k => .next (((s.countTxOk e).emit (.frame e (k.hdl.getD 0))).endTx e State.sentFrom)

/-- COLLISION (R502): at bit `bit` of the frame after the SFD; the low bits of `rnd` are the back-off drawn. -/
def execCollision (p : Fin 8) (bit : Nat) (rnd : BitVec 10) (s : State) : Res :=
  let x := s.lports[p]
  let e := EthPort.port p
  if x.full ∨ x.mac.tx = none ∨ x.backoff.isSome then .next s
  else
    let s1 := (s.bump (R.LMC_CNT_COLL p.val)).emit (.jam p)
    if 512 ≤ bit then
      .next (((s1.bump (R.LMC_CNT_LATE_COLL p.val)).portEvent p E.LMC_LATE_COLL).endTx e State.leaveQueue)
    else if 15 ≤ x.tries then
      .next (((s1.bump (R.LMC_CNT_EXC_COLL p.val)).portEvent p E.LMC_EXC_COLL).endTx e State.leaveQueue)
    else
      let slots := rnd.toNat % 2 ^ min 10 (x.tries + 1)
      .next ((s1.setPort p { s1.lports[p] with tries := x.tries + 1, backoff := some slots }).startTimer (T.backoff p.val))

/-- BACKOFF_EXPIRE (R502): the frame is sent again. -/
def execBackoffExpire (p : Fin 8) (s : State) : Res :=
  .next (if (s.lports[p]).backoff.isSome then
    (s.setPort p { s.lports[p] with backoff := none }).stopTimer (T.backoff p.val) else s)

/-- CX_BP_START (R504). -/
def execCxBpStart (p : Fin 8) (s : State) : Res :=
  let x := s.lports[p]
  let xoff := s.fld (F.LMC_PORT_THR_XOFF_KIB p.val)
  .next (if s.ethUp (.port p) ∧ s.bit (F.LMC_PORT_CFG_CX_BP p.val) ∧ ¬ x.full ∧ ¬ x.bp ∧ xoff ≠ 0 ∧
      xoff ≤ s.heldKib (.port p) none then
    (s.setPort p { x with bp := true }).bump (R.LMC_CNT_BP p.val)
  else s)

/-! ### Legacy ports and MDIO -/

/-- PHY_POLL (R505): registers 1, 4 and 5 of the PHY; ability bits 8 (100 full), 7 (100 half), 6 (10 full), 5 (10 half) of
clause 22 (log entry 36). -/
def execPhyPoll (p : Fin 8) (r1 r4 r5 : BitVec 16) (s : State) : Res :=
  let x := s.lports[p]
  if ¬ s.bit (F.LMC_PORT_CFG_EN p.val) ∨ s.pwr.limp ∨ ¬ s.domOn 27 then .next s
  else
    let up := r1.getLsbD 2
    let c := r4 &&& r5
    let (h, f) :=
      if s.bit (F.LMC_PORT_CFG_FORCE p.val) then (s.bit (F.LMC_PORT_CFG_FORCE_100 p.val), s.bit (F.LMC_PORT_CFG_FORCE_FULL p.val))
      else if c.getLsbD 8 then (true, true)
      else if c.getLsbD 7 then (true, false)
      else if c.getLsbD 6 then (false, true)
      else if c.getLsbD 5 then (false, false)
      else (x.hundred, x.full)
    let s1 := s.setPort p { x with link := up, hundred := h, full := f }
    .next (if up = x.link then s1 else s1.portEvent p p.val)

/-- The LMC writes PHY registers 4 and 0: the abilities advertised and a restart of negotiation (R506, log entry 36). -/
def State.readvertise (s : State) (p : Fin 8) (adv : Nat) : State :=
  let phy := s.fld (F.LMC_PORT_CFG_PHY_ADDR p.val) * 2 ^ 21
  (s.emit (.mdio (BitVec.ofNat 32 (adv + 4 * 2 ^ 16 + phy + 2 ^ 26)))).emit (.mdio (BitVec.ofNat 32 (0x1200 + phy + 2 ^ 26)))

/-- A step of a port is counted and raised (R506). -/
def State.stepPort (s : State) (p : Fin 8) (down : Bool) : State :=
  ((s.setPort p { s.lports[p] with stepped := down }).bump (R.LMC_CNT_STEP p.val)).portEvent p E.LMC_STEP

/-- PORT_STEP_DOWN (R506): 60 quiet seconds have passed at 100 Mbit/s. -/
def execPortStepDown (p : Fin 8) (s : State) : Res :=
  let x := s.lports[p]
  .next (if s.ethUp (.port p) ∧ s.bit (F.LMC_PORT_CFG_STEP_EN p.val) ∧ ¬ s.bit (F.LMC_PORT_CFG_FORCE p.val) ∧ x.hundred ∧ ¬ x.stepped then
    (s.readvertise p 0x0061).stepPort p true
  else s)

/-- PORT_STEP_UP (R506). -/
def execPortStepUp (p : Fin 8) (s : State) : Res :=
  .next (if (s.lports[p]).stepped ∧ (List.range 4).any (fun q =>
      decide (s.fld (F.LMC_PORT_FC_UP_KIB p.val) < s.depthKib (8960 + 4 * p.val + q))) then
    (s.readvertise p 0x01E1).stepPort p false
  else s)

/-- MDIO_WRITE (R507): MDIO_CMD with OP 1 and GO. -/
def execMdioWrite (r : Req) (v : Word) (s : State) : Res :=
  .next (s.access r R.LMC_MDIO_CMD true (fun t => t.opMdioCmd r (setField (v ||| 0x80000000) 26 2 1)))

/-- MDIO_READ (R507): MDIO_CMD with OP 2 and GO. -/
def execMdioRead (r : Req) (v : Word) (s : State) : Res :=
  .next (s.access r R.LMC_MDIO_CMD true (fun t => t.opMdioCmd r (setField (v ||| 0x80000000) 26 2 2)))

/-- MDIO_FRAME_DONE (R507): the data of a read, and whether the PHY drove the turnaround bit low. -/
def execMdioFrameDone (data : BitVec 16) (ack : Bool) (s : State) : Res :=
  match s.mdio with
  | none => .next s
  | some w =>
    let s1 := ({ s with mdio := none }).setFld F.LMC_MDIO_STAT_BUSY 0
    let s2 := if getField w 26 2 = 2 then
        (s1.setFld F.LMC_MDIO_STAT_DATA data.toNat).setFld F.LMC_MDIO_STAT_NO_ACK (b2n (!ack))
      else s1
    .next (s2.fire P.LMC E.LMC_MDIO_DONE)

end Sys2Proof.Machine
end

