-- ==== Sys2Proof/Machine/Time.lean ====
section
/-! DEFINITION. Chapter 15: device time, the servo, forced steps, domain B, the RTC, the outputs (R509-R528, R537-R540). -/

namespace Sys2Proof.Machine

open Sys2Proof

/-! ### Arithmetic -/

/-- A quotient to the nearest integer, a tie upward (log entry 37); `b` is positive. -/
def roundDiv (a b : Int) : Int := (2 * a + b) / (2 * b)

/-- A signed value kept within ± `lim`. -/
def clampTo (lim x : Int) : Int := max (-lim) (min lim x)

/-- The signed number that `n` bits give. -/
def signedBits (n v : Nat) : Int := if v < 2 ^ (n - 1) then v else (v : Int) - 2 ^ n

/-- A signed number in a 32-bit field; the spec states no value for one outside its format: a free value. -/
def State.fit32 (s : State) (x : Int) : Word × State :=
  if -(2 ^ 31) ≤ x ∧ x < 2 ^ 31 then (BitVec.ofInt 32 x, s) else s.freeVal

/-- Stores a signed number in a 32-bit register. -/
def State.wrInt (s : State) (k : Nat) (x : Int) : State :=
  let (w, s1) := s.fit32 x
  s1.wr k w

/-! ### Presence of a channel (R246), sources (R516) -/

/-- A channel is present: ALIGNED, or COAST within a planned silence. -/
def State.present (s : State) (c : Chan) : Bool :=
  decide ((s.dsf[c]).st = .aligned) || (decide ((s.dsf[c]).st = .coast) && (s.dsf[c]).planned)

/-- The Flois source channel (R516). -/
def State.sourceChan (s : State) : Option Chan :=
  if s.bit F.TIM_TIM_CTL_SRC_MODE then some (Fin.ofNat 4 (s.fld F.TIM_TIM_CTL_SRC_CHAN))
  else (List.finRange 4).find? (fun c => (s.act.ch[c]).ranged && s.present c)

/-! ### The servo (R517-R520) -/

/-- Changes the servo and time state. -/
def State.setTim (s : State) (f : Tim → Tim) : State := { s with tim := f s.tim }

/-- The time quality changes (R520); it stays INVALID in limp state (R513). -/
def State.setQual (s : State) (q : QualSt) : State :=
  let q1 := if s.pwr.limp then QualSt.invalid else q
  if s.tim.qual = q1 then s else (s.setTim (fun t => { t with qual := q1 })).fire P.TIM E.TIM_QUAL_CHANGE

/-- The limit of f and I, in 0.001 ppb. -/
def State.flim (s : State) : Int := s.fld F.TIM_FREQ_CFG_FLIM * 100000

/-- f becomes I, unless the Seam holds it (R512): then when the Seam comes up. -/
def State.settleF (s : State) : State := if s.seam.phase = .up then s.setTim (fun t => { t with f := t.i }) else s

/-- The servo enters HOLDOVER (R519). -/
def State.toHoldover (s : State) : State :=
  if s.tim.servo = .acquire ∨ s.tim.servo = .locked then
    ((((s.setTim (fun t => { t with servo := .holdover })).settleF).stopTimer T.servoHold)).fire P.TIM E.TIM_HOLDOVER
  else s

/-- A sample beyond JUMP_NS is refused (R517); `theta` in 2^-16 ns / 1000. -/
def State.sampleRefused (s : State) (theta : Int) : State :=
  let ns := theta / 65536000
  let sec := ns / 1000000000
  let s1 := ((s.wr R.TIM_REF_SEC_LO (BitVec.ofInt 32 sec)).wr R.TIM_REF_SEC_HI
    (BitVec.ofNat 32 (2 ^ 31 + (sec / 2 ^ 32 % 2 ^ 16).toNat))).wr R.TIM_REF_NS (BitVec.ofInt 32 (ns % 1000000000))
  let s2 := s1.bump R.TIM_CNT_JUMP
  let s3 := if s.tim.refused = 0 then s2.fire P.TIM E.TIM_JUMP_REFUSED else s2
  let s4 := s3.setTim (fun t => { t with refused := t.refused + 1 })
  if s.fld F.TIM_SERVO_CFG_REF_LIMIT ≤ s4.tim.refused then s4.toHoldover else s4

/-- I and f after an accepted sample (R518): the time since the accepted sample before it is at most 1 s, and 1 s for the first
(log entry 38); after none has passed, they are free values within the limits. -/
def State.steer (s : State) (theta : Int) : State :=
  let now := s.clock.flow
  let dt := match s.tim.lastAt with
    | some t => min (now - t) secUnits
    | none => secUnits
  if dt = 0 then
    let (a, s1) := s.freeVal
    let (b, s2) := s1.freeVal
    s2.setTim (fun t => { t with i := clampTo s.flim a.toInt, f := clampTo s.flim b.toInt })
  else
    let part := fun (sh : Nat) => roundDiv (theta * 1000000000) (2 ^ sh * dt)
    let i := clampTo s.flim (s.tim.i - part (s.fld F.TIM_SERVO_CFG_KI_SH))
    s.setTim (fun t => { t with i := i, f := clampTo s.flim (i - part (s.fld F.TIM_SERVO_CFG_KP_SH)) })

/-- An accepted sample moves the servo (R518, R519). -/
def State.servoSample (s : State) (theta : Int) : State :=
  let good := decide (theta.natAbs ≤ s.fld F.TIM_SERVO_CFG_LOCK_NS * 65536000)
  let note := fun (t : State) => t.setTim (fun u => { u with lastAt := some t.clock.flow, refused := 0 })
  let acquire := fun (t : State) (run : Nat) =>
    let t1 := (t.steer theta).startTimer T.servoHold
    let n := if good then run + 1 else 0
    if 16 ≤ n then
      ((t1.setTim (fun u => { u with servo := .locked, run := n })).fire P.TIM E.TIM_LOCKED).setQual .good
    else t1.setTim (fun u => { u with servo := .acquire, run := n })
  note (match s.tim.servo with
    | .free => if s.bit F.TIM_TIM_CTL_EN then acquire s 0 else s
    | .holdover => acquire s 0
    | .acquire => acquire s s.tim.run
    | .locked => (s.steer theta).startTimer T.servoHold)

/-- A sample of the source: shown in LAST_OFS, and applied while the Seam is up (R512, R517); `flois`: it is a Flois sample,
which CNT_TOD counts where it is accepted (R540). -/
def State.sourceSample (s : State) (theta : Int) (flois : Bool) : State :=
  let s1 := s.wrInt R.TIM_LAST_OFS (theta / 4096000)
  if s1.seam.phase ≠ .up then s1
  else if s1.fld F.TIM_JUMP_CFG_JUMP_NS * 65536000 < theta.natAbs then s1.sampleRefused theta
  else (if flois then s1.bump R.TIM_CNT_TOD else s1).servoSample theta

/-- θ of R514 in 2^-16 ns / 1000: the time of frame F at the receive pins, the time of day, EQD and ASYM of the channel. -/
def thetaOf (trx tod : Nat) (eqd : Nat) (asym : Int) : Int :=
  (trx : Int) * 1000 - ((tod : Int) * 65536000 - (10000 * 65536000 + (eqd : Int) * 1280000) + asym * 65536)

/-- TIME_OF_DAY on channel `c`, carried by frame `j`, for frame `f` (R514-R516). -/
def State.todSample (s : State) (c : Chan) (j f sec ns : Nat) : State :=
  let a := s.act.ch[c]
  if ¬ a.ranged then s.bump R.TIM_CNT_TOD_UNRANGED
  else
    match (if (j + 2 ^ 48 - f) % 2 ^ 48 ≤ 15 then (s.dsf[c]).times.find? (fun x => decide (x.1 = f)) else none) with
    | none => s.bump R.TIM_CNT_TOD_STALE
    | some (_, trx) =>
      if (match a.eqdAt with | some x => decide ((j + 2 ^ 48 - x) % 2 ^ 48 ≤ 16) | none => false) then s.bump R.TIM_CNT_TOD_EQD
      else
        let theta := thetaOf trx (sec * 1000000000 + ns) a.eqd (signedBits 24 (s.fld (F.TIM_CH_ASYM_PS c.val)))
        let s1 := s.wrInt (R.TIM_CH_OFS c.val) (theta / 4096000)
        if s1.tim.srcB ∨ s1.sourceChan ≠ some c then s1 else s1.sourceSample theta true

/-! ### Forced steps (R521-R523) -/

/-- A frame is in transmission on a lane, a legacy port or a wavelength channel (R523). -/
def State.transmitting (s : State) : Bool :=
  s.lanes.toList.any (fun x => x.mac.tx.isSome) || s.lports.toList.any (fun x => x.mac.tx.isSome) ||
    s.upb.toList.any (fun x => x.cur.isSome)

/-- Device time within its 48 bits of seconds. -/
def wrapTime (t : Int) : Nat := (t % 18446744073709551616000000000).toNat

/-- How far a step moves device time, in 2^-16 ns. -/
def State.stepAmount (s : State) : TimeStep → Int
  | .by_ d => d
  | .to_ t => (t : Int) - s.clock.fab

/-- Both counters after a step. -/
def Clock.stepped (c : Clock) : TimeStep → Clock
  | .by_ d => { c with line := wrapTime (c.line + d), fab := wrapTime (c.fab + d) }
  | .to_ t => { c with line := t, fab := t }

/-- A step moves the servo to ACQUIRE; I is kept (R519). -/
def State.servoStep (s : State) : State :=
  match s.tim.servo with
  | .free => s
  | .holdover => (s.startTimer T.servoHold).setTim (fun t => { t with servo := .acquire, run := 0 })
  | _ => s.setTim (fun t => { t with servo := .acquire, run := 0 })

/-- Both counters step; the gate schedule of a lane that transmits a frame has yet to take the step (R470), and the step is kept for the
transparent clock (R522, R531). -/
def State.stepClock (s : State) (x : TimeStep) : State :=
  { s with
    clock := s.clock.stepped x
    lanes := s.lanes.map (fun y => if y.mac.tx.isSome then { y with lag := y.lag + s.stepAmount x } else y)
    tim := { s.tim with steps := s.tim.steps + 1, stepLog := (s.stepAmount x :: s.tim.stepLog).take 3, wait := none } }

/-- A step is counted and raised, and moves the servo (R522). -/
def State.stepCount (s : State) : State :=
  (((s.bump R.TIM_CNT_STEP).setFld F.TIM_REF_SEC_HI_VALID 0).fire P.TIM E.TIM_STEPPED).servoStep

/-- A forced step from INVALID makes the quality COARSE (R520). -/
def State.stepQual (s : State) : State := if s.tim.qual = .invalid then s.setQual .coarse else s

/-- A step takes effect on both counters. -/
def State.stepTime (s : State) (x : TimeStep) : State := (s.stepClock x).stepCount.stepQual

/-- A step takes effect at once, or waits while a frame is in transmission (R523). -/
def State.requestStep (s : State) (x : TimeStep) : State :=
  if s.transmitting then s.setTim (fun t => { t with wait := some x }) else s.stepTime x

/-- The amount in STEP_SEC and STEP_NS, in ns. -/
def State.stepNs (s : State) : Nat :=
  (s.fld F.TIM_STEP_SEC_LO_SEC + s.fld F.TIM_STEP_SEC_HI_SEC * 2 ^ 32) * 1000000000 + s.fld F.TIM_STEP_NS_NS

/-- θ of the last refused sample, in ns, as REF_SEC and REF_NS hold it. -/
def State.refNs (s : State) : Int :=
  signedBits 48 (s.fld F.TIM_REF_SEC_LO_SEC + s.fld F.TIM_REF_SEC_HI_SEC * 2 ^ 32) * 1000000000 + s.fld F.TIM_REF_NS_NS

/-- The step that a mode selects (R521). -/
def State.stepOf (s : State) (mode : Nat) : TimeStep :=
  if mode = 0 then .by_ (-(s.refNs * 65536))
  else if mode = 1 then .to_ (s.stepNs * 65536)
  else .by_ ((if s.bit F.TIM_STEP_SEC_HI_NEG then -(s.stepNs : Int) else s.stepNs) * 65536)

/-! ### Sources (R525) -/

/-- A switch of the source is counted and raised. -/
def State.switched (s : State) : State := (s.bump R.TIM_CNT_SWITCH).fire P.TIM E.TIM_SWITCHED

/-- SWITCH_B (R525). -/
def State.switchToB (s : State) : State :=
  if s.bit F.TIM_TIM_CTL_COMPAT ∧ s.tim.b = .locked ∧ s.tim.phi.natAbs ≤ s.fld F.TIM_JUMP_CFG_JUMP_NS * 16 then
    (s.setTim (fun t => { t with srcB := true, f := clampTo s.flim (t.f + t.nu), i := clampTo s.flim (t.i + t.nu) })).switched
  else s.fire P.TIM E.TIM_SWITCH_REFUSED

/-- SWITCH_A (R525). -/
def State.switchToA (s : State) : State := (s.setTim (fun t => { t with srcB := false })).switched

/-- A write of TIM_CMD (R521, R525). -/
def State.opTimCmd (s : State) (r : Req) (v : Word) : State :=
  let mode := getField v 1 2
  if mode = 3 ∨ (v.getLsbD 0 ∧ ((mode = 0 ∧ ¬ s.bit F.TIM_REF_SEC_HI_VALID) ∨ s.seam.phase ≠ .up ∨ s.tim.wait.isSome)) then
    s.refuse r R.TIM_TIM_CMD
  else
    let s1 := if v.getLsbD 0 then s.requestStep (s.stepOf mode) else s
    let s2 := if v.getLsbD 4 then s1.switchToA else s1
    if v.getLsbD 5 then s2.switchToB else s2

/-- A write of TIM_CTL: EN 0 makes the servo FREE (R519); COMPAT 0 ends domain B (log entry 39). -/
def State.opTimCtl (s : State) (v : Word) : State :=
  let s1 := s.store R.TIM_TIM_CTL v
  let s2 := if s1.bit F.TIM_TIM_CTL_EN then s1
    else ((s1.setTim (fun t => { t with servo := .free })).settleF).stopTimer T.servoHold
  if s2.bit F.TIM_TIM_CTL_COMPAT then s2
  else
    let s3 := s2.setTim (fun t => { t with srcB := false, b := .off, phi := 0, nu := 0, bRun := 0, bAt := none })
    ([R.TIM_B_CFG, R.TIM_B_AT_SEC, R.TIM_B_AT_NS, R.TIM_B_OFS].foldl (fun (t : State) k => t.wr k (resetWord k)) s3).stopTimer T.bHold

/-! ### Domain B (R524) -/

/-- A change of B_STAT.STATE to LOCKED or STALE raises B_STATE. -/
def State.setB (s : State) (b : BSt) : State :=
  if s.tim.b = b then s
  else
    let s1 := s.setTim (fun t => { t with b := b })
    if b = .locked ∨ b = .stale then s1.fire P.TIM E.TIM_B_STATE else s1

/-- A write of B_OFS completes a sample (R524). For the first sample the spec states no time since the one before it: ν is then a
free value. -/
def State.bSample (s : State) : State :=
  let at_ := s.fld F.TIM_B_AT_SEC_SEC * 1000000000 + s.fld F.TIM_B_AT_NS_NS
  let late := match s.tim.bAt with | some t => decide (at_ ≤ t) | none => false
  if late then s.bump R.TIM_CNT_B_STALE
  else
    let ofs := (s.rd R.TIM_B_OFS).toInt
    let dt := match s.tim.bAt with | some t => at_ - t | none => 0
    let hat := s.tim.phi + roundDiv (16 * s.tim.nu * dt) 1000000000000
    let e := ofs - hat
    let phi := hat + roundDiv e (2 ^ s.fld F.TIM_B_CFG_B_KP_SH)
    let (nu, s1) : Int × State :=
      if dt = 0 then (let (w, t) := s.freeVal; (w.toInt, t))
      else (s.tim.nu + roundDiv (e * 1000000000000) (16 * dt * 2 ^ s.fld F.TIM_B_CFG_B_KI_SH), s)
    let run := if e.natAbs ≤ s.fld F.TIM_B_CFG_B_LOCK_NS * 16 then
      (if s.tim.b = .stale then 1 else s.tim.bRun + 1) else 0
    let s2 := ((s1.setTim (fun t => { t with phi := phi, nu := nu, bRun := run, bAt := some at_ })).wrInt R.TIM_B_PHASE phi).wrInt
      R.TIM_B_FREQ nu
    let s3 := (s2.setB (if s.tim.b = .locked ∨ 16 ≤ run then .locked else .acquire)).startTimer T.bHold
    if s3.tim.srcB then s3.sourceSample (-(phi * 4096000)) false else s3

/-- A write of a domain-B register ends with a bus error while COMPAT is 0. -/
def State.opB (s : State) (r : Req) (k : Nat) (v : Word) : State :=
  if ¬ s.bit F.TIM_TIM_CTL_COMPAT then s.refuse r k
  else if k = R.TIM_B_OFS then (s.store k v).bSample
  else s.store k v

/-! ### Registers -/

/-- The servo state as a number. -/
def ServoSt.num : ServoSt → Nat
  | .free => 0 | .acquire => 1 | .locked => 2 | .holdover => 3

/-- The time quality as a number. -/
def QualSt.num : QualSt → Nat
  | .invalid => 0 | .coarse => 1 | .good => 2

/-- B_STAT.STATE as a number. -/
def BSt.num : BSt → Nat
  | .off => 0 | .acquire => 1 | .locked => 2 | .stale => 3

/-- The computed registers of page TIM. -/
def readTIM (s : State) (o : Nat) : Option Word :=
  let t := s.tim
  if o = 0x050 then
    some (BitVec.ofNat 32 (t.servo.num + t.qual.num * 2 ^ 2 + b2n t.srcB * 2 ^ 4 +
      (match s.sourceChan with | some c => c.val | none => 0) * 2 ^ 5 + b2n (s.seam.phase ≠ .up) * 2 ^ 7 +
      b2n t.rtcFail * 2 ^ 8 + b2n t.wait.isSome * 2 ^ 9))
  else if o = 0x054 then some (BitVec.ofNat 32 (secOf s.clock.line))
  else if o = 0x064 then some (BitVec.ofInt 32 t.f)
  else if o = 0x068 then some (BitVec.ofInt 32 t.i)
  else if o = 0x0B0 then some (BitVec.ofNat 32 s.clock.rtc)
  else if o = 0x0D0 then some (BitVec.ofNat 32 t.b.num)
  else if 0x0C0 ≤ o ∧ o ≤ 0x0D8 ∧ ¬ s.bit F.TIM_TIM_CTL_COMPAT then some 0
  else none

/-- The computed registers of page TCL. -/
def readTCL (s : State) (o : Nat) : Option Word :=
  let e := s.tim.txts.head?
  if o = 0x048 then some (BitVec.ofNat 32 s.tim.txts.length)
  else if o = 0x04C then some (match e with | some x => BitVec.ofNat 32 (x.1 % 2 ^ 16) | none => 0)
  else if o = 0x050 then some (match e with | some x => BitVec.ofNat 32 (secOf (x.2 * 4096)) | none => 0)
  else if o = 0x054 then some (match e with | some x => BitVec.ofNat 32 (nsOf (x.2 * 4096)) | none => 0)
  else none

/-- A read of TIME_SEC_LO latches the other time registers. -/
def State.latchTime (s : State) : State :=
  let t := s.clock.line
  ((s.wr R.TIM_TIME_SEC_HI (BitVec.ofNat 32 (secOf t / 2 ^ 32 % 2 ^ 16))).wr R.TIM_TIME_NS (BitVec.ofNat 32 (nsOf t))).wr
    R.TIM_TIME_FRAC (BitVec.ofNat 32 (t % 65536))

/-- A read of RTC_LO latches RTC_HI. -/
def State.latchRtc (s : State) : State := s.wr R.TIM_RTC_HI (BitVec.ofNat 32 (s.clock.rtc / 2 ^ 32 % 2 ^ 16))

/-- A read of TXTS_NS removes the oldest transmit stamp (R530). -/
def State.popTxts (s : State) : State := s.setTim (fun t => { t with txts := t.txts.tail })

/-! ### Outputs (R537-R539) -/

/-- The outputs are held (R537). -/
def State.squelched (s : State) : Bool := decide (s.tim.qual = .invalid) && s.bit F.TCL_OUT_CTL_SQUELCH

/-- The bytes of a text. -/
def textBytes (t : List Char) : List Byte := t.map (fun c => BitVec.ofNat 8 c.toNat)

/-- The decimal digits of a number. -/
def decimal (n : Nat) : List Char := Nat.toDigits 10 n

/-- A byte as two uppercase hex digits. -/
def hexByte (b : Byte) : List Char :=
  let d := fun (n : Nat) => "0123456789ABCDEF".toList.getD n '0'
  [d (b.toNat / 16), d (b.toNat % 16)]

/-- The time-of-day message for an edge at second `sec` (R539). -/
def State.todText (s : State) (sec : Nat) : List Byte :=
  let ofs := s.fld F.TCL_TODU_CFG_UTC_OFS
  let u := if ofs ≤ sec then decimal (sec - ofs) else '-' :: decimal (ofs - sec)
  let q := match s.tim.qual with
    | .invalid => 'I'
    | .coarse => 'C'
    | .good => if s.tim.servo = .locked then 'G' else 'H'
  let body := "KXTOD,".toList ++ decimal sec ++ [','] ++ u ++ [',', q]
  let cc := (textBytes body).foldl (fun a b => a ^^^ b) 0
  textBytes (['$'] ++ body ++ ['*'] ++ hexByte cc ++ [Char.ofNat 13, Char.ofNat 10])

/-! ### Commands -/

/-- SERVO_HOLD_TIMEOUT (R519). -/
def execServoHoldTimeout (s : State) : Res := .next (if s.running T.servoHold then s.toHoldover else s)

/-- SERVO_DISABLE (R519). -/
def execServoDisable (r : Req) (v : Word) (s : State) : Res :=
  .next (s.access r R.TIM_TIM_CTL true (fun t => t.opTimCtl (v &&& ~~~ 1)))

/-- STEP_BY_REFUSED (R521). -/
def execStepByRefused (r : Req) (v : Word) (s : State) : Res :=
  .next (s.access r R.TIM_TIM_CMD true (fun t => t.opTimCmd r (setField v 0 3 1)))

/-- STEP_TO_TIME (R521). -/
def execStepToTime (r : Req) (v : Word) (s : State) : Res :=
  .next (s.access r R.TIM_TIM_CMD true (fun t => t.opTimCmd r (setField v 0 3 3)))

/-- STEP_BY_AMOUNT (R521). -/
def execStepByAmount (r : Req) (v : Word) (s : State) : Res :=
  .next (s.access r R.TIM_TIM_CMD true (fun t => t.opTimCmd r (setField v 0 3 5)))

/-- STEP_APPLY (R523): a waiting step takes effect. -/
def execStepApply (s : State) : Res :=
  .next (match s.tim.wait with
    | some x => s.stepTime x
    | none => s)

/-- SWITCH_A (R525). -/
def execSwitchA (r : Req) (v : Word) (s : State) : Res :=
  .next (s.access r R.TIM_TIM_CMD true (fun t => t.opTimCmd r (v ||| 0x10)))

/-- SWITCH_B (R525). -/
def execSwitchB (r : Req) (v : Word) (s : State) : Res :=
  .next (s.access r R.TIM_TIM_CMD true (fun t => t.opTimCmd r (v ||| 0x20)))

/-- B_SAMPLE (R524). -/
def execBSample (r : Req) (v : Word) (s : State) : Res :=
  .next (s.access r R.TIM_B_OFS true (fun t => t.opB r R.TIM_B_OFS v))

/-- B_STALE (R524, R525). -/
def execBStale (s : State) : Res :=
  .next (if s.running T.bHold ∧ (s.tim.b = .acquire ∨ s.tim.b = .locked) then
    let s1 := (s.stopTimer T.bHold).setB .stale
    if s1.tim.srcB then s1.toHoldover else s1
  else s)

/-- RTC_TRIM_MEASURE (R526): a window ends while the servo is LOCKED; `ppm` in 0.01 ppm, signed. -/
def execRtcTrimMeasure (ppm : BitVec 24) (s : State) : Res :=
  if s.tim.servo = .locked then
    .next ((s.setFld F.TIM_RTC_TRIM_PPM ppm.toNat).setFld F.TIM_RTC_TRIM_VALID 1)
  else .next s

/-- RTC_FAIL (R527). -/
def execRtcFail (s : State) : Res := .next ((s.setTim (fun t => { t with rtcFail := true })).fire P.TIM E.TIM_RTC_FAIL)

/-- TXTS_READ (R530). -/
def execTxtsRead (r : Req) (s : State) : Res :=
  .next (s.readAccess r R.TCL_TXTS_NS true ((readTCL s 0x054).getD 0) State.popTxts)

/-- TIME_READ_LATCH (R509). -/
def execTimeReadLatch (r : Req) (s : State) : Res :=
  .next (s.readAccess r R.TIM_TIME_SEC_LO true ((readTIM s 0x054).getD 0) State.latchTime)

/-- RTC_READ_LATCH (R526). -/
def execRtcReadLatch (r : Req) (s : State) : Res :=
  .next (s.readAccess r R.TIM_RTC_LO true ((readTIM s 0x0B0).getD 0) State.latchRtc)

/-- PPS_EDGE (R537, R538): an edge less than 500 ms after the edge before it is suppressed. -/
def execPpsEdge (s : State) : Res :=
  let close := match s.tim.ppsAt with | some t => decide (s.clock.mono < t + 500000000) | none => false
  .next (if ¬ s.bit F.TCL_OUT_CTL_PPS_EN ∨ s.squelched ∨ close = true ∨ ¬ s.domOn 32 then s
  else
    let sec := secOf (s.clock.fab + s.fld F.TCL_PPS_CFG_ADJ_NS * 65536)
    ((s.setTim (fun t => { t with ppsAt := some s.clock.mono, todDue := some sec })).emit .pps).fire P.TCL E.TCL_PPS)

/-- TOD_UART_MESSAGE (R539). -/
def execTodUartMessage (s : State) : Res :=
  .next (match s.tim.todDue with
    | none => s
    | some sec =>
      let s1 := s.setTim (fun t => { t with todDue := none })
      if s.bit F.TCL_TODU_CFG_EN ∧ ¬ s.squelched ∧ s.domOn 32 then s1.emit (.tod (s.todText sec)) else s1)

end Sys2Proof.Machine
end

