-- ==== Sys2Proof/Machine/Tributaries.lean ====
section
/-! DEFINITION. Chapter 6: mapper, demapper, desynchroniser, tributary lanes, hairpins, the map (R193-R231). -/

namespace Sys2Proof.Machine

open Sys2Proof

/-! ### Bits -/

/-- The bits of a byte, most significant first (R6). -/
def byteBits (b : Byte) : List Bool := (List.range 8).map (fun i => b.getLsbD (7 - i))

/-- The number that bits give, most significant first. -/
def bitsNat (bs : List Bool) : Nat := bs.foldl (fun n b => 2 * n + b2n b) 0

/-- The byte that up to 8 bits give, zero fill behind them. -/
def bitsByte (bs : List Bool) : Byte := BitVec.ofNat 8 (bitsNat ((bs ++ List.replicate 8 false).take 8))

/-- The bytes of `n` groups of 8 bits. -/
def bitsBytes (bs : List Bool) : Nat → List Byte
  | 0 => []
  | n + 1 => bitsByte bs :: bitsBytes (bs.drop 8) n

/-- `n` free bits: the spec states no value for them. -/
def State.freeBits (s : State) : Nat → List Bool × State
  | 0 => ([], s)
  | n + 1 =>
    let (w, s1) := s.freeVal
    let (bs, s2) := s1.freeBits n
    (w.getLsbD 0 :: bs, s2)

/-- CRC-8 of R196 and R219: x^8 + x^2 + x + 1, preset 0. -/
def crc8 (bs : List Bool) : Byte :=
  bs.foldl (fun (c : Byte) b => if c.getLsbD 7 ≠ b then (c <<< 1) ^^^ 0x07 else c <<< 1) 0

/-- `n` bits of the test signal x^15 + x^14 + 1 from generator state `g`. -/
def prbs (g : BitVec 15) : Nat → List Bool × BitVec 15
  | 0 => ([], g)
  | n + 1 =>
    let b := g.getLsbD 14 ^^ g.getLsbD 13
    let (bs, g1) := prbs ((g <<< 1) ||| BitVec.ofNat 15 (b2n b)) n
    (b :: bs, g1)

/-! ### Classes (R193) -/

/-- B_nom; 8n for class 4. -/
def entNom (e : Nat) : Nat := if entClass e = 4 then 8 * entN e else [256, 193, 2148, 2796].getD (entClass e) 0

/-- Containers in the 500 µs of the desynchroniser store. -/
def entPeriods (e : Nat) : Nat := if entClass e = 2 ∨ entClass e = 3 then 8 else 4

/-- Bytes of a container. -/
def entBytes (e : Nat) : Nat := 5 + (if entClass e = 4 then entN e else (entNom e + 8) / 8)

/-- The nominal rate in bit/s. -/
def entRate (e : Nat) : Nat := [2048000, 1544000, 34368000, 44736000].getD (entClass e) 1

/-- The container period in ns (R193). -/
def entPeriod (e : Nat) : Nat := if entClass e = 2 ∨ entClass e = 3 then 62500 else 125000

/-- The gain of a first-order loop of bandwidth LOOP_BW for each container period, 2π × bandwidth × period, in 2^-32 (R202, R209,
log entry 144). -/
def entGain (e : Nat) : Int :=
  let g := [6746519, 1686630, 26986075, 107944302].getD (entBits e 47 2) 0
  if entClass e = 2 ∨ entClass e = 3 then g / 2 else g

/-- The entry has an upstream direction: two-way, lane to fibre. -/
def entUp (e : Nat) : Bool := decide (entDir e = 0) || decide (entDir e = 2)

/-- Lane `l` is in SYNC (R220); a LANE that no lane has is not. -/
def State.rowSync (s : State) (l : Nat) : Bool := s.domOn 9 && decide ((s.rows.toList.getD l {}).st = .sync)

/-! ### Conditions of a context (R205, R213-R218) -/

/-- Bit `b` of the accepted status byte. -/
def Accept.has (a : Accept) (b : Nat) : Bool :=
  match a.value with
  | some v => v.getLsbD b
  | none => false

/-- A label is accepted after 3 consecutive equal values (R215). -/
def Accept.label (a : Accept) (b : Byte) : Accept :=
  let n := if a.run ≠ 0 ∧ a.last = b then min 3 (a.run + 1) else 1
  ⟨if 3 ≤ n then some b else a.value, b, n⟩

/-- A status bit is accepted after 2 consecutive equal values (R216). -/
def Accept.status (a : Accept) (b : Byte) : Accept :=
  if a.run = 0 then { a with last := b, run := 1 }
  else
    let same := ~~~ (a.last ^^^ b)
    { a with value := some ((a.value.getD 0 &&& ~~~ same) ||| (b &&& same)), last := b }

/-- Unequipped is accepted from the fibre. -/
def Trib.uneq (x : Trib) : Bool := decide (x.labFib.value = some 0)

/-- AIS: the channel signals it (R188), or the fibre status does (log entry 40). -/
def Trib.aisIn (x : Trib) : Bool := x.ais || x.staFib.has 7

/-- The slot carries 1 bits because of the accepted label (R215). -/
def Trib.masked (x : Trib) (e : Nat) : Bool :=
  x.uneq || decide (x.labFib.value = some 0xFE) || (x.tlm e && natBit e 46)

/-- ST_FLAGS.NOW of a context. A slip is no lasting condition. -/
def State.tribNow (s : State) (ctx : Fin 1024) : BitVec 9 :=
  let x := s.trib ctx
  let c := s.tribCopy ctx
  let e := s.mapEntry c ctx.val
  BitVec.ofNat 9 (b2n x.loc + b2n x.aisIn * 2 + b2n (x.tlm e) * 2 ^ 2 + b2n x.uneq * 2 ^ 3 + b2n x.oor * 2 ^ 4 +
    b2n (x.staFib.has 6) * 2 ^ 6 + b2n (x.staLane.has 5) * 2 ^ 7 + b2n (s.mapConflict c ctx.val) * 2 ^ 8)

/-- A context's record changes; conditions that begin set their latches. -/
def State.tribSet (s : State) (ctx : Fin 1024) (x : Trib) : State :=
  let s1 := s.setTrib ctx x
  s1.tribFlag ctx (s1.tribNow ctx &&& ~~~ s.tribNow ctx)

/-- A slip: counted, SLIP set (R204, R206, R214). -/
def State.tribSlip (s : State) (ctx : Fin 1024) : State := (s.bump (R.TRB_CNT_SLIP ctx.val)).tribFlag ctx 0x020

/-! ### The mapper (R202-R207, R217, R218) -/

/-- The mapper store set to 1.5 × B_nom: the newest bits stay, or 1 bits make up the shortfall (R204, log entry 41). -/
def storeReset (e : Nat) (up : List Bool) : List Bool :=
  let n := entNom e * 3 / 2
  List.replicate (n - up.length) true ++ up.drop (up.length - n)

/-- The slot reports LOS or AIS, or its lane is not in SYNC: the mapper sends AIS (R217). -/
def State.mapperAis (s : State) (e : Nat) (x : Trib) : Bool :=
  x.staLane.has 5 || x.staLane.has 7 || !s.rowSync (entBits e 13 6)

/-- The context carries the test signal. -/
def State.generates (s : State) (ctx : Fin 1024) : Bool :=
  s.bit F.TRB_TEST_CTL_GEN_EN && decide (s.fld F.TRB_TEST_CTL_CTX = ctx.val)

/-- The justification of a container (R202, R203): JN, JP, the accumulator, and whether the store forced it. -/
def justify (e level : Nat) (acc : Int) : Bool × Bool × Int × Bool :=
  if entNom e * 7 < 2 * level then (true, false, 0, true)
  else if 2 * level < entNom e then (false, true, 0, true)
  else if 2 ^ 32 ≤ acc then (true, false, acc - 2 ^ 32, false)
  else if acc ≤ -(2 ^ 32) then (false, true, acc + 2 ^ 32, false)
  else (false, false, acc, false)

/-- The rate estimate after a container period in which `n` bits arrived: one step of the first-order loop (R202, log entry 144). -/
def Trib.estimate (x : Trib) (e : Nat) : Int := x.est + entGain e * (((x.arrived : Int) - entNom e) * 2 ^ 32 - x.est) / 2 ^ 32

/-- The data bits that a class-0 to class-3 container carries, with its justification, and the record after it. -/
def State.takeBits (s : State) (ctx : Fin 1024) (e : Nat) : (List Bool × Bool × Bool) × State :=
  let x0 := s.trib ctx
  let est := if x0.started then x0.estimate e else x0.est
  let x := if x0.started then x0 else { x0 with started := true, up := storeReset e x0.up }
  let (jn, jp, acc, force) := justify e x.up.length (x.acc + est)
  let s1 := if force then s.bump R.TRB_CNT_FORCE else s
  let n := entNom e + b2n jn - b2n jp
  let s2 := if jn then s1.bump (R.TRB_CNT_UJN ctx.val) else if jp then s1.bump (R.TRB_CNT_UJP ctx.val) else s1
  let short := decide (x.up.length < n)
  let up := if short then storeReset e x.up else x.up
  let s3 := if short then s2.tribSlip ctx else s2
  let y := s3.trib ctx
  ((up.take n, jn, jp),
    s3.setTrib ctx { y with started := true, up := up.drop n, acc := acc, est := est, arrived := 0, netUp := x.netUp + b2n jn - b2n jp })

/-- The octets that a class-4 container carries (R204, R206). -/
def State.takeOctets (s : State) (ctx : Fin 1024) (e : Nat) : List Bool × State :=
  let x0 := s.trib ctx
  let x := if x0.started then x0 else { x0 with started := true, up := storeReset e x0.up }
  let n := entNom e
  if x.up.length < n then
    let (bs, s1) := if x.upLast.length = n then (x.upLast, s) else s.freeBits n
    (bs, s1.tribSlip ctx)
  else
    let bs := x.up.take n
    (bs, s.setTrib ctx { x with up := x.up.drop n, upLast := bs })

/-- The bytes of a container (R196, R197); positions that carry no data are free. -/
def State.containerBytes (s : State) (ctx : Fin 1024) (e seq : Nat) (jn jp : Bool) (oh : Byte) (data : List Bool) :
    List Byte × State :=
  let h := toBytesBE 2 (ctx.val * 64 + seq * 4)
  let (pad, s1) := if entClass e = 4 then ([], s) else s.freeBits (entNom e + 1 - data.length)
  (h ++ [crc8 (h.map byteBits).flatten, BitVec.ofNat 8 (b2n jn * 0xE0 + b2n jp * 0x1C), oh] ++ bitsBytes (data ++ pad) (entBytes e - 5),
    s1)

/-- The upstream status byte (R217, R218). -/
def upStatus (e : Nat) (x : Trib) (ais : Bool) : Byte :=
  BitVec.ofNat 8 (b2n ais * 0x80 +
    b2n (natBit e 49 && (x.loc || x.aisIn || x.uneq || (x.tlm e && natBit e 46))) * 0x40)

/-- A container enters the container queue of 4 (R207). -/
def State.queueContainer (s : State) (ctx : Fin 1024) (bytes : List Byte) : State :=
  let x := s.trib ctx
  if x.cq.length < 4 then s.setTrib ctx { x with cq := x.cq ++ [bytes] }
  else
    ((s.setTrib ctx { x with cq := x.cq.drop 1 ++ [bytes] }).bump (R.TRB_CNT_UP_DROP ctx.val)).fire P.TRB E.TRB_UP_DROP

/-- A container of context `ctx` is built (R202-R207, R217). -/
def State.buildContainer (s : State) (ctx : Fin 1024) (e : Nat) : State :=
  let x := s.trib ctx
  let gen := s.generates ctx
  let ais := s.mapperAis e x && !gen
  let four := decide (entClass e = 4)
  let ((bs, jn, jp), s1) : (List Bool × Bool × Bool) × State :=
    if ais then
      ((List.replicate (entNom e) true, false, false), s.setTrib ctx { x with up := [], started := false, upLast := [], arrived := 0 })
    else if four then (let (b, t) := s.takeOctets ctx e; ((b, false, false), t))
    else s.takeBits ctx e
  let (sig, g) := if gen then prbs s1.ttest.gen bs.length else (bs, s1.ttest.gen)
  let lab := if gen then 0xFE else if x.labLane.value = some 0 then 0 else if x.labLane.value = some 0xFE then 0xFE else entLabel e
  let oh := if x.seq = 0 then lab else if x.seq = 1 then upStatus e x ais else 0
  let (bytes, s2) := ({ s1 with ttest := { s1.ttest with gen := g } }).containerBytes ctx e x.seq jn jp oh sig
  (s2.setTrib ctx { s2.trib ctx with seq := (x.seq + 1) % 16 }).queueContainer ctx bytes

/-! ### The demapper (R198-R201, R208-R214) -/

/-- The majority of three copies, and whether they disagree (R198). -/
def vote (n : Nat) : Bool × Bool := (decide (n = 3) || decide (n = 5) || decide (n = 6) || decide (n = 7), decide (n ≠ 0) && decide (n ≠ 7))

/-- Bits enter the store of the desynchroniser: above 500 µs it is reset; a class-4 store above 4n octets drops a frame
(R206, R214). -/
def State.storeDown (s : State) (ctx : Fin 1024) (e : Nat) (bs : List Bool) : State :=
  let x := s.trib ctx
  let d := x.down ++ bs
  if d.length ≤ entNom e * entPeriods e then s.setTrib ctx { x with down := d }
  else if entClass e = 4 then (s.setTrib ctx { x with down := d.drop (d.length - entNom e * 4) }).tribSlip ctx
  else (s.setTrib ctx { x with down := [], flowing := false }).tribSlip ctx

/-- The analyser takes downstream data (TEST_CTL, log entry 42): while it is in step it counts the bits that differ from the
test signal; when it falls into and out of step the spec does not state. -/
def State.analyse (s : State) (ctx : Fin 1024) (bs : List Bool) : State :=
  if s.bit F.TRB_TEST_CTL_ANA_EN ∧ s.fld F.TRB_TEST_CTL_CTX = ctx.val then
    let t := s.ttest
    let (want, g) := prbs t.ana bs.length
    let errs := ((want.zip bs).filter (fun p => p.1 != p.2)).length
    let (w, s1) := s.freeVal
    let ana := if t.sync then g else BitVec.ofNat 15 (bitsNat (bs.drop (bs.length - 15)))
    let s2 := { s1 with ttest := { t with ana := ana, sync := w.getLsbD 0 } }
    if t.sync ∧ errs ≠ 0 then (s2.bumpBy R.TRB_TEST_ERR errs).fire P.TRB E.TRB_TEST_ERR else s2
  else s

/-- A container is accepted: its justification, overhead and data (R197, R198, R211, R213). -/
def State.acceptContainer (s : State) (ctx : Fin 1024) (e : Nat) (bytes : List Byte) (seq : Nat) : State :=
  let four := decide (entClass e = 4)
  let jb := (bytes.getD 3 0).toNat
  let (jn, d1) := vote (jb / 32)
  let (jp, d2) := vote (jb / 4 % 8)
  let both := jn && jp
  let s1 := if !four && (both || d1 || d2) then s.bump R.TRB_CNT_VOTE else s
  let s2 := if !four && jn then s1.bump (R.TRB_CNT_DJN ctx.val) else s1
  let s3 := if !four && jp then s2.bump (R.TRB_CNT_DJP ctx.val) else s2
  let n := if four ∨ both then entNom e else entNom e + b2n jn - b2n jp
  let bs := (((bytes.drop 5).map byteBits).flatten).take n
  let x := s3.trib ctx
  let oh := bytes.getD 4 0
  let y := { x with expect := some ((seq + 1) % 16), loc := false,
                    jest := x.jest + entGain e * ((b2n jn - b2n jp : Int) * 2 ^ 32 - x.jest) / 2 ^ 32,
                    netDown := if four then x.netDown else x.netDown + b2n jn - b2n jp,
                    labFib := if seq = 0 then x.labFib.label oh else x.labFib,
                    staFib := if seq = 1 then x.staFib.status oh else x.staFib }
  let s4 := ((s3.tribSet ctx y).startTimer (T.loc ctx.val)).analyse ctx bs
  if y.ais then s4 else s4.storeDown ctx e bs

/-- A container for a context that takes it is judged by its SEQ (R211). -/
def State.sequence (s : State) (ctx : Fin 1024) (e : Nat) (bytes : List Byte) (seq : Nat) : State :=
  match (s.trib ctx).expect with
  | none => s.acceptContainer ctx e bytes seq
  | some want =>
    let d := (seq + 16 - want) % 16
    if 8 ≤ d then s.bump (R.TRB_CNT_SEQ_ERR ctx.val)
    else
      let s1 := (List.range d).foldl (fun (t : State) _ =>
        (if (t.trib ctx).ais then t else t.storeDown ctx e (List.replicate (entNom e) true)).bump (R.TRB_CNT_LOST ctx.val)) s
      s1.acceptContainer ctx e bytes seq

/-- A container that cannot be read ends its fragment (R199). -/
def State.chdrErr (s : State) : State := (s.bump R.TRB_CNT_CHDR_ERR).fire P.TRB E.TRB_CHDR_ERR

/-- The fragments that wait for the demapper of channel `c`. -/
def State.setFrags (s : State) (c : Chan) (fs : List (List Byte)) : State := { s with tfrags := s.tfrags.set c fs }

/-- The next container of the oldest fragment of channel `c` (R199, R201, R211). -/
def State.receiveContainer (s : State) (c : Chan) : State :=
  match s.tfrags[c] with
  | [] => s
  | f :: fs =>
    let h := ofBytesBE (f.take 2)
    let ctx : Fin 1024 := Fin.ofNat 1024 (h / 64)
    let e := s.mapEntry (s.tribCopy ctx) ctx.val
    if f.length < 3 ∨ crc8 ((f.take 2).map byteBits).flatten ≠ f.getD 2 0 then (s.setFrags c fs).chdrErr
    else if 4 < entClass e then (s.setFrags c fs).bump R.TRB_CNT_FRAG_BAD
    else if f.length < entBytes e then (s.setFrags c fs).chdrErr
    else
      let rest := f.drop (entBytes e)
      let s1 := s.setFrags c (if rest = [] then fs else rest :: fs)
      match s.served ctx with
      | none => s1.bump R.TRB_CNT_FRAG_BAD
      | some e =>
        if ¬ entDown e ∨ entChan e ≠ c.val then s1.bump R.TRB_CNT_FRAG_BAD
        else s1.sequence ctx e (f.take (entBytes e)) (h / 4 % 16)

/-- The contexts in service that take containers of channel `c`. -/
def State.tribsOn (s : State) (c : Chan) : List (Fin 1024) :=
  (List.finRange 1024).filter (fun x => match s.served x with
    | some e => entDown e && decide (entChan e = c.val)
    | none => false)

/-- A context loses its containers (R213). -/
def State.tribLoc (s : State) (ctx : Fin 1024) : State :=
  (s.tribSet ctx { s.trib ctx with loc := true, expect := none }).stopTimer (T.loc ctx.val)

/-- Channel `c` signals loss of frame to the demapper (R164, R213). -/
def State.tribFrameLost (s : State) (c : Chan) : State := (s.tribsOn c).foldl State.tribLoc s

/-- Channel `c` signals AIS to the demapper, or ends it (R188, R213). -/
def State.tribAis (s : State) (c : Chan) (on : Bool) : State :=
  (s.tribsOn c).foldl (fun (t : State) (x : Fin 1024) => t.tribSet x { t.trib x with ais := on }) s

/-- 1 bits, or what the store holds, for one byte of a slot (R208, R210, R213, R214). -/
def State.slotByte (s : State) (ctx : Fin 1024) (e : Nat) : Byte × State :=
  let x := s.trib ctx
  if ¬ x.flowing then (0xFF, s)
  else if 8 ≤ x.down.length then
    (if x.masked e then 0xFF else bitsByte (x.down.take 8), s.setTrib ctx { x with down := x.down.drop 8 })
  else if x.loc ∨ x.ais then
    (if x.masked e then 0xFF else bitsByte (x.down ++ List.replicate 8 true), s.setTrib ctx { x with down := [], flowing := false })
  else (0xFF, (s.setTrib ctx { x with down := [], flowing := false }).tribSlip ctx)

/-- A period of the 8 kHz frame sync for a class-4 context with a downstream direction: n octets fall due (R206, R208, R213). -/
def State.framePeriod (s : State) (ctx : Fin 1024) (e : Nat) : State :=
  let x := s.trib ctx
  let n := entN e
  let ones := List.replicate n (0xFF : Byte)
  let due := fun (y : Trib) (f : List Byte) => { y with frame := if y.masked e then ones else f, mark := true }
  if entDir e = 3 then
    (if s.rowSync (entBits e 13 6) then s else s.setTrib ctx { x with frame := ones, mark := true })
  else if ¬ x.flowing then s.setTrib ctx (due x ones)
  else if entNom e ≤ x.down.length then
    let f := bitsBytes (x.down.take (entNom e)) n
    s.setTrib ctx { due x f with down := x.down.drop (entNom e), last := f }
  else if x.loc ∨ x.ais then s.setTrib ctx { due x ones with down := [], flowing := false }
  else if x.last.length = n then (s.setTrib ctx (due x x.last)).tribSlip ctx
  else
    let (bs, s1) := s.freeBits (entNom e)
    (s1.setTrib ctx (due x (bitsBytes bs n))).tribSlip ctx

/-! ### Rows (R219-R221) -/

/-- The lowest context whose entry claims a slot direction (R228). -/
def State.claimant (s : State) (l t : Nat) (tx : Bool) : Option (Fin 1024) :=
  (List.finRange 1024).find? (fun c =>
    let e := s.mapEntry (s.tribCopy c) c.val
    entOn e && (entClaims e).contains (l, t, tx))

/-- The context in service at a slot direction, with its entry. -/
def State.slotOwner (s : State) (l t : Nat) (tx : Bool) : Option (Fin 1024 × Nat) :=
  match s.claimant l t tx with
  | none => none
  | some c =>
    match s.served c with
    | some e => some (c, e)
    | none => none

/-- The lane is in a tributary-lane mode and its PCS works. -/
def State.tribLane (s : State) (l : Fin 48) : Bool :=
  decide (6 ≤ (s.lane l).mode) && (decide ((s.lane l).st = .sync) || decide ((s.lane l).st = .up))

/-- A data byte enters the mapper store (R204, R206). -/
def State.storeUp (s : State) (ctx : Fin 1024) (e : Nat) (b : Byte) : State :=
  let x := s.trib ctx
  let up := x.up ++ byteBits b
  let y := { x with arrived := x.arrived + 8 }
  if up.length ≤ 4 * entNom e then s.setTrib ctx { y with up := up }
  else if entClass e = 4 then (s.setTrib ctx { y with up := up.drop (entNom e) }).tribSlip ctx
  else (s.setTrib ctx { y with up := storeReset e up }).tribSlip ctx

/-- A slot character reaches the context that receives from the slot (R219, R221, R222). -/
def State.slotIn (s : State) (ctx : Fin 1024) (e : Nat) (ch : SlotChar) : State :=
  let x := s.trib ctx
  let data := fun (b : Byte) =>
    if entDir e = 3 then s.setTrib ctx { x with hin := x.hin ++ [.data b] } else s.storeUp ctx e b
  match ch with
  | .empty => s
  | .data b => data b
  | .violation => data 0xFF
  | .mark =>
    if entClass e ≠ 4 then s
    else if entDir e = 3 then s.setTrib ctx { x with hin := x.hin ++ [.mark] }
    else s.setTrib ctx { x with up := x.up.take (x.up.length / entNom e * entNom e) }

/-- The overhead byte of a row (R219): label and status of a slot. -/
def State.overheadIn (s : State) (ctx : Fin 1024) (row : Nat) (b : Byte) : State :=
  let x := s.trib ctx
  if row / 16 = 0 then s.tribSet ctx { x with labLane := x.labLane.label b }
  else if row / 16 = 1 then s.tribSet ctx { x with staLane := x.staLane.status b }
  else s

/-- The slots and the overhead of a row of a lane in SYNC cross the Seam to the line die (R11); in Nap it is off (R604). -/
def State.deliverRow (s : State) (l : Fin 48) (row : Nat) (r : RowIn) : State :=
  if ¬ s.domOn 9 ∨ s.seam.phase ≠ .up then s
  else
  let s1 := (List.range 16).foldl (fun (t : State) i =>
    match t.slotOwner l.val i false with
    | some (c, e) => t.slotIn c e (r.slots.getD i .empty)
    | none => t) s
  match s1.slotOwner l.val (row % 16) false with
  | some (c, _) => s1.overheadIn c row r.oh
  | none => s1

/-- Replaces the row state of a lane. -/
def State.setRow (s : State) (l : Fin 48) (x : RowLane) : State := { s with rows := s.rows.set l x }

/-- A character of a row as the row CRC takes it: its K flag, then its 8 bits (R219); one with a violation is data 0xFF (R221). -/
def charBits : SlotChar → List Bool
  | .data b => false :: byteBits b
  | .empty => true :: byteBits 0x1C
  | .mark => true :: byteBits 0x9C
  | .violation => false :: byteBits 0xFF

/-- The row CRC over the 16 slots and the overhead byte (R219). -/
def rowCrc (slots : List SlotChar) (oh : Byte) : Byte := crc8 ((slots.map charBits).flatten ++ charBits (.data oh))

/-- The CRC of a row checks. -/
def rowGood (r : RowIn) : Bool := decide (r.crc = rowCrc r.slots r.oh)

/-- A row is checked: the table of R220. -/
def State.checkRow (s : State) (l : Fin 48) (r : RowIn) : State :=
  let x := s.rows[l]
  let row := (x.row + 1) % 256
  let right := decide (r.marker = if row = 0 then 0 else 1)
  match x.st with
  | .hunt => if r.marker = 0 then s.setRow l { x with st := .check, row := 0 } else s
  | .check =>
    if ¬ right then s.setRow l { x with st := .hunt }
    else if row = 0 then (s.setRow l { x with st := .sync, row := 0, run := 0, rdi := false }).laneUp l
    else s.setRow l { x with row := row }
  | .sync =>
    if right ∧ rowGood r then ((s.setRow l { x with row := row, run := 0 }).laneUp l).deliverRow l row r
    else if x.run + 1 < 4 then
      let s1 := if rowGood r then s else s.bump (R.TRB_LANE_CNT_CRC l.val)
      (s1.setRow l { x with row := row, run := x.run + 1 }).deliverRow l row r
    else ((s.setRow l { x with st := .hunt, run := 0, rdi := true }).laneLost l).fire P.TRB E.TRB_LANE_SYNC_LOSS

/-! ### Rows to the lanes -/

/-- The desynchroniser of a class-0 to class-3 context up to time `now` in ns: the output phase advances at the nominal rate, with the
smoothed justifications and the loop on the store fill, and at the rate held while no output runs (R209, R213, log entry 144). -/
def Trib.play (x : Trib) (e now : Nat) : Trib :=
  let r := if x.flowing then
    x.jest + entGain e * ((x.down.length : Int) - (entNom e * entPeriods e / 2 : Nat)) else x.rate
  { x with rate := r, phase := x.phase + ((entNom e : Int) * 2 ^ 32 + r) * (now - x.outAt : Nat) / entPeriod e, outAt := now }

/-- Output bytes that the phase has reached (R210). -/
def Trib.bytesDue (x : Trib) : Nat := (x.phase / 2 ^ 35).toNat

/-- The context once `n` of the due bytes have their row: the phase falls by them; bytes that no row took in time are passed over. -/
def Trib.taken (x : Trib) (n : Nat) : Trib := { x with phase := x.phase - n * 2 ^ 35, down := x.down.drop (8 * (n - 1)) }

/-- The character of a slot of the row that leaves (R206, R208, R210, R222, R223). -/
def State.slotOut (s : State) (ctx : Fin 1024) (e : Nat) : SlotChar × State :=
  let x := s.trib ctx
  let hairpin := decide (entDir e = 3)
  let inSync := s.rowSync (entBits e 13 6)
  if hairpin ∧ inSync then
    match x.hout with
    | ch :: r => (ch, s.setTrib ctx { x with hout := r })
    | [] => (.empty, s)
  else if entClass e = 4 then
    match x.frame with
    | [] => (.empty, s)
    | b :: r => if x.mark then (.mark, s.setTrib ctx { x with mark := false }) else (.data b, s.setTrib ctx { x with frame := r })
  else
    let y := x.play e s.clock.mono
    let n := y.bytesDue
    if n = 0 then (.empty, s.setTrib ctx y)
    else
      let s1 := s.setTrib ctx (y.taken n)
      if hairpin then (.data 0xFF, s1) else (let (b, s2) := s1.slotByte ctx e; (.data b, s2))

/-- What slot `i` of a lane carries: what its context gives, nothing where it has none. -/
def State.slotAt (s : State) (l : Fin 48) (i : Nat) : SlotChar × State :=
  match s.slotOwner l.val i true with
  | some (c, e) => s.slotOut c e
  | none => (.empty, s)

/-- The 16 slots of the row that leaves. -/
def State.slotsOut (s : State) (l : Fin 48) : List Nat → List SlotChar × State
  | [] => ([], s)
  | i :: is =>
    let (ch, s1) := s.slotAt l i
    let (cs, s2) := s1.slotsOut l is
    (ch :: cs, s2)

/-- The sixteen slots of the row that leaves. -/
def State.rowSlots (s : State) (l : Fin 48) : List SlotChar × State := s.slotsOut l (List.range 16)

/-- The overhead byte of the row that leaves (R213, R218, R219, R222, R223). The label that a demapper sends to its slot the spec
does not state. -/
def State.overheadOut (s : State) (l : Fin 48) (row : Nat) : Byte × State :=
  match s.slotOwner l.val (row % 16) true with
  | none => (0, s)
  | some (c, e) =>
    let x := s.trib c
    if row / 16 = 0 then
      (if entDir e = 3 then (x.labLane.value.getD 0, s) else (let (w, s1) := s.freeVal; (w.setWidth 8, s1)))
    else if row / 16 = 1 then
      (if entDir e = 3 then
        (if s.rowSync (entBits e 13 6) then x.staLane.value.getD 0 else 0x80, s)
      else (BitVec.ofNat 8 (b2n (x.loc || x.aisIn) * 0x80 + b2n (x.staFib.has 6) * 0x40), s))
    else (0, s)

/-! ### The map (R226-R230) -/

/-- A write of TBL_DATA_LO or TBL_DATA_HI; the write of HI stores the entry in the shadow (R226, R229), without its reserved bits
(R28). -/
def State.opTblData (s : State) (r : Req) (hi : Bool) (v : Word) : State :=
  let k := if hi then R.TRB_TBL_DATA_HI else R.TRB_TBL_DATA_LO
  if s.bit F.TRB_TBL_ADDR_VIEW ∨ s.bit F.TRB_TBL_STAT_BUSY ∨ s.applying P.TRB then s.refuse r k
  else if ¬ hi then s.wr k (BitVec.ofNat 32 (v.toNat % 2 ^ 29))
  else
    let c := s.fld F.TRB_TBL_ADDR_CTX
    let e := (s.rd R.TRB_TBL_DATA_LO).toNat + v.toNat % 2 ^ 18 * 2 ^ 32
    let s1 := { s with tmap := mapPut 0 s.tmap ((1 - s.fld F.TRB_MAP_CTL_ACTIVE) * 1024 + c) e }
    (if s.bit F.TRB_TRB_CTL_AUTO_INC then s1.setFld F.TRB_TBL_ADDR_CTX (c + 1) else s1).viewTbl

/-- A write of TBL_CMD: COPY starts, CHECK checks the shadow (R228, R229). -/
def State.opTblCmd (s : State) (v : Word) : State :=
  let s1 := if v.getLsbD 0 then s.setFld F.TRB_TBL_STAT_BUSY 1 else s
  if v.getLsbD 1 then
    let sh := 1 - s1.fld F.TRB_MAP_CTL_ACTIVE
    match (List.range 1024).find? (fun c => s1.mapConflict sh c) with
    | some c => (s1.setFld F.TRB_TBL_STAT_CONFLICT 1).setFld F.TRB_TBL_STAT_CONFLICT_CTX c
    | none => (s1.setFld F.TRB_TBL_STAT_CONFLICT 0).setFld F.TRB_TBL_STAT_CONFLICT_CTX 0
  else s1

/-- The copy of the active map into its shadow completes (R229). -/
def State.copyTbl (s : State) : State :=
  let a := s.fld F.TRB_MAP_CTL_ACTIVE
  let act := s.tmap.filter (fun e => decide (e.1 / 1024 = a))
  let new := act.foldl (fun m e => mapIns m ((1 - a) * 1024 + e.1 % 1024) e.2) act
  if s.bit F.TRB_TBL_STAT_BUSY then (({ s with tmap := new }).setFld F.TRB_TBL_STAT_BUSY 0).viewTbl else s

/-- A write of TRB_CTL: contexts in service start when EN rises. -/
def State.opTrbCtl (s : State) (v : Word) : State :=
  let s1 := s.store R.TRB_TRB_CTL v
  if s1.bit F.TRB_TRB_CTL_EN ∧ ¬ s.bit F.TRB_TRB_CTL_EN then
    (List.finRange 1024).foldl (fun (t : State) (c : Fin 1024) =>
      match s1.served c with
      | some e => t.tribRestart c e
      | none => t) s1
  else s1

/-- A W1C write of ST_FLAGS of the selected context. -/
def State.opStFlags (s : State) (v : Word) : State :=
  let c : Fin 1024 := Fin.ofNat 1024 (s.fld F.TRB_ST_SEL_CTX)
  let x := s.trib c
  s.setTrib c { x with latch := x.latch &&& ~~~ v.setWidth 9 }

/-- A write of TEST_CTL; an analyser that stops, or takes another context, is not in step. -/
def State.opTestCtl (s : State) (v : Word) : State :=
  let s1 := s.store R.TRB_TEST_CTL v
  if s1.bit F.TRB_TEST_CTL_ANA_EN ∧ s1.fld F.TRB_TEST_CTL_CTX = s.fld F.TRB_TEST_CTL_CTX then s1
  else { s1 with ttest := { s1.ttest with sync := false } }

/-- The computed registers of page TRB. -/
def readTRB (s : State) (o : Nat) : Option Word :=
  let c : Fin 1024 := Fin.ofNat 1024 (s.fld F.TRB_ST_SEL_CTX)
  let x := s.trib c
  let sync := fun (a n : Nat) => some (BitVec.ofNat 32 ((List.range n).foldl (fun v i => v + b2n (s.rowSync (a + i)) * 2 ^ i) 0))
  if o = 0x064 then some (BitVec.ofNat 32 (x.latch.toNat + (s.tribNow c).toNat * 2 ^ 16))
  else if o = 0x068 then some (BitVec.ofNat 32 (x.rateDown.toNat + x.rateUp.toNat * 2 ^ 16))
  else if o = 0x06C then some (BitVec.ofNat 32 ((x.labFib.value.getD 0).toNat + (x.labLane.value.getD 0).toNat * 2 ^ 8))
  else if o = 0x0A4 then some (setField (s.rd R.TRB_TEST_CTL) 16 1 (b2n s.ttest.sync))
  else if o = 0x0AC then sync 0 32
  else if o = 0x0B0 then sync 32 16
  else none

/-! ### Rates (R205) -/

/-- A signed number in 16 bits; outside its format the spec states no value. -/
def State.fit16 (s : State) (x : Int) : BitVec 16 × State :=
  if -(2 ^ 15) ≤ x ∧ x < 2 ^ 15 then (BitVec.ofInt 16 x, s) else (let (w, t) := s.freeVal; (w.setWidth 16, t))

/-- A second ends for a context. -/
def State.rateSecond (s : State) (ctx : Fin 1024) (e : Nat) : State :=
  let x := s.trib ctx
  let ppm := fun (net : Int) => if entClass e = 4 then 0 else roundDiv (net * 10000000) (entRate e)
  let (d, s1) := s.fit16 (ppm x.netDown)
  let (u, s2) := s1.fit16 (ppm x.netUp)
  let oor := decide (2000 < (ppm x.netDown).natAbs) || decide (2000 < (ppm x.netUp).natAbs)
  s2.tribSet ctx { x with netDown := 0, netUp := 0, rateDown := d, rateUp := u, oor := oor }

/-! ### Commands -/

/-- CONTAINER_BUILD (R202, R207). -/
def execContainerBuild (ctx : Fin 1024) (s : State) : Res :=
  .next (match s.served ctx with
    | some e => if entUp e then s.buildContainer ctx e else s
    | none => s)

/-- CONTAINER_RECEIVE (R211). -/
def execContainerReceive (c : Chan) (s : State) : Res := .next (s.receiveContainer c)

/-- DESYNC_START (R208). -/
def execDesyncStart (ctx : Fin 1024) (s : State) : Res :=
  .next (match s.served ctx with
    | some e =>
      let x := s.trib ctx
      if entDown e ∧ ¬ x.flowing ∧ ¬ x.loc ∧ entNom e * entPeriods e ≤ 2 * x.down.length then
        s.setTrib ctx { x with flowing := true }
      else s
    | none => s)

/-- LOC_TIMEOUT (R213). -/
def execLocTimeout (ctx : Fin 1024) (s : State) : Res :=
  .next (match s.served ctx with
    | some e => if entDown e ∧ s.running (T.loc ctx.val) then s.tribLoc ctx else s
    | none => s)

/-- TRIB_RATE_SECOND (R205). -/
def execTribRateSecond (s : State) : Res :=
  .next ((List.finRange 1024).foldl (fun (t : State) (c : Fin 1024) =>
    match t.served c with
    | some e => if entDir e = 3 then t else t.rateSecond c e
    | none => t) s)

/-- LANE_ROW_CHECK (R220). -/
def execLaneRowCheck (l : Fin 48) (row : RowIn) (s : State) : Res :=
  if row.slots.length ≠ 16 then .fault .illFormed
  else .next (if s.tribLane l then s.checkRow l row else s)

/-- HAIRPIN_BYTE (R222): the next data byte of the input slot, with the mark before it, goes to the output slot. -/
def execHairpinByte (ctx : Fin 1024) (s : State) : Res :=
  .next (match s.served ctx with
    | some e =>
      let x := s.trib ctx
      let n := (x.hin.takeWhile (fun ch => decide (ch = .mark))).length + 1
      if entDir e = 3 ∧ n ≤ x.hin.length ∧ s.domOn 9 then s.setTrib ctx { x with hin := x.hin.drop n, hout := x.hout ++ x.hin.take n } else s
    | none => s)

/-- What the framer of a lane sends in a row: what the line die gave it, or, with no Seam between them, empty slots and an overhead byte
that the spec does not state (R11, log entry 145). -/
def State.acrossSeam (s : State) (slots : List SlotChar) (oh : Byte) : (List SlotChar × Byte) × State :=
  if s.seam.phase = .up then ((slots, oh), s)
  else
    let (w, s1) := s.freeVal
    ((slots.map (fun _ => .empty), w.setWidth 8), s1)

/-- TRIB_ROW_TRANSMIT (R210, R219). -/
def execTribRowTransmit (l : Fin 48) (s : State) : Res :=
  .next (if ¬ s.tribLane l then s
  else
    let x := s.rows[l]
    let (slots, s1) := s.rowSlots l
    let (oh, s2) := s1.overheadOut l x.txRow
    let ((slots, oh), s3) := s2.acrossSeam slots oh
    (s3.setRow l { s3.rows[l] with txRow := (x.txRow + 1) % 256 }).emit
      (.row l x.txRow slots oh (rowCrc slots oh) (BitVec.ofNat 8 (b2n x.rdi * 0x80))))

/-- TBL_DATA_WRITE (R226). -/
def execTblDataWrite (r : Req) (v : Word) (s : State) : Res :=
  .next (s.access r R.TRB_TBL_DATA_HI true (fun t => t.opTblData r true v))

/-- TBL_COPY (R229). -/
def execTblCopy (r : Req) (v : Word) (s : State) : Res := .next (s.access r R.TRB_TBL_CMD true (fun t => t.opTblCmd (v ||| 1)))

/-- TBL_CHECK (R228). -/
def execTblCheck (r : Req) (v : Word) (s : State) : Res := .next (s.access r R.TRB_TBL_CMD true (fun t => t.opTblCmd (v ||| 2)))

/-- FRAME_SYNC_EDGE (R206, R537): class-4 tributaries take their period from the frame sync whether or not the output is driven. -/
def execFrameSyncEdge (s : State) : Res :=
  let s1 := (List.finRange 1024).foldl (fun (t : State) (c : Fin 1024) =>
    match t.served c with
    | some e => if entClass e = 4 ∧ entDir e ≠ 2 then t.framePeriod c e else t
    | none => t) s
  .next (if s.bit F.TCL_OUT_CTL_FS_EN ∧ ¬ s.squelched ∧ s.domOn 32 then s1.emit .frameSync else s1)

end Sys2Proof.Machine
end

