-- ==== Sys2Proof/Machine/Keys.lean ====
section
/-! DEFINITION. Chapter 9: upstream messages, the key states, rolls, the decryptor, the unwrap engine (R243-R245, R305-R338). -/

namespace Sys2Proof.Machine

open Sys2Proof

/-! ### Upstream messages (R243-R245) -/

/-- ACT changes. -/
def State.setAct (s : State) (f : Act → Act) : State := { s with act := f s.act }

/-- The terminal ID that a message carries: 0xFFF without one. -/
def State.ownTid (s : State) : BitVec 12 := s.act.tid.getD 0xFFF

/-- A message body of 40 bytes. -/
def bodyOf40 (bs : List Byte) : List Byte := (bs ++ List.replicate 40 0).take 40

/-- A message enters the queue of 8, or is discarded (R245); it takes its SEQ when a burst takes it (log entry 43). -/
def State.queueMsg (s : State) (type : BitVec 8) (body : List Byte) : State :=
  if s.act.umsgs.length < 8 then
    s.setAct (fun a => { a with umsgs := a.umsgs ++ [⟨s.ownTid, type, 0, 0, bodyOf40 body⟩] })
  else (s.bump R.ACT_CNT_UMSG_DROP).fire P.ACT E.ACT_UMSG_DROP

/-- The ACK of a message addressed to the terminal's own ID, while the terminal holds it (R244, log entry 44). -/
def State.sendAck (s : State) (h : MsgHdr) (type result : Nat) : State :=
  if s.act.tid = some h.tid then
    s.queueMsg 0x83 [BitVec.ofNat 8 type, h.seq, BitVec.ofNat 8 (h.param.toNat % 4), BitVec.ofNat 8 result]
  else s

/-- The RESULT of a KEY_BLOB is known: a repeat is acknowledged with it. -/
def State.noteResult (s : State) (h : MsgHdr) (result : Nat) : State :=
  s.setAct (fun a => { a with seqs := a.seqs.map (fun x =>
    if x.type = 0x0D ∧ x.param = h.param ∧ x.seq = h.seq then { x with result := some result } else x) })

/-- A vector of four flags as bits. -/
def bits4 (f : Chan → Bool) : Nat := (List.finRange 4).foldl (fun n c => n + b2n (f c) * 2 ^ c.val) 0

/-- ACT_STAT.STATE as a number. -/
def TermSt.num : TermSt → Nat
  | .dark => 0 | .listening => 1 | .announcing => 2 | .ranging => 3 | .operating => 4 | .holdover => 5 | .silenced => 6

/-! ### Pairs and indices (R312) -/

/-- The upstream pair of a channel. -/
def pairUp (c : Chan) : Fin 8 := Fin.ofNat 8 (2 * c.val)

/-- The downstream pair of a channel. -/
def pairDown (c : Chan) : Fin 8 := Fin.ofNat 8 (2 * c.val + 1)

/-- The channel of a pair. -/
def pairChan (n : Fin 8) : Chan := Fin.ofNat 4 (n.val / 2)

/-- A pair. -/
def State.pair (s : State) (n : Fin 8) : Pair := s.pairs[n]

/-- Replaces a pair. -/
def State.setPair (s : State) (n : Fin 8) (x : Pair) : State := { s with pairs := s.pairs.set n x }

/-- An index of a pair. -/
def Pair.slot (x : Pair) (i : Bool) : KeySlot := if i then x.k1 else x.k0

/-- Replaces an index of a pair. -/
def Pair.setSlot (x : Pair) (i : Bool) (k : KeySlot) : Pair := if i then { x with k1 := k } else { x with k0 := k }

/-- The key of a slot leaves the pair: the history of the last 8 (R317). -/
def Pair.leave (x : Pair) (i : Bool) : Pair :=
  let cv := (x.slot i).cv
  if x.hist.contains cv then x else { x with hist := (cv :: x.hist).take 8 }

/-- The index that is ACTIVE for frame `f`: before the frame of a roll the former one (R319). -/
def Pair.activeAt (x : Pair) (f : Nat) : Option Bool :=
  match x.old with
  | some (o, t) =>
    let i := if f < t then o else !o
    if (x.slot i).st = .active then some i else none
  | none => if x.k0.st = .active then some false else if x.k1.st = .active then some true else none

/-- The index that KEY_STAT shows. -/
def Pair.active (x : Pair) : Option Bool := x.activeAt 0

/-- Sets a bit of a field of PAIR_FLAGS for a pair. -/
def State.pairFlag (s : State) (lo : Nat) (n : Fin 8) : State := s.setFld ⟨R.LCK_PAIR_FLAGS, lo + n.val, 1⟩ 1

/-- A key is spent (R312). -/
def State.spendKey (s : State) (n : Fin 8) (i : Bool) (cause : Nat) : State :=
  let x := s.pair n
  let k := x.slot i
  let y := (x.setSlot i { k with st := .spent, cause := cause }).leave i
  (s.setPair n { y with spent := x.spent || decide (k.st = .active) }).fire P.LCK E.LCK_KEY_SPENT

/-- A key becomes RETIRED. -/
def Pair.retire (x : Pair) (i : Bool) : Pair :=
  let k := x.slot i
  if k.st = .active ∨ k.st = .loaded then (x.setSlot i { k with st := .retired }).leave i else x

/-- FC_BACK or FC_FORGET on a channel spends the keys of both its pairs (R312, R313). -/
def State.spendChannel (s : State) (c : Chan) (cause : Nat) : State :=
  [pairUp c, pairDown c].foldl (fun (t : State) (n : Fin 8) =>
    [false, true].foldl (fun (u : State) i =>
      let k := (u.pair n).slot i
      if k.st = .active ∨ (k.st = .loaded ∧ k.used) then u.spendKey n i cause else u) t) s

/-- The bursts of a channel lose the key of its upstream pair. -/
def Upb.dropKeys (x : Upb) : Upb :=
  { x with cur := x.cur.map (fun b => { b with key := none }), fixed := x.fixed.map (fun b => { b with key := none }) }

/-- A pair and its history are erased (R318), and with them the key that a burst uses. -/
def State.erasePair (s : State) (n : Fin 8) : State :=
  let s1 := s.setPair n { s.pair n with k0 := {}, k1 := {}, hist := [], old := none }
  if n.val % 2 = 0 then { s1 with upb := s1.upb.set (pairChan n) (s1.upb[pairChan n]).dropKeys } else s1

/-- Every pair is erased. -/
def State.eraseAll (s : State) : State := (List.finRange 8).foldl State.erasePair s

/-- A fragment uses a key (R312, R315): `nonce` is FC × 65,536 + FRAG_IDX. -/
def State.useKey (s : State) (n : Fin 8) (i : Bool) (nonce : Nat) : State :=
  let k := (s.pair n).slot i
  let count := k.count + 1
  let warn := decide (2 ^ s.fld F.LCK_LCK_CTL_WARN_EXP ≤ count) && !k.warned
  let k1 := { k with used := true, count := min (2 ^ 32) count, nonce := some nonce, warned := k.warned || warn }
  let s1 := (s.setPair n ((s.pair n).setSlot i k1)).bump64 (R.LCK_CNT_FRAG_LO n.val) (R.LCK_CNT_FRAG_HI n.val) 1
  let s2 := if warn then (s1.pairFlag 16 n).fire P.LCK E.LCK_KEY_WARN else s1
  if 2 ^ 32 ≤ count ∧ (k.st = .active ∨ k.st = .loaded) then s2.spendKey n i 3 else s2

/-! ### Frames -/

/-- Frame `a` is not before frame `b`, modulo 2^48. -/
def frameGe (a b : Nat) : Bool := decide ((a + 2 ^ 48 - b % 2 ^ 48) % 2 ^ 48 < 2 ^ 47)

/-- The downstream frame in progress: the last accepted FRAME_CNT and the frames since (R167). -/
def State.downFrame (s : State) (c : Chan) : Option Nat :=
  let x := s.dsf[c]
  match x.fc with
  | some f => some ((f + x.since) % 2 ^ 48)
  | none => none

/-- The frame in progress in the direction of a pair; before any upstream frame has begun, the downstream one. -/
def State.pairFrame (s : State) (n : Fin 8) : Option Nat :=
  let c := pairChan n
  if n.val % 2 = 1 then s.downFrame c
  else
    match (s.upb[c]).frame with
    | some k => some k
    | none => s.downFrame c

/-! ### Rolls (R319-R322, R325-R327) -/

/-- A pending roll ends: a group that ordered it goes on (R327). -/
def State.rollEnd (s : State) (n : Fin 8) : State :=
  match (s.pair n).roll with
  | some x =>
    let s1 := s.setPair n { s.pair n with roll := none }
    if x.group then s1.switchAny (.roll n) else s1
  | none => s

/-- A roll fails. -/
def State.rollFail (s : State) (n : Fin 8) : State := ((s.pairFlag 8 n).fire P.LCK E.LCK_ROLL_FAIL).rollEnd n

/-- A roll has been carried out. -/
def State.rollDone (s : State) (n : Fin 8) : State := ((s.pairFlag 0 n).fire P.LCK E.LCK_ROLL_DONE).rollEnd n

/-- A roll becomes pending; it replaces an earlier one (R321). -/
def State.orderRoll (s : State) (n : Fin 8) (x : Roll) : State :=
  let s1 := s.rollEnd n
  s1.setPair n { s1.pair n with roll := some x }

/-- The pending rolls of a channel fail (R321). -/
def State.rollsFail (s : State) (c : Chan) : State :=
  [pairUp c, pairDown c].foldl (fun (t : State) (n : Fin 8) => if (t.pair n).roll.isSome then t.rollFail n else t) s

/-- The check of an upstream roll for frame `k`, at the fixing of a burst or at the start of the frame (R319). -/
def State.rollUp (s : State) (n : Fin 8) (k : Nat) (start : Bool) : State :=
  let x := s.pair n
  match x.roll with
  | none => s
  | some r =>
    if ¬ frameGe k r.frame then s
    else
      match (x.slot r.idx).st with
      | .active => s.rollDone n
      | .loaded =>
        let former := x.active
        let y := { x.setSlot r.idx { x.slot r.idx with st := .active } with spent := false }
        let z := match former with
          | some o => if start then y.retire o else { y with old := some (o, r.frame) }
          | none => y
        ((s.setPair n z).bump (R.LCK_CNT_ROLL n.val)).rollDone n
      | _ => s.rollFail n

/-- An upstream frame begins: the former key of a roll is retired, a roll for the frame is checked (R319). -/
def State.rollFrame (s : State) (c : Chan) (k : Nat) : State :=
  let n := pairUp c
  let x := s.pair n
  let s1 := match x.old with
    | some (o, t) => if frameGe k t then s.setPair n { x.retire o with old := none } else s
    | none => s
  s1.rollUp n k true

/-- The first fragment of downstream frame `f` (R320). -/
def State.rollDown (s : State) (c : Chan) (f : Nat) : State :=
  let n := pairDown c
  let x := s.pair n
  match x.roll with
  | none => s
  | some r =>
    if ¬ frameGe f r.frame then s
    else
      let k := x.slot r.idx
      if k.st = .loaded ∨ k.st = .active then
        let y := (x.setSlot r.idx { k with st := .active }).retire (!r.idx)
        ((s.setPair n { y with spent := false }).bump (R.LCK_CNT_ROLL n.val)).rollDone n
      else s.rollFail n

/-- The register values of a group at slot `i` once it has applied. -/
def State.groupVal (s : State) (i : Fin 4) (k : Nat) : Word := mapGet (s.rd k) s.cmt.slots[i].writes k

/-- The roll of pair `n` that the group of slot `i` orders (R325, R326). -/
def State.groupRoll (s : State) (i : Fin 4) (n : Fin 8) : State :=
  let c := pairChan n
  let f := (s.groupVal i (R.LCK_ROLL_FC_LO n.val)).toNat + getField (s.groupVal i (R.LCK_ROLL_FC_HI n.val)) 0 16 * 2 ^ 32
  let idx := (s.groupVal i (R.LCK_ROLL_CTL n.val)).getLsbD 1
  if ¬ natBit (s.fld F.LCK_LCK_CTL_LOCAL_ROLL) c.val then (s.fire P.LCK E.LCK_ROLL_IGNORED).switchUnit i (.roll n)
  else
    match (if (s.dsf[c]).fc.isSome then s.pairFrame n else none) with
    | none => ((s.pairFlag 8 n).fire P.LCK E.LCK_ROLL_FAIL).switchUnit i (.roll n)
    | some now =>
      let d := (f + 2 ^ 48 - now) % 2 ^ 48
      if 1 ≤ d ∧ d ≤ 65536 then s.orderRoll n ⟨idx, f, true⟩
      else (s.orderRoll n ⟨idx, (now + 1) % 2 ^ 48, true⟩).fire P.LCK E.LCK_ROLL_LATE

/-- The rolls that the group of slot `i` orders, at its apply decision on the line die (R325). -/
def State.groupRolls (s : State) (i : Fin 4) : State :=
  ((List.finRange 8).filter (fun n =>
    let k := R.LCK_ROLL_CTL n.val
    (mapKeys s.cmt.slots[i].writes).contains k && (mapGet 0 s.cmt.slots[i].writes k).getLsbD 0)).foldl
    (fun (t : State) (n : Fin 8) => t.groupRoll i n) s

/-! ### The decryptor (R308, R310) -/

/-- A field of a fragment header. -/
def fragField (h : BitVec 64) (lo n : Nat) : Nat := h.toNat / 2 ^ lo % 2 ^ n

/-- A fragment is discarded with a counter of the downstream pair. -/
def State.discardFrag (s : State) (k : Nat) : Option (List Byte) × State := (none, s.bump k)

/-- A packet fragment with header `h` of downstream frame `fc` is decrypted and passed on, or discarded (R305, R306, R308): `own`: its
TID is this terminal's. The answer is its data. -/
def State.decrypt (s : State) (c : Chan) (own : Bool) (h : BitVec 64) (fc : Nat) (body : List Byte) : Option (List Byte) × State :=
  let n := pairDown c
  let idx := h.getLsbD 18
  let k := (s.pair n).slot idx
  let place := fc * 65536 + fragField h 20 16
  let nonce := fragNonce (fragField h 48 12) false c.val fc (fragField h 20 16)
  if h.getLsbD 19 then
    if ¬ s.bit F.LCK_LCK_CTL_EN ∨ ¬ own then s.discardFrag (R.LCK_CNT_NO_KEY n.val)
    else
      match k.st with
      | .empty => s.discardFrag (R.LCK_CNT_NO_KEY n.val)
      | .spent => s.discardFrag (R.LCK_CNT_NO_KEY n.val)
      | .retired => s.discardFrag (R.LCK_CNT_OLD_KEY n.val)
      | _ =>
        if (match k.nonce with | some m => decide (place ≤ m) | none => false) then
          ((s.pairFlag 24 n).fire P.LCK E.LCK_REPLAY).discardFrag (R.LCK_CNT_REPLAY n.val)
        else if ¬ gcmChecks k.key nonce (toBytesBE 8 h.toNat) body then
          ((s.pairFlag 24 n).fire P.LCK E.LCK_AUTH_FAIL).discardFrag (R.LCK_CNT_AUTH_FAIL n.val)
        else (some (gcmOpen k.key nonce body), s.useKey n idx place)
  else if own ∧ ¬ s.bit F.LCK_LCK_CTL_DS_CLEAR then s.discardFrag (R.LCK_CNT_CLEAR_DISC n.val)
  else (some body, s)

/-! ### The unwrap engine (R328-R337) -/

/-- KEY changes. -/
def State.setKey (s : State) (f : Key → Key) : State := { s with key := f s.key }

/-- The RESULT of an ACK for a result of R329. -/
def ackOf (result : Nat) : Nat := if result = 0 then 0 else if result ≤ 3 then 2 else 1

/-- A job has its result: events, counters, lockout (R329, R331), and the ACK or KEY_JOB. -/
def State.jobResult (s : State) (j : KeyJob) (result : Nat) : State :=
  let s1 := if result = 0 then (s.bump R.KEY_CNT_UNWRAP_OK).fire P.KEY E.KEY_UNWRAP_DONE
    else s.fire P.KEY E.KEY_UNWRAP_FAIL
  let s2 := if result = 1 ∨ result = 2 then s1.bump R.KEY_CNT_UNWRAP_FAIL
    else if result = 3 then s1.bump R.KEY_CNT_DUP_KEY else s1
  let s3 :=
    if result = 0 then s2.setKey (fun k => { k with fails := 0, backoff := 1 })
    else if result = 1 ∨ result = 2 then
      (if s2.key.fails + 1 < 8 then s2.setKey (fun k => { k with fails := k.fails + 1 })
      else ((s2.setKey (fun k => { k with fails := 0, locked := true })).startTimer T.lockout).fire P.KEY E.KEY_LOCKOUT)
    else s2
  match j.msg with
  | some h => (s3.noteResult h (ackOf result)).sendAck h 0x0D (ackOf result)
  | none => s3.setFld F.KEY_KEY_JOB_RESULT result

/-- The job at the head of the queue ends. -/
def State.jobEnd (s : State) (j : KeyJob) (result : Nat) : State :=
  (s.setKey (fun k => { k with jobs := k.jobs.tail, fusing := false })).jobResult j result

/-- A job enters the queue of 8, or ends with result 5 (R329). -/
def State.queueJob (s : State) (j : KeyJob) : State :=
  if s.key.jobs.length < 8 then s.setKey (fun k => { k with jobs := k.jobs ++ [j] }) else s.jobResult j 5

/-- The first fuse slot that is neither programmed nor bad. -/
def Key.freeSlot (k : Key) : Option Nat := (List.range 8).find? (fun i => !k.fused.getLsbD i && !k.bad.getLsbD i)

/-- The slot in use: the highest programmed and good (R335). -/
def Key.slotInUse (k : Key) : Nat :=
  ((List.range 8).filter (fun i => k.fused.getLsbD i && !k.bad.getLsbD i)).foldl max 0

/-- The wrapping key in use (R335). -/
def State.wrapKey (s : State) : List Byte := mapGet (Config.fuseKey s.key.slotInUse) s.key.wraps s.key.slotInUse

/-- Bytes of the plaintext of a target (R328). -/
def KeyTarget.size : KeyTarget → Nat
  | .memory => 64
  | _ => 32

/-- What the unwrapping of a job's blob under a wrapping key finds (R328): the initial value check, the length check, the plaintext. -/
def KeyJob.unwrap (j : KeyJob) (kek : List Byte) : Bool × Bool × List Byte :=
  let (a, p) := keyUnwrap kek (j.blob.take (j.target.size + 8))
  (decide (ofBytesBE (a.take 4) = 0xA65959A6), decide (ofBytesBE (a.drop 4) = j.target.size), p)

/-- A link key goes into an index (R312, R317). -/
def State.loadKey (s : State) (j : KeyJob) (n : Fin 8) (i : Bool) (key : List Byte) : State :=
  let x := s.pair n
  let cv := Config.keyCheck key
  let held := fun (k : KeySlot) => decide (k.st ≠ .empty) && decide (k.cv = cv)
  if (x.slot i).st = .active then s.jobEnd j 4
  else if held x.k0 ∨ held x.k1 ∨ x.hist.contains cv then s.jobEnd j 3
  else
    let y := if (x.slot i).st = .empty then x else x.leave i
    (s.setPair n (y.setSlot i { st := .loaded, key := key, cv := cv })).jobEnd j 0

/-- The install of a wrapping key ends (R336). -/
def State.installEnd (s : State) (j : KeyJob) (result : Nat) : State := (s.jobEnd j result).fire P.KEY E.KEY_INSTALL_FAIL

/-- The job at the head of the queue has been unwrapped (R328-R332, R336, R437): the first of these checks that fails gives the result
(log entries 99 and 142). -/
def State.unwrapDone (s : State) (j : KeyJob) : State :=
  let (icv, len, key) := j.unwrap s.wrapKey
  if s.key.locked then s.jobEnd j 6
  else if ¬ s.key.entropy then s.jobEnd j 7
  else if j.target = .reserved then s.jobEnd j 2
  else if ¬ icv then s.jobEnd j 1
  else if ¬ len then s.jobEnd j 2
  else
    match j.target with
    | .link n i => s.loadKey j n i key
    | .memory =>
      if s.mxe.running then s.jobEnd j 10
      else if key.take 32 = key.drop 32 then s.jobEnd j 11
      else (({ s with mxe := { s.mxe with next := some (key.take 32, key.drop 32), nextWrap := true } }).fire P.MXE
        E.MXE_NEXT_LOADED).jobEnd j 0
    | .wrap =>
      if s.key.freeSlot = none then s.installEnd j 8
      else if s.log.pf then s.installEnd j 9
      else s.setKey (fun k => { k with fusing := true, newKey := key })
    | .reserved => s

/-- The owner's job in the queue, if there is one (R330). -/
def Key.busy (k : Key) : Bool := k.jobs.any (fun j => j.msg.isNone)

/-- The bytes of BLOB0-BLOB17. -/
def State.blobBytes (s : State) : List Byte := ((List.range 18).map (fun k => toBytesBE 4 (s.rd (R.KEY_BLOB k)).toNat)).flatten

/-- A write of KEY_CMD (R329, R330, R336). -/
def State.opKeyCmd (s : State) (r : Req) (v : Word) : State :=
  if ¬ v.getLsbD 8 then s
  else
    let t := getField v 0 2
    let n : Fin 8 := if v.getLsbD 6 then pairUp (Fin.ofNat 4 (getField v 4 2)) else pairDown (Fin.ofNat 4 (getField v 4 2))
    let target : KeyTarget := if t = 0 then .link n (v.getLsbD 7) else if t = 1 then .memory else if t = 2 then .wrap else .reserved
    let act := fun (u : State) => if u.key.busy then u.refuse r R.KEY_KEY_CMD else u.queueJob ⟨target, u.blobBytes, none⟩
    if t = 2 then s.guarded r R.KEY_KEY_CMD act else act s

/-- A write of UNW_CFG; after the lock it may not weaken the countermeasures (R334). -/
def State.opUnwCfg (s : State) (r : Req) (v : Word) : State :=
  let lower := fun (f : Fld) => decide (getField v f.lo f.w < s.fld f)
  if s.bit F.KEY_UNW_LOCK_LOCK ∧ (lower F.KEY_UNW_CFG_DUMMY_MIN ∨ lower F.KEY_UNW_CFG_DUMMY_MAX ∨ lower F.KEY_UNW_CFG_JITTER_MAX ∨
      lower F.KEY_UNW_CFG_SHUFFLE) then s.refuse r R.KEY_UNW_CFG
  else s.store R.KEY_UNW_CFG v

/-- A write of KEY_ERASE (R318). -/
def State.opKeyErase (s : State) (v : Word) : State :=
  if v.getLsbD 8 then s.eraseAll
  else (List.finRange 8).foldl (fun (t : State) (n : Fin 8) => if v.getLsbD n.val then t.erasePair n else t) s

/-! ### Registers -/

/-- SLOT_STAT.STATE as a number. -/
def KeySt.num : KeySt → Nat
  | .empty => 0 | .loaded => 1 | .active => 2 | .retired => 3 | .spent => 4

/-- Flags of the eight pairs as bits. -/
def bits8 (f : Fin 8 → Bool) : Nat := (List.finRange 8).foldl (fun n i => n + b2n (f i) * 2 ^ i.val) 0

/-- The computed registers of page LCK. -/
def readLCK (s : State) (o : Nat) : Option Word :=
  let c : Chan := Fin.ofNat 4 (s.fld F.LCK_SLOT_SEL_CHAN)
  let k := (s.pair (if s.bit F.LCK_SLOT_SEL_UP then pairUp c else pairDown c)).slot (s.bit F.LCK_SLOT_SEL_INDEX)
  let fc := k.nonce.getD 0 / 65536
  if o = 0x044 then
    some (BitVec.ofNat 32 (bits8 (fun n => (s.pair n).active.isSome) + bits8 (fun n => (s.pair n).active = some true) * 2 ^ 8 +
      bits8 (fun n => (s.pair n).spent) * 2 ^ 16 + bits8 (fun n => (s.pair n).roll.isSome) * 2 ^ 24))
  else if o = 0x04C then some (BitVec.ofNat 32 (k.st.num + b2n k.used * 2 ^ 3 + k.cause * 2 ^ 4 + s.fld F.LCK_SLOT_STAT_READY * 2 ^ 8))
  else if o = 0x050 then some (BitVec.ofNat 32 (min k.count (2 ^ 32 - 1)))
  else if o = 0x054 then some (BitVec.ofNat 32 fc)
  else if o = 0x058 then some (BitVec.ofNat 32 (fc / 2 ^ 32 + k.nonce.getD 0 % 65536 * 2 ^ 16))
  else none

/-- Seconds that the back-off has left (R331). -/
def State.backoffLeft (s : State) : Nat :=
  if s.key.locked then
    let t := mapGet s.clock.mono s.timers T.lockout
    (t + s.key.backoff * 1000000000 - s.clock.mono + 999999999) / 1000000000
  else 0

/-- The computed registers of page KEY. -/
def readKEY (s : State) (o : Nat) : Option Word :=
  let k := s.key
  if o = 0x04C then some (BitVec.ofNat 32 (s.fld F.KEY_KEY_JOB_RESULT + b2n k.busy * 2 ^ 4 + k.jobs.length * 2 ^ 8))
  else if o = 0x050 then
    some (BitVec.ofNat 32 (k.slotInUse + ((List.range 8).filter (fun i => !k.fused.getLsbD i && !k.bad.getLsbD i)).length * 2 ^ 8 +
      k.bad.toNat * 2 ^ 16))
  else if o = 0x054 then
    some (BitVec.ofNat 32 (b2n k.entropy + b2n k.locked * 2 + k.fails * 2 ^ 2 + s.backoffLeft % 2 ^ 11 * 2 ^ 16))
  else none

/-! ### Commands -/

/-- UNWRAP_JOB_COMPLETE (R329): the job at the head of the queue; not while it programs a fuse. -/
def execUnwrapJobComplete (s : State) : Res :=
  .next (match s.key.jobs with
    | j :: _ => if s.key.fusing then s else s.unwrapDone j
    | [] => s)

/-- KEY_CMD_LINK (R329). -/
def execKeyCmdLink (r : Req) (v : Word) (s : State) : Res :=
  .next (s.access r R.KEY_KEY_CMD true (fun t => t.opKeyCmd r (setField (v ||| 0x100) 0 2 0)))

/-- KEY_CMD_MEMORY (R329). -/
def execKeyCmdMemory (r : Req) (v : Word) (s : State) : Res :=
  .next (s.access r R.KEY_KEY_CMD true (fun t => t.opKeyCmd r (setField (v ||| 0x100) 0 2 1)))

/-- KEY_CMD_WRAP (R336). -/
def execKeyCmdWrap (r : Req) (v : Word) (s : State) : Res :=
  .next (s.access r R.KEY_KEY_CMD true (fun t => t.opKeyCmd r (setField (v ||| 0x100) 0 2 2)))

/-- FUSE_PROGRAM_DONE (R336): programming ends and the slot is read back; `ok`: its check word passes. -/
def execFuseProgramDone (ok : Bool) (s : State) : Res :=
  .next (match s.key.jobs, s.key.freeSlot with
    | j :: _, some i =>
      if ¬ s.key.fusing then s
      else if ok then
        (((s.setKey (fun k => { k with fused := k.fused ||| BitVec.ofNat 8 (2 ^ i), wraps := mapIns k.wraps i k.newKey })).bump R.KEY_CNT_INSTALL).fire P.KEY
          E.KEY_WRAP_INSTALLED).jobEnd j 0
      else (s.setKey (fun k => { k with bad := k.bad ||| BitVec.ofNat 8 (2 ^ i) })).installEnd j 9
    | _, _ => s)

/-- LOCKOUT_END (R331): the next lockout lasts twice as long. -/
def execLockoutEnd (s : State) : Res :=
  .next (if s.key.locked then
    (s.setKey (fun k => { k with locked := false, backoff := min 1024 (2 * k.backoff) })).stopTimer T.lockout
  else s)

/-- ENTROPY_TEST_FAIL (R332): the entropy source of the line die, or of the fabric die. -/
def execEntropyTestFail (fab : Bool) (s : State) : Res :=
  .next (if fab then { s with mxe := { s.mxe with entropyOk := false } }
  else (s.setKey (fun k => { k with entropy := false })).fire P.KEY E.KEY_ENTROPY_FAIL)

/-- KEY_ERASE_PAIR (R318). -/
def execKeyErasePair (r : Req) (pairs : BitVec 8) (s : State) : Res :=
  .next (s.access r R.LCK_KEY_ERASE true (fun t => t.opKeyErase (pairs.setWidth 32)))

/-- KEY_ERASE_ALL (R318). -/
def execKeyEraseAll (r : Req) (s : State) : Res := .next (s.access r R.LCK_KEY_ERASE true (fun t => t.opKeyErase 0x100))

/-- UNW_LOCK (R334). -/
def execUnwLock (r : Req) (s : State) : Res := .next (s.access r R.KEY_UNW_LOCK true (fun t => t.store R.KEY_UNW_LOCK 1))

/-- UNW_CFG_WRITE (R334). -/
def execUnwCfgWrite (r : Req) (v : Word) (s : State) : Res := .next (s.access r R.KEY_UNW_CFG true (fun t => t.opUnwCfg r v))

end Sys2Proof.Machine
end

