-- ==== Sys2Proof/Machine/Uplink.lean ====
section
/-! DEFINITION. The upstream burst as bits (R278-R285): line levels, preamble, FEC region, burst header, fragment headers, messages,
tributary fragments; the test patterns (R302). -/

namespace Sys2Proof.Machine

open Sys2Proof

/-! ### Levels (R278, R279) -/

/-- The PAM4 level of two bits (R278). -/
def levelOf (a b : Bool) : Level :=
  match a, b with
  | false, false => .lowerOuter
  | false, true => .lowerInner
  | true, true => .upperInner
  | true, false => .upperOuter

/-- The levels of a stream of bits. -/
def levelsOf : List Bool → List Level
  | a :: b :: r => levelOf a b :: levelsOf r
  | _ => []

/-- The level on a pair whose polarity is swapped. -/
def Level.flip : Level → Level
  | .lowerOuter => .upperOuter
  | .lowerInner => .upperInner
  | .upperInner => .lowerInner
  | .upperOuter => .lowerOuter

/-- The next `n` bits of the sequence x^w + x^t + 1 from a register of `w` bits (log entry 146). -/
def lfsrBits (w t : Nat) : Nat → Nat → List Bool
  | _, 0 => []
  | x, n + 1 =>
    let b := x.testBit (w - 1) != x.testBit (t - 1)
    b :: lfsrBits w t ((x * 2 + b2n b) % 2 ^ w) n

/-- The first `n` symbols of the preamble of PRE_PAT: upper where true (R279). -/
def preambleBits (pat : Nat) (n : Nat) : List Bool :=
  let k := pat / 4 % 4
  if k = 0 then (List.range n).map (fun i => decide (i % 2 = 0))
  else if k = 1 then (List.range n).map (fun i => decide (i % 4 < 2))
  else if k = 2 then lfsrBits 7 6 127 n
  else lfsrBits 9 5 511 n

/-- An outer level. -/
def outer (up : Bool) : Level := if up then .upperOuter else .lowerOuter

/-- The first `n` symbols of the preamble, with upper and lower swapped for PRE_PAT [1] = 1 (R279). -/
def preamble (pat : Nat) (n : Nat) : List Level :=
  (preambleBits pat n).map (fun b => outer (b != decide (pat / 2 % 2 = 1)))

/-- The first word of a test pattern (R302): PRBS31 from register `seed`, 16 upper and 16 lower outer symbols, the preamble. -/
def testWord (pattern seed pat : Nat) : List Level :=
  if pattern = 1 then levelsOf (lfsrBits 31 28 (seed % 2 ^ 31) 128)
  else if pattern = 2 then (List.range 64).map (fun i => outer (decide (i % 32 < 16)))
  else preamble pat 64

/-! ### The FEC region (R280, R281) -/

/-- Zero bits behind a stream up to `n` bits. -/
def fillBits (n : Nat) (bs : List Bool) : List Bool := bs ++ List.replicate (n - bs.length) false

/-- The bits of `q` whole codewords over a stream of bytes. -/
def wholeWords : Nat → List Byte → List Bool
  | 0, _ => []
  | q + 1, bs => bitsOfSyms (rsEncode (symsOfBits (bitsOfBytes (bs.take 760)))) ++ wholeWords q (bs.drop 760)

/-- The bits of the shortened codeword of `r` words (R280): leading zero symbols that are not sent leave the parity as it is. -/
def shortWord (r : Nat) (bs : List Byte) : List Bool :=
  if r < 4 then List.replicate (128 * r) false
  else fillBits (128 * r) (bitsOfSyms (rsEncode (symsOfBits (fillBits (10 * (64 * r / 5 - 32)) (bitsOfBytes bs)))))

/-- The bits of an FEC region of `f` words over an information stream that has been scrambled. -/
def fecRegion (f : Nat) (bs : List Byte) : List Bool :=
  wholeWords (f / 50) bs ++ shortWord (f % 50) (bs.drop (760 * (f / 50)))

/-- The scrambler state at the first bit of the burst header (R281). -/
def burstSeed (frame : Nat) (c : Chan) : BitVec 58 := BitVec.ofNat 58 (frame % 2 ^ 48 * 2 ^ 10 + c.val * 2 ^ 8 + 0xFF)

/-- The levels of a burst: preamble of `p` words, delimiter, FEC region over the information stream `bs` (R277-R281). -/
def burstLevels (prof : ProfileBody) (p len frame : Nat) (c : Chan) (bs : List Byte) : List Level :=
  let d := bitsBE 64 prof.delim.toNat
  preamble prof.prePat.toNat (64 * p) ++ levelsOf (d ++ d) ++ levelsOf (fecRegion (len - p - 1) (scrambleBytes (burstSeed frame c) bs))

/-- The place of byte `n` of the information stream, in symbols from the first symbol of the FEC region (R280). -/
def streamPlace (n : Nat) : Nat := n / 760 * 3200 + n % 760 * 4

/-! ### Headers and messages (R235, R282, R285) -/

/-- The burst header word with its BHEC (R282). -/
def burstWord (c : Chan) (h : BurstHdr) : List Byte :=
  let v := h.tid.toNat * 2 ^ 52 + c.val * 2 ^ 50 + h.gs % 2 ^ 10 * 2 ^ 40 + h.frame % 2 ^ 8 * 2 ^ 32 + h.kind % 4 * 2 ^ 30 +
    b2n h.pf * 2 ^ 29 + b2n h.long * 2 ^ 28 + h.exp % 2 ^ 4 * 2 ^ 24 + h.mant % 2 ^ 8 * 2 ^ 16
  toBytesBE 8 (v + crc16 (bitsBE 48 (v / 2 ^ 16)))

/-- A fragment header (R185): TYPE, TID, LEN, FRAG_IDX, ENC with KEY, SOP, EOP, and its HEC. -/
def fragWord (type : Nat) (tid : BitVec 12) (len idx : Nat) (key : Option Bool) (sop eop : Bool) : List Byte :=
  let v := type * 2 ^ 60 + tid.toNat * 2 ^ 48 + len % 2 ^ 12 * 2 ^ 36 + idx % 2 ^ 16 * 2 ^ 20 + b2n key.isSome * 2 ^ 19 +
    b2n (key.getD false) * 2 ^ 18 + b2n sop * 2 ^ 17 + b2n eop * 2 ^ 16
  toBytesBE 8 (v + crc16 (bitsBE 48 (v / 2 ^ 16)))

/-- The 48 bytes of a control message with its MCRC (R235). -/
def msgBytes (tid : BitVec 12) (param : BitVec 4) (type seq : Byte) (body : List Byte) : List Byte :=
  let m := toBytesBE 2 (tid.toNat * 16 + param.toNat) ++ [type, seq] ++ (body ++ List.replicate 40 0).take 40
  m ++ toBytesBE 4 (crc32 m)

/-- The fragment of an upstream message (R285). -/
def msgFragment (m : UMsg) (tid : BitVec 12) : List Byte :=
  fragWord 3 tid 48 0 none true true ++ msgBytes m.tid m.param m.type m.seq m.body

/-- The bodies of tributary fragments: containers in order, none split, at most 4,095 bytes to a body (R290). -/
def packBodies : List (List Byte) → List Byte → List (List Byte)
  | [], [] => []
  | [], b => [b]
  | x :: xs, b => if b.length + x.length ≤ 4095 then packBodies xs (b ++ x) else b :: packBodies xs x

/-- The tributary fragments of containers (R200, R290); their SOP and EOP are 0, as those of an idle fragment (DEDUCED, log entry 150). -/
def contFragments (tid : BitVec 12) (xs : List (List Byte)) : List Byte :=
  ((packBodies xs []).map (fun b => fragWord 2 tid b.length 0 none false false ++ b)).flatten

/-- Idle fragments over `n` bytes, and fewer than 8 bytes of 0 behind them (R284, R285). -/
def idleFill (tid : BitVec 12) (n : Nat) : List Byte :=
  (List.replicate (n / 8) (fragWord 0 tid 0 0 none false false)).flatten ++ List.replicate (n % 8) 0

end Sys2Proof.Machine
end

