-- ==== Sys2Proof/Machine/Bursts.lean ====
section
/-! DEFINITION. Chapter 8: the grant table, bursts, packet fragments, restarts, the grant-stream map, the transmitter
(R270-R304), and the selection for a grant stream (R450, R451). -/

namespace Sys2Proof.Machine

open Sys2Proof

/-- Replaces the builder of a channel. -/
def State.setUpb (s : State) (c : Chan) (x : Upb) : State := { s with upb := s.upb.set c x }

/-- Replaces the activation state of a channel. -/
def State.setActCh (s : State) (c : Chan) (x : ActCh) : State := s.setAct (fun a => { a with ch := a.ch.set c x })

/-! ### When a channel may send (R249, R270) -/

/-- Channel `c` takes part in activation. -/
def State.actEn (s : State) (c : Chan) : Bool := natBit (s.fld F.ACT_CHAN_CTL_ACT_EN) c.val

/-- Channel `c` is enabled and present. -/
def State.enabled (s : State) (c : Chan) : Bool := s.actEn c && s.present c

/-- TX_DISABLE of channel `c` is deasserted for a burst of data, or for one of R254 (R249). -/
def State.txOn (s : State) (c : Chan) (data : Bool) : Bool :=
  s.enabled c && !(s.act.ch[c]).trip &&
    (match s.act.st with
     | .announcing => !data
     | .ranging => !data
     | .operating => (s.act.ch[c]).ranged
     | _ => false)

/-- The NCO of the receive chain runs (R108, R270). -/
def State.ncoOn (s : State) (c : Chan) : Bool :=
  match (s.rx[c]).st with
  | .off => false
  | .waitLight => false
  | _ => true

/-- The conditions of R270 apart from the grant. -/
def State.mayTx (s : State) (c : Chan) (data : Bool) : Bool :=
  s.bit F.UPB_UPB_CTL_EN && s.txOn c data && s.ncoOn c && decide (s.fld (F.LTX_TX_TEST_PATTERN c.val) = 0)

/-- BURST_EN of channel `c` is high: over the window of a burst, LEAD and TRAIL included (R277). -/
def State.burstEn (s : State) (c : Chan) : Bool := !(s.upb[c]).wins.isEmpty

/-- The level of the TX_DISABLE pin: in Announcing and Ranging it is low for the bursts of R254 only. -/
def State.txDisable (s : State) (c : Chan) : Bool :=
  match s.act.st with
  | .operating => !s.txOn c true
  | _ => !(s.txOn c false && s.burstEn c)

/-! ### Profiles (R276) -/

/-- The PROFILE that governs the bursts of upstream frame `k`. -/
def State.profileFor (s : State) (c : Chan) (k : Nat) : Option ProfileBody :=
  let a := s.act.ch[c]
  match a.profNext with
  | none => a.prof
  | some p =>
    match (s.upb[c]).frame with
    | some now => if k = now then a.prof else some p
    | none => some p

/-- Preamble words of a burst. -/
def preWords (p : ProfileBody) (long : Bool) : Nat := if long then 4 * p.preWords.toNat else p.preWords.toNat

/-- Bytes of the information stream of an FEC region of `f` words (R280). -/
def streamBytes (f : Nat) : Nat :=
  let r := f % 50
  760 * (f / 50) + (if 4 ≤ r then 10 * (64 * r / 5 - 32) / 8 else 0)

/-- Packet bytes that `room` bytes hold after fragment overhead (R287, R293). -/
def roomData (room : Nat) : Nat := room / 4103 * 4079 + (room % 4103 - 24)

/-! ### The grant table (R273-R275) -/

/-- The grants that channel `c` holds: of the burst in progress, of the bursts that are fixed, and the table. -/
def Upb.held (x : Upb) : List Grant :=
  ((x.cur.toList ++ x.fixed).map Burst.g ++ x.gt).filter (fun g => decide (g.kind = .data))

/-- The places where a grant of frame `k` stands on the line of the frame before, the frame, and the frame behind. -/
def grantClash (guard : Nat) (k : Nat) (e : GrantEntry) (g : Grant) : Bool :=
  let far := fun (d : Int) =>
    let s : Int := d * 50000 + g.e.start
    let t : Int := s + g.e.len - 1
    decide ((e.start : Int) ≥ t + guard + 1) || decide (s ≥ e.start + e.len - 1 + guard + 1)
  if g.frame = k then !far 0 else if g.frame = (k + 1) % 2 ^ 48 then !far 1 else if (g.frame + 1) % 2 ^ 48 = k then !far (-1)
  else false

/-- Why a grant entry is refused (R274): 0 if it is not. -/
def State.grantCause (s : State) (k : Nat) (e : GrantEntry) : Nat :=
  let c := e.chan
  let a := s.act.ch[c]
  let p := (a.profNext.or a.prof)
  if ¬ s.bit F.UPB_UPB_CTL_EN ∨ ¬ a.ranged ∨ a.trip ∨ ¬ s.actEn c ∨ s.fld (F.LTX_TX_TEST_PATTERN c.val) ≠ 0 then 1
  else
    match p, a.prof.or a.profNext with
    | some _, some q =>
      let held := (s.upb[c]).held
      if 50000 < e.start + e.len then 2
      else if e.len < preWords q e.longPre + 5 then 3
      else if held.any (grantClash q.guard.toNat k e) then 4
      else if 256 ≤ (held.filter (fun g => decide (g.frame = k))).length then 5
      else 0
    | _, _ => 1

/-- Frames from `k` to `f`, modulo 2^48. -/
def frameDiff (k f : Nat) : Int := if frameGe f k then (((f + 2 ^ 48 - k) % 2 ^ 48 : Nat) : Int) else -(((k + 2 ^ 48 - f) % 2 ^ 48 : Nat) : Int)

/-- The delay that places a burst: PRE_EQD for one of R254, `eqd` otherwise. -/
def Grant.delay (g : Grant) (eqd : Nat) : Nat := if g.kind = .data then eqd else g.pre

/-- Burst `g` begins before burst `x` on a channel with delay `eqd`. -/
def Grant.before (eqd : Nat) (g x : Grant) : Bool :=
  decide ((g.e.start : Int) * 64 + g.delay eqd < frameDiff g.frame x.frame * 3200000 + x.e.start * 64 + x.delay eqd)

/-- A grant takes its place in the order in which bursts begin. -/
def insertGrant (eqd : Nat) (g : Grant) : List Grant → List Grant
  | [] => [g]
  | x :: xs => if g.before eqd x then g :: x :: xs else x :: insertGrant eqd g xs

/-- A grant entry for frame `k` is inserted or refused (R274). -/
def State.insertEntry (s : State) (k : Nat) (e : GrantEntry) : State :=
  let c := e.chan
  if e.len = 0 then s
  else
    let cause := s.grantCause k e
    if cause ≠ 0 then
      ((s.bump (R.UPB_CNT_GRANT_REF c.val)).wr R.UPB_GT_LAST_REFUSE
        (BitVec.ofNat 32 (cause + c.val * 2 ^ 4 + e.gs % 1024 * 2 ^ 6 + e.start % 65536 * 2 ^ 16))).fire P.UPB E.UPB_GRANT_REFUSED
    else
      let x := s.upb[c]
      (s.setUpb c { x with gt := insertGrant (s.act.ch[c]).eqd ⟨.data, k, e, 0⟩ x.gt }).bump (R.UPB_CNT_GRANT c.val)

/-- The bursts in progress take none of these packets any more (R292). -/
def State.barPackets (s : State) (ids : List Nat) : State :=
  { s with upb := s.upb.map (fun x => { x with cur := x.cur.map (fun b => { b with barred := b.barred ++ ids }) }) }

/-- Packets in progress on channel `c` drop their line-side data and start again from SOP in a later burst (R292); packets pulled and
not begun go back with them. -/
def State.restartPackets (s : State) (c : Chan) (cut : Bool) : State :=
  let x := s.upb[c]
  let ps := (if cut then x.sent else []) ++ x.pulled
  let n := (ps.filter (fun (p : Pulled) => decide (0 < p.sent))).length
  let s1 := { s.setUpb c { x with pulled := [], sent := if cut then [] else x.sent } with
    restarts := s.restarts ++ ps.map (fun (p : Pulled) => (p.gs, p.pkt)) }
  let s2 := (s1.barPackets (ps.map (fun p => p.pkt.id))).bumpBy (R.UPB_CNT_RESTART c.val) n
  if n = 0 then s2 else s2.fire P.UPB E.UPB_RESTART

/-- The settings of TXc_CTL and TXc_FIR take effect (R301). -/
def State.txSettle (s : State) (c : Chan) : State :=
  { s with txEff := s.txEff.set c ⟨s.rd (R.LTX_TX_CTL c.val), s.rd (R.LTX_TX_FIR c.val)⟩ }

/-- The information stream of a burst, filled up to its end (R284). -/
def Burst.whole (b : Burst) : List Byte :=
  b.stream ++ idleFill b.h.tid (streamBytes (b.g.e.len - preWords b.prof b.g.e.longPre - 1) - b.stream.length)

/-- The levels of a burst on the pairs of channel `c` (R277-R281). -/
def State.levelsFor (s : State) (c : Chan) (b : Burst) : List Level :=
  let ls := burstLevels b.prof (preWords b.prof b.g.e.longPre) b.g.e.len b.g.frame c b.whole
  if (s.txEff[c]).ctl.getLsbD 0 then ls.map Level.flip else ls

/-- A burst in progress on channel `c` is cut, and BURST_EN falls (R260, R264, R270, R292): how many of its words were sent the spec
leaves open. -/
def State.cutBurst (s : State) (c : Chan) : State :=
  match (s.upb[c]).cur with
  | none => s.setUpb c { s.upb[c] with wins := [] }
  | some b =>
    let (w, s1) := s.freeVal
    let n := w.toNat % (b.g.e.len + 1)
    let s2 := (s1.bump64 (R.UPB_CNT_WORDS_LO c.val) (R.UPB_CNT_WORDS_HI c.val) n).emit (.levels c ((s1.levelsFor c b).take (64 * n)))
    ((s2.setUpb c { s2.upb[c] with cur := none, wins := [] }).restartPackets c true).txSettle c

/-- The map copy switches at once on a channel that holds no entry (R298). -/
def State.gsmIdle (s : State) (c : Chan) : State :=
  if (s.upb[c]).gt = [] ∧ (s.upb[c]).fixed = [] then s.switchAny (.burst c) else s

/-- A message goes back to the head of the queue (R245). -/
def State.requeue (s : State) (m : UMsg) : State :=
  if s.act.umsgs.length < 8 then s.setAct (fun a => { a with umsgs := m :: a.umsgs })
  else (s.bump R.ACT_CNT_UMSG_DROP).fire P.ACT E.ACT_UMSG_DROP

/-- A burst that is fixed is not sent: its message and its containers go back (R245, R207; log entry 97). -/
def State.unfix (s : State) (b : Burst) : State :=
  b.conts.foldr (fun x (t : State) =>
    let k : Fin 1024 := Fin.ofNat 1024 x.1
    t.setTrib k { t.trib k with cq := x.2 :: (t.trib k).cq }) (b.msgs.foldr (fun m (t : State) => t.requeue m) s)

/-- Every entry of channel `c` is discarded and counted (R275), without the event. -/
def State.dropGrants (s : State) (c : Chan) : State :=
  let x := s.upb[c]
  let data := fun (g : Grant) => decide (g.kind = .data)
  let n := (x.gt.filter data).length + (x.fixed.filter (fun b => data b.g)).length
  let s1 := s.setUpb c { x with gt := x.gt.filter (fun g => !data g), fixed := x.fixed.filter (fun b => !data b.g) }
  let s2 := (x.fixed.filter (fun b => data b.g)).foldr (fun b (t : State) => t.unfix b) s1
  ((s2.bumpBy (R.UPB_CNT_GRANT_DISC c.val) n).restartPackets c false).gsmIdle c

/-- An event of R275 on channel `c`: GRANT_DISCARD is raised once. -/
def State.discardGrants (s : State) (c : Chan) : State := (s.dropGrants c).fire P.UPB E.UPB_GRANT_DISCARD

/-- The bursts of R254 that wait on every channel are dropped. -/
def State.dropSpecial (s : State) : State :=
  (List.finRange 4).foldl (fun (t : State) (c : Chan) =>
    let x := t.upb[c]
    t.setUpb c { x with gt := x.gt.filter (fun g => decide (g.kind = .data)),
                        fixed := x.fixed.filter (fun b => decide (b.g.kind = .data)) }) s

/-- A burst is not sent (R255, R276, R296). -/
def State.skipBurst (s : State) (c : Chan) : State := (s.bump (R.UPB_CNT_BURST_SKIP c.val)).fire P.UPB E.UPB_BURST_SKIP

/-! ### Frames (R252, R255, R276, R288, R296) -/

/-- Symbols of T_RESP, 20 µs (R252). -/
def tResp : Nat := 512000

/-- Symbols from the first symbol of the downstream frame in progress to the decode of its last group: 33.3 ns behind its end. -/
def State.inFrame (s : State) (c : Chan) : Nat := ((s.dsf[c]).grp + 1) * groupSyms + 853

/-- The frame count of the downstream frame `i` frames ago. -/
def State.frameAgo (s : State) (c : Chan) (i : Nat) : Option Nat :=
  match s.downFrame c with
  | none => none
  | some f => some ((s.dsf[c]).past.getD i ((f + 2 ^ 48 - i) % 2 ^ 48))

/-- The upstream frame that begins now on channel `c` with delay `eqd`: the downstream frame whose start lies T_RESP and the delay
back, to within half a group (R252). -/
def State.frameAt (s : State) (c : Chan) (eqd : Nat) : Option Nat :=
  s.frameAgo c ((tResp + eqd + frameSyms / 2 - (s.inFrame c + groupSyms / 2)) / frameSyms)

/-- The upstream frame in progress on channel `c` with delay `eqd`. -/
def State.frameGoing (s : State) (c : Chan) (eqd : Nat) : Option Nat :=
  s.frameAgo c ((tResp + eqd + frameSyms - 1 - s.inFrame c) / frameSyms)

/-- The device time at which upstream frame `k` of channel `c` begins with delay `eqd`, in 2^-16 ns: a symbol is 2,560 of these (R252).
The time of a frame without an accepted header is that of the free-running grid. -/
def State.upTime (s : State) (c : Chan) (k eqd : Nat) : Nat :=
  let at_ := match (s.dsf[c]).times.head? with
    | some (f, t) => (t : Int) + frameDiff f k * 8192000000
    | none => s.clock.line
  let t : Int := match (s.dsf[c]).times.find? (fun x => decide (x.1 = k)) with | some x => x.2 | none => at_
  (t + ((tResp + eqd) * 2560 : Nat)).toNat

/-- A delay takes effect on channel `c`. -/
def State.setEqd (s : State) (c : Chan) (eqd : Nat) : State :=
  s.setActCh c { s.act.ch[c] with eqd := eqd, eqdNext := none, eqdAt := s.downFrame c }

/-- Where a burst of channel `c` begins, in symbols from the start of the upstream frame in progress as it stood then (R252, R254):
one of that frame keeps to its start, one of a later frame to the grid and the delay as they are. -/
def State.burstAt (s : State) (c : Chan) (g : Grant) : Int :=
  let x := s.upb[c]
  match x.frame with
  | none => g.e.start * 64
  | some k =>
    if g.kind = .data ∧ g.frame = k then g.e.start * 64
    else frameDiff k g.frame * frameSyms + lineOffset x.grid (s.dsf[c]).grid + (g.delay (s.act.ch[c]).eqd : Int) - x.eqd + g.e.start * 64

/-- A burst would overlap the burst before it, lies in a frame that is past, or would cross the start of the next upstream frame where
the grid has moved (R296). -/
def State.displaced (s : State) (c : Chan) (g : Grant) : Bool :=
  let x := s.upb[c]
  match x.frame with
  | none => false
  | some k =>
    let at_ := s.burstAt c g
    decide (at_ < x.busy) || (decide (g.kind = .data) && (!frameGe g.frame k ||
      (decide (g.frame = k) && decide ((frameSyms : Int) + lineOffset x.grid (s.dsf[c]).grid < at_ + g.e.len * 64))))

/-- A grant of data is one of the frames that the table covers from frame `k` on (R273); a burst of R254 waits as long as its own frame
is not past. -/
def State.covers (s : State) (c : Chan) (k : Nat) (g : Grant) : Bool :=
  if g.kind = .data then frameGe g.frame k && frameGe ((k + 15) % 2 ^ 48) g.frame
  else match s.frameGoing c g.pre with | some f => frameGe g.frame f | none => true

/-- The bursts of frames that are past are not sent: the frame count has passed them by (R273, R296). -/
def State.dropPast (s : State) (c : Chan) (k : Nat) : State :=
  let x := s.upb[c]
  let gone := x.fixed.filter (fun b => !s.covers c k b.g)
  let n := ((x.gt ++ gone.map Burst.g).filter (fun g => decide (g.kind = .data) && !s.covers c k g)).length
  let s1 := s.setUpb c { x with gt := x.gt.filter (s.covers c k), fixed := x.fixed.filter (fun b => s.covers c k b.g) }
  (List.range n).foldl (fun (t : State) _ => t.skipBurst c) (gone.foldr (fun b (t : State) => t.unfix b) s1)

/-- Upstream frame `k` begins on channel `c`: a PROFILE takes effect (R276), FRAG_IDX starts again (R288), the table moves on (R273). -/
def State.beginFrame (s : State) (c : Chan) (k : Nat) : State :=
  let a := s.act.ch[c]
  let s1 := match a.profNext with
    | some p => s.setActCh c { a with prof := some p, profNext := none }
    | none => s
  let x := s1.upb[c]
  let g := (s.dsf[c]).grid
  let busy := x.busy - (frameSyms + lineOffset x.grid g + a.eqd - x.eqd)
  let s2 := s1.setUpb c { x with frame := some k, idx := 0, grid := g, eqd := a.eqd, busy := if x.frame.isSome then busy else 0 }
  ((s2.dropPast c k).rollFrame c k).gsmIdle c

/-- The next upstream frame begins on channel `c`; a delay that waits for it takes effect (R255). -/
def State.nextFrame (s : State) (c : Chan) : State :=
  let a := s.act.ch[c]
  match s.frameAt c a.eqd with
  | none => s
  | some k =>
    match a.eqdNext with
    | none => s.beginFrame c k
    | some (f, e) =>
      let k1 := (s.frameAt c e).getD k
      if frameGe k1 f then (s.setEqd c e).beginFrame c k1 else s.beginFrame c k

/-! ### Fixing the content of a burst (R290, R293, R295, R298, R319, R323) -/

/-- The copy of the grant-stream map that the builder of channel `c` uses (R298). -/
def State.mapCopy (s : State) (c : Chan) : Nat := s.cfgFld (.burst c) F.UPB_GSM_CTL_ACTIVE

/-- The queues that feed grant stream `g` in copy `a` of the map (R298, R450). -/
def State.feeders (s : State) (a g : Nat) : List Nat :=
  (s.gsm.filter (fun e => decide (e.1 / 2 ^ 13 = a) && decide (e.2 = g + 2 ^ 15))).map (fun e => e.1 % 2 ^ 13)

/-- Bytes queued for grant stream `g` under copy `a` of the map, with what has been pulled and not sent (R283). -/
def State.backlog (s : State) (a g : Nat) : Nat :=
  ((s.feeders a g).map (fun q => ((s.waiting q).map Pkt.len).sum)).sum +
    ((List.finRange 4).map (fun (x : Chan) =>
      (((s.upb[x]).pulled.filter (fun p => decide (p.gs = g))).map (fun p => p.pkt.len - p.sent)).sum)).sum +
    ((s.restarts.filter (fun p => decide (p.1 = g))).map (fun p => p.2.len)).sum

/-- BL_EXP and BL_MANT (R283). -/
def backlogCode (n : Nat) : Nat × Nat :=
  match (List.range 16).find? (fun e => decide ((n + 1024 * 2 ^ e - 1) / (1024 * 2 ^ e) ≤ 255)) with
  | some e => (e, (n + 1024 * 2 ^ e - 1) / (1024 * 2 ^ e))
  | none => (15, 255)

/-- Contexts whose containers go with grant stream `g` on channel `c`, ascending. -/
def State.contextsOf (s : State) (c : Chan) (g : Nat) : List (Fin 1024) :=
  (List.finRange 1024).filter (fun x => decide ((s.trib x).cq ≠ []) && (match s.served x with
    | some e => entUp e && decide (entChan e = c.val) && decide (entBits e 36 10 = g)
    | none => false))

/-- The containers that fit into `room` bytes, in fragments of at most 4,095 bytes with a header of 8 (R290): the room left, the
room left in the last fragment, and what has been taken. -/
def packContainers : List (Nat × List Byte) → Nat → Nat → List (Nat × List Byte) → Nat × List (Nat × List Byte)
  | [], room, _, acc => (room, acc)
  | x :: xs, room, frag, acc =>
    let n := x.2.length
    if n ≤ frag ∧ n ≤ room then packContainers xs (room - n) (frag - n) (acc ++ [x])
    else if 8 + n ≤ room then packContainers xs (room - 8 - n) (4095 - n) (acc ++ [x])
    else (room, acc)

/-- Takes containers out of their queues. -/
def State.takeContainers (s : State) (xs : List (Nat × List Byte)) : State :=
  xs.foldl (fun (t : State) x =>
    let c : Fin 1024 := Fin.ofNat 1024 x.1
    t.setTrib c { t.trib c with cq := (t.trib c).cq.drop 1 }) s

/-- The upstream key that serves a burst of frame `k`, after the check of R323. -/
def State.burstKey (s : State) (c : Chan) (k : Nat) : Option Bool × State :=
  let n := pairUp c
  if ¬ s.bit F.LCK_LCK_CTL_EN then (none, s)
  else
    match (s.pair n).activeAt k with
    | none => (none, s)
    | some i =>
      let first := k * 65536 + (if (s.upb[c]).frame = some k then (s.upb[c]).idx else 0)
      match ((s.pair n).slot i).nonce with
      | some m => if first ≤ m then (none, s.spendKey n i 4) else (some i, s)
      | none => (some i, s)

/-- A burst of the frames before a new delay would run past the start of the first frame under it (R255). -/
def State.pastDelay (s : State) (c : Chan) (g : Grant) : Bool :=
  let a := s.act.ch[c]
  match a.eqdNext with
  | none => false
  | some (f, e) =>
    if frameGe g.frame f then false
    else
      let d := (f + 2 ^ 48 - g.frame) % 2 ^ 48
      decide ((3200000 * d + e : Nat) < (g.e.start + g.e.len) * 64 + a.eqd)

/-- The content of a data burst is fixed (R283, R290, R293, R295). A message is due where the grant has MSG and the queue holds one; one
that the burst has no room for waits, as does one on a channel that may not transmit (R245). -/
def State.fixData (s0 : State) (c : Chan) (g : Grant) (p : ProfileBody) : State :=
  let s := (s0.switchAny (.burst c)).rollUp (pairUp c) g.frame false
  let a := s.mapCopy c
  let info := streamBytes (g.e.len - preWords p g.e.longPre - 1)
  let due := g.e.msg && decide (s.act.umsgs ≠ [])
  let msgs := if due = true ∧ 64 ≤ info ∧ s.mayTx c true then s.act.umsgs.take 1 else []
  let s1 := if msgs = [] then s else s.setAct (fun x => { x with umsgs := x.umsgs.drop 1 })
  let room := info - 8 - 56 * msgs.length
  let all := ((s1.contextsOf c g.e.gs).map (fun x => (s1.trib x).cq.map (fun b => (x.val, b)))).flatten
  let (left, conts) := packContainers all room 0 []
  let s2 := s1.takeContainers conts
  let bl := s2.backlog a g.e.gs
  let empty := decide (bl = 0) && !due && decide (all = [])
  let s3 := if empty then s2.bump (R.UPB_CNT_BURST_EMPTY c.val) else s2
  if empty ∧ s3.bit F.UPB_UPB_CTL_EMPTY_MODE then s3
  else
    let (key, s4) := s3.burstKey c g.frame
    let (e, m) := backlogCode bl
    let h : BurstHdr := ⟨s.ownTid, g.e.gs, g.frame, 0, s.log.pf, g.e.longPre, e, m⟩
    s4.setUpb c { s4.upb[c] with fixed := (s4.upb[c]).fixed ++
      [{ g := g, h := h, prof := p, msgs := msgs, conts := conts, room := left, key := key.map (fun i => (i, [])), copy := a }] }

/-- The content of the first burst of the table of channel `c` is fixed (R255, R276, R281, R293). -/
def State.fixBurst (s : State) (c : Chan) : State :=
  let x := s.upb[c]
  match x.gt with
  | [] => s
  | g :: gs =>
    let s1 := s.setUpb c { x with gt := gs }
    match s.profileFor c g.frame with
    | none => s1
    | some p =>
      if g.kind ≠ .data then
        let e := { g.e with len := 4 * p.preWords.toNat + 8 }
        let h : BurstHdr := ⟨if g.kind = .announce then 0xFFF else s.ownTid, 0, g.frame, if g.kind = .announce then 1 else 2, s.log.pf, true, 0, 0⟩
        s1.setUpb c { s1.upb[c] with fixed := x.fixed ++ [{ g := { g with e := e }, h := h, prof := p, msgs := [], conts := [], room := 7 }] }
      else if g.e.len < preWords p g.e.longPre + 5 then s1.bump (R.UPB_CNT_BURST_SKIP c.val)
      else if s.pastDelay c g then s1.skipBurst c
      else s1.fixData c g p

/-! ### Sending (R270, R284, R288, R291, R294) -/

/-- The message of a burst of R254 (R243): ANN_CNT counts the announces sent before it. -/
def State.specialMsg (s : State) (c : Chan) (k : BurstKind) : List UMsg × State :=
  let serial := toBytesBE 4 (s.rd R.ACT_SERIAL_HI).toNat ++ toBytesBE 4 (s.rd R.ACT_SERIAL_LO).toNat
  match k with
  | .data => ([], s)
  | .announce =>
    let m : UMsg := ⟨0xFFF, 0x81, 0, 0, bodyOf40 (serial ++ [BitVec.ofNat 8 (s.fld F.ACT_CHAN_CTL_ACT_EN), s.act.annCnt])⟩
    ([m], (s.setAct (fun a => { a with annCnt := a.annCnt + 1 })).bump R.ACT_CNT_ANN)
  | .rangeResp => ([⟨s.ownTid, 0x82, 0, 0, bodyOf40 (serial ++ [BitVec.ofNat 8 c.val])⟩], s)

/-- Messages take their SEQ as they leave (R243, log entry 43). -/
def State.numberMsgs (s : State) (ms : List UMsg) : List UMsg × State :=
  (ms.zipIdx.map (fun m => { m.1 with seq := s.act.seq + BitVec.ofNat 8 m.2 }),
   s.setAct (fun a => { a with seq := a.seq + BitVec.ofNat 8 ms.length }))

/-- The key of a burst that begins: only one that is still ACTIVE serves it, with its bytes as they are then (R314). -/
def State.startKey (s : State) (c : Chan) (key : Option (Bool × List Byte)) : Option (Bool × List Byte) :=
  match key with
  | some (i, _) => let k := (s.pair (pairUp c)).slot i; if k.st = .active then some (i, k.key) else none
  | none => none

/-- The information stream of a burst before its packet fragments (R284): header, messages, containers. -/
def Burst.opening (b : Burst) (c : Chan) : List Byte :=
  burstWord c b.h ++ (b.msgs.map (fun m => msgFragment m b.h.tid)).flatten ++ contFragments b.h.tid (b.conts.map Prod.snd)

/-- A packet leaves its queue when its last word has left the pins (R291). -/
def State.releasePacket (s : State) (c : Chan) : State :=
  let x := s.upb[c]
  match x.sent with
  | [] => s
  | p :: ps => ((s.setUpb c { x with sent := ps }).sentFrom p.pkt).bump (R.UPB_CNT_PKT c.val)

/-- Releases every packet whose EOP fragment has been sent. -/
def State.releaseAll (s : State) (c : Chan) : Nat → State
  | 0 => s
  | n + 1 => (s.releasePacket c).releaseAll c n

/-- The words of the burst in progress on channel `c` have been sent. -/
def State.wordsEnd (s : State) (c : Chan) : State :=
  let x := s.upb[c]
  match x.cur with
  | none => s
  | some b =>
    let s1 := (s.setUpb c { x with cur := none }).bump64 (R.UPB_CNT_WORDS_LO c.val) (R.UPB_CNT_WORDS_HI c.val) b.g.e.len
    ((s1.emit (.levels c (s.levelsFor c b))).releaseAll c x.sent.length).txSettle c

/-- The words over which BURST_EN is high for a burst (R263, R277). -/
def Burst.window (b : Burst) : Window :=
  ⟨b.g.frame, (b.g.e.start : Int) - b.prof.lead.toNat, (b.g.e.start : Int) + b.g.e.len - 1 + b.prof.trail.toNat⟩

/-- The first of the bursts that are fixed begins, unless it may not (R270) or the grid has displaced it (R255, R296): BURST_EN rises and
the window of the guard opens (R263, R277). The words of a burst whose TRAIL still runs are over (log entry 147). -/
def State.startBurst (s : State) (c : Chan) : State :=
  let x := s.upb[c]
  match x.fixed with
  | [] => s
  | b :: bs =>
    let s1 := (s.setUpb c { x with fixed := bs }).gsmIdle c
    let data := decide (b.g.kind = .data)
    if ¬ s.mayTx c data then s1.unfix b
    else if s.displaced c b.g ∨ (data ∧ s.pastDelay c b.g) then (s1.unfix b).skipBurst c
    else
      let (sp, s2) := (s1.wordsEnd c).specialMsg c b.g.kind
      let (ms, s3) := s2.numberMsgs (b.msgs ++ sp)
      let b1 := { b with msgs := ms, key := s.startKey c b.key }
      let b2 := { b1 with stream := b1.opening c }
      let y := { s3.upb[c] with cur := some b2, wins := (s3.upb[c]).wins ++ [b.window], busy := s.burstAt c b.g + b.g.e.len * 64 }
      let s4 := ((s3.setUpb c y).bump (R.UPB_CNT_BURST c.val)).emit (.burst c b.h b.g.e.start b.g.e.len)
      let s5 := ms.foldl (fun (t : State) m => t.emit (.message c m)) s4
      b.conts.foldl (fun (t : State) y => t.emit (.container c y.2)) s5

/-- TRAIL words after its last word a burst of channel `c` ends: BURST_EN falls unless a later burst holds it, and the window of the
guard closes (R263, R277). -/
def State.endBurst (s : State) (c : Chan) : State :=
  let s1 := if (s.upb[c]).wins.length ≤ 1 then s.wordsEnd c else s
  s1.setUpb c { s1.upb[c] with wins := (s1.upb[c]).wins.drop 1 }

/-- An idle fragment of 8 bytes; `late`: it stands for packet data that has not arrived (R294). -/
def State.idleFragment (s : State) (c : Chan) (b : Burst) (late : Bool) : State :=
  if b.room < 8 then s
  else
    let b1 := { b with room := b.room - 8, late := b.late || late, stream := b.stream ++ fragWord 0 b.h.tid 0 0 none false false }
    let s1 := (s.setUpb c { s.upb[c] with cur := some b1 }).emit (.idleFragment c)
    if late then
      let s2 := s1.bump (R.UPB_CNT_LATE_IDLE c.val)
      if b.late then s2 else s2.fire P.UPB E.UPB_LATE_DATA
    else s1

/-- The device time, in 1/16 ns, at which byte `n` of the information stream of a burst of channel `c` stands at the pins (R252, R529). -/
def State.byteStamp (s : State) (c : Chan) (b : Burst) (n : Nat) : Nat :=
  let syms := (b.g.e.start + preWords b.prof b.g.e.longPre + 1) * 64 + streamPlace n
  (s.upTime c b.g.frame (b.g.delay (s.act.ch[c]).eqd) + syms * 2560) / 4096

/-- A fragment has been encrypted with key index `i` of the upstream pair, whose bytes were `key` (R312, R314): the index counts it if
it still holds that key. -/
def State.encrypted (s : State) (n : Fin 8) (i : Bool) (key : List Byte) (nonce : Nat) : State :=
  let k := (s.pair n).slot i
  if k.st ≠ .empty ∧ k.key = key then s.useKey n i nonce
  else s.bump64 (R.LCK_CNT_FRAG_LO n.val) (R.LCK_CNT_FRAG_HI n.val) 1

/-- A packet fragment of `n` bytes is sent with key index `i` and the bytes `key` of it (R285, R287, R288, R305, R306); with the first of
a packet the transparent clock takes it (R535). -/
def State.sendFragment (s : State) (c : Chan) (b : Burst) (i : Bool) (key : List Byte) (p : Pulled) (n : Nat) : State :=
  let x := s.upb[c]
  let eop := decide (n = p.pkt.len - p.sent)
  let t := s.egress (56 + c.val) p.pkt (s.byteStamp c b (b.stream.length + 8))
  let s1 := if p.sent = 0 then { t.2 with mem := s.mem, queues := s.queues, out := s.out } else s
  let data := if p.sent = 0 then t.1.data else p.data
  let hdr := fragWord 1 b.h.tid (n + 16) x.idx (some i) (decide (p.sent = 0)) eop
  let body := gcmSeal key (fragNonce b.h.tid.toNat true c.val b.g.frame x.idx) hdr (slice data p.sent n)
  let rest := x.pulled.erase p
  let q := { p with sent := p.sent + n, data := data }
  let y := { x with cur := some { b with room := b.room - 24 - n, stream := b.stream ++ hdr ++ body }, idx := x.idx + 1,
                    pulled := if eop then rest else q :: rest,
                    sent := if eop then x.sent ++ [q] else x.sent }
  let s2 := (s1.setUpb c y).emit (.fragment c b.g.e.gs (p.pkt.hdl.getD 0) p.sent n eop)
  (s2.bump (R.UPB_CNT_FRAG c.val)).encrypted (pairUp c) i key (b.g.frame * 65536 + x.idx)

/-- The builder comes to the place of a packet fragment: `present` bytes of the packet to send are in the burst buffer (R287,
R294); none is sent with the engines off or without a key (R271). -/
def State.fragmentPlace (s : State) (c : Chan) (present : Nat) : State :=
  let x := s.upb[c]
  match x.cur with
  | none => s
  | some b =>
    let mine := x.pulled.filter (fun p => decide (p.gs = b.g.e.gs))
    let min_ := s.fld F.UPB_UPB_CTL_MIN_BODY
    match (if s.bit F.LCK_LCK_CTL_EN then b.key else none), (mine.find? (fun p => decide (0 < p.sent))).or mine.head? with
    | some (i, key), some p =>
      let left := p.pkt.len - p.sent
      let n := min (min present left) (min 4079 (b.room - 24))
      if b.room < left + 24 ∧ b.room < 24 + min_ then s.idleFragment c b false
      else if n = 0 ∨ (n < left ∧ n < min_) then s.idleFragment c b true
      else s.sendFragment c b i key p n
    | some _, none => s.idleFragment c b (decide (s.backlog b.copy b.g.e.gs ≠ 0))
    | none, _ => s.idleFragment c b false

/-! ### Selection for a grant stream (R450, R451, R454) -/

/-- Bytes of grant stream `g` that channel `c` has pulled and not sent. -/
def Upb.pulledFor (x : Upb) (g : Nat) : Nat :=
  ((x.pulled.filter (fun p => decide (p.gs = g))).map (fun p => p.pkt.len - p.sent)).sum

/-- The burst for which channel `c` pulls (R293): the first, in the order in which they begin, whose room with that of the bursts of its
stream before it is more than is pulled. The burst buffer of the channel holds 64 KiB. -/
def State.pulling (s : State) (c : Chan) : Option Burst :=
  let x := s.upb[c]
  let bs := x.cur.toList ++ x.fixed
  let need := fun (n : Nat) (b : Burst) =>
    (((bs.take (n + 1)).filter (fun y => decide (y.g.e.gs = b.g.e.gs))).map (fun y => roomData y.room)).sum
  if 65536 ≤ (x.pulled.map (fun p => p.pkt.len - p.sent)).sum ∨ ¬ s.bit F.LCK_LCK_CTL_EN then none
  else (bs.zipIdx.find? (fun e => e.1.key.isSome && decide (x.pulledFor e.1.g.e.gs < need e.2 e.1))).map Prod.fst

/-- One selection for the burst that pulls: a restarted packet that the burst may take first (R292), then a packet of an eligible
queue. -/
def State.selectFor (s : State) (c : Chan) (b : Burst) : State :=
  let x := s.upb[c]
  let g := b.g.e.gs
  match s.restarts.find? (fun p => decide (p.1 = g) && !b.barred.contains p.2.id) with
  | some p =>
    let begun := x.pulled.filter (fun y => decide (0 < y.sent))
    let fresh := x.pulled.filter (fun y => decide (y.sent = 0))
    { s.setUpb c { x with pulled := begun ++ [{ gs := g, pkt := p.2, sent := 0 }] ++ fresh } with restarts := s.restarts.erase p }
  | none =>
    if ¬ s.bit F.SCH_SCH_CTL_EN_UP then s
    else
    let qs := s.feeders b.copy g
    let s1 := qs.foldl (fun (t : State) q => t.dropDead q (t.queue q).length) s
    let held := qs.filter (fun q => decide (s1.waiting q ≠ []))
    let s2 := held.foldl (fun (t : State) q => t.consult q) (if held = [] then s1 else s1.consult (8192 + g))
    let el := held.filter (fun q => s2.shaperPermits q && s2.shaperPermits (8192 + g))
    match (s2.noteEligible qs el).choose g el with
    | (some q, s3) =>
      match (s3.waiting q).head? with
      | some k =>
        let s4 := ((s3.takeCredit q).takeCredit (8192 + g)).markSelected q k.id
        s4.setUpb c { s4.upb[c] with pulled := (s4.upb[c]).pulled ++ [{ gs := g, pkt := { k with sel := true }, sent := 0 }] }
      | none => s3
    | (none, s3) => s3

/-! ### The grant-stream map (R298, R299) and the transmitter (R301, R302) -/

/-- A write of GSM_DATA (R299). -/
def State.opGsmData (s : State) (r : Req) (v : Word) : State :=
  if s.bit F.UPB_GSM_ADDR_VIEW ∨ s.bit F.UPB_GSM_STAT_BUSY ∨ s.applying P.UPB then s.refuse r R.UPB_GSM_DATA
  else
    let q := s.fld F.UPB_GSM_ADDR_QUEUE
    let e := getField v 0 10 + getField v 15 1 * 2 ^ 15
    let s1 := { s with gsm := mapPut 0 s.gsm ((1 - s.fld F.UPB_GSM_CTL_ACTIVE) * 2 ^ 13 + q) e }
    (if s.bit F.UPB_GSM_ADDR_AUTO_INC then s1.setFld F.UPB_GSM_ADDR_QUEUE (q + 1) else s1).viewGsm

/-- A write of GSM_CMD: COPY starts. -/
def State.opGsmCmd (s : State) (v : Word) : State := if v.getLsbD 0 then s.setFld F.UPB_GSM_STAT_BUSY 1 else s

/-- The copy of the active map into its shadow completes. -/
def State.copyGsm (s : State) : State :=
  let a := s.fld F.UPB_GSM_CTL_ACTIVE
  let act := s.gsm.filter (fun e => decide (e.1 / 2 ^ 13 = a))
  let new := act.foldl (fun m e => mapIns m ((1 - a) * 2 ^ 13 + e.1 % 2 ^ 13) e.2) act
  if s.bit F.UPB_GSM_STAT_BUSY then (({ s with gsm := new }).setFld F.UPB_GSM_STAT_BUSY 0).viewGsm else s

/-- A write of TXc_CTL or TXc_FIR (R301). -/
def State.opTxConfig (s : State) (c : Chan) (fir : Bool) (v : Word) : State :=
  let s1 := s.store (if fir then R.LTX_TX_FIR c.val else R.LTX_TX_CTL c.val) v
  if (s.upb[c]).cur.isSome then s1 else s1.txSettle c

/-- The transmitter of channel `c` begins to send test pattern `n` (R302): where PRBS31 begins, and the PRE_PAT of a channel without a
PROFILE, the spec leaves open. -/
def State.testOn (s : State) (c : Chan) (n : Nat) : State :=
  let (w, s1) := s.freeVal
  let pat := match (s.act.ch[c]).prof with | some p => p.prePat.toNat | none => w.toNat % 16
  let ls := testWord n w.toNat pat
  s1.emit (.test c n (if (s.txEff[c]).ctl.getLsbD 0 then ls.map Level.flip else ls))

/-- A write of TXc_TEST (R302). -/
def State.opTxTest (s : State) (r : Req) (c : Chan) (v : Word) : State :=
  let k := R.LTX_TX_TEST c.val
  let free : Bool := match s.act.st with | .dark => true | .listening => true | .silenced => true | _ => false
  if getField v 0 2 = 0 then s.store k v
  else if ¬ (free = true) then s.refuse r k
  else (s.store k v).testOn c (getField v 0 2)

/-! ### Registers -/

/-- A grant entry as R242 lays it out. -/
def entryNum (e : GrantEntry) : Nat :=
  e.gs * 2 ^ 54 + e.chan.val * 2 ^ 52 + e.start * 2 ^ 36 + e.len * 2 ^ 20 + b2n e.msg * 2 ^ 19 + b2n e.longPre * 2 ^ 18

/-- The entries that GT_SEL shows. -/
def State.shownGrants (s : State) : List Grant :=
  let c : Chan := Fin.ofNat 4 (s.fld F.UPB_GT_SEL_CHAN)
  match (s.upb[c]).frame with
  | some k => (s.upb[c]).held.filter (fun g => decide (g.frame = (k + s.fld F.UPB_GT_SEL_OFFSET) % 2 ^ 48))
  | none => []

/-- The computed registers of page UPB. -/
def readUPB (s : State) (o : Nat) : Option Word :=
  let e := match (s.shownGrants)[s.fld F.UPB_GT_SEL_IDX]? with | some g => entryNum g.e | none => 0
  let gs := s.fld F.UPB_GS_SEL_GS
  if o = 0x05C then some (BitVec.ofNat 32 e)
  else if o = 0x060 then some (BitVec.ofNat 32 (e / 2 ^ 32))
  else if o = 0x064 then some (BitVec.ofNat 32 s.shownGrants.length)
  else if o = 0x06C then
    some (BitVec.ofNat 32 (bits4 (fun c => s.mayTx c true || s.mayTx c false) +
      bits4 (fun c => (s.pair (pairUp c)).active.isSome) * 2 ^ 4 +
      bits4 (fun c => (s.upb[c]).cur.isSome) * 2 ^ 8 + b2n s.log.pf * 2 ^ 16))
  else if o = 0x074 then
    some (BitVec.ofNat 32 (min 0xFFFFFF ((s.backlog (s.mapCopy 0) gs + 1023) / 1024) +
      bits4 (fun c => (s.upb[c]).pulled.any (fun p => decide (p.gs = gs) && decide (0 < p.sent))) * 2 ^ 24))
  else none

/-- The computed registers of page LTX. -/
def readLTX (s : State) (o : Nat) : Option Word :=
  if 0x040 ≤ o ∧ o < 0x080 ∧ o % 16 = 12 then
    let c : Chan := Fin.ofNat 4 ((o - 0x040) / 16)
    let n := s.ncoOn c
    let st := if ¬ n then 0 else if s.fld (F.LTX_TX_TEST_PATTERN c.val) ≠ 0 then 3 else if (s.upb[c]).cur.isSome then 2 else 1
    some (BitVec.ofNat 32 (st + b2n n * 4))
  else none

/-! ### Commands -/

/-- UPSTREAM_FRAME_START (R252, R255, R276). -/
def execUpstreamFrameStart (c : Chan) (s : State) : Res := .next (if s.ncoOn c then s.nextFrame c else s)

/-- BURST_FIX (R293). -/
def execBurstFix (c : Chan) (s : State) : Res := .next (s.fixBurst c)

/-- BURST_START (R270, R277): LEAD words before the first word of the burst. -/
def execBurstStart (c : Chan) (s : State) : Res := .next (s.startBurst c)

/-- BURST_END (R277): TRAIL words after the last word of the burst. -/
def execBurstEnd (c : Chan) (s : State) : Res := .next (s.endBurst c)

/-- PACKET_FRAGMENT_START (R294): `present` bytes of the packet to send are in the burst buffer. -/
def execPacketFragmentStart (c : Chan) (present : Nat) (s : State) : Res := .next (s.fragmentPlace c present)

/-- PACKET_RELEASE (R291). -/
def execPacketRelease (c : Chan) (s : State) : Res := .next (s.releasePacket c)

/-- GS_SELECT (R450, R451): nothing leaves the queues in Holdover (R250), and a pull crosses the Seam (R12). -/
def execGsSelect (c : Chan) (s : State) : Res :=
  .next (match s.pulling c with
    | some b => if s.act.st = .holdover ∨ s.seam.phase ≠ .up then s else s.selectFor c b
    | none => s)

/-- GSM_DATA_WRITE (R299). -/
def execGsmDataWrite (r : Req) (v : Word) (s : State) : Res := .next (s.access r R.UPB_GSM_DATA true (fun t => t.opGsmData r v))

/-- GSM_COPY (R299). -/
def execGsmCopy (r : Req) (v : Word) (s : State) : Res := .next (s.access r R.UPB_GSM_CMD true (fun t => t.opGsmCmd (v ||| 1)))

/-- TX_CONFIG_WRITE (R301). -/
def execTxConfigWrite (r : Req) (c : Chan) (fir : Bool) (v : Word) (s : State) : Res :=
  .next (s.access r (if fir then R.LTX_TX_FIR c.val else R.LTX_TX_CTL c.val) true (fun t => t.opTxConfig c fir v))

/-- TX_TEST_WRITE (R302). -/
def execTxTestWrite (r : Req) (c : Chan) (v : Word) (s : State) : Res :=
  .next (s.access r (R.LTX_TX_TEST c.val) true (fun t => t.opTxTest r c v))

end Sys2Proof.Machine
end

