-- ==== Sys2Proof/WellFormed.lean ====
section
/-! DEFINITION. Which terms of `Instr` are commands that an agent can send: lists have the length of their message, numbers fit
the format that carries them, and a command on a kind of register names a register of that kind. -/

namespace Sys2Proof

/-- A GRANT message carries five entries (R242), each within the widths of its fields. -/
def grantWf (es : List GrantEntry) : Bool := decide (es.length = 5) && es.all (fun e => decide (e.gs < 1024) && decide (e.start < 65536) && decide (e.len < 65536))

/-- A group of a frame has 12,800 symbols and stands at a place of the frame (R145). -/
def groupWf (g : GroupRaw) : Bool := decide (g.grp < 250) && decide (g.at_ < 3200000) && decide (g.line.length = 12800)

/-- The detector decides within 64 symbols, which is 2.5 ns, after the last correlation symbol (R123), at a gain of at most 30 dB
(R104). -/
def detectWf (gain : BitVec 9) (lag : Nat) : Bool := decide (gain.toNat ≤ 300) && decide (lag ≤ 163840)

/-- An adaptive state: 31 taps, a gain of at most 30 dB (R104). -/
def adaptWf (a : Adapt) : Bool := decide (a.taps.length = 31) && decide (a.agc ≤ 300)

/-- A boot header has 256 bytes (R622). -/
def bootWf : BootDone → Bool
  | .b2 _ copy0 copy1 => decide (copy0.length = 256) && decide (copy1.length = 256)
  | .b6 _ copy1 _ => decide (copy1.length = 256)
  | _ => true

/-- A PCIe link is 1, 2 or 4 lanes wide and runs at a speed of 1 to 4 (R634). -/
def linkWf (width speed : BitVec 3) : Bool :=
  (decide (width = 1) || decide (width = 2) || decide (width = 4)) && decide (speed ≠ 0) && decide (speed.toNat ≤ 4)

/-- The well-formed commands: what each meaning checks before anything else. Every other constructor is well-formed with any
operands. -/
def Instr.wellFormed : Instr → Bool
  | .grant _ es => grantWf es
  | .keyBlob _ bytes => decide (bytes.length = 40)
  | .bootStepDone o => bootWf o
  | .coreTreeStore _ node _ _ _ => decide (node < 2 ^ 20)
  | .groupDecode _ g => groupWf g
  | .preambleDetect _ _ _ gain lag => detectWf gain lag
  | .syncCandidate _ pos _ => decide (pos < 3200000)
  | .pcieLinkUp width speed _ _ _ => linkWf width speed
  | .pfcReceive _ _ quanta => decide (quanta.length = 8)
  | .memoryWrite _ pl data => decide (data.length = Machine.placeSize pl)
  | .trainingCountReached _ _ a => adaptWf a
  | .lqBlock _ _ a => adaptWf a
  | .laneRowCheck _ row => decide (row.slots.length = 16)
  | .stagedWrite _ a _ _ => Machine.isStaged a.toNat
  | .unusedPageAccess _ _ a _ => !Machine.usedPage (Machine.pageOf a.toNat) && decide (a.toNat % 4 = 0)
  | .tableSelect _ a _ => Machine.selectors.contains a.toNat
  | .gateShadowWrite _ a _ => Machine.gateShadows.contains a.toNat
  | _ => true

end Sys2Proof
end

