-- ==== Sys2Proof/Machine/Activation.lean ====
section
/-! DEFINITION. Chapter 7: control messages, the terminal states, the delays, silence, the laser guard (R232-R269), and
KEY_SWITCH (R322). -/

namespace Sys2Proof.Machine

open Sys2Proof

/-! ### States (R246, R251) -/

/-- A channel that takes part is present. -/
def State.anyEnabled (s : State) : Bool := (List.finRange 4).any (fun c => s.enabled c)

/-- A RANGED channel is present. -/
def State.anyRanged (s : State) : Bool := (List.finRange 4).any (fun c => (s.act.ch[c]).ranged && s.present c)

/-- The loss timer runs in Operating while no RANGED channel is present (R251). -/
def State.lossTimer (s : State) : State :=
  if s.act.st = .operating ∧ ¬ s.anyRanged then (if s.running T.loss then s else s.startTimer T.loss) else s.stopTimer T.loss

/-- The timers that run in a state. -/
def timersFor (st : TermSt) (s : State) : State :=
  match st with
  | .announcing => (((s.startTimer T.announce).stopTimer T.ranging).stopTimer T.hold).lossTimer
  | .ranging => (((s.stopTimer T.announce).startTimer T.ranging).stopTimer T.hold).lossTimer
  | .holdover => (((s.stopTimer T.announce).stopTimer T.ranging).startTimer T.hold).lossTimer
  | _ => (((s.stopTimer T.announce).stopTimer T.ranging).stopTimer T.hold).lossTimer

/-- Every grant is discarded on every channel; the event is one (R275). -/
def State.discardAll (s : State) : State :=
  ((List.finRange 4).foldl (fun (t : State) (c : Chan) => t.dropGrants c) s).fire P.UPB E.UPB_GRANT_DISCARD

/-- The terminal moves (R246): STATE_CHANGE, the timers of the new state; Dark, Listening and Silenced empty the message queue
(R245), and the bursts of R254 that wait are not sent; leaving Operating discards the grants (R275). -/
def State.go (s : State) (st : TermSt) : State :=
  if s.act.st = st then s
  else
    let s1 := (s.setAct (fun a => { a with st := st, planned := false })).fire P.ACT E.ACT_STATE_CHANGE
    let s2 := timersFor st s1
    let s3 := if st = .dark ∨ st = .listening ∨ st = .silenced then
      (s2.setAct (fun a => { a with umsgs := [] })).dropSpecial else s2
    let s4 := if st = .announcing then s3.setAct (fun a => { a with annCnt := 0 }) else s3
    if s.act.st = .operating then s4.discardAll else s4

/-- The terminal drops its ID, and with it every key (R233, R318). -/
def State.dropId (s : State) : State :=
  match s.act.tid with
  | some _ => (s.setAct (fun a => { a with tid := none })).eraseAll
  | none => s

/-- A channel loses RANGED, and with it its grants (R275). -/
def State.loseRanged (s : State) (c : Chan) : State :=
  if (s.act.ch[c]).ranged then (s.setActCh c { s.act.ch[c] with ranged := false }).discardGrants c else s

/-- A channel loses RANGED and its delay. -/
def State.unrange (s : State) (c : Chan) : State := (s.setEqd c 0).loseRanged c

/-- Every channel loses RANGED and keeps its delay (R258). -/
def State.loseAll (s : State) : State := (List.finRange 4).foldl (fun (t : State) (c : Chan) => t.loseRanged c) s

/-- Every channel loses RANGED and its delay. -/
def State.unrangeAll (s : State) : State := (List.finRange 4).foldl (fun (t : State) (c : Chan) => t.unrange c) s

/-- A channel becomes RANGED with delay `eqd`, in effect at once. -/
def State.rangeNow (s : State) (c : Chan) (eqd : Nat) : State :=
  let s1 := s.setEqd c eqd
  s1.setActCh c { s1.act.ch[c] with ranged := true }

/-- Entry into Holdover (R246, R269). -/
def State.enterHold (s : State) (planned : Bool) (ms : Nat) : State :=
  let s1 := (s.go .holdover).setAct (fun a => { a with planned := planned, holdMs := ms })
  (s1.bump R.ACT_CNT_HOLD).fire P.ACT E.ACT_HOLD_ENTER

/-- The body of STATUS (R243). -/
def State.statusBody (s : State) (cause : Nat) : List Byte :=
  [BitVec.ofNat 8 s.act.st.num,
   BitVec.ofNat 8 (bits4 (fun c => (s.act.ch[c]).ranged) + bits4 (fun c => s.present c) * 2 ^ 4),
   BitVec.ofNat 8 (bits4 (fun c => (s.act.ch[c]).trip)),
   BitVec.ofNat 8 (bits8 (fun n => (s.pair n).spent)), BitVec.ofNat 8 cause]

/-- A STATUS is queued (R244). -/
def State.queueStatus (s : State) (cause : Nat) : State := s.queueMsg 0x84 (s.statusBody cause)

/-- Holdover ends (R246). -/
def State.resume (s : State) : State := (s.go .operating).queueStatus 2

/-- EN is cleared, or Nap or Deep begins (R246, R248). -/
def State.actOff (s : State) : State :=
  if s.act.st = .dark ∨ s.act.st = .silenced then s else ((s.dropId).unrangeAll).go .dark

/-- The moves that presence makes (R246), after a change of presence, CHAN_CTL or EN; `was`: the channels present before it. Presence ends
only a Holdover that a MOVE began: one from loss of presence ends by SET_DELAY alone (R258). -/
def State.presenceMoved (s : State) (was : Chan → Bool) : State :=
  match s.act.st with
  | .dark => if s.bit F.ACT_ACT_CTL_EN ∧ s.anyEnabled then s.go .listening else s
  | .operating => s.lossTimer
  | .holdover =>
    if s.act.planned ∧ (List.finRange 4).any (fun c => (s.act.ch[c]).ranged && s.present c && !was c) then s.resume else s
  | .silenced => s
  | _ => if s.anyEnabled then s else (s.dropId).go .dark

/-- The state moves with a change `f` of the channels that are present. -/
def State.withPresence (s : State) (f : State → State) : State := (f s).presenceMoved (fun c => s.present c)

/-- A HEAD_CHANGE clears the profile of a channel, where it holds one (R241, R275). -/
def State.headChange (s : State) (c : Chan) : State :=
  let a := s.act.ch[c]
  if (a.prof.or a.profNext).isSome then (s.setActCh c { a with prof := none, profNext := none }).discardGrants c else s

/-! ### Silence (R259-R262) -/

/-- The log record of R261. -/
def State.silRecord (s : State) (entry : Bool) : State :=
  s.makeRecord 3 P.ACT [BitVec.ofNat 8 (b2n entry), s.act.reason, BitVec.ofNat 8 (b2n s.act.emerg)]

/-- SILENCE or EMERGENCY_STOP is acted on (R259, R260); the grants go as the terminal leaves Operating. -/
def State.silenceNow (s : State) (reason : BitVec 8) (emergency : Bool) : State :=
  let s1 := if emergency then (List.finRange 4).foldl (fun (t : State) (c : Chan) => t.cutBurst c) s else s
  let s2 := s1.setAct (fun a => { a with silenced := true, reason := reason, emerg := a.emerg || emergency })
  let s3 := (s2.bump R.ACT_CNT_SILENCE).fire P.ACT E.ACT_SILENCED
  let s4 := if emergency then s3.fire P.ACT E.ACT_EMERGENCY_STOP else s3
  if s.act.st = .silenced then s4.setAct (fun a => { a with umsgs := [] }) else (s4.go .silenced).silRecord true

/-- A release (R262). -/
def State.releaseNow (s : State) (resume : Bool) : State :=
  let s1 := (s.silRecord false).setAct (fun a => { a with silenced := false, emerg := false, fromLog := false, reason := 0 })
  let s2 :=
    if resume ∧ s.act.tid.isSome then s1.go .operating
    else
      let t := s1.dropId.unrangeAll
      t.go (if t.anyEnabled then .listening else .dark)
  s2.fire P.ACT E.ACT_RELEASED

/-! ### The guard (R263-R268) -/

/-- The guard of channel `c` trips (R264, R265). -/
def State.tripGuard (s : State) (c : Chan) (fb : Bool) : State :=
  let a := s.act.ch[c]
  let s1 := (s.setActCh c { a with trip := true, fb := a.fb || fb }).cutBurst c
  (((s1.discardGrants c).bump R.ACT_CNT_GUARD).fire P.ACT E.ACT_GUARD_TRIP).queueStatus 1

/-- A write of GUARD_CMD (R267, R268). -/
def State.opGuardCmd (s : State) (r : Req) (v : Word) : State :=
  if getField v 0 4 ≠ 0 ∧ s.act.st = .silenced then s.refuse r R.ACT_GUARD_CMD
  else
    let s1 := (List.finRange 4).foldl (fun (t : State) (c : Chan) =>
      if v.getLsbD c.val then t.setActCh c { t.act.ch[c] with trip := false, fb := false } else t) s
    (List.finRange 4).foldl (fun (t : State) (c : Chan) =>
      if v.getLsbD (8 + c.val) && t.txDisable c then t.tripGuard c false else t) s1

/-- A write of LOCAL_REL (R100, R262). -/
def State.opLocalRel (s : State) (r : Req) (v : Word) : State :=
  if v.getLsbD 0 then
    s.guarded r R.ACT_LOCAL_REL (fun t => if t.act.st = .silenced then t.releaseNow false else t)
  else s

/-! ### Writes of page ACT -/

/-- A write of ACT_CTL (R246). -/
def State.opActCtl (s : State) (v : Word) : State :=
  let s1 := s.store R.ACT_ACT_CTL v
  if s1.bit F.ACT_ACT_CTL_EN then s1.presenceMoved (fun c => s1.present c)
  else if s.bit F.ACT_ACT_CTL_EN then s1.actOff else s1

/-- A write of CHAN_CTL. -/
def State.opChanCtl (s : State) (v : Word) : State :=
  let s1 := s.store R.ACT_CHAN_CTL v
  s1.presenceMoved (fun c => s1.present c)

/-- A write of SERIAL_LO or SERIAL_HI (R232). -/
def State.opSerial (s : State) (r : Req) (hi : Bool) (v : Word) : State :=
  let k := if hi then R.ACT_SERIAL_HI else R.ACT_SERIAL_LO
  if s.act.st = .dark then s.store k v else s.refuse r k

/-! ### Control messages (R235-R245) -/

/-- The terminal's serial. -/
def State.serial (s : State) : BitVec 64 :=
  BitVec.ofNat 64 ((s.rd R.ACT_SERIAL_HI).toNat * 2 ^ 32 + (s.rd R.ACT_SERIAL_LO).toNat)

/-- The 48 bytes of a slot of the frame in progress (R147). -/
def State.slotBytes (s : State) (h : MsgHdr) : List Byte := slice (s.dsf[h.chan]).slots (48 * h.slot.val) 48

/-- MCRC of a message checks (R235). -/
def mcrcGood (m : List Byte) : Bool := decide (ofBytesBE (slice m 44 4) = crc32 (slice m 0 44))

/-- The slot holds a message that may be acted on: of the frame in progress on its channel, which R164 and R189 allow, and marked in
CTRL_USED (R236). -/
def State.inSlot (s : State) (h : MsgHdr) : Bool :=
  let x := s.dsf[h.chan]
  x.ctrl && x.used.getLsbD h.slot.val && decide (s.downFrame h.chan = some h.frame.toNat)

/-- The message of the command is the one that stands in its slot (R235, R236): TID, PARAM, TYPE, SEQ, BODY and a good MCRC. -/
def State.carries (s : State) (h : MsgHdr) (type : Nat) (body : List Byte) : Bool :=
  let m := s.slotBytes h
  s.inSlot h && mcrcGood m &&
    decide (slice m 0 4 = toBytesBE 2 (h.tid.toNat * 16 + h.param.toNat) ++ [BitVec.ofNat 8 type, h.seq]) &&
    decide (slice m 4 body.length = body)

/-- A message acted on is counted, recorded and captured (R240). -/
def State.acted (s : State) (h : MsgHdr) (type : Nat) : State :=
  let last := type + h.seq.toNat * 2 ^ 8 + h.chan.val * 2 ^ 16 + h.slot.val * 2 ^ 18
  let s1 := (s.bump R.ACT_CNT_MSG_OK).wr R.ACT_MSG_LAST (BitVec.ofNat 32 last)
  let rec_ : SeqRec := ⟨type, h.param, h.seq, s.clock.mono, if type = 0x0D then none else some 0⟩
  let s2 := s1.setAct (fun a => { a with
    seqs := rec_ :: a.seqs.filter (fun x => !(decide (x.type = type) && decide (x.param = h.param))) })
  if s2.fld F.ACT_CAP_SEL_TYPE = type then
    let bytes := s.slotBytes h
    (List.range 12).foldl (fun (t : State) n => t.wr (R.ACT_CAP n) (BitVec.ofNat 32 (ofBytesBE ((bytes.drop (4 * n)).take 4)))) s2
  else s2

/-- A message counts in `k` with MSG_ERR (R269). -/
def State.msgErr (s : State) (k : Nat) : State := (s.bump k).fire P.ACT E.ACT_MSG_ERR

/-- The message is a repeat (R238). -/
def State.repeatOf (s : State) (h : MsgHdr) (type : Nat) : Option SeqRec :=
  s.act.seqs.find? (fun x => decide (x.type = type) && decide (x.param = h.param) && decide (x.seq = h.seq) &&
    decide (s.clock.mono ≤ x.at_ + 2000000))

/-- GRANT, SILENCE, EMERGENCY_STOP and STATUS_REQ are not acknowledged (R244). -/
def noAck (type : Nat) : Bool := decide (type = 0x06) || decide (type = 0x09) || decide (type = 0x0A) || decide (type = 0x0F)

/-- The answer to a message that has been acted on, or repeats one (R244): the ACK, STATUS for STATUS_REQ; the ACK of a KEY_BLOB
waits for the end of its job (R329). -/
def State.answer (s : State) (h : MsgHdr) (type : Nat) (result : Option Nat) : State :=
  if type = 0x0F then (if s.act.tid = some h.tid then s.queueStatus 0 else s)
  else if noAck type then s
  else match result with | some n => s.sendAck h type n | none => s

/-- The TID of a message is the terminal's or 0xFFF (R236). -/
def State.forUs (s : State) (h : MsgHdr) : Bool := decide (h.tid = 0xFFF) || decide (s.act.tid = some h.tid)

/-- A message that stands in its slot and passes MCRC: the checks of R236, then a repeat (R238), a state that does not accept it, a value out of its
range (R237); otherwise `act` carries it out. `mine`: a serial in the body, where one counts, is the terminal's; `bad`: a value is out of its range. -/
def State.takeMsg (s : State) (h : MsgHdr) (type : Nat) (mine : Bool) (accepts : List TermSt) (bad : Bool) (body : List Byte)
    (act : State → State) : State :=
  if ¬ s.carries h type body ∨ ¬ s.forUs h ∨ ¬ mine then s
  else
    match s.repeatOf h type with
    | some x => (s.bump R.ACT_CNT_MSG_REP).answer h type x.result
    | none =>
      if ¬ accepts.contains s.act.st then
        let s1 := s.bump R.ACT_CNT_MSG_STATE
        if noAck type then s1 else s1.sendAck h type 1
      else if bad then
        let s1 := s.msgErr R.ACT_CNT_MSG_BAD
        if noAck type then s1 else s1.sendAck h type 2
      else (act (s.acted h type)).answer h type (if type = 0x0D then none else some 0)

/-- The channel that PARAM [1:0] names. -/
def msgChan (h : MsgHdr) : Chan := Fin.ofNat 4 h.param.toNat

/-- The pair that PARAM of KEY_BLOB and KEY_SWITCH names. -/
def msgPair (h : MsgHdr) : Fin 8 := if h.param.getLsbD 3 then pairUp (msgChan h) else pairDown (msgChan h)

/-- Upstream frame `f` of channel `c` has begun. -/
def State.begun (s : State) (c : Chan) (f : Nat) : Bool :=
  match (s.upb[c]).frame with
  | some k => frameGe k f
  | none => false

/-- Upstream frame `f` of channel `c` has begun on the grid of a PRE_EQD (R237, R254). -/
def State.begunPre (s : State) (c : Chan) (pre f : Nat) : Bool :=
  match s.frameGoing c pre with
  | some k => frameGe k f
  | none => false

/-- The states that accept the ranging, delay and key messages. -/
def inService : List TermSt := [.ranging, .operating, .holdover]

/-- Every state but Dark. -/
def notDark : List TermSt := [.listening, .announcing, .ranging, .operating, .holdover, .silenced]

/-- A burst of R254 is scheduled. -/
def State.schedule (s : State) (c : Chan) (kind : BurstKind) (frame start pre : Nat) : State :=
  let x := s.upb[c]
  s.setUpb c { x with gt := insertGrant (s.act.ch[c]).eqd ⟨kind, frame, ⟨0, c, start, 0, false, true⟩, pre⟩ x.gt }

/-- PROFILE is acted on: it takes effect with the next upstream frame (R276). -/
def State.setProfile (s : State) (c : Chan) (b : ProfileBody) : State := s.setActCh c { s.act.ch[c] with profNext := some b }

/-- The terminal announces in a window (R246, R254, R281): it takes part if the draw falls below CHANCE. -/
def State.announce (s : State) (c : Chan) (frame start len pre chance draw ofs : Nat) : State :=
  let s1 := if s.act.st = .listening then s.go .announcing else s
  match s1.profileFor c frame with
  | none => s1
  | some p =>
    let n := 4 * p.preWords.toNat + 8
    if len < n ∨ (if chance = 0 then 256 else chance) ≤ draw then s1
    else s1.schedule c .announce frame (start + ofs % (len - n + 1)) pre

/-- ASSIGN_ID is acted on (R246). -/
def State.takeId (s : State) (c : Chan) (tid : BitVec 12) : State :=
  ((s.setAct (fun a => { a with tid := some tid, rangeCh := c })).go .ranging).fire P.ACT E.ACT_ID_ASSIGNED

/-- RANGING_GRANT is acted on (R246, R254). -/
def State.rangeBurst (s : State) (c : Chan) (frame start pre : Nat) : State :=
  let s1 := s.schedule c .rangeResp frame start pre
  if s.act.st = .ranging then s1.startTimer T.ranging else s1

/-- SET_DELAY is acted on (R246, R255, R256). -/
def State.takeDelay (s : State) (c : Chan) (eqd frame : Nat) : State :=
  let a := s.act.ch[c]
  let next := (((s.upb[c]).frame.or (s.frameGoing c a.eqd)).getD 0 + 1) % 2 ^ 48
  let s1 :=
    if s.act.st = .ranging ∨ ¬ a.ranged then s.rangeNow c eqd
    else s.setActCh c { a with eqdNext := some (if frame = 0 ∨ s.begun c frame then next else frame, eqd) }
  let s2 := s1.fire P.ACT E.ACT_RANGED
  match s.act.st with
  | .ranging => s2.go .operating
  | .holdover => if s2.present c then s2.resume else s2
  | _ => s2.lossTimer

/-- MOVE is acted on (R257): with EQD_MODE 0 TO keeps its delay and is not RANGED. -/
def State.takeMove (s : State) (b : MoveBody) : State :=
  let s1 := if b.src = b.dst then s else s.unrange b.src
  let s2 := if b.mode = 0 then s1.loseRanged b.dst else if b.mode = 2 then s1.rangeNow b.dst b.newEqd.toNat else s1
  let ms := if b.holdMs = 0 then s.fld F.ACT_TMR_CFG1_HOLD_MS else max 100 b.holdMs.toNat
  if s.act.st = .holdover then (s2.startTimer T.hold).setAct (fun a => { a with holdMs := ms })
  else if s2.anyRanged then s2.lossTimer
  else s2.enterHold true ms

/-- KEY_SWITCH on a channel without LOCAL_ROLL: the roll becomes pending (R322). -/
def State.switchKey (s : State) (h : MsgHdr) (frame : Nat) : State :=
  s.orderRoll (msgPair h) ⟨h.param.getLsbD 2, frame, false⟩

/-- The values of a PROFILE lie in their ranges (R241). -/
def profileOk (b : ProfileBody) : Bool :=
  decide (b.guard.toNat ≤ 1023) && decide (1 ≤ b.preWords.toNat) && decide (b.preWords.toNat ≤ 64) && decide (b.prePat.toNat ≤ 15)

/-- The body of SILENCE, EMERGENCY_STOP and RELEASE. -/
def silBytes (b : SilBody) : List Byte :=
  [BitVec.ofNat 8 (b2n b.bySerial)] ++ toBytesBE 8 b.serial.toNat ++ [b.reason, BitVec.ofNat 8 (b2n b.resume)]

/-- A body that names the terminal by serial names this one (R236). -/
def State.serialOk (s : State) (b : SilBody) : Bool := !b.bySerial || decide (b.serial = s.serial)

/-- The body of PROFILE. -/
def profileBytes (b : ProfileBody) : List Byte :=
  toBytesBE 2 b.guard.toNat ++ [b.preWords, b.prePat] ++ toBytesBE 8 b.delim.toNat ++ [b.lead, b.trail, b.rev]

/-- The body of MOVE. -/
def moveBytes (b : MoveBody) : List Byte :=
  [BitVec.ofNat 8 (b.src.val + b.dst.val * 4 + b.mode.toNat * 16)] ++ toBytesBE 3 b.newEqd.toNat ++ toBytesBE 2 b.holdMs.toNat

/-- An entry of a GRANT lies in its ranges (R242). -/
def entryOk (e : GrantEntry) : Bool := decide (e.len = 0) || (decide (e.start ≤ 49999) && decide (e.len ≤ 50000))

/-! ### Registers -/

/-- The computed registers of page ACT. -/
def readACT (s : State) (o : Nat) : Option Word :=
  let a := s.act
  if o = 0x044 then
    some (BitVec.ofNat 32 (a.st.num + b2n a.planned * 2 ^ 3 + b2n a.tid.isSome * 2 ^ 4 + s.ownTid.toNat * 2 ^ 16))
  else if o = 0x05C then
    some (BitVec.ofNat 32 (bits4 (fun c => s.present c) + bits4 (fun c => (a.ch[c]).ranged) * 2 ^ 4 +
      bits4 (fun c => ((a.ch[c]).prof.or (a.ch[c]).profNext).isSome) * 2 ^ 8 + a.rangeCh.val * 2 ^ 12))
  else if 0x060 ≤ o ∧ o ≤ 0x06C then
    let x := a.ch[Fin.ofNat 4 ((o - 0x060) / 4)]
    some (BitVec.ofNat 32 (x.eqd % 2 ^ 24 + b2n x.ranged * 2 ^ 31))
  else if o = 0x070 then
    some (BitVec.ofNat 32 (bits4 (fun c => (a.ch[c]).trip) + bits4 (fun c => s.txDisable c) * 2 ^ 4 +
      bits4 (fun c => s.burstEn c) * 2 ^ 8 + bits4 (fun c => (a.ch[c]).fb) * 2 ^ 12))
  else if o = 0x07C then
    some (BitVec.ofNat 32 (b2n a.silenced + b2n a.emerg * 2 + b2n a.fromLog * 4 + a.reason.toNat * 2 ^ 8))
  else if o = 0x084 then some (BitVec.ofNat 32 a.umsgs.length)
  else none

/-! ### Commands -/

/-- PROFILE (R241, R276). -/
def execProfile (h : MsgHdr) (b : ProfileBody) (s : State) : Res :=
  .next (s.takeMsg h 0x01 true notDark (!profileOk b) (profileBytes b) (fun t => t.setProfile (msgChan h) b))

/-- ANNOUNCE_WINDOW (R241, R246, R254); `draw` and `ofs` are what the terminal draws. In Listening a window without ANN_EN
or a valid profile is ignored. -/
def execAnnounceWindow (h : MsgHdr) (frame : BitVec 48) (start len : BitVec 16) (pre : BitVec 24) (chance draw : BitVec 8)
    (ofs : Nat) (s : State) : Res :=
  let c := msgChan h
  let a := s.act.ch[c]
  let mine := s.bit F.ACT_ACT_CTL_ANN_EN && (a.prof.or a.profNext).isSome
  let bad := decide (49999 < start.toNat) || decide (len.toNat = 0) || decide (50000 < len.toNat) || s.begunPre c pre.toNat frame.toNat
  let body := toBytesBE 6 frame.toNat ++ toBytesBE 2 start.toNat ++ toBytesBE 2 len.toNat ++ toBytesBE 3 pre.toNat ++ [chance]
  let act := fun (t : State) => t.announce c frame.toNat start.toNat len.toNat pre.toNat chance.toNat draw.toNat ofs
  .next (s.takeMsg h 0x02 (mine || bad || !decide (s.act.st = .listening))
    [.listening, .announcing] bad body act)

/-- ASSIGN_ID (R233, R234, R246): one for another serial is ignored. -/
def execAssignId (h : MsgHdr) (serial : BitVec 64) (tid : BitVec 12) (s : State) : Res :=
  .next (s.takeMsg h 0x03 (decide (serial = s.serial)) [.announcing] (decide (tid = 0xFFF))
    (toBytesBE 8 serial.toNat ++ toBytesBE 2 tid.toNat) (fun t => t.takeId (msgChan h) tid))

/-- RANGING_GRANT (R246, R254). -/
def execRangingGrant (h : MsgHdr) (frame : BitVec 48) (start : BitVec 16) (pre : BitVec 24) (s : State) : Res :=
  .next (s.takeMsg h 0x04 true inService (decide (49999 < start.toNat) || s.begunPre (msgChan h) pre.toNat frame.toNat)
    (toBytesBE 6 frame.toNat ++ toBytesBE 2 start.toNat ++ toBytesBE 3 pre.toNat)
    (fun t => t.rangeBurst (msgChan h) frame.toNat start.toNat pre.toNat))

/-- SET_DELAY (R246, R255, R256). -/
def execSetDelay (h : MsgHdr) (eqd : BitVec 24) (frame : BitVec 48) (s : State) : Res :=
  .next (s.takeMsg h 0x05 true inService false (toBytesBE 3 eqd.toNat ++ toBytesBE 6 frame.toNat)
    (fun t => t.takeDelay (msgChan h) eqd.toNat frame.toNat))

/-- GRANT (R242, R274): five entries, in byte order. -/
def execGrant (h : MsgHdr) (es : List GrantEntry) (s : State) : Res :=
  if ¬ grantWf es then .fault .illFormed
  else
    .next (s.takeMsg h 0x06 true [.operating] (decide (h.param = 0) || !es.all entryOk)
      (es.map (fun e => toBytesBE 8 (entryNum e))).flatten
      (fun t => es.foldl (fun (u : State) e => u.insertEntry ((h.frame.toNat + h.param.toNat) % 2 ^ 48) e) t))

/-- MOVE (R257). -/
def execMove (h : MsgHdr) (b : MoveBody) (s : State) : Res :=
  .next (s.takeMsg h 0x07 true [.operating, .holdover] (decide (b.mode = 3)) (moveBytes b) (fun t => t.takeMove b))

/-- DEACTIVATE (R246). -/
def execDeactivate (h : MsgHdr) (s : State) : Res :=
  .next (s.takeMsg h 0x08 true inService false []
    (fun t => (((t.dropId).unrangeAll).go .listening).fire P.ACT E.ACT_DEACTIVATED))

/-- SILENCE (R259); in Silenced it changes nothing more. -/
def execSilence (h : MsgHdr) (b : SilBody) (s : State) : Res :=
  .next (s.takeMsg h 0x09 (s.serialOk b) (.dark :: notDark) false (silBytes b)
    (fun t => if t.act.st = .silenced then t else t.silenceNow b.reason false))

/-- EMERGENCY_STOP (R260). -/
def execEmergencyStop (h : MsgHdr) (b : SilBody) (s : State) : Res :=
  .next (s.takeMsg h 0x0A (s.serialOk b) (.dark :: notDark) false (silBytes b) (fun t => t.silenceNow b.reason true))

/-- RELEASE (R262). -/
def execRelease (h : MsgHdr) (b : SilBody) (s : State) : Res :=
  .next (s.takeMsg h 0x0B (s.serialOk b) [.silenced] false (silBytes b) (fun t => t.releaseNow b.resume))

/-- TIME_OF_DAY (R241): its sample goes to the time servo. -/
def execTimeOfDay (h : MsgHdr) (frame : BitVec 48) (sec : BitVec 48) (ns : BitVec 32) (s : State) : Res :=
  .next (s.takeMsg h 0x0C true notDark (decide (1000000000 ≤ ns.toNat))
    (toBytesBE 6 frame.toNat ++ toBytesBE 6 sec.toNat ++ toBytesBE 4 ns.toNat)
    (fun t => t.todSample (msgChan h) h.frame.toNat frame.toNat sec.toNat ns.toNat))

/-- KEY_BLOB (R241, R329): a job of the unwrap engine. -/
def execKeyBlob (h : MsgHdr) (bytes : List Byte) (s : State) : Res :=
  if bytes.length ≠ 40 then .fault .illFormed
  else .next (s.takeMsg h 0x0D true inService false bytes
    (fun t => t.queueJob ⟨.link (msgPair h) (h.param.getLsbD 2), bytes, some h⟩))

/-- KEY_SWITCH (R322): a frame of its direction that has begun is a bad value; with LOCAL_ROLL the message is refused. -/
def execKeySwitch (h : MsgHdr) (frame : BitVec 48) (s : State) : Res :=
  let bad : Bool := match s.pairFrame (msgPair h) with | some k => frameGe k frame.toNat | none => false
  if natBit (s.fld F.LCK_LCK_CTL_LOCAL_ROLL) (msgChan h).val ∧ s.carries h 0x0E (toBytesBE 6 frame.toNat) ∧ s.forUs h ∧ (s.repeatOf h 0x0E).isNone ∧
      inService.contains s.act.st ∧ bad = false then .next (s.sendAck h 0x0E 1)
  else .next (s.takeMsg h 0x0E true inService bad (toBytesBE 6 frame.toNat) (fun t => t.switchKey h frame.toNat))

/-- STATUS_REQ (R244). -/
def execStatusReq (h : MsgHdr) (s : State) : Res := .next (s.takeMsg h 0x0F true inService false [] (fun t => t))

/-- CONTROL_MESSAGE_REJECT (R236-R238): a message of a slot that fails MCRC; one that passes it and is of unknown TYPE. -/
def execControlMessageReject (h : MsgHdr) (type : BitVec 8) (crcFail : Bool) (s : State) : Res :=
  .next (if ¬ s.inSlot h ∨ mcrcGood (s.slotBytes h) = crcFail then s
    else if crcFail then s.msgErr R.ACT_CNT_MSG_CRC
    else if ¬ s.carries h type.toNat [] ∨ ¬ s.forUs h then s
    else if 1 ≤ type.toNat ∧ type.toNat ≤ 0x0F then s
    else (s.msgErr R.ACT_CNT_MSG_UNK).sendAck h type.toNat 2)

/-- ANNOUNCE_TIMEOUT (R246). -/
def execAnnounceTimeout (s : State) : Res :=
  .next (if s.act.st = .announcing then ((s.go .listening).bump R.ACT_CNT_ANN_TO).fire P.ACT E.ACT_ANN_TIMEOUT else s)

/-- RANGING_TIMEOUT (R246). -/
def execRangingTimeout (s : State) : Res :=
  .next (if s.act.st = .ranging then ((s.dropId).go .listening).fire P.ACT E.ACT_RANGE_TIMEOUT else s)

/-- LOSS_TIMEOUT (R246, R258). -/
def execLossTimeout (s : State) : Res :=
  .next (if s.act.st = .operating ∧ s.running T.loss then (s.loseAll).enterHold false (s.fld F.ACT_TMR_CFG1_HOLD_MS) else s)

/-- HOLD_TIMEOUT (R246). -/
def execHoldTimeout (s : State) : Res :=
  .next (if s.act.st = .holdover then
    let s1 := s.dropId.unrangeAll
    (s1.go (if s1.anyEnabled then .listening else .dark)).fire P.ACT E.ACT_HOLD_EXPIRED
  else s)

/-- ACT_DISABLE (R246): a write of ACT_CTL with EN 0. -/
def execActDisable (r : Req) (v : Word) (s : State) : Res :=
  .next (s.access r R.ACT_ACT_CTL true (fun t => t.opActCtl (v &&& ~~~1)))

/-- SERIAL_WRITE (R232). -/
def execSerialWrite (r : Req) (hi : Bool) (v : Word) (s : State) : Res :=
  .next (s.access r (if hi then R.ACT_SERIAL_HI else R.ACT_SERIAL_LO) true (fun t => t.opSerial r hi v))

/-- LOCAL_REL (R100, R262). -/
def execLocalRel (r : Req) (v : Word) (s : State) : Res :=
  .next (s.access r R.ACT_LOCAL_REL true (fun t => t.opLocalRel r (v ||| 1)))

/-- GUARD_TRIP (R264). -/
def execGuardTrip (c : Chan) (s : State) : Res := .next (s.tripGuard c false)

/-- GUARD_FB_TRIP (R265). -/
def execGuardFbTrip (c : Chan) (s : State) : Res := .next (s.tripGuard c true)

/-- GUARD_CLR (R267). -/
def execGuardClr (r : Req) (v : Word) (s : State) : Res :=
  .next (s.access r R.ACT_GUARD_CMD true (fun t => t.opGuardCmd r v))

/-- GUARD_TEST (R268). -/
def execGuardTest (r : Req) (v : Word) (s : State) : Res :=
  .next (s.access r R.ACT_GUARD_CMD true (fun t => t.opGuardCmd r v))

end Sys2Proof.Machine
end

