-- ==== Sys2Proof/Machine/Deframer.lean ====
section
/-! DEFINITION. Chapter 5: alignment, the frame counter, the multiframe, the thatch map, the FEC counters, fragments and the payload
label (R144-R192), and the reassembly of packets (R309). -/

namespace Sys2Proof.Machine

open Sys2Proof

/-! ### The receive chain of the channel -/

/-- Replaces a receive chain. -/
def State.setRx (s : State) (c : Chan) (x : Rx) : State := { s with rx := s.rx.set c x }

/-- A group boundary: the trims of the last calibration step take effect (R139). -/
def State.trimsIn (s : State) (c : Chan) : State :=
  match (s.rx[c]).trimWait with
  | some (k, w) => s.setRx c { s.rx[c] with trims := mapIns (s.rx[c]).trims k w, trimWait := none }
  | none => s

/-- The chain enters TRACK: CDR_LOCK is 1 (R109), LQ is not valid until a block has completed. -/
def State.enterTrack (s : State) (c : Chan) : State :=
  (s.setRx c { s.rx[c] with st := .track, lock := true, armed := false, openS := false, frozen := false, past := [] }).setFld (F.LRX_LQ_VALID c.val) 0

/-! ### States (R160) -/

/-- Replaces a deframer. -/
def State.setDsf (s : State) (c : Chan) (x : Dsf) : State := { s with dsf := s.dsf.set c x }

/-- A shared event of a channel: EVT_RAW bit `b`, and its bit of CHn_STAT.CAUSE. -/
def State.dsfEvent (s : State) (c : Chan) (b : Nat) : State :=
  (s.setFld ⟨R.DSF_CH_STAT c.val, 12 + b, 1⟩ 1).fire P.DSF b

/-- The deframer moves to `x`: presence follows (R246); entry into HUNT fails pending rolls (R321); a channel that is present no more
signals loss of frame to the demapper (R164). -/
def State.dsfMove (s : State) (c : Chan) (x : Dsf) : State :=
  let enter := decide (x.st = .hunt) && decide ((s.dsf[c]).st ≠ .hunt)
  let s1 := s.withPresence (fun t => t.setDsf c x)
  let s2 := if enter then s1.rollsFail c else s1
  if s.present c && !s2.present c then s2.tribFrameLost c else s2

/-- How many groups of a run or span of `n` groups have begun `t` ns after its first symbol: one each 500 ns (R145). -/
def groupsBegun (n t : Nat) : Nat := min n (t / 500 + 1)

/-- The map becomes UNKNOWN, and a chain that dozes wakes (R129, R178): the groups that began while it was gated are those of the
time since the doze entry. -/
def State.mapLost (s : State) (c : Chan) : State :=
  let s1 := s.setDsf c { s.dsf[c] with map := .unknown, entries := [], tail := 0 }
  if (s.rx[c]).st = .doze then
    (s1.bumpBy (R.LRX_CNT_DOZE_GRP c.val) (groupsBegun (s.rx[c]).span (s.clock.mono - (s.rx[c]).dozeAt))).enterTrack c
  else s1

/-- A deframer with no grid: no candidates, multiframe not aligned, map UNKNOWN. -/
def Dsf.lose (x : Dsf) (st : DsSt) : Dsf :=
  { x with st := st, planned := false, run := 0, cands := [], fresh := true, grpDead := true, deliver := false, ctrl := false,
           mfAl := false, mfIdx := none, secs := [], said := none, lastSec := 0, bad := false }

/-- Candidates that are dropped are counted (R192). -/
def State.countDropped (s : State) (c : Chan) (n : Nat) : State := s.bumpBy (R.DSF_CNT_FALSE_CAND c.val) n

/-- Alignment is lost (R160). -/
def State.lossOfFrame (s : State) (c : Chan) : State :=
  let s1 := (s.mapLost c).bump (R.DSF_CNT_LOF c.val)
  ((s1.dsfMove c ((s1.dsf[c]).lose .hunt)).stopTimer (T.coast c.val)).fire P.DSF (E.DSF_LOF + c.val)

/-- The receive chain leaves OFF (R160). -/
def State.dsfOn (s : State) (c : Chan) : State :=
  if (s.dsf[c]).st = .off then (s.mapLost c).dsfMove c ((s.dsf[c]).lose .hunt) else s

/-- The receive chain enters OFF (R160, R321). -/
def State.dsfOff (s : State) (c : Chan) : State :=
  let s1 := if (s.dsf[c]).st = .off then s
    else (((s.mapLost c).dsfMove c ((s.mapLost c).dsf[c].lose .off)).countDropped c (s.dsf[c]).cands.length).stopTimer (T.coast c.val)
  s1.rollsFail c

/-- The receive chain enters an unplanned hold (R160). -/
def State.dsfHold (s : State) (c : Chan) : State :=
  let x := s.dsf[c]
  if x.st = .aligned then
    ((s.dsfMove c { x with st := .coast, planned := false, deliver := false, ctrl := false }).mapLost c).startTimer (T.coast c.val)
  else s

/-- The receive chain leaves HELD (R160). -/
def State.dsfLight (s : State) (c : Chan) : State :=
  let x := s.dsf[c]
  if x.st = .coast ∧ ¬ x.planned then (s.dsfMove c { x with st := .verify, run := 0 }).stopTimer (T.coast c.val) else s

/-! ### Marks (R176-R178) -/

/-- A mark of the thatch map. -/
inductive Mark where
  | mine | others | dark
deriving DecidableEq, Repr

/-- An entry covers group `g` of the multiframe (R172). -/
def entryCovers (e : MapEntry) (g : Nat) : Bool := decide (e.start ≤ g) && decide (g < e.start + e.count)

/-- Fragments and lit groups with this ID are for the terminal (R176, R187). -/
def State.hears (s : State) (id : Nat) : Bool :=
  decide (id = 0xFFF) || decide (s.act.tid.map BitVec.toNat = some id) ||
    (List.range 4).any (fun n => s.bit (F.DSF_LISTEN_EN n) && decide (s.fld (F.DSF_LISTEN_ID n) = id))

/-- The mark of group `g` of the multiframe in progress. -/
def State.markOf (s : State) (c : Chan) (g : Nat) : Mark :=
  let x := s.dsf[c]
  match x.map with
  | .unknown => .mine
  | .darkTail => .dark
  | .valid =>
    let on := x.entries.filter (fun e => entryCovers e g)
    if on.any (fun e => decide (e.kind = 1)) then .dark
    else if on.any (fun e => decide (e.kind = 0) && s.hears e.addr.toNat) then .mine
    else .others

/-- The group of the multiframe at which the next frame begins, or group `g` of the frame in progress. -/
def Dsf.place (x : Dsf) (next : Bool) (g : Nat) : Nat := ((x.mfIdx.getD 0 + b2n next) % 16) * 250 + g

/-! ### Codewords (R181, R183, R184, R192) -/

/-- A codeword has been decoded. -/
def State.countCw (s : State) (c : Chan) (w : CwResult) : State :=
  let n := c.val
  let s0 := s.setDsf c { s.dsf[c] with berAll := (s.dsf[c]).berAll + 1 }
  let s1 := s0.bump64 (R.DSF_CNT_CW_LO n) (R.DSF_CNT_CW_HI n) 1
  if w.uncorr then (s1.bump (R.DSF_CNT_CW_UNCORR n)).dsfEvent c E.DSF_UNCORR
  else
    let s2 := if w.syms = 0 then s1 else s1.bump (R.DSF_CNT_CW_CORR n)
    let s3 := s2.bump64 (R.DSF_CNT_SYM_CORR_LO n) (R.DSF_CNT_SYM_CORR_HI n) w.syms
    let s4 := s3.bump64 (R.DSF_CNT_BIT_CORR_LO n) (R.DSF_CNT_BIT_CORR_HI n) w.bits
    let x := s4.dsf[c]
    s4.setDsf c { x with berBits := x.berBits + w.bits, berCws := x.berCws + 1 }

/-- The codewords of a group. -/
def State.countCws (s : State) (c : Chan) (ws : List CwResult) : State :=
  ws.foldl (fun (t : State) (w : CwResult) => t.countCw c w) s

/-- No codeword is uncorrectable. -/
def wholeGroup (ws : List CwResult) : Bool := ws.all (fun w => !w.uncorr)

/-! ### Headers (R151, R167-R175, R188, R190) -/

/-- The header passes every check of R151 but that of CHAN. -/
def headerReads (ws : List CwResult) (h : FrameHdr) : Bool :=
  wholeGroup ws && h.syncOk && h.hcrcOk && decide (h.ver = 3)

/-- The header is valid (R151). -/
def headerValid (c : Chan) (ws : List CwResult) (h : FrameHdr) : Bool := headerReads ws h && decide (h.chan.toNat = c.val)

/-- CHAN_MISMATCH (R152). -/
def State.chanCheck (s : State) (c : Chan) (ws : List CwResult) (h : FrameHdr) : State :=
  if headerReads ws h ∧ h.chan.toNat ≠ c.val then s.dsfEvent c E.DSF_CHAN_MISMATCH else s

/-- From the first symbol of the sync word at the pins to the end of group 0 at the deframer, in 2^-16 ns: 12,800 symbols and the
848 of R104. -/
def headerAge : Nat := 34938880

/-- FRAME_CNT is accepted (R165, R167-R169). -/
def State.acceptFc (s : State) (c : Chan) (f : Nat) : State :=
  let x := s.dsf[c]
  let s1 := s.setDsf c { x with fc := some f, since := 0, fresh := false, seed := f, past := (f :: x.past.drop 1).take 8,
                                times := ((f, s.clock.line - headerAge) :: x.times).take 16 }
  match x.fc with
  | none => s1
  | some l =>
    let s2 := if ¬ x.fresh ∧ f ≠ (l + x.since) % 2 ^ 48 then
      (s1.bump (R.DSF_CNT_FC_JUMP c.val)).dsfEvent c E.DSF_FC_JUMP else s1
    let d := (f + 2 ^ 48 - l) % 2 ^ 48
    if d = 0 ∨ 2 ^ 47 ≤ d then
      ((s2.bump (R.DSF_CNT_FC_BACK c.val)).dsfEvent c E.DSF_FC_BACK).spendChannel c 1
    else s2

/-- MF_IDX of a valid header (R170, R171). -/
def State.mfHeader (s : State) (c : Chan) (m : Nat) : State :=
  let x := s.dsf[c]
  if x.mfIdx = some m then
    (if x.mfAl then s else s.setDsf c { x with mfAl := true, secs := [], said := none, lastSec := 0, bad := false })
  else if x.mfAl then
    ((s.setDsf c { x with mfAl := false, mfIdx := some m }).dsfEvent c E.DSF_MF_MISMATCH).mapLost c
  else s.setDsf c { x with mfIdx := some m }

/-- The label of a valid header (R188). -/
def State.pslHeader (s : State) (c : Chan) (v : Nat) : State :=
  let x := s.dsf[c]
  let run := if x.pslRun ≠ 0 ∧ x.pslCand = v then x.pslRun + 1 else 1
  let s1 := s.setDsf c { x with pslCand := v, pslRun := min run 3 }
  if run < 3 ∨ x.psl = some v then s1
  else
    let s2 := s1.setDsf c { s1.dsf[c] with psl := some v }
    if v = s.fld F.DSF_PSL_CFG_PSL_EXP then s2.tribAis c false
    else if v = 0xFF then (s2.dsfEvent c E.DSF_AIS).tribAis c true
    else if v = 0xFE then s2.tribAis c false
    else (s2.dsfEvent c E.DSF_PSL_MISMATCH).tribAis c false

/-- A map section of a valid header (R174, R175). -/
def State.mapSection (s : State) (c : Chan) (h : FrameHdr) : State :=
  let x := s.dsf[c]
  if ¬ x.mfAl ∨ ¬ h.secValid then s
  else
    let i := h.secIdx.toNat
    let said := (h.mapLast.toNat, h.darkTail.toNat)
    let twice : Bool := match x.secs.find? (fun (e : Nat × List MapEntry) => decide (e.1 = i)) with
      | some e => decide (e.2 ≠ h.entries)
      | none => false
    let other : Bool := match x.said with
      | some y => decide (y ≠ said)
      | none => false
    s.setDsf c { x with secs := if twice = true then x.secs else mapIns x.secs i h.entries, said := x.said.or (some said),
                        lastSec := h.mapLast.toNat, bad := x.bad || twice || other || decide (h.mapLast.toNat < i) }

/-- HEAD_ID of a valid header in ALIGNED (R190). -/
def State.headHeader (s : State) (c : Chan) (v : Nat) : State :=
  let x := s.dsf[c]
  let s1 := s.setDsf c { x with head := some v }
  match x.head with
  | some o => if o = v then s else (s1.dsfEvent c E.DSF_HEAD_CHANGE).headChange c
  | none => s1

/-- What every valid header does, on the grid or not: MF_IDX of CHn_HDR, the label (R151, R188, R191). -/
def State.seenHeader (s : State) (c : Chan) (h : FrameHdr) : State :=
  (s.setDsf c { s.dsf[c] with hdrMf := h.mfIdx.toNat }).pslHeader c h.psl.toNat

/-- A valid header in ALIGNED is taken. -/
def State.goodHeader (s : State) (c : Chan) (h : FrameHdr) : State :=
  let s1 := ((s.acceptFc c h.frameCnt.toNat).mfHeader c h.mfIdx.toNat).seenHeader c h
  (s1.mapSection c h).headHeader c h.headId.toNat

/-! ### The search (R157-R159) -/

/-- A window that differs from the sync word in `diff` bits may become a candidate (R157). -/
def State.newCandidate (s : State) (c : Chan) (pos diff : Nat) : State :=
  let x := s.dsf[c]
  if (x.st = .hunt ∨ x.st = .confirm) ∧ (s.rx[c]).st = .track ∧ diff ≤ s.fld F.DSF_ALIGN_CTL_SYNC_TOL ∧ x.cands.length < 4 ∧
      ¬ x.cands.any (fun k => decide (k.pos = pos)) then
    s.setDsf c { x with cands := x.cands ++ [⟨pos, 0, 0⟩] }
  else s

/-- A candidate is dropped; without a confirmed candidate the search is in HUNT. -/
def State.dropCandidate (s : State) (c : Chan) (pos : Nat) : State :=
  let x := s.dsf[c]
  let rest := x.cands.filter (fun k => decide (k.pos ≠ pos))
  let y := { x with cands := rest, st := if rest.any (fun k => decide (0 < k.conf)) then x.st else .hunt }
  (s.dsfMove c y).countDropped c 1

/-- The header of a candidate is checked (R158-R160): group 0 at the place of the candidate. A valid header with a FRAME_CNT out of
sequence still shows its MF_IDX and its label (R188, R191). -/
def State.candHeader (s : State) (c : Chan) (ws : List CwResult) (h : FrameHdr) : State :=
  let x := s.dsf[c]
  match x.cands.find? (fun k => decide (k.pos = h.pos)) with
  | none => s
  | some k =>
    let s1 := (s.countCws c ws).chanCheck c ws h
    let y := s1.dsf[c]
    let f := h.frameCnt.toNat
    if ¬ headerValid c ws h then s1.dropCandidate c h.pos
    else if 0 < k.conf ∧ f ≠ (k.fc + 1) % 2 ^ 48 then (s1.seenHeader c h).dropCandidate c h.pos
    else if s.fld F.DSF_ALIGN_CTL_N_CONFIRM ≤ k.conf + 1 then
      let z := { y with st := .aligned, planned := false, cands := [], run := 0, grid := h.pos, grp := 0, grpOk := true, grpDead := true, past := [],
                        deliver := false, ctrl := false, mfAl := false, mfIdx := none }
      (((s1.dsfMove c z).countDropped c (x.cands.length - 1)).dsfEvent c E.DSF_REALIGNED).goodHeader c h
    else
      let z := { y with st := .confirm, cands := y.cands.map (fun e => if e.pos = h.pos then ⟨e.pos, k.conf + 1, f⟩ else e) }
      (s1.dsfMove c z).seenHeader c h

/-! ### The grid (R160-R164) -/

/-- The grid passes to the next frame, whose FRAME_CNT is expected to be one more (R156, R162). -/
def Dsf.advance (x : Dsf) : Dsf :=
  { x with since := x.since + 1, seed := (x.seed + 1) % 2 ^ 48, past := ((x.seed + 1) % 2 ^ 48 :: x.past).take 8, mfIdx := x.mfIdx.map (fun i => (i + 1) % 16), grp := 0 }

/-- A group of a frame that R164 delivers is lost: the demapper is told (R183, R212). -/
def State.groupLost (s : State) (ok deliver : Bool) : State := if ok || !deliver then s else s.bump R.TRB_CNT_GRP_LOST

/-- An errored header in ALIGNED or VERIFY: the run grows, at M alignment is lost. -/
def State.badHeader (s : State) (c : Chan) (x : Dsf) (ok : Bool) : State :=
  let s1 := s.bump (R.DSF_CNT_HDR_ERR c.val)
  if s.fld F.DSF_ALIGN_CTL_M_LOSE ≤ x.run + 1 then (s1.setDsf c x).lossOfFrame c
  else
    (s1.setDsf c { x with run := min (x.run + 1) 15, grpOk := ok, grpDead := decide (x.st = .verify), deliver := decide (x.st = .aligned),
                          ctrl := false, mfIdx := if x.mfAl then x.mfIdx else none }).groupLost ok (decide (x.st = .aligned))

/-- Group 0 on the grid is decoded in ALIGNED. -/
def State.alignedHeader (s : State) (c : Chan) (ws : List CwResult) (h : FrameHdr) : State :=
  let x := (s.dsf[c]).advance
  if headerValid c ws h then
    (s.setDsf c { x with run := 0, grpOk := true, grpDead := false, deliver := true, ctrl := true }).goodHeader c h
  else s.badHeader c x (wholeGroup ws)

/-- The frame after the one in progress is expected to have the FRAME_CNT of the header. -/
def Dsf.expects (x : Dsf) (h : FrameHdr) : Bool :=
  match x.fc with | some l => decide (h.frameCnt.toNat = (l + x.since + 1) % 2 ^ 48) | none => false

/-- Group 0 is decoded in VERIFY: at the free-run place, or near it, where only a valid header with the expected FRAME_CNT counts
and moves the grid (R160; log entry 137). -/
def State.verifyHeader (s : State) (c : Chan) (ws : List CwResult) (h : FrameHdr) : State :=
  let x := (s.dsf[c]).advance
  let y := { x with st := .aligned, planned := false, run := 0, grid := h.pos, grpOk := true, grpDead := true, deliver := false,
                    ctrl := false }
  if h.offset = 0 then
    (if headerValid c ws h then (s.dsfMove c y).goodHeader c h else s.badHeader c x (wholeGroup ws))
  else if ¬ headerValid c ws h then s
  else if (s.dsf[c]).expects h then ((s.dsfMove c y).bump (R.DSF_CNT_REALIGN c.val)).goodHeader c h
  else s.seenHeader c h

/-- A group as its symbols give it, against the grid and the FRAME_CNT that the deframer expects for the frame (R154-R156). -/
def State.readLine (s : State) (c : Chan) (g : GroupRaw) : GroupIn :=
  let x := s.dsf[c]
  readGroup ((x.seed + b2n (decide (g.grp = 0))) % 2 ^ 48) x.grid g

/-- A group other than group 0 is decoded: one that is lost is told to the demapper (R183, R212). -/
def State.laterGroup (s : State) (c : Chan) (g : GroupIn) : State :=
  let x := s.dsf[c]
  let ok := wholeGroup g.cws
  (s.setDsf c { x with grp := g.grp, grpOk := ok, grpDead := false }).groupLost ok x.deliver

/-- The place of a group belongs to the grid (R145, R160): in VERIFY group 0 may stand up to VERIFY_WIN symbols off; a candidate has
its own place. -/
def State.onGrid (s : State) (c : Chan) (g : GroupIn) : Bool :=
  let x := s.dsf[c]
  let d := (lineOffset (x.grid + g.grp * groupSyms) g.at_).natAbs
  match x.st with
  | .hunt => true
  | .confirm => true
  | .verify => decide (d ≤ if g.grp = 0 then s.fld F.DSF_ALIGN_CTL_VERIFY_WIN else 0)
  | _ => decide (d = 0)

/-- The information stream of a group that has been decoded on the grid is kept for its fragments, from its first payload byte on
(R185), and of group 0 the message slots with CTRL_USED (R147, R149). -/
def State.keepStream (s : State) (c : Chan) (g : GroupIn) : State :=
  let x := s.dsf[c]
  match g.hdr with
  | some h => s.setDsf c { x with info := g.info, at_ := 2187, slots := slice g.info 456 1728, used := h.used }
  | none => s.setDsf c { x with info := g.info, at_ := 0 }

/-- The deframer decodes a group (R162, R180, R182): not in OFF, not while the chain dozes, not a DARK group, not off the grid. -/
def State.takesGroup (s : State) (c : Chan) (g : GroupIn) : Bool :=
  let x := s.dsf[c]
  decide (x.st ≠ .off) && decide ((s.rx[c]).st ≠ .doze) &&
    decide (s.markOf c (x.place (decide (g.grp = 0)) g.grp) ≠ .dark) && s.onGrid c g

/-- A group is decoded (R182). -/
def State.groupDecode (s : State) (c : Chan) (g : GroupIn) : State :=
  if s.takesGroup c g = false then s
  else
    match (s.dsf[c]).st, g.hdr with
    | .hunt, some h => (s.candHeader c g.cws h).keepStream c g
    | .confirm, some h => (s.candHeader c g.cws h).keepStream c g
    | .aligned, some h => (((s.countCws c g.cws).chanCheck c g.cws h).alignedHeader c g.cws h).keepStream c g
    | .verify, some h => (((s.countCws c g.cws).chanCheck c g.cws h).verifyHeader c g.cws h).keepStream c g
    | .hunt, none => s
    | .confirm, none => s
    | .coast, some _ => s.countCws c g.cws
    | .off, _ => s
    | _, none => ((s.countCws c g.cws).laterGroup c g).keepStream c g

/-- GROUP_DECODE: the group is read from its symbols (R146, R155, R156), then decoded; the trims of a calibration step have taken effect
at its boundary (R139). -/
def State.decodeLine (s : State) (c : Chan) (g : GroupRaw) : State :=
  let s1 := s.trimsIn c
  s1.groupDecode c (s1.readLine c g)

/-! ### The map of a multiframe (R175, R177, R179) -/

/-- No entry is reserved or runs past the multiframe, no group is both dark and lit, and a dark tail follows a dark group 3,999. -/
def mapOk (es : List MapEntry) (tail : Nat) : Bool :=
  let on := es.filter (fun e => decide (e.count ≠ 0))
  let dark := on.filter (fun e => decide (e.kind = 1))
  let lit := on.filter (fun e => decide (e.kind = 0))
  on.all (fun e => decide (e.kind.toNat < 2) && decide (e.start + e.count ≤ 4000)) &&
    dark.all (fun d => lit.all (fun l => decide (d.start + d.count ≤ l.start) || decide (l.start + l.count ≤ d.start))) &&
    (decide (tail = 0) || dark.any (fun d => entryCovers d 3999))

/-- The map that was gathered, with its DARK_TAIL, if it is VALID. -/
def Dsf.gathered (x : Dsf) : Option (List MapEntry × Nat) :=
  match x.said with
  | none => none
  | some (last, tail) =>
    let es := (x.secs.map Prod.snd).flatten
    if x.bad ∨ ¬ (List.range (last + 1)).all (fun i => (mapKeys x.secs).contains i) ∨ ¬ mapOk es tail then none
    else some (es.filter (fun e => decide (e.count ≠ 0)), tail)

/-- Dark groups from group `g` of the multiframe in progress on; a span that reaches the end of it goes on through a dark tail
(R177). -/
def State.darkSpan (s : State) (c : Chan) (g : Nat) : Nat :=
  let n := ((List.range (4000 - g)).takeWhile (fun i => decide (s.markOf c (g + i) = .dark))).length
  if g + n = 4000 then n + 4000 * (s.dsf[c]).tail else n

/-- A planned hold whose dark span reaches the multiframe that begins goes on through its dark groups. -/
def State.extendHold (s : State) (c : Chan) : State :=
  let x := s.rx[c]
  if x.st = .held ∧ x.planned ∧ ¬ x.armed ∧ ¬ x.openS ∧ (x.start + x.span) % 4000 = 0 then
    s.setRx c { x with span := x.span + s.darkSpan c 0 }
  else s

/-- A multiframe begins: its map is judged. -/
def State.multiframeStart (s : State) (c : Chan) : State :=
  let x := s.dsf[c]
  let fresh := { x with secs := [], said := none, lastSec := 0, bad := false }
  if ¬ x.mfAl ∨ x.mfIdx ≠ some 15 then s
  else if 0 < x.tail then s.setDsf c { fresh with map := .darkTail, entries := [], tail := x.tail - 1 }
  else
    match x.gathered with
    | some (es, tail) => (s.setDsf c { fresh with map := .valid, entries := es, tail := tail }).extendHold c
    | none =>
      let s1 := ((s.setDsf c fresh).mapLost c).bump (R.DSF_CNT_MAP_LOST c.val)
      if x.map = .unknown then s1 else s1.dsfEvent c E.DSF_MAP_LOST

/-! ### The measured bit-error ratio (R184) -/

/-- A ratio as MANT × 10^-EXP, MANT 1-9, EXP 1-15: the mantissa nearest to the ratio at the smallest EXP that leaves it 1 or more; none
where the ratio has no such form. -/
def ratioCode (num den : Nat) : Option (Nat × Nat) :=
  match (List.range 15).find? (fun i => decide (den ≤ num * 10 ^ (i + 1))) with
  | none => none
  | some i =>
    let m := (2 * num * 10 ^ (i + 1) + den) / (2 * den)
    if m ≤ 9 then some (m, i + 1) else if m = 10 ∧ 0 < i then some (1, i) else none

/-- MANT and EXP from a free word: 1-9 and 1-15 (log entry 138). -/
def freeRatio (w : Word) : Nat × Nat := (w.toNat % 9 + 1, w.toNat / 16 % 15 + 1)

/-- The ratio in the form of CHn_BER; free values where it has no such form. -/
def State.berRatio (s : State) (num den : Nat) : (Nat × Nat) × State :=
  match (if den = 0 then none else ratioCode num den) with
  | some r => (r, s)
  | none => (freeRatio s.freeVal.1, s.freeVal.2)

/-- A second of 8,000 frames ends (R184): the ratio over the correctable codewords, valid from 1,000 codewords decoded on. -/
def State.berSecond (s : State) (c : Chan) : State :=
  let x := s.dsf[c]
  let den := x.berCws * 6400
  let s1 := s.setDsf c { x with berBits := 0, berCws := 0, berAll := 0 }
  let cm := s.fld F.DSF_BER_CFG_MANT
  let ce := s.fld F.DSF_BER_CFG_EXP
  let (r, s2) := s1.berRatio x.berBits den
  let high := if den = 0 then decide (cm * 10 ^ r.2 ≤ r.1 * 10 ^ ce) else decide (cm * den ≤ x.berBits * 10 ^ ce)
  let s3 := s2.wr (R.DSF_CH_BER c.val) (BitVec.ofNat 32 (r.1 + r.2 * 2 ^ 8 + b2n (decide (1000 ≤ x.berAll)) * 2 ^ 12))
  let s4 := s3.setDsf c { s3.dsf[c] with berHigh := high }
  if high ∧ ¬ x.berHigh then s4.dsfEvent c E.DSF_BER_HIGH else s4

/-! ### Fragments (R185-R189, R308, R309) -/

/-- The CRC-16 of a fragment header, over bits [63:16] (R185). -/
def hecOf (h : BitVec 64) : Nat := crc16 (bitsBE 48 (h.toNat / 2 ^ 16))

/-- The packets in reassembly on channel `c`. -/
def State.setReasm (s : State) (c : Chan) (m : SMap Reasm) : State := s.setDsf c { s.dsf[c] with reasm := m }

/-- The data of a fragment of a packet pass the decryptor: a packet that is whole crosses the Seam to the parser (R13, R187). -/
def State.joinFragment (s : State) (c : Chan) (tid : Nat) (sop eop : Bool) (data : List Byte) (stamp : Nat) : State :=
  let m := (s.dsf[c]).reasm
  let cur : Reasm :=
    if sop then ⟨data, stamp, s.tim.steps, false⟩
    else
      match m.find? (fun e => decide (e.1 = tid)) with
      | some e => if e.2.bad then e.2 else { e.2 with data := e.2.data ++ data }
      | none => ⟨[], 0, 0, true⟩
  if ¬ eop then s.setReasm c (mapIns m tid cur)
  else
    let s1 := s.setReasm c (mapDel m tid)
    if cur.bad ∨ s.seam.phase ≠ .up then s1
    else s1.enterPath { src := 56 + c.val, len := cur.data.length, data := cur.data, stamp := cur.stamp, steps := cur.steps }

/-- A fragment of a packet is discarded under R308, and with it the packet (R309). -/
def State.spoilPacket (s : State) (c : Chan) (tid : Nat) (eop : Bool) : State :=
  let m := (s.dsf[c]).reasm
  s.setReasm c (if eop then mapDel m tid else mapIns m tid ⟨[], 0, 0, true⟩)

/-- A packet fragment goes to the link cipher (R306, R308). -/
def State.packetFragment (s : State) (c : Chan) (h : BitVec 64) (f : FragIn) : State :=
  let tid := fragField h 48 12
  match s.decrypt c (decide (s.act.tid.map BitVec.toNat = some tid)) h ((s.downFrame c).getD 0) f.body with
  | (some data, s1) => s1.joinFragment c tid (h.getLsbD 17) (h.getLsbD 16) data f.stamp
  | (none, s1) => s1.spoilPacket c tid (h.getLsbD 16)

/-- A fragment that is for the terminal: the group must be whole (R183), the accepted label must let payload pass (R188). -/
def State.takeFragment (s : State) (c : Chan) (h : BitVec 64) (f : FragIn) : State :=
  let x := s.dsf[c]
  let disc := s.bump (R.DSF_CNT_FRAG_DISC c.val)
  let pass := fun (t : State) =>
    if h.toNat / 2 ^ 60 = 1 then t.packetFragment c h f
    else if h.getLsbD 19 then t.bump R.TRB_CNT_FRAG_BAD
    else t.setFrags c (t.tfrags[c] ++ [f.body])
  if ¬ x.grpOk then disc
  else
    match x.psl with
    | none => pass s
    | some v =>
      if v = s.fld F.DSF_PSL_CFG_PSL_EXP then pass s
      else if v = 0xFF then disc
      else if v = 0xFE then s
      else if s.bit F.DSF_PSL_CFG_BLOCK then disc else pass s

/-- The rest of the group is discarded (R186). -/
def State.dropRest (s : State) (c : Chan) (k : Nat) : State := (s.setDsf c { s.dsf[c] with grpDead := true }).bump k

/-- The next fragment header of the group is read (R185-R187), from the place where the last fragment ended; fewer than 8 bytes
are fill. The first fragment of a frame carries out a roll (R320). -/
def State.fragmentReceive (s : State) (c : Chan) (stamp : Nat) : State :=
  let x := s.dsf[c]
  let h := fragHeader x.info x.at_
  let type := h.toNat / 2 ^ 60
  if ¬ x.deliver ∨ x.grpDead ∨ s.markOf c (x.place false x.grp) ≠ .mine ∨ x.info.length < x.at_ + 8 then s
  else if hecOf h ≠ h.toNat % 2 ^ 16 then s.dropRest c (R.DSF_CNT_HEC_ERR c.val)
  else if x.info.length < x.at_ + 8 + fragLen h then s.dropRest c (R.DSF_CNT_FRAG_DISC c.val)
  else
    let s1 := s.setDsf c { x with at_ := x.at_ + 8 + fragLen h }
    let s2 := if x.grpOk then s1.rollDown c ((s.downFrame c).getD 0) else s1
    if (type = 1 ∨ type = 2) ∧ s.hears (h.toNat / 2 ^ 48 % 2 ^ 12) then
      s2.takeFragment c h ⟨slice x.info (x.at_ + 8) (fragLen h), stamp⟩
    else s2

/-! ### Registers -/

/-- CHn_STAT.STATE as a number. -/
def DsSt.num : DsSt → Nat
  | .off => 0 | .hunt => 1 | .confirm => 2 | .aligned => 3 | .coast => 4 | .verify => 5

/-- The computed registers of page DSF. -/
def readDSF (s : State) (o : Nat) : Option Word :=
  if o < 0x100 ∨ 0x300 ≤ o then none
  else
    let c : Chan := Fin.ofNat 4 ((o - 0x100) / 0x80)
    let x := s.dsf[c]
    let i := (o - 0x100) % 0x80
    if i = 0x00 then
      some ((s.rd (R.DSF_CH_STAT c.val)) ||| BitVec.ofNat 32 (x.st.num + b2n x.mfAl * 2 ^ 3 +
        (match x.map with | .unknown => 0 | .valid => 1 | .darkTail => 2) * 2 ^ 4 + x.cands.length * 2 ^ 6 + b2n x.planned * 2 ^ 9 +
        x.run * 2 ^ 10))
    else if i = 0x04 then some (BitVec.ofNat 32 ((s.downFrame c).getD 0))
    else if i = 0x08 then some (BitVec.ofNat 32 (s.fld (F.DSF_CH_FC_HI_FC c.val) + b2n x.fc.isSome * 2 ^ 31))
    else if i = 0x0C then some (BitVec.ofNat 32 (x.hdrMf + x.psl.getD 0 * 2 ^ 8 + x.head.getD 0 * 2 ^ 16))
    else if i = 0x10 then
      some (BitVec.ofNat 32 (x.lastSec + (mapKeys x.secs).foldl (fun n k => n + 2 ^ k) 0 * 2 ^ 4 + x.tail * 2 ^ 20))
    else none

/-- A read of CHn_FC_LO latches CHn_FC_HI. -/
def State.latchFc (s : State) (c : Chan) : State := s.setFld (F.DSF_CH_FC_HI_FC c.val) ((s.downFrame c).getD 0 / 2 ^ 32)

/-- A write of CHn_CMD (R168, R313). -/
def State.opChCmd (s : State) (c : Chan) (v : Word) : State :=
  if v.getLsbD 0 then (s.setDsf c { s.dsf[c] with fc := none, since := 0 }).spendChannel c 2 else s

/-! ### Commands -/

/-- SYNC_CANDIDATE (R157): the 64 bits from symbol place `pos` on. -/
def execSyncCandidate (c : Chan) (pos : Nat) (window : BitVec 64) (s : State) : Res :=
  if 3200000 ≤ pos then .fault .illFormed else .next (s.newCandidate c pos (syncDiff window))

/-- GROUP_DECODE (R145-R160, R180-R184). -/
def execGroupDecode (c : Chan) (g : GroupRaw) (s : State) : Res :=
  if ¬ groupWf g then .fault .illFormed else .next (s.decodeLine c g)

/-- PLANNED_COAST (R160, R162): group 0 of the next frame is DARK. -/
def execPlannedCoast (c : Chan) (s : State) : Res :=
  let x := s.dsf[c]
  .next (if x.st = .aligned ∧ s.markOf c (x.place true 0) = .dark then
    s.dsfMove c { x.advance with st := .coast, planned := true, grpOk := false, grpDead := true, deliver := true, ctrl := false }
  else s)

/-- COAST_END (R160): the planned dark span ends, at group `g`, the first that is not DARK; group 0 is that of the next frame. -/
def execCoastEnd (c : Chan) (g : Fin 250) (s : State) : Res :=
  let x := s.dsf[c]
  .next (if x.st = .coast ∧ x.planned ∧ s.markOf c (x.place (decide (g.val = 0)) g.val) ≠ .dark then
    if (s.rx[c]).mismatch then
      s.dsfMove c { x with st := .verify, planned := false, run := 0, deliver := false, grpDead := true }
    else s.dsfMove c { x with st := .aligned, planned := false, run := 0 }
  else s)

/-- COAST_LIMIT (R160). -/
def execCoastLimit (c : Chan) (s : State) : Res :=
  .next (if (s.dsf[c]).st = .coast ∧ ¬ (s.dsf[c]).planned then (s.dsfEvent c E.DSF_COAST_LIMIT).lossOfFrame c else s)

/-- COAST_FRAME_ADVANCE (R162). -/
def execCoastFrameAdvance (c : Chan) (s : State) : Res :=
  let x := s.dsf[c]
  .next (if x.st = .coast then
    s.setDsf c { x.advance with grpOk := false, grpDead := true, deliver := x.planned, ctrl := false }
  else s)

/-- MULTIFRAME_START (R175, R177, R179). -/
def execMultiframeStart (c : Chan) (s : State) : Res := .next (s.multiframeStart c)

/-- BER_SECOND (R184). -/
def execBerSecond (c : Chan) (s : State) : Res := .next (s.berSecond c)

/-- FRAGMENT_RECEIVE (R185-R189): the first byte of what it belongs to came in at `stamp`, in 1/16 ns (R529). -/
def execFragmentReceive (c : Chan) (stamp : Nat) (s : State) : Res := .next (s.fragmentReceive c stamp)

/-- FC_FORGET (R168, R313). -/
def execFcForget (r : Req) (c : Chan) (s : State) : Res :=
  .next (s.access r (R.DSF_CH_CMD c.val) true (fun t => t.opChCmd c 1))

/-- FC_READ_LATCH (R645): a read of CHn_FC_LO. -/
def execFcReadLatch (r : Req) (c : Chan) (s : State) : Res :=
  .next (s.readAccess r (R.DSF_CH_FC_LO c.val) true ((readDSF s (0x104 + c.val * 0x80)).getD 0) (fun t => t.latchFc c))

end Sys2Proof.Machine
end

