-- ==== Sys2Proof/Machine/Receiver.lean ====
section
/-! DEFINITION. Chapter 4: the receive chains (R104-R143). -/

namespace Sys2Proof.Machine

open Sys2Proof

/-! ### States (R109) -/

/-- The line symbols that pass in 1 ns are 25.6: a number of symbols in ns, rounded down. -/
def symNs (n : Nat) : Nat := n * 5 / 128

/-- The ADC of a planned hold is on at the first symbol of dark group `k` (R128): in the noise window of R135, in the time LEAD before
it, or in a calibration step. -/
def State.adcOn (s : State) (c : Chan) (k : Nat) : Bool :=
  let x := s.rx[c]
  let mid := x.span * (groupSyms / 2)
  let half := 2 ^ (s.fld (F.LRX_LQ_CFG_NF_WIN c.val) - 1)
  x.calGrps.contains k ||
    (s.bit (F.LRX_RX_CTL_NF_EN c.val) && decide (2 ≤ x.span) &&
      decide (mid ≤ k * groupSyms + half + s.fld (F.LRX_DOZE_CFG_LEAD c.val)) && decide (k * groupSyms < mid + half))

/-- Of the first `n` dark groups of a planned hold, those whose first symbol came with the ADC gated (R128, R142). -/
def State.gatedGroups (s : State) (c : Chan) (n : Nat) : Nat := (List.range n).countP (fun k => !s.adcOn c k)

/-- A planned hold or a doze that ends before its time counts the groups that began gated in it; one whose arm window has opened has
counted them. -/
def State.countGated (s : State) (c : Chan) : State :=
  let x := s.rx[c]
  let k := R.LRX_CNT_DOZE_GRP c.val
  if x.st = .doze then s.bumpBy k (groupsBegun x.span (s.clock.mono - x.dozeAt))
  else if x.st = .held ∧ x.planned ∧ ¬ x.armed ∧ ¬ x.openS then
    s.bumpBy k (s.gatedGroups c (groupsBegun x.span (s.clock.mono - x.ageFrom)))
  else s

/-- The chain goes to OFF, and keeps the held state and its age (R109, R275); its NCO stops, and with it a burst in progress (R270). -/
def State.rxOff (s : State) (c : Chan) : State :=
  if (s.rx[c]).st = .off then s
  else
    let s0 := s.countGated c
    let s1 := s0.setRx c { s0.rx[c] with st := .off, planned := false, armed := false, openS := false, lock := false, frozen := false,
                                         past := [] }
    ((s1.dsfOff c).cutBurst c).discardGrants c

/-- The chain goes from OFF to WAIT_LIGHT with the trained defaults; a pass of calibration goes on under the waiting policy
(R109, R140). -/
def State.rxOn (s : State) (c : Chan) : State :=
  let x := s.rx[c]
  if x.st ≠ .off ∨ s.pwr.limp then s
  else
    let s1 := s.setRx c { x with st := .waitLight, planned := false, armed := false, openS := true, lock := false, cur := x.dflt,
                                 cal := if x.cal = .running then .waiting else x.cal }
    (s1.dsfOn c).discardGrants c

/-- A write of RX_CTL. -/
def State.opRxCtl (s : State) (c : Chan) (v : Word) : State :=
  let s1 := s.store (R.LRX_RX_CTL c.val) v
  if s1.bit (F.LRX_RX_CTL_ENABLE c.val) then s1.rxOn c else s1.rxOff c

/-- A chain event, at the device time of the line die. -/
def State.rxEvent (s : State) (c : Chan) (b : Nat) : State := s.fire c.val b

/-- The chain enters ACQUIRE, training from the trained defaults or from the state that it has (R109, R118). The CTLE searches from
there, or takes CTLE_FIX with CTLE_HOLD; a gain that a detection froze stays (R125). -/
def State.acquire (s : State) (c : Chan) (defaults : Bool) : State :=
  let x := s.rx[c]
  let a := if defaults then x.dflt else x.cur
  let b : Adapt := if s.bit (F.LRX_EQ_CFG_CTLE_HOLD c.val) then
    { a with ctle := BitVec.ofNat 4 (s.fld (F.LRX_EQ_CFG_CTLE_FIX c.val)) } else a
  s.setRx c { x with st := .acquire, planned := false, armed := false, openS := false, lock := false, past := [],
                     cur := if x.frozen then { b with agc := x.cur.agc } else b }

/-- The fast AGC freezes at a gain (R125). -/
def State.freeze (s : State) (c : Chan) (gain : Nat) : State :=
  s.setRx c { s.rx[c] with frozen := true, cur := { (s.rx[c]).cur with agc := gain } }

/-- The age of the held state is above 10 ms (R116). -/
def State.ageOver (s : State) (c : Chan) : Bool := decide ((s.rx[c]).ageFrom + 10000000 < s.clock.mono)

/-- PRE_LAST. -/
def State.preLast (s : State) (c : Chan) (peak : Nat) (offset : Int) (openS sim : Bool) : State :=
  let sat := (max (-128) (min 127 offset)).toNat + (if offset < 0 then (256 - (min 128 offset.natAbs)) else 0)
  s.wr (R.LRX_PRE_LAST c.val) (BitVec.ofNat 32 (peak + sat * 2 ^ 8 + b2n openS * 2 ^ 16 + b2n sim * 2 ^ 17))

/-- A detection is counted, and raised with the device time `t` at which the last correlation symbol ended at the pins (R123). -/
def State.detected (s : State) (c : Chan) (t : Nat) : State :=
  (s.bump (R.LRX_CNT_DETECT c.val)).fireWith c.val E.LRX_DETECT false t

/-- The frame grid moves by an offset at the re-entry (R122). -/
def State.slipGrid (s : State) (c : Chan) (offset : Int) : State :=
  let x := s.dsf[c]
  s.setDsf c { x with grid := ((x.grid + offset) % frameSyms).toNat }

/-- A detection moves the chain out of HELD: the grid slips or not, and the age decides what it trains from (R109, R122). -/
def State.leaveHeld (s : State) (c : Chan) (offset : Int) (t : Nat) : State :=
  let n := c.val
  let s1 := (s.countGated c).detected c t
  let s2 :=
    if offset = 0 then s1
    else if offset.natAbs ≤ s.fld (F.LRX_PRE_CFG_SLIP n) then
      ((s1.slipGrid c offset).bump (R.LRX_CNT_SLIP n)).rxEvent c E.LRX_GRID_SLIP
    else (s1.setRx c { s1.rx[c] with mismatch := true }).rxEvent c E.LRX_GRID_MISMATCH
  let s3 := if s.ageOver c then (s2.bump (R.LRX_CNT_DEFAULTS n)).rxEvent c E.LRX_DEFAULTS_USED else s2
  (s3.acquire c (s.ageOver c)).dsfLight c

/-- The detector decides (R109, R120-R125): it fires where the peak reaches THR and it is in open search or armed, from HALF symbols
before the expected place to HALF after it; the fast AGC freezes at `gain`. `t` is the stamp of R123. -/
def State.detect (s : State) (c : Chan) (offset : Int) (peak gain t : Nat) : State :=
  let x := s.rx[c]
  if peak < s.fld (F.LRX_PRE_CFG_THR c.val) then s
  else
    match x.st with
    | .waitLight => (((s.preLast c peak 0 true false).detected c t).freeze c gain).acquire c true
    | .held =>
      if x.openS then ((s.preLast c peak 0 true false).freeze c gain).leaveHeld c 0 t
      else if x.armed ∧ offset.natAbs ≤ s.fld (F.LRX_ARM_CFG_HALF c.val) then
        ((s.preLast c peak offset false false).freeze c gain).leaveHeld c offset t
      else s
    | _ => s

/-- The adaptive state that the chain had at time `t`: the oldest of the states that blocks have replaced since, or the present one
(R114). -/
def Rx.stateAt (x : Rx) (t : Nat) : Adapt := ((x.past.filter (fun e => decide (t < e.1))).getLast?).elim x.cur Prod.snd

/-- The adaptive state changes in TRACK; what it was is kept for the snapshot of an idle run, which is at most 160 ns long (R114). -/
def State.adapt (s : State) (c : Chan) (a : Adapt) : State :=
  let x := s.rx[c]
  s.setRx c { x with cur := a, past := (s.clock.mono, x.cur) :: x.past.filter (fun e => decide (s.clock.mono ≤ e.1 + 160)) }

/-- The chain enters an unplanned hold with the snapshot of time `at_`, at which its age began (R109, R114). -/
def State.holdNow (s : State) (c : Chan) (at_ : Nat) : State :=
  let x := s.rx[c]
  let s1 := s.setRx c { x with st := .held, planned := false, armed := false, openS := true, lock := false, ageFrom := at_,
                               mismatch := false, cur := x.stateAt at_, past := [] }
  ((s1.bump (R.LRX_CNT_FREEZE c.val)).rxEvent c E.LRX_FROZEN).dsfHold c

/-- The thatch map of the multiframe in progress is valid (R126, R129). -/
def State.mapValid (s : State) (c : Chan) : Bool := decide ((s.dsf[c]).map ≠ .unknown)

/-- The light of the channel is back: the LOS pin is low (DESIGN CHOICE, log entry 135). -/
def State.losLow (s : State) (c : Chan) : State := { s with pins := { s.pins with los := s.pins.los.set c false } }

/-- The training count has been reached (R109, R117, R125): in TRACK the slow AGC goes on from a gain that a detection froze; with
CTLE_HOLD the CTLE code is CTLE_FIX. -/
def State.trainEnd (s : State) (c : Chan) (locked : Bool) (a : Adapt) : State :=
  let x := s.rx[c]
  if x.st ≠ .acquire then s
  else if locked then
    let a1 : Adapt := if x.frozen then { a with agc := x.cur.agc } else a
    let b : Adapt := if s.bit (F.LRX_EQ_CFG_CTLE_HOLD c.val) then { a1 with ctle := x.cur.ctle } else a1
    ((s.losLow c).setRx c { x with cur := b, dflt := if x.defValid then x.dflt else b, defValid := true }).enterTrack c
  else ((s.bump (R.LRX_CNT_LOL c.val)).rxEvent c E.LRX_LOL).acquire c true

/-- LOS is asserted (R109): in TRACK and DOZE an unplanned hold, of the state at the first symbol of an idle run of `idle` symbols that
led up to it (R114, R116), at most 4,095; a doze is aged from its entry. -/
def State.losHigh (s : State) (c : Chan) (idle : Nat) : State :=
  let s1 := ({ s with pins := { s.pins with los := s.pins.los.set c true } }).rxEvent c E.LRX_LOS
  match (s.rx[c]).st with
  | .track => s1.holdNow c (s.clock.mono - symNs (min idle 4095))
  | .doze => (s1.countGated c).holdNow c (s.rx[c]).dozeAt
  | _ => s1

/-! ### Commands of ADAPT_CMD and CAL_CTL (R117, R123, R136-R140) -/

/-- A write of ADAPT_CMD. SIM_DETECT acts after LOAD_FACTORY and SAVE_DEF of the same write (DESIGN CHOICE, log entry 134); a gain that
the fast AGC sets is a free value of 0 to 30 dB (R125, log entry 136). -/
def State.opAdapt (s : State) (c : Chan) (v : Word) : State :=
  let x := s.rx[c]
  let s1 := if v.getLsbD 2 then s.setRx c { x with dflt := factorySet, defValid := false }
    else if v.getLsbD 1 ∧ x.st = .track then s.setRx c { x with dflt := x.cur, defValid := true } else s
  if v.getLsbD 0 ∧ x.st = .held then
    let (w, s2) := s1.freeVal
    let (g, s3) := s2.freeVal
    let s4 := s3.preLast c (w.toNat % 256) 0 x.openS true
    (s4.freeze c (if x.openS ∨ x.armed then g.toNat % 301 else x.cur.agc)).leaveHeld c 0 s.clock.line
  else s1

/-- A pass of calibration waits or runs. -/
def Rx.calBusy (x : Rx) : Bool := decide (x.cal = .waiting) || decide (x.cal = .running)

/-- A write of CAL_CTL. -/
def State.opCal (s : State) (c : Chan) (v : Word) : State :=
  let s1 := s.store (R.LRX_CAL_CTL c.val) v
  let x := s.rx[c]
  let s2 :=
    if ¬ v.getLsbD 0 ∨ x.calBusy then s1
    else if x.st = .off then s1.setRx c { x with cal := .running, calSteps := 0 }
    else if s1.bit (F.LRX_CAL_CTL_POLICY c.val) then (s1.setRx c { x with cal := .refused }).rxEvent c E.LRX_CAL_REFUSED
    else s1.setRx c { x with cal := .waiting, calSteps := 0 }
  if v.getLsbD 1 ∧ (s2.rx[c]).calBusy then s2.setRx c { s2.rx[c] with cal := .aborted } else s2

/-- Dark group `k` of a planned hold may take a calibration step (R136): no arm window has opened, it is not the last of the span, and
it has had no step. -/
def Rx.calGroup (x : Rx) (k : Nat) : Bool :=
  decide (x.st = .held) && x.planned && !x.armed && !x.openS && decide (k + 1 < x.span) && !x.calGrps.contains k

/-- A step of calibration ends (R136, R138, R139): in OFF, or in dark group `k` of a planned hold. Its trims wait for the next group
boundary; those of a step into which a symbol came are discarded. -/
def State.calStepEnd (s : State) (c : Chan) (k : Nat) (nonIdle : Bool) (trim : Word) : State :=
  let s1 := s.trimsIn c
  let x := s1.rx[c]
  if ¬ x.calBusy ∨ ¬ (x.st = .off ∨ x.calGroup k = true) then s
  else
    let y := { x with cal := if x.st = .off then .running else .waiting, calGrps := if x.st = .off then x.calGrps else k :: x.calGrps }
    if nonIdle then s1.setRx c y
    else
      let z := { y with calSteps := x.calSteps + 1, trimWait := some (x.calSteps, trim) }
      if x.calSteps + 1 < 96 then s1.setRx c z else (s1.setRx c { z with cal := .done }).rxEvent c E.LRX_CAL_DONE

/-! ### Measurements (R131-R135, R143) -/

/-- An LQ block has completed in TRACK (R132, R134); `a` is the adaptive state that it leaves. -/
def State.lqDone (s : State) (c : Chan) (lq : Nat) (a : Adapt) : State :=
  let x := s.rx[c]
  if x.st ≠ .track then s
  else
    let n := c.val
    let low := s.fld (F.LRX_LQ_CFG_LOW n)
    let s1 := (s.losLow c).wr (R.LRX_LQ n) (BitVec.ofNat 32 (min lq 400 + 2 ^ 16))
    let fall := decide (lq < low) && !x.lqLow
    let b : Adapt := { a with ctle := x.cur.ctle }
    let s2 := (s1.adapt c b).setRx c { (s1.adapt c b).rx[c] with lqLow := (x.lqLow || fall) && !decide (low + 10 ≤ lq) }
    if fall then s2.rxEvent c E.LRX_LQ_LOW else s2

/-- The CDR loses lock (R109). -/
def State.lockLost (s : State) (c : Chan) : State :=
  if (s.rx[c]).st = .track then ((s.bump (R.LRX_CNT_LOL c.val)).rxEvent c E.LRX_LOL).acquire c true else s

/-- The NCO frequency has been measured, in 0.01 ppm (R131); in ACQUIRE `lock` says what the phase detector judges (R141). Beyond the
400 ppm of the CDR the lock is lost. -/
def State.rateDone (s : State) (c : Chan) (ppm : Int) (lock : Bool) : State :=
  let x := s.rx[c]
  if ¬ s.ncoOn c then s
  else
    let out := decide (20000 < ppm.natAbs)
    let far := decide (40000 < ppm.natAbs)
    let (w, s1) := if -(2 ^ 15) ≤ ppm ∧ ppm < 2 ^ 15 then (BitVec.ofInt 32 ppm, s) else s.freeVal
    let s2 := (s1.setFld (F.LRX_RATE_PPM c.val) (w.toNat % 2 ^ 16)).setRx c
      { x with rateOor := out, lock := if x.st = .acquire then lock && !far else x.lock }
    let s3 := if out ∧ ¬ x.rateOor then s2.rxEvent c E.LRX_RATE_OOR else s2
    if far then s3.lockLost c else s3

/-- A block of 65,536 symbols has `clips` clipped samples (R142, R143). -/
def State.clipsDone (s : State) (c : Chan) (clips : Nat) : State :=
  let x := s.rx[c]
  if x.st = .off ∨ x.st = .doze ∨ clips ≤ 2 ^ s.fld (F.LRX_AGC_CFG_CLIP_THR c.val) then s
  else
    let s1 := s.bump (R.LRX_CNT_CLIP c.val)
    if x.st = .track then
      (s1.adapt c { x.cur with agc := x.cur.agc - 10 }).rxEvent c E.LRX_CLIP
    else s1

/-! ### Registers -/

/-- RX_STAT.STATE as a number. -/
def RxSt.num : RxSt → Nat
  | .off => 0 | .waitLight => 1 | .acquire => 2 | .track => 3 | .held => 4 | .doze => 5

/-- CAL_STAT.STATE as a number. -/
def CalSt.num : CalSt → Nat
  | .idle => 0 | .waiting => 1 | .running => 2 | .done => 3 | .refused => 4 | .aborted => 5

/-- The estimate of R133 for the LQ figures in 0.1 dB, row by row for EXP 1 to 15: the lowest LQ that gives a mantissa, and the mantissa,
of 0.75 Q(√(10^(LQ/10) / 5)) to one digit (log entry 45). -/
def preFecRows : List (List (Nat × Nat)) := [
  [(0, 2), (55, 1)],
  [(82, 9), (87, 8), (92, 7), (97, 6), (103, 5), (109, 4), (115, 3), (123, 2), (133, 1)],
  [(140, 9), (142, 8), (144, 7), (146, 6), (148, 5), (150, 4), (153, 3), (157, 2), (162, 1)],
  [(166, 9), (167, 8), (168, 7), (170, 6), (171, 5), (172, 4), (174, 3), (177, 2), (180, 1)],
  [(183, 9), (184, 7), (185, 6), (186, 5), (187, 4), (189, 3), (191, 2), (193, 1)],
  [(195, 9), (196, 7), (197, 6), (198, 5), (199, 4), (200, 3), (201, 2), (203, 1)],
  [(205, 8), (206, 6), (207, 5), (208, 4), (209, 3), (210, 2), (211, 1)],
  [(213, 8), (214, 6), (215, 4), (216, 3), (217, 2), (218, 1)],
  [(220, 7), (221, 5), (222, 3), (223, 2), (224, 1)],
  [(225, 9), (226, 6), (227, 4), (228, 3), (229, 2), (230, 1)],
  [(231, 6), (232, 4), (233, 2), (234, 1)],
  [(235, 8), (236, 5), (237, 3), (238, 2)],
  [(239, 9), (240, 5), (241, 3), (242, 2)],
  [(243, 8), (244, 4), (245, 2), (246, 1)],
  [(247, 6), (248, 3), (249, 1)]]

/-- MANT and EXP of PREFEC_EST for an LQ figure; below 10^-15 a free value (log entry 45). -/
def preFec (lq : Nat) : Nat × Nat :=
  if 250 ≤ lq then ((Config.preFec lq).toNat % 9 + 1, (Config.preFec lq).toNat / 16 % 15 + 1)
  else (preFecRows.zipIdx.map (fun r => r.1.map (fun p => (p.1, p.2, r.2 + 1)))).flatten.foldl
    (fun b p => if p.1 ≤ lq then (p.2.1, p.2.2) else b) (2, 1)

/-- The computed registers of page LRXc. -/
def readLRX (s : State) (c : Chan) (o : Nat) : Option Word :=
  let x := s.rx[c]
  let tap := fun i => (x.cur.taps.getD i 0).toNat
  if o = 0x070 then
    some (BitVec.ofNat 32 (x.st.num + b2n x.planned * 2 ^ 3 + b2n x.armed * 2 ^ 4 + b2n x.openS * 2 ^ 5 + b2n x.lock * 2 ^ 6 +
      b2n (s.pins.los[c]) * 2 ^ 7 + b2n x.defValid * 2 ^ 8 + x.cur.ctle.toNat * 2 ^ 12 + x.cur.agc % 2 ^ 9 * 2 ^ 16))
  else if o = 0x074 then some (BitVec.ofNat 32 (s.fld (F.LRX_RATE_PPM c.val) + b2n x.lock * 2 ^ 16))
  else if o = 0x07C then
    some (if s.bit (F.LRX_LQ_VALID c.val) then
      BitVec.ofNat 32 ((preFec (s.fld (F.LRX_LQ_LQ_DB c.val))).1 + (preFec (s.fld (F.LRX_LQ_LQ_DB c.val))).2 * 2 ^ 8 + 2 ^ 12) else 0)
  else if o = 0x084 then
    some (if x.st = .held then
      BitVec.ofNat 32 (min ((s.clock.mono - x.ageFrom) / 1000) 0xFFFFFF + b2n (s.ageOver c) * 2 ^ 31) else 0)
  else if o = 0x08C then some (BitVec.ofNat 32 (x.cal.num + x.calSteps * 2 ^ 4))
  else if 0x100 ≤ o ∧ o ≤ 0x13C then
    let k := (o - 0x100) / 4
    some (BitVec.ofNat 32 (tap (2 * k) + (if k = 15 then x.cur.dfe.toNat else tap (2 * k + 1)) * 2 ^ 16))
  else none

/-! ### Commands -/

/-- RX_ENABLE (R109): a write of RX_CTL with ENABLE 1. -/
def execRxEnable (r : Req) (c : Chan) (v : Word) (s : State) : Res :=
  .next (s.access r (R.LRX_RX_CTL c.val) true (fun t => t.opRxCtl c (v ||| 1)))

/-- RX_DISABLE (R109): a write of RX_CTL with ENABLE 0. -/
def execRxDisable (r : Req) (c : Chan) (v : Word) (s : State) : Res :=
  .next (s.access r (R.LRX_RX_CTL c.val) true (fun t => t.opRxCtl c (v &&& ~~~1)))

/-- PREAMBLE_DETECT (R109, R120-R125): `lag` is the device time, in 2^-16 ns, since the last correlation symbol ended at the pins. -/
def execPreambleDetect (c : Chan) (offset : Int) (peak : BitVec 8) (gain : BitVec 9) (lag : Nat) (s : State) : Res :=
  if ¬ detectWf gain lag then .fault .illFormed
  else .next ((s.trimsIn c).detect c offset peak.toNat gain.toNat (s.clock.line - lag))

/-- BLIND_ACQUIRE (R109): LOS is deasserted. -/
def execBlindAcquire (c : Chan) (s : State) : Res :=
  .next (if (s.rx[c]).st = .waitLight then (s.losLow c).acquire c true else s)

/-- TRAINING_COUNT_REACHED (R109, R117). -/
def execTrainingCountReached (c : Chan) (locked : Bool) (a : Adapt) (s : State) : Res :=
  if ¬ adaptWf a then .fault .illFormed else .next (s.trainEnd c locked a)

/-- PLANNED_HOLD (R109): group `g` of the frame in progress begins, and the map marks it DARK. -/
def execPlannedHold (c : Chan) (g : Fin 250) (s : State) : Res :=
  let x := s.rx[c]
  let p := (s.dsf[c]).place false g.val
  .next (if x.st = .track ∧ s.mapValid c ∧ s.markOf c p = .dark then
    let s1 := s.setRx c { x with st := .held, planned := true, armed := false, openS := false, lock := false,
                                 ageFrom := s.clock.mono, start := p, span := s.darkSpan c p, calGrps := [], mismatch := false,
                                 past := [] }
    (s1.bump (R.LRX_CNT_FREEZE c.val)).rxEvent c E.LRX_FROZEN
  else s)

/-- UNPLANNED_HOLD (R109, R114): the age runs from the run's first idle symbol, 160 ns back. -/
def execUnplannedHold (c : Chan) (s : State) : Res :=
  .next (if (s.rx[c]).st = .track then s.holdNow c (s.clock.mono - 160) else s)

/-- LOS_ASSERT (R109): `idle` symbols in a row were idle before it. -/
def execLosAssert (c : Chan) (idle : Nat) (s : State) : Res := .next (s.losHigh c idle)

/-- How many groups in a row from group `g` of the frame in progress on are marked for others; the header group ends a run (R126,
R127). -/
def State.othersRun (s : State) (c : Chan) (g : Nat) : Nat :=
  ((List.range (250 - g)).takeWhile (fun i => decide (s.markOf c ((s.dsf[c]).place false (g + i)) = .others))).length

/-- A run of groups for others that is long enough begins with group `g` of the frame in progress, not the header group (R126, R127). -/
def State.dozeRun (s : State) (c : Chan) (g : Nat) : Bool :=
  decide (g ≠ 0) && (decide (g = 1) || decide (s.markOf c ((s.dsf[c]).place false (g - 1)) ≠ .others)) &&
    decide (s.fld (F.LRX_DOZE_CFG_MIN_GRP c.val) ≤ s.othersRun c g)

/-- DOZE_ENTER (R109, R126, R127): group `g` of the frame in progress begins. -/
def execDozeEnter (c : Chan) (g : Fin 250) (s : State) : Res :=
  .next (if (s.rx[c]).st = .track ∧ s.bit (F.LRX_RX_CTL_DOZE_EN c.val) ∧ s.mapValid c ∧ s.dozeRun c g.val then
    s.setRx c { s.rx[c] with st := .doze, dozeAt := s.clock.mono, start := (s.dsf[c]).place false g.val, span := s.othersRun c g.val }
  else s)

/-- DOZE_WAKE (R109): LEAD symbols before the group after the run; every group of the run began with the ADC gated. -/
def execDozeWake (c : Chan) (s : State) : Res :=
  .next (if (s.rx[c]).st = .doze then (s.bumpBy (R.LRX_CNT_DOZE_GRP c.val) (s.rx[c]).span).enterTrack c else s)

/-- CDR_LOSS_OF_LOCK (R109). -/
def execCdrLossOfLock (c : Chan) (s : State) : Res := .next (s.lockLost c)

/-- ARM_WINDOW_OPEN (R121): the dark groups of the hold that began with the ADC gated are counted (R128). -/
def execArmWindowOpen (c : Chan) (s : State) : Res :=
  let s1 := s.trimsIn c
  let x := s1.rx[c]
  .next (if x.st = .held ∧ x.planned ∧ ¬ x.openS ∧ ¬ x.armed then
    (s1.bumpBy (R.LRX_CNT_DOZE_GRP c.val) (s1.gatedGroups c x.span)).setRx c { x with armed := true }
  else s)

/-- ARM_WINDOW_CLOSE (R109). -/
def execArmWindowClose (c : Chan) (s : State) : Res :=
  let x := s.rx[c]
  .next (if x.st = .held ∧ x.planned ∧ x.armed then
    ((s.setRx c { x with armed := false, openS := true }).bump (R.LRX_CNT_MISS c.val)).rxEvent c E.LRX_REENTRY_MISS
  else s)

/-- SIM_DETECT (R109, R123). -/
def execSimDetect (r : Req) (c : Chan) (v : Word) (s : State) : Res :=
  .next (s.access r (R.LRX_ADAPT_CMD c.val) true (fun t => t.opAdapt c (v ||| 1)))

/-- SAVE_DEF (R117). -/
def execSaveDef (r : Req) (c : Chan) (v : Word) (s : State) : Res :=
  .next (s.access r (R.LRX_ADAPT_CMD c.val) true (fun t => t.opAdapt c (v ||| 2)))

/-- LOAD_FACTORY (R117). -/
def execLoadFactory (r : Req) (c : Chan) (v : Word) (s : State) : Res :=
  .next (s.access r (R.LRX_ADAPT_CMD c.val) true (fun t => t.opAdapt c (v ||| 4)))

/-- LQ_BLOCK (R132-R134). -/
def execLqBlock (c : Chan) (lq : BitVec 9) (a : Adapt) (s : State) : Res :=
  if ¬ adaptWf a then .fault .illFormed else .next (s.lqDone c lq.toNat a)

/-- NOISE_MEASURE (R135): in a planned hold that spans at least 2 dark groups. -/
def execNoiseMeasure (c : Chan) (floor : BitVec 10) (s : State) : Res :=
  .next (if s.bit (F.LRX_RX_CTL_NF_EN c.val) ∧ (s.rx[c]).st = .held ∧ (s.rx[c]).planned ∧ 2 ≤ (s.rx[c]).span then
    s.wr (R.LRX_NOISE c.val) (BitVec.ofNat 32 (floor.toNat + 2 ^ 16))
  else s)

/-- RATE_MEASURE (R131). -/
def execRateMeasure (c : Chan) (ppm : Int) (lock : Bool) (s : State) : Res := .next (s.rateDone c ppm lock)

/-- CLIP_BLOCK (R142, R143). -/
def execClipBlock (c : Chan) (clips : Nat) (s : State) : Res := .next (s.clipsDone c clips)

/-- CAL_START (R137, R140). -/
def execCalStart (r : Req) (c : Chan) (v : Word) (s : State) : Res :=
  .next (s.access r (R.LRX_CAL_CTL c.val) true (fun t => t.opCal c (v ||| 1)))

/-- CAL_ABORT (R140). -/
def execCalAbort (r : Req) (c : Chan) (v : Word) (s : State) : Res :=
  .next (s.access r (R.LRX_CAL_CTL c.val) true (fun t => t.opCal c (v ||| 2)))

/-- CAL_STEP (R136, R138, R139): a step has taken one group; outside OFF, dark group `k` of the hold, counted from 0. -/
def execCalStep (c : Chan) (k : Nat) (nonIdle : Bool) (trim : Word) (s : State) : Res := .next (s.calStepEnd c k nonIdle trim)

end Sys2Proof.Machine
end

