-- ==== Sys2Proof/Machine/Dispatcher.lean ====
section
/-! DEFINITION. Chapter 16: work items, posts, cancels, the dispatcher ports (R549-R560, R565), the exception queue, injection, the
external window (R545, R561-R564). -/

namespace Sys2Proof.Machine

open Sys2Proof

/-! ### Items (R549, R550) -/

/-- The dispatcher changes. -/
def State.setTsk (s : State) (f : Tsk → Tsk) : State := { s with tsk := f s.tsk }

/-- A work item. -/
def State.item (s : State) (i : Nat) : Item := mapGet {} s.tsk.items i

/-- Replaces a work item. -/
def State.setItem (s : State) (i : Nat) (x : Item) : State := s.setTsk (fun t => { t with items := mapPut {} t.items i x })

/-- The list of a priority level. -/
def State.level (s : State) (p : Nat) : List Nat := mapGet [] s.tsk.lists p

/-- Replaces the list of a level. -/
def State.setLevel (s : State) (p : Nat) (l : List Nat) : State := s.setTsk (fun t => { t with lists := mapPut [] t.lists p l })

/-- Replaces the port of a core. -/
def State.setCorePort (s : State) (n : Fin 8) (p : Port) : State := s.setTsk (fun t => { t with ports := t.ports.set n p })

/-- The priority of an item. -/
def State.prio (s : State) (i : Nat) : Nat := s.fld (F.TSK_ITEM_CFG_PRIO i)

/-- The condition of an item holds for the flags `w` (R549). -/
def State.condition (s : State) (i : Nat) (w : Word) : Bool :=
  let m := s.rd (R.TSK_ITEM_MASK i)
  if s.bit (F.TSK_ITEM_CFG_MODE i) then decide (m ≠ 0) && decide (w &&& m = m) else decide (w &&& m ≠ 0)

/-- Core `n` may run item `i`. -/
def State.inCores (s : State) (i : Nat) (n : Fin 8) : Bool := natBit (s.fld (F.TSK_ITEM_CFG_CORES i)) n.val

/-- A core that runs and holds no item (R555). -/
def State.idleCore (s : State) (n : Fin 8) : Bool := (s.rd R.RST_CORE_RUN).getLsbD n.val && decide ((s.tsk.ports[n]).holds = [])

/-- The cores of an item's set whose current item may be pre-empted for it, with the priority of that item (R557). -/
def State.preemptible (s : State) (i : Nat) : List (Fin 8 × Nat) :=
  (List.finRange 8).filterMap (fun n =>
    match (s.tsk.ports[n]).holds with
    | [] => none
    | j :: _ => if s.inCores i n && s.bit (F.TSK_ITEM_CFG_PREEMPT j) && decide (s.prio i < s.prio j) then some (n, s.prio j) else none)

/-- Item `i` has become READY: DISPATCH on the idle cores of its set, otherwise PREEMPT on one core (R557). -/
def State.announceReady (s : State) (i : Nat) (byYield : Bool) : State :=
  let idle := (List.finRange 8).filter (fun n => s.inCores i n && s.idleCore n)
  if idle ≠ [] then
    idle.foldl (fun (t : State) (n : Fin 8) => t.setCorePort n { t.tsk.ports[n] with dispatch := true }) s
  else if byYield then s
  else
    let best := (s.preemptible i).foldl (fun (b : Option (Fin 8 × Nat)) x =>
      match b with
      | some y => if y.2 < x.2 then some x else some y
      | none => some x) none
    match best with
    | some (n, _) => s.setCorePort n { s.tsk.ports[n] with preempt := true }
    | none => s

/-- Item `i` becomes READY: at the tail of its list, or through a YIELD at the head. -/
def State.makeReady (s : State) (i : Nat) (x : Item) (byYield : Bool) : State :=
  let p := s.prio i
  let l := s.level p
  ((s.setItem i { x with st := .ready }).setLevel p (if byYield then i :: l else l ++ [i])).announceReady i byYield

/-- Item `i` leaves its list. -/
def State.unlist (s : State) (i : Nat) : State := s.setLevel (s.prio i) ((s.level (s.prio i)).filter (fun j => decide (j ≠ i)))

/-- A post of flag `f` to item `i` is applied (R550). -/
def State.postFlag (s : State) (i : Nat) (f : Nat) : State :=
  let x := s.item i
  let y := { x with flags := x.flags ||| BitVec.ofNat 32 (2 ^ f) }
  match x.st with
  | .off => s
  | .waiting => if s.condition i y.flags then s.makeReady i y false else s.setItem i y
  | _ => s.setItem i y

/-- A cancel of item `i` takes effect (R550). -/
def State.cancelItem (s : State) (i : Nat) : State :=
  let x := s.item i
  match x.st with
  | .off => s
  | .waiting => s.setItem i { x with flags := 0 }
  | .ready => (s.unlist i).setItem i { x with st := .waiting, flags := 0 }
  | .running _ => s.setItem i { x with flags := 0, consumed := 0, cancelled := true }

/-- Core `n` gives up item `i`, by YIELD or by DONE (R550, R551). -/
def State.finish (s : State) (n : Fin 8) (i : Nat) (byYield : Bool) : State :=
  let pt := s.tsk.ports[n]
  let s1 := s.setCorePort n { pt with holds := pt.holds.filter (fun j => decide (j ≠ i)) }
  let x := s.item i
  if x.offAtEnd then s1.setItem i {}
  else if x.cancelled then s1.setItem i { x with st := .waiting, consumed := 0, cancelled := false }
  else if byYield then s1.makeReady i { x with flags := x.flags ||| x.consumed, consumed := 0 } true
  else if s.condition i x.flags then s1.makeReady i { x with consumed := 0 } false
  else s1.setItem i { x with st := .waiting, consumed := 0 }

/-- A core stops: every item that it holds is handled as under YIELD, and the lines of its caches are discarded (R626). -/
def State.stopCore (s : State) (n : Fin 8) : State :=
  let s1 := (s.tsk.ports[n]).holds.foldl (fun (t : State) i => t.finish n i true) s
  { s1.setCorePort n {} with cpu := { s1.cpu with nodes := s1.cpu.nodes.set n none } }.dropLines n

/-! ### The post queue and cancels (R552-R554) -/

/-- Places `c` behind the last entry of requester `r`. -/
def placeCancel (r : Req) (c : Post) (q : List Post) : List Post :=
  let tail := (q.reverse.takeWhile (fun p => decide (p.req ≠ some r))).reverse
  q.take (q.length - tail.length) ++ [c] ++ tail

/-- A cancel of requester `r`: at once, or behind the last post of `r` that has not been applied (R554). -/
def State.cancelBy (s : State) (r : Req) (i : Nat) : State :=
  let c : Post := ⟨BitVec.ofNat 12 i, 0, none, some r, true⟩
  let mine := fun (p : Post) => decide (p.req = some r)
  if s.tsk.stalled.any mine then s.setTsk (fun t => { t with stalled := placeCancel r c t.stalled })
  else if s.tsk.queue.any mine then s.setTsk (fun t => { t with queue := placeCancel r c t.queue })
  else s.cancelItem i

/-- The dispatcher takes a post from the queue and applies it, with the cancels that waited for it; a stalled post enters. -/
def State.applyPost (s : State) : State :=
  match s.tsk.queue with
  | [] => s
  | p :: q =>
    let s1 := s.postFlag p.item.toNat p.flag.toNat
    let cs := q.takeWhile (fun x => x.cancel)
    let s2 := cs.foldl (fun (t : State) x => t.cancelItem x.item.toNat) s1
    let rest := q.drop cs.length
    match s2.tsk.stalled with
    | [] => s2.setTsk (fun t => { t with queue := rest })
    | y :: ys =>
      let more := ys.takeWhile (fun x => x.cancel)
      s2.setTsk (fun t => { t with queue := rest ++ [y] ++ more, stalled := ys.drop more.length })

/-! ### The ports (R555-R558) -/

/-- The item that core `n` would take: the first of the lowest-numbered level that lists one with the core in its set. -/
def State.nextItem (s : State) (n : Fin 8) : Option Nat :=
  (List.range 32).findSome? (fun p => (s.level p).find? (fun i => s.inCores i n))

/-- TAKE (R555). -/
def State.takeItem (s : State) (n : Fin 8) : State :=
  match (if s.bit F.TSK_TSK_CTL_EN then s.nextItem n else none) with
  | none => s.reply (.data 0x80000000)
  | some i =>
    let x := s.item i
    let m := s.rd (R.TSK_ITEM_MASK i)
    let pt := s.tsk.ports[n]
    let s1 := (s.unlist i).setItem i { x with st := .running n, consumed := x.flags &&& m, flags := x.flags &&& ~~~m }
    (s1.setCorePort n { pt with holds := i :: pt.holds, flags := x.flags &&& m, arg := s.rd (R.TSK_ITEM_ARG i) }).reply
      (.data (BitVec.ofNat 32 i))

/-- DONE or YIELD of an item; of one that the core does not run, an access fault (R556). -/
def State.giveUp (s : State) (n : Fin 8) (i : Nat) (byYield : Bool) : State :=
  if (s.item i).st = .running n then (s.finish n i byYield).reply .done
  else s.coreFault n 7 (if byYield then 0x70000010 else 0x7000000C)

/-- CAUSE (R558). -/
def State.causeOf (s : State) (n : Fin 8) : State :=
  let pt := s.tsk.ports[n]
  (s.setCorePort n { pt with dispatch := false, preempt := false }).reply
    (.data (BitVec.ofNat 32 (b2n pt.dispatch + b2n pt.preempt * 2)))

/-! ### Page TSK (R557, R565) -/

/-- EN of an item is cleared (R550). -/
def State.itemOff (s : State) (i : Nat) : State :=
  let x := s.item i
  match x.st with
  | .off => s
  | .waiting => s.setItem i {}
  | .ready => (s.unlist i).setItem i {}
  | .running _ => s.setItem i { x with flags := 0, consumed := 0, cancelled := true, offAtEnd := true }

/-- EN of an item is set (R550). -/
def State.itemOn (s : State) (i : Nat) : State :=
  let x := s.item i
  match x.st with
  | .off => s.setItem i { st := .waiting }
  | .running _ => s.setItem i { x with offAtEnd := false }
  | _ => s

/-- A write of ITEM_CFG (R565). -/
def State.opItemCfg (s : State) (r : Req) (v : Word) : State :=
  let i := s.fld (F.TSK_ITEM_SEL_ITEM (reqNum r))
  let k := R.TSK_ITEM_CFG i
  let old := s.rd k
  let moved := fun (f : Fld) => decide (getField old f.lo f.w ≠ getField v f.lo f.w)
  let was := s.bit (F.TSK_ITEM_CFG_EN i)
  if was ∧ (moved (F.TSK_ITEM_CFG_PRIO i) ∨ moved (F.TSK_ITEM_CFG_MODE i) ∨ moved (F.TSK_ITEM_CFG_CORES i)) then s.refuse r k
  else
    let s1 := s.store k v
    let now := s1.bit (F.TSK_ITEM_CFG_EN i)
    if now ∧ ¬ was then s1.itemOn i else if was ∧ ¬ now then s1.itemOff i else s1

/-- A write of ITEM_MASK (R565). -/
def State.opItemMask (s : State) (r : Req) (v : Word) : State :=
  let i := s.fld (F.TSK_ITEM_SEL_ITEM (reqNum r))
  let k := R.TSK_ITEM_MASK i
  if s.bit (F.TSK_ITEM_CFG_EN i) ∧ s.rd k ≠ v then s.refuse r k else s.store k v

/-- A write of TSK_CTL: on a change of EN from 0 to 1 every READY item counts as becoming READY (R557). -/
def State.opTskCtl (s : State) (v : Word) : State :=
  let s1 := s.store R.TSK_TSK_CTL v
  if v.getLsbD 0 ∧ ¬ s.bit F.TSK_TSK_CTL_EN then
    (List.range 32).foldl (fun (t : State) p => (s.level p).foldl (fun (u : State) i => u.announceReady i false) t) s1
  else s1

/-- A write of POST. -/
def State.opPost (s : State) (r : Req) (v : Word) : State :=
  s.enqueuePost ⟨BitVec.ofNat 12 (getField v 0 12), BitVec.ofNat 5 (getField v 16 5), none, some r, false⟩

/-! ### The exception queue (R561-R563) -/

/-- EXC_SIZE. -/
def State.excSize (s : State) : Nat := 2 ^ s.fld F.CPU_EXC_CFG_LOG_SIZE

/-- A descriptor (R561). -/
def descriptor (p : Pkt) (hdl : Nat) : List Byte :=
  let ns := p.stamp / 16
  toBytesBE 5 hdl ++ [BitVec.ofNat 8 p.exc] ++ toBytesBE 2 (p.len - 1) ++ p.key.take 2 ++
    toBytesBE 3 (if p.exc = 3 ∨ p.exc = 4 then 0 else p.leaf.ruleId) ++ toBytesBE 3 p.flowId ++
    toBytesBE 6 (ns / 1000000000) ++ toBytesBE 4 (ns % 1000000000) ++ (p.key.drop 2).take 38

/-- The first packet that waits for the exception queue gets a descriptor and posts, or is dropped from a full ring. -/
def State.writeDescriptor (s : State) : State :=
  match s.excWait with
  | [] => s
  | p :: ps =>
    let s1 := { s with excWait := ps }
    let h := s.fld F.CPU_EXC_HEAD_HEAD
    let next := (h + 1) % s.excSize
    if next = s.fld F.CPU_EXC_TAIL_TAIL then ((s1.bump R.CPU_CNT_EXC_DROP).fire P.CPU E.CPU_EXC_DROP).dropHeld p
    else
      let hdl := p.hdl.getD 0
      let s2 := s1.storeBytes (s.fld F.CPU_EXC_BASE_ADDR * 64 + 64 * h) (descriptor p hdl)
      let s3 := { s2 with cpu := { s2.cpu with ring := mapIns s2.cpu.ring h hdl } }
      let s4 := (s3.setFld F.CPU_EXC_HEAD_HEAD next).bump R.CPU_CNT_EXC_DESC
      s4.enqueuePost ⟨BitVec.ofNat 12 (s.fld F.CPU_EXC_CFG_EXC_ITEM), BitVec.ofNat 5 (s.fld F.CPU_EXC_CFG_EXC_FLAG), none, none, false⟩

/-- The hold of the descriptor at a position of the ring goes to software (R397). -/
def State.takeHold (s : State) (pos : Nat) : State :=
  match s.cpu.ring.find? (fun e => decide (e.1 = pos)) with
  | none => s
  | some (_, hdl) =>
    let b := s.buf (hdl / 128)
    let s1 := { s with cpu := { s.cpu with ring := mapDel s.cpu.ring pos } }
    if b.count ≠ 0 ∧ b.owner = excQueue then s1.setBuf (hdl / 128) { b with owner := swHolder } else s1

/-- A write of EXC_TAIL: the descriptors that it passes (R563). -/
def State.opExcTail (s : State) (v : Word) : State :=
  let n := s.excSize
  let old := s.fld F.CPU_EXC_TAIL_TAIL
  let new := getField v 0 12 % n
  let s1 := (List.range ((new + n - old % n) % n)).foldl (fun (t : State) i => t.takeHold ((old + i) % n)) s
  s1.setFld F.CPU_EXC_TAIL_TAIL new

/-- A write of EXC_CFG. -/
def State.opExcCfg (s : State) (r : Req) (v : Word) : State :=
  if s.fld F.CPU_EXC_HEAD_HEAD ≠ s.fld F.CPU_EXC_TAIL_TAIL then s.refuse r R.CPU_EXC_CFG else s.store R.CPU_EXC_CFG v

/-! ### Injection (R564) -/

/-- INJ_HDL. -/
def State.injHdl (s : State) : Nat := (s.rd R.CPU_INJ_HDL_LO).toNat + (s.rd R.CPU_INJ_HDL_HI).toNat % 2 ^ 8 * 2 ^ 32

/-- A write of INJ_CMD: software injects a packet into the packet path, or into a queue. -/
def State.opInject (s : State) (v : Word) : State :=
  if ¬ v.getLsbD 0 then s
  else
    let hdl := s.injHdl
    let b := s.buf (hdl / 128)
    let q := getField v 3 14
    let direct := v.getLsbD 1
    if s.stale hdl ∨ b.owner ≠ swHolder ∨ b.count ≠ 1 ∨ (direct = true ∧ 8991 < q) then
      (s.setFld F.CPU_INJ_STAT_RESULT 1).fire P.CPU E.CPU_INJ_ERR
    else
      let n := s.fld F.CPU_INJ_LEN_S
      let p : Pkt := { src := 60, len := n, data := s.readBytes (s.bufAddr (hdl / 128)) n, hdl := some hdl,
                       tsTag := if v.getLsbD 2 then some (s.fld F.CPU_INJ_TAG_TAG) else none, steps := s.tim.steps }
      let s1 := (s.setFld F.CPU_INJ_STAT_RESULT 0).bump R.CPU_CNT_INJ
      if direct then
        let s2 := s1.setBuf (hdl / 128) { b with owner := q }
        ({ s2 with nextPkt := s2.nextPkt + 1 }).enqueue { p with id := s2.nextPkt, queue := q }
      else s1.enterPath p

/-! ### Commands -/

/-- A core's access to its port: the core runs. -/
def State.port (s : State) (n : Fin 8) (f : State → State) : State := if s.reaches (.core n) then f s else s

/-- TAKE (R555). -/
def execTake (n : Fin 8) (s : State) : Res := .next (s.port n (fun t => t.takeItem n))

/-- ITEM_DONE (R550, R556). -/
def execItemDone (n : Fin 8) (item : BitVec 12) (s : State) : Res := .next (s.port n (fun t => t.giveUp n item.toNat false))

/-- YIELD (R550, R556). -/
def execYield (n : Fin 8) (item : BitVec 12) (s : State) : Res := .next (s.port n (fun t => t.giveUp n item.toNat true))

/-- PORT_POST (R552). -/
def execPortPost (n : Fin 8) (item : BitVec 12) (flag : BitVec 5) (s : State) : Res :=
  .next (s.port n (fun t => (t.reply .done).enqueuePost ⟨item, flag, none, some (.core n), false⟩))

/-- PORT_CANCEL (R554). -/
def execPortCancel (n : Fin 8) (item : BitVec 12) (s : State) : Res :=
  .next (s.port n (fun t => (t.reply .done).cancelBy (.core n) item.toNat))

/-- CAUSE_READ (R558). -/
def execCauseRead (n : Fin 8) (s : State) : Res := .next (s.port n (fun t => t.causeOf n))

/-- TSK_POST (R552). -/
def execTskPost (r : Req) (v : Word) (s : State) : Res := .next (s.access r R.TSK_POST true (fun t => t.opPost r v))

/-- TSK_CANCEL (R554). -/
def execTskCancel (r : Req) (v : Word) (s : State) : Res :=
  .next (s.access r R.TSK_CANCEL true (fun t => t.cancelBy r (getField v 0 12)))

/-- POST_APPLY (R552). -/
def execPostApply (s : State) : Res := .next s.applyPost

/-- ITEM_CFG_WRITE (R565): a write of ITEM_MASK or ITEM_CFG. -/
def execItemCfgWrite (r : Req) (maskReg : Bool) (v : Word) (s : State) : Res :=
  let i := s.fld (F.TSK_ITEM_SEL_ITEM (reqNum r))
  .next (if maskReg then s.access r (R.TSK_ITEM_MASK i) true (fun t => t.opItemMask r v)
  else s.access r (R.TSK_ITEM_CFG i) true (fun t => t.opItemCfg r v))

/-- TSK_ENABLE (R557): a write of TSK_CTL with EN 1. -/
def execTskEnable (r : Req) (v : Word) (s : State) : Res :=
  .next (s.access r R.TSK_TSK_CTL true (fun t => t.opTskCtl (v ||| 1)))

/-- EXC_DESCRIPTOR_WRITE (R561-R563). -/
def execExcDescriptorWrite (s : State) : Res := .next s.writeDescriptor

/-- EXC_TAIL_WRITE (R563). -/
def execExcTailWrite (r : Req) (v : Word) (s : State) : Res :=
  .next (s.access r R.CPU_EXC_TAIL true (fun t => t.opExcTail v))

/-- INJECT_PATH (R564): GO with PATH 0. -/
def execInjectPath (r : Req) (v : Word) (s : State) : Res :=
  .next (s.access r R.CPU_INJ_CMD true (fun t => t.opInject ((v ||| 1) &&& ~~~2)))

/-- INJECT_DIRECT (R564): GO with PATH 1. -/
def execInjectDirect (r : Req) (v : Word) (s : State) : Res :=
  .next (s.access r R.CPU_INJ_CMD true (fun t => t.opInject (v ||| 3)))

/-- XWIN_WRITE (R545). -/
def execXwinWrite (r : Req) (n : Fin 8) (v : Word) (s : State) : Res :=
  .next (s.access r (R.CPU_XWIN n.val) true (fun t => t.store (R.CPU_XWIN n.val) v))

end Sys2Proof.Machine
end

