-- ==== Sys2Proof/Machine/Power.lean ====
section
/-! DEFINITION. Chapter 18: performance levels, sleep states, the wake sequence, limp state (R590-R612); the start of the boot
and of a reset (R613-R617); the ends of memory training (R443, R444). -/

namespace Sys2Proof.Machine

open Sys2Proof

/-! ### Regulators (R598, R599) -/

/-- Changes page PWR's state. -/
def State.setPwr (s : State) (f : Pwr → Pwr) : State := { s with pwr := f s.pwr }

/-- The core voltage of a level in mV (R595). -/
def mvOf (l : BitVec 2) : Int := [900, 820, 750].getD l.toNat 700

/-- The slower of two levels. -/
def slower (a b : BitVec 2) : BitVec 2 := if a.toNat < b.toNat then b else a

/-- The request to the line or the fabric regulator. -/
def State.reg (s : State) (line : Bool) : PmbReq := if line then s.pwr.regL else s.pwr.regF

/-- Replaces the request to a regulator. -/
def State.setRegulator (s : State) (line : Bool) (x : PmbReq) : State :=
  s.setPwr (fun p => if line then { p with regL := x } else { p with regF := x })

/-- The address of a regulator. -/
def State.regAddr (s : State) (line : Bool) : BitVec 7 :=
  BitVec.ofNat 7 (s.fld (if line then F.PWR_PMB_CFG_ADDR_L else F.PWR_PMB_CFG_ADDR_F))

/-- Sends commands to a regulator, in their order. -/
def State.pmbSend (s : State) (line : Bool) (cmds : List PmbCmd) : State :=
  cmds.foldl (fun (t : State) c => t.emit (.pmbus line (s.regAddr line) c)) s

/-- Commands a regulator to a level's voltage plus VTRIM, and on where it was off: VOUT_MODE and VOUT_TRANSITION_RATE go first at the
first contact after a reset or a wake (R598); the request waits for its acknowledgement. -/
def State.commandReg (s : State) (line : Bool) (l : BitVec 2) (on : Bool) : State :=
  let mv := mvOf l + signedBits 8 (s.fld F.PWR_PMB_CFG_VTRIM)
  let cmds := (if (s.reg line).met then [] else [.voutMode, .rate 1]) ++ [.vout mv] ++ (if on then [.operation true] else [])
  (s.setRegulator line ⟨true, 0, cmds, true⟩).pmbSend line cmds

/-- Sends OPERATION OFF to a regulator. -/
def State.regOff (s : State) (line : Bool) : State := (s.setRegulator line {}).pmbSend line [.operation false]

/-! ### Levels (R596, R597, R600) -/

/-- A change of level starts. -/
def State.startLevel (s : State) (l : BitVec 2) : State :=
  let now := s.pwr.levelNow
  ((s.setPwr (fun p => { p with levelFrom := now, levelTo := l, levelNow := slower now l, moving := true })).commandReg
    true l false).commandReg false l false

/-- A LEVEL held under R597 is taken up. -/
def State.takeLevel (s : State) : State :=
  match s.pwr.heldLevel with
  | some l =>
    if s.pwr.moving ∨ s.pwr.step ≠ .none then s else (s.setPwr (fun p => { p with heldLevel := none })).startLevel l
  | none => s

/-- The change of level ends with both acknowledgements. -/
def State.levelDone (s : State) : State :=
  (((s.setPwr (fun p => { p with levelNow := p.levelTo, moving := false })).bump R.PWR_CNT_LEVEL).fire P.PWR
    E.PWR_LEVEL_DONE).takeLevel

/-- The change of level fails (R600). -/
def State.levelFail (s : State) : State :=
  let a := s.pwr.levelFrom
  let b := s.pwr.levelTo
  let s1 := s.setPwr (fun p => { p with levelNow := slower a b, moving := false })
  let s2 := if b.toNat < a.toNat then (s1.commandReg true a false).commandReg false a false else s1
  ((s2.bump R.PWR_CNT_LEVEL_FAIL).fire P.PWR E.PWR_LEVEL_FAIL).takeLevel

/-- A write of PWR_CTL. -/
def State.opPwrCtl (s : State) (v : Word) : State :=
  let s1 := s.store R.PWR_PWR_CTL v
  let l : BitVec 2 := v.setWidth 2
  if s.pwr.moving ∨ s.pwr.step ≠ .none then s1.setPwr (fun p => { p with heldLevel := some l }) else s1.startLevel l

/-- A write of PMB_CFG: VTRIM is clamped to -20 to +20 mV. -/
def State.opPmbCfg (s : State) (v : Word) : State :=
  s.store R.PWR_PMB_CFG (setField v 16 8 (clampTo 20 (signedBits 8 (getField v 16 8)) % 256).toNat)

/-! ### The boot begins (R617, R624) -/

/-- The boot starts from step B1. -/
def State.bootStart (s : State) : State :=
  { s with rst := { s.rst with boot := .loading, steps := [1], ended := [], cause0 := 0, cause1 := 0, copy := false,
                               noSfdp := false, torn := false, hdr := none } }.startTimer T.seamLost

/-! ### The wake sequence (R608) -/

/-- A set of domains. -/
def domSet (f : Nat → Bool) : BitVec 34 := BitVec.ofNat 34 ((List.range 34).foldl (fun n d => n + b2n (f d) * 2 ^ d) 0)

/-- D01-D11, the line die. -/
def lineDoms : BitVec 34 := domSet (fun d => decide (1 ≤ d) && decide (d ≤ 11))

/-- D19-D22, the DDR5 channels. -/
def memDoms : BitVec 34 := domSet (fun d => decide (19 ≤ d) && decide (d ≤ 22))

/-- D19-D23, the domains that the memory step switches on. -/
def stepDoms : BitVec 34 := memDoms ||| domSet (fun d => decide (d = 23))

/-- Domain `d` alone. -/
def domBit (d : Fin 34) : BitVec 34 := BitVec.ofNat 34 (2 ^ d.val)

/-- A wake ends: WAKE_DONE is raised and counted, and a PCIe holder without its link has 200 ms (R90, R608, R609). -/
def State.finishWake (s : State) : State :=
  let s1 := s.setPwr (fun p => { p with st := .run, step := .none, waking := false, fromReset := false })
  if s.pwr.waking then
    let s2 := ((s1.setPwr (fun p => { p with failPin := false })).bump R.PWR_CNT_WAKE).fire P.PWR E.PWR_WAKE_DONE
    let s3 := if s2.own.st ≠ .vacant ∧ s2.own.holder = 0 ∧ ¬ s2.hif.l0 then s2.startTimer T.wakeL0 else s2
    s3.takeLevel
  else s1.takeLevel

/-- The receive chains with ENABLE 1 start. -/
def State.startChains (s : State) : State :=
  (List.finRange 4).foldl (fun (t : State) (c : Chan) => if t.bit (F.LRX_RX_CTL_ENABLE c.val) then t.rxOn c else t) s

/-- The device time after Deep (R527). -/
def State.loadTime (s : State) : State :=
  if s.tim.rtcFail then { s with clock := { s.clock with line := 0, fab := 0, flow := 0 } }.setQual .invalid
  else
    let trim : Int := if s.bit F.TIM_RTC_TRIM_VALID then signedBits 24 (s.fld F.TIM_RTC_TRIM_PPM) else 0
    let d := roundDiv (((s.clock.rtc - s.tim.deepN : Nat) : Int) * 200000000000000000) (100000000 + trim)
    let t := s.tim.deepT + d.toNat + s.clock.rtcNs * 1024
    let s1 := { s with clock := { s.clock with line := t, fab := t, flow := t } }
    let s2 := s1.setTim (fun x => { x with f := x.deepI, i := x.deepI, servo := .holdover })
    (s2.wr R.TIM_SLEEP_LAST (BitVec.ofInt 32 (d / secUnits))).setQual .coarse

/-- The logic step has its domains: after Nap the line die starts again (R528); after Deep and a reset the boot begins, and
a wake from Deep ends with the fill of step B3. -/
def State.logicDone (s : State) : State :=
  if s.pwr.fromReset then s.finishWake.bootStart
  else if s.pwr.st = .deep then
    let s1 := s.loadTime
    { s1 with rst := { s1.rst with cause := 5 } }.bootStart
  else
    let s1 := { s with clock := { s.clock with line := s.clock.fab, remL := s.clock.remF },
                       seam := { s.seam with phase := .training, lockLine := 0, lockFab := 0, failLine := 0, failFab := 0 } }
    let s2 := s1.setTim (fun t => { t with servo := if t.servo = .free then .free else .holdover })
    s2.startChains.finishWake

/-- The logic step begins: every domain that is off and has not failed is switched on; in limp state not the DDR5
channels. -/
def State.logicStep (s : State) : State :=
  let p := s.pwr
  let want := ~~~ p.on &&& ~~~ p.dead &&& (if p.limp then ~~~ memDoms else BitVec.allOnes 34)
  let s1 := s.setPwr (fun p => { p with step := .logic, waitGood := want })
  if want = 0 then s1.logicDone else s1

/-- A channel that the memory step waits for. -/
def State.memPending (s : State) (m : Chan) : Bool :=
  decide ((s.ch m).st = .selfRefresh) || decide ((s.ch m).st = .training) || (s.ch m).want

/-- The memory step ends once every channel is UP, or withdrawn. -/
def State.memCheck (s : State) : State :=
  if s.pwr.step = .memory ∧ s.pwr.waitGood &&& stepDoms = 0 ∧ (List.finRange 4).all (fun m => !s.memPending m) then
    (if s.pwr.st = .doze ∨ s.pwr.st = .run then s.finishWake else s.logicStep)
  else s

/-- The memory step begins: D19-D22, and D23 after Deep; after Deep and on leaving limp state the channels of MEM_CTL.EN = 1
are trained (R443). -/
def State.memStep (s : State) : State :=
  let want := ~~~ s.pwr.on &&& ~~~ s.pwr.dead &&& stepDoms
  let s1 := s.setPwr (fun p => { p with step := .memory, waitGood := p.waitGood ||| want })
  let s2 :=
    if s.pwr.st = .deep ∨ s.pwr.st = .run then
      (List.finRange 4).foldl (fun (t : State) (m : Chan) =>
        if t.bit (F.MEM_MEM_CTL_EN m.val) ∧ (t.ch m).st ≠ .up ∧ (t.ch m).st ≠ .training then
          (if t.domOn (19 + m.val) then t.startTraining m false else t.setCh m { t.ch m with want := true, eyeOnly := false })
        else t) s1
    else s1
  s2.memCheck

/-- The device enters limp state (R610). -/
def State.enterLimp (s : State) : State :=
  let s1 := ((s.setPwr (fun p => { p with limp := true })).bump R.PWR_CNT_LIMP).fire P.PWR E.PWR_LIMP
  let s2 := (List.finRange 4).foldl (fun (t : State) (c : Chan) => t.rxOff c) s1
  s2.setQual .invalid

/-- After the oscillator step: a wake goes on to the memory step, which limp state skips; a reset goes on to the logic step
once RESET_N is high (R617). -/
def State.oscDone (s : State) : State :=
  let s1 := s.stopTimer T.osc
  if s1.pwr.fromReset then
    (if s1.rst.inReset then s1.setPwr (fun p => { p with st := .run, step := .none }) else s1.logicStep)
  else if s1.pwr.limp then s1.logicStep
  else s1.memStep

/-- The oscillator step: after Deep and in a reset, OSC_READY must be high. -/
def State.oscStep (s : State) : State :=
  if (s.pwr.fromReset ∨ s.pwr.st = .deep) ∧ ¬ s.pins.oscReady then
    (s.setPwr (fun p => { p with step := .oscillator })).startTimer T.osc
  else s.oscDone

/-- The regulator step: the regulators that it commands, and which of them it switches on. -/
def State.regStep (s : State) (line fab : Option Bool) : State :=
  let l := s.pwr.wakeLevel
  let s1 := s.setPwr (fun p => { p with step := .regulator })
  let s2 := match line with
    | some on => s1.commandReg true l on
    | none => s1
  match fab with
  | some on => s2.commandReg false l on
  | none => s2

/-- A wake begins (R606, R608): WAKE_LAST records its source; the step that the state left needs first. -/
def State.startWake (s : State) (src gpio : Nat) : State :=
  let s1 := (s.wr R.PWR_WAKE_LAST (BitVec.ofNat 32 (src + gpio * 2 ^ 4))).setPwr (fun p =>
    { p with waking := !p.fromReset, dead := 0, regL := { p.regL with met := false }, regF := { p.regF with met := false } })
  match s.pwr.st with
  | .run => s
  | .doze => s1.memStep
  | .nap => s1.regStep (some true) (if s.pwr.levelNow = s.pwr.wakeLevel then none else some false)
  | .deep => s1.regStep (some true) (some true)

/-- A wake fails at the regulator step (R609): the regulators that it switched on are switched off. -/
def State.wakeFail (s : State) (line : Bool) : State :=
  let deep := decide (s.pwr.st = .deep) || s.pwr.fromReset
  let s1 := s.regOff true
  let s2 := if deep then s1.regOff false else s1
  let w := BitVec.ofNat 32 (1 + b2n line * 2 ^ 3 + b2n (!line) * 2 ^ 4 + 2 ^ 31)
  let s3 := ((s2.wr R.PWR_WAKE_FAIL w).bump R.PWR_CNT_WAKE_FAIL).setPwr (fun p =>
    { p with step := .none, waking := false, failPin := true, st := if p.fromReset then .deep else p.st })
  if s3.domOn 29 then s3.fire P.PWR E.PWR_WAKE_FAIL else s3.setPwr (fun p => { p with failHeld := true })

/-- Both regulators that were asked have answered: the change of level, or the regulator step, ends. -/
def State.regsDone (s : State) : State :=
  if s.pwr.regL.waiting ∨ s.pwr.regF.waiting then s
  else if s.pwr.moving then s.levelDone
  else if s.pwr.step = .regulator then (s.setPwr (fun p => { p with levelNow := p.wakeLevel })).oscStep
  else s

/-- The power of a channel's domain is good in the memory step: Doze ends its self-refresh; otherwise it trains (R443, log
entry 47). -/
def State.memPower (s : State) (m : Chan) : State :=
  let c := s.ch m
  if c.st = .selfRefresh then
    (if s.pwr.st = .doze then s.setCh m { c with st := .up, eyeOnly := false } else s.startTraining m c.eyeOnly)
  else if c.want then s.startTraining m c.eyeOnly
  else s

/-- A domain is on. -/
def State.domGood (s : State) (d : Fin 34) : State :=
  if s.pwr.waitGood &&& domBit d = 0 then s
  else
    let s1 := s.setPwr (fun p => { p with on := p.on ||| domBit d, waitGood := p.waitGood &&& ~~~ domBit d })
    let s2 := if d.val = 29 ∧ s1.pwr.failHeld then
      (s1.setPwr (fun p => { p with failHeld := false })).fire P.PWR E.PWR_WAKE_FAIL else s1
    if s2.pwr.step = .memory then
      (if 19 ≤ d.val ∧ d.val ≤ 22 then s2.memPower (Fin.ofNat 4 (d.val - 19)) else s2).memCheck
    else if s2.pwr.step = .logic ∧ s2.pwr.waitGood = 0 then s2.logicDone
    else s2

/-- A domain has failed (R608). -/
def State.domFail (s : State) (d : Fin 34) : State :=
  if s.pwr.waitGood &&& domBit d = 0 then s
  else
    let s1 := s.setPwr (fun p => { p with dead := p.dead ||| domBit d, waitGood := p.waitGood &&& ~~~ domBit d })
    let k := if d.val < 32 then R.PWR_DOM_FAIL_LO else R.PWR_DOM_FAIL_HI
    let s2 := (s1.setFld ⟨k, d.val % 32, 1⟩ 1).fire P.PWR E.PWR_DOMAIN_FAIL
    if s2.pwr.step = .memory then s2.memCheck
    else if s2.pwr.step = .logic ∧ s2.pwr.waitGood = 0 then s2.logicDone
    else s2

/-! ### What a loss of power or a reset leaves (R588, R605, R614) -/

/-- Registers that the selvedge domain keeps in every reset: RTC_TRIM and SLEEP_LAST (R614). -/
def keptReg (k : Nat) : Bool := decide (k = R.TIM_RTC_TRIM) || decide (k = R.TIM_SLEEP_LAST)

/-- Registers that Deep keeps: the pages of the selvedge domain, and what the memory step of the wake needs (log entry
48). -/
def keptInDeep (k : Nat) : Bool :=
  keptReg k || decide (pageOf k = P.OWN) || decide (pageOf k = P.PWR) ||
    (decide (0x43 ≤ pageOf k) && decide (pageOf k ≤ 0x46) && decide (ofsOf k = 0x040))

/-- Every block outside the selvedge domain at its reset value, with the registers of `keep`; the flash and the fuses keep
their content, and so do memory cells until they are filled. -/
def State.forget (s : State) (keep : Nat → Bool) : State :=
  { State.reset with
    regs := mapFilter keep s.regs
    shown := mapFilter keep s.shown
    mem := s.mem
    nextPkt := s.nextPkt
    act := { st := if s.act.silenced then .silenced else .dark, silenced := s.act.silenced, reason := s.act.reason,
             ch := s.act.ch.map (fun (a : ActCh) => { trip := a.trip, fb := a.fb }) }
    key := { wraps := s.key.wraps, fused := s.key.fused, bad := s.key.bad }
    tim := { rtcFail := s.tim.rtcFail, deepT := s.tim.deepT, deepN := s.tim.deepN, deepI := s.tim.deepI }
    log := { flash := s.log.flash, head := s.log.head }
    rst := { cause := s.rst.cause, straps := s.rst.straps, inReset := s.rst.inReset, unpowered := s.rst.unpowered,
             boot := .idle, steps := [] }
    pins := s.pins
    timers := []
    pending := s.pending
    resp := s.resp
    out := s.out
    fresh := s.fresh }

/-- A device reset (R613-R617): the rails and the clock are brought up where they are not, at level P0. -/
def State.deviceReset (s : State) (cause : BitVec 3) : State :=
  let moved := decide (s.pwr.levelNow ≠ 0) || s.pwr.moving
  let line := if s.pwr.st = .nap ∨ s.pwr.st = .deep then some true else if moved then some false else none
  let fab := if s.pwr.st = .deep then some true else if moved then some false else none
  let s1 := s.forget keptReg
  let s2 := { s1 with
    own := { sealUse := s.own.sealUse, armed := s.own.armed, lfsr := s.own.lfsr, hits := s.own.hits, misses := s.own.misses,
             matchSeen := s.own.matchSeen }
    clock := { rtc := s.clock.rtc, rtcNs := s.clock.rtcNs }
    pwr := { on := s.pwr.on, fromReset := true }
    rst := { s1.rst with cause := cause } }
  if line.isSome ∨ fab.isSome then s2.regStep line fab else s2.oscStep

/-! ### Sleep (R601-R605) -/

/-- How deep a sleep state is. -/
def SleepSt.num : SleepSt → Nat
  | .run => 0 | .doze => 1 | .nap => 2 | .deep => 3

/-- PWR_STAT.STEP as a number. -/
def WakeStep.num : WakeStep → Nat
  | .none => 0 | .entering => 1 | .regulator => 2 | .oscillator => 3 | .memory => 4 | .logic => 5

/-- A step of a wake is in progress. -/
def State.inWake (s : State) : Bool := decide (2 ≤ s.pwr.step.num)

/-- An external buffer is held. -/
def State.extHeld (s : State) : Bool := s.bufs.any (fun b => keyExt b.1 && decide (0 < b.2.count))

/-- Why a sleep command is refused (R601), 0: it is not. -/
def State.sleepCause (s : State) (st : SleepSt) : Nat :=
  if s.log.pf then 2
  else if st ≠ .doze then 0
  else if s.extHeld then 4
  else if (List.finRange 4).any (fun m => decide ((s.ch m).st = .training)) then 5
  else if s.pwr.limp then 6
  else 0

/-- A sleep command is refused. -/
def State.sleepRefuse (s : State) (cause : Nat) : State :=
  (s.setPwr (fun p => { p with refuse := BitVec.ofNat 3 cause })).fire P.PWR E.PWR_SLEEP_REFUSED

/-- The sleep command that waits first leaves the list. -/
def State.nextEntry (s : State) : State :=
  let s1 := s.setPwr (fun p => { p with entries := p.entries.tail, step := if p.step = .entering then .none else p.step })
  if s1.pwr.entries = [] then s1.stopTimer T.sleepWait else s1.startTimer T.sleepWait

/-- A sleep command (R601): refused, or it waits; during a wake it has no effect (R607), and none for a state that is not
deeper. -/
def State.sleepCmd (s : State) (st : SleepSt) : State :=
  if s.inWake ∨ st.num ≤ s.pwr.st.num then s
  else if s.sleepCause st ≠ 0 then s.sleepRefuse (s.sleepCause st)
  else
    let s1 := s.setPwr (fun p => { p with entries := p.entries ++ [st] })
    if s.pwr.entries = [] then s1.startTimer T.sleepWait else s1

/-- What R601 waits for has ended. -/
def State.sleepReady (s : State) : Bool :=
  !s.pwr.moving && decide (s.pwr.step = .none) &&
    s.cmt.slots.toList.all (fun x => decide (x.st ≠ .preparing) && decide (x.st ≠ .applying))

/-- Nothing is in transmission that the entry waits for: bursts, and for Deep frames too (R604, R605). -/
def State.quiet (s : State) (st : SleepSt) : Bool :=
  s.upb.toList.all (fun u => decide (u.cur = none)) &&
    (decide (st ≠ .deep) || (s.lanes.toList.all (fun l => decide (l.mac.tx = none)) &&
      s.lports.toList.all (fun l => decide (l.mac.tx = none))))

/-- The DRAM goes into self-refresh, and D19-D22 are switched off (R443, R602, R604). -/
def State.selfRefresh (s : State) : State :=
  let s1 := (List.finRange 4).foldl (fun (t : State) (m : Chan) =>
    let c := t.ch m
    match c.st with
    | .up => t.setCh m { c with st := .selfRefresh, eyeOnly := true, want := false }
    | .training => t.setCh m { c with st := .selfRefresh, want := false }
    | _ => t.setCh m { c with want := false }) s
  s1.setPwr (fun p => { p with on := p.on &&& ~~~ memDoms, wakeLevel := p.levelNow })

/-- The entry into Doze. -/
def State.enterDoze (s : State) : State := (s.selfRefresh.setPwr (fun p => { p with st := .doze })).nextEntry

/-- The entry into Nap (R318, R604): the chains are OFF, the Seam is stopped, the line die has no power; its registers keep
their values (R36, log entry 49), and what they show is kept in `dark`. A group that was committed while the entry waited stays in
PREPARING or APPLYING, and its messages are lost (DESIGN CHOICE, log entry 133). -/
def State.enterNap (s : State) : State :=
  let s1 := ((List.finRange 4).foldl (fun (t : State) (c : Chan) => t.rxOff c) s).eraseAll
  let s2 := { s1 with
    seam := { s1.seam with phase := .stopped, toLine := [], toFab := [], decisions := [], preps := [], held := [], heldLost := 0 }
    key := { wraps := s1.key.wraps, fused := s1.key.fused, bad := s1.key.bad, entropy := s1.key.entropy }
    dark := if s1.domOn 9 then some ⟨s1.tribs, s1.rows, s1.ttest, s1.upb, s1.key, s1.seam.held⟩ else s1.dark
    tribs := [], tfrags := Vector.replicate 4 [], rows := Vector.replicate 48 {}, ttest := {}
    upb := Vector.replicate 4 {} }
  let s3 := (s2.selfRefresh.setPwr (fun p => { p with st := .nap, on := p.on &&& ~~~ lineDoms })).regOff true
  s3.nextEntry

/-- The entry into Deep (R605): time is recorded at the last RTC edge (R527), and everything but the selvedge domain is lost. -/
def State.enterDeep (s : State) : State :=
  let s1 := s.forget keptInDeep
  let t := { s1.tim with deepT := s.clock.fab - s.clock.rtcNs * 1024, deepN := s.clock.rtc, deepI := s.tim.i }
  let s2 := { s1 with own := s.own, tim := t, clock := s.clock, pins := { s.pins with oscReady := false },
                      timers := mapFilter (fun k => decide (3 ≤ k) && decide (k ≤ 8)) s.timers
                      pwr := { levelNow := s.pwr.levelNow, heldLevel := s.pwr.heldLevel, st := .deep, wakeLevel := s.pwr.levelNow,
                               refuse := s.pwr.refuse, failPin := s.pwr.failPin, failHeld := s.pwr.failHeld,
                               on := domBit 0 } }
  (s2.regOff true).regOff false

/-- The sleep command that waits first proceeds (R601-R605): for Nap and Deep the terminal goes Dark, and what is in transmission
ends first. -/
def State.sleepEntry (s : State) : State :=
  match s.pwr.entries with
  | [] => s
  | st :: _ =>
    let finish := fun (t : State) => if t.quiet st then (if st = .nap then t.enterNap else t.enterDeep) else t
    if s.pwr.step = .entering then finish s
    else if ¬ s.sleepReady then s
    else if s.sleepCause st ≠ 0 then (s.sleepRefuse (s.sleepCause st)).nextEntry
    else if st = .run ∨ st.num ≤ s.pwr.st.num then s.nextEntry
    else if st = .doze then s.enterDoze
    else finish ((s.setPwr (fun p => { p with step := .entering })).actOff)

/-- A wake source fires (R606, R607): it cancels an entry, or starts a wake. -/
def State.wakeBy (s : State) (src gpio : Nat) : State :=
  if s.inWake ∨ s.rst.unpowered then s
  else if s.pwr.entries ≠ [] then
    let s1 := ((s.setPwr (fun p => { p with entries := [], step := .none })).stopTimer T.sleepWait).sleepRefuse 3
    s1.presenceMoved (fun c => s1.present c)
  else if s.pwr.st = .run then s
  else s.startWake src gpio

/-- A write of PWR_CMD, its bits in their order (R601, R606, R610). -/
def State.opPwrCmd (s : State) (r : Req) (v : Word) : State :=
  let s1 := if v.getLsbD 0 then s.sleepCmd .doze else s
  let s2 := if v.getLsbD 1 then s1.sleepCmd .nap else s1
  let s3 := if v.getLsbD 2 then s2.sleepCmd .deep else s2
  let s4 := if v.getLsbD 3 ∧ ¬ s3.inWake ∧ (s3.pwr.st = .doze ∨ s3.pwr.st = .nap) then s3.startWake 1 0 else s3
  if v.getLsbD 4 then
    (if ¬ s4.pins.oscReady then s4.refuse r R.PWR_PWR_CMD
     else if s4.pwr.limp ∧ s4.pwr.step = .none then ((s4.setPwr (fun p => { p with limp := false })).startChains).memStep
     else s4)
  else s4

/-- The depth of a queue whose profile has EXT_EN = 1 has reached its SPILL_KIB (R603). -/
def State.spilling (s : State) : Bool :=
  s.queues.any (fun q =>
    let p := s.profileOf q.1
    decide (s.ent (F.BPM_PROF_CFG_EXT_EN p) = 1) && decide (s.ent (F.BPM_PROF_CFG_SPILL_KIB p) * 1024 ≤ s.depth q.1))

/-! ### Registers -/

/-- PWR_STAT. -/
def State.pwrStat (s : State) : Word :=
  let p := s.pwr
  BitVec.ofNat 32 (p.levelNow.toNat + b2n p.moving * 2 ^ 2 + p.st.num * 2 ^ 4 + p.step.num * 2 ^ 6 + b2n p.limp * 2 ^ 9 +
    b2n s.pins.oscReady * 2 ^ 10 + p.refuse.toNat * 2 ^ 12)

/-- The computed registers of page PWR. -/
def readPWR (s : State) (o : Nat) : Option Word :=
  if o = 0x048 then some s.pwrStat
  else if o = 0x064 then some (s.pwr.on.setWidth 32)
  else if o = 0x068 then some (BitVec.ofNat 32 (s.pwr.on.toNat / 2 ^ 32))
  else none

/-! ### Commands -/

/-- LEVEL_WRITE (R596, R597). -/
def execLevelWrite (r : Req) (v : Word) (s : State) : Res :=
  .next (s.access r R.PWR_PWR_CTL true (fun t => t.opPwrCtl v))

/-- REGULATOR_ACK (R599). -/
def execRegulatorAck (line : Bool) (s : State) : Res :=
  .next (if (s.reg line).waiting then (s.setRegulator line { s.reg line with waiting := false }).regsDone else s)

/-- PMBUS_ATTEMPT_TIMEOUT (R599, R600, R609). -/
def execPmbusAttemptTimeout (line : Bool) (s : State) : Res :=
  let x := s.reg line
  .next (if ¬ x.waiting then s
  else if x.retries < 3 then
    ((s.setRegulator line { x with retries := x.retries + 1 }).bump R.PWR_CNT_PMB_RETRY).pmbSend line x.cmds
  else
    let s1 := s.setRegulator line { x with waiting := false }
    if s.pwr.moving then s1.levelFail else if s.pwr.step = .regulator then s1.wakeFail line else s1)

/-- DOZE (R601). -/
def execDoze (r : Req) (v : Word) (s : State) : Res :=
  .next (s.access r R.PWR_PWR_CMD true (fun t => t.opPwrCmd r (v ||| 1)))

/-- NAP (R601, R604). -/
def execNap (r : Req) (v : Word) (s : State) : Res :=
  .next (s.access r R.PWR_PWR_CMD true (fun t => t.opPwrCmd r (v ||| 2)))

/-- DEEP (R601, R605). -/
def execDeep (r : Req) (v : Word) (s : State) : Res :=
  .next (s.access r R.PWR_PWR_CMD true (fun t => t.opPwrCmd r (v ||| 4)))

/-- WAKE (R606). -/
def execWake (r : Req) (v : Word) (s : State) : Res :=
  .next (s.access r R.PWR_PWR_CMD true (fun t => t.opPwrCmd r (v ||| 8)))

/-- LEAVE_LIMP (R610). -/
def execLeaveLimp (r : Req) (v : Word) (s : State) : Res :=
  .next (s.access r R.PWR_PWR_CMD true (fun t => t.opPwrCmd r (v ||| 16)))

/-- SLEEP_ENTRY (R601-R605). -/
def execSleepEntry (s : State) : Res := .next s.sleepEntry

/-- SLEEP_WAIT_TIMEOUT (R601). -/
def execSleepWaitTimeout (s : State) : Res :=
  .next (if s.pwr.entries ≠ [] ∧ s.pwr.step ≠ .entering then (s.sleepRefuse 1).nextEntry else s)

/-- DOZE_AUTO_EXIT (R603). -/
def execDozeAutoExit (s : State) : Res :=
  .next (if s.pwr.st = .doze ∧ ¬ s.inWake ∧ (s.act.st = .holdover ∨ s.spilling) then
    (s.fire P.PWR E.PWR_DOZE_EXIT).startWake 6 0
  else s)

/-- WAKE_SOURCE (R606, R607): a source whose bit of WAKE_SRC is 1. The presence source wakes while the button is stuck too (DESIGN
CHOICE, log entry 131). -/
def execWakeSource (w : WakeSrc) (s : State) : Res :=
  .next (match w with
  | .gpio k => if (s.rd R.PWR_WAKE_SRC).getLsbD k.val then s.wakeBy 2 k.val else s
  | .presence => if s.bit F.PWR_WAKE_SRC_PRESENCE then s.wakeBy 3 0 else s
  | .rtc => if s.bit F.PWR_WAKE_SRC_RTC_ALARM then s.wakeBy 4 0 else s
  | .seal => if s.bit F.PWR_WAKE_SRC_SEAL then s.wakeBy 5 0 else s)

/-- OSC_READY_RISE (R608, R610). -/
def execOscReadyRise (s : State) : Res :=
  let s1 := { s with pins := { s.pins with oscReady := true } }
  .next (if s.pwr.step = .oscillator then s1.oscDone
  else if s.pwr.limp ∧ ¬ s.pins.oscReady then s1.fire P.PWR E.PWR_OSC_BACK
  else s1)

/-- OSC_TIMEOUT (R608, R610). -/
def execOscTimeout (s : State) : Res :=
  .next (if s.pwr.step = .oscillator then s.enterLimp.oscDone else s)

/-- DOMAIN_POWER_GOOD (R608). -/
def execDomainPowerGood (d : Fin 34) (s : State) : Res := .next (s.domGood d)

/-- DOMAIN_TIMEOUT (R608): 100 µs have passed after the retry too. -/
def execDomainTimeout (d : Fin 34) (s : State) : Res := .next (s.domFail d)

/-- A withdrawal that no requester asked for: the spec gives the record no SRC. -/
def State.withdrawFree (s : State) (m : Chan) (stp : BitVec 4) : State :=
  let (w, s1) := s.freeVal
  s1.withdraw m stp w.toNat

/-- TRAINING_DONE (R443, R444): of a channel in TRAINING, with the capacity found; one that MEM_CTL does not state is step 8. -/
def execTrainingDone (m : Chan) (gib : Nat) (s : State) : Res :=
  let c := s.ch m
  .next (if c.st = .training then (if c.eyeOnly ∨ gib = c.cap then s.trained m gib else s.withdrawFree m 8).memCheck else s)

/-- TRAINING_FAIL (R444). -/
def execTrainingFail (m : Chan) (stp : BitVec 4) (s : State) : Res :=
  .next (if (s.ch m).st = .training then (s.withdrawFree m stp).memCheck else s)

/-- MEMORY_STEP_TIMEOUT (R608): the step of training in progress, which FAIL_STEP shows, the command does not say. -/
def execMemoryStepTimeout (m : Chan) (s : State) : Res :=
  .next (if s.pwr.step = .memory ∧ s.memPending m then
    let (w, s1) := s.freeVal
    (s1.withdrawFree m (w.setWidth 4)).memCheck
  else s)

end Sys2Proof.Machine
end

