-- ==== Sys2Proof/Machine/Boot.lean ====
section
/-! DEFINITION. Chapter 19: resets, the boot sequence, the cores' release, the watchdog, memory self-test (R613-R630); the ends of
log programs and of the power-fail flush (R580-R586); the entropy sources (R332, R436). -/

namespace Sys2Proof.Machine

open Sys2Proof

/-! ### Resets (R613-R619) -/

/-- The election begins with the end of a reset, and the shelf bus is a candidate where SHELF_EN is 1 (R82, R83). -/
def State.electionStart (s : State) : State :=
  let s1 := s.startTimer T.election
  if s1.rst.straps.getLsbD 2 then s1.addCandidate 1 else s1

/-- A reset by DEV_RST or the watchdog (R613). -/
def State.softReset (s : State) (cause : BitVec 3) : State := (s.deviceReset cause).electionStart

/-- The log flush that a reset waits for has ended (R615). -/
def State.flushEnded (s : State) : Bool :=
  if s.log.pf then s.log.flushed else !s.logOn || (decide (s.log.buf = []) && decide (s.log.writing = 0))

/-- A reset that waits for the flush is carried out once that has ended. -/
def State.resetIfFlushed (s : State) : State :=
  match s.rst.devWait with
  | some c => if s.flushEnded then s.softReset c else s
  | none => s

/-- DEV_RST or the watchdog asks for a device reset (R615). -/
def State.askReset (s : State) (cause : BitVec 3) : State :=
  match s.rst.devWait with
  | some _ => s
  | none => ({ s with rst := { s.rst with devWait := some cause } }.logStart).resetIfFlushed

/-- A write of RST_CMD. -/
def State.opRstCmd (s : State) (v : Word) : State := if v.getLsbD 0 then s.askReset 3 else s

/-! ### The cores (R626, R627) -/

/-- Cores of `old` that are not in `new` stop; those of `new` that are not in `old` start with invalid caches (R626). -/
def State.stopCores (s : State) (old new : BitVec 8) : State :=
  (List.finRange 8).foldl (fun (t : State) (n : Fin 8) =>
    if old.getLsbD n.val = new.getLsbD n.val then t else if old.getLsbD n.val then t.stopCore n else t.dropLines n) s

/-- While no core runs, a holder that is the control cores is lost (R88). -/
def State.coresGone (s : State) : State :=
  if s.fld F.RST_CORE_RUN_RUN = 0 ∧ s.own.st ≠ .vacant ∧ s.own.holder = 2 then s.holderLost false else s

/-- A write of CORE_RUN. -/
def State.opCoreRun (s : State) (v : Word) : State :=
  let old := (s.rd R.RST_CORE_RUN).setWidth 8
  ((s.store R.RST_CORE_RUN v).stopCores old (v.setWidth 8)).coresGone

/-- The core-complex reset: every bit of CORE_RUN is cleared and set. -/
def State.coreComplex (s : State) : State :=
  let old := (s.rd R.RST_CORE_RUN).setWidth 8
  (((s.wr R.RST_CORE_RUN 0).stopCores old 0).coresGone).wr R.RST_CORE_RUN 0xFF

/-- The cores are released at ENTRY (B7) with invalid caches: BOOT_DONE, and the cores become a candidate (R82, R624, R626). -/
def State.releaseCores (s : State) : State :=
  let all := s.rst.hdr.any BootHdr.allCores
  let r := { s.rst with boot := .running, steps := s.rst.steps.filter (fun n => decide (n ≠ 7)), ended := 7 :: s.rst.ended }
  (({ s with rst := r }.setCaches (fun _ => [])).wr R.RST_CORE_RUN (if all then 0xFF else 1) |>.fire P.RST E.RST_BOOT_DONE).addCandidate 2

/-- A write of WDT_KICK. -/
def State.opWdtKick (s : State) (v : Word) : State :=
  if v.getLsbD 0 ∧ s.fld F.RST_WDT_CFG_TIMEOUT_MS ≠ 0 then s.startTimer T.watchdog else s

/-- A write of WDT_CFG; a TIMEOUT_MS of 0 stops the watchdog. -/
def State.opWdtCfg (s : State) (v : Word) : State :=
  let s1 := s.store R.RST_WDT_CFG v
  if s1.fld F.RST_WDT_CFG_TIMEOUT_MS = 0 then s1.stopTimer T.watchdog else s1

/-! ### The boot sequence (R621-R625) -/

/-- Step `n` of the boot runs. -/
def State.inStep (s : State) (n : Nat) : Bool := s.rst.steps.contains n && !s.rst.inReset

/-- Step `n` begins, once. -/
def State.beginStep (s : State) (n : Nat) : State :=
  if s.rst.steps.contains n ∨ s.rst.ended.contains n then s
  else { s with rst := { s.rst with steps := s.rst.steps ++ [n] } }

/-- Step `n` ends. -/
def State.endStep (s : State) (n : Nat) : State :=
  { s with rst := { s.rst with steps := s.rst.steps.filter (fun i => decide (i ≠ n)), ended := n :: s.rst.ended } }

/-- Step `n` has ended. -/
def State.hasEnded (s : State) (n : Nat) : Bool := s.rst.ended.contains n

/-- Step B5 begins: MEMCFG goes into MEM_CTL, and the channels with EN = 1 are trained. -/
def State.beginB5 (s : State) : State :=
  if s.rst.steps.contains 5 ∨ s.hasEnded 5 then s
  else
    let s1 := match s.rst.hdr with
      | some h => (List.finRange 4).foldl (fun (t : State) (m : Chan) =>
          t.store (R.MEM_MEM_CTL m.val) ((h.memCfg.getD m.val 0).setWidth 32)) s
      | none => s
    ((List.finRange 4).foldl (fun (t : State) (m : Chan) =>
      if t.bit (F.MEM_MEM_CTL_EN m.val) ∧ ((t.ch m).st = .off ∨ (t.ch m).st = .withdrawn) then t.startTraining m false else t)
      s1).beginStep 5

/-- The steps that wait for what has ended begin (R624). -/
def State.bootNext (s : State) : State :=
  let loading := decide (s.rst.boot = .loading)
  let s1 := if s.hasEnded 1 then (if s.hasEnded 2 then s else s.beginStep 2).beginStep 3 else s
  let s2 := if s1.hasEnded 2 ∧ s1.hasEnded 3 then s1.beginStep 4 else s1
  if ¬ s2.hasEnded 4 then s2
  else
    let s3 := if s2.mxe.entropyOk then s2.beginB5 else s2
    let s4 := if loading ∧ s3.hasEnded 2 ∧ s3.rst.hdr.isSome then s3.beginStep 6 else s3
    if loading ∧ s4.hasEnded 6 then
      (if s4.rst.straps.getLsbD 4 then { s4 with rst := { s4.rst with boot := .held } } else s4.beginStep 7)
    else s4

/-- Both copies have failed (R625). -/
def State.bootFail (s : State) : State :=
  { s with rst := { s.rst with boot := .failed, hdr := none } }.fire P.RST E.RST_BOOT_FAIL

/-- Records the cause of a copy. -/
def State.copyFails (s : State) (copy1 : Bool) (cause : BitVec 4) : State :=
  { s with rst := if copy1 then { s.rst with cause1 := cause } else { s.rst with cause0 := cause, copy := true } }

/-- The number in `n` bytes of a header from byte `i` (R6). -/
def hdrNum (raw : List Byte) (i n : Nat) : Nat := ofBytesBE (slice raw i n)

/-- The header that 256 bytes give (R622). LOG_BASE and LOG_SECT are as wide as the fields that they go into. -/
def bootHdr (raw : List Byte) : BootHdr :=
  let flags := hdrNum raw 6 2
  { bist := flags.testBit 0, allCores := flags.testBit 1, logEn := flags.testBit 2,
    imgLen := BitVec.ofNat 32 (hdrNum raw 8 4), load := BitVec.ofNat 32 (hdrNum raw 12 4), entry := BitVec.ofNat 32 (hdrNum raw 16 4),
    version := BitVec.ofNat 32 (hdrNum raw 24 4), logBase := BitVec.ofNat 12 (hdrNum raw 28 2), logSect := BitVec.ofNat 12 (hdrNum raw 30 2),
    memCfg := (List.range 4).map (fun m => raw.getD (32 + 4 * m) 0), digest := slice raw 48 32 }

/-- The first check of R623 that a header fails; 0: none. -/
def hdrCause (raw : List Byte) : BitVec 4 :=
  let h := bootHdr raw
  let last := h.load.toNat + h.imgLen.toNat
  if hdrNum raw 0 4 ≠ 0x4B584254 ∨ hdrNum raw 4 2 ≠ 1 then 1
  else if crc32 (slice raw 0 252) ≠ hdrNum raw 252 4 then 2
  else if 0x800000 < last ∨ h.entry.toNat < h.load.toNat ∨ last ≤ h.entry.toNat then 3
  else 0

/-- Copy 1 is tried: its header passes, or both copies have failed. -/
def State.tryCopy1 (s : State) (raw : List Byte) : State :=
  if hdrCause raw = 0 then { s with rst := { s.rst with hdr := some (bootHdr raw) } } else (s.copyFails true (hdrCause raw)).bootFail

/-- Step B2 ends: the header of copy 0, or of copy 1, passes, or both fail. -/
def State.endB2 (s : State) (sfdp : Bool) (copy0 copy1 : List Byte) : State :=
  let s1 := { s with rst := { s.rst with noSfdp := !sfdp } }
  (if s1.rst.copy then s1.tryCopy1 copy1
   else if hdrCause copy0 = 0 then { s1 with rst := { s1.rst with hdr := some (bootHdr copy0) } }
   else (s1.copyFails false (hdrCause copy0)).tryCopy1 copy1).endStep 2

/-- Banks that failed the self-test of step B3 are retired (R430, R629); the spec gives their records no SRC. -/
def State.retireBad (s : State) (banks : List Nat) : State :=
  if s.rst.hdr.all BootHdr.bist then
    banks.foldl (fun (t : State) b =>
      if 384 ≤ b ∨ t.ecc.banks.contains b then t
      else
        let (w, t1) := t.freeVal
        (t1.retireSilicon true b).retireNote true b w.toNat) s
  else s

/-- Step B3 ends: the on-chip memories hold zeros (R420); with it a wake from Deep ends, but for one in limp state. -/
def State.endB3 (s : State) (banks : List Nat) : State :=
  let s1 := ((s.retireBad banks).zeroRange 0 extBase).endStep 3
  if s1.pwr.st = .deep ∧ s1.pwr.step = .logic then
    (if s1.pwr.limp then s1.setPwr (fun p => { p with st := .run, step := .none }) else s1.finishWake)
  else s1

/-- LOG_CFG takes its value from the header. -/
def State.loadLogCfg (s : State) : State :=
  match s.rst.hdr with
  | some h => s.store R.EVT_LOG_CFG (BitVec.ofNat 32 (h.logBase.toNat + h.logSect.toNat * 2 ^ 16 + b2n h.logEn * 2 ^ 31))
  | none => s

/-- The retirement list is read, and its entries are retired (R432). -/
def State.retireList (s : State) (list : List Word) : State :=
  let s1 := list.foldl (fun (t : State) w =>
    let bank := w.getLsbD 31
    let n := if bank then getField w 0 9 else getField w 0 25
    if (if bank then t.ecc.banks else t.ecc.pages).contains n then t else t.retireSilicon bank n) s
  { s1 with ecc := { s1.ecc with list := min 4096 list.length } }

/-- After a power-on, the last record of class 3 decides whether the terminal starts in Silenced (R261). -/
def State.restoreSilence (s : State) (reason : Option (BitVec 8)) : State :=
  match reason with
  | some r =>
    if s.rst.cause = 1 ∧ ¬ s.act.silenced then
      (s.setAct (fun a => { a with silenced := true, fromLog := true, reason := r })).go .silenced
    else s
  | none => s

/-- Step B4 ends (R432, R582, R624): the CLASS 5 record is made. -/
def State.endB4 (s : State) (list : List Word) (last : Option Word) (torn : Bool) (reason : Option (BitVec 8)) : State :=
  let s1 := (s.loadLogCfg.retireList list).restoreSilence reason
  let s2 := { s1 with rst := { s1.rst with torn := torn },
                      log := { s1.log with seq := match last with | some w => w.toNat + 1 | none => s1.log.seq } }
  (s2.makeRecord 5 P.RST (toBytesBE 4 (last.getD 0).toNat ++ [BitVec.ofNat 8 (b2n torn), BitVec.ofNat 8 (b2n last.isNone)])).endStep 4

/-- The image of the copy in use is loaded into core RAM; whether its digest matches (R623, R624). -/
def State.loadImage (s : State) (h : BootHdr) (image : List Byte) : Bool × State :=
  (decide (sha256 image = h.digest), s.storeBytes h.load.toNat image)

/-- The image of copy 1 is loaded: it passes, or both copies have failed. -/
def State.loadCopy1 (s : State) (h : BootHdr) (image : List Byte) : State :=
  match s.loadImage h image with
  | (true, s1) => s1
  | (false, s1) => (s1.copyFails true 5).bootFail

/-- Copy 1 is used in place of copy 0: its header, then its image. -/
def State.useCopy1 (s : State) (copy1 image1 : List Byte) : State :=
  if hdrCause copy1 = 0 then (s.tryCopy1 copy1).loadCopy1 (bootHdr copy1) image1 else s.tryCopy1 copy1

/-- Step B6 ends: the image of a copy passes, or both copies have failed (R623). -/
def State.endB6 (s : State) (image copy1 image1 : List Byte) : State :=
  (match s.rst.hdr with
   | some h =>
     if s.rst.copy then s.loadCopy1 h image
     else
       match s.loadImage h image with
       | (true, s1) => s1
       | (false, s1) => (s1.copyFails false 5).useCopy1 copy1 image1
   | none => s.useCopy1 copy1 image1).endStep 6

/-- The images read have the lengths that their headers give (DESIGN CHOICE, log entry 155); the header of copy 0 is none where its image
could not be read. -/
def State.imageRead (s : State) (image copy1 image1 : List Byte) : Bool :=
  (match s.rst.hdr with
   | some h => decide (image.length = h.imgLen.toNat)
   | none => s.rst.copy) && (decide (hdrCause copy1 ≠ 0) || decide (image1.length = (bootHdr copy1).imgLen.toNat))

/-- A boot step ends with what it found. -/
def State.bootDone (s : State) (o : BootDone) : State :=
  match o with
  | .b1 programmed bad =>
    if s.inStep 1 then
      ({ s with key := { s.key with fused := programmed, bad := bad } }.endStep 1).bootNext
    else s
  | .b2 sfdp copy0 copy1 => if s.inStep 2 then (s.endB2 sfdp copy0 copy1).bootNext else s
  | .b3 banks => if s.inStep 3 then (s.endB3 banks).bootNext else s
  | .b4 list last torn silenced => if s.inStep 4 then (s.endB4 list last torn silenced).bootNext else s
  | .b5 =>
    if s.inStep 5 ∧ (List.finRange 4).all (fun m => decide ((s.ch m).st ≠ .training) && !(s.ch m).want) then s.endStep 5 else s
  | .b6 image copy1 image1 => if s.inStep 6 && s.imageRead image copy1 image1 then (s.endB6 image copy1 image1).bootNext else s
  | .b7 => if s.inStep 7 then s.releaseCores else s

/-- A write of BOOT_CMD (R624, R625). -/
def State.opBootCmd (s : State) (r : Req) (v : Word) : State :=
  let s1 :=
    if v.getLsbD 0 then
      (if s.rst.boot = .failed then
        { s with rst := { s.rst with boot := .loading, copy := false, cause0 := 0, cause1 := 0, hdr := none,
                                     ended := s.rst.ended.filter (fun n => decide (n ≠ 2 ∧ n ≠ 6)) } }.beginStep 2
       else s.refuse r R.RST_BOOT_CMD)
    else s
  if v.getLsbD 1 then (if s.rst.boot = .held then s1.releaseCores else s1.refuse r R.RST_BOOT_CMD) else s1

/-! ### Memory self-test (R628, R629) -/

/-- The target's number, clamped to the range of its kind. -/
def bistIndex (kind idx : Nat) : Nat := min idx ([383, 255, 0, 0, 3].getD kind 0)

/-- The target is idle. -/
def State.bistIdle (s : State) (kind idx : Nat) : Bool :=
  match kind with
  | 0 => !s.bit F.BPM_BPM_CTL_EN
  | 1 => !s.nodeLocked (idx * 4096)
  | 2 => !s.bit F.PRS_PROG_STAT_BUSY && !s.applying P.PRS
  | 3 => !s.bit F.CLS_FLOW_CTL_ON_EN
  | 4 =>
    let span := s.flowSpan idx
    decide ((s.memch.toList.getD idx {}).st = .up) && (List.range 8).all (fun k => !s.bit (F.BPM_EXT_REG_EN (4 * k + idx))) &&
      decide (span.2 ≤ span.1) && !s.mxe.running
  | _ => false

/-- A write of BIST_CTL. -/
def State.opBistCtl (s : State) (v : Word) : State :=
  let s1 := s.store R.SYS_BIST_CTL v
  if ¬ v.getLsbD 0 then s1
  else
    let kind := getField v 1 3
    let idx := bistIndex kind (getField v 16 9)
    if s.sys.active ∨ ¬ s.bistIdle kind idx then
      { s1 with sys := { s.sys with bist := .busy } }.fire P.SYS E.SYS_BIST_BUSY
    else ({ s1 with sys := ⟨.running, true, kind, idx⟩ }.wr R.SYS_BIST_ERR 0).wr R.SYS_BIST_ADDR 0

/-- What the test leaves in its target (R629). -/
def State.bistLeaves (s : State) (kind idx : Nat) : State :=
  match kind with
  | 0 => s.zeroRange (0x30000000 + idx * 0x20000) 0x20000
  | 1 => (s.zeroRange (nodeAddr (idx * 4096)) 0x10000).viewTree
  | 2 => { s with prog := s.prog.filter (fun e => decide (e.1 / 1024 = s.fld F.PRS_PROG_CTL_ACTIVE)) }.viewProg
  | 3 => s.zeroRange flowBase (65536 * 64)
  | 4 =>
    let m : Chan := Fin.ofNat 4 idx
    s.setCh m { s.ch m with eave := 0, done := false }
  | _ => s

/-- A test ends with `err` failing code words or lines, the first at `addr`. -/
def State.bistEnd (s : State) (err : Nat) (addr : Word) : State :=
  if ¬ s.sys.active then s
  else
    let s1 := s.bistLeaves s.sys.kind s.sys.index
    let s2 := (s1.wr R.SYS_BIST_ERR (BitVec.ofNat 32 (min (2 ^ 32 - 1) err))).wr R.SYS_BIST_ADDR (if err = 0 then 0 else addr)
    { s2 with sys := { s2.sys with bist := if err = 0 then .passed else .failed, active := false } }.fire P.SYS E.SYS_BIST_DONE

/-! ### The log writer (R580, R581, R586) -/

/-- A page program ends (R580, R581): its records are committed; or they are written once more at the next slots; a second failure
loses them. -/
def State.logProgrammed (s : State) (ok : Bool) : State :=
  let n := s.log.writing
  let recs := s.log.buf.take n
  if n = 0 then s
  else if ok then
    ({ s with log := { s.log with writing := 0, retried := false, buf := s.log.buf.drop n, flash := s.log.flash ++ recs.map some } }.bumpBy
      R.EVT_CNT_LOG_REC n).flashStart.logStart
  else
    let spoilt := s.log.flash ++ List.replicate n none
    if ¬ s.log.retried then
      let m := min (4 - spoilt.length % 4) n
      { s with log := { s.log with retried := true, writing := m, flash := spoilt } }.logEmit spoilt.length (recs.take m)
    else
      (({ s with log := { s.log with writing := 0, retried := false, buf := s.log.buf.drop n, flash := spoilt, flashErr := true }
        }.bumpBy R.EVT_CNT_LOG_LOST n).fire P.EVT E.EVT_LOG_FLASH_ERR).flashStart.logStart

/-! ### Registers -/

/-- BOOT_STAT.STATE as a number. -/
def BootSt.num : BootSt → Nat
  | .idle => 0 | .loading => 1 | .running => 2 | .failed => 3 | .held => 4

/-- BIST_STAT.STATE as a number. -/
def BistSt.num : BistSt → Nat
  | .idle => 0 | .running => 1 | .passed => 2 | .failed => 3 | .busy => 4

/-- The computed registers of page RST. -/
def readRST (s : State) (o : Nat) : Option Word :=
  let r := s.rst
  if o = 0x040 then some (r.cause.setWidth 32)
  else if o = 0x04C then
    some (BitVec.ofNat 32 (r.boot.num + r.cause0.toNat * 2 ^ 4 + r.cause1.toNat * 2 ^ 8 + b2n r.copy * 2 ^ 12 +
      b2n r.noSfdp * 2 ^ 13 + b2n r.torn * 2 ^ 14))
  else if o = 0x054 then some (match r.hdr with | some h => h.version | none => 0)
  else if o = 0x058 then some (match r.hdr with | some h => h.entry | none => 0)
  else if o = 0x05C then some (r.straps.setWidth 32)
  else none

/-- The computed registers of page SYS. -/
def readSYS (s : State) (o : Nat) : Option Word := if o = 0x048 then some (BitVec.ofNat 32 s.sys.bist.num) else none

/-! ### Commands -/

/-- POWER_ON (R613, R617): VSEL rises. -/
def execPowerOn (s : State) : Res :=
  .next (if s.rst.unpowered then
    let s1 := s.forget (fun _ => false)
    { s1 with act := {}, tim := { rtcFail := true }, mem := [], own := {}, clock := {},
              pwr := { on := domBit 0, fromReset := true },
              rst := { s1.rst with cause := 1, unpowered := false, straps := 0 } }.regStep (some true) (some true)
  else s)

/-- POWER_LOSS (R588, R661): the selvedge domain loses its content, and with it the device works no more. -/
def execPowerLoss (s : State) : Res :=
  let s1 := s.forget (fun _ => false)
  .next { s1 with act := {}, tim := {}, mem := [], own := {}, clock := {}, pwr := { on := 0 },
                  pins := { s1.pins with oscReady := false }, rst := { s1.rst with unpowered := true, straps := 0 } }

/-- RESET_ASSERT (R613-R618). -/
def execResetAssert (s : State) : Res :=
  let s1 := { s with rst := { s.rst with inReset := true } }
  .next (if s.rst.inReset ∨ s.rst.unpowered then s1 else s1.deviceReset 2)

/-- RESET_RELEASE (R82, R96-R98, R619): the straps are sampled; the boot starts once the clock runs. -/
def execResetRelease (straps : BitVec 5) (s : State) : Res :=
  .next (if ¬ s.rst.inReset then s
  else
    let use := straps.getLsbD 3
    let o : Own := { sealUse := use, armed := use }
    let s1 := { s with rst := { s.rst with inReset := false, straps := straps }, own := o }
    if s.rst.unpowered then s1
    else
      let s2 := s1.electionStart
      if s2.pwr.fromReset ∧ s2.pwr.step = .none ∧ s2.pwr.st = .run then s2.logicStep else s2)

/-- DEV_RST (R615). -/
def execDevRst (r : Req) (v : Word) (s : State) : Res :=
  .next (s.access r R.RST_RST_CMD true (fun t => t.opRstCmd (v ||| 1)))

/-- WATCHDOG_EXPIRE (R627). -/
def execWatchdogExpire (s : State) : Res :=
  .next (if s.running T.watchdog ∧ s.fld F.RST_WDT_CFG_TIMEOUT_MS ≠ 0 then
    let s1 := (s.stopTimer T.watchdog).fire P.RST E.RST_WDT
    let a := s.fld F.RST_WDT_CFG_ACTION
    if a = 0 then s1 else if a = 1 then s1.coreComplex else s1.askReset 4
  else s)

/-- WDT_KICK (R627). -/
def execWdtKick (r : Req) (v : Word) (s : State) : Res :=
  .next (s.access r R.RST_WDT_KICK true (fun t => t.opWdtKick (v ||| 1)))

/-- CORE_RUN_WRITE (R626). -/
def execCoreRunWrite (r : Req) (v : Word) (s : State) : Res :=
  .next (s.access r R.RST_CORE_RUN true (fun t => t.opCoreRun v))

/-- BOOT_STEP_DONE (R624). -/
def execBootStepDone (o : BootDone) (s : State) : Res := if bootWf o then .next (s.bootDone o) else .fault .illFormed

/-- FLASH_READ_TIMEOUT (R623): the copy being read fails with cause 4. -/
def execFlashReadTimeout (s : State) : Res :=
  .next (if s.inStep 2 then
    (if s.rst.copy then (((s.copyFails true 4).bootFail).endStep 2).bootNext else s.copyFails false 4)
  else if s.inStep 6 then
    (if s.rst.copy then (((s.copyFails true 4).bootFail).endStep 6).bootNext
     else { s.copyFails false 4 with rst := { (s.copyFails false 4).rst with hdr := none } })
  else s)

/-- BOOT_RETRY (R625). -/
def execBootRetry (r : Req) (v : Word) (s : State) : Res :=
  .next (s.access r R.RST_BOOT_CMD true (fun t => t.opBootCmd r (v ||| 1)))

/-- BOOT_RUN (R624). -/
def execBootRun (r : Req) (v : Word) (s : State) : Res :=
  .next (s.access r R.RST_BOOT_CMD true (fun t => t.opBootCmd r (v ||| 2)))

/-- BIST_GO (R628). -/
def execBistGo (r : Req) (v : Word) (s : State) : Res :=
  .next (s.access r R.SYS_BIST_CTL true (fun t => t.opBistCtl (v ||| 1)))

/-- BIST_DONE (R629). -/
def execBistDone (err : Nat) (addr : Word) (s : State) : Res := .next (s.bistEnd err addr)

/-- LOG_PAGE_PROGRAM (R580, R581, R615). -/
def execLogPageProgram (ok : Bool) (s : State) : Res := .next (s.logProgrammed ok).resetIfFlushed

/-- POWER_FAIL_FLUSH_DONE (R586). -/
def execPowerFailFlushDone (late : Bool) (s : State) : Res :=
  .next (if s.log.pf ∧ ¬ s.log.flushed ∧ s.log.buf = [] ∧ s.log.writing = 0 then
    { s with log := { s.log with flushed := true, late := late } }.resetIfFlushed
  else s)

/-- ENTROPY_TEST_PASS (R332, R436): waiting trainings begin, and step B5. -/
def execEntropyTestPass (fab : Bool) (s : State) : Res :=
  .next (if fab then
    let s1 := s.entropyUp
    let s2 := (List.finRange 4).foldl (fun (t : State) (m : Chan) =>
      let c := t.ch m
      if c.want ∧ t.domOn (19 + m.val) then t.startTraining m c.eyeOnly else t) s1
    if s2.rst.steps = [] ∧ s2.rst.ended = [] then s2 else s2.bootNext
  else s.setKey (fun k => { k with entropy := true }))

end Sys2Proof.Machine
end

