-- ==== Sys2Proof/Machine/Host.lean ====
section
/-! DEFINITION. Chapter 20: the PCIe endpoint and MSI-X (R631-R639), boot flash access (R649, R650), the management I2C master
(R651, R652), JTAG (R653, R654). -/

namespace Sys2Proof.Machine

open Sys2Proof

/-! ### The PCIe endpoint (R613, R638, R639, R655) -/

/-- Replaces HIF. -/
def State.setHif (s : State) (f : Hif → Hif) : State := { s with hif := f s.hif }

/-- The endpoint works: no reset of the device holds it, and D30 is on (R618). -/
def State.endpointOn (s : State) : Bool := !s.rst.inReset && !s.rst.unpowered && s.domOn 30

/-- An endpoint reset returns the configuration space, the MSI-X table and the PBA to their reset values; a PCIe holder is lost
(R88, R613, R638). -/
def State.endpointReset (s : State) : State :=
  let s1 := { s with regs := mapFilter (fun k => decide (k < R.HIF_MSIX_ADDR_LO 0 ∨ R.HIF_PBA_LO ≤ k)) s.regs }
  let s2 := s1.setHif (fun h => { h with d3 := false, msixEn := false, funcMask := false, pba := [] })
  if s2.own.st ≠ .vacant ∧ s2.own.holder = 0 then s2.holderLost false else s2

/-- The link leaves L0. -/
def State.leaveL0 (s : State) : State :=
  if s.hif.l0 then (s.setHif (fun h => { h with l0 := false, width := 0 })).fire P.HIF E.HIF_PCIE_LINK else s

/-- The link reaches L0, with the configuration that the host leaves in the function: PCIE_LINK, the messages that the PBA
holds, and PCIe becomes a candidate (R82, R639, R655). -/
def State.enterL0 (s : State) (width speed : BitVec 3) (d3 msixEn funcMask : Bool) : State :=
  let s1 := (s.stopTimer T.wakeL0).setHif (fun h => { h with l0 := true, width := width, speed := speed, d3 := d3, msixEn := msixEn,
                                                             funcMask := funcMask })
  let s2 := s1.drainPba
  if s.hif.l0 then s2 else (s2.fire P.HIF E.HIF_PCIE_LINK).addCandidate 0

/-- A write of MSIX_CTLv; a mask that is lifted sends the message that is pending (R639). -/
def State.opMsixCtl (s : State) (vec : Nat) (v : Word) : State :=
  let s1 := s.store (R.HIF_MSIX_CTL vec) v
  if v.getLsbD 0 then s1 else s1.drainPba

/-! ### The boot flash (R649, R650) -/

/-- The range from `a` over `n` bytes meets the log area: LOG_CFG.BASE over 4 + SECT sectors of 4 KiB. -/
def State.inLogArea (s : State) (a n : Nat) : Bool :=
  let base := s.fld F.EVT_LOG_CFG_BASE * 4096
  decide (a < base + (4 + s.fld F.EVT_LOG_CFG_SECT) * 4096) && decide (base < a + n)

/-- The bytes that an operation covers: one sector for an ERASE. -/
def flashSpan (op len : Nat) : Nat := if op = 3 then 4096 else len

/-- The address and length fit the operation. -/
def flashFits (op a len : Nat) : Bool :=
  decide (4 ≤ len) && decide (len ≤ 256) && decide (len % 4 = 0) &&
    (if op = 2 then decide (a % 256 + len ≤ 256) else if op = 3 then decide (a % 4096 = 0) else true)

/-- Why FLASH_CMD is refused, as FLASH_STAT.RESULT; 0: it is not. The hosts may read the log area (log entry 61). -/
def State.flashCause (s : State) (op a len : Nat) : Nat :=
  if s.hif.flashOp.isSome then 1
  else if op ≠ 1 ∧ s.inLogArea a (flashSpan op len) then 2
  else if s.log.pf then 3
  else if op ≠ 1 ∧ s.rst.noSfdp then 4
  else if ¬ flashFits op a len then 6
  else 0

/-- A write of FLASH_CMD. -/
def State.opFlashCmd (s : State) (v : Word) : State :=
  let op := getField v 0 2
  let len := getField v 8 9
  let a := s.fld F.HIF_FLASH_ADDR_ADDR
  if op = 0 then s
  else
    let c := s.flashCause op a len
    if c = 0 then (s.setHif (fun h => { h with flashOp := some (op, a, len), flashRun := false })).flashStart
    else ((s.setHif (fun h => { h with flashRes := BitVec.ofNat 3 c })).bump R.HIF_CNT_FLASH_ERR).fire P.HIF E.HIF_FLASH_ERR

/-- Puts bytes into consecutive registers, four to each, from byte 0 of the first (bits [31:24]). -/
def State.putBytes (s : State) (k : Nat) (bs : List Byte) : State :=
  (List.range bs.length).foldl (fun (t : State) i => t.setFld ⟨k + i / 4 * 4, 24 - i % 4 * 8, 8⟩ (bs.getD i 0).toNat) s

/-- A flash command ends; the log writer may go on. -/
def State.flashEnd (s : State) (result : BitVec 3) : State :=
  let s1 := s.setHif (fun h => { h with flashOp := none, flashRun := false, flashRes := result })
  let s2 := if result = 0 then s1 else s1.bump R.HIF_CNT_FLASH_ERR
  (s2.fire P.HIF E.HIF_FLASH_DONE).logStart

/-- A flash command that has begun ends with what it found: `data` are the bytes of a READ; a PROG may fail its read-back. -/
def State.flashDone (s : State) (bad : Bool) (data : List Byte) : State :=
  match (if s.hif.flashRun then s.hif.flashOp else none) with
  | some (1, _, len) => if bad ∨ data.length ≠ len then s else (s.putBytes (R.HIF_FLASH_BUF 0) data).flashEnd 0
  | some (2, _, _) => s.flashEnd (if bad then 5 else 0)
  | some _ => if bad then s else s.flashEnd 0
  | none => s

/-! ### The management I2C master (R651, R652) -/

/-- LEN of a transaction, clamped to 1-8. -/
def i2cLen (w : Word) : Nat := min 8 (max 1 (getField w 16 4))

/-- The first `n` bytes of OI2C_DATA0 and OI2C_DATA1. -/
def State.i2cBytes (s : State) (n : Nat) : List Byte :=
  (toBytesBE 4 (s.rd R.HIF_OI2C_DATA0).toNat ++ toBytesBE 4 (s.rd R.HIF_OI2C_DATA1).toNat).take n

/-- A write of OI2C_CMD. -/
def State.opI2cCmd (s : State) (r : Req) (v : Word) : State :=
  if ¬ v.getLsbD 31 then s
  else if s.hif.i2cOp.isSome then s.refuse r R.HIF_OI2C_CMD
  else (s.setHif (fun h => { h with i2cOp := some v })).emit (.i2c v (if v.getLsbD 20 then [] else s.i2cBytes (i2cLen v)))

/-- A transaction ends with RESULT; for SDA low at START nine clock pulses and a STOP go out first. -/
def State.i2cEnd (s : State) (result : BitVec 2) : State :=
  let s1 := (if result = 3 then s.emit .i2cClear else s).setHif (fun h => { h with i2cOp := none, i2cRes := result })
  (if result = 0 then s1 else s1.bump R.HIF_CNT_OI2C_ERR).fire P.HIF E.HIF_OI2C_DONE

/-- A transaction ends with RESULT; a read that is done brings its bytes. -/
def State.i2cDone (s : State) (result : BitVec 2) (data : List Byte) : State :=
  match s.hif.i2cOp with
  | some w =>
    if result = 0 ∧ w.getLsbD 20 then
      (if data.length = i2cLen w then (s.putBytes R.HIF_OI2C_DATA0 data).i2cEnd 0 else s)
    else s.i2cEnd result
  | none => s

/-! ### JTAG (R653, R654)

The rows of the command table hold no scan of the TAP: its instruction changes with JTAG_CLOSE and reset alone (log entry 154). -/

/-- The instruction that a code selects: a closed TAP takes every code but three as BYPASS (R653). -/
def Hif.tapSelect (h : Hif) (t : Tap) : Tap :=
  match t with
  | .other c => if h.jtag then .other c else .bypass
  | t => t

/-- The data register that the TAP shifts out under its instruction: 32 bits of IDCODE, or the one bit of BYPASS. What SAMPLE/PRELOAD and
the other instructions capture the spec does not say. -/
def Hif.tapData (h : Hif) : Option (List Bool) :=
  match h.tap with
  | .idcode => some ((List.range 32).map (0x17240A6F : Nat).testBit)
  | .bypass => some [false]
  | _ => none

/-- A write of JTAG_CTL: OPEN needs presence and erases every link key (R318). -/
def State.opJtagCtl (s : State) (r : Req) (v : Word) : State :=
  let close := fun (t : State) => if v.getLsbD 1 then t.setHif (fun h => { h with jtag := false, tap := { h with jtag := false }.tapSelect h.tap }) else t
  if v.getLsbD 0 then
    s.guarded r R.HIF_JTAG_CTL (fun t =>
      close (((t.eraseAll).setHif (fun h => { h with jtag := true })).fire P.HIF E.HIF_JTAG_OPEN))
  else close s

/-! ### Registers -/

/-- The vectors of the PBA from `base` on. -/
def Hif.pend (h : Hif) (base : Nat) : Word :=
  BitVec.ofNat 32 ((List.range 32).foldl (fun n b => if h.pba.contains (base + b) then n + 2 ^ b else n) 0)

/-- The computed registers of page HIF. -/
def readHIF (s : State) (o : Nat) : Option Word :=
  let h := s.hif
  if o = 0x040 then some (BitVec.ofNat 32 (b2n h.l0 + h.width.toNat * 2 + h.speed.toNat * 2 ^ 4 + b2n h.d3 * 2 ^ 7))
  else if o = 0x048 then
    some (BitVec.ofNat 32 (h.wbuf.length + b2n h.holder.isSome * 2 ^ 6 + b2n h.bank * 2 ^ 7 + b2n (s.rst.straps.getLsbD 2) * 2 ^ 8))
  else if o = 0x058 then some (BitVec.ofNat 32 (b2n h.i2cOp.isSome + h.i2cRes.toNat * 2))
  else if o = 0x06C then some (BitVec.ofNat 32 (b2n h.flashOp.isSome + h.flashRes.toNat * 2))
  else if o = 0x074 then some (BitVec.ofNat 32 (b2n h.jtag))
  else if o = 0xC00 then some (h.pend 0)
  else if o = 0xC04 then some (h.pend 32)
  else none

/-! ### Commands -/

/-- PCIE_LINK_UP (R82, R639, R655): the operands are what PCIE_STAT shows and what the host configures in the function. -/
def execPcieLinkUp (width speed : BitVec 3) (d3 msixEn funcMask : Bool) (s : State) : Res :=
  if ¬ linkWf width speed then .fault .illFormed
  else .next (if s.endpointOn then s.enterL0 width speed d3 msixEn funcMask else s)

/-- PCIE_LINK_DOWN (R88, R613). -/
def execPcieLinkDown (s : State) : Res := .next (if s.endpointOn then s.endpointReset.leaveL0 else s)

/-- PCIE_HOT_RESET (R88, R613). -/
def execPcieHotReset (s : State) : Res := .next (if s.endpointOn then s.endpointReset.leaveL0 else s)

/-- PCIE_FLR (R88, R613): a function-level reset comes over the link. -/
def execPcieFlr (s : State) : Res := .next (if s.endpointOn ∧ s.hif.l0 then s.endpointReset else s)

/-- PERST_ASSERT (R88, R613). -/
def execPerstAssert (s : State) : Res := .next (if s.endpointOn then s.endpointReset.leaveL0 else s)

/-- PCIE_L0_EXIT (R639, R655): to L1 or recovery. -/
def execPcieL0Exit (s : State) : Res := .next s.leaveL0

/-- MSIX_UNMASK (R639). -/
def execMsixUnmask (r : Req) (vec : Fin 64) (s : State) : Res :=
  .next (s.access r (R.HIF_MSIX_CTL vec.val) true (fun t => t.opMsixCtl vec.val 0))

/-- FLASH_READ (R649): OP 1. -/
def execFlashRead (r : Req) (v : Word) (s : State) : Res :=
  .next (s.access r R.HIF_FLASH_CMD true (fun t => t.opFlashCmd (setField v 0 2 1)))

/-- FLASH_PROG (R649): OP 2. -/
def execFlashProg (r : Req) (v : Word) (s : State) : Res :=
  .next (s.access r R.HIF_FLASH_CMD true (fun t => t.opFlashCmd (setField v 0 2 2)))

/-- FLASH_ERASE (R649): OP 3. -/
def execFlashErase (r : Req) (v : Word) (s : State) : Res :=
  .next (s.access r R.HIF_FLASH_CMD true (fun t => t.opFlashCmd (setField v 0 2 3)))

/-- FLASH_CMD_DONE (R650). -/
def execFlashCmdDone (bad : Bool) (data : List Byte) (s : State) : Res := .next (s.flashDone bad data)

/-- OI2C_WRITE (R651). -/
def execOi2cWrite (r : Req) (v : Word) (s : State) : Res :=
  .next (s.access r R.HIF_OI2C_CMD true (fun t => t.opI2cCmd r (setField (v ||| 0x80000000) 20 1 0)))

/-- OI2C_READ (R651). -/
def execOi2cRead (r : Req) (v : Word) (s : State) : Res :=
  .next (s.access r R.HIF_OI2C_CMD true (fun t => t.opI2cCmd r (v ||| 0x80100000)))

/-- OI2C_DONE (R652). -/
def execOi2cDone (result : BitVec 2) (data : List Byte) (s : State) : Res := .next (s.i2cDone result data)

/-- OI2C_SCL_TIMEOUT (R652). -/
def execOi2cSclTimeout (s : State) : Res := .next (s.i2cDone 2 [])

/-- JTAG_OPEN (R654). -/
def execJtagOpen (r : Req) (v : Word) (s : State) : Res :=
  .next (s.access r R.HIF_JTAG_CTL true (fun t => t.opJtagCtl r (v ||| 1)))

/-- JTAG_CLOSE (R654). -/
def execJtagClose (r : Req) (v : Word) (s : State) : Res :=
  .next (s.access r R.HIF_JTAG_CTL true (fun t => t.opJtagCtl r (v ||| 2)))

end Sys2Proof.Machine
end

