-- ==== Sys2Proof/Machine/Ownership.lean ====
section
/-! DEFINITION. Chapter 3: the election, the thimble, presence, the seal (R77-R103). -/

namespace Sys2Proof.Machine

open Sys2Proof

/-! ### Registers of page OWN -/

/-- OWN_STAT. -/
def State.ownStat (s : State) : Word :=
  let o := s.own
  BitVec.ofNat 32 (o.holder.toNat + (match o.st with | .vacant => 0 | .held => 1 | .releasing => 2) * 2 ^ 2 +
    o.target.toNat * 2 ^ 4 + b2n o.presWin * 2 ^ 6 + b2n o.forceWin * 2 ^ 7 + b2n o.stuck * 2 ^ 8 +
    b2n (s.rst.straps.getLsbD 3) * 2 ^ 9 + b2n o.sealOk * 2 ^ 10 + b2n o.broken * 2 ^ 11)

/-- The computed registers of page OWN. -/
def readOWN (s : State) (o : Nat) : Option Word :=
  if o = 0x040 then some s.ownStat
  else if o = 0x05C then
    some (BitVec.ofNat 32 (s.rst.straps.toNat % 4 + s.own.cand.toNat * 2 ^ 2 + b2n s.own.timed * 2 ^ 5))
  else none

/-! ### Writes of page OWN -/

/-- A write of OWN_CLAIM (R84-R86, R100, R102). -/
def State.opOwnClaim (s : State) (r : Req) (v : Word) : State :=
  let k := R.OWN_OWN_CLAIM
  let a := agentOf r
  if ¬ v.getLsbD 0 then s
  else if ¬ s.own.elected then s.deny r k 2 2
  else if v.getLsbD 1 then
    if s.isDelegate r then s.deny r k 1 1
    else if ¬ s.own.forceWin then s.deny r k 5 2
    else ((s.setHolder a).thimbleMove).closeForce
  else
    match s.own.st with
    | .vacant => ((s.setHolder a).thimbleMove).closePresence
    | .held => s.deny r k 2 2
    | .releasing => if a = s.own.target then ((s.setHolder a).thimbleMove).closePresence else s.deny r k 2 2

/-- A write of OWN_RELEASE by the holder (R85, R86). A bad TARGET while RELEASING is refused with cause 6 (DESIGN CHOICE, log entry
126). -/
def State.opOwnRelease (s : State) (r : Req) (v : Word) : State :=
  let k := R.OWN_OWN_RELEASE
  let t : BitVec 2 := BitVec.ofNat 2 (getField v 0 2)
  if v.getLsbD 2 then
    if s.own.st = .held then ((s.setHolder 3).thimbleMove).closePresence else s.deny r k 2 2
  else if t = s.own.holder ∨ t = 3 then s.deny r k 6 2
  else if s.own.st = .held then
    ({ s with own := { s.own with st := .releasing, target := t } }).startTimer T.handover
  else s.deny r k 2 2

/-- All agents in the order in which claims of one handshake are taken (R81, R89): those that the straps leave out of the election come
last, PCIe before the shelf bus (DESIGN CHOICE, log entry 127). -/
def claimOrder (pri : Nat) : List Nat := priorityOrder pri ++ [0, 1].filter (fun a => !(priorityOrder pri).contains a)

/-- Claims of one handshake in the order in which they are taken. -/
def State.sortClaims (s : State) (rs : List Req) : List Req :=
  ((claimOrder (s.rst.straps.toNat % 4)).map (fun a => rs.filter (fun r => decide ((agentOf r).toNat = a)))).flatten

/-- A claim that another claim of its kind has beaten at the same handshake (R84, R89). -/
def State.loseClaim (s : State) (r : Req) : State := s.deny r R.OWN_OWN_CLAIM (if s.own.elected then 3 else 2) 2

/-- Claims of one kind that reach OWN at one handshake: the agent of highest priority is judged, the others lose (R89). -/
def State.ownClaims (s : State) (v : Word) (rs : List Req) : State :=
  match s.sortClaims rs with
  | [] => s
  | r :: rest =>
    rest.foldl (fun (t : State) q => t.access q R.OWN_OWN_CLAIM true (fun u => u.loseClaim q))
      (s.access r R.OWN_OWN_CLAIM true (fun t => t.opOwnClaim r v))

/-- The lease runs out (R88). -/
def State.leaseOut (s : State) : State :=
  if s.own.st ≠ .vacant ∧ s.bit F.OWN_OWN_CTL_LEASE_EN ∧ s.running T.lease then s.holderLost true else s

/-- What reaches OWN at one handshake, in the order of R89. -/
def State.ownHand (s : State) (h : OwnHand) : State :=
  let s1 := s.ownClaims 3 h.forced
  let s2 := if h.lost then s1.leaseOut else s1
  let s3 := h.releases.foldl (fun (t : State) x =>
    t.access x.1 R.OWN_OWN_RELEASE true (fun u => u.opOwnRelease x.1 (x.2.setWidth 32))) s2
  s3.ownClaims 1 h.claims

/-- A write of OWN_HEARTBEAT by the holder restarts the lease (R88). -/
def State.opHeartbeat (s : State) (v : Word) : State :=
  if v.getLsbD 0 ∧ s.bit F.OWN_OWN_CTL_LEASE_EN then s.startTimer T.lease else s

/-- A write of OWN_CTL; setting LEASE_EN starts the lease (R88). -/
def State.opOwnCtl (s : State) (v : Word) : State :=
  let s1 := s.store R.OWN_OWN_CTL v
  if s1.bit F.OWN_OWN_CTL_LEASE_EN then (if s.bit F.OWN_OWN_CTL_LEASE_EN then s1 else s1.startTimer T.lease)
  else s1.stopTimer T.lease

/-- A write of OWN_PRES_CTL: END closes the presence window (R95). -/
def State.opPresCtl (s : State) (v : Word) : State :=
  let s1 := s.store R.OWN_OWN_PRES_CTL v
  if v.getLsbD 8 then s1.closePresence else s1

/-- The seal is armed again once both conditions of R98 hold since its last break. -/
def State.sealArm (s : State) : State :=
  if s.own.matched64 ∧ s.own.cleared then { s with own := { s.own with armed := true } } else s

/-- A W1C write of OWN_STAT by the holder (R98). -/
def State.opOwnStat (s : State) (v : Word) : State :=
  if v.getLsbD 11 ∧ s.own.broken then ({ s with own := { s.own with broken := false, cleared := true } }).sealArm else s

/-! ### The seal loop (R97, R98) -/

/-- The selvedge domain counts PRESENCE_N and compares SEAL_IN: it has supply, and no reset is in progress (R93, R96). -/
def State.watches (s : State) : Bool := !s.rst.inReset && !s.rst.unpowered

/-- The state of the LFSR one bit ago. -/
def lfsrBack (x : BitVec 8) : BitVec 8 :=
  (x >>> 1) ||| (BitVec.setWidth 8 (BitVec.ofBool (x.getLsbD 0 ^^ x.getLsbD 6 ^^ x.getLsbD 5 ^^ x.getLsbD 4)) <<< 7)

/-- The last `n` bits that SEAL_OUT sent, oldest first, with the present one. -/
def sentBits : Nat → BitVec 8 → List Bool
  | 0, _ => []
  | n + 1, x => sentBits n (lfsrBack x) ++ [x.getLsbD 7]

/-- The seal breaks: the force window opens if it was armed (R98). -/
def State.sealBroken (s : State) : State :=
  let o := { s.own with broken := true, sealOk := false, matchSeen := false, matched64 := false, cleared := false, armed := false }
  let s1 := ({ s with own := o }).fire P.OWN E.OWN_SEAL_BROKEN
  if s.own.armed then s1.openForce else s1

/-- SEAL_IN is compared with a bit sent (R97): 64 matches in a row make SEAL_INTACT and count towards the arming, a mismatch ends
SEAL_INTACT, and the third in a row breaks the seal, once a bit has matched since the break before. -/
def State.sealBit (s : State) (sent seen : Bool) : State :=
  if sent = seen then
    let n := min 64 (s.own.hits + 1)
    let s1 := { s with own := { s.own with hits := n, misses := 0, matchSeen := true } }
    if n = 64 then ({ s1 with own := { s1.own with matched64 := true, sealOk := true } }).sealArm else s1
  else
    let n := min 3 (s.own.misses + 1)
    let s1 := { s with own := { s.own with hits := 0, misses := n, sealOk := false } }
    if n = 3 ∧ s.own.matchSeen then s1.sealBroken else s1

/-- The loop in use compares the last bits with what SEAL_IN showed, oldest first (R96, R97, log entry 129). -/
def State.sealSeen (s : State) (seen : List Bool) : State :=
  if ¬ s.own.sealUse ∨ ¬ s.watches then s
  else ((sentBits seen.length s.own.lfsr).zip seen).foldl (fun (t : State) x => t.sealBit x.1 x.2) s

/-! ### Commands -/

/-- ELECTION_TIMEOUT (R83). -/
def execElectionTimeout (s : State) : Res :=
  .next (if s.running T.election ∧ ¬ s.own.elected then s.decideElection true else s)

/-- OWN_CLAIM, unforced (R85, R86, R89). -/
def execOwnClaim (r : Req) (h : OwnHand) (s : State) : Res := .next (s.ownHand { h with claims := r :: h.claims })

/-- OWN_CLAIM, forced (R85, R89, R102). -/
def execOwnClaimForced (r : Req) (h : OwnHand) (s : State) : Res := .next (s.ownHand { h with forced := r :: h.forced })

/-- OWN_RELEASE with TARGET (R85, R86, R89). -/
def execOwnReleaseTarget (r : Req) (t : BitVec 2) (h : OwnHand) (s : State) : Res :=
  .next (s.ownHand { h with releases := (r, t.setWidth 3) :: h.releases })

/-- OWN_RELEASE with VACATE (R85, R86, R89). -/
def execOwnReleaseVacate (r : Req) (h : OwnHand) (s : State) : Res :=
  .next (s.ownHand { h with releases := (r, 4) :: h.releases })

/-- HANDOVER_TIMEOUT (R85): back to HELD by the same holder. -/
def execHandoverTimeout (s : State) : Res :=
  .next (if s.own.st = .releasing then
    (({ s with own := { s.own with st := .held } }).stopTimer T.handover).fire P.OWN E.OWN_HANDOVER_TIMEOUT
  else s)

/-- LEASE_EXPIRE (R88, R89). -/
def execLeaseExpire (h : OwnHand) (s : State) : Res := .next (s.ownHand { h with lost := true })

/-- OWN_HEARTBEAT (R88). -/
def execOwnHeartbeat (r : Req) (s : State) : Res :=
  .next (s.access r R.OWN_OWN_HEARTBEAT true (fun t => t.opHeartbeat 1))

/-- PRESENCE_DEBOUNCE (R92, R93): a debounced change of PRESENCE_N to the level `high`. A fall counts towards the 3 s
only after PRESENCE_N has been seen high since the reset, and not while the button is stuck. -/
def execPresenceDebounce (high : Bool) (s : State) : Res :=
  .next (if ¬ s.watches then s
  else if high then
    { s with own := { s.own with levelHigh := true, seenHigh := true, counting := false, pressed := false } }
  else
    { s with own := { s.own with levelHigh := false, counting := s.own.levelHigh && s.own.seenHigh && !s.own.stuck } })

/-- PRESENCE_ON (R93): both windows open. -/
def execPresenceOn (s : State) : Res :=
  .next (if s.watches ∧ s.own.counting ∧ ¬ s.own.pressed ∧ ¬ s.own.stuck then
    let s1 := ({ s with own := { s.own with pressed := true, presWin := true } }).startTimer T.presence
    (s1.fire P.OWN E.OWN_PRESENCE_ON).openForce
  else s)

/-- PRESENCE_STUCK (R94): both windows close. The 30 s run from a debounced fall, so a button held low through a reset does not count
as stuck (DESIGN CHOICE, log entry 128). -/
def execPresenceStuck (s : State) : Res :=
  .next (if s.watches ∧ s.own.counting ∧ ¬ s.own.stuck then
    let s1 := (s.closePresence).closeForce
    ({ s1 with own := { s1.own with stuck := true, counting := false, pressed := false } }).fire P.OWN E.OWN_PRESENCE_STUCK
  else s)

/-- PRESENCE_UNSTICK (R94). -/
def execPresenceUnstick (s : State) : Res :=
  .next (if s.watches ∧ s.own.stuck ∧ s.own.levelHigh then { s with own := { s.own with stuck := false } } else s)

/-- PRESENCE_WINDOW_EXPIRE (R95). -/
def execPresenceWindowExpire (s : State) : Res := .next s.closePresence

/-- FORCE_WINDOW_EXPIRE (R93). -/
def execForceWindowExpire (s : State) : Res := .next s.closeForce

/-- PRESENCE_END (R95): a write of OWN_PRES_CTL with END. -/
def execPresenceEnd (r : Req) (v : Word) (s : State) : Res :=
  .next (s.access r R.OWN_OWN_PRES_CTL true (fun t => t.opPresCtl (v ||| 0x100)))

/-- SEAL_BREAK (R97, R98): what SEAL_IN showed at the middle of the last bit periods, oldest first. -/
def execSealBreak (seen : List Bool) (s : State) : Res := .next (s.sealSeen seen)

/-- SEAL_REARM (R98): the bits up to the 64th matching one since the break. -/
def execSealRearm (seen : List Bool) (s : State) : Res := .next (s.sealSeen seen)

/-- SEAL_BROKEN_CLEAR (R98): a W1C write of OWN_STAT.SEAL_BROKEN. -/
def execSealBrokenClear (r : Req) (s : State) : Res :=
  .next (s.access r R.OWN_OWN_STAT true (fun t => t.opOwnStat 0x800))

/-- SEAL_INTACT (R98): the bits up to the 64th consecutive matching one. -/
def execSealIntact (seen : List Bool) (s : State) : Res := .next (s.sealSeen seen)

/-- WAKE_L0_TIMEOUT (R90): the link of a PCIe holder is not in L0 200 ms after a wake, so the holder is lost. -/
def execWakeL0Timeout (s : State) : Res :=
  .next (if s.running T.wakeL0 then
    let s1 := s.stopTimer T.wakeL0
    if s.own.st ≠ .vacant ∧ s.own.holder = 0 ∧ ¬ s.hif.l0 then s1.holderLost false else s1
  else s)

end Sys2Proof.Machine
end

