-- ==== Sys2Proof/Machine/SeamCommit.lean ====
section
/-! DEFINITION. Chapter 1: the Seam (R11-R18, R687-R689). Chapter 2: commit commands, prepare and apply across the dies (R63-R75). -/

namespace Sys2Proof.Machine

open Sys2Proof

/-- Changes the Seam. -/
def State.setSeam (s : State) (f : Seam → Seam) : State := { s with seam := f s.seam }

/-- SMF and SML fire source `b`. -/
def State.fireBoth (s : State) (b : Nat) : State := (s.fire P.SMF b).fire P.SML b

/-! ### The apply decision (R63-R69) -/

/-- The part of a group that goes to the line die. -/
def lineWrites (ws : SMap Word) : SMap Word := ws.filter (fun e => linePage (pageOf e.1))

/-- The fabric die decides apply: markers for the four pipelines, APPLY for a cross-die group, and what switches at once. -/
def State.decideApply (s : State) (i : Fin 4) : State :=
  let x := s.cmt.slots[i]
  let s1 := s.setSlot i { x with st := .applying, pages := pagesOf x.writes, switched := [] }
  let s2 := { s1 with cmt := { s1.cmt with waiting := s1.cmt.waiting ++ (List.finRange 4).map (fun p => (x.tag, p)) } }
  let s3 := if crossDie x.writes then
      s2.setSeam (fun m => { m with toLine := m.toLine ++ [.apply x.tag], decisions := m.decisions ++ [.apply x.tag] })
    else s2
  (s3.stopTimer (T.prep i.val)).switchNow i

/-- The fabric die sends PREPARE (R63). -/
def State.sendPrepare (s : State) (i : Fin 4) : State :=
  let x := s.cmt.slots[i]
  ((s.setSlot i { x with st := .preparing, pages := pagesOf x.writes }).setSeam (fun m =>
    { m with toLine := m.toLine ++ [.prepare x.tag (lineWrites x.writes)] })).startTimer (T.prep i.val)

/-- The line die loads a group, or finds a page without power (R64). It sends no reply that the fabric die would ignore, since
that die has already decided abort (R66). -/
def State.linePrepare (s : State) (tag : BitVec 8) (ws : SMap Word) : State :=
  let late := s.seam.toLine.contains (.abort tag)
  if ws.all (fun e => s.powered e.1) then
    s.setSeam (fun m => { m with preps := m.preps ++ [⟨tag, ws, false⟩], toFab := if late then m.toFab else m.toFab ++ [.prepared tag] })
  else s.setSeam (fun m => { m with toFab := if late then m.toFab else m.toFab ++ [.abortOff tag] })

/-- The line die carries out APPLY: the rolls that the group orders, and what switches at once (R65, R325). -/
def State.lineApply (s : State) (tag : BitVec 8) : State :=
  let s1 := s.setSeam (fun m => { m with
    decisions := m.decisions.filter (fun d => decide (d ≠ .apply tag))
    preps := m.preps.map (fun (p : Prep) => if p.tag = tag then { p with applied := true } else p) })
  match s1.slotOf tag with
  | some i => if s1.cmt.slots[i].st = .applying then (s1.groupRolls i).switchNow i else s1
  | none => s1

/-- The line die carries out ABORT: it discards what it has prepared. -/
def State.lineAbort (s : State) (tag : BitVec 8) : State :=
  s.setSeam (fun m => { m with decisions := m.decisions.filter (fun d => decide (d ≠ .abort tag)),
                               preps := m.preps.filter (fun p => decide (p.tag ≠ tag) || p.applied) })

/-- The line die carries out a decision. -/
def State.lineDecision (s : State) (d : CmtMsg) : State :=
  match d with
  | .apply tag => s.lineApply tag
  | .abort tag => s.lineAbort tag
  | _ => s

/-- A reply of the line die reaches the fabric die: a slot in PREPARING that has its tag acts on it (R65, R71). -/
def State.fabReply (s : State) (tag : BitVec 8) (off : Bool) : State :=
  match s.slotOf tag with
  | some i =>
    if s.cmt.slots[i].st ≠ .preparing then s
    else if off then (s.abortSlot i 3).stopTimer (T.prep i.val)
    else s.decideApply i
  | none => s

/-! ### The commit command (R71, R72, R692) -/

/-- A commit that the slot's state allows is judged under the order of R72. -/
def State.judgeCommit (s : State) (r : Req) (i : Fin 4) : State :=
  let x := s.cmt.slots[i]
  if s.log.pf then s.cmdRefuse r R.CMT_CMT_COMMIT x.tag 2 6
  else
    let s1 := s.cmdStat r x.tag 2 0
    if x.writes = [] then s1.slotApplied i
    else if x.overflow then s1.abortSlot i 2
    else if (mapKeys x.writes).any (fun k => !linePage (pageOf k) && !s.powered k) then s1.abortSlot i 3
    else if ¬ crossDie x.writes then s1.decideApply i
    else if s.seam.phase = .stopped then s1.abortSlot i 3
    else if s.seam.phase ≠ .up then s1.abortSlot i 4
    else s1.sendPrepare i

/-- CMT_COMMIT (R71). -/
def State.opCmtCommit (s : State) (r : Req) (tag : BitVec 8) : State :=
  if tag = 0 then s.cmdRefuse r R.CMT_CMT_COMMIT tag 2 4
  else
    match s.slotOf tag with
    | none => s.cmdRefuse r R.CMT_CMT_COMMIT tag 2 3
    | some i => if s.cmt.slots[i].st = .opened then s.judgeCommit r i else s.cmdRefuse r R.CMT_CMT_COMMIT tag 2 5

/-! ### Going down and coming up (R16-R18, R68, R572) -/

/-- A group in PREPARING is aborted when the Seam goes down; the decision is kept (R67, R71). -/
def State.abortPreparing (s : State) (i : Fin 4) : State :=
  let x := s.cmt.slots[i]
  if x.st = .preparing then
    ((s.abortSlot i 4).stopTimer (T.prep i.val)).setSeam (fun m => { m with decisions := m.decisions ++ [.abort x.tag] })
  else s

/-- The Seam goes down from UP (R16); `dropLine` and `dropFab` traffic flits are in flight towards the two dies. -/
def State.seamDown (s : State) (dropLine dropFab : Nat) : State :=
  let s1 := s.setSeam (fun m => { m with phase := .down, lost := false, failLine := 0, failFab := 0, toLine := [], toFab := [] })
  let s2 := (s1.bump (R.SM_CNT_DOWN P.SML)).bump (R.SM_CNT_DOWN P.SMF)
  let s3 := (s2.bumpBy (R.SM_CNT_FLIT_DROP P.SML) dropLine).bumpBy (R.SM_CNT_FLIT_DROP P.SMF) dropFab
  (((List.finRange 4).foldl State.abortPreparing s3).startTimer T.seamLost).fireBoth E.SM_SEAM_DOWN

/-- The Seam fails: from UP it goes down, and from TRAINING the attempt ends (R16, R17). -/
def State.seamFail (s : State) (dropLine dropFab : Nat) : State :=
  match s.seam.phase with
  | .up => s.seamDown dropLine dropFab
  | .training => s.setSeam (fun m => { m with phase := .down, failLine := 0, failFab := 0 })
  | _ => s

/-- A flit arrives: one that fails its check is replayed, and the eighth failed replay fails the Seam (R16, R688). -/
def State.flit (s : State) (toFab ok : Bool) (dropLine dropFab : Nat) : State :=
  if s.seam.phase = .down ∨ s.seam.phase = .stopped then s
  else
    let p := if toFab then P.SMF else P.SML
    let n := if toFab then s.seam.failFab else s.seam.failLine
    let set := fun (t : State) (k : Nat) => t.setSeam (fun m => if toFab then { m with failFab := k } else { m with failLine := k })
    if ok then set s 0
    else
      let s1 := s.bump (R.SM_CNT_CRC p)
      if n < 8 then set (s1.bump (R.SM_CNT_REPLAY p)) (n + 1) else s1.seamFail dropLine dropFab

/-- A receive lane loses lock (R16, R689). -/
def State.lockLoss (s : State) (fab : Bool) (lane : Fin 16) (dropLine dropFab : Nat) : State :=
  if s.seam.phase = .stopped then s
  else
    let gone : BitVec 16 := ~~~ BitVec.ofNat 16 (2 ^ lane.val)
    let s1 := s.setSeam (fun m => if fab then { m with lockFab := m.lockFab &&& gone } else { m with lockLine := m.lockLine &&& gone })
    (s1.seamFail dropLine dropFab).fire (if fab then P.SMFL else P.SMLL) lane.val

/-- A held record reaches the ring (R572). -/
def State.sendHeld (s : State) (rec : EvRec) : State :=
  let full := s.ringFull true
  let s1 := s.record rec
  if full then s1.fire P.EVT E.EVT_REC_LOST else s1

/-- The line die sends its held records, the discarded ones are counted, and every pending source of its pages counts as a pending rise. -/
def State.sendEvents (s : State) : State :=
  let s1 := s.seam.held.foldl State.sendHeld (s.setSeam (fun m => { m with held := [], heldLost := 0 }))
  let n := s.seam.heldLost
  let s2 := if n = 0 then s1 else (s1.bumpBy R.EVT_CNT_REC_LOST n).fire P.EVT E.EVT_REC_LOST
  (List.range 14).foldl State.risePending s2

/-- The Seam comes up: the counters of time agree again, the decisions are carried out, the line die's events follow (R17, R68,
R512, R572). -/
def State.seamRises (s : State) : State :=
  let s1 := ((s.setSeam (fun m => { m with phase := .up, lost := false, lockLine := BitVec.allOnes 16, lockFab := BitVec.allOnes 16,
                                           failLine := 0, failFab := 0, bringUp := false })).stopTimer T.seamLost).stopTimer T.retrain
  let s2 := { s1 with clock := { s1.clock with fab := s1.clock.line, remF := s1.clock.remL } }
  let s3 := if s2.tim.servo = .free ∨ s2.tim.servo = .holdover then s2.settleF else s2
  (s.seam.decisions.foldl State.lineDecision s3).sendEvents.fireBoth E.SM_SEAM_UP

/-- A write of SMF.SEAM_CTL (R17). -/
def State.opSeamCtl (s : State) (v : Word) : State :=
  let s1 := s.store (R.SM_SEAM_CTL P.SMF) v
  if ¬ v.getLsbD 0 then s1.stopTimer T.retrain
  else if s.bit (F.SM_SEAM_CTL_RETRAIN_EN P.SMF) ∨ s.seam.phase = .up ∨ s.seam.phase = .stopped then s1
  else (s1.setSeam (fun m => { m with phase := .training })).startTimer T.retrain

/-! ### Registers -/

/-- SEAM_STAT.STATE as a number. -/
def SeamPhase.num : SeamPhase → Nat
  | .down => 0 | .training => 1 | .up => 2 | .stopped => 3

/-- The computed registers of pages SML and SMF. -/
def readSM (s : State) (p o : Nat) : Option Word :=
  if o = 0x044 then
    some (BitVec.ofNat 32 (s.seam.phase.num + b2n s.seam.lost * 4 + (if p = P.SMF then s.seam.lockFab else s.seam.lockLine).toNat * 2 ^ 16))
  else if o = 0x048 ∧ p = P.SML then some (BitVec.ofNat 32 s.seam.held.length)
  else none

/-- SLOTn.STATE as a number. -/
def SlotSt.num : SlotSt → Nat
  | .free => 0 | .opened => 1 | .preparing => 2 | .applying => 3 | .applied => 4 | .aborted => 5

/-- SLOTn. -/
def Slot.word (x : Slot) : Word :=
  BitVec.ofNat 32 (x.tag.toNat + x.st.num * 2 ^ 8 + b2n (crossDie x.writes) * 2 ^ 11 + x.writes.length * 2 ^ 12 +
    b2n x.overflow * 2 ^ 23 + x.cause.toNat * 2 ^ 24)

/-- The computed registers of page CMT. -/
def readCMT (s : State) (o : Nat) : Option Word :=
  if 0x080 ≤ o ∧ o < 0x090 then some (s.cmt.slots.toList.getD ((o - 0x080) / 4) {}).word
  else if 0x090 ≤ o ∧ o < 0x0A0 then some (BitVec.ofNat 32 (s.cmt.slots.toList.getD ((o - 0x090) / 4) {}).pages.length)
  else none

/-! ### Commands -/

/-- SEAM_FLIT_RECEIVE (R16). -/
def execSeamFlitReceive (toFab ok : Bool) (dropLine dropFab : Nat) (s : State) : Res := .next (s.flit toFab ok dropLine dropFab)

/-- SEAM_LANE_LOCK_LOSS (R689). -/
def execSeamLaneLockLoss (fab : Bool) (lane : Fin 16) (dropLine dropFab : Nat) (s : State) : Res :=
  .next (s.lockLoss fab lane dropLine dropFab)

/-- SEAM_LOST (R17): a Seam that the boot brings up is late only from step B7 on (R624). -/
def execSeamLost (s : State) : Res :=
  .next (if (s.seam.phase = .down ∨ s.seam.phase = .training) ∧ ¬ s.seam.lost ∧ s.running T.seamLost ∧
      (¬ s.seam.bringUp ∨ s.hasEnded 7) then
    let s1 := (s.setSeam (fun m => { m with lost := true })).stopTimer T.seamLost
    let s2 := if s.bit (F.SM_SEAM_CTL_RETRAIN_EN P.SMF) then s1.startTimer T.retrain else s1
    s2.fireBoth E.SM_SEAM_LOST
  else s)

/-- A retraining attempt takes the Seam from DOWN to TRAINING (R17). -/
def State.train (s : State) : State :=
  if s.seam.phase = .down then s.setSeam (fun m => { m with phase := .training }) else s

/-- SEAM_RETRAIN_ATTEMPT (R16, R17): until Seam lost, the Seam retrains by itself; from then on an attempt starts every 1 ms while
RETRAIN_EN is 1. -/
def execSeamRetrainAttempt (s : State) : Res :=
  .next (if s.running T.retrain ∧ s.bit (F.SM_SEAM_CTL_RETRAIN_EN P.SMF) then (s.startTimer T.retrain).train
  else if s.seam.lost then s
  else s.train)

/-- SEAM_UP (R17, R68): a retraining attempt succeeds. -/
def execSeamUp (s : State) : Res :=
  .next (if s.seam.phase = .training ∧ s.domOn 11 ∧ s.domOn 12 then s.seamRises else s)

/-- RETRAIN_EN_WRITE (R17). -/
def execRetrainEnWrite (r : Req) (v : Word) (s : State) : Res :=
  .next (s.access r (R.SM_SEAM_CTL P.SMF) true (fun t => t.opSeamCtl v))

/-- PREPARE (R64). -/
def execPrepare (tag : BitVec 8) (s : State) : Res :=
  match s.seam.toLine with
  | .prepare t ws :: rest => .next (if t = tag then (s.setSeam (fun m => { m with toLine := rest })).linePrepare tag ws else s)
  | _ => .next s

/-- PREPARED (R65). -/
def execPrepared (tag : BitVec 8) (s : State) : Res :=
  match s.seam.toFab with
  | .prepared t :: rest => .next (if t = tag then (s.setSeam (fun m => { m with toFab := rest })).fabReply tag false else s)
  | _ => .next s

/-- APPLY (R65). -/
def execApply (tag : BitVec 8) (s : State) : Res :=
  match s.seam.toLine with
  | .apply t :: rest => .next (if t = tag then (s.setSeam (fun m => { m with toLine := rest })).lineApply tag else s)
  | _ => .next s

/-- ABORT (R68). -/
def execAbort (tag : BitVec 8) (s : State) : Res :=
  match s.seam.toLine with
  | .abort t :: rest => .next (if t = tag then (s.setSeam (fun m => { m with toLine := rest })).lineAbort tag else s)
  | _ => .next s

/-- ABORT_DOMAIN_OFF (R71). -/
def execAbortDomainOff (tag : BitVec 8) (s : State) : Res :=
  match s.seam.toFab with
  | .abortOff t :: rest => .next (if t = tag then (s.setSeam (fun m => { m with toFab := rest })).fabReply tag true else s)
  | _ => .next s

/-- PREP_TIMEOUT (R66): a reply in flight to the fabric die is ignored. -/
def execPrepTimeout (tag : BitVec 8) (s : State) : Res :=
  match s.slotOf tag with
  | some i =>
    .next (if s.cmt.slots[i].st = .preparing ∧ s.seam.phase = .up then
      ((s.abortSlot i 5).stopTimer (T.prep i.val)).setSeam (fun m => { m with
        toLine := m.toLine ++ [.abort tag]
        toFab := m.toFab.filter (fun d => decide (d ≠ .prepared tag ∧ d ≠ .abortOff tag))
        decisions := m.decisions ++ [.abort tag] })
    else s)
  | none => .next s

/-- CMT_OPEN (R71). -/
def execCmtOpen (r : Req) (tag : BitVec 8) (s : State) : Res := .next (s.access r R.CMT_CMT_OPEN true (fun t => t.opCmtOpen r tag))

/-- CMT_COMMIT (R71, R72). -/
def execCmtCommit (r : Req) (tag : BitVec 8) (s : State) : Res :=
  .next (s.access r R.CMT_CMT_COMMIT true (fun t => t.opCmtCommit r tag))

/-- CMT_DISCARD (R71). -/
def execCmtDiscard (r : Req) (tag : BitVec 8) (s : State) : Res :=
  .next (s.access r R.CMT_CMT_DISCARD true (fun t => t.opCmtDiscard r tag))

/-- CMT_ACK (R71). -/
def execCmtAck (r : Req) (tag : BitVec 8) (s : State) : Res := .next (s.access r R.CMT_CMT_ACK true (fun t => t.opCmtAck r tag))

end Sys2Proof.Machine
end

