-- ==== Sys2Proof/Machine/Registers.lean ====
section
/-! DEFINITION. The register space: what a write of each register does and what each register reads as (R26-R47, R682-R690), the shelf
bus and its mirror (R31-R35, R641-R647), selectors and copies (R229, R230, R473). -/

namespace Sys2Proof.Machine

open Sys2Proof

/-! ### What a register reads as (R36, R38, R46) -/

/-- The pages named in error-log records (R691). -/
def logPage (p : Nat) : Bool :=
  [P.ACT, P.BPM, 0x43, 0x44, 0x45, 0x46, P.ECC, P.MXE, P.EVT, P.RST].contains p

/-- PAGE_CAP. -/
def pageCap (p : Nat) : Word :=
  let top := (layoutOf p).foldl (fun n r => max n (r.ofs + (r.n - 1) * r.st)) 0
  BitVec.ofNat 32 (b2n ((bodyOf p).any (fun r => decide (r.ty = .rws))) + b2n (0 < evNum p) * 2 + b2n (logPage p) * 4 +
    evNum p * 2 ^ 8 + top * 2 ^ 16)

/-- The Seam is down for the purposes of R18 and R37. -/
def State.seamIsDown (s : State) : Bool := decide (s.seam.phase = .down) || decide (s.seam.phase = .training)

/-- PAGE_STAT. -/
def State.pageStat (s : State) (p : Nat) : Word :=
  BitVec.ofNat 32 (b2n (s.powered (p * 0x1000)) + b2n (linePage p && s.seamIsDown) * 2 + b2n (s.stageCount p ≠ 0) * 4 +
    b2n (s.applying p) * 8 + b2n (s.bit (F.HDR_PAGE_CTL_CNT_HOLD p)) * 16)

/-- The computed registers of the common header. -/
def readHDR (s : State) (p o : Nat) : Option Word :=
  if o = 0x000 then some (BitVec.ofNat 32 (p + b2n (!linePage p) * 2 ^ 8 + 2 ^ 16))
  else if o = 0x004 then some (pageCap p)
  else if o = 0x00C then some (s.pageStat p)
  else if o = 0x018 then some (s.pendBits p)
  else if o = 0x020 then some (BitVec.ofNat 32 (s.stageCount p))
  else none

/-- Q_STAT. -/
def State.qStat (s : State) (q : Nat) : Word :=
  let held := decide (8192 ≤ q) && decide (q < 8960) && s.paused (Fin.ofNat 48 ((q - 8192) / 16)) q
  BitVec.ofNat 32 (1 + b2n (mapGet false s.elig q) * 2 + b2n held * 4)

/-- The computed registers of a page, for requester `r`. -/
def computed (s : State) (r : Req) (p o : Nat) : Option Word :=
  if p ≤ 3 then readLRX s (Fin.ofNat 4 p) o else if p = P.LTX then readLTX s o else if p = P.DSF then readDSF s o
  else if p = P.TRB then readTRB s o else if p = P.ACT then readACT s o else if p = P.UPB then readUPB s o
  else if p = P.LCK then readLCK s o else if p = P.KEY then readKEY s o else if p = P.TIM then readTIM s o
  else if p = P.SML then readSM s P.SML o else if p < 0x40 then none
  else if p = P.PRS then readPRS s o else if p = P.CLS then readCLS s o else if p = P.BPM then readBPM s o
  else if p ≤ 0x46 then readMEM s (Fin.ofNat 4 (p - 0x43)) o else if p = P.ECC then readECC s o else if p = P.MXE then readMXE s o
  else if p = P.SCH then (if o = 0x048 then some (s.qStat (s.fld (F.SCH_Q_SEL_QUEUE (reqNum r)))) else readSCH s r o)
  else if p = P.SHP then readSHP s r o else if p = P.POL then readPOL s r o else if p = P.GAT then readGAT s r o
  else if p ≤ 0x58 then readBPQ s (p - 0x4D) o else if p = P.LMC then readLMC s o else if p = P.TCL then readTCL s o
  else if p = P.SMF then readSM s P.SMF o else if p < 0xA2 then none
  else if p = P.CMT then readCMT s o else if p = P.EVT then readEVT s r o else if p = P.PWR then readPWR s o
  else if p = P.RST then readRST s o else if p = P.HIF then readHIF s o else if p = P.OWN then readOWN s o
  else if p = P.SYS then readSYS s o else none

/-- What the stored register at `k` shows: its counters as CNT_HOLD lets them, nothing of its WO fields. -/
def State.shownWord (s : State) (k : Nat) : Word :=
  let rows := fieldsAt k
  let held := s.bit (F.HDR_PAGE_CTL_CNT_HOLD (pageOf k)) && rows.any (fun r => decide (r.ty = .ctr))
  let w := if held then mapGet (resetWord k) s.shown k else s.rd k
  rows.foldl (fun x r => if r.ty = .wo then setField x r.lo r.w 0 else x) w

/-- The state as it was when the line die lost its power, in what the registers of its pages show (R36). -/
def State.asOff (s : State) : State :=
  match s.dark with
  | some d => { s with tribs := d.tribs, rows := d.rows, ttest := d.ttest, upb := d.upb, key := d.key, seam := { s.seam with held := d.held } }
  | none => s

/-- What the register at address `a` reads as for requester `r`; an offset without a register and an unused page read as 0. -/
def State.readWord (s : State) (r : Req) (a : Nat) : Word :=
  let p := pageOf a
  let o := ofsOf a
  if fieldsAt a = [] then 0
  else
    match (if o < 0x040 then readHDR s p o else computed (if s.powered a then s else s.asOff) r p o) with
    | some w => w
    | none => s.shownWord (s.resolve r a)

/-- The registers whose read has an effect (R645). -/
def hasReadEffect (a : Nat) : Bool :=
  [R.EVT_REC_NS, R.TCL_TXTS_NS, R.TIM_TIME_SEC_LO, R.TIM_RTC_LO, R.DSF_CH_FC_LO 0, R.DSF_CH_FC_LO 1, R.DSF_CH_FC_LO 2,
    R.DSF_CH_FC_LO 3].contains a

/-- The effect of a read of the register at address `a`. -/
def State.readEffect (s : State) (a : Nat) : State :=
  if a = R.EVT_REC_NS then { s with evt := { s.evt with ring := s.evt.ring.tail } }
  else if a = R.TCL_TXTS_NS then s.popTxts
  else if a = R.TIM_TIME_SEC_LO then s.latchTime
  else if a = R.TIM_RTC_LO then s.latchRtc
  else if hasReadEffect a then s.latchFc (Fin.ofNat 4 ((ofsOf a - 0x100) / 0x80))
  else s

/-! ### The mirror (R18, R36, R58, R59, R644) -/

/-- What the mirror holds for the register at address `a`. -/
def State.mirrorWord (s : State) (a : Nat) : Word := mapGet (State.reset.readWord .shelf a) s.mirror a

/-- What a shelf-bus read of the register at `a` shows: the mirror, with PAGE_STAT.STALE while the Seam is down (R18, R38). -/
def State.mirrorShown (s : State) (a : Nat) : Word :=
  if linePage (pageOf a) ∧ ofsOf a = 0x00C ∧ s.seamIsDown then s.mirrorWord a ||| 2 else s.mirrorWord a

/-- The register addresses of a page. -/
def regsOf (p : Nat) : List Nat :=
  ((layoutOf p).map (fun r => (List.range r.n).map (fun i => p * 0x1000 + r.ofs + i * r.st))).flatten.dedup

/-- The bits that hold RO fields and counters. -/
def roMask (a : Nat) : Word :=
  (fieldsAt a).foldl (fun m r => if r.ty = .ro ∨ r.ty = .ctr then setField m r.lo r.w (2 ^ r.w - 1) else m) 0

/-- The mirror takes the register at `a`: whole, or its RO fields and counters. -/
def State.mirrorReg (s : State) (whole : Bool) (a : Nat) : State :=
  let new := s.readWord .shelf a
  let w := if whole then new else (s.mirrorWord a &&& ~~~ roMask a) ||| (new &&& roMask a)
  { s with mirror := mapPut (State.reset.readWord .shelf a) s.mirror a w }

/-- The mirror takes page `p`. A page that has applied a group shows its STAGE_CNT and COMMIT_EPOCH only in the page's own step
(R58). -/
def State.mirrorPage (s : State) (p : Nat) (whole : Bool) : State :=
  let as_ := regsOf p
  let due := s.hif.mirPend.contains p
  let mine := if due && !whole then as_.filter (fun a => decide (ofsOf a ≠ 0x020 ∧ ofsOf a ≠ 0x024)) else as_
  let s1 := mine.foldl (fun (t : State) a => t.mirrorReg whole a) s
  s1.setHif (fun h => { h with mirPend := if whole then h.mirPend.filter (fun q => decide (q ≠ p)) else h.mirPend,
                               early := h.early.filter (fun a => decide (pageOf a ≠ p)) })

/-- The registers whose selected entry changes with a write of the selector at `a` by `r` and which the mirror then takes
with it (R230, R473). -/
def shownBy (r : Req) (a : Nat) : List Nat :=
  let p := pageOf a
  if a = R.TRB_TBL_ADDR ∨ a = R.TRB_ST_SEL ∨ (r = .shelf ∧ [P.SCH, P.SHP, P.POL, P.GAT].contains p ∧ selectors.contains a) then
    (regsOf p).filter (fun k => decide (0x040 ≤ ofsOf k))
  else []

/-- The mirror takes the entry that the selector at `a` now selects; of a page in mid-group no RWS field (R18, R59). -/
def State.mirrorSel (s : State) (r : Req) (a : Nat) : State :=
  if linePage (pageOf a) ∧ s.seam.phase ≠ .up then s
  else
    let due := s.hif.mirPend.contains (pageOf a)
    (shownBy r a).foldl (fun (t : State) k => t.mirrorReg (!due || !isStaged k) k) s

/-! ### What a write does (R28, R38, R42) -/

/-- A write of a register of the common header (R38, R568). -/
def State.writeHDR (s : State) (p o : Nat) (v : Word) : State :=
  if o = 0x008 then s.opPageCtl p v
  else if o = 0x014 then s.opEvtMask p v
  else if o = 0x01C then s.opEvtForce p v
  else s.store (p * 0x1000 + o) v

/-- A write of a register of LRXc, LTX, DSF, TRB, ACT, UPB, LCK, KEY or TIM; SML has no register that is written. -/
def State.writeLine (s : State) (r : Req) (p o : Nat) (v : Word) : State :=
  let k := p * 0x1000 + o
  if p ≤ 3 then
    let c : Chan := Fin.ofNat 4 p
    if o = 0x040 then s.opRxCtl c v else if o = 0x064 then s.opCal c v else if o = 0x068 then s.opAdapt c v else s.store k v
  else if p = P.LTX then
    let c : Chan := Fin.ofNat 4 ((o - 0x040) / 16)
    if 0x080 ≤ o then s
    else if o % 16 = 0 then s.opTxConfig c false v else if o % 16 = 4 then s.opTxConfig c true v
    else if o % 16 = 8 then s.opTxTest r c v else s
  else if p = P.DSF then
    if 0x100 ≤ o ∧ o < 0x300 ∧ o % 0x80 = 0x5C then s.opChCmd (Fin.ofNat 4 ((o - 0x100) / 0x80)) v else s.store k v
  else if p = P.TRB then
    if o = 0x040 then s.opTrbCtl v else if o = 0x048 then (s.store k v).viewTbl else if o = 0x04C then s.opTblCmd v
    else if o = 0x054 then s.opTblData r false v else if o = 0x058 then s.opTblData r true v
    else if o = 0x064 then s.opStFlags v else if o = 0x0A4 then s.opTestCtl v else s.store k v
  else if p = P.ACT then
    if o = 0x040 then s.opActCtl v else if o = 0x048 then s.opSerial r false v else if o = 0x04C then s.opSerial r true v
    else if o = 0x058 then s.opChanCtl v else if o = 0x074 then s.opGuardCmd r v else if o = 0x078 then s.opLocalRel r v
    else s.store k v
  else if p = P.UPB then
    if o = 0x048 then (s.store k v).viewGsm else if o = 0x04C then s.opGsmData r v else if o = 0x050 then s.opGsmCmd v
    else s.store k v
  else if p = P.LCK then (if o = 0x05C then s.opKeyErase v else s.store k v)
  else if p = P.KEY then
    if o = 0x040 then s.opUnwCfg r v else if o = 0x048 then s.opKeyCmd r v else s.store k v
  else if p = P.TIM then
    if o = 0x040 then s.opTimCtl v else if o = 0x07C then s.opTimCmd r v
    else if 0x0C0 ≤ o ∧ o ≤ 0x0CC then s.opB r k v else s.store k v
  else s

/-- A write of a register of PRS, CLS, BPM, MEMm, ECC or MXE. -/
def State.writePath (s : State) (r : Req) (p o : Nat) (v : Word) : State :=
  let k := p * 0x1000 + o
  if p = P.PRS then
    if o = 0x04C then (s.store k v).viewProg else if o = 0x050 then s.opProgCmd r v else if o = 0x06C then s.opProgData3 r v
    else s.store k v
  else if p = P.CLS then
    if o = 0x044 then s.opFlowCtl r v else if o = 0x058 then (s.store k v).viewTree else if o = 0x06C then s.opTreeData3 r v
    else if o = 0x074 then s.opFlowCmd r v false else s.store k v
  else if p = P.BPM then
    if o = 0x040 then s.opBpmCtl r v else if o = 0x048 then (s.store k v).viewQmap else if o = 0x04C then s.opQmapData r v
    else if o = 0x050 then s.opQmapCmd v else if o = 0x060 then s.opBufCmd v
    else if 0x100 ≤ o ∧ o < 0x120 then s.opOnpCnt r ((o - 0x100) / 4) v
    else if 0x200 ≤ o ∧ o < 0x280 then s.opExtReg r ((o - 0x200) / 16) ((o - 0x200) / 4 % 4) v
    else s.store k v
  else if p ≤ 0x46 then
    let m : Chan := Fin.ofNat 4 (p - 0x43)
    if o = 0x044 then s.opMemCmd r m v else if o = 0x054 then s.opSkip r m false v else if o = 0x058 then s.opSkip r m true v
    else s.store k v
  else if p = P.ECC then
    if o = 0x048 then s.opCeCfg v else if o = 0x050 then s.opRetCmd r v else s.store k v
  else if o = 0x044 then s.opMxeCmd r v else s.store k v

/-- A write of a register of SCH, SHP, POL, GAT, BPQk, LMC, TCL or SMF. -/
def State.writeQueue (s : State) (r : Req) (p o : Nat) (v : Word) : State :=
  let k := p * 0x1000 + o
  if p = P.SCH then (if o = 0x064 then s.opQCmd r v else s.store (s.resolve r k) v)
  else if p = P.SHP then (if o = 0x040 then s.opShpCtl v else s.store (s.resolve r k) v)
  else if p = P.POL then s.store (s.resolve r k) v
  else if p = P.GAT then
    if o = 0x048 then (s.store (s.resolve r k) v).viewGate (reqNum r) else if o = 0x050 then s.opGateEntryLo r v
    else if 0x054 ≤ o ∧ o ≤ 0x060 then s.opGateShadow r k v else if o = 0x064 then s.opGateCmd r v else s.store k v
  else if p ≤ 0x58 then
    let l : Fin 48 := Fin.ofNat 48 (4 * (p - 0x4D) + (o - 0x100) / 0x80)
    if o < 0x100 ∨ 0x300 ≤ o then s.store k v
    else if o % 0x80 = 0x00 then s.opLaneCtl l v else if o % 0x80 = 0x04 then s.opLaneCmd l v
    else if o % 0x80 = 0x08 then s.opLaneStat l v else s.store k v
  else if p = P.LMC then
    if o = 0x044 then s.opMdioCmd r v
    else if 0x100 ≤ o ∧ o < 0x500 ∧ o % 0x80 = 0x04 then s.opPortStat (Fin.ofNat 8 ((o - 0x100) / 0x80)) v
    else s.store k v
  else if p = P.SMF ∧ o = 0x040 then s.opSeamCtl v
  else s.store k v

/-- A write of a register of CPU, TSK, CMT, EVT, PWR, RST, HIF, OWN or SYS. -/
def State.writeSystem (s : State) (r : Req) (p o : Nat) (v : Word) : State :=
  let k := p * 0x1000 + o
  if p = P.CPU then
    if o = 0x064 then s.opExcCfg r v else if o = 0x06C then s.opExcTail v else if o = 0x07C then s.opInject v else s.store k v
  else if p = P.TSK then
    if o = 0x040 then s.opTskCtl v else if o = 0x048 then s.opItemCfg r v else if o = 0x04C then s.opItemMask r v
    else if o = 0x058 then s.opPost r v else if o = 0x05C then s.cancelBy r (getField v 0 12) else s.store (s.resolve r k) v
  else if p = P.CMT then
    let tag : BitVec 8 := v.setWidth 8
    if o = 0x040 then s.opCmtOpen r tag else if o = 0x044 then s.opCmtCommit r tag else if o = 0x048 then s.opCmtDiscard r tag
    else if o = 0x04C then s.opCmtAck r tag else s.store k v
  else if p = P.EVT then
    if o = 0x040 then s.opEvtCtl v else if o = 0x060 then s.opMsixArm false v else if o = 0x064 then s.opMsixArm true v
    else if o = 0x090 then s.opLogCfg r v else s.store (s.resolve r k) v
  else if p = P.PWR then
    if o = 0x040 then s.opPwrCtl v else if o = 0x044 then s.opPwrCmd r v else if o = 0x060 then s.opPmbCfg v else s.store k v
  else if p = P.RST then
    if o = 0x044 then s.opRstCmd v else if o = 0x048 then s.opCoreRun v else if o = 0x050 then s.opBootCmd r v
    else if o = 0x060 then s.opWdtCfg v else if o = 0x064 then s.opWdtKick v else s.store k v
  else if p = P.HIF then
    if o = 0x054 then s.opI2cCmd r v else if o = 0x068 then s.opFlashCmd v else if o = 0x070 then s.opJtagCtl r v
    else if 0x800 ≤ o ∧ o < 0xC00 ∧ o % 16 = 12 then s.opMsixCtl ((o - 0x800) / 16) v else s.store k v
  else if p = P.OWN then
    if o = 0x040 then s.opOwnStat v else if o = 0x044 then s.opOwnRelease r v else if o = 0x048 then s.opOwnClaim r v
    else if o = 0x04C then s.opOwnCtl v else if o = 0x054 then s.opHeartbeat v else if o = 0x058 then s.opPresCtl v
    else s.store k v
  else if o = 0x044 then s.opBistCtl v else s.store k v

/-- A write of the register at address `a`, whose checks have passed, but for the mirror. -/
def State.writeAt (s : State) (r : Req) (a : Nat) (v : Word) : State :=
  let p := pageOf a
  let o := ofsOf a
  if o < 0x040 then s.writeHDR p o v
  else if p < 0x40 then s.writeLine r p o v
  else if p ≤ 0x48 then s.writePath r p o v
  else if p ≤ 0x5B then s.writeQueue r p o v
  else if 0xA0 ≤ p ∧ p ≤ 0xA8 then s.writeSystem r p o v
  else s

/-- A write of the register at address `a`, whose checks have passed. -/
def State.performWrite (s : State) (r : Req) (a : Nat) (v : Word) : State := (s.writeAt r a v).mirrorSel r a

/-- A write access to address `a`: staged where the register has RWS fields (R41-R43), at once otherwise. -/
def State.writeReg (s : State) (r : Req) (a : Nat) (v : Word) (full : Bool) : State :=
  if isStaged a then s.accessStaged r (s.resolve r a) full v else s.access r a full (fun t => t.performWrite r a v)

/-! ### The shelf bus (R31-R35, R641-R647) -/

/-- The register address that a shelf-bus cycle reaches. -/
def State.shelfAddr (s : State) (slot : BitVec 7) (ofs : BitVec 10) : Nat :=
  (slot.toNat + 128 * b2n s.hif.bank) * 0x1000 + ofs.toNat * 4

/-- A half-word answer. -/
def half (n : Nat) : Resp := .data (BitVec.ofNat 32 (n % 2 ^ 16))

/-- A read in the bank slot (R642). -/
def State.bankRead (s : State) (ofs : BitVec 10) : State :=
  (s.setHif (fun h => { h with bank := ofs.getLsbD 0 })).reply (half (b2n (ofs.getLsbD 0)))

/-- A write in the bank slot (R642). -/
def State.bankWrite (s : State) (ofs : BitVec 10) : State := s.busError .shelf (s.shelfAddr 127 ofs) false 2

/-- The effect of a low-half read at the source (R645). -/
def State.shelfEffect (s : State) (a : Nat) : State :=
  if ¬ hasReadEffect a ∨ (linePage (pageOf a) ∧ s.seam.phase ≠ .up) then s
  else if s.hif.early.contains a then s.bump R.HIF_CNT_SB_RDE_EARLY
  else
    let s1 := if s.powered a then s.readEffect a else s
    s1.setHif (fun h => { h with early := h.early ++ [a] })

/-- A low-half read (R31). -/
def State.shelfLow (s : State) (a : Nat) : State :=
  let w := if usedPage (pageOf a) then s.mirrorShown a else 0
  let s1 := s.shelfEffect a
  (s1.setHif (fun h => { h with latch := some (a, BitVec.ofNat 16 (w.toNat / 2 ^ 16)) })).reply (half w.toNat)

/-- A high-half read (R31, R32). -/
def State.shelfHigh (s : State) (a : Nat) : State :=
  let w := if usedPage (pageOf a) then s.mirrorShown a else 0
  let latched := match s.hif.latch with
    | some (b, h) => if b = a ∧ usedPage (pageOf a) then some h else none
    | none => none
  s.reply (match latched with | some h => half h.toNat | none => half (w.toNat / 2 ^ 16))

/-- A high-half write: it completes a write, which enters the buffer, or is refused (R33, R34, R646). -/
def State.shelfWrite (s : State) (a : Nat) (d : BitVec 16) : State :=
  let s1 := s.setHif (fun h => { h with holder := none })
  match (match s.hif.holder with | some (b, lo) => if b = a then some lo else none | none => none) with
  | some lo =>
    if s.hif.wbuf.length < 32 then
      (s1.setHif (fun h => { h with wbuf := h.wbuf ++ [(a, d ++ lo)] })).reply .done
    else ((s1.bump R.HIF_CNT_SB_WOVF).fire P.HIF E.HIF_SB_WOVF).busError .shelf a false 6
  | none => (s1.fire P.HIF E.HIF_HALF_MISMATCH).busError .shelf a false 6

/-- A shelf-bus cycle: ignored while the bus does not work. -/
def State.shelf (s : State) (f : State → State) : State := if s.reaches .shelf then f s else s.reply .ignored

/-! ### Commands -/

/-- REGISTER_WRITE (R30, R36, R42, R79). -/
def execRegisterWrite (r : Req) (a : Addr) (v : Word) (full : Bool) (s : State) : Res := .next (s.writeReg r a.toNat v full)

/-- STAGED_WRITE (R43-R45). -/
def execStagedWrite (r : Req) (a : Addr) (v : Word) (full : Bool) (s : State) : Res :=
  if isStaged a.toNat then .next (s.accessStaged r (s.resolve r a.toNat) full v) else .fault .illFormed

/-- SHELF_READ_LOW (R31, R645). -/
def execShelfReadLow (slot : BitVec 7) (ofs : BitVec 10) (s : State) : Res :=
  .next (s.shelf (fun t => if slot = 127 then t.bankRead ofs else t.shelfLow (t.shelfAddr slot ofs)))

/-- SHELF_READ_HIGH (R31, R32). -/
def execShelfReadHigh (slot : BitVec 7) (ofs : BitVec 10) (s : State) : Res :=
  .next (s.shelf (fun t => if slot = 127 then t.bankRead ofs else t.shelfHigh (t.shelfAddr slot ofs)))

/-- SHELF_WRITE_LOW (R33, R34). -/
def execShelfWriteLow (slot : BitVec 7) (ofs : BitVec 10) (d : BitVec 16) (s : State) : Res :=
  .next (s.shelf (fun t => if slot = 127 then t.bankWrite ofs
    else (t.setHif (fun h => { h with holder := some (t.shelfAddr slot ofs, d) })).reply .done))

/-- SHELF_WRITE_HIGH (R33, R34, R646). -/
def execShelfWriteHigh (slot : BitVec 7) (ofs : BitVec 10) (d : BitVec 16) (s : State) : Res :=
  .next (s.shelf (fun t => if slot = 127 then t.bankWrite ofs else t.shelfWrite (t.shelfAddr slot ofs) d))

/-- BANK_SLOT_READ (R642). -/
def execBankSlotRead (ofs : BitVec 10) (s : State) : Res := .next (s.shelf (fun t => t.bankRead ofs))

/-- BANK_SLOT_WRITE (R642). -/
def execBankSlotWrite (ofs : BitVec 10) (_d : BitVec 16) (s : State) : Res := .next (s.shelf (fun t => t.bankWrite ofs))

/-- SHELF_WRITE_EFFECT (R646, R647). -/
def execShelfWriteEffect (s : State) : Res :=
  match s.hif.wbuf with
  | [] => .next s
  | (a, v) :: rest => .next ((s.setHif (fun h => { h with wbuf := rest })).writeReg .shelf a v true)

/-- MIRROR_UPDATE (R58, R59, R644): a line page not while the Seam is down or stopped (R18). -/
def execMirrorUpdate (page : BitVec 8) (whole : Bool) (s : State) : Res :=
  let p := page.toNat
  .next (if usedPage p ∧ s.domOn 31 ∧ (linePage p → s.seam.phase = .up) then s.mirrorPage p whole else s)

/-- UNUSED_PAGE_ACCESS (R690). -/
def execUnusedPageAccess (r : Req) (rd : Bool) (a : Addr) (high : Bool) (s : State) : Res :=
  let k := a.toNat
  if usedPage (pageOf k) ∨ k % 4 ≠ 0 then .fault .illFormed
  else if ¬ s.reaches r then .next (s.reply .ignored)
  else if r = .shelf ∧ rd then .next (if high then s.shelfHigh k else s.shelfLow k)
  else .next (s.busError r k rd 7)

/-- COPY_COMPLETE (R229, R299, R358, R395, R469). -/
def execCopyComplete (k : CopyKind) (s : State) : Res :=
  .next (match k with
  | .trb => s.copyTbl
  | .gsm => s.copyGsm
  | .prog => s.copyProg
  | .qmap => s.copyQmap
  | .gate l => s.copyGate l)

/-- TABLE_SELECT (R230, R473). -/
def execTableSelect (r : Req) (a : Addr) (v : Word) (s : State) : Res :=
  if selectors.contains a.toNat then .next (s.access r a.toNat true (fun t => t.performWrite r a.toNat v)) else .fault .illFormed

/-- READ_BUS_ERROR (R30, R37, R634, R640): a read of PCIe or a core; one that passes its checks is answered. A shelf-bus read
never ends with a bus error. -/
def execReadBusError (r : Req) (a : Addr) (full : Bool) (s : State) : Res :=
  .next (if r = .shelf then s
  else s.readAccess r a.toNat full (s.readWord r a.toNat) (fun t => t.readEffect a.toNat))

end Sys2Proof.Machine
end

