-- ==== Sys2Proof/Machine/Dispatch.lean ====
section
/-! DEFINITION. The effect of a command on everything but the queue: one arm for each constructor of `Instr`. -/

namespace Sys2Proof.Machine

open Sys2Proof

def exec (i : Instr) (s : State) : Host.Outcome State Fault Refusal :=
  match i with
  -- Chapter 1 and page SML/SMF: the Seam and the commit messages
  | .seamFlitReceive toFab ok dropLine dropFab => Sys2Proof.Machine.execSeamFlitReceive toFab ok dropLine dropFab s
  | .seamLaneLockLoss fab lane dropLine dropFab => Sys2Proof.Machine.execSeamLaneLockLoss fab lane dropLine dropFab s
  | .seamLost => Sys2Proof.Machine.execSeamLost s
  | .seamRetrainAttempt => Sys2Proof.Machine.execSeamRetrainAttempt s
  | .seamUp => Sys2Proof.Machine.execSeamUp s
  | .retrainEnWrite r v => Sys2Proof.Machine.execRetrainEnWrite r v s
  | .prepare tag => Sys2Proof.Machine.execPrepare tag s
  | .prepared tag => Sys2Proof.Machine.execPrepared tag s
  | .apply tag => Sys2Proof.Machine.execApply tag s
  | .abort tag => Sys2Proof.Machine.execAbort tag s
  | .abortDomainOff tag => Sys2Proof.Machine.execAbortDomainOff tag s
  | .prepTimeout tag => Sys2Proof.Machine.execPrepTimeout tag s
  -- Chapter 2 and R31-R34, R642-R647: register access, commit groups, markers
  | .registerWrite r a v full => Sys2Proof.Machine.execRegisterWrite r a v full s
  | .stagedWrite r a v full => Sys2Proof.Machine.execStagedWrite r a v full s
  | .shelfReadLow slot ofs => Sys2Proof.Machine.execShelfReadLow slot ofs s
  | .shelfReadHigh slot ofs => Sys2Proof.Machine.execShelfReadHigh slot ofs s
  | .shelfWriteLow slot ofs d => Sys2Proof.Machine.execShelfWriteLow slot ofs d s
  | .shelfWriteHigh slot ofs d => Sys2Proof.Machine.execShelfWriteHigh slot ofs d s
  | .bankSlotRead ofs => Sys2Proof.Machine.execBankSlotRead ofs s
  | .bankSlotWrite ofs d => Sys2Proof.Machine.execBankSlotWrite ofs d s
  | .shelfWriteEffect => Sys2Proof.Machine.execShelfWriteEffect s
  | .mirrorUpdate page whole => Sys2Proof.Machine.execMirrorUpdate page whole s
  | .unusedPageAccess r rd a high => Sys2Proof.Machine.execUnusedPageAccess r rd a high s
  | .cntClr r page v => Sys2Proof.Machine.execCntClr r page v s
  | .cntHold r page v => Sys2Proof.Machine.execCntHold r page v s
  | .evtOutSet r page v => Sys2Proof.Machine.execEvtOutSet r page v s
  | .evtRawClear r page bits firing => Sys2Proof.Machine.execEvtRawClear r page bits firing s
  | .evtMaskWrite r page bits => Sys2Proof.Machine.execEvtMaskWrite r page bits s
  | .evtForce r page bits => Sys2Proof.Machine.execEvtForce r page bits s
  | .cmtOpen r tag => Sys2Proof.Machine.execCmtOpen r tag s
  | .cmtCommit r tag => Sys2Proof.Machine.execCmtCommit r tag s
  | .cmtDiscard r tag => Sys2Proof.Machine.execCmtDiscard r tag s
  | .cmtAck r tag => Sys2Proof.Machine.execCmtAck r tag s
  | .markerInject tag pipe => Sys2Proof.Machine.execMarkerInject tag pipe s
  | .markerPass tag pipe st => Sys2Proof.Machine.execMarkerPass tag pipe st s
  | .boundaryApply tag u => Sys2Proof.Machine.execBoundaryApply tag u s
  -- Chapter 3: ownership, presence, the seal
  | .electionTimeout => Sys2Proof.Machine.execElectionTimeout s
  | .ownClaim r h => Sys2Proof.Machine.execOwnClaim r h s
  | .ownClaimForced r h => Sys2Proof.Machine.execOwnClaimForced r h s
  | .ownReleaseTarget r t h => Sys2Proof.Machine.execOwnReleaseTarget r t h s
  | .ownReleaseVacate r h => Sys2Proof.Machine.execOwnReleaseVacate r h s
  | .handoverTimeout => Sys2Proof.Machine.execHandoverTimeout s
  | .leaseExpire h => Sys2Proof.Machine.execLeaseExpire h s
  | .ownHeartbeat r => Sys2Proof.Machine.execOwnHeartbeat r s
  | .presenceDebounce high => Sys2Proof.Machine.execPresenceDebounce high s
  | .presenceOn => Sys2Proof.Machine.execPresenceOn s
  | .presenceStuck => Sys2Proof.Machine.execPresenceStuck s
  | .presenceUnstick => Sys2Proof.Machine.execPresenceUnstick s
  | .presenceWindowExpire => Sys2Proof.Machine.execPresenceWindowExpire s
  | .forceWindowExpire => Sys2Proof.Machine.execForceWindowExpire s
  | .presenceEnd r v => Sys2Proof.Machine.execPresenceEnd r v s
  | .sealBreak seen => Sys2Proof.Machine.execSealBreak seen s
  | .sealRearm seen => Sys2Proof.Machine.execSealRearm seen s
  | .sealBrokenClear r => Sys2Proof.Machine.execSealBrokenClear r s
  | .wakeL0Timeout => Sys2Proof.Machine.execWakeL0Timeout s
  -- Chapter 4: the line receiver
  | .rxEnable r c v => Sys2Proof.Machine.execRxEnable r c v s
  | .rxDisable r c v => Sys2Proof.Machine.execRxDisable r c v s
  | .preambleDetect c offset peak gain lag => Sys2Proof.Machine.execPreambleDetect c offset peak gain lag s
  | .blindAcquire c => Sys2Proof.Machine.execBlindAcquire c s
  | .trainingCountReached c locked a => Sys2Proof.Machine.execTrainingCountReached c locked a s
  | .plannedHold c g => Sys2Proof.Machine.execPlannedHold c g s
  | .unplannedHold c => Sys2Proof.Machine.execUnplannedHold c s
  | .losAssert c idle => Sys2Proof.Machine.execLosAssert c idle s
  | .dozeEnter c g => Sys2Proof.Machine.execDozeEnter c g s
  | .dozeWake c => Sys2Proof.Machine.execDozeWake c s
  | .cdrLossOfLock c => Sys2Proof.Machine.execCdrLossOfLock c s
  | .armWindowClose c => Sys2Proof.Machine.execArmWindowClose c s
  | .simDetect r c v => Sys2Proof.Machine.execSimDetect r c v s
  | .saveDef r c v => Sys2Proof.Machine.execSaveDef r c v s
  | .loadFactory r c v => Sys2Proof.Machine.execLoadFactory r c v s
  | .lqBlock c lq a => Sys2Proof.Machine.execLqBlock c lq a s
  | .noiseMeasure c floor => Sys2Proof.Machine.execNoiseMeasure c floor s
  | .rateMeasure c ppm lock => Sys2Proof.Machine.execRateMeasure c ppm lock s
  | .clipBlock c clips => Sys2Proof.Machine.execClipBlock c clips s
  | .calStart r c v => Sys2Proof.Machine.execCalStart r c v s
  | .calAbort r c v => Sys2Proof.Machine.execCalAbort r c v s
  | .calStep c k nonIdle trim => Sys2Proof.Machine.execCalStep c k nonIdle trim s
  -- Chapter 5: downstream framing
  | .syncCandidate c pos window => Sys2Proof.Machine.execSyncCandidate c pos window s
  | .groupDecode c g => Sys2Proof.Machine.execGroupDecode c g s
  | .plannedCoast c => Sys2Proof.Machine.execPlannedCoast c s
  | .coastEnd c g => Sys2Proof.Machine.execCoastEnd c g s
  | .coastLimit c => Sys2Proof.Machine.execCoastLimit c s
  | .coastFrameAdvance c => Sys2Proof.Machine.execCoastFrameAdvance c s
  | .multiframeStart c => Sys2Proof.Machine.execMultiframeStart c s
  | .berSecond c => Sys2Proof.Machine.execBerSecond c s
  | .fragmentReceive c stamp => Sys2Proof.Machine.execFragmentReceive c stamp s
  | .fcForget r c => Sys2Proof.Machine.execFcForget r c s
  -- Chapter 6: tributaries
  | .containerBuild ctx => Sys2Proof.Machine.execContainerBuild ctx s
  | .containerReceive c => Sys2Proof.Machine.execContainerReceive c s
  | .desyncStart ctx => Sys2Proof.Machine.execDesyncStart ctx s
  | .locTimeout ctx => Sys2Proof.Machine.execLocTimeout ctx s
  | .tribRateSecond => Sys2Proof.Machine.execTribRateSecond s
  | .laneRowCheck l row => Sys2Proof.Machine.execLaneRowCheck l row s
  | .hairpinByte ctx => Sys2Proof.Machine.execHairpinByte ctx s
  | .tblDataWrite r v => Sys2Proof.Machine.execTblDataWrite r v s
  | .tblCopy r v => Sys2Proof.Machine.execTblCopy r v s
  | .tblCheck r v => Sys2Proof.Machine.execTblCheck r v s
  | .copyComplete k => Sys2Proof.Machine.execCopyComplete k s
  | .tableSelect r a v => Sys2Proof.Machine.execTableSelect r a v s
  -- Chapter 7: control messages, activation, silence, the guard
  | .profile h b => Sys2Proof.Machine.execProfile h b s
  | .announceWindow h frame start len pre chance draw ofs => Sys2Proof.Machine.execAnnounceWindow h frame start len pre chance draw ofs s
  | .assignId h serial tid => Sys2Proof.Machine.execAssignId h serial tid s
  | .rangingGrant h frame start pre => Sys2Proof.Machine.execRangingGrant h frame start pre s
  | .setDelay h eqd frame => Sys2Proof.Machine.execSetDelay h eqd frame s
  | .grant h es => Sys2Proof.Machine.execGrant h es s
  | .move h b => Sys2Proof.Machine.execMove h b s
  | .deactivate h => Sys2Proof.Machine.execDeactivate h s
  | .silence h b => Sys2Proof.Machine.execSilence h b s
  | .emergencyStop h b => Sys2Proof.Machine.execEmergencyStop h b s
  | .release h b => Sys2Proof.Machine.execRelease h b s
  | .timeOfDay h frame sec ns => Sys2Proof.Machine.execTimeOfDay h frame sec ns s
  | .keyBlob h bytes => Sys2Proof.Machine.execKeyBlob h bytes s
  | .keySwitch h frame => Sys2Proof.Machine.execKeySwitch h frame s
  | .statusReq h => Sys2Proof.Machine.execStatusReq h s
  | .controlMessageReject h type crcFail => Sys2Proof.Machine.execControlMessageReject h type crcFail s
  | .announceTimeout => Sys2Proof.Machine.execAnnounceTimeout s
  | .rangingTimeout => Sys2Proof.Machine.execRangingTimeout s
  | .lossTimeout => Sys2Proof.Machine.execLossTimeout s
  | .holdTimeout => Sys2Proof.Machine.execHoldTimeout s
  | .actDisable r v => Sys2Proof.Machine.execActDisable r v s
  | .serialWrite r hi v => Sys2Proof.Machine.execSerialWrite r hi v s
  | .localRel r v => Sys2Proof.Machine.execLocalRel r v s
  | .guardTrip c => Sys2Proof.Machine.execGuardTrip c s
  | .guardFbTrip c => Sys2Proof.Machine.execGuardFbTrip c s
  | .guardClr r v => Sys2Proof.Machine.execGuardClr r v s
  | .guardTest r v => Sys2Proof.Machine.execGuardTest r v s
  -- Chapter 8: upstream bursts
  | .upstreamFrameStart c => Sys2Proof.Machine.execUpstreamFrameStart c s
  | .burstFix c => Sys2Proof.Machine.execBurstFix c s
  | .burstStart c => Sys2Proof.Machine.execBurstStart c s
  | .burstEnd c => Sys2Proof.Machine.execBurstEnd c s
  | .packetFragmentStart c present => Sys2Proof.Machine.execPacketFragmentStart c present s
  | .packetRelease c => Sys2Proof.Machine.execPacketRelease c s
  | .gsmDataWrite r v => Sys2Proof.Machine.execGsmDataWrite r v s
  | .gsmCopy r v => Sys2Proof.Machine.execGsmCopy r v s
  | .txConfigWrite r c fir v => Sys2Proof.Machine.execTxConfigWrite r c fir v s
  | .txTestWrite r c v => Sys2Proof.Machine.execTxTestWrite r c v s
  -- Chapter 9: the link cipher and the keys
  | .unwrapJobComplete => Sys2Proof.Machine.execUnwrapJobComplete s
  | .keyCmdLink r v => Sys2Proof.Machine.execKeyCmdLink r v s
  | .keyCmdMemory r v => Sys2Proof.Machine.execKeyCmdMemory r v s
  | .keyCmdWrap r v => Sys2Proof.Machine.execKeyCmdWrap r v s
  | .fuseProgramDone ok => Sys2Proof.Machine.execFuseProgramDone ok s
  | .lockoutEnd => Sys2Proof.Machine.execLockoutEnd s
  | .entropyTestFail fab => Sys2Proof.Machine.execEntropyTestFail fab s
  | .keyErasePair r pairs => Sys2Proof.Machine.execKeyErasePair r pairs s
  | .keyEraseAll r => Sys2Proof.Machine.execKeyEraseAll r s
  | .unwLock r => Sys2Proof.Machine.execUnwLock r s
  | .unwCfgWrite r v => Sys2Proof.Machine.execUnwCfgWrite r v s
  -- Chapter 10: parsing and classification
  | .parseStart pipe => Sys2Proof.Machine.execParseStart pipe s
  | .nop e => Sys2Proof.Machine.execNop e s
  | .ld e => Sys2Proof.Machine.execLd e s
  | .ldi e => Sys2Proof.Machine.execLdi e s
  | .ldm e => Sys2Proof.Machine.execLdm e s
  | .addi e => Sys2Proof.Machine.execAddi e s
  | .add e => Sys2Proof.Machine.execAdd e s
  | .andi e => Sys2Proof.Machine.execAndi e s
  | .shl e => Sys2Proof.Machine.execShl e s
  | .shr e => Sys2Proof.Machine.execShr e s
  | .jeq e => Sys2Proof.Machine.execJeq e s
  | .jne e => Sys2Proof.Machine.execJne e s
  | .jlt e => Sys2Proof.Machine.execJlt e s
  | .jmp e => Sys2Proof.Machine.execJmp e s
  | .ext e => Sys2Proof.Machine.execExt e s
  | .kst e => Sys2Proof.Machine.execKst e s
  | .hdr e => Sys2Proof.Machine.execHdr e s
  | .lchk e => Sys2Proof.Machine.execLchk e s
  | .flag e => Sys2Proof.Machine.execFlag e s
  | .done e => Sys2Proof.Machine.execDone e s
  | .mal e => Sys2Proof.Machine.execMal e s
  | .illegalOpcode e => Sys2Proof.Machine.execIllegalOpcode e s
  | .stepBudgetFault e => Sys2Proof.Machine.execStepBudgetFault e s
  | .programFetchUe e => Sys2Proof.Machine.execProgramFetchUe e s
  | .fixedExtract pipe => Sys2Proof.Machine.execFixedExtract pipe s
  | .classifyWalk pipe ueAt => Sys2Proof.Machine.execClassifyWalk pipe ueAt s
  | .recirculate pipe => Sys2Proof.Machine.execRecirculate pipe s
  | .flowLookup pipe ue => Sys2Proof.Machine.execFlowLookup pipe ue s
  | .flowAge ext idx => Sys2Proof.Machine.execFlowAge ext idx s
  | .flowRead r v ue => Sys2Proof.Machine.execFlowRead r v ue s
  | .flowWrite r v => Sys2Proof.Machine.execFlowWrite r v s
  | .flowInvalidate r v => Sys2Proof.Machine.execFlowInvalidate r v s
  | .treeDataWrite r v => Sys2Proof.Machine.execTreeDataWrite r v s
  | .coreTreeStore n node word v full => Sys2Proof.Machine.execCoreTreeStore n node word v full s
  | .progDataWrite r v => Sys2Proof.Machine.execProgDataWrite r v s
  | .progCopy r v => Sys2Proof.Machine.execProgCopy r v s
  -- Chapter 11: buffer pools
  | .bufferAllocate pipe => Sys2Proof.Machine.execBufferAllocate pipe s
  | .bufShare r v => Sys2Proof.Machine.execBufShare r v s
  | .bufRelease r v => Sys2Proof.Machine.execBufRelease r v s
  | .bufFree r v => Sys2Proof.Machine.execBufFree r v s
  | .bufQuery r v => Sys2Proof.Machine.execBufQuery r v s
  | .bufAlloc r v => Sys2Proof.Machine.execBufAlloc r v s
  | .bpmEnable r v => Sys2Proof.Machine.execBpmEnable r v s
  | .onpCntWrite r k v => Sys2Proof.Machine.execOnpCntWrite r k v s
  | .extRegWrite r k m v => Sys2Proof.Machine.execExtRegWrite r k m v s
  | .qmapDataWrite r v => Sys2Proof.Machine.execQmapDataWrite r v s
  | .qmapCopy r v => Sys2Proof.Machine.execQmapCopy r v s
  -- Chapter 12: memory protection
  | .memoryRead u pl o => Sys2Proof.Machine.execMemoryRead u pl o s
  | .memoryWrite u pl data => Sys2Proof.Machine.execMemoryWrite u pl data s
  | .narrowWrite u pl => Sys2Proof.Machine.execNarrowWrite u pl s
  | .lineFill n k a o => Sys2Proof.Machine.execLineFill n k a o s
  | .fillLine ch => Sys2Proof.Machine.execFillLine ch s
  | .scrubRead pl o => Sys2Proof.Machine.execScrubRead pl o s
  | .retire r v => Sys2Proof.Machine.execRetire r v s
  | .clearList r v => Sys2Proof.Machine.execClearList r v s
  | .trackClr r v => Sys2Proof.Machine.execTrackClr r v s
  | .rekey r v => Sys2Proof.Machine.execRekey r v s
  | .fresh r v => Sys2Proof.Machine.execFresh r v s
  | .rekeyLine ch o => Sys2Proof.Machine.execRekeyLine ch o s
  | .memTrain r m v => Sys2Proof.Machine.execMemTrain r m v s
  | .memWithdraw r m v => Sys2Proof.Machine.execMemWithdraw r m v s
  | .trainingDone m gib => Sys2Proof.Machine.execTrainingDone m gib s
  | .trainingFail m stp => Sys2Proof.Machine.execTrainingFail m stp s
  | .skipWindowWrite r m endReg v => Sys2Proof.Machine.execSkipWindowWrite r m endReg v s
  -- Chapter 13: scheduling, shaping, policing, gates
  | .enqueue pipe => Sys2Proof.Machine.execEnqueue pipe s
  | .gsSelect c => Sys2Proof.Machine.execGsSelect c s
  | .laneSelect l => Sys2Proof.Machine.execLaneSelect l s
  | .portSelect p => Sys2Proof.Machine.execPortSelect p s
  | .police pipe => Sys2Proof.Machine.execPolice pipe s
  | .gateSwitch l => Sys2Proof.Machine.execGateSwitch l s
  | .gateShadowWrite r a v => Sys2Proof.Machine.execGateShadowWrite r a v s
  | .gateCopy r v => Sys2Proof.Machine.execGateCopy r v s
  | .hwmClr r v => Sys2Proof.Machine.execHwmClr r v s
  | .hwmClrAll r v => Sys2Proof.Machine.execHwmClrAll r v s
  | .shpEnable r v => Sys2Proof.Machine.execShpEnable r v s
  -- Chapter 14: backplane lanes and legacy ports
  | .laneCtlWrite r l v => Sys2Proof.Machine.execLaneCtlWrite r l v s
  | .laneSleep r l v => Sys2Proof.Machine.execLaneSleep r l v s
  | .laneWake r l v => Sys2Proof.Machine.execLaneWake r l v s
  | .laneRecal r l v => Sys2Proof.Machine.execLaneRecal r l v s
  | .laneRecalAbort r l v => Sys2Proof.Machine.execLaneRecalAbort r l v s
  | .laneRetrain r l v => Sys2Proof.Machine.execLaneRetrain r l v s
  | .negotiationComplete l mode fec => Sys2Proof.Machine.execNegotiationComplete l mode fec s
  | .linkTrainingComplete l => Sys2Proof.Machine.execLinkTrainingComplete l s
  | .linkTrainingTimeout l => Sys2Proof.Machine.execLinkTrainingTimeout l s
  | .pcsLock l => Sys2Proof.Machine.execPcsLock l s
  | .pcsLockLoss l => Sys2Proof.Machine.execPcsLockLoss l s
  | .recalRun l => Sys2Proof.Machine.execRecalRun l s
  | .recalEnd l => Sys2Proof.Machine.execRecalEnd l s
  | .wakeOnSignal l => Sys2Proof.Machine.execWakeOnSignal l s
  | .wakeOnQueue l => Sys2Proof.Machine.execWakeOnQueue l s
  | .pllReady l => Sys2Proof.Machine.execPllReady l s
  | .refLoss => Sys2Proof.Machine.execRefLoss s
  | .refReturn => Sys2Proof.Machine.execRefReturn s
  | .frameReceive e f => Sys2Proof.Machine.execFrameReceive e f s
  | .pauseReceive e quanta => Sys2Proof.Machine.execPauseReceive e quanta s
  | .pfcReceive e en quanta => Sys2Proof.Machine.execPfcReceive e en quanta s
  | .pauseTimerExpire e pri => Sys2Proof.Machine.execPauseTimerExpire e pri s
  | .pauseSend e => Sys2Proof.Machine.execPauseSend e s
  | .pauseRefresh e => Sys2Proof.Machine.execPauseRefresh e s
  | .txUnderrun e => Sys2Proof.Machine.execTxUnderrun e s
  | .frameTransmitEnd e => Sys2Proof.Machine.execFrameTransmitEnd e s
  | .collision p bit rnd => Sys2Proof.Machine.execCollision p bit rnd s
  | .backoffExpire p => Sys2Proof.Machine.execBackoffExpire p s
  | .cxBpStart p => Sys2Proof.Machine.execCxBpStart p s
  | .phyPoll p r1 r4 r5 => Sys2Proof.Machine.execPhyPoll p r1 r4 r5 s
  | .portStepDown p => Sys2Proof.Machine.execPortStepDown p s
  | .portStepUp p => Sys2Proof.Machine.execPortStepUp p s
  | .mdioWrite r v => Sys2Proof.Machine.execMdioWrite r v s
  | .mdioRead r v => Sys2Proof.Machine.execMdioRead r v s
  | .mdioFrameDone data ack => Sys2Proof.Machine.execMdioFrameDone data ack s
  -- Chapter 15: time
  | .servoHoldTimeout => Sys2Proof.Machine.execServoHoldTimeout s
  | .servoDisable r v => Sys2Proof.Machine.execServoDisable r v s
  | .stepByRefused r v => Sys2Proof.Machine.execStepByRefused r v s
  | .stepToTime r v => Sys2Proof.Machine.execStepToTime r v s
  | .stepByAmount r v => Sys2Proof.Machine.execStepByAmount r v s
  | .stepApply => Sys2Proof.Machine.execStepApply s
  | .switchA r v => Sys2Proof.Machine.execSwitchA r v s
  | .switchB r v => Sys2Proof.Machine.execSwitchB r v s
  | .bSample r v => Sys2Proof.Machine.execBSample r v s
  | .bStale => Sys2Proof.Machine.execBStale s
  | .rtcTrimMeasure ppm => Sys2Proof.Machine.execRtcTrimMeasure ppm s
  | .rtcFail => Sys2Proof.Machine.execRtcFail s
  | .fuEntryExpire idx => Sys2Proof.Machine.execFuEntryExpire idx s
  | .txtsRead r => Sys2Proof.Machine.execTxtsRead r s
  | .timeReadLatch r => Sys2Proof.Machine.execTimeReadLatch r s
  | .fcReadLatch r c => Sys2Proof.Machine.execFcReadLatch r c s
  | .rtcReadLatch r => Sys2Proof.Machine.execRtcReadLatch r s
  | .ppsEdge => Sys2Proof.Machine.execPpsEdge s
  | .frameSyncEdge => Sys2Proof.Machine.execFrameSyncEdge s
  | .todUartMessage => Sys2Proof.Machine.execTodUartMessage s
  -- Chapter 16: control cores and task dispatch
  | .take n => Sys2Proof.Machine.execTake n s
  | .itemDone n item => Sys2Proof.Machine.execItemDone n item s
  | .yield n item => Sys2Proof.Machine.execYield n item s
  | .portPost n item flag => Sys2Proof.Machine.execPortPost n item flag s
  | .portCancel n item => Sys2Proof.Machine.execPortCancel n item s
  | .causeRead n => Sys2Proof.Machine.execCauseRead n s
  | .tskPost r v => Sys2Proof.Machine.execTskPost r v s
  | .tskCancel r v => Sys2Proof.Machine.execTskCancel r v s
  | .postApply => Sys2Proof.Machine.execPostApply s
  | .itemCfgWrite r maskReg v => Sys2Proof.Machine.execItemCfgWrite r maskReg v s
  | .tskEnable r v => Sys2Proof.Machine.execTskEnable r v s
  | .excDescriptorWrite => Sys2Proof.Machine.execExcDescriptorWrite s
  | .excTailWrite r v => Sys2Proof.Machine.execExcTailWrite r v s
  | .injectPath r v => Sys2Proof.Machine.execInjectPath r v s
  | .injectDirect r v => Sys2Proof.Machine.execInjectDirect r v s
  | .xwinWrite r n v => Sys2Proof.Machine.execXwinWrite r n v s
  -- Chapter 17: events, errors, power fail
  | .eventFire page bit => Sys2Proof.Machine.execEventFire page bit s
  | .recRead r => Sys2Proof.Machine.execRecRead r s
  | .msixArm r hi v => Sys2Proof.Machine.execMsixArm r hi v s
  | .evtEnable r v => Sys2Proof.Machine.execEvtEnable r v s
  | .logPageProgram ok => Sys2Proof.Machine.execLogPageProgram ok s
  | .logSectorErase => Sys2Proof.Machine.execLogSectorErase s
  | .powerFailAssert => Sys2Proof.Machine.execPowerFailAssert s
  | .powerFailFlushDone late => Sys2Proof.Machine.execPowerFailFlushDone late s
  | .powerFailClear => Sys2Proof.Machine.execPowerFailClear s
  -- Chapter 18: power levels and wake
  | .levelWrite r v => Sys2Proof.Machine.execLevelWrite r v s
  | .regulatorAck line => Sys2Proof.Machine.execRegulatorAck line s
  | .pmbusAttemptTimeout line => Sys2Proof.Machine.execPmbusAttemptTimeout line s
  | .doze r v => Sys2Proof.Machine.execDoze r v s
  | .nap r v => Sys2Proof.Machine.execNap r v s
  | .deep r v => Sys2Proof.Machine.execDeep r v s
  | .wake r v => Sys2Proof.Machine.execWake r v s
  | .leaveLimp r v => Sys2Proof.Machine.execLeaveLimp r v s
  | .sleepEntry => Sys2Proof.Machine.execSleepEntry s
  | .sleepWaitTimeout => Sys2Proof.Machine.execSleepWaitTimeout s
  | .dozeAutoExit => Sys2Proof.Machine.execDozeAutoExit s
  | .wakeSource w => Sys2Proof.Machine.execWakeSource w s
  | .oscReadyRise => Sys2Proof.Machine.execOscReadyRise s
  | .oscTimeout => Sys2Proof.Machine.execOscTimeout s
  | .domainPowerGood d => Sys2Proof.Machine.execDomainPowerGood d s
  | .domainTimeout d => Sys2Proof.Machine.execDomainTimeout d s
  -- Chapter 19: reset, boot, self-test
  | .powerOn => Sys2Proof.Machine.execPowerOn s
  | .powerLoss => Sys2Proof.Machine.execPowerLoss s
  | .resetAssert => Sys2Proof.Machine.execResetAssert s
  | .resetRelease straps => Sys2Proof.Machine.execResetRelease straps s
  | .devRst r v => Sys2Proof.Machine.execDevRst r v s
  | .watchdogExpire => Sys2Proof.Machine.execWatchdogExpire s
  | .wdtKick r v => Sys2Proof.Machine.execWdtKick r v s
  | .coreRunWrite r v => Sys2Proof.Machine.execCoreRunWrite r v s
  | .bootStepDone o => Sys2Proof.Machine.execBootStepDone o s
  | .flashReadTimeout => Sys2Proof.Machine.execFlashReadTimeout s
  | .bootRetry r v => Sys2Proof.Machine.execBootRetry r v s
  | .bootRun r v => Sys2Proof.Machine.execBootRun r v s
  | .bistGo r v => Sys2Proof.Machine.execBistGo r v s
  | .bistDone err addr => Sys2Proof.Machine.execBistDone err addr s
  -- Chapter 20: host interfaces
  | .pcieLinkUp width speed d3 msixEn funcMask => Sys2Proof.Machine.execPcieLinkUp width speed d3 msixEn funcMask s
  | .pcieLinkDown => Sys2Proof.Machine.execPcieLinkDown s
  | .pcieHotReset => Sys2Proof.Machine.execPcieHotReset s
  | .pcieFlr => Sys2Proof.Machine.execPcieFlr s
  | .perstAssert => Sys2Proof.Machine.execPerstAssert s
  | .msixUnmask r vec => Sys2Proof.Machine.execMsixUnmask r vec s
  | .flashRead r v => Sys2Proof.Machine.execFlashRead r v s
  | .flashProg r v => Sys2Proof.Machine.execFlashProg r v s
  | .flashErase r v => Sys2Proof.Machine.execFlashErase r v s
  | .flashCmdDone bad data => Sys2Proof.Machine.execFlashCmdDone bad data s
  | .oi2cWrite r v => Sys2Proof.Machine.execOi2cWrite r v s
  | .oi2cRead r v => Sys2Proof.Machine.execOi2cRead r v s
  | .oi2cDone result data => Sys2Proof.Machine.execOi2cDone result data s
  | .oi2cSclTimeout => Sys2Proof.Machine.execOi2cSclTimeout s
  | .jtagOpen r v => Sys2Proof.Machine.execJtagOpen r v s
  | .jtagClose r v => Sys2Proof.Machine.execJtagClose r v s
  -- the rows that the table gives last
  | .armWindowOpen c => Sys2Proof.Machine.execArmWindowOpen c s
  | .tribRowTransmit l => Sys2Proof.Machine.execTribRowTransmit l s
  | .entropyTestPass fab => Sys2Proof.Machine.execEntropyTestPass fab s
  | .retCmdDone ok => Sys2Proof.Machine.execRetCmdDone ok s
  | .memoryStepTimeout m => Sys2Proof.Machine.execMemoryStepTimeout m s
  | .pcieL0Exit => Sys2Proof.Machine.execPcieL0Exit s
  | .readBusError r a full => Sys2Proof.Machine.execReadBusError r a full s
  | .sealIntact seen => Sys2Proof.Machine.execSealIntact seen s

end Sys2Proof.Machine
end

