-- ==== Sys2Proof/Machine/Idle.lean ====
section
/-! DEFINITION. The tick of the idle block: 1 ns of the main reference passes (log entry 8). -/

namespace Sys2Proof.Machine

open Sys2Proof

/-- How far a time counter advances in 1 ns with the frequency correction `f` in 0.001 ppb and the remainder `rem`, in 10^-12
of 2^-16 ns; and the new remainder (R510). -/
def tickAdvance (f rem : Int) : Nat × Int :=
  let t := 65536 * (1000000000000 + f) + rem
  ((t / 1000000000000).toNat, t % 1000000000000)

/-- The next state of the LFSR of SEAL_OUT (R97). -/
def lfsrNext (x : BitVec 8) : BitVec 8 :=
  (x <<< 1) ||| BitVec.setWidth 8 (BitVec.ofBool (x.getLsbD 7 ^^ x.getLsbD 5 ^^ x.getLsbD 4 ^^ x.getLsbD 3))

/-- Length of a period of the RTC crystal of 32.768 kHz in 1/64 ns (R526). -/
def rtcPeriod : Nat := 1953125

/-- 1 ns of the selvedge domain: the RTC counts its edges (R526), and SEAL_OUT takes its next bit every 32 edges (R97). -/
def State.rtcTick (s : State) : State :=
  let n := s.clock.rtcNs + 64
  if n < rtcPeriod then { s with clock := { s.clock with rtcNs := n } }
  else
    let c := (s.clock.rtc + 1) % 2 ^ 48
    let lfsr := if s.own.sealUse ∧ c % 32 = 0 then lfsrNext s.own.lfsr else s.own.lfsr
    { s with clock := { s.clock with rtcNs := n - rtcPeriod, rtc := c }, own := { s.own with lfsr := lfsr } }

/-- The line-die time counter takes its tick while its domain is on (R510, R528). -/
def State.lineTick (s : State) : State :=
  if s.domOn 11 then
    let (n, r) := tickAdvance s.tim.f s.clock.remL
    { s with clock := { s.clock with line := s.clock.line + n, remL := r } }
  else s

/-- The fabric-die time counter takes its tick while its domain is on; shapers and policers see the same time, less every
step (R459, R510). -/
def State.fabTick (s : State) : State :=
  if s.domOn 32 then
    let (n, r) := tickAdvance s.tim.f s.clock.remF
    { s with clock := { s.clock with fab := s.clock.fab + n, flow := s.clock.flow + n, remF := r } }
  else s

/-- The tick of the idle block: nothing passes while the supply is absent. -/
def State.idle (s : State) : State :=
  if s.rst.unpowered then s
  else
    let s1 := s.rtcTick.lineTick.fabTick
    { s1 with clock := { s1.clock with mono := s1.clock.mono + 1 } }

end Sys2Proof.Machine
end

