-- ==== Sys2Proof/Safety.lean ====
section
/-! DEFINITION. What a safe run is, and the terms in which statements speak of a step: the parts of the state, what a step leaves
unchanged, when a register write is taken. -/

namespace Sys2Proof

open Sys2Proof.Machine

/-- The memory is in canonical form. -/
def Safe (s : State) : Prop := Memory.wf s.mem = true

/-- The parts of `State`, one for each field. -/
inductive Part where
  | regs | shown | mirror | mem | seam | cmt | own | nextPkt | rx | dsf | tmap | tribs | tfrags | rows | ttest | act
  | upb | restarts | gsm | txEff | pairs | key | pipes | epochs | prog | rcnt | rcntHeld | excWait | bufs | bufRot
  | qmap | memch | ecc | mxe | queues | turns | elig | shapers | policers | gates | gateBusy | lanes | lports | mdio
  | tim | evt | log | tsk | cpu | pwr | rst | sys | hif | pins | clock | timers | pending | resp | out | fresh | dark
deriving DecidableEq, Repr

/-- A part is the same in two states. -/
def Part.same (s t : State) : Part → Prop
  | .regs => t.regs = s.regs
  | .shown => t.shown = s.shown
  | .mirror => t.mirror = s.mirror
  | .mem => t.mem = s.mem
  | .seam => t.seam = s.seam
  | .cmt => t.cmt = s.cmt
  | .own => t.own = s.own
  | .nextPkt => t.nextPkt = s.nextPkt
  | .rx => t.rx = s.rx
  | .dsf => t.dsf = s.dsf
  | .tmap => t.tmap = s.tmap
  | .tribs => t.tribs = s.tribs
  | .tfrags => t.tfrags = s.tfrags
  | .rows => t.rows = s.rows
  | .ttest => t.ttest = s.ttest
  | .act => t.act = s.act
  | .upb => t.upb = s.upb
  | .restarts => t.restarts = s.restarts
  | .gsm => t.gsm = s.gsm
  | .txEff => t.txEff = s.txEff
  | .pairs => t.pairs = s.pairs
  | .key => t.key = s.key
  | .pipes => t.pipes = s.pipes
  | .epochs => t.epochs = s.epochs
  | .prog => t.prog = s.prog
  | .rcnt => t.rcnt = s.rcnt
  | .rcntHeld => t.rcntHeld = s.rcntHeld
  | .excWait => t.excWait = s.excWait
  | .bufs => t.bufs = s.bufs
  | .bufRot => t.bufRot = s.bufRot
  | .qmap => t.qmap = s.qmap
  | .memch => t.memch = s.memch
  | .ecc => t.ecc = s.ecc
  | .mxe => t.mxe = s.mxe
  | .queues => t.queues = s.queues
  | .turns => t.turns = s.turns
  | .elig => t.elig = s.elig
  | .shapers => t.shapers = s.shapers
  | .policers => t.policers = s.policers
  | .gates => t.gates = s.gates
  | .gateBusy => t.gateBusy = s.gateBusy
  | .lanes => t.lanes = s.lanes
  | .lports => t.lports = s.lports
  | .mdio => t.mdio = s.mdio
  | .tim => t.tim = s.tim
  | .evt => t.evt = s.evt
  | .log => t.log = s.log
  | .tsk => t.tsk = s.tsk
  | .cpu => t.cpu = s.cpu
  | .pwr => t.pwr = s.pwr
  | .rst => t.rst = s.rst
  | .sys => t.sys = s.sys
  | .hif => t.hif = s.hif
  | .pins => t.pins = s.pins
  | .clock => t.clock = s.clock
  | .timers => t.timers = s.timers
  | .pending => t.pending = s.pending
  | .resp => t.resp = s.resp
  | .out => t.out = s.out
  | .fresh => t.fresh = s.fresh
  | .dark => t.dark = s.dark

/-- Every part outside `ps` is the same in `t` as in `s`. -/
def SameBut (ps : List Part) (s t : State) : Prop := ∀ p : Part, p ∉ ps → p.same s t

/-- The registers that a firing event may change: EVT_RAW of a page, the ARM bits, the count of lost records (R568, R570, R576). -/
def eventReg (k : Nat) : Bool :=
  decide (ofsOf k = 0x010) || decide (k = R.EVT_MSIX_ARM_LO) || decide (k = R.EVT_MSIX_ARM_HI) || decide (k = R.EVT_CNT_REC_LOST)

/-- The parts that a firing event may change: registers of `eventReg`, stamps and the ring, held records, posts, the PBA, messages
sent (R568-R578). -/
def evParts : List Part := [.regs, .evt, .seam, .tsk, .hif, .out]

/-- Nothing changes but the parts `ps` and, among the registers, those at the keys `ks`. -/
def Frame (ps : List Part) (ks : List Nat) (s t : State) : Prop :=
  SameBut (.regs :: ps) s t ∧ ∀ k : Nat, k ∉ ks → t.rd k = s.rd k

/-- The same of a step in which events may fire besides. -/
def FrameEv (ps : List Part) (ks : List Nat) (s t : State) : Prop :=
  SameBut (evParts ++ ps) s t ∧ ∀ k : Nat, k ∉ ks → eventReg k = false → t.rd k = s.rd k

/-- The raw bit of source `b` of page `p` is set. -/
def Raised (t : State) (p b : Nat) : Prop := (t.rd (R.HDR_EVT_RAW p)).getLsbD b = true

/-- A write of requester `r` to the register at `k` is taken: the requester reaches the register space, the access is whole and
aligned, the page is used, the requester may write, the Seam is up where the page is on the line die, and the domain of the
register is on (R30, R36, R37, R79, R690). -/
def Taken (s : State) (r : Req) (k : Nat) : Prop := s.reaches r = true ∧ s.writeCause r k true = 0

/-- The requester may carry out a guarded action: it is no delegated core, and the presence window is open (R100, R101). -/
def Present (s : State) (r : Req) : Prop := s.isDelegate r = false ∧ s.own.presWin = true

/-- The thimble-move actions of R87 have been taken between `s` and `t`: groups in OPEN are aborted with cause 6, every CUR_TAG is 0,
delegation ends, the handover is counted. -/
def Moved (s t : State) : Prop :=
  (∀ i : Fin 4, t.cmt.slots[i] = if s.cmt.slots[i].st = .opened then
    { s.cmt.slots[i] with st := .aborted, cause := 6, writes := [], switched := [], pages := [] } else s.cmt.slots[i]) ∧
  (∀ n : Fin 10, t.fld (F.CMT_CUR_TAG_TAG n.val) = 0) ∧ t.bit F.OWN_OWN_CTL_DELEGATE_CORES = false ∧
  t.rd R.OWN_CNT_HANDOVER = s.rd R.OWN_CNT_HANDOVER + 1

/-- The registers that the thimble-move actions write. -/
def movedRegs : List Nat :=
  [R.CMT_CNT_ABORTED, R.OWN_OWN_CTL, R.OWN_CNT_HANDOVER] ++ (List.range 10).map R.CMT_CUR_TAG

/-- The same, with every register of the pages `gs` left open. -/
def PageEv (ps : List Part) (gs : List Nat) (s t : State) : Prop :=
  SameBut (evParts ++ ps) s t ∧ ∀ k : Nat, pageOf k ∉ gs → eventReg k = false → t.rd k = s.rd k

/-- The adaptive state from which a receive chain trains: the CTLE starts at CTLE_FIX under CTLE_HOLD (R118). -/
def startOf (s : State) (c : Chan) (a : Adapt) : Adapt :=
  { a with ctle := if s.bit (F.LRX_EQ_CFG_CTLE_HOLD c.val) then BitVec.ofNat 4 (s.fld (F.LRX_EQ_CFG_CTLE_FIX c.val)) else a.ctle }

/-- The same in a chain whose gain a detection has frozen (R125). -/
def frozenStart (s : State) (c : Chan) (a : Adapt) : Adapt :=
  if (s.rx[c]).frozen then { startOf s c a with agc := ((s.rx[c]).cur).agc } else startOf s c a

/-- The registers that a detection may write. -/
def detectRegs (c : Chan) : List Nat :=
  [R.LRX_PRE_LAST c.val, R.LRX_CNT_DETECT c.val, R.LRX_CNT_SLIP c.val, R.LRX_CNT_DEFAULTS c.val]

/-- Parse engine `e` runs a program for packet `k` of pipeline `p`, its step budget is not used up, and the word `w` at its PC has
opcode `op` (R345-R347). -/
def Fetches (s : State) (e : Fin 128) (op : Nat) (p : Fin 4) (k : Pkt) (g : Engine) (w : Word) : Prop :=
  s.running? e = some (p, k, g) ∧ mapGet 0 s.prog (g.copy * 1024 + g.pc) = w ∧ getField w 27 5 = op ∧
  g.steps < s.fld F.PRS_PRS_CFG_STEP_MAX

/-- The engine with its PC at the next word and one more step taken. -/
def advanced (g : Engine) : Engine := { g with pc := (g.pc + 1) % 1024, steps := g.steps + 1 }

end Sys2Proof
end

