-- ==== Sys2Proof/Certificates/Slice0/Obligations.lean ====
section
/-! DEFINITION. Statements for the provers: each is a conjunction, one clause for each command or group of commands that it names.
`Taken`, `Present`, `Frame`, `FrameEv`, `PageEv`, `SameBut` and `Raised` are the terms of Safety. -/

open Sys2Proof Sys2Proof.Machine

/-- For every command and state, a step of the state with the command at the front of its queue is the meaning of that
command on the state with the queue's rest. The queue is the model's own (log entry 10).
(spec/95_what_each_step_holds.md) -/
def Obligations.StepRunsFront : Prop :=
  (∀ (c : Instr) (s : State), step { s with pending := c :: s.pending } = exec c s) ∧
  (∀ (c : Instr) (cs : List Instr) (s : State), s.pending = c :: cs → step s = exec c { s with pending := cs })

/-- A step on an empty queue changes nothing but the clocks and the generator behind SEAL_OUT, and changes nothing at all
while the supply is absent. That the idle step is a tick of 1 ns is the model's choice (log entry 8). (R510, R526) -/
def Obligations.IdleTick : Prop :=
  (∀ s : State, s.pending = [] → (∃ t, step s = .next t ∧ SameBut [.clock, .own] s t) ∧ (s.rst.unpowered = true → step s = .next s) ∧
    (s.rst.unpowered = false → ∃ t, step s = .next t ∧ t.clock.mono = s.clock.mono + 1))

/-- Right after reset the Seam is down, no interface holds the thimble and its election runs, the groups of commit tags
are free, every receive channel is off and every deframer hunts, the terminal is Dark, every lane is off, the servo
is free and the time invalid; no register has left its reset value, memory lists nothing and no command waits. (R9,
R31, R66, R85, R109, R164, R236, R485, R516) -/
def Obligations.ResetValues : Prop :=
  (State.reset.seam.phase = .down ∧ (∀ i : Fin 4, State.reset.cmt.slots[i].st = .free) ∧ (∀ c : Chan, State.reset.rx[c].st = .off) ∧
    State.reset.act.st = .dark ∧ (∀ l : Fin 48, State.reset.lanes[l].st = .off) ∧ State.reset.tim.servo = .free ∧ State.reset.tim.qual = .invalid ∧
    (∀ k, State.reset.rd k = resetWord k) ∧ State.reset.mem = [] ∧ State.reset.pending = [])

/-- The state after reset is safe: its memory, which lists no cell, is in canonical form. (R420, R421) -/
def Obligations.ResetSafe : Prop :=
  (Safe State.reset)

/-- From every state whose memory is in canonical form, a step of any command, or of the idle block, leaves a memory in
canonical form: equal memories stay equal data. (R420, R421, R365, R374) -/
def Obligations.SafeKept : Prop :=
  (∀ s t : State, Safe s → step s = .next t → Safe t)

/-- Whatever command a step runs, the commands behind it stay waiting in their order. The queue is the model's own (log
entry 10). (spec/95_what_each_step_holds.md) -/
def Obligations.QueueFifo : Prop :=
  (∀ (c : Instr) (cs : List Instr) (s t : State), s.pending = c :: cs → step s = .next t → t.pending = cs)

/-- For every state, a well-formed command has a next state and an ill-formed one is a fault; no command is refused.
(spec/95_what_each_step_holds.md) -/
def Obligations.Totality : Prop :=
  (∀ (c : Instr) (s : State), (c.wellFormed = true → ∃ t, exec c s = .next t) ∧ (c.wellFormed = false → exec c s = .fault .illFormed))

/-- SEAM_FLIT_RECEIVE while the Seam is up or training completes: a failed flit adds 1 to CNT_CRC and CNT_REPLAY of the
receiving die and to its run of failures, while fewer than eight failed in a row; a good flit ends the run and
changes no register. In TRAINING the ninth failure returns the Seam to DOWN with CNT_CRC alone counted: no CNT_DOWN,
no event. (R16, R688, section Two dies and the Seam) -/
def Obligations.SeamFlits : Prop :=
  (∀ (toFab : Bool) (d e : Nat) (s : State), (s.seam.phase = .up ∨ s.seam.phase = .training) →
    (if toFab then s.seam.failFab else s.seam.failLine) < 8 →
    ∃ t, exec (.seamFlitReceive toFab false d e) s = .next t ∧
      Frame [.seam] [R.SM_CNT_CRC (if toFab then P.SMF else P.SML), R.SM_CNT_REPLAY (if toFab then P.SMF else P.SML)] s t ∧
      t.rd (R.SM_CNT_CRC (if toFab then P.SMF else P.SML)) = s.rd (R.SM_CNT_CRC (if toFab then P.SMF else P.SML)) + 1 ∧
      t.rd (R.SM_CNT_REPLAY (if toFab then P.SMF else P.SML)) = s.rd (R.SM_CNT_REPLAY (if toFab then P.SMF else P.SML)) + 1 ∧
      t.seam = if toFab then { s.seam with failFab := s.seam.failFab + 1 } else { s.seam with failLine := s.seam.failLine + 1 }) ∧
  (∀ (toFab : Bool) (d e : Nat) (s : State), (s.seam.phase = .up ∨ s.seam.phase = .training) →
    ∃ t, exec (.seamFlitReceive toFab true d e) s = .next t ∧ SameBut [.seam] s t ∧
      t.seam = if toFab then { s.seam with failFab := 0 } else { s.seam with failLine := 0 }) ∧
  (∀ (toFab : Bool) (d e : Nat) (s : State), s.seam.phase = .training →
    8 ≤ (if toFab then s.seam.failFab else s.seam.failLine) →
    ∃ t, exec (.seamFlitReceive toFab false d e) s = .next t ∧
      Frame [.seam] [R.SM_CNT_CRC (if toFab then P.SMF else P.SML)] s t ∧
      t.rd (R.SM_CNT_CRC (if toFab then P.SMF else P.SML)) = s.rd (R.SM_CNT_CRC (if toFab then P.SMF else P.SML)) + 1 ∧
      t.seam = { s.seam with phase := .down, failLine := 0, failFab := 0 }) ∧
  (∀ (toFab ok : Bool) (d e : Nat) (s : State), (s.seam.phase = .down ∨ s.seam.phase = .stopped) →
    exec (.seamFlitReceive toFab ok d e) s = .next s)

/-- The ninth failed check in a row (eight failed replays) and the loss of lock of a lane take the Seam from UP to DOWN.
CNT_DOWN of both pages rises by 1, the dropped traffic flits (the command's operands) are counted, SEAM_DOWN is
raised on both dies where their domains are on, the 50 us of R17 start, messages in flight are lost, and every slot
in PREPARING is ABORTED with cause 4; other slots stay. A lock lost in TRAINING ends the attempt: the registers stay
as they are but for event registers. (R16, R17, R67, R71, R688, R689) -/
def Obligations.SeamFails : Prop :=
  (∀ (toFab : Bool) (d e : Nat) (s : State), s.seam.phase = .up → s.domOn 11 = true → s.domOn 12 = true →
    8 ≤ (if toFab then s.seam.failFab else s.seam.failLine) →
    ∃ t, exec (.seamFlitReceive toFab false d e) s = .next t ∧
      FrameEv [.cmt, .timers] [R.CMT_CNT_ABORTED, R.SM_CNT_DOWN P.SML, R.SM_CNT_DOWN P.SMF, R.SM_CNT_FLIT_DROP P.SML,
        R.SM_CNT_FLIT_DROP P.SMF, R.SM_CNT_CRC (if toFab then P.SMF else P.SML)] s t ∧
      t.seam.phase = .down ∧ t.seam.lost = false ∧ t.seam.toLine = [] ∧ t.seam.toFab = [] ∧
      t.rd (R.SM_CNT_CRC (if toFab then P.SMF else P.SML)) = s.rd (R.SM_CNT_CRC (if toFab then P.SMF else P.SML)) + 1 ∧
      t.rd (R.SM_CNT_DOWN P.SML) = s.rd (R.SM_CNT_DOWN P.SML) + 1 ∧
      t.rd (R.SM_CNT_DOWN P.SMF) = s.rd (R.SM_CNT_DOWN P.SMF) + 1 ∧
      t.rd (R.SM_CNT_FLIT_DROP P.SML) = s.rd (R.SM_CNT_FLIT_DROP P.SML) + BitVec.ofNat 32 d ∧
      t.rd (R.SM_CNT_FLIT_DROP P.SMF) = s.rd (R.SM_CNT_FLIT_DROP P.SMF) + BitVec.ofNat 32 e ∧
      t.running T.seamLost = true ∧ Raised t P.SML E.SM_SEAM_DOWN ∧ Raised t P.SMF E.SM_SEAM_DOWN ∧
      ∀ i : Fin 4, t.cmt.slots[i] = if s.cmt.slots[i].st = .preparing then
        { s.cmt.slots[i] with st := .aborted, cause := 4, writes := [], switched := [], pages := [] } else s.cmt.slots[i]) ∧
  (∀ (fab : Bool) (l : Fin 16) (d e : Nat) (s : State), s.seam.phase = .up → s.domOn 11 = true → s.domOn 12 = true →
    ∃ t, exec (.seamLaneLockLoss fab l d e) s = .next t ∧
      FrameEv [.cmt, .timers] [R.CMT_CNT_ABORTED, R.SM_CNT_DOWN P.SML, R.SM_CNT_DOWN P.SMF, R.SM_CNT_FLIT_DROP P.SML,
        R.SM_CNT_FLIT_DROP P.SMF] s t ∧
      t.seam.phase = .down ∧ t.seam.lost = false ∧
      t.seam.lockFab = (if fab then s.seam.lockFab &&& ~~~ BitVec.ofNat 16 (2 ^ l.val) else s.seam.lockFab) ∧
      t.seam.lockLine = (if fab then s.seam.lockLine else s.seam.lockLine &&& ~~~ BitVec.ofNat 16 (2 ^ l.val)) ∧
      t.rd (R.SM_CNT_DOWN P.SML) = s.rd (R.SM_CNT_DOWN P.SML) + 1 ∧
      t.rd (R.SM_CNT_DOWN P.SMF) = s.rd (R.SM_CNT_DOWN P.SMF) + 1 ∧
      t.rd (R.SM_CNT_FLIT_DROP P.SML) = s.rd (R.SM_CNT_FLIT_DROP P.SML) + BitVec.ofNat 32 d ∧
      t.rd (R.SM_CNT_FLIT_DROP P.SMF) = s.rd (R.SM_CNT_FLIT_DROP P.SMF) + BitVec.ofNat 32 e ∧
      t.running T.seamLost = true ∧ Raised t P.SML E.SM_SEAM_DOWN ∧ Raised t P.SMF E.SM_SEAM_DOWN ∧
      Raised t (if fab then P.SMFL else P.SMLL) l.val ∧
      ∀ i : Fin 4, t.cmt.slots[i] = if s.cmt.slots[i].st = .preparing then
        { s.cmt.slots[i] with st := .aborted, cause := 4, writes := [], switched := [], pages := [] } else s.cmt.slots[i]) ∧
  (∀ (fab : Bool) (l : Fin 16) (d e : Nat) (s : State), s.seam.phase = .training →
    ∃ u, exec (.seamLaneLockLoss fab l d e) s = .next (u.fire (if fab then P.SMFL else P.SMLL) l.val) ∧ SameBut [.seam] s u ∧
      u.seam.phase = .down ∧ u.seam.lost = s.seam.lost ∧ u.seam.decisions = s.seam.decisions ∧ u.seam.preps = s.seam.preps)

/-- SEAM_LOST with the Seam down or in training, not yet lost and its 50 us running: LOST is set and SEAM_LOST is fired
on both dies; once lost it changes nothing. SEAM_RETRAIN_ATTEMPT takes DOWN to TRAINING by itself before Seam lost, and
from then on while the 1 ms attempts run and RETRAIN_EN is 1.
RETRAIN_EN_WRITE stores RETRAIN_EN; cleared, the attempts stop; set from 0 while the Seam is down, an attempt starts
at once. SEAM_UP from TRAINING: STATE is UP, LOST 0, all locks held, both timers stopped, SEAM_UP raised on both
dies, and the fabric die's time counter agrees with the line die's. That the 50 us of a boot's bring-up count from
step B7 is an inference (log entry 50). (R17, R68, R512, section Two dies and the Seam) -/
def Obligations.SeamOutage : Prop :=
  (∀ s : State, (s.seam.phase = .down ∨ s.seam.phase = .training) → s.seam.lost = false → s.running T.seamLost = true →
    s.seam.bringUp = false →
    ∃ u, exec .seamLost s = .next ((u.fire P.SMF E.SM_SEAM_LOST).fire P.SML E.SM_SEAM_LOST) ∧ SameBut [.seam, .timers] s u ∧
      u.seam = { s.seam with lost := true } ∧ u.running T.seamLost = false ∧
      (s.bit (F.SM_SEAM_CTL_RETRAIN_EN P.SMF) = true → u.running T.retrain = true)) ∧
  (∀ s : State, s.seam.lost = true → exec .seamLost s = .next s) ∧
  (∀ s : State, s.running T.retrain = true → s.bit (F.SM_SEAM_CTL_RETRAIN_EN P.SMF) = true → s.seam.phase = .down →
    ∃ t, exec .seamRetrainAttempt s = .next t ∧ SameBut [.seam, .timers] s t ∧ t.seam = { s.seam with phase := .training } ∧
      t.running T.retrain = true) ∧
  (∀ s : State, s.running T.retrain = false → s.seam.lost = false → s.seam.phase = .down →
    exec .seamRetrainAttempt s = .next { s with seam := { s.seam with phase := .training } }) ∧
  (∀ s : State, s.running T.retrain = false → s.seam.lost = true → exec .seamRetrainAttempt s = .next s) ∧
  (∀ (r : Req) (v : Word) (s : State), Taken s r (R.SM_SEAM_CTL P.SMF) →
    ∃ t, exec (.retrainEnWrite r v) s = .next t ∧ Frame [.seam, .timers, .resp] [R.SM_SEAM_CTL P.SMF] s t ∧ t.resp = .done ∧
      t.bit (F.SM_SEAM_CTL_RETRAIN_EN P.SMF) = v.getLsbD 0 ∧ (v.getLsbD 0 = false → t.running T.retrain = false ∧ t.seam = s.seam) ∧
      (v.getLsbD 0 = true → s.bit (F.SM_SEAM_CTL_RETRAIN_EN P.SMF) = false → s.seam.phase = .down →
        t.seam = { s.seam with phase := .training } ∧ t.running T.retrain = true)) ∧
  (∀ s : State, s.seam.phase = .training → s.domOn 11 = true → s.domOn 12 = true → s.seam.decisions = [] →
    ∃ t, exec .seamUp s = .next t ∧ FrameEv [.clock, .tim, .timers] [] s t ∧ t.seam.phase = .up ∧ t.seam.lost = false ∧
      t.seam.lockLine = BitVec.allOnes 16 ∧ t.seam.lockFab = BitVec.allOnes 16 ∧ t.seam.failLine = 0 ∧ t.seam.failFab = 0 ∧
      t.running T.seamLost = false ∧ t.running T.retrain = false ∧ t.clock.fab = s.clock.line ∧ t.clock.line = s.clock.line ∧
      Raised t P.SML E.SM_SEAM_UP ∧ Raised t P.SMF E.SM_SEAM_UP)

/-- PREPARE: with every target page powered the line die holds the group prepared and replies PREPARED, otherwise it
discards it and replies with DOMAIN_OFF; it stays silent where an ABORT for the tag is on its way. PREPARED: the fabric
die decides apply for a slot in PREPARING: the slot is APPLYING, a marker waits at each of the four pipelines, APPLY
goes to the line die for a cross-die group, the timeout stops; then come the parts that switch at once. A PREPARED for
a slot that is not in PREPARING changes only the messages in flight. APPLY marks the line die's part applied and, for
a slot in APPLYING, orders the group's rolls and switches what switches at once. ABORT drops what is prepared and not
applied. DOMAIN_OFF aborts a slot in PREPARING with cause 3. PREP_TIMEOUT aborts it with cause 5, sends ABORT and takes
the replies in flight away. (R63, R64, R65, R66, R68, R71) -/
def Obligations.CommitMessages : Prop :=
  (∀ (tag : BitVec 8) (ws : SMap Word) (rest : List CmtMsg) (s : State), s.seam.toLine = .prepare tag ws :: rest →
    ∃ t, exec (.prepare tag) s = .next t ∧ SameBut [.seam] s t ∧
      t.seam = { s.seam with
        toLine := rest
        preps := if ws.all (fun e => s.powered e.1) then s.seam.preps ++ [⟨tag, ws, false⟩] else s.seam.preps
        toFab := if rest.contains (.abort tag) then s.seam.toFab
          else s.seam.toFab ++ [if ws.all (fun e => s.powered e.1) then .prepared tag else .abortOff tag] }) ∧
  (∀ (tag : BitVec 8) (rest : List CmtMsg) (i : Fin 4) (s : State), s.seam.toFab = .prepared tag :: rest →
    s.slotOf tag = some i → s.cmt.slots[i].st = .preparing →
    ∃ u, exec (.prepared tag) s = .next ((u.stopTimer (T.prep i.val)).switchNow i) ∧ SameBut [.cmt, .seam] s u ∧
      u.cmt.slots = s.cmt.slots.set i { s.cmt.slots[i] with st := .applying, pages := pagesOf s.cmt.slots[i].writes, switched := [] } ∧
      u.cmt.waiting = s.cmt.waiting ++ (List.finRange 4).map (fun p => (s.cmt.slots[i].tag, p)) ∧ u.cmt.markers = s.cmt.markers ∧
      u.seam = if crossDie s.cmt.slots[i].writes then
          { s.seam with toFab := rest, toLine := s.seam.toLine ++ [.apply s.cmt.slots[i].tag],
                        decisions := s.seam.decisions ++ [.apply s.cmt.slots[i].tag] }
        else { s.seam with toFab := rest }) ∧
  (∀ (tag : BitVec 8) (rest : List CmtMsg) (s : State), s.seam.toFab = .prepared tag :: rest →
    (∀ i, s.slotOf tag = some i → s.cmt.slots[i].st ≠ .preparing) →
    exec (.prepared tag) s = .next { s with seam := { s.seam with toFab := rest } }) ∧
  (∀ (tag : BitVec 8) (rest : List CmtMsg) (s : State), s.seam.toLine = .apply tag :: rest →
    ∃ u, SameBut [.seam] s u ∧
      u.seam = { s.seam with toLine := rest, decisions := s.seam.decisions.filter (fun d => decide (d ≠ .apply tag)),
                             preps := s.seam.preps.map (fun (p : Prep) => if p.tag = tag then { p with applied := true } else p) } ∧
      exec (.apply tag) s = .next (match s.slotOf tag with
        | some i => if s.cmt.slots[i].st = .applying then (u.groupRolls i).switchNow i else u
        | none => u)) ∧
  (∀ (tag : BitVec 8) (rest : List CmtMsg) (s : State), s.seam.toLine = .abort tag :: rest →
    ∃ t, exec (.abort tag) s = .next t ∧ SameBut [.seam] s t ∧
      t.seam = { s.seam with toLine := rest, decisions := s.seam.decisions.filter (fun d => decide (d ≠ .abort tag)),
                             preps := s.seam.preps.filter (fun p => decide (p.tag ≠ tag) || p.applied) }) ∧
  (∀ (tag : BitVec 8) (rest : List CmtMsg) (i : Fin 4) (s : State), s.seam.toFab = .abortOff tag :: rest →
    s.slotOf tag = some i → s.cmt.slots[i].st = .preparing →
    ∃ t, exec (.abortDomainOff tag) s = .next t ∧ FrameEv [.cmt, .timers] [R.CMT_CNT_ABORTED] s t ∧
      t.cmt = { s.cmt with slots := s.cmt.slots.set i { s.cmt.slots[i] with st := .aborted, cause := 3, writes := [], switched := [],
                                                                            pages := [] } } ∧
      t.rd R.CMT_CNT_ABORTED = s.rd R.CMT_CNT_ABORTED + 1 ∧ t.seam.toFab = rest ∧ t.running (T.prep i.val) = false ∧
      (s.domOn 29 = true → Raised t P.CMT E.CMT_ABORTED)) ∧
  (∀ (tag : BitVec 8) (i : Fin 4) (s : State), s.slotOf tag = some i → s.cmt.slots[i].st = .preparing → s.seam.phase = .up →
    ∃ t, exec (.prepTimeout tag) s = .next t ∧ FrameEv [.cmt, .timers] [R.CMT_CNT_ABORTED] s t ∧
      t.cmt = { s.cmt with slots := s.cmt.slots.set i { s.cmt.slots[i] with st := .aborted, cause := 5, writes := [], switched := [],
                                                                            pages := [] } } ∧
      t.rd R.CMT_CNT_ABORTED = s.rd R.CMT_CNT_ABORTED + 1 ∧ t.seam.toLine = s.seam.toLine ++ [.abort tag] ∧
      t.seam.toFab = s.seam.toFab.filter (fun d => decide (d ≠ .prepared tag ∧ d ≠ .abortOff tag)) ∧
      t.seam.decisions = s.seam.decisions ++ [.abort tag] ∧ t.running (T.prep i.val) = false)

/-- Each command, taken: its slot moves as R71 states, CMD_STAT records the command with result 0, an abort is counted
and raised. With tag 0, a tag in no slot, or a slot in another state, the command is refused: CMD_STAT holds the
result 4, 3 or 5, CNT_REFUSED rises by 1, no slot changes. (R70, R71, R73, R74, R48) -/
def Obligations.CommitOpensAndEnds : Prop :=
  (∀ (r : Req) (tag : BitVec 8) (i : Fin 4) (s : State), Taken s r R.CMT_CMT_OPEN → tag ≠ 0 → s.slotOf tag = none →
    s.freeSlot = some i →
    ∃ t, exec (.cmtOpen r tag) s = .next t ∧ Frame [.cmt, .resp] [R.CMT_CMD_STAT] s t ∧ t.resp = .done ∧
      t.cmt = { s.cmt with slots := s.cmt.slots.set i { st := .opened, tag := tag } } ∧
      t.rd R.CMT_CMD_STAT = BitVec.ofNat 32 (tag.toNat + 1 * 2 ^ 8 + 0 * 2 ^ 12 + reqNum r * 2 ^ 16)) ∧
  (∀ (r : Req) (tag : BitVec 8) (i : Fin 4) (s : State), Taken s r R.CMT_CMT_DISCARD → tag ≠ 0 → s.slotOf tag = some i →
    s.cmt.slots[i].st = .opened →
    ∃ t, exec (.cmtDiscard r tag) s = .next t ∧ FrameEv [.cmt, .resp] [R.CMT_CMD_STAT, R.CMT_CNT_ABORTED] s t ∧ t.resp = .done ∧
      t.cmt = { s.cmt with slots := s.cmt.slots.set i { s.cmt.slots[i] with st := .aborted, cause := 1, writes := [], switched := [],
                                                                            pages := [] } } ∧
      t.rd R.CMT_CNT_ABORTED = s.rd R.CMT_CNT_ABORTED + 1 ∧ (s.domOn 29 = true → Raised t P.CMT E.CMT_ABORTED) ∧
      t.rd R.CMT_CMD_STAT = BitVec.ofNat 32 (tag.toNat + 3 * 2 ^ 8 + 0 * 2 ^ 12 + reqNum r * 2 ^ 16)) ∧
  (∀ (r : Req) (tag : BitVec 8) (i : Fin 4) (s : State), Taken s r R.CMT_CMT_ACK → tag ≠ 0 → s.slotOf tag = some i →
    (s.cmt.slots[i].st = .applied ∨ s.cmt.slots[i].st = .aborted) →
    ∃ t, exec (.cmtAck r tag) s = .next t ∧ Frame [.cmt, .resp] [R.CMT_CMD_STAT] s t ∧ t.resp = .done ∧
      t.cmt = { s.cmt with slots := s.cmt.slots.set i {} } ∧
      t.rd R.CMT_CMD_STAT = BitVec.ofNat 32 (tag.toNat + 4 * 2 ^ 8 + 0 * 2 ^ 12 + reqNum r * 2 ^ 16)) ∧
  (∀ (r : Req) (tag : BitVec 8) (s : State), Taken s r R.CMT_CMT_ACK →
    (tag = 0 ∨ s.slotOf tag = none ∨ ∃ i, s.slotOf tag = some i ∧ s.cmt.slots[i].st ≠ .applied ∧ s.cmt.slots[i].st ≠ .aborted) →
    ∃ t, exec (.cmtAck r tag) s = .next t ∧ t.cmt = s.cmt ∧ t.resp ≠ .done ∧
      t.rd R.CMT_CNT_REFUSED = s.rd R.CMT_CNT_REFUSED + 1 ∧
      t.rd R.CMT_CMD_STAT = BitVec.ofNat 32 (tag.toNat + 4 * 2 ^ 8 +
        (if tag = 0 then 4 else if s.slotOf tag = none then 3 else 5) * 2 ^ 12 + reqNum r * 2 ^ 16))

/-- CMT_COMMIT, taken, of an OPEN slot. POWER_FAIL_N asserted: refused with result 6, the slot stays. Otherwise: COUNT 0
gives APPLIED, counted and raised; OVERFLOW gives ABORTED with cause 2; an unpowered fabric-die page ABORTED with
cause 3; a single-die group is decided at once (APPLYING, a marker at each pipeline, then what switches at once); a
cross-die group with the Seam stopped or down is ABORTED with cause 3 or 4; else it goes to PREPARING and PREPARE is
sent with its line-die writes. (R63, R71, R72, R75) -/
def Obligations.CommitIsJudged : Prop :=
  (∀ (r : Req) (tag : BitVec 8) (i : Fin 4) (s : State), Taken s r R.CMT_CMT_COMMIT → tag ≠ 0 → s.slotOf tag = some i →
    s.cmt.slots[i].st = .opened → s.log.pf = true →
    ∃ t, exec (.cmtCommit r tag) s = .next t ∧ t.cmt = s.cmt ∧ t.resp ≠ .done ∧
      t.rd R.CMT_CNT_REFUSED = s.rd R.CMT_CNT_REFUSED + 1 ∧
      t.rd R.CMT_CMD_STAT = BitVec.ofNat 32 (s.cmt.slots[i].tag.toNat + 2 * 2 ^ 8 + 6 * 2 ^ 12 + reqNum r * 2 ^ 16)) ∧
  (∀ (r : Req) (tag : BitVec 8) (i : Fin 4) (s : State), Taken s r R.CMT_CMT_COMMIT → tag ≠ 0 → s.slotOf tag = some i →
    s.cmt.slots[i].st = .opened → s.log.pf = false → s.cmt.slots[i].writes = [] →
    ∃ u, exec (.cmtCommit r tag) s = .next (u.fire P.CMT E.CMT_APPLIED) ∧
      Frame [.cmt, .resp] [R.CMT_CMD_STAT, R.CMT_CNT_APPLIED] s u ∧ u.resp = .done ∧
      u.rd R.CMT_CNT_APPLIED = s.rd R.CMT_CNT_APPLIED + 1 ∧
      u.cmt = { s.cmt with slots := s.cmt.slots.set i { s.cmt.slots[i] with st := .applied, pages := [] } }) ∧
  (∀ (r : Req) (tag : BitVec 8) (i : Fin 4) (s : State), Taken s r R.CMT_CMT_COMMIT → tag ≠ 0 → s.slotOf tag = some i →
    s.cmt.slots[i].st = .opened → s.log.pf = false → s.cmt.slots[i].writes ≠ [] →
    (s.cmt.slots[i].overflow = true ∨ (mapKeys s.cmt.slots[i].writes).any (fun k => !linePage (pageOf k) && !s.powered k) = true ∨
      (crossDie s.cmt.slots[i].writes = true ∧ s.seam.phase ≠ .up)) →
    ∃ u, exec (.cmtCommit r tag) s = .next (u.fire P.CMT E.CMT_ABORTED) ∧
      Frame [.cmt, .resp] [R.CMT_CMD_STAT, R.CMT_CNT_ABORTED] s u ∧ u.resp = .done ∧
      u.rd R.CMT_CNT_ABORTED = s.rd R.CMT_CNT_ABORTED + 1 ∧
      u.cmt = { s.cmt with slots := s.cmt.slots.set i { s.cmt.slots[i] with
        st := .aborted, writes := [], switched := [], pages := [],
        cause := if s.cmt.slots[i].overflow = true then 2
          else if (mapKeys s.cmt.slots[i].writes).any (fun k => !linePage (pageOf k) && !s.powered k) = true then 3
          else if s.seam.phase = .stopped then 3 else 4 } }) ∧
  (∀ (r : Req) (tag : BitVec 8) (i : Fin 4) (s : State), Taken s r R.CMT_CMT_COMMIT → tag ≠ 0 → s.slotOf tag = some i →
    s.cmt.slots[i].st = .opened → s.log.pf = false → s.cmt.slots[i].writes ≠ [] → s.cmt.slots[i].overflow = false →
    (mapKeys s.cmt.slots[i].writes).any (fun k => !linePage (pageOf k) && !s.powered k) = false →
    crossDie s.cmt.slots[i].writes = true → s.seam.phase = .up →
    ∃ t, exec (.cmtCommit r tag) s = .next t ∧ Frame [.cmt, .seam, .timers, .resp] [R.CMT_CMD_STAT] s t ∧ t.resp = .done ∧
      t.cmt = { s.cmt with slots := s.cmt.slots.set i { s.cmt.slots[i] with st := .preparing, pages := pagesOf s.cmt.slots[i].writes } } ∧
      t.seam = { s.seam with toLine := s.seam.toLine ++ [.prepare s.cmt.slots[i].tag (lineWrites s.cmt.slots[i].writes)] } ∧
      t.running (T.prep i.val) = true) ∧
  (∀ (r : Req) (tag : BitVec 8) (i : Fin 4) (s : State), Taken s r R.CMT_CMT_COMMIT → tag ≠ 0 → s.slotOf tag = some i →
    s.cmt.slots[i].st = .opened → s.log.pf = false → s.cmt.slots[i].writes ≠ [] → s.cmt.slots[i].overflow = false →
    (mapKeys s.cmt.slots[i].writes).any (fun k => !linePage (pageOf k) && !s.powered k) = false →
    crossDie s.cmt.slots[i].writes = false →
    ∃ u, exec (.cmtCommit r tag) s = .next ((u.stopTimer (T.prep i.val)).switchNow i) ∧ Frame [.cmt, .resp] [R.CMT_CMD_STAT] s u ∧
      u.cmt = { s.cmt with
        slots := s.cmt.slots.set i { s.cmt.slots[i] with st := .applying, pages := pagesOf s.cmt.slots[i].writes, switched := [] }
        waiting := s.cmt.waiting ++ (List.finRange 4).map (fun p => (s.cmt.slots[i].tag, p)) })

/-- REGISTER_WRITE of a register without RWS fields, taken, answers done and performs the write. A failed check gives
cause 3 for a half or unaligned access, 7 for an unused page, 5 for a line-die page with the Seam down, 4 for a
domain that is off, in this order (log entry 11, the model's choice), and changes no register but those of bus
errors. STAGED_WRITE, and REGISTER_WRITE of an RWS register, by a requester whose CUR_TAG names an open group, where no
refusal of R44 holds, stage
the merged word at the register's key, leave every register as it is and add 1 to the group's count for a new
register. UNUSED_PAGE_ACCESS ends with cause 7. (R30, R36, R37, R42, R43, R44, R45, R640, R690) -/
def Obligations.RegisterWrites : Prop :=
  (∀ (r : Req) (a : Addr) (v : Word) (s : State), isStaged a.toNat = false → Taken s r a.toNat →
    exec (.registerWrite r a v true) s = .next ((s.reply .done).performWrite r a.toNat v)) ∧
  (∀ (r : Req) (v : Word) (s : State), Taken s r R.CMT_TIMEOUT →
    ∃ t, exec (.registerWrite r (BitVec.ofNat 20 R.CMT_TIMEOUT) v true) s = .next t ∧ Frame [.resp] [R.CMT_TIMEOUT] s t ∧
      t.resp = .done ∧ t.fld F.CMT_TIMEOUT_PREP_TO = getField v 0 16) ∧
  (∀ (r : Req) (a : Addr) (v : Word) (full : Bool) (s : State), isStaged a.toNat = false → s.reaches r = true →
    isHost r = true → 2 ≤ s.writeCause r a.toNat full →
    ∃ t, exec (.registerWrite r a v full) s = .next t ∧ FrameEv [.resp] [R.HIF_CNT_PCIE_BUSERR, R.HIF_PCIE_ERR, R.HIF_CNT_SB_BUSERR,
      R.HIF_SB_ERR] s t ∧ t.resp = .busError (BitVec.ofNat 3 (s.writeCause r a.toNat full)) ∧
      s.writeCause r a.toNat full = (if full = false ∨ a.toNat % 4 ≠ 0 then 3 else if usedPage (pageOf a.toNat) = false then 7
        else if linePage (pageOf a.toNat) = true ∧ (s.seam.phase = .down ∨ s.seam.phase = .training) then 5 else 4)) ∧
  (∀ (r : Req) (a : Addr) (v : Word) (i : Fin 4) (s : State), isStaged a.toNat = true → s.reaches r = true → a.toNat % 4 = 0 →
    usedPage (pageOf a.toNat) = true → s.mayWrite r (s.resolve r a.toNat) = true → s.resolve r a.toNat % 4 = 0 →
    usedPage (pageOf (s.resolve r a.toNat)) = true →
    s.fld (F.CMT_CUR_TAG_TAG (reqNum r)) ≠ 0 → s.slotOf (BitVec.ofNat 8 (s.fld (F.CMT_CUR_TAG_TAG (reqNum r)))) = some i →
    s.cmt.slots[i].st = .opened → (∀ j : Fin 4, j ≠ i → (s.cmt.slots[j]).holds (s.resolve r a.toNat) = false) →
    s.powered (s.resolve r a.toNat) = true → s.rootBusy (s.resolve r a.toNat) = false →
    (s.resolve r a.toNat ∈ mapKeys s.cmt.slots[i].writes ∨ s.cmt.slots[i].writes.length < 1024) →
    ∃ t, exec (.stagedWrite r a v true) s = .next t ∧ exec (.registerWrite r a v true) s = .next t ∧ SameBut [.cmt, .resp] s t ∧
      t.resp = .done ∧ t.cmt = { s.cmt with slots := s.cmt.slots.set i { s.cmt.slots[i] with
        writes := mapIns s.cmt.slots[i].writes (s.resolve r a.toNat) (mergeWrite (fieldsAt (s.resolve r a.toNat)) 0 v) } }) ∧
  (∀ (r : Req) (a : Addr) (high : Bool) (s : State), usedPage (pageOf a.toNat) = false → a.toNat % 4 = 0 → s.reaches r = true →
    isHost r = true →
    ∃ t, exec (.unusedPageAccess r false a high) s = .next t ∧ FrameEv [.resp] [R.HIF_CNT_PCIE_BUSERR, R.HIF_PCIE_ERR,
      R.HIF_CNT_SB_BUSERR, R.HIF_SB_ERR] s t ∧ t.resp = .busError 7)

/-- A low-half read of a used page answers the low half of what the mirror shows and latches its high half; a high-half read of
the same address answers the latch, of another address the high half of what the mirror shows. The mirror shows the word it
holds, with PAGE_STAT.STALE set for a line page while the Seam is down. A low-half write is held; the high-half write of the same address puts the whole
word into the write buffer, a mismatch raises HALF_MISMATCH and ends with a bus error of cause 6. A read in slot 127
takes BANK from its offset and answers it, a write there ends with a bus error of cause 2. SHELF_WRITE_EFFECT carries
out the oldest buffered write as a register write of the shelf bus. (R31, R32, R33, R34, R641, R642, R645, R646,
R647) -/
def Obligations.ShelfBusCycles : Prop :=
  (∀ (slot : BitVec 7) (ofs : BitVec 10) (s : State), s.reaches .shelf = true → slot ≠ 127 →
    usedPage (pageOf (s.shelfAddr slot ofs)) = true → hasReadEffect (s.shelfAddr slot ofs) = false →
    ∃ t, exec (.shelfReadLow slot ofs) s = .next t ∧ SameBut [.hif, .resp] s t ∧
      t.hif = { s.hif with latch := some (s.shelfAddr slot ofs,
        BitVec.ofNat 16 ((s.mirrorShown (s.shelfAddr slot ofs)).toNat / 2 ^ 16)) } ∧
      t.resp = .data (BitVec.ofNat 32 ((s.mirrorShown (s.shelfAddr slot ofs)).toNat % 2 ^ 16))) ∧
  (∀ (a : Nat) (s : State), s.mirrorShown a =
    if linePage (pageOf a) = true ∧ ofsOf a = 0x00C ∧ (s.seam.phase = .down ∨ s.seam.phase = .training)
    then s.mirrorWord a ||| 2 else s.mirrorWord a) ∧
  (∀ (slot : BitVec 7) (ofs : BitVec 10) (h : BitVec 16) (s : State), s.reaches .shelf = true → slot ≠ 127 →
    usedPage (pageOf (s.shelfAddr slot ofs)) = true → s.hif.latch = some (s.shelfAddr slot ofs, h) →
    ∃ t, exec (.shelfReadHigh slot ofs) s = .next t ∧ SameBut [.resp] s t ∧ t.resp = .data (h.setWidth 32)) ∧
  (∀ (slot : BitVec 7) (ofs : BitVec 10) (s : State), s.reaches .shelf = true → slot ≠ 127 →
    usedPage (pageOf (s.shelfAddr slot ofs)) = true → (∀ h, s.hif.latch ≠ some (s.shelfAddr slot ofs, h)) →
    ∃ t, exec (.shelfReadHigh slot ofs) s = .next t ∧ SameBut [.resp] s t ∧
      t.resp = .data (BitVec.ofNat 32 ((s.mirrorShown (s.shelfAddr slot ofs)).toNat / 2 ^ 16 % 2 ^ 16))) ∧
  (∀ (slot : BitVec 7) (ofs : BitVec 10) (d : BitVec 16) (s : State), s.reaches .shelf = true → slot ≠ 127 →
    ∃ t, exec (.shelfWriteLow slot ofs d) s = .next t ∧ SameBut [.hif, .resp] s t ∧ t.resp = .done ∧
      t.hif = { s.hif with holder := some (s.shelfAddr slot ofs, d) }) ∧
  (∀ (slot : BitVec 7) (ofs : BitVec 10) (lo d : BitVec 16) (s : State), s.reaches .shelf = true → slot ≠ 127 →
    s.hif.holder = some (s.shelfAddr slot ofs, lo) → s.hif.wbuf.length < 32 →
    ∃ t, exec (.shelfWriteHigh slot ofs d) s = .next t ∧ SameBut [.hif, .resp] s t ∧ t.resp = .done ∧
      t.hif = { s.hif with holder := none, wbuf := s.hif.wbuf ++ [(s.shelfAddr slot ofs, d ++ lo)] }) ∧
  (∀ (slot : BitVec 7) (ofs : BitVec 10) (d : BitVec 16) (s : State), s.reaches .shelf = true → slot ≠ 127 →
    (∀ lo, s.hif.holder ≠ some (s.shelfAddr slot ofs, lo)) →
    ∃ t, exec (.shelfWriteHigh slot ofs d) s = .next t ∧
      FrameEv [.resp] [R.HIF_CNT_SB_BUSERR, R.HIF_SB_ERR] s t ∧ t.resp = .busError 6 ∧ t.hif.holder = none ∧
      t.hif.wbuf = s.hif.wbuf ∧ t.rd R.HIF_CNT_SB_BUSERR = s.rd R.HIF_CNT_SB_BUSERR + 1 ∧
      (s.domOn 33 = true → Raised t P.HIF E.HIF_HALF_MISMATCH)) ∧
  (∀ (ofs : BitVec 10) (s : State), s.reaches .shelf = true →
    ∃ t, exec (.bankSlotRead ofs) s = .next t ∧ exec (.shelfReadLow 127 ofs) s = .next t ∧
      exec (.shelfReadHigh 127 ofs) s = .next t ∧ SameBut [.hif, .resp] s t ∧
      t.hif = { s.hif with bank := ofs.getLsbD 0 } ∧ t.resp = .data (if ofs.getLsbD 0 then 1 else 0)) ∧
  (∀ (ofs : BitVec 10) (d : BitVec 16) (s : State), s.reaches .shelf = true →
    ∃ t, exec (.bankSlotWrite ofs d) s = .next t ∧ exec (.shelfWriteLow 127 ofs d) s = .next t ∧
      exec (.shelfWriteHigh 127 ofs d) s = .next t ∧ FrameEv [.resp] [R.HIF_CNT_SB_BUSERR, R.HIF_SB_ERR] s t ∧
      t.resp = .busError 2 ∧ t.rd R.HIF_CNT_SB_BUSERR = s.rd R.HIF_CNT_SB_BUSERR + 1) ∧
  (∀ (a : Nat) (v : Word) (rest : List (Nat × Word)) (s : State), s.hif.wbuf = (a, v) :: rest →
    ∃ u, exec .shelfWriteEffect s = .next (u.writeReg .shelf a v true) ∧ SameBut [.hif] s u ∧ u.hif = { s.hif with wbuf := rest })

/-- EVENT_FIRE of a source of its page, the page's domain on: the raw bit shows 1 and every other raw bit of every page
is as it was, but for REC_LOST where a record finds the ring full; with the raw bit at 0 before, the source's stamp
is the device time of its die, and with records enabled and room in the ring a fabric-die source, or a line-die
source while the Seam is up, adds its record at the ring's end. Only the parts that events may change do. A bit past
the page's sources changes nothing. EVT_FORCE fires each source whose bit is 1; EVT_RAW_CLEAR clears the bits
written, but a source that fires at the same handshake ends at 1. (R568, R569) -/
def Obligations.EventFiring : Prop :=
  (∀ (page : BitVec 8) (b : Fin 16) (s : State), b.val < evNum page.toNat → s.powered (R.HDR_EVT_RAW page.toNat) = true →
    ∃ t, exec (.eventFire page b) s = .next t ∧ FrameEv [] [] s t ∧ Raised t page.toNat b.val ∧
      (∀ p c : Nat, ¬ (p = page.toNat ∧ c = b.val) → ¬ (p = P.EVT ∧ c = E.EVT_REC_LOST) →
        (t.rd (R.HDR_EVT_RAW p)).getLsbD c = (s.rd (R.HDR_EVT_RAW p)).getLsbD c)) ∧
  (∀ (page : BitVec 8) (b : Fin 16) (s : State), b.val < evNum page.toNat → s.powered (R.HDR_EVT_RAW page.toNat) = true →
    ¬ Raised s page.toNat b.val → s.bit F.EVT_EVT_CTL_REC_EN = true → s.domOn 29 = true →
    (linePage page.toNat = true → s.seam.phase = .up) → s.evt.ring.length < 512 →
    ∃ t, exec (.eventFire page b) s = .next t ∧
      mapGet 0 t.evt.stamps (srcNum page.toNat b.val) = s.deviceTime (linePage page.toNat) ∧
      t.evt.ring = s.evt.ring ++ [⟨srcNum page.toNat b.val, linePage page.toNat, s.deviceTime (linePage page.toNat)⟩]) ∧
  (∀ (page : BitVec 8) (b : Fin 16) (s : State), evNum page.toNat ≤ b.val → exec (.eventFire page b) s = .next s) ∧
  (∀ (r : Req) (page : BitVec 8) (bits : BitVec 16) (s : State), Taken s r (R.HDR_EVT_FORCE page.toNat) →
    ∃ t, exec (.evtForce r page bits) s = .next t ∧ FrameEv [.resp] [] s t ∧ t.resp = .done ∧
      ∀ b : Fin 16, b.val < evNum page.toNat → bits.getLsbD b.val = true → Raised t page.toNat b.val) ∧
  (∀ (r : Req) (page : BitVec 8) (bits : BitVec 16) (s : State), Taken s r (R.HDR_EVT_RAW page.toNat) →
    ∃ t, exec (.evtRawClear r page bits 0) s = .next t ∧ Frame [.resp] [R.HDR_EVT_RAW page.toNat] s t ∧ t.resp = .done ∧
      t.rd (R.HDR_EVT_RAW page.toNat) = s.rd (R.HDR_EVT_RAW page.toNat) &&& ~~~ (bits.setWidth 32)) ∧
  (∀ (r : Req) (page : BitVec 8) (bits firing : BitVec 16) (b : Fin 16) (s : State), b.val < evNum page.toNat →
    firing.getLsbD b.val = true → s.powered (R.HDR_EVT_RAW page.toNat) = true →
    ∃ t, exec (.evtRawClear r page bits firing) s = .next t ∧ Raised t page.toNat b.val)

/-- CNT_CLR, taken: every counter of the page reads its reset value, every other register but PAGE_CTL and event
registers is as it was. CNT_HOLD set: the counters stay, and what each counter listed shows is its value at that
moment. EVT_OUT_SET stores PAGE_CTL, and where EVT_OUT was 0 every pending source of the page counts as a pending
rise. EVT_MASK_WRITE stores the mask bits. MIRROR_UPDATE of a used page, with its domain and the Seam as the rule
asks, changes the mirror and the mirror's own bookkeeping alone. (R38, R46, R567, R568, R58, R644) -/
def Obligations.CountersAndMasks : Prop :=
  (∀ (r : Req) (page : BitVec 8) (v : Word) (s : State), Taken s r (R.HDR_PAGE_CTL page.toNat) → v.getLsbD 1 = false →
    v.getLsbD 0 = false →
    ∃ t, exec (.cntClr r page v) s = .next t ∧ SameBut [.regs, .shown, .rcnt, .rcntHeld, .resp] s t ∧ t.resp = .done ∧
      (∀ k, pageOf k = page.toNat → isCounter k = true → t.rd k = resetWord k) ∧
      (∀ k, ¬ (pageOf k = page.toNat ∧ isCounter k = true) → k ≠ R.HDR_PAGE_CTL page.toNat → t.rd k = s.rd k)) ∧
  (∀ (r : Req) (page : BitVec 8) (v : Word) (s : State), Taken s r (R.HDR_PAGE_CTL page.toNat) → v.getLsbD 0 = false →
    v.getLsbD 1 = true → v.getLsbD 2 = false → s.bit (F.HDR_PAGE_CTL_CNT_HOLD page.toNat) = false →
    ∃ t, exec (.cntHold r page v) s = .next t ∧ Frame [.shown, .rcntHeld, .resp] [R.HDR_PAGE_CTL page.toNat] s t ∧ t.resp = .done ∧
      t.bit (F.HDR_PAGE_CTL_CNT_HOLD page.toNat) = true ∧
      (∀ k, pageOf k = page.toNat → isCounter k = true → mapGet (resetWord k) t.shown k = s.rd k)) ∧
  (∀ (r : Req) (page : BitVec 8) (v : Word) (s : State), Taken s r (R.HDR_PAGE_CTL page.toNat) → v.getLsbD 1 = false →
    v.getLsbD 2 = false → s.bit (F.HDR_PAGE_CTL_EVT_OUT page.toNat) = false →
    ∃ u, exec (.evtOutSet r page v) s = .next (u.risePending page.toNat) ∧
      Frame [.shown, .rcntHeld, .resp] [R.HDR_PAGE_CTL page.toNat] s u ∧ u.resp = .done ∧
      u.bit (F.HDR_PAGE_CTL_EVT_OUT page.toNat) = true) ∧
  (∀ (r : Req) (page : BitVec 8) (bits : BitVec 16) (s : State), Taken s r (R.HDR_EVT_MASK page.toNat) →
    ∃ t, exec (.evtMaskWrite r page bits) s = .next t ∧ FrameEv [.resp] [R.HDR_EVT_MASK page.toNat] s t ∧
      ∀ b : Fin 16, (t.rd (R.HDR_EVT_MASK page.toNat)).getLsbD b.val = bits.getLsbD b.val) ∧
  (∀ (page : BitVec 8) (whole : Bool) (s : State), usedPage page.toNat = true → s.domOn 31 = true →
    (linePage page.toNat = true → s.seam.phase = .up) →
    ∃ t, exec (.mirrorUpdate page whole) s = .next t ∧ SameBut [.mirror, .hif] s t ∧
      t.hif.mirPend = (if whole then s.hif.mirPend.filter (fun q => decide (q ≠ page.toNat)) else s.hif.mirPend) ∧
      t.hif.early = s.hif.early.filter (fun a => decide (pageOf a ≠ page.toNat)) ∧
      (whole = true → ∀ a ∈ regsOf page.toNat, t.mirrorWord a = s.readWord .shelf a))

/-- MARKER_INJECT of the group first in the order of the pipeline puts its marker behind everything that has arrived
there. MARKER_PASS of the stage that the marker reaches next, with no packet and no marker ahead of it, moves the
marker on (past the policer it leaves) and switches the group's part at that stage. BOUNDARY_APPLY switches an entry,
a lane or a context of the slot's group; a stage or a roll never switches by it. READ_BUS_ERROR is a read of PCIe or
a core: one that passes its checks answers the register's word, one of PCIe that fails them ends with a completer
abort, counted. (R50, R51, R53, R55, R56, R640, section Cross-die prepare and apply) -/
def Obligations.MarkersAndBoundaries : Prop :=
  (∀ (tag : BitVec 8) (pipe : Fin 4) (s : State), s.cmt.waiting.find? (fun w => decide (w.2 = pipe)) = some (tag, pipe) →
    ∃ u, exec (.markerInject tag pipe) s = .next (u.absorb pipe) ∧ SameBut [.cmt, .pipes] s u ∧
      u.cmt = { s.cmt with waiting := s.cmt.waiting.erase (tag, pipe) } ∧
      u.pipes = s.pipes.set pipe { s.pipes[pipe] with arr := s.pipes[pipe].arr ++ [.mark tag] }) ∧
  (∀ (tag : BitVec 8) (pipe : Fin 4) (w : BitVec 8 × Fin 4) (s : State),
    s.cmt.waiting.find? (fun w => decide (w.2 = pipe)) = some w → w.1 ≠ tag → exec (.markerInject tag pipe) s = .next s) ∧
  (∀ (tag : BitVec 8) (pipe : Fin 4) (st : Stage) (m : Marker) (i : Fin 4) (s : State),
    s.cmt.markers.find? (fun m => decide (m.pipe = pipe) && decide (m.tag = tag)) = some m → m.passed = stageNo st →
    (s.pipes[pipe]).ahead st m.ord = false →
    s.cmt.markers.any (fun n => decide (n.pipe = pipe) && decide (n.ord < m.ord) && decide (n.passed ≤ m.passed)) = false →
    s.slotOf tag = some i →
    ∃ u, exec (.markerPass tag pipe st) s = .next (u.switchUnit i (.stage pipe st)) ∧ SameBut [.cmt] s u ∧
      u.cmt = { s.cmt with markers := if st = .police then s.cmt.markers.erase m
        else s.cmt.markers.map (fun n => if n = m then { n with passed := n.passed + 1 } else n) }) ∧
  (∀ (tag : BitVec 8) (i : Fin 4) (s : State), s.slotOf tag = some i →
    (∀ k, exec (.boundaryApply tag (.entry k)) s = .next (s.switchUnit i (.entry k))) ∧
    (∀ l, exec (.boundaryApply tag (.lane l)) s = .next (s.switchUnit i (.lane l))) ∧
    (∀ c, exec (.boundaryApply tag (.trib c)) s = .next (s.switchUnit i (.trib c))) ∧
    (∀ c, (s.upb[c]).gt = [] → (s.upb[c]).fixed = [] →
      exec (.boundaryApply tag (.burst c)) s = .next (s.switchUnit i (.burst c))) ∧
    (∀ p st, exec (.boundaryApply tag (.stage p st)) s = .next s) ∧ (∀ n, exec (.boundaryApply tag (.roll n)) s = .next s)) ∧
  (∀ (r : Req) (a : Addr) (s : State), r ≠ .shelf → s.reaches r = true → a.toNat % 4 = 0 → usedPage (pageOf a.toNat) = true →
    (linePage (pageOf a.toNat) = true → s.seam.phase = .up ∨ s.seam.phase = .stopped) → hasReadEffect a.toNat = false →
    ∃ t, exec (.readBusError r a true) s = .next t ∧ SameBut [.resp] s t ∧ t.resp = .data (s.readWord r a.toNat)) ∧
  (∀ (r : Req) (a : Addr) (full : Bool) (s : State), r ≠ .shelf → isHost r = true → s.reaches r = true →
    s.readCause a.toNat full ≠ 0 →
    ∃ t, exec (.readBusError r a full) s = .next t ∧ FrameEv [.resp] [R.HIF_CNT_PCIE_BUSERR, R.HIF_PCIE_ERR] s t ∧
      t.resp = .completerAbort ∧ t.rd R.HIF_CNT_PCIE_BUSERR = s.rd R.HIF_CNT_PCIE_BUSERR + 1)

/-- ELECTION_TIMEOUT before the decision gives the thimble to the candidate of highest priority, a thimble move, or
leaves it vacant, no move. Of what reaches OWN at one handshake forced claims come first, then the end of the lease, the
releases, the claims; of two claims of one kind the agent of higher priority is judged, and the other is refused with
cause 3. A command alone at its handshake: a taken OWN_CLAIM of a VACANT thimble, or of the target of a RELEASING one,
makes the claimant holder, closes the presence window and is a move; any other is refused with cause 2 and changes no
ownership. OWN_CLAIM_FORCED inside the force window is a move that closes that window and leaves the presence window.
OWN_RELEASE with another agent as target goes to RELEASING with the handover timer running, VACATE to VACANT with a
move, HANDOVER_TIMEOUT back to HELD by the same holder. LEASE_EXPIRE and WAKE_L0_TIMEOUT lose the holder, a move;
OWN_HEARTBEAT restarts the lease. Everything else is unchanged. (R83, R84, R85, R86, R87, R88, R89, R90, R95, R102) -/
def Obligations.ThimbleMoves : Prop :=
  (∀ (a : Nat) (s : State), s.running T.election = true → s.own.elected = false →
    (priorityOrder (s.rst.straps.toNat % 4)).find? (fun a => natBit s.own.present.toNat a) = some a →
    ∃ t, exec .electionTimeout s = .next t ∧ FrameEv [.cmt, .own, .timers] movedRegs s t ∧ Moved s t ∧
      t.own = { s.own with elected := true, timed := true, cand := s.own.present, st := .held, holder := BitVec.ofNat 2 a }) ∧
  (∀ (s : State), s.running T.election = true → s.own.elected = false →
    (priorityOrder (s.rst.straps.toNat % 4)).find? (fun a => natBit s.own.present.toNat a) = none →
    ∃ t, exec .electionTimeout s = .next t ∧ Frame [.own, .timers] [] s t ∧
      t.own = { s.own with elected := true, timed := true, cand := s.own.present } ∧ t.running T.election = false) ∧
  (∀ (r : Req) (s : State), Taken s r R.OWN_OWN_CLAIM → s.own.elected = true →
    (s.own.st = .vacant ∨ s.own.st = .releasing ∧ agentOf r = s.own.target) →
    ∃ t, exec (.ownClaim r {}) s = .next t ∧ FrameEv [.cmt, .own, .timers, .resp] movedRegs s t ∧ Moved s t ∧
      t.own = { s.own with st := .held, holder := agentOf r, presWin := false } ∧ t.resp = .done) ∧
  (∀ (r : Req) (s : State), Taken s r R.OWN_OWN_CLAIM → (s.own.elected = false ∨ s.own.st = .held ∨
      s.own.st = .releasing ∧ agentOf r ≠ s.own.target) →
    ∃ t, exec (.ownClaim r {}) s = .next t ∧ t = (s.reply .done).deny r R.OWN_OWN_CLAIM 2 2 ∧ t.own = s.own ∧ t.cmt = s.cmt) ∧
  (∀ (r : Req) (s : State), Taken s r R.OWN_OWN_CLAIM → s.own.elected = true → s.isDelegate r = false → s.own.forceWin = true →
    ∃ t, exec (.ownClaimForced r {}) s = .next t ∧ FrameEv [.cmt, .own, .timers, .resp] movedRegs s t ∧ Moved s t ∧
      t.own = { s.own with st := .held, holder := agentOf r, forceWin := false } ∧ t.resp = .done) ∧
  (∀ (r : Req) (t : BitVec 2) (s : State), Taken s r R.OWN_OWN_RELEASE → s.own.st = .held → t ≠ s.own.holder → t ≠ 3 →
    ∃ u, exec (.ownReleaseTarget r t {}) s = .next u ∧ Frame [.own, .timers, .resp] [] s u ∧
      u.own = { s.own with st := .releasing, target := t } ∧ u.running T.handover = true ∧ u.resp = .done) ∧
  (∀ (r : Req) (s : State), Taken s r R.OWN_OWN_RELEASE → s.own.st = .held →
    ∃ u, exec (.ownReleaseVacate r {}) s = .next u ∧ FrameEv [.cmt, .own, .timers, .resp] movedRegs s u ∧ Moved s u ∧
      u.own = { s.own with st := .vacant, holder := 3, presWin := false } ∧ u.resp = .done) ∧
  (∀ (r q p : Req) (t : BitVec 2) (s : State), ∃ a b c d, exec (.ownClaimForced q {}) s = .next a ∧ exec (.leaseExpire {}) a = .next b ∧
    exec (.ownReleaseTarget p t {}) b = .next c ∧ exec (.ownClaim r {}) c = .next d ∧
    exec (.ownClaim r { forced := [q], lost := true, releases := [(p, t.setWidth 3)] }) s = .next d) ∧
  (∀ (r q : Req) (s : State), Taken s r R.OWN_OWN_CLAIM → Taken s q R.OWN_OWN_CLAIM → s.own.elected = true →
    (claimOrder (s.rst.straps.toNat % 4)).idxOf (agentOf r).toNat < (claimOrder (s.rst.straps.toNat % 4)).idxOf (agentOf q).toNat →
    ∃ t, exec (.ownClaim r {}) s = .next t ∧
      exec (.ownClaim q { claims := [r] }) s = .next ((t.reply .done).deny q R.OWN_OWN_CLAIM 3 2)) ∧
  (∀ (s : State), s.own.st = .releasing → s.domOn 0 = true →
    ∃ t, exec .handoverTimeout s = .next t ∧ FrameEv [.own, .timers] [] s t ∧ t.own = { s.own with st := .held } ∧
      t.running T.handover = false ∧ Raised t P.OWN E.OWN_HANDOVER_TIMEOUT) ∧
  (∀ (s : State), s.own.st ≠ .vacant → s.bit F.OWN_OWN_CTL_LEASE_EN = true → s.running T.lease = true → s.domOn 0 = true →
    ∃ t, exec (.leaseExpire {}) s = .next t ∧ FrameEv [.cmt, .own, .timers] movedRegs s t ∧ Moved s t ∧
      t.own = { s.own with st := .vacant, holder := 3, presWin := false } ∧ Raised t P.OWN E.OWN_LEASE_EXPIRED) ∧
  (∀ (r : Req) (s : State), Taken s r R.OWN_OWN_HEARTBEAT → s.bit F.OWN_OWN_CTL_LEASE_EN = true →
    ∃ t, exec (.ownHeartbeat r) s = .next t ∧ Frame [.timers, .resp] [] s t ∧
      t.timers = (s.startTimer T.lease).timers ∧ t.running T.lease = true ∧ t.resp = .done) ∧
  (∀ (s : State), s.running T.wakeL0 = true → s.own.st ≠ .vacant → s.own.holder = 0 → s.hif.l0 = false →
    ∃ t, exec .wakeL0Timeout s = .next t ∧ FrameEv [.cmt, .own, .timers] movedRegs s t ∧ Moved s t ∧
      t.own = { s.own with st := .vacant, holder := 3, presWin := false }) ∧
  (∀ (s : State), s.running T.wakeL0 = true → (s.own.st = .vacant ∨ s.own.holder ≠ 0 ∨ s.hif.l0 = true) →
    exec .wakeL0Timeout s = .next (s.stopTimer T.wakeL0))

/-- PRESENCE_DEBOUNCE, while the supply is there and no reset is in progress, records the debounced level; a fall starts the
count towards 3 s only where the button has been seen high and is not stuck. PRESENCE_ON opens the presence window and the force window, each with its timer, and
raises PRESENCE_ON and FORCE_OPEN. PRESENCE_STUCK closes both and marks the button stuck; PRESENCE_UNSTICK ends that.
PRESENCE_WINDOW_EXPIRE and a taken PRESENCE_END close the presence window, FORCE_WINDOW_EXPIRE the force window.
SEAL_BREAK, SEAL_INTACT and SEAL_REARM bring what SEAL_IN showed over the last bits, compared one by one with what SEAL_OUT
sent: the third mismatch in a row sets SEAL_BROKEN, clears SEAL_INTACT, raises SEAL_BROKEN, opens the force window only
while armed, and disarms; the 64th match in a row sets SEAL_INTACT. SEAL_BROKEN_CLEAR and the 64 matches are the two
conditions of arming; the seal is armed once both hold since the last break. Everything else is unchanged. (R92, R93,
R94, R95, R97, R98, R101) -/
def Obligations.PresenceAndSeal : Prop :=
  (∀ (s : State), s.watches = true → exec (.presenceDebounce true) s = .next { s with own := { s.own with levelHigh := true, seenHigh := true, counting := false, pressed := false } } ∧
    exec (.presenceDebounce false) s = .next { s with own := { s.own with levelHigh := false, counting := s.own.levelHigh && s.own.seenHigh && !s.own.stuck } }) ∧
  (∀ (s : State), s.watches = false → ∀ b, exec (.presenceDebounce b) s = .next s) ∧
  (∀ (s : State), s.watches = true → s.own.counting = true → s.own.pressed = false → s.own.stuck = false → s.domOn 0 = true →
    ∃ t, exec .presenceOn s = .next t ∧ FrameEv [.own, .timers] [] s t ∧
      t.own = { s.own with pressed := true, presWin := true, forceWin := true } ∧ t.running T.presence = true ∧
      t.running T.force = true ∧ Raised t P.OWN E.OWN_PRESENCE_ON ∧ Raised t P.OWN E.OWN_FORCE_OPEN) ∧
  (∀ (s : State), s.watches = true → s.own.counting = true → s.own.stuck = false → s.domOn 0 = true →
    ∃ t, exec .presenceStuck s = .next t ∧ FrameEv [.own, .timers] [] s t ∧
      t.own = { s.own with presWin := false, forceWin := false, stuck := true, counting := false, pressed := false } ∧
      Raised t P.OWN E.OWN_PRESENCE_STUCK) ∧
  (∀ (s : State), s.watches = true → s.own.stuck = true → s.own.levelHigh = true →
    exec .presenceUnstick s = .next { s with own := { s.own with stuck := false } }) ∧
  (∀ (s : State), s.own.presWin = true → s.domOn 0 = true →
    ∃ t, exec .presenceWindowExpire s = .next t ∧ FrameEv [.own, .timers] [] s t ∧ t.own = { s.own with presWin := false } ∧
      Raised t P.OWN E.OWN_PRESENCE_OFF) ∧
  (∀ (s : State), ∃ t, exec .forceWindowExpire s = .next t ∧ Frame [.own, .timers] [] s t ∧ t.own = { s.own with forceWin := false } ∧
    t.running T.force = false) ∧
  (∀ (r : Req) (v : Word) (s : State), Taken s r R.OWN_OWN_PRES_CTL → s.own.presWin = true → s.domOn 0 = true →
    ∃ t, exec (.presenceEnd r v) s = .next t ∧ FrameEv [.own, .timers, .resp] [R.OWN_OWN_PRES_CTL] s t ∧
      t.own = { s.own with presWin := false } ∧ t.resp = .done ∧ t.fld F.OWN_OWN_PRES_CTL_WIN_S = getField v 0 8 ∧
      Raised t P.OWN E.OWN_PRESENCE_OFF) ∧
  (∀ (x : Bool) (s : State), s.own.sealUse = true → s.watches = true → s.domOn 0 = true → x ≠ s.own.lfsr.getLsbD 7 →
    2 ≤ s.own.misses → s.own.matchSeen = true →
    ∃ t, exec (.sealBreak [x]) s = .next t ∧ FrameEv [.own, .timers] [] s t ∧
      t.own = { s.own with broken := true, sealOk := false, hits := 0, misses := 3, matchSeen := false, matched64 := false,
                           cleared := false, armed := false, forceWin := s.own.forceWin || s.own.armed } ∧
      Raised t P.OWN E.OWN_SEAL_BROKEN ∧ (s.own.armed = true → t.running T.force = true ∧ Raised t P.OWN E.OWN_FORCE_OPEN) ∧
      (s.own.armed = false → t.timers = s.timers)) ∧
  (∀ (x : Bool) (s : State), s.own.sealUse = true → s.watches = true → x ≠ s.own.lfsr.getLsbD 7 →
    (s.own.misses < 2 ∨ s.own.matchSeen = false) →
    exec (.sealBreak [x]) s = .next { s with own := { s.own with hits := 0, misses := min 3 (s.own.misses + 1), sealOk := false } }) ∧
  (∀ (x : Bool) (s : State), s.own.sealUse = true → s.watches = true → x = s.own.lfsr.getLsbD 7 → 63 ≤ s.own.hits →
    exec (.sealIntact [x]) s = .next { s with own := { s.own with hits := 64, misses := 0, matchSeen := true, matched64 := true,
                                                                  sealOk := true, armed := s.own.armed || s.own.cleared } } ∧
    exec (.sealRearm [x]) s = exec (.sealIntact [x]) s) ∧
  (∀ (x : Bool) (s : State), s.own.sealUse = true → s.watches = true → x = s.own.lfsr.getLsbD 7 → s.own.hits < 63 →
    exec (.sealRearm [x]) s = .next { s with own := { s.own with hits := s.own.hits + 1, misses := 0, matchSeen := true } } ∧
    exec (.sealIntact [x]) s = exec (.sealRearm [x]) s) ∧
  (∀ (seen : List Bool) (s : State), exec (.sealRearm seen) s = exec (.sealBreak seen) s ∧
    exec (.sealIntact seen) s = exec (.sealBreak seen) s ∧
    ((s.own.sealUse = false ∨ s.watches = false) → exec (.sealBreak seen) s = .next s)) ∧
  (∀ (r : Req) (s : State), Taken s r R.OWN_OWN_STAT → s.own.broken = true →
    exec (.sealBrokenClear r) s = .next { s with own := { s.own with broken := false, cleared := true, armed := s.own.armed || s.own.matched64 }, resp := .done })

/-- RX_ENABLE takes a chain from OFF to WAIT_LIGHT with the trained defaults and RX_DISABLE to OFF. PREAMBLE_DETECT with a
peak of THR or more in WAIT_LIGHT goes to ACQUIRE from the trained defaults; in HELD, in open search or armed with an
offset within HALF, it leaves for ACQUIRE, from the trained defaults if the held state is over 10 ms old, slipping the
grid by an offset within SLIP; otherwise it is no detection. BLIND_ACQUIRE, TRAINING_COUNT_REACHED (locked: TRACK; not
locked: a loss of lock and ACQUIRE again), PLANNED_HOLD at a dark group, UNPLANNED_HOLD, LOS_ASSERT, DOZE_ENTER at a
group that begins a long enough run of groups for others, never the header group, DOZE_WAKE, CDR_LOSS_OF_LOCK,
ARM_WINDOW_OPEN and ARM_WINDOW_CLOSE do the same for their rows. Nothing else changes but what the named operations of
the deframer and of the burst framer do next. (R109, R114, R116, R117, R118, R120, R121, R122, R125, R126, R127, R128) -/
def Obligations.ReceiveStates : Prop :=
  (∀ (r : Req) (c : Chan) (v : Word) (s : State), Taken s r (R.LRX_RX_CTL c.val) → (s.rx[c]).st = .off → s.pwr.limp = false →
    ∃ u, exec (.rxEnable r c v) s = .next ((u.dsfOn c).discardGrants c) ∧ FrameEv [.rx, .resp] [R.LRX_RX_CTL c.val] s u ∧
      u.resp = .done ∧ u.rx = s.rx.set c { s.rx[c] with st := .waitLight, planned := false, armed := false, openS := true, lock := false, cur := (s.rx[c]).dflt, cal := if (s.rx[c]).cal = .running then .waiting else (s.rx[c]).cal }) ∧
  (∀ (r : Req) (c : Chan) (v : Word) (s : State), Taken s r (R.LRX_RX_CTL c.val) → (s.rx[c]).st ≠ .off →
    ∃ u, exec (.rxDisable r c v) s = .next (((u.dsfOff c).cutBurst c).discardGrants c) ∧
      FrameEv [.rx, .resp] [R.LRX_RX_CTL c.val, R.LRX_CNT_DOZE_GRP c.val] s u ∧ u.resp = .done ∧
      u.rx = s.rx.set c { s.rx[c] with st := .off, planned := false, armed := false, openS := false, lock := false, frozen := false, past := [] } ∧
      u.rd (R.LRX_CNT_DOZE_GRP c.val) = s.rd (R.LRX_CNT_DOZE_GRP c.val) +
        (if (s.rx[c]).st = .doze then BitVec.ofNat 32 (groupsBegun (s.rx[c]).span (s.clock.mono - (s.rx[c]).dozeAt))
         else if (s.rx[c]).st = .held ∧ (s.rx[c]).planned = true ∧ (s.rx[c]).armed = false ∧ (s.rx[c]).openS = false then
           BitVec.ofNat 32 (s.gatedGroups c (groupsBegun (s.rx[c]).span (s.clock.mono - (s.rx[c]).ageFrom)))
         else 0)) ∧
  (∀ (c : Chan) (s : State), SameBut [.rx] s (s.trimsIn c) ∧ ((s.rx[c]).trimWait = none → s.trimsIn c = s) ∧
    ∀ k w, (s.rx[c]).trimWait = some (k, w) → (s.trimsIn c).rx =
      s.rx.set c { s.rx[c] with trims := mapIns (s.rx[c]).trims k w, trimWait := none }) ∧
  (∀ (c : Chan) (offset : Int) (peak : BitVec 8) (gain : BitVec 9) (lag : Nat) (s : State), detectWf gain lag = true →
    (s.rx[c]).st = .waitLight → s.fld (F.LRX_PRE_CFG_THR c.val) ≤ peak.toNat →
    ∃ t, exec (.preambleDetect c offset peak gain lag) s = .next t ∧ FrameEv [.rx] [R.LRX_PRE_LAST c.val, R.LRX_CNT_DETECT c.val] s t ∧
      t.rx = s.rx.set c { (s.trimsIn c).rx[c] with st := .acquire, planned := false, armed := false, openS := false, lock := false, past := [], frozen := true, cur := { startOf s c (s.rx[c]).dflt with agc := gain.toNat } } ∧
      t.rd (R.LRX_CNT_DETECT c.val) = s.rd (R.LRX_CNT_DETECT c.val) + 1 ∧
      t.rd (R.LRX_PRE_LAST c.val) = BitVec.ofNat 32 (peak.toNat + 2 ^ 16)) ∧
  (∀ (c : Chan) (offset : Int) (peak : BitVec 8) (gain : BitVec 9) (lag : Nat) (s : State), detectWf gain lag = true →
    (s.rx[c]).st = .held → s.fld (F.LRX_PRE_CFG_THR c.val) ≤ peak.toNat →
    (s.rx[c]).openS = false → (s.rx[c]).armed = true → offset.natAbs ≤ s.fld (F.LRX_ARM_CFG_HALF c.val) →
    ∃ u, exec (.preambleDetect c offset peak gain lag) s = .next (u.dsfLight c) ∧ FrameEv [.rx, .dsf] (detectRegs c) s u ∧
      u.rx = s.rx.set c { (s.trimsIn c).rx[c] with st := .acquire, planned := false, armed := false, openS := false, lock := false, past := [], frozen := true, cur := { startOf s c (if s.ageOver c then (s.rx[c]).dflt else (s.rx[c]).cur) with agc := gain.toNat }, mismatch := (s.rx[c]).mismatch || decide (s.fld (F.LRX_PRE_CFG_SLIP c.val) < offset.natAbs) } ∧
      u.dsf = (if offset ≠ 0 ∧ offset.natAbs ≤ s.fld (F.LRX_PRE_CFG_SLIP c.val) then
        s.dsf.set c { s.dsf[c] with grid := (((s.dsf[c]).grid + offset) % frameSyms).toNat } else s.dsf) ∧
      u.rd (R.LRX_PRE_LAST c.val) = BitVec.ofNat 32 (peak.toNat + ((max (-128) (min 127 offset)) % 256).toNat * 2 ^ 8) ∧
      u.rd (R.LRX_CNT_DETECT c.val) = s.rd (R.LRX_CNT_DETECT c.val) + 1 ∧
      u.rd (R.LRX_CNT_SLIP c.val) = s.rd (R.LRX_CNT_SLIP c.val) +
        (if offset ≠ 0 ∧ offset.natAbs ≤ s.fld (F.LRX_PRE_CFG_SLIP c.val) then 1 else 0) ∧
      u.rd (R.LRX_CNT_DEFAULTS c.val) = s.rd (R.LRX_CNT_DEFAULTS c.val) + (if s.ageOver c then 1 else 0)) ∧
  (∀ (c : Chan) (offset : Int) (peak : BitVec 8) (gain : BitVec 9) (lag : Nat) (s : State), detectWf gain lag = true →
    (s.rx[c]).st = .held → s.fld (F.LRX_PRE_CFG_THR c.val) ≤ peak.toNat → (s.rx[c]).openS = true →
    ∃ u, exec (.preambleDetect c offset peak gain lag) s = .next (u.dsfLight c) ∧ FrameEv [.rx] (detectRegs c) s u ∧
      u.rx = s.rx.set c { (s.trimsIn c).rx[c] with st := .acquire, planned := false, armed := false, openS := false, lock := false, past := [], frozen := true, cur := { startOf s c (if s.ageOver c then (s.rx[c]).dflt else (s.rx[c]).cur) with agc := gain.toNat } } ∧
      u.rd (R.LRX_CNT_DETECT c.val) = s.rd (R.LRX_CNT_DETECT c.val) + 1 ∧
      u.rd (R.LRX_CNT_SLIP c.val) = s.rd (R.LRX_CNT_SLIP c.val)) ∧
  (∀ (c : Chan) (offset : Int) (peak : BitVec 8) (gain : BitVec 9) (lag : Nat) (s : State), detectWf gain lag = true →
    (peak.toNat < s.fld (F.LRX_PRE_CFG_THR c.val) ∨ (s.rx[c]).st ≠ .waitLight ∧ (s.rx[c]).st ≠ .held ∨
      (s.rx[c]).st = .held ∧ (s.rx[c]).openS = false ∧
        ((s.rx[c]).armed = false ∨ s.fld (F.LRX_ARM_CFG_HALF c.val) < offset.natAbs)) →
    exec (.preambleDetect c offset peak gain lag) s = .next (s.trimsIn c)) ∧
  (∀ (c : Chan) (s : State), (s.rx[c]).st = .waitLight →
    ∃ t, exec (.blindAcquire c) s = .next t ∧ Frame [.rx, .pins] [] s t ∧ t.pins = { s.pins with los := s.pins.los.set c false } ∧
      t.rx = s.rx.set c { s.rx[c] with st := .acquire, planned := false, armed := false, openS := false, lock := false, past := [], cur := frozenStart s c (s.rx[c]).dflt }) ∧
  (∀ (c : Chan) (a : Adapt) (s : State), adaptWf a = true → (s.rx[c]).st = .acquire →
    ∃ t, exec (.trainingCountReached c true a) s = .next t ∧ FrameEv [.rx, .pins] [R.LRX_LQ c.val] s t ∧
      (t.rx[c]).st = .track ∧ (t.rx[c]).lock = true ∧ (t.rx[c]).defValid = true ∧ (t.rx[c]).frozen = false ∧
      (t.rx[c]).cur = { a with agc := if (s.rx[c]).frozen then (s.rx[c]).cur.agc else a.agc,
                               ctle := if s.bit (F.LRX_EQ_CFG_CTLE_HOLD c.val) then (s.rx[c]).cur.ctle else a.ctle } ∧
      (t.rx[c]).dflt = (if (s.rx[c]).defValid then (s.rx[c]).dflt else (t.rx[c]).cur) ∧
      t.fld (F.LRX_LQ_VALID c.val) = 0) ∧
  (∀ (c : Chan) (a : Adapt) (s : State), adaptWf a = true → (s.rx[c]).st = .acquire →
    ∃ t, exec (.trainingCountReached c false a) s = .next t ∧ FrameEv [.rx] [R.LRX_CNT_LOL c.val] s t ∧
      t.rx = s.rx.set c { s.rx[c] with planned := false, armed := false, openS := false, lock := false, past := [], cur := frozenStart s c (s.rx[c]).dflt } ∧
      t.rd (R.LRX_CNT_LOL c.val) = s.rd (R.LRX_CNT_LOL c.val) + 1) ∧
  (∀ (c : Chan) (g : Fin 250) (s : State), (s.rx[c]).st = .track → s.mapValid c = true →
    s.markOf c ((s.dsf[c]).place false g.val) = .dark →
    ∃ t, exec (.plannedHold c g) s = .next t ∧ FrameEv [.rx] [R.LRX_CNT_FREEZE c.val] s t ∧
      t.rx = s.rx.set c { s.rx[c] with st := .held, planned := true, armed := false, openS := false, lock := false, ageFrom := s.clock.mono, start := (s.dsf[c]).place false g.val, span := s.darkSpan c ((s.dsf[c]).place false g.val), calGrps := [], mismatch := false, past := [] } ∧
      t.rd (R.LRX_CNT_FREEZE c.val) = s.rd (R.LRX_CNT_FREEZE c.val) + 1) ∧
  (∀ (c : Chan) (s : State), (s.rx[c]).st = .track →
    ∃ u, exec (.unplannedHold c) s = .next (u.dsfHold c) ∧ FrameEv [.rx] [R.LRX_CNT_FREEZE c.val] s u ∧
      u.rx = s.rx.set c { s.rx[c] with st := .held, planned := false, armed := false, openS := true, lock := false, ageFrom := s.clock.mono - 160, mismatch := false, cur := (s.rx[c]).stateAt (s.clock.mono - 160), past := [] } ∧
      u.rd (R.LRX_CNT_FREEZE c.val) = s.rd (R.LRX_CNT_FREEZE c.val) + 1) ∧
  (∀ (x : Rx) (t : Nat), ((∀ e ∈ x.past, e.1 ≤ t) → x.stateAt t = x.cur) ∧
    ∀ l m e, x.past = l ++ e :: m → t < e.1 → (∀ f ∈ m, f.1 ≤ t) → x.stateAt t = e.2) ∧
  (∀ (c : Chan) (n : Nat) (s : State), (s.rx[c]).st = .track →
    ∃ u, exec (.losAssert c n) s = .next (u.dsfHold c) ∧ FrameEv [.rx, .pins] [R.LRX_CNT_FREEZE c.val] s u ∧
      u.pins = { s.pins with los := s.pins.los.set c true } ∧
      u.rx = s.rx.set c { s.rx[c] with st := .held, planned := false, armed := false, openS := true, lock := false, ageFrom := s.clock.mono - symNs (min n 4095), mismatch := false, cur := (s.rx[c]).stateAt (s.clock.mono - symNs (min n 4095)), past := [] } ∧
      u.rd (R.LRX_CNT_FREEZE c.val) = s.rd (R.LRX_CNT_FREEZE c.val) + 1) ∧
  (∀ (c : Chan) (n : Nat) (s : State), (s.rx[c]).st = .doze →
    ∃ u, exec (.losAssert c n) s = .next (u.dsfHold c) ∧ FrameEv [.rx, .pins] [R.LRX_CNT_FREEZE c.val, R.LRX_CNT_DOZE_GRP c.val] s u ∧
      u.pins = { s.pins with los := s.pins.los.set c true } ∧
      u.rx = s.rx.set c { s.rx[c] with st := .held, planned := false, armed := false, openS := true, lock := false, ageFrom := (s.rx[c]).dozeAt, mismatch := false, cur := (s.rx[c]).stateAt (s.rx[c]).dozeAt, past := [] } ∧
      u.rd (R.LRX_CNT_DOZE_GRP c.val) = s.rd (R.LRX_CNT_DOZE_GRP c.val) +
        BitVec.ofNat 32 (groupsBegun (s.rx[c]).span (s.clock.mono - (s.rx[c]).dozeAt))) ∧
  (∀ (c : Chan) (n : Nat) (s : State), (s.rx[c]).st ≠ .track → (s.rx[c]).st ≠ .doze →
    ∃ t, exec (.losAssert c n) s = .next t ∧ FrameEv [.pins] [] s t ∧ t.pins = { s.pins with los := s.pins.los.set c true }) ∧
  (∀ (c : Chan) (g : Fin 250) (s : State), (s.rx[c]).st = .track → s.bit (F.LRX_RX_CTL_DOZE_EN c.val) = true → s.mapValid c = true →
    s.dozeRun c g.val = true →
    g ≠ 0 ∧ s.fld (F.LRX_DOZE_CFG_MIN_GRP c.val) ≤ s.othersRun c g.val ∧ s.othersRun c g.val ≤ 250 - g.val ∧
      exec (.dozeEnter c g) s = .next { s with rx := s.rx.set c { s.rx[c] with st := .doze, dozeAt := s.clock.mono, start := (s.dsf[c]).place false g.val, span := s.othersRun c g.val } }) ∧
  (∀ (c : Chan) (s : State), exec (.dozeEnter c 0) s = .next s) ∧
  (∀ (c : Chan) (s : State), (s.rx[c]).st = .doze →
    ∃ t, exec (.dozeWake c) s = .next t ∧ FrameEv [.rx] [R.LRX_CNT_DOZE_GRP c.val, R.LRX_LQ c.val] s t ∧
      t.rx = s.rx.set c { s.rx[c] with st := .track, lock := true, armed := false, openS := false, frozen := false, past := [] } ∧
      t.rd (R.LRX_CNT_DOZE_GRP c.val) = s.rd (R.LRX_CNT_DOZE_GRP c.val) + BitVec.ofNat 32 (s.rx[c]).span ∧ t.fld (F.LRX_LQ_VALID c.val) = 0) ∧
  (∀ (c : Chan) (s : State), (s.rx[c]).st = .track →
    ∃ t, exec (.cdrLossOfLock c) s = .next t ∧ FrameEv [.rx] [R.LRX_CNT_LOL c.val] s t ∧
      t.rx = s.rx.set c { s.rx[c] with st := .acquire, planned := false, armed := false, openS := false, lock := false, past := [], cur := frozenStart s c (s.rx[c]).dflt } ∧
      t.rd (R.LRX_CNT_LOL c.val) = s.rd (R.LRX_CNT_LOL c.val) + 1) ∧
  (∀ (c : Chan) (s : State), (s.rx[c]).st = .held → (s.rx[c]).planned = true → (s.rx[c]).openS = false → (s.rx[c]).armed = false →
    ∃ t, exec (.armWindowOpen c) s = .next t ∧ Frame [.rx] [R.LRX_CNT_DOZE_GRP c.val] s t ∧
      t.rx = s.rx.set c { (s.trimsIn c).rx[c] with armed := true } ∧
      t.rd (R.LRX_CNT_DOZE_GRP c.val) = s.rd (R.LRX_CNT_DOZE_GRP c.val) + BitVec.ofNat 32 (s.gatedGroups c (s.rx[c]).span)) ∧
  (∀ (c : Chan) (s : State), (s.rx[c]).st = .held → (s.rx[c]).planned = true → (s.rx[c]).armed = true →
    ∃ t, exec (.armWindowClose c) s = .next t ∧ FrameEv [.rx] [R.LRX_CNT_MISS c.val] s t ∧
      t.rx = s.rx.set c { s.rx[c] with armed := false, openS := true } ∧ t.rd (R.LRX_CNT_MISS c.val) = s.rd (R.LRX_CNT_MISS c.val) + 1)

/-- SAVE_DEF in TRACK makes the current state the trained defaults, LOAD_FACTORY the factory set; SIM_DETECT in HELD
leaves as a detection with offset 0, at a gain of 0 to 30 dB where a window or the open search lets the fast AGC act.
LQ_BLOCK in TRACK shows the quality, at most 40.0 dB, and raises LQ_LOW at a fall below the threshold; NOISE_MEASURE
shows the floor in a planned hold of two dark groups or more with NF_EN; RATE_MEASURE writes the frequency, and beyond
400 ppm in TRACK loses the lock; CLIP_BLOCK above the threshold counts and, in TRACK, lowers the AGC by 10. CAL_START
runs in OFF, waits under the waiting policy and is refused otherwise; CAL_ABORT stops a pass; CAL_STEP counts the steps
of a pass, each with trims that wait for the next group boundary, the 96th of which ends it; a step into which a symbol
came is not counted. (R117, R123, R131, R132, R134, R135, R136, R138, R139, R140, R142, R143) -/
def Obligations.ReceiveMeasures : Prop :=
  (∀ (r : Req) (c : Chan) (v : Word) (s : State), Taken s r (R.LRX_ADAPT_CMD c.val) → (s.rx[c]).st = .track → v.getLsbD 2 = false →
    ∃ t, exec (.saveDef r c v) s = .next t ∧ Frame [.rx, .resp] [] s t ∧ t.resp = .done ∧
      t.rx = s.rx.set c { s.rx[c] with dflt := (s.rx[c]).cur, defValid := true }) ∧
  (∀ (r : Req) (c : Chan) (v : Word) (s : State), Taken s r (R.LRX_ADAPT_CMD c.val) → (v.getLsbD 0 = false ∨ (s.rx[c]).st ≠ .held) →
    ∃ t, exec (.loadFactory r c v) s = .next t ∧ Frame [.rx, .resp] [] s t ∧ t.resp = .done ∧
      t.rx = s.rx.set c { s.rx[c] with dflt := factorySet, defValid := false }) ∧
  (∀ (r : Req) (c : Chan) (v : Word) (d : Adapt) (s : State), Taken s r (R.LRX_ADAPT_CMD c.val) → (s.rx[c]).st = .held →
    d = (if v.getLsbD 2 then factorySet else (s.rx[c]).dflt) →
    ∃ u g, exec (.simDetect r c v) s = .next (u.dsfLight c) ∧
      FrameEv [.rx, .resp, .fresh] (R.LRX_CNT_DOZE_GRP c.val :: detectRegs c) s u ∧ g ≤ 300 ∧
      u.resp = .done ∧ u.rd (R.LRX_CNT_DETECT c.val) = s.rd (R.LRX_CNT_DETECT c.val) + 1 ∧
      u.rd (R.LRX_CNT_SLIP c.val) = s.rd (R.LRX_CNT_SLIP c.val) ∧
      u.rx = s.rx.set c { s.rx[c] with st := .acquire, planned := false, armed := false, openS := false, lock := false, past := [], frozen := true, dflt := d, defValid := !v.getLsbD 2 && (s.rx[c]).defValid, cur := { startOf s c (if s.ageOver c then d else (s.rx[c]).cur) with agc := if (s.rx[c]).openS = true ∨ (s.rx[c]).armed = true then g else (s.rx[c]).cur.agc } }) ∧
  (∀ (c : Chan) (lq : BitVec 9) (a : Adapt) (s : State), adaptWf a = true → (s.rx[c]).st = .track →
    ∃ t, exec (.lqBlock c lq a) s = .next t ∧ FrameEv [.rx, .pins] [R.LRX_LQ c.val] s t ∧
      t.rd (R.LRX_LQ c.val) = BitVec.ofNat 32 (min lq.toNat 400 + 2 ^ 16) ∧
      (t.rx[c]).cur = { a with ctle := (s.rx[c]).cur.ctle } ∧ (t.rx[c]).st = .track ∧
      (t.rx[c]).lqLow = (((s.rx[c]).lqLow || decide (lq.toNat < s.fld (F.LRX_LQ_CFG_LOW c.val))) && !decide (s.fld (F.LRX_LQ_CFG_LOW c.val) + 10 ≤ lq.toNat)) ∧
      t.rx = s.rx.set c (t.rx[c])) ∧
  (∀ (c : Chan) (floor : BitVec 10) (s : State), s.bit (F.LRX_RX_CTL_NF_EN c.val) = true → (s.rx[c]).st = .held → (s.rx[c]).planned = true →
    2 ≤ (s.rx[c]).span →
    exec (.noiseMeasure c floor) s = .next (s.wr (R.LRX_NOISE c.val) (BitVec.ofNat 32 (floor.toNat + 2 ^ 16)))) ∧
  (∀ (c : Chan) (ppm : Int) (lock : Bool) (s : State), s.ncoOn c = true → -(2 ^ 15) ≤ ppm → ppm < 2 ^ 15 →
    ∃ t, exec (.rateMeasure c ppm lock) s = .next t ∧ FrameEv [.rx] [R.LRX_RATE c.val] s t ∧
      BitVec.ofNat 16 (t.fld (F.LRX_RATE_PPM c.val)) = BitVec.ofInt 16 ppm ∧
      t.rx = s.rx.set c { s.rx[c] with rateOor := decide (20000 < ppm.natAbs), lock := if (s.rx[c]).st = .acquire then lock else (s.rx[c]).lock }) ∧
  (∀ (c : Chan) (ppm : Int) (lock : Bool) (s : State), (s.rx[c]).st = .track → 40000 < ppm.natAbs →
    ∃ t, exec (.rateMeasure c ppm lock) s = .next t ∧ FrameEv [.rx, .fresh] [R.LRX_RATE c.val, R.LRX_CNT_LOL c.val] s t ∧
      (t.rx[c]).st = .acquire ∧ (t.rx[c]).rateOor = true ∧ t.rd (R.LRX_CNT_LOL c.val) = s.rd (R.LRX_CNT_LOL c.val) + 1) ∧
  (∀ (c : Chan) (clips : Nat) (s : State), (s.rx[c]).st ≠ .off → (s.rx[c]).st ≠ .doze → 2 ^ s.fld (F.LRX_AGC_CFG_CLIP_THR c.val) < clips →
    ∃ t, exec (.clipBlock c clips) s = .next t ∧ FrameEv [.rx] [R.LRX_CNT_CLIP c.val] s t ∧
      t.rd (R.LRX_CNT_CLIP c.val) = s.rd (R.LRX_CNT_CLIP c.val) + 1 ∧
      t.rx = if (s.rx[c]).st = .track then s.rx.set c { s.rx[c] with cur := { (s.rx[c]).cur with agc := (s.rx[c]).cur.agc - 10 }, past := (s.clock.mono, (s.rx[c]).cur) :: (s.rx[c]).past.filter (fun e => decide (s.clock.mono ≤ e.1 + 160)) } else s.rx) ∧
  (∀ (r : Req) (c : Chan) (v : Word) (s : State), Taken s r (R.LRX_CAL_CTL c.val) → (s.rx[c]).calBusy = false → v.getLsbD 1 = false →
    ∃ t, exec (.calStart r c v) s = .next t ∧ FrameEv [.rx, .resp] [R.LRX_CAL_CTL c.val] s t ∧ t.resp = .done ∧
      (t.rx[c]).cal = (if (s.rx[c]).st = .off then .running else if v.getLsbD 2 then .refused else .waiting) ∧
      ((t.rx[c]).cal ≠ .refused → (t.rx[c]).calSteps = 0)) ∧
  (∀ (r : Req) (c : Chan) (v : Word) (s : State), Taken s r (R.LRX_CAL_CTL c.val) → (s.rx[c]).calBusy = true →
    ∃ t, exec (.calAbort r c v) s = .next t ∧ Frame [.rx, .resp] [R.LRX_CAL_CTL c.val] s t ∧ t.resp = .done ∧
      t.rx = s.rx.set c { s.rx[c] with cal := .aborted }) ∧
  (∀ (c : Chan) (k : Nat) (trim : Word) (s : State), (s.rx[c]).calBusy = true → ((s.rx[c]).st = .off ∨ (s.rx[c]).calGroup k = true) →
    ∃ t, exec (.calStep c k false trim) s = .next t ∧ FrameEv [.rx] [] s t ∧
      t.rx = s.rx.set c { (s.trimsIn c).rx[c] with cal := if 96 ≤ (s.rx[c]).calSteps + 1 then .done else if (s.rx[c]).st = .off then .running else .waiting, calSteps := (s.rx[c]).calSteps + 1, calGrps := if (s.rx[c]).st = .off then (s.rx[c]).calGrps else k :: (s.rx[c]).calGrps, trimWait := some ((s.rx[c]).calSteps, trim) }) ∧
  (∀ (c : Chan) (k : Nat) (trim : Word) (s : State), (s.rx[c]).calBusy = true → ((s.rx[c]).st = .off ∨ (s.rx[c]).calGroup k = true) →
    exec (.calStep c k true trim) s = .next { s with rx := s.rx.set c { (s.trimsIn c).rx[c] with cal := if (s.rx[c]).st = .off then .running else .waiting, calGrps := if (s.rx[c]).st = .off then (s.rx[c]).calGrps else k :: (s.rx[c]).calGrps } }) ∧
  (∀ (c : Chan) (k : Nat) (x : Bool) (trim : Word) (s : State),
    ((s.rx[c]).calBusy = false ∨ (s.rx[c]).st ≠ .off ∧ (s.rx[c]).calGroup k = false) → exec (.calStep c k x trim) s = .next s)

/-- SYNC_CANDIDATE adds one of at most four candidates, in HUNT or CONFIRM with the chain in TRACK and the sync word
within SYNC_TOL; otherwise nothing. GROUP_DECODE reads the group's symbols: the valid header that confirms a candidate
for the Nth time aligns, raises REALIGNED and is taken; an earlier one confirms it once more; a header of a candidate
that does not check drops it, counted; in ALIGNED a valid header on the grid clears the run and is taken, an errored
one is counted and adds to the run, the Mth in a row loses alignment; a later group is only counted in codewords, and
where lost told to the demapper; a group that is not decoded (OFF, a dozing chain, a DARK mark, off the grid) changes
nothing but the trims of a calibration step. PLANNED_COAST, COAST_END, COAST_LIMIT and COAST_FRAME_ADVANCE are the rows
of R160 and R162. (R156, R157, R158, R159, R160, R161, R162, R163, R164, R181, R182, R183) -/
def Obligations.DeframerStates : Prop :=
  (∀ (c : Chan) (pos : Nat) (w : BitVec 64) (s : State), pos < 3200000 → ((s.dsf[c]).st = .hunt ∨ (s.dsf[c]).st = .confirm) →
    (s.rx[c]).st = .track → syncDiff w ≤ s.fld F.DSF_ALIGN_CTL_SYNC_TOL → (s.dsf[c]).cands.length < 4 → (∀ k ∈ (s.dsf[c]).cands, k.pos ≠ pos) →
    exec (.syncCandidate c pos w) s = .next { s with dsf := s.dsf.set c { s.dsf[c] with cands := (s.dsf[c]).cands ++ [⟨pos, 0, 0⟩] } }) ∧
  (∀ (c : Chan) (pos : Nat) (w : BitVec 64) (s : State), pos < 3200000 → ((s.dsf[c]).st ≠ .hunt ∧ (s.dsf[c]).st ≠ .confirm ∨ (s.rx[c]).st ≠ .track ∨
    s.fld F.DSF_ALIGN_CTL_SYNC_TOL < syncDiff w ∨ 4 ≤ (s.dsf[c]).cands.length ∨ ∃ k ∈ (s.dsf[c]).cands, k.pos = pos) →
    exec (.syncCandidate c pos w) s = .next s) ∧
  (∀ (c : Chan) (g : GroupIn) (s : State), s.takesGroup c g = true ↔ ((s.dsf[c]).st ≠ .off ∧ (s.rx[c]).st ≠ .doze ∧
    s.markOf c ((s.dsf[c]).place (decide (g.grp = 0)) g.grp) ≠ .dark ∧
    ((s.dsf[c]).st = .aligned ∨ (s.dsf[c]).st = .coast → lineOffset ((s.dsf[c]).grid + g.grp * 12800) g.at_ = 0) ∧
    ((s.dsf[c]).st = .verify → (lineOffset ((s.dsf[c]).grid + g.grp * 12800) g.at_).natAbs ≤
      if g.grp = 0 then s.fld F.DSF_ALIGN_CTL_VERIFY_WIN else 0))) ∧
  (∀ (c : Chan) (r : GroupRaw) (g : GroupIn) (h : FrameHdr) (k : Cand) (s : State), groupWf r = true → (s.trimsIn c).readLine c r = g →
    g.hdr = some h → s.takesGroup c g = true → ((s.dsf[c]).st = .hunt ∨ (s.dsf[c]).st = .confirm) →
    (s.dsf[c]).cands.find? (fun k => decide (k.pos = h.pos)) = some k → headerValid c g.cws h = true →
    (0 < k.conf → h.frameCnt.toNat = (k.fc + 1) % 2 ^ 48) → s.fld F.DSF_ALIGN_CTL_N_CONFIRM ≤ k.conf + 1 →
    ∃ u z, exec (.groupDecode c r) s = .next (((((u.dsfMove c z).countDropped c ((s.dsf[c]).cands.length - 1)).dsfEvent c
        E.DSF_REALIGNED).goodHeader c h).keepStream c g) ∧
      PageEv [.dsf, .rx] [P.DSF] s u ∧ z.st = .aligned ∧ z.planned = false ∧ z.cands = [] ∧ z.run = 0 ∧ z.deliver = false ∧
      z.mfAl = false ∧ z.grid = h.pos) ∧
  (∀ (c : Chan) (r : GroupRaw) (g : GroupIn) (h : FrameHdr) (k : Cand) (s : State), groupWf r = true → (s.trimsIn c).readLine c r = g →
    g.hdr = some h → s.takesGroup c g = true → ((s.dsf[c]).st = .hunt ∨ (s.dsf[c]).st = .confirm) →
    (s.dsf[c]).cands.find? (fun k => decide (k.pos = h.pos)) = some k → headerValid c g.cws h = true →
    (0 < k.conf → h.frameCnt.toNat = (k.fc + 1) % 2 ^ 48) → k.conf + 1 < s.fld F.DSF_ALIGN_CTL_N_CONFIRM →
    ∃ u z, exec (.groupDecode c r) s = .next (((u.dsfMove c z).seenHeader c h).keepStream c g) ∧
      PageEv [.dsf, .rx] [P.DSF] s u ∧ z.st = .confirm ∧
      z.cands = (s.dsf[c]).cands.map (fun e => if e.pos = h.pos then ⟨e.pos, k.conf + 1, h.frameCnt.toNat⟩ else e)) ∧
  (∀ (c : Chan) (r : GroupRaw) (g : GroupIn) (h : FrameHdr) (k : Cand) (s : State), groupWf r = true → (s.trimsIn c).readLine c r = g →
    g.hdr = some h → s.takesGroup c g = true → ((s.dsf[c]).st = .hunt ∨ (s.dsf[c]).st = .confirm) →
    (s.dsf[c]).cands.find? (fun k => decide (k.pos = h.pos)) = some k →
    ∃ u, PageEv [.dsf, .rx] [P.DSF] s u ∧
      (headerValid c g.cws h = false → exec (.groupDecode c r) s = .next ((u.dropCandidate c h.pos).keepStream c g)) ∧
      (headerValid c g.cws h = true → 0 < k.conf → h.frameCnt.toNat ≠ (k.fc + 1) % 2 ^ 48 →
        exec (.groupDecode c r) s = .next (((u.seenHeader c h).dropCandidate c h.pos).keepStream c g))) ∧
  (∀ (c : Chan) (r : GroupRaw) (g : GroupIn) (h : FrameHdr) (s : State), groupWf r = true → (s.trimsIn c).readLine c r = g →
    g.hdr = some h → s.takesGroup c g = true → (s.dsf[c]).st = .aligned → headerValid c g.cws h = true →
    ∃ u, exec (.groupDecode c r) s = .next ((u.goodHeader c h).keepStream c g) ∧ PageEv [.dsf, .rx] [P.DSF] s u ∧ (u.dsf[c]).run = 0 ∧
      (u.dsf[c]).grp = 0 ∧ (u.dsf[c]).deliver = true ∧ (u.dsf[c]).grpDead = false) ∧
  (∀ (c : Chan) (r : GroupRaw) (g : GroupIn) (h : FrameHdr) (s : State), groupWf r = true → (s.trimsIn c).readLine c r = g →
    g.hdr = some h → s.takesGroup c g = true → (s.dsf[c]).st = .aligned → headerValid c g.cws h = false →
    (s.dsf[c]).run + 1 < s.fld F.DSF_ALIGN_CTL_M_LOSE →
    ∃ u, exec (.groupDecode c r) s = .next ((u.groupLost (wholeGroup g.cws) true).keepStream c g) ∧ PageEv [.dsf, .rx] [P.DSF] s u ∧
      (u.dsf[c]).st = .aligned ∧ (u.dsf[c]).run = min ((s.dsf[c]).run + 1) 15 ∧
      u.rd (R.DSF_CNT_HDR_ERR c.val) = s.rd (R.DSF_CNT_HDR_ERR c.val) + 1) ∧
  (∀ (c : Chan) (r : GroupRaw) (g : GroupIn) (h : FrameHdr) (s : State), groupWf r = true → (s.trimsIn c).readLine c r = g →
    g.hdr = some h → s.takesGroup c g = true → (s.dsf[c]).st = .aligned → headerValid c g.cws h = false →
    s.fld F.DSF_ALIGN_CTL_M_LOSE ≤ (s.dsf[c]).run + 1 →
    ∃ u, exec (.groupDecode c r) s = .next ((u.lossOfFrame c).keepStream c g) ∧ PageEv [.dsf, .rx] [P.DSF] s u ∧
      u.rd (R.DSF_CNT_HDR_ERR c.val) = s.rd (R.DSF_CNT_HDR_ERR c.val) + 1) ∧
  (∀ (c : Chan) (r : GroupRaw) (g : GroupIn) (s : State), groupWf r = true → (s.trimsIn c).readLine c r = g → g.hdr = none →
    s.takesGroup c g = true → (s.dsf[c]).st = .aligned →
    ∃ u, exec (.groupDecode c r) s = .next ((u.groupLost (wholeGroup g.cws) (s.dsf[c]).deliver).keepStream c g) ∧
      PageEv [.dsf, .rx] [P.DSF] s u ∧ (u.dsf[c]).grp = g.grp ∧ (u.dsf[c]).grpOk = wholeGroup g.cws ∧ (u.dsf[c]).grpDead = false) ∧
  (∀ (c : Chan) (r : GroupRaw) (g : GroupIn) (s : State), groupWf r = true → (s.trimsIn c).readLine c r = g → s.takesGroup c g = false →
    exec (.groupDecode c r) s = .next (s.trimsIn c)) ∧
  (∀ (s : State), s.groupLost true true = s ∧ s.groupLost false false = s ∧ s.groupLost false true = s.bump R.TRB_CNT_GRP_LOST) ∧
  (∀ (c : Chan) (s : State), (s.dsf[c]).st = .aligned → s.markOf c ((s.dsf[c]).place true 0) = .dark →
    exec (.plannedCoast c) s = .next (s.dsfMove c { (s.dsf[c]).advance with st := .coast, planned := true, grpOk := false, grpDead := true, deliver := true, ctrl := false })) ∧
  (∀ (c : Chan) (g : Fin 250) (s : State), (s.dsf[c]).st = .coast → (s.dsf[c]).planned = true →
    s.markOf c ((s.dsf[c]).place (decide (g.val = 0)) g.val) ≠ .dark →
    ∃ x, exec (.coastEnd c g) s = .next (s.dsfMove c x) ∧ x.st = (if (s.rx[c]).mismatch then .verify else .aligned) ∧
      x.planned = false ∧ x.run = 0 ∧ x.fc = (s.dsf[c]).fc ∧ x.since = (s.dsf[c]).since) ∧
  (∀ (c : Chan) (s : State), (s.dsf[c]).st = .coast → (s.dsf[c]).planned = false →
    ∃ u, exec (.coastLimit c) s = .next (u.lossOfFrame c) ∧ FrameEv [] [R.DSF_CH_STAT c.val] s u) ∧
  (∀ (c : Chan) (s : State), (s.dsf[c]).st = .coast →
    exec (.coastFrameAdvance c) s = .next { s with dsf := s.dsf.set c { s.dsf[c] with since := (s.dsf[c]).since + 1, seed := ((s.dsf[c]).seed + 1) % 2 ^ 48, past := (((s.dsf[c]).seed + 1) % 2 ^ 48 :: (s.dsf[c]).past).take 8, mfIdx := (s.dsf[c]).mfIdx.map (fun i => (i + 1) % 16), grp := 0, grpOk := false, grpDead := true, deliver := (s.dsf[c]).planned, ctrl := false } })

/-- MULTIFRAME_START with multiframe alignment at MF_IDX 15 follows a dark tail for one multiframe, takes a gathered map
that passes every check as VALID, with a planned hold whose dark span reaches the new multiframe going on through its
dark groups, and loses the map otherwise, counted, with MAP_LOST when it was known; without alignment nothing changes.
BER_SECOND shows the ratio over the correctable codewords, valid from 1,000 codewords decoded on, judges BER_HIGH, and
starts the next second. FRAGMENT_RECEIVE reads the header at its place in the group: with a wrong header check it gives
up the rest of the group and counts HEC_ERR, one that does not fit gives it up and counts FRAG_DISC, one for another
terminal only moves the place on; a tributary fragment of a whole group whose label passes adds its bytes for the
demapper. FC_FORGET forgets the counter and spends the channel's keys with cause 2; FC_READ_LATCH answers the low word
and latches the high one. (R168, R175, R177, R179, R183, R184, R185, R186, R187, R188) -/
def Obligations.DeframerContents : Prop :=
  (∀ (c : Chan) (s : State), ((s.dsf[c]).mfAl = false ∨ (s.dsf[c]).mfIdx ≠ some 15) → exec (.multiframeStart c) s = .next s) ∧
  (∀ (c : Chan) (s : State), (s.dsf[c]).mfAl = true → (s.dsf[c]).mfIdx = some 15 → 0 < (s.dsf[c]).tail →
    exec (.multiframeStart c) s = .next { s with dsf := s.dsf.set c { s.dsf[c] with secs := [], said := none, lastSec := 0, bad := false, map := .darkTail, entries := [], tail := (s.dsf[c]).tail - 1 } }) ∧
  (∀ (c : Chan) (es : List MapEntry) (n : Nat) (u s : State), (s.dsf[c]).mfAl = true → (s.dsf[c]).mfIdx = some 15 →
    (s.dsf[c]).tail = 0 → (s.dsf[c]).gathered = some (es, n) →
    u = { s with dsf := s.dsf.set c { s.dsf[c] with secs := [], said := none, lastSec := 0, bad := false, map := .valid, entries := es, tail := n } } →
    exec (.multiframeStart c) s = .next
      (if (s.rx[c]).st = .held ∧ (s.rx[c]).planned = true ∧ (s.rx[c]).armed = false ∧ (s.rx[c]).openS = false ∧
          ((s.rx[c]).start + (s.rx[c]).span) % 4000 = 0 then
        { u with rx := s.rx.set c { s.rx[c] with span := (s.rx[c]).span + u.darkSpan c 0 } } else u)) ∧
  (∀ (c : Chan) (s : State), (s.dsf[c]).mfAl = true → (s.dsf[c]).mfIdx = some 15 → (s.dsf[c]).tail = 0 → (s.dsf[c]).gathered = none →
    (s.rx[c]).st ≠ .doze →
    ∃ t, exec (.multiframeStart c) s = .next t ∧ FrameEv [.dsf] [R.DSF_CNT_MAP_LOST c.val, R.DSF_CH_STAT c.val] s t ∧
      t.dsf = s.dsf.set c { s.dsf[c] with secs := [], said := none, lastSec := 0, bad := false, map := .unknown, entries := [], tail := 0 } ∧
      t.rd (R.DSF_CNT_MAP_LOST c.val) = s.rd (R.DSF_CNT_MAP_LOST c.val) + 1) ∧
  (∀ (c : Chan) (s : State), (s.dsf[c]).mfAl = true → (s.dsf[c]).mfIdx = some 15 → (s.dsf[c]).tail = 0 → (s.dsf[c]).gathered = none →
    (s.rx[c]).st = .doze →
    ∃ t, exec (.multiframeStart c) s = .next t ∧ (t.dsf[c]).map = .unknown ∧ (t.rx[c]).st = .track ∧
      FrameEv [.dsf, .rx] [R.DSF_CNT_MAP_LOST c.val, R.DSF_CH_STAT c.val, R.LRX_CNT_DOZE_GRP c.val, R.LRX_LQ c.val] s t) ∧
  (∀ (c : Chan) (s : State), ∃ t m e, exec (.berSecond c) s = .next t ∧ FrameEv [.dsf, .fresh] [R.DSF_CH_BER c.val, R.DSF_CH_STAT c.val] s t ∧
    1 ≤ m ∧ m ≤ 9 ∧ 1 ≤ e ∧ e ≤ 15 ∧
    t.rd (R.DSF_CH_BER c.val) = BitVec.ofNat 32 (m + e * 2 ^ 8 + (if 1000 ≤ (s.dsf[c]).berAll then 2 ^ 12 else 0)) ∧
    ((s.dsf[c]).berCws ≠ 0 → ∀ r, ratioCode (s.dsf[c]).berBits ((s.dsf[c]).berCws * 6400) = some r → (m, e) = r) ∧
    t.dsf = s.dsf.set c { s.dsf[c] with berBits := 0, berCws := 0, berAll := 0, berHigh := (t.dsf[c]).berHigh } ∧
    ((s.dsf[c]).berCws ≠ 0 → (t.dsf[c]).berHigh =
      decide (s.fld F.DSF_BER_CFG_MANT * ((s.dsf[c]).berCws * 6400) ≤ (s.dsf[c]).berBits * 10 ^ s.fld F.DSF_BER_CFG_EXP))) ∧
  (∀ (c : Chan) (stamp : Nat) (h : BitVec 64) (s : State), (s.dsf[c]).deliver = true → (s.dsf[c]).grpDead = false →
    s.markOf c ((s.dsf[c]).place false (s.dsf[c]).grp) = .mine → (s.dsf[c]).at_ + 8 ≤ (s.dsf[c]).info.length →
    h = fragHeader (s.dsf[c]).info (s.dsf[c]).at_ → hecOf h ≠ h.toNat % 2 ^ 16 →
    ∃ t, exec (.fragmentReceive c stamp) s = .next t ∧ Frame [.dsf] [R.DSF_CNT_HEC_ERR c.val] s t ∧
      t.dsf = s.dsf.set c { s.dsf[c] with grpDead := true } ∧ t.rd (R.DSF_CNT_HEC_ERR c.val) = s.rd (R.DSF_CNT_HEC_ERR c.val) + 1) ∧
  (∀ (c : Chan) (stamp : Nat) (h : BitVec 64) (s : State), (s.dsf[c]).deliver = true → (s.dsf[c]).grpDead = false →
    s.markOf c ((s.dsf[c]).place false (s.dsf[c]).grp) = .mine → (s.dsf[c]).at_ + 8 ≤ (s.dsf[c]).info.length →
    h = fragHeader (s.dsf[c]).info (s.dsf[c]).at_ → hecOf h = h.toNat % 2 ^ 16 →
    (s.dsf[c]).info.length < (s.dsf[c]).at_ + 8 + fragLen h →
    ∃ t, exec (.fragmentReceive c stamp) s = .next t ∧ Frame [.dsf] [R.DSF_CNT_FRAG_DISC c.val] s t ∧
      t.dsf = s.dsf.set c { s.dsf[c] with grpDead := true } ∧ t.rd (R.DSF_CNT_FRAG_DISC c.val) = s.rd (R.DSF_CNT_FRAG_DISC c.val) + 1) ∧
  (∀ (c : Chan) (stamp : Nat) (h : BitVec 64) (u s : State), (s.dsf[c]).deliver = true → (s.dsf[c]).grpDead = false →
    s.markOf c ((s.dsf[c]).place false (s.dsf[c]).grp) = .mine → (s.dsf[c]).at_ + 8 + fragLen h ≤ (s.dsf[c]).info.length →
    h = fragHeader (s.dsf[c]).info (s.dsf[c]).at_ → hecOf h = h.toNat % 2 ^ 16 →
    (s.dsf[c]).grpOk = true →
    u = ({ s with dsf := s.dsf.set c { s.dsf[c] with at_ := (s.dsf[c]).at_ + 8 + fragLen h } }).rollDown c ((s.downFrame c).getD 0) →
    (u.hears (h.toNat / 2 ^ 48 % 2 ^ 12) = false → exec (.fragmentReceive c stamp) s = .next u) ∧
    (h.toNat / 2 ^ 60 = 2 → u.hears (h.toNat / 2 ^ 48 % 2 ^ 12) = true → h.getLsbD 19 = false →
      ((s.dsf[c]).psl = none ∨ (s.dsf[c]).psl = some (u.fld F.DSF_PSL_CFG_PSL_EXP)) →
      exec (.fragmentReceive c stamp) s = .next { u with tfrags := u.tfrags.set c (u.tfrags[c] ++
        [slice (s.dsf[c]).info ((s.dsf[c]).at_ + 8) (fragLen h)]) })) ∧
  (∀ (c : Chan) (stamp : Nat) (s : State), ((s.dsf[c]).deliver = false ∨ (s.dsf[c]).grpDead = true ∨
      s.markOf c ((s.dsf[c]).place false (s.dsf[c]).grp) ≠ .mine ∨ (s.dsf[c]).info.length < (s.dsf[c]).at_ + 8) →
    exec (.fragmentReceive c stamp) s = .next s) ∧
  (∀ (r : Req) (c : Chan) (s : State), Taken s r (R.DSF_CH_CMD c.val) →
    ∃ u, exec (.fcForget r c) s = .next (u.spendChannel c 2) ∧ Frame [.dsf, .resp] [] s u ∧ u.resp = .done ∧
      u.dsf = s.dsf.set c { s.dsf[c] with fc := none, since := 0 }) ∧
  (∀ (r : Req) (c : Chan) (s : State), s.reaches r = true → s.readCause (R.DSF_CH_FC_LO c.val) true = 0 →
    s.powered (R.DSF_CH_FC_LO c.val) = true →
    ∃ t, exec (.fcReadLatch r c) s = .next t ∧ Frame [.resp] [R.DSF_CH_FC_HI c.val] s t ∧
      t.resp = .data (BitVec.ofNat 32 ((s.downFrame c).getD 0)) ∧ t.fld (F.DSF_CH_FC_HI_FC c.val) = (s.downFrame c).getD 0 / 2 ^ 32 % 2 ^ 16)

/-- CONTAINER_BUILD of a context in service with an upstream direction queues one container and advances its SEQ modulo
16; of any other context it does nothing. CONTAINER_RECEIVE takes the next container of the oldest fragment: a header
whose check fails ends the fragment and counts CHDR_ERR, one of a context that does not take it counts FRAG_BAD, one
8 or more behind its expected SEQ counts SEQ_ERR and is dropped, one in sequence is accepted. DESYNC_START starts the
play-out of a store filled to half; LOC_TIMEOUT loses the containers of the context; TRIB_RATE_SECOND writes only
context records and their alarms. (R199, R201, R202, R205, R207, R208, R211, R213) -/
def Obligations.TributaryContainers : Prop :=
  (∀ (ctx : Fin 1024) (e : Nat) (s : State), s.served ctx = some e → entUp e = true →
    ∃ u b, exec (.containerBuild ctx) s = .next ((u.setTrib ctx { u.trib ctx with seq := ((s.trib ctx).seq + 1) % 16 }).queueContainer ctx b) ∧
      PageEv [.tribs, .ttest, .fresh] [P.TRB] s u) ∧
  (∀ (ctx : Fin 1024) (s : State), s.served ctx = none → exec (.containerBuild ctx) s = .next s ∧
    exec (.desyncStart ctx) s = .next s ∧ exec (.locTimeout ctx) s = .next s ∧ exec (.hairpinByte ctx) s = .next s) ∧
  (∀ (c : Chan) (f : List Byte) (fs : List (List Byte)) (s : State), s.tfrags[c] = f :: fs →
    crc8 ((f.take 2).map byteBits).flatten ≠ f.getD 2 0 →
    ∃ t, exec (.containerReceive c) s = .next t ∧ FrameEv [.tfrags] [R.TRB_CNT_CHDR_ERR] s t ∧ t.tfrags = s.tfrags.set c fs ∧
      t.rd R.TRB_CNT_CHDR_ERR = s.rd R.TRB_CNT_CHDR_ERR + 1) ∧
  (∀ (c : Chan) (f : List Byte) (fs : List (List Byte)) (s : State), s.tfrags[c] = f :: fs → 3 ≤ f.length →
    crc8 ((f.take 2).map byteBits).flatten = f.getD 2 0 → 
    entClass (s.mapEntry (s.tribCopy (Fin.ofNat 1024 (ofBytesBE (f.take 2) / 64))) (ofBytesBE (f.take 2) / 64 % 1024)) ≤ 4 →
    entBytes (s.mapEntry (s.tribCopy (Fin.ofNat 1024 (ofBytesBE (f.take 2) / 64))) (ofBytesBE (f.take 2) / 64 % 1024)) ≤ f.length →
    s.served (Fin.ofNat 1024 (ofBytesBE (f.take 2) / 64)) = none →
    ∃ t, exec (.containerReceive c) s = .next t ∧ Frame [.tfrags] [R.TRB_CNT_FRAG_BAD] s t ∧
      t.rd R.TRB_CNT_FRAG_BAD = s.rd R.TRB_CNT_FRAG_BAD + 1) ∧
  (∀ (c : Chan) (f : List Byte) (fs : List (List Byte)) (ctx : Fin 1024) (e : Nat) (s : State), s.tfrags[c] = f :: fs → 3 ≤ f.length →
    crc8 ((f.take 2).map byteBits).flatten = f.getD 2 0 → ctx = Fin.ofNat 1024 (ofBytesBE (f.take 2) / 64) → s.served ctx = some e →
    s.mapEntry (s.tribCopy ctx) ctx.val = e → entClass e ≤ 4 → entBytes e ≤ f.length → entDown e = true → entChan e = c.val →
    ∃ u, Frame [.tfrags] [] s u ∧ u.tfrags = s.tfrags.set c (if f.drop (entBytes e) = [] then fs else f.drop (entBytes e) :: fs) ∧
      (∀ want, (s.trib ctx).expect = some want → 8 ≤ (ofBytesBE (f.take 2) / 4 % 16 + 16 - want) % 16 →
        exec (.containerReceive c) s = .next (u.bump (R.TRB_CNT_SEQ_ERR ctx.val))) ∧
      (((s.trib ctx).expect = none ∨ ∃ want, (s.trib ctx).expect = some want ∧ (ofBytesBE (f.take 2) / 4 % 16 + 16 - want) % 16 = 0) →
        exec (.containerReceive c) s = .next (u.acceptContainer ctx e (f.take (entBytes e)) (ofBytesBE (f.take 2) / 4 % 16)))) ∧
  (∀ (ctx : Fin 1024) (e : Nat) (bytes : List Byte) (seq : Nat) (s : State), PageEv [.tribs, .ttest, .timers, .fresh] [P.TRB] s (s.acceptContainer ctx e bytes seq)) ∧
  (∀ (ctx : Fin 1024) (e : Nat) (s : State), s.served ctx = some e → entDown e = true → (s.trib ctx).flowing = false → (s.trib ctx).loc = false →
    entNom e * entPeriods e ≤ 2 * (s.trib ctx).down.length →
    exec (.desyncStart ctx) s = .next { s with tribs := mapPut {} s.tribs ctx.val { s.trib ctx with flowing := true } }) ∧
  (∀ (ctx : Fin 1024) (e : Nat) (s : State), s.served ctx = some e → entDown e = true → s.running (T.loc ctx.val) = true →
    ∃ u, exec (.locTimeout ctx) s = .next (u.stopTimer (T.loc ctx.val)) ∧ u = s.tribSet ctx { s.trib ctx with loc := true, expect := none } ∧
      PageEv [.tribs] [P.TRB] s u) ∧
  (∀ (s : State), ∃ t, exec .tribRateSecond s = .next t ∧ PageEv [.tribs, .fresh] [P.TRB] s t)

/-- LANE_ROW_CHECK on a working tributary lane: a marker 0 in HUNT begins CHECK at row 0, a wrong marker in CHECK falls
back to HUNT, the 256th right marker reaches SYNC, in SYNC the fourth errored row in a row is a loss of sync, raised.
HAIRPIN_BYTE moves the next data byte with its mark; TRIB_ROW_TRANSMIT sends one row of sixteen slots with the row CRC
over them and the overhead byte, and advances its number modulo 256. TBL_DATA_WRITE is refused while the view is the active map, a copy runs or a group applies; TBL_COPY sets BUSY,
TBL_CHECK shows the lowest context in conflict. FRAME_SYNC_EDGE serves the class-4 contexts and drives the output if
it is enabled. Everything else is unchanged. (R206, R210, R219, R220, R222, R226, R228, R229) -/
def Obligations.TributaryRows : Prop :=
  (∀ (l : Fin 48) (r : RowIn) (s : State), r.slots.length = 16 → s.tribLane l = true → (s.rows[l]).st = .hunt → r.marker = 0 →
    exec (.laneRowCheck l r) s = .next { s with rows := s.rows.set l { s.rows[l] with st := .check, row := 0 } }) ∧
  (∀ (l : Fin 48) (r : RowIn) (s : State), r.slots.length = 16 → s.tribLane l = true → (s.rows[l]).st = .check →
    r.marker ≠ (if ((s.rows[l]).row + 1) % 256 = 0 then 0 else 1) →
    exec (.laneRowCheck l r) s = .next { s with rows := s.rows.set l { s.rows[l] with st := .hunt } }) ∧
  (∀ (l : Fin 48) (r : RowIn) (s : State), r.slots.length = 16 → s.tribLane l = true → (s.rows[l]).st = .check →
    ((s.rows[l]).row + 1) % 256 = 0 → r.marker = 0 →
    ∃ u, exec (.laneRowCheck l r) s = .next (u.laneUp l) ∧
      u = { s with rows := s.rows.set l { s.rows[l] with st := .sync, row := 0, run := 0, rdi := false } }) ∧
  (∀ (l : Fin 48) (r : RowIn) (s : State), r.slots.length = 16 → s.tribLane l = true → (s.rows[l]).st = .sync →
    (r.marker ≠ (if ((s.rows[l]).row + 1) % 256 = 0 then 0 else 1) ∨ rowGood r = false) → 3 ≤ (s.rows[l]).run → s.domOn 9 = true →
    ∃ u, exec (.laneRowCheck l r) s = .next ((u.laneLost l).fire P.TRB E.TRB_LANE_SYNC_LOSS) ∧
      u = { s with rows := s.rows.set l { s.rows[l] with st := .hunt, run := 0, rdi := true } }) ∧
  (∀ (ctx : Fin 1024) (e : Nat) (s : State), s.served ctx = some e → entDir e = 3 → s.domOn 9 = true →
    ((s.trib ctx).hin.takeWhile (fun ch => decide (ch = .mark))).length + 1 ≤ (s.trib ctx).hin.length →
    ∃ n, n = ((s.trib ctx).hin.takeWhile (fun ch => decide (ch = .mark))).length + 1 ∧
      exec (.hairpinByte ctx) s = .next { s with tribs := mapPut {} s.tribs ctx.val { s.trib ctx with hin := (s.trib ctx).hin.drop n, hout := (s.trib ctx).hout ++ (s.trib ctx).hin.take n } }) ∧
  (∀ (l : Fin 48) (s : State), s.tribLane l = true →
    ∃ u cs b, exec (.tribRowTransmit l) s = .next ((u.setRow l { u.rows[l] with txRow := ((s.rows[l]).txRow + 1) % 256 }).emit
        (.row l (s.rows[l]).txRow cs b (rowCrc cs b) (BitVec.ofNat 8 (b2n (s.rows[l]).rdi * 0x80)))) ∧
      PageEv [.tribs, .fresh] [P.TRB] s u ∧ cs.length = 16) ∧
  (∀ (r : Req) (v : Word) (s : State), Taken s r R.TRB_TBL_DATA_HI → s.bit F.TRB_TBL_ADDR_VIEW = false → s.bit F.TRB_TBL_STAT_BUSY = false →
    s.applying P.TRB = false →
    ∃ t, exec (.tblDataWrite r v) s = .next t ∧ Frame [.tmap, .resp] [R.TRB_TBL_ADDR, R.TRB_TBL_DATA_LO, R.TRB_TBL_DATA_HI, R.TRB_TBL_STAT] s t ∧
      t.resp = .done ∧ t.tmap = mapPut 0 s.tmap ((1 - s.fld F.TRB_MAP_CTL_ACTIVE) * 1024 + s.fld F.TRB_TBL_ADDR_CTX)
        ((s.rd R.TRB_TBL_DATA_LO).toNat + v.toNat % 2 ^ 18 * 2 ^ 32)) ∧
  (∀ (r : Req) (v : Word) (s : State), Taken s r R.TRB_TBL_DATA_HI → (s.bit F.TRB_TBL_ADDR_VIEW = true ∨ s.bit F.TRB_TBL_STAT_BUSY = true ∨
    s.applying P.TRB = true) → exec (.tblDataWrite r v) s = .next ((s.reply .done).refuse r R.TRB_TBL_DATA_HI)) ∧
  (∀ (r : Req) (v : Word) (s : State), Taken s r R.TRB_TBL_CMD →
    ∃ t, exec (.tblCopy r v) s = .next t ∧ Frame [.resp] [R.TRB_TBL_STAT] s t ∧ t.resp = .done ∧ t.bit F.TRB_TBL_STAT_BUSY = true) ∧
  (∀ (r : Req) (v : Word) (c : Nat) (s : State), Taken s r R.TRB_TBL_CMD →
    (List.range 1024).find? (fun c => s.mapConflict (1 - s.fld F.TRB_MAP_CTL_ACTIVE) c) = some c →
    ∃ t, exec (.tblCheck r v) s = .next t ∧ Frame [.resp] [R.TRB_TBL_STAT] s t ∧ t.resp = .done ∧ t.bit F.TRB_TBL_STAT_CONFLICT = true ∧
      t.fld F.TRB_TBL_STAT_CONFLICT_CTX = c) ∧
  (∀ (r : Req) (v : Word) (s : State), Taken s r R.TRB_TBL_CMD →
    (∀ c < 1024, s.mapConflict (1 - s.fld F.TRB_MAP_CTL_ACTIVE) c = false) →
    ∃ t, exec (.tblCheck r v) s = .next t ∧ Frame [.resp] [R.TRB_TBL_STAT] s t ∧ t.resp = .done ∧ t.bit F.TRB_TBL_STAT_CONFLICT = false) ∧
  (∀ (s : State), ∃ u, exec .frameSyncEdge s = .next (if s.bit F.TCL_OUT_CTL_FS_EN = true ∧ s.squelched = false ∧ s.domOn 32 = true then u.emit .frameSync else u) ∧
    PageEv [.tribs, .fresh] [P.TRB] s u ∧ ((∀ c e, s.served c = some e → entClass e ≠ 4) → u = s))

/-- For each of the fifteen message types: where the command's message is the one that stands in its slot with a good MCRC, is for the
terminal, repeats none within 2 ms, comes in a state that accepts it and has its values in range, the step completes: it counts
CNT_MSG_OK, records the message, does the type's action and sends the acknowledgement that the type has (none for
GRANT, SILENCE and EMERGENCY_STOP, STATUS for STATUS_REQ, after its job for KEY_BLOB). Recording changes only the
activation record and registers of page ACT. A message of a marked slot that fails MCRC counts in CNT_MSG_CRC, and one of an unknown type in
CNT_MSG_UNK, with MSG_ERR. A repeat changes only CNT_MSG_REP and what its answer queues. (R236, R237, R238, R240, R241, R242, R244,
R246, R257, R259, R262, R322) -/
def Obligations.ControlMessages : Prop :=
  (∀ (h : MsgHdr) (type : Nat) (s : State), PageEv [.act] [P.ACT] s (s.acted h type) ∧
    (s.acted h type).rd R.ACT_CNT_MSG_OK = s.rd R.ACT_CNT_MSG_OK + 1) ∧
  (∀ (h : MsgHdr) (b : ProfileBody) (s : State), s.carries h 0x01 (profileBytes b) = true → s.forUs h = true → s.repeatOf h 0x01 = none →
    notDark.contains s.act.st = true → profileOk b = true →
    exec (.profile h b) s = .next (((s.acted h 0x01).setProfile (msgChan h) b).sendAck h 0x01 0)) ∧
  (∀ (h : MsgHdr) (frame : BitVec 48) (start len : BitVec 16) (pre : BitVec 24) (chance draw : BitVec 8) (ofs : Nat) (s : State),
    s.carries h 0x02 (toBytesBE 6 frame.toNat ++ toBytesBE 2 start.toNat ++ toBytesBE 2 len.toNat ++ toBytesBE 3 pre.toNat ++ [chance]) = true →
    s.forUs h = true → s.repeatOf h 0x02 = none →
    (s.act.st = .announcing ∨ (s.act.st = .listening ∧ s.bit F.ACT_ACT_CTL_ANN_EN = true ∧
      ((s.act.ch[msgChan h]).prof.or (s.act.ch[msgChan h]).profNext).isSome = true)) →
    start.toNat ≤ 49999 → 0 < len.toNat → len.toNat ≤ 50000 → s.begunPre (msgChan h) pre.toNat frame.toNat = false →
    exec (.announceWindow h frame start len pre chance draw ofs) s = .next (((s.acted h 0x02).announce (msgChan h) frame.toNat start.toNat
      len.toNat pre.toNat chance.toNat draw.toNat ofs).sendAck h 0x02 0)) ∧
  (∀ (h : MsgHdr) (tid : BitVec 12) (s : State), s.carries h 0x03 (toBytesBE 8 s.serial.toNat ++ toBytesBE 2 tid.toNat) = true →
    s.forUs h = true → s.repeatOf h 0x03 = none → s.act.st = .announcing → tid ≠ 0xFFF →
    exec (.assignId h s.serial tid) s = .next (((s.acted h 0x03).takeId (msgChan h) tid).sendAck h 0x03 0)) ∧
  (∀ (h : MsgHdr) (serial : BitVec 64) (tid : BitVec 12) (s : State), serial ≠ s.serial → exec (.assignId h serial tid) s = .next s) ∧
  (∀ (h : MsgHdr) (frame : BitVec 48) (start : BitVec 16) (pre : BitVec 24) (s : State),
    s.carries h 0x04 (toBytesBE 6 frame.toNat ++ toBytesBE 2 start.toNat ++ toBytesBE 3 pre.toNat) = true → s.forUs h = true →
    s.repeatOf h 0x04 = none → inService.contains s.act.st = true → start.toNat ≤ 49999 → s.begunPre (msgChan h) pre.toNat frame.toNat = false →
    exec (.rangingGrant h frame start pre) s = .next (((s.acted h 0x04).rangeBurst (msgChan h) frame.toNat start.toNat pre.toNat).sendAck h 0x04 0)) ∧
  (∀ (h : MsgHdr) (eqd : BitVec 24) (frame : BitVec 48) (s : State), s.carries h 0x05 (toBytesBE 3 eqd.toNat ++ toBytesBE 6 frame.toNat) = true →
    s.forUs h = true → s.repeatOf h 0x05 = none → inService.contains s.act.st = true →
    exec (.setDelay h eqd frame) s = .next (((s.acted h 0x05).takeDelay (msgChan h) eqd.toNat frame.toNat).sendAck h 0x05 0)) ∧
  (∀ (h : MsgHdr) (es : List GrantEntry) (s : State), grantWf es = true →
    s.carries h 0x06 (es.map (fun e => toBytesBE 8 (entryNum e))).flatten = true → s.forUs h = true → s.repeatOf h 0x06 = none →
    s.act.st = .operating → h.param ≠ 0 → es.all entryOk = true →
    exec (.grant h es) s = .next (es.foldl (fun (u : State) e => u.insertEntry ((h.frame.toNat + h.param.toNat) % 2 ^ 48) e) (s.acted h 0x06))) ∧
  (∀ (h : MsgHdr) (b : MoveBody) (s : State), s.carries h 0x07 (moveBytes b) = true → s.forUs h = true → s.repeatOf h 0x07 = none →
    (s.act.st = .operating ∨ s.act.st = .holdover) → b.mode ≠ 3 →
    exec (.move h b) s = .next (((s.acted h 0x07).takeMove b).sendAck h 0x07 0)) ∧
  (∀ (h : MsgHdr) (s : State), s.carries h 0x08 [] = true → s.forUs h = true → s.repeatOf h 0x08 = none → inService.contains s.act.st = true →
    exec (.deactivate h) s = .next ((((((s.acted h 0x08).dropId).unrangeAll).go .listening).fire P.ACT E.ACT_DEACTIVATED).sendAck h 0x08 0)) ∧
  (∀ (h : MsgHdr) (b : SilBody) (s : State), s.forUs h = true → s.serialOk b = true →
    (s.carries h 0x09 (silBytes b) = true → s.repeatOf h 0x09 = none →
      exec (.silence h b) s = .next (if s.act.st = .silenced then s.acted h 0x09 else (s.acted h 0x09).silenceNow b.reason false)) ∧
    (s.carries h 0x0A (silBytes b) = true → s.repeatOf h 0x0A = none →
      exec (.emergencyStop h b) s = .next ((s.acted h 0x0A).silenceNow b.reason true)) ∧
    (s.carries h 0x0B (silBytes b) = true → s.repeatOf h 0x0B = none → s.act.st = .silenced →
      exec (.release h b) s = .next (((s.acted h 0x0B).releaseNow b.resume).sendAck h 0x0B 0))) ∧
  (∀ (h : MsgHdr) (frame sec : BitVec 48) (ns : BitVec 32) (s : State),
    s.carries h 0x0C (toBytesBE 6 frame.toNat ++ toBytesBE 6 sec.toNat ++ toBytesBE 4 ns.toNat) = true → s.forUs h = true →
    s.repeatOf h 0x0C = none → notDark.contains s.act.st = true → ns.toNat < 1000000000 →
    exec (.timeOfDay h frame sec ns) s = .next (((s.acted h 0x0C).todSample (msgChan h) h.frame.toNat frame.toNat sec.toNat ns.toNat).sendAck h 0x0C 0)) ∧
  (∀ (h : MsgHdr) (bytes : List Byte) (s : State), bytes.length = 40 → s.carries h 0x0D bytes = true → s.forUs h = true →
    s.repeatOf h 0x0D = none → inService.contains s.act.st = true →
    exec (.keyBlob h bytes) s = .next ((s.acted h 0x0D).queueJob ⟨.link (msgPair h) (h.param.getLsbD 2), bytes, some h⟩)) ∧
  (∀ (h : MsgHdr) (frame : BitVec 48) (s : State), s.carries h 0x0E (toBytesBE 6 frame.toNat) = true → s.forUs h = true →
    s.repeatOf h 0x0E = none → inService.contains s.act.st = true →
    (∀ k, s.pairFrame (msgPair h) = some k → frameGe k frame.toNat = false) →
    (natBit (s.fld F.LCK_LCK_CTL_LOCAL_ROLL) (msgChan h).val = true → exec (.keySwitch h frame) s = .next (s.sendAck h 0x0E 1)) ∧
    (natBit (s.fld F.LCK_LCK_CTL_LOCAL_ROLL) (msgChan h).val = false →
      exec (.keySwitch h frame) s = .next (((s.acted h 0x0E).orderRoll (msgPair h) ⟨h.param.getLsbD 2, frame.toNat, false⟩).sendAck h 0x0E 0))) ∧
  (∀ (h : MsgHdr) (s : State), s.carries h 0x0F [] = true → s.forUs h = true → s.repeatOf h 0x0F = none → inService.contains s.act.st = true →
    s.act.tid = some h.tid → exec (.statusReq h) s = .next ((s.acted h 0x0F).queueStatus 0)) ∧
  (∀ (h : MsgHdr) (x : SeqRec) (s : State), s.carries h 0x08 [] = true → s.forUs h = true → s.repeatOf h 0x08 = some x → x.result = some 0 →
    ∃ u, exec (.deactivate h) s = .next (u.sendAck h 0x08 0) ∧ Frame [] [R.ACT_CNT_MSG_REP] s u ∧ u.rd R.ACT_CNT_MSG_REP = s.rd R.ACT_CNT_MSG_REP + 1) ∧
  (∀ (h : MsgHdr) (s : State), s.carries h 0x08 [] = true → s.forUs h = true → s.repeatOf h 0x08 = none → inService.contains s.act.st = false →
    ∃ u, exec (.deactivate h) s = .next (u.sendAck h 0x08 1) ∧ Frame [] [R.ACT_CNT_MSG_STATE] s u ∧ u.rd R.ACT_CNT_MSG_STATE = s.rd R.ACT_CNT_MSG_STATE + 1) ∧
  (∀ (h : MsgHdr) (type : BitVec 8) (s : State), s.inSlot h = true → mcrcGood (s.slotBytes h) = false →
    ∃ t, exec (.controlMessageReject h type true) s = .next t ∧ FrameEv [] [R.ACT_CNT_MSG_CRC] s t ∧ t.rd R.ACT_CNT_MSG_CRC = s.rd R.ACT_CNT_MSG_CRC + 1 ∧
      (s.domOn 9 = true → Raised t P.ACT E.ACT_MSG_ERR)) ∧
  (∀ (h : MsgHdr) (type : BitVec 8) (s : State), s.carries h type.toNat [] = true → s.forUs h = true → (type = 0 ∨ 0x10 ≤ type.toNat) →
    exec (.controlMessageReject h type false) s = .next ((s.msgErr R.ACT_CNT_MSG_UNK).sendAck h type.toNat 2))

/-- ANNOUNCE_TIMEOUT in Announcing goes to Listening and counts; RANGING_TIMEOUT in Ranging drops the ID and goes to
Listening; LOSS_TIMEOUT in Operating with its timer running takes RANGED from every channel, leaves each its delay, and enters Holdover;
HOLD_TIMEOUT in Holdover drops the ID, unranges every channel and goes to Listening or Dark. In every other state each of them
changes nothing. A write of the serial outside Dark is refused. GUARD_TRIP sets the latch, cuts the burst, closes the window, discards
the grants, counts, raises GUARD_TRIP and queues a STATUS of cause 1; GUARD_CLR clears the latches that it names.
LOCAL_REL needs presence, and releases a Silenced terminal. (R232, R246, R251, R258, R262, R263, R264, R265, R267,
R268) -/
def Obligations.TerminalTimers : Prop :=
  (∀ s : State, s.act.st = .announcing → ∃ t, exec .announceTimeout s = .next t ∧ FrameEv [.act, .timers, .upb] [R.ACT_CNT_ANN_TO] s t ∧
    t.act.st = .listening ∧ t.rd R.ACT_CNT_ANN_TO = s.rd R.ACT_CNT_ANN_TO + 1 ∧ (s.domOn 9 = true → Raised t P.ACT E.ACT_ANN_TIMEOUT)) ∧
  (∀ s : State, s.act.st = .ranging → ∃ t, exec .rangingTimeout s = .next t ∧ FrameEv [.act, .timers, .upb, .pairs] [] s t ∧
    t.act.st = .listening ∧ (s.domOn 9 = true → Raised t P.ACT E.ACT_RANGE_TIMEOUT)) ∧
  (∀ s : State, s.act.st = .operating → s.running T.loss = true →
    exec .lossTimeout s = .next (s.loseAll.enterHold false (s.fld F.ACT_TMR_CFG1_HOLD_MS)) ∧
    (s.loseAll.enterHold false (s.fld F.ACT_TMR_CFG1_HOLD_MS)).act.st = .holdover ∧
    (s.loseAll.enterHold false (s.fld F.ACT_TMR_CFG1_HOLD_MS)).act.planned = false ∧
    ∀ c : Chan, ((s.loseAll.enterHold false (s.fld F.ACT_TMR_CFG1_HOLD_MS)).act.ch[c]).ranged = false ∧
      ((s.loseAll.enterHold false (s.fld F.ACT_TMR_CFG1_HOLD_MS)).act.ch[c]).eqd = (s.act.ch[c]).eqd) ∧
  (∀ s : State, s.act.st = .holdover → ∃ t, exec .holdTimeout s = .next t ∧
    t = (s.dropId.unrangeAll.go (if s.dropId.unrangeAll.anyEnabled then .listening else .dark)).fire P.ACT E.ACT_HOLD_EXPIRED ∧
    (t.act.st = .listening ∨ t.act.st = .dark)) ∧
  (∀ s : State, (s.act.st ≠ .announcing → exec .announceTimeout s = .next s) ∧ (s.act.st ≠ .ranging → exec .rangingTimeout s = .next s) ∧
    (s.act.st ≠ .operating → exec .lossTimeout s = .next s) ∧ (s.act.st ≠ .holdover → exec .holdTimeout s = .next s)) ∧
  (∀ (r : Req) (v : Word) (s : State), Taken s r R.ACT_ACT_CTL → s.bit F.ACT_ACT_CTL_EN = true →
    exec (.actDisable r v) s = .next (((s.reply .done).store R.ACT_ACT_CTL (v &&& ~~~1)).actOff) ∧
    ((s.reply .done).store R.ACT_ACT_CTL (v &&& ~~~1)).bit F.ACT_ACT_CTL_EN = false) ∧
  (∀ (r : Req) (hi : Bool) (v : Word) (s : State), Taken s r (if hi then R.ACT_SERIAL_HI else R.ACT_SERIAL_LO) →
    (s.act.st = .dark → ∃ t, exec (.serialWrite r hi v) s = .next t ∧
      Frame [.resp] [if hi then R.ACT_SERIAL_HI else R.ACT_SERIAL_LO] s t ∧ t.resp = .done ∧
      t.rd (if hi then R.ACT_SERIAL_HI else R.ACT_SERIAL_LO) = v) ∧
    (s.act.st ≠ .dark → exec (.serialWrite r hi v) s = .next ((s.reply .done).refuse r (if hi then R.ACT_SERIAL_HI else R.ACT_SERIAL_LO)))) ∧
  (∀ (r : Req) (v : Word) (s : State), Taken s r R.ACT_LOCAL_REL → s.isDelegate r = false → s.own.presWin = true →
    (s.act.st = .silenced → exec (.localRel r v) s = .next ((s.reply .done).releaseNow false)) ∧
    (s.act.st ≠ .silenced → exec (.localRel r v) s = .next (s.reply .done))) ∧
  (∀ (c : Chan) (s : State), ∃ u, exec (.guardTrip c) s = .next ((((u.discardGrants c).bump R.ACT_CNT_GUARD).fire P.ACT E.ACT_GUARD_TRIP).queueStatus 1) ∧
    FrameEv [.act, .upb, .restarts, .txEff, .fresh, .out] [R.UPB_CNT_WORDS_LO c.val, R.UPB_CNT_WORDS_HI c.val, R.UPB_CNT_RESTART c.val] s u ∧
    u.act = { s.act with ch := s.act.ch.set c { s.act.ch[c] with trip := true } } ∧ (u.upb[c]).cur = none ∧ (u.upb[c]).wins = []) ∧
  (∀ (c : Chan) (s : State), ∃ u, exec (.guardFbTrip c) s = .next ((((u.discardGrants c).bump R.ACT_CNT_GUARD).fire P.ACT E.ACT_GUARD_TRIP).queueStatus 1) ∧
    FrameEv [.act, .upb, .restarts, .txEff, .fresh, .out] [R.UPB_CNT_WORDS_LO c.val, R.UPB_CNT_WORDS_HI c.val, R.UPB_CNT_RESTART c.val] s u ∧
    u.act = { s.act with ch := s.act.ch.set c { s.act.ch[c] with trip := true, fb := true } } ∧ (u.upb[c]).cur = none ∧ (u.upb[c]).wins = []) ∧
  (∀ (r : Req) (v : Word) (s : State), Taken s r R.ACT_GUARD_CMD → getField v 0 4 = 0 ∨ s.act.st ≠ .silenced → getField v 8 4 = 0 →
    ∃ t, exec (.guardClr r v) s = .next t ∧ exec (.guardTest r v) s = .next t ∧ Frame [.act, .resp] [] s t ∧ t.resp = .done ∧
      ∀ c : Chan, (t.act.ch[c]).trip = ((s.act.ch[c]).trip && !v.getLsbD c.val)) ∧
  (∀ (r : Req) (c : Chan) (s : State), Taken s r R.ACT_GUARD_CMD → s.txDisable c = true →
    exec (.guardTest r (BitVec.ofNat 32 (2 ^ (8 + c.val)))) s = .next ((s.reply .done).tripGuard c false))

/-- UPSTREAM_FRAME_START of a channel whose NCO runs, with no delay waiting, begins the frame: FRAG_IDX restarts and grants of past frames
go; with the NCO off it does nothing. BURST_FIX of an empty table does nothing; it fixes a burst of R254 with the long preamble, skips a burst
that would run past a new delay, and fixes the content of any other. BURST_START takes the first of the bursts that are fixed: one that may
not be sent or is displaced goes, one displaced is counted; any other becomes the burst in progress with its window, its header and its
key, and is counted. BURST_END closes the first window, and with the last window the words of the burst are over: its levels leave. A
fragment place without a key, or with the engines off, becomes an idle fragment; one with room for the packet's rest sends it.
PACKET_RELEASE releases the oldest sent packet; GS_SELECT takes a restarted packet first, and nothing in Holdover or with the Seam not up.
GSM_DATA writes the shadow map or is refused; a test pattern is refused where the terminal is active and begins elsewhere. (R252, R270,
R276, R277, R287, R291, R293, R294, R296, R299, R301, R302) -/
def Obligations.UpstreamBursts : Prop :=
  (∀ (c : Chan) (k : Nat) (s : State), s.ncoOn c = true → (s.act.ch[c]).eqdNext = none → s.frameAt c (s.act.ch[c]).eqd = some k →
    ∃ t, exec (.upstreamFrameStart c) s = .next t ∧ t = s.beginFrame c k ∧
      (t.upb[c]).frame = some k ∧ (t.upb[c]).idx = 0 ∧ (t.upb[c]).gt = (s.upb[c]).gt.filter (s.covers c k) ∧
      (t.upb[c]).fixed = (s.upb[c]).fixed.filter (fun b => s.covers c k b.g)) ∧
  (∀ (c : Chan) (s : State), (s.ncoOn c = false ∨ s.downFrame c = none) → exec (.upstreamFrameStart c) s = .next s) ∧
  (∀ (c : Chan) (g : Grant) (gs : List Grant) (p : ProfileBody) (s : State), (s.upb[c]).gt = g :: gs →
    s.profileFor c g.frame = some p → g.kind ≠ .data →
    ∃ t b, exec (.burstFix c) s = .next t ∧ Frame [.upb] [] s t ∧
      t.upb = s.upb.set c { s.upb[c] with gt := gs, fixed := (s.upb[c]).fixed ++ [b] } ∧ b.g.frame = g.frame ∧
      b.g.e.len = 4 * p.preWords.toNat + 8 ∧ b.h.long = true ∧ b.key = none) ∧
  (∀ (c : Chan) (g : Grant) (gs : List Grant) (p : ProfileBody) (s : State), (s.upb[c]).gt = g :: gs →
    s.profileFor c g.frame = some p → g.kind = .data → preWords p g.e.longPre + 5 ≤ g.e.len →
    (s.pastDelay c g = false → exec (.burstFix c) s = .next ((s.setUpb c { s.upb[c] with gt := gs }).fixData c g p)) ∧
    (s.pastDelay c g = true → exec (.burstFix c) s = .next ((s.setUpb c { s.upb[c] with gt := gs }).skipBurst c))) ∧
  (∀ (c : Chan) (s : State), ((s.upb[c]).gt = [] → exec (.burstFix c) s = .next s) ∧ ((s.upb[c]).fixed = [] → exec (.burstStart c) s = .next s) ∧
    ((s.upb[c]).sent = [] → exec (.packetRelease c) s = .next s) ∧
    (∀ n, (s.upb[c]).cur = none → exec (.packetFragmentStart c n) s = .next s)) ∧
  (∀ (c : Chan) (b : Burst) (bs : List Burst) (s : State), (s.upb[c]).fixed = b :: bs → s.mayTx c (decide (b.g.kind = .data)) = true →
    s.displaced c b.g = false → (b.g.kind = .data → s.pastDelay c b.g = false) →
    ∃ t b', exec (.burstStart c) s = .next t ∧ (t.upb[c]).fixed = bs ∧ (t.upb[c]).cur = some b' ∧ b'.g = b.g ∧ b'.h = b.h ∧
      b'.key = s.startKey c b.key ∧ b'.stream = b'.opening c ∧ (b.g.kind = .data → b'.msgs.length = b.msgs.length) ∧
      (t.upb[c]).wins = (s.upb[c]).wins ++ [b.window] ∧ .burst c b.h b.g.e.start b.g.e.len ∈ t.out ∧
      ((s.upb[c]).gt ≠ [] → (s.upb[c]).cur = none → FrameEv [.upb, .act] [R.UPB_CNT_BURST c.val, R.ACT_CNT_ANN] s t ∧
        t.rd (R.UPB_CNT_BURST c.val) = s.rd (R.UPB_CNT_BURST c.val) + 1)) ∧
  (∀ (c : Chan) (b : Burst) (bs : List Burst) (s : State), (s.upb[c]).fixed = b :: bs →
    (s.mayTx c (decide (b.g.kind = .data)) = false →
      exec (.burstStart c) s = .next (((s.setUpb c { s.upb[c] with fixed := bs }).gsmIdle c).unfix b)) ∧
    (s.mayTx c (decide (b.g.kind = .data)) = true → s.displaced c b.g = true ∨ (b.g.kind = .data ∧ s.pastDelay c b.g = true) →
      exec (.burstStart c) s = .next ((((s.setUpb c { s.upb[c] with fixed := bs }).gsmIdle c).unfix b).skipBurst c))) ∧
  (∀ (c : Chan) (s : State), 1 < (s.upb[c]).wins.length →
    exec (.burstEnd c) s = .next (s.setUpb c { s.upb[c] with wins := (s.upb[c]).wins.drop 1 })) ∧
  (∀ (c : Chan) (b : Burst) (s : State), (s.upb[c]).wins.length ≤ 1 → (s.upb[c]).cur = some b →
    ∃ t u, exec (.burstEnd c) s = .next t ∧ (t.upb[c]).cur = none ∧ (t.upb[c]).wins = [] ∧
      t = (let w := (u.releaseAll c (s.upb[c]).sent.length).txSettle c; w.setUpb c { w.upb[c] with wins := [] }) ∧
      FrameEv [.upb] [R.UPB_CNT_WORDS_LO c.val, R.UPB_CNT_WORDS_HI c.val] s u ∧ u.upb = s.upb.set c { s.upb[c] with cur := none } ∧
      u.out.head? = some (.levels c (s.levelsFor c b))) ∧
  (∀ (c : Chan) (b : Burst) (n : Nat) (s : State), (s.upb[c]).cur = some b → (b.key = none ∨ s.bit F.LCK_LCK_CTL_EN = false) →
    (b.room < 8 → exec (.packetFragmentStart c n) s = .next s) ∧
    (8 ≤ b.room → ∃ t, exec (.packetFragmentStart c n) s = .next t ∧ Frame [.upb, .out] [] s t ∧ t.out = .idleFragment c :: s.out ∧
      t.upb = s.upb.set c { s.upb[c] with cur := some { b with room := b.room - 8, stream := b.stream ++ fragWord 0 b.h.tid 0 0 none false false } })) ∧
  (∀ (c : Chan) (b : Burst) (i : Bool) (key : List Byte) (p : Pulled) (n : Nat) (s : State), (s.upb[c]).cur = some b →
    b.key = some (i, key) → s.bit F.LCK_LCK_CTL_EN = true →
    (((s.upb[c]).pulled.filter (fun p => decide (p.gs = b.g.e.gs))).find? (fun p => decide (0 < p.sent))).or
      ((s.upb[c]).pulled.filter (fun p => decide (p.gs = b.g.e.gs))).head? = some p →
    p.pkt.len - p.sent ≤ n → 0 < p.pkt.len - p.sent → p.pkt.len - p.sent ≤ 4079 → p.pkt.len - p.sent + 24 ≤ b.room →
    exec (.packetFragmentStart c n) s = .next (s.sendFragment c b i key p (p.pkt.len - p.sent))) ∧
  (∀ (c : Chan) (p : Pulled) (ps : List Pulled) (s : State), (s.upb[c]).sent = p :: ps →
    exec (.packetRelease c) s = .next (((s.setUpb c { s.upb[c] with sent := ps }).sentFrom p.pkt).bump (R.UPB_CNT_PKT c.val))) ∧
  (∀ (c : Chan) (s : State), (s.pulling c = none ∨ s.act.st = .holdover ∨ s.seam.phase ≠ .up → exec (.gsSelect c) s = .next s) ∧
    (∀ b p, s.pulling c = some b → s.act.st ≠ .holdover → s.seam.phase = .up →
      s.restarts.find? (fun p => decide (p.1 = b.g.e.gs) && !b.barred.contains p.2.id) = some p →
      ∃ t, exec (.gsSelect c) s = .next t ∧ Frame [.upb, .restarts] [] s t ∧ t.restarts = s.restarts.erase p) ∧
    (∀ b, s.pulling c = some b → s.act.st ≠ .holdover → s.seam.phase = .up → exec (.gsSelect c) s = .next (s.selectFor c b))) ∧
  (∀ (r : Req) (v : Word) (s : State), Taken s r R.UPB_GSM_DATA →
    (s.bit F.UPB_GSM_ADDR_VIEW = false → s.bit F.UPB_GSM_STAT_BUSY = false → s.applying P.UPB = false →
      ∃ t, exec (.gsmDataWrite r v) s = .next t ∧ Frame [.gsm, .resp] [R.UPB_GSM_ADDR, R.UPB_GSM_DATA, R.UPB_GSM_STAT] s t ∧ t.resp = .done ∧
        t.gsm = mapPut 0 s.gsm ((1 - s.fld F.UPB_GSM_CTL_ACTIVE) * 2 ^ 13 + s.fld F.UPB_GSM_ADDR_QUEUE) (getField v 0 10 + getField v 15 1 * 2 ^ 15)) ∧
    (s.bit F.UPB_GSM_ADDR_VIEW = true ∨ s.bit F.UPB_GSM_STAT_BUSY = true ∨ s.applying P.UPB = true →
      exec (.gsmDataWrite r v) s = .next ((s.reply .done).refuse r R.UPB_GSM_DATA))) ∧
  (∀ (r : Req) (v : Word) (s : State), Taken s r R.UPB_GSM_CMD →
    ∃ t, exec (.gsmCopy r v) s = .next t ∧ Frame [.resp] [R.UPB_GSM_STAT] s t ∧ t.resp = .done ∧ t.bit F.UPB_GSM_STAT_BUSY = true) ∧
  (∀ (r : Req) (c : Chan) (fir : Bool) (v : Word) (s : State), Taken s r (if fir then R.LTX_TX_FIR c.val else R.LTX_TX_CTL c.val) →
    ∃ t, exec (.txConfigWrite r c fir v) s = .next t ∧ Frame [.resp, .txEff] [if fir then R.LTX_TX_FIR c.val else R.LTX_TX_CTL c.val] s t ∧
      t.resp = .done ∧ t.txEff = (if (s.upb[c]).cur.isSome then s.txEff else
        s.txEff.set c ⟨t.rd (R.LTX_TX_CTL c.val), t.rd (R.LTX_TX_FIR c.val)⟩)) ∧
  (∀ (r : Req) (c : Chan) (v : Word) (s : State), Taken s r (R.LTX_TX_TEST c.val) →
    (getField v 0 2 = 0 → exec (.txTestWrite r c v) s = .next ((s.reply .done).store (R.LTX_TX_TEST c.val) v)) ∧
    (getField v 0 2 ≠ 0 → s.act.st = .dark ∨ s.act.st = .listening ∨ s.act.st = .silenced →
      exec (.txTestWrite r c v) s = .next (((s.reply .done).store (R.LTX_TX_TEST c.val) v).testOn c (getField v 0 2))) ∧
    (getField v 0 2 ≠ 0 → s.act.st ∈ [.announcing, .ranging, .operating, .holdover] →
      exec (.txTestWrite r c v) s = .next ((s.reply .done).refuse r (R.LTX_TX_TEST c.val))))

/-- UNWRAP_JOB_COMPLETE of the job at the head, not while it programs a fuse, ends it with result 6 in a lockout, 7
without entropy, 2 for the reserved target, 1 for a wrong ICV, 2 for a wrong length. A link key then loads into
its index, or the job ends with 4 if that is ACTIVE; a memory key becomes the next key, or the job ends with 10 while a pass runs and 11 for
equal halves; a wrapping key starts the programming of a fuse slot, or the job ends with 8 without a free slot and 9 in a power failure.
Ending a job takes it off the queue and changes only the key engine, the
message queue, the lockout timer and the registers that count it. The three key commands queue a job with the blob
unless the owner's job is still there; the wrapping-key command needs presence. FUSE_PROGRAM_DONE programs the first
free slot or marks it bad; LOCKOUT_END doubles the next lockout; an entropy failure is noted; a pair, or every pair,
is erased, with the key that a burst uses; the unwrap lock sets, and locked countermeasures may not be weakened. (R312, R317, R318, R328,
R329, R330, R331, R332, R334, R336) -/
def Obligations.KeysAndUnwrap : Prop :=
  (∀ (j : KeyJob) (js : List KeyJob) (icv len : Bool) (key : List Byte) (s : State), s.key.jobs = j :: js → s.key.fusing = false →
    j.unwrap s.wrapKey = (icv, len, key) →
    (s.key.locked = true → exec .unwrapJobComplete s = .next (s.jobEnd j 6)) ∧
    (s.key.locked = false → s.key.entropy = false → exec .unwrapJobComplete s = .next (s.jobEnd j 7)) ∧
    (s.key.locked = false → s.key.entropy = true → j.target = .reserved → exec .unwrapJobComplete s = .next (s.jobEnd j 2)) ∧
    (s.key.locked = false → s.key.entropy = true → j.target ≠ .reserved → icv = false →
      exec .unwrapJobComplete s = .next (s.jobEnd j 1)) ∧
    (s.key.locked = false → s.key.entropy = true → j.target ≠ .reserved → icv = true → len = false →
      exec .unwrapJobComplete s = .next (s.jobEnd j 2)) ∧
    (s.key.locked = false → s.key.entropy = true → icv = true → len = true →
      (∀ n i, j.target = .link n i → ((s.pair n).slot i).st = .active → exec .unwrapJobComplete s = .next (s.jobEnd j 4)) ∧
      (j.target = .memory → s.mxe.running = true → exec .unwrapJobComplete s = .next (s.jobEnd j 10)) ∧
      (j.target = .memory → s.mxe.running = false → key.take 32 = key.drop 32 → exec .unwrapJobComplete s = .next (s.jobEnd j 11)) ∧
      (j.target = .memory → s.mxe.running = false → key.take 32 ≠ key.drop 32 → ∃ u, exec .unwrapJobComplete s = .next (u.jobEnd j 0) ∧
        FrameEv [.mxe] [] s u ∧ u.mxe = { s.mxe with next := some (key.take 32, key.drop 32), nextWrap := true }) ∧
      (j.target = .wrap → s.key.freeSlot = none → exec .unwrapJobComplete s = .next ((s.jobEnd j 8).fire P.KEY E.KEY_INSTALL_FAIL)) ∧
      (j.target = .wrap → s.key.freeSlot ≠ none → s.log.pf = true →
        exec .unwrapJobComplete s = .next ((s.jobEnd j 9).fire P.KEY E.KEY_INSTALL_FAIL)) ∧
      (j.target = .wrap → s.key.freeSlot ≠ none → s.log.pf = false →
        exec .unwrapJobComplete s = .next (s.setKey (fun k => { k with fusing := true, newKey := key }))))) ∧
  (∀ s : State, (s.key.jobs = [] ∨ s.key.fusing = true) → exec .unwrapJobComplete s = .next s) ∧
  (∀ (j : KeyJob) (js : List KeyJob) (n : Fin 8) (i : Bool) (key : List Byte) (s : State), s.key.jobs = j :: js → s.key.fusing = false →
    s.key.locked = false → s.key.entropy = true → j.target = .link n i → j.unwrap s.wrapKey = (true, true, key) →
    ((s.pair n).slot i).st = .empty → ((s.pair n).k0.cv ≠ Config.keyCheck key ∨ (s.pair n).k0.st = .empty) →
    ((s.pair n).k1.cv ≠ Config.keyCheck key ∨ (s.pair n).k1.st = .empty) → (s.pair n).hist.contains (Config.keyCheck key) = false →
      ∃ u, exec .unwrapJobComplete s = .next (u.jobEnd j 0) ∧ Frame [.pairs] [] s u ∧
        u.pair n = (s.pair n).setSlot i { st := .loaded, key := key, cv := Config.keyCheck key }) ∧
  (∀ (j : KeyJob) (result : Nat) (s : State), FrameEv [.key, .act, .timers] [R.KEY_CNT_UNWRAP_OK, R.KEY_CNT_UNWRAP_FAIL, R.KEY_CNT_DUP_KEY, R.KEY_KEY_JOB,
      R.ACT_CNT_UMSG_DROP] s (s.jobEnd j result) ∧ (s.jobEnd j result).key.jobs = s.key.jobs.tail ∧
    (result = 0 → (s.jobEnd j result).rd R.KEY_CNT_UNWRAP_OK = s.rd R.KEY_CNT_UNWRAP_OK + 1) ∧
    (result = 1 ∨ result = 2 → (s.jobEnd j result).rd R.KEY_CNT_UNWRAP_FAIL = s.rd R.KEY_CNT_UNWRAP_FAIL + 1) ∧
    (result = 3 → (s.jobEnd j result).rd R.KEY_CNT_DUP_KEY = s.rd R.KEY_CNT_DUP_KEY + 1)) ∧
  (∀ (r : Req) (v : Word) (s : State), Taken s r R.KEY_KEY_CMD → 
    (s.key.busy = true → exec (.keyCmdLink r v) s = .next ((s.reply .done).refuse r R.KEY_KEY_CMD) ∧
      exec (.keyCmdMemory r v) s = .next ((s.reply .done).refuse r R.KEY_KEY_CMD)) ∧
    (s.key.busy = false → s.key.jobs.length < 8 →
      (∃ t n i, exec (.keyCmdLink r v) s = .next t ∧ Frame [.key, .resp] [] s t ∧ t.resp = .done ∧
        t.key.jobs = s.key.jobs ++ [⟨.link n i, s.blobBytes, none⟩]) ∧
      (∃ t, exec (.keyCmdMemory r v) s = .next t ∧ Frame [.key, .resp] [] s t ∧ t.resp = .done ∧
        t.key.jobs = s.key.jobs ++ [⟨.memory, s.blobBytes, none⟩]))) ∧
  (∀ (r : Req) (v : Word) (s : State), Taken s r R.KEY_KEY_CMD → s.isDelegate r = false → s.own.presWin = true → s.key.busy = false →
    s.key.jobs.length < 8 → ∃ t, exec (.keyCmdWrap r v) s = .next t ∧ Frame [.key, .resp] [] s t ∧ t.resp = .done ∧
        t.key.jobs = s.key.jobs ++ [⟨.wrap, s.blobBytes, none⟩]) ∧
  (∀ (j : KeyJob) (js : List KeyJob) (i : Nat) (s : State), s.key.jobs = j :: js → s.key.freeSlot = some i → s.key.fusing = true →
    (∃ u, exec (.fuseProgramDone true) s = .next (u.jobEnd j 0) ∧ FrameEv [.key] [R.KEY_CNT_INSTALL] s u ∧
      u.key = { s.key with fused := s.key.fused ||| BitVec.ofNat 8 (2 ^ i), wraps := mapIns s.key.wraps i s.key.newKey } ∧ u.rd R.KEY_CNT_INSTALL = s.rd R.KEY_CNT_INSTALL + 1) ∧
    (∃ u, exec (.fuseProgramDone false) s = .next ((u.jobEnd j 9).fire P.KEY E.KEY_INSTALL_FAIL) ∧ Frame [.key] [] s u ∧
      u.key = { s.key with bad := s.key.bad ||| BitVec.ofNat 8 (2 ^ i) })) ∧
  (∀ s : State, (s.key.locked = true → ∃ t, exec .lockoutEnd s = .next t ∧ Frame [.key, .timers] [] s t ∧
      t.key = { s.key with locked := false, backoff := min 1024 (2 * s.key.backoff) } ∧ t.running T.lockout = false) ∧
    (s.key.locked = false → exec .lockoutEnd s = .next s)) ∧
  (∀ s : State, exec (.entropyTestFail true) s = .next { s with mxe := { s.mxe with entropyOk := false } } ∧
    (∃ t, exec (.entropyTestFail false) s = .next t ∧ FrameEv [.key] [] s t ∧ t.key = { s.key with entropy := false } ∧
      (s.domOn (domainOf (R.HDR_EVT_RAW P.KEY)) = true → Raised t P.KEY E.KEY_ENTROPY_FAIL))) ∧
  (∀ (r : Req) (pairs : BitVec 8) (s : State), Taken s r R.LCK_KEY_ERASE →
    (∃ t, exec (.keyErasePair r pairs) s = .next t ∧ Frame [.pairs, .upb, .resp] [] s t ∧ t.resp = .done ∧
      ∀ n : Fin 8, t.pair n = if pairs.getLsbD n.val then { s.pair n with k0 := {}, k1 := {}, hist := [], old := none } else s.pair n) ∧
    (∃ t, exec (.keyEraseAll r) s = .next t ∧ Frame [.pairs, .upb, .resp] [] s t ∧ t.resp = .done ∧
      ∀ n : Fin 8, t.pair n = { s.pair n with k0 := {}, k1 := {}, hist := [], old := none })) ∧
  (∀ (r : Req) (v : Word) (s : State), 
    (Taken s r R.KEY_UNW_LOCK → ∃ t, exec (.unwLock r) s = .next t ∧ Frame [.resp] [R.KEY_UNW_LOCK] s t ∧ t.bit F.KEY_UNW_LOCK_LOCK = true) ∧
    (Taken s r R.KEY_UNW_CFG → s.bit F.KEY_UNW_LOCK_LOCK = false → exec (.unwCfgWrite r v) s = .next ((s.reply .done).store R.KEY_UNW_CFG v)) ∧
    (Taken s r R.KEY_UNW_CFG → s.bit F.KEY_UNW_LOCK_LOCK = true → v.getLsbD F.KEY_UNW_CFG_SHUFFLE.lo = false → s.fld F.KEY_UNW_CFG_SHUFFLE = 1 →
      exec (.unwCfgWrite r v) s = .next ((s.reply .done).refuse r R.KEY_UNW_CFG)))

/-- For an engine that runs a program for a packet, with its step budget not used up and the word at its PC of the
instruction's opcode: NOP, LDI, ADDI, ADD, ANDI, SHL, SHR and FLAG complete and change the named register or flag; LD
and LDM load it; a jump whose condition holds goes to its target, or faults with cause 3 below 64; one whose
condition fails goes on; EXT and KST write the key or fault with cause 5; HDR notes the header and moves past it,
ends the packet, or faults with cause 4; LCHK checks the room; DONE and MAL end the packet; an opcode of 20 or more
faults with cause 1. Nothing but the pipeline's packets changes while the packet goes on. With no program running in
the engine every one of them changes nothing. (R345, R346, R347, R348, R349, R350, R351, R352, R356) -/
def Obligations.ParseInstructions : Prop :=
  (∀ (e : Fin 128) (p : Fin 4) (k : Pkt) (g : Engine) (w : Word) (s : State), Fetches s e 0x00 p k g w →
    ∃ t, exec (.nop e) s = .next t ∧ Frame [.pipes] [] s t ∧ t = s.setSlotOf p ⟨k, .engine (advanced g)⟩) ∧
  (∀ (e : Fin 128) (p : Fin 4) (k : Pkt) (g : Engine) (w : Word) (s : State), Fetches s e 0x02 p k g w →
    ∃ t, exec (.ldi e) s = .next t ∧ Frame [.pipes] [] s t ∧ t = s.setSlotOf p ⟨k, .engine ((advanced g).setReg (insX w) (insImm w))⟩) ∧
  (∀ (e : Fin 128) (p : Fin 4) (k : Pkt) (g : Engine) (w : Word) (s : State), Fetches s e 0x04 p k g w →
    ∃ t, exec (.addi e) s = .next t ∧ Frame [.pipes] [] s t ∧ t = s.setSlotOf p ⟨k, .engine ((advanced g).setReg (insX w) (g.reg (insX w) + insImm w))⟩) ∧
  (∀ (e : Fin 128) (p : Fin 4) (k : Pkt) (g : Engine) (w : Word) (s : State), Fetches s e 0x05 p k g w →
    ∃ t, exec (.add e) s = .next t ∧ Frame [.pipes] [] s t ∧ t = s.setSlotOf p ⟨k, .engine ((advanced g).setReg (insX w) (g.a + g.b))⟩) ∧
  (∀ (e : Fin 128) (p : Fin 4) (k : Pkt) (g : Engine) (w : Word) (s : State), Fetches s e 0x06 p k g w →
    ∃ t, exec (.andi e) s = .next t ∧ Frame [.pipes] [] s t ∧ t = s.setSlotOf p ⟨k, .engine ((advanced g).setReg (insX w) (g.reg (insX w) &&& insImm w))⟩) ∧
  (∀ (e : Fin 128) (p : Fin 4) (k : Pkt) (g : Engine) (w : Word) (s : State), Fetches s e 0x07 p k g w →
    ∃ t, exec (.shl e) s = .next t ∧ Frame [.pipes] [] s t ∧ t = s.setSlotOf p ⟨k, .engine ((advanced g).setReg (insX w) (g.reg (insX w) <<< getField w 0 4))⟩) ∧
  (∀ (e : Fin 128) (p : Fin 4) (k : Pkt) (g : Engine) (w : Word) (s : State), Fetches s e 0x08 p k g w →
    ∃ t, exec (.shr e) s = .next t ∧ Frame [.pipes] [] s t ∧ t = s.setSlotOf p ⟨k, .engine ((advanced g).setReg (insX w) (g.reg (insX w) >>> getField w 0 4))⟩) ∧
  (∀ (e : Fin 128) (p : Fin 4) (k : Pkt) (g : Engine) (w : Word) (s : State), Fetches s e 0x11 p k g w →
    ∃ t, exec (.flag e) s = .next t ∧ Frame [.pipes] [] s t ∧ t = s.setSlotOf p ⟨{ k with pf := k.pf ||| BitVec.ofNat 4 (2 ^ getField w 0 2) }, .engine (advanced g)⟩) ∧
  (∀ (e : Fin 128) (p : Fin 4) (k : Pkt) (g : Engine) (w : Word) (s : State), Fetches s e 0x01 p k g w →
    windowEnd k (g.c + getField w 18 8) ((getField w 15 3 + getField w 11 4) / 8 + 1) = none →
    ∃ t, exec (.ld e) s = .next t ∧ Frame [.pipes] [] s t ∧ t = s.setSlotOf p ⟨k, .engine ((advanced g).setReg (insX w) (BitVec.ofNat 16 (ofBytesBE (k.bytes (g.c + getField w 18 8) ((getField w 15 3 + getField w 11 4) / 8 + 1)) / 2 ^ (8 * ((getField w 15 3 + getField w 11 4) / 8 + 1) - getField w 15 3 - (getField w 11 4 + 1)) % 2 ^ (getField w 11 4 + 1))))⟩) ∧
  (∀ (e : Fin 128) (p : Fin 4) (k : Pkt) (g : Engine) (w : Word) (s : State), Fetches s e 0x01 p k g w →
    (k.l ≤ g.c + getField w 18 8 → exec (.ld e) s = .next (s.parseMal p k)) ∧
    (256 ≤ g.c + getField w 18 8 → g.c + getField w 18 8 < k.l → exec (.ld e) s = .next (s.parseEnd p { k with deep := true } true))) ∧
  (∀ (e : Fin 128) (p : Fin 4) (k : Pkt) (g : Engine) (w : Word) (s : State), Fetches s e 0x03 p k g w →
    (getField w 0 3 ≤ 5 → ∃ t, exec (.ldm e) s = .next t ∧ Frame [.pipes] [] s t ∧
      t = s.setSlotOf p ⟨k, .engine ((advanced g).setReg (insX w) (BitVec.ofNat 16 ([k.src, k.pass, k.l, g.c, g.e, g.h].getD (getField w 0 3) 0)))⟩) ∧
    (5 < getField w 0 3 → exec (.ldm e) s = .next (s.parseFault p k 1 g.pc))) ∧
  (∀ (e : Fin 128) (p : Fin 4) (k : Pkt) (g : Engine) (w : Word) (s : State), Fetches s e 0x09 p k g w →
    (¬ (g.reg (insX w) = insImm w) → ∃ t, exec (.jeq e) s = .next t ∧ Frame [.pipes] [] s t ∧ t = s.setSlotOf p ⟨k, .engine (advanced g)⟩) ∧
    (g.reg (insX w) = insImm w → 64 ≤ getField w 16 10 → ∃ t, exec (.jeq e) s = .next t ∧ Frame [.pipes] [] s t ∧
      t = s.setSlotOf p ⟨k, .engine { advanced g with pc := getField w 16 10 }⟩) ∧
    (g.reg (insX w) = insImm w → getField w 16 10 < 64 → exec (.jeq e) s = .next (s.parseFault p k 3 g.pc))) ∧
  (∀ (e : Fin 128) (p : Fin 4) (k : Pkt) (g : Engine) (w : Word) (s : State), Fetches s e 0x0A p k g w →
    (¬ (g.reg (insX w) ≠ insImm w) → ∃ t, exec (.jne e) s = .next t ∧ Frame [.pipes] [] s t ∧ t = s.setSlotOf p ⟨k, .engine (advanced g)⟩) ∧
    (g.reg (insX w) ≠ insImm w → 64 ≤ getField w 16 10 → ∃ t, exec (.jne e) s = .next t ∧ Frame [.pipes] [] s t ∧
      t = s.setSlotOf p ⟨k, .engine { advanced g with pc := getField w 16 10 }⟩) ∧
    (g.reg (insX w) ≠ insImm w → getField w 16 10 < 64 → exec (.jne e) s = .next (s.parseFault p k 3 g.pc))) ∧
  (∀ (e : Fin 128) (p : Fin 4) (k : Pkt) (g : Engine) (w : Word) (s : State), Fetches s e 0x0B p k g w →
    (¬ ((g.reg (insX w)).toNat < (insImm w).toNat) → ∃ t, exec (.jlt e) s = .next t ∧ Frame [.pipes] [] s t ∧ t = s.setSlotOf p ⟨k, .engine (advanced g)⟩) ∧
    ((g.reg (insX w)).toNat < (insImm w).toNat → 64 ≤ getField w 16 10 → ∃ t, exec (.jlt e) s = .next t ∧ Frame [.pipes] [] s t ∧
      t = s.setSlotOf p ⟨k, .engine { advanced g with pc := getField w 16 10 }⟩) ∧
    ((g.reg (insX w)).toNat < (insImm w).toNat → getField w 16 10 < 64 → exec (.jlt e) s = .next (s.parseFault p k 3 g.pc))) ∧
  (∀ (e : Fin 128) (p : Fin 4) (k : Pkt) (g : Engine) (w : Word) (s : State), Fetches s e 0x0C p k g w →
    (64 ≤ getField w 16 10 → ∃ t, exec (.jmp e) s = .next t ∧ Frame [.pipes] [] s t ∧
      t = s.setSlotOf p ⟨k, .engine { advanced g with pc := getField w 16 10 }⟩) ∧
    (getField w 16 10 < 64 → exec (.jmp e) s = .next (s.parseFault p k 3 g.pc))) ∧
  (∀ (e : Fin 128) (p : Fin 4) (k : Pkt) (g : Engine) (w : Word) (s : State), Fetches s e 0x0D p k g w →
    (getField w 21 6 < 2 ∨ 64 < getField w 21 6 + (getField w 8 4 + 1) → exec (.ext e) s = .next (s.parseFault p k 5 g.pc)) ∧
    (2 ≤ getField w 21 6 → getField w 21 6 + (getField w 8 4 + 1) ≤ 64 → windowEnd k (g.c + getField w 13 8) (getField w 8 4 + 1) = none →
      ∃ t, exec (.ext e) s = .next t ∧ Frame [.pipes] [] s t ∧
        t = s.setSlotOf p ⟨{ k with key := putBytes k.key (getField w 21 6) (k.bytes (g.c + getField w 13 8) (getField w 8 4 + 1)) }, .engine (advanced g)⟩)) ∧
  (∀ (e : Fin 128) (p : Fin 4) (k : Pkt) (g : Engine) (w : Word) (s : State), Fetches s e 0x0E p k g w →
    (getField w 20 6 < 2 ∨ 62 < getField w 20 6 → exec (.kst e) s = .next (s.parseFault p k 5 g.pc)) ∧
    (2 ≤ getField w 20 6 → getField w 20 6 ≤ 62 → ∃ t, exec (.kst e) s = .next t ∧ Frame [.pipes] [] s t ∧
      t = s.setSlotOf p ⟨{ k with key := putBytes k.key (getField w 20 6) (toBytesBE 2 (g.reg (insX w)).toNat) }, .engine (advanced g)⟩)) ∧
  (∀ (e : Fin 128) (p : Fin 4) (k : Pkt) (g : Engine) (w : Word) (s : State), Fetches s e 0x0F p k g w →
    (hdrRule k g (getField w 21 6) (g.reg (w.getLsbD 20)) (getField w 18 2) = none → exec (.hdr e) s = .next (s.parseFault p k 4 g.pc)) ∧
    (∀ len ok eo frag, hdrRule k g (getField w 21 6) (g.reg (w.getLsbD 20)) (getField w 18 2) = some (len, ok, eo, frag) →
      (g.h = 16 → exec (.hdr e) s = .next (s.parseEnd p { k with deep := true } true)) ∧
      (g.h ≠ 16 → (ok = false ∨ g.e < g.c + len) → exec (.hdr e) s = .next (s.parseMal p k)) ∧
      (g.h ≠ 16 → ok = true → g.c + len ≤ g.e → g.c + len ≤ 256 → frag = false → ∃ t, exec (.hdr e) s = .next t ∧ Frame [.pipes] [] s t ∧
        t = s.setSlotOf p ⟨{ k with hdrs := k.hdrs ++ [(getField w 21 6, g.c)] }, .engine { advanced g with c := g.c + len, h := g.h + 1, e := eo }⟩))) ∧
  (∀ (e : Fin 128) (p : Fin 4) (k : Pkt) (g : Engine) (w : Word) (s : State), Fetches s e 0x10 p k g w →
    (w.getLsbD 25 = true → g.e < g.c + (g.reg (insX w)).toNat → exec (.lchk e) s = .next (s.parseMal p k)) ∧
    (w.getLsbD 25 = false → g.e ≠ g.c + (g.reg (insX w)).toNat → exec (.lchk e) s = .next (s.parseMal p k)) ∧
    (g.c + (g.reg (insX w)).toNat ≤ g.e → (w.getLsbD 25 = true ∨ g.c + (g.reg (insX w)).toNat = g.e) →
      ∃ t, exec (.lchk e) s = .next t ∧ Frame [.pipes] [] s t ∧
        t = s.setSlotOf p ⟨k, .engine (if w.getLsbD 24 then { advanced g with e := g.c + (g.reg (insX w)).toNat } else advanced g)⟩)) ∧
  (∀ (e : Fin 128) (p : Fin 4) (k : Pkt) (g : Engine) (w : Word) (s : State), (Fetches s e 0x12 p k g w → exec (.done e) s = .next (s.parseEnd p k true)) ∧
    (Fetches s e 0x13 p k g w → exec (.mal e) s = .next (s.parseMal p k)) ∧
    (∀ op, 0x14 ≤ op → Fetches s e op p k g w → exec (.illegalOpcode e) s = .next (s.parseFault p k 1 g.pc)) ∧
    (s.running? e = some (p, k, g) → s.fld F.PRS_PRS_CFG_STEP_MAX ≤ g.steps → exec (.stepBudgetFault e) s = .next (s.parseFault p k 2 g.pc)) ∧
    (s.running? e = some (p, k, g) → exec (.programFetchUe e) s = .next (((s.bump R.PRS_CNT_PROG_UE).fire P.PRS E.PRS_PROG_UE).dropSlot p k.id))) ∧
  (∀ (e : Fin 128) (s : State), s.running? e = none →
    exec (.nop e) s = .next s ∧
    exec (.ld e) s = .next s ∧
    exec (.ldi e) s = .next s ∧
    exec (.ldm e) s = .next s ∧
    exec (.addi e) s = .next s ∧
    exec (.add e) s = .next s ∧
    exec (.andi e) s = .next s ∧
    exec (.shl e) s = .next s ∧
    exec (.shr e) s = .next s ∧
    exec (.jeq e) s = .next s ∧
    exec (.jne e) s = .next s ∧
    exec (.jlt e) s = .next s ∧
    exec (.jmp e) s = .next s ∧
    exec (.ext e) s = .next s ∧
    exec (.kst e) s = .next s ∧
    exec (.hdr e) s = .next s ∧
    exec (.lchk e) s = .next s ∧
    exec (.flag e) s = .next s ∧
    exec (.done e) s = .next s ∧
    exec (.mal e) s = .next s ∧
    exec (.illegalOpcode e) s = .next s ∧
    exec (.stepBudgetFault e) s = .next s ∧
    exec (.programFetchUe e) s = .next s)

/-- PARSE_START takes a recirculated packet before a new one, and does nothing with neither. With the parser disabled, or
no engine free, the packet goes to the extractor, marked FALLBACK and counted; else the lowest free engine of the
pipeline runs its program. FIXED_EXTRACT ends the first packet of the extractor. A fault records its cause and PC,
counts, and sends the packet, cleaned, to the extractor. A write of PROG_DATA3 stores four words in the shadow
program, and is refused in the active view, during a copy or a test; PROG_COPY sets BUSY. (R339, R341, R343, R344,
R351, R352, R353, R354, R356, R358) -/
def Obligations.ParseStage : Prop :=
  (∀ (pipe : Fin 4) (s : State), (s.pipes[pipe]).rc = [] → (s.pipes[pipe]).arr = [] → exec (.parseStart pipe) s = .next s) ∧
  (∀ (pipe : Fin 4) (k : Pkt) (ks : List Pkt) (s : State), (s.pipes[pipe]).rc = k :: ks →
    exec (.parseStart pipe) s = .next ((s.setPipe pipe { s.pipes[pipe] with rc := ks }).parseStart pipe k)) ∧
  (∀ (pipe : Fin 4) (k : Pkt) (xs : List Arrival) (s : State), (s.pipes[pipe]).rc = [] → (s.pipes[pipe]).arr = .pkt k :: xs →
    exec (.parseStart pipe) s = .next (((s.setPipe pipe { s.pipes[pipe] with arr := xs }).parseStart pipe k).absorb pipe)) ∧
  (∀ (p : Fin 4) (k : Pkt) (s : State),
    (s.bit F.PRS_PRS_CTL_EN = false → FrameEv [.pipes] [R.PRS_CNT_FB_OFF] s (s.parseStart p k) ∧
      (s.parseStart p k).rd R.PRS_CNT_FB_OFF = s.rd R.PRS_CNT_FB_OFF + 1 ∧
      (s.parseStart p k).pipes = s.pipes.set p { s.pipes[p] with ord := (s.pipes[p]).ord + 1, parse := (s.pipes[p]).parse ++ [⟨{ k.clean with ord := (s.pipes[p]).ord, fb := true }, .extract⟩] }) ∧
    (s.bit F.PRS_PRS_CTL_EN = true → (s.pipes[p]).freeEngine p = none → FrameEv [.pipes] [R.PRS_CNT_FB_BUSY] s (s.parseStart p k) ∧
      (s.parseStart p k).rd R.PRS_CNT_FB_BUSY = s.rd R.PRS_CNT_FB_BUSY + 1 ∧
      (s.parseStart p k).pipes = s.pipes.set p { s.pipes[p] with ord := (s.pipes[p]).ord + 1, parse := (s.pipes[p]).parse ++ [⟨{ k.clean with ord := (s.pipes[p]).ord, fb := true }, .extract⟩] }) ∧
    (∀ e, s.bit F.PRS_PRS_CTL_EN = true → (s.pipes[p]).freeEngine p = some e → k.pass = 0 →
      64 ≤ (mapGet 0 s.prog (s.dispatchCopy p * 1024 + k.src)).toNat % 1024 → Frame [.pipes] [] s (s.parseStart p k) ∧
      (s.parseStart p k).pipes = s.pipes.set p { s.pipes[p] with ord := (s.pipes[p]).ord + 1, parse := (s.pipes[p]).parse ++ [⟨{ k.clean with ord := (s.pipes[p]).ord, fb := false }, .engine ⟨e, s.dispatchCopy p, 0, k.l, 0, 0, 0,
          (mapGet 0 s.prog (s.dispatchCopy p * 1024 + k.src)).toNat % 1024, 0⟩⟩] })) ∧
  (∀ (p : Fin 4) (z : ParseSlot) (s : State), (s.pipes[p]).parse.find? (fun z => decide (z.st = .extract)) = some z →
    exec (.fixedExtract p) s = .next (if (extract z.pkt).2 then s.parseMal p (extract z.pkt).1 else s.parseEnd p (extract z.pkt).1 false)) ∧
  (∀ (p : Fin 4) (k : Pkt) (s : State), FrameEv [.pipes] [R.PRS_CNT_DEEP, R.PRS_CNT_FRAG, R.PRS_CNT_PARSED_LO, R.PRS_CNT_PARSED_HI] s (s.parseEnd p k true) ∧
    FrameEv [.pipes, .epochs] [R.PRS_CNT_MALFORMED] s (s.parseMal p k) ∧ (s.parseMal p k).rd R.PRS_CNT_MALFORMED = s.rd R.PRS_CNT_MALFORMED + 1 ∧
    ∀ c pc, FrameEv [.pipes] [R.PRS_CNT_FAULT, R.PRS_FAULT_LAST] s (s.parseFault p k c pc) ∧
      (s.parseFault p k c pc).rd R.PRS_CNT_FAULT = s.rd R.PRS_CNT_FAULT + 1 ∧
      (s.parseFault p k c pc).rd R.PRS_FAULT_LAST = BitVec.ofNat 32 (c + pc % 1024 * 2 ^ 3 + k.src * 2 ^ 13 + k.pass * 2 ^ 19)) ∧
  (∀ (r : Req) (v : Word) (s : State), Taken s r (R.PRS_PROG_DATA 3) →
    (s.bit F.PRS_PROG_ADDR_VIEW = true ∨ s.bit F.PRS_PROG_STAT_BUSY = true ∨ s.applying P.PRS = true ∨ s.testing 2 none = true →
      exec (.progDataWrite r v) s = .next ((s.reply .done).refuse r (R.PRS_PROG_DATA 3))) ∧
    (s.bit F.PRS_PROG_ADDR_VIEW = false → s.bit F.PRS_PROG_STAT_BUSY = false → s.applying P.PRS = false → s.testing 2 none = false →
      ∃ t, exec (.progDataWrite r v) s = .next t ∧ Frame [.prog, .resp] [R.PRS_PROG_ADDR, R.PRS_PROG_DATA 0, R.PRS_PROG_DATA 1, R.PRS_PROG_DATA 2,
          R.PRS_PROG_DATA 3] s t ∧ t.resp = .done ∧
        t.prog = (List.range 4).foldl (fun m i => mapPut 0 m ((1 - s.fld F.PRS_PROG_CTL_ACTIVE) * 1024 + s.fld F.PRS_PROG_ADDR_WORD / 4 * 4 + i)
          (if i = 3 then v else s.rd (R.PRS_PROG_DATA i))) s.prog)) ∧
  (∀ (r : Req) (v : Word) (s : State), Taken s r R.PRS_PROG_CMD → s.testing 2 none = false →
    ∃ t, exec (.progCopy r v) s = .next t ∧ Frame [.resp] [R.PRS_PROG_STAT] s t ∧ t.resp = .done ∧ t.bit F.PRS_PROG_STAT_BUSY = true)

/-- With no packet at the stage, or one that waits behind a marker, CLASSIFY_WALK, FLOW_LOOKUP and POLICE change nothing.
A packet for which no epoch is bound is dropped and counted; a walk that ends in a leaf is counted and takes the
leaf's action; one that meets an uncorrectable error drops the packet and counts; RECIRCULATE passes at most 64
packets back to the parser, each with the next pass number. A packet whose leaf asks for no flow goes past the flow
stage; a hit updates its context. FLOW_AGE clears VALID of a context past its age and writes no other byte.
FLOW_WRITE writes the context addressed and no other byte of memory; the store of a node's fourth word writes that
node and no other byte, or faults in a locked block. (R359, R360, R363, R364, R365, R369, R372, R374, R376, R377,
R378, R379) -/
def Obligations.ClassifierAndFlows : Prop :=
  (∀ (pipe : Fin 4) (u : Option Nat) (b : Bool) (s : State),
    ((s.pipes[pipe]).cls = [] ∨ (∃ k ks, (s.pipes[pipe]).cls = k :: ks ∧ s.behindMark pipe 1 k.ord = true) → exec (.classifyWalk pipe u) s = .next s) ∧
    ((s.pipes[pipe]).flow = [] ∨ (∃ k ks, (s.pipes[pipe]).flow = k :: ks ∧ s.behindMark pipe 2 k.ord = true) → exec (.flowLookup pipe b) s = .next s) ∧
    ((s.pipes[pipe]).pol = [] ∨ (∃ k ks, (s.pipes[pipe]).pol = k :: ks ∧ s.behindMark pipe 3 k.ord = true) → exec (.police pipe) s = .next s) ∧
    ((s.pipes[pipe]).rcOut = [] → exec (.recirculate pipe) s = .next s) ∧
    ((s.pipes[pipe]).buf = [] → exec (.bufferAllocate pipe) s = .next s) ∧ ((s.pipes[pipe]).enq = [] → exec (.enqueue pipe) s = .next s)) ∧
  (∀ (pipe : Fin 4) (k : Pkt) (ks : List Pkt) (u : Option Nat) (s : State), (s.pipes[pipe]).cls = k :: ks → s.behindMark pipe 1 k.ord = false →
    (s.bit F.CLS_CLS_CTL_EN = false ∨ k.epoch.or (s.epochFor pipe k.src) = none →
      ∃ t, exec (.classifyWalk pipe u) s = .next t ∧ FrameEv [.pipes, .epochs] [R.CLS_CNT_NO_RULES] s t ∧
        t.pipes = s.pipes.set pipe { s.pipes[pipe] with cls := ks } ∧ t.rd R.CLS_CNT_NO_RULES = s.rd R.CLS_CNT_NO_RULES + 1) ∧
    (∀ e, s.bit F.CLS_CLS_CTL_EN = true → k.epoch.or (s.epochFor pipe k.src) = some e →
      (s.walkFrom (s.epochs[e]) k.fullKey (s.epochs[e]).root u 32 = .ue →
        ∃ t, exec (.classifyWalk pipe u) s = .next t ∧ FrameEv [.pipes, .epochs] [R.CLS_CNT_TREE_UE] s t ∧
          t.pipes = s.pipes.set pipe { s.pipes[pipe] with cls := ks } ∧ t.rd R.CLS_CNT_TREE_UE = s.rd R.CLS_CNT_TREE_UE + 1) ∧
      (∀ l, s.walkFrom (s.epochs[e]) k.fullKey (s.epochs[e]).root u 32 = .leaf l →
        ∃ t, exec (.classifyWalk pipe u) s = .next ((t.leafAction pipe { k with epoch := some e } l).retireEpochs) ∧
          FrameEv [.pipes] [R.CLS_CNT_CLS_LO, R.CLS_CNT_CLS_HI] s t ∧ t.pipes = s.pipes.set pipe { s.pipes[pipe] with cls := ks }))) ∧
  (∀ (pipe : Fin 4) (k : Pkt) (ks : List Pkt) (s : State), (s.pipes[pipe]).rcOut = k :: ks →
    ((s.pipes[pipe]).rc.length < 64 → ∃ t, exec (.recirculate pipe) s = .next t ∧ Frame [.pipes] [R.CLS_CNT_RECIRC] s t ∧
      t.pipes = s.pipes.set pipe { s.pipes[pipe] with rcOut := ks, rc := (s.pipes[pipe]).rc ++ [{ k with pass := k.pass + 1 }] } ∧
      t.rd R.CLS_CNT_RECIRC = s.rd R.CLS_CNT_RECIRC + 1) ∧
    (64 ≤ (s.pipes[pipe]).rc.length → ∃ t, exec (.recirculate pipe) s = .next t ∧ FrameEv [.pipes, .epochs] [R.CLS_CNT_RC_DROP] s t ∧
      t.pipes = s.pipes.set pipe { s.pipes[pipe] with rcOut := ks } ∧ t.rd R.CLS_CNT_RC_DROP = s.rd R.CLS_CNT_RC_DROP + 1)) ∧
  (∀ (pipe : Fin 4) (k : Pkt) (ks : List Pkt) (ue : Bool) (s : State), (s.pipes[pipe]).flow = k :: ks → s.behindMark pipe 2 k.ord = false →
    ((k.leaf.flow ≠ 1 ∧ k.leaf.flow ≠ 2) → exec (.flowLookup pipe ue) s = .next ((s.setPipe pipe { s.pipes[pipe] with flow := ks }).afterFlow pipe k)) ∧
    (∀ i, (k.leaf.flow = 1 ∨ k.leaf.flow = 2) → s.bit F.CLS_FLOW_CTL_ON_EN = true → s.findCtx false (s.flowKey pipe k) = some i →
      ∃ u q, exec (.flowLookup pipe ue) s = .next (u.afterFlow pipe q) ∧ Frame [.pipes, .mem] [R.CLS_CNT_FLOW_HIT] s u ∧
        u.rd R.CLS_CNT_FLOW_HIT = s.rd R.CLS_CNT_FLOW_HIT + 1 ∧
        (∀ a, (a < s.ctxAddr false i ∨ s.ctxAddr false i + 64 ≤ a) → u.readByte a = s.readByte a)) ∧
    ((k.leaf.flow = 1 ∨ k.leaf.flow = 2) → (s.bit F.CLS_FLOW_CTL_ON_EN = false ∨ s.findCtx false (s.flowKey pipe k) = none) → s.extFlow = true → ue = true →
      ∃ t, exec (.flowLookup pipe ue) s = .next t ∧ FrameEv [.pipes] [R.CLS_CNT_FLOW_UE] s t ∧ t.rd R.CLS_CNT_FLOW_UE = s.rd R.CLS_CNT_FLOW_UE + 1 ∧
        t.pipes = s.pipes.set pipe { s.pipes[pipe] with flow := ks })) ∧
  (∀ (ext : Bool) (i : Nat) (s : State),
    (s.fld F.CLS_FLOW_CTL_AGE_MS = 0 ∨ ctxBit (s.ctx ext i) 7 = false → exec (.flowAge ext i) s = .next s) ∧
    (s.fld F.CLS_FLOW_CTL_AGE_MS ≠ 0 → ctxBit (s.ctx ext i) 7 = true → ((s.ctx ext i).getD 54 0).getLsbD 0 = true →
      s.fld F.CLS_FLOW_CTL_AGE_MS < (s.flowMs + 65536 - ofBytesBE (((s.ctx ext i).drop 52).take 2)) % 65536 → (ext = false ∨ s.ctxAbove i = false) →
      ∃ t, exec (.flowAge ext i) s = .next t ∧ Frame [.mem, .ecc, .out] [R.CLS_CNT_AGED] s t ∧ t.rd R.CLS_CNT_AGED = s.rd R.CLS_CNT_AGED + 1 ∧
        ctxBit (t.readBytes (s.ctxAddr ext i) 64) 7 = false ∧
        (∀ a, (a < s.ctxAddr ext i ∨ s.ctxAddr ext i + 64 ≤ a) → t.readByte a = s.readByte a))) ∧
  (∀ (r : Req) (v : Word) (ue : Bool) (s : State), Taken s r R.CLS_FLOW_CMD → (s.bit F.CLS_FLOW_ADDR_EXT = true ∨ s.testing 3 none = false) →
    v.getLsbD 1 = false → v.getLsbD 2 = false →
    ∃ t, exec (.flowRead r v ue) s = .next t ∧ Frame [.resp] (R.CLS_FLOW_STAT :: (List.range 16).map R.CLS_FLOW_DATA) s t ∧ t.resp = .done ∧
      (s.bit F.CLS_FLOW_ADDR_EXT = true ∧ (ue = true ∨ s.ctxAbove (s.fld F.CLS_FLOW_ADDR_INDEX) = true) → t.bit F.CLS_FLOW_STAT_ERROR = true) ∧
      (s.bit F.CLS_FLOW_ADDR_EXT = false ∨ (ue = false ∧ s.ctxAbove (s.fld F.CLS_FLOW_ADDR_INDEX) = false) →
        t.rd (R.CLS_FLOW_DATA 15) = BitVec.ofNat 32 (ofBytesBE ((s.ctx (s.bit F.CLS_FLOW_ADDR_EXT) (s.fld F.CLS_FLOW_ADDR_INDEX)).drop 60)))) ∧
  (∀ (r : Req) (v : Word) (s : State), Taken s r R.CLS_FLOW_CMD → (s.bit F.CLS_FLOW_ADDR_EXT = true ∨ s.testing 3 none = false) →
    v.getLsbD 0 = false →
    (v.getLsbD 2 = false → ∃ t, exec (.flowWrite r v) s = .next t ∧ Frame [.resp, .mem, .ecc, .out] [R.CLS_FLOW_STAT] s t ∧ t.resp = .done ∧
      t.readBytes (s.ctxAddr (s.bit F.CLS_FLOW_ADDR_EXT) (s.fld F.CLS_FLOW_ADDR_INDEX)) 64 =
        ((List.range 16).map (fun j => toBytesBE 4 (s.rd (R.CLS_FLOW_DATA j)).toNat)).flatten ∧
      (∀ a, (a < s.ctxAddr (s.bit F.CLS_FLOW_ADDR_EXT) (s.fld F.CLS_FLOW_ADDR_INDEX) ∨
        s.ctxAddr (s.bit F.CLS_FLOW_ADDR_EXT) (s.fld F.CLS_FLOW_ADDR_INDEX) + 64 ≤ a) → t.readByte a = s.readByte a)) ∧
    (v.getLsbD 1 = false → ∃ t, exec (.flowInvalidate r v) s = .next t ∧ Frame [.resp, .mem, .ecc, .out] [R.CLS_FLOW_STAT] s t ∧ t.resp = .done ∧
      ctxBit (t.readBytes (s.ctxAddr (s.bit F.CLS_FLOW_ADDR_EXT) (s.fld F.CLS_FLOW_ADDR_INDEX)) 64) 7 = false ∧
      (∀ a, (a < s.ctxAddr (s.bit F.CLS_FLOW_ADDR_EXT) (s.fld F.CLS_FLOW_ADDR_INDEX) ∨
        s.ctxAddr (s.bit F.CLS_FLOW_ADDR_EXT) (s.fld F.CLS_FLOW_ADDR_INDEX) + 64 ≤ a) → t.readByte a = s.readByte a))) ∧
  (∀ (r : Req) (v : Word) (s : State), Taken s r R.CLS_FLOW_CMD → s.bit F.CLS_FLOW_ADDR_EXT = false → s.testing 3 none = true →
    exec (.flowRead r v false) s = .next ((s.reply .done).refuse r R.CLS_FLOW_CMD) ∧
    exec (.flowWrite r v) s = .next ((s.reply .done).refuse r R.CLS_FLOW_CMD) ∧
    exec (.flowInvalidate r v) s = .next ((s.reply .done).refuse r R.CLS_FLOW_CMD)) ∧
  (∀ (r : Req) (v : Word) (s : State), Taken s r (R.CLS_TREE_DATA 3) →
    (s.nodeLocked (s.fld F.CLS_TREE_ADDR_NODE) = true ∨ s.testing 1 (some (s.fld F.CLS_TREE_ADDR_NODE / 4096)) = true →
      exec (.treeDataWrite r v) s = .next ((s.reply .done).refuse r (R.CLS_TREE_DATA 3))) ∧
    (s.nodeLocked (s.fld F.CLS_TREE_ADDR_NODE) = false → s.testing 1 (some (s.fld F.CLS_TREE_ADDR_NODE / 4096)) = false →
      ∃ t, exec (.treeDataWrite r v) s = .next t ∧ Frame [.mem, .resp] [R.CLS_TREE_ADDR, R.CLS_TREE_DATA 0, R.CLS_TREE_DATA 1, R.CLS_TREE_DATA 2,
          R.CLS_TREE_DATA 3] s t ∧ t.resp = .done ∧
        t.readBytes (nodeAddr (s.fld F.CLS_TREE_ADDR_NODE)) 16 = ([s.rd (R.CLS_TREE_DATA 0), s.rd (R.CLS_TREE_DATA 1), s.rd (R.CLS_TREE_DATA 2), v].map
          (fun w => (toBytesBE 4 w.toNat).reverse)).flatten ∧
        (∀ a, (a < nodeAddr (s.fld F.CLS_TREE_ADDR_NODE) ∨ nodeAddr (s.fld F.CLS_TREE_ADDR_NODE) + 16 ≤ a) → t.readByte a = s.readByte a))) ∧
  (∀ (n : Fin 8) (node : Nat) (v a b c : Word) (s : State), node < 2 ^ 20 → s.reaches (.core n) = true →
    (∃ t, exec (.coreTreeStore n node 0 v true) s = .next t ∧ Frame [.cpu] [] s t ∧ t.cpu.nodes[n] = some ⟨node, [v]⟩) ∧
    (s.cpu.nodes[n] = some ⟨node, [a, b, c]⟩ → s.nodeLocked node = false → s.testing 1 (some (node / 4096)) = false →
      s.fld F.CLS_TREE_ADDR_NODE ≠ node →
      ∃ t, exec (.coreTreeStore n node 3 v true) s = .next t ∧ Frame [.cpu, .mem, .resp] [] s t ∧ t.cpu.nodes[n] = none ∧
        t.readBytes (nodeAddr node) 16 = ([a, b, c, v].map (fun w => (toBytesBE 4 w.toNat).reverse)).flatten ∧
        (∀ x, (x < nodeAddr node ∨ nodeAddr node + 16 ≤ x) → t.readByte x = s.readByte x)) ∧
    (s.cpu.nodes[n] = none → exec (.coreTreeStore n node 3 v true) s = .next (s.coreFault n 7 (nodeAddr node + 12))) ∧
    exec (.coreTreeStore n node 0 v false) s = .next (s.coreFault n 7 (nodeAddr node))) ∧
  (∀ (pipe : Fin 4) (k : Pkt) (ks : List Pkt) (s : State), 
    ((s.pipes[pipe]).pol = k :: ks → s.behindMark pipe 3 k.ord = false → k.leaf.polEn = false →
      ∃ t, exec (.police pipe) s = .next t ∧ Frame [.pipes] [] s t ∧
        t.pipes = s.pipes.set pipe { s.pipes[pipe] with pol := ks, buf := (s.pipes[pipe]).buf ++ [k] }) ∧
    ((s.pipes[pipe]).pol = k :: ks → s.behindMark pipe 3 k.ord = false → k.leaf.polEn = true →
      exec (.police pipe) s = .next (if ((s.setPipe pipe { s.pipes[pipe] with pol := ks }).policer pipe k.leaf.policer).1 then
        (((s.setPipe pipe { s.pipes[pipe] with pol := ks }).policer pipe k.leaf.policer).2).setPipe pipe { (((s.setPipe pipe { s.pipes[pipe] with pol := ks }).policer pipe k.leaf.policer).2).pipes[pipe] with buf := ((((s.setPipe pipe { s.pipes[pipe] with pol := ks }).policer pipe k.leaf.policer).2).pipes[pipe]).buf ++ [k] }
        else ((s.setPipe pipe { s.pipes[pipe] with pol := ks }).policer pipe k.leaf.policer).2)) ∧
    ((s.pipes[pipe]).enq = k :: ks → exec (.enqueue pipe) s = .next ((s.setPipe pipe { s.pipes[pipe] with enq := ks }).enqueue k))) ∧
  (∀ (pipe : Fin 4) (k : Pkt) (ks : List Pkt) (s : State), (s.pipes[pipe]).buf = k :: ks → k.hdl = none →
    (65536 < k.len → ∃ t, exec (.bufferAllocate pipe) s = .next t ∧ FrameEv [.pipes] [R.BPM_CNT_TOO_LONG] s t ∧
      t.pipes = s.pipes.set pipe { s.pipes[pipe] with buf := ks } ∧ t.rd R.BPM_CNT_TOO_LONG = s.rd R.BPM_CNT_TOO_LONG + 1) ∧
    (k.len ≤ 65536 → s.bit F.BPM_BPM_CTL_EN = false → ∃ t, exec (.bufferAllocate pipe) s = .next t ∧ FrameEv [.pipes] [R.BPM_CNT_NOBUF] s t ∧
      t.pipes = s.pipes.set pipe { s.pipes[pipe] with buf := ks } ∧ t.rd R.BPM_CNT_NOBUF = s.rd R.BPM_CNT_NOBUF + 1) ∧
    (∀ key u, k.len ≤ 65536 → (s.setPipe pipe { s.pipes[pipe] with buf := ks }).allocate k.queue k.len = (some key, u) →
      ∃ w, exec (.bufferAllocate pipe) s = .next (w.sendCopies pipe k (w.handleOf key)) ∧ Frame [.bufs, .mem, .ecc, .out] [] u w ∧
        (w.buf key).rx = some (k.src, k.len, u.rxPriority k) ∧
        (∀ a, (a < u.bufAddr key ∨ u.bufAddr key + k.data.length ≤ a) → w.readByte a = u.readByte a)))

/-- Of a handle whose generation is current: BUF_SHARE adds to the share count, up to 255, and sets the last owner;
BUF_RELEASE by a holder that is not the last owner takes one share away; BUF_FREE by the last owner frees a buffer
with one share, with the next generation, and is remembered while there are more. A stale handle is refused with
cause 4: counted and raised, and no buffer changes. BUF_QUERY only shows the buffer in BUF_STAT. BUF_ALLOC answers 7
with the pools disabled. The pools may not be enabled over too large a count; ONP_CNT may not change while they are
enabled; a region may not move while it is enabled; QMAP_DATA writes the shadow queue map, and is refused in the
active view or during a copy. (R385, R386, R388, R395, R398, R399, R408) -/
def Obligations.BufferCommands : Prop :=
  (∀ (r : Req) (v : Word) (s : State), Taken s r R.BPM_BUF_CMD → s.stale s.bufHdl = false →
    (s.buf (s.bufHdl / 128)).count + getField v 8 8 ≤ 255 →
    ∃ t, exec (.bufShare r v) s = .next t ∧ Frame [.bufs, .resp] [R.BPM_CNT_SHARE, R.BPM_BUF_STAT] s t ∧ t.resp = .done ∧
      t.bufs = mapPut {} s.bufs (s.bufHdl / 128) { s.buf (s.bufHdl / 128) with count := (s.buf (s.bufHdl / 128)).count + getField v 8 8, owner := s.fld F.BPM_BUF_ARG_LAST_OWNER } ∧
      t.rd R.BPM_CNT_SHARE = s.rd R.BPM_CNT_SHARE + 1) ∧
  (∀ (r : Req) (v : Word) (s : State), Taken s r R.BPM_BUF_CMD → s.stale s.bufHdl = true →
    exec (.bufShare r v) s = .next (((s.reply .done).bufRefuse s.bufHdl 4 swHolder 1).showBuf (s.bufHdl / 128) 4) ∧
    exec (.bufRelease r v) s = .next (((s.reply .done).bufRefuse s.bufHdl 4 swHolder 2).showBuf (s.bufHdl / 128) 4) ∧
    exec (.bufFree r v) s = .next (((s.reply .done).bufRefuse s.bufHdl 4 swHolder 3).showBuf (s.bufHdl / 128) 4) ∧
    ∀ (u : State) h c o op, FrameEv [.log] [R.BPM_CNT_REFUSED, R.BPM_LAST_REFUSE_LO, R.BPM_LAST_REFUSE_HI, R.HDR_LOG_PTR P.BPM, R.EVT_CNT_LOG_LOST] u (u.bufRefuse h c o op)) ∧
  (∀ (r : Req) (v : Word) (s : State), Taken s r R.BPM_BUF_CMD → s.stale s.bufHdl = false → (s.buf (s.bufHdl / 128)).owner ≠ swHolder →
    2 < (s.buf (s.bufHdl / 128)).count →
    ∃ t, exec (.bufRelease r v) s = .next t ∧ Frame [.bufs, .resp] [R.BPM_BUF_STAT] s t ∧ t.resp = .done ∧
      t.bufs = mapPut {} s.bufs (s.bufHdl / 128) { s.buf (s.bufHdl / 128) with count := (s.buf (s.bufHdl / 128)).count - 1 }) ∧
  (∀ (r : Req) (v : Word) (s : State), Taken s r R.BPM_BUF_CMD → s.stale s.bufHdl = false → (s.buf (s.bufHdl / 128)).owner = swHolder →
    ((s.buf (s.bufHdl / 128)).count = 1 → exec (.bufFree r v) s = .next (((s.reply .done).doFree (s.bufHdl / 128)).showBuf (s.bufHdl / 128) 0)) ∧
    ((s.buf (s.bufHdl / 128)).count ≠ 1 → (s.buf (s.bufHdl / 128)).pend = false →
      ∃ t, exec (.bufFree r v) s = .next t ∧ Frame [.bufs, .resp] [R.BPM_BUF_STAT] s t ∧ t.resp = .done ∧
        t.bufs = mapPut {} s.bufs (s.bufHdl / 128) { s.buf (s.bufHdl / 128) with pend := true })) ∧
  (∀ (key : Nat) (s : State), FrameEv [.bufs, .lports] [R.BPM_CNT_RETIRED_BUF] s (s.doFree key) ∧
    (s.doFree key).bufs = mapPut {} s.bufs key { gen := (s.buf key).gen + 1, dead := (s.buf key).dead }) ∧
  (∀ (r : Req) (v : Word) (s : State), Taken s r R.BPM_BUF_CMD →
    (∃ t, exec (.bufQuery r v) s = .next t ∧ Frame [.resp] [R.BPM_BUF_STAT] s t ∧ t.resp = .done ∧
      t.rd R.BPM_BUF_STAT = BitVec.ofNat 32 (min (s.buf (s.bufHdl / 128)).count 2 * 2 ^ 4 + b2n (s.buf (s.bufHdl / 128)).pend * 2 ^ 6 +
        (s.buf (s.bufHdl / 128)).count * 2 ^ 8 + (s.buf (s.bufHdl / 128)).owner * 2 ^ 16)) ∧
    (s.bit F.BPM_BPM_CTL_EN = false → ∃ t, exec (.bufAlloc r v) s = .next t ∧ Frame [.resp] [R.BPM_BUF_STAT] s t ∧ t.resp = .done ∧
      t.rd R.BPM_BUF_STAT = BitVec.ofNat 32 (7 + min (s.buf (s.bufHdl / 128)).count 2 * 2 ^ 4 + b2n (s.buf (s.bufHdl / 128)).pend * 2 ^ 6 +
        (s.buf (s.bufHdl / 128)).count * 2 ^ 8 + (s.buf (s.bufHdl / 128)).owner * 2 ^ 16)) ∧
    (∀ key u, s.bit F.BPM_BPM_CTL_EN = true → (s.reply .done).allocPool (v.getLsbD 19) (getField v 16 3) swHolder = (some key, u) →
      exec (.bufAlloc r v) s = .next (((u.wr R.BPM_BUF_HDL_LO (BitVec.ofNat 32 (u.handleOf key))).wr R.BPM_BUF_HDL_HI
        (BitVec.ofNat 32 (u.handleOf key / 2 ^ 32))).showBuf key 0))) ∧
  (∀ (r : Req) (v : Word) (s : State), Taken s r R.BPM_BPM_CTL →
    (v.getLsbD 0 = true → (48 * 2 ^ 20 < s.onpBytes ∨ s.testing 0 none = true) → exec (.bpmEnable r v) s = .next ((s.reply .done).refuse r R.BPM_BPM_CTL)) ∧
    (v.getLsbD 0 = false ∨ (s.onpBytes ≤ 48 * 2 ^ 20 ∧ s.testing 0 none = false) →
      ∃ t, exec (.bpmEnable r v) s = .next t ∧ Frame [.resp] [R.BPM_BPM_CTL] s t ∧ t.resp = .done ∧ t.bit F.BPM_BPM_CTL_EN = v.getLsbD 0)) ∧
  (∀ (r : Req) (k : Fin 8) (v : Word) (s : State), Taken s r (R.BPM_ONP_CNT k.val) →
    (s.bit F.BPM_BPM_CTL_EN = true → exec (.onpCntWrite r k v) s = .next ((s.reply .done).refuse r (R.BPM_ONP_CNT k.val))) ∧
    (s.bit F.BPM_BPM_CTL_EN = false → ∃ t, exec (.onpCntWrite r k v) s = .next t ∧ Frame [.resp] [R.BPM_ONP_CNT k.val] s t ∧ t.resp = .done)) ∧
  (∀ (r : Req) (k : Fin 8) (m : Chan) (v : Word) (s : State), Taken s r (R.BPM_EXT_REG (4 * k.val + m.val)) →
    (mergeWrite (fieldsAt (R.BPM_EXT_REG (4 * k.val + m.val))) (s.rd (R.BPM_EXT_REG (4 * k.val + m.val))) v).getLsbD 31 = false →
    s.regionOn true k.val m.val = false → s.heldKeys true k.val m.val = [] →
    ∃ t, exec (.extRegWrite r k m v) s = .next t ∧ Frame [.resp] [R.BPM_EXT_REG (4 * k.val + m.val)] s t ∧ t.resp = .done ∧
      t.rd (R.BPM_EXT_REG (4 * k.val + m.val)) = mergeWrite (fieldsAt (R.BPM_EXT_REG (4 * k.val + m.val))) (s.rd (R.BPM_EXT_REG (4 * k.val + m.val))) v) ∧
  (∀ (r : Req) (v : Word) (s : State), Taken s r R.BPM_QMAP_DATA →
    (s.bit F.BPM_QMAP_ADDR_VIEW = false → s.bit F.BPM_QMAP_STAT_BUSY = false → s.applying P.BPM = false →
      ∃ t, exec (.qmapDataWrite r v) s = .next t ∧ Frame [.qmap, .resp] [R.BPM_QMAP_ADDR, R.BPM_QMAP_DATA] s t ∧ t.resp = .done ∧
        t.qmap = mapPut 0 s.qmap ((1 - s.fld F.BPM_QMAP_CTL_ACTIVE) * 2 ^ 14 + s.fld F.BPM_QMAP_ADDR_QUEUE) (getField v 0 5)) ∧
    (s.bit F.BPM_QMAP_ADDR_VIEW = true ∨ s.bit F.BPM_QMAP_STAT_BUSY = true ∨ s.applying P.BPM = true →
      exec (.qmapDataWrite r v) s = .next ((s.reply .done).refuse r R.BPM_QMAP_DATA))) ∧
  (∀ (r : Req) (v : Word) (s : State), Taken s r R.BPM_QMAP_CMD →
    ∃ t, exec (.qmapCopy r v) s = .next t ∧ Frame [.resp] [R.BPM_QMAP_STAT] s t ∧ t.resp = .done ∧ t.bit F.BPM_QMAP_STAT_BUSY = true)

/-- A read without an error is answered and changes nothing else; one with a correctable error counts it and tracks its
place; one with an uncorrectable error, or above the eave line of its channel, is counted, recorded and raised, and
ends with a bus error; so does one of a memory under test. A full write stores its bytes at its place, and no other byte changes; one of the
wrong length is ill-formed. A narrow write is counted and stores nothing. An access of a core whose cache holds the line needs no fill; with
no line cached it is read and enters the cache, or the access faults. A line of the fill engine becomes zeros, no other byte
changes, and the eave line rises by one; the engine does nothing for a channel that is not UP, has filled, or is
paused. SCRUB_READ does nothing with the scrubber off. (R412, R415, R416, R417, R418, R421, R422, R423, R426, R542, R543, R629) -/
def Obligations.MemoryErrors : Prop :=
  (∀ (u : MemUser) (pl : MemPlace) (o : EccIn) (s : State), s.isAbove pl = false → s.placeTested pl = false →
    (eccJudge pl o = .ok → ∃ t, exec (.memoryRead u pl o) s = .next t ∧ Frame [.resp] [] s t ∧ t.resp = .done) ∧
    (∀ cw sym synd, eccJudge pl o = .ce cw sym synd →
      ∃ t, exec (.memoryRead u pl o) s = .next (t.reply .done) ∧ PageEv [.ecc, .log] [0x43, 0x44, 0x45, 0x46, P.ECC, P.EVT] s t) ∧
    (∀ cw synd, eccJudge pl o = .ue cw synd →
      ∃ t, exec (.memoryRead u pl o) s = .next (t.memBusError u pl true) ∧ PageEv [.ecc, .log] [0x43, 0x44, 0x45, 0x46, P.ECC, P.EVT] s t)) ∧
  (∀ (u : MemUser) (pl : MemPlace) (o : EccIn) (data : List Byte) (s : State), s.placeTested pl = true →
    exec (.memoryRead u pl o) s = .next (s.memBusError u pl true) ∧
    (data.length = placeSize pl → exec (.memoryWrite u pl data) s = .next (s.memBusError u pl false))) ∧
  (∀ (u : MemUser) (ch : Chan) (idx : Nat) (o : EccIn) (s : State), (s.ch ch).eave ≤ idx → u ≠ .rekey → s.placeTested (.ext ch idx) = false →
    ∃ t, exec (.memoryRead u (.ext ch idx) o) s = .next (t.memBusError u (.ext ch idx) true) ∧
      FrameEv [.ecc, .log] [R.MEM_CNT_ABOVE_EAVE ch.val, R.HDR_LOG_PTR (0x43 + ch.val), R.EVT_CNT_LOG_LOST] s t ∧
      t.rd (R.MEM_CNT_ABOVE_EAVE ch.val) = s.rd (R.MEM_CNT_ABOVE_EAVE ch.val) + 1) ∧
  (∀ (u : MemUser) (pl : MemPlace) (data : List Byte) (s : State), data.length = placeSize pl → s.placeTested pl = false →
    ∃ t, exec (.memoryWrite u pl data) s = .next t ∧ Frame [.mem, .ecc, .resp, .out, .cpu] [] s t ∧ t.resp = .done ∧
      ((∀ n, u ≠ .req (.core n)) → t.cpu = s.cpu) ∧ t.readBytes (placeAddr pl) (placeSize pl) = data ∧
      (∀ a, (a < placeAddr pl ∨ placeAddr pl + placeSize pl ≤ a) → t.readByte a = s.readByte a)) ∧
  (∀ (u : MemUser) (pl : MemPlace) (data : List Byte) (s : State), data.length ≠ placeSize pl → exec (.memoryWrite u pl data) s = .fault .illFormed) ∧
  (∀ (u : MemUser) (pl : MemPlace) (s : State), ∃ t, exec (.narrowWrite u pl) s = .next (t.memBusError u pl false) ∧
    PageEv [.ecc, .log] [0x43, 0x44, 0x45, 0x46, P.ECC, P.EVT] s t ∧ t.mem = s.mem) ∧
  (∀ (n : Fin 8) (k : CoreAcc) (a : Nat) (pl : MemPlace) (o : EccIn) (s : State), s.corePlace n a = some pl → s.isAbove pl = false →
    s.placeTested pl = false → s.cpu.caches = [] →
    (eccJudge pl o = .ok → ∃ t, exec (.lineFill n k a o) s = .next t ∧ Frame [.cpu, .fresh, .resp] [] s t ∧ t.resp = .done ∧
      (k ≠ .store → t.cpu = { s.cpu with caches := [⟨n, decide (k = .fetch), s.coreLine n a, false, false, s.readBytes (s.coreLine n a) 64⟩] })) ∧
    (∀ cw synd, eccJudge pl o = .ue cw synd → ∃ t, exec (.lineFill n k a o) s = .next (t.coreFault n (accCause k) a) ∧
      PageEv [.ecc, .log] [0x43, 0x44, 0x45, 0x46, P.ECC, P.EVT] s t)) ∧
  (∀ (n : Fin 8) (a : Nat) (pl : MemPlace) (o : EccIn) (s : State), s.corePlace n a = some pl →
    s.cpu.caches.any (fun x => x.at_ n true (s.coreLine n a)) = true → exec (.lineFill n .fetch a o) s = .next (s.reply .done)) ∧
  (∀ (n : Fin 8) (k : CoreAcc) (a : Nat) (o : EccIn) (s : State), s.corePlace n a = none →
    exec (.lineFill n k a o) s = .next (if coreUncached a then s else s.coreFault n (accCause k) a)) ∧
  (∀ (m : Chan) (s : State),
    ((s.ch m).st ≠ .up ∨ (s.ch m).done = true ∨ s.bit (F.MEM_FILL_CFG_PAUSE m.val) = true → exec (.fillLine m) s = .next s) ∧
    ((s.ch m).st = .up → (s.ch m).done = false → s.bit (F.MEM_FILL_CFG_PAUSE m.val) = false → s.testing 4 (some m.val) = false →
      (s.ch m).eave + 1 < (s.ch m).lines → s.skipOn m = false → s.ecc.pages.contains ((m.val * 2 ^ 29 + (s.ch m).eave) / 64) = false →
      ∃ t, exec (.fillLine m) s = .next t ∧ Frame [.mem, .memch, .ecc, .out] [] s t ∧ t.ch m = { s.ch m with eave := (s.ch m).eave + 1 } ∧
        (∀ a, placeAddr (.ext m (s.ch m).eave) ≤ a → a < placeAddr (.ext m (s.ch m).eave) + 64 → t.readByte a = 0) ∧
        (∀ a, (a < placeAddr (.ext m (s.ch m).eave) ∨ placeAddr (.ext m (s.ch m).eave) + 64 ≤ a) → t.readByte a = s.readByte a))) ∧
  (∀ (pl : MemPlace) (o : EccIn) (s : State),
    (s.bit F.ECC_SCRUB_CFG_EN = false ∨ s.extOff = true → exec (.scrubRead pl o) s = .next s) ∧
    (∀ ch idx, pl = .ext ch idx → s.bit F.ECC_SCRUB_CFG_EN = true → s.extOff = false → s.isAbove pl = false → s.placeTested pl = false →
      s.ecc.pages.contains ((ch.val * 2 ^ 29 + idx) / 64) = false → s.lastLine ch idx = true → eccJudge pl o = .ok →
      ∃ t, exec (.scrubRead pl o) s = .next t ∧ FrameEv [] [R.ECC_SCRUB_STAT] s t ∧
        (s.domOn (domainOf (R.HDR_EVT_RAW P.ECC)) = true → Raised t P.ECC E.ECC_SCRUB_PASS)))

/-- A retirement command while one runs is refused; a page already retired answers 1 and a bank that does not exist
answers 2, with no page retired; a new page leaves the pools and is noted, and its list entry is appended unless the
flash is unusable (5) or the list is full (3). RET_CMD_DONE ends the append with 0 or 4. CLEAR_LIST needs presence and, after
POWER_FAIL_N, ends with 4.
TRACK_CLR empties the tracking table. REKEY without a next key is refused and raised; with one it starts the pass
from the first line. FRESH draws a next pair of keys, and is refused during a pass. REKEY_LINE reads the line at the pointer, writes it back, and moves the
pointer on. MEM_TRAIN of an OFF channel starts
training; MEM_WITHDRAW of an UP channel withdraws it; both are refused under a memory test. The skip window may not
move during a pass or behind the eave line. (R424, R428, R430, R433, R434, R436, R437, R438, R439, R440, R442, R444) -/
def Obligations.MemoryControl : Prop :=
  (∀ (r : Req) (v : Word) (s : State), Taken s r R.ECC_RET_CMD → (s.ecc.append = true ∨ s.ecc.clear = true) →
    exec (.retire r v) s = .next ((s.reply .done).refuse r R.ECC_RET_CMD) ∧ exec (.clearList r v) s = .next ((s.reply .done).refuse r R.ECC_RET_CMD)) ∧
  (∀ (r : Req) (v : Word) (s : State), Taken s r R.ECC_RET_CMD → s.ecc.append = false → s.ecc.clear = false → v.getLsbD 1 = false →
    (s.bit F.ECC_RET_ADDR_BANK = true → 384 ≤ s.fld F.ECC_RET_ADDR_PAGE % 512 → ∃ t, exec (.retire r v) s = .next t ∧
      Frame [.ecc, .resp] [] s t ∧ t.ecc = { s.ecc with result := 2 }) ∧
    (s.bit F.ECC_RET_ADDR_BANK = false →
    (s.ecc.pages.contains (s.fld F.ECC_RET_ADDR_PAGE) = true → ∃ t, exec (.retire r v) s = .next t ∧ Frame [.ecc, .resp] [] s t ∧
      t.ecc = { s.ecc with result := 1 }) ∧
    (s.ecc.pages.contains (s.fld F.ECC_RET_ADDR_PAGE) = false → s.rst.noSfdp = true →
      exec (.retire r v) s = .next ((((s.reply .done).retireSilicon false (s.fld F.ECC_RET_ADDR_PAGE)).retireNote false (s.fld F.ECC_RET_ADDR_PAGE) (reqNum r)).retResult 5)) ∧
    (s.ecc.pages.contains (s.fld F.ECC_RET_ADDR_PAGE) = false → s.rst.noSfdp = false → 4096 ≤ s.ecc.list →
      ∃ u, exec (.retire r v) s = .next ((u.retResult 3).fire P.ECC E.ECC_LIST_FULL) ∧
        u = ((s.reply .done).retireSilicon false (s.fld F.ECC_RET_ADDR_PAGE)).retireNote false (s.fld F.ECC_RET_ADDR_PAGE) (reqNum r)) ∧
    (s.ecc.pages.contains (s.fld F.ECC_RET_ADDR_PAGE) = false → s.rst.noSfdp = false → s.ecc.list < 4096 →
      ∃ u, exec (.retire r v) s = .next u ∧ u.ecc.append = true ∧ u.ecc.src = reqNum r ∧ (s.fld F.ECC_RET_ADDR_PAGE) ∈ u.ecc.pages ∧
        FrameEv [.ecc, .log, .resp] [R.BPM_CNT_RETIRED_BUF, R.HDR_LOG_PTR P.ECC, R.EVT_CNT_LOG_LOST, R.ECC_CNT_RETIRED] s u ∧
        u.rd R.ECC_CNT_RETIRED = s.rd R.ECC_CNT_RETIRED + 1))) ∧
  (∀ (r : Req) (v : Word) (s : State), Taken s r R.ECC_RET_CMD → s.ecc.append = false → s.ecc.clear = false → v.getLsbD 0 = false →
    s.isDelegate r = false → s.own.presWin = true → s.rst.noSfdp = false →
    ∃ t, exec (.clearList r v) s = .next t ∧ Frame [.ecc, .resp] [] s t ∧
      t.ecc = if s.log.pf then { s.ecc with result := 4 } else { s.ecc with clear := true, src := reqNum r }) ∧
  (∀ (ok : Bool) (s : State), (s.ecc.append = false → s.ecc.clear = false → exec (.retCmdDone ok) s = .next s) ∧
    (s.ecc.append = true → s.ecc.clear = false → ∃ t, exec (.retCmdDone ok) s = .next t ∧ Frame [.ecc] [] s t ∧
      t.ecc = { s.ecc with append := false, list := if ok then s.ecc.list + 1 else s.ecc.list, result := if ok then 0 else 4 }) ∧
    (s.ecc.append = false → s.ecc.clear = true → ∃ t, exec (.retCmdDone ok) s = .next t ∧
      FrameEv [.ecc, .log, .fresh] [R.HDR_LOG_PTR P.ECC, R.EVT_CNT_LOG_LOST] s t ∧ t.ecc.clear = false ∧ t.ecc.list = if ok then 0 else s.ecc.list)) ∧
  (∀ (r : Req) (v : Word) (s : State), Taken s r R.ECC_CE_CFG → ∃ t, exec (.trackClr r v) s = .next t ∧ Frame [.ecc, .resp] [R.ECC_CE_CFG] s t ∧
    t.resp = .done ∧ t.ecc = { s.ecc with track := [] }) ∧
  (∀ (r : Req) (v : Word) (s : State), Taken s r R.MXE_MXE_CMD →
    (v.getLsbD 1 = false → (s.mxe.next = none ∨ s.mxe.running = true) →
      exec (.rekey r v) s = .next (((s.reply .done).refuse r R.MXE_MXE_CMD).fire P.MXE E.MXE_REKEY_REFUSED)) ∧
    (v.getLsbD 1 = false → s.mxe.next ≠ none → s.mxe.running = false → s.mxe.kgen ≠ 0xFFFF → s.testing 4 none = false →
      ∃ u, exec (.rekey r v) s = .next (((List.finRange 4).foldl State.rkAdvance u).rkFinish) ∧ Frame [.mxe, .resp] [] s u ∧
        u.mxe = { s.mxe with running := true, ptr := Vector.replicate 4 0, passed := Vector.replicate 4 false }) ∧
    (v.getLsbD 0 = false → s.mxe.running = true → exec (.fresh r v) s = .next ((s.reply .done).refuse r R.MXE_MXE_CMD)) ∧
    (v.getLsbD 0 = false → s.mxe.running = false → ∃ t, exec (.fresh r v) s = .next t ∧ FrameEv [.mxe, .fresh, .resp] [] s t ∧
      t.mxe = { s.mxe with next := some (Config.freeKey s.fresh, Config.freeKey (s.fresh + 1)), nextWrap := false } ∧ (s.domOn (domainOf (R.HDR_EVT_RAW P.MXE)) = true → Raised t P.MXE E.MXE_NEXT_LOADED))) ∧
  (∀ (ch : Chan) (o : EccIn) (s : State), (s.mxe.running = false ∨ s.mxe.passed[ch] = true ∨ s.extOff = true → exec (.rekeyLine ch o) s = .next s) ∧
    (s.mxe.running = true → s.mxe.passed[ch] = false → s.extOff = false → (s.ch ch).st ≠ .withdrawn → s.mxe.ptr[ch] < (s.ch ch).eave →
      ∃ u w ok, s.memRead .rekey (.ext ch s.mxe.ptr[ch]) o = (ok, u) ∧ w = { u with mxe := { u.mxe with ptr := u.mxe.ptr.set ch (s.mxe.ptr[ch] + 1) } } ∧
        exec (.rekeyLine ch o) s = .next (((if ok then w.dramWrite ch s.mxe.ptr[ch] else w).rkAdvance ch).rkFinish) ∧
        PageEv [.ecc, .log] [0x43, 0x44, 0x45, 0x46, P.ECC, P.EVT] s u)) ∧
  (∀ (r : Req) (m : Chan) (v : Word) (s : State), Taken s r (R.MEM_MEM_CMD m.val) →
    (s.testing 4 (some m.val) = true → exec (.memTrain r m v) s = .next ((s.reply .done).refuse r (R.MEM_MEM_CMD m.val)) ∧
      exec (.memWithdraw r m v) s = .next ((s.reply .done).refuse r (R.MEM_MEM_CMD m.val))) ∧
    (s.testing 4 (some m.val) = false → v.getLsbD 1 = false → ((s.ch m).st = .up ∨ (s.ch m).st = .training) →
      exec (.memTrain r m v) s = .next ((s.reply .done).refuse r (R.MEM_MEM_CMD m.val))) ∧
    (s.testing 4 (some m.val) = false → v.getLsbD 1 = false → ((s.ch m).st = .off ∨ (s.ch m).st = .withdrawn) → s.pwr.limp = false → s.mxe.entropyOk = true →
      ∃ t, exec (.memTrain r m v) s = .next t ∧ Frame [.memch, .resp] [] s t ∧ t.resp = .done ∧
        t.memch = s.memch.set m { s.ch m with st := .training, eyeOnly := false, want := false, cap := s.memCap m }) ∧
    (s.testing 4 (some m.val) = false → v.getLsbD 0 = false → (s.ch m).st = .up →
      exec (.memWithdraw r m v) s = .next ((s.reply .done).withdraw m 0 (reqNum r))) ∧
    (s.testing 4 (some m.val) = false → v.getLsbD 0 = false → (s.ch m).st ≠ .up → exec (.memWithdraw r m v) s = .next (s.reply .done))) ∧
  (∀ (r : Req) (m : Chan) (endReg : Bool) (v : Word) (s : State), Taken s r (if endReg then R.MEM_SKIP_END m.val else R.MEM_SKIP_START m.val) →
    (s.mxe.running = true ∨ (s.skipOn m = true ∧ s.skipStart m ≤ (s.ch m).eave) →
      exec (.skipWindowWrite r m endReg v) s = .next ((s.reply .done).refuse r (if endReg then R.MEM_SKIP_END m.val else R.MEM_SKIP_START m.val))) ∧
    (s.mxe.running = false → s.skipOn m = false → (endReg = true ∨ v.getLsbD 31 = false) →
      ∃ t, exec (.skipWindowWrite r m endReg v) s = .next t ∧
        Frame [.resp] [if endReg then R.MEM_SKIP_END m.val else R.MEM_SKIP_START m.val] s t ∧ t.resp = .done))

/-- A copy of a table that is not running changes nothing; a running copy replaces the shadow part of its table by the
active part and ends busy. The copy of a lane's gate list replaces the shadow list by the active one. A write of a
selector stores it and changes only registers of its page. A write to the shadow of a gate list is refused while the
view is set, the copy runs or the page applies; else it replaces the entry or the length, cycle or phase of the list
that is not active. GATE_COPY marks the lane busy. GATE_SWITCH is the switch of every group whose part of that lane
is due, and nothing where no group applies. HWM_CLR clears the selected high-water mark and HWM_CLR_ALL every one.
SHP_CTL.EN set from 0 sets every enabled shaper; set again it changes no shaper. (R230, R446, R460, R465, R468, R469,
R473) -/
def Obligations.TablesGatesAndShapers : Prop :=
  (∀ s : State, (s.bit F.PRS_PROG_STAT_BUSY = false → exec (.copyComplete .prog) s = .next s) ∧
    (s.bit F.UPB_GSM_STAT_BUSY = false → exec (.copyComplete .gsm) s = .next s) ∧
    (s.bit F.TRB_TBL_STAT_BUSY = false → exec (.copyComplete .trb) s = .next s) ∧
    (s.bit F.BPM_QMAP_STAT_BUSY = false → exec (.copyComplete .qmap) s = .next s) ∧
    (∀ l, s.gateBusy.contains l = false → exec (.copyComplete (.gate l)) s = .next s)) ∧
  (∀ s : State,
    (s.bit F.PRS_PROG_STAT_BUSY = true → ∃ t, exec (.copyComplete .prog) s = .next t ∧ PageEv [.prog] [P.PRS] s t ∧ t.prog =
      (s.prog.filter (fun e => decide (e.1 / 1024 = s.fld F.PRS_PROG_CTL_ACTIVE))).foldl (fun m e => mapIns m ((1 - s.fld F.PRS_PROG_CTL_ACTIVE) * 1024 + e.1 % 1024) e.2)
        (s.prog.filter (fun e => decide (e.1 / 1024 = s.fld F.PRS_PROG_CTL_ACTIVE)))) ∧
    (s.bit F.UPB_GSM_STAT_BUSY = true → ∃ t, exec (.copyComplete .gsm) s = .next t ∧ PageEv [.gsm] [P.UPB] s t ∧ t.gsm =
      (s.gsm.filter (fun e => decide (e.1 / 2 ^ 13 = s.fld F.UPB_GSM_CTL_ACTIVE))).foldl (fun m e => mapIns m ((1 - s.fld F.UPB_GSM_CTL_ACTIVE) * 2 ^ 13 + e.1 % 2 ^ 13) e.2)
        (s.gsm.filter (fun e => decide (e.1 / 2 ^ 13 = s.fld F.UPB_GSM_CTL_ACTIVE)))) ∧
    (s.bit F.TRB_TBL_STAT_BUSY = true → ∃ t, exec (.copyComplete .trb) s = .next t ∧ PageEv [.tmap] [P.TRB] s t ∧ t.tmap =
      (s.tmap.filter (fun e => decide (e.1 / 1024 = s.fld F.TRB_MAP_CTL_ACTIVE))).foldl (fun m e => mapIns m ((1 - s.fld F.TRB_MAP_CTL_ACTIVE) * 1024 + e.1 % 1024) e.2)
        (s.tmap.filter (fun e => decide (e.1 / 1024 = s.fld F.TRB_MAP_CTL_ACTIVE)))) ∧
    (s.bit F.BPM_QMAP_STAT_BUSY = true → ∃ t, exec (.copyComplete .qmap) s = .next t ∧ PageEv [.qmap] [P.BPM] s t ∧ t.qmap =
      (s.qmap.filter (fun e => decide (e.1 / 2 ^ 14 = s.fld F.BPM_QMAP_CTL_ACTIVE))).foldl (fun m e => mapIns m ((1 - s.fld F.BPM_QMAP_CTL_ACTIVE) * 2 ^ 14 + e.1 % 2 ^ 14) e.2)
        (s.qmap.filter (fun e => decide (e.1 / 2 ^ 14 = s.fld F.BPM_QMAP_CTL_ACTIVE))))) ∧
  (∀ (l : Fin 48) (s : State), s.gateBusy.contains l = true → ∃ t, exec (.copyComplete (.gate l)) s = .next t ∧
    PageEv [.gates, .gateBusy] [P.GAT] s t ∧ t.gateBusy = s.gateBusy.filter (fun x => decide (x ≠ l)) ∧
    t.gateList l.val (1 - s.fld (gateBit l.val)) = s.gateList l.val (s.fld (gateBit l.val))) ∧
  (∀ (r : Req) (a : Addr) (v : Word) (s : State), (selectors.contains a.toNat = false → exec (.tableSelect r a v) s = .fault .illFormed) ∧
    (selectors.contains a.toNat = true → Taken s r a.toNat →
      ∃ t, exec (.tableSelect r a v) s = .next t ∧ t = (s.reply .done).performWrite r a.toNat v ∧ PageEv [.resp, .rcntHeld, .mirror] [pageOf a.toNat] s t)) ∧
  (∀ (r : Req) (a : Addr) (v : Word) (s : State), (gateShadows.contains a.toNat = false → exec (.gateShadowWrite r a v) s = .fault .illFormed) ∧
    (gateShadows.contains a.toNat = true → Taken s r a.toNat →
      (s.bit (F.GAT_G_SEL_VIEW (reqNum r)) = true ∨ s.gateBusy.any (fun x => decide (x.val = s.fld (F.GAT_G_SEL_LANE (reqNum r)))) = true ∨ s.applying P.GAT = true →
        exec (.gateShadowWrite r a v) s = .next ((s.reply .done).refuse r a.toNat)) ∧
      (s.bit (F.GAT_G_SEL_VIEW (reqNum r)) = false → s.gateBusy.any (fun x => decide (x.val = s.fld (F.GAT_G_SEL_LANE (reqNum r)))) = false → s.applying P.GAT = false →
        ∃ t g g', exec (.gateShadowWrite r a v) s = .next t ∧ PageEv [.gates, .resp] [P.GAT] s t ∧
          g = s.gateList (s.fld (F.GAT_G_SEL_LANE (reqNum r))) (1 - s.fld (gateBit (s.fld (F.GAT_G_SEL_LANE (reqNum r))))) ∧
          t.gates = mapPut {} s.gates (s.fld (F.GAT_G_SEL_LANE (reqNum r)) * 2 + (1 - s.fld (gateBit (s.fld (F.GAT_G_SEL_LANE (reqNum r)))))) g' ∧
          (a.toNat = R.GAT_G_ENTRY_HI → g' = { g with entries := mapPut (1, BitVec.allOnes 16) g.entries (s.fld (F.GAT_G_SEL_ENTRY (reqNum r))) ((s.rd (idxKey R.GAT_G_ENTRY_LO (reqNum r))).toNat, BitVec.ofNat 16 (mergeWrite (fieldsAt R.GAT_G_ENTRY_HI) 0 v).toNat) }) ∧
          (a.toNat = R.GAT_G_LIST → g' = { g with len := (mergeWrite (fieldsAt R.GAT_G_LIST) 0 v).toNat }) ∧
          (a.toNat = R.GAT_G_CYCLE → g' = { g with cycle := (mergeWrite (fieldsAt R.GAT_G_CYCLE) 0 v).toNat }) ∧
          (a.toNat = R.GAT_G_PHASE → g' = { g with phase := (mergeWrite (fieldsAt R.GAT_G_PHASE) 0 v).toNat })))) ∧
  (∀ (r : Req) (v : Word) (s : State), Taken s r R.GAT_G_CMD → ∃ t, exec (.gateCopy r v) s = .next t ∧ Frame [.gateBusy, .resp] [] s t ∧
    t.resp = .done ∧ t.gateBusy = (Fin.ofNat 48 (s.fld (F.GAT_G_SEL_LANE (reqNum r))) :: s.gateBusy).dedup) ∧
  (∀ (l : Fin 48) (s : State), exec (.gateSwitch l) s = .next (s.applyingSlots.foldl (fun t i => t.switchUnit i (.lane l)) s) ∧
    ((∀ i : Fin 4, s.cmt.slots[i].st ≠ .applying) → exec (.gateSwitch l) s = .next s)) ∧
  (∀ (r : Req) (v : Word) (s : State), Taken s r R.SCH_Q_CMD → v.getLsbD 1 = false → ∃ t, exec (.hwmClr r v) s = .next t ∧
    Frame [.resp] [R.SCH_Q_HWM (s.fld (F.SCH_Q_SEL_QUEUE (reqNum r)))] s t ∧ t.resp = .done ∧ t.rd (R.SCH_Q_HWM (s.fld (F.SCH_Q_SEL_QUEUE (reqNum r)))) = 0) ∧
  (∀ (r : Req) (v : Word) (s : State), Taken s r R.SCH_Q_CMD → v.getLsbD 0 = false → ∃ t, exec (.hwmClrAll r v) s = .next t ∧
    SameBut [.regs, .resp] s t ∧ (∀ n, t.rd (R.SCH_Q_HWM n) = 0) ∧ ∀ k, ¬ (pageOf k = P.SCH ∧ ofsOf k = 0x060) → t.rd k = s.rd k) ∧
  (∀ (r : Req) (v : Word) (s : State), Taken s r R.SHP_SHP_CTL →
    (s.bit F.SHP_SHP_CTL_EN = true → ∃ t, exec (.shpEnable r v) s = .next t ∧ Frame [.resp] [R.SHP_SHP_CTL] s t ∧ t.resp = .done) ∧
    (s.bit F.SHP_SHP_CTL_EN = false → ∃ u, exec (.shpEnable r v) s = .next ((u.shapersListed.filter u.shaperOn).foldl State.setShaper u) ∧
      Frame [.resp] [R.SHP_SHP_CTL] s u ∧ u.bit F.SHP_SHP_CTL_EN = true))

/-- In limp state a LANE_CTL write with a MODE does nothing; with a frame in transmission the lane restarts after it;
from OFF it restarts at once with the mode written. SLEEP of an idle lane that is up puts it to SLEEP. WAKE of a
sleeping lane with the reference present starts waking it. RECAL of a drained lane starts it; of a lane that may not
wait it is refused and counted as an event. RECAL_ABORT ends a waiting request. RETRAIN of a lane that is up counts a
link drop and starts again. Negotiation, training, PCS lock, loss of lock, end of recalibration and PLL_READY move
the lane and leave it alone in any other state. Loss of the reference clears the pin; its return sets it. (R478,
R480, R483, R484, R485, R486, R494, R495, R610) -/
def Obligations.BackplaneLanes : Prop :=
  (∀ (r : Req) (l : Fin 48) (v : Word) (s : State), Taken s r (R.BPQ_LANE_CTL l.val) →
    (s.pwr.limp = true → getField v 0 3 ≠ 0 → exec (.laneCtlWrite r l v) s = .next (s.reply .done)) ∧
    (s.pwr.limp = false → s.lanes[l].st = .off → exec (.laneCtlWrite r l v) s = .next (((s.reply .done).store (R.BPQ_LANE_CTL l.val) v).laneRestart l)) ∧
    (s.pwr.limp = false → s.lanes[l].st ≠ .off → s.lanes[l].st ≠ .sleep → s.lanes[l].mac.tx ≠ none →
      ∃ t, exec (.laneCtlWrite r l v) s = .next t ∧ Frame [.lanes, .resp] [R.BPQ_LANE_CTL l.val] s t ∧
        t.lanes = s.lanes.set l { s.lanes[l] with todo := some .restart }) ∧
    (s.pwr.limp = false → s.lanes[l].st ≠ .off → s.lanes[l].st ≠ .sleep → s.lanes[l].mac.tx = none →
      ∃ u, exec (.laneCtlWrite r l v) s = .next (u.laneRestart l) ∧ Frame [.lanes, .resp] [R.BPQ_LANE_CTL l.val] s u ∧
        u.lanes = s.lanes.set l { s.lanes[l] with todo := some .restart })) ∧
  (∀ (r : Req) (l : Fin 48) (v : Word) (s : State), Taken s r (R.BPQ_LANE_CMD l.val) → getField v 1 4 = 0 → s.lanes[l].st = .up →
    (s.lanes[l].mac.tx = none → ∃ t, exec (.laneSleep r l v) s = .next t ∧ Frame [.lanes, .timers, .resp] [] s t ∧
      t.lanes = s.lanes.set l { s.lanes[l] with todo := none, st := .sleep }) ∧
    (s.lanes[l].mac.tx ≠ none → ∃ t, exec (.laneSleep r l v) s = .next t ∧ Frame [.lanes, .resp] [] s t ∧
      t.lanes = s.lanes.set l { s.lanes[l] with todo := some .sleep })) ∧
  (∀ (r : Req) (l : Fin 48) (v : Word) (s : State), Taken s r (R.BPQ_LANE_CMD l.val) → v.getLsbD 0 = false → getField v 2 3 = 0 →
    (s.lanes[l].st = .sleep → s.pins.ref156 = true → ∃ t, exec (.laneWake r l v) s = .next t ∧ Frame [.lanes, .timers, .resp] [] s t ∧
      t.lanes = s.lanes.set l { s.lanes[l] with st := .waking }) ∧
    (s.lanes[l].st ≠ .sleep ∨ s.pins.ref156 = false → exec (.laneWake r l v) s = .next (s.reply .done))) ∧
  (∀ (r : Req) (l : Fin 48) (v : Word) (s : State), Taken s r (R.BPQ_LANE_CMD l.val) → getField v 0 2 = 0 → getField v 3 2 = 0 →
    (s.drained l = true → ∃ t, exec (.laneRecal r l v) s = .next t ∧ Frame [.lanes, .timers, .resp] [] s t ∧
      t.lanes = s.lanes.set l { s.lanes[l] with recal := .running, st := .recal }) ∧
    (s.drained l = false → s.lanes[l].st = .up → s.bit (F.BPQ_LANE_CTL_RECAL_POLICY l.val) = false →
      ∃ t, exec (.laneRecal r l v) s = .next t ∧ Frame [.lanes, .resp] [] s t ∧ t.lanes = s.lanes.set l { s.lanes[l] with recal := .waiting }) ∧
    (s.drained l = false → (s.lanes[l].st ≠ .up ∨ s.bit (F.BPQ_LANE_CTL_RECAL_POLICY l.val) = true) →
      ∃ t, exec (.laneRecal r l v) s = .next t ∧ FrameEv [.lanes, .resp] [] s t ∧ t.lanes[l].recal = .refused ∧
        (s.domOn (domainOf (R.HDR_EVT_RAW (P.BPQ + l.val / 4))) = true → Raised t (P.BPQ + l.val / 4) E.BPQ_RECAL_REFUSED))) ∧
  (∀ (r : Req) (l : Fin 48) (v : Word) (s : State), Taken s r (R.BPQ_LANE_CMD l.val) → getField v 0 3 = 0 → v.getLsbD 4 = false →
    (s.lanes[l].recal = .waiting → ∃ t, exec (.laneRecalAbort r l v) s = .next t ∧ Frame [.lanes, .resp] [] s t ∧
      t.lanes = s.lanes.set l { s.lanes[l] with recal := .aborted }) ∧
    (s.lanes[l].recal ≠ .waiting → exec (.laneRecalAbort r l v) s = .next (s.reply .done))) ∧
  (∀ (r : Req) (l : Fin 48) (v : Word) (s : State), Taken s r (R.BPQ_LANE_CMD l.val) → getField v 0 4 = 0 →
    (s.lanes[l].st = .up → ∃ t, exec (.laneRetrain r l v) s = .next t ∧ FrameEv [.lanes, .timers, .resp] [R.BPQ_CNT_LINK_DOWN l.val] s t ∧
      t.lanes = s.lanes.set l { s.lanes[l] with st := s.startOf l s.lanes[l].mode } ∧
      t.rd (R.BPQ_CNT_LINK_DOWN l.val) = s.rd (R.BPQ_CNT_LINK_DOWN l.val) + 1 ∧
      (s.domOn (domainOf (R.HDR_EVT_RAW (P.BPQ + l.val / 4))) = true → Raised t (P.BPQ + l.val / 4) (l.val % 4))) ∧
    (s.lanes[l].st ≠ .up → exec (.laneRetrain r l v) s = .next (s.reply .done))) ∧
  (∀ (l : Fin 48) (mode : BitVec 3) (fec : BitVec 2) (s : State),
    (s.lanes[l].st = .negotiate → s.advertised l mode.toNat = true → ∃ t, exec (.negotiationComplete l mode fec) s = .next t ∧ Frame [.lanes, .timers] [] s t ∧
      t.lanes = s.lanes.set l { s.lanes[l] with mode := mode.toNat, fec := fecOf mode.toNat fec.toNat, signal := true, st := if s.bit (F.BPQ_LANE_CTL_TRAIN_EN l.val) then .train else .sync }) ∧
    (s.lanes[l].st ≠ .negotiate ∨ s.advertised l mode.toNat = false → exec (.negotiationComplete l mode fec) s = .next s)) ∧
  (∀ (l : Fin 48) (s : State),
    (s.lanes[l].st = .train → ∃ t, exec (.linkTrainingComplete l) s = .next t ∧ Frame [.lanes, .timers] [] s t ∧
      t.lanes = s.lanes.set l { s.lanes[l] with coef := true, signal := true, st := .sync }) ∧
    (s.lanes[l].st ≠ .train → exec (.linkTrainingComplete l) s = .next s) ∧
    (s.lanes[l].st = .train → s.running (T.train l.val) = true → ∃ t, exec (.linkTrainingTimeout l) s = .next t ∧
      FrameEv [.lanes, .timers] [R.BPQ_CNT_TRAIN_FAIL l.val] s t ∧
      t.rd (R.BPQ_CNT_TRAIN_FAIL l.val) = s.rd (R.BPQ_CNT_TRAIN_FAIL l.val) + 1 ∧
      t.lanes[l].st = if s.bit (F.BPQ_LANE_CTL_AN_EN l.val) then .negotiate else .train) ∧
    (s.lanes[l].st ≠ .train ∨ s.running (T.train l.val) = false → exec (.linkTrainingTimeout l) s = .next s)) ∧
  (∀ (l : Fin 48) (s : State),
    (modeEth s.lanes[l].mode = true → s.lanes[l].st = .sync → ∃ t, exec (.pcsLock l) s = .next t ∧ FrameEv [.lanes, .timers] [] s t ∧
      t.lanes = s.lanes.set l { s.lanes[l] with signal := true, st := .up } ∧
      (s.domOn (domainOf (R.HDR_EVT_RAW (P.BPQ + l.val / 4))) = true → Raised t (P.BPQ + l.val / 4) (l.val % 4))) ∧
    (modeEth s.lanes[l].mode = false ∨ s.lanes[l].st ≠ .sync → exec (.pcsLock l) s = .next s) ∧
    (modeEth s.lanes[l].mode = true → s.lanes[l].st = .up → ∃ t, exec (.pcsLockLoss l) s = .next t ∧ FrameEv [.lanes, .timers] [R.BPQ_CNT_LINK_DOWN l.val] s t ∧
      t.lanes = s.lanes.set l { s.lanes[l] with st := s.startOf l s.lanes[l].mode } ∧
      t.rd (R.BPQ_CNT_LINK_DOWN l.val) = s.rd (R.BPQ_CNT_LINK_DOWN l.val) + 1 ∧
      (s.domOn (domainOf (R.HDR_EVT_RAW (P.BPQ + l.val / 4))) = true → Raised t (P.BPQ + l.val / 4) (l.val % 4))) ∧
    (modeEth s.lanes[l].mode = false ∨ s.lanes[l].st ≠ .up → exec (.pcsLockLoss l) s = .next s)) ∧
  (∀ (l : Fin 48) (s : State),
    (s.lanes[l].recal = .waiting → s.drained l = true → ∃ t, exec (.recalRun l) s = .next t ∧ Frame [.lanes, .timers] [] s t ∧
      t.lanes = s.lanes.set l { s.lanes[l] with recal := .running, st := .recal }) ∧
    (s.lanes[l].recal ≠ .waiting ∨ s.drained l = false → exec (.recalRun l) s = .next s) ∧
    (s.lanes[l].st = .recal → ∃ t, exec (.recalEnd l) s = .next t ∧ FrameEv [.lanes, .timers] [] s t ∧ t.lanes[l].st = .up ∧ t.lanes[l].recal = .done ∧
      (s.domOn (domainOf (R.HDR_EVT_RAW (P.BPQ + l.val / 4))) = true → Raised t (P.BPQ + l.val / 4) E.BPQ_RECAL_DONE)) ∧
    (s.lanes[l].st ≠ .recal → exec (.recalEnd l) s = .next s)) ∧
  (∀ (l : Fin 48) (s : State),
    (s.bit (F.BPQ_SLEEP_CFG_WAKE_ON_SIG l.val) = false → ∃ t, exec (.wakeOnSignal l) s = .next t ∧ Frame [.lanes] [] s t ∧ t.lanes = s.lanes.set l { s.lanes[l] with signal := true }) ∧
    (s.bit (F.BPQ_SLEEP_CFG_WAKE_ON_SIG l.val) = true → s.lanes[l].st = .sleep → s.pins.ref156 = true →
      ∃ t, exec (.wakeOnSignal l) s = .next t ∧ Frame [.lanes, .timers] [] s t ∧ t.lanes = s.lanes.set l { s.lanes[l] with signal := true, st := .waking }) ∧
    (s.bit (F.BPQ_SLEEP_CFG_WAKE_ON_Q l.val) = false → exec (.wakeOnQueue l) s = .next s) ∧
    (∀ q ∈ laneQueues l, s.bit (F.BPQ_SLEEP_CFG_WAKE_ON_Q l.val) = true → s.fld (F.BPQ_SLEEP_CFG_WAKE_KIB l.val) ≤ s.depthKib q →
      s.lanes[l].st = .sleep → s.pins.ref156 = true →
      ∃ t, exec (.wakeOnQueue l) s = .next t ∧ Frame [.lanes, .timers] [] s t ∧ t.lanes = s.lanes.set l { s.lanes[l] with st := .waking })) ∧
  (∀ (l : Fin 48) (s : State),
    (s.lanes[l].st = .waking → s.pins.ref156 = true → ∃ t, exec (.pllReady l) s = .next t ∧ FrameEv [.lanes, .timers] [] s t ∧
      t.lanes[l].st = (if (s.bit (F.BPQ_LANE_CTL_KEEP_COEF l.val) && s.lanes[l].coef) || !modeTrains s.lanes[l].mode then .sync else s.startOf l s.lanes[l].mode) ∧
      (s.domOn (domainOf (R.HDR_EVT_RAW (P.BPQ + l.val / 4))) = true → Raised t (P.BPQ + l.val / 4) E.BPQ_WAKE_DONE)) ∧
    (s.lanes[l].st ≠ .waking ∨ s.pins.ref156 = false → exec (.pllReady l) s = .next s)) ∧
  (∀ s : State, (∃ t, exec .refReturn s = .next t ∧ Frame [.pins] [] s t ∧ t.pins = { s.pins with ref156 := true }) ∧
    ((∀ l : Fin 48, s.lanes[l].st = .off ∨ s.lanes[l].st = .sleep) → ∃ t, exec .refLoss s = .next t ∧ Frame [.pins] [] s t ∧ t.pins = { s.pins with ref156 := false }) ∧
    (∃ t, exec .refLoss s = .next t ∧ FrameEv [.lanes, .timers, .pins] ((List.range 48).map R.BPQ_CNT_LINK_DOWN) s t ∧ t.pins = { s.pins with ref156 := false }))

/-- A lane or port that cannot send selects nothing; else it cleans the heads of its queues, consults shapers and sends
from the queue chosen (a port from the first eligible one). A frame shorter than 64 bytes counts as a runt, one over
the limit as oversize, a damaged one as an FCS error; another enters the data path. PAUSE and PFC set or clear pause
timers in their mode and are counted as ignored else. Crossing XOFF or XON sends PAUSE and keeps the state of the
sender. An underrun gives up the frame in transmission; the end of a frame sends it. A collision in half duplex draws
a back-off, or gives up after 16 tries or when late. CX_BP, PHY polling, stepping and the MDIO registers act as their
rules say and do nothing where their conditions fail. (R452, R453, R491, R492, R496, R497, R498, R499, R502, R504,
R505, R507) -/
def Obligations.PortsAndFrames : Prop :=
  (∀ (l : Fin 48) (s : State), (s.lanes[l].st ≠ .up ∨ s.ethUp (.lane l) = false ∨ s.bit F.SCH_SCH_CTL_EN_BP = false ∨ s.lanes[l].mac.tx.isSome = true ∨ s.lanes[l].todo.isSome = true ∨ s.quieting = true →
      exec (.laneSelect l) s = .next s) ∧
    (s.lanes[l].st = .up → s.ethUp (.lane l) = true → s.bit F.SCH_SCH_CTL_EN_BP = true → s.lanes[l].mac.tx = none → s.lanes[l].todo = none → s.tim.wait = none → s.quieting = false →
      ∀ s1 s2 s3 s4 : State, ∀ el : List Nat,
      s1 = (laneQueues l).foldl (fun (t : State) q => t.cleanHead (.lane l) q (t.queue q).length) s →
      s2 = (laneQueues l).foldl (fun (t : State) q => if (t.waiting q) = [] then t else t.consult (q + 1024)) s1 →
      el = (laneQueues l).filter (fun q => s2.laneEligible l q) → s3 = s2.noteEligible (laneQueues l) el →
      (s3.choose (1024 + l.val) el = (none, s4) → exec (.laneSelect l) s = .next s4) ∧
      (∀ q, s3.choose (1024 + l.val) el = (some q, s4) → exec (.laneSelect l) s = .next ((s4.takeCredit (q + 1024)).transmit (.lane l) q)))) ∧
  (∀ (p : Fin 8) (s : State), (s.ethUp (.port p) = false ∨ s.bit F.SCH_SCH_CTL_EN_BP = false ∨ s.lports[p].mac.tx.isSome = true ∨ s.running (T.pause (48 + p.val) 8) = true ∨ s.quieting = true →
      exec (.portSelect p) s = .next s) ∧
    (s.ethUp (.port p) = true → s.bit F.SCH_SCH_CTL_EN_BP = true → s.lports[p].mac.tx = none → s.running (T.pause (48 + p.val) 8) = false → s.quieting = false →
      ∀ s1 s2 : State, ∀ qs el : List Nat, qs = (List.range 4).map (fun q => 8960 + 4 * p.val + q) →
      s1 = qs.foldl (fun (t : State) q => t.cleanHead (.port p) q (t.queue q).length) s →
      el = qs.filter (fun q => decide (s1.waiting q ≠ [])) → s2 = s1.noteEligible qs el →
      (el = [] → exec (.portSelect p) s = .next s2) ∧ (∀ q r, el = q :: r → exec (.portSelect p) s = .next (s2.transmit (.port p) q)))) ∧
  (∀ (e : EthPort) (f : FrameIn) (s : State), (s.ethUp e = false → exec (.frameReceive e f) s = .next s) ∧
    (s.ethUp e = true →
      (f.len ≤ 63 → exec (.frameReceive e f) s = .next (((s.countFec e f).portBump e R.BPQ_CNT_RUNT R.LMC_CNT_RUNT).discardFrame f)) ∧
      (63 < f.len → (s.countFec e f).maxFrame e < f.len → exec (.frameReceive e f) s =
        .next ((((s.countFec e f).portBump e R.BPQ_CNT_OVERSIZE R.LMC_CNT_OVERSIZE).macEvent e E.BPQ_OVERSIZE E.LMC_OVERSIZE).discardFrame f)) ∧
      (63 < f.len → f.len ≤ (s.countFec e f).maxFrame e → (f.fcsOk = false ∨ f.unc ≠ 0) →
        exec (.frameReceive e f) s = .next (((s.countFec e f).portBump e R.BPQ_CNT_FCS R.LMC_CNT_FCS).discardFrame f)) ∧
      (63 < f.len → f.len ≤ (s.countFec e f).maxFrame e → f.fcsOk = true → f.unc = 0 → halfAt f.bytes 12 = 0x8808 →
        exec (.frameReceive e f) s = .next (((s.countFec e f).countRxOk e).controlFrame e f.bytes)) ∧
      (63 < f.len → f.len ≤ (s.countFec e f).maxFrame e → f.fcsOk = true → f.unc = 0 → halfAt f.bytes 12 ≠ 0x8808 →
        exec (.frameReceive e f) s = .next (((s.countFec e f).countRxOk e).enterPath
          { src := srcOf e, len := f.len, data := f.bytes, stamp := f.stamp, steps := (s.countFec e f).tim.steps })))) ∧
  (∀ (e : EthPort) (quanta : BitVec 16) (s : State), (s.ethUp e = false → exec (.pauseReceive e quanta) s = .next s) ∧
    (s.ethUp e = true → s.fcMode e = 1 → ∃ t, exec (.pauseReceive e quanta) s = .next t ∧
      Frame [.timers] (match e with | .lane l => [R.BPQ_CNT_RX_OK_LO l.val, R.BPQ_CNT_RX_OK_HI l.val, R.BPQ_CNT_PAUSE_RX l.val] | .port p => [R.LMC_CNT_RX_OK p.val, R.LMC_CNT_PAUSE_RX p.val]) s t ∧
      (∀ b, t.running b = if b = T.pause (srcOf e) 8 then decide (quanta.toNat ≠ 0) else s.running b)) ∧
    (s.ethUp e = true → s.fcMode e ≠ 1 → exec (.pauseReceive e quanta) s = .next ((s.countRxOk e).fcIgnore e))) ∧
  (∀ (e : EthPort) (en : BitVec 8) (quanta : List (BitVec 16)) (s : State), (quanta.length ≠ 8 → exec (.pfcReceive e en quanta) s = .fault .illFormed) ∧
    (quanta.length = 8 → s.ethUp e = false → exec (.pfcReceive e en quanta) s = .next s) ∧
    (quanta.length = 8 → s.ethUp e = true → s.fcMode e = 2 → exec (.pfcReceive e en quanta) s =
      .next ((List.range 8).foldl (fun t p => if en.getLsbD p then t.setPause e p ((quanta.map BitVec.toNat).getD p 0) else t)
        ((s.countRxOk e).portBump e R.BPQ_CNT_PAUSE_RX R.LMC_CNT_PAUSE_RX))) ∧
    (quanta.length = 8 → s.ethUp e = true → s.fcMode e ≠ 2 → exec (.pfcReceive e en quanta) s = .next ((s.countRxOk e).fcIgnore e))) ∧
  (∀ (e : EthPort) (s : State), (∃ t, exec (.pauseTimerExpire e none) s = .next t ∧ Frame [.timers] [] s t ∧
      ∀ b, t.running b = (decide (b ≠ T.pause (srcOf e) 8) && s.running b)) ∧
    (∀ p : Fin 8, ∃ t, exec (.pauseTimerExpire e (some p)) s = .next t ∧ Frame [.timers] [] s t ∧
      ∀ b, t.running b = (decide (b ≠ T.pause (srcOf e) p.val) && s.running b))) ∧
  (∀ (e : EthPort) (s : State), ((s.fcThr e).1 = 0 ∨ s.ethUp e = false → exec (.pauseSend e) s = .next s ∧ exec (.pauseRefresh e) s = .next s) ∧
    ((s.fcThr e).1 ≠ 0 → s.ethUp e = true → s.fcMode e = 1 →
      ((s.mac e).xoff = false → (s.fcThr e).1 ≤ s.heldKib e none → exec (.pauseSend e) s = .next ((s.setMac e { s.mac e with xoff := true }).sendPause e true none (s.fcThr e).2.2)) ∧
      ((s.mac e).xoff = true → s.heldKib e none ≤ (s.fcThr e).2.1 → exec (.pauseSend e) s = .next ((s.setMac e { s.mac e with xoff := false }).sendPause e false none 0)) ∧
      ((s.mac e).xoff = true → (s.fcThr e).2.1 < s.heldKib e none → exec (.pauseRefresh e) s = .next (s.sendPause e true none (s.fcThr e).2.2)) ∧
      ((s.mac e).xoff = false → exec (.pauseRefresh e) s = .next s)) ∧
    ((s.fcThr e).1 ≠ 0 → s.ethUp e = true → s.fcMode e = 2 → ∀ again, again = s.priorities e (fun k => decide ((s.fcThr e).2.1 < k)) &&& (s.mac e).pfc →
      (again = 0 → exec (.pauseRefresh e) s = .next s) ∧ (again ≠ 0 → exec (.pauseRefresh e) s = .next (s.sendPause e true (some again) (s.fcThr e).2.2))) ∧
    ((s.fcThr e).1 ≠ 0 → s.ethUp e = true → s.fcMode e = 2 → ∃ u, exec (.pauseSend e) s = .next (u.setMac e { s.mac e with pfc :=
      ((s.mac e).pfc ||| (s.priorities e (fun k => decide ((s.fcThr e).1 ≤ k)) &&& ~~~ (s.mac e).pfc)) &&& ~~~ (s.priorities e (fun k => decide (k ≤ (s.fcThr e).2.1)) &&& (s.mac e).pfc) }) ∧
      PageEv [] (P.LMC :: (List.range 12).map (P.BPQ + ·)) s u)) ∧
  (∀ (e : EthPort) (s : State), (s.sending e = none → exec (.txUnderrun e) s = .next s ∧ exec (.frameTransmitEnd e) s = .next s) ∧
    (∀ k, s.sending e = some k →
      exec (.txUnderrun e) s = .next (((((s.portBump e R.BPQ_CNT_UNDERRUN R.LMC_CNT_UNDERRUN).macEvent e E.BPQ_UNDERRUN E.LMC_UNDERRUN).raiseStart e).emit (.badFcs e)).endTx e State.leaveQueue) ∧
      exec (.frameTransmitEnd e) s = .next (((s.countTxOk e).emit (.frame e (k.hdl.getD 0))).endTx e State.sentFrom))) ∧
  (∀ (p : Fin 8) (bit : Nat) (rnd : BitVec 10) (s : State),
    (s.lports[p].full = true ∨ s.lports[p].mac.tx = none ∨ s.lports[p].backoff.isSome = true → exec (.collision p bit rnd) s = .next s) ∧
    (s.lports[p].full = false → s.lports[p].mac.tx ≠ none → s.lports[p].backoff = none →
      (512 ≤ bit → exec (.collision p bit rnd) s = .next (((((s.bump (R.LMC_CNT_COLL p.val)).emit (.jam p)).bump (R.LMC_CNT_LATE_COLL p.val)).portEvent p E.LMC_LATE_COLL).endTx (.port p) State.leaveQueue)) ∧
      (bit < 512 → 15 ≤ s.lports[p].tries → exec (.collision p bit rnd) s = .next (((((s.bump (R.LMC_CNT_COLL p.val)).emit (.jam p)).bump (R.LMC_CNT_EXC_COLL p.val)).portEvent p E.LMC_EXC_COLL).endTx (.port p) State.leaveQueue)) ∧
      (bit < 512 → s.lports[p].tries < 15 → ∃ t, exec (.collision p bit rnd) s = .next t ∧ Frame [.lports, .out, .timers] [R.LMC_CNT_COLL p.val] s t ∧
        t.rd (R.LMC_CNT_COLL p.val) = s.rd (R.LMC_CNT_COLL p.val) + 1 ∧ t.out = .jam p :: s.out ∧
        t.lports = s.lports.set p { s.lports[p] with tries := s.lports[p].tries + 1, backoff := some (rnd.toNat % 2 ^ min 10 (s.lports[p].tries + 1)) }))) ∧
  (∀ (p : Fin 8) (s : State), (s.lports[p].backoff = none → exec (.backoffExpire p) s = .next s) ∧
    (s.lports[p].backoff ≠ none → ∃ t, exec (.backoffExpire p) s = .next t ∧ Frame [.lports, .timers] [] s t ∧ t.lports = s.lports.set p { s.lports[p] with backoff := none }) ∧
    (s.ethUp (.port p) = true → s.bit (F.LMC_PORT_CFG_CX_BP p.val) = true → s.lports[p].full = false → s.lports[p].bp = false →
      s.fld (F.LMC_PORT_THR_XOFF_KIB p.val) ≠ 0 → s.fld (F.LMC_PORT_THR_XOFF_KIB p.val) ≤ s.heldKib (.port p) none →
      ∃ t, exec (.cxBpStart p) s = .next t ∧ Frame [.lports] [R.LMC_CNT_BP p.val] s t ∧ t.lports = s.lports.set p { s.lports[p] with bp := true } ∧
        t.rd (R.LMC_CNT_BP p.val) = s.rd (R.LMC_CNT_BP p.val) + 1) ∧
    (s.ethUp (.port p) = false ∨ s.bit (F.LMC_PORT_CFG_CX_BP p.val) = false ∨ s.lports[p].full = true ∨ s.lports[p].bp = true → exec (.cxBpStart p) s = .next s)) ∧
  (∀ (p : Fin 8) (r1 r4 r5 : BitVec 16) (s : State),
    (s.bit (F.LMC_PORT_CFG_EN p.val) = false ∨ s.pwr.limp = true ∨ s.domOn 27 = false → exec (.phyPoll p r1 r4 r5) s = .next s) ∧
    (s.bit (F.LMC_PORT_CFG_EN p.val) = true → s.pwr.limp = false → s.domOn 27 = true → ∃ t, exec (.phyPoll p r1 r4 r5) s = .next t ∧
      FrameEv [.lports] [] s t ∧ t.lports[p].link = r1.getLsbD 2 ∧
      (s.bit (F.LMC_PORT_CFG_FORCE p.val) = true → t.lports[p].hundred = s.bit (F.LMC_PORT_CFG_FORCE_100 p.val) ∧ t.lports[p].full = s.bit (F.LMC_PORT_CFG_FORCE_FULL p.val)) ∧
      (s.bit (F.LMC_PORT_CFG_FORCE p.val) = false → (r4 &&& r5).getLsbD 8 = true → t.lports[p].hundred = true ∧ t.lports[p].full = true) ∧
      (r1.getLsbD 2 ≠ s.lports[p].link → s.domOn (domainOf (R.HDR_EVT_RAW P.LMC)) = true → Raised t P.LMC p.val))) ∧
  (∀ (p : Fin 8) (s : State),
    (s.ethUp (.port p) = true → s.bit (F.LMC_PORT_CFG_STEP_EN p.val) = true → s.bit (F.LMC_PORT_CFG_FORCE p.val) = false → s.lports[p].hundred = true → s.lports[p].stepped = false →
      ∃ t, exec (.portStepDown p) s = .next t ∧ FrameEv [.lports, .out] [R.LMC_CNT_STEP p.val] s t ∧ t.lports[p].stepped = true ∧ t.rd (R.LMC_CNT_STEP p.val) = s.rd (R.LMC_CNT_STEP p.val) + 1 ∧
        (s.domOn (domainOf (R.HDR_EVT_RAW P.LMC)) = true → Raised t P.LMC E.LMC_STEP)) ∧
    (s.ethUp (.port p) = false ∨ s.lports[p].hundred = false ∨ s.lports[p].stepped = true → exec (.portStepDown p) s = .next s) ∧
    (∀ q, q < 4 → s.lports[p].stepped = true → s.fld (F.LMC_PORT_FC_UP_KIB p.val) < s.depthKib (8960 + 4 * p.val + q) →
      ∃ t, exec (.portStepUp p) s = .next t ∧ FrameEv [.lports, .out] [R.LMC_CNT_STEP p.val] s t ∧ t.lports[p].stepped = false ∧ t.rd (R.LMC_CNT_STEP p.val) = s.rd (R.LMC_CNT_STEP p.val) + 1) ∧
    (s.lports[p].stepped = false → exec (.portStepUp p) s = .next s)) ∧
  (∀ (r : Req) (v : Word) (s : State), Taken s r R.LMC_MDIO_CMD →
    (s.mdio ≠ none → exec (.mdioWrite r v) s = .next ((s.reply .done).refuse r R.LMC_MDIO_CMD) ∧ exec (.mdioRead r v) s = .next ((s.reply .done).refuse r R.LMC_MDIO_CMD)) ∧
    (s.mdio = none → ∃ t, exec (.mdioWrite r v) s = .next t ∧ Frame [.mdio, .out, .resp] [R.LMC_MDIO_STAT] s t ∧ t.resp = .done ∧
      t.mdio = some (setField (v ||| 0x80000000) 26 2 1) ∧ t.bit F.LMC_MDIO_STAT_BUSY = true) ∧
    (s.mdio = none → ∃ t, exec (.mdioRead r v) s = .next t ∧ Frame [.mdio, .out, .resp] [R.LMC_MDIO_STAT] s t ∧ t.resp = .done ∧
      t.mdio = some (setField (v ||| 0x80000000) 26 2 2) ∧ t.bit F.LMC_MDIO_STAT_BUSY = true)) ∧
  (∀ (data : BitVec 16) (ack : Bool) (s : State), (s.mdio = none → exec (.mdioFrameDone data ack) s = .next s) ∧
    (∀ w, s.mdio = some w → ∃ t, exec (.mdioFrameDone data ack) s = .next t ∧ FrameEv [.mdio] [R.LMC_MDIO_STAT] s t ∧ t.mdio = none ∧
      (getField w 26 2 = 2 → t.fld F.LMC_MDIO_STAT_DATA = data.toNat) ∧
      (s.domOn (domainOf (R.HDR_EVT_RAW P.LMC)) = true → Raised t P.LMC E.LMC_MDIO_DONE)))

/-- The servo's hold time, where its timer runs, puts an acquiring or locked servo in HOLDOVER. Disabling makes it FREE.
A step is refused without a valid refused sample (for the step by it), while the Seam is not up, or while a step
waits; else it waits while a frame is sent and otherwise moves both counters, is counted and raised. STEP_APPLY
applies the waiting step. SWITCH_A selects source A, SWITCH_B source B where domain B is locked in phase and is
refused else. Domain-B samples and their staleness, the RTC trim and failure, the latching reads, the pulse per
second, the time-of-day message and the expiry of a stamp entry act as their rules say. (R512, R519, R520, R521,
R522, R523, R524, R525, R527, R530, R537, R539) -/
def Obligations.DeviceTime : Prop :=
  (∀ s : State, (s.running T.servoHold = false ∨ s.tim.servo = .free ∨ s.tim.servo = .holdover → exec .servoHoldTimeout s = .next s) ∧
    (s.running T.servoHold = true → (s.tim.servo = .acquire ∨ s.tim.servo = .locked) → ∃ t, exec .servoHoldTimeout s = .next t ∧
      FrameEv [.tim, .timers] [] s t ∧ t.tim = { s.tim with servo := .holdover, f := if s.seam.phase = .up then s.tim.i else s.tim.f } ∧
      (s.domOn (domainOf (R.HDR_EVT_RAW P.TIM)) = true → Raised t P.TIM E.TIM_HOLDOVER))) ∧
  (∀ (r : Req) (v : Word) (s : State), Taken s r R.TIM_TIM_CTL →
    ∃ t, exec (.servoDisable r v) s = .next t ∧ Frame [.tim, .timers, .resp] [R.TIM_TIM_CTL, R.TIM_B_CFG, R.TIM_B_AT_SEC, R.TIM_B_AT_NS, R.TIM_B_OFS] s t ∧
      t.tim.servo = .free ∧ (v.getLsbD 1 = true → t.tim = { s.tim with servo := .free, f := if s.seam.phase = .up then s.tim.i else s.tim.f })) ∧
  (∀ (r : Req) (v : Word) (s : State), Taken s r R.TIM_TIM_CMD →
    (s.bit F.TIM_REF_SEC_HI_VALID = false → exec (.stepByRefused r v) s = .next ((s.reply .done).refuse r R.TIM_TIM_CMD)) ∧
    (s.seam.phase ≠ .up ∨ s.tim.wait.isSome = true → exec (.stepByRefused r v) s = .next ((s.reply .done).refuse r R.TIM_TIM_CMD) ∧
      exec (.stepToTime r v) s = .next ((s.reply .done).refuse r R.TIM_TIM_CMD) ∧ exec (.stepByAmount r v) s = .next ((s.reply .done).refuse r R.TIM_TIM_CMD)) ∧
    (getField v 4 2 = 0 → s.seam.phase = .up → s.tim.wait = none → s.transmitting = true →
      (s.bit F.TIM_REF_SEC_HI_VALID = true → ∃ t, exec (.stepByRefused r v) s = .next t ∧ Frame [.tim, .resp] [] s t ∧ t.tim = { s.tim with wait := some (.by_ (-(s.refNs * 65536))) }) ∧
      (∃ t, exec (.stepToTime r v) s = .next t ∧ Frame [.tim, .resp] [] s t ∧ t.tim = { s.tim with wait := some (.to_ (s.stepNs * 65536)) }) ∧
      (∃ t, exec (.stepByAmount r v) s = .next t ∧ Frame [.tim, .resp] [] s t ∧
        t.tim = { s.tim with wait := some (.by_ ((if s.bit F.TIM_STEP_SEC_HI_NEG then -(s.stepNs : Int) else s.stepNs) * 65536)) })) ∧
    (getField v 4 2 = 0 → s.seam.phase = .up → s.tim.wait = none → s.transmitting = false →
      (s.bit F.TIM_REF_SEC_HI_VALID = true → exec (.stepByRefused r v) s = .next ((s.reply .done).stepTime (.by_ (-(s.refNs * 65536))))) ∧
      exec (.stepToTime r v) s = .next ((s.reply .done).stepTime (.to_ (s.stepNs * 65536))) ∧
      exec (.stepByAmount r v) s = .next ((s.reply .done).stepTime (.by_ ((if s.bit F.TIM_STEP_SEC_HI_NEG then -(s.stepNs : Int) else s.stepNs) * 65536))))) ∧
  (∀ s : State, (s.tim.wait = none → exec .stepApply s = .next s) ∧
    (∀ x, s.tim.wait = some x → ∃ t, exec .stepApply s = .next t ∧ t = s.stepTime x ∧ FrameEv [.tim, .timers, .clock, .lanes] [R.TIM_CNT_STEP, R.TIM_REF_SEC_HI] s t ∧
      t.lanes = s.lanes.map (fun y => if y.mac.tx.isSome then { y with lag := y.lag + s.stepAmount x } else y) ∧
      t.clock = s.clock.stepped x ∧ t.tim.wait = none ∧ t.tim.steps = s.tim.steps + 1 ∧
      t.rd R.TIM_CNT_STEP = s.rd R.TIM_CNT_STEP + 1 ∧ (s.domOn (domainOf (R.HDR_EVT_RAW P.TIM)) = true → Raised t P.TIM E.TIM_STEPPED))) ∧
  (∀ (r : Req) (v : Word) (s : State), Taken s r R.TIM_TIM_CMD → getField v 0 3 = 0 →
    (v.getLsbD 5 = false → ∃ t, exec (.switchA r v) s = .next t ∧ FrameEv [.tim, .resp] [R.TIM_CNT_SWITCH] s t ∧ t.tim = { s.tim with srcB := false } ∧
      t.rd R.TIM_CNT_SWITCH = s.rd R.TIM_CNT_SWITCH + 1 ∧ (s.domOn (domainOf (R.HDR_EVT_RAW P.TIM)) = true → Raised t P.TIM E.TIM_SWITCHED)) ∧
    (v.getLsbD 4 = false → s.bit F.TIM_TIM_CTL_COMPAT = true → s.tim.b = .locked → s.tim.phi.natAbs ≤ s.fld F.TIM_JUMP_CFG_JUMP_NS * 16 →
      ∃ t, exec (.switchB r v) s = .next t ∧ FrameEv [.tim, .resp] [R.TIM_CNT_SWITCH] s t ∧
      t.tim = { s.tim with srcB := true, f := clampTo s.flim (s.tim.f + s.tim.nu), i := clampTo s.flim (s.tim.i + s.tim.nu) } ∧
      t.rd R.TIM_CNT_SWITCH = s.rd R.TIM_CNT_SWITCH + 1 ∧ (s.domOn (domainOf (R.HDR_EVT_RAW P.TIM)) = true → Raised t P.TIM E.TIM_SWITCHED)) ∧
    (v.getLsbD 4 = false → (s.bit F.TIM_TIM_CTL_COMPAT = false ∨ s.tim.b ≠ .locked ∨ s.fld F.TIM_JUMP_CFG_JUMP_NS * 16 < s.tim.phi.natAbs) →
      ∃ t, exec (.switchB r v) s = .next t ∧ FrameEv [.resp] [] s t ∧ (s.domOn (domainOf (R.HDR_EVT_RAW P.TIM)) = true → Raised t P.TIM E.TIM_SWITCH_REFUSED))) ∧
  (∀ (r : Req) (v : Word) (s : State), Taken s r R.TIM_B_OFS →
    (s.bit F.TIM_TIM_CTL_COMPAT = false → exec (.bSample r v) s = .next ((s.reply .done).refuse r R.TIM_B_OFS)) ∧
    (s.bit F.TIM_TIM_CTL_COMPAT = true → exec (.bSample r v) s = .next (((s.reply .done).store R.TIM_B_OFS v).bSample))) ∧
  (∀ s : State, (s.running T.bHold = false ∨ (s.tim.b ≠ .acquire ∧ s.tim.b ≠ .locked) → exec .bStale s = .next s) ∧
    (s.running T.bHold = true → (s.tim.b = .acquire ∨ s.tim.b = .locked) → s.tim.srcB = false → ∃ t, exec .bStale s = .next t ∧
      FrameEv [.tim, .timers] [] s t ∧ t.tim = { s.tim with b := .stale } ∧ (s.domOn (domainOf (R.HDR_EVT_RAW P.TIM)) = true → Raised t P.TIM E.TIM_B_STATE)) ∧
    (s.running T.bHold = true → (s.tim.b = .acquire ∨ s.tim.b = .locked) → s.tim.srcB = true → exec .bStale s = .next (((s.stopTimer T.bHold).setB .stale).toHoldover))) ∧
  (∀ (ppm : BitVec 24) (s : State), (s.tim.servo = .locked → ∃ t, exec (.rtcTrimMeasure ppm) s = .next t ∧ Frame [] [R.TIM_RTC_TRIM] s t ∧
      t.fld F.TIM_RTC_TRIM_PPM = ppm.toNat ∧ t.bit F.TIM_RTC_TRIM_VALID = true) ∧ (s.tim.servo ≠ .locked → exec (.rtcTrimMeasure ppm) s = .next s) ∧
    (∃ t, exec .rtcFail s = .next t ∧ FrameEv [.tim] [] s t ∧ t.tim = { s.tim with rtcFail := true } ∧
      (s.domOn (domainOf (R.HDR_EVT_RAW P.TIM)) = true → Raised t P.TIM E.TIM_RTC_FAIL))) ∧
  (∀ (r : Req) (s : State), s.reaches r = true →
    (s.readCause R.TCL_TXTS_NS true = 0 → s.powered R.TCL_TXTS_NS = true → ∃ t, exec (.txtsRead r) s = .next t ∧ Frame [.tim, .resp] [] s t ∧
      t.tim = { s.tim with txts := s.tim.txts.tail } ∧ (∀ x l, s.tim.txts = x :: l → t.resp = .data (BitVec.ofNat 32 (nsOf (x.2 * 4096))))) ∧
    (s.readCause R.TIM_TIME_SEC_LO true = 0 → s.powered R.TIM_TIME_SEC_LO = true → ∃ t, exec (.timeReadLatch r) s = .next t ∧
      Frame [.resp] [R.TIM_TIME_SEC_HI, R.TIM_TIME_NS, R.TIM_TIME_FRAC] s t ∧ t.resp = .data (BitVec.ofNat 32 (secOf s.clock.line)) ∧
      t.rd R.TIM_TIME_SEC_HI = BitVec.ofNat 32 (secOf s.clock.line / 2 ^ 32 % 2 ^ 16) ∧ t.rd R.TIM_TIME_NS = BitVec.ofNat 32 (nsOf s.clock.line) ∧
      t.rd R.TIM_TIME_FRAC = BitVec.ofNat 32 (s.clock.line % 65536)) ∧
    (s.readCause R.TIM_RTC_LO true = 0 → s.powered R.TIM_RTC_LO = true → ∃ t, exec (.rtcReadLatch r) s = .next t ∧
      Frame [.resp] [R.TIM_RTC_HI] s t ∧ t.resp = .data (BitVec.ofNat 32 s.clock.rtc) ∧ t.rd R.TIM_RTC_HI = BitVec.ofNat 32 (s.clock.rtc / 2 ^ 32 % 2 ^ 16))) ∧
  (∀ s : State, (s.bit F.TCL_OUT_CTL_PPS_EN = false ∨ s.squelched = true ∨ s.domOn 32 = false → exec .ppsEdge s = .next s) ∧
    (s.bit F.TCL_OUT_CTL_PPS_EN = true → s.squelched = false → s.domOn 32 = true → s.tim.ppsAt = none → ∃ t, exec .ppsEdge s = .next t ∧
      FrameEv [.tim] [] s t ∧ t = ((s.setTim (fun u => { u with ppsAt := some s.clock.mono, todDue := some (secOf (s.clock.fab + s.fld F.TCL_PPS_CFG_ADJ_NS * 65536)) })).emit .pps).fire P.TCL E.TCL_PPS ∧ t.tim = { s.tim with ppsAt := some s.clock.mono, todDue := some (secOf (s.clock.fab + s.fld F.TCL_PPS_CFG_ADJ_NS * 65536)) }) ∧
    (s.tim.todDue = none → exec .todUartMessage s = .next s) ∧
    (∀ sec, s.tim.todDue = some sec → s.bit F.TCL_TODU_CFG_EN = true → s.squelched = false → s.domOn 32 = true → ∃ t, exec .todUartMessage s = .next t ∧
      Frame [.tim, .out] [] s t ∧ t.tim = { s.tim with todDue := none } ∧ t.out = .tod (s.todText sec) :: s.out) ∧
    (∀ sec, s.tim.todDue = some sec → s.bit F.TCL_TODU_CFG_EN = false → ∃ t, exec .todUartMessage s = .next t ∧
      Frame [.tim] [] s t ∧ t.tim = { s.tim with todDue := none })) ∧
  (∀ (idx : Fin 256) (s : State), ∃ t, exec (.fuEntryExpire idx) s = .next t ∧ Frame [.tim] [] s t ∧ t.tim = { s.tim with fu := s.tim.fu.eraseIdx idx.val })

/-- For each of the Seam, commit, ownership, receiver, deframer, tributary, activation, burst and key commands, whatever
its operands and the state, every part of the state outside the list given for it is the same in the next state.
(spec/95_what_each_step_holds.md) -/
def Obligations.PartsOfLineDieCommands : Prop :=
  (∀ x0 x1 x2 x3 (s t : State), exec (.seamFlitReceive x0 x1 x2 x3) s = .next t → SameBut [.regs, .seam, .cmt, .evt, .tsk, .hif, .timers, .out] s t) ∧
  (∀ x0 x1 x2 x3 (s t : State), exec (.seamLaneLockLoss x0 x1 x2 x3) s = .next t → SameBut [.regs, .seam, .cmt, .evt, .tsk, .hif, .timers, .out] s t) ∧
  (∀ (s t : State), exec (.seamLost) s = .next t → SameBut [.regs, .seam, .evt, .tsk, .hif, .timers, .out] s t) ∧
  (∀ (s t : State), exec (.seamRetrainAttempt) s = .next t → SameBut [.seam, .timers] s t) ∧
  (∀ (s t : State), exec (.seamUp) s = .next t → SameBut [.regs, .seam, .cmt, .tribs, .pairs, .pipes, .epochs, .shapers, .policers, .tim, .evt, .tsk, .hif, .clock, .timers, .out] s t) ∧
  (∀ x0 x1 (s t : State), exec (.retrainEnWrite x0 x1) s = .next t → SameBut [.regs, .seam, .evt, .tsk, .hif, .timers, .resp, .out] s t) ∧
  (∀ x0 (s t : State), exec (.prepare x0) s = .next t → SameBut [.seam] s t) ∧
  (∀ x0 (s t : State), exec (.prepared x0) s = .next t → SameBut [.regs, .seam, .cmt, .tribs, .pipes, .epochs, .shapers, .policers, .evt, .tsk, .hif, .timers, .out] s t) ∧
  (∀ x0 (s t : State), exec (.apply x0) s = .next t → SameBut [.regs, .seam, .cmt, .tribs, .pairs, .pipes, .epochs, .shapers, .policers, .evt, .tsk, .hif, .timers, .out] s t) ∧
  (∀ x0 (s t : State), exec (.abort x0) s = .next t → SameBut [.seam] s t) ∧
  (∀ x0 (s t : State), exec (.abortDomainOff x0) s = .next t → SameBut [.regs, .seam, .cmt, .tribs, .pipes, .epochs, .shapers, .policers, .evt, .tsk, .hif, .timers, .out] s t) ∧
  (∀ x0 (s t : State), exec (.prepTimeout x0) s = .next t → SameBut [.regs, .seam, .cmt, .evt, .tsk, .hif, .timers, .out] s t) ∧
  (∀ x0 x1 x2 x3 (s t : State), exec (.registerWrite x0 x1 x2 x3) s = .next t → SameBut [.regs, .shown, .mirror, .mem, .seam, .cmt, .own, .nextPkt, .rx, .dsf, .tmap, .tribs, .tfrags, .rows, .ttest, .act, .upb, .restarts, .gsm, .txEff, .pairs, .key, .dark, .pipes, .epochs, .prog, .rcnt, .rcntHeld, .excWait, .bufs, .bufRot, .qmap, .memch, .ecc, .mxe, .queues, .turns, .elig, .shapers, .policers, .gates, .gateBusy, .lanes, .lports, .mdio, .tim, .evt, .log, .tsk, .cpu, .pwr, .rst, .sys, .hif, .clock, .timers, .resp, .out, .fresh] s t) ∧
  (∀ x0 x1 x2 x3 (s t : State), exec (.stagedWrite x0 x1 x2 x3) s = .next t → SameBut [.regs, .seam, .cmt, .evt, .tsk, .hif, .resp, .out] s t) ∧
  (∀ x0 x1 (s t : State), exec (.shelfReadLow x0 x1) s = .next t → SameBut [.regs, .tim, .evt, .hif, .resp] s t) ∧
  (∀ x0 x1 (s t : State), exec (.shelfReadHigh x0 x1) s = .next t → SameBut [.hif, .resp] s t) ∧
  (∀ x0 x1 x2 (s t : State), exec (.shelfWriteLow x0 x1 x2) s = .next t → SameBut [.regs, .seam, .evt, .tsk, .hif, .resp, .out] s t) ∧
  (∀ x0 x1 x2 (s t : State), exec (.shelfWriteHigh x0 x1 x2) s = .next t → SameBut [.regs, .seam, .evt, .tsk, .hif, .resp, .out] s t) ∧
  (∀ x0 (s t : State), exec (.bankSlotRead x0) s = .next t → SameBut [.hif, .resp] s t) ∧
  (∀ x0 x1 (s t : State), exec (.bankSlotWrite x0 x1) s = .next t → SameBut [.regs, .seam, .evt, .tsk, .hif, .resp, .out] s t) ∧
  (∀ (s t : State), exec (.shelfWriteEffect) s = .next t → SameBut [.regs, .shown, .mirror, .mem, .seam, .cmt, .own, .nextPkt, .rx, .dsf, .tmap, .tribs, .tfrags, .rows, .ttest, .act, .upb, .restarts, .gsm, .txEff, .pairs, .key, .dark, .pipes, .epochs, .prog, .rcnt, .rcntHeld, .excWait, .bufs, .bufRot, .qmap, .memch, .ecc, .mxe, .queues, .turns, .elig, .shapers, .policers, .gates, .gateBusy, .lanes, .lports, .mdio, .tim, .evt, .log, .tsk, .cpu, .pwr, .rst, .sys, .hif, .clock, .timers, .resp, .out, .fresh] s t) ∧
  (∀ x0 x1 (s t : State), exec (.mirrorUpdate x0 x1) s = .next t → SameBut [.mirror, .hif] s t) ∧
  (∀ x0 x1 x2 x3 (s t : State), exec (.unusedPageAccess x0 x1 x2 x3) s = .next t → SameBut [.regs, .seam, .tim, .evt, .tsk, .hif, .resp, .out] s t) ∧
  (∀ x0 x1 (s t : State), exec (.cmtOpen x0 x1) s = .next t → SameBut [.regs, .seam, .cmt, .evt, .tsk, .hif, .resp, .out] s t) ∧
  (∀ x0 x1 (s t : State), exec (.cmtCommit x0 x1) s = .next t → SameBut [.regs, .seam, .cmt, .tribs, .pipes, .epochs, .shapers, .policers, .evt, .tsk, .hif, .timers, .resp, .out] s t) ∧
  (∀ x0 x1 (s t : State), exec (.cmtDiscard x0 x1) s = .next t → SameBut [.regs, .seam, .cmt, .evt, .tsk, .hif, .resp, .out] s t) ∧
  (∀ x0 x1 (s t : State), exec (.cmtAck x0 x1) s = .next t → SameBut [.regs, .seam, .cmt, .evt, .tsk, .hif, .resp, .out] s t) ∧
  (∀ x0 x1 (s t : State), exec (.markerInject x0 x1) s = .next t → SameBut [.cmt, .pipes] s t) ∧
  (∀ x0 x1 x2 (s t : State), exec (.markerPass x0 x1 x2) s = .next t → SameBut [.regs, .seam, .cmt, .tribs, .pipes, .epochs, .shapers, .policers, .evt, .tsk, .hif, .timers, .out] s t) ∧
  (∀ x0 x1 (s t : State), exec (.boundaryApply x0 x1) s = .next t → SameBut [.regs, .seam, .cmt, .tribs, .pipes, .epochs, .shapers, .policers, .evt, .tsk, .hif, .timers, .out] s t) ∧
  (∀ (s t : State), exec (.electionTimeout) s = .next t → SameBut [.regs, .seam, .cmt, .own, .evt, .tsk, .hif, .timers, .out] s t) ∧
  (∀ x0 x1 (s t : State), exec (.ownClaim x0 x1) s = .next t → SameBut [.regs, .seam, .cmt, .own, .evt, .tsk, .hif, .timers, .resp, .out] s t) ∧
  (∀ x0 x1 (s t : State), exec (.ownClaimForced x0 x1) s = .next t → SameBut [.regs, .seam, .cmt, .own, .evt, .tsk, .hif, .timers, .resp, .out] s t) ∧
  (∀ x0 x1 x2 (s t : State), exec (.ownReleaseTarget x0 x1 x2) s = .next t → SameBut [.regs, .seam, .cmt, .own, .evt, .tsk, .hif, .timers, .resp, .out] s t) ∧
  (∀ x0 x1 (s t : State), exec (.ownReleaseVacate x0 x1) s = .next t → SameBut [.regs, .seam, .cmt, .own, .evt, .tsk, .hif, .timers, .resp, .out] s t) ∧
  (∀ (s t : State), exec (.handoverTimeout) s = .next t → SameBut [.regs, .seam, .own, .evt, .tsk, .hif, .timers, .out] s t) ∧
  (∀ x0 (s t : State), exec (.leaseExpire x0) s = .next t → SameBut [.regs, .seam, .cmt, .own, .evt, .tsk, .hif, .timers, .resp, .out] s t) ∧
  (∀ x0 (s t : State), exec (.ownHeartbeat x0) s = .next t → SameBut [.regs, .seam, .evt, .tsk, .hif, .timers, .resp, .out] s t) ∧
  (∀ x0 (s t : State), exec (.presenceDebounce x0) s = .next t → SameBut [.own] s t) ∧
  (∀ (s t : State), exec (.presenceOn) s = .next t → SameBut [.regs, .seam, .own, .evt, .tsk, .hif, .timers, .out] s t) ∧
  (∀ (s t : State), exec (.presenceStuck) s = .next t → SameBut [.regs, .seam, .own, .evt, .tsk, .hif, .timers, .out] s t) ∧
  (∀ (s t : State), exec (.presenceUnstick) s = .next t → SameBut [.own] s t) ∧
  (∀ (s t : State), exec (.presenceWindowExpire) s = .next t → SameBut [.regs, .seam, .own, .evt, .tsk, .hif, .timers, .out] s t) ∧
  (∀ (s t : State), exec (.forceWindowExpire) s = .next t → SameBut [.own, .timers] s t) ∧
  (∀ x0 x1 (s t : State), exec (.presenceEnd x0 x1) s = .next t → SameBut [.regs, .seam, .own, .evt, .tsk, .hif, .timers, .resp, .out] s t) ∧
  (∀ x0 (s t : State), exec (.sealBreak x0) s = .next t → SameBut [.regs, .seam, .own, .evt, .tsk, .hif, .timers, .out] s t) ∧
  (∀ x0 (s t : State), exec (.sealRearm x0) s = .next t → SameBut [.regs, .seam, .own, .evt, .tsk, .hif, .timers, .out] s t) ∧
  (∀ x0 (s t : State), exec (.sealBrokenClear x0) s = .next t → SameBut [.regs, .seam, .own, .evt, .tsk, .hif, .resp, .out] s t) ∧
  (∀ (s t : State), exec (.wakeL0Timeout) s = .next t → SameBut [.regs, .seam, .cmt, .own, .evt, .tsk, .hif, .timers, .out] s t) ∧
  (∀ x0 x1 x2 (s t : State), exec (.rxEnable x0 x1 x2) s = .next t → SameBut [.regs, .seam, .cmt, .rx, .dsf, .tribs, .act, .upb, .restarts, .txEff, .pairs, .pipes, .epochs, .shapers, .policers, .evt, .tsk, .hif, .timers, .resp, .out, .fresh] s t) ∧
  (∀ x0 x1 x2 (s t : State), exec (.rxDisable x0 x1 x2) s = .next t → SameBut [.regs, .seam, .cmt, .rx, .dsf, .tribs, .act, .upb, .restarts, .txEff, .pairs, .pipes, .epochs, .shapers, .policers, .evt, .tsk, .hif, .timers, .resp, .out, .fresh] s t) ∧
  (∀ x0 x1 x2 x3 x4 (s t : State), exec (.preambleDetect x0 x1 x2 x3 x4) s = .next t → SameBut [.regs, .seam, .cmt, .rx, .dsf, .tribs, .act, .upb, .restarts, .pairs, .pipes, .epochs, .shapers, .policers, .evt, .tsk, .hif, .timers, .out] s t) ∧
  (∀ x0 (s t : State), exec (.blindAcquire x0) s = .next t → SameBut [.rx, .pins] s t) ∧
  (∀ x0 x1 x2 (s t : State), exec (.trainingCountReached x0 x1 x2) s = .next t → SameBut [.regs, .seam, .rx, .evt, .tsk, .hif, .pins, .out] s t) ∧
  (∀ x0 x1 (s t : State), exec (.plannedHold x0 x1) s = .next t → SameBut [.regs, .seam, .rx, .evt, .tsk, .hif, .out] s t) ∧
  (∀ x0 (s t : State), exec (.unplannedHold x0) s = .next t → SameBut [.regs, .seam, .cmt, .rx, .dsf, .tribs, .act, .upb, .restarts, .pairs, .pipes, .epochs, .shapers, .policers, .evt, .tsk, .hif, .timers, .out] s t) ∧
  (∀ x0 x1 (s t : State), exec (.losAssert x0 x1) s = .next t → SameBut [.regs, .seam, .cmt, .rx, .dsf, .tribs, .act, .upb, .restarts, .pairs, .pipes, .epochs, .shapers, .policers, .evt, .tsk, .hif, .pins, .timers, .out] s t) ∧
  (∀ x0 x1 (s t : State), exec (.dozeEnter x0 x1) s = .next t → SameBut [.rx] s t) ∧
  (∀ x0 (s t : State), exec (.dozeWake x0) s = .next t → SameBut [.regs, .rx] s t) ∧
  (∀ x0 (s t : State), exec (.cdrLossOfLock x0) s = .next t → SameBut [.regs, .seam, .rx, .evt, .tsk, .hif, .out] s t) ∧
  (∀ x0 (s t : State), exec (.armWindowClose x0) s = .next t → SameBut [.regs, .seam, .rx, .evt, .tsk, .hif, .out] s t) ∧
  (∀ x0 x1 x2 (s t : State), exec (.simDetect x0 x1 x2) s = .next t → SameBut [.regs, .seam, .cmt, .rx, .dsf, .tribs, .act, .upb, .restarts, .pairs, .pipes, .epochs, .shapers, .policers, .evt, .tsk, .hif, .timers, .resp, .out, .fresh] s t) ∧
  (∀ x0 x1 x2 (s t : State), exec (.saveDef x0 x1 x2) s = .next t → SameBut [.regs, .seam, .cmt, .rx, .dsf, .tribs, .act, .upb, .restarts, .pairs, .pipes, .epochs, .shapers, .policers, .evt, .tsk, .hif, .timers, .resp, .out, .fresh] s t) ∧
  (∀ x0 x1 x2 (s t : State), exec (.loadFactory x0 x1 x2) s = .next t → SameBut [.regs, .seam, .cmt, .rx, .dsf, .tribs, .act, .upb, .restarts, .pairs, .pipes, .epochs, .shapers, .policers, .evt, .tsk, .hif, .timers, .resp, .out, .fresh] s t) ∧
  (∀ x0 x1 x2 (s t : State), exec (.lqBlock x0 x1 x2) s = .next t → SameBut [.regs, .seam, .rx, .evt, .tsk, .hif, .pins, .out] s t) ∧
  (∀ x0 x1 (s t : State), exec (.noiseMeasure x0 x1) s = .next t → SameBut [.regs] s t) ∧
  (∀ x0 x1 x2 (s t : State), exec (.rateMeasure x0 x1 x2) s = .next t → SameBut [.regs, .seam, .rx, .evt, .tsk, .hif, .out, .fresh] s t) ∧
  (∀ x0 x1 (s t : State), exec (.clipBlock x0 x1) s = .next t → SameBut [.regs, .seam, .rx, .evt, .tsk, .hif, .out] s t) ∧
  (∀ x0 x1 x2 (s t : State), exec (.calStart x0 x1 x2) s = .next t → SameBut [.regs, .seam, .rx, .evt, .tsk, .hif, .resp, .out] s t) ∧
  (∀ x0 x1 x2 (s t : State), exec (.calAbort x0 x1 x2) s = .next t → SameBut [.regs, .seam, .rx, .evt, .tsk, .hif, .resp, .out] s t) ∧
  (∀ x0 x1 x2 x3 (s t : State), exec (.calStep x0 x1 x2 x3) s = .next t → SameBut [.regs, .seam, .rx, .evt, .tsk, .hif, .out] s t) ∧
  (∀ x0 x1 x2 (s t : State), exec (.syncCandidate x0 x1 x2) s = .next t → SameBut [.dsf] s t) ∧
  (∀ x0 x1 (s t : State), exec (.groupDecode x0 x1) s = .next t → SameBut [.regs, .seam, .cmt, .rx, .dsf, .tribs, .act, .upb, .restarts, .pairs, .pipes, .epochs, .shapers, .policers, .evt, .tsk, .hif, .timers, .out] s t) ∧
  (∀ x0 (s t : State), exec (.plannedCoast x0) s = .next t → SameBut [.regs, .seam, .cmt, .dsf, .tribs, .act, .upb, .restarts, .pairs, .pipes, .epochs, .shapers, .policers, .evt, .tsk, .hif, .timers, .out] s t) ∧
  (∀ x0 x1 (s t : State), exec (.coastEnd x0 x1) s = .next t → SameBut [.regs, .seam, .cmt, .dsf, .tribs, .act, .upb, .restarts, .pairs, .pipes, .epochs, .shapers, .policers, .evt, .tsk, .hif, .timers, .out] s t) ∧
  (∀ x0 (s t : State), exec (.coastLimit x0) s = .next t → SameBut [.regs, .seam, .cmt, .rx, .dsf, .tribs, .act, .upb, .restarts, .pairs, .pipes, .epochs, .shapers, .policers, .evt, .tsk, .hif, .timers, .out] s t) ∧
  (∀ x0 (s t : State), exec (.coastFrameAdvance x0) s = .next t → SameBut [.dsf] s t) ∧
  (∀ x0 (s t : State), exec (.multiframeStart x0) s = .next t → SameBut [.regs, .seam, .rx, .dsf, .evt, .tsk, .hif, .out] s t) ∧
  (∀ x0 (s t : State), exec (.berSecond x0) s = .next t → SameBut [.regs, .seam, .dsf, .evt, .tsk, .hif, .out, .fresh] s t) ∧
  (∀ x0 x1 (s t : State), exec (.fragmentReceive x0 x1) s = .next t → SameBut [.regs, .seam, .cmt, .nextPkt, .dsf, .tribs, .tfrags, .pairs, .pipes, .epochs, .shapers, .policers, .evt, .tsk, .hif, .timers, .out] s t) ∧
  (∀ x0 x1 (s t : State), exec (.fcForget x0 x1) s = .next t → SameBut [.regs, .seam, .dsf, .pairs, .evt, .tsk, .hif, .resp, .out] s t) ∧
  (∀ x0 (s t : State), exec (.containerBuild x0) s = .next t → SameBut [.regs, .seam, .tribs, .ttest, .evt, .tsk, .hif, .out, .fresh] s t) ∧
  (∀ x0 (s t : State), exec (.containerReceive x0) s = .next t → SameBut [.regs, .seam, .tribs, .tfrags, .ttest, .evt, .tsk, .hif, .timers, .out, .fresh] s t) ∧
  (∀ x0 (s t : State), exec (.desyncStart x0) s = .next t → SameBut [.tribs] s t) ∧
  (∀ x0 (s t : State), exec (.locTimeout x0) s = .next t → SameBut [.regs, .seam, .tribs, .evt, .tsk, .hif, .timers, .out] s t) ∧
  (∀ (s t : State), exec (.tribRateSecond) s = .next t → SameBut [.regs, .seam, .tribs, .evt, .tsk, .hif, .out, .fresh] s t) ∧
  (∀ x0 x1 (s t : State), exec (.laneRowCheck x0 x1) s = .next t → SameBut [.regs, .seam, .tribs, .rows, .lanes, .evt, .tsk, .hif, .timers, .out] s t) ∧
  (∀ x0 (s t : State), exec (.hairpinByte x0) s = .next t → SameBut [.tribs] s t) ∧
  (∀ x0 x1 (s t : State), exec (.tblDataWrite x0 x1) s = .next t → SameBut [.regs, .seam, .tmap, .evt, .tsk, .hif, .resp, .out] s t) ∧
  (∀ x0 x1 (s t : State), exec (.tblCopy x0 x1) s = .next t → SameBut [.regs, .seam, .evt, .tsk, .hif, .resp, .out] s t) ∧
  (∀ x0 x1 (s t : State), exec (.tblCheck x0 x1) s = .next t → SameBut [.regs, .seam, .evt, .tsk, .hif, .resp, .out] s t) ∧
  (∀ x0 (s t : State), exec (.copyComplete x0) s = .next t → SameBut [.regs, .tmap, .gsm, .prog, .qmap, .gates, .gateBusy] s t) ∧
  (∀ x0 x1 x2 (s t : State), exec (.tableSelect x0 x1 x2) s = .next t → SameBut [.regs, .shown, .mirror, .mem, .seam, .cmt, .own, .nextPkt, .rx, .dsf, .tmap, .tribs, .tfrags, .rows, .ttest, .act, .upb, .restarts, .gsm, .txEff, .pairs, .key, .dark, .pipes, .epochs, .prog, .rcnt, .rcntHeld, .excWait, .bufs, .bufRot, .qmap, .memch, .ecc, .mxe, .queues, .turns, .elig, .shapers, .policers, .gates, .gateBusy, .lanes, .lports, .mdio, .tim, .evt, .log, .tsk, .cpu, .pwr, .rst, .sys, .hif, .clock, .timers, .resp, .out, .fresh] s t) ∧
  (∀ x0 x1 (s t : State), exec (.profile x0 x1) s = .next t → SameBut [.regs, .seam, .act, .evt, .tsk, .hif, .out] s t) ∧
  (∀ x0 x1 x2 x3 x4 x5 x6 x7 (s t : State), exec (.announceWindow x0 x1 x2 x3 x4 x5 x6 x7) s = .next t → SameBut [.regs, .seam, .cmt, .tribs, .act, .upb, .restarts, .pipes, .epochs, .shapers, .policers, .evt, .tsk, .hif, .timers, .out] s t) ∧
  (∀ x0 x1 x2 (s t : State), exec (.assignId x0 x1 x2) s = .next t → SameBut [.regs, .seam, .cmt, .tribs, .act, .upb, .restarts, .pipes, .epochs, .shapers, .policers, .evt, .tsk, .hif, .timers, .out] s t) ∧
  (∀ x0 x1 x2 x3 (s t : State), exec (.rangingGrant x0 x1 x2 x3) s = .next t → SameBut [.regs, .seam, .act, .upb, .evt, .tsk, .hif, .timers, .out] s t) ∧
  (∀ x0 x1 x2 (s t : State), exec (.setDelay x0 x1 x2) s = .next t → SameBut [.regs, .seam, .cmt, .tribs, .act, .upb, .restarts, .pipes, .epochs, .shapers, .policers, .evt, .tsk, .hif, .timers, .out] s t) ∧
  (∀ x0 x1 (s t : State), exec (.grant x0 x1) s = .next t → SameBut [.regs, .seam, .act, .upb, .evt, .tsk, .hif, .out] s t) ∧
  (∀ x0 x1 (s t : State), exec (.move x0 x1) s = .next t → SameBut [.regs, .seam, .cmt, .tribs, .act, .upb, .restarts, .pipes, .epochs, .shapers, .policers, .evt, .tsk, .hif, .timers, .out] s t) ∧
  (∀ x0 (s t : State), exec (.deactivate x0) s = .next t → SameBut [.regs, .seam, .cmt, .tribs, .act, .upb, .restarts, .pairs, .pipes, .epochs, .shapers, .policers, .evt, .tsk, .hif, .timers, .out] s t) ∧
  (∀ x0 x1 (s t : State), exec (.silence x0 x1) s = .next t → SameBut [.regs, .seam, .cmt, .tribs, .act, .upb, .restarts, .txEff, .pipes, .epochs, .shapers, .policers, .evt, .log, .tsk, .hif, .timers, .out, .fresh] s t) ∧
  (∀ x0 x1 (s t : State), exec (.emergencyStop x0 x1) s = .next t → SameBut [.regs, .seam, .cmt, .tribs, .act, .upb, .restarts, .txEff, .pipes, .epochs, .shapers, .policers, .evt, .log, .tsk, .hif, .timers, .out, .fresh] s t) ∧
  (∀ x0 x1 (s t : State), exec (.release x0 x1) s = .next t → SameBut [.regs, .seam, .cmt, .tribs, .act, .upb, .restarts, .pairs, .pipes, .epochs, .shapers, .policers, .evt, .log, .tsk, .hif, .timers, .out] s t) ∧
  (∀ x0 x1 x2 x3 (s t : State), exec (.timeOfDay x0 x1 x2 x3) s = .next t → SameBut [.regs, .seam, .act, .tim, .evt, .tsk, .hif, .timers, .out, .fresh] s t) ∧
  (∀ x0 x1 (s t : State), exec (.keyBlob x0 x1) s = .next t → SameBut [.regs, .seam, .act, .key, .evt, .tsk, .hif, .timers, .out] s t) ∧
  (∀ x0 x1 (s t : State), exec (.keySwitch x0 x1) s = .next t → SameBut [.regs, .seam, .cmt, .tribs, .act, .pairs, .pipes, .epochs, .shapers, .policers, .evt, .tsk, .hif, .timers, .out] s t) ∧
  (∀ x0 (s t : State), exec (.statusReq x0) s = .next t → SameBut [.regs, .seam, .act, .evt, .tsk, .hif, .out] s t) ∧
  (∀ x0 x1 x2 (s t : State), exec (.controlMessageReject x0 x1 x2) s = .next t → SameBut [.regs, .seam, .act, .evt, .tsk, .hif, .out] s t) ∧
  (∀ (s t : State), exec (.announceTimeout) s = .next t → SameBut [.regs, .seam, .cmt, .tribs, .act, .upb, .restarts, .pipes, .epochs, .shapers, .policers, .evt, .tsk, .hif, .timers, .out] s t) ∧
  (∀ (s t : State), exec (.rangingTimeout) s = .next t → SameBut [.regs, .seam, .cmt, .tribs, .act, .upb, .restarts, .pairs, .pipes, .epochs, .shapers, .policers, .evt, .tsk, .hif, .timers, .out] s t) ∧
  (∀ (s t : State), exec (.lossTimeout) s = .next t → SameBut [.regs, .seam, .cmt, .tribs, .act, .upb, .restarts, .pipes, .epochs, .shapers, .policers, .evt, .tsk, .hif, .timers, .out] s t) ∧
  (∀ (s t : State), exec (.holdTimeout) s = .next t → SameBut [.regs, .seam, .cmt, .tribs, .act, .upb, .restarts, .pairs, .pipes, .epochs, .shapers, .policers, .evt, .tsk, .hif, .timers, .out] s t) ∧
  (∀ x0 x1 (s t : State), exec (.actDisable x0 x1) s = .next t → SameBut [.regs, .seam, .cmt, .tribs, .act, .upb, .restarts, .pairs, .pipes, .epochs, .shapers, .policers, .evt, .tsk, .hif, .timers, .resp, .out] s t) ∧
  (∀ x0 x1 x2 (s t : State), exec (.serialWrite x0 x1 x2) s = .next t → SameBut [.regs, .seam, .evt, .tsk, .hif, .resp, .out] s t) ∧
  (∀ x0 x1 (s t : State), exec (.localRel x0 x1) s = .next t → SameBut [.regs, .seam, .cmt, .tribs, .act, .upb, .restarts, .pairs, .pipes, .epochs, .shapers, .policers, .evt, .log, .tsk, .hif, .timers, .resp, .out] s t) ∧
  (∀ x0 (s t : State), exec (.guardTrip x0) s = .next t → SameBut [.regs, .seam, .cmt, .tribs, .act, .upb, .restarts, .txEff, .pipes, .epochs, .shapers, .policers, .evt, .tsk, .hif, .timers, .out, .fresh] s t) ∧
  (∀ x0 (s t : State), exec (.guardFbTrip x0) s = .next t → SameBut [.regs, .seam, .cmt, .tribs, .act, .upb, .restarts, .txEff, .pipes, .epochs, .shapers, .policers, .evt, .tsk, .hif, .timers, .out, .fresh] s t) ∧
  (∀ x0 x1 (s t : State), exec (.guardClr x0 x1) s = .next t → SameBut [.regs, .seam, .cmt, .tribs, .act, .upb, .restarts, .txEff, .pipes, .epochs, .shapers, .policers, .evt, .tsk, .hif, .timers, .resp, .out, .fresh] s t) ∧
  (∀ x0 x1 (s t : State), exec (.guardTest x0 x1) s = .next t → SameBut [.regs, .seam, .cmt, .tribs, .act, .upb, .restarts, .txEff, .pipes, .epochs, .shapers, .policers, .evt, .tsk, .hif, .timers, .resp, .out, .fresh] s t) ∧
  (∀ x0 (s t : State), exec (.upstreamFrameStart x0) s = .next t → SameBut [.regs, .seam, .cmt, .tribs, .act, .upb, .pairs, .pipes, .epochs, .shapers, .policers, .evt, .tsk, .hif, .timers, .out] s t) ∧
  (∀ x0 (s t : State), exec (.burstFix x0) s = .next t → SameBut [.regs, .seam, .cmt, .tribs, .act, .upb, .pairs, .pipes, .epochs, .shapers, .policers, .evt, .tsk, .hif, .timers, .out] s t) ∧
  (∀ x0 (s t : State), exec (.burstStart x0) s = .next t → SameBut [.regs, .seam, .cmt, .tribs, .act, .upb, .txEff, .pipes, .epochs, .bufs, .queues, .shapers, .policers, .lports, .evt, .log, .tsk, .hif, .timers, .out] s t) ∧
  (∀ x0 (s t : State), exec (.burstEnd x0) s = .next t → SameBut [.regs, .seam, .upb, .txEff, .bufs, .queues, .lports, .evt, .log, .tsk, .hif, .out] s t) ∧
  (∀ x0 x1 (s t : State), exec (.packetFragmentStart x0 x1) s = .next t → SameBut [.regs, .mem, .seam, .upb, .pairs, .ecc, .queues, .tim, .evt, .tsk, .hif, .out] s t) ∧
  (∀ x0 (s t : State), exec (.packetRelease x0) s = .next t → SameBut [.regs, .seam, .upb, .bufs, .queues, .lports, .evt, .log, .tsk, .hif, .out] s t) ∧
  (∀ x0 x1 (s t : State), exec (.gsmDataWrite x0 x1) s = .next t → SameBut [.regs, .seam, .gsm, .evt, .tsk, .hif, .resp, .out] s t) ∧
  (∀ x0 x1 (s t : State), exec (.gsmCopy x0 x1) s = .next t → SameBut [.regs, .seam, .evt, .tsk, .hif, .resp, .out] s t) ∧
  (∀ x0 x1 x2 x3 (s t : State), exec (.txConfigWrite x0 x1 x2 x3) s = .next t → SameBut [.regs, .seam, .txEff, .evt, .tsk, .hif, .resp, .out] s t) ∧
  (∀ x0 x1 x2 (s t : State), exec (.txTestWrite x0 x1 x2) s = .next t → SameBut [.regs, .seam, .evt, .tsk, .hif, .resp, .out, .fresh] s t) ∧
  (∀ (s t : State), exec (.unwrapJobComplete) s = .next t → SameBut [.regs, .seam, .act, .pairs, .key, .mxe, .evt, .tsk, .hif, .timers, .out] s t) ∧
  (∀ x0 x1 (s t : State), exec (.keyCmdLink x0 x1) s = .next t → SameBut [.regs, .seam, .act, .key, .evt, .tsk, .hif, .timers, .resp, .out] s t) ∧
  (∀ x0 x1 (s t : State), exec (.keyCmdMemory x0 x1) s = .next t → SameBut [.regs, .seam, .act, .key, .evt, .tsk, .hif, .timers, .resp, .out] s t) ∧
  (∀ x0 x1 (s t : State), exec (.keyCmdWrap x0 x1) s = .next t → SameBut [.regs, .seam, .act, .key, .evt, .tsk, .hif, .timers, .resp, .out] s t) ∧
  (∀ x0 (s t : State), exec (.fuseProgramDone x0) s = .next t → SameBut [.regs, .seam, .act, .key, .evt, .tsk, .hif, .timers, .out] s t) ∧
  (∀ (s t : State), exec (.lockoutEnd) s = .next t → SameBut [.key, .timers] s t) ∧
  (∀ x0 (s t : State), exec (.entropyTestFail x0) s = .next t → SameBut [.regs, .seam, .key, .mxe, .evt, .tsk, .hif, .out] s t) ∧
  (∀ x0 x1 (s t : State), exec (.keyErasePair x0 x1) s = .next t → SameBut [.regs, .seam, .upb, .pairs, .evt, .tsk, .hif, .resp, .out] s t) ∧
  (∀ x0 (s t : State), exec (.keyEraseAll x0) s = .next t → SameBut [.regs, .seam, .upb, .pairs, .evt, .tsk, .hif, .resp, .out] s t) ∧
  (∀ x0 (s t : State), exec (.unwLock x0) s = .next t → SameBut [.regs, .seam, .evt, .tsk, .hif, .resp, .out] s t) ∧
  (∀ x0 x1 (s t : State), exec (.unwCfgWrite x0 x1) s = .next t → SameBut [.regs, .seam, .evt, .tsk, .hif, .resp, .out] s t) ∧
  (∀ x0 (s t : State), exec (.gsSelect x0) s = .next t → SameBut [.regs, .seam, .upb, .restarts, .bufs, .queues, .turns, .elig, .shapers, .lports, .evt, .log, .tsk, .hif, .out] s t) ∧
  (∀ x0 (s t : State), exec (.gateSwitch x0) s = .next t → SameBut [.regs, .seam, .cmt, .tribs, .pipes, .epochs, .shapers, .policers, .evt, .tsk, .hif, .timers, .out] s t) ∧
  (∀ x0 x1 (s t : State), exec (.fcReadLatch x0 x1) s = .next t → SameBut [.regs, .seam, .evt, .tsk, .hif, .resp, .out] s t) ∧
  (∀ (s t : State), exec (.frameSyncEdge) s = .next t → SameBut [.regs, .seam, .tribs, .evt, .tsk, .hif, .out, .fresh] s t) ∧
  (∀ x0 (s t : State), exec (.armWindowOpen x0) s = .next t → SameBut [.regs, .rx] s t) ∧
  (∀ x0 (s t : State), exec (.tribRowTransmit x0) s = .next t → SameBut [.regs, .seam, .tribs, .rows, .evt, .tsk, .hif, .out, .fresh] s t) ∧
  (∀ x0 x1 x2 (s t : State), exec (.readBusError x0 x1 x2) s = .next t → SameBut [.regs, .seam, .tim, .evt, .tsk, .hif, .resp, .out] s t) ∧
  (∀ x0 (s t : State), exec (.sealIntact x0) s = .next t → SameBut [.regs, .seam, .own, .evt, .tsk, .hif, .timers, .out] s t)

/-- For each of the parsing, classification, buffer, memory and scheduling commands, whatever its operands and the state,
every part of the state outside the list given for it is the same in the next state.
(spec/95_what_each_step_holds.md) -/
def Obligations.PartsOfDataPathCommands : Prop :=
  (∀ x0 (s t : State), exec (.parseStart x0) s = .next t → SameBut [.regs, .seam, .cmt, .pipes, .evt, .tsk, .hif, .out] s t) ∧
  (∀ x0 (s t : State), exec (.nop x0) s = .next t → SameBut [.regs, .seam, .pipes, .epochs, .evt, .tsk, .hif, .out] s t) ∧
  (∀ x0 (s t : State), exec (.ld x0) s = .next t → SameBut [.regs, .seam, .pipes, .epochs, .evt, .tsk, .hif, .out] s t) ∧
  (∀ x0 (s t : State), exec (.ldi x0) s = .next t → SameBut [.regs, .seam, .pipes, .epochs, .evt, .tsk, .hif, .out] s t) ∧
  (∀ x0 (s t : State), exec (.ldm x0) s = .next t → SameBut [.regs, .seam, .pipes, .epochs, .evt, .tsk, .hif, .out] s t) ∧
  (∀ x0 (s t : State), exec (.addi x0) s = .next t → SameBut [.regs, .seam, .pipes, .epochs, .evt, .tsk, .hif, .out] s t) ∧
  (∀ x0 (s t : State), exec (.add x0) s = .next t → SameBut [.regs, .seam, .pipes, .epochs, .evt, .tsk, .hif, .out] s t) ∧
  (∀ x0 (s t : State), exec (.andi x0) s = .next t → SameBut [.regs, .seam, .pipes, .epochs, .evt, .tsk, .hif, .out] s t) ∧
  (∀ x0 (s t : State), exec (.shl x0) s = .next t → SameBut [.regs, .seam, .pipes, .epochs, .evt, .tsk, .hif, .out] s t) ∧
  (∀ x0 (s t : State), exec (.shr x0) s = .next t → SameBut [.regs, .seam, .pipes, .epochs, .evt, .tsk, .hif, .out] s t) ∧
  (∀ x0 (s t : State), exec (.jeq x0) s = .next t → SameBut [.regs, .seam, .pipes, .epochs, .evt, .tsk, .hif, .out] s t) ∧
  (∀ x0 (s t : State), exec (.jne x0) s = .next t → SameBut [.regs, .seam, .pipes, .epochs, .evt, .tsk, .hif, .out] s t) ∧
  (∀ x0 (s t : State), exec (.jlt x0) s = .next t → SameBut [.regs, .seam, .pipes, .epochs, .evt, .tsk, .hif, .out] s t) ∧
  (∀ x0 (s t : State), exec (.jmp x0) s = .next t → SameBut [.regs, .seam, .pipes, .epochs, .evt, .tsk, .hif, .out] s t) ∧
  (∀ x0 (s t : State), exec (.ext x0) s = .next t → SameBut [.regs, .seam, .pipes, .epochs, .evt, .tsk, .hif, .out] s t) ∧
  (∀ x0 (s t : State), exec (.kst x0) s = .next t → SameBut [.regs, .seam, .pipes, .epochs, .evt, .tsk, .hif, .out] s t) ∧
  (∀ x0 (s t : State), exec (.hdr x0) s = .next t → SameBut [.regs, .seam, .pipes, .epochs, .evt, .tsk, .hif, .out] s t) ∧
  (∀ x0 (s t : State), exec (.lchk x0) s = .next t → SameBut [.regs, .seam, .pipes, .epochs, .evt, .tsk, .hif, .out] s t) ∧
  (∀ x0 (s t : State), exec (.flag x0) s = .next t → SameBut [.regs, .seam, .pipes, .epochs, .evt, .tsk, .hif, .out] s t) ∧
  (∀ x0 (s t : State), exec (.done x0) s = .next t → SameBut [.regs, .seam, .pipes, .epochs, .evt, .tsk, .hif, .out] s t) ∧
  (∀ x0 (s t : State), exec (.mal x0) s = .next t → SameBut [.regs, .seam, .pipes, .epochs, .evt, .tsk, .hif, .out] s t) ∧
  (∀ x0 (s t : State), exec (.illegalOpcode x0) s = .next t → SameBut [.regs, .seam, .pipes, .epochs, .evt, .tsk, .hif, .out] s t) ∧
  (∀ x0 (s t : State), exec (.stepBudgetFault x0) s = .next t → SameBut [.regs, .seam, .pipes, .evt, .tsk, .hif, .out] s t) ∧
  (∀ x0 (s t : State), exec (.programFetchUe x0) s = .next t → SameBut [.regs, .seam, .pipes, .epochs, .evt, .tsk, .hif, .out] s t) ∧
  (∀ x0 (s t : State), exec (.fixedExtract x0) s = .next t → SameBut [.regs, .seam, .pipes, .epochs, .evt, .tsk, .hif, .out] s t) ∧
  (∀ x0 x1 (s t : State), exec (.classifyWalk x0 x1) s = .next t → SameBut [.regs, .seam, .pipes, .epochs, .rcnt, .evt, .tsk, .hif, .out] s t) ∧
  (∀ x0 (s t : State), exec (.recirculate x0) s = .next t → SameBut [.regs, .seam, .pipes, .epochs, .evt, .tsk, .hif, .out] s t) ∧
  (∀ x0 x1 (s t : State), exec (.flowLookup x0 x1) s = .next t → SameBut [.regs, .mem, .seam, .pipes, .ecc, .evt, .tsk, .hif, .out] s t) ∧
  (∀ x0 x1 (s t : State), exec (.flowAge x0 x1) s = .next t → SameBut [.regs, .mem, .ecc, .out] s t) ∧
  (∀ x0 x1 x2 (s t : State), exec (.flowRead x0 x1 x2) s = .next t → SameBut [.regs, .mem, .seam, .ecc, .evt, .tsk, .hif, .resp, .out] s t) ∧
  (∀ x0 x1 (s t : State), exec (.flowWrite x0 x1) s = .next t → SameBut [.regs, .mem, .seam, .ecc, .evt, .tsk, .hif, .resp, .out] s t) ∧
  (∀ x0 x1 (s t : State), exec (.flowInvalidate x0 x1) s = .next t → SameBut [.regs, .mem, .seam, .ecc, .evt, .tsk, .hif, .resp, .out] s t) ∧
  (∀ x0 x1 (s t : State), exec (.treeDataWrite x0 x1) s = .next t → SameBut [.regs, .mem, .seam, .evt, .tsk, .hif, .resp, .out] s t) ∧
  (∀ x0 x1 x2 x3 x4 (s t : State), exec (.coreTreeStore x0 x1 x2 x3 x4) s = .next t → SameBut [.regs, .mem, .tsk, .cpu, .resp] s t) ∧
  (∀ x0 x1 (s t : State), exec (.progDataWrite x0 x1) s = .next t → SameBut [.regs, .seam, .prog, .evt, .tsk, .hif, .resp, .out] s t) ∧
  (∀ x0 x1 (s t : State), exec (.progCopy x0 x1) s = .next t → SameBut [.regs, .seam, .evt, .tsk, .hif, .resp, .out] s t) ∧
  (∀ x0 (s t : State), exec (.bufferAllocate x0) s = .next t → SameBut [.regs, .mem, .seam, .nextPkt, .pipes, .excWait, .bufs, .bufRot, .ecc, .evt, .log, .tsk, .hif, .out, .fresh] s t) ∧
  (∀ x0 x1 (s t : State), exec (.bufShare x0 x1) s = .next t → SameBut [.regs, .seam, .bufs, .bufRot, .lports, .evt, .log, .tsk, .hif, .resp, .out, .fresh] s t) ∧
  (∀ x0 x1 (s t : State), exec (.bufRelease x0 x1) s = .next t → SameBut [.regs, .seam, .bufs, .bufRot, .lports, .evt, .log, .tsk, .hif, .resp, .out, .fresh] s t) ∧
  (∀ x0 x1 (s t : State), exec (.bufFree x0 x1) s = .next t → SameBut [.regs, .seam, .bufs, .bufRot, .lports, .evt, .log, .tsk, .hif, .resp, .out, .fresh] s t) ∧
  (∀ x0 x1 (s t : State), exec (.bufQuery x0 x1) s = .next t → SameBut [.regs, .seam, .bufs, .bufRot, .lports, .evt, .log, .tsk, .hif, .resp, .out, .fresh] s t) ∧
  (∀ x0 x1 (s t : State), exec (.bufAlloc x0 x1) s = .next t → SameBut [.regs, .seam, .bufs, .bufRot, .lports, .evt, .log, .tsk, .hif, .resp, .out, .fresh] s t) ∧
  (∀ x0 x1 (s t : State), exec (.bpmEnable x0 x1) s = .next t → SameBut [.regs, .seam, .evt, .tsk, .hif, .resp, .out] s t) ∧
  (∀ x0 x1 x2 (s t : State), exec (.onpCntWrite x0 x1 x2) s = .next t → SameBut [.regs, .seam, .evt, .tsk, .hif, .resp, .out] s t) ∧
  (∀ x0 x1 x2 x3 (s t : State), exec (.extRegWrite x0 x1 x2 x3) s = .next t → SameBut [.regs, .seam, .evt, .tsk, .hif, .resp, .out] s t) ∧
  (∀ x0 x1 (s t : State), exec (.qmapDataWrite x0 x1) s = .next t → SameBut [.regs, .seam, .qmap, .evt, .tsk, .hif, .resp, .out] s t) ∧
  (∀ x0 x1 (s t : State), exec (.qmapCopy x0 x1) s = .next t → SameBut [.regs, .seam, .evt, .tsk, .hif, .resp, .out] s t) ∧
  (∀ x0 x1 x2 (s t : State), exec (.memoryRead x0 x1 x2) s = .next t → SameBut [.regs, .seam, .ecc, .evt, .log, .tsk, .hif, .resp, .out] s t) ∧
  (∀ x0 x1 x2 (s t : State), exec (.memoryWrite x0 x1 x2) s = .next t → SameBut [.regs, .mem, .seam, .ecc, .evt, .tsk, .cpu, .hif, .resp, .out] s t) ∧
  (∀ x0 x1 (s t : State), exec (.narrowWrite x0 x1) s = .next t → SameBut [.regs, .seam, .ecc, .evt, .log, .tsk, .hif, .resp, .out] s t) ∧
  (∀ x0 x1 x2 x3 (s t : State), exec (.lineFill x0 x1 x2 x3) s = .next t → SameBut [.regs, .mem, .seam, .ecc, .evt, .log, .tsk, .cpu, .hif, .resp, .out, .fresh] s t) ∧
  (∀ x0 (s t : State), exec (.fillLine x0) s = .next t → SameBut [.regs, .mem, .seam, .memch, .ecc, .evt, .tsk, .hif, .out] s t) ∧
  (∀ x0 x1 (s t : State), exec (.scrubRead x0 x1) s = .next t → SameBut [.regs, .seam, .ecc, .evt, .log, .tsk, .hif, .out] s t) ∧
  (∀ x0 x1 (s t : State), exec (.retire x0 x1) s = .next t → SameBut [.regs, .seam, .ecc, .evt, .log, .tsk, .hif, .resp, .out] s t) ∧
  (∀ x0 x1 (s t : State), exec (.clearList x0 x1) s = .next t → SameBut [.regs, .seam, .ecc, .evt, .log, .tsk, .hif, .resp, .out] s t) ∧
  (∀ x0 x1 (s t : State), exec (.trackClr x0 x1) s = .next t → SameBut [.regs, .seam, .ecc, .evt, .tsk, .hif, .resp, .out] s t) ∧
  (∀ x0 x1 (s t : State), exec (.rekey x0 x1) s = .next t → SameBut [.regs, .seam, .ecc, .mxe, .evt, .log, .tsk, .hif, .resp, .out, .fresh] s t) ∧
  (∀ x0 x1 (s t : State), exec (.fresh x0 x1) s = .next t → SameBut [.regs, .seam, .ecc, .mxe, .evt, .log, .tsk, .hif, .resp, .out, .fresh] s t) ∧
  (∀ x0 x1 (s t : State), exec (.rekeyLine x0 x1) s = .next t → SameBut [.regs, .seam, .ecc, .mxe, .evt, .log, .tsk, .hif, .out] s t) ∧
  (∀ x0 x1 x2 (s t : State), exec (.memTrain x0 x1 x2) s = .next t → SameBut [.regs, .seam, .bufs, .memch, .ecc, .mxe, .evt, .log, .tsk, .hif, .resp, .out] s t) ∧
  (∀ x0 x1 x2 (s t : State), exec (.memWithdraw x0 x1 x2) s = .next t → SameBut [.regs, .seam, .bufs, .memch, .ecc, .mxe, .evt, .log, .tsk, .hif, .resp, .out] s t) ∧
  (∀ x0 x1 x2 x3 (s t : State), exec (.skipWindowWrite x0 x1 x2 x3) s = .next t → SameBut [.regs, .seam, .evt, .tsk, .hif, .resp, .out] s t) ∧
  (∀ x0 (s t : State), exec (.enqueue x0) s = .next t → SameBut [.regs, .seam, .pipes, .bufs, .queues, .lports, .evt, .log, .tsk, .hif, .out] s t) ∧
  (∀ x0 (s t : State), exec (.police x0) s = .next t → SameBut [.regs, .pipes, .policers] s t) ∧
  (∀ x0 x1 x2 (s t : State), exec (.gateShadowWrite x0 x1 x2) s = .next t → SameBut [.regs, .seam, .gates, .evt, .tsk, .hif, .resp, .out] s t) ∧
  (∀ x0 x1 (s t : State), exec (.gateCopy x0 x1) s = .next t → SameBut [.regs, .seam, .gateBusy, .evt, .tsk, .hif, .resp, .out] s t) ∧
  (∀ x0 x1 (s t : State), exec (.hwmClr x0 x1) s = .next t → SameBut [.regs, .seam, .evt, .tsk, .hif, .resp, .out] s t) ∧
  (∀ x0 x1 (s t : State), exec (.hwmClrAll x0 x1) s = .next t → SameBut [.regs, .seam, .evt, .tsk, .hif, .resp, .out] s t) ∧
  (∀ x0 x1 (s t : State), exec (.shpEnable x0 x1) s = .next t → SameBut [.regs, .seam, .shapers, .evt, .tsk, .hif, .resp, .out] s t) ∧
  (∀ x0 (s t : State), exec (.retCmdDone x0) s = .next t → SameBut [.regs, .seam, .ecc, .evt, .log, .tsk, .hif, .out, .fresh] s t)

/-- For each of the lane, port, time and PTP commands, whatever its operands and the state, every part of the state
outside the list given for it is the same in the next state. (spec/95_what_each_step_holds.md) -/
def Obligations.PartsOfPortAndTimeCommands : Prop :=
  (∀ x0 (s t : State), exec (.laneSelect x0) s = .next t → SameBut [.regs, .mem, .seam, .bufs, .ecc, .queues, .turns, .elig, .shapers, .lanes, .lports, .tim, .evt, .log, .tsk, .hif, .out] s t) ∧
  (∀ x0 (s t : State), exec (.portSelect x0) s = .next t → SameBut [.regs, .mem, .seam, .bufs, .ecc, .queues, .elig, .lanes, .lports, .tim, .evt, .log, .tsk, .hif, .out] s t) ∧
  (∀ x0 x1 x2 (s t : State), exec (.laneCtlWrite x0 x1 x2) s = .next t → SameBut [.regs, .seam, .rows, .lanes, .evt, .tsk, .hif, .timers, .resp, .out] s t) ∧
  (∀ x0 x1 x2 (s t : State), exec (.laneSleep x0 x1 x2) s = .next t → SameBut [.regs, .seam, .rows, .lanes, .evt, .tsk, .hif, .timers, .resp, .out] s t) ∧
  (∀ x0 x1 x2 (s t : State), exec (.laneWake x0 x1 x2) s = .next t → SameBut [.regs, .seam, .rows, .lanes, .evt, .tsk, .hif, .timers, .resp, .out] s t) ∧
  (∀ x0 x1 x2 (s t : State), exec (.laneRecal x0 x1 x2) s = .next t → SameBut [.regs, .seam, .rows, .lanes, .evt, .tsk, .hif, .timers, .resp, .out] s t) ∧
  (∀ x0 x1 x2 (s t : State), exec (.laneRecalAbort x0 x1 x2) s = .next t → SameBut [.regs, .seam, .rows, .lanes, .evt, .tsk, .hif, .timers, .resp, .out] s t) ∧
  (∀ x0 x1 x2 (s t : State), exec (.laneRetrain x0 x1 x2) s = .next t → SameBut [.regs, .seam, .rows, .lanes, .evt, .tsk, .hif, .timers, .resp, .out] s t) ∧
  (∀ x0 x1 x2 (s t : State), exec (.negotiationComplete x0 x1 x2) s = .next t → SameBut [.lanes, .timers] s t) ∧
  (∀ x0 (s t : State), exec (.linkTrainingComplete x0) s = .next t → SameBut [.lanes, .timers] s t) ∧
  (∀ x0 (s t : State), exec (.linkTrainingTimeout x0) s = .next t → SameBut [.regs, .seam, .lanes, .evt, .tsk, .hif, .timers, .out] s t) ∧
  (∀ x0 (s t : State), exec (.pcsLock x0) s = .next t → SameBut [.regs, .seam, .lanes, .evt, .tsk, .hif, .timers, .out] s t) ∧
  (∀ x0 (s t : State), exec (.pcsLockLoss x0) s = .next t → SameBut [.regs, .seam, .lanes, .evt, .tsk, .hif, .timers, .out] s t) ∧
  (∀ x0 (s t : State), exec (.recalRun x0) s = .next t → SameBut [.lanes, .timers] s t) ∧
  (∀ x0 (s t : State), exec (.recalEnd x0) s = .next t → SameBut [.regs, .seam, .lanes, .evt, .tsk, .hif, .timers, .out] s t) ∧
  (∀ x0 (s t : State), exec (.wakeOnSignal x0) s = .next t → SameBut [.lanes, .timers] s t) ∧
  (∀ x0 (s t : State), exec (.wakeOnQueue x0) s = .next t → SameBut [.lanes, .timers] s t) ∧
  (∀ x0 (s t : State), exec (.pllReady x0) s = .next t → SameBut [.regs, .seam, .lanes, .evt, .tsk, .hif, .timers, .out] s t) ∧
  (∀ (s t : State), exec (.refLoss) s = .next t → SameBut [.regs, .seam, .lanes, .evt, .tsk, .hif, .pins, .timers, .out] s t) ∧
  (∀ (s t : State), exec (.refReturn) s = .next t → SameBut [.pins] s t) ∧
  (∀ x0 x1 (s t : State), exec (.frameReceive x0 x1) s = .next t → SameBut [.regs, .seam, .cmt, .nextPkt, .pipes, .lanes, .lports, .evt, .tsk, .hif, .timers, .out] s t) ∧
  (∀ x0 x1 (s t : State), exec (.pauseReceive x0 x1) s = .next t → SameBut [.regs, .seam, .lanes, .lports, .evt, .tsk, .hif, .timers, .out] s t) ∧
  (∀ x0 x1 x2 (s t : State), exec (.pfcReceive x0 x1 x2) s = .next t → SameBut [.regs, .seam, .lanes, .lports, .evt, .tsk, .hif, .timers, .out] s t) ∧
  (∀ x0 x1 (s t : State), exec (.pauseTimerExpire x0 x1) s = .next t → SameBut [.timers] s t) ∧
  (∀ x0 (s t : State), exec (.pauseSend x0) s = .next t → SameBut [.regs, .lanes, .lports, .out] s t) ∧
  (∀ x0 (s t : State), exec (.pauseRefresh x0) s = .next t → SameBut [.regs, .out] s t) ∧
  (∀ x0 (s t : State), exec (.txUnderrun x0) s = .next t → SameBut [.regs, .seam, .rows, .bufs, .queues, .lanes, .lports, .evt, .log, .tsk, .hif, .timers, .out] s t) ∧
  (∀ x0 (s t : State), exec (.frameTransmitEnd x0) s = .next t → SameBut [.regs, .seam, .rows, .bufs, .queues, .lanes, .lports, .evt, .log, .tsk, .hif, .timers, .out] s t) ∧
  (∀ x0 x1 x2 (s t : State), exec (.collision x0 x1 x2) s = .next t → SameBut [.regs, .seam, .rows, .bufs, .queues, .lanes, .lports, .evt, .log, .tsk, .hif, .timers, .out] s t) ∧
  (∀ x0 (s t : State), exec (.backoffExpire x0) s = .next t → SameBut [.lports, .timers] s t) ∧
  (∀ x0 (s t : State), exec (.cxBpStart x0) s = .next t → SameBut [.regs, .lports] s t) ∧
  (∀ x0 x1 x2 x3 (s t : State), exec (.phyPoll x0 x1 x2 x3) s = .next t → SameBut [.regs, .seam, .lports, .evt, .tsk, .hif, .out] s t) ∧
  (∀ x0 (s t : State), exec (.portStepDown x0) s = .next t → SameBut [.regs, .seam, .lports, .evt, .tsk, .hif, .out] s t) ∧
  (∀ x0 (s t : State), exec (.portStepUp x0) s = .next t → SameBut [.regs, .seam, .lports, .evt, .tsk, .hif, .out] s t) ∧
  (∀ x0 x1 (s t : State), exec (.mdioWrite x0 x1) s = .next t → SameBut [.regs, .seam, .mdio, .evt, .tsk, .hif, .resp, .out] s t) ∧
  (∀ x0 x1 (s t : State), exec (.mdioRead x0 x1) s = .next t → SameBut [.regs, .seam, .mdio, .evt, .tsk, .hif, .resp, .out] s t) ∧
  (∀ x0 x1 (s t : State), exec (.mdioFrameDone x0 x1) s = .next t → SameBut [.regs, .seam, .mdio, .evt, .tsk, .hif, .out] s t) ∧
  (∀ (s t : State), exec (.servoHoldTimeout) s = .next t → SameBut [.regs, .seam, .tim, .evt, .tsk, .hif, .timers, .out] s t) ∧
  (∀ x0 x1 (s t : State), exec (.servoDisable x0 x1) s = .next t → SameBut [.regs, .seam, .tim, .evt, .tsk, .hif, .timers, .resp, .out] s t) ∧
  (∀ x0 x1 (s t : State), exec (.stepByRefused x0 x1) s = .next t → SameBut [.regs, .seam, .lanes, .tim, .evt, .tsk, .hif, .clock, .timers, .resp, .out] s t) ∧
  (∀ x0 x1 (s t : State), exec (.stepToTime x0 x1) s = .next t → SameBut [.regs, .seam, .lanes, .tim, .evt, .tsk, .hif, .clock, .timers, .resp, .out] s t) ∧
  (∀ x0 x1 (s t : State), exec (.stepByAmount x0 x1) s = .next t → SameBut [.regs, .seam, .lanes, .tim, .evt, .tsk, .hif, .clock, .timers, .resp, .out] s t) ∧
  (∀ (s t : State), exec (.stepApply) s = .next t → SameBut [.regs, .seam, .lanes, .tim, .evt, .tsk, .hif, .clock, .timers, .out] s t) ∧
  (∀ x0 x1 (s t : State), exec (.switchA x0 x1) s = .next t → SameBut [.regs, .seam, .lanes, .tim, .evt, .tsk, .hif, .clock, .timers, .resp, .out] s t) ∧
  (∀ x0 x1 (s t : State), exec (.switchB x0 x1) s = .next t → SameBut [.regs, .seam, .lanes, .tim, .evt, .tsk, .hif, .clock, .timers, .resp, .out] s t) ∧
  (∀ x0 x1 (s t : State), exec (.bSample x0 x1) s = .next t → SameBut [.regs, .seam, .tim, .evt, .tsk, .hif, .timers, .resp, .out, .fresh] s t) ∧
  (∀ (s t : State), exec (.bStale) s = .next t → SameBut [.regs, .seam, .tim, .evt, .tsk, .hif, .timers, .out] s t) ∧
  (∀ x0 (s t : State), exec (.rtcTrimMeasure x0) s = .next t → SameBut [.regs] s t) ∧
  (∀ (s t : State), exec (.rtcFail) s = .next t → SameBut [.regs, .seam, .tim, .evt, .tsk, .hif, .out] s t) ∧
  (∀ x0 (s t : State), exec (.fuEntryExpire x0) s = .next t → SameBut [.tim] s t) ∧
  (∀ x0 (s t : State), exec (.txtsRead x0) s = .next t → SameBut [.regs, .seam, .tim, .evt, .tsk, .hif, .resp, .out] s t) ∧
  (∀ x0 (s t : State), exec (.timeReadLatch x0) s = .next t → SameBut [.regs, .seam, .evt, .tsk, .hif, .resp, .out] s t) ∧
  (∀ x0 (s t : State), exec (.rtcReadLatch x0) s = .next t → SameBut [.regs, .seam, .evt, .tsk, .hif, .resp, .out] s t) ∧
  (∀ (s t : State), exec (.ppsEdge) s = .next t → SameBut [.regs, .seam, .tim, .evt, .tsk, .hif, .out] s t) ∧
  (∀ (s t : State), exec (.todUartMessage) s = .next t → SameBut [.tim, .out] s t)

/-- For each of the dispatcher, event, power, boot and host commands, whatever its operands and the state, every part of
the state outside the list given for it is the same in the next state. (spec/95_what_each_step_holds.md) -/
def Obligations.PartsOfSystemCommands : Prop :=
  (∀ x0 x1 x2 (s t : State), exec (.cntClr x0 x1 x2) s = .next t → SameBut [.regs, .shown, .seam, .rcnt, .rcntHeld, .evt, .tsk, .hif, .resp, .out] s t) ∧
  (∀ x0 x1 x2 (s t : State), exec (.cntHold x0 x1 x2) s = .next t → SameBut [.regs, .shown, .seam, .rcnt, .rcntHeld, .evt, .tsk, .hif, .resp, .out] s t) ∧
  (∀ x0 x1 x2 (s t : State), exec (.evtOutSet x0 x1 x2) s = .next t → SameBut [.regs, .shown, .seam, .rcnt, .rcntHeld, .evt, .tsk, .hif, .resp, .out] s t) ∧
  (∀ x0 x1 x2 x3 (s t : State), exec (.evtRawClear x0 x1 x2 x3) s = .next t → SameBut [.regs, .seam, .evt, .tsk, .hif, .resp, .out] s t) ∧
  (∀ x0 x1 x2 (s t : State), exec (.evtMaskWrite x0 x1 x2) s = .next t → SameBut [.regs, .seam, .evt, .tsk, .hif, .resp, .out] s t) ∧
  (∀ x0 x1 x2 (s t : State), exec (.evtForce x0 x1 x2) s = .next t → SameBut [.regs, .seam, .evt, .tsk, .hif, .resp, .out] s t) ∧
  (∀ x0 x1 (s t : State), exec (.trainingDone x0 x1) s = .next t → SameBut [.regs, .seam, .cmt, .rx, .dsf, .tribs, .act, .upb, .restarts, .pairs, .pipes, .epochs, .bufs, .memch, .ecc, .mxe, .shapers, .policers, .tim, .evt, .log, .tsk, .pwr, .rst, .hif, .clock, .timers, .out, .fresh] s t) ∧
  (∀ x0 x1 (s t : State), exec (.trainingFail x0 x1) s = .next t → SameBut [.regs, .seam, .cmt, .rx, .dsf, .tribs, .act, .upb, .restarts, .pairs, .pipes, .epochs, .bufs, .memch, .ecc, .mxe, .shapers, .policers, .tim, .evt, .log, .tsk, .pwr, .rst, .hif, .clock, .timers, .out, .fresh] s t) ∧
  (∀ x0 (s t : State), exec (.take x0) s = .next t → SameBut [.tsk, .resp] s t) ∧
  (∀ x0 x1 (s t : State), exec (.itemDone x0 x1) s = .next t → SameBut [.tsk, .resp] s t) ∧
  (∀ x0 x1 (s t : State), exec (.yield x0 x1) s = .next t → SameBut [.tsk, .resp] s t) ∧
  (∀ x0 x1 x2 (s t : State), exec (.portPost x0 x1 x2) s = .next t → SameBut [.tsk, .resp] s t) ∧
  (∀ x0 x1 (s t : State), exec (.portCancel x0 x1) s = .next t → SameBut [.tsk, .resp] s t) ∧
  (∀ x0 (s t : State), exec (.causeRead x0) s = .next t → SameBut [.tsk, .resp] s t) ∧
  (∀ x0 x1 (s t : State), exec (.tskPost x0 x1) s = .next t → SameBut [.regs, .seam, .evt, .tsk, .hif, .resp, .out] s t) ∧
  (∀ x0 x1 (s t : State), exec (.tskCancel x0 x1) s = .next t → SameBut [.regs, .seam, .evt, .tsk, .hif, .resp, .out] s t) ∧
  (∀ (s t : State), exec (.postApply) s = .next t → SameBut [.tsk] s t) ∧
  (∀ x0 x1 x2 (s t : State), exec (.itemCfgWrite x0 x1 x2) s = .next t → SameBut [.regs, .seam, .evt, .tsk, .hif, .resp, .out] s t) ∧
  (∀ x0 x1 (s t : State), exec (.tskEnable x0 x1) s = .next t → SameBut [.regs, .seam, .evt, .tsk, .hif, .resp, .out] s t) ∧
  (∀ (s t : State), exec (.excDescriptorWrite) s = .next t → SameBut [.regs, .mem, .seam, .excWait, .bufs, .ecc, .lports, .evt, .log, .tsk, .cpu, .hif, .out] s t) ∧
  (∀ x0 x1 (s t : State), exec (.excTailWrite x0 x1) s = .next t → SameBut [.regs, .seam, .bufs, .evt, .tsk, .cpu, .hif, .resp, .out] s t) ∧
  (∀ x0 x1 (s t : State), exec (.injectPath x0 x1) s = .next t → SameBut [.regs, .seam, .cmt, .nextPkt, .pipes, .bufs, .queues, .lports, .evt, .log, .tsk, .hif, .resp, .out] s t) ∧
  (∀ x0 x1 (s t : State), exec (.injectDirect x0 x1) s = .next t → SameBut [.regs, .seam, .cmt, .nextPkt, .pipes, .bufs, .queues, .lports, .evt, .log, .tsk, .hif, .resp, .out] s t) ∧
  (∀ x0 x1 x2 (s t : State), exec (.xwinWrite x0 x1 x2) s = .next t → SameBut [.regs, .seam, .evt, .tsk, .hif, .resp, .out] s t) ∧
  (∀ x0 x1 (s t : State), exec (.eventFire x0 x1) s = .next t → SameBut [.regs, .seam, .evt, .tsk, .hif, .out] s t) ∧
  (∀ x0 (s t : State), exec (.recRead x0) s = .next t → SameBut [.regs, .seam, .evt, .tsk, .hif, .resp, .out] s t) ∧
  (∀ x0 x1 x2 (s t : State), exec (.msixArm x0 x1 x2) s = .next t → SameBut [.regs, .seam, .evt, .tsk, .hif, .resp, .out] s t) ∧
  (∀ x0 x1 (s t : State), exec (.evtEnable x0 x1) s = .next t → SameBut [.regs, .seam, .evt, .tsk, .hif, .resp, .out] s t) ∧
  (∀ x0 (s t : State), exec (.logPageProgram x0) s = .next t → SameBut [.regs, .shown, .mirror, .seam, .cmt, .own, .rx, .dsf, .tmap, .tribs, .tfrags, .rows, .ttest, .act, .upb, .restarts, .gsm, .txEff, .pairs, .key, .dark, .pipes, .epochs, .prog, .rcnt, .rcntHeld, .excWait, .bufs, .bufRot, .qmap, .memch, .ecc, .mxe, .queues, .turns, .elig, .shapers, .policers, .gates, .gateBusy, .lanes, .lports, .mdio, .tim, .evt, .log, .tsk, .cpu, .pwr, .rst, .sys, .hif, .clock, .timers, .out] s t) ∧
  (∀ (s t : State), exec (.logSectorErase) s = .next t → SameBut [.log, .out] s t) ∧
  (∀ (s t : State), exec (.powerFailAssert) s = .next t → SameBut [.regs, .seam, .ecc, .evt, .log, .tsk, .hif, .out] s t) ∧
  (∀ x0 (s t : State), exec (.powerFailFlushDone x0) s = .next t → SameBut [.regs, .shown, .mirror, .seam, .cmt, .own, .rx, .dsf, .tmap, .tribs, .tfrags, .rows, .ttest, .act, .upb, .restarts, .gsm, .txEff, .pairs, .key, .dark, .pipes, .epochs, .prog, .rcnt, .rcntHeld, .excWait, .bufs, .bufRot, .qmap, .memch, .ecc, .mxe, .queues, .turns, .elig, .shapers, .policers, .gates, .gateBusy, .lanes, .lports, .mdio, .tim, .evt, .log, .tsk, .cpu, .pwr, .rst, .sys, .hif, .clock, .timers, .out] s t) ∧
  (∀ (s t : State), exec (.powerFailClear) s = .next t → SameBut [.regs, .seam, .evt, .log, .tsk, .hif, .out] s t) ∧
  (∀ x0 x1 (s t : State), exec (.levelWrite x0 x1) s = .next t → SameBut [.regs, .seam, .evt, .tsk, .pwr, .hif, .resp, .out] s t) ∧
  (∀ x0 (s t : State), exec (.regulatorAck x0) s = .next t → SameBut [.regs, .seam, .cmt, .rx, .dsf, .tribs, .act, .upb, .restarts, .pairs, .pipes, .epochs, .memch, .shapers, .policers, .tim, .evt, .tsk, .pwr, .rst, .hif, .clock, .timers, .out] s t) ∧
  (∀ x0 (s t : State), exec (.pmbusAttemptTimeout x0) s = .next t → SameBut [.regs, .seam, .evt, .tsk, .pwr, .hif, .out] s t) ∧
  (∀ x0 x1 (s t : State), exec (.doze x0 x1) s = .next t → SameBut [.regs, .seam, .cmt, .rx, .dsf, .tribs, .act, .upb, .restarts, .pairs, .pipes, .epochs, .memch, .shapers, .policers, .tim, .evt, .tsk, .pwr, .rst, .hif, .clock, .timers, .resp, .out] s t) ∧
  (∀ x0 x1 (s t : State), exec (.nap x0 x1) s = .next t → SameBut [.regs, .seam, .cmt, .rx, .dsf, .tribs, .act, .upb, .restarts, .pairs, .pipes, .epochs, .memch, .shapers, .policers, .tim, .evt, .tsk, .pwr, .rst, .hif, .clock, .timers, .resp, .out] s t) ∧
  (∀ x0 x1 (s t : State), exec (.deep x0 x1) s = .next t → SameBut [.regs, .seam, .cmt, .rx, .dsf, .tribs, .act, .upb, .restarts, .pairs, .pipes, .epochs, .memch, .shapers, .policers, .tim, .evt, .tsk, .pwr, .rst, .hif, .clock, .timers, .resp, .out] s t) ∧
  (∀ x0 x1 (s t : State), exec (.wake x0 x1) s = .next t → SameBut [.regs, .seam, .cmt, .rx, .dsf, .tribs, .act, .upb, .restarts, .pairs, .pipes, .epochs, .memch, .shapers, .policers, .tim, .evt, .tsk, .pwr, .rst, .hif, .clock, .timers, .resp, .out] s t) ∧
  (∀ x0 x1 (s t : State), exec (.leaveLimp x0 x1) s = .next t → SameBut [.regs, .seam, .cmt, .rx, .dsf, .tribs, .act, .upb, .restarts, .pairs, .pipes, .epochs, .memch, .shapers, .policers, .tim, .evt, .tsk, .pwr, .rst, .hif, .clock, .timers, .resp, .out] s t) ∧
  (∀ (s t : State), exec (.sleepEntry) s = .next t → SameBut [.regs, .shown, .mirror, .seam, .cmt, .own, .rx, .dsf, .tmap, .tribs, .tfrags, .rows, .ttest, .act, .upb, .restarts, .gsm, .txEff, .pairs, .key, .dark, .pipes, .epochs, .prog, .rcnt, .rcntHeld, .excWait, .bufs, .bufRot, .qmap, .memch, .ecc, .mxe, .queues, .turns, .elig, .shapers, .policers, .gates, .gateBusy, .lanes, .lports, .mdio, .tim, .evt, .log, .tsk, .cpu, .pwr, .rst, .sys, .hif, .pins, .clock, .timers, .out, .fresh] s t) ∧
  (∀ (s t : State), exec (.sleepWaitTimeout) s = .next t → SameBut [.regs, .seam, .evt, .tsk, .pwr, .hif, .timers, .out] s t) ∧
  (∀ (s t : State), exec (.dozeAutoExit) s = .next t → SameBut [.regs, .seam, .cmt, .rx, .dsf, .tribs, .act, .upb, .restarts, .pairs, .pipes, .epochs, .memch, .shapers, .policers, .tim, .evt, .tsk, .pwr, .rst, .hif, .clock, .timers, .out] s t) ∧
  (∀ x0 (s t : State), exec (.wakeSource x0) s = .next t → SameBut [.regs, .seam, .cmt, .rx, .dsf, .tribs, .act, .upb, .restarts, .pairs, .pipes, .epochs, .memch, .shapers, .policers, .tim, .evt, .tsk, .pwr, .rst, .hif, .clock, .timers, .out] s t) ∧
  (∀ (s t : State), exec (.oscReadyRise) s = .next t → SameBut [.regs, .seam, .cmt, .rx, .dsf, .tribs, .act, .upb, .restarts, .pairs, .pipes, .epochs, .memch, .shapers, .policers, .tim, .evt, .tsk, .pwr, .rst, .hif, .pins, .clock, .timers, .out] s t) ∧
  (∀ (s t : State), exec (.oscTimeout) s = .next t → SameBut [.regs, .seam, .cmt, .rx, .dsf, .tribs, .act, .upb, .restarts, .txEff, .pairs, .pipes, .epochs, .memch, .shapers, .policers, .tim, .evt, .tsk, .pwr, .rst, .hif, .clock, .timers, .out, .fresh] s t) ∧
  (∀ x0 (s t : State), exec (.domainPowerGood x0) s = .next t → SameBut [.regs, .seam, .cmt, .rx, .dsf, .tribs, .act, .upb, .restarts, .pairs, .pipes, .epochs, .memch, .shapers, .policers, .tim, .evt, .tsk, .pwr, .rst, .hif, .clock, .timers, .out] s t) ∧
  (∀ x0 (s t : State), exec (.domainTimeout x0) s = .next t → SameBut [.regs, .seam, .cmt, .rx, .dsf, .tribs, .act, .upb, .restarts, .pairs, .pipes, .epochs, .shapers, .policers, .tim, .evt, .tsk, .pwr, .rst, .hif, .clock, .timers, .out] s t) ∧
  (∀ (s t : State), exec (.powerOn) s = .next t → SameBut [.regs, .shown, .mirror, .mem, .seam, .cmt, .own, .rx, .dsf, .tmap, .tribs, .tfrags, .rows, .ttest, .act, .upb, .restarts, .gsm, .txEff, .pairs, .key, .dark, .pipes, .epochs, .prog, .rcnt, .rcntHeld, .excWait, .bufs, .bufRot, .qmap, .memch, .ecc, .mxe, .queues, .turns, .elig, .shapers, .policers, .gates, .gateBusy, .lanes, .lports, .mdio, .tim, .evt, .log, .tsk, .cpu, .pwr, .rst, .sys, .hif, .clock, .timers, .out] s t) ∧
  (∀ (s t : State), exec (.powerLoss) s = .next t → SameBut [.regs, .shown, .mirror, .mem, .seam, .cmt, .own, .rx, .dsf, .tmap, .tribs, .tfrags, .rows, .ttest, .act, .upb, .restarts, .gsm, .txEff, .pairs, .key, .dark, .pipes, .epochs, .prog, .rcnt, .rcntHeld, .excWait, .bufs, .bufRot, .qmap, .memch, .ecc, .mxe, .queues, .turns, .elig, .shapers, .policers, .gates, .gateBusy, .lanes, .lports, .mdio, .tim, .evt, .log, .tsk, .cpu, .pwr, .rst, .sys, .hif, .pins, .clock, .timers] s t) ∧
  (∀ (s t : State), exec (.resetAssert) s = .next t → SameBut [.regs, .shown, .mirror, .seam, .cmt, .own, .rx, .dsf, .tmap, .tribs, .tfrags, .rows, .ttest, .act, .upb, .restarts, .gsm, .txEff, .pairs, .key, .dark, .pipes, .epochs, .prog, .rcnt, .rcntHeld, .excWait, .bufs, .bufRot, .qmap, .memch, .ecc, .mxe, .queues, .turns, .elig, .shapers, .policers, .gates, .gateBusy, .lanes, .lports, .mdio, .tim, .evt, .log, .tsk, .cpu, .pwr, .rst, .sys, .hif, .clock, .timers, .out] s t) ∧
  (∀ x0 (s t : State), exec (.resetRelease x0) s = .next t → SameBut [.regs, .seam, .cmt, .own, .rx, .dsf, .tribs, .act, .upb, .restarts, .pairs, .pipes, .epochs, .shapers, .policers, .tim, .evt, .tsk, .pwr, .rst, .hif, .clock, .timers, .out] s t) ∧
  (∀ x0 x1 (s t : State), exec (.devRst x0 x1) s = .next t → SameBut [.regs, .shown, .mirror, .seam, .cmt, .own, .rx, .dsf, .tmap, .tribs, .tfrags, .rows, .ttest, .act, .upb, .restarts, .gsm, .txEff, .pairs, .key, .dark, .pipes, .epochs, .prog, .rcnt, .rcntHeld, .excWait, .bufs, .bufRot, .qmap, .memch, .ecc, .mxe, .queues, .turns, .elig, .shapers, .policers, .gates, .gateBusy, .lanes, .lports, .mdio, .tim, .evt, .log, .tsk, .cpu, .pwr, .rst, .sys, .hif, .clock, .timers, .resp, .out] s t) ∧
  (∀ (s t : State), exec (.watchdogExpire) s = .next t → SameBut [.regs, .shown, .mirror, .seam, .cmt, .own, .rx, .dsf, .tmap, .tribs, .tfrags, .rows, .ttest, .act, .upb, .restarts, .gsm, .txEff, .pairs, .key, .dark, .pipes, .epochs, .prog, .rcnt, .rcntHeld, .excWait, .bufs, .bufRot, .qmap, .memch, .ecc, .mxe, .queues, .turns, .elig, .shapers, .policers, .gates, .gateBusy, .lanes, .lports, .mdio, .tim, .evt, .log, .tsk, .cpu, .pwr, .rst, .sys, .hif, .clock, .timers, .out] s t) ∧
  (∀ x0 x1 (s t : State), exec (.wdtKick x0 x1) s = .next t → SameBut [.regs, .seam, .evt, .tsk, .hif, .timers, .resp, .out] s t) ∧
  (∀ x0 x1 (s t : State), exec (.coreRunWrite x0 x1) s = .next t → SameBut [.regs, .seam, .cmt, .own, .evt, .tsk, .cpu, .hif, .timers, .resp, .out] s t) ∧
  (∀ x0 (s t : State), exec (.bootStepDone x0) s = .next t → SameBut [.regs, .mem, .seam, .cmt, .own, .tribs, .act, .upb, .restarts, .key, .pipes, .epochs, .memch, .ecc, .shapers, .policers, .evt, .log, .tsk, .cpu, .pwr, .rst, .hif, .timers, .out, .fresh] s t) ∧
  (∀ (s t : State), exec (.flashReadTimeout) s = .next t → SameBut [.regs, .seam, .memch, .evt, .tsk, .rst, .hif, .out] s t) ∧
  (∀ x0 x1 (s t : State), exec (.bootRetry x0 x1) s = .next t → SameBut [.regs, .seam, .cmt, .own, .evt, .tsk, .cpu, .rst, .hif, .timers, .resp, .out] s t) ∧
  (∀ x0 x1 (s t : State), exec (.bootRun x0 x1) s = .next t → SameBut [.regs, .seam, .cmt, .own, .evt, .tsk, .cpu, .rst, .hif, .timers, .resp, .out] s t) ∧
  (∀ x0 x1 (s t : State), exec (.bistGo x0 x1) s = .next t → SameBut [.regs, .seam, .evt, .tsk, .sys, .hif, .resp, .out] s t) ∧
  (∀ x0 x1 (s t : State), exec (.bistDone x0 x1) s = .next t → SameBut [.regs, .mem, .seam, .prog, .memch, .evt, .tsk, .sys, .hif, .out] s t) ∧
  (∀ x0 x1 x2 x3 x4 (s t : State), exec (.pcieLinkUp x0 x1 x2 x3 x4) s = .next t → SameBut [.regs, .seam, .cmt, .own, .evt, .tsk, .hif, .timers, .out] s t) ∧
  (∀ (s t : State), exec (.pcieLinkDown) s = .next t → SameBut [.regs, .seam, .cmt, .own, .evt, .tsk, .hif, .timers, .out] s t) ∧
  (∀ (s t : State), exec (.pcieHotReset) s = .next t → SameBut [.regs, .seam, .cmt, .own, .evt, .tsk, .hif, .timers, .out] s t) ∧
  (∀ (s t : State), exec (.pcieFlr) s = .next t → SameBut [.regs, .seam, .cmt, .own, .evt, .tsk, .hif, .timers, .out] s t) ∧
  (∀ (s t : State), exec (.perstAssert) s = .next t → SameBut [.regs, .seam, .cmt, .own, .evt, .tsk, .hif, .timers, .out] s t) ∧
  (∀ x0 x1 (s t : State), exec (.msixUnmask x0 x1) s = .next t → SameBut [.regs, .seam, .evt, .tsk, .hif, .resp, .out] s t) ∧
  (∀ x0 x1 (s t : State), exec (.flashRead x0 x1) s = .next t → SameBut [.regs, .seam, .evt, .tsk, .hif, .resp, .out] s t) ∧
  (∀ x0 x1 (s t : State), exec (.flashProg x0 x1) s = .next t → SameBut [.regs, .seam, .evt, .tsk, .hif, .resp, .out] s t) ∧
  (∀ x0 x1 (s t : State), exec (.flashErase x0 x1) s = .next t → SameBut [.regs, .seam, .evt, .tsk, .hif, .resp, .out] s t) ∧
  (∀ x0 x1 (s t : State), exec (.flashCmdDone x0 x1) s = .next t → SameBut [.regs, .seam, .evt, .log, .tsk, .hif, .out] s t) ∧
  (∀ x0 x1 (s t : State), exec (.oi2cWrite x0 x1) s = .next t → SameBut [.regs, .seam, .evt, .tsk, .hif, .resp, .out] s t) ∧
  (∀ x0 x1 (s t : State), exec (.oi2cRead x0 x1) s = .next t → SameBut [.regs, .seam, .evt, .tsk, .hif, .resp, .out] s t) ∧
  (∀ x0 x1 (s t : State), exec (.oi2cDone x0 x1) s = .next t → SameBut [.regs, .seam, .evt, .tsk, .hif, .out] s t) ∧
  (∀ (s t : State), exec (.oi2cSclTimeout) s = .next t → SameBut [.regs, .seam, .evt, .tsk, .hif, .out] s t) ∧
  (∀ x0 x1 (s t : State), exec (.jtagOpen x0 x1) s = .next t → SameBut [.regs, .seam, .upb, .pairs, .evt, .tsk, .hif, .resp, .out] s t) ∧
  (∀ x0 x1 (s t : State), exec (.jtagClose x0 x1) s = .next t → SameBut [.regs, .seam, .upb, .pairs, .evt, .tsk, .hif, .resp, .out] s t) ∧
  (∀ x0 (s t : State), exec (.entropyTestPass x0) s = .next t → SameBut [.regs, .key, .memch, .mxe, .rst, .fresh] s t) ∧
  (∀ x0 (s t : State), exec (.memoryStepTimeout x0) s = .next t → SameBut [.regs, .seam, .cmt, .rx, .dsf, .tribs, .act, .upb, .restarts, .pairs, .pipes, .epochs, .bufs, .memch, .ecc, .mxe, .shapers, .policers, .tim, .evt, .log, .tsk, .pwr, .rst, .hif, .clock, .timers, .out, .fresh] s t) ∧
  (∀ (s t : State), exec (.pcieL0Exit) s = .next t → SameBut [.regs, .seam, .evt, .tsk, .hif, .out] s t)

/-- SHELF_WRITE_LOW holds its half and has no other effect; a read of the shelf bus, of either half, of the bank slot or of an unused
page, leaves the half held; SHELF_WRITE_HIGH of the same register enters one 32-bit write of both halves in the write buffer,
SHELF_WRITE_EFFECT carries out the oldest write of the buffer as a write of the shelf bus, and with the buffer full the write ends with
a bus error of cause 6, counted and raised. (R33, R35, R646) -/
def Obligations.ShelfHalfWrites : Prop :=
  (∀ (slot : BitVec 7) (ofs : BitVec 10) (lo : BitVec 16) (s : State), s.reaches .shelf = true → slot ≠ 127 →
    ∃ t, exec (.shelfWriteLow slot ofs lo) s = .next t ∧ SameBut [.hif, .resp] s t ∧ t.resp = .done ∧
      t.hif = { s.hif with holder := some (s.shelfAddr slot ofs, lo) }) ∧
  (∀ (slot : BitVec 7) (ofs : BitVec 10) (a : Addr) (high : Bool) (s : State),
    (∃ t, exec (.shelfReadLow slot ofs) s = .next t ∧ t.hif.holder = s.hif.holder) ∧
    (∃ t, exec (.shelfReadHigh slot ofs) s = .next t ∧ t.hif.holder = s.hif.holder) ∧
    (∃ t, exec (.bankSlotRead ofs) s = .next t ∧ t.hif.holder = s.hif.holder) ∧
    (usedPage (pageOf a.toNat) = false → a.toNat % 4 = 0 →
      ∃ t, exec (.unusedPageAccess .shelf true a high) s = .next t ∧ t.hif.holder = s.hif.holder)) ∧
  (∀ (slot : BitVec 7) (ofs : BitVec 10) (lo hi : BitVec 16) (s : State), s.reaches .shelf = true → slot ≠ 127 →
    s.hif.holder = some (s.shelfAddr slot ofs, lo) → s.hif.wbuf.length < 32 →
    ∃ t, exec (.shelfWriteHigh slot ofs hi) s = .next t ∧ SameBut [.hif, .resp] s t ∧ t.resp = .done ∧
      t.hif = { s.hif with holder := none, wbuf := s.hif.wbuf ++ [(s.shelfAddr slot ofs, hi ++ lo)] } ∧
      (s.hif.wbuf = [] → ∃ u, exec .shelfWriteEffect t = .next (u.writeReg .shelf (s.shelfAddr slot ofs) (hi ++ lo) true) ∧
        SameBut [.hif, .resp] s u ∧ u.hif = { s.hif with holder := none })) ∧
  (∀ (a : Nat) (w : Word) (rest : List (Nat × Word)) (s : State), s.hif.wbuf = (a, w) :: rest →
    ∃ u, exec .shelfWriteEffect s = .next (u.writeReg .shelf a w true) ∧ SameBut [.hif] s u ∧ u.hif = { s.hif with wbuf := rest }) ∧
  (∀ (slot : BitVec 7) (ofs : BitVec 10) (lo hi : BitVec 16) (s : State), s.reaches .shelf = true → slot ≠ 127 →
    s.hif.holder = some (s.shelfAddr slot ofs, lo) → 32 ≤ s.hif.wbuf.length →
    ∃ t, exec (.shelfWriteHigh slot ofs hi) s = .next t ∧
      FrameEv [.resp] [R.HIF_CNT_SB_WOVF, R.HIF_CNT_SB_BUSERR, R.HIF_SB_ERR] s t ∧ t.resp = .busError 6 ∧
      t.hif.holder = none ∧ t.hif.wbuf = s.hif.wbuf ∧ t.rd R.HIF_CNT_SB_WOVF = s.rd R.HIF_CNT_SB_WOVF + 1 ∧
      (s.domOn 33 = true → Raised t P.HIF E.HIF_SB_WOVF))

/-- A source that fires sets its raw bit. EVT_RAW_CLEAR with a source firing at the same handshake: the firing wins, whatever the bit held
before: the bit is 1 and the source's stamp is the device time of its die; where one source fires, what follows is the EVENT_FIRE of the
source on the state that the clear alone leaves, in which the bit is 0, so with records enabled and room for it its record is made.
EVT_FORCE is the firing of each source whose bit is 1, in every respect. (R568) -/
def Obligations.FiringWins : Prop :=
  (∀ (page : BitVec 8) (b : Fin 16) (s : State), b.val < evNum page.toNat → s.powered (R.HDR_EVT_RAW page.toNat) = true →
    ∃ t, exec (.eventFire page b) s = .next t ∧ Raised t page.toNat b.val) ∧
  (∀ (r : Req) (page : BitVec 8) (bits firing : BitVec 16) (b : Fin 16) (s : State), Taken s r (R.HDR_EVT_RAW page.toNat) →
    b.val < evNum page.toNat → bits.getLsbD b.val = true → firing.getLsbD b.val = true →
    ∃ t, exec (.evtRawClear r page bits firing) s = .next t ∧ FrameEv [.resp] [] s t ∧ t.resp = .done ∧ Raised t page.toNat b.val ∧
      mapGet 0 t.evt.stamps (srcNum page.toNat b.val) = s.deviceTime (linePage page.toNat)) ∧
  (∀ (r : Req) (page : BitVec 8) (bits : BitVec 16) (b : Fin 16) (s : State), Taken s r (R.HDR_EVT_RAW page.toNat) →
    b.val < evNum page.toNat → bits.getLsbD b.val = true →
    ∃ t0 t, exec (.evtRawClear r page bits 0) s = .next t0 ∧ ¬ Raised t0 page.toNat b.val ∧
      exec (.evtRawClear r page bits (1#16 <<< b.val)) s = .next t ∧ exec (.eventFire page b) t0 = .next t ∧
      (s.bit F.EVT_EVT_CTL_REC_EN = true → s.domOn 29 = true → (linePage page.toNat = true → s.seam.phase = .up) →
        s.evt.ring.length < 512 →
        t.evt.ring = s.evt.ring ++ [⟨srcNum page.toNat b.val, linePage page.toNat, s.deviceTime (linePage page.toNat)⟩]) ∧
      (s.bit F.EVT_EVT_CTL_REC_EN = true → s.domOn 29 = true → linePage page.toNat = true → s.seam.phase ≠ .up →
        s.seam.held.length < 64 →
        t.seam.held = s.seam.held ++ [⟨srcNum page.toNat b.val, true, s.deviceTime true⟩])) ∧
  (∀ (r : Req) (page : BitVec 8) (bits : BitVec 16) (s : State), Taken s r (R.HDR_EVT_FORCE page.toNat) →
    exec (.evtForce r page bits) s = .next ((List.range (evNum page.toNat)).foldl
      (fun u b => if bits.getLsbD b then u.fire page.toNat b else u) (s.reply .done)) ∧
    ∀ (b : Fin 16) (u : State), b.val < evNum page.toNat → exec (.eventFire page b) u = .next (u.fire page.toNat b.val)) ∧
  (∀ (r : Req) (page : BitVec 8) (b : Fin 16) (s : State), Taken s r (R.HDR_EVT_FORCE page.toNat) → b.val < evNum page.toNat →
    exec (.evtForce r page (1#16 <<< b.val)) s = exec (.eventFire page b) (s.reply .done))

/-- TABLE_SELECT, or the same REGISTER_WRITE, of Q_SEL, S_SEL, P_SEL or G_SEL stores the requester's own copy, its fields clamped, and
nothing else but, for G_SEL, what the requester's own G_ENTRY, G_LIST, G_CYCLE and G_PHASE registers show; every other requester reads
the selector as before, and a read returns the reader's own copy. (R472, R475) -/
def Obligations.SelectorsPerRequester : Prop :=
  (∀ (r : Req) (a : Addr) (v : Word) (s : State), a.toNat ∈ [0x49044, 0x4A044, 0x4B044, 0x4C048] → Taken s r a.toNat →
    ∃ t, exec (.tableSelect r a v) s = .next t ∧ exec (.registerWrite r a v true) s = .next t ∧
      Frame [.resp, .mirror] (idxKey a.toNat (reqNum r) :: if a.toNat = 0x4C048 then
        [idxKey R.GAT_G_ENTRY_LO (reqNum r), idxKey R.GAT_G_ENTRY_HI (reqNum r), idxKey R.GAT_G_LIST (reqNum r),
          idxKey R.GAT_G_CYCLE (reqNum r), idxKey R.GAT_G_PHASE (reqNum r)] else []) s t ∧ t.resp = .done ∧
      (∀ r' : Req, r' ≠ r → t.readWord r' a.toNat = s.readWord r' a.toNat) ∧
      (a.toNat = 0x49044 → t.fld (F.SCH_Q_SEL_QUEUE (reqNum r)) = min 8991 (getField v 0 14)) ∧
      (a.toNat = 0x4A044 → t.fld (F.SHP_S_SEL_SHAPER (reqNum r)) = min 9983 (getField v 0 14)) ∧
      (a.toNat = 0x4B044 → t.fld (F.POL_P_SEL_POLICER (reqNum r)) = getField v 0 14) ∧
      (a.toNat = 0x4C048 → t.fld (F.GAT_G_SEL_LANE (reqNum r)) = min 47 (getField v 0 6) ∧
        t.fld (F.GAT_G_SEL_ENTRY (reqNum r)) = getField v 8 6 ∧ t.fld (F.GAT_G_SEL_VIEW (reqNum r)) = getField v 16 1 ∧
        t.fld (F.GAT_G_SEL_AUTO_INC (reqNum r)) = getField v 17 1)) ∧
  (∀ (r : Req) (a : Addr) (s : State), a.toNat ∈ [0x49044, 0x4A044, 0x4B044, 0x4C048] →
    s.readWord r a.toNat = s.rd (idxKey a.toNat (reqNum r)) ∧
    (s.reaches r = true → r ≠ .shelf → exec (.readBusError r a true) s = .next (s.reply (.data (s.rd (idxKey a.toNat (reqNum r)))))))

/-- ITEM_DONE or YIELD of an item that is not RUNNING on the writing core is an access fault, which the core's port records, and changes
nothing else. Of an item that the core runs, the core holds it no more and it goes to OFF where EN was cleared, to WAITING where it was
cancelled, else through DONE to READY or WAITING as its condition holds, through YIELD to READY with the consumed flags put back.
(R556, R550) -/
def Obligations.ItemNotHeld : Prop :=
  (∀ (n : Fin 8) (item : BitVec 12) (s : State), s.reaches (.core n) = true → (s.item item.toNat).st ≠ .running n →
    ∀ i ∈ [Instr.itemDone n item, Instr.yield n item], ∃ (t : State) (c m : Nat), exec i s = .next t ∧
      SameBut [.tsk, .resp] s t ∧ t.resp = .accessFault ∧
      t.tsk = { s.tsk with ports := s.tsk.ports.set n { s.tsk.ports[n] with lastCause := c, lastMtval := m } }) ∧
  (∀ (n : Fin 8) (item : BitVec 12) (s : State), s.reaches (.core n) = true → (s.item item.toNat).st = .running n →
    ∃ t, exec (.itemDone n item) s = .next t ∧ SameBut [.tsk, .resp] s t ∧ t.resp = .done ∧
      t.tsk.ports[n].holds = s.tsk.ports[n].holds.filter (fun j => decide (j ≠ item.toNat)) ∧
      t.item item.toNat = (if (s.item item.toNat).offAtEnd then {}
        else if (s.item item.toNat).cancelled then { s.item item.toNat with st := .waiting, consumed := 0, cancelled := false }
        else { s.item item.toNat with
          st := if s.condition item.toNat (s.item item.toNat).flags then .ready else .waiting, consumed := 0 })) ∧
  (∀ (n : Fin 8) (item : BitVec 12) (s : State), s.reaches (.core n) = true → (s.item item.toNat).st = .running n →
    ∃ t, exec (.yield n item) s = .next t ∧ SameBut [.tsk, .resp] s t ∧ t.resp = .done ∧
      t.tsk.ports[n].holds = s.tsk.ports[n].holds.filter (fun j => decide (j ≠ item.toNat)) ∧
      t.item item.toNat = (if (s.item item.toNat).offAtEnd then {}
        else if (s.item item.toNat).cancelled then { s.item item.toNat with st := .waiting, consumed := 0, cancelled := false }
        else { s.item item.toNat with
          st := .ready, flags := (s.item item.toNat).flags ||| (s.item item.toNat).consumed, consumed := 0 }))

/-- POWER_FAIL_CLEAR: PF_STAT.PF is cleared and PF_CLEAR raised, and the records stay as they are; after it a commit of an open slot is
answered, a flash erase that fits is taken, and begins at once unless the log writer has work, and the log writer erases its oldest sector where it is due. Without a power failure it changes
nothing. (R587) -/
def Obligations.PowerFailEnds : Prop :=
  (∀ s : State, s.log.pf = true → ∃ t, exec .powerFailClear s = .next t ∧ FrameEv [.log] [] s t ∧
    t.log = { s.log with pf := false } ∧ (s.domOn 29 = true → Raised t P.EVT E.EVT_PF_CLEAR) ∧
    (∀ r : Req, s.domOn 29 = true → (t.readWord r R.EVT_PF_STAT).getLsbD 0 = false) ∧
    (∀ (r : Req) (tag : BitVec 8) (i : Fin 4), Taken t r R.CMT_CMT_COMMIT → tag ≠ 0 → t.slotOf tag = some i →
      t.cmt.slots[i].st = .opened → ∃ u, exec (.cmtCommit r tag) t = .next u ∧ u.resp = .done) ∧
    (∀ (r : Req) (v : Word), Taken t r R.HIF_FLASH_CMD → t.hif.flashOp = none → t.rst.noSfdp = false →
      t.inLogArea (t.fld F.HIF_FLASH_ADDR_ADDR) (flashSpan 3 (getField v 8 9)) = false →
      flashFits 3 (t.fld F.HIF_FLASH_ADDR_ADDR) (getField v 8 9) = true →
      ∃ u, exec (.flashErase r v) t = .next u ∧ SameBut [.hif, .resp, .out] t u ∧ u.resp = .done ∧
        u.hif = { t.hif with flashOp := some (3, t.fld F.HIF_FLASH_ADDR_ADDR, getField v 8 9),
                             flashRun := decide (t.log.writing = 0 ∧ (t.logOn = false ∨ t.log.buf = [])) }) ∧
    (t.logOn = true → t.log.buf = [] → t.hostProgram = false → (t.fld F.EVT_LOG_CFG_SECT * 64 - t.log.flash.length) / 64 < 2 →
      ∃ u, exec .logSectorErase t = .next u ∧ SameBut [.log, .out] t u ∧
        u.log = { t.log with flash := t.log.flash.drop 64, head := (t.log.head + 64) % t.logSlots } ∧
        u.out = .logErase (t.logAddr t.log.head) :: t.out)) ∧
  (∀ s : State, s.log.pf = false → exec .powerFailClear s = .next s)

/-- TAKE gives the core the first item with it in its core set of the lowest-numbered level that lists one, RUNNING, with its consumed
flags, mask and argument; without one, or with TSK_CTL.EN 0, it returns NONE. A read of CAUSE returns and clears the core's bits. A post,
through a port or TSK.POST, enters the post queue while it has room, else it stalls; a cancel takes effect on the item at once where its
requester has no post outstanding. (R550, R552-R555, R558) -/
def Obligations.PortsAndPosts : Prop :=
  (∀ (n : Fin 8) (s : State), s.reaches (.core n) = true →
    (s.bit F.TSK_TSK_CTL_EN = false ∨ ∀ p i : Nat, p < 32 → i ∈ s.level p → s.inCores i n = false) →
    exec (.take n) s = .next (s.reply (.data 0x80000000))) ∧
  (∀ (n : Fin 8) (p i : Nat) (before after : List Nat) (s : State), s.reaches (.core n) = true → s.bit F.TSK_TSK_CTL_EN = true → p < 32 →
    (∀ q j : Nat, q < p → j ∈ s.level q → s.inCores j n = false) → s.level p = before ++ i :: after →
    (∀ j ∈ before, s.inCores j n = false) → s.inCores i n = true →
    ∃ t, exec (.take n) s = .next t ∧ SameBut [.tsk, .resp] s t ∧ t.resp = .data (BitVec.ofNat 32 i) ∧
      t.item i = { s.item i with st := .running n, consumed := (s.item i).flags &&& s.rd (R.TSK_ITEM_MASK i),
                                 flags := (s.item i).flags &&& ~~~ s.rd (R.TSK_ITEM_MASK i) } ∧
      (∀ j : Nat, j ≠ i → t.item j = s.item j) ∧
      t.level (s.prio i) = (s.level (s.prio i)).filter (fun j => decide (j ≠ i)) ∧
      t.tsk.ports[n] = { s.tsk.ports[n] with holds := i :: s.tsk.ports[n].holds,
                                             flags := (s.item i).flags &&& s.rd (R.TSK_ITEM_MASK i), arg := s.rd (R.TSK_ITEM_ARG i) }) ∧
  (∀ (n : Fin 8) (s : State), s.reaches (.core n) = true →
    ∃ t, exec (.causeRead n) s = .next t ∧ SameBut [.tsk, .resp] s t ∧
      t.resp = .data (BitVec.ofNat 32 (b2n s.tsk.ports[n].dispatch + b2n s.tsk.ports[n].preempt * 2)) ∧
      t.tsk = { s.tsk with ports := s.tsk.ports.set n { s.tsk.ports[n] with dispatch := false, preempt := false } }) ∧
  (∀ (n : Fin 8) (item : BitVec 12) (flag : BitVec 5) (s : State), s.reaches (.core n) = true →
    ∃ t, exec (.portPost n item flag) s = .next t ∧ SameBut [.tsk, .resp] s t ∧ t.resp = .done ∧
      ((s.tsk.queue.filter (fun x => !x.cancel)).length < 256 → s.tsk.stalled = [] →
        t.tsk = { s.tsk with queue := s.tsk.queue ++ [⟨item, flag, none, some (.core n), false⟩] }) ∧
      (256 ≤ (s.tsk.queue.filter (fun x => !x.cancel)).length ∨ s.tsk.stalled ≠ [] →
        t.tsk = { s.tsk with stalled := s.tsk.stalled ++ [⟨item, flag, none, some (.core n), false⟩] })) ∧
  (∀ (r : Req) (v : Word) (s : State), Taken s r R.TSK_POST →
    ∃ t, exec (.tskPost r v) s = .next t ∧ SameBut [.tsk, .resp] s t ∧ t.resp = .done ∧
      ((s.tsk.queue.filter (fun x => !x.cancel)).length < 256 → s.tsk.stalled = [] → t.tsk = { s.tsk with
        queue := s.tsk.queue ++ [⟨v.extractLsb' 0 12, v.extractLsb' 16 5, none, some r, false⟩] }) ∧
      (256 ≤ (s.tsk.queue.filter (fun x => !x.cancel)).length ∨ s.tsk.stalled ≠ [] → t.tsk = { s.tsk with
        stalled := s.tsk.stalled ++ [⟨v.extractLsb' 0 12, v.extractLsb' 16 5, none, some r, false⟩] })) ∧
  (∀ (r : Req) (i : Instr) (item : BitVec 12) (s : State), (∀ p ∈ s.tsk.queue ++ s.tsk.stalled, p.req ≠ some r) →
    ((∃ v : Word, i = .tskCancel r v ∧ v.extractLsb' 0 12 = item ∧ Taken s r R.TSK_CANCEL) ∨
      ∃ n : Fin 8, r = .core n ∧ i = .portCancel n item ∧ s.reaches r = true) →
    ∃ t, exec i s = .next t ∧ SameBut [.tsk, .resp] s t ∧ t.resp = .done ∧ (∀ j : Nat, j ≠ item.toNat → t.item j = s.item j) ∧
      t.tsk.ports = s.tsk.ports ∧ t.tsk.queue = s.tsk.queue ∧ t.tsk.stalled = s.tsk.stalled ∧
      ((s.item item.toNat).st = .off → t.tsk = s.tsk) ∧
      ((s.item item.toNat).st = .waiting → t.item item.toNat = { s.item item.toNat with flags := 0 } ∧ t.tsk.lists = s.tsk.lists) ∧
      ((s.item item.toNat).st = .ready → t.item item.toNat = { s.item item.toNat with st := .waiting, flags := 0 } ∧
        t.level (s.prio item.toNat) = (s.level (s.prio item.toNat)).filter (fun j => decide (j ≠ item.toNat))) ∧
      (∀ n : Fin 8, (s.item item.toNat).st = .running n → t.tsk.lists = s.tsk.lists ∧
        t.item item.toNat = { s.item item.toNat with flags := 0, consumed := 0, cancelled := true })) ∧
  (∀ (r : Req) (i : Instr) (item : BitVec 12) (s : State),
    ((∃ v : Word, i = .tskCancel r v ∧ v.extractLsb' 0 12 = item ∧ Taken s r R.TSK_CANCEL) ∨
      ∃ n : Fin 8, r = .core n ∧ i = .portCancel n item ∧ s.reaches r = true) →
    (∃ p ∈ s.tsk.queue ++ s.tsk.stalled, p.req = some r) →
    ∃ t, exec i s = .next t ∧ SameBut [.tsk, .resp] s t ∧ t.resp = .done ∧ t.tsk.items = s.tsk.items ∧ t.tsk.lists = s.tsk.lists ∧
      t.tsk.ports = s.tsk.ports ∧ (⟨item, 0, none, some r, true⟩ : Post) ∈ t.tsk.queue ++ t.tsk.stalled ∧
      t.tsk.queue.length + t.tsk.stalled.length = s.tsk.queue.length + s.tsk.stalled.length + 1)

/-- POST_APPLY takes the oldest post and sets its flag in the item, unless that is OFF; a WAITING item whose condition then holds goes to
READY, joins the tail of its list and raises DISPATCH on the idle cores of its set; the oldest stalled post enters the queue. ITEM_CFG_WRITE
stores the item's mask or configuration; with the item enabled, a change of its mask, priority, mode or core set is refused; EN set takes an
item from OFF to WAITING, EN cleared takes it to OFF, or marks it while it runs. TSK_ENABLE sets EN, and on its change from 0 every listed
item raises DISPATCH on the idle cores of its set. (R549, R550, R552, R553, R557, R565) -/
def Obligations.ItemsAndDispatch : Prop :=
  (∀ s : State, s.tsk.queue = [] → exec .postApply s = .next s) ∧
  (∀ (p : Post) (q : List Post) (s : State), s.tsk.queue = p :: q → (∀ c ∈ q.head?, c.cancel = false) →
    (∀ c ∈ (s.tsk.stalled.drop 1).head?, c.cancel = false) →
    ∃ t, exec .postApply s = .next t ∧ SameBut [.tsk] s t ∧ t.tsk.queue = q ++ s.tsk.stalled.take 1 ∧
      t.tsk.stalled = s.tsk.stalled.drop 1 ∧ (∀ j : Nat, j ≠ p.item.toNat → t.item j = s.item j) ∧
      ((s.item p.item.toNat).st = .off → t.item p.item.toNat = s.item p.item.toNat) ∧
      ((s.item p.item.toNat).st ≠ .off → ∃ fl : Word, fl = (s.item p.item.toNat).flags ||| BitVec.ofNat 32 (2 ^ p.flag.toNat) ∧
        ((s.item p.item.toNat).st ≠ .waiting ∨ s.condition p.item.toNat fl = false →
          t.item p.item.toNat = { s.item p.item.toNat with flags := fl } ∧ t.tsk.lists = s.tsk.lists ∧ t.tsk.ports = s.tsk.ports) ∧
        ((s.item p.item.toNat).st = .waiting → s.condition p.item.toNat fl = true →
          t.item p.item.toNat = { s.item p.item.toNat with st := .ready, flags := fl } ∧
          t.level (s.prio p.item.toNat) = s.level (s.prio p.item.toNat) ++ [p.item.toNat] ∧
          ∀ n : Fin 8, s.inCores p.item.toNat n = true → s.idleCore n = true → t.tsk.ports[n].dispatch = true))) ∧
  (∀ (r : Req) (v : Word) (i : Nat) (s : State), i = s.fld (F.TSK_ITEM_SEL_ITEM (reqNum r)) → Taken s r (R.TSK_ITEM_MASK i) →
    (s.bit (F.TSK_ITEM_CFG_EN i) = false ∨ s.rd (R.TSK_ITEM_MASK i) = v →
      ∃ t, exec (.itemCfgWrite r true v) s = .next t ∧ Frame [.resp] [R.TSK_ITEM_MASK i] s t ∧ t.resp = .done ∧
        t.rd (R.TSK_ITEM_MASK i) = v) ∧
    (s.bit (F.TSK_ITEM_CFG_EN i) = true → s.rd (R.TSK_ITEM_MASK i) ≠ v →
      exec (.itemCfgWrite r true v) s = .next ((s.reply .done).refuse r (R.TSK_ITEM_MASK i)))) ∧
  (∀ (r : Req) (v : Word) (i : Nat) (s : State), i = s.fld (F.TSK_ITEM_SEL_ITEM (reqNum r)) → Taken s r (R.TSK_ITEM_CFG i) →
    (s.bit (F.TSK_ITEM_CFG_EN i) = true → (s.fld (F.TSK_ITEM_CFG_PRIO i) ≠ getField v 0 5 ∨ s.fld (F.TSK_ITEM_CFG_MODE i) ≠ getField v 8 1 ∨
        s.fld (F.TSK_ITEM_CFG_CORES i) ≠ getField v 16 8) →
      exec (.itemCfgWrite r false v) s = .next ((s.reply .done).refuse r (R.TSK_ITEM_CFG i))) ∧
    (s.bit (F.TSK_ITEM_CFG_EN i) = false ∨ (s.fld (F.TSK_ITEM_CFG_PRIO i) = getField v 0 5 ∧ s.fld (F.TSK_ITEM_CFG_MODE i) = getField v 8 1 ∧
        s.fld (F.TSK_ITEM_CFG_CORES i) = getField v 16 8) →
      ∃ t, exec (.itemCfgWrite r false v) s = .next t ∧ Frame [.tsk, .resp] [R.TSK_ITEM_CFG i] s t ∧ t.resp = .done ∧
        t.fld (F.TSK_ITEM_CFG_PRIO i) = getField v 0 5 ∧ t.fld (F.TSK_ITEM_CFG_MODE i) = getField v 8 1 ∧
        t.fld (F.TSK_ITEM_CFG_PREEMPT i) = getField v 9 1 ∧ t.fld (F.TSK_ITEM_CFG_EN i) = getField v 15 1 ∧
        t.fld (F.TSK_ITEM_CFG_CORES i) = getField v 16 8 ∧ (∀ j : Nat, j ≠ i → t.item j = s.item j) ∧ t.tsk.ports = s.tsk.ports ∧
        (s.bit (F.TSK_ITEM_CFG_EN i) = v.getLsbD 15 → t.tsk = s.tsk) ∧
        (s.bit (F.TSK_ITEM_CFG_EN i) = false → v.getLsbD 15 = true → (s.item i).st = .off → t.item i = { st := .waiting }) ∧
        (∀ n : Fin 8, s.bit (F.TSK_ITEM_CFG_EN i) = false → v.getLsbD 15 = true → (s.item i).st = .running n →
          t.item i = { s.item i with offAtEnd := false }) ∧
        (s.bit (F.TSK_ITEM_CFG_EN i) = true → v.getLsbD 15 = false → (s.item i).st = .waiting ∨ (s.item i).st = .ready → t.item i = {}) ∧
        (∀ n : Fin 8, s.bit (F.TSK_ITEM_CFG_EN i) = true → v.getLsbD 15 = false → (s.item i).st = .running n →
          t.item i = { s.item i with flags := 0, consumed := 0, cancelled := true, offAtEnd := true }))) ∧
  (∀ (r : Req) (v : Word) (s : State), Taken s r R.TSK_TSK_CTL →
    ∃ t, exec (.tskEnable r v) s = .next t ∧ Frame [.tsk, .resp] [R.TSK_TSK_CTL] s t ∧ t.resp = .done ∧ t.bit F.TSK_TSK_CTL_EN = true ∧
      t.tsk.items = s.tsk.items ∧ t.tsk.lists = s.tsk.lists ∧ (∀ n : Fin 8, t.tsk.ports[n].holds = s.tsk.ports[n].holds) ∧
      (s.bit F.TSK_TSK_CTL_EN = true → t.tsk = s.tsk) ∧
      (∀ (p i : Nat) (n : Fin 8), s.bit F.TSK_TSK_CTL_EN = false → p < 32 → i ∈ s.level p → s.inCores i n = true → s.idleCore n = true →
        t.tsk.ports[n].dispatch = true))

/-- A read or program of the boot flash that no reason of R649 forbids is taken, and goes out unless the log writer programs a page; one that is forbidden is refused with its
reason, counted and raised. FLASH_CMD_DONE ends one that has begun: a read brings its bytes into the buffer, a program that fails its read-back ends with
result 5 and is counted, and the end is raised. An I2C command of an idle master is taken and goes out, one of a busy master ends with a
bus error; OI2C_DONE and OI2C_SCL_TIMEOUT end it with their result, a read that is done brings its bytes. JTAG_OPEN in the presence window
opens the port and erases every link key, JTAG_CLOSE closes it. (R649-R654) -/
def Obligations.FlashI2cAndJtag : Prop :=
  (∀ (r : Req) (v : Word) (op a len : Nat) (i : Instr) (s : State), Taken s r R.HIF_FLASH_CMD →
    (op = 1 ∧ i = .flashRead r v ∨ op = 2 ∧ i = .flashProg r v) → a = s.fld F.HIF_FLASH_ADDR_ADDR → len = getField v 8 9 →
    (s.hif.flashOp = none → (op = 2 → s.inLogArea a len = false ∧ s.rst.noSfdp = false) → s.log.pf = false → flashFits op a len = true →
      ∃ t, exec i s = .next t ∧ SameBut [.hif, .resp, .out] s t ∧ t.resp = .done ∧ t.hif = { s.hif with flashOp := some (op, a, len), flashRun := decide (s.log.writing = 0) } ∧
        t.out = if s.log.writing = 0 then .flash op a len :: s.out else s.out) ∧
    (s.flashCause op a len ≠ 0 → ∃ t, exec i s = .next t ∧ FrameEv [.resp] [R.HIF_CNT_FLASH_ERR] s t ∧ t.resp = .done ∧
      t.hif.flashOp = s.hif.flashOp ∧ t.hif.flashRes = BitVec.ofNat 3 (s.flashCause op a len) ∧
      t.rd R.HIF_CNT_FLASH_ERR = s.rd R.HIF_CNT_FLASH_ERR + 1 ∧ (s.domOn 33 = true → Raised t P.HIF E.HIF_FLASH_ERR))) ∧
  (∀ (data : List Byte) (a : Nat) (s : State), s.hif.flashOp = some (1, a, data.length) → s.hif.flashRun = true → data.length ≤ 256 →
    ∃ t, exec (.flashCmdDone false data) s = .next t ∧ FrameEv [.log] ((List.range data.length).map (fun i => R.HIF_FLASH_BUF 0 + i / 4 * 4)) s t ∧
      t.hif.flashOp = none ∧ t.hif.flashRes = 0 ∧ (s.domOn 33 = true → Raised t P.HIF E.HIF_FLASH_DONE) ∧
      (∀ i : Nat, i < data.length → t.fld ⟨R.HIF_FLASH_BUF 0 + i / 4 * 4, 24 - i % 4 * 8, 8⟩ = (data.getD i 0).toNat)) ∧
  (∀ (bad : Bool) (data : List Byte) (op a len : Nat) (s : State), s.hif.flashOp = some (op, a, len) → s.hif.flashRun = true → op = 2 ∨ op = 3 ∧ bad = false →
    ∃ t, exec (.flashCmdDone bad data) s = .next t ∧ FrameEv [.log] [R.HIF_CNT_FLASH_ERR] s t ∧
      t.hif.flashOp = none ∧ t.hif.flashRes = (if bad then 5 else 0) ∧
      t.rd R.HIF_CNT_FLASH_ERR = s.rd R.HIF_CNT_FLASH_ERR + (if bad then 1 else 0) ∧
      (s.domOn 33 = true → Raised t P.HIF E.HIF_FLASH_DONE)) ∧
  (∀ (r : Req) (v : Word) (rd : Bool) (i : Instr) (s : State), Taken s r R.HIF_OI2C_CMD →
    (rd = false ∧ i = .oi2cWrite r v ∨ rd = true ∧ i = .oi2cRead r v) →
    (s.hif.i2cOp = none → ∃ (t : State) (w : Word), exec i s = .next t ∧ SameBut [.hif, .resp, .out] s t ∧ t.resp = .done ∧
      w.getLsbD 31 = true ∧ w.getLsbD 20 = rd ∧ (∀ b : Nat, b < 31 → b ≠ 20 → w.getLsbD b = v.getLsbD b) ∧
      t.hif = { s.hif with i2cOp := some w } ∧ t.out = .i2c w (if rd then [] else s.i2cBytes (i2cLen v)) :: s.out) ∧
    (s.hif.i2cOp ≠ none → exec i s = .next ((s.reply .done).refuse r R.HIF_OI2C_CMD))) ∧
  (∀ (result : BitVec 2) (data : List Byte) (w : Word) (i : Instr) (s : State), s.hif.i2cOp = some w →
    (i = .oi2cDone result data ∧ (result ≠ 0 ∨ w.getLsbD 20 = false) ∨ result = 2 ∧ i = .oi2cSclTimeout) →
    ∃ t, exec i s = .next t ∧ FrameEv [] [R.HIF_CNT_OI2C_ERR] s t ∧ t.hif.i2cOp = none ∧ t.hif.i2cRes = result ∧
      t.rd R.HIF_CNT_OI2C_ERR = s.rd R.HIF_CNT_OI2C_ERR + (if result = 0 then 0 else 1) ∧
      (s.domOn 33 = true → Raised t P.HIF E.HIF_OI2C_DONE)) ∧
  (∀ (data : List Byte) (w : Word) (s : State), s.hif.i2cOp = some w → w.getLsbD 20 = true → data.length = i2cLen w →
    ∃ t, exec (.oi2cDone 0 data) s = .next t ∧ FrameEv [] [R.HIF_OI2C_DATA0, R.HIF_OI2C_DATA1] s t ∧ t.hif.i2cOp = none ∧
      t.hif.i2cRes = 0 ∧ t.i2cBytes data.length = data ∧ (s.domOn 33 = true → Raised t P.HIF E.HIF_OI2C_DONE)) ∧
  (∀ (r : Req) (v : Word) (s : State), Taken s r R.HIF_JTAG_CTL → Present s r →
    ∃ t, exec (.jtagOpen r v) s = .next t ∧ FrameEv [.pairs, .upb, .resp] [] s t ∧ t.resp = .done ∧ t.pairs = s.eraseAll.pairs ∧
      t.hif.jtag = !v.getLsbD 1 ∧ (s.domOn 33 = true → Raised t P.HIF E.HIF_JTAG_OPEN)) ∧
  (∀ (r : Req) (v : Word) (s : State), Taken s r R.HIF_JTAG_CTL → v.getLsbD 0 = false →
    ∃ t, exec (.jtagClose r v) s = .next t ∧ SameBut [.hif, .resp] s t ∧ t.resp = .done ∧ t.hif = { s.hif with jtag := false, tap := { s.hif with jtag := false }.tapSelect s.hif.tap })

/-- The endpoint's link: reaching L0 records what the host configured, raises PCIE_LINK on a rise and makes PCIe a candidate, which decides
the election where PCIe is first. A link down, hot reset, PERST_N or function-level reset returns the MSI-X table to its reset values,
clears what the host configured, and a PCIe holder is lost; all but the last leave L0. Leaving L0 is raised. A held or powerless endpoint
takes none of them. MSIX_UNMASK lifts a mask: with MSI-X enabled every message of the PBA that is not masked is sent and leaves the PBA.
(R82, R83, R88, R613, R638, R639, R655) -/
def Obligations.HostLink : Prop :=
  (∀ (width speed : BitVec 3) (d3 me fm : Bool) (s : State), linkWf width speed = true → s.endpointOn = true →
    ∃ t, exec (.pcieLinkUp width speed d3 me fm) s = .next t ∧ t.hif.l0 = true ∧ t.hif.width = width ∧ t.hif.speed = speed ∧
      t.hif.d3 = d3 ∧ t.hif.msixEn = me ∧ t.hif.funcMask = fm ∧ t.running T.wakeL0 = false ∧
      (s.hif.l0 = false → s.domOn 33 = true → Raised t P.HIF E.HIF_PCIE_LINK) ∧
      (s.hif.l0 = true ∨ s.own.elected = true → FrameEv [.timers] [] s t) ∧
      (s.hif.l0 = false → s.own.elected = false → (priorityOrder (s.rst.straps.toNat % 4)).head? = some 0 →
        FrameEv [.cmt, .own, .timers] movedRegs s t ∧ Moved s t ∧
        t.own = { s.own with present := s.own.present ||| 1, elected := true, timed := false, cand := s.own.present ||| 1, st := .held, holder := 0 }) ∧
      (s.hif.l0 = false → s.own.elected = false → (priorityOrder (s.rst.straps.toNat % 4)).head? ≠ some 0 →
        FrameEv [.own, .timers] [] s t ∧
        t.own = if (priorityOrder (s.rst.straps.toNat % 4)).contains 0 then { s.own with present := s.own.present ||| 1 } else s.own)) ∧
  (∀ (i : Instr) (s : State), s.endpointOn = true → (i ∈ [Instr.pcieLinkDown, .pcieHotReset, .perstAssert] ∨ i = .pcieFlr ∧ s.hif.l0 = true) →
    ∃ t, exec i s = .next t ∧ (∀ k : Nat, R.HIF_MSIX_ADDR_LO 0 ≤ k → k < R.HIF_PBA_LO → t.rd k = resetWord k) ∧
      t.hif.d3 = false ∧ t.hif.msixEn = false ∧ t.hif.funcMask = false ∧
      (i = .pcieFlr → t.hif.l0 = true) ∧
      (i ≠ .pcieFlr → t.hif.l0 = false ∧ (s.hif.l0 = true → s.domOn 33 = true → Raised t P.HIF E.HIF_PCIE_LINK)) ∧
      (s.own.st = .vacant ∨ s.own.holder ≠ 0 → SameBut evParts s t ∧
        (∀ k : Nat, k < R.HIF_MSIX_ADDR_LO 0 ∨ R.HIF_PBA_LO ≤ k → eventReg k = false → t.rd k = s.rd k)) ∧
      (s.own.st ≠ .vacant → s.own.holder = 0 → Moved s t ∧ SameBut (evParts ++ [.cmt, .own, .timers]) s t ∧
        t.own = { s.own with st := .vacant, holder := 3, presWin := false } ∧
        (∀ k : Nat, k < R.HIF_MSIX_ADDR_LO 0 ∨ R.HIF_PBA_LO ≤ k → k ∉ movedRegs → eventReg k = false → t.rd k = s.rd k))) ∧
  (∀ (i : Instr) (width speed : BitVec 3) (d3 me fm : Bool) (s : State), s.endpointOn = false → linkWf width speed = true →
    i ∈ [Instr.pcieLinkUp width speed d3 me fm, .pcieLinkDown, .pcieHotReset, .perstAssert, .pcieFlr] → exec i s = .next s) ∧
  (∀ s : State, s.hif.l0 = true → ∃ t, exec .pcieL0Exit s = .next t ∧ FrameEv [] [] s t ∧ t.hif.l0 = false ∧ t.hif.width = 0 ∧
    (s.domOn 33 = true → Raised t P.HIF E.HIF_PCIE_LINK)) ∧
  (∀ s : State, s.hif.l0 = false → exec .pcieL0Exit s = .next s ∧ exec .pcieFlr s = .next s) ∧
  (∀ (r : Req) (vec : Fin 64) (s : State), Taken s r (R.HIF_MSIX_CTL vec.val) →
    ∃ t, exec (.msixUnmask r vec) s = .next t ∧ Frame [.hif, .resp, .out] [R.HIF_MSIX_CTL vec.val] s t ∧ t.resp = .done ∧
      t.fld (F.HIF_MSIX_CTL_MASK vec.val) = 0 ∧
      (s.hif.msixEn = true → s.hif.funcMask = false → s.hif.l0 = true →
        (∀ v : Nat, v ∈ t.hif.pba ↔ v ∈ s.hif.pba ∧ t.fld (F.HIF_MSIX_CTL_MASK v) ≠ 0) ∧
        (∀ v ∈ s.hif.pba, t.fld (F.HIF_MSIX_CTL_MASK v) = 0 →
          Out.msix v ((s.rd (R.HIF_MSIX_ADDR_LO v)).toNat / 4 * 4 + (s.rd (R.HIF_MSIX_ADDR_HI v)).toNat * 2 ^ 32)
            (s.rd (R.HIF_MSIX_DATA v)) ∈ t.out)))

/-- EXC_DESCRIPTOR_WRITE takes the first packet that waits for the exception queue: with room in the ring its 64-byte descriptor is
written at EXC_HEAD, which advances, the position holds the handle, the descriptor is counted and the configured item's flag is posted;
in a full ring it is dropped, counted and raised. EXC_TAIL_WRITE frees the positions it passes, whose buffers go to software.
INJECT_PATH and INJECT_DIRECT of a buffer that software holds alone are counted and end with result 0, the packet entering the packet
path, or the queue named; any other handle, and a queue above 8991, ends with result 1 and is raised. XWIN_WRITE stores the window.
(R397, R545, R561-R564) -/
def Obligations.ExceptionsAndInjection : Prop :=
  (∀ s : State, s.excWait = [] → exec .excDescriptorWrite s = .next s) ∧
  (∀ (p : Pkt) (ps : List Pkt) (h a hdl : Nat) (s : State), s.excWait = p :: ps → h = s.fld F.CPU_EXC_HEAD_HEAD →
    a = s.fld F.CPU_EXC_BASE_ADDR * 64 + 64 * h → hdl = p.hdl.getD 0 → 40 ≤ p.key.length →
    (h + 1) % s.excSize ≠ s.fld F.CPU_EXC_TAIL_TAIL →
    ∃ t, exec .excDescriptorWrite s = .next t ∧ Frame [.mem, .ecc, .out, .excWait, .tsk, .cpu] [R.CPU_EXC_HEAD, R.CPU_CNT_EXC_DESC] s t ∧
      t.excWait = ps ∧
      t.readBytes a 64 = toBytesBE 5 hdl ++ [BitVec.ofNat 8 p.exc] ++ toBytesBE 2 (p.len - 1) ++ p.key.take 2 ++
        toBytesBE 3 (if p.exc = 3 ∨ p.exc = 4 then 0 else p.leaf.ruleId) ++ toBytesBE 3 p.flowId ++
        toBytesBE 6 (p.stamp / 16 / 1000000000) ++ toBytesBE 4 (p.stamp / 16 % 1000000000) ++ (p.key.drop 2).take 38 ∧
      (∀ x : Nat, x < a ∨ a + 64 ≤ x → t.readByte x = s.readByte x) ∧
      t.fld F.CPU_EXC_HEAD_HEAD = (h + 1) % s.excSize % 2 ^ 12 ∧ t.rd R.CPU_CNT_EXC_DESC = s.rd R.CPU_CNT_EXC_DESC + 1 ∧
      t.cpu = { s.cpu with ring := mapIns s.cpu.ring h hdl } ∧
      t.tsk.queue ++ t.tsk.stalled = s.tsk.queue ++ s.tsk.stalled ++
        [⟨BitVec.ofNat 12 (s.fld F.CPU_EXC_CFG_EXC_ITEM), BitVec.ofNat 5 (s.fld F.CPU_EXC_CFG_EXC_FLAG), none, none, false⟩]) ∧
  (∀ (p : Pkt) (ps : List Pkt) (s : State), s.excWait = p :: ps →
    (s.fld F.CPU_EXC_HEAD_HEAD + 1) % s.excSize = s.fld F.CPU_EXC_TAIL_TAIL →
    ∃ t, exec .excDescriptorWrite s = .next t ∧ SameBut (evParts ++ [.excWait, .bufs, .lports, .log]) s t ∧ t.excWait = ps ∧
      (p.hdl = none → FrameEv [.excWait] [R.CPU_CNT_EXC_DROP] s t ∧ t.rd R.CPU_CNT_EXC_DROP = s.rd R.CPU_CNT_EXC_DROP + 1 ∧
        (s.domOn 28 = true → Raised t P.CPU E.CPU_EXC_DROP)) ∧
      (∀ hdl : Nat, p.hdl = some hdl → ∃ u : State, FrameEv [.excWait] [R.CPU_CNT_EXC_DROP] s u ∧
        u.rd R.CPU_CNT_EXC_DROP = s.rd R.CPU_CNT_EXC_DROP + 1 ∧ (s.domOn 28 = true → Raised u P.CPU E.CPU_EXC_DROP) ∧
        t = u.letGo hdl p.queue)) ∧
  (∀ (r : Req) (v : Word) (n old new : Nat) (s : State), Taken s r R.CPU_EXC_TAIL → n = s.excSize → old = s.fld F.CPU_EXC_TAIL_TAIL →
    new = getField v 0 12 % n →
    ∃ t, exec (.excTailWrite r v) s = .next t ∧ Frame [.bufs, .cpu, .resp] [R.CPU_EXC_TAIL] s t ∧ t.resp = .done ∧
      t.fld F.CPU_EXC_TAIL_TAIL = new ∧
      (∀ e : Nat × Nat, e ∈ t.cpu.ring ↔ e ∈ s.cpu.ring ∧ ∀ i : Nat, i < (new + n - old % n) % n → e.1 ≠ (old + i) % n) ∧
      (∀ (i hdl : Nat) (b : Buf), i < (new + n - old % n) % n → s.cpu.ring.find? (fun e => decide (e.1 = (old + i) % n)) = some ((old + i) % n, hdl) →
        b = s.buf (hdl / 128) → b.count ≠ 0 → b.owner = excQueue → t.buf (hdl / 128) = { b with owner := swHolder }) ∧
      (∀ key : Nat, (∀ e ∈ s.cpu.ring, e.2 / 128 ≠ key) → t.buf key = s.buf key)) ∧
  (∀ (r : Req) (v : Word) (direct : Bool) (q hdl n : Nat) (b : Buf) (p : Pkt) (i : Instr) (s : State), Taken s r R.CPU_INJ_CMD →
    (direct = false ∧ i = .injectPath r v ∨ direct = true ∧ i = .injectDirect r v) → q = getField v 3 14 → hdl = s.injHdl → b = s.buf (hdl / 128) →
    n = s.fld F.CPU_INJ_LEN_S →
    p = { src := 60, len := n, data := s.readBytes (s.bufAddr (hdl / 128)) n, hdl := some hdl,
          tsTag := if v.getLsbD 2 then some (s.fld F.CPU_INJ_TAG_TAG) else none, steps := s.tim.steps } →
    (s.stale hdl = true ∨ b.owner ≠ swHolder ∨ b.count ≠ 1 ∨ direct = true ∧ 8991 < q →
      ∃ t, exec i s = .next t ∧ FrameEv [.resp] [R.CPU_INJ_STAT] s t ∧ t.resp = .done ∧ t.fld F.CPU_INJ_STAT_RESULT = 1 ∧
        (s.domOn 28 = true → Raised t P.CPU E.CPU_INJ_ERR)) ∧
    (s.stale hdl = false → b.owner = swHolder → b.count = 1 → direct = false →
      ∃ u, exec i s = .next (u.enterPath p) ∧ Frame [.resp] [R.CPU_INJ_STAT, R.CPU_CNT_INJ] s u ∧ u.resp = .done ∧
        u.fld F.CPU_INJ_STAT_RESULT = 0 ∧ u.rd R.CPU_CNT_INJ = s.rd R.CPU_CNT_INJ + 1) ∧
    (s.stale hdl = false → b.owner = swHolder → b.count = 1 → direct = true → q ≤ 8991 → n ≤ s.ent (F.SCH_Q_LEN_MAX_LEN q) →
      (s.ent (F.SCH_Q_LIM_LIM_KIB q) = 0 ∨ s.depth q + n ≤ s.ent (F.SCH_Q_LIM_LIM_KIB q) * 1024) →
      ∃ t, exec i s = .next t ∧
        Frame [.nextPkt, .bufs, .queues, .resp] [R.CPU_INJ_STAT, R.CPU_CNT_INJ, R.SCH_CNT_ENQ_LO, R.SCH_CNT_ENQ_HI, R.SCH_Q_HWM q] s t ∧
        t.resp = .done ∧ t.fld F.CPU_INJ_STAT_RESULT = 0 ∧ t.rd R.CPU_CNT_INJ = s.rd R.CPU_CNT_INJ + 1 ∧
        t.queue q = s.queue q ++ [{ p with id := s.nextPkt, queue := q }] ∧ (∀ q' : Nat, q' ≠ q → t.queue q' = s.queue q') ∧
        t.buf (hdl / 128) = { b with owner := q } ∧ (∀ key : Nat, key ≠ hdl / 128 → t.buf key = s.buf key))) ∧
  (∀ (r : Req) (n : Fin 8) (v : Word) (s : State), Taken s r (R.CPU_XWIN n.val) →
    ∃ t, exec (.xwinWrite r n v) s = .next t ∧ Frame [.resp] [R.CPU_XWIN n.val] s t ∧ t.resp = .done ∧
      t.fld (F.CPU_XWIN_BASE n.val) = min 511 (getField v 0 10))

/-- REC_READ answers the nanoseconds of the oldest record, 0 without one, and removes it. MSIX_ARM arms each vector written 1, but for one
that a pending group is routed to, whose message is due at once; the others keep their arm bit. EVT_ENABLE sets EN, and on its change from
0 every pending source whose page delivers counts as a rise: its group's armed vector is disarmed with a message due, and its post is made.
LOG_PAGE_PROGRAM commits the records being written, writes them once more after a failure, and loses them after a second. POWER_FAIL_ASSERT
sets PF, counts and raises it, stops a host's erase, ends an erase of the retirement list with 4 (the model's choice, log entry 152) and makes a record of class 4, where fewer than 65 wait; POWER_FAIL_FLUSH_DONE ends the flush.
(R570, R575, R576, R578, R580, R581, R584-R586, R615) -/
def Obligations.RecordsAndLog : Prop :=
  (∀ (r : Req) (s : State), s.reaches r = true → s.domOn 29 = true →
    ∃ t, exec (.recRead r) s = .next t ∧ SameBut [.evt, .resp] s t ∧ t.evt = { s.evt with ring := s.evt.ring.tail } ∧
      t.resp = .data (BitVec.ofNat 32 (match s.evt.ring with | [] => 0 | x :: _ => nsOf x.stamp))) ∧
  (∀ (r : Req) (hi : Bool) (v : Word) (s : State), Taken s r (if hi then R.EVT_MSIX_ARM_HI else R.EVT_MSIX_ARM_LO) →
    ∃ t, exec (.msixArm r hi v) s = .next t ∧ FrameEv [.resp] [] s t ∧ t.resp = .done ∧
      (∀ b : Nat, b < 32 → t.armed (b + 32 * b2n (!hi)) = s.armed (b + 32 * b2n (!hi))) ∧
      (∀ b : Nat, b < 32 → v.getLsbD b = false → t.armed (b + 32 * b2n hi) = s.armed (b + 32 * b2n hi)) ∧
      (∀ b : Nat, b < 32 → v.getLsbD b = true →
        (s.bit F.EVT_EVT_CTL_EN = false ∨ ∀ g : Nat, g < 96 → s.vectorOf g = some (b + 32 * b2n hi) → s.groupPending g = false) →
        t.armed (b + 32 * b2n hi) = true) ∧
      (∀ b g : Nat, b < 32 → v.getLsbD b = true → s.bit F.EVT_EVT_CTL_EN = true → g < 96 → s.vectorOf g = some (b + 32 * b2n hi) →
        s.groupPending g = true → t.armed (b + 32 * b2n hi) = false ∧
        ((∃ a d, Out.msix (b + 32 * b2n hi) a d ∈ t.out) ∨ b + 32 * b2n hi ∈ t.hif.pba))) ∧
  (∀ (r : Req) (v : Word) (s : State), Taken s r R.EVT_EVT_CTL →
    ∃ t, exec (.evtEnable r v) s = .next t ∧ FrameEv [.resp] [R.EVT_EVT_CTL] s t ∧ t.resp = .done ∧ t.bit F.EVT_EVT_CTL_EN = true ∧
      t.bit F.EVT_EVT_CTL_REC_EN = v.getLsbD 1 ∧
      (s.bit F.EVT_EVT_CTL_EN = true → Frame [.resp] [R.EVT_EVT_CTL] s t) ∧
      (∀ g b : Nat, s.bit F.EVT_EVT_CTL_EN = false → g < 96 → b < 16 → (s.pendBits (groupPage g)).getLsbD b = true →
        s.bit (F.HDR_PAGE_CTL_EVT_OUT (groupPage g)) = true → (linePage (groupPage g) = true → s.seam.phase = .up) →
        (∀ vec : Nat, s.vectorOf g = some vec → t.armed vec = false ∧
          (s.armed vec = true → (∃ a d, Out.msix vec a d ∈ t.out) ∨ vec ∈ t.hif.pba)) ∧
        (s.bit (F.EVT_SRC_ROUTE_EN (16 * g + b)) = true → t.postOutstanding (16 * g + b) = true))) ∧
  (∀ (ok : Bool) (s : State), s.log.writing ≠ 0 →
    ∃ u, exec (.logPageProgram ok) s = .next u.resetIfFlushed ∧ (s.rst.devWait = none → u.resetIfFlushed = u) ∧
      FrameEv [.log] [R.EVT_CNT_LOG_REC, R.EVT_CNT_LOG_LOST] s u ∧ u.log.seq = s.log.seq ∧
      (ok = true → u.log.flash = s.log.flash ++ (s.log.buf.take s.log.writing).map some ∧ u.log.buf = s.log.buf.drop s.log.writing ∧
        u.log.retried = false ∧ u.rd R.EVT_CNT_LOG_REC = s.rd R.EVT_CNT_LOG_REC + BitVec.ofNat 32 s.log.writing ∧
        u.rd R.EVT_CNT_LOG_LOST = s.rd R.EVT_CNT_LOG_LOST) ∧
      (ok = false → u.log.flash = s.log.flash ++ List.replicate s.log.writing none ∧
        u.rd R.EVT_CNT_LOG_REC = s.rd R.EVT_CNT_LOG_REC ∧
        (s.log.retried = false → u.log.buf = s.log.buf ∧ u.log.retried = true ∧
          u.log.writing = min (4 - (s.log.flash.length + s.log.writing) % 4) s.log.writing ∧ u.rd R.EVT_CNT_LOG_LOST = s.rd R.EVT_CNT_LOG_LOST) ∧
        (s.log.retried = true → u.log.buf = s.log.buf.drop s.log.writing ∧ u.log.retried = false ∧ u.log.flashErr = true ∧
          u.rd R.EVT_CNT_LOG_LOST = s.rd R.EVT_CNT_LOG_LOST + BitVec.ofNat 32 s.log.writing ∧
          (s.domOn 29 = true → Raised u P.EVT E.EVT_LOG_FLASH_ERR)))) ∧
  (∀ s : State, s.log.pf = false → s.rst.inReset = false → s.rst.unpowered = false → s.domOn 29 = true →
    ∃ t, exec .powerFailAssert s = .next t ∧
      FrameEv [.log, .ecc] [R.EVT_CNT_PF, R.HIF_CNT_FLASH_ERR, R.HDR_LOG_PTR P.EVT, R.EVT_CNT_LOG_LOST] s t ∧ t.log.pf = true ∧ t.log.late = false ∧
      t.log.flushed = (!s.logOn) ∧ t.rd R.EVT_CNT_PF = s.rd R.EVT_CNT_PF + 1 ∧ Raised t P.EVT E.EVT_PF_ASSERT ∧
      (∀ a n : Nat, s.hif.flashOp = some (3, a, n) → t.hif.flashOp = none ∧ t.hif.flashRes = 3 ∧
        t.rd R.HIF_CNT_FLASH_ERR = s.rd R.HIF_CNT_FLASH_ERR + 1 ∧ (s.domOn 33 = true → Raised t P.HIF E.HIF_FLASH_DONE)) ∧
      ((∀ a n : Nat, s.hif.flashOp ≠ some (3, a, n)) → t.hif.flashOp = s.hif.flashOp ∧ t.rd R.HIF_CNT_FLASH_ERR = s.rd R.HIF_CNT_FLASH_ERR) ∧
      t.log.seq = s.log.seq + 1 ∧ (s.ecc.clear = true → t.ecc.clear = false ∧ t.ecc.result = 4) ∧ (s.ecc.clear = false → t.ecc = s.ecc) ∧
      (s.log.buf.length < 65 → ∃ x : LogRec, t.log.buf = s.log.buf ++ [x] ∧ x.cls = 4 ∧ x.page = P.EVT ∧ x.seq = s.log.seq ∧
        x.time = s.deviceTime false)) ∧
  (∀ s : State, (s.log.pf = true ∨ s.rst.inReset = true ∨ s.rst.unpowered = true) → exec .powerFailAssert s = .next s) ∧
  (∀ (late : Bool) (s : State), s.log.pf = true → s.log.flushed = false → s.log.buf = [] → s.log.writing = 0 →
    ∃ u, exec (.powerFailFlushDone late) s = .next u.resetIfFlushed ∧ (s.rst.devWait = none → u.resetIfFlushed = u) ∧
      u = { s with log := { s.log with flushed := true, late := late } }) ∧
  (∀ (late : Bool) (s : State), (s.log.pf = false ∨ s.log.flushed = true ∨ s.log.buf ≠ [] ∨ s.log.writing ≠ 0) →
    exec (.powerFailFlushDone late) s = .next s)

/-- Each power, sleep, reset, boot, self-test, memory-training and board-interface command named here completes: in every state that meets the
conditions given for it, which are on the state and the operands alone, exec answers a next state in which the command's own effect has
taken place. Each clause names the chief effect only; what else changes stands in the statements of the parts.
(R444, R554, R597, R599, R601, R606, R608, R615, R619, R624, R629, R649) -/
def Obligations.SystemCommandsComplete : Prop :=
  (∀ (m : Chan) (gib : Nat) (s : State), (s.ch m).st = .training → ((s.ch m).eyeOnly = true ∨ gib = (s.ch m).cap) → s.pwr.step ≠ .memory →
    ∃ t, exec (.trainingDone m gib) s = .next t ∧ (t.ch m).st = .up ∧ (t.ch m).fail = 0) ∧
  (∀ (m : Chan) (stp : BitVec 4) (s : State), (s.ch m).st = .training → s.pwr.step ≠ .memory →
    ∃ t, exec (.trainingFail m stp) s = .next t ∧ (t.ch m).st = .withdrawn ∧ (t.ch m).fail = stp) ∧
  (∀ (n : Fin 8) (item : BitVec 12) (s : State), s.reaches (.core n) = true → (s.item item.toNat).st = .waiting →
    s.tsk.stalled = [] → s.tsk.queue = [] →
    ∃ t, exec (.portCancel n item) s = .next t ∧ t.resp = .done ∧ t.item item.toNat = { s.item item.toNat with flags := 0 }) ∧
  (∀ (r : Req) (v : Word) (s : State), Taken s r R.TSK_CANCEL → (s.item (getField v 0 12)).st = .waiting →
    s.tsk.stalled = [] → s.tsk.queue = [] →
    ∃ t, exec (.tskCancel r v) s = .next t ∧ t.resp = .done ∧ t.item (getField v 0 12) = { s.item (getField v 0 12) with flags := 0 }) ∧
  (∀ (r : Req) (v : Word) (s : State), Taken s r R.PWR_PWR_CTL → s.pwr.moving = false → s.pwr.step = .none →
    ∃ t, exec (.levelWrite r v) s = .next t ∧ t.resp = .done ∧ t.pwr.moving = true ∧ t.pwr.levelFrom = s.pwr.levelNow ∧
      t.pwr.levelTo = v.setWidth 2 ∧ t.pwr.levelNow = slower s.pwr.levelNow (v.setWidth 2)) ∧
  (∀ (line : Bool) (s : State), (s.reg line).waiting = true → (s.reg (!line)).waiting = false → s.pwr.moving = true → s.pwr.heldLevel = none →
    ∃ t, exec (.regulatorAck line) s = .next t ∧ t.pwr.levelNow = s.pwr.levelTo ∧ t.pwr.moving = false ∧
      t.rd R.PWR_CNT_LEVEL = s.rd R.PWR_CNT_LEVEL + 1) ∧
  (∀ (line : Bool) (s : State), (s.reg line).waiting = true → (s.reg line).retries < 3 →
    ∃ t, exec (.pmbusAttemptTimeout line) s = .next t ∧ t.reg line = { s.reg line with retries := (s.reg line).retries + 1 } ∧
      t.rd R.PWR_CNT_PMB_RETRY = s.rd R.PWR_CNT_PMB_RETRY + 1) ∧
  (∀ (r : Req) (v : Word) (s : State), Taken s r R.PWR_PWR_CMD → v.getLsbD 1 = false → v.getLsbD 2 = false → v.getLsbD 3 = false →
    v.getLsbD 4 = false → s.pwr.st = .run → s.inWake = false → s.sleepCause .doze = 0 →
    ∃ t, exec (.doze r v) s = .next t ∧ t.resp = .done ∧ t.pwr.entries = s.pwr.entries ++ [.doze]) ∧
  (∀ (r : Req) (v : Word) (s : State), Taken s r R.PWR_PWR_CMD → v.getLsbD 0 = false → v.getLsbD 2 = false → v.getLsbD 3 = false →
    v.getLsbD 4 = false → (s.pwr.st = .run ∨ s.pwr.st = .doze) → s.inWake = false → s.log.pf = false →
    ∃ t, exec (.nap r v) s = .next t ∧ t.resp = .done ∧ t.pwr.entries = s.pwr.entries ++ [.nap]) ∧
  (∀ (r : Req) (v : Word) (s : State), Taken s r R.PWR_PWR_CMD → v.getLsbD 0 = false → v.getLsbD 1 = false → v.getLsbD 3 = false →
    v.getLsbD 4 = false → s.pwr.st ≠ .deep → s.inWake = false → s.log.pf = false →
    ∃ t, exec (.deep r v) s = .next t ∧ t.resp = .done ∧ t.pwr.entries = s.pwr.entries ++ [.deep]) ∧
  (∀ (r : Req) (v : Word) (s : State), Taken s r R.PWR_PWR_CMD → v.getLsbD 0 = false → v.getLsbD 1 = false → v.getLsbD 2 = false →
    v.getLsbD 4 = false → s.pwr.st = .nap → s.inWake = false →
    ∃ t, exec (.wake r v) s = .next t ∧ t.resp = .done ∧ t.pwr.step = .regulator ∧ t.rd R.PWR_WAKE_LAST = 1 ∧
      (t.reg true).waiting = true) ∧
  (∀ (r : Req) (v : Word) (s : State), Taken s r R.PWR_PWR_CMD → v.getLsbD 0 = false → v.getLsbD 1 = false → v.getLsbD 2 = false →
    v.getLsbD 3 = false → s.pins.oscReady = true → s.pwr.limp = true → s.pwr.step = .none →
    ∃ u : State, exec (.leaveLimp r v) s = .next u.startChains.memStep ∧ u.resp = .done ∧ u.pwr = { s.pwr with limp := false }) ∧
  (∀ (rest : List SleepSt) (s : State), s.pwr.entries = .doze :: rest → s.pwr.st = .run → s.sleepReady = true → s.sleepCause .doze = 0 →
    ∃ t, exec .sleepEntry s = .next t ∧ t.pwr.st = .doze ∧ t.pwr.entries = rest ∧ t.pwr.on = s.pwr.on &&& ~~~ memDoms) ∧
  (∀ (e : SleepSt) (rest : List SleepSt) (s : State), s.pwr.entries = e :: rest → s.pwr.step ≠ .entering →
    ∃ t, exec .sleepWaitTimeout s = .next t ∧ t.pwr.entries = rest ∧ t.pwr.refuse = 1) ∧
  (∀ s : State, s.pwr.st = .doze → s.inWake = false → (s.act.st = .holdover ∨ s.spilling = true) →
    ∃ u : State, exec .dozeAutoExit s = .next u.memStep ∧ u.rd R.PWR_WAKE_LAST = 6 ∧ u.pwr.st = .doze) ∧
  (∀ (k : Fin 8) (s : State), (s.rd R.PWR_WAKE_SRC).getLsbD k.val = true → s.pwr.st = .nap → s.inWake = false → s.rst.unpowered = false →
    s.pwr.entries = [] →
    ∃ t, exec (.wakeSource (.gpio k)) s = .next t ∧ t.pwr.step = .regulator ∧
      t.rd R.PWR_WAKE_LAST = BitVec.ofNat 32 (2 + k.val * 2 ^ 4)) ∧
  (∀ s : State, s.pwr.step ≠ .oscillator → s.pwr.limp = true → s.pins.oscReady = false → s.domOn 0 = true →
    ∃ t, exec .oscReadyRise s = .next t ∧ t.pins.oscReady = true ∧ Raised t P.PWR E.PWR_OSC_BACK) ∧
  (∀ s : State, s.pwr.step = .oscillator →
    ∃ u : State, exec .oscTimeout s = .next u.oscDone ∧ u.pwr.limp = true ∧ u.pwr.step = .oscillator) ∧
  (∀ (d : Fin 34) (s : State), s.pwr.waitGood &&& domBit d ≠ 0 → s.pwr.step = .logic → s.pwr.waitGood &&& ~~~ domBit d ≠ 0 →
    ∃ t, exec (.domainPowerGood d) s = .next t ∧ t.pwr.on = s.pwr.on ||| domBit d ∧ t.pwr.waitGood = s.pwr.waitGood &&& ~~~ domBit d) ∧
  (∀ (d : Fin 34) (s : State), s.pwr.waitGood &&& domBit d ≠ 0 → s.pwr.step = .logic → s.pwr.waitGood &&& ~~~ domBit d ≠ 0 →
    ∃ t, exec (.domainTimeout d) s = .next t ∧ t.pwr.dead = s.pwr.dead ||| domBit d ∧ t.pwr.waitGood = s.pwr.waitGood &&& ~~~ domBit d ∧
      t.pwr.on = s.pwr.on) ∧
  (∀ s : State, s.rst.unpowered = true →
    ∃ t, exec .powerOn s = .next t ∧ t.rst.unpowered = false ∧ t.rst.cause = 1 ∧ t.mem = [] ∧ t.pwr.step = .regulator ∧ t.pwr.on = domBit 0) ∧
  (∀ s : State, ∃ t, exec .powerLoss s = .next t ∧ t.rst.unpowered = true ∧ t.pwr.on = 0 ∧ t.mem = [] ∧ t.log.flash = s.log.flash) ∧
  (∀ s : State, s.rst.inReset = false → s.rst.unpowered = false →
    ∃ t, exec .resetAssert s = .next t ∧ t.rst.inReset = true ∧ t.rst.cause = 2 ∧ t.rst.boot = .idle ∧ t.mem = s.mem ∧ t.act.silenced = s.act.silenced) ∧
  (∀ (straps : BitVec 5) (s : State), s.rst.inReset = true → s.rst.unpowered = false → s.pwr.step ≠ .none →
    ∃ t, exec (.resetRelease straps) s = .next t ∧ t.rst.inReset = false ∧ t.rst.straps = straps ∧ t.own.sealUse = straps.getLsbD 3) ∧
  (∀ (r : Req) (v : Word) (s : State), Taken s r R.RST_RST_CMD → s.rst.devWait = none → s.log.pf = false → s.logOn = false →
    ∃ u : State, exec (.devRst r v) s = .next (u.deviceReset 3).electionStart ∧ u.resp = .done ∧ SameBut [.rst, .resp] s u) ∧
  (∀ s : State, s.running T.watchdog = true → s.fld F.RST_WDT_CFG_TIMEOUT_MS ≠ 0 → s.fld F.RST_WDT_CFG_ACTION = 0 → s.domOn 29 = true →
    ∃ t, exec .watchdogExpire s = .next t ∧ t.running T.watchdog = false ∧ Raised t P.RST E.RST_WDT) ∧
  (∀ (r : Req) (v : Word) (s : State), Taken s r R.RST_WDT_KICK → s.fld F.RST_WDT_CFG_TIMEOUT_MS ≠ 0 →
    exec (.wdtKick r v) s = .next ((s.reply .done).startTimer T.watchdog)) ∧
  (∀ (r : Req) (v : Word) (s : State), Taken s r R.RST_CORE_RUN → v.getLsbD 0 = true →
    ∃ t, exec (.coreRunWrite r v) s = .next t ∧ t.resp = .done ∧ t.fld F.RST_CORE_RUN_RUN = getField v 0 8) ∧
  (∀ s : State, s.inStep 7 = true → s.own.elected = true →
    ∃ t, exec (.bootStepDone .b7) s = .next t ∧ t.rst.boot = .running ∧
      t.rd R.RST_CORE_RUN = (if s.rst.hdr.any BootHdr.allCores = true then 0xFF else 1)) ∧
  (∀ s : State, s.inStep 2 = true → s.rst.copy = false →
    ∃ t, exec .flashReadTimeout s = .next t ∧ t.rst = { s.rst with cause0 := 4, copy := true }) ∧
  (∀ (r : Req) (v : Word) (s : State), Taken s r R.RST_BOOT_CMD → v.getLsbD 1 = false → s.rst.boot = .failed →
    ∃ t, exec (.bootRetry r v) s = .next t ∧ t.resp = .done ∧ t.rst.boot = .loading ∧ t.rst.copy = false ∧ t.rst.hdr = none ∧ 2 ∈ t.rst.steps) ∧
  (∀ (r : Req) (v : Word) (s : State), Taken s r R.RST_BOOT_CMD → v.getLsbD 0 = false → s.rst.boot = .held → s.own.elected = true →
    ∃ t, exec (.bootRun r v) s = .next t ∧ t.resp = .done ∧ t.rst.boot = .running) ∧
  (∀ (r : Req) (v : Word) (s : State), Taken s r R.SYS_BIST_CTL → s.sys.active = false →
    s.bistIdle (getField (v ||| 1) 1 3) (bistIndex (getField (v ||| 1) 1 3) (getField (v ||| 1) 16 9)) = true →
    ∃ t, exec (.bistGo r v) s = .next t ∧ t.resp = .done ∧ t.sys.bist = .running ∧ t.sys.active = true ∧ t.rd R.SYS_BIST_ERR = 0) ∧
  (∀ (err : Nat) (addr : Word) (s : State), s.sys.active = true →
    ∃ t, exec (.bistDone err addr) s = .next t ∧ t.sys.active = false ∧ t.sys.bist = (if err = 0 then .passed else .failed)) ∧
  (∀ (i : Instr) (s : State), i = .pcieLinkDown ∨ i = .pcieHotReset ∨ i = .perstAssert → s.endpointOn = true →
    ∃ t, exec i s = .next t ∧ t.hif.l0 = false ∧ t.hif.d3 = false ∧ t.hif.msixEn = false) ∧
  (∀ (r : Req) (v : Word) (s : State), Taken s r R.HIF_FLASH_CMD → s.flashCause 1 (s.fld F.HIF_FLASH_ADDR_ADDR) (getField v 8 9) = 0 →
    s.log.writing = 0 →
    ∃ t, exec (.flashRead r v) s = .next t ∧ t.resp = .done ∧
      t.hif.flashOp = some (1, s.fld F.HIF_FLASH_ADDR_ADDR, getField v 8 9) ∧ t.hif.flashRun = true) ∧
  (∀ (r : Req) (v : Word) (s : State), Taken s r R.HIF_FLASH_CMD → s.flashCause 2 (s.fld F.HIF_FLASH_ADDR_ADDR) (getField v 8 9) = 0 →
    s.log.writing = 0 →
    ∃ t, exec (.flashProg r v) s = .next t ∧ t.resp = .done ∧
      t.hif.flashOp = some (2, s.fld F.HIF_FLASH_ADDR_ADDR, getField v 8 9) ∧ t.hif.flashRun = true) ∧
  (∀ (r : Req) (v : Word) (s : State), Taken s r R.HIF_OI2C_CMD → s.hif.i2cOp = none →
    ∃ t, exec (.oi2cWrite r v) s = .next t ∧ t.resp = .done ∧ t.hif.i2cOp = some (setField (v ||| 0x80000000) 20 1 0)) ∧
  (∀ (r : Req) (v : Word) (s : State), Taken s r R.HIF_OI2C_CMD → s.hif.i2cOp = none →
    ∃ t, exec (.oi2cRead r v) s = .next t ∧ t.resp = .done ∧ t.hif.i2cOp = some (v ||| 0x80100000)) ∧
  (∀ (w : Word) (s : State), s.hif.i2cOp = some w →
    ∃ t, exec .oi2cSclTimeout s = .next t ∧ t.hif.i2cOp = none ∧ t.hif.i2cRes = 2 ∧
      t.rd R.HIF_CNT_OI2C_ERR = s.rd R.HIF_CNT_OI2C_ERR + 1) ∧
  (∀ s : State, ∃ t, exec (.entropyTestPass false) s = .next t ∧ t.key = { s.key with entropy := true } ∧ SameBut [.key] s t) ∧
  (∀ (m : Chan) (s : State), s.pwr.step = .memory → s.memPending m = true →
    ∃ u : State, exec (.memoryStepTimeout m) s = .next u.memCheck ∧ (u.ch m).st = .withdrawn)

/-- Each commit message, register-group, ownership, presence, seal, receiver, deframer and tributary command named here completes: in every state
that meets the conditions given for it, which are on the state and the operands alone, exec answers a next state in which the command's
own effect has taken place. Each clause names the chief effect only; what else changes stands in the statements of these families.
(R65, R71, R85, R93, R98, R109, R138, R157, R160, R185, R202, R211) -/
def Obligations.LineDieCommandsComplete : Prop :=
  (∀ (tag : BitVec 8) (ws : SMap Word) (rest : List CmtMsg) (s : State), s.seam.toLine = .prepare tag ws :: rest →
    ws.all (fun e => s.powered e.1) = true → rest.contains (.abort tag) = false →
    ∃ t, exec (.prepare tag) s = .next t ∧ t.seam.preps = s.seam.preps ++ [⟨tag, ws, false⟩] ∧
      t.seam.toFab = s.seam.toFab ++ [.prepared tag] ∧ t.seam.toLine = rest) ∧
  (∀ (tag : BitVec 8) (rest : List CmtMsg) (i : Fin 4) (s : State), s.seam.toFab = .prepared tag :: rest → s.slotOf tag = some i →
    s.cmt.slots[i].st = .preparing →
    ∃ u : State, exec (.prepared tag) s = .next ((u.stopTimer (T.prep i.val)).switchNow i) ∧ u.cmt.slots[i].st = .applying ∧ u.seam.toFab = rest) ∧
  (∀ (tag : BitVec 8) (rest : List CmtMsg) (i : Fin 4) (s : State), s.seam.toLine = .apply tag :: rest → s.slotOf tag = some i →
    s.cmt.slots[i].st = .applying →
    ∃ u : State, exec (.apply tag) s = .next ((u.groupRolls i).switchNow i) ∧ u.seam.toLine = rest ∧
      u.seam.preps = s.seam.preps.map (fun (p : Prep) => if p.tag = tag then { p with applied := true } else p)) ∧
  (∀ (tag : BitVec 8) (rest : List CmtMsg) (s : State), s.seam.toLine = .abort tag :: rest →
    ∃ t, exec (.abort tag) s = .next t ∧ t.seam.toLine = rest ∧
      t.seam.preps = s.seam.preps.filter (fun p => decide (p.tag ≠ tag) || p.applied)) ∧
  (∀ (tag : BitVec 8) (rest : List CmtMsg) (i : Fin 4) (s : State), s.seam.toFab = .abortOff tag :: rest → s.slotOf tag = some i →
    s.cmt.slots[i].st = .preparing →
    ∃ t, exec (.abortDomainOff tag) s = .next t ∧ t.cmt.slots[i].st = .aborted ∧ t.cmt.slots[i].cause = 3 ∧ t.seam.toFab = rest) ∧
  (∀ (tag : BitVec 8) (i : Fin 4) (s : State), s.slotOf tag = some i → s.cmt.slots[i].st = .preparing → s.seam.phase = .up →
    ∃ t, exec (.prepTimeout tag) s = .next t ∧ t.cmt.slots[i].st = .aborted ∧ t.cmt.slots[i].cause = 5 ∧
      t.seam.toLine = s.seam.toLine ++ [.abort tag]) ∧
  (∀ (page : BitVec 8) (s : State), usedPage page.toNat = true → s.domOn 31 = true → (linePage page.toNat = true → s.seam.phase = .up) →
    ∃ t, exec (.mirrorUpdate page true) s = .next t ∧ ∀ a ∈ regsOf page.toNat, t.mirrorWord a = s.readWord .shelf a) ∧
  (∀ (r : Req) (page : BitVec 8) (v : Word) (s : State), Taken s r (R.HDR_PAGE_CTL page.toNat) → v.getLsbD 1 = false → v.getLsbD 0 = false →
    ∃ t, exec (.cntClr r page v) s = .next t ∧ t.resp = .done ∧ ∀ k, pageOf k = page.toNat → isCounter k = true → t.rd k = resetWord k) ∧
  (∀ (r : Req) (page : BitVec 8) (v : Word) (s : State), Taken s r (R.HDR_PAGE_CTL page.toNat) → v.getLsbD 0 = false →
    v.getLsbD 1 = true → v.getLsbD 2 = false →
    ∃ t, exec (.cntHold r page v) s = .next t ∧ t.resp = .done ∧ t.bit (F.HDR_PAGE_CTL_CNT_HOLD page.toNat) = true) ∧
  (∀ (r : Req) (page : BitVec 8) (v : Word) (s : State), Taken s r (R.HDR_PAGE_CTL page.toNat) → v.getLsbD 1 = false → v.getLsbD 2 = false →
    s.bit (F.HDR_PAGE_CTL_EVT_OUT page.toNat) = false →
    ∃ u : State, exec (.evtOutSet r page v) s = .next (u.risePending page.toNat) ∧ u.resp = .done ∧
      u.bit (F.HDR_PAGE_CTL_EVT_OUT page.toNat) = true) ∧
  (∀ (r : Req) (page : BitVec 8) (bits : BitVec 16) (s : State), Taken s r (R.HDR_EVT_MASK page.toNat) →
    ∃ t, exec (.evtMaskWrite r page bits) s = .next t ∧ ∀ b : Fin 16, (t.rd (R.HDR_EVT_MASK page.toNat)).getLsbD b.val = bits.getLsbD b.val) ∧
  (∀ (r : Req) (tag : BitVec 8) (i : Fin 4) (s : State), Taken s r R.CMT_CMT_OPEN → tag ≠ 0 → s.slotOf tag = none → s.freeSlot = some i →
    ∃ t, exec (.cmtOpen r tag) s = .next t ∧ t.resp = .done ∧ t.cmt.slots[i] = { st := .opened, tag := tag }) ∧
  (∀ (r : Req) (tag : BitVec 8) (i : Fin 4) (s : State), Taken s r R.CMT_CMT_COMMIT → tag ≠ 0 → s.slotOf tag = some i →
    s.cmt.slots[i].st = .opened → s.log.pf = false → s.cmt.slots[i].writes = [] →
    ∃ t, exec (.cmtCommit r tag) s = .next t ∧ t.resp = .done ∧ t.cmt.slots[i].st = .applied) ∧
  (∀ (r : Req) (tag : BitVec 8) (i : Fin 4) (s : State), Taken s r R.CMT_CMT_DISCARD → tag ≠ 0 → s.slotOf tag = some i →
    s.cmt.slots[i].st = .opened →
    ∃ t, exec (.cmtDiscard r tag) s = .next t ∧ t.resp = .done ∧ t.cmt.slots[i].st = .aborted ∧ t.cmt.slots[i].cause = 1) ∧
  (∀ (r : Req) (tag : BitVec 8) (i : Fin 4) (s : State), Taken s r R.CMT_CMT_ACK → tag ≠ 0 → s.slotOf tag = some i →
    (s.cmt.slots[i].st = .applied ∨ s.cmt.slots[i].st = .aborted) →
    ∃ t, exec (.cmtAck r tag) s = .next t ∧ t.resp = .done ∧ t.cmt.slots[i].st = .free) ∧
  (∀ (tag : BitVec 8) (pipe : Fin 4) (s : State), s.cmt.waiting.find? (fun w => decide (w.2 = pipe)) = some (tag, pipe) →
    ∃ u : State, exec (.markerInject tag pipe) s = .next (u.absorb pipe) ∧ u.cmt.waiting = s.cmt.waiting.erase (tag, pipe) ∧
      u.pipes[pipe].arr = s.pipes[pipe].arr ++ [.mark tag]) ∧
  (∀ (tag : BitVec 8) (pipe : Fin 4) (st : Stage) (m : Marker) (i : Fin 4) (s : State),
    s.cmt.markers.find? (fun m => decide (m.pipe = pipe) && decide (m.tag = tag)) = some m → m.passed = stageNo st →
    (s.pipes[pipe]).ahead st m.ord = false →
    s.cmt.markers.any (fun n => decide (n.pipe = pipe) && decide (n.ord < m.ord) && decide (n.passed ≤ m.passed)) = false →
    s.slotOf tag = some i →
    ∃ u : State, exec (.markerPass tag pipe st) s = .next (u.switchUnit i (.stage pipe st)) ∧
      u.cmt.markers = (if st = .police then s.cmt.markers.erase m
        else s.cmt.markers.map (fun n => if n = m then { n with passed := n.passed + 1 } else n))) ∧
  (∀ (tag : BitVec 8) (i : Fin 4) (c : Fin 1024) (s : State), s.slotOf tag = some i →
    exec (.boundaryApply tag (.trib c)) s = .next (s.switchUnit i (.trib c))) ∧
  (∀ (s : State), s.running T.election = true → s.own.elected = false →
    ∃ t, exec .electionTimeout s = .next t ∧ t.own.elected = true ∧ t.own.timed = true) ∧
  (∀ (r : Req) (s : State), Taken s r R.OWN_OWN_CLAIM → s.own.elected = true → s.own.st = .vacant →
    ∃ t, exec (.ownClaim r {}) s = .next t ∧ t.resp = .done ∧ t.own.st = .held ∧ t.own.holder = agentOf r) ∧
  (∀ (r : Req) (s : State), Taken s r R.OWN_OWN_CLAIM → s.own.elected = true → s.isDelegate r = false → s.own.forceWin = true →
    ∃ t, exec (.ownClaimForced r {}) s = .next t ∧ t.resp = .done ∧ t.own.st = .held ∧ t.own.holder = agentOf r ∧ t.own.forceWin = false) ∧
  (∀ (r : Req) (t : BitVec 2) (s : State), Taken s r R.OWN_OWN_RELEASE → s.own.st = .held → t ≠ s.own.holder → t ≠ 3 →
    ∃ u, exec (.ownReleaseTarget r t {}) s = .next u ∧ u.resp = .done ∧ u.own.st = .releasing ∧ u.own.target = t) ∧
  (∀ (r : Req) (s : State), Taken s r R.OWN_OWN_RELEASE → s.own.st = .held →
    ∃ u, exec (.ownReleaseVacate r {}) s = .next u ∧ u.resp = .done ∧ u.own.st = .vacant) ∧
  (∀ s : State, s.own.st = .releasing → ∃ t, exec .handoverTimeout s = .next t ∧ t.own.st = .held ∧ t.own.holder = s.own.holder) ∧
  (∀ s : State, s.own.st ≠ .vacant → s.bit F.OWN_OWN_CTL_LEASE_EN = true → s.running T.lease = true →
    ∃ t, exec (.leaseExpire {}) s = .next t ∧ t.own.st = .vacant) ∧
  (∀ (r : Req) (s : State), Taken s r R.OWN_OWN_HEARTBEAT → s.bit F.OWN_OWN_CTL_LEASE_EN = true →
    ∃ t, exec (.ownHeartbeat r) s = .next t ∧ t.resp = .done ∧ t.running T.lease = true) ∧
  (∀ s : State, s.running T.wakeL0 = true → s.own.st ≠ .vacant → s.own.holder = 0 → s.hif.l0 = false →
    ∃ t, exec .wakeL0Timeout s = .next t ∧ t.own.st = .vacant) ∧
  (∀ (b : Bool) (s : State), s.watches = true → ∃ t, exec (.presenceDebounce b) s = .next t ∧ t.own.levelHigh = b) ∧
  (∀ s : State, s.watches = true → s.own.counting = true → s.own.pressed = false → s.own.stuck = false →
    ∃ t, exec .presenceOn s = .next t ∧ t.own.presWin = true ∧ t.own.forceWin = true ∧ t.running T.presence = true) ∧
  (∀ s : State, s.watches = true → s.own.counting = true → s.own.stuck = false →
    ∃ t, exec .presenceStuck s = .next t ∧ t.own.stuck = true ∧ t.own.presWin = false ∧ t.own.forceWin = false) ∧
  (∀ s : State, s.watches = true → s.own.stuck = true → s.own.levelHigh = true →
    ∃ t, exec .presenceUnstick s = .next t ∧ t.own.stuck = false) ∧
  (∀ s : State, s.own.presWin = true → ∃ t, exec .presenceWindowExpire s = .next t ∧ t.own.presWin = false) ∧
  (∀ s : State, ∃ t, exec .forceWindowExpire s = .next t ∧ t.own.forceWin = false) ∧
  (∀ (r : Req) (v : Word) (s : State), Taken s r R.OWN_OWN_PRES_CTL → s.own.presWin = true →
    ∃ t, exec (.presenceEnd r v) s = .next t ∧ t.resp = .done ∧ t.own.presWin = false) ∧
  (∀ (x : Bool) (s : State), s.own.sealUse = true → s.watches = true → x ≠ s.own.lfsr.getLsbD 7 → 2 ≤ s.own.misses →
    s.own.matchSeen = true →
    ∃ t, exec (.sealBreak [x]) s = .next t ∧ t.own.broken = true ∧ t.own.sealOk = false ∧ t.own.armed = false) ∧
  (∀ (x : Bool) (s : State), s.own.sealUse = true → s.watches = true → x = s.own.lfsr.getLsbD 7 → 63 ≤ s.own.hits →
    ∃ t, exec (.sealIntact [x]) s = .next t ∧ t.own.sealOk = true) ∧
  (∀ (x : Bool) (s : State), s.own.sealUse = true → s.watches = true → x = s.own.lfsr.getLsbD 7 → 63 ≤ s.own.hits → s.own.cleared = true →
    ∃ t, exec (.sealRearm [x]) s = .next t ∧ t.own.armed = true) ∧
  (∀ (r : Req) (s : State), Taken s r R.OWN_OWN_STAT → s.own.broken = true →
    ∃ t, exec (.sealBrokenClear r) s = .next t ∧ t.resp = .done ∧ t.own.broken = false) ∧
  (∀ (r : Req) (c : Chan) (v : Word) (s : State), Taken s r (R.LRX_RX_CTL c.val) → (s.rx[c]).st = .off → s.pwr.limp = false →
    ∃ t, exec (.rxEnable r c v) s = .next t ∧ t.resp = .done ∧ (t.rx[c]).st = .waitLight) ∧
  (∀ (r : Req) (c : Chan) (v : Word) (s : State), Taken s r (R.LRX_RX_CTL c.val) → (s.rx[c]).st ≠ .off →
    ∃ t, exec (.rxDisable r c v) s = .next t ∧ t.resp = .done ∧ (t.rx[c]).st = .off) ∧
  (∀ (c : Chan) (offset : Int) (peak : BitVec 8) (gain : BitVec 9) (lag : Nat) (s : State), detectWf gain lag = true →
    (s.rx[c]).st = .waitLight → s.fld (F.LRX_PRE_CFG_THR c.val) ≤ peak.toNat →
    ∃ t, exec (.preambleDetect c offset peak gain lag) s = .next t ∧ (t.rx[c]).st = .acquire ∧ (t.rx[c]).cur.agc = gain.toNat) ∧
  (∀ (c : Chan) (s : State), (s.rx[c]).st = .waitLight →
    ∃ t, exec (.blindAcquire c) s = .next t ∧ (t.rx[c]).st = .acquire ∧ t.pins.los[c] = false) ∧
  (∀ (c : Chan) (a : Adapt) (s : State), adaptWf a = true → (s.rx[c]).st = .acquire →
    ∃ t, exec (.trainingCountReached c true a) s = .next t ∧ (t.rx[c]).st = .track ∧ (t.rx[c]).lock = true) ∧
  (∀ (c : Chan) (g : Fin 250) (s : State), (s.rx[c]).st = .track → s.mapValid c = true →
    s.markOf c ((s.dsf[c]).place false g.val) = .dark →
    ∃ t, exec (.plannedHold c g) s = .next t ∧ (t.rx[c]).st = .held ∧ (t.rx[c]).planned = true ∧
      t.rd (R.LRX_CNT_FREEZE c.val) = s.rd (R.LRX_CNT_FREEZE c.val) + 1) ∧
  (∀ (c : Chan) (s : State), (s.rx[c]).st = .track →
    ∃ t, exec (.unplannedHold c) s = .next t ∧ (t.rx[c]).st = .held ∧ (t.rx[c]).planned = false) ∧
  (∀ (c : Chan) (n : Nat) (s : State), (s.rx[c]).st = .track →
    ∃ t, exec (.losAssert c n) s = .next t ∧ t.pins.los[c] = true ∧ (t.rx[c]).st = .held) ∧
  (∀ (c : Chan) (g : Fin 250) (s : State), (s.rx[c]).st = .track → s.bit (F.LRX_RX_CTL_DOZE_EN c.val) = true → s.mapValid c = true →
    s.dozeRun c g.val = true → ∃ t, exec (.dozeEnter c g) s = .next t ∧ (t.rx[c]).st = .doze) ∧
  (∀ (c : Chan) (s : State), (s.rx[c]).st = .doze → ∃ t, exec (.dozeWake c) s = .next t ∧ (t.rx[c]).st = .track) ∧
  (∀ (c : Chan) (s : State), (s.rx[c]).st = .track →
    ∃ t, exec (.cdrLossOfLock c) s = .next t ∧ (t.rx[c]).st = .acquire ∧ t.rd (R.LRX_CNT_LOL c.val) = s.rd (R.LRX_CNT_LOL c.val) + 1) ∧
  (∀ (c : Chan) (s : State), (s.rx[c]).st = .held → (s.rx[c]).planned = true → (s.rx[c]).openS = false → (s.rx[c]).armed = false →
    ∃ t, exec (.armWindowOpen c) s = .next t ∧ (t.rx[c]).armed = true) ∧
  (∀ (c : Chan) (s : State), (s.rx[c]).st = .held → (s.rx[c]).planned = true → (s.rx[c]).armed = true →
    ∃ t, exec (.armWindowClose c) s = .next t ∧ (t.rx[c]).armed = false ∧ (t.rx[c]).openS = true ∧
      t.rd (R.LRX_CNT_MISS c.val) = s.rd (R.LRX_CNT_MISS c.val) + 1) ∧
  (∀ (r : Req) (c : Chan) (v : Word) (s : State), Taken s r (R.LRX_ADAPT_CMD c.val) → (s.rx[c]).st = .held →
    ∃ t, exec (.simDetect r c v) s = .next t ∧ t.resp = .done ∧ (t.rx[c]).st = .acquire) ∧
  (∀ (r : Req) (c : Chan) (v : Word) (s : State), Taken s r (R.LRX_ADAPT_CMD c.val) → (s.rx[c]).st = .track → v.getLsbD 2 = false →
    ∃ t, exec (.saveDef r c v) s = .next t ∧ t.resp = .done ∧ (t.rx[c]).dflt = (s.rx[c]).cur ∧ (t.rx[c]).defValid = true) ∧
  (∀ (r : Req) (c : Chan) (v : Word) (s : State), Taken s r (R.LRX_ADAPT_CMD c.val) → v.getLsbD 0 = false →
    ∃ t, exec (.loadFactory r c v) s = .next t ∧ t.resp = .done ∧ (t.rx[c]).dflt = factorySet ∧ (t.rx[c]).defValid = false) ∧
  (∀ (c : Chan) (lq : BitVec 9) (a : Adapt) (s : State), adaptWf a = true → (s.rx[c]).st = .track →
    ∃ t, exec (.lqBlock c lq a) s = .next t ∧ t.rd (R.LRX_LQ c.val) = BitVec.ofNat 32 (min lq.toNat 400 + 2 ^ 16)) ∧
  (∀ (c : Chan) (floor : BitVec 10) (s : State), s.bit (F.LRX_RX_CTL_NF_EN c.val) = true → (s.rx[c]).st = .held → (s.rx[c]).planned = true →
    2 ≤ (s.rx[c]).span →
    ∃ t, exec (.noiseMeasure c floor) s = .next t ∧ t.rd (R.LRX_NOISE c.val) = BitVec.ofNat 32 (floor.toNat + 2 ^ 16)) ∧
  (∀ (c : Chan) (ppm : Int) (lock : Bool) (s : State), s.ncoOn c = true → ppm.natAbs ≤ 20000 →
    ∃ t, exec (.rateMeasure c ppm lock) s = .next t ∧ BitVec.ofNat 16 (t.fld (F.LRX_RATE_PPM c.val)) = BitVec.ofInt 16 ppm ∧
      (t.rx[c]).rateOor = false) ∧
  (∀ (c : Chan) (clips : Nat) (s : State), (s.rx[c]).st = .track → 2 ^ s.fld (F.LRX_AGC_CFG_CLIP_THR c.val) < clips →
    ∃ t, exec (.clipBlock c clips) s = .next t ∧ t.rd (R.LRX_CNT_CLIP c.val) = s.rd (R.LRX_CNT_CLIP c.val) + 1 ∧
      (t.rx[c]).cur.agc = (s.rx[c]).cur.agc - 10) ∧
  (∀ (r : Req) (c : Chan) (v : Word) (s : State), Taken s r (R.LRX_CAL_CTL c.val) → (s.rx[c]).calBusy = false → v.getLsbD 1 = false →
    (s.rx[c]).st = .off → ∃ t, exec (.calStart r c v) s = .next t ∧ t.resp = .done ∧ (t.rx[c]).cal = .running ∧ (t.rx[c]).calSteps = 0) ∧
  (∀ (r : Req) (c : Chan) (v : Word) (s : State), Taken s r (R.LRX_CAL_CTL c.val) → (s.rx[c]).calBusy = true →
    ∃ t, exec (.calAbort r c v) s = .next t ∧ t.resp = .done ∧ (t.rx[c]).cal = .aborted) ∧
  (∀ (c : Chan) (k : Nat) (trim : Word) (s : State), (s.rx[c]).calBusy = true → (s.rx[c]).st = .off →
    ∃ t, exec (.calStep c k false trim) s = .next t ∧ (t.rx[c]).calSteps = (s.rx[c]).calSteps + 1) ∧
  (∀ (c : Chan) (pos : Nat) (w : BitVec 64) (s : State), pos < 3200000 → ((s.dsf[c]).st = .hunt ∨ (s.dsf[c]).st = .confirm) →
    (s.rx[c]).st = .track → syncDiff w ≤ s.fld F.DSF_ALIGN_CTL_SYNC_TOL → (s.dsf[c]).cands.length < 4 → (∀ k ∈ (s.dsf[c]).cands, k.pos ≠ pos) →
    ∃ t, exec (.syncCandidate c pos w) s = .next t ∧ (t.dsf[c]).cands = (s.dsf[c]).cands ++ [⟨pos, 0, 0⟩]) ∧
  (∀ (c : Chan) (r : GroupRaw) (g : GroupIn) (h : FrameHdr) (s : State), groupWf r = true → (s.trimsIn c).readLine c r = g →
    g.hdr = some h → s.takesGroup c g = true → (s.dsf[c]).st = .aligned → headerValid c g.cws h = true →
    ∃ u : State, exec (.groupDecode c r) s = .next ((u.goodHeader c h).keepStream c g) ∧ (u.dsf[c]).run = 0 ∧ (u.dsf[c]).grp = 0) ∧
  (∀ (c : Chan) (s : State), (s.dsf[c]).st = .aligned → s.markOf c ((s.dsf[c]).place true 0) = .dark →
    ∃ t, exec (.plannedCoast c) s = .next t ∧ (t.dsf[c]).st = .coast ∧ (t.dsf[c]).planned = true) ∧
  (∀ (c : Chan) (g : Fin 250) (s : State), (s.dsf[c]).st = .coast → (s.dsf[c]).planned = true → (s.rx[c]).mismatch = false →
    s.markOf c ((s.dsf[c]).place (decide (g.val = 0)) g.val) ≠ .dark →
    ∃ t, exec (.coastEnd c g) s = .next t ∧ (t.dsf[c]).st = .aligned ∧ (t.dsf[c]).planned = false) ∧
  (∀ (c : Chan) (s : State), (s.dsf[c]).st = .coast → (s.dsf[c]).planned = false →
    ∃ t, exec (.coastLimit c) s = .next t ∧ (t.dsf[c]).st = .hunt) ∧
  (∀ (c : Chan) (s : State), (s.dsf[c]).st = .coast →
    ∃ t, exec (.coastFrameAdvance c) s = .next t ∧ (t.dsf[c]).since = (s.dsf[c]).since + 1 ∧ (t.dsf[c]).seed = ((s.dsf[c]).seed + 1) % 2 ^ 48) ∧
  (∀ (c : Chan) (es : List MapEntry) (n : Nat) (s : State), (s.dsf[c]).mfAl = true → (s.dsf[c]).mfIdx = some 15 →
    (s.dsf[c]).tail = 0 → (s.dsf[c]).gathered = some (es, n) →
    ∃ t, exec (.multiframeStart c) s = .next t ∧ (t.dsf[c]).map = .valid ∧ (t.dsf[c]).entries = es) ∧
  (∀ (c : Chan) (s : State), ∃ t, exec (.berSecond c) s = .next t ∧ (t.dsf[c]).berAll = 0 ∧ (t.dsf[c]).berCws = 0 ∧
    (t.fld (F.DSF_CH_BER_VALID c.val) = 1 ↔ 1000 ≤ (s.dsf[c]).berAll)) ∧
  (∀ (c : Chan) (stamp : Nat) (h : BitVec 64) (s : State), (s.dsf[c]).deliver = true → (s.dsf[c]).grpDead = false →
    s.markOf c ((s.dsf[c]).place false (s.dsf[c]).grp) = .mine → (s.dsf[c]).at_ + 8 + fragLen h ≤ (s.dsf[c]).info.length →
    h = fragHeader (s.dsf[c]).info (s.dsf[c]).at_ → hecOf h = h.toNat % 2 ^ 16 → (s.dsf[c]).grpOk = true → h.toNat / 2 ^ 60 = 2 →
    h.getLsbD 19 = false → (s.dsf[c]).psl = none → s.hears (h.toNat / 2 ^ 48 % 2 ^ 12) = true →
    ∃ t, exec (.fragmentReceive c stamp) s = .next t ∧
      t.tfrags[c] = s.tfrags[c] ++ [slice (s.dsf[c]).info ((s.dsf[c]).at_ + 8) (fragLen h)]) ∧
  (∀ (r : Req) (c : Chan) (s : State), Taken s r (R.DSF_CH_CMD c.val) →
    ∃ t, exec (.fcForget r c) s = .next t ∧ t.resp = .done ∧ (t.dsf[c]).fc = none) ∧
  (∀ (r : Req) (c : Chan) (s : State), s.reaches r = true → s.readCause (R.DSF_CH_FC_LO c.val) true = 0 → s.powered (R.DSF_CH_FC_LO c.val) = true →
    ∃ t, exec (.fcReadLatch r c) s = .next t ∧ t.resp = .data (BitVec.ofNat 32 ((s.downFrame c).getD 0))) ∧
  (∀ (ctx : Fin 1024) (e : Nat) (s : State), s.served ctx = some e → entUp e = true →
    ∃ (u : State) (b : List Byte), exec (.containerBuild ctx) s = .next ((u.setTrib ctx { u.trib ctx with seq := ((s.trib ctx).seq + 1) % 16 }).queueContainer ctx b)) ∧
  (∀ (c : Chan) (f : List Byte) (fs : List (List Byte)) (ctx : Fin 1024) (e : Nat) (s : State), s.tfrags[c] = f :: fs → 3 ≤ f.length →
    crc8 ((f.take 2).map byteBits).flatten = f.getD 2 0 → ctx = Fin.ofNat 1024 (ofBytesBE (f.take 2) / 64) → s.served ctx = some e →
    s.mapEntry (s.tribCopy ctx) ctx.val = e → entClass e ≤ 4 → entBytes e ≤ f.length → entDown e = true → entChan e = c.val →
    (s.trib ctx).expect = none →
    ∃ u : State, exec (.containerReceive c) s = .next (u.acceptContainer ctx e (f.take (entBytes e)) (ofBytesBE (f.take 2) / 4 % 16)) ∧
      u.tfrags = s.tfrags.set c (if f.drop (entBytes e) = [] then fs else f.drop (entBytes e) :: fs)) ∧
  (∀ (ctx : Fin 1024) (e : Nat) (s : State), s.served ctx = some e → entDown e = true → (s.trib ctx).flowing = false → (s.trib ctx).loc = false →
    entNom e * entPeriods e ≤ 2 * (s.trib ctx).down.length →
    ∃ t, exec (.desyncStart ctx) s = .next t ∧ (t.trib ctx).flowing = true) ∧
  (∀ (ctx : Fin 1024) (e : Nat) (s : State), s.served ctx = some e → entDown e = true → s.running (T.loc ctx.val) = true →
    ∃ t, exec (.locTimeout ctx) s = .next t ∧ (t.trib ctx).loc = true ∧ t.running (T.loc ctx.val) = false) ∧
  (∀ (l : Fin 48) (r : RowIn) (s : State), r.slots.length = 16 → s.tribLane l = true → (s.rows[l]).st = .hunt → r.marker = 0 →
    ∃ t, exec (.laneRowCheck l r) s = .next t ∧ (t.rows[l]).st = .check ∧ (t.rows[l]).row = 0) ∧
  (∀ (l : Fin 48) (s : State), s.tribLane l = true →
    ∃ t, exec (.tribRowTransmit l) s = .next t ∧ (t.rows[l]).txRow = ((s.rows[l]).txRow + 1) % 256) ∧
  (∀ (ctx : Fin 1024) (e : Nat) (b : SlotChar) (cs : List SlotChar) (s : State), s.served ctx = some e → entDir e = 3 → s.domOn 9 = true →
    (s.trib ctx).hin = b :: cs → b ≠ .mark →
    ∃ t, exec (.hairpinByte ctx) s = .next t ∧ (t.trib ctx).hin = cs ∧ (t.trib ctx).hout = (s.trib ctx).hout ++ [b]) ∧
  (∀ (r : Req) (v : Word) (s : State), Taken s r R.TRB_TBL_DATA_HI → s.bit F.TRB_TBL_ADDR_VIEW = false → s.bit F.TRB_TBL_STAT_BUSY = false →
    s.applying P.TRB = false →
    ∃ t, exec (.tblDataWrite r v) s = .next t ∧ t.resp = .done ∧
      t.tmap = mapPut 0 s.tmap ((1 - s.fld F.TRB_MAP_CTL_ACTIVE) * 1024 + s.fld F.TRB_TBL_ADDR_CTX)
        ((s.rd R.TRB_TBL_DATA_LO).toNat + v.toNat % 2 ^ 18 * 2 ^ 32)) ∧
  (∀ (r : Req) (v : Word) (s : State), Taken s r R.TRB_TBL_CMD →
    ∃ t, exec (.tblCopy r v) s = .next t ∧ t.resp = .done ∧ t.bit F.TRB_TBL_STAT_BUSY = true) ∧
  (∀ (r : Req) (v : Word) (s : State), Taken s r R.TRB_TBL_CMD → (∀ c < 1024, s.mapConflict (1 - s.fld F.TRB_MAP_CTL_ACTIVE) c = false) →
    ∃ t, exec (.tblCheck r v) s = .next t ∧ t.resp = .done ∧ t.bit F.TRB_TBL_STAT_CONFLICT = false) ∧
  (∀ s : State, s.bit F.TCL_OUT_CTL_FS_EN = true → s.squelched = false → s.domOn 32 = true →
    ∃ u : State, exec .frameSyncEdge s = .next (u.emit .frameSync)) ∧
  (∀ (ctx : Fin 1024) (e : Nat) (s : State), s.served ctx = some e → entDir e ≠ 3 →
    ∃ t, exec .tribRateSecond s = .next t ∧ (t.trib ctx).netDown = 0 ∧ (t.trib ctx).netUp = 0)

/-- Each control message, activation timer, upstream burst, key and parse command named here completes: in every state that meets the conditions
given for it, which are on the state and the operands alone, exec answers a next state in which the command's own effect has taken place:
a message is acted on and acknowledged as R244 says, an instruction of the parse program takes its step, a burst is fixed, begun or ended.
(R241, R244, R246, R262, R264, R270, R291, R293, R318, R329, R349, R354) -/
def Obligations.ControlBurstKeyParseCommandsComplete : Prop :=
  (∀ (h : MsgHdr) (b : ProfileBody) (s : State), s.carries h 0x01 (profileBytes b) = true → s.forUs h = true → s.repeatOf h 0x01 = none →
    notDark.contains s.act.st = true → profileOk b = true →
    exec (.profile h b) s = .next (((s.acted h 0x01).setProfile (msgChan h) b).sendAck h 0x01 0)) ∧
  (∀ (h : MsgHdr) (frame : BitVec 48) (start len : BitVec 16) (pre : BitVec 24) (chance draw : BitVec 8) (ofs : Nat) (s : State),
    s.carries h 0x02 (toBytesBE 6 frame.toNat ++ toBytesBE 2 start.toNat ++ toBytesBE 2 len.toNat ++ toBytesBE 3 pre.toNat ++ [chance]) = true →
    s.forUs h = true → s.repeatOf h 0x02 = none → s.act.st = .announcing →
    start.toNat ≤ 49999 → 0 < len.toNat → len.toNat ≤ 50000 → s.begunPre (msgChan h) pre.toNat frame.toNat = false →
    exec (.announceWindow h frame start len pre chance draw ofs) s = .next (((s.acted h 0x02).announce (msgChan h) frame.toNat start.toNat
      len.toNat pre.toNat chance.toNat draw.toNat ofs).sendAck h 0x02 0)) ∧
  (∀ (h : MsgHdr) (tid : BitVec 12) (s : State), s.carries h 0x03 (toBytesBE 8 s.serial.toNat ++ toBytesBE 2 tid.toNat) = true →
    s.forUs h = true → s.repeatOf h 0x03 = none → s.act.st = .announcing → tid ≠ 0xFFF →
    exec (.assignId h s.serial tid) s = .next (((s.acted h 0x03).takeId (msgChan h) tid).sendAck h 0x03 0)) ∧
  (∀ (h : MsgHdr) (frame : BitVec 48) (start : BitVec 16) (pre : BitVec 24) (s : State),
    s.carries h 0x04 (toBytesBE 6 frame.toNat ++ toBytesBE 2 start.toNat ++ toBytesBE 3 pre.toNat) = true → s.forUs h = true →
    s.repeatOf h 0x04 = none → inService.contains s.act.st = true → start.toNat ≤ 49999 → s.begunPre (msgChan h) pre.toNat frame.toNat = false →
    exec (.rangingGrant h frame start pre) s = .next (((s.acted h 0x04).rangeBurst (msgChan h) frame.toNat start.toNat pre.toNat).sendAck h 0x04 0)) ∧
  (∀ (h : MsgHdr) (eqd : BitVec 24) (frame : BitVec 48) (s : State), s.carries h 0x05 (toBytesBE 3 eqd.toNat ++ toBytesBE 6 frame.toNat) = true →
    s.forUs h = true → s.repeatOf h 0x05 = none → inService.contains s.act.st = true →
    exec (.setDelay h eqd frame) s = .next (((s.acted h 0x05).takeDelay (msgChan h) eqd.toNat frame.toNat).sendAck h 0x05 0)) ∧
  (∀ (h : MsgHdr) (es : List GrantEntry) (s : State), grantWf es = true →
    s.carries h 0x06 (es.map (fun e => toBytesBE 8 (entryNum e))).flatten = true → s.forUs h = true → s.repeatOf h 0x06 = none →
    s.act.st = .operating → h.param ≠ 0 → es.all entryOk = true →
    exec (.grant h es) s = .next (es.foldl (fun (u : State) e => u.insertEntry ((h.frame.toNat + h.param.toNat) % 2 ^ 48) e) (s.acted h 0x06))) ∧
  (∀ (h : MsgHdr) (b : MoveBody) (s : State), s.carries h 0x07 (moveBytes b) = true → s.forUs h = true → s.repeatOf h 0x07 = none →
    (s.act.st = .operating ∨ s.act.st = .holdover) → b.mode ≠ 3 →
    exec (.move h b) s = .next (((s.acted h 0x07).takeMove b).sendAck h 0x07 0)) ∧
  (∀ (h : MsgHdr) (s : State), s.carries h 0x08 [] = true → s.forUs h = true → s.repeatOf h 0x08 = none → inService.contains s.act.st = true →
    exec (.deactivate h) s = .next ((((((s.acted h 0x08).dropId).unrangeAll).go .listening).fire P.ACT E.ACT_DEACTIVATED).sendAck h 0x08 0)) ∧
  (∀ (h : MsgHdr) (b : SilBody) (s : State), s.carries h 0x09 (silBytes b) = true → s.forUs h = true → s.serialOk b = true →
    s.repeatOf h 0x09 = none → s.act.st ≠ .silenced →
    exec (.silence h b) s = .next ((s.acted h 0x09).silenceNow b.reason false)) ∧
  (∀ (h : MsgHdr) (b : SilBody) (s : State), s.carries h 0x0A (silBytes b) = true → s.forUs h = true → s.serialOk b = true →
    s.repeatOf h 0x0A = none → exec (.emergencyStop h b) s = .next ((s.acted h 0x0A).silenceNow b.reason true)) ∧
  (∀ (h : MsgHdr) (b : SilBody) (s : State), s.carries h 0x0B (silBytes b) = true → s.forUs h = true → s.serialOk b = true →
    s.repeatOf h 0x0B = none → s.act.st = .silenced →
    exec (.release h b) s = .next (((s.acted h 0x0B).releaseNow b.resume).sendAck h 0x0B 0)) ∧
  (∀ (h : MsgHdr) (frame sec : BitVec 48) (ns : BitVec 32) (s : State),
    s.carries h 0x0C (toBytesBE 6 frame.toNat ++ toBytesBE 6 sec.toNat ++ toBytesBE 4 ns.toNat) = true → s.forUs h = true →
    s.repeatOf h 0x0C = none → notDark.contains s.act.st = true → ns.toNat < 1000000000 →
    exec (.timeOfDay h frame sec ns) s = .next (((s.acted h 0x0C).todSample (msgChan h) h.frame.toNat frame.toNat sec.toNat ns.toNat).sendAck h 0x0C 0)) ∧
  (∀ (h : MsgHdr) (bytes : List Byte) (s : State), bytes.length = 40 → s.carries h 0x0D bytes = true → s.forUs h = true →
    s.repeatOf h 0x0D = none → inService.contains s.act.st = true →
    exec (.keyBlob h bytes) s = .next ((s.acted h 0x0D).queueJob ⟨.link (msgPair h) (h.param.getLsbD 2), bytes, some h⟩)) ∧
  (∀ (h : MsgHdr) (frame : BitVec 48) (s : State), s.carries h 0x0E (toBytesBE 6 frame.toNat) = true → s.forUs h = true →
    s.repeatOf h 0x0E = none → inService.contains s.act.st = true →
    (∀ k, s.pairFrame (msgPair h) = some k → frameGe k frame.toNat = false) → natBit (s.fld F.LCK_LCK_CTL_LOCAL_ROLL) (msgChan h).val = false →
    exec (.keySwitch h frame) s = .next (((s.acted h 0x0E).orderRoll (msgPair h) ⟨h.param.getLsbD 2, frame.toNat, false⟩).sendAck h 0x0E 0)) ∧
  (∀ (h : MsgHdr) (s : State), s.carries h 0x0F [] = true → s.forUs h = true → s.repeatOf h 0x0F = none → inService.contains s.act.st = true →
    s.act.tid = some h.tid → exec (.statusReq h) s = .next ((s.acted h 0x0F).queueStatus 0)) ∧
  (∀ (h : MsgHdr) (type : BitVec 8) (s : State), s.inSlot h = true → mcrcGood (s.slotBytes h) = false →
    ∃ t, exec (.controlMessageReject h type true) s = .next t ∧ t.rd R.ACT_CNT_MSG_CRC = s.rd R.ACT_CNT_MSG_CRC + 1) ∧
  (∀ s : State, s.act.st = .announcing → ∃ t, exec .announceTimeout s = .next t ∧ t.act.st = .listening ∧
    t.rd R.ACT_CNT_ANN_TO = s.rd R.ACT_CNT_ANN_TO + 1) ∧
  (∀ s : State, s.act.st = .ranging → ∃ t, exec .rangingTimeout s = .next t ∧ t.act.st = .listening) ∧
  (∀ s : State, s.act.st = .operating → s.running T.loss = true → ∃ t, exec .lossTimeout s = .next t ∧ t.act.st = .holdover) ∧
  (∀ s : State, s.act.st = .holdover → ∃ t, exec .holdTimeout s = .next t ∧ (t.act.st = .listening ∨ t.act.st = .dark)) ∧
  (∀ (r : Req) (v : Word) (s : State), Taken s r R.ACT_ACT_CTL → s.bit F.ACT_ACT_CTL_EN = true →
    exec (.actDisable r v) s = .next (((s.reply .done).store R.ACT_ACT_CTL (v &&& ~~~1)).actOff)) ∧
  (∀ (r : Req) (v : Word) (s : State), Taken s r R.ACT_SERIAL_LO → s.act.st = .dark →
    ∃ t, exec (.serialWrite r false v) s = .next t ∧ t.resp = .done ∧ t.rd R.ACT_SERIAL_LO = v) ∧
  (∀ (r : Req) (v : Word) (s : State), Taken s r R.ACT_LOCAL_REL → s.isDelegate r = false → s.own.presWin = true → s.act.st = .silenced →
    exec (.localRel r v) s = .next ((s.reply .done).releaseNow false)) ∧
  (∀ (c : Chan) (s : State), ∃ u : State, exec (.guardTrip c) s = .next ((((u.discardGrants c).bump R.ACT_CNT_GUARD).fire P.ACT E.ACT_GUARD_TRIP).queueStatus 1) ∧
    (u.act.ch[c]).trip = true ∧ (u.upb[c]).cur = none) ∧
  (∀ (c : Chan) (s : State), ∃ u : State, exec (.guardFbTrip c) s = .next ((((u.discardGrants c).bump R.ACT_CNT_GUARD).fire P.ACT E.ACT_GUARD_TRIP).queueStatus 1) ∧
    (u.act.ch[c]).trip = true ∧ (u.act.ch[c]).fb = true ∧ (u.upb[c]).cur = none) ∧
  (∀ (r : Req) (v : Word) (s : State), Taken s r R.ACT_GUARD_CMD → s.act.st ≠ .silenced → getField v 8 4 = 0 →
    ∃ t, exec (.guardClr r v) s = .next t ∧ t.resp = .done ∧ ∀ c : Chan, (t.act.ch[c]).trip = ((s.act.ch[c]).trip && !v.getLsbD c.val)) ∧
  (∀ (r : Req) (c : Chan) (s : State), Taken s r R.ACT_GUARD_CMD → s.txDisable c = true →
    exec (.guardTest r (BitVec.ofNat 32 (2 ^ (8 + c.val)))) s = .next ((s.reply .done).tripGuard c false)) ∧
  (∀ (c : Chan) (k : Nat) (s : State), s.ncoOn c = true → (s.act.ch[c]).eqdNext = none → s.frameAt c (s.act.ch[c]).eqd = some k →
    ∃ t, exec (.upstreamFrameStart c) s = .next t ∧ (t.upb[c]).frame = some k ∧ (t.upb[c]).idx = 0) ∧
  (∀ (c : Chan) (g : Grant) (gs : List Grant) (p : ProfileBody) (s : State), (s.upb[c]).gt = g :: gs →
    s.profileFor c g.frame = some p → g.kind ≠ .data →
    ∃ t b, exec (.burstFix c) s = .next t ∧ (t.upb[c]).gt = gs ∧ (t.upb[c]).fixed = (s.upb[c]).fixed ++ [b] ∧ b.h.long = true) ∧
  (∀ (c : Chan) (b : Burst) (bs : List Burst) (s : State), (s.upb[c]).fixed = b :: bs → s.mayTx c (decide (b.g.kind = .data)) = true →
    s.displaced c b.g = false → (b.g.kind = .data → s.pastDelay c b.g = false) →
    ∃ t b', exec (.burstStart c) s = .next t ∧ (t.upb[c]).fixed = bs ∧ (t.upb[c]).cur = some b' ∧ b'.h = b.h) ∧
  (∀ (c : Chan) (b : Burst) (s : State), (s.upb[c]).wins.length ≤ 1 → (s.upb[c]).cur = some b →
    ∃ t, exec (.burstEnd c) s = .next t ∧ (t.upb[c]).cur = none ∧ (t.upb[c]).wins = []) ∧
  (∀ (c : Chan) (b : Burst) (i : Bool) (key : List Byte) (p : Pulled) (n : Nat) (s : State), (s.upb[c]).cur = some b →
    b.key = some (i, key) → s.bit F.LCK_LCK_CTL_EN = true →
    (((s.upb[c]).pulled.filter (fun p => decide (p.gs = b.g.e.gs))).find? (fun p => decide (0 < p.sent))).or
      ((s.upb[c]).pulled.filter (fun p => decide (p.gs = b.g.e.gs))).head? = some p →
    p.pkt.len - p.sent ≤ n → 0 < p.pkt.len - p.sent → p.pkt.len - p.sent ≤ 4079 → p.pkt.len - p.sent + 24 ≤ b.room →
    exec (.packetFragmentStart c n) s = .next (s.sendFragment c b i key p (p.pkt.len - p.sent))) ∧
  (∀ (c : Chan) (p : Pulled) (ps : List Pulled) (s : State), (s.upb[c]).sent = p :: ps →
    exec (.packetRelease c) s = .next (((s.setUpb c { s.upb[c] with sent := ps }).sentFrom p.pkt).bump (R.UPB_CNT_PKT c.val))) ∧
  (∀ (c : Chan) (b : Burst) (s : State), s.pulling c = some b → s.act.st ≠ .holdover → s.seam.phase = .up →
    exec (.gsSelect c) s = .next (s.selectFor c b)) ∧
  (∀ (r : Req) (v : Word) (s : State), Taken s r R.UPB_GSM_DATA → s.bit F.UPB_GSM_ADDR_VIEW = false → s.bit F.UPB_GSM_STAT_BUSY = false →
    s.applying P.UPB = false →
    ∃ t, exec (.gsmDataWrite r v) s = .next t ∧ t.resp = .done ∧
      t.gsm = mapPut 0 s.gsm ((1 - s.fld F.UPB_GSM_CTL_ACTIVE) * 2 ^ 13 + s.fld F.UPB_GSM_ADDR_QUEUE) (getField v 0 10 + getField v 15 1 * 2 ^ 15)) ∧
  (∀ (r : Req) (v : Word) (s : State), Taken s r R.UPB_GSM_CMD →
    ∃ t, exec (.gsmCopy r v) s = .next t ∧ t.resp = .done ∧ t.bit F.UPB_GSM_STAT_BUSY = true) ∧
  (∀ (r : Req) (c : Chan) (v : Word) (s : State), Taken s r (R.LTX_TX_CTL c.val) → (s.upb[c]).cur = none →
    ∃ t, exec (.txConfigWrite r c false v) s = .next t ∧ t.resp = .done ∧ (t.txEff[c]).ctl = t.rd (R.LTX_TX_CTL c.val)) ∧
  (∀ (r : Req) (c : Chan) (v : Word) (s : State), Taken s r (R.LTX_TX_TEST c.val) → getField v 0 2 ≠ 0 →
    (s.act.st = .dark ∨ s.act.st = .listening ∨ s.act.st = .silenced) →
    exec (.txTestWrite r c v) s = .next (((s.reply .done).store (R.LTX_TX_TEST c.val) v).testOn c (getField v 0 2))) ∧
  (∀ (j : KeyJob) (js : List KeyJob) (key : List Byte) (s : State), s.key.jobs = j :: js → s.key.fusing = false → s.key.locked = false →
    s.key.entropy = true → j.target = .memory → j.unwrap s.wrapKey = (true, true, key) → s.mxe.running = false → key.take 32 ≠ key.drop 32 →
    ∃ u : State, exec .unwrapJobComplete s = .next (u.jobEnd j 0) ∧ u.mxe = { s.mxe with next := some (key.take 32, key.drop 32), nextWrap := true }) ∧
  (∀ (r : Req) (v : Word) (s : State), Taken s r R.KEY_KEY_CMD → s.key.busy = false → s.key.jobs.length < 8 →
    ∃ t n i, exec (.keyCmdLink r v) s = .next t ∧ t.resp = .done ∧ t.key.jobs = s.key.jobs ++ [⟨.link n i, s.blobBytes, none⟩]) ∧
  (∀ (r : Req) (v : Word) (s : State), Taken s r R.KEY_KEY_CMD → s.key.busy = false → s.key.jobs.length < 8 →
    ∃ t, exec (.keyCmdMemory r v) s = .next t ∧ t.resp = .done ∧ t.key.jobs = s.key.jobs ++ [⟨.memory, s.blobBytes, none⟩]) ∧
  (∀ (r : Req) (v : Word) (s : State), Taken s r R.KEY_KEY_CMD → s.isDelegate r = false → s.own.presWin = true → s.key.busy = false →
    s.key.jobs.length < 8 →
    ∃ t, exec (.keyCmdWrap r v) s = .next t ∧ t.resp = .done ∧ t.key.jobs = s.key.jobs ++ [⟨.wrap, s.blobBytes, none⟩]) ∧
  (∀ (j : KeyJob) (js : List KeyJob) (i : Nat) (s : State), s.key.jobs = j :: js → s.key.freeSlot = some i → s.key.fusing = true →
    ∃ u : State, exec (.fuseProgramDone true) s = .next (u.jobEnd j 0) ∧ u.key.fused = s.key.fused ||| BitVec.ofNat 8 (2 ^ i)) ∧
  (∀ s : State, s.key.locked = true → ∃ t, exec .lockoutEnd s = .next t ∧ t.key.locked = false ∧ t.key.backoff = min 1024 (2 * s.key.backoff)) ∧
  (∀ s : State, ∃ t, exec (.entropyTestFail false) s = .next t ∧ t.key.entropy = false) ∧
  (∀ (r : Req) (pairs : BitVec 8) (n : Fin 8) (s : State), Taken s r R.LCK_KEY_ERASE → pairs.getLsbD n.val = true →
    ∃ t, exec (.keyErasePair r pairs) s = .next t ∧ t.resp = .done ∧ (t.pair n).k0 = {} ∧ (t.pair n).k1 = {}) ∧
  (∀ (r : Req) (s : State), Taken s r R.LCK_KEY_ERASE →
    ∃ t, exec (.keyEraseAll r) s = .next t ∧ t.resp = .done ∧ ∀ n : Fin 8, (t.pair n).k0 = {} ∧ (t.pair n).k1 = {}) ∧
  (∀ (r : Req) (s : State), Taken s r R.KEY_UNW_LOCK → ∃ t, exec (.unwLock r) s = .next t ∧ t.bit F.KEY_UNW_LOCK_LOCK = true) ∧
  (∀ (r : Req) (v : Word) (s : State), Taken s r R.KEY_UNW_CFG → s.bit F.KEY_UNW_LOCK_LOCK = false →
    exec (.unwCfgWrite r v) s = .next ((s.reply .done).store R.KEY_UNW_CFG v)) ∧
  (∀ (pipe : Fin 4) (k : Pkt) (ks : List Pkt) (s : State), (s.pipes[pipe]).rc = k :: ks →
    exec (.parseStart pipe) s = .next ((s.setPipe pipe { s.pipes[pipe] with rc := ks }).parseStart pipe k)) ∧
  (∀ (e : Fin 128) (p : Fin 4) (k : Pkt) (g : Engine) (w : Word) (s : State),
    (Fetches s e 0x00 p k g w → exec (.nop e) s = .next (s.setSlotOf p ⟨k, .engine (advanced g)⟩)) ∧
    (Fetches s e 0x02 p k g w → exec (.ldi e) s = .next (s.setSlotOf p ⟨k, .engine ((advanced g).setReg (insX w) (insImm w))⟩)) ∧
    (Fetches s e 0x04 p k g w → exec (.addi e) s = .next (s.setSlotOf p ⟨k, .engine ((advanced g).setReg (insX w) (g.reg (insX w) + insImm w))⟩)) ∧
    (Fetches s e 0x05 p k g w → exec (.add e) s = .next (s.setSlotOf p ⟨k, .engine ((advanced g).setReg (insX w) (g.a + g.b))⟩)) ∧
    (Fetches s e 0x06 p k g w → exec (.andi e) s = .next (s.setSlotOf p ⟨k, .engine ((advanced g).setReg (insX w) (g.reg (insX w) &&& insImm w))⟩)) ∧
    (Fetches s e 0x07 p k g w → exec (.shl e) s = .next (s.setSlotOf p ⟨k, .engine ((advanced g).setReg (insX w) (g.reg (insX w) <<< getField w 0 4))⟩)) ∧
    (Fetches s e 0x08 p k g w → exec (.shr e) s = .next (s.setSlotOf p ⟨k, .engine ((advanced g).setReg (insX w) (g.reg (insX w) >>> getField w 0 4))⟩)) ∧
    (Fetches s e 0x11 p k g w → exec (.flag e) s = .next (s.setSlotOf p ⟨{ k with pf := k.pf ||| BitVec.ofNat 4 (2 ^ getField w 0 2) }, .engine (advanced g)⟩))) ∧
  (∀ (e : Fin 128) (p : Fin 4) (k : Pkt) (g : Engine) (w : Word) (s : State),
    (Fetches s e 0x01 p k g w → windowEnd k (g.c + getField w 18 8) ((getField w 15 3 + getField w 11 4) / 8 + 1) = none →
      ∃ x, exec (.ld e) s = .next (s.setSlotOf p ⟨k, .engine ((advanced g).setReg (insX w) x)⟩)) ∧
    (Fetches s e 0x03 p k g w → getField w 0 3 ≤ 5 → ∃ x, exec (.ldm e) s = .next (s.setSlotOf p ⟨k, .engine ((advanced g).setReg (insX w) x)⟩)) ∧
    (Fetches s e 0x0D p k g w → 2 ≤ getField w 21 6 → getField w 21 6 + (getField w 8 4 + 1) ≤ 64 →
      windowEnd k (g.c + getField w 13 8) (getField w 8 4 + 1) = none →
      ∃ x, exec (.ext e) s = .next (s.setSlotOf p ⟨{ k with key := x }, .engine (advanced g)⟩)) ∧
    (Fetches s e 0x0E p k g w → 2 ≤ getField w 20 6 → getField w 20 6 ≤ 62 →
      ∃ x, exec (.kst e) s = .next (s.setSlotOf p ⟨{ k with key := x }, .engine (advanced g)⟩))) ∧
  (∀ (e : Fin 128) (p : Fin 4) (k : Pkt) (g : Engine) (w : Word) (s : State), 64 ≤ getField w 16 10 →
    (Fetches s e 0x09 p k g w → exec (.jeq e) s = .next (s.setSlotOf p ⟨k, .engine (if g.reg (insX w) = insImm w then { advanced g with pc := getField w 16 10 } else advanced g)⟩)) ∧
    (Fetches s e 0x0A p k g w → exec (.jne e) s = .next (s.setSlotOf p ⟨k, .engine (if g.reg (insX w) = insImm w then advanced g else { advanced g with pc := getField w 16 10 })⟩)) ∧
    (Fetches s e 0x0B p k g w → exec (.jlt e) s = .next (s.setSlotOf p ⟨k, .engine (if (g.reg (insX w)).toNat < (insImm w).toNat then { advanced g with pc := getField w 16 10 } else advanced g)⟩)) ∧
    (Fetches s e 0x0C p k g w → exec (.jmp e) s = .next (s.setSlotOf p ⟨k, .engine { advanced g with pc := getField w 16 10 }⟩))) ∧
  (∀ (e : Fin 128) (p : Fin 4) (k : Pkt) (g : Engine) (w : Word) (len eo : Nat) (s : State), Fetches s e 0x0F p k g w →
    hdrRule k g (getField w 21 6) (g.reg (w.getLsbD 20)) (getField w 18 2) = some (len, true, eo, false) →
    g.h ≠ 16 → g.c + len ≤ g.e → g.c + len ≤ 256 →
    exec (.hdr e) s = .next (s.setSlotOf p ⟨{ k with hdrs := k.hdrs ++ [(getField w 21 6, g.c)] }, .engine { advanced g with c := g.c + len, h := g.h + 1, e := eo }⟩)) ∧
  (∀ (e : Fin 128) (p : Fin 4) (k : Pkt) (g : Engine) (w : Word) (s : State), Fetches s e 0x10 p k g w →
    g.c + (g.reg (insX w)).toNat ≤ g.e → w.getLsbD 25 = true →
    exec (.lchk e) s = .next (s.setSlotOf p ⟨k, .engine (if w.getLsbD 24 then { advanced g with e := g.c + (g.reg (insX w)).toNat } else advanced g)⟩)) ∧
  (∀ (e : Fin 128) (p : Fin 4) (k : Pkt) (g : Engine) (w : Word) (s : State),
    (Fetches s e 0x12 p k g w → exec (.done e) s = .next (s.parseEnd p k true)) ∧
    (Fetches s e 0x13 p k g w → exec (.mal e) s = .next (s.parseMal p k)) ∧
    (∀ op, 0x14 ≤ op → Fetches s e op p k g w → exec (.illegalOpcode e) s = .next (s.parseFault p k 1 g.pc)) ∧
    (s.running? e = some (p, k, g) → s.fld F.PRS_PRS_CFG_STEP_MAX ≤ g.steps → exec (.stepBudgetFault e) s = .next (s.parseFault p k 2 g.pc)) ∧
    (s.running? e = some (p, k, g) → exec (.programFetchUe e) s = .next (((s.bump R.PRS_CNT_PROG_UE).fire P.PRS E.PRS_PROG_UE).dropSlot p k.id))) ∧
  (∀ (p : Fin 4) (z : ParseSlot) (s : State), (s.pipes[p]).parse.find? (fun z => decide (z.st = .extract)) = some z →
    exec (.fixedExtract p) s = .next (if (extract z.pkt).2 then s.parseMal p (extract z.pkt).1 else s.parseEnd p (extract z.pkt).1 false)) ∧
  (∀ (r : Req) (v : Word) (s : State), Taken s r (R.PRS_PROG_DATA 3) → s.bit F.PRS_PROG_ADDR_VIEW = false → s.bit F.PRS_PROG_STAT_BUSY = false →
    s.applying P.PRS = false → s.testing 2 none = false →
    ∃ t, exec (.progDataWrite r v) s = .next t ∧ t.resp = .done ∧
      mapGet 0 t.prog ((1 - s.fld F.PRS_PROG_CTL_ACTIVE) * 1024 + s.fld F.PRS_PROG_ADDR_WORD / 4 * 4 + 3) = v) ∧
  (∀ (r : Req) (v : Word) (s : State), Taken s r R.PRS_PROG_CMD → s.testing 2 none = false →
    ∃ t, exec (.progCopy r v) s = .next t ∧ t.resp = .done ∧ t.bit F.PRS_PROG_STAT_BUSY = true)

/-- Each classifier, flow, buffer, memory, table, gate, backplane lane and Ethernet port command named here completes: in every state that meets the
conditions given for it, which are on the state and the operands alone, exec answers a next state in which the command's own effect has
taken place. Each clause names the chief effect only; what else changes stands in the statements of these families.
(R369, R379, R390, R398, R416, R430, R439, R444, R469, R485, R491, R507) -/
def Obligations.DataPathAndPortCommandsComplete : Prop :=
  (∀ (pipe : Fin 4) (k : Pkt) (ks : List Pkt) (e : Fin 16) (l : Leaf) (s : State), (s.pipes[pipe]).cls = k :: ks →
    s.behindMark pipe 1 k.ord = false → s.bit F.CLS_CLS_CTL_EN = true → k.epoch.or (s.epochFor pipe k.src) = some e →
    s.walkFrom (s.epochs[e]) k.fullKey (s.epochs[e]).root none 32 = .leaf l →
    ∃ u : State, exec (.classifyWalk pipe none) s = .next ((u.leafAction pipe { k with epoch := some e } l).retireEpochs) ∧
      u.pipes = s.pipes.set pipe { s.pipes[pipe] with cls := ks }) ∧
  (∀ (pipe : Fin 4) (k : Pkt) (ks : List Pkt) (s : State), (s.pipes[pipe]).rcOut = k :: ks → (s.pipes[pipe]).rc.length < 64 →
    ∃ t, exec (.recirculate pipe) s = .next t ∧
      t.pipes = s.pipes.set pipe { s.pipes[pipe] with rcOut := ks, rc := (s.pipes[pipe]).rc ++ [{ k with pass := k.pass + 1 }] }) ∧
  (∀ (pipe : Fin 4) (k : Pkt) (ks : List Pkt) (s : State), (s.pipes[pipe]).flow = k :: ks → s.behindMark pipe 2 k.ord = false →
    (k.leaf.flow = 1 ∨ k.leaf.flow = 2) → s.bit F.CLS_FLOW_CTL_ON_EN = true → (s.findCtx false (s.flowKey pipe k)).isSome = true →
    ∃ (u : State) (q : Pkt), exec (.flowLookup pipe false) s = .next (u.afterFlow pipe q) ∧
      u.rd R.CLS_CNT_FLOW_HIT = s.rd R.CLS_CNT_FLOW_HIT + 1) ∧
  (∀ (i : Nat) (s : State), s.fld F.CLS_FLOW_CTL_AGE_MS ≠ 0 → ctxBit (s.ctx false i) 7 = true → ((s.ctx false i).getD 54 0).getLsbD 0 = true →
    s.fld F.CLS_FLOW_CTL_AGE_MS < (s.flowMs + 65536 - ofBytesBE (((s.ctx false i).drop 52).take 2)) % 65536 →
    ∃ t, exec (.flowAge false i) s = .next t ∧ t.rd R.CLS_CNT_AGED = s.rd R.CLS_CNT_AGED + 1 ∧
      ctxBit (t.readBytes (s.ctxAddr false i) 64) 7 = false) ∧
  (∀ (r : Req) (v : Word) (s : State), Taken s r R.CLS_FLOW_CMD → s.bit F.CLS_FLOW_ADDR_EXT = false → s.testing 3 none = false →
    v.getLsbD 1 = false → v.getLsbD 2 = false →
    ∃ t, exec (.flowRead r v false) s = .next t ∧ t.resp = .done ∧
      t.rd (R.CLS_FLOW_DATA 15) = BitVec.ofNat 32 (ofBytesBE ((s.ctx false (s.fld F.CLS_FLOW_ADDR_INDEX)).drop 60))) ∧
  (∀ (r : Req) (v : Word) (s : State), Taken s r R.CLS_FLOW_CMD → s.bit F.CLS_FLOW_ADDR_EXT = false → s.testing 3 none = false →
    v.getLsbD 0 = false → v.getLsbD 2 = false →
    ∃ t, exec (.flowWrite r v) s = .next t ∧ t.resp = .done ∧ t.readBytes (s.ctxAddr false (s.fld F.CLS_FLOW_ADDR_INDEX)) 64 =
      ((List.range 16).map (fun j => toBytesBE 4 (s.rd (R.CLS_FLOW_DATA j)).toNat)).flatten) ∧
  (∀ (r : Req) (v : Word) (s : State), Taken s r R.CLS_FLOW_CMD → s.bit F.CLS_FLOW_ADDR_EXT = false → s.testing 3 none = false →
    v.getLsbD 0 = false → v.getLsbD 1 = false →
    ∃ t, exec (.flowInvalidate r v) s = .next t ∧ t.resp = .done ∧
      ctxBit (t.readBytes (s.ctxAddr false (s.fld F.CLS_FLOW_ADDR_INDEX)) 64) 7 = false) ∧
  (∀ (r : Req) (v : Word) (s : State), Taken s r (R.CLS_TREE_DATA 3) → s.nodeLocked (s.fld F.CLS_TREE_ADDR_NODE) = false →
    s.testing 1 (some (s.fld F.CLS_TREE_ADDR_NODE / 4096)) = false →
    ∃ t, exec (.treeDataWrite r v) s = .next t ∧ t.resp = .done ∧ t.readBytes (nodeAddr (s.fld F.CLS_TREE_ADDR_NODE)) 16 =
      ([s.rd (R.CLS_TREE_DATA 0), s.rd (R.CLS_TREE_DATA 1), s.rd (R.CLS_TREE_DATA 2), v].map (fun w => (toBytesBE 4 w.toNat).reverse)).flatten) ∧
  (∀ (n : Fin 8) (node : Nat) (v : Word) (s : State), node < 2 ^ 20 → s.reaches (.core n) = true →
    ∃ t, exec (.coreTreeStore n node 0 v true) s = .next t ∧ t.cpu.nodes[n] = some ⟨node, [v]⟩) ∧
  (∀ (pipe : Fin 4) (k : Pkt) (ks : List Pkt) (key : Nat) (u : State) (s : State), (s.pipes[pipe]).buf = k :: ks → k.hdl = none →
    k.len ≤ 65536 → (s.setPipe pipe { s.pipes[pipe] with buf := ks }).allocate k.queue k.len = (some key, u) →
    ∃ w : State, exec (.bufferAllocate pipe) s = .next (w.sendCopies pipe k (w.handleOf key)) ∧
      (w.buf key).rx = some (k.src, k.len, u.rxPriority k)) ∧
  (∀ (pipe : Fin 4) (k : Pkt) (ks : List Pkt) (s : State), (s.pipes[pipe]).enq = k :: ks →
    exec (.enqueue pipe) s = .next ((s.setPipe pipe { s.pipes[pipe] with enq := ks }).enqueue k)) ∧
  (∀ (pipe : Fin 4) (k : Pkt) (ks : List Pkt) (s : State), (s.pipes[pipe]).pol = k :: ks → s.behindMark pipe 3 k.ord = false →
    k.leaf.polEn = false →
    ∃ t, exec (.police pipe) s = .next t ∧ t.pipes = s.pipes.set pipe { s.pipes[pipe] with pol := ks, buf := (s.pipes[pipe]).buf ++ [k] }) ∧
  (∀ (r : Req) (v : Word) (s : State), Taken s r R.BPM_BUF_CMD → s.stale s.bufHdl = false →
    (s.buf (s.bufHdl / 128)).count + getField v 8 8 ≤ 255 →
    ∃ t, exec (.bufShare r v) s = .next t ∧ t.resp = .done ∧ t.bufs = mapPut {} s.bufs (s.bufHdl / 128) { s.buf (s.bufHdl / 128) with
      count := (s.buf (s.bufHdl / 128)).count + getField v 8 8, owner := s.fld F.BPM_BUF_ARG_LAST_OWNER }) ∧
  (∀ (r : Req) (v : Word) (s : State), Taken s r R.BPM_BUF_CMD → s.stale s.bufHdl = false → (s.buf (s.bufHdl / 128)).owner ≠ swHolder →
    2 < (s.buf (s.bufHdl / 128)).count →
    ∃ t, exec (.bufRelease r v) s = .next t ∧ t.resp = .done ∧
      t.bufs = mapPut {} s.bufs (s.bufHdl / 128) { s.buf (s.bufHdl / 128) with count := (s.buf (s.bufHdl / 128)).count - 1 }) ∧
  (∀ (r : Req) (v : Word) (s : State), Taken s r R.BPM_BUF_CMD → s.stale s.bufHdl = false → (s.buf (s.bufHdl / 128)).owner = swHolder →
    (s.buf (s.bufHdl / 128)).count = 1 →
    exec (.bufFree r v) s = .next (((s.reply .done).doFree (s.bufHdl / 128)).showBuf (s.bufHdl / 128) 0)) ∧
  (∀ (r : Req) (v : Word) (s : State), Taken s r R.BPM_BUF_CMD →
    ∃ t, exec (.bufQuery r v) s = .next t ∧ t.resp = .done ∧ t.rd R.BPM_BUF_STAT = BitVec.ofNat 32 (min (s.buf (s.bufHdl / 128)).count 2 * 2 ^ 4 +
      b2n (s.buf (s.bufHdl / 128)).pend * 2 ^ 6 + (s.buf (s.bufHdl / 128)).count * 2 ^ 8 + (s.buf (s.bufHdl / 128)).owner * 2 ^ 16)) ∧
  (∀ (r : Req) (v : Word) (key : Nat) (u : State) (s : State), Taken s r R.BPM_BUF_CMD → s.bit F.BPM_BPM_CTL_EN = true →
    (s.reply .done).allocPool (v.getLsbD 19) (getField v 16 3) swHolder = (some key, u) →
    exec (.bufAlloc r v) s = .next (((u.wr R.BPM_BUF_HDL_LO (BitVec.ofNat 32 (u.handleOf key))).wr R.BPM_BUF_HDL_HI
      (BitVec.ofNat 32 (u.handleOf key / 2 ^ 32))).showBuf key 0)) ∧
  (∀ (r : Req) (v : Word) (s : State), Taken s r R.BPM_BPM_CTL → v.getLsbD 0 = true → s.onpBytes ≤ 48 * 2 ^ 20 → s.testing 0 none = false →
    ∃ t, exec (.bpmEnable r v) s = .next t ∧ t.resp = .done ∧ t.bit F.BPM_BPM_CTL_EN = true) ∧
  (∀ (r : Req) (k : Fin 8) (v : Word) (s : State), Taken s r (R.BPM_ONP_CNT k.val) → s.bit F.BPM_BPM_CTL_EN = false →
    exec (.onpCntWrite r k v) s = .next ((s.reply .done).store (R.BPM_ONP_CNT k.val) v)) ∧
  (∀ (r : Req) (k : Fin 8) (m : Chan) (v : Word) (s : State), Taken s r (R.BPM_EXT_REG (4 * k.val + m.val)) →
    (mergeWrite (fieldsAt (R.BPM_EXT_REG (4 * k.val + m.val))) (s.rd (R.BPM_EXT_REG (4 * k.val + m.val))) v).getLsbD 31 = false →
    s.regionOn true k.val m.val = false → s.heldKeys true k.val m.val = [] →
    ∃ t, exec (.extRegWrite r k m v) s = .next t ∧ t.resp = .done ∧ t.rd (R.BPM_EXT_REG (4 * k.val + m.val)) =
      mergeWrite (fieldsAt (R.BPM_EXT_REG (4 * k.val + m.val))) (s.rd (R.BPM_EXT_REG (4 * k.val + m.val))) v) ∧
  (∀ (r : Req) (v : Word) (s : State), Taken s r R.BPM_QMAP_DATA → s.bit F.BPM_QMAP_ADDR_VIEW = false → s.bit F.BPM_QMAP_STAT_BUSY = false →
    s.applying P.BPM = false →
    ∃ t, exec (.qmapDataWrite r v) s = .next t ∧ t.resp = .done ∧
      t.qmap = mapPut 0 s.qmap ((1 - s.fld F.BPM_QMAP_CTL_ACTIVE) * 2 ^ 14 + s.fld F.BPM_QMAP_ADDR_QUEUE) (getField v 0 5)) ∧
  (∀ (r : Req) (v : Word) (s : State), Taken s r R.BPM_QMAP_CMD →
    ∃ t, exec (.qmapCopy r v) s = .next t ∧ t.resp = .done ∧ t.bit F.BPM_QMAP_STAT_BUSY = true) ∧
  (∀ (u : MemUser) (pl : MemPlace) (o : EccIn) (s : State), s.isAbove pl = false → s.placeTested pl = false → eccJudge pl o = .ok →
    ∃ t, exec (.memoryRead u pl o) s = .next t ∧ t.resp = .done ∧ t.mem = s.mem) ∧
  (∀ (u : MemUser) (pl : MemPlace) (data : List Byte) (s : State), data.length = placeSize pl → s.placeTested pl = false →
    ∃ t, exec (.memoryWrite u pl data) s = .next t ∧ t.resp = .done ∧ t.readBytes (placeAddr pl) (placeSize pl) = data) ∧
  (∀ (n : Fin 8) (a : Nat) (pl : MemPlace) (o : EccIn) (s : State), s.corePlace n a = some pl → s.isAbove pl = false →
    s.placeTested pl = false → s.cpu.caches = [] → eccJudge pl o = .ok →
    ∃ t, exec (.lineFill n .fetch a o) s = .next t ∧ t.resp = .done ∧
      t.cpu.caches = [⟨n, true, s.coreLine n a, false, false, s.readBytes (s.coreLine n a) 64⟩]) ∧
  (∀ (m : Chan) (s : State), (s.ch m).st = .up → (s.ch m).done = false → s.bit (F.MEM_FILL_CFG_PAUSE m.val) = false →
    s.testing 4 (some m.val) = false → (s.ch m).eave + 1 < (s.ch m).lines → s.skipOn m = false →
    s.ecc.pages.contains ((m.val * 2 ^ 29 + (s.ch m).eave) / 64) = false →
    ∃ t, exec (.fillLine m) s = .next t ∧ t.ch m = { s.ch m with eave := (s.ch m).eave + 1 } ∧
      ∀ a, placeAddr (.ext m (s.ch m).eave) ≤ a → a < placeAddr (.ext m (s.ch m).eave) + 64 → t.readByte a = 0) ∧
  (∀ (ch : Chan) (idx : Nat) (o : EccIn) (s : State), s.bit F.ECC_SCRUB_CFG_EN = true → s.extOff = false → s.isAbove (.ext ch idx) = false →
    s.placeTested (.ext ch idx) = false → s.ecc.pages.contains ((ch.val * 2 ^ 29 + idx) / 64) = false → s.lastLine ch idx = true →
    eccJudge (.ext ch idx) o = .ok → s.domOn (domainOf (R.HDR_EVT_RAW P.ECC)) = true →
    ∃ t, exec (.scrubRead (.ext ch idx) o) s = .next t ∧ Raised t P.ECC E.ECC_SCRUB_PASS) ∧
  (∀ (r : Req) (v : Word) (s : State), Taken s r R.ECC_RET_CMD → s.ecc.append = false → s.ecc.clear = false → v.getLsbD 1 = false →
    s.bit F.ECC_RET_ADDR_BANK = false → s.ecc.pages.contains (s.fld F.ECC_RET_ADDR_PAGE) = false → s.rst.noSfdp = false → s.ecc.list < 4096 →
    ∃ t, exec (.retire r v) s = .next t ∧ t.ecc.append = true ∧ s.fld F.ECC_RET_ADDR_PAGE ∈ t.ecc.pages ∧
      t.rd R.ECC_CNT_RETIRED = s.rd R.ECC_CNT_RETIRED + 1) ∧
  (∀ (r : Req) (v : Word) (s : State), Taken s r R.ECC_RET_CMD → s.ecc.append = false → s.ecc.clear = false → v.getLsbD 0 = false →
    s.isDelegate r = false → s.own.presWin = true → s.rst.noSfdp = false → s.log.pf = false →
    ∃ t, exec (.clearList r v) s = .next t ∧ t.ecc = { s.ecc with clear := true, src := reqNum r }) ∧
  (∀ (ok : Bool) (s : State), s.ecc.append = true → s.ecc.clear = false →
    ∃ t, exec (.retCmdDone ok) s = .next t ∧
      t.ecc = { s.ecc with append := false, list := if ok then s.ecc.list + 1 else s.ecc.list, result := if ok then 0 else 4 }) ∧
  (∀ (r : Req) (v : Word) (s : State), Taken s r R.ECC_CE_CFG →
    ∃ t, exec (.trackClr r v) s = .next t ∧ t.resp = .done ∧ t.ecc = { s.ecc with track := [] }) ∧
  (∀ (r : Req) (v : Word) (s : State), Taken s r R.MXE_MXE_CMD → v.getLsbD 1 = false → s.mxe.next ≠ none → s.mxe.running = false →
    s.mxe.kgen ≠ 0xFFFF → s.testing 4 none = false →
    ∃ u : State, exec (.rekey r v) s = .next (((List.finRange 4).foldl State.rkAdvance u).rkFinish) ∧
      u.mxe = { s.mxe with running := true, ptr := Vector.replicate 4 0, passed := Vector.replicate 4 false }) ∧
  (∀ (r : Req) (v : Word) (s : State), Taken s r R.MXE_MXE_CMD → v.getLsbD 0 = false → s.mxe.running = false →
    ∃ t, exec (.fresh r v) s = .next t ∧
      t.mxe = { s.mxe with next := some (Config.freeKey s.fresh, Config.freeKey (s.fresh + 1)), nextWrap := false }) ∧
  (∀ (ch : Chan) (o : EccIn) (s : State), s.mxe.running = true → s.mxe.passed[ch] = false → s.extOff = false → (s.ch ch).st ≠ .withdrawn →
    s.mxe.ptr[ch] < (s.ch ch).eave →
    ∃ (u w : State) (ok : Bool), s.memRead .rekey (.ext ch s.mxe.ptr[ch]) o = (ok, u) ∧
      w = { u with mxe := { u.mxe with ptr := u.mxe.ptr.set ch (s.mxe.ptr[ch] + 1) } } ∧
      exec (.rekeyLine ch o) s = .next (((if ok then w.dramWrite ch s.mxe.ptr[ch] else w).rkAdvance ch).rkFinish)) ∧
  (∀ (r : Req) (m : Chan) (v : Word) (s : State), Taken s r (R.MEM_MEM_CMD m.val) → s.testing 4 (some m.val) = false → v.getLsbD 1 = false →
    (s.ch m).st = .off → s.pwr.limp = false → s.mxe.entropyOk = true →
    ∃ t, exec (.memTrain r m v) s = .next t ∧ t.resp = .done ∧ (t.ch m).st = .training) ∧
  (∀ (r : Req) (m : Chan) (v : Word) (s : State), Taken s r (R.MEM_MEM_CMD m.val) → s.testing 4 (some m.val) = false → v.getLsbD 0 = false →
    (s.ch m).st = .up → exec (.memWithdraw r m v) s = .next ((s.reply .done).withdraw m 0 (reqNum r))) ∧
  (∀ (r : Req) (m : Chan) (v : Word) (s : State), Taken s r (R.MEM_SKIP_END m.val) → s.mxe.running = false → s.skipOn m = false →
    exec (.skipWindowWrite r m true v) s = .next ((s.reply .done).store (R.MEM_SKIP_END m.val) v)) ∧
  (∀ s : State, s.bit F.BPM_QMAP_STAT_BUSY = true →
    ∃ t, exec (.copyComplete .qmap) s = .next t ∧ t.bit F.BPM_QMAP_STAT_BUSY = false) ∧
  (∀ (r : Req) (a : Addr) (v : Word) (s : State), selectors.contains a.toNat = true → Taken s r a.toNat →
    exec (.tableSelect r a v) s = .next ((s.reply .done).performWrite r a.toNat v)) ∧
  (∀ (l : Fin 48) (s : State), exec (.gateSwitch l) s = .next (s.applyingSlots.foldl (fun (t : State) i => t.switchUnit i (.lane l)) s)) ∧
  (∀ (r : Req) (v : Word) (l : Nat) (s : State), Taken s r R.GAT_G_LIST → l = s.fld (F.GAT_G_SEL_LANE (reqNum r)) →
    s.bit (F.GAT_G_SEL_VIEW (reqNum r)) = false → s.gateBusy.any (fun x => decide (x.val = l)) = false → s.applying P.GAT = false →
    ∃ t, exec (.gateShadowWrite r (BitVec.ofNat 20 R.GAT_G_LIST) v) s = .next t ∧
      (t.gateList l (1 - s.fld (gateBit l))).len = (mergeWrite (fieldsAt R.GAT_G_LIST) 0 v).toNat) ∧
  (∀ (r : Req) (v : Word) (s : State), Taken s r R.GAT_G_CMD →
    ∃ t, exec (.gateCopy r v) s = .next t ∧ t.resp = .done ∧
      t.gateBusy = (Fin.ofNat 48 (s.fld (F.GAT_G_SEL_LANE (reqNum r))) :: s.gateBusy).dedup) ∧
  (∀ (r : Req) (v : Word) (s : State), Taken s r R.SCH_Q_CMD → v.getLsbD 1 = false →
    ∃ t, exec (.hwmClr r v) s = .next t ∧ t.resp = .done ∧ t.rd (R.SCH_Q_HWM (s.fld (F.SCH_Q_SEL_QUEUE (reqNum r)))) = 0) ∧
  (∀ (r : Req) (v : Word) (s : State), Taken s r R.SCH_Q_CMD → v.getLsbD 0 = false →
    ∃ t, exec (.hwmClrAll r v) s = .next t ∧ t.resp = .done ∧ ∀ n, t.rd (R.SCH_Q_HWM n) = 0) ∧
  (∀ (r : Req) (v : Word) (s : State), Taken s r R.SHP_SHP_CTL → s.bit F.SHP_SHP_CTL_EN = false →
    ∃ u : State, exec (.shpEnable r v) s = .next ((u.shapersListed.filter u.shaperOn).foldl State.setShaper u) ∧ u.bit F.SHP_SHP_CTL_EN = true) ∧
  (∀ (r : Req) (l : Fin 48) (v : Word) (s : State), Taken s r (R.BPQ_LANE_CTL l.val) → s.pwr.limp = false → s.lanes[l].st = .off →
    exec (.laneCtlWrite r l v) s = .next (((s.reply .done).store (R.BPQ_LANE_CTL l.val) v).laneRestart l)) ∧
  (∀ (r : Req) (l : Fin 48) (v : Word) (s : State), Taken s r (R.BPQ_LANE_CMD l.val) → getField v 1 4 = 0 → s.lanes[l].st = .up →
    s.lanes[l].mac.tx = none → ∃ t, exec (.laneSleep r l v) s = .next t ∧ t.lanes[l].st = .sleep) ∧
  (∀ (r : Req) (l : Fin 48) (v : Word) (s : State), Taken s r (R.BPQ_LANE_CMD l.val) → v.getLsbD 0 = false → getField v 2 3 = 0 →
    s.lanes[l].st = .sleep → s.pins.ref156 = true → ∃ t, exec (.laneWake r l v) s = .next t ∧ t.lanes[l].st = .waking) ∧
  (∀ (r : Req) (l : Fin 48) (v : Word) (s : State), Taken s r (R.BPQ_LANE_CMD l.val) → getField v 0 2 = 0 → getField v 3 2 = 0 →
    s.drained l = true → ∃ t, exec (.laneRecal r l v) s = .next t ∧ t.lanes[l].st = .recal ∧ t.lanes[l].recal = .running) ∧
  (∀ (r : Req) (l : Fin 48) (v : Word) (s : State), Taken s r (R.BPQ_LANE_CMD l.val) → getField v 0 3 = 0 → v.getLsbD 4 = false →
    s.lanes[l].recal = .waiting → ∃ t, exec (.laneRecalAbort r l v) s = .next t ∧ t.lanes[l].recal = .aborted) ∧
  (∀ (r : Req) (l : Fin 48) (v : Word) (s : State), Taken s r (R.BPQ_LANE_CMD l.val) → getField v 0 4 = 0 → s.lanes[l].st = .up →
    ∃ t, exec (.laneRetrain r l v) s = .next t ∧ t.lanes[l].st = s.startOf l s.lanes[l].mode ∧
      t.rd (R.BPQ_CNT_LINK_DOWN l.val) = s.rd (R.BPQ_CNT_LINK_DOWN l.val) + 1) ∧
  (∀ (l : Fin 48) (mode : BitVec 3) (fec : BitVec 2) (s : State), s.lanes[l].st = .negotiate → s.advertised l mode.toNat = true →
    ∃ t, exec (.negotiationComplete l mode fec) s = .next t ∧ t.lanes[l].mode = mode.toNat ∧
      t.lanes[l].st = if s.bit (F.BPQ_LANE_CTL_TRAIN_EN l.val) then .train else .sync) ∧
  (∀ (l : Fin 48) (s : State), s.lanes[l].st = .train → ∃ t, exec (.linkTrainingComplete l) s = .next t ∧ t.lanes[l].st = .sync) ∧
  (∀ (l : Fin 48) (s : State), s.lanes[l].st = .train → s.running (T.train l.val) = true →
    ∃ t, exec (.linkTrainingTimeout l) s = .next t ∧ t.lanes[l].st = if s.bit (F.BPQ_LANE_CTL_AN_EN l.val) then .negotiate else .train) ∧
  (∀ (l : Fin 48) (s : State), modeEth s.lanes[l].mode = true → s.lanes[l].st = .sync →
    ∃ t, exec (.pcsLock l) s = .next t ∧ t.lanes[l].st = .up) ∧
  (∀ (l : Fin 48) (s : State), modeEth s.lanes[l].mode = true → s.lanes[l].st = .up →
    ∃ t, exec (.pcsLockLoss l) s = .next t ∧ t.lanes[l].st = s.startOf l s.lanes[l].mode) ∧
  (∀ (l : Fin 48) (s : State), s.lanes[l].recal = .waiting → s.drained l = true →
    ∃ t, exec (.recalRun l) s = .next t ∧ t.lanes[l].st = .recal ∧ t.lanes[l].recal = .running) ∧
  (∀ (l : Fin 48) (s : State), s.lanes[l].st = .recal → ∃ t, exec (.recalEnd l) s = .next t ∧ t.lanes[l].st = .up ∧ t.lanes[l].recal = .done) ∧
  (∀ (l : Fin 48) (s : State), s.bit (F.BPQ_SLEEP_CFG_WAKE_ON_SIG l.val) = true → s.lanes[l].st = .sleep → s.pins.ref156 = true →
    ∃ t, exec (.wakeOnSignal l) s = .next t ∧ t.lanes[l].st = .waking) ∧
  (∀ (l : Fin 48) (q : Nat) (s : State), q ∈ laneQueues l → s.bit (F.BPQ_SLEEP_CFG_WAKE_ON_Q l.val) = true →
    s.fld (F.BPQ_SLEEP_CFG_WAKE_KIB l.val) ≤ s.depthKib q → s.lanes[l].st = .sleep → s.pins.ref156 = true →
    ∃ t, exec (.wakeOnQueue l) s = .next t ∧ t.lanes[l].st = .waking) ∧
  (∀ (l : Fin 48) (s : State), s.lanes[l].st = .waking → s.pins.ref156 = true →
    s.domOn (domainOf (R.HDR_EVT_RAW (P.BPQ + l.val / 4))) = true →
    ∃ t, exec (.pllReady l) s = .next t ∧ Raised t (P.BPQ + l.val / 4) E.BPQ_WAKE_DONE) ∧
  (∀ s : State, ∃ t, exec .refLoss s = .next t ∧ t.pins = { s.pins with ref156 := false }) ∧
  (∀ s : State, ∃ t, exec .refReturn s = .next t ∧ t.pins = { s.pins with ref156 := true }) ∧
  (∀ (l : Fin 48) (s : State), s.lanes[l].st = .up → s.ethUp (.lane l) = true → s.bit F.SCH_SCH_CTL_EN_BP = true → s.lanes[l].mac.tx = none →
    s.lanes[l].todo = none → s.tim.wait = none → s.quieting = false → ∀ (s1 s2 s3 s4 : State) (el : List Nat) (q : Nat),
    s1 = (laneQueues l).foldl (fun (t : State) q => t.cleanHead (.lane l) q (t.queue q).length) s →
    s2 = (laneQueues l).foldl (fun (t : State) q => if (t.waiting q) = [] then t else t.consult (q + 1024)) s1 →
    el = (laneQueues l).filter (fun q => s2.laneEligible l q) → s3 = s2.noteEligible (laneQueues l) el →
    s3.choose (1024 + l.val) el = (some q, s4) →
    exec (.laneSelect l) s = .next ((s4.takeCredit (q + 1024)).transmit (.lane l) q)) ∧
  (∀ (p : Fin 8) (s : State), s.ethUp (.port p) = true → s.bit F.SCH_SCH_CTL_EN_BP = true → s.lports[p].mac.tx = none →
    s.running (T.pause (48 + p.val) 8) = false → s.quieting = false → ∀ (s1 s2 : State) (qs el : List Nat) (q : Nat) (r : List Nat),
    qs = (List.range 4).map (fun q => 8960 + 4 * p.val + q) →
    s1 = qs.foldl (fun (t : State) q => t.cleanHead (.port p) q (t.queue q).length) s →
    el = qs.filter (fun q => decide (s1.waiting q ≠ [])) → s2 = s1.noteEligible qs el → el = q :: r →
    exec (.portSelect p) s = .next (s2.transmit (.port p) q)) ∧
  (∀ (e : EthPort) (f : FrameIn) (s : State), s.ethUp e = true → 63 < f.len → f.len ≤ (s.countFec e f).maxFrame e → f.fcsOk = true →
    f.unc = 0 → halfAt f.bytes 12 ≠ 0x8808 → exec (.frameReceive e f) s = .next (((s.countFec e f).countRxOk e).enterPath
      { src := srcOf e, len := f.len, data := f.bytes, stamp := f.stamp, steps := (s.countFec e f).tim.steps })) ∧
  (∀ (e : EthPort) (quanta : BitVec 16) (s : State), s.ethUp e = true → s.fcMode e = 1 →
    ∃ t, exec (.pauseReceive e quanta) s = .next t ∧ t.running (T.pause (srcOf e) 8) = decide (quanta.toNat ≠ 0)) ∧
  (∀ (e : EthPort) (en : BitVec 8) (quanta : List (BitVec 16)) (s : State), quanta.length = 8 → s.ethUp e = true → s.fcMode e = 2 →
    exec (.pfcReceive e en quanta) s = .next ((List.range 8).foldl (fun (t : State) p => if en.getLsbD p then
      t.setPause e p ((quanta.map BitVec.toNat).getD p 0) else t) ((s.countRxOk e).portBump e R.BPQ_CNT_PAUSE_RX R.LMC_CNT_PAUSE_RX))) ∧
  (∀ (e : EthPort) (p : Fin 8) (s : State), ∃ t, exec (.pauseTimerExpire e (some p)) s = .next t ∧
    t.running (T.pause (srcOf e) p.val) = false) ∧
  (∀ (e : EthPort) (s : State), (s.fcThr e).1 ≠ 0 → s.ethUp e = true → s.fcMode e = 1 → (s.mac e).xoff = false → (s.fcThr e).1 ≤ s.heldKib e none →
    exec (.pauseSend e) s = .next ((s.setMac e { s.mac e with xoff := true }).sendPause e true none (s.fcThr e).2.2)) ∧
  (∀ (e : EthPort) (s : State), (s.fcThr e).1 ≠ 0 → s.ethUp e = true → s.fcMode e = 1 → (s.mac e).xoff = true → (s.fcThr e).2.1 < s.heldKib e none →
    exec (.pauseRefresh e) s = .next (s.sendPause e true none (s.fcThr e).2.2)) ∧
  (∀ (e : EthPort) (k : Pkt) (s : State), s.sending e = some k →
    exec (.txUnderrun e) s = .next (((((s.portBump e R.BPQ_CNT_UNDERRUN R.LMC_CNT_UNDERRUN).macEvent e E.BPQ_UNDERRUN E.LMC_UNDERRUN).raiseStart e).emit
      (.badFcs e)).endTx e State.leaveQueue)) ∧
  (∀ (e : EthPort) (k : Pkt) (s : State), s.sending e = some k →
    exec (.frameTransmitEnd e) s = .next (((s.countTxOk e).emit (.frame e (k.hdl.getD 0))).endTx e State.sentFrom)) ∧
  (∀ (p : Fin 8) (bit : Nat) (rnd : BitVec 10) (s : State), s.lports[p].full = false → s.lports[p].mac.tx ≠ none → s.lports[p].backoff = none →
    bit < 512 → s.lports[p].tries < 15 →
    ∃ t, exec (.collision p bit rnd) s = .next t ∧ t.out = .jam p :: s.out ∧ t.lports[p].tries = s.lports[p].tries + 1 ∧
      t.lports[p].backoff = some (rnd.toNat % 2 ^ min 10 (s.lports[p].tries + 1))) ∧
  (∀ (p : Fin 8) (s : State), s.lports[p].backoff ≠ none → ∃ t, exec (.backoffExpire p) s = .next t ∧ t.lports[p].backoff = none) ∧
  (∀ (p : Fin 8) (s : State), s.ethUp (.port p) = true → s.bit (F.LMC_PORT_CFG_CX_BP p.val) = true → s.lports[p].full = false →
    s.lports[p].bp = false → s.fld (F.LMC_PORT_THR_XOFF_KIB p.val) ≠ 0 → s.fld (F.LMC_PORT_THR_XOFF_KIB p.val) ≤ s.heldKib (.port p) none →
    ∃ t, exec (.cxBpStart p) s = .next t ∧ t.lports[p].bp = true) ∧
  (∀ (p : Fin 8) (r1 r4 r5 : BitVec 16) (s : State), s.bit (F.LMC_PORT_CFG_EN p.val) = true → s.pwr.limp = false → s.domOn 27 = true →
    ∃ t, exec (.phyPoll p r1 r4 r5) s = .next t ∧ t.lports[p].link = r1.getLsbD 2) ∧
  (∀ (p : Fin 8) (s : State), s.ethUp (.port p) = true → s.bit (F.LMC_PORT_CFG_STEP_EN p.val) = true → s.bit (F.LMC_PORT_CFG_FORCE p.val) = false →
    s.lports[p].hundred = true → s.lports[p].stepped = false → ∃ t, exec (.portStepDown p) s = .next t ∧ t.lports[p].stepped = true) ∧
  (∀ (p : Fin 8) (q : Nat) (s : State), q < 4 → s.lports[p].stepped = true → s.fld (F.LMC_PORT_FC_UP_KIB p.val) < s.depthKib (8960 + 4 * p.val + q) →
    ∃ t, exec (.portStepUp p) s = .next t ∧ t.lports[p].stepped = false) ∧
  (∀ (r : Req) (v : Word) (s : State), Taken s r R.LMC_MDIO_CMD → s.mdio = none →
    ∃ t, exec (.mdioWrite r v) s = .next t ∧ t.resp = .done ∧ t.mdio = some (setField (v ||| 0x80000000) 26 2 1)) ∧
  (∀ (r : Req) (v : Word) (s : State), Taken s r R.LMC_MDIO_CMD → s.mdio = none →
    ∃ t, exec (.mdioRead r v) s = .next t ∧ t.resp = .done ∧ t.mdio = some (setField (v ||| 0x80000000) 26 2 2)) ∧
  (∀ (data : BitVec 16) (ack : Bool) (w : Word) (s : State), s.mdio = some w →
    ∃ t, exec (.mdioFrameDone data ack) s = .next t ∧ t.mdio = none) ∧
  (∀ (u : MemUser) (pl : MemPlace) (s : State), ∃ t : State, exec (.narrowWrite u pl) s = .next (t.memBusError u pl false) ∧ t.mem = s.mem)

/-- Each time, work item, injection, event, error-log, PCIe, flash, I2C and JTAG command named here completes: in every state that meets
the conditions given for it, which are on the state and the operands alone, exec answers a next state in which the command's own effect
has taken place. Each clause names the chief effect only; what else changes stands in the statements of these families.
(R519, R521, R525, R537, R550, R552, R563, R564, R568, R581, R639, R650) -/
def Obligations.TimeItemAndHostCommandsComplete : Prop :=
  (∀ s : State, s.running T.servoHold = true → s.tim.servo = .locked → ∃ t, exec .servoHoldTimeout s = .next t ∧ t.tim.servo = .holdover) ∧
  (∀ (r : Req) (v : Word) (s : State), Taken s r R.TIM_TIM_CTL → ∃ t, exec (.servoDisable r v) s = .next t ∧ t.tim.servo = .free) ∧
  (∀ (r : Req) (v : Word) (s : State), Taken s r R.TIM_TIM_CMD → getField v 4 2 = 0 → s.seam.phase = .up → s.tim.wait = none →
    s.transmitting = false → s.bit F.TIM_REF_SEC_HI_VALID = true →
    exec (.stepByRefused r v) s = .next ((s.reply .done).stepTime (.by_ (-(s.refNs * 65536))))) ∧
  (∀ (r : Req) (v : Word) (s : State), Taken s r R.TIM_TIM_CMD → getField v 4 2 = 0 → s.seam.phase = .up → s.tim.wait = none →
    s.transmitting = false → exec (.stepToTime r v) s = .next ((s.reply .done).stepTime (.to_ (s.stepNs * 65536)))) ∧
  (∀ (r : Req) (v : Word) (s : State), Taken s r R.TIM_TIM_CMD → getField v 4 2 = 0 → s.seam.phase = .up → s.tim.wait = none →
    s.transmitting = false → exec (.stepByAmount r v) s = .next ((s.reply .done).stepTime
      (.by_ ((if s.bit F.TIM_STEP_SEC_HI_NEG then -(s.stepNs : Int) else s.stepNs) * 65536)))) ∧
  (∀ (x : TimeStep) (s : State), s.tim.wait = some x →
    ∃ t, exec .stepApply s = .next t ∧ t.clock = s.clock.stepped x ∧ t.tim.wait = none ∧ t.rd R.TIM_CNT_STEP = s.rd R.TIM_CNT_STEP + 1) ∧
  (∀ (r : Req) (v : Word) (s : State), Taken s r R.TIM_TIM_CMD → getField v 0 3 = 0 → v.getLsbD 5 = false →
    ∃ t, exec (.switchA r v) s = .next t ∧ t.tim = { s.tim with srcB := false } ∧ t.rd R.TIM_CNT_SWITCH = s.rd R.TIM_CNT_SWITCH + 1) ∧
  (∀ (r : Req) (v : Word) (s : State), Taken s r R.TIM_TIM_CMD → getField v 0 3 = 0 → v.getLsbD 4 = false → s.bit F.TIM_TIM_CTL_COMPAT = true →
    s.tim.b = .locked → s.tim.phi.natAbs ≤ s.fld F.TIM_JUMP_CFG_JUMP_NS * 16 →
    ∃ t, exec (.switchB r v) s = .next t ∧ t.tim.srcB = true ∧ t.rd R.TIM_CNT_SWITCH = s.rd R.TIM_CNT_SWITCH + 1) ∧
  (∀ (r : Req) (v : Word) (s : State), Taken s r R.TIM_B_OFS → s.bit F.TIM_TIM_CTL_COMPAT = true →
    exec (.bSample r v) s = .next (((s.reply .done).store R.TIM_B_OFS v).bSample)) ∧
  (∀ s : State, s.running T.bHold = true → s.tim.b = .locked → s.tim.srcB = false →
    ∃ t, exec .bStale s = .next t ∧ t.tim = { s.tim with b := .stale }) ∧
  (∀ (ppm : BitVec 24) (s : State), s.tim.servo = .locked →
    ∃ t, exec (.rtcTrimMeasure ppm) s = .next t ∧ t.fld F.TIM_RTC_TRIM_PPM = ppm.toNat ∧ t.bit F.TIM_RTC_TRIM_VALID = true) ∧
  (∀ s : State, ∃ t, exec .rtcFail s = .next t ∧ t.tim = { s.tim with rtcFail := true }) ∧
  (∀ (idx : Fin 256) (s : State), ∃ t, exec (.fuEntryExpire idx) s = .next t ∧ t.tim = { s.tim with fu := s.tim.fu.eraseIdx idx.val }) ∧
  (∀ (r : Req) (x : Nat × Nat) (l : List (Nat × Nat)) (s : State), s.reaches r = true → s.readCause R.TCL_TXTS_NS true = 0 →
    s.powered R.TCL_TXTS_NS = true → s.tim.txts = x :: l →
    ∃ t, exec (.txtsRead r) s = .next t ∧ t.resp = .data (BitVec.ofNat 32 (nsOf (x.2 * 4096))) ∧ t.tim.txts = l) ∧
  (∀ (r : Req) (s : State), s.reaches r = true → s.readCause R.TIM_TIME_SEC_LO true = 0 → s.powered R.TIM_TIME_SEC_LO = true →
    ∃ t, exec (.timeReadLatch r) s = .next t ∧ t.resp = .data (BitVec.ofNat 32 (secOf s.clock.line)) ∧
      t.rd R.TIM_TIME_NS = BitVec.ofNat 32 (nsOf s.clock.line)) ∧
  (∀ (r : Req) (s : State), s.reaches r = true → s.readCause R.TIM_RTC_LO true = 0 → s.powered R.TIM_RTC_LO = true →
    ∃ t, exec (.rtcReadLatch r) s = .next t ∧ t.resp = .data (BitVec.ofNat 32 s.clock.rtc) ∧
      t.rd R.TIM_RTC_HI = BitVec.ofNat 32 (s.clock.rtc / 2 ^ 32 % 2 ^ 16)) ∧
  (∀ s : State, s.bit F.TCL_OUT_CTL_PPS_EN = true → s.squelched = false → s.domOn 32 = true → s.tim.ppsAt = none →
    ∃ t, exec .ppsEdge s = .next t ∧ t.tim.ppsAt = some s.clock.mono) ∧
  (∀ (sec : Nat) (s : State), s.tim.todDue = some sec → s.bit F.TCL_TODU_CFG_EN = true → s.squelched = false → s.domOn 32 = true →
    ∃ t, exec .todUartMessage s = .next t ∧ t.tim.todDue = none ∧ t.out = .tod (s.todText sec) :: s.out) ∧
  (∀ (n : Fin 8) (p i : Nat) (before after : List Nat) (s : State), s.reaches (.core n) = true → s.bit F.TSK_TSK_CTL_EN = true → p < 32 →
    (∀ q j : Nat, q < p → j ∈ s.level q → s.inCores j n = false) → s.level p = before ++ i :: after →
    (∀ j ∈ before, s.inCores j n = false) → s.inCores i n = true →
    ∃ t, exec (.take n) s = .next t ∧ t.resp = .data (BitVec.ofNat 32 i) ∧ (t.item i).st = .running n) ∧
  (∀ (n : Fin 8) (item : BitVec 12) (s : State), s.reaches (.core n) = true → (s.item item.toNat).st = .running n →
    (s.item item.toNat).offAtEnd = false → (s.item item.toNat).cancelled = false →
    ∃ t, exec (.itemDone n item) s = .next t ∧ t.resp = .done ∧
      (t.item item.toNat).st = if s.condition item.toNat (s.item item.toNat).flags then .ready else .waiting) ∧
  (∀ (n : Fin 8) (item : BitVec 12) (s : State), s.reaches (.core n) = true → (s.item item.toNat).st = .running n →
    (s.item item.toNat).offAtEnd = false → (s.item item.toNat).cancelled = false →
    ∃ t, exec (.yield n item) s = .next t ∧ t.resp = .done ∧ t.item item.toNat = { s.item item.toNat with
      st := .ready, flags := (s.item item.toNat).flags ||| (s.item item.toNat).consumed, consumed := 0 }) ∧
  (∀ (n : Fin 8) (item : BitVec 12) (flag : BitVec 5) (s : State), s.reaches (.core n) = true →
    (s.tsk.queue.filter (fun x => !x.cancel)).length < 256 → s.tsk.stalled = [] →
    ∃ t, exec (.portPost n item flag) s = .next t ∧ t.resp = .done ∧ t.tsk.queue = s.tsk.queue ++ [⟨item, flag, none, some (.core n), false⟩]) ∧
  (∀ (n : Fin 8) (s : State), s.reaches (.core n) = true → ∃ t, exec (.causeRead n) s = .next t ∧
    t.resp = .data (BitVec.ofNat 32 (b2n s.tsk.ports[n].dispatch + b2n s.tsk.ports[n].preempt * 2)) ∧ t.tsk.ports[n].dispatch = false) ∧
  (∀ (r : Req) (v : Word) (s : State), Taken s r R.TSK_POST → (s.tsk.queue.filter (fun x => !x.cancel)).length < 256 → s.tsk.stalled = [] →
    ∃ t, exec (.tskPost r v) s = .next t ∧ t.resp = .done ∧
      t.tsk.queue = s.tsk.queue ++ [⟨v.extractLsb' 0 12, v.extractLsb' 16 5, none, some r, false⟩]) ∧
  (∀ (p : Post) (s : State), s.tsk.queue = [p] → s.tsk.stalled = [] → p.cancel = false → (s.item p.item.toNat).st = .waiting →
    s.condition p.item.toNat ((s.item p.item.toNat).flags ||| BitVec.ofNat 32 (2 ^ p.flag.toNat)) = true →
    ∃ t, exec .postApply s = .next t ∧ t.tsk.queue = [] ∧ t.level (s.prio p.item.toNat) = s.level (s.prio p.item.toNat) ++ [p.item.toNat] ∧
      (t.item p.item.toNat).st = .ready) ∧
  (∀ (r : Req) (v : Word) (i : Nat) (s : State), i = s.fld (F.TSK_ITEM_SEL_ITEM (reqNum r)) → Taken s r (R.TSK_ITEM_MASK i) →
    s.bit (F.TSK_ITEM_CFG_EN i) = false → ∃ t, exec (.itemCfgWrite r true v) s = .next t ∧ t.resp = .done ∧ t.rd (R.TSK_ITEM_MASK i) = v) ∧
  (∀ (r : Req) (v : Word) (s : State), Taken s r R.TSK_TSK_CTL →
    ∃ t, exec (.tskEnable r v) s = .next t ∧ t.resp = .done ∧ t.bit F.TSK_TSK_CTL_EN = true) ∧
  (∀ (p : Pkt) (ps : List Pkt) (s : State), s.excWait = p :: ps → (s.fld F.CPU_EXC_HEAD_HEAD + 1) % s.excSize ≠ s.fld F.CPU_EXC_TAIL_TAIL →
    ∃ t, exec .excDescriptorWrite s = .next t ∧ t.excWait = ps ∧ t.rd R.CPU_CNT_EXC_DESC = s.rd R.CPU_CNT_EXC_DESC + 1 ∧
      t.cpu = { s.cpu with ring := mapIns s.cpu.ring (s.fld F.CPU_EXC_HEAD_HEAD) (p.hdl.getD 0) }) ∧
  (∀ (r : Req) (v : Word) (s : State), Taken s r R.CPU_EXC_TAIL →
    ∃ t, exec (.excTailWrite r v) s = .next t ∧ t.resp = .done ∧ t.fld F.CPU_EXC_TAIL_TAIL = getField v 0 12 % s.excSize) ∧
  (∀ (r : Req) (v : Word) (hdl n : Nat) (p : Pkt) (s : State), Taken s r R.CPU_INJ_CMD → hdl = s.injHdl → n = s.fld F.CPU_INJ_LEN_S →
    p = { src := 60, len := n, data := s.readBytes (s.bufAddr (hdl / 128)) n, hdl := some hdl,
          tsTag := if v.getLsbD 2 then some (s.fld F.CPU_INJ_TAG_TAG) else none, steps := s.tim.steps } → s.stale hdl = false →
    (s.buf (hdl / 128)).owner = swHolder → (s.buf (hdl / 128)).count = 1 →
    ∃ u : State, exec (.injectPath r v) s = .next (u.enterPath p) ∧
      u.resp = .done ∧ u.rd R.CPU_CNT_INJ = s.rd R.CPU_CNT_INJ + 1) ∧
  (∀ (r : Req) (v : Word) (q hdl n : Nat) (s : State), Taken s r R.CPU_INJ_CMD → q = getField v 3 14 → hdl = s.injHdl →
    n = s.fld F.CPU_INJ_LEN_S → s.stale hdl = false → (s.buf (hdl / 128)).owner = swHolder → (s.buf (hdl / 128)).count = 1 → q ≤ 8991 →
    n ≤ s.ent (F.SCH_Q_LEN_MAX_LEN q) →
    (s.ent (F.SCH_Q_LIM_LIM_KIB q) = 0 ∨ s.depth q + n ≤ s.ent (F.SCH_Q_LIM_LIM_KIB q) * 1024) →
    ∃ t, exec (.injectDirect r v) s = .next t ∧ t.resp = .done ∧ t.rd R.CPU_CNT_INJ = s.rd R.CPU_CNT_INJ + 1 ∧
      (t.queue q).length = (s.queue q).length + 1 ∧ t.buf (hdl / 128) = { s.buf (hdl / 128) with owner := q }) ∧
  (∀ (r : Req) (n : Fin 8) (v : Word) (s : State), Taken s r (R.CPU_XWIN n.val) →
    ∃ t, exec (.xwinWrite r n v) s = .next t ∧ t.resp = .done ∧ t.fld (F.CPU_XWIN_BASE n.val) = min 511 (getField v 0 10)) ∧
  (∀ (page : BitVec 8) (b : Fin 16) (s : State), b.val < evNum page.toNat → s.powered (R.HDR_EVT_RAW page.toNat) = true →
    ∃ t, exec (.eventFire page b) s = .next t ∧ Raised t page.toNat b.val) ∧
  (∀ (r : Req) (page : BitVec 8) (bits : BitVec 16) (b : Fin 16) (s : State), Taken s r (R.HDR_EVT_RAW page.toNat) → b.val < evNum page.toNat →
    bits.getLsbD b.val = true → ∃ t, exec (.evtRawClear r page bits 0) s = .next t ∧ ¬ Raised t page.toNat b.val) ∧
  (∀ (r : Req) (page : BitVec 8) (bits : BitVec 16) (s : State), Taken s r (R.HDR_EVT_FORCE page.toNat) →
    exec (.evtForce r page bits) s = .next ((List.range (evNum page.toNat)).foldl
      (fun (u : State) b => if bits.getLsbD b then u.fire page.toNat b else u) (s.reply .done))) ∧
  (∀ (r : Req) (x : EvRec) (l : List EvRec) (s : State), s.reaches r = true → s.domOn 29 = true → s.evt.ring = x :: l →
    ∃ t, exec (.recRead r) s = .next t ∧ t.resp = .data (BitVec.ofNat 32 (nsOf x.stamp)) ∧ t.evt.ring = l) ∧
  (∀ (r : Req) (hi : Bool) (v : Word) (b : Nat) (s : State), Taken s r (if hi then R.EVT_MSIX_ARM_HI else R.EVT_MSIX_ARM_LO) →
    s.bit F.EVT_EVT_CTL_EN = false → b < 32 → v.getLsbD b = true →
    ∃ t, exec (.msixArm r hi v) s = .next t ∧ t.resp = .done ∧ t.armed (b + 32 * b2n hi) = true) ∧
  (∀ (r : Req) (v : Word) (s : State), Taken s r R.EVT_EVT_CTL →
    ∃ t, exec (.evtEnable r v) s = .next t ∧ t.resp = .done ∧ t.bit F.EVT_EVT_CTL_EN = true) ∧
  (∀ s : State, s.log.writing ≠ 0 → ∃ u : State, exec (.logPageProgram true) s = .next u.resetIfFlushed ∧
    u.log.flash = s.log.flash ++ (s.log.buf.take s.log.writing).map some ∧ u.log.buf = s.log.buf.drop s.log.writing) ∧
  (∀ s : State, s.log.pf = false → s.logOn = true → s.log.buf = [] → s.hostProgram = false →
    (s.fld F.EVT_LOG_CFG_SECT * 64 - s.log.flash.length) / 64 < 2 → s.log.writing = 0 → s.hif.flashOp = none →
    ∃ t, exec .logSectorErase s = .next t ∧ t.log.flash = s.log.flash.drop 64 ∧ t.out = .logErase (s.logAddr s.log.head) :: s.out) ∧
  (∀ s : State, s.log.pf = false → s.rst.inReset = false → s.rst.unpowered = false → s.domOn 29 = true →
    ∃ t, exec .powerFailAssert s = .next t ∧ t.log.pf = true ∧ Raised t P.EVT E.EVT_PF_ASSERT) ∧
  (∀ (late : Bool) (s : State), s.log.pf = true → s.log.flushed = false → s.log.buf = [] → s.log.writing = 0 →
    exec (.powerFailFlushDone late) s = .next ({ s with log := { s.log with flushed := true, late := late } } : State).resetIfFlushed) ∧
  (∀ s : State, s.log.pf = true → ∃ t, exec .powerFailClear s = .next t ∧ t.log = { s.log with pf := false }) ∧
  (∀ (width speed : BitVec 3) (d3 me fm : Bool) (s : State), linkWf width speed = true → s.endpointOn = true →
    ∃ t, exec (.pcieLinkUp width speed d3 me fm) s = .next t ∧ t.hif.l0 = true ∧ t.hif.width = width ∧ t.hif.speed = speed) ∧
  (∀ s : State, s.endpointOn = true → s.hif.l0 = true → ∃ t, exec .pcieFlr s = .next t ∧ t.hif.msixEn = false ∧
    ∀ k : Nat, R.HIF_MSIX_ADDR_LO 0 ≤ k → k < R.HIF_PBA_LO → t.rd k = resetWord k) ∧
  (∀ s : State, s.hif.l0 = true → ∃ t, exec .pcieL0Exit s = .next t ∧ t.hif.l0 = false) ∧
  (∀ (r : Req) (vec : Fin 64) (s : State), Taken s r (R.HIF_MSIX_CTL vec.val) →
    ∃ t, exec (.msixUnmask r vec) s = .next t ∧ t.resp = .done ∧ t.fld (F.HIF_MSIX_CTL_MASK vec.val) = 0) ∧
  (∀ (r : Req) (v : Word) (s : State), Taken s r R.HIF_FLASH_CMD → s.hif.flashOp = none → s.rst.noSfdp = false → s.log.pf = false →
    s.inLogArea (s.fld F.HIF_FLASH_ADDR_ADDR) (flashSpan 3 (getField v 8 9)) = false → flashFits 3 (s.fld F.HIF_FLASH_ADDR_ADDR) (getField v 8 9) = true →
    ∃ t, exec (.flashErase r v) s = .next t ∧ t.resp = .done ∧ t.hif.flashOp = some (3, s.fld F.HIF_FLASH_ADDR_ADDR, getField v 8 9)) ∧
  (∀ (op a len : Nat) (s : State), s.hif.flashOp = some (op, a, len) → s.hif.flashRun = true → op = 2 ∨ op = 3 →
    ∃ t, exec (.flashCmdDone false []) s = .next t ∧ t.hif.flashOp = none ∧ t.hif.flashRes = 0) ∧
  (∀ (w : Word) (s : State), s.hif.i2cOp = some w → w.getLsbD 20 = false →
    ∃ t, exec (.oi2cDone 0 []) s = .next t ∧ t.hif.i2cOp = none ∧ t.hif.i2cRes = 0) ∧
  (∀ (r : Req) (v : Word) (s : State), Taken s r R.HIF_JTAG_CTL → Present s r → v.getLsbD 1 = false →
    ∃ t, exec (.jtagOpen r v) s = .next t ∧ t.resp = .done ∧ t.hif.jtag = true ∧ t.pairs = s.eraseAll.pairs) ∧
  (∀ (r : Req) (v : Word) (s : State), Taken s r R.HIF_JTAG_CTL → v.getLsbD 0 = false →
    ∃ t, exec (.jtagClose r v) s = .next t ∧ t.resp = .done ∧ t.hif.jtag = false)
end

