-- ==== Sys2Proof/Laws/SameBut.lean ====
section
/-! SUPPORT. What `SameBut` is good for: it composes, and an update of a field changes that part alone. -/

namespace Sys2Proof

open Sys2Proof.Machine

theorem SameBut.refl (ps : List Part) (s : State) : SameBut ps s s := by
  intro p _; cases p <;> rfl

theorem SameBut.trans {ps : List Part} {s t u : State} (h1 : SameBut ps s t) (h2 : SameBut ps t u) : SameBut ps s u := by
  intro p hp
  have a := h1 p hp
  have b := h2 p hp
  cases p <;> exact Eq.trans b a

theorem SameBut.mono {ps qs : List Part} {s t : State} (hs : ps ⊆ qs) (h : SameBut ps s t) : SameBut qs s t :=
  fun p hp => h p (fun hm => hp (hs hm))

theorem SameBut.ite {ps : List Part} {s0 a b : State} {c : Prop} [Decidable c] (ha : SameBut ps s0 a) (hb : SameBut ps s0 b) :
    SameBut ps s0 (if c then a else b) := by
  split <;> assumption

/-- The state of an answer agrees with `s` outside `ps`. -/
def PairKeeps {α : Type} (ps : List Part) (s : State) (p : α × State) : Prop := SameBut ps s p.2

theorem PairKeeps.ite {α : Type} {ps : List Part} {s0 : State} {a b : α × State} {c : Prop} [Decidable c]
    (ha : PairKeeps ps s0 a) (hb : PairKeeps ps s0 b) : PairKeeps ps s0 (if c then a else b) := by
  split <;> assumption

theorem PairKeeps.mk {α : Type} {ps : List Part} {s0 t : State} {a : α} (h : SameBut ps s0 t) : PairKeeps ps s0 (a, t) := h

theorem PairKeeps.snd {α : Type} {ps : List Part} {s0 : State} {p : α × State} (h : PairKeeps ps s0 p) : SameBut ps s0 p.2 := h

theorem PairKeeps.pair {α : Type} {ps : List Part} {s0 t : State} {a : α} {p : α × State} (hp : p = (a, t))
    (h : PairKeeps ps s0 p) : SameBut ps s0 t := by
  rw [hp] at h; exact h

theorem SameBut.foldl {α : Type} {ps : List Part} {s0 x : State} {f : State → α → State} {l : List α}
    (hf : ∀ t a, SameBut ps s0 t → SameBut ps s0 (f t a)) (h : SameBut ps s0 x) : SameBut ps s0 (l.foldl f x) := by
  induction l generalizing x with
  | nil => exact h
  | cons a l ih => exact ih (hf x a h)

theorem SameBut.foldr {α : Type} {ps : List Part} {s0 x : State} {f : α → State → State} {l : List α}
    (hf : ∀ a t, SameBut ps s0 t → SameBut ps s0 (f a t)) (h : SameBut ps s0 x) : SameBut ps s0 (l.foldr f x) := by
  induction l with
  | nil => exact h
  | cons a l ih => exact hf a _ ih

theorem PairKeeps.foldl {α β : Type} {ps : List Part} {s0 : State} {x : β × State} {f : β × State → α → β × State} {l : List α}
    (hf : ∀ t a, PairKeeps ps s0 t → PairKeeps ps s0 (f t a)) (h : PairKeeps ps s0 x) : PairKeeps ps s0 (l.foldl f x) := by
  induction l generalizing x with
  | nil => exact h
  | cons a l ih => exact ih (hf x a h)

theorem Part.sub {a b L : List Part} (h : a ⊆ b) (hL : b ⊆ L) : a ⊆ L := List.Subset.trans h hL

/-- Every next state that an outcome answers agrees with `s` outside `ps`. -/
def ResKeeps (ps : List Part) (s : State) (r : Res) : Prop := ∀ t, r = .next t → SameBut ps s t

theorem ResKeeps.next {ps : List Part} {s t : State} (h : SameBut ps s t) : ResKeeps ps s (.next t) := by
  intro u hu; cases hu; exact h

theorem ResKeeps.fault {ps : List Part} {s : State} {e : Fault} : ResKeeps ps s (.fault e) := by
  intro u hu; cases hu

theorem ResKeeps.ite {ps : List Part} {s : State} {a b : Res} {c : Prop} [Decidable c] (ha : ResKeeps ps s a)
    (hb : ResKeeps ps s b) : ResKeeps ps s (if c then a else b) := by
  split <;> assumption

theorem SameBut.upd_regs {L : List Part} {s0 x : State}
    {v0} (hL : [.regs] ⊆ L) (h : SameBut L s0 x) :
    SameBut L s0 { x with regs := v0 } := by
  intro p hp; have a := h p hp
  cases p <;> first | exact a | exact absurd (hL (by simp)) hp

theorem SameBut.upd_shown {L : List Part} {s0 x : State}
    {v0} (hL : [.shown] ⊆ L) (h : SameBut L s0 x) :
    SameBut L s0 { x with shown := v0 } := by
  intro p hp; have a := h p hp
  cases p <;> first | exact a | exact absurd (hL (by simp)) hp

theorem SameBut.upd_mirror {L : List Part} {s0 x : State}
    {v0} (hL : [.mirror] ⊆ L) (h : SameBut L s0 x) :
    SameBut L s0 { x with mirror := v0 } := by
  intro p hp; have a := h p hp
  cases p <;> first | exact a | exact absurd (hL (by simp)) hp

theorem SameBut.upd_mem {L : List Part} {s0 x : State}
    {v0} (hL : [.mem] ⊆ L) (h : SameBut L s0 x) :
    SameBut L s0 { x with mem := v0 } := by
  intro p hp; have a := h p hp
  cases p <;> first | exact a | exact absurd (hL (by simp)) hp

theorem SameBut.upd_seam {L : List Part} {s0 x : State}
    {v0} (hL : [.seam] ⊆ L) (h : SameBut L s0 x) :
    SameBut L s0 { x with seam := v0 } := by
  intro p hp; have a := h p hp
  cases p <;> first | exact a | exact absurd (hL (by simp)) hp

theorem SameBut.upd_cmt {L : List Part} {s0 x : State}
    {v0} (hL : [.cmt] ⊆ L) (h : SameBut L s0 x) :
    SameBut L s0 { x with cmt := v0 } := by
  intro p hp; have a := h p hp
  cases p <;> first | exact a | exact absurd (hL (by simp)) hp

theorem SameBut.upd_own {L : List Part} {s0 x : State}
    {v0} (hL : [.own] ⊆ L) (h : SameBut L s0 x) :
    SameBut L s0 { x with own := v0 } := by
  intro p hp; have a := h p hp
  cases p <;> first | exact a | exact absurd (hL (by simp)) hp

theorem SameBut.upd_nextPkt {L : List Part} {s0 x : State}
    {v0} (hL : [.nextPkt] ⊆ L) (h : SameBut L s0 x) :
    SameBut L s0 { x with nextPkt := v0 } := by
  intro p hp; have a := h p hp
  cases p <;> first | exact a | exact absurd (hL (by simp)) hp

theorem SameBut.upd_rx {L : List Part} {s0 x : State}
    {v0} (hL : [.rx] ⊆ L) (h : SameBut L s0 x) :
    SameBut L s0 { x with rx := v0 } := by
  intro p hp; have a := h p hp
  cases p <;> first | exact a | exact absurd (hL (by simp)) hp

theorem SameBut.upd_dsf {L : List Part} {s0 x : State}
    {v0} (hL : [.dsf] ⊆ L) (h : SameBut L s0 x) :
    SameBut L s0 { x with dsf := v0 } := by
  intro p hp; have a := h p hp
  cases p <;> first | exact a | exact absurd (hL (by simp)) hp

theorem SameBut.upd_tmap {L : List Part} {s0 x : State}
    {v0} (hL : [.tmap] ⊆ L) (h : SameBut L s0 x) :
    SameBut L s0 { x with tmap := v0 } := by
  intro p hp; have a := h p hp
  cases p <;> first | exact a | exact absurd (hL (by simp)) hp

theorem SameBut.upd_tribs {L : List Part} {s0 x : State}
    {v0} (hL : [.tribs] ⊆ L) (h : SameBut L s0 x) :
    SameBut L s0 { x with tribs := v0 } := by
  intro p hp; have a := h p hp
  cases p <;> first | exact a | exact absurd (hL (by simp)) hp

theorem SameBut.upd_tfrags {L : List Part} {s0 x : State}
    {v0} (hL : [.tfrags] ⊆ L) (h : SameBut L s0 x) :
    SameBut L s0 { x with tfrags := v0 } := by
  intro p hp; have a := h p hp
  cases p <;> first | exact a | exact absurd (hL (by simp)) hp

theorem SameBut.upd_rows {L : List Part} {s0 x : State}
    {v0} (hL : [.rows] ⊆ L) (h : SameBut L s0 x) :
    SameBut L s0 { x with rows := v0 } := by
  intro p hp; have a := h p hp
  cases p <;> first | exact a | exact absurd (hL (by simp)) hp

theorem SameBut.upd_ttest {L : List Part} {s0 x : State}
    {v0} (hL : [.ttest] ⊆ L) (h : SameBut L s0 x) :
    SameBut L s0 { x with ttest := v0 } := by
  intro p hp; have a := h p hp
  cases p <;> first | exact a | exact absurd (hL (by simp)) hp

theorem SameBut.upd_act {L : List Part} {s0 x : State}
    {v0} (hL : [.act] ⊆ L) (h : SameBut L s0 x) :
    SameBut L s0 { x with act := v0 } := by
  intro p hp; have a := h p hp
  cases p <;> first | exact a | exact absurd (hL (by simp)) hp

theorem SameBut.upd_upb {L : List Part} {s0 x : State}
    {v0} (hL : [.upb] ⊆ L) (h : SameBut L s0 x) :
    SameBut L s0 { x with upb := v0 } := by
  intro p hp; have a := h p hp
  cases p <;> first | exact a | exact absurd (hL (by simp)) hp

theorem SameBut.upd_restarts {L : List Part} {s0 x : State}
    {v0} (hL : [.restarts] ⊆ L) (h : SameBut L s0 x) :
    SameBut L s0 { x with restarts := v0 } := by
  intro p hp; have a := h p hp
  cases p <;> first | exact a | exact absurd (hL (by simp)) hp

theorem SameBut.upd_gsm {L : List Part} {s0 x : State}
    {v0} (hL : [.gsm] ⊆ L) (h : SameBut L s0 x) :
    SameBut L s0 { x with gsm := v0 } := by
  intro p hp; have a := h p hp
  cases p <;> first | exact a | exact absurd (hL (by simp)) hp

theorem SameBut.upd_txEff {L : List Part} {s0 x : State}
    {v0} (hL : [.txEff] ⊆ L) (h : SameBut L s0 x) :
    SameBut L s0 { x with txEff := v0 } := by
  intro p hp; have a := h p hp
  cases p <;> first | exact a | exact absurd (hL (by simp)) hp

theorem SameBut.upd_pairs {L : List Part} {s0 x : State}
    {v0} (hL : [.pairs] ⊆ L) (h : SameBut L s0 x) :
    SameBut L s0 { x with pairs := v0 } := by
  intro p hp; have a := h p hp
  cases p <;> first | exact a | exact absurd (hL (by simp)) hp

theorem SameBut.upd_key {L : List Part} {s0 x : State}
    {v0} (hL : [.key] ⊆ L) (h : SameBut L s0 x) :
    SameBut L s0 { x with key := v0 } := by
  intro p hp; have a := h p hp
  cases p <;> first | exact a | exact absurd (hL (by simp)) hp

theorem SameBut.upd_dark {L : List Part} {s0 x : State}
    {v0} (hL : [.dark] ⊆ L) (h : SameBut L s0 x) :
    SameBut L s0 { x with dark := v0 } := by
  intro p hp; have a := h p hp
  cases p <;> first | exact a | exact absurd (hL (by simp)) hp

theorem SameBut.upd_pipes {L : List Part} {s0 x : State}
    {v0} (hL : [.pipes] ⊆ L) (h : SameBut L s0 x) :
    SameBut L s0 { x with pipes := v0 } := by
  intro p hp; have a := h p hp
  cases p <;> first | exact a | exact absurd (hL (by simp)) hp

theorem SameBut.upd_epochs {L : List Part} {s0 x : State}
    {v0} (hL : [.epochs] ⊆ L) (h : SameBut L s0 x) :
    SameBut L s0 { x with epochs := v0 } := by
  intro p hp; have a := h p hp
  cases p <;> first | exact a | exact absurd (hL (by simp)) hp

theorem SameBut.upd_prog {L : List Part} {s0 x : State}
    {v0} (hL : [.prog] ⊆ L) (h : SameBut L s0 x) :
    SameBut L s0 { x with prog := v0 } := by
  intro p hp; have a := h p hp
  cases p <;> first | exact a | exact absurd (hL (by simp)) hp

theorem SameBut.upd_rcnt {L : List Part} {s0 x : State}
    {v0} (hL : [.rcnt] ⊆ L) (h : SameBut L s0 x) :
    SameBut L s0 { x with rcnt := v0 } := by
  intro p hp; have a := h p hp
  cases p <;> first | exact a | exact absurd (hL (by simp)) hp

theorem SameBut.upd_rcntHeld {L : List Part} {s0 x : State}
    {v0} (hL : [.rcntHeld] ⊆ L) (h : SameBut L s0 x) :
    SameBut L s0 { x with rcntHeld := v0 } := by
  intro p hp; have a := h p hp
  cases p <;> first | exact a | exact absurd (hL (by simp)) hp

theorem SameBut.upd_excWait {L : List Part} {s0 x : State}
    {v0} (hL : [.excWait] ⊆ L) (h : SameBut L s0 x) :
    SameBut L s0 { x with excWait := v0 } := by
  intro p hp; have a := h p hp
  cases p <;> first | exact a | exact absurd (hL (by simp)) hp

theorem SameBut.upd_bufs {L : List Part} {s0 x : State}
    {v0} (hL : [.bufs] ⊆ L) (h : SameBut L s0 x) :
    SameBut L s0 { x with bufs := v0 } := by
  intro p hp; have a := h p hp
  cases p <;> first | exact a | exact absurd (hL (by simp)) hp

theorem SameBut.upd_bufRot {L : List Part} {s0 x : State}
    {v0} (hL : [.bufRot] ⊆ L) (h : SameBut L s0 x) :
    SameBut L s0 { x with bufRot := v0 } := by
  intro p hp; have a := h p hp
  cases p <;> first | exact a | exact absurd (hL (by simp)) hp

theorem SameBut.upd_qmap {L : List Part} {s0 x : State}
    {v0} (hL : [.qmap] ⊆ L) (h : SameBut L s0 x) :
    SameBut L s0 { x with qmap := v0 } := by
  intro p hp; have a := h p hp
  cases p <;> first | exact a | exact absurd (hL (by simp)) hp

theorem SameBut.upd_memch {L : List Part} {s0 x : State}
    {v0} (hL : [.memch] ⊆ L) (h : SameBut L s0 x) :
    SameBut L s0 { x with memch := v0 } := by
  intro p hp; have a := h p hp
  cases p <;> first | exact a | exact absurd (hL (by simp)) hp

theorem SameBut.upd_ecc {L : List Part} {s0 x : State}
    {v0} (hL : [.ecc] ⊆ L) (h : SameBut L s0 x) :
    SameBut L s0 { x with ecc := v0 } := by
  intro p hp; have a := h p hp
  cases p <;> first | exact a | exact absurd (hL (by simp)) hp

theorem SameBut.upd_mxe {L : List Part} {s0 x : State}
    {v0} (hL : [.mxe] ⊆ L) (h : SameBut L s0 x) :
    SameBut L s0 { x with mxe := v0 } := by
  intro p hp; have a := h p hp
  cases p <;> first | exact a | exact absurd (hL (by simp)) hp

theorem SameBut.upd_queues {L : List Part} {s0 x : State}
    {v0} (hL : [.queues] ⊆ L) (h : SameBut L s0 x) :
    SameBut L s0 { x with queues := v0 } := by
  intro p hp; have a := h p hp
  cases p <;> first | exact a | exact absurd (hL (by simp)) hp

theorem SameBut.upd_turns {L : List Part} {s0 x : State}
    {v0} (hL : [.turns] ⊆ L) (h : SameBut L s0 x) :
    SameBut L s0 { x with turns := v0 } := by
  intro p hp; have a := h p hp
  cases p <;> first | exact a | exact absurd (hL (by simp)) hp

theorem SameBut.upd_elig {L : List Part} {s0 x : State}
    {v0} (hL : [.elig] ⊆ L) (h : SameBut L s0 x) :
    SameBut L s0 { x with elig := v0 } := by
  intro p hp; have a := h p hp
  cases p <;> first | exact a | exact absurd (hL (by simp)) hp

theorem SameBut.upd_shapers {L : List Part} {s0 x : State}
    {v0} (hL : [.shapers] ⊆ L) (h : SameBut L s0 x) :
    SameBut L s0 { x with shapers := v0 } := by
  intro p hp; have a := h p hp
  cases p <;> first | exact a | exact absurd (hL (by simp)) hp

theorem SameBut.upd_policers {L : List Part} {s0 x : State}
    {v0} (hL : [.policers] ⊆ L) (h : SameBut L s0 x) :
    SameBut L s0 { x with policers := v0 } := by
  intro p hp; have a := h p hp
  cases p <;> first | exact a | exact absurd (hL (by simp)) hp

theorem SameBut.upd_gates {L : List Part} {s0 x : State}
    {v0} (hL : [.gates] ⊆ L) (h : SameBut L s0 x) :
    SameBut L s0 { x with gates := v0 } := by
  intro p hp; have a := h p hp
  cases p <;> first | exact a | exact absurd (hL (by simp)) hp

theorem SameBut.upd_gateBusy {L : List Part} {s0 x : State}
    {v0} (hL : [.gateBusy] ⊆ L) (h : SameBut L s0 x) :
    SameBut L s0 { x with gateBusy := v0 } := by
  intro p hp; have a := h p hp
  cases p <;> first | exact a | exact absurd (hL (by simp)) hp

theorem SameBut.upd_lanes {L : List Part} {s0 x : State}
    {v0} (hL : [.lanes] ⊆ L) (h : SameBut L s0 x) :
    SameBut L s0 { x with lanes := v0 } := by
  intro p hp; have a := h p hp
  cases p <;> first | exact a | exact absurd (hL (by simp)) hp

theorem SameBut.upd_lports {L : List Part} {s0 x : State}
    {v0} (hL : [.lports] ⊆ L) (h : SameBut L s0 x) :
    SameBut L s0 { x with lports := v0 } := by
  intro p hp; have a := h p hp
  cases p <;> first | exact a | exact absurd (hL (by simp)) hp

theorem SameBut.upd_mdio {L : List Part} {s0 x : State}
    {v0} (hL : [.mdio] ⊆ L) (h : SameBut L s0 x) :
    SameBut L s0 { x with mdio := v0 } := by
  intro p hp; have a := h p hp
  cases p <;> first | exact a | exact absurd (hL (by simp)) hp

theorem SameBut.upd_tim {L : List Part} {s0 x : State}
    {v0} (hL : [.tim] ⊆ L) (h : SameBut L s0 x) :
    SameBut L s0 { x with tim := v0 } := by
  intro p hp; have a := h p hp
  cases p <;> first | exact a | exact absurd (hL (by simp)) hp

theorem SameBut.upd_evt {L : List Part} {s0 x : State}
    {v0} (hL : [.evt] ⊆ L) (h : SameBut L s0 x) :
    SameBut L s0 { x with evt := v0 } := by
  intro p hp; have a := h p hp
  cases p <;> first | exact a | exact absurd (hL (by simp)) hp

theorem SameBut.upd_log {L : List Part} {s0 x : State}
    {v0} (hL : [.log] ⊆ L) (h : SameBut L s0 x) :
    SameBut L s0 { x with log := v0 } := by
  intro p hp; have a := h p hp
  cases p <;> first | exact a | exact absurd (hL (by simp)) hp

theorem SameBut.upd_tsk {L : List Part} {s0 x : State}
    {v0} (hL : [.tsk] ⊆ L) (h : SameBut L s0 x) :
    SameBut L s0 { x with tsk := v0 } := by
  intro p hp; have a := h p hp
  cases p <;> first | exact a | exact absurd (hL (by simp)) hp

theorem SameBut.upd_cpu {L : List Part} {s0 x : State}
    {v0} (hL : [.cpu] ⊆ L) (h : SameBut L s0 x) :
    SameBut L s0 { x with cpu := v0 } := by
  intro p hp; have a := h p hp
  cases p <;> first | exact a | exact absurd (hL (by simp)) hp

theorem SameBut.upd_pwr {L : List Part} {s0 x : State}
    {v0} (hL : [.pwr] ⊆ L) (h : SameBut L s0 x) :
    SameBut L s0 { x with pwr := v0 } := by
  intro p hp; have a := h p hp
  cases p <;> first | exact a | exact absurd (hL (by simp)) hp

theorem SameBut.upd_rst {L : List Part} {s0 x : State}
    {v0} (hL : [.rst] ⊆ L) (h : SameBut L s0 x) :
    SameBut L s0 { x with rst := v0 } := by
  intro p hp; have a := h p hp
  cases p <;> first | exact a | exact absurd (hL (by simp)) hp

theorem SameBut.upd_sys {L : List Part} {s0 x : State}
    {v0} (hL : [.sys] ⊆ L) (h : SameBut L s0 x) :
    SameBut L s0 { x with sys := v0 } := by
  intro p hp; have a := h p hp
  cases p <;> first | exact a | exact absurd (hL (by simp)) hp

theorem SameBut.upd_hif {L : List Part} {s0 x : State}
    {v0} (hL : [.hif] ⊆ L) (h : SameBut L s0 x) :
    SameBut L s0 { x with hif := v0 } := by
  intro p hp; have a := h p hp
  cases p <;> first | exact a | exact absurd (hL (by simp)) hp

theorem SameBut.upd_pins {L : List Part} {s0 x : State}
    {v0} (hL : [.pins] ⊆ L) (h : SameBut L s0 x) :
    SameBut L s0 { x with pins := v0 } := by
  intro p hp; have a := h p hp
  cases p <;> first | exact a | exact absurd (hL (by simp)) hp

theorem SameBut.upd_clock {L : List Part} {s0 x : State}
    {v0} (hL : [.clock] ⊆ L) (h : SameBut L s0 x) :
    SameBut L s0 { x with clock := v0 } := by
  intro p hp; have a := h p hp
  cases p <;> first | exact a | exact absurd (hL (by simp)) hp

theorem SameBut.upd_timers {L : List Part} {s0 x : State}
    {v0} (hL : [.timers] ⊆ L) (h : SameBut L s0 x) :
    SameBut L s0 { x with timers := v0 } := by
  intro p hp; have a := h p hp
  cases p <;> first | exact a | exact absurd (hL (by simp)) hp

theorem SameBut.upd_pending {L : List Part} {s0 x : State}
    {v0} (hL : [.pending] ⊆ L) (h : SameBut L s0 x) :
    SameBut L s0 { x with pending := v0 } := by
  intro p hp; have a := h p hp
  cases p <;> first | exact a | exact absurd (hL (by simp)) hp

theorem SameBut.upd_resp {L : List Part} {s0 x : State}
    {v0} (hL : [.resp] ⊆ L) (h : SameBut L s0 x) :
    SameBut L s0 { x with resp := v0 } := by
  intro p hp; have a := h p hp
  cases p <;> first | exact a | exact absurd (hL (by simp)) hp

theorem SameBut.upd_out {L : List Part} {s0 x : State}
    {v0} (hL : [.out] ⊆ L) (h : SameBut L s0 x) :
    SameBut L s0 { x with out := v0 } := by
  intro p hp; have a := h p hp
  cases p <;> first | exact a | exact absurd (hL (by simp)) hp

theorem SameBut.upd_fresh {L : List Part} {s0 x : State}
    {v0} (hL : [.fresh] ⊆ L) (h : SameBut L s0 x) :
    SameBut L s0 { x with fresh := v0 } := by
  intro p hp; have a := h p hp
  cases p <;> first | exact a | exact absurd (hL (by simp)) hp

theorem SameBut.upd_regs_shown {L : List Part} {s0 x : State}
    {v0} {v1} (hL : [.regs, .shown] ⊆ L) (h : SameBut L s0 x) :
    SameBut L s0 { x with regs := v0, shown := v1 } := by
  intro p hp; have a := h p hp
  cases p <;> first | exact a | exact absurd (hL (by simp)) hp

theorem SameBut.upd_seam_clock {L : List Part} {s0 x : State}
    {v0} {v1} (hL : [.seam, .clock] ⊆ L) (h : SameBut L s0 x) :
    SameBut L s0 { x with seam := v0, clock := v1 } := by
  intro p hp; have a := h p hp
  cases p <;> first | exact a | exact absurd (hL (by simp)) hp

theorem SameBut.upd_cmt_pipes {L : List Part} {s0 x : State}
    {v0} {v1} (hL : [.cmt, .pipes] ⊆ L) (h : SameBut L s0 x) :
    SameBut L s0 { x with cmt := v0, pipes := v1 } := by
  intro p hp; have a := h p hp
  cases p <;> first | exact a | exact absurd (hL (by simp)) hp

theorem SameBut.upd_own_rst {L : List Part} {s0 x : State}
    {v0} {v1} (hL : [.own, .rst] ⊆ L) (h : SameBut L s0 x) :
    SameBut L s0 { x with own := v0, rst := v1 } := by
  intro p hp; have a := h p hp
  cases p <;> first | exact a | exact absurd (hL (by simp)) hp

theorem SameBut.upd_own_clock {L : List Part} {s0 x : State}
    {v0} {v1} (hL : [.own, .clock] ⊆ L) (h : SameBut L s0 x) :
    SameBut L s0 { x with own := v0, clock := v1 } := by
  intro p hp; have a := h p hp
  cases p <;> first | exact a | exact absurd (hL (by simp)) hp

theorem SameBut.upd_rcnt_rcntHeld {L : List Part} {s0 x : State}
    {v0} {v1} (hL : [.rcnt, .rcntHeld] ⊆ L) (h : SameBut L s0 x) :
    SameBut L s0 { x with rcnt := v0, rcntHeld := v1 } := by
  intro p hp; have a := h p hp
  cases p <;> first | exact a | exact absurd (hL (by simp)) hp

theorem SameBut.upd_gates_gateBusy {L : List Part} {s0 x : State}
    {v0} {v1} (hL : [.gates, .gateBusy] ⊆ L) (h : SameBut L s0 x) :
    SameBut L s0 { x with gates := v0, gateBusy := v1 } := by
  intro p hp; have a := h p hp
  cases p <;> first | exact a | exact absurd (hL (by simp)) hp

theorem SameBut.upd_log_rst {L : List Part} {s0 x : State}
    {v0} {v1} (hL : [.log, .rst] ⊆ L) (h : SameBut L s0 x) :
    SameBut L s0 { x with log := v0, rst := v1 } := by
  intro p hp; have a := h p hp
  cases p <;> first | exact a | exact absurd (hL (by simp)) hp

theorem SameBut.upd_tsk_resp {L : List Part} {s0 x : State}
    {v0} {v1} (hL : [.tsk, .resp] ⊆ L) (h : SameBut L s0 x) :
    SameBut L s0 { x with tsk := v0, resp := v1 } := by
  intro p hp; have a := h p hp
  cases p <;> first | exact a | exact absurd (hL (by simp)) hp

theorem SameBut.upd_mem_queues_out {L : List Part} {s0 x : State}
    {v0} {v1} {v2} (hL : [.mem, .queues, .out] ⊆ L) (h : SameBut L s0 x) :
    SameBut L s0 { x with mem := v0, queues := v1, out := v2 } := by
  intro p hp; have a := h p hp
  cases p <;> first | exact a | exact absurd (hL (by simp)) hp

theorem SameBut.upd_lanes_tim_clock {L : List Part} {s0 x : State}
    {v0} {v1} {v2} (hL : [.lanes, .tim, .clock] ⊆ L) (h : SameBut L s0 x) :
    SameBut L s0 { x with lanes := v0, tim := v1, clock := v2 } := by
  intro p hp; have a := h p hp
  cases p <;> first | exact a | exact absurd (hL (by simp)) hp

theorem SameBut.upd_own_pwr_rst_clock {L : List Part} {s0 x : State}
    {v0} {v1} {v2} {v3} (hL : [.own, .pwr, .rst, .clock] ⊆ L) (h : SameBut L s0 x) :
    SameBut L s0 { x with own := v0, pwr := v1, rst := v2, clock := v3 } := by
  intro p hp; have a := h p hp
  cases p <;> first | exact a | exact absurd (hL (by simp)) hp

theorem SameBut.upd_seam_tribs_rows_ttest_upb_key {L : List Part} {s0 x : State}
    {v0} {v1} {v2} {v3} {v4} {v5} (hL : [.seam, .tribs, .rows, .ttest, .upb, .key] ⊆ L) (h : SameBut L s0 x) :
    SameBut L s0 { x with seam := v0, tribs := v1, rows := v2, ttest := v3, upb := v4, key := v5 } := by
  intro p hp; have a := h p hp
  cases p <;> first | exact a | exact absurd (hL (by simp)) hp

theorem SameBut.upd_own_tim_pwr_pins_clock_timers {L : List Part} {s0 x : State}
    {v0} {v1} {v2} {v3} {v4} {v5} (hL : [.own, .tim, .pwr, .pins, .clock, .timers] ⊆ L) (h : SameBut L s0 x) :
    SameBut L s0 { x with own := v0, tim := v1, pwr := v2, pins := v3, clock := v4, timers := v5 } := by
  intro p hp; have a := h p hp
  cases p <;> first | exact a | exact absurd (hL (by simp)) hp

theorem SameBut.upd_mem_own_act_tim_pwr_rst_clock {L : List Part} {s0 x : State}
    {v0} {v1} {v2} {v3} {v4} {v5} {v6} (hL : [.mem, .own, .act, .tim, .pwr, .rst, .clock] ⊆ L) (h : SameBut L s0 x) :
    SameBut L s0 { x with mem := v0, own := v1, act := v2, tim := v3, pwr := v4, rst := v5, clock := v6 } := by
  intro p hp; have a := h p hp
  cases p <;> first | exact a | exact absurd (hL (by simp)) hp

theorem SameBut.upd_mem_own_act_tim_pwr_rst_pins_clock {L : List Part} {s0 x : State}
    {v0} {v1} {v2} {v3} {v4} {v5} {v6} {v7} (hL : [.mem, .own, .act, .tim, .pwr, .rst, .pins, .clock] ⊆ L) (h : SameBut L s0 x) :
    SameBut L s0 { x with mem := v0, own := v1, act := v2, tim := v3, pwr := v4, rst := v5, pins := v6, clock := v7 } := by
  intro p hp; have a := h p hp
  cases p <;> first | exact a | exact absurd (hL (by simp)) hp

theorem SameBut.upd_seam_tribs_tfrags_rows_ttest_upb_key_dark {L : List Part} {s0 x : State}
    {v0} {v1} {v2} {v3} {v4} {v5} {v6} {v7} (hL : [.seam, .tribs, .tfrags, .rows, .ttest, .upb, .key, .dark] ⊆ L) (h : SameBut L s0 x) :
    SameBut L s0 { x with seam := v0, tribs := v1, tfrags := v2, rows := v3, ttest := v4, upb := v5, key := v6, dark := v7 } := by
  intro p hp; have a := h p hp
  cases p <;> first | exact a | exact absurd (hL (by simp)) hp

end Sys2Proof
end

