-- ==== Sys2Proof/Laws/Ops.lean ====
section
/-! SUPPORT. Which parts of the state each operation of Machine/Ops.lean can change. -/

namespace Sys2Proof.Machine

open Sys2Proof

set_option linter.unusedTactic false
set_option linter.unreachableTactic false
set_option linter.unusedVariables false

theorem State.wr_keeps {L : List Part} {s0 s : State} (k : Nat) (w : Word)
    (hL0 : [.regs] ⊆ L) (h0 : SameBut L s0 s) :
    SameBut L s0 (s.wr k w) := by
  unfold State.wr
  exact (SameBut.upd_regs (Part.sub (by decide) hL0) h0)

theorem State.setFld_keeps {L : List Part} {s0 s : State} (f : Fld) (v : Nat)
    (hL0 : [.regs] ⊆ L) (h0 : SameBut L s0 s) :
    SameBut L s0 (s.setFld f v) := by
  unfold State.setFld
  exact (State.wr_keeps _ _ (Part.sub (by decide) hL0) h0)

theorem State.bump_keeps {L : List Part} {s0 s : State} (k : Nat)
    (hL0 : [.regs] ⊆ L) (h0 : SameBut L s0 s) :
    SameBut L s0 (s.bump k) := by
  unfold State.bump
  exact (State.wr_keeps _ _ (Part.sub (by decide) hL0) h0)

theorem State.bumpBy_keeps {L : List Part} {s0 s : State} (k : Nat) (n : Nat)
    (hL0 : [.regs] ⊆ L) (h0 : SameBut L s0 s) :
    SameBut L s0 (s.bumpBy k n) := by
  unfold State.bumpBy
  exact (State.wr_keeps _ _ (Part.sub (by decide) hL0) h0)

theorem State.bump64_keeps {L : List Part} {s0 s : State} (lo : Nat) (hi : Nat) (n : Nat)
    (hL0 : [.regs] ⊆ L) (h0 : SameBut L s0 s) :
    SameBut L s0 (s.bump64 lo hi n) := by
  unfold State.bump64
  exact (State.wr_keeps _ _ (Part.sub (by decide) hL0) (State.wr_keeps _ _ (Part.sub (by decide) hL0) h0))

theorem State.emit_keeps {L : List Part} {s0 s : State} (o : Out)
    (hL0 : [.out] ⊆ L) (h0 : SameBut L s0 s) :
    SameBut L s0 (s.emit o) := by
  unfold State.emit
  exact (SameBut.upd_out (Part.sub (by decide) hL0) h0)

theorem State.reply_keeps {L : List Part} {s0 s : State} (x : Resp)
    (hL0 : [.resp] ⊆ L) (h0 : SameBut L s0 s) :
    SameBut L s0 (s.reply x) := by
  unfold State.reply
  exact (SameBut.upd_resp (Part.sub (by decide) hL0) h0)

theorem State.freeVal_keeps {L : List Part} {s0 s : State}
    (hL0 : [.fresh] ⊆ L) (h0 : SameBut L s0 s) :
    PairKeeps L s0 (s.freeVal) := by
  unfold State.freeVal
  exact (PairKeeps.mk (SameBut.upd_fresh (Part.sub (by decide) hL0) h0))

theorem State.writeByte_keeps {L : List Part} {s0 s : State} (a : Nat) (b : Byte)
    (hL0 : [.mem] ⊆ L) (h0 : SameBut L s0 s) :
    SameBut L s0 (s.writeByte a b) := by
  unfold State.writeByte
  exact (SameBut.upd_mem (Part.sub (by decide) hL0) h0)

theorem State.writeBytes_keeps {L : List Part} {s0 s : State} (a : Nat) (bs : List Byte)
    (hL0 : [.mem] ⊆ L) (h0 : SameBut L s0 s) : SameBut L s0 (s.writeBytes a bs) := by
  induction bs generalizing a s with
  | nil => exact h0
  | cons b bs ih => exact ih (a + 1) (State.writeByte_keeps a b hL0 h0)

theorem State.zeroRange_keeps {L : List Part} {s0 s : State} (a : Nat) (n : Nat)
    (hL0 : [.mem] ⊆ L) (h0 : SameBut L s0 s) :
    SameBut L s0 (s.zeroRange a n) := by
  unfold State.zeroRange
  exact (SameBut.upd_mem (Part.sub (by decide) hL0) h0)

theorem State.startTimer_keeps {L : List Part} {s0 s : State} (t : Nat)
    (hL0 : [.timers] ⊆ L) (h0 : SameBut L s0 s) :
    SameBut L s0 (s.startTimer t) := by
  unfold State.startTimer
  exact (SameBut.upd_timers (Part.sub (by decide) hL0) h0)

theorem State.stopTimer_keeps {L : List Part} {s0 s : State} (t : Nat)
    (hL0 : [.timers] ⊆ L) (h0 : SameBut L s0 s) :
    SameBut L s0 (s.stopTimer t) := by
  unfold State.stopTimer
  exact (SameBut.upd_timers (Part.sub (by decide) hL0) h0)

theorem State.enqueuePost_keeps {L : List Part} {s0 s : State} (p : Post)
    (hL0 : [.tsk] ⊆ L) (h0 : SameBut L s0 s) :
    SameBut L s0 (s.enqueuePost p) := by
  unfold State.enqueuePost
  exact (SameBut.ite (SameBut.upd_tsk (Part.sub (by decide) hL0) h0) (SameBut.upd_tsk (Part.sub (by decide) hL0) h0))

theorem State.disarm_keeps {L : List Part} {s0 s : State} (v : Nat)
    (hL0 : [.regs] ⊆ L) (h0 : SameBut L s0 s) :
    SameBut L s0 (s.disarm v) := by
  unfold State.disarm
  exact (State.setFld_keeps _ _ (Part.sub (by decide) hL0) h0)

theorem State.msixDue_keeps {L : List Part} {s0 s : State} (v : Nat)
    (hL0 : [.hif, .out] ⊆ L) (h0 : SameBut L s0 s) :
    SameBut L s0 (s.msixDue v) := by
  unfold State.msixDue
  exact (SameBut.ite (State.emit_keeps _ (Part.sub (by decide) hL0) h0) (SameBut.ite h0 (SameBut.upd_hif (Part.sub (by decide) hL0) h0)))

theorem State.drainPba_keeps {L : List Part} {s0 s : State}
    (hL0 : [.hif, .out] ⊆ L) (h0 : SameBut L s0 s) :
    SameBut L s0 (s.drainPba) := by
  unfold State.drainPba
  exact (SameBut.foldl (fun _ _ h1 => (State.msixDue_keeps _ (Part.sub (by decide) hL0) (SameBut.upd_hif (Part.sub (by decide) hL0) h1))) h0)

theorem State.deliverMsix_keeps {L : List Part} {s0 s : State} (g : Nat)
    (hL0 : [.regs, .hif, .out] ⊆ L) (h0 : SameBut L s0 s) :
    SameBut L s0 (s.deliverMsix g) := by
  unfold State.deliverMsix
  split
  · exact (SameBut.ite (State.msixDue_keeps _ (Part.sub (by decide) hL0) (State.disarm_keeps _ (Part.sub (by decide) hL0) h0)) h0)
  · exact h0

theorem State.deliverPost_keeps {L : List Part} {s0 s : State} (src : Nat)
    (hL0 : [.tsk] ⊆ L) (h0 : SameBut L s0 s) :
    SameBut L s0 (s.deliverPost src) := by
  unfold State.deliverPost
  exact (SameBut.ite (State.enqueuePost_keeps _ (Part.sub (by decide) hL0) h0) h0)

theorem State.pendingRise_keeps {L : List Part} {s0 s : State} (p : Nat) (b : Nat)
    (hL0 : [.regs, .tsk, .hif, .out] ⊆ L) (h0 : SameBut L s0 s) :
    SameBut L s0 (s.pendingRise p b) := by
  unfold State.pendingRise
  exact (SameBut.ite (State.deliverPost_keeps _ (Part.sub (by decide) hL0) (State.deliverMsix_keeps _ (Part.sub (by decide) hL0) h0)) h0)

theorem State.risePending_keeps {L : List Part} {s0 s : State} (p : Nat)
    (hL0 : [.regs, .tsk, .hif, .out] ⊆ L) (h0 : SameBut L s0 s) :
    SameBut L s0 (s.risePending p) := by
  unfold State.risePending
  exact (SameBut.foldl (fun _ _ h1 => (SameBut.ite (State.pendingRise_keeps _ _ (Part.sub (by decide) hL0) h1) h1)) h0)

theorem State.record_keeps {L : List Part} {s0 s : State} (rec : EvRec)
    (hL0 : [.regs, .seam, .evt] ⊆ L) (h0 : SameBut L s0 s) :
    SameBut L s0 (s.record rec) := by
  unfold State.record
  exact (SameBut.ite h0 (SameBut.ite (SameBut.ite (SameBut.upd_seam (Part.sub (by decide) hL0) h0) (SameBut.upd_seam (Part.sub (by decide) hL0) h0)) (SameBut.ite (SameBut.upd_evt (Part.sub (by decide) hL0) h0) (State.bump_keeps _ (Part.sub (by decide) hL0) h0))))

theorem State.fireAt_keeps {L : List Part} {s0 s : State} (p : Nat) (b : Nat) (wins : Bool) (t : Nat)
    (hL0 : [.regs, .seam, .evt, .tsk, .hif, .out] ⊆ L) (h0 : SameBut L s0 s) :
    SameBut L s0 (s.fireAt p b wins t) := by
  unfold State.fireAt
  exact (SameBut.ite (SameBut.ite (State.record_keeps _ (Part.sub (by decide) hL0) (SameBut.upd_evt (Part.sub (by decide) hL0) (State.setFld_keeps _ _ (Part.sub (by decide) hL0) h0))) (State.pendingRise_keeps _ _ (Part.sub (by decide) hL0) (State.record_keeps _ (Part.sub (by decide) hL0) (SameBut.upd_evt (Part.sub (by decide) hL0) (State.setFld_keeps _ _ (Part.sub (by decide) hL0) h0))))) (State.setFld_keeps _ _ (Part.sub (by decide) hL0) h0))

theorem State.fireWith_keeps {L : List Part} {s0 s : State} (p : Nat) (b : Nat) (wins : Bool) (t : Nat)
    (hL0 : [.regs, .seam, .evt, .tsk, .hif, .out] ⊆ L) (h0 : SameBut L s0 s) :
    SameBut L s0 (s.fireWith p b wins t) := by
  unfold State.fireWith
  exact (SameBut.ite h0 (SameBut.ite (State.fireAt_keeps _ _ _ _ (Part.sub (by decide) hL0) (State.fireAt_keeps _ _ _ _ (Part.sub (by decide) hL0) h0)) (State.fireAt_keeps _ _ _ _ (Part.sub (by decide) hL0) h0)))

theorem State.fire_keeps {L : List Part} {s0 s : State} (p : Nat) (b : Nat)
    (hL0 : [.regs, .seam, .evt, .tsk, .hif, .out] ⊆ L) (h0 : SameBut L s0 s) :
    SameBut L s0 (s.fire p b) := by
  unfold State.fire
  exact (State.fireWith_keeps _ _ _ _ (Part.sub (by decide) hL0) h0)

theorem State.flashStart_keeps {L : List Part} {s0 s : State}
    (hL0 : [.hif, .out] ⊆ L) (h0 : SameBut L s0 s) :
    SameBut L s0 (s.flashStart) := by
  unfold State.flashStart
  split
  · exact (SameBut.ite h0 (State.emit_keeps _ (Part.sub (by decide) hL0) (SameBut.upd_hif (Part.sub (by decide) hL0) h0)))
  · exact h0

theorem State.logEmit_keeps {L : List Part} {s0 s : State} (used : Nat) (xs : List LogRec)
    (hL0 : [.out] ⊆ L) (h0 : SameBut L s0 s) :
    SameBut L s0 (s.logEmit used xs) := by
  unfold State.logEmit
  exact (State.emit_keeps _ (Part.sub (by decide) hL0) h0)

theorem State.logStart_keeps {L : List Part} {s0 s : State}
    (hL0 : [.log, .out] ⊆ L) (h0 : SameBut L s0 s) :
    SameBut L s0 (s.logStart) := by
  unfold State.logStart
  exact (SameBut.ite (State.logEmit_keeps _ _ (Part.sub (by decide) hL0) (SameBut.upd_log (Part.sub (by decide) hL0) h0)) h0)

theorem State.makeRecordIn_keeps {L : List Part} {s0 s : State} (room : Nat) (cls : Nat) (page : Nat) (body : List Byte)
    (hL0 : [.regs, .seam, .evt, .log, .tsk, .hif, .out] ⊆ L) (h0 : SameBut L s0 s) :
    SameBut L s0 (s.makeRecordIn room cls page body) := by
  unfold State.makeRecordIn
  exact (SameBut.ite (State.logStart_keeps (Part.sub (by decide) hL0) (SameBut.upd_log (Part.sub (by decide) hL0) (State.wr_keeps _ _ (Part.sub (by decide) hL0) h0))) (State.fire_keeps _ _ (Part.sub (by decide) hL0) (State.bump_keeps _ (Part.sub (by decide) hL0) (SameBut.upd_log (Part.sub (by decide) hL0) (State.wr_keeps _ _ (Part.sub (by decide) hL0) h0)))))

theorem State.makeRecord_keeps {L : List Part} {s0 s : State} (cls : Nat) (page : Nat) (body : List Byte)
    (hL0 : [.regs, .seam, .evt, .log, .tsk, .hif, .out] ⊆ L) (h0 : SameBut L s0 s) :
    SameBut L s0 (s.makeRecord cls page body) := by
  unfold State.makeRecord
  exact (State.makeRecordIn_keeps _ _ _ _ (Part.sub (by decide) hL0) h0)

theorem State.coreFault_keeps {L : List Part} {s0 s : State} (n : Fin 8) (cause : Nat) (addr : Nat)
    (hL0 : [.tsk, .resp] ⊆ L) (h0 : SameBut L s0 s) :
    SameBut L s0 (s.coreFault n cause addr) := by
  unfold State.coreFault
  exact (SameBut.upd_tsk_resp (Part.sub (by decide) hL0) h0)

theorem State.busError_keeps {L : List Part} {s0 s : State} (r : Req) (k : Nat) (read : Bool) (cause : Nat)
    (hL0 : [.regs, .seam, .evt, .tsk, .hif, .resp, .out] ⊆ L) (h0 : SameBut L s0 s) :
    SameBut L s0 (s.busError r k read cause) := by
  unfold State.busError
  try dsimp only
  split
  · exact (State.reply_keeps _ (Part.sub (by decide) hL0) (State.fire_keeps _ _ (Part.sub (by decide) hL0) (State.wr_keeps _ _ (Part.sub (by decide) hL0) (State.bump_keeps _ (Part.sub (by decide) hL0) h0))))
  · exact (State.reply_keeps _ (Part.sub (by decide) hL0) (State.fire_keeps _ _ (Part.sub (by decide) hL0) (State.wr_keeps _ _ (Part.sub (by decide) hL0) (State.bump_keeps _ (Part.sub (by decide) hL0) h0))))
  · exact (State.coreFault_keeps _ _ _ (Part.sub (by decide) hL0) h0)

theorem State.refuse_keeps {L : List Part} {s0 s : State} (r : Req) (k : Nat)
    (hL0 : [.regs, .seam, .evt, .tsk, .hif, .resp, .out] ⊆ L) (h0 : SameBut L s0 s) :
    SameBut L s0 (s.refuse r k) := by
  unfold State.refuse
  exact (State.busError_keeps _ _ _ _ (Part.sub (by decide) hL0) h0)

theorem State.deny_keeps {L : List Part} {s0 s : State} (r : Req) (k : Nat) (dc : Nat) (bc : Nat)
    (hL0 : [.regs, .seam, .evt, .tsk, .hif, .resp, .out] ⊆ L) (h0 : SameBut L s0 s) :
    SameBut L s0 (s.deny r k dc bc) := by
  unfold State.deny
  exact (State.busError_keeps _ _ _ _ (Part.sub (by decide) hL0) (State.fire_keeps _ _ (Part.sub (by decide) hL0) (State.wr_keeps _ _ (Part.sub (by decide) hL0) (State.bump_keeps _ (Part.sub (by decide) hL0) h0))))

theorem State.access_keeps {L : List Part} {s0 s : State} (r : Req) (k : Nat) (full : Bool) (op : State → State)
    (hL0 : [.regs, .seam, .evt, .tsk, .hif, .resp, .out] ⊆ L) (hop : ∀ t, SameBut L s0 t → SameBut L s0 (op t)) (h0 : SameBut L s0 s) :
    SameBut L s0 (s.access r k full op) := by
  unfold State.access
  exact (SameBut.ite (State.reply_keeps _ (Part.sub (by decide) hL0) h0) (by
    split
    · exact (hop _ (State.reply_keeps _ (Part.sub (by decide) hL0) h0))
    · exact (State.deny_keeps _ _ _ _ (Part.sub (by decide) hL0) h0)
    · exact (State.busError_keeps _ _ _ _ (Part.sub (by decide) hL0) h0)))

theorem State.guarded_keeps {L : List Part} {s0 s : State} (r : Req) (k : Nat) (op : State → State)
    (hL0 : [.regs, .seam, .evt, .tsk, .hif, .resp, .out] ⊆ L) (hop : ∀ t, SameBut L s0 t → SameBut L s0 (op t)) (h0 : SameBut L s0 s) :
    SameBut L s0 (s.guarded r k op) := by
  unfold State.guarded
  exact (SameBut.ite (State.deny_keeps _ _ _ _ (Part.sub (by decide) hL0) h0) (SameBut.ite (State.deny_keeps _ _ _ _ (Part.sub (by decide) hL0) h0) (hop _ h0)))

theorem State.store_keeps {L : List Part} {s0 s : State} (k : Nat) (v : Word)
    (hL0 : [.regs] ⊆ L) (h0 : SameBut L s0 s) :
    SameBut L s0 (s.store k v) := by
  unfold State.store
  exact (State.wr_keeps _ _ (Part.sub (by decide) hL0) h0)

end Sys2Proof.Machine
end

