-- ==== Sys2Proof/Laws/Group.lean ====
section
/-! SUPPORT. Which parts of the state each operation of Machine/Group.lean can change. -/

namespace Sys2Proof.Machine

open Sys2Proof

set_option linter.unusedTactic false
set_option linter.unreachableTactic false
set_option linter.unusedVariables false

theorem State.setSlot_keeps {L : List Part} {s0 s : State} (i : Fin 4) (x : Slot)
    (hL0 : [.cmt] ⊆ L) (h0 : SameBut L s0 s) :
    SameBut L s0 (s.setSlot i x) := by
  unfold State.setSlot
  exact (SameBut.upd_cmt (Part.sub (by decide) hL0) h0)

theorem State.abortSlot_keeps {L : List Part} {s0 s : State} (i : Fin 4) (cause : BitVec 4)
    (hL0 : [.regs, .seam, .cmt, .evt, .tsk, .hif, .out] ⊆ L) (h0 : SameBut L s0 s) :
    SameBut L s0 (s.abortSlot i cause) := by
  unfold State.abortSlot
  exact (State.fire_keeps _ _ (Part.sub (by decide) hL0) (State.bump_keeps _ (Part.sub (by decide) hL0) (State.setSlot_keeps _ _ (Part.sub (by decide) hL0) h0)))

theorem State.slotApplied_keeps {L : List Part} {s0 s : State} (i : Fin 4)
    (hL0 : [.regs, .seam, .cmt, .evt, .tsk, .hif, .out] ⊆ L) (h0 : SameBut L s0 s) :
    SameBut L s0 (s.slotApplied i) := by
  unfold State.slotApplied
  exact (State.fire_keeps _ _ (Part.sub (by decide) hL0) (State.bump_keeps _ (Part.sub (by decide) hL0) (State.setSlot_keeps _ _ (Part.sub (by decide) hL0) h0)))

theorem State.cmdStat_keeps {L : List Part} {s0 s : State} (r : Req) (tag : BitVec 8) (cmd : Nat) (result : Nat)
    (hL0 : [.regs] ⊆ L) (h0 : SameBut L s0 s) :
    SameBut L s0 (s.cmdStat r tag cmd result) := by
  unfold State.cmdStat
  exact (State.wr_keeps _ _ (Part.sub (by decide) hL0) h0)

theorem State.cmdRefuse_keeps {L : List Part} {s0 s : State} (r : Req) (k : Nat) (tag : BitVec 8) (cmd : Nat) (result : Nat)
    (hL0 : [.regs, .seam, .evt, .tsk, .hif, .resp, .out] ⊆ L) (h0 : SameBut L s0 s) :
    SameBut L s0 (s.cmdRefuse r k tag cmd result) := by
  unfold State.cmdRefuse
  exact (State.refuse_keeps _ _ (Part.sub (by decide) hL0) (State.fire_keeps _ _ (Part.sub (by decide) hL0) (State.bump_keeps _ (Part.sub (by decide) hL0) (State.cmdStat_keeps _ _ _ _ (Part.sub (by decide) hL0) h0))))

theorem State.opCmtOpen_keeps {L : List Part} {s0 s : State} (r : Req) (tag : BitVec 8)
    (hL0 : [.regs, .seam, .cmt, .evt, .tsk, .hif, .resp, .out] ⊆ L) (h0 : SameBut L s0 s) :
    SameBut L s0 (s.opCmtOpen r tag) := by
  unfold State.opCmtOpen
  exact (SameBut.ite (State.cmdRefuse_keeps _ _ _ _ _ (Part.sub (by decide) hL0) h0) (SameBut.ite (State.cmdRefuse_keeps _ _ _ _ _ (Part.sub (by decide) hL0) h0) (by
    split
    · exact (State.cmdRefuse_keeps _ _ _ _ _ (Part.sub (by decide) hL0) h0)
    · exact (State.cmdStat_keeps _ _ _ _ (Part.sub (by decide) hL0) (State.setSlot_keeps _ _ (Part.sub (by decide) hL0) h0)))))

theorem State.opCmtDiscard_keeps {L : List Part} {s0 s : State} (r : Req) (tag : BitVec 8)
    (hL0 : [.regs, .seam, .cmt, .evt, .tsk, .hif, .resp, .out] ⊆ L) (h0 : SameBut L s0 s) :
    SameBut L s0 (s.opCmtDiscard r tag) := by
  unfold State.opCmtDiscard
  exact (SameBut.ite (State.cmdRefuse_keeps _ _ _ _ _ (Part.sub (by decide) hL0) h0) (by
    split
    · exact (State.cmdRefuse_keeps _ _ _ _ _ (Part.sub (by decide) hL0) h0)
    · exact (SameBut.ite (State.cmdStat_keeps _ _ _ _ (Part.sub (by decide) hL0) (State.abortSlot_keeps _ _ (Part.sub (by decide) hL0) h0)) (State.cmdRefuse_keeps _ _ _ _ _ (Part.sub (by decide) hL0) h0))))

theorem State.opCmtAck_keeps {L : List Part} {s0 s : State} (r : Req) (tag : BitVec 8)
    (hL0 : [.regs, .seam, .cmt, .evt, .tsk, .hif, .resp, .out] ⊆ L) (h0 : SameBut L s0 s) :
    SameBut L s0 (s.opCmtAck r tag) := by
  unfold State.opCmtAck
  exact (SameBut.ite (State.cmdRefuse_keeps _ _ _ _ _ (Part.sub (by decide) hL0) h0) (by
    split
    · exact (State.cmdRefuse_keeps _ _ _ _ _ (Part.sub (by decide) hL0) h0)
    · exact (SameBut.ite (State.cmdStat_keeps _ _ _ _ (Part.sub (by decide) hL0) (State.setSlot_keeps _ _ (Part.sub (by decide) hL0) h0)) (State.cmdRefuse_keeps _ _ _ _ _ (Part.sub (by decide) hL0) h0))))

theorem State.stageRefuse_keeps {L : List Part} {s0 s : State} (r : Req) (k : Nat) (cause : Nat)
    (hL0 : [.regs, .seam, .evt, .tsk, .hif, .resp, .out] ⊆ L) (h0 : SameBut L s0 s) :
    SameBut L s0 (s.stageRefuse r k cause) := by
  unfold State.stageRefuse
  exact (State.busError_keeps _ _ _ _ (Part.sub (by decide) hL0) (State.bump_keeps _ (Part.sub (by decide) hL0) h0))

theorem State.stage_keeps {L : List Part} {s0 s : State} (r : Req) (k : Nat) (v : Word)
    (hL0 : [.regs, .seam, .cmt, .evt, .tsk, .hif, .resp, .out] ⊆ L) (h0 : SameBut L s0 s) :
    SameBut L s0 (s.stage r k v) := by
  unfold State.stage
  try dsimp only
  split
  · exact (State.stageRefuse_keeps _ _ _ (Part.sub (by decide) hL0) h0)
  · exact (SameBut.ite (State.stageRefuse_keeps _ _ _ (Part.sub (by decide) hL0) h0) (SameBut.ite (State.stageRefuse_keeps _ _ _ (Part.sub (by decide) hL0) (State.fire_keeps _ _ (Part.sub (by decide) hL0) h0)) (SameBut.ite (State.stageRefuse_keeps _ _ _ (Part.sub (by decide) hL0) h0) (SameBut.ite (State.fire_keeps _ _ (Part.sub (by decide) hL0) (State.stageRefuse_keeps _ _ _ (Part.sub (by decide) hL0) h0)) (SameBut.ite (State.stageRefuse_keeps _ _ _ (Part.sub (by decide) hL0) (State.setSlot_keeps _ _ (Part.sub (by decide) hL0) h0)) (State.setSlot_keeps _ _ (Part.sub (by decide) hL0) h0))))))

theorem State.accessStaged_keeps {L : List Part} {s0 s : State} (r : Req) (k : Nat) (full : Bool) (v : Word)
    (hL0 : [.regs, .seam, .cmt, .evt, .tsk, .hif, .resp, .out] ⊆ L) (h0 : SameBut L s0 s) :
    SameBut L s0 (s.accessStaged r k full v) := by
  unfold State.accessStaged
  exact (SameBut.ite (State.reply_keeps _ (Part.sub (by decide) hL0) h0) (SameBut.ite (State.busError_keeps _ _ _ _ (Part.sub (by decide) hL0) h0) (SameBut.ite (State.busError_keeps _ _ _ _ (Part.sub (by decide) hL0) h0) (SameBut.ite (State.deny_keeps _ _ _ _ (Part.sub (by decide) hL0) h0) (State.stage_keeps _ _ _ (Part.sub (by decide) hL0) (State.reply_keeps _ (Part.sub (by decide) hL0) h0))))))

theorem State.thimbleMove_keeps {L : List Part} {s0 s : State}
    (hL0 : [.regs, .seam, .cmt, .evt, .tsk, .hif, .out] ⊆ L) (h0 : SameBut L s0 s) :
    SameBut L s0 (s.thimbleMove) := by
  unfold State.thimbleMove
  exact (State.fire_keeps _ _ (Part.sub (by decide) hL0) (State.bump_keeps _ (Part.sub (by decide) hL0) (State.setFld_keeps _ _ (Part.sub (by decide) hL0) (SameBut.foldl (fun _ _ h2 => (State.setFld_keeps _ _ (Part.sub (by decide) hL0) h2)) (SameBut.foldl (fun _ _ h1 => (SameBut.ite (State.abortSlot_keeps _ _ (Part.sub (by decide) hL0) h1) h1)) h0)))))

theorem State.setHolder_keeps {L : List Part} {s0 s : State} (a : BitVec 2)
    (hL0 : [.own, .timers] ⊆ L) (h0 : SameBut L s0 s) :
    SameBut L s0 (s.setHolder a) := by
  unfold State.setHolder
  exact (SameBut.ite (State.startTimer_keeps _ (Part.sub (by decide) hL0) (State.stopTimer_keeps _ (Part.sub (by decide) hL0) (SameBut.upd_own (Part.sub (by decide) hL0) h0))) (State.stopTimer_keeps _ (Part.sub (by decide) hL0) (State.stopTimer_keeps _ (Part.sub (by decide) hL0) (SameBut.upd_own (Part.sub (by decide) hL0) h0))))

theorem State.closePresence_keeps {L : List Part} {s0 s : State}
    (hL0 : [.regs, .seam, .own, .evt, .tsk, .hif, .timers, .out] ⊆ L) (h0 : SameBut L s0 s) :
    SameBut L s0 (s.closePresence) := by
  unfold State.closePresence
  exact (SameBut.ite (State.fire_keeps _ _ (Part.sub (by decide) hL0) (State.stopTimer_keeps _ (Part.sub (by decide) hL0) (SameBut.upd_own (Part.sub (by decide) hL0) h0))) h0)

theorem State.closeForce_keeps {L : List Part} {s0 s : State}
    (hL0 : [.own, .timers] ⊆ L) (h0 : SameBut L s0 s) :
    SameBut L s0 (s.closeForce) := by
  unfold State.closeForce
  exact (State.stopTimer_keeps _ (Part.sub (by decide) hL0) (SameBut.upd_own (Part.sub (by decide) hL0) h0))

theorem State.openForce_keeps {L : List Part} {s0 s : State}
    (hL0 : [.regs, .seam, .own, .evt, .tsk, .hif, .timers, .out] ⊆ L) (h0 : SameBut L s0 s) :
    SameBut L s0 (s.openForce) := by
  unfold State.openForce
  exact (State.fire_keeps _ _ (Part.sub (by decide) hL0) (State.startTimer_keeps _ (Part.sub (by decide) hL0) (SameBut.upd_own (Part.sub (by decide) hL0) h0)))

theorem State.holderLost_keeps {L : List Part} {s0 s : State} (lease : Bool)
    (hL0 : [.regs, .seam, .cmt, .own, .evt, .tsk, .hif, .timers, .out] ⊆ L) (h0 : SameBut L s0 s) :
    SameBut L s0 (s.holderLost lease) := by
  unfold State.holderLost
  exact (SameBut.ite (State.fire_keeps _ _ (Part.sub (by decide) hL0) (State.closePresence_keeps (Part.sub (by decide) hL0) (State.thimbleMove_keeps (Part.sub (by decide) hL0) (State.setHolder_keeps _ (Part.sub (by decide) hL0) h0)))) (State.closePresence_keeps (Part.sub (by decide) hL0) (State.thimbleMove_keeps (Part.sub (by decide) hL0) (State.setHolder_keeps _ (Part.sub (by decide) hL0) h0))))

theorem State.decideElection_keeps {L : List Part} {s0 s : State} (timed : Bool)
    (hL0 : [.regs, .seam, .cmt, .own, .evt, .tsk, .hif, .timers, .out] ⊆ L) (h0 : SameBut L s0 s) :
    SameBut L s0 (s.decideElection timed) := by
  unfold State.decideElection
  try dsimp only
  split
  · exact (State.thimbleMove_keeps (Part.sub (by decide) hL0) (State.setHolder_keeps _ (Part.sub (by decide) hL0) (State.stopTimer_keeps _ (Part.sub (by decide) hL0) (SameBut.upd_own (Part.sub (by decide) hL0) h0))))
  · exact (State.stopTimer_keeps _ (Part.sub (by decide) hL0) (SameBut.upd_own (Part.sub (by decide) hL0) h0))

theorem State.addCandidate_keeps {L : List Part} {s0 s : State} (a : Nat)
    (hL0 : [.regs, .seam, .cmt, .own, .evt, .tsk, .hif, .timers, .out] ⊆ L) (h0 : SameBut L s0 s) :
    SameBut L s0 (s.addCandidate a) := by
  unfold State.addCandidate
  exact (SameBut.ite h0 (SameBut.ite (State.decideElection_keeps _ (Part.sub (by decide) hL0) (SameBut.upd_own (Part.sub (by decide) hL0) h0)) (SameBut.upd_own (Part.sub (by decide) hL0) h0)))

end Sys2Proof.Machine
end

