-- ==== Sys2Proof/Laws/Events.lean ====
section
/-! SUPPORT. Which parts of the state each operation of Machine/Events.lean can change. -/

namespace Sys2Proof.Machine

open Sys2Proof

set_option linter.unusedTactic false
set_option linter.unreachableTactic false
set_option linter.unusedVariables false

theorem State.clearCounters_keeps {L : List Part} {s0 s : State} (p : Nat)
    (hL0 : [.regs, .shown, .rcnt, .rcntHeld] ⊆ L) (h0 : SameBut L s0 s) :
    SameBut L s0 (s.clearCounters p) := by
  unfold State.clearCounters
  exact (SameBut.ite (SameBut.upd_rcnt_rcntHeld (Part.sub (by decide) hL0) (SameBut.upd_regs_shown (Part.sub (by decide) hL0) h0)) (SameBut.upd_regs_shown (Part.sub (by decide) hL0) h0))

theorem State.holdCounters_keeps {L : List Part} {s0 s : State} (p : Nat)
    (hL0 : [.shown, .rcntHeld] ⊆ L) (h0 : SameBut L s0 s) :
    SameBut L s0 (s.holdCounters p) := by
  unfold State.holdCounters
  exact (SameBut.ite (SameBut.upd_rcntHeld (Part.sub (by decide) hL0) (SameBut.upd_shown (Part.sub (by decide) hL0) h0)) (SameBut.upd_shown (Part.sub (by decide) hL0) h0))

theorem State.releaseCounters_keeps {L : List Part} {s0 s : State} (p : Nat)
    (hL0 : [.shown, .rcntHeld] ⊆ L) (h0 : SameBut L s0 s) :
    SameBut L s0 (s.releaseCounters p) := by
  unfold State.releaseCounters
  exact (SameBut.ite (SameBut.upd_rcntHeld (Part.sub (by decide) hL0) (SameBut.upd_shown (Part.sub (by decide) hL0) h0)) (SameBut.upd_shown (Part.sub (by decide) hL0) h0))

theorem State.opPageCtl_keeps {L : List Part} {s0 s : State} (p : Nat) (v : Word)
    (hL0 : [.regs, .shown, .rcnt, .rcntHeld, .tsk, .hif, .out] ⊆ L) (h0 : SameBut L s0 s) :
    SameBut L s0 (s.opPageCtl p v) := by
  unfold State.opPageCtl
  exact (SameBut.ite (State.risePending_keeps _ (Part.sub (by decide) hL0) (SameBut.ite (SameBut.ite (SameBut.ite (State.clearCounters_keeps _ (Part.sub (by decide) hL0) (State.store_keeps _ _ (Part.sub (by decide) hL0) h0)) (State.store_keeps _ _ (Part.sub (by decide) hL0) h0)) (State.holdCounters_keeps _ (Part.sub (by decide) hL0) (SameBut.ite (State.clearCounters_keeps _ (Part.sub (by decide) hL0) (State.store_keeps _ _ (Part.sub (by decide) hL0) h0)) (State.store_keeps _ _ (Part.sub (by decide) hL0) h0)))) (State.releaseCounters_keeps _ (Part.sub (by decide) hL0) (SameBut.ite (State.clearCounters_keeps _ (Part.sub (by decide) hL0) (State.store_keeps _ _ (Part.sub (by decide) hL0) h0)) (State.store_keeps _ _ (Part.sub (by decide) hL0) h0))))) (SameBut.ite (SameBut.ite (SameBut.ite (State.clearCounters_keeps _ (Part.sub (by decide) hL0) (State.store_keeps _ _ (Part.sub (by decide) hL0) h0)) (State.store_keeps _ _ (Part.sub (by decide) hL0) h0)) (State.holdCounters_keeps _ (Part.sub (by decide) hL0) (SameBut.ite (State.clearCounters_keeps _ (Part.sub (by decide) hL0) (State.store_keeps _ _ (Part.sub (by decide) hL0) h0)) (State.store_keeps _ _ (Part.sub (by decide) hL0) h0)))) (State.releaseCounters_keeps _ (Part.sub (by decide) hL0) (SameBut.ite (State.clearCounters_keeps _ (Part.sub (by decide) hL0) (State.store_keeps _ _ (Part.sub (by decide) hL0) h0)) (State.store_keeps _ _ (Part.sub (by decide) hL0) h0)))))

theorem State.opEvtMask_keeps {L : List Part} {s0 s : State} (p : Nat) (v : Word)
    (hL0 : [.regs, .tsk, .hif, .out] ⊆ L) (h0 : SameBut L s0 s) :
    SameBut L s0 (s.opEvtMask p v) := by
  unfold State.opEvtMask
  exact (SameBut.foldl (fun _ _ h1 => (SameBut.ite (State.pendingRise_keeps _ _ (Part.sub (by decide) hL0) h1) h1)) (State.store_keeps _ _ (Part.sub (by decide) hL0) h0))

theorem State.opEvtForce_keeps {L : List Part} {s0 s : State} (p : Nat) (v : Word)
    (hL0 : [.regs, .seam, .evt, .tsk, .hif, .out] ⊆ L) (h0 : SameBut L s0 s) :
    SameBut L s0 (s.opEvtForce p v) := by
  unfold State.opEvtForce
  exact (SameBut.foldl (fun _ _ h1 => (SameBut.ite (State.fire_keeps _ _ (Part.sub (by decide) hL0) h1) h1)) h0)

theorem State.opEvtCtl_keeps {L : List Part} {s0 s : State} (v : Word)
    (hL0 : [.regs, .tsk, .hif, .out] ⊆ L) (h0 : SameBut L s0 s) :
    SameBut L s0 (s.opEvtCtl v) := by
  unfold State.opEvtCtl
  exact (SameBut.ite (SameBut.foldl (fun _ _ h1 => (State.risePending_keeps _ (Part.sub (by decide) hL0) h1)) (State.store_keeps _ _ (Part.sub (by decide) hL0) h0)) (State.store_keeps _ _ (Part.sub (by decide) hL0) h0))

theorem State.rearm_keeps {L : List Part} {s0 s : State} (v : Nat)
    (hL0 : [.regs, .hif, .out] ⊆ L) (h0 : SameBut L s0 s) :
    SameBut L s0 (s.rearm v) := by
  unfold State.rearm
  exact (SameBut.ite (State.msixDue_keeps _ (Part.sub (by decide) hL0) (State.disarm_keeps _ (Part.sub (by decide) hL0) (State.setFld_keeps _ _ (Part.sub (by decide) hL0) h0))) (State.setFld_keeps _ _ (Part.sub (by decide) hL0) h0))

theorem State.opMsixArm_keeps {L : List Part} {s0 s : State} (hi : Bool) (v : Word)
    (hL0 : [.regs, .hif, .out] ⊆ L) (h0 : SameBut L s0 s) :
    SameBut L s0 (s.opMsixArm hi v) := by
  unfold State.opMsixArm
  exact (SameBut.foldl (fun _ _ h1 => (SameBut.ite (State.rearm_keeps _ (Part.sub (by decide) hL0) h1) h1)) h0)

theorem State.opLogCfg_keeps {L : List Part} {s0 s : State} (r : Req) (v : Word)
    (hL0 : [.regs, .seam, .evt, .log, .tsk, .hif, .resp, .out] ⊆ L) (h0 : SameBut L s0 s) :
    SameBut L s0 (s.opLogCfg r v) := by
  unfold State.opLogCfg
  exact (SameBut.ite (State.refuse_keeps _ _ (Part.sub (by decide) hL0) h0) (State.logStart_keeps (Part.sub (by decide) hL0) (State.flashStart_keeps (Part.sub (by decide) hL0) (State.store_keeps _ _ (Part.sub (by decide) hL0) h0))))

theorem State.opRecRead_keeps {L : List Part} {s0 s : State}
    (hL0 : [.evt, .resp] ⊆ L) (h0 : SameBut L s0 s) :
    SameBut L s0 (s.opRecRead) := by
  unfold State.opRecRead
  exact (SameBut.upd_evt (Part.sub (by decide) hL0) (State.reply_keeps _ (Part.sub (by decide) hL0) h0))

theorem State.readAccess_keeps {L : List Part} {s0 s : State} (r : Req) (k : Nat) (full : Bool) (value : Word) (op : State → State)
    (hL0 : [.regs, .seam, .evt, .tsk, .hif, .resp, .out] ⊆ L) (hop : ∀ t, SameBut L s0 t → SameBut L s0 (op t)) (h0 : SameBut L s0 s) :
    SameBut L s0 (s.readAccess r k full value op) := by
  unfold State.readAccess
  exact (SameBut.ite (State.reply_keeps _ (Part.sub (by decide) hL0) h0) (by
    split
    · exact (SameBut.ite (hop _ (State.reply_keeps _ (Part.sub (by decide) hL0) h0)) (State.reply_keeps _ (Part.sub (by decide) hL0) h0))
    · exact (State.busError_keeps _ _ _ _ (Part.sub (by decide) hL0) h0)))

theorem execCntClr_keeps (r : Req) (page : BitVec 8) (v : Word) (s : State) :
    ResKeeps [.regs, .shown, .seam, .rcnt, .rcntHeld, .evt, .tsk, .hif, .resp, .out] s (execCntClr r page v s) := by
  have hL0 := List.Subset.refl ([.regs, .shown, .seam, .rcnt, .rcntHeld, .evt, .tsk, .hif, .resp, .out] : List Part)
  have h0 := SameBut.refl [.regs, .shown, .seam, .rcnt, .rcntHeld, .evt, .tsk, .hif, .resp, .out] s
  unfold execCntClr
  exact (ResKeeps.next (State.access_keeps _ _ _ _ (Part.sub (by decide) hL0) (fun _ h1 => (State.opPageCtl_keeps _ _ (Part.sub (by decide) hL0) h1)) h0))

theorem execCntHold_keeps (r : Req) (page : BitVec 8) (v : Word) (s : State) :
    ResKeeps [.regs, .shown, .seam, .rcnt, .rcntHeld, .evt, .tsk, .hif, .resp, .out] s (execCntHold r page v s) := by
  have hL0 := List.Subset.refl ([.regs, .shown, .seam, .rcnt, .rcntHeld, .evt, .tsk, .hif, .resp, .out] : List Part)
  have h0 := SameBut.refl [.regs, .shown, .seam, .rcnt, .rcntHeld, .evt, .tsk, .hif, .resp, .out] s
  unfold execCntHold
  exact (ResKeeps.next (State.access_keeps _ _ _ _ (Part.sub (by decide) hL0) (fun _ h1 => (State.opPageCtl_keeps _ _ (Part.sub (by decide) hL0) h1)) h0))

theorem execEvtOutSet_keeps (r : Req) (page : BitVec 8) (v : Word) (s : State) :
    ResKeeps [.regs, .shown, .seam, .rcnt, .rcntHeld, .evt, .tsk, .hif, .resp, .out] s (execEvtOutSet r page v s) := by
  have hL0 := List.Subset.refl ([.regs, .shown, .seam, .rcnt, .rcntHeld, .evt, .tsk, .hif, .resp, .out] : List Part)
  have h0 := SameBut.refl [.regs, .shown, .seam, .rcnt, .rcntHeld, .evt, .tsk, .hif, .resp, .out] s
  unfold execEvtOutSet
  exact (ResKeeps.next (State.access_keeps _ _ _ _ (Part.sub (by decide) hL0) (fun _ h1 => (State.opPageCtl_keeps _ _ (Part.sub (by decide) hL0) h1)) h0))

theorem execEvtRawClear_keeps (r : Req) (page : BitVec 8) (bits : BitVec 16) (firing : BitVec 16) (s : State) :
    ResKeeps [.regs, .seam, .evt, .tsk, .hif, .resp, .out] s (execEvtRawClear r page bits firing s) := by
  have hL0 := List.Subset.refl ([.regs, .seam, .evt, .tsk, .hif, .resp, .out] : List Part)
  have h0 := SameBut.refl [.regs, .seam, .evt, .tsk, .hif, .resp, .out] s
  unfold execEvtRawClear
  exact (ResKeeps.next (SameBut.foldl (fun _ _ h2 => (SameBut.ite (State.fireWith_keeps _ _ _ _ (Part.sub (by decide) hL0) h2) h2)) (State.access_keeps _ _ _ _ (Part.sub (by decide) hL0) (fun _ h1 => (State.store_keeps _ _ (Part.sub (by decide) hL0) h1)) h0)))

theorem execEvtMaskWrite_keeps (r : Req) (page : BitVec 8) (bits : BitVec 16) (s : State) :
    ResKeeps [.regs, .seam, .evt, .tsk, .hif, .resp, .out] s (execEvtMaskWrite r page bits s) := by
  have hL0 := List.Subset.refl ([.regs, .seam, .evt, .tsk, .hif, .resp, .out] : List Part)
  have h0 := SameBut.refl [.regs, .seam, .evt, .tsk, .hif, .resp, .out] s
  unfold execEvtMaskWrite
  exact (ResKeeps.next (State.access_keeps _ _ _ _ (Part.sub (by decide) hL0) (fun _ h1 => (State.opEvtMask_keeps _ _ (Part.sub (by decide) hL0) h1)) h0))

theorem execEvtForce_keeps (r : Req) (page : BitVec 8) (bits : BitVec 16) (s : State) :
    ResKeeps [.regs, .seam, .evt, .tsk, .hif, .resp, .out] s (execEvtForce r page bits s) := by
  have hL0 := List.Subset.refl ([.regs, .seam, .evt, .tsk, .hif, .resp, .out] : List Part)
  have h0 := SameBut.refl [.regs, .seam, .evt, .tsk, .hif, .resp, .out] s
  unfold execEvtForce
  exact (ResKeeps.next (State.access_keeps _ _ _ _ (Part.sub (by decide) hL0) (fun _ h1 => (State.opEvtForce_keeps _ _ (Part.sub (by decide) hL0) h1)) h0))

theorem execEventFire_keeps (page : BitVec 8) (bit : Fin 16) (s : State) :
    ResKeeps [.regs, .seam, .evt, .tsk, .hif, .out] s (execEventFire page bit s) := by
  have hL0 := List.Subset.refl ([.regs, .seam, .evt, .tsk, .hif, .out] : List Part)
  have h0 := SameBut.refl [.regs, .seam, .evt, .tsk, .hif, .out] s
  unfold execEventFire
  exact (ResKeeps.next (SameBut.ite (State.fire_keeps _ _ (Part.sub (by decide) hL0) h0) h0))

theorem execRecRead_keeps (r : Req) (s : State) :
    ResKeeps [.regs, .seam, .evt, .tsk, .hif, .resp, .out] s (execRecRead r s) := by
  have hL0 := List.Subset.refl ([.regs, .seam, .evt, .tsk, .hif, .resp, .out] : List Part)
  have h0 := SameBut.refl [.regs, .seam, .evt, .tsk, .hif, .resp, .out] s
  unfold execRecRead
  exact (ResKeeps.next (State.readAccess_keeps _ _ _ _ _ (Part.sub (by decide) hL0) (fun _ h1 => (State.opRecRead_keeps (Part.sub (by decide) hL0) h1)) h0))

theorem execMsixArm_keeps (r : Req) (hi : Bool) (v : Word) (s : State) :
    ResKeeps [.regs, .seam, .evt, .tsk, .hif, .resp, .out] s (execMsixArm r hi v s) := by
  have hL0 := List.Subset.refl ([.regs, .seam, .evt, .tsk, .hif, .resp, .out] : List Part)
  have h0 := SameBut.refl [.regs, .seam, .evt, .tsk, .hif, .resp, .out] s
  unfold execMsixArm
  exact (ResKeeps.next (State.access_keeps _ _ _ _ (Part.sub (by decide) hL0) (fun _ h1 => (State.opMsixArm_keeps _ _ (Part.sub (by decide) hL0) h1)) h0))

theorem execEvtEnable_keeps (r : Req) (v : Word) (s : State) :
    ResKeeps [.regs, .seam, .evt, .tsk, .hif, .resp, .out] s (execEvtEnable r v s) := by
  have hL0 := List.Subset.refl ([.regs, .seam, .evt, .tsk, .hif, .resp, .out] : List Part)
  have h0 := SameBut.refl [.regs, .seam, .evt, .tsk, .hif, .resp, .out] s
  unfold execEvtEnable
  exact (ResKeeps.next (State.access_keeps _ _ _ _ (Part.sub (by decide) hL0) (fun _ h1 => (State.opEvtCtl_keeps _ (Part.sub (by decide) hL0) h1)) h0))

theorem execLogSectorErase_keeps (s : State) :
    ResKeeps [.log, .out] s (execLogSectorErase s) := by
  have hL0 := List.Subset.refl ([.log, .out] : List Part)
  have h0 := SameBut.refl [.log, .out] s
  unfold execLogSectorErase
  exact (ResKeeps.next (SameBut.ite (State.emit_keeps _ (Part.sub (by decide) hL0) (SameBut.upd_log (Part.sub (by decide) hL0) h0)) h0))

theorem execPowerFailAssert_keeps (s : State) :
    ResKeeps [.regs, .seam, .ecc, .evt, .log, .tsk, .hif, .out] s (execPowerFailAssert s) := by
  have hL0 := List.Subset.refl ([.regs, .seam, .ecc, .evt, .log, .tsk, .hif, .out] : List Part)
  have h0 := SameBut.refl [.regs, .seam, .ecc, .evt, .log, .tsk, .hif, .out] s
  unfold execPowerFailAssert
  exact (ResKeeps.ite (ResKeeps.next h0) (ResKeeps.next (SameBut.ite (State.makeRecordIn_keeps _ _ _ _ (Part.sub (by decide) hL0) (SameBut.ite (SameBut.upd_ecc (Part.sub (by decide) hL0) (by
    split
    · exact (State.fire_keeps _ _ (Part.sub (by decide) hL0) (State.bump_keeps _ (Part.sub (by decide) hL0) (SameBut.upd_hif (Part.sub (by decide) hL0) (State.fire_keeps _ _ (Part.sub (by decide) hL0) (State.bump_keeps _ (Part.sub (by decide) hL0) (SameBut.upd_log (Part.sub (by decide) hL0) h0))))))
    · exact (State.fire_keeps _ _ (Part.sub (by decide) hL0) (State.bump_keeps _ (Part.sub (by decide) hL0) (SameBut.upd_log (Part.sub (by decide) hL0) h0))))) (by
    split
    · exact (State.fire_keeps _ _ (Part.sub (by decide) hL0) (State.bump_keeps _ (Part.sub (by decide) hL0) (SameBut.upd_hif (Part.sub (by decide) hL0) (State.fire_keeps _ _ (Part.sub (by decide) hL0) (State.bump_keeps _ (Part.sub (by decide) hL0) (SameBut.upd_log (Part.sub (by decide) hL0) h0))))))
    · exact (State.fire_keeps _ _ (Part.sub (by decide) hL0) (State.bump_keeps _ (Part.sub (by decide) hL0) (SameBut.upd_log (Part.sub (by decide) hL0) h0)))))) (SameBut.upd_log (Part.sub (by decide) hL0) (State.makeRecordIn_keeps _ _ _ _ (Part.sub (by decide) hL0) (SameBut.ite (SameBut.upd_ecc (Part.sub (by decide) hL0) (by
    split
    · exact (State.fire_keeps _ _ (Part.sub (by decide) hL0) (State.bump_keeps _ (Part.sub (by decide) hL0) (SameBut.upd_hif (Part.sub (by decide) hL0) (State.fire_keeps _ _ (Part.sub (by decide) hL0) (State.bump_keeps _ (Part.sub (by decide) hL0) (SameBut.upd_log (Part.sub (by decide) hL0) h0))))))
    · exact (State.fire_keeps _ _ (Part.sub (by decide) hL0) (State.bump_keeps _ (Part.sub (by decide) hL0) (SameBut.upd_log (Part.sub (by decide) hL0) h0))))) (by
    split
    · exact (State.fire_keeps _ _ (Part.sub (by decide) hL0) (State.bump_keeps _ (Part.sub (by decide) hL0) (SameBut.upd_hif (Part.sub (by decide) hL0) (State.fire_keeps _ _ (Part.sub (by decide) hL0) (State.bump_keeps _ (Part.sub (by decide) hL0) (SameBut.upd_log (Part.sub (by decide) hL0) h0))))))
    · exact (State.fire_keeps _ _ (Part.sub (by decide) hL0) (State.bump_keeps _ (Part.sub (by decide) hL0) (SameBut.upd_log (Part.sub (by decide) hL0) h0))))))))))

theorem execPowerFailClear_keeps (s : State) :
    ResKeeps [.regs, .seam, .evt, .log, .tsk, .hif, .out] s (execPowerFailClear s) := by
  have hL0 := List.Subset.refl ([.regs, .seam, .evt, .log, .tsk, .hif, .out] : List Part)
  have h0 := SameBut.refl [.regs, .seam, .evt, .log, .tsk, .hif, .out] s
  unfold execPowerFailClear
  exact (ResKeeps.next (SameBut.ite (State.fire_keeps _ _ (Part.sub (by decide) hL0) (SameBut.upd_log (Part.sub (by decide) hL0) h0)) h0))

end Sys2Proof.Machine
end

