-- ==== Sys2Proof/Laws/Dram.lean ====
section
/-! SUPPORT. Which parts of the state each operation of Machine/Dram.lean can change. -/

namespace Sys2Proof.Machine

open Sys2Proof

set_option linter.unusedTactic false
set_option linter.unreachableTactic false
set_option linter.unusedVariables false

theorem State.placeWritten_keeps {L : List Part} {s0 s : State} (pl : MemPlace)
    (hL0 : [.ecc] ⊆ L) (h0 : SameBut L s0 s) :
    SameBut L s0 (s.placeWritten pl) := by
  unfold State.placeWritten
  exact (SameBut.upd_ecc (Part.sub (by decide) hL0) h0)

theorem State.dramWrite_keeps {L : List Part} {s0 s : State} (ch : Chan) (idx : Nat)
    (hL0 : [.ecc, .out] ⊆ L) (h0 : SameBut L s0 s) :
    SameBut L s0 (s.dramWrite ch idx) := by
  unfold State.dramWrite
  exact (State.placeWritten_keeps _ (Part.sub (by decide) hL0) (State.emit_keeps _ (Part.sub (by decide) hL0) h0))

theorem State.dramRange_keeps {L : List Part} {s0 s : State} (a : Nat) (n : Nat)
    (hL0 : [.ecc, .out] ⊆ L) (h0 : SameBut L s0 s) :
    SameBut L s0 (s.dramRange a n) := by
  unfold State.dramRange
  exact (SameBut.ite h0 (SameBut.foldl (fun _ _ h1 => (State.dramWrite_keeps _ _ (Part.sub (by decide) hL0) h1)) h0))

theorem State.storeBytes_keeps {L : List Part} {s0 s : State} (a : Nat) (bs : List Byte)
    (hL0 : [.mem, .ecc, .out] ⊆ L) (h0 : SameBut L s0 s) :
    SameBut L s0 (s.storeBytes a bs) := by
  unfold State.storeBytes
  exact (State.dramRange_keeps _ _ (Part.sub (by decide) hL0) (State.writeBytes_keeps _ _ (Part.sub (by decide) hL0) h0))

end Sys2Proof.Machine
end

