-- ==== Sys2Proof/Laws/Cache.lean ====
section
/-! SUPPORT. Which parts of the state each operation of Machine/Cache.lean can change. -/

namespace Sys2Proof.Machine

open Sys2Proof

set_option linter.unusedTactic false
set_option linter.unreachableTactic false
set_option linter.unusedVariables false

theorem State.setCaches_keeps {L : List Part} {s0 s : State} (f : List CacheLine → List CacheLine)
    (hL0 : [.cpu] ⊆ L) (h0 : SameBut L s0 s) :
    SameBut L s0 (s.setCaches f) := by
  unfold State.setCaches
  exact (SameBut.upd_cpu (Part.sub (by decide) hL0) h0)

theorem State.writeBack_keeps {L : List Part} {s0 s : State} (x : CacheLine)
    (hL0 : [.mem, .ecc, .out] ⊆ L) (h0 : SameBut L s0 s) :
    SameBut L s0 (s.writeBack x) := by
  unfold State.writeBack
  exact (SameBut.ite (State.storeBytes_keeps _ _ (Part.sub (by decide) hL0) h0) h0)

theorem State.snoop_keeps {L : List Part} {s0 s : State} (n : Fin 8) (a : Nat)
    (hL0 : [.mem, .ecc, .cpu, .out] ⊆ L) (h0 : SameBut L s0 s) :
    SameBut L s0 (s.snoop n a) := by
  unfold State.snoop
  exact (State.setCaches_keeps _ (Part.sub (by decide) hL0) (SameBut.foldl (fun _ _ h1 => (State.writeBack_keeps _ (Part.sub (by decide) hL0) h1)) h0))

theorem State.claimLine_keeps {L : List Part} {s0 s : State} (n : Fin 8) (a : Nat)
    (hL0 : [.cpu] ⊆ L) (h0 : SameBut L s0 s) :
    SameBut L s0 (s.claimLine n a) := by
  unfold State.claimLine
  exact (State.setCaches_keeps _ (Part.sub (by decide) hL0) h0)

theorem State.freeLine_keeps {L : List Part} {s0 s : State}
    (hL0 : [.fresh] ⊆ L) (h0 : SameBut L s0 s) :
    PairKeeps L s0 (s.freeLine) := by
  unfold State.freeLine
  exact (PairKeeps.mk (SameBut.upd_fresh (Part.sub (by decide) hL0) h0))

theorem State.makeRoom_keeps {L : List Part} {s0 s : State} (n : Fin 8) (instr : Bool)
    (hL0 : [.mem, .ecc, .cpu, .out, .fresh] ⊆ L) (h0 : SameBut L s0 s) :
    SameBut L s0 (s.makeRoom n instr) := by
  unfold State.makeRoom
  exact (SameBut.ite h0 (by
    try dsimp only
    split
    · exact (State.setCaches_keeps _ (Part.sub (by decide) hL0) (State.writeBack_keeps _ (Part.sub (by decide) hL0) (PairKeeps.snd (State.freeVal_keeps (Part.sub (by decide) hL0) h0))))
    · exact (PairKeeps.snd (State.freeVal_keeps (Part.sub (by decide) hL0) h0))))

theorem State.takeLine_keeps {L : List Part} {s0 s : State} (n : Fin 8) (instr : Bool) (a : Nat)
    (hL0 : [.mem, .ecc, .cpu, .out, .fresh] ⊆ L) (h0 : SameBut L s0 s) :
    SameBut L s0 (s.takeLine n instr a) := by
  unfold State.takeLine
  exact (State.setCaches_keeps _ (Part.sub (by decide) hL0) (State.makeRoom_keeps _ _ (Part.sub (by decide) hL0) h0))

theorem State.dropLines_keeps {L : List Part} {s0 s : State} (n : Fin 8)
    (hL0 : [.cpu] ⊆ L) (h0 : SameBut L s0 s) :
    SameBut L s0 (s.dropLines n) := by
  unfold State.dropLines
  exact (State.setCaches_keeps _ (Part.sub (by decide) hL0) h0)

theorem State.storeLine_keeps {L : List Part} {s0 s : State} (n : Fin 8) (a : Nat)
    (hL0 : [.cpu, .fresh] ⊆ L) (h0 : SameBut L s0 s) :
    SameBut L s0 (s.storeLine n a) := by
  unfold State.storeLine
  exact (State.setCaches_keeps _ (Part.sub (by decide) hL0) (PairKeeps.snd (State.freeLine_keeps (Part.sub (by decide) hL0) (SameBut.ite (State.claimLine_keeps _ _ (Part.sub (by decide) hL0) h0) h0))))

theorem State.lineWritten_keeps {L : List Part} {s0 s : State} (n : Fin 8) (a : Nat) (data : List Byte)
    (hL0 : [.cpu] ⊆ L) (h0 : SameBut L s0 s) :
    SameBut L s0 (s.lineWritten n a data) := by
  unfold State.lineWritten
  exact (State.setCaches_keeps _ (Part.sub (by decide) hL0) (SameBut.ite (State.claimLine_keeps _ _ (Part.sub (by decide) hL0) h0) h0))

end Sys2Proof.Machine
end

