-- ==== Sys2Proof/Laws/Buffers.lean ====
section
/-! SUPPORT. Which parts of the state each operation of Machine/Buffers.lean can change. -/

namespace Sys2Proof.Machine

open Sys2Proof

set_option linter.unusedTactic false
set_option linter.unreachableTactic false
set_option linter.unusedVariables false

theorem State.setBuf_keeps {L : List Part} {s0 s : State} (key : Nat) (b : Buf)
    (hL0 : [.bufs] ⊆ L) (h0 : SameBut L s0 s) :
    SameBut L s0 (s.setBuf key b) := by
  unfold State.setBuf
  exact (SameBut.upd_bufs (Part.sub (by decide) hL0) h0)

theorem State.handOut_keeps {L : List Part} {s0 s : State} (keys : List Nat) (holder : Nat)
    (hL0 : [.regs, .bufs, .fresh] ⊆ L) (h0 : SameBut L s0 s) :
    PairKeeps L s0 (s.handOut keys holder) := by
  unfold State.handOut
  exact (PairKeeps.mk (State.bump64_keeps _ _ _ (Part.sub (by decide) hL0) (State.setBuf_keeps _ _ (Part.sub (by decide) hL0) (PairKeeps.snd (State.freeVal_keeps (Part.sub (by decide) hL0) h0)))))

theorem State.allocPool_keeps {L : List Part} {s0 s : State} (ext : Bool) (k : Nat) (holder : Nat)
    (hL0 : [.regs, .bufs, .bufRot, .fresh] ⊆ L) (h0 : SameBut L s0 s) :
    PairKeeps L s0 (s.allocPool ext k holder) := by
  unfold State.allocPool
  exact (PairKeeps.ite (by
    split
    · exact (PairKeeps.mk h0)
    · exact (PairKeeps.mk (State.bump_keeps _ (Part.sub (by decide) hL0) (SameBut.upd_bufRot (Part.sub (by decide) hL0) (PairKeeps.snd (State.handOut_keeps _ _ (Part.sub (by decide) hL0) h0)))))) (PairKeeps.ite (PairKeeps.mk h0) (PairKeeps.mk (PairKeeps.snd (State.handOut_keeps _ _ (Part.sub (by decide) hL0) h0)))))

theorem State.walk_keeps {L : List Part} {s0 s : State} (ext : Bool) (len : Nat) (ceil : Nat) (holder : Nat)
    (hL0 : [.regs, .bufs, .bufRot, .fresh] ⊆ L) (h0 : SameBut L s0 s) :
    PairKeeps L s0 (s.walk ext len ceil holder) := by
  unfold State.walk
  try dsimp only
  split
  · exact (PairKeeps.mk h0)
  · exact (PairKeeps.mk (SameBut.ite (PairKeeps.snd (State.allocPool_keeps _ _ _ (Part.sub (by decide) hL0) h0)) (State.bump_keeps _ (Part.sub (by decide) hL0) (PairKeeps.snd (State.allocPool_keeps _ _ _ (Part.sub (by decide) hL0) h0)))))

theorem State.setQueue_keeps {L : List Part} {s0 s : State} (q : Nat) (ps : List Pkt)
    (hL0 : [.queues] ⊆ L) (h0 : SameBut L s0 s) :
    SameBut L s0 (s.setQueue q ps) := by
  unfold State.setQueue
  exact (SameBut.upd_queues (Part.sub (by decide) hL0) h0)

theorem State.allocate_keeps {L : List Part} {s0 s : State} (q : Nat) (len : Nat)
    (hL0 : [.regs, .bufs, .bufRot, .fresh] ⊆ L) (h0 : SameBut L s0 s) :
    PairKeeps L s0 (s.allocate q len) := by
  unfold State.allocate
  exact (PairKeeps.ite (PairKeeps.mk h0) (PairKeeps.ite (by
    split
    · rename_i heq; have h1 := PairKeeps.pair heq (State.walk_keeps _ _ _ _ (Part.sub (by decide) hL0) h0)
      exact (PairKeeps.mk h1)
    · rename_i heq; have h2 := PairKeeps.pair heq (State.walk_keeps _ _ _ _ (Part.sub (by decide) hL0) h0)
      exact (PairKeeps.ite (State.walk_keeps _ _ _ _ (Part.sub (by decide) hL0) h2) (PairKeeps.mk h2))) (PairKeeps.ite (State.walk_keeps _ _ _ _ (Part.sub (by decide) hL0) h0) (PairKeeps.mk h0))))

theorem State.stopBackPressure_keeps {L : List Part} {s0 s : State} (rx : Option (Nat × Nat × Nat))
    (hL0 : [.lports] ⊆ L) (h0 : SameBut L s0 s) :
    SameBut L s0 (s.stopBackPressure rx) := by
  unfold State.stopBackPressure
  split
  · exact (SameBut.ite (SameBut.ite (SameBut.upd_lports (Part.sub (by decide) hL0) h0) h0) h0)
  · exact h0

theorem State.doFree_keeps {L : List Part} {s0 s : State} (key : Nat)
    (hL0 : [.regs, .seam, .bufs, .lports, .evt, .tsk, .hif, .out] ⊆ L) (h0 : SameBut L s0 s) :
    SameBut L s0 (s.doFree key) := by
  unfold State.doFree
  exact (SameBut.ite (State.fire_keeps _ _ (Part.sub (by decide) hL0) (SameBut.ite (State.bump_keeps _ (Part.sub (by decide) hL0) (State.stopBackPressure_keeps _ (Part.sub (by decide) hL0) (State.setBuf_keeps _ _ (Part.sub (by decide) hL0) h0))) (State.stopBackPressure_keeps _ (Part.sub (by decide) hL0) (State.setBuf_keeps _ _ (Part.sub (by decide) hL0) h0)))) (SameBut.ite (State.bump_keeps _ (Part.sub (by decide) hL0) (State.stopBackPressure_keeps _ (Part.sub (by decide) hL0) (State.setBuf_keeps _ _ (Part.sub (by decide) hL0) h0))) (State.stopBackPressure_keeps _ (Part.sub (by decide) hL0) (State.setBuf_keeps _ _ (Part.sub (by decide) hL0) h0))))

theorem State.bufRefuse_keeps {L : List Part} {s0 s : State} (hdl : Nat) (cause : Nat) (holder : Nat) (op : Nat)
    (hL0 : [.regs, .seam, .evt, .log, .tsk, .hif, .out] ⊆ L) (h0 : SameBut L s0 s) :
    SameBut L s0 (s.bufRefuse hdl cause holder op) := by
  unfold State.bufRefuse
  exact (State.fire_keeps _ _ (Part.sub (by decide) hL0) (State.makeRecord_keeps _ _ _ (Part.sub (by decide) hL0) (State.wr_keeps _ _ (Part.sub (by decide) hL0) (State.wr_keeps _ _ (Part.sub (by decide) hL0) (State.bump_keeps _ (Part.sub (by decide) hL0) h0)))))

theorem State.bufShare_keeps {L : List Part} {s0 s : State} (hdl : Nat) (add : Nat) (owner : Nat) (holder : Nat) (op : Nat)
    (hL0 : [.regs, .seam, .bufs, .evt, .log, .tsk, .hif, .out] ⊆ L) (h0 : SameBut L s0 s) :
    PairKeeps L s0 (s.bufShare hdl add owner holder op) := by
  unfold State.bufShare
  exact (PairKeeps.ite (PairKeeps.mk (State.bufRefuse_keeps _ _ _ _ (Part.sub (by decide) hL0) h0)) (PairKeeps.ite (PairKeeps.mk (State.bufRefuse_keeps _ _ _ _ (Part.sub (by decide) hL0) h0)) (PairKeeps.mk (State.bump_keeps _ (Part.sub (by decide) hL0) (State.setBuf_keeps _ _ (Part.sub (by decide) hL0) h0)))))

theorem State.bufRelease_keeps {L : List Part} {s0 s : State} (hdl : Nat) (holder : Nat) (op : Nat)
    (hL0 : [.regs, .seam, .bufs, .lports, .evt, .log, .tsk, .hif, .out] ⊆ L) (h0 : SameBut L s0 s) :
    PairKeeps L s0 (s.bufRelease hdl holder op) := by
  unfold State.bufRelease
  exact (PairKeeps.ite (PairKeeps.mk (State.bufRefuse_keeps _ _ _ _ (Part.sub (by decide) hL0) h0)) (PairKeeps.ite (PairKeeps.mk (State.bufRefuse_keeps _ _ _ _ (Part.sub (by decide) hL0) h0)) (PairKeeps.ite (PairKeeps.mk (State.bufRefuse_keeps _ _ _ _ (Part.sub (by decide) hL0) h0)) (PairKeeps.ite (PairKeeps.mk (State.doFree_keeps _ (Part.sub (by decide) hL0) h0)) (PairKeeps.mk (State.setBuf_keeps _ _ (Part.sub (by decide) hL0) h0))))))

theorem State.bufFree_keeps {L : List Part} {s0 s : State} (hdl : Nat) (holder : Nat) (op : Nat)
    (hL0 : [.regs, .seam, .bufs, .lports, .evt, .log, .tsk, .hif, .out] ⊆ L) (h0 : SameBut L s0 s) :
    PairKeeps L s0 (s.bufFree hdl holder op) := by
  unfold State.bufFree
  exact (PairKeeps.ite (PairKeeps.mk (State.bufRefuse_keeps _ _ _ _ (Part.sub (by decide) hL0) h0)) (PairKeeps.ite (PairKeeps.mk (State.bufRefuse_keeps _ _ _ _ (Part.sub (by decide) hL0) h0)) (PairKeeps.ite (PairKeeps.mk (State.doFree_keeps _ (Part.sub (by decide) hL0) h0)) (PairKeeps.ite (PairKeeps.mk (State.bufRefuse_keeps _ _ _ _ (Part.sub (by decide) hL0) h0)) (PairKeeps.mk (State.setBuf_keeps _ _ (Part.sub (by decide) hL0) h0))))))

theorem State.letGo_keeps {L : List Part} {s0 s : State} (hdl : Nat) (holder : Nat)
    (hL0 : [.regs, .seam, .bufs, .lports, .evt, .log, .tsk, .hif, .out] ⊆ L) (h0 : SameBut L s0 s) :
    SameBut L s0 (s.letGo hdl holder) := by
  unfold State.letGo
  exact (SameBut.ite (PairKeeps.snd (State.bufFree_keeps _ _ _ (Part.sub (by decide) hL0) h0)) (PairKeeps.snd (State.bufRelease_keeps _ _ _ (Part.sub (by decide) hL0) h0)))

theorem State.showBuf_keeps {L : List Part} {s0 s : State} (key : Nat) (result : Nat)
    (hL0 : [.regs] ⊆ L) (h0 : SameBut L s0 s) :
    SameBut L s0 (s.showBuf key result) := by
  unfold State.showBuf
  exact (State.wr_keeps _ _ (Part.sub (by decide) hL0) h0)

theorem State.opBufCmd_keeps {L : List Part} {s0 s : State} (v : Word)
    (hL0 : [.regs, .seam, .bufs, .bufRot, .lports, .evt, .log, .tsk, .hif, .out, .fresh] ⊆ L) (h0 : SameBut L s0 s) :
    SameBut L s0 (s.opBufCmd v) := by
  unfold State.opBufCmd
  exact (SameBut.ite (State.showBuf_keeps _ _ (Part.sub (by decide) hL0) (PairKeeps.snd (State.bufShare_keeps _ _ _ _ _ (Part.sub (by decide) hL0) h0))) (SameBut.ite (State.showBuf_keeps _ _ (Part.sub (by decide) hL0) (PairKeeps.snd (State.bufRelease_keeps _ _ _ (Part.sub (by decide) hL0) h0))) (SameBut.ite (State.showBuf_keeps _ _ (Part.sub (by decide) hL0) (PairKeeps.snd (State.bufFree_keeps _ _ _ (Part.sub (by decide) hL0) h0))) (SameBut.ite (State.showBuf_keeps _ _ (Part.sub (by decide) hL0) h0) (SameBut.ite (by
    split
    · rename_i heq; have h1 := PairKeeps.pair heq (PairKeeps.ite (State.allocPool_keeps _ _ _ (Part.sub (by decide) hL0) h0) (PairKeeps.mk h0))
      exact (State.showBuf_keeps _ _ (Part.sub (by decide) hL0) (State.wr_keeps _ _ (Part.sub (by decide) hL0) (State.wr_keeps _ _ (Part.sub (by decide) hL0) h1)))
    · rename_i heq; have h2 := PairKeeps.pair heq (PairKeeps.ite (State.allocPool_keeps _ _ _ (Part.sub (by decide) hL0) h0) (PairKeeps.mk h0))
      exact (State.showBuf_keeps _ _ (Part.sub (by decide) hL0) h2)) h0)))))

theorem State.opBpmCtl_keeps {L : List Part} {s0 s : State} (r : Req) (v : Word)
    (hL0 : [.regs, .seam, .evt, .tsk, .hif, .resp, .out] ⊆ L) (h0 : SameBut L s0 s) :
    SameBut L s0 (s.opBpmCtl r v) := by
  unfold State.opBpmCtl
  exact (SameBut.ite (State.refuse_keeps _ _ (Part.sub (by decide) hL0) h0) (State.store_keeps _ _ (Part.sub (by decide) hL0) h0))

theorem State.opOnpCnt_keeps {L : List Part} {s0 s : State} (r : Req) (k : Nat) (v : Word)
    (hL0 : [.regs, .seam, .evt, .tsk, .hif, .resp, .out] ⊆ L) (h0 : SameBut L s0 s) :
    SameBut L s0 (s.opOnpCnt r k v) := by
  unfold State.opOnpCnt
  exact (SameBut.ite (State.refuse_keeps _ _ (Part.sub (by decide) hL0) h0) (State.store_keeps _ _ (Part.sub (by decide) hL0) h0))

theorem State.opExtReg_keeps {L : List Part} {s0 s : State} (r : Req) (k : Nat) (m : Nat) (v : Word)
    (hL0 : [.regs, .seam, .evt, .tsk, .hif, .resp, .out] ⊆ L) (h0 : SameBut L s0 s) :
    SameBut L s0 (s.opExtReg r k m v) := by
  unfold State.opExtReg
  exact (SameBut.ite (State.refuse_keeps _ _ (Part.sub (by decide) hL0) h0) (SameBut.ite (State.refuse_keeps _ _ (Part.sub (by decide) hL0) h0) (State.wr_keeps _ _ (Part.sub (by decide) hL0) h0)))

theorem State.viewQmap_keeps {L : List Part} {s0 s : State}
    (hL0 : [.regs] ⊆ L) (h0 : SameBut L s0 s) :
    SameBut L s0 (s.viewQmap) := by
  unfold State.viewQmap
  exact (State.wr_keeps _ _ (Part.sub (by decide) hL0) h0)

theorem State.opQmapData_keeps {L : List Part} {s0 s : State} (r : Req) (v : Word)
    (hL0 : [.regs, .seam, .qmap, .evt, .tsk, .hif, .resp, .out] ⊆ L) (h0 : SameBut L s0 s) :
    SameBut L s0 (s.opQmapData r v) := by
  unfold State.opQmapData
  exact (SameBut.ite (State.refuse_keeps _ _ (Part.sub (by decide) hL0) h0) (State.viewQmap_keeps (Part.sub (by decide) hL0) (SameBut.ite (State.setFld_keeps _ _ (Part.sub (by decide) hL0) (SameBut.upd_qmap (Part.sub (by decide) hL0) h0)) (SameBut.upd_qmap (Part.sub (by decide) hL0) h0))))

theorem State.opQmapCmd_keeps {L : List Part} {s0 s : State} (v : Word)
    (hL0 : [.regs] ⊆ L) (h0 : SameBut L s0 s) :
    SameBut L s0 (s.opQmapCmd v) := by
  unfold State.opQmapCmd
  exact (SameBut.ite (State.setFld_keeps _ _ (Part.sub (by decide) hL0) h0) h0)

theorem State.copyQmap_keeps {L : List Part} {s0 s : State}
    (hL0 : [.regs, .qmap] ⊆ L) (h0 : SameBut L s0 s) :
    SameBut L s0 (s.copyQmap) := by
  unfold State.copyQmap
  exact (SameBut.ite (State.viewQmap_keeps (Part.sub (by decide) hL0) (State.setFld_keeps _ _ (Part.sub (by decide) hL0) (SameBut.upd_qmap (Part.sub (by decide) hL0) h0))) h0)

theorem State.leavePools_keeps {L : List Part} {s0 s : State} (bank : Bool) (n : Nat)
    (hL0 : [.regs, .ecc] ⊆ L) (h0 : SameBut L s0 s) :
    SameBut L s0 (s.leavePools bank n) := by
  unfold State.leavePools
  exact (SameBut.ite (SameBut.upd_ecc (Part.sub (by decide) hL0) (State.bumpBy_keeps _ _ (Part.sub (by decide) hL0) h0)) (SameBut.upd_ecc (Part.sub (by decide) hL0) (State.bumpBy_keeps _ _ (Part.sub (by decide) hL0) h0)))

theorem State.killBuffers_keeps {L : List Part} {s0 s : State} (m : Nat)
    (hL0 : [.regs, .seam, .bufs, .evt, .tsk, .hif, .out] ⊆ L) (h0 : SameBut L s0 s) :
    SameBut L s0 (s.killBuffers m) := by
  unfold State.killBuffers
  exact (State.fire_keeps _ _ (Part.sub (by decide) hL0) (SameBut.upd_bufs (Part.sub (by decide) hL0) h0))

theorem State.reviveBuffers_keeps {L : List Part} {s0 s : State} (m : Nat)
    (hL0 : [.bufs] ⊆ L) (h0 : SameBut L s0 s) :
    SameBut L s0 (s.reviveBuffers m) := by
  unfold State.reviveBuffers
  exact (SameBut.foldl (fun _ _ h1 => (SameBut.ite (State.setBuf_keeps _ _ (Part.sub (by decide) hL0) h1) h1)) h0)

theorem execBufShare_keeps (r : Req) (v : Word) (s : State) :
    ResKeeps [.regs, .seam, .bufs, .bufRot, .lports, .evt, .log, .tsk, .hif, .resp, .out, .fresh] s (execBufShare r v s) := by
  have hL0 := List.Subset.refl ([.regs, .seam, .bufs, .bufRot, .lports, .evt, .log, .tsk, .hif, .resp, .out, .fresh] : List Part)
  have h0 := SameBut.refl [.regs, .seam, .bufs, .bufRot, .lports, .evt, .log, .tsk, .hif, .resp, .out, .fresh] s
  unfold execBufShare
  exact (ResKeeps.next (State.access_keeps _ _ _ _ (Part.sub (by decide) hL0) (fun _ h1 => (State.opBufCmd_keeps _ (Part.sub (by decide) hL0) h1)) h0))

theorem execBufRelease_keeps (r : Req) (v : Word) (s : State) :
    ResKeeps [.regs, .seam, .bufs, .bufRot, .lports, .evt, .log, .tsk, .hif, .resp, .out, .fresh] s (execBufRelease r v s) := by
  have hL0 := List.Subset.refl ([.regs, .seam, .bufs, .bufRot, .lports, .evt, .log, .tsk, .hif, .resp, .out, .fresh] : List Part)
  have h0 := SameBut.refl [.regs, .seam, .bufs, .bufRot, .lports, .evt, .log, .tsk, .hif, .resp, .out, .fresh] s
  unfold execBufRelease
  exact (ResKeeps.next (State.access_keeps _ _ _ _ (Part.sub (by decide) hL0) (fun _ h1 => (State.opBufCmd_keeps _ (Part.sub (by decide) hL0) h1)) h0))

theorem execBufFree_keeps (r : Req) (v : Word) (s : State) :
    ResKeeps [.regs, .seam, .bufs, .bufRot, .lports, .evt, .log, .tsk, .hif, .resp, .out, .fresh] s (execBufFree r v s) := by
  have hL0 := List.Subset.refl ([.regs, .seam, .bufs, .bufRot, .lports, .evt, .log, .tsk, .hif, .resp, .out, .fresh] : List Part)
  have h0 := SameBut.refl [.regs, .seam, .bufs, .bufRot, .lports, .evt, .log, .tsk, .hif, .resp, .out, .fresh] s
  unfold execBufFree
  exact (ResKeeps.next (State.access_keeps _ _ _ _ (Part.sub (by decide) hL0) (fun _ h1 => (State.opBufCmd_keeps _ (Part.sub (by decide) hL0) h1)) h0))

theorem execBufQuery_keeps (r : Req) (v : Word) (s : State) :
    ResKeeps [.regs, .seam, .bufs, .bufRot, .lports, .evt, .log, .tsk, .hif, .resp, .out, .fresh] s (execBufQuery r v s) := by
  have hL0 := List.Subset.refl ([.regs, .seam, .bufs, .bufRot, .lports, .evt, .log, .tsk, .hif, .resp, .out, .fresh] : List Part)
  have h0 := SameBut.refl [.regs, .seam, .bufs, .bufRot, .lports, .evt, .log, .tsk, .hif, .resp, .out, .fresh] s
  unfold execBufQuery
  exact (ResKeeps.next (State.access_keeps _ _ _ _ (Part.sub (by decide) hL0) (fun _ h1 => (State.opBufCmd_keeps _ (Part.sub (by decide) hL0) h1)) h0))

theorem execBufAlloc_keeps (r : Req) (v : Word) (s : State) :
    ResKeeps [.regs, .seam, .bufs, .bufRot, .lports, .evt, .log, .tsk, .hif, .resp, .out, .fresh] s (execBufAlloc r v s) := by
  have hL0 := List.Subset.refl ([.regs, .seam, .bufs, .bufRot, .lports, .evt, .log, .tsk, .hif, .resp, .out, .fresh] : List Part)
  have h0 := SameBut.refl [.regs, .seam, .bufs, .bufRot, .lports, .evt, .log, .tsk, .hif, .resp, .out, .fresh] s
  unfold execBufAlloc
  exact (ResKeeps.next (State.access_keeps _ _ _ _ (Part.sub (by decide) hL0) (fun _ h1 => (State.opBufCmd_keeps _ (Part.sub (by decide) hL0) h1)) h0))

theorem execBpmEnable_keeps (r : Req) (v : Word) (s : State) :
    ResKeeps [.regs, .seam, .evt, .tsk, .hif, .resp, .out] s (execBpmEnable r v s) := by
  have hL0 := List.Subset.refl ([.regs, .seam, .evt, .tsk, .hif, .resp, .out] : List Part)
  have h0 := SameBut.refl [.regs, .seam, .evt, .tsk, .hif, .resp, .out] s
  unfold execBpmEnable
  exact (ResKeeps.next (State.access_keeps _ _ _ _ (Part.sub (by decide) hL0) (fun _ h1 => (State.opBpmCtl_keeps _ _ (Part.sub (by decide) hL0) h1)) h0))

theorem execOnpCntWrite_keeps (r : Req) (k : Fin 8) (v : Word) (s : State) :
    ResKeeps [.regs, .seam, .evt, .tsk, .hif, .resp, .out] s (execOnpCntWrite r k v s) := by
  have hL0 := List.Subset.refl ([.regs, .seam, .evt, .tsk, .hif, .resp, .out] : List Part)
  have h0 := SameBut.refl [.regs, .seam, .evt, .tsk, .hif, .resp, .out] s
  unfold execOnpCntWrite
  exact (ResKeeps.next (State.access_keeps _ _ _ _ (Part.sub (by decide) hL0) (fun _ h1 => (State.opOnpCnt_keeps _ _ _ (Part.sub (by decide) hL0) h1)) h0))

theorem execExtRegWrite_keeps (r : Req) (k : Fin 8) (m : Chan) (v : Word) (s : State) :
    ResKeeps [.regs, .seam, .evt, .tsk, .hif, .resp, .out] s (execExtRegWrite r k m v s) := by
  have hL0 := List.Subset.refl ([.regs, .seam, .evt, .tsk, .hif, .resp, .out] : List Part)
  have h0 := SameBut.refl [.regs, .seam, .evt, .tsk, .hif, .resp, .out] s
  unfold execExtRegWrite
  exact (ResKeeps.next (State.access_keeps _ _ _ _ (Part.sub (by decide) hL0) (fun _ h1 => (State.opExtReg_keeps _ _ _ _ (Part.sub (by decide) hL0) h1)) h0))

theorem execQmapDataWrite_keeps (r : Req) (v : Word) (s : State) :
    ResKeeps [.regs, .seam, .qmap, .evt, .tsk, .hif, .resp, .out] s (execQmapDataWrite r v s) := by
  have hL0 := List.Subset.refl ([.regs, .seam, .qmap, .evt, .tsk, .hif, .resp, .out] : List Part)
  have h0 := SameBut.refl [.regs, .seam, .qmap, .evt, .tsk, .hif, .resp, .out] s
  unfold execQmapDataWrite
  exact (ResKeeps.next (State.access_keeps _ _ _ _ (Part.sub (by decide) hL0) (fun _ h1 => (State.opQmapData_keeps _ _ (Part.sub (by decide) hL0) h1)) h0))

theorem execQmapCopy_keeps (r : Req) (v : Word) (s : State) :
    ResKeeps [.regs, .seam, .evt, .tsk, .hif, .resp, .out] s (execQmapCopy r v s) := by
  have hL0 := List.Subset.refl ([.regs, .seam, .evt, .tsk, .hif, .resp, .out] : List Part)
  have h0 := SameBut.refl [.regs, .seam, .evt, .tsk, .hif, .resp, .out] s
  unfold execQmapCopy
  exact (ResKeeps.next (State.access_keeps _ _ _ _ (Part.sub (by decide) hL0) (fun _ h1 => (State.opQmapCmd_keeps _ (Part.sub (by decide) hL0) h1)) h0))

end Sys2Proof.Machine
end

