-- ==== Sys2Proof/Laws/Sched.lean ====
section
/-! SUPPORT. Which parts of the state each operation of Machine/Sched.lean can change. -/

namespace Sys2Proof.Machine

open Sys2Proof

set_option linter.unusedTactic false
set_option linter.unreachableTactic false
set_option linter.unusedVariables false

theorem State.dropHeld_keeps {L : List Part} {s0 s : State} (p : Pkt)
    (hL0 : [.regs, .seam, .bufs, .lports, .evt, .log, .tsk, .hif, .out] ⊆ L) (h0 : SameBut L s0 s) :
    SameBut L s0 (s.dropHeld p) := by
  unfold State.dropHeld
  split
  · exact (State.letGo_keeps _ _ (Part.sub (by decide) hL0) h0)
  · exact h0

theorem State.enqueue_keeps {L : List Part} {s0 s : State} (p : Pkt)
    (hL0 : [.regs, .seam, .bufs, .queues, .lports, .evt, .log, .tsk, .hif, .out] ⊆ L) (h0 : SameBut L s0 s) :
    SameBut L s0 (s.enqueue p) := by
  unfold State.enqueue
  exact (SameBut.ite (State.dropHeld_keeps _ (Part.sub (by decide) hL0) (State.fire_keeps _ _ (Part.sub (by decide) hL0) (State.bump_keeps _ (Part.sub (by decide) hL0) (State.bump_keeps _ (Part.sub (by decide) hL0) h0)))) (SameBut.ite (State.dropHeld_keeps _ (Part.sub (by decide) hL0) (State.fire_keeps _ _ (Part.sub (by decide) hL0) (State.bump_keeps _ (Part.sub (by decide) hL0) (State.bump_keeps _ (Part.sub (by decide) hL0) h0)))) (SameBut.ite (State.setFld_keeps _ _ (Part.sub (by decide) hL0) (State.bump64_keeps _ _ _ (Part.sub (by decide) hL0) (State.setQueue_keeps _ _ (Part.sub (by decide) hL0) h0))) (State.bump64_keeps _ _ _ (Part.sub (by decide) hL0) (State.setQueue_keeps _ _ (Part.sub (by decide) hL0) h0)))))

theorem State.markSelected_keeps {L : List Part} {s0 s : State} (q : Nat) (id : Nat)
    (hL0 : [.queues] ⊆ L) (h0 : SameBut L s0 s) :
    SameBut L s0 (s.markSelected q id) := by
  unfold State.markSelected
  exact (State.setQueue_keeps _ _ (Part.sub (by decide) hL0) h0)

theorem State.leaveQueue_keeps {L : List Part} {s0 s : State} (p : Pkt)
    (hL0 : [.regs, .seam, .bufs, .queues, .lports, .evt, .log, .tsk, .hif, .out] ⊆ L) (h0 : SameBut L s0 s) :
    SameBut L s0 (s.leaveQueue p) := by
  unfold State.leaveQueue
  exact (State.dropHeld_keeps _ (Part.sub (by decide) hL0) (State.setQueue_keeps _ _ (Part.sub (by decide) hL0) h0))

theorem State.sentFrom_keeps {L : List Part} {s0 s : State} (p : Pkt)
    (hL0 : [.regs, .seam, .bufs, .queues, .lports, .evt, .log, .tsk, .hif, .out] ⊆ L) (h0 : SameBut L s0 s) :
    SameBut L s0 (s.sentFrom p) := by
  unfold State.sentFrom
  exact (State.bump64_keeps _ _ _ (Part.sub (by decide) hL0) (State.leaveQueue_keeps _ (Part.sub (by decide) hL0) h0))

theorem State.dropDead_keeps {L : List Part} {s0 s : State} (q n : Nat)
    (hL0 : [.regs, .seam, .bufs, .queues, .lports, .evt, .log, .tsk, .hif, .out] ⊆ L) (h0 : SameBut L s0 s) : SameBut L s0 (s.dropDead q n) := by
  induction n generalizing s with
  | zero => exact h0
  | succ n ih =>
    unfold State.dropDead
    split
    · split
      · split
        · exact ih (State.bump_keeps _ (Part.sub (by decide) hL0) (State.leaveQueue_keeps _ (Part.sub (by decide) hL0) h0))
        · exact h0
      · exact h0
    · exact h0

theorem State.setTurn_keeps {L : List Part} {s0 s : State} (sch : Nat) (pri : Nat) (t : Turn)
    (hL0 : [.turns] ⊆ L) (h0 : SameBut L s0 s) :
    SameBut L s0 (s.setTurn sch pri t) := by
  unfold State.setTurn
  exact (SameBut.upd_turns (Part.sub (by decide) hL0) h0)

theorem State.passTurns_keeps {L : List Part} {s0 s : State} (sch : Nat) (el : List Nat)
    (hL0 : [.turns] ⊆ L) (h0 : SameBut L s0 s) :
    SameBut L s0 (s.passTurns sch el) := by
  unfold State.passTurns
  exact (SameBut.foldl (fun _ _ h1 => (SameBut.ite (State.setTurn_keeps _ _ _ (Part.sub (by decide) hL0) h1) h1)) h0)

theorem State.choose_keeps {L : List Part} {s0 s : State} (sch : Nat) (el : List Nat)
    (hL0 : [.turns] ⊆ L) (h0 : SameBut L s0 s) :
    PairKeeps L s0 (s.choose sch el) := by
  unfold State.choose
  try dsimp only
  split
  · exact (PairKeeps.mk (State.passTurns_keeps _ _ (Part.sub (by decide) hL0) h0))
  · exact (PairKeeps.ite (PairKeeps.mk (State.setTurn_keeps _ _ _ (Part.sub (by decide) hL0) (State.passTurns_keeps _ _ (Part.sub (by decide) hL0) h0))) (by
      split
      · exact (PairKeeps.mk (State.setTurn_keeps _ _ _ (Part.sub (by decide) hL0) (State.passTurns_keeps _ _ (Part.sub (by decide) hL0) h0)))
      · exact (PairKeeps.mk (State.passTurns_keeps _ _ (Part.sub (by decide) hL0) h0))))

theorem State.noteEligible_keeps {L : List Part} {s0 s : State} (qs : List Nat) (el : List Nat)
    (hL0 : [.elig] ⊆ L) (h0 : SameBut L s0 s) :
    SameBut L s0 (s.noteEligible qs el) := by
  unfold State.noteEligible
  exact (SameBut.upd_elig (Part.sub (by decide) hL0) h0)

theorem State.consult_keeps {L : List Part} {s0 s : State} (n : Nat)
    (hL0 : [.shapers] ⊆ L) (h0 : SameBut L s0 s) :
    SameBut L s0 (s.consult n) := by
  unfold State.consult
  exact (SameBut.ite (SameBut.upd_shapers (Part.sub (by decide) hL0) h0) h0)

theorem State.takeCredit_keeps {L : List Part} {s0 s : State} (n : Nat)
    (hL0 : [.shapers] ⊆ L) (h0 : SameBut L s0 s) :
    SameBut L s0 (s.takeCredit n) := by
  unfold State.takeCredit
  exact (SameBut.ite (SameBut.upd_shapers (Part.sub (by decide) hL0) h0) h0)

theorem State.setShaper_keeps {L : List Part} {s0 s : State} (n : Nat)
    (hL0 : [.regs, .shapers] ⊆ L) (h0 : SameBut L s0 s) :
    SameBut L s0 (s.setShaper n) := by
  unfold State.setShaper
  exact (SameBut.ite (State.bump_keeps _ (Part.sub (by decide) hL0) (SameBut.upd_shapers (Part.sub (by decide) hL0) h0)) h0)

theorem State.opShpCtl_keeps {L : List Part} {s0 s : State} (v : Word)
    (hL0 : [.regs, .shapers] ⊆ L) (h0 : SameBut L s0 s) :
    SameBut L s0 (s.opShpCtl v) := by
  unfold State.opShpCtl
  exact (SameBut.ite (SameBut.upd_shapers (Part.sub (by decide) hL0) (State.store_keeps _ _ (Part.sub (by decide) hL0) h0)) (SameBut.ite (State.store_keeps _ _ (Part.sub (by decide) hL0) h0) (SameBut.foldl (fun _ _ h1 => (State.setShaper_keeps _ (Part.sub (by decide) hL0) h1)) (State.store_keeps _ _ (Part.sub (by decide) hL0) h0))))

theorem State.policer_keeps {L : List Part} {s0 s : State} (pipe : Fin 4) (n : Nat)
    (hL0 : [.regs, .policers] ⊆ L) (h0 : SameBut L s0 s) :
    PairKeeps L s0 (s.policer pipe n) := by
  unfold State.policer
  exact (PairKeeps.ite (PairKeeps.mk (State.bump64_keeps _ _ _ (Part.sub (by decide) hL0) h0)) (PairKeeps.ite (PairKeeps.mk (State.bump64_keeps _ _ _ (Part.sub (by decide) hL0) (SameBut.upd_policers (Part.sub (by decide) hL0) h0))) (PairKeeps.mk (State.bump_keeps _ (Part.sub (by decide) hL0) (State.bump_keeps _ (Part.sub (by decide) hL0) (SameBut.upd_policers (Part.sub (by decide) hL0) h0))))))

theorem State.setPolicer_keeps {L : List Part} {s0 s : State} (n : Nat) (cfg : Word)
    (hL0 : [.policers] ⊆ L) (h0 : SameBut L s0 s) :
    SameBut L s0 (s.setPolicer n cfg) := by
  unfold State.setPolicer
  exact (SameBut.upd_policers (Part.sub (by decide) hL0) h0)

theorem State.viewGate_keeps {L : List Part} {s0 s : State} (q : Nat)
    (hL0 : [.regs] ⊆ L) (h0 : SameBut L s0 s) :
    SameBut L s0 (s.viewGate q) := by
  unfold State.viewGate
  exact (State.wr_keeps _ _ (Part.sub (by decide) hL0) (State.wr_keeps _ _ (Part.sub (by decide) hL0) (State.wr_keeps _ _ (Part.sub (by decide) hL0) (State.wr_keeps _ _ (Part.sub (by decide) hL0) (State.wr_keeps _ _ (Part.sub (by decide) hL0) h0)))))

theorem State.viewGates_keeps {L : List Part} {s0 s : State} (l : Nat) (g : GateList)
    (hL0 : [.regs] ⊆ L) (h0 : SameBut L s0 s) :
    SameBut L s0 (s.viewGates l g) := by
  unfold State.viewGates
  exact (SameBut.foldl (fun _ _ h1 => (SameBut.ite (State.viewGate_keeps _ (Part.sub (by decide) hL0) h1) h1)) h0)

theorem State.opGateShadow_keeps {L : List Part} {s0 s : State} (r : Req) (a : Nat) (v : Word)
    (hL0 : [.regs, .seam, .gates, .evt, .tsk, .hif, .resp, .out] ⊆ L) (h0 : SameBut L s0 s) :
    SameBut L s0 (s.opGateShadow r a v) := by
  unfold State.opGateShadow
  exact (SameBut.ite (State.refuse_keeps _ _ (Part.sub (by decide) hL0) h0) (SameBut.ite (State.viewGate_keeps _ (Part.sub (by decide) hL0) (SameBut.ite (State.setFld_keeps _ _ (Part.sub (by decide) hL0) (State.viewGates_keeps _ _ (Part.sub (by decide) hL0) (SameBut.upd_gates (Part.sub (by decide) hL0) h0))) (State.viewGates_keeps _ _ (Part.sub (by decide) hL0) (SameBut.upd_gates (Part.sub (by decide) hL0) h0)))) (SameBut.ite (State.viewGate_keeps _ (Part.sub (by decide) hL0) (State.viewGates_keeps _ _ (Part.sub (by decide) hL0) (SameBut.upd_gates (Part.sub (by decide) hL0) h0))) (SameBut.ite (State.viewGate_keeps _ (Part.sub (by decide) hL0) (State.viewGates_keeps _ _ (Part.sub (by decide) hL0) (SameBut.upd_gates (Part.sub (by decide) hL0) h0))) (State.viewGate_keeps _ (Part.sub (by decide) hL0) (State.viewGates_keeps _ _ (Part.sub (by decide) hL0) (SameBut.upd_gates (Part.sub (by decide) hL0) h0)))))))

theorem State.opGateEntryLo_keeps {L : List Part} {s0 s : State} (r : Req) (v : Word)
    (hL0 : [.regs] ⊆ L) (h0 : SameBut L s0 s) :
    SameBut L s0 (s.opGateEntryLo r v) := by
  unfold State.opGateEntryLo
  exact (State.store_keeps _ _ (Part.sub (by decide) hL0) h0)

theorem State.opGateCmd_keeps {L : List Part} {s0 s : State} (r : Req) (v : Word)
    (hL0 : [.gateBusy] ⊆ L) (h0 : SameBut L s0 s) :
    SameBut L s0 (s.opGateCmd r v) := by
  unfold State.opGateCmd
  exact (SameBut.ite (SameBut.upd_gateBusy (Part.sub (by decide) hL0) h0) h0)

theorem State.copyGate_keeps {L : List Part} {s0 s : State} (l : Fin 48)
    (hL0 : [.regs, .gates, .gateBusy] ⊆ L) (h0 : SameBut L s0 s) :
    SameBut L s0 (s.copyGate l) := by
  unfold State.copyGate
  exact (SameBut.ite (SameBut.foldl (fun _ _ h1 => (SameBut.ite (State.viewGate_keeps _ (Part.sub (by decide) hL0) h1) h1)) (SameBut.upd_gates_gateBusy (Part.sub (by decide) hL0) h0)) h0)

theorem State.opQCmd_keeps {L : List Part} {s0 s : State} (r : Req) (v : Word)
    (hL0 : [.regs] ⊆ L) (h0 : SameBut L s0 s) :
    SameBut L s0 (s.opQCmd r v) := by
  unfold State.opQCmd
  exact (SameBut.ite (SameBut.upd_regs (Part.sub (by decide) hL0) (SameBut.ite (State.wr_keeps _ _ (Part.sub (by decide) hL0) h0) h0)) (SameBut.ite (State.wr_keeps _ _ (Part.sub (by decide) hL0) h0) h0))

theorem execGateShadowWrite_keeps (r : Req) (a : Addr) (v : Word) (s : State) :
    ResKeeps [.regs, .seam, .gates, .evt, .tsk, .hif, .resp, .out] s (execGateShadowWrite r a v s) := by
  have hL0 := List.Subset.refl ([.regs, .seam, .gates, .evt, .tsk, .hif, .resp, .out] : List Part)
  have h0 := SameBut.refl [.regs, .seam, .gates, .evt, .tsk, .hif, .resp, .out] s
  unfold execGateShadowWrite
  exact (ResKeeps.ite (ResKeeps.next (State.access_keeps _ _ _ _ (Part.sub (by decide) hL0) (fun _ h1 => (State.opGateShadow_keeps _ _ _ (Part.sub (by decide) hL0) h1)) h0)) ResKeeps.fault)

theorem execGateCopy_keeps (r : Req) (v : Word) (s : State) :
    ResKeeps [.regs, .seam, .gateBusy, .evt, .tsk, .hif, .resp, .out] s (execGateCopy r v s) := by
  have hL0 := List.Subset.refl ([.regs, .seam, .gateBusy, .evt, .tsk, .hif, .resp, .out] : List Part)
  have h0 := SameBut.refl [.regs, .seam, .gateBusy, .evt, .tsk, .hif, .resp, .out] s
  unfold execGateCopy
  exact (ResKeeps.next (State.access_keeps _ _ _ _ (Part.sub (by decide) hL0) (fun _ h1 => (State.opGateCmd_keeps _ _ (Part.sub (by decide) hL0) h1)) h0))

theorem execHwmClr_keeps (r : Req) (v : Word) (s : State) :
    ResKeeps [.regs, .seam, .evt, .tsk, .hif, .resp, .out] s (execHwmClr r v s) := by
  have hL0 := List.Subset.refl ([.regs, .seam, .evt, .tsk, .hif, .resp, .out] : List Part)
  have h0 := SameBut.refl [.regs, .seam, .evt, .tsk, .hif, .resp, .out] s
  unfold execHwmClr
  exact (ResKeeps.next (State.access_keeps _ _ _ _ (Part.sub (by decide) hL0) (fun _ h1 => (State.opQCmd_keeps _ _ (Part.sub (by decide) hL0) h1)) h0))

theorem execHwmClrAll_keeps (r : Req) (v : Word) (s : State) :
    ResKeeps [.regs, .seam, .evt, .tsk, .hif, .resp, .out] s (execHwmClrAll r v s) := by
  have hL0 := List.Subset.refl ([.regs, .seam, .evt, .tsk, .hif, .resp, .out] : List Part)
  have h0 := SameBut.refl [.regs, .seam, .evt, .tsk, .hif, .resp, .out] s
  unfold execHwmClrAll
  exact (ResKeeps.next (State.access_keeps _ _ _ _ (Part.sub (by decide) hL0) (fun _ h1 => (State.opQCmd_keeps _ _ (Part.sub (by decide) hL0) h1)) h0))

theorem execShpEnable_keeps (r : Req) (v : Word) (s : State) :
    ResKeeps [.regs, .seam, .shapers, .evt, .tsk, .hif, .resp, .out] s (execShpEnable r v s) := by
  have hL0 := List.Subset.refl ([.regs, .seam, .shapers, .evt, .tsk, .hif, .resp, .out] : List Part)
  have h0 := SameBut.refl [.regs, .seam, .shapers, .evt, .tsk, .hif, .resp, .out] s
  unfold execShpEnable
  exact (ResKeeps.next (State.access_keeps _ _ _ _ (Part.sub (by decide) hL0) (fun _ h1 => (State.opShpCtl_keeps _ (Part.sub (by decide) hL0) h1)) h0))

end Sys2Proof.Machine
end

