-- ==== Sys2Proof/Laws/Memory.lean ====
section
/-! SUPPORT. Which parts of the state each operation of Machine/Memory.lean can change. -/

namespace Sys2Proof.Machine

open Sys2Proof

set_option linter.unusedTactic false
set_option linter.unreachableTactic false
set_option linter.unusedVariables false

theorem State.setCh_keeps {L : List Part} {s0 s : State} (m : Chan) (c : MemCh)
    (hL0 : [.memch] ⊆ L) (h0 : SameBut L s0 s) :
    SameBut L s0 (s.setCh m c) := by
  unfold State.setCh
  exact (SameBut.upd_memch (Part.sub (by decide) hL0) h0)

theorem State.memRecord_keeps {L : List Part} {s0 s : State} (page : Nat) (kind : Nat) (src : Nat) (b2 : Byte) (cw : Nat) (addr : Nat) (synd : Nat) (sym : Nat) (arg : Nat)
    (hL0 : [.regs, .seam, .ecc, .evt, .log, .tsk, .hif, .out] ⊆ L) (h0 : SameBut L s0 s) :
    SameBut L s0 (s.memRecord page kind src b2 cw addr synd sym arg) := by
  unfold State.memRecord
  exact (State.makeRecord_keeps _ _ _ (Part.sub (by decide) hL0) (SameBut.upd_ecc (Part.sub (by decide) hL0) h0))

theorem State.placeRecord_keeps {L : List Part} {s0 s : State} (page : Nat) (kind : Nat) (u : MemUser) (pl : MemPlace) (cw : Nat) (synd : Nat) (sym : Nat)
    (hL0 : [.regs, .seam, .ecc, .evt, .log, .tsk, .hif, .out] ⊆ L) (h0 : SameBut L s0 s) :
    SameBut L s0 (s.placeRecord page kind u pl cw synd sym) := by
  unfold State.placeRecord
  exact (State.memRecord_keeps _ _ _ _ _ _ _ _ _ (Part.sub (by decide) hL0) h0)

theorem State.memBusError_keeps {L : List Part} {s0 s : State} (u : MemUser) (pl : MemPlace) (read : Bool)
    (hL0 : [.regs, .seam, .evt, .tsk, .hif, .resp, .out] ⊆ L) (h0 : SameBut L s0 s) :
    SameBut L s0 (s.memBusError u pl read) := by
  unfold State.memBusError
  split
  · exact (State.coreFault_keeps _ _ _ (Part.sub (by decide) hL0) h0)
  · exact (State.busError_keeps _ _ _ _ (Part.sub (by decide) hL0) h0)
  · exact h0

theorem State.trackCe_keeps {L : List Part} {s0 s : State} (u : MemUser) (pl : MemPlace) (cw : Nat) (synd : Nat) (sym : Nat)
    (hL0 : [.regs, .seam, .ecc, .evt, .log, .tsk, .hif, .out] ⊆ L) (h0 : SameBut L s0 s) :
    SameBut L s0 (s.trackCe u pl cw synd sym) := by
  unfold State.trackCe
  split
  · exact h0
  · exact (by
      try dsimp only
      split
      · exact (SameBut.ite (State.fire_keeps _ _ (Part.sub (by decide) hL0) (State.bump_keeps _ (Part.sub (by decide) hL0) (State.placeRecord_keeps _ _ _ _ _ _ _ (Part.sub (by decide) hL0) (SameBut.upd_ecc (Part.sub (by decide) hL0) h0)))) (SameBut.upd_ecc (Part.sub (by decide) hL0) h0))
      · exact (SameBut.upd_ecc (Part.sub (by decide) hL0) h0))

theorem State.memCe_keeps {L : List Part} {s0 s : State} (u : MemUser) (pl : MemPlace) (cw : Nat) (synd : Nat) (sym : Nat)
    (hL0 : [.regs, .seam, .ecc, .evt, .log, .tsk, .hif, .out] ⊆ L) (h0 : SameBut L s0 s) :
    SameBut L s0 (s.memCe u pl cw synd sym) := by
  unfold State.memCe
  exact (State.trackCe_keeps _ _ _ _ _ (Part.sub (by decide) hL0) (by
    split
    · exact (State.dramWrite_keeps _ _ (Part.sub (by decide) hL0) (State.bump_keeps _ (Part.sub (by decide) hL0) (State.bump_keeps _ (Part.sub (by decide) hL0) h0)))
    · exact (State.bump_keeps _ (Part.sub (by decide) hL0) h0)))

theorem State.memUe_keeps {L : List Part} {s0 s : State} (u : MemUser) (pl : MemPlace) (cw : Nat) (synd : Nat)
    (hL0 : [.regs, .seam, .ecc, .evt, .log, .tsk, .hif, .out] ⊆ L) (h0 : SameBut L s0 s) :
    SameBut L s0 (s.memUe u pl cw synd) := by
  unfold State.memUe
  try dsimp only
  split
  · exact (State.fire_keeps _ _ (Part.sub (by decide) hL0) (SameBut.ite (by
      split
      · exact (State.bump_keeps _ (Part.sub (by decide) hL0) h0)
      · exact (State.bump_keeps _ (Part.sub (by decide) hL0) h0)) (SameBut.upd_ecc (Part.sub (by decide) hL0) (State.placeRecord_keeps _ _ _ _ _ _ _ (Part.sub (by decide) hL0) (by
      split
      · exact (State.bump_keeps _ (Part.sub (by decide) hL0) h0)
      · exact (State.bump_keeps _ (Part.sub (by decide) hL0) h0))))))
  · exact (State.fire_keeps _ _ (Part.sub (by decide) hL0) (SameBut.ite (by
      split
      · exact (State.bump_keeps _ (Part.sub (by decide) hL0) h0)
      · exact (State.bump_keeps _ (Part.sub (by decide) hL0) h0)) (SameBut.upd_ecc (Part.sub (by decide) hL0) (State.placeRecord_keeps _ _ _ _ _ _ _ (Part.sub (by decide) hL0) (by
      split
      · exact (State.bump_keeps _ (Part.sub (by decide) hL0) h0)
      · exact (State.bump_keeps _ (Part.sub (by decide) hL0) h0))))))

theorem State.aboveEave_keeps {L : List Part} {s0 s : State} (u : MemUser) (ch : Chan) (idx : Nat)
    (hL0 : [.regs, .seam, .ecc, .evt, .log, .tsk, .hif, .out] ⊆ L) (h0 : SameBut L s0 s) :
    SameBut L s0 (s.aboveEave u ch idx) := by
  unfold State.aboveEave
  exact (State.fire_keeps _ _ (Part.sub (by decide) hL0) (State.placeRecord_keeps _ _ _ _ _ _ _ (Part.sub (by decide) hL0) (State.bump_keeps _ (Part.sub (by decide) hL0) h0)))

theorem State.memRead_keeps {L : List Part} {s0 s : State} (u : MemUser) (pl : MemPlace) (o : EccIn)
    (hL0 : [.regs, .seam, .ecc, .evt, .log, .tsk, .hif, .out] ⊆ L) (h0 : SameBut L s0 s) :
    PairKeeps L s0 (s.memRead u pl o) := by
  unfold State.memRead
  exact (PairKeeps.ite (PairKeeps.mk h0) (PairKeeps.ite (by
    split
    · exact (PairKeeps.mk (State.aboveEave_keeps _ _ _ (Part.sub (by decide) hL0) h0))
    · exact (PairKeeps.mk h0)) (by
    split
    · exact (PairKeeps.mk h0)
    · exact (PairKeeps.mk (State.memCe_keeps _ _ _ _ _ (Part.sub (by decide) hL0) h0))
    · exact (PairKeeps.mk (State.memUe_keeps _ _ _ _ (Part.sub (by decide) hL0) h0)))))

theorem State.retireSilicon_keeps {L : List Part} {s0 s : State} (bank : Bool) (n : Nat)
    (hL0 : [.regs, .ecc] ⊆ L) (h0 : SameBut L s0 s) :
    SameBut L s0 (s.retireSilicon bank n) := by
  unfold State.retireSilicon
  exact (SameBut.upd_ecc (Part.sub (by decide) hL0) (State.leavePools_keeps _ _ (Part.sub (by decide) hL0) h0))

theorem State.retireNote_keeps {L : List Part} {s0 s : State} (bank : Bool) (n : Nat) (src : Nat)
    (hL0 : [.regs, .seam, .ecc, .evt, .log, .tsk, .hif, .out] ⊆ L) (h0 : SameBut L s0 s) :
    SameBut L s0 (s.retireNote bank n src) := by
  unfold State.retireNote
  exact (State.fire_keeps _ _ (Part.sub (by decide) hL0) (State.bump_keeps _ (Part.sub (by decide) hL0) (State.memRecord_keeps _ _ _ _ _ _ _ _ _ (Part.sub (by decide) hL0) h0)))

theorem State.retResult_keeps {L : List Part} {s0 s : State} (n : BitVec 3)
    (hL0 : [.ecc] ⊆ L) (h0 : SameBut L s0 s) :
    SameBut L s0 (s.retResult n) := by
  unfold State.retResult
  exact (SameBut.upd_ecc (Part.sub (by decide) hL0) h0)

theorem State.retireCmd_keeps {L : List Part} {s0 s : State} (bank : Bool) (n : Nat) (src : Nat)
    (hL0 : [.regs, .seam, .ecc, .evt, .log, .tsk, .hif, .out] ⊆ L) (h0 : SameBut L s0 s) :
    SameBut L s0 (s.retireCmd bank n src) := by
  unfold State.retireCmd
  exact (SameBut.ite (State.retResult_keeps _ (Part.sub (by decide) hL0) h0) (SameBut.ite (State.retResult_keeps _ (Part.sub (by decide) hL0) h0) (SameBut.ite (State.retResult_keeps _ (Part.sub (by decide) hL0) (State.retireNote_keeps _ _ _ (Part.sub (by decide) hL0) (State.retireSilicon_keeps _ _ (Part.sub (by decide) hL0) h0))) (SameBut.ite (State.fire_keeps _ _ (Part.sub (by decide) hL0) (State.retResult_keeps _ (Part.sub (by decide) hL0) (State.retireNote_keeps _ _ _ (Part.sub (by decide) hL0) (State.retireSilicon_keeps _ _ (Part.sub (by decide) hL0) h0)))) (SameBut.upd_ecc (Part.sub (by decide) hL0) (State.retireNote_keeps _ _ _ (Part.sub (by decide) hL0) (State.retireSilicon_keeps _ _ (Part.sub (by decide) hL0) h0)))))))

theorem State.retireNamed_keeps {L : List Part} {s0 s : State} (r : Req)
    (hL0 : [.regs, .seam, .ecc, .evt, .log, .tsk, .hif, .out] ⊆ L) (h0 : SameBut L s0 s) :
    SameBut L s0 (s.retireNamed r) := by
  unfold State.retireNamed
  exact (State.retireCmd_keeps _ _ _ (Part.sub (by decide) hL0) h0)

theorem State.clearBegin_keeps {L : List Part} {s0 s : State} (r : Req)
    (hL0 : [.ecc] ⊆ L) (h0 : SameBut L s0 s) :
    SameBut L s0 (s.clearBegin r) := by
  unfold State.clearBegin
  exact (SameBut.ite (State.retResult_keeps _ (Part.sub (by decide) hL0) h0) (SameBut.ite (State.retResult_keeps _ (Part.sub (by decide) hL0) h0) (SameBut.upd_ecc (Part.sub (by decide) hL0) h0)))

theorem State.opRetCmd_keeps {L : List Part} {s0 s : State} (r : Req) (v : Word)
    (hL0 : [.regs, .seam, .ecc, .evt, .log, .tsk, .hif, .resp, .out] ⊆ L) (h0 : SameBut L s0 s) :
    SameBut L s0 (s.opRetCmd r v) := by
  unfold State.opRetCmd
  exact (SameBut.ite (State.refuse_keeps _ _ (Part.sub (by decide) hL0) h0) (SameBut.ite (State.guarded_keeps _ _ _ (Part.sub (by decide) hL0) (fun _ h1 => (State.clearBegin_keeps _ (Part.sub (by decide) hL0) (SameBut.ite (State.retireNamed_keeps _ (Part.sub (by decide) hL0) h1) h1))) h0) (SameBut.ite (State.retireNamed_keeps _ (Part.sub (by decide) hL0) h0) h0)))

theorem State.retDone_keeps {L : List Part} {s0 s : State} (ok : Bool)
    (hL0 : [.regs, .seam, .ecc, .evt, .log, .tsk, .hif, .out, .fresh] ⊆ L) (h0 : SameBut L s0 s) :
    SameBut L s0 (s.retDone ok) := by
  unfold State.retDone
  exact (SameBut.ite (SameBut.ite (State.memRecord_keeps _ _ _ _ _ _ _ _ _ (Part.sub (by decide) hL0) (PairKeeps.snd (State.freeVal_keeps (Part.sub (by decide) hL0) (SameBut.upd_ecc (Part.sub (by decide) hL0) (SameBut.ite (SameBut.upd_ecc (Part.sub (by decide) hL0) h0) h0))))) (SameBut.upd_ecc (Part.sub (by decide) hL0) (SameBut.ite (SameBut.upd_ecc (Part.sub (by decide) hL0) h0) h0))) (SameBut.ite (SameBut.upd_ecc (Part.sub (by decide) hL0) h0) h0))

theorem State.opCeCfg_keeps {L : List Part} {s0 s : State} (v : Word)
    (hL0 : [.regs, .ecc] ⊆ L) (h0 : SameBut L s0 s) :
    SameBut L s0 (s.opCeCfg v) := by
  unfold State.opCeCfg
  exact (SameBut.ite (SameBut.upd_ecc (Part.sub (by decide) hL0) (State.store_keeps _ _ (Part.sub (by decide) hL0) h0)) (State.store_keeps _ _ (Part.sub (by decide) hL0) h0))

theorem State.fillStep_keeps {L : List Part} {s0 s : State} (m : Chan)
    (hL0 : [.regs, .mem, .seam, .memch, .ecc, .evt, .tsk, .hif, .out] ⊆ L) (h0 : SameBut L s0 s) :
    SameBut L s0 (s.fillStep m) := by
  unfold State.fillStep
  exact (SameBut.ite h0 (SameBut.ite (SameBut.ite (State.fire_keeps _ _ (Part.sub (by decide) hL0) (State.setCh_keeps _ _ (Part.sub (by decide) hL0) (State.setCh_keeps _ _ (Part.sub (by decide) hL0) (SameBut.ite h0 (State.dramWrite_keeps _ _ (Part.sub (by decide) hL0) (State.zeroRange_keeps _ _ (Part.sub (by decide) hL0) h0)))))) (State.setCh_keeps _ _ (Part.sub (by decide) hL0) (SameBut.ite h0 (State.dramWrite_keeps _ _ (Part.sub (by decide) hL0) (State.zeroRange_keeps _ _ (Part.sub (by decide) hL0) h0))))) (State.fire_keeps _ _ (Part.sub (by decide) hL0) (State.setCh_keeps _ _ (Part.sub (by decide) hL0) h0))))

theorem State.startTraining_keeps {L : List Part} {s0 s : State} (m : Chan) (eyeOnly : Bool)
    (hL0 : [.memch] ⊆ L) (h0 : SameBut L s0 s) :
    SameBut L s0 (s.startTraining m eyeOnly) := by
  unfold State.startTraining
  exact (SameBut.ite h0 (SameBut.ite (State.setCh_keeps _ _ (Part.sub (by decide) hL0) h0) (State.setCh_keeps _ _ (Part.sub (by decide) hL0) h0)))

theorem State.rkPass_keeps {L : List Part} {s0 s : State} (m : Chan)
    (hL0 : [.mxe] ⊆ L) (h0 : SameBut L s0 s) :
    SameBut L s0 (s.rkPass m) := by
  unfold State.rkPass
  exact (SameBut.upd_mxe (Part.sub (by decide) hL0) h0)

theorem State.rkFinish_keeps {L : List Part} {s0 s : State}
    (hL0 : [.regs, .seam, .ecc, .mxe, .evt, .log, .tsk, .hif, .out] ⊆ L) (h0 : SameBut L s0 s) :
    SameBut L s0 (s.rkFinish) := by
  unfold State.rkFinish
  exact (SameBut.ite (State.fire_keeps _ _ (Part.sub (by decide) hL0) (State.memRecord_keeps _ _ _ _ _ _ _ _ _ (Part.sub (by decide) hL0) (State.bump_keeps _ (Part.sub (by decide) hL0) (SameBut.upd_mxe (Part.sub (by decide) hL0) h0)))) h0)

theorem State.rkAdvance_keeps {L : List Part} {s0 s : State} (m : Chan)
    (hL0 : [.mxe] ⊆ L) (h0 : SameBut L s0 s) :
    SameBut L s0 (s.rkAdvance m) := by
  unfold State.rkAdvance
  exact (SameBut.ite h0 (SameBut.ite (State.rkPass_keeps _ (Part.sub (by decide) hL0) h0) (SameBut.ite h0 (SameBut.ite (SameBut.upd_mxe (Part.sub (by decide) hL0) h0) (State.rkPass_keeps _ (Part.sub (by decide) hL0) h0)))))

theorem State.withdraw_keeps {L : List Part} {s0 s : State} (m : Chan) (step : BitVec 4) (src : Nat)
    (hL0 : [.regs, .seam, .bufs, .memch, .ecc, .mxe, .evt, .log, .tsk, .hif, .out] ⊆ L) (h0 : SameBut L s0 s) :
    SameBut L s0 (s.withdraw m step src) := by
  unfold State.withdraw
  exact (State.rkFinish_keeps (Part.sub (by decide) hL0) (State.rkAdvance_keeps _ (Part.sub (by decide) hL0) (State.fire_keeps _ _ (Part.sub (by decide) hL0) (State.fire_keeps _ _ (Part.sub (by decide) hL0) (State.bump_keeps _ (Part.sub (by decide) hL0) (State.memRecord_keeps _ _ _ _ _ _ _ _ _ (Part.sub (by decide) hL0) (State.fire_keeps _ _ (Part.sub (by decide) hL0) (State.setFld_keeps _ _ (Part.sub (by decide) hL0) (State.killBuffers_keeps _ (Part.sub (by decide) hL0) (State.setCh_keeps _ _ (Part.sub (by decide) hL0) h0))))))))))

theorem State.trained_keeps {L : List Part} {s0 s : State} (m : Chan) (gib : Nat)
    (hL0 : [.bufs, .memch] ⊆ L) (h0 : SameBut L s0 s) :
    SameBut L s0 (s.trained m gib) := by
  unfold State.trained
  exact (SameBut.ite (State.setCh_keeps _ _ (Part.sub (by decide) hL0) h0) (State.reviveBuffers_keeps _ (Part.sub (by decide) hL0) (State.setCh_keeps _ _ (Part.sub (by decide) hL0) h0)))

theorem State.opMemCmd_keeps {L : List Part} {s0 s : State} (r : Req) (m : Chan) (v : Word)
    (hL0 : [.regs, .seam, .bufs, .memch, .ecc, .mxe, .evt, .log, .tsk, .hif, .resp, .out] ⊆ L) (h0 : SameBut L s0 s) :
    SameBut L s0 (s.opMemCmd r m v) := by
  unfold State.opMemCmd
  exact (SameBut.ite (State.refuse_keeps _ _ (Part.sub (by decide) hL0) h0) (SameBut.ite (State.withdraw_keeps _ _ _ (Part.sub (by decide) hL0) (SameBut.ite (by
    split
    · exact (State.refuse_keeps _ _ (Part.sub (by decide) hL0) h0)
    · exact (State.refuse_keeps _ _ (Part.sub (by decide) hL0) h0)
    · exact (State.startTraining_keeps _ _ (Part.sub (by decide) hL0) h0)
    · exact (State.startTraining_keeps _ _ (Part.sub (by decide) hL0) h0)
    · exact h0) h0)) (SameBut.ite (by
    split
    · exact (State.refuse_keeps _ _ (Part.sub (by decide) hL0) h0)
    · exact (State.refuse_keeps _ _ (Part.sub (by decide) hL0) h0)
    · exact (State.startTraining_keeps _ _ (Part.sub (by decide) hL0) h0)
    · exact (State.startTraining_keeps _ _ (Part.sub (by decide) hL0) h0)
    · exact h0) h0)))

theorem State.opSkip_keeps {L : List Part} {s0 s : State} (r : Req) (m : Chan) (endReg : Bool) (v : Word)
    (hL0 : [.regs, .seam, .evt, .tsk, .hif, .resp, .out] ⊆ L) (h0 : SameBut L s0 s) :
    SameBut L s0 (s.opSkip r m endReg v) := by
  unfold State.opSkip
  exact (SameBut.ite (State.refuse_keeps _ _ (Part.sub (by decide) hL0) h0) (State.store_keeps _ _ (Part.sub (by decide) hL0) h0))

theorem State.drawPair_keeps {L : List Part} {s0 s : State}
    (hL0 : [.fresh] ⊆ L) (h0 : SameBut L s0 s) :
    PairKeeps L s0 (s.drawPair) := by
  unfold State.drawPair
  exact (PairKeeps.mk (SameBut.upd_fresh (Part.sub (by decide) hL0) h0))

theorem State.entropyUp_keeps {L : List Part} {s0 s : State}
    (hL0 : [.mxe, .fresh] ⊆ L) (h0 : SameBut L s0 s) :
    SameBut L s0 (s.entropyUp) := by
  unfold State.entropyUp
  exact (SameBut.ite (SameBut.upd_mxe (Part.sub (by decide) hL0) h0) (SameBut.upd_mxe (Part.sub (by decide) hL0) (PairKeeps.snd (State.drawPair_keeps (Part.sub (by decide) hL0) (SameBut.upd_mxe (Part.sub (by decide) hL0) h0)))))

theorem State.opMxeCmd_keeps {L : List Part} {s0 s : State} (r : Req) (v : Word)
    (hL0 : [.regs, .seam, .ecc, .mxe, .evt, .log, .tsk, .hif, .resp, .out, .fresh] ⊆ L) (h0 : SameBut L s0 s) :
    SameBut L s0 (s.opMxeCmd r v) := by
  unfold State.opMxeCmd
  exact (SameBut.ite (SameBut.ite (State.refuse_keeps _ _ (Part.sub (by decide) hL0) (SameBut.ite (SameBut.ite (State.fire_keeps _ _ (Part.sub (by decide) hL0) (State.refuse_keeps _ _ (Part.sub (by decide) hL0) h0)) (State.rkFinish_keeps (Part.sub (by decide) hL0) (SameBut.foldl (fun _ _ h1 => (State.rkAdvance_keeps _ (Part.sub (by decide) hL0) h1)) (SameBut.upd_mxe (Part.sub (by decide) hL0) h0)))) h0)) (State.fire_keeps _ _ (Part.sub (by decide) hL0) (SameBut.upd_mxe (Part.sub (by decide) hL0) (PairKeeps.snd (State.drawPair_keeps (Part.sub (by decide) hL0) (SameBut.ite (SameBut.ite (State.fire_keeps _ _ (Part.sub (by decide) hL0) (State.refuse_keeps _ _ (Part.sub (by decide) hL0) h0)) (State.rkFinish_keeps (Part.sub (by decide) hL0) (SameBut.foldl (fun _ _ h2 => (State.rkAdvance_keeps _ (Part.sub (by decide) hL0) h2)) (SameBut.upd_mxe (Part.sub (by decide) hL0) h0)))) h0)))))) (SameBut.ite (SameBut.ite (State.fire_keeps _ _ (Part.sub (by decide) hL0) (State.refuse_keeps _ _ (Part.sub (by decide) hL0) h0)) (State.rkFinish_keeps (Part.sub (by decide) hL0) (SameBut.foldl (fun _ _ h3 => (State.rkAdvance_keeps _ (Part.sub (by decide) hL0) h3)) (SameBut.upd_mxe (Part.sub (by decide) hL0) h0)))) h0))

theorem State.scrub_keeps {L : List Part} {s0 s : State} (pl : MemPlace) (o : EccIn)
    (hL0 : [.regs, .seam, .ecc, .evt, .log, .tsk, .hif, .out] ⊆ L) (h0 : SameBut L s0 s) :
    SameBut L s0 (s.scrub pl o) := by
  unfold State.scrub
  exact (SameBut.ite h0 (by
    split
    · exact (SameBut.ite h0 (SameBut.ite (State.fire_keeps _ _ (Part.sub (by decide) hL0) (State.setFld_keeps _ _ (Part.sub (by decide) hL0) (PairKeeps.snd (State.memRead_keeps _ _ _ (Part.sub (by decide) hL0) h0)))) (PairKeeps.snd (State.memRead_keeps _ _ _ (Part.sub (by decide) hL0) h0))))
    · exact (SameBut.ite h0 (SameBut.ite (State.setFld_keeps _ _ (Part.sub (by decide) hL0) (PairKeeps.snd (State.memRead_keeps _ _ _ (Part.sub (by decide) hL0) h0))) (PairKeeps.snd (State.memRead_keeps _ _ _ (Part.sub (by decide) hL0) h0))))))

theorem State.memWrite_keeps {L : List Part} {s0 s : State} (pl : MemPlace) (data : List Byte)
    (hL0 : [.mem, .ecc, .out] ⊆ L) (h0 : SameBut L s0 s) :
    SameBut L s0 (s.memWrite pl data) := by
  unfold State.memWrite
  exact (State.placeWritten_keeps _ (Part.sub (by decide) hL0) (State.storeBytes_keeps _ _ (Part.sub (by decide) hL0) h0))

theorem execMemoryRead_keeps (u : MemUser) (pl : MemPlace) (o : EccIn) (s : State) :
    ResKeeps [.regs, .seam, .ecc, .evt, .log, .tsk, .hif, .resp, .out] s (execMemoryRead u pl o s) := by
  have hL0 := List.Subset.refl ([.regs, .seam, .ecc, .evt, .log, .tsk, .hif, .resp, .out] : List Part)
  have h0 := SameBut.refl [.regs, .seam, .ecc, .evt, .log, .tsk, .hif, .resp, .out] s
  unfold execMemoryRead
  split
  · rename_i heq; have h1 := PairKeeps.pair heq (State.memRead_keeps _ _ _ (Part.sub (by decide) hL0) h0)
    exact (ResKeeps.next (State.reply_keeps _ (Part.sub (by decide) hL0) h1))
  · rename_i heq; have h2 := PairKeeps.pair heq (State.memRead_keeps _ _ _ (Part.sub (by decide) hL0) h0)
    exact (ResKeeps.next (State.memBusError_keeps _ _ _ (Part.sub (by decide) hL0) h2))

theorem execMemoryWrite_keeps (u : MemUser) (pl : MemPlace) (data : List Byte) (s : State) :
    ResKeeps [.regs, .mem, .seam, .ecc, .evt, .tsk, .cpu, .hif, .resp, .out] s (execMemoryWrite u pl data s) := by
  have hL0 := List.Subset.refl ([.regs, .mem, .seam, .ecc, .evt, .tsk, .cpu, .hif, .resp, .out] : List Part)
  have h0 := SameBut.refl [.regs, .mem, .seam, .ecc, .evt, .tsk, .cpu, .hif, .resp, .out] s
  unfold execMemoryWrite
  exact (ResKeeps.ite (ResKeeps.ite (ResKeeps.next (State.memBusError_keeps _ _ _ (Part.sub (by decide) hL0) h0)) (ResKeeps.next (by
    split
    · exact (State.lineWritten_keeps _ _ _ (Part.sub (by decide) hL0) (State.memWrite_keeps _ _ (Part.sub (by decide) hL0) (State.reply_keeps _ (Part.sub (by decide) hL0) h0)))
    · exact (State.memWrite_keeps _ _ (Part.sub (by decide) hL0) (State.reply_keeps _ (Part.sub (by decide) hL0) h0))))) ResKeeps.fault)

theorem execNarrowWrite_keeps (u : MemUser) (pl : MemPlace) (s : State) :
    ResKeeps [.regs, .seam, .ecc, .evt, .log, .tsk, .hif, .resp, .out] s (execNarrowWrite u pl s) := by
  have hL0 := List.Subset.refl ([.regs, .seam, .ecc, .evt, .log, .tsk, .hif, .resp, .out] : List Part)
  have h0 := SameBut.refl [.regs, .seam, .ecc, .evt, .log, .tsk, .hif, .resp, .out] s
  unfold execNarrowWrite
  exact (ResKeeps.next (State.memBusError_keeps _ _ _ (Part.sub (by decide) hL0) (State.fire_keeps _ _ (Part.sub (by decide) hL0) (State.placeRecord_keeps _ _ _ _ _ _ _ (Part.sub (by decide) hL0) (by
    split
    · exact (State.bump_keeps _ (Part.sub (by decide) hL0) h0)
    · exact (State.bump_keeps _ (Part.sub (by decide) hL0) h0))))))

theorem State.lineFill_keeps {L : List Part} {s0 s : State} (n : Fin 8) (k : CoreAcc) (a : Nat) (l : Nat) (pl : MemPlace) (o : EccIn)
    (hL0 : [.regs, .mem, .seam, .ecc, .evt, .log, .tsk, .cpu, .hif, .resp, .out, .fresh] ⊆ L) (h0 : SameBut L s0 s) :
    SameBut L s0 (s.lineFill n k a l pl o) := by
  unfold State.lineFill
  exact (SameBut.ite (State.reply_keeps _ (Part.sub (by decide) hL0) (SameBut.ite (State.storeLine_keeps _ _ (Part.sub (by decide) hL0) (SameBut.ite (State.snoop_keeps _ _ (Part.sub (by decide) hL0) h0) h0)) (SameBut.ite (State.snoop_keeps _ _ (Part.sub (by decide) hL0) h0) h0))) (by
    split
    · rename_i heq; have h1 := PairKeeps.pair heq (State.memRead_keeps _ _ _ (Part.sub (by decide) hL0) (SameBut.ite (State.snoop_keeps _ _ (Part.sub (by decide) hL0) h0) h0))
      exact (State.reply_keeps _ (Part.sub (by decide) hL0) (SameBut.ite (State.storeLine_keeps _ _ (Part.sub (by decide) hL0) (State.takeLine_keeps _ _ _ (Part.sub (by decide) hL0) h1)) (State.takeLine_keeps _ _ _ (Part.sub (by decide) hL0) h1)))
    · rename_i heq; have h2 := PairKeeps.pair heq (State.memRead_keeps _ _ _ (Part.sub (by decide) hL0) (SameBut.ite (State.snoop_keeps _ _ (Part.sub (by decide) hL0) h0) h0))
      exact (State.coreFault_keeps _ _ _ (Part.sub (by decide) hL0) h2)))

theorem execLineFill_keeps (n : Fin 8) (k : CoreAcc) (a : Nat) (o : EccIn) (s : State) :
    ResKeeps [.regs, .mem, .seam, .ecc, .evt, .log, .tsk, .cpu, .hif, .resp, .out, .fresh] s (execLineFill n k a o s) := by
  have hL0 := List.Subset.refl ([.regs, .mem, .seam, .ecc, .evt, .log, .tsk, .cpu, .hif, .resp, .out, .fresh] : List Part)
  have h0 := SameBut.refl [.regs, .mem, .seam, .ecc, .evt, .log, .tsk, .cpu, .hif, .resp, .out, .fresh] s
  unfold execLineFill
  split
  · exact (ResKeeps.next (State.lineFill_keeps _ _ _ _ _ _ (Part.sub (by decide) hL0) h0))
  · exact (ResKeeps.next (SameBut.ite h0 (State.coreFault_keeps _ _ _ (Part.sub (by decide) hL0) h0)))

theorem execFillLine_keeps (ch : Chan) (s : State) :
    ResKeeps [.regs, .mem, .seam, .memch, .ecc, .evt, .tsk, .hif, .out] s (execFillLine ch s) := by
  have hL0 := List.Subset.refl ([.regs, .mem, .seam, .memch, .ecc, .evt, .tsk, .hif, .out] : List Part)
  have h0 := SameBut.refl [.regs, .mem, .seam, .memch, .ecc, .evt, .tsk, .hif, .out] s
  unfold execFillLine
  exact (ResKeeps.next (State.fillStep_keeps _ (Part.sub (by decide) hL0) h0))

theorem execScrubRead_keeps (pl : MemPlace) (o : EccIn) (s : State) :
    ResKeeps [.regs, .seam, .ecc, .evt, .log, .tsk, .hif, .out] s (execScrubRead pl o s) := by
  have hL0 := List.Subset.refl ([.regs, .seam, .ecc, .evt, .log, .tsk, .hif, .out] : List Part)
  have h0 := SameBut.refl [.regs, .seam, .ecc, .evt, .log, .tsk, .hif, .out] s
  unfold execScrubRead
  exact (ResKeeps.next (State.scrub_keeps _ _ (Part.sub (by decide) hL0) h0))

theorem execRetire_keeps (r : Req) (v : Word) (s : State) :
    ResKeeps [.regs, .seam, .ecc, .evt, .log, .tsk, .hif, .resp, .out] s (execRetire r v s) := by
  have hL0 := List.Subset.refl ([.regs, .seam, .ecc, .evt, .log, .tsk, .hif, .resp, .out] : List Part)
  have h0 := SameBut.refl [.regs, .seam, .ecc, .evt, .log, .tsk, .hif, .resp, .out] s
  unfold execRetire
  exact (ResKeeps.next (State.access_keeps _ _ _ _ (Part.sub (by decide) hL0) (fun _ h1 => (State.opRetCmd_keeps _ _ (Part.sub (by decide) hL0) h1)) h0))

theorem execClearList_keeps (r : Req) (v : Word) (s : State) :
    ResKeeps [.regs, .seam, .ecc, .evt, .log, .tsk, .hif, .resp, .out] s (execClearList r v s) := by
  have hL0 := List.Subset.refl ([.regs, .seam, .ecc, .evt, .log, .tsk, .hif, .resp, .out] : List Part)
  have h0 := SameBut.refl [.regs, .seam, .ecc, .evt, .log, .tsk, .hif, .resp, .out] s
  unfold execClearList
  exact (ResKeeps.next (State.access_keeps _ _ _ _ (Part.sub (by decide) hL0) (fun _ h1 => (State.opRetCmd_keeps _ _ (Part.sub (by decide) hL0) h1)) h0))

theorem execTrackClr_keeps (r : Req) (v : Word) (s : State) :
    ResKeeps [.regs, .seam, .ecc, .evt, .tsk, .hif, .resp, .out] s (execTrackClr r v s) := by
  have hL0 := List.Subset.refl ([.regs, .seam, .ecc, .evt, .tsk, .hif, .resp, .out] : List Part)
  have h0 := SameBut.refl [.regs, .seam, .ecc, .evt, .tsk, .hif, .resp, .out] s
  unfold execTrackClr
  exact (ResKeeps.next (State.access_keeps _ _ _ _ (Part.sub (by decide) hL0) (fun _ h1 => (State.opCeCfg_keeps _ (Part.sub (by decide) hL0) h1)) h0))

theorem execRekey_keeps (r : Req) (v : Word) (s : State) :
    ResKeeps [.regs, .seam, .ecc, .mxe, .evt, .log, .tsk, .hif, .resp, .out, .fresh] s (execRekey r v s) := by
  have hL0 := List.Subset.refl ([.regs, .seam, .ecc, .mxe, .evt, .log, .tsk, .hif, .resp, .out, .fresh] : List Part)
  have h0 := SameBut.refl [.regs, .seam, .ecc, .mxe, .evt, .log, .tsk, .hif, .resp, .out, .fresh] s
  unfold execRekey
  exact (ResKeeps.next (State.access_keeps _ _ _ _ (Part.sub (by decide) hL0) (fun _ h1 => (State.opMxeCmd_keeps _ _ (Part.sub (by decide) hL0) h1)) h0))

theorem execFresh_keeps (r : Req) (v : Word) (s : State) :
    ResKeeps [.regs, .seam, .ecc, .mxe, .evt, .log, .tsk, .hif, .resp, .out, .fresh] s (execFresh r v s) := by
  have hL0 := List.Subset.refl ([.regs, .seam, .ecc, .mxe, .evt, .log, .tsk, .hif, .resp, .out, .fresh] : List Part)
  have h0 := SameBut.refl [.regs, .seam, .ecc, .mxe, .evt, .log, .tsk, .hif, .resp, .out, .fresh] s
  unfold execFresh
  exact (ResKeeps.next (State.access_keeps _ _ _ _ (Part.sub (by decide) hL0) (fun _ h1 => (State.opMxeCmd_keeps _ _ (Part.sub (by decide) hL0) h1)) h0))

theorem execRekeyLine_keeps (ch : Chan) (o : EccIn) (s : State) :
    ResKeeps [.regs, .seam, .ecc, .mxe, .evt, .log, .tsk, .hif, .out] s (execRekeyLine ch o s) := by
  have hL0 := List.Subset.refl ([.regs, .seam, .ecc, .mxe, .evt, .log, .tsk, .hif, .out] : List Part)
  have h0 := SameBut.refl [.regs, .seam, .ecc, .mxe, .evt, .log, .tsk, .hif, .out] s
  unfold execRekeyLine
  exact (ResKeeps.next (SameBut.ite (SameBut.ite (State.rkFinish_keeps (Part.sub (by decide) hL0) (State.rkAdvance_keeps _ (Part.sub (by decide) hL0) h0)) (State.rkFinish_keeps (Part.sub (by decide) hL0) (State.rkAdvance_keeps _ (Part.sub (by decide) hL0) (SameBut.ite (State.dramWrite_keeps _ _ (Part.sub (by decide) hL0) (SameBut.upd_mxe (Part.sub (by decide) hL0) (PairKeeps.snd (State.memRead_keeps _ _ _ (Part.sub (by decide) hL0) (State.rkAdvance_keeps _ (Part.sub (by decide) hL0) h0))))) (SameBut.upd_mxe (Part.sub (by decide) hL0) (PairKeeps.snd (State.memRead_keeps _ _ _ (Part.sub (by decide) hL0) (State.rkAdvance_keeps _ (Part.sub (by decide) hL0) h0)))))))) h0))

theorem execMemTrain_keeps (r : Req) (m : Chan) (v : Word) (s : State) :
    ResKeeps [.regs, .seam, .bufs, .memch, .ecc, .mxe, .evt, .log, .tsk, .hif, .resp, .out] s (execMemTrain r m v s) := by
  have hL0 := List.Subset.refl ([.regs, .seam, .bufs, .memch, .ecc, .mxe, .evt, .log, .tsk, .hif, .resp, .out] : List Part)
  have h0 := SameBut.refl [.regs, .seam, .bufs, .memch, .ecc, .mxe, .evt, .log, .tsk, .hif, .resp, .out] s
  unfold execMemTrain
  exact (ResKeeps.next (State.access_keeps _ _ _ _ (Part.sub (by decide) hL0) (fun _ h1 => (State.opMemCmd_keeps _ _ _ (Part.sub (by decide) hL0) h1)) h0))

theorem execMemWithdraw_keeps (r : Req) (m : Chan) (v : Word) (s : State) :
    ResKeeps [.regs, .seam, .bufs, .memch, .ecc, .mxe, .evt, .log, .tsk, .hif, .resp, .out] s (execMemWithdraw r m v s) := by
  have hL0 := List.Subset.refl ([.regs, .seam, .bufs, .memch, .ecc, .mxe, .evt, .log, .tsk, .hif, .resp, .out] : List Part)
  have h0 := SameBut.refl [.regs, .seam, .bufs, .memch, .ecc, .mxe, .evt, .log, .tsk, .hif, .resp, .out] s
  unfold execMemWithdraw
  exact (ResKeeps.next (State.access_keeps _ _ _ _ (Part.sub (by decide) hL0) (fun _ h1 => (State.opMemCmd_keeps _ _ _ (Part.sub (by decide) hL0) h1)) h0))

theorem execSkipWindowWrite_keeps (r : Req) (m : Chan) (endReg : Bool) (v : Word) (s : State) :
    ResKeeps [.regs, .seam, .evt, .tsk, .hif, .resp, .out] s (execSkipWindowWrite r m endReg v s) := by
  have hL0 := List.Subset.refl ([.regs, .seam, .evt, .tsk, .hif, .resp, .out] : List Part)
  have h0 := SameBut.refl [.regs, .seam, .evt, .tsk, .hif, .resp, .out] s
  unfold execSkipWindowWrite
  exact (ResKeeps.next (State.access_keeps _ _ _ _ (Part.sub (by decide) hL0) (fun _ h1 => (State.opSkip_keeps _ _ _ _ (Part.sub (by decide) hL0) h1)) h0))

theorem execRetCmdDone_keeps (ok : Bool) (s : State) :
    ResKeeps [.regs, .seam, .ecc, .evt, .log, .tsk, .hif, .out, .fresh] s (execRetCmdDone ok s) := by
  have hL0 := List.Subset.refl ([.regs, .seam, .ecc, .evt, .log, .tsk, .hif, .out, .fresh] : List Part)
  have h0 := SameBut.refl [.regs, .seam, .ecc, .evt, .log, .tsk, .hif, .out, .fresh] s
  unfold execRetCmdDone
  exact (ResKeeps.next (State.retDone_keeps _ (Part.sub (by decide) hL0) h0))

end Sys2Proof.Machine
end

