-- ==== Sys2Proof/Laws/Parse.lean ====
section
/-! SUPPORT. Which parts of the state each operation of Machine/Parse.lean can change. -/

namespace Sys2Proof.Machine

open Sys2Proof

set_option linter.unusedTactic false
set_option linter.unreachableTactic false
set_option linter.unusedVariables false

theorem State.setPipe_keeps {L : List Part} {s0 s : State} (p : Fin 4) (x : Pipe)
    (hL0 : [.pipes] ⊆ L) (h0 : SameBut L s0 s) :
    SameBut L s0 (s.setPipe p x) := by
  unfold State.setPipe
  exact (SameBut.upd_pipes (Part.sub (by decide) hL0) h0)

theorem State.setEpoch_keeps {L : List Part} {s0 s : State} (e : Fin 16) (x : Epoch)
    (hL0 : [.epochs] ⊆ L) (h0 : SameBut L s0 s) :
    SameBut L s0 (s.setEpoch e x) := by
  unfold State.setEpoch
  exact (SameBut.upd_epochs (Part.sub (by decide) hL0) h0)

theorem State.retireEpochs_keeps {L : List Part} {s0 s : State}
    (hL0 : [.regs, .seam, .epochs, .evt, .tsk, .hif, .out] ⊆ L) (h0 : SameBut L s0 s) :
    SameBut L s0 (s.retireEpochs) := by
  unfold State.retireEpochs
  exact (SameBut.foldl (fun _ _ h1 => (SameBut.ite (State.fire_keeps _ _ (Part.sub (by decide) hL0) (State.setEpoch_keeps _ _ (Part.sub (by decide) hL0) h1)) h1)) h0)

theorem State.releaseParse_keeps {L : List Part} {s0 s : State} (p : Fin 4)
    (hL0 : [.pipes] ⊆ L) (h0 : SameBut L s0 s) :
    SameBut L s0 (s.releaseParse p) := by
  unfold State.releaseParse
  exact (State.setPipe_keeps _ _ (Part.sub (by decide) hL0) h0)

theorem State.setSlotOf_keeps {L : List Part} {s0 s : State} (p : Fin 4) (x : ParseSlot)
    (hL0 : [.pipes] ⊆ L) (h0 : SameBut L s0 s) :
    SameBut L s0 (s.setSlotOf p x) := by
  unfold State.setSlotOf
  exact (State.setPipe_keeps _ _ (Part.sub (by decide) hL0) h0)

theorem State.dropSlot_keeps {L : List Part} {s0 s : State} (p : Fin 4) (id : Nat)
    (hL0 : [.regs, .seam, .pipes, .epochs, .evt, .tsk, .hif, .out] ⊆ L) (h0 : SameBut L s0 s) :
    SameBut L s0 (s.dropSlot p id) := by
  unfold State.dropSlot
  exact (State.retireEpochs_keeps (Part.sub (by decide) hL0) (State.releaseParse_keeps _ (Part.sub (by decide) hL0) (State.setPipe_keeps _ _ (Part.sub (by decide) hL0) h0)))

theorem State.countFlags_keeps {L : List Part} {s0 s : State} (k : Pkt)
    (hL0 : [.regs] ⊆ L) (h0 : SameBut L s0 s) :
    SameBut L s0 (s.countFlags k) := by
  unfold State.countFlags
  exact (SameBut.ite (State.bump_keeps _ (Part.sub (by decide) hL0) (SameBut.ite (State.bump_keeps _ (Part.sub (by decide) hL0) h0) h0)) (SameBut.ite (State.bump_keeps _ (Part.sub (by decide) hL0) h0) h0))

theorem State.parseEnd_keeps {L : List Part} {s0 s : State} (p : Fin 4) (k : Pkt) (prog : Bool)
    (hL0 : [.regs, .pipes] ⊆ L) (h0 : SameBut L s0 s) :
    SameBut L s0 (s.parseEnd p k prog) := by
  unfold State.parseEnd
  exact (State.releaseParse_keeps _ (Part.sub (by decide) hL0) (State.setSlotOf_keeps _ _ (Part.sub (by decide) hL0) (SameBut.ite (State.bump64_keeps _ _ _ (Part.sub (by decide) hL0) (State.countFlags_keeps _ (Part.sub (by decide) hL0) h0)) (State.countFlags_keeps _ (Part.sub (by decide) hL0) h0))))

theorem State.parseMal_keeps {L : List Part} {s0 s : State} (p : Fin 4) (k : Pkt)
    (hL0 : [.regs, .seam, .pipes, .epochs, .evt, .tsk, .hif, .out] ⊆ L) (h0 : SameBut L s0 s) :
    SameBut L s0 (s.parseMal p k) := by
  unfold State.parseMal
  exact (SameBut.ite (State.retireEpochs_keeps (Part.sub (by decide) hL0) (State.releaseParse_keeps _ (Part.sub (by decide) hL0) (State.setSlotOf_keeps _ _ (Part.sub (by decide) hL0) (State.fire_keeps _ _ (Part.sub (by decide) hL0) (State.bump_keeps _ (Part.sub (by decide) hL0) h0))))) (State.dropSlot_keeps _ _ (Part.sub (by decide) hL0) (State.fire_keeps _ _ (Part.sub (by decide) hL0) (State.bump_keeps _ (Part.sub (by decide) hL0) h0))))

theorem State.parseFault_keeps {L : List Part} {s0 s : State} (p : Fin 4) (k : Pkt) (cause : Nat) (pc : Nat)
    (hL0 : [.regs, .seam, .pipes, .evt, .tsk, .hif, .out] ⊆ L) (h0 : SameBut L s0 s) :
    SameBut L s0 (s.parseFault p k cause pc) := by
  unfold State.parseFault
  exact (State.fire_keeps _ _ (Part.sub (by decide) hL0) (State.setSlotOf_keeps _ _ (Part.sub (by decide) hL0) (State.wr_keeps _ _ (Part.sub (by decide) hL0) (State.bump_keeps _ (Part.sub (by decide) hL0) h0))))

theorem State.absorb_keeps {L : List Part} {s0 s : State} (p : Fin 4)
    (hL0 : [.cmt, .pipes] ⊆ L) (h0 : SameBut L s0 s) :
    SameBut L s0 (s.absorb p) := by
  unfold State.absorb
  exact (State.setPipe_keeps _ _ (Part.sub (by decide) hL0) (SameBut.upd_cmt (Part.sub (by decide) hL0) h0))

theorem State.parseStart_keeps {L : List Part} {s0 s : State} (p : Fin 4) (k0 : Pkt)
    (hL0 : [.regs, .seam, .pipes, .evt, .tsk, .hif, .out] ⊆ L) (h0 : SameBut L s0 s) :
    SameBut L s0 (s.parseStart p k0) := by
  unfold State.parseStart
  exact (SameBut.ite (State.bump_keeps _ (Part.sub (by decide) hL0) (State.setPipe_keeps _ _ (Part.sub (by decide) hL0) h0)) (by
    split
    · exact (State.fire_keeps _ _ (Part.sub (by decide) hL0) (State.bump_keeps _ (Part.sub (by decide) hL0) (State.setPipe_keeps _ _ (Part.sub (by decide) hL0) h0)))
    · exact (SameBut.ite (State.parseFault_keeps _ _ _ _ (Part.sub (by decide) hL0) (State.setPipe_keeps _ _ (Part.sub (by decide) hL0) h0)) (State.setPipe_keeps _ _ (Part.sub (by decide) hL0) h0))))

theorem State.parseOp_keeps {L : List Part} {s0 s : State} (e : Fin 128) (op : Nat → Bool) (f : Pkt → Engine → Word → PRes)
    (hL0 : [.regs, .seam, .pipes, .epochs, .evt, .tsk, .hif, .out] ⊆ L) (h0 : SameBut L s0 s) :
    SameBut L s0 (s.parseOp e op f) := by
  unfold State.parseOp
  split
  · exact h0
  · exact (SameBut.ite h0 (by
      split
      · exact (State.setSlotOf_keeps _ _ (Part.sub (by decide) hL0) h0)
      · exact (State.parseEnd_keeps _ _ _ (Part.sub (by decide) hL0) h0)
      · exact (State.parseMal_keeps _ _ (Part.sub (by decide) hL0) h0)
      · exact (State.parseFault_keeps _ _ _ _ (Part.sub (by decide) hL0) h0)))

theorem State.enterPath_keeps {L : List Part} {s0 s : State} (k : Pkt)
    (hL0 : [.cmt, .nextPkt, .pipes] ⊆ L) (h0 : SameBut L s0 s) :
    SameBut L s0 (s.enterPath k) := by
  unfold State.enterPath
  exact (State.absorb_keeps _ (Part.sub (by decide) hL0) (State.setPipe_keeps _ _ (Part.sub (by decide) hL0) (SameBut.upd_nextPkt (Part.sub (by decide) hL0) h0)))

theorem State.viewProg_keeps {L : List Part} {s0 s : State}
    (hL0 : [.regs] ⊆ L) (h0 : SameBut L s0 s) :
    SameBut L s0 (s.viewProg) := by
  unfold State.viewProg
  exact (SameBut.foldl (fun _ _ h1 => (State.wr_keeps _ _ (Part.sub (by decide) hL0) h1)) h0)

theorem State.opProgData3_keeps {L : List Part} {s0 s : State} (r : Req) (v : Word)
    (hL0 : [.regs, .seam, .prog, .evt, .tsk, .hif, .resp, .out] ⊆ L) (h0 : SameBut L s0 s) :
    SameBut L s0 (s.opProgData3 r v) := by
  unfold State.opProgData3
  exact (SameBut.ite (State.refuse_keeps _ _ (Part.sub (by decide) hL0) h0) (State.viewProg_keeps (Part.sub (by decide) hL0) (SameBut.ite (State.setFld_keeps _ _ (Part.sub (by decide) hL0) (SameBut.upd_prog (Part.sub (by decide) hL0) h0)) (SameBut.upd_prog (Part.sub (by decide) hL0) h0))))

theorem State.opProgCmd_keeps {L : List Part} {s0 s : State} (r : Req) (v : Word)
    (hL0 : [.regs, .seam, .evt, .tsk, .hif, .resp, .out] ⊆ L) (h0 : SameBut L s0 s) :
    SameBut L s0 (s.opProgCmd r v) := by
  unfold State.opProgCmd
  exact (SameBut.ite h0 (SameBut.ite (State.refuse_keeps _ _ (Part.sub (by decide) hL0) h0) (State.setFld_keeps _ _ (Part.sub (by decide) hL0) h0)))

theorem State.copyProg_keeps {L : List Part} {s0 s : State}
    (hL0 : [.regs, .prog] ⊆ L) (h0 : SameBut L s0 s) :
    SameBut L s0 (s.copyProg) := by
  unfold State.copyProg
  exact (SameBut.ite (State.viewProg_keeps (Part.sub (by decide) hL0) (State.setFld_keeps _ _ (Part.sub (by decide) hL0) (SameBut.upd_prog (Part.sub (by decide) hL0) h0))) h0)

theorem execParseStart_keeps (pipe : Fin 4) (s : State) :
    ResKeeps [.regs, .seam, .cmt, .pipes, .evt, .tsk, .hif, .out] s (execParseStart pipe s) := by
  have hL0 := List.Subset.refl ([.regs, .seam, .cmt, .pipes, .evt, .tsk, .hif, .out] : List Part)
  have h0 := SameBut.refl [.regs, .seam, .cmt, .pipes, .evt, .tsk, .hif, .out] s
  unfold execParseStart
  try dsimp only
  split
  · exact (ResKeeps.next (State.parseStart_keeps _ _ (Part.sub (by decide) hL0) (State.setPipe_keeps _ _ (Part.sub (by decide) hL0) h0)))
  · exact (by
      split
      · exact (ResKeeps.next (State.absorb_keeps _ (Part.sub (by decide) hL0) (State.parseStart_keeps _ _ (Part.sub (by decide) hL0) (State.setPipe_keeps _ _ (Part.sub (by decide) hL0) h0))))
      · exact (ResKeeps.next h0))

theorem execNop_keeps (e : Fin 128) (s : State) :
    ResKeeps [.regs, .seam, .pipes, .epochs, .evt, .tsk, .hif, .out] s (execNop e s) := by
  have hL0 := List.Subset.refl ([.regs, .seam, .pipes, .epochs, .evt, .tsk, .hif, .out] : List Part)
  have h0 := SameBut.refl [.regs, .seam, .pipes, .epochs, .evt, .tsk, .hif, .out] s
  unfold execNop
  exact (ResKeeps.next (State.parseOp_keeps _ _ _ (Part.sub (by decide) hL0) h0))

theorem execLd_keeps (e : Fin 128) (s : State) :
    ResKeeps [.regs, .seam, .pipes, .epochs, .evt, .tsk, .hif, .out] s (execLd e s) := by
  have hL0 := List.Subset.refl ([.regs, .seam, .pipes, .epochs, .evt, .tsk, .hif, .out] : List Part)
  have h0 := SameBut.refl [.regs, .seam, .pipes, .epochs, .evt, .tsk, .hif, .out] s
  unfold execLd
  exact (ResKeeps.next (State.parseOp_keeps _ _ _ (Part.sub (by decide) hL0) h0))

theorem execLdi_keeps (e : Fin 128) (s : State) :
    ResKeeps [.regs, .seam, .pipes, .epochs, .evt, .tsk, .hif, .out] s (execLdi e s) := by
  have hL0 := List.Subset.refl ([.regs, .seam, .pipes, .epochs, .evt, .tsk, .hif, .out] : List Part)
  have h0 := SameBut.refl [.regs, .seam, .pipes, .epochs, .evt, .tsk, .hif, .out] s
  unfold execLdi
  exact (ResKeeps.next (State.parseOp_keeps _ _ _ (Part.sub (by decide) hL0) h0))

theorem execLdm_keeps (e : Fin 128) (s : State) :
    ResKeeps [.regs, .seam, .pipes, .epochs, .evt, .tsk, .hif, .out] s (execLdm e s) := by
  have hL0 := List.Subset.refl ([.regs, .seam, .pipes, .epochs, .evt, .tsk, .hif, .out] : List Part)
  have h0 := SameBut.refl [.regs, .seam, .pipes, .epochs, .evt, .tsk, .hif, .out] s
  unfold execLdm
  exact (ResKeeps.next (State.parseOp_keeps _ _ _ (Part.sub (by decide) hL0) h0))

theorem execAddi_keeps (e : Fin 128) (s : State) :
    ResKeeps [.regs, .seam, .pipes, .epochs, .evt, .tsk, .hif, .out] s (execAddi e s) := by
  have hL0 := List.Subset.refl ([.regs, .seam, .pipes, .epochs, .evt, .tsk, .hif, .out] : List Part)
  have h0 := SameBut.refl [.regs, .seam, .pipes, .epochs, .evt, .tsk, .hif, .out] s
  unfold execAddi
  exact (ResKeeps.next (State.parseOp_keeps _ _ _ (Part.sub (by decide) hL0) h0))

theorem execAdd_keeps (e : Fin 128) (s : State) :
    ResKeeps [.regs, .seam, .pipes, .epochs, .evt, .tsk, .hif, .out] s (execAdd e s) := by
  have hL0 := List.Subset.refl ([.regs, .seam, .pipes, .epochs, .evt, .tsk, .hif, .out] : List Part)
  have h0 := SameBut.refl [.regs, .seam, .pipes, .epochs, .evt, .tsk, .hif, .out] s
  unfold execAdd
  exact (ResKeeps.next (State.parseOp_keeps _ _ _ (Part.sub (by decide) hL0) h0))

theorem execAndi_keeps (e : Fin 128) (s : State) :
    ResKeeps [.regs, .seam, .pipes, .epochs, .evt, .tsk, .hif, .out] s (execAndi e s) := by
  have hL0 := List.Subset.refl ([.regs, .seam, .pipes, .epochs, .evt, .tsk, .hif, .out] : List Part)
  have h0 := SameBut.refl [.regs, .seam, .pipes, .epochs, .evt, .tsk, .hif, .out] s
  unfold execAndi
  exact (ResKeeps.next (State.parseOp_keeps _ _ _ (Part.sub (by decide) hL0) h0))

theorem execShl_keeps (e : Fin 128) (s : State) :
    ResKeeps [.regs, .seam, .pipes, .epochs, .evt, .tsk, .hif, .out] s (execShl e s) := by
  have hL0 := List.Subset.refl ([.regs, .seam, .pipes, .epochs, .evt, .tsk, .hif, .out] : List Part)
  have h0 := SameBut.refl [.regs, .seam, .pipes, .epochs, .evt, .tsk, .hif, .out] s
  unfold execShl
  exact (ResKeeps.next (State.parseOp_keeps _ _ _ (Part.sub (by decide) hL0) h0))

theorem execShr_keeps (e : Fin 128) (s : State) :
    ResKeeps [.regs, .seam, .pipes, .epochs, .evt, .tsk, .hif, .out] s (execShr e s) := by
  have hL0 := List.Subset.refl ([.regs, .seam, .pipes, .epochs, .evt, .tsk, .hif, .out] : List Part)
  have h0 := SameBut.refl [.regs, .seam, .pipes, .epochs, .evt, .tsk, .hif, .out] s
  unfold execShr
  exact (ResKeeps.next (State.parseOp_keeps _ _ _ (Part.sub (by decide) hL0) h0))

theorem execJeq_keeps (e : Fin 128) (s : State) :
    ResKeeps [.regs, .seam, .pipes, .epochs, .evt, .tsk, .hif, .out] s (execJeq e s) := by
  have hL0 := List.Subset.refl ([.regs, .seam, .pipes, .epochs, .evt, .tsk, .hif, .out] : List Part)
  have h0 := SameBut.refl [.regs, .seam, .pipes, .epochs, .evt, .tsk, .hif, .out] s
  unfold execJeq
  exact (ResKeeps.next (State.parseOp_keeps _ _ _ (Part.sub (by decide) hL0) h0))

theorem execJne_keeps (e : Fin 128) (s : State) :
    ResKeeps [.regs, .seam, .pipes, .epochs, .evt, .tsk, .hif, .out] s (execJne e s) := by
  have hL0 := List.Subset.refl ([.regs, .seam, .pipes, .epochs, .evt, .tsk, .hif, .out] : List Part)
  have h0 := SameBut.refl [.regs, .seam, .pipes, .epochs, .evt, .tsk, .hif, .out] s
  unfold execJne
  exact (ResKeeps.next (State.parseOp_keeps _ _ _ (Part.sub (by decide) hL0) h0))

theorem execJlt_keeps (e : Fin 128) (s : State) :
    ResKeeps [.regs, .seam, .pipes, .epochs, .evt, .tsk, .hif, .out] s (execJlt e s) := by
  have hL0 := List.Subset.refl ([.regs, .seam, .pipes, .epochs, .evt, .tsk, .hif, .out] : List Part)
  have h0 := SameBut.refl [.regs, .seam, .pipes, .epochs, .evt, .tsk, .hif, .out] s
  unfold execJlt
  exact (ResKeeps.next (State.parseOp_keeps _ _ _ (Part.sub (by decide) hL0) h0))

theorem execJmp_keeps (e : Fin 128) (s : State) :
    ResKeeps [.regs, .seam, .pipes, .epochs, .evt, .tsk, .hif, .out] s (execJmp e s) := by
  have hL0 := List.Subset.refl ([.regs, .seam, .pipes, .epochs, .evt, .tsk, .hif, .out] : List Part)
  have h0 := SameBut.refl [.regs, .seam, .pipes, .epochs, .evt, .tsk, .hif, .out] s
  unfold execJmp
  exact (ResKeeps.next (State.parseOp_keeps _ _ _ (Part.sub (by decide) hL0) h0))

theorem execExt_keeps (e : Fin 128) (s : State) :
    ResKeeps [.regs, .seam, .pipes, .epochs, .evt, .tsk, .hif, .out] s (execExt e s) := by
  have hL0 := List.Subset.refl ([.regs, .seam, .pipes, .epochs, .evt, .tsk, .hif, .out] : List Part)
  have h0 := SameBut.refl [.regs, .seam, .pipes, .epochs, .evt, .tsk, .hif, .out] s
  unfold execExt
  exact (ResKeeps.next (State.parseOp_keeps _ _ _ (Part.sub (by decide) hL0) h0))

theorem execKst_keeps (e : Fin 128) (s : State) :
    ResKeeps [.regs, .seam, .pipes, .epochs, .evt, .tsk, .hif, .out] s (execKst e s) := by
  have hL0 := List.Subset.refl ([.regs, .seam, .pipes, .epochs, .evt, .tsk, .hif, .out] : List Part)
  have h0 := SameBut.refl [.regs, .seam, .pipes, .epochs, .evt, .tsk, .hif, .out] s
  unfold execKst
  exact (ResKeeps.next (State.parseOp_keeps _ _ _ (Part.sub (by decide) hL0) h0))

theorem execHdr_keeps (e : Fin 128) (s : State) :
    ResKeeps [.regs, .seam, .pipes, .epochs, .evt, .tsk, .hif, .out] s (execHdr e s) := by
  have hL0 := List.Subset.refl ([.regs, .seam, .pipes, .epochs, .evt, .tsk, .hif, .out] : List Part)
  have h0 := SameBut.refl [.regs, .seam, .pipes, .epochs, .evt, .tsk, .hif, .out] s
  unfold execHdr
  exact (ResKeeps.next (State.parseOp_keeps _ _ _ (Part.sub (by decide) hL0) h0))

theorem execLchk_keeps (e : Fin 128) (s : State) :
    ResKeeps [.regs, .seam, .pipes, .epochs, .evt, .tsk, .hif, .out] s (execLchk e s) := by
  have hL0 := List.Subset.refl ([.regs, .seam, .pipes, .epochs, .evt, .tsk, .hif, .out] : List Part)
  have h0 := SameBut.refl [.regs, .seam, .pipes, .epochs, .evt, .tsk, .hif, .out] s
  unfold execLchk
  exact (ResKeeps.next (State.parseOp_keeps _ _ _ (Part.sub (by decide) hL0) h0))

theorem execFlag_keeps (e : Fin 128) (s : State) :
    ResKeeps [.regs, .seam, .pipes, .epochs, .evt, .tsk, .hif, .out] s (execFlag e s) := by
  have hL0 := List.Subset.refl ([.regs, .seam, .pipes, .epochs, .evt, .tsk, .hif, .out] : List Part)
  have h0 := SameBut.refl [.regs, .seam, .pipes, .epochs, .evt, .tsk, .hif, .out] s
  unfold execFlag
  exact (ResKeeps.next (State.parseOp_keeps _ _ _ (Part.sub (by decide) hL0) h0))

theorem execDone_keeps (e : Fin 128) (s : State) :
    ResKeeps [.regs, .seam, .pipes, .epochs, .evt, .tsk, .hif, .out] s (execDone e s) := by
  have hL0 := List.Subset.refl ([.regs, .seam, .pipes, .epochs, .evt, .tsk, .hif, .out] : List Part)
  have h0 := SameBut.refl [.regs, .seam, .pipes, .epochs, .evt, .tsk, .hif, .out] s
  unfold execDone
  exact (ResKeeps.next (State.parseOp_keeps _ _ _ (Part.sub (by decide) hL0) h0))

theorem execMal_keeps (e : Fin 128) (s : State) :
    ResKeeps [.regs, .seam, .pipes, .epochs, .evt, .tsk, .hif, .out] s (execMal e s) := by
  have hL0 := List.Subset.refl ([.regs, .seam, .pipes, .epochs, .evt, .tsk, .hif, .out] : List Part)
  have h0 := SameBut.refl [.regs, .seam, .pipes, .epochs, .evt, .tsk, .hif, .out] s
  unfold execMal
  exact (ResKeeps.next (State.parseOp_keeps _ _ _ (Part.sub (by decide) hL0) h0))

theorem execIllegalOpcode_keeps (e : Fin 128) (s : State) :
    ResKeeps [.regs, .seam, .pipes, .epochs, .evt, .tsk, .hif, .out] s (execIllegalOpcode e s) := by
  have hL0 := List.Subset.refl ([.regs, .seam, .pipes, .epochs, .evt, .tsk, .hif, .out] : List Part)
  have h0 := SameBut.refl [.regs, .seam, .pipes, .epochs, .evt, .tsk, .hif, .out] s
  unfold execIllegalOpcode
  exact (ResKeeps.next (State.parseOp_keeps _ _ _ (Part.sub (by decide) hL0) h0))

theorem execStepBudgetFault_keeps (e : Fin 128) (s : State) :
    ResKeeps [.regs, .seam, .pipes, .evt, .tsk, .hif, .out] s (execStepBudgetFault e s) := by
  have hL0 := List.Subset.refl ([.regs, .seam, .pipes, .evt, .tsk, .hif, .out] : List Part)
  have h0 := SameBut.refl [.regs, .seam, .pipes, .evt, .tsk, .hif, .out] s
  unfold execStepBudgetFault
  exact (ResKeeps.next (by
    split
    · exact (SameBut.ite (State.parseFault_keeps _ _ _ _ (Part.sub (by decide) hL0) h0) h0)
    · exact h0))

theorem execProgramFetchUe_keeps (e : Fin 128) (s : State) :
    ResKeeps [.regs, .seam, .pipes, .epochs, .evt, .tsk, .hif, .out] s (execProgramFetchUe e s) := by
  have hL0 := List.Subset.refl ([.regs, .seam, .pipes, .epochs, .evt, .tsk, .hif, .out] : List Part)
  have h0 := SameBut.refl [.regs, .seam, .pipes, .epochs, .evt, .tsk, .hif, .out] s
  unfold execProgramFetchUe
  exact (ResKeeps.next (by
    split
    · exact (State.dropSlot_keeps _ _ (Part.sub (by decide) hL0) (State.fire_keeps _ _ (Part.sub (by decide) hL0) (State.bump_keeps _ (Part.sub (by decide) hL0) h0)))
    · exact h0))

theorem execFixedExtract_keeps (pipe : Fin 4) (s : State) :
    ResKeeps [.regs, .seam, .pipes, .epochs, .evt, .tsk, .hif, .out] s (execFixedExtract pipe s) := by
  have hL0 := List.Subset.refl ([.regs, .seam, .pipes, .epochs, .evt, .tsk, .hif, .out] : List Part)
  have h0 := SameBut.refl [.regs, .seam, .pipes, .epochs, .evt, .tsk, .hif, .out] s
  unfold execFixedExtract
  exact (ResKeeps.next (by
    split
    · exact (SameBut.ite (State.parseMal_keeps _ _ (Part.sub (by decide) hL0) h0) (State.parseEnd_keeps _ _ _ (Part.sub (by decide) hL0) h0))
    · exact h0))

theorem execProgDataWrite_keeps (r : Req) (v : Word) (s : State) :
    ResKeeps [.regs, .seam, .prog, .evt, .tsk, .hif, .resp, .out] s (execProgDataWrite r v s) := by
  have hL0 := List.Subset.refl ([.regs, .seam, .prog, .evt, .tsk, .hif, .resp, .out] : List Part)
  have h0 := SameBut.refl [.regs, .seam, .prog, .evt, .tsk, .hif, .resp, .out] s
  unfold execProgDataWrite
  exact (ResKeeps.next (State.access_keeps _ _ _ _ (Part.sub (by decide) hL0) (fun _ h1 => (State.opProgData3_keeps _ _ (Part.sub (by decide) hL0) h1)) h0))

theorem execProgCopy_keeps (r : Req) (v : Word) (s : State) :
    ResKeeps [.regs, .seam, .evt, .tsk, .hif, .resp, .out] s (execProgCopy r v s) := by
  have hL0 := List.Subset.refl ([.regs, .seam, .evt, .tsk, .hif, .resp, .out] : List Part)
  have h0 := SameBut.refl [.regs, .seam, .evt, .tsk, .hif, .resp, .out] s
  unfold execProgCopy
  exact (ResKeeps.next (State.access_keeps _ _ _ _ (Part.sub (by decide) hL0) (fun _ h1 => (State.opProgCmd_keeps _ _ (Part.sub (by decide) hL0) h1)) h0))

end Sys2Proof.Machine
end

