-- ==== Sys2Proof/Laws/Classify.lean ====
section
/-! SUPPORT. Which parts of the state each operation of Machine/Classify.lean can change. -/

namespace Sys2Proof.Machine

open Sys2Proof

set_option linter.unusedTactic false
set_option linter.unreachableTactic false
set_option linter.unusedVariables false

theorem State.storeNode_keeps {L : List Part} {s0 s : State} (n : Nat) (ws : List Word)
    (hL0 : [.mem] ⊆ L) (h0 : SameBut L s0 s) :
    SameBut L s0 (s.storeNode n ws) := by
  unfold State.storeNode
  exact (State.writeBytes_keeps _ _ (Part.sub (by decide) hL0) h0)

theorem State.countRule_keeps {L : List Part} {s0 s : State} (l : Leaf)
    (hL0 : [.rcnt] ⊆ L) (h0 : SameBut L s0 s) :
    SameBut L s0 (s.countRule l) := by
  unfold State.countRule
  exact (SameBut.ite (SameBut.upd_rcnt (Part.sub (by decide) hL0) h0) h0)

theorem State.toFlow_keeps {L : List Part} {s0 s : State} (p : Fin 4) (k : Pkt)
    (hL0 : [.pipes] ⊆ L) (h0 : SameBut L s0 s) :
    SameBut L s0 (s.toFlow p k) := by
  unfold State.toFlow
  exact (State.setPipe_keeps _ _ (Part.sub (by decide) hL0) h0)

theorem State.leafAction_keeps {L : List Part} {s0 s : State} (p : Fin 4) (k0 : Pkt) (l : Leaf)
    (hL0 : [.regs, .seam, .pipes, .rcnt, .evt, .tsk, .hif, .out] ⊆ L) (h0 : SameBut L s0 s) :
    SameBut L s0 (s.leafAction p k0 l) := by
  unfold State.leafAction
  exact (SameBut.ite (State.bump_keeps _ (Part.sub (by decide) hL0) (State.countRule_keeps _ (Part.sub (by decide) hL0) h0)) (SameBut.ite (State.toFlow_keeps _ _ (Part.sub (by decide) hL0) (State.countRule_keeps _ (Part.sub (by decide) hL0) h0)) (SameBut.ite (State.countRule_keeps _ (Part.sub (by decide) hL0) h0) (SameBut.ite (State.bump_keeps _ (Part.sub (by decide) hL0) (State.toFlow_keeps _ _ (Part.sub (by decide) hL0) (State.countRule_keeps _ (Part.sub (by decide) hL0) h0))) (SameBut.ite (SameBut.ite (State.setPipe_keeps _ _ (Part.sub (by decide) hL0) (State.countRule_keeps _ (Part.sub (by decide) hL0) h0)) (SameBut.ite (State.bump_keeps _ (Part.sub (by decide) hL0) (State.toFlow_keeps _ _ (Part.sub (by decide) hL0) (State.fire_keeps _ _ (Part.sub (by decide) hL0) (State.bump_keeps _ (Part.sub (by decide) hL0) (State.countRule_keeps _ (Part.sub (by decide) hL0) h0))))) (State.fire_keeps _ _ (Part.sub (by decide) hL0) (State.bump_keeps _ (Part.sub (by decide) hL0) (State.countRule_keeps _ (Part.sub (by decide) hL0) h0))))) (State.bump_keeps _ (Part.sub (by decide) hL0) (State.toFlow_keeps _ _ (Part.sub (by decide) hL0) (State.countRule_keeps _ (Part.sub (by decide) hL0) h0))))))))

theorem State.setCtx_keeps {L : List Part} {s0 s : State} (ext : Bool) (i : Nat) (bs : List Byte)
    (hL0 : [.mem, .ecc, .out] ⊆ L) (h0 : SameBut L s0 s) :
    SameBut L s0 (s.setCtx ext i bs) := by
  unfold State.setCtx
  exact (State.storeBytes_keeps _ _ (Part.sub (by decide) hL0) h0)

theorem State.flowHit_keeps {L : List Part} {s0 s : State} (ext : Bool) (i : Nat) (k : Pkt)
    (hL0 : [.regs, .mem, .ecc, .out] ⊆ L) (h0 : SameBut L s0 s) :
    PairKeeps L s0 (s.flowHit ext i k) := by
  unfold State.flowHit
  exact (PairKeeps.mk (State.bump_keeps _ (Part.sub (by decide) hL0) (State.setCtx_keeps _ _ _ (Part.sub (by decide) hL0) h0)))

theorem State.learn_keeps {L : List Part} {s0 s : State} (key : List Byte)
    (hL0 : [.regs, .mem, .seam, .ecc, .evt, .tsk, .hif, .out] ⊆ L) (h0 : SameBut L s0 s) :
    SameBut L s0 (s.learn key) := by
  unfold State.learn
  try dsimp only
  split
  · exact (State.bump_keeps _ (Part.sub (by decide) hL0) (State.setCtx_keeps _ _ _ (Part.sub (by decide) hL0) h0))
  · exact (State.bump_keeps _ (Part.sub (by decide) hL0) (State.setCtx_keeps _ _ _ (Part.sub (by decide) hL0) h0))
  · exact (State.fire_keeps _ _ (Part.sub (by decide) hL0) (State.bump_keeps _ (Part.sub (by decide) hL0) h0))

theorem State.afterFlow_keeps {L : List Part} {s0 s : State} (p : Fin 4) (k : Pkt)
    (hL0 : [.regs, .pipes] ⊆ L) (h0 : SameBut L s0 s) :
    SameBut L s0 (s.afterFlow p k) := by
  unfold State.afterFlow
  exact (SameBut.ite (State.bump_keeps _ (Part.sub (by decide) hL0) h0) (SameBut.ite (State.setPipe_keeps _ _ (Part.sub (by decide) hL0) h0) (State.setPipe_keeps _ _ (Part.sub (by decide) hL0) h0)))

theorem State.flowUe_keeps {L : List Part} {s0 s : State}
    (hL0 : [.regs, .seam, .evt, .tsk, .hif, .out] ⊆ L) (h0 : SameBut L s0 s) :
    SameBut L s0 (s.flowUe) := by
  unfold State.flowUe
  exact (State.fire_keeps _ _ (Part.sub (by decide) hL0) (State.bump_keeps _ (Part.sub (by decide) hL0) h0))

theorem State.flowStage_keeps {L : List Part} {s0 s : State} (p : Fin 4) (k : Pkt) (ue : Bool)
    (hL0 : [.regs, .mem, .seam, .pipes, .ecc, .evt, .tsk, .hif, .out] ⊆ L) (h0 : SameBut L s0 s) :
    SameBut L s0 (s.flowStage p k ue) := by
  unfold State.flowStage
  exact (SameBut.ite (State.afterFlow_keeps _ _ (Part.sub (by decide) hL0) h0) (by
    try dsimp only
    split
    · exact (State.afterFlow_keeps _ _ (Part.sub (by decide) hL0) (PairKeeps.snd (State.flowHit_keeps _ _ _ (Part.sub (by decide) hL0) h0)))
    · exact (SameBut.ite (State.flowUe_keeps (Part.sub (by decide) hL0) h0) (by
        split
        · exact (State.afterFlow_keeps _ _ (Part.sub (by decide) hL0) (PairKeeps.snd (State.flowHit_keeps _ _ _ (Part.sub (by decide) hL0) h0)))
        · exact (State.afterFlow_keeps _ _ (Part.sub (by decide) hL0) (SameBut.ite (State.learn_keeps _ (Part.sub (by decide) hL0) (State.bump_keeps _ (Part.sub (by decide) hL0) h0)) (State.bump_keeps _ (Part.sub (by decide) hL0) h0)))))))

theorem State.opFlowCmd_keeps {L : List Part} {s0 s : State} (r : Req) (v : Word) (ue : Bool)
    (hL0 : [.regs, .mem, .seam, .ecc, .evt, .tsk, .hif, .resp, .out] ⊆ L) (h0 : SameBut L s0 s) :
    SameBut L s0 (s.opFlowCmd r v ue) := by
  unfold State.opFlowCmd
  exact (SameBut.ite (State.refuse_keeps _ _ (Part.sub (by decide) hL0) h0) (SameBut.ite (State.setCtx_keeps _ _ _ (Part.sub (by decide) hL0) (SameBut.ite (State.setCtx_keeps _ _ _ (Part.sub (by decide) hL0) (SameBut.ite (SameBut.ite (State.setFld_keeps _ _ (Part.sub (by decide) hL0) (State.setFld_keeps _ _ (Part.sub (by decide) hL0) h0)) (SameBut.foldl (fun _ _ h1 => (State.wr_keeps _ _ (Part.sub (by decide) hL0) h1)) (State.setFld_keeps _ _ (Part.sub (by decide) hL0) h0))) (State.setFld_keeps _ _ (Part.sub (by decide) hL0) h0))) (SameBut.ite (SameBut.ite (State.setFld_keeps _ _ (Part.sub (by decide) hL0) (State.setFld_keeps _ _ (Part.sub (by decide) hL0) h0)) (SameBut.foldl (fun _ _ h2 => (State.wr_keeps _ _ (Part.sub (by decide) hL0) h2)) (State.setFld_keeps _ _ (Part.sub (by decide) hL0) h0))) (State.setFld_keeps _ _ (Part.sub (by decide) hL0) h0)))) (SameBut.ite (State.setCtx_keeps _ _ _ (Part.sub (by decide) hL0) (SameBut.ite (SameBut.ite (State.setFld_keeps _ _ (Part.sub (by decide) hL0) (State.setFld_keeps _ _ (Part.sub (by decide) hL0) h0)) (SameBut.foldl (fun _ _ h3 => (State.wr_keeps _ _ (Part.sub (by decide) hL0) h3)) (State.setFld_keeps _ _ (Part.sub (by decide) hL0) h0))) (State.setFld_keeps _ _ (Part.sub (by decide) hL0) h0))) (SameBut.ite (SameBut.ite (State.setFld_keeps _ _ (Part.sub (by decide) hL0) (State.setFld_keeps _ _ (Part.sub (by decide) hL0) h0)) (SameBut.foldl (fun _ _ h4 => (State.wr_keeps _ _ (Part.sub (by decide) hL0) h4)) (State.setFld_keeps _ _ (Part.sub (by decide) hL0) h0))) (State.setFld_keeps _ _ (Part.sub (by decide) hL0) h0)))))

theorem State.opFlowCtl_keeps {L : List Part} {s0 s : State} (r : Req) (v : Word)
    (hL0 : [.regs, .seam, .evt, .tsk, .hif, .resp, .out] ⊆ L) (h0 : SameBut L s0 s) :
    SameBut L s0 (s.opFlowCtl r v) := by
  unfold State.opFlowCtl
  exact (SameBut.ite (State.refuse_keeps _ _ (Part.sub (by decide) hL0) h0) (State.store_keeps _ _ (Part.sub (by decide) hL0) h0))

theorem State.viewTree_keeps {L : List Part} {s0 s : State}
    (hL0 : [.regs] ⊆ L) (h0 : SameBut L s0 s) :
    SameBut L s0 (s.viewTree) := by
  unfold State.viewTree
  exact (SameBut.foldl (fun _ _ h1 => (State.wr_keeps _ _ (Part.sub (by decide) hL0) h1)) h0)

theorem State.opTreeData3_keeps {L : List Part} {s0 s : State} (r : Req) (v : Word)
    (hL0 : [.regs, .mem, .seam, .evt, .tsk, .hif, .resp, .out] ⊆ L) (h0 : SameBut L s0 s) :
    SameBut L s0 (s.opTreeData3 r v) := by
  unfold State.opTreeData3
  exact (SameBut.ite (State.refuse_keeps _ _ (Part.sub (by decide) hL0) h0) (State.viewTree_keeps (Part.sub (by decide) hL0) (SameBut.ite (State.setFld_keeps _ _ (Part.sub (by decide) hL0) (State.storeNode_keeps _ _ (Part.sub (by decide) hL0) h0)) (State.storeNode_keeps _ _ (Part.sub (by decide) hL0) h0))))

theorem execClassifyWalk_keeps (pipe : Fin 4) (ueAt : Option Nat) (s : State) :
    ResKeeps [.regs, .seam, .pipes, .epochs, .rcnt, .evt, .tsk, .hif, .out] s (execClassifyWalk pipe ueAt s) := by
  have hL0 := List.Subset.refl ([.regs, .seam, .pipes, .epochs, .rcnt, .evt, .tsk, .hif, .out] : List Part)
  have h0 := SameBut.refl [.regs, .seam, .pipes, .epochs, .rcnt, .evt, .tsk, .hif, .out] s
  unfold execClassifyWalk
  split
  · exact (ResKeeps.next h0)
  · exact (ResKeeps.ite (ResKeeps.next h0) (by
      try dsimp only
      split
      · exact (ResKeeps.next (State.retireEpochs_keeps (Part.sub (by decide) hL0) (State.bump_keeps _ (Part.sub (by decide) hL0) (State.setPipe_keeps _ _ (Part.sub (by decide) hL0) h0))))
      · exact (by
          try dsimp only
          split
          · exact (ResKeeps.next (State.retireEpochs_keeps (Part.sub (by decide) hL0) (State.leafAction_keeps _ _ _ (Part.sub (by decide) hL0) (State.bump64_keeps _ _ _ (Part.sub (by decide) hL0) (State.setPipe_keeps _ _ (Part.sub (by decide) hL0) h0)))))
          · exact (ResKeeps.next (State.retireEpochs_keeps (Part.sub (by decide) hL0) (State.fire_keeps _ _ (Part.sub (by decide) hL0) (State.bump_keeps _ (Part.sub (by decide) hL0) (State.setPipe_keeps _ _ (Part.sub (by decide) hL0) h0)))))
          · exact (by
              try dsimp only
              split
              · exact (ResKeeps.next (State.retireEpochs_keeps (Part.sub (by decide) hL0) (State.leafAction_keeps _ _ _ (Part.sub (by decide) hL0) (State.fire_keeps _ _ (Part.sub (by decide) hL0) (State.bump_keeps _ (Part.sub (by decide) hL0) (State.setPipe_keeps _ _ (Part.sub (by decide) hL0) h0))))))
              · exact (ResKeeps.next (State.retireEpochs_keeps (Part.sub (by decide) hL0) (State.bump_keeps _ (Part.sub (by decide) hL0) (State.fire_keeps _ _ (Part.sub (by decide) hL0) (State.bump_keeps _ (Part.sub (by decide) hL0) (State.setPipe_keeps _ _ (Part.sub (by decide) hL0) h0))))))))))

theorem execRecirculate_keeps (pipe : Fin 4) (s : State) :
    ResKeeps [.regs, .seam, .pipes, .epochs, .evt, .tsk, .hif, .out] s (execRecirculate pipe s) := by
  have hL0 := List.Subset.refl ([.regs, .seam, .pipes, .epochs, .evt, .tsk, .hif, .out] : List Part)
  have h0 := SameBut.refl [.regs, .seam, .pipes, .epochs, .evt, .tsk, .hif, .out] s
  unfold execRecirculate
  try dsimp only
  split
  · exact (ResKeeps.next h0)
  · exact (ResKeeps.ite (ResKeeps.next (State.retireEpochs_keeps (Part.sub (by decide) hL0) (State.fire_keeps _ _ (Part.sub (by decide) hL0) (State.bump_keeps _ (Part.sub (by decide) hL0) (State.setPipe_keeps _ _ (Part.sub (by decide) hL0) h0))))) (ResKeeps.next (State.bump_keeps _ (Part.sub (by decide) hL0) (State.setPipe_keeps _ _ (Part.sub (by decide) hL0) h0))))

theorem execFlowLookup_keeps (pipe : Fin 4) (ue : Bool) (s : State) :
    ResKeeps [.regs, .mem, .seam, .pipes, .ecc, .evt, .tsk, .hif, .out] s (execFlowLookup pipe ue s) := by
  have hL0 := List.Subset.refl ([.regs, .mem, .seam, .pipes, .ecc, .evt, .tsk, .hif, .out] : List Part)
  have h0 := SameBut.refl [.regs, .mem, .seam, .pipes, .ecc, .evt, .tsk, .hif, .out] s
  unfold execFlowLookup
  split
  · exact (ResKeeps.next h0)
  · exact (ResKeeps.ite (ResKeeps.next h0) (ResKeeps.next (State.flowStage_keeps _ _ _ (Part.sub (by decide) hL0) (State.setPipe_keeps _ _ (Part.sub (by decide) hL0) h0))))

theorem execFlowAge_keeps (ext : Bool) (idx : Nat) (s : State) :
    ResKeeps [.regs, .mem, .ecc, .out] s (execFlowAge ext idx s) := by
  have hL0 := List.Subset.refl ([.regs, .mem, .ecc, .out] : List Part)
  have h0 := SameBut.refl [.regs, .mem, .ecc, .out] s
  unfold execFlowAge
  exact (ResKeeps.next (SameBut.ite (State.bump_keeps _ (Part.sub (by decide) hL0) (State.setCtx_keeps _ _ _ (Part.sub (by decide) hL0) h0)) h0))

theorem execFlowRead_keeps (r : Req) (v : Word) (ue : Bool) (s : State) :
    ResKeeps [.regs, .mem, .seam, .ecc, .evt, .tsk, .hif, .resp, .out] s (execFlowRead r v ue s) := by
  have hL0 := List.Subset.refl ([.regs, .mem, .seam, .ecc, .evt, .tsk, .hif, .resp, .out] : List Part)
  have h0 := SameBut.refl [.regs, .mem, .seam, .ecc, .evt, .tsk, .hif, .resp, .out] s
  unfold execFlowRead
  exact (ResKeeps.next (State.access_keeps _ _ _ _ (Part.sub (by decide) hL0) (fun _ h1 => (State.opFlowCmd_keeps _ _ _ (Part.sub (by decide) hL0) h1)) h0))

theorem execFlowWrite_keeps (r : Req) (v : Word) (s : State) :
    ResKeeps [.regs, .mem, .seam, .ecc, .evt, .tsk, .hif, .resp, .out] s (execFlowWrite r v s) := by
  have hL0 := List.Subset.refl ([.regs, .mem, .seam, .ecc, .evt, .tsk, .hif, .resp, .out] : List Part)
  have h0 := SameBut.refl [.regs, .mem, .seam, .ecc, .evt, .tsk, .hif, .resp, .out] s
  unfold execFlowWrite
  exact (ResKeeps.next (State.access_keeps _ _ _ _ (Part.sub (by decide) hL0) (fun _ h1 => (State.opFlowCmd_keeps _ _ _ (Part.sub (by decide) hL0) h1)) h0))

theorem execFlowInvalidate_keeps (r : Req) (v : Word) (s : State) :
    ResKeeps [.regs, .mem, .seam, .ecc, .evt, .tsk, .hif, .resp, .out] s (execFlowInvalidate r v s) := by
  have hL0 := List.Subset.refl ([.regs, .mem, .seam, .ecc, .evt, .tsk, .hif, .resp, .out] : List Part)
  have h0 := SameBut.refl [.regs, .mem, .seam, .ecc, .evt, .tsk, .hif, .resp, .out] s
  unfold execFlowInvalidate
  exact (ResKeeps.next (State.access_keeps _ _ _ _ (Part.sub (by decide) hL0) (fun _ h1 => (State.opFlowCmd_keeps _ _ _ (Part.sub (by decide) hL0) h1)) h0))

theorem execTreeDataWrite_keeps (r : Req) (v : Word) (s : State) :
    ResKeeps [.regs, .mem, .seam, .evt, .tsk, .hif, .resp, .out] s (execTreeDataWrite r v s) := by
  have hL0 := List.Subset.refl ([.regs, .mem, .seam, .evt, .tsk, .hif, .resp, .out] : List Part)
  have h0 := SameBut.refl [.regs, .mem, .seam, .evt, .tsk, .hif, .resp, .out] s
  unfold execTreeDataWrite
  exact (ResKeeps.next (State.access_keeps _ _ _ _ (Part.sub (by decide) hL0) (fun _ h1 => (State.opTreeData3_keeps _ _ (Part.sub (by decide) hL0) h1)) h0))

theorem execCoreTreeStore_keeps (n : Fin 8) (node : Nat) (word : Fin 4) (v : Word) (full : Bool) (s : State) :
    ResKeeps [.regs, .mem, .tsk, .cpu, .resp] s (execCoreTreeStore n node word v full s) := by
  have hL0 := List.Subset.refl ([.regs, .mem, .tsk, .cpu, .resp] : List Part)
  have h0 := SameBut.refl [.regs, .mem, .tsk, .cpu, .resp] s
  unfold execCoreTreeStore
  exact (ResKeeps.ite ResKeeps.fault (ResKeeps.ite (ResKeeps.next h0) (ResKeeps.ite (ResKeeps.next (State.coreFault_keeps _ _ _ (Part.sub (by decide) hL0) h0)) (ResKeeps.ite (ResKeeps.next (SameBut.upd_cpu (Part.sub (by decide) hL0) h0)) (by
    split
    · exact (ResKeeps.ite (ResKeeps.ite (ResKeeps.next (SameBut.ite (SameBut.upd_cpu (Part.sub (by decide) hL0) (State.coreFault_keeps _ _ _ (Part.sub (by decide) hL0) h0)) (SameBut.upd_cpu (Part.sub (by decide) hL0) (SameBut.ite (State.viewTree_keeps (Part.sub (by decide) hL0) (State.storeNode_keeps _ _ (Part.sub (by decide) hL0) (State.reply_keeps _ (Part.sub (by decide) hL0) h0))) (State.storeNode_keeps _ _ (Part.sub (by decide) hL0) (State.reply_keeps _ (Part.sub (by decide) hL0) h0)))))) (ResKeeps.next (SameBut.upd_cpu (Part.sub (by decide) hL0) h0))) (ResKeeps.next (SameBut.ite (State.coreFault_keeps _ _ _ (Part.sub (by decide) hL0) h0) (SameBut.upd_cpu (Part.sub (by decide) hL0) h0))))
    · exact (ResKeeps.next (SameBut.ite (State.coreFault_keeps _ _ _ (Part.sub (by decide) hL0) h0) h0)))))))

theorem execPolice_keeps (pipe : Fin 4) (s : State) :
    ResKeeps [.regs, .pipes, .policers] s (execPolice pipe s) := by
  have hL0 := List.Subset.refl ([.regs, .pipes, .policers] : List Part)
  have h0 := SameBut.refl [.regs, .pipes, .policers] s
  unfold execPolice
  split
  · exact (ResKeeps.next h0)
  · exact (ResKeeps.ite (ResKeeps.next h0) (ResKeeps.ite (by
      split
      · rename_i heq; have h1 := PairKeeps.pair heq (State.policer_keeps _ _ (Part.sub (by decide) hL0) (State.setPipe_keeps _ _ (Part.sub (by decide) hL0) h0))
        exact (ResKeeps.next (State.setPipe_keeps _ _ (Part.sub (by decide) hL0) h1))
      · rename_i heq; have h2 := PairKeeps.pair heq (State.policer_keeps _ _ (Part.sub (by decide) hL0) (State.setPipe_keeps _ _ (Part.sub (by decide) hL0) h0))
        exact (ResKeeps.next h2)) (ResKeeps.next (State.setPipe_keeps _ _ (Part.sub (by decide) hL0) (State.setPipe_keeps _ _ (Part.sub (by decide) hL0) h0)))))

theorem State.sendOn_keeps {L : List Part} {s0 s : State} (pipe : Fin 4) (q : Pkt)
    (hL0 : [.pipes, .excWait] ⊆ L) (h0 : SameBut L s0 s) :
    SameBut L s0 (s.sendOn pipe q) := by
  unfold State.sendOn
  exact (SameBut.ite (SameBut.upd_excWait (Part.sub (by decide) hL0) h0) (State.setPipe_keeps _ _ (Part.sub (by decide) hL0) h0))

theorem State.sendCopies_keeps {L : List Part} {s0 s : State} (pipe : Fin 4) (k : Pkt) (h : Nat)
    (hL0 : [.regs, .seam, .nextPkt, .pipes, .excWait, .bufs, .evt, .log, .tsk, .hif, .out] ⊆ L) (h0 : SameBut L s0 s) :
    SameBut L s0 (s.sendCopies pipe k h) := by
  unfold State.sendCopies
  exact (SameBut.ite (State.sendOn_keeps _ _ (Part.sub (by decide) hL0) (State.sendOn_keeps _ _ (Part.sub (by decide) hL0) (SameBut.upd_nextPkt (Part.sub (by decide) hL0) (PairKeeps.snd (State.bufShare_keeps _ _ _ _ _ (Part.sub (by decide) hL0) h0))))) (State.sendOn_keeps _ _ (Part.sub (by decide) hL0) h0))

theorem execBufferAllocate_keeps (pipe : Fin 4) (s : State) :
    ResKeeps [.regs, .mem, .seam, .nextPkt, .pipes, .excWait, .bufs, .bufRot, .ecc, .evt, .log, .tsk, .hif, .out, .fresh] s (execBufferAllocate pipe s) := by
  have hL0 := List.Subset.refl ([.regs, .mem, .seam, .nextPkt, .pipes, .excWait, .bufs, .bufRot, .ecc, .evt, .log, .tsk, .hif, .out, .fresh] : List Part)
  have h0 := SameBut.refl [.regs, .mem, .seam, .nextPkt, .pipes, .excWait, .bufs, .bufRot, .ecc, .evt, .log, .tsk, .hif, .out, .fresh] s
  unfold execBufferAllocate
  split
  · exact (ResKeeps.next h0)
  · exact (by
      try dsimp only
      split
      · exact (ResKeeps.next (State.sendCopies_keeps _ _ _ (Part.sub (by decide) hL0) (State.setBuf_keeps _ _ (Part.sub (by decide) hL0) (State.setPipe_keeps _ _ (Part.sub (by decide) hL0) h0))))
      · exact (ResKeeps.ite (ResKeeps.next (State.fire_keeps _ _ (Part.sub (by decide) hL0) (State.bump_keeps _ (Part.sub (by decide) hL0) (State.setPipe_keeps _ _ (Part.sub (by decide) hL0) h0)))) (by
          split
          · rename_i heq; have h1 := PairKeeps.pair heq (State.allocate_keeps _ _ (Part.sub (by decide) hL0) (State.setPipe_keeps _ _ (Part.sub (by decide) hL0) h0))
            exact (ResKeeps.next (State.sendCopies_keeps _ _ _ (Part.sub (by decide) hL0) (State.storeBytes_keeps _ _ (Part.sub (by decide) hL0) (State.setBuf_keeps _ _ (Part.sub (by decide) hL0) h1))))
          · rename_i heq; have h2 := PairKeeps.pair heq (State.allocate_keeps _ _ (Part.sub (by decide) hL0) (State.setPipe_keeps _ _ (Part.sub (by decide) hL0) h0))
            exact (ResKeeps.next (State.fire_keeps _ _ (Part.sub (by decide) hL0) (State.bump_keeps _ (Part.sub (by decide) hL0) h2))))))

theorem execEnqueue_keeps (pipe : Fin 4) (s : State) :
    ResKeeps [.regs, .seam, .pipes, .bufs, .queues, .lports, .evt, .log, .tsk, .hif, .out] s (execEnqueue pipe s) := by
  have hL0 := List.Subset.refl ([.regs, .seam, .pipes, .bufs, .queues, .lports, .evt, .log, .tsk, .hif, .out] : List Part)
  have h0 := SameBut.refl [.regs, .seam, .pipes, .bufs, .queues, .lports, .evt, .log, .tsk, .hif, .out] s
  unfold execEnqueue
  split
  · exact (ResKeeps.next h0)
  · exact (ResKeeps.next (State.enqueue_keeps _ (Part.sub (by decide) hL0) (State.setPipe_keeps _ _ (Part.sub (by decide) hL0) h0)))

end Sys2Proof.Machine
end

