-- ==== Sys2Proof/Laws/Boundary.lean ====
section
/-! SUPPORT. Which parts of the state each operation of Machine/Boundary.lean can change. -/

namespace Sys2Proof.Machine

open Sys2Proof

set_option linter.unusedTactic false
set_option linter.unreachableTactic false
set_option linter.unusedVariables false

theorem State.setTrib_keeps {L : List Part} {s0 s : State} (ctx : Fin 1024) (x : Trib)
    (hL0 : [.tribs] ⊆ L) (h0 : SameBut L s0 s) :
    SameBut L s0 (s.setTrib ctx x) := by
  unfold State.setTrib
  exact (SameBut.upd_tribs (Part.sub (by decide) hL0) h0)

theorem State.tribFlag_keeps {L : List Part} {s0 s : State} (ctx : Fin 1024) (bits : BitVec 9)
    (hL0 : [.regs, .seam, .tribs, .evt, .tsk, .hif, .out] ⊆ L) (h0 : SameBut L s0 s) :
    SameBut L s0 (s.tribFlag ctx bits) := by
  unfold State.tribFlag
  exact (SameBut.ite h0 (SameBut.ite (State.setTrib_keeps _ _ (Part.sub (by decide) hL0) h0) (State.fire_keeps _ _ (Part.sub (by decide) hL0) (State.setFld_keeps _ _ (Part.sub (by decide) hL0) (State.setTrib_keeps _ _ (Part.sub (by decide) hL0) h0)))))

theorem State.tribRestart_keeps {L : List Part} {s0 s : State} (ctx : Fin 1024) (e : Nat)
    (hL0 : [.regs, .seam, .tribs, .evt, .tsk, .hif, .timers, .out] ⊆ L) (h0 : SameBut L s0 s) :
    SameBut L s0 (s.tribRestart ctx e) := by
  unfold State.tribRestart
  exact (State.tribFlag_keeps _ _ (Part.sub (by decide) hL0) (SameBut.ite (State.stopTimer_keeps _ (Part.sub (by decide) hL0) (State.setTrib_keeps _ _ (Part.sub (by decide) hL0) h0)) (State.startTimer_keeps _ (Part.sub (by decide) hL0) (State.setTrib_keeps _ _ (Part.sub (by decide) hL0) h0))))

theorem State.tribSwitch_keeps {L : List Part} {s0 s : State} (ctx : Fin 1024) (old : Nat) (new : Nat) (copy : Nat)
    (hL0 : [.regs, .seam, .tribs, .evt, .tsk, .hif, .timers, .out] ⊆ L) (h0 : SameBut L s0 s) :
    SameBut L s0 (s.tribSwitch ctx old new copy) := by
  unfold State.tribSwitch
  exact (SameBut.ite (State.fire_keeps _ _ (Part.sub (by decide) hL0) (State.tribFlag_keeps _ _ (Part.sub (by decide) hL0) (SameBut.ite (State.tribFlag_keeps _ _ (Part.sub (by decide) hL0) (SameBut.ite (State.tribRestart_keeps _ _ (Part.sub (by decide) hL0) h0) h0)) (SameBut.ite (State.tribRestart_keeps _ _ (Part.sub (by decide) hL0) h0) h0)))) (SameBut.ite (State.tribFlag_keeps _ _ (Part.sub (by decide) hL0) (SameBut.ite (State.tribRestart_keeps _ _ (Part.sub (by decide) hL0) h0) h0)) (SameBut.ite (State.tribRestart_keeps _ _ (Part.sub (by decide) hL0) h0) h0)))

theorem State.viewTbl_keeps {L : List Part} {s0 s : State}
    (hL0 : [.regs] ⊆ L) (h0 : SameBut L s0 s) :
    SameBut L s0 (s.viewTbl) := by
  unfold State.viewTbl
  exact (State.setFld_keeps _ _ (Part.sub (by decide) hL0) (State.wr_keeps _ _ (Part.sub (by decide) hL0) (State.wr_keeps _ _ (Part.sub (by decide) hL0) h0)))

theorem State.viewGsm_keeps {L : List Part} {s0 s : State}
    (hL0 : [.regs] ⊆ L) (h0 : SameBut L s0 s) :
    SameBut L s0 (s.viewGsm) := by
  unfold State.viewGsm
  exact (State.setFld_keeps _ _ (Part.sub (by decide) hL0) (State.wr_keeps _ _ (Part.sub (by decide) hL0) h0))

theorem State.refreshViews_keeps {L : List Part} {s0 s : State} (p : Nat)
    (hL0 : [.regs] ⊆ L) (h0 : SameBut L s0 s) :
    SameBut L s0 (s.refreshViews p) := by
  unfold State.refreshViews
  exact (SameBut.ite (State.viewTbl_keeps (Part.sub (by decide) hL0) h0) (SameBut.ite (State.viewGsm_keeps (Part.sub (by decide) hL0) h0) (SameBut.ite (State.viewQmap_keeps (Part.sub (by decide) hL0) h0) (SameBut.ite (State.viewProg_keeps (Part.sub (by decide) hL0) h0) (SameBut.ite (SameBut.foldl (fun _ _ h1 => (State.viewGate_keeps _ (Part.sub (by decide) hL0) h1)) h0) h0)))))

theorem State.turnEpoch_keeps {L : List Part} {s0 s : State} (r : Nat)
    (hL0 : [.epochs] ⊆ L) (h0 : SameBut L s0 s) :
    SameBut L s0 (s.turnEpoch r) := by
  unfold State.turnEpoch
  exact (State.setEpoch_keeps _ _ (Part.sub (by decide) hL0) (by
    split
    · exact (State.setEpoch_keeps _ _ (Part.sub (by decide) hL0) h0)
    · exact h0))

theorem State.dropMarks_keeps {L : List Part} {s0 s : State} (tag : BitVec 8)
    (hL0 : [.cmt, .pipes] ⊆ L) (h0 : SameBut L s0 s) :
    SameBut L s0 (s.dropMarks tag) := by
  unfold State.dropMarks
  exact (SameBut.upd_cmt_pipes (Part.sub (by decide) hL0) h0)

theorem State.applyPage_keeps {L : List Part} {s0 s : State} (i : Fin 4) (p : Nat)
    (hL0 : [.regs, .seam, .cmt, .pipes, .epochs, .evt, .tsk, .hif, .out] ⊆ L) (h0 : SameBut L s0 s) :
    SameBut L s0 (s.applyPage i p) := by
  unfold State.applyPage
  exact (SameBut.ite (State.dropMarks_keeps _ (Part.sub (by decide) hL0) (SameBut.upd_seam (Part.sub (by decide) hL0) (State.slotApplied_keeps _ (Part.sub (by decide) hL0) (SameBut.ite (State.retireEpochs_keeps (Part.sub (by decide) hL0) (State.setSlot_keeps _ _ (Part.sub (by decide) hL0) (SameBut.ite (SameBut.foldl (fun _ _ h2 => (State.turnEpoch_keeps _ (Part.sub (by decide) hL0) h2)) (SameBut.upd_hif (Part.sub (by decide) hL0) (State.setFld_keeps _ _ (Part.sub (by decide) hL0) (State.setFld_keeps _ _ (Part.sub (by decide) hL0) (State.refreshViews_keeps _ (Part.sub (by decide) hL0) (SameBut.foldl (fun _ _ h1 => (State.wr_keeps _ _ (Part.sub (by decide) hL0) h1)) h0)))))) (SameBut.upd_hif (Part.sub (by decide) hL0) (State.setFld_keeps _ _ (Part.sub (by decide) hL0) (State.setFld_keeps _ _ (Part.sub (by decide) hL0) (State.refreshViews_keeps _ (Part.sub (by decide) hL0) (SameBut.foldl (fun _ _ h3 => (State.wr_keeps _ _ (Part.sub (by decide) hL0) h3)) h0)))))))) (State.setSlot_keeps _ _ (Part.sub (by decide) hL0) (SameBut.ite (SameBut.foldl (fun _ _ h5 => (State.turnEpoch_keeps _ (Part.sub (by decide) hL0) h5)) (SameBut.upd_hif (Part.sub (by decide) hL0) (State.setFld_keeps _ _ (Part.sub (by decide) hL0) (State.setFld_keeps _ _ (Part.sub (by decide) hL0) (State.refreshViews_keeps _ (Part.sub (by decide) hL0) (SameBut.foldl (fun _ _ h4 => (State.wr_keeps _ _ (Part.sub (by decide) hL0) h4)) h0)))))) (SameBut.upd_hif (Part.sub (by decide) hL0) (State.setFld_keeps _ _ (Part.sub (by decide) hL0) (State.setFld_keeps _ _ (Part.sub (by decide) hL0) (State.refreshViews_keeps _ (Part.sub (by decide) hL0) (SameBut.foldl (fun _ _ h6 => (State.wr_keeps _ _ (Part.sub (by decide) hL0) h6)) h0))))))))))) (SameBut.ite (State.retireEpochs_keeps (Part.sub (by decide) hL0) (State.setSlot_keeps _ _ (Part.sub (by decide) hL0) (SameBut.ite (SameBut.foldl (fun _ _ h8 => (State.turnEpoch_keeps _ (Part.sub (by decide) hL0) h8)) (SameBut.upd_hif (Part.sub (by decide) hL0) (State.setFld_keeps _ _ (Part.sub (by decide) hL0) (State.setFld_keeps _ _ (Part.sub (by decide) hL0) (State.refreshViews_keeps _ (Part.sub (by decide) hL0) (SameBut.foldl (fun _ _ h7 => (State.wr_keeps _ _ (Part.sub (by decide) hL0) h7)) h0)))))) (SameBut.upd_hif (Part.sub (by decide) hL0) (State.setFld_keeps _ _ (Part.sub (by decide) hL0) (State.setFld_keeps _ _ (Part.sub (by decide) hL0) (State.refreshViews_keeps _ (Part.sub (by decide) hL0) (SameBut.foldl (fun _ _ h9 => (State.wr_keeps _ _ (Part.sub (by decide) hL0) h9)) h0)))))))) (State.setSlot_keeps _ _ (Part.sub (by decide) hL0) (SameBut.ite (SameBut.foldl (fun _ _ h11 => (State.turnEpoch_keeps _ (Part.sub (by decide) hL0) h11)) (SameBut.upd_hif (Part.sub (by decide) hL0) (State.setFld_keeps _ _ (Part.sub (by decide) hL0) (State.setFld_keeps _ _ (Part.sub (by decide) hL0) (State.refreshViews_keeps _ (Part.sub (by decide) hL0) (SameBut.foldl (fun _ _ h10 => (State.wr_keeps _ _ (Part.sub (by decide) hL0) h10)) h0)))))) (SameBut.upd_hif (Part.sub (by decide) hL0) (State.setFld_keeps _ _ (Part.sub (by decide) hL0) (State.setFld_keeps _ _ (Part.sub (by decide) hL0) (State.refreshViews_keeps _ (Part.sub (by decide) hL0) (SameBut.foldl (fun _ _ h12 => (State.wr_keeps _ _ (Part.sub (by decide) hL0) h12)) h0)))))))))

theorem State.settle_keeps {L : List Part} {s0 s : State} (i : Fin 4)
    (hL0 : [.regs, .seam, .cmt, .pipes, .epochs, .evt, .tsk, .hif, .out] ⊆ L) (h0 : SameBut L s0 s) :
    SameBut L s0 (s.settle i) := by
  unfold State.settle
  exact (SameBut.foldl (fun _ _ h1 => (SameBut.ite (State.applyPage_keeps _ _ (Part.sub (by decide) hL0) h1) h1)) h0)

theorem State.markUnit_keeps {L : List Part} {s0 s : State} (i : Fin 4) (u : ApplyUnit)
    (hL0 : [.cmt] ⊆ L) (h0 : SameBut L s0 s) :
    SameBut L s0 (s.markUnit i u) := by
  unfold State.markUnit
  exact (SameBut.ite h0 (State.setSlot_keeps _ _ (Part.sub (by decide) hL0) h0))

theorem State.loadEpochs_keeps {L : List Part} {s0 s : State} (i : Fin 4)
    (hL0 : [.epochs] ⊆ L) (h0 : SameBut L s0 s) :
    SameBut L s0 (s.loadEpochs i) := by
  unfold State.loadEpochs
  exact (SameBut.foldl (fun _ _ h1 => (State.setEpoch_keeps _ _ (Part.sub (by decide) hL0) h1)) h0)

theorem State.setPolicers_keeps {L : List Part} {s0 s : State} (i : Fin 4)
    (hL0 : [.policers] ⊆ L) (h0 : SameBut L s0 s) :
    SameBut L s0 (s.setPolicers i) := by
  unfold State.setPolicers
  exact (SameBut.foldl (fun _ _ h1 => (State.setPolicer_keeps _ _ (Part.sub (by decide) hL0) h1)) h0)

theorem State.switchUnit_keeps {L : List Part} {s0 s : State} (i : Fin 4) (u : ApplyUnit)
    (hL0 : [.regs, .seam, .cmt, .tribs, .pipes, .epochs, .shapers, .policers, .evt, .tsk, .hif, .timers, .out] ⊆ L) (h0 : SameBut L s0 s) :
    SameBut L s0 (s.switchUnit i u) := by
  unfold State.switchUnit
  exact (SameBut.ite h0 (State.settle_keeps _ (Part.sub (by decide) hL0) (by
    split
    · exact (SameBut.ite (State.markUnit_keeps _ _ (Part.sub (by decide) hL0) (State.loadEpochs_keeps _ (Part.sub (by decide) hL0) h0)) (State.markUnit_keeps _ _ (Part.sub (by decide) hL0) h0))
    · exact (SameBut.ite (State.markUnit_keeps _ _ (Part.sub (by decide) hL0) (State.setPolicers_keeps _ (Part.sub (by decide) hL0) h0)) (State.markUnit_keeps _ _ (Part.sub (by decide) hL0) h0))
    · exact (State.markUnit_keeps _ _ (Part.sub (by decide) hL0) h0)
    · exact (SameBut.foldl (fun _ _ h2 => (State.setShaper_keeps _ (Part.sub (by decide) hL0) h2)) (SameBut.foldl (fun _ _ h1 => (State.markUnit_keeps _ _ (Part.sub (by decide) hL0) h1)) h0))
    · exact (State.fire_keeps _ _ (Part.sub (by decide) hL0) (State.bump_keeps _ (Part.sub (by decide) hL0) (State.markUnit_keeps _ _ (Part.sub (by decide) hL0) h0)))
    · exact (State.tribSwitch_keeps _ _ _ _ (Part.sub (by decide) hL0) (State.markUnit_keeps _ _ (Part.sub (by decide) hL0) h0))
    · exact (State.markUnit_keeps _ _ (Part.sub (by decide) hL0) h0)
    · exact (State.markUnit_keeps _ _ (Part.sub (by decide) hL0) h0))))

theorem State.switchAny_keeps {L : List Part} {s0 s : State} (u : ApplyUnit)
    (hL0 : [.regs, .seam, .cmt, .tribs, .pipes, .epochs, .shapers, .policers, .evt, .tsk, .hif, .timers, .out] ⊆ L) (h0 : SameBut L s0 s) :
    SameBut L s0 (s.switchAny u) := by
  unfold State.switchAny
  exact (SameBut.foldl (fun _ _ h1 => (State.switchUnit_keeps _ _ (Part.sub (by decide) hL0) h1)) h0)

theorem State.switchNow_keeps {L : List Part} {s0 s : State} (i : Fin 4)
    (hL0 : [.regs, .seam, .cmt, .tribs, .pipes, .epochs, .shapers, .policers, .evt, .tsk, .hif, .timers, .out] ⊆ L) (h0 : SameBut L s0 s) :
    SameBut L s0 (s.switchNow i) := by
  unfold State.switchNow
  exact (State.settle_keeps _ (Part.sub (by decide) hL0) (SameBut.foldl (fun _ _ h2 => (State.switchUnit_keeps _ _ (Part.sub (by decide) hL0) h2)) (SameBut.ite (SameBut.ite h0 (SameBut.foldl (fun _ _ h1 => (State.tribSwitch_keeps _ _ _ _ (Part.sub (by decide) hL0) (State.markUnit_keeps _ _ (Part.sub (by decide) hL0) h1))) h0)) h0)))

theorem execMarkerInject_keeps (tag : BitVec 8) (pipe : Fin 4) (s : State) :
    ResKeeps [.cmt, .pipes] s (execMarkerInject tag pipe s) := by
  have hL0 := List.Subset.refl ([.cmt, .pipes] : List Part)
  have h0 := SameBut.refl [.cmt, .pipes] s
  unfold execMarkerInject
  split
  · exact (ResKeeps.ite (ResKeeps.next h0) (ResKeeps.next (State.absorb_keeps _ (Part.sub (by decide) hL0) (State.setPipe_keeps _ _ (Part.sub (by decide) hL0) (SameBut.upd_cmt (Part.sub (by decide) hL0) h0)))))
  · exact (ResKeeps.next h0)

theorem execMarkerPass_keeps (tag : BitVec 8) (pipe : Fin 4) (st : Stage) (s : State) :
    ResKeeps [.regs, .seam, .cmt, .tribs, .pipes, .epochs, .shapers, .policers, .evt, .tsk, .hif, .timers, .out] s (execMarkerPass tag pipe st s) := by
  have hL0 := List.Subset.refl ([.regs, .seam, .cmt, .tribs, .pipes, .epochs, .shapers, .policers, .evt, .tsk, .hif, .timers, .out] : List Part)
  have h0 := SameBut.refl [.regs, .seam, .cmt, .tribs, .pipes, .epochs, .shapers, .policers, .evt, .tsk, .hif, .timers, .out] s
  unfold execMarkerPass
  split
  · exact (ResKeeps.ite (ResKeeps.next h0) (by
      try dsimp only
      split
      · exact (ResKeeps.next (State.switchUnit_keeps _ _ (Part.sub (by decide) hL0) (SameBut.upd_cmt (Part.sub (by decide) hL0) h0)))
      · exact (ResKeeps.next (SameBut.upd_cmt (Part.sub (by decide) hL0) h0))))
  · exact (ResKeeps.next h0)

theorem execBoundaryApply_keeps (tag : BitVec 8) (u : ApplyUnit) (s : State) :
    ResKeeps [.regs, .seam, .cmt, .tribs, .pipes, .epochs, .shapers, .policers, .evt, .tsk, .hif, .timers, .out] s (execBoundaryApply tag u s) := by
  have hL0 := List.Subset.refl ([.regs, .seam, .cmt, .tribs, .pipes, .epochs, .shapers, .policers, .evt, .tsk, .hif, .timers, .out] : List Part)
  have h0 := SameBut.refl [.regs, .seam, .cmt, .tribs, .pipes, .epochs, .shapers, .policers, .evt, .tsk, .hif, .timers, .out] s
  unfold execBoundaryApply
  split
  · exact (ResKeeps.next h0)
  · exact (by
      split
      · exact (ResKeeps.next h0)
      · exact (ResKeeps.next h0)
      · exact (ResKeeps.next (SameBut.ite (State.switchUnit_keeps _ _ (Part.sub (by decide) hL0) h0) h0))
      · exact (ResKeeps.next (State.switchUnit_keeps _ _ (Part.sub (by decide) hL0) h0))
      · exact (ResKeeps.next (State.switchUnit_keeps _ _ (Part.sub (by decide) hL0) h0))
      · exact (ResKeeps.next (State.switchUnit_keeps _ _ (Part.sub (by decide) hL0) h0)))

theorem execGateSwitch_keeps (l : Fin 48) (s : State) :
    ResKeeps [.regs, .seam, .cmt, .tribs, .pipes, .epochs, .shapers, .policers, .evt, .tsk, .hif, .timers, .out] s (execGateSwitch l s) := by
  have hL0 := List.Subset.refl ([.regs, .seam, .cmt, .tribs, .pipes, .epochs, .shapers, .policers, .evt, .tsk, .hif, .timers, .out] : List Part)
  have h0 := SameBut.refl [.regs, .seam, .cmt, .tribs, .pipes, .epochs, .shapers, .policers, .evt, .tsk, .hif, .timers, .out] s
  unfold execGateSwitch
  exact (ResKeeps.next (State.switchAny_keeps _ (Part.sub (by decide) hL0) h0))

end Sys2Proof.Machine
end

