-- ==== Sys2Proof/Laws/Ptp.lean ====
section
/-! SUPPORT. Which parts of the state each operation of Machine/Ptp.lean can change. -/

namespace Sys2Proof.Machine

open Sys2Proof

set_option linter.unusedTactic false
set_option linter.unreachableTactic false
set_option linter.unusedVariables false

theorem State.stampOut_keeps {L : List Part} {s0 s : State} (k : Pkt) (stamp : Nat)
    (hL0 : [.regs, .seam, .tim, .evt, .tsk, .hif, .out] ⊆ L) (h0 : SameBut L s0 s) :
    SameBut L s0 (s.stampOut k stamp) := by
  unfold State.stampOut
  split
  · exact h0
  · exact (SameBut.ite (State.fire_keeps _ _ (Part.sub (by decide) hL0) (SameBut.upd_tim (Part.sub (by decide) hL0) h0)) (State.fire_keeps _ _ (Part.sub (by decide) hL0) (State.bump_keeps _ (Part.sub (by decide) hL0) h0)))

theorem State.restore_keeps {L : List Part} {s0 s : State} (k : Pkt) (bs : List Byte)
    (hL0 : [.mem, .ecc, .queues, .out] ⊆ L) (h0 : SameBut L s0 s) :
    PairKeeps L s0 (s.restore k bs) := by
  unfold State.restore
  exact (PairKeeps.mk (by
    split
    · exact (State.storeBytes_keeps _ _ (Part.sub (by decide) hL0) (State.setQueue_keeps _ _ (Part.sub (by decide) hL0) h0))
    · exact (State.setQueue_keeps _ _ (Part.sub (by decide) hL0) h0)))

theorem State.tcEgress_keeps {L : List Part} {s0 s : State} (port : Nat) (k : Pkt) (stamp : Nat)
    (hL0 : [.regs, .mem, .seam, .ecc, .queues, .tim, .evt, .tsk, .hif, .out] ⊆ L) (h0 : SameBut L s0 s) :
    PairKeeps L s0 (s.tcEgress port k stamp) := by
  unfold State.tcEgress
  exact (PairKeeps.ite (PairKeeps.mk h0) (by
    split
    · exact (PairKeeps.mk h0)
    · exact (PairKeeps.ite (PairKeeps.mk h0) (PairKeeps.ite (PairKeeps.mk (State.fire_keeps _ _ (Part.sub (by decide) hL0) (State.bump_keeps _ (Part.sub (by decide) hL0) h0))) (PairKeeps.ite (PairKeeps.mk (State.bump_keeps _ (Part.sub (by decide) hL0) (PairKeeps.snd (State.restore_keeps _ _ (Part.sub (by decide) hL0) h0)))) (PairKeeps.ite (PairKeeps.mk (SameBut.upd_tim (Part.sub (by decide) hL0) h0)) (PairKeeps.ite (PairKeeps.mk h0) (by
        split
        · exact (PairKeeps.mk (State.bump_keeps _ (Part.sub (by decide) hL0) (SameBut.upd_tim (Part.sub (by decide) hL0) (PairKeeps.snd (State.restore_keeps _ _ (Part.sub (by decide) hL0) h0)))))
        · exact (PairKeeps.mk (State.fire_keeps _ _ (Part.sub (by decide) hL0) (State.bump_keeps _ (Part.sub (by decide) hL0) h0)))))))))))

theorem State.egress_keeps {L : List Part} {s0 s : State} (port : Nat) (k : Pkt) (stamp : Nat)
    (hL0 : [.regs, .mem, .seam, .ecc, .queues, .tim, .evt, .tsk, .hif, .out] ⊆ L) (h0 : SameBut L s0 s) :
    PairKeeps L s0 (s.egress port k stamp) := by
  unfold State.egress
  exact (PairKeeps.mk (State.stampOut_keeps _ _ (Part.sub (by decide) hL0) (PairKeeps.snd (State.tcEgress_keeps _ _ _ (Part.sub (by decide) hL0) h0))))

theorem execFuEntryExpire_keeps (idx : Fin 256) (s : State) :
    ResKeeps [.tim] s (execFuEntryExpire idx s) := by
  have hL0 := List.Subset.refl ([.tim] : List Part)
  have h0 := SameBut.refl [.tim] s
  unfold execFuEntryExpire
  exact (ResKeeps.next (SameBut.upd_tim (Part.sub (by decide) hL0) h0))

end Sys2Proof.Machine
end

