-- ==== Sys2Proof/Laws/Lanes.lean ====
section
/-! SUPPORT. Which parts of the state each operation of Machine/Lanes.lean can change. -/

namespace Sys2Proof.Machine

open Sys2Proof

set_option linter.unusedTactic false
set_option linter.unreachableTactic false
set_option linter.unusedVariables false

theorem State.setLane_keeps {L : List Part} {s0 s : State} (l : Fin 48) (x : Lane)
    (hL0 : [.lanes] ⊆ L) (h0 : SameBut L s0 s) :
    SameBut L s0 (s.setLane l x) := by
  unfold State.setLane
  exact (SameBut.upd_lanes (Part.sub (by decide) hL0) h0)

theorem State.setPort_keeps {L : List Part} {s0 s : State} (p : Fin 8) (x : LPort)
    (hL0 : [.lports] ⊆ L) (h0 : SameBut L s0 s) :
    SameBut L s0 (s.setPort p x) := by
  unfold State.setPort
  exact (SameBut.upd_lports (Part.sub (by decide) hL0) h0)

theorem State.laneEvent_keeps {L : List Part} {s0 s : State} (l : Fin 48) (b : Nat)
    (hL0 : [.regs, .seam, .lanes, .evt, .tsk, .hif, .out] ⊆ L) (h0 : SameBut L s0 s) :
    SameBut L s0 (s.laneEvent l b) := by
  unfold State.laneEvent
  exact (State.fire_keeps _ _ (Part.sub (by decide) hL0) (SameBut.ite (State.setLane_keeps _ _ (Part.sub (by decide) hL0) h0) h0))

theorem State.linkChg_keeps {L : List Part} {s0 s : State} (l : Fin 48)
    (hL0 : [.regs, .seam, .lanes, .evt, .tsk, .hif, .out] ⊆ L) (h0 : SameBut L s0 s) :
    SameBut L s0 (s.linkChg l) := by
  unfold State.linkChg
  exact (State.laneEvent_keeps _ _ (Part.sub (by decide) hL0) h0)

theorem State.laneTo_keeps {L : List Part} {s0 s : State} (l : Fin 48) (st : LaneSt)
    (hL0 : [.lanes, .timers] ⊆ L) (h0 : SameBut L s0 s) :
    SameBut L s0 (s.laneTo l st) := by
  unfold State.laneTo
  exact (SameBut.ite (State.startTimer_keeps _ (Part.sub (by decide) hL0) (State.setLane_keeps _ _ (Part.sub (by decide) hL0) h0)) (State.stopTimer_keeps _ (Part.sub (by decide) hL0) (State.setLane_keeps _ _ (Part.sub (by decide) hL0) h0)))

theorem State.laneStart_keeps {L : List Part} {s0 s : State} (l : Fin 48)
    (hL0 : [.lanes, .timers] ⊆ L) (h0 : SameBut L s0 s) :
    SameBut L s0 (s.laneStart l) := by
  unfold State.laneStart
  exact (State.laneTo_keeps _ _ (Part.sub (by decide) hL0) h0)

theorem State.laneRestart_keeps {L : List Part} {s0 s : State} (l : Fin 48)
    (hL0 : [.regs, .rows, .lanes, .timers] ⊆ L) (h0 : SameBut L s0 s) :
    SameBut L s0 (s.laneRestart l) := by
  unfold State.laneRestart
  exact (SameBut.ite (State.laneStart_keeps _ (Part.sub (by decide) hL0) (SameBut.upd_rows (Part.sub (by decide) hL0) (State.setLane_keeps _ _ (Part.sub (by decide) hL0) (SameBut.ite (State.bump_keeps _ (Part.sub (by decide) hL0) h0) h0)))) (State.laneTo_keeps _ _ (Part.sub (by decide) hL0) (SameBut.upd_rows (Part.sub (by decide) hL0) (State.setLane_keeps _ _ (Part.sub (by decide) hL0) (SameBut.ite (State.bump_keeps _ (Part.sub (by decide) hL0) h0) h0)))))

theorem State.laneSleep_keeps {L : List Part} {s0 s : State} (l : Fin 48)
    (hL0 : [.lanes, .timers] ⊆ L) (h0 : SameBut L s0 s) :
    SameBut L s0 (s.laneSleep l) := by
  unfold State.laneSleep
  exact (State.laneTo_keeps _ _ (Part.sub (by decide) hL0) (State.setLane_keeps _ _ (Part.sub (by decide) hL0) h0))

theorem State.laneTodo_keeps {L : List Part} {s0 s : State} (l : Fin 48)
    (hL0 : [.regs, .rows, .lanes, .timers] ⊆ L) (h0 : SameBut L s0 s) :
    SameBut L s0 (s.laneTodo l) := by
  unfold State.laneTodo
  split
  · exact (State.laneRestart_keeps _ (Part.sub (by decide) hL0) h0)
  · exact (State.laneSleep_keeps _ (Part.sub (by decide) hL0) h0)
  · exact h0

theorem State.opLaneCtl_keeps {L : List Part} {s0 s : State} (l : Fin 48) (v : Word)
    (hL0 : [.regs, .rows, .lanes, .timers] ⊆ L) (h0 : SameBut L s0 s) :
    SameBut L s0 (s.opLaneCtl l v) := by
  unfold State.opLaneCtl
  exact (SameBut.ite h0 (by
    split
    · exact (State.laneRestart_keeps _ (Part.sub (by decide) hL0) (State.store_keeps _ _ (Part.sub (by decide) hL0) h0))
    · exact (SameBut.ite (State.laneRestart_keeps _ (Part.sub (by decide) hL0) (State.store_keeps _ _ (Part.sub (by decide) hL0) h0)) (State.store_keeps _ _ (Part.sub (by decide) hL0) h0))
    · exact (State.laneTodo_keeps _ (Part.sub (by decide) hL0) (State.setLane_keeps _ _ (Part.sub (by decide) hL0) (State.store_keeps _ _ (Part.sub (by decide) hL0) h0)))))

theorem State.recalRequest_keeps {L : List Part} {s0 s : State} (l : Fin 48)
    (hL0 : [.regs, .seam, .lanes, .evt, .tsk, .hif, .timers, .out] ⊆ L) (h0 : SameBut L s0 s) :
    SameBut L s0 (s.recalRequest l) := by
  unfold State.recalRequest
  exact (SameBut.ite (State.laneTo_keeps _ _ (Part.sub (by decide) hL0) (State.setLane_keeps _ _ (Part.sub (by decide) hL0) h0)) (SameBut.ite (State.setLane_keeps _ _ (Part.sub (by decide) hL0) h0) (State.laneEvent_keeps _ _ (Part.sub (by decide) hL0) (State.setLane_keeps _ _ (Part.sub (by decide) hL0) h0))))

theorem State.laneWake_keeps {L : List Part} {s0 s : State} (l : Fin 48)
    (hL0 : [.lanes, .timers] ⊆ L) (h0 : SameBut L s0 s) :
    SameBut L s0 (s.laneWake l) := by
  unfold State.laneWake
  exact (SameBut.ite (State.laneTo_keeps _ _ (Part.sub (by decide) hL0) h0) h0)

theorem State.opLaneCmd_keeps {L : List Part} {s0 s : State} (l : Fin 48) (v : Word)
    (hL0 : [.regs, .seam, .rows, .lanes, .evt, .tsk, .hif, .timers, .out] ⊆ L) (h0 : SameBut L s0 s) :
    SameBut L s0 (s.opLaneCmd l v) := by
  unfold State.opLaneCmd
  exact (SameBut.ite (State.linkChg_keeps _ (Part.sub (by decide) hL0) (State.laneStart_keeps _ (Part.sub (by decide) hL0) (State.bump_keeps _ (Part.sub (by decide) hL0) (SameBut.ite (State.setLane_keeps _ _ (Part.sub (by decide) hL0) (SameBut.ite (State.recalRequest_keeps _ (Part.sub (by decide) hL0) (SameBut.ite (State.laneWake_keeps _ (Part.sub (by decide) hL0) (SameBut.ite (State.laneTodo_keeps _ (Part.sub (by decide) hL0) (State.setLane_keeps _ _ (Part.sub (by decide) hL0) h0)) h0)) (SameBut.ite (State.laneTodo_keeps _ (Part.sub (by decide) hL0) (State.setLane_keeps _ _ (Part.sub (by decide) hL0) h0)) h0))) (SameBut.ite (State.laneWake_keeps _ (Part.sub (by decide) hL0) (SameBut.ite (State.laneTodo_keeps _ (Part.sub (by decide) hL0) (State.setLane_keeps _ _ (Part.sub (by decide) hL0) h0)) h0)) (SameBut.ite (State.laneTodo_keeps _ (Part.sub (by decide) hL0) (State.setLane_keeps _ _ (Part.sub (by decide) hL0) h0)) h0)))) (SameBut.ite (State.recalRequest_keeps _ (Part.sub (by decide) hL0) (SameBut.ite (State.laneWake_keeps _ (Part.sub (by decide) hL0) (SameBut.ite (State.laneTodo_keeps _ (Part.sub (by decide) hL0) (State.setLane_keeps _ _ (Part.sub (by decide) hL0) h0)) h0)) (SameBut.ite (State.laneTodo_keeps _ (Part.sub (by decide) hL0) (State.setLane_keeps _ _ (Part.sub (by decide) hL0) h0)) h0))) (SameBut.ite (State.laneWake_keeps _ (Part.sub (by decide) hL0) (SameBut.ite (State.laneTodo_keeps _ (Part.sub (by decide) hL0) (State.setLane_keeps _ _ (Part.sub (by decide) hL0) h0)) h0)) (SameBut.ite (State.laneTodo_keeps _ (Part.sub (by decide) hL0) (State.setLane_keeps _ _ (Part.sub (by decide) hL0) h0)) h0))))))) (SameBut.ite (State.setLane_keeps _ _ (Part.sub (by decide) hL0) (SameBut.ite (State.recalRequest_keeps _ (Part.sub (by decide) hL0) (SameBut.ite (State.laneWake_keeps _ (Part.sub (by decide) hL0) (SameBut.ite (State.laneTodo_keeps _ (Part.sub (by decide) hL0) (State.setLane_keeps _ _ (Part.sub (by decide) hL0) h0)) h0)) (SameBut.ite (State.laneTodo_keeps _ (Part.sub (by decide) hL0) (State.setLane_keeps _ _ (Part.sub (by decide) hL0) h0)) h0))) (SameBut.ite (State.laneWake_keeps _ (Part.sub (by decide) hL0) (SameBut.ite (State.laneTodo_keeps _ (Part.sub (by decide) hL0) (State.setLane_keeps _ _ (Part.sub (by decide) hL0) h0)) h0)) (SameBut.ite (State.laneTodo_keeps _ (Part.sub (by decide) hL0) (State.setLane_keeps _ _ (Part.sub (by decide) hL0) h0)) h0)))) (SameBut.ite (State.recalRequest_keeps _ (Part.sub (by decide) hL0) (SameBut.ite (State.laneWake_keeps _ (Part.sub (by decide) hL0) (SameBut.ite (State.laneTodo_keeps _ (Part.sub (by decide) hL0) (State.setLane_keeps _ _ (Part.sub (by decide) hL0) h0)) h0)) (SameBut.ite (State.laneTodo_keeps _ (Part.sub (by decide) hL0) (State.setLane_keeps _ _ (Part.sub (by decide) hL0) h0)) h0))) (SameBut.ite (State.laneWake_keeps _ (Part.sub (by decide) hL0) (SameBut.ite (State.laneTodo_keeps _ (Part.sub (by decide) hL0) (State.setLane_keeps _ _ (Part.sub (by decide) hL0) h0)) h0)) (SameBut.ite (State.laneTodo_keeps _ (Part.sub (by decide) hL0) (State.setLane_keeps _ _ (Part.sub (by decide) hL0) h0)) h0)))))

theorem State.laneUp_keeps {L : List Part} {s0 s : State} (l : Fin 48)
    (hL0 : [.regs, .seam, .lanes, .evt, .tsk, .hif, .timers, .out] ⊆ L) (h0 : SameBut L s0 s) :
    SameBut L s0 (s.laneUp l) := by
  unfold State.laneUp
  exact (SameBut.ite (State.linkChg_keeps _ (Part.sub (by decide) hL0) (State.laneTo_keeps _ _ (Part.sub (by decide) hL0) (State.setLane_keeps _ _ (Part.sub (by decide) hL0) h0))) h0)

theorem State.laneLost_keeps {L : List Part} {s0 s : State} (l : Fin 48)
    (hL0 : [.regs, .seam, .lanes, .evt, .tsk, .hif, .timers, .out] ⊆ L) (h0 : SameBut L s0 s) :
    SameBut L s0 (s.laneLost l) := by
  unfold State.laneLost
  exact (SameBut.ite (State.linkChg_keeps _ (Part.sub (by decide) hL0) (State.laneStart_keeps _ (Part.sub (by decide) hL0) (State.bump_keeps _ (Part.sub (by decide) hL0) h0))) h0)

theorem State.portBump_keeps {L : List Part} {s0 s : State} (e : EthPort) (lane : Nat → Nat) (port : Nat → Nat)
    (hL0 : [.regs] ⊆ L) (h0 : SameBut L s0 s) :
    SameBut L s0 (s.portBump e lane port) := by
  unfold State.portBump
  split
  · exact (State.bump_keeps _ (Part.sub (by decide) hL0) h0)
  · exact (State.bump_keeps _ (Part.sub (by decide) hL0) h0)

theorem State.portEvent_keeps {L : List Part} {s0 s : State} (p : Fin 8) (b : Nat)
    (hL0 : [.regs, .seam, .lports, .evt, .tsk, .hif, .out] ⊆ L) (h0 : SameBut L s0 s) :
    SameBut L s0 (s.portEvent p b) := by
  unfold State.portEvent
  exact (State.fire_keeps _ _ (Part.sub (by decide) hL0) (SameBut.ite (State.setPort_keeps _ _ (Part.sub (by decide) hL0) h0) h0))

theorem State.macEvent_keeps {L : List Part} {s0 s : State} (e : EthPort) (lane : Nat) (port : Nat)
    (hL0 : [.regs, .seam, .lanes, .lports, .evt, .tsk, .hif, .out] ⊆ L) (h0 : SameBut L s0 s) :
    SameBut L s0 (s.macEvent e lane port) := by
  unfold State.macEvent
  split
  · exact (State.laneEvent_keeps _ _ (Part.sub (by decide) hL0) h0)
  · exact (State.portEvent_keeps _ _ (Part.sub (by decide) hL0) h0)

theorem State.setMac_keeps {L : List Part} {s0 s : State} (e : EthPort) (m : Mac)
    (hL0 : [.lanes, .lports] ⊆ L) (h0 : SameBut L s0 s) :
    SameBut L s0 (s.setMac e m) := by
  unfold State.setMac
  split
  · exact (State.setLane_keeps _ _ (Part.sub (by decide) hL0) h0)
  · exact (State.setPort_keeps _ _ (Part.sub (by decide) hL0) h0)

theorem State.fcIgnore_keeps {L : List Part} {s0 s : State} (e : EthPort)
    (hL0 : [.regs, .seam, .lanes, .lports, .evt, .tsk, .hif, .out] ⊆ L) (h0 : SameBut L s0 s) :
    SameBut L s0 (s.fcIgnore e) := by
  unfold State.fcIgnore
  exact (State.macEvent_keeps _ _ _ (Part.sub (by decide) hL0) (State.portBump_keeps _ _ _ (Part.sub (by decide) hL0) h0))

theorem State.setPause_keeps {L : List Part} {s0 s : State} (e : EthPort) (pri : Nat) (quanta : Nat)
    (hL0 : [.timers] ⊆ L) (h0 : SameBut L s0 s) :
    SameBut L s0 (s.setPause e pri quanta) := by
  unfold State.setPause
  exact (SameBut.ite (State.stopTimer_keeps _ (Part.sub (by decide) hL0) h0) (State.startTimer_keeps _ (Part.sub (by decide) hL0) h0))

theorem State.takePause_keeps {L : List Part} {s0 s : State} (e : EthPort) (quanta : Nat)
    (hL0 : [.regs, .seam, .lanes, .lports, .evt, .tsk, .hif, .timers, .out] ⊆ L) (h0 : SameBut L s0 s) :
    SameBut L s0 (s.takePause e quanta) := by
  unfold State.takePause
  exact (SameBut.ite (State.setPause_keeps _ _ _ (Part.sub (by decide) hL0) (State.portBump_keeps _ _ _ (Part.sub (by decide) hL0) h0)) (State.fcIgnore_keeps _ (Part.sub (by decide) hL0) h0))

theorem State.takePfc_keeps {L : List Part} {s0 s : State} (e : EthPort) (en : BitVec 8) (quanta : List Nat)
    (hL0 : [.regs, .seam, .lanes, .lports, .evt, .tsk, .hif, .timers, .out] ⊆ L) (h0 : SameBut L s0 s) :
    SameBut L s0 (s.takePfc e en quanta) := by
  unfold State.takePfc
  exact (SameBut.ite (SameBut.foldl (fun _ _ h1 => (SameBut.ite (State.setPause_keeps _ _ _ (Part.sub (by decide) hL0) h1) h1)) (State.portBump_keeps _ _ _ (Part.sub (by decide) hL0) h0)) (State.fcIgnore_keeps _ (Part.sub (by decide) hL0) h0))

theorem State.countRxOk_keeps {L : List Part} {s0 s : State} (e : EthPort)
    (hL0 : [.regs] ⊆ L) (h0 : SameBut L s0 s) :
    SameBut L s0 (s.countRxOk e) := by
  unfold State.countRxOk
  split
  · exact (State.bump64_keeps _ _ _ (Part.sub (by decide) hL0) h0)
  · exact (State.bump_keeps _ (Part.sub (by decide) hL0) h0)

theorem State.controlFrame_keeps {L : List Part} {s0 s : State} (e : EthPort) (bs : List Byte)
    (hL0 : [.regs, .seam, .lanes, .lports, .evt, .tsk, .hif, .timers, .out] ⊆ L) (h0 : SameBut L s0 s) :
    SameBut L s0 (s.controlFrame e bs) := by
  unfold State.controlFrame
  exact (SameBut.ite (State.takePause_keeps _ _ (Part.sub (by decide) hL0) h0) (SameBut.ite (State.takePfc_keeps _ _ _ (Part.sub (by decide) hL0) h0) (State.fcIgnore_keeps _ (Part.sub (by decide) hL0) h0)))

theorem State.sendPause_keeps {L : List Part} {s0 s : State} (e : EthPort) (xoff : Bool) (pfc : Option (BitVec 8)) (quanta : Nat)
    (hL0 : [.regs, .out] ⊆ L) (h0 : SameBut L s0 s) :
    SameBut L s0 (s.sendPause e xoff pfc quanta) := by
  unfold State.sendPause
  exact (State.emit_keeps _ (Part.sub (by decide) hL0) (State.portBump_keeps _ _ _ (Part.sub (by decide) hL0) h0))

theorem State.pauseSend_keeps {L : List Part} {s0 s : State} (e : EthPort)
    (hL0 : [.regs, .lanes, .lports, .out] ⊆ L) (h0 : SameBut L s0 s) :
    SameBut L s0 (s.pauseSend e) := by
  unfold State.pauseSend
  exact (SameBut.ite h0 (SameBut.ite (SameBut.ite (State.sendPause_keeps _ _ _ _ (Part.sub (by decide) hL0) (State.setMac_keeps _ _ (Part.sub (by decide) hL0) h0)) (SameBut.ite (State.sendPause_keeps _ _ _ _ (Part.sub (by decide) hL0) (State.setMac_keeps _ _ (Part.sub (by decide) hL0) h0)) h0)) (SameBut.ite (State.setMac_keeps _ _ (Part.sub (by decide) hL0) (SameBut.ite (State.sendPause_keeps _ _ _ _ (Part.sub (by decide) hL0) (SameBut.ite (State.sendPause_keeps _ _ _ _ (Part.sub (by decide) hL0) h0) h0)) (SameBut.ite (State.sendPause_keeps _ _ _ _ (Part.sub (by decide) hL0) h0) h0))) h0)))

theorem State.pauseAgain_keeps {L : List Part} {s0 s : State} (e : EthPort)
    (hL0 : [.regs, .out] ⊆ L) (h0 : SameBut L s0 s) :
    SameBut L s0 (s.pauseAgain e) := by
  unfold State.pauseAgain
  exact (SameBut.ite h0 (SameBut.ite (SameBut.ite (State.sendPause_keeps _ _ _ _ (Part.sub (by decide) hL0) h0) h0) (SameBut.ite (SameBut.ite (State.sendPause_keeps _ _ _ _ (Part.sub (by decide) hL0) h0) h0) h0)))

theorem State.ctAbort_keeps {L : List Part} {s0 s : State} (l : Fin 48)
    (hL0 : [.regs, .seam, .lanes, .evt, .tsk, .hif, .out] ⊆ L) (h0 : SameBut L s0 s) :
    SameBut L s0 (s.ctAbort l) := by
  unfold State.ctAbort
  exact (State.emit_keeps _ (Part.sub (by decide) hL0) (State.laneEvent_keeps _ _ (Part.sub (by decide) hL0) (State.bump_keeps _ (Part.sub (by decide) hL0) h0)))

theorem State.discardFrame_keeps {L : List Part} {s0 s : State} (f : FrameIn)
    (hL0 : [.regs, .seam, .lanes, .evt, .tsk, .hif, .out] ⊆ L) (h0 : SameBut L s0 s) :
    SameBut L s0 (s.discardFrame f) := by
  unfold State.discardFrame
  exact (SameBut.foldl (fun _ _ h1 => (State.ctAbort_keeps _ (Part.sub (by decide) hL0) h1)) h0)

theorem State.countFec_keeps {L : List Part} {s0 s : State} (e : EthPort) (f : FrameIn)
    (hL0 : [.regs, .seam, .lanes, .evt, .tsk, .hif, .out] ⊆ L) (h0 : SameBut L s0 s) :
    SameBut L s0 (s.countFec e f) := by
  unfold State.countFec
  split
  · exact (SameBut.ite (State.bumpBy_keeps _ _ (Part.sub (by decide) hL0) (State.bumpBy_keeps _ _ (Part.sub (by decide) hL0) h0)) (State.laneEvent_keeps _ _ (Part.sub (by decide) hL0) (State.bumpBy_keeps _ _ (Part.sub (by decide) hL0) (State.bumpBy_keeps _ _ (Part.sub (by decide) hL0) h0))))
  · exact h0

theorem State.frameIn_keeps {L : List Part} {s0 s : State} (e : EthPort) (f : FrameIn)
    (hL0 : [.regs, .seam, .cmt, .nextPkt, .pipes, .lanes, .lports, .evt, .tsk, .hif, .timers, .out] ⊆ L) (h0 : SameBut L s0 s) :
    SameBut L s0 (s.frameIn e f) := by
  unfold State.frameIn
  exact (SameBut.ite (State.discardFrame_keeps _ (Part.sub (by decide) hL0) (State.portBump_keeps _ _ _ (Part.sub (by decide) hL0) (State.countFec_keeps _ _ (Part.sub (by decide) hL0) h0))) (SameBut.ite (State.discardFrame_keeps _ (Part.sub (by decide) hL0) (State.macEvent_keeps _ _ _ (Part.sub (by decide) hL0) (State.portBump_keeps _ _ _ (Part.sub (by decide) hL0) (State.countFec_keeps _ _ (Part.sub (by decide) hL0) h0)))) (SameBut.ite (State.discardFrame_keeps _ (Part.sub (by decide) hL0) (State.portBump_keeps _ _ _ (Part.sub (by decide) hL0) (State.countFec_keeps _ _ (Part.sub (by decide) hL0) h0))) (SameBut.ite (State.controlFrame_keeps _ _ (Part.sub (by decide) hL0) (State.countRxOk_keeps _ (Part.sub (by decide) hL0) (State.countFec_keeps _ _ (Part.sub (by decide) hL0) h0))) (State.enterPath_keeps _ (Part.sub (by decide) hL0) (State.countRxOk_keeps _ (Part.sub (by decide) hL0) (State.countFec_keeps _ _ (Part.sub (by decide) hL0) h0)))))))

theorem State.cleanHead_keeps {L : List Part} {s0 s : State} (e : EthPort) (q n : Nat)
    (hL0 : [.regs, .seam, .bufs, .queues, .lports, .evt, .log, .tsk, .hif, .out] ⊆ L) (h0 : SameBut L s0 s) : SameBut L s0 (s.cleanHead e q n) := by
  induction n generalizing s with
  | zero => exact h0
  | succ n ih =>
    unfold State.cleanHead
    have h := State.dropDead_keeps q (s.queue q).length (Part.sub (by decide) hL0) h0
    dsimp only
    cases ((s.dropDead q (s.queue q).length).waiting q).head? with
    | none => exact h
    | some k =>
      refine SameBut.ite (ih (State.portBump_keeps _ _ _ (Part.sub (by decide) hL0)
        (State.leaveQueue_keeps _ (Part.sub (by decide) hL0) h))) ?_
      cases e with
      | port p => exact h
      | lane l =>
        dsimp only
        split
        · exact SameBut.ite (ih (State.fire_keeps _ _ (Part.sub (by decide) hL0) (State.bump_keeps _ (Part.sub (by decide) hL0)
            (State.bump_keeps _ (Part.sub (by decide) hL0) (State.leaveQueue_keeps _ (Part.sub (by decide) hL0) h))))) h
        · exact h

theorem State.transmit_keeps {L : List Part} {s0 s : State} (e : EthPort) (q : Nat)
    (hL0 : [.regs, .mem, .seam, .ecc, .queues, .lanes, .lports, .tim, .evt, .tsk, .hif, .out] ⊆ L) (h0 : SameBut L s0 s) :
    SameBut L s0 (s.transmit e q) := by
  unfold State.transmit
  split
  · exact h0
  · exact (State.setMac_keeps _ _ (Part.sub (by decide) hL0) (PairKeeps.snd (State.egress_keeps _ _ _ (Part.sub (by decide) hL0) (State.markSelected_keeps _ _ (Part.sub (by decide) hL0) h0))))

theorem State.endTx_keeps {L : List Part} {s0 s : State} (e : EthPort) (leave : State → Pkt → State)
    (hL0 : [.regs, .rows, .lanes, .lports, .timers] ⊆ L) (hop : ∀ t a2, SameBut L s0 t → SameBut L s0 (leave t a2)) (h0 : SameBut L s0 s) :
    SameBut L s0 (s.endTx e leave) := by
  unfold State.endTx
  split
  · exact h0
  · exact (by
      try dsimp only
      split
      · exact (State.laneTodo_keeps _ (Part.sub (by decide) hL0) (State.setLane_keeps _ _ (Part.sub (by decide) hL0) (State.setMac_keeps _ _ (Part.sub (by decide) hL0) (hop _ _ h0))))
      · exact (State.setPort_keeps _ _ (Part.sub (by decide) hL0) (State.setMac_keeps _ _ (Part.sub (by decide) hL0) (hop _ _ h0))))

theorem State.raiseStart_keeps {L : List Part} {s0 s : State} (e : EthPort)
    (hL0 : [.regs] ⊆ L) (h0 : SameBut L s0 s) :
    SameBut L s0 (s.raiseStart e) := by
  unfold State.raiseStart
  exact (SameBut.ite (State.setFld_keeps _ _ (Part.sub (by decide) hL0) h0) h0)

theorem State.opLaneStat_keeps {L : List Part} {s0 s : State} (l : Fin 48) (v : Word)
    (hL0 : [.lanes] ⊆ L) (h0 : SameBut L s0 s) :
    SameBut L s0 (s.opLaneStat l v) := by
  unfold State.opLaneStat
  exact (State.setLane_keeps _ _ (Part.sub (by decide) hL0) h0)

theorem State.opPortStat_keeps {L : List Part} {s0 s : State} (p : Fin 8) (v : Word)
    (hL0 : [.lports] ⊆ L) (h0 : SameBut L s0 s) :
    SameBut L s0 (s.opPortStat p v) := by
  unfold State.opPortStat
  exact (State.setPort_keeps _ _ (Part.sub (by decide) hL0) h0)

theorem State.opMdioCmd_keeps {L : List Part} {s0 s : State} (r : Req) (v : Word)
    (hL0 : [.regs, .seam, .mdio, .evt, .tsk, .hif, .resp, .out] ⊆ L) (h0 : SameBut L s0 s) :
    SameBut L s0 (s.opMdioCmd r v) := by
  unfold State.opMdioCmd
  exact (SameBut.ite h0 (SameBut.ite (State.refuse_keeps _ _ (Part.sub (by decide) hL0) h0) (SameBut.ite (State.emit_keeps _ (Part.sub (by decide) hL0) (State.setFld_keeps _ _ (Part.sub (by decide) hL0) (SameBut.upd_mdio (Part.sub (by decide) hL0) h0))) h0)))

theorem execLaneCtlWrite_keeps (r : Req) (l : Fin 48) (v : Word) (s : State) :
    ResKeeps [.regs, .seam, .rows, .lanes, .evt, .tsk, .hif, .timers, .resp, .out] s (execLaneCtlWrite r l v s) := by
  have hL0 := List.Subset.refl ([.regs, .seam, .rows, .lanes, .evt, .tsk, .hif, .timers, .resp, .out] : List Part)
  have h0 := SameBut.refl [.regs, .seam, .rows, .lanes, .evt, .tsk, .hif, .timers, .resp, .out] s
  unfold execLaneCtlWrite
  exact (ResKeeps.next (State.access_keeps _ _ _ _ (Part.sub (by decide) hL0) (fun _ h1 => (State.opLaneCtl_keeps _ _ (Part.sub (by decide) hL0) h1)) h0))

theorem execLaneSleep_keeps (r : Req) (l : Fin 48) (v : Word) (s : State) :
    ResKeeps [.regs, .seam, .rows, .lanes, .evt, .tsk, .hif, .timers, .resp, .out] s (execLaneSleep r l v s) := by
  have hL0 := List.Subset.refl ([.regs, .seam, .rows, .lanes, .evt, .tsk, .hif, .timers, .resp, .out] : List Part)
  have h0 := SameBut.refl [.regs, .seam, .rows, .lanes, .evt, .tsk, .hif, .timers, .resp, .out] s
  unfold execLaneSleep
  exact (ResKeeps.next (State.access_keeps _ _ _ _ (Part.sub (by decide) hL0) (fun _ h1 => (State.opLaneCmd_keeps _ _ (Part.sub (by decide) hL0) h1)) h0))

theorem execLaneWake_keeps (r : Req) (l : Fin 48) (v : Word) (s : State) :
    ResKeeps [.regs, .seam, .rows, .lanes, .evt, .tsk, .hif, .timers, .resp, .out] s (execLaneWake r l v s) := by
  have hL0 := List.Subset.refl ([.regs, .seam, .rows, .lanes, .evt, .tsk, .hif, .timers, .resp, .out] : List Part)
  have h0 := SameBut.refl [.regs, .seam, .rows, .lanes, .evt, .tsk, .hif, .timers, .resp, .out] s
  unfold execLaneWake
  exact (ResKeeps.next (State.access_keeps _ _ _ _ (Part.sub (by decide) hL0) (fun _ h1 => (State.opLaneCmd_keeps _ _ (Part.sub (by decide) hL0) h1)) h0))

theorem execLaneRecal_keeps (r : Req) (l : Fin 48) (v : Word) (s : State) :
    ResKeeps [.regs, .seam, .rows, .lanes, .evt, .tsk, .hif, .timers, .resp, .out] s (execLaneRecal r l v s) := by
  have hL0 := List.Subset.refl ([.regs, .seam, .rows, .lanes, .evt, .tsk, .hif, .timers, .resp, .out] : List Part)
  have h0 := SameBut.refl [.regs, .seam, .rows, .lanes, .evt, .tsk, .hif, .timers, .resp, .out] s
  unfold execLaneRecal
  exact (ResKeeps.next (State.access_keeps _ _ _ _ (Part.sub (by decide) hL0) (fun _ h1 => (State.opLaneCmd_keeps _ _ (Part.sub (by decide) hL0) h1)) h0))

theorem execLaneRecalAbort_keeps (r : Req) (l : Fin 48) (v : Word) (s : State) :
    ResKeeps [.regs, .seam, .rows, .lanes, .evt, .tsk, .hif, .timers, .resp, .out] s (execLaneRecalAbort r l v s) := by
  have hL0 := List.Subset.refl ([.regs, .seam, .rows, .lanes, .evt, .tsk, .hif, .timers, .resp, .out] : List Part)
  have h0 := SameBut.refl [.regs, .seam, .rows, .lanes, .evt, .tsk, .hif, .timers, .resp, .out] s
  unfold execLaneRecalAbort
  exact (ResKeeps.next (State.access_keeps _ _ _ _ (Part.sub (by decide) hL0) (fun _ h1 => (State.opLaneCmd_keeps _ _ (Part.sub (by decide) hL0) h1)) h0))

theorem execLaneRetrain_keeps (r : Req) (l : Fin 48) (v : Word) (s : State) :
    ResKeeps [.regs, .seam, .rows, .lanes, .evt, .tsk, .hif, .timers, .resp, .out] s (execLaneRetrain r l v s) := by
  have hL0 := List.Subset.refl ([.regs, .seam, .rows, .lanes, .evt, .tsk, .hif, .timers, .resp, .out] : List Part)
  have h0 := SameBut.refl [.regs, .seam, .rows, .lanes, .evt, .tsk, .hif, .timers, .resp, .out] s
  unfold execLaneRetrain
  exact (ResKeeps.next (State.access_keeps _ _ _ _ (Part.sub (by decide) hL0) (fun _ h1 => (State.opLaneCmd_keeps _ _ (Part.sub (by decide) hL0) h1)) h0))

theorem execNegotiationComplete_keeps (l : Fin 48) (mode : BitVec 3) (fec : BitVec 2) (s : State) :
    ResKeeps [.lanes, .timers] s (execNegotiationComplete l mode fec s) := by
  have hL0 := List.Subset.refl ([.lanes, .timers] : List Part)
  have h0 := SameBut.refl [.lanes, .timers] s
  unfold execNegotiationComplete
  exact (ResKeeps.ite (ResKeeps.next h0) (ResKeeps.next (State.laneTo_keeps _ _ (Part.sub (by decide) hL0) (State.setLane_keeps _ _ (Part.sub (by decide) hL0) h0))))

theorem execLinkTrainingComplete_keeps (l : Fin 48) (s : State) :
    ResKeeps [.lanes, .timers] s (execLinkTrainingComplete l s) := by
  have hL0 := List.Subset.refl ([.lanes, .timers] : List Part)
  have h0 := SameBut.refl [.lanes, .timers] s
  unfold execLinkTrainingComplete
  exact (ResKeeps.next (SameBut.ite (State.laneTo_keeps _ _ (Part.sub (by decide) hL0) (State.setLane_keeps _ _ (Part.sub (by decide) hL0) h0)) h0))

theorem execLinkTrainingTimeout_keeps (l : Fin 48) (s : State) :
    ResKeeps [.regs, .seam, .lanes, .evt, .tsk, .hif, .timers, .out] s (execLinkTrainingTimeout l s) := by
  have hL0 := List.Subset.refl ([.regs, .seam, .lanes, .evt, .tsk, .hif, .timers, .out] : List Part)
  have h0 := SameBut.refl [.regs, .seam, .lanes, .evt, .tsk, .hif, .timers, .out] s
  unfold execLinkTrainingTimeout
  exact (ResKeeps.next (SameBut.ite (State.laneTo_keeps _ _ (Part.sub (by decide) hL0) (State.laneEvent_keeps _ _ (Part.sub (by decide) hL0) (State.bump_keeps _ (Part.sub (by decide) hL0) h0))) h0))

theorem execPcsLock_keeps (l : Fin 48) (s : State) :
    ResKeeps [.regs, .seam, .lanes, .evt, .tsk, .hif, .timers, .out] s (execPcsLock l s) := by
  have hL0 := List.Subset.refl ([.regs, .seam, .lanes, .evt, .tsk, .hif, .timers, .out] : List Part)
  have h0 := SameBut.refl [.regs, .seam, .lanes, .evt, .tsk, .hif, .timers, .out] s
  unfold execPcsLock
  exact (ResKeeps.next (SameBut.ite (State.laneUp_keeps _ (Part.sub (by decide) hL0) h0) h0))

theorem execPcsLockLoss_keeps (l : Fin 48) (s : State) :
    ResKeeps [.regs, .seam, .lanes, .evt, .tsk, .hif, .timers, .out] s (execPcsLockLoss l s) := by
  have hL0 := List.Subset.refl ([.regs, .seam, .lanes, .evt, .tsk, .hif, .timers, .out] : List Part)
  have h0 := SameBut.refl [.regs, .seam, .lanes, .evt, .tsk, .hif, .timers, .out] s
  unfold execPcsLockLoss
  exact (ResKeeps.next (SameBut.ite (State.laneLost_keeps _ (Part.sub (by decide) hL0) h0) h0))

theorem execRecalRun_keeps (l : Fin 48) (s : State) :
    ResKeeps [.lanes, .timers] s (execRecalRun l s) := by
  have hL0 := List.Subset.refl ([.lanes, .timers] : List Part)
  have h0 := SameBut.refl [.lanes, .timers] s
  unfold execRecalRun
  exact (ResKeeps.next (SameBut.ite (State.laneTo_keeps _ _ (Part.sub (by decide) hL0) (State.setLane_keeps _ _ (Part.sub (by decide) hL0) h0)) h0))

theorem execRecalEnd_keeps (l : Fin 48) (s : State) :
    ResKeeps [.regs, .seam, .lanes, .evt, .tsk, .hif, .timers, .out] s (execRecalEnd l s) := by
  have hL0 := List.Subset.refl ([.regs, .seam, .lanes, .evt, .tsk, .hif, .timers, .out] : List Part)
  have h0 := SameBut.refl [.regs, .seam, .lanes, .evt, .tsk, .hif, .timers, .out] s
  unfold execRecalEnd
  exact (ResKeeps.next (SameBut.ite (State.laneEvent_keeps _ _ (Part.sub (by decide) hL0) (State.laneTo_keeps _ _ (Part.sub (by decide) hL0) (State.setLane_keeps _ _ (Part.sub (by decide) hL0) h0))) h0))

theorem execWakeOnSignal_keeps (l : Fin 48) (s : State) :
    ResKeeps [.lanes, .timers] s (execWakeOnSignal l s) := by
  have hL0 := List.Subset.refl ([.lanes, .timers] : List Part)
  have h0 := SameBut.refl [.lanes, .timers] s
  unfold execWakeOnSignal
  exact (ResKeeps.next (SameBut.ite (State.laneWake_keeps _ (Part.sub (by decide) hL0) (State.setLane_keeps _ _ (Part.sub (by decide) hL0) h0)) (State.setLane_keeps _ _ (Part.sub (by decide) hL0) h0)))

theorem execWakeOnQueue_keeps (l : Fin 48) (s : State) :
    ResKeeps [.lanes, .timers] s (execWakeOnQueue l s) := by
  have hL0 := List.Subset.refl ([.lanes, .timers] : List Part)
  have h0 := SameBut.refl [.lanes, .timers] s
  unfold execWakeOnQueue
  exact (ResKeeps.next (SameBut.ite (State.laneWake_keeps _ (Part.sub (by decide) hL0) h0) h0))

theorem execPllReady_keeps (l : Fin 48) (s : State) :
    ResKeeps [.regs, .seam, .lanes, .evt, .tsk, .hif, .timers, .out] s (execPllReady l s) := by
  have hL0 := List.Subset.refl ([.regs, .seam, .lanes, .evt, .tsk, .hif, .timers, .out] : List Part)
  have h0 := SameBut.refl [.regs, .seam, .lanes, .evt, .tsk, .hif, .timers, .out] s
  unfold execPllReady
  exact (ResKeeps.ite (ResKeeps.next h0) (ResKeeps.next (State.laneEvent_keeps _ _ (Part.sub (by decide) hL0) (SameBut.ite (State.laneTo_keeps _ _ (Part.sub (by decide) hL0) h0) (State.laneStart_keeps _ (Part.sub (by decide) hL0) h0)))))

theorem execRefLoss_keeps (s : State) :
    ResKeeps [.regs, .seam, .lanes, .evt, .tsk, .hif, .pins, .timers, .out] s (execRefLoss s) := by
  have hL0 := List.Subset.refl ([.regs, .seam, .lanes, .evt, .tsk, .hif, .pins, .timers, .out] : List Part)
  have h0 := SameBut.refl [.regs, .seam, .lanes, .evt, .tsk, .hif, .pins, .timers, .out] s
  unfold execRefLoss
  exact (ResKeeps.next (SameBut.upd_pins (Part.sub (by decide) hL0) (SameBut.foldl (fun _ _ h2 => (State.laneEvent_keeps _ _ (Part.sub (by decide) hL0) h2)) (SameBut.foldl (fun _ _ h1 => (State.laneTo_keeps _ _ (Part.sub (by decide) hL0) (SameBut.ite (State.bump_keeps _ (Part.sub (by decide) hL0) h1) h1))) h0))))

theorem execRefReturn_keeps (s : State) :
    ResKeeps [.pins] s (execRefReturn s) := by
  have hL0 := List.Subset.refl ([.pins] : List Part)
  have h0 := SameBut.refl [.pins] s
  unfold execRefReturn
  exact (ResKeeps.next (SameBut.upd_pins (Part.sub (by decide) hL0) h0))

theorem execLaneSelect_keeps (l : Fin 48) (s : State) :
    ResKeeps [.regs, .mem, .seam, .bufs, .ecc, .queues, .turns, .elig, .shapers, .lanes, .lports, .tim, .evt, .log, .tsk, .hif, .out] s (execLaneSelect l s) := by
  have hL0 := List.Subset.refl ([.regs, .mem, .seam, .bufs, .ecc, .queues, .turns, .elig, .shapers, .lanes, .lports, .tim, .evt, .log, .tsk, .hif, .out] : List Part)
  have h0 := SameBut.refl [.regs, .mem, .seam, .bufs, .ecc, .queues, .turns, .elig, .shapers, .lanes, .lports, .tim, .evt, .log, .tsk, .hif, .out] s
  unfold execLaneSelect
  exact (ResKeeps.ite (ResKeeps.next h0) (by
    try dsimp only
    split
    · rename_i heq; have h3 := PairKeeps.pair heq (State.choose_keeps _ _ (Part.sub (by decide) hL0) (State.noteEligible_keeps _ _ (Part.sub (by decide) hL0) (SameBut.foldl (fun _ _ h2 => (SameBut.ite h2 (State.consult_keeps _ (Part.sub (by decide) hL0) h2))) (SameBut.foldl (fun _ _ h1 => (State.cleanHead_keeps _ _ _ (Part.sub (by decide) hL0) h1)) h0))))
      exact (ResKeeps.next (State.transmit_keeps _ _ (Part.sub (by decide) hL0) (State.takeCredit_keeps _ (Part.sub (by decide) hL0) h3)))
    · rename_i heq; have h6 := PairKeeps.pair heq (State.choose_keeps _ _ (Part.sub (by decide) hL0) (State.noteEligible_keeps _ _ (Part.sub (by decide) hL0) (SameBut.foldl (fun _ _ h5 => (SameBut.ite h5 (State.consult_keeps _ (Part.sub (by decide) hL0) h5))) (SameBut.foldl (fun _ _ h4 => (State.cleanHead_keeps _ _ _ (Part.sub (by decide) hL0) h4)) h0))))
      exact (ResKeeps.next h6)))

theorem execPortSelect_keeps (p : Fin 8) (s : State) :
    ResKeeps [.regs, .mem, .seam, .bufs, .ecc, .queues, .elig, .lanes, .lports, .tim, .evt, .log, .tsk, .hif, .out] s (execPortSelect p s) := by
  have hL0 := List.Subset.refl ([.regs, .mem, .seam, .bufs, .ecc, .queues, .elig, .lanes, .lports, .tim, .evt, .log, .tsk, .hif, .out] : List Part)
  have h0 := SameBut.refl [.regs, .mem, .seam, .bufs, .ecc, .queues, .elig, .lanes, .lports, .tim, .evt, .log, .tsk, .hif, .out] s
  unfold execPortSelect
  exact (ResKeeps.ite (ResKeeps.next h0) (by
    try dsimp only
    split
    · exact (ResKeeps.next (State.transmit_keeps _ _ (Part.sub (by decide) hL0) (State.noteEligible_keeps _ _ (Part.sub (by decide) hL0) (SameBut.foldl (fun _ _ h1 => (State.cleanHead_keeps _ _ _ (Part.sub (by decide) hL0) h1)) h0))))
    · exact (ResKeeps.next (State.noteEligible_keeps _ _ (Part.sub (by decide) hL0) (SameBut.foldl (fun _ _ h2 => (State.cleanHead_keeps _ _ _ (Part.sub (by decide) hL0) h2)) h0)))))

theorem execFrameReceive_keeps (e : EthPort) (f : FrameIn) (s : State) :
    ResKeeps [.regs, .seam, .cmt, .nextPkt, .pipes, .lanes, .lports, .evt, .tsk, .hif, .timers, .out] s (execFrameReceive e f s) := by
  have hL0 := List.Subset.refl ([.regs, .seam, .cmt, .nextPkt, .pipes, .lanes, .lports, .evt, .tsk, .hif, .timers, .out] : List Part)
  have h0 := SameBut.refl [.regs, .seam, .cmt, .nextPkt, .pipes, .lanes, .lports, .evt, .tsk, .hif, .timers, .out] s
  unfold execFrameReceive
  exact (ResKeeps.next (SameBut.ite (State.frameIn_keeps _ _ (Part.sub (by decide) hL0) h0) h0))

theorem execPauseReceive_keeps (e : EthPort) (quanta : BitVec 16) (s : State) :
    ResKeeps [.regs, .seam, .lanes, .lports, .evt, .tsk, .hif, .timers, .out] s (execPauseReceive e quanta s) := by
  have hL0 := List.Subset.refl ([.regs, .seam, .lanes, .lports, .evt, .tsk, .hif, .timers, .out] : List Part)
  have h0 := SameBut.refl [.regs, .seam, .lanes, .lports, .evt, .tsk, .hif, .timers, .out] s
  unfold execPauseReceive
  exact (ResKeeps.next (SameBut.ite (State.takePause_keeps _ _ (Part.sub (by decide) hL0) (State.countRxOk_keeps _ (Part.sub (by decide) hL0) h0)) h0))

theorem execPfcReceive_keeps (e : EthPort) (en : BitVec 8) (quanta : List (BitVec 16)) (s : State) :
    ResKeeps [.regs, .seam, .lanes, .lports, .evt, .tsk, .hif, .timers, .out] s (execPfcReceive e en quanta s) := by
  have hL0 := List.Subset.refl ([.regs, .seam, .lanes, .lports, .evt, .tsk, .hif, .timers, .out] : List Part)
  have h0 := SameBut.refl [.regs, .seam, .lanes, .lports, .evt, .tsk, .hif, .timers, .out] s
  unfold execPfcReceive
  exact (ResKeeps.ite ResKeeps.fault (ResKeeps.next (SameBut.ite (State.takePfc_keeps _ _ _ (Part.sub (by decide) hL0) (State.countRxOk_keeps _ (Part.sub (by decide) hL0) h0)) h0)))

theorem execPauseTimerExpire_keeps (e : EthPort) (pri : Option (Fin 8)) (s : State) :
    ResKeeps [.timers] s (execPauseTimerExpire e pri s) := by
  have hL0 := List.Subset.refl ([.timers] : List Part)
  have h0 := SameBut.refl [.timers] s
  unfold execPauseTimerExpire
  exact (ResKeeps.next (State.stopTimer_keeps _ (Part.sub (by decide) hL0) h0))

theorem execPauseSend_keeps (e : EthPort) (s : State) :
    ResKeeps [.regs, .lanes, .lports, .out] s (execPauseSend e s) := by
  have hL0 := List.Subset.refl ([.regs, .lanes, .lports, .out] : List Part)
  have h0 := SameBut.refl [.regs, .lanes, .lports, .out] s
  unfold execPauseSend
  exact (ResKeeps.next (State.pauseSend_keeps _ (Part.sub (by decide) hL0) h0))

theorem execPauseRefresh_keeps (e : EthPort) (s : State) :
    ResKeeps [.regs, .out] s (execPauseRefresh e s) := by
  have hL0 := List.Subset.refl ([.regs, .out] : List Part)
  have h0 := SameBut.refl [.regs, .out] s
  unfold execPauseRefresh
  exact (ResKeeps.next (State.pauseAgain_keeps _ (Part.sub (by decide) hL0) h0))

theorem execTxUnderrun_keeps (e : EthPort) (s : State) :
    ResKeeps [.regs, .seam, .rows, .bufs, .queues, .lanes, .lports, .evt, .log, .tsk, .hif, .timers, .out] s (execTxUnderrun e s) := by
  have hL0 := List.Subset.refl ([.regs, .seam, .rows, .bufs, .queues, .lanes, .lports, .evt, .log, .tsk, .hif, .timers, .out] : List Part)
  have h0 := SameBut.refl [.regs, .seam, .rows, .bufs, .queues, .lanes, .lports, .evt, .log, .tsk, .hif, .timers, .out] s
  unfold execTxUnderrun
  exact (ResKeeps.next (SameBut.ite (State.endTx_keeps _ _ (Part.sub (by decide) hL0) (fun _ _ h1 => (State.leaveQueue_keeps _ (Part.sub (by decide) hL0) h1)) (State.emit_keeps _ (Part.sub (by decide) hL0) (State.raiseStart_keeps _ (Part.sub (by decide) hL0) (State.macEvent_keeps _ _ _ (Part.sub (by decide) hL0) (State.portBump_keeps _ _ _ (Part.sub (by decide) hL0) h0))))) h0))

theorem State.countTxOk_keeps {L : List Part} {s0 s : State} (e : EthPort)
    (hL0 : [.regs] ⊆ L) (h0 : SameBut L s0 s) :
    SameBut L s0 (s.countTxOk e) := by
  unfold State.countTxOk
  split
  · exact (State.bump64_keeps _ _ _ (Part.sub (by decide) hL0) h0)
  · exact (State.bump_keeps _ (Part.sub (by decide) hL0) h0)

theorem execFrameTransmitEnd_keeps (e : EthPort) (s : State) :
    ResKeeps [.regs, .seam, .rows, .bufs, .queues, .lanes, .lports, .evt, .log, .tsk, .hif, .timers, .out] s (execFrameTransmitEnd e s) := by
  have hL0 := List.Subset.refl ([.regs, .seam, .rows, .bufs, .queues, .lanes, .lports, .evt, .log, .tsk, .hif, .timers, .out] : List Part)
  have h0 := SameBut.refl [.regs, .seam, .rows, .bufs, .queues, .lanes, .lports, .evt, .log, .tsk, .hif, .timers, .out] s
  unfold execFrameTransmitEnd
  split
  · exact (ResKeeps.next h0)
  · exact (ResKeeps.next (State.endTx_keeps _ _ (Part.sub (by decide) hL0) (fun _ _ h1 => (State.sentFrom_keeps _ (Part.sub (by decide) hL0) h1)) (State.emit_keeps _ (Part.sub (by decide) hL0) (State.countTxOk_keeps _ (Part.sub (by decide) hL0) h0))))

theorem execCollision_keeps (p : Fin 8) (bit : Nat) (rnd : BitVec 10) (s : State) :
    ResKeeps [.regs, .seam, .rows, .bufs, .queues, .lanes, .lports, .evt, .log, .tsk, .hif, .timers, .out] s (execCollision p bit rnd s) := by
  have hL0 := List.Subset.refl ([.regs, .seam, .rows, .bufs, .queues, .lanes, .lports, .evt, .log, .tsk, .hif, .timers, .out] : List Part)
  have h0 := SameBut.refl [.regs, .seam, .rows, .bufs, .queues, .lanes, .lports, .evt, .log, .tsk, .hif, .timers, .out] s
  unfold execCollision
  exact (ResKeeps.ite (ResKeeps.next h0) (ResKeeps.ite (ResKeeps.next (State.endTx_keeps _ _ (Part.sub (by decide) hL0) (fun _ _ h1 => (State.leaveQueue_keeps _ (Part.sub (by decide) hL0) h1)) (State.portEvent_keeps _ _ (Part.sub (by decide) hL0) (State.bump_keeps _ (Part.sub (by decide) hL0) (State.emit_keeps _ (Part.sub (by decide) hL0) (State.bump_keeps _ (Part.sub (by decide) hL0) h0)))))) (ResKeeps.ite (ResKeeps.next (State.endTx_keeps _ _ (Part.sub (by decide) hL0) (fun _ _ h2 => (State.leaveQueue_keeps _ (Part.sub (by decide) hL0) h2)) (State.portEvent_keeps _ _ (Part.sub (by decide) hL0) (State.bump_keeps _ (Part.sub (by decide) hL0) (State.emit_keeps _ (Part.sub (by decide) hL0) (State.bump_keeps _ (Part.sub (by decide) hL0) h0)))))) (ResKeeps.next (State.startTimer_keeps _ (Part.sub (by decide) hL0) (State.setPort_keeps _ _ (Part.sub (by decide) hL0) (State.emit_keeps _ (Part.sub (by decide) hL0) (State.bump_keeps _ (Part.sub (by decide) hL0) h0))))))))

theorem execBackoffExpire_keeps (p : Fin 8) (s : State) :
    ResKeeps [.lports, .timers] s (execBackoffExpire p s) := by
  have hL0 := List.Subset.refl ([.lports, .timers] : List Part)
  have h0 := SameBut.refl [.lports, .timers] s
  unfold execBackoffExpire
  exact (ResKeeps.next (SameBut.ite (State.stopTimer_keeps _ (Part.sub (by decide) hL0) (State.setPort_keeps _ _ (Part.sub (by decide) hL0) h0)) h0))

theorem execCxBpStart_keeps (p : Fin 8) (s : State) :
    ResKeeps [.regs, .lports] s (execCxBpStart p s) := by
  have hL0 := List.Subset.refl ([.regs, .lports] : List Part)
  have h0 := SameBut.refl [.regs, .lports] s
  unfold execCxBpStart
  exact (ResKeeps.next (SameBut.ite (State.bump_keeps _ (Part.sub (by decide) hL0) (State.setPort_keeps _ _ (Part.sub (by decide) hL0) h0)) h0))

theorem execPhyPoll_keeps (p : Fin 8) (r1 : BitVec 16) (r4 : BitVec 16) (r5 : BitVec 16) (s : State) :
    ResKeeps [.regs, .seam, .lports, .evt, .tsk, .hif, .out] s (execPhyPoll p r1 r4 r5 s) := by
  have hL0 := List.Subset.refl ([.regs, .seam, .lports, .evt, .tsk, .hif, .out] : List Part)
  have h0 := SameBut.refl [.regs, .seam, .lports, .evt, .tsk, .hif, .out] s
  unfold execPhyPoll
  exact (ResKeeps.ite (ResKeeps.next h0) (ResKeeps.next (SameBut.ite (State.setPort_keeps _ _ (Part.sub (by decide) hL0) h0) (State.portEvent_keeps _ _ (Part.sub (by decide) hL0) (State.setPort_keeps _ _ (Part.sub (by decide) hL0) h0)))))

theorem State.readvertise_keeps {L : List Part} {s0 s : State} (p : Fin 8) (adv : Nat)
    (hL0 : [.out] ⊆ L) (h0 : SameBut L s0 s) :
    SameBut L s0 (s.readvertise p adv) := by
  unfold State.readvertise
  exact (State.emit_keeps _ (Part.sub (by decide) hL0) (State.emit_keeps _ (Part.sub (by decide) hL0) h0))

theorem State.stepPort_keeps {L : List Part} {s0 s : State} (p : Fin 8) (down : Bool)
    (hL0 : [.regs, .seam, .lports, .evt, .tsk, .hif, .out] ⊆ L) (h0 : SameBut L s0 s) :
    SameBut L s0 (s.stepPort p down) := by
  unfold State.stepPort
  exact (State.portEvent_keeps _ _ (Part.sub (by decide) hL0) (State.bump_keeps _ (Part.sub (by decide) hL0) (State.setPort_keeps _ _ (Part.sub (by decide) hL0) h0)))

theorem execPortStepDown_keeps (p : Fin 8) (s : State) :
    ResKeeps [.regs, .seam, .lports, .evt, .tsk, .hif, .out] s (execPortStepDown p s) := by
  have hL0 := List.Subset.refl ([.regs, .seam, .lports, .evt, .tsk, .hif, .out] : List Part)
  have h0 := SameBut.refl [.regs, .seam, .lports, .evt, .tsk, .hif, .out] s
  unfold execPortStepDown
  exact (ResKeeps.next (SameBut.ite (State.stepPort_keeps _ _ (Part.sub (by decide) hL0) (State.readvertise_keeps _ _ (Part.sub (by decide) hL0) h0)) h0))

theorem execPortStepUp_keeps (p : Fin 8) (s : State) :
    ResKeeps [.regs, .seam, .lports, .evt, .tsk, .hif, .out] s (execPortStepUp p s) := by
  have hL0 := List.Subset.refl ([.regs, .seam, .lports, .evt, .tsk, .hif, .out] : List Part)
  have h0 := SameBut.refl [.regs, .seam, .lports, .evt, .tsk, .hif, .out] s
  unfold execPortStepUp
  exact (ResKeeps.next (SameBut.ite (State.stepPort_keeps _ _ (Part.sub (by decide) hL0) (State.readvertise_keeps _ _ (Part.sub (by decide) hL0) h0)) h0))

theorem execMdioWrite_keeps (r : Req) (v : Word) (s : State) :
    ResKeeps [.regs, .seam, .mdio, .evt, .tsk, .hif, .resp, .out] s (execMdioWrite r v s) := by
  have hL0 := List.Subset.refl ([.regs, .seam, .mdio, .evt, .tsk, .hif, .resp, .out] : List Part)
  have h0 := SameBut.refl [.regs, .seam, .mdio, .evt, .tsk, .hif, .resp, .out] s
  unfold execMdioWrite
  exact (ResKeeps.next (State.access_keeps _ _ _ _ (Part.sub (by decide) hL0) (fun _ h1 => (State.opMdioCmd_keeps _ _ (Part.sub (by decide) hL0) h1)) h0))

theorem execMdioRead_keeps (r : Req) (v : Word) (s : State) :
    ResKeeps [.regs, .seam, .mdio, .evt, .tsk, .hif, .resp, .out] s (execMdioRead r v s) := by
  have hL0 := List.Subset.refl ([.regs, .seam, .mdio, .evt, .tsk, .hif, .resp, .out] : List Part)
  have h0 := SameBut.refl [.regs, .seam, .mdio, .evt, .tsk, .hif, .resp, .out] s
  unfold execMdioRead
  exact (ResKeeps.next (State.access_keeps _ _ _ _ (Part.sub (by decide) hL0) (fun _ h1 => (State.opMdioCmd_keeps _ _ (Part.sub (by decide) hL0) h1)) h0))

theorem execMdioFrameDone_keeps (data : BitVec 16) (ack : Bool) (s : State) :
    ResKeeps [.regs, .seam, .mdio, .evt, .tsk, .hif, .out] s (execMdioFrameDone data ack s) := by
  have hL0 := List.Subset.refl ([.regs, .seam, .mdio, .evt, .tsk, .hif, .out] : List Part)
  have h0 := SameBut.refl [.regs, .seam, .mdio, .evt, .tsk, .hif, .out] s
  unfold execMdioFrameDone
  split
  · exact (ResKeeps.next h0)
  · exact (ResKeeps.next (State.fire_keeps _ _ (Part.sub (by decide) hL0) (SameBut.ite (State.setFld_keeps _ _ (Part.sub (by decide) hL0) (State.setFld_keeps _ _ (Part.sub (by decide) hL0) (State.setFld_keeps _ _ (Part.sub (by decide) hL0) (SameBut.upd_mdio (Part.sub (by decide) hL0) h0)))) (State.setFld_keeps _ _ (Part.sub (by decide) hL0) (SameBut.upd_mdio (Part.sub (by decide) hL0) h0)))))

end Sys2Proof.Machine
end

