-- ==== Sys2Proof/Laws/Time.lean ====
section
/-! SUPPORT. Which parts of the state each operation of Machine/Time.lean can change. -/

namespace Sys2Proof.Machine

open Sys2Proof

set_option linter.unusedTactic false
set_option linter.unreachableTactic false
set_option linter.unusedVariables false

theorem State.fit32_keeps {L : List Part} {s0 s : State} (x : ℤ)
    (hL0 : [.fresh] ⊆ L) (h0 : SameBut L s0 s) :
    PairKeeps L s0 (s.fit32 x) := by
  unfold State.fit32
  exact (PairKeeps.ite (PairKeeps.mk h0) (State.freeVal_keeps (Part.sub (by decide) hL0) h0))

theorem State.wrInt_keeps {L : List Part} {s0 s : State} (k : Nat) (x : ℤ)
    (hL0 : [.regs, .fresh] ⊆ L) (h0 : SameBut L s0 s) :
    SameBut L s0 (s.wrInt k x) := by
  unfold State.wrInt
  exact (State.wr_keeps _ _ (Part.sub (by decide) hL0) (PairKeeps.snd (State.fit32_keeps _ (Part.sub (by decide) hL0) h0)))

theorem State.setTim_keeps {L : List Part} {s0 s : State} (f : Tim → Tim)
    (hL0 : [.tim] ⊆ L) (h0 : SameBut L s0 s) :
    SameBut L s0 (s.setTim f) := by
  unfold State.setTim
  exact (SameBut.upd_tim (Part.sub (by decide) hL0) h0)

theorem State.setQual_keeps {L : List Part} {s0 s : State} (q : QualSt)
    (hL0 : [.regs, .seam, .tim, .evt, .tsk, .hif, .out] ⊆ L) (h0 : SameBut L s0 s) :
    SameBut L s0 (s.setQual q) := by
  unfold State.setQual
  exact (SameBut.ite h0 (State.fire_keeps _ _ (Part.sub (by decide) hL0) (State.setTim_keeps _ (Part.sub (by decide) hL0) h0)))

theorem State.settleF_keeps {L : List Part} {s0 s : State}
    (hL0 : [.tim] ⊆ L) (h0 : SameBut L s0 s) :
    SameBut L s0 (s.settleF) := by
  unfold State.settleF
  exact (SameBut.ite (State.setTim_keeps _ (Part.sub (by decide) hL0) h0) h0)

theorem State.toHoldover_keeps {L : List Part} {s0 s : State}
    (hL0 : [.regs, .seam, .tim, .evt, .tsk, .hif, .timers, .out] ⊆ L) (h0 : SameBut L s0 s) :
    SameBut L s0 (s.toHoldover) := by
  unfold State.toHoldover
  exact (SameBut.ite (State.fire_keeps _ _ (Part.sub (by decide) hL0) (State.stopTimer_keeps _ (Part.sub (by decide) hL0) (State.settleF_keeps (Part.sub (by decide) hL0) (State.setTim_keeps _ (Part.sub (by decide) hL0) h0)))) h0)

theorem State.sampleRefused_keeps {L : List Part} {s0 s : State} (theta : ℤ)
    (hL0 : [.regs, .seam, .tim, .evt, .tsk, .hif, .timers, .out] ⊆ L) (h0 : SameBut L s0 s) :
    SameBut L s0 (s.sampleRefused theta) := by
  unfold State.sampleRefused
  exact (SameBut.ite (State.toHoldover_keeps (Part.sub (by decide) hL0) (State.setTim_keeps _ (Part.sub (by decide) hL0) (SameBut.ite (State.fire_keeps _ _ (Part.sub (by decide) hL0) (State.bump_keeps _ (Part.sub (by decide) hL0) (State.wr_keeps _ _ (Part.sub (by decide) hL0) (State.wr_keeps _ _ (Part.sub (by decide) hL0) (State.wr_keeps _ _ (Part.sub (by decide) hL0) h0))))) (State.bump_keeps _ (Part.sub (by decide) hL0) (State.wr_keeps _ _ (Part.sub (by decide) hL0) (State.wr_keeps _ _ (Part.sub (by decide) hL0) (State.wr_keeps _ _ (Part.sub (by decide) hL0) h0))))))) (State.setTim_keeps _ (Part.sub (by decide) hL0) (SameBut.ite (State.fire_keeps _ _ (Part.sub (by decide) hL0) (State.bump_keeps _ (Part.sub (by decide) hL0) (State.wr_keeps _ _ (Part.sub (by decide) hL0) (State.wr_keeps _ _ (Part.sub (by decide) hL0) (State.wr_keeps _ _ (Part.sub (by decide) hL0) h0))))) (State.bump_keeps _ (Part.sub (by decide) hL0) (State.wr_keeps _ _ (Part.sub (by decide) hL0) (State.wr_keeps _ _ (Part.sub (by decide) hL0) (State.wr_keeps _ _ (Part.sub (by decide) hL0) h0)))))))

theorem State.steer_keeps {L : List Part} {s0 s : State} (theta : ℤ)
    (hL0 : [.tim, .fresh] ⊆ L) (h0 : SameBut L s0 s) :
    SameBut L s0 (s.steer theta) := by
  unfold State.steer
  exact (SameBut.ite (State.setTim_keeps _ (Part.sub (by decide) hL0) (PairKeeps.snd (State.freeVal_keeps (Part.sub (by decide) hL0) (PairKeeps.snd (State.freeVal_keeps (Part.sub (by decide) hL0) h0))))) (State.setTim_keeps _ (Part.sub (by decide) hL0) h0))

theorem State.servoSample_keeps {L : List Part} {s0 s : State} (theta : ℤ)
    (hL0 : [.regs, .seam, .tim, .evt, .tsk, .hif, .timers, .out, .fresh] ⊆ L) (h0 : SameBut L s0 s) :
    SameBut L s0 (s.servoSample theta) := by
  unfold State.servoSample
  exact (State.setTim_keeps _ (Part.sub (by decide) hL0) (by
    split
    · exact (SameBut.ite (SameBut.ite (State.setQual_keeps _ (Part.sub (by decide) hL0) (State.fire_keeps _ _ (Part.sub (by decide) hL0) (State.setTim_keeps _ (Part.sub (by decide) hL0) (State.startTimer_keeps _ (Part.sub (by decide) hL0) (State.steer_keeps _ (Part.sub (by decide) hL0) h0))))) (State.setTim_keeps _ (Part.sub (by decide) hL0) (State.startTimer_keeps _ (Part.sub (by decide) hL0) (State.steer_keeps _ (Part.sub (by decide) hL0) h0)))) h0)
    · exact (SameBut.ite (State.setQual_keeps _ (Part.sub (by decide) hL0) (State.fire_keeps _ _ (Part.sub (by decide) hL0) (State.setTim_keeps _ (Part.sub (by decide) hL0) (State.startTimer_keeps _ (Part.sub (by decide) hL0) (State.steer_keeps _ (Part.sub (by decide) hL0) h0))))) (State.setTim_keeps _ (Part.sub (by decide) hL0) (State.startTimer_keeps _ (Part.sub (by decide) hL0) (State.steer_keeps _ (Part.sub (by decide) hL0) h0))))
    · exact (SameBut.ite (State.setQual_keeps _ (Part.sub (by decide) hL0) (State.fire_keeps _ _ (Part.sub (by decide) hL0) (State.setTim_keeps _ (Part.sub (by decide) hL0) (State.startTimer_keeps _ (Part.sub (by decide) hL0) (State.steer_keeps _ (Part.sub (by decide) hL0) h0))))) (State.setTim_keeps _ (Part.sub (by decide) hL0) (State.startTimer_keeps _ (Part.sub (by decide) hL0) (State.steer_keeps _ (Part.sub (by decide) hL0) h0))))
    · exact (State.startTimer_keeps _ (Part.sub (by decide) hL0) (State.steer_keeps _ (Part.sub (by decide) hL0) h0))))

theorem State.sourceSample_keeps {L : List Part} {s0 s : State} (theta : ℤ) (flois : Bool)
    (hL0 : [.regs, .seam, .tim, .evt, .tsk, .hif, .timers, .out, .fresh] ⊆ L) (h0 : SameBut L s0 s) :
    SameBut L s0 (s.sourceSample theta flois) := by
  unfold State.sourceSample
  exact (SameBut.ite (State.wrInt_keeps _ _ (Part.sub (by decide) hL0) h0) (SameBut.ite (State.sampleRefused_keeps _ (Part.sub (by decide) hL0) (State.wrInt_keeps _ _ (Part.sub (by decide) hL0) h0)) (State.servoSample_keeps _ (Part.sub (by decide) hL0) (SameBut.ite (State.bump_keeps _ (Part.sub (by decide) hL0) (State.wrInt_keeps _ _ (Part.sub (by decide) hL0) h0)) (State.wrInt_keeps _ _ (Part.sub (by decide) hL0) h0)))))

theorem State.todSample_keeps {L : List Part} {s0 s : State} (c : Chan) (j : Nat) (f : Nat) (sec : Nat) (ns : Nat)
    (hL0 : [.regs, .seam, .tim, .evt, .tsk, .hif, .timers, .out, .fresh] ⊆ L) (h0 : SameBut L s0 s) :
    SameBut L s0 (s.todSample c j f sec ns) := by
  unfold State.todSample
  exact (SameBut.ite (State.bump_keeps _ (Part.sub (by decide) hL0) h0) (by
    split
    · exact (State.bump_keeps _ (Part.sub (by decide) hL0) h0)
    · exact (SameBut.ite (State.bump_keeps _ (Part.sub (by decide) hL0) h0) (SameBut.ite (State.wrInt_keeps _ _ (Part.sub (by decide) hL0) h0) (State.sourceSample_keeps _ _ (Part.sub (by decide) hL0) (State.wrInt_keeps _ _ (Part.sub (by decide) hL0) h0))))))

theorem State.servoStep_keeps {L : List Part} {s0 s : State}
    (hL0 : [.tim, .timers] ⊆ L) (h0 : SameBut L s0 s) :
    SameBut L s0 (s.servoStep) := by
  unfold State.servoStep
  split
  · exact h0
  · exact (State.setTim_keeps _ (Part.sub (by decide) hL0) (State.startTimer_keeps _ (Part.sub (by decide) hL0) h0))
  · exact (State.setTim_keeps _ (Part.sub (by decide) hL0) h0)

theorem State.stepClock_keeps {L : List Part} {s0 s : State} (x : TimeStep)
    (hL0 : [.lanes, .tim, .clock] ⊆ L) (h0 : SameBut L s0 s) :
    SameBut L s0 (s.stepClock x) := by
  unfold State.stepClock
  exact (SameBut.upd_lanes_tim_clock (Part.sub (by decide) hL0) h0)

theorem State.stepCount_keeps {L : List Part} {s0 s : State}
    (hL0 : [.regs, .seam, .tim, .evt, .tsk, .hif, .timers, .out] ⊆ L) (h0 : SameBut L s0 s) :
    SameBut L s0 (s.stepCount) := by
  unfold State.stepCount
  exact (State.servoStep_keeps (Part.sub (by decide) hL0) (State.fire_keeps _ _ (Part.sub (by decide) hL0) (State.setFld_keeps _ _ (Part.sub (by decide) hL0) (State.bump_keeps _ (Part.sub (by decide) hL0) h0))))

theorem State.stepQual_keeps {L : List Part} {s0 s : State}
    (hL0 : [.regs, .seam, .tim, .evt, .tsk, .hif, .out] ⊆ L) (h0 : SameBut L s0 s) :
    SameBut L s0 (s.stepQual) := by
  unfold State.stepQual
  exact (SameBut.ite (State.setQual_keeps _ (Part.sub (by decide) hL0) h0) h0)

theorem State.stepTime_keeps {L : List Part} {s0 s : State} (x : TimeStep)
    (hL0 : [.regs, .seam, .lanes, .tim, .evt, .tsk, .hif, .clock, .timers, .out] ⊆ L) (h0 : SameBut L s0 s) :
    SameBut L s0 (s.stepTime x) := by
  unfold State.stepTime
  exact (State.stepQual_keeps (Part.sub (by decide) hL0) (State.stepCount_keeps (Part.sub (by decide) hL0) (State.stepClock_keeps _ (Part.sub (by decide) hL0) h0)))

theorem State.requestStep_keeps {L : List Part} {s0 s : State} (x : TimeStep)
    (hL0 : [.regs, .seam, .lanes, .tim, .evt, .tsk, .hif, .clock, .timers, .out] ⊆ L) (h0 : SameBut L s0 s) :
    SameBut L s0 (s.requestStep x) := by
  unfold State.requestStep
  exact (SameBut.ite (State.setTim_keeps _ (Part.sub (by decide) hL0) h0) (State.stepTime_keeps _ (Part.sub (by decide) hL0) h0))

theorem State.switched_keeps {L : List Part} {s0 s : State}
    (hL0 : [.regs, .seam, .evt, .tsk, .hif, .out] ⊆ L) (h0 : SameBut L s0 s) :
    SameBut L s0 (s.switched) := by
  unfold State.switched
  exact (State.fire_keeps _ _ (Part.sub (by decide) hL0) (State.bump_keeps _ (Part.sub (by decide) hL0) h0))

theorem State.switchToB_keeps {L : List Part} {s0 s : State}
    (hL0 : [.regs, .seam, .tim, .evt, .tsk, .hif, .out] ⊆ L) (h0 : SameBut L s0 s) :
    SameBut L s0 (s.switchToB) := by
  unfold State.switchToB
  exact (SameBut.ite (State.switched_keeps (Part.sub (by decide) hL0) (State.setTim_keeps _ (Part.sub (by decide) hL0) h0)) (State.fire_keeps _ _ (Part.sub (by decide) hL0) h0))

theorem State.switchToA_keeps {L : List Part} {s0 s : State}
    (hL0 : [.regs, .seam, .tim, .evt, .tsk, .hif, .out] ⊆ L) (h0 : SameBut L s0 s) :
    SameBut L s0 (s.switchToA) := by
  unfold State.switchToA
  exact (State.switched_keeps (Part.sub (by decide) hL0) (State.setTim_keeps _ (Part.sub (by decide) hL0) h0))

theorem State.opTimCmd_keeps {L : List Part} {s0 s : State} (r : Req) (v : Word)
    (hL0 : [.regs, .seam, .lanes, .tim, .evt, .tsk, .hif, .clock, .timers, .resp, .out] ⊆ L) (h0 : SameBut L s0 s) :
    SameBut L s0 (s.opTimCmd r v) := by
  unfold State.opTimCmd
  exact (SameBut.ite (State.refuse_keeps _ _ (Part.sub (by decide) hL0) h0) (SameBut.ite (State.switchToB_keeps (Part.sub (by decide) hL0) (SameBut.ite (State.switchToA_keeps (Part.sub (by decide) hL0) (SameBut.ite (State.requestStep_keeps _ (Part.sub (by decide) hL0) h0) h0)) (SameBut.ite (State.requestStep_keeps _ (Part.sub (by decide) hL0) h0) h0))) (SameBut.ite (State.switchToA_keeps (Part.sub (by decide) hL0) (SameBut.ite (State.requestStep_keeps _ (Part.sub (by decide) hL0) h0) h0)) (SameBut.ite (State.requestStep_keeps _ (Part.sub (by decide) hL0) h0) h0))))

theorem State.opTimCtl_keeps {L : List Part} {s0 s : State} (v : Word)
    (hL0 : [.regs, .tim, .timers] ⊆ L) (h0 : SameBut L s0 s) :
    SameBut L s0 (s.opTimCtl v) := by
  unfold State.opTimCtl
  exact (SameBut.ite (SameBut.ite (State.store_keeps _ _ (Part.sub (by decide) hL0) h0) (State.stopTimer_keeps _ (Part.sub (by decide) hL0) (State.settleF_keeps (Part.sub (by decide) hL0) (State.setTim_keeps _ (Part.sub (by decide) hL0) (State.store_keeps _ _ (Part.sub (by decide) hL0) h0))))) (State.stopTimer_keeps _ (Part.sub (by decide) hL0) (SameBut.foldl (fun _ _ h1 => (State.wr_keeps _ _ (Part.sub (by decide) hL0) h1)) (State.setTim_keeps _ (Part.sub (by decide) hL0) (SameBut.ite (State.store_keeps _ _ (Part.sub (by decide) hL0) h0) (State.stopTimer_keeps _ (Part.sub (by decide) hL0) (State.settleF_keeps (Part.sub (by decide) hL0) (State.setTim_keeps _ (Part.sub (by decide) hL0) (State.store_keeps _ _ (Part.sub (by decide) hL0) h0)))))))))

theorem State.setB_keeps {L : List Part} {s0 s : State} (b : BSt)
    (hL0 : [.regs, .seam, .tim, .evt, .tsk, .hif, .out] ⊆ L) (h0 : SameBut L s0 s) :
    SameBut L s0 (s.setB b) := by
  unfold State.setB
  exact (SameBut.ite h0 (SameBut.ite (State.fire_keeps _ _ (Part.sub (by decide) hL0) (State.setTim_keeps _ (Part.sub (by decide) hL0) h0)) (State.setTim_keeps _ (Part.sub (by decide) hL0) h0)))

theorem State.bSample_keeps {L : List Part} {s0 s : State}
    (hL0 : [.regs, .seam, .tim, .evt, .tsk, .hif, .timers, .out, .fresh] ⊆ L) (h0 : SameBut L s0 s) :
    SameBut L s0 (s.bSample) := by
  unfold State.bSample
  exact (SameBut.ite (State.bump_keeps _ (Part.sub (by decide) hL0) h0) (SameBut.ite (State.sourceSample_keeps _ _ (Part.sub (by decide) hL0) (State.startTimer_keeps _ (Part.sub (by decide) hL0) (State.setB_keeps _ (Part.sub (by decide) hL0) (State.wrInt_keeps _ _ (Part.sub (by decide) hL0) (State.wrInt_keeps _ _ (Part.sub (by decide) hL0) (State.setTim_keeps _ (Part.sub (by decide) hL0) (PairKeeps.snd (PairKeeps.ite (PairKeeps.mk (PairKeeps.snd (State.freeVal_keeps (Part.sub (by decide) hL0) h0))) (PairKeeps.mk h0))))))))) (State.startTimer_keeps _ (Part.sub (by decide) hL0) (State.setB_keeps _ (Part.sub (by decide) hL0) (State.wrInt_keeps _ _ (Part.sub (by decide) hL0) (State.wrInt_keeps _ _ (Part.sub (by decide) hL0) (State.setTim_keeps _ (Part.sub (by decide) hL0) (PairKeeps.snd (PairKeeps.ite (PairKeeps.mk (PairKeeps.snd (State.freeVal_keeps (Part.sub (by decide) hL0) h0))) (PairKeeps.mk h0))))))))))

theorem State.opB_keeps {L : List Part} {s0 s : State} (r : Req) (k : Nat) (v : Word)
    (hL0 : [.regs, .seam, .tim, .evt, .tsk, .hif, .timers, .resp, .out, .fresh] ⊆ L) (h0 : SameBut L s0 s) :
    SameBut L s0 (s.opB r k v) := by
  unfold State.opB
  exact (SameBut.ite (State.refuse_keeps _ _ (Part.sub (by decide) hL0) h0) (SameBut.ite (State.bSample_keeps (Part.sub (by decide) hL0) (State.store_keeps _ _ (Part.sub (by decide) hL0) h0)) (State.store_keeps _ _ (Part.sub (by decide) hL0) h0)))

theorem State.latchTime_keeps {L : List Part} {s0 s : State}
    (hL0 : [.regs] ⊆ L) (h0 : SameBut L s0 s) :
    SameBut L s0 (s.latchTime) := by
  unfold State.latchTime
  exact (State.wr_keeps _ _ (Part.sub (by decide) hL0) (State.wr_keeps _ _ (Part.sub (by decide) hL0) (State.wr_keeps _ _ (Part.sub (by decide) hL0) h0)))

theorem State.latchRtc_keeps {L : List Part} {s0 s : State}
    (hL0 : [.regs] ⊆ L) (h0 : SameBut L s0 s) :
    SameBut L s0 (s.latchRtc) := by
  unfold State.latchRtc
  exact (State.wr_keeps _ _ (Part.sub (by decide) hL0) h0)

theorem State.popTxts_keeps {L : List Part} {s0 s : State}
    (hL0 : [.tim] ⊆ L) (h0 : SameBut L s0 s) :
    SameBut L s0 (s.popTxts) := by
  unfold State.popTxts
  exact (State.setTim_keeps _ (Part.sub (by decide) hL0) h0)

theorem execServoHoldTimeout_keeps (s : State) :
    ResKeeps [.regs, .seam, .tim, .evt, .tsk, .hif, .timers, .out] s (execServoHoldTimeout s) := by
  have hL0 := List.Subset.refl ([.regs, .seam, .tim, .evt, .tsk, .hif, .timers, .out] : List Part)
  have h0 := SameBut.refl [.regs, .seam, .tim, .evt, .tsk, .hif, .timers, .out] s
  unfold execServoHoldTimeout
  exact (ResKeeps.next (SameBut.ite (State.toHoldover_keeps (Part.sub (by decide) hL0) h0) h0))

theorem execServoDisable_keeps (r : Req) (v : Word) (s : State) :
    ResKeeps [.regs, .seam, .tim, .evt, .tsk, .hif, .timers, .resp, .out] s (execServoDisable r v s) := by
  have hL0 := List.Subset.refl ([.regs, .seam, .tim, .evt, .tsk, .hif, .timers, .resp, .out] : List Part)
  have h0 := SameBut.refl [.regs, .seam, .tim, .evt, .tsk, .hif, .timers, .resp, .out] s
  unfold execServoDisable
  exact (ResKeeps.next (State.access_keeps _ _ _ _ (Part.sub (by decide) hL0) (fun _ h1 => (State.opTimCtl_keeps _ (Part.sub (by decide) hL0) h1)) h0))

theorem execStepByRefused_keeps (r : Req) (v : Word) (s : State) :
    ResKeeps [.regs, .seam, .lanes, .tim, .evt, .tsk, .hif, .clock, .timers, .resp, .out] s (execStepByRefused r v s) := by
  have hL0 := List.Subset.refl ([.regs, .seam, .lanes, .tim, .evt, .tsk, .hif, .clock, .timers, .resp, .out] : List Part)
  have h0 := SameBut.refl [.regs, .seam, .lanes, .tim, .evt, .tsk, .hif, .clock, .timers, .resp, .out] s
  unfold execStepByRefused
  exact (ResKeeps.next (State.access_keeps _ _ _ _ (Part.sub (by decide) hL0) (fun _ h1 => (State.opTimCmd_keeps _ _ (Part.sub (by decide) hL0) h1)) h0))

theorem execStepToTime_keeps (r : Req) (v : Word) (s : State) :
    ResKeeps [.regs, .seam, .lanes, .tim, .evt, .tsk, .hif, .clock, .timers, .resp, .out] s (execStepToTime r v s) := by
  have hL0 := List.Subset.refl ([.regs, .seam, .lanes, .tim, .evt, .tsk, .hif, .clock, .timers, .resp, .out] : List Part)
  have h0 := SameBut.refl [.regs, .seam, .lanes, .tim, .evt, .tsk, .hif, .clock, .timers, .resp, .out] s
  unfold execStepToTime
  exact (ResKeeps.next (State.access_keeps _ _ _ _ (Part.sub (by decide) hL0) (fun _ h1 => (State.opTimCmd_keeps _ _ (Part.sub (by decide) hL0) h1)) h0))

theorem execStepByAmount_keeps (r : Req) (v : Word) (s : State) :
    ResKeeps [.regs, .seam, .lanes, .tim, .evt, .tsk, .hif, .clock, .timers, .resp, .out] s (execStepByAmount r v s) := by
  have hL0 := List.Subset.refl ([.regs, .seam, .lanes, .tim, .evt, .tsk, .hif, .clock, .timers, .resp, .out] : List Part)
  have h0 := SameBut.refl [.regs, .seam, .lanes, .tim, .evt, .tsk, .hif, .clock, .timers, .resp, .out] s
  unfold execStepByAmount
  exact (ResKeeps.next (State.access_keeps _ _ _ _ (Part.sub (by decide) hL0) (fun _ h1 => (State.opTimCmd_keeps _ _ (Part.sub (by decide) hL0) h1)) h0))

theorem execStepApply_keeps (s : State) :
    ResKeeps [.regs, .seam, .lanes, .tim, .evt, .tsk, .hif, .clock, .timers, .out] s (execStepApply s) := by
  have hL0 := List.Subset.refl ([.regs, .seam, .lanes, .tim, .evt, .tsk, .hif, .clock, .timers, .out] : List Part)
  have h0 := SameBut.refl [.regs, .seam, .lanes, .tim, .evt, .tsk, .hif, .clock, .timers, .out] s
  unfold execStepApply
  exact (ResKeeps.next (by
    split
    · exact (State.stepTime_keeps _ (Part.sub (by decide) hL0) h0)
    · exact h0))

theorem execSwitchA_keeps (r : Req) (v : Word) (s : State) :
    ResKeeps [.regs, .seam, .lanes, .tim, .evt, .tsk, .hif, .clock, .timers, .resp, .out] s (execSwitchA r v s) := by
  have hL0 := List.Subset.refl ([.regs, .seam, .lanes, .tim, .evt, .tsk, .hif, .clock, .timers, .resp, .out] : List Part)
  have h0 := SameBut.refl [.regs, .seam, .lanes, .tim, .evt, .tsk, .hif, .clock, .timers, .resp, .out] s
  unfold execSwitchA
  exact (ResKeeps.next (State.access_keeps _ _ _ _ (Part.sub (by decide) hL0) (fun _ h1 => (State.opTimCmd_keeps _ _ (Part.sub (by decide) hL0) h1)) h0))

theorem execSwitchB_keeps (r : Req) (v : Word) (s : State) :
    ResKeeps [.regs, .seam, .lanes, .tim, .evt, .tsk, .hif, .clock, .timers, .resp, .out] s (execSwitchB r v s) := by
  have hL0 := List.Subset.refl ([.regs, .seam, .lanes, .tim, .evt, .tsk, .hif, .clock, .timers, .resp, .out] : List Part)
  have h0 := SameBut.refl [.regs, .seam, .lanes, .tim, .evt, .tsk, .hif, .clock, .timers, .resp, .out] s
  unfold execSwitchB
  exact (ResKeeps.next (State.access_keeps _ _ _ _ (Part.sub (by decide) hL0) (fun _ h1 => (State.opTimCmd_keeps _ _ (Part.sub (by decide) hL0) h1)) h0))

theorem execBSample_keeps (r : Req) (v : Word) (s : State) :
    ResKeeps [.regs, .seam, .tim, .evt, .tsk, .hif, .timers, .resp, .out, .fresh] s (execBSample r v s) := by
  have hL0 := List.Subset.refl ([.regs, .seam, .tim, .evt, .tsk, .hif, .timers, .resp, .out, .fresh] : List Part)
  have h0 := SameBut.refl [.regs, .seam, .tim, .evt, .tsk, .hif, .timers, .resp, .out, .fresh] s
  unfold execBSample
  exact (ResKeeps.next (State.access_keeps _ _ _ _ (Part.sub (by decide) hL0) (fun _ h1 => (State.opB_keeps _ _ _ (Part.sub (by decide) hL0) h1)) h0))

theorem execBStale_keeps (s : State) :
    ResKeeps [.regs, .seam, .tim, .evt, .tsk, .hif, .timers, .out] s (execBStale s) := by
  have hL0 := List.Subset.refl ([.regs, .seam, .tim, .evt, .tsk, .hif, .timers, .out] : List Part)
  have h0 := SameBut.refl [.regs, .seam, .tim, .evt, .tsk, .hif, .timers, .out] s
  unfold execBStale
  exact (ResKeeps.next (SameBut.ite (SameBut.ite (State.toHoldover_keeps (Part.sub (by decide) hL0) (State.setB_keeps _ (Part.sub (by decide) hL0) (State.stopTimer_keeps _ (Part.sub (by decide) hL0) h0))) (State.setB_keeps _ (Part.sub (by decide) hL0) (State.stopTimer_keeps _ (Part.sub (by decide) hL0) h0))) h0))

theorem execRtcTrimMeasure_keeps (ppm : BitVec 24) (s : State) :
    ResKeeps [.regs] s (execRtcTrimMeasure ppm s) := by
  have hL0 := List.Subset.refl ([.regs] : List Part)
  have h0 := SameBut.refl [.regs] s
  unfold execRtcTrimMeasure
  exact (ResKeeps.ite (ResKeeps.next (State.setFld_keeps _ _ (Part.sub (by decide) hL0) (State.setFld_keeps _ _ (Part.sub (by decide) hL0) h0))) (ResKeeps.next h0))

theorem execRtcFail_keeps (s : State) :
    ResKeeps [.regs, .seam, .tim, .evt, .tsk, .hif, .out] s (execRtcFail s) := by
  have hL0 := List.Subset.refl ([.regs, .seam, .tim, .evt, .tsk, .hif, .out] : List Part)
  have h0 := SameBut.refl [.regs, .seam, .tim, .evt, .tsk, .hif, .out] s
  unfold execRtcFail
  exact (ResKeeps.next (State.fire_keeps _ _ (Part.sub (by decide) hL0) (State.setTim_keeps _ (Part.sub (by decide) hL0) h0)))

theorem execTxtsRead_keeps (r : Req) (s : State) :
    ResKeeps [.regs, .seam, .tim, .evt, .tsk, .hif, .resp, .out] s (execTxtsRead r s) := by
  have hL0 := List.Subset.refl ([.regs, .seam, .tim, .evt, .tsk, .hif, .resp, .out] : List Part)
  have h0 := SameBut.refl [.regs, .seam, .tim, .evt, .tsk, .hif, .resp, .out] s
  unfold execTxtsRead
  exact (ResKeeps.next (State.readAccess_keeps _ _ _ _ _ (Part.sub (by decide) hL0) (fun _ h1 => (State.popTxts_keeps (Part.sub (by decide) hL0) h1)) h0))

theorem execTimeReadLatch_keeps (r : Req) (s : State) :
    ResKeeps [.regs, .seam, .evt, .tsk, .hif, .resp, .out] s (execTimeReadLatch r s) := by
  have hL0 := List.Subset.refl ([.regs, .seam, .evt, .tsk, .hif, .resp, .out] : List Part)
  have h0 := SameBut.refl [.regs, .seam, .evt, .tsk, .hif, .resp, .out] s
  unfold execTimeReadLatch
  exact (ResKeeps.next (State.readAccess_keeps _ _ _ _ _ (Part.sub (by decide) hL0) (fun _ h1 => (State.latchTime_keeps (Part.sub (by decide) hL0) h1)) h0))

theorem execRtcReadLatch_keeps (r : Req) (s : State) :
    ResKeeps [.regs, .seam, .evt, .tsk, .hif, .resp, .out] s (execRtcReadLatch r s) := by
  have hL0 := List.Subset.refl ([.regs, .seam, .evt, .tsk, .hif, .resp, .out] : List Part)
  have h0 := SameBut.refl [.regs, .seam, .evt, .tsk, .hif, .resp, .out] s
  unfold execRtcReadLatch
  exact (ResKeeps.next (State.readAccess_keeps _ _ _ _ _ (Part.sub (by decide) hL0) (fun _ h1 => (State.latchRtc_keeps (Part.sub (by decide) hL0) h1)) h0))

theorem execPpsEdge_keeps (s : State) :
    ResKeeps [.regs, .seam, .tim, .evt, .tsk, .hif, .out] s (execPpsEdge s) := by
  have hL0 := List.Subset.refl ([.regs, .seam, .tim, .evt, .tsk, .hif, .out] : List Part)
  have h0 := SameBut.refl [.regs, .seam, .tim, .evt, .tsk, .hif, .out] s
  unfold execPpsEdge
  exact (ResKeeps.next (SameBut.ite h0 (State.fire_keeps _ _ (Part.sub (by decide) hL0) (State.emit_keeps _ (Part.sub (by decide) hL0) (State.setTim_keeps _ (Part.sub (by decide) hL0) h0)))))

theorem execTodUartMessage_keeps (s : State) :
    ResKeeps [.tim, .out] s (execTodUartMessage s) := by
  have hL0 := List.Subset.refl ([.tim, .out] : List Part)
  have h0 := SameBut.refl [.tim, .out] s
  unfold execTodUartMessage
  exact (ResKeeps.next (by
    split
    · exact h0
    · exact (SameBut.ite (State.emit_keeps _ (Part.sub (by decide) hL0) (State.setTim_keeps _ (Part.sub (by decide) hL0) h0)) (State.setTim_keeps _ (Part.sub (by decide) hL0) h0))))

end Sys2Proof.Machine
end

