-- ==== Sys2Proof/Laws/Tributaries.lean ====
section
/-! SUPPORT. Which parts of the state each operation of Machine/Tributaries.lean can change. -/

namespace Sys2Proof.Machine

open Sys2Proof

set_option linter.unusedTactic false
set_option linter.unreachableTactic false
set_option linter.unusedVariables false

theorem State.freeBits_keeps {L : List Part} {s0 s : State} (n : Nat)
    (hL0 : [.fresh] ⊆ L) (h0 : SameBut L s0 s) : PairKeeps L s0 (s.freeBits n) := by
  induction n generalizing s with
  | zero => exact PairKeeps.mk h0
  | succ n ih =>
    unfold State.freeBits
    exact PairKeeps.mk (PairKeeps.snd (ih (PairKeeps.snd (State.freeVal_keeps (Part.sub (by decide) hL0) h0))))

theorem State.tribSet_keeps {L : List Part} {s0 s : State} (ctx : Fin 1024) (x : Trib)
    (hL0 : [.regs, .seam, .tribs, .evt, .tsk, .hif, .out] ⊆ L) (h0 : SameBut L s0 s) :
    SameBut L s0 (s.tribSet ctx x) := by
  unfold State.tribSet
  exact (State.tribFlag_keeps _ _ (Part.sub (by decide) hL0) (State.setTrib_keeps _ _ (Part.sub (by decide) hL0) h0))

theorem State.tribSlip_keeps {L : List Part} {s0 s : State} (ctx : Fin 1024)
    (hL0 : [.regs, .seam, .tribs, .evt, .tsk, .hif, .out] ⊆ L) (h0 : SameBut L s0 s) :
    SameBut L s0 (s.tribSlip ctx) := by
  unfold State.tribSlip
  exact (State.tribFlag_keeps _ _ (Part.sub (by decide) hL0) (State.bump_keeps _ (Part.sub (by decide) hL0) h0))

theorem State.takeBits_keeps {L : List Part} {s0 s : State} (ctx : Fin 1024) (e : Nat)
    (hL0 : [.regs, .seam, .tribs, .evt, .tsk, .hif, .out] ⊆ L) (h0 : SameBut L s0 s) :
    PairKeeps L s0 (s.takeBits ctx e) := by
  unfold State.takeBits
  exact (PairKeeps.mk (State.setTrib_keeps _ _ (Part.sub (by decide) hL0) (SameBut.ite (State.tribSlip_keeps _ (Part.sub (by decide) hL0) (SameBut.ite (State.bump_keeps _ (Part.sub (by decide) hL0) (SameBut.ite (State.bump_keeps _ (Part.sub (by decide) hL0) h0) h0)) (SameBut.ite (State.bump_keeps _ (Part.sub (by decide) hL0) (SameBut.ite (State.bump_keeps _ (Part.sub (by decide) hL0) h0) h0)) (SameBut.ite (State.bump_keeps _ (Part.sub (by decide) hL0) h0) h0)))) (SameBut.ite (State.bump_keeps _ (Part.sub (by decide) hL0) (SameBut.ite (State.bump_keeps _ (Part.sub (by decide) hL0) h0) h0)) (SameBut.ite (State.bump_keeps _ (Part.sub (by decide) hL0) (SameBut.ite (State.bump_keeps _ (Part.sub (by decide) hL0) h0) h0)) (SameBut.ite (State.bump_keeps _ (Part.sub (by decide) hL0) h0) h0))))))

theorem State.takeOctets_keeps {L : List Part} {s0 s : State} (ctx : Fin 1024) (e : Nat)
    (hL0 : [.regs, .seam, .tribs, .evt, .tsk, .hif, .out, .fresh] ⊆ L) (h0 : SameBut L s0 s) :
    PairKeeps L s0 (s.takeOctets ctx e) := by
  unfold State.takeOctets
  exact (PairKeeps.ite (PairKeeps.mk (State.tribSlip_keeps _ (Part.sub (by decide) hL0) (PairKeeps.snd (PairKeeps.ite (PairKeeps.mk h0) (State.freeBits_keeps _ (Part.sub (by decide) hL0) h0))))) (PairKeeps.mk (State.setTrib_keeps _ _ (Part.sub (by decide) hL0) h0)))

theorem State.containerBytes_keeps {L : List Part} {s0 s : State} (ctx : Fin 1024) (e : Nat) (seq : Nat) (jn : Bool) (jp : Bool) (oh : Byte) (data : List Bool)
    (hL0 : [.fresh] ⊆ L) (h0 : SameBut L s0 s) :
    PairKeeps L s0 (s.containerBytes ctx e seq jn jp oh data) := by
  unfold State.containerBytes
  exact (PairKeeps.mk (PairKeeps.snd (PairKeeps.ite (PairKeeps.mk h0) (State.freeBits_keeps _ (Part.sub (by decide) hL0) h0))))

theorem State.queueContainer_keeps {L : List Part} {s0 s : State} (ctx : Fin 1024) (bytes : List Byte)
    (hL0 : [.regs, .seam, .tribs, .evt, .tsk, .hif, .out] ⊆ L) (h0 : SameBut L s0 s) :
    SameBut L s0 (s.queueContainer ctx bytes) := by
  unfold State.queueContainer
  exact (SameBut.ite (State.setTrib_keeps _ _ (Part.sub (by decide) hL0) h0) (State.fire_keeps _ _ (Part.sub (by decide) hL0) (State.bump_keeps _ (Part.sub (by decide) hL0) (State.setTrib_keeps _ _ (Part.sub (by decide) hL0) h0))))

theorem State.buildContainer_keeps {L : List Part} {s0 s : State} (ctx : Fin 1024) (e : Nat)
    (hL0 : [.regs, .seam, .tribs, .ttest, .evt, .tsk, .hif, .out, .fresh] ⊆ L) (h0 : SameBut L s0 s) :
    SameBut L s0 (s.buildContainer ctx e) := by
  unfold State.buildContainer
  try dsimp only
  exact (State.queueContainer_keeps _ _ (Part.sub (by decide) hL0) (State.setTrib_keeps _ _ (Part.sub (by decide) hL0) (PairKeeps.snd (State.containerBytes_keeps _ _ _ _ _ _ _ (Part.sub (by decide) hL0) (SameBut.upd_ttest (Part.sub (by decide) hL0) (PairKeeps.snd (PairKeeps.ite (PairKeeps.mk (State.setTrib_keeps _ _ (Part.sub (by decide) hL0) h0)) (PairKeeps.ite (PairKeeps.mk (PairKeeps.snd (State.takeOctets_keeps _ _ (Part.sub (by decide) hL0) h0))) (State.takeBits_keeps _ _ (Part.sub (by decide) hL0) h0)))))))))

theorem State.storeDown_keeps {L : List Part} {s0 s : State} (ctx : Fin 1024) (e : Nat) (bs : List Bool)
    (hL0 : [.regs, .seam, .tribs, .evt, .tsk, .hif, .out] ⊆ L) (h0 : SameBut L s0 s) :
    SameBut L s0 (s.storeDown ctx e bs) := by
  unfold State.storeDown
  exact (SameBut.ite (State.setTrib_keeps _ _ (Part.sub (by decide) hL0) h0) (SameBut.ite (State.tribSlip_keeps _ (Part.sub (by decide) hL0) (State.setTrib_keeps _ _ (Part.sub (by decide) hL0) h0)) (State.tribSlip_keeps _ (Part.sub (by decide) hL0) (State.setTrib_keeps _ _ (Part.sub (by decide) hL0) h0))))

theorem State.analyse_keeps {L : List Part} {s0 s : State} (ctx : Fin 1024) (bs : List Bool)
    (hL0 : [.regs, .seam, .ttest, .evt, .tsk, .hif, .out, .fresh] ⊆ L) (h0 : SameBut L s0 s) :
    SameBut L s0 (s.analyse ctx bs) := by
  unfold State.analyse
  exact (SameBut.ite (SameBut.ite (State.fire_keeps _ _ (Part.sub (by decide) hL0) (State.bumpBy_keeps _ _ (Part.sub (by decide) hL0) (SameBut.upd_ttest (Part.sub (by decide) hL0) (PairKeeps.snd (State.freeVal_keeps (Part.sub (by decide) hL0) h0))))) (SameBut.upd_ttest (Part.sub (by decide) hL0) (PairKeeps.snd (State.freeVal_keeps (Part.sub (by decide) hL0) h0)))) h0)

theorem State.acceptContainer_keeps {L : List Part} {s0 s : State} (ctx : Fin 1024) (e : Nat) (bytes : List Byte) (seq : Nat)
    (hL0 : [.regs, .seam, .tribs, .ttest, .evt, .tsk, .hif, .timers, .out, .fresh] ⊆ L) (h0 : SameBut L s0 s) :
    SameBut L s0 (s.acceptContainer ctx e bytes seq) := by
  unfold State.acceptContainer
  exact (SameBut.ite (State.analyse_keeps _ _ (Part.sub (by decide) hL0) (State.startTimer_keeps _ (Part.sub (by decide) hL0) (State.tribSet_keeps _ _ (Part.sub (by decide) hL0) (SameBut.ite (State.bump_keeps _ (Part.sub (by decide) hL0) (SameBut.ite (State.bump_keeps _ (Part.sub (by decide) hL0) (SameBut.ite (State.bump_keeps _ (Part.sub (by decide) hL0) h0) h0)) (SameBut.ite (State.bump_keeps _ (Part.sub (by decide) hL0) h0) h0))) (SameBut.ite (State.bump_keeps _ (Part.sub (by decide) hL0) (SameBut.ite (State.bump_keeps _ (Part.sub (by decide) hL0) h0) h0)) (SameBut.ite (State.bump_keeps _ (Part.sub (by decide) hL0) h0) h0)))))) (State.storeDown_keeps _ _ _ (Part.sub (by decide) hL0) (State.analyse_keeps _ _ (Part.sub (by decide) hL0) (State.startTimer_keeps _ (Part.sub (by decide) hL0) (State.tribSet_keeps _ _ (Part.sub (by decide) hL0) (SameBut.ite (State.bump_keeps _ (Part.sub (by decide) hL0) (SameBut.ite (State.bump_keeps _ (Part.sub (by decide) hL0) (SameBut.ite (State.bump_keeps _ (Part.sub (by decide) hL0) h0) h0)) (SameBut.ite (State.bump_keeps _ (Part.sub (by decide) hL0) h0) h0))) (SameBut.ite (State.bump_keeps _ (Part.sub (by decide) hL0) (SameBut.ite (State.bump_keeps _ (Part.sub (by decide) hL0) h0) h0)) (SameBut.ite (State.bump_keeps _ (Part.sub (by decide) hL0) h0) h0))))))))

theorem State.sequence_keeps {L : List Part} {s0 s : State} (ctx : Fin 1024) (e : Nat) (bytes : List Byte) (seq : Nat)
    (hL0 : [.regs, .seam, .tribs, .ttest, .evt, .tsk, .hif, .timers, .out, .fresh] ⊆ L) (h0 : SameBut L s0 s) :
    SameBut L s0 (s.sequence ctx e bytes seq) := by
  unfold State.sequence
  split
  · exact (State.acceptContainer_keeps _ _ _ _ (Part.sub (by decide) hL0) h0)
  · exact (SameBut.ite (State.bump_keeps _ (Part.sub (by decide) hL0) h0) (State.acceptContainer_keeps _ _ _ _ (Part.sub (by decide) hL0) (SameBut.foldl (fun _ _ h1 => (State.bump_keeps _ (Part.sub (by decide) hL0) (SameBut.ite h1 (State.storeDown_keeps _ _ _ (Part.sub (by decide) hL0) h1)))) h0)))

theorem State.chdrErr_keeps {L : List Part} {s0 s : State}
    (hL0 : [.regs, .seam, .evt, .tsk, .hif, .out] ⊆ L) (h0 : SameBut L s0 s) :
    SameBut L s0 (s.chdrErr) := by
  unfold State.chdrErr
  exact (State.fire_keeps _ _ (Part.sub (by decide) hL0) (State.bump_keeps _ (Part.sub (by decide) hL0) h0))

theorem State.setFrags_keeps {L : List Part} {s0 s : State} (c : Chan) (fs : List (List Byte))
    (hL0 : [.tfrags] ⊆ L) (h0 : SameBut L s0 s) :
    SameBut L s0 (s.setFrags c fs) := by
  unfold State.setFrags
  exact (SameBut.upd_tfrags (Part.sub (by decide) hL0) h0)

theorem State.receiveContainer_keeps {L : List Part} {s0 s : State} (c : Chan)
    (hL0 : [.regs, .seam, .tribs, .tfrags, .ttest, .evt, .tsk, .hif, .timers, .out, .fresh] ⊆ L) (h0 : SameBut L s0 s) :
    SameBut L s0 (s.receiveContainer c) := by
  unfold State.receiveContainer
  split
  · exact h0
  · exact (SameBut.ite (State.chdrErr_keeps (Part.sub (by decide) hL0) (State.setFrags_keeps _ _ (Part.sub (by decide) hL0) h0)) (SameBut.ite (State.bump_keeps _ (Part.sub (by decide) hL0) (State.setFrags_keeps _ _ (Part.sub (by decide) hL0) h0)) (SameBut.ite (State.chdrErr_keeps (Part.sub (by decide) hL0) (State.setFrags_keeps _ _ (Part.sub (by decide) hL0) h0)) (by
      try dsimp only
      split
      · exact (State.bump_keeps _ (Part.sub (by decide) hL0) (State.setFrags_keeps _ _ (Part.sub (by decide) hL0) h0))
      · exact (SameBut.ite (State.bump_keeps _ (Part.sub (by decide) hL0) (State.setFrags_keeps _ _ (Part.sub (by decide) hL0) h0)) (State.sequence_keeps _ _ _ _ (Part.sub (by decide) hL0) (State.setFrags_keeps _ _ (Part.sub (by decide) hL0) h0)))))))

theorem State.tribLoc_keeps {L : List Part} {s0 s : State} (ctx : Fin 1024)
    (hL0 : [.regs, .seam, .tribs, .evt, .tsk, .hif, .timers, .out] ⊆ L) (h0 : SameBut L s0 s) :
    SameBut L s0 (s.tribLoc ctx) := by
  unfold State.tribLoc
  exact (State.stopTimer_keeps _ (Part.sub (by decide) hL0) (State.tribSet_keeps _ _ (Part.sub (by decide) hL0) h0))

theorem State.tribFrameLost_keeps {L : List Part} {s0 s : State} (c : Chan)
    (hL0 : [.regs, .seam, .tribs, .evt, .tsk, .hif, .timers, .out] ⊆ L) (h0 : SameBut L s0 s) :
    SameBut L s0 (s.tribFrameLost c) := by
  unfold State.tribFrameLost
  exact (SameBut.foldl (fun _ _ h1 => (State.tribLoc_keeps _ (Part.sub (by decide) hL0) h1)) h0)

theorem State.tribAis_keeps {L : List Part} {s0 s : State} (c : Chan) (on : Bool)
    (hL0 : [.regs, .seam, .tribs, .evt, .tsk, .hif, .out] ⊆ L) (h0 : SameBut L s0 s) :
    SameBut L s0 (s.tribAis c on) := by
  unfold State.tribAis
  exact (SameBut.foldl (fun _ _ h1 => (State.tribSet_keeps _ _ (Part.sub (by decide) hL0) h1)) h0)

theorem State.slotByte_keeps {L : List Part} {s0 s : State} (ctx : Fin 1024) (e : Nat)
    (hL0 : [.regs, .seam, .tribs, .evt, .tsk, .hif, .out] ⊆ L) (h0 : SameBut L s0 s) :
    PairKeeps L s0 (s.slotByte ctx e) := by
  unfold State.slotByte
  exact (PairKeeps.ite (PairKeeps.mk h0) (PairKeeps.ite (PairKeeps.mk (State.setTrib_keeps _ _ (Part.sub (by decide) hL0) h0)) (PairKeeps.ite (PairKeeps.mk (State.setTrib_keeps _ _ (Part.sub (by decide) hL0) h0)) (PairKeeps.mk (State.tribSlip_keeps _ (Part.sub (by decide) hL0) (State.setTrib_keeps _ _ (Part.sub (by decide) hL0) h0))))))

theorem State.framePeriod_keeps {L : List Part} {s0 s : State} (ctx : Fin 1024) (e : Nat)
    (hL0 : [.regs, .seam, .tribs, .evt, .tsk, .hif, .out, .fresh] ⊆ L) (h0 : SameBut L s0 s) :
    SameBut L s0 (s.framePeriod ctx e) := by
  unfold State.framePeriod
  exact (SameBut.ite (SameBut.ite h0 (State.setTrib_keeps _ _ (Part.sub (by decide) hL0) h0)) (SameBut.ite (State.setTrib_keeps _ _ (Part.sub (by decide) hL0) h0) (SameBut.ite (State.setTrib_keeps _ _ (Part.sub (by decide) hL0) h0) (SameBut.ite (State.setTrib_keeps _ _ (Part.sub (by decide) hL0) h0) (SameBut.ite (State.tribSlip_keeps _ (Part.sub (by decide) hL0) (State.setTrib_keeps _ _ (Part.sub (by decide) hL0) h0)) (State.tribSlip_keeps _ (Part.sub (by decide) hL0) (State.setTrib_keeps _ _ (Part.sub (by decide) hL0) (PairKeeps.snd (State.freeBits_keeps _ (Part.sub (by decide) hL0) h0)))))))))

theorem State.storeUp_keeps {L : List Part} {s0 s : State} (ctx : Fin 1024) (e : Nat) (b : Byte)
    (hL0 : [.regs, .seam, .tribs, .evt, .tsk, .hif, .out] ⊆ L) (h0 : SameBut L s0 s) :
    SameBut L s0 (s.storeUp ctx e b) := by
  unfold State.storeUp
  exact (SameBut.ite (State.setTrib_keeps _ _ (Part.sub (by decide) hL0) h0) (SameBut.ite (State.tribSlip_keeps _ (Part.sub (by decide) hL0) (State.setTrib_keeps _ _ (Part.sub (by decide) hL0) h0)) (State.tribSlip_keeps _ (Part.sub (by decide) hL0) (State.setTrib_keeps _ _ (Part.sub (by decide) hL0) h0))))

theorem State.slotIn_keeps {L : List Part} {s0 s : State} (ctx : Fin 1024) (e : Nat) (ch : SlotChar)
    (hL0 : [.regs, .seam, .tribs, .evt, .tsk, .hif, .out] ⊆ L) (h0 : SameBut L s0 s) :
    SameBut L s0 (s.slotIn ctx e ch) := by
  unfold State.slotIn
  try dsimp only
  split
  · exact h0
  · exact (SameBut.ite (State.setTrib_keeps _ _ (Part.sub (by decide) hL0) h0) (State.storeUp_keeps _ _ _ (Part.sub (by decide) hL0) h0))
  · exact (SameBut.ite (State.setTrib_keeps _ _ (Part.sub (by decide) hL0) h0) (State.storeUp_keeps _ _ _ (Part.sub (by decide) hL0) h0))
  · exact (SameBut.ite h0 (SameBut.ite (State.setTrib_keeps _ _ (Part.sub (by decide) hL0) h0) (State.setTrib_keeps _ _ (Part.sub (by decide) hL0) h0)))

theorem State.overheadIn_keeps {L : List Part} {s0 s : State} (ctx : Fin 1024) (row : Nat) (b : Byte)
    (hL0 : [.regs, .seam, .tribs, .evt, .tsk, .hif, .out] ⊆ L) (h0 : SameBut L s0 s) :
    SameBut L s0 (s.overheadIn ctx row b) := by
  unfold State.overheadIn
  exact (SameBut.ite (State.tribSet_keeps _ _ (Part.sub (by decide) hL0) h0) (SameBut.ite (State.tribSet_keeps _ _ (Part.sub (by decide) hL0) h0) h0))

theorem State.deliverRow_keeps {L : List Part} {s0 s : State} (l : Fin 48) (row : Nat) (r : RowIn)
    (hL0 : [.regs, .seam, .tribs, .evt, .tsk, .hif, .out] ⊆ L) (h0 : SameBut L s0 s) :
    SameBut L s0 (s.deliverRow l row r) := by
  unfold State.deliverRow
  exact (SameBut.ite h0 (by
    try dsimp only
    split
    · exact (State.overheadIn_keeps _ _ _ (Part.sub (by decide) hL0) (SameBut.foldl (fun _ _ h1 => (by
        split
        · exact (State.slotIn_keeps _ _ _ (Part.sub (by decide) hL0) h1)
        · exact h1)) h0))
    · exact (SameBut.foldl (fun _ _ h2 => (by
        split
        · exact (State.slotIn_keeps _ _ _ (Part.sub (by decide) hL0) h2)
        · exact h2)) h0)))

theorem State.setRow_keeps {L : List Part} {s0 s : State} (l : Fin 48) (x : RowLane)
    (hL0 : [.rows] ⊆ L) (h0 : SameBut L s0 s) :
    SameBut L s0 (s.setRow l x) := by
  unfold State.setRow
  exact (SameBut.upd_rows (Part.sub (by decide) hL0) h0)

theorem State.checkRow_keeps {L : List Part} {s0 s : State} (l : Fin 48) (r : RowIn)
    (hL0 : [.regs, .seam, .tribs, .rows, .lanes, .evt, .tsk, .hif, .timers, .out] ⊆ L) (h0 : SameBut L s0 s) :
    SameBut L s0 (s.checkRow l r) := by
  unfold State.checkRow
  try dsimp only
  split
  · exact (SameBut.ite (State.setRow_keeps _ _ (Part.sub (by decide) hL0) h0) h0)
  · exact (SameBut.ite (State.setRow_keeps _ _ (Part.sub (by decide) hL0) h0) (SameBut.ite (State.laneUp_keeps _ (Part.sub (by decide) hL0) (State.setRow_keeps _ _ (Part.sub (by decide) hL0) h0)) (State.setRow_keeps _ _ (Part.sub (by decide) hL0) h0)))
  · exact (SameBut.ite (State.deliverRow_keeps _ _ _ (Part.sub (by decide) hL0) (State.laneUp_keeps _ (Part.sub (by decide) hL0) (State.setRow_keeps _ _ (Part.sub (by decide) hL0) h0))) (SameBut.ite (State.deliverRow_keeps _ _ _ (Part.sub (by decide) hL0) (State.setRow_keeps _ _ (Part.sub (by decide) hL0) (SameBut.ite h0 (State.bump_keeps _ (Part.sub (by decide) hL0) h0)))) (State.fire_keeps _ _ (Part.sub (by decide) hL0) (State.laneLost_keeps _ (Part.sub (by decide) hL0) (State.setRow_keeps _ _ (Part.sub (by decide) hL0) h0)))))

theorem State.slotOut_keeps {L : List Part} {s0 s : State} (ctx : Fin 1024) (e : Nat)
    (hL0 : [.regs, .seam, .tribs, .evt, .tsk, .hif, .out] ⊆ L) (h0 : SameBut L s0 s) :
    PairKeeps L s0 (s.slotOut ctx e) := by
  unfold State.slotOut
  exact (PairKeeps.ite (by
    split
    · exact (PairKeeps.mk (State.setTrib_keeps _ _ (Part.sub (by decide) hL0) h0))
    · exact (PairKeeps.mk h0)) (PairKeeps.ite (by
    split
    · exact (PairKeeps.mk h0)
    · exact (PairKeeps.ite (PairKeeps.mk (State.setTrib_keeps _ _ (Part.sub (by decide) hL0) h0)) (PairKeeps.mk (State.setTrib_keeps _ _ (Part.sub (by decide) hL0) h0)))) (PairKeeps.ite (PairKeeps.mk (State.setTrib_keeps _ _ (Part.sub (by decide) hL0) h0)) (PairKeeps.ite (PairKeeps.mk (State.setTrib_keeps _ _ (Part.sub (by decide) hL0) h0)) (PairKeeps.mk (PairKeeps.snd (State.slotByte_keeps _ _ (Part.sub (by decide) hL0) (State.setTrib_keeps _ _ (Part.sub (by decide) hL0) h0))))))))

theorem State.slotAt_keeps {L : List Part} {s0 s : State} (l : Fin 48) (i : Nat)
    (hL0 : [.regs, .seam, .tribs, .evt, .tsk, .hif, .out] ⊆ L) (h0 : SameBut L s0 s) :
    PairKeeps L s0 (s.slotAt l i) := by
  unfold State.slotAt
  split
  · exact (State.slotOut_keeps _ _ (Part.sub (by decide) hL0) h0)
  · exact (PairKeeps.mk h0)

theorem State.slotsOut_keeps {L : List Part} {s0 s : State} (l : Fin 48) (is : List Nat)
    (hL0 : [.regs, .seam, .tribs, .evt, .tsk, .hif, .out] ⊆ L) (h0 : SameBut L s0 s) : PairKeeps L s0 (s.slotsOut l is) := by
  induction is generalizing s with
  | nil => exact PairKeeps.mk h0
  | cons i is ih =>
    unfold State.slotsOut
    dsimp only
    exact PairKeeps.mk (PairKeeps.snd (ih (PairKeeps.snd (State.slotAt_keeps _ _ (Part.sub (by decide) hL0) h0))))

theorem State.rowSlots_keeps {L : List Part} {s0 s : State} (l : Fin 48)
    (hL0 : [.regs, .seam, .tribs, .evt, .tsk, .hif, .out] ⊆ L) (h0 : SameBut L s0 s) :
    PairKeeps L s0 (s.rowSlots l) := by
  unfold State.rowSlots
  exact (State.slotsOut_keeps _ _ (Part.sub (by decide) hL0) h0)

theorem State.overheadOut_keeps {L : List Part} {s0 s : State} (l : Fin 48) (row : Nat)
    (hL0 : [.fresh] ⊆ L) (h0 : SameBut L s0 s) :
    PairKeeps L s0 (s.overheadOut l row) := by
  unfold State.overheadOut
  split
  · exact (PairKeeps.mk h0)
  · exact (PairKeeps.ite (PairKeeps.ite (PairKeeps.mk h0) (PairKeeps.mk (PairKeeps.snd (State.freeVal_keeps (Part.sub (by decide) hL0) h0)))) (PairKeeps.ite (PairKeeps.ite (PairKeeps.mk h0) (PairKeeps.mk h0)) (PairKeeps.mk h0)))

theorem State.opTblData_keeps {L : List Part} {s0 s : State} (r : Req) (hi : Bool) (v : Word)
    (hL0 : [.regs, .seam, .tmap, .evt, .tsk, .hif, .resp, .out] ⊆ L) (h0 : SameBut L s0 s) :
    SameBut L s0 (s.opTblData r hi v) := by
  unfold State.opTblData
  exact (SameBut.ite (State.refuse_keeps _ _ (Part.sub (by decide) hL0) h0) (SameBut.ite (State.wr_keeps _ _ (Part.sub (by decide) hL0) h0) (State.viewTbl_keeps (Part.sub (by decide) hL0) (SameBut.ite (State.setFld_keeps _ _ (Part.sub (by decide) hL0) (SameBut.upd_tmap (Part.sub (by decide) hL0) h0)) (SameBut.upd_tmap (Part.sub (by decide) hL0) h0)))))

theorem State.opTblCmd_keeps {L : List Part} {s0 s : State} (v : Word)
    (hL0 : [.regs] ⊆ L) (h0 : SameBut L s0 s) :
    SameBut L s0 (s.opTblCmd v) := by
  unfold State.opTblCmd
  exact (SameBut.ite (by
    try dsimp only
    split
    · exact (State.setFld_keeps _ _ (Part.sub (by decide) hL0) (State.setFld_keeps _ _ (Part.sub (by decide) hL0) (SameBut.ite (State.setFld_keeps _ _ (Part.sub (by decide) hL0) h0) h0)))
    · exact (State.setFld_keeps _ _ (Part.sub (by decide) hL0) (State.setFld_keeps _ _ (Part.sub (by decide) hL0) (SameBut.ite (State.setFld_keeps _ _ (Part.sub (by decide) hL0) h0) h0)))) (SameBut.ite (State.setFld_keeps _ _ (Part.sub (by decide) hL0) h0) h0))

theorem State.copyTbl_keeps {L : List Part} {s0 s : State}
    (hL0 : [.regs, .tmap] ⊆ L) (h0 : SameBut L s0 s) :
    SameBut L s0 (s.copyTbl) := by
  unfold State.copyTbl
  exact (SameBut.ite (State.viewTbl_keeps (Part.sub (by decide) hL0) (State.setFld_keeps _ _ (Part.sub (by decide) hL0) (SameBut.upd_tmap (Part.sub (by decide) hL0) h0))) h0)

theorem State.opTrbCtl_keeps {L : List Part} {s0 s : State} (v : Word)
    (hL0 : [.regs, .seam, .tribs, .evt, .tsk, .hif, .timers, .out] ⊆ L) (h0 : SameBut L s0 s) :
    SameBut L s0 (s.opTrbCtl v) := by
  unfold State.opTrbCtl
  exact (SameBut.ite (SameBut.foldl (fun _ _ h1 => (by
    split
    · exact (State.tribRestart_keeps _ _ (Part.sub (by decide) hL0) h1)
    · exact h1)) (State.store_keeps _ _ (Part.sub (by decide) hL0) h0)) (State.store_keeps _ _ (Part.sub (by decide) hL0) h0))

theorem State.opStFlags_keeps {L : List Part} {s0 s : State} (v : Word)
    (hL0 : [.tribs] ⊆ L) (h0 : SameBut L s0 s) :
    SameBut L s0 (s.opStFlags v) := by
  unfold State.opStFlags
  exact (State.setTrib_keeps _ _ (Part.sub (by decide) hL0) h0)

theorem State.opTestCtl_keeps {L : List Part} {s0 s : State} (v : Word)
    (hL0 : [.regs, .ttest] ⊆ L) (h0 : SameBut L s0 s) :
    SameBut L s0 (s.opTestCtl v) := by
  unfold State.opTestCtl
  exact (SameBut.ite (State.store_keeps _ _ (Part.sub (by decide) hL0) h0) (SameBut.upd_ttest (Part.sub (by decide) hL0) (State.store_keeps _ _ (Part.sub (by decide) hL0) h0)))

theorem State.fit16_keeps {L : List Part} {s0 s : State} (x : ℤ)
    (hL0 : [.fresh] ⊆ L) (h0 : SameBut L s0 s) :
    PairKeeps L s0 (s.fit16 x) := by
  unfold State.fit16
  exact (PairKeeps.ite (PairKeeps.mk h0) (PairKeeps.mk (PairKeeps.snd (State.freeVal_keeps (Part.sub (by decide) hL0) h0))))

theorem State.rateSecond_keeps {L : List Part} {s0 s : State} (ctx : Fin 1024) (e : Nat)
    (hL0 : [.regs, .seam, .tribs, .evt, .tsk, .hif, .out, .fresh] ⊆ L) (h0 : SameBut L s0 s) :
    SameBut L s0 (s.rateSecond ctx e) := by
  unfold State.rateSecond
  exact (State.tribSet_keeps _ _ (Part.sub (by decide) hL0) (PairKeeps.snd (State.fit16_keeps _ (Part.sub (by decide) hL0) (PairKeeps.snd (State.fit16_keeps _ (Part.sub (by decide) hL0) h0)))))

theorem execContainerBuild_keeps (ctx : Fin 1024) (s : State) :
    ResKeeps [.regs, .seam, .tribs, .ttest, .evt, .tsk, .hif, .out, .fresh] s (execContainerBuild ctx s) := by
  have hL0 := List.Subset.refl ([.regs, .seam, .tribs, .ttest, .evt, .tsk, .hif, .out, .fresh] : List Part)
  have h0 := SameBut.refl [.regs, .seam, .tribs, .ttest, .evt, .tsk, .hif, .out, .fresh] s
  unfold execContainerBuild
  exact (ResKeeps.next (by
    split
    · exact (SameBut.ite (State.buildContainer_keeps _ _ (Part.sub (by decide) hL0) h0) h0)
    · exact h0))

theorem execContainerReceive_keeps (c : Chan) (s : State) :
    ResKeeps [.regs, .seam, .tribs, .tfrags, .ttest, .evt, .tsk, .hif, .timers, .out, .fresh] s (execContainerReceive c s) := by
  have hL0 := List.Subset.refl ([.regs, .seam, .tribs, .tfrags, .ttest, .evt, .tsk, .hif, .timers, .out, .fresh] : List Part)
  have h0 := SameBut.refl [.regs, .seam, .tribs, .tfrags, .ttest, .evt, .tsk, .hif, .timers, .out, .fresh] s
  unfold execContainerReceive
  exact (ResKeeps.next (State.receiveContainer_keeps _ (Part.sub (by decide) hL0) h0))

theorem execDesyncStart_keeps (ctx : Fin 1024) (s : State) :
    ResKeeps [.tribs] s (execDesyncStart ctx s) := by
  have hL0 := List.Subset.refl ([.tribs] : List Part)
  have h0 := SameBut.refl [.tribs] s
  unfold execDesyncStart
  exact (ResKeeps.next (by
    split
    · exact (SameBut.ite (State.setTrib_keeps _ _ (Part.sub (by decide) hL0) h0) h0)
    · exact h0))

theorem execLocTimeout_keeps (ctx : Fin 1024) (s : State) :
    ResKeeps [.regs, .seam, .tribs, .evt, .tsk, .hif, .timers, .out] s (execLocTimeout ctx s) := by
  have hL0 := List.Subset.refl ([.regs, .seam, .tribs, .evt, .tsk, .hif, .timers, .out] : List Part)
  have h0 := SameBut.refl [.regs, .seam, .tribs, .evt, .tsk, .hif, .timers, .out] s
  unfold execLocTimeout
  exact (ResKeeps.next (by
    split
    · exact (SameBut.ite (State.tribLoc_keeps _ (Part.sub (by decide) hL0) h0) h0)
    · exact h0))

theorem execTribRateSecond_keeps (s : State) :
    ResKeeps [.regs, .seam, .tribs, .evt, .tsk, .hif, .out, .fresh] s (execTribRateSecond s) := by
  have hL0 := List.Subset.refl ([.regs, .seam, .tribs, .evt, .tsk, .hif, .out, .fresh] : List Part)
  have h0 := SameBut.refl [.regs, .seam, .tribs, .evt, .tsk, .hif, .out, .fresh] s
  unfold execTribRateSecond
  exact (ResKeeps.next (SameBut.foldl (fun _ _ h1 => (by
    split
    · exact (SameBut.ite h1 (State.rateSecond_keeps _ _ (Part.sub (by decide) hL0) h1))
    · exact h1)) h0))

theorem execLaneRowCheck_keeps (l : Fin 48) (row : RowIn) (s : State) :
    ResKeeps [.regs, .seam, .tribs, .rows, .lanes, .evt, .tsk, .hif, .timers, .out] s (execLaneRowCheck l row s) := by
  have hL0 := List.Subset.refl ([.regs, .seam, .tribs, .rows, .lanes, .evt, .tsk, .hif, .timers, .out] : List Part)
  have h0 := SameBut.refl [.regs, .seam, .tribs, .rows, .lanes, .evt, .tsk, .hif, .timers, .out] s
  unfold execLaneRowCheck
  exact (ResKeeps.ite ResKeeps.fault (ResKeeps.next (SameBut.ite (State.checkRow_keeps _ _ (Part.sub (by decide) hL0) h0) h0)))

theorem execHairpinByte_keeps (ctx : Fin 1024) (s : State) :
    ResKeeps [.tribs] s (execHairpinByte ctx s) := by
  have hL0 := List.Subset.refl ([.tribs] : List Part)
  have h0 := SameBut.refl [.tribs] s
  unfold execHairpinByte
  exact (ResKeeps.next (by
    split
    · exact (SameBut.ite (State.setTrib_keeps _ _ (Part.sub (by decide) hL0) h0) h0)
    · exact h0))

theorem State.acrossSeam_keeps {L : List Part} {s0 s : State} (slots : List SlotChar) (oh : Byte)
    (hL0 : [.fresh] ⊆ L) (h0 : SameBut L s0 s) :
    PairKeeps L s0 (s.acrossSeam slots oh) := by
  unfold State.acrossSeam
  exact (PairKeeps.ite (PairKeeps.mk h0) (PairKeeps.mk (PairKeeps.snd (State.freeVal_keeps (Part.sub (by decide) hL0) h0))))

theorem execTribRowTransmit_keeps (l : Fin 48) (s : State) :
    ResKeeps [.regs, .seam, .tribs, .rows, .evt, .tsk, .hif, .out, .fresh] s (execTribRowTransmit l s) := by
  have hL0 := List.Subset.refl ([.regs, .seam, .tribs, .rows, .evt, .tsk, .hif, .out, .fresh] : List Part)
  have h0 := SameBut.refl [.regs, .seam, .tribs, .rows, .evt, .tsk, .hif, .out, .fresh] s
  unfold execTribRowTransmit
  try dsimp only
  exact (ResKeeps.next (SameBut.ite h0 (State.emit_keeps _ (Part.sub (by decide) hL0) (State.setRow_keeps _ _ (Part.sub (by decide) hL0) (PairKeeps.snd (State.acrossSeam_keeps _ _ (Part.sub (by decide) hL0) (PairKeeps.snd (State.overheadOut_keeps _ _ (Part.sub (by decide) hL0) (PairKeeps.snd (State.rowSlots_keeps _ (Part.sub (by decide) hL0) h0))))))))))

theorem execTblDataWrite_keeps (r : Req) (v : Word) (s : State) :
    ResKeeps [.regs, .seam, .tmap, .evt, .tsk, .hif, .resp, .out] s (execTblDataWrite r v s) := by
  have hL0 := List.Subset.refl ([.regs, .seam, .tmap, .evt, .tsk, .hif, .resp, .out] : List Part)
  have h0 := SameBut.refl [.regs, .seam, .tmap, .evt, .tsk, .hif, .resp, .out] s
  unfold execTblDataWrite
  exact (ResKeeps.next (State.access_keeps _ _ _ _ (Part.sub (by decide) hL0) (fun _ h1 => (State.opTblData_keeps _ _ _ (Part.sub (by decide) hL0) h1)) h0))

theorem execTblCopy_keeps (r : Req) (v : Word) (s : State) :
    ResKeeps [.regs, .seam, .evt, .tsk, .hif, .resp, .out] s (execTblCopy r v s) := by
  have hL0 := List.Subset.refl ([.regs, .seam, .evt, .tsk, .hif, .resp, .out] : List Part)
  have h0 := SameBut.refl [.regs, .seam, .evt, .tsk, .hif, .resp, .out] s
  unfold execTblCopy
  exact (ResKeeps.next (State.access_keeps _ _ _ _ (Part.sub (by decide) hL0) (fun _ h1 => (State.opTblCmd_keeps _ (Part.sub (by decide) hL0) h1)) h0))

theorem execTblCheck_keeps (r : Req) (v : Word) (s : State) :
    ResKeeps [.regs, .seam, .evt, .tsk, .hif, .resp, .out] s (execTblCheck r v s) := by
  have hL0 := List.Subset.refl ([.regs, .seam, .evt, .tsk, .hif, .resp, .out] : List Part)
  have h0 := SameBut.refl [.regs, .seam, .evt, .tsk, .hif, .resp, .out] s
  unfold execTblCheck
  exact (ResKeeps.next (State.access_keeps _ _ _ _ (Part.sub (by decide) hL0) (fun _ h1 => (State.opTblCmd_keeps _ (Part.sub (by decide) hL0) h1)) h0))

theorem execFrameSyncEdge_keeps (s : State) :
    ResKeeps [.regs, .seam, .tribs, .evt, .tsk, .hif, .out, .fresh] s (execFrameSyncEdge s) := by
  have hL0 := List.Subset.refl ([.regs, .seam, .tribs, .evt, .tsk, .hif, .out, .fresh] : List Part)
  have h0 := SameBut.refl [.regs, .seam, .tribs, .evt, .tsk, .hif, .out, .fresh] s
  unfold execFrameSyncEdge
  exact (ResKeeps.next (SameBut.ite (State.emit_keeps _ (Part.sub (by decide) hL0) (SameBut.foldl (fun _ _ h1 => (by
    split
    · exact (SameBut.ite (State.framePeriod_keeps _ _ (Part.sub (by decide) hL0) h1) h1)
    · exact h1)) h0)) (SameBut.foldl (fun _ _ h2 => (by
    split
    · exact (SameBut.ite (State.framePeriod_keeps _ _ (Part.sub (by decide) hL0) h2) h2)
    · exact h2)) h0)))

end Sys2Proof.Machine
end

