-- ==== Sys2Proof/Laws/Keys.lean ====
section
/-! SUPPORT. Which parts of the state each operation of Machine/Keys.lean can change. -/

namespace Sys2Proof.Machine

open Sys2Proof

set_option linter.unusedTactic false
set_option linter.unreachableTactic false
set_option linter.unusedVariables false

theorem State.setAct_keeps {L : List Part} {s0 s : State} (f : Act → Act)
    (hL0 : [.act] ⊆ L) (h0 : SameBut L s0 s) :
    SameBut L s0 (s.setAct f) := by
  unfold State.setAct
  exact (SameBut.upd_act (Part.sub (by decide) hL0) h0)

theorem State.queueMsg_keeps {L : List Part} {s0 s : State} (type : BitVec 8) (body : List Byte)
    (hL0 : [.regs, .seam, .act, .evt, .tsk, .hif, .out] ⊆ L) (h0 : SameBut L s0 s) :
    SameBut L s0 (s.queueMsg type body) := by
  unfold State.queueMsg
  exact (SameBut.ite (State.setAct_keeps _ (Part.sub (by decide) hL0) h0) (State.fire_keeps _ _ (Part.sub (by decide) hL0) (State.bump_keeps _ (Part.sub (by decide) hL0) h0)))

theorem State.sendAck_keeps {L : List Part} {s0 s : State} (h : MsgHdr) (type : Nat) (result : Nat)
    (hL0 : [.regs, .seam, .act, .evt, .tsk, .hif, .out] ⊆ L) (h0 : SameBut L s0 s) :
    SameBut L s0 (s.sendAck h type result) := by
  unfold State.sendAck
  exact (SameBut.ite (State.queueMsg_keeps _ _ (Part.sub (by decide) hL0) h0) h0)

theorem State.noteResult_keeps {L : List Part} {s0 s : State} (h : MsgHdr) (result : Nat)
    (hL0 : [.act] ⊆ L) (h0 : SameBut L s0 s) :
    SameBut L s0 (s.noteResult h result) := by
  unfold State.noteResult
  exact (State.setAct_keeps _ (Part.sub (by decide) hL0) h0)

theorem State.setPair_keeps {L : List Part} {s0 s : State} (n : Fin 8) (x : Pair)
    (hL0 : [.pairs] ⊆ L) (h0 : SameBut L s0 s) :
    SameBut L s0 (s.setPair n x) := by
  unfold State.setPair
  exact (SameBut.upd_pairs (Part.sub (by decide) hL0) h0)

theorem State.pairFlag_keeps {L : List Part} {s0 s : State} (lo : Nat) (n : Fin 8)
    (hL0 : [.regs] ⊆ L) (h0 : SameBut L s0 s) :
    SameBut L s0 (s.pairFlag lo n) := by
  unfold State.pairFlag
  exact (State.setFld_keeps _ _ (Part.sub (by decide) hL0) h0)

theorem State.spendKey_keeps {L : List Part} {s0 s : State} (n : Fin 8) (i : Bool) (cause : Nat)
    (hL0 : [.regs, .seam, .pairs, .evt, .tsk, .hif, .out] ⊆ L) (h0 : SameBut L s0 s) :
    SameBut L s0 (s.spendKey n i cause) := by
  unfold State.spendKey
  exact (State.fire_keeps _ _ (Part.sub (by decide) hL0) (State.setPair_keeps _ _ (Part.sub (by decide) hL0) h0))

theorem State.spendChannel_keeps {L : List Part} {s0 s : State} (c : Chan) (cause : Nat)
    (hL0 : [.regs, .seam, .pairs, .evt, .tsk, .hif, .out] ⊆ L) (h0 : SameBut L s0 s) :
    SameBut L s0 (s.spendChannel c cause) := by
  unfold State.spendChannel
  exact (SameBut.foldl (fun _ _ h1 => (SameBut.foldl (fun _ _ h2 => (SameBut.ite (State.spendKey_keeps _ _ _ (Part.sub (by decide) hL0) h2) h2)) h1)) h0)

theorem State.erasePair_keeps {L : List Part} {s0 s : State} (n : Fin 8)
    (hL0 : [.upb, .pairs] ⊆ L) (h0 : SameBut L s0 s) :
    SameBut L s0 (s.erasePair n) := by
  unfold State.erasePair
  exact (SameBut.ite (SameBut.upd_upb (Part.sub (by decide) hL0) (State.setPair_keeps _ _ (Part.sub (by decide) hL0) h0)) (State.setPair_keeps _ _ (Part.sub (by decide) hL0) h0))

theorem State.eraseAll_keeps {L : List Part} {s0 s : State}
    (hL0 : [.upb, .pairs] ⊆ L) (h0 : SameBut L s0 s) :
    SameBut L s0 (s.eraseAll) := by
  unfold State.eraseAll
  exact (SameBut.foldl (fun _ _ h1 => (State.erasePair_keeps _ (Part.sub (by decide) hL0) h1)) h0)

theorem State.useKey_keeps {L : List Part} {s0 s : State} (n : Fin 8) (i : Bool) (nonce : Nat)
    (hL0 : [.regs, .seam, .pairs, .evt, .tsk, .hif, .out] ⊆ L) (h0 : SameBut L s0 s) :
    SameBut L s0 (s.useKey n i nonce) := by
  unfold State.useKey
  exact (SameBut.ite (State.spendKey_keeps _ _ _ (Part.sub (by decide) hL0) (SameBut.ite (State.fire_keeps _ _ (Part.sub (by decide) hL0) (State.pairFlag_keeps _ _ (Part.sub (by decide) hL0) (State.bump64_keeps _ _ _ (Part.sub (by decide) hL0) (State.setPair_keeps _ _ (Part.sub (by decide) hL0) h0)))) (State.bump64_keeps _ _ _ (Part.sub (by decide) hL0) (State.setPair_keeps _ _ (Part.sub (by decide) hL0) h0)))) (SameBut.ite (State.fire_keeps _ _ (Part.sub (by decide) hL0) (State.pairFlag_keeps _ _ (Part.sub (by decide) hL0) (State.bump64_keeps _ _ _ (Part.sub (by decide) hL0) (State.setPair_keeps _ _ (Part.sub (by decide) hL0) h0)))) (State.bump64_keeps _ _ _ (Part.sub (by decide) hL0) (State.setPair_keeps _ _ (Part.sub (by decide) hL0) h0))))

theorem State.rollEnd_keeps {L : List Part} {s0 s : State} (n : Fin 8)
    (hL0 : [.regs, .seam, .cmt, .tribs, .pairs, .pipes, .epochs, .shapers, .policers, .evt, .tsk, .hif, .timers, .out] ⊆ L) (h0 : SameBut L s0 s) :
    SameBut L s0 (s.rollEnd n) := by
  unfold State.rollEnd
  split
  · exact (SameBut.ite (State.switchAny_keeps _ (Part.sub (by decide) hL0) (State.setPair_keeps _ _ (Part.sub (by decide) hL0) h0)) (State.setPair_keeps _ _ (Part.sub (by decide) hL0) h0))
  · exact h0

theorem State.rollFail_keeps {L : List Part} {s0 s : State} (n : Fin 8)
    (hL0 : [.regs, .seam, .cmt, .tribs, .pairs, .pipes, .epochs, .shapers, .policers, .evt, .tsk, .hif, .timers, .out] ⊆ L) (h0 : SameBut L s0 s) :
    SameBut L s0 (s.rollFail n) := by
  unfold State.rollFail
  exact (State.rollEnd_keeps _ (Part.sub (by decide) hL0) (State.fire_keeps _ _ (Part.sub (by decide) hL0) (State.pairFlag_keeps _ _ (Part.sub (by decide) hL0) h0)))

theorem State.rollDone_keeps {L : List Part} {s0 s : State} (n : Fin 8)
    (hL0 : [.regs, .seam, .cmt, .tribs, .pairs, .pipes, .epochs, .shapers, .policers, .evt, .tsk, .hif, .timers, .out] ⊆ L) (h0 : SameBut L s0 s) :
    SameBut L s0 (s.rollDone n) := by
  unfold State.rollDone
  exact (State.rollEnd_keeps _ (Part.sub (by decide) hL0) (State.fire_keeps _ _ (Part.sub (by decide) hL0) (State.pairFlag_keeps _ _ (Part.sub (by decide) hL0) h0)))

theorem State.orderRoll_keeps {L : List Part} {s0 s : State} (n : Fin 8) (x : Roll)
    (hL0 : [.regs, .seam, .cmt, .tribs, .pairs, .pipes, .epochs, .shapers, .policers, .evt, .tsk, .hif, .timers, .out] ⊆ L) (h0 : SameBut L s0 s) :
    SameBut L s0 (s.orderRoll n x) := by
  unfold State.orderRoll
  exact (State.setPair_keeps _ _ (Part.sub (by decide) hL0) (State.rollEnd_keeps _ (Part.sub (by decide) hL0) h0))

theorem State.rollsFail_keeps {L : List Part} {s0 s : State} (c : Chan)
    (hL0 : [.regs, .seam, .cmt, .tribs, .pairs, .pipes, .epochs, .shapers, .policers, .evt, .tsk, .hif, .timers, .out] ⊆ L) (h0 : SameBut L s0 s) :
    SameBut L s0 (s.rollsFail c) := by
  unfold State.rollsFail
  exact (SameBut.foldl (fun _ _ h1 => (SameBut.ite (State.rollFail_keeps _ (Part.sub (by decide) hL0) h1) h1)) h0)

theorem State.rollUp_keeps {L : List Part} {s0 s : State} (n : Fin 8) (k : Nat) (start : Bool)
    (hL0 : [.regs, .seam, .cmt, .tribs, .pairs, .pipes, .epochs, .shapers, .policers, .evt, .tsk, .hif, .timers, .out] ⊆ L) (h0 : SameBut L s0 s) :
    SameBut L s0 (s.rollUp n k start) := by
  unfold State.rollUp
  try dsimp only
  split
  · exact h0
  · exact (SameBut.ite h0 (by
      split
      · exact (State.rollDone_keeps _ (Part.sub (by decide) hL0) h0)
      · exact (State.rollDone_keeps _ (Part.sub (by decide) hL0) (State.bump_keeps _ (Part.sub (by decide) hL0) (State.setPair_keeps _ _ (Part.sub (by decide) hL0) h0)))
      · exact (State.rollFail_keeps _ (Part.sub (by decide) hL0) h0)))

theorem State.rollFrame_keeps {L : List Part} {s0 s : State} (c : Chan) (k : Nat)
    (hL0 : [.regs, .seam, .cmt, .tribs, .pairs, .pipes, .epochs, .shapers, .policers, .evt, .tsk, .hif, .timers, .out] ⊆ L) (h0 : SameBut L s0 s) :
    SameBut L s0 (s.rollFrame c k) := by
  unfold State.rollFrame
  exact (State.rollUp_keeps _ _ _ (Part.sub (by decide) hL0) (by
    split
    · exact (SameBut.ite (State.setPair_keeps _ _ (Part.sub (by decide) hL0) h0) h0)
    · exact h0))

theorem State.rollDown_keeps {L : List Part} {s0 s : State} (c : Chan) (f : Nat)
    (hL0 : [.regs, .seam, .cmt, .tribs, .pairs, .pipes, .epochs, .shapers, .policers, .evt, .tsk, .hif, .timers, .out] ⊆ L) (h0 : SameBut L s0 s) :
    SameBut L s0 (s.rollDown c f) := by
  unfold State.rollDown
  try dsimp only
  split
  · exact h0
  · exact (SameBut.ite h0 (SameBut.ite (State.rollDone_keeps _ (Part.sub (by decide) hL0) (State.bump_keeps _ (Part.sub (by decide) hL0) (State.setPair_keeps _ _ (Part.sub (by decide) hL0) h0))) (State.rollFail_keeps _ (Part.sub (by decide) hL0) h0)))

theorem State.groupRoll_keeps {L : List Part} {s0 s : State} (i : Fin 4) (n : Fin 8)
    (hL0 : [.regs, .seam, .cmt, .tribs, .pairs, .pipes, .epochs, .shapers, .policers, .evt, .tsk, .hif, .timers, .out] ⊆ L) (h0 : SameBut L s0 s) :
    SameBut L s0 (s.groupRoll i n) := by
  unfold State.groupRoll
  exact (SameBut.ite (State.switchUnit_keeps _ _ (Part.sub (by decide) hL0) (State.fire_keeps _ _ (Part.sub (by decide) hL0) h0)) (by
    split
    · exact (State.switchUnit_keeps _ _ (Part.sub (by decide) hL0) (State.fire_keeps _ _ (Part.sub (by decide) hL0) (State.pairFlag_keeps _ _ (Part.sub (by decide) hL0) h0)))
    · exact (SameBut.ite (State.orderRoll_keeps _ _ (Part.sub (by decide) hL0) h0) (State.fire_keeps _ _ (Part.sub (by decide) hL0) (State.orderRoll_keeps _ _ (Part.sub (by decide) hL0) h0)))))

theorem State.groupRolls_keeps {L : List Part} {s0 s : State} (i : Fin 4)
    (hL0 : [.regs, .seam, .cmt, .tribs, .pairs, .pipes, .epochs, .shapers, .policers, .evt, .tsk, .hif, .timers, .out] ⊆ L) (h0 : SameBut L s0 s) :
    SameBut L s0 (s.groupRolls i) := by
  unfold State.groupRolls
  exact (SameBut.foldl (fun _ _ h1 => (State.groupRoll_keeps _ _ (Part.sub (by decide) hL0) h1)) h0)

theorem State.discardFrag_keeps {L : List Part} {s0 s : State} (k : Nat)
    (hL0 : [.regs] ⊆ L) (h0 : SameBut L s0 s) :
    PairKeeps L s0 (s.discardFrag k) := by
  unfold State.discardFrag
  exact (PairKeeps.mk (State.bump_keeps _ (Part.sub (by decide) hL0) h0))

theorem State.decrypt_keeps {L : List Part} {s0 s : State} (c : Chan) (own : Bool) (h : BitVec 64) (fc : Nat) (body : List Byte)
    (hL0 : [.regs, .seam, .pairs, .evt, .tsk, .hif, .out] ⊆ L) (h0 : SameBut L s0 s) :
    PairKeeps L s0 (s.decrypt c own h fc body) := by
  unfold State.decrypt
  exact (PairKeeps.ite (PairKeeps.ite (State.discardFrag_keeps _ (Part.sub (by decide) hL0) h0) (by
    split
    · exact (State.discardFrag_keeps _ (Part.sub (by decide) hL0) h0)
    · exact (State.discardFrag_keeps _ (Part.sub (by decide) hL0) h0)
    · exact (State.discardFrag_keeps _ (Part.sub (by decide) hL0) h0)
    · exact (PairKeeps.ite (State.discardFrag_keeps _ (Part.sub (by decide) hL0) (State.fire_keeps _ _ (Part.sub (by decide) hL0) (State.pairFlag_keeps _ _ (Part.sub (by decide) hL0) h0))) (PairKeeps.ite (State.discardFrag_keeps _ (Part.sub (by decide) hL0) (State.fire_keeps _ _ (Part.sub (by decide) hL0) (State.pairFlag_keeps _ _ (Part.sub (by decide) hL0) h0))) (PairKeeps.mk (State.useKey_keeps _ _ _ (Part.sub (by decide) hL0) h0)))))) (PairKeeps.ite (State.discardFrag_keeps _ (Part.sub (by decide) hL0) h0) (PairKeeps.mk h0)))

theorem State.setKey_keeps {L : List Part} {s0 s : State} (f : Key → Key)
    (hL0 : [.key] ⊆ L) (h0 : SameBut L s0 s) :
    SameBut L s0 (s.setKey f) := by
  unfold State.setKey
  exact (SameBut.upd_key (Part.sub (by decide) hL0) h0)

theorem State.jobResult_keeps {L : List Part} {s0 s : State} (j : KeyJob) (result : Nat)
    (hL0 : [.regs, .seam, .act, .key, .evt, .tsk, .hif, .timers, .out] ⊆ L) (h0 : SameBut L s0 s) :
    SameBut L s0 (s.jobResult j result) := by
  unfold State.jobResult
  try dsimp only
  split
  · exact (State.sendAck_keeps _ _ _ (Part.sub (by decide) hL0) (State.noteResult_keeps _ _ (Part.sub (by decide) hL0) (SameBut.ite (State.setKey_keeps _ (Part.sub (by decide) hL0) (SameBut.ite (State.bump_keeps _ (Part.sub (by decide) hL0) (SameBut.ite (State.fire_keeps _ _ (Part.sub (by decide) hL0) (State.bump_keeps _ (Part.sub (by decide) hL0) h0)) (State.fire_keeps _ _ (Part.sub (by decide) hL0) h0))) (SameBut.ite (State.bump_keeps _ (Part.sub (by decide) hL0) (SameBut.ite (State.fire_keeps _ _ (Part.sub (by decide) hL0) (State.bump_keeps _ (Part.sub (by decide) hL0) h0)) (State.fire_keeps _ _ (Part.sub (by decide) hL0) h0))) (SameBut.ite (State.fire_keeps _ _ (Part.sub (by decide) hL0) (State.bump_keeps _ (Part.sub (by decide) hL0) h0)) (State.fire_keeps _ _ (Part.sub (by decide) hL0) h0))))) (SameBut.ite (SameBut.ite (State.setKey_keeps _ (Part.sub (by decide) hL0) (SameBut.ite (State.bump_keeps _ (Part.sub (by decide) hL0) (SameBut.ite (State.fire_keeps _ _ (Part.sub (by decide) hL0) (State.bump_keeps _ (Part.sub (by decide) hL0) h0)) (State.fire_keeps _ _ (Part.sub (by decide) hL0) h0))) (SameBut.ite (State.bump_keeps _ (Part.sub (by decide) hL0) (SameBut.ite (State.fire_keeps _ _ (Part.sub (by decide) hL0) (State.bump_keeps _ (Part.sub (by decide) hL0) h0)) (State.fire_keeps _ _ (Part.sub (by decide) hL0) h0))) (SameBut.ite (State.fire_keeps _ _ (Part.sub (by decide) hL0) (State.bump_keeps _ (Part.sub (by decide) hL0) h0)) (State.fire_keeps _ _ (Part.sub (by decide) hL0) h0))))) (State.fire_keeps _ _ (Part.sub (by decide) hL0) (State.startTimer_keeps _ (Part.sub (by decide) hL0) (State.setKey_keeps _ (Part.sub (by decide) hL0) (SameBut.ite (State.bump_keeps _ (Part.sub (by decide) hL0) (SameBut.ite (State.fire_keeps _ _ (Part.sub (by decide) hL0) (State.bump_keeps _ (Part.sub (by decide) hL0) h0)) (State.fire_keeps _ _ (Part.sub (by decide) hL0) h0))) (SameBut.ite (State.bump_keeps _ (Part.sub (by decide) hL0) (SameBut.ite (State.fire_keeps _ _ (Part.sub (by decide) hL0) (State.bump_keeps _ (Part.sub (by decide) hL0) h0)) (State.fire_keeps _ _ (Part.sub (by decide) hL0) h0))) (SameBut.ite (State.fire_keeps _ _ (Part.sub (by decide) hL0) (State.bump_keeps _ (Part.sub (by decide) hL0) h0)) (State.fire_keeps _ _ (Part.sub (by decide) hL0) h0)))))))) (SameBut.ite (State.bump_keeps _ (Part.sub (by decide) hL0) (SameBut.ite (State.fire_keeps _ _ (Part.sub (by decide) hL0) (State.bump_keeps _ (Part.sub (by decide) hL0) h0)) (State.fire_keeps _ _ (Part.sub (by decide) hL0) h0))) (SameBut.ite (State.bump_keeps _ (Part.sub (by decide) hL0) (SameBut.ite (State.fire_keeps _ _ (Part.sub (by decide) hL0) (State.bump_keeps _ (Part.sub (by decide) hL0) h0)) (State.fire_keeps _ _ (Part.sub (by decide) hL0) h0))) (SameBut.ite (State.fire_keeps _ _ (Part.sub (by decide) hL0) (State.bump_keeps _ (Part.sub (by decide) hL0) h0)) (State.fire_keeps _ _ (Part.sub (by decide) hL0) h0))))))))
  · exact (State.setFld_keeps _ _ (Part.sub (by decide) hL0) (SameBut.ite (State.setKey_keeps _ (Part.sub (by decide) hL0) (SameBut.ite (State.bump_keeps _ (Part.sub (by decide) hL0) (SameBut.ite (State.fire_keeps _ _ (Part.sub (by decide) hL0) (State.bump_keeps _ (Part.sub (by decide) hL0) h0)) (State.fire_keeps _ _ (Part.sub (by decide) hL0) h0))) (SameBut.ite (State.bump_keeps _ (Part.sub (by decide) hL0) (SameBut.ite (State.fire_keeps _ _ (Part.sub (by decide) hL0) (State.bump_keeps _ (Part.sub (by decide) hL0) h0)) (State.fire_keeps _ _ (Part.sub (by decide) hL0) h0))) (SameBut.ite (State.fire_keeps _ _ (Part.sub (by decide) hL0) (State.bump_keeps _ (Part.sub (by decide) hL0) h0)) (State.fire_keeps _ _ (Part.sub (by decide) hL0) h0))))) (SameBut.ite (SameBut.ite (State.setKey_keeps _ (Part.sub (by decide) hL0) (SameBut.ite (State.bump_keeps _ (Part.sub (by decide) hL0) (SameBut.ite (State.fire_keeps _ _ (Part.sub (by decide) hL0) (State.bump_keeps _ (Part.sub (by decide) hL0) h0)) (State.fire_keeps _ _ (Part.sub (by decide) hL0) h0))) (SameBut.ite (State.bump_keeps _ (Part.sub (by decide) hL0) (SameBut.ite (State.fire_keeps _ _ (Part.sub (by decide) hL0) (State.bump_keeps _ (Part.sub (by decide) hL0) h0)) (State.fire_keeps _ _ (Part.sub (by decide) hL0) h0))) (SameBut.ite (State.fire_keeps _ _ (Part.sub (by decide) hL0) (State.bump_keeps _ (Part.sub (by decide) hL0) h0)) (State.fire_keeps _ _ (Part.sub (by decide) hL0) h0))))) (State.fire_keeps _ _ (Part.sub (by decide) hL0) (State.startTimer_keeps _ (Part.sub (by decide) hL0) (State.setKey_keeps _ (Part.sub (by decide) hL0) (SameBut.ite (State.bump_keeps _ (Part.sub (by decide) hL0) (SameBut.ite (State.fire_keeps _ _ (Part.sub (by decide) hL0) (State.bump_keeps _ (Part.sub (by decide) hL0) h0)) (State.fire_keeps _ _ (Part.sub (by decide) hL0) h0))) (SameBut.ite (State.bump_keeps _ (Part.sub (by decide) hL0) (SameBut.ite (State.fire_keeps _ _ (Part.sub (by decide) hL0) (State.bump_keeps _ (Part.sub (by decide) hL0) h0)) (State.fire_keeps _ _ (Part.sub (by decide) hL0) h0))) (SameBut.ite (State.fire_keeps _ _ (Part.sub (by decide) hL0) (State.bump_keeps _ (Part.sub (by decide) hL0) h0)) (State.fire_keeps _ _ (Part.sub (by decide) hL0) h0)))))))) (SameBut.ite (State.bump_keeps _ (Part.sub (by decide) hL0) (SameBut.ite (State.fire_keeps _ _ (Part.sub (by decide) hL0) (State.bump_keeps _ (Part.sub (by decide) hL0) h0)) (State.fire_keeps _ _ (Part.sub (by decide) hL0) h0))) (SameBut.ite (State.bump_keeps _ (Part.sub (by decide) hL0) (SameBut.ite (State.fire_keeps _ _ (Part.sub (by decide) hL0) (State.bump_keeps _ (Part.sub (by decide) hL0) h0)) (State.fire_keeps _ _ (Part.sub (by decide) hL0) h0))) (SameBut.ite (State.fire_keeps _ _ (Part.sub (by decide) hL0) (State.bump_keeps _ (Part.sub (by decide) hL0) h0)) (State.fire_keeps _ _ (Part.sub (by decide) hL0) h0)))))))

theorem State.jobEnd_keeps {L : List Part} {s0 s : State} (j : KeyJob) (result : Nat)
    (hL0 : [.regs, .seam, .act, .key, .evt, .tsk, .hif, .timers, .out] ⊆ L) (h0 : SameBut L s0 s) :
    SameBut L s0 (s.jobEnd j result) := by
  unfold State.jobEnd
  exact (State.jobResult_keeps _ _ (Part.sub (by decide) hL0) (State.setKey_keeps _ (Part.sub (by decide) hL0) h0))

theorem State.queueJob_keeps {L : List Part} {s0 s : State} (j : KeyJob)
    (hL0 : [.regs, .seam, .act, .key, .evt, .tsk, .hif, .timers, .out] ⊆ L) (h0 : SameBut L s0 s) :
    SameBut L s0 (s.queueJob j) := by
  unfold State.queueJob
  exact (SameBut.ite (State.setKey_keeps _ (Part.sub (by decide) hL0) h0) (State.jobResult_keeps _ _ (Part.sub (by decide) hL0) h0))

theorem State.loadKey_keeps {L : List Part} {s0 s : State} (j : KeyJob) (n : Fin 8) (i : Bool) (key : List Byte)
    (hL0 : [.regs, .seam, .act, .pairs, .key, .evt, .tsk, .hif, .timers, .out] ⊆ L) (h0 : SameBut L s0 s) :
    SameBut L s0 (s.loadKey j n i key) := by
  unfold State.loadKey
  exact (SameBut.ite (State.jobEnd_keeps _ _ (Part.sub (by decide) hL0) h0) (SameBut.ite (State.jobEnd_keeps _ _ (Part.sub (by decide) hL0) h0) (State.jobEnd_keeps _ _ (Part.sub (by decide) hL0) (State.setPair_keeps _ _ (Part.sub (by decide) hL0) h0))))

theorem State.installEnd_keeps {L : List Part} {s0 s : State} (j : KeyJob) (result : Nat)
    (hL0 : [.regs, .seam, .act, .key, .evt, .tsk, .hif, .timers, .out] ⊆ L) (h0 : SameBut L s0 s) :
    SameBut L s0 (s.installEnd j result) := by
  unfold State.installEnd
  exact (State.fire_keeps _ _ (Part.sub (by decide) hL0) (State.jobEnd_keeps _ _ (Part.sub (by decide) hL0) h0))

theorem State.unwrapDone_keeps {L : List Part} {s0 s : State} (j : KeyJob)
    (hL0 : [.regs, .seam, .act, .pairs, .key, .mxe, .evt, .tsk, .hif, .timers, .out] ⊆ L) (h0 : SameBut L s0 s) :
    SameBut L s0 (s.unwrapDone j) := by
  unfold State.unwrapDone
  exact (SameBut.ite (State.jobEnd_keeps _ _ (Part.sub (by decide) hL0) h0) (SameBut.ite (State.jobEnd_keeps _ _ (Part.sub (by decide) hL0) h0) (SameBut.ite (State.jobEnd_keeps _ _ (Part.sub (by decide) hL0) h0) (SameBut.ite (State.jobEnd_keeps _ _ (Part.sub (by decide) hL0) h0) (SameBut.ite (State.jobEnd_keeps _ _ (Part.sub (by decide) hL0) h0) (by
    split
    · exact (State.loadKey_keeps _ _ _ _ (Part.sub (by decide) hL0) h0)
    · exact (SameBut.ite (State.jobEnd_keeps _ _ (Part.sub (by decide) hL0) h0) (SameBut.ite (State.jobEnd_keeps _ _ (Part.sub (by decide) hL0) h0) (State.jobEnd_keeps _ _ (Part.sub (by decide) hL0) (State.fire_keeps _ _ (Part.sub (by decide) hL0) (SameBut.upd_mxe (Part.sub (by decide) hL0) h0)))))
    · exact (SameBut.ite (State.installEnd_keeps _ _ (Part.sub (by decide) hL0) h0) (SameBut.ite (State.installEnd_keeps _ _ (Part.sub (by decide) hL0) h0) (State.setKey_keeps _ (Part.sub (by decide) hL0) h0)))
    · exact h0))))))

theorem State.opKeyCmd_keeps {L : List Part} {s0 s : State} (r : Req) (v : Word)
    (hL0 : [.regs, .seam, .act, .key, .evt, .tsk, .hif, .timers, .resp, .out] ⊆ L) (h0 : SameBut L s0 s) :
    SameBut L s0 (s.opKeyCmd r v) := by
  unfold State.opKeyCmd
  exact (SameBut.ite h0 (SameBut.ite (State.guarded_keeps _ _ _ (Part.sub (by decide) hL0) (fun _ h1 => (SameBut.ite (State.refuse_keeps _ _ (Part.sub (by decide) hL0) h1) (State.queueJob_keeps _ (Part.sub (by decide) hL0) h1))) h0) (SameBut.ite (State.refuse_keeps _ _ (Part.sub (by decide) hL0) h0) (State.queueJob_keeps _ (Part.sub (by decide) hL0) h0))))

theorem State.opUnwCfg_keeps {L : List Part} {s0 s : State} (r : Req) (v : Word)
    (hL0 : [.regs, .seam, .evt, .tsk, .hif, .resp, .out] ⊆ L) (h0 : SameBut L s0 s) :
    SameBut L s0 (s.opUnwCfg r v) := by
  unfold State.opUnwCfg
  exact (SameBut.ite (State.refuse_keeps _ _ (Part.sub (by decide) hL0) h0) (State.store_keeps _ _ (Part.sub (by decide) hL0) h0))

theorem State.opKeyErase_keeps {L : List Part} {s0 s : State} (v : Word)
    (hL0 : [.upb, .pairs] ⊆ L) (h0 : SameBut L s0 s) :
    SameBut L s0 (s.opKeyErase v) := by
  unfold State.opKeyErase
  exact (SameBut.ite (State.eraseAll_keeps (Part.sub (by decide) hL0) h0) (SameBut.foldl (fun _ _ h1 => (SameBut.ite (State.erasePair_keeps _ (Part.sub (by decide) hL0) h1) h1)) h0))

theorem execUnwrapJobComplete_keeps (s : State) :
    ResKeeps [.regs, .seam, .act, .pairs, .key, .mxe, .evt, .tsk, .hif, .timers, .out] s (execUnwrapJobComplete s) := by
  have hL0 := List.Subset.refl ([.regs, .seam, .act, .pairs, .key, .mxe, .evt, .tsk, .hif, .timers, .out] : List Part)
  have h0 := SameBut.refl [.regs, .seam, .act, .pairs, .key, .mxe, .evt, .tsk, .hif, .timers, .out] s
  unfold execUnwrapJobComplete
  exact (ResKeeps.next (by
    split
    · exact (SameBut.ite h0 (State.unwrapDone_keeps _ (Part.sub (by decide) hL0) h0))
    · exact h0))

theorem execKeyCmdLink_keeps (r : Req) (v : Word) (s : State) :
    ResKeeps [.regs, .seam, .act, .key, .evt, .tsk, .hif, .timers, .resp, .out] s (execKeyCmdLink r v s) := by
  have hL0 := List.Subset.refl ([.regs, .seam, .act, .key, .evt, .tsk, .hif, .timers, .resp, .out] : List Part)
  have h0 := SameBut.refl [.regs, .seam, .act, .key, .evt, .tsk, .hif, .timers, .resp, .out] s
  unfold execKeyCmdLink
  exact (ResKeeps.next (State.access_keeps _ _ _ _ (Part.sub (by decide) hL0) (fun _ h1 => (State.opKeyCmd_keeps _ _ (Part.sub (by decide) hL0) h1)) h0))

theorem execKeyCmdMemory_keeps (r : Req) (v : Word) (s : State) :
    ResKeeps [.regs, .seam, .act, .key, .evt, .tsk, .hif, .timers, .resp, .out] s (execKeyCmdMemory r v s) := by
  have hL0 := List.Subset.refl ([.regs, .seam, .act, .key, .evt, .tsk, .hif, .timers, .resp, .out] : List Part)
  have h0 := SameBut.refl [.regs, .seam, .act, .key, .evt, .tsk, .hif, .timers, .resp, .out] s
  unfold execKeyCmdMemory
  exact (ResKeeps.next (State.access_keeps _ _ _ _ (Part.sub (by decide) hL0) (fun _ h1 => (State.opKeyCmd_keeps _ _ (Part.sub (by decide) hL0) h1)) h0))

theorem execKeyCmdWrap_keeps (r : Req) (v : Word) (s : State) :
    ResKeeps [.regs, .seam, .act, .key, .evt, .tsk, .hif, .timers, .resp, .out] s (execKeyCmdWrap r v s) := by
  have hL0 := List.Subset.refl ([.regs, .seam, .act, .key, .evt, .tsk, .hif, .timers, .resp, .out] : List Part)
  have h0 := SameBut.refl [.regs, .seam, .act, .key, .evt, .tsk, .hif, .timers, .resp, .out] s
  unfold execKeyCmdWrap
  exact (ResKeeps.next (State.access_keeps _ _ _ _ (Part.sub (by decide) hL0) (fun _ h1 => (State.opKeyCmd_keeps _ _ (Part.sub (by decide) hL0) h1)) h0))

theorem execFuseProgramDone_keeps (ok : Bool) (s : State) :
    ResKeeps [.regs, .seam, .act, .key, .evt, .tsk, .hif, .timers, .out] s (execFuseProgramDone ok s) := by
  have hL0 := List.Subset.refl ([.regs, .seam, .act, .key, .evt, .tsk, .hif, .timers, .out] : List Part)
  have h0 := SameBut.refl [.regs, .seam, .act, .key, .evt, .tsk, .hif, .timers, .out] s
  unfold execFuseProgramDone
  exact (ResKeeps.next (by
    split
    · exact (SameBut.ite h0 (SameBut.ite (State.jobEnd_keeps _ _ (Part.sub (by decide) hL0) (State.fire_keeps _ _ (Part.sub (by decide) hL0) (State.bump_keeps _ (Part.sub (by decide) hL0) (State.setKey_keeps _ (Part.sub (by decide) hL0) h0)))) (State.installEnd_keeps _ _ (Part.sub (by decide) hL0) (State.setKey_keeps _ (Part.sub (by decide) hL0) h0))))
    · exact h0))

theorem execLockoutEnd_keeps (s : State) :
    ResKeeps [.key, .timers] s (execLockoutEnd s) := by
  have hL0 := List.Subset.refl ([.key, .timers] : List Part)
  have h0 := SameBut.refl [.key, .timers] s
  unfold execLockoutEnd
  exact (ResKeeps.next (SameBut.ite (State.stopTimer_keeps _ (Part.sub (by decide) hL0) (State.setKey_keeps _ (Part.sub (by decide) hL0) h0)) h0))

theorem execEntropyTestFail_keeps (fab : Bool) (s : State) :
    ResKeeps [.regs, .seam, .key, .mxe, .evt, .tsk, .hif, .out] s (execEntropyTestFail fab s) := by
  have hL0 := List.Subset.refl ([.regs, .seam, .key, .mxe, .evt, .tsk, .hif, .out] : List Part)
  have h0 := SameBut.refl [.regs, .seam, .key, .mxe, .evt, .tsk, .hif, .out] s
  unfold execEntropyTestFail
  exact (ResKeeps.next (SameBut.ite (SameBut.upd_mxe (Part.sub (by decide) hL0) h0) (State.fire_keeps _ _ (Part.sub (by decide) hL0) (State.setKey_keeps _ (Part.sub (by decide) hL0) h0))))

theorem execKeyErasePair_keeps (r : Req) (pairs : BitVec 8) (s : State) :
    ResKeeps [.regs, .seam, .upb, .pairs, .evt, .tsk, .hif, .resp, .out] s (execKeyErasePair r pairs s) := by
  have hL0 := List.Subset.refl ([.regs, .seam, .upb, .pairs, .evt, .tsk, .hif, .resp, .out] : List Part)
  have h0 := SameBut.refl [.regs, .seam, .upb, .pairs, .evt, .tsk, .hif, .resp, .out] s
  unfold execKeyErasePair
  exact (ResKeeps.next (State.access_keeps _ _ _ _ (Part.sub (by decide) hL0) (fun _ h1 => (State.opKeyErase_keeps _ (Part.sub (by decide) hL0) h1)) h0))

theorem execKeyEraseAll_keeps (r : Req) (s : State) :
    ResKeeps [.regs, .seam, .upb, .pairs, .evt, .tsk, .hif, .resp, .out] s (execKeyEraseAll r s) := by
  have hL0 := List.Subset.refl ([.regs, .seam, .upb, .pairs, .evt, .tsk, .hif, .resp, .out] : List Part)
  have h0 := SameBut.refl [.regs, .seam, .upb, .pairs, .evt, .tsk, .hif, .resp, .out] s
  unfold execKeyEraseAll
  exact (ResKeeps.next (State.access_keeps _ _ _ _ (Part.sub (by decide) hL0) (fun _ h1 => (State.opKeyErase_keeps _ (Part.sub (by decide) hL0) h1)) h0))

theorem execUnwLock_keeps (r : Req) (s : State) :
    ResKeeps [.regs, .seam, .evt, .tsk, .hif, .resp, .out] s (execUnwLock r s) := by
  have hL0 := List.Subset.refl ([.regs, .seam, .evt, .tsk, .hif, .resp, .out] : List Part)
  have h0 := SameBut.refl [.regs, .seam, .evt, .tsk, .hif, .resp, .out] s
  unfold execUnwLock
  exact (ResKeeps.next (State.access_keeps _ _ _ _ (Part.sub (by decide) hL0) (fun _ h1 => (State.store_keeps _ _ (Part.sub (by decide) hL0) h1)) h0))

theorem execUnwCfgWrite_keeps (r : Req) (v : Word) (s : State) :
    ResKeeps [.regs, .seam, .evt, .tsk, .hif, .resp, .out] s (execUnwCfgWrite r v s) := by
  have hL0 := List.Subset.refl ([.regs, .seam, .evt, .tsk, .hif, .resp, .out] : List Part)
  have h0 := SameBut.refl [.regs, .seam, .evt, .tsk, .hif, .resp, .out] s
  unfold execUnwCfgWrite
  exact (ResKeeps.next (State.access_keeps _ _ _ _ (Part.sub (by decide) hL0) (fun _ h1 => (State.opUnwCfg_keeps _ _ (Part.sub (by decide) hL0) h1)) h0))

end Sys2Proof.Machine
end

