-- ==== Sys2Proof/Laws/Bursts.lean ====
section
/-! SUPPORT. Which parts of the state each operation of Machine/Bursts.lean can change. -/

namespace Sys2Proof.Machine

open Sys2Proof

set_option linter.unusedTactic false
set_option linter.unreachableTactic false
set_option linter.unusedVariables false

theorem State.setUpb_keeps {L : List Part} {s0 s : State} (c : Chan) (x : Upb)
    (hL0 : [.upb] ⊆ L) (h0 : SameBut L s0 s) :
    SameBut L s0 (s.setUpb c x) := by
  unfold State.setUpb
  exact (SameBut.upd_upb (Part.sub (by decide) hL0) h0)

theorem State.setActCh_keeps {L : List Part} {s0 s : State} (c : Chan) (x : ActCh)
    (hL0 : [.act] ⊆ L) (h0 : SameBut L s0 s) :
    SameBut L s0 (s.setActCh c x) := by
  unfold State.setActCh
  exact (State.setAct_keeps _ (Part.sub (by decide) hL0) h0)

theorem State.insertEntry_keeps {L : List Part} {s0 s : State} (k : Nat) (e : GrantEntry)
    (hL0 : [.regs, .seam, .upb, .evt, .tsk, .hif, .out] ⊆ L) (h0 : SameBut L s0 s) :
    SameBut L s0 (s.insertEntry k e) := by
  unfold State.insertEntry
  exact (SameBut.ite h0 (SameBut.ite (State.fire_keeps _ _ (Part.sub (by decide) hL0) (State.wr_keeps _ _ (Part.sub (by decide) hL0) (State.bump_keeps _ (Part.sub (by decide) hL0) h0))) (State.bump_keeps _ (Part.sub (by decide) hL0) (State.setUpb_keeps _ _ (Part.sub (by decide) hL0) h0))))

theorem State.barPackets_keeps {L : List Part} {s0 s : State} (ids : List Nat)
    (hL0 : [.upb] ⊆ L) (h0 : SameBut L s0 s) :
    SameBut L s0 (s.barPackets ids) := by
  unfold State.barPackets
  exact (SameBut.upd_upb (Part.sub (by decide) hL0) h0)

theorem State.restartPackets_keeps {L : List Part} {s0 s : State} (c : Chan) (cut : Bool)
    (hL0 : [.regs, .seam, .upb, .restarts, .evt, .tsk, .hif, .out] ⊆ L) (h0 : SameBut L s0 s) :
    SameBut L s0 (s.restartPackets c cut) := by
  unfold State.restartPackets
  exact (SameBut.ite (State.bumpBy_keeps _ _ (Part.sub (by decide) hL0) (State.barPackets_keeps _ (Part.sub (by decide) hL0) (SameBut.upd_restarts (Part.sub (by decide) hL0) (State.setUpb_keeps _ _ (Part.sub (by decide) hL0) h0)))) (State.fire_keeps _ _ (Part.sub (by decide) hL0) (State.bumpBy_keeps _ _ (Part.sub (by decide) hL0) (State.barPackets_keeps _ (Part.sub (by decide) hL0) (SameBut.upd_restarts (Part.sub (by decide) hL0) (State.setUpb_keeps _ _ (Part.sub (by decide) hL0) h0))))))

theorem State.txSettle_keeps {L : List Part} {s0 s : State} (c : Chan)
    (hL0 : [.txEff] ⊆ L) (h0 : SameBut L s0 s) :
    SameBut L s0 (s.txSettle c) := by
  unfold State.txSettle
  exact (SameBut.upd_txEff (Part.sub (by decide) hL0) h0)

theorem State.cutBurst_keeps {L : List Part} {s0 s : State} (c : Chan)
    (hL0 : [.regs, .seam, .upb, .restarts, .txEff, .evt, .tsk, .hif, .out, .fresh] ⊆ L) (h0 : SameBut L s0 s) :
    SameBut L s0 (s.cutBurst c) := by
  unfold State.cutBurst
  split
  · exact (State.setUpb_keeps _ _ (Part.sub (by decide) hL0) h0)
  · exact (State.txSettle_keeps _ (Part.sub (by decide) hL0) (State.restartPackets_keeps _ _ (Part.sub (by decide) hL0) (State.setUpb_keeps _ _ (Part.sub (by decide) hL0) (State.emit_keeps _ (Part.sub (by decide) hL0) (State.bump64_keeps _ _ _ (Part.sub (by decide) hL0) (PairKeeps.snd (State.freeVal_keeps (Part.sub (by decide) hL0) h0)))))))

theorem State.gsmIdle_keeps {L : List Part} {s0 s : State} (c : Chan)
    (hL0 : [.regs, .seam, .cmt, .tribs, .pipes, .epochs, .shapers, .policers, .evt, .tsk, .hif, .timers, .out] ⊆ L) (h0 : SameBut L s0 s) :
    SameBut L s0 (s.gsmIdle c) := by
  unfold State.gsmIdle
  exact (SameBut.ite (State.switchAny_keeps _ (Part.sub (by decide) hL0) h0) h0)

theorem State.requeue_keeps {L : List Part} {s0 s : State} (m : UMsg)
    (hL0 : [.regs, .seam, .act, .evt, .tsk, .hif, .out] ⊆ L) (h0 : SameBut L s0 s) :
    SameBut L s0 (s.requeue m) := by
  unfold State.requeue
  exact (SameBut.ite (State.setAct_keeps _ (Part.sub (by decide) hL0) h0) (State.fire_keeps _ _ (Part.sub (by decide) hL0) (State.bump_keeps _ (Part.sub (by decide) hL0) h0)))

theorem State.unfix_keeps {L : List Part} {s0 s : State} (b : Burst)
    (hL0 : [.regs, .seam, .tribs, .act, .evt, .tsk, .hif, .out] ⊆ L) (h0 : SameBut L s0 s) :
    SameBut L s0 (s.unfix b) := by
  unfold State.unfix
  exact (SameBut.foldr (fun _ _ h2 => (State.setTrib_keeps _ _ (Part.sub (by decide) hL0) h2)) (SameBut.foldr (fun _ _ h1 => (State.requeue_keeps _ (Part.sub (by decide) hL0) h1)) h0))

theorem State.dropGrants_keeps {L : List Part} {s0 s : State} (c : Chan)
    (hL0 : [.regs, .seam, .cmt, .tribs, .act, .upb, .restarts, .pipes, .epochs, .shapers, .policers, .evt, .tsk, .hif, .timers, .out] ⊆ L) (h0 : SameBut L s0 s) :
    SameBut L s0 (s.dropGrants c) := by
  unfold State.dropGrants
  exact (State.gsmIdle_keeps _ (Part.sub (by decide) hL0) (State.restartPackets_keeps _ _ (Part.sub (by decide) hL0) (State.bumpBy_keeps _ _ (Part.sub (by decide) hL0) (SameBut.foldr (fun _ _ h1 => (State.unfix_keeps _ (Part.sub (by decide) hL0) h1)) (State.setUpb_keeps _ _ (Part.sub (by decide) hL0) h0)))))

theorem State.discardGrants_keeps {L : List Part} {s0 s : State} (c : Chan)
    (hL0 : [.regs, .seam, .cmt, .tribs, .act, .upb, .restarts, .pipes, .epochs, .shapers, .policers, .evt, .tsk, .hif, .timers, .out] ⊆ L) (h0 : SameBut L s0 s) :
    SameBut L s0 (s.discardGrants c) := by
  unfold State.discardGrants
  exact (State.fire_keeps _ _ (Part.sub (by decide) hL0) (State.dropGrants_keeps _ (Part.sub (by decide) hL0) h0))

theorem State.dropSpecial_keeps {L : List Part} {s0 s : State}
    (hL0 : [.upb] ⊆ L) (h0 : SameBut L s0 s) :
    SameBut L s0 (s.dropSpecial) := by
  unfold State.dropSpecial
  exact (SameBut.foldl (fun _ _ h1 => (State.setUpb_keeps _ _ (Part.sub (by decide) hL0) h1)) h0)

theorem State.skipBurst_keeps {L : List Part} {s0 s : State} (c : Chan)
    (hL0 : [.regs, .seam, .evt, .tsk, .hif, .out] ⊆ L) (h0 : SameBut L s0 s) :
    SameBut L s0 (s.skipBurst c) := by
  unfold State.skipBurst
  exact (State.fire_keeps _ _ (Part.sub (by decide) hL0) (State.bump_keeps _ (Part.sub (by decide) hL0) h0))

theorem State.setEqd_keeps {L : List Part} {s0 s : State} (c : Chan) (eqd : Nat)
    (hL0 : [.act] ⊆ L) (h0 : SameBut L s0 s) :
    SameBut L s0 (s.setEqd c eqd) := by
  unfold State.setEqd
  exact (State.setActCh_keeps _ _ (Part.sub (by decide) hL0) h0)

theorem State.dropPast_keeps {L : List Part} {s0 s : State} (c : Chan) (k : Nat)
    (hL0 : [.regs, .seam, .tribs, .act, .upb, .evt, .tsk, .hif, .out] ⊆ L) (h0 : SameBut L s0 s) :
    SameBut L s0 (s.dropPast c k) := by
  unfold State.dropPast
  exact (SameBut.foldl (fun _ _ h2 => (State.skipBurst_keeps _ (Part.sub (by decide) hL0) h2)) (SameBut.foldr (fun _ _ h1 => (State.unfix_keeps _ (Part.sub (by decide) hL0) h1)) (State.setUpb_keeps _ _ (Part.sub (by decide) hL0) h0)))

theorem State.beginFrame_keeps {L : List Part} {s0 s : State} (c : Chan) (k : Nat)
    (hL0 : [.regs, .seam, .cmt, .tribs, .act, .upb, .pairs, .pipes, .epochs, .shapers, .policers, .evt, .tsk, .hif, .timers, .out] ⊆ L) (h0 : SameBut L s0 s) :
    SameBut L s0 (s.beginFrame c k) := by
  unfold State.beginFrame
  exact (State.gsmIdle_keeps _ (Part.sub (by decide) hL0) (State.rollFrame_keeps _ _ (Part.sub (by decide) hL0) (State.dropPast_keeps _ _ (Part.sub (by decide) hL0) (State.setUpb_keeps _ _ (Part.sub (by decide) hL0) (by
    split
    · exact (State.setActCh_keeps _ _ (Part.sub (by decide) hL0) h0)
    · exact h0)))))

theorem State.nextFrame_keeps {L : List Part} {s0 s : State} (c : Chan)
    (hL0 : [.regs, .seam, .cmt, .tribs, .act, .upb, .pairs, .pipes, .epochs, .shapers, .policers, .evt, .tsk, .hif, .timers, .out] ⊆ L) (h0 : SameBut L s0 s) :
    SameBut L s0 (s.nextFrame c) := by
  unfold State.nextFrame
  try dsimp only
  split
  · exact h0
  · exact (by
      split
      · exact (State.beginFrame_keeps _ _ (Part.sub (by decide) hL0) h0)
      · exact (SameBut.ite (State.beginFrame_keeps _ _ (Part.sub (by decide) hL0) (State.setEqd_keeps _ _ (Part.sub (by decide) hL0) h0)) (State.beginFrame_keeps _ _ (Part.sub (by decide) hL0) h0)))

theorem State.takeContainers_keeps {L : List Part} {s0 s : State} (xs : List (Nat × List Byte))
    (hL0 : [.tribs] ⊆ L) (h0 : SameBut L s0 s) :
    SameBut L s0 (s.takeContainers xs) := by
  unfold State.takeContainers
  exact (SameBut.foldl (fun _ _ h1 => (State.setTrib_keeps _ _ (Part.sub (by decide) hL0) h1)) h0)

theorem State.burstKey_keeps {L : List Part} {s0 s : State} (c : Chan) (k : Nat)
    (hL0 : [.regs, .seam, .pairs, .evt, .tsk, .hif, .out] ⊆ L) (h0 : SameBut L s0 s) :
    PairKeeps L s0 (s.burstKey c k) := by
  unfold State.burstKey
  exact (PairKeeps.ite (PairKeeps.mk h0) (by
    split
    · exact (PairKeeps.mk h0)
    · exact (by
        try dsimp only
        split
        · exact (PairKeeps.ite (PairKeeps.mk (State.spendKey_keeps _ _ _ (Part.sub (by decide) hL0) h0)) (PairKeeps.mk h0))
        · exact (PairKeeps.mk h0))))

theorem State.fixData_keeps {L : List Part} {s0 s : State} (c : Chan) (g : Grant) (p : ProfileBody)
    (hL0 : [.regs, .seam, .cmt, .tribs, .act, .upb, .pairs, .pipes, .epochs, .shapers, .policers, .evt, .tsk, .hif, .timers, .out] ⊆ L) (h0 : SameBut L s0 s) :
    SameBut L s0 (s.fixData c g p) := by
  unfold State.fixData
  try dsimp only
  exact (SameBut.ite (SameBut.ite (State.bump_keeps _ (Part.sub (by decide) hL0) (State.takeContainers_keeps _ (Part.sub (by decide) hL0) (SameBut.ite (State.rollUp_keeps _ _ _ (Part.sub (by decide) hL0) (State.switchAny_keeps _ (Part.sub (by decide) hL0) h0)) (State.setAct_keeps _ (Part.sub (by decide) hL0) (State.rollUp_keeps _ _ _ (Part.sub (by decide) hL0) (State.switchAny_keeps _ (Part.sub (by decide) hL0) h0)))))) (State.takeContainers_keeps _ (Part.sub (by decide) hL0) (SameBut.ite (State.rollUp_keeps _ _ _ (Part.sub (by decide) hL0) (State.switchAny_keeps _ (Part.sub (by decide) hL0) h0)) (State.setAct_keeps _ (Part.sub (by decide) hL0) (State.rollUp_keeps _ _ _ (Part.sub (by decide) hL0) (State.switchAny_keeps _ (Part.sub (by decide) hL0) h0)))))) (State.setUpb_keeps _ _ (Part.sub (by decide) hL0) (PairKeeps.snd (State.burstKey_keeps _ _ (Part.sub (by decide) hL0) (SameBut.ite (State.bump_keeps _ (Part.sub (by decide) hL0) (State.takeContainers_keeps _ (Part.sub (by decide) hL0) (SameBut.ite (State.rollUp_keeps _ _ _ (Part.sub (by decide) hL0) (State.switchAny_keeps _ (Part.sub (by decide) hL0) h0)) (State.setAct_keeps _ (Part.sub (by decide) hL0) (State.rollUp_keeps _ _ _ (Part.sub (by decide) hL0) (State.switchAny_keeps _ (Part.sub (by decide) hL0) h0)))))) (State.takeContainers_keeps _ (Part.sub (by decide) hL0) (SameBut.ite (State.rollUp_keeps _ _ _ (Part.sub (by decide) hL0) (State.switchAny_keeps _ (Part.sub (by decide) hL0) h0)) (State.setAct_keeps _ (Part.sub (by decide) hL0) (State.rollUp_keeps _ _ _ (Part.sub (by decide) hL0) (State.switchAny_keeps _ (Part.sub (by decide) hL0) h0))))))))))

theorem State.fixBurst_keeps {L : List Part} {s0 s : State} (c : Chan)
    (hL0 : [.regs, .seam, .cmt, .tribs, .act, .upb, .pairs, .pipes, .epochs, .shapers, .policers, .evt, .tsk, .hif, .timers, .out] ⊆ L) (h0 : SameBut L s0 s) :
    SameBut L s0 (s.fixBurst c) := by
  unfold State.fixBurst
  try dsimp only
  split
  · exact h0
  · exact (by
      try dsimp only
      split
      · exact (State.setUpb_keeps _ _ (Part.sub (by decide) hL0) h0)
      · exact (SameBut.ite (State.setUpb_keeps _ _ (Part.sub (by decide) hL0) (State.setUpb_keeps _ _ (Part.sub (by decide) hL0) h0)) (SameBut.ite (State.bump_keeps _ (Part.sub (by decide) hL0) (State.setUpb_keeps _ _ (Part.sub (by decide) hL0) h0)) (SameBut.ite (State.skipBurst_keeps _ (Part.sub (by decide) hL0) (State.setUpb_keeps _ _ (Part.sub (by decide) hL0) h0)) (State.fixData_keeps _ _ _ (Part.sub (by decide) hL0) (State.setUpb_keeps _ _ (Part.sub (by decide) hL0) h0))))))

theorem State.specialMsg_keeps {L : List Part} {s0 s : State} (c : Chan) (k : BurstKind)
    (hL0 : [.regs, .act] ⊆ L) (h0 : SameBut L s0 s) :
    PairKeeps L s0 (s.specialMsg c k) := by
  unfold State.specialMsg
  try dsimp only
  split
  · exact (PairKeeps.mk h0)
  · exact (PairKeeps.mk (State.bump_keeps _ (Part.sub (by decide) hL0) (State.setAct_keeps _ (Part.sub (by decide) hL0) h0)))
  · exact (PairKeeps.mk h0)

theorem State.numberMsgs_keeps {L : List Part} {s0 s : State} (ms : List UMsg)
    (hL0 : [.act] ⊆ L) (h0 : SameBut L s0 s) :
    PairKeeps L s0 (s.numberMsgs ms) := by
  unfold State.numberMsgs
  exact (PairKeeps.mk (State.setAct_keeps _ (Part.sub (by decide) hL0) h0))

theorem State.releasePacket_keeps {L : List Part} {s0 s : State} (c : Chan)
    (hL0 : [.regs, .seam, .upb, .bufs, .queues, .lports, .evt, .log, .tsk, .hif, .out] ⊆ L) (h0 : SameBut L s0 s) :
    SameBut L s0 (s.releasePacket c) := by
  unfold State.releasePacket
  try dsimp only
  split
  · exact h0
  · exact (State.bump_keeps _ (Part.sub (by decide) hL0) (State.sentFrom_keeps _ (Part.sub (by decide) hL0) (State.setUpb_keeps _ _ (Part.sub (by decide) hL0) h0)))

theorem State.releaseAll_keeps {L : List Part} {s0 s : State} (c : Chan) (n : Nat)
    (hL0 : [.regs, .seam, .upb, .bufs, .queues, .lports, .evt, .log, .tsk, .hif, .out] ⊆ L) (h0 : SameBut L s0 s) : SameBut L s0 (s.releaseAll c n) := by
  induction n generalizing s with
  | zero => exact h0
  | succ n ih => exact ih (State.releasePacket_keeps _ (Part.sub (by decide) hL0) h0)

theorem State.wordsEnd_keeps {L : List Part} {s0 s : State} (c : Chan)
    (hL0 : [.regs, .seam, .upb, .txEff, .bufs, .queues, .lports, .evt, .log, .tsk, .hif, .out] ⊆ L) (h0 : SameBut L s0 s) :
    SameBut L s0 (s.wordsEnd c) := by
  unfold State.wordsEnd
  try dsimp only
  split
  · exact h0
  · exact (State.txSettle_keeps _ (Part.sub (by decide) hL0) (State.releaseAll_keeps _ _ (Part.sub (by decide) hL0) (State.emit_keeps _ (Part.sub (by decide) hL0) (State.bump64_keeps _ _ _ (Part.sub (by decide) hL0) (State.setUpb_keeps _ _ (Part.sub (by decide) hL0) h0)))))

theorem State.startBurst_keeps {L : List Part} {s0 s : State} (c : Chan)
    (hL0 : [.regs, .seam, .cmt, .tribs, .act, .upb, .txEff, .pipes, .epochs, .bufs, .queues, .shapers, .policers, .lports, .evt, .log, .tsk, .hif, .timers, .out] ⊆ L) (h0 : SameBut L s0 s) :
    SameBut L s0 (s.startBurst c) := by
  unfold State.startBurst
  try dsimp only
  split
  · exact h0
  · exact (SameBut.ite (State.unfix_keeps _ (Part.sub (by decide) hL0) (State.gsmIdle_keeps _ (Part.sub (by decide) hL0) (State.setUpb_keeps _ _ (Part.sub (by decide) hL0) h0))) (SameBut.ite (State.skipBurst_keeps _ (Part.sub (by decide) hL0) (State.unfix_keeps _ (Part.sub (by decide) hL0) (State.gsmIdle_keeps _ (Part.sub (by decide) hL0) (State.setUpb_keeps _ _ (Part.sub (by decide) hL0) h0)))) (SameBut.foldl (fun _ _ h2 => (State.emit_keeps _ (Part.sub (by decide) hL0) h2)) (SameBut.foldl (fun _ _ h1 => (State.emit_keeps _ (Part.sub (by decide) hL0) h1)) (State.emit_keeps _ (Part.sub (by decide) hL0) (State.bump_keeps _ (Part.sub (by decide) hL0) (State.setUpb_keeps _ _ (Part.sub (by decide) hL0) (PairKeeps.snd (State.numberMsgs_keeps _ (Part.sub (by decide) hL0) (PairKeeps.snd (State.specialMsg_keeps _ _ (Part.sub (by decide) hL0) (State.wordsEnd_keeps _ (Part.sub (by decide) hL0) (State.gsmIdle_keeps _ (Part.sub (by decide) hL0) (State.setUpb_keeps _ _ (Part.sub (by decide) hL0) h0))))))))))))))

theorem State.endBurst_keeps {L : List Part} {s0 s : State} (c : Chan)
    (hL0 : [.regs, .seam, .upb, .txEff, .bufs, .queues, .lports, .evt, .log, .tsk, .hif, .out] ⊆ L) (h0 : SameBut L s0 s) :
    SameBut L s0 (s.endBurst c) := by
  unfold State.endBurst
  exact (State.setUpb_keeps _ _ (Part.sub (by decide) hL0) (SameBut.ite (State.wordsEnd_keeps _ (Part.sub (by decide) hL0) h0) h0))

theorem State.idleFragment_keeps {L : List Part} {s0 s : State} (c : Chan) (b : Burst) (late : Bool)
    (hL0 : [.regs, .seam, .upb, .evt, .tsk, .hif, .out] ⊆ L) (h0 : SameBut L s0 s) :
    SameBut L s0 (s.idleFragment c b late) := by
  unfold State.idleFragment
  exact (SameBut.ite h0 (SameBut.ite (SameBut.ite (State.bump_keeps _ (Part.sub (by decide) hL0) (State.emit_keeps _ (Part.sub (by decide) hL0) (State.setUpb_keeps _ _ (Part.sub (by decide) hL0) h0))) (State.fire_keeps _ _ (Part.sub (by decide) hL0) (State.bump_keeps _ (Part.sub (by decide) hL0) (State.emit_keeps _ (Part.sub (by decide) hL0) (State.setUpb_keeps _ _ (Part.sub (by decide) hL0) h0))))) (State.emit_keeps _ (Part.sub (by decide) hL0) (State.setUpb_keeps _ _ (Part.sub (by decide) hL0) h0))))

theorem State.encrypted_keeps {L : List Part} {s0 s : State} (n : Fin 8) (i : Bool) (key : List Byte) (nonce : Nat)
    (hL0 : [.regs, .seam, .pairs, .evt, .tsk, .hif, .out] ⊆ L) (h0 : SameBut L s0 s) :
    SameBut L s0 (s.encrypted n i key nonce) := by
  unfold State.encrypted
  exact (SameBut.ite (State.useKey_keeps _ _ _ (Part.sub (by decide) hL0) h0) (State.bump64_keeps _ _ _ (Part.sub (by decide) hL0) h0))

theorem State.sendFragment_keeps {L : List Part} {s0 s : State} (c : Chan) (b : Burst) (i : Bool) (key : List Byte) (p : Pulled) (n : Nat)
    (hL0 : [.regs, .mem, .seam, .upb, .pairs, .ecc, .queues, .tim, .evt, .tsk, .hif, .out] ⊆ L) (h0 : SameBut L s0 s) :
    SameBut L s0 (s.sendFragment c b i key p n) := by
  unfold State.sendFragment
  exact (State.encrypted_keeps _ _ _ _ (Part.sub (by decide) hL0) (State.bump_keeps _ (Part.sub (by decide) hL0) (State.emit_keeps _ (Part.sub (by decide) hL0) (State.setUpb_keeps _ _ (Part.sub (by decide) hL0) (SameBut.ite (SameBut.upd_mem_queues_out (Part.sub (by decide) hL0) (PairKeeps.snd (State.egress_keeps _ _ _ (Part.sub (by decide) hL0) h0))) h0)))))

theorem State.fragmentPlace_keeps {L : List Part} {s0 s : State} (c : Chan) (present : Nat)
    (hL0 : [.regs, .mem, .seam, .upb, .pairs, .ecc, .queues, .tim, .evt, .tsk, .hif, .out] ⊆ L) (h0 : SameBut L s0 s) :
    SameBut L s0 (s.fragmentPlace c present) := by
  unfold State.fragmentPlace
  try dsimp only
  split
  · exact h0
  · exact (by
      try dsimp only
      split
      · exact (SameBut.ite (State.idleFragment_keeps _ _ _ (Part.sub (by decide) hL0) h0) (SameBut.ite (State.idleFragment_keeps _ _ _ (Part.sub (by decide) hL0) h0) (State.sendFragment_keeps _ _ _ _ _ _ (Part.sub (by decide) hL0) h0)))
      · exact (State.idleFragment_keeps _ _ _ (Part.sub (by decide) hL0) h0)
      · exact (State.idleFragment_keeps _ _ _ (Part.sub (by decide) hL0) h0))

theorem State.selectFor_keeps {L : List Part} {s0 s : State} (c : Chan) (b : Burst)
    (hL0 : [.regs, .seam, .upb, .restarts, .bufs, .queues, .turns, .elig, .shapers, .lports, .evt, .log, .tsk, .hif, .out] ⊆ L) (h0 : SameBut L s0 s) :
    SameBut L s0 (s.selectFor c b) := by
  unfold State.selectFor
  try dsimp only
  split
  · exact (SameBut.upd_restarts (Part.sub (by decide) hL0) (State.setUpb_keeps _ _ (Part.sub (by decide) hL0) h0))
  · exact (SameBut.ite h0 (by
      try dsimp only
      split
      · rename_i heq; have h4 := PairKeeps.pair heq (State.choose_keeps _ _ (Part.sub (by decide) hL0) (State.noteEligible_keeps _ _ (Part.sub (by decide) hL0) (SameBut.foldl (fun _ _ h3 => (State.consult_keeps _ (Part.sub (by decide) hL0) h3)) (SameBut.ite (SameBut.foldl (fun _ _ h1 => (State.dropDead_keeps _ _ (Part.sub (by decide) hL0) h1)) h0) (State.consult_keeps _ (Part.sub (by decide) hL0) (SameBut.foldl (fun _ _ h2 => (State.dropDead_keeps _ _ (Part.sub (by decide) hL0) h2)) h0))))))
        exact (by
          split
          · exact (State.setUpb_keeps _ _ (Part.sub (by decide) hL0) (State.markSelected_keeps _ _ (Part.sub (by decide) hL0) (State.takeCredit_keeps _ (Part.sub (by decide) hL0) (State.takeCredit_keeps _ (Part.sub (by decide) hL0) h4))))
          · exact h4)
      · rename_i heq; have h8 := PairKeeps.pair heq (State.choose_keeps _ _ (Part.sub (by decide) hL0) (State.noteEligible_keeps _ _ (Part.sub (by decide) hL0) (SameBut.foldl (fun _ _ h7 => (State.consult_keeps _ (Part.sub (by decide) hL0) h7)) (SameBut.ite (SameBut.foldl (fun _ _ h5 => (State.dropDead_keeps _ _ (Part.sub (by decide) hL0) h5)) h0) (State.consult_keeps _ (Part.sub (by decide) hL0) (SameBut.foldl (fun _ _ h6 => (State.dropDead_keeps _ _ (Part.sub (by decide) hL0) h6)) h0))))))
        exact h8))

theorem State.opGsmData_keeps {L : List Part} {s0 s : State} (r : Req) (v : Word)
    (hL0 : [.regs, .seam, .gsm, .evt, .tsk, .hif, .resp, .out] ⊆ L) (h0 : SameBut L s0 s) :
    SameBut L s0 (s.opGsmData r v) := by
  unfold State.opGsmData
  exact (SameBut.ite (State.refuse_keeps _ _ (Part.sub (by decide) hL0) h0) (State.viewGsm_keeps (Part.sub (by decide) hL0) (SameBut.ite (State.setFld_keeps _ _ (Part.sub (by decide) hL0) (SameBut.upd_gsm (Part.sub (by decide) hL0) h0)) (SameBut.upd_gsm (Part.sub (by decide) hL0) h0))))

theorem State.opGsmCmd_keeps {L : List Part} {s0 s : State} (v : Word)
    (hL0 : [.regs] ⊆ L) (h0 : SameBut L s0 s) :
    SameBut L s0 (s.opGsmCmd v) := by
  unfold State.opGsmCmd
  exact (SameBut.ite (State.setFld_keeps _ _ (Part.sub (by decide) hL0) h0) h0)

theorem State.copyGsm_keeps {L : List Part} {s0 s : State}
    (hL0 : [.regs, .gsm] ⊆ L) (h0 : SameBut L s0 s) :
    SameBut L s0 (s.copyGsm) := by
  unfold State.copyGsm
  exact (SameBut.ite (State.viewGsm_keeps (Part.sub (by decide) hL0) (State.setFld_keeps _ _ (Part.sub (by decide) hL0) (SameBut.upd_gsm (Part.sub (by decide) hL0) h0))) h0)

theorem State.opTxConfig_keeps {L : List Part} {s0 s : State} (c : Chan) (fir : Bool) (v : Word)
    (hL0 : [.regs, .txEff] ⊆ L) (h0 : SameBut L s0 s) :
    SameBut L s0 (s.opTxConfig c fir v) := by
  unfold State.opTxConfig
  exact (SameBut.ite (State.store_keeps _ _ (Part.sub (by decide) hL0) h0) (State.txSettle_keeps _ (Part.sub (by decide) hL0) (State.store_keeps _ _ (Part.sub (by decide) hL0) h0)))

theorem State.testOn_keeps {L : List Part} {s0 s : State} (c : Chan) (n : Nat)
    (hL0 : [.out, .fresh] ⊆ L) (h0 : SameBut L s0 s) :
    SameBut L s0 (s.testOn c n) := by
  unfold State.testOn
  exact (State.emit_keeps _ (Part.sub (by decide) hL0) (PairKeeps.snd (State.freeVal_keeps (Part.sub (by decide) hL0) h0)))

theorem State.opTxTest_keeps {L : List Part} {s0 s : State} (r : Req) (c : Chan) (v : Word)
    (hL0 : [.regs, .seam, .evt, .tsk, .hif, .resp, .out, .fresh] ⊆ L) (h0 : SameBut L s0 s) :
    SameBut L s0 (s.opTxTest r c v) := by
  unfold State.opTxTest
  exact (SameBut.ite (State.store_keeps _ _ (Part.sub (by decide) hL0) h0) (SameBut.ite (State.refuse_keeps _ _ (Part.sub (by decide) hL0) h0) (State.testOn_keeps _ _ (Part.sub (by decide) hL0) (State.store_keeps _ _ (Part.sub (by decide) hL0) h0))))

theorem execUpstreamFrameStart_keeps (c : Chan) (s : State) :
    ResKeeps [.regs, .seam, .cmt, .tribs, .act, .upb, .pairs, .pipes, .epochs, .shapers, .policers, .evt, .tsk, .hif, .timers, .out] s (execUpstreamFrameStart c s) := by
  have hL0 := List.Subset.refl ([.regs, .seam, .cmt, .tribs, .act, .upb, .pairs, .pipes, .epochs, .shapers, .policers, .evt, .tsk, .hif, .timers, .out] : List Part)
  have h0 := SameBut.refl [.regs, .seam, .cmt, .tribs, .act, .upb, .pairs, .pipes, .epochs, .shapers, .policers, .evt, .tsk, .hif, .timers, .out] s
  unfold execUpstreamFrameStart
  exact (ResKeeps.next (SameBut.ite (State.nextFrame_keeps _ (Part.sub (by decide) hL0) h0) h0))

theorem execBurstFix_keeps (c : Chan) (s : State) :
    ResKeeps [.regs, .seam, .cmt, .tribs, .act, .upb, .pairs, .pipes, .epochs, .shapers, .policers, .evt, .tsk, .hif, .timers, .out] s (execBurstFix c s) := by
  have hL0 := List.Subset.refl ([.regs, .seam, .cmt, .tribs, .act, .upb, .pairs, .pipes, .epochs, .shapers, .policers, .evt, .tsk, .hif, .timers, .out] : List Part)
  have h0 := SameBut.refl [.regs, .seam, .cmt, .tribs, .act, .upb, .pairs, .pipes, .epochs, .shapers, .policers, .evt, .tsk, .hif, .timers, .out] s
  unfold execBurstFix
  exact (ResKeeps.next (State.fixBurst_keeps _ (Part.sub (by decide) hL0) h0))

theorem execBurstStart_keeps (c : Chan) (s : State) :
    ResKeeps [.regs, .seam, .cmt, .tribs, .act, .upb, .txEff, .pipes, .epochs, .bufs, .queues, .shapers, .policers, .lports, .evt, .log, .tsk, .hif, .timers, .out] s (execBurstStart c s) := by
  have hL0 := List.Subset.refl ([.regs, .seam, .cmt, .tribs, .act, .upb, .txEff, .pipes, .epochs, .bufs, .queues, .shapers, .policers, .lports, .evt, .log, .tsk, .hif, .timers, .out] : List Part)
  have h0 := SameBut.refl [.regs, .seam, .cmt, .tribs, .act, .upb, .txEff, .pipes, .epochs, .bufs, .queues, .shapers, .policers, .lports, .evt, .log, .tsk, .hif, .timers, .out] s
  unfold execBurstStart
  exact (ResKeeps.next (State.startBurst_keeps _ (Part.sub (by decide) hL0) h0))

theorem execBurstEnd_keeps (c : Chan) (s : State) :
    ResKeeps [.regs, .seam, .upb, .txEff, .bufs, .queues, .lports, .evt, .log, .tsk, .hif, .out] s (execBurstEnd c s) := by
  have hL0 := List.Subset.refl ([.regs, .seam, .upb, .txEff, .bufs, .queues, .lports, .evt, .log, .tsk, .hif, .out] : List Part)
  have h0 := SameBut.refl [.regs, .seam, .upb, .txEff, .bufs, .queues, .lports, .evt, .log, .tsk, .hif, .out] s
  unfold execBurstEnd
  exact (ResKeeps.next (State.endBurst_keeps _ (Part.sub (by decide) hL0) h0))

theorem execPacketFragmentStart_keeps (c : Chan) (present : Nat) (s : State) :
    ResKeeps [.regs, .mem, .seam, .upb, .pairs, .ecc, .queues, .tim, .evt, .tsk, .hif, .out] s (execPacketFragmentStart c present s) := by
  have hL0 := List.Subset.refl ([.regs, .mem, .seam, .upb, .pairs, .ecc, .queues, .tim, .evt, .tsk, .hif, .out] : List Part)
  have h0 := SameBut.refl [.regs, .mem, .seam, .upb, .pairs, .ecc, .queues, .tim, .evt, .tsk, .hif, .out] s
  unfold execPacketFragmentStart
  exact (ResKeeps.next (State.fragmentPlace_keeps _ _ (Part.sub (by decide) hL0) h0))

theorem execPacketRelease_keeps (c : Chan) (s : State) :
    ResKeeps [.regs, .seam, .upb, .bufs, .queues, .lports, .evt, .log, .tsk, .hif, .out] s (execPacketRelease c s) := by
  have hL0 := List.Subset.refl ([.regs, .seam, .upb, .bufs, .queues, .lports, .evt, .log, .tsk, .hif, .out] : List Part)
  have h0 := SameBut.refl [.regs, .seam, .upb, .bufs, .queues, .lports, .evt, .log, .tsk, .hif, .out] s
  unfold execPacketRelease
  exact (ResKeeps.next (State.releasePacket_keeps _ (Part.sub (by decide) hL0) h0))

theorem execGsSelect_keeps (c : Chan) (s : State) :
    ResKeeps [.regs, .seam, .upb, .restarts, .bufs, .queues, .turns, .elig, .shapers, .lports, .evt, .log, .tsk, .hif, .out] s (execGsSelect c s) := by
  have hL0 := List.Subset.refl ([.regs, .seam, .upb, .restarts, .bufs, .queues, .turns, .elig, .shapers, .lports, .evt, .log, .tsk, .hif, .out] : List Part)
  have h0 := SameBut.refl [.regs, .seam, .upb, .restarts, .bufs, .queues, .turns, .elig, .shapers, .lports, .evt, .log, .tsk, .hif, .out] s
  unfold execGsSelect
  exact (ResKeeps.next (by
    split
    · exact (SameBut.ite h0 (State.selectFor_keeps _ _ (Part.sub (by decide) hL0) h0))
    · exact h0))

theorem execGsmDataWrite_keeps (r : Req) (v : Word) (s : State) :
    ResKeeps [.regs, .seam, .gsm, .evt, .tsk, .hif, .resp, .out] s (execGsmDataWrite r v s) := by
  have hL0 := List.Subset.refl ([.regs, .seam, .gsm, .evt, .tsk, .hif, .resp, .out] : List Part)
  have h0 := SameBut.refl [.regs, .seam, .gsm, .evt, .tsk, .hif, .resp, .out] s
  unfold execGsmDataWrite
  exact (ResKeeps.next (State.access_keeps _ _ _ _ (Part.sub (by decide) hL0) (fun _ h1 => (State.opGsmData_keeps _ _ (Part.sub (by decide) hL0) h1)) h0))

theorem execGsmCopy_keeps (r : Req) (v : Word) (s : State) :
    ResKeeps [.regs, .seam, .evt, .tsk, .hif, .resp, .out] s (execGsmCopy r v s) := by
  have hL0 := List.Subset.refl ([.regs, .seam, .evt, .tsk, .hif, .resp, .out] : List Part)
  have h0 := SameBut.refl [.regs, .seam, .evt, .tsk, .hif, .resp, .out] s
  unfold execGsmCopy
  exact (ResKeeps.next (State.access_keeps _ _ _ _ (Part.sub (by decide) hL0) (fun _ h1 => (State.opGsmCmd_keeps _ (Part.sub (by decide) hL0) h1)) h0))

theorem execTxConfigWrite_keeps (r : Req) (c : Chan) (fir : Bool) (v : Word) (s : State) :
    ResKeeps [.regs, .seam, .txEff, .evt, .tsk, .hif, .resp, .out] s (execTxConfigWrite r c fir v s) := by
  have hL0 := List.Subset.refl ([.regs, .seam, .txEff, .evt, .tsk, .hif, .resp, .out] : List Part)
  have h0 := SameBut.refl [.regs, .seam, .txEff, .evt, .tsk, .hif, .resp, .out] s
  unfold execTxConfigWrite
  exact (ResKeeps.next (State.access_keeps _ _ _ _ (Part.sub (by decide) hL0) (fun _ h1 => (State.opTxConfig_keeps _ _ _ (Part.sub (by decide) hL0) h1)) h0))

theorem execTxTestWrite_keeps (r : Req) (c : Chan) (v : Word) (s : State) :
    ResKeeps [.regs, .seam, .evt, .tsk, .hif, .resp, .out, .fresh] s (execTxTestWrite r c v s) := by
  have hL0 := List.Subset.refl ([.regs, .seam, .evt, .tsk, .hif, .resp, .out, .fresh] : List Part)
  have h0 := SameBut.refl [.regs, .seam, .evt, .tsk, .hif, .resp, .out, .fresh] s
  unfold execTxTestWrite
  exact (ResKeeps.next (State.access_keeps _ _ _ _ (Part.sub (by decide) hL0) (fun _ h1 => (State.opTxTest_keeps _ _ _ (Part.sub (by decide) hL0) h1)) h0))

end Sys2Proof.Machine
end

