-- ==== Sys2Proof/Laws/Activation.lean ====
section
/-! SUPPORT. Which parts of the state each operation of Machine/Activation.lean can change. -/

namespace Sys2Proof.Machine

open Sys2Proof

set_option linter.unusedTactic false
set_option linter.unreachableTactic false
set_option linter.unusedVariables false

theorem State.lossTimer_keeps {L : List Part} {s0 s : State}
    (hL0 : [.timers] ⊆ L) (h0 : SameBut L s0 s) :
    SameBut L s0 (s.lossTimer) := by
  unfold State.lossTimer
  exact (SameBut.ite (SameBut.ite h0 (State.startTimer_keeps _ (Part.sub (by decide) hL0) h0)) (State.stopTimer_keeps _ (Part.sub (by decide) hL0) h0))

theorem timersFor_keeps {L : List Part} {s0 s : State} (st : TermSt)
    (hL0 : [.timers] ⊆ L) (h0 : SameBut L s0 s) :
    SameBut L s0 (timersFor st s) := by
  unfold timersFor
  split
  · exact (State.lossTimer_keeps (Part.sub (by decide) hL0) (State.stopTimer_keeps _ (Part.sub (by decide) hL0) (State.stopTimer_keeps _ (Part.sub (by decide) hL0) (State.startTimer_keeps _ (Part.sub (by decide) hL0) h0))))
  · exact (State.lossTimer_keeps (Part.sub (by decide) hL0) (State.stopTimer_keeps _ (Part.sub (by decide) hL0) (State.startTimer_keeps _ (Part.sub (by decide) hL0) (State.stopTimer_keeps _ (Part.sub (by decide) hL0) h0))))
  · exact (State.lossTimer_keeps (Part.sub (by decide) hL0) (State.startTimer_keeps _ (Part.sub (by decide) hL0) (State.stopTimer_keeps _ (Part.sub (by decide) hL0) (State.stopTimer_keeps _ (Part.sub (by decide) hL0) h0))))
  · exact (State.lossTimer_keeps (Part.sub (by decide) hL0) (State.stopTimer_keeps _ (Part.sub (by decide) hL0) (State.stopTimer_keeps _ (Part.sub (by decide) hL0) (State.stopTimer_keeps _ (Part.sub (by decide) hL0) h0))))

theorem State.discardAll_keeps {L : List Part} {s0 s : State}
    (hL0 : [.regs, .seam, .cmt, .tribs, .act, .upb, .restarts, .pipes, .epochs, .shapers, .policers, .evt, .tsk, .hif, .timers, .out] ⊆ L) (h0 : SameBut L s0 s) :
    SameBut L s0 (s.discardAll) := by
  unfold State.discardAll
  exact (State.fire_keeps _ _ (Part.sub (by decide) hL0) (SameBut.foldl (fun _ _ h1 => (State.dropGrants_keeps _ (Part.sub (by decide) hL0) h1)) h0))

theorem State.go_keeps {L : List Part} {s0 s : State} (st : TermSt)
    (hL0 : [.regs, .seam, .cmt, .tribs, .act, .upb, .restarts, .pipes, .epochs, .shapers, .policers, .evt, .tsk, .hif, .timers, .out] ⊆ L) (h0 : SameBut L s0 s) :
    SameBut L s0 (s.go st) := by
  unfold State.go
  exact (SameBut.ite h0 (SameBut.ite (State.discardAll_keeps (Part.sub (by decide) hL0) (SameBut.ite (State.setAct_keeps _ (Part.sub (by decide) hL0) (SameBut.ite (State.dropSpecial_keeps (Part.sub (by decide) hL0) (State.setAct_keeps _ (Part.sub (by decide) hL0) (timersFor_keeps _ (Part.sub (by decide) hL0) (State.fire_keeps _ _ (Part.sub (by decide) hL0) (State.setAct_keeps _ (Part.sub (by decide) hL0) h0))))) (timersFor_keeps _ (Part.sub (by decide) hL0) (State.fire_keeps _ _ (Part.sub (by decide) hL0) (State.setAct_keeps _ (Part.sub (by decide) hL0) h0))))) (SameBut.ite (State.dropSpecial_keeps (Part.sub (by decide) hL0) (State.setAct_keeps _ (Part.sub (by decide) hL0) (timersFor_keeps _ (Part.sub (by decide) hL0) (State.fire_keeps _ _ (Part.sub (by decide) hL0) (State.setAct_keeps _ (Part.sub (by decide) hL0) h0))))) (timersFor_keeps _ (Part.sub (by decide) hL0) (State.fire_keeps _ _ (Part.sub (by decide) hL0) (State.setAct_keeps _ (Part.sub (by decide) hL0) h0)))))) (SameBut.ite (State.setAct_keeps _ (Part.sub (by decide) hL0) (SameBut.ite (State.dropSpecial_keeps (Part.sub (by decide) hL0) (State.setAct_keeps _ (Part.sub (by decide) hL0) (timersFor_keeps _ (Part.sub (by decide) hL0) (State.fire_keeps _ _ (Part.sub (by decide) hL0) (State.setAct_keeps _ (Part.sub (by decide) hL0) h0))))) (timersFor_keeps _ (Part.sub (by decide) hL0) (State.fire_keeps _ _ (Part.sub (by decide) hL0) (State.setAct_keeps _ (Part.sub (by decide) hL0) h0))))) (SameBut.ite (State.dropSpecial_keeps (Part.sub (by decide) hL0) (State.setAct_keeps _ (Part.sub (by decide) hL0) (timersFor_keeps _ (Part.sub (by decide) hL0) (State.fire_keeps _ _ (Part.sub (by decide) hL0) (State.setAct_keeps _ (Part.sub (by decide) hL0) h0))))) (timersFor_keeps _ (Part.sub (by decide) hL0) (State.fire_keeps _ _ (Part.sub (by decide) hL0) (State.setAct_keeps _ (Part.sub (by decide) hL0) h0)))))))

theorem State.dropId_keeps {L : List Part} {s0 s : State}
    (hL0 : [.act, .upb, .pairs] ⊆ L) (h0 : SameBut L s0 s) :
    SameBut L s0 (s.dropId) := by
  unfold State.dropId
  split
  · exact (State.eraseAll_keeps (Part.sub (by decide) hL0) (State.setAct_keeps _ (Part.sub (by decide) hL0) h0))
  · exact h0

theorem State.loseRanged_keeps {L : List Part} {s0 s : State} (c : Chan)
    (hL0 : [.regs, .seam, .cmt, .tribs, .act, .upb, .restarts, .pipes, .epochs, .shapers, .policers, .evt, .tsk, .hif, .timers, .out] ⊆ L) (h0 : SameBut L s0 s) :
    SameBut L s0 (s.loseRanged c) := by
  unfold State.loseRanged
  exact (SameBut.ite (State.discardGrants_keeps _ (Part.sub (by decide) hL0) (State.setActCh_keeps _ _ (Part.sub (by decide) hL0) h0)) h0)

theorem State.unrange_keeps {L : List Part} {s0 s : State} (c : Chan)
    (hL0 : [.regs, .seam, .cmt, .tribs, .act, .upb, .restarts, .pipes, .epochs, .shapers, .policers, .evt, .tsk, .hif, .timers, .out] ⊆ L) (h0 : SameBut L s0 s) :
    SameBut L s0 (s.unrange c) := by
  unfold State.unrange
  exact (State.loseRanged_keeps _ (Part.sub (by decide) hL0) (State.setEqd_keeps _ _ (Part.sub (by decide) hL0) h0))

theorem State.loseAll_keeps {L : List Part} {s0 s : State}
    (hL0 : [.regs, .seam, .cmt, .tribs, .act, .upb, .restarts, .pipes, .epochs, .shapers, .policers, .evt, .tsk, .hif, .timers, .out] ⊆ L) (h0 : SameBut L s0 s) :
    SameBut L s0 (s.loseAll) := by
  unfold State.loseAll
  exact (SameBut.foldl (fun _ _ h1 => (State.loseRanged_keeps _ (Part.sub (by decide) hL0) h1)) h0)

theorem State.unrangeAll_keeps {L : List Part} {s0 s : State}
    (hL0 : [.regs, .seam, .cmt, .tribs, .act, .upb, .restarts, .pipes, .epochs, .shapers, .policers, .evt, .tsk, .hif, .timers, .out] ⊆ L) (h0 : SameBut L s0 s) :
    SameBut L s0 (s.unrangeAll) := by
  unfold State.unrangeAll
  exact (SameBut.foldl (fun _ _ h1 => (State.unrange_keeps _ (Part.sub (by decide) hL0) h1)) h0)

theorem State.rangeNow_keeps {L : List Part} {s0 s : State} (c : Chan) (eqd : Nat)
    (hL0 : [.act] ⊆ L) (h0 : SameBut L s0 s) :
    SameBut L s0 (s.rangeNow c eqd) := by
  unfold State.rangeNow
  exact (State.setActCh_keeps _ _ (Part.sub (by decide) hL0) (State.setEqd_keeps _ _ (Part.sub (by decide) hL0) h0))

theorem State.enterHold_keeps {L : List Part} {s0 s : State} (planned : Bool) (ms : Nat)
    (hL0 : [.regs, .seam, .cmt, .tribs, .act, .upb, .restarts, .pipes, .epochs, .shapers, .policers, .evt, .tsk, .hif, .timers, .out] ⊆ L) (h0 : SameBut L s0 s) :
    SameBut L s0 (s.enterHold planned ms) := by
  unfold State.enterHold
  exact (State.fire_keeps _ _ (Part.sub (by decide) hL0) (State.bump_keeps _ (Part.sub (by decide) hL0) (State.setAct_keeps _ (Part.sub (by decide) hL0) (State.go_keeps _ (Part.sub (by decide) hL0) h0))))

theorem State.queueStatus_keeps {L : List Part} {s0 s : State} (cause : Nat)
    (hL0 : [.regs, .seam, .act, .evt, .tsk, .hif, .out] ⊆ L) (h0 : SameBut L s0 s) :
    SameBut L s0 (s.queueStatus cause) := by
  unfold State.queueStatus
  exact (State.queueMsg_keeps _ _ (Part.sub (by decide) hL0) h0)

theorem State.resume_keeps {L : List Part} {s0 s : State}
    (hL0 : [.regs, .seam, .cmt, .tribs, .act, .upb, .restarts, .pipes, .epochs, .shapers, .policers, .evt, .tsk, .hif, .timers, .out] ⊆ L) (h0 : SameBut L s0 s) :
    SameBut L s0 (s.resume) := by
  unfold State.resume
  exact (State.queueStatus_keeps _ (Part.sub (by decide) hL0) (State.go_keeps _ (Part.sub (by decide) hL0) h0))

theorem State.actOff_keeps {L : List Part} {s0 s : State}
    (hL0 : [.regs, .seam, .cmt, .tribs, .act, .upb, .restarts, .pairs, .pipes, .epochs, .shapers, .policers, .evt, .tsk, .hif, .timers, .out] ⊆ L) (h0 : SameBut L s0 s) :
    SameBut L s0 (s.actOff) := by
  unfold State.actOff
  exact (SameBut.ite h0 (State.go_keeps _ (Part.sub (by decide) hL0) (State.unrangeAll_keeps (Part.sub (by decide) hL0) (State.dropId_keeps (Part.sub (by decide) hL0) h0))))

theorem State.presenceMoved_keeps {L : List Part} {s0 s : State} (was : Chan → Bool)
    (hL0 : [.regs, .seam, .cmt, .tribs, .act, .upb, .restarts, .pairs, .pipes, .epochs, .shapers, .policers, .evt, .tsk, .hif, .timers, .out] ⊆ L) (h0 : SameBut L s0 s) :
    SameBut L s0 (s.presenceMoved was) := by
  unfold State.presenceMoved
  split
  · exact (SameBut.ite (State.go_keeps _ (Part.sub (by decide) hL0) h0) h0)
  · exact (State.lossTimer_keeps (Part.sub (by decide) hL0) h0)
  · exact (SameBut.ite (State.resume_keeps (Part.sub (by decide) hL0) h0) h0)
  · exact h0
  · exact (SameBut.ite h0 (State.go_keeps _ (Part.sub (by decide) hL0) (State.dropId_keeps (Part.sub (by decide) hL0) h0)))

theorem State.withPresence_keeps {L : List Part} {s0 s : State} (f : State → State)
    (hL0 : [.regs, .seam, .cmt, .tribs, .act, .upb, .restarts, .pairs, .pipes, .epochs, .shapers, .policers, .evt, .tsk, .hif, .timers, .out] ⊆ L) (hop : ∀ t, SameBut L s0 t → SameBut L s0 (f t)) (h0 : SameBut L s0 s) :
    SameBut L s0 (s.withPresence f) := by
  unfold State.withPresence
  exact (State.presenceMoved_keeps _ (Part.sub (by decide) hL0) (hop _ h0))

theorem State.headChange_keeps {L : List Part} {s0 s : State} (c : Chan)
    (hL0 : [.regs, .seam, .cmt, .tribs, .act, .upb, .restarts, .pipes, .epochs, .shapers, .policers, .evt, .tsk, .hif, .timers, .out] ⊆ L) (h0 : SameBut L s0 s) :
    SameBut L s0 (s.headChange c) := by
  unfold State.headChange
  exact (SameBut.ite (State.discardGrants_keeps _ (Part.sub (by decide) hL0) (State.setActCh_keeps _ _ (Part.sub (by decide) hL0) h0)) h0)

theorem State.silRecord_keeps {L : List Part} {s0 s : State} (entry : Bool)
    (hL0 : [.regs, .seam, .evt, .log, .tsk, .hif, .out] ⊆ L) (h0 : SameBut L s0 s) :
    SameBut L s0 (s.silRecord entry) := by
  unfold State.silRecord
  exact (State.makeRecord_keeps _ _ _ (Part.sub (by decide) hL0) h0)

theorem State.silenceNow_keeps {L : List Part} {s0 s : State} (reason : BitVec 8) (emergency : Bool)
    (hL0 : [.regs, .seam, .cmt, .tribs, .act, .upb, .restarts, .txEff, .pipes, .epochs, .shapers, .policers, .evt, .log, .tsk, .hif, .timers, .out, .fresh] ⊆ L) (h0 : SameBut L s0 s) :
    SameBut L s0 (s.silenceNow reason emergency) := by
  unfold State.silenceNow
  exact (SameBut.ite (State.setAct_keeps _ (Part.sub (by decide) hL0) (SameBut.ite (State.fire_keeps _ _ (Part.sub (by decide) hL0) (State.fire_keeps _ _ (Part.sub (by decide) hL0) (State.bump_keeps _ (Part.sub (by decide) hL0) (State.setAct_keeps _ (Part.sub (by decide) hL0) (SameBut.ite (SameBut.foldl (fun _ _ h1 => (State.cutBurst_keeps _ (Part.sub (by decide) hL0) h1)) h0) h0))))) (State.fire_keeps _ _ (Part.sub (by decide) hL0) (State.bump_keeps _ (Part.sub (by decide) hL0) (State.setAct_keeps _ (Part.sub (by decide) hL0) (SameBut.ite (SameBut.foldl (fun _ _ h2 => (State.cutBurst_keeps _ (Part.sub (by decide) hL0) h2)) h0) h0)))))) (State.silRecord_keeps _ (Part.sub (by decide) hL0) (State.go_keeps _ (Part.sub (by decide) hL0) (SameBut.ite (State.fire_keeps _ _ (Part.sub (by decide) hL0) (State.fire_keeps _ _ (Part.sub (by decide) hL0) (State.bump_keeps _ (Part.sub (by decide) hL0) (State.setAct_keeps _ (Part.sub (by decide) hL0) (SameBut.ite (SameBut.foldl (fun _ _ h3 => (State.cutBurst_keeps _ (Part.sub (by decide) hL0) h3)) h0) h0))))) (State.fire_keeps _ _ (Part.sub (by decide) hL0) (State.bump_keeps _ (Part.sub (by decide) hL0) (State.setAct_keeps _ (Part.sub (by decide) hL0) (SameBut.ite (SameBut.foldl (fun _ _ h4 => (State.cutBurst_keeps _ (Part.sub (by decide) hL0) h4)) h0) h0))))))))

theorem State.releaseNow_keeps {L : List Part} {s0 s : State} (resume : Bool)
    (hL0 : [.regs, .seam, .cmt, .tribs, .act, .upb, .restarts, .pairs, .pipes, .epochs, .shapers, .policers, .evt, .log, .tsk, .hif, .timers, .out] ⊆ L) (h0 : SameBut L s0 s) :
    SameBut L s0 (s.releaseNow resume) := by
  unfold State.releaseNow
  exact (State.fire_keeps _ _ (Part.sub (by decide) hL0) (SameBut.ite (State.go_keeps _ (Part.sub (by decide) hL0) (State.setAct_keeps _ (Part.sub (by decide) hL0) (State.silRecord_keeps _ (Part.sub (by decide) hL0) h0))) (State.go_keeps _ (Part.sub (by decide) hL0) (State.unrangeAll_keeps (Part.sub (by decide) hL0) (State.dropId_keeps (Part.sub (by decide) hL0) (State.setAct_keeps _ (Part.sub (by decide) hL0) (State.silRecord_keeps _ (Part.sub (by decide) hL0) h0)))))))

theorem State.tripGuard_keeps {L : List Part} {s0 s : State} (c : Chan) (fb : Bool)
    (hL0 : [.regs, .seam, .cmt, .tribs, .act, .upb, .restarts, .txEff, .pipes, .epochs, .shapers, .policers, .evt, .tsk, .hif, .timers, .out, .fresh] ⊆ L) (h0 : SameBut L s0 s) :
    SameBut L s0 (s.tripGuard c fb) := by
  unfold State.tripGuard
  exact (State.queueStatus_keeps _ (Part.sub (by decide) hL0) (State.fire_keeps _ _ (Part.sub (by decide) hL0) (State.bump_keeps _ (Part.sub (by decide) hL0) (State.discardGrants_keeps _ (Part.sub (by decide) hL0) (State.cutBurst_keeps _ (Part.sub (by decide) hL0) (State.setActCh_keeps _ _ (Part.sub (by decide) hL0) h0))))))

theorem State.opGuardCmd_keeps {L : List Part} {s0 s : State} (r : Req) (v : Word)
    (hL0 : [.regs, .seam, .cmt, .tribs, .act, .upb, .restarts, .txEff, .pipes, .epochs, .shapers, .policers, .evt, .tsk, .hif, .timers, .resp, .out, .fresh] ⊆ L) (h0 : SameBut L s0 s) :
    SameBut L s0 (s.opGuardCmd r v) := by
  unfold State.opGuardCmd
  exact (SameBut.ite (State.refuse_keeps _ _ (Part.sub (by decide) hL0) h0) (SameBut.foldl (fun _ _ h2 => (SameBut.ite (State.tripGuard_keeps _ _ (Part.sub (by decide) hL0) h2) h2)) (SameBut.foldl (fun _ _ h1 => (SameBut.ite (State.setActCh_keeps _ _ (Part.sub (by decide) hL0) h1) h1)) h0)))

theorem State.opLocalRel_keeps {L : List Part} {s0 s : State} (r : Req) (v : Word)
    (hL0 : [.regs, .seam, .cmt, .tribs, .act, .upb, .restarts, .pairs, .pipes, .epochs, .shapers, .policers, .evt, .log, .tsk, .hif, .timers, .resp, .out] ⊆ L) (h0 : SameBut L s0 s) :
    SameBut L s0 (s.opLocalRel r v) := by
  unfold State.opLocalRel
  exact (SameBut.ite (State.guarded_keeps _ _ _ (Part.sub (by decide) hL0) (fun _ h1 => (SameBut.ite (State.releaseNow_keeps _ (Part.sub (by decide) hL0) h1) h1)) h0) h0)

theorem State.opActCtl_keeps {L : List Part} {s0 s : State} (v : Word)
    (hL0 : [.regs, .seam, .cmt, .tribs, .act, .upb, .restarts, .pairs, .pipes, .epochs, .shapers, .policers, .evt, .tsk, .hif, .timers, .out] ⊆ L) (h0 : SameBut L s0 s) :
    SameBut L s0 (s.opActCtl v) := by
  unfold State.opActCtl
  exact (SameBut.ite (State.presenceMoved_keeps _ (Part.sub (by decide) hL0) (State.store_keeps _ _ (Part.sub (by decide) hL0) h0)) (SameBut.ite (State.actOff_keeps (Part.sub (by decide) hL0) (State.store_keeps _ _ (Part.sub (by decide) hL0) h0)) (State.store_keeps _ _ (Part.sub (by decide) hL0) h0)))

theorem State.opChanCtl_keeps {L : List Part} {s0 s : State} (v : Word)
    (hL0 : [.regs, .seam, .cmt, .tribs, .act, .upb, .restarts, .pairs, .pipes, .epochs, .shapers, .policers, .evt, .tsk, .hif, .timers, .out] ⊆ L) (h0 : SameBut L s0 s) :
    SameBut L s0 (s.opChanCtl v) := by
  unfold State.opChanCtl
  exact (State.presenceMoved_keeps _ (Part.sub (by decide) hL0) (State.store_keeps _ _ (Part.sub (by decide) hL0) h0))

theorem State.opSerial_keeps {L : List Part} {s0 s : State} (r : Req) (hi : Bool) (v : Word)
    (hL0 : [.regs, .seam, .evt, .tsk, .hif, .resp, .out] ⊆ L) (h0 : SameBut L s0 s) :
    SameBut L s0 (s.opSerial r hi v) := by
  unfold State.opSerial
  exact (SameBut.ite (State.store_keeps _ _ (Part.sub (by decide) hL0) h0) (State.refuse_keeps _ _ (Part.sub (by decide) hL0) h0))

theorem State.acted_keeps {L : List Part} {s0 s : State} (h : MsgHdr) (type : Nat)
    (hL0 : [.regs, .act] ⊆ L) (h0 : SameBut L s0 s) :
    SameBut L s0 (s.acted h type) := by
  unfold State.acted
  exact (SameBut.ite (SameBut.foldl (fun _ _ h1 => (State.wr_keeps _ _ (Part.sub (by decide) hL0) h1)) (State.setAct_keeps _ (Part.sub (by decide) hL0) (State.wr_keeps _ _ (Part.sub (by decide) hL0) (State.bump_keeps _ (Part.sub (by decide) hL0) h0)))) (State.setAct_keeps _ (Part.sub (by decide) hL0) (State.wr_keeps _ _ (Part.sub (by decide) hL0) (State.bump_keeps _ (Part.sub (by decide) hL0) h0))))

theorem State.msgErr_keeps {L : List Part} {s0 s : State} (k : Nat)
    (hL0 : [.regs, .seam, .evt, .tsk, .hif, .out] ⊆ L) (h0 : SameBut L s0 s) :
    SameBut L s0 (s.msgErr k) := by
  unfold State.msgErr
  exact (State.fire_keeps _ _ (Part.sub (by decide) hL0) (State.bump_keeps _ (Part.sub (by decide) hL0) h0))

theorem State.answer_keeps {L : List Part} {s0 s : State} (h : MsgHdr) (type : Nat) (result : Option Nat)
    (hL0 : [.regs, .seam, .act, .evt, .tsk, .hif, .out] ⊆ L) (h0 : SameBut L s0 s) :
    SameBut L s0 (s.answer h type result) := by
  unfold State.answer
  exact (SameBut.ite (SameBut.ite (State.queueStatus_keeps _ (Part.sub (by decide) hL0) h0) h0) (SameBut.ite h0 (by
    split
    · exact (State.sendAck_keeps _ _ _ (Part.sub (by decide) hL0) h0)
    · exact h0)))

theorem State.takeMsg_keeps {L : List Part} {s0 s : State} (h : MsgHdr) (type : Nat) (mine : Bool) (accepts : List TermSt) (bad : Bool) (body : List Byte) (act : State → State)
    (hL0 : [.regs, .seam, .act, .evt, .tsk, .hif, .out] ⊆ L) (hop : ∀ t, SameBut L s0 t → SameBut L s0 (act t)) (h0 : SameBut L s0 s) :
    SameBut L s0 (s.takeMsg h type mine accepts bad body act) := by
  unfold State.takeMsg
  exact (SameBut.ite h0 (by
    split
    · exact (State.answer_keeps _ _ _ (Part.sub (by decide) hL0) (State.bump_keeps _ (Part.sub (by decide) hL0) h0))
    · exact (SameBut.ite (SameBut.ite (State.bump_keeps _ (Part.sub (by decide) hL0) h0) (State.sendAck_keeps _ _ _ (Part.sub (by decide) hL0) (State.bump_keeps _ (Part.sub (by decide) hL0) h0))) (SameBut.ite (SameBut.ite (State.msgErr_keeps _ (Part.sub (by decide) hL0) h0) (State.sendAck_keeps _ _ _ (Part.sub (by decide) hL0) (State.msgErr_keeps _ (Part.sub (by decide) hL0) h0))) (State.answer_keeps _ _ _ (Part.sub (by decide) hL0) (hop _ (State.acted_keeps _ _ (Part.sub (by decide) hL0) h0)))))))

theorem State.schedule_keeps {L : List Part} {s0 s : State} (c : Chan) (kind : BurstKind) (frame : Nat) (start : Nat) (pre : Nat)
    (hL0 : [.upb] ⊆ L) (h0 : SameBut L s0 s) :
    SameBut L s0 (s.schedule c kind frame start pre) := by
  unfold State.schedule
  exact (State.setUpb_keeps _ _ (Part.sub (by decide) hL0) h0)

theorem State.setProfile_keeps {L : List Part} {s0 s : State} (c : Chan) (b : ProfileBody)
    (hL0 : [.act] ⊆ L) (h0 : SameBut L s0 s) :
    SameBut L s0 (s.setProfile c b) := by
  unfold State.setProfile
  exact (State.setActCh_keeps _ _ (Part.sub (by decide) hL0) h0)

theorem State.announce_keeps {L : List Part} {s0 s : State} (c : Chan) (frame : Nat) (start : Nat) (len : Nat) (pre : Nat) (chance : Nat) (draw : Nat) (ofs : Nat)
    (hL0 : [.regs, .seam, .cmt, .tribs, .act, .upb, .restarts, .pipes, .epochs, .shapers, .policers, .evt, .tsk, .hif, .timers, .out] ⊆ L) (h0 : SameBut L s0 s) :
    SameBut L s0 (s.announce c frame start len pre chance draw ofs) := by
  unfold State.announce
  try dsimp only
  split
  · exact (SameBut.ite (State.go_keeps _ (Part.sub (by decide) hL0) h0) h0)
  · exact (SameBut.ite (SameBut.ite (State.go_keeps _ (Part.sub (by decide) hL0) h0) h0) (State.schedule_keeps _ _ _ _ _ (Part.sub (by decide) hL0) (SameBut.ite (State.go_keeps _ (Part.sub (by decide) hL0) h0) h0)))

theorem State.takeId_keeps {L : List Part} {s0 s : State} (c : Chan) (tid : BitVec 12)
    (hL0 : [.regs, .seam, .cmt, .tribs, .act, .upb, .restarts, .pipes, .epochs, .shapers, .policers, .evt, .tsk, .hif, .timers, .out] ⊆ L) (h0 : SameBut L s0 s) :
    SameBut L s0 (s.takeId c tid) := by
  unfold State.takeId
  exact (State.fire_keeps _ _ (Part.sub (by decide) hL0) (State.go_keeps _ (Part.sub (by decide) hL0) (State.setAct_keeps _ (Part.sub (by decide) hL0) h0)))

theorem State.rangeBurst_keeps {L : List Part} {s0 s : State} (c : Chan) (frame : Nat) (start : Nat) (pre : Nat)
    (hL0 : [.upb, .timers] ⊆ L) (h0 : SameBut L s0 s) :
    SameBut L s0 (s.rangeBurst c frame start pre) := by
  unfold State.rangeBurst
  exact (SameBut.ite (State.startTimer_keeps _ (Part.sub (by decide) hL0) (State.schedule_keeps _ _ _ _ _ (Part.sub (by decide) hL0) h0)) (State.schedule_keeps _ _ _ _ _ (Part.sub (by decide) hL0) h0))

theorem State.takeDelay_keeps {L : List Part} {s0 s : State} (c : Chan) (eqd : Nat) (frame : Nat)
    (hL0 : [.regs, .seam, .cmt, .tribs, .act, .upb, .restarts, .pipes, .epochs, .shapers, .policers, .evt, .tsk, .hif, .timers, .out] ⊆ L) (h0 : SameBut L s0 s) :
    SameBut L s0 (s.takeDelay c eqd frame) := by
  unfold State.takeDelay
  try dsimp only
  split
  · exact (State.go_keeps _ (Part.sub (by decide) hL0) (State.fire_keeps _ _ (Part.sub (by decide) hL0) (SameBut.ite (State.rangeNow_keeps _ _ (Part.sub (by decide) hL0) h0) (State.setActCh_keeps _ _ (Part.sub (by decide) hL0) h0))))
  · exact (SameBut.ite (State.resume_keeps (Part.sub (by decide) hL0) (State.fire_keeps _ _ (Part.sub (by decide) hL0) (SameBut.ite (State.rangeNow_keeps _ _ (Part.sub (by decide) hL0) h0) (State.setActCh_keeps _ _ (Part.sub (by decide) hL0) h0)))) (State.fire_keeps _ _ (Part.sub (by decide) hL0) (SameBut.ite (State.rangeNow_keeps _ _ (Part.sub (by decide) hL0) h0) (State.setActCh_keeps _ _ (Part.sub (by decide) hL0) h0))))
  · exact (State.lossTimer_keeps (Part.sub (by decide) hL0) (State.fire_keeps _ _ (Part.sub (by decide) hL0) (SameBut.ite (State.rangeNow_keeps _ _ (Part.sub (by decide) hL0) h0) (State.setActCh_keeps _ _ (Part.sub (by decide) hL0) h0))))

theorem State.takeMove_keeps {L : List Part} {s0 s : State} (b : MoveBody)
    (hL0 : [.regs, .seam, .cmt, .tribs, .act, .upb, .restarts, .pipes, .epochs, .shapers, .policers, .evt, .tsk, .hif, .timers, .out] ⊆ L) (h0 : SameBut L s0 s) :
    SameBut L s0 (s.takeMove b) := by
  unfold State.takeMove
  exact (SameBut.ite (State.setAct_keeps _ (Part.sub (by decide) hL0) (State.startTimer_keeps _ (Part.sub (by decide) hL0) (SameBut.ite (State.loseRanged_keeps _ (Part.sub (by decide) hL0) (SameBut.ite h0 (State.unrange_keeps _ (Part.sub (by decide) hL0) h0))) (SameBut.ite (State.rangeNow_keeps _ _ (Part.sub (by decide) hL0) (SameBut.ite h0 (State.unrange_keeps _ (Part.sub (by decide) hL0) h0))) (SameBut.ite h0 (State.unrange_keeps _ (Part.sub (by decide) hL0) h0)))))) (SameBut.ite (State.lossTimer_keeps (Part.sub (by decide) hL0) (SameBut.ite (State.loseRanged_keeps _ (Part.sub (by decide) hL0) (SameBut.ite h0 (State.unrange_keeps _ (Part.sub (by decide) hL0) h0))) (SameBut.ite (State.rangeNow_keeps _ _ (Part.sub (by decide) hL0) (SameBut.ite h0 (State.unrange_keeps _ (Part.sub (by decide) hL0) h0))) (SameBut.ite h0 (State.unrange_keeps _ (Part.sub (by decide) hL0) h0))))) (State.enterHold_keeps _ _ (Part.sub (by decide) hL0) (SameBut.ite (State.loseRanged_keeps _ (Part.sub (by decide) hL0) (SameBut.ite h0 (State.unrange_keeps _ (Part.sub (by decide) hL0) h0))) (SameBut.ite (State.rangeNow_keeps _ _ (Part.sub (by decide) hL0) (SameBut.ite h0 (State.unrange_keeps _ (Part.sub (by decide) hL0) h0))) (SameBut.ite h0 (State.unrange_keeps _ (Part.sub (by decide) hL0) h0)))))))

theorem State.switchKey_keeps {L : List Part} {s0 s : State} (h : MsgHdr) (frame : Nat)
    (hL0 : [.regs, .seam, .cmt, .tribs, .pairs, .pipes, .epochs, .shapers, .policers, .evt, .tsk, .hif, .timers, .out] ⊆ L) (h0 : SameBut L s0 s) :
    SameBut L s0 (s.switchKey h frame) := by
  unfold State.switchKey
  exact (State.orderRoll_keeps _ _ (Part.sub (by decide) hL0) h0)

theorem execProfile_keeps (h : MsgHdr) (b : ProfileBody) (s : State) :
    ResKeeps [.regs, .seam, .act, .evt, .tsk, .hif, .out] s (execProfile h b s) := by
  have hL0 := List.Subset.refl ([.regs, .seam, .act, .evt, .tsk, .hif, .out] : List Part)
  have h0 := SameBut.refl [.regs, .seam, .act, .evt, .tsk, .hif, .out] s
  unfold execProfile
  exact (ResKeeps.next (State.takeMsg_keeps _ _ _ _ _ _ _ (Part.sub (by decide) hL0) (fun _ h1 => (State.setProfile_keeps _ _ (Part.sub (by decide) hL0) h1)) h0))

theorem execAnnounceWindow_keeps (h : MsgHdr) (frame : BitVec 48) (start : BitVec 16) (len : BitVec 16) (pre : BitVec 24) (chance : BitVec 8) (draw : BitVec 8) (ofs : Nat) (s : State) :
    ResKeeps [.regs, .seam, .cmt, .tribs, .act, .upb, .restarts, .pipes, .epochs, .shapers, .policers, .evt, .tsk, .hif, .timers, .out] s (execAnnounceWindow h frame start len pre chance draw ofs s) := by
  have hL0 := List.Subset.refl ([.regs, .seam, .cmt, .tribs, .act, .upb, .restarts, .pipes, .epochs, .shapers, .policers, .evt, .tsk, .hif, .timers, .out] : List Part)
  have h0 := SameBut.refl [.regs, .seam, .cmt, .tribs, .act, .upb, .restarts, .pipes, .epochs, .shapers, .policers, .evt, .tsk, .hif, .timers, .out] s
  unfold execAnnounceWindow
  exact (ResKeeps.next (State.takeMsg_keeps _ _ _ _ _ _ _ (Part.sub (by decide) hL0) (fun _ h1 => (State.announce_keeps _ _ _ _ _ _ _ _ (Part.sub (by decide) hL0) h1)) h0))

theorem execAssignId_keeps (h : MsgHdr) (serial : BitVec 64) (tid : BitVec 12) (s : State) :
    ResKeeps [.regs, .seam, .cmt, .tribs, .act, .upb, .restarts, .pipes, .epochs, .shapers, .policers, .evt, .tsk, .hif, .timers, .out] s (execAssignId h serial tid s) := by
  have hL0 := List.Subset.refl ([.regs, .seam, .cmt, .tribs, .act, .upb, .restarts, .pipes, .epochs, .shapers, .policers, .evt, .tsk, .hif, .timers, .out] : List Part)
  have h0 := SameBut.refl [.regs, .seam, .cmt, .tribs, .act, .upb, .restarts, .pipes, .epochs, .shapers, .policers, .evt, .tsk, .hif, .timers, .out] s
  unfold execAssignId
  exact (ResKeeps.next (State.takeMsg_keeps _ _ _ _ _ _ _ (Part.sub (by decide) hL0) (fun _ h1 => (State.takeId_keeps _ _ (Part.sub (by decide) hL0) h1)) h0))

theorem execRangingGrant_keeps (h : MsgHdr) (frame : BitVec 48) (start : BitVec 16) (pre : BitVec 24) (s : State) :
    ResKeeps [.regs, .seam, .act, .upb, .evt, .tsk, .hif, .timers, .out] s (execRangingGrant h frame start pre s) := by
  have hL0 := List.Subset.refl ([.regs, .seam, .act, .upb, .evt, .tsk, .hif, .timers, .out] : List Part)
  have h0 := SameBut.refl [.regs, .seam, .act, .upb, .evt, .tsk, .hif, .timers, .out] s
  unfold execRangingGrant
  exact (ResKeeps.next (State.takeMsg_keeps _ _ _ _ _ _ _ (Part.sub (by decide) hL0) (fun _ h1 => (State.rangeBurst_keeps _ _ _ _ (Part.sub (by decide) hL0) h1)) h0))

theorem execSetDelay_keeps (h : MsgHdr) (eqd : BitVec 24) (frame : BitVec 48) (s : State) :
    ResKeeps [.regs, .seam, .cmt, .tribs, .act, .upb, .restarts, .pipes, .epochs, .shapers, .policers, .evt, .tsk, .hif, .timers, .out] s (execSetDelay h eqd frame s) := by
  have hL0 := List.Subset.refl ([.regs, .seam, .cmt, .tribs, .act, .upb, .restarts, .pipes, .epochs, .shapers, .policers, .evt, .tsk, .hif, .timers, .out] : List Part)
  have h0 := SameBut.refl [.regs, .seam, .cmt, .tribs, .act, .upb, .restarts, .pipes, .epochs, .shapers, .policers, .evt, .tsk, .hif, .timers, .out] s
  unfold execSetDelay
  exact (ResKeeps.next (State.takeMsg_keeps _ _ _ _ _ _ _ (Part.sub (by decide) hL0) (fun _ h1 => (State.takeDelay_keeps _ _ _ (Part.sub (by decide) hL0) h1)) h0))

theorem execGrant_keeps (h : MsgHdr) (es : List GrantEntry) (s : State) :
    ResKeeps [.regs, .seam, .act, .upb, .evt, .tsk, .hif, .out] s (execGrant h es s) := by
  have hL0 := List.Subset.refl ([.regs, .seam, .act, .upb, .evt, .tsk, .hif, .out] : List Part)
  have h0 := SameBut.refl [.regs, .seam, .act, .upb, .evt, .tsk, .hif, .out] s
  unfold execGrant
  exact (ResKeeps.ite ResKeeps.fault (ResKeeps.next (State.takeMsg_keeps _ _ _ _ _ _ _ (Part.sub (by decide) hL0) (fun _ h1 => (SameBut.foldl (fun _ _ h2 => (State.insertEntry_keeps _ _ (Part.sub (by decide) hL0) h2)) h1)) h0)))

theorem execMove_keeps (h : MsgHdr) (b : MoveBody) (s : State) :
    ResKeeps [.regs, .seam, .cmt, .tribs, .act, .upb, .restarts, .pipes, .epochs, .shapers, .policers, .evt, .tsk, .hif, .timers, .out] s (execMove h b s) := by
  have hL0 := List.Subset.refl ([.regs, .seam, .cmt, .tribs, .act, .upb, .restarts, .pipes, .epochs, .shapers, .policers, .evt, .tsk, .hif, .timers, .out] : List Part)
  have h0 := SameBut.refl [.regs, .seam, .cmt, .tribs, .act, .upb, .restarts, .pipes, .epochs, .shapers, .policers, .evt, .tsk, .hif, .timers, .out] s
  unfold execMove
  exact (ResKeeps.next (State.takeMsg_keeps _ _ _ _ _ _ _ (Part.sub (by decide) hL0) (fun _ h1 => (State.takeMove_keeps _ (Part.sub (by decide) hL0) h1)) h0))

theorem execDeactivate_keeps (h : MsgHdr) (s : State) :
    ResKeeps [.regs, .seam, .cmt, .tribs, .act, .upb, .restarts, .pairs, .pipes, .epochs, .shapers, .policers, .evt, .tsk, .hif, .timers, .out] s (execDeactivate h s) := by
  have hL0 := List.Subset.refl ([.regs, .seam, .cmt, .tribs, .act, .upb, .restarts, .pairs, .pipes, .epochs, .shapers, .policers, .evt, .tsk, .hif, .timers, .out] : List Part)
  have h0 := SameBut.refl [.regs, .seam, .cmt, .tribs, .act, .upb, .restarts, .pairs, .pipes, .epochs, .shapers, .policers, .evt, .tsk, .hif, .timers, .out] s
  unfold execDeactivate
  exact (ResKeeps.next (State.takeMsg_keeps _ _ _ _ _ _ _ (Part.sub (by decide) hL0) (fun _ h1 => (State.fire_keeps _ _ (Part.sub (by decide) hL0) (State.go_keeps _ (Part.sub (by decide) hL0) (State.unrangeAll_keeps (Part.sub (by decide) hL0) (State.dropId_keeps (Part.sub (by decide) hL0) h1))))) h0))

theorem execSilence_keeps (h : MsgHdr) (b : SilBody) (s : State) :
    ResKeeps [.regs, .seam, .cmt, .tribs, .act, .upb, .restarts, .txEff, .pipes, .epochs, .shapers, .policers, .evt, .log, .tsk, .hif, .timers, .out, .fresh] s (execSilence h b s) := by
  have hL0 := List.Subset.refl ([.regs, .seam, .cmt, .tribs, .act, .upb, .restarts, .txEff, .pipes, .epochs, .shapers, .policers, .evt, .log, .tsk, .hif, .timers, .out, .fresh] : List Part)
  have h0 := SameBut.refl [.regs, .seam, .cmt, .tribs, .act, .upb, .restarts, .txEff, .pipes, .epochs, .shapers, .policers, .evt, .log, .tsk, .hif, .timers, .out, .fresh] s
  unfold execSilence
  exact (ResKeeps.next (State.takeMsg_keeps _ _ _ _ _ _ _ (Part.sub (by decide) hL0) (fun _ h1 => (SameBut.ite h1 (State.silenceNow_keeps _ _ (Part.sub (by decide) hL0) h1))) h0))

theorem execEmergencyStop_keeps (h : MsgHdr) (b : SilBody) (s : State) :
    ResKeeps [.regs, .seam, .cmt, .tribs, .act, .upb, .restarts, .txEff, .pipes, .epochs, .shapers, .policers, .evt, .log, .tsk, .hif, .timers, .out, .fresh] s (execEmergencyStop h b s) := by
  have hL0 := List.Subset.refl ([.regs, .seam, .cmt, .tribs, .act, .upb, .restarts, .txEff, .pipes, .epochs, .shapers, .policers, .evt, .log, .tsk, .hif, .timers, .out, .fresh] : List Part)
  have h0 := SameBut.refl [.regs, .seam, .cmt, .tribs, .act, .upb, .restarts, .txEff, .pipes, .epochs, .shapers, .policers, .evt, .log, .tsk, .hif, .timers, .out, .fresh] s
  unfold execEmergencyStop
  exact (ResKeeps.next (State.takeMsg_keeps _ _ _ _ _ _ _ (Part.sub (by decide) hL0) (fun _ h1 => (State.silenceNow_keeps _ _ (Part.sub (by decide) hL0) h1)) h0))

theorem execRelease_keeps (h : MsgHdr) (b : SilBody) (s : State) :
    ResKeeps [.regs, .seam, .cmt, .tribs, .act, .upb, .restarts, .pairs, .pipes, .epochs, .shapers, .policers, .evt, .log, .tsk, .hif, .timers, .out] s (execRelease h b s) := by
  have hL0 := List.Subset.refl ([.regs, .seam, .cmt, .tribs, .act, .upb, .restarts, .pairs, .pipes, .epochs, .shapers, .policers, .evt, .log, .tsk, .hif, .timers, .out] : List Part)
  have h0 := SameBut.refl [.regs, .seam, .cmt, .tribs, .act, .upb, .restarts, .pairs, .pipes, .epochs, .shapers, .policers, .evt, .log, .tsk, .hif, .timers, .out] s
  unfold execRelease
  exact (ResKeeps.next (State.takeMsg_keeps _ _ _ _ _ _ _ (Part.sub (by decide) hL0) (fun _ h1 => (State.releaseNow_keeps _ (Part.sub (by decide) hL0) h1)) h0))

theorem execTimeOfDay_keeps (h : MsgHdr) (frame : BitVec 48) (sec : BitVec 48) (ns : BitVec 32) (s : State) :
    ResKeeps [.regs, .seam, .act, .tim, .evt, .tsk, .hif, .timers, .out, .fresh] s (execTimeOfDay h frame sec ns s) := by
  have hL0 := List.Subset.refl ([.regs, .seam, .act, .tim, .evt, .tsk, .hif, .timers, .out, .fresh] : List Part)
  have h0 := SameBut.refl [.regs, .seam, .act, .tim, .evt, .tsk, .hif, .timers, .out, .fresh] s
  unfold execTimeOfDay
  exact (ResKeeps.next (State.takeMsg_keeps _ _ _ _ _ _ _ (Part.sub (by decide) hL0) (fun _ h1 => (State.todSample_keeps _ _ _ _ _ (Part.sub (by decide) hL0) h1)) h0))

theorem execKeyBlob_keeps (h : MsgHdr) (bytes : List Byte) (s : State) :
    ResKeeps [.regs, .seam, .act, .key, .evt, .tsk, .hif, .timers, .out] s (execKeyBlob h bytes s) := by
  have hL0 := List.Subset.refl ([.regs, .seam, .act, .key, .evt, .tsk, .hif, .timers, .out] : List Part)
  have h0 := SameBut.refl [.regs, .seam, .act, .key, .evt, .tsk, .hif, .timers, .out] s
  unfold execKeyBlob
  exact (ResKeeps.ite ResKeeps.fault (ResKeeps.next (State.takeMsg_keeps _ _ _ _ _ _ _ (Part.sub (by decide) hL0) (fun _ h1 => (State.queueJob_keeps _ (Part.sub (by decide) hL0) h1)) h0)))

theorem execKeySwitch_keeps (h : MsgHdr) (frame : BitVec 48) (s : State) :
    ResKeeps [.regs, .seam, .cmt, .tribs, .act, .pairs, .pipes, .epochs, .shapers, .policers, .evt, .tsk, .hif, .timers, .out] s (execKeySwitch h frame s) := by
  have hL0 := List.Subset.refl ([.regs, .seam, .cmt, .tribs, .act, .pairs, .pipes, .epochs, .shapers, .policers, .evt, .tsk, .hif, .timers, .out] : List Part)
  have h0 := SameBut.refl [.regs, .seam, .cmt, .tribs, .act, .pairs, .pipes, .epochs, .shapers, .policers, .evt, .tsk, .hif, .timers, .out] s
  unfold execKeySwitch
  exact (ResKeeps.ite (ResKeeps.next (State.sendAck_keeps _ _ _ (Part.sub (by decide) hL0) h0)) (ResKeeps.next (State.takeMsg_keeps _ _ _ _ _ _ _ (Part.sub (by decide) hL0) (fun _ h1 => (State.switchKey_keeps _ _ (Part.sub (by decide) hL0) h1)) h0)))

theorem execStatusReq_keeps (h : MsgHdr) (s : State) :
    ResKeeps [.regs, .seam, .act, .evt, .tsk, .hif, .out] s (execStatusReq h s) := by
  have hL0 := List.Subset.refl ([.regs, .seam, .act, .evt, .tsk, .hif, .out] : List Part)
  have h0 := SameBut.refl [.regs, .seam, .act, .evt, .tsk, .hif, .out] s
  unfold execStatusReq
  exact (ResKeeps.next (State.takeMsg_keeps _ _ _ _ _ _ _ (Part.sub (by decide) hL0) (fun _ h1 => h1) h0))

theorem execControlMessageReject_keeps (h : MsgHdr) (type : BitVec 8) (crcFail : Bool) (s : State) :
    ResKeeps [.regs, .seam, .act, .evt, .tsk, .hif, .out] s (execControlMessageReject h type crcFail s) := by
  have hL0 := List.Subset.refl ([.regs, .seam, .act, .evt, .tsk, .hif, .out] : List Part)
  have h0 := SameBut.refl [.regs, .seam, .act, .evt, .tsk, .hif, .out] s
  unfold execControlMessageReject
  exact (ResKeeps.next (SameBut.ite h0 (SameBut.ite (State.msgErr_keeps _ (Part.sub (by decide) hL0) h0) (SameBut.ite h0 (SameBut.ite h0 (State.sendAck_keeps _ _ _ (Part.sub (by decide) hL0) (State.msgErr_keeps _ (Part.sub (by decide) hL0) h0)))))))

theorem execAnnounceTimeout_keeps (s : State) :
    ResKeeps [.regs, .seam, .cmt, .tribs, .act, .upb, .restarts, .pipes, .epochs, .shapers, .policers, .evt, .tsk, .hif, .timers, .out] s (execAnnounceTimeout s) := by
  have hL0 := List.Subset.refl ([.regs, .seam, .cmt, .tribs, .act, .upb, .restarts, .pipes, .epochs, .shapers, .policers, .evt, .tsk, .hif, .timers, .out] : List Part)
  have h0 := SameBut.refl [.regs, .seam, .cmt, .tribs, .act, .upb, .restarts, .pipes, .epochs, .shapers, .policers, .evt, .tsk, .hif, .timers, .out] s
  unfold execAnnounceTimeout
  exact (ResKeeps.next (SameBut.ite (State.fire_keeps _ _ (Part.sub (by decide) hL0) (State.bump_keeps _ (Part.sub (by decide) hL0) (State.go_keeps _ (Part.sub (by decide) hL0) h0))) h0))

theorem execRangingTimeout_keeps (s : State) :
    ResKeeps [.regs, .seam, .cmt, .tribs, .act, .upb, .restarts, .pairs, .pipes, .epochs, .shapers, .policers, .evt, .tsk, .hif, .timers, .out] s (execRangingTimeout s) := by
  have hL0 := List.Subset.refl ([.regs, .seam, .cmt, .tribs, .act, .upb, .restarts, .pairs, .pipes, .epochs, .shapers, .policers, .evt, .tsk, .hif, .timers, .out] : List Part)
  have h0 := SameBut.refl [.regs, .seam, .cmt, .tribs, .act, .upb, .restarts, .pairs, .pipes, .epochs, .shapers, .policers, .evt, .tsk, .hif, .timers, .out] s
  unfold execRangingTimeout
  exact (ResKeeps.next (SameBut.ite (State.fire_keeps _ _ (Part.sub (by decide) hL0) (State.go_keeps _ (Part.sub (by decide) hL0) (State.dropId_keeps (Part.sub (by decide) hL0) h0))) h0))

theorem execLossTimeout_keeps (s : State) :
    ResKeeps [.regs, .seam, .cmt, .tribs, .act, .upb, .restarts, .pipes, .epochs, .shapers, .policers, .evt, .tsk, .hif, .timers, .out] s (execLossTimeout s) := by
  have hL0 := List.Subset.refl ([.regs, .seam, .cmt, .tribs, .act, .upb, .restarts, .pipes, .epochs, .shapers, .policers, .evt, .tsk, .hif, .timers, .out] : List Part)
  have h0 := SameBut.refl [.regs, .seam, .cmt, .tribs, .act, .upb, .restarts, .pipes, .epochs, .shapers, .policers, .evt, .tsk, .hif, .timers, .out] s
  unfold execLossTimeout
  exact (ResKeeps.next (SameBut.ite (State.enterHold_keeps _ _ (Part.sub (by decide) hL0) (State.loseAll_keeps (Part.sub (by decide) hL0) h0)) h0))

theorem execHoldTimeout_keeps (s : State) :
    ResKeeps [.regs, .seam, .cmt, .tribs, .act, .upb, .restarts, .pairs, .pipes, .epochs, .shapers, .policers, .evt, .tsk, .hif, .timers, .out] s (execHoldTimeout s) := by
  have hL0 := List.Subset.refl ([.regs, .seam, .cmt, .tribs, .act, .upb, .restarts, .pairs, .pipes, .epochs, .shapers, .policers, .evt, .tsk, .hif, .timers, .out] : List Part)
  have h0 := SameBut.refl [.regs, .seam, .cmt, .tribs, .act, .upb, .restarts, .pairs, .pipes, .epochs, .shapers, .policers, .evt, .tsk, .hif, .timers, .out] s
  unfold execHoldTimeout
  exact (ResKeeps.next (SameBut.ite (State.fire_keeps _ _ (Part.sub (by decide) hL0) (State.go_keeps _ (Part.sub (by decide) hL0) (State.unrangeAll_keeps (Part.sub (by decide) hL0) (State.dropId_keeps (Part.sub (by decide) hL0) h0)))) h0))

theorem execActDisable_keeps (r : Req) (v : Word) (s : State) :
    ResKeeps [.regs, .seam, .cmt, .tribs, .act, .upb, .restarts, .pairs, .pipes, .epochs, .shapers, .policers, .evt, .tsk, .hif, .timers, .resp, .out] s (execActDisable r v s) := by
  have hL0 := List.Subset.refl ([.regs, .seam, .cmt, .tribs, .act, .upb, .restarts, .pairs, .pipes, .epochs, .shapers, .policers, .evt, .tsk, .hif, .timers, .resp, .out] : List Part)
  have h0 := SameBut.refl [.regs, .seam, .cmt, .tribs, .act, .upb, .restarts, .pairs, .pipes, .epochs, .shapers, .policers, .evt, .tsk, .hif, .timers, .resp, .out] s
  unfold execActDisable
  exact (ResKeeps.next (State.access_keeps _ _ _ _ (Part.sub (by decide) hL0) (fun _ h1 => (State.opActCtl_keeps _ (Part.sub (by decide) hL0) h1)) h0))

theorem execSerialWrite_keeps (r : Req) (hi : Bool) (v : Word) (s : State) :
    ResKeeps [.regs, .seam, .evt, .tsk, .hif, .resp, .out] s (execSerialWrite r hi v s) := by
  have hL0 := List.Subset.refl ([.regs, .seam, .evt, .tsk, .hif, .resp, .out] : List Part)
  have h0 := SameBut.refl [.regs, .seam, .evt, .tsk, .hif, .resp, .out] s
  unfold execSerialWrite
  exact (ResKeeps.next (State.access_keeps _ _ _ _ (Part.sub (by decide) hL0) (fun _ h1 => (State.opSerial_keeps _ _ _ (Part.sub (by decide) hL0) h1)) h0))

theorem execLocalRel_keeps (r : Req) (v : Word) (s : State) :
    ResKeeps [.regs, .seam, .cmt, .tribs, .act, .upb, .restarts, .pairs, .pipes, .epochs, .shapers, .policers, .evt, .log, .tsk, .hif, .timers, .resp, .out] s (execLocalRel r v s) := by
  have hL0 := List.Subset.refl ([.regs, .seam, .cmt, .tribs, .act, .upb, .restarts, .pairs, .pipes, .epochs, .shapers, .policers, .evt, .log, .tsk, .hif, .timers, .resp, .out] : List Part)
  have h0 := SameBut.refl [.regs, .seam, .cmt, .tribs, .act, .upb, .restarts, .pairs, .pipes, .epochs, .shapers, .policers, .evt, .log, .tsk, .hif, .timers, .resp, .out] s
  unfold execLocalRel
  exact (ResKeeps.next (State.access_keeps _ _ _ _ (Part.sub (by decide) hL0) (fun _ h1 => (State.opLocalRel_keeps _ _ (Part.sub (by decide) hL0) h1)) h0))

theorem execGuardTrip_keeps (c : Chan) (s : State) :
    ResKeeps [.regs, .seam, .cmt, .tribs, .act, .upb, .restarts, .txEff, .pipes, .epochs, .shapers, .policers, .evt, .tsk, .hif, .timers, .out, .fresh] s (execGuardTrip c s) := by
  have hL0 := List.Subset.refl ([.regs, .seam, .cmt, .tribs, .act, .upb, .restarts, .txEff, .pipes, .epochs, .shapers, .policers, .evt, .tsk, .hif, .timers, .out, .fresh] : List Part)
  have h0 := SameBut.refl [.regs, .seam, .cmt, .tribs, .act, .upb, .restarts, .txEff, .pipes, .epochs, .shapers, .policers, .evt, .tsk, .hif, .timers, .out, .fresh] s
  unfold execGuardTrip
  exact (ResKeeps.next (State.tripGuard_keeps _ _ (Part.sub (by decide) hL0) h0))

theorem execGuardFbTrip_keeps (c : Chan) (s : State) :
    ResKeeps [.regs, .seam, .cmt, .tribs, .act, .upb, .restarts, .txEff, .pipes, .epochs, .shapers, .policers, .evt, .tsk, .hif, .timers, .out, .fresh] s (execGuardFbTrip c s) := by
  have hL0 := List.Subset.refl ([.regs, .seam, .cmt, .tribs, .act, .upb, .restarts, .txEff, .pipes, .epochs, .shapers, .policers, .evt, .tsk, .hif, .timers, .out, .fresh] : List Part)
  have h0 := SameBut.refl [.regs, .seam, .cmt, .tribs, .act, .upb, .restarts, .txEff, .pipes, .epochs, .shapers, .policers, .evt, .tsk, .hif, .timers, .out, .fresh] s
  unfold execGuardFbTrip
  exact (ResKeeps.next (State.tripGuard_keeps _ _ (Part.sub (by decide) hL0) h0))

theorem execGuardClr_keeps (r : Req) (v : Word) (s : State) :
    ResKeeps [.regs, .seam, .cmt, .tribs, .act, .upb, .restarts, .txEff, .pipes, .epochs, .shapers, .policers, .evt, .tsk, .hif, .timers, .resp, .out, .fresh] s (execGuardClr r v s) := by
  have hL0 := List.Subset.refl ([.regs, .seam, .cmt, .tribs, .act, .upb, .restarts, .txEff, .pipes, .epochs, .shapers, .policers, .evt, .tsk, .hif, .timers, .resp, .out, .fresh] : List Part)
  have h0 := SameBut.refl [.regs, .seam, .cmt, .tribs, .act, .upb, .restarts, .txEff, .pipes, .epochs, .shapers, .policers, .evt, .tsk, .hif, .timers, .resp, .out, .fresh] s
  unfold execGuardClr
  exact (ResKeeps.next (State.access_keeps _ _ _ _ (Part.sub (by decide) hL0) (fun _ h1 => (State.opGuardCmd_keeps _ _ (Part.sub (by decide) hL0) h1)) h0))

theorem execGuardTest_keeps (r : Req) (v : Word) (s : State) :
    ResKeeps [.regs, .seam, .cmt, .tribs, .act, .upb, .restarts, .txEff, .pipes, .epochs, .shapers, .policers, .evt, .tsk, .hif, .timers, .resp, .out, .fresh] s (execGuardTest r v s) := by
  have hL0 := List.Subset.refl ([.regs, .seam, .cmt, .tribs, .act, .upb, .restarts, .txEff, .pipes, .epochs, .shapers, .policers, .evt, .tsk, .hif, .timers, .resp, .out, .fresh] : List Part)
  have h0 := SameBut.refl [.regs, .seam, .cmt, .tribs, .act, .upb, .restarts, .txEff, .pipes, .epochs, .shapers, .policers, .evt, .tsk, .hif, .timers, .resp, .out, .fresh] s
  unfold execGuardTest
  exact (ResKeeps.next (State.access_keeps _ _ _ _ (Part.sub (by decide) hL0) (fun _ h1 => (State.opGuardCmd_keeps _ _ (Part.sub (by decide) hL0) h1)) h0))

end Sys2Proof.Machine
end

