-- ==== Sys2Proof/Laws/Deframer.lean ====
section
/-! SUPPORT. Which parts of the state each operation of Machine/Deframer.lean can change. -/

namespace Sys2Proof.Machine

open Sys2Proof

set_option linter.unusedTactic false
set_option linter.unreachableTactic false
set_option linter.unusedVariables false

theorem State.setRx_keeps {L : List Part} {s0 s : State} (c : Chan) (x : Rx)
    (hL0 : [.rx] ⊆ L) (h0 : SameBut L s0 s) :
    SameBut L s0 (s.setRx c x) := by
  unfold State.setRx
  exact (SameBut.upd_rx (Part.sub (by decide) hL0) h0)

theorem State.trimsIn_keeps {L : List Part} {s0 s : State} (c : Chan)
    (hL0 : [.rx] ⊆ L) (h0 : SameBut L s0 s) :
    SameBut L s0 (s.trimsIn c) := by
  unfold State.trimsIn
  split
  · exact (State.setRx_keeps _ _ (Part.sub (by decide) hL0) h0)
  · exact h0

theorem State.enterTrack_keeps {L : List Part} {s0 s : State} (c : Chan)
    (hL0 : [.regs, .rx] ⊆ L) (h0 : SameBut L s0 s) :
    SameBut L s0 (s.enterTrack c) := by
  unfold State.enterTrack
  exact (State.setFld_keeps _ _ (Part.sub (by decide) hL0) (State.setRx_keeps _ _ (Part.sub (by decide) hL0) h0))

theorem State.setDsf_keeps {L : List Part} {s0 s : State} (c : Chan) (x : Dsf)
    (hL0 : [.dsf] ⊆ L) (h0 : SameBut L s0 s) :
    SameBut L s0 (s.setDsf c x) := by
  unfold State.setDsf
  exact (SameBut.upd_dsf (Part.sub (by decide) hL0) h0)

theorem State.dsfEvent_keeps {L : List Part} {s0 s : State} (c : Chan) (b : Nat)
    (hL0 : [.regs, .seam, .evt, .tsk, .hif, .out] ⊆ L) (h0 : SameBut L s0 s) :
    SameBut L s0 (s.dsfEvent c b) := by
  unfold State.dsfEvent
  exact (State.fire_keeps _ _ (Part.sub (by decide) hL0) (State.setFld_keeps _ _ (Part.sub (by decide) hL0) h0))

theorem State.dsfMove_keeps {L : List Part} {s0 s : State} (c : Chan) (x : Dsf)
    (hL0 : [.regs, .seam, .cmt, .dsf, .tribs, .act, .upb, .restarts, .pairs, .pipes, .epochs, .shapers, .policers, .evt, .tsk, .hif, .timers, .out] ⊆ L) (h0 : SameBut L s0 s) :
    SameBut L s0 (s.dsfMove c x) := by
  unfold State.dsfMove
  exact (SameBut.ite (State.tribFrameLost_keeps _ (Part.sub (by decide) hL0) (SameBut.ite (State.rollsFail_keeps _ (Part.sub (by decide) hL0) (State.withPresence_keeps _ (Part.sub (by decide) hL0) (fun _ h1 => (State.setDsf_keeps _ _ (Part.sub (by decide) hL0) h1)) h0)) (State.withPresence_keeps _ (Part.sub (by decide) hL0) (fun _ h2 => (State.setDsf_keeps _ _ (Part.sub (by decide) hL0) h2)) h0))) (SameBut.ite (State.rollsFail_keeps _ (Part.sub (by decide) hL0) (State.withPresence_keeps _ (Part.sub (by decide) hL0) (fun _ h3 => (State.setDsf_keeps _ _ (Part.sub (by decide) hL0) h3)) h0)) (State.withPresence_keeps _ (Part.sub (by decide) hL0) (fun _ h4 => (State.setDsf_keeps _ _ (Part.sub (by decide) hL0) h4)) h0)))

theorem State.mapLost_keeps {L : List Part} {s0 s : State} (c : Chan)
    (hL0 : [.regs, .rx, .dsf] ⊆ L) (h0 : SameBut L s0 s) :
    SameBut L s0 (s.mapLost c) := by
  unfold State.mapLost
  exact (SameBut.ite (State.enterTrack_keeps _ (Part.sub (by decide) hL0) (State.bumpBy_keeps _ _ (Part.sub (by decide) hL0) (State.setDsf_keeps _ _ (Part.sub (by decide) hL0) h0))) (State.setDsf_keeps _ _ (Part.sub (by decide) hL0) h0))

theorem State.countDropped_keeps {L : List Part} {s0 s : State} (c : Chan) (n : Nat)
    (hL0 : [.regs] ⊆ L) (h0 : SameBut L s0 s) :
    SameBut L s0 (s.countDropped c n) := by
  unfold State.countDropped
  exact (State.bumpBy_keeps _ _ (Part.sub (by decide) hL0) h0)

theorem State.lossOfFrame_keeps {L : List Part} {s0 s : State} (c : Chan)
    (hL0 : [.regs, .seam, .cmt, .rx, .dsf, .tribs, .act, .upb, .restarts, .pairs, .pipes, .epochs, .shapers, .policers, .evt, .tsk, .hif, .timers, .out] ⊆ L) (h0 : SameBut L s0 s) :
    SameBut L s0 (s.lossOfFrame c) := by
  unfold State.lossOfFrame
  exact (State.fire_keeps _ _ (Part.sub (by decide) hL0) (State.stopTimer_keeps _ (Part.sub (by decide) hL0) (State.dsfMove_keeps _ _ (Part.sub (by decide) hL0) (State.bump_keeps _ (Part.sub (by decide) hL0) (State.mapLost_keeps _ (Part.sub (by decide) hL0) h0)))))

theorem State.dsfOn_keeps {L : List Part} {s0 s : State} (c : Chan)
    (hL0 : [.regs, .seam, .cmt, .rx, .dsf, .tribs, .act, .upb, .restarts, .pairs, .pipes, .epochs, .shapers, .policers, .evt, .tsk, .hif, .timers, .out] ⊆ L) (h0 : SameBut L s0 s) :
    SameBut L s0 (s.dsfOn c) := by
  unfold State.dsfOn
  exact (SameBut.ite (State.dsfMove_keeps _ _ (Part.sub (by decide) hL0) (State.mapLost_keeps _ (Part.sub (by decide) hL0) h0)) h0)

theorem State.dsfOff_keeps {L : List Part} {s0 s : State} (c : Chan)
    (hL0 : [.regs, .seam, .cmt, .rx, .dsf, .tribs, .act, .upb, .restarts, .pairs, .pipes, .epochs, .shapers, .policers, .evt, .tsk, .hif, .timers, .out] ⊆ L) (h0 : SameBut L s0 s) :
    SameBut L s0 (s.dsfOff c) := by
  unfold State.dsfOff
  exact (State.rollsFail_keeps _ (Part.sub (by decide) hL0) (SameBut.ite h0 (State.stopTimer_keeps _ (Part.sub (by decide) hL0) (State.countDropped_keeps _ _ (Part.sub (by decide) hL0) (State.dsfMove_keeps _ _ (Part.sub (by decide) hL0) (State.mapLost_keeps _ (Part.sub (by decide) hL0) h0))))))

theorem State.dsfHold_keeps {L : List Part} {s0 s : State} (c : Chan)
    (hL0 : [.regs, .seam, .cmt, .rx, .dsf, .tribs, .act, .upb, .restarts, .pairs, .pipes, .epochs, .shapers, .policers, .evt, .tsk, .hif, .timers, .out] ⊆ L) (h0 : SameBut L s0 s) :
    SameBut L s0 (s.dsfHold c) := by
  unfold State.dsfHold
  exact (SameBut.ite (State.startTimer_keeps _ (Part.sub (by decide) hL0) (State.mapLost_keeps _ (Part.sub (by decide) hL0) (State.dsfMove_keeps _ _ (Part.sub (by decide) hL0) h0))) h0)

theorem State.dsfLight_keeps {L : List Part} {s0 s : State} (c : Chan)
    (hL0 : [.regs, .seam, .cmt, .dsf, .tribs, .act, .upb, .restarts, .pairs, .pipes, .epochs, .shapers, .policers, .evt, .tsk, .hif, .timers, .out] ⊆ L) (h0 : SameBut L s0 s) :
    SameBut L s0 (s.dsfLight c) := by
  unfold State.dsfLight
  exact (SameBut.ite (State.stopTimer_keeps _ (Part.sub (by decide) hL0) (State.dsfMove_keeps _ _ (Part.sub (by decide) hL0) h0)) h0)

theorem State.countCw_keeps {L : List Part} {s0 s : State} (c : Chan) (w : CwResult)
    (hL0 : [.regs, .seam, .dsf, .evt, .tsk, .hif, .out] ⊆ L) (h0 : SameBut L s0 s) :
    SameBut L s0 (s.countCw c w) := by
  unfold State.countCw
  exact (SameBut.ite (State.dsfEvent_keeps _ _ (Part.sub (by decide) hL0) (State.bump_keeps _ (Part.sub (by decide) hL0) (State.bump64_keeps _ _ _ (Part.sub (by decide) hL0) (State.setDsf_keeps _ _ (Part.sub (by decide) hL0) h0)))) (State.setDsf_keeps _ _ (Part.sub (by decide) hL0) (State.bump64_keeps _ _ _ (Part.sub (by decide) hL0) (State.bump64_keeps _ _ _ (Part.sub (by decide) hL0) (SameBut.ite (State.bump64_keeps _ _ _ (Part.sub (by decide) hL0) (State.setDsf_keeps _ _ (Part.sub (by decide) hL0) h0)) (State.bump_keeps _ (Part.sub (by decide) hL0) (State.bump64_keeps _ _ _ (Part.sub (by decide) hL0) (State.setDsf_keeps _ _ (Part.sub (by decide) hL0) h0))))))))

theorem State.countCws_keeps {L : List Part} {s0 s : State} (c : Chan) (ws : List CwResult)
    (hL0 : [.regs, .seam, .dsf, .evt, .tsk, .hif, .out] ⊆ L) (h0 : SameBut L s0 s) :
    SameBut L s0 (s.countCws c ws) := by
  unfold State.countCws
  exact (SameBut.foldl (fun _ _ h1 => (State.countCw_keeps _ _ (Part.sub (by decide) hL0) h1)) h0)

theorem State.chanCheck_keeps {L : List Part} {s0 s : State} (c : Chan) (ws : List CwResult) (h : FrameHdr)
    (hL0 : [.regs, .seam, .evt, .tsk, .hif, .out] ⊆ L) (h0 : SameBut L s0 s) :
    SameBut L s0 (s.chanCheck c ws h) := by
  unfold State.chanCheck
  exact (SameBut.ite (State.dsfEvent_keeps _ _ (Part.sub (by decide) hL0) h0) h0)

theorem State.acceptFc_keeps {L : List Part} {s0 s : State} (c : Chan) (f : Nat)
    (hL0 : [.regs, .seam, .dsf, .pairs, .evt, .tsk, .hif, .out] ⊆ L) (h0 : SameBut L s0 s) :
    SameBut L s0 (s.acceptFc c f) := by
  unfold State.acceptFc
  try dsimp only
  split
  · exact (State.setDsf_keeps _ _ (Part.sub (by decide) hL0) h0)
  · exact (SameBut.ite (State.spendChannel_keeps _ _ (Part.sub (by decide) hL0) (State.dsfEvent_keeps _ _ (Part.sub (by decide) hL0) (State.bump_keeps _ (Part.sub (by decide) hL0) (SameBut.ite (State.dsfEvent_keeps _ _ (Part.sub (by decide) hL0) (State.bump_keeps _ (Part.sub (by decide) hL0) (State.setDsf_keeps _ _ (Part.sub (by decide) hL0) h0))) (State.setDsf_keeps _ _ (Part.sub (by decide) hL0) h0))))) (SameBut.ite (State.dsfEvent_keeps _ _ (Part.sub (by decide) hL0) (State.bump_keeps _ (Part.sub (by decide) hL0) (State.setDsf_keeps _ _ (Part.sub (by decide) hL0) h0))) (State.setDsf_keeps _ _ (Part.sub (by decide) hL0) h0)))

theorem State.mfHeader_keeps {L : List Part} {s0 s : State} (c : Chan) (m : Nat)
    (hL0 : [.regs, .seam, .rx, .dsf, .evt, .tsk, .hif, .out] ⊆ L) (h0 : SameBut L s0 s) :
    SameBut L s0 (s.mfHeader c m) := by
  unfold State.mfHeader
  exact (SameBut.ite (SameBut.ite h0 (State.setDsf_keeps _ _ (Part.sub (by decide) hL0) h0)) (SameBut.ite (State.mapLost_keeps _ (Part.sub (by decide) hL0) (State.dsfEvent_keeps _ _ (Part.sub (by decide) hL0) (State.setDsf_keeps _ _ (Part.sub (by decide) hL0) h0))) (State.setDsf_keeps _ _ (Part.sub (by decide) hL0) h0)))

theorem State.pslHeader_keeps {L : List Part} {s0 s : State} (c : Chan) (v : Nat)
    (hL0 : [.regs, .seam, .dsf, .tribs, .evt, .tsk, .hif, .out] ⊆ L) (h0 : SameBut L s0 s) :
    SameBut L s0 (s.pslHeader c v) := by
  unfold State.pslHeader
  exact (SameBut.ite (State.setDsf_keeps _ _ (Part.sub (by decide) hL0) h0) (SameBut.ite (State.tribAis_keeps _ _ (Part.sub (by decide) hL0) (State.setDsf_keeps _ _ (Part.sub (by decide) hL0) (State.setDsf_keeps _ _ (Part.sub (by decide) hL0) h0))) (SameBut.ite (State.tribAis_keeps _ _ (Part.sub (by decide) hL0) (State.dsfEvent_keeps _ _ (Part.sub (by decide) hL0) (State.setDsf_keeps _ _ (Part.sub (by decide) hL0) (State.setDsf_keeps _ _ (Part.sub (by decide) hL0) h0)))) (SameBut.ite (State.tribAis_keeps _ _ (Part.sub (by decide) hL0) (State.setDsf_keeps _ _ (Part.sub (by decide) hL0) (State.setDsf_keeps _ _ (Part.sub (by decide) hL0) h0))) (State.tribAis_keeps _ _ (Part.sub (by decide) hL0) (State.dsfEvent_keeps _ _ (Part.sub (by decide) hL0) (State.setDsf_keeps _ _ (Part.sub (by decide) hL0) (State.setDsf_keeps _ _ (Part.sub (by decide) hL0) h0))))))))

theorem State.mapSection_keeps {L : List Part} {s0 s : State} (c : Chan) (h : FrameHdr)
    (hL0 : [.dsf] ⊆ L) (h0 : SameBut L s0 s) :
    SameBut L s0 (s.mapSection c h) := by
  unfold State.mapSection
  exact (SameBut.ite h0 (State.setDsf_keeps _ _ (Part.sub (by decide) hL0) h0))

theorem State.headHeader_keeps {L : List Part} {s0 s : State} (c : Chan) (v : Nat)
    (hL0 : [.regs, .seam, .cmt, .dsf, .tribs, .act, .upb, .restarts, .pipes, .epochs, .shapers, .policers, .evt, .tsk, .hif, .timers, .out] ⊆ L) (h0 : SameBut L s0 s) :
    SameBut L s0 (s.headHeader c v) := by
  unfold State.headHeader
  try dsimp only
  split
  · exact (SameBut.ite h0 (State.headChange_keeps _ (Part.sub (by decide) hL0) (State.dsfEvent_keeps _ _ (Part.sub (by decide) hL0) (State.setDsf_keeps _ _ (Part.sub (by decide) hL0) h0))))
  · exact (State.setDsf_keeps _ _ (Part.sub (by decide) hL0) h0)

theorem State.seenHeader_keeps {L : List Part} {s0 s : State} (c : Chan) (h : FrameHdr)
    (hL0 : [.regs, .seam, .dsf, .tribs, .evt, .tsk, .hif, .out] ⊆ L) (h0 : SameBut L s0 s) :
    SameBut L s0 (s.seenHeader c h) := by
  unfold State.seenHeader
  exact (State.pslHeader_keeps _ _ (Part.sub (by decide) hL0) (State.setDsf_keeps _ _ (Part.sub (by decide) hL0) h0))

theorem State.goodHeader_keeps {L : List Part} {s0 s : State} (c : Chan) (h : FrameHdr)
    (hL0 : [.regs, .seam, .cmt, .rx, .dsf, .tribs, .act, .upb, .restarts, .pairs, .pipes, .epochs, .shapers, .policers, .evt, .tsk, .hif, .timers, .out] ⊆ L) (h0 : SameBut L s0 s) :
    SameBut L s0 (s.goodHeader c h) := by
  unfold State.goodHeader
  exact (State.headHeader_keeps _ _ (Part.sub (by decide) hL0) (State.mapSection_keeps _ _ (Part.sub (by decide) hL0) (State.seenHeader_keeps _ _ (Part.sub (by decide) hL0) (State.mfHeader_keeps _ _ (Part.sub (by decide) hL0) (State.acceptFc_keeps _ _ (Part.sub (by decide) hL0) h0)))))

theorem State.newCandidate_keeps {L : List Part} {s0 s : State} (c : Chan) (pos : Nat) (diff : Nat)
    (hL0 : [.dsf] ⊆ L) (h0 : SameBut L s0 s) :
    SameBut L s0 (s.newCandidate c pos diff) := by
  unfold State.newCandidate
  exact (SameBut.ite (State.setDsf_keeps _ _ (Part.sub (by decide) hL0) h0) h0)

theorem State.dropCandidate_keeps {L : List Part} {s0 s : State} (c : Chan) (pos : Nat)
    (hL0 : [.regs, .seam, .cmt, .dsf, .tribs, .act, .upb, .restarts, .pairs, .pipes, .epochs, .shapers, .policers, .evt, .tsk, .hif, .timers, .out] ⊆ L) (h0 : SameBut L s0 s) :
    SameBut L s0 (s.dropCandidate c pos) := by
  unfold State.dropCandidate
  exact (State.countDropped_keeps _ _ (Part.sub (by decide) hL0) (State.dsfMove_keeps _ _ (Part.sub (by decide) hL0) h0))

theorem State.candHeader_keeps {L : List Part} {s0 s : State} (c : Chan) (ws : List CwResult) (h : FrameHdr)
    (hL0 : [.regs, .seam, .cmt, .rx, .dsf, .tribs, .act, .upb, .restarts, .pairs, .pipes, .epochs, .shapers, .policers, .evt, .tsk, .hif, .timers, .out] ⊆ L) (h0 : SameBut L s0 s) :
    SameBut L s0 (s.candHeader c ws h) := by
  unfold State.candHeader
  try dsimp only
  split
  · exact h0
  · exact (SameBut.ite (State.dropCandidate_keeps _ _ (Part.sub (by decide) hL0) (State.chanCheck_keeps _ _ _ (Part.sub (by decide) hL0) (State.countCws_keeps _ _ (Part.sub (by decide) hL0) h0))) (SameBut.ite (State.dropCandidate_keeps _ _ (Part.sub (by decide) hL0) (State.seenHeader_keeps _ _ (Part.sub (by decide) hL0) (State.chanCheck_keeps _ _ _ (Part.sub (by decide) hL0) (State.countCws_keeps _ _ (Part.sub (by decide) hL0) h0)))) (SameBut.ite (State.goodHeader_keeps _ _ (Part.sub (by decide) hL0) (State.dsfEvent_keeps _ _ (Part.sub (by decide) hL0) (State.countDropped_keeps _ _ (Part.sub (by decide) hL0) (State.dsfMove_keeps _ _ (Part.sub (by decide) hL0) (State.chanCheck_keeps _ _ _ (Part.sub (by decide) hL0) (State.countCws_keeps _ _ (Part.sub (by decide) hL0) h0)))))) (State.seenHeader_keeps _ _ (Part.sub (by decide) hL0) (State.dsfMove_keeps _ _ (Part.sub (by decide) hL0) (State.chanCheck_keeps _ _ _ (Part.sub (by decide) hL0) (State.countCws_keeps _ _ (Part.sub (by decide) hL0) h0)))))))

theorem State.groupLost_keeps {L : List Part} {s0 s : State} (ok : Bool) (deliver : Bool)
    (hL0 : [.regs] ⊆ L) (h0 : SameBut L s0 s) :
    SameBut L s0 (s.groupLost ok deliver) := by
  unfold State.groupLost
  exact (SameBut.ite h0 (State.bump_keeps _ (Part.sub (by decide) hL0) h0))

theorem State.badHeader_keeps {L : List Part} {s0 s : State} (c : Chan) (x : Dsf) (ok : Bool)
    (hL0 : [.regs, .seam, .cmt, .rx, .dsf, .tribs, .act, .upb, .restarts, .pairs, .pipes, .epochs, .shapers, .policers, .evt, .tsk, .hif, .timers, .out] ⊆ L) (h0 : SameBut L s0 s) :
    SameBut L s0 (s.badHeader c x ok) := by
  unfold State.badHeader
  exact (SameBut.ite (State.lossOfFrame_keeps _ (Part.sub (by decide) hL0) (State.setDsf_keeps _ _ (Part.sub (by decide) hL0) (State.bump_keeps _ (Part.sub (by decide) hL0) h0))) (State.groupLost_keeps _ _ (Part.sub (by decide) hL0) (State.setDsf_keeps _ _ (Part.sub (by decide) hL0) (State.bump_keeps _ (Part.sub (by decide) hL0) h0))))

theorem State.alignedHeader_keeps {L : List Part} {s0 s : State} (c : Chan) (ws : List CwResult) (h : FrameHdr)
    (hL0 : [.regs, .seam, .cmt, .rx, .dsf, .tribs, .act, .upb, .restarts, .pairs, .pipes, .epochs, .shapers, .policers, .evt, .tsk, .hif, .timers, .out] ⊆ L) (h0 : SameBut L s0 s) :
    SameBut L s0 (s.alignedHeader c ws h) := by
  unfold State.alignedHeader
  exact (SameBut.ite (State.goodHeader_keeps _ _ (Part.sub (by decide) hL0) (State.setDsf_keeps _ _ (Part.sub (by decide) hL0) h0)) (State.badHeader_keeps _ _ _ (Part.sub (by decide) hL0) h0))

theorem State.verifyHeader_keeps {L : List Part} {s0 s : State} (c : Chan) (ws : List CwResult) (h : FrameHdr)
    (hL0 : [.regs, .seam, .cmt, .rx, .dsf, .tribs, .act, .upb, .restarts, .pairs, .pipes, .epochs, .shapers, .policers, .evt, .tsk, .hif, .timers, .out] ⊆ L) (h0 : SameBut L s0 s) :
    SameBut L s0 (s.verifyHeader c ws h) := by
  unfold State.verifyHeader
  exact (SameBut.ite (SameBut.ite (State.goodHeader_keeps _ _ (Part.sub (by decide) hL0) (State.dsfMove_keeps _ _ (Part.sub (by decide) hL0) h0)) (State.badHeader_keeps _ _ _ (Part.sub (by decide) hL0) h0)) (SameBut.ite h0 (SameBut.ite (State.goodHeader_keeps _ _ (Part.sub (by decide) hL0) (State.bump_keeps _ (Part.sub (by decide) hL0) (State.dsfMove_keeps _ _ (Part.sub (by decide) hL0) h0))) (State.seenHeader_keeps _ _ (Part.sub (by decide) hL0) h0))))

theorem State.laterGroup_keeps {L : List Part} {s0 s : State} (c : Chan) (g : GroupIn)
    (hL0 : [.regs, .dsf] ⊆ L) (h0 : SameBut L s0 s) :
    SameBut L s0 (s.laterGroup c g) := by
  unfold State.laterGroup
  exact (State.groupLost_keeps _ _ (Part.sub (by decide) hL0) (State.setDsf_keeps _ _ (Part.sub (by decide) hL0) h0))

theorem State.keepStream_keeps {L : List Part} {s0 s : State} (c : Chan) (g : GroupIn)
    (hL0 : [.dsf] ⊆ L) (h0 : SameBut L s0 s) :
    SameBut L s0 (s.keepStream c g) := by
  unfold State.keepStream
  try dsimp only
  split
  · exact (State.setDsf_keeps _ _ (Part.sub (by decide) hL0) h0)
  · exact (State.setDsf_keeps _ _ (Part.sub (by decide) hL0) h0)

theorem State.groupDecode_keeps {L : List Part} {s0 s : State} (c : Chan) (g : GroupIn)
    (hL0 : [.regs, .seam, .cmt, .rx, .dsf, .tribs, .act, .upb, .restarts, .pairs, .pipes, .epochs, .shapers, .policers, .evt, .tsk, .hif, .timers, .out] ⊆ L) (h0 : SameBut L s0 s) :
    SameBut L s0 (s.groupDecode c g) := by
  unfold State.groupDecode
  exact (SameBut.ite h0 (by
    split
    · exact (State.keepStream_keeps _ _ (Part.sub (by decide) hL0) (State.candHeader_keeps _ _ _ (Part.sub (by decide) hL0) h0))
    · exact (State.keepStream_keeps _ _ (Part.sub (by decide) hL0) (State.candHeader_keeps _ _ _ (Part.sub (by decide) hL0) h0))
    · exact (State.keepStream_keeps _ _ (Part.sub (by decide) hL0) (State.alignedHeader_keeps _ _ _ (Part.sub (by decide) hL0) (State.chanCheck_keeps _ _ _ (Part.sub (by decide) hL0) (State.countCws_keeps _ _ (Part.sub (by decide) hL0) h0))))
    · exact (State.keepStream_keeps _ _ (Part.sub (by decide) hL0) (State.verifyHeader_keeps _ _ _ (Part.sub (by decide) hL0) (State.chanCheck_keeps _ _ _ (Part.sub (by decide) hL0) (State.countCws_keeps _ _ (Part.sub (by decide) hL0) h0))))
    · exact h0
    · exact h0
    · exact (State.countCws_keeps _ _ (Part.sub (by decide) hL0) h0)
    · exact h0
    · exact (State.keepStream_keeps _ _ (Part.sub (by decide) hL0) (State.laterGroup_keeps _ _ (Part.sub (by decide) hL0) (State.countCws_keeps _ _ (Part.sub (by decide) hL0) h0)))))

theorem State.decodeLine_keeps {L : List Part} {s0 s : State} (c : Chan) (g : GroupRaw)
    (hL0 : [.regs, .seam, .cmt, .rx, .dsf, .tribs, .act, .upb, .restarts, .pairs, .pipes, .epochs, .shapers, .policers, .evt, .tsk, .hif, .timers, .out] ⊆ L) (h0 : SameBut L s0 s) :
    SameBut L s0 (s.decodeLine c g) := by
  unfold State.decodeLine
  exact (State.groupDecode_keeps _ _ (Part.sub (by decide) hL0) (State.trimsIn_keeps _ (Part.sub (by decide) hL0) h0))

theorem State.extendHold_keeps {L : List Part} {s0 s : State} (c : Chan)
    (hL0 : [.rx] ⊆ L) (h0 : SameBut L s0 s) :
    SameBut L s0 (s.extendHold c) := by
  unfold State.extendHold
  exact (SameBut.ite (State.setRx_keeps _ _ (Part.sub (by decide) hL0) h0) h0)

theorem State.multiframeStart_keeps {L : List Part} {s0 s : State} (c : Chan)
    (hL0 : [.regs, .seam, .rx, .dsf, .evt, .tsk, .hif, .out] ⊆ L) (h0 : SameBut L s0 s) :
    SameBut L s0 (s.multiframeStart c) := by
  unfold State.multiframeStart
  exact (SameBut.ite h0 (SameBut.ite (State.setDsf_keeps _ _ (Part.sub (by decide) hL0) h0) (by
    split
    · exact (State.extendHold_keeps _ (Part.sub (by decide) hL0) (State.setDsf_keeps _ _ (Part.sub (by decide) hL0) h0))
    · exact (SameBut.ite (State.bump_keeps _ (Part.sub (by decide) hL0) (State.mapLost_keeps _ (Part.sub (by decide) hL0) (State.setDsf_keeps _ _ (Part.sub (by decide) hL0) h0))) (State.dsfEvent_keeps _ _ (Part.sub (by decide) hL0) (State.bump_keeps _ (Part.sub (by decide) hL0) (State.mapLost_keeps _ (Part.sub (by decide) hL0) (State.setDsf_keeps _ _ (Part.sub (by decide) hL0) h0))))))))

theorem State.berRatio_keeps {L : List Part} {s0 s : State} (num : Nat) (den : Nat)
    (hL0 : [.fresh] ⊆ L) (h0 : SameBut L s0 s) :
    PairKeeps L s0 (s.berRatio num den) := by
  unfold State.berRatio
  split
  · exact (PairKeeps.mk h0)
  · exact (PairKeeps.mk (PairKeeps.snd (State.freeVal_keeps (Part.sub (by decide) hL0) h0)))

theorem State.berSecond_keeps {L : List Part} {s0 s : State} (c : Chan)
    (hL0 : [.regs, .seam, .dsf, .evt, .tsk, .hif, .out, .fresh] ⊆ L) (h0 : SameBut L s0 s) :
    SameBut L s0 (s.berSecond c) := by
  unfold State.berSecond
  exact (SameBut.ite (State.dsfEvent_keeps _ _ (Part.sub (by decide) hL0) (State.setDsf_keeps _ _ (Part.sub (by decide) hL0) (State.wr_keeps _ _ (Part.sub (by decide) hL0) (PairKeeps.snd (State.berRatio_keeps _ _ (Part.sub (by decide) hL0) (State.setDsf_keeps _ _ (Part.sub (by decide) hL0) h0)))))) (State.setDsf_keeps _ _ (Part.sub (by decide) hL0) (State.wr_keeps _ _ (Part.sub (by decide) hL0) (PairKeeps.snd (State.berRatio_keeps _ _ (Part.sub (by decide) hL0) (State.setDsf_keeps _ _ (Part.sub (by decide) hL0) h0))))))

theorem State.setReasm_keeps {L : List Part} {s0 s : State} (c : Chan) (m : SMap Reasm)
    (hL0 : [.dsf] ⊆ L) (h0 : SameBut L s0 s) :
    SameBut L s0 (s.setReasm c m) := by
  unfold State.setReasm
  exact (State.setDsf_keeps _ _ (Part.sub (by decide) hL0) h0)

theorem State.joinFragment_keeps {L : List Part} {s0 s : State} (c : Chan) (tid : Nat) (sop : Bool) (eop : Bool) (data : List Byte) (stamp : Nat)
    (hL0 : [.cmt, .nextPkt, .dsf, .pipes] ⊆ L) (h0 : SameBut L s0 s) :
    SameBut L s0 (s.joinFragment c tid sop eop data stamp) := by
  unfold State.joinFragment
  exact (SameBut.ite (State.setReasm_keeps _ _ (Part.sub (by decide) hL0) h0) (SameBut.ite (State.setReasm_keeps _ _ (Part.sub (by decide) hL0) h0) (State.enterPath_keeps _ (Part.sub (by decide) hL0) (State.setReasm_keeps _ _ (Part.sub (by decide) hL0) h0))))

theorem State.spoilPacket_keeps {L : List Part} {s0 s : State} (c : Chan) (tid : Nat) (eop : Bool)
    (hL0 : [.dsf] ⊆ L) (h0 : SameBut L s0 s) :
    SameBut L s0 (s.spoilPacket c tid eop) := by
  unfold State.spoilPacket
  exact (State.setReasm_keeps _ _ (Part.sub (by decide) hL0) h0)

theorem State.packetFragment_keeps {L : List Part} {s0 s : State} (c : Chan) (h : BitVec 64) (f : FragIn)
    (hL0 : [.regs, .seam, .cmt, .nextPkt, .dsf, .pairs, .pipes, .evt, .tsk, .hif, .out] ⊆ L) (h0 : SameBut L s0 s) :
    SameBut L s0 (s.packetFragment c h f) := by
  unfold State.packetFragment
  try dsimp only
  split
  · rename_i heq; have h1 := PairKeeps.pair heq (State.decrypt_keeps _ _ _ _ _ (Part.sub (by decide) hL0) h0)
    exact (State.joinFragment_keeps _ _ _ _ _ _ (Part.sub (by decide) hL0) h1)
  · rename_i heq; have h2 := PairKeeps.pair heq (State.decrypt_keeps _ _ _ _ _ (Part.sub (by decide) hL0) h0)
    exact (State.spoilPacket_keeps _ _ _ (Part.sub (by decide) hL0) h2)

theorem State.takeFragment_keeps {L : List Part} {s0 s : State} (c : Chan) (h : BitVec 64) (f : FragIn)
    (hL0 : [.regs, .seam, .cmt, .nextPkt, .dsf, .tfrags, .pairs, .pipes, .evt, .tsk, .hif, .out] ⊆ L) (h0 : SameBut L s0 s) :
    SameBut L s0 (s.takeFragment c h f) := by
  unfold State.takeFragment
  exact (SameBut.ite (State.bump_keeps _ (Part.sub (by decide) hL0) h0) (by
    split
    · exact (SameBut.ite (State.packetFragment_keeps _ _ _ (Part.sub (by decide) hL0) h0) (SameBut.ite (State.bump_keeps _ (Part.sub (by decide) hL0) h0) (State.setFrags_keeps _ _ (Part.sub (by decide) hL0) h0)))
    · exact (SameBut.ite (SameBut.ite (State.packetFragment_keeps _ _ _ (Part.sub (by decide) hL0) h0) (SameBut.ite (State.bump_keeps _ (Part.sub (by decide) hL0) h0) (State.setFrags_keeps _ _ (Part.sub (by decide) hL0) h0))) (SameBut.ite (State.bump_keeps _ (Part.sub (by decide) hL0) h0) (SameBut.ite h0 (SameBut.ite (State.bump_keeps _ (Part.sub (by decide) hL0) h0) (SameBut.ite (State.packetFragment_keeps _ _ _ (Part.sub (by decide) hL0) h0) (SameBut.ite (State.bump_keeps _ (Part.sub (by decide) hL0) h0) (State.setFrags_keeps _ _ (Part.sub (by decide) hL0) h0)))))))))

theorem State.dropRest_keeps {L : List Part} {s0 s : State} (c : Chan) (k : Nat)
    (hL0 : [.regs, .dsf] ⊆ L) (h0 : SameBut L s0 s) :
    SameBut L s0 (s.dropRest c k) := by
  unfold State.dropRest
  exact (State.bump_keeps _ (Part.sub (by decide) hL0) (State.setDsf_keeps _ _ (Part.sub (by decide) hL0) h0))

theorem State.fragmentReceive_keeps {L : List Part} {s0 s : State} (c : Chan) (stamp : Nat)
    (hL0 : [.regs, .seam, .cmt, .nextPkt, .dsf, .tribs, .tfrags, .pairs, .pipes, .epochs, .shapers, .policers, .evt, .tsk, .hif, .timers, .out] ⊆ L) (h0 : SameBut L s0 s) :
    SameBut L s0 (s.fragmentReceive c stamp) := by
  unfold State.fragmentReceive
  exact (SameBut.ite h0 (SameBut.ite (State.dropRest_keeps _ _ (Part.sub (by decide) hL0) h0) (SameBut.ite (State.dropRest_keeps _ _ (Part.sub (by decide) hL0) h0) (SameBut.ite (State.takeFragment_keeps _ _ _ (Part.sub (by decide) hL0) (SameBut.ite (State.rollDown_keeps _ _ (Part.sub (by decide) hL0) (State.setDsf_keeps _ _ (Part.sub (by decide) hL0) h0)) (State.setDsf_keeps _ _ (Part.sub (by decide) hL0) h0))) (SameBut.ite (State.rollDown_keeps _ _ (Part.sub (by decide) hL0) (State.setDsf_keeps _ _ (Part.sub (by decide) hL0) h0)) (State.setDsf_keeps _ _ (Part.sub (by decide) hL0) h0))))))

theorem State.latchFc_keeps {L : List Part} {s0 s : State} (c : Chan)
    (hL0 : [.regs] ⊆ L) (h0 : SameBut L s0 s) :
    SameBut L s0 (s.latchFc c) := by
  unfold State.latchFc
  exact (State.setFld_keeps _ _ (Part.sub (by decide) hL0) h0)

theorem State.opChCmd_keeps {L : List Part} {s0 s : State} (c : Chan) (v : Word)
    (hL0 : [.regs, .seam, .dsf, .pairs, .evt, .tsk, .hif, .out] ⊆ L) (h0 : SameBut L s0 s) :
    SameBut L s0 (s.opChCmd c v) := by
  unfold State.opChCmd
  exact (SameBut.ite (State.spendChannel_keeps _ _ (Part.sub (by decide) hL0) (State.setDsf_keeps _ _ (Part.sub (by decide) hL0) h0)) h0)

theorem execSyncCandidate_keeps (c : Chan) (pos : Nat) (window : BitVec 64) (s : State) :
    ResKeeps [.dsf] s (execSyncCandidate c pos window s) := by
  have hL0 := List.Subset.refl ([.dsf] : List Part)
  have h0 := SameBut.refl [.dsf] s
  unfold execSyncCandidate
  exact (ResKeeps.ite ResKeeps.fault (ResKeeps.next (State.newCandidate_keeps _ _ _ (Part.sub (by decide) hL0) h0)))

theorem execGroupDecode_keeps (c : Chan) (g : GroupRaw) (s : State) :
    ResKeeps [.regs, .seam, .cmt, .rx, .dsf, .tribs, .act, .upb, .restarts, .pairs, .pipes, .epochs, .shapers, .policers, .evt, .tsk, .hif, .timers, .out] s (execGroupDecode c g s) := by
  have hL0 := List.Subset.refl ([.regs, .seam, .cmt, .rx, .dsf, .tribs, .act, .upb, .restarts, .pairs, .pipes, .epochs, .shapers, .policers, .evt, .tsk, .hif, .timers, .out] : List Part)
  have h0 := SameBut.refl [.regs, .seam, .cmt, .rx, .dsf, .tribs, .act, .upb, .restarts, .pairs, .pipes, .epochs, .shapers, .policers, .evt, .tsk, .hif, .timers, .out] s
  unfold execGroupDecode
  exact (ResKeeps.ite ResKeeps.fault (ResKeeps.next (State.decodeLine_keeps _ _ (Part.sub (by decide) hL0) h0)))

theorem execPlannedCoast_keeps (c : Chan) (s : State) :
    ResKeeps [.regs, .seam, .cmt, .dsf, .tribs, .act, .upb, .restarts, .pairs, .pipes, .epochs, .shapers, .policers, .evt, .tsk, .hif, .timers, .out] s (execPlannedCoast c s) := by
  have hL0 := List.Subset.refl ([.regs, .seam, .cmt, .dsf, .tribs, .act, .upb, .restarts, .pairs, .pipes, .epochs, .shapers, .policers, .evt, .tsk, .hif, .timers, .out] : List Part)
  have h0 := SameBut.refl [.regs, .seam, .cmt, .dsf, .tribs, .act, .upb, .restarts, .pairs, .pipes, .epochs, .shapers, .policers, .evt, .tsk, .hif, .timers, .out] s
  unfold execPlannedCoast
  exact (ResKeeps.next (SameBut.ite (State.dsfMove_keeps _ _ (Part.sub (by decide) hL0) h0) h0))

theorem execCoastEnd_keeps (c : Chan) (g : Fin 250) (s : State) :
    ResKeeps [.regs, .seam, .cmt, .dsf, .tribs, .act, .upb, .restarts, .pairs, .pipes, .epochs, .shapers, .policers, .evt, .tsk, .hif, .timers, .out] s (execCoastEnd c g s) := by
  have hL0 := List.Subset.refl ([.regs, .seam, .cmt, .dsf, .tribs, .act, .upb, .restarts, .pairs, .pipes, .epochs, .shapers, .policers, .evt, .tsk, .hif, .timers, .out] : List Part)
  have h0 := SameBut.refl [.regs, .seam, .cmt, .dsf, .tribs, .act, .upb, .restarts, .pairs, .pipes, .epochs, .shapers, .policers, .evt, .tsk, .hif, .timers, .out] s
  unfold execCoastEnd
  exact (ResKeeps.next (SameBut.ite (SameBut.ite (State.dsfMove_keeps _ _ (Part.sub (by decide) hL0) h0) (State.dsfMove_keeps _ _ (Part.sub (by decide) hL0) h0)) h0))

theorem execCoastLimit_keeps (c : Chan) (s : State) :
    ResKeeps [.regs, .seam, .cmt, .rx, .dsf, .tribs, .act, .upb, .restarts, .pairs, .pipes, .epochs, .shapers, .policers, .evt, .tsk, .hif, .timers, .out] s (execCoastLimit c s) := by
  have hL0 := List.Subset.refl ([.regs, .seam, .cmt, .rx, .dsf, .tribs, .act, .upb, .restarts, .pairs, .pipes, .epochs, .shapers, .policers, .evt, .tsk, .hif, .timers, .out] : List Part)
  have h0 := SameBut.refl [.regs, .seam, .cmt, .rx, .dsf, .tribs, .act, .upb, .restarts, .pairs, .pipes, .epochs, .shapers, .policers, .evt, .tsk, .hif, .timers, .out] s
  unfold execCoastLimit
  exact (ResKeeps.next (SameBut.ite (State.lossOfFrame_keeps _ (Part.sub (by decide) hL0) (State.dsfEvent_keeps _ _ (Part.sub (by decide) hL0) h0)) h0))

theorem execCoastFrameAdvance_keeps (c : Chan) (s : State) :
    ResKeeps [.dsf] s (execCoastFrameAdvance c s) := by
  have hL0 := List.Subset.refl ([.dsf] : List Part)
  have h0 := SameBut.refl [.dsf] s
  unfold execCoastFrameAdvance
  exact (ResKeeps.next (SameBut.ite (State.setDsf_keeps _ _ (Part.sub (by decide) hL0) h0) h0))

theorem execMultiframeStart_keeps (c : Chan) (s : State) :
    ResKeeps [.regs, .seam, .rx, .dsf, .evt, .tsk, .hif, .out] s (execMultiframeStart c s) := by
  have hL0 := List.Subset.refl ([.regs, .seam, .rx, .dsf, .evt, .tsk, .hif, .out] : List Part)
  have h0 := SameBut.refl [.regs, .seam, .rx, .dsf, .evt, .tsk, .hif, .out] s
  unfold execMultiframeStart
  exact (ResKeeps.next (State.multiframeStart_keeps _ (Part.sub (by decide) hL0) h0))

theorem execBerSecond_keeps (c : Chan) (s : State) :
    ResKeeps [.regs, .seam, .dsf, .evt, .tsk, .hif, .out, .fresh] s (execBerSecond c s) := by
  have hL0 := List.Subset.refl ([.regs, .seam, .dsf, .evt, .tsk, .hif, .out, .fresh] : List Part)
  have h0 := SameBut.refl [.regs, .seam, .dsf, .evt, .tsk, .hif, .out, .fresh] s
  unfold execBerSecond
  exact (ResKeeps.next (State.berSecond_keeps _ (Part.sub (by decide) hL0) h0))

theorem execFragmentReceive_keeps (c : Chan) (stamp : Nat) (s : State) :
    ResKeeps [.regs, .seam, .cmt, .nextPkt, .dsf, .tribs, .tfrags, .pairs, .pipes, .epochs, .shapers, .policers, .evt, .tsk, .hif, .timers, .out] s (execFragmentReceive c stamp s) := by
  have hL0 := List.Subset.refl ([.regs, .seam, .cmt, .nextPkt, .dsf, .tribs, .tfrags, .pairs, .pipes, .epochs, .shapers, .policers, .evt, .tsk, .hif, .timers, .out] : List Part)
  have h0 := SameBut.refl [.regs, .seam, .cmt, .nextPkt, .dsf, .tribs, .tfrags, .pairs, .pipes, .epochs, .shapers, .policers, .evt, .tsk, .hif, .timers, .out] s
  unfold execFragmentReceive
  exact (ResKeeps.next (State.fragmentReceive_keeps _ _ (Part.sub (by decide) hL0) h0))

theorem execFcForget_keeps (r : Req) (c : Chan) (s : State) :
    ResKeeps [.regs, .seam, .dsf, .pairs, .evt, .tsk, .hif, .resp, .out] s (execFcForget r c s) := by
  have hL0 := List.Subset.refl ([.regs, .seam, .dsf, .pairs, .evt, .tsk, .hif, .resp, .out] : List Part)
  have h0 := SameBut.refl [.regs, .seam, .dsf, .pairs, .evt, .tsk, .hif, .resp, .out] s
  unfold execFcForget
  exact (ResKeeps.next (State.access_keeps _ _ _ _ (Part.sub (by decide) hL0) (fun _ h1 => (State.opChCmd_keeps _ _ (Part.sub (by decide) hL0) h1)) h0))

theorem execFcReadLatch_keeps (r : Req) (c : Chan) (s : State) :
    ResKeeps [.regs, .seam, .evt, .tsk, .hif, .resp, .out] s (execFcReadLatch r c s) := by
  have hL0 := List.Subset.refl ([.regs, .seam, .evt, .tsk, .hif, .resp, .out] : List Part)
  have h0 := SameBut.refl [.regs, .seam, .evt, .tsk, .hif, .resp, .out] s
  unfold execFcReadLatch
  exact (ResKeeps.next (State.readAccess_keeps _ _ _ _ _ (Part.sub (by decide) hL0) (fun _ h1 => (State.latchFc_keeps _ (Part.sub (by decide) hL0) h1)) h0))

end Sys2Proof.Machine
end

