-- ==== Sys2Proof/Laws/Receiver.lean ====
section
/-! SUPPORT. Which parts of the state each operation of Machine/Receiver.lean can change. -/

namespace Sys2Proof.Machine

open Sys2Proof

set_option linter.unusedTactic false
set_option linter.unreachableTactic false
set_option linter.unusedVariables false

theorem State.countGated_keeps {L : List Part} {s0 s : State} (c : Chan)
    (hL0 : [.regs] ⊆ L) (h0 : SameBut L s0 s) :
    SameBut L s0 (s.countGated c) := by
  unfold State.countGated
  exact (SameBut.ite (State.bumpBy_keeps _ _ (Part.sub (by decide) hL0) h0) (SameBut.ite (State.bumpBy_keeps _ _ (Part.sub (by decide) hL0) h0) h0))

theorem State.rxOff_keeps {L : List Part} {s0 s : State} (c : Chan)
    (hL0 : [.regs, .seam, .cmt, .rx, .dsf, .tribs, .act, .upb, .restarts, .txEff, .pairs, .pipes, .epochs, .shapers, .policers, .evt, .tsk, .hif, .timers, .out, .fresh] ⊆ L) (h0 : SameBut L s0 s) :
    SameBut L s0 (s.rxOff c) := by
  unfold State.rxOff
  exact (SameBut.ite h0 (State.discardGrants_keeps _ (Part.sub (by decide) hL0) (State.cutBurst_keeps _ (Part.sub (by decide) hL0) (State.dsfOff_keeps _ (Part.sub (by decide) hL0) (State.setRx_keeps _ _ (Part.sub (by decide) hL0) (State.countGated_keeps _ (Part.sub (by decide) hL0) h0))))))

theorem State.rxOn_keeps {L : List Part} {s0 s : State} (c : Chan)
    (hL0 : [.regs, .seam, .cmt, .rx, .dsf, .tribs, .act, .upb, .restarts, .pairs, .pipes, .epochs, .shapers, .policers, .evt, .tsk, .hif, .timers, .out] ⊆ L) (h0 : SameBut L s0 s) :
    SameBut L s0 (s.rxOn c) := by
  unfold State.rxOn
  exact (SameBut.ite h0 (State.discardGrants_keeps _ (Part.sub (by decide) hL0) (State.dsfOn_keeps _ (Part.sub (by decide) hL0) (State.setRx_keeps _ _ (Part.sub (by decide) hL0) h0))))

theorem State.opRxCtl_keeps {L : List Part} {s0 s : State} (c : Chan) (v : Word)
    (hL0 : [.regs, .seam, .cmt, .rx, .dsf, .tribs, .act, .upb, .restarts, .txEff, .pairs, .pipes, .epochs, .shapers, .policers, .evt, .tsk, .hif, .timers, .out, .fresh] ⊆ L) (h0 : SameBut L s0 s) :
    SameBut L s0 (s.opRxCtl c v) := by
  unfold State.opRxCtl
  exact (SameBut.ite (State.rxOn_keeps _ (Part.sub (by decide) hL0) (State.store_keeps _ _ (Part.sub (by decide) hL0) h0)) (State.rxOff_keeps _ (Part.sub (by decide) hL0) (State.store_keeps _ _ (Part.sub (by decide) hL0) h0)))

theorem State.rxEvent_keeps {L : List Part} {s0 s : State} (c : Chan) (b : Nat)
    (hL0 : [.regs, .seam, .evt, .tsk, .hif, .out] ⊆ L) (h0 : SameBut L s0 s) :
    SameBut L s0 (s.rxEvent c b) := by
  unfold State.rxEvent
  exact (State.fire_keeps _ _ (Part.sub (by decide) hL0) h0)

theorem State.acquire_keeps {L : List Part} {s0 s : State} (c : Chan) (defaults : Bool)
    (hL0 : [.rx] ⊆ L) (h0 : SameBut L s0 s) :
    SameBut L s0 (s.acquire c defaults) := by
  unfold State.acquire
  exact (State.setRx_keeps _ _ (Part.sub (by decide) hL0) h0)

theorem State.freeze_keeps {L : List Part} {s0 s : State} (c : Chan) (gain : Nat)
    (hL0 : [.rx] ⊆ L) (h0 : SameBut L s0 s) :
    SameBut L s0 (s.freeze c gain) := by
  unfold State.freeze
  exact (State.setRx_keeps _ _ (Part.sub (by decide) hL0) h0)

theorem State.preLast_keeps {L : List Part} {s0 s : State} (c : Chan) (peak : Nat) (offset : ℤ) (openS : Bool) (sim : Bool)
    (hL0 : [.regs] ⊆ L) (h0 : SameBut L s0 s) :
    SameBut L s0 (s.preLast c peak offset openS sim) := by
  unfold State.preLast
  exact (State.wr_keeps _ _ (Part.sub (by decide) hL0) h0)

theorem State.detected_keeps {L : List Part} {s0 s : State} (c : Chan) (t : Nat)
    (hL0 : [.regs, .seam, .evt, .tsk, .hif, .out] ⊆ L) (h0 : SameBut L s0 s) :
    SameBut L s0 (s.detected c t) := by
  unfold State.detected
  exact (State.fireWith_keeps _ _ _ _ (Part.sub (by decide) hL0) (State.bump_keeps _ (Part.sub (by decide) hL0) h0))

theorem State.slipGrid_keeps {L : List Part} {s0 s : State} (c : Chan) (offset : ℤ)
    (hL0 : [.dsf] ⊆ L) (h0 : SameBut L s0 s) :
    SameBut L s0 (s.slipGrid c offset) := by
  unfold State.slipGrid
  exact (State.setDsf_keeps _ _ (Part.sub (by decide) hL0) h0)

theorem State.leaveHeld_keeps {L : List Part} {s0 s : State} (c : Chan) (offset : ℤ) (t : Nat)
    (hL0 : [.regs, .seam, .cmt, .rx, .dsf, .tribs, .act, .upb, .restarts, .pairs, .pipes, .epochs, .shapers, .policers, .evt, .tsk, .hif, .timers, .out] ⊆ L) (h0 : SameBut L s0 s) :
    SameBut L s0 (s.leaveHeld c offset t) := by
  unfold State.leaveHeld
  exact (State.dsfLight_keeps _ (Part.sub (by decide) hL0) (State.acquire_keeps _ _ (Part.sub (by decide) hL0) (SameBut.ite (State.rxEvent_keeps _ _ (Part.sub (by decide) hL0) (State.bump_keeps _ (Part.sub (by decide) hL0) (SameBut.ite (State.detected_keeps _ _ (Part.sub (by decide) hL0) (State.countGated_keeps _ (Part.sub (by decide) hL0) h0)) (SameBut.ite (State.rxEvent_keeps _ _ (Part.sub (by decide) hL0) (State.bump_keeps _ (Part.sub (by decide) hL0) (State.slipGrid_keeps _ _ (Part.sub (by decide) hL0) (State.detected_keeps _ _ (Part.sub (by decide) hL0) (State.countGated_keeps _ (Part.sub (by decide) hL0) h0))))) (State.rxEvent_keeps _ _ (Part.sub (by decide) hL0) (State.setRx_keeps _ _ (Part.sub (by decide) hL0) (State.detected_keeps _ _ (Part.sub (by decide) hL0) (State.countGated_keeps _ (Part.sub (by decide) hL0) h0)))))))) (SameBut.ite (State.detected_keeps _ _ (Part.sub (by decide) hL0) (State.countGated_keeps _ (Part.sub (by decide) hL0) h0)) (SameBut.ite (State.rxEvent_keeps _ _ (Part.sub (by decide) hL0) (State.bump_keeps _ (Part.sub (by decide) hL0) (State.slipGrid_keeps _ _ (Part.sub (by decide) hL0) (State.detected_keeps _ _ (Part.sub (by decide) hL0) (State.countGated_keeps _ (Part.sub (by decide) hL0) h0))))) (State.rxEvent_keeps _ _ (Part.sub (by decide) hL0) (State.setRx_keeps _ _ (Part.sub (by decide) hL0) (State.detected_keeps _ _ (Part.sub (by decide) hL0) (State.countGated_keeps _ (Part.sub (by decide) hL0) h0)))))))))

theorem State.detect_keeps {L : List Part} {s0 s : State} (c : Chan) (offset : ℤ) (peak : Nat) (gain : Nat) (t : Nat)
    (hL0 : [.regs, .seam, .cmt, .rx, .dsf, .tribs, .act, .upb, .restarts, .pairs, .pipes, .epochs, .shapers, .policers, .evt, .tsk, .hif, .timers, .out] ⊆ L) (h0 : SameBut L s0 s) :
    SameBut L s0 (s.detect c offset peak gain t) := by
  unfold State.detect
  exact (SameBut.ite h0 (by
    split
    · exact (State.acquire_keeps _ _ (Part.sub (by decide) hL0) (State.freeze_keeps _ _ (Part.sub (by decide) hL0) (State.detected_keeps _ _ (Part.sub (by decide) hL0) (State.preLast_keeps _ _ _ _ _ (Part.sub (by decide) hL0) h0))))
    · exact (SameBut.ite (State.leaveHeld_keeps _ _ _ (Part.sub (by decide) hL0) (State.freeze_keeps _ _ (Part.sub (by decide) hL0) (State.preLast_keeps _ _ _ _ _ (Part.sub (by decide) hL0) h0))) (SameBut.ite (State.leaveHeld_keeps _ _ _ (Part.sub (by decide) hL0) (State.freeze_keeps _ _ (Part.sub (by decide) hL0) (State.preLast_keeps _ _ _ _ _ (Part.sub (by decide) hL0) h0))) h0))
    · exact h0))

theorem State.adapt_keeps {L : List Part} {s0 s : State} (c : Chan) (a : Adapt)
    (hL0 : [.rx] ⊆ L) (h0 : SameBut L s0 s) :
    SameBut L s0 (s.adapt c a) := by
  unfold State.adapt
  exact (State.setRx_keeps _ _ (Part.sub (by decide) hL0) h0)

theorem State.holdNow_keeps {L : List Part} {s0 s : State} (c : Chan) (at_ : Nat)
    (hL0 : [.regs, .seam, .cmt, .rx, .dsf, .tribs, .act, .upb, .restarts, .pairs, .pipes, .epochs, .shapers, .policers, .evt, .tsk, .hif, .timers, .out] ⊆ L) (h0 : SameBut L s0 s) :
    SameBut L s0 (s.holdNow c at_) := by
  unfold State.holdNow
  exact (State.dsfHold_keeps _ (Part.sub (by decide) hL0) (State.rxEvent_keeps _ _ (Part.sub (by decide) hL0) (State.bump_keeps _ (Part.sub (by decide) hL0) (State.setRx_keeps _ _ (Part.sub (by decide) hL0) h0))))

theorem State.losLow_keeps {L : List Part} {s0 s : State} (c : Chan)
    (hL0 : [.pins] ⊆ L) (h0 : SameBut L s0 s) :
    SameBut L s0 (s.losLow c) := by
  unfold State.losLow
  exact (SameBut.upd_pins (Part.sub (by decide) hL0) h0)

theorem State.trainEnd_keeps {L : List Part} {s0 s : State} (c : Chan) (locked : Bool) (a : Adapt)
    (hL0 : [.regs, .seam, .rx, .evt, .tsk, .hif, .pins, .out] ⊆ L) (h0 : SameBut L s0 s) :
    SameBut L s0 (s.trainEnd c locked a) := by
  unfold State.trainEnd
  exact (SameBut.ite h0 (SameBut.ite (State.enterTrack_keeps _ (Part.sub (by decide) hL0) (State.setRx_keeps _ _ (Part.sub (by decide) hL0) (State.losLow_keeps _ (Part.sub (by decide) hL0) h0))) (State.acquire_keeps _ _ (Part.sub (by decide) hL0) (State.rxEvent_keeps _ _ (Part.sub (by decide) hL0) (State.bump_keeps _ (Part.sub (by decide) hL0) h0)))))

theorem State.losHigh_keeps {L : List Part} {s0 s : State} (c : Chan) (idle : Nat)
    (hL0 : [.regs, .seam, .cmt, .rx, .dsf, .tribs, .act, .upb, .restarts, .pairs, .pipes, .epochs, .shapers, .policers, .evt, .tsk, .hif, .pins, .timers, .out] ⊆ L) (h0 : SameBut L s0 s) :
    SameBut L s0 (s.losHigh c idle) := by
  unfold State.losHigh
  try dsimp only
  split
  · exact (State.holdNow_keeps _ _ (Part.sub (by decide) hL0) (State.rxEvent_keeps _ _ (Part.sub (by decide) hL0) (SameBut.upd_pins (Part.sub (by decide) hL0) h0)))
  · exact (State.holdNow_keeps _ _ (Part.sub (by decide) hL0) (State.countGated_keeps _ (Part.sub (by decide) hL0) (State.rxEvent_keeps _ _ (Part.sub (by decide) hL0) (SameBut.upd_pins (Part.sub (by decide) hL0) h0))))
  · exact (State.rxEvent_keeps _ _ (Part.sub (by decide) hL0) (SameBut.upd_pins (Part.sub (by decide) hL0) h0))

theorem State.opAdapt_keeps {L : List Part} {s0 s : State} (c : Chan) (v : Word)
    (hL0 : [.regs, .seam, .cmt, .rx, .dsf, .tribs, .act, .upb, .restarts, .pairs, .pipes, .epochs, .shapers, .policers, .evt, .tsk, .hif, .timers, .out, .fresh] ⊆ L) (h0 : SameBut L s0 s) :
    SameBut L s0 (s.opAdapt c v) := by
  unfold State.opAdapt
  exact (SameBut.ite (State.leaveHeld_keeps _ _ _ (Part.sub (by decide) hL0) (State.freeze_keeps _ _ (Part.sub (by decide) hL0) (State.preLast_keeps _ _ _ _ _ (Part.sub (by decide) hL0) (PairKeeps.snd (State.freeVal_keeps (Part.sub (by decide) hL0) (PairKeeps.snd (State.freeVal_keeps (Part.sub (by decide) hL0) (SameBut.ite (State.setRx_keeps _ _ (Part.sub (by decide) hL0) h0) (SameBut.ite (State.setRx_keeps _ _ (Part.sub (by decide) hL0) h0) h0))))))))) (SameBut.ite (State.setRx_keeps _ _ (Part.sub (by decide) hL0) h0) (SameBut.ite (State.setRx_keeps _ _ (Part.sub (by decide) hL0) h0) h0)))

theorem State.opCal_keeps {L : List Part} {s0 s : State} (c : Chan) (v : Word)
    (hL0 : [.regs, .seam, .rx, .evt, .tsk, .hif, .out] ⊆ L) (h0 : SameBut L s0 s) :
    SameBut L s0 (s.opCal c v) := by
  unfold State.opCal
  exact (SameBut.ite (State.setRx_keeps _ _ (Part.sub (by decide) hL0) (SameBut.ite (State.store_keeps _ _ (Part.sub (by decide) hL0) h0) (SameBut.ite (State.setRx_keeps _ _ (Part.sub (by decide) hL0) (State.store_keeps _ _ (Part.sub (by decide) hL0) h0)) (SameBut.ite (State.rxEvent_keeps _ _ (Part.sub (by decide) hL0) (State.setRx_keeps _ _ (Part.sub (by decide) hL0) (State.store_keeps _ _ (Part.sub (by decide) hL0) h0))) (State.setRx_keeps _ _ (Part.sub (by decide) hL0) (State.store_keeps _ _ (Part.sub (by decide) hL0) h0)))))) (SameBut.ite (State.store_keeps _ _ (Part.sub (by decide) hL0) h0) (SameBut.ite (State.setRx_keeps _ _ (Part.sub (by decide) hL0) (State.store_keeps _ _ (Part.sub (by decide) hL0) h0)) (SameBut.ite (State.rxEvent_keeps _ _ (Part.sub (by decide) hL0) (State.setRx_keeps _ _ (Part.sub (by decide) hL0) (State.store_keeps _ _ (Part.sub (by decide) hL0) h0))) (State.setRx_keeps _ _ (Part.sub (by decide) hL0) (State.store_keeps _ _ (Part.sub (by decide) hL0) h0))))))

theorem State.calStepEnd_keeps {L : List Part} {s0 s : State} (c : Chan) (k : Nat) (nonIdle : Bool) (trim : Word)
    (hL0 : [.regs, .seam, .rx, .evt, .tsk, .hif, .out] ⊆ L) (h0 : SameBut L s0 s) :
    SameBut L s0 (s.calStepEnd c k nonIdle trim) := by
  unfold State.calStepEnd
  exact (SameBut.ite h0 (SameBut.ite (State.setRx_keeps _ _ (Part.sub (by decide) hL0) (State.trimsIn_keeps _ (Part.sub (by decide) hL0) h0)) (SameBut.ite (State.setRx_keeps _ _ (Part.sub (by decide) hL0) (State.trimsIn_keeps _ (Part.sub (by decide) hL0) h0)) (State.rxEvent_keeps _ _ (Part.sub (by decide) hL0) (State.setRx_keeps _ _ (Part.sub (by decide) hL0) (State.trimsIn_keeps _ (Part.sub (by decide) hL0) h0))))))

theorem State.lqDone_keeps {L : List Part} {s0 s : State} (c : Chan) (lq : Nat) (a : Adapt)
    (hL0 : [.regs, .seam, .rx, .evt, .tsk, .hif, .pins, .out] ⊆ L) (h0 : SameBut L s0 s) :
    SameBut L s0 (s.lqDone c lq a) := by
  unfold State.lqDone
  exact (SameBut.ite h0 (SameBut.ite (State.rxEvent_keeps _ _ (Part.sub (by decide) hL0) (State.setRx_keeps _ _ (Part.sub (by decide) hL0) (State.adapt_keeps _ _ (Part.sub (by decide) hL0) (State.wr_keeps _ _ (Part.sub (by decide) hL0) (State.losLow_keeps _ (Part.sub (by decide) hL0) h0))))) (State.setRx_keeps _ _ (Part.sub (by decide) hL0) (State.adapt_keeps _ _ (Part.sub (by decide) hL0) (State.wr_keeps _ _ (Part.sub (by decide) hL0) (State.losLow_keeps _ (Part.sub (by decide) hL0) h0))))))

theorem State.lockLost_keeps {L : List Part} {s0 s : State} (c : Chan)
    (hL0 : [.regs, .seam, .rx, .evt, .tsk, .hif, .out] ⊆ L) (h0 : SameBut L s0 s) :
    SameBut L s0 (s.lockLost c) := by
  unfold State.lockLost
  exact (SameBut.ite (State.acquire_keeps _ _ (Part.sub (by decide) hL0) (State.rxEvent_keeps _ _ (Part.sub (by decide) hL0) (State.bump_keeps _ (Part.sub (by decide) hL0) h0))) h0)

theorem State.rateDone_keeps {L : List Part} {s0 s : State} (c : Chan) (ppm : ℤ) (lock : Bool)
    (hL0 : [.regs, .seam, .rx, .evt, .tsk, .hif, .out, .fresh] ⊆ L) (h0 : SameBut L s0 s) :
    SameBut L s0 (s.rateDone c ppm lock) := by
  unfold State.rateDone
  exact (SameBut.ite h0 (SameBut.ite (State.lockLost_keeps _ (Part.sub (by decide) hL0) (SameBut.ite (State.rxEvent_keeps _ _ (Part.sub (by decide) hL0) (State.setRx_keeps _ _ (Part.sub (by decide) hL0) (State.setFld_keeps _ _ (Part.sub (by decide) hL0) (PairKeeps.snd (PairKeeps.ite (PairKeeps.mk h0) (State.freeVal_keeps (Part.sub (by decide) hL0) h0)))))) (State.setRx_keeps _ _ (Part.sub (by decide) hL0) (State.setFld_keeps _ _ (Part.sub (by decide) hL0) (PairKeeps.snd (PairKeeps.ite (PairKeeps.mk h0) (State.freeVal_keeps (Part.sub (by decide) hL0) h0))))))) (SameBut.ite (State.rxEvent_keeps _ _ (Part.sub (by decide) hL0) (State.setRx_keeps _ _ (Part.sub (by decide) hL0) (State.setFld_keeps _ _ (Part.sub (by decide) hL0) (PairKeeps.snd (PairKeeps.ite (PairKeeps.mk h0) (State.freeVal_keeps (Part.sub (by decide) hL0) h0)))))) (State.setRx_keeps _ _ (Part.sub (by decide) hL0) (State.setFld_keeps _ _ (Part.sub (by decide) hL0) (PairKeeps.snd (PairKeeps.ite (PairKeeps.mk h0) (State.freeVal_keeps (Part.sub (by decide) hL0) h0))))))))

theorem State.clipsDone_keeps {L : List Part} {s0 s : State} (c : Chan) (clips : Nat)
    (hL0 : [.regs, .seam, .rx, .evt, .tsk, .hif, .out] ⊆ L) (h0 : SameBut L s0 s) :
    SameBut L s0 (s.clipsDone c clips) := by
  unfold State.clipsDone
  exact (SameBut.ite h0 (SameBut.ite (State.rxEvent_keeps _ _ (Part.sub (by decide) hL0) (State.adapt_keeps _ _ (Part.sub (by decide) hL0) (State.bump_keeps _ (Part.sub (by decide) hL0) h0))) (State.bump_keeps _ (Part.sub (by decide) hL0) h0)))

theorem execRxEnable_keeps (r : Req) (c : Chan) (v : Word) (s : State) :
    ResKeeps [.regs, .seam, .cmt, .rx, .dsf, .tribs, .act, .upb, .restarts, .txEff, .pairs, .pipes, .epochs, .shapers, .policers, .evt, .tsk, .hif, .timers, .resp, .out, .fresh] s (execRxEnable r c v s) := by
  have hL0 := List.Subset.refl ([.regs, .seam, .cmt, .rx, .dsf, .tribs, .act, .upb, .restarts, .txEff, .pairs, .pipes, .epochs, .shapers, .policers, .evt, .tsk, .hif, .timers, .resp, .out, .fresh] : List Part)
  have h0 := SameBut.refl [.regs, .seam, .cmt, .rx, .dsf, .tribs, .act, .upb, .restarts, .txEff, .pairs, .pipes, .epochs, .shapers, .policers, .evt, .tsk, .hif, .timers, .resp, .out, .fresh] s
  unfold execRxEnable
  exact (ResKeeps.next (State.access_keeps _ _ _ _ (Part.sub (by decide) hL0) (fun _ h1 => (State.opRxCtl_keeps _ _ (Part.sub (by decide) hL0) h1)) h0))

theorem execRxDisable_keeps (r : Req) (c : Chan) (v : Word) (s : State) :
    ResKeeps [.regs, .seam, .cmt, .rx, .dsf, .tribs, .act, .upb, .restarts, .txEff, .pairs, .pipes, .epochs, .shapers, .policers, .evt, .tsk, .hif, .timers, .resp, .out, .fresh] s (execRxDisable r c v s) := by
  have hL0 := List.Subset.refl ([.regs, .seam, .cmt, .rx, .dsf, .tribs, .act, .upb, .restarts, .txEff, .pairs, .pipes, .epochs, .shapers, .policers, .evt, .tsk, .hif, .timers, .resp, .out, .fresh] : List Part)
  have h0 := SameBut.refl [.regs, .seam, .cmt, .rx, .dsf, .tribs, .act, .upb, .restarts, .txEff, .pairs, .pipes, .epochs, .shapers, .policers, .evt, .tsk, .hif, .timers, .resp, .out, .fresh] s
  unfold execRxDisable
  exact (ResKeeps.next (State.access_keeps _ _ _ _ (Part.sub (by decide) hL0) (fun _ h1 => (State.opRxCtl_keeps _ _ (Part.sub (by decide) hL0) h1)) h0))

theorem execPreambleDetect_keeps (c : Chan) (offset : ℤ) (peak : BitVec 8) (gain : BitVec 9) (lag : Nat) (s : State) :
    ResKeeps [.regs, .seam, .cmt, .rx, .dsf, .tribs, .act, .upb, .restarts, .pairs, .pipes, .epochs, .shapers, .policers, .evt, .tsk, .hif, .timers, .out] s (execPreambleDetect c offset peak gain lag s) := by
  have hL0 := List.Subset.refl ([.regs, .seam, .cmt, .rx, .dsf, .tribs, .act, .upb, .restarts, .pairs, .pipes, .epochs, .shapers, .policers, .evt, .tsk, .hif, .timers, .out] : List Part)
  have h0 := SameBut.refl [.regs, .seam, .cmt, .rx, .dsf, .tribs, .act, .upb, .restarts, .pairs, .pipes, .epochs, .shapers, .policers, .evt, .tsk, .hif, .timers, .out] s
  unfold execPreambleDetect
  exact (ResKeeps.ite ResKeeps.fault (ResKeeps.next (State.detect_keeps _ _ _ _ _ (Part.sub (by decide) hL0) (State.trimsIn_keeps _ (Part.sub (by decide) hL0) h0))))

theorem execBlindAcquire_keeps (c : Chan) (s : State) :
    ResKeeps [.rx, .pins] s (execBlindAcquire c s) := by
  have hL0 := List.Subset.refl ([.rx, .pins] : List Part)
  have h0 := SameBut.refl [.rx, .pins] s
  unfold execBlindAcquire
  exact (ResKeeps.next (SameBut.ite (State.acquire_keeps _ _ (Part.sub (by decide) hL0) (State.losLow_keeps _ (Part.sub (by decide) hL0) h0)) h0))

theorem execTrainingCountReached_keeps (c : Chan) (locked : Bool) (a : Adapt) (s : State) :
    ResKeeps [.regs, .seam, .rx, .evt, .tsk, .hif, .pins, .out] s (execTrainingCountReached c locked a s) := by
  have hL0 := List.Subset.refl ([.regs, .seam, .rx, .evt, .tsk, .hif, .pins, .out] : List Part)
  have h0 := SameBut.refl [.regs, .seam, .rx, .evt, .tsk, .hif, .pins, .out] s
  unfold execTrainingCountReached
  exact (ResKeeps.ite ResKeeps.fault (ResKeeps.next (State.trainEnd_keeps _ _ _ (Part.sub (by decide) hL0) h0)))

theorem execPlannedHold_keeps (c : Chan) (g : Fin 250) (s : State) :
    ResKeeps [.regs, .seam, .rx, .evt, .tsk, .hif, .out] s (execPlannedHold c g s) := by
  have hL0 := List.Subset.refl ([.regs, .seam, .rx, .evt, .tsk, .hif, .out] : List Part)
  have h0 := SameBut.refl [.regs, .seam, .rx, .evt, .tsk, .hif, .out] s
  unfold execPlannedHold
  exact (ResKeeps.next (SameBut.ite (State.rxEvent_keeps _ _ (Part.sub (by decide) hL0) (State.bump_keeps _ (Part.sub (by decide) hL0) (State.setRx_keeps _ _ (Part.sub (by decide) hL0) h0))) h0))

theorem execUnplannedHold_keeps (c : Chan) (s : State) :
    ResKeeps [.regs, .seam, .cmt, .rx, .dsf, .tribs, .act, .upb, .restarts, .pairs, .pipes, .epochs, .shapers, .policers, .evt, .tsk, .hif, .timers, .out] s (execUnplannedHold c s) := by
  have hL0 := List.Subset.refl ([.regs, .seam, .cmt, .rx, .dsf, .tribs, .act, .upb, .restarts, .pairs, .pipes, .epochs, .shapers, .policers, .evt, .tsk, .hif, .timers, .out] : List Part)
  have h0 := SameBut.refl [.regs, .seam, .cmt, .rx, .dsf, .tribs, .act, .upb, .restarts, .pairs, .pipes, .epochs, .shapers, .policers, .evt, .tsk, .hif, .timers, .out] s
  unfold execUnplannedHold
  exact (ResKeeps.next (SameBut.ite (State.holdNow_keeps _ _ (Part.sub (by decide) hL0) h0) h0))

theorem execLosAssert_keeps (c : Chan) (idle : Nat) (s : State) :
    ResKeeps [.regs, .seam, .cmt, .rx, .dsf, .tribs, .act, .upb, .restarts, .pairs, .pipes, .epochs, .shapers, .policers, .evt, .tsk, .hif, .pins, .timers, .out] s (execLosAssert c idle s) := by
  have hL0 := List.Subset.refl ([.regs, .seam, .cmt, .rx, .dsf, .tribs, .act, .upb, .restarts, .pairs, .pipes, .epochs, .shapers, .policers, .evt, .tsk, .hif, .pins, .timers, .out] : List Part)
  have h0 := SameBut.refl [.regs, .seam, .cmt, .rx, .dsf, .tribs, .act, .upb, .restarts, .pairs, .pipes, .epochs, .shapers, .policers, .evt, .tsk, .hif, .pins, .timers, .out] s
  unfold execLosAssert
  exact (ResKeeps.next (State.losHigh_keeps _ _ (Part.sub (by decide) hL0) h0))

theorem execDozeEnter_keeps (c : Chan) (g : Fin 250) (s : State) :
    ResKeeps [.rx] s (execDozeEnter c g s) := by
  have hL0 := List.Subset.refl ([.rx] : List Part)
  have h0 := SameBut.refl [.rx] s
  unfold execDozeEnter
  exact (ResKeeps.next (SameBut.ite (State.setRx_keeps _ _ (Part.sub (by decide) hL0) h0) h0))

theorem execDozeWake_keeps (c : Chan) (s : State) :
    ResKeeps [.regs, .rx] s (execDozeWake c s) := by
  have hL0 := List.Subset.refl ([.regs, .rx] : List Part)
  have h0 := SameBut.refl [.regs, .rx] s
  unfold execDozeWake
  exact (ResKeeps.next (SameBut.ite (State.enterTrack_keeps _ (Part.sub (by decide) hL0) (State.bumpBy_keeps _ _ (Part.sub (by decide) hL0) h0)) h0))

theorem execCdrLossOfLock_keeps (c : Chan) (s : State) :
    ResKeeps [.regs, .seam, .rx, .evt, .tsk, .hif, .out] s (execCdrLossOfLock c s) := by
  have hL0 := List.Subset.refl ([.regs, .seam, .rx, .evt, .tsk, .hif, .out] : List Part)
  have h0 := SameBut.refl [.regs, .seam, .rx, .evt, .tsk, .hif, .out] s
  unfold execCdrLossOfLock
  exact (ResKeeps.next (State.lockLost_keeps _ (Part.sub (by decide) hL0) h0))

theorem execArmWindowOpen_keeps (c : Chan) (s : State) :
    ResKeeps [.regs, .rx] s (execArmWindowOpen c s) := by
  have hL0 := List.Subset.refl ([.regs, .rx] : List Part)
  have h0 := SameBut.refl [.regs, .rx] s
  unfold execArmWindowOpen
  exact (ResKeeps.next (SameBut.ite (State.setRx_keeps _ _ (Part.sub (by decide) hL0) (State.bumpBy_keeps _ _ (Part.sub (by decide) hL0) (State.trimsIn_keeps _ (Part.sub (by decide) hL0) h0))) h0))

theorem execArmWindowClose_keeps (c : Chan) (s : State) :
    ResKeeps [.regs, .seam, .rx, .evt, .tsk, .hif, .out] s (execArmWindowClose c s) := by
  have hL0 := List.Subset.refl ([.regs, .seam, .rx, .evt, .tsk, .hif, .out] : List Part)
  have h0 := SameBut.refl [.regs, .seam, .rx, .evt, .tsk, .hif, .out] s
  unfold execArmWindowClose
  exact (ResKeeps.next (SameBut.ite (State.rxEvent_keeps _ _ (Part.sub (by decide) hL0) (State.bump_keeps _ (Part.sub (by decide) hL0) (State.setRx_keeps _ _ (Part.sub (by decide) hL0) h0))) h0))

theorem execSimDetect_keeps (r : Req) (c : Chan) (v : Word) (s : State) :
    ResKeeps [.regs, .seam, .cmt, .rx, .dsf, .tribs, .act, .upb, .restarts, .pairs, .pipes, .epochs, .shapers, .policers, .evt, .tsk, .hif, .timers, .resp, .out, .fresh] s (execSimDetect r c v s) := by
  have hL0 := List.Subset.refl ([.regs, .seam, .cmt, .rx, .dsf, .tribs, .act, .upb, .restarts, .pairs, .pipes, .epochs, .shapers, .policers, .evt, .tsk, .hif, .timers, .resp, .out, .fresh] : List Part)
  have h0 := SameBut.refl [.regs, .seam, .cmt, .rx, .dsf, .tribs, .act, .upb, .restarts, .pairs, .pipes, .epochs, .shapers, .policers, .evt, .tsk, .hif, .timers, .resp, .out, .fresh] s
  unfold execSimDetect
  exact (ResKeeps.next (State.access_keeps _ _ _ _ (Part.sub (by decide) hL0) (fun _ h1 => (State.opAdapt_keeps _ _ (Part.sub (by decide) hL0) h1)) h0))

theorem execSaveDef_keeps (r : Req) (c : Chan) (v : Word) (s : State) :
    ResKeeps [.regs, .seam, .cmt, .rx, .dsf, .tribs, .act, .upb, .restarts, .pairs, .pipes, .epochs, .shapers, .policers, .evt, .tsk, .hif, .timers, .resp, .out, .fresh] s (execSaveDef r c v s) := by
  have hL0 := List.Subset.refl ([.regs, .seam, .cmt, .rx, .dsf, .tribs, .act, .upb, .restarts, .pairs, .pipes, .epochs, .shapers, .policers, .evt, .tsk, .hif, .timers, .resp, .out, .fresh] : List Part)
  have h0 := SameBut.refl [.regs, .seam, .cmt, .rx, .dsf, .tribs, .act, .upb, .restarts, .pairs, .pipes, .epochs, .shapers, .policers, .evt, .tsk, .hif, .timers, .resp, .out, .fresh] s
  unfold execSaveDef
  exact (ResKeeps.next (State.access_keeps _ _ _ _ (Part.sub (by decide) hL0) (fun _ h1 => (State.opAdapt_keeps _ _ (Part.sub (by decide) hL0) h1)) h0))

theorem execLoadFactory_keeps (r : Req) (c : Chan) (v : Word) (s : State) :
    ResKeeps [.regs, .seam, .cmt, .rx, .dsf, .tribs, .act, .upb, .restarts, .pairs, .pipes, .epochs, .shapers, .policers, .evt, .tsk, .hif, .timers, .resp, .out, .fresh] s (execLoadFactory r c v s) := by
  have hL0 := List.Subset.refl ([.regs, .seam, .cmt, .rx, .dsf, .tribs, .act, .upb, .restarts, .pairs, .pipes, .epochs, .shapers, .policers, .evt, .tsk, .hif, .timers, .resp, .out, .fresh] : List Part)
  have h0 := SameBut.refl [.regs, .seam, .cmt, .rx, .dsf, .tribs, .act, .upb, .restarts, .pairs, .pipes, .epochs, .shapers, .policers, .evt, .tsk, .hif, .timers, .resp, .out, .fresh] s
  unfold execLoadFactory
  exact (ResKeeps.next (State.access_keeps _ _ _ _ (Part.sub (by decide) hL0) (fun _ h1 => (State.opAdapt_keeps _ _ (Part.sub (by decide) hL0) h1)) h0))

theorem execLqBlock_keeps (c : Chan) (lq : BitVec 9) (a : Adapt) (s : State) :
    ResKeeps [.regs, .seam, .rx, .evt, .tsk, .hif, .pins, .out] s (execLqBlock c lq a s) := by
  have hL0 := List.Subset.refl ([.regs, .seam, .rx, .evt, .tsk, .hif, .pins, .out] : List Part)
  have h0 := SameBut.refl [.regs, .seam, .rx, .evt, .tsk, .hif, .pins, .out] s
  unfold execLqBlock
  exact (ResKeeps.ite ResKeeps.fault (ResKeeps.next (State.lqDone_keeps _ _ _ (Part.sub (by decide) hL0) h0)))

theorem execNoiseMeasure_keeps (c : Chan) (floor : BitVec 10) (s : State) :
    ResKeeps [.regs] s (execNoiseMeasure c floor s) := by
  have hL0 := List.Subset.refl ([.regs] : List Part)
  have h0 := SameBut.refl [.regs] s
  unfold execNoiseMeasure
  exact (ResKeeps.next (SameBut.ite (State.wr_keeps _ _ (Part.sub (by decide) hL0) h0) h0))

theorem execRateMeasure_keeps (c : Chan) (ppm : ℤ) (lock : Bool) (s : State) :
    ResKeeps [.regs, .seam, .rx, .evt, .tsk, .hif, .out, .fresh] s (execRateMeasure c ppm lock s) := by
  have hL0 := List.Subset.refl ([.regs, .seam, .rx, .evt, .tsk, .hif, .out, .fresh] : List Part)
  have h0 := SameBut.refl [.regs, .seam, .rx, .evt, .tsk, .hif, .out, .fresh] s
  unfold execRateMeasure
  exact (ResKeeps.next (State.rateDone_keeps _ _ _ (Part.sub (by decide) hL0) h0))

theorem execClipBlock_keeps (c : Chan) (clips : Nat) (s : State) :
    ResKeeps [.regs, .seam, .rx, .evt, .tsk, .hif, .out] s (execClipBlock c clips s) := by
  have hL0 := List.Subset.refl ([.regs, .seam, .rx, .evt, .tsk, .hif, .out] : List Part)
  have h0 := SameBut.refl [.regs, .seam, .rx, .evt, .tsk, .hif, .out] s
  unfold execClipBlock
  exact (ResKeeps.next (State.clipsDone_keeps _ _ (Part.sub (by decide) hL0) h0))

theorem execCalStart_keeps (r : Req) (c : Chan) (v : Word) (s : State) :
    ResKeeps [.regs, .seam, .rx, .evt, .tsk, .hif, .resp, .out] s (execCalStart r c v s) := by
  have hL0 := List.Subset.refl ([.regs, .seam, .rx, .evt, .tsk, .hif, .resp, .out] : List Part)
  have h0 := SameBut.refl [.regs, .seam, .rx, .evt, .tsk, .hif, .resp, .out] s
  unfold execCalStart
  exact (ResKeeps.next (State.access_keeps _ _ _ _ (Part.sub (by decide) hL0) (fun _ h1 => (State.opCal_keeps _ _ (Part.sub (by decide) hL0) h1)) h0))

theorem execCalAbort_keeps (r : Req) (c : Chan) (v : Word) (s : State) :
    ResKeeps [.regs, .seam, .rx, .evt, .tsk, .hif, .resp, .out] s (execCalAbort r c v s) := by
  have hL0 := List.Subset.refl ([.regs, .seam, .rx, .evt, .tsk, .hif, .resp, .out] : List Part)
  have h0 := SameBut.refl [.regs, .seam, .rx, .evt, .tsk, .hif, .resp, .out] s
  unfold execCalAbort
  exact (ResKeeps.next (State.access_keeps _ _ _ _ (Part.sub (by decide) hL0) (fun _ h1 => (State.opCal_keeps _ _ (Part.sub (by decide) hL0) h1)) h0))

theorem execCalStep_keeps (c : Chan) (k : Nat) (nonIdle : Bool) (trim : Word) (s : State) :
    ResKeeps [.regs, .seam, .rx, .evt, .tsk, .hif, .out] s (execCalStep c k nonIdle trim s) := by
  have hL0 := List.Subset.refl ([.regs, .seam, .rx, .evt, .tsk, .hif, .out] : List Part)
  have h0 := SameBut.refl [.regs, .seam, .rx, .evt, .tsk, .hif, .out] s
  unfold execCalStep
  exact (ResKeeps.next (State.calStepEnd_keeps _ _ _ _ (Part.sub (by decide) hL0) h0))

end Sys2Proof.Machine
end

