-- ==== Sys2Proof/Laws/Dispatcher.lean ====
section
/-! SUPPORT. Which parts of the state each operation of Machine/Dispatcher.lean can change. -/

namespace Sys2Proof.Machine

open Sys2Proof

set_option linter.unusedTactic false
set_option linter.unreachableTactic false
set_option linter.unusedVariables false

theorem State.setTsk_keeps {L : List Part} {s0 s : State} (f : Tsk → Tsk)
    (hL0 : [.tsk] ⊆ L) (h0 : SameBut L s0 s) :
    SameBut L s0 (s.setTsk f) := by
  unfold State.setTsk
  exact (SameBut.upd_tsk (Part.sub (by decide) hL0) h0)

theorem State.setItem_keeps {L : List Part} {s0 s : State} (i : Nat) (x : Item)
    (hL0 : [.tsk] ⊆ L) (h0 : SameBut L s0 s) :
    SameBut L s0 (s.setItem i x) := by
  unfold State.setItem
  exact (State.setTsk_keeps _ (Part.sub (by decide) hL0) h0)

theorem State.setLevel_keeps {L : List Part} {s0 s : State} (p : Nat) (l : List Nat)
    (hL0 : [.tsk] ⊆ L) (h0 : SameBut L s0 s) :
    SameBut L s0 (s.setLevel p l) := by
  unfold State.setLevel
  exact (State.setTsk_keeps _ (Part.sub (by decide) hL0) h0)

theorem State.setCorePort_keeps {L : List Part} {s0 s : State} (n : Fin 8) (p : Port)
    (hL0 : [.tsk] ⊆ L) (h0 : SameBut L s0 s) :
    SameBut L s0 (s.setCorePort n p) := by
  unfold State.setCorePort
  exact (State.setTsk_keeps _ (Part.sub (by decide) hL0) h0)

theorem State.announceReady_keeps {L : List Part} {s0 s : State} (i : Nat) (byYield : Bool)
    (hL0 : [.tsk] ⊆ L) (h0 : SameBut L s0 s) :
    SameBut L s0 (s.announceReady i byYield) := by
  unfold State.announceReady
  exact (SameBut.ite (SameBut.foldl (fun _ _ h1 => (State.setCorePort_keeps _ _ (Part.sub (by decide) hL0) h1)) h0) (SameBut.ite h0 (by
    try dsimp only
    split
    · exact (State.setCorePort_keeps _ _ (Part.sub (by decide) hL0) h0)
    · exact h0)))

theorem State.makeReady_keeps {L : List Part} {s0 s : State} (i : Nat) (x : Item) (byYield : Bool)
    (hL0 : [.tsk] ⊆ L) (h0 : SameBut L s0 s) :
    SameBut L s0 (s.makeReady i x byYield) := by
  unfold State.makeReady
  exact (State.announceReady_keeps _ _ (Part.sub (by decide) hL0) (State.setLevel_keeps _ _ (Part.sub (by decide) hL0) (State.setItem_keeps _ _ (Part.sub (by decide) hL0) h0)))

theorem State.unlist_keeps {L : List Part} {s0 s : State} (i : Nat)
    (hL0 : [.tsk] ⊆ L) (h0 : SameBut L s0 s) :
    SameBut L s0 (s.unlist i) := by
  unfold State.unlist
  exact (State.setLevel_keeps _ _ (Part.sub (by decide) hL0) h0)

theorem State.postFlag_keeps {L : List Part} {s0 s : State} (i : Nat) (f : Nat)
    (hL0 : [.tsk] ⊆ L) (h0 : SameBut L s0 s) :
    SameBut L s0 (s.postFlag i f) := by
  unfold State.postFlag
  try dsimp only
  split
  · exact h0
  · exact (SameBut.ite (State.makeReady_keeps _ _ _ (Part.sub (by decide) hL0) h0) (State.setItem_keeps _ _ (Part.sub (by decide) hL0) h0))
  · exact (State.setItem_keeps _ _ (Part.sub (by decide) hL0) h0)

theorem State.cancelItem_keeps {L : List Part} {s0 s : State} (i : Nat)
    (hL0 : [.tsk] ⊆ L) (h0 : SameBut L s0 s) :
    SameBut L s0 (s.cancelItem i) := by
  unfold State.cancelItem
  try dsimp only
  split
  · exact h0
  · exact (State.setItem_keeps _ _ (Part.sub (by decide) hL0) h0)
  · exact (State.setItem_keeps _ _ (Part.sub (by decide) hL0) (State.unlist_keeps _ (Part.sub (by decide) hL0) h0))
  · exact (State.setItem_keeps _ _ (Part.sub (by decide) hL0) h0)

theorem State.finish_keeps {L : List Part} {s0 s : State} (n : Fin 8) (i : Nat) (byYield : Bool)
    (hL0 : [.tsk] ⊆ L) (h0 : SameBut L s0 s) :
    SameBut L s0 (s.finish n i byYield) := by
  unfold State.finish
  exact (SameBut.ite (State.setItem_keeps _ _ (Part.sub (by decide) hL0) (State.setCorePort_keeps _ _ (Part.sub (by decide) hL0) h0)) (SameBut.ite (State.setItem_keeps _ _ (Part.sub (by decide) hL0) (State.setCorePort_keeps _ _ (Part.sub (by decide) hL0) h0)) (SameBut.ite (State.makeReady_keeps _ _ _ (Part.sub (by decide) hL0) (State.setCorePort_keeps _ _ (Part.sub (by decide) hL0) h0)) (SameBut.ite (State.makeReady_keeps _ _ _ (Part.sub (by decide) hL0) (State.setCorePort_keeps _ _ (Part.sub (by decide) hL0) h0)) (State.setItem_keeps _ _ (Part.sub (by decide) hL0) (State.setCorePort_keeps _ _ (Part.sub (by decide) hL0) h0))))))

theorem State.stopCore_keeps {L : List Part} {s0 s : State} (n : Fin 8)
    (hL0 : [.tsk, .cpu] ⊆ L) (h0 : SameBut L s0 s) :
    SameBut L s0 (s.stopCore n) := by
  unfold State.stopCore
  exact (State.dropLines_keeps _ (Part.sub (by decide) hL0) (SameBut.upd_cpu (Part.sub (by decide) hL0) (State.setCorePort_keeps _ _ (Part.sub (by decide) hL0) (SameBut.foldl (fun _ _ h1 => (State.finish_keeps _ _ _ (Part.sub (by decide) hL0) h1)) h0))))

theorem State.cancelBy_keeps {L : List Part} {s0 s : State} (r : Req) (i : Nat)
    (hL0 : [.tsk] ⊆ L) (h0 : SameBut L s0 s) :
    SameBut L s0 (s.cancelBy r i) := by
  unfold State.cancelBy
  exact (SameBut.ite (State.setTsk_keeps _ (Part.sub (by decide) hL0) h0) (SameBut.ite (State.setTsk_keeps _ (Part.sub (by decide) hL0) h0) (State.cancelItem_keeps _ (Part.sub (by decide) hL0) h0)))

theorem State.applyPost_keeps {L : List Part} {s0 s : State}
    (hL0 : [.tsk] ⊆ L) (h0 : SameBut L s0 s) :
    SameBut L s0 (s.applyPost) := by
  unfold State.applyPost
  split
  · exact h0
  · exact (by
      try dsimp only
      split
      · exact (State.setTsk_keeps _ (Part.sub (by decide) hL0) (SameBut.foldl (fun _ _ h1 => (State.cancelItem_keeps _ (Part.sub (by decide) hL0) h1)) (State.postFlag_keeps _ _ (Part.sub (by decide) hL0) h0)))
      · exact (State.setTsk_keeps _ (Part.sub (by decide) hL0) (SameBut.foldl (fun _ _ h2 => (State.cancelItem_keeps _ (Part.sub (by decide) hL0) h2)) (State.postFlag_keeps _ _ (Part.sub (by decide) hL0) h0))))

theorem State.takeItem_keeps {L : List Part} {s0 s : State} (n : Fin 8)
    (hL0 : [.tsk, .resp] ⊆ L) (h0 : SameBut L s0 s) :
    SameBut L s0 (s.takeItem n) := by
  unfold State.takeItem
  split
  · exact (State.reply_keeps _ (Part.sub (by decide) hL0) h0)
  · exact (State.reply_keeps _ (Part.sub (by decide) hL0) (State.setCorePort_keeps _ _ (Part.sub (by decide) hL0) (State.setItem_keeps _ _ (Part.sub (by decide) hL0) (State.unlist_keeps _ (Part.sub (by decide) hL0) h0))))

theorem State.giveUp_keeps {L : List Part} {s0 s : State} (n : Fin 8) (i : Nat) (byYield : Bool)
    (hL0 : [.tsk, .resp] ⊆ L) (h0 : SameBut L s0 s) :
    SameBut L s0 (s.giveUp n i byYield) := by
  unfold State.giveUp
  exact (SameBut.ite (State.reply_keeps _ (Part.sub (by decide) hL0) (State.finish_keeps _ _ _ (Part.sub (by decide) hL0) h0)) (State.coreFault_keeps _ _ _ (Part.sub (by decide) hL0) h0))

theorem State.causeOf_keeps {L : List Part} {s0 s : State} (n : Fin 8)
    (hL0 : [.tsk, .resp] ⊆ L) (h0 : SameBut L s0 s) :
    SameBut L s0 (s.causeOf n) := by
  unfold State.causeOf
  exact (State.reply_keeps _ (Part.sub (by decide) hL0) (State.setCorePort_keeps _ _ (Part.sub (by decide) hL0) h0))

theorem State.itemOff_keeps {L : List Part} {s0 s : State} (i : Nat)
    (hL0 : [.tsk] ⊆ L) (h0 : SameBut L s0 s) :
    SameBut L s0 (s.itemOff i) := by
  unfold State.itemOff
  try dsimp only
  split
  · exact h0
  · exact (State.setItem_keeps _ _ (Part.sub (by decide) hL0) h0)
  · exact (State.setItem_keeps _ _ (Part.sub (by decide) hL0) (State.unlist_keeps _ (Part.sub (by decide) hL0) h0))
  · exact (State.setItem_keeps _ _ (Part.sub (by decide) hL0) h0)

theorem State.itemOn_keeps {L : List Part} {s0 s : State} (i : Nat)
    (hL0 : [.tsk] ⊆ L) (h0 : SameBut L s0 s) :
    SameBut L s0 (s.itemOn i) := by
  unfold State.itemOn
  try dsimp only
  split
  · exact (State.setItem_keeps _ _ (Part.sub (by decide) hL0) h0)
  · exact (State.setItem_keeps _ _ (Part.sub (by decide) hL0) h0)
  · exact h0

theorem State.opItemCfg_keeps {L : List Part} {s0 s : State} (r : Req) (v : Word)
    (hL0 : [.regs, .seam, .evt, .tsk, .hif, .resp, .out] ⊆ L) (h0 : SameBut L s0 s) :
    SameBut L s0 (s.opItemCfg r v) := by
  unfold State.opItemCfg
  exact (SameBut.ite (State.refuse_keeps _ _ (Part.sub (by decide) hL0) h0) (SameBut.ite (State.itemOn_keeps _ (Part.sub (by decide) hL0) (State.store_keeps _ _ (Part.sub (by decide) hL0) h0)) (SameBut.ite (State.itemOff_keeps _ (Part.sub (by decide) hL0) (State.store_keeps _ _ (Part.sub (by decide) hL0) h0)) (State.store_keeps _ _ (Part.sub (by decide) hL0) h0))))

theorem State.opItemMask_keeps {L : List Part} {s0 s : State} (r : Req) (v : Word)
    (hL0 : [.regs, .seam, .evt, .tsk, .hif, .resp, .out] ⊆ L) (h0 : SameBut L s0 s) :
    SameBut L s0 (s.opItemMask r v) := by
  unfold State.opItemMask
  exact (SameBut.ite (State.refuse_keeps _ _ (Part.sub (by decide) hL0) h0) (State.store_keeps _ _ (Part.sub (by decide) hL0) h0))

theorem State.opTskCtl_keeps {L : List Part} {s0 s : State} (v : Word)
    (hL0 : [.regs, .tsk] ⊆ L) (h0 : SameBut L s0 s) :
    SameBut L s0 (s.opTskCtl v) := by
  unfold State.opTskCtl
  exact (SameBut.ite (SameBut.foldl (fun _ _ h1 => (SameBut.foldl (fun _ _ h2 => (State.announceReady_keeps _ _ (Part.sub (by decide) hL0) h2)) h1)) (State.store_keeps _ _ (Part.sub (by decide) hL0) h0)) (State.store_keeps _ _ (Part.sub (by decide) hL0) h0))

theorem State.opPost_keeps {L : List Part} {s0 s : State} (r : Req) (v : Word)
    (hL0 : [.tsk] ⊆ L) (h0 : SameBut L s0 s) :
    SameBut L s0 (s.opPost r v) := by
  unfold State.opPost
  exact (State.enqueuePost_keeps _ (Part.sub (by decide) hL0) h0)

theorem State.writeDescriptor_keeps {L : List Part} {s0 s : State}
    (hL0 : [.regs, .mem, .seam, .excWait, .bufs, .ecc, .lports, .evt, .log, .tsk, .cpu, .hif, .out] ⊆ L) (h0 : SameBut L s0 s) :
    SameBut L s0 (s.writeDescriptor) := by
  unfold State.writeDescriptor
  split
  · exact h0
  · exact (SameBut.ite (State.dropHeld_keeps _ (Part.sub (by decide) hL0) (State.fire_keeps _ _ (Part.sub (by decide) hL0) (State.bump_keeps _ (Part.sub (by decide) hL0) (SameBut.upd_excWait (Part.sub (by decide) hL0) h0)))) (State.enqueuePost_keeps _ (Part.sub (by decide) hL0) (State.bump_keeps _ (Part.sub (by decide) hL0) (State.setFld_keeps _ _ (Part.sub (by decide) hL0) (SameBut.upd_cpu (Part.sub (by decide) hL0) (State.storeBytes_keeps _ _ (Part.sub (by decide) hL0) (SameBut.upd_excWait (Part.sub (by decide) hL0) h0)))))))

theorem State.takeHold_keeps {L : List Part} {s0 s : State} (pos : Nat)
    (hL0 : [.bufs, .cpu] ⊆ L) (h0 : SameBut L s0 s) :
    SameBut L s0 (s.takeHold pos) := by
  unfold State.takeHold
  split
  · exact h0
  · exact (SameBut.ite (State.setBuf_keeps _ _ (Part.sub (by decide) hL0) (SameBut.upd_cpu (Part.sub (by decide) hL0) h0)) (SameBut.upd_cpu (Part.sub (by decide) hL0) h0))

theorem State.opExcTail_keeps {L : List Part} {s0 s : State} (v : Word)
    (hL0 : [.regs, .bufs, .cpu] ⊆ L) (h0 : SameBut L s0 s) :
    SameBut L s0 (s.opExcTail v) := by
  unfold State.opExcTail
  exact (State.setFld_keeps _ _ (Part.sub (by decide) hL0) (SameBut.foldl (fun _ _ h1 => (State.takeHold_keeps _ (Part.sub (by decide) hL0) h1)) h0))

theorem State.opExcCfg_keeps {L : List Part} {s0 s : State} (r : Req) (v : Word)
    (hL0 : [.regs, .seam, .evt, .tsk, .hif, .resp, .out] ⊆ L) (h0 : SameBut L s0 s) :
    SameBut L s0 (s.opExcCfg r v) := by
  unfold State.opExcCfg
  exact (SameBut.ite (State.refuse_keeps _ _ (Part.sub (by decide) hL0) h0) (State.store_keeps _ _ (Part.sub (by decide) hL0) h0))

theorem State.opInject_keeps {L : List Part} {s0 s : State} (v : Word)
    (hL0 : [.regs, .seam, .cmt, .nextPkt, .pipes, .bufs, .queues, .lports, .evt, .log, .tsk, .hif, .out] ⊆ L) (h0 : SameBut L s0 s) :
    SameBut L s0 (s.opInject v) := by
  unfold State.opInject
  exact (SameBut.ite h0 (SameBut.ite (State.fire_keeps _ _ (Part.sub (by decide) hL0) (State.setFld_keeps _ _ (Part.sub (by decide) hL0) h0)) (SameBut.ite (State.enqueue_keeps _ (Part.sub (by decide) hL0) (SameBut.upd_nextPkt (Part.sub (by decide) hL0) (State.setBuf_keeps _ _ (Part.sub (by decide) hL0) (State.bump_keeps _ (Part.sub (by decide) hL0) (State.setFld_keeps _ _ (Part.sub (by decide) hL0) h0))))) (State.enterPath_keeps _ (Part.sub (by decide) hL0) (State.bump_keeps _ (Part.sub (by decide) hL0) (State.setFld_keeps _ _ (Part.sub (by decide) hL0) h0))))))

theorem State.port_keeps {L : List Part} {s0 s : State} (n : Fin 8) (f : State → State)
    (hL0 : [] ⊆ L) (hop : ∀ t, SameBut L s0 t → SameBut L s0 (f t)) (h0 : SameBut L s0 s) :
    SameBut L s0 (s.port n f) := by
  unfold State.port
  exact (SameBut.ite (hop _ h0) h0)

theorem execTake_keeps (n : Fin 8) (s : State) :
    ResKeeps [.tsk, .resp] s (execTake n s) := by
  have hL0 := List.Subset.refl ([.tsk, .resp] : List Part)
  have h0 := SameBut.refl [.tsk, .resp] s
  unfold execTake
  exact (ResKeeps.next (State.port_keeps _ _ (Part.sub (by decide) hL0) (fun _ h1 => (State.takeItem_keeps _ (Part.sub (by decide) hL0) h1)) h0))

theorem execItemDone_keeps (n : Fin 8) (item : BitVec 12) (s : State) :
    ResKeeps [.tsk, .resp] s (execItemDone n item s) := by
  have hL0 := List.Subset.refl ([.tsk, .resp] : List Part)
  have h0 := SameBut.refl [.tsk, .resp] s
  unfold execItemDone
  exact (ResKeeps.next (State.port_keeps _ _ (Part.sub (by decide) hL0) (fun _ h1 => (State.giveUp_keeps _ _ _ (Part.sub (by decide) hL0) h1)) h0))

theorem execYield_keeps (n : Fin 8) (item : BitVec 12) (s : State) :
    ResKeeps [.tsk, .resp] s (execYield n item s) := by
  have hL0 := List.Subset.refl ([.tsk, .resp] : List Part)
  have h0 := SameBut.refl [.tsk, .resp] s
  unfold execYield
  exact (ResKeeps.next (State.port_keeps _ _ (Part.sub (by decide) hL0) (fun _ h1 => (State.giveUp_keeps _ _ _ (Part.sub (by decide) hL0) h1)) h0))

theorem execPortPost_keeps (n : Fin 8) (item : BitVec 12) (flag : BitVec 5) (s : State) :
    ResKeeps [.tsk, .resp] s (execPortPost n item flag s) := by
  have hL0 := List.Subset.refl ([.tsk, .resp] : List Part)
  have h0 := SameBut.refl [.tsk, .resp] s
  unfold execPortPost
  exact (ResKeeps.next (State.port_keeps _ _ (Part.sub (by decide) hL0) (fun _ h1 => (State.enqueuePost_keeps _ (Part.sub (by decide) hL0) (State.reply_keeps _ (Part.sub (by decide) hL0) h1))) h0))

theorem execPortCancel_keeps (n : Fin 8) (item : BitVec 12) (s : State) :
    ResKeeps [.tsk, .resp] s (execPortCancel n item s) := by
  have hL0 := List.Subset.refl ([.tsk, .resp] : List Part)
  have h0 := SameBut.refl [.tsk, .resp] s
  unfold execPortCancel
  exact (ResKeeps.next (State.port_keeps _ _ (Part.sub (by decide) hL0) (fun _ h1 => (State.cancelBy_keeps _ _ (Part.sub (by decide) hL0) (State.reply_keeps _ (Part.sub (by decide) hL0) h1))) h0))

theorem execCauseRead_keeps (n : Fin 8) (s : State) :
    ResKeeps [.tsk, .resp] s (execCauseRead n s) := by
  have hL0 := List.Subset.refl ([.tsk, .resp] : List Part)
  have h0 := SameBut.refl [.tsk, .resp] s
  unfold execCauseRead
  exact (ResKeeps.next (State.port_keeps _ _ (Part.sub (by decide) hL0) (fun _ h1 => (State.causeOf_keeps _ (Part.sub (by decide) hL0) h1)) h0))

theorem execTskPost_keeps (r : Req) (v : Word) (s : State) :
    ResKeeps [.regs, .seam, .evt, .tsk, .hif, .resp, .out] s (execTskPost r v s) := by
  have hL0 := List.Subset.refl ([.regs, .seam, .evt, .tsk, .hif, .resp, .out] : List Part)
  have h0 := SameBut.refl [.regs, .seam, .evt, .tsk, .hif, .resp, .out] s
  unfold execTskPost
  exact (ResKeeps.next (State.access_keeps _ _ _ _ (Part.sub (by decide) hL0) (fun _ h1 => (State.opPost_keeps _ _ (Part.sub (by decide) hL0) h1)) h0))

theorem execTskCancel_keeps (r : Req) (v : Word) (s : State) :
    ResKeeps [.regs, .seam, .evt, .tsk, .hif, .resp, .out] s (execTskCancel r v s) := by
  have hL0 := List.Subset.refl ([.regs, .seam, .evt, .tsk, .hif, .resp, .out] : List Part)
  have h0 := SameBut.refl [.regs, .seam, .evt, .tsk, .hif, .resp, .out] s
  unfold execTskCancel
  exact (ResKeeps.next (State.access_keeps _ _ _ _ (Part.sub (by decide) hL0) (fun _ h1 => (State.cancelBy_keeps _ _ (Part.sub (by decide) hL0) h1)) h0))

theorem execPostApply_keeps (s : State) :
    ResKeeps [.tsk] s (execPostApply s) := by
  have hL0 := List.Subset.refl ([.tsk] : List Part)
  have h0 := SameBut.refl [.tsk] s
  unfold execPostApply
  exact (ResKeeps.next (State.applyPost_keeps (Part.sub (by decide) hL0) h0))

theorem execItemCfgWrite_keeps (r : Req) (maskReg : Bool) (v : Word) (s : State) :
    ResKeeps [.regs, .seam, .evt, .tsk, .hif, .resp, .out] s (execItemCfgWrite r maskReg v s) := by
  have hL0 := List.Subset.refl ([.regs, .seam, .evt, .tsk, .hif, .resp, .out] : List Part)
  have h0 := SameBut.refl [.regs, .seam, .evt, .tsk, .hif, .resp, .out] s
  unfold execItemCfgWrite
  exact (ResKeeps.next (SameBut.ite (State.access_keeps _ _ _ _ (Part.sub (by decide) hL0) (fun _ h1 => (State.opItemMask_keeps _ _ (Part.sub (by decide) hL0) h1)) h0) (State.access_keeps _ _ _ _ (Part.sub (by decide) hL0) (fun _ h2 => (State.opItemCfg_keeps _ _ (Part.sub (by decide) hL0) h2)) h0)))

theorem execTskEnable_keeps (r : Req) (v : Word) (s : State) :
    ResKeeps [.regs, .seam, .evt, .tsk, .hif, .resp, .out] s (execTskEnable r v s) := by
  have hL0 := List.Subset.refl ([.regs, .seam, .evt, .tsk, .hif, .resp, .out] : List Part)
  have h0 := SameBut.refl [.regs, .seam, .evt, .tsk, .hif, .resp, .out] s
  unfold execTskEnable
  exact (ResKeeps.next (State.access_keeps _ _ _ _ (Part.sub (by decide) hL0) (fun _ h1 => (State.opTskCtl_keeps _ (Part.sub (by decide) hL0) h1)) h0))

theorem execExcDescriptorWrite_keeps (s : State) :
    ResKeeps [.regs, .mem, .seam, .excWait, .bufs, .ecc, .lports, .evt, .log, .tsk, .cpu, .hif, .out] s (execExcDescriptorWrite s) := by
  have hL0 := List.Subset.refl ([.regs, .mem, .seam, .excWait, .bufs, .ecc, .lports, .evt, .log, .tsk, .cpu, .hif, .out] : List Part)
  have h0 := SameBut.refl [.regs, .mem, .seam, .excWait, .bufs, .ecc, .lports, .evt, .log, .tsk, .cpu, .hif, .out] s
  unfold execExcDescriptorWrite
  exact (ResKeeps.next (State.writeDescriptor_keeps (Part.sub (by decide) hL0) h0))

theorem execExcTailWrite_keeps (r : Req) (v : Word) (s : State) :
    ResKeeps [.regs, .seam, .bufs, .evt, .tsk, .cpu, .hif, .resp, .out] s (execExcTailWrite r v s) := by
  have hL0 := List.Subset.refl ([.regs, .seam, .bufs, .evt, .tsk, .cpu, .hif, .resp, .out] : List Part)
  have h0 := SameBut.refl [.regs, .seam, .bufs, .evt, .tsk, .cpu, .hif, .resp, .out] s
  unfold execExcTailWrite
  exact (ResKeeps.next (State.access_keeps _ _ _ _ (Part.sub (by decide) hL0) (fun _ h1 => (State.opExcTail_keeps _ (Part.sub (by decide) hL0) h1)) h0))

theorem execInjectPath_keeps (r : Req) (v : Word) (s : State) :
    ResKeeps [.regs, .seam, .cmt, .nextPkt, .pipes, .bufs, .queues, .lports, .evt, .log, .tsk, .hif, .resp, .out] s (execInjectPath r v s) := by
  have hL0 := List.Subset.refl ([.regs, .seam, .cmt, .nextPkt, .pipes, .bufs, .queues, .lports, .evt, .log, .tsk, .hif, .resp, .out] : List Part)
  have h0 := SameBut.refl [.regs, .seam, .cmt, .nextPkt, .pipes, .bufs, .queues, .lports, .evt, .log, .tsk, .hif, .resp, .out] s
  unfold execInjectPath
  exact (ResKeeps.next (State.access_keeps _ _ _ _ (Part.sub (by decide) hL0) (fun _ h1 => (State.opInject_keeps _ (Part.sub (by decide) hL0) h1)) h0))

theorem execInjectDirect_keeps (r : Req) (v : Word) (s : State) :
    ResKeeps [.regs, .seam, .cmt, .nextPkt, .pipes, .bufs, .queues, .lports, .evt, .log, .tsk, .hif, .resp, .out] s (execInjectDirect r v s) := by
  have hL0 := List.Subset.refl ([.regs, .seam, .cmt, .nextPkt, .pipes, .bufs, .queues, .lports, .evt, .log, .tsk, .hif, .resp, .out] : List Part)
  have h0 := SameBut.refl [.regs, .seam, .cmt, .nextPkt, .pipes, .bufs, .queues, .lports, .evt, .log, .tsk, .hif, .resp, .out] s
  unfold execInjectDirect
  exact (ResKeeps.next (State.access_keeps _ _ _ _ (Part.sub (by decide) hL0) (fun _ h1 => (State.opInject_keeps _ (Part.sub (by decide) hL0) h1)) h0))

theorem execXwinWrite_keeps (r : Req) (n : Fin 8) (v : Word) (s : State) :
    ResKeeps [.regs, .seam, .evt, .tsk, .hif, .resp, .out] s (execXwinWrite r n v s) := by
  have hL0 := List.Subset.refl ([.regs, .seam, .evt, .tsk, .hif, .resp, .out] : List Part)
  have h0 := SameBut.refl [.regs, .seam, .evt, .tsk, .hif, .resp, .out] s
  unfold execXwinWrite
  exact (ResKeeps.next (State.access_keeps _ _ _ _ (Part.sub (by decide) hL0) (fun _ h1 => (State.store_keeps _ _ (Part.sub (by decide) hL0) h1)) h0))

end Sys2Proof.Machine
end

