-- ==== Sys2Proof/Laws/Power.lean ====
section
/-! SUPPORT. Which parts of the state each operation of Machine/Power.lean can change. -/

namespace Sys2Proof.Machine

open Sys2Proof

set_option linter.unusedTactic false
set_option linter.unreachableTactic false
set_option linter.unusedVariables false

theorem State.setPwr_keeps {L : List Part} {s0 s : State} (f : Pwr → Pwr)
    (hL0 : [.pwr] ⊆ L) (h0 : SameBut L s0 s) :
    SameBut L s0 (s.setPwr f) := by
  unfold State.setPwr
  exact (SameBut.upd_pwr (Part.sub (by decide) hL0) h0)

theorem State.setRegulator_keeps {L : List Part} {s0 s : State} (line : Bool) (x : PmbReq)
    (hL0 : [.pwr] ⊆ L) (h0 : SameBut L s0 s) :
    SameBut L s0 (s.setRegulator line x) := by
  unfold State.setRegulator
  exact (State.setPwr_keeps _ (Part.sub (by decide) hL0) h0)

theorem State.pmbSend_keeps {L : List Part} {s0 s : State} (line : Bool) (cmds : List PmbCmd)
    (hL0 : [.out] ⊆ L) (h0 : SameBut L s0 s) :
    SameBut L s0 (s.pmbSend line cmds) := by
  unfold State.pmbSend
  exact (SameBut.foldl (fun _ _ h1 => (State.emit_keeps _ (Part.sub (by decide) hL0) h1)) h0)

theorem State.commandReg_keeps {L : List Part} {s0 s : State} (line : Bool) (l : BitVec 2) (on : Bool)
    (hL0 : [.pwr, .out] ⊆ L) (h0 : SameBut L s0 s) :
    SameBut L s0 (s.commandReg line l on) := by
  unfold State.commandReg
  exact (State.pmbSend_keeps _ _ (Part.sub (by decide) hL0) (State.setRegulator_keeps _ _ (Part.sub (by decide) hL0) h0))

theorem State.regOff_keeps {L : List Part} {s0 s : State} (line : Bool)
    (hL0 : [.pwr, .out] ⊆ L) (h0 : SameBut L s0 s) :
    SameBut L s0 (s.regOff line) := by
  unfold State.regOff
  exact (State.pmbSend_keeps _ _ (Part.sub (by decide) hL0) (State.setRegulator_keeps _ _ (Part.sub (by decide) hL0) h0))

theorem State.startLevel_keeps {L : List Part} {s0 s : State} (l : BitVec 2)
    (hL0 : [.pwr, .out] ⊆ L) (h0 : SameBut L s0 s) :
    SameBut L s0 (s.startLevel l) := by
  unfold State.startLevel
  exact (State.commandReg_keeps _ _ _ (Part.sub (by decide) hL0) (State.commandReg_keeps _ _ _ (Part.sub (by decide) hL0) (State.setPwr_keeps _ (Part.sub (by decide) hL0) h0)))

theorem State.takeLevel_keeps {L : List Part} {s0 s : State}
    (hL0 : [.pwr, .out] ⊆ L) (h0 : SameBut L s0 s) :
    SameBut L s0 (s.takeLevel) := by
  unfold State.takeLevel
  split
  · exact (SameBut.ite h0 (State.startLevel_keeps _ (Part.sub (by decide) hL0) (State.setPwr_keeps _ (Part.sub (by decide) hL0) h0)))
  · exact h0

theorem State.levelDone_keeps {L : List Part} {s0 s : State}
    (hL0 : [.regs, .seam, .evt, .tsk, .pwr, .hif, .out] ⊆ L) (h0 : SameBut L s0 s) :
    SameBut L s0 (s.levelDone) := by
  unfold State.levelDone
  exact (State.takeLevel_keeps (Part.sub (by decide) hL0) (State.fire_keeps _ _ (Part.sub (by decide) hL0) (State.bump_keeps _ (Part.sub (by decide) hL0) (State.setPwr_keeps _ (Part.sub (by decide) hL0) h0))))

theorem State.levelFail_keeps {L : List Part} {s0 s : State}
    (hL0 : [.regs, .seam, .evt, .tsk, .pwr, .hif, .out] ⊆ L) (h0 : SameBut L s0 s) :
    SameBut L s0 (s.levelFail) := by
  unfold State.levelFail
  exact (State.takeLevel_keeps (Part.sub (by decide) hL0) (State.fire_keeps _ _ (Part.sub (by decide) hL0) (State.bump_keeps _ (Part.sub (by decide) hL0) (SameBut.ite (State.commandReg_keeps _ _ _ (Part.sub (by decide) hL0) (State.commandReg_keeps _ _ _ (Part.sub (by decide) hL0) (State.setPwr_keeps _ (Part.sub (by decide) hL0) h0))) (State.setPwr_keeps _ (Part.sub (by decide) hL0) h0)))))

theorem State.opPwrCtl_keeps {L : List Part} {s0 s : State} (v : Word)
    (hL0 : [.regs, .pwr, .out] ⊆ L) (h0 : SameBut L s0 s) :
    SameBut L s0 (s.opPwrCtl v) := by
  unfold State.opPwrCtl
  exact (SameBut.ite (State.setPwr_keeps _ (Part.sub (by decide) hL0) (State.store_keeps _ _ (Part.sub (by decide) hL0) h0)) (State.startLevel_keeps _ (Part.sub (by decide) hL0) (State.store_keeps _ _ (Part.sub (by decide) hL0) h0)))

theorem State.opPmbCfg_keeps {L : List Part} {s0 s : State} (v : Word)
    (hL0 : [.regs] ⊆ L) (h0 : SameBut L s0 s) :
    SameBut L s0 (s.opPmbCfg v) := by
  unfold State.opPmbCfg
  exact (State.store_keeps _ _ (Part.sub (by decide) hL0) h0)

theorem State.bootStart_keeps {L : List Part} {s0 s : State}
    (hL0 : [.rst, .timers] ⊆ L) (h0 : SameBut L s0 s) :
    SameBut L s0 (s.bootStart) := by
  unfold State.bootStart
  exact (State.startTimer_keeps _ (Part.sub (by decide) hL0) (SameBut.upd_rst (Part.sub (by decide) hL0) h0))

theorem State.finishWake_keeps {L : List Part} {s0 s : State}
    (hL0 : [.regs, .seam, .evt, .tsk, .pwr, .hif, .timers, .out] ⊆ L) (h0 : SameBut L s0 s) :
    SameBut L s0 (s.finishWake) := by
  unfold State.finishWake
  exact (SameBut.ite (State.takeLevel_keeps (Part.sub (by decide) hL0) (SameBut.ite (State.startTimer_keeps _ (Part.sub (by decide) hL0) (State.fire_keeps _ _ (Part.sub (by decide) hL0) (State.bump_keeps _ (Part.sub (by decide) hL0) (State.setPwr_keeps _ (Part.sub (by decide) hL0) (State.setPwr_keeps _ (Part.sub (by decide) hL0) h0))))) (State.fire_keeps _ _ (Part.sub (by decide) hL0) (State.bump_keeps _ (Part.sub (by decide) hL0) (State.setPwr_keeps _ (Part.sub (by decide) hL0) (State.setPwr_keeps _ (Part.sub (by decide) hL0) h0)))))) (State.takeLevel_keeps (Part.sub (by decide) hL0) (State.setPwr_keeps _ (Part.sub (by decide) hL0) h0)))

theorem State.startChains_keeps {L : List Part} {s0 s : State}
    (hL0 : [.regs, .seam, .cmt, .rx, .dsf, .tribs, .act, .upb, .restarts, .pairs, .pipes, .epochs, .shapers, .policers, .evt, .tsk, .hif, .timers, .out] ⊆ L) (h0 : SameBut L s0 s) :
    SameBut L s0 (s.startChains) := by
  unfold State.startChains
  exact (SameBut.foldl (fun _ _ h1 => (SameBut.ite (State.rxOn_keeps _ (Part.sub (by decide) hL0) h1) h1)) h0)

theorem State.loadTime_keeps {L : List Part} {s0 s : State}
    (hL0 : [.regs, .seam, .tim, .evt, .tsk, .hif, .clock, .out] ⊆ L) (h0 : SameBut L s0 s) :
    SameBut L s0 (s.loadTime) := by
  unfold State.loadTime
  exact (SameBut.ite (State.setQual_keeps _ (Part.sub (by decide) hL0) (SameBut.upd_clock (Part.sub (by decide) hL0) h0)) (State.setQual_keeps _ (Part.sub (by decide) hL0) (State.wr_keeps _ _ (Part.sub (by decide) hL0) (State.setTim_keeps _ (Part.sub (by decide) hL0) (SameBut.upd_clock (Part.sub (by decide) hL0) h0)))))

theorem State.logicDone_keeps {L : List Part} {s0 s : State}
    (hL0 : [.regs, .seam, .cmt, .rx, .dsf, .tribs, .act, .upb, .restarts, .pairs, .pipes, .epochs, .shapers, .policers, .tim, .evt, .tsk, .pwr, .rst, .hif, .clock, .timers, .out] ⊆ L) (h0 : SameBut L s0 s) :
    SameBut L s0 (s.logicDone) := by
  unfold State.logicDone
  exact (SameBut.ite (State.bootStart_keeps (Part.sub (by decide) hL0) (State.finishWake_keeps (Part.sub (by decide) hL0) h0)) (SameBut.ite (State.bootStart_keeps (Part.sub (by decide) hL0) (SameBut.upd_rst (Part.sub (by decide) hL0) (State.loadTime_keeps (Part.sub (by decide) hL0) h0))) (State.finishWake_keeps (Part.sub (by decide) hL0) (State.startChains_keeps (Part.sub (by decide) hL0) (State.setTim_keeps _ (Part.sub (by decide) hL0) (SameBut.upd_seam_clock (Part.sub (by decide) hL0) h0))))))

theorem State.logicStep_keeps {L : List Part} {s0 s : State}
    (hL0 : [.regs, .seam, .cmt, .rx, .dsf, .tribs, .act, .upb, .restarts, .pairs, .pipes, .epochs, .shapers, .policers, .tim, .evt, .tsk, .pwr, .rst, .hif, .clock, .timers, .out] ⊆ L) (h0 : SameBut L s0 s) :
    SameBut L s0 (s.logicStep) := by
  unfold State.logicStep
  exact (SameBut.ite (State.logicDone_keeps (Part.sub (by decide) hL0) (State.setPwr_keeps _ (Part.sub (by decide) hL0) h0)) (State.setPwr_keeps _ (Part.sub (by decide) hL0) h0))

theorem State.memCheck_keeps {L : List Part} {s0 s : State}
    (hL0 : [.regs, .seam, .cmt, .rx, .dsf, .tribs, .act, .upb, .restarts, .pairs, .pipes, .epochs, .shapers, .policers, .tim, .evt, .tsk, .pwr, .rst, .hif, .clock, .timers, .out] ⊆ L) (h0 : SameBut L s0 s) :
    SameBut L s0 (s.memCheck) := by
  unfold State.memCheck
  exact (SameBut.ite (SameBut.ite (State.finishWake_keeps (Part.sub (by decide) hL0) h0) (State.logicStep_keeps (Part.sub (by decide) hL0) h0)) h0)

theorem State.memStep_keeps {L : List Part} {s0 s : State}
    (hL0 : [.regs, .seam, .cmt, .rx, .dsf, .tribs, .act, .upb, .restarts, .pairs, .pipes, .epochs, .memch, .shapers, .policers, .tim, .evt, .tsk, .pwr, .rst, .hif, .clock, .timers, .out] ⊆ L) (h0 : SameBut L s0 s) :
    SameBut L s0 (s.memStep) := by
  unfold State.memStep
  exact (State.memCheck_keeps (Part.sub (by decide) hL0) (SameBut.ite (SameBut.foldl (fun _ _ h1 => (SameBut.ite (SameBut.ite (State.startTraining_keeps _ _ (Part.sub (by decide) hL0) h1) (State.setCh_keeps _ _ (Part.sub (by decide) hL0) h1)) h1)) (State.setPwr_keeps _ (Part.sub (by decide) hL0) h0)) (State.setPwr_keeps _ (Part.sub (by decide) hL0) h0)))

theorem State.enterLimp_keeps {L : List Part} {s0 s : State}
    (hL0 : [.regs, .seam, .cmt, .rx, .dsf, .tribs, .act, .upb, .restarts, .txEff, .pairs, .pipes, .epochs, .shapers, .policers, .tim, .evt, .tsk, .pwr, .hif, .timers, .out, .fresh] ⊆ L) (h0 : SameBut L s0 s) :
    SameBut L s0 (s.enterLimp) := by
  unfold State.enterLimp
  exact (State.setQual_keeps _ (Part.sub (by decide) hL0) (SameBut.foldl (fun _ _ h1 => (State.rxOff_keeps _ (Part.sub (by decide) hL0) h1)) (State.fire_keeps _ _ (Part.sub (by decide) hL0) (State.bump_keeps _ (Part.sub (by decide) hL0) (State.setPwr_keeps _ (Part.sub (by decide) hL0) h0)))))

theorem State.oscDone_keeps {L : List Part} {s0 s : State}
    (hL0 : [.regs, .seam, .cmt, .rx, .dsf, .tribs, .act, .upb, .restarts, .pairs, .pipes, .epochs, .memch, .shapers, .policers, .tim, .evt, .tsk, .pwr, .rst, .hif, .clock, .timers, .out] ⊆ L) (h0 : SameBut L s0 s) :
    SameBut L s0 (s.oscDone) := by
  unfold State.oscDone
  exact (SameBut.ite (SameBut.ite (State.setPwr_keeps _ (Part.sub (by decide) hL0) (State.stopTimer_keeps _ (Part.sub (by decide) hL0) h0)) (State.logicStep_keeps (Part.sub (by decide) hL0) (State.stopTimer_keeps _ (Part.sub (by decide) hL0) h0))) (SameBut.ite (State.logicStep_keeps (Part.sub (by decide) hL0) (State.stopTimer_keeps _ (Part.sub (by decide) hL0) h0)) (State.memStep_keeps (Part.sub (by decide) hL0) (State.stopTimer_keeps _ (Part.sub (by decide) hL0) h0))))

theorem State.oscStep_keeps {L : List Part} {s0 s : State}
    (hL0 : [.regs, .seam, .cmt, .rx, .dsf, .tribs, .act, .upb, .restarts, .pairs, .pipes, .epochs, .memch, .shapers, .policers, .tim, .evt, .tsk, .pwr, .rst, .hif, .clock, .timers, .out] ⊆ L) (h0 : SameBut L s0 s) :
    SameBut L s0 (s.oscStep) := by
  unfold State.oscStep
  exact (SameBut.ite (State.startTimer_keeps _ (Part.sub (by decide) hL0) (State.setPwr_keeps _ (Part.sub (by decide) hL0) h0)) (State.oscDone_keeps (Part.sub (by decide) hL0) h0))

theorem State.regStep_keeps {L : List Part} {s0 s : State} (line : Option Bool) (fab : Option Bool)
    (hL0 : [.pwr, .out] ⊆ L) (h0 : SameBut L s0 s) :
    SameBut L s0 (s.regStep line fab) := by
  unfold State.regStep
  try dsimp only
  split
  · exact (State.commandReg_keeps _ _ _ (Part.sub (by decide) hL0) (by
      split
      · exact (State.commandReg_keeps _ _ _ (Part.sub (by decide) hL0) (State.setPwr_keeps _ (Part.sub (by decide) hL0) h0))
      · exact (State.setPwr_keeps _ (Part.sub (by decide) hL0) h0)))
  · exact (by
      split
      · exact (State.commandReg_keeps _ _ _ (Part.sub (by decide) hL0) (State.setPwr_keeps _ (Part.sub (by decide) hL0) h0))
      · exact (State.setPwr_keeps _ (Part.sub (by decide) hL0) h0))

theorem State.startWake_keeps {L : List Part} {s0 s : State} (src : Nat) (gpio : Nat)
    (hL0 : [.regs, .seam, .cmt, .rx, .dsf, .tribs, .act, .upb, .restarts, .pairs, .pipes, .epochs, .memch, .shapers, .policers, .tim, .evt, .tsk, .pwr, .rst, .hif, .clock, .timers, .out] ⊆ L) (h0 : SameBut L s0 s) :
    SameBut L s0 (s.startWake src gpio) := by
  unfold State.startWake
  try dsimp only
  split
  · exact h0
  · exact (State.memStep_keeps (Part.sub (by decide) hL0) (State.setPwr_keeps _ (Part.sub (by decide) hL0) (State.wr_keeps _ _ (Part.sub (by decide) hL0) h0)))
  · exact (State.regStep_keeps _ _ (Part.sub (by decide) hL0) (State.setPwr_keeps _ (Part.sub (by decide) hL0) (State.wr_keeps _ _ (Part.sub (by decide) hL0) h0)))
  · exact (State.regStep_keeps _ _ (Part.sub (by decide) hL0) (State.setPwr_keeps _ (Part.sub (by decide) hL0) (State.wr_keeps _ _ (Part.sub (by decide) hL0) h0)))

theorem State.wakeFail_keeps {L : List Part} {s0 s : State} (line : Bool)
    (hL0 : [.regs, .seam, .evt, .tsk, .pwr, .hif, .out] ⊆ L) (h0 : SameBut L s0 s) :
    SameBut L s0 (s.wakeFail line) := by
  unfold State.wakeFail
  exact (SameBut.ite (State.fire_keeps _ _ (Part.sub (by decide) hL0) (State.setPwr_keeps _ (Part.sub (by decide) hL0) (State.bump_keeps _ (Part.sub (by decide) hL0) (State.wr_keeps _ _ (Part.sub (by decide) hL0) (SameBut.ite (State.regOff_keeps _ (Part.sub (by decide) hL0) (State.regOff_keeps _ (Part.sub (by decide) hL0) h0)) (State.regOff_keeps _ (Part.sub (by decide) hL0) h0)))))) (State.setPwr_keeps _ (Part.sub (by decide) hL0) (State.setPwr_keeps _ (Part.sub (by decide) hL0) (State.bump_keeps _ (Part.sub (by decide) hL0) (State.wr_keeps _ _ (Part.sub (by decide) hL0) (SameBut.ite (State.regOff_keeps _ (Part.sub (by decide) hL0) (State.regOff_keeps _ (Part.sub (by decide) hL0) h0)) (State.regOff_keeps _ (Part.sub (by decide) hL0) h0)))))))

theorem State.regsDone_keeps {L : List Part} {s0 s : State}
    (hL0 : [.regs, .seam, .cmt, .rx, .dsf, .tribs, .act, .upb, .restarts, .pairs, .pipes, .epochs, .memch, .shapers, .policers, .tim, .evt, .tsk, .pwr, .rst, .hif, .clock, .timers, .out] ⊆ L) (h0 : SameBut L s0 s) :
    SameBut L s0 (s.regsDone) := by
  unfold State.regsDone
  exact (SameBut.ite h0 (SameBut.ite (State.levelDone_keeps (Part.sub (by decide) hL0) h0) (SameBut.ite (State.oscStep_keeps (Part.sub (by decide) hL0) (State.setPwr_keeps _ (Part.sub (by decide) hL0) h0)) h0)))

theorem State.memPower_keeps {L : List Part} {s0 s : State} (m : Chan)
    (hL0 : [.memch] ⊆ L) (h0 : SameBut L s0 s) :
    SameBut L s0 (s.memPower m) := by
  unfold State.memPower
  exact (SameBut.ite (SameBut.ite (State.setCh_keeps _ _ (Part.sub (by decide) hL0) h0) (State.startTraining_keeps _ _ (Part.sub (by decide) hL0) h0)) (SameBut.ite (State.startTraining_keeps _ _ (Part.sub (by decide) hL0) h0) h0))

theorem State.domGood_keeps {L : List Part} {s0 s : State} (d : Fin 34)
    (hL0 : [.regs, .seam, .cmt, .rx, .dsf, .tribs, .act, .upb, .restarts, .pairs, .pipes, .epochs, .memch, .shapers, .policers, .tim, .evt, .tsk, .pwr, .rst, .hif, .clock, .timers, .out] ⊆ L) (h0 : SameBut L s0 s) :
    SameBut L s0 (s.domGood d) := by
  unfold State.domGood
  exact (SameBut.ite h0 (SameBut.ite (State.memCheck_keeps (Part.sub (by decide) hL0) (SameBut.ite (State.memPower_keeps _ (Part.sub (by decide) hL0) (SameBut.ite (State.fire_keeps _ _ (Part.sub (by decide) hL0) (State.setPwr_keeps _ (Part.sub (by decide) hL0) (State.setPwr_keeps _ (Part.sub (by decide) hL0) h0))) (State.setPwr_keeps _ (Part.sub (by decide) hL0) h0))) (SameBut.ite (State.fire_keeps _ _ (Part.sub (by decide) hL0) (State.setPwr_keeps _ (Part.sub (by decide) hL0) (State.setPwr_keeps _ (Part.sub (by decide) hL0) h0))) (State.setPwr_keeps _ (Part.sub (by decide) hL0) h0)))) (SameBut.ite (State.logicDone_keeps (Part.sub (by decide) hL0) (SameBut.ite (State.fire_keeps _ _ (Part.sub (by decide) hL0) (State.setPwr_keeps _ (Part.sub (by decide) hL0) (State.setPwr_keeps _ (Part.sub (by decide) hL0) h0))) (State.setPwr_keeps _ (Part.sub (by decide) hL0) h0))) (SameBut.ite (State.fire_keeps _ _ (Part.sub (by decide) hL0) (State.setPwr_keeps _ (Part.sub (by decide) hL0) (State.setPwr_keeps _ (Part.sub (by decide) hL0) h0))) (State.setPwr_keeps _ (Part.sub (by decide) hL0) h0)))))

theorem State.domFail_keeps {L : List Part} {s0 s : State} (d : Fin 34)
    (hL0 : [.regs, .seam, .cmt, .rx, .dsf, .tribs, .act, .upb, .restarts, .pairs, .pipes, .epochs, .shapers, .policers, .tim, .evt, .tsk, .pwr, .rst, .hif, .clock, .timers, .out] ⊆ L) (h0 : SameBut L s0 s) :
    SameBut L s0 (s.domFail d) := by
  unfold State.domFail
  exact (SameBut.ite h0 (SameBut.ite (State.memCheck_keeps (Part.sub (by decide) hL0) (State.fire_keeps _ _ (Part.sub (by decide) hL0) (State.setFld_keeps _ _ (Part.sub (by decide) hL0) (State.setPwr_keeps _ (Part.sub (by decide) hL0) h0)))) (SameBut.ite (State.logicDone_keeps (Part.sub (by decide) hL0) (State.fire_keeps _ _ (Part.sub (by decide) hL0) (State.setFld_keeps _ _ (Part.sub (by decide) hL0) (State.setPwr_keeps _ (Part.sub (by decide) hL0) h0)))) (State.fire_keeps _ _ (Part.sub (by decide) hL0) (State.setFld_keeps _ _ (Part.sub (by decide) hL0) (State.setPwr_keeps _ (Part.sub (by decide) hL0) h0))))))

theorem State.forget_keeps {L : List Part} {s0 s : State} (keep : Nat → Bool)
    (hL0 : [.regs, .shown, .mirror, .seam, .cmt, .own, .rx, .dsf, .tmap, .tribs, .tfrags, .rows, .ttest, .act, .upb, .restarts, .gsm, .txEff, .pairs, .key, .dark, .pipes, .epochs, .prog, .rcnt, .rcntHeld, .excWait, .bufs, .bufRot, .qmap, .memch, .ecc, .mxe, .queues, .turns, .elig, .shapers, .policers, .gates, .gateBusy, .lanes, .lports, .mdio, .tim, .evt, .log, .tsk, .cpu, .pwr, .rst, .sys, .hif, .clock, .timers] ⊆ L) (h0 : SameBut L s0 s) : SameBut L s0 (s.forget keep) := by
  intro p hp
  have a := h0 p hp
  cases p <;> first | exact a | exact absurd (hL0 (by decide)) hp

theorem State.deviceReset_keeps {L : List Part} {s0 s : State} (cause : BitVec 3)
    (hL0 : [.regs, .shown, .mirror, .seam, .cmt, .own, .rx, .dsf, .tmap, .tribs, .tfrags, .rows, .ttest, .act, .upb, .restarts, .gsm, .txEff, .pairs, .key, .dark, .pipes, .epochs, .prog, .rcnt, .rcntHeld, .excWait, .bufs, .bufRot, .qmap, .memch, .ecc, .mxe, .queues, .turns, .elig, .shapers, .policers, .gates, .gateBusy, .lanes, .lports, .mdio, .tim, .evt, .log, .tsk, .cpu, .pwr, .rst, .sys, .hif, .clock, .timers, .out] ⊆ L) (h0 : SameBut L s0 s) :
    SameBut L s0 (s.deviceReset cause) := by
  unfold State.deviceReset
  exact (SameBut.ite (State.regStep_keeps _ _ (Part.sub (by decide) hL0) (SameBut.upd_own_pwr_rst_clock (Part.sub (by decide) hL0) (State.forget_keeps _ (Part.sub (by decide) hL0) h0))) (State.oscStep_keeps (Part.sub (by decide) hL0) (SameBut.upd_own_pwr_rst_clock (Part.sub (by decide) hL0) (State.forget_keeps _ (Part.sub (by decide) hL0) h0))))

theorem State.sleepRefuse_keeps {L : List Part} {s0 s : State} (cause : Nat)
    (hL0 : [.regs, .seam, .evt, .tsk, .pwr, .hif, .out] ⊆ L) (h0 : SameBut L s0 s) :
    SameBut L s0 (s.sleepRefuse cause) := by
  unfold State.sleepRefuse
  exact (State.fire_keeps _ _ (Part.sub (by decide) hL0) (State.setPwr_keeps _ (Part.sub (by decide) hL0) h0))

theorem State.nextEntry_keeps {L : List Part} {s0 s : State}
    (hL0 : [.pwr, .timers] ⊆ L) (h0 : SameBut L s0 s) :
    SameBut L s0 (s.nextEntry) := by
  unfold State.nextEntry
  exact (SameBut.ite (State.stopTimer_keeps _ (Part.sub (by decide) hL0) (State.setPwr_keeps _ (Part.sub (by decide) hL0) h0)) (State.startTimer_keeps _ (Part.sub (by decide) hL0) (State.setPwr_keeps _ (Part.sub (by decide) hL0) h0)))

theorem State.sleepCmd_keeps {L : List Part} {s0 s : State} (st : SleepSt)
    (hL0 : [.regs, .seam, .evt, .tsk, .pwr, .hif, .timers, .out] ⊆ L) (h0 : SameBut L s0 s) :
    SameBut L s0 (s.sleepCmd st) := by
  unfold State.sleepCmd
  exact (SameBut.ite h0 (SameBut.ite (State.sleepRefuse_keeps _ (Part.sub (by decide) hL0) h0) (SameBut.ite (State.startTimer_keeps _ (Part.sub (by decide) hL0) (State.setPwr_keeps _ (Part.sub (by decide) hL0) h0)) (State.setPwr_keeps _ (Part.sub (by decide) hL0) h0))))

theorem State.selfRefresh_keeps {L : List Part} {s0 s : State}
    (hL0 : [.memch, .pwr] ⊆ L) (h0 : SameBut L s0 s) :
    SameBut L s0 (s.selfRefresh) := by
  unfold State.selfRefresh
  exact (State.setPwr_keeps _ (Part.sub (by decide) hL0) (SameBut.foldl (fun _ _ h1 => (by
    try dsimp only
    split
    · exact (State.setCh_keeps _ _ (Part.sub (by decide) hL0) h1)
    · exact (State.setCh_keeps _ _ (Part.sub (by decide) hL0) h1)
    · exact (State.setCh_keeps _ _ (Part.sub (by decide) hL0) h1))) h0))

theorem State.enterDoze_keeps {L : List Part} {s0 s : State}
    (hL0 : [.memch, .pwr, .timers] ⊆ L) (h0 : SameBut L s0 s) :
    SameBut L s0 (s.enterDoze) := by
  unfold State.enterDoze
  exact (State.nextEntry_keeps (Part.sub (by decide) hL0) (State.setPwr_keeps _ (Part.sub (by decide) hL0) (State.selfRefresh_keeps (Part.sub (by decide) hL0) h0)))

theorem State.enterNap_keeps {L : List Part} {s0 s : State}
    (hL0 : [.regs, .seam, .cmt, .rx, .dsf, .tribs, .tfrags, .rows, .ttest, .act, .upb, .restarts, .txEff, .pairs, .key, .dark, .pipes, .epochs, .memch, .shapers, .policers, .evt, .tsk, .pwr, .hif, .timers, .out, .fresh] ⊆ L) (h0 : SameBut L s0 s) :
    SameBut L s0 (s.enterNap) := by
  unfold State.enterNap
  exact (State.nextEntry_keeps (Part.sub (by decide) hL0) (State.regOff_keeps _ (Part.sub (by decide) hL0) (State.setPwr_keeps _ (Part.sub (by decide) hL0) (State.selfRefresh_keeps (Part.sub (by decide) hL0) (SameBut.upd_seam_tribs_tfrags_rows_ttest_upb_key_dark (Part.sub (by decide) hL0) (State.eraseAll_keeps (Part.sub (by decide) hL0) (SameBut.foldl (fun _ _ h1 => (State.rxOff_keeps _ (Part.sub (by decide) hL0) h1)) h0)))))))

theorem State.enterDeep_keeps {L : List Part} {s0 s : State}
    (hL0 : [.regs, .shown, .mirror, .seam, .cmt, .own, .rx, .dsf, .tmap, .tribs, .tfrags, .rows, .ttest, .act, .upb, .restarts, .gsm, .txEff, .pairs, .key, .dark, .pipes, .epochs, .prog, .rcnt, .rcntHeld, .excWait, .bufs, .bufRot, .qmap, .memch, .ecc, .mxe, .queues, .turns, .elig, .shapers, .policers, .gates, .gateBusy, .lanes, .lports, .mdio, .tim, .evt, .log, .tsk, .cpu, .pwr, .rst, .sys, .hif, .pins, .clock, .timers, .out] ⊆ L) (h0 : SameBut L s0 s) :
    SameBut L s0 (s.enterDeep) := by
  unfold State.enterDeep
  exact (State.regOff_keeps _ (Part.sub (by decide) hL0) (State.regOff_keeps _ (Part.sub (by decide) hL0) (SameBut.upd_own_tim_pwr_pins_clock_timers (Part.sub (by decide) hL0) (State.forget_keeps _ (Part.sub (by decide) hL0) h0))))

theorem State.sleepEntry_keeps {L : List Part} {s0 s : State}
    (hL0 : [.regs, .shown, .mirror, .seam, .cmt, .own, .rx, .dsf, .tmap, .tribs, .tfrags, .rows, .ttest, .act, .upb, .restarts, .gsm, .txEff, .pairs, .key, .dark, .pipes, .epochs, .prog, .rcnt, .rcntHeld, .excWait, .bufs, .bufRot, .qmap, .memch, .ecc, .mxe, .queues, .turns, .elig, .shapers, .policers, .gates, .gateBusy, .lanes, .lports, .mdio, .tim, .evt, .log, .tsk, .cpu, .pwr, .rst, .sys, .hif, .pins, .clock, .timers, .out, .fresh] ⊆ L) (h0 : SameBut L s0 s) :
    SameBut L s0 (s.sleepEntry) := by
  unfold State.sleepEntry
  split
  · exact h0
  · exact (SameBut.ite (SameBut.ite (SameBut.ite (State.enterNap_keeps (Part.sub (by decide) hL0) h0) (State.enterDeep_keeps (Part.sub (by decide) hL0) h0)) h0) (SameBut.ite h0 (SameBut.ite (State.nextEntry_keeps (Part.sub (by decide) hL0) (State.sleepRefuse_keeps _ (Part.sub (by decide) hL0) h0)) (SameBut.ite (State.nextEntry_keeps (Part.sub (by decide) hL0) h0) (SameBut.ite (State.enterDoze_keeps (Part.sub (by decide) hL0) h0) (SameBut.ite (SameBut.ite (State.enterNap_keeps (Part.sub (by decide) hL0) (State.actOff_keeps (Part.sub (by decide) hL0) (State.setPwr_keeps _ (Part.sub (by decide) hL0) h0))) (State.enterDeep_keeps (Part.sub (by decide) hL0) (State.actOff_keeps (Part.sub (by decide) hL0) (State.setPwr_keeps _ (Part.sub (by decide) hL0) h0)))) (State.actOff_keeps (Part.sub (by decide) hL0) (State.setPwr_keeps _ (Part.sub (by decide) hL0) h0))))))))

theorem State.wakeBy_keeps {L : List Part} {s0 s : State} (src : Nat) (gpio : Nat)
    (hL0 : [.regs, .seam, .cmt, .rx, .dsf, .tribs, .act, .upb, .restarts, .pairs, .pipes, .epochs, .memch, .shapers, .policers, .tim, .evt, .tsk, .pwr, .rst, .hif, .clock, .timers, .out] ⊆ L) (h0 : SameBut L s0 s) :
    SameBut L s0 (s.wakeBy src gpio) := by
  unfold State.wakeBy
  exact (SameBut.ite h0 (SameBut.ite (State.presenceMoved_keeps _ (Part.sub (by decide) hL0) (State.sleepRefuse_keeps _ (Part.sub (by decide) hL0) (State.stopTimer_keeps _ (Part.sub (by decide) hL0) (State.setPwr_keeps _ (Part.sub (by decide) hL0) h0)))) (SameBut.ite h0 (State.startWake_keeps _ _ (Part.sub (by decide) hL0) h0))))

theorem State.opPwrCmd_keeps {L : List Part} {s0 s : State} (r : Req) (v : Word)
    (hL0 : [.regs, .seam, .cmt, .rx, .dsf, .tribs, .act, .upb, .restarts, .pairs, .pipes, .epochs, .memch, .shapers, .policers, .tim, .evt, .tsk, .pwr, .rst, .hif, .clock, .timers, .resp, .out] ⊆ L) (h0 : SameBut L s0 s) :
    SameBut L s0 (s.opPwrCmd r v) := by
  unfold State.opPwrCmd
  exact (SameBut.ite (SameBut.ite (State.refuse_keeps _ _ (Part.sub (by decide) hL0) (SameBut.ite (State.startWake_keeps _ _ (Part.sub (by decide) hL0) (SameBut.ite (State.sleepCmd_keeps _ (Part.sub (by decide) hL0) (SameBut.ite (State.sleepCmd_keeps _ (Part.sub (by decide) hL0) (SameBut.ite (State.sleepCmd_keeps _ (Part.sub (by decide) hL0) h0) h0)) (SameBut.ite (State.sleepCmd_keeps _ (Part.sub (by decide) hL0) h0) h0))) (SameBut.ite (State.sleepCmd_keeps _ (Part.sub (by decide) hL0) (SameBut.ite (State.sleepCmd_keeps _ (Part.sub (by decide) hL0) h0) h0)) (SameBut.ite (State.sleepCmd_keeps _ (Part.sub (by decide) hL0) h0) h0)))) (SameBut.ite (State.sleepCmd_keeps _ (Part.sub (by decide) hL0) (SameBut.ite (State.sleepCmd_keeps _ (Part.sub (by decide) hL0) (SameBut.ite (State.sleepCmd_keeps _ (Part.sub (by decide) hL0) h0) h0)) (SameBut.ite (State.sleepCmd_keeps _ (Part.sub (by decide) hL0) h0) h0))) (SameBut.ite (State.sleepCmd_keeps _ (Part.sub (by decide) hL0) (SameBut.ite (State.sleepCmd_keeps _ (Part.sub (by decide) hL0) h0) h0)) (SameBut.ite (State.sleepCmd_keeps _ (Part.sub (by decide) hL0) h0) h0))))) (SameBut.ite (State.memStep_keeps (Part.sub (by decide) hL0) (State.startChains_keeps (Part.sub (by decide) hL0) (State.setPwr_keeps _ (Part.sub (by decide) hL0) (SameBut.ite (State.startWake_keeps _ _ (Part.sub (by decide) hL0) (SameBut.ite (State.sleepCmd_keeps _ (Part.sub (by decide) hL0) (SameBut.ite (State.sleepCmd_keeps _ (Part.sub (by decide) hL0) (SameBut.ite (State.sleepCmd_keeps _ (Part.sub (by decide) hL0) h0) h0)) (SameBut.ite (State.sleepCmd_keeps _ (Part.sub (by decide) hL0) h0) h0))) (SameBut.ite (State.sleepCmd_keeps _ (Part.sub (by decide) hL0) (SameBut.ite (State.sleepCmd_keeps _ (Part.sub (by decide) hL0) h0) h0)) (SameBut.ite (State.sleepCmd_keeps _ (Part.sub (by decide) hL0) h0) h0)))) (SameBut.ite (State.sleepCmd_keeps _ (Part.sub (by decide) hL0) (SameBut.ite (State.sleepCmd_keeps _ (Part.sub (by decide) hL0) (SameBut.ite (State.sleepCmd_keeps _ (Part.sub (by decide) hL0) h0) h0)) (SameBut.ite (State.sleepCmd_keeps _ (Part.sub (by decide) hL0) h0) h0))) (SameBut.ite (State.sleepCmd_keeps _ (Part.sub (by decide) hL0) (SameBut.ite (State.sleepCmd_keeps _ (Part.sub (by decide) hL0) h0) h0)) (SameBut.ite (State.sleepCmd_keeps _ (Part.sub (by decide) hL0) h0) h0))))))) (SameBut.ite (State.startWake_keeps _ _ (Part.sub (by decide) hL0) (SameBut.ite (State.sleepCmd_keeps _ (Part.sub (by decide) hL0) (SameBut.ite (State.sleepCmd_keeps _ (Part.sub (by decide) hL0) (SameBut.ite (State.sleepCmd_keeps _ (Part.sub (by decide) hL0) h0) h0)) (SameBut.ite (State.sleepCmd_keeps _ (Part.sub (by decide) hL0) h0) h0))) (SameBut.ite (State.sleepCmd_keeps _ (Part.sub (by decide) hL0) (SameBut.ite (State.sleepCmd_keeps _ (Part.sub (by decide) hL0) h0) h0)) (SameBut.ite (State.sleepCmd_keeps _ (Part.sub (by decide) hL0) h0) h0)))) (SameBut.ite (State.sleepCmd_keeps _ (Part.sub (by decide) hL0) (SameBut.ite (State.sleepCmd_keeps _ (Part.sub (by decide) hL0) (SameBut.ite (State.sleepCmd_keeps _ (Part.sub (by decide) hL0) h0) h0)) (SameBut.ite (State.sleepCmd_keeps _ (Part.sub (by decide) hL0) h0) h0))) (SameBut.ite (State.sleepCmd_keeps _ (Part.sub (by decide) hL0) (SameBut.ite (State.sleepCmd_keeps _ (Part.sub (by decide) hL0) h0) h0)) (SameBut.ite (State.sleepCmd_keeps _ (Part.sub (by decide) hL0) h0) h0)))))) (SameBut.ite (State.startWake_keeps _ _ (Part.sub (by decide) hL0) (SameBut.ite (State.sleepCmd_keeps _ (Part.sub (by decide) hL0) (SameBut.ite (State.sleepCmd_keeps _ (Part.sub (by decide) hL0) (SameBut.ite (State.sleepCmd_keeps _ (Part.sub (by decide) hL0) h0) h0)) (SameBut.ite (State.sleepCmd_keeps _ (Part.sub (by decide) hL0) h0) h0))) (SameBut.ite (State.sleepCmd_keeps _ (Part.sub (by decide) hL0) (SameBut.ite (State.sleepCmd_keeps _ (Part.sub (by decide) hL0) h0) h0)) (SameBut.ite (State.sleepCmd_keeps _ (Part.sub (by decide) hL0) h0) h0)))) (SameBut.ite (State.sleepCmd_keeps _ (Part.sub (by decide) hL0) (SameBut.ite (State.sleepCmd_keeps _ (Part.sub (by decide) hL0) (SameBut.ite (State.sleepCmd_keeps _ (Part.sub (by decide) hL0) h0) h0)) (SameBut.ite (State.sleepCmd_keeps _ (Part.sub (by decide) hL0) h0) h0))) (SameBut.ite (State.sleepCmd_keeps _ (Part.sub (by decide) hL0) (SameBut.ite (State.sleepCmd_keeps _ (Part.sub (by decide) hL0) h0) h0)) (SameBut.ite (State.sleepCmd_keeps _ (Part.sub (by decide) hL0) h0) h0)))))

theorem execLevelWrite_keeps (r : Req) (v : Word) (s : State) :
    ResKeeps [.regs, .seam, .evt, .tsk, .pwr, .hif, .resp, .out] s (execLevelWrite r v s) := by
  have hL0 := List.Subset.refl ([.regs, .seam, .evt, .tsk, .pwr, .hif, .resp, .out] : List Part)
  have h0 := SameBut.refl [.regs, .seam, .evt, .tsk, .pwr, .hif, .resp, .out] s
  unfold execLevelWrite
  exact (ResKeeps.next (State.access_keeps _ _ _ _ (Part.sub (by decide) hL0) (fun _ h1 => (State.opPwrCtl_keeps _ (Part.sub (by decide) hL0) h1)) h0))

theorem execRegulatorAck_keeps (line : Bool) (s : State) :
    ResKeeps [.regs, .seam, .cmt, .rx, .dsf, .tribs, .act, .upb, .restarts, .pairs, .pipes, .epochs, .memch, .shapers, .policers, .tim, .evt, .tsk, .pwr, .rst, .hif, .clock, .timers, .out] s (execRegulatorAck line s) := by
  have hL0 := List.Subset.refl ([.regs, .seam, .cmt, .rx, .dsf, .tribs, .act, .upb, .restarts, .pairs, .pipes, .epochs, .memch, .shapers, .policers, .tim, .evt, .tsk, .pwr, .rst, .hif, .clock, .timers, .out] : List Part)
  have h0 := SameBut.refl [.regs, .seam, .cmt, .rx, .dsf, .tribs, .act, .upb, .restarts, .pairs, .pipes, .epochs, .memch, .shapers, .policers, .tim, .evt, .tsk, .pwr, .rst, .hif, .clock, .timers, .out] s
  unfold execRegulatorAck
  exact (ResKeeps.next (SameBut.ite (State.regsDone_keeps (Part.sub (by decide) hL0) (State.setRegulator_keeps _ _ (Part.sub (by decide) hL0) h0)) h0))

theorem execPmbusAttemptTimeout_keeps (line : Bool) (s : State) :
    ResKeeps [.regs, .seam, .evt, .tsk, .pwr, .hif, .out] s (execPmbusAttemptTimeout line s) := by
  have hL0 := List.Subset.refl ([.regs, .seam, .evt, .tsk, .pwr, .hif, .out] : List Part)
  have h0 := SameBut.refl [.regs, .seam, .evt, .tsk, .pwr, .hif, .out] s
  unfold execPmbusAttemptTimeout
  exact (ResKeeps.next (SameBut.ite h0 (SameBut.ite (State.pmbSend_keeps _ _ (Part.sub (by decide) hL0) (State.bump_keeps _ (Part.sub (by decide) hL0) (State.setRegulator_keeps _ _ (Part.sub (by decide) hL0) h0))) (SameBut.ite (State.levelFail_keeps (Part.sub (by decide) hL0) (State.setRegulator_keeps _ _ (Part.sub (by decide) hL0) h0)) (SameBut.ite (State.wakeFail_keeps _ (Part.sub (by decide) hL0) (State.setRegulator_keeps _ _ (Part.sub (by decide) hL0) h0)) (State.setRegulator_keeps _ _ (Part.sub (by decide) hL0) h0))))))

theorem execDoze_keeps (r : Req) (v : Word) (s : State) :
    ResKeeps [.regs, .seam, .cmt, .rx, .dsf, .tribs, .act, .upb, .restarts, .pairs, .pipes, .epochs, .memch, .shapers, .policers, .tim, .evt, .tsk, .pwr, .rst, .hif, .clock, .timers, .resp, .out] s (execDoze r v s) := by
  have hL0 := List.Subset.refl ([.regs, .seam, .cmt, .rx, .dsf, .tribs, .act, .upb, .restarts, .pairs, .pipes, .epochs, .memch, .shapers, .policers, .tim, .evt, .tsk, .pwr, .rst, .hif, .clock, .timers, .resp, .out] : List Part)
  have h0 := SameBut.refl [.regs, .seam, .cmt, .rx, .dsf, .tribs, .act, .upb, .restarts, .pairs, .pipes, .epochs, .memch, .shapers, .policers, .tim, .evt, .tsk, .pwr, .rst, .hif, .clock, .timers, .resp, .out] s
  unfold execDoze
  exact (ResKeeps.next (State.access_keeps _ _ _ _ (Part.sub (by decide) hL0) (fun _ h1 => (State.opPwrCmd_keeps _ _ (Part.sub (by decide) hL0) h1)) h0))

theorem execNap_keeps (r : Req) (v : Word) (s : State) :
    ResKeeps [.regs, .seam, .cmt, .rx, .dsf, .tribs, .act, .upb, .restarts, .pairs, .pipes, .epochs, .memch, .shapers, .policers, .tim, .evt, .tsk, .pwr, .rst, .hif, .clock, .timers, .resp, .out] s (execNap r v s) := by
  have hL0 := List.Subset.refl ([.regs, .seam, .cmt, .rx, .dsf, .tribs, .act, .upb, .restarts, .pairs, .pipes, .epochs, .memch, .shapers, .policers, .tim, .evt, .tsk, .pwr, .rst, .hif, .clock, .timers, .resp, .out] : List Part)
  have h0 := SameBut.refl [.regs, .seam, .cmt, .rx, .dsf, .tribs, .act, .upb, .restarts, .pairs, .pipes, .epochs, .memch, .shapers, .policers, .tim, .evt, .tsk, .pwr, .rst, .hif, .clock, .timers, .resp, .out] s
  unfold execNap
  exact (ResKeeps.next (State.access_keeps _ _ _ _ (Part.sub (by decide) hL0) (fun _ h1 => (State.opPwrCmd_keeps _ _ (Part.sub (by decide) hL0) h1)) h0))

theorem execDeep_keeps (r : Req) (v : Word) (s : State) :
    ResKeeps [.regs, .seam, .cmt, .rx, .dsf, .tribs, .act, .upb, .restarts, .pairs, .pipes, .epochs, .memch, .shapers, .policers, .tim, .evt, .tsk, .pwr, .rst, .hif, .clock, .timers, .resp, .out] s (execDeep r v s) := by
  have hL0 := List.Subset.refl ([.regs, .seam, .cmt, .rx, .dsf, .tribs, .act, .upb, .restarts, .pairs, .pipes, .epochs, .memch, .shapers, .policers, .tim, .evt, .tsk, .pwr, .rst, .hif, .clock, .timers, .resp, .out] : List Part)
  have h0 := SameBut.refl [.regs, .seam, .cmt, .rx, .dsf, .tribs, .act, .upb, .restarts, .pairs, .pipes, .epochs, .memch, .shapers, .policers, .tim, .evt, .tsk, .pwr, .rst, .hif, .clock, .timers, .resp, .out] s
  unfold execDeep
  exact (ResKeeps.next (State.access_keeps _ _ _ _ (Part.sub (by decide) hL0) (fun _ h1 => (State.opPwrCmd_keeps _ _ (Part.sub (by decide) hL0) h1)) h0))

theorem execWake_keeps (r : Req) (v : Word) (s : State) :
    ResKeeps [.regs, .seam, .cmt, .rx, .dsf, .tribs, .act, .upb, .restarts, .pairs, .pipes, .epochs, .memch, .shapers, .policers, .tim, .evt, .tsk, .pwr, .rst, .hif, .clock, .timers, .resp, .out] s (execWake r v s) := by
  have hL0 := List.Subset.refl ([.regs, .seam, .cmt, .rx, .dsf, .tribs, .act, .upb, .restarts, .pairs, .pipes, .epochs, .memch, .shapers, .policers, .tim, .evt, .tsk, .pwr, .rst, .hif, .clock, .timers, .resp, .out] : List Part)
  have h0 := SameBut.refl [.regs, .seam, .cmt, .rx, .dsf, .tribs, .act, .upb, .restarts, .pairs, .pipes, .epochs, .memch, .shapers, .policers, .tim, .evt, .tsk, .pwr, .rst, .hif, .clock, .timers, .resp, .out] s
  unfold execWake
  exact (ResKeeps.next (State.access_keeps _ _ _ _ (Part.sub (by decide) hL0) (fun _ h1 => (State.opPwrCmd_keeps _ _ (Part.sub (by decide) hL0) h1)) h0))

theorem execLeaveLimp_keeps (r : Req) (v : Word) (s : State) :
    ResKeeps [.regs, .seam, .cmt, .rx, .dsf, .tribs, .act, .upb, .restarts, .pairs, .pipes, .epochs, .memch, .shapers, .policers, .tim, .evt, .tsk, .pwr, .rst, .hif, .clock, .timers, .resp, .out] s (execLeaveLimp r v s) := by
  have hL0 := List.Subset.refl ([.regs, .seam, .cmt, .rx, .dsf, .tribs, .act, .upb, .restarts, .pairs, .pipes, .epochs, .memch, .shapers, .policers, .tim, .evt, .tsk, .pwr, .rst, .hif, .clock, .timers, .resp, .out] : List Part)
  have h0 := SameBut.refl [.regs, .seam, .cmt, .rx, .dsf, .tribs, .act, .upb, .restarts, .pairs, .pipes, .epochs, .memch, .shapers, .policers, .tim, .evt, .tsk, .pwr, .rst, .hif, .clock, .timers, .resp, .out] s
  unfold execLeaveLimp
  exact (ResKeeps.next (State.access_keeps _ _ _ _ (Part.sub (by decide) hL0) (fun _ h1 => (State.opPwrCmd_keeps _ _ (Part.sub (by decide) hL0) h1)) h0))

theorem execSleepEntry_keeps (s : State) :
    ResKeeps [.regs, .shown, .mirror, .seam, .cmt, .own, .rx, .dsf, .tmap, .tribs, .tfrags, .rows, .ttest, .act, .upb, .restarts, .gsm, .txEff, .pairs, .key, .dark, .pipes, .epochs, .prog, .rcnt, .rcntHeld, .excWait, .bufs, .bufRot, .qmap, .memch, .ecc, .mxe, .queues, .turns, .elig, .shapers, .policers, .gates, .gateBusy, .lanes, .lports, .mdio, .tim, .evt, .log, .tsk, .cpu, .pwr, .rst, .sys, .hif, .pins, .clock, .timers, .out, .fresh] s (execSleepEntry s) := by
  have hL0 := List.Subset.refl ([.regs, .shown, .mirror, .seam, .cmt, .own, .rx, .dsf, .tmap, .tribs, .tfrags, .rows, .ttest, .act, .upb, .restarts, .gsm, .txEff, .pairs, .key, .dark, .pipes, .epochs, .prog, .rcnt, .rcntHeld, .excWait, .bufs, .bufRot, .qmap, .memch, .ecc, .mxe, .queues, .turns, .elig, .shapers, .policers, .gates, .gateBusy, .lanes, .lports, .mdio, .tim, .evt, .log, .tsk, .cpu, .pwr, .rst, .sys, .hif, .pins, .clock, .timers, .out, .fresh] : List Part)
  have h0 := SameBut.refl [.regs, .shown, .mirror, .seam, .cmt, .own, .rx, .dsf, .tmap, .tribs, .tfrags, .rows, .ttest, .act, .upb, .restarts, .gsm, .txEff, .pairs, .key, .dark, .pipes, .epochs, .prog, .rcnt, .rcntHeld, .excWait, .bufs, .bufRot, .qmap, .memch, .ecc, .mxe, .queues, .turns, .elig, .shapers, .policers, .gates, .gateBusy, .lanes, .lports, .mdio, .tim, .evt, .log, .tsk, .cpu, .pwr, .rst, .sys, .hif, .pins, .clock, .timers, .out, .fresh] s
  unfold execSleepEntry
  exact (ResKeeps.next (State.sleepEntry_keeps (Part.sub (by decide) hL0) h0))

theorem execSleepWaitTimeout_keeps (s : State) :
    ResKeeps [.regs, .seam, .evt, .tsk, .pwr, .hif, .timers, .out] s (execSleepWaitTimeout s) := by
  have hL0 := List.Subset.refl ([.regs, .seam, .evt, .tsk, .pwr, .hif, .timers, .out] : List Part)
  have h0 := SameBut.refl [.regs, .seam, .evt, .tsk, .pwr, .hif, .timers, .out] s
  unfold execSleepWaitTimeout
  exact (ResKeeps.next (SameBut.ite (State.nextEntry_keeps (Part.sub (by decide) hL0) (State.sleepRefuse_keeps _ (Part.sub (by decide) hL0) h0)) h0))

theorem execDozeAutoExit_keeps (s : State) :
    ResKeeps [.regs, .seam, .cmt, .rx, .dsf, .tribs, .act, .upb, .restarts, .pairs, .pipes, .epochs, .memch, .shapers, .policers, .tim, .evt, .tsk, .pwr, .rst, .hif, .clock, .timers, .out] s (execDozeAutoExit s) := by
  have hL0 := List.Subset.refl ([.regs, .seam, .cmt, .rx, .dsf, .tribs, .act, .upb, .restarts, .pairs, .pipes, .epochs, .memch, .shapers, .policers, .tim, .evt, .tsk, .pwr, .rst, .hif, .clock, .timers, .out] : List Part)
  have h0 := SameBut.refl [.regs, .seam, .cmt, .rx, .dsf, .tribs, .act, .upb, .restarts, .pairs, .pipes, .epochs, .memch, .shapers, .policers, .tim, .evt, .tsk, .pwr, .rst, .hif, .clock, .timers, .out] s
  unfold execDozeAutoExit
  exact (ResKeeps.next (SameBut.ite (State.startWake_keeps _ _ (Part.sub (by decide) hL0) (State.fire_keeps _ _ (Part.sub (by decide) hL0) h0)) h0))

theorem execWakeSource_keeps (w : WakeSrc) (s : State) :
    ResKeeps [.regs, .seam, .cmt, .rx, .dsf, .tribs, .act, .upb, .restarts, .pairs, .pipes, .epochs, .memch, .shapers, .policers, .tim, .evt, .tsk, .pwr, .rst, .hif, .clock, .timers, .out] s (execWakeSource w s) := by
  have hL0 := List.Subset.refl ([.regs, .seam, .cmt, .rx, .dsf, .tribs, .act, .upb, .restarts, .pairs, .pipes, .epochs, .memch, .shapers, .policers, .tim, .evt, .tsk, .pwr, .rst, .hif, .clock, .timers, .out] : List Part)
  have h0 := SameBut.refl [.regs, .seam, .cmt, .rx, .dsf, .tribs, .act, .upb, .restarts, .pairs, .pipes, .epochs, .memch, .shapers, .policers, .tim, .evt, .tsk, .pwr, .rst, .hif, .clock, .timers, .out] s
  unfold execWakeSource
  exact (ResKeeps.next (by
    split
    · exact (SameBut.ite (State.wakeBy_keeps _ _ (Part.sub (by decide) hL0) h0) h0)
    · exact (SameBut.ite (State.wakeBy_keeps _ _ (Part.sub (by decide) hL0) h0) h0)
    · exact (SameBut.ite (State.wakeBy_keeps _ _ (Part.sub (by decide) hL0) h0) h0)
    · exact (SameBut.ite (State.wakeBy_keeps _ _ (Part.sub (by decide) hL0) h0) h0)))

theorem execOscReadyRise_keeps (s : State) :
    ResKeeps [.regs, .seam, .cmt, .rx, .dsf, .tribs, .act, .upb, .restarts, .pairs, .pipes, .epochs, .memch, .shapers, .policers, .tim, .evt, .tsk, .pwr, .rst, .hif, .pins, .clock, .timers, .out] s (execOscReadyRise s) := by
  have hL0 := List.Subset.refl ([.regs, .seam, .cmt, .rx, .dsf, .tribs, .act, .upb, .restarts, .pairs, .pipes, .epochs, .memch, .shapers, .policers, .tim, .evt, .tsk, .pwr, .rst, .hif, .pins, .clock, .timers, .out] : List Part)
  have h0 := SameBut.refl [.regs, .seam, .cmt, .rx, .dsf, .tribs, .act, .upb, .restarts, .pairs, .pipes, .epochs, .memch, .shapers, .policers, .tim, .evt, .tsk, .pwr, .rst, .hif, .pins, .clock, .timers, .out] s
  unfold execOscReadyRise
  exact (ResKeeps.next (SameBut.ite (State.oscDone_keeps (Part.sub (by decide) hL0) (SameBut.upd_pins (Part.sub (by decide) hL0) h0)) (SameBut.ite (State.fire_keeps _ _ (Part.sub (by decide) hL0) (SameBut.upd_pins (Part.sub (by decide) hL0) h0)) (SameBut.upd_pins (Part.sub (by decide) hL0) h0))))

theorem execOscTimeout_keeps (s : State) :
    ResKeeps [.regs, .seam, .cmt, .rx, .dsf, .tribs, .act, .upb, .restarts, .txEff, .pairs, .pipes, .epochs, .memch, .shapers, .policers, .tim, .evt, .tsk, .pwr, .rst, .hif, .clock, .timers, .out, .fresh] s (execOscTimeout s) := by
  have hL0 := List.Subset.refl ([.regs, .seam, .cmt, .rx, .dsf, .tribs, .act, .upb, .restarts, .txEff, .pairs, .pipes, .epochs, .memch, .shapers, .policers, .tim, .evt, .tsk, .pwr, .rst, .hif, .clock, .timers, .out, .fresh] : List Part)
  have h0 := SameBut.refl [.regs, .seam, .cmt, .rx, .dsf, .tribs, .act, .upb, .restarts, .txEff, .pairs, .pipes, .epochs, .memch, .shapers, .policers, .tim, .evt, .tsk, .pwr, .rst, .hif, .clock, .timers, .out, .fresh] s
  unfold execOscTimeout
  exact (ResKeeps.next (SameBut.ite (State.oscDone_keeps (Part.sub (by decide) hL0) (State.enterLimp_keeps (Part.sub (by decide) hL0) h0)) h0))

theorem execDomainPowerGood_keeps (d : Fin 34) (s : State) :
    ResKeeps [.regs, .seam, .cmt, .rx, .dsf, .tribs, .act, .upb, .restarts, .pairs, .pipes, .epochs, .memch, .shapers, .policers, .tim, .evt, .tsk, .pwr, .rst, .hif, .clock, .timers, .out] s (execDomainPowerGood d s) := by
  have hL0 := List.Subset.refl ([.regs, .seam, .cmt, .rx, .dsf, .tribs, .act, .upb, .restarts, .pairs, .pipes, .epochs, .memch, .shapers, .policers, .tim, .evt, .tsk, .pwr, .rst, .hif, .clock, .timers, .out] : List Part)
  have h0 := SameBut.refl [.regs, .seam, .cmt, .rx, .dsf, .tribs, .act, .upb, .restarts, .pairs, .pipes, .epochs, .memch, .shapers, .policers, .tim, .evt, .tsk, .pwr, .rst, .hif, .clock, .timers, .out] s
  unfold execDomainPowerGood
  exact (ResKeeps.next (State.domGood_keeps _ (Part.sub (by decide) hL0) h0))

theorem execDomainTimeout_keeps (d : Fin 34) (s : State) :
    ResKeeps [.regs, .seam, .cmt, .rx, .dsf, .tribs, .act, .upb, .restarts, .pairs, .pipes, .epochs, .shapers, .policers, .tim, .evt, .tsk, .pwr, .rst, .hif, .clock, .timers, .out] s (execDomainTimeout d s) := by
  have hL0 := List.Subset.refl ([.regs, .seam, .cmt, .rx, .dsf, .tribs, .act, .upb, .restarts, .pairs, .pipes, .epochs, .shapers, .policers, .tim, .evt, .tsk, .pwr, .rst, .hif, .clock, .timers, .out] : List Part)
  have h0 := SameBut.refl [.regs, .seam, .cmt, .rx, .dsf, .tribs, .act, .upb, .restarts, .pairs, .pipes, .epochs, .shapers, .policers, .tim, .evt, .tsk, .pwr, .rst, .hif, .clock, .timers, .out] s
  unfold execDomainTimeout
  exact (ResKeeps.next (State.domFail_keeps _ (Part.sub (by decide) hL0) h0))

theorem State.withdrawFree_keeps {L : List Part} {s0 s : State} (m : Chan) (stp : BitVec 4)
    (hL0 : [.regs, .seam, .bufs, .memch, .ecc, .mxe, .evt, .log, .tsk, .hif, .out, .fresh] ⊆ L) (h0 : SameBut L s0 s) :
    SameBut L s0 (s.withdrawFree m stp) := by
  unfold State.withdrawFree
  exact (State.withdraw_keeps _ _ _ (Part.sub (by decide) hL0) (PairKeeps.snd (State.freeVal_keeps (Part.sub (by decide) hL0) h0)))

theorem execTrainingDone_keeps (m : Chan) (gib : Nat) (s : State) :
    ResKeeps [.regs, .seam, .cmt, .rx, .dsf, .tribs, .act, .upb, .restarts, .pairs, .pipes, .epochs, .bufs, .memch, .ecc, .mxe, .shapers, .policers, .tim, .evt, .log, .tsk, .pwr, .rst, .hif, .clock, .timers, .out, .fresh] s (execTrainingDone m gib s) := by
  have hL0 := List.Subset.refl ([.regs, .seam, .cmt, .rx, .dsf, .tribs, .act, .upb, .restarts, .pairs, .pipes, .epochs, .bufs, .memch, .ecc, .mxe, .shapers, .policers, .tim, .evt, .log, .tsk, .pwr, .rst, .hif, .clock, .timers, .out, .fresh] : List Part)
  have h0 := SameBut.refl [.regs, .seam, .cmt, .rx, .dsf, .tribs, .act, .upb, .restarts, .pairs, .pipes, .epochs, .bufs, .memch, .ecc, .mxe, .shapers, .policers, .tim, .evt, .log, .tsk, .pwr, .rst, .hif, .clock, .timers, .out, .fresh] s
  unfold execTrainingDone
  exact (ResKeeps.next (SameBut.ite (State.memCheck_keeps (Part.sub (by decide) hL0) (SameBut.ite (State.trained_keeps _ _ (Part.sub (by decide) hL0) h0) (State.withdrawFree_keeps _ _ (Part.sub (by decide) hL0) h0))) h0))

theorem execTrainingFail_keeps (m : Chan) (stp : BitVec 4) (s : State) :
    ResKeeps [.regs, .seam, .cmt, .rx, .dsf, .tribs, .act, .upb, .restarts, .pairs, .pipes, .epochs, .bufs, .memch, .ecc, .mxe, .shapers, .policers, .tim, .evt, .log, .tsk, .pwr, .rst, .hif, .clock, .timers, .out, .fresh] s (execTrainingFail m stp s) := by
  have hL0 := List.Subset.refl ([.regs, .seam, .cmt, .rx, .dsf, .tribs, .act, .upb, .restarts, .pairs, .pipes, .epochs, .bufs, .memch, .ecc, .mxe, .shapers, .policers, .tim, .evt, .log, .tsk, .pwr, .rst, .hif, .clock, .timers, .out, .fresh] : List Part)
  have h0 := SameBut.refl [.regs, .seam, .cmt, .rx, .dsf, .tribs, .act, .upb, .restarts, .pairs, .pipes, .epochs, .bufs, .memch, .ecc, .mxe, .shapers, .policers, .tim, .evt, .log, .tsk, .pwr, .rst, .hif, .clock, .timers, .out, .fresh] s
  unfold execTrainingFail
  exact (ResKeeps.next (SameBut.ite (State.memCheck_keeps (Part.sub (by decide) hL0) (State.withdrawFree_keeps _ _ (Part.sub (by decide) hL0) h0)) h0))

theorem execMemoryStepTimeout_keeps (m : Chan) (s : State) :
    ResKeeps [.regs, .seam, .cmt, .rx, .dsf, .tribs, .act, .upb, .restarts, .pairs, .pipes, .epochs, .bufs, .memch, .ecc, .mxe, .shapers, .policers, .tim, .evt, .log, .tsk, .pwr, .rst, .hif, .clock, .timers, .out, .fresh] s (execMemoryStepTimeout m s) := by
  have hL0 := List.Subset.refl ([.regs, .seam, .cmt, .rx, .dsf, .tribs, .act, .upb, .restarts, .pairs, .pipes, .epochs, .bufs, .memch, .ecc, .mxe, .shapers, .policers, .tim, .evt, .log, .tsk, .pwr, .rst, .hif, .clock, .timers, .out, .fresh] : List Part)
  have h0 := SameBut.refl [.regs, .seam, .cmt, .rx, .dsf, .tribs, .act, .upb, .restarts, .pairs, .pipes, .epochs, .bufs, .memch, .ecc, .mxe, .shapers, .policers, .tim, .evt, .log, .tsk, .pwr, .rst, .hif, .clock, .timers, .out, .fresh] s
  unfold execMemoryStepTimeout
  exact (ResKeeps.next (SameBut.ite (State.memCheck_keeps (Part.sub (by decide) hL0) (State.withdrawFree_keeps _ _ (Part.sub (by decide) hL0) (PairKeeps.snd (State.freeVal_keeps (Part.sub (by decide) hL0) h0)))) h0))

end Sys2Proof.Machine
end

