-- ==== Sys2Proof/Laws/Boot.lean ====
section
/-! SUPPORT. Which parts of the state each operation of Machine/Boot.lean can change. -/

namespace Sys2Proof.Machine

open Sys2Proof

set_option linter.unusedTactic false
set_option linter.unreachableTactic false
set_option linter.unusedVariables false

theorem State.electionStart_keeps {L : List Part} {s0 s : State}
    (hL0 : [.regs, .seam, .cmt, .own, .evt, .tsk, .hif, .timers, .out] ⊆ L) (h0 : SameBut L s0 s) :
    SameBut L s0 (s.electionStart) := by
  unfold State.electionStart
  exact (SameBut.ite (State.addCandidate_keeps _ (Part.sub (by decide) hL0) (State.startTimer_keeps _ (Part.sub (by decide) hL0) h0)) (State.startTimer_keeps _ (Part.sub (by decide) hL0) h0))

theorem State.softReset_keeps {L : List Part} {s0 s : State} (cause : BitVec 3)
    (hL0 : [.regs, .shown, .mirror, .seam, .cmt, .own, .rx, .dsf, .tmap, .tribs, .tfrags, .rows, .ttest, .act, .upb, .restarts, .gsm, .txEff, .pairs, .key, .dark, .pipes, .epochs, .prog, .rcnt, .rcntHeld, .excWait, .bufs, .bufRot, .qmap, .memch, .ecc, .mxe, .queues, .turns, .elig, .shapers, .policers, .gates, .gateBusy, .lanes, .lports, .mdio, .tim, .evt, .log, .tsk, .cpu, .pwr, .rst, .sys, .hif, .clock, .timers, .out] ⊆ L) (h0 : SameBut L s0 s) :
    SameBut L s0 (s.softReset cause) := by
  unfold State.softReset
  exact (State.electionStart_keeps (Part.sub (by decide) hL0) (State.deviceReset_keeps _ (Part.sub (by decide) hL0) h0))

theorem State.resetIfFlushed_keeps {L : List Part} {s0 s : State}
    (hL0 : [.regs, .shown, .mirror, .seam, .cmt, .own, .rx, .dsf, .tmap, .tribs, .tfrags, .rows, .ttest, .act, .upb, .restarts, .gsm, .txEff, .pairs, .key, .dark, .pipes, .epochs, .prog, .rcnt, .rcntHeld, .excWait, .bufs, .bufRot, .qmap, .memch, .ecc, .mxe, .queues, .turns, .elig, .shapers, .policers, .gates, .gateBusy, .lanes, .lports, .mdio, .tim, .evt, .log, .tsk, .cpu, .pwr, .rst, .sys, .hif, .clock, .timers, .out] ⊆ L) (h0 : SameBut L s0 s) :
    SameBut L s0 (s.resetIfFlushed) := by
  unfold State.resetIfFlushed
  split
  · exact (SameBut.ite (State.softReset_keeps _ (Part.sub (by decide) hL0) h0) h0)
  · exact h0

theorem State.askReset_keeps {L : List Part} {s0 s : State} (cause : BitVec 3)
    (hL0 : [.regs, .shown, .mirror, .seam, .cmt, .own, .rx, .dsf, .tmap, .tribs, .tfrags, .rows, .ttest, .act, .upb, .restarts, .gsm, .txEff, .pairs, .key, .dark, .pipes, .epochs, .prog, .rcnt, .rcntHeld, .excWait, .bufs, .bufRot, .qmap, .memch, .ecc, .mxe, .queues, .turns, .elig, .shapers, .policers, .gates, .gateBusy, .lanes, .lports, .mdio, .tim, .evt, .log, .tsk, .cpu, .pwr, .rst, .sys, .hif, .clock, .timers, .out] ⊆ L) (h0 : SameBut L s0 s) :
    SameBut L s0 (s.askReset cause) := by
  unfold State.askReset
  split
  · exact h0
  · exact (State.resetIfFlushed_keeps (Part.sub (by decide) hL0) (State.logStart_keeps (Part.sub (by decide) hL0) (SameBut.upd_rst (Part.sub (by decide) hL0) h0)))

theorem State.opRstCmd_keeps {L : List Part} {s0 s : State} (v : Word)
    (hL0 : [.regs, .shown, .mirror, .seam, .cmt, .own, .rx, .dsf, .tmap, .tribs, .tfrags, .rows, .ttest, .act, .upb, .restarts, .gsm, .txEff, .pairs, .key, .dark, .pipes, .epochs, .prog, .rcnt, .rcntHeld, .excWait, .bufs, .bufRot, .qmap, .memch, .ecc, .mxe, .queues, .turns, .elig, .shapers, .policers, .gates, .gateBusy, .lanes, .lports, .mdio, .tim, .evt, .log, .tsk, .cpu, .pwr, .rst, .sys, .hif, .clock, .timers, .out] ⊆ L) (h0 : SameBut L s0 s) :
    SameBut L s0 (s.opRstCmd v) := by
  unfold State.opRstCmd
  exact (SameBut.ite (State.askReset_keeps _ (Part.sub (by decide) hL0) h0) h0)

theorem State.stopCores_keeps {L : List Part} {s0 s : State} (old : BitVec 8) (new : BitVec 8)
    (hL0 : [.tsk, .cpu] ⊆ L) (h0 : SameBut L s0 s) :
    SameBut L s0 (s.stopCores old new) := by
  unfold State.stopCores
  exact (SameBut.foldl (fun _ _ h1 => (SameBut.ite h1 (SameBut.ite (State.stopCore_keeps _ (Part.sub (by decide) hL0) h1) (State.dropLines_keeps _ (Part.sub (by decide) hL0) h1)))) h0)

theorem State.coresGone_keeps {L : List Part} {s0 s : State}
    (hL0 : [.regs, .seam, .cmt, .own, .evt, .tsk, .hif, .timers, .out] ⊆ L) (h0 : SameBut L s0 s) :
    SameBut L s0 (s.coresGone) := by
  unfold State.coresGone
  exact (SameBut.ite (State.holderLost_keeps _ (Part.sub (by decide) hL0) h0) h0)

theorem State.opCoreRun_keeps {L : List Part} {s0 s : State} (v : Word)
    (hL0 : [.regs, .seam, .cmt, .own, .evt, .tsk, .cpu, .hif, .timers, .out] ⊆ L) (h0 : SameBut L s0 s) :
    SameBut L s0 (s.opCoreRun v) := by
  unfold State.opCoreRun
  exact (State.coresGone_keeps (Part.sub (by decide) hL0) (State.stopCores_keeps _ _ (Part.sub (by decide) hL0) (State.store_keeps _ _ (Part.sub (by decide) hL0) h0)))

theorem State.coreComplex_keeps {L : List Part} {s0 s : State}
    (hL0 : [.regs, .seam, .cmt, .own, .evt, .tsk, .cpu, .hif, .timers, .out] ⊆ L) (h0 : SameBut L s0 s) :
    SameBut L s0 (s.coreComplex) := by
  unfold State.coreComplex
  exact (State.wr_keeps _ _ (Part.sub (by decide) hL0) (State.coresGone_keeps (Part.sub (by decide) hL0) (State.stopCores_keeps _ _ (Part.sub (by decide) hL0) (State.wr_keeps _ _ (Part.sub (by decide) hL0) h0))))

theorem State.releaseCores_keeps {L : List Part} {s0 s : State}
    (hL0 : [.regs, .seam, .cmt, .own, .evt, .tsk, .cpu, .rst, .hif, .timers, .out] ⊆ L) (h0 : SameBut L s0 s) :
    SameBut L s0 (s.releaseCores) := by
  unfold State.releaseCores
  exact (State.addCandidate_keeps _ (Part.sub (by decide) hL0) (State.fire_keeps _ _ (Part.sub (by decide) hL0) (State.wr_keeps _ _ (Part.sub (by decide) hL0) (State.setCaches_keeps _ (Part.sub (by decide) hL0) (SameBut.upd_rst (Part.sub (by decide) hL0) h0)))))

theorem State.opWdtKick_keeps {L : List Part} {s0 s : State} (v : Word)
    (hL0 : [.timers] ⊆ L) (h0 : SameBut L s0 s) :
    SameBut L s0 (s.opWdtKick v) := by
  unfold State.opWdtKick
  exact (SameBut.ite (State.startTimer_keeps _ (Part.sub (by decide) hL0) h0) h0)

theorem State.opWdtCfg_keeps {L : List Part} {s0 s : State} (v : Word)
    (hL0 : [.regs, .timers] ⊆ L) (h0 : SameBut L s0 s) :
    SameBut L s0 (s.opWdtCfg v) := by
  unfold State.opWdtCfg
  exact (SameBut.ite (State.stopTimer_keeps _ (Part.sub (by decide) hL0) (State.store_keeps _ _ (Part.sub (by decide) hL0) h0)) (State.store_keeps _ _ (Part.sub (by decide) hL0) h0))

theorem State.beginStep_keeps {L : List Part} {s0 s : State} (n : Nat)
    (hL0 : [.rst] ⊆ L) (h0 : SameBut L s0 s) :
    SameBut L s0 (s.beginStep n) := by
  unfold State.beginStep
  exact (SameBut.ite h0 (SameBut.upd_rst (Part.sub (by decide) hL0) h0))

theorem State.endStep_keeps {L : List Part} {s0 s : State} (n : Nat)
    (hL0 : [.rst] ⊆ L) (h0 : SameBut L s0 s) :
    SameBut L s0 (s.endStep n) := by
  unfold State.endStep
  exact (SameBut.upd_rst (Part.sub (by decide) hL0) h0)

theorem State.beginB5_keeps {L : List Part} {s0 s : State}
    (hL0 : [.regs, .memch, .rst] ⊆ L) (h0 : SameBut L s0 s) :
    SameBut L s0 (s.beginB5) := by
  unfold State.beginB5
  exact (SameBut.ite h0 (State.beginStep_keeps _ (Part.sub (by decide) hL0) (SameBut.foldl (fun _ _ h2 => (SameBut.ite (State.startTraining_keeps _ _ (Part.sub (by decide) hL0) h2) h2)) (by
    split
    · exact (SameBut.foldl (fun _ _ h1 => (State.store_keeps _ _ (Part.sub (by decide) hL0) h1)) h0)
    · exact h0))))

theorem State.bootNext_keeps {L : List Part} {s0 s : State}
    (hL0 : [.regs, .memch, .rst] ⊆ L) (h0 : SameBut L s0 s) :
    SameBut L s0 (s.bootNext) := by
  unfold State.bootNext
  exact (SameBut.ite (SameBut.ite (State.beginStep_keeps _ (Part.sub (by decide) hL0) (SameBut.ite (State.beginStep_keeps _ (Part.sub (by decide) hL0) (SameBut.ite h0 (State.beginStep_keeps _ (Part.sub (by decide) hL0) h0))) h0)) (SameBut.ite (State.beginStep_keeps _ (Part.sub (by decide) hL0) (SameBut.ite h0 (State.beginStep_keeps _ (Part.sub (by decide) hL0) h0))) h0)) (SameBut.ite (SameBut.ite (SameBut.upd_rst (Part.sub (by decide) hL0) (SameBut.ite (State.beginStep_keeps _ (Part.sub (by decide) hL0) (SameBut.ite (State.beginB5_keeps (Part.sub (by decide) hL0) (SameBut.ite (State.beginStep_keeps _ (Part.sub (by decide) hL0) (SameBut.ite (State.beginStep_keeps _ (Part.sub (by decide) hL0) (SameBut.ite h0 (State.beginStep_keeps _ (Part.sub (by decide) hL0) h0))) h0)) (SameBut.ite (State.beginStep_keeps _ (Part.sub (by decide) hL0) (SameBut.ite h0 (State.beginStep_keeps _ (Part.sub (by decide) hL0) h0))) h0))) (SameBut.ite (State.beginStep_keeps _ (Part.sub (by decide) hL0) (SameBut.ite (State.beginStep_keeps _ (Part.sub (by decide) hL0) (SameBut.ite h0 (State.beginStep_keeps _ (Part.sub (by decide) hL0) h0))) h0)) (SameBut.ite (State.beginStep_keeps _ (Part.sub (by decide) hL0) (SameBut.ite h0 (State.beginStep_keeps _ (Part.sub (by decide) hL0) h0))) h0)))) (SameBut.ite (State.beginB5_keeps (Part.sub (by decide) hL0) (SameBut.ite (State.beginStep_keeps _ (Part.sub (by decide) hL0) (SameBut.ite (State.beginStep_keeps _ (Part.sub (by decide) hL0) (SameBut.ite h0 (State.beginStep_keeps _ (Part.sub (by decide) hL0) h0))) h0)) (SameBut.ite (State.beginStep_keeps _ (Part.sub (by decide) hL0) (SameBut.ite h0 (State.beginStep_keeps _ (Part.sub (by decide) hL0) h0))) h0))) (SameBut.ite (State.beginStep_keeps _ (Part.sub (by decide) hL0) (SameBut.ite (State.beginStep_keeps _ (Part.sub (by decide) hL0) (SameBut.ite h0 (State.beginStep_keeps _ (Part.sub (by decide) hL0) h0))) h0)) (SameBut.ite (State.beginStep_keeps _ (Part.sub (by decide) hL0) (SameBut.ite h0 (State.beginStep_keeps _ (Part.sub (by decide) hL0) h0))) h0))))) (State.beginStep_keeps _ (Part.sub (by decide) hL0) (SameBut.ite (State.beginStep_keeps _ (Part.sub (by decide) hL0) (SameBut.ite (State.beginB5_keeps (Part.sub (by decide) hL0) (SameBut.ite (State.beginStep_keeps _ (Part.sub (by decide) hL0) (SameBut.ite (State.beginStep_keeps _ (Part.sub (by decide) hL0) (SameBut.ite h0 (State.beginStep_keeps _ (Part.sub (by decide) hL0) h0))) h0)) (SameBut.ite (State.beginStep_keeps _ (Part.sub (by decide) hL0) (SameBut.ite h0 (State.beginStep_keeps _ (Part.sub (by decide) hL0) h0))) h0))) (SameBut.ite (State.beginStep_keeps _ (Part.sub (by decide) hL0) (SameBut.ite (State.beginStep_keeps _ (Part.sub (by decide) hL0) (SameBut.ite h0 (State.beginStep_keeps _ (Part.sub (by decide) hL0) h0))) h0)) (SameBut.ite (State.beginStep_keeps _ (Part.sub (by decide) hL0) (SameBut.ite h0 (State.beginStep_keeps _ (Part.sub (by decide) hL0) h0))) h0)))) (SameBut.ite (State.beginB5_keeps (Part.sub (by decide) hL0) (SameBut.ite (State.beginStep_keeps _ (Part.sub (by decide) hL0) (SameBut.ite (State.beginStep_keeps _ (Part.sub (by decide) hL0) (SameBut.ite h0 (State.beginStep_keeps _ (Part.sub (by decide) hL0) h0))) h0)) (SameBut.ite (State.beginStep_keeps _ (Part.sub (by decide) hL0) (SameBut.ite h0 (State.beginStep_keeps _ (Part.sub (by decide) hL0) h0))) h0))) (SameBut.ite (State.beginStep_keeps _ (Part.sub (by decide) hL0) (SameBut.ite (State.beginStep_keeps _ (Part.sub (by decide) hL0) (SameBut.ite h0 (State.beginStep_keeps _ (Part.sub (by decide) hL0) h0))) h0)) (SameBut.ite (State.beginStep_keeps _ (Part.sub (by decide) hL0) (SameBut.ite h0 (State.beginStep_keeps _ (Part.sub (by decide) hL0) h0))) h0)))))) (SameBut.ite (State.beginStep_keeps _ (Part.sub (by decide) hL0) (SameBut.ite (State.beginB5_keeps (Part.sub (by decide) hL0) (SameBut.ite (State.beginStep_keeps _ (Part.sub (by decide) hL0) (SameBut.ite (State.beginStep_keeps _ (Part.sub (by decide) hL0) (SameBut.ite h0 (State.beginStep_keeps _ (Part.sub (by decide) hL0) h0))) h0)) (SameBut.ite (State.beginStep_keeps _ (Part.sub (by decide) hL0) (SameBut.ite h0 (State.beginStep_keeps _ (Part.sub (by decide) hL0) h0))) h0))) (SameBut.ite (State.beginStep_keeps _ (Part.sub (by decide) hL0) (SameBut.ite (State.beginStep_keeps _ (Part.sub (by decide) hL0) (SameBut.ite h0 (State.beginStep_keeps _ (Part.sub (by decide) hL0) h0))) h0)) (SameBut.ite (State.beginStep_keeps _ (Part.sub (by decide) hL0) (SameBut.ite h0 (State.beginStep_keeps _ (Part.sub (by decide) hL0) h0))) h0)))) (SameBut.ite (State.beginB5_keeps (Part.sub (by decide) hL0) (SameBut.ite (State.beginStep_keeps _ (Part.sub (by decide) hL0) (SameBut.ite (State.beginStep_keeps _ (Part.sub (by decide) hL0) (SameBut.ite h0 (State.beginStep_keeps _ (Part.sub (by decide) hL0) h0))) h0)) (SameBut.ite (State.beginStep_keeps _ (Part.sub (by decide) hL0) (SameBut.ite h0 (State.beginStep_keeps _ (Part.sub (by decide) hL0) h0))) h0))) (SameBut.ite (State.beginStep_keeps _ (Part.sub (by decide) hL0) (SameBut.ite (State.beginStep_keeps _ (Part.sub (by decide) hL0) (SameBut.ite h0 (State.beginStep_keeps _ (Part.sub (by decide) hL0) h0))) h0)) (SameBut.ite (State.beginStep_keeps _ (Part.sub (by decide) hL0) (SameBut.ite h0 (State.beginStep_keeps _ (Part.sub (by decide) hL0) h0))) h0))))))

theorem State.bootFail_keeps {L : List Part} {s0 s : State}
    (hL0 : [.regs, .seam, .evt, .tsk, .rst, .hif, .out] ⊆ L) (h0 : SameBut L s0 s) :
    SameBut L s0 (s.bootFail) := by
  unfold State.bootFail
  exact (State.fire_keeps _ _ (Part.sub (by decide) hL0) (SameBut.upd_rst (Part.sub (by decide) hL0) h0))

theorem State.copyFails_keeps {L : List Part} {s0 s : State} (copy1 : Bool) (cause : BitVec 4)
    (hL0 : [.rst] ⊆ L) (h0 : SameBut L s0 s) :
    SameBut L s0 (s.copyFails copy1 cause) := by
  unfold State.copyFails
  exact (SameBut.upd_rst (Part.sub (by decide) hL0) h0)

theorem State.tryCopy1_keeps {L : List Part} {s0 s : State} (raw : List Byte)
    (hL0 : [.regs, .seam, .evt, .tsk, .rst, .hif, .out] ⊆ L) (h0 : SameBut L s0 s) :
    SameBut L s0 (s.tryCopy1 raw) := by
  unfold State.tryCopy1
  exact (SameBut.ite (SameBut.upd_rst (Part.sub (by decide) hL0) h0) (State.bootFail_keeps (Part.sub (by decide) hL0) (State.copyFails_keeps _ _ (Part.sub (by decide) hL0) h0)))

theorem State.endB2_keeps {L : List Part} {s0 s : State} (sfdp : Bool) (copy0 : List Byte) (copy1 : List Byte)
    (hL0 : [.regs, .seam, .evt, .tsk, .rst, .hif, .out] ⊆ L) (h0 : SameBut L s0 s) :
    SameBut L s0 (s.endB2 sfdp copy0 copy1) := by
  unfold State.endB2
  exact (State.endStep_keeps _ (Part.sub (by decide) hL0) (SameBut.ite (State.tryCopy1_keeps _ (Part.sub (by decide) hL0) (SameBut.upd_rst (Part.sub (by decide) hL0) h0)) (SameBut.ite (SameBut.upd_rst (Part.sub (by decide) hL0) (SameBut.upd_rst (Part.sub (by decide) hL0) h0)) (State.tryCopy1_keeps _ (Part.sub (by decide) hL0) (State.copyFails_keeps _ _ (Part.sub (by decide) hL0) (SameBut.upd_rst (Part.sub (by decide) hL0) h0))))))

theorem State.retireBad_keeps {L : List Part} {s0 s : State} (banks : List Nat)
    (hL0 : [.regs, .seam, .ecc, .evt, .log, .tsk, .hif, .out, .fresh] ⊆ L) (h0 : SameBut L s0 s) :
    SameBut L s0 (s.retireBad banks) := by
  unfold State.retireBad
  exact (SameBut.ite (SameBut.foldl (fun _ _ h1 => (SameBut.ite h1 (State.retireNote_keeps _ _ _ (Part.sub (by decide) hL0) (State.retireSilicon_keeps _ _ (Part.sub (by decide) hL0) (PairKeeps.snd (State.freeVal_keeps (Part.sub (by decide) hL0) h1)))))) h0) h0)

theorem State.endB3_keeps {L : List Part} {s0 s : State} (banks : List Nat)
    (hL0 : [.regs, .mem, .seam, .ecc, .evt, .log, .tsk, .pwr, .rst, .hif, .timers, .out, .fresh] ⊆ L) (h0 : SameBut L s0 s) :
    SameBut L s0 (s.endB3 banks) := by
  unfold State.endB3
  exact (SameBut.ite (SameBut.ite (State.setPwr_keeps _ (Part.sub (by decide) hL0) (State.endStep_keeps _ (Part.sub (by decide) hL0) (State.zeroRange_keeps _ _ (Part.sub (by decide) hL0) (State.retireBad_keeps _ (Part.sub (by decide) hL0) h0)))) (State.finishWake_keeps (Part.sub (by decide) hL0) (State.endStep_keeps _ (Part.sub (by decide) hL0) (State.zeroRange_keeps _ _ (Part.sub (by decide) hL0) (State.retireBad_keeps _ (Part.sub (by decide) hL0) h0))))) (State.endStep_keeps _ (Part.sub (by decide) hL0) (State.zeroRange_keeps _ _ (Part.sub (by decide) hL0) (State.retireBad_keeps _ (Part.sub (by decide) hL0) h0))))

theorem State.loadLogCfg_keeps {L : List Part} {s0 s : State}
    (hL0 : [.regs] ⊆ L) (h0 : SameBut L s0 s) :
    SameBut L s0 (s.loadLogCfg) := by
  unfold State.loadLogCfg
  split
  · exact (State.store_keeps _ _ (Part.sub (by decide) hL0) h0)
  · exact h0

theorem State.retireList_keeps {L : List Part} {s0 s : State} (list : List Word)
    (hL0 : [.regs, .ecc] ⊆ L) (h0 : SameBut L s0 s) :
    SameBut L s0 (s.retireList list) := by
  unfold State.retireList
  exact (SameBut.upd_ecc (Part.sub (by decide) hL0) (SameBut.foldl (fun _ _ h1 => (SameBut.ite h1 (State.retireSilicon_keeps _ _ (Part.sub (by decide) hL0) h1))) h0))

theorem State.restoreSilence_keeps {L : List Part} {s0 s : State} (reason : Option (BitVec 8))
    (hL0 : [.regs, .seam, .cmt, .tribs, .act, .upb, .restarts, .pipes, .epochs, .shapers, .policers, .evt, .tsk, .hif, .timers, .out] ⊆ L) (h0 : SameBut L s0 s) :
    SameBut L s0 (s.restoreSilence reason) := by
  unfold State.restoreSilence
  split
  · exact (SameBut.ite (State.go_keeps _ (Part.sub (by decide) hL0) (State.setAct_keeps _ (Part.sub (by decide) hL0) h0)) h0)
  · exact h0

theorem State.endB4_keeps {L : List Part} {s0 s : State} (list : List Word) (last : Option Word) (torn : Bool) (reason : Option (BitVec 8))
    (hL0 : [.regs, .seam, .cmt, .tribs, .act, .upb, .restarts, .pipes, .epochs, .ecc, .shapers, .policers, .evt, .log, .tsk, .rst, .hif, .timers, .out] ⊆ L) (h0 : SameBut L s0 s) :
    SameBut L s0 (s.endB4 list last torn reason) := by
  unfold State.endB4
  exact (State.endStep_keeps _ (Part.sub (by decide) hL0) (State.makeRecord_keeps _ _ _ (Part.sub (by decide) hL0) (SameBut.upd_log_rst (Part.sub (by decide) hL0) (State.restoreSilence_keeps _ (Part.sub (by decide) hL0) (State.retireList_keeps _ (Part.sub (by decide) hL0) (State.loadLogCfg_keeps (Part.sub (by decide) hL0) h0))))))

theorem State.loadImage_keeps {L : List Part} {s0 s : State} (h : BootHdr) (image : List Byte)
    (hL0 : [.mem, .ecc, .out] ⊆ L) (h0 : SameBut L s0 s) :
    PairKeeps L s0 (s.loadImage h image) := by
  unfold State.loadImage
  exact (PairKeeps.mk (State.storeBytes_keeps _ _ (Part.sub (by decide) hL0) h0))

theorem State.loadCopy1_keeps {L : List Part} {s0 s : State} (h : BootHdr) (image : List Byte)
    (hL0 : [.regs, .mem, .seam, .ecc, .evt, .tsk, .rst, .hif, .out] ⊆ L) (h0 : SameBut L s0 s) :
    SameBut L s0 (s.loadCopy1 h image) := by
  unfold State.loadCopy1
  split
  · rename_i heq; have h1 := PairKeeps.pair heq (State.loadImage_keeps _ _ (Part.sub (by decide) hL0) h0)
    exact h1
  · rename_i heq; have h2 := PairKeeps.pair heq (State.loadImage_keeps _ _ (Part.sub (by decide) hL0) h0)
    exact (State.bootFail_keeps (Part.sub (by decide) hL0) (State.copyFails_keeps _ _ (Part.sub (by decide) hL0) h2))

theorem State.useCopy1_keeps {L : List Part} {s0 s : State} (copy1 : List Byte) (image1 : List Byte)
    (hL0 : [.regs, .mem, .seam, .ecc, .evt, .tsk, .rst, .hif, .out] ⊆ L) (h0 : SameBut L s0 s) :
    SameBut L s0 (s.useCopy1 copy1 image1) := by
  unfold State.useCopy1
  exact (SameBut.ite (State.loadCopy1_keeps _ _ (Part.sub (by decide) hL0) (State.tryCopy1_keeps _ (Part.sub (by decide) hL0) h0)) (State.tryCopy1_keeps _ (Part.sub (by decide) hL0) h0))

theorem State.endB6_keeps {L : List Part} {s0 s : State} (image : List Byte) (copy1 : List Byte) (image1 : List Byte)
    (hL0 : [.regs, .mem, .seam, .ecc, .evt, .tsk, .rst, .hif, .out] ⊆ L) (h0 : SameBut L s0 s) :
    SameBut L s0 (s.endB6 image copy1 image1) := by
  unfold State.endB6
  exact (State.endStep_keeps _ (Part.sub (by decide) hL0) (by
    split
    · exact (SameBut.ite (State.loadCopy1_keeps _ _ (Part.sub (by decide) hL0) h0) (by
        split
        · rename_i heq; have h1 := PairKeeps.pair heq (State.loadImage_keeps _ _ (Part.sub (by decide) hL0) h0)
          exact h1
        · rename_i heq; have h2 := PairKeeps.pair heq (State.loadImage_keeps _ _ (Part.sub (by decide) hL0) h0)
          exact (State.useCopy1_keeps _ _ (Part.sub (by decide) hL0) (State.copyFails_keeps _ _ (Part.sub (by decide) hL0) h2))))
    · exact (State.useCopy1_keeps _ _ (Part.sub (by decide) hL0) h0)))

theorem State.bootDone_keeps {L : List Part} {s0 s : State} (o : BootDone)
    (hL0 : [.regs, .mem, .seam, .cmt, .own, .tribs, .act, .upb, .restarts, .key, .pipes, .epochs, .memch, .ecc, .shapers, .policers, .evt, .log, .tsk, .cpu, .pwr, .rst, .hif, .timers, .out, .fresh] ⊆ L) (h0 : SameBut L s0 s) :
    SameBut L s0 (s.bootDone o) := by
  unfold State.bootDone
  split
  · exact (SameBut.ite (State.bootNext_keeps (Part.sub (by decide) hL0) (State.endStep_keeps _ (Part.sub (by decide) hL0) (SameBut.upd_key (Part.sub (by decide) hL0) h0))) h0)
  · exact (SameBut.ite (State.bootNext_keeps (Part.sub (by decide) hL0) (State.endB2_keeps _ _ _ (Part.sub (by decide) hL0) h0)) h0)
  · exact (SameBut.ite (State.bootNext_keeps (Part.sub (by decide) hL0) (State.endB3_keeps _ (Part.sub (by decide) hL0) h0)) h0)
  · exact (SameBut.ite (State.bootNext_keeps (Part.sub (by decide) hL0) (State.endB4_keeps _ _ _ _ (Part.sub (by decide) hL0) h0)) h0)
  · exact (SameBut.ite (State.endStep_keeps _ (Part.sub (by decide) hL0) h0) h0)
  · exact (SameBut.ite (State.bootNext_keeps (Part.sub (by decide) hL0) (State.endB6_keeps _ _ _ (Part.sub (by decide) hL0) h0)) h0)
  · exact (SameBut.ite (State.releaseCores_keeps (Part.sub (by decide) hL0) h0) h0)

theorem State.opBootCmd_keeps {L : List Part} {s0 s : State} (r : Req) (v : Word)
    (hL0 : [.regs, .seam, .cmt, .own, .evt, .tsk, .cpu, .rst, .hif, .timers, .resp, .out] ⊆ L) (h0 : SameBut L s0 s) :
    SameBut L s0 (s.opBootCmd r v) := by
  unfold State.opBootCmd
  exact (SameBut.ite (SameBut.ite (State.releaseCores_keeps (Part.sub (by decide) hL0) (SameBut.ite (SameBut.ite (State.beginStep_keeps _ (Part.sub (by decide) hL0) (SameBut.upd_rst (Part.sub (by decide) hL0) h0)) (State.refuse_keeps _ _ (Part.sub (by decide) hL0) h0)) h0)) (State.refuse_keeps _ _ (Part.sub (by decide) hL0) (SameBut.ite (SameBut.ite (State.beginStep_keeps _ (Part.sub (by decide) hL0) (SameBut.upd_rst (Part.sub (by decide) hL0) h0)) (State.refuse_keeps _ _ (Part.sub (by decide) hL0) h0)) h0))) (SameBut.ite (SameBut.ite (State.beginStep_keeps _ (Part.sub (by decide) hL0) (SameBut.upd_rst (Part.sub (by decide) hL0) h0)) (State.refuse_keeps _ _ (Part.sub (by decide) hL0) h0)) h0))

theorem State.opBistCtl_keeps {L : List Part} {s0 s : State} (v : Word)
    (hL0 : [.regs, .seam, .evt, .tsk, .sys, .hif, .out] ⊆ L) (h0 : SameBut L s0 s) :
    SameBut L s0 (s.opBistCtl v) := by
  unfold State.opBistCtl
  exact (SameBut.ite (State.store_keeps _ _ (Part.sub (by decide) hL0) h0) (SameBut.ite (State.fire_keeps _ _ (Part.sub (by decide) hL0) (SameBut.upd_sys (Part.sub (by decide) hL0) (State.store_keeps _ _ (Part.sub (by decide) hL0) h0))) (State.wr_keeps _ _ (Part.sub (by decide) hL0) (State.wr_keeps _ _ (Part.sub (by decide) hL0) (SameBut.upd_sys (Part.sub (by decide) hL0) (State.store_keeps _ _ (Part.sub (by decide) hL0) h0))))))

theorem State.bistLeaves_keeps {L : List Part} {s0 s : State} (kind : Nat) (idx : Nat)
    (hL0 : [.regs, .mem, .prog, .memch] ⊆ L) (h0 : SameBut L s0 s) :
    SameBut L s0 (s.bistLeaves kind idx) := by
  unfold State.bistLeaves
  split
  · exact (State.zeroRange_keeps _ _ (Part.sub (by decide) hL0) h0)
  · exact (State.viewTree_keeps (Part.sub (by decide) hL0) (State.zeroRange_keeps _ _ (Part.sub (by decide) hL0) h0))
  · exact (State.viewProg_keeps (Part.sub (by decide) hL0) (SameBut.upd_prog (Part.sub (by decide) hL0) h0))
  · exact (State.zeroRange_keeps _ _ (Part.sub (by decide) hL0) h0)
  · exact (State.setCh_keeps _ _ (Part.sub (by decide) hL0) h0)
  · exact h0

theorem State.bistEnd_keeps {L : List Part} {s0 s : State} (err : Nat) (addr : Word)
    (hL0 : [.regs, .mem, .seam, .prog, .memch, .evt, .tsk, .sys, .hif, .out] ⊆ L) (h0 : SameBut L s0 s) :
    SameBut L s0 (s.bistEnd err addr) := by
  unfold State.bistEnd
  exact (SameBut.ite h0 (State.fire_keeps _ _ (Part.sub (by decide) hL0) (SameBut.upd_sys (Part.sub (by decide) hL0) (State.wr_keeps _ _ (Part.sub (by decide) hL0) (State.wr_keeps _ _ (Part.sub (by decide) hL0) (State.bistLeaves_keeps _ _ (Part.sub (by decide) hL0) h0))))))

theorem State.logProgrammed_keeps {L : List Part} {s0 s : State} (ok : Bool)
    (hL0 : [.regs, .seam, .evt, .log, .tsk, .hif, .out] ⊆ L) (h0 : SameBut L s0 s) :
    SameBut L s0 (s.logProgrammed ok) := by
  unfold State.logProgrammed
  exact (SameBut.ite h0 (SameBut.ite (State.logStart_keeps (Part.sub (by decide) hL0) (State.flashStart_keeps (Part.sub (by decide) hL0) (State.bumpBy_keeps _ _ (Part.sub (by decide) hL0) (SameBut.upd_log (Part.sub (by decide) hL0) h0)))) (SameBut.ite (State.logEmit_keeps _ _ (Part.sub (by decide) hL0) (SameBut.upd_log (Part.sub (by decide) hL0) h0)) (State.logStart_keeps (Part.sub (by decide) hL0) (State.flashStart_keeps (Part.sub (by decide) hL0) (State.fire_keeps _ _ (Part.sub (by decide) hL0) (State.bumpBy_keeps _ _ (Part.sub (by decide) hL0) (SameBut.upd_log (Part.sub (by decide) hL0) h0))))))))

theorem execPowerOn_keeps (s : State) :
    ResKeeps [.regs, .shown, .mirror, .mem, .seam, .cmt, .own, .rx, .dsf, .tmap, .tribs, .tfrags, .rows, .ttest, .act, .upb, .restarts, .gsm, .txEff, .pairs, .key, .dark, .pipes, .epochs, .prog, .rcnt, .rcntHeld, .excWait, .bufs, .bufRot, .qmap, .memch, .ecc, .mxe, .queues, .turns, .elig, .shapers, .policers, .gates, .gateBusy, .lanes, .lports, .mdio, .tim, .evt, .log, .tsk, .cpu, .pwr, .rst, .sys, .hif, .clock, .timers, .out] s (execPowerOn s) := by
  have hL0 := List.Subset.refl ([.regs, .shown, .mirror, .mem, .seam, .cmt, .own, .rx, .dsf, .tmap, .tribs, .tfrags, .rows, .ttest, .act, .upb, .restarts, .gsm, .txEff, .pairs, .key, .dark, .pipes, .epochs, .prog, .rcnt, .rcntHeld, .excWait, .bufs, .bufRot, .qmap, .memch, .ecc, .mxe, .queues, .turns, .elig, .shapers, .policers, .gates, .gateBusy, .lanes, .lports, .mdio, .tim, .evt, .log, .tsk, .cpu, .pwr, .rst, .sys, .hif, .clock, .timers, .out] : List Part)
  have h0 := SameBut.refl [.regs, .shown, .mirror, .mem, .seam, .cmt, .own, .rx, .dsf, .tmap, .tribs, .tfrags, .rows, .ttest, .act, .upb, .restarts, .gsm, .txEff, .pairs, .key, .dark, .pipes, .epochs, .prog, .rcnt, .rcntHeld, .excWait, .bufs, .bufRot, .qmap, .memch, .ecc, .mxe, .queues, .turns, .elig, .shapers, .policers, .gates, .gateBusy, .lanes, .lports, .mdio, .tim, .evt, .log, .tsk, .cpu, .pwr, .rst, .sys, .hif, .clock, .timers, .out] s
  unfold execPowerOn
  exact (ResKeeps.next (SameBut.ite (State.regStep_keeps _ _ (Part.sub (by decide) hL0) (SameBut.upd_mem_own_act_tim_pwr_rst_clock (Part.sub (by decide) hL0) (State.forget_keeps _ (Part.sub (by decide) hL0) h0))) h0))

theorem execPowerLoss_keeps (s : State) :
    ResKeeps [.regs, .shown, .mirror, .mem, .seam, .cmt, .own, .rx, .dsf, .tmap, .tribs, .tfrags, .rows, .ttest, .act, .upb, .restarts, .gsm, .txEff, .pairs, .key, .dark, .pipes, .epochs, .prog, .rcnt, .rcntHeld, .excWait, .bufs, .bufRot, .qmap, .memch, .ecc, .mxe, .queues, .turns, .elig, .shapers, .policers, .gates, .gateBusy, .lanes, .lports, .mdio, .tim, .evt, .log, .tsk, .cpu, .pwr, .rst, .sys, .hif, .pins, .clock, .timers] s (execPowerLoss s) := by
  have hL0 := List.Subset.refl ([.regs, .shown, .mirror, .mem, .seam, .cmt, .own, .rx, .dsf, .tmap, .tribs, .tfrags, .rows, .ttest, .act, .upb, .restarts, .gsm, .txEff, .pairs, .key, .dark, .pipes, .epochs, .prog, .rcnt, .rcntHeld, .excWait, .bufs, .bufRot, .qmap, .memch, .ecc, .mxe, .queues, .turns, .elig, .shapers, .policers, .gates, .gateBusy, .lanes, .lports, .mdio, .tim, .evt, .log, .tsk, .cpu, .pwr, .rst, .sys, .hif, .pins, .clock, .timers] : List Part)
  have h0 := SameBut.refl [.regs, .shown, .mirror, .mem, .seam, .cmt, .own, .rx, .dsf, .tmap, .tribs, .tfrags, .rows, .ttest, .act, .upb, .restarts, .gsm, .txEff, .pairs, .key, .dark, .pipes, .epochs, .prog, .rcnt, .rcntHeld, .excWait, .bufs, .bufRot, .qmap, .memch, .ecc, .mxe, .queues, .turns, .elig, .shapers, .policers, .gates, .gateBusy, .lanes, .lports, .mdio, .tim, .evt, .log, .tsk, .cpu, .pwr, .rst, .sys, .hif, .pins, .clock, .timers] s
  unfold execPowerLoss
  exact (ResKeeps.next (SameBut.upd_mem_own_act_tim_pwr_rst_pins_clock (Part.sub (by decide) hL0) (State.forget_keeps _ (Part.sub (by decide) hL0) h0)))

theorem execResetAssert_keeps (s : State) :
    ResKeeps [.regs, .shown, .mirror, .seam, .cmt, .own, .rx, .dsf, .tmap, .tribs, .tfrags, .rows, .ttest, .act, .upb, .restarts, .gsm, .txEff, .pairs, .key, .dark, .pipes, .epochs, .prog, .rcnt, .rcntHeld, .excWait, .bufs, .bufRot, .qmap, .memch, .ecc, .mxe, .queues, .turns, .elig, .shapers, .policers, .gates, .gateBusy, .lanes, .lports, .mdio, .tim, .evt, .log, .tsk, .cpu, .pwr, .rst, .sys, .hif, .clock, .timers, .out] s (execResetAssert s) := by
  have hL0 := List.Subset.refl ([.regs, .shown, .mirror, .seam, .cmt, .own, .rx, .dsf, .tmap, .tribs, .tfrags, .rows, .ttest, .act, .upb, .restarts, .gsm, .txEff, .pairs, .key, .dark, .pipes, .epochs, .prog, .rcnt, .rcntHeld, .excWait, .bufs, .bufRot, .qmap, .memch, .ecc, .mxe, .queues, .turns, .elig, .shapers, .policers, .gates, .gateBusy, .lanes, .lports, .mdio, .tim, .evt, .log, .tsk, .cpu, .pwr, .rst, .sys, .hif, .clock, .timers, .out] : List Part)
  have h0 := SameBut.refl [.regs, .shown, .mirror, .seam, .cmt, .own, .rx, .dsf, .tmap, .tribs, .tfrags, .rows, .ttest, .act, .upb, .restarts, .gsm, .txEff, .pairs, .key, .dark, .pipes, .epochs, .prog, .rcnt, .rcntHeld, .excWait, .bufs, .bufRot, .qmap, .memch, .ecc, .mxe, .queues, .turns, .elig, .shapers, .policers, .gates, .gateBusy, .lanes, .lports, .mdio, .tim, .evt, .log, .tsk, .cpu, .pwr, .rst, .sys, .hif, .clock, .timers, .out] s
  unfold execResetAssert
  exact (ResKeeps.next (SameBut.ite (SameBut.upd_rst (Part.sub (by decide) hL0) h0) (State.deviceReset_keeps _ (Part.sub (by decide) hL0) (SameBut.upd_rst (Part.sub (by decide) hL0) h0))))

theorem execResetRelease_keeps (straps : BitVec 5) (s : State) :
    ResKeeps [.regs, .seam, .cmt, .own, .rx, .dsf, .tribs, .act, .upb, .restarts, .pairs, .pipes, .epochs, .shapers, .policers, .tim, .evt, .tsk, .pwr, .rst, .hif, .clock, .timers, .out] s (execResetRelease straps s) := by
  have hL0 := List.Subset.refl ([.regs, .seam, .cmt, .own, .rx, .dsf, .tribs, .act, .upb, .restarts, .pairs, .pipes, .epochs, .shapers, .policers, .tim, .evt, .tsk, .pwr, .rst, .hif, .clock, .timers, .out] : List Part)
  have h0 := SameBut.refl [.regs, .seam, .cmt, .own, .rx, .dsf, .tribs, .act, .upb, .restarts, .pairs, .pipes, .epochs, .shapers, .policers, .tim, .evt, .tsk, .pwr, .rst, .hif, .clock, .timers, .out] s
  unfold execResetRelease
  exact (ResKeeps.next (SameBut.ite h0 (SameBut.ite (SameBut.upd_own_rst (Part.sub (by decide) hL0) h0) (SameBut.ite (State.logicStep_keeps (Part.sub (by decide) hL0) (State.electionStart_keeps (Part.sub (by decide) hL0) (SameBut.upd_own_rst (Part.sub (by decide) hL0) h0))) (State.electionStart_keeps (Part.sub (by decide) hL0) (SameBut.upd_own_rst (Part.sub (by decide) hL0) h0))))))

theorem execDevRst_keeps (r : Req) (v : Word) (s : State) :
    ResKeeps [.regs, .shown, .mirror, .seam, .cmt, .own, .rx, .dsf, .tmap, .tribs, .tfrags, .rows, .ttest, .act, .upb, .restarts, .gsm, .txEff, .pairs, .key, .dark, .pipes, .epochs, .prog, .rcnt, .rcntHeld, .excWait, .bufs, .bufRot, .qmap, .memch, .ecc, .mxe, .queues, .turns, .elig, .shapers, .policers, .gates, .gateBusy, .lanes, .lports, .mdio, .tim, .evt, .log, .tsk, .cpu, .pwr, .rst, .sys, .hif, .clock, .timers, .resp, .out] s (execDevRst r v s) := by
  have hL0 := List.Subset.refl ([.regs, .shown, .mirror, .seam, .cmt, .own, .rx, .dsf, .tmap, .tribs, .tfrags, .rows, .ttest, .act, .upb, .restarts, .gsm, .txEff, .pairs, .key, .dark, .pipes, .epochs, .prog, .rcnt, .rcntHeld, .excWait, .bufs, .bufRot, .qmap, .memch, .ecc, .mxe, .queues, .turns, .elig, .shapers, .policers, .gates, .gateBusy, .lanes, .lports, .mdio, .tim, .evt, .log, .tsk, .cpu, .pwr, .rst, .sys, .hif, .clock, .timers, .resp, .out] : List Part)
  have h0 := SameBut.refl [.regs, .shown, .mirror, .seam, .cmt, .own, .rx, .dsf, .tmap, .tribs, .tfrags, .rows, .ttest, .act, .upb, .restarts, .gsm, .txEff, .pairs, .key, .dark, .pipes, .epochs, .prog, .rcnt, .rcntHeld, .excWait, .bufs, .bufRot, .qmap, .memch, .ecc, .mxe, .queues, .turns, .elig, .shapers, .policers, .gates, .gateBusy, .lanes, .lports, .mdio, .tim, .evt, .log, .tsk, .cpu, .pwr, .rst, .sys, .hif, .clock, .timers, .resp, .out] s
  unfold execDevRst
  exact (ResKeeps.next (State.access_keeps _ _ _ _ (Part.sub (by decide) hL0) (fun _ h1 => (State.opRstCmd_keeps _ (Part.sub (by decide) hL0) h1)) h0))

theorem execWatchdogExpire_keeps (s : State) :
    ResKeeps [.regs, .shown, .mirror, .seam, .cmt, .own, .rx, .dsf, .tmap, .tribs, .tfrags, .rows, .ttest, .act, .upb, .restarts, .gsm, .txEff, .pairs, .key, .dark, .pipes, .epochs, .prog, .rcnt, .rcntHeld, .excWait, .bufs, .bufRot, .qmap, .memch, .ecc, .mxe, .queues, .turns, .elig, .shapers, .policers, .gates, .gateBusy, .lanes, .lports, .mdio, .tim, .evt, .log, .tsk, .cpu, .pwr, .rst, .sys, .hif, .clock, .timers, .out] s (execWatchdogExpire s) := by
  have hL0 := List.Subset.refl ([.regs, .shown, .mirror, .seam, .cmt, .own, .rx, .dsf, .tmap, .tribs, .tfrags, .rows, .ttest, .act, .upb, .restarts, .gsm, .txEff, .pairs, .key, .dark, .pipes, .epochs, .prog, .rcnt, .rcntHeld, .excWait, .bufs, .bufRot, .qmap, .memch, .ecc, .mxe, .queues, .turns, .elig, .shapers, .policers, .gates, .gateBusy, .lanes, .lports, .mdio, .tim, .evt, .log, .tsk, .cpu, .pwr, .rst, .sys, .hif, .clock, .timers, .out] : List Part)
  have h0 := SameBut.refl [.regs, .shown, .mirror, .seam, .cmt, .own, .rx, .dsf, .tmap, .tribs, .tfrags, .rows, .ttest, .act, .upb, .restarts, .gsm, .txEff, .pairs, .key, .dark, .pipes, .epochs, .prog, .rcnt, .rcntHeld, .excWait, .bufs, .bufRot, .qmap, .memch, .ecc, .mxe, .queues, .turns, .elig, .shapers, .policers, .gates, .gateBusy, .lanes, .lports, .mdio, .tim, .evt, .log, .tsk, .cpu, .pwr, .rst, .sys, .hif, .clock, .timers, .out] s
  unfold execWatchdogExpire
  exact (ResKeeps.next (SameBut.ite (SameBut.ite (State.fire_keeps _ _ (Part.sub (by decide) hL0) (State.stopTimer_keeps _ (Part.sub (by decide) hL0) h0)) (SameBut.ite (State.coreComplex_keeps (Part.sub (by decide) hL0) (State.fire_keeps _ _ (Part.sub (by decide) hL0) (State.stopTimer_keeps _ (Part.sub (by decide) hL0) h0))) (State.askReset_keeps _ (Part.sub (by decide) hL0) (State.fire_keeps _ _ (Part.sub (by decide) hL0) (State.stopTimer_keeps _ (Part.sub (by decide) hL0) h0))))) h0))

theorem execWdtKick_keeps (r : Req) (v : Word) (s : State) :
    ResKeeps [.regs, .seam, .evt, .tsk, .hif, .timers, .resp, .out] s (execWdtKick r v s) := by
  have hL0 := List.Subset.refl ([.regs, .seam, .evt, .tsk, .hif, .timers, .resp, .out] : List Part)
  have h0 := SameBut.refl [.regs, .seam, .evt, .tsk, .hif, .timers, .resp, .out] s
  unfold execWdtKick
  exact (ResKeeps.next (State.access_keeps _ _ _ _ (Part.sub (by decide) hL0) (fun _ h1 => (State.opWdtKick_keeps _ (Part.sub (by decide) hL0) h1)) h0))

theorem execCoreRunWrite_keeps (r : Req) (v : Word) (s : State) :
    ResKeeps [.regs, .seam, .cmt, .own, .evt, .tsk, .cpu, .hif, .timers, .resp, .out] s (execCoreRunWrite r v s) := by
  have hL0 := List.Subset.refl ([.regs, .seam, .cmt, .own, .evt, .tsk, .cpu, .hif, .timers, .resp, .out] : List Part)
  have h0 := SameBut.refl [.regs, .seam, .cmt, .own, .evt, .tsk, .cpu, .hif, .timers, .resp, .out] s
  unfold execCoreRunWrite
  exact (ResKeeps.next (State.access_keeps _ _ _ _ (Part.sub (by decide) hL0) (fun _ h1 => (State.opCoreRun_keeps _ (Part.sub (by decide) hL0) h1)) h0))

theorem execBootStepDone_keeps (o : BootDone) (s : State) :
    ResKeeps [.regs, .mem, .seam, .cmt, .own, .tribs, .act, .upb, .restarts, .key, .pipes, .epochs, .memch, .ecc, .shapers, .policers, .evt, .log, .tsk, .cpu, .pwr, .rst, .hif, .timers, .out, .fresh] s (execBootStepDone o s) := by
  have hL0 := List.Subset.refl ([.regs, .mem, .seam, .cmt, .own, .tribs, .act, .upb, .restarts, .key, .pipes, .epochs, .memch, .ecc, .shapers, .policers, .evt, .log, .tsk, .cpu, .pwr, .rst, .hif, .timers, .out, .fresh] : List Part)
  have h0 := SameBut.refl [.regs, .mem, .seam, .cmt, .own, .tribs, .act, .upb, .restarts, .key, .pipes, .epochs, .memch, .ecc, .shapers, .policers, .evt, .log, .tsk, .cpu, .pwr, .rst, .hif, .timers, .out, .fresh] s
  unfold execBootStepDone
  exact (ResKeeps.ite (ResKeeps.next (State.bootDone_keeps _ (Part.sub (by decide) hL0) h0)) ResKeeps.fault)

theorem execFlashReadTimeout_keeps (s : State) :
    ResKeeps [.regs, .seam, .memch, .evt, .tsk, .rst, .hif, .out] s (execFlashReadTimeout s) := by
  have hL0 := List.Subset.refl ([.regs, .seam, .memch, .evt, .tsk, .rst, .hif, .out] : List Part)
  have h0 := SameBut.refl [.regs, .seam, .memch, .evt, .tsk, .rst, .hif, .out] s
  unfold execFlashReadTimeout
  exact (ResKeeps.next (SameBut.ite (SameBut.ite (State.bootNext_keeps (Part.sub (by decide) hL0) (State.endStep_keeps _ (Part.sub (by decide) hL0) (State.bootFail_keeps (Part.sub (by decide) hL0) (State.copyFails_keeps _ _ (Part.sub (by decide) hL0) h0)))) (State.copyFails_keeps _ _ (Part.sub (by decide) hL0) h0)) (SameBut.ite (SameBut.ite (State.bootNext_keeps (Part.sub (by decide) hL0) (State.endStep_keeps _ (Part.sub (by decide) hL0) (State.bootFail_keeps (Part.sub (by decide) hL0) (State.copyFails_keeps _ _ (Part.sub (by decide) hL0) h0)))) (SameBut.upd_rst (Part.sub (by decide) hL0) (State.copyFails_keeps _ _ (Part.sub (by decide) hL0) h0))) h0)))

theorem execBootRetry_keeps (r : Req) (v : Word) (s : State) :
    ResKeeps [.regs, .seam, .cmt, .own, .evt, .tsk, .cpu, .rst, .hif, .timers, .resp, .out] s (execBootRetry r v s) := by
  have hL0 := List.Subset.refl ([.regs, .seam, .cmt, .own, .evt, .tsk, .cpu, .rst, .hif, .timers, .resp, .out] : List Part)
  have h0 := SameBut.refl [.regs, .seam, .cmt, .own, .evt, .tsk, .cpu, .rst, .hif, .timers, .resp, .out] s
  unfold execBootRetry
  exact (ResKeeps.next (State.access_keeps _ _ _ _ (Part.sub (by decide) hL0) (fun _ h1 => (State.opBootCmd_keeps _ _ (Part.sub (by decide) hL0) h1)) h0))

theorem execBootRun_keeps (r : Req) (v : Word) (s : State) :
    ResKeeps [.regs, .seam, .cmt, .own, .evt, .tsk, .cpu, .rst, .hif, .timers, .resp, .out] s (execBootRun r v s) := by
  have hL0 := List.Subset.refl ([.regs, .seam, .cmt, .own, .evt, .tsk, .cpu, .rst, .hif, .timers, .resp, .out] : List Part)
  have h0 := SameBut.refl [.regs, .seam, .cmt, .own, .evt, .tsk, .cpu, .rst, .hif, .timers, .resp, .out] s
  unfold execBootRun
  exact (ResKeeps.next (State.access_keeps _ _ _ _ (Part.sub (by decide) hL0) (fun _ h1 => (State.opBootCmd_keeps _ _ (Part.sub (by decide) hL0) h1)) h0))

theorem execBistGo_keeps (r : Req) (v : Word) (s : State) :
    ResKeeps [.regs, .seam, .evt, .tsk, .sys, .hif, .resp, .out] s (execBistGo r v s) := by
  have hL0 := List.Subset.refl ([.regs, .seam, .evt, .tsk, .sys, .hif, .resp, .out] : List Part)
  have h0 := SameBut.refl [.regs, .seam, .evt, .tsk, .sys, .hif, .resp, .out] s
  unfold execBistGo
  exact (ResKeeps.next (State.access_keeps _ _ _ _ (Part.sub (by decide) hL0) (fun _ h1 => (State.opBistCtl_keeps _ (Part.sub (by decide) hL0) h1)) h0))

theorem execBistDone_keeps (err : Nat) (addr : Word) (s : State) :
    ResKeeps [.regs, .mem, .seam, .prog, .memch, .evt, .tsk, .sys, .hif, .out] s (execBistDone err addr s) := by
  have hL0 := List.Subset.refl ([.regs, .mem, .seam, .prog, .memch, .evt, .tsk, .sys, .hif, .out] : List Part)
  have h0 := SameBut.refl [.regs, .mem, .seam, .prog, .memch, .evt, .tsk, .sys, .hif, .out] s
  unfold execBistDone
  exact (ResKeeps.next (State.bistEnd_keeps _ _ (Part.sub (by decide) hL0) h0))

theorem execLogPageProgram_keeps (ok : Bool) (s : State) :
    ResKeeps [.regs, .shown, .mirror, .seam, .cmt, .own, .rx, .dsf, .tmap, .tribs, .tfrags, .rows, .ttest, .act, .upb, .restarts, .gsm, .txEff, .pairs, .key, .dark, .pipes, .epochs, .prog, .rcnt, .rcntHeld, .excWait, .bufs, .bufRot, .qmap, .memch, .ecc, .mxe, .queues, .turns, .elig, .shapers, .policers, .gates, .gateBusy, .lanes, .lports, .mdio, .tim, .evt, .log, .tsk, .cpu, .pwr, .rst, .sys, .hif, .clock, .timers, .out] s (execLogPageProgram ok s) := by
  have hL0 := List.Subset.refl ([.regs, .shown, .mirror, .seam, .cmt, .own, .rx, .dsf, .tmap, .tribs, .tfrags, .rows, .ttest, .act, .upb, .restarts, .gsm, .txEff, .pairs, .key, .dark, .pipes, .epochs, .prog, .rcnt, .rcntHeld, .excWait, .bufs, .bufRot, .qmap, .memch, .ecc, .mxe, .queues, .turns, .elig, .shapers, .policers, .gates, .gateBusy, .lanes, .lports, .mdio, .tim, .evt, .log, .tsk, .cpu, .pwr, .rst, .sys, .hif, .clock, .timers, .out] : List Part)
  have h0 := SameBut.refl [.regs, .shown, .mirror, .seam, .cmt, .own, .rx, .dsf, .tmap, .tribs, .tfrags, .rows, .ttest, .act, .upb, .restarts, .gsm, .txEff, .pairs, .key, .dark, .pipes, .epochs, .prog, .rcnt, .rcntHeld, .excWait, .bufs, .bufRot, .qmap, .memch, .ecc, .mxe, .queues, .turns, .elig, .shapers, .policers, .gates, .gateBusy, .lanes, .lports, .mdio, .tim, .evt, .log, .tsk, .cpu, .pwr, .rst, .sys, .hif, .clock, .timers, .out] s
  unfold execLogPageProgram
  exact (ResKeeps.next (State.resetIfFlushed_keeps (Part.sub (by decide) hL0) (State.logProgrammed_keeps _ (Part.sub (by decide) hL0) h0)))

theorem execPowerFailFlushDone_keeps (late : Bool) (s : State) :
    ResKeeps [.regs, .shown, .mirror, .seam, .cmt, .own, .rx, .dsf, .tmap, .tribs, .tfrags, .rows, .ttest, .act, .upb, .restarts, .gsm, .txEff, .pairs, .key, .dark, .pipes, .epochs, .prog, .rcnt, .rcntHeld, .excWait, .bufs, .bufRot, .qmap, .memch, .ecc, .mxe, .queues, .turns, .elig, .shapers, .policers, .gates, .gateBusy, .lanes, .lports, .mdio, .tim, .evt, .log, .tsk, .cpu, .pwr, .rst, .sys, .hif, .clock, .timers, .out] s (execPowerFailFlushDone late s) := by
  have hL0 := List.Subset.refl ([.regs, .shown, .mirror, .seam, .cmt, .own, .rx, .dsf, .tmap, .tribs, .tfrags, .rows, .ttest, .act, .upb, .restarts, .gsm, .txEff, .pairs, .key, .dark, .pipes, .epochs, .prog, .rcnt, .rcntHeld, .excWait, .bufs, .bufRot, .qmap, .memch, .ecc, .mxe, .queues, .turns, .elig, .shapers, .policers, .gates, .gateBusy, .lanes, .lports, .mdio, .tim, .evt, .log, .tsk, .cpu, .pwr, .rst, .sys, .hif, .clock, .timers, .out] : List Part)
  have h0 := SameBut.refl [.regs, .shown, .mirror, .seam, .cmt, .own, .rx, .dsf, .tmap, .tribs, .tfrags, .rows, .ttest, .act, .upb, .restarts, .gsm, .txEff, .pairs, .key, .dark, .pipes, .epochs, .prog, .rcnt, .rcntHeld, .excWait, .bufs, .bufRot, .qmap, .memch, .ecc, .mxe, .queues, .turns, .elig, .shapers, .policers, .gates, .gateBusy, .lanes, .lports, .mdio, .tim, .evt, .log, .tsk, .cpu, .pwr, .rst, .sys, .hif, .clock, .timers, .out] s
  unfold execPowerFailFlushDone
  exact (ResKeeps.next (SameBut.ite (State.resetIfFlushed_keeps (Part.sub (by decide) hL0) (SameBut.upd_log (Part.sub (by decide) hL0) h0)) h0))

theorem execEntropyTestPass_keeps (fab : Bool) (s : State) :
    ResKeeps [.regs, .key, .memch, .mxe, .rst, .fresh] s (execEntropyTestPass fab s) := by
  have hL0 := List.Subset.refl ([.regs, .key, .memch, .mxe, .rst, .fresh] : List Part)
  have h0 := SameBut.refl [.regs, .key, .memch, .mxe, .rst, .fresh] s
  unfold execEntropyTestPass
  exact (ResKeeps.next (SameBut.ite (SameBut.ite (SameBut.foldl (fun _ _ h1 => (SameBut.ite (State.startTraining_keeps _ _ (Part.sub (by decide) hL0) h1) h1)) (State.entropyUp_keeps (Part.sub (by decide) hL0) h0)) (State.bootNext_keeps (Part.sub (by decide) hL0) (SameBut.foldl (fun _ _ h2 => (SameBut.ite (State.startTraining_keeps _ _ (Part.sub (by decide) hL0) h2) h2)) (State.entropyUp_keeps (Part.sub (by decide) hL0) h0)))) (State.setKey_keeps _ (Part.sub (by decide) hL0) h0)))

end Sys2Proof.Machine
end

