-- ==== Sys2Proof/Laws/Map.lean ====
section
/-! SUPPORT. Maps: what is read after a write, and that every operation keeps the canonical form. -/

namespace Sys2Proof.Machine

variable {α : Type} (d : α)

@[simp] theorem mapGet_nil (k : Nat) : mapGet d [] k = d := rfl

theorem mapGet_mapDel (m : SMap α) (k k' : Nat) : mapGet d (mapDel m k) k' = if k' = k then d else mapGet d m k' := by
  induction m with
  | nil => simp [mapDel]
  | cons e m ih =>
    obtain ⟨a, v⟩ := e
    unfold mapDel at ih ⊢
    by_cases h : a = k
    · subst h
      simp only [List.filter_cons, ne_eq, not_true_eq_false, decide_false, Bool.false_eq_true, if_false, ih, mapGet]
      split <;> simp_all
    · simp only [List.filter_cons, ne_eq, h, not_false_eq_true, decide_true, if_true, mapGet, ih]
      split
      · next h' => simp [h', h]
      · rfl

theorem mapGet_mapIns (m : SMap α) (k : Nat) (v : α) (k' : Nat) :
    mapGet d (mapIns m k v) k' = if k' = k then v else mapGet d m k' := by
  induction m with
  | nil => simp [mapIns, mapGet]
  | cons e m ih =>
    obtain ⟨a, w⟩ := e
    unfold mapIns
    split
    · next h => subst h; simp only [mapGet]; split <;> simp_all
    · split
      · simp only [mapGet]
      · next h _ =>
        simp only [mapGet, ih]
        split
        · next h' => rw [if_neg]; omega
        · rfl

/-- A read after a write: the value written at its key, the old value at every other key. -/
theorem mapGet_mapPut [DecidableEq α] (m : SMap α) (k : Nat) (v : α) (k' : Nat) :
    mapGet d (mapPut d m k v) k' = if k' = k then v else mapGet d m k' := by
  unfold mapPut
  split
  · next h => subst h; exact mapGet_mapDel v m k k'
  · exact mapGet_mapIns d m k v k'

@[simp] theorem mapGet_mapPut_self [DecidableEq α] (m : SMap α) (k : Nat) (v : α) : mapGet d (mapPut d m k v) k = v := by
  simp [mapGet_mapPut]

theorem mapGet_mapPut_ne [DecidableEq α] (m : SMap α) {k k' : Nat} (v : α) (h : k' ≠ k) :
    mapGet d (mapPut d m k v) k' = mapGet d m k' := by
  simp [mapGet_mapPut, h]

/-! ### The canonical form -/

theorem mapWfFrom_mono [DecidableEq α] {df : Nat → α} {lo : Option Nat} {a : Nat} {m : SMap α}
    (hl : ∀ l, lo = some l → l < a) (h : mapWfFrom df (some a) m = true) : mapWfFrom df lo m = true := by
  cases m with
  | nil => rfl
  | cons e m =>
    obtain ⟨k, v⟩ := e
    simp only [mapWfFrom, Bool.and_eq_true, decide_eq_true_eq] at h ⊢
    refine ⟨⟨?_, h.1.2⟩, h.2⟩
    cases lo with
    | none => rfl
    | some l => have := hl l rfl; simp only [decide_eq_true_eq]; omega

theorem mapWfFrom_filter [DecidableEq α] {df : Nat → α} (p : Nat × α → Bool) (m : SMap α) :
    ∀ lo, mapWfFrom df lo m = true → mapWfFrom df lo (m.filter p) = true := by
  induction m with
  | nil => intro _ _; rfl
  | cons e m ih =>
    obtain ⟨k, v⟩ := e
    intro lo h
    simp only [mapWfFrom, Bool.and_eq_true] at h
    rw [List.filter_cons]
    split
    · simp only [mapWfFrom, Bool.and_eq_true]
      exact ⟨h.1, ih _ h.2⟩
    · refine mapWfFrom_mono ?_ (ih _ h.2)
      intro l hl
      subst hl
      simpa using h.1.1

theorem mapWfFrom_mapIns [DecidableEq α] {df : Nat → α} (m : SMap α) (k : Nat) (v : α) (hv : v ≠ df k) :
    ∀ lo, (∀ l, lo = some l → l < k) → mapWfFrom df lo m = true → mapWfFrom df lo (mapIns m k v) = true := by
  induction m with
  | nil =>
    intro lo hl _
    cases lo with
    | none => simp [mapIns, mapWfFrom, hv]
    | some l => simp [mapIns, mapWfFrom, hv, hl l rfl]
  | cons e m ih =>
    obtain ⟨a, w⟩ := e
    intro lo hl h
    simp only [mapWfFrom, Bool.and_eq_true, decide_eq_true_eq] at h
    unfold mapIns
    split
    · next e =>
      subst e
      simp only [mapWfFrom, Bool.and_eq_true, decide_eq_true_eq]
      exact ⟨⟨h.1.1, hv⟩, h.2⟩
    · split
      · next hka =>
        simp only [mapWfFrom, Bool.and_eq_true, decide_eq_true_eq]
        refine ⟨⟨?_, hv⟩, ⟨hka, h.1.2⟩, h.2⟩
        cases lo with
        | none => rfl
        | some l => simpa using hl l rfl
      · next h1 h2 =>
        simp only [mapWfFrom, Bool.and_eq_true, decide_eq_true_eq]
        refine ⟨⟨h.1.1, h.1.2⟩, ih (some a) ?_ h.2⟩
        intro l e
        cases e
        omega

/-- A write keeps the canonical form. -/
theorem mapWf_mapPut [DecidableEq α] {df : Nat → α} {m : SMap α} (k : Nat) (v : α) (h : mapWf df m = true) :
    mapWf df (mapPut (df k) m k v) = true := by
  unfold mapPut mapWf at *
  split
  · exact mapWfFrom_filter _ m none h
  · next hv => exact mapWfFrom_mapIns m k v hv none (by intro l e; cases e) h

/-- Taking entries out keeps the canonical form. -/
theorem mapWf_mapFilter [DecidableEq α] {df : Nat → α} {m : SMap α} (p : Nat → Bool) (h : mapWf df m = true) :
    mapWf df (mapFilter p m) = true :=
  mapWfFrom_filter _ m none h

/-- A write leaves the other entries alone, whatever their default. -/
theorem mapGet_mapPut_apart [DecidableEq α] (d d' : α) (m : SMap α) {k k' : Nat} (v : α) (h : k' ≠ k) :
    mapGet d' (mapPut d m k v) k' = mapGet d' m k' := by
  unfold mapPut
  split
  · rw [mapGet_mapDel]; simp [h]
  · rw [mapGet_mapIns]; simp [h]

/-- An entry that is kept, and one that is not. -/
theorem mapGet_mapFilter (d : α) (p : Nat → Bool) (m : SMap α) (k : Nat) :
    mapGet d (mapFilter p m) k = if p k = true then mapGet d m k else d := by
  induction m with
  | nil => simp [mapFilter, mapGet]
  | cons e m ih =>
    obtain ⟨a, b⟩ := e
    simp only [mapFilter, List.filter_cons] at *
    by_cases h : p a = true
    · simp only [h, if_true, mapGet, ih]
      by_cases hk : k = a
      · subst hk; simp [h]
      · simp [hk]
    · simp only [h, if_false, mapGet, ih, Bool.false_eq_true]
      by_cases hk : k = a
      · subst hk; simp [h]
      · simp [hk]

end Sys2Proof.Machine
end

