-- ==== Sys2Proof/Laws/Bytes.lean ====
section
/-! SUPPORT. What memory reads after a write of bytes. -/

namespace Sys2Proof.Machine

open Sys2Proof

/-- A byte written reads back, and every other byte reads as before. -/
theorem State.readByte_writeByte (s : State) (a : Nat) (b : Byte) (x : Nat) :
    (s.writeByte a b).readByte x = if x = a then b else s.readByte x := by
  unfold State.readByte State.writeByte
  exact mapGet_mapPut (0 : Byte) s.mem a b x

/-- Every byte outside the bytes written reads as before. -/
theorem State.readByte_writeBytes_out (bs : List Byte) (s : State) (a x : Nat) (h : x < a ∨ a + bs.length ≤ x) :
    (s.writeBytes a bs).readByte x = s.readByte x := by
  induction bs generalizing s a with
  | nil => rfl
  | cons b bs ih =>
    rw [List.length_cons] at h
    unfold State.writeBytes
    rw [ih _ _ (by omega), State.readByte_writeByte, if_neg (by omega)]

/-- The bytes written read back. -/
theorem State.readByte_writeBytes_in (bs : List Byte) (s : State) (a i : Nat) (h : i < bs.length) :
    (s.writeBytes a bs).readByte (a + i) = bs[i] := by
  induction bs generalizing s a i with
  | nil => exact absurd h (Nat.not_lt_zero _)
  | cons b bs ih =>
    unfold State.writeBytes
    cases i with
    | zero =>
      rw [State.readByte_writeBytes_out _ _ _ _ (by omega), State.readByte_writeByte]
      simp
    | succ i =>
      have := ih (s.writeByte a b) (a + 1) i (by simpa using h)
      rw [show a + (i + 1) = a + 1 + i by omega, this]
      rfl

/-- The bytes written read back as a whole. -/
theorem State.readBytes_writeBytes (s : State) (a : Nat) (bs : List Byte) : (s.writeBytes a bs).readBytes a bs.length = bs := by
  unfold State.readBytes
  apply List.ext_getElem
  · simp
  · intro i h1 h2
    rw [List.getElem_map, List.getElem_range]
    exact State.readByte_writeBytes_in bs s a i h2

end Sys2Proof.Machine
end

