-- ==== Sys2Proof/Laws/Fields.lean ====
section
/-! SUPPORT. Registers and fields: what is read after a write, and which registers a firing event leaves alone. -/

namespace Sys2Proof.Machine

open Sys2Proof

/-! ### Registers -/
theorem State.rd_wr (s : State) (k : Nat) (w : Word) (k' : Nat) : (s.wr k w).rd k' = if k' = k then w else s.rd k' := by
  unfold State.rd State.wr
  split
  · next h => subst h; exact mapGet_mapPut_self _ _ _ _
  · next h =>
    show mapGet (resetWord k') (mapPut (resetWord k) s.regs k w) k' = mapGet (resetWord k') s.regs k'
    unfold mapPut
    split
    · rw [mapGet_mapDel]; simp [h]
    · rw [mapGet_mapIns]; simp [h]

@[simp] theorem State.rd_wr_self (s : State) (k : Nat) (w : Word) : (s.wr k w).rd k = w := by
  simp [State.rd_wr]

theorem State.rd_wr_ne (s : State) {k k' : Nat} (w : Word) (h : k' ≠ k) : (s.wr k w).rd k' = s.rd k' := by
  simp [State.rd_wr, h]

theorem State.rd_of_regs {s t : State} (h : t.regs = s.regs) (k : Nat) : t.rd k = s.rd k := by
  unfold State.rd; rw [h]

theorem State.fld_of_regs {s t : State} (h : t.regs = s.regs) (f : Fld) : t.fld f = s.fld f := by
  unfold State.fld; rw [State.rd_of_regs h]

theorem State.bit_of_regs {s t : State} (h : t.regs = s.regs) (f : Fld) : t.bit f = s.bit f := by
  unfold State.bit; rw [State.fld_of_regs h]

@[simp] theorem State.rd_bump_self (s : State) (k : Nat) : (s.bump k).rd k = s.rd k + 1 := by
  simp [State.bump]

theorem State.rd_bump_ne (s : State) {k k' : Nat} (h : k' ≠ k) : (s.bump k).rd k' = s.rd k' := by
  simp [State.bump, State.rd_wr, h]

@[simp] theorem State.rd_bumpBy_self (s : State) (k n : Nat) : (s.bumpBy k n).rd k = s.rd k + BitVec.ofNat 32 n := by
  simp [State.bumpBy]

theorem State.rd_bumpBy_ne (s : State) {k k' : Nat} (n : Nat) (h : k' ≠ k) : (s.bumpBy k n).rd k' = s.rd k' := by
  simp [State.bumpBy, State.rd_wr, h]

theorem State.rd_setFld_ne (s : State) (f : Fld) (v : Nat) {k : Nat} (h : k ≠ f.key) : (s.setFld f v).rd k = s.rd k := by
  simp [State.setFld, State.rd_wr, h]

theorem State.rd_store_ne (s : State) {k k' : Nat} (v : Word) (h : k' ≠ k) : (s.store k v).rd k' = s.rd k' := by
  simp [State.store, State.rd_wr, h]

@[simp] theorem State.rd_store_self (s : State) (k : Nat) (v : Word) :
    (s.store k v).rd k = mergeWrite (fieldsAt k) (s.rd k) v := by
  simp [State.store]

/-! ### Fields of a word -/
theorem setField_toNat (w : Word) (lo n v : Nat) (h : lo + n ≤ 32) :
    (setField w lo n v).toNat = w.toNat % 2 ^ lo + v % 2 ^ n * 2 ^ lo + w.toNat / 2 ^ (lo + n) * 2 ^ (lo + n) := by
  unfold setField
  rw [BitVec.toNat_ofNat]
  apply Nat.mod_eq_of_lt
  have hw := w.isLt
  have h1 : w.toNat % 2 ^ lo < 2 ^ lo := Nat.mod_lt _ (Nat.two_pow_pos _)
  have h2 : v % 2 ^ n < 2 ^ n := Nat.mod_lt _ (Nat.two_pow_pos _)
  have h3 : v % 2 ^ n * 2 ^ lo + 2 ^ lo ≤ 2 ^ n * 2 ^ lo := by
    have : (v % 2 ^ n + 1) * 2 ^ lo ≤ 2 ^ n * 2 ^ lo := Nat.mul_le_mul_right _ h2
    rwa [Nat.add_mul, Nat.one_mul] at this
  have h4 : 2 ^ n * 2 ^ lo = 2 ^ (lo + n) := by rw [← Nat.pow_add, Nat.add_comm]
  have h5 : w.toNat / 2 ^ (lo + n) < 2 ^ (32 - (lo + n)) := by
    rw [Nat.div_lt_iff_lt_mul (Nat.two_pow_pos _), ← Nat.pow_add]
    have : 32 - (lo + n) + (lo + n) = 32 := by omega
    rw [this]; exact hw
  have h6 : (w.toNat / 2 ^ (lo + n) + 1) * 2 ^ (lo + n) ≤ 2 ^ (32 - (lo + n)) * 2 ^ (lo + n) := Nat.mul_le_mul_right _ h5
  rw [← Nat.pow_add, show 32 - (lo + n) + (lo + n) = 32 by omega, Nat.add_mul, Nat.one_mul] at h6
  omega

/-- A field that is set reads as the value set, cut to its width. -/
theorem getField_setField (w : Word) (lo n v : Nat) (h : lo + n ≤ 32) : getField (setField w lo n v) lo n = v % 2 ^ n := by
  unfold getField
  rw [setField_toNat _ _ _ _ h]
  have e : w.toNat % 2 ^ lo + v % 2 ^ n * 2 ^ lo + w.toNat / 2 ^ (lo + n) * 2 ^ (lo + n)
      = w.toNat % 2 ^ lo + 2 ^ lo * (v % 2 ^ n + w.toNat / 2 ^ (lo + n) * 2 ^ n) := by
    rw [Nat.pow_add]; ring
  rw [e, Nat.add_mul_div_left _ _ (Nat.two_pow_pos _), Nat.div_eq_of_lt (Nat.mod_lt _ (Nat.two_pow_pos _)), Nat.zero_add,
    Nat.add_mul_mod_self_right, Nat.mod_mod]

/-- A field below the one that is set keeps its value. -/
theorem getField_setField_below (w : Word) (lo n v lo' n' : Nat) (h : lo + n ≤ 32) (hl : lo' + n' ≤ lo) :
    getField (setField w lo n v) lo' n' = getField w lo' n' := by
  unfold getField
  rw [setField_toNat _ _ _ _ h]
  have e : w.toNat % 2 ^ lo + v % 2 ^ n * 2 ^ lo + w.toNat / 2 ^ (lo + n) * 2 ^ (lo + n)
      = w.toNat % 2 ^ lo + 2 ^ lo * (v % 2 ^ n + w.toNat / 2 ^ (lo + n) * 2 ^ n) := by
    rw [Nat.pow_add]; ring
  rw [e]
  obtain ⟨d, rfl⟩ := Nat.exists_eq_add_of_le hl
  have key : ∀ y x : Nat, (x + 2 ^ (lo' + n' + d) * y) / 2 ^ lo' % 2 ^ n' = x / 2 ^ lo' % 2 ^ n' := by
    intro y x
    have : x + 2 ^ (lo' + n' + d) * y = x + 2 ^ lo' * (2 ^ n' * (2 ^ d * y)) := by rw [Nat.pow_add, Nat.pow_add]; ring
    rw [this, Nat.add_mul_div_left _ _ (Nat.two_pow_pos _), Nat.add_mul_mod_self_left]
  rw [key]
  have h2 := key (w.toNat / 2 ^ (lo' + n' + d)) (w.toNat % 2 ^ (lo' + n' + d))
  rw [Nat.mod_add_div] at h2
  exact h2.symm

/-- A field above the one that is set keeps its value. -/
theorem getField_setField_above (w : Word) (lo n v lo' n' : Nat) (h : lo + n ≤ 32) (hl : lo + n ≤ lo') :
    getField (setField w lo n v) lo' n' = getField w lo' n' := by
  unfold getField
  rw [setField_toNat _ _ _ _ h]
  obtain ⟨d, rfl⟩ := Nat.exists_eq_add_of_le hl
  have h1 : w.toNat % 2 ^ lo < 2 ^ lo := Nat.mod_lt _ (Nat.two_pow_pos _)
  have h2 : v % 2 ^ n < 2 ^ n := Nat.mod_lt _ (Nat.two_pow_pos _)
  have h3 : w.toNat % 2 ^ lo + v % 2 ^ n * 2 ^ lo < 2 ^ (lo + n) := by
    have : (v % 2 ^ n + 1) * 2 ^ lo ≤ 2 ^ n * 2 ^ lo := Nat.mul_le_mul_right _ h2
    rw [Nat.add_mul, Nat.one_mul] at this
    rw [Nat.pow_add, Nat.mul_comm (2 ^ lo)]
    omega
  rw [Nat.pow_add 2 (lo + n) d, ← Nat.div_div_eq_div_mul, ← Nat.div_div_eq_div_mul, Nat.mul_comm (w.toNat / 2 ^ (lo + n)),
    Nat.add_mul_div_left _ _ (Nat.two_pow_pos _), Nat.div_eq_of_lt h3, Nat.zero_add]

theorem State.fld_setFld_self (s : State) (f : Fld) (v : Nat) (h : f.lo + f.w ≤ 32) : (s.setFld f v).fld f = v % 2 ^ f.w := by
  unfold State.fld State.setFld
  rw [State.rd_wr_self, getField_setField _ _ _ _ h]

theorem State.fld_setFld_key (s : State) (f g : Fld) (v : Nat) (h : g.key ≠ f.key) : (s.setFld f v).fld g = s.fld g := by
  unfold State.fld
  rw [State.rd_setFld_ne _ _ _ h]

theorem State.fld_setFld_apart (s : State) (f g : Fld) (v : Nat) (h : f.lo + f.w ≤ 32)
    (hd : g.lo + g.w ≤ f.lo ∨ f.lo + f.w ≤ g.lo) : (s.setFld f v).fld g = s.fld g := by
  unfold State.fld State.setFld
  by_cases hk : g.key = f.key
  · rw [hk, State.rd_wr_self]
    rcases hd with hd | hd
    · exact getField_setField_below _ _ _ _ _ _ h hd
    · exact getField_setField_above _ _ _ _ _ _ h hd
  · rw [State.rd_wr_ne _ _ hk]

/-! ### What a firing event leaves alone -/
theorem eventReg_raw (p : Nat) : eventReg (R.HDR_EVT_RAW p) = true := by
  have : ofsOf (R.HDR_EVT_RAW p) = 0x010 := by unfold ofsOf; simp only [R.HDR_EVT_RAW]; omega
  simp [eventReg, this]

theorem ne_of_eventReg {k k' : Nat} (h : eventReg k = false) (h' : eventReg k' = true) : k ≠ k' := by
  intro e; subst e; simp_all

theorem getLsbD_eq_getField (w : Word) {i : Nat} : w.getLsbD i = decide (getField w i 1 = 1) := by
  unfold getField
  rw [BitVec.getLsbD, Nat.testBit_eq_decide_div_mod_eq, pow_one]

/-- A bit of a word with a one-bit field set. -/
theorem getLsbD_setField_one (w : Word) {b : Nat} (v i : Nat) (h : b < 32) :
    (setField w b 1 v).getLsbD i = if i = b then decide (v % 2 = 1) else w.getLsbD i := by
  rw [getLsbD_eq_getField]
  split
  · next e => subst e; rw [getField_setField _ _ _ _ (by omega), pow_one]
  · next e =>
    rw [getLsbD_eq_getField]
    rcases Nat.lt_or_gt_of_ne e with e | e
    · rw [getField_setField_below _ _ _ _ _ _ (by omega) (by omega)]
    · rw [getField_setField_above _ _ _ _ _ _ (by omega) (by omega)]

/-- The registers that the delivery of an event may change. -/
def deliveryReg (k : Nat) : Bool :=
  decide (k = R.EVT_MSIX_ARM_LO) || decide (k = R.EVT_MSIX_ARM_HI) || decide (k = R.EVT_CNT_REC_LOST)

theorem deliveryReg_of_eventReg {k : Nat} (h : eventReg k = false) : deliveryReg k = false := by
  simp only [eventReg, deliveryReg, Bool.or_eq_false_iff] at *
  exact ⟨⟨h.1.1.2, h.1.2⟩, h.2⟩

theorem deliveryReg_raw (p : Nat) : deliveryReg (R.HDR_EVT_RAW p) = false := by
  have h1 : ofsOf (R.HDR_EVT_RAW p) = 0x010 := by unfold ofsOf; simp only [R.HDR_EVT_RAW]; omega
  have h2 : ∀ k, ofsOf k ≠ 0x010 → R.HDR_EVT_RAW p ≠ k := by intro k hk e; rw [e] at h1; exact hk h1
  simp only [deliveryReg, Bool.or_eq_false_iff, decide_eq_false_iff_not]
  exact ⟨⟨h2 _ (by decide), h2 _ (by decide)⟩, h2 _ (by decide)⟩

theorem ne_of_deliveryReg {k k' : Nat} (h : deliveryReg k = false) (h' : deliveryReg k' = true) : k ≠ k' := by
  intro e; subst e; simp_all

theorem State.disarm_rd (s : State) (v : Nat) {k : Nat} (h : deliveryReg k = false) : (s.disarm v).rd k = s.rd k := by
  unfold State.disarm
  apply State.rd_setFld_ne
  refine ne_of_deliveryReg h ?_
  show deliveryReg (armKey v) = true
  unfold armKey
  split <;> decide

@[simp] theorem State.msixDue_rd (s : State) (v k : Nat) : (s.msixDue v).rd k = s.rd k :=
  State.rd_of_regs (State.msixDue_keeps v (List.Subset.refl _) (SameBut.refl _ s) .regs (by decide)) k

theorem State.pendingRise_rd (s : State) (p b : Nat) {k : Nat} (h : deliveryReg k = false) : (s.pendingRise p b).rd k = s.rd k := by
  have post : ∀ (t : State) (n : Nat), (t.deliverPost n).rd k = t.rd k := fun t n =>
    State.rd_of_regs (State.deliverPost_keeps n (List.Subset.refl _) (SameBut.refl _ t) .regs (by decide)) k
  have msix : ∀ (t : State) (g : Nat), (t.deliverMsix g).rd k = t.rd k := by
    intro t g
    unfold State.deliverMsix
    split
    · split
      · rw [State.msixDue_rd, State.disarm_rd _ _ h]
      · rfl
    · rfl
  unfold State.pendingRise
  split
  · rw [post, msix]
  · rfl

theorem State.record_rd (s : State) (x : EvRec) {k : Nat} (h : deliveryReg k = false) : (s.record x).rd k = s.rd k := by
  unfold State.record
  split
  · rfl
  · split
    · split <;> rfl
    · split
      · rfl
      · exact State.rd_bump_ne _ (ne_of_deliveryReg h (by decide))

theorem State.fireAt_rd (s : State) (p b : Nat) (wins : Bool) (t : Nat) {k : Nat} (h : deliveryReg k = false) :
    (s.fireAt p b wins t).rd k = (s.setFld ⟨R.HDR_EVT_RAW p, b, 1⟩ 1).rd k := by
  unfold State.fireAt
  dsimp only
  split
  · have h3 : ∀ (e : Evt) (x : EvRec), (({ s.setFld ⟨R.HDR_EVT_RAW p, b, 1⟩ 1 with evt := e }).record x).rd k =
        (s.setFld ⟨R.HDR_EVT_RAW p, b, 1⟩ 1).rd k := by
      intro e x
      rw [State.record_rd _ _ h]; rfl
    split
    · exact h3 _ _
    · rw [State.pendingRise_rd _ _ _ h]; exact h3 _ _
  · rfl

/-- A firing event changes no register but those of `eventReg`. -/
theorem State.fireWith_rd (s : State) (p b : Nat) (wins : Bool) (t : Nat) {k : Nat} (h : eventReg k = false) :
    (s.fireWith p b wins t).rd k = s.rd k := by
  have hd := deliveryReg_of_eventReg h
  have hp : ∀ q : Nat, k ≠ R.HDR_EVT_RAW q := fun q => ne_of_eventReg h (eventReg_raw q)
  have one : ∀ (u : State) (q c : Nat) (w : Bool) (m : Nat), (u.fireAt q c w m).rd k = u.rd k := by
    intro u q c w m
    rw [State.fireAt_rd _ _ _ _ _ hd, State.rd_setFld_ne _ _ _ (hp q)]
  unfold State.fireWith
  split
  · rfl
  · dsimp only
    split
    · rw [one, one]
    · exact one _ _ _ _ _

/-- A firing event changes no register but those of `eventReg`. -/
theorem State.fire_rd (s : State) (p b : Nat) {k : Nat} (h : eventReg k = false) : (s.fire p b).rd k = s.rd k :=
  State.fireWith_rd _ _ _ _ _ h

theorem raw_inj {p q : Nat} (h : R.HDR_EVT_RAW p = R.HDR_EVT_RAW q) : p = q := by
  simp only [R.HDR_EVT_RAW] at h; omega

/-- A raw bit after a firing: the source that fires shows 1, the others are as they were. -/
theorem State.fireAt_raw (s : State) (p b : Nat) (wins : Bool) (t q i : Nat) (hb : b < 32) :
    ((s.fireAt p b wins t).rd (R.HDR_EVT_RAW q)).getLsbD i =
      (decide (q = p ∧ i = b) || (s.rd (R.HDR_EVT_RAW q)).getLsbD i) := by
  rw [State.fireAt_rd _ _ _ _ _ (deliveryReg_raw q)]
  unfold State.setFld
  rw [State.rd_wr]
  split
  · next e =>
    have := raw_inj e
    subst this
    rw [getLsbD_setField_one _ _ _ hb]
    split <;> simp_all
  · next e =>
    have : q ≠ p := fun h => e (by rw [h])
    simp [this]

/-- A source that has fired stays fired while others fire. -/
theorem Raised_fireWith {s : State} {p b : Nat} (h : Raised s p b) (q : Nat) {c : Nat} (wins : Bool) (t : Nat) (hc : c < 32) :
    Raised (s.fireWith q c wins t) p b := by
  unfold Raised State.fireWith at *
  split
  · exact h
  · dsimp only
    split
    · rw [State.fireAt_raw _ _ _ _ _ _ _ (by decide), State.fireAt_raw _ _ _ _ _ _ _ hc, h]; simp
    · rw [State.fireAt_raw _ _ _ _ _ _ _ hc, h]; simp

theorem Raised_fire {s : State} {p b : Nat} (h : Raised s p b) (q : Nat) {c : Nat} (hc : c < 32) : Raised (s.fire q c) p b :=
  Raised_fireWith h q _ _ hc

/-- A source whose page has power shows that it fired. -/
theorem State.fireWith_raised {s : State} {p b : Nat} (wins : Bool) (t : Nat) (h : s.powered (R.HDR_EVT_RAW p) = true) (hb : b < 32) :
    Raised (s.fireWith p b wins t) p b := by
  unfold Raised State.fireWith
  simp only [h, not_true_eq_false, if_false]
  split
  · rw [State.fireAt_raw _ _ _ _ _ _ _ (by decide), State.fireAt_raw _ _ _ _ _ _ _ hb]; simp
  · rw [State.fireAt_raw _ _ _ _ _ _ _ hb]; simp

theorem State.fire_raised {s : State} {p b : Nat} (h : s.powered (R.HDR_EVT_RAW p) = true) (hb : b < 32) :
    Raised (s.fire p b) p b :=
  State.fireWith_raised _ _ h hb

/-- A source that one of the firings of a list fires. -/
theorem Raised_foldl {α : Type} {p b : Nat} {g : State → α → State} {l : List α} {s : State}
    (hk : ∀ u x, x ∈ l → Raised u p b → Raised (g u x) p b) (hp : ∀ u x, (g u x).pwr = u.pwr)
    (h : Raised s p b ∨ ∃ x ∈ l, ∀ u : State, u.pwr = s.pwr → Raised (g u x) p b) : Raised (l.foldl g s) p b := by
  induction l generalizing s with
  | nil => exact h.resolve_right (by simp)
  | cons a l ih =>
    rw [List.foldl_cons]
    apply ih (fun u x hx => hk u x (List.mem_cons_of_mem _ hx))
    rcases h with h | ⟨x, hx, h⟩
    · exact .inl (hk _ _ (by simp) h)
    · rcases List.mem_cons.1 hx with e | e
      · subst e; exact .inl (h _ rfl)
      · exact .inr ⟨x, e, fun u hu => h u (hu.trans (hp _ _))⟩

/-! ### What a firing event changes of the parts it touches: held records, the post queue, the PBA -/

/-- Held records, posts and the PBA aside, `t` has the Seam, the dispatcher and the endpoint of `s`. -/
def Delivers (s t : State) : Prop :=
  (∃ h n, t.seam = { s.seam with held := h, heldLost := n }) ∧ (∃ q x, t.tsk = { s.tsk with queue := q, stalled := x }) ∧
    ∃ b, t.hif = { s.hif with pba := b }

theorem Delivers.refl (s : State) : Delivers s s := ⟨⟨_, _, rfl⟩, ⟨_, _, rfl⟩, ⟨_, rfl⟩⟩

theorem Delivers.trans {s t u : State} (h : Delivers s t) (h' : Delivers t u) : Delivers s u := by
  obtain ⟨⟨a, b, h1⟩, ⟨c, d, h2⟩, e, h3⟩ := h
  obtain ⟨⟨a', b', h1'⟩, ⟨c', d', h2'⟩, e', h3'⟩ := h'
  exact ⟨⟨a', b', by rw [h1', h1]⟩, ⟨c', d', by rw [h2', h2]⟩, e', by rw [h3', h3]⟩

theorem Delivers.of_same {s t : State} (h1 : t.seam = s.seam) (h2 : t.tsk = s.tsk) (h3 : t.hif = s.hif) : Delivers s t :=
  ⟨⟨_, _, h1⟩, ⟨_, _, h2⟩, ⟨_, h3⟩⟩

theorem State.record_delivers (s : State) (x : EvRec) : Delivers s (s.record x) := by
  unfold State.record
  split
  · exact Delivers.refl s
  · split
    · split
      · exact ⟨⟨_, _, rfl⟩, ⟨_, _, rfl⟩, ⟨_, rfl⟩⟩
      · exact ⟨⟨_, _, rfl⟩, ⟨_, _, rfl⟩, ⟨_, rfl⟩⟩
    · split
      · exact Delivers.of_same rfl rfl rfl
      · exact Delivers.of_same rfl rfl rfl

theorem State.msixDue_delivers (s : State) (v : Nat) : Delivers s (s.msixDue v) := by
  unfold State.msixDue
  split
  · exact Delivers.of_same rfl rfl rfl
  · split
    · exact Delivers.refl s
    · exact ⟨⟨_, _, rfl⟩, ⟨_, _, rfl⟩, ⟨_, rfl⟩⟩

theorem State.pendingRise_delivers (s : State) (p b : Nat) : Delivers s (s.pendingRise p b) := by
  have post : ∀ (t : State) (n : Nat), Delivers t (t.deliverPost n) := by
    intro t n
    unfold State.deliverPost State.enqueuePost
    split
    · split
      · exact ⟨⟨_, _, rfl⟩, ⟨_, _, rfl⟩, ⟨_, rfl⟩⟩
      · exact ⟨⟨_, _, rfl⟩, ⟨_, _, rfl⟩, ⟨_, rfl⟩⟩
    · exact Delivers.refl t
  have msix : ∀ (t : State) (g : Nat), Delivers t (t.deliverMsix g) := by
    intro t g
    unfold State.deliverMsix
    split
    · split
      · exact (Delivers.of_same rfl rfl rfl : Delivers t (t.disarm _)).trans (State.msixDue_delivers _ _)
      · exact Delivers.refl t
    · exact Delivers.refl t
  unfold State.pendingRise
  split
  · exact (msix _ _).trans (post _ _)
  · exact Delivers.refl s

theorem State.fireAt_delivers (s : State) (p b : Nat) (wins : Bool) (t : Nat) : Delivers s (s.fireAt p b wins t) := by
  unfold State.fireAt
  dsimp only
  split
  · have h3 : ∀ (e : Evt) (x : EvRec), Delivers s (({ s.setFld ⟨R.HDR_EVT_RAW p, b, 1⟩ 1 with evt := e }).record x) := by
      intro e x
      exact (Delivers.of_same rfl rfl rfl : Delivers s ({ s.setFld ⟨R.HDR_EVT_RAW p, b, 1⟩ 1 with evt := e })).trans
        (State.record_delivers _ _)
    split
    · exact h3 _ _
    · exact (h3 _ _).trans (State.pendingRise_delivers _ _ _)
  · exact Delivers.of_same rfl rfl rfl

theorem State.fireWith_delivers (s : State) (p b : Nat) (wins : Bool) (t : Nat) : Delivers s (s.fireWith p b wins t) := by
  unfold State.fireWith
  split
  · exact Delivers.refl s
  · dsimp only
    split
    · exact (State.fireAt_delivers _ _ _ _ _).trans (State.fireAt_delivers _ _ _ _ _)
    · exact State.fireAt_delivers _ _ _ _ _

theorem State.fire_delivers (s : State) (p b : Nat) : Delivers s (s.fire p b) := State.fireWith_delivers _ _ _ _ _

@[simp] theorem State.fire_seam_phase (s : State) (p b : Nat) : (s.fire p b).seam.phase = s.seam.phase := by
  obtain ⟨⟨_, _, h⟩, _⟩ := State.fire_delivers s p b; rw [h]

@[simp] theorem State.fire_seam_lost (s : State) (p b : Nat) : (s.fire p b).seam.lost = s.seam.lost := by
  obtain ⟨⟨_, _, h⟩, _⟩ := State.fire_delivers s p b; rw [h]

@[simp] theorem State.fire_seam_lockLine (s : State) (p b : Nat) : (s.fire p b).seam.lockLine = s.seam.lockLine := by
  obtain ⟨⟨_, _, h⟩, _⟩ := State.fire_delivers s p b; rw [h]

@[simp] theorem State.fire_seam_lockFab (s : State) (p b : Nat) : (s.fire p b).seam.lockFab = s.seam.lockFab := by
  obtain ⟨⟨_, _, h⟩, _⟩ := State.fire_delivers s p b; rw [h]

@[simp] theorem State.fire_seam_failLine (s : State) (p b : Nat) : (s.fire p b).seam.failLine = s.seam.failLine := by
  obtain ⟨⟨_, _, h⟩, _⟩ := State.fire_delivers s p b; rw [h]

@[simp] theorem State.fire_seam_failFab (s : State) (p b : Nat) : (s.fire p b).seam.failFab = s.seam.failFab := by
  obtain ⟨⟨_, _, h⟩, _⟩ := State.fire_delivers s p b; rw [h]

@[simp] theorem State.fire_seam_toLine (s : State) (p b : Nat) : (s.fire p b).seam.toLine = s.seam.toLine := by
  obtain ⟨⟨_, _, h⟩, _⟩ := State.fire_delivers s p b; rw [h]

@[simp] theorem State.fire_seam_toFab (s : State) (p b : Nat) : (s.fire p b).seam.toFab = s.seam.toFab := by
  obtain ⟨⟨_, _, h⟩, _⟩ := State.fire_delivers s p b; rw [h]

@[simp] theorem State.fire_seam_decisions (s : State) (p b : Nat) : (s.fire p b).seam.decisions = s.seam.decisions := by
  obtain ⟨⟨_, _, h⟩, _⟩ := State.fire_delivers s p b; rw [h]

@[simp] theorem State.fire_seam_preps (s : State) (p b : Nat) : (s.fire p b).seam.preps = s.seam.preps := by
  obtain ⟨⟨_, _, h⟩, _⟩ := State.fire_delivers s p b; rw [h]

@[simp] theorem State.fire_seam_bringUp (s : State) (p b : Nat) : (s.fire p b).seam.bringUp = s.seam.bringUp := by
  obtain ⟨⟨_, _, h⟩, _⟩ := State.fire_delivers s p b; rw [h]

@[simp] theorem State.fire_tsk_items (s : State) (p b : Nat) : (s.fire p b).tsk.items = s.tsk.items := by
  obtain ⟨_, ⟨_, _, h⟩, _⟩ := State.fire_delivers s p b; rw [h]

@[simp] theorem State.fire_tsk_lists (s : State) (p b : Nat) : (s.fire p b).tsk.lists = s.tsk.lists := by
  obtain ⟨_, ⟨_, _, h⟩, _⟩ := State.fire_delivers s p b; rw [h]

@[simp] theorem State.fire_tsk_ports (s : State) (p b : Nat) : (s.fire p b).tsk.ports = s.tsk.ports := by
  obtain ⟨_, ⟨_, _, h⟩, _⟩ := State.fire_delivers s p b; rw [h]

@[simp] theorem State.fire_hif_l0 (s : State) (p b : Nat) : (s.fire p b).hif.l0 = s.hif.l0 := by
  obtain ⟨_, _, _, h⟩ := State.fire_delivers s p b; rw [h]

@[simp] theorem State.fire_hif_width (s : State) (p b : Nat) : (s.fire p b).hif.width = s.hif.width := by
  obtain ⟨_, _, _, h⟩ := State.fire_delivers s p b; rw [h]

@[simp] theorem State.fire_hif_speed (s : State) (p b : Nat) : (s.fire p b).hif.speed = s.hif.speed := by
  obtain ⟨_, _, _, h⟩ := State.fire_delivers s p b; rw [h]

@[simp] theorem State.fire_hif_d3 (s : State) (p b : Nat) : (s.fire p b).hif.d3 = s.hif.d3 := by
  obtain ⟨_, _, _, h⟩ := State.fire_delivers s p b; rw [h]

@[simp] theorem State.fire_hif_msixEn (s : State) (p b : Nat) : (s.fire p b).hif.msixEn = s.hif.msixEn := by
  obtain ⟨_, _, _, h⟩ := State.fire_delivers s p b; rw [h]

@[simp] theorem State.fire_hif_funcMask (s : State) (p b : Nat) : (s.fire p b).hif.funcMask = s.hif.funcMask := by
  obtain ⟨_, _, _, h⟩ := State.fire_delivers s p b; rw [h]

@[simp] theorem State.fire_hif_latch (s : State) (p b : Nat) : (s.fire p b).hif.latch = s.hif.latch := by
  obtain ⟨_, _, _, h⟩ := State.fire_delivers s p b; rw [h]

@[simp] theorem State.fire_hif_holder (s : State) (p b : Nat) : (s.fire p b).hif.holder = s.hif.holder := by
  obtain ⟨_, _, _, h⟩ := State.fire_delivers s p b; rw [h]

@[simp] theorem State.fire_hif_wbuf (s : State) (p b : Nat) : (s.fire p b).hif.wbuf = s.hif.wbuf := by
  obtain ⟨_, _, _, h⟩ := State.fire_delivers s p b; rw [h]

@[simp] theorem State.fire_hif_bank (s : State) (p b : Nat) : (s.fire p b).hif.bank = s.hif.bank := by
  obtain ⟨_, _, _, h⟩ := State.fire_delivers s p b; rw [h]

@[simp] theorem State.fire_hif_early (s : State) (p b : Nat) : (s.fire p b).hif.early = s.hif.early := by
  obtain ⟨_, _, _, h⟩ := State.fire_delivers s p b; rw [h]

@[simp] theorem State.fire_hif_mirPend (s : State) (p b : Nat) : (s.fire p b).hif.mirPend = s.hif.mirPend := by
  obtain ⟨_, _, _, h⟩ := State.fire_delivers s p b; rw [h]

@[simp] theorem State.fire_hif_flashOp (s : State) (p b : Nat) : (s.fire p b).hif.flashOp = s.hif.flashOp := by
  obtain ⟨_, _, _, h⟩ := State.fire_delivers s p b; rw [h]

@[simp] theorem State.fire_hif_flashRes (s : State) (p b : Nat) : (s.fire p b).hif.flashRes = s.hif.flashRes := by
  obtain ⟨_, _, _, h⟩ := State.fire_delivers s p b; rw [h]

@[simp] theorem State.fire_hif_i2cOp (s : State) (p b : Nat) : (s.fire p b).hif.i2cOp = s.hif.i2cOp := by
  obtain ⟨_, _, _, h⟩ := State.fire_delivers s p b; rw [h]

@[simp] theorem State.fire_hif_i2cRes (s : State) (p b : Nat) : (s.fire p b).hif.i2cRes = s.hif.i2cRes := by
  obtain ⟨_, _, _, h⟩ := State.fire_delivers s p b; rw [h]

@[simp] theorem State.fire_hif_jtag (s : State) (p b : Nat) : (s.fire p b).hif.jtag = s.hif.jtag := by
  obtain ⟨_, _, _, h⟩ := State.fire_delivers s p b; rw [h]

/-! ### Timers that run -/
theorem mem_mapKeys_mapIns {α : Type} (m : SMap α) (k : Nat) (v : α) (j : Nat) : j ∈ mapKeys (mapIns m k v) ↔ j = k ∨ j ∈ mapKeys m := by
  induction m with
  | nil => simp [mapIns, mapKeys]
  | cons e m ih =>
    obtain ⟨a, b⟩ := e
    unfold mapIns
    simp only [mapKeys] at *
    split
    · next h => subst h; simp
    · split
      · simp
      · simp only [List.map_cons, List.mem_cons, ih]; tauto

theorem mem_mapKeys_mapDel {α : Type} (m : SMap α) (k j : Nat) : j ∈ mapKeys (mapDel m k) ↔ j ≠ k ∧ j ∈ mapKeys m := by
  simp [mapKeys, mapDel]; tauto

@[simp] theorem State.running_startTimer (s : State) (a b : Nat) : (s.startTimer a).running b = (decide (b = a) || s.running b) := by
  rw [Bool.eq_iff_iff]; simp [State.running, State.startTimer, mem_mapKeys_mapIns]

@[simp] theorem State.running_stopTimer (s : State) (a b : Nat) : (s.stopTimer a).running b = (decide (b ≠ a) && s.running b) := by
  rw [Bool.eq_iff_iff]; simp [State.running, State.stopTimer, mem_mapKeys_mapDel]

theorem State.running_of_timers {s t : State} (h : t.timers = s.timers) (b : Nat) : t.running b = s.running b := by unfold State.running; rw [h]

theorem State.domOn_of_pwr {s t : State} (h : t.pwr = s.pwr) (d : Nat) : t.domOn d = s.domOn d := by unfold State.domOn; rw [h]

/-! ### What a write leaves in a field -/
theorem getField_eq_extract (w : Word) (lo n : Nat) : getField w lo n = (w.extractLsb' lo n).toNat := by
  simp [getField, BitVec.extractLsb'_toNat, Nat.shiftRight_eq_div_pow]

theorem getField_testBit (w : Word) (lo n i : Nat) : (getField w lo n).testBit i = (decide (i < n) && w.getLsbD (lo + i)) := by
  rw [getField_eq_extract]
  show (w.extractLsb' lo n).getLsbD i = _
  rw [BitVec.getLsbD_extractLsb']

theorem getField_congr {w x : Word} {lo n : Nat} (h : ∀ i, i < n → w.getLsbD (lo + i) = x.getLsbD (lo + i)) : getField w lo n = getField x lo n := by
  apply Nat.eq_of_testBit_eq
  intro i
  rw [getField_testBit, getField_testBit]
  by_cases hi : i < n
  · simp [hi, h i hi]
  · simp [hi]

theorem setField_getLsbD (w : Word) {lo n : Nat} (v i : Nat) (h : lo + n ≤ 32) :
    (setField w lo n v).getLsbD i = if lo ≤ i ∧ i < lo + n then v.testBit (i - lo) else w.getLsbD i := by
  split
  · next hi =>
    have := getField_testBit (setField w lo n v) lo n (i - lo)
    rw [getField_setField _ _ _ _ h, show lo + (i - lo) = i by omega] at this
    rw [Nat.testBit_mod_two_pow] at this
    simpa [show i - lo < n by omega] using this.symm
  · next hi =>
    rw [getLsbD_eq_getField, getLsbD_eq_getField]
    by_cases h1 : i < lo
    · rw [getField_setField_below _ _ _ _ _ _ h (by omega)]
    · rw [getField_setField_above _ _ _ _ _ _ h (by omega)]

/-- One row of a write. -/
theorem mergeWrite_cons (r : FieldRow) (rs : List FieldRow) (old v : Word) :
    mergeWrite (r :: rs) old v = mergeWrite rs (mergeWrite [r] old v) v := rfl

theorem mergeWrite_one_getLsbD (r : FieldRow) (old v : Word) {i : Nat} (hr : r.lo + r.w ≤ 32)
    (h : i < r.lo ∨ r.lo + r.w ≤ i) : (mergeWrite [r] old v).getLsbD i = old.getLsbD i := by
  have hx : ∀ i, (BitVec.ofNat 32 (getField v r.lo r.w * 2 ^ r.lo)).getLsbD i = (decide (i < 32) && (decide (r.lo ≤ i) && (decide (i - r.lo < r.w) && v.getLsbD (r.lo + (i - r.lo))))) := by
    intro i
    rw [BitVec.getLsbD_ofNat, ← Nat.shiftLeft_eq, Nat.testBit_shiftLeft, getField_testBit]
  have hz : (BitVec.ofNat 32 (getField v r.lo r.w * 2 ^ r.lo)).getLsbD i = false := by
    rw [hx]
    rcases h with h | h
    · simp [show ¬ r.lo ≤ i by omega]
    · simp [show ¬ (i - r.lo < r.w) by omega]
  unfold mergeWrite
  simp only [List.foldl_cons, List.foldl_nil]
  cases r.ty <;> simp only []
  · rw [setField_getLsbD _ _ _ hr, if_neg (by omega)]
  · rw [BitVec.getLsbD_and, BitVec.getLsbD_not, hz]
    by_cases hi : i < 32
    · simp [hi]
    · simp [hi, BitVec.getLsbD_of_ge _ _ (Nat.le_of_not_lt hi)]
  · rw [BitVec.getLsbD_or, hz]; simp
  · rw [setField_getLsbD _ _ _ hr, if_neg (by omega)]

/-- Rows that lie within the word and do not overlap. -/
def rowsApart (rows : List FieldRow) : Bool :=
  rows.all (fun r => decide (r.lo + r.w ≤ 32)) &&
    decide (rows.Pairwise (fun a b => a.lo + a.w ≤ b.lo ∨ b.lo + b.w ≤ a.lo))

/-- A write leaves the bits outside its fields alone. -/
theorem getField_mergeWrite_apart (rows : List FieldRow) (old v : Word) (lo n : Nat) (h : ∀ r ∈ rows, r.lo + r.w ≤ 32)
    (hd : ∀ r ∈ rows, lo + n ≤ r.lo ∨ r.lo + r.w ≤ lo) : getField (mergeWrite rows old v) lo n = getField old lo n := by
  induction rows generalizing old with
  | nil => rfl
  | cons r rs ih =>
    rw [mergeWrite_cons, ih _ (fun x hx => h x (List.mem_cons_of_mem _ hx)) (fun x hx => hd x (List.mem_cons_of_mem _ hx))]
    apply getField_congr
    intro i hi
    apply mergeWrite_one_getLsbD r old v (h r (by simp))
    rcases hd r (by simp) with e | e <;> omega

/-- What a written field takes: the value clamped to its range. -/
theorem getField_mergeWrite (rows : List FieldRow) (old v : Word) {r : FieldRow} (h : rowsApart rows = true) (hr : r ∈ rows)
    (ht : r.ty = .rw ∨ r.ty = .rws) : getField (mergeWrite rows old v) r.lo r.w = r.clamp (getField v r.lo r.w) % 2 ^ r.w := by
  induction rows generalizing old with
  | nil => cases hr
  | cons a rs ih =>
    have h' := h
    simp only [rowsApart, List.all_cons, Bool.and_eq_true, decide_eq_true_eq, List.pairwise_cons, List.all_eq_true] at h
    obtain ⟨⟨ha, hall⟩, hp, hps⟩ := h
    rw [mergeWrite_cons]
    rcases List.mem_cons.1 hr with e | e
    · subst e
      rw [getField_mergeWrite_apart _ _ _ _ _ hall (fun x hx => by rcases hp x hx with q | q <;> [exact .inl q; exact .inr q])]
      unfold mergeWrite
      simp only [List.foldl_cons, List.foldl_nil]
      rcases ht with e | e <;> rw [e] <;> exact getField_setField _ _ _ _ ha
    · exact ih _ (by simp only [rowsApart, Bool.and_eq_true, decide_eq_true_eq, List.all_eq_true]; exact ⟨hall, hps⟩) e

/-- The field that a write leaves in a register. -/
theorem State.fld_store (s : State) (f : Fld) (v : Word) {r : FieldRow} (h : rowsApart (fieldsAt f.key) = true)
    (hr : r ∈ fieldsAt f.key) (hl : r.lo = f.lo ∧ r.w = f.w) (ht : r.ty = .rw ∨ r.ty = .rws) :
    (s.store f.key v).fld f = r.clamp (getField v f.lo f.w) % 2 ^ f.w := by
  unfold State.fld
  rw [State.rd_store_self, ← hl.1, ← hl.2]
  exact getField_mergeWrite _ _ _ h hr ht

/-- The field can be written, and its range is not narrower than its width. -/
def plainField (f : Fld) : Bool :=
  rowsApart (fieldsAt f.key) && (fieldsAt f.key).any (fun r => decide (r.lo = f.lo) && decide (r.w = f.w) &&
      (decide (r.ty = .rw) || decide (r.ty = .rws)) && decide (r.mn = 0) && decide (r.mx = 0 ∨ 2 ^ r.w - 1 ≤ r.mx))

/-- A field with no narrower range takes the value written. -/
theorem State.fld_store_plain (s : State) (f : Fld) (v : Word)
    (h : plainField f = true) :
    (s.store f.key v).fld f = getField v f.lo f.w := by
  simp only [plainField, Bool.and_eq_true, List.any_eq_true, decide_eq_true_eq, Bool.or_eq_true] at h
  obtain ⟨h1, r, hr, ⟨⟨⟨hl, hw⟩, ht⟩, hmn⟩, hmx⟩ := h
  rw [State.fld_store s f v h1 hr ⟨hl, hw⟩ ht]
  have hlt : getField v f.lo f.w < 2 ^ f.w := Nat.mod_lt _ (Nat.two_pow_pos _)
  have : r.clamp (getField v f.lo f.w) = getField v f.lo f.w := by
    unfold FieldRow.clamp
    dsimp only
    rw [hmn]
    split
    · omega
    · rw [hw] at hmx; omega
  rw [this, Nat.mod_eq_of_lt hlt]

theorem State.bit_store_plain (s : State) (f : Fld) (v : Word)
    (h : plainField f = true)
    (hw : f.w = 1) : (s.store f.key v).bit f = v.getLsbD f.lo := by
  unfold State.bit
  rw [State.fld_store_plain s f v h, hw, getLsbD_eq_getField]

/-! ### A register access -/

/-- The registers in which an interface of the hosts records a bus error. -/
def busReg (k : Nat) : Bool :=
  decide (k = R.HIF_CNT_PCIE_BUSERR) || decide (k = R.HIF_PCIE_ERR) || decide (k = R.HIF_CNT_SB_BUSERR) || decide (k = R.HIF_SB_ERR)

theorem State.busError_rd (s : State) (r : Req) (k0 : Nat) (rd : Bool) (cause : Nat) {k : Nat} (h : busReg k = false)
    (he : eventReg k = false) : (s.busError r k0 rd cause).rd k = s.rd k := by
  have hb : ∀ j, busReg j = true → k ≠ j := by intro j hj e; subst e; simp_all
  unfold State.busError
  cases r
  · show State.rd (State.fire _ _ _) k = _
    rw [State.fire_rd _ _ _ he, State.rd_wr_ne _ _ (hb _ (by decide)), State.rd_bump_ne _ (hb _ (by decide))]
  · show State.rd (State.fire _ _ _) k = _
    rw [State.fire_rd _ _ _ he, State.rd_wr_ne _ _ (hb _ (by decide)), State.rd_bump_ne _ (hb _ (by decide))]
  · rfl

theorem Taken_checks {s : State} {r : Req} {k : Nat} (h : Taken s r k) :
    usedPage (pageOf k) = true ∧ s.mayWrite r k = true ∧ s.powered k = true := by
  have hw := h.2
  unfold State.writeCause at hw
  by_cases h1 : usedPage (pageOf k) = true
  · by_cases h2 : s.mayWrite r k = true
    · by_cases h3 : s.powered k = true
      · exact ⟨h1, h2, h3⟩
      · simp only [h1, h2, h3] at hw
        split at hw
        · cases hw
        · simp only [not_true_eq_false, if_false] at hw
          split at hw <;> simp at hw
    · simp only [h1, h2] at hw
      split at hw
      · cases hw
      · simp at hw
  · simp only [h1] at hw
    split at hw <;> simp at hw

/-- A write that is taken is carried out. -/
theorem Taken_access {s : State} {r : Req} {k : Nat} {op : State → State} (h : Taken s r k) :
    s.access r k true op = op (s.reply .done) := by
  unfold State.access
  simp [h.1, h.2]

/-- Where the presence window is open, an owner's guarded action is carried out. -/
theorem Present_guarded {s : State} {r : Req} {k : Nat} {op : State → State} (h : Present s r) : s.guarded r k op = op s := by
  unfold State.guarded
  simp [h.1, h.2]

/-- A write access that passes its checks is carried out. -/
theorem State.access_taken {s : State} {r : Req} {k : Nat} {op : State → State} (h : s.reaches r = true)
    (hc : s.writeCause r k true = 0) : s.access r k true op = op (s.reply .done) := by
  unfold State.access
  simp [h, hc]

end Sys2Proof.Machine
end

