-- ==== Sys2Proof/Laws/Host.lean ====
section
/-! SUPPORT. Which parts of the state each operation of Machine/Host.lean can change. -/

namespace Sys2Proof.Machine

open Sys2Proof

set_option linter.unusedTactic false
set_option linter.unreachableTactic false
set_option linter.unusedVariables false

theorem State.setHif_keeps {L : List Part} {s0 s : State} (f : Hif → Hif)
    (hL0 : [.hif] ⊆ L) (h0 : SameBut L s0 s) :
    SameBut L s0 (s.setHif f) := by
  unfold State.setHif
  exact (SameBut.upd_hif (Part.sub (by decide) hL0) h0)

theorem State.endpointReset_keeps {L : List Part} {s0 s : State}
    (hL0 : [.regs, .seam, .cmt, .own, .evt, .tsk, .hif, .timers, .out] ⊆ L) (h0 : SameBut L s0 s) :
    SameBut L s0 (s.endpointReset) := by
  unfold State.endpointReset
  exact (SameBut.ite (State.holderLost_keeps _ (Part.sub (by decide) hL0) (State.setHif_keeps _ (Part.sub (by decide) hL0) (SameBut.upd_regs (Part.sub (by decide) hL0) h0))) (State.setHif_keeps _ (Part.sub (by decide) hL0) (SameBut.upd_regs (Part.sub (by decide) hL0) h0)))

theorem State.leaveL0_keeps {L : List Part} {s0 s : State}
    (hL0 : [.regs, .seam, .evt, .tsk, .hif, .out] ⊆ L) (h0 : SameBut L s0 s) :
    SameBut L s0 (s.leaveL0) := by
  unfold State.leaveL0
  exact (SameBut.ite (State.fire_keeps _ _ (Part.sub (by decide) hL0) (State.setHif_keeps _ (Part.sub (by decide) hL0) h0)) h0)

theorem State.enterL0_keeps {L : List Part} {s0 s : State} (width : BitVec 3) (speed : BitVec 3) (d3 : Bool) (msixEn : Bool) (funcMask : Bool)
    (hL0 : [.regs, .seam, .cmt, .own, .evt, .tsk, .hif, .timers, .out] ⊆ L) (h0 : SameBut L s0 s) :
    SameBut L s0 (s.enterL0 width speed d3 msixEn funcMask) := by
  unfold State.enterL0
  exact (SameBut.ite (State.drainPba_keeps (Part.sub (by decide) hL0) (State.setHif_keeps _ (Part.sub (by decide) hL0) (State.stopTimer_keeps _ (Part.sub (by decide) hL0) h0))) (State.addCandidate_keeps _ (Part.sub (by decide) hL0) (State.fire_keeps _ _ (Part.sub (by decide) hL0) (State.drainPba_keeps (Part.sub (by decide) hL0) (State.setHif_keeps _ (Part.sub (by decide) hL0) (State.stopTimer_keeps _ (Part.sub (by decide) hL0) h0))))))

theorem State.opMsixCtl_keeps {L : List Part} {s0 s : State} (vec : Nat) (v : Word)
    (hL0 : [.regs, .hif, .out] ⊆ L) (h0 : SameBut L s0 s) :
    SameBut L s0 (s.opMsixCtl vec v) := by
  unfold State.opMsixCtl
  exact (SameBut.ite (State.store_keeps _ _ (Part.sub (by decide) hL0) h0) (State.drainPba_keeps (Part.sub (by decide) hL0) (State.store_keeps _ _ (Part.sub (by decide) hL0) h0)))

theorem State.opFlashCmd_keeps {L : List Part} {s0 s : State} (v : Word)
    (hL0 : [.regs, .seam, .evt, .tsk, .hif, .out] ⊆ L) (h0 : SameBut L s0 s) :
    SameBut L s0 (s.opFlashCmd v) := by
  unfold State.opFlashCmd
  exact (SameBut.ite h0 (SameBut.ite (State.flashStart_keeps (Part.sub (by decide) hL0) (State.setHif_keeps _ (Part.sub (by decide) hL0) h0)) (State.fire_keeps _ _ (Part.sub (by decide) hL0) (State.bump_keeps _ (Part.sub (by decide) hL0) (State.setHif_keeps _ (Part.sub (by decide) hL0) h0)))))

theorem State.putBytes_keeps {L : List Part} {s0 s : State} (k : Nat) (bs : List Byte)
    (hL0 : [.regs] ⊆ L) (h0 : SameBut L s0 s) :
    SameBut L s0 (s.putBytes k bs) := by
  unfold State.putBytes
  exact (SameBut.foldl (fun _ _ h1 => (State.setFld_keeps _ _ (Part.sub (by decide) hL0) h1)) h0)

theorem State.flashEnd_keeps {L : List Part} {s0 s : State} (result : BitVec 3)
    (hL0 : [.regs, .seam, .evt, .log, .tsk, .hif, .out] ⊆ L) (h0 : SameBut L s0 s) :
    SameBut L s0 (s.flashEnd result) := by
  unfold State.flashEnd
  exact (State.logStart_keeps (Part.sub (by decide) hL0) (State.fire_keeps _ _ (Part.sub (by decide) hL0) (SameBut.ite (State.setHif_keeps _ (Part.sub (by decide) hL0) h0) (State.bump_keeps _ (Part.sub (by decide) hL0) (State.setHif_keeps _ (Part.sub (by decide) hL0) h0)))))

theorem State.flashDone_keeps {L : List Part} {s0 s : State} (bad : Bool) (data : List Byte)
    (hL0 : [.regs, .seam, .evt, .log, .tsk, .hif, .out] ⊆ L) (h0 : SameBut L s0 s) :
    SameBut L s0 (s.flashDone bad data) := by
  unfold State.flashDone
  split
  · exact (SameBut.ite h0 (State.flashEnd_keeps _ (Part.sub (by decide) hL0) (State.putBytes_keeps _ _ (Part.sub (by decide) hL0) h0)))
  · exact (State.flashEnd_keeps _ (Part.sub (by decide) hL0) h0)
  · exact (SameBut.ite h0 (State.flashEnd_keeps _ (Part.sub (by decide) hL0) h0))
  · exact h0

theorem State.opI2cCmd_keeps {L : List Part} {s0 s : State} (r : Req) (v : Word)
    (hL0 : [.regs, .seam, .evt, .tsk, .hif, .resp, .out] ⊆ L) (h0 : SameBut L s0 s) :
    SameBut L s0 (s.opI2cCmd r v) := by
  unfold State.opI2cCmd
  exact (SameBut.ite h0 (SameBut.ite (State.refuse_keeps _ _ (Part.sub (by decide) hL0) h0) (State.emit_keeps _ (Part.sub (by decide) hL0) (State.setHif_keeps _ (Part.sub (by decide) hL0) h0))))

theorem State.i2cEnd_keeps {L : List Part} {s0 s : State} (result : BitVec 2)
    (hL0 : [.regs, .seam, .evt, .tsk, .hif, .out] ⊆ L) (h0 : SameBut L s0 s) :
    SameBut L s0 (s.i2cEnd result) := by
  unfold State.i2cEnd
  exact (State.fire_keeps _ _ (Part.sub (by decide) hL0) (SameBut.ite (State.setHif_keeps _ (Part.sub (by decide) hL0) (SameBut.ite (State.emit_keeps _ (Part.sub (by decide) hL0) h0) h0)) (State.bump_keeps _ (Part.sub (by decide) hL0) (State.setHif_keeps _ (Part.sub (by decide) hL0) (SameBut.ite (State.emit_keeps _ (Part.sub (by decide) hL0) h0) h0)))))

theorem State.i2cDone_keeps {L : List Part} {s0 s : State} (result : BitVec 2) (data : List Byte)
    (hL0 : [.regs, .seam, .evt, .tsk, .hif, .out] ⊆ L) (h0 : SameBut L s0 s) :
    SameBut L s0 (s.i2cDone result data) := by
  unfold State.i2cDone
  split
  · exact (SameBut.ite (SameBut.ite (State.i2cEnd_keeps _ (Part.sub (by decide) hL0) (State.putBytes_keeps _ _ (Part.sub (by decide) hL0) h0)) h0) (State.i2cEnd_keeps _ (Part.sub (by decide) hL0) h0))
  · exact h0

theorem State.opJtagCtl_keeps {L : List Part} {s0 s : State} (r : Req) (v : Word)
    (hL0 : [.regs, .seam, .upb, .pairs, .evt, .tsk, .hif, .resp, .out] ⊆ L) (h0 : SameBut L s0 s) :
    SameBut L s0 (s.opJtagCtl r v) := by
  unfold State.opJtagCtl
  exact (SameBut.ite (State.guarded_keeps _ _ _ (Part.sub (by decide) hL0) (fun _ h1 => (SameBut.ite (State.setHif_keeps _ (Part.sub (by decide) hL0) (State.fire_keeps _ _ (Part.sub (by decide) hL0) (State.setHif_keeps _ (Part.sub (by decide) hL0) (State.eraseAll_keeps (Part.sub (by decide) hL0) h1)))) (State.fire_keeps _ _ (Part.sub (by decide) hL0) (State.setHif_keeps _ (Part.sub (by decide) hL0) (State.eraseAll_keeps (Part.sub (by decide) hL0) h1))))) h0) (SameBut.ite (State.setHif_keeps _ (Part.sub (by decide) hL0) h0) h0))

theorem execPcieLinkUp_keeps (width : BitVec 3) (speed : BitVec 3) (d3 : Bool) (msixEn : Bool) (funcMask : Bool) (s : State) :
    ResKeeps [.regs, .seam, .cmt, .own, .evt, .tsk, .hif, .timers, .out] s (execPcieLinkUp width speed d3 msixEn funcMask s) := by
  have hL0 := List.Subset.refl ([.regs, .seam, .cmt, .own, .evt, .tsk, .hif, .timers, .out] : List Part)
  have h0 := SameBut.refl [.regs, .seam, .cmt, .own, .evt, .tsk, .hif, .timers, .out] s
  unfold execPcieLinkUp
  exact (ResKeeps.ite ResKeeps.fault (ResKeeps.next (SameBut.ite (State.enterL0_keeps _ _ _ _ _ (Part.sub (by decide) hL0) h0) h0)))

theorem execPcieLinkDown_keeps (s : State) :
    ResKeeps [.regs, .seam, .cmt, .own, .evt, .tsk, .hif, .timers, .out] s (execPcieLinkDown s) := by
  have hL0 := List.Subset.refl ([.regs, .seam, .cmt, .own, .evt, .tsk, .hif, .timers, .out] : List Part)
  have h0 := SameBut.refl [.regs, .seam, .cmt, .own, .evt, .tsk, .hif, .timers, .out] s
  unfold execPcieLinkDown
  exact (ResKeeps.next (SameBut.ite (State.leaveL0_keeps (Part.sub (by decide) hL0) (State.endpointReset_keeps (Part.sub (by decide) hL0) h0)) h0))

theorem execPcieHotReset_keeps (s : State) :
    ResKeeps [.regs, .seam, .cmt, .own, .evt, .tsk, .hif, .timers, .out] s (execPcieHotReset s) := by
  have hL0 := List.Subset.refl ([.regs, .seam, .cmt, .own, .evt, .tsk, .hif, .timers, .out] : List Part)
  have h0 := SameBut.refl [.regs, .seam, .cmt, .own, .evt, .tsk, .hif, .timers, .out] s
  unfold execPcieHotReset
  exact (ResKeeps.next (SameBut.ite (State.leaveL0_keeps (Part.sub (by decide) hL0) (State.endpointReset_keeps (Part.sub (by decide) hL0) h0)) h0))

theorem execPcieFlr_keeps (s : State) :
    ResKeeps [.regs, .seam, .cmt, .own, .evt, .tsk, .hif, .timers, .out] s (execPcieFlr s) := by
  have hL0 := List.Subset.refl ([.regs, .seam, .cmt, .own, .evt, .tsk, .hif, .timers, .out] : List Part)
  have h0 := SameBut.refl [.regs, .seam, .cmt, .own, .evt, .tsk, .hif, .timers, .out] s
  unfold execPcieFlr
  exact (ResKeeps.next (SameBut.ite (State.endpointReset_keeps (Part.sub (by decide) hL0) h0) h0))

theorem execPerstAssert_keeps (s : State) :
    ResKeeps [.regs, .seam, .cmt, .own, .evt, .tsk, .hif, .timers, .out] s (execPerstAssert s) := by
  have hL0 := List.Subset.refl ([.regs, .seam, .cmt, .own, .evt, .tsk, .hif, .timers, .out] : List Part)
  have h0 := SameBut.refl [.regs, .seam, .cmt, .own, .evt, .tsk, .hif, .timers, .out] s
  unfold execPerstAssert
  exact (ResKeeps.next (SameBut.ite (State.leaveL0_keeps (Part.sub (by decide) hL0) (State.endpointReset_keeps (Part.sub (by decide) hL0) h0)) h0))

theorem execPcieL0Exit_keeps (s : State) :
    ResKeeps [.regs, .seam, .evt, .tsk, .hif, .out] s (execPcieL0Exit s) := by
  have hL0 := List.Subset.refl ([.regs, .seam, .evt, .tsk, .hif, .out] : List Part)
  have h0 := SameBut.refl [.regs, .seam, .evt, .tsk, .hif, .out] s
  unfold execPcieL0Exit
  exact (ResKeeps.next (State.leaveL0_keeps (Part.sub (by decide) hL0) h0))

theorem execMsixUnmask_keeps (r : Req) (vec : Fin 64) (s : State) :
    ResKeeps [.regs, .seam, .evt, .tsk, .hif, .resp, .out] s (execMsixUnmask r vec s) := by
  have hL0 := List.Subset.refl ([.regs, .seam, .evt, .tsk, .hif, .resp, .out] : List Part)
  have h0 := SameBut.refl [.regs, .seam, .evt, .tsk, .hif, .resp, .out] s
  unfold execMsixUnmask
  exact (ResKeeps.next (State.access_keeps _ _ _ _ (Part.sub (by decide) hL0) (fun _ h1 => (State.opMsixCtl_keeps _ _ (Part.sub (by decide) hL0) h1)) h0))

theorem execFlashRead_keeps (r : Req) (v : Word) (s : State) :
    ResKeeps [.regs, .seam, .evt, .tsk, .hif, .resp, .out] s (execFlashRead r v s) := by
  have hL0 := List.Subset.refl ([.regs, .seam, .evt, .tsk, .hif, .resp, .out] : List Part)
  have h0 := SameBut.refl [.regs, .seam, .evt, .tsk, .hif, .resp, .out] s
  unfold execFlashRead
  exact (ResKeeps.next (State.access_keeps _ _ _ _ (Part.sub (by decide) hL0) (fun _ h1 => (State.opFlashCmd_keeps _ (Part.sub (by decide) hL0) h1)) h0))

theorem execFlashProg_keeps (r : Req) (v : Word) (s : State) :
    ResKeeps [.regs, .seam, .evt, .tsk, .hif, .resp, .out] s (execFlashProg r v s) := by
  have hL0 := List.Subset.refl ([.regs, .seam, .evt, .tsk, .hif, .resp, .out] : List Part)
  have h0 := SameBut.refl [.regs, .seam, .evt, .tsk, .hif, .resp, .out] s
  unfold execFlashProg
  exact (ResKeeps.next (State.access_keeps _ _ _ _ (Part.sub (by decide) hL0) (fun _ h1 => (State.opFlashCmd_keeps _ (Part.sub (by decide) hL0) h1)) h0))

theorem execFlashErase_keeps (r : Req) (v : Word) (s : State) :
    ResKeeps [.regs, .seam, .evt, .tsk, .hif, .resp, .out] s (execFlashErase r v s) := by
  have hL0 := List.Subset.refl ([.regs, .seam, .evt, .tsk, .hif, .resp, .out] : List Part)
  have h0 := SameBut.refl [.regs, .seam, .evt, .tsk, .hif, .resp, .out] s
  unfold execFlashErase
  exact (ResKeeps.next (State.access_keeps _ _ _ _ (Part.sub (by decide) hL0) (fun _ h1 => (State.opFlashCmd_keeps _ (Part.sub (by decide) hL0) h1)) h0))

theorem execFlashCmdDone_keeps (bad : Bool) (data : List Byte) (s : State) :
    ResKeeps [.regs, .seam, .evt, .log, .tsk, .hif, .out] s (execFlashCmdDone bad data s) := by
  have hL0 := List.Subset.refl ([.regs, .seam, .evt, .log, .tsk, .hif, .out] : List Part)
  have h0 := SameBut.refl [.regs, .seam, .evt, .log, .tsk, .hif, .out] s
  unfold execFlashCmdDone
  exact (ResKeeps.next (State.flashDone_keeps _ _ (Part.sub (by decide) hL0) h0))

theorem execOi2cWrite_keeps (r : Req) (v : Word) (s : State) :
    ResKeeps [.regs, .seam, .evt, .tsk, .hif, .resp, .out] s (execOi2cWrite r v s) := by
  have hL0 := List.Subset.refl ([.regs, .seam, .evt, .tsk, .hif, .resp, .out] : List Part)
  have h0 := SameBut.refl [.regs, .seam, .evt, .tsk, .hif, .resp, .out] s
  unfold execOi2cWrite
  exact (ResKeeps.next (State.access_keeps _ _ _ _ (Part.sub (by decide) hL0) (fun _ h1 => (State.opI2cCmd_keeps _ _ (Part.sub (by decide) hL0) h1)) h0))

theorem execOi2cRead_keeps (r : Req) (v : Word) (s : State) :
    ResKeeps [.regs, .seam, .evt, .tsk, .hif, .resp, .out] s (execOi2cRead r v s) := by
  have hL0 := List.Subset.refl ([.regs, .seam, .evt, .tsk, .hif, .resp, .out] : List Part)
  have h0 := SameBut.refl [.regs, .seam, .evt, .tsk, .hif, .resp, .out] s
  unfold execOi2cRead
  exact (ResKeeps.next (State.access_keeps _ _ _ _ (Part.sub (by decide) hL0) (fun _ h1 => (State.opI2cCmd_keeps _ _ (Part.sub (by decide) hL0) h1)) h0))

theorem execOi2cDone_keeps (result : BitVec 2) (data : List Byte) (s : State) :
    ResKeeps [.regs, .seam, .evt, .tsk, .hif, .out] s (execOi2cDone result data s) := by
  have hL0 := List.Subset.refl ([.regs, .seam, .evt, .tsk, .hif, .out] : List Part)
  have h0 := SameBut.refl [.regs, .seam, .evt, .tsk, .hif, .out] s
  unfold execOi2cDone
  exact (ResKeeps.next (State.i2cDone_keeps _ _ (Part.sub (by decide) hL0) h0))

theorem execOi2cSclTimeout_keeps (s : State) :
    ResKeeps [.regs, .seam, .evt, .tsk, .hif, .out] s (execOi2cSclTimeout s) := by
  have hL0 := List.Subset.refl ([.regs, .seam, .evt, .tsk, .hif, .out] : List Part)
  have h0 := SameBut.refl [.regs, .seam, .evt, .tsk, .hif, .out] s
  unfold execOi2cSclTimeout
  exact (ResKeeps.next (State.i2cDone_keeps _ _ (Part.sub (by decide) hL0) h0))

theorem execJtagOpen_keeps (r : Req) (v : Word) (s : State) :
    ResKeeps [.regs, .seam, .upb, .pairs, .evt, .tsk, .hif, .resp, .out] s (execJtagOpen r v s) := by
  have hL0 := List.Subset.refl ([.regs, .seam, .upb, .pairs, .evt, .tsk, .hif, .resp, .out] : List Part)
  have h0 := SameBut.refl [.regs, .seam, .upb, .pairs, .evt, .tsk, .hif, .resp, .out] s
  unfold execJtagOpen
  exact (ResKeeps.next (State.access_keeps _ _ _ _ (Part.sub (by decide) hL0) (fun _ h1 => (State.opJtagCtl_keeps _ _ (Part.sub (by decide) hL0) h1)) h0))

theorem execJtagClose_keeps (r : Req) (v : Word) (s : State) :
    ResKeeps [.regs, .seam, .upb, .pairs, .evt, .tsk, .hif, .resp, .out] s (execJtagClose r v s) := by
  have hL0 := List.Subset.refl ([.regs, .seam, .upb, .pairs, .evt, .tsk, .hif, .resp, .out] : List Part)
  have h0 := SameBut.refl [.regs, .seam, .upb, .pairs, .evt, .tsk, .hif, .resp, .out] s
  unfold execJtagClose
  exact (ResKeeps.next (State.access_keeps _ _ _ _ (Part.sub (by decide) hL0) (fun _ h1 => (State.opJtagCtl_keeps _ _ (Part.sub (by decide) hL0) h1)) h0))

end Sys2Proof.Machine
end

