-- ==== Sys2Proof/Laws/SeamCommit.lean ====
section
/-! SUPPORT. Which parts of the state each operation of Machine/SeamCommit.lean can change. -/

namespace Sys2Proof.Machine

open Sys2Proof

set_option linter.unusedTactic false
set_option linter.unreachableTactic false
set_option linter.unusedVariables false

theorem State.setSeam_keeps {L : List Part} {s0 s : State} (f : Seam → Seam)
    (hL0 : [.seam] ⊆ L) (h0 : SameBut L s0 s) :
    SameBut L s0 (s.setSeam f) := by
  unfold State.setSeam
  exact (SameBut.upd_seam (Part.sub (by decide) hL0) h0)

theorem State.fireBoth_keeps {L : List Part} {s0 s : State} (b : Nat)
    (hL0 : [.regs, .seam, .evt, .tsk, .hif, .out] ⊆ L) (h0 : SameBut L s0 s) :
    SameBut L s0 (s.fireBoth b) := by
  unfold State.fireBoth
  exact (State.fire_keeps _ _ (Part.sub (by decide) hL0) (State.fire_keeps _ _ (Part.sub (by decide) hL0) h0))

theorem State.decideApply_keeps {L : List Part} {s0 s : State} (i : Fin 4)
    (hL0 : [.regs, .seam, .cmt, .tribs, .pipes, .epochs, .shapers, .policers, .evt, .tsk, .hif, .timers, .out] ⊆ L) (h0 : SameBut L s0 s) :
    SameBut L s0 (s.decideApply i) := by
  unfold State.decideApply
  exact (State.switchNow_keeps _ (Part.sub (by decide) hL0) (State.stopTimer_keeps _ (Part.sub (by decide) hL0) (SameBut.ite (State.setSeam_keeps _ (Part.sub (by decide) hL0) (SameBut.upd_cmt (Part.sub (by decide) hL0) (State.setSlot_keeps _ _ (Part.sub (by decide) hL0) h0))) (SameBut.upd_cmt (Part.sub (by decide) hL0) (State.setSlot_keeps _ _ (Part.sub (by decide) hL0) h0)))))

theorem State.sendPrepare_keeps {L : List Part} {s0 s : State} (i : Fin 4)
    (hL0 : [.seam, .cmt, .timers] ⊆ L) (h0 : SameBut L s0 s) :
    SameBut L s0 (s.sendPrepare i) := by
  unfold State.sendPrepare
  exact (State.startTimer_keeps _ (Part.sub (by decide) hL0) (State.setSeam_keeps _ (Part.sub (by decide) hL0) (State.setSlot_keeps _ _ (Part.sub (by decide) hL0) h0)))

theorem State.linePrepare_keeps {L : List Part} {s0 s : State} (tag : BitVec 8) (ws : SMap Word)
    (hL0 : [.seam] ⊆ L) (h0 : SameBut L s0 s) :
    SameBut L s0 (s.linePrepare tag ws) := by
  unfold State.linePrepare
  exact (SameBut.ite (State.setSeam_keeps _ (Part.sub (by decide) hL0) h0) (State.setSeam_keeps _ (Part.sub (by decide) hL0) h0))

theorem State.lineApply_keeps {L : List Part} {s0 s : State} (tag : BitVec 8)
    (hL0 : [.regs, .seam, .cmt, .tribs, .pairs, .pipes, .epochs, .shapers, .policers, .evt, .tsk, .hif, .timers, .out] ⊆ L) (h0 : SameBut L s0 s) :
    SameBut L s0 (s.lineApply tag) := by
  unfold State.lineApply
  try dsimp only
  split
  · exact (SameBut.ite (State.switchNow_keeps _ (Part.sub (by decide) hL0) (State.groupRolls_keeps _ (Part.sub (by decide) hL0) (State.setSeam_keeps _ (Part.sub (by decide) hL0) h0))) (State.setSeam_keeps _ (Part.sub (by decide) hL0) h0))
  · exact (State.setSeam_keeps _ (Part.sub (by decide) hL0) h0)

theorem State.lineAbort_keeps {L : List Part} {s0 s : State} (tag : BitVec 8)
    (hL0 : [.seam] ⊆ L) (h0 : SameBut L s0 s) :
    SameBut L s0 (s.lineAbort tag) := by
  unfold State.lineAbort
  exact (State.setSeam_keeps _ (Part.sub (by decide) hL0) h0)

theorem State.lineDecision_keeps {L : List Part} {s0 s : State} (d : CmtMsg)
    (hL0 : [.regs, .seam, .cmt, .tribs, .pairs, .pipes, .epochs, .shapers, .policers, .evt, .tsk, .hif, .timers, .out] ⊆ L) (h0 : SameBut L s0 s) :
    SameBut L s0 (s.lineDecision d) := by
  unfold State.lineDecision
  split
  · exact (State.lineApply_keeps _ (Part.sub (by decide) hL0) h0)
  · exact (State.lineAbort_keeps _ (Part.sub (by decide) hL0) h0)
  · exact h0

theorem State.fabReply_keeps {L : List Part} {s0 s : State} (tag : BitVec 8) (off : Bool)
    (hL0 : [.regs, .seam, .cmt, .tribs, .pipes, .epochs, .shapers, .policers, .evt, .tsk, .hif, .timers, .out] ⊆ L) (h0 : SameBut L s0 s) :
    SameBut L s0 (s.fabReply tag off) := by
  unfold State.fabReply
  split
  · exact (SameBut.ite h0 (SameBut.ite (State.stopTimer_keeps _ (Part.sub (by decide) hL0) (State.abortSlot_keeps _ _ (Part.sub (by decide) hL0) h0)) (State.decideApply_keeps _ (Part.sub (by decide) hL0) h0)))
  · exact h0

theorem State.judgeCommit_keeps {L : List Part} {s0 s : State} (r : Req) (i : Fin 4)
    (hL0 : [.regs, .seam, .cmt, .tribs, .pipes, .epochs, .shapers, .policers, .evt, .tsk, .hif, .timers, .resp, .out] ⊆ L) (h0 : SameBut L s0 s) :
    SameBut L s0 (s.judgeCommit r i) := by
  unfold State.judgeCommit
  exact (SameBut.ite (State.cmdRefuse_keeps _ _ _ _ _ (Part.sub (by decide) hL0) h0) (SameBut.ite (State.slotApplied_keeps _ (Part.sub (by decide) hL0) (State.cmdStat_keeps _ _ _ _ (Part.sub (by decide) hL0) h0)) (SameBut.ite (State.abortSlot_keeps _ _ (Part.sub (by decide) hL0) (State.cmdStat_keeps _ _ _ _ (Part.sub (by decide) hL0) h0)) (SameBut.ite (State.abortSlot_keeps _ _ (Part.sub (by decide) hL0) (State.cmdStat_keeps _ _ _ _ (Part.sub (by decide) hL0) h0)) (SameBut.ite (State.decideApply_keeps _ (Part.sub (by decide) hL0) (State.cmdStat_keeps _ _ _ _ (Part.sub (by decide) hL0) h0)) (SameBut.ite (State.abortSlot_keeps _ _ (Part.sub (by decide) hL0) (State.cmdStat_keeps _ _ _ _ (Part.sub (by decide) hL0) h0)) (SameBut.ite (State.abortSlot_keeps _ _ (Part.sub (by decide) hL0) (State.cmdStat_keeps _ _ _ _ (Part.sub (by decide) hL0) h0)) (State.sendPrepare_keeps _ (Part.sub (by decide) hL0) (State.cmdStat_keeps _ _ _ _ (Part.sub (by decide) hL0) h0)))))))))

theorem State.opCmtCommit_keeps {L : List Part} {s0 s : State} (r : Req) (tag : BitVec 8)
    (hL0 : [.regs, .seam, .cmt, .tribs, .pipes, .epochs, .shapers, .policers, .evt, .tsk, .hif, .timers, .resp, .out] ⊆ L) (h0 : SameBut L s0 s) :
    SameBut L s0 (s.opCmtCommit r tag) := by
  unfold State.opCmtCommit
  exact (SameBut.ite (State.cmdRefuse_keeps _ _ _ _ _ (Part.sub (by decide) hL0) h0) (by
    split
    · exact (State.cmdRefuse_keeps _ _ _ _ _ (Part.sub (by decide) hL0) h0)
    · exact (SameBut.ite (State.judgeCommit_keeps _ _ (Part.sub (by decide) hL0) h0) (State.cmdRefuse_keeps _ _ _ _ _ (Part.sub (by decide) hL0) h0))))

theorem State.abortPreparing_keeps {L : List Part} {s0 s : State} (i : Fin 4)
    (hL0 : [.regs, .seam, .cmt, .evt, .tsk, .hif, .timers, .out] ⊆ L) (h0 : SameBut L s0 s) :
    SameBut L s0 (s.abortPreparing i) := by
  unfold State.abortPreparing
  exact (SameBut.ite (State.setSeam_keeps _ (Part.sub (by decide) hL0) (State.stopTimer_keeps _ (Part.sub (by decide) hL0) (State.abortSlot_keeps _ _ (Part.sub (by decide) hL0) h0))) h0)

theorem State.seamDown_keeps {L : List Part} {s0 s : State} (dropLine : Nat) (dropFab : Nat)
    (hL0 : [.regs, .seam, .cmt, .evt, .tsk, .hif, .timers, .out] ⊆ L) (h0 : SameBut L s0 s) :
    SameBut L s0 (s.seamDown dropLine dropFab) := by
  unfold State.seamDown
  exact (State.fireBoth_keeps _ (Part.sub (by decide) hL0) (State.startTimer_keeps _ (Part.sub (by decide) hL0) (SameBut.foldl (fun _ _ h1 => (State.abortPreparing_keeps _ (Part.sub (by decide) hL0) h1)) (State.bumpBy_keeps _ _ (Part.sub (by decide) hL0) (State.bumpBy_keeps _ _ (Part.sub (by decide) hL0) (State.bump_keeps _ (Part.sub (by decide) hL0) (State.bump_keeps _ (Part.sub (by decide) hL0) (State.setSeam_keeps _ (Part.sub (by decide) hL0) h0))))))))

theorem State.seamFail_keeps {L : List Part} {s0 s : State} (dropLine : Nat) (dropFab : Nat)
    (hL0 : [.regs, .seam, .cmt, .evt, .tsk, .hif, .timers, .out] ⊆ L) (h0 : SameBut L s0 s) :
    SameBut L s0 (s.seamFail dropLine dropFab) := by
  unfold State.seamFail
  split
  · exact (State.seamDown_keeps _ _ (Part.sub (by decide) hL0) h0)
  · exact (State.setSeam_keeps _ (Part.sub (by decide) hL0) h0)
  · exact h0

theorem State.flit_keeps {L : List Part} {s0 s : State} (toFab : Bool) (ok : Bool) (dropLine : Nat) (dropFab : Nat)
    (hL0 : [.regs, .seam, .cmt, .evt, .tsk, .hif, .timers, .out] ⊆ L) (h0 : SameBut L s0 s) :
    SameBut L s0 (s.flit toFab ok dropLine dropFab) := by
  unfold State.flit
  exact (SameBut.ite h0 (SameBut.ite (State.setSeam_keeps _ (Part.sub (by decide) hL0) h0) (SameBut.ite (State.setSeam_keeps _ (Part.sub (by decide) hL0) (State.bump_keeps _ (Part.sub (by decide) hL0) (State.bump_keeps _ (Part.sub (by decide) hL0) h0))) (State.seamFail_keeps _ _ (Part.sub (by decide) hL0) (State.bump_keeps _ (Part.sub (by decide) hL0) h0)))))

theorem State.lockLoss_keeps {L : List Part} {s0 s : State} (fab : Bool) (lane : Fin 16) (dropLine : Nat) (dropFab : Nat)
    (hL0 : [.regs, .seam, .cmt, .evt, .tsk, .hif, .timers, .out] ⊆ L) (h0 : SameBut L s0 s) :
    SameBut L s0 (s.lockLoss fab lane dropLine dropFab) := by
  unfold State.lockLoss
  exact (SameBut.ite h0 (State.fire_keeps _ _ (Part.sub (by decide) hL0) (State.seamFail_keeps _ _ (Part.sub (by decide) hL0) (State.setSeam_keeps _ (Part.sub (by decide) hL0) h0))))

theorem State.sendHeld_keeps {L : List Part} {s0 s : State} (rec : EvRec)
    (hL0 : [.regs, .seam, .evt, .tsk, .hif, .out] ⊆ L) (h0 : SameBut L s0 s) :
    SameBut L s0 (s.sendHeld rec) := by
  unfold State.sendHeld
  exact (SameBut.ite (State.fire_keeps _ _ (Part.sub (by decide) hL0) (State.record_keeps _ (Part.sub (by decide) hL0) h0)) (State.record_keeps _ (Part.sub (by decide) hL0) h0))

theorem State.sendEvents_keeps {L : List Part} {s0 s : State}
    (hL0 : [.regs, .seam, .evt, .tsk, .hif, .out] ⊆ L) (h0 : SameBut L s0 s) :
    SameBut L s0 (s.sendEvents) := by
  unfold State.sendEvents
  exact (SameBut.foldl (fun _ _ h3 => (State.risePending_keeps _ (Part.sub (by decide) hL0) h3)) (SameBut.ite (SameBut.foldl (fun _ _ h1 => (State.sendHeld_keeps _ (Part.sub (by decide) hL0) h1)) (State.setSeam_keeps _ (Part.sub (by decide) hL0) h0)) (State.fire_keeps _ _ (Part.sub (by decide) hL0) (State.bumpBy_keeps _ _ (Part.sub (by decide) hL0) (SameBut.foldl (fun _ _ h2 => (State.sendHeld_keeps _ (Part.sub (by decide) hL0) h2)) (State.setSeam_keeps _ (Part.sub (by decide) hL0) h0))))))

theorem State.seamRises_keeps {L : List Part} {s0 s : State}
    (hL0 : [.regs, .seam, .cmt, .tribs, .pairs, .pipes, .epochs, .shapers, .policers, .tim, .evt, .tsk, .hif, .clock, .timers, .out] ⊆ L) (h0 : SameBut L s0 s) :
    SameBut L s0 (s.seamRises) := by
  unfold State.seamRises
  exact (State.fireBoth_keeps _ (Part.sub (by decide) hL0) (State.sendEvents_keeps (Part.sub (by decide) hL0) (SameBut.foldl (fun _ _ h1 => (State.lineDecision_keeps _ (Part.sub (by decide) hL0) h1)) (SameBut.ite (State.settleF_keeps (Part.sub (by decide) hL0) (SameBut.upd_clock (Part.sub (by decide) hL0) (State.stopTimer_keeps _ (Part.sub (by decide) hL0) (State.stopTimer_keeps _ (Part.sub (by decide) hL0) (State.setSeam_keeps _ (Part.sub (by decide) hL0) h0))))) (SameBut.upd_clock (Part.sub (by decide) hL0) (State.stopTimer_keeps _ (Part.sub (by decide) hL0) (State.stopTimer_keeps _ (Part.sub (by decide) hL0) (State.setSeam_keeps _ (Part.sub (by decide) hL0) h0))))))))

theorem State.opSeamCtl_keeps {L : List Part} {s0 s : State} (v : Word)
    (hL0 : [.regs, .seam, .timers] ⊆ L) (h0 : SameBut L s0 s) :
    SameBut L s0 (s.opSeamCtl v) := by
  unfold State.opSeamCtl
  exact (SameBut.ite (State.stopTimer_keeps _ (Part.sub (by decide) hL0) (State.store_keeps _ _ (Part.sub (by decide) hL0) h0)) (SameBut.ite (State.store_keeps _ _ (Part.sub (by decide) hL0) h0) (State.startTimer_keeps _ (Part.sub (by decide) hL0) (State.setSeam_keeps _ (Part.sub (by decide) hL0) (State.store_keeps _ _ (Part.sub (by decide) hL0) h0)))))

theorem execSeamFlitReceive_keeps (toFab : Bool) (ok : Bool) (dropLine : Nat) (dropFab : Nat) (s : State) :
    ResKeeps [.regs, .seam, .cmt, .evt, .tsk, .hif, .timers, .out] s (execSeamFlitReceive toFab ok dropLine dropFab s) := by
  have hL0 := List.Subset.refl ([.regs, .seam, .cmt, .evt, .tsk, .hif, .timers, .out] : List Part)
  have h0 := SameBut.refl [.regs, .seam, .cmt, .evt, .tsk, .hif, .timers, .out] s
  unfold execSeamFlitReceive
  exact (ResKeeps.next (State.flit_keeps _ _ _ _ (Part.sub (by decide) hL0) h0))

theorem execSeamLaneLockLoss_keeps (fab : Bool) (lane : Fin 16) (dropLine : Nat) (dropFab : Nat) (s : State) :
    ResKeeps [.regs, .seam, .cmt, .evt, .tsk, .hif, .timers, .out] s (execSeamLaneLockLoss fab lane dropLine dropFab s) := by
  have hL0 := List.Subset.refl ([.regs, .seam, .cmt, .evt, .tsk, .hif, .timers, .out] : List Part)
  have h0 := SameBut.refl [.regs, .seam, .cmt, .evt, .tsk, .hif, .timers, .out] s
  unfold execSeamLaneLockLoss
  exact (ResKeeps.next (State.lockLoss_keeps _ _ _ _ (Part.sub (by decide) hL0) h0))

theorem execSeamLost_keeps (s : State) :
    ResKeeps [.regs, .seam, .evt, .tsk, .hif, .timers, .out] s (execSeamLost s) := by
  have hL0 := List.Subset.refl ([.regs, .seam, .evt, .tsk, .hif, .timers, .out] : List Part)
  have h0 := SameBut.refl [.regs, .seam, .evt, .tsk, .hif, .timers, .out] s
  unfold execSeamLost
  exact (ResKeeps.next (SameBut.ite (State.fireBoth_keeps _ (Part.sub (by decide) hL0) (SameBut.ite (State.startTimer_keeps _ (Part.sub (by decide) hL0) (State.stopTimer_keeps _ (Part.sub (by decide) hL0) (State.setSeam_keeps _ (Part.sub (by decide) hL0) h0))) (State.stopTimer_keeps _ (Part.sub (by decide) hL0) (State.setSeam_keeps _ (Part.sub (by decide) hL0) h0)))) h0))

theorem State.train_keeps {L : List Part} {s0 s : State}
    (hL0 : [.seam] ⊆ L) (h0 : SameBut L s0 s) :
    SameBut L s0 (s.train) := by
  unfold State.train
  exact (SameBut.ite (State.setSeam_keeps _ (Part.sub (by decide) hL0) h0) h0)

theorem execSeamRetrainAttempt_keeps (s : State) :
    ResKeeps [.seam, .timers] s (execSeamRetrainAttempt s) := by
  have hL0 := List.Subset.refl ([.seam, .timers] : List Part)
  have h0 := SameBut.refl [.seam, .timers] s
  unfold execSeamRetrainAttempt
  exact (ResKeeps.next (SameBut.ite (State.train_keeps (Part.sub (by decide) hL0) (State.startTimer_keeps _ (Part.sub (by decide) hL0) h0)) (SameBut.ite h0 (State.train_keeps (Part.sub (by decide) hL0) h0))))

theorem execSeamUp_keeps (s : State) :
    ResKeeps [.regs, .seam, .cmt, .tribs, .pairs, .pipes, .epochs, .shapers, .policers, .tim, .evt, .tsk, .hif, .clock, .timers, .out] s (execSeamUp s) := by
  have hL0 := List.Subset.refl ([.regs, .seam, .cmt, .tribs, .pairs, .pipes, .epochs, .shapers, .policers, .tim, .evt, .tsk, .hif, .clock, .timers, .out] : List Part)
  have h0 := SameBut.refl [.regs, .seam, .cmt, .tribs, .pairs, .pipes, .epochs, .shapers, .policers, .tim, .evt, .tsk, .hif, .clock, .timers, .out] s
  unfold execSeamUp
  exact (ResKeeps.next (SameBut.ite (State.seamRises_keeps (Part.sub (by decide) hL0) h0) h0))

theorem execRetrainEnWrite_keeps (r : Req) (v : Word) (s : State) :
    ResKeeps [.regs, .seam, .evt, .tsk, .hif, .timers, .resp, .out] s (execRetrainEnWrite r v s) := by
  have hL0 := List.Subset.refl ([.regs, .seam, .evt, .tsk, .hif, .timers, .resp, .out] : List Part)
  have h0 := SameBut.refl [.regs, .seam, .evt, .tsk, .hif, .timers, .resp, .out] s
  unfold execRetrainEnWrite
  exact (ResKeeps.next (State.access_keeps _ _ _ _ (Part.sub (by decide) hL0) (fun _ h1 => (State.opSeamCtl_keeps _ (Part.sub (by decide) hL0) h1)) h0))

theorem execPrepare_keeps (tag : BitVec 8) (s : State) :
    ResKeeps [.seam] s (execPrepare tag s) := by
  have hL0 := List.Subset.refl ([.seam] : List Part)
  have h0 := SameBut.refl [.seam] s
  unfold execPrepare
  split
  · exact (ResKeeps.next (SameBut.ite (State.linePrepare_keeps _ _ (Part.sub (by decide) hL0) (State.setSeam_keeps _ (Part.sub (by decide) hL0) h0)) h0))
  · exact (ResKeeps.next h0)

theorem execPrepared_keeps (tag : BitVec 8) (s : State) :
    ResKeeps [.regs, .seam, .cmt, .tribs, .pipes, .epochs, .shapers, .policers, .evt, .tsk, .hif, .timers, .out] s (execPrepared tag s) := by
  have hL0 := List.Subset.refl ([.regs, .seam, .cmt, .tribs, .pipes, .epochs, .shapers, .policers, .evt, .tsk, .hif, .timers, .out] : List Part)
  have h0 := SameBut.refl [.regs, .seam, .cmt, .tribs, .pipes, .epochs, .shapers, .policers, .evt, .tsk, .hif, .timers, .out] s
  unfold execPrepared
  split
  · exact (ResKeeps.next (SameBut.ite (State.fabReply_keeps _ _ (Part.sub (by decide) hL0) (State.setSeam_keeps _ (Part.sub (by decide) hL0) h0)) h0))
  · exact (ResKeeps.next h0)

theorem execApply_keeps (tag : BitVec 8) (s : State) :
    ResKeeps [.regs, .seam, .cmt, .tribs, .pairs, .pipes, .epochs, .shapers, .policers, .evt, .tsk, .hif, .timers, .out] s (execApply tag s) := by
  have hL0 := List.Subset.refl ([.regs, .seam, .cmt, .tribs, .pairs, .pipes, .epochs, .shapers, .policers, .evt, .tsk, .hif, .timers, .out] : List Part)
  have h0 := SameBut.refl [.regs, .seam, .cmt, .tribs, .pairs, .pipes, .epochs, .shapers, .policers, .evt, .tsk, .hif, .timers, .out] s
  unfold execApply
  split
  · exact (ResKeeps.next (SameBut.ite (State.lineApply_keeps _ (Part.sub (by decide) hL0) (State.setSeam_keeps _ (Part.sub (by decide) hL0) h0)) h0))
  · exact (ResKeeps.next h0)

theorem execAbort_keeps (tag : BitVec 8) (s : State) :
    ResKeeps [.seam] s (execAbort tag s) := by
  have hL0 := List.Subset.refl ([.seam] : List Part)
  have h0 := SameBut.refl [.seam] s
  unfold execAbort
  split
  · exact (ResKeeps.next (SameBut.ite (State.lineAbort_keeps _ (Part.sub (by decide) hL0) (State.setSeam_keeps _ (Part.sub (by decide) hL0) h0)) h0))
  · exact (ResKeeps.next h0)

theorem execAbortDomainOff_keeps (tag : BitVec 8) (s : State) :
    ResKeeps [.regs, .seam, .cmt, .tribs, .pipes, .epochs, .shapers, .policers, .evt, .tsk, .hif, .timers, .out] s (execAbortDomainOff tag s) := by
  have hL0 := List.Subset.refl ([.regs, .seam, .cmt, .tribs, .pipes, .epochs, .shapers, .policers, .evt, .tsk, .hif, .timers, .out] : List Part)
  have h0 := SameBut.refl [.regs, .seam, .cmt, .tribs, .pipes, .epochs, .shapers, .policers, .evt, .tsk, .hif, .timers, .out] s
  unfold execAbortDomainOff
  split
  · exact (ResKeeps.next (SameBut.ite (State.fabReply_keeps _ _ (Part.sub (by decide) hL0) (State.setSeam_keeps _ (Part.sub (by decide) hL0) h0)) h0))
  · exact (ResKeeps.next h0)

theorem execPrepTimeout_keeps (tag : BitVec 8) (s : State) :
    ResKeeps [.regs, .seam, .cmt, .evt, .tsk, .hif, .timers, .out] s (execPrepTimeout tag s) := by
  have hL0 := List.Subset.refl ([.regs, .seam, .cmt, .evt, .tsk, .hif, .timers, .out] : List Part)
  have h0 := SameBut.refl [.regs, .seam, .cmt, .evt, .tsk, .hif, .timers, .out] s
  unfold execPrepTimeout
  split
  · exact (ResKeeps.next (SameBut.ite (State.setSeam_keeps _ (Part.sub (by decide) hL0) (State.stopTimer_keeps _ (Part.sub (by decide) hL0) (State.abortSlot_keeps _ _ (Part.sub (by decide) hL0) h0))) h0))
  · exact (ResKeeps.next h0)

theorem execCmtOpen_keeps (r : Req) (tag : BitVec 8) (s : State) :
    ResKeeps [.regs, .seam, .cmt, .evt, .tsk, .hif, .resp, .out] s (execCmtOpen r tag s) := by
  have hL0 := List.Subset.refl ([.regs, .seam, .cmt, .evt, .tsk, .hif, .resp, .out] : List Part)
  have h0 := SameBut.refl [.regs, .seam, .cmt, .evt, .tsk, .hif, .resp, .out] s
  unfold execCmtOpen
  exact (ResKeeps.next (State.access_keeps _ _ _ _ (Part.sub (by decide) hL0) (fun _ h1 => (State.opCmtOpen_keeps _ _ (Part.sub (by decide) hL0) h1)) h0))

theorem execCmtCommit_keeps (r : Req) (tag : BitVec 8) (s : State) :
    ResKeeps [.regs, .seam, .cmt, .tribs, .pipes, .epochs, .shapers, .policers, .evt, .tsk, .hif, .timers, .resp, .out] s (execCmtCommit r tag s) := by
  have hL0 := List.Subset.refl ([.regs, .seam, .cmt, .tribs, .pipes, .epochs, .shapers, .policers, .evt, .tsk, .hif, .timers, .resp, .out] : List Part)
  have h0 := SameBut.refl [.regs, .seam, .cmt, .tribs, .pipes, .epochs, .shapers, .policers, .evt, .tsk, .hif, .timers, .resp, .out] s
  unfold execCmtCommit
  exact (ResKeeps.next (State.access_keeps _ _ _ _ (Part.sub (by decide) hL0) (fun _ h1 => (State.opCmtCommit_keeps _ _ (Part.sub (by decide) hL0) h1)) h0))

theorem execCmtDiscard_keeps (r : Req) (tag : BitVec 8) (s : State) :
    ResKeeps [.regs, .seam, .cmt, .evt, .tsk, .hif, .resp, .out] s (execCmtDiscard r tag s) := by
  have hL0 := List.Subset.refl ([.regs, .seam, .cmt, .evt, .tsk, .hif, .resp, .out] : List Part)
  have h0 := SameBut.refl [.regs, .seam, .cmt, .evt, .tsk, .hif, .resp, .out] s
  unfold execCmtDiscard
  exact (ResKeeps.next (State.access_keeps _ _ _ _ (Part.sub (by decide) hL0) (fun _ h1 => (State.opCmtDiscard_keeps _ _ (Part.sub (by decide) hL0) h1)) h0))

theorem execCmtAck_keeps (r : Req) (tag : BitVec 8) (s : State) :
    ResKeeps [.regs, .seam, .cmt, .evt, .tsk, .hif, .resp, .out] s (execCmtAck r tag s) := by
  have hL0 := List.Subset.refl ([.regs, .seam, .cmt, .evt, .tsk, .hif, .resp, .out] : List Part)
  have h0 := SameBut.refl [.regs, .seam, .cmt, .evt, .tsk, .hif, .resp, .out] s
  unfold execCmtAck
  exact (ResKeeps.next (State.access_keeps _ _ _ _ (Part.sub (by decide) hL0) (fun _ h1 => (State.opCmtAck_keeps _ _ (Part.sub (by decide) hL0) h1)) h0))

end Sys2Proof.Machine
end

