-- ==== Sys2Proof/Laws/State.lean ====
section
/-! SUPPORT. One lemma for each part that an operation leaves as it was, so that no proof unfolds an update of `State`. -/

namespace Sys2Proof.Machine

open Sys2Proof

set_option linter.unusedVariables false

/-! `State.wr` -/

@[simp] theorem State.wr_shown (s : State) (k : Nat) (w : Word) : (s.wr k w).shown = s.shown := (rfl)
@[simp] theorem State.wr_mirror (s : State) (k : Nat) (w : Word) : (s.wr k w).mirror = s.mirror := (rfl)
@[simp] theorem State.wr_mem (s : State) (k : Nat) (w : Word) : (s.wr k w).mem = s.mem := (rfl)
@[simp] theorem State.wr_seam (s : State) (k : Nat) (w : Word) : (s.wr k w).seam = s.seam := (rfl)
@[simp] theorem State.wr_cmt (s : State) (k : Nat) (w : Word) : (s.wr k w).cmt = s.cmt := (rfl)
@[simp] theorem State.wr_own (s : State) (k : Nat) (w : Word) : (s.wr k w).own = s.own := (rfl)
@[simp] theorem State.wr_nextPkt (s : State) (k : Nat) (w : Word) : (s.wr k w).nextPkt = s.nextPkt := (rfl)
@[simp] theorem State.wr_rx (s : State) (k : Nat) (w : Word) : (s.wr k w).rx = s.rx := (rfl)
@[simp] theorem State.wr_dsf (s : State) (k : Nat) (w : Word) : (s.wr k w).dsf = s.dsf := (rfl)
@[simp] theorem State.wr_tmap (s : State) (k : Nat) (w : Word) : (s.wr k w).tmap = s.tmap := (rfl)
@[simp] theorem State.wr_tribs (s : State) (k : Nat) (w : Word) : (s.wr k w).tribs = s.tribs := (rfl)
@[simp] theorem State.wr_tfrags (s : State) (k : Nat) (w : Word) : (s.wr k w).tfrags = s.tfrags := (rfl)
@[simp] theorem State.wr_rows (s : State) (k : Nat) (w : Word) : (s.wr k w).rows = s.rows := (rfl)
@[simp] theorem State.wr_ttest (s : State) (k : Nat) (w : Word) : (s.wr k w).ttest = s.ttest := (rfl)
@[simp] theorem State.wr_act (s : State) (k : Nat) (w : Word) : (s.wr k w).act = s.act := (rfl)
@[simp] theorem State.wr_upb (s : State) (k : Nat) (w : Word) : (s.wr k w).upb = s.upb := (rfl)
@[simp] theorem State.wr_restarts (s : State) (k : Nat) (w : Word) : (s.wr k w).restarts = s.restarts := (rfl)
@[simp] theorem State.wr_gsm (s : State) (k : Nat) (w : Word) : (s.wr k w).gsm = s.gsm := (rfl)
@[simp] theorem State.wr_txEff (s : State) (k : Nat) (w : Word) : (s.wr k w).txEff = s.txEff := (rfl)
@[simp] theorem State.wr_pairs (s : State) (k : Nat) (w : Word) : (s.wr k w).pairs = s.pairs := (rfl)
@[simp] theorem State.wr_key (s : State) (k : Nat) (w : Word) : (s.wr k w).key = s.key := (rfl)
@[simp] theorem State.wr_pipes (s : State) (k : Nat) (w : Word) : (s.wr k w).pipes = s.pipes := (rfl)
@[simp] theorem State.wr_epochs (s : State) (k : Nat) (w : Word) : (s.wr k w).epochs = s.epochs := (rfl)
@[simp] theorem State.wr_prog (s : State) (k : Nat) (w : Word) : (s.wr k w).prog = s.prog := (rfl)
@[simp] theorem State.wr_rcnt (s : State) (k : Nat) (w : Word) : (s.wr k w).rcnt = s.rcnt := (rfl)
@[simp] theorem State.wr_rcntHeld (s : State) (k : Nat) (w : Word) : (s.wr k w).rcntHeld = s.rcntHeld := (rfl)
@[simp] theorem State.wr_excWait (s : State) (k : Nat) (w : Word) : (s.wr k w).excWait = s.excWait := (rfl)
@[simp] theorem State.wr_bufs (s : State) (k : Nat) (w : Word) : (s.wr k w).bufs = s.bufs := (rfl)
@[simp] theorem State.wr_bufRot (s : State) (k : Nat) (w : Word) : (s.wr k w).bufRot = s.bufRot := (rfl)
@[simp] theorem State.wr_qmap (s : State) (k : Nat) (w : Word) : (s.wr k w).qmap = s.qmap := (rfl)
@[simp] theorem State.wr_memch (s : State) (k : Nat) (w : Word) : (s.wr k w).memch = s.memch := (rfl)
@[simp] theorem State.wr_ecc (s : State) (k : Nat) (w : Word) : (s.wr k w).ecc = s.ecc := (rfl)
@[simp] theorem State.wr_mxe (s : State) (k : Nat) (w : Word) : (s.wr k w).mxe = s.mxe := (rfl)
@[simp] theorem State.wr_queues (s : State) (k : Nat) (w : Word) : (s.wr k w).queues = s.queues := (rfl)
@[simp] theorem State.wr_turns (s : State) (k : Nat) (w : Word) : (s.wr k w).turns = s.turns := (rfl)
@[simp] theorem State.wr_elig (s : State) (k : Nat) (w : Word) : (s.wr k w).elig = s.elig := (rfl)
@[simp] theorem State.wr_shapers (s : State) (k : Nat) (w : Word) : (s.wr k w).shapers = s.shapers := (rfl)
@[simp] theorem State.wr_policers (s : State) (k : Nat) (w : Word) : (s.wr k w).policers = s.policers := (rfl)
@[simp] theorem State.wr_gates (s : State) (k : Nat) (w : Word) : (s.wr k w).gates = s.gates := (rfl)
@[simp] theorem State.wr_gateBusy (s : State) (k : Nat) (w : Word) : (s.wr k w).gateBusy = s.gateBusy := (rfl)
@[simp] theorem State.wr_lanes (s : State) (k : Nat) (w : Word) : (s.wr k w).lanes = s.lanes := (rfl)
@[simp] theorem State.wr_lports (s : State) (k : Nat) (w : Word) : (s.wr k w).lports = s.lports := (rfl)
@[simp] theorem State.wr_mdio (s : State) (k : Nat) (w : Word) : (s.wr k w).mdio = s.mdio := (rfl)
@[simp] theorem State.wr_tim (s : State) (k : Nat) (w : Word) : (s.wr k w).tim = s.tim := (rfl)
@[simp] theorem State.wr_evt (s : State) (k : Nat) (w : Word) : (s.wr k w).evt = s.evt := (rfl)
@[simp] theorem State.wr_log (s : State) (k : Nat) (w : Word) : (s.wr k w).log = s.log := (rfl)
@[simp] theorem State.wr_tsk (s : State) (k : Nat) (w : Word) : (s.wr k w).tsk = s.tsk := (rfl)
@[simp] theorem State.wr_cpu (s : State) (k : Nat) (w : Word) : (s.wr k w).cpu = s.cpu := (rfl)
@[simp] theorem State.wr_pwr (s : State) (k : Nat) (w : Word) : (s.wr k w).pwr = s.pwr := (rfl)
@[simp] theorem State.wr_rst (s : State) (k : Nat) (w : Word) : (s.wr k w).rst = s.rst := (rfl)
@[simp] theorem State.wr_sys (s : State) (k : Nat) (w : Word) : (s.wr k w).sys = s.sys := (rfl)
@[simp] theorem State.wr_hif (s : State) (k : Nat) (w : Word) : (s.wr k w).hif = s.hif := (rfl)
@[simp] theorem State.wr_pins (s : State) (k : Nat) (w : Word) : (s.wr k w).pins = s.pins := (rfl)
@[simp] theorem State.wr_clock (s : State) (k : Nat) (w : Word) : (s.wr k w).clock = s.clock := (rfl)
@[simp] theorem State.wr_timers (s : State) (k : Nat) (w : Word) : (s.wr k w).timers = s.timers := (rfl)
@[simp] theorem State.wr_pending (s : State) (k : Nat) (w : Word) : (s.wr k w).pending = s.pending := (rfl)
@[simp] theorem State.wr_dark (s : State) (k : Nat) (w : Word) : (s.wr k w).dark = s.dark := (rfl)
@[simp] theorem State.wr_resp (s : State) (k : Nat) (w : Word) : (s.wr k w).resp = s.resp := (rfl)
@[simp] theorem State.wr_out (s : State) (k : Nat) (w : Word) : (s.wr k w).out = s.out := (rfl)
@[simp] theorem State.wr_fresh (s : State) (k : Nat) (w : Word) : (s.wr k w).fresh = s.fresh := (rfl)
@[simp] theorem State.wr_running (s : State) (k_ : Nat) (w : Word) (g_ : Nat) : (s.wr k_ w).running g_ = s.running g_ := State.running_of_timers (State.wr_timers s k_ w) g_
@[simp] theorem State.wr_domOn (s : State) (k_ : Nat) (w : Word) (g_ : Nat) : (s.wr k_ w).domOn g_ = s.domOn g_ := State.domOn_of_pwr (State.wr_pwr s k_ w) g_

/-! `State.setFld` -/

@[simp] theorem State.setFld_shown (s : State) (f : Fld) (v : Nat) : (s.setFld f v).shown = s.shown := (rfl)
@[simp] theorem State.setFld_mirror (s : State) (f : Fld) (v : Nat) : (s.setFld f v).mirror = s.mirror := (rfl)
@[simp] theorem State.setFld_mem (s : State) (f : Fld) (v : Nat) : (s.setFld f v).mem = s.mem := (rfl)
@[simp] theorem State.setFld_seam (s : State) (f : Fld) (v : Nat) : (s.setFld f v).seam = s.seam := (rfl)
@[simp] theorem State.setFld_cmt (s : State) (f : Fld) (v : Nat) : (s.setFld f v).cmt = s.cmt := (rfl)
@[simp] theorem State.setFld_own (s : State) (f : Fld) (v : Nat) : (s.setFld f v).own = s.own := (rfl)
@[simp] theorem State.setFld_nextPkt (s : State) (f : Fld) (v : Nat) : (s.setFld f v).nextPkt = s.nextPkt := (rfl)
@[simp] theorem State.setFld_rx (s : State) (f : Fld) (v : Nat) : (s.setFld f v).rx = s.rx := (rfl)
@[simp] theorem State.setFld_dsf (s : State) (f : Fld) (v : Nat) : (s.setFld f v).dsf = s.dsf := (rfl)
@[simp] theorem State.setFld_tmap (s : State) (f : Fld) (v : Nat) : (s.setFld f v).tmap = s.tmap := (rfl)
@[simp] theorem State.setFld_tribs (s : State) (f : Fld) (v : Nat) : (s.setFld f v).tribs = s.tribs := (rfl)
@[simp] theorem State.setFld_tfrags (s : State) (f : Fld) (v : Nat) : (s.setFld f v).tfrags = s.tfrags := (rfl)
@[simp] theorem State.setFld_rows (s : State) (f : Fld) (v : Nat) : (s.setFld f v).rows = s.rows := (rfl)
@[simp] theorem State.setFld_ttest (s : State) (f : Fld) (v : Nat) : (s.setFld f v).ttest = s.ttest := (rfl)
@[simp] theorem State.setFld_act (s : State) (f : Fld) (v : Nat) : (s.setFld f v).act = s.act := (rfl)
@[simp] theorem State.setFld_upb (s : State) (f : Fld) (v : Nat) : (s.setFld f v).upb = s.upb := (rfl)
@[simp] theorem State.setFld_restarts (s : State) (f : Fld) (v : Nat) : (s.setFld f v).restarts = s.restarts := (rfl)
@[simp] theorem State.setFld_gsm (s : State) (f : Fld) (v : Nat) : (s.setFld f v).gsm = s.gsm := (rfl)
@[simp] theorem State.setFld_txEff (s : State) (f : Fld) (v : Nat) : (s.setFld f v).txEff = s.txEff := (rfl)
@[simp] theorem State.setFld_pairs (s : State) (f : Fld) (v : Nat) : (s.setFld f v).pairs = s.pairs := (rfl)
@[simp] theorem State.setFld_key (s : State) (f : Fld) (v : Nat) : (s.setFld f v).key = s.key := (rfl)
@[simp] theorem State.setFld_pipes (s : State) (f : Fld) (v : Nat) : (s.setFld f v).pipes = s.pipes := (rfl)
@[simp] theorem State.setFld_epochs (s : State) (f : Fld) (v : Nat) : (s.setFld f v).epochs = s.epochs := (rfl)
@[simp] theorem State.setFld_prog (s : State) (f : Fld) (v : Nat) : (s.setFld f v).prog = s.prog := (rfl)
@[simp] theorem State.setFld_rcnt (s : State) (f : Fld) (v : Nat) : (s.setFld f v).rcnt = s.rcnt := (rfl)
@[simp] theorem State.setFld_rcntHeld (s : State) (f : Fld) (v : Nat) : (s.setFld f v).rcntHeld = s.rcntHeld := (rfl)
@[simp] theorem State.setFld_excWait (s : State) (f : Fld) (v : Nat) : (s.setFld f v).excWait = s.excWait := (rfl)
@[simp] theorem State.setFld_bufs (s : State) (f : Fld) (v : Nat) : (s.setFld f v).bufs = s.bufs := (rfl)
@[simp] theorem State.setFld_bufRot (s : State) (f : Fld) (v : Nat) : (s.setFld f v).bufRot = s.bufRot := (rfl)
@[simp] theorem State.setFld_qmap (s : State) (f : Fld) (v : Nat) : (s.setFld f v).qmap = s.qmap := (rfl)
@[simp] theorem State.setFld_memch (s : State) (f : Fld) (v : Nat) : (s.setFld f v).memch = s.memch := (rfl)
@[simp] theorem State.setFld_ecc (s : State) (f : Fld) (v : Nat) : (s.setFld f v).ecc = s.ecc := (rfl)
@[simp] theorem State.setFld_mxe (s : State) (f : Fld) (v : Nat) : (s.setFld f v).mxe = s.mxe := (rfl)
@[simp] theorem State.setFld_queues (s : State) (f : Fld) (v : Nat) : (s.setFld f v).queues = s.queues := (rfl)
@[simp] theorem State.setFld_turns (s : State) (f : Fld) (v : Nat) : (s.setFld f v).turns = s.turns := (rfl)
@[simp] theorem State.setFld_elig (s : State) (f : Fld) (v : Nat) : (s.setFld f v).elig = s.elig := (rfl)
@[simp] theorem State.setFld_shapers (s : State) (f : Fld) (v : Nat) : (s.setFld f v).shapers = s.shapers := (rfl)
@[simp] theorem State.setFld_policers (s : State) (f : Fld) (v : Nat) : (s.setFld f v).policers = s.policers := (rfl)
@[simp] theorem State.setFld_gates (s : State) (f : Fld) (v : Nat) : (s.setFld f v).gates = s.gates := (rfl)
@[simp] theorem State.setFld_gateBusy (s : State) (f : Fld) (v : Nat) : (s.setFld f v).gateBusy = s.gateBusy := (rfl)
@[simp] theorem State.setFld_lanes (s : State) (f : Fld) (v : Nat) : (s.setFld f v).lanes = s.lanes := (rfl)
@[simp] theorem State.setFld_lports (s : State) (f : Fld) (v : Nat) : (s.setFld f v).lports = s.lports := (rfl)
@[simp] theorem State.setFld_mdio (s : State) (f : Fld) (v : Nat) : (s.setFld f v).mdio = s.mdio := (rfl)
@[simp] theorem State.setFld_tim (s : State) (f : Fld) (v : Nat) : (s.setFld f v).tim = s.tim := (rfl)
@[simp] theorem State.setFld_evt (s : State) (f : Fld) (v : Nat) : (s.setFld f v).evt = s.evt := (rfl)
@[simp] theorem State.setFld_log (s : State) (f : Fld) (v : Nat) : (s.setFld f v).log = s.log := (rfl)
@[simp] theorem State.setFld_tsk (s : State) (f : Fld) (v : Nat) : (s.setFld f v).tsk = s.tsk := (rfl)
@[simp] theorem State.setFld_cpu (s : State) (f : Fld) (v : Nat) : (s.setFld f v).cpu = s.cpu := (rfl)
@[simp] theorem State.setFld_pwr (s : State) (f : Fld) (v : Nat) : (s.setFld f v).pwr = s.pwr := (rfl)
@[simp] theorem State.setFld_rst (s : State) (f : Fld) (v : Nat) : (s.setFld f v).rst = s.rst := (rfl)
@[simp] theorem State.setFld_sys (s : State) (f : Fld) (v : Nat) : (s.setFld f v).sys = s.sys := (rfl)
@[simp] theorem State.setFld_hif (s : State) (f : Fld) (v : Nat) : (s.setFld f v).hif = s.hif := (rfl)
@[simp] theorem State.setFld_pins (s : State) (f : Fld) (v : Nat) : (s.setFld f v).pins = s.pins := (rfl)
@[simp] theorem State.setFld_clock (s : State) (f : Fld) (v : Nat) : (s.setFld f v).clock = s.clock := (rfl)
@[simp] theorem State.setFld_timers (s : State) (f : Fld) (v : Nat) : (s.setFld f v).timers = s.timers := (rfl)
@[simp] theorem State.setFld_pending (s : State) (f : Fld) (v : Nat) : (s.setFld f v).pending = s.pending := (rfl)
@[simp] theorem State.setFld_dark (s : State) (f : Fld) (v : Nat) : (s.setFld f v).dark = s.dark := (rfl)
@[simp] theorem State.setFld_resp (s : State) (f : Fld) (v : Nat) : (s.setFld f v).resp = s.resp := (rfl)
@[simp] theorem State.setFld_out (s : State) (f : Fld) (v : Nat) : (s.setFld f v).out = s.out := (rfl)
@[simp] theorem State.setFld_fresh (s : State) (f : Fld) (v : Nat) : (s.setFld f v).fresh = s.fresh := (rfl)
@[simp] theorem State.setFld_running (s : State) (f : Fld) (v : Nat) (g_ : Nat) : (s.setFld f v).running g_ = s.running g_ := State.running_of_timers (State.setFld_timers s f v) g_
@[simp] theorem State.setFld_domOn (s : State) (f : Fld) (v : Nat) (g_ : Nat) : (s.setFld f v).domOn g_ = s.domOn g_ := State.domOn_of_pwr (State.setFld_pwr s f v) g_

/-! `State.bump` -/

@[simp] theorem State.bump_shown (s : State) (k : Nat) : (s.bump k).shown = s.shown := (rfl)
@[simp] theorem State.bump_mirror (s : State) (k : Nat) : (s.bump k).mirror = s.mirror := (rfl)
@[simp] theorem State.bump_mem (s : State) (k : Nat) : (s.bump k).mem = s.mem := (rfl)
@[simp] theorem State.bump_seam (s : State) (k : Nat) : (s.bump k).seam = s.seam := (rfl)
@[simp] theorem State.bump_cmt (s : State) (k : Nat) : (s.bump k).cmt = s.cmt := (rfl)
@[simp] theorem State.bump_own (s : State) (k : Nat) : (s.bump k).own = s.own := (rfl)
@[simp] theorem State.bump_nextPkt (s : State) (k : Nat) : (s.bump k).nextPkt = s.nextPkt := (rfl)
@[simp] theorem State.bump_rx (s : State) (k : Nat) : (s.bump k).rx = s.rx := (rfl)
@[simp] theorem State.bump_dsf (s : State) (k : Nat) : (s.bump k).dsf = s.dsf := (rfl)
@[simp] theorem State.bump_tmap (s : State) (k : Nat) : (s.bump k).tmap = s.tmap := (rfl)
@[simp] theorem State.bump_tribs (s : State) (k : Nat) : (s.bump k).tribs = s.tribs := (rfl)
@[simp] theorem State.bump_tfrags (s : State) (k : Nat) : (s.bump k).tfrags = s.tfrags := (rfl)
@[simp] theorem State.bump_rows (s : State) (k : Nat) : (s.bump k).rows = s.rows := (rfl)
@[simp] theorem State.bump_ttest (s : State) (k : Nat) : (s.bump k).ttest = s.ttest := (rfl)
@[simp] theorem State.bump_act (s : State) (k : Nat) : (s.bump k).act = s.act := (rfl)
@[simp] theorem State.bump_upb (s : State) (k : Nat) : (s.bump k).upb = s.upb := (rfl)
@[simp] theorem State.bump_restarts (s : State) (k : Nat) : (s.bump k).restarts = s.restarts := (rfl)
@[simp] theorem State.bump_gsm (s : State) (k : Nat) : (s.bump k).gsm = s.gsm := (rfl)
@[simp] theorem State.bump_txEff (s : State) (k : Nat) : (s.bump k).txEff = s.txEff := (rfl)
@[simp] theorem State.bump_pairs (s : State) (k : Nat) : (s.bump k).pairs = s.pairs := (rfl)
@[simp] theorem State.bump_key (s : State) (k : Nat) : (s.bump k).key = s.key := (rfl)
@[simp] theorem State.bump_pipes (s : State) (k : Nat) : (s.bump k).pipes = s.pipes := (rfl)
@[simp] theorem State.bump_epochs (s : State) (k : Nat) : (s.bump k).epochs = s.epochs := (rfl)
@[simp] theorem State.bump_prog (s : State) (k : Nat) : (s.bump k).prog = s.prog := (rfl)
@[simp] theorem State.bump_rcnt (s : State) (k : Nat) : (s.bump k).rcnt = s.rcnt := (rfl)
@[simp] theorem State.bump_rcntHeld (s : State) (k : Nat) : (s.bump k).rcntHeld = s.rcntHeld := (rfl)
@[simp] theorem State.bump_excWait (s : State) (k : Nat) : (s.bump k).excWait = s.excWait := (rfl)
@[simp] theorem State.bump_bufs (s : State) (k : Nat) : (s.bump k).bufs = s.bufs := (rfl)
@[simp] theorem State.bump_bufRot (s : State) (k : Nat) : (s.bump k).bufRot = s.bufRot := (rfl)
@[simp] theorem State.bump_qmap (s : State) (k : Nat) : (s.bump k).qmap = s.qmap := (rfl)
@[simp] theorem State.bump_memch (s : State) (k : Nat) : (s.bump k).memch = s.memch := (rfl)
@[simp] theorem State.bump_ecc (s : State) (k : Nat) : (s.bump k).ecc = s.ecc := (rfl)
@[simp] theorem State.bump_mxe (s : State) (k : Nat) : (s.bump k).mxe = s.mxe := (rfl)
@[simp] theorem State.bump_queues (s : State) (k : Nat) : (s.bump k).queues = s.queues := (rfl)
@[simp] theorem State.bump_turns (s : State) (k : Nat) : (s.bump k).turns = s.turns := (rfl)
@[simp] theorem State.bump_elig (s : State) (k : Nat) : (s.bump k).elig = s.elig := (rfl)
@[simp] theorem State.bump_shapers (s : State) (k : Nat) : (s.bump k).shapers = s.shapers := (rfl)
@[simp] theorem State.bump_policers (s : State) (k : Nat) : (s.bump k).policers = s.policers := (rfl)
@[simp] theorem State.bump_gates (s : State) (k : Nat) : (s.bump k).gates = s.gates := (rfl)
@[simp] theorem State.bump_gateBusy (s : State) (k : Nat) : (s.bump k).gateBusy = s.gateBusy := (rfl)
@[simp] theorem State.bump_lanes (s : State) (k : Nat) : (s.bump k).lanes = s.lanes := (rfl)
@[simp] theorem State.bump_lports (s : State) (k : Nat) : (s.bump k).lports = s.lports := (rfl)
@[simp] theorem State.bump_mdio (s : State) (k : Nat) : (s.bump k).mdio = s.mdio := (rfl)
@[simp] theorem State.bump_tim (s : State) (k : Nat) : (s.bump k).tim = s.tim := (rfl)
@[simp] theorem State.bump_evt (s : State) (k : Nat) : (s.bump k).evt = s.evt := (rfl)
@[simp] theorem State.bump_log (s : State) (k : Nat) : (s.bump k).log = s.log := (rfl)
@[simp] theorem State.bump_tsk (s : State) (k : Nat) : (s.bump k).tsk = s.tsk := (rfl)
@[simp] theorem State.bump_cpu (s : State) (k : Nat) : (s.bump k).cpu = s.cpu := (rfl)
@[simp] theorem State.bump_pwr (s : State) (k : Nat) : (s.bump k).pwr = s.pwr := (rfl)
@[simp] theorem State.bump_rst (s : State) (k : Nat) : (s.bump k).rst = s.rst := (rfl)
@[simp] theorem State.bump_sys (s : State) (k : Nat) : (s.bump k).sys = s.sys := (rfl)
@[simp] theorem State.bump_hif (s : State) (k : Nat) : (s.bump k).hif = s.hif := (rfl)
@[simp] theorem State.bump_pins (s : State) (k : Nat) : (s.bump k).pins = s.pins := (rfl)
@[simp] theorem State.bump_clock (s : State) (k : Nat) : (s.bump k).clock = s.clock := (rfl)
@[simp] theorem State.bump_timers (s : State) (k : Nat) : (s.bump k).timers = s.timers := (rfl)
@[simp] theorem State.bump_pending (s : State) (k : Nat) : (s.bump k).pending = s.pending := (rfl)
@[simp] theorem State.bump_dark (s : State) (k : Nat) : (s.bump k).dark = s.dark := (rfl)
@[simp] theorem State.bump_resp (s : State) (k : Nat) : (s.bump k).resp = s.resp := (rfl)
@[simp] theorem State.bump_out (s : State) (k : Nat) : (s.bump k).out = s.out := (rfl)
@[simp] theorem State.bump_fresh (s : State) (k : Nat) : (s.bump k).fresh = s.fresh := (rfl)
@[simp] theorem State.bump_running (s : State) (k_ : Nat) (g_ : Nat) : (s.bump k_).running g_ = s.running g_ := State.running_of_timers (State.bump_timers s k_) g_
@[simp] theorem State.bump_domOn (s : State) (k_ : Nat) (g_ : Nat) : (s.bump k_).domOn g_ = s.domOn g_ := State.domOn_of_pwr (State.bump_pwr s k_) g_

/-! `State.bumpBy` -/

@[simp] theorem State.bumpBy_shown (s : State) (k : Nat) (n : Nat) : (s.bumpBy k n).shown = s.shown := State.bumpBy_keeps k n (List.Subset.refl _) (SameBut.refl _ s) .shown (by decide)
@[simp] theorem State.bumpBy_mirror (s : State) (k : Nat) (n : Nat) : (s.bumpBy k n).mirror = s.mirror := State.bumpBy_keeps k n (List.Subset.refl _) (SameBut.refl _ s) .mirror (by decide)
@[simp] theorem State.bumpBy_mem (s : State) (k : Nat) (n : Nat) : (s.bumpBy k n).mem = s.mem := State.bumpBy_keeps k n (List.Subset.refl _) (SameBut.refl _ s) .mem (by decide)
@[simp] theorem State.bumpBy_seam (s : State) (k : Nat) (n : Nat) : (s.bumpBy k n).seam = s.seam := State.bumpBy_keeps k n (List.Subset.refl _) (SameBut.refl _ s) .seam (by decide)
@[simp] theorem State.bumpBy_cmt (s : State) (k : Nat) (n : Nat) : (s.bumpBy k n).cmt = s.cmt := State.bumpBy_keeps k n (List.Subset.refl _) (SameBut.refl _ s) .cmt (by decide)
@[simp] theorem State.bumpBy_own (s : State) (k : Nat) (n : Nat) : (s.bumpBy k n).own = s.own := State.bumpBy_keeps k n (List.Subset.refl _) (SameBut.refl _ s) .own (by decide)
@[simp] theorem State.bumpBy_nextPkt (s : State) (k : Nat) (n : Nat) : (s.bumpBy k n).nextPkt = s.nextPkt := State.bumpBy_keeps k n (List.Subset.refl _) (SameBut.refl _ s) .nextPkt (by decide)
@[simp] theorem State.bumpBy_rx (s : State) (k : Nat) (n : Nat) : (s.bumpBy k n).rx = s.rx := State.bumpBy_keeps k n (List.Subset.refl _) (SameBut.refl _ s) .rx (by decide)
@[simp] theorem State.bumpBy_dsf (s : State) (k : Nat) (n : Nat) : (s.bumpBy k n).dsf = s.dsf := State.bumpBy_keeps k n (List.Subset.refl _) (SameBut.refl _ s) .dsf (by decide)
@[simp] theorem State.bumpBy_tmap (s : State) (k : Nat) (n : Nat) : (s.bumpBy k n).tmap = s.tmap := State.bumpBy_keeps k n (List.Subset.refl _) (SameBut.refl _ s) .tmap (by decide)
@[simp] theorem State.bumpBy_tribs (s : State) (k : Nat) (n : Nat) : (s.bumpBy k n).tribs = s.tribs := State.bumpBy_keeps k n (List.Subset.refl _) (SameBut.refl _ s) .tribs (by decide)
@[simp] theorem State.bumpBy_tfrags (s : State) (k : Nat) (n : Nat) : (s.bumpBy k n).tfrags = s.tfrags := State.bumpBy_keeps k n (List.Subset.refl _) (SameBut.refl _ s) .tfrags (by decide)
@[simp] theorem State.bumpBy_rows (s : State) (k : Nat) (n : Nat) : (s.bumpBy k n).rows = s.rows := State.bumpBy_keeps k n (List.Subset.refl _) (SameBut.refl _ s) .rows (by decide)
@[simp] theorem State.bumpBy_ttest (s : State) (k : Nat) (n : Nat) : (s.bumpBy k n).ttest = s.ttest := State.bumpBy_keeps k n (List.Subset.refl _) (SameBut.refl _ s) .ttest (by decide)
@[simp] theorem State.bumpBy_act (s : State) (k : Nat) (n : Nat) : (s.bumpBy k n).act = s.act := State.bumpBy_keeps k n (List.Subset.refl _) (SameBut.refl _ s) .act (by decide)
@[simp] theorem State.bumpBy_upb (s : State) (k : Nat) (n : Nat) : (s.bumpBy k n).upb = s.upb := State.bumpBy_keeps k n (List.Subset.refl _) (SameBut.refl _ s) .upb (by decide)
@[simp] theorem State.bumpBy_restarts (s : State) (k : Nat) (n : Nat) : (s.bumpBy k n).restarts = s.restarts := State.bumpBy_keeps k n (List.Subset.refl _) (SameBut.refl _ s) .restarts (by decide)
@[simp] theorem State.bumpBy_gsm (s : State) (k : Nat) (n : Nat) : (s.bumpBy k n).gsm = s.gsm := State.bumpBy_keeps k n (List.Subset.refl _) (SameBut.refl _ s) .gsm (by decide)
@[simp] theorem State.bumpBy_txEff (s : State) (k : Nat) (n : Nat) : (s.bumpBy k n).txEff = s.txEff := State.bumpBy_keeps k n (List.Subset.refl _) (SameBut.refl _ s) .txEff (by decide)
@[simp] theorem State.bumpBy_pairs (s : State) (k : Nat) (n : Nat) : (s.bumpBy k n).pairs = s.pairs := State.bumpBy_keeps k n (List.Subset.refl _) (SameBut.refl _ s) .pairs (by decide)
@[simp] theorem State.bumpBy_key (s : State) (k : Nat) (n : Nat) : (s.bumpBy k n).key = s.key := State.bumpBy_keeps k n (List.Subset.refl _) (SameBut.refl _ s) .key (by decide)
@[simp] theorem State.bumpBy_pipes (s : State) (k : Nat) (n : Nat) : (s.bumpBy k n).pipes = s.pipes := State.bumpBy_keeps k n (List.Subset.refl _) (SameBut.refl _ s) .pipes (by decide)
@[simp] theorem State.bumpBy_epochs (s : State) (k : Nat) (n : Nat) : (s.bumpBy k n).epochs = s.epochs := State.bumpBy_keeps k n (List.Subset.refl _) (SameBut.refl _ s) .epochs (by decide)
@[simp] theorem State.bumpBy_prog (s : State) (k : Nat) (n : Nat) : (s.bumpBy k n).prog = s.prog := State.bumpBy_keeps k n (List.Subset.refl _) (SameBut.refl _ s) .prog (by decide)
@[simp] theorem State.bumpBy_rcnt (s : State) (k : Nat) (n : Nat) : (s.bumpBy k n).rcnt = s.rcnt := State.bumpBy_keeps k n (List.Subset.refl _) (SameBut.refl _ s) .rcnt (by decide)
@[simp] theorem State.bumpBy_rcntHeld (s : State) (k : Nat) (n : Nat) : (s.bumpBy k n).rcntHeld = s.rcntHeld := State.bumpBy_keeps k n (List.Subset.refl _) (SameBut.refl _ s) .rcntHeld (by decide)
@[simp] theorem State.bumpBy_excWait (s : State) (k : Nat) (n : Nat) : (s.bumpBy k n).excWait = s.excWait := State.bumpBy_keeps k n (List.Subset.refl _) (SameBut.refl _ s) .excWait (by decide)
@[simp] theorem State.bumpBy_bufs (s : State) (k : Nat) (n : Nat) : (s.bumpBy k n).bufs = s.bufs := State.bumpBy_keeps k n (List.Subset.refl _) (SameBut.refl _ s) .bufs (by decide)
@[simp] theorem State.bumpBy_bufRot (s : State) (k : Nat) (n : Nat) : (s.bumpBy k n).bufRot = s.bufRot := State.bumpBy_keeps k n (List.Subset.refl _) (SameBut.refl _ s) .bufRot (by decide)
@[simp] theorem State.bumpBy_qmap (s : State) (k : Nat) (n : Nat) : (s.bumpBy k n).qmap = s.qmap := State.bumpBy_keeps k n (List.Subset.refl _) (SameBut.refl _ s) .qmap (by decide)
@[simp] theorem State.bumpBy_memch (s : State) (k : Nat) (n : Nat) : (s.bumpBy k n).memch = s.memch := State.bumpBy_keeps k n (List.Subset.refl _) (SameBut.refl _ s) .memch (by decide)
@[simp] theorem State.bumpBy_ecc (s : State) (k : Nat) (n : Nat) : (s.bumpBy k n).ecc = s.ecc := State.bumpBy_keeps k n (List.Subset.refl _) (SameBut.refl _ s) .ecc (by decide)
@[simp] theorem State.bumpBy_mxe (s : State) (k : Nat) (n : Nat) : (s.bumpBy k n).mxe = s.mxe := State.bumpBy_keeps k n (List.Subset.refl _) (SameBut.refl _ s) .mxe (by decide)
@[simp] theorem State.bumpBy_queues (s : State) (k : Nat) (n : Nat) : (s.bumpBy k n).queues = s.queues := State.bumpBy_keeps k n (List.Subset.refl _) (SameBut.refl _ s) .queues (by decide)
@[simp] theorem State.bumpBy_turns (s : State) (k : Nat) (n : Nat) : (s.bumpBy k n).turns = s.turns := State.bumpBy_keeps k n (List.Subset.refl _) (SameBut.refl _ s) .turns (by decide)
@[simp] theorem State.bumpBy_elig (s : State) (k : Nat) (n : Nat) : (s.bumpBy k n).elig = s.elig := State.bumpBy_keeps k n (List.Subset.refl _) (SameBut.refl _ s) .elig (by decide)
@[simp] theorem State.bumpBy_shapers (s : State) (k : Nat) (n : Nat) : (s.bumpBy k n).shapers = s.shapers := State.bumpBy_keeps k n (List.Subset.refl _) (SameBut.refl _ s) .shapers (by decide)
@[simp] theorem State.bumpBy_policers (s : State) (k : Nat) (n : Nat) : (s.bumpBy k n).policers = s.policers := State.bumpBy_keeps k n (List.Subset.refl _) (SameBut.refl _ s) .policers (by decide)
@[simp] theorem State.bumpBy_gates (s : State) (k : Nat) (n : Nat) : (s.bumpBy k n).gates = s.gates := State.bumpBy_keeps k n (List.Subset.refl _) (SameBut.refl _ s) .gates (by decide)
@[simp] theorem State.bumpBy_gateBusy (s : State) (k : Nat) (n : Nat) : (s.bumpBy k n).gateBusy = s.gateBusy := State.bumpBy_keeps k n (List.Subset.refl _) (SameBut.refl _ s) .gateBusy (by decide)
@[simp] theorem State.bumpBy_lanes (s : State) (k : Nat) (n : Nat) : (s.bumpBy k n).lanes = s.lanes := State.bumpBy_keeps k n (List.Subset.refl _) (SameBut.refl _ s) .lanes (by decide)
@[simp] theorem State.bumpBy_lports (s : State) (k : Nat) (n : Nat) : (s.bumpBy k n).lports = s.lports := State.bumpBy_keeps k n (List.Subset.refl _) (SameBut.refl _ s) .lports (by decide)
@[simp] theorem State.bumpBy_mdio (s : State) (k : Nat) (n : Nat) : (s.bumpBy k n).mdio = s.mdio := State.bumpBy_keeps k n (List.Subset.refl _) (SameBut.refl _ s) .mdio (by decide)
@[simp] theorem State.bumpBy_tim (s : State) (k : Nat) (n : Nat) : (s.bumpBy k n).tim = s.tim := State.bumpBy_keeps k n (List.Subset.refl _) (SameBut.refl _ s) .tim (by decide)
@[simp] theorem State.bumpBy_evt (s : State) (k : Nat) (n : Nat) : (s.bumpBy k n).evt = s.evt := State.bumpBy_keeps k n (List.Subset.refl _) (SameBut.refl _ s) .evt (by decide)
@[simp] theorem State.bumpBy_log (s : State) (k : Nat) (n : Nat) : (s.bumpBy k n).log = s.log := State.bumpBy_keeps k n (List.Subset.refl _) (SameBut.refl _ s) .log (by decide)
@[simp] theorem State.bumpBy_tsk (s : State) (k : Nat) (n : Nat) : (s.bumpBy k n).tsk = s.tsk := State.bumpBy_keeps k n (List.Subset.refl _) (SameBut.refl _ s) .tsk (by decide)
@[simp] theorem State.bumpBy_cpu (s : State) (k : Nat) (n : Nat) : (s.bumpBy k n).cpu = s.cpu := State.bumpBy_keeps k n (List.Subset.refl _) (SameBut.refl _ s) .cpu (by decide)
@[simp] theorem State.bumpBy_pwr (s : State) (k : Nat) (n : Nat) : (s.bumpBy k n).pwr = s.pwr := State.bumpBy_keeps k n (List.Subset.refl _) (SameBut.refl _ s) .pwr (by decide)
@[simp] theorem State.bumpBy_rst (s : State) (k : Nat) (n : Nat) : (s.bumpBy k n).rst = s.rst := State.bumpBy_keeps k n (List.Subset.refl _) (SameBut.refl _ s) .rst (by decide)
@[simp] theorem State.bumpBy_sys (s : State) (k : Nat) (n : Nat) : (s.bumpBy k n).sys = s.sys := State.bumpBy_keeps k n (List.Subset.refl _) (SameBut.refl _ s) .sys (by decide)
@[simp] theorem State.bumpBy_hif (s : State) (k : Nat) (n : Nat) : (s.bumpBy k n).hif = s.hif := State.bumpBy_keeps k n (List.Subset.refl _) (SameBut.refl _ s) .hif (by decide)
@[simp] theorem State.bumpBy_pins (s : State) (k : Nat) (n : Nat) : (s.bumpBy k n).pins = s.pins := State.bumpBy_keeps k n (List.Subset.refl _) (SameBut.refl _ s) .pins (by decide)
@[simp] theorem State.bumpBy_clock (s : State) (k : Nat) (n : Nat) : (s.bumpBy k n).clock = s.clock := State.bumpBy_keeps k n (List.Subset.refl _) (SameBut.refl _ s) .clock (by decide)
@[simp] theorem State.bumpBy_timers (s : State) (k : Nat) (n : Nat) : (s.bumpBy k n).timers = s.timers := State.bumpBy_keeps k n (List.Subset.refl _) (SameBut.refl _ s) .timers (by decide)
@[simp] theorem State.bumpBy_pending (s : State) (k : Nat) (n : Nat) : (s.bumpBy k n).pending = s.pending := State.bumpBy_keeps k n (List.Subset.refl _) (SameBut.refl _ s) .pending (by decide)
@[simp] theorem State.bumpBy_dark (s : State) (k : Nat) (n : Nat) : (s.bumpBy k n).dark = s.dark := State.bumpBy_keeps k n (List.Subset.refl _) (SameBut.refl _ s) .dark (by decide)
@[simp] theorem State.bumpBy_resp (s : State) (k : Nat) (n : Nat) : (s.bumpBy k n).resp = s.resp := State.bumpBy_keeps k n (List.Subset.refl _) (SameBut.refl _ s) .resp (by decide)
@[simp] theorem State.bumpBy_out (s : State) (k : Nat) (n : Nat) : (s.bumpBy k n).out = s.out := State.bumpBy_keeps k n (List.Subset.refl _) (SameBut.refl _ s) .out (by decide)
@[simp] theorem State.bumpBy_fresh (s : State) (k : Nat) (n : Nat) : (s.bumpBy k n).fresh = s.fresh := State.bumpBy_keeps k n (List.Subset.refl _) (SameBut.refl _ s) .fresh (by decide)
@[simp] theorem State.bumpBy_running (s : State) (k_ : Nat) (n : Nat) (g_ : Nat) : (s.bumpBy k_ n).running g_ = s.running g_ := State.running_of_timers (State.bumpBy_timers s k_ n) g_
@[simp] theorem State.bumpBy_domOn (s : State) (k_ : Nat) (n : Nat) (g_ : Nat) : (s.bumpBy k_ n).domOn g_ = s.domOn g_ := State.domOn_of_pwr (State.bumpBy_pwr s k_ n) g_

/-! `State.bump64` -/

@[simp] theorem State.bump64_shown (s : State) (lo : Nat) (hi : Nat) (n : Nat) : (s.bump64 lo hi n).shown = s.shown := State.bump64_keeps lo hi n (List.Subset.refl _) (SameBut.refl _ s) .shown (by decide)
@[simp] theorem State.bump64_mirror (s : State) (lo : Nat) (hi : Nat) (n : Nat) : (s.bump64 lo hi n).mirror = s.mirror := State.bump64_keeps lo hi n (List.Subset.refl _) (SameBut.refl _ s) .mirror (by decide)
@[simp] theorem State.bump64_mem (s : State) (lo : Nat) (hi : Nat) (n : Nat) : (s.bump64 lo hi n).mem = s.mem := State.bump64_keeps lo hi n (List.Subset.refl _) (SameBut.refl _ s) .mem (by decide)
@[simp] theorem State.bump64_seam (s : State) (lo : Nat) (hi : Nat) (n : Nat) : (s.bump64 lo hi n).seam = s.seam := State.bump64_keeps lo hi n (List.Subset.refl _) (SameBut.refl _ s) .seam (by decide)
@[simp] theorem State.bump64_cmt (s : State) (lo : Nat) (hi : Nat) (n : Nat) : (s.bump64 lo hi n).cmt = s.cmt := State.bump64_keeps lo hi n (List.Subset.refl _) (SameBut.refl _ s) .cmt (by decide)
@[simp] theorem State.bump64_own (s : State) (lo : Nat) (hi : Nat) (n : Nat) : (s.bump64 lo hi n).own = s.own := State.bump64_keeps lo hi n (List.Subset.refl _) (SameBut.refl _ s) .own (by decide)
@[simp] theorem State.bump64_nextPkt (s : State) (lo : Nat) (hi : Nat) (n : Nat) : (s.bump64 lo hi n).nextPkt = s.nextPkt := State.bump64_keeps lo hi n (List.Subset.refl _) (SameBut.refl _ s) .nextPkt (by decide)
@[simp] theorem State.bump64_rx (s : State) (lo : Nat) (hi : Nat) (n : Nat) : (s.bump64 lo hi n).rx = s.rx := State.bump64_keeps lo hi n (List.Subset.refl _) (SameBut.refl _ s) .rx (by decide)
@[simp] theorem State.bump64_dsf (s : State) (lo : Nat) (hi : Nat) (n : Nat) : (s.bump64 lo hi n).dsf = s.dsf := State.bump64_keeps lo hi n (List.Subset.refl _) (SameBut.refl _ s) .dsf (by decide)
@[simp] theorem State.bump64_tmap (s : State) (lo : Nat) (hi : Nat) (n : Nat) : (s.bump64 lo hi n).tmap = s.tmap := State.bump64_keeps lo hi n (List.Subset.refl _) (SameBut.refl _ s) .tmap (by decide)
@[simp] theorem State.bump64_tribs (s : State) (lo : Nat) (hi : Nat) (n : Nat) : (s.bump64 lo hi n).tribs = s.tribs := State.bump64_keeps lo hi n (List.Subset.refl _) (SameBut.refl _ s) .tribs (by decide)
@[simp] theorem State.bump64_tfrags (s : State) (lo : Nat) (hi : Nat) (n : Nat) : (s.bump64 lo hi n).tfrags = s.tfrags := State.bump64_keeps lo hi n (List.Subset.refl _) (SameBut.refl _ s) .tfrags (by decide)
@[simp] theorem State.bump64_rows (s : State) (lo : Nat) (hi : Nat) (n : Nat) : (s.bump64 lo hi n).rows = s.rows := State.bump64_keeps lo hi n (List.Subset.refl _) (SameBut.refl _ s) .rows (by decide)
@[simp] theorem State.bump64_ttest (s : State) (lo : Nat) (hi : Nat) (n : Nat) : (s.bump64 lo hi n).ttest = s.ttest := State.bump64_keeps lo hi n (List.Subset.refl _) (SameBut.refl _ s) .ttest (by decide)
@[simp] theorem State.bump64_act (s : State) (lo : Nat) (hi : Nat) (n : Nat) : (s.bump64 lo hi n).act = s.act := State.bump64_keeps lo hi n (List.Subset.refl _) (SameBut.refl _ s) .act (by decide)
@[simp] theorem State.bump64_upb (s : State) (lo : Nat) (hi : Nat) (n : Nat) : (s.bump64 lo hi n).upb = s.upb := State.bump64_keeps lo hi n (List.Subset.refl _) (SameBut.refl _ s) .upb (by decide)
@[simp] theorem State.bump64_restarts (s : State) (lo : Nat) (hi : Nat) (n : Nat) : (s.bump64 lo hi n).restarts = s.restarts := State.bump64_keeps lo hi n (List.Subset.refl _) (SameBut.refl _ s) .restarts (by decide)
@[simp] theorem State.bump64_gsm (s : State) (lo : Nat) (hi : Nat) (n : Nat) : (s.bump64 lo hi n).gsm = s.gsm := State.bump64_keeps lo hi n (List.Subset.refl _) (SameBut.refl _ s) .gsm (by decide)
@[simp] theorem State.bump64_txEff (s : State) (lo : Nat) (hi : Nat) (n : Nat) : (s.bump64 lo hi n).txEff = s.txEff := State.bump64_keeps lo hi n (List.Subset.refl _) (SameBut.refl _ s) .txEff (by decide)
@[simp] theorem State.bump64_pairs (s : State) (lo : Nat) (hi : Nat) (n : Nat) : (s.bump64 lo hi n).pairs = s.pairs := State.bump64_keeps lo hi n (List.Subset.refl _) (SameBut.refl _ s) .pairs (by decide)
@[simp] theorem State.bump64_key (s : State) (lo : Nat) (hi : Nat) (n : Nat) : (s.bump64 lo hi n).key = s.key := State.bump64_keeps lo hi n (List.Subset.refl _) (SameBut.refl _ s) .key (by decide)
@[simp] theorem State.bump64_pipes (s : State) (lo : Nat) (hi : Nat) (n : Nat) : (s.bump64 lo hi n).pipes = s.pipes := State.bump64_keeps lo hi n (List.Subset.refl _) (SameBut.refl _ s) .pipes (by decide)
@[simp] theorem State.bump64_epochs (s : State) (lo : Nat) (hi : Nat) (n : Nat) : (s.bump64 lo hi n).epochs = s.epochs := State.bump64_keeps lo hi n (List.Subset.refl _) (SameBut.refl _ s) .epochs (by decide)
@[simp] theorem State.bump64_prog (s : State) (lo : Nat) (hi : Nat) (n : Nat) : (s.bump64 lo hi n).prog = s.prog := State.bump64_keeps lo hi n (List.Subset.refl _) (SameBut.refl _ s) .prog (by decide)
@[simp] theorem State.bump64_rcnt (s : State) (lo : Nat) (hi : Nat) (n : Nat) : (s.bump64 lo hi n).rcnt = s.rcnt := State.bump64_keeps lo hi n (List.Subset.refl _) (SameBut.refl _ s) .rcnt (by decide)
@[simp] theorem State.bump64_rcntHeld (s : State) (lo : Nat) (hi : Nat) (n : Nat) : (s.bump64 lo hi n).rcntHeld = s.rcntHeld := State.bump64_keeps lo hi n (List.Subset.refl _) (SameBut.refl _ s) .rcntHeld (by decide)
@[simp] theorem State.bump64_excWait (s : State) (lo : Nat) (hi : Nat) (n : Nat) : (s.bump64 lo hi n).excWait = s.excWait := State.bump64_keeps lo hi n (List.Subset.refl _) (SameBut.refl _ s) .excWait (by decide)
@[simp] theorem State.bump64_bufs (s : State) (lo : Nat) (hi : Nat) (n : Nat) : (s.bump64 lo hi n).bufs = s.bufs := State.bump64_keeps lo hi n (List.Subset.refl _) (SameBut.refl _ s) .bufs (by decide)
@[simp] theorem State.bump64_bufRot (s : State) (lo : Nat) (hi : Nat) (n : Nat) : (s.bump64 lo hi n).bufRot = s.bufRot := State.bump64_keeps lo hi n (List.Subset.refl _) (SameBut.refl _ s) .bufRot (by decide)
@[simp] theorem State.bump64_qmap (s : State) (lo : Nat) (hi : Nat) (n : Nat) : (s.bump64 lo hi n).qmap = s.qmap := State.bump64_keeps lo hi n (List.Subset.refl _) (SameBut.refl _ s) .qmap (by decide)
@[simp] theorem State.bump64_memch (s : State) (lo : Nat) (hi : Nat) (n : Nat) : (s.bump64 lo hi n).memch = s.memch := State.bump64_keeps lo hi n (List.Subset.refl _) (SameBut.refl _ s) .memch (by decide)
@[simp] theorem State.bump64_ecc (s : State) (lo : Nat) (hi : Nat) (n : Nat) : (s.bump64 lo hi n).ecc = s.ecc := State.bump64_keeps lo hi n (List.Subset.refl _) (SameBut.refl _ s) .ecc (by decide)
@[simp] theorem State.bump64_mxe (s : State) (lo : Nat) (hi : Nat) (n : Nat) : (s.bump64 lo hi n).mxe = s.mxe := State.bump64_keeps lo hi n (List.Subset.refl _) (SameBut.refl _ s) .mxe (by decide)
@[simp] theorem State.bump64_queues (s : State) (lo : Nat) (hi : Nat) (n : Nat) : (s.bump64 lo hi n).queues = s.queues := State.bump64_keeps lo hi n (List.Subset.refl _) (SameBut.refl _ s) .queues (by decide)
@[simp] theorem State.bump64_turns (s : State) (lo : Nat) (hi : Nat) (n : Nat) : (s.bump64 lo hi n).turns = s.turns := State.bump64_keeps lo hi n (List.Subset.refl _) (SameBut.refl _ s) .turns (by decide)
@[simp] theorem State.bump64_elig (s : State) (lo : Nat) (hi : Nat) (n : Nat) : (s.bump64 lo hi n).elig = s.elig := State.bump64_keeps lo hi n (List.Subset.refl _) (SameBut.refl _ s) .elig (by decide)
@[simp] theorem State.bump64_shapers (s : State) (lo : Nat) (hi : Nat) (n : Nat) : (s.bump64 lo hi n).shapers = s.shapers := State.bump64_keeps lo hi n (List.Subset.refl _) (SameBut.refl _ s) .shapers (by decide)
@[simp] theorem State.bump64_policers (s : State) (lo : Nat) (hi : Nat) (n : Nat) : (s.bump64 lo hi n).policers = s.policers := State.bump64_keeps lo hi n (List.Subset.refl _) (SameBut.refl _ s) .policers (by decide)
@[simp] theorem State.bump64_gates (s : State) (lo : Nat) (hi : Nat) (n : Nat) : (s.bump64 lo hi n).gates = s.gates := State.bump64_keeps lo hi n (List.Subset.refl _) (SameBut.refl _ s) .gates (by decide)
@[simp] theorem State.bump64_gateBusy (s : State) (lo : Nat) (hi : Nat) (n : Nat) : (s.bump64 lo hi n).gateBusy = s.gateBusy := State.bump64_keeps lo hi n (List.Subset.refl _) (SameBut.refl _ s) .gateBusy (by decide)
@[simp] theorem State.bump64_lanes (s : State) (lo : Nat) (hi : Nat) (n : Nat) : (s.bump64 lo hi n).lanes = s.lanes := State.bump64_keeps lo hi n (List.Subset.refl _) (SameBut.refl _ s) .lanes (by decide)
@[simp] theorem State.bump64_lports (s : State) (lo : Nat) (hi : Nat) (n : Nat) : (s.bump64 lo hi n).lports = s.lports := State.bump64_keeps lo hi n (List.Subset.refl _) (SameBut.refl _ s) .lports (by decide)
@[simp] theorem State.bump64_mdio (s : State) (lo : Nat) (hi : Nat) (n : Nat) : (s.bump64 lo hi n).mdio = s.mdio := State.bump64_keeps lo hi n (List.Subset.refl _) (SameBut.refl _ s) .mdio (by decide)
@[simp] theorem State.bump64_tim (s : State) (lo : Nat) (hi : Nat) (n : Nat) : (s.bump64 lo hi n).tim = s.tim := State.bump64_keeps lo hi n (List.Subset.refl _) (SameBut.refl _ s) .tim (by decide)
@[simp] theorem State.bump64_evt (s : State) (lo : Nat) (hi : Nat) (n : Nat) : (s.bump64 lo hi n).evt = s.evt := State.bump64_keeps lo hi n (List.Subset.refl _) (SameBut.refl _ s) .evt (by decide)
@[simp] theorem State.bump64_log (s : State) (lo : Nat) (hi : Nat) (n : Nat) : (s.bump64 lo hi n).log = s.log := State.bump64_keeps lo hi n (List.Subset.refl _) (SameBut.refl _ s) .log (by decide)
@[simp] theorem State.bump64_tsk (s : State) (lo : Nat) (hi : Nat) (n : Nat) : (s.bump64 lo hi n).tsk = s.tsk := State.bump64_keeps lo hi n (List.Subset.refl _) (SameBut.refl _ s) .tsk (by decide)
@[simp] theorem State.bump64_cpu (s : State) (lo : Nat) (hi : Nat) (n : Nat) : (s.bump64 lo hi n).cpu = s.cpu := State.bump64_keeps lo hi n (List.Subset.refl _) (SameBut.refl _ s) .cpu (by decide)
@[simp] theorem State.bump64_pwr (s : State) (lo : Nat) (hi : Nat) (n : Nat) : (s.bump64 lo hi n).pwr = s.pwr := State.bump64_keeps lo hi n (List.Subset.refl _) (SameBut.refl _ s) .pwr (by decide)
@[simp] theorem State.bump64_rst (s : State) (lo : Nat) (hi : Nat) (n : Nat) : (s.bump64 lo hi n).rst = s.rst := State.bump64_keeps lo hi n (List.Subset.refl _) (SameBut.refl _ s) .rst (by decide)
@[simp] theorem State.bump64_sys (s : State) (lo : Nat) (hi : Nat) (n : Nat) : (s.bump64 lo hi n).sys = s.sys := State.bump64_keeps lo hi n (List.Subset.refl _) (SameBut.refl _ s) .sys (by decide)
@[simp] theorem State.bump64_hif (s : State) (lo : Nat) (hi : Nat) (n : Nat) : (s.bump64 lo hi n).hif = s.hif := State.bump64_keeps lo hi n (List.Subset.refl _) (SameBut.refl _ s) .hif (by decide)
@[simp] theorem State.bump64_pins (s : State) (lo : Nat) (hi : Nat) (n : Nat) : (s.bump64 lo hi n).pins = s.pins := State.bump64_keeps lo hi n (List.Subset.refl _) (SameBut.refl _ s) .pins (by decide)
@[simp] theorem State.bump64_clock (s : State) (lo : Nat) (hi : Nat) (n : Nat) : (s.bump64 lo hi n).clock = s.clock := State.bump64_keeps lo hi n (List.Subset.refl _) (SameBut.refl _ s) .clock (by decide)
@[simp] theorem State.bump64_timers (s : State) (lo : Nat) (hi : Nat) (n : Nat) : (s.bump64 lo hi n).timers = s.timers := State.bump64_keeps lo hi n (List.Subset.refl _) (SameBut.refl _ s) .timers (by decide)
@[simp] theorem State.bump64_pending (s : State) (lo : Nat) (hi : Nat) (n : Nat) : (s.bump64 lo hi n).pending = s.pending := State.bump64_keeps lo hi n (List.Subset.refl _) (SameBut.refl _ s) .pending (by decide)
@[simp] theorem State.bump64_dark (s : State) (lo : Nat) (hi : Nat) (n : Nat) : (s.bump64 lo hi n).dark = s.dark := State.bump64_keeps lo hi n (List.Subset.refl _) (SameBut.refl _ s) .dark (by decide)
@[simp] theorem State.bump64_resp (s : State) (lo : Nat) (hi : Nat) (n : Nat) : (s.bump64 lo hi n).resp = s.resp := State.bump64_keeps lo hi n (List.Subset.refl _) (SameBut.refl _ s) .resp (by decide)
@[simp] theorem State.bump64_out (s : State) (lo : Nat) (hi : Nat) (n : Nat) : (s.bump64 lo hi n).out = s.out := State.bump64_keeps lo hi n (List.Subset.refl _) (SameBut.refl _ s) .out (by decide)
@[simp] theorem State.bump64_fresh (s : State) (lo : Nat) (hi : Nat) (n : Nat) : (s.bump64 lo hi n).fresh = s.fresh := State.bump64_keeps lo hi n (List.Subset.refl _) (SameBut.refl _ s) .fresh (by decide)
@[simp] theorem State.bump64_running (s : State) (lo : Nat) (hi : Nat) (n : Nat) (g_ : Nat) : (s.bump64 lo hi n).running g_ = s.running g_ := State.running_of_timers (State.bump64_timers s lo hi n) g_
@[simp] theorem State.bump64_domOn (s : State) (lo : Nat) (hi : Nat) (n : Nat) (g_ : Nat) : (s.bump64 lo hi n).domOn g_ = s.domOn g_ := State.domOn_of_pwr (State.bump64_pwr s lo hi n) g_

/-! `State.emit` -/

@[simp] theorem State.emit_regs (s : State) (o : Out) : (s.emit o).regs = s.regs := (rfl)
@[simp] theorem State.emit_shown (s : State) (o : Out) : (s.emit o).shown = s.shown := (rfl)
@[simp] theorem State.emit_mirror (s : State) (o : Out) : (s.emit o).mirror = s.mirror := (rfl)
@[simp] theorem State.emit_mem (s : State) (o : Out) : (s.emit o).mem = s.mem := (rfl)
@[simp] theorem State.emit_seam (s : State) (o : Out) : (s.emit o).seam = s.seam := (rfl)
@[simp] theorem State.emit_cmt (s : State) (o : Out) : (s.emit o).cmt = s.cmt := (rfl)
@[simp] theorem State.emit_own (s : State) (o : Out) : (s.emit o).own = s.own := (rfl)
@[simp] theorem State.emit_nextPkt (s : State) (o : Out) : (s.emit o).nextPkt = s.nextPkt := (rfl)
@[simp] theorem State.emit_rx (s : State) (o : Out) : (s.emit o).rx = s.rx := (rfl)
@[simp] theorem State.emit_dsf (s : State) (o : Out) : (s.emit o).dsf = s.dsf := (rfl)
@[simp] theorem State.emit_tmap (s : State) (o : Out) : (s.emit o).tmap = s.tmap := (rfl)
@[simp] theorem State.emit_tribs (s : State) (o : Out) : (s.emit o).tribs = s.tribs := (rfl)
@[simp] theorem State.emit_tfrags (s : State) (o : Out) : (s.emit o).tfrags = s.tfrags := (rfl)
@[simp] theorem State.emit_rows (s : State) (o : Out) : (s.emit o).rows = s.rows := (rfl)
@[simp] theorem State.emit_ttest (s : State) (o : Out) : (s.emit o).ttest = s.ttest := (rfl)
@[simp] theorem State.emit_act (s : State) (o : Out) : (s.emit o).act = s.act := (rfl)
@[simp] theorem State.emit_upb (s : State) (o : Out) : (s.emit o).upb = s.upb := (rfl)
@[simp] theorem State.emit_restarts (s : State) (o : Out) : (s.emit o).restarts = s.restarts := (rfl)
@[simp] theorem State.emit_gsm (s : State) (o : Out) : (s.emit o).gsm = s.gsm := (rfl)
@[simp] theorem State.emit_txEff (s : State) (o : Out) : (s.emit o).txEff = s.txEff := (rfl)
@[simp] theorem State.emit_pairs (s : State) (o : Out) : (s.emit o).pairs = s.pairs := (rfl)
@[simp] theorem State.emit_key (s : State) (o : Out) : (s.emit o).key = s.key := (rfl)
@[simp] theorem State.emit_pipes (s : State) (o : Out) : (s.emit o).pipes = s.pipes := (rfl)
@[simp] theorem State.emit_epochs (s : State) (o : Out) : (s.emit o).epochs = s.epochs := (rfl)
@[simp] theorem State.emit_prog (s : State) (o : Out) : (s.emit o).prog = s.prog := (rfl)
@[simp] theorem State.emit_rcnt (s : State) (o : Out) : (s.emit o).rcnt = s.rcnt := (rfl)
@[simp] theorem State.emit_rcntHeld (s : State) (o : Out) : (s.emit o).rcntHeld = s.rcntHeld := (rfl)
@[simp] theorem State.emit_excWait (s : State) (o : Out) : (s.emit o).excWait = s.excWait := (rfl)
@[simp] theorem State.emit_bufs (s : State) (o : Out) : (s.emit o).bufs = s.bufs := (rfl)
@[simp] theorem State.emit_bufRot (s : State) (o : Out) : (s.emit o).bufRot = s.bufRot := (rfl)
@[simp] theorem State.emit_qmap (s : State) (o : Out) : (s.emit o).qmap = s.qmap := (rfl)
@[simp] theorem State.emit_memch (s : State) (o : Out) : (s.emit o).memch = s.memch := (rfl)
@[simp] theorem State.emit_ecc (s : State) (o : Out) : (s.emit o).ecc = s.ecc := (rfl)
@[simp] theorem State.emit_mxe (s : State) (o : Out) : (s.emit o).mxe = s.mxe := (rfl)
@[simp] theorem State.emit_queues (s : State) (o : Out) : (s.emit o).queues = s.queues := (rfl)
@[simp] theorem State.emit_turns (s : State) (o : Out) : (s.emit o).turns = s.turns := (rfl)
@[simp] theorem State.emit_elig (s : State) (o : Out) : (s.emit o).elig = s.elig := (rfl)
@[simp] theorem State.emit_shapers (s : State) (o : Out) : (s.emit o).shapers = s.shapers := (rfl)
@[simp] theorem State.emit_policers (s : State) (o : Out) : (s.emit o).policers = s.policers := (rfl)
@[simp] theorem State.emit_gates (s : State) (o : Out) : (s.emit o).gates = s.gates := (rfl)
@[simp] theorem State.emit_gateBusy (s : State) (o : Out) : (s.emit o).gateBusy = s.gateBusy := (rfl)
@[simp] theorem State.emit_lanes (s : State) (o : Out) : (s.emit o).lanes = s.lanes := (rfl)
@[simp] theorem State.emit_lports (s : State) (o : Out) : (s.emit o).lports = s.lports := (rfl)
@[simp] theorem State.emit_mdio (s : State) (o : Out) : (s.emit o).mdio = s.mdio := (rfl)
@[simp] theorem State.emit_tim (s : State) (o : Out) : (s.emit o).tim = s.tim := (rfl)
@[simp] theorem State.emit_evt (s : State) (o : Out) : (s.emit o).evt = s.evt := (rfl)
@[simp] theorem State.emit_log (s : State) (o : Out) : (s.emit o).log = s.log := (rfl)
@[simp] theorem State.emit_tsk (s : State) (o : Out) : (s.emit o).tsk = s.tsk := (rfl)
@[simp] theorem State.emit_cpu (s : State) (o : Out) : (s.emit o).cpu = s.cpu := (rfl)
@[simp] theorem State.emit_pwr (s : State) (o : Out) : (s.emit o).pwr = s.pwr := (rfl)
@[simp] theorem State.emit_rst (s : State) (o : Out) : (s.emit o).rst = s.rst := (rfl)
@[simp] theorem State.emit_sys (s : State) (o : Out) : (s.emit o).sys = s.sys := (rfl)
@[simp] theorem State.emit_hif (s : State) (o : Out) : (s.emit o).hif = s.hif := (rfl)
@[simp] theorem State.emit_pins (s : State) (o : Out) : (s.emit o).pins = s.pins := (rfl)
@[simp] theorem State.emit_clock (s : State) (o : Out) : (s.emit o).clock = s.clock := (rfl)
@[simp] theorem State.emit_timers (s : State) (o : Out) : (s.emit o).timers = s.timers := (rfl)
@[simp] theorem State.emit_pending (s : State) (o : Out) : (s.emit o).pending = s.pending := (rfl)
@[simp] theorem State.emit_dark (s : State) (o : Out) : (s.emit o).dark = s.dark := (rfl)
@[simp] theorem State.emit_resp (s : State) (o : Out) : (s.emit o).resp = s.resp := (rfl)
@[simp] theorem State.emit_fresh (s : State) (o : Out) : (s.emit o).fresh = s.fresh := (rfl)
@[simp] theorem State.emit_rd (s : State) (o : Out) (k : Nat) : (s.emit o).rd k = s.rd k := State.rd_of_regs (State.emit_regs s o) k
@[simp] theorem State.emit_fld (s : State) (o : Out) (g_ : Fld) : (s.emit o).fld g_ = s.fld g_ := State.fld_of_regs (State.emit_regs s o) g_
@[simp] theorem State.emit_bit (s : State) (o : Out) (g_ : Fld) : (s.emit o).bit g_ = s.bit g_ := State.bit_of_regs (State.emit_regs s o) g_
@[simp] theorem State.emit_running (s : State) (o : Out) (g_ : Nat) : (s.emit o).running g_ = s.running g_ := State.running_of_timers (State.emit_timers s o) g_
@[simp] theorem State.emit_domOn (s : State) (o : Out) (g_ : Nat) : (s.emit o).domOn g_ = s.domOn g_ := State.domOn_of_pwr (State.emit_pwr s o) g_

/-! `State.reply` -/

@[simp] theorem State.reply_regs (s : State) (x : Resp) : (s.reply x).regs = s.regs := (rfl)
@[simp] theorem State.reply_shown (s : State) (x : Resp) : (s.reply x).shown = s.shown := (rfl)
@[simp] theorem State.reply_mirror (s : State) (x : Resp) : (s.reply x).mirror = s.mirror := (rfl)
@[simp] theorem State.reply_mem (s : State) (x : Resp) : (s.reply x).mem = s.mem := (rfl)
@[simp] theorem State.reply_seam (s : State) (x : Resp) : (s.reply x).seam = s.seam := (rfl)
@[simp] theorem State.reply_cmt (s : State) (x : Resp) : (s.reply x).cmt = s.cmt := (rfl)
@[simp] theorem State.reply_own (s : State) (x : Resp) : (s.reply x).own = s.own := (rfl)
@[simp] theorem State.reply_nextPkt (s : State) (x : Resp) : (s.reply x).nextPkt = s.nextPkt := (rfl)
@[simp] theorem State.reply_rx (s : State) (x : Resp) : (s.reply x).rx = s.rx := (rfl)
@[simp] theorem State.reply_dsf (s : State) (x : Resp) : (s.reply x).dsf = s.dsf := (rfl)
@[simp] theorem State.reply_tmap (s : State) (x : Resp) : (s.reply x).tmap = s.tmap := (rfl)
@[simp] theorem State.reply_tribs (s : State) (x : Resp) : (s.reply x).tribs = s.tribs := (rfl)
@[simp] theorem State.reply_tfrags (s : State) (x : Resp) : (s.reply x).tfrags = s.tfrags := (rfl)
@[simp] theorem State.reply_rows (s : State) (x : Resp) : (s.reply x).rows = s.rows := (rfl)
@[simp] theorem State.reply_ttest (s : State) (x : Resp) : (s.reply x).ttest = s.ttest := (rfl)
@[simp] theorem State.reply_act (s : State) (x : Resp) : (s.reply x).act = s.act := (rfl)
@[simp] theorem State.reply_upb (s : State) (x : Resp) : (s.reply x).upb = s.upb := (rfl)
@[simp] theorem State.reply_restarts (s : State) (x : Resp) : (s.reply x).restarts = s.restarts := (rfl)
@[simp] theorem State.reply_gsm (s : State) (x : Resp) : (s.reply x).gsm = s.gsm := (rfl)
@[simp] theorem State.reply_txEff (s : State) (x : Resp) : (s.reply x).txEff = s.txEff := (rfl)
@[simp] theorem State.reply_pairs (s : State) (x : Resp) : (s.reply x).pairs = s.pairs := (rfl)
@[simp] theorem State.reply_key (s : State) (x : Resp) : (s.reply x).key = s.key := (rfl)
@[simp] theorem State.reply_pipes (s : State) (x : Resp) : (s.reply x).pipes = s.pipes := (rfl)
@[simp] theorem State.reply_epochs (s : State) (x : Resp) : (s.reply x).epochs = s.epochs := (rfl)
@[simp] theorem State.reply_prog (s : State) (x : Resp) : (s.reply x).prog = s.prog := (rfl)
@[simp] theorem State.reply_rcnt (s : State) (x : Resp) : (s.reply x).rcnt = s.rcnt := (rfl)
@[simp] theorem State.reply_rcntHeld (s : State) (x : Resp) : (s.reply x).rcntHeld = s.rcntHeld := (rfl)
@[simp] theorem State.reply_excWait (s : State) (x : Resp) : (s.reply x).excWait = s.excWait := (rfl)
@[simp] theorem State.reply_bufs (s : State) (x : Resp) : (s.reply x).bufs = s.bufs := (rfl)
@[simp] theorem State.reply_bufRot (s : State) (x : Resp) : (s.reply x).bufRot = s.bufRot := (rfl)
@[simp] theorem State.reply_qmap (s : State) (x : Resp) : (s.reply x).qmap = s.qmap := (rfl)
@[simp] theorem State.reply_memch (s : State) (x : Resp) : (s.reply x).memch = s.memch := (rfl)
@[simp] theorem State.reply_ecc (s : State) (x : Resp) : (s.reply x).ecc = s.ecc := (rfl)
@[simp] theorem State.reply_mxe (s : State) (x : Resp) : (s.reply x).mxe = s.mxe := (rfl)
@[simp] theorem State.reply_queues (s : State) (x : Resp) : (s.reply x).queues = s.queues := (rfl)
@[simp] theorem State.reply_turns (s : State) (x : Resp) : (s.reply x).turns = s.turns := (rfl)
@[simp] theorem State.reply_elig (s : State) (x : Resp) : (s.reply x).elig = s.elig := (rfl)
@[simp] theorem State.reply_shapers (s : State) (x : Resp) : (s.reply x).shapers = s.shapers := (rfl)
@[simp] theorem State.reply_policers (s : State) (x : Resp) : (s.reply x).policers = s.policers := (rfl)
@[simp] theorem State.reply_gates (s : State) (x : Resp) : (s.reply x).gates = s.gates := (rfl)
@[simp] theorem State.reply_gateBusy (s : State) (x : Resp) : (s.reply x).gateBusy = s.gateBusy := (rfl)
@[simp] theorem State.reply_lanes (s : State) (x : Resp) : (s.reply x).lanes = s.lanes := (rfl)
@[simp] theorem State.reply_lports (s : State) (x : Resp) : (s.reply x).lports = s.lports := (rfl)
@[simp] theorem State.reply_mdio (s : State) (x : Resp) : (s.reply x).mdio = s.mdio := (rfl)
@[simp] theorem State.reply_tim (s : State) (x : Resp) : (s.reply x).tim = s.tim := (rfl)
@[simp] theorem State.reply_evt (s : State) (x : Resp) : (s.reply x).evt = s.evt := (rfl)
@[simp] theorem State.reply_log (s : State) (x : Resp) : (s.reply x).log = s.log := (rfl)
@[simp] theorem State.reply_tsk (s : State) (x : Resp) : (s.reply x).tsk = s.tsk := (rfl)
@[simp] theorem State.reply_cpu (s : State) (x : Resp) : (s.reply x).cpu = s.cpu := (rfl)
@[simp] theorem State.reply_pwr (s : State) (x : Resp) : (s.reply x).pwr = s.pwr := (rfl)
@[simp] theorem State.reply_rst (s : State) (x : Resp) : (s.reply x).rst = s.rst := (rfl)
@[simp] theorem State.reply_sys (s : State) (x : Resp) : (s.reply x).sys = s.sys := (rfl)
@[simp] theorem State.reply_hif (s : State) (x : Resp) : (s.reply x).hif = s.hif := (rfl)
@[simp] theorem State.reply_pins (s : State) (x : Resp) : (s.reply x).pins = s.pins := (rfl)
@[simp] theorem State.reply_clock (s : State) (x : Resp) : (s.reply x).clock = s.clock := (rfl)
@[simp] theorem State.reply_timers (s : State) (x : Resp) : (s.reply x).timers = s.timers := (rfl)
@[simp] theorem State.reply_pending (s : State) (x : Resp) : (s.reply x).pending = s.pending := (rfl)
@[simp] theorem State.reply_dark (s : State) (x : Resp) : (s.reply x).dark = s.dark := (rfl)
@[simp] theorem State.reply_out (s : State) (x : Resp) : (s.reply x).out = s.out := (rfl)
@[simp] theorem State.reply_fresh (s : State) (x : Resp) : (s.reply x).fresh = s.fresh := (rfl)
@[simp] theorem State.reply_rd (s : State) (x : Resp) (k : Nat) : (s.reply x).rd k = s.rd k := State.rd_of_regs (State.reply_regs s x) k
@[simp] theorem State.reply_fld (s : State) (x : Resp) (g_ : Fld) : (s.reply x).fld g_ = s.fld g_ := State.fld_of_regs (State.reply_regs s x) g_
@[simp] theorem State.reply_bit (s : State) (x : Resp) (g_ : Fld) : (s.reply x).bit g_ = s.bit g_ := State.bit_of_regs (State.reply_regs s x) g_
@[simp] theorem State.reply_running (s : State) (x : Resp) (g_ : Nat) : (s.reply x).running g_ = s.running g_ := State.running_of_timers (State.reply_timers s x) g_
@[simp] theorem State.reply_domOn (s : State) (x : Resp) (g_ : Nat) : (s.reply x).domOn g_ = s.domOn g_ := State.domOn_of_pwr (State.reply_pwr s x) g_

/-! `State.startTimer` -/

@[simp] theorem State.startTimer_regs (s : State) (t : Nat) : (s.startTimer t).regs = s.regs := (rfl)
@[simp] theorem State.startTimer_shown (s : State) (t : Nat) : (s.startTimer t).shown = s.shown := (rfl)
@[simp] theorem State.startTimer_mirror (s : State) (t : Nat) : (s.startTimer t).mirror = s.mirror := (rfl)
@[simp] theorem State.startTimer_mem (s : State) (t : Nat) : (s.startTimer t).mem = s.mem := (rfl)
@[simp] theorem State.startTimer_seam (s : State) (t : Nat) : (s.startTimer t).seam = s.seam := (rfl)
@[simp] theorem State.startTimer_cmt (s : State) (t : Nat) : (s.startTimer t).cmt = s.cmt := (rfl)
@[simp] theorem State.startTimer_own (s : State) (t : Nat) : (s.startTimer t).own = s.own := (rfl)
@[simp] theorem State.startTimer_nextPkt (s : State) (t : Nat) : (s.startTimer t).nextPkt = s.nextPkt := (rfl)
@[simp] theorem State.startTimer_rx (s : State) (t : Nat) : (s.startTimer t).rx = s.rx := (rfl)
@[simp] theorem State.startTimer_dsf (s : State) (t : Nat) : (s.startTimer t).dsf = s.dsf := (rfl)
@[simp] theorem State.startTimer_tmap (s : State) (t : Nat) : (s.startTimer t).tmap = s.tmap := (rfl)
@[simp] theorem State.startTimer_tribs (s : State) (t : Nat) : (s.startTimer t).tribs = s.tribs := (rfl)
@[simp] theorem State.startTimer_tfrags (s : State) (t : Nat) : (s.startTimer t).tfrags = s.tfrags := (rfl)
@[simp] theorem State.startTimer_rows (s : State) (t : Nat) : (s.startTimer t).rows = s.rows := (rfl)
@[simp] theorem State.startTimer_ttest (s : State) (t : Nat) : (s.startTimer t).ttest = s.ttest := (rfl)
@[simp] theorem State.startTimer_act (s : State) (t : Nat) : (s.startTimer t).act = s.act := (rfl)
@[simp] theorem State.startTimer_upb (s : State) (t : Nat) : (s.startTimer t).upb = s.upb := (rfl)
@[simp] theorem State.startTimer_restarts (s : State) (t : Nat) : (s.startTimer t).restarts = s.restarts := (rfl)
@[simp] theorem State.startTimer_gsm (s : State) (t : Nat) : (s.startTimer t).gsm = s.gsm := (rfl)
@[simp] theorem State.startTimer_txEff (s : State) (t : Nat) : (s.startTimer t).txEff = s.txEff := (rfl)
@[simp] theorem State.startTimer_pairs (s : State) (t : Nat) : (s.startTimer t).pairs = s.pairs := (rfl)
@[simp] theorem State.startTimer_key (s : State) (t : Nat) : (s.startTimer t).key = s.key := (rfl)
@[simp] theorem State.startTimer_pipes (s : State) (t : Nat) : (s.startTimer t).pipes = s.pipes := (rfl)
@[simp] theorem State.startTimer_epochs (s : State) (t : Nat) : (s.startTimer t).epochs = s.epochs := (rfl)
@[simp] theorem State.startTimer_prog (s : State) (t : Nat) : (s.startTimer t).prog = s.prog := (rfl)
@[simp] theorem State.startTimer_rcnt (s : State) (t : Nat) : (s.startTimer t).rcnt = s.rcnt := (rfl)
@[simp] theorem State.startTimer_rcntHeld (s : State) (t : Nat) : (s.startTimer t).rcntHeld = s.rcntHeld := (rfl)
@[simp] theorem State.startTimer_excWait (s : State) (t : Nat) : (s.startTimer t).excWait = s.excWait := (rfl)
@[simp] theorem State.startTimer_bufs (s : State) (t : Nat) : (s.startTimer t).bufs = s.bufs := (rfl)
@[simp] theorem State.startTimer_bufRot (s : State) (t : Nat) : (s.startTimer t).bufRot = s.bufRot := (rfl)
@[simp] theorem State.startTimer_qmap (s : State) (t : Nat) : (s.startTimer t).qmap = s.qmap := (rfl)
@[simp] theorem State.startTimer_memch (s : State) (t : Nat) : (s.startTimer t).memch = s.memch := (rfl)
@[simp] theorem State.startTimer_ecc (s : State) (t : Nat) : (s.startTimer t).ecc = s.ecc := (rfl)
@[simp] theorem State.startTimer_mxe (s : State) (t : Nat) : (s.startTimer t).mxe = s.mxe := (rfl)
@[simp] theorem State.startTimer_queues (s : State) (t : Nat) : (s.startTimer t).queues = s.queues := (rfl)
@[simp] theorem State.startTimer_turns (s : State) (t : Nat) : (s.startTimer t).turns = s.turns := (rfl)
@[simp] theorem State.startTimer_elig (s : State) (t : Nat) : (s.startTimer t).elig = s.elig := (rfl)
@[simp] theorem State.startTimer_shapers (s : State) (t : Nat) : (s.startTimer t).shapers = s.shapers := (rfl)
@[simp] theorem State.startTimer_policers (s : State) (t : Nat) : (s.startTimer t).policers = s.policers := (rfl)
@[simp] theorem State.startTimer_gates (s : State) (t : Nat) : (s.startTimer t).gates = s.gates := (rfl)
@[simp] theorem State.startTimer_gateBusy (s : State) (t : Nat) : (s.startTimer t).gateBusy = s.gateBusy := (rfl)
@[simp] theorem State.startTimer_lanes (s : State) (t : Nat) : (s.startTimer t).lanes = s.lanes := (rfl)
@[simp] theorem State.startTimer_lports (s : State) (t : Nat) : (s.startTimer t).lports = s.lports := (rfl)
@[simp] theorem State.startTimer_mdio (s : State) (t : Nat) : (s.startTimer t).mdio = s.mdio := (rfl)
@[simp] theorem State.startTimer_tim (s : State) (t : Nat) : (s.startTimer t).tim = s.tim := (rfl)
@[simp] theorem State.startTimer_evt (s : State) (t : Nat) : (s.startTimer t).evt = s.evt := (rfl)
@[simp] theorem State.startTimer_log (s : State) (t : Nat) : (s.startTimer t).log = s.log := (rfl)
@[simp] theorem State.startTimer_tsk (s : State) (t : Nat) : (s.startTimer t).tsk = s.tsk := (rfl)
@[simp] theorem State.startTimer_cpu (s : State) (t : Nat) : (s.startTimer t).cpu = s.cpu := (rfl)
@[simp] theorem State.startTimer_pwr (s : State) (t : Nat) : (s.startTimer t).pwr = s.pwr := (rfl)
@[simp] theorem State.startTimer_rst (s : State) (t : Nat) : (s.startTimer t).rst = s.rst := (rfl)
@[simp] theorem State.startTimer_sys (s : State) (t : Nat) : (s.startTimer t).sys = s.sys := (rfl)
@[simp] theorem State.startTimer_hif (s : State) (t : Nat) : (s.startTimer t).hif = s.hif := (rfl)
@[simp] theorem State.startTimer_pins (s : State) (t : Nat) : (s.startTimer t).pins = s.pins := (rfl)
@[simp] theorem State.startTimer_clock (s : State) (t : Nat) : (s.startTimer t).clock = s.clock := (rfl)
@[simp] theorem State.startTimer_pending (s : State) (t : Nat) : (s.startTimer t).pending = s.pending := (rfl)
@[simp] theorem State.startTimer_dark (s : State) (t : Nat) : (s.startTimer t).dark = s.dark := (rfl)
@[simp] theorem State.startTimer_resp (s : State) (t : Nat) : (s.startTimer t).resp = s.resp := (rfl)
@[simp] theorem State.startTimer_out (s : State) (t : Nat) : (s.startTimer t).out = s.out := (rfl)
@[simp] theorem State.startTimer_fresh (s : State) (t : Nat) : (s.startTimer t).fresh = s.fresh := (rfl)
@[simp] theorem State.startTimer_rd (s : State) (t : Nat) (k : Nat) : (s.startTimer t).rd k = s.rd k := State.rd_of_regs (State.startTimer_regs s t) k
@[simp] theorem State.startTimer_fld (s : State) (t : Nat) (g_ : Fld) : (s.startTimer t).fld g_ = s.fld g_ := State.fld_of_regs (State.startTimer_regs s t) g_
@[simp] theorem State.startTimer_bit (s : State) (t : Nat) (g_ : Fld) : (s.startTimer t).bit g_ = s.bit g_ := State.bit_of_regs (State.startTimer_regs s t) g_
@[simp] theorem State.startTimer_domOn (s : State) (t : Nat) (g_ : Nat) : (s.startTimer t).domOn g_ = s.domOn g_ := State.domOn_of_pwr (State.startTimer_pwr s t) g_

/-! `State.stopTimer` -/

@[simp] theorem State.stopTimer_regs (s : State) (t : Nat) : (s.stopTimer t).regs = s.regs := (rfl)
@[simp] theorem State.stopTimer_shown (s : State) (t : Nat) : (s.stopTimer t).shown = s.shown := (rfl)
@[simp] theorem State.stopTimer_mirror (s : State) (t : Nat) : (s.stopTimer t).mirror = s.mirror := (rfl)
@[simp] theorem State.stopTimer_mem (s : State) (t : Nat) : (s.stopTimer t).mem = s.mem := (rfl)
@[simp] theorem State.stopTimer_seam (s : State) (t : Nat) : (s.stopTimer t).seam = s.seam := (rfl)
@[simp] theorem State.stopTimer_cmt (s : State) (t : Nat) : (s.stopTimer t).cmt = s.cmt := (rfl)
@[simp] theorem State.stopTimer_own (s : State) (t : Nat) : (s.stopTimer t).own = s.own := (rfl)
@[simp] theorem State.stopTimer_nextPkt (s : State) (t : Nat) : (s.stopTimer t).nextPkt = s.nextPkt := (rfl)
@[simp] theorem State.stopTimer_rx (s : State) (t : Nat) : (s.stopTimer t).rx = s.rx := (rfl)
@[simp] theorem State.stopTimer_dsf (s : State) (t : Nat) : (s.stopTimer t).dsf = s.dsf := (rfl)
@[simp] theorem State.stopTimer_tmap (s : State) (t : Nat) : (s.stopTimer t).tmap = s.tmap := (rfl)
@[simp] theorem State.stopTimer_tribs (s : State) (t : Nat) : (s.stopTimer t).tribs = s.tribs := (rfl)
@[simp] theorem State.stopTimer_tfrags (s : State) (t : Nat) : (s.stopTimer t).tfrags = s.tfrags := (rfl)
@[simp] theorem State.stopTimer_rows (s : State) (t : Nat) : (s.stopTimer t).rows = s.rows := (rfl)
@[simp] theorem State.stopTimer_ttest (s : State) (t : Nat) : (s.stopTimer t).ttest = s.ttest := (rfl)
@[simp] theorem State.stopTimer_act (s : State) (t : Nat) : (s.stopTimer t).act = s.act := (rfl)
@[simp] theorem State.stopTimer_upb (s : State) (t : Nat) : (s.stopTimer t).upb = s.upb := (rfl)
@[simp] theorem State.stopTimer_restarts (s : State) (t : Nat) : (s.stopTimer t).restarts = s.restarts := (rfl)
@[simp] theorem State.stopTimer_gsm (s : State) (t : Nat) : (s.stopTimer t).gsm = s.gsm := (rfl)
@[simp] theorem State.stopTimer_txEff (s : State) (t : Nat) : (s.stopTimer t).txEff = s.txEff := (rfl)
@[simp] theorem State.stopTimer_pairs (s : State) (t : Nat) : (s.stopTimer t).pairs = s.pairs := (rfl)
@[simp] theorem State.stopTimer_key (s : State) (t : Nat) : (s.stopTimer t).key = s.key := (rfl)
@[simp] theorem State.stopTimer_pipes (s : State) (t : Nat) : (s.stopTimer t).pipes = s.pipes := (rfl)
@[simp] theorem State.stopTimer_epochs (s : State) (t : Nat) : (s.stopTimer t).epochs = s.epochs := (rfl)
@[simp] theorem State.stopTimer_prog (s : State) (t : Nat) : (s.stopTimer t).prog = s.prog := (rfl)
@[simp] theorem State.stopTimer_rcnt (s : State) (t : Nat) : (s.stopTimer t).rcnt = s.rcnt := (rfl)
@[simp] theorem State.stopTimer_rcntHeld (s : State) (t : Nat) : (s.stopTimer t).rcntHeld = s.rcntHeld := (rfl)
@[simp] theorem State.stopTimer_excWait (s : State) (t : Nat) : (s.stopTimer t).excWait = s.excWait := (rfl)
@[simp] theorem State.stopTimer_bufs (s : State) (t : Nat) : (s.stopTimer t).bufs = s.bufs := (rfl)
@[simp] theorem State.stopTimer_bufRot (s : State) (t : Nat) : (s.stopTimer t).bufRot = s.bufRot := (rfl)
@[simp] theorem State.stopTimer_qmap (s : State) (t : Nat) : (s.stopTimer t).qmap = s.qmap := (rfl)
@[simp] theorem State.stopTimer_memch (s : State) (t : Nat) : (s.stopTimer t).memch = s.memch := (rfl)
@[simp] theorem State.stopTimer_ecc (s : State) (t : Nat) : (s.stopTimer t).ecc = s.ecc := (rfl)
@[simp] theorem State.stopTimer_mxe (s : State) (t : Nat) : (s.stopTimer t).mxe = s.mxe := (rfl)
@[simp] theorem State.stopTimer_queues (s : State) (t : Nat) : (s.stopTimer t).queues = s.queues := (rfl)
@[simp] theorem State.stopTimer_turns (s : State) (t : Nat) : (s.stopTimer t).turns = s.turns := (rfl)
@[simp] theorem State.stopTimer_elig (s : State) (t : Nat) : (s.stopTimer t).elig = s.elig := (rfl)
@[simp] theorem State.stopTimer_shapers (s : State) (t : Nat) : (s.stopTimer t).shapers = s.shapers := (rfl)
@[simp] theorem State.stopTimer_policers (s : State) (t : Nat) : (s.stopTimer t).policers = s.policers := (rfl)
@[simp] theorem State.stopTimer_gates (s : State) (t : Nat) : (s.stopTimer t).gates = s.gates := (rfl)
@[simp] theorem State.stopTimer_gateBusy (s : State) (t : Nat) : (s.stopTimer t).gateBusy = s.gateBusy := (rfl)
@[simp] theorem State.stopTimer_lanes (s : State) (t : Nat) : (s.stopTimer t).lanes = s.lanes := (rfl)
@[simp] theorem State.stopTimer_lports (s : State) (t : Nat) : (s.stopTimer t).lports = s.lports := (rfl)
@[simp] theorem State.stopTimer_mdio (s : State) (t : Nat) : (s.stopTimer t).mdio = s.mdio := (rfl)
@[simp] theorem State.stopTimer_tim (s : State) (t : Nat) : (s.stopTimer t).tim = s.tim := (rfl)
@[simp] theorem State.stopTimer_evt (s : State) (t : Nat) : (s.stopTimer t).evt = s.evt := (rfl)
@[simp] theorem State.stopTimer_log (s : State) (t : Nat) : (s.stopTimer t).log = s.log := (rfl)
@[simp] theorem State.stopTimer_tsk (s : State) (t : Nat) : (s.stopTimer t).tsk = s.tsk := (rfl)
@[simp] theorem State.stopTimer_cpu (s : State) (t : Nat) : (s.stopTimer t).cpu = s.cpu := (rfl)
@[simp] theorem State.stopTimer_pwr (s : State) (t : Nat) : (s.stopTimer t).pwr = s.pwr := (rfl)
@[simp] theorem State.stopTimer_rst (s : State) (t : Nat) : (s.stopTimer t).rst = s.rst := (rfl)
@[simp] theorem State.stopTimer_sys (s : State) (t : Nat) : (s.stopTimer t).sys = s.sys := (rfl)
@[simp] theorem State.stopTimer_hif (s : State) (t : Nat) : (s.stopTimer t).hif = s.hif := (rfl)
@[simp] theorem State.stopTimer_pins (s : State) (t : Nat) : (s.stopTimer t).pins = s.pins := (rfl)
@[simp] theorem State.stopTimer_clock (s : State) (t : Nat) : (s.stopTimer t).clock = s.clock := (rfl)
@[simp] theorem State.stopTimer_pending (s : State) (t : Nat) : (s.stopTimer t).pending = s.pending := (rfl)
@[simp] theorem State.stopTimer_dark (s : State) (t : Nat) : (s.stopTimer t).dark = s.dark := (rfl)
@[simp] theorem State.stopTimer_resp (s : State) (t : Nat) : (s.stopTimer t).resp = s.resp := (rfl)
@[simp] theorem State.stopTimer_out (s : State) (t : Nat) : (s.stopTimer t).out = s.out := (rfl)
@[simp] theorem State.stopTimer_fresh (s : State) (t : Nat) : (s.stopTimer t).fresh = s.fresh := (rfl)
@[simp] theorem State.stopTimer_rd (s : State) (t : Nat) (k : Nat) : (s.stopTimer t).rd k = s.rd k := State.rd_of_regs (State.stopTimer_regs s t) k
@[simp] theorem State.stopTimer_fld (s : State) (t : Nat) (g_ : Fld) : (s.stopTimer t).fld g_ = s.fld g_ := State.fld_of_regs (State.stopTimer_regs s t) g_
@[simp] theorem State.stopTimer_bit (s : State) (t : Nat) (g_ : Fld) : (s.stopTimer t).bit g_ = s.bit g_ := State.bit_of_regs (State.stopTimer_regs s t) g_
@[simp] theorem State.stopTimer_domOn (s : State) (t : Nat) (g_ : Nat) : (s.stopTimer t).domOn g_ = s.domOn g_ := State.domOn_of_pwr (State.stopTimer_pwr s t) g_

/-! `State.enqueuePost` -/

@[simp] theorem State.enqueuePost_regs (s : State) (p : Post) : (s.enqueuePost p).regs = s.regs := State.enqueuePost_keeps p (List.Subset.refl _) (SameBut.refl _ s) .regs (by decide)
@[simp] theorem State.enqueuePost_shown (s : State) (p : Post) : (s.enqueuePost p).shown = s.shown := State.enqueuePost_keeps p (List.Subset.refl _) (SameBut.refl _ s) .shown (by decide)
@[simp] theorem State.enqueuePost_mirror (s : State) (p : Post) : (s.enqueuePost p).mirror = s.mirror := State.enqueuePost_keeps p (List.Subset.refl _) (SameBut.refl _ s) .mirror (by decide)
@[simp] theorem State.enqueuePost_mem (s : State) (p : Post) : (s.enqueuePost p).mem = s.mem := State.enqueuePost_keeps p (List.Subset.refl _) (SameBut.refl _ s) .mem (by decide)
@[simp] theorem State.enqueuePost_seam (s : State) (p : Post) : (s.enqueuePost p).seam = s.seam := State.enqueuePost_keeps p (List.Subset.refl _) (SameBut.refl _ s) .seam (by decide)
@[simp] theorem State.enqueuePost_cmt (s : State) (p : Post) : (s.enqueuePost p).cmt = s.cmt := State.enqueuePost_keeps p (List.Subset.refl _) (SameBut.refl _ s) .cmt (by decide)
@[simp] theorem State.enqueuePost_own (s : State) (p : Post) : (s.enqueuePost p).own = s.own := State.enqueuePost_keeps p (List.Subset.refl _) (SameBut.refl _ s) .own (by decide)
@[simp] theorem State.enqueuePost_nextPkt (s : State) (p : Post) : (s.enqueuePost p).nextPkt = s.nextPkt := State.enqueuePost_keeps p (List.Subset.refl _) (SameBut.refl _ s) .nextPkt (by decide)
@[simp] theorem State.enqueuePost_rx (s : State) (p : Post) : (s.enqueuePost p).rx = s.rx := State.enqueuePost_keeps p (List.Subset.refl _) (SameBut.refl _ s) .rx (by decide)
@[simp] theorem State.enqueuePost_dsf (s : State) (p : Post) : (s.enqueuePost p).dsf = s.dsf := State.enqueuePost_keeps p (List.Subset.refl _) (SameBut.refl _ s) .dsf (by decide)
@[simp] theorem State.enqueuePost_tmap (s : State) (p : Post) : (s.enqueuePost p).tmap = s.tmap := State.enqueuePost_keeps p (List.Subset.refl _) (SameBut.refl _ s) .tmap (by decide)
@[simp] theorem State.enqueuePost_tribs (s : State) (p : Post) : (s.enqueuePost p).tribs = s.tribs := State.enqueuePost_keeps p (List.Subset.refl _) (SameBut.refl _ s) .tribs (by decide)
@[simp] theorem State.enqueuePost_tfrags (s : State) (p : Post) : (s.enqueuePost p).tfrags = s.tfrags := State.enqueuePost_keeps p (List.Subset.refl _) (SameBut.refl _ s) .tfrags (by decide)
@[simp] theorem State.enqueuePost_rows (s : State) (p : Post) : (s.enqueuePost p).rows = s.rows := State.enqueuePost_keeps p (List.Subset.refl _) (SameBut.refl _ s) .rows (by decide)
@[simp] theorem State.enqueuePost_ttest (s : State) (p : Post) : (s.enqueuePost p).ttest = s.ttest := State.enqueuePost_keeps p (List.Subset.refl _) (SameBut.refl _ s) .ttest (by decide)
@[simp] theorem State.enqueuePost_act (s : State) (p : Post) : (s.enqueuePost p).act = s.act := State.enqueuePost_keeps p (List.Subset.refl _) (SameBut.refl _ s) .act (by decide)
@[simp] theorem State.enqueuePost_upb (s : State) (p : Post) : (s.enqueuePost p).upb = s.upb := State.enqueuePost_keeps p (List.Subset.refl _) (SameBut.refl _ s) .upb (by decide)
@[simp] theorem State.enqueuePost_restarts (s : State) (p : Post) : (s.enqueuePost p).restarts = s.restarts := State.enqueuePost_keeps p (List.Subset.refl _) (SameBut.refl _ s) .restarts (by decide)
@[simp] theorem State.enqueuePost_gsm (s : State) (p : Post) : (s.enqueuePost p).gsm = s.gsm := State.enqueuePost_keeps p (List.Subset.refl _) (SameBut.refl _ s) .gsm (by decide)
@[simp] theorem State.enqueuePost_txEff (s : State) (p : Post) : (s.enqueuePost p).txEff = s.txEff := State.enqueuePost_keeps p (List.Subset.refl _) (SameBut.refl _ s) .txEff (by decide)
@[simp] theorem State.enqueuePost_pairs (s : State) (p : Post) : (s.enqueuePost p).pairs = s.pairs := State.enqueuePost_keeps p (List.Subset.refl _) (SameBut.refl _ s) .pairs (by decide)
@[simp] theorem State.enqueuePost_key (s : State) (p : Post) : (s.enqueuePost p).key = s.key := State.enqueuePost_keeps p (List.Subset.refl _) (SameBut.refl _ s) .key (by decide)
@[simp] theorem State.enqueuePost_pipes (s : State) (p : Post) : (s.enqueuePost p).pipes = s.pipes := State.enqueuePost_keeps p (List.Subset.refl _) (SameBut.refl _ s) .pipes (by decide)
@[simp] theorem State.enqueuePost_epochs (s : State) (p : Post) : (s.enqueuePost p).epochs = s.epochs := State.enqueuePost_keeps p (List.Subset.refl _) (SameBut.refl _ s) .epochs (by decide)
@[simp] theorem State.enqueuePost_prog (s : State) (p : Post) : (s.enqueuePost p).prog = s.prog := State.enqueuePost_keeps p (List.Subset.refl _) (SameBut.refl _ s) .prog (by decide)
@[simp] theorem State.enqueuePost_rcnt (s : State) (p : Post) : (s.enqueuePost p).rcnt = s.rcnt := State.enqueuePost_keeps p (List.Subset.refl _) (SameBut.refl _ s) .rcnt (by decide)
@[simp] theorem State.enqueuePost_rcntHeld (s : State) (p : Post) : (s.enqueuePost p).rcntHeld = s.rcntHeld := State.enqueuePost_keeps p (List.Subset.refl _) (SameBut.refl _ s) .rcntHeld (by decide)
@[simp] theorem State.enqueuePost_excWait (s : State) (p : Post) : (s.enqueuePost p).excWait = s.excWait := State.enqueuePost_keeps p (List.Subset.refl _) (SameBut.refl _ s) .excWait (by decide)
@[simp] theorem State.enqueuePost_bufs (s : State) (p : Post) : (s.enqueuePost p).bufs = s.bufs := State.enqueuePost_keeps p (List.Subset.refl _) (SameBut.refl _ s) .bufs (by decide)
@[simp] theorem State.enqueuePost_bufRot (s : State) (p : Post) : (s.enqueuePost p).bufRot = s.bufRot := State.enqueuePost_keeps p (List.Subset.refl _) (SameBut.refl _ s) .bufRot (by decide)
@[simp] theorem State.enqueuePost_qmap (s : State) (p : Post) : (s.enqueuePost p).qmap = s.qmap := State.enqueuePost_keeps p (List.Subset.refl _) (SameBut.refl _ s) .qmap (by decide)
@[simp] theorem State.enqueuePost_memch (s : State) (p : Post) : (s.enqueuePost p).memch = s.memch := State.enqueuePost_keeps p (List.Subset.refl _) (SameBut.refl _ s) .memch (by decide)
@[simp] theorem State.enqueuePost_ecc (s : State) (p : Post) : (s.enqueuePost p).ecc = s.ecc := State.enqueuePost_keeps p (List.Subset.refl _) (SameBut.refl _ s) .ecc (by decide)
@[simp] theorem State.enqueuePost_mxe (s : State) (p : Post) : (s.enqueuePost p).mxe = s.mxe := State.enqueuePost_keeps p (List.Subset.refl _) (SameBut.refl _ s) .mxe (by decide)
@[simp] theorem State.enqueuePost_queues (s : State) (p : Post) : (s.enqueuePost p).queues = s.queues := State.enqueuePost_keeps p (List.Subset.refl _) (SameBut.refl _ s) .queues (by decide)
@[simp] theorem State.enqueuePost_turns (s : State) (p : Post) : (s.enqueuePost p).turns = s.turns := State.enqueuePost_keeps p (List.Subset.refl _) (SameBut.refl _ s) .turns (by decide)
@[simp] theorem State.enqueuePost_elig (s : State) (p : Post) : (s.enqueuePost p).elig = s.elig := State.enqueuePost_keeps p (List.Subset.refl _) (SameBut.refl _ s) .elig (by decide)
@[simp] theorem State.enqueuePost_shapers (s : State) (p : Post) : (s.enqueuePost p).shapers = s.shapers := State.enqueuePost_keeps p (List.Subset.refl _) (SameBut.refl _ s) .shapers (by decide)
@[simp] theorem State.enqueuePost_policers (s : State) (p : Post) : (s.enqueuePost p).policers = s.policers := State.enqueuePost_keeps p (List.Subset.refl _) (SameBut.refl _ s) .policers (by decide)
@[simp] theorem State.enqueuePost_gates (s : State) (p : Post) : (s.enqueuePost p).gates = s.gates := State.enqueuePost_keeps p (List.Subset.refl _) (SameBut.refl _ s) .gates (by decide)
@[simp] theorem State.enqueuePost_gateBusy (s : State) (p : Post) : (s.enqueuePost p).gateBusy = s.gateBusy := State.enqueuePost_keeps p (List.Subset.refl _) (SameBut.refl _ s) .gateBusy (by decide)
@[simp] theorem State.enqueuePost_lanes (s : State) (p : Post) : (s.enqueuePost p).lanes = s.lanes := State.enqueuePost_keeps p (List.Subset.refl _) (SameBut.refl _ s) .lanes (by decide)
@[simp] theorem State.enqueuePost_lports (s : State) (p : Post) : (s.enqueuePost p).lports = s.lports := State.enqueuePost_keeps p (List.Subset.refl _) (SameBut.refl _ s) .lports (by decide)
@[simp] theorem State.enqueuePost_mdio (s : State) (p : Post) : (s.enqueuePost p).mdio = s.mdio := State.enqueuePost_keeps p (List.Subset.refl _) (SameBut.refl _ s) .mdio (by decide)
@[simp] theorem State.enqueuePost_tim (s : State) (p : Post) : (s.enqueuePost p).tim = s.tim := State.enqueuePost_keeps p (List.Subset.refl _) (SameBut.refl _ s) .tim (by decide)
@[simp] theorem State.enqueuePost_evt (s : State) (p : Post) : (s.enqueuePost p).evt = s.evt := State.enqueuePost_keeps p (List.Subset.refl _) (SameBut.refl _ s) .evt (by decide)
@[simp] theorem State.enqueuePost_log (s : State) (p : Post) : (s.enqueuePost p).log = s.log := State.enqueuePost_keeps p (List.Subset.refl _) (SameBut.refl _ s) .log (by decide)
@[simp] theorem State.enqueuePost_cpu (s : State) (p : Post) : (s.enqueuePost p).cpu = s.cpu := State.enqueuePost_keeps p (List.Subset.refl _) (SameBut.refl _ s) .cpu (by decide)
@[simp] theorem State.enqueuePost_pwr (s : State) (p : Post) : (s.enqueuePost p).pwr = s.pwr := State.enqueuePost_keeps p (List.Subset.refl _) (SameBut.refl _ s) .pwr (by decide)
@[simp] theorem State.enqueuePost_rst (s : State) (p : Post) : (s.enqueuePost p).rst = s.rst := State.enqueuePost_keeps p (List.Subset.refl _) (SameBut.refl _ s) .rst (by decide)
@[simp] theorem State.enqueuePost_sys (s : State) (p : Post) : (s.enqueuePost p).sys = s.sys := State.enqueuePost_keeps p (List.Subset.refl _) (SameBut.refl _ s) .sys (by decide)
@[simp] theorem State.enqueuePost_hif (s : State) (p : Post) : (s.enqueuePost p).hif = s.hif := State.enqueuePost_keeps p (List.Subset.refl _) (SameBut.refl _ s) .hif (by decide)
@[simp] theorem State.enqueuePost_pins (s : State) (p : Post) : (s.enqueuePost p).pins = s.pins := State.enqueuePost_keeps p (List.Subset.refl _) (SameBut.refl _ s) .pins (by decide)
@[simp] theorem State.enqueuePost_clock (s : State) (p : Post) : (s.enqueuePost p).clock = s.clock := State.enqueuePost_keeps p (List.Subset.refl _) (SameBut.refl _ s) .clock (by decide)
@[simp] theorem State.enqueuePost_timers (s : State) (p : Post) : (s.enqueuePost p).timers = s.timers := State.enqueuePost_keeps p (List.Subset.refl _) (SameBut.refl _ s) .timers (by decide)
@[simp] theorem State.enqueuePost_pending (s : State) (p : Post) : (s.enqueuePost p).pending = s.pending := State.enqueuePost_keeps p (List.Subset.refl _) (SameBut.refl _ s) .pending (by decide)
@[simp] theorem State.enqueuePost_dark (s : State) (p : Post) : (s.enqueuePost p).dark = s.dark := State.enqueuePost_keeps p (List.Subset.refl _) (SameBut.refl _ s) .dark (by decide)
@[simp] theorem State.enqueuePost_resp (s : State) (p : Post) : (s.enqueuePost p).resp = s.resp := State.enqueuePost_keeps p (List.Subset.refl _) (SameBut.refl _ s) .resp (by decide)
@[simp] theorem State.enqueuePost_out (s : State) (p : Post) : (s.enqueuePost p).out = s.out := State.enqueuePost_keeps p (List.Subset.refl _) (SameBut.refl _ s) .out (by decide)
@[simp] theorem State.enqueuePost_fresh (s : State) (p : Post) : (s.enqueuePost p).fresh = s.fresh := State.enqueuePost_keeps p (List.Subset.refl _) (SameBut.refl _ s) .fresh (by decide)
@[simp] theorem State.enqueuePost_rd (s : State) (p : Post) (k : Nat) : (s.enqueuePost p).rd k = s.rd k := State.rd_of_regs (State.enqueuePost_regs s p) k
@[simp] theorem State.enqueuePost_fld (s : State) (p : Post) (g_ : Fld) : (s.enqueuePost p).fld g_ = s.fld g_ := State.fld_of_regs (State.enqueuePost_regs s p) g_
@[simp] theorem State.enqueuePost_bit (s : State) (p : Post) (g_ : Fld) : (s.enqueuePost p).bit g_ = s.bit g_ := State.bit_of_regs (State.enqueuePost_regs s p) g_
@[simp] theorem State.enqueuePost_running (s : State) (p : Post) (g_ : Nat) : (s.enqueuePost p).running g_ = s.running g_ := State.running_of_timers (State.enqueuePost_timers s p) g_
@[simp] theorem State.enqueuePost_domOn (s : State) (p : Post) (g_ : Nat) : (s.enqueuePost p).domOn g_ = s.domOn g_ := State.domOn_of_pwr (State.enqueuePost_pwr s p) g_

/-! `State.disarm` -/

@[simp] theorem State.disarm_shown (s : State) (v : Nat) : (s.disarm v).shown = s.shown := State.disarm_keeps v (List.Subset.refl _) (SameBut.refl _ s) .shown (by decide)
@[simp] theorem State.disarm_mirror (s : State) (v : Nat) : (s.disarm v).mirror = s.mirror := State.disarm_keeps v (List.Subset.refl _) (SameBut.refl _ s) .mirror (by decide)
@[simp] theorem State.disarm_mem (s : State) (v : Nat) : (s.disarm v).mem = s.mem := State.disarm_keeps v (List.Subset.refl _) (SameBut.refl _ s) .mem (by decide)
@[simp] theorem State.disarm_seam (s : State) (v : Nat) : (s.disarm v).seam = s.seam := State.disarm_keeps v (List.Subset.refl _) (SameBut.refl _ s) .seam (by decide)
@[simp] theorem State.disarm_cmt (s : State) (v : Nat) : (s.disarm v).cmt = s.cmt := State.disarm_keeps v (List.Subset.refl _) (SameBut.refl _ s) .cmt (by decide)
@[simp] theorem State.disarm_own (s : State) (v : Nat) : (s.disarm v).own = s.own := State.disarm_keeps v (List.Subset.refl _) (SameBut.refl _ s) .own (by decide)
@[simp] theorem State.disarm_nextPkt (s : State) (v : Nat) : (s.disarm v).nextPkt = s.nextPkt := State.disarm_keeps v (List.Subset.refl _) (SameBut.refl _ s) .nextPkt (by decide)
@[simp] theorem State.disarm_rx (s : State) (v : Nat) : (s.disarm v).rx = s.rx := State.disarm_keeps v (List.Subset.refl _) (SameBut.refl _ s) .rx (by decide)
@[simp] theorem State.disarm_dsf (s : State) (v : Nat) : (s.disarm v).dsf = s.dsf := State.disarm_keeps v (List.Subset.refl _) (SameBut.refl _ s) .dsf (by decide)
@[simp] theorem State.disarm_tmap (s : State) (v : Nat) : (s.disarm v).tmap = s.tmap := State.disarm_keeps v (List.Subset.refl _) (SameBut.refl _ s) .tmap (by decide)
@[simp] theorem State.disarm_tribs (s : State) (v : Nat) : (s.disarm v).tribs = s.tribs := State.disarm_keeps v (List.Subset.refl _) (SameBut.refl _ s) .tribs (by decide)
@[simp] theorem State.disarm_tfrags (s : State) (v : Nat) : (s.disarm v).tfrags = s.tfrags := State.disarm_keeps v (List.Subset.refl _) (SameBut.refl _ s) .tfrags (by decide)
@[simp] theorem State.disarm_rows (s : State) (v : Nat) : (s.disarm v).rows = s.rows := State.disarm_keeps v (List.Subset.refl _) (SameBut.refl _ s) .rows (by decide)
@[simp] theorem State.disarm_ttest (s : State) (v : Nat) : (s.disarm v).ttest = s.ttest := State.disarm_keeps v (List.Subset.refl _) (SameBut.refl _ s) .ttest (by decide)
@[simp] theorem State.disarm_act (s : State) (v : Nat) : (s.disarm v).act = s.act := State.disarm_keeps v (List.Subset.refl _) (SameBut.refl _ s) .act (by decide)
@[simp] theorem State.disarm_upb (s : State) (v : Nat) : (s.disarm v).upb = s.upb := State.disarm_keeps v (List.Subset.refl _) (SameBut.refl _ s) .upb (by decide)
@[simp] theorem State.disarm_restarts (s : State) (v : Nat) : (s.disarm v).restarts = s.restarts := State.disarm_keeps v (List.Subset.refl _) (SameBut.refl _ s) .restarts (by decide)
@[simp] theorem State.disarm_gsm (s : State) (v : Nat) : (s.disarm v).gsm = s.gsm := State.disarm_keeps v (List.Subset.refl _) (SameBut.refl _ s) .gsm (by decide)
@[simp] theorem State.disarm_txEff (s : State) (v : Nat) : (s.disarm v).txEff = s.txEff := State.disarm_keeps v (List.Subset.refl _) (SameBut.refl _ s) .txEff (by decide)
@[simp] theorem State.disarm_pairs (s : State) (v : Nat) : (s.disarm v).pairs = s.pairs := State.disarm_keeps v (List.Subset.refl _) (SameBut.refl _ s) .pairs (by decide)
@[simp] theorem State.disarm_key (s : State) (v : Nat) : (s.disarm v).key = s.key := State.disarm_keeps v (List.Subset.refl _) (SameBut.refl _ s) .key (by decide)
@[simp] theorem State.disarm_pipes (s : State) (v : Nat) : (s.disarm v).pipes = s.pipes := State.disarm_keeps v (List.Subset.refl _) (SameBut.refl _ s) .pipes (by decide)
@[simp] theorem State.disarm_epochs (s : State) (v : Nat) : (s.disarm v).epochs = s.epochs := State.disarm_keeps v (List.Subset.refl _) (SameBut.refl _ s) .epochs (by decide)
@[simp] theorem State.disarm_prog (s : State) (v : Nat) : (s.disarm v).prog = s.prog := State.disarm_keeps v (List.Subset.refl _) (SameBut.refl _ s) .prog (by decide)
@[simp] theorem State.disarm_rcnt (s : State) (v : Nat) : (s.disarm v).rcnt = s.rcnt := State.disarm_keeps v (List.Subset.refl _) (SameBut.refl _ s) .rcnt (by decide)
@[simp] theorem State.disarm_rcntHeld (s : State) (v : Nat) : (s.disarm v).rcntHeld = s.rcntHeld := State.disarm_keeps v (List.Subset.refl _) (SameBut.refl _ s) .rcntHeld (by decide)
@[simp] theorem State.disarm_excWait (s : State) (v : Nat) : (s.disarm v).excWait = s.excWait := State.disarm_keeps v (List.Subset.refl _) (SameBut.refl _ s) .excWait (by decide)
@[simp] theorem State.disarm_bufs (s : State) (v : Nat) : (s.disarm v).bufs = s.bufs := State.disarm_keeps v (List.Subset.refl _) (SameBut.refl _ s) .bufs (by decide)
@[simp] theorem State.disarm_bufRot (s : State) (v : Nat) : (s.disarm v).bufRot = s.bufRot := State.disarm_keeps v (List.Subset.refl _) (SameBut.refl _ s) .bufRot (by decide)
@[simp] theorem State.disarm_qmap (s : State) (v : Nat) : (s.disarm v).qmap = s.qmap := State.disarm_keeps v (List.Subset.refl _) (SameBut.refl _ s) .qmap (by decide)
@[simp] theorem State.disarm_memch (s : State) (v : Nat) : (s.disarm v).memch = s.memch := State.disarm_keeps v (List.Subset.refl _) (SameBut.refl _ s) .memch (by decide)
@[simp] theorem State.disarm_ecc (s : State) (v : Nat) : (s.disarm v).ecc = s.ecc := State.disarm_keeps v (List.Subset.refl _) (SameBut.refl _ s) .ecc (by decide)
@[simp] theorem State.disarm_mxe (s : State) (v : Nat) : (s.disarm v).mxe = s.mxe := State.disarm_keeps v (List.Subset.refl _) (SameBut.refl _ s) .mxe (by decide)
@[simp] theorem State.disarm_queues (s : State) (v : Nat) : (s.disarm v).queues = s.queues := State.disarm_keeps v (List.Subset.refl _) (SameBut.refl _ s) .queues (by decide)
@[simp] theorem State.disarm_turns (s : State) (v : Nat) : (s.disarm v).turns = s.turns := State.disarm_keeps v (List.Subset.refl _) (SameBut.refl _ s) .turns (by decide)
@[simp] theorem State.disarm_elig (s : State) (v : Nat) : (s.disarm v).elig = s.elig := State.disarm_keeps v (List.Subset.refl _) (SameBut.refl _ s) .elig (by decide)
@[simp] theorem State.disarm_shapers (s : State) (v : Nat) : (s.disarm v).shapers = s.shapers := State.disarm_keeps v (List.Subset.refl _) (SameBut.refl _ s) .shapers (by decide)
@[simp] theorem State.disarm_policers (s : State) (v : Nat) : (s.disarm v).policers = s.policers := State.disarm_keeps v (List.Subset.refl _) (SameBut.refl _ s) .policers (by decide)
@[simp] theorem State.disarm_gates (s : State) (v : Nat) : (s.disarm v).gates = s.gates := State.disarm_keeps v (List.Subset.refl _) (SameBut.refl _ s) .gates (by decide)
@[simp] theorem State.disarm_gateBusy (s : State) (v : Nat) : (s.disarm v).gateBusy = s.gateBusy := State.disarm_keeps v (List.Subset.refl _) (SameBut.refl _ s) .gateBusy (by decide)
@[simp] theorem State.disarm_lanes (s : State) (v : Nat) : (s.disarm v).lanes = s.lanes := State.disarm_keeps v (List.Subset.refl _) (SameBut.refl _ s) .lanes (by decide)
@[simp] theorem State.disarm_lports (s : State) (v : Nat) : (s.disarm v).lports = s.lports := State.disarm_keeps v (List.Subset.refl _) (SameBut.refl _ s) .lports (by decide)
@[simp] theorem State.disarm_mdio (s : State) (v : Nat) : (s.disarm v).mdio = s.mdio := State.disarm_keeps v (List.Subset.refl _) (SameBut.refl _ s) .mdio (by decide)
@[simp] theorem State.disarm_tim (s : State) (v : Nat) : (s.disarm v).tim = s.tim := State.disarm_keeps v (List.Subset.refl _) (SameBut.refl _ s) .tim (by decide)
@[simp] theorem State.disarm_evt (s : State) (v : Nat) : (s.disarm v).evt = s.evt := State.disarm_keeps v (List.Subset.refl _) (SameBut.refl _ s) .evt (by decide)
@[simp] theorem State.disarm_log (s : State) (v : Nat) : (s.disarm v).log = s.log := State.disarm_keeps v (List.Subset.refl _) (SameBut.refl _ s) .log (by decide)
@[simp] theorem State.disarm_tsk (s : State) (v : Nat) : (s.disarm v).tsk = s.tsk := State.disarm_keeps v (List.Subset.refl _) (SameBut.refl _ s) .tsk (by decide)
@[simp] theorem State.disarm_cpu (s : State) (v : Nat) : (s.disarm v).cpu = s.cpu := State.disarm_keeps v (List.Subset.refl _) (SameBut.refl _ s) .cpu (by decide)
@[simp] theorem State.disarm_pwr (s : State) (v : Nat) : (s.disarm v).pwr = s.pwr := State.disarm_keeps v (List.Subset.refl _) (SameBut.refl _ s) .pwr (by decide)
@[simp] theorem State.disarm_rst (s : State) (v : Nat) : (s.disarm v).rst = s.rst := State.disarm_keeps v (List.Subset.refl _) (SameBut.refl _ s) .rst (by decide)
@[simp] theorem State.disarm_sys (s : State) (v : Nat) : (s.disarm v).sys = s.sys := State.disarm_keeps v (List.Subset.refl _) (SameBut.refl _ s) .sys (by decide)
@[simp] theorem State.disarm_hif (s : State) (v : Nat) : (s.disarm v).hif = s.hif := State.disarm_keeps v (List.Subset.refl _) (SameBut.refl _ s) .hif (by decide)
@[simp] theorem State.disarm_pins (s : State) (v : Nat) : (s.disarm v).pins = s.pins := State.disarm_keeps v (List.Subset.refl _) (SameBut.refl _ s) .pins (by decide)
@[simp] theorem State.disarm_clock (s : State) (v : Nat) : (s.disarm v).clock = s.clock := State.disarm_keeps v (List.Subset.refl _) (SameBut.refl _ s) .clock (by decide)
@[simp] theorem State.disarm_timers (s : State) (v : Nat) : (s.disarm v).timers = s.timers := State.disarm_keeps v (List.Subset.refl _) (SameBut.refl _ s) .timers (by decide)
@[simp] theorem State.disarm_pending (s : State) (v : Nat) : (s.disarm v).pending = s.pending := State.disarm_keeps v (List.Subset.refl _) (SameBut.refl _ s) .pending (by decide)
@[simp] theorem State.disarm_dark (s : State) (v : Nat) : (s.disarm v).dark = s.dark := State.disarm_keeps v (List.Subset.refl _) (SameBut.refl _ s) .dark (by decide)
@[simp] theorem State.disarm_resp (s : State) (v : Nat) : (s.disarm v).resp = s.resp := State.disarm_keeps v (List.Subset.refl _) (SameBut.refl _ s) .resp (by decide)
@[simp] theorem State.disarm_out (s : State) (v : Nat) : (s.disarm v).out = s.out := State.disarm_keeps v (List.Subset.refl _) (SameBut.refl _ s) .out (by decide)
@[simp] theorem State.disarm_fresh (s : State) (v : Nat) : (s.disarm v).fresh = s.fresh := State.disarm_keeps v (List.Subset.refl _) (SameBut.refl _ s) .fresh (by decide)
@[simp] theorem State.disarm_running (s : State) (v : Nat) (g_ : Nat) : (s.disarm v).running g_ = s.running g_ := State.running_of_timers (State.disarm_timers s v) g_
@[simp] theorem State.disarm_domOn (s : State) (v : Nat) (g_ : Nat) : (s.disarm v).domOn g_ = s.domOn g_ := State.domOn_of_pwr (State.disarm_pwr s v) g_

/-! `State.msixDue` -/

@[simp] theorem State.msixDue_regs (s : State) (v : Nat) : (s.msixDue v).regs = s.regs := State.msixDue_keeps v (List.Subset.refl _) (SameBut.refl _ s) .regs (by decide)
@[simp] theorem State.msixDue_shown (s : State) (v : Nat) : (s.msixDue v).shown = s.shown := State.msixDue_keeps v (List.Subset.refl _) (SameBut.refl _ s) .shown (by decide)
@[simp] theorem State.msixDue_mirror (s : State) (v : Nat) : (s.msixDue v).mirror = s.mirror := State.msixDue_keeps v (List.Subset.refl _) (SameBut.refl _ s) .mirror (by decide)
@[simp] theorem State.msixDue_mem (s : State) (v : Nat) : (s.msixDue v).mem = s.mem := State.msixDue_keeps v (List.Subset.refl _) (SameBut.refl _ s) .mem (by decide)
@[simp] theorem State.msixDue_seam (s : State) (v : Nat) : (s.msixDue v).seam = s.seam := State.msixDue_keeps v (List.Subset.refl _) (SameBut.refl _ s) .seam (by decide)
@[simp] theorem State.msixDue_cmt (s : State) (v : Nat) : (s.msixDue v).cmt = s.cmt := State.msixDue_keeps v (List.Subset.refl _) (SameBut.refl _ s) .cmt (by decide)
@[simp] theorem State.msixDue_own (s : State) (v : Nat) : (s.msixDue v).own = s.own := State.msixDue_keeps v (List.Subset.refl _) (SameBut.refl _ s) .own (by decide)
@[simp] theorem State.msixDue_nextPkt (s : State) (v : Nat) : (s.msixDue v).nextPkt = s.nextPkt := State.msixDue_keeps v (List.Subset.refl _) (SameBut.refl _ s) .nextPkt (by decide)
@[simp] theorem State.msixDue_rx (s : State) (v : Nat) : (s.msixDue v).rx = s.rx := State.msixDue_keeps v (List.Subset.refl _) (SameBut.refl _ s) .rx (by decide)
@[simp] theorem State.msixDue_dsf (s : State) (v : Nat) : (s.msixDue v).dsf = s.dsf := State.msixDue_keeps v (List.Subset.refl _) (SameBut.refl _ s) .dsf (by decide)
@[simp] theorem State.msixDue_tmap (s : State) (v : Nat) : (s.msixDue v).tmap = s.tmap := State.msixDue_keeps v (List.Subset.refl _) (SameBut.refl _ s) .tmap (by decide)
@[simp] theorem State.msixDue_tribs (s : State) (v : Nat) : (s.msixDue v).tribs = s.tribs := State.msixDue_keeps v (List.Subset.refl _) (SameBut.refl _ s) .tribs (by decide)
@[simp] theorem State.msixDue_tfrags (s : State) (v : Nat) : (s.msixDue v).tfrags = s.tfrags := State.msixDue_keeps v (List.Subset.refl _) (SameBut.refl _ s) .tfrags (by decide)
@[simp] theorem State.msixDue_rows (s : State) (v : Nat) : (s.msixDue v).rows = s.rows := State.msixDue_keeps v (List.Subset.refl _) (SameBut.refl _ s) .rows (by decide)
@[simp] theorem State.msixDue_ttest (s : State) (v : Nat) : (s.msixDue v).ttest = s.ttest := State.msixDue_keeps v (List.Subset.refl _) (SameBut.refl _ s) .ttest (by decide)
@[simp] theorem State.msixDue_act (s : State) (v : Nat) : (s.msixDue v).act = s.act := State.msixDue_keeps v (List.Subset.refl _) (SameBut.refl _ s) .act (by decide)
@[simp] theorem State.msixDue_upb (s : State) (v : Nat) : (s.msixDue v).upb = s.upb := State.msixDue_keeps v (List.Subset.refl _) (SameBut.refl _ s) .upb (by decide)
@[simp] theorem State.msixDue_restarts (s : State) (v : Nat) : (s.msixDue v).restarts = s.restarts := State.msixDue_keeps v (List.Subset.refl _) (SameBut.refl _ s) .restarts (by decide)
@[simp] theorem State.msixDue_gsm (s : State) (v : Nat) : (s.msixDue v).gsm = s.gsm := State.msixDue_keeps v (List.Subset.refl _) (SameBut.refl _ s) .gsm (by decide)
@[simp] theorem State.msixDue_txEff (s : State) (v : Nat) : (s.msixDue v).txEff = s.txEff := State.msixDue_keeps v (List.Subset.refl _) (SameBut.refl _ s) .txEff (by decide)
@[simp] theorem State.msixDue_pairs (s : State) (v : Nat) : (s.msixDue v).pairs = s.pairs := State.msixDue_keeps v (List.Subset.refl _) (SameBut.refl _ s) .pairs (by decide)
@[simp] theorem State.msixDue_key (s : State) (v : Nat) : (s.msixDue v).key = s.key := State.msixDue_keeps v (List.Subset.refl _) (SameBut.refl _ s) .key (by decide)
@[simp] theorem State.msixDue_pipes (s : State) (v : Nat) : (s.msixDue v).pipes = s.pipes := State.msixDue_keeps v (List.Subset.refl _) (SameBut.refl _ s) .pipes (by decide)
@[simp] theorem State.msixDue_epochs (s : State) (v : Nat) : (s.msixDue v).epochs = s.epochs := State.msixDue_keeps v (List.Subset.refl _) (SameBut.refl _ s) .epochs (by decide)
@[simp] theorem State.msixDue_prog (s : State) (v : Nat) : (s.msixDue v).prog = s.prog := State.msixDue_keeps v (List.Subset.refl _) (SameBut.refl _ s) .prog (by decide)
@[simp] theorem State.msixDue_rcnt (s : State) (v : Nat) : (s.msixDue v).rcnt = s.rcnt := State.msixDue_keeps v (List.Subset.refl _) (SameBut.refl _ s) .rcnt (by decide)
@[simp] theorem State.msixDue_rcntHeld (s : State) (v : Nat) : (s.msixDue v).rcntHeld = s.rcntHeld := State.msixDue_keeps v (List.Subset.refl _) (SameBut.refl _ s) .rcntHeld (by decide)
@[simp] theorem State.msixDue_excWait (s : State) (v : Nat) : (s.msixDue v).excWait = s.excWait := State.msixDue_keeps v (List.Subset.refl _) (SameBut.refl _ s) .excWait (by decide)
@[simp] theorem State.msixDue_bufs (s : State) (v : Nat) : (s.msixDue v).bufs = s.bufs := State.msixDue_keeps v (List.Subset.refl _) (SameBut.refl _ s) .bufs (by decide)
@[simp] theorem State.msixDue_bufRot (s : State) (v : Nat) : (s.msixDue v).bufRot = s.bufRot := State.msixDue_keeps v (List.Subset.refl _) (SameBut.refl _ s) .bufRot (by decide)
@[simp] theorem State.msixDue_qmap (s : State) (v : Nat) : (s.msixDue v).qmap = s.qmap := State.msixDue_keeps v (List.Subset.refl _) (SameBut.refl _ s) .qmap (by decide)
@[simp] theorem State.msixDue_memch (s : State) (v : Nat) : (s.msixDue v).memch = s.memch := State.msixDue_keeps v (List.Subset.refl _) (SameBut.refl _ s) .memch (by decide)
@[simp] theorem State.msixDue_ecc (s : State) (v : Nat) : (s.msixDue v).ecc = s.ecc := State.msixDue_keeps v (List.Subset.refl _) (SameBut.refl _ s) .ecc (by decide)
@[simp] theorem State.msixDue_mxe (s : State) (v : Nat) : (s.msixDue v).mxe = s.mxe := State.msixDue_keeps v (List.Subset.refl _) (SameBut.refl _ s) .mxe (by decide)
@[simp] theorem State.msixDue_queues (s : State) (v : Nat) : (s.msixDue v).queues = s.queues := State.msixDue_keeps v (List.Subset.refl _) (SameBut.refl _ s) .queues (by decide)
@[simp] theorem State.msixDue_turns (s : State) (v : Nat) : (s.msixDue v).turns = s.turns := State.msixDue_keeps v (List.Subset.refl _) (SameBut.refl _ s) .turns (by decide)
@[simp] theorem State.msixDue_elig (s : State) (v : Nat) : (s.msixDue v).elig = s.elig := State.msixDue_keeps v (List.Subset.refl _) (SameBut.refl _ s) .elig (by decide)
@[simp] theorem State.msixDue_shapers (s : State) (v : Nat) : (s.msixDue v).shapers = s.shapers := State.msixDue_keeps v (List.Subset.refl _) (SameBut.refl _ s) .shapers (by decide)
@[simp] theorem State.msixDue_policers (s : State) (v : Nat) : (s.msixDue v).policers = s.policers := State.msixDue_keeps v (List.Subset.refl _) (SameBut.refl _ s) .policers (by decide)
@[simp] theorem State.msixDue_gates (s : State) (v : Nat) : (s.msixDue v).gates = s.gates := State.msixDue_keeps v (List.Subset.refl _) (SameBut.refl _ s) .gates (by decide)
@[simp] theorem State.msixDue_gateBusy (s : State) (v : Nat) : (s.msixDue v).gateBusy = s.gateBusy := State.msixDue_keeps v (List.Subset.refl _) (SameBut.refl _ s) .gateBusy (by decide)
@[simp] theorem State.msixDue_lanes (s : State) (v : Nat) : (s.msixDue v).lanes = s.lanes := State.msixDue_keeps v (List.Subset.refl _) (SameBut.refl _ s) .lanes (by decide)
@[simp] theorem State.msixDue_lports (s : State) (v : Nat) : (s.msixDue v).lports = s.lports := State.msixDue_keeps v (List.Subset.refl _) (SameBut.refl _ s) .lports (by decide)
@[simp] theorem State.msixDue_mdio (s : State) (v : Nat) : (s.msixDue v).mdio = s.mdio := State.msixDue_keeps v (List.Subset.refl _) (SameBut.refl _ s) .mdio (by decide)
@[simp] theorem State.msixDue_tim (s : State) (v : Nat) : (s.msixDue v).tim = s.tim := State.msixDue_keeps v (List.Subset.refl _) (SameBut.refl _ s) .tim (by decide)
@[simp] theorem State.msixDue_evt (s : State) (v : Nat) : (s.msixDue v).evt = s.evt := State.msixDue_keeps v (List.Subset.refl _) (SameBut.refl _ s) .evt (by decide)
@[simp] theorem State.msixDue_log (s : State) (v : Nat) : (s.msixDue v).log = s.log := State.msixDue_keeps v (List.Subset.refl _) (SameBut.refl _ s) .log (by decide)
@[simp] theorem State.msixDue_tsk (s : State) (v : Nat) : (s.msixDue v).tsk = s.tsk := State.msixDue_keeps v (List.Subset.refl _) (SameBut.refl _ s) .tsk (by decide)
@[simp] theorem State.msixDue_cpu (s : State) (v : Nat) : (s.msixDue v).cpu = s.cpu := State.msixDue_keeps v (List.Subset.refl _) (SameBut.refl _ s) .cpu (by decide)
@[simp] theorem State.msixDue_pwr (s : State) (v : Nat) : (s.msixDue v).pwr = s.pwr := State.msixDue_keeps v (List.Subset.refl _) (SameBut.refl _ s) .pwr (by decide)
@[simp] theorem State.msixDue_rst (s : State) (v : Nat) : (s.msixDue v).rst = s.rst := State.msixDue_keeps v (List.Subset.refl _) (SameBut.refl _ s) .rst (by decide)
@[simp] theorem State.msixDue_sys (s : State) (v : Nat) : (s.msixDue v).sys = s.sys := State.msixDue_keeps v (List.Subset.refl _) (SameBut.refl _ s) .sys (by decide)
@[simp] theorem State.msixDue_pins (s : State) (v : Nat) : (s.msixDue v).pins = s.pins := State.msixDue_keeps v (List.Subset.refl _) (SameBut.refl _ s) .pins (by decide)
@[simp] theorem State.msixDue_clock (s : State) (v : Nat) : (s.msixDue v).clock = s.clock := State.msixDue_keeps v (List.Subset.refl _) (SameBut.refl _ s) .clock (by decide)
@[simp] theorem State.msixDue_timers (s : State) (v : Nat) : (s.msixDue v).timers = s.timers := State.msixDue_keeps v (List.Subset.refl _) (SameBut.refl _ s) .timers (by decide)
@[simp] theorem State.msixDue_pending (s : State) (v : Nat) : (s.msixDue v).pending = s.pending := State.msixDue_keeps v (List.Subset.refl _) (SameBut.refl _ s) .pending (by decide)
@[simp] theorem State.msixDue_dark (s : State) (v : Nat) : (s.msixDue v).dark = s.dark := State.msixDue_keeps v (List.Subset.refl _) (SameBut.refl _ s) .dark (by decide)
@[simp] theorem State.msixDue_resp (s : State) (v : Nat) : (s.msixDue v).resp = s.resp := State.msixDue_keeps v (List.Subset.refl _) (SameBut.refl _ s) .resp (by decide)
@[simp] theorem State.msixDue_fresh (s : State) (v : Nat) : (s.msixDue v).fresh = s.fresh := State.msixDue_keeps v (List.Subset.refl _) (SameBut.refl _ s) .fresh (by decide)
@[simp] theorem State.msixDue_fld (s : State) (v : Nat) (g_ : Fld) : (s.msixDue v).fld g_ = s.fld g_ := State.fld_of_regs (State.msixDue_regs s v) g_
@[simp] theorem State.msixDue_bit (s : State) (v : Nat) (g_ : Fld) : (s.msixDue v).bit g_ = s.bit g_ := State.bit_of_regs (State.msixDue_regs s v) g_
@[simp] theorem State.msixDue_running (s : State) (v : Nat) (g_ : Nat) : (s.msixDue v).running g_ = s.running g_ := State.running_of_timers (State.msixDue_timers s v) g_
@[simp] theorem State.msixDue_domOn (s : State) (v : Nat) (g_ : Nat) : (s.msixDue v).domOn g_ = s.domOn g_ := State.domOn_of_pwr (State.msixDue_pwr s v) g_

/-! `State.record` -/

@[simp] theorem State.record_shown (s : State) (rec : EvRec) : (s.record rec).shown = s.shown := State.record_keeps rec (List.Subset.refl _) (SameBut.refl _ s) .shown (by decide)
@[simp] theorem State.record_mirror (s : State) (rec : EvRec) : (s.record rec).mirror = s.mirror := State.record_keeps rec (List.Subset.refl _) (SameBut.refl _ s) .mirror (by decide)
@[simp] theorem State.record_mem (s : State) (rec : EvRec) : (s.record rec).mem = s.mem := State.record_keeps rec (List.Subset.refl _) (SameBut.refl _ s) .mem (by decide)
@[simp] theorem State.record_cmt (s : State) (rec : EvRec) : (s.record rec).cmt = s.cmt := State.record_keeps rec (List.Subset.refl _) (SameBut.refl _ s) .cmt (by decide)
@[simp] theorem State.record_own (s : State) (rec : EvRec) : (s.record rec).own = s.own := State.record_keeps rec (List.Subset.refl _) (SameBut.refl _ s) .own (by decide)
@[simp] theorem State.record_nextPkt (s : State) (rec : EvRec) : (s.record rec).nextPkt = s.nextPkt := State.record_keeps rec (List.Subset.refl _) (SameBut.refl _ s) .nextPkt (by decide)
@[simp] theorem State.record_rx (s : State) (rec : EvRec) : (s.record rec).rx = s.rx := State.record_keeps rec (List.Subset.refl _) (SameBut.refl _ s) .rx (by decide)
@[simp] theorem State.record_dsf (s : State) (rec : EvRec) : (s.record rec).dsf = s.dsf := State.record_keeps rec (List.Subset.refl _) (SameBut.refl _ s) .dsf (by decide)
@[simp] theorem State.record_tmap (s : State) (rec : EvRec) : (s.record rec).tmap = s.tmap := State.record_keeps rec (List.Subset.refl _) (SameBut.refl _ s) .tmap (by decide)
@[simp] theorem State.record_tribs (s : State) (rec : EvRec) : (s.record rec).tribs = s.tribs := State.record_keeps rec (List.Subset.refl _) (SameBut.refl _ s) .tribs (by decide)
@[simp] theorem State.record_tfrags (s : State) (rec : EvRec) : (s.record rec).tfrags = s.tfrags := State.record_keeps rec (List.Subset.refl _) (SameBut.refl _ s) .tfrags (by decide)
@[simp] theorem State.record_rows (s : State) (rec : EvRec) : (s.record rec).rows = s.rows := State.record_keeps rec (List.Subset.refl _) (SameBut.refl _ s) .rows (by decide)
@[simp] theorem State.record_ttest (s : State) (rec : EvRec) : (s.record rec).ttest = s.ttest := State.record_keeps rec (List.Subset.refl _) (SameBut.refl _ s) .ttest (by decide)
@[simp] theorem State.record_act (s : State) (rec : EvRec) : (s.record rec).act = s.act := State.record_keeps rec (List.Subset.refl _) (SameBut.refl _ s) .act (by decide)
@[simp] theorem State.record_upb (s : State) (rec : EvRec) : (s.record rec).upb = s.upb := State.record_keeps rec (List.Subset.refl _) (SameBut.refl _ s) .upb (by decide)
@[simp] theorem State.record_restarts (s : State) (rec : EvRec) : (s.record rec).restarts = s.restarts := State.record_keeps rec (List.Subset.refl _) (SameBut.refl _ s) .restarts (by decide)
@[simp] theorem State.record_gsm (s : State) (rec : EvRec) : (s.record rec).gsm = s.gsm := State.record_keeps rec (List.Subset.refl _) (SameBut.refl _ s) .gsm (by decide)
@[simp] theorem State.record_txEff (s : State) (rec : EvRec) : (s.record rec).txEff = s.txEff := State.record_keeps rec (List.Subset.refl _) (SameBut.refl _ s) .txEff (by decide)
@[simp] theorem State.record_pairs (s : State) (rec : EvRec) : (s.record rec).pairs = s.pairs := State.record_keeps rec (List.Subset.refl _) (SameBut.refl _ s) .pairs (by decide)
@[simp] theorem State.record_key (s : State) (rec : EvRec) : (s.record rec).key = s.key := State.record_keeps rec (List.Subset.refl _) (SameBut.refl _ s) .key (by decide)
@[simp] theorem State.record_pipes (s : State) (rec : EvRec) : (s.record rec).pipes = s.pipes := State.record_keeps rec (List.Subset.refl _) (SameBut.refl _ s) .pipes (by decide)
@[simp] theorem State.record_epochs (s : State) (rec : EvRec) : (s.record rec).epochs = s.epochs := State.record_keeps rec (List.Subset.refl _) (SameBut.refl _ s) .epochs (by decide)
@[simp] theorem State.record_prog (s : State) (rec : EvRec) : (s.record rec).prog = s.prog := State.record_keeps rec (List.Subset.refl _) (SameBut.refl _ s) .prog (by decide)
@[simp] theorem State.record_rcnt (s : State) (rec : EvRec) : (s.record rec).rcnt = s.rcnt := State.record_keeps rec (List.Subset.refl _) (SameBut.refl _ s) .rcnt (by decide)
@[simp] theorem State.record_rcntHeld (s : State) (rec : EvRec) : (s.record rec).rcntHeld = s.rcntHeld := State.record_keeps rec (List.Subset.refl _) (SameBut.refl _ s) .rcntHeld (by decide)
@[simp] theorem State.record_excWait (s : State) (rec : EvRec) : (s.record rec).excWait = s.excWait := State.record_keeps rec (List.Subset.refl _) (SameBut.refl _ s) .excWait (by decide)
@[simp] theorem State.record_bufs (s : State) (rec : EvRec) : (s.record rec).bufs = s.bufs := State.record_keeps rec (List.Subset.refl _) (SameBut.refl _ s) .bufs (by decide)
@[simp] theorem State.record_bufRot (s : State) (rec : EvRec) : (s.record rec).bufRot = s.bufRot := State.record_keeps rec (List.Subset.refl _) (SameBut.refl _ s) .bufRot (by decide)
@[simp] theorem State.record_qmap (s : State) (rec : EvRec) : (s.record rec).qmap = s.qmap := State.record_keeps rec (List.Subset.refl _) (SameBut.refl _ s) .qmap (by decide)
@[simp] theorem State.record_memch (s : State) (rec : EvRec) : (s.record rec).memch = s.memch := State.record_keeps rec (List.Subset.refl _) (SameBut.refl _ s) .memch (by decide)
@[simp] theorem State.record_ecc (s : State) (rec : EvRec) : (s.record rec).ecc = s.ecc := State.record_keeps rec (List.Subset.refl _) (SameBut.refl _ s) .ecc (by decide)
@[simp] theorem State.record_mxe (s : State) (rec : EvRec) : (s.record rec).mxe = s.mxe := State.record_keeps rec (List.Subset.refl _) (SameBut.refl _ s) .mxe (by decide)
@[simp] theorem State.record_queues (s : State) (rec : EvRec) : (s.record rec).queues = s.queues := State.record_keeps rec (List.Subset.refl _) (SameBut.refl _ s) .queues (by decide)
@[simp] theorem State.record_turns (s : State) (rec : EvRec) : (s.record rec).turns = s.turns := State.record_keeps rec (List.Subset.refl _) (SameBut.refl _ s) .turns (by decide)
@[simp] theorem State.record_elig (s : State) (rec : EvRec) : (s.record rec).elig = s.elig := State.record_keeps rec (List.Subset.refl _) (SameBut.refl _ s) .elig (by decide)
@[simp] theorem State.record_shapers (s : State) (rec : EvRec) : (s.record rec).shapers = s.shapers := State.record_keeps rec (List.Subset.refl _) (SameBut.refl _ s) .shapers (by decide)
@[simp] theorem State.record_policers (s : State) (rec : EvRec) : (s.record rec).policers = s.policers := State.record_keeps rec (List.Subset.refl _) (SameBut.refl _ s) .policers (by decide)
@[simp] theorem State.record_gates (s : State) (rec : EvRec) : (s.record rec).gates = s.gates := State.record_keeps rec (List.Subset.refl _) (SameBut.refl _ s) .gates (by decide)
@[simp] theorem State.record_gateBusy (s : State) (rec : EvRec) : (s.record rec).gateBusy = s.gateBusy := State.record_keeps rec (List.Subset.refl _) (SameBut.refl _ s) .gateBusy (by decide)
@[simp] theorem State.record_lanes (s : State) (rec : EvRec) : (s.record rec).lanes = s.lanes := State.record_keeps rec (List.Subset.refl _) (SameBut.refl _ s) .lanes (by decide)
@[simp] theorem State.record_lports (s : State) (rec : EvRec) : (s.record rec).lports = s.lports := State.record_keeps rec (List.Subset.refl _) (SameBut.refl _ s) .lports (by decide)
@[simp] theorem State.record_mdio (s : State) (rec : EvRec) : (s.record rec).mdio = s.mdio := State.record_keeps rec (List.Subset.refl _) (SameBut.refl _ s) .mdio (by decide)
@[simp] theorem State.record_tim (s : State) (rec : EvRec) : (s.record rec).tim = s.tim := State.record_keeps rec (List.Subset.refl _) (SameBut.refl _ s) .tim (by decide)
@[simp] theorem State.record_log (s : State) (rec : EvRec) : (s.record rec).log = s.log := State.record_keeps rec (List.Subset.refl _) (SameBut.refl _ s) .log (by decide)
@[simp] theorem State.record_tsk (s : State) (rec : EvRec) : (s.record rec).tsk = s.tsk := State.record_keeps rec (List.Subset.refl _) (SameBut.refl _ s) .tsk (by decide)
@[simp] theorem State.record_cpu (s : State) (rec : EvRec) : (s.record rec).cpu = s.cpu := State.record_keeps rec (List.Subset.refl _) (SameBut.refl _ s) .cpu (by decide)
@[simp] theorem State.record_pwr (s : State) (rec : EvRec) : (s.record rec).pwr = s.pwr := State.record_keeps rec (List.Subset.refl _) (SameBut.refl _ s) .pwr (by decide)
@[simp] theorem State.record_rst (s : State) (rec : EvRec) : (s.record rec).rst = s.rst := State.record_keeps rec (List.Subset.refl _) (SameBut.refl _ s) .rst (by decide)
@[simp] theorem State.record_sys (s : State) (rec : EvRec) : (s.record rec).sys = s.sys := State.record_keeps rec (List.Subset.refl _) (SameBut.refl _ s) .sys (by decide)
@[simp] theorem State.record_hif (s : State) (rec : EvRec) : (s.record rec).hif = s.hif := State.record_keeps rec (List.Subset.refl _) (SameBut.refl _ s) .hif (by decide)
@[simp] theorem State.record_pins (s : State) (rec : EvRec) : (s.record rec).pins = s.pins := State.record_keeps rec (List.Subset.refl _) (SameBut.refl _ s) .pins (by decide)
@[simp] theorem State.record_clock (s : State) (rec : EvRec) : (s.record rec).clock = s.clock := State.record_keeps rec (List.Subset.refl _) (SameBut.refl _ s) .clock (by decide)
@[simp] theorem State.record_timers (s : State) (rec : EvRec) : (s.record rec).timers = s.timers := State.record_keeps rec (List.Subset.refl _) (SameBut.refl _ s) .timers (by decide)
@[simp] theorem State.record_pending (s : State) (rec : EvRec) : (s.record rec).pending = s.pending := State.record_keeps rec (List.Subset.refl _) (SameBut.refl _ s) .pending (by decide)
@[simp] theorem State.record_dark (s : State) (rec : EvRec) : (s.record rec).dark = s.dark := State.record_keeps rec (List.Subset.refl _) (SameBut.refl _ s) .dark (by decide)
@[simp] theorem State.record_resp (s : State) (rec : EvRec) : (s.record rec).resp = s.resp := State.record_keeps rec (List.Subset.refl _) (SameBut.refl _ s) .resp (by decide)
@[simp] theorem State.record_out (s : State) (rec : EvRec) : (s.record rec).out = s.out := State.record_keeps rec (List.Subset.refl _) (SameBut.refl _ s) .out (by decide)
@[simp] theorem State.record_fresh (s : State) (rec : EvRec) : (s.record rec).fresh = s.fresh := State.record_keeps rec (List.Subset.refl _) (SameBut.refl _ s) .fresh (by decide)
@[simp] theorem State.record_running (s : State) (rec : EvRec) (g_ : Nat) : (s.record rec).running g_ = s.running g_ := State.running_of_timers (State.record_timers s rec) g_
@[simp] theorem State.record_domOn (s : State) (rec : EvRec) (g_ : Nat) : (s.record rec).domOn g_ = s.domOn g_ := State.domOn_of_pwr (State.record_pwr s rec) g_

/-! `State.fireAt` -/

@[simp] theorem State.fireAt_shown (s : State) (p : Nat) (b : Nat) (wins : Bool) (t : Nat) : (s.fireAt p b wins t).shown = s.shown := State.fireAt_keeps p b wins t (List.Subset.refl _) (SameBut.refl _ s) .shown (by decide)
@[simp] theorem State.fireAt_mirror (s : State) (p : Nat) (b : Nat) (wins : Bool) (t : Nat) : (s.fireAt p b wins t).mirror = s.mirror := State.fireAt_keeps p b wins t (List.Subset.refl _) (SameBut.refl _ s) .mirror (by decide)
@[simp] theorem State.fireAt_mem (s : State) (p : Nat) (b : Nat) (wins : Bool) (t : Nat) : (s.fireAt p b wins t).mem = s.mem := State.fireAt_keeps p b wins t (List.Subset.refl _) (SameBut.refl _ s) .mem (by decide)
@[simp] theorem State.fireAt_cmt (s : State) (p : Nat) (b : Nat) (wins : Bool) (t : Nat) : (s.fireAt p b wins t).cmt = s.cmt := State.fireAt_keeps p b wins t (List.Subset.refl _) (SameBut.refl _ s) .cmt (by decide)
@[simp] theorem State.fireAt_own (s : State) (p : Nat) (b : Nat) (wins : Bool) (t : Nat) : (s.fireAt p b wins t).own = s.own := State.fireAt_keeps p b wins t (List.Subset.refl _) (SameBut.refl _ s) .own (by decide)
@[simp] theorem State.fireAt_nextPkt (s : State) (p : Nat) (b : Nat) (wins : Bool) (t : Nat) : (s.fireAt p b wins t).nextPkt = s.nextPkt := State.fireAt_keeps p b wins t (List.Subset.refl _) (SameBut.refl _ s) .nextPkt (by decide)
@[simp] theorem State.fireAt_rx (s : State) (p : Nat) (b : Nat) (wins : Bool) (t : Nat) : (s.fireAt p b wins t).rx = s.rx := State.fireAt_keeps p b wins t (List.Subset.refl _) (SameBut.refl _ s) .rx (by decide)
@[simp] theorem State.fireAt_dsf (s : State) (p : Nat) (b : Nat) (wins : Bool) (t : Nat) : (s.fireAt p b wins t).dsf = s.dsf := State.fireAt_keeps p b wins t (List.Subset.refl _) (SameBut.refl _ s) .dsf (by decide)
@[simp] theorem State.fireAt_tmap (s : State) (p : Nat) (b : Nat) (wins : Bool) (t : Nat) : (s.fireAt p b wins t).tmap = s.tmap := State.fireAt_keeps p b wins t (List.Subset.refl _) (SameBut.refl _ s) .tmap (by decide)
@[simp] theorem State.fireAt_tribs (s : State) (p : Nat) (b : Nat) (wins : Bool) (t : Nat) : (s.fireAt p b wins t).tribs = s.tribs := State.fireAt_keeps p b wins t (List.Subset.refl _) (SameBut.refl _ s) .tribs (by decide)
@[simp] theorem State.fireAt_tfrags (s : State) (p : Nat) (b : Nat) (wins : Bool) (t : Nat) : (s.fireAt p b wins t).tfrags = s.tfrags := State.fireAt_keeps p b wins t (List.Subset.refl _) (SameBut.refl _ s) .tfrags (by decide)
@[simp] theorem State.fireAt_rows (s : State) (p : Nat) (b : Nat) (wins : Bool) (t : Nat) : (s.fireAt p b wins t).rows = s.rows := State.fireAt_keeps p b wins t (List.Subset.refl _) (SameBut.refl _ s) .rows (by decide)
@[simp] theorem State.fireAt_ttest (s : State) (p : Nat) (b : Nat) (wins : Bool) (t : Nat) : (s.fireAt p b wins t).ttest = s.ttest := State.fireAt_keeps p b wins t (List.Subset.refl _) (SameBut.refl _ s) .ttest (by decide)
@[simp] theorem State.fireAt_act (s : State) (p : Nat) (b : Nat) (wins : Bool) (t : Nat) : (s.fireAt p b wins t).act = s.act := State.fireAt_keeps p b wins t (List.Subset.refl _) (SameBut.refl _ s) .act (by decide)
@[simp] theorem State.fireAt_upb (s : State) (p : Nat) (b : Nat) (wins : Bool) (t : Nat) : (s.fireAt p b wins t).upb = s.upb := State.fireAt_keeps p b wins t (List.Subset.refl _) (SameBut.refl _ s) .upb (by decide)
@[simp] theorem State.fireAt_restarts (s : State) (p : Nat) (b : Nat) (wins : Bool) (t : Nat) : (s.fireAt p b wins t).restarts = s.restarts := State.fireAt_keeps p b wins t (List.Subset.refl _) (SameBut.refl _ s) .restarts (by decide)
@[simp] theorem State.fireAt_gsm (s : State) (p : Nat) (b : Nat) (wins : Bool) (t : Nat) : (s.fireAt p b wins t).gsm = s.gsm := State.fireAt_keeps p b wins t (List.Subset.refl _) (SameBut.refl _ s) .gsm (by decide)
@[simp] theorem State.fireAt_txEff (s : State) (p : Nat) (b : Nat) (wins : Bool) (t : Nat) : (s.fireAt p b wins t).txEff = s.txEff := State.fireAt_keeps p b wins t (List.Subset.refl _) (SameBut.refl _ s) .txEff (by decide)
@[simp] theorem State.fireAt_pairs (s : State) (p : Nat) (b : Nat) (wins : Bool) (t : Nat) : (s.fireAt p b wins t).pairs = s.pairs := State.fireAt_keeps p b wins t (List.Subset.refl _) (SameBut.refl _ s) .pairs (by decide)
@[simp] theorem State.fireAt_key (s : State) (p : Nat) (b : Nat) (wins : Bool) (t : Nat) : (s.fireAt p b wins t).key = s.key := State.fireAt_keeps p b wins t (List.Subset.refl _) (SameBut.refl _ s) .key (by decide)
@[simp] theorem State.fireAt_pipes (s : State) (p : Nat) (b : Nat) (wins : Bool) (t : Nat) : (s.fireAt p b wins t).pipes = s.pipes := State.fireAt_keeps p b wins t (List.Subset.refl _) (SameBut.refl _ s) .pipes (by decide)
@[simp] theorem State.fireAt_epochs (s : State) (p : Nat) (b : Nat) (wins : Bool) (t : Nat) : (s.fireAt p b wins t).epochs = s.epochs := State.fireAt_keeps p b wins t (List.Subset.refl _) (SameBut.refl _ s) .epochs (by decide)
@[simp] theorem State.fireAt_prog (s : State) (p : Nat) (b : Nat) (wins : Bool) (t : Nat) : (s.fireAt p b wins t).prog = s.prog := State.fireAt_keeps p b wins t (List.Subset.refl _) (SameBut.refl _ s) .prog (by decide)
@[simp] theorem State.fireAt_rcnt (s : State) (p : Nat) (b : Nat) (wins : Bool) (t : Nat) : (s.fireAt p b wins t).rcnt = s.rcnt := State.fireAt_keeps p b wins t (List.Subset.refl _) (SameBut.refl _ s) .rcnt (by decide)
@[simp] theorem State.fireAt_rcntHeld (s : State) (p : Nat) (b : Nat) (wins : Bool) (t : Nat) : (s.fireAt p b wins t).rcntHeld = s.rcntHeld := State.fireAt_keeps p b wins t (List.Subset.refl _) (SameBut.refl _ s) .rcntHeld (by decide)
@[simp] theorem State.fireAt_excWait (s : State) (p : Nat) (b : Nat) (wins : Bool) (t : Nat) : (s.fireAt p b wins t).excWait = s.excWait := State.fireAt_keeps p b wins t (List.Subset.refl _) (SameBut.refl _ s) .excWait (by decide)
@[simp] theorem State.fireAt_bufs (s : State) (p : Nat) (b : Nat) (wins : Bool) (t : Nat) : (s.fireAt p b wins t).bufs = s.bufs := State.fireAt_keeps p b wins t (List.Subset.refl _) (SameBut.refl _ s) .bufs (by decide)
@[simp] theorem State.fireAt_bufRot (s : State) (p : Nat) (b : Nat) (wins : Bool) (t : Nat) : (s.fireAt p b wins t).bufRot = s.bufRot := State.fireAt_keeps p b wins t (List.Subset.refl _) (SameBut.refl _ s) .bufRot (by decide)
@[simp] theorem State.fireAt_qmap (s : State) (p : Nat) (b : Nat) (wins : Bool) (t : Nat) : (s.fireAt p b wins t).qmap = s.qmap := State.fireAt_keeps p b wins t (List.Subset.refl _) (SameBut.refl _ s) .qmap (by decide)
@[simp] theorem State.fireAt_memch (s : State) (p : Nat) (b : Nat) (wins : Bool) (t : Nat) : (s.fireAt p b wins t).memch = s.memch := State.fireAt_keeps p b wins t (List.Subset.refl _) (SameBut.refl _ s) .memch (by decide)
@[simp] theorem State.fireAt_ecc (s : State) (p : Nat) (b : Nat) (wins : Bool) (t : Nat) : (s.fireAt p b wins t).ecc = s.ecc := State.fireAt_keeps p b wins t (List.Subset.refl _) (SameBut.refl _ s) .ecc (by decide)
@[simp] theorem State.fireAt_mxe (s : State) (p : Nat) (b : Nat) (wins : Bool) (t : Nat) : (s.fireAt p b wins t).mxe = s.mxe := State.fireAt_keeps p b wins t (List.Subset.refl _) (SameBut.refl _ s) .mxe (by decide)
@[simp] theorem State.fireAt_queues (s : State) (p : Nat) (b : Nat) (wins : Bool) (t : Nat) : (s.fireAt p b wins t).queues = s.queues := State.fireAt_keeps p b wins t (List.Subset.refl _) (SameBut.refl _ s) .queues (by decide)
@[simp] theorem State.fireAt_turns (s : State) (p : Nat) (b : Nat) (wins : Bool) (t : Nat) : (s.fireAt p b wins t).turns = s.turns := State.fireAt_keeps p b wins t (List.Subset.refl _) (SameBut.refl _ s) .turns (by decide)
@[simp] theorem State.fireAt_elig (s : State) (p : Nat) (b : Nat) (wins : Bool) (t : Nat) : (s.fireAt p b wins t).elig = s.elig := State.fireAt_keeps p b wins t (List.Subset.refl _) (SameBut.refl _ s) .elig (by decide)
@[simp] theorem State.fireAt_shapers (s : State) (p : Nat) (b : Nat) (wins : Bool) (t : Nat) : (s.fireAt p b wins t).shapers = s.shapers := State.fireAt_keeps p b wins t (List.Subset.refl _) (SameBut.refl _ s) .shapers (by decide)
@[simp] theorem State.fireAt_policers (s : State) (p : Nat) (b : Nat) (wins : Bool) (t : Nat) : (s.fireAt p b wins t).policers = s.policers := State.fireAt_keeps p b wins t (List.Subset.refl _) (SameBut.refl _ s) .policers (by decide)
@[simp] theorem State.fireAt_gates (s : State) (p : Nat) (b : Nat) (wins : Bool) (t : Nat) : (s.fireAt p b wins t).gates = s.gates := State.fireAt_keeps p b wins t (List.Subset.refl _) (SameBut.refl _ s) .gates (by decide)
@[simp] theorem State.fireAt_gateBusy (s : State) (p : Nat) (b : Nat) (wins : Bool) (t : Nat) : (s.fireAt p b wins t).gateBusy = s.gateBusy := State.fireAt_keeps p b wins t (List.Subset.refl _) (SameBut.refl _ s) .gateBusy (by decide)
@[simp] theorem State.fireAt_lanes (s : State) (p : Nat) (b : Nat) (wins : Bool) (t : Nat) : (s.fireAt p b wins t).lanes = s.lanes := State.fireAt_keeps p b wins t (List.Subset.refl _) (SameBut.refl _ s) .lanes (by decide)
@[simp] theorem State.fireAt_lports (s : State) (p : Nat) (b : Nat) (wins : Bool) (t : Nat) : (s.fireAt p b wins t).lports = s.lports := State.fireAt_keeps p b wins t (List.Subset.refl _) (SameBut.refl _ s) .lports (by decide)
@[simp] theorem State.fireAt_mdio (s : State) (p : Nat) (b : Nat) (wins : Bool) (t : Nat) : (s.fireAt p b wins t).mdio = s.mdio := State.fireAt_keeps p b wins t (List.Subset.refl _) (SameBut.refl _ s) .mdio (by decide)
@[simp] theorem State.fireAt_tim (s : State) (p : Nat) (b : Nat) (wins : Bool) (t : Nat) : (s.fireAt p b wins t).tim = s.tim := State.fireAt_keeps p b wins t (List.Subset.refl _) (SameBut.refl _ s) .tim (by decide)
@[simp] theorem State.fireAt_log (s : State) (p : Nat) (b : Nat) (wins : Bool) (t : Nat) : (s.fireAt p b wins t).log = s.log := State.fireAt_keeps p b wins t (List.Subset.refl _) (SameBut.refl _ s) .log (by decide)
@[simp] theorem State.fireAt_cpu (s : State) (p : Nat) (b : Nat) (wins : Bool) (t : Nat) : (s.fireAt p b wins t).cpu = s.cpu := State.fireAt_keeps p b wins t (List.Subset.refl _) (SameBut.refl _ s) .cpu (by decide)
@[simp] theorem State.fireAt_pwr (s : State) (p : Nat) (b : Nat) (wins : Bool) (t : Nat) : (s.fireAt p b wins t).pwr = s.pwr := State.fireAt_keeps p b wins t (List.Subset.refl _) (SameBut.refl _ s) .pwr (by decide)
@[simp] theorem State.fireAt_rst (s : State) (p : Nat) (b : Nat) (wins : Bool) (t : Nat) : (s.fireAt p b wins t).rst = s.rst := State.fireAt_keeps p b wins t (List.Subset.refl _) (SameBut.refl _ s) .rst (by decide)
@[simp] theorem State.fireAt_sys (s : State) (p : Nat) (b : Nat) (wins : Bool) (t : Nat) : (s.fireAt p b wins t).sys = s.sys := State.fireAt_keeps p b wins t (List.Subset.refl _) (SameBut.refl _ s) .sys (by decide)
@[simp] theorem State.fireAt_pins (s : State) (p : Nat) (b : Nat) (wins : Bool) (t : Nat) : (s.fireAt p b wins t).pins = s.pins := State.fireAt_keeps p b wins t (List.Subset.refl _) (SameBut.refl _ s) .pins (by decide)
@[simp] theorem State.fireAt_clock (s : State) (p : Nat) (b : Nat) (wins : Bool) (t : Nat) : (s.fireAt p b wins t).clock = s.clock := State.fireAt_keeps p b wins t (List.Subset.refl _) (SameBut.refl _ s) .clock (by decide)
@[simp] theorem State.fireAt_timers (s : State) (p : Nat) (b : Nat) (wins : Bool) (t : Nat) : (s.fireAt p b wins t).timers = s.timers := State.fireAt_keeps p b wins t (List.Subset.refl _) (SameBut.refl _ s) .timers (by decide)
@[simp] theorem State.fireAt_pending (s : State) (p : Nat) (b : Nat) (wins : Bool) (t : Nat) : (s.fireAt p b wins t).pending = s.pending := State.fireAt_keeps p b wins t (List.Subset.refl _) (SameBut.refl _ s) .pending (by decide)
@[simp] theorem State.fireAt_dark (s : State) (p : Nat) (b : Nat) (wins : Bool) (t : Nat) : (s.fireAt p b wins t).dark = s.dark := State.fireAt_keeps p b wins t (List.Subset.refl _) (SameBut.refl _ s) .dark (by decide)
@[simp] theorem State.fireAt_resp (s : State) (p : Nat) (b : Nat) (wins : Bool) (t : Nat) : (s.fireAt p b wins t).resp = s.resp := State.fireAt_keeps p b wins t (List.Subset.refl _) (SameBut.refl _ s) .resp (by decide)
@[simp] theorem State.fireAt_fresh (s : State) (p : Nat) (b : Nat) (wins : Bool) (t : Nat) : (s.fireAt p b wins t).fresh = s.fresh := State.fireAt_keeps p b wins t (List.Subset.refl _) (SameBut.refl _ s) .fresh (by decide)
@[simp] theorem State.fireAt_running (s : State) (p : Nat) (b : Nat) (wins : Bool) (t : Nat) (g_ : Nat) : (s.fireAt p b wins t).running g_ = s.running g_ := State.running_of_timers (State.fireAt_timers s p b wins t) g_
@[simp] theorem State.fireAt_domOn (s : State) (p : Nat) (b : Nat) (wins : Bool) (t : Nat) (g_ : Nat) : (s.fireAt p b wins t).domOn g_ = s.domOn g_ := State.domOn_of_pwr (State.fireAt_pwr s p b wins t) g_

/-! `State.fireWith` -/

@[simp] theorem State.fireWith_shown (s : State) (p : Nat) (b : Nat) (wins : Bool) (t : Nat) : (s.fireWith p b wins t).shown = s.shown := State.fireWith_keeps p b wins t (List.Subset.refl _) (SameBut.refl _ s) .shown (by decide)
@[simp] theorem State.fireWith_mirror (s : State) (p : Nat) (b : Nat) (wins : Bool) (t : Nat) : (s.fireWith p b wins t).mirror = s.mirror := State.fireWith_keeps p b wins t (List.Subset.refl _) (SameBut.refl _ s) .mirror (by decide)
@[simp] theorem State.fireWith_mem (s : State) (p : Nat) (b : Nat) (wins : Bool) (t : Nat) : (s.fireWith p b wins t).mem = s.mem := State.fireWith_keeps p b wins t (List.Subset.refl _) (SameBut.refl _ s) .mem (by decide)
@[simp] theorem State.fireWith_cmt (s : State) (p : Nat) (b : Nat) (wins : Bool) (t : Nat) : (s.fireWith p b wins t).cmt = s.cmt := State.fireWith_keeps p b wins t (List.Subset.refl _) (SameBut.refl _ s) .cmt (by decide)
@[simp] theorem State.fireWith_own (s : State) (p : Nat) (b : Nat) (wins : Bool) (t : Nat) : (s.fireWith p b wins t).own = s.own := State.fireWith_keeps p b wins t (List.Subset.refl _) (SameBut.refl _ s) .own (by decide)
@[simp] theorem State.fireWith_nextPkt (s : State) (p : Nat) (b : Nat) (wins : Bool) (t : Nat) : (s.fireWith p b wins t).nextPkt = s.nextPkt := State.fireWith_keeps p b wins t (List.Subset.refl _) (SameBut.refl _ s) .nextPkt (by decide)
@[simp] theorem State.fireWith_rx (s : State) (p : Nat) (b : Nat) (wins : Bool) (t : Nat) : (s.fireWith p b wins t).rx = s.rx := State.fireWith_keeps p b wins t (List.Subset.refl _) (SameBut.refl _ s) .rx (by decide)
@[simp] theorem State.fireWith_dsf (s : State) (p : Nat) (b : Nat) (wins : Bool) (t : Nat) : (s.fireWith p b wins t).dsf = s.dsf := State.fireWith_keeps p b wins t (List.Subset.refl _) (SameBut.refl _ s) .dsf (by decide)
@[simp] theorem State.fireWith_tmap (s : State) (p : Nat) (b : Nat) (wins : Bool) (t : Nat) : (s.fireWith p b wins t).tmap = s.tmap := State.fireWith_keeps p b wins t (List.Subset.refl _) (SameBut.refl _ s) .tmap (by decide)
@[simp] theorem State.fireWith_tribs (s : State) (p : Nat) (b : Nat) (wins : Bool) (t : Nat) : (s.fireWith p b wins t).tribs = s.tribs := State.fireWith_keeps p b wins t (List.Subset.refl _) (SameBut.refl _ s) .tribs (by decide)
@[simp] theorem State.fireWith_tfrags (s : State) (p : Nat) (b : Nat) (wins : Bool) (t : Nat) : (s.fireWith p b wins t).tfrags = s.tfrags := State.fireWith_keeps p b wins t (List.Subset.refl _) (SameBut.refl _ s) .tfrags (by decide)
@[simp] theorem State.fireWith_rows (s : State) (p : Nat) (b : Nat) (wins : Bool) (t : Nat) : (s.fireWith p b wins t).rows = s.rows := State.fireWith_keeps p b wins t (List.Subset.refl _) (SameBut.refl _ s) .rows (by decide)
@[simp] theorem State.fireWith_ttest (s : State) (p : Nat) (b : Nat) (wins : Bool) (t : Nat) : (s.fireWith p b wins t).ttest = s.ttest := State.fireWith_keeps p b wins t (List.Subset.refl _) (SameBut.refl _ s) .ttest (by decide)
@[simp] theorem State.fireWith_act (s : State) (p : Nat) (b : Nat) (wins : Bool) (t : Nat) : (s.fireWith p b wins t).act = s.act := State.fireWith_keeps p b wins t (List.Subset.refl _) (SameBut.refl _ s) .act (by decide)
@[simp] theorem State.fireWith_upb (s : State) (p : Nat) (b : Nat) (wins : Bool) (t : Nat) : (s.fireWith p b wins t).upb = s.upb := State.fireWith_keeps p b wins t (List.Subset.refl _) (SameBut.refl _ s) .upb (by decide)
@[simp] theorem State.fireWith_restarts (s : State) (p : Nat) (b : Nat) (wins : Bool) (t : Nat) : (s.fireWith p b wins t).restarts = s.restarts := State.fireWith_keeps p b wins t (List.Subset.refl _) (SameBut.refl _ s) .restarts (by decide)
@[simp] theorem State.fireWith_gsm (s : State) (p : Nat) (b : Nat) (wins : Bool) (t : Nat) : (s.fireWith p b wins t).gsm = s.gsm := State.fireWith_keeps p b wins t (List.Subset.refl _) (SameBut.refl _ s) .gsm (by decide)
@[simp] theorem State.fireWith_txEff (s : State) (p : Nat) (b : Nat) (wins : Bool) (t : Nat) : (s.fireWith p b wins t).txEff = s.txEff := State.fireWith_keeps p b wins t (List.Subset.refl _) (SameBut.refl _ s) .txEff (by decide)
@[simp] theorem State.fireWith_pairs (s : State) (p : Nat) (b : Nat) (wins : Bool) (t : Nat) : (s.fireWith p b wins t).pairs = s.pairs := State.fireWith_keeps p b wins t (List.Subset.refl _) (SameBut.refl _ s) .pairs (by decide)
@[simp] theorem State.fireWith_key (s : State) (p : Nat) (b : Nat) (wins : Bool) (t : Nat) : (s.fireWith p b wins t).key = s.key := State.fireWith_keeps p b wins t (List.Subset.refl _) (SameBut.refl _ s) .key (by decide)
@[simp] theorem State.fireWith_pipes (s : State) (p : Nat) (b : Nat) (wins : Bool) (t : Nat) : (s.fireWith p b wins t).pipes = s.pipes := State.fireWith_keeps p b wins t (List.Subset.refl _) (SameBut.refl _ s) .pipes (by decide)
@[simp] theorem State.fireWith_epochs (s : State) (p : Nat) (b : Nat) (wins : Bool) (t : Nat) : (s.fireWith p b wins t).epochs = s.epochs := State.fireWith_keeps p b wins t (List.Subset.refl _) (SameBut.refl _ s) .epochs (by decide)
@[simp] theorem State.fireWith_prog (s : State) (p : Nat) (b : Nat) (wins : Bool) (t : Nat) : (s.fireWith p b wins t).prog = s.prog := State.fireWith_keeps p b wins t (List.Subset.refl _) (SameBut.refl _ s) .prog (by decide)
@[simp] theorem State.fireWith_rcnt (s : State) (p : Nat) (b : Nat) (wins : Bool) (t : Nat) : (s.fireWith p b wins t).rcnt = s.rcnt := State.fireWith_keeps p b wins t (List.Subset.refl _) (SameBut.refl _ s) .rcnt (by decide)
@[simp] theorem State.fireWith_rcntHeld (s : State) (p : Nat) (b : Nat) (wins : Bool) (t : Nat) : (s.fireWith p b wins t).rcntHeld = s.rcntHeld := State.fireWith_keeps p b wins t (List.Subset.refl _) (SameBut.refl _ s) .rcntHeld (by decide)
@[simp] theorem State.fireWith_excWait (s : State) (p : Nat) (b : Nat) (wins : Bool) (t : Nat) : (s.fireWith p b wins t).excWait = s.excWait := State.fireWith_keeps p b wins t (List.Subset.refl _) (SameBut.refl _ s) .excWait (by decide)
@[simp] theorem State.fireWith_bufs (s : State) (p : Nat) (b : Nat) (wins : Bool) (t : Nat) : (s.fireWith p b wins t).bufs = s.bufs := State.fireWith_keeps p b wins t (List.Subset.refl _) (SameBut.refl _ s) .bufs (by decide)
@[simp] theorem State.fireWith_bufRot (s : State) (p : Nat) (b : Nat) (wins : Bool) (t : Nat) : (s.fireWith p b wins t).bufRot = s.bufRot := State.fireWith_keeps p b wins t (List.Subset.refl _) (SameBut.refl _ s) .bufRot (by decide)
@[simp] theorem State.fireWith_qmap (s : State) (p : Nat) (b : Nat) (wins : Bool) (t : Nat) : (s.fireWith p b wins t).qmap = s.qmap := State.fireWith_keeps p b wins t (List.Subset.refl _) (SameBut.refl _ s) .qmap (by decide)
@[simp] theorem State.fireWith_memch (s : State) (p : Nat) (b : Nat) (wins : Bool) (t : Nat) : (s.fireWith p b wins t).memch = s.memch := State.fireWith_keeps p b wins t (List.Subset.refl _) (SameBut.refl _ s) .memch (by decide)
@[simp] theorem State.fireWith_ecc (s : State) (p : Nat) (b : Nat) (wins : Bool) (t : Nat) : (s.fireWith p b wins t).ecc = s.ecc := State.fireWith_keeps p b wins t (List.Subset.refl _) (SameBut.refl _ s) .ecc (by decide)
@[simp] theorem State.fireWith_mxe (s : State) (p : Nat) (b : Nat) (wins : Bool) (t : Nat) : (s.fireWith p b wins t).mxe = s.mxe := State.fireWith_keeps p b wins t (List.Subset.refl _) (SameBut.refl _ s) .mxe (by decide)
@[simp] theorem State.fireWith_queues (s : State) (p : Nat) (b : Nat) (wins : Bool) (t : Nat) : (s.fireWith p b wins t).queues = s.queues := State.fireWith_keeps p b wins t (List.Subset.refl _) (SameBut.refl _ s) .queues (by decide)
@[simp] theorem State.fireWith_turns (s : State) (p : Nat) (b : Nat) (wins : Bool) (t : Nat) : (s.fireWith p b wins t).turns = s.turns := State.fireWith_keeps p b wins t (List.Subset.refl _) (SameBut.refl _ s) .turns (by decide)
@[simp] theorem State.fireWith_elig (s : State) (p : Nat) (b : Nat) (wins : Bool) (t : Nat) : (s.fireWith p b wins t).elig = s.elig := State.fireWith_keeps p b wins t (List.Subset.refl _) (SameBut.refl _ s) .elig (by decide)
@[simp] theorem State.fireWith_shapers (s : State) (p : Nat) (b : Nat) (wins : Bool) (t : Nat) : (s.fireWith p b wins t).shapers = s.shapers := State.fireWith_keeps p b wins t (List.Subset.refl _) (SameBut.refl _ s) .shapers (by decide)
@[simp] theorem State.fireWith_policers (s : State) (p : Nat) (b : Nat) (wins : Bool) (t : Nat) : (s.fireWith p b wins t).policers = s.policers := State.fireWith_keeps p b wins t (List.Subset.refl _) (SameBut.refl _ s) .policers (by decide)
@[simp] theorem State.fireWith_gates (s : State) (p : Nat) (b : Nat) (wins : Bool) (t : Nat) : (s.fireWith p b wins t).gates = s.gates := State.fireWith_keeps p b wins t (List.Subset.refl _) (SameBut.refl _ s) .gates (by decide)
@[simp] theorem State.fireWith_gateBusy (s : State) (p : Nat) (b : Nat) (wins : Bool) (t : Nat) : (s.fireWith p b wins t).gateBusy = s.gateBusy := State.fireWith_keeps p b wins t (List.Subset.refl _) (SameBut.refl _ s) .gateBusy (by decide)
@[simp] theorem State.fireWith_lanes (s : State) (p : Nat) (b : Nat) (wins : Bool) (t : Nat) : (s.fireWith p b wins t).lanes = s.lanes := State.fireWith_keeps p b wins t (List.Subset.refl _) (SameBut.refl _ s) .lanes (by decide)
@[simp] theorem State.fireWith_lports (s : State) (p : Nat) (b : Nat) (wins : Bool) (t : Nat) : (s.fireWith p b wins t).lports = s.lports := State.fireWith_keeps p b wins t (List.Subset.refl _) (SameBut.refl _ s) .lports (by decide)
@[simp] theorem State.fireWith_mdio (s : State) (p : Nat) (b : Nat) (wins : Bool) (t : Nat) : (s.fireWith p b wins t).mdio = s.mdio := State.fireWith_keeps p b wins t (List.Subset.refl _) (SameBut.refl _ s) .mdio (by decide)
@[simp] theorem State.fireWith_tim (s : State) (p : Nat) (b : Nat) (wins : Bool) (t : Nat) : (s.fireWith p b wins t).tim = s.tim := State.fireWith_keeps p b wins t (List.Subset.refl _) (SameBut.refl _ s) .tim (by decide)
@[simp] theorem State.fireWith_log (s : State) (p : Nat) (b : Nat) (wins : Bool) (t : Nat) : (s.fireWith p b wins t).log = s.log := State.fireWith_keeps p b wins t (List.Subset.refl _) (SameBut.refl _ s) .log (by decide)
@[simp] theorem State.fireWith_cpu (s : State) (p : Nat) (b : Nat) (wins : Bool) (t : Nat) : (s.fireWith p b wins t).cpu = s.cpu := State.fireWith_keeps p b wins t (List.Subset.refl _) (SameBut.refl _ s) .cpu (by decide)
@[simp] theorem State.fireWith_pwr (s : State) (p : Nat) (b : Nat) (wins : Bool) (t : Nat) : (s.fireWith p b wins t).pwr = s.pwr := State.fireWith_keeps p b wins t (List.Subset.refl _) (SameBut.refl _ s) .pwr (by decide)
@[simp] theorem State.fireWith_rst (s : State) (p : Nat) (b : Nat) (wins : Bool) (t : Nat) : (s.fireWith p b wins t).rst = s.rst := State.fireWith_keeps p b wins t (List.Subset.refl _) (SameBut.refl _ s) .rst (by decide)
@[simp] theorem State.fireWith_sys (s : State) (p : Nat) (b : Nat) (wins : Bool) (t : Nat) : (s.fireWith p b wins t).sys = s.sys := State.fireWith_keeps p b wins t (List.Subset.refl _) (SameBut.refl _ s) .sys (by decide)
@[simp] theorem State.fireWith_pins (s : State) (p : Nat) (b : Nat) (wins : Bool) (t : Nat) : (s.fireWith p b wins t).pins = s.pins := State.fireWith_keeps p b wins t (List.Subset.refl _) (SameBut.refl _ s) .pins (by decide)
@[simp] theorem State.fireWith_clock (s : State) (p : Nat) (b : Nat) (wins : Bool) (t : Nat) : (s.fireWith p b wins t).clock = s.clock := State.fireWith_keeps p b wins t (List.Subset.refl _) (SameBut.refl _ s) .clock (by decide)
@[simp] theorem State.fireWith_timers (s : State) (p : Nat) (b : Nat) (wins : Bool) (t : Nat) : (s.fireWith p b wins t).timers = s.timers := State.fireWith_keeps p b wins t (List.Subset.refl _) (SameBut.refl _ s) .timers (by decide)
@[simp] theorem State.fireWith_pending (s : State) (p : Nat) (b : Nat) (wins : Bool) (t : Nat) : (s.fireWith p b wins t).pending = s.pending := State.fireWith_keeps p b wins t (List.Subset.refl _) (SameBut.refl _ s) .pending (by decide)
@[simp] theorem State.fireWith_dark (s : State) (p : Nat) (b : Nat) (wins : Bool) (t : Nat) : (s.fireWith p b wins t).dark = s.dark := State.fireWith_keeps p b wins t (List.Subset.refl _) (SameBut.refl _ s) .dark (by decide)
@[simp] theorem State.fireWith_resp (s : State) (p : Nat) (b : Nat) (wins : Bool) (t : Nat) : (s.fireWith p b wins t).resp = s.resp := State.fireWith_keeps p b wins t (List.Subset.refl _) (SameBut.refl _ s) .resp (by decide)
@[simp] theorem State.fireWith_fresh (s : State) (p : Nat) (b : Nat) (wins : Bool) (t : Nat) : (s.fireWith p b wins t).fresh = s.fresh := State.fireWith_keeps p b wins t (List.Subset.refl _) (SameBut.refl _ s) .fresh (by decide)
@[simp] theorem State.fireWith_running (s : State) (p : Nat) (b : Nat) (wins : Bool) (t : Nat) (g_ : Nat) : (s.fireWith p b wins t).running g_ = s.running g_ := State.running_of_timers (State.fireWith_timers s p b wins t) g_
@[simp] theorem State.fireWith_domOn (s : State) (p : Nat) (b : Nat) (wins : Bool) (t : Nat) (g_ : Nat) : (s.fireWith p b wins t).domOn g_ = s.domOn g_ := State.domOn_of_pwr (State.fireWith_pwr s p b wins t) g_

/-! `State.fire` -/

@[simp] theorem State.fire_shown (s : State) (p : Nat) (b : Nat) : (s.fire p b).shown = s.shown := State.fire_keeps p b (List.Subset.refl _) (SameBut.refl _ s) .shown (by decide)
@[simp] theorem State.fire_mirror (s : State) (p : Nat) (b : Nat) : (s.fire p b).mirror = s.mirror := State.fire_keeps p b (List.Subset.refl _) (SameBut.refl _ s) .mirror (by decide)
@[simp] theorem State.fire_mem (s : State) (p : Nat) (b : Nat) : (s.fire p b).mem = s.mem := State.fire_keeps p b (List.Subset.refl _) (SameBut.refl _ s) .mem (by decide)
@[simp] theorem State.fire_cmt (s : State) (p : Nat) (b : Nat) : (s.fire p b).cmt = s.cmt := State.fire_keeps p b (List.Subset.refl _) (SameBut.refl _ s) .cmt (by decide)
@[simp] theorem State.fire_own (s : State) (p : Nat) (b : Nat) : (s.fire p b).own = s.own := State.fire_keeps p b (List.Subset.refl _) (SameBut.refl _ s) .own (by decide)
@[simp] theorem State.fire_nextPkt (s : State) (p : Nat) (b : Nat) : (s.fire p b).nextPkt = s.nextPkt := State.fire_keeps p b (List.Subset.refl _) (SameBut.refl _ s) .nextPkt (by decide)
@[simp] theorem State.fire_rx (s : State) (p : Nat) (b : Nat) : (s.fire p b).rx = s.rx := State.fire_keeps p b (List.Subset.refl _) (SameBut.refl _ s) .rx (by decide)
@[simp] theorem State.fire_dsf (s : State) (p : Nat) (b : Nat) : (s.fire p b).dsf = s.dsf := State.fire_keeps p b (List.Subset.refl _) (SameBut.refl _ s) .dsf (by decide)
@[simp] theorem State.fire_tmap (s : State) (p : Nat) (b : Nat) : (s.fire p b).tmap = s.tmap := State.fire_keeps p b (List.Subset.refl _) (SameBut.refl _ s) .tmap (by decide)
@[simp] theorem State.fire_tribs (s : State) (p : Nat) (b : Nat) : (s.fire p b).tribs = s.tribs := State.fire_keeps p b (List.Subset.refl _) (SameBut.refl _ s) .tribs (by decide)
@[simp] theorem State.fire_tfrags (s : State) (p : Nat) (b : Nat) : (s.fire p b).tfrags = s.tfrags := State.fire_keeps p b (List.Subset.refl _) (SameBut.refl _ s) .tfrags (by decide)
@[simp] theorem State.fire_rows (s : State) (p : Nat) (b : Nat) : (s.fire p b).rows = s.rows := State.fire_keeps p b (List.Subset.refl _) (SameBut.refl _ s) .rows (by decide)
@[simp] theorem State.fire_ttest (s : State) (p : Nat) (b : Nat) : (s.fire p b).ttest = s.ttest := State.fire_keeps p b (List.Subset.refl _) (SameBut.refl _ s) .ttest (by decide)
@[simp] theorem State.fire_act (s : State) (p : Nat) (b : Nat) : (s.fire p b).act = s.act := State.fire_keeps p b (List.Subset.refl _) (SameBut.refl _ s) .act (by decide)
@[simp] theorem State.fire_upb (s : State) (p : Nat) (b : Nat) : (s.fire p b).upb = s.upb := State.fire_keeps p b (List.Subset.refl _) (SameBut.refl _ s) .upb (by decide)
@[simp] theorem State.fire_restarts (s : State) (p : Nat) (b : Nat) : (s.fire p b).restarts = s.restarts := State.fire_keeps p b (List.Subset.refl _) (SameBut.refl _ s) .restarts (by decide)
@[simp] theorem State.fire_gsm (s : State) (p : Nat) (b : Nat) : (s.fire p b).gsm = s.gsm := State.fire_keeps p b (List.Subset.refl _) (SameBut.refl _ s) .gsm (by decide)
@[simp] theorem State.fire_txEff (s : State) (p : Nat) (b : Nat) : (s.fire p b).txEff = s.txEff := State.fire_keeps p b (List.Subset.refl _) (SameBut.refl _ s) .txEff (by decide)
@[simp] theorem State.fire_pairs (s : State) (p : Nat) (b : Nat) : (s.fire p b).pairs = s.pairs := State.fire_keeps p b (List.Subset.refl _) (SameBut.refl _ s) .pairs (by decide)
@[simp] theorem State.fire_key (s : State) (p : Nat) (b : Nat) : (s.fire p b).key = s.key := State.fire_keeps p b (List.Subset.refl _) (SameBut.refl _ s) .key (by decide)
@[simp] theorem State.fire_pipes (s : State) (p : Nat) (b : Nat) : (s.fire p b).pipes = s.pipes := State.fire_keeps p b (List.Subset.refl _) (SameBut.refl _ s) .pipes (by decide)
@[simp] theorem State.fire_epochs (s : State) (p : Nat) (b : Nat) : (s.fire p b).epochs = s.epochs := State.fire_keeps p b (List.Subset.refl _) (SameBut.refl _ s) .epochs (by decide)
@[simp] theorem State.fire_prog (s : State) (p : Nat) (b : Nat) : (s.fire p b).prog = s.prog := State.fire_keeps p b (List.Subset.refl _) (SameBut.refl _ s) .prog (by decide)
@[simp] theorem State.fire_rcnt (s : State) (p : Nat) (b : Nat) : (s.fire p b).rcnt = s.rcnt := State.fire_keeps p b (List.Subset.refl _) (SameBut.refl _ s) .rcnt (by decide)
@[simp] theorem State.fire_rcntHeld (s : State) (p : Nat) (b : Nat) : (s.fire p b).rcntHeld = s.rcntHeld := State.fire_keeps p b (List.Subset.refl _) (SameBut.refl _ s) .rcntHeld (by decide)
@[simp] theorem State.fire_excWait (s : State) (p : Nat) (b : Nat) : (s.fire p b).excWait = s.excWait := State.fire_keeps p b (List.Subset.refl _) (SameBut.refl _ s) .excWait (by decide)
@[simp] theorem State.fire_bufs (s : State) (p : Nat) (b : Nat) : (s.fire p b).bufs = s.bufs := State.fire_keeps p b (List.Subset.refl _) (SameBut.refl _ s) .bufs (by decide)
@[simp] theorem State.fire_bufRot (s : State) (p : Nat) (b : Nat) : (s.fire p b).bufRot = s.bufRot := State.fire_keeps p b (List.Subset.refl _) (SameBut.refl _ s) .bufRot (by decide)
@[simp] theorem State.fire_qmap (s : State) (p : Nat) (b : Nat) : (s.fire p b).qmap = s.qmap := State.fire_keeps p b (List.Subset.refl _) (SameBut.refl _ s) .qmap (by decide)
@[simp] theorem State.fire_memch (s : State) (p : Nat) (b : Nat) : (s.fire p b).memch = s.memch := State.fire_keeps p b (List.Subset.refl _) (SameBut.refl _ s) .memch (by decide)
@[simp] theorem State.fire_ecc (s : State) (p : Nat) (b : Nat) : (s.fire p b).ecc = s.ecc := State.fire_keeps p b (List.Subset.refl _) (SameBut.refl _ s) .ecc (by decide)
@[simp] theorem State.fire_mxe (s : State) (p : Nat) (b : Nat) : (s.fire p b).mxe = s.mxe := State.fire_keeps p b (List.Subset.refl _) (SameBut.refl _ s) .mxe (by decide)
@[simp] theorem State.fire_queues (s : State) (p : Nat) (b : Nat) : (s.fire p b).queues = s.queues := State.fire_keeps p b (List.Subset.refl _) (SameBut.refl _ s) .queues (by decide)
@[simp] theorem State.fire_turns (s : State) (p : Nat) (b : Nat) : (s.fire p b).turns = s.turns := State.fire_keeps p b (List.Subset.refl _) (SameBut.refl _ s) .turns (by decide)
@[simp] theorem State.fire_elig (s : State) (p : Nat) (b : Nat) : (s.fire p b).elig = s.elig := State.fire_keeps p b (List.Subset.refl _) (SameBut.refl _ s) .elig (by decide)
@[simp] theorem State.fire_shapers (s : State) (p : Nat) (b : Nat) : (s.fire p b).shapers = s.shapers := State.fire_keeps p b (List.Subset.refl _) (SameBut.refl _ s) .shapers (by decide)
@[simp] theorem State.fire_policers (s : State) (p : Nat) (b : Nat) : (s.fire p b).policers = s.policers := State.fire_keeps p b (List.Subset.refl _) (SameBut.refl _ s) .policers (by decide)
@[simp] theorem State.fire_gates (s : State) (p : Nat) (b : Nat) : (s.fire p b).gates = s.gates := State.fire_keeps p b (List.Subset.refl _) (SameBut.refl _ s) .gates (by decide)
@[simp] theorem State.fire_gateBusy (s : State) (p : Nat) (b : Nat) : (s.fire p b).gateBusy = s.gateBusy := State.fire_keeps p b (List.Subset.refl _) (SameBut.refl _ s) .gateBusy (by decide)
@[simp] theorem State.fire_lanes (s : State) (p : Nat) (b : Nat) : (s.fire p b).lanes = s.lanes := State.fire_keeps p b (List.Subset.refl _) (SameBut.refl _ s) .lanes (by decide)
@[simp] theorem State.fire_lports (s : State) (p : Nat) (b : Nat) : (s.fire p b).lports = s.lports := State.fire_keeps p b (List.Subset.refl _) (SameBut.refl _ s) .lports (by decide)
@[simp] theorem State.fire_mdio (s : State) (p : Nat) (b : Nat) : (s.fire p b).mdio = s.mdio := State.fire_keeps p b (List.Subset.refl _) (SameBut.refl _ s) .mdio (by decide)
@[simp] theorem State.fire_tim (s : State) (p : Nat) (b : Nat) : (s.fire p b).tim = s.tim := State.fire_keeps p b (List.Subset.refl _) (SameBut.refl _ s) .tim (by decide)
@[simp] theorem State.fire_log (s : State) (p : Nat) (b : Nat) : (s.fire p b).log = s.log := State.fire_keeps p b (List.Subset.refl _) (SameBut.refl _ s) .log (by decide)
@[simp] theorem State.fire_cpu (s : State) (p : Nat) (b : Nat) : (s.fire p b).cpu = s.cpu := State.fire_keeps p b (List.Subset.refl _) (SameBut.refl _ s) .cpu (by decide)
@[simp] theorem State.fire_pwr (s : State) (p : Nat) (b : Nat) : (s.fire p b).pwr = s.pwr := State.fire_keeps p b (List.Subset.refl _) (SameBut.refl _ s) .pwr (by decide)
@[simp] theorem State.fire_rst (s : State) (p : Nat) (b : Nat) : (s.fire p b).rst = s.rst := State.fire_keeps p b (List.Subset.refl _) (SameBut.refl _ s) .rst (by decide)
@[simp] theorem State.fire_sys (s : State) (p : Nat) (b : Nat) : (s.fire p b).sys = s.sys := State.fire_keeps p b (List.Subset.refl _) (SameBut.refl _ s) .sys (by decide)
@[simp] theorem State.fire_pins (s : State) (p : Nat) (b : Nat) : (s.fire p b).pins = s.pins := State.fire_keeps p b (List.Subset.refl _) (SameBut.refl _ s) .pins (by decide)
@[simp] theorem State.fire_clock (s : State) (p : Nat) (b : Nat) : (s.fire p b).clock = s.clock := State.fire_keeps p b (List.Subset.refl _) (SameBut.refl _ s) .clock (by decide)
@[simp] theorem State.fire_timers (s : State) (p : Nat) (b : Nat) : (s.fire p b).timers = s.timers := State.fire_keeps p b (List.Subset.refl _) (SameBut.refl _ s) .timers (by decide)
@[simp] theorem State.fire_pending (s : State) (p : Nat) (b : Nat) : (s.fire p b).pending = s.pending := State.fire_keeps p b (List.Subset.refl _) (SameBut.refl _ s) .pending (by decide)
@[simp] theorem State.fire_dark (s : State) (p : Nat) (b : Nat) : (s.fire p b).dark = s.dark := State.fire_keeps p b (List.Subset.refl _) (SameBut.refl _ s) .dark (by decide)
@[simp] theorem State.fire_resp (s : State) (p : Nat) (b : Nat) : (s.fire p b).resp = s.resp := State.fire_keeps p b (List.Subset.refl _) (SameBut.refl _ s) .resp (by decide)
@[simp] theorem State.fire_fresh (s : State) (p : Nat) (b : Nat) : (s.fire p b).fresh = s.fresh := State.fire_keeps p b (List.Subset.refl _) (SameBut.refl _ s) .fresh (by decide)
@[simp] theorem State.fire_running (s : State) (p : Nat) (b : Nat) (g_ : Nat) : (s.fire p b).running g_ = s.running g_ := State.running_of_timers (State.fire_timers s p b) g_
@[simp] theorem State.fire_domOn (s : State) (p : Nat) (b : Nat) (g_ : Nat) : (s.fire p b).domOn g_ = s.domOn g_ := State.domOn_of_pwr (State.fire_pwr s p b) g_

/-! `State.makeRecordIn` -/

@[simp] theorem State.makeRecordIn_shown (s : State) (room : Nat) (cls : Nat) (page : Nat) (body : List Byte) : (s.makeRecordIn room cls page body).shown = s.shown := State.makeRecordIn_keeps room cls page body (List.Subset.refl _) (SameBut.refl _ s) .shown (by decide)
@[simp] theorem State.makeRecordIn_mirror (s : State) (room : Nat) (cls : Nat) (page : Nat) (body : List Byte) : (s.makeRecordIn room cls page body).mirror = s.mirror := State.makeRecordIn_keeps room cls page body (List.Subset.refl _) (SameBut.refl _ s) .mirror (by decide)
@[simp] theorem State.makeRecordIn_mem (s : State) (room : Nat) (cls : Nat) (page : Nat) (body : List Byte) : (s.makeRecordIn room cls page body).mem = s.mem := State.makeRecordIn_keeps room cls page body (List.Subset.refl _) (SameBut.refl _ s) .mem (by decide)
@[simp] theorem State.makeRecordIn_cmt (s : State) (room : Nat) (cls : Nat) (page : Nat) (body : List Byte) : (s.makeRecordIn room cls page body).cmt = s.cmt := State.makeRecordIn_keeps room cls page body (List.Subset.refl _) (SameBut.refl _ s) .cmt (by decide)
@[simp] theorem State.makeRecordIn_own (s : State) (room : Nat) (cls : Nat) (page : Nat) (body : List Byte) : (s.makeRecordIn room cls page body).own = s.own := State.makeRecordIn_keeps room cls page body (List.Subset.refl _) (SameBut.refl _ s) .own (by decide)
@[simp] theorem State.makeRecordIn_nextPkt (s : State) (room : Nat) (cls : Nat) (page : Nat) (body : List Byte) : (s.makeRecordIn room cls page body).nextPkt = s.nextPkt := State.makeRecordIn_keeps room cls page body (List.Subset.refl _) (SameBut.refl _ s) .nextPkt (by decide)
@[simp] theorem State.makeRecordIn_rx (s : State) (room : Nat) (cls : Nat) (page : Nat) (body : List Byte) : (s.makeRecordIn room cls page body).rx = s.rx := State.makeRecordIn_keeps room cls page body (List.Subset.refl _) (SameBut.refl _ s) .rx (by decide)
@[simp] theorem State.makeRecordIn_dsf (s : State) (room : Nat) (cls : Nat) (page : Nat) (body : List Byte) : (s.makeRecordIn room cls page body).dsf = s.dsf := State.makeRecordIn_keeps room cls page body (List.Subset.refl _) (SameBut.refl _ s) .dsf (by decide)
@[simp] theorem State.makeRecordIn_tmap (s : State) (room : Nat) (cls : Nat) (page : Nat) (body : List Byte) : (s.makeRecordIn room cls page body).tmap = s.tmap := State.makeRecordIn_keeps room cls page body (List.Subset.refl _) (SameBut.refl _ s) .tmap (by decide)
@[simp] theorem State.makeRecordIn_tribs (s : State) (room : Nat) (cls : Nat) (page : Nat) (body : List Byte) : (s.makeRecordIn room cls page body).tribs = s.tribs := State.makeRecordIn_keeps room cls page body (List.Subset.refl _) (SameBut.refl _ s) .tribs (by decide)
@[simp] theorem State.makeRecordIn_tfrags (s : State) (room : Nat) (cls : Nat) (page : Nat) (body : List Byte) : (s.makeRecordIn room cls page body).tfrags = s.tfrags := State.makeRecordIn_keeps room cls page body (List.Subset.refl _) (SameBut.refl _ s) .tfrags (by decide)
@[simp] theorem State.makeRecordIn_rows (s : State) (room : Nat) (cls : Nat) (page : Nat) (body : List Byte) : (s.makeRecordIn room cls page body).rows = s.rows := State.makeRecordIn_keeps room cls page body (List.Subset.refl _) (SameBut.refl _ s) .rows (by decide)
@[simp] theorem State.makeRecordIn_ttest (s : State) (room : Nat) (cls : Nat) (page : Nat) (body : List Byte) : (s.makeRecordIn room cls page body).ttest = s.ttest := State.makeRecordIn_keeps room cls page body (List.Subset.refl _) (SameBut.refl _ s) .ttest (by decide)
@[simp] theorem State.makeRecordIn_act (s : State) (room : Nat) (cls : Nat) (page : Nat) (body : List Byte) : (s.makeRecordIn room cls page body).act = s.act := State.makeRecordIn_keeps room cls page body (List.Subset.refl _) (SameBut.refl _ s) .act (by decide)
@[simp] theorem State.makeRecordIn_upb (s : State) (room : Nat) (cls : Nat) (page : Nat) (body : List Byte) : (s.makeRecordIn room cls page body).upb = s.upb := State.makeRecordIn_keeps room cls page body (List.Subset.refl _) (SameBut.refl _ s) .upb (by decide)
@[simp] theorem State.makeRecordIn_restarts (s : State) (room : Nat) (cls : Nat) (page : Nat) (body : List Byte) : (s.makeRecordIn room cls page body).restarts = s.restarts := State.makeRecordIn_keeps room cls page body (List.Subset.refl _) (SameBut.refl _ s) .restarts (by decide)
@[simp] theorem State.makeRecordIn_gsm (s : State) (room : Nat) (cls : Nat) (page : Nat) (body : List Byte) : (s.makeRecordIn room cls page body).gsm = s.gsm := State.makeRecordIn_keeps room cls page body (List.Subset.refl _) (SameBut.refl _ s) .gsm (by decide)
@[simp] theorem State.makeRecordIn_txEff (s : State) (room : Nat) (cls : Nat) (page : Nat) (body : List Byte) : (s.makeRecordIn room cls page body).txEff = s.txEff := State.makeRecordIn_keeps room cls page body (List.Subset.refl _) (SameBut.refl _ s) .txEff (by decide)
@[simp] theorem State.makeRecordIn_pairs (s : State) (room : Nat) (cls : Nat) (page : Nat) (body : List Byte) : (s.makeRecordIn room cls page body).pairs = s.pairs := State.makeRecordIn_keeps room cls page body (List.Subset.refl _) (SameBut.refl _ s) .pairs (by decide)
@[simp] theorem State.makeRecordIn_key (s : State) (room : Nat) (cls : Nat) (page : Nat) (body : List Byte) : (s.makeRecordIn room cls page body).key = s.key := State.makeRecordIn_keeps room cls page body (List.Subset.refl _) (SameBut.refl _ s) .key (by decide)
@[simp] theorem State.makeRecordIn_pipes (s : State) (room : Nat) (cls : Nat) (page : Nat) (body : List Byte) : (s.makeRecordIn room cls page body).pipes = s.pipes := State.makeRecordIn_keeps room cls page body (List.Subset.refl _) (SameBut.refl _ s) .pipes (by decide)
@[simp] theorem State.makeRecordIn_epochs (s : State) (room : Nat) (cls : Nat) (page : Nat) (body : List Byte) : (s.makeRecordIn room cls page body).epochs = s.epochs := State.makeRecordIn_keeps room cls page body (List.Subset.refl _) (SameBut.refl _ s) .epochs (by decide)
@[simp] theorem State.makeRecordIn_prog (s : State) (room : Nat) (cls : Nat) (page : Nat) (body : List Byte) : (s.makeRecordIn room cls page body).prog = s.prog := State.makeRecordIn_keeps room cls page body (List.Subset.refl _) (SameBut.refl _ s) .prog (by decide)
@[simp] theorem State.makeRecordIn_rcnt (s : State) (room : Nat) (cls : Nat) (page : Nat) (body : List Byte) : (s.makeRecordIn room cls page body).rcnt = s.rcnt := State.makeRecordIn_keeps room cls page body (List.Subset.refl _) (SameBut.refl _ s) .rcnt (by decide)
@[simp] theorem State.makeRecordIn_rcntHeld (s : State) (room : Nat) (cls : Nat) (page : Nat) (body : List Byte) : (s.makeRecordIn room cls page body).rcntHeld = s.rcntHeld := State.makeRecordIn_keeps room cls page body (List.Subset.refl _) (SameBut.refl _ s) .rcntHeld (by decide)
@[simp] theorem State.makeRecordIn_excWait (s : State) (room : Nat) (cls : Nat) (page : Nat) (body : List Byte) : (s.makeRecordIn room cls page body).excWait = s.excWait := State.makeRecordIn_keeps room cls page body (List.Subset.refl _) (SameBut.refl _ s) .excWait (by decide)
@[simp] theorem State.makeRecordIn_bufs (s : State) (room : Nat) (cls : Nat) (page : Nat) (body : List Byte) : (s.makeRecordIn room cls page body).bufs = s.bufs := State.makeRecordIn_keeps room cls page body (List.Subset.refl _) (SameBut.refl _ s) .bufs (by decide)
@[simp] theorem State.makeRecordIn_bufRot (s : State) (room : Nat) (cls : Nat) (page : Nat) (body : List Byte) : (s.makeRecordIn room cls page body).bufRot = s.bufRot := State.makeRecordIn_keeps room cls page body (List.Subset.refl _) (SameBut.refl _ s) .bufRot (by decide)
@[simp] theorem State.makeRecordIn_qmap (s : State) (room : Nat) (cls : Nat) (page : Nat) (body : List Byte) : (s.makeRecordIn room cls page body).qmap = s.qmap := State.makeRecordIn_keeps room cls page body (List.Subset.refl _) (SameBut.refl _ s) .qmap (by decide)
@[simp] theorem State.makeRecordIn_memch (s : State) (room : Nat) (cls : Nat) (page : Nat) (body : List Byte) : (s.makeRecordIn room cls page body).memch = s.memch := State.makeRecordIn_keeps room cls page body (List.Subset.refl _) (SameBut.refl _ s) .memch (by decide)
@[simp] theorem State.makeRecordIn_ecc (s : State) (room : Nat) (cls : Nat) (page : Nat) (body : List Byte) : (s.makeRecordIn room cls page body).ecc = s.ecc := State.makeRecordIn_keeps room cls page body (List.Subset.refl _) (SameBut.refl _ s) .ecc (by decide)
@[simp] theorem State.makeRecordIn_mxe (s : State) (room : Nat) (cls : Nat) (page : Nat) (body : List Byte) : (s.makeRecordIn room cls page body).mxe = s.mxe := State.makeRecordIn_keeps room cls page body (List.Subset.refl _) (SameBut.refl _ s) .mxe (by decide)
@[simp] theorem State.makeRecordIn_queues (s : State) (room : Nat) (cls : Nat) (page : Nat) (body : List Byte) : (s.makeRecordIn room cls page body).queues = s.queues := State.makeRecordIn_keeps room cls page body (List.Subset.refl _) (SameBut.refl _ s) .queues (by decide)
@[simp] theorem State.makeRecordIn_turns (s : State) (room : Nat) (cls : Nat) (page : Nat) (body : List Byte) : (s.makeRecordIn room cls page body).turns = s.turns := State.makeRecordIn_keeps room cls page body (List.Subset.refl _) (SameBut.refl _ s) .turns (by decide)
@[simp] theorem State.makeRecordIn_elig (s : State) (room : Nat) (cls : Nat) (page : Nat) (body : List Byte) : (s.makeRecordIn room cls page body).elig = s.elig := State.makeRecordIn_keeps room cls page body (List.Subset.refl _) (SameBut.refl _ s) .elig (by decide)
@[simp] theorem State.makeRecordIn_shapers (s : State) (room : Nat) (cls : Nat) (page : Nat) (body : List Byte) : (s.makeRecordIn room cls page body).shapers = s.shapers := State.makeRecordIn_keeps room cls page body (List.Subset.refl _) (SameBut.refl _ s) .shapers (by decide)
@[simp] theorem State.makeRecordIn_policers (s : State) (room : Nat) (cls : Nat) (page : Nat) (body : List Byte) : (s.makeRecordIn room cls page body).policers = s.policers := State.makeRecordIn_keeps room cls page body (List.Subset.refl _) (SameBut.refl _ s) .policers (by decide)
@[simp] theorem State.makeRecordIn_gates (s : State) (room : Nat) (cls : Nat) (page : Nat) (body : List Byte) : (s.makeRecordIn room cls page body).gates = s.gates := State.makeRecordIn_keeps room cls page body (List.Subset.refl _) (SameBut.refl _ s) .gates (by decide)
@[simp] theorem State.makeRecordIn_gateBusy (s : State) (room : Nat) (cls : Nat) (page : Nat) (body : List Byte) : (s.makeRecordIn room cls page body).gateBusy = s.gateBusy := State.makeRecordIn_keeps room cls page body (List.Subset.refl _) (SameBut.refl _ s) .gateBusy (by decide)
@[simp] theorem State.makeRecordIn_lanes (s : State) (room : Nat) (cls : Nat) (page : Nat) (body : List Byte) : (s.makeRecordIn room cls page body).lanes = s.lanes := State.makeRecordIn_keeps room cls page body (List.Subset.refl _) (SameBut.refl _ s) .lanes (by decide)
@[simp] theorem State.makeRecordIn_lports (s : State) (room : Nat) (cls : Nat) (page : Nat) (body : List Byte) : (s.makeRecordIn room cls page body).lports = s.lports := State.makeRecordIn_keeps room cls page body (List.Subset.refl _) (SameBut.refl _ s) .lports (by decide)
@[simp] theorem State.makeRecordIn_mdio (s : State) (room : Nat) (cls : Nat) (page : Nat) (body : List Byte) : (s.makeRecordIn room cls page body).mdio = s.mdio := State.makeRecordIn_keeps room cls page body (List.Subset.refl _) (SameBut.refl _ s) .mdio (by decide)
@[simp] theorem State.makeRecordIn_tim (s : State) (room : Nat) (cls : Nat) (page : Nat) (body : List Byte) : (s.makeRecordIn room cls page body).tim = s.tim := State.makeRecordIn_keeps room cls page body (List.Subset.refl _) (SameBut.refl _ s) .tim (by decide)
@[simp] theorem State.makeRecordIn_cpu (s : State) (room : Nat) (cls : Nat) (page : Nat) (body : List Byte) : (s.makeRecordIn room cls page body).cpu = s.cpu := State.makeRecordIn_keeps room cls page body (List.Subset.refl _) (SameBut.refl _ s) .cpu (by decide)
@[simp] theorem State.makeRecordIn_pwr (s : State) (room : Nat) (cls : Nat) (page : Nat) (body : List Byte) : (s.makeRecordIn room cls page body).pwr = s.pwr := State.makeRecordIn_keeps room cls page body (List.Subset.refl _) (SameBut.refl _ s) .pwr (by decide)
@[simp] theorem State.makeRecordIn_rst (s : State) (room : Nat) (cls : Nat) (page : Nat) (body : List Byte) : (s.makeRecordIn room cls page body).rst = s.rst := State.makeRecordIn_keeps room cls page body (List.Subset.refl _) (SameBut.refl _ s) .rst (by decide)
@[simp] theorem State.makeRecordIn_sys (s : State) (room : Nat) (cls : Nat) (page : Nat) (body : List Byte) : (s.makeRecordIn room cls page body).sys = s.sys := State.makeRecordIn_keeps room cls page body (List.Subset.refl _) (SameBut.refl _ s) .sys (by decide)
@[simp] theorem State.makeRecordIn_pins (s : State) (room : Nat) (cls : Nat) (page : Nat) (body : List Byte) : (s.makeRecordIn room cls page body).pins = s.pins := State.makeRecordIn_keeps room cls page body (List.Subset.refl _) (SameBut.refl _ s) .pins (by decide)
@[simp] theorem State.makeRecordIn_clock (s : State) (room : Nat) (cls : Nat) (page : Nat) (body : List Byte) : (s.makeRecordIn room cls page body).clock = s.clock := State.makeRecordIn_keeps room cls page body (List.Subset.refl _) (SameBut.refl _ s) .clock (by decide)
@[simp] theorem State.makeRecordIn_timers (s : State) (room : Nat) (cls : Nat) (page : Nat) (body : List Byte) : (s.makeRecordIn room cls page body).timers = s.timers := State.makeRecordIn_keeps room cls page body (List.Subset.refl _) (SameBut.refl _ s) .timers (by decide)
@[simp] theorem State.makeRecordIn_pending (s : State) (room : Nat) (cls : Nat) (page : Nat) (body : List Byte) : (s.makeRecordIn room cls page body).pending = s.pending := State.makeRecordIn_keeps room cls page body (List.Subset.refl _) (SameBut.refl _ s) .pending (by decide)
@[simp] theorem State.makeRecordIn_dark (s : State) (room : Nat) (cls : Nat) (page : Nat) (body : List Byte) : (s.makeRecordIn room cls page body).dark = s.dark := State.makeRecordIn_keeps room cls page body (List.Subset.refl _) (SameBut.refl _ s) .dark (by decide)
@[simp] theorem State.makeRecordIn_resp (s : State) (room : Nat) (cls : Nat) (page : Nat) (body : List Byte) : (s.makeRecordIn room cls page body).resp = s.resp := State.makeRecordIn_keeps room cls page body (List.Subset.refl _) (SameBut.refl _ s) .resp (by decide)
@[simp] theorem State.makeRecordIn_fresh (s : State) (room : Nat) (cls : Nat) (page : Nat) (body : List Byte) : (s.makeRecordIn room cls page body).fresh = s.fresh := State.makeRecordIn_keeps room cls page body (List.Subset.refl _) (SameBut.refl _ s) .fresh (by decide)
@[simp] theorem State.makeRecordIn_running (s : State) (room : Nat) (cls : Nat) (page : Nat) (body : List Byte) (g_ : Nat) : (s.makeRecordIn room cls page body).running g_ = s.running g_ := State.running_of_timers (State.makeRecordIn_timers s room cls page body) g_
@[simp] theorem State.makeRecordIn_domOn (s : State) (room : Nat) (cls : Nat) (page : Nat) (body : List Byte) (g_ : Nat) : (s.makeRecordIn room cls page body).domOn g_ = s.domOn g_ := State.domOn_of_pwr (State.makeRecordIn_pwr s room cls page body) g_

/-! `State.makeRecord` -/

@[simp] theorem State.makeRecord_shown (s : State) (cls : Nat) (page : Nat) (body : List Byte) : (s.makeRecord cls page body).shown = s.shown := State.makeRecord_keeps cls page body (List.Subset.refl _) (SameBut.refl _ s) .shown (by decide)
@[simp] theorem State.makeRecord_mirror (s : State) (cls : Nat) (page : Nat) (body : List Byte) : (s.makeRecord cls page body).mirror = s.mirror := State.makeRecord_keeps cls page body (List.Subset.refl _) (SameBut.refl _ s) .mirror (by decide)
@[simp] theorem State.makeRecord_mem (s : State) (cls : Nat) (page : Nat) (body : List Byte) : (s.makeRecord cls page body).mem = s.mem := State.makeRecord_keeps cls page body (List.Subset.refl _) (SameBut.refl _ s) .mem (by decide)
@[simp] theorem State.makeRecord_cmt (s : State) (cls : Nat) (page : Nat) (body : List Byte) : (s.makeRecord cls page body).cmt = s.cmt := State.makeRecord_keeps cls page body (List.Subset.refl _) (SameBut.refl _ s) .cmt (by decide)
@[simp] theorem State.makeRecord_own (s : State) (cls : Nat) (page : Nat) (body : List Byte) : (s.makeRecord cls page body).own = s.own := State.makeRecord_keeps cls page body (List.Subset.refl _) (SameBut.refl _ s) .own (by decide)
@[simp] theorem State.makeRecord_nextPkt (s : State) (cls : Nat) (page : Nat) (body : List Byte) : (s.makeRecord cls page body).nextPkt = s.nextPkt := State.makeRecord_keeps cls page body (List.Subset.refl _) (SameBut.refl _ s) .nextPkt (by decide)
@[simp] theorem State.makeRecord_rx (s : State) (cls : Nat) (page : Nat) (body : List Byte) : (s.makeRecord cls page body).rx = s.rx := State.makeRecord_keeps cls page body (List.Subset.refl _) (SameBut.refl _ s) .rx (by decide)
@[simp] theorem State.makeRecord_dsf (s : State) (cls : Nat) (page : Nat) (body : List Byte) : (s.makeRecord cls page body).dsf = s.dsf := State.makeRecord_keeps cls page body (List.Subset.refl _) (SameBut.refl _ s) .dsf (by decide)
@[simp] theorem State.makeRecord_tmap (s : State) (cls : Nat) (page : Nat) (body : List Byte) : (s.makeRecord cls page body).tmap = s.tmap := State.makeRecord_keeps cls page body (List.Subset.refl _) (SameBut.refl _ s) .tmap (by decide)
@[simp] theorem State.makeRecord_tribs (s : State) (cls : Nat) (page : Nat) (body : List Byte) : (s.makeRecord cls page body).tribs = s.tribs := State.makeRecord_keeps cls page body (List.Subset.refl _) (SameBut.refl _ s) .tribs (by decide)
@[simp] theorem State.makeRecord_tfrags (s : State) (cls : Nat) (page : Nat) (body : List Byte) : (s.makeRecord cls page body).tfrags = s.tfrags := State.makeRecord_keeps cls page body (List.Subset.refl _) (SameBut.refl _ s) .tfrags (by decide)
@[simp] theorem State.makeRecord_rows (s : State) (cls : Nat) (page : Nat) (body : List Byte) : (s.makeRecord cls page body).rows = s.rows := State.makeRecord_keeps cls page body (List.Subset.refl _) (SameBut.refl _ s) .rows (by decide)
@[simp] theorem State.makeRecord_ttest (s : State) (cls : Nat) (page : Nat) (body : List Byte) : (s.makeRecord cls page body).ttest = s.ttest := State.makeRecord_keeps cls page body (List.Subset.refl _) (SameBut.refl _ s) .ttest (by decide)
@[simp] theorem State.makeRecord_act (s : State) (cls : Nat) (page : Nat) (body : List Byte) : (s.makeRecord cls page body).act = s.act := State.makeRecord_keeps cls page body (List.Subset.refl _) (SameBut.refl _ s) .act (by decide)
@[simp] theorem State.makeRecord_upb (s : State) (cls : Nat) (page : Nat) (body : List Byte) : (s.makeRecord cls page body).upb = s.upb := State.makeRecord_keeps cls page body (List.Subset.refl _) (SameBut.refl _ s) .upb (by decide)
@[simp] theorem State.makeRecord_restarts (s : State) (cls : Nat) (page : Nat) (body : List Byte) : (s.makeRecord cls page body).restarts = s.restarts := State.makeRecord_keeps cls page body (List.Subset.refl _) (SameBut.refl _ s) .restarts (by decide)
@[simp] theorem State.makeRecord_gsm (s : State) (cls : Nat) (page : Nat) (body : List Byte) : (s.makeRecord cls page body).gsm = s.gsm := State.makeRecord_keeps cls page body (List.Subset.refl _) (SameBut.refl _ s) .gsm (by decide)
@[simp] theorem State.makeRecord_txEff (s : State) (cls : Nat) (page : Nat) (body : List Byte) : (s.makeRecord cls page body).txEff = s.txEff := State.makeRecord_keeps cls page body (List.Subset.refl _) (SameBut.refl _ s) .txEff (by decide)
@[simp] theorem State.makeRecord_pairs (s : State) (cls : Nat) (page : Nat) (body : List Byte) : (s.makeRecord cls page body).pairs = s.pairs := State.makeRecord_keeps cls page body (List.Subset.refl _) (SameBut.refl _ s) .pairs (by decide)
@[simp] theorem State.makeRecord_key (s : State) (cls : Nat) (page : Nat) (body : List Byte) : (s.makeRecord cls page body).key = s.key := State.makeRecord_keeps cls page body (List.Subset.refl _) (SameBut.refl _ s) .key (by decide)
@[simp] theorem State.makeRecord_pipes (s : State) (cls : Nat) (page : Nat) (body : List Byte) : (s.makeRecord cls page body).pipes = s.pipes := State.makeRecord_keeps cls page body (List.Subset.refl _) (SameBut.refl _ s) .pipes (by decide)
@[simp] theorem State.makeRecord_epochs (s : State) (cls : Nat) (page : Nat) (body : List Byte) : (s.makeRecord cls page body).epochs = s.epochs := State.makeRecord_keeps cls page body (List.Subset.refl _) (SameBut.refl _ s) .epochs (by decide)
@[simp] theorem State.makeRecord_prog (s : State) (cls : Nat) (page : Nat) (body : List Byte) : (s.makeRecord cls page body).prog = s.prog := State.makeRecord_keeps cls page body (List.Subset.refl _) (SameBut.refl _ s) .prog (by decide)
@[simp] theorem State.makeRecord_rcnt (s : State) (cls : Nat) (page : Nat) (body : List Byte) : (s.makeRecord cls page body).rcnt = s.rcnt := State.makeRecord_keeps cls page body (List.Subset.refl _) (SameBut.refl _ s) .rcnt (by decide)
@[simp] theorem State.makeRecord_rcntHeld (s : State) (cls : Nat) (page : Nat) (body : List Byte) : (s.makeRecord cls page body).rcntHeld = s.rcntHeld := State.makeRecord_keeps cls page body (List.Subset.refl _) (SameBut.refl _ s) .rcntHeld (by decide)
@[simp] theorem State.makeRecord_excWait (s : State) (cls : Nat) (page : Nat) (body : List Byte) : (s.makeRecord cls page body).excWait = s.excWait := State.makeRecord_keeps cls page body (List.Subset.refl _) (SameBut.refl _ s) .excWait (by decide)
@[simp] theorem State.makeRecord_bufs (s : State) (cls : Nat) (page : Nat) (body : List Byte) : (s.makeRecord cls page body).bufs = s.bufs := State.makeRecord_keeps cls page body (List.Subset.refl _) (SameBut.refl _ s) .bufs (by decide)
@[simp] theorem State.makeRecord_bufRot (s : State) (cls : Nat) (page : Nat) (body : List Byte) : (s.makeRecord cls page body).bufRot = s.bufRot := State.makeRecord_keeps cls page body (List.Subset.refl _) (SameBut.refl _ s) .bufRot (by decide)
@[simp] theorem State.makeRecord_qmap (s : State) (cls : Nat) (page : Nat) (body : List Byte) : (s.makeRecord cls page body).qmap = s.qmap := State.makeRecord_keeps cls page body (List.Subset.refl _) (SameBut.refl _ s) .qmap (by decide)
@[simp] theorem State.makeRecord_memch (s : State) (cls : Nat) (page : Nat) (body : List Byte) : (s.makeRecord cls page body).memch = s.memch := State.makeRecord_keeps cls page body (List.Subset.refl _) (SameBut.refl _ s) .memch (by decide)
@[simp] theorem State.makeRecord_ecc (s : State) (cls : Nat) (page : Nat) (body : List Byte) : (s.makeRecord cls page body).ecc = s.ecc := State.makeRecord_keeps cls page body (List.Subset.refl _) (SameBut.refl _ s) .ecc (by decide)
@[simp] theorem State.makeRecord_mxe (s : State) (cls : Nat) (page : Nat) (body : List Byte) : (s.makeRecord cls page body).mxe = s.mxe := State.makeRecord_keeps cls page body (List.Subset.refl _) (SameBut.refl _ s) .mxe (by decide)
@[simp] theorem State.makeRecord_queues (s : State) (cls : Nat) (page : Nat) (body : List Byte) : (s.makeRecord cls page body).queues = s.queues := State.makeRecord_keeps cls page body (List.Subset.refl _) (SameBut.refl _ s) .queues (by decide)
@[simp] theorem State.makeRecord_turns (s : State) (cls : Nat) (page : Nat) (body : List Byte) : (s.makeRecord cls page body).turns = s.turns := State.makeRecord_keeps cls page body (List.Subset.refl _) (SameBut.refl _ s) .turns (by decide)
@[simp] theorem State.makeRecord_elig (s : State) (cls : Nat) (page : Nat) (body : List Byte) : (s.makeRecord cls page body).elig = s.elig := State.makeRecord_keeps cls page body (List.Subset.refl _) (SameBut.refl _ s) .elig (by decide)
@[simp] theorem State.makeRecord_shapers (s : State) (cls : Nat) (page : Nat) (body : List Byte) : (s.makeRecord cls page body).shapers = s.shapers := State.makeRecord_keeps cls page body (List.Subset.refl _) (SameBut.refl _ s) .shapers (by decide)
@[simp] theorem State.makeRecord_policers (s : State) (cls : Nat) (page : Nat) (body : List Byte) : (s.makeRecord cls page body).policers = s.policers := State.makeRecord_keeps cls page body (List.Subset.refl _) (SameBut.refl _ s) .policers (by decide)
@[simp] theorem State.makeRecord_gates (s : State) (cls : Nat) (page : Nat) (body : List Byte) : (s.makeRecord cls page body).gates = s.gates := State.makeRecord_keeps cls page body (List.Subset.refl _) (SameBut.refl _ s) .gates (by decide)
@[simp] theorem State.makeRecord_gateBusy (s : State) (cls : Nat) (page : Nat) (body : List Byte) : (s.makeRecord cls page body).gateBusy = s.gateBusy := State.makeRecord_keeps cls page body (List.Subset.refl _) (SameBut.refl _ s) .gateBusy (by decide)
@[simp] theorem State.makeRecord_lanes (s : State) (cls : Nat) (page : Nat) (body : List Byte) : (s.makeRecord cls page body).lanes = s.lanes := State.makeRecord_keeps cls page body (List.Subset.refl _) (SameBut.refl _ s) .lanes (by decide)
@[simp] theorem State.makeRecord_lports (s : State) (cls : Nat) (page : Nat) (body : List Byte) : (s.makeRecord cls page body).lports = s.lports := State.makeRecord_keeps cls page body (List.Subset.refl _) (SameBut.refl _ s) .lports (by decide)
@[simp] theorem State.makeRecord_mdio (s : State) (cls : Nat) (page : Nat) (body : List Byte) : (s.makeRecord cls page body).mdio = s.mdio := State.makeRecord_keeps cls page body (List.Subset.refl _) (SameBut.refl _ s) .mdio (by decide)
@[simp] theorem State.makeRecord_tim (s : State) (cls : Nat) (page : Nat) (body : List Byte) : (s.makeRecord cls page body).tim = s.tim := State.makeRecord_keeps cls page body (List.Subset.refl _) (SameBut.refl _ s) .tim (by decide)
@[simp] theorem State.makeRecord_cpu (s : State) (cls : Nat) (page : Nat) (body : List Byte) : (s.makeRecord cls page body).cpu = s.cpu := State.makeRecord_keeps cls page body (List.Subset.refl _) (SameBut.refl _ s) .cpu (by decide)
@[simp] theorem State.makeRecord_pwr (s : State) (cls : Nat) (page : Nat) (body : List Byte) : (s.makeRecord cls page body).pwr = s.pwr := State.makeRecord_keeps cls page body (List.Subset.refl _) (SameBut.refl _ s) .pwr (by decide)
@[simp] theorem State.makeRecord_rst (s : State) (cls : Nat) (page : Nat) (body : List Byte) : (s.makeRecord cls page body).rst = s.rst := State.makeRecord_keeps cls page body (List.Subset.refl _) (SameBut.refl _ s) .rst (by decide)
@[simp] theorem State.makeRecord_sys (s : State) (cls : Nat) (page : Nat) (body : List Byte) : (s.makeRecord cls page body).sys = s.sys := State.makeRecord_keeps cls page body (List.Subset.refl _) (SameBut.refl _ s) .sys (by decide)
@[simp] theorem State.makeRecord_pins (s : State) (cls : Nat) (page : Nat) (body : List Byte) : (s.makeRecord cls page body).pins = s.pins := State.makeRecord_keeps cls page body (List.Subset.refl _) (SameBut.refl _ s) .pins (by decide)
@[simp] theorem State.makeRecord_clock (s : State) (cls : Nat) (page : Nat) (body : List Byte) : (s.makeRecord cls page body).clock = s.clock := State.makeRecord_keeps cls page body (List.Subset.refl _) (SameBut.refl _ s) .clock (by decide)
@[simp] theorem State.makeRecord_timers (s : State) (cls : Nat) (page : Nat) (body : List Byte) : (s.makeRecord cls page body).timers = s.timers := State.makeRecord_keeps cls page body (List.Subset.refl _) (SameBut.refl _ s) .timers (by decide)
@[simp] theorem State.makeRecord_pending (s : State) (cls : Nat) (page : Nat) (body : List Byte) : (s.makeRecord cls page body).pending = s.pending := State.makeRecord_keeps cls page body (List.Subset.refl _) (SameBut.refl _ s) .pending (by decide)
@[simp] theorem State.makeRecord_dark (s : State) (cls : Nat) (page : Nat) (body : List Byte) : (s.makeRecord cls page body).dark = s.dark := State.makeRecord_keeps cls page body (List.Subset.refl _) (SameBut.refl _ s) .dark (by decide)
@[simp] theorem State.makeRecord_resp (s : State) (cls : Nat) (page : Nat) (body : List Byte) : (s.makeRecord cls page body).resp = s.resp := State.makeRecord_keeps cls page body (List.Subset.refl _) (SameBut.refl _ s) .resp (by decide)
@[simp] theorem State.makeRecord_fresh (s : State) (cls : Nat) (page : Nat) (body : List Byte) : (s.makeRecord cls page body).fresh = s.fresh := State.makeRecord_keeps cls page body (List.Subset.refl _) (SameBut.refl _ s) .fresh (by decide)
@[simp] theorem State.makeRecord_running (s : State) (cls : Nat) (page : Nat) (body : List Byte) (g_ : Nat) : (s.makeRecord cls page body).running g_ = s.running g_ := State.running_of_timers (State.makeRecord_timers s cls page body) g_
@[simp] theorem State.makeRecord_domOn (s : State) (cls : Nat) (page : Nat) (body : List Byte) (g_ : Nat) : (s.makeRecord cls page body).domOn g_ = s.domOn g_ := State.domOn_of_pwr (State.makeRecord_pwr s cls page body) g_

/-! `State.coreFault` -/

@[simp] theorem State.coreFault_regs (s : State) (n : Fin 8) (cause : Nat) (addr : Nat) : (s.coreFault n cause addr).regs = s.regs := State.coreFault_keeps n cause addr (List.Subset.refl _) (SameBut.refl _ s) .regs (by decide)
@[simp] theorem State.coreFault_shown (s : State) (n : Fin 8) (cause : Nat) (addr : Nat) : (s.coreFault n cause addr).shown = s.shown := State.coreFault_keeps n cause addr (List.Subset.refl _) (SameBut.refl _ s) .shown (by decide)
@[simp] theorem State.coreFault_mirror (s : State) (n : Fin 8) (cause : Nat) (addr : Nat) : (s.coreFault n cause addr).mirror = s.mirror := State.coreFault_keeps n cause addr (List.Subset.refl _) (SameBut.refl _ s) .mirror (by decide)
@[simp] theorem State.coreFault_mem (s : State) (n : Fin 8) (cause : Nat) (addr : Nat) : (s.coreFault n cause addr).mem = s.mem := State.coreFault_keeps n cause addr (List.Subset.refl _) (SameBut.refl _ s) .mem (by decide)
@[simp] theorem State.coreFault_seam (s : State) (n : Fin 8) (cause : Nat) (addr : Nat) : (s.coreFault n cause addr).seam = s.seam := State.coreFault_keeps n cause addr (List.Subset.refl _) (SameBut.refl _ s) .seam (by decide)
@[simp] theorem State.coreFault_cmt (s : State) (n : Fin 8) (cause : Nat) (addr : Nat) : (s.coreFault n cause addr).cmt = s.cmt := State.coreFault_keeps n cause addr (List.Subset.refl _) (SameBut.refl _ s) .cmt (by decide)
@[simp] theorem State.coreFault_own (s : State) (n : Fin 8) (cause : Nat) (addr : Nat) : (s.coreFault n cause addr).own = s.own := State.coreFault_keeps n cause addr (List.Subset.refl _) (SameBut.refl _ s) .own (by decide)
@[simp] theorem State.coreFault_nextPkt (s : State) (n : Fin 8) (cause : Nat) (addr : Nat) : (s.coreFault n cause addr).nextPkt = s.nextPkt := State.coreFault_keeps n cause addr (List.Subset.refl _) (SameBut.refl _ s) .nextPkt (by decide)
@[simp] theorem State.coreFault_rx (s : State) (n : Fin 8) (cause : Nat) (addr : Nat) : (s.coreFault n cause addr).rx = s.rx := State.coreFault_keeps n cause addr (List.Subset.refl _) (SameBut.refl _ s) .rx (by decide)
@[simp] theorem State.coreFault_dsf (s : State) (n : Fin 8) (cause : Nat) (addr : Nat) : (s.coreFault n cause addr).dsf = s.dsf := State.coreFault_keeps n cause addr (List.Subset.refl _) (SameBut.refl _ s) .dsf (by decide)
@[simp] theorem State.coreFault_tmap (s : State) (n : Fin 8) (cause : Nat) (addr : Nat) : (s.coreFault n cause addr).tmap = s.tmap := State.coreFault_keeps n cause addr (List.Subset.refl _) (SameBut.refl _ s) .tmap (by decide)
@[simp] theorem State.coreFault_tribs (s : State) (n : Fin 8) (cause : Nat) (addr : Nat) : (s.coreFault n cause addr).tribs = s.tribs := State.coreFault_keeps n cause addr (List.Subset.refl _) (SameBut.refl _ s) .tribs (by decide)
@[simp] theorem State.coreFault_tfrags (s : State) (n : Fin 8) (cause : Nat) (addr : Nat) : (s.coreFault n cause addr).tfrags = s.tfrags := State.coreFault_keeps n cause addr (List.Subset.refl _) (SameBut.refl _ s) .tfrags (by decide)
@[simp] theorem State.coreFault_rows (s : State) (n : Fin 8) (cause : Nat) (addr : Nat) : (s.coreFault n cause addr).rows = s.rows := State.coreFault_keeps n cause addr (List.Subset.refl _) (SameBut.refl _ s) .rows (by decide)
@[simp] theorem State.coreFault_ttest (s : State) (n : Fin 8) (cause : Nat) (addr : Nat) : (s.coreFault n cause addr).ttest = s.ttest := State.coreFault_keeps n cause addr (List.Subset.refl _) (SameBut.refl _ s) .ttest (by decide)
@[simp] theorem State.coreFault_act (s : State) (n : Fin 8) (cause : Nat) (addr : Nat) : (s.coreFault n cause addr).act = s.act := State.coreFault_keeps n cause addr (List.Subset.refl _) (SameBut.refl _ s) .act (by decide)
@[simp] theorem State.coreFault_upb (s : State) (n : Fin 8) (cause : Nat) (addr : Nat) : (s.coreFault n cause addr).upb = s.upb := State.coreFault_keeps n cause addr (List.Subset.refl _) (SameBut.refl _ s) .upb (by decide)
@[simp] theorem State.coreFault_restarts (s : State) (n : Fin 8) (cause : Nat) (addr : Nat) : (s.coreFault n cause addr).restarts = s.restarts := State.coreFault_keeps n cause addr (List.Subset.refl _) (SameBut.refl _ s) .restarts (by decide)
@[simp] theorem State.coreFault_gsm (s : State) (n : Fin 8) (cause : Nat) (addr : Nat) : (s.coreFault n cause addr).gsm = s.gsm := State.coreFault_keeps n cause addr (List.Subset.refl _) (SameBut.refl _ s) .gsm (by decide)
@[simp] theorem State.coreFault_txEff (s : State) (n : Fin 8) (cause : Nat) (addr : Nat) : (s.coreFault n cause addr).txEff = s.txEff := State.coreFault_keeps n cause addr (List.Subset.refl _) (SameBut.refl _ s) .txEff (by decide)
@[simp] theorem State.coreFault_pairs (s : State) (n : Fin 8) (cause : Nat) (addr : Nat) : (s.coreFault n cause addr).pairs = s.pairs := State.coreFault_keeps n cause addr (List.Subset.refl _) (SameBut.refl _ s) .pairs (by decide)
@[simp] theorem State.coreFault_key (s : State) (n : Fin 8) (cause : Nat) (addr : Nat) : (s.coreFault n cause addr).key = s.key := State.coreFault_keeps n cause addr (List.Subset.refl _) (SameBut.refl _ s) .key (by decide)
@[simp] theorem State.coreFault_pipes (s : State) (n : Fin 8) (cause : Nat) (addr : Nat) : (s.coreFault n cause addr).pipes = s.pipes := State.coreFault_keeps n cause addr (List.Subset.refl _) (SameBut.refl _ s) .pipes (by decide)
@[simp] theorem State.coreFault_epochs (s : State) (n : Fin 8) (cause : Nat) (addr : Nat) : (s.coreFault n cause addr).epochs = s.epochs := State.coreFault_keeps n cause addr (List.Subset.refl _) (SameBut.refl _ s) .epochs (by decide)
@[simp] theorem State.coreFault_prog (s : State) (n : Fin 8) (cause : Nat) (addr : Nat) : (s.coreFault n cause addr).prog = s.prog := State.coreFault_keeps n cause addr (List.Subset.refl _) (SameBut.refl _ s) .prog (by decide)
@[simp] theorem State.coreFault_rcnt (s : State) (n : Fin 8) (cause : Nat) (addr : Nat) : (s.coreFault n cause addr).rcnt = s.rcnt := State.coreFault_keeps n cause addr (List.Subset.refl _) (SameBut.refl _ s) .rcnt (by decide)
@[simp] theorem State.coreFault_rcntHeld (s : State) (n : Fin 8) (cause : Nat) (addr : Nat) : (s.coreFault n cause addr).rcntHeld = s.rcntHeld := State.coreFault_keeps n cause addr (List.Subset.refl _) (SameBut.refl _ s) .rcntHeld (by decide)
@[simp] theorem State.coreFault_excWait (s : State) (n : Fin 8) (cause : Nat) (addr : Nat) : (s.coreFault n cause addr).excWait = s.excWait := State.coreFault_keeps n cause addr (List.Subset.refl _) (SameBut.refl _ s) .excWait (by decide)
@[simp] theorem State.coreFault_bufs (s : State) (n : Fin 8) (cause : Nat) (addr : Nat) : (s.coreFault n cause addr).bufs = s.bufs := State.coreFault_keeps n cause addr (List.Subset.refl _) (SameBut.refl _ s) .bufs (by decide)
@[simp] theorem State.coreFault_bufRot (s : State) (n : Fin 8) (cause : Nat) (addr : Nat) : (s.coreFault n cause addr).bufRot = s.bufRot := State.coreFault_keeps n cause addr (List.Subset.refl _) (SameBut.refl _ s) .bufRot (by decide)
@[simp] theorem State.coreFault_qmap (s : State) (n : Fin 8) (cause : Nat) (addr : Nat) : (s.coreFault n cause addr).qmap = s.qmap := State.coreFault_keeps n cause addr (List.Subset.refl _) (SameBut.refl _ s) .qmap (by decide)
@[simp] theorem State.coreFault_memch (s : State) (n : Fin 8) (cause : Nat) (addr : Nat) : (s.coreFault n cause addr).memch = s.memch := State.coreFault_keeps n cause addr (List.Subset.refl _) (SameBut.refl _ s) .memch (by decide)
@[simp] theorem State.coreFault_ecc (s : State) (n : Fin 8) (cause : Nat) (addr : Nat) : (s.coreFault n cause addr).ecc = s.ecc := State.coreFault_keeps n cause addr (List.Subset.refl _) (SameBut.refl _ s) .ecc (by decide)
@[simp] theorem State.coreFault_mxe (s : State) (n : Fin 8) (cause : Nat) (addr : Nat) : (s.coreFault n cause addr).mxe = s.mxe := State.coreFault_keeps n cause addr (List.Subset.refl _) (SameBut.refl _ s) .mxe (by decide)
@[simp] theorem State.coreFault_queues (s : State) (n : Fin 8) (cause : Nat) (addr : Nat) : (s.coreFault n cause addr).queues = s.queues := State.coreFault_keeps n cause addr (List.Subset.refl _) (SameBut.refl _ s) .queues (by decide)
@[simp] theorem State.coreFault_turns (s : State) (n : Fin 8) (cause : Nat) (addr : Nat) : (s.coreFault n cause addr).turns = s.turns := State.coreFault_keeps n cause addr (List.Subset.refl _) (SameBut.refl _ s) .turns (by decide)
@[simp] theorem State.coreFault_elig (s : State) (n : Fin 8) (cause : Nat) (addr : Nat) : (s.coreFault n cause addr).elig = s.elig := State.coreFault_keeps n cause addr (List.Subset.refl _) (SameBut.refl _ s) .elig (by decide)
@[simp] theorem State.coreFault_shapers (s : State) (n : Fin 8) (cause : Nat) (addr : Nat) : (s.coreFault n cause addr).shapers = s.shapers := State.coreFault_keeps n cause addr (List.Subset.refl _) (SameBut.refl _ s) .shapers (by decide)
@[simp] theorem State.coreFault_policers (s : State) (n : Fin 8) (cause : Nat) (addr : Nat) : (s.coreFault n cause addr).policers = s.policers := State.coreFault_keeps n cause addr (List.Subset.refl _) (SameBut.refl _ s) .policers (by decide)
@[simp] theorem State.coreFault_gates (s : State) (n : Fin 8) (cause : Nat) (addr : Nat) : (s.coreFault n cause addr).gates = s.gates := State.coreFault_keeps n cause addr (List.Subset.refl _) (SameBut.refl _ s) .gates (by decide)
@[simp] theorem State.coreFault_gateBusy (s : State) (n : Fin 8) (cause : Nat) (addr : Nat) : (s.coreFault n cause addr).gateBusy = s.gateBusy := State.coreFault_keeps n cause addr (List.Subset.refl _) (SameBut.refl _ s) .gateBusy (by decide)
@[simp] theorem State.coreFault_lanes (s : State) (n : Fin 8) (cause : Nat) (addr : Nat) : (s.coreFault n cause addr).lanes = s.lanes := State.coreFault_keeps n cause addr (List.Subset.refl _) (SameBut.refl _ s) .lanes (by decide)
@[simp] theorem State.coreFault_lports (s : State) (n : Fin 8) (cause : Nat) (addr : Nat) : (s.coreFault n cause addr).lports = s.lports := State.coreFault_keeps n cause addr (List.Subset.refl _) (SameBut.refl _ s) .lports (by decide)
@[simp] theorem State.coreFault_mdio (s : State) (n : Fin 8) (cause : Nat) (addr : Nat) : (s.coreFault n cause addr).mdio = s.mdio := State.coreFault_keeps n cause addr (List.Subset.refl _) (SameBut.refl _ s) .mdio (by decide)
@[simp] theorem State.coreFault_tim (s : State) (n : Fin 8) (cause : Nat) (addr : Nat) : (s.coreFault n cause addr).tim = s.tim := State.coreFault_keeps n cause addr (List.Subset.refl _) (SameBut.refl _ s) .tim (by decide)
@[simp] theorem State.coreFault_evt (s : State) (n : Fin 8) (cause : Nat) (addr : Nat) : (s.coreFault n cause addr).evt = s.evt := State.coreFault_keeps n cause addr (List.Subset.refl _) (SameBut.refl _ s) .evt (by decide)
@[simp] theorem State.coreFault_log (s : State) (n : Fin 8) (cause : Nat) (addr : Nat) : (s.coreFault n cause addr).log = s.log := State.coreFault_keeps n cause addr (List.Subset.refl _) (SameBut.refl _ s) .log (by decide)
@[simp] theorem State.coreFault_cpu (s : State) (n : Fin 8) (cause : Nat) (addr : Nat) : (s.coreFault n cause addr).cpu = s.cpu := State.coreFault_keeps n cause addr (List.Subset.refl _) (SameBut.refl _ s) .cpu (by decide)
@[simp] theorem State.coreFault_pwr (s : State) (n : Fin 8) (cause : Nat) (addr : Nat) : (s.coreFault n cause addr).pwr = s.pwr := State.coreFault_keeps n cause addr (List.Subset.refl _) (SameBut.refl _ s) .pwr (by decide)
@[simp] theorem State.coreFault_rst (s : State) (n : Fin 8) (cause : Nat) (addr : Nat) : (s.coreFault n cause addr).rst = s.rst := State.coreFault_keeps n cause addr (List.Subset.refl _) (SameBut.refl _ s) .rst (by decide)
@[simp] theorem State.coreFault_sys (s : State) (n : Fin 8) (cause : Nat) (addr : Nat) : (s.coreFault n cause addr).sys = s.sys := State.coreFault_keeps n cause addr (List.Subset.refl _) (SameBut.refl _ s) .sys (by decide)
@[simp] theorem State.coreFault_hif (s : State) (n : Fin 8) (cause : Nat) (addr : Nat) : (s.coreFault n cause addr).hif = s.hif := State.coreFault_keeps n cause addr (List.Subset.refl _) (SameBut.refl _ s) .hif (by decide)
@[simp] theorem State.coreFault_pins (s : State) (n : Fin 8) (cause : Nat) (addr : Nat) : (s.coreFault n cause addr).pins = s.pins := State.coreFault_keeps n cause addr (List.Subset.refl _) (SameBut.refl _ s) .pins (by decide)
@[simp] theorem State.coreFault_clock (s : State) (n : Fin 8) (cause : Nat) (addr : Nat) : (s.coreFault n cause addr).clock = s.clock := State.coreFault_keeps n cause addr (List.Subset.refl _) (SameBut.refl _ s) .clock (by decide)
@[simp] theorem State.coreFault_timers (s : State) (n : Fin 8) (cause : Nat) (addr : Nat) : (s.coreFault n cause addr).timers = s.timers := State.coreFault_keeps n cause addr (List.Subset.refl _) (SameBut.refl _ s) .timers (by decide)
@[simp] theorem State.coreFault_pending (s : State) (n : Fin 8) (cause : Nat) (addr : Nat) : (s.coreFault n cause addr).pending = s.pending := State.coreFault_keeps n cause addr (List.Subset.refl _) (SameBut.refl _ s) .pending (by decide)
@[simp] theorem State.coreFault_dark (s : State) (n : Fin 8) (cause : Nat) (addr : Nat) : (s.coreFault n cause addr).dark = s.dark := State.coreFault_keeps n cause addr (List.Subset.refl _) (SameBut.refl _ s) .dark (by decide)
@[simp] theorem State.coreFault_out (s : State) (n : Fin 8) (cause : Nat) (addr : Nat) : (s.coreFault n cause addr).out = s.out := State.coreFault_keeps n cause addr (List.Subset.refl _) (SameBut.refl _ s) .out (by decide)
@[simp] theorem State.coreFault_fresh (s : State) (n : Fin 8) (cause : Nat) (addr : Nat) : (s.coreFault n cause addr).fresh = s.fresh := State.coreFault_keeps n cause addr (List.Subset.refl _) (SameBut.refl _ s) .fresh (by decide)
@[simp] theorem State.coreFault_rd (s : State) (n : Fin 8) (cause : Nat) (addr : Nat) (k : Nat) : (s.coreFault n cause addr).rd k = s.rd k := State.rd_of_regs (State.coreFault_regs s n cause addr) k
@[simp] theorem State.coreFault_fld (s : State) (n : Fin 8) (cause : Nat) (addr : Nat) (g_ : Fld) : (s.coreFault n cause addr).fld g_ = s.fld g_ := State.fld_of_regs (State.coreFault_regs s n cause addr) g_
@[simp] theorem State.coreFault_bit (s : State) (n : Fin 8) (cause : Nat) (addr : Nat) (g_ : Fld) : (s.coreFault n cause addr).bit g_ = s.bit g_ := State.bit_of_regs (State.coreFault_regs s n cause addr) g_
@[simp] theorem State.coreFault_running (s : State) (n : Fin 8) (cause : Nat) (addr : Nat) (g_ : Nat) : (s.coreFault n cause addr).running g_ = s.running g_ := State.running_of_timers (State.coreFault_timers s n cause addr) g_
@[simp] theorem State.coreFault_domOn (s : State) (n : Fin 8) (cause : Nat) (addr : Nat) (g_ : Nat) : (s.coreFault n cause addr).domOn g_ = s.domOn g_ := State.domOn_of_pwr (State.coreFault_pwr s n cause addr) g_

/-! `State.busError` -/

@[simp] theorem State.busError_shown (s : State) (r : Req) (k : Nat) (read : Bool) (cause : Nat) : (s.busError r k read cause).shown = s.shown := State.busError_keeps r k read cause (List.Subset.refl _) (SameBut.refl _ s) .shown (by decide)
@[simp] theorem State.busError_mirror (s : State) (r : Req) (k : Nat) (read : Bool) (cause : Nat) : (s.busError r k read cause).mirror = s.mirror := State.busError_keeps r k read cause (List.Subset.refl _) (SameBut.refl _ s) .mirror (by decide)
@[simp] theorem State.busError_mem (s : State) (r : Req) (k : Nat) (read : Bool) (cause : Nat) : (s.busError r k read cause).mem = s.mem := State.busError_keeps r k read cause (List.Subset.refl _) (SameBut.refl _ s) .mem (by decide)
@[simp] theorem State.busError_cmt (s : State) (r : Req) (k : Nat) (read : Bool) (cause : Nat) : (s.busError r k read cause).cmt = s.cmt := State.busError_keeps r k read cause (List.Subset.refl _) (SameBut.refl _ s) .cmt (by decide)
@[simp] theorem State.busError_own (s : State) (r : Req) (k : Nat) (read : Bool) (cause : Nat) : (s.busError r k read cause).own = s.own := State.busError_keeps r k read cause (List.Subset.refl _) (SameBut.refl _ s) .own (by decide)
@[simp] theorem State.busError_nextPkt (s : State) (r : Req) (k : Nat) (read : Bool) (cause : Nat) : (s.busError r k read cause).nextPkt = s.nextPkt := State.busError_keeps r k read cause (List.Subset.refl _) (SameBut.refl _ s) .nextPkt (by decide)
@[simp] theorem State.busError_rx (s : State) (r : Req) (k : Nat) (read : Bool) (cause : Nat) : (s.busError r k read cause).rx = s.rx := State.busError_keeps r k read cause (List.Subset.refl _) (SameBut.refl _ s) .rx (by decide)
@[simp] theorem State.busError_dsf (s : State) (r : Req) (k : Nat) (read : Bool) (cause : Nat) : (s.busError r k read cause).dsf = s.dsf := State.busError_keeps r k read cause (List.Subset.refl _) (SameBut.refl _ s) .dsf (by decide)
@[simp] theorem State.busError_tmap (s : State) (r : Req) (k : Nat) (read : Bool) (cause : Nat) : (s.busError r k read cause).tmap = s.tmap := State.busError_keeps r k read cause (List.Subset.refl _) (SameBut.refl _ s) .tmap (by decide)
@[simp] theorem State.busError_tribs (s : State) (r : Req) (k : Nat) (read : Bool) (cause : Nat) : (s.busError r k read cause).tribs = s.tribs := State.busError_keeps r k read cause (List.Subset.refl _) (SameBut.refl _ s) .tribs (by decide)
@[simp] theorem State.busError_tfrags (s : State) (r : Req) (k : Nat) (read : Bool) (cause : Nat) : (s.busError r k read cause).tfrags = s.tfrags := State.busError_keeps r k read cause (List.Subset.refl _) (SameBut.refl _ s) .tfrags (by decide)
@[simp] theorem State.busError_rows (s : State) (r : Req) (k : Nat) (read : Bool) (cause : Nat) : (s.busError r k read cause).rows = s.rows := State.busError_keeps r k read cause (List.Subset.refl _) (SameBut.refl _ s) .rows (by decide)
@[simp] theorem State.busError_ttest (s : State) (r : Req) (k : Nat) (read : Bool) (cause : Nat) : (s.busError r k read cause).ttest = s.ttest := State.busError_keeps r k read cause (List.Subset.refl _) (SameBut.refl _ s) .ttest (by decide)
@[simp] theorem State.busError_act (s : State) (r : Req) (k : Nat) (read : Bool) (cause : Nat) : (s.busError r k read cause).act = s.act := State.busError_keeps r k read cause (List.Subset.refl _) (SameBut.refl _ s) .act (by decide)
@[simp] theorem State.busError_upb (s : State) (r : Req) (k : Nat) (read : Bool) (cause : Nat) : (s.busError r k read cause).upb = s.upb := State.busError_keeps r k read cause (List.Subset.refl _) (SameBut.refl _ s) .upb (by decide)
@[simp] theorem State.busError_restarts (s : State) (r : Req) (k : Nat) (read : Bool) (cause : Nat) : (s.busError r k read cause).restarts = s.restarts := State.busError_keeps r k read cause (List.Subset.refl _) (SameBut.refl _ s) .restarts (by decide)
@[simp] theorem State.busError_gsm (s : State) (r : Req) (k : Nat) (read : Bool) (cause : Nat) : (s.busError r k read cause).gsm = s.gsm := State.busError_keeps r k read cause (List.Subset.refl _) (SameBut.refl _ s) .gsm (by decide)
@[simp] theorem State.busError_txEff (s : State) (r : Req) (k : Nat) (read : Bool) (cause : Nat) : (s.busError r k read cause).txEff = s.txEff := State.busError_keeps r k read cause (List.Subset.refl _) (SameBut.refl _ s) .txEff (by decide)
@[simp] theorem State.busError_pairs (s : State) (r : Req) (k : Nat) (read : Bool) (cause : Nat) : (s.busError r k read cause).pairs = s.pairs := State.busError_keeps r k read cause (List.Subset.refl _) (SameBut.refl _ s) .pairs (by decide)
@[simp] theorem State.busError_key (s : State) (r : Req) (k : Nat) (read : Bool) (cause : Nat) : (s.busError r k read cause).key = s.key := State.busError_keeps r k read cause (List.Subset.refl _) (SameBut.refl _ s) .key (by decide)
@[simp] theorem State.busError_pipes (s : State) (r : Req) (k : Nat) (read : Bool) (cause : Nat) : (s.busError r k read cause).pipes = s.pipes := State.busError_keeps r k read cause (List.Subset.refl _) (SameBut.refl _ s) .pipes (by decide)
@[simp] theorem State.busError_epochs (s : State) (r : Req) (k : Nat) (read : Bool) (cause : Nat) : (s.busError r k read cause).epochs = s.epochs := State.busError_keeps r k read cause (List.Subset.refl _) (SameBut.refl _ s) .epochs (by decide)
@[simp] theorem State.busError_prog (s : State) (r : Req) (k : Nat) (read : Bool) (cause : Nat) : (s.busError r k read cause).prog = s.prog := State.busError_keeps r k read cause (List.Subset.refl _) (SameBut.refl _ s) .prog (by decide)
@[simp] theorem State.busError_rcnt (s : State) (r : Req) (k : Nat) (read : Bool) (cause : Nat) : (s.busError r k read cause).rcnt = s.rcnt := State.busError_keeps r k read cause (List.Subset.refl _) (SameBut.refl _ s) .rcnt (by decide)
@[simp] theorem State.busError_rcntHeld (s : State) (r : Req) (k : Nat) (read : Bool) (cause : Nat) : (s.busError r k read cause).rcntHeld = s.rcntHeld := State.busError_keeps r k read cause (List.Subset.refl _) (SameBut.refl _ s) .rcntHeld (by decide)
@[simp] theorem State.busError_excWait (s : State) (r : Req) (k : Nat) (read : Bool) (cause : Nat) : (s.busError r k read cause).excWait = s.excWait := State.busError_keeps r k read cause (List.Subset.refl _) (SameBut.refl _ s) .excWait (by decide)
@[simp] theorem State.busError_bufs (s : State) (r : Req) (k : Nat) (read : Bool) (cause : Nat) : (s.busError r k read cause).bufs = s.bufs := State.busError_keeps r k read cause (List.Subset.refl _) (SameBut.refl _ s) .bufs (by decide)
@[simp] theorem State.busError_bufRot (s : State) (r : Req) (k : Nat) (read : Bool) (cause : Nat) : (s.busError r k read cause).bufRot = s.bufRot := State.busError_keeps r k read cause (List.Subset.refl _) (SameBut.refl _ s) .bufRot (by decide)
@[simp] theorem State.busError_qmap (s : State) (r : Req) (k : Nat) (read : Bool) (cause : Nat) : (s.busError r k read cause).qmap = s.qmap := State.busError_keeps r k read cause (List.Subset.refl _) (SameBut.refl _ s) .qmap (by decide)
@[simp] theorem State.busError_memch (s : State) (r : Req) (k : Nat) (read : Bool) (cause : Nat) : (s.busError r k read cause).memch = s.memch := State.busError_keeps r k read cause (List.Subset.refl _) (SameBut.refl _ s) .memch (by decide)
@[simp] theorem State.busError_ecc (s : State) (r : Req) (k : Nat) (read : Bool) (cause : Nat) : (s.busError r k read cause).ecc = s.ecc := State.busError_keeps r k read cause (List.Subset.refl _) (SameBut.refl _ s) .ecc (by decide)
@[simp] theorem State.busError_mxe (s : State) (r : Req) (k : Nat) (read : Bool) (cause : Nat) : (s.busError r k read cause).mxe = s.mxe := State.busError_keeps r k read cause (List.Subset.refl _) (SameBut.refl _ s) .mxe (by decide)
@[simp] theorem State.busError_queues (s : State) (r : Req) (k : Nat) (read : Bool) (cause : Nat) : (s.busError r k read cause).queues = s.queues := State.busError_keeps r k read cause (List.Subset.refl _) (SameBut.refl _ s) .queues (by decide)
@[simp] theorem State.busError_turns (s : State) (r : Req) (k : Nat) (read : Bool) (cause : Nat) : (s.busError r k read cause).turns = s.turns := State.busError_keeps r k read cause (List.Subset.refl _) (SameBut.refl _ s) .turns (by decide)
@[simp] theorem State.busError_elig (s : State) (r : Req) (k : Nat) (read : Bool) (cause : Nat) : (s.busError r k read cause).elig = s.elig := State.busError_keeps r k read cause (List.Subset.refl _) (SameBut.refl _ s) .elig (by decide)
@[simp] theorem State.busError_shapers (s : State) (r : Req) (k : Nat) (read : Bool) (cause : Nat) : (s.busError r k read cause).shapers = s.shapers := State.busError_keeps r k read cause (List.Subset.refl _) (SameBut.refl _ s) .shapers (by decide)
@[simp] theorem State.busError_policers (s : State) (r : Req) (k : Nat) (read : Bool) (cause : Nat) : (s.busError r k read cause).policers = s.policers := State.busError_keeps r k read cause (List.Subset.refl _) (SameBut.refl _ s) .policers (by decide)
@[simp] theorem State.busError_gates (s : State) (r : Req) (k : Nat) (read : Bool) (cause : Nat) : (s.busError r k read cause).gates = s.gates := State.busError_keeps r k read cause (List.Subset.refl _) (SameBut.refl _ s) .gates (by decide)
@[simp] theorem State.busError_gateBusy (s : State) (r : Req) (k : Nat) (read : Bool) (cause : Nat) : (s.busError r k read cause).gateBusy = s.gateBusy := State.busError_keeps r k read cause (List.Subset.refl _) (SameBut.refl _ s) .gateBusy (by decide)
@[simp] theorem State.busError_lanes (s : State) (r : Req) (k : Nat) (read : Bool) (cause : Nat) : (s.busError r k read cause).lanes = s.lanes := State.busError_keeps r k read cause (List.Subset.refl _) (SameBut.refl _ s) .lanes (by decide)
@[simp] theorem State.busError_lports (s : State) (r : Req) (k : Nat) (read : Bool) (cause : Nat) : (s.busError r k read cause).lports = s.lports := State.busError_keeps r k read cause (List.Subset.refl _) (SameBut.refl _ s) .lports (by decide)
@[simp] theorem State.busError_mdio (s : State) (r : Req) (k : Nat) (read : Bool) (cause : Nat) : (s.busError r k read cause).mdio = s.mdio := State.busError_keeps r k read cause (List.Subset.refl _) (SameBut.refl _ s) .mdio (by decide)
@[simp] theorem State.busError_tim (s : State) (r : Req) (k : Nat) (read : Bool) (cause : Nat) : (s.busError r k read cause).tim = s.tim := State.busError_keeps r k read cause (List.Subset.refl _) (SameBut.refl _ s) .tim (by decide)
@[simp] theorem State.busError_log (s : State) (r : Req) (k : Nat) (read : Bool) (cause : Nat) : (s.busError r k read cause).log = s.log := State.busError_keeps r k read cause (List.Subset.refl _) (SameBut.refl _ s) .log (by decide)
@[simp] theorem State.busError_cpu (s : State) (r : Req) (k : Nat) (read : Bool) (cause : Nat) : (s.busError r k read cause).cpu = s.cpu := State.busError_keeps r k read cause (List.Subset.refl _) (SameBut.refl _ s) .cpu (by decide)
@[simp] theorem State.busError_pwr (s : State) (r : Req) (k : Nat) (read : Bool) (cause : Nat) : (s.busError r k read cause).pwr = s.pwr := State.busError_keeps r k read cause (List.Subset.refl _) (SameBut.refl _ s) .pwr (by decide)
@[simp] theorem State.busError_rst (s : State) (r : Req) (k : Nat) (read : Bool) (cause : Nat) : (s.busError r k read cause).rst = s.rst := State.busError_keeps r k read cause (List.Subset.refl _) (SameBut.refl _ s) .rst (by decide)
@[simp] theorem State.busError_sys (s : State) (r : Req) (k : Nat) (read : Bool) (cause : Nat) : (s.busError r k read cause).sys = s.sys := State.busError_keeps r k read cause (List.Subset.refl _) (SameBut.refl _ s) .sys (by decide)
@[simp] theorem State.busError_pins (s : State) (r : Req) (k : Nat) (read : Bool) (cause : Nat) : (s.busError r k read cause).pins = s.pins := State.busError_keeps r k read cause (List.Subset.refl _) (SameBut.refl _ s) .pins (by decide)
@[simp] theorem State.busError_clock (s : State) (r : Req) (k : Nat) (read : Bool) (cause : Nat) : (s.busError r k read cause).clock = s.clock := State.busError_keeps r k read cause (List.Subset.refl _) (SameBut.refl _ s) .clock (by decide)
@[simp] theorem State.busError_timers (s : State) (r : Req) (k : Nat) (read : Bool) (cause : Nat) : (s.busError r k read cause).timers = s.timers := State.busError_keeps r k read cause (List.Subset.refl _) (SameBut.refl _ s) .timers (by decide)
@[simp] theorem State.busError_pending (s : State) (r : Req) (k : Nat) (read : Bool) (cause : Nat) : (s.busError r k read cause).pending = s.pending := State.busError_keeps r k read cause (List.Subset.refl _) (SameBut.refl _ s) .pending (by decide)
@[simp] theorem State.busError_dark (s : State) (r : Req) (k : Nat) (read : Bool) (cause : Nat) : (s.busError r k read cause).dark = s.dark := State.busError_keeps r k read cause (List.Subset.refl _) (SameBut.refl _ s) .dark (by decide)
@[simp] theorem State.busError_fresh (s : State) (r : Req) (k : Nat) (read : Bool) (cause : Nat) : (s.busError r k read cause).fresh = s.fresh := State.busError_keeps r k read cause (List.Subset.refl _) (SameBut.refl _ s) .fresh (by decide)
@[simp] theorem State.busError_running (s : State) (r : Req) (k_ : Nat) (read : Bool) (cause : Nat) (g_ : Nat) : (s.busError r k_ read cause).running g_ = s.running g_ := State.running_of_timers (State.busError_timers s r k_ read cause) g_
@[simp] theorem State.busError_domOn (s : State) (r : Req) (k_ : Nat) (read : Bool) (cause : Nat) (g_ : Nat) : (s.busError r k_ read cause).domOn g_ = s.domOn g_ := State.domOn_of_pwr (State.busError_pwr s r k_ read cause) g_

/-! `State.refuse` -/

@[simp] theorem State.refuse_shown (s : State) (r : Req) (k : Nat) : (s.refuse r k).shown = s.shown := State.refuse_keeps r k (List.Subset.refl _) (SameBut.refl _ s) .shown (by decide)
@[simp] theorem State.refuse_mirror (s : State) (r : Req) (k : Nat) : (s.refuse r k).mirror = s.mirror := State.refuse_keeps r k (List.Subset.refl _) (SameBut.refl _ s) .mirror (by decide)
@[simp] theorem State.refuse_mem (s : State) (r : Req) (k : Nat) : (s.refuse r k).mem = s.mem := State.refuse_keeps r k (List.Subset.refl _) (SameBut.refl _ s) .mem (by decide)
@[simp] theorem State.refuse_cmt (s : State) (r : Req) (k : Nat) : (s.refuse r k).cmt = s.cmt := State.refuse_keeps r k (List.Subset.refl _) (SameBut.refl _ s) .cmt (by decide)
@[simp] theorem State.refuse_own (s : State) (r : Req) (k : Nat) : (s.refuse r k).own = s.own := State.refuse_keeps r k (List.Subset.refl _) (SameBut.refl _ s) .own (by decide)
@[simp] theorem State.refuse_nextPkt (s : State) (r : Req) (k : Nat) : (s.refuse r k).nextPkt = s.nextPkt := State.refuse_keeps r k (List.Subset.refl _) (SameBut.refl _ s) .nextPkt (by decide)
@[simp] theorem State.refuse_rx (s : State) (r : Req) (k : Nat) : (s.refuse r k).rx = s.rx := State.refuse_keeps r k (List.Subset.refl _) (SameBut.refl _ s) .rx (by decide)
@[simp] theorem State.refuse_dsf (s : State) (r : Req) (k : Nat) : (s.refuse r k).dsf = s.dsf := State.refuse_keeps r k (List.Subset.refl _) (SameBut.refl _ s) .dsf (by decide)
@[simp] theorem State.refuse_tmap (s : State) (r : Req) (k : Nat) : (s.refuse r k).tmap = s.tmap := State.refuse_keeps r k (List.Subset.refl _) (SameBut.refl _ s) .tmap (by decide)
@[simp] theorem State.refuse_tribs (s : State) (r : Req) (k : Nat) : (s.refuse r k).tribs = s.tribs := State.refuse_keeps r k (List.Subset.refl _) (SameBut.refl _ s) .tribs (by decide)
@[simp] theorem State.refuse_tfrags (s : State) (r : Req) (k : Nat) : (s.refuse r k).tfrags = s.tfrags := State.refuse_keeps r k (List.Subset.refl _) (SameBut.refl _ s) .tfrags (by decide)
@[simp] theorem State.refuse_rows (s : State) (r : Req) (k : Nat) : (s.refuse r k).rows = s.rows := State.refuse_keeps r k (List.Subset.refl _) (SameBut.refl _ s) .rows (by decide)
@[simp] theorem State.refuse_ttest (s : State) (r : Req) (k : Nat) : (s.refuse r k).ttest = s.ttest := State.refuse_keeps r k (List.Subset.refl _) (SameBut.refl _ s) .ttest (by decide)
@[simp] theorem State.refuse_act (s : State) (r : Req) (k : Nat) : (s.refuse r k).act = s.act := State.refuse_keeps r k (List.Subset.refl _) (SameBut.refl _ s) .act (by decide)
@[simp] theorem State.refuse_upb (s : State) (r : Req) (k : Nat) : (s.refuse r k).upb = s.upb := State.refuse_keeps r k (List.Subset.refl _) (SameBut.refl _ s) .upb (by decide)
@[simp] theorem State.refuse_restarts (s : State) (r : Req) (k : Nat) : (s.refuse r k).restarts = s.restarts := State.refuse_keeps r k (List.Subset.refl _) (SameBut.refl _ s) .restarts (by decide)
@[simp] theorem State.refuse_gsm (s : State) (r : Req) (k : Nat) : (s.refuse r k).gsm = s.gsm := State.refuse_keeps r k (List.Subset.refl _) (SameBut.refl _ s) .gsm (by decide)
@[simp] theorem State.refuse_txEff (s : State) (r : Req) (k : Nat) : (s.refuse r k).txEff = s.txEff := State.refuse_keeps r k (List.Subset.refl _) (SameBut.refl _ s) .txEff (by decide)
@[simp] theorem State.refuse_pairs (s : State) (r : Req) (k : Nat) : (s.refuse r k).pairs = s.pairs := State.refuse_keeps r k (List.Subset.refl _) (SameBut.refl _ s) .pairs (by decide)
@[simp] theorem State.refuse_key (s : State) (r : Req) (k : Nat) : (s.refuse r k).key = s.key := State.refuse_keeps r k (List.Subset.refl _) (SameBut.refl _ s) .key (by decide)
@[simp] theorem State.refuse_pipes (s : State) (r : Req) (k : Nat) : (s.refuse r k).pipes = s.pipes := State.refuse_keeps r k (List.Subset.refl _) (SameBut.refl _ s) .pipes (by decide)
@[simp] theorem State.refuse_epochs (s : State) (r : Req) (k : Nat) : (s.refuse r k).epochs = s.epochs := State.refuse_keeps r k (List.Subset.refl _) (SameBut.refl _ s) .epochs (by decide)
@[simp] theorem State.refuse_prog (s : State) (r : Req) (k : Nat) : (s.refuse r k).prog = s.prog := State.refuse_keeps r k (List.Subset.refl _) (SameBut.refl _ s) .prog (by decide)
@[simp] theorem State.refuse_rcnt (s : State) (r : Req) (k : Nat) : (s.refuse r k).rcnt = s.rcnt := State.refuse_keeps r k (List.Subset.refl _) (SameBut.refl _ s) .rcnt (by decide)
@[simp] theorem State.refuse_rcntHeld (s : State) (r : Req) (k : Nat) : (s.refuse r k).rcntHeld = s.rcntHeld := State.refuse_keeps r k (List.Subset.refl _) (SameBut.refl _ s) .rcntHeld (by decide)
@[simp] theorem State.refuse_excWait (s : State) (r : Req) (k : Nat) : (s.refuse r k).excWait = s.excWait := State.refuse_keeps r k (List.Subset.refl _) (SameBut.refl _ s) .excWait (by decide)
@[simp] theorem State.refuse_bufs (s : State) (r : Req) (k : Nat) : (s.refuse r k).bufs = s.bufs := State.refuse_keeps r k (List.Subset.refl _) (SameBut.refl _ s) .bufs (by decide)
@[simp] theorem State.refuse_bufRot (s : State) (r : Req) (k : Nat) : (s.refuse r k).bufRot = s.bufRot := State.refuse_keeps r k (List.Subset.refl _) (SameBut.refl _ s) .bufRot (by decide)
@[simp] theorem State.refuse_qmap (s : State) (r : Req) (k : Nat) : (s.refuse r k).qmap = s.qmap := State.refuse_keeps r k (List.Subset.refl _) (SameBut.refl _ s) .qmap (by decide)
@[simp] theorem State.refuse_memch (s : State) (r : Req) (k : Nat) : (s.refuse r k).memch = s.memch := State.refuse_keeps r k (List.Subset.refl _) (SameBut.refl _ s) .memch (by decide)
@[simp] theorem State.refuse_ecc (s : State) (r : Req) (k : Nat) : (s.refuse r k).ecc = s.ecc := State.refuse_keeps r k (List.Subset.refl _) (SameBut.refl _ s) .ecc (by decide)
@[simp] theorem State.refuse_mxe (s : State) (r : Req) (k : Nat) : (s.refuse r k).mxe = s.mxe := State.refuse_keeps r k (List.Subset.refl _) (SameBut.refl _ s) .mxe (by decide)
@[simp] theorem State.refuse_queues (s : State) (r : Req) (k : Nat) : (s.refuse r k).queues = s.queues := State.refuse_keeps r k (List.Subset.refl _) (SameBut.refl _ s) .queues (by decide)
@[simp] theorem State.refuse_turns (s : State) (r : Req) (k : Nat) : (s.refuse r k).turns = s.turns := State.refuse_keeps r k (List.Subset.refl _) (SameBut.refl _ s) .turns (by decide)
@[simp] theorem State.refuse_elig (s : State) (r : Req) (k : Nat) : (s.refuse r k).elig = s.elig := State.refuse_keeps r k (List.Subset.refl _) (SameBut.refl _ s) .elig (by decide)
@[simp] theorem State.refuse_shapers (s : State) (r : Req) (k : Nat) : (s.refuse r k).shapers = s.shapers := State.refuse_keeps r k (List.Subset.refl _) (SameBut.refl _ s) .shapers (by decide)
@[simp] theorem State.refuse_policers (s : State) (r : Req) (k : Nat) : (s.refuse r k).policers = s.policers := State.refuse_keeps r k (List.Subset.refl _) (SameBut.refl _ s) .policers (by decide)
@[simp] theorem State.refuse_gates (s : State) (r : Req) (k : Nat) : (s.refuse r k).gates = s.gates := State.refuse_keeps r k (List.Subset.refl _) (SameBut.refl _ s) .gates (by decide)
@[simp] theorem State.refuse_gateBusy (s : State) (r : Req) (k : Nat) : (s.refuse r k).gateBusy = s.gateBusy := State.refuse_keeps r k (List.Subset.refl _) (SameBut.refl _ s) .gateBusy (by decide)
@[simp] theorem State.refuse_lanes (s : State) (r : Req) (k : Nat) : (s.refuse r k).lanes = s.lanes := State.refuse_keeps r k (List.Subset.refl _) (SameBut.refl _ s) .lanes (by decide)
@[simp] theorem State.refuse_lports (s : State) (r : Req) (k : Nat) : (s.refuse r k).lports = s.lports := State.refuse_keeps r k (List.Subset.refl _) (SameBut.refl _ s) .lports (by decide)
@[simp] theorem State.refuse_mdio (s : State) (r : Req) (k : Nat) : (s.refuse r k).mdio = s.mdio := State.refuse_keeps r k (List.Subset.refl _) (SameBut.refl _ s) .mdio (by decide)
@[simp] theorem State.refuse_tim (s : State) (r : Req) (k : Nat) : (s.refuse r k).tim = s.tim := State.refuse_keeps r k (List.Subset.refl _) (SameBut.refl _ s) .tim (by decide)
@[simp] theorem State.refuse_log (s : State) (r : Req) (k : Nat) : (s.refuse r k).log = s.log := State.refuse_keeps r k (List.Subset.refl _) (SameBut.refl _ s) .log (by decide)
@[simp] theorem State.refuse_cpu (s : State) (r : Req) (k : Nat) : (s.refuse r k).cpu = s.cpu := State.refuse_keeps r k (List.Subset.refl _) (SameBut.refl _ s) .cpu (by decide)
@[simp] theorem State.refuse_pwr (s : State) (r : Req) (k : Nat) : (s.refuse r k).pwr = s.pwr := State.refuse_keeps r k (List.Subset.refl _) (SameBut.refl _ s) .pwr (by decide)
@[simp] theorem State.refuse_rst (s : State) (r : Req) (k : Nat) : (s.refuse r k).rst = s.rst := State.refuse_keeps r k (List.Subset.refl _) (SameBut.refl _ s) .rst (by decide)
@[simp] theorem State.refuse_sys (s : State) (r : Req) (k : Nat) : (s.refuse r k).sys = s.sys := State.refuse_keeps r k (List.Subset.refl _) (SameBut.refl _ s) .sys (by decide)
@[simp] theorem State.refuse_pins (s : State) (r : Req) (k : Nat) : (s.refuse r k).pins = s.pins := State.refuse_keeps r k (List.Subset.refl _) (SameBut.refl _ s) .pins (by decide)
@[simp] theorem State.refuse_clock (s : State) (r : Req) (k : Nat) : (s.refuse r k).clock = s.clock := State.refuse_keeps r k (List.Subset.refl _) (SameBut.refl _ s) .clock (by decide)
@[simp] theorem State.refuse_timers (s : State) (r : Req) (k : Nat) : (s.refuse r k).timers = s.timers := State.refuse_keeps r k (List.Subset.refl _) (SameBut.refl _ s) .timers (by decide)
@[simp] theorem State.refuse_pending (s : State) (r : Req) (k : Nat) : (s.refuse r k).pending = s.pending := State.refuse_keeps r k (List.Subset.refl _) (SameBut.refl _ s) .pending (by decide)
@[simp] theorem State.refuse_dark (s : State) (r : Req) (k : Nat) : (s.refuse r k).dark = s.dark := State.refuse_keeps r k (List.Subset.refl _) (SameBut.refl _ s) .dark (by decide)
@[simp] theorem State.refuse_fresh (s : State) (r : Req) (k : Nat) : (s.refuse r k).fresh = s.fresh := State.refuse_keeps r k (List.Subset.refl _) (SameBut.refl _ s) .fresh (by decide)
@[simp] theorem State.refuse_running (s : State) (r : Req) (k_ : Nat) (g_ : Nat) : (s.refuse r k_).running g_ = s.running g_ := State.running_of_timers (State.refuse_timers s r k_) g_
@[simp] theorem State.refuse_domOn (s : State) (r : Req) (k_ : Nat) (g_ : Nat) : (s.refuse r k_).domOn g_ = s.domOn g_ := State.domOn_of_pwr (State.refuse_pwr s r k_) g_

/-! `State.deny` -/

@[simp] theorem State.deny_shown (s : State) (r : Req) (k : Nat) (dc : Nat) (bc : Nat) : (s.deny r k dc bc).shown = s.shown := State.deny_keeps r k dc bc (List.Subset.refl _) (SameBut.refl _ s) .shown (by decide)
@[simp] theorem State.deny_mirror (s : State) (r : Req) (k : Nat) (dc : Nat) (bc : Nat) : (s.deny r k dc bc).mirror = s.mirror := State.deny_keeps r k dc bc (List.Subset.refl _) (SameBut.refl _ s) .mirror (by decide)
@[simp] theorem State.deny_mem (s : State) (r : Req) (k : Nat) (dc : Nat) (bc : Nat) : (s.deny r k dc bc).mem = s.mem := State.deny_keeps r k dc bc (List.Subset.refl _) (SameBut.refl _ s) .mem (by decide)
@[simp] theorem State.deny_cmt (s : State) (r : Req) (k : Nat) (dc : Nat) (bc : Nat) : (s.deny r k dc bc).cmt = s.cmt := State.deny_keeps r k dc bc (List.Subset.refl _) (SameBut.refl _ s) .cmt (by decide)
@[simp] theorem State.deny_own (s : State) (r : Req) (k : Nat) (dc : Nat) (bc : Nat) : (s.deny r k dc bc).own = s.own := State.deny_keeps r k dc bc (List.Subset.refl _) (SameBut.refl _ s) .own (by decide)
@[simp] theorem State.deny_nextPkt (s : State) (r : Req) (k : Nat) (dc : Nat) (bc : Nat) : (s.deny r k dc bc).nextPkt = s.nextPkt := State.deny_keeps r k dc bc (List.Subset.refl _) (SameBut.refl _ s) .nextPkt (by decide)
@[simp] theorem State.deny_rx (s : State) (r : Req) (k : Nat) (dc : Nat) (bc : Nat) : (s.deny r k dc bc).rx = s.rx := State.deny_keeps r k dc bc (List.Subset.refl _) (SameBut.refl _ s) .rx (by decide)
@[simp] theorem State.deny_dsf (s : State) (r : Req) (k : Nat) (dc : Nat) (bc : Nat) : (s.deny r k dc bc).dsf = s.dsf := State.deny_keeps r k dc bc (List.Subset.refl _) (SameBut.refl _ s) .dsf (by decide)
@[simp] theorem State.deny_tmap (s : State) (r : Req) (k : Nat) (dc : Nat) (bc : Nat) : (s.deny r k dc bc).tmap = s.tmap := State.deny_keeps r k dc bc (List.Subset.refl _) (SameBut.refl _ s) .tmap (by decide)
@[simp] theorem State.deny_tribs (s : State) (r : Req) (k : Nat) (dc : Nat) (bc : Nat) : (s.deny r k dc bc).tribs = s.tribs := State.deny_keeps r k dc bc (List.Subset.refl _) (SameBut.refl _ s) .tribs (by decide)
@[simp] theorem State.deny_tfrags (s : State) (r : Req) (k : Nat) (dc : Nat) (bc : Nat) : (s.deny r k dc bc).tfrags = s.tfrags := State.deny_keeps r k dc bc (List.Subset.refl _) (SameBut.refl _ s) .tfrags (by decide)
@[simp] theorem State.deny_rows (s : State) (r : Req) (k : Nat) (dc : Nat) (bc : Nat) : (s.deny r k dc bc).rows = s.rows := State.deny_keeps r k dc bc (List.Subset.refl _) (SameBut.refl _ s) .rows (by decide)
@[simp] theorem State.deny_ttest (s : State) (r : Req) (k : Nat) (dc : Nat) (bc : Nat) : (s.deny r k dc bc).ttest = s.ttest := State.deny_keeps r k dc bc (List.Subset.refl _) (SameBut.refl _ s) .ttest (by decide)
@[simp] theorem State.deny_act (s : State) (r : Req) (k : Nat) (dc : Nat) (bc : Nat) : (s.deny r k dc bc).act = s.act := State.deny_keeps r k dc bc (List.Subset.refl _) (SameBut.refl _ s) .act (by decide)
@[simp] theorem State.deny_upb (s : State) (r : Req) (k : Nat) (dc : Nat) (bc : Nat) : (s.deny r k dc bc).upb = s.upb := State.deny_keeps r k dc bc (List.Subset.refl _) (SameBut.refl _ s) .upb (by decide)
@[simp] theorem State.deny_restarts (s : State) (r : Req) (k : Nat) (dc : Nat) (bc : Nat) : (s.deny r k dc bc).restarts = s.restarts := State.deny_keeps r k dc bc (List.Subset.refl _) (SameBut.refl _ s) .restarts (by decide)
@[simp] theorem State.deny_gsm (s : State) (r : Req) (k : Nat) (dc : Nat) (bc : Nat) : (s.deny r k dc bc).gsm = s.gsm := State.deny_keeps r k dc bc (List.Subset.refl _) (SameBut.refl _ s) .gsm (by decide)
@[simp] theorem State.deny_txEff (s : State) (r : Req) (k : Nat) (dc : Nat) (bc : Nat) : (s.deny r k dc bc).txEff = s.txEff := State.deny_keeps r k dc bc (List.Subset.refl _) (SameBut.refl _ s) .txEff (by decide)
@[simp] theorem State.deny_pairs (s : State) (r : Req) (k : Nat) (dc : Nat) (bc : Nat) : (s.deny r k dc bc).pairs = s.pairs := State.deny_keeps r k dc bc (List.Subset.refl _) (SameBut.refl _ s) .pairs (by decide)
@[simp] theorem State.deny_key (s : State) (r : Req) (k : Nat) (dc : Nat) (bc : Nat) : (s.deny r k dc bc).key = s.key := State.deny_keeps r k dc bc (List.Subset.refl _) (SameBut.refl _ s) .key (by decide)
@[simp] theorem State.deny_pipes (s : State) (r : Req) (k : Nat) (dc : Nat) (bc : Nat) : (s.deny r k dc bc).pipes = s.pipes := State.deny_keeps r k dc bc (List.Subset.refl _) (SameBut.refl _ s) .pipes (by decide)
@[simp] theorem State.deny_epochs (s : State) (r : Req) (k : Nat) (dc : Nat) (bc : Nat) : (s.deny r k dc bc).epochs = s.epochs := State.deny_keeps r k dc bc (List.Subset.refl _) (SameBut.refl _ s) .epochs (by decide)
@[simp] theorem State.deny_prog (s : State) (r : Req) (k : Nat) (dc : Nat) (bc : Nat) : (s.deny r k dc bc).prog = s.prog := State.deny_keeps r k dc bc (List.Subset.refl _) (SameBut.refl _ s) .prog (by decide)
@[simp] theorem State.deny_rcnt (s : State) (r : Req) (k : Nat) (dc : Nat) (bc : Nat) : (s.deny r k dc bc).rcnt = s.rcnt := State.deny_keeps r k dc bc (List.Subset.refl _) (SameBut.refl _ s) .rcnt (by decide)
@[simp] theorem State.deny_rcntHeld (s : State) (r : Req) (k : Nat) (dc : Nat) (bc : Nat) : (s.deny r k dc bc).rcntHeld = s.rcntHeld := State.deny_keeps r k dc bc (List.Subset.refl _) (SameBut.refl _ s) .rcntHeld (by decide)
@[simp] theorem State.deny_excWait (s : State) (r : Req) (k : Nat) (dc : Nat) (bc : Nat) : (s.deny r k dc bc).excWait = s.excWait := State.deny_keeps r k dc bc (List.Subset.refl _) (SameBut.refl _ s) .excWait (by decide)
@[simp] theorem State.deny_bufs (s : State) (r : Req) (k : Nat) (dc : Nat) (bc : Nat) : (s.deny r k dc bc).bufs = s.bufs := State.deny_keeps r k dc bc (List.Subset.refl _) (SameBut.refl _ s) .bufs (by decide)
@[simp] theorem State.deny_bufRot (s : State) (r : Req) (k : Nat) (dc : Nat) (bc : Nat) : (s.deny r k dc bc).bufRot = s.bufRot := State.deny_keeps r k dc bc (List.Subset.refl _) (SameBut.refl _ s) .bufRot (by decide)
@[simp] theorem State.deny_qmap (s : State) (r : Req) (k : Nat) (dc : Nat) (bc : Nat) : (s.deny r k dc bc).qmap = s.qmap := State.deny_keeps r k dc bc (List.Subset.refl _) (SameBut.refl _ s) .qmap (by decide)
@[simp] theorem State.deny_memch (s : State) (r : Req) (k : Nat) (dc : Nat) (bc : Nat) : (s.deny r k dc bc).memch = s.memch := State.deny_keeps r k dc bc (List.Subset.refl _) (SameBut.refl _ s) .memch (by decide)
@[simp] theorem State.deny_ecc (s : State) (r : Req) (k : Nat) (dc : Nat) (bc : Nat) : (s.deny r k dc bc).ecc = s.ecc := State.deny_keeps r k dc bc (List.Subset.refl _) (SameBut.refl _ s) .ecc (by decide)
@[simp] theorem State.deny_mxe (s : State) (r : Req) (k : Nat) (dc : Nat) (bc : Nat) : (s.deny r k dc bc).mxe = s.mxe := State.deny_keeps r k dc bc (List.Subset.refl _) (SameBut.refl _ s) .mxe (by decide)
@[simp] theorem State.deny_queues (s : State) (r : Req) (k : Nat) (dc : Nat) (bc : Nat) : (s.deny r k dc bc).queues = s.queues := State.deny_keeps r k dc bc (List.Subset.refl _) (SameBut.refl _ s) .queues (by decide)
@[simp] theorem State.deny_turns (s : State) (r : Req) (k : Nat) (dc : Nat) (bc : Nat) : (s.deny r k dc bc).turns = s.turns := State.deny_keeps r k dc bc (List.Subset.refl _) (SameBut.refl _ s) .turns (by decide)
@[simp] theorem State.deny_elig (s : State) (r : Req) (k : Nat) (dc : Nat) (bc : Nat) : (s.deny r k dc bc).elig = s.elig := State.deny_keeps r k dc bc (List.Subset.refl _) (SameBut.refl _ s) .elig (by decide)
@[simp] theorem State.deny_shapers (s : State) (r : Req) (k : Nat) (dc : Nat) (bc : Nat) : (s.deny r k dc bc).shapers = s.shapers := State.deny_keeps r k dc bc (List.Subset.refl _) (SameBut.refl _ s) .shapers (by decide)
@[simp] theorem State.deny_policers (s : State) (r : Req) (k : Nat) (dc : Nat) (bc : Nat) : (s.deny r k dc bc).policers = s.policers := State.deny_keeps r k dc bc (List.Subset.refl _) (SameBut.refl _ s) .policers (by decide)
@[simp] theorem State.deny_gates (s : State) (r : Req) (k : Nat) (dc : Nat) (bc : Nat) : (s.deny r k dc bc).gates = s.gates := State.deny_keeps r k dc bc (List.Subset.refl _) (SameBut.refl _ s) .gates (by decide)
@[simp] theorem State.deny_gateBusy (s : State) (r : Req) (k : Nat) (dc : Nat) (bc : Nat) : (s.deny r k dc bc).gateBusy = s.gateBusy := State.deny_keeps r k dc bc (List.Subset.refl _) (SameBut.refl _ s) .gateBusy (by decide)
@[simp] theorem State.deny_lanes (s : State) (r : Req) (k : Nat) (dc : Nat) (bc : Nat) : (s.deny r k dc bc).lanes = s.lanes := State.deny_keeps r k dc bc (List.Subset.refl _) (SameBut.refl _ s) .lanes (by decide)
@[simp] theorem State.deny_lports (s : State) (r : Req) (k : Nat) (dc : Nat) (bc : Nat) : (s.deny r k dc bc).lports = s.lports := State.deny_keeps r k dc bc (List.Subset.refl _) (SameBut.refl _ s) .lports (by decide)
@[simp] theorem State.deny_mdio (s : State) (r : Req) (k : Nat) (dc : Nat) (bc : Nat) : (s.deny r k dc bc).mdio = s.mdio := State.deny_keeps r k dc bc (List.Subset.refl _) (SameBut.refl _ s) .mdio (by decide)
@[simp] theorem State.deny_tim (s : State) (r : Req) (k : Nat) (dc : Nat) (bc : Nat) : (s.deny r k dc bc).tim = s.tim := State.deny_keeps r k dc bc (List.Subset.refl _) (SameBut.refl _ s) .tim (by decide)
@[simp] theorem State.deny_log (s : State) (r : Req) (k : Nat) (dc : Nat) (bc : Nat) : (s.deny r k dc bc).log = s.log := State.deny_keeps r k dc bc (List.Subset.refl _) (SameBut.refl _ s) .log (by decide)
@[simp] theorem State.deny_cpu (s : State) (r : Req) (k : Nat) (dc : Nat) (bc : Nat) : (s.deny r k dc bc).cpu = s.cpu := State.deny_keeps r k dc bc (List.Subset.refl _) (SameBut.refl _ s) .cpu (by decide)
@[simp] theorem State.deny_pwr (s : State) (r : Req) (k : Nat) (dc : Nat) (bc : Nat) : (s.deny r k dc bc).pwr = s.pwr := State.deny_keeps r k dc bc (List.Subset.refl _) (SameBut.refl _ s) .pwr (by decide)
@[simp] theorem State.deny_rst (s : State) (r : Req) (k : Nat) (dc : Nat) (bc : Nat) : (s.deny r k dc bc).rst = s.rst := State.deny_keeps r k dc bc (List.Subset.refl _) (SameBut.refl _ s) .rst (by decide)
@[simp] theorem State.deny_sys (s : State) (r : Req) (k : Nat) (dc : Nat) (bc : Nat) : (s.deny r k dc bc).sys = s.sys := State.deny_keeps r k dc bc (List.Subset.refl _) (SameBut.refl _ s) .sys (by decide)
@[simp] theorem State.deny_pins (s : State) (r : Req) (k : Nat) (dc : Nat) (bc : Nat) : (s.deny r k dc bc).pins = s.pins := State.deny_keeps r k dc bc (List.Subset.refl _) (SameBut.refl _ s) .pins (by decide)
@[simp] theorem State.deny_clock (s : State) (r : Req) (k : Nat) (dc : Nat) (bc : Nat) : (s.deny r k dc bc).clock = s.clock := State.deny_keeps r k dc bc (List.Subset.refl _) (SameBut.refl _ s) .clock (by decide)
@[simp] theorem State.deny_timers (s : State) (r : Req) (k : Nat) (dc : Nat) (bc : Nat) : (s.deny r k dc bc).timers = s.timers := State.deny_keeps r k dc bc (List.Subset.refl _) (SameBut.refl _ s) .timers (by decide)
@[simp] theorem State.deny_pending (s : State) (r : Req) (k : Nat) (dc : Nat) (bc : Nat) : (s.deny r k dc bc).pending = s.pending := State.deny_keeps r k dc bc (List.Subset.refl _) (SameBut.refl _ s) .pending (by decide)
@[simp] theorem State.deny_dark (s : State) (r : Req) (k : Nat) (dc : Nat) (bc : Nat) : (s.deny r k dc bc).dark = s.dark := State.deny_keeps r k dc bc (List.Subset.refl _) (SameBut.refl _ s) .dark (by decide)
@[simp] theorem State.deny_fresh (s : State) (r : Req) (k : Nat) (dc : Nat) (bc : Nat) : (s.deny r k dc bc).fresh = s.fresh := State.deny_keeps r k dc bc (List.Subset.refl _) (SameBut.refl _ s) .fresh (by decide)
@[simp] theorem State.deny_running (s : State) (r : Req) (k_ : Nat) (dc : Nat) (bc : Nat) (g_ : Nat) : (s.deny r k_ dc bc).running g_ = s.running g_ := State.running_of_timers (State.deny_timers s r k_ dc bc) g_
@[simp] theorem State.deny_domOn (s : State) (r : Req) (k_ : Nat) (dc : Nat) (bc : Nat) (g_ : Nat) : (s.deny r k_ dc bc).domOn g_ = s.domOn g_ := State.domOn_of_pwr (State.deny_pwr s r k_ dc bc) g_

/-! `State.store` -/

@[simp] theorem State.store_shown (s : State) (k : Nat) (v : Word) : (s.store k v).shown = s.shown := State.store_keeps k v (List.Subset.refl _) (SameBut.refl _ s) .shown (by decide)
@[simp] theorem State.store_mirror (s : State) (k : Nat) (v : Word) : (s.store k v).mirror = s.mirror := State.store_keeps k v (List.Subset.refl _) (SameBut.refl _ s) .mirror (by decide)
@[simp] theorem State.store_mem (s : State) (k : Nat) (v : Word) : (s.store k v).mem = s.mem := State.store_keeps k v (List.Subset.refl _) (SameBut.refl _ s) .mem (by decide)
@[simp] theorem State.store_seam (s : State) (k : Nat) (v : Word) : (s.store k v).seam = s.seam := State.store_keeps k v (List.Subset.refl _) (SameBut.refl _ s) .seam (by decide)
@[simp] theorem State.store_cmt (s : State) (k : Nat) (v : Word) : (s.store k v).cmt = s.cmt := State.store_keeps k v (List.Subset.refl _) (SameBut.refl _ s) .cmt (by decide)
@[simp] theorem State.store_own (s : State) (k : Nat) (v : Word) : (s.store k v).own = s.own := State.store_keeps k v (List.Subset.refl _) (SameBut.refl _ s) .own (by decide)
@[simp] theorem State.store_nextPkt (s : State) (k : Nat) (v : Word) : (s.store k v).nextPkt = s.nextPkt := State.store_keeps k v (List.Subset.refl _) (SameBut.refl _ s) .nextPkt (by decide)
@[simp] theorem State.store_rx (s : State) (k : Nat) (v : Word) : (s.store k v).rx = s.rx := State.store_keeps k v (List.Subset.refl _) (SameBut.refl _ s) .rx (by decide)
@[simp] theorem State.store_dsf (s : State) (k : Nat) (v : Word) : (s.store k v).dsf = s.dsf := State.store_keeps k v (List.Subset.refl _) (SameBut.refl _ s) .dsf (by decide)
@[simp] theorem State.store_tmap (s : State) (k : Nat) (v : Word) : (s.store k v).tmap = s.tmap := State.store_keeps k v (List.Subset.refl _) (SameBut.refl _ s) .tmap (by decide)
@[simp] theorem State.store_tribs (s : State) (k : Nat) (v : Word) : (s.store k v).tribs = s.tribs := State.store_keeps k v (List.Subset.refl _) (SameBut.refl _ s) .tribs (by decide)
@[simp] theorem State.store_tfrags (s : State) (k : Nat) (v : Word) : (s.store k v).tfrags = s.tfrags := State.store_keeps k v (List.Subset.refl _) (SameBut.refl _ s) .tfrags (by decide)
@[simp] theorem State.store_rows (s : State) (k : Nat) (v : Word) : (s.store k v).rows = s.rows := State.store_keeps k v (List.Subset.refl _) (SameBut.refl _ s) .rows (by decide)
@[simp] theorem State.store_ttest (s : State) (k : Nat) (v : Word) : (s.store k v).ttest = s.ttest := State.store_keeps k v (List.Subset.refl _) (SameBut.refl _ s) .ttest (by decide)
@[simp] theorem State.store_act (s : State) (k : Nat) (v : Word) : (s.store k v).act = s.act := State.store_keeps k v (List.Subset.refl _) (SameBut.refl _ s) .act (by decide)
@[simp] theorem State.store_upb (s : State) (k : Nat) (v : Word) : (s.store k v).upb = s.upb := State.store_keeps k v (List.Subset.refl _) (SameBut.refl _ s) .upb (by decide)
@[simp] theorem State.store_restarts (s : State) (k : Nat) (v : Word) : (s.store k v).restarts = s.restarts := State.store_keeps k v (List.Subset.refl _) (SameBut.refl _ s) .restarts (by decide)
@[simp] theorem State.store_gsm (s : State) (k : Nat) (v : Word) : (s.store k v).gsm = s.gsm := State.store_keeps k v (List.Subset.refl _) (SameBut.refl _ s) .gsm (by decide)
@[simp] theorem State.store_txEff (s : State) (k : Nat) (v : Word) : (s.store k v).txEff = s.txEff := State.store_keeps k v (List.Subset.refl _) (SameBut.refl _ s) .txEff (by decide)
@[simp] theorem State.store_pairs (s : State) (k : Nat) (v : Word) : (s.store k v).pairs = s.pairs := State.store_keeps k v (List.Subset.refl _) (SameBut.refl _ s) .pairs (by decide)
@[simp] theorem State.store_key (s : State) (k : Nat) (v : Word) : (s.store k v).key = s.key := State.store_keeps k v (List.Subset.refl _) (SameBut.refl _ s) .key (by decide)
@[simp] theorem State.store_pipes (s : State) (k : Nat) (v : Word) : (s.store k v).pipes = s.pipes := State.store_keeps k v (List.Subset.refl _) (SameBut.refl _ s) .pipes (by decide)
@[simp] theorem State.store_epochs (s : State) (k : Nat) (v : Word) : (s.store k v).epochs = s.epochs := State.store_keeps k v (List.Subset.refl _) (SameBut.refl _ s) .epochs (by decide)
@[simp] theorem State.store_prog (s : State) (k : Nat) (v : Word) : (s.store k v).prog = s.prog := State.store_keeps k v (List.Subset.refl _) (SameBut.refl _ s) .prog (by decide)
@[simp] theorem State.store_rcnt (s : State) (k : Nat) (v : Word) : (s.store k v).rcnt = s.rcnt := State.store_keeps k v (List.Subset.refl _) (SameBut.refl _ s) .rcnt (by decide)
@[simp] theorem State.store_rcntHeld (s : State) (k : Nat) (v : Word) : (s.store k v).rcntHeld = s.rcntHeld := State.store_keeps k v (List.Subset.refl _) (SameBut.refl _ s) .rcntHeld (by decide)
@[simp] theorem State.store_excWait (s : State) (k : Nat) (v : Word) : (s.store k v).excWait = s.excWait := State.store_keeps k v (List.Subset.refl _) (SameBut.refl _ s) .excWait (by decide)
@[simp] theorem State.store_bufs (s : State) (k : Nat) (v : Word) : (s.store k v).bufs = s.bufs := State.store_keeps k v (List.Subset.refl _) (SameBut.refl _ s) .bufs (by decide)
@[simp] theorem State.store_bufRot (s : State) (k : Nat) (v : Word) : (s.store k v).bufRot = s.bufRot := State.store_keeps k v (List.Subset.refl _) (SameBut.refl _ s) .bufRot (by decide)
@[simp] theorem State.store_qmap (s : State) (k : Nat) (v : Word) : (s.store k v).qmap = s.qmap := State.store_keeps k v (List.Subset.refl _) (SameBut.refl _ s) .qmap (by decide)
@[simp] theorem State.store_memch (s : State) (k : Nat) (v : Word) : (s.store k v).memch = s.memch := State.store_keeps k v (List.Subset.refl _) (SameBut.refl _ s) .memch (by decide)
@[simp] theorem State.store_ecc (s : State) (k : Nat) (v : Word) : (s.store k v).ecc = s.ecc := State.store_keeps k v (List.Subset.refl _) (SameBut.refl _ s) .ecc (by decide)
@[simp] theorem State.store_mxe (s : State) (k : Nat) (v : Word) : (s.store k v).mxe = s.mxe := State.store_keeps k v (List.Subset.refl _) (SameBut.refl _ s) .mxe (by decide)
@[simp] theorem State.store_queues (s : State) (k : Nat) (v : Word) : (s.store k v).queues = s.queues := State.store_keeps k v (List.Subset.refl _) (SameBut.refl _ s) .queues (by decide)
@[simp] theorem State.store_turns (s : State) (k : Nat) (v : Word) : (s.store k v).turns = s.turns := State.store_keeps k v (List.Subset.refl _) (SameBut.refl _ s) .turns (by decide)
@[simp] theorem State.store_elig (s : State) (k : Nat) (v : Word) : (s.store k v).elig = s.elig := State.store_keeps k v (List.Subset.refl _) (SameBut.refl _ s) .elig (by decide)
@[simp] theorem State.store_shapers (s : State) (k : Nat) (v : Word) : (s.store k v).shapers = s.shapers := State.store_keeps k v (List.Subset.refl _) (SameBut.refl _ s) .shapers (by decide)
@[simp] theorem State.store_policers (s : State) (k : Nat) (v : Word) : (s.store k v).policers = s.policers := State.store_keeps k v (List.Subset.refl _) (SameBut.refl _ s) .policers (by decide)
@[simp] theorem State.store_gates (s : State) (k : Nat) (v : Word) : (s.store k v).gates = s.gates := State.store_keeps k v (List.Subset.refl _) (SameBut.refl _ s) .gates (by decide)
@[simp] theorem State.store_gateBusy (s : State) (k : Nat) (v : Word) : (s.store k v).gateBusy = s.gateBusy := State.store_keeps k v (List.Subset.refl _) (SameBut.refl _ s) .gateBusy (by decide)
@[simp] theorem State.store_lanes (s : State) (k : Nat) (v : Word) : (s.store k v).lanes = s.lanes := State.store_keeps k v (List.Subset.refl _) (SameBut.refl _ s) .lanes (by decide)
@[simp] theorem State.store_lports (s : State) (k : Nat) (v : Word) : (s.store k v).lports = s.lports := State.store_keeps k v (List.Subset.refl _) (SameBut.refl _ s) .lports (by decide)
@[simp] theorem State.store_mdio (s : State) (k : Nat) (v : Word) : (s.store k v).mdio = s.mdio := State.store_keeps k v (List.Subset.refl _) (SameBut.refl _ s) .mdio (by decide)
@[simp] theorem State.store_tim (s : State) (k : Nat) (v : Word) : (s.store k v).tim = s.tim := State.store_keeps k v (List.Subset.refl _) (SameBut.refl _ s) .tim (by decide)
@[simp] theorem State.store_evt (s : State) (k : Nat) (v : Word) : (s.store k v).evt = s.evt := State.store_keeps k v (List.Subset.refl _) (SameBut.refl _ s) .evt (by decide)
@[simp] theorem State.store_log (s : State) (k : Nat) (v : Word) : (s.store k v).log = s.log := State.store_keeps k v (List.Subset.refl _) (SameBut.refl _ s) .log (by decide)
@[simp] theorem State.store_tsk (s : State) (k : Nat) (v : Word) : (s.store k v).tsk = s.tsk := State.store_keeps k v (List.Subset.refl _) (SameBut.refl _ s) .tsk (by decide)
@[simp] theorem State.store_cpu (s : State) (k : Nat) (v : Word) : (s.store k v).cpu = s.cpu := State.store_keeps k v (List.Subset.refl _) (SameBut.refl _ s) .cpu (by decide)
@[simp] theorem State.store_pwr (s : State) (k : Nat) (v : Word) : (s.store k v).pwr = s.pwr := State.store_keeps k v (List.Subset.refl _) (SameBut.refl _ s) .pwr (by decide)
@[simp] theorem State.store_rst (s : State) (k : Nat) (v : Word) : (s.store k v).rst = s.rst := State.store_keeps k v (List.Subset.refl _) (SameBut.refl _ s) .rst (by decide)
@[simp] theorem State.store_sys (s : State) (k : Nat) (v : Word) : (s.store k v).sys = s.sys := State.store_keeps k v (List.Subset.refl _) (SameBut.refl _ s) .sys (by decide)
@[simp] theorem State.store_hif (s : State) (k : Nat) (v : Word) : (s.store k v).hif = s.hif := State.store_keeps k v (List.Subset.refl _) (SameBut.refl _ s) .hif (by decide)
@[simp] theorem State.store_pins (s : State) (k : Nat) (v : Word) : (s.store k v).pins = s.pins := State.store_keeps k v (List.Subset.refl _) (SameBut.refl _ s) .pins (by decide)
@[simp] theorem State.store_clock (s : State) (k : Nat) (v : Word) : (s.store k v).clock = s.clock := State.store_keeps k v (List.Subset.refl _) (SameBut.refl _ s) .clock (by decide)
@[simp] theorem State.store_timers (s : State) (k : Nat) (v : Word) : (s.store k v).timers = s.timers := State.store_keeps k v (List.Subset.refl _) (SameBut.refl _ s) .timers (by decide)
@[simp] theorem State.store_pending (s : State) (k : Nat) (v : Word) : (s.store k v).pending = s.pending := State.store_keeps k v (List.Subset.refl _) (SameBut.refl _ s) .pending (by decide)
@[simp] theorem State.store_dark (s : State) (k : Nat) (v : Word) : (s.store k v).dark = s.dark := State.store_keeps k v (List.Subset.refl _) (SameBut.refl _ s) .dark (by decide)
@[simp] theorem State.store_resp (s : State) (k : Nat) (v : Word) : (s.store k v).resp = s.resp := State.store_keeps k v (List.Subset.refl _) (SameBut.refl _ s) .resp (by decide)
@[simp] theorem State.store_out (s : State) (k : Nat) (v : Word) : (s.store k v).out = s.out := State.store_keeps k v (List.Subset.refl _) (SameBut.refl _ s) .out (by decide)
@[simp] theorem State.store_fresh (s : State) (k : Nat) (v : Word) : (s.store k v).fresh = s.fresh := State.store_keeps k v (List.Subset.refl _) (SameBut.refl _ s) .fresh (by decide)
@[simp] theorem State.store_running (s : State) (k_ : Nat) (v : Word) (g_ : Nat) : (s.store k_ v).running g_ = s.running g_ := State.running_of_timers (State.store_timers s k_ v) g_
@[simp] theorem State.store_domOn (s : State) (k_ : Nat) (v : Word) (g_ : Nat) : (s.store k_ v).domOn g_ = s.domOn g_ := State.domOn_of_pwr (State.store_pwr s k_ v) g_

/-! `State.writeByte` -/

@[simp] theorem State.writeByte_regs (s : State) (a : Nat) (b : Byte) : (s.writeByte a b).regs = s.regs := State.writeByte_keeps a b (List.Subset.refl _) (SameBut.refl _ s) .regs (by decide)
@[simp] theorem State.writeByte_shown (s : State) (a : Nat) (b : Byte) : (s.writeByte a b).shown = s.shown := State.writeByte_keeps a b (List.Subset.refl _) (SameBut.refl _ s) .shown (by decide)
@[simp] theorem State.writeByte_mirror (s : State) (a : Nat) (b : Byte) : (s.writeByte a b).mirror = s.mirror := State.writeByte_keeps a b (List.Subset.refl _) (SameBut.refl _ s) .mirror (by decide)
@[simp] theorem State.writeByte_seam (s : State) (a : Nat) (b : Byte) : (s.writeByte a b).seam = s.seam := State.writeByte_keeps a b (List.Subset.refl _) (SameBut.refl _ s) .seam (by decide)
@[simp] theorem State.writeByte_cmt (s : State) (a : Nat) (b : Byte) : (s.writeByte a b).cmt = s.cmt := State.writeByte_keeps a b (List.Subset.refl _) (SameBut.refl _ s) .cmt (by decide)
@[simp] theorem State.writeByte_own (s : State) (a : Nat) (b : Byte) : (s.writeByte a b).own = s.own := State.writeByte_keeps a b (List.Subset.refl _) (SameBut.refl _ s) .own (by decide)
@[simp] theorem State.writeByte_nextPkt (s : State) (a : Nat) (b : Byte) : (s.writeByte a b).nextPkt = s.nextPkt := State.writeByte_keeps a b (List.Subset.refl _) (SameBut.refl _ s) .nextPkt (by decide)
@[simp] theorem State.writeByte_rx (s : State) (a : Nat) (b : Byte) : (s.writeByte a b).rx = s.rx := State.writeByte_keeps a b (List.Subset.refl _) (SameBut.refl _ s) .rx (by decide)
@[simp] theorem State.writeByte_dsf (s : State) (a : Nat) (b : Byte) : (s.writeByte a b).dsf = s.dsf := State.writeByte_keeps a b (List.Subset.refl _) (SameBut.refl _ s) .dsf (by decide)
@[simp] theorem State.writeByte_tmap (s : State) (a : Nat) (b : Byte) : (s.writeByte a b).tmap = s.tmap := State.writeByte_keeps a b (List.Subset.refl _) (SameBut.refl _ s) .tmap (by decide)
@[simp] theorem State.writeByte_tribs (s : State) (a : Nat) (b : Byte) : (s.writeByte a b).tribs = s.tribs := State.writeByte_keeps a b (List.Subset.refl _) (SameBut.refl _ s) .tribs (by decide)
@[simp] theorem State.writeByte_tfrags (s : State) (a : Nat) (b : Byte) : (s.writeByte a b).tfrags = s.tfrags := State.writeByte_keeps a b (List.Subset.refl _) (SameBut.refl _ s) .tfrags (by decide)
@[simp] theorem State.writeByte_rows (s : State) (a : Nat) (b : Byte) : (s.writeByte a b).rows = s.rows := State.writeByte_keeps a b (List.Subset.refl _) (SameBut.refl _ s) .rows (by decide)
@[simp] theorem State.writeByte_ttest (s : State) (a : Nat) (b : Byte) : (s.writeByte a b).ttest = s.ttest := State.writeByte_keeps a b (List.Subset.refl _) (SameBut.refl _ s) .ttest (by decide)
@[simp] theorem State.writeByte_act (s : State) (a : Nat) (b : Byte) : (s.writeByte a b).act = s.act := State.writeByte_keeps a b (List.Subset.refl _) (SameBut.refl _ s) .act (by decide)
@[simp] theorem State.writeByte_upb (s : State) (a : Nat) (b : Byte) : (s.writeByte a b).upb = s.upb := State.writeByte_keeps a b (List.Subset.refl _) (SameBut.refl _ s) .upb (by decide)
@[simp] theorem State.writeByte_restarts (s : State) (a : Nat) (b : Byte) : (s.writeByte a b).restarts = s.restarts := State.writeByte_keeps a b (List.Subset.refl _) (SameBut.refl _ s) .restarts (by decide)
@[simp] theorem State.writeByte_gsm (s : State) (a : Nat) (b : Byte) : (s.writeByte a b).gsm = s.gsm := State.writeByte_keeps a b (List.Subset.refl _) (SameBut.refl _ s) .gsm (by decide)
@[simp] theorem State.writeByte_txEff (s : State) (a : Nat) (b : Byte) : (s.writeByte a b).txEff = s.txEff := State.writeByte_keeps a b (List.Subset.refl _) (SameBut.refl _ s) .txEff (by decide)
@[simp] theorem State.writeByte_pairs (s : State) (a : Nat) (b : Byte) : (s.writeByte a b).pairs = s.pairs := State.writeByte_keeps a b (List.Subset.refl _) (SameBut.refl _ s) .pairs (by decide)
@[simp] theorem State.writeByte_key (s : State) (a : Nat) (b : Byte) : (s.writeByte a b).key = s.key := State.writeByte_keeps a b (List.Subset.refl _) (SameBut.refl _ s) .key (by decide)
@[simp] theorem State.writeByte_pipes (s : State) (a : Nat) (b : Byte) : (s.writeByte a b).pipes = s.pipes := State.writeByte_keeps a b (List.Subset.refl _) (SameBut.refl _ s) .pipes (by decide)
@[simp] theorem State.writeByte_epochs (s : State) (a : Nat) (b : Byte) : (s.writeByte a b).epochs = s.epochs := State.writeByte_keeps a b (List.Subset.refl _) (SameBut.refl _ s) .epochs (by decide)
@[simp] theorem State.writeByte_prog (s : State) (a : Nat) (b : Byte) : (s.writeByte a b).prog = s.prog := State.writeByte_keeps a b (List.Subset.refl _) (SameBut.refl _ s) .prog (by decide)
@[simp] theorem State.writeByte_rcnt (s : State) (a : Nat) (b : Byte) : (s.writeByte a b).rcnt = s.rcnt := State.writeByte_keeps a b (List.Subset.refl _) (SameBut.refl _ s) .rcnt (by decide)
@[simp] theorem State.writeByte_rcntHeld (s : State) (a : Nat) (b : Byte) : (s.writeByte a b).rcntHeld = s.rcntHeld := State.writeByte_keeps a b (List.Subset.refl _) (SameBut.refl _ s) .rcntHeld (by decide)
@[simp] theorem State.writeByte_excWait (s : State) (a : Nat) (b : Byte) : (s.writeByte a b).excWait = s.excWait := State.writeByte_keeps a b (List.Subset.refl _) (SameBut.refl _ s) .excWait (by decide)
@[simp] theorem State.writeByte_bufs (s : State) (a : Nat) (b : Byte) : (s.writeByte a b).bufs = s.bufs := State.writeByte_keeps a b (List.Subset.refl _) (SameBut.refl _ s) .bufs (by decide)
@[simp] theorem State.writeByte_bufRot (s : State) (a : Nat) (b : Byte) : (s.writeByte a b).bufRot = s.bufRot := State.writeByte_keeps a b (List.Subset.refl _) (SameBut.refl _ s) .bufRot (by decide)
@[simp] theorem State.writeByte_qmap (s : State) (a : Nat) (b : Byte) : (s.writeByte a b).qmap = s.qmap := State.writeByte_keeps a b (List.Subset.refl _) (SameBut.refl _ s) .qmap (by decide)
@[simp] theorem State.writeByte_memch (s : State) (a : Nat) (b : Byte) : (s.writeByte a b).memch = s.memch := State.writeByte_keeps a b (List.Subset.refl _) (SameBut.refl _ s) .memch (by decide)
@[simp] theorem State.writeByte_ecc (s : State) (a : Nat) (b : Byte) : (s.writeByte a b).ecc = s.ecc := State.writeByte_keeps a b (List.Subset.refl _) (SameBut.refl _ s) .ecc (by decide)
@[simp] theorem State.writeByte_mxe (s : State) (a : Nat) (b : Byte) : (s.writeByte a b).mxe = s.mxe := State.writeByte_keeps a b (List.Subset.refl _) (SameBut.refl _ s) .mxe (by decide)
@[simp] theorem State.writeByte_queues (s : State) (a : Nat) (b : Byte) : (s.writeByte a b).queues = s.queues := State.writeByte_keeps a b (List.Subset.refl _) (SameBut.refl _ s) .queues (by decide)
@[simp] theorem State.writeByte_turns (s : State) (a : Nat) (b : Byte) : (s.writeByte a b).turns = s.turns := State.writeByte_keeps a b (List.Subset.refl _) (SameBut.refl _ s) .turns (by decide)
@[simp] theorem State.writeByte_elig (s : State) (a : Nat) (b : Byte) : (s.writeByte a b).elig = s.elig := State.writeByte_keeps a b (List.Subset.refl _) (SameBut.refl _ s) .elig (by decide)
@[simp] theorem State.writeByte_shapers (s : State) (a : Nat) (b : Byte) : (s.writeByte a b).shapers = s.shapers := State.writeByte_keeps a b (List.Subset.refl _) (SameBut.refl _ s) .shapers (by decide)
@[simp] theorem State.writeByte_policers (s : State) (a : Nat) (b : Byte) : (s.writeByte a b).policers = s.policers := State.writeByte_keeps a b (List.Subset.refl _) (SameBut.refl _ s) .policers (by decide)
@[simp] theorem State.writeByte_gates (s : State) (a : Nat) (b : Byte) : (s.writeByte a b).gates = s.gates := State.writeByte_keeps a b (List.Subset.refl _) (SameBut.refl _ s) .gates (by decide)
@[simp] theorem State.writeByte_gateBusy (s : State) (a : Nat) (b : Byte) : (s.writeByte a b).gateBusy = s.gateBusy := State.writeByte_keeps a b (List.Subset.refl _) (SameBut.refl _ s) .gateBusy (by decide)
@[simp] theorem State.writeByte_lanes (s : State) (a : Nat) (b : Byte) : (s.writeByte a b).lanes = s.lanes := State.writeByte_keeps a b (List.Subset.refl _) (SameBut.refl _ s) .lanes (by decide)
@[simp] theorem State.writeByte_lports (s : State) (a : Nat) (b : Byte) : (s.writeByte a b).lports = s.lports := State.writeByte_keeps a b (List.Subset.refl _) (SameBut.refl _ s) .lports (by decide)
@[simp] theorem State.writeByte_mdio (s : State) (a : Nat) (b : Byte) : (s.writeByte a b).mdio = s.mdio := State.writeByte_keeps a b (List.Subset.refl _) (SameBut.refl _ s) .mdio (by decide)
@[simp] theorem State.writeByte_tim (s : State) (a : Nat) (b : Byte) : (s.writeByte a b).tim = s.tim := State.writeByte_keeps a b (List.Subset.refl _) (SameBut.refl _ s) .tim (by decide)
@[simp] theorem State.writeByte_evt (s : State) (a : Nat) (b : Byte) : (s.writeByte a b).evt = s.evt := State.writeByte_keeps a b (List.Subset.refl _) (SameBut.refl _ s) .evt (by decide)
@[simp] theorem State.writeByte_log (s : State) (a : Nat) (b : Byte) : (s.writeByte a b).log = s.log := State.writeByte_keeps a b (List.Subset.refl _) (SameBut.refl _ s) .log (by decide)
@[simp] theorem State.writeByte_tsk (s : State) (a : Nat) (b : Byte) : (s.writeByte a b).tsk = s.tsk := State.writeByte_keeps a b (List.Subset.refl _) (SameBut.refl _ s) .tsk (by decide)
@[simp] theorem State.writeByte_cpu (s : State) (a : Nat) (b : Byte) : (s.writeByte a b).cpu = s.cpu := State.writeByte_keeps a b (List.Subset.refl _) (SameBut.refl _ s) .cpu (by decide)
@[simp] theorem State.writeByte_pwr (s : State) (a : Nat) (b : Byte) : (s.writeByte a b).pwr = s.pwr := State.writeByte_keeps a b (List.Subset.refl _) (SameBut.refl _ s) .pwr (by decide)
@[simp] theorem State.writeByte_rst (s : State) (a : Nat) (b : Byte) : (s.writeByte a b).rst = s.rst := State.writeByte_keeps a b (List.Subset.refl _) (SameBut.refl _ s) .rst (by decide)
@[simp] theorem State.writeByte_sys (s : State) (a : Nat) (b : Byte) : (s.writeByte a b).sys = s.sys := State.writeByte_keeps a b (List.Subset.refl _) (SameBut.refl _ s) .sys (by decide)
@[simp] theorem State.writeByte_hif (s : State) (a : Nat) (b : Byte) : (s.writeByte a b).hif = s.hif := State.writeByte_keeps a b (List.Subset.refl _) (SameBut.refl _ s) .hif (by decide)
@[simp] theorem State.writeByte_pins (s : State) (a : Nat) (b : Byte) : (s.writeByte a b).pins = s.pins := State.writeByte_keeps a b (List.Subset.refl _) (SameBut.refl _ s) .pins (by decide)
@[simp] theorem State.writeByte_clock (s : State) (a : Nat) (b : Byte) : (s.writeByte a b).clock = s.clock := State.writeByte_keeps a b (List.Subset.refl _) (SameBut.refl _ s) .clock (by decide)
@[simp] theorem State.writeByte_timers (s : State) (a : Nat) (b : Byte) : (s.writeByte a b).timers = s.timers := State.writeByte_keeps a b (List.Subset.refl _) (SameBut.refl _ s) .timers (by decide)
@[simp] theorem State.writeByte_pending (s : State) (a : Nat) (b : Byte) : (s.writeByte a b).pending = s.pending := State.writeByte_keeps a b (List.Subset.refl _) (SameBut.refl _ s) .pending (by decide)
@[simp] theorem State.writeByte_dark (s : State) (a : Nat) (b : Byte) : (s.writeByte a b).dark = s.dark := State.writeByte_keeps a b (List.Subset.refl _) (SameBut.refl _ s) .dark (by decide)
@[simp] theorem State.writeByte_resp (s : State) (a : Nat) (b : Byte) : (s.writeByte a b).resp = s.resp := State.writeByte_keeps a b (List.Subset.refl _) (SameBut.refl _ s) .resp (by decide)
@[simp] theorem State.writeByte_out (s : State) (a : Nat) (b : Byte) : (s.writeByte a b).out = s.out := State.writeByte_keeps a b (List.Subset.refl _) (SameBut.refl _ s) .out (by decide)
@[simp] theorem State.writeByte_fresh (s : State) (a : Nat) (b : Byte) : (s.writeByte a b).fresh = s.fresh := State.writeByte_keeps a b (List.Subset.refl _) (SameBut.refl _ s) .fresh (by decide)
@[simp] theorem State.writeByte_rd (s : State) (a : Nat) (b : Byte) (k : Nat) : (s.writeByte a b).rd k = s.rd k := State.rd_of_regs (State.writeByte_regs s a b) k
@[simp] theorem State.writeByte_fld (s : State) (a : Nat) (b : Byte) (g_ : Fld) : (s.writeByte a b).fld g_ = s.fld g_ := State.fld_of_regs (State.writeByte_regs s a b) g_
@[simp] theorem State.writeByte_bit (s : State) (a : Nat) (b : Byte) (g_ : Fld) : (s.writeByte a b).bit g_ = s.bit g_ := State.bit_of_regs (State.writeByte_regs s a b) g_
@[simp] theorem State.writeByte_running (s : State) (a : Nat) (b : Byte) (g_ : Nat) : (s.writeByte a b).running g_ = s.running g_ := State.running_of_timers (State.writeByte_timers s a b) g_
@[simp] theorem State.writeByte_domOn (s : State) (a : Nat) (b : Byte) (g_ : Nat) : (s.writeByte a b).domOn g_ = s.domOn g_ := State.domOn_of_pwr (State.writeByte_pwr s a b) g_

/-! `State.writeBytes` -/

@[simp] theorem State.writeBytes_regs (s : State) (a : Nat) (bs : List Byte) : (s.writeBytes a bs).regs = s.regs := State.writeBytes_keeps a bs (List.Subset.refl _) (SameBut.refl _ s) .regs (by decide)
@[simp] theorem State.writeBytes_shown (s : State) (a : Nat) (bs : List Byte) : (s.writeBytes a bs).shown = s.shown := State.writeBytes_keeps a bs (List.Subset.refl _) (SameBut.refl _ s) .shown (by decide)
@[simp] theorem State.writeBytes_mirror (s : State) (a : Nat) (bs : List Byte) : (s.writeBytes a bs).mirror = s.mirror := State.writeBytes_keeps a bs (List.Subset.refl _) (SameBut.refl _ s) .mirror (by decide)
@[simp] theorem State.writeBytes_seam (s : State) (a : Nat) (bs : List Byte) : (s.writeBytes a bs).seam = s.seam := State.writeBytes_keeps a bs (List.Subset.refl _) (SameBut.refl _ s) .seam (by decide)
@[simp] theorem State.writeBytes_cmt (s : State) (a : Nat) (bs : List Byte) : (s.writeBytes a bs).cmt = s.cmt := State.writeBytes_keeps a bs (List.Subset.refl _) (SameBut.refl _ s) .cmt (by decide)
@[simp] theorem State.writeBytes_own (s : State) (a : Nat) (bs : List Byte) : (s.writeBytes a bs).own = s.own := State.writeBytes_keeps a bs (List.Subset.refl _) (SameBut.refl _ s) .own (by decide)
@[simp] theorem State.writeBytes_nextPkt (s : State) (a : Nat) (bs : List Byte) : (s.writeBytes a bs).nextPkt = s.nextPkt := State.writeBytes_keeps a bs (List.Subset.refl _) (SameBut.refl _ s) .nextPkt (by decide)
@[simp] theorem State.writeBytes_rx (s : State) (a : Nat) (bs : List Byte) : (s.writeBytes a bs).rx = s.rx := State.writeBytes_keeps a bs (List.Subset.refl _) (SameBut.refl _ s) .rx (by decide)
@[simp] theorem State.writeBytes_dsf (s : State) (a : Nat) (bs : List Byte) : (s.writeBytes a bs).dsf = s.dsf := State.writeBytes_keeps a bs (List.Subset.refl _) (SameBut.refl _ s) .dsf (by decide)
@[simp] theorem State.writeBytes_tmap (s : State) (a : Nat) (bs : List Byte) : (s.writeBytes a bs).tmap = s.tmap := State.writeBytes_keeps a bs (List.Subset.refl _) (SameBut.refl _ s) .tmap (by decide)
@[simp] theorem State.writeBytes_tribs (s : State) (a : Nat) (bs : List Byte) : (s.writeBytes a bs).tribs = s.tribs := State.writeBytes_keeps a bs (List.Subset.refl _) (SameBut.refl _ s) .tribs (by decide)
@[simp] theorem State.writeBytes_tfrags (s : State) (a : Nat) (bs : List Byte) : (s.writeBytes a bs).tfrags = s.tfrags := State.writeBytes_keeps a bs (List.Subset.refl _) (SameBut.refl _ s) .tfrags (by decide)
@[simp] theorem State.writeBytes_rows (s : State) (a : Nat) (bs : List Byte) : (s.writeBytes a bs).rows = s.rows := State.writeBytes_keeps a bs (List.Subset.refl _) (SameBut.refl _ s) .rows (by decide)
@[simp] theorem State.writeBytes_ttest (s : State) (a : Nat) (bs : List Byte) : (s.writeBytes a bs).ttest = s.ttest := State.writeBytes_keeps a bs (List.Subset.refl _) (SameBut.refl _ s) .ttest (by decide)
@[simp] theorem State.writeBytes_act (s : State) (a : Nat) (bs : List Byte) : (s.writeBytes a bs).act = s.act := State.writeBytes_keeps a bs (List.Subset.refl _) (SameBut.refl _ s) .act (by decide)
@[simp] theorem State.writeBytes_upb (s : State) (a : Nat) (bs : List Byte) : (s.writeBytes a bs).upb = s.upb := State.writeBytes_keeps a bs (List.Subset.refl _) (SameBut.refl _ s) .upb (by decide)
@[simp] theorem State.writeBytes_restarts (s : State) (a : Nat) (bs : List Byte) : (s.writeBytes a bs).restarts = s.restarts := State.writeBytes_keeps a bs (List.Subset.refl _) (SameBut.refl _ s) .restarts (by decide)
@[simp] theorem State.writeBytes_gsm (s : State) (a : Nat) (bs : List Byte) : (s.writeBytes a bs).gsm = s.gsm := State.writeBytes_keeps a bs (List.Subset.refl _) (SameBut.refl _ s) .gsm (by decide)
@[simp] theorem State.writeBytes_txEff (s : State) (a : Nat) (bs : List Byte) : (s.writeBytes a bs).txEff = s.txEff := State.writeBytes_keeps a bs (List.Subset.refl _) (SameBut.refl _ s) .txEff (by decide)
@[simp] theorem State.writeBytes_pairs (s : State) (a : Nat) (bs : List Byte) : (s.writeBytes a bs).pairs = s.pairs := State.writeBytes_keeps a bs (List.Subset.refl _) (SameBut.refl _ s) .pairs (by decide)
@[simp] theorem State.writeBytes_key (s : State) (a : Nat) (bs : List Byte) : (s.writeBytes a bs).key = s.key := State.writeBytes_keeps a bs (List.Subset.refl _) (SameBut.refl _ s) .key (by decide)
@[simp] theorem State.writeBytes_pipes (s : State) (a : Nat) (bs : List Byte) : (s.writeBytes a bs).pipes = s.pipes := State.writeBytes_keeps a bs (List.Subset.refl _) (SameBut.refl _ s) .pipes (by decide)
@[simp] theorem State.writeBytes_epochs (s : State) (a : Nat) (bs : List Byte) : (s.writeBytes a bs).epochs = s.epochs := State.writeBytes_keeps a bs (List.Subset.refl _) (SameBut.refl _ s) .epochs (by decide)
@[simp] theorem State.writeBytes_prog (s : State) (a : Nat) (bs : List Byte) : (s.writeBytes a bs).prog = s.prog := State.writeBytes_keeps a bs (List.Subset.refl _) (SameBut.refl _ s) .prog (by decide)
@[simp] theorem State.writeBytes_rcnt (s : State) (a : Nat) (bs : List Byte) : (s.writeBytes a bs).rcnt = s.rcnt := State.writeBytes_keeps a bs (List.Subset.refl _) (SameBut.refl _ s) .rcnt (by decide)
@[simp] theorem State.writeBytes_rcntHeld (s : State) (a : Nat) (bs : List Byte) : (s.writeBytes a bs).rcntHeld = s.rcntHeld := State.writeBytes_keeps a bs (List.Subset.refl _) (SameBut.refl _ s) .rcntHeld (by decide)
@[simp] theorem State.writeBytes_excWait (s : State) (a : Nat) (bs : List Byte) : (s.writeBytes a bs).excWait = s.excWait := State.writeBytes_keeps a bs (List.Subset.refl _) (SameBut.refl _ s) .excWait (by decide)
@[simp] theorem State.writeBytes_bufs (s : State) (a : Nat) (bs : List Byte) : (s.writeBytes a bs).bufs = s.bufs := State.writeBytes_keeps a bs (List.Subset.refl _) (SameBut.refl _ s) .bufs (by decide)
@[simp] theorem State.writeBytes_bufRot (s : State) (a : Nat) (bs : List Byte) : (s.writeBytes a bs).bufRot = s.bufRot := State.writeBytes_keeps a bs (List.Subset.refl _) (SameBut.refl _ s) .bufRot (by decide)
@[simp] theorem State.writeBytes_qmap (s : State) (a : Nat) (bs : List Byte) : (s.writeBytes a bs).qmap = s.qmap := State.writeBytes_keeps a bs (List.Subset.refl _) (SameBut.refl _ s) .qmap (by decide)
@[simp] theorem State.writeBytes_memch (s : State) (a : Nat) (bs : List Byte) : (s.writeBytes a bs).memch = s.memch := State.writeBytes_keeps a bs (List.Subset.refl _) (SameBut.refl _ s) .memch (by decide)
@[simp] theorem State.writeBytes_ecc (s : State) (a : Nat) (bs : List Byte) : (s.writeBytes a bs).ecc = s.ecc := State.writeBytes_keeps a bs (List.Subset.refl _) (SameBut.refl _ s) .ecc (by decide)
@[simp] theorem State.writeBytes_mxe (s : State) (a : Nat) (bs : List Byte) : (s.writeBytes a bs).mxe = s.mxe := State.writeBytes_keeps a bs (List.Subset.refl _) (SameBut.refl _ s) .mxe (by decide)
@[simp] theorem State.writeBytes_queues (s : State) (a : Nat) (bs : List Byte) : (s.writeBytes a bs).queues = s.queues := State.writeBytes_keeps a bs (List.Subset.refl _) (SameBut.refl _ s) .queues (by decide)
@[simp] theorem State.writeBytes_turns (s : State) (a : Nat) (bs : List Byte) : (s.writeBytes a bs).turns = s.turns := State.writeBytes_keeps a bs (List.Subset.refl _) (SameBut.refl _ s) .turns (by decide)
@[simp] theorem State.writeBytes_elig (s : State) (a : Nat) (bs : List Byte) : (s.writeBytes a bs).elig = s.elig := State.writeBytes_keeps a bs (List.Subset.refl _) (SameBut.refl _ s) .elig (by decide)
@[simp] theorem State.writeBytes_shapers (s : State) (a : Nat) (bs : List Byte) : (s.writeBytes a bs).shapers = s.shapers := State.writeBytes_keeps a bs (List.Subset.refl _) (SameBut.refl _ s) .shapers (by decide)
@[simp] theorem State.writeBytes_policers (s : State) (a : Nat) (bs : List Byte) : (s.writeBytes a bs).policers = s.policers := State.writeBytes_keeps a bs (List.Subset.refl _) (SameBut.refl _ s) .policers (by decide)
@[simp] theorem State.writeBytes_gates (s : State) (a : Nat) (bs : List Byte) : (s.writeBytes a bs).gates = s.gates := State.writeBytes_keeps a bs (List.Subset.refl _) (SameBut.refl _ s) .gates (by decide)
@[simp] theorem State.writeBytes_gateBusy (s : State) (a : Nat) (bs : List Byte) : (s.writeBytes a bs).gateBusy = s.gateBusy := State.writeBytes_keeps a bs (List.Subset.refl _) (SameBut.refl _ s) .gateBusy (by decide)
@[simp] theorem State.writeBytes_lanes (s : State) (a : Nat) (bs : List Byte) : (s.writeBytes a bs).lanes = s.lanes := State.writeBytes_keeps a bs (List.Subset.refl _) (SameBut.refl _ s) .lanes (by decide)
@[simp] theorem State.writeBytes_lports (s : State) (a : Nat) (bs : List Byte) : (s.writeBytes a bs).lports = s.lports := State.writeBytes_keeps a bs (List.Subset.refl _) (SameBut.refl _ s) .lports (by decide)
@[simp] theorem State.writeBytes_mdio (s : State) (a : Nat) (bs : List Byte) : (s.writeBytes a bs).mdio = s.mdio := State.writeBytes_keeps a bs (List.Subset.refl _) (SameBut.refl _ s) .mdio (by decide)
@[simp] theorem State.writeBytes_tim (s : State) (a : Nat) (bs : List Byte) : (s.writeBytes a bs).tim = s.tim := State.writeBytes_keeps a bs (List.Subset.refl _) (SameBut.refl _ s) .tim (by decide)
@[simp] theorem State.writeBytes_evt (s : State) (a : Nat) (bs : List Byte) : (s.writeBytes a bs).evt = s.evt := State.writeBytes_keeps a bs (List.Subset.refl _) (SameBut.refl _ s) .evt (by decide)
@[simp] theorem State.writeBytes_log (s : State) (a : Nat) (bs : List Byte) : (s.writeBytes a bs).log = s.log := State.writeBytes_keeps a bs (List.Subset.refl _) (SameBut.refl _ s) .log (by decide)
@[simp] theorem State.writeBytes_tsk (s : State) (a : Nat) (bs : List Byte) : (s.writeBytes a bs).tsk = s.tsk := State.writeBytes_keeps a bs (List.Subset.refl _) (SameBut.refl _ s) .tsk (by decide)
@[simp] theorem State.writeBytes_cpu (s : State) (a : Nat) (bs : List Byte) : (s.writeBytes a bs).cpu = s.cpu := State.writeBytes_keeps a bs (List.Subset.refl _) (SameBut.refl _ s) .cpu (by decide)
@[simp] theorem State.writeBytes_pwr (s : State) (a : Nat) (bs : List Byte) : (s.writeBytes a bs).pwr = s.pwr := State.writeBytes_keeps a bs (List.Subset.refl _) (SameBut.refl _ s) .pwr (by decide)
@[simp] theorem State.writeBytes_rst (s : State) (a : Nat) (bs : List Byte) : (s.writeBytes a bs).rst = s.rst := State.writeBytes_keeps a bs (List.Subset.refl _) (SameBut.refl _ s) .rst (by decide)
@[simp] theorem State.writeBytes_sys (s : State) (a : Nat) (bs : List Byte) : (s.writeBytes a bs).sys = s.sys := State.writeBytes_keeps a bs (List.Subset.refl _) (SameBut.refl _ s) .sys (by decide)
@[simp] theorem State.writeBytes_hif (s : State) (a : Nat) (bs : List Byte) : (s.writeBytes a bs).hif = s.hif := State.writeBytes_keeps a bs (List.Subset.refl _) (SameBut.refl _ s) .hif (by decide)
@[simp] theorem State.writeBytes_pins (s : State) (a : Nat) (bs : List Byte) : (s.writeBytes a bs).pins = s.pins := State.writeBytes_keeps a bs (List.Subset.refl _) (SameBut.refl _ s) .pins (by decide)
@[simp] theorem State.writeBytes_clock (s : State) (a : Nat) (bs : List Byte) : (s.writeBytes a bs).clock = s.clock := State.writeBytes_keeps a bs (List.Subset.refl _) (SameBut.refl _ s) .clock (by decide)
@[simp] theorem State.writeBytes_timers (s : State) (a : Nat) (bs : List Byte) : (s.writeBytes a bs).timers = s.timers := State.writeBytes_keeps a bs (List.Subset.refl _) (SameBut.refl _ s) .timers (by decide)
@[simp] theorem State.writeBytes_pending (s : State) (a : Nat) (bs : List Byte) : (s.writeBytes a bs).pending = s.pending := State.writeBytes_keeps a bs (List.Subset.refl _) (SameBut.refl _ s) .pending (by decide)
@[simp] theorem State.writeBytes_dark (s : State) (a : Nat) (bs : List Byte) : (s.writeBytes a bs).dark = s.dark := State.writeBytes_keeps a bs (List.Subset.refl _) (SameBut.refl _ s) .dark (by decide)
@[simp] theorem State.writeBytes_resp (s : State) (a : Nat) (bs : List Byte) : (s.writeBytes a bs).resp = s.resp := State.writeBytes_keeps a bs (List.Subset.refl _) (SameBut.refl _ s) .resp (by decide)
@[simp] theorem State.writeBytes_out (s : State) (a : Nat) (bs : List Byte) : (s.writeBytes a bs).out = s.out := State.writeBytes_keeps a bs (List.Subset.refl _) (SameBut.refl _ s) .out (by decide)
@[simp] theorem State.writeBytes_fresh (s : State) (a : Nat) (bs : List Byte) : (s.writeBytes a bs).fresh = s.fresh := State.writeBytes_keeps a bs (List.Subset.refl _) (SameBut.refl _ s) .fresh (by decide)
@[simp] theorem State.writeBytes_rd (s : State) (a : Nat) (bs : List Byte) (k : Nat) : (s.writeBytes a bs).rd k = s.rd k := State.rd_of_regs (State.writeBytes_regs s a bs) k
@[simp] theorem State.writeBytes_fld (s : State) (a : Nat) (bs : List Byte) (g_ : Fld) : (s.writeBytes a bs).fld g_ = s.fld g_ := State.fld_of_regs (State.writeBytes_regs s a bs) g_
@[simp] theorem State.writeBytes_bit (s : State) (a : Nat) (bs : List Byte) (g_ : Fld) : (s.writeBytes a bs).bit g_ = s.bit g_ := State.bit_of_regs (State.writeBytes_regs s a bs) g_
@[simp] theorem State.writeBytes_running (s : State) (a : Nat) (bs : List Byte) (g_ : Nat) : (s.writeBytes a bs).running g_ = s.running g_ := State.running_of_timers (State.writeBytes_timers s a bs) g_
@[simp] theorem State.writeBytes_domOn (s : State) (a : Nat) (bs : List Byte) (g_ : Nat) : (s.writeBytes a bs).domOn g_ = s.domOn g_ := State.domOn_of_pwr (State.writeBytes_pwr s a bs) g_

/-! `State.zeroRange` -/

@[simp] theorem State.zeroRange_regs (s : State) (a : Nat) (n : Nat) : (s.zeroRange a n).regs = s.regs := State.zeroRange_keeps a n (List.Subset.refl _) (SameBut.refl _ s) .regs (by decide)
@[simp] theorem State.zeroRange_shown (s : State) (a : Nat) (n : Nat) : (s.zeroRange a n).shown = s.shown := State.zeroRange_keeps a n (List.Subset.refl _) (SameBut.refl _ s) .shown (by decide)
@[simp] theorem State.zeroRange_mirror (s : State) (a : Nat) (n : Nat) : (s.zeroRange a n).mirror = s.mirror := State.zeroRange_keeps a n (List.Subset.refl _) (SameBut.refl _ s) .mirror (by decide)
@[simp] theorem State.zeroRange_seam (s : State) (a : Nat) (n : Nat) : (s.zeroRange a n).seam = s.seam := State.zeroRange_keeps a n (List.Subset.refl _) (SameBut.refl _ s) .seam (by decide)
@[simp] theorem State.zeroRange_cmt (s : State) (a : Nat) (n : Nat) : (s.zeroRange a n).cmt = s.cmt := State.zeroRange_keeps a n (List.Subset.refl _) (SameBut.refl _ s) .cmt (by decide)
@[simp] theorem State.zeroRange_own (s : State) (a : Nat) (n : Nat) : (s.zeroRange a n).own = s.own := State.zeroRange_keeps a n (List.Subset.refl _) (SameBut.refl _ s) .own (by decide)
@[simp] theorem State.zeroRange_nextPkt (s : State) (a : Nat) (n : Nat) : (s.zeroRange a n).nextPkt = s.nextPkt := State.zeroRange_keeps a n (List.Subset.refl _) (SameBut.refl _ s) .nextPkt (by decide)
@[simp] theorem State.zeroRange_rx (s : State) (a : Nat) (n : Nat) : (s.zeroRange a n).rx = s.rx := State.zeroRange_keeps a n (List.Subset.refl _) (SameBut.refl _ s) .rx (by decide)
@[simp] theorem State.zeroRange_dsf (s : State) (a : Nat) (n : Nat) : (s.zeroRange a n).dsf = s.dsf := State.zeroRange_keeps a n (List.Subset.refl _) (SameBut.refl _ s) .dsf (by decide)
@[simp] theorem State.zeroRange_tmap (s : State) (a : Nat) (n : Nat) : (s.zeroRange a n).tmap = s.tmap := State.zeroRange_keeps a n (List.Subset.refl _) (SameBut.refl _ s) .tmap (by decide)
@[simp] theorem State.zeroRange_tribs (s : State) (a : Nat) (n : Nat) : (s.zeroRange a n).tribs = s.tribs := State.zeroRange_keeps a n (List.Subset.refl _) (SameBut.refl _ s) .tribs (by decide)
@[simp] theorem State.zeroRange_tfrags (s : State) (a : Nat) (n : Nat) : (s.zeroRange a n).tfrags = s.tfrags := State.zeroRange_keeps a n (List.Subset.refl _) (SameBut.refl _ s) .tfrags (by decide)
@[simp] theorem State.zeroRange_rows (s : State) (a : Nat) (n : Nat) : (s.zeroRange a n).rows = s.rows := State.zeroRange_keeps a n (List.Subset.refl _) (SameBut.refl _ s) .rows (by decide)
@[simp] theorem State.zeroRange_ttest (s : State) (a : Nat) (n : Nat) : (s.zeroRange a n).ttest = s.ttest := State.zeroRange_keeps a n (List.Subset.refl _) (SameBut.refl _ s) .ttest (by decide)
@[simp] theorem State.zeroRange_act (s : State) (a : Nat) (n : Nat) : (s.zeroRange a n).act = s.act := State.zeroRange_keeps a n (List.Subset.refl _) (SameBut.refl _ s) .act (by decide)
@[simp] theorem State.zeroRange_upb (s : State) (a : Nat) (n : Nat) : (s.zeroRange a n).upb = s.upb := State.zeroRange_keeps a n (List.Subset.refl _) (SameBut.refl _ s) .upb (by decide)
@[simp] theorem State.zeroRange_restarts (s : State) (a : Nat) (n : Nat) : (s.zeroRange a n).restarts = s.restarts := State.zeroRange_keeps a n (List.Subset.refl _) (SameBut.refl _ s) .restarts (by decide)
@[simp] theorem State.zeroRange_gsm (s : State) (a : Nat) (n : Nat) : (s.zeroRange a n).gsm = s.gsm := State.zeroRange_keeps a n (List.Subset.refl _) (SameBut.refl _ s) .gsm (by decide)
@[simp] theorem State.zeroRange_txEff (s : State) (a : Nat) (n : Nat) : (s.zeroRange a n).txEff = s.txEff := State.zeroRange_keeps a n (List.Subset.refl _) (SameBut.refl _ s) .txEff (by decide)
@[simp] theorem State.zeroRange_pairs (s : State) (a : Nat) (n : Nat) : (s.zeroRange a n).pairs = s.pairs := State.zeroRange_keeps a n (List.Subset.refl _) (SameBut.refl _ s) .pairs (by decide)
@[simp] theorem State.zeroRange_key (s : State) (a : Nat) (n : Nat) : (s.zeroRange a n).key = s.key := State.zeroRange_keeps a n (List.Subset.refl _) (SameBut.refl _ s) .key (by decide)
@[simp] theorem State.zeroRange_pipes (s : State) (a : Nat) (n : Nat) : (s.zeroRange a n).pipes = s.pipes := State.zeroRange_keeps a n (List.Subset.refl _) (SameBut.refl _ s) .pipes (by decide)
@[simp] theorem State.zeroRange_epochs (s : State) (a : Nat) (n : Nat) : (s.zeroRange a n).epochs = s.epochs := State.zeroRange_keeps a n (List.Subset.refl _) (SameBut.refl _ s) .epochs (by decide)
@[simp] theorem State.zeroRange_prog (s : State) (a : Nat) (n : Nat) : (s.zeroRange a n).prog = s.prog := State.zeroRange_keeps a n (List.Subset.refl _) (SameBut.refl _ s) .prog (by decide)
@[simp] theorem State.zeroRange_rcnt (s : State) (a : Nat) (n : Nat) : (s.zeroRange a n).rcnt = s.rcnt := State.zeroRange_keeps a n (List.Subset.refl _) (SameBut.refl _ s) .rcnt (by decide)
@[simp] theorem State.zeroRange_rcntHeld (s : State) (a : Nat) (n : Nat) : (s.zeroRange a n).rcntHeld = s.rcntHeld := State.zeroRange_keeps a n (List.Subset.refl _) (SameBut.refl _ s) .rcntHeld (by decide)
@[simp] theorem State.zeroRange_excWait (s : State) (a : Nat) (n : Nat) : (s.zeroRange a n).excWait = s.excWait := State.zeroRange_keeps a n (List.Subset.refl _) (SameBut.refl _ s) .excWait (by decide)
@[simp] theorem State.zeroRange_bufs (s : State) (a : Nat) (n : Nat) : (s.zeroRange a n).bufs = s.bufs := State.zeroRange_keeps a n (List.Subset.refl _) (SameBut.refl _ s) .bufs (by decide)
@[simp] theorem State.zeroRange_bufRot (s : State) (a : Nat) (n : Nat) : (s.zeroRange a n).bufRot = s.bufRot := State.zeroRange_keeps a n (List.Subset.refl _) (SameBut.refl _ s) .bufRot (by decide)
@[simp] theorem State.zeroRange_qmap (s : State) (a : Nat) (n : Nat) : (s.zeroRange a n).qmap = s.qmap := State.zeroRange_keeps a n (List.Subset.refl _) (SameBut.refl _ s) .qmap (by decide)
@[simp] theorem State.zeroRange_memch (s : State) (a : Nat) (n : Nat) : (s.zeroRange a n).memch = s.memch := State.zeroRange_keeps a n (List.Subset.refl _) (SameBut.refl _ s) .memch (by decide)
@[simp] theorem State.zeroRange_ecc (s : State) (a : Nat) (n : Nat) : (s.zeroRange a n).ecc = s.ecc := State.zeroRange_keeps a n (List.Subset.refl _) (SameBut.refl _ s) .ecc (by decide)
@[simp] theorem State.zeroRange_mxe (s : State) (a : Nat) (n : Nat) : (s.zeroRange a n).mxe = s.mxe := State.zeroRange_keeps a n (List.Subset.refl _) (SameBut.refl _ s) .mxe (by decide)
@[simp] theorem State.zeroRange_queues (s : State) (a : Nat) (n : Nat) : (s.zeroRange a n).queues = s.queues := State.zeroRange_keeps a n (List.Subset.refl _) (SameBut.refl _ s) .queues (by decide)
@[simp] theorem State.zeroRange_turns (s : State) (a : Nat) (n : Nat) : (s.zeroRange a n).turns = s.turns := State.zeroRange_keeps a n (List.Subset.refl _) (SameBut.refl _ s) .turns (by decide)
@[simp] theorem State.zeroRange_elig (s : State) (a : Nat) (n : Nat) : (s.zeroRange a n).elig = s.elig := State.zeroRange_keeps a n (List.Subset.refl _) (SameBut.refl _ s) .elig (by decide)
@[simp] theorem State.zeroRange_shapers (s : State) (a : Nat) (n : Nat) : (s.zeroRange a n).shapers = s.shapers := State.zeroRange_keeps a n (List.Subset.refl _) (SameBut.refl _ s) .shapers (by decide)
@[simp] theorem State.zeroRange_policers (s : State) (a : Nat) (n : Nat) : (s.zeroRange a n).policers = s.policers := State.zeroRange_keeps a n (List.Subset.refl _) (SameBut.refl _ s) .policers (by decide)
@[simp] theorem State.zeroRange_gates (s : State) (a : Nat) (n : Nat) : (s.zeroRange a n).gates = s.gates := State.zeroRange_keeps a n (List.Subset.refl _) (SameBut.refl _ s) .gates (by decide)
@[simp] theorem State.zeroRange_gateBusy (s : State) (a : Nat) (n : Nat) : (s.zeroRange a n).gateBusy = s.gateBusy := State.zeroRange_keeps a n (List.Subset.refl _) (SameBut.refl _ s) .gateBusy (by decide)
@[simp] theorem State.zeroRange_lanes (s : State) (a : Nat) (n : Nat) : (s.zeroRange a n).lanes = s.lanes := State.zeroRange_keeps a n (List.Subset.refl _) (SameBut.refl _ s) .lanes (by decide)
@[simp] theorem State.zeroRange_lports (s : State) (a : Nat) (n : Nat) : (s.zeroRange a n).lports = s.lports := State.zeroRange_keeps a n (List.Subset.refl _) (SameBut.refl _ s) .lports (by decide)
@[simp] theorem State.zeroRange_mdio (s : State) (a : Nat) (n : Nat) : (s.zeroRange a n).mdio = s.mdio := State.zeroRange_keeps a n (List.Subset.refl _) (SameBut.refl _ s) .mdio (by decide)
@[simp] theorem State.zeroRange_tim (s : State) (a : Nat) (n : Nat) : (s.zeroRange a n).tim = s.tim := State.zeroRange_keeps a n (List.Subset.refl _) (SameBut.refl _ s) .tim (by decide)
@[simp] theorem State.zeroRange_evt (s : State) (a : Nat) (n : Nat) : (s.zeroRange a n).evt = s.evt := State.zeroRange_keeps a n (List.Subset.refl _) (SameBut.refl _ s) .evt (by decide)
@[simp] theorem State.zeroRange_log (s : State) (a : Nat) (n : Nat) : (s.zeroRange a n).log = s.log := State.zeroRange_keeps a n (List.Subset.refl _) (SameBut.refl _ s) .log (by decide)
@[simp] theorem State.zeroRange_tsk (s : State) (a : Nat) (n : Nat) : (s.zeroRange a n).tsk = s.tsk := State.zeroRange_keeps a n (List.Subset.refl _) (SameBut.refl _ s) .tsk (by decide)
@[simp] theorem State.zeroRange_cpu (s : State) (a : Nat) (n : Nat) : (s.zeroRange a n).cpu = s.cpu := State.zeroRange_keeps a n (List.Subset.refl _) (SameBut.refl _ s) .cpu (by decide)
@[simp] theorem State.zeroRange_pwr (s : State) (a : Nat) (n : Nat) : (s.zeroRange a n).pwr = s.pwr := State.zeroRange_keeps a n (List.Subset.refl _) (SameBut.refl _ s) .pwr (by decide)
@[simp] theorem State.zeroRange_rst (s : State) (a : Nat) (n : Nat) : (s.zeroRange a n).rst = s.rst := State.zeroRange_keeps a n (List.Subset.refl _) (SameBut.refl _ s) .rst (by decide)
@[simp] theorem State.zeroRange_sys (s : State) (a : Nat) (n : Nat) : (s.zeroRange a n).sys = s.sys := State.zeroRange_keeps a n (List.Subset.refl _) (SameBut.refl _ s) .sys (by decide)
@[simp] theorem State.zeroRange_hif (s : State) (a : Nat) (n : Nat) : (s.zeroRange a n).hif = s.hif := State.zeroRange_keeps a n (List.Subset.refl _) (SameBut.refl _ s) .hif (by decide)
@[simp] theorem State.zeroRange_pins (s : State) (a : Nat) (n : Nat) : (s.zeroRange a n).pins = s.pins := State.zeroRange_keeps a n (List.Subset.refl _) (SameBut.refl _ s) .pins (by decide)
@[simp] theorem State.zeroRange_clock (s : State) (a : Nat) (n : Nat) : (s.zeroRange a n).clock = s.clock := State.zeroRange_keeps a n (List.Subset.refl _) (SameBut.refl _ s) .clock (by decide)
@[simp] theorem State.zeroRange_timers (s : State) (a : Nat) (n : Nat) : (s.zeroRange a n).timers = s.timers := State.zeroRange_keeps a n (List.Subset.refl _) (SameBut.refl _ s) .timers (by decide)
@[simp] theorem State.zeroRange_pending (s : State) (a : Nat) (n : Nat) : (s.zeroRange a n).pending = s.pending := State.zeroRange_keeps a n (List.Subset.refl _) (SameBut.refl _ s) .pending (by decide)
@[simp] theorem State.zeroRange_dark (s : State) (a : Nat) (n : Nat) : (s.zeroRange a n).dark = s.dark := State.zeroRange_keeps a n (List.Subset.refl _) (SameBut.refl _ s) .dark (by decide)
@[simp] theorem State.zeroRange_resp (s : State) (a : Nat) (n : Nat) : (s.zeroRange a n).resp = s.resp := State.zeroRange_keeps a n (List.Subset.refl _) (SameBut.refl _ s) .resp (by decide)
@[simp] theorem State.zeroRange_out (s : State) (a : Nat) (n : Nat) : (s.zeroRange a n).out = s.out := State.zeroRange_keeps a n (List.Subset.refl _) (SameBut.refl _ s) .out (by decide)
@[simp] theorem State.zeroRange_fresh (s : State) (a : Nat) (n : Nat) : (s.zeroRange a n).fresh = s.fresh := State.zeroRange_keeps a n (List.Subset.refl _) (SameBut.refl _ s) .fresh (by decide)
@[simp] theorem State.zeroRange_rd (s : State) (a : Nat) (n : Nat) (k : Nat) : (s.zeroRange a n).rd k = s.rd k := State.rd_of_regs (State.zeroRange_regs s a n) k
@[simp] theorem State.zeroRange_fld (s : State) (a : Nat) (n : Nat) (g_ : Fld) : (s.zeroRange a n).fld g_ = s.fld g_ := State.fld_of_regs (State.zeroRange_regs s a n) g_
@[simp] theorem State.zeroRange_bit (s : State) (a : Nat) (n : Nat) (g_ : Fld) : (s.zeroRange a n).bit g_ = s.bit g_ := State.bit_of_regs (State.zeroRange_regs s a n) g_
@[simp] theorem State.zeroRange_running (s : State) (a : Nat) (n : Nat) (g_ : Nat) : (s.zeroRange a n).running g_ = s.running g_ := State.running_of_timers (State.zeroRange_timers s a n) g_
@[simp] theorem State.zeroRange_domOn (s : State) (a : Nat) (n : Nat) (g_ : Nat) : (s.zeroRange a n).domOn g_ = s.domOn g_ := State.domOn_of_pwr (State.zeroRange_pwr s a n) g_

/-! `State.setSlot` -/

@[simp] theorem State.setSlot_regs (s : State) (i : Fin 4) (x : Slot) : (s.setSlot i x).regs = s.regs := (rfl)
@[simp] theorem State.setSlot_shown (s : State) (i : Fin 4) (x : Slot) : (s.setSlot i x).shown = s.shown := (rfl)
@[simp] theorem State.setSlot_mirror (s : State) (i : Fin 4) (x : Slot) : (s.setSlot i x).mirror = s.mirror := (rfl)
@[simp] theorem State.setSlot_mem (s : State) (i : Fin 4) (x : Slot) : (s.setSlot i x).mem = s.mem := (rfl)
@[simp] theorem State.setSlot_seam (s : State) (i : Fin 4) (x : Slot) : (s.setSlot i x).seam = s.seam := (rfl)
@[simp] theorem State.setSlot_own (s : State) (i : Fin 4) (x : Slot) : (s.setSlot i x).own = s.own := (rfl)
@[simp] theorem State.setSlot_nextPkt (s : State) (i : Fin 4) (x : Slot) : (s.setSlot i x).nextPkt = s.nextPkt := (rfl)
@[simp] theorem State.setSlot_rx (s : State) (i : Fin 4) (x : Slot) : (s.setSlot i x).rx = s.rx := (rfl)
@[simp] theorem State.setSlot_dsf (s : State) (i : Fin 4) (x : Slot) : (s.setSlot i x).dsf = s.dsf := (rfl)
@[simp] theorem State.setSlot_tmap (s : State) (i : Fin 4) (x : Slot) : (s.setSlot i x).tmap = s.tmap := (rfl)
@[simp] theorem State.setSlot_tribs (s : State) (i : Fin 4) (x : Slot) : (s.setSlot i x).tribs = s.tribs := (rfl)
@[simp] theorem State.setSlot_tfrags (s : State) (i : Fin 4) (x : Slot) : (s.setSlot i x).tfrags = s.tfrags := (rfl)
@[simp] theorem State.setSlot_rows (s : State) (i : Fin 4) (x : Slot) : (s.setSlot i x).rows = s.rows := (rfl)
@[simp] theorem State.setSlot_ttest (s : State) (i : Fin 4) (x : Slot) : (s.setSlot i x).ttest = s.ttest := (rfl)
@[simp] theorem State.setSlot_act (s : State) (i : Fin 4) (x : Slot) : (s.setSlot i x).act = s.act := (rfl)
@[simp] theorem State.setSlot_upb (s : State) (i : Fin 4) (x : Slot) : (s.setSlot i x).upb = s.upb := (rfl)
@[simp] theorem State.setSlot_restarts (s : State) (i : Fin 4) (x : Slot) : (s.setSlot i x).restarts = s.restarts := (rfl)
@[simp] theorem State.setSlot_gsm (s : State) (i : Fin 4) (x : Slot) : (s.setSlot i x).gsm = s.gsm := (rfl)
@[simp] theorem State.setSlot_txEff (s : State) (i : Fin 4) (x : Slot) : (s.setSlot i x).txEff = s.txEff := (rfl)
@[simp] theorem State.setSlot_pairs (s : State) (i : Fin 4) (x : Slot) : (s.setSlot i x).pairs = s.pairs := (rfl)
@[simp] theorem State.setSlot_key (s : State) (i : Fin 4) (x : Slot) : (s.setSlot i x).key = s.key := (rfl)
@[simp] theorem State.setSlot_pipes (s : State) (i : Fin 4) (x : Slot) : (s.setSlot i x).pipes = s.pipes := (rfl)
@[simp] theorem State.setSlot_epochs (s : State) (i : Fin 4) (x : Slot) : (s.setSlot i x).epochs = s.epochs := (rfl)
@[simp] theorem State.setSlot_prog (s : State) (i : Fin 4) (x : Slot) : (s.setSlot i x).prog = s.prog := (rfl)
@[simp] theorem State.setSlot_rcnt (s : State) (i : Fin 4) (x : Slot) : (s.setSlot i x).rcnt = s.rcnt := (rfl)
@[simp] theorem State.setSlot_rcntHeld (s : State) (i : Fin 4) (x : Slot) : (s.setSlot i x).rcntHeld = s.rcntHeld := (rfl)
@[simp] theorem State.setSlot_excWait (s : State) (i : Fin 4) (x : Slot) : (s.setSlot i x).excWait = s.excWait := (rfl)
@[simp] theorem State.setSlot_bufs (s : State) (i : Fin 4) (x : Slot) : (s.setSlot i x).bufs = s.bufs := (rfl)
@[simp] theorem State.setSlot_bufRot (s : State) (i : Fin 4) (x : Slot) : (s.setSlot i x).bufRot = s.bufRot := (rfl)
@[simp] theorem State.setSlot_qmap (s : State) (i : Fin 4) (x : Slot) : (s.setSlot i x).qmap = s.qmap := (rfl)
@[simp] theorem State.setSlot_memch (s : State) (i : Fin 4) (x : Slot) : (s.setSlot i x).memch = s.memch := (rfl)
@[simp] theorem State.setSlot_ecc (s : State) (i : Fin 4) (x : Slot) : (s.setSlot i x).ecc = s.ecc := (rfl)
@[simp] theorem State.setSlot_mxe (s : State) (i : Fin 4) (x : Slot) : (s.setSlot i x).mxe = s.mxe := (rfl)
@[simp] theorem State.setSlot_queues (s : State) (i : Fin 4) (x : Slot) : (s.setSlot i x).queues = s.queues := (rfl)
@[simp] theorem State.setSlot_turns (s : State) (i : Fin 4) (x : Slot) : (s.setSlot i x).turns = s.turns := (rfl)
@[simp] theorem State.setSlot_elig (s : State) (i : Fin 4) (x : Slot) : (s.setSlot i x).elig = s.elig := (rfl)
@[simp] theorem State.setSlot_shapers (s : State) (i : Fin 4) (x : Slot) : (s.setSlot i x).shapers = s.shapers := (rfl)
@[simp] theorem State.setSlot_policers (s : State) (i : Fin 4) (x : Slot) : (s.setSlot i x).policers = s.policers := (rfl)
@[simp] theorem State.setSlot_gates (s : State) (i : Fin 4) (x : Slot) : (s.setSlot i x).gates = s.gates := (rfl)
@[simp] theorem State.setSlot_gateBusy (s : State) (i : Fin 4) (x : Slot) : (s.setSlot i x).gateBusy = s.gateBusy := (rfl)
@[simp] theorem State.setSlot_lanes (s : State) (i : Fin 4) (x : Slot) : (s.setSlot i x).lanes = s.lanes := (rfl)
@[simp] theorem State.setSlot_lports (s : State) (i : Fin 4) (x : Slot) : (s.setSlot i x).lports = s.lports := (rfl)
@[simp] theorem State.setSlot_mdio (s : State) (i : Fin 4) (x : Slot) : (s.setSlot i x).mdio = s.mdio := (rfl)
@[simp] theorem State.setSlot_tim (s : State) (i : Fin 4) (x : Slot) : (s.setSlot i x).tim = s.tim := (rfl)
@[simp] theorem State.setSlot_evt (s : State) (i : Fin 4) (x : Slot) : (s.setSlot i x).evt = s.evt := (rfl)
@[simp] theorem State.setSlot_log (s : State) (i : Fin 4) (x : Slot) : (s.setSlot i x).log = s.log := (rfl)
@[simp] theorem State.setSlot_tsk (s : State) (i : Fin 4) (x : Slot) : (s.setSlot i x).tsk = s.tsk := (rfl)
@[simp] theorem State.setSlot_cpu (s : State) (i : Fin 4) (x : Slot) : (s.setSlot i x).cpu = s.cpu := (rfl)
@[simp] theorem State.setSlot_pwr (s : State) (i : Fin 4) (x : Slot) : (s.setSlot i x).pwr = s.pwr := (rfl)
@[simp] theorem State.setSlot_rst (s : State) (i : Fin 4) (x : Slot) : (s.setSlot i x).rst = s.rst := (rfl)
@[simp] theorem State.setSlot_sys (s : State) (i : Fin 4) (x : Slot) : (s.setSlot i x).sys = s.sys := (rfl)
@[simp] theorem State.setSlot_hif (s : State) (i : Fin 4) (x : Slot) : (s.setSlot i x).hif = s.hif := (rfl)
@[simp] theorem State.setSlot_pins (s : State) (i : Fin 4) (x : Slot) : (s.setSlot i x).pins = s.pins := (rfl)
@[simp] theorem State.setSlot_clock (s : State) (i : Fin 4) (x : Slot) : (s.setSlot i x).clock = s.clock := (rfl)
@[simp] theorem State.setSlot_timers (s : State) (i : Fin 4) (x : Slot) : (s.setSlot i x).timers = s.timers := (rfl)
@[simp] theorem State.setSlot_pending (s : State) (i : Fin 4) (x : Slot) : (s.setSlot i x).pending = s.pending := (rfl)
@[simp] theorem State.setSlot_dark (s : State) (i : Fin 4) (x : Slot) : (s.setSlot i x).dark = s.dark := (rfl)
@[simp] theorem State.setSlot_resp (s : State) (i : Fin 4) (x : Slot) : (s.setSlot i x).resp = s.resp := (rfl)
@[simp] theorem State.setSlot_out (s : State) (i : Fin 4) (x : Slot) : (s.setSlot i x).out = s.out := (rfl)
@[simp] theorem State.setSlot_fresh (s : State) (i : Fin 4) (x : Slot) : (s.setSlot i x).fresh = s.fresh := (rfl)
@[simp] theorem State.setSlot_rd (s : State) (i : Fin 4) (x : Slot) (k : Nat) : (s.setSlot i x).rd k = s.rd k := State.rd_of_regs (State.setSlot_regs s i x) k
@[simp] theorem State.setSlot_fld (s : State) (i : Fin 4) (x : Slot) (g_ : Fld) : (s.setSlot i x).fld g_ = s.fld g_ := State.fld_of_regs (State.setSlot_regs s i x) g_
@[simp] theorem State.setSlot_bit (s : State) (i : Fin 4) (x : Slot) (g_ : Fld) : (s.setSlot i x).bit g_ = s.bit g_ := State.bit_of_regs (State.setSlot_regs s i x) g_
@[simp] theorem State.setSlot_running (s : State) (i : Fin 4) (x : Slot) (g_ : Nat) : (s.setSlot i x).running g_ = s.running g_ := State.running_of_timers (State.setSlot_timers s i x) g_
@[simp] theorem State.setSlot_domOn (s : State) (i : Fin 4) (x : Slot) (g_ : Nat) : (s.setSlot i x).domOn g_ = s.domOn g_ := State.domOn_of_pwr (State.setSlot_pwr s i x) g_

/-! `State.setHolder` -/

@[simp] theorem State.setHolder_regs (s : State) (a : BitVec 2) : (s.setHolder a).regs = s.regs := State.setHolder_keeps a (List.Subset.refl _) (SameBut.refl _ s) .regs (by decide)
@[simp] theorem State.setHolder_shown (s : State) (a : BitVec 2) : (s.setHolder a).shown = s.shown := State.setHolder_keeps a (List.Subset.refl _) (SameBut.refl _ s) .shown (by decide)
@[simp] theorem State.setHolder_mirror (s : State) (a : BitVec 2) : (s.setHolder a).mirror = s.mirror := State.setHolder_keeps a (List.Subset.refl _) (SameBut.refl _ s) .mirror (by decide)
@[simp] theorem State.setHolder_mem (s : State) (a : BitVec 2) : (s.setHolder a).mem = s.mem := State.setHolder_keeps a (List.Subset.refl _) (SameBut.refl _ s) .mem (by decide)
@[simp] theorem State.setHolder_seam (s : State) (a : BitVec 2) : (s.setHolder a).seam = s.seam := State.setHolder_keeps a (List.Subset.refl _) (SameBut.refl _ s) .seam (by decide)
@[simp] theorem State.setHolder_cmt (s : State) (a : BitVec 2) : (s.setHolder a).cmt = s.cmt := State.setHolder_keeps a (List.Subset.refl _) (SameBut.refl _ s) .cmt (by decide)
@[simp] theorem State.setHolder_nextPkt (s : State) (a : BitVec 2) : (s.setHolder a).nextPkt = s.nextPkt := State.setHolder_keeps a (List.Subset.refl _) (SameBut.refl _ s) .nextPkt (by decide)
@[simp] theorem State.setHolder_rx (s : State) (a : BitVec 2) : (s.setHolder a).rx = s.rx := State.setHolder_keeps a (List.Subset.refl _) (SameBut.refl _ s) .rx (by decide)
@[simp] theorem State.setHolder_dsf (s : State) (a : BitVec 2) : (s.setHolder a).dsf = s.dsf := State.setHolder_keeps a (List.Subset.refl _) (SameBut.refl _ s) .dsf (by decide)
@[simp] theorem State.setHolder_tmap (s : State) (a : BitVec 2) : (s.setHolder a).tmap = s.tmap := State.setHolder_keeps a (List.Subset.refl _) (SameBut.refl _ s) .tmap (by decide)
@[simp] theorem State.setHolder_tribs (s : State) (a : BitVec 2) : (s.setHolder a).tribs = s.tribs := State.setHolder_keeps a (List.Subset.refl _) (SameBut.refl _ s) .tribs (by decide)
@[simp] theorem State.setHolder_tfrags (s : State) (a : BitVec 2) : (s.setHolder a).tfrags = s.tfrags := State.setHolder_keeps a (List.Subset.refl _) (SameBut.refl _ s) .tfrags (by decide)
@[simp] theorem State.setHolder_rows (s : State) (a : BitVec 2) : (s.setHolder a).rows = s.rows := State.setHolder_keeps a (List.Subset.refl _) (SameBut.refl _ s) .rows (by decide)
@[simp] theorem State.setHolder_ttest (s : State) (a : BitVec 2) : (s.setHolder a).ttest = s.ttest := State.setHolder_keeps a (List.Subset.refl _) (SameBut.refl _ s) .ttest (by decide)
@[simp] theorem State.setHolder_act (s : State) (a : BitVec 2) : (s.setHolder a).act = s.act := State.setHolder_keeps a (List.Subset.refl _) (SameBut.refl _ s) .act (by decide)
@[simp] theorem State.setHolder_upb (s : State) (a : BitVec 2) : (s.setHolder a).upb = s.upb := State.setHolder_keeps a (List.Subset.refl _) (SameBut.refl _ s) .upb (by decide)
@[simp] theorem State.setHolder_restarts (s : State) (a : BitVec 2) : (s.setHolder a).restarts = s.restarts := State.setHolder_keeps a (List.Subset.refl _) (SameBut.refl _ s) .restarts (by decide)
@[simp] theorem State.setHolder_gsm (s : State) (a : BitVec 2) : (s.setHolder a).gsm = s.gsm := State.setHolder_keeps a (List.Subset.refl _) (SameBut.refl _ s) .gsm (by decide)
@[simp] theorem State.setHolder_txEff (s : State) (a : BitVec 2) : (s.setHolder a).txEff = s.txEff := State.setHolder_keeps a (List.Subset.refl _) (SameBut.refl _ s) .txEff (by decide)
@[simp] theorem State.setHolder_pairs (s : State) (a : BitVec 2) : (s.setHolder a).pairs = s.pairs := State.setHolder_keeps a (List.Subset.refl _) (SameBut.refl _ s) .pairs (by decide)
@[simp] theorem State.setHolder_key (s : State) (a : BitVec 2) : (s.setHolder a).key = s.key := State.setHolder_keeps a (List.Subset.refl _) (SameBut.refl _ s) .key (by decide)
@[simp] theorem State.setHolder_pipes (s : State) (a : BitVec 2) : (s.setHolder a).pipes = s.pipes := State.setHolder_keeps a (List.Subset.refl _) (SameBut.refl _ s) .pipes (by decide)
@[simp] theorem State.setHolder_epochs (s : State) (a : BitVec 2) : (s.setHolder a).epochs = s.epochs := State.setHolder_keeps a (List.Subset.refl _) (SameBut.refl _ s) .epochs (by decide)
@[simp] theorem State.setHolder_prog (s : State) (a : BitVec 2) : (s.setHolder a).prog = s.prog := State.setHolder_keeps a (List.Subset.refl _) (SameBut.refl _ s) .prog (by decide)
@[simp] theorem State.setHolder_rcnt (s : State) (a : BitVec 2) : (s.setHolder a).rcnt = s.rcnt := State.setHolder_keeps a (List.Subset.refl _) (SameBut.refl _ s) .rcnt (by decide)
@[simp] theorem State.setHolder_rcntHeld (s : State) (a : BitVec 2) : (s.setHolder a).rcntHeld = s.rcntHeld := State.setHolder_keeps a (List.Subset.refl _) (SameBut.refl _ s) .rcntHeld (by decide)
@[simp] theorem State.setHolder_excWait (s : State) (a : BitVec 2) : (s.setHolder a).excWait = s.excWait := State.setHolder_keeps a (List.Subset.refl _) (SameBut.refl _ s) .excWait (by decide)
@[simp] theorem State.setHolder_bufs (s : State) (a : BitVec 2) : (s.setHolder a).bufs = s.bufs := State.setHolder_keeps a (List.Subset.refl _) (SameBut.refl _ s) .bufs (by decide)
@[simp] theorem State.setHolder_bufRot (s : State) (a : BitVec 2) : (s.setHolder a).bufRot = s.bufRot := State.setHolder_keeps a (List.Subset.refl _) (SameBut.refl _ s) .bufRot (by decide)
@[simp] theorem State.setHolder_qmap (s : State) (a : BitVec 2) : (s.setHolder a).qmap = s.qmap := State.setHolder_keeps a (List.Subset.refl _) (SameBut.refl _ s) .qmap (by decide)
@[simp] theorem State.setHolder_memch (s : State) (a : BitVec 2) : (s.setHolder a).memch = s.memch := State.setHolder_keeps a (List.Subset.refl _) (SameBut.refl _ s) .memch (by decide)
@[simp] theorem State.setHolder_ecc (s : State) (a : BitVec 2) : (s.setHolder a).ecc = s.ecc := State.setHolder_keeps a (List.Subset.refl _) (SameBut.refl _ s) .ecc (by decide)
@[simp] theorem State.setHolder_mxe (s : State) (a : BitVec 2) : (s.setHolder a).mxe = s.mxe := State.setHolder_keeps a (List.Subset.refl _) (SameBut.refl _ s) .mxe (by decide)
@[simp] theorem State.setHolder_queues (s : State) (a : BitVec 2) : (s.setHolder a).queues = s.queues := State.setHolder_keeps a (List.Subset.refl _) (SameBut.refl _ s) .queues (by decide)
@[simp] theorem State.setHolder_turns (s : State) (a : BitVec 2) : (s.setHolder a).turns = s.turns := State.setHolder_keeps a (List.Subset.refl _) (SameBut.refl _ s) .turns (by decide)
@[simp] theorem State.setHolder_elig (s : State) (a : BitVec 2) : (s.setHolder a).elig = s.elig := State.setHolder_keeps a (List.Subset.refl _) (SameBut.refl _ s) .elig (by decide)
@[simp] theorem State.setHolder_shapers (s : State) (a : BitVec 2) : (s.setHolder a).shapers = s.shapers := State.setHolder_keeps a (List.Subset.refl _) (SameBut.refl _ s) .shapers (by decide)
@[simp] theorem State.setHolder_policers (s : State) (a : BitVec 2) : (s.setHolder a).policers = s.policers := State.setHolder_keeps a (List.Subset.refl _) (SameBut.refl _ s) .policers (by decide)
@[simp] theorem State.setHolder_gates (s : State) (a : BitVec 2) : (s.setHolder a).gates = s.gates := State.setHolder_keeps a (List.Subset.refl _) (SameBut.refl _ s) .gates (by decide)
@[simp] theorem State.setHolder_gateBusy (s : State) (a : BitVec 2) : (s.setHolder a).gateBusy = s.gateBusy := State.setHolder_keeps a (List.Subset.refl _) (SameBut.refl _ s) .gateBusy (by decide)
@[simp] theorem State.setHolder_lanes (s : State) (a : BitVec 2) : (s.setHolder a).lanes = s.lanes := State.setHolder_keeps a (List.Subset.refl _) (SameBut.refl _ s) .lanes (by decide)
@[simp] theorem State.setHolder_lports (s : State) (a : BitVec 2) : (s.setHolder a).lports = s.lports := State.setHolder_keeps a (List.Subset.refl _) (SameBut.refl _ s) .lports (by decide)
@[simp] theorem State.setHolder_mdio (s : State) (a : BitVec 2) : (s.setHolder a).mdio = s.mdio := State.setHolder_keeps a (List.Subset.refl _) (SameBut.refl _ s) .mdio (by decide)
@[simp] theorem State.setHolder_tim (s : State) (a : BitVec 2) : (s.setHolder a).tim = s.tim := State.setHolder_keeps a (List.Subset.refl _) (SameBut.refl _ s) .tim (by decide)
@[simp] theorem State.setHolder_evt (s : State) (a : BitVec 2) : (s.setHolder a).evt = s.evt := State.setHolder_keeps a (List.Subset.refl _) (SameBut.refl _ s) .evt (by decide)
@[simp] theorem State.setHolder_log (s : State) (a : BitVec 2) : (s.setHolder a).log = s.log := State.setHolder_keeps a (List.Subset.refl _) (SameBut.refl _ s) .log (by decide)
@[simp] theorem State.setHolder_tsk (s : State) (a : BitVec 2) : (s.setHolder a).tsk = s.tsk := State.setHolder_keeps a (List.Subset.refl _) (SameBut.refl _ s) .tsk (by decide)
@[simp] theorem State.setHolder_cpu (s : State) (a : BitVec 2) : (s.setHolder a).cpu = s.cpu := State.setHolder_keeps a (List.Subset.refl _) (SameBut.refl _ s) .cpu (by decide)
@[simp] theorem State.setHolder_pwr (s : State) (a : BitVec 2) : (s.setHolder a).pwr = s.pwr := State.setHolder_keeps a (List.Subset.refl _) (SameBut.refl _ s) .pwr (by decide)
@[simp] theorem State.setHolder_rst (s : State) (a : BitVec 2) : (s.setHolder a).rst = s.rst := State.setHolder_keeps a (List.Subset.refl _) (SameBut.refl _ s) .rst (by decide)
@[simp] theorem State.setHolder_sys (s : State) (a : BitVec 2) : (s.setHolder a).sys = s.sys := State.setHolder_keeps a (List.Subset.refl _) (SameBut.refl _ s) .sys (by decide)
@[simp] theorem State.setHolder_hif (s : State) (a : BitVec 2) : (s.setHolder a).hif = s.hif := State.setHolder_keeps a (List.Subset.refl _) (SameBut.refl _ s) .hif (by decide)
@[simp] theorem State.setHolder_pins (s : State) (a : BitVec 2) : (s.setHolder a).pins = s.pins := State.setHolder_keeps a (List.Subset.refl _) (SameBut.refl _ s) .pins (by decide)
@[simp] theorem State.setHolder_clock (s : State) (a : BitVec 2) : (s.setHolder a).clock = s.clock := State.setHolder_keeps a (List.Subset.refl _) (SameBut.refl _ s) .clock (by decide)
@[simp] theorem State.setHolder_pending (s : State) (a : BitVec 2) : (s.setHolder a).pending = s.pending := State.setHolder_keeps a (List.Subset.refl _) (SameBut.refl _ s) .pending (by decide)
@[simp] theorem State.setHolder_dark (s : State) (a : BitVec 2) : (s.setHolder a).dark = s.dark := State.setHolder_keeps a (List.Subset.refl _) (SameBut.refl _ s) .dark (by decide)
@[simp] theorem State.setHolder_resp (s : State) (a : BitVec 2) : (s.setHolder a).resp = s.resp := State.setHolder_keeps a (List.Subset.refl _) (SameBut.refl _ s) .resp (by decide)
@[simp] theorem State.setHolder_out (s : State) (a : BitVec 2) : (s.setHolder a).out = s.out := State.setHolder_keeps a (List.Subset.refl _) (SameBut.refl _ s) .out (by decide)
@[simp] theorem State.setHolder_fresh (s : State) (a : BitVec 2) : (s.setHolder a).fresh = s.fresh := State.setHolder_keeps a (List.Subset.refl _) (SameBut.refl _ s) .fresh (by decide)
@[simp] theorem State.setHolder_rd (s : State) (a : BitVec 2) (k : Nat) : (s.setHolder a).rd k = s.rd k := State.rd_of_regs (State.setHolder_regs s a) k
@[simp] theorem State.setHolder_fld (s : State) (a : BitVec 2) (g_ : Fld) : (s.setHolder a).fld g_ = s.fld g_ := State.fld_of_regs (State.setHolder_regs s a) g_
@[simp] theorem State.setHolder_bit (s : State) (a : BitVec 2) (g_ : Fld) : (s.setHolder a).bit g_ = s.bit g_ := State.bit_of_regs (State.setHolder_regs s a) g_
@[simp] theorem State.setHolder_domOn (s : State) (a : BitVec 2) (g_ : Nat) : (s.setHolder a).domOn g_ = s.domOn g_ := State.domOn_of_pwr (State.setHolder_pwr s a) g_

/-! `State.setBuf` -/

@[simp] theorem State.setBuf_regs (s : State) (key : Nat) (b : Buf) : (s.setBuf key b).regs = s.regs := (rfl)
@[simp] theorem State.setBuf_shown (s : State) (key : Nat) (b : Buf) : (s.setBuf key b).shown = s.shown := (rfl)
@[simp] theorem State.setBuf_mirror (s : State) (key : Nat) (b : Buf) : (s.setBuf key b).mirror = s.mirror := (rfl)
@[simp] theorem State.setBuf_mem (s : State) (key : Nat) (b : Buf) : (s.setBuf key b).mem = s.mem := (rfl)
@[simp] theorem State.setBuf_seam (s : State) (key : Nat) (b : Buf) : (s.setBuf key b).seam = s.seam := (rfl)
@[simp] theorem State.setBuf_cmt (s : State) (key : Nat) (b : Buf) : (s.setBuf key b).cmt = s.cmt := (rfl)
@[simp] theorem State.setBuf_own (s : State) (key : Nat) (b : Buf) : (s.setBuf key b).own = s.own := (rfl)
@[simp] theorem State.setBuf_nextPkt (s : State) (key : Nat) (b : Buf) : (s.setBuf key b).nextPkt = s.nextPkt := (rfl)
@[simp] theorem State.setBuf_rx (s : State) (key : Nat) (b : Buf) : (s.setBuf key b).rx = s.rx := (rfl)
@[simp] theorem State.setBuf_dsf (s : State) (key : Nat) (b : Buf) : (s.setBuf key b).dsf = s.dsf := (rfl)
@[simp] theorem State.setBuf_tmap (s : State) (key : Nat) (b : Buf) : (s.setBuf key b).tmap = s.tmap := (rfl)
@[simp] theorem State.setBuf_tribs (s : State) (key : Nat) (b : Buf) : (s.setBuf key b).tribs = s.tribs := (rfl)
@[simp] theorem State.setBuf_tfrags (s : State) (key : Nat) (b : Buf) : (s.setBuf key b).tfrags = s.tfrags := (rfl)
@[simp] theorem State.setBuf_rows (s : State) (key : Nat) (b : Buf) : (s.setBuf key b).rows = s.rows := (rfl)
@[simp] theorem State.setBuf_ttest (s : State) (key : Nat) (b : Buf) : (s.setBuf key b).ttest = s.ttest := (rfl)
@[simp] theorem State.setBuf_act (s : State) (key : Nat) (b : Buf) : (s.setBuf key b).act = s.act := (rfl)
@[simp] theorem State.setBuf_upb (s : State) (key : Nat) (b : Buf) : (s.setBuf key b).upb = s.upb := (rfl)
@[simp] theorem State.setBuf_restarts (s : State) (key : Nat) (b : Buf) : (s.setBuf key b).restarts = s.restarts := (rfl)
@[simp] theorem State.setBuf_gsm (s : State) (key : Nat) (b : Buf) : (s.setBuf key b).gsm = s.gsm := (rfl)
@[simp] theorem State.setBuf_txEff (s : State) (key : Nat) (b : Buf) : (s.setBuf key b).txEff = s.txEff := (rfl)
@[simp] theorem State.setBuf_pairs (s : State) (key : Nat) (b : Buf) : (s.setBuf key b).pairs = s.pairs := (rfl)
@[simp] theorem State.setBuf_key (s : State) (key : Nat) (b : Buf) : (s.setBuf key b).key = s.key := (rfl)
@[simp] theorem State.setBuf_pipes (s : State) (key : Nat) (b : Buf) : (s.setBuf key b).pipes = s.pipes := (rfl)
@[simp] theorem State.setBuf_epochs (s : State) (key : Nat) (b : Buf) : (s.setBuf key b).epochs = s.epochs := (rfl)
@[simp] theorem State.setBuf_prog (s : State) (key : Nat) (b : Buf) : (s.setBuf key b).prog = s.prog := (rfl)
@[simp] theorem State.setBuf_rcnt (s : State) (key : Nat) (b : Buf) : (s.setBuf key b).rcnt = s.rcnt := (rfl)
@[simp] theorem State.setBuf_rcntHeld (s : State) (key : Nat) (b : Buf) : (s.setBuf key b).rcntHeld = s.rcntHeld := (rfl)
@[simp] theorem State.setBuf_excWait (s : State) (key : Nat) (b : Buf) : (s.setBuf key b).excWait = s.excWait := (rfl)
@[simp] theorem State.setBuf_bufRot (s : State) (key : Nat) (b : Buf) : (s.setBuf key b).bufRot = s.bufRot := (rfl)
@[simp] theorem State.setBuf_qmap (s : State) (key : Nat) (b : Buf) : (s.setBuf key b).qmap = s.qmap := (rfl)
@[simp] theorem State.setBuf_memch (s : State) (key : Nat) (b : Buf) : (s.setBuf key b).memch = s.memch := (rfl)
@[simp] theorem State.setBuf_ecc (s : State) (key : Nat) (b : Buf) : (s.setBuf key b).ecc = s.ecc := (rfl)
@[simp] theorem State.setBuf_mxe (s : State) (key : Nat) (b : Buf) : (s.setBuf key b).mxe = s.mxe := (rfl)
@[simp] theorem State.setBuf_queues (s : State) (key : Nat) (b : Buf) : (s.setBuf key b).queues = s.queues := (rfl)
@[simp] theorem State.setBuf_turns (s : State) (key : Nat) (b : Buf) : (s.setBuf key b).turns = s.turns := (rfl)
@[simp] theorem State.setBuf_elig (s : State) (key : Nat) (b : Buf) : (s.setBuf key b).elig = s.elig := (rfl)
@[simp] theorem State.setBuf_shapers (s : State) (key : Nat) (b : Buf) : (s.setBuf key b).shapers = s.shapers := (rfl)
@[simp] theorem State.setBuf_policers (s : State) (key : Nat) (b : Buf) : (s.setBuf key b).policers = s.policers := (rfl)
@[simp] theorem State.setBuf_gates (s : State) (key : Nat) (b : Buf) : (s.setBuf key b).gates = s.gates := (rfl)
@[simp] theorem State.setBuf_gateBusy (s : State) (key : Nat) (b : Buf) : (s.setBuf key b).gateBusy = s.gateBusy := (rfl)
@[simp] theorem State.setBuf_lanes (s : State) (key : Nat) (b : Buf) : (s.setBuf key b).lanes = s.lanes := (rfl)
@[simp] theorem State.setBuf_lports (s : State) (key : Nat) (b : Buf) : (s.setBuf key b).lports = s.lports := (rfl)
@[simp] theorem State.setBuf_mdio (s : State) (key : Nat) (b : Buf) : (s.setBuf key b).mdio = s.mdio := (rfl)
@[simp] theorem State.setBuf_tim (s : State) (key : Nat) (b : Buf) : (s.setBuf key b).tim = s.tim := (rfl)
@[simp] theorem State.setBuf_evt (s : State) (key : Nat) (b : Buf) : (s.setBuf key b).evt = s.evt := (rfl)
@[simp] theorem State.setBuf_log (s : State) (key : Nat) (b : Buf) : (s.setBuf key b).log = s.log := (rfl)
@[simp] theorem State.setBuf_tsk (s : State) (key : Nat) (b : Buf) : (s.setBuf key b).tsk = s.tsk := (rfl)
@[simp] theorem State.setBuf_cpu (s : State) (key : Nat) (b : Buf) : (s.setBuf key b).cpu = s.cpu := (rfl)
@[simp] theorem State.setBuf_pwr (s : State) (key : Nat) (b : Buf) : (s.setBuf key b).pwr = s.pwr := (rfl)
@[simp] theorem State.setBuf_rst (s : State) (key : Nat) (b : Buf) : (s.setBuf key b).rst = s.rst := (rfl)
@[simp] theorem State.setBuf_sys (s : State) (key : Nat) (b : Buf) : (s.setBuf key b).sys = s.sys := (rfl)
@[simp] theorem State.setBuf_hif (s : State) (key : Nat) (b : Buf) : (s.setBuf key b).hif = s.hif := (rfl)
@[simp] theorem State.setBuf_pins (s : State) (key : Nat) (b : Buf) : (s.setBuf key b).pins = s.pins := (rfl)
@[simp] theorem State.setBuf_clock (s : State) (key : Nat) (b : Buf) : (s.setBuf key b).clock = s.clock := (rfl)
@[simp] theorem State.setBuf_timers (s : State) (key : Nat) (b : Buf) : (s.setBuf key b).timers = s.timers := (rfl)
@[simp] theorem State.setBuf_pending (s : State) (key : Nat) (b : Buf) : (s.setBuf key b).pending = s.pending := (rfl)
@[simp] theorem State.setBuf_dark (s : State) (key : Nat) (b : Buf) : (s.setBuf key b).dark = s.dark := (rfl)
@[simp] theorem State.setBuf_resp (s : State) (key : Nat) (b : Buf) : (s.setBuf key b).resp = s.resp := (rfl)
@[simp] theorem State.setBuf_out (s : State) (key : Nat) (b : Buf) : (s.setBuf key b).out = s.out := (rfl)
@[simp] theorem State.setBuf_fresh (s : State) (key : Nat) (b : Buf) : (s.setBuf key b).fresh = s.fresh := (rfl)
@[simp] theorem State.setBuf_rd (s : State) (key : Nat) (b : Buf) (k : Nat) : (s.setBuf key b).rd k = s.rd k := State.rd_of_regs (State.setBuf_regs s key b) k
@[simp] theorem State.setBuf_fld (s : State) (key : Nat) (b : Buf) (g_ : Fld) : (s.setBuf key b).fld g_ = s.fld g_ := State.fld_of_regs (State.setBuf_regs s key b) g_
@[simp] theorem State.setBuf_bit (s : State) (key : Nat) (b : Buf) (g_ : Fld) : (s.setBuf key b).bit g_ = s.bit g_ := State.bit_of_regs (State.setBuf_regs s key b) g_
@[simp] theorem State.setBuf_running (s : State) (key : Nat) (b : Buf) (g_ : Nat) : (s.setBuf key b).running g_ = s.running g_ := State.running_of_timers (State.setBuf_timers s key b) g_
@[simp] theorem State.setBuf_domOn (s : State) (key : Nat) (b : Buf) (g_ : Nat) : (s.setBuf key b).domOn g_ = s.domOn g_ := State.domOn_of_pwr (State.setBuf_pwr s key b) g_

/-! `State.setQueue` -/

@[simp] theorem State.setQueue_regs (s : State) (q : Nat) (ps : List Pkt) : (s.setQueue q ps).regs = s.regs := (rfl)
@[simp] theorem State.setQueue_shown (s : State) (q : Nat) (ps : List Pkt) : (s.setQueue q ps).shown = s.shown := (rfl)
@[simp] theorem State.setQueue_mirror (s : State) (q : Nat) (ps : List Pkt) : (s.setQueue q ps).mirror = s.mirror := (rfl)
@[simp] theorem State.setQueue_mem (s : State) (q : Nat) (ps : List Pkt) : (s.setQueue q ps).mem = s.mem := (rfl)
@[simp] theorem State.setQueue_seam (s : State) (q : Nat) (ps : List Pkt) : (s.setQueue q ps).seam = s.seam := (rfl)
@[simp] theorem State.setQueue_cmt (s : State) (q : Nat) (ps : List Pkt) : (s.setQueue q ps).cmt = s.cmt := (rfl)
@[simp] theorem State.setQueue_own (s : State) (q : Nat) (ps : List Pkt) : (s.setQueue q ps).own = s.own := (rfl)
@[simp] theorem State.setQueue_nextPkt (s : State) (q : Nat) (ps : List Pkt) : (s.setQueue q ps).nextPkt = s.nextPkt := (rfl)
@[simp] theorem State.setQueue_rx (s : State) (q : Nat) (ps : List Pkt) : (s.setQueue q ps).rx = s.rx := (rfl)
@[simp] theorem State.setQueue_dsf (s : State) (q : Nat) (ps : List Pkt) : (s.setQueue q ps).dsf = s.dsf := (rfl)
@[simp] theorem State.setQueue_tmap (s : State) (q : Nat) (ps : List Pkt) : (s.setQueue q ps).tmap = s.tmap := (rfl)
@[simp] theorem State.setQueue_tribs (s : State) (q : Nat) (ps : List Pkt) : (s.setQueue q ps).tribs = s.tribs := (rfl)
@[simp] theorem State.setQueue_tfrags (s : State) (q : Nat) (ps : List Pkt) : (s.setQueue q ps).tfrags = s.tfrags := (rfl)
@[simp] theorem State.setQueue_rows (s : State) (q : Nat) (ps : List Pkt) : (s.setQueue q ps).rows = s.rows := (rfl)
@[simp] theorem State.setQueue_ttest (s : State) (q : Nat) (ps : List Pkt) : (s.setQueue q ps).ttest = s.ttest := (rfl)
@[simp] theorem State.setQueue_act (s : State) (q : Nat) (ps : List Pkt) : (s.setQueue q ps).act = s.act := (rfl)
@[simp] theorem State.setQueue_upb (s : State) (q : Nat) (ps : List Pkt) : (s.setQueue q ps).upb = s.upb := (rfl)
@[simp] theorem State.setQueue_restarts (s : State) (q : Nat) (ps : List Pkt) : (s.setQueue q ps).restarts = s.restarts := (rfl)
@[simp] theorem State.setQueue_gsm (s : State) (q : Nat) (ps : List Pkt) : (s.setQueue q ps).gsm = s.gsm := (rfl)
@[simp] theorem State.setQueue_txEff (s : State) (q : Nat) (ps : List Pkt) : (s.setQueue q ps).txEff = s.txEff := (rfl)
@[simp] theorem State.setQueue_pairs (s : State) (q : Nat) (ps : List Pkt) : (s.setQueue q ps).pairs = s.pairs := (rfl)
@[simp] theorem State.setQueue_key (s : State) (q : Nat) (ps : List Pkt) : (s.setQueue q ps).key = s.key := (rfl)
@[simp] theorem State.setQueue_pipes (s : State) (q : Nat) (ps : List Pkt) : (s.setQueue q ps).pipes = s.pipes := (rfl)
@[simp] theorem State.setQueue_epochs (s : State) (q : Nat) (ps : List Pkt) : (s.setQueue q ps).epochs = s.epochs := (rfl)
@[simp] theorem State.setQueue_prog (s : State) (q : Nat) (ps : List Pkt) : (s.setQueue q ps).prog = s.prog := (rfl)
@[simp] theorem State.setQueue_rcnt (s : State) (q : Nat) (ps : List Pkt) : (s.setQueue q ps).rcnt = s.rcnt := (rfl)
@[simp] theorem State.setQueue_rcntHeld (s : State) (q : Nat) (ps : List Pkt) : (s.setQueue q ps).rcntHeld = s.rcntHeld := (rfl)
@[simp] theorem State.setQueue_excWait (s : State) (q : Nat) (ps : List Pkt) : (s.setQueue q ps).excWait = s.excWait := (rfl)
@[simp] theorem State.setQueue_bufs (s : State) (q : Nat) (ps : List Pkt) : (s.setQueue q ps).bufs = s.bufs := (rfl)
@[simp] theorem State.setQueue_bufRot (s : State) (q : Nat) (ps : List Pkt) : (s.setQueue q ps).bufRot = s.bufRot := (rfl)
@[simp] theorem State.setQueue_qmap (s : State) (q : Nat) (ps : List Pkt) : (s.setQueue q ps).qmap = s.qmap := (rfl)
@[simp] theorem State.setQueue_memch (s : State) (q : Nat) (ps : List Pkt) : (s.setQueue q ps).memch = s.memch := (rfl)
@[simp] theorem State.setQueue_ecc (s : State) (q : Nat) (ps : List Pkt) : (s.setQueue q ps).ecc = s.ecc := (rfl)
@[simp] theorem State.setQueue_mxe (s : State) (q : Nat) (ps : List Pkt) : (s.setQueue q ps).mxe = s.mxe := (rfl)
@[simp] theorem State.setQueue_turns (s : State) (q : Nat) (ps : List Pkt) : (s.setQueue q ps).turns = s.turns := (rfl)
@[simp] theorem State.setQueue_elig (s : State) (q : Nat) (ps : List Pkt) : (s.setQueue q ps).elig = s.elig := (rfl)
@[simp] theorem State.setQueue_shapers (s : State) (q : Nat) (ps : List Pkt) : (s.setQueue q ps).shapers = s.shapers := (rfl)
@[simp] theorem State.setQueue_policers (s : State) (q : Nat) (ps : List Pkt) : (s.setQueue q ps).policers = s.policers := (rfl)
@[simp] theorem State.setQueue_gates (s : State) (q : Nat) (ps : List Pkt) : (s.setQueue q ps).gates = s.gates := (rfl)
@[simp] theorem State.setQueue_gateBusy (s : State) (q : Nat) (ps : List Pkt) : (s.setQueue q ps).gateBusy = s.gateBusy := (rfl)
@[simp] theorem State.setQueue_lanes (s : State) (q : Nat) (ps : List Pkt) : (s.setQueue q ps).lanes = s.lanes := (rfl)
@[simp] theorem State.setQueue_lports (s : State) (q : Nat) (ps : List Pkt) : (s.setQueue q ps).lports = s.lports := (rfl)
@[simp] theorem State.setQueue_mdio (s : State) (q : Nat) (ps : List Pkt) : (s.setQueue q ps).mdio = s.mdio := (rfl)
@[simp] theorem State.setQueue_tim (s : State) (q : Nat) (ps : List Pkt) : (s.setQueue q ps).tim = s.tim := (rfl)
@[simp] theorem State.setQueue_evt (s : State) (q : Nat) (ps : List Pkt) : (s.setQueue q ps).evt = s.evt := (rfl)
@[simp] theorem State.setQueue_log (s : State) (q : Nat) (ps : List Pkt) : (s.setQueue q ps).log = s.log := (rfl)
@[simp] theorem State.setQueue_tsk (s : State) (q : Nat) (ps : List Pkt) : (s.setQueue q ps).tsk = s.tsk := (rfl)
@[simp] theorem State.setQueue_cpu (s : State) (q : Nat) (ps : List Pkt) : (s.setQueue q ps).cpu = s.cpu := (rfl)
@[simp] theorem State.setQueue_pwr (s : State) (q : Nat) (ps : List Pkt) : (s.setQueue q ps).pwr = s.pwr := (rfl)
@[simp] theorem State.setQueue_rst (s : State) (q : Nat) (ps : List Pkt) : (s.setQueue q ps).rst = s.rst := (rfl)
@[simp] theorem State.setQueue_sys (s : State) (q : Nat) (ps : List Pkt) : (s.setQueue q ps).sys = s.sys := (rfl)
@[simp] theorem State.setQueue_hif (s : State) (q : Nat) (ps : List Pkt) : (s.setQueue q ps).hif = s.hif := (rfl)
@[simp] theorem State.setQueue_pins (s : State) (q : Nat) (ps : List Pkt) : (s.setQueue q ps).pins = s.pins := (rfl)
@[simp] theorem State.setQueue_clock (s : State) (q : Nat) (ps : List Pkt) : (s.setQueue q ps).clock = s.clock := (rfl)
@[simp] theorem State.setQueue_timers (s : State) (q : Nat) (ps : List Pkt) : (s.setQueue q ps).timers = s.timers := (rfl)
@[simp] theorem State.setQueue_pending (s : State) (q : Nat) (ps : List Pkt) : (s.setQueue q ps).pending = s.pending := (rfl)
@[simp] theorem State.setQueue_dark (s : State) (q : Nat) (ps : List Pkt) : (s.setQueue q ps).dark = s.dark := (rfl)
@[simp] theorem State.setQueue_resp (s : State) (q : Nat) (ps : List Pkt) : (s.setQueue q ps).resp = s.resp := (rfl)
@[simp] theorem State.setQueue_out (s : State) (q : Nat) (ps : List Pkt) : (s.setQueue q ps).out = s.out := (rfl)
@[simp] theorem State.setQueue_fresh (s : State) (q : Nat) (ps : List Pkt) : (s.setQueue q ps).fresh = s.fresh := (rfl)
@[simp] theorem State.setQueue_rd (s : State) (q : Nat) (ps : List Pkt) (k : Nat) : (s.setQueue q ps).rd k = s.rd k := State.rd_of_regs (State.setQueue_regs s q ps) k
@[simp] theorem State.setQueue_fld (s : State) (q : Nat) (ps : List Pkt) (g_ : Fld) : (s.setQueue q ps).fld g_ = s.fld g_ := State.fld_of_regs (State.setQueue_regs s q ps) g_
@[simp] theorem State.setQueue_bit (s : State) (q : Nat) (ps : List Pkt) (g_ : Fld) : (s.setQueue q ps).bit g_ = s.bit g_ := State.bit_of_regs (State.setQueue_regs s q ps) g_
@[simp] theorem State.setQueue_running (s : State) (q : Nat) (ps : List Pkt) (g_ : Nat) : (s.setQueue q ps).running g_ = s.running g_ := State.running_of_timers (State.setQueue_timers s q ps) g_
@[simp] theorem State.setQueue_domOn (s : State) (q : Nat) (ps : List Pkt) (g_ : Nat) : (s.setQueue q ps).domOn g_ = s.domOn g_ := State.domOn_of_pwr (State.setQueue_pwr s q ps) g_

/-! `State.setTurn` -/

@[simp] theorem State.setTurn_regs (s : State) (sch : Nat) (pri : Nat) (t : Turn) : (s.setTurn sch pri t).regs = s.regs := (rfl)
@[simp] theorem State.setTurn_shown (s : State) (sch : Nat) (pri : Nat) (t : Turn) : (s.setTurn sch pri t).shown = s.shown := (rfl)
@[simp] theorem State.setTurn_mirror (s : State) (sch : Nat) (pri : Nat) (t : Turn) : (s.setTurn sch pri t).mirror = s.mirror := (rfl)
@[simp] theorem State.setTurn_mem (s : State) (sch : Nat) (pri : Nat) (t : Turn) : (s.setTurn sch pri t).mem = s.mem := (rfl)
@[simp] theorem State.setTurn_seam (s : State) (sch : Nat) (pri : Nat) (t : Turn) : (s.setTurn sch pri t).seam = s.seam := (rfl)
@[simp] theorem State.setTurn_cmt (s : State) (sch : Nat) (pri : Nat) (t : Turn) : (s.setTurn sch pri t).cmt = s.cmt := (rfl)
@[simp] theorem State.setTurn_own (s : State) (sch : Nat) (pri : Nat) (t : Turn) : (s.setTurn sch pri t).own = s.own := (rfl)
@[simp] theorem State.setTurn_nextPkt (s : State) (sch : Nat) (pri : Nat) (t : Turn) : (s.setTurn sch pri t).nextPkt = s.nextPkt := (rfl)
@[simp] theorem State.setTurn_rx (s : State) (sch : Nat) (pri : Nat) (t : Turn) : (s.setTurn sch pri t).rx = s.rx := (rfl)
@[simp] theorem State.setTurn_dsf (s : State) (sch : Nat) (pri : Nat) (t : Turn) : (s.setTurn sch pri t).dsf = s.dsf := (rfl)
@[simp] theorem State.setTurn_tmap (s : State) (sch : Nat) (pri : Nat) (t : Turn) : (s.setTurn sch pri t).tmap = s.tmap := (rfl)
@[simp] theorem State.setTurn_tribs (s : State) (sch : Nat) (pri : Nat) (t : Turn) : (s.setTurn sch pri t).tribs = s.tribs := (rfl)
@[simp] theorem State.setTurn_tfrags (s : State) (sch : Nat) (pri : Nat) (t : Turn) : (s.setTurn sch pri t).tfrags = s.tfrags := (rfl)
@[simp] theorem State.setTurn_rows (s : State) (sch : Nat) (pri : Nat) (t : Turn) : (s.setTurn sch pri t).rows = s.rows := (rfl)
@[simp] theorem State.setTurn_ttest (s : State) (sch : Nat) (pri : Nat) (t : Turn) : (s.setTurn sch pri t).ttest = s.ttest := (rfl)
@[simp] theorem State.setTurn_act (s : State) (sch : Nat) (pri : Nat) (t : Turn) : (s.setTurn sch pri t).act = s.act := (rfl)
@[simp] theorem State.setTurn_upb (s : State) (sch : Nat) (pri : Nat) (t : Turn) : (s.setTurn sch pri t).upb = s.upb := (rfl)
@[simp] theorem State.setTurn_restarts (s : State) (sch : Nat) (pri : Nat) (t : Turn) : (s.setTurn sch pri t).restarts = s.restarts := (rfl)
@[simp] theorem State.setTurn_gsm (s : State) (sch : Nat) (pri : Nat) (t : Turn) : (s.setTurn sch pri t).gsm = s.gsm := (rfl)
@[simp] theorem State.setTurn_txEff (s : State) (sch : Nat) (pri : Nat) (t : Turn) : (s.setTurn sch pri t).txEff = s.txEff := (rfl)
@[simp] theorem State.setTurn_pairs (s : State) (sch : Nat) (pri : Nat) (t : Turn) : (s.setTurn sch pri t).pairs = s.pairs := (rfl)
@[simp] theorem State.setTurn_key (s : State) (sch : Nat) (pri : Nat) (t : Turn) : (s.setTurn sch pri t).key = s.key := (rfl)
@[simp] theorem State.setTurn_pipes (s : State) (sch : Nat) (pri : Nat) (t : Turn) : (s.setTurn sch pri t).pipes = s.pipes := (rfl)
@[simp] theorem State.setTurn_epochs (s : State) (sch : Nat) (pri : Nat) (t : Turn) : (s.setTurn sch pri t).epochs = s.epochs := (rfl)
@[simp] theorem State.setTurn_prog (s : State) (sch : Nat) (pri : Nat) (t : Turn) : (s.setTurn sch pri t).prog = s.prog := (rfl)
@[simp] theorem State.setTurn_rcnt (s : State) (sch : Nat) (pri : Nat) (t : Turn) : (s.setTurn sch pri t).rcnt = s.rcnt := (rfl)
@[simp] theorem State.setTurn_rcntHeld (s : State) (sch : Nat) (pri : Nat) (t : Turn) : (s.setTurn sch pri t).rcntHeld = s.rcntHeld := (rfl)
@[simp] theorem State.setTurn_excWait (s : State) (sch : Nat) (pri : Nat) (t : Turn) : (s.setTurn sch pri t).excWait = s.excWait := (rfl)
@[simp] theorem State.setTurn_bufs (s : State) (sch : Nat) (pri : Nat) (t : Turn) : (s.setTurn sch pri t).bufs = s.bufs := (rfl)
@[simp] theorem State.setTurn_bufRot (s : State) (sch : Nat) (pri : Nat) (t : Turn) : (s.setTurn sch pri t).bufRot = s.bufRot := (rfl)
@[simp] theorem State.setTurn_qmap (s : State) (sch : Nat) (pri : Nat) (t : Turn) : (s.setTurn sch pri t).qmap = s.qmap := (rfl)
@[simp] theorem State.setTurn_memch (s : State) (sch : Nat) (pri : Nat) (t : Turn) : (s.setTurn sch pri t).memch = s.memch := (rfl)
@[simp] theorem State.setTurn_ecc (s : State) (sch : Nat) (pri : Nat) (t : Turn) : (s.setTurn sch pri t).ecc = s.ecc := (rfl)
@[simp] theorem State.setTurn_mxe (s : State) (sch : Nat) (pri : Nat) (t : Turn) : (s.setTurn sch pri t).mxe = s.mxe := (rfl)
@[simp] theorem State.setTurn_queues (s : State) (sch : Nat) (pri : Nat) (t : Turn) : (s.setTurn sch pri t).queues = s.queues := (rfl)
@[simp] theorem State.setTurn_elig (s : State) (sch : Nat) (pri : Nat) (t : Turn) : (s.setTurn sch pri t).elig = s.elig := (rfl)
@[simp] theorem State.setTurn_shapers (s : State) (sch : Nat) (pri : Nat) (t : Turn) : (s.setTurn sch pri t).shapers = s.shapers := (rfl)
@[simp] theorem State.setTurn_policers (s : State) (sch : Nat) (pri : Nat) (t : Turn) : (s.setTurn sch pri t).policers = s.policers := (rfl)
@[simp] theorem State.setTurn_gates (s : State) (sch : Nat) (pri : Nat) (t : Turn) : (s.setTurn sch pri t).gates = s.gates := (rfl)
@[simp] theorem State.setTurn_gateBusy (s : State) (sch : Nat) (pri : Nat) (t : Turn) : (s.setTurn sch pri t).gateBusy = s.gateBusy := (rfl)
@[simp] theorem State.setTurn_lanes (s : State) (sch : Nat) (pri : Nat) (t : Turn) : (s.setTurn sch pri t).lanes = s.lanes := (rfl)
@[simp] theorem State.setTurn_lports (s : State) (sch : Nat) (pri : Nat) (t : Turn) : (s.setTurn sch pri t).lports = s.lports := (rfl)
@[simp] theorem State.setTurn_mdio (s : State) (sch : Nat) (pri : Nat) (t : Turn) : (s.setTurn sch pri t).mdio = s.mdio := (rfl)
@[simp] theorem State.setTurn_tim (s : State) (sch : Nat) (pri : Nat) (t : Turn) : (s.setTurn sch pri t).tim = s.tim := (rfl)
@[simp] theorem State.setTurn_evt (s : State) (sch : Nat) (pri : Nat) (t : Turn) : (s.setTurn sch pri t).evt = s.evt := (rfl)
@[simp] theorem State.setTurn_log (s : State) (sch : Nat) (pri : Nat) (t : Turn) : (s.setTurn sch pri t).log = s.log := (rfl)
@[simp] theorem State.setTurn_tsk (s : State) (sch : Nat) (pri : Nat) (t : Turn) : (s.setTurn sch pri t).tsk = s.tsk := (rfl)
@[simp] theorem State.setTurn_cpu (s : State) (sch : Nat) (pri : Nat) (t : Turn) : (s.setTurn sch pri t).cpu = s.cpu := (rfl)
@[simp] theorem State.setTurn_pwr (s : State) (sch : Nat) (pri : Nat) (t : Turn) : (s.setTurn sch pri t).pwr = s.pwr := (rfl)
@[simp] theorem State.setTurn_rst (s : State) (sch : Nat) (pri : Nat) (t : Turn) : (s.setTurn sch pri t).rst = s.rst := (rfl)
@[simp] theorem State.setTurn_sys (s : State) (sch : Nat) (pri : Nat) (t : Turn) : (s.setTurn sch pri t).sys = s.sys := (rfl)
@[simp] theorem State.setTurn_hif (s : State) (sch : Nat) (pri : Nat) (t : Turn) : (s.setTurn sch pri t).hif = s.hif := (rfl)
@[simp] theorem State.setTurn_pins (s : State) (sch : Nat) (pri : Nat) (t : Turn) : (s.setTurn sch pri t).pins = s.pins := (rfl)
@[simp] theorem State.setTurn_clock (s : State) (sch : Nat) (pri : Nat) (t : Turn) : (s.setTurn sch pri t).clock = s.clock := (rfl)
@[simp] theorem State.setTurn_timers (s : State) (sch : Nat) (pri : Nat) (t : Turn) : (s.setTurn sch pri t).timers = s.timers := (rfl)
@[simp] theorem State.setTurn_pending (s : State) (sch : Nat) (pri : Nat) (t : Turn) : (s.setTurn sch pri t).pending = s.pending := (rfl)
@[simp] theorem State.setTurn_dark (s : State) (sch : Nat) (pri : Nat) (t : Turn) : (s.setTurn sch pri t).dark = s.dark := (rfl)
@[simp] theorem State.setTurn_resp (s : State) (sch : Nat) (pri : Nat) (t : Turn) : (s.setTurn sch pri t).resp = s.resp := (rfl)
@[simp] theorem State.setTurn_out (s : State) (sch : Nat) (pri : Nat) (t : Turn) : (s.setTurn sch pri t).out = s.out := (rfl)
@[simp] theorem State.setTurn_fresh (s : State) (sch : Nat) (pri : Nat) (t : Turn) : (s.setTurn sch pri t).fresh = s.fresh := (rfl)
@[simp] theorem State.setTurn_rd (s : State) (sch : Nat) (pri : Nat) (t : Turn) (k : Nat) : (s.setTurn sch pri t).rd k = s.rd k := State.rd_of_regs (State.setTurn_regs s sch pri t) k
@[simp] theorem State.setTurn_fld (s : State) (sch : Nat) (pri : Nat) (t : Turn) (g_ : Fld) : (s.setTurn sch pri t).fld g_ = s.fld g_ := State.fld_of_regs (State.setTurn_regs s sch pri t) g_
@[simp] theorem State.setTurn_bit (s : State) (sch : Nat) (pri : Nat) (t : Turn) (g_ : Fld) : (s.setTurn sch pri t).bit g_ = s.bit g_ := State.bit_of_regs (State.setTurn_regs s sch pri t) g_
@[simp] theorem State.setTurn_running (s : State) (sch : Nat) (pri : Nat) (t : Turn) (g_ : Nat) : (s.setTurn sch pri t).running g_ = s.running g_ := State.running_of_timers (State.setTurn_timers s sch pri t) g_
@[simp] theorem State.setTurn_domOn (s : State) (sch : Nat) (pri : Nat) (t : Turn) (g_ : Nat) : (s.setTurn sch pri t).domOn g_ = s.domOn g_ := State.domOn_of_pwr (State.setTurn_pwr s sch pri t) g_

/-! `State.setShaper` -/

@[simp] theorem State.setShaper_shown (s : State) (n : Nat) : (s.setShaper n).shown = s.shown := State.setShaper_keeps n (List.Subset.refl _) (SameBut.refl _ s) .shown (by decide)
@[simp] theorem State.setShaper_mirror (s : State) (n : Nat) : (s.setShaper n).mirror = s.mirror := State.setShaper_keeps n (List.Subset.refl _) (SameBut.refl _ s) .mirror (by decide)
@[simp] theorem State.setShaper_mem (s : State) (n : Nat) : (s.setShaper n).mem = s.mem := State.setShaper_keeps n (List.Subset.refl _) (SameBut.refl _ s) .mem (by decide)
@[simp] theorem State.setShaper_seam (s : State) (n : Nat) : (s.setShaper n).seam = s.seam := State.setShaper_keeps n (List.Subset.refl _) (SameBut.refl _ s) .seam (by decide)
@[simp] theorem State.setShaper_cmt (s : State) (n : Nat) : (s.setShaper n).cmt = s.cmt := State.setShaper_keeps n (List.Subset.refl _) (SameBut.refl _ s) .cmt (by decide)
@[simp] theorem State.setShaper_own (s : State) (n : Nat) : (s.setShaper n).own = s.own := State.setShaper_keeps n (List.Subset.refl _) (SameBut.refl _ s) .own (by decide)
@[simp] theorem State.setShaper_nextPkt (s : State) (n : Nat) : (s.setShaper n).nextPkt = s.nextPkt := State.setShaper_keeps n (List.Subset.refl _) (SameBut.refl _ s) .nextPkt (by decide)
@[simp] theorem State.setShaper_rx (s : State) (n : Nat) : (s.setShaper n).rx = s.rx := State.setShaper_keeps n (List.Subset.refl _) (SameBut.refl _ s) .rx (by decide)
@[simp] theorem State.setShaper_dsf (s : State) (n : Nat) : (s.setShaper n).dsf = s.dsf := State.setShaper_keeps n (List.Subset.refl _) (SameBut.refl _ s) .dsf (by decide)
@[simp] theorem State.setShaper_tmap (s : State) (n : Nat) : (s.setShaper n).tmap = s.tmap := State.setShaper_keeps n (List.Subset.refl _) (SameBut.refl _ s) .tmap (by decide)
@[simp] theorem State.setShaper_tribs (s : State) (n : Nat) : (s.setShaper n).tribs = s.tribs := State.setShaper_keeps n (List.Subset.refl _) (SameBut.refl _ s) .tribs (by decide)
@[simp] theorem State.setShaper_tfrags (s : State) (n : Nat) : (s.setShaper n).tfrags = s.tfrags := State.setShaper_keeps n (List.Subset.refl _) (SameBut.refl _ s) .tfrags (by decide)
@[simp] theorem State.setShaper_rows (s : State) (n : Nat) : (s.setShaper n).rows = s.rows := State.setShaper_keeps n (List.Subset.refl _) (SameBut.refl _ s) .rows (by decide)
@[simp] theorem State.setShaper_ttest (s : State) (n : Nat) : (s.setShaper n).ttest = s.ttest := State.setShaper_keeps n (List.Subset.refl _) (SameBut.refl _ s) .ttest (by decide)
@[simp] theorem State.setShaper_act (s : State) (n : Nat) : (s.setShaper n).act = s.act := State.setShaper_keeps n (List.Subset.refl _) (SameBut.refl _ s) .act (by decide)
@[simp] theorem State.setShaper_upb (s : State) (n : Nat) : (s.setShaper n).upb = s.upb := State.setShaper_keeps n (List.Subset.refl _) (SameBut.refl _ s) .upb (by decide)
@[simp] theorem State.setShaper_restarts (s : State) (n : Nat) : (s.setShaper n).restarts = s.restarts := State.setShaper_keeps n (List.Subset.refl _) (SameBut.refl _ s) .restarts (by decide)
@[simp] theorem State.setShaper_gsm (s : State) (n : Nat) : (s.setShaper n).gsm = s.gsm := State.setShaper_keeps n (List.Subset.refl _) (SameBut.refl _ s) .gsm (by decide)
@[simp] theorem State.setShaper_txEff (s : State) (n : Nat) : (s.setShaper n).txEff = s.txEff := State.setShaper_keeps n (List.Subset.refl _) (SameBut.refl _ s) .txEff (by decide)
@[simp] theorem State.setShaper_pairs (s : State) (n : Nat) : (s.setShaper n).pairs = s.pairs := State.setShaper_keeps n (List.Subset.refl _) (SameBut.refl _ s) .pairs (by decide)
@[simp] theorem State.setShaper_key (s : State) (n : Nat) : (s.setShaper n).key = s.key := State.setShaper_keeps n (List.Subset.refl _) (SameBut.refl _ s) .key (by decide)
@[simp] theorem State.setShaper_pipes (s : State) (n : Nat) : (s.setShaper n).pipes = s.pipes := State.setShaper_keeps n (List.Subset.refl _) (SameBut.refl _ s) .pipes (by decide)
@[simp] theorem State.setShaper_epochs (s : State) (n : Nat) : (s.setShaper n).epochs = s.epochs := State.setShaper_keeps n (List.Subset.refl _) (SameBut.refl _ s) .epochs (by decide)
@[simp] theorem State.setShaper_prog (s : State) (n : Nat) : (s.setShaper n).prog = s.prog := State.setShaper_keeps n (List.Subset.refl _) (SameBut.refl _ s) .prog (by decide)
@[simp] theorem State.setShaper_rcnt (s : State) (n : Nat) : (s.setShaper n).rcnt = s.rcnt := State.setShaper_keeps n (List.Subset.refl _) (SameBut.refl _ s) .rcnt (by decide)
@[simp] theorem State.setShaper_rcntHeld (s : State) (n : Nat) : (s.setShaper n).rcntHeld = s.rcntHeld := State.setShaper_keeps n (List.Subset.refl _) (SameBut.refl _ s) .rcntHeld (by decide)
@[simp] theorem State.setShaper_excWait (s : State) (n : Nat) : (s.setShaper n).excWait = s.excWait := State.setShaper_keeps n (List.Subset.refl _) (SameBut.refl _ s) .excWait (by decide)
@[simp] theorem State.setShaper_bufs (s : State) (n : Nat) : (s.setShaper n).bufs = s.bufs := State.setShaper_keeps n (List.Subset.refl _) (SameBut.refl _ s) .bufs (by decide)
@[simp] theorem State.setShaper_bufRot (s : State) (n : Nat) : (s.setShaper n).bufRot = s.bufRot := State.setShaper_keeps n (List.Subset.refl _) (SameBut.refl _ s) .bufRot (by decide)
@[simp] theorem State.setShaper_qmap (s : State) (n : Nat) : (s.setShaper n).qmap = s.qmap := State.setShaper_keeps n (List.Subset.refl _) (SameBut.refl _ s) .qmap (by decide)
@[simp] theorem State.setShaper_memch (s : State) (n : Nat) : (s.setShaper n).memch = s.memch := State.setShaper_keeps n (List.Subset.refl _) (SameBut.refl _ s) .memch (by decide)
@[simp] theorem State.setShaper_ecc (s : State) (n : Nat) : (s.setShaper n).ecc = s.ecc := State.setShaper_keeps n (List.Subset.refl _) (SameBut.refl _ s) .ecc (by decide)
@[simp] theorem State.setShaper_mxe (s : State) (n : Nat) : (s.setShaper n).mxe = s.mxe := State.setShaper_keeps n (List.Subset.refl _) (SameBut.refl _ s) .mxe (by decide)
@[simp] theorem State.setShaper_queues (s : State) (n : Nat) : (s.setShaper n).queues = s.queues := State.setShaper_keeps n (List.Subset.refl _) (SameBut.refl _ s) .queues (by decide)
@[simp] theorem State.setShaper_turns (s : State) (n : Nat) : (s.setShaper n).turns = s.turns := State.setShaper_keeps n (List.Subset.refl _) (SameBut.refl _ s) .turns (by decide)
@[simp] theorem State.setShaper_elig (s : State) (n : Nat) : (s.setShaper n).elig = s.elig := State.setShaper_keeps n (List.Subset.refl _) (SameBut.refl _ s) .elig (by decide)
@[simp] theorem State.setShaper_policers (s : State) (n : Nat) : (s.setShaper n).policers = s.policers := State.setShaper_keeps n (List.Subset.refl _) (SameBut.refl _ s) .policers (by decide)
@[simp] theorem State.setShaper_gates (s : State) (n : Nat) : (s.setShaper n).gates = s.gates := State.setShaper_keeps n (List.Subset.refl _) (SameBut.refl _ s) .gates (by decide)
@[simp] theorem State.setShaper_gateBusy (s : State) (n : Nat) : (s.setShaper n).gateBusy = s.gateBusy := State.setShaper_keeps n (List.Subset.refl _) (SameBut.refl _ s) .gateBusy (by decide)
@[simp] theorem State.setShaper_lanes (s : State) (n : Nat) : (s.setShaper n).lanes = s.lanes := State.setShaper_keeps n (List.Subset.refl _) (SameBut.refl _ s) .lanes (by decide)
@[simp] theorem State.setShaper_lports (s : State) (n : Nat) : (s.setShaper n).lports = s.lports := State.setShaper_keeps n (List.Subset.refl _) (SameBut.refl _ s) .lports (by decide)
@[simp] theorem State.setShaper_mdio (s : State) (n : Nat) : (s.setShaper n).mdio = s.mdio := State.setShaper_keeps n (List.Subset.refl _) (SameBut.refl _ s) .mdio (by decide)
@[simp] theorem State.setShaper_tim (s : State) (n : Nat) : (s.setShaper n).tim = s.tim := State.setShaper_keeps n (List.Subset.refl _) (SameBut.refl _ s) .tim (by decide)
@[simp] theorem State.setShaper_evt (s : State) (n : Nat) : (s.setShaper n).evt = s.evt := State.setShaper_keeps n (List.Subset.refl _) (SameBut.refl _ s) .evt (by decide)
@[simp] theorem State.setShaper_log (s : State) (n : Nat) : (s.setShaper n).log = s.log := State.setShaper_keeps n (List.Subset.refl _) (SameBut.refl _ s) .log (by decide)
@[simp] theorem State.setShaper_tsk (s : State) (n : Nat) : (s.setShaper n).tsk = s.tsk := State.setShaper_keeps n (List.Subset.refl _) (SameBut.refl _ s) .tsk (by decide)
@[simp] theorem State.setShaper_cpu (s : State) (n : Nat) : (s.setShaper n).cpu = s.cpu := State.setShaper_keeps n (List.Subset.refl _) (SameBut.refl _ s) .cpu (by decide)
@[simp] theorem State.setShaper_pwr (s : State) (n : Nat) : (s.setShaper n).pwr = s.pwr := State.setShaper_keeps n (List.Subset.refl _) (SameBut.refl _ s) .pwr (by decide)
@[simp] theorem State.setShaper_rst (s : State) (n : Nat) : (s.setShaper n).rst = s.rst := State.setShaper_keeps n (List.Subset.refl _) (SameBut.refl _ s) .rst (by decide)
@[simp] theorem State.setShaper_sys (s : State) (n : Nat) : (s.setShaper n).sys = s.sys := State.setShaper_keeps n (List.Subset.refl _) (SameBut.refl _ s) .sys (by decide)
@[simp] theorem State.setShaper_hif (s : State) (n : Nat) : (s.setShaper n).hif = s.hif := State.setShaper_keeps n (List.Subset.refl _) (SameBut.refl _ s) .hif (by decide)
@[simp] theorem State.setShaper_pins (s : State) (n : Nat) : (s.setShaper n).pins = s.pins := State.setShaper_keeps n (List.Subset.refl _) (SameBut.refl _ s) .pins (by decide)
@[simp] theorem State.setShaper_clock (s : State) (n : Nat) : (s.setShaper n).clock = s.clock := State.setShaper_keeps n (List.Subset.refl _) (SameBut.refl _ s) .clock (by decide)
@[simp] theorem State.setShaper_timers (s : State) (n : Nat) : (s.setShaper n).timers = s.timers := State.setShaper_keeps n (List.Subset.refl _) (SameBut.refl _ s) .timers (by decide)
@[simp] theorem State.setShaper_pending (s : State) (n : Nat) : (s.setShaper n).pending = s.pending := State.setShaper_keeps n (List.Subset.refl _) (SameBut.refl _ s) .pending (by decide)
@[simp] theorem State.setShaper_dark (s : State) (n : Nat) : (s.setShaper n).dark = s.dark := State.setShaper_keeps n (List.Subset.refl _) (SameBut.refl _ s) .dark (by decide)
@[simp] theorem State.setShaper_resp (s : State) (n : Nat) : (s.setShaper n).resp = s.resp := State.setShaper_keeps n (List.Subset.refl _) (SameBut.refl _ s) .resp (by decide)
@[simp] theorem State.setShaper_out (s : State) (n : Nat) : (s.setShaper n).out = s.out := State.setShaper_keeps n (List.Subset.refl _) (SameBut.refl _ s) .out (by decide)
@[simp] theorem State.setShaper_fresh (s : State) (n : Nat) : (s.setShaper n).fresh = s.fresh := State.setShaper_keeps n (List.Subset.refl _) (SameBut.refl _ s) .fresh (by decide)
@[simp] theorem State.setShaper_running (s : State) (n : Nat) (g_ : Nat) : (s.setShaper n).running g_ = s.running g_ := State.running_of_timers (State.setShaper_timers s n) g_
@[simp] theorem State.setShaper_domOn (s : State) (n : Nat) (g_ : Nat) : (s.setShaper n).domOn g_ = s.domOn g_ := State.domOn_of_pwr (State.setShaper_pwr s n) g_

/-! `State.setPolicer` -/

@[simp] theorem State.setPolicer_regs (s : State) (n : Nat) (cfg : Word) : (s.setPolicer n cfg).regs = s.regs := State.setPolicer_keeps n cfg (List.Subset.refl _) (SameBut.refl _ s) .regs (by decide)
@[simp] theorem State.setPolicer_shown (s : State) (n : Nat) (cfg : Word) : (s.setPolicer n cfg).shown = s.shown := State.setPolicer_keeps n cfg (List.Subset.refl _) (SameBut.refl _ s) .shown (by decide)
@[simp] theorem State.setPolicer_mirror (s : State) (n : Nat) (cfg : Word) : (s.setPolicer n cfg).mirror = s.mirror := State.setPolicer_keeps n cfg (List.Subset.refl _) (SameBut.refl _ s) .mirror (by decide)
@[simp] theorem State.setPolicer_mem (s : State) (n : Nat) (cfg : Word) : (s.setPolicer n cfg).mem = s.mem := State.setPolicer_keeps n cfg (List.Subset.refl _) (SameBut.refl _ s) .mem (by decide)
@[simp] theorem State.setPolicer_seam (s : State) (n : Nat) (cfg : Word) : (s.setPolicer n cfg).seam = s.seam := State.setPolicer_keeps n cfg (List.Subset.refl _) (SameBut.refl _ s) .seam (by decide)
@[simp] theorem State.setPolicer_cmt (s : State) (n : Nat) (cfg : Word) : (s.setPolicer n cfg).cmt = s.cmt := State.setPolicer_keeps n cfg (List.Subset.refl _) (SameBut.refl _ s) .cmt (by decide)
@[simp] theorem State.setPolicer_own (s : State) (n : Nat) (cfg : Word) : (s.setPolicer n cfg).own = s.own := State.setPolicer_keeps n cfg (List.Subset.refl _) (SameBut.refl _ s) .own (by decide)
@[simp] theorem State.setPolicer_nextPkt (s : State) (n : Nat) (cfg : Word) : (s.setPolicer n cfg).nextPkt = s.nextPkt := State.setPolicer_keeps n cfg (List.Subset.refl _) (SameBut.refl _ s) .nextPkt (by decide)
@[simp] theorem State.setPolicer_rx (s : State) (n : Nat) (cfg : Word) : (s.setPolicer n cfg).rx = s.rx := State.setPolicer_keeps n cfg (List.Subset.refl _) (SameBut.refl _ s) .rx (by decide)
@[simp] theorem State.setPolicer_dsf (s : State) (n : Nat) (cfg : Word) : (s.setPolicer n cfg).dsf = s.dsf := State.setPolicer_keeps n cfg (List.Subset.refl _) (SameBut.refl _ s) .dsf (by decide)
@[simp] theorem State.setPolicer_tmap (s : State) (n : Nat) (cfg : Word) : (s.setPolicer n cfg).tmap = s.tmap := State.setPolicer_keeps n cfg (List.Subset.refl _) (SameBut.refl _ s) .tmap (by decide)
@[simp] theorem State.setPolicer_tribs (s : State) (n : Nat) (cfg : Word) : (s.setPolicer n cfg).tribs = s.tribs := State.setPolicer_keeps n cfg (List.Subset.refl _) (SameBut.refl _ s) .tribs (by decide)
@[simp] theorem State.setPolicer_tfrags (s : State) (n : Nat) (cfg : Word) : (s.setPolicer n cfg).tfrags = s.tfrags := State.setPolicer_keeps n cfg (List.Subset.refl _) (SameBut.refl _ s) .tfrags (by decide)
@[simp] theorem State.setPolicer_rows (s : State) (n : Nat) (cfg : Word) : (s.setPolicer n cfg).rows = s.rows := State.setPolicer_keeps n cfg (List.Subset.refl _) (SameBut.refl _ s) .rows (by decide)
@[simp] theorem State.setPolicer_ttest (s : State) (n : Nat) (cfg : Word) : (s.setPolicer n cfg).ttest = s.ttest := State.setPolicer_keeps n cfg (List.Subset.refl _) (SameBut.refl _ s) .ttest (by decide)
@[simp] theorem State.setPolicer_act (s : State) (n : Nat) (cfg : Word) : (s.setPolicer n cfg).act = s.act := State.setPolicer_keeps n cfg (List.Subset.refl _) (SameBut.refl _ s) .act (by decide)
@[simp] theorem State.setPolicer_upb (s : State) (n : Nat) (cfg : Word) : (s.setPolicer n cfg).upb = s.upb := State.setPolicer_keeps n cfg (List.Subset.refl _) (SameBut.refl _ s) .upb (by decide)
@[simp] theorem State.setPolicer_restarts (s : State) (n : Nat) (cfg : Word) : (s.setPolicer n cfg).restarts = s.restarts := State.setPolicer_keeps n cfg (List.Subset.refl _) (SameBut.refl _ s) .restarts (by decide)
@[simp] theorem State.setPolicer_gsm (s : State) (n : Nat) (cfg : Word) : (s.setPolicer n cfg).gsm = s.gsm := State.setPolicer_keeps n cfg (List.Subset.refl _) (SameBut.refl _ s) .gsm (by decide)
@[simp] theorem State.setPolicer_txEff (s : State) (n : Nat) (cfg : Word) : (s.setPolicer n cfg).txEff = s.txEff := State.setPolicer_keeps n cfg (List.Subset.refl _) (SameBut.refl _ s) .txEff (by decide)
@[simp] theorem State.setPolicer_pairs (s : State) (n : Nat) (cfg : Word) : (s.setPolicer n cfg).pairs = s.pairs := State.setPolicer_keeps n cfg (List.Subset.refl _) (SameBut.refl _ s) .pairs (by decide)
@[simp] theorem State.setPolicer_key (s : State) (n : Nat) (cfg : Word) : (s.setPolicer n cfg).key = s.key := State.setPolicer_keeps n cfg (List.Subset.refl _) (SameBut.refl _ s) .key (by decide)
@[simp] theorem State.setPolicer_pipes (s : State) (n : Nat) (cfg : Word) : (s.setPolicer n cfg).pipes = s.pipes := State.setPolicer_keeps n cfg (List.Subset.refl _) (SameBut.refl _ s) .pipes (by decide)
@[simp] theorem State.setPolicer_epochs (s : State) (n : Nat) (cfg : Word) : (s.setPolicer n cfg).epochs = s.epochs := State.setPolicer_keeps n cfg (List.Subset.refl _) (SameBut.refl _ s) .epochs (by decide)
@[simp] theorem State.setPolicer_prog (s : State) (n : Nat) (cfg : Word) : (s.setPolicer n cfg).prog = s.prog := State.setPolicer_keeps n cfg (List.Subset.refl _) (SameBut.refl _ s) .prog (by decide)
@[simp] theorem State.setPolicer_rcnt (s : State) (n : Nat) (cfg : Word) : (s.setPolicer n cfg).rcnt = s.rcnt := State.setPolicer_keeps n cfg (List.Subset.refl _) (SameBut.refl _ s) .rcnt (by decide)
@[simp] theorem State.setPolicer_rcntHeld (s : State) (n : Nat) (cfg : Word) : (s.setPolicer n cfg).rcntHeld = s.rcntHeld := State.setPolicer_keeps n cfg (List.Subset.refl _) (SameBut.refl _ s) .rcntHeld (by decide)
@[simp] theorem State.setPolicer_excWait (s : State) (n : Nat) (cfg : Word) : (s.setPolicer n cfg).excWait = s.excWait := State.setPolicer_keeps n cfg (List.Subset.refl _) (SameBut.refl _ s) .excWait (by decide)
@[simp] theorem State.setPolicer_bufs (s : State) (n : Nat) (cfg : Word) : (s.setPolicer n cfg).bufs = s.bufs := State.setPolicer_keeps n cfg (List.Subset.refl _) (SameBut.refl _ s) .bufs (by decide)
@[simp] theorem State.setPolicer_bufRot (s : State) (n : Nat) (cfg : Word) : (s.setPolicer n cfg).bufRot = s.bufRot := State.setPolicer_keeps n cfg (List.Subset.refl _) (SameBut.refl _ s) .bufRot (by decide)
@[simp] theorem State.setPolicer_qmap (s : State) (n : Nat) (cfg : Word) : (s.setPolicer n cfg).qmap = s.qmap := State.setPolicer_keeps n cfg (List.Subset.refl _) (SameBut.refl _ s) .qmap (by decide)
@[simp] theorem State.setPolicer_memch (s : State) (n : Nat) (cfg : Word) : (s.setPolicer n cfg).memch = s.memch := State.setPolicer_keeps n cfg (List.Subset.refl _) (SameBut.refl _ s) .memch (by decide)
@[simp] theorem State.setPolicer_ecc (s : State) (n : Nat) (cfg : Word) : (s.setPolicer n cfg).ecc = s.ecc := State.setPolicer_keeps n cfg (List.Subset.refl _) (SameBut.refl _ s) .ecc (by decide)
@[simp] theorem State.setPolicer_mxe (s : State) (n : Nat) (cfg : Word) : (s.setPolicer n cfg).mxe = s.mxe := State.setPolicer_keeps n cfg (List.Subset.refl _) (SameBut.refl _ s) .mxe (by decide)
@[simp] theorem State.setPolicer_queues (s : State) (n : Nat) (cfg : Word) : (s.setPolicer n cfg).queues = s.queues := State.setPolicer_keeps n cfg (List.Subset.refl _) (SameBut.refl _ s) .queues (by decide)
@[simp] theorem State.setPolicer_turns (s : State) (n : Nat) (cfg : Word) : (s.setPolicer n cfg).turns = s.turns := State.setPolicer_keeps n cfg (List.Subset.refl _) (SameBut.refl _ s) .turns (by decide)
@[simp] theorem State.setPolicer_elig (s : State) (n : Nat) (cfg : Word) : (s.setPolicer n cfg).elig = s.elig := State.setPolicer_keeps n cfg (List.Subset.refl _) (SameBut.refl _ s) .elig (by decide)
@[simp] theorem State.setPolicer_shapers (s : State) (n : Nat) (cfg : Word) : (s.setPolicer n cfg).shapers = s.shapers := State.setPolicer_keeps n cfg (List.Subset.refl _) (SameBut.refl _ s) .shapers (by decide)
@[simp] theorem State.setPolicer_gates (s : State) (n : Nat) (cfg : Word) : (s.setPolicer n cfg).gates = s.gates := State.setPolicer_keeps n cfg (List.Subset.refl _) (SameBut.refl _ s) .gates (by decide)
@[simp] theorem State.setPolicer_gateBusy (s : State) (n : Nat) (cfg : Word) : (s.setPolicer n cfg).gateBusy = s.gateBusy := State.setPolicer_keeps n cfg (List.Subset.refl _) (SameBut.refl _ s) .gateBusy (by decide)
@[simp] theorem State.setPolicer_lanes (s : State) (n : Nat) (cfg : Word) : (s.setPolicer n cfg).lanes = s.lanes := State.setPolicer_keeps n cfg (List.Subset.refl _) (SameBut.refl _ s) .lanes (by decide)
@[simp] theorem State.setPolicer_lports (s : State) (n : Nat) (cfg : Word) : (s.setPolicer n cfg).lports = s.lports := State.setPolicer_keeps n cfg (List.Subset.refl _) (SameBut.refl _ s) .lports (by decide)
@[simp] theorem State.setPolicer_mdio (s : State) (n : Nat) (cfg : Word) : (s.setPolicer n cfg).mdio = s.mdio := State.setPolicer_keeps n cfg (List.Subset.refl _) (SameBut.refl _ s) .mdio (by decide)
@[simp] theorem State.setPolicer_tim (s : State) (n : Nat) (cfg : Word) : (s.setPolicer n cfg).tim = s.tim := State.setPolicer_keeps n cfg (List.Subset.refl _) (SameBut.refl _ s) .tim (by decide)
@[simp] theorem State.setPolicer_evt (s : State) (n : Nat) (cfg : Word) : (s.setPolicer n cfg).evt = s.evt := State.setPolicer_keeps n cfg (List.Subset.refl _) (SameBut.refl _ s) .evt (by decide)
@[simp] theorem State.setPolicer_log (s : State) (n : Nat) (cfg : Word) : (s.setPolicer n cfg).log = s.log := State.setPolicer_keeps n cfg (List.Subset.refl _) (SameBut.refl _ s) .log (by decide)
@[simp] theorem State.setPolicer_tsk (s : State) (n : Nat) (cfg : Word) : (s.setPolicer n cfg).tsk = s.tsk := State.setPolicer_keeps n cfg (List.Subset.refl _) (SameBut.refl _ s) .tsk (by decide)
@[simp] theorem State.setPolicer_cpu (s : State) (n : Nat) (cfg : Word) : (s.setPolicer n cfg).cpu = s.cpu := State.setPolicer_keeps n cfg (List.Subset.refl _) (SameBut.refl _ s) .cpu (by decide)
@[simp] theorem State.setPolicer_pwr (s : State) (n : Nat) (cfg : Word) : (s.setPolicer n cfg).pwr = s.pwr := State.setPolicer_keeps n cfg (List.Subset.refl _) (SameBut.refl _ s) .pwr (by decide)
@[simp] theorem State.setPolicer_rst (s : State) (n : Nat) (cfg : Word) : (s.setPolicer n cfg).rst = s.rst := State.setPolicer_keeps n cfg (List.Subset.refl _) (SameBut.refl _ s) .rst (by decide)
@[simp] theorem State.setPolicer_sys (s : State) (n : Nat) (cfg : Word) : (s.setPolicer n cfg).sys = s.sys := State.setPolicer_keeps n cfg (List.Subset.refl _) (SameBut.refl _ s) .sys (by decide)
@[simp] theorem State.setPolicer_hif (s : State) (n : Nat) (cfg : Word) : (s.setPolicer n cfg).hif = s.hif := State.setPolicer_keeps n cfg (List.Subset.refl _) (SameBut.refl _ s) .hif (by decide)
@[simp] theorem State.setPolicer_pins (s : State) (n : Nat) (cfg : Word) : (s.setPolicer n cfg).pins = s.pins := State.setPolicer_keeps n cfg (List.Subset.refl _) (SameBut.refl _ s) .pins (by decide)
@[simp] theorem State.setPolicer_clock (s : State) (n : Nat) (cfg : Word) : (s.setPolicer n cfg).clock = s.clock := State.setPolicer_keeps n cfg (List.Subset.refl _) (SameBut.refl _ s) .clock (by decide)
@[simp] theorem State.setPolicer_timers (s : State) (n : Nat) (cfg : Word) : (s.setPolicer n cfg).timers = s.timers := State.setPolicer_keeps n cfg (List.Subset.refl _) (SameBut.refl _ s) .timers (by decide)
@[simp] theorem State.setPolicer_pending (s : State) (n : Nat) (cfg : Word) : (s.setPolicer n cfg).pending = s.pending := State.setPolicer_keeps n cfg (List.Subset.refl _) (SameBut.refl _ s) .pending (by decide)
@[simp] theorem State.setPolicer_dark (s : State) (n : Nat) (cfg : Word) : (s.setPolicer n cfg).dark = s.dark := State.setPolicer_keeps n cfg (List.Subset.refl _) (SameBut.refl _ s) .dark (by decide)
@[simp] theorem State.setPolicer_resp (s : State) (n : Nat) (cfg : Word) : (s.setPolicer n cfg).resp = s.resp := State.setPolicer_keeps n cfg (List.Subset.refl _) (SameBut.refl _ s) .resp (by decide)
@[simp] theorem State.setPolicer_out (s : State) (n : Nat) (cfg : Word) : (s.setPolicer n cfg).out = s.out := State.setPolicer_keeps n cfg (List.Subset.refl _) (SameBut.refl _ s) .out (by decide)
@[simp] theorem State.setPolicer_fresh (s : State) (n : Nat) (cfg : Word) : (s.setPolicer n cfg).fresh = s.fresh := State.setPolicer_keeps n cfg (List.Subset.refl _) (SameBut.refl _ s) .fresh (by decide)
@[simp] theorem State.setPolicer_rd (s : State) (n : Nat) (cfg : Word) (k : Nat) : (s.setPolicer n cfg).rd k = s.rd k := State.rd_of_regs (State.setPolicer_regs s n cfg) k
@[simp] theorem State.setPolicer_fld (s : State) (n : Nat) (cfg : Word) (g_ : Fld) : (s.setPolicer n cfg).fld g_ = s.fld g_ := State.fld_of_regs (State.setPolicer_regs s n cfg) g_
@[simp] theorem State.setPolicer_bit (s : State) (n : Nat) (cfg : Word) (g_ : Fld) : (s.setPolicer n cfg).bit g_ = s.bit g_ := State.bit_of_regs (State.setPolicer_regs s n cfg) g_
@[simp] theorem State.setPolicer_running (s : State) (n : Nat) (cfg : Word) (g_ : Nat) : (s.setPolicer n cfg).running g_ = s.running g_ := State.running_of_timers (State.setPolicer_timers s n cfg) g_
@[simp] theorem State.setPolicer_domOn (s : State) (n : Nat) (cfg : Word) (g_ : Nat) : (s.setPolicer n cfg).domOn g_ = s.domOn g_ := State.domOn_of_pwr (State.setPolicer_pwr s n cfg) g_

/-! `State.setCh` -/

@[simp] theorem State.setCh_regs (s : State) (m : Chan) (c : MemCh) : (s.setCh m c).regs = s.regs := (rfl)
@[simp] theorem State.setCh_shown (s : State) (m : Chan) (c : MemCh) : (s.setCh m c).shown = s.shown := (rfl)
@[simp] theorem State.setCh_mirror (s : State) (m : Chan) (c : MemCh) : (s.setCh m c).mirror = s.mirror := (rfl)
@[simp] theorem State.setCh_mem (s : State) (m : Chan) (c : MemCh) : (s.setCh m c).mem = s.mem := (rfl)
@[simp] theorem State.setCh_seam (s : State) (m : Chan) (c : MemCh) : (s.setCh m c).seam = s.seam := (rfl)
@[simp] theorem State.setCh_cmt (s : State) (m : Chan) (c : MemCh) : (s.setCh m c).cmt = s.cmt := (rfl)
@[simp] theorem State.setCh_own (s : State) (m : Chan) (c : MemCh) : (s.setCh m c).own = s.own := (rfl)
@[simp] theorem State.setCh_nextPkt (s : State) (m : Chan) (c : MemCh) : (s.setCh m c).nextPkt = s.nextPkt := (rfl)
@[simp] theorem State.setCh_rx (s : State) (m : Chan) (c : MemCh) : (s.setCh m c).rx = s.rx := (rfl)
@[simp] theorem State.setCh_dsf (s : State) (m : Chan) (c : MemCh) : (s.setCh m c).dsf = s.dsf := (rfl)
@[simp] theorem State.setCh_tmap (s : State) (m : Chan) (c : MemCh) : (s.setCh m c).tmap = s.tmap := (rfl)
@[simp] theorem State.setCh_tribs (s : State) (m : Chan) (c : MemCh) : (s.setCh m c).tribs = s.tribs := (rfl)
@[simp] theorem State.setCh_tfrags (s : State) (m : Chan) (c : MemCh) : (s.setCh m c).tfrags = s.tfrags := (rfl)
@[simp] theorem State.setCh_rows (s : State) (m : Chan) (c : MemCh) : (s.setCh m c).rows = s.rows := (rfl)
@[simp] theorem State.setCh_ttest (s : State) (m : Chan) (c : MemCh) : (s.setCh m c).ttest = s.ttest := (rfl)
@[simp] theorem State.setCh_act (s : State) (m : Chan) (c : MemCh) : (s.setCh m c).act = s.act := (rfl)
@[simp] theorem State.setCh_upb (s : State) (m : Chan) (c : MemCh) : (s.setCh m c).upb = s.upb := (rfl)
@[simp] theorem State.setCh_restarts (s : State) (m : Chan) (c : MemCh) : (s.setCh m c).restarts = s.restarts := (rfl)
@[simp] theorem State.setCh_gsm (s : State) (m : Chan) (c : MemCh) : (s.setCh m c).gsm = s.gsm := (rfl)
@[simp] theorem State.setCh_txEff (s : State) (m : Chan) (c : MemCh) : (s.setCh m c).txEff = s.txEff := (rfl)
@[simp] theorem State.setCh_pairs (s : State) (m : Chan) (c : MemCh) : (s.setCh m c).pairs = s.pairs := (rfl)
@[simp] theorem State.setCh_key (s : State) (m : Chan) (c : MemCh) : (s.setCh m c).key = s.key := (rfl)
@[simp] theorem State.setCh_pipes (s : State) (m : Chan) (c : MemCh) : (s.setCh m c).pipes = s.pipes := (rfl)
@[simp] theorem State.setCh_epochs (s : State) (m : Chan) (c : MemCh) : (s.setCh m c).epochs = s.epochs := (rfl)
@[simp] theorem State.setCh_prog (s : State) (m : Chan) (c : MemCh) : (s.setCh m c).prog = s.prog := (rfl)
@[simp] theorem State.setCh_rcnt (s : State) (m : Chan) (c : MemCh) : (s.setCh m c).rcnt = s.rcnt := (rfl)
@[simp] theorem State.setCh_rcntHeld (s : State) (m : Chan) (c : MemCh) : (s.setCh m c).rcntHeld = s.rcntHeld := (rfl)
@[simp] theorem State.setCh_excWait (s : State) (m : Chan) (c : MemCh) : (s.setCh m c).excWait = s.excWait := (rfl)
@[simp] theorem State.setCh_bufs (s : State) (m : Chan) (c : MemCh) : (s.setCh m c).bufs = s.bufs := (rfl)
@[simp] theorem State.setCh_bufRot (s : State) (m : Chan) (c : MemCh) : (s.setCh m c).bufRot = s.bufRot := (rfl)
@[simp] theorem State.setCh_qmap (s : State) (m : Chan) (c : MemCh) : (s.setCh m c).qmap = s.qmap := (rfl)
@[simp] theorem State.setCh_ecc (s : State) (m : Chan) (c : MemCh) : (s.setCh m c).ecc = s.ecc := (rfl)
@[simp] theorem State.setCh_mxe (s : State) (m : Chan) (c : MemCh) : (s.setCh m c).mxe = s.mxe := (rfl)
@[simp] theorem State.setCh_queues (s : State) (m : Chan) (c : MemCh) : (s.setCh m c).queues = s.queues := (rfl)
@[simp] theorem State.setCh_turns (s : State) (m : Chan) (c : MemCh) : (s.setCh m c).turns = s.turns := (rfl)
@[simp] theorem State.setCh_elig (s : State) (m : Chan) (c : MemCh) : (s.setCh m c).elig = s.elig := (rfl)
@[simp] theorem State.setCh_shapers (s : State) (m : Chan) (c : MemCh) : (s.setCh m c).shapers = s.shapers := (rfl)
@[simp] theorem State.setCh_policers (s : State) (m : Chan) (c : MemCh) : (s.setCh m c).policers = s.policers := (rfl)
@[simp] theorem State.setCh_gates (s : State) (m : Chan) (c : MemCh) : (s.setCh m c).gates = s.gates := (rfl)
@[simp] theorem State.setCh_gateBusy (s : State) (m : Chan) (c : MemCh) : (s.setCh m c).gateBusy = s.gateBusy := (rfl)
@[simp] theorem State.setCh_lanes (s : State) (m : Chan) (c : MemCh) : (s.setCh m c).lanes = s.lanes := (rfl)
@[simp] theorem State.setCh_lports (s : State) (m : Chan) (c : MemCh) : (s.setCh m c).lports = s.lports := (rfl)
@[simp] theorem State.setCh_mdio (s : State) (m : Chan) (c : MemCh) : (s.setCh m c).mdio = s.mdio := (rfl)
@[simp] theorem State.setCh_tim (s : State) (m : Chan) (c : MemCh) : (s.setCh m c).tim = s.tim := (rfl)
@[simp] theorem State.setCh_evt (s : State) (m : Chan) (c : MemCh) : (s.setCh m c).evt = s.evt := (rfl)
@[simp] theorem State.setCh_log (s : State) (m : Chan) (c : MemCh) : (s.setCh m c).log = s.log := (rfl)
@[simp] theorem State.setCh_tsk (s : State) (m : Chan) (c : MemCh) : (s.setCh m c).tsk = s.tsk := (rfl)
@[simp] theorem State.setCh_cpu (s : State) (m : Chan) (c : MemCh) : (s.setCh m c).cpu = s.cpu := (rfl)
@[simp] theorem State.setCh_pwr (s : State) (m : Chan) (c : MemCh) : (s.setCh m c).pwr = s.pwr := (rfl)
@[simp] theorem State.setCh_rst (s : State) (m : Chan) (c : MemCh) : (s.setCh m c).rst = s.rst := (rfl)
@[simp] theorem State.setCh_sys (s : State) (m : Chan) (c : MemCh) : (s.setCh m c).sys = s.sys := (rfl)
@[simp] theorem State.setCh_hif (s : State) (m : Chan) (c : MemCh) : (s.setCh m c).hif = s.hif := (rfl)
@[simp] theorem State.setCh_pins (s : State) (m : Chan) (c : MemCh) : (s.setCh m c).pins = s.pins := (rfl)
@[simp] theorem State.setCh_clock (s : State) (m : Chan) (c : MemCh) : (s.setCh m c).clock = s.clock := (rfl)
@[simp] theorem State.setCh_timers (s : State) (m : Chan) (c : MemCh) : (s.setCh m c).timers = s.timers := (rfl)
@[simp] theorem State.setCh_pending (s : State) (m : Chan) (c : MemCh) : (s.setCh m c).pending = s.pending := (rfl)
@[simp] theorem State.setCh_dark (s : State) (m : Chan) (c : MemCh) : (s.setCh m c).dark = s.dark := (rfl)
@[simp] theorem State.setCh_resp (s : State) (m : Chan) (c : MemCh) : (s.setCh m c).resp = s.resp := (rfl)
@[simp] theorem State.setCh_out (s : State) (m : Chan) (c : MemCh) : (s.setCh m c).out = s.out := (rfl)
@[simp] theorem State.setCh_fresh (s : State) (m : Chan) (c : MemCh) : (s.setCh m c).fresh = s.fresh := (rfl)
@[simp] theorem State.setCh_rd (s : State) (m : Chan) (c : MemCh) (k : Nat) : (s.setCh m c).rd k = s.rd k := State.rd_of_regs (State.setCh_regs s m c) k
@[simp] theorem State.setCh_fld (s : State) (m : Chan) (c : MemCh) (g_ : Fld) : (s.setCh m c).fld g_ = s.fld g_ := State.fld_of_regs (State.setCh_regs s m c) g_
@[simp] theorem State.setCh_bit (s : State) (m : Chan) (c : MemCh) (g_ : Fld) : (s.setCh m c).bit g_ = s.bit g_ := State.bit_of_regs (State.setCh_regs s m c) g_
@[simp] theorem State.setCh_running (s : State) (m : Chan) (c : MemCh) (g_ : Nat) : (s.setCh m c).running g_ = s.running g_ := State.running_of_timers (State.setCh_timers s m c) g_
@[simp] theorem State.setCh_domOn (s : State) (m : Chan) (c : MemCh) (g_ : Nat) : (s.setCh m c).domOn g_ = s.domOn g_ := State.domOn_of_pwr (State.setCh_pwr s m c) g_

/-! `State.setPipe` -/

@[simp] theorem State.setPipe_regs (s : State) (p : Fin 4) (x : Pipe) : (s.setPipe p x).regs = s.regs := (rfl)
@[simp] theorem State.setPipe_shown (s : State) (p : Fin 4) (x : Pipe) : (s.setPipe p x).shown = s.shown := (rfl)
@[simp] theorem State.setPipe_mirror (s : State) (p : Fin 4) (x : Pipe) : (s.setPipe p x).mirror = s.mirror := (rfl)
@[simp] theorem State.setPipe_mem (s : State) (p : Fin 4) (x : Pipe) : (s.setPipe p x).mem = s.mem := (rfl)
@[simp] theorem State.setPipe_seam (s : State) (p : Fin 4) (x : Pipe) : (s.setPipe p x).seam = s.seam := (rfl)
@[simp] theorem State.setPipe_cmt (s : State) (p : Fin 4) (x : Pipe) : (s.setPipe p x).cmt = s.cmt := (rfl)
@[simp] theorem State.setPipe_own (s : State) (p : Fin 4) (x : Pipe) : (s.setPipe p x).own = s.own := (rfl)
@[simp] theorem State.setPipe_nextPkt (s : State) (p : Fin 4) (x : Pipe) : (s.setPipe p x).nextPkt = s.nextPkt := (rfl)
@[simp] theorem State.setPipe_rx (s : State) (p : Fin 4) (x : Pipe) : (s.setPipe p x).rx = s.rx := (rfl)
@[simp] theorem State.setPipe_dsf (s : State) (p : Fin 4) (x : Pipe) : (s.setPipe p x).dsf = s.dsf := (rfl)
@[simp] theorem State.setPipe_tmap (s : State) (p : Fin 4) (x : Pipe) : (s.setPipe p x).tmap = s.tmap := (rfl)
@[simp] theorem State.setPipe_tribs (s : State) (p : Fin 4) (x : Pipe) : (s.setPipe p x).tribs = s.tribs := (rfl)
@[simp] theorem State.setPipe_tfrags (s : State) (p : Fin 4) (x : Pipe) : (s.setPipe p x).tfrags = s.tfrags := (rfl)
@[simp] theorem State.setPipe_rows (s : State) (p : Fin 4) (x : Pipe) : (s.setPipe p x).rows = s.rows := (rfl)
@[simp] theorem State.setPipe_ttest (s : State) (p : Fin 4) (x : Pipe) : (s.setPipe p x).ttest = s.ttest := (rfl)
@[simp] theorem State.setPipe_act (s : State) (p : Fin 4) (x : Pipe) : (s.setPipe p x).act = s.act := (rfl)
@[simp] theorem State.setPipe_upb (s : State) (p : Fin 4) (x : Pipe) : (s.setPipe p x).upb = s.upb := (rfl)
@[simp] theorem State.setPipe_restarts (s : State) (p : Fin 4) (x : Pipe) : (s.setPipe p x).restarts = s.restarts := (rfl)
@[simp] theorem State.setPipe_gsm (s : State) (p : Fin 4) (x : Pipe) : (s.setPipe p x).gsm = s.gsm := (rfl)
@[simp] theorem State.setPipe_txEff (s : State) (p : Fin 4) (x : Pipe) : (s.setPipe p x).txEff = s.txEff := (rfl)
@[simp] theorem State.setPipe_pairs (s : State) (p : Fin 4) (x : Pipe) : (s.setPipe p x).pairs = s.pairs := (rfl)
@[simp] theorem State.setPipe_key (s : State) (p : Fin 4) (x : Pipe) : (s.setPipe p x).key = s.key := (rfl)
@[simp] theorem State.setPipe_epochs (s : State) (p : Fin 4) (x : Pipe) : (s.setPipe p x).epochs = s.epochs := (rfl)
@[simp] theorem State.setPipe_prog (s : State) (p : Fin 4) (x : Pipe) : (s.setPipe p x).prog = s.prog := (rfl)
@[simp] theorem State.setPipe_rcnt (s : State) (p : Fin 4) (x : Pipe) : (s.setPipe p x).rcnt = s.rcnt := (rfl)
@[simp] theorem State.setPipe_rcntHeld (s : State) (p : Fin 4) (x : Pipe) : (s.setPipe p x).rcntHeld = s.rcntHeld := (rfl)
@[simp] theorem State.setPipe_excWait (s : State) (p : Fin 4) (x : Pipe) : (s.setPipe p x).excWait = s.excWait := (rfl)
@[simp] theorem State.setPipe_bufs (s : State) (p : Fin 4) (x : Pipe) : (s.setPipe p x).bufs = s.bufs := (rfl)
@[simp] theorem State.setPipe_bufRot (s : State) (p : Fin 4) (x : Pipe) : (s.setPipe p x).bufRot = s.bufRot := (rfl)
@[simp] theorem State.setPipe_qmap (s : State) (p : Fin 4) (x : Pipe) : (s.setPipe p x).qmap = s.qmap := (rfl)
@[simp] theorem State.setPipe_memch (s : State) (p : Fin 4) (x : Pipe) : (s.setPipe p x).memch = s.memch := (rfl)
@[simp] theorem State.setPipe_ecc (s : State) (p : Fin 4) (x : Pipe) : (s.setPipe p x).ecc = s.ecc := (rfl)
@[simp] theorem State.setPipe_mxe (s : State) (p : Fin 4) (x : Pipe) : (s.setPipe p x).mxe = s.mxe := (rfl)
@[simp] theorem State.setPipe_queues (s : State) (p : Fin 4) (x : Pipe) : (s.setPipe p x).queues = s.queues := (rfl)
@[simp] theorem State.setPipe_turns (s : State) (p : Fin 4) (x : Pipe) : (s.setPipe p x).turns = s.turns := (rfl)
@[simp] theorem State.setPipe_elig (s : State) (p : Fin 4) (x : Pipe) : (s.setPipe p x).elig = s.elig := (rfl)
@[simp] theorem State.setPipe_shapers (s : State) (p : Fin 4) (x : Pipe) : (s.setPipe p x).shapers = s.shapers := (rfl)
@[simp] theorem State.setPipe_policers (s : State) (p : Fin 4) (x : Pipe) : (s.setPipe p x).policers = s.policers := (rfl)
@[simp] theorem State.setPipe_gates (s : State) (p : Fin 4) (x : Pipe) : (s.setPipe p x).gates = s.gates := (rfl)
@[simp] theorem State.setPipe_gateBusy (s : State) (p : Fin 4) (x : Pipe) : (s.setPipe p x).gateBusy = s.gateBusy := (rfl)
@[simp] theorem State.setPipe_lanes (s : State) (p : Fin 4) (x : Pipe) : (s.setPipe p x).lanes = s.lanes := (rfl)
@[simp] theorem State.setPipe_lports (s : State) (p : Fin 4) (x : Pipe) : (s.setPipe p x).lports = s.lports := (rfl)
@[simp] theorem State.setPipe_mdio (s : State) (p : Fin 4) (x : Pipe) : (s.setPipe p x).mdio = s.mdio := (rfl)
@[simp] theorem State.setPipe_tim (s : State) (p : Fin 4) (x : Pipe) : (s.setPipe p x).tim = s.tim := (rfl)
@[simp] theorem State.setPipe_evt (s : State) (p : Fin 4) (x : Pipe) : (s.setPipe p x).evt = s.evt := (rfl)
@[simp] theorem State.setPipe_log (s : State) (p : Fin 4) (x : Pipe) : (s.setPipe p x).log = s.log := (rfl)
@[simp] theorem State.setPipe_tsk (s : State) (p : Fin 4) (x : Pipe) : (s.setPipe p x).tsk = s.tsk := (rfl)
@[simp] theorem State.setPipe_cpu (s : State) (p : Fin 4) (x : Pipe) : (s.setPipe p x).cpu = s.cpu := (rfl)
@[simp] theorem State.setPipe_pwr (s : State) (p : Fin 4) (x : Pipe) : (s.setPipe p x).pwr = s.pwr := (rfl)
@[simp] theorem State.setPipe_rst (s : State) (p : Fin 4) (x : Pipe) : (s.setPipe p x).rst = s.rst := (rfl)
@[simp] theorem State.setPipe_sys (s : State) (p : Fin 4) (x : Pipe) : (s.setPipe p x).sys = s.sys := (rfl)
@[simp] theorem State.setPipe_hif (s : State) (p : Fin 4) (x : Pipe) : (s.setPipe p x).hif = s.hif := (rfl)
@[simp] theorem State.setPipe_pins (s : State) (p : Fin 4) (x : Pipe) : (s.setPipe p x).pins = s.pins := (rfl)
@[simp] theorem State.setPipe_clock (s : State) (p : Fin 4) (x : Pipe) : (s.setPipe p x).clock = s.clock := (rfl)
@[simp] theorem State.setPipe_timers (s : State) (p : Fin 4) (x : Pipe) : (s.setPipe p x).timers = s.timers := (rfl)
@[simp] theorem State.setPipe_pending (s : State) (p : Fin 4) (x : Pipe) : (s.setPipe p x).pending = s.pending := (rfl)
@[simp] theorem State.setPipe_dark (s : State) (p : Fin 4) (x : Pipe) : (s.setPipe p x).dark = s.dark := (rfl)
@[simp] theorem State.setPipe_resp (s : State) (p : Fin 4) (x : Pipe) : (s.setPipe p x).resp = s.resp := (rfl)
@[simp] theorem State.setPipe_out (s : State) (p : Fin 4) (x : Pipe) : (s.setPipe p x).out = s.out := (rfl)
@[simp] theorem State.setPipe_fresh (s : State) (p : Fin 4) (x : Pipe) : (s.setPipe p x).fresh = s.fresh := (rfl)
@[simp] theorem State.setPipe_rd (s : State) (p : Fin 4) (x : Pipe) (k : Nat) : (s.setPipe p x).rd k = s.rd k := State.rd_of_regs (State.setPipe_regs s p x) k
@[simp] theorem State.setPipe_fld (s : State) (p : Fin 4) (x : Pipe) (g_ : Fld) : (s.setPipe p x).fld g_ = s.fld g_ := State.fld_of_regs (State.setPipe_regs s p x) g_
@[simp] theorem State.setPipe_bit (s : State) (p : Fin 4) (x : Pipe) (g_ : Fld) : (s.setPipe p x).bit g_ = s.bit g_ := State.bit_of_regs (State.setPipe_regs s p x) g_
@[simp] theorem State.setPipe_running (s : State) (p : Fin 4) (x : Pipe) (g_ : Nat) : (s.setPipe p x).running g_ = s.running g_ := State.running_of_timers (State.setPipe_timers s p x) g_
@[simp] theorem State.setPipe_domOn (s : State) (p : Fin 4) (x : Pipe) (g_ : Nat) : (s.setPipe p x).domOn g_ = s.domOn g_ := State.domOn_of_pwr (State.setPipe_pwr s p x) g_

/-! `State.setEpoch` -/

@[simp] theorem State.setEpoch_regs (s : State) (e : Fin 16) (x : Epoch) : (s.setEpoch e x).regs = s.regs := (rfl)
@[simp] theorem State.setEpoch_shown (s : State) (e : Fin 16) (x : Epoch) : (s.setEpoch e x).shown = s.shown := (rfl)
@[simp] theorem State.setEpoch_mirror (s : State) (e : Fin 16) (x : Epoch) : (s.setEpoch e x).mirror = s.mirror := (rfl)
@[simp] theorem State.setEpoch_mem (s : State) (e : Fin 16) (x : Epoch) : (s.setEpoch e x).mem = s.mem := (rfl)
@[simp] theorem State.setEpoch_seam (s : State) (e : Fin 16) (x : Epoch) : (s.setEpoch e x).seam = s.seam := (rfl)
@[simp] theorem State.setEpoch_cmt (s : State) (e : Fin 16) (x : Epoch) : (s.setEpoch e x).cmt = s.cmt := (rfl)
@[simp] theorem State.setEpoch_own (s : State) (e : Fin 16) (x : Epoch) : (s.setEpoch e x).own = s.own := (rfl)
@[simp] theorem State.setEpoch_nextPkt (s : State) (e : Fin 16) (x : Epoch) : (s.setEpoch e x).nextPkt = s.nextPkt := (rfl)
@[simp] theorem State.setEpoch_rx (s : State) (e : Fin 16) (x : Epoch) : (s.setEpoch e x).rx = s.rx := (rfl)
@[simp] theorem State.setEpoch_dsf (s : State) (e : Fin 16) (x : Epoch) : (s.setEpoch e x).dsf = s.dsf := (rfl)
@[simp] theorem State.setEpoch_tmap (s : State) (e : Fin 16) (x : Epoch) : (s.setEpoch e x).tmap = s.tmap := (rfl)
@[simp] theorem State.setEpoch_tribs (s : State) (e : Fin 16) (x : Epoch) : (s.setEpoch e x).tribs = s.tribs := (rfl)
@[simp] theorem State.setEpoch_tfrags (s : State) (e : Fin 16) (x : Epoch) : (s.setEpoch e x).tfrags = s.tfrags := (rfl)
@[simp] theorem State.setEpoch_rows (s : State) (e : Fin 16) (x : Epoch) : (s.setEpoch e x).rows = s.rows := (rfl)
@[simp] theorem State.setEpoch_ttest (s : State) (e : Fin 16) (x : Epoch) : (s.setEpoch e x).ttest = s.ttest := (rfl)
@[simp] theorem State.setEpoch_act (s : State) (e : Fin 16) (x : Epoch) : (s.setEpoch e x).act = s.act := (rfl)
@[simp] theorem State.setEpoch_upb (s : State) (e : Fin 16) (x : Epoch) : (s.setEpoch e x).upb = s.upb := (rfl)
@[simp] theorem State.setEpoch_restarts (s : State) (e : Fin 16) (x : Epoch) : (s.setEpoch e x).restarts = s.restarts := (rfl)
@[simp] theorem State.setEpoch_gsm (s : State) (e : Fin 16) (x : Epoch) : (s.setEpoch e x).gsm = s.gsm := (rfl)
@[simp] theorem State.setEpoch_txEff (s : State) (e : Fin 16) (x : Epoch) : (s.setEpoch e x).txEff = s.txEff := (rfl)
@[simp] theorem State.setEpoch_pairs (s : State) (e : Fin 16) (x : Epoch) : (s.setEpoch e x).pairs = s.pairs := (rfl)
@[simp] theorem State.setEpoch_key (s : State) (e : Fin 16) (x : Epoch) : (s.setEpoch e x).key = s.key := (rfl)
@[simp] theorem State.setEpoch_pipes (s : State) (e : Fin 16) (x : Epoch) : (s.setEpoch e x).pipes = s.pipes := (rfl)
@[simp] theorem State.setEpoch_prog (s : State) (e : Fin 16) (x : Epoch) : (s.setEpoch e x).prog = s.prog := (rfl)
@[simp] theorem State.setEpoch_rcnt (s : State) (e : Fin 16) (x : Epoch) : (s.setEpoch e x).rcnt = s.rcnt := (rfl)
@[simp] theorem State.setEpoch_rcntHeld (s : State) (e : Fin 16) (x : Epoch) : (s.setEpoch e x).rcntHeld = s.rcntHeld := (rfl)
@[simp] theorem State.setEpoch_excWait (s : State) (e : Fin 16) (x : Epoch) : (s.setEpoch e x).excWait = s.excWait := (rfl)
@[simp] theorem State.setEpoch_bufs (s : State) (e : Fin 16) (x : Epoch) : (s.setEpoch e x).bufs = s.bufs := (rfl)
@[simp] theorem State.setEpoch_bufRot (s : State) (e : Fin 16) (x : Epoch) : (s.setEpoch e x).bufRot = s.bufRot := (rfl)
@[simp] theorem State.setEpoch_qmap (s : State) (e : Fin 16) (x : Epoch) : (s.setEpoch e x).qmap = s.qmap := (rfl)
@[simp] theorem State.setEpoch_memch (s : State) (e : Fin 16) (x : Epoch) : (s.setEpoch e x).memch = s.memch := (rfl)
@[simp] theorem State.setEpoch_ecc (s : State) (e : Fin 16) (x : Epoch) : (s.setEpoch e x).ecc = s.ecc := (rfl)
@[simp] theorem State.setEpoch_mxe (s : State) (e : Fin 16) (x : Epoch) : (s.setEpoch e x).mxe = s.mxe := (rfl)
@[simp] theorem State.setEpoch_queues (s : State) (e : Fin 16) (x : Epoch) : (s.setEpoch e x).queues = s.queues := (rfl)
@[simp] theorem State.setEpoch_turns (s : State) (e : Fin 16) (x : Epoch) : (s.setEpoch e x).turns = s.turns := (rfl)
@[simp] theorem State.setEpoch_elig (s : State) (e : Fin 16) (x : Epoch) : (s.setEpoch e x).elig = s.elig := (rfl)
@[simp] theorem State.setEpoch_shapers (s : State) (e : Fin 16) (x : Epoch) : (s.setEpoch e x).shapers = s.shapers := (rfl)
@[simp] theorem State.setEpoch_policers (s : State) (e : Fin 16) (x : Epoch) : (s.setEpoch e x).policers = s.policers := (rfl)
@[simp] theorem State.setEpoch_gates (s : State) (e : Fin 16) (x : Epoch) : (s.setEpoch e x).gates = s.gates := (rfl)
@[simp] theorem State.setEpoch_gateBusy (s : State) (e : Fin 16) (x : Epoch) : (s.setEpoch e x).gateBusy = s.gateBusy := (rfl)
@[simp] theorem State.setEpoch_lanes (s : State) (e : Fin 16) (x : Epoch) : (s.setEpoch e x).lanes = s.lanes := (rfl)
@[simp] theorem State.setEpoch_lports (s : State) (e : Fin 16) (x : Epoch) : (s.setEpoch e x).lports = s.lports := (rfl)
@[simp] theorem State.setEpoch_mdio (s : State) (e : Fin 16) (x : Epoch) : (s.setEpoch e x).mdio = s.mdio := (rfl)
@[simp] theorem State.setEpoch_tim (s : State) (e : Fin 16) (x : Epoch) : (s.setEpoch e x).tim = s.tim := (rfl)
@[simp] theorem State.setEpoch_evt (s : State) (e : Fin 16) (x : Epoch) : (s.setEpoch e x).evt = s.evt := (rfl)
@[simp] theorem State.setEpoch_log (s : State) (e : Fin 16) (x : Epoch) : (s.setEpoch e x).log = s.log := (rfl)
@[simp] theorem State.setEpoch_tsk (s : State) (e : Fin 16) (x : Epoch) : (s.setEpoch e x).tsk = s.tsk := (rfl)
@[simp] theorem State.setEpoch_cpu (s : State) (e : Fin 16) (x : Epoch) : (s.setEpoch e x).cpu = s.cpu := (rfl)
@[simp] theorem State.setEpoch_pwr (s : State) (e : Fin 16) (x : Epoch) : (s.setEpoch e x).pwr = s.pwr := (rfl)
@[simp] theorem State.setEpoch_rst (s : State) (e : Fin 16) (x : Epoch) : (s.setEpoch e x).rst = s.rst := (rfl)
@[simp] theorem State.setEpoch_sys (s : State) (e : Fin 16) (x : Epoch) : (s.setEpoch e x).sys = s.sys := (rfl)
@[simp] theorem State.setEpoch_hif (s : State) (e : Fin 16) (x : Epoch) : (s.setEpoch e x).hif = s.hif := (rfl)
@[simp] theorem State.setEpoch_pins (s : State) (e : Fin 16) (x : Epoch) : (s.setEpoch e x).pins = s.pins := (rfl)
@[simp] theorem State.setEpoch_clock (s : State) (e : Fin 16) (x : Epoch) : (s.setEpoch e x).clock = s.clock := (rfl)
@[simp] theorem State.setEpoch_timers (s : State) (e : Fin 16) (x : Epoch) : (s.setEpoch e x).timers = s.timers := (rfl)
@[simp] theorem State.setEpoch_pending (s : State) (e : Fin 16) (x : Epoch) : (s.setEpoch e x).pending = s.pending := (rfl)
@[simp] theorem State.setEpoch_dark (s : State) (e : Fin 16) (x : Epoch) : (s.setEpoch e x).dark = s.dark := (rfl)
@[simp] theorem State.setEpoch_resp (s : State) (e : Fin 16) (x : Epoch) : (s.setEpoch e x).resp = s.resp := (rfl)
@[simp] theorem State.setEpoch_out (s : State) (e : Fin 16) (x : Epoch) : (s.setEpoch e x).out = s.out := (rfl)
@[simp] theorem State.setEpoch_fresh (s : State) (e : Fin 16) (x : Epoch) : (s.setEpoch e x).fresh = s.fresh := (rfl)
@[simp] theorem State.setEpoch_rd (s : State) (e : Fin 16) (x : Epoch) (k : Nat) : (s.setEpoch e x).rd k = s.rd k := State.rd_of_regs (State.setEpoch_regs s e x) k
@[simp] theorem State.setEpoch_fld (s : State) (e : Fin 16) (x : Epoch) (g_ : Fld) : (s.setEpoch e x).fld g_ = s.fld g_ := State.fld_of_regs (State.setEpoch_regs s e x) g_
@[simp] theorem State.setEpoch_bit (s : State) (e : Fin 16) (x : Epoch) (g_ : Fld) : (s.setEpoch e x).bit g_ = s.bit g_ := State.bit_of_regs (State.setEpoch_regs s e x) g_
@[simp] theorem State.setEpoch_running (s : State) (e : Fin 16) (x : Epoch) (g_ : Nat) : (s.setEpoch e x).running g_ = s.running g_ := State.running_of_timers (State.setEpoch_timers s e x) g_
@[simp] theorem State.setEpoch_domOn (s : State) (e : Fin 16) (x : Epoch) (g_ : Nat) : (s.setEpoch e x).domOn g_ = s.domOn g_ := State.domOn_of_pwr (State.setEpoch_pwr s e x) g_

/-! `State.setSlotOf` -/

@[simp] theorem State.setSlotOf_regs (s : State) (p : Fin 4) (x : ParseSlot) : (s.setSlotOf p x).regs = s.regs := State.setSlotOf_keeps p x (List.Subset.refl _) (SameBut.refl _ s) .regs (by decide)
@[simp] theorem State.setSlotOf_shown (s : State) (p : Fin 4) (x : ParseSlot) : (s.setSlotOf p x).shown = s.shown := State.setSlotOf_keeps p x (List.Subset.refl _) (SameBut.refl _ s) .shown (by decide)
@[simp] theorem State.setSlotOf_mirror (s : State) (p : Fin 4) (x : ParseSlot) : (s.setSlotOf p x).mirror = s.mirror := State.setSlotOf_keeps p x (List.Subset.refl _) (SameBut.refl _ s) .mirror (by decide)
@[simp] theorem State.setSlotOf_mem (s : State) (p : Fin 4) (x : ParseSlot) : (s.setSlotOf p x).mem = s.mem := State.setSlotOf_keeps p x (List.Subset.refl _) (SameBut.refl _ s) .mem (by decide)
@[simp] theorem State.setSlotOf_seam (s : State) (p : Fin 4) (x : ParseSlot) : (s.setSlotOf p x).seam = s.seam := State.setSlotOf_keeps p x (List.Subset.refl _) (SameBut.refl _ s) .seam (by decide)
@[simp] theorem State.setSlotOf_cmt (s : State) (p : Fin 4) (x : ParseSlot) : (s.setSlotOf p x).cmt = s.cmt := State.setSlotOf_keeps p x (List.Subset.refl _) (SameBut.refl _ s) .cmt (by decide)
@[simp] theorem State.setSlotOf_own (s : State) (p : Fin 4) (x : ParseSlot) : (s.setSlotOf p x).own = s.own := State.setSlotOf_keeps p x (List.Subset.refl _) (SameBut.refl _ s) .own (by decide)
@[simp] theorem State.setSlotOf_nextPkt (s : State) (p : Fin 4) (x : ParseSlot) : (s.setSlotOf p x).nextPkt = s.nextPkt := State.setSlotOf_keeps p x (List.Subset.refl _) (SameBut.refl _ s) .nextPkt (by decide)
@[simp] theorem State.setSlotOf_rx (s : State) (p : Fin 4) (x : ParseSlot) : (s.setSlotOf p x).rx = s.rx := State.setSlotOf_keeps p x (List.Subset.refl _) (SameBut.refl _ s) .rx (by decide)
@[simp] theorem State.setSlotOf_dsf (s : State) (p : Fin 4) (x : ParseSlot) : (s.setSlotOf p x).dsf = s.dsf := State.setSlotOf_keeps p x (List.Subset.refl _) (SameBut.refl _ s) .dsf (by decide)
@[simp] theorem State.setSlotOf_tmap (s : State) (p : Fin 4) (x : ParseSlot) : (s.setSlotOf p x).tmap = s.tmap := State.setSlotOf_keeps p x (List.Subset.refl _) (SameBut.refl _ s) .tmap (by decide)
@[simp] theorem State.setSlotOf_tribs (s : State) (p : Fin 4) (x : ParseSlot) : (s.setSlotOf p x).tribs = s.tribs := State.setSlotOf_keeps p x (List.Subset.refl _) (SameBut.refl _ s) .tribs (by decide)
@[simp] theorem State.setSlotOf_tfrags (s : State) (p : Fin 4) (x : ParseSlot) : (s.setSlotOf p x).tfrags = s.tfrags := State.setSlotOf_keeps p x (List.Subset.refl _) (SameBut.refl _ s) .tfrags (by decide)
@[simp] theorem State.setSlotOf_rows (s : State) (p : Fin 4) (x : ParseSlot) : (s.setSlotOf p x).rows = s.rows := State.setSlotOf_keeps p x (List.Subset.refl _) (SameBut.refl _ s) .rows (by decide)
@[simp] theorem State.setSlotOf_ttest (s : State) (p : Fin 4) (x : ParseSlot) : (s.setSlotOf p x).ttest = s.ttest := State.setSlotOf_keeps p x (List.Subset.refl _) (SameBut.refl _ s) .ttest (by decide)
@[simp] theorem State.setSlotOf_act (s : State) (p : Fin 4) (x : ParseSlot) : (s.setSlotOf p x).act = s.act := State.setSlotOf_keeps p x (List.Subset.refl _) (SameBut.refl _ s) .act (by decide)
@[simp] theorem State.setSlotOf_upb (s : State) (p : Fin 4) (x : ParseSlot) : (s.setSlotOf p x).upb = s.upb := State.setSlotOf_keeps p x (List.Subset.refl _) (SameBut.refl _ s) .upb (by decide)
@[simp] theorem State.setSlotOf_restarts (s : State) (p : Fin 4) (x : ParseSlot) : (s.setSlotOf p x).restarts = s.restarts := State.setSlotOf_keeps p x (List.Subset.refl _) (SameBut.refl _ s) .restarts (by decide)
@[simp] theorem State.setSlotOf_gsm (s : State) (p : Fin 4) (x : ParseSlot) : (s.setSlotOf p x).gsm = s.gsm := State.setSlotOf_keeps p x (List.Subset.refl _) (SameBut.refl _ s) .gsm (by decide)
@[simp] theorem State.setSlotOf_txEff (s : State) (p : Fin 4) (x : ParseSlot) : (s.setSlotOf p x).txEff = s.txEff := State.setSlotOf_keeps p x (List.Subset.refl _) (SameBut.refl _ s) .txEff (by decide)
@[simp] theorem State.setSlotOf_pairs (s : State) (p : Fin 4) (x : ParseSlot) : (s.setSlotOf p x).pairs = s.pairs := State.setSlotOf_keeps p x (List.Subset.refl _) (SameBut.refl _ s) .pairs (by decide)
@[simp] theorem State.setSlotOf_key (s : State) (p : Fin 4) (x : ParseSlot) : (s.setSlotOf p x).key = s.key := State.setSlotOf_keeps p x (List.Subset.refl _) (SameBut.refl _ s) .key (by decide)
@[simp] theorem State.setSlotOf_epochs (s : State) (p : Fin 4) (x : ParseSlot) : (s.setSlotOf p x).epochs = s.epochs := State.setSlotOf_keeps p x (List.Subset.refl _) (SameBut.refl _ s) .epochs (by decide)
@[simp] theorem State.setSlotOf_prog (s : State) (p : Fin 4) (x : ParseSlot) : (s.setSlotOf p x).prog = s.prog := State.setSlotOf_keeps p x (List.Subset.refl _) (SameBut.refl _ s) .prog (by decide)
@[simp] theorem State.setSlotOf_rcnt (s : State) (p : Fin 4) (x : ParseSlot) : (s.setSlotOf p x).rcnt = s.rcnt := State.setSlotOf_keeps p x (List.Subset.refl _) (SameBut.refl _ s) .rcnt (by decide)
@[simp] theorem State.setSlotOf_rcntHeld (s : State) (p : Fin 4) (x : ParseSlot) : (s.setSlotOf p x).rcntHeld = s.rcntHeld := State.setSlotOf_keeps p x (List.Subset.refl _) (SameBut.refl _ s) .rcntHeld (by decide)
@[simp] theorem State.setSlotOf_excWait (s : State) (p : Fin 4) (x : ParseSlot) : (s.setSlotOf p x).excWait = s.excWait := State.setSlotOf_keeps p x (List.Subset.refl _) (SameBut.refl _ s) .excWait (by decide)
@[simp] theorem State.setSlotOf_bufs (s : State) (p : Fin 4) (x : ParseSlot) : (s.setSlotOf p x).bufs = s.bufs := State.setSlotOf_keeps p x (List.Subset.refl _) (SameBut.refl _ s) .bufs (by decide)
@[simp] theorem State.setSlotOf_bufRot (s : State) (p : Fin 4) (x : ParseSlot) : (s.setSlotOf p x).bufRot = s.bufRot := State.setSlotOf_keeps p x (List.Subset.refl _) (SameBut.refl _ s) .bufRot (by decide)
@[simp] theorem State.setSlotOf_qmap (s : State) (p : Fin 4) (x : ParseSlot) : (s.setSlotOf p x).qmap = s.qmap := State.setSlotOf_keeps p x (List.Subset.refl _) (SameBut.refl _ s) .qmap (by decide)
@[simp] theorem State.setSlotOf_memch (s : State) (p : Fin 4) (x : ParseSlot) : (s.setSlotOf p x).memch = s.memch := State.setSlotOf_keeps p x (List.Subset.refl _) (SameBut.refl _ s) .memch (by decide)
@[simp] theorem State.setSlotOf_ecc (s : State) (p : Fin 4) (x : ParseSlot) : (s.setSlotOf p x).ecc = s.ecc := State.setSlotOf_keeps p x (List.Subset.refl _) (SameBut.refl _ s) .ecc (by decide)
@[simp] theorem State.setSlotOf_mxe (s : State) (p : Fin 4) (x : ParseSlot) : (s.setSlotOf p x).mxe = s.mxe := State.setSlotOf_keeps p x (List.Subset.refl _) (SameBut.refl _ s) .mxe (by decide)
@[simp] theorem State.setSlotOf_queues (s : State) (p : Fin 4) (x : ParseSlot) : (s.setSlotOf p x).queues = s.queues := State.setSlotOf_keeps p x (List.Subset.refl _) (SameBut.refl _ s) .queues (by decide)
@[simp] theorem State.setSlotOf_turns (s : State) (p : Fin 4) (x : ParseSlot) : (s.setSlotOf p x).turns = s.turns := State.setSlotOf_keeps p x (List.Subset.refl _) (SameBut.refl _ s) .turns (by decide)
@[simp] theorem State.setSlotOf_elig (s : State) (p : Fin 4) (x : ParseSlot) : (s.setSlotOf p x).elig = s.elig := State.setSlotOf_keeps p x (List.Subset.refl _) (SameBut.refl _ s) .elig (by decide)
@[simp] theorem State.setSlotOf_shapers (s : State) (p : Fin 4) (x : ParseSlot) : (s.setSlotOf p x).shapers = s.shapers := State.setSlotOf_keeps p x (List.Subset.refl _) (SameBut.refl _ s) .shapers (by decide)
@[simp] theorem State.setSlotOf_policers (s : State) (p : Fin 4) (x : ParseSlot) : (s.setSlotOf p x).policers = s.policers := State.setSlotOf_keeps p x (List.Subset.refl _) (SameBut.refl _ s) .policers (by decide)
@[simp] theorem State.setSlotOf_gates (s : State) (p : Fin 4) (x : ParseSlot) : (s.setSlotOf p x).gates = s.gates := State.setSlotOf_keeps p x (List.Subset.refl _) (SameBut.refl _ s) .gates (by decide)
@[simp] theorem State.setSlotOf_gateBusy (s : State) (p : Fin 4) (x : ParseSlot) : (s.setSlotOf p x).gateBusy = s.gateBusy := State.setSlotOf_keeps p x (List.Subset.refl _) (SameBut.refl _ s) .gateBusy (by decide)
@[simp] theorem State.setSlotOf_lanes (s : State) (p : Fin 4) (x : ParseSlot) : (s.setSlotOf p x).lanes = s.lanes := State.setSlotOf_keeps p x (List.Subset.refl _) (SameBut.refl _ s) .lanes (by decide)
@[simp] theorem State.setSlotOf_lports (s : State) (p : Fin 4) (x : ParseSlot) : (s.setSlotOf p x).lports = s.lports := State.setSlotOf_keeps p x (List.Subset.refl _) (SameBut.refl _ s) .lports (by decide)
@[simp] theorem State.setSlotOf_mdio (s : State) (p : Fin 4) (x : ParseSlot) : (s.setSlotOf p x).mdio = s.mdio := State.setSlotOf_keeps p x (List.Subset.refl _) (SameBut.refl _ s) .mdio (by decide)
@[simp] theorem State.setSlotOf_tim (s : State) (p : Fin 4) (x : ParseSlot) : (s.setSlotOf p x).tim = s.tim := State.setSlotOf_keeps p x (List.Subset.refl _) (SameBut.refl _ s) .tim (by decide)
@[simp] theorem State.setSlotOf_evt (s : State) (p : Fin 4) (x : ParseSlot) : (s.setSlotOf p x).evt = s.evt := State.setSlotOf_keeps p x (List.Subset.refl _) (SameBut.refl _ s) .evt (by decide)
@[simp] theorem State.setSlotOf_log (s : State) (p : Fin 4) (x : ParseSlot) : (s.setSlotOf p x).log = s.log := State.setSlotOf_keeps p x (List.Subset.refl _) (SameBut.refl _ s) .log (by decide)
@[simp] theorem State.setSlotOf_tsk (s : State) (p : Fin 4) (x : ParseSlot) : (s.setSlotOf p x).tsk = s.tsk := State.setSlotOf_keeps p x (List.Subset.refl _) (SameBut.refl _ s) .tsk (by decide)
@[simp] theorem State.setSlotOf_cpu (s : State) (p : Fin 4) (x : ParseSlot) : (s.setSlotOf p x).cpu = s.cpu := State.setSlotOf_keeps p x (List.Subset.refl _) (SameBut.refl _ s) .cpu (by decide)
@[simp] theorem State.setSlotOf_pwr (s : State) (p : Fin 4) (x : ParseSlot) : (s.setSlotOf p x).pwr = s.pwr := State.setSlotOf_keeps p x (List.Subset.refl _) (SameBut.refl _ s) .pwr (by decide)
@[simp] theorem State.setSlotOf_rst (s : State) (p : Fin 4) (x : ParseSlot) : (s.setSlotOf p x).rst = s.rst := State.setSlotOf_keeps p x (List.Subset.refl _) (SameBut.refl _ s) .rst (by decide)
@[simp] theorem State.setSlotOf_sys (s : State) (p : Fin 4) (x : ParseSlot) : (s.setSlotOf p x).sys = s.sys := State.setSlotOf_keeps p x (List.Subset.refl _) (SameBut.refl _ s) .sys (by decide)
@[simp] theorem State.setSlotOf_hif (s : State) (p : Fin 4) (x : ParseSlot) : (s.setSlotOf p x).hif = s.hif := State.setSlotOf_keeps p x (List.Subset.refl _) (SameBut.refl _ s) .hif (by decide)
@[simp] theorem State.setSlotOf_pins (s : State) (p : Fin 4) (x : ParseSlot) : (s.setSlotOf p x).pins = s.pins := State.setSlotOf_keeps p x (List.Subset.refl _) (SameBut.refl _ s) .pins (by decide)
@[simp] theorem State.setSlotOf_clock (s : State) (p : Fin 4) (x : ParseSlot) : (s.setSlotOf p x).clock = s.clock := State.setSlotOf_keeps p x (List.Subset.refl _) (SameBut.refl _ s) .clock (by decide)
@[simp] theorem State.setSlotOf_timers (s : State) (p : Fin 4) (x : ParseSlot) : (s.setSlotOf p x).timers = s.timers := State.setSlotOf_keeps p x (List.Subset.refl _) (SameBut.refl _ s) .timers (by decide)
@[simp] theorem State.setSlotOf_pending (s : State) (p : Fin 4) (x : ParseSlot) : (s.setSlotOf p x).pending = s.pending := State.setSlotOf_keeps p x (List.Subset.refl _) (SameBut.refl _ s) .pending (by decide)
@[simp] theorem State.setSlotOf_dark (s : State) (p : Fin 4) (x : ParseSlot) : (s.setSlotOf p x).dark = s.dark := State.setSlotOf_keeps p x (List.Subset.refl _) (SameBut.refl _ s) .dark (by decide)
@[simp] theorem State.setSlotOf_resp (s : State) (p : Fin 4) (x : ParseSlot) : (s.setSlotOf p x).resp = s.resp := State.setSlotOf_keeps p x (List.Subset.refl _) (SameBut.refl _ s) .resp (by decide)
@[simp] theorem State.setSlotOf_out (s : State) (p : Fin 4) (x : ParseSlot) : (s.setSlotOf p x).out = s.out := State.setSlotOf_keeps p x (List.Subset.refl _) (SameBut.refl _ s) .out (by decide)
@[simp] theorem State.setSlotOf_fresh (s : State) (p : Fin 4) (x : ParseSlot) : (s.setSlotOf p x).fresh = s.fresh := State.setSlotOf_keeps p x (List.Subset.refl _) (SameBut.refl _ s) .fresh (by decide)
@[simp] theorem State.setSlotOf_rd (s : State) (p : Fin 4) (x : ParseSlot) (k : Nat) : (s.setSlotOf p x).rd k = s.rd k := State.rd_of_regs (State.setSlotOf_regs s p x) k
@[simp] theorem State.setSlotOf_fld (s : State) (p : Fin 4) (x : ParseSlot) (g_ : Fld) : (s.setSlotOf p x).fld g_ = s.fld g_ := State.fld_of_regs (State.setSlotOf_regs s p x) g_
@[simp] theorem State.setSlotOf_bit (s : State) (p : Fin 4) (x : ParseSlot) (g_ : Fld) : (s.setSlotOf p x).bit g_ = s.bit g_ := State.bit_of_regs (State.setSlotOf_regs s p x) g_
@[simp] theorem State.setSlotOf_running (s : State) (p : Fin 4) (x : ParseSlot) (g_ : Nat) : (s.setSlotOf p x).running g_ = s.running g_ := State.running_of_timers (State.setSlotOf_timers s p x) g_
@[simp] theorem State.setSlotOf_domOn (s : State) (p : Fin 4) (x : ParseSlot) (g_ : Nat) : (s.setSlotOf p x).domOn g_ = s.domOn g_ := State.domOn_of_pwr (State.setSlotOf_pwr s p x) g_

/-! `State.setCtx` -/

@[simp] theorem State.setCtx_regs (s : State) (ext : Bool) (i : Nat) (bs : List Byte) : (s.setCtx ext i bs).regs = s.regs := State.setCtx_keeps ext i bs (List.Subset.refl _) (SameBut.refl _ s) .regs (by decide)
@[simp] theorem State.setCtx_shown (s : State) (ext : Bool) (i : Nat) (bs : List Byte) : (s.setCtx ext i bs).shown = s.shown := State.setCtx_keeps ext i bs (List.Subset.refl _) (SameBut.refl _ s) .shown (by decide)
@[simp] theorem State.setCtx_mirror (s : State) (ext : Bool) (i : Nat) (bs : List Byte) : (s.setCtx ext i bs).mirror = s.mirror := State.setCtx_keeps ext i bs (List.Subset.refl _) (SameBut.refl _ s) .mirror (by decide)
@[simp] theorem State.setCtx_seam (s : State) (ext : Bool) (i : Nat) (bs : List Byte) : (s.setCtx ext i bs).seam = s.seam := State.setCtx_keeps ext i bs (List.Subset.refl _) (SameBut.refl _ s) .seam (by decide)
@[simp] theorem State.setCtx_cmt (s : State) (ext : Bool) (i : Nat) (bs : List Byte) : (s.setCtx ext i bs).cmt = s.cmt := State.setCtx_keeps ext i bs (List.Subset.refl _) (SameBut.refl _ s) .cmt (by decide)
@[simp] theorem State.setCtx_own (s : State) (ext : Bool) (i : Nat) (bs : List Byte) : (s.setCtx ext i bs).own = s.own := State.setCtx_keeps ext i bs (List.Subset.refl _) (SameBut.refl _ s) .own (by decide)
@[simp] theorem State.setCtx_nextPkt (s : State) (ext : Bool) (i : Nat) (bs : List Byte) : (s.setCtx ext i bs).nextPkt = s.nextPkt := State.setCtx_keeps ext i bs (List.Subset.refl _) (SameBut.refl _ s) .nextPkt (by decide)
@[simp] theorem State.setCtx_rx (s : State) (ext : Bool) (i : Nat) (bs : List Byte) : (s.setCtx ext i bs).rx = s.rx := State.setCtx_keeps ext i bs (List.Subset.refl _) (SameBut.refl _ s) .rx (by decide)
@[simp] theorem State.setCtx_dsf (s : State) (ext : Bool) (i : Nat) (bs : List Byte) : (s.setCtx ext i bs).dsf = s.dsf := State.setCtx_keeps ext i bs (List.Subset.refl _) (SameBut.refl _ s) .dsf (by decide)
@[simp] theorem State.setCtx_tmap (s : State) (ext : Bool) (i : Nat) (bs : List Byte) : (s.setCtx ext i bs).tmap = s.tmap := State.setCtx_keeps ext i bs (List.Subset.refl _) (SameBut.refl _ s) .tmap (by decide)
@[simp] theorem State.setCtx_tribs (s : State) (ext : Bool) (i : Nat) (bs : List Byte) : (s.setCtx ext i bs).tribs = s.tribs := State.setCtx_keeps ext i bs (List.Subset.refl _) (SameBut.refl _ s) .tribs (by decide)
@[simp] theorem State.setCtx_tfrags (s : State) (ext : Bool) (i : Nat) (bs : List Byte) : (s.setCtx ext i bs).tfrags = s.tfrags := State.setCtx_keeps ext i bs (List.Subset.refl _) (SameBut.refl _ s) .tfrags (by decide)
@[simp] theorem State.setCtx_rows (s : State) (ext : Bool) (i : Nat) (bs : List Byte) : (s.setCtx ext i bs).rows = s.rows := State.setCtx_keeps ext i bs (List.Subset.refl _) (SameBut.refl _ s) .rows (by decide)
@[simp] theorem State.setCtx_ttest (s : State) (ext : Bool) (i : Nat) (bs : List Byte) : (s.setCtx ext i bs).ttest = s.ttest := State.setCtx_keeps ext i bs (List.Subset.refl _) (SameBut.refl _ s) .ttest (by decide)
@[simp] theorem State.setCtx_act (s : State) (ext : Bool) (i : Nat) (bs : List Byte) : (s.setCtx ext i bs).act = s.act := State.setCtx_keeps ext i bs (List.Subset.refl _) (SameBut.refl _ s) .act (by decide)
@[simp] theorem State.setCtx_upb (s : State) (ext : Bool) (i : Nat) (bs : List Byte) : (s.setCtx ext i bs).upb = s.upb := State.setCtx_keeps ext i bs (List.Subset.refl _) (SameBut.refl _ s) .upb (by decide)
@[simp] theorem State.setCtx_restarts (s : State) (ext : Bool) (i : Nat) (bs : List Byte) : (s.setCtx ext i bs).restarts = s.restarts := State.setCtx_keeps ext i bs (List.Subset.refl _) (SameBut.refl _ s) .restarts (by decide)
@[simp] theorem State.setCtx_gsm (s : State) (ext : Bool) (i : Nat) (bs : List Byte) : (s.setCtx ext i bs).gsm = s.gsm := State.setCtx_keeps ext i bs (List.Subset.refl _) (SameBut.refl _ s) .gsm (by decide)
@[simp] theorem State.setCtx_txEff (s : State) (ext : Bool) (i : Nat) (bs : List Byte) : (s.setCtx ext i bs).txEff = s.txEff := State.setCtx_keeps ext i bs (List.Subset.refl _) (SameBut.refl _ s) .txEff (by decide)
@[simp] theorem State.setCtx_pairs (s : State) (ext : Bool) (i : Nat) (bs : List Byte) : (s.setCtx ext i bs).pairs = s.pairs := State.setCtx_keeps ext i bs (List.Subset.refl _) (SameBut.refl _ s) .pairs (by decide)
@[simp] theorem State.setCtx_key (s : State) (ext : Bool) (i : Nat) (bs : List Byte) : (s.setCtx ext i bs).key = s.key := State.setCtx_keeps ext i bs (List.Subset.refl _) (SameBut.refl _ s) .key (by decide)
@[simp] theorem State.setCtx_dark (s : State) (ext : Bool) (i : Nat) (bs : List Byte) : (s.setCtx ext i bs).dark = s.dark := State.setCtx_keeps ext i bs (List.Subset.refl _) (SameBut.refl _ s) .dark (by decide)
@[simp] theorem State.setCtx_pipes (s : State) (ext : Bool) (i : Nat) (bs : List Byte) : (s.setCtx ext i bs).pipes = s.pipes := State.setCtx_keeps ext i bs (List.Subset.refl _) (SameBut.refl _ s) .pipes (by decide)
@[simp] theorem State.setCtx_epochs (s : State) (ext : Bool) (i : Nat) (bs : List Byte) : (s.setCtx ext i bs).epochs = s.epochs := State.setCtx_keeps ext i bs (List.Subset.refl _) (SameBut.refl _ s) .epochs (by decide)
@[simp] theorem State.setCtx_prog (s : State) (ext : Bool) (i : Nat) (bs : List Byte) : (s.setCtx ext i bs).prog = s.prog := State.setCtx_keeps ext i bs (List.Subset.refl _) (SameBut.refl _ s) .prog (by decide)
@[simp] theorem State.setCtx_rcnt (s : State) (ext : Bool) (i : Nat) (bs : List Byte) : (s.setCtx ext i bs).rcnt = s.rcnt := State.setCtx_keeps ext i bs (List.Subset.refl _) (SameBut.refl _ s) .rcnt (by decide)
@[simp] theorem State.setCtx_rcntHeld (s : State) (ext : Bool) (i : Nat) (bs : List Byte) : (s.setCtx ext i bs).rcntHeld = s.rcntHeld := State.setCtx_keeps ext i bs (List.Subset.refl _) (SameBut.refl _ s) .rcntHeld (by decide)
@[simp] theorem State.setCtx_excWait (s : State) (ext : Bool) (i : Nat) (bs : List Byte) : (s.setCtx ext i bs).excWait = s.excWait := State.setCtx_keeps ext i bs (List.Subset.refl _) (SameBut.refl _ s) .excWait (by decide)
@[simp] theorem State.setCtx_bufs (s : State) (ext : Bool) (i : Nat) (bs : List Byte) : (s.setCtx ext i bs).bufs = s.bufs := State.setCtx_keeps ext i bs (List.Subset.refl _) (SameBut.refl _ s) .bufs (by decide)
@[simp] theorem State.setCtx_bufRot (s : State) (ext : Bool) (i : Nat) (bs : List Byte) : (s.setCtx ext i bs).bufRot = s.bufRot := State.setCtx_keeps ext i bs (List.Subset.refl _) (SameBut.refl _ s) .bufRot (by decide)
@[simp] theorem State.setCtx_qmap (s : State) (ext : Bool) (i : Nat) (bs : List Byte) : (s.setCtx ext i bs).qmap = s.qmap := State.setCtx_keeps ext i bs (List.Subset.refl _) (SameBut.refl _ s) .qmap (by decide)
@[simp] theorem State.setCtx_memch (s : State) (ext : Bool) (i : Nat) (bs : List Byte) : (s.setCtx ext i bs).memch = s.memch := State.setCtx_keeps ext i bs (List.Subset.refl _) (SameBut.refl _ s) .memch (by decide)
@[simp] theorem State.setCtx_mxe (s : State) (ext : Bool) (i : Nat) (bs : List Byte) : (s.setCtx ext i bs).mxe = s.mxe := State.setCtx_keeps ext i bs (List.Subset.refl _) (SameBut.refl _ s) .mxe (by decide)
@[simp] theorem State.setCtx_queues (s : State) (ext : Bool) (i : Nat) (bs : List Byte) : (s.setCtx ext i bs).queues = s.queues := State.setCtx_keeps ext i bs (List.Subset.refl _) (SameBut.refl _ s) .queues (by decide)
@[simp] theorem State.setCtx_turns (s : State) (ext : Bool) (i : Nat) (bs : List Byte) : (s.setCtx ext i bs).turns = s.turns := State.setCtx_keeps ext i bs (List.Subset.refl _) (SameBut.refl _ s) .turns (by decide)
@[simp] theorem State.setCtx_elig (s : State) (ext : Bool) (i : Nat) (bs : List Byte) : (s.setCtx ext i bs).elig = s.elig := State.setCtx_keeps ext i bs (List.Subset.refl _) (SameBut.refl _ s) .elig (by decide)
@[simp] theorem State.setCtx_shapers (s : State) (ext : Bool) (i : Nat) (bs : List Byte) : (s.setCtx ext i bs).shapers = s.shapers := State.setCtx_keeps ext i bs (List.Subset.refl _) (SameBut.refl _ s) .shapers (by decide)
@[simp] theorem State.setCtx_policers (s : State) (ext : Bool) (i : Nat) (bs : List Byte) : (s.setCtx ext i bs).policers = s.policers := State.setCtx_keeps ext i bs (List.Subset.refl _) (SameBut.refl _ s) .policers (by decide)
@[simp] theorem State.setCtx_gates (s : State) (ext : Bool) (i : Nat) (bs : List Byte) : (s.setCtx ext i bs).gates = s.gates := State.setCtx_keeps ext i bs (List.Subset.refl _) (SameBut.refl _ s) .gates (by decide)
@[simp] theorem State.setCtx_gateBusy (s : State) (ext : Bool) (i : Nat) (bs : List Byte) : (s.setCtx ext i bs).gateBusy = s.gateBusy := State.setCtx_keeps ext i bs (List.Subset.refl _) (SameBut.refl _ s) .gateBusy (by decide)
@[simp] theorem State.setCtx_lanes (s : State) (ext : Bool) (i : Nat) (bs : List Byte) : (s.setCtx ext i bs).lanes = s.lanes := State.setCtx_keeps ext i bs (List.Subset.refl _) (SameBut.refl _ s) .lanes (by decide)
@[simp] theorem State.setCtx_lports (s : State) (ext : Bool) (i : Nat) (bs : List Byte) : (s.setCtx ext i bs).lports = s.lports := State.setCtx_keeps ext i bs (List.Subset.refl _) (SameBut.refl _ s) .lports (by decide)
@[simp] theorem State.setCtx_mdio (s : State) (ext : Bool) (i : Nat) (bs : List Byte) : (s.setCtx ext i bs).mdio = s.mdio := State.setCtx_keeps ext i bs (List.Subset.refl _) (SameBut.refl _ s) .mdio (by decide)
@[simp] theorem State.setCtx_tim (s : State) (ext : Bool) (i : Nat) (bs : List Byte) : (s.setCtx ext i bs).tim = s.tim := State.setCtx_keeps ext i bs (List.Subset.refl _) (SameBut.refl _ s) .tim (by decide)
@[simp] theorem State.setCtx_evt (s : State) (ext : Bool) (i : Nat) (bs : List Byte) : (s.setCtx ext i bs).evt = s.evt := State.setCtx_keeps ext i bs (List.Subset.refl _) (SameBut.refl _ s) .evt (by decide)
@[simp] theorem State.setCtx_log (s : State) (ext : Bool) (i : Nat) (bs : List Byte) : (s.setCtx ext i bs).log = s.log := State.setCtx_keeps ext i bs (List.Subset.refl _) (SameBut.refl _ s) .log (by decide)
@[simp] theorem State.setCtx_tsk (s : State) (ext : Bool) (i : Nat) (bs : List Byte) : (s.setCtx ext i bs).tsk = s.tsk := State.setCtx_keeps ext i bs (List.Subset.refl _) (SameBut.refl _ s) .tsk (by decide)
@[simp] theorem State.setCtx_cpu (s : State) (ext : Bool) (i : Nat) (bs : List Byte) : (s.setCtx ext i bs).cpu = s.cpu := State.setCtx_keeps ext i bs (List.Subset.refl _) (SameBut.refl _ s) .cpu (by decide)
@[simp] theorem State.setCtx_pwr (s : State) (ext : Bool) (i : Nat) (bs : List Byte) : (s.setCtx ext i bs).pwr = s.pwr := State.setCtx_keeps ext i bs (List.Subset.refl _) (SameBut.refl _ s) .pwr (by decide)
@[simp] theorem State.setCtx_rst (s : State) (ext : Bool) (i : Nat) (bs : List Byte) : (s.setCtx ext i bs).rst = s.rst := State.setCtx_keeps ext i bs (List.Subset.refl _) (SameBut.refl _ s) .rst (by decide)
@[simp] theorem State.setCtx_sys (s : State) (ext : Bool) (i : Nat) (bs : List Byte) : (s.setCtx ext i bs).sys = s.sys := State.setCtx_keeps ext i bs (List.Subset.refl _) (SameBut.refl _ s) .sys (by decide)
@[simp] theorem State.setCtx_hif (s : State) (ext : Bool) (i : Nat) (bs : List Byte) : (s.setCtx ext i bs).hif = s.hif := State.setCtx_keeps ext i bs (List.Subset.refl _) (SameBut.refl _ s) .hif (by decide)
@[simp] theorem State.setCtx_pins (s : State) (ext : Bool) (i : Nat) (bs : List Byte) : (s.setCtx ext i bs).pins = s.pins := State.setCtx_keeps ext i bs (List.Subset.refl _) (SameBut.refl _ s) .pins (by decide)
@[simp] theorem State.setCtx_clock (s : State) (ext : Bool) (i : Nat) (bs : List Byte) : (s.setCtx ext i bs).clock = s.clock := State.setCtx_keeps ext i bs (List.Subset.refl _) (SameBut.refl _ s) .clock (by decide)
@[simp] theorem State.setCtx_timers (s : State) (ext : Bool) (i : Nat) (bs : List Byte) : (s.setCtx ext i bs).timers = s.timers := State.setCtx_keeps ext i bs (List.Subset.refl _) (SameBut.refl _ s) .timers (by decide)
@[simp] theorem State.setCtx_pending (s : State) (ext : Bool) (i : Nat) (bs : List Byte) : (s.setCtx ext i bs).pending = s.pending := State.setCtx_keeps ext i bs (List.Subset.refl _) (SameBut.refl _ s) .pending (by decide)
@[simp] theorem State.setCtx_resp (s : State) (ext : Bool) (i : Nat) (bs : List Byte) : (s.setCtx ext i bs).resp = s.resp := State.setCtx_keeps ext i bs (List.Subset.refl _) (SameBut.refl _ s) .resp (by decide)
@[simp] theorem State.setCtx_fresh (s : State) (ext : Bool) (i : Nat) (bs : List Byte) : (s.setCtx ext i bs).fresh = s.fresh := State.setCtx_keeps ext i bs (List.Subset.refl _) (SameBut.refl _ s) .fresh (by decide)
@[simp] theorem State.setCtx_rd (s : State) (ext : Bool) (i : Nat) (bs : List Byte) (g_ : Nat) : (s.setCtx ext i bs).rd g_ = s.rd g_ := State.rd_of_regs (State.setCtx_regs s ext i bs) g_
@[simp] theorem State.setCtx_fld (s : State) (ext : Bool) (i : Nat) (bs : List Byte) (g_ : Fld) : (s.setCtx ext i bs).fld g_ = s.fld g_ := State.fld_of_regs (State.setCtx_regs s ext i bs) g_
@[simp] theorem State.setCtx_bit (s : State) (ext : Bool) (i : Nat) (bs : List Byte) (g_ : Fld) : (s.setCtx ext i bs).bit g_ = s.bit g_ := State.bit_of_regs (State.setCtx_regs s ext i bs) g_
@[simp] theorem State.setCtx_running (s : State) (ext : Bool) (i : Nat) (bs : List Byte) (g_ : Nat) : (s.setCtx ext i bs).running g_ = s.running g_ := State.running_of_timers (State.setCtx_timers s ext i bs) g_
@[simp] theorem State.setCtx_domOn (s : State) (ext : Bool) (i : Nat) (bs : List Byte) (g_ : Nat) : (s.setCtx ext i bs).domOn g_ = s.domOn g_ := State.domOn_of_pwr (State.setCtx_pwr s ext i bs) g_

/-! `State.setTrib` -/

@[simp] theorem State.setTrib_regs (s : State) (ctx : Fin 1024) (x : Trib) : (s.setTrib ctx x).regs = s.regs := (rfl)
@[simp] theorem State.setTrib_shown (s : State) (ctx : Fin 1024) (x : Trib) : (s.setTrib ctx x).shown = s.shown := (rfl)
@[simp] theorem State.setTrib_mirror (s : State) (ctx : Fin 1024) (x : Trib) : (s.setTrib ctx x).mirror = s.mirror := (rfl)
@[simp] theorem State.setTrib_mem (s : State) (ctx : Fin 1024) (x : Trib) : (s.setTrib ctx x).mem = s.mem := (rfl)
@[simp] theorem State.setTrib_seam (s : State) (ctx : Fin 1024) (x : Trib) : (s.setTrib ctx x).seam = s.seam := (rfl)
@[simp] theorem State.setTrib_cmt (s : State) (ctx : Fin 1024) (x : Trib) : (s.setTrib ctx x).cmt = s.cmt := (rfl)
@[simp] theorem State.setTrib_own (s : State) (ctx : Fin 1024) (x : Trib) : (s.setTrib ctx x).own = s.own := (rfl)
@[simp] theorem State.setTrib_nextPkt (s : State) (ctx : Fin 1024) (x : Trib) : (s.setTrib ctx x).nextPkt = s.nextPkt := (rfl)
@[simp] theorem State.setTrib_rx (s : State) (ctx : Fin 1024) (x : Trib) : (s.setTrib ctx x).rx = s.rx := (rfl)
@[simp] theorem State.setTrib_dsf (s : State) (ctx : Fin 1024) (x : Trib) : (s.setTrib ctx x).dsf = s.dsf := (rfl)
@[simp] theorem State.setTrib_tmap (s : State) (ctx : Fin 1024) (x : Trib) : (s.setTrib ctx x).tmap = s.tmap := (rfl)
@[simp] theorem State.setTrib_tfrags (s : State) (ctx : Fin 1024) (x : Trib) : (s.setTrib ctx x).tfrags = s.tfrags := (rfl)
@[simp] theorem State.setTrib_rows (s : State) (ctx : Fin 1024) (x : Trib) : (s.setTrib ctx x).rows = s.rows := (rfl)
@[simp] theorem State.setTrib_ttest (s : State) (ctx : Fin 1024) (x : Trib) : (s.setTrib ctx x).ttest = s.ttest := (rfl)
@[simp] theorem State.setTrib_act (s : State) (ctx : Fin 1024) (x : Trib) : (s.setTrib ctx x).act = s.act := (rfl)
@[simp] theorem State.setTrib_upb (s : State) (ctx : Fin 1024) (x : Trib) : (s.setTrib ctx x).upb = s.upb := (rfl)
@[simp] theorem State.setTrib_restarts (s : State) (ctx : Fin 1024) (x : Trib) : (s.setTrib ctx x).restarts = s.restarts := (rfl)
@[simp] theorem State.setTrib_gsm (s : State) (ctx : Fin 1024) (x : Trib) : (s.setTrib ctx x).gsm = s.gsm := (rfl)
@[simp] theorem State.setTrib_txEff (s : State) (ctx : Fin 1024) (x : Trib) : (s.setTrib ctx x).txEff = s.txEff := (rfl)
@[simp] theorem State.setTrib_pairs (s : State) (ctx : Fin 1024) (x : Trib) : (s.setTrib ctx x).pairs = s.pairs := (rfl)
@[simp] theorem State.setTrib_key (s : State) (ctx : Fin 1024) (x : Trib) : (s.setTrib ctx x).key = s.key := (rfl)
@[simp] theorem State.setTrib_pipes (s : State) (ctx : Fin 1024) (x : Trib) : (s.setTrib ctx x).pipes = s.pipes := (rfl)
@[simp] theorem State.setTrib_epochs (s : State) (ctx : Fin 1024) (x : Trib) : (s.setTrib ctx x).epochs = s.epochs := (rfl)
@[simp] theorem State.setTrib_prog (s : State) (ctx : Fin 1024) (x : Trib) : (s.setTrib ctx x).prog = s.prog := (rfl)
@[simp] theorem State.setTrib_rcnt (s : State) (ctx : Fin 1024) (x : Trib) : (s.setTrib ctx x).rcnt = s.rcnt := (rfl)
@[simp] theorem State.setTrib_rcntHeld (s : State) (ctx : Fin 1024) (x : Trib) : (s.setTrib ctx x).rcntHeld = s.rcntHeld := (rfl)
@[simp] theorem State.setTrib_excWait (s : State) (ctx : Fin 1024) (x : Trib) : (s.setTrib ctx x).excWait = s.excWait := (rfl)
@[simp] theorem State.setTrib_bufs (s : State) (ctx : Fin 1024) (x : Trib) : (s.setTrib ctx x).bufs = s.bufs := (rfl)
@[simp] theorem State.setTrib_bufRot (s : State) (ctx : Fin 1024) (x : Trib) : (s.setTrib ctx x).bufRot = s.bufRot := (rfl)
@[simp] theorem State.setTrib_qmap (s : State) (ctx : Fin 1024) (x : Trib) : (s.setTrib ctx x).qmap = s.qmap := (rfl)
@[simp] theorem State.setTrib_memch (s : State) (ctx : Fin 1024) (x : Trib) : (s.setTrib ctx x).memch = s.memch := (rfl)
@[simp] theorem State.setTrib_ecc (s : State) (ctx : Fin 1024) (x : Trib) : (s.setTrib ctx x).ecc = s.ecc := (rfl)
@[simp] theorem State.setTrib_mxe (s : State) (ctx : Fin 1024) (x : Trib) : (s.setTrib ctx x).mxe = s.mxe := (rfl)
@[simp] theorem State.setTrib_queues (s : State) (ctx : Fin 1024) (x : Trib) : (s.setTrib ctx x).queues = s.queues := (rfl)
@[simp] theorem State.setTrib_turns (s : State) (ctx : Fin 1024) (x : Trib) : (s.setTrib ctx x).turns = s.turns := (rfl)
@[simp] theorem State.setTrib_elig (s : State) (ctx : Fin 1024) (x : Trib) : (s.setTrib ctx x).elig = s.elig := (rfl)
@[simp] theorem State.setTrib_shapers (s : State) (ctx : Fin 1024) (x : Trib) : (s.setTrib ctx x).shapers = s.shapers := (rfl)
@[simp] theorem State.setTrib_policers (s : State) (ctx : Fin 1024) (x : Trib) : (s.setTrib ctx x).policers = s.policers := (rfl)
@[simp] theorem State.setTrib_gates (s : State) (ctx : Fin 1024) (x : Trib) : (s.setTrib ctx x).gates = s.gates := (rfl)
@[simp] theorem State.setTrib_gateBusy (s : State) (ctx : Fin 1024) (x : Trib) : (s.setTrib ctx x).gateBusy = s.gateBusy := (rfl)
@[simp] theorem State.setTrib_lanes (s : State) (ctx : Fin 1024) (x : Trib) : (s.setTrib ctx x).lanes = s.lanes := (rfl)
@[simp] theorem State.setTrib_lports (s : State) (ctx : Fin 1024) (x : Trib) : (s.setTrib ctx x).lports = s.lports := (rfl)
@[simp] theorem State.setTrib_mdio (s : State) (ctx : Fin 1024) (x : Trib) : (s.setTrib ctx x).mdio = s.mdio := (rfl)
@[simp] theorem State.setTrib_tim (s : State) (ctx : Fin 1024) (x : Trib) : (s.setTrib ctx x).tim = s.tim := (rfl)
@[simp] theorem State.setTrib_evt (s : State) (ctx : Fin 1024) (x : Trib) : (s.setTrib ctx x).evt = s.evt := (rfl)
@[simp] theorem State.setTrib_log (s : State) (ctx : Fin 1024) (x : Trib) : (s.setTrib ctx x).log = s.log := (rfl)
@[simp] theorem State.setTrib_tsk (s : State) (ctx : Fin 1024) (x : Trib) : (s.setTrib ctx x).tsk = s.tsk := (rfl)
@[simp] theorem State.setTrib_cpu (s : State) (ctx : Fin 1024) (x : Trib) : (s.setTrib ctx x).cpu = s.cpu := (rfl)
@[simp] theorem State.setTrib_pwr (s : State) (ctx : Fin 1024) (x : Trib) : (s.setTrib ctx x).pwr = s.pwr := (rfl)
@[simp] theorem State.setTrib_rst (s : State) (ctx : Fin 1024) (x : Trib) : (s.setTrib ctx x).rst = s.rst := (rfl)
@[simp] theorem State.setTrib_sys (s : State) (ctx : Fin 1024) (x : Trib) : (s.setTrib ctx x).sys = s.sys := (rfl)
@[simp] theorem State.setTrib_hif (s : State) (ctx : Fin 1024) (x : Trib) : (s.setTrib ctx x).hif = s.hif := (rfl)
@[simp] theorem State.setTrib_pins (s : State) (ctx : Fin 1024) (x : Trib) : (s.setTrib ctx x).pins = s.pins := (rfl)
@[simp] theorem State.setTrib_clock (s : State) (ctx : Fin 1024) (x : Trib) : (s.setTrib ctx x).clock = s.clock := (rfl)
@[simp] theorem State.setTrib_timers (s : State) (ctx : Fin 1024) (x : Trib) : (s.setTrib ctx x).timers = s.timers := (rfl)
@[simp] theorem State.setTrib_pending (s : State) (ctx : Fin 1024) (x : Trib) : (s.setTrib ctx x).pending = s.pending := (rfl)
@[simp] theorem State.setTrib_dark (s : State) (ctx : Fin 1024) (x : Trib) : (s.setTrib ctx x).dark = s.dark := (rfl)
@[simp] theorem State.setTrib_resp (s : State) (ctx : Fin 1024) (x : Trib) : (s.setTrib ctx x).resp = s.resp := (rfl)
@[simp] theorem State.setTrib_out (s : State) (ctx : Fin 1024) (x : Trib) : (s.setTrib ctx x).out = s.out := (rfl)
@[simp] theorem State.setTrib_fresh (s : State) (ctx : Fin 1024) (x : Trib) : (s.setTrib ctx x).fresh = s.fresh := (rfl)
@[simp] theorem State.setTrib_rd (s : State) (ctx : Fin 1024) (x : Trib) (k : Nat) : (s.setTrib ctx x).rd k = s.rd k := State.rd_of_regs (State.setTrib_regs s ctx x) k
@[simp] theorem State.setTrib_fld (s : State) (ctx : Fin 1024) (x : Trib) (g_ : Fld) : (s.setTrib ctx x).fld g_ = s.fld g_ := State.fld_of_regs (State.setTrib_regs s ctx x) g_
@[simp] theorem State.setTrib_bit (s : State) (ctx : Fin 1024) (x : Trib) (g_ : Fld) : (s.setTrib ctx x).bit g_ = s.bit g_ := State.bit_of_regs (State.setTrib_regs s ctx x) g_
@[simp] theorem State.setTrib_running (s : State) (ctx : Fin 1024) (x : Trib) (g_ : Nat) : (s.setTrib ctx x).running g_ = s.running g_ := State.running_of_timers (State.setTrib_timers s ctx x) g_
@[simp] theorem State.setTrib_domOn (s : State) (ctx : Fin 1024) (x : Trib) (g_ : Nat) : (s.setTrib ctx x).domOn g_ = s.domOn g_ := State.domOn_of_pwr (State.setTrib_pwr s ctx x) g_

/-! `State.setPolicers` -/

@[simp] theorem State.setPolicers_regs (s : State) (i : Fin 4) : (s.setPolicers i).regs = s.regs := State.setPolicers_keeps i (List.Subset.refl _) (SameBut.refl _ s) .regs (by decide)
@[simp] theorem State.setPolicers_shown (s : State) (i : Fin 4) : (s.setPolicers i).shown = s.shown := State.setPolicers_keeps i (List.Subset.refl _) (SameBut.refl _ s) .shown (by decide)
@[simp] theorem State.setPolicers_mirror (s : State) (i : Fin 4) : (s.setPolicers i).mirror = s.mirror := State.setPolicers_keeps i (List.Subset.refl _) (SameBut.refl _ s) .mirror (by decide)
@[simp] theorem State.setPolicers_mem (s : State) (i : Fin 4) : (s.setPolicers i).mem = s.mem := State.setPolicers_keeps i (List.Subset.refl _) (SameBut.refl _ s) .mem (by decide)
@[simp] theorem State.setPolicers_seam (s : State) (i : Fin 4) : (s.setPolicers i).seam = s.seam := State.setPolicers_keeps i (List.Subset.refl _) (SameBut.refl _ s) .seam (by decide)
@[simp] theorem State.setPolicers_cmt (s : State) (i : Fin 4) : (s.setPolicers i).cmt = s.cmt := State.setPolicers_keeps i (List.Subset.refl _) (SameBut.refl _ s) .cmt (by decide)
@[simp] theorem State.setPolicers_own (s : State) (i : Fin 4) : (s.setPolicers i).own = s.own := State.setPolicers_keeps i (List.Subset.refl _) (SameBut.refl _ s) .own (by decide)
@[simp] theorem State.setPolicers_nextPkt (s : State) (i : Fin 4) : (s.setPolicers i).nextPkt = s.nextPkt := State.setPolicers_keeps i (List.Subset.refl _) (SameBut.refl _ s) .nextPkt (by decide)
@[simp] theorem State.setPolicers_rx (s : State) (i : Fin 4) : (s.setPolicers i).rx = s.rx := State.setPolicers_keeps i (List.Subset.refl _) (SameBut.refl _ s) .rx (by decide)
@[simp] theorem State.setPolicers_dsf (s : State) (i : Fin 4) : (s.setPolicers i).dsf = s.dsf := State.setPolicers_keeps i (List.Subset.refl _) (SameBut.refl _ s) .dsf (by decide)
@[simp] theorem State.setPolicers_tmap (s : State) (i : Fin 4) : (s.setPolicers i).tmap = s.tmap := State.setPolicers_keeps i (List.Subset.refl _) (SameBut.refl _ s) .tmap (by decide)
@[simp] theorem State.setPolicers_tribs (s : State) (i : Fin 4) : (s.setPolicers i).tribs = s.tribs := State.setPolicers_keeps i (List.Subset.refl _) (SameBut.refl _ s) .tribs (by decide)
@[simp] theorem State.setPolicers_tfrags (s : State) (i : Fin 4) : (s.setPolicers i).tfrags = s.tfrags := State.setPolicers_keeps i (List.Subset.refl _) (SameBut.refl _ s) .tfrags (by decide)
@[simp] theorem State.setPolicers_rows (s : State) (i : Fin 4) : (s.setPolicers i).rows = s.rows := State.setPolicers_keeps i (List.Subset.refl _) (SameBut.refl _ s) .rows (by decide)
@[simp] theorem State.setPolicers_ttest (s : State) (i : Fin 4) : (s.setPolicers i).ttest = s.ttest := State.setPolicers_keeps i (List.Subset.refl _) (SameBut.refl _ s) .ttest (by decide)
@[simp] theorem State.setPolicers_act (s : State) (i : Fin 4) : (s.setPolicers i).act = s.act := State.setPolicers_keeps i (List.Subset.refl _) (SameBut.refl _ s) .act (by decide)
@[simp] theorem State.setPolicers_upb (s : State) (i : Fin 4) : (s.setPolicers i).upb = s.upb := State.setPolicers_keeps i (List.Subset.refl _) (SameBut.refl _ s) .upb (by decide)
@[simp] theorem State.setPolicers_restarts (s : State) (i : Fin 4) : (s.setPolicers i).restarts = s.restarts := State.setPolicers_keeps i (List.Subset.refl _) (SameBut.refl _ s) .restarts (by decide)
@[simp] theorem State.setPolicers_gsm (s : State) (i : Fin 4) : (s.setPolicers i).gsm = s.gsm := State.setPolicers_keeps i (List.Subset.refl _) (SameBut.refl _ s) .gsm (by decide)
@[simp] theorem State.setPolicers_txEff (s : State) (i : Fin 4) : (s.setPolicers i).txEff = s.txEff := State.setPolicers_keeps i (List.Subset.refl _) (SameBut.refl _ s) .txEff (by decide)
@[simp] theorem State.setPolicers_pairs (s : State) (i : Fin 4) : (s.setPolicers i).pairs = s.pairs := State.setPolicers_keeps i (List.Subset.refl _) (SameBut.refl _ s) .pairs (by decide)
@[simp] theorem State.setPolicers_key (s : State) (i : Fin 4) : (s.setPolicers i).key = s.key := State.setPolicers_keeps i (List.Subset.refl _) (SameBut.refl _ s) .key (by decide)
@[simp] theorem State.setPolicers_pipes (s : State) (i : Fin 4) : (s.setPolicers i).pipes = s.pipes := State.setPolicers_keeps i (List.Subset.refl _) (SameBut.refl _ s) .pipes (by decide)
@[simp] theorem State.setPolicers_epochs (s : State) (i : Fin 4) : (s.setPolicers i).epochs = s.epochs := State.setPolicers_keeps i (List.Subset.refl _) (SameBut.refl _ s) .epochs (by decide)
@[simp] theorem State.setPolicers_prog (s : State) (i : Fin 4) : (s.setPolicers i).prog = s.prog := State.setPolicers_keeps i (List.Subset.refl _) (SameBut.refl _ s) .prog (by decide)
@[simp] theorem State.setPolicers_rcnt (s : State) (i : Fin 4) : (s.setPolicers i).rcnt = s.rcnt := State.setPolicers_keeps i (List.Subset.refl _) (SameBut.refl _ s) .rcnt (by decide)
@[simp] theorem State.setPolicers_rcntHeld (s : State) (i : Fin 4) : (s.setPolicers i).rcntHeld = s.rcntHeld := State.setPolicers_keeps i (List.Subset.refl _) (SameBut.refl _ s) .rcntHeld (by decide)
@[simp] theorem State.setPolicers_excWait (s : State) (i : Fin 4) : (s.setPolicers i).excWait = s.excWait := State.setPolicers_keeps i (List.Subset.refl _) (SameBut.refl _ s) .excWait (by decide)
@[simp] theorem State.setPolicers_bufs (s : State) (i : Fin 4) : (s.setPolicers i).bufs = s.bufs := State.setPolicers_keeps i (List.Subset.refl _) (SameBut.refl _ s) .bufs (by decide)
@[simp] theorem State.setPolicers_bufRot (s : State) (i : Fin 4) : (s.setPolicers i).bufRot = s.bufRot := State.setPolicers_keeps i (List.Subset.refl _) (SameBut.refl _ s) .bufRot (by decide)
@[simp] theorem State.setPolicers_qmap (s : State) (i : Fin 4) : (s.setPolicers i).qmap = s.qmap := State.setPolicers_keeps i (List.Subset.refl _) (SameBut.refl _ s) .qmap (by decide)
@[simp] theorem State.setPolicers_memch (s : State) (i : Fin 4) : (s.setPolicers i).memch = s.memch := State.setPolicers_keeps i (List.Subset.refl _) (SameBut.refl _ s) .memch (by decide)
@[simp] theorem State.setPolicers_ecc (s : State) (i : Fin 4) : (s.setPolicers i).ecc = s.ecc := State.setPolicers_keeps i (List.Subset.refl _) (SameBut.refl _ s) .ecc (by decide)
@[simp] theorem State.setPolicers_mxe (s : State) (i : Fin 4) : (s.setPolicers i).mxe = s.mxe := State.setPolicers_keeps i (List.Subset.refl _) (SameBut.refl _ s) .mxe (by decide)
@[simp] theorem State.setPolicers_queues (s : State) (i : Fin 4) : (s.setPolicers i).queues = s.queues := State.setPolicers_keeps i (List.Subset.refl _) (SameBut.refl _ s) .queues (by decide)
@[simp] theorem State.setPolicers_turns (s : State) (i : Fin 4) : (s.setPolicers i).turns = s.turns := State.setPolicers_keeps i (List.Subset.refl _) (SameBut.refl _ s) .turns (by decide)
@[simp] theorem State.setPolicers_elig (s : State) (i : Fin 4) : (s.setPolicers i).elig = s.elig := State.setPolicers_keeps i (List.Subset.refl _) (SameBut.refl _ s) .elig (by decide)
@[simp] theorem State.setPolicers_shapers (s : State) (i : Fin 4) : (s.setPolicers i).shapers = s.shapers := State.setPolicers_keeps i (List.Subset.refl _) (SameBut.refl _ s) .shapers (by decide)
@[simp] theorem State.setPolicers_gates (s : State) (i : Fin 4) : (s.setPolicers i).gates = s.gates := State.setPolicers_keeps i (List.Subset.refl _) (SameBut.refl _ s) .gates (by decide)
@[simp] theorem State.setPolicers_gateBusy (s : State) (i : Fin 4) : (s.setPolicers i).gateBusy = s.gateBusy := State.setPolicers_keeps i (List.Subset.refl _) (SameBut.refl _ s) .gateBusy (by decide)
@[simp] theorem State.setPolicers_lanes (s : State) (i : Fin 4) : (s.setPolicers i).lanes = s.lanes := State.setPolicers_keeps i (List.Subset.refl _) (SameBut.refl _ s) .lanes (by decide)
@[simp] theorem State.setPolicers_lports (s : State) (i : Fin 4) : (s.setPolicers i).lports = s.lports := State.setPolicers_keeps i (List.Subset.refl _) (SameBut.refl _ s) .lports (by decide)
@[simp] theorem State.setPolicers_mdio (s : State) (i : Fin 4) : (s.setPolicers i).mdio = s.mdio := State.setPolicers_keeps i (List.Subset.refl _) (SameBut.refl _ s) .mdio (by decide)
@[simp] theorem State.setPolicers_tim (s : State) (i : Fin 4) : (s.setPolicers i).tim = s.tim := State.setPolicers_keeps i (List.Subset.refl _) (SameBut.refl _ s) .tim (by decide)
@[simp] theorem State.setPolicers_evt (s : State) (i : Fin 4) : (s.setPolicers i).evt = s.evt := State.setPolicers_keeps i (List.Subset.refl _) (SameBut.refl _ s) .evt (by decide)
@[simp] theorem State.setPolicers_log (s : State) (i : Fin 4) : (s.setPolicers i).log = s.log := State.setPolicers_keeps i (List.Subset.refl _) (SameBut.refl _ s) .log (by decide)
@[simp] theorem State.setPolicers_tsk (s : State) (i : Fin 4) : (s.setPolicers i).tsk = s.tsk := State.setPolicers_keeps i (List.Subset.refl _) (SameBut.refl _ s) .tsk (by decide)
@[simp] theorem State.setPolicers_cpu (s : State) (i : Fin 4) : (s.setPolicers i).cpu = s.cpu := State.setPolicers_keeps i (List.Subset.refl _) (SameBut.refl _ s) .cpu (by decide)
@[simp] theorem State.setPolicers_pwr (s : State) (i : Fin 4) : (s.setPolicers i).pwr = s.pwr := State.setPolicers_keeps i (List.Subset.refl _) (SameBut.refl _ s) .pwr (by decide)
@[simp] theorem State.setPolicers_rst (s : State) (i : Fin 4) : (s.setPolicers i).rst = s.rst := State.setPolicers_keeps i (List.Subset.refl _) (SameBut.refl _ s) .rst (by decide)
@[simp] theorem State.setPolicers_sys (s : State) (i : Fin 4) : (s.setPolicers i).sys = s.sys := State.setPolicers_keeps i (List.Subset.refl _) (SameBut.refl _ s) .sys (by decide)
@[simp] theorem State.setPolicers_hif (s : State) (i : Fin 4) : (s.setPolicers i).hif = s.hif := State.setPolicers_keeps i (List.Subset.refl _) (SameBut.refl _ s) .hif (by decide)
@[simp] theorem State.setPolicers_pins (s : State) (i : Fin 4) : (s.setPolicers i).pins = s.pins := State.setPolicers_keeps i (List.Subset.refl _) (SameBut.refl _ s) .pins (by decide)
@[simp] theorem State.setPolicers_clock (s : State) (i : Fin 4) : (s.setPolicers i).clock = s.clock := State.setPolicers_keeps i (List.Subset.refl _) (SameBut.refl _ s) .clock (by decide)
@[simp] theorem State.setPolicers_timers (s : State) (i : Fin 4) : (s.setPolicers i).timers = s.timers := State.setPolicers_keeps i (List.Subset.refl _) (SameBut.refl _ s) .timers (by decide)
@[simp] theorem State.setPolicers_pending (s : State) (i : Fin 4) : (s.setPolicers i).pending = s.pending := State.setPolicers_keeps i (List.Subset.refl _) (SameBut.refl _ s) .pending (by decide)
@[simp] theorem State.setPolicers_dark (s : State) (i : Fin 4) : (s.setPolicers i).dark = s.dark := State.setPolicers_keeps i (List.Subset.refl _) (SameBut.refl _ s) .dark (by decide)
@[simp] theorem State.setPolicers_resp (s : State) (i : Fin 4) : (s.setPolicers i).resp = s.resp := State.setPolicers_keeps i (List.Subset.refl _) (SameBut.refl _ s) .resp (by decide)
@[simp] theorem State.setPolicers_out (s : State) (i : Fin 4) : (s.setPolicers i).out = s.out := State.setPolicers_keeps i (List.Subset.refl _) (SameBut.refl _ s) .out (by decide)
@[simp] theorem State.setPolicers_fresh (s : State) (i : Fin 4) : (s.setPolicers i).fresh = s.fresh := State.setPolicers_keeps i (List.Subset.refl _) (SameBut.refl _ s) .fresh (by decide)
@[simp] theorem State.setPolicers_rd (s : State) (i : Fin 4) (k : Nat) : (s.setPolicers i).rd k = s.rd k := State.rd_of_regs (State.setPolicers_regs s i) k
@[simp] theorem State.setPolicers_fld (s : State) (i : Fin 4) (g_ : Fld) : (s.setPolicers i).fld g_ = s.fld g_ := State.fld_of_regs (State.setPolicers_regs s i) g_
@[simp] theorem State.setPolicers_bit (s : State) (i : Fin 4) (g_ : Fld) : (s.setPolicers i).bit g_ = s.bit g_ := State.bit_of_regs (State.setPolicers_regs s i) g_
@[simp] theorem State.setPolicers_running (s : State) (i : Fin 4) (g_ : Nat) : (s.setPolicers i).running g_ = s.running g_ := State.running_of_timers (State.setPolicers_timers s i) g_
@[simp] theorem State.setPolicers_domOn (s : State) (i : Fin 4) (g_ : Nat) : (s.setPolicers i).domOn g_ = s.domOn g_ := State.domOn_of_pwr (State.setPolicers_pwr s i) g_

/-! `State.setLane` -/

@[simp] theorem State.setLane_regs (s : State) (l : Fin 48) (x : Lane) : (s.setLane l x).regs = s.regs := (rfl)
@[simp] theorem State.setLane_shown (s : State) (l : Fin 48) (x : Lane) : (s.setLane l x).shown = s.shown := (rfl)
@[simp] theorem State.setLane_mirror (s : State) (l : Fin 48) (x : Lane) : (s.setLane l x).mirror = s.mirror := (rfl)
@[simp] theorem State.setLane_mem (s : State) (l : Fin 48) (x : Lane) : (s.setLane l x).mem = s.mem := (rfl)
@[simp] theorem State.setLane_seam (s : State) (l : Fin 48) (x : Lane) : (s.setLane l x).seam = s.seam := (rfl)
@[simp] theorem State.setLane_cmt (s : State) (l : Fin 48) (x : Lane) : (s.setLane l x).cmt = s.cmt := (rfl)
@[simp] theorem State.setLane_own (s : State) (l : Fin 48) (x : Lane) : (s.setLane l x).own = s.own := (rfl)
@[simp] theorem State.setLane_nextPkt (s : State) (l : Fin 48) (x : Lane) : (s.setLane l x).nextPkt = s.nextPkt := (rfl)
@[simp] theorem State.setLane_rx (s : State) (l : Fin 48) (x : Lane) : (s.setLane l x).rx = s.rx := (rfl)
@[simp] theorem State.setLane_dsf (s : State) (l : Fin 48) (x : Lane) : (s.setLane l x).dsf = s.dsf := (rfl)
@[simp] theorem State.setLane_tmap (s : State) (l : Fin 48) (x : Lane) : (s.setLane l x).tmap = s.tmap := (rfl)
@[simp] theorem State.setLane_tribs (s : State) (l : Fin 48) (x : Lane) : (s.setLane l x).tribs = s.tribs := (rfl)
@[simp] theorem State.setLane_tfrags (s : State) (l : Fin 48) (x : Lane) : (s.setLane l x).tfrags = s.tfrags := (rfl)
@[simp] theorem State.setLane_rows (s : State) (l : Fin 48) (x : Lane) : (s.setLane l x).rows = s.rows := (rfl)
@[simp] theorem State.setLane_ttest (s : State) (l : Fin 48) (x : Lane) : (s.setLane l x).ttest = s.ttest := (rfl)
@[simp] theorem State.setLane_act (s : State) (l : Fin 48) (x : Lane) : (s.setLane l x).act = s.act := (rfl)
@[simp] theorem State.setLane_upb (s : State) (l : Fin 48) (x : Lane) : (s.setLane l x).upb = s.upb := (rfl)
@[simp] theorem State.setLane_restarts (s : State) (l : Fin 48) (x : Lane) : (s.setLane l x).restarts = s.restarts := (rfl)
@[simp] theorem State.setLane_gsm (s : State) (l : Fin 48) (x : Lane) : (s.setLane l x).gsm = s.gsm := (rfl)
@[simp] theorem State.setLane_txEff (s : State) (l : Fin 48) (x : Lane) : (s.setLane l x).txEff = s.txEff := (rfl)
@[simp] theorem State.setLane_pairs (s : State) (l : Fin 48) (x : Lane) : (s.setLane l x).pairs = s.pairs := (rfl)
@[simp] theorem State.setLane_key (s : State) (l : Fin 48) (x : Lane) : (s.setLane l x).key = s.key := (rfl)
@[simp] theorem State.setLane_pipes (s : State) (l : Fin 48) (x : Lane) : (s.setLane l x).pipes = s.pipes := (rfl)
@[simp] theorem State.setLane_epochs (s : State) (l : Fin 48) (x : Lane) : (s.setLane l x).epochs = s.epochs := (rfl)
@[simp] theorem State.setLane_prog (s : State) (l : Fin 48) (x : Lane) : (s.setLane l x).prog = s.prog := (rfl)
@[simp] theorem State.setLane_rcnt (s : State) (l : Fin 48) (x : Lane) : (s.setLane l x).rcnt = s.rcnt := (rfl)
@[simp] theorem State.setLane_rcntHeld (s : State) (l : Fin 48) (x : Lane) : (s.setLane l x).rcntHeld = s.rcntHeld := (rfl)
@[simp] theorem State.setLane_excWait (s : State) (l : Fin 48) (x : Lane) : (s.setLane l x).excWait = s.excWait := (rfl)
@[simp] theorem State.setLane_bufs (s : State) (l : Fin 48) (x : Lane) : (s.setLane l x).bufs = s.bufs := (rfl)
@[simp] theorem State.setLane_bufRot (s : State) (l : Fin 48) (x : Lane) : (s.setLane l x).bufRot = s.bufRot := (rfl)
@[simp] theorem State.setLane_qmap (s : State) (l : Fin 48) (x : Lane) : (s.setLane l x).qmap = s.qmap := (rfl)
@[simp] theorem State.setLane_memch (s : State) (l : Fin 48) (x : Lane) : (s.setLane l x).memch = s.memch := (rfl)
@[simp] theorem State.setLane_ecc (s : State) (l : Fin 48) (x : Lane) : (s.setLane l x).ecc = s.ecc := (rfl)
@[simp] theorem State.setLane_mxe (s : State) (l : Fin 48) (x : Lane) : (s.setLane l x).mxe = s.mxe := (rfl)
@[simp] theorem State.setLane_queues (s : State) (l : Fin 48) (x : Lane) : (s.setLane l x).queues = s.queues := (rfl)
@[simp] theorem State.setLane_turns (s : State) (l : Fin 48) (x : Lane) : (s.setLane l x).turns = s.turns := (rfl)
@[simp] theorem State.setLane_elig (s : State) (l : Fin 48) (x : Lane) : (s.setLane l x).elig = s.elig := (rfl)
@[simp] theorem State.setLane_shapers (s : State) (l : Fin 48) (x : Lane) : (s.setLane l x).shapers = s.shapers := (rfl)
@[simp] theorem State.setLane_policers (s : State) (l : Fin 48) (x : Lane) : (s.setLane l x).policers = s.policers := (rfl)
@[simp] theorem State.setLane_gates (s : State) (l : Fin 48) (x : Lane) : (s.setLane l x).gates = s.gates := (rfl)
@[simp] theorem State.setLane_gateBusy (s : State) (l : Fin 48) (x : Lane) : (s.setLane l x).gateBusy = s.gateBusy := (rfl)
@[simp] theorem State.setLane_lports (s : State) (l : Fin 48) (x : Lane) : (s.setLane l x).lports = s.lports := (rfl)
@[simp] theorem State.setLane_mdio (s : State) (l : Fin 48) (x : Lane) : (s.setLane l x).mdio = s.mdio := (rfl)
@[simp] theorem State.setLane_tim (s : State) (l : Fin 48) (x : Lane) : (s.setLane l x).tim = s.tim := (rfl)
@[simp] theorem State.setLane_evt (s : State) (l : Fin 48) (x : Lane) : (s.setLane l x).evt = s.evt := (rfl)
@[simp] theorem State.setLane_log (s : State) (l : Fin 48) (x : Lane) : (s.setLane l x).log = s.log := (rfl)
@[simp] theorem State.setLane_tsk (s : State) (l : Fin 48) (x : Lane) : (s.setLane l x).tsk = s.tsk := (rfl)
@[simp] theorem State.setLane_cpu (s : State) (l : Fin 48) (x : Lane) : (s.setLane l x).cpu = s.cpu := (rfl)
@[simp] theorem State.setLane_pwr (s : State) (l : Fin 48) (x : Lane) : (s.setLane l x).pwr = s.pwr := (rfl)
@[simp] theorem State.setLane_rst (s : State) (l : Fin 48) (x : Lane) : (s.setLane l x).rst = s.rst := (rfl)
@[simp] theorem State.setLane_sys (s : State) (l : Fin 48) (x : Lane) : (s.setLane l x).sys = s.sys := (rfl)
@[simp] theorem State.setLane_hif (s : State) (l : Fin 48) (x : Lane) : (s.setLane l x).hif = s.hif := (rfl)
@[simp] theorem State.setLane_pins (s : State) (l : Fin 48) (x : Lane) : (s.setLane l x).pins = s.pins := (rfl)
@[simp] theorem State.setLane_clock (s : State) (l : Fin 48) (x : Lane) : (s.setLane l x).clock = s.clock := (rfl)
@[simp] theorem State.setLane_timers (s : State) (l : Fin 48) (x : Lane) : (s.setLane l x).timers = s.timers := (rfl)
@[simp] theorem State.setLane_pending (s : State) (l : Fin 48) (x : Lane) : (s.setLane l x).pending = s.pending := (rfl)
@[simp] theorem State.setLane_dark (s : State) (l : Fin 48) (x : Lane) : (s.setLane l x).dark = s.dark := (rfl)
@[simp] theorem State.setLane_resp (s : State) (l : Fin 48) (x : Lane) : (s.setLane l x).resp = s.resp := (rfl)
@[simp] theorem State.setLane_out (s : State) (l : Fin 48) (x : Lane) : (s.setLane l x).out = s.out := (rfl)
@[simp] theorem State.setLane_fresh (s : State) (l : Fin 48) (x : Lane) : (s.setLane l x).fresh = s.fresh := (rfl)
@[simp] theorem State.setLane_rd (s : State) (l : Fin 48) (x : Lane) (k : Nat) : (s.setLane l x).rd k = s.rd k := State.rd_of_regs (State.setLane_regs s l x) k
@[simp] theorem State.setLane_fld (s : State) (l : Fin 48) (x : Lane) (g_ : Fld) : (s.setLane l x).fld g_ = s.fld g_ := State.fld_of_regs (State.setLane_regs s l x) g_
@[simp] theorem State.setLane_bit (s : State) (l : Fin 48) (x : Lane) (g_ : Fld) : (s.setLane l x).bit g_ = s.bit g_ := State.bit_of_regs (State.setLane_regs s l x) g_
@[simp] theorem State.setLane_running (s : State) (l : Fin 48) (x : Lane) (g_ : Nat) : (s.setLane l x).running g_ = s.running g_ := State.running_of_timers (State.setLane_timers s l x) g_
@[simp] theorem State.setLane_domOn (s : State) (l : Fin 48) (x : Lane) (g_ : Nat) : (s.setLane l x).domOn g_ = s.domOn g_ := State.domOn_of_pwr (State.setLane_pwr s l x) g_

/-! `State.setPort` -/

@[simp] theorem State.setPort_regs (s : State) (p : Fin 8) (x : LPort) : (s.setPort p x).regs = s.regs := (rfl)
@[simp] theorem State.setPort_shown (s : State) (p : Fin 8) (x : LPort) : (s.setPort p x).shown = s.shown := (rfl)
@[simp] theorem State.setPort_mirror (s : State) (p : Fin 8) (x : LPort) : (s.setPort p x).mirror = s.mirror := (rfl)
@[simp] theorem State.setPort_mem (s : State) (p : Fin 8) (x : LPort) : (s.setPort p x).mem = s.mem := (rfl)
@[simp] theorem State.setPort_seam (s : State) (p : Fin 8) (x : LPort) : (s.setPort p x).seam = s.seam := (rfl)
@[simp] theorem State.setPort_cmt (s : State) (p : Fin 8) (x : LPort) : (s.setPort p x).cmt = s.cmt := (rfl)
@[simp] theorem State.setPort_own (s : State) (p : Fin 8) (x : LPort) : (s.setPort p x).own = s.own := (rfl)
@[simp] theorem State.setPort_nextPkt (s : State) (p : Fin 8) (x : LPort) : (s.setPort p x).nextPkt = s.nextPkt := (rfl)
@[simp] theorem State.setPort_rx (s : State) (p : Fin 8) (x : LPort) : (s.setPort p x).rx = s.rx := (rfl)
@[simp] theorem State.setPort_dsf (s : State) (p : Fin 8) (x : LPort) : (s.setPort p x).dsf = s.dsf := (rfl)
@[simp] theorem State.setPort_tmap (s : State) (p : Fin 8) (x : LPort) : (s.setPort p x).tmap = s.tmap := (rfl)
@[simp] theorem State.setPort_tribs (s : State) (p : Fin 8) (x : LPort) : (s.setPort p x).tribs = s.tribs := (rfl)
@[simp] theorem State.setPort_tfrags (s : State) (p : Fin 8) (x : LPort) : (s.setPort p x).tfrags = s.tfrags := (rfl)
@[simp] theorem State.setPort_rows (s : State) (p : Fin 8) (x : LPort) : (s.setPort p x).rows = s.rows := (rfl)
@[simp] theorem State.setPort_ttest (s : State) (p : Fin 8) (x : LPort) : (s.setPort p x).ttest = s.ttest := (rfl)
@[simp] theorem State.setPort_act (s : State) (p : Fin 8) (x : LPort) : (s.setPort p x).act = s.act := (rfl)
@[simp] theorem State.setPort_upb (s : State) (p : Fin 8) (x : LPort) : (s.setPort p x).upb = s.upb := (rfl)
@[simp] theorem State.setPort_restarts (s : State) (p : Fin 8) (x : LPort) : (s.setPort p x).restarts = s.restarts := (rfl)
@[simp] theorem State.setPort_gsm (s : State) (p : Fin 8) (x : LPort) : (s.setPort p x).gsm = s.gsm := (rfl)
@[simp] theorem State.setPort_txEff (s : State) (p : Fin 8) (x : LPort) : (s.setPort p x).txEff = s.txEff := (rfl)
@[simp] theorem State.setPort_pairs (s : State) (p : Fin 8) (x : LPort) : (s.setPort p x).pairs = s.pairs := (rfl)
@[simp] theorem State.setPort_key (s : State) (p : Fin 8) (x : LPort) : (s.setPort p x).key = s.key := (rfl)
@[simp] theorem State.setPort_pipes (s : State) (p : Fin 8) (x : LPort) : (s.setPort p x).pipes = s.pipes := (rfl)
@[simp] theorem State.setPort_epochs (s : State) (p : Fin 8) (x : LPort) : (s.setPort p x).epochs = s.epochs := (rfl)
@[simp] theorem State.setPort_prog (s : State) (p : Fin 8) (x : LPort) : (s.setPort p x).prog = s.prog := (rfl)
@[simp] theorem State.setPort_rcnt (s : State) (p : Fin 8) (x : LPort) : (s.setPort p x).rcnt = s.rcnt := (rfl)
@[simp] theorem State.setPort_rcntHeld (s : State) (p : Fin 8) (x : LPort) : (s.setPort p x).rcntHeld = s.rcntHeld := (rfl)
@[simp] theorem State.setPort_excWait (s : State) (p : Fin 8) (x : LPort) : (s.setPort p x).excWait = s.excWait := (rfl)
@[simp] theorem State.setPort_bufs (s : State) (p : Fin 8) (x : LPort) : (s.setPort p x).bufs = s.bufs := (rfl)
@[simp] theorem State.setPort_bufRot (s : State) (p : Fin 8) (x : LPort) : (s.setPort p x).bufRot = s.bufRot := (rfl)
@[simp] theorem State.setPort_qmap (s : State) (p : Fin 8) (x : LPort) : (s.setPort p x).qmap = s.qmap := (rfl)
@[simp] theorem State.setPort_memch (s : State) (p : Fin 8) (x : LPort) : (s.setPort p x).memch = s.memch := (rfl)
@[simp] theorem State.setPort_ecc (s : State) (p : Fin 8) (x : LPort) : (s.setPort p x).ecc = s.ecc := (rfl)
@[simp] theorem State.setPort_mxe (s : State) (p : Fin 8) (x : LPort) : (s.setPort p x).mxe = s.mxe := (rfl)
@[simp] theorem State.setPort_queues (s : State) (p : Fin 8) (x : LPort) : (s.setPort p x).queues = s.queues := (rfl)
@[simp] theorem State.setPort_turns (s : State) (p : Fin 8) (x : LPort) : (s.setPort p x).turns = s.turns := (rfl)
@[simp] theorem State.setPort_elig (s : State) (p : Fin 8) (x : LPort) : (s.setPort p x).elig = s.elig := (rfl)
@[simp] theorem State.setPort_shapers (s : State) (p : Fin 8) (x : LPort) : (s.setPort p x).shapers = s.shapers := (rfl)
@[simp] theorem State.setPort_policers (s : State) (p : Fin 8) (x : LPort) : (s.setPort p x).policers = s.policers := (rfl)
@[simp] theorem State.setPort_gates (s : State) (p : Fin 8) (x : LPort) : (s.setPort p x).gates = s.gates := (rfl)
@[simp] theorem State.setPort_gateBusy (s : State) (p : Fin 8) (x : LPort) : (s.setPort p x).gateBusy = s.gateBusy := (rfl)
@[simp] theorem State.setPort_lanes (s : State) (p : Fin 8) (x : LPort) : (s.setPort p x).lanes = s.lanes := (rfl)
@[simp] theorem State.setPort_mdio (s : State) (p : Fin 8) (x : LPort) : (s.setPort p x).mdio = s.mdio := (rfl)
@[simp] theorem State.setPort_tim (s : State) (p : Fin 8) (x : LPort) : (s.setPort p x).tim = s.tim := (rfl)
@[simp] theorem State.setPort_evt (s : State) (p : Fin 8) (x : LPort) : (s.setPort p x).evt = s.evt := (rfl)
@[simp] theorem State.setPort_log (s : State) (p : Fin 8) (x : LPort) : (s.setPort p x).log = s.log := (rfl)
@[simp] theorem State.setPort_tsk (s : State) (p : Fin 8) (x : LPort) : (s.setPort p x).tsk = s.tsk := (rfl)
@[simp] theorem State.setPort_cpu (s : State) (p : Fin 8) (x : LPort) : (s.setPort p x).cpu = s.cpu := (rfl)
@[simp] theorem State.setPort_pwr (s : State) (p : Fin 8) (x : LPort) : (s.setPort p x).pwr = s.pwr := (rfl)
@[simp] theorem State.setPort_rst (s : State) (p : Fin 8) (x : LPort) : (s.setPort p x).rst = s.rst := (rfl)
@[simp] theorem State.setPort_sys (s : State) (p : Fin 8) (x : LPort) : (s.setPort p x).sys = s.sys := (rfl)
@[simp] theorem State.setPort_hif (s : State) (p : Fin 8) (x : LPort) : (s.setPort p x).hif = s.hif := (rfl)
@[simp] theorem State.setPort_pins (s : State) (p : Fin 8) (x : LPort) : (s.setPort p x).pins = s.pins := (rfl)
@[simp] theorem State.setPort_clock (s : State) (p : Fin 8) (x : LPort) : (s.setPort p x).clock = s.clock := (rfl)
@[simp] theorem State.setPort_timers (s : State) (p : Fin 8) (x : LPort) : (s.setPort p x).timers = s.timers := (rfl)
@[simp] theorem State.setPort_pending (s : State) (p : Fin 8) (x : LPort) : (s.setPort p x).pending = s.pending := (rfl)
@[simp] theorem State.setPort_dark (s : State) (p : Fin 8) (x : LPort) : (s.setPort p x).dark = s.dark := (rfl)
@[simp] theorem State.setPort_resp (s : State) (p : Fin 8) (x : LPort) : (s.setPort p x).resp = s.resp := (rfl)
@[simp] theorem State.setPort_out (s : State) (p : Fin 8) (x : LPort) : (s.setPort p x).out = s.out := (rfl)
@[simp] theorem State.setPort_fresh (s : State) (p : Fin 8) (x : LPort) : (s.setPort p x).fresh = s.fresh := (rfl)
@[simp] theorem State.setPort_rd (s : State) (p : Fin 8) (x : LPort) (k : Nat) : (s.setPort p x).rd k = s.rd k := State.rd_of_regs (State.setPort_regs s p x) k
@[simp] theorem State.setPort_fld (s : State) (p : Fin 8) (x : LPort) (g_ : Fld) : (s.setPort p x).fld g_ = s.fld g_ := State.fld_of_regs (State.setPort_regs s p x) g_
@[simp] theorem State.setPort_bit (s : State) (p : Fin 8) (x : LPort) (g_ : Fld) : (s.setPort p x).bit g_ = s.bit g_ := State.bit_of_regs (State.setPort_regs s p x) g_
@[simp] theorem State.setPort_running (s : State) (p : Fin 8) (x : LPort) (g_ : Nat) : (s.setPort p x).running g_ = s.running g_ := State.running_of_timers (State.setPort_timers s p x) g_
@[simp] theorem State.setPort_domOn (s : State) (p : Fin 8) (x : LPort) (g_ : Nat) : (s.setPort p x).domOn g_ = s.domOn g_ := State.domOn_of_pwr (State.setPort_pwr s p x) g_

/-! `State.setMac` -/

@[simp] theorem State.setMac_regs (s : State) (e : EthPort) (m : Mac) : (s.setMac e m).regs = s.regs := State.setMac_keeps e m (List.Subset.refl _) (SameBut.refl _ s) .regs (by decide)
@[simp] theorem State.setMac_shown (s : State) (e : EthPort) (m : Mac) : (s.setMac e m).shown = s.shown := State.setMac_keeps e m (List.Subset.refl _) (SameBut.refl _ s) .shown (by decide)
@[simp] theorem State.setMac_mirror (s : State) (e : EthPort) (m : Mac) : (s.setMac e m).mirror = s.mirror := State.setMac_keeps e m (List.Subset.refl _) (SameBut.refl _ s) .mirror (by decide)
@[simp] theorem State.setMac_mem (s : State) (e : EthPort) (m : Mac) : (s.setMac e m).mem = s.mem := State.setMac_keeps e m (List.Subset.refl _) (SameBut.refl _ s) .mem (by decide)
@[simp] theorem State.setMac_seam (s : State) (e : EthPort) (m : Mac) : (s.setMac e m).seam = s.seam := State.setMac_keeps e m (List.Subset.refl _) (SameBut.refl _ s) .seam (by decide)
@[simp] theorem State.setMac_cmt (s : State) (e : EthPort) (m : Mac) : (s.setMac e m).cmt = s.cmt := State.setMac_keeps e m (List.Subset.refl _) (SameBut.refl _ s) .cmt (by decide)
@[simp] theorem State.setMac_own (s : State) (e : EthPort) (m : Mac) : (s.setMac e m).own = s.own := State.setMac_keeps e m (List.Subset.refl _) (SameBut.refl _ s) .own (by decide)
@[simp] theorem State.setMac_nextPkt (s : State) (e : EthPort) (m : Mac) : (s.setMac e m).nextPkt = s.nextPkt := State.setMac_keeps e m (List.Subset.refl _) (SameBut.refl _ s) .nextPkt (by decide)
@[simp] theorem State.setMac_rx (s : State) (e : EthPort) (m : Mac) : (s.setMac e m).rx = s.rx := State.setMac_keeps e m (List.Subset.refl _) (SameBut.refl _ s) .rx (by decide)
@[simp] theorem State.setMac_dsf (s : State) (e : EthPort) (m : Mac) : (s.setMac e m).dsf = s.dsf := State.setMac_keeps e m (List.Subset.refl _) (SameBut.refl _ s) .dsf (by decide)
@[simp] theorem State.setMac_tmap (s : State) (e : EthPort) (m : Mac) : (s.setMac e m).tmap = s.tmap := State.setMac_keeps e m (List.Subset.refl _) (SameBut.refl _ s) .tmap (by decide)
@[simp] theorem State.setMac_tribs (s : State) (e : EthPort) (m : Mac) : (s.setMac e m).tribs = s.tribs := State.setMac_keeps e m (List.Subset.refl _) (SameBut.refl _ s) .tribs (by decide)
@[simp] theorem State.setMac_tfrags (s : State) (e : EthPort) (m : Mac) : (s.setMac e m).tfrags = s.tfrags := State.setMac_keeps e m (List.Subset.refl _) (SameBut.refl _ s) .tfrags (by decide)
@[simp] theorem State.setMac_rows (s : State) (e : EthPort) (m : Mac) : (s.setMac e m).rows = s.rows := State.setMac_keeps e m (List.Subset.refl _) (SameBut.refl _ s) .rows (by decide)
@[simp] theorem State.setMac_ttest (s : State) (e : EthPort) (m : Mac) : (s.setMac e m).ttest = s.ttest := State.setMac_keeps e m (List.Subset.refl _) (SameBut.refl _ s) .ttest (by decide)
@[simp] theorem State.setMac_act (s : State) (e : EthPort) (m : Mac) : (s.setMac e m).act = s.act := State.setMac_keeps e m (List.Subset.refl _) (SameBut.refl _ s) .act (by decide)
@[simp] theorem State.setMac_upb (s : State) (e : EthPort) (m : Mac) : (s.setMac e m).upb = s.upb := State.setMac_keeps e m (List.Subset.refl _) (SameBut.refl _ s) .upb (by decide)
@[simp] theorem State.setMac_restarts (s : State) (e : EthPort) (m : Mac) : (s.setMac e m).restarts = s.restarts := State.setMac_keeps e m (List.Subset.refl _) (SameBut.refl _ s) .restarts (by decide)
@[simp] theorem State.setMac_gsm (s : State) (e : EthPort) (m : Mac) : (s.setMac e m).gsm = s.gsm := State.setMac_keeps e m (List.Subset.refl _) (SameBut.refl _ s) .gsm (by decide)
@[simp] theorem State.setMac_txEff (s : State) (e : EthPort) (m : Mac) : (s.setMac e m).txEff = s.txEff := State.setMac_keeps e m (List.Subset.refl _) (SameBut.refl _ s) .txEff (by decide)
@[simp] theorem State.setMac_pairs (s : State) (e : EthPort) (m : Mac) : (s.setMac e m).pairs = s.pairs := State.setMac_keeps e m (List.Subset.refl _) (SameBut.refl _ s) .pairs (by decide)
@[simp] theorem State.setMac_key (s : State) (e : EthPort) (m : Mac) : (s.setMac e m).key = s.key := State.setMac_keeps e m (List.Subset.refl _) (SameBut.refl _ s) .key (by decide)
@[simp] theorem State.setMac_pipes (s : State) (e : EthPort) (m : Mac) : (s.setMac e m).pipes = s.pipes := State.setMac_keeps e m (List.Subset.refl _) (SameBut.refl _ s) .pipes (by decide)
@[simp] theorem State.setMac_epochs (s : State) (e : EthPort) (m : Mac) : (s.setMac e m).epochs = s.epochs := State.setMac_keeps e m (List.Subset.refl _) (SameBut.refl _ s) .epochs (by decide)
@[simp] theorem State.setMac_prog (s : State) (e : EthPort) (m : Mac) : (s.setMac e m).prog = s.prog := State.setMac_keeps e m (List.Subset.refl _) (SameBut.refl _ s) .prog (by decide)
@[simp] theorem State.setMac_rcnt (s : State) (e : EthPort) (m : Mac) : (s.setMac e m).rcnt = s.rcnt := State.setMac_keeps e m (List.Subset.refl _) (SameBut.refl _ s) .rcnt (by decide)
@[simp] theorem State.setMac_rcntHeld (s : State) (e : EthPort) (m : Mac) : (s.setMac e m).rcntHeld = s.rcntHeld := State.setMac_keeps e m (List.Subset.refl _) (SameBut.refl _ s) .rcntHeld (by decide)
@[simp] theorem State.setMac_excWait (s : State) (e : EthPort) (m : Mac) : (s.setMac e m).excWait = s.excWait := State.setMac_keeps e m (List.Subset.refl _) (SameBut.refl _ s) .excWait (by decide)
@[simp] theorem State.setMac_bufs (s : State) (e : EthPort) (m : Mac) : (s.setMac e m).bufs = s.bufs := State.setMac_keeps e m (List.Subset.refl _) (SameBut.refl _ s) .bufs (by decide)
@[simp] theorem State.setMac_bufRot (s : State) (e : EthPort) (m : Mac) : (s.setMac e m).bufRot = s.bufRot := State.setMac_keeps e m (List.Subset.refl _) (SameBut.refl _ s) .bufRot (by decide)
@[simp] theorem State.setMac_qmap (s : State) (e : EthPort) (m : Mac) : (s.setMac e m).qmap = s.qmap := State.setMac_keeps e m (List.Subset.refl _) (SameBut.refl _ s) .qmap (by decide)
@[simp] theorem State.setMac_memch (s : State) (e : EthPort) (m : Mac) : (s.setMac e m).memch = s.memch := State.setMac_keeps e m (List.Subset.refl _) (SameBut.refl _ s) .memch (by decide)
@[simp] theorem State.setMac_ecc (s : State) (e : EthPort) (m : Mac) : (s.setMac e m).ecc = s.ecc := State.setMac_keeps e m (List.Subset.refl _) (SameBut.refl _ s) .ecc (by decide)
@[simp] theorem State.setMac_mxe (s : State) (e : EthPort) (m : Mac) : (s.setMac e m).mxe = s.mxe := State.setMac_keeps e m (List.Subset.refl _) (SameBut.refl _ s) .mxe (by decide)
@[simp] theorem State.setMac_queues (s : State) (e : EthPort) (m : Mac) : (s.setMac e m).queues = s.queues := State.setMac_keeps e m (List.Subset.refl _) (SameBut.refl _ s) .queues (by decide)
@[simp] theorem State.setMac_turns (s : State) (e : EthPort) (m : Mac) : (s.setMac e m).turns = s.turns := State.setMac_keeps e m (List.Subset.refl _) (SameBut.refl _ s) .turns (by decide)
@[simp] theorem State.setMac_elig (s : State) (e : EthPort) (m : Mac) : (s.setMac e m).elig = s.elig := State.setMac_keeps e m (List.Subset.refl _) (SameBut.refl _ s) .elig (by decide)
@[simp] theorem State.setMac_shapers (s : State) (e : EthPort) (m : Mac) : (s.setMac e m).shapers = s.shapers := State.setMac_keeps e m (List.Subset.refl _) (SameBut.refl _ s) .shapers (by decide)
@[simp] theorem State.setMac_policers (s : State) (e : EthPort) (m : Mac) : (s.setMac e m).policers = s.policers := State.setMac_keeps e m (List.Subset.refl _) (SameBut.refl _ s) .policers (by decide)
@[simp] theorem State.setMac_gates (s : State) (e : EthPort) (m : Mac) : (s.setMac e m).gates = s.gates := State.setMac_keeps e m (List.Subset.refl _) (SameBut.refl _ s) .gates (by decide)
@[simp] theorem State.setMac_gateBusy (s : State) (e : EthPort) (m : Mac) : (s.setMac e m).gateBusy = s.gateBusy := State.setMac_keeps e m (List.Subset.refl _) (SameBut.refl _ s) .gateBusy (by decide)
@[simp] theorem State.setMac_mdio (s : State) (e : EthPort) (m : Mac) : (s.setMac e m).mdio = s.mdio := State.setMac_keeps e m (List.Subset.refl _) (SameBut.refl _ s) .mdio (by decide)
@[simp] theorem State.setMac_tim (s : State) (e : EthPort) (m : Mac) : (s.setMac e m).tim = s.tim := State.setMac_keeps e m (List.Subset.refl _) (SameBut.refl _ s) .tim (by decide)
@[simp] theorem State.setMac_evt (s : State) (e : EthPort) (m : Mac) : (s.setMac e m).evt = s.evt := State.setMac_keeps e m (List.Subset.refl _) (SameBut.refl _ s) .evt (by decide)
@[simp] theorem State.setMac_log (s : State) (e : EthPort) (m : Mac) : (s.setMac e m).log = s.log := State.setMac_keeps e m (List.Subset.refl _) (SameBut.refl _ s) .log (by decide)
@[simp] theorem State.setMac_tsk (s : State) (e : EthPort) (m : Mac) : (s.setMac e m).tsk = s.tsk := State.setMac_keeps e m (List.Subset.refl _) (SameBut.refl _ s) .tsk (by decide)
@[simp] theorem State.setMac_cpu (s : State) (e : EthPort) (m : Mac) : (s.setMac e m).cpu = s.cpu := State.setMac_keeps e m (List.Subset.refl _) (SameBut.refl _ s) .cpu (by decide)
@[simp] theorem State.setMac_pwr (s : State) (e : EthPort) (m : Mac) : (s.setMac e m).pwr = s.pwr := State.setMac_keeps e m (List.Subset.refl _) (SameBut.refl _ s) .pwr (by decide)
@[simp] theorem State.setMac_rst (s : State) (e : EthPort) (m : Mac) : (s.setMac e m).rst = s.rst := State.setMac_keeps e m (List.Subset.refl _) (SameBut.refl _ s) .rst (by decide)
@[simp] theorem State.setMac_sys (s : State) (e : EthPort) (m : Mac) : (s.setMac e m).sys = s.sys := State.setMac_keeps e m (List.Subset.refl _) (SameBut.refl _ s) .sys (by decide)
@[simp] theorem State.setMac_hif (s : State) (e : EthPort) (m : Mac) : (s.setMac e m).hif = s.hif := State.setMac_keeps e m (List.Subset.refl _) (SameBut.refl _ s) .hif (by decide)
@[simp] theorem State.setMac_pins (s : State) (e : EthPort) (m : Mac) : (s.setMac e m).pins = s.pins := State.setMac_keeps e m (List.Subset.refl _) (SameBut.refl _ s) .pins (by decide)
@[simp] theorem State.setMac_clock (s : State) (e : EthPort) (m : Mac) : (s.setMac e m).clock = s.clock := State.setMac_keeps e m (List.Subset.refl _) (SameBut.refl _ s) .clock (by decide)
@[simp] theorem State.setMac_timers (s : State) (e : EthPort) (m : Mac) : (s.setMac e m).timers = s.timers := State.setMac_keeps e m (List.Subset.refl _) (SameBut.refl _ s) .timers (by decide)
@[simp] theorem State.setMac_pending (s : State) (e : EthPort) (m : Mac) : (s.setMac e m).pending = s.pending := State.setMac_keeps e m (List.Subset.refl _) (SameBut.refl _ s) .pending (by decide)
@[simp] theorem State.setMac_dark (s : State) (e : EthPort) (m : Mac) : (s.setMac e m).dark = s.dark := State.setMac_keeps e m (List.Subset.refl _) (SameBut.refl _ s) .dark (by decide)
@[simp] theorem State.setMac_resp (s : State) (e : EthPort) (m : Mac) : (s.setMac e m).resp = s.resp := State.setMac_keeps e m (List.Subset.refl _) (SameBut.refl _ s) .resp (by decide)
@[simp] theorem State.setMac_out (s : State) (e : EthPort) (m : Mac) : (s.setMac e m).out = s.out := State.setMac_keeps e m (List.Subset.refl _) (SameBut.refl _ s) .out (by decide)
@[simp] theorem State.setMac_fresh (s : State) (e : EthPort) (m : Mac) : (s.setMac e m).fresh = s.fresh := State.setMac_keeps e m (List.Subset.refl _) (SameBut.refl _ s) .fresh (by decide)
@[simp] theorem State.setMac_rd (s : State) (e : EthPort) (m : Mac) (k : Nat) : (s.setMac e m).rd k = s.rd k := State.rd_of_regs (State.setMac_regs s e m) k
@[simp] theorem State.setMac_fld (s : State) (e : EthPort) (m : Mac) (g_ : Fld) : (s.setMac e m).fld g_ = s.fld g_ := State.fld_of_regs (State.setMac_regs s e m) g_
@[simp] theorem State.setMac_bit (s : State) (e : EthPort) (m : Mac) (g_ : Fld) : (s.setMac e m).bit g_ = s.bit g_ := State.bit_of_regs (State.setMac_regs s e m) g_
@[simp] theorem State.setMac_running (s : State) (e : EthPort) (m : Mac) (g_ : Nat) : (s.setMac e m).running g_ = s.running g_ := State.running_of_timers (State.setMac_timers s e m) g_
@[simp] theorem State.setMac_domOn (s : State) (e : EthPort) (m : Mac) (g_ : Nat) : (s.setMac e m).domOn g_ = s.domOn g_ := State.domOn_of_pwr (State.setMac_pwr s e m) g_

/-! `State.setPause` -/

@[simp] theorem State.setPause_regs (s : State) (e : EthPort) (pri : Nat) (quanta : Nat) : (s.setPause e pri quanta).regs = s.regs := State.setPause_keeps e pri quanta (List.Subset.refl _) (SameBut.refl _ s) .regs (by decide)
@[simp] theorem State.setPause_shown (s : State) (e : EthPort) (pri : Nat) (quanta : Nat) : (s.setPause e pri quanta).shown = s.shown := State.setPause_keeps e pri quanta (List.Subset.refl _) (SameBut.refl _ s) .shown (by decide)
@[simp] theorem State.setPause_mirror (s : State) (e : EthPort) (pri : Nat) (quanta : Nat) : (s.setPause e pri quanta).mirror = s.mirror := State.setPause_keeps e pri quanta (List.Subset.refl _) (SameBut.refl _ s) .mirror (by decide)
@[simp] theorem State.setPause_mem (s : State) (e : EthPort) (pri : Nat) (quanta : Nat) : (s.setPause e pri quanta).mem = s.mem := State.setPause_keeps e pri quanta (List.Subset.refl _) (SameBut.refl _ s) .mem (by decide)
@[simp] theorem State.setPause_seam (s : State) (e : EthPort) (pri : Nat) (quanta : Nat) : (s.setPause e pri quanta).seam = s.seam := State.setPause_keeps e pri quanta (List.Subset.refl _) (SameBut.refl _ s) .seam (by decide)
@[simp] theorem State.setPause_cmt (s : State) (e : EthPort) (pri : Nat) (quanta : Nat) : (s.setPause e pri quanta).cmt = s.cmt := State.setPause_keeps e pri quanta (List.Subset.refl _) (SameBut.refl _ s) .cmt (by decide)
@[simp] theorem State.setPause_own (s : State) (e : EthPort) (pri : Nat) (quanta : Nat) : (s.setPause e pri quanta).own = s.own := State.setPause_keeps e pri quanta (List.Subset.refl _) (SameBut.refl _ s) .own (by decide)
@[simp] theorem State.setPause_nextPkt (s : State) (e : EthPort) (pri : Nat) (quanta : Nat) : (s.setPause e pri quanta).nextPkt = s.nextPkt := State.setPause_keeps e pri quanta (List.Subset.refl _) (SameBut.refl _ s) .nextPkt (by decide)
@[simp] theorem State.setPause_rx (s : State) (e : EthPort) (pri : Nat) (quanta : Nat) : (s.setPause e pri quanta).rx = s.rx := State.setPause_keeps e pri quanta (List.Subset.refl _) (SameBut.refl _ s) .rx (by decide)
@[simp] theorem State.setPause_dsf (s : State) (e : EthPort) (pri : Nat) (quanta : Nat) : (s.setPause e pri quanta).dsf = s.dsf := State.setPause_keeps e pri quanta (List.Subset.refl _) (SameBut.refl _ s) .dsf (by decide)
@[simp] theorem State.setPause_tmap (s : State) (e : EthPort) (pri : Nat) (quanta : Nat) : (s.setPause e pri quanta).tmap = s.tmap := State.setPause_keeps e pri quanta (List.Subset.refl _) (SameBut.refl _ s) .tmap (by decide)
@[simp] theorem State.setPause_tribs (s : State) (e : EthPort) (pri : Nat) (quanta : Nat) : (s.setPause e pri quanta).tribs = s.tribs := State.setPause_keeps e pri quanta (List.Subset.refl _) (SameBut.refl _ s) .tribs (by decide)
@[simp] theorem State.setPause_tfrags (s : State) (e : EthPort) (pri : Nat) (quanta : Nat) : (s.setPause e pri quanta).tfrags = s.tfrags := State.setPause_keeps e pri quanta (List.Subset.refl _) (SameBut.refl _ s) .tfrags (by decide)
@[simp] theorem State.setPause_rows (s : State) (e : EthPort) (pri : Nat) (quanta : Nat) : (s.setPause e pri quanta).rows = s.rows := State.setPause_keeps e pri quanta (List.Subset.refl _) (SameBut.refl _ s) .rows (by decide)
@[simp] theorem State.setPause_ttest (s : State) (e : EthPort) (pri : Nat) (quanta : Nat) : (s.setPause e pri quanta).ttest = s.ttest := State.setPause_keeps e pri quanta (List.Subset.refl _) (SameBut.refl _ s) .ttest (by decide)
@[simp] theorem State.setPause_act (s : State) (e : EthPort) (pri : Nat) (quanta : Nat) : (s.setPause e pri quanta).act = s.act := State.setPause_keeps e pri quanta (List.Subset.refl _) (SameBut.refl _ s) .act (by decide)
@[simp] theorem State.setPause_upb (s : State) (e : EthPort) (pri : Nat) (quanta : Nat) : (s.setPause e pri quanta).upb = s.upb := State.setPause_keeps e pri quanta (List.Subset.refl _) (SameBut.refl _ s) .upb (by decide)
@[simp] theorem State.setPause_restarts (s : State) (e : EthPort) (pri : Nat) (quanta : Nat) : (s.setPause e pri quanta).restarts = s.restarts := State.setPause_keeps e pri quanta (List.Subset.refl _) (SameBut.refl _ s) .restarts (by decide)
@[simp] theorem State.setPause_gsm (s : State) (e : EthPort) (pri : Nat) (quanta : Nat) : (s.setPause e pri quanta).gsm = s.gsm := State.setPause_keeps e pri quanta (List.Subset.refl _) (SameBut.refl _ s) .gsm (by decide)
@[simp] theorem State.setPause_txEff (s : State) (e : EthPort) (pri : Nat) (quanta : Nat) : (s.setPause e pri quanta).txEff = s.txEff := State.setPause_keeps e pri quanta (List.Subset.refl _) (SameBut.refl _ s) .txEff (by decide)
@[simp] theorem State.setPause_pairs (s : State) (e : EthPort) (pri : Nat) (quanta : Nat) : (s.setPause e pri quanta).pairs = s.pairs := State.setPause_keeps e pri quanta (List.Subset.refl _) (SameBut.refl _ s) .pairs (by decide)
@[simp] theorem State.setPause_key (s : State) (e : EthPort) (pri : Nat) (quanta : Nat) : (s.setPause e pri quanta).key = s.key := State.setPause_keeps e pri quanta (List.Subset.refl _) (SameBut.refl _ s) .key (by decide)
@[simp] theorem State.setPause_pipes (s : State) (e : EthPort) (pri : Nat) (quanta : Nat) : (s.setPause e pri quanta).pipes = s.pipes := State.setPause_keeps e pri quanta (List.Subset.refl _) (SameBut.refl _ s) .pipes (by decide)
@[simp] theorem State.setPause_epochs (s : State) (e : EthPort) (pri : Nat) (quanta : Nat) : (s.setPause e pri quanta).epochs = s.epochs := State.setPause_keeps e pri quanta (List.Subset.refl _) (SameBut.refl _ s) .epochs (by decide)
@[simp] theorem State.setPause_prog (s : State) (e : EthPort) (pri : Nat) (quanta : Nat) : (s.setPause e pri quanta).prog = s.prog := State.setPause_keeps e pri quanta (List.Subset.refl _) (SameBut.refl _ s) .prog (by decide)
@[simp] theorem State.setPause_rcnt (s : State) (e : EthPort) (pri : Nat) (quanta : Nat) : (s.setPause e pri quanta).rcnt = s.rcnt := State.setPause_keeps e pri quanta (List.Subset.refl _) (SameBut.refl _ s) .rcnt (by decide)
@[simp] theorem State.setPause_rcntHeld (s : State) (e : EthPort) (pri : Nat) (quanta : Nat) : (s.setPause e pri quanta).rcntHeld = s.rcntHeld := State.setPause_keeps e pri quanta (List.Subset.refl _) (SameBut.refl _ s) .rcntHeld (by decide)
@[simp] theorem State.setPause_excWait (s : State) (e : EthPort) (pri : Nat) (quanta : Nat) : (s.setPause e pri quanta).excWait = s.excWait := State.setPause_keeps e pri quanta (List.Subset.refl _) (SameBut.refl _ s) .excWait (by decide)
@[simp] theorem State.setPause_bufs (s : State) (e : EthPort) (pri : Nat) (quanta : Nat) : (s.setPause e pri quanta).bufs = s.bufs := State.setPause_keeps e pri quanta (List.Subset.refl _) (SameBut.refl _ s) .bufs (by decide)
@[simp] theorem State.setPause_bufRot (s : State) (e : EthPort) (pri : Nat) (quanta : Nat) : (s.setPause e pri quanta).bufRot = s.bufRot := State.setPause_keeps e pri quanta (List.Subset.refl _) (SameBut.refl _ s) .bufRot (by decide)
@[simp] theorem State.setPause_qmap (s : State) (e : EthPort) (pri : Nat) (quanta : Nat) : (s.setPause e pri quanta).qmap = s.qmap := State.setPause_keeps e pri quanta (List.Subset.refl _) (SameBut.refl _ s) .qmap (by decide)
@[simp] theorem State.setPause_memch (s : State) (e : EthPort) (pri : Nat) (quanta : Nat) : (s.setPause e pri quanta).memch = s.memch := State.setPause_keeps e pri quanta (List.Subset.refl _) (SameBut.refl _ s) .memch (by decide)
@[simp] theorem State.setPause_ecc (s : State) (e : EthPort) (pri : Nat) (quanta : Nat) : (s.setPause e pri quanta).ecc = s.ecc := State.setPause_keeps e pri quanta (List.Subset.refl _) (SameBut.refl _ s) .ecc (by decide)
@[simp] theorem State.setPause_mxe (s : State) (e : EthPort) (pri : Nat) (quanta : Nat) : (s.setPause e pri quanta).mxe = s.mxe := State.setPause_keeps e pri quanta (List.Subset.refl _) (SameBut.refl _ s) .mxe (by decide)
@[simp] theorem State.setPause_queues (s : State) (e : EthPort) (pri : Nat) (quanta : Nat) : (s.setPause e pri quanta).queues = s.queues := State.setPause_keeps e pri quanta (List.Subset.refl _) (SameBut.refl _ s) .queues (by decide)
@[simp] theorem State.setPause_turns (s : State) (e : EthPort) (pri : Nat) (quanta : Nat) : (s.setPause e pri quanta).turns = s.turns := State.setPause_keeps e pri quanta (List.Subset.refl _) (SameBut.refl _ s) .turns (by decide)
@[simp] theorem State.setPause_elig (s : State) (e : EthPort) (pri : Nat) (quanta : Nat) : (s.setPause e pri quanta).elig = s.elig := State.setPause_keeps e pri quanta (List.Subset.refl _) (SameBut.refl _ s) .elig (by decide)
@[simp] theorem State.setPause_shapers (s : State) (e : EthPort) (pri : Nat) (quanta : Nat) : (s.setPause e pri quanta).shapers = s.shapers := State.setPause_keeps e pri quanta (List.Subset.refl _) (SameBut.refl _ s) .shapers (by decide)
@[simp] theorem State.setPause_policers (s : State) (e : EthPort) (pri : Nat) (quanta : Nat) : (s.setPause e pri quanta).policers = s.policers := State.setPause_keeps e pri quanta (List.Subset.refl _) (SameBut.refl _ s) .policers (by decide)
@[simp] theorem State.setPause_gates (s : State) (e : EthPort) (pri : Nat) (quanta : Nat) : (s.setPause e pri quanta).gates = s.gates := State.setPause_keeps e pri quanta (List.Subset.refl _) (SameBut.refl _ s) .gates (by decide)
@[simp] theorem State.setPause_gateBusy (s : State) (e : EthPort) (pri : Nat) (quanta : Nat) : (s.setPause e pri quanta).gateBusy = s.gateBusy := State.setPause_keeps e pri quanta (List.Subset.refl _) (SameBut.refl _ s) .gateBusy (by decide)
@[simp] theorem State.setPause_lanes (s : State) (e : EthPort) (pri : Nat) (quanta : Nat) : (s.setPause e pri quanta).lanes = s.lanes := State.setPause_keeps e pri quanta (List.Subset.refl _) (SameBut.refl _ s) .lanes (by decide)
@[simp] theorem State.setPause_lports (s : State) (e : EthPort) (pri : Nat) (quanta : Nat) : (s.setPause e pri quanta).lports = s.lports := State.setPause_keeps e pri quanta (List.Subset.refl _) (SameBut.refl _ s) .lports (by decide)
@[simp] theorem State.setPause_mdio (s : State) (e : EthPort) (pri : Nat) (quanta : Nat) : (s.setPause e pri quanta).mdio = s.mdio := State.setPause_keeps e pri quanta (List.Subset.refl _) (SameBut.refl _ s) .mdio (by decide)
@[simp] theorem State.setPause_tim (s : State) (e : EthPort) (pri : Nat) (quanta : Nat) : (s.setPause e pri quanta).tim = s.tim := State.setPause_keeps e pri quanta (List.Subset.refl _) (SameBut.refl _ s) .tim (by decide)
@[simp] theorem State.setPause_evt (s : State) (e : EthPort) (pri : Nat) (quanta : Nat) : (s.setPause e pri quanta).evt = s.evt := State.setPause_keeps e pri quanta (List.Subset.refl _) (SameBut.refl _ s) .evt (by decide)
@[simp] theorem State.setPause_log (s : State) (e : EthPort) (pri : Nat) (quanta : Nat) : (s.setPause e pri quanta).log = s.log := State.setPause_keeps e pri quanta (List.Subset.refl _) (SameBut.refl _ s) .log (by decide)
@[simp] theorem State.setPause_tsk (s : State) (e : EthPort) (pri : Nat) (quanta : Nat) : (s.setPause e pri quanta).tsk = s.tsk := State.setPause_keeps e pri quanta (List.Subset.refl _) (SameBut.refl _ s) .tsk (by decide)
@[simp] theorem State.setPause_cpu (s : State) (e : EthPort) (pri : Nat) (quanta : Nat) : (s.setPause e pri quanta).cpu = s.cpu := State.setPause_keeps e pri quanta (List.Subset.refl _) (SameBut.refl _ s) .cpu (by decide)
@[simp] theorem State.setPause_pwr (s : State) (e : EthPort) (pri : Nat) (quanta : Nat) : (s.setPause e pri quanta).pwr = s.pwr := State.setPause_keeps e pri quanta (List.Subset.refl _) (SameBut.refl _ s) .pwr (by decide)
@[simp] theorem State.setPause_rst (s : State) (e : EthPort) (pri : Nat) (quanta : Nat) : (s.setPause e pri quanta).rst = s.rst := State.setPause_keeps e pri quanta (List.Subset.refl _) (SameBut.refl _ s) .rst (by decide)
@[simp] theorem State.setPause_sys (s : State) (e : EthPort) (pri : Nat) (quanta : Nat) : (s.setPause e pri quanta).sys = s.sys := State.setPause_keeps e pri quanta (List.Subset.refl _) (SameBut.refl _ s) .sys (by decide)
@[simp] theorem State.setPause_hif (s : State) (e : EthPort) (pri : Nat) (quanta : Nat) : (s.setPause e pri quanta).hif = s.hif := State.setPause_keeps e pri quanta (List.Subset.refl _) (SameBut.refl _ s) .hif (by decide)
@[simp] theorem State.setPause_pins (s : State) (e : EthPort) (pri : Nat) (quanta : Nat) : (s.setPause e pri quanta).pins = s.pins := State.setPause_keeps e pri quanta (List.Subset.refl _) (SameBut.refl _ s) .pins (by decide)
@[simp] theorem State.setPause_clock (s : State) (e : EthPort) (pri : Nat) (quanta : Nat) : (s.setPause e pri quanta).clock = s.clock := State.setPause_keeps e pri quanta (List.Subset.refl _) (SameBut.refl _ s) .clock (by decide)
@[simp] theorem State.setPause_pending (s : State) (e : EthPort) (pri : Nat) (quanta : Nat) : (s.setPause e pri quanta).pending = s.pending := State.setPause_keeps e pri quanta (List.Subset.refl _) (SameBut.refl _ s) .pending (by decide)
@[simp] theorem State.setPause_dark (s : State) (e : EthPort) (pri : Nat) (quanta : Nat) : (s.setPause e pri quanta).dark = s.dark := State.setPause_keeps e pri quanta (List.Subset.refl _) (SameBut.refl _ s) .dark (by decide)
@[simp] theorem State.setPause_resp (s : State) (e : EthPort) (pri : Nat) (quanta : Nat) : (s.setPause e pri quanta).resp = s.resp := State.setPause_keeps e pri quanta (List.Subset.refl _) (SameBut.refl _ s) .resp (by decide)
@[simp] theorem State.setPause_out (s : State) (e : EthPort) (pri : Nat) (quanta : Nat) : (s.setPause e pri quanta).out = s.out := State.setPause_keeps e pri quanta (List.Subset.refl _) (SameBut.refl _ s) .out (by decide)
@[simp] theorem State.setPause_fresh (s : State) (e : EthPort) (pri : Nat) (quanta : Nat) : (s.setPause e pri quanta).fresh = s.fresh := State.setPause_keeps e pri quanta (List.Subset.refl _) (SameBut.refl _ s) .fresh (by decide)
@[simp] theorem State.setPause_rd (s : State) (e : EthPort) (pri : Nat) (quanta : Nat) (k : Nat) : (s.setPause e pri quanta).rd k = s.rd k := State.rd_of_regs (State.setPause_regs s e pri quanta) k
@[simp] theorem State.setPause_fld (s : State) (e : EthPort) (pri : Nat) (quanta : Nat) (g_ : Fld) : (s.setPause e pri quanta).fld g_ = s.fld g_ := State.fld_of_regs (State.setPause_regs s e pri quanta) g_
@[simp] theorem State.setPause_bit (s : State) (e : EthPort) (pri : Nat) (quanta : Nat) (g_ : Fld) : (s.setPause e pri quanta).bit g_ = s.bit g_ := State.bit_of_regs (State.setPause_regs s e pri quanta) g_
@[simp] theorem State.setPause_domOn (s : State) (e : EthPort) (pri : Nat) (quanta : Nat) (g_ : Nat) : (s.setPause e pri quanta).domOn g_ = s.domOn g_ := State.domOn_of_pwr (State.setPause_pwr s e pri quanta) g_

/-! `State.setTim` -/

@[simp] theorem State.setTim_regs (s : State) (f : Tim → Tim) : (s.setTim f).regs = s.regs := (rfl)
@[simp] theorem State.setTim_shown (s : State) (f : Tim → Tim) : (s.setTim f).shown = s.shown := (rfl)
@[simp] theorem State.setTim_mirror (s : State) (f : Tim → Tim) : (s.setTim f).mirror = s.mirror := (rfl)
@[simp] theorem State.setTim_mem (s : State) (f : Tim → Tim) : (s.setTim f).mem = s.mem := (rfl)
@[simp] theorem State.setTim_seam (s : State) (f : Tim → Tim) : (s.setTim f).seam = s.seam := (rfl)
@[simp] theorem State.setTim_cmt (s : State) (f : Tim → Tim) : (s.setTim f).cmt = s.cmt := (rfl)
@[simp] theorem State.setTim_own (s : State) (f : Tim → Tim) : (s.setTim f).own = s.own := (rfl)
@[simp] theorem State.setTim_nextPkt (s : State) (f : Tim → Tim) : (s.setTim f).nextPkt = s.nextPkt := (rfl)
@[simp] theorem State.setTim_rx (s : State) (f : Tim → Tim) : (s.setTim f).rx = s.rx := (rfl)
@[simp] theorem State.setTim_dsf (s : State) (f : Tim → Tim) : (s.setTim f).dsf = s.dsf := (rfl)
@[simp] theorem State.setTim_tmap (s : State) (f : Tim → Tim) : (s.setTim f).tmap = s.tmap := (rfl)
@[simp] theorem State.setTim_tribs (s : State) (f : Tim → Tim) : (s.setTim f).tribs = s.tribs := (rfl)
@[simp] theorem State.setTim_tfrags (s : State) (f : Tim → Tim) : (s.setTim f).tfrags = s.tfrags := (rfl)
@[simp] theorem State.setTim_rows (s : State) (f : Tim → Tim) : (s.setTim f).rows = s.rows := (rfl)
@[simp] theorem State.setTim_ttest (s : State) (f : Tim → Tim) : (s.setTim f).ttest = s.ttest := (rfl)
@[simp] theorem State.setTim_act (s : State) (f : Tim → Tim) : (s.setTim f).act = s.act := (rfl)
@[simp] theorem State.setTim_upb (s : State) (f : Tim → Tim) : (s.setTim f).upb = s.upb := (rfl)
@[simp] theorem State.setTim_restarts (s : State) (f : Tim → Tim) : (s.setTim f).restarts = s.restarts := (rfl)
@[simp] theorem State.setTim_gsm (s : State) (f : Tim → Tim) : (s.setTim f).gsm = s.gsm := (rfl)
@[simp] theorem State.setTim_txEff (s : State) (f : Tim → Tim) : (s.setTim f).txEff = s.txEff := (rfl)
@[simp] theorem State.setTim_pairs (s : State) (f : Tim → Tim) : (s.setTim f).pairs = s.pairs := (rfl)
@[simp] theorem State.setTim_key (s : State) (f : Tim → Tim) : (s.setTim f).key = s.key := (rfl)
@[simp] theorem State.setTim_pipes (s : State) (f : Tim → Tim) : (s.setTim f).pipes = s.pipes := (rfl)
@[simp] theorem State.setTim_epochs (s : State) (f : Tim → Tim) : (s.setTim f).epochs = s.epochs := (rfl)
@[simp] theorem State.setTim_prog (s : State) (f : Tim → Tim) : (s.setTim f).prog = s.prog := (rfl)
@[simp] theorem State.setTim_rcnt (s : State) (f : Tim → Tim) : (s.setTim f).rcnt = s.rcnt := (rfl)
@[simp] theorem State.setTim_rcntHeld (s : State) (f : Tim → Tim) : (s.setTim f).rcntHeld = s.rcntHeld := (rfl)
@[simp] theorem State.setTim_excWait (s : State) (f : Tim → Tim) : (s.setTim f).excWait = s.excWait := (rfl)
@[simp] theorem State.setTim_bufs (s : State) (f : Tim → Tim) : (s.setTim f).bufs = s.bufs := (rfl)
@[simp] theorem State.setTim_bufRot (s : State) (f : Tim → Tim) : (s.setTim f).bufRot = s.bufRot := (rfl)
@[simp] theorem State.setTim_qmap (s : State) (f : Tim → Tim) : (s.setTim f).qmap = s.qmap := (rfl)
@[simp] theorem State.setTim_memch (s : State) (f : Tim → Tim) : (s.setTim f).memch = s.memch := (rfl)
@[simp] theorem State.setTim_ecc (s : State) (f : Tim → Tim) : (s.setTim f).ecc = s.ecc := (rfl)
@[simp] theorem State.setTim_mxe (s : State) (f : Tim → Tim) : (s.setTim f).mxe = s.mxe := (rfl)
@[simp] theorem State.setTim_queues (s : State) (f : Tim → Tim) : (s.setTim f).queues = s.queues := (rfl)
@[simp] theorem State.setTim_turns (s : State) (f : Tim → Tim) : (s.setTim f).turns = s.turns := (rfl)
@[simp] theorem State.setTim_elig (s : State) (f : Tim → Tim) : (s.setTim f).elig = s.elig := (rfl)
@[simp] theorem State.setTim_shapers (s : State) (f : Tim → Tim) : (s.setTim f).shapers = s.shapers := (rfl)
@[simp] theorem State.setTim_policers (s : State) (f : Tim → Tim) : (s.setTim f).policers = s.policers := (rfl)
@[simp] theorem State.setTim_gates (s : State) (f : Tim → Tim) : (s.setTim f).gates = s.gates := (rfl)
@[simp] theorem State.setTim_gateBusy (s : State) (f : Tim → Tim) : (s.setTim f).gateBusy = s.gateBusy := (rfl)
@[simp] theorem State.setTim_lanes (s : State) (f : Tim → Tim) : (s.setTim f).lanes = s.lanes := (rfl)
@[simp] theorem State.setTim_lports (s : State) (f : Tim → Tim) : (s.setTim f).lports = s.lports := (rfl)
@[simp] theorem State.setTim_mdio (s : State) (f : Tim → Tim) : (s.setTim f).mdio = s.mdio := (rfl)
@[simp] theorem State.setTim_evt (s : State) (f : Tim → Tim) : (s.setTim f).evt = s.evt := (rfl)
@[simp] theorem State.setTim_log (s : State) (f : Tim → Tim) : (s.setTim f).log = s.log := (rfl)
@[simp] theorem State.setTim_tsk (s : State) (f : Tim → Tim) : (s.setTim f).tsk = s.tsk := (rfl)
@[simp] theorem State.setTim_cpu (s : State) (f : Tim → Tim) : (s.setTim f).cpu = s.cpu := (rfl)
@[simp] theorem State.setTim_pwr (s : State) (f : Tim → Tim) : (s.setTim f).pwr = s.pwr := (rfl)
@[simp] theorem State.setTim_rst (s : State) (f : Tim → Tim) : (s.setTim f).rst = s.rst := (rfl)
@[simp] theorem State.setTim_sys (s : State) (f : Tim → Tim) : (s.setTim f).sys = s.sys := (rfl)
@[simp] theorem State.setTim_hif (s : State) (f : Tim → Tim) : (s.setTim f).hif = s.hif := (rfl)
@[simp] theorem State.setTim_pins (s : State) (f : Tim → Tim) : (s.setTim f).pins = s.pins := (rfl)
@[simp] theorem State.setTim_clock (s : State) (f : Tim → Tim) : (s.setTim f).clock = s.clock := (rfl)
@[simp] theorem State.setTim_timers (s : State) (f : Tim → Tim) : (s.setTim f).timers = s.timers := (rfl)
@[simp] theorem State.setTim_pending (s : State) (f : Tim → Tim) : (s.setTim f).pending = s.pending := (rfl)
@[simp] theorem State.setTim_dark (s : State) (f : Tim → Tim) : (s.setTim f).dark = s.dark := (rfl)
@[simp] theorem State.setTim_resp (s : State) (f : Tim → Tim) : (s.setTim f).resp = s.resp := (rfl)
@[simp] theorem State.setTim_out (s : State) (f : Tim → Tim) : (s.setTim f).out = s.out := (rfl)
@[simp] theorem State.setTim_fresh (s : State) (f : Tim → Tim) : (s.setTim f).fresh = s.fresh := (rfl)
@[simp] theorem State.setTim_rd (s : State) (f : Tim → Tim) (k : Nat) : (s.setTim f).rd k = s.rd k := State.rd_of_regs (State.setTim_regs s f) k
@[simp] theorem State.setTim_fld (s : State) (f : Tim → Tim) (g_ : Fld) : (s.setTim f).fld g_ = s.fld g_ := State.fld_of_regs (State.setTim_regs s f) g_
@[simp] theorem State.setTim_bit (s : State) (f : Tim → Tim) (g_ : Fld) : (s.setTim f).bit g_ = s.bit g_ := State.bit_of_regs (State.setTim_regs s f) g_
@[simp] theorem State.setTim_running (s : State) (f : Tim → Tim) (g_ : Nat) : (s.setTim f).running g_ = s.running g_ := State.running_of_timers (State.setTim_timers s f) g_
@[simp] theorem State.setTim_domOn (s : State) (f : Tim → Tim) (g_ : Nat) : (s.setTim f).domOn g_ = s.domOn g_ := State.domOn_of_pwr (State.setTim_pwr s f) g_

/-! `State.setQual` -/

@[simp] theorem State.setQual_shown (s : State) (q : QualSt) : (s.setQual q).shown = s.shown := State.setQual_keeps q (List.Subset.refl _) (SameBut.refl _ s) .shown (by decide)
@[simp] theorem State.setQual_mirror (s : State) (q : QualSt) : (s.setQual q).mirror = s.mirror := State.setQual_keeps q (List.Subset.refl _) (SameBut.refl _ s) .mirror (by decide)
@[simp] theorem State.setQual_mem (s : State) (q : QualSt) : (s.setQual q).mem = s.mem := State.setQual_keeps q (List.Subset.refl _) (SameBut.refl _ s) .mem (by decide)
@[simp] theorem State.setQual_cmt (s : State) (q : QualSt) : (s.setQual q).cmt = s.cmt := State.setQual_keeps q (List.Subset.refl _) (SameBut.refl _ s) .cmt (by decide)
@[simp] theorem State.setQual_own (s : State) (q : QualSt) : (s.setQual q).own = s.own := State.setQual_keeps q (List.Subset.refl _) (SameBut.refl _ s) .own (by decide)
@[simp] theorem State.setQual_nextPkt (s : State) (q : QualSt) : (s.setQual q).nextPkt = s.nextPkt := State.setQual_keeps q (List.Subset.refl _) (SameBut.refl _ s) .nextPkt (by decide)
@[simp] theorem State.setQual_rx (s : State) (q : QualSt) : (s.setQual q).rx = s.rx := State.setQual_keeps q (List.Subset.refl _) (SameBut.refl _ s) .rx (by decide)
@[simp] theorem State.setQual_dsf (s : State) (q : QualSt) : (s.setQual q).dsf = s.dsf := State.setQual_keeps q (List.Subset.refl _) (SameBut.refl _ s) .dsf (by decide)
@[simp] theorem State.setQual_tmap (s : State) (q : QualSt) : (s.setQual q).tmap = s.tmap := State.setQual_keeps q (List.Subset.refl _) (SameBut.refl _ s) .tmap (by decide)
@[simp] theorem State.setQual_tribs (s : State) (q : QualSt) : (s.setQual q).tribs = s.tribs := State.setQual_keeps q (List.Subset.refl _) (SameBut.refl _ s) .tribs (by decide)
@[simp] theorem State.setQual_tfrags (s : State) (q : QualSt) : (s.setQual q).tfrags = s.tfrags := State.setQual_keeps q (List.Subset.refl _) (SameBut.refl _ s) .tfrags (by decide)
@[simp] theorem State.setQual_rows (s : State) (q : QualSt) : (s.setQual q).rows = s.rows := State.setQual_keeps q (List.Subset.refl _) (SameBut.refl _ s) .rows (by decide)
@[simp] theorem State.setQual_ttest (s : State) (q : QualSt) : (s.setQual q).ttest = s.ttest := State.setQual_keeps q (List.Subset.refl _) (SameBut.refl _ s) .ttest (by decide)
@[simp] theorem State.setQual_act (s : State) (q : QualSt) : (s.setQual q).act = s.act := State.setQual_keeps q (List.Subset.refl _) (SameBut.refl _ s) .act (by decide)
@[simp] theorem State.setQual_upb (s : State) (q : QualSt) : (s.setQual q).upb = s.upb := State.setQual_keeps q (List.Subset.refl _) (SameBut.refl _ s) .upb (by decide)
@[simp] theorem State.setQual_restarts (s : State) (q : QualSt) : (s.setQual q).restarts = s.restarts := State.setQual_keeps q (List.Subset.refl _) (SameBut.refl _ s) .restarts (by decide)
@[simp] theorem State.setQual_gsm (s : State) (q : QualSt) : (s.setQual q).gsm = s.gsm := State.setQual_keeps q (List.Subset.refl _) (SameBut.refl _ s) .gsm (by decide)
@[simp] theorem State.setQual_txEff (s : State) (q : QualSt) : (s.setQual q).txEff = s.txEff := State.setQual_keeps q (List.Subset.refl _) (SameBut.refl _ s) .txEff (by decide)
@[simp] theorem State.setQual_pairs (s : State) (q : QualSt) : (s.setQual q).pairs = s.pairs := State.setQual_keeps q (List.Subset.refl _) (SameBut.refl _ s) .pairs (by decide)
@[simp] theorem State.setQual_key (s : State) (q : QualSt) : (s.setQual q).key = s.key := State.setQual_keeps q (List.Subset.refl _) (SameBut.refl _ s) .key (by decide)
@[simp] theorem State.setQual_pipes (s : State) (q : QualSt) : (s.setQual q).pipes = s.pipes := State.setQual_keeps q (List.Subset.refl _) (SameBut.refl _ s) .pipes (by decide)
@[simp] theorem State.setQual_epochs (s : State) (q : QualSt) : (s.setQual q).epochs = s.epochs := State.setQual_keeps q (List.Subset.refl _) (SameBut.refl _ s) .epochs (by decide)
@[simp] theorem State.setQual_prog (s : State) (q : QualSt) : (s.setQual q).prog = s.prog := State.setQual_keeps q (List.Subset.refl _) (SameBut.refl _ s) .prog (by decide)
@[simp] theorem State.setQual_rcnt (s : State) (q : QualSt) : (s.setQual q).rcnt = s.rcnt := State.setQual_keeps q (List.Subset.refl _) (SameBut.refl _ s) .rcnt (by decide)
@[simp] theorem State.setQual_rcntHeld (s : State) (q : QualSt) : (s.setQual q).rcntHeld = s.rcntHeld := State.setQual_keeps q (List.Subset.refl _) (SameBut.refl _ s) .rcntHeld (by decide)
@[simp] theorem State.setQual_excWait (s : State) (q : QualSt) : (s.setQual q).excWait = s.excWait := State.setQual_keeps q (List.Subset.refl _) (SameBut.refl _ s) .excWait (by decide)
@[simp] theorem State.setQual_bufs (s : State) (q : QualSt) : (s.setQual q).bufs = s.bufs := State.setQual_keeps q (List.Subset.refl _) (SameBut.refl _ s) .bufs (by decide)
@[simp] theorem State.setQual_bufRot (s : State) (q : QualSt) : (s.setQual q).bufRot = s.bufRot := State.setQual_keeps q (List.Subset.refl _) (SameBut.refl _ s) .bufRot (by decide)
@[simp] theorem State.setQual_qmap (s : State) (q : QualSt) : (s.setQual q).qmap = s.qmap := State.setQual_keeps q (List.Subset.refl _) (SameBut.refl _ s) .qmap (by decide)
@[simp] theorem State.setQual_memch (s : State) (q : QualSt) : (s.setQual q).memch = s.memch := State.setQual_keeps q (List.Subset.refl _) (SameBut.refl _ s) .memch (by decide)
@[simp] theorem State.setQual_ecc (s : State) (q : QualSt) : (s.setQual q).ecc = s.ecc := State.setQual_keeps q (List.Subset.refl _) (SameBut.refl _ s) .ecc (by decide)
@[simp] theorem State.setQual_mxe (s : State) (q : QualSt) : (s.setQual q).mxe = s.mxe := State.setQual_keeps q (List.Subset.refl _) (SameBut.refl _ s) .mxe (by decide)
@[simp] theorem State.setQual_queues (s : State) (q : QualSt) : (s.setQual q).queues = s.queues := State.setQual_keeps q (List.Subset.refl _) (SameBut.refl _ s) .queues (by decide)
@[simp] theorem State.setQual_turns (s : State) (q : QualSt) : (s.setQual q).turns = s.turns := State.setQual_keeps q (List.Subset.refl _) (SameBut.refl _ s) .turns (by decide)
@[simp] theorem State.setQual_elig (s : State) (q : QualSt) : (s.setQual q).elig = s.elig := State.setQual_keeps q (List.Subset.refl _) (SameBut.refl _ s) .elig (by decide)
@[simp] theorem State.setQual_shapers (s : State) (q : QualSt) : (s.setQual q).shapers = s.shapers := State.setQual_keeps q (List.Subset.refl _) (SameBut.refl _ s) .shapers (by decide)
@[simp] theorem State.setQual_policers (s : State) (q : QualSt) : (s.setQual q).policers = s.policers := State.setQual_keeps q (List.Subset.refl _) (SameBut.refl _ s) .policers (by decide)
@[simp] theorem State.setQual_gates (s : State) (q : QualSt) : (s.setQual q).gates = s.gates := State.setQual_keeps q (List.Subset.refl _) (SameBut.refl _ s) .gates (by decide)
@[simp] theorem State.setQual_gateBusy (s : State) (q : QualSt) : (s.setQual q).gateBusy = s.gateBusy := State.setQual_keeps q (List.Subset.refl _) (SameBut.refl _ s) .gateBusy (by decide)
@[simp] theorem State.setQual_lanes (s : State) (q : QualSt) : (s.setQual q).lanes = s.lanes := State.setQual_keeps q (List.Subset.refl _) (SameBut.refl _ s) .lanes (by decide)
@[simp] theorem State.setQual_lports (s : State) (q : QualSt) : (s.setQual q).lports = s.lports := State.setQual_keeps q (List.Subset.refl _) (SameBut.refl _ s) .lports (by decide)
@[simp] theorem State.setQual_mdio (s : State) (q : QualSt) : (s.setQual q).mdio = s.mdio := State.setQual_keeps q (List.Subset.refl _) (SameBut.refl _ s) .mdio (by decide)
@[simp] theorem State.setQual_log (s : State) (q : QualSt) : (s.setQual q).log = s.log := State.setQual_keeps q (List.Subset.refl _) (SameBut.refl _ s) .log (by decide)
@[simp] theorem State.setQual_cpu (s : State) (q : QualSt) : (s.setQual q).cpu = s.cpu := State.setQual_keeps q (List.Subset.refl _) (SameBut.refl _ s) .cpu (by decide)
@[simp] theorem State.setQual_pwr (s : State) (q : QualSt) : (s.setQual q).pwr = s.pwr := State.setQual_keeps q (List.Subset.refl _) (SameBut.refl _ s) .pwr (by decide)
@[simp] theorem State.setQual_rst (s : State) (q : QualSt) : (s.setQual q).rst = s.rst := State.setQual_keeps q (List.Subset.refl _) (SameBut.refl _ s) .rst (by decide)
@[simp] theorem State.setQual_sys (s : State) (q : QualSt) : (s.setQual q).sys = s.sys := State.setQual_keeps q (List.Subset.refl _) (SameBut.refl _ s) .sys (by decide)
@[simp] theorem State.setQual_pins (s : State) (q : QualSt) : (s.setQual q).pins = s.pins := State.setQual_keeps q (List.Subset.refl _) (SameBut.refl _ s) .pins (by decide)
@[simp] theorem State.setQual_clock (s : State) (q : QualSt) : (s.setQual q).clock = s.clock := State.setQual_keeps q (List.Subset.refl _) (SameBut.refl _ s) .clock (by decide)
@[simp] theorem State.setQual_timers (s : State) (q : QualSt) : (s.setQual q).timers = s.timers := State.setQual_keeps q (List.Subset.refl _) (SameBut.refl _ s) .timers (by decide)
@[simp] theorem State.setQual_pending (s : State) (q : QualSt) : (s.setQual q).pending = s.pending := State.setQual_keeps q (List.Subset.refl _) (SameBut.refl _ s) .pending (by decide)
@[simp] theorem State.setQual_dark (s : State) (q : QualSt) : (s.setQual q).dark = s.dark := State.setQual_keeps q (List.Subset.refl _) (SameBut.refl _ s) .dark (by decide)
@[simp] theorem State.setQual_resp (s : State) (q : QualSt) : (s.setQual q).resp = s.resp := State.setQual_keeps q (List.Subset.refl _) (SameBut.refl _ s) .resp (by decide)
@[simp] theorem State.setQual_fresh (s : State) (q : QualSt) : (s.setQual q).fresh = s.fresh := State.setQual_keeps q (List.Subset.refl _) (SameBut.refl _ s) .fresh (by decide)
@[simp] theorem State.setQual_running (s : State) (q : QualSt) (g_ : Nat) : (s.setQual q).running g_ = s.running g_ := State.running_of_timers (State.setQual_timers s q) g_
@[simp] theorem State.setQual_domOn (s : State) (q : QualSt) (g_ : Nat) : (s.setQual q).domOn g_ = s.domOn g_ := State.domOn_of_pwr (State.setQual_pwr s q) g_

/-! `State.setB` -/

@[simp] theorem State.setB_shown (s : State) (b : BSt) : (s.setB b).shown = s.shown := State.setB_keeps b (List.Subset.refl _) (SameBut.refl _ s) .shown (by decide)
@[simp] theorem State.setB_mirror (s : State) (b : BSt) : (s.setB b).mirror = s.mirror := State.setB_keeps b (List.Subset.refl _) (SameBut.refl _ s) .mirror (by decide)
@[simp] theorem State.setB_mem (s : State) (b : BSt) : (s.setB b).mem = s.mem := State.setB_keeps b (List.Subset.refl _) (SameBut.refl _ s) .mem (by decide)
@[simp] theorem State.setB_cmt (s : State) (b : BSt) : (s.setB b).cmt = s.cmt := State.setB_keeps b (List.Subset.refl _) (SameBut.refl _ s) .cmt (by decide)
@[simp] theorem State.setB_own (s : State) (b : BSt) : (s.setB b).own = s.own := State.setB_keeps b (List.Subset.refl _) (SameBut.refl _ s) .own (by decide)
@[simp] theorem State.setB_nextPkt (s : State) (b : BSt) : (s.setB b).nextPkt = s.nextPkt := State.setB_keeps b (List.Subset.refl _) (SameBut.refl _ s) .nextPkt (by decide)
@[simp] theorem State.setB_rx (s : State) (b : BSt) : (s.setB b).rx = s.rx := State.setB_keeps b (List.Subset.refl _) (SameBut.refl _ s) .rx (by decide)
@[simp] theorem State.setB_dsf (s : State) (b : BSt) : (s.setB b).dsf = s.dsf := State.setB_keeps b (List.Subset.refl _) (SameBut.refl _ s) .dsf (by decide)
@[simp] theorem State.setB_tmap (s : State) (b : BSt) : (s.setB b).tmap = s.tmap := State.setB_keeps b (List.Subset.refl _) (SameBut.refl _ s) .tmap (by decide)
@[simp] theorem State.setB_tribs (s : State) (b : BSt) : (s.setB b).tribs = s.tribs := State.setB_keeps b (List.Subset.refl _) (SameBut.refl _ s) .tribs (by decide)
@[simp] theorem State.setB_tfrags (s : State) (b : BSt) : (s.setB b).tfrags = s.tfrags := State.setB_keeps b (List.Subset.refl _) (SameBut.refl _ s) .tfrags (by decide)
@[simp] theorem State.setB_rows (s : State) (b : BSt) : (s.setB b).rows = s.rows := State.setB_keeps b (List.Subset.refl _) (SameBut.refl _ s) .rows (by decide)
@[simp] theorem State.setB_ttest (s : State) (b : BSt) : (s.setB b).ttest = s.ttest := State.setB_keeps b (List.Subset.refl _) (SameBut.refl _ s) .ttest (by decide)
@[simp] theorem State.setB_act (s : State) (b : BSt) : (s.setB b).act = s.act := State.setB_keeps b (List.Subset.refl _) (SameBut.refl _ s) .act (by decide)
@[simp] theorem State.setB_upb (s : State) (b : BSt) : (s.setB b).upb = s.upb := State.setB_keeps b (List.Subset.refl _) (SameBut.refl _ s) .upb (by decide)
@[simp] theorem State.setB_restarts (s : State) (b : BSt) : (s.setB b).restarts = s.restarts := State.setB_keeps b (List.Subset.refl _) (SameBut.refl _ s) .restarts (by decide)
@[simp] theorem State.setB_gsm (s : State) (b : BSt) : (s.setB b).gsm = s.gsm := State.setB_keeps b (List.Subset.refl _) (SameBut.refl _ s) .gsm (by decide)
@[simp] theorem State.setB_txEff (s : State) (b : BSt) : (s.setB b).txEff = s.txEff := State.setB_keeps b (List.Subset.refl _) (SameBut.refl _ s) .txEff (by decide)
@[simp] theorem State.setB_pairs (s : State) (b : BSt) : (s.setB b).pairs = s.pairs := State.setB_keeps b (List.Subset.refl _) (SameBut.refl _ s) .pairs (by decide)
@[simp] theorem State.setB_key (s : State) (b : BSt) : (s.setB b).key = s.key := State.setB_keeps b (List.Subset.refl _) (SameBut.refl _ s) .key (by decide)
@[simp] theorem State.setB_pipes (s : State) (b : BSt) : (s.setB b).pipes = s.pipes := State.setB_keeps b (List.Subset.refl _) (SameBut.refl _ s) .pipes (by decide)
@[simp] theorem State.setB_epochs (s : State) (b : BSt) : (s.setB b).epochs = s.epochs := State.setB_keeps b (List.Subset.refl _) (SameBut.refl _ s) .epochs (by decide)
@[simp] theorem State.setB_prog (s : State) (b : BSt) : (s.setB b).prog = s.prog := State.setB_keeps b (List.Subset.refl _) (SameBut.refl _ s) .prog (by decide)
@[simp] theorem State.setB_rcnt (s : State) (b : BSt) : (s.setB b).rcnt = s.rcnt := State.setB_keeps b (List.Subset.refl _) (SameBut.refl _ s) .rcnt (by decide)
@[simp] theorem State.setB_rcntHeld (s : State) (b : BSt) : (s.setB b).rcntHeld = s.rcntHeld := State.setB_keeps b (List.Subset.refl _) (SameBut.refl _ s) .rcntHeld (by decide)
@[simp] theorem State.setB_excWait (s : State) (b : BSt) : (s.setB b).excWait = s.excWait := State.setB_keeps b (List.Subset.refl _) (SameBut.refl _ s) .excWait (by decide)
@[simp] theorem State.setB_bufs (s : State) (b : BSt) : (s.setB b).bufs = s.bufs := State.setB_keeps b (List.Subset.refl _) (SameBut.refl _ s) .bufs (by decide)
@[simp] theorem State.setB_bufRot (s : State) (b : BSt) : (s.setB b).bufRot = s.bufRot := State.setB_keeps b (List.Subset.refl _) (SameBut.refl _ s) .bufRot (by decide)
@[simp] theorem State.setB_qmap (s : State) (b : BSt) : (s.setB b).qmap = s.qmap := State.setB_keeps b (List.Subset.refl _) (SameBut.refl _ s) .qmap (by decide)
@[simp] theorem State.setB_memch (s : State) (b : BSt) : (s.setB b).memch = s.memch := State.setB_keeps b (List.Subset.refl _) (SameBut.refl _ s) .memch (by decide)
@[simp] theorem State.setB_ecc (s : State) (b : BSt) : (s.setB b).ecc = s.ecc := State.setB_keeps b (List.Subset.refl _) (SameBut.refl _ s) .ecc (by decide)
@[simp] theorem State.setB_mxe (s : State) (b : BSt) : (s.setB b).mxe = s.mxe := State.setB_keeps b (List.Subset.refl _) (SameBut.refl _ s) .mxe (by decide)
@[simp] theorem State.setB_queues (s : State) (b : BSt) : (s.setB b).queues = s.queues := State.setB_keeps b (List.Subset.refl _) (SameBut.refl _ s) .queues (by decide)
@[simp] theorem State.setB_turns (s : State) (b : BSt) : (s.setB b).turns = s.turns := State.setB_keeps b (List.Subset.refl _) (SameBut.refl _ s) .turns (by decide)
@[simp] theorem State.setB_elig (s : State) (b : BSt) : (s.setB b).elig = s.elig := State.setB_keeps b (List.Subset.refl _) (SameBut.refl _ s) .elig (by decide)
@[simp] theorem State.setB_shapers (s : State) (b : BSt) : (s.setB b).shapers = s.shapers := State.setB_keeps b (List.Subset.refl _) (SameBut.refl _ s) .shapers (by decide)
@[simp] theorem State.setB_policers (s : State) (b : BSt) : (s.setB b).policers = s.policers := State.setB_keeps b (List.Subset.refl _) (SameBut.refl _ s) .policers (by decide)
@[simp] theorem State.setB_gates (s : State) (b : BSt) : (s.setB b).gates = s.gates := State.setB_keeps b (List.Subset.refl _) (SameBut.refl _ s) .gates (by decide)
@[simp] theorem State.setB_gateBusy (s : State) (b : BSt) : (s.setB b).gateBusy = s.gateBusy := State.setB_keeps b (List.Subset.refl _) (SameBut.refl _ s) .gateBusy (by decide)
@[simp] theorem State.setB_lanes (s : State) (b : BSt) : (s.setB b).lanes = s.lanes := State.setB_keeps b (List.Subset.refl _) (SameBut.refl _ s) .lanes (by decide)
@[simp] theorem State.setB_lports (s : State) (b : BSt) : (s.setB b).lports = s.lports := State.setB_keeps b (List.Subset.refl _) (SameBut.refl _ s) .lports (by decide)
@[simp] theorem State.setB_mdio (s : State) (b : BSt) : (s.setB b).mdio = s.mdio := State.setB_keeps b (List.Subset.refl _) (SameBut.refl _ s) .mdio (by decide)
@[simp] theorem State.setB_log (s : State) (b : BSt) : (s.setB b).log = s.log := State.setB_keeps b (List.Subset.refl _) (SameBut.refl _ s) .log (by decide)
@[simp] theorem State.setB_cpu (s : State) (b : BSt) : (s.setB b).cpu = s.cpu := State.setB_keeps b (List.Subset.refl _) (SameBut.refl _ s) .cpu (by decide)
@[simp] theorem State.setB_pwr (s : State) (b : BSt) : (s.setB b).pwr = s.pwr := State.setB_keeps b (List.Subset.refl _) (SameBut.refl _ s) .pwr (by decide)
@[simp] theorem State.setB_rst (s : State) (b : BSt) : (s.setB b).rst = s.rst := State.setB_keeps b (List.Subset.refl _) (SameBut.refl _ s) .rst (by decide)
@[simp] theorem State.setB_sys (s : State) (b : BSt) : (s.setB b).sys = s.sys := State.setB_keeps b (List.Subset.refl _) (SameBut.refl _ s) .sys (by decide)
@[simp] theorem State.setB_pins (s : State) (b : BSt) : (s.setB b).pins = s.pins := State.setB_keeps b (List.Subset.refl _) (SameBut.refl _ s) .pins (by decide)
@[simp] theorem State.setB_clock (s : State) (b : BSt) : (s.setB b).clock = s.clock := State.setB_keeps b (List.Subset.refl _) (SameBut.refl _ s) .clock (by decide)
@[simp] theorem State.setB_timers (s : State) (b : BSt) : (s.setB b).timers = s.timers := State.setB_keeps b (List.Subset.refl _) (SameBut.refl _ s) .timers (by decide)
@[simp] theorem State.setB_pending (s : State) (b : BSt) : (s.setB b).pending = s.pending := State.setB_keeps b (List.Subset.refl _) (SameBut.refl _ s) .pending (by decide)
@[simp] theorem State.setB_dark (s : State) (b : BSt) : (s.setB b).dark = s.dark := State.setB_keeps b (List.Subset.refl _) (SameBut.refl _ s) .dark (by decide)
@[simp] theorem State.setB_resp (s : State) (b : BSt) : (s.setB b).resp = s.resp := State.setB_keeps b (List.Subset.refl _) (SameBut.refl _ s) .resp (by decide)
@[simp] theorem State.setB_fresh (s : State) (b : BSt) : (s.setB b).fresh = s.fresh := State.setB_keeps b (List.Subset.refl _) (SameBut.refl _ s) .fresh (by decide)
@[simp] theorem State.setB_running (s : State) (b : BSt) (g_ : Nat) : (s.setB b).running g_ = s.running g_ := State.running_of_timers (State.setB_timers s b) g_
@[simp] theorem State.setB_domOn (s : State) (b : BSt) (g_ : Nat) : (s.setB b).domOn g_ = s.domOn g_ := State.domOn_of_pwr (State.setB_pwr s b) g_

/-! `State.setFrags` -/

@[simp] theorem State.setFrags_regs (s : State) (c : Chan) (fs : List (List Byte)) : (s.setFrags c fs).regs = s.regs := (rfl)
@[simp] theorem State.setFrags_shown (s : State) (c : Chan) (fs : List (List Byte)) : (s.setFrags c fs).shown = s.shown := (rfl)
@[simp] theorem State.setFrags_mirror (s : State) (c : Chan) (fs : List (List Byte)) : (s.setFrags c fs).mirror = s.mirror := (rfl)
@[simp] theorem State.setFrags_mem (s : State) (c : Chan) (fs : List (List Byte)) : (s.setFrags c fs).mem = s.mem := (rfl)
@[simp] theorem State.setFrags_seam (s : State) (c : Chan) (fs : List (List Byte)) : (s.setFrags c fs).seam = s.seam := (rfl)
@[simp] theorem State.setFrags_cmt (s : State) (c : Chan) (fs : List (List Byte)) : (s.setFrags c fs).cmt = s.cmt := (rfl)
@[simp] theorem State.setFrags_own (s : State) (c : Chan) (fs : List (List Byte)) : (s.setFrags c fs).own = s.own := (rfl)
@[simp] theorem State.setFrags_nextPkt (s : State) (c : Chan) (fs : List (List Byte)) : (s.setFrags c fs).nextPkt = s.nextPkt := (rfl)
@[simp] theorem State.setFrags_rx (s : State) (c : Chan) (fs : List (List Byte)) : (s.setFrags c fs).rx = s.rx := (rfl)
@[simp] theorem State.setFrags_dsf (s : State) (c : Chan) (fs : List (List Byte)) : (s.setFrags c fs).dsf = s.dsf := (rfl)
@[simp] theorem State.setFrags_tmap (s : State) (c : Chan) (fs : List (List Byte)) : (s.setFrags c fs).tmap = s.tmap := (rfl)
@[simp] theorem State.setFrags_tribs (s : State) (c : Chan) (fs : List (List Byte)) : (s.setFrags c fs).tribs = s.tribs := (rfl)
@[simp] theorem State.setFrags_rows (s : State) (c : Chan) (fs : List (List Byte)) : (s.setFrags c fs).rows = s.rows := (rfl)
@[simp] theorem State.setFrags_ttest (s : State) (c : Chan) (fs : List (List Byte)) : (s.setFrags c fs).ttest = s.ttest := (rfl)
@[simp] theorem State.setFrags_act (s : State) (c : Chan) (fs : List (List Byte)) : (s.setFrags c fs).act = s.act := (rfl)
@[simp] theorem State.setFrags_upb (s : State) (c : Chan) (fs : List (List Byte)) : (s.setFrags c fs).upb = s.upb := (rfl)
@[simp] theorem State.setFrags_restarts (s : State) (c : Chan) (fs : List (List Byte)) : (s.setFrags c fs).restarts = s.restarts := (rfl)
@[simp] theorem State.setFrags_gsm (s : State) (c : Chan) (fs : List (List Byte)) : (s.setFrags c fs).gsm = s.gsm := (rfl)
@[simp] theorem State.setFrags_txEff (s : State) (c : Chan) (fs : List (List Byte)) : (s.setFrags c fs).txEff = s.txEff := (rfl)
@[simp] theorem State.setFrags_pairs (s : State) (c : Chan) (fs : List (List Byte)) : (s.setFrags c fs).pairs = s.pairs := (rfl)
@[simp] theorem State.setFrags_key (s : State) (c : Chan) (fs : List (List Byte)) : (s.setFrags c fs).key = s.key := (rfl)
@[simp] theorem State.setFrags_pipes (s : State) (c : Chan) (fs : List (List Byte)) : (s.setFrags c fs).pipes = s.pipes := (rfl)
@[simp] theorem State.setFrags_epochs (s : State) (c : Chan) (fs : List (List Byte)) : (s.setFrags c fs).epochs = s.epochs := (rfl)
@[simp] theorem State.setFrags_prog (s : State) (c : Chan) (fs : List (List Byte)) : (s.setFrags c fs).prog = s.prog := (rfl)
@[simp] theorem State.setFrags_rcnt (s : State) (c : Chan) (fs : List (List Byte)) : (s.setFrags c fs).rcnt = s.rcnt := (rfl)
@[simp] theorem State.setFrags_rcntHeld (s : State) (c : Chan) (fs : List (List Byte)) : (s.setFrags c fs).rcntHeld = s.rcntHeld := (rfl)
@[simp] theorem State.setFrags_excWait (s : State) (c : Chan) (fs : List (List Byte)) : (s.setFrags c fs).excWait = s.excWait := (rfl)
@[simp] theorem State.setFrags_bufs (s : State) (c : Chan) (fs : List (List Byte)) : (s.setFrags c fs).bufs = s.bufs := (rfl)
@[simp] theorem State.setFrags_bufRot (s : State) (c : Chan) (fs : List (List Byte)) : (s.setFrags c fs).bufRot = s.bufRot := (rfl)
@[simp] theorem State.setFrags_qmap (s : State) (c : Chan) (fs : List (List Byte)) : (s.setFrags c fs).qmap = s.qmap := (rfl)
@[simp] theorem State.setFrags_memch (s : State) (c : Chan) (fs : List (List Byte)) : (s.setFrags c fs).memch = s.memch := (rfl)
@[simp] theorem State.setFrags_ecc (s : State) (c : Chan) (fs : List (List Byte)) : (s.setFrags c fs).ecc = s.ecc := (rfl)
@[simp] theorem State.setFrags_mxe (s : State) (c : Chan) (fs : List (List Byte)) : (s.setFrags c fs).mxe = s.mxe := (rfl)
@[simp] theorem State.setFrags_queues (s : State) (c : Chan) (fs : List (List Byte)) : (s.setFrags c fs).queues = s.queues := (rfl)
@[simp] theorem State.setFrags_turns (s : State) (c : Chan) (fs : List (List Byte)) : (s.setFrags c fs).turns = s.turns := (rfl)
@[simp] theorem State.setFrags_elig (s : State) (c : Chan) (fs : List (List Byte)) : (s.setFrags c fs).elig = s.elig := (rfl)
@[simp] theorem State.setFrags_shapers (s : State) (c : Chan) (fs : List (List Byte)) : (s.setFrags c fs).shapers = s.shapers := (rfl)
@[simp] theorem State.setFrags_policers (s : State) (c : Chan) (fs : List (List Byte)) : (s.setFrags c fs).policers = s.policers := (rfl)
@[simp] theorem State.setFrags_gates (s : State) (c : Chan) (fs : List (List Byte)) : (s.setFrags c fs).gates = s.gates := (rfl)
@[simp] theorem State.setFrags_gateBusy (s : State) (c : Chan) (fs : List (List Byte)) : (s.setFrags c fs).gateBusy = s.gateBusy := (rfl)
@[simp] theorem State.setFrags_lanes (s : State) (c : Chan) (fs : List (List Byte)) : (s.setFrags c fs).lanes = s.lanes := (rfl)
@[simp] theorem State.setFrags_lports (s : State) (c : Chan) (fs : List (List Byte)) : (s.setFrags c fs).lports = s.lports := (rfl)
@[simp] theorem State.setFrags_mdio (s : State) (c : Chan) (fs : List (List Byte)) : (s.setFrags c fs).mdio = s.mdio := (rfl)
@[simp] theorem State.setFrags_tim (s : State) (c : Chan) (fs : List (List Byte)) : (s.setFrags c fs).tim = s.tim := (rfl)
@[simp] theorem State.setFrags_evt (s : State) (c : Chan) (fs : List (List Byte)) : (s.setFrags c fs).evt = s.evt := (rfl)
@[simp] theorem State.setFrags_log (s : State) (c : Chan) (fs : List (List Byte)) : (s.setFrags c fs).log = s.log := (rfl)
@[simp] theorem State.setFrags_tsk (s : State) (c : Chan) (fs : List (List Byte)) : (s.setFrags c fs).tsk = s.tsk := (rfl)
@[simp] theorem State.setFrags_cpu (s : State) (c : Chan) (fs : List (List Byte)) : (s.setFrags c fs).cpu = s.cpu := (rfl)
@[simp] theorem State.setFrags_pwr (s : State) (c : Chan) (fs : List (List Byte)) : (s.setFrags c fs).pwr = s.pwr := (rfl)
@[simp] theorem State.setFrags_rst (s : State) (c : Chan) (fs : List (List Byte)) : (s.setFrags c fs).rst = s.rst := (rfl)
@[simp] theorem State.setFrags_sys (s : State) (c : Chan) (fs : List (List Byte)) : (s.setFrags c fs).sys = s.sys := (rfl)
@[simp] theorem State.setFrags_hif (s : State) (c : Chan) (fs : List (List Byte)) : (s.setFrags c fs).hif = s.hif := (rfl)
@[simp] theorem State.setFrags_pins (s : State) (c : Chan) (fs : List (List Byte)) : (s.setFrags c fs).pins = s.pins := (rfl)
@[simp] theorem State.setFrags_clock (s : State) (c : Chan) (fs : List (List Byte)) : (s.setFrags c fs).clock = s.clock := (rfl)
@[simp] theorem State.setFrags_timers (s : State) (c : Chan) (fs : List (List Byte)) : (s.setFrags c fs).timers = s.timers := (rfl)
@[simp] theorem State.setFrags_pending (s : State) (c : Chan) (fs : List (List Byte)) : (s.setFrags c fs).pending = s.pending := (rfl)
@[simp] theorem State.setFrags_dark (s : State) (c : Chan) (fs : List (List Byte)) : (s.setFrags c fs).dark = s.dark := (rfl)
@[simp] theorem State.setFrags_resp (s : State) (c : Chan) (fs : List (List Byte)) : (s.setFrags c fs).resp = s.resp := (rfl)
@[simp] theorem State.setFrags_out (s : State) (c : Chan) (fs : List (List Byte)) : (s.setFrags c fs).out = s.out := (rfl)
@[simp] theorem State.setFrags_fresh (s : State) (c : Chan) (fs : List (List Byte)) : (s.setFrags c fs).fresh = s.fresh := (rfl)
@[simp] theorem State.setFrags_rd (s : State) (c : Chan) (fs : List (List Byte)) (k : Nat) : (s.setFrags c fs).rd k = s.rd k := State.rd_of_regs (State.setFrags_regs s c fs) k
@[simp] theorem State.setFrags_fld (s : State) (c : Chan) (fs : List (List Byte)) (g_ : Fld) : (s.setFrags c fs).fld g_ = s.fld g_ := State.fld_of_regs (State.setFrags_regs s c fs) g_
@[simp] theorem State.setFrags_bit (s : State) (c : Chan) (fs : List (List Byte)) (g_ : Fld) : (s.setFrags c fs).bit g_ = s.bit g_ := State.bit_of_regs (State.setFrags_regs s c fs) g_
@[simp] theorem State.setFrags_running (s : State) (c : Chan) (fs : List (List Byte)) (g_ : Nat) : (s.setFrags c fs).running g_ = s.running g_ := State.running_of_timers (State.setFrags_timers s c fs) g_
@[simp] theorem State.setFrags_domOn (s : State) (c : Chan) (fs : List (List Byte)) (g_ : Nat) : (s.setFrags c fs).domOn g_ = s.domOn g_ := State.domOn_of_pwr (State.setFrags_pwr s c fs) g_

/-! `State.setRow` -/

@[simp] theorem State.setRow_regs (s : State) (l : Fin 48) (x : RowLane) : (s.setRow l x).regs = s.regs := (rfl)
@[simp] theorem State.setRow_shown (s : State) (l : Fin 48) (x : RowLane) : (s.setRow l x).shown = s.shown := (rfl)
@[simp] theorem State.setRow_mirror (s : State) (l : Fin 48) (x : RowLane) : (s.setRow l x).mirror = s.mirror := (rfl)
@[simp] theorem State.setRow_mem (s : State) (l : Fin 48) (x : RowLane) : (s.setRow l x).mem = s.mem := (rfl)
@[simp] theorem State.setRow_seam (s : State) (l : Fin 48) (x : RowLane) : (s.setRow l x).seam = s.seam := (rfl)
@[simp] theorem State.setRow_cmt (s : State) (l : Fin 48) (x : RowLane) : (s.setRow l x).cmt = s.cmt := (rfl)
@[simp] theorem State.setRow_own (s : State) (l : Fin 48) (x : RowLane) : (s.setRow l x).own = s.own := (rfl)
@[simp] theorem State.setRow_nextPkt (s : State) (l : Fin 48) (x : RowLane) : (s.setRow l x).nextPkt = s.nextPkt := (rfl)
@[simp] theorem State.setRow_rx (s : State) (l : Fin 48) (x : RowLane) : (s.setRow l x).rx = s.rx := (rfl)
@[simp] theorem State.setRow_dsf (s : State) (l : Fin 48) (x : RowLane) : (s.setRow l x).dsf = s.dsf := (rfl)
@[simp] theorem State.setRow_tmap (s : State) (l : Fin 48) (x : RowLane) : (s.setRow l x).tmap = s.tmap := (rfl)
@[simp] theorem State.setRow_tribs (s : State) (l : Fin 48) (x : RowLane) : (s.setRow l x).tribs = s.tribs := (rfl)
@[simp] theorem State.setRow_tfrags (s : State) (l : Fin 48) (x : RowLane) : (s.setRow l x).tfrags = s.tfrags := (rfl)
@[simp] theorem State.setRow_ttest (s : State) (l : Fin 48) (x : RowLane) : (s.setRow l x).ttest = s.ttest := (rfl)
@[simp] theorem State.setRow_act (s : State) (l : Fin 48) (x : RowLane) : (s.setRow l x).act = s.act := (rfl)
@[simp] theorem State.setRow_upb (s : State) (l : Fin 48) (x : RowLane) : (s.setRow l x).upb = s.upb := (rfl)
@[simp] theorem State.setRow_restarts (s : State) (l : Fin 48) (x : RowLane) : (s.setRow l x).restarts = s.restarts := (rfl)
@[simp] theorem State.setRow_gsm (s : State) (l : Fin 48) (x : RowLane) : (s.setRow l x).gsm = s.gsm := (rfl)
@[simp] theorem State.setRow_txEff (s : State) (l : Fin 48) (x : RowLane) : (s.setRow l x).txEff = s.txEff := (rfl)
@[simp] theorem State.setRow_pairs (s : State) (l : Fin 48) (x : RowLane) : (s.setRow l x).pairs = s.pairs := (rfl)
@[simp] theorem State.setRow_key (s : State) (l : Fin 48) (x : RowLane) : (s.setRow l x).key = s.key := (rfl)
@[simp] theorem State.setRow_pipes (s : State) (l : Fin 48) (x : RowLane) : (s.setRow l x).pipes = s.pipes := (rfl)
@[simp] theorem State.setRow_epochs (s : State) (l : Fin 48) (x : RowLane) : (s.setRow l x).epochs = s.epochs := (rfl)
@[simp] theorem State.setRow_prog (s : State) (l : Fin 48) (x : RowLane) : (s.setRow l x).prog = s.prog := (rfl)
@[simp] theorem State.setRow_rcnt (s : State) (l : Fin 48) (x : RowLane) : (s.setRow l x).rcnt = s.rcnt := (rfl)
@[simp] theorem State.setRow_rcntHeld (s : State) (l : Fin 48) (x : RowLane) : (s.setRow l x).rcntHeld = s.rcntHeld := (rfl)
@[simp] theorem State.setRow_excWait (s : State) (l : Fin 48) (x : RowLane) : (s.setRow l x).excWait = s.excWait := (rfl)
@[simp] theorem State.setRow_bufs (s : State) (l : Fin 48) (x : RowLane) : (s.setRow l x).bufs = s.bufs := (rfl)
@[simp] theorem State.setRow_bufRot (s : State) (l : Fin 48) (x : RowLane) : (s.setRow l x).bufRot = s.bufRot := (rfl)
@[simp] theorem State.setRow_qmap (s : State) (l : Fin 48) (x : RowLane) : (s.setRow l x).qmap = s.qmap := (rfl)
@[simp] theorem State.setRow_memch (s : State) (l : Fin 48) (x : RowLane) : (s.setRow l x).memch = s.memch := (rfl)
@[simp] theorem State.setRow_ecc (s : State) (l : Fin 48) (x : RowLane) : (s.setRow l x).ecc = s.ecc := (rfl)
@[simp] theorem State.setRow_mxe (s : State) (l : Fin 48) (x : RowLane) : (s.setRow l x).mxe = s.mxe := (rfl)
@[simp] theorem State.setRow_queues (s : State) (l : Fin 48) (x : RowLane) : (s.setRow l x).queues = s.queues := (rfl)
@[simp] theorem State.setRow_turns (s : State) (l : Fin 48) (x : RowLane) : (s.setRow l x).turns = s.turns := (rfl)
@[simp] theorem State.setRow_elig (s : State) (l : Fin 48) (x : RowLane) : (s.setRow l x).elig = s.elig := (rfl)
@[simp] theorem State.setRow_shapers (s : State) (l : Fin 48) (x : RowLane) : (s.setRow l x).shapers = s.shapers := (rfl)
@[simp] theorem State.setRow_policers (s : State) (l : Fin 48) (x : RowLane) : (s.setRow l x).policers = s.policers := (rfl)
@[simp] theorem State.setRow_gates (s : State) (l : Fin 48) (x : RowLane) : (s.setRow l x).gates = s.gates := (rfl)
@[simp] theorem State.setRow_gateBusy (s : State) (l : Fin 48) (x : RowLane) : (s.setRow l x).gateBusy = s.gateBusy := (rfl)
@[simp] theorem State.setRow_lanes (s : State) (l : Fin 48) (x : RowLane) : (s.setRow l x).lanes = s.lanes := (rfl)
@[simp] theorem State.setRow_lports (s : State) (l : Fin 48) (x : RowLane) : (s.setRow l x).lports = s.lports := (rfl)
@[simp] theorem State.setRow_mdio (s : State) (l : Fin 48) (x : RowLane) : (s.setRow l x).mdio = s.mdio := (rfl)
@[simp] theorem State.setRow_tim (s : State) (l : Fin 48) (x : RowLane) : (s.setRow l x).tim = s.tim := (rfl)
@[simp] theorem State.setRow_evt (s : State) (l : Fin 48) (x : RowLane) : (s.setRow l x).evt = s.evt := (rfl)
@[simp] theorem State.setRow_log (s : State) (l : Fin 48) (x : RowLane) : (s.setRow l x).log = s.log := (rfl)
@[simp] theorem State.setRow_tsk (s : State) (l : Fin 48) (x : RowLane) : (s.setRow l x).tsk = s.tsk := (rfl)
@[simp] theorem State.setRow_cpu (s : State) (l : Fin 48) (x : RowLane) : (s.setRow l x).cpu = s.cpu := (rfl)
@[simp] theorem State.setRow_pwr (s : State) (l : Fin 48) (x : RowLane) : (s.setRow l x).pwr = s.pwr := (rfl)
@[simp] theorem State.setRow_rst (s : State) (l : Fin 48) (x : RowLane) : (s.setRow l x).rst = s.rst := (rfl)
@[simp] theorem State.setRow_sys (s : State) (l : Fin 48) (x : RowLane) : (s.setRow l x).sys = s.sys := (rfl)
@[simp] theorem State.setRow_hif (s : State) (l : Fin 48) (x : RowLane) : (s.setRow l x).hif = s.hif := (rfl)
@[simp] theorem State.setRow_pins (s : State) (l : Fin 48) (x : RowLane) : (s.setRow l x).pins = s.pins := (rfl)
@[simp] theorem State.setRow_clock (s : State) (l : Fin 48) (x : RowLane) : (s.setRow l x).clock = s.clock := (rfl)
@[simp] theorem State.setRow_timers (s : State) (l : Fin 48) (x : RowLane) : (s.setRow l x).timers = s.timers := (rfl)
@[simp] theorem State.setRow_pending (s : State) (l : Fin 48) (x : RowLane) : (s.setRow l x).pending = s.pending := (rfl)
@[simp] theorem State.setRow_dark (s : State) (l : Fin 48) (x : RowLane) : (s.setRow l x).dark = s.dark := (rfl)
@[simp] theorem State.setRow_resp (s : State) (l : Fin 48) (x : RowLane) : (s.setRow l x).resp = s.resp := (rfl)
@[simp] theorem State.setRow_out (s : State) (l : Fin 48) (x : RowLane) : (s.setRow l x).out = s.out := (rfl)
@[simp] theorem State.setRow_fresh (s : State) (l : Fin 48) (x : RowLane) : (s.setRow l x).fresh = s.fresh := (rfl)
@[simp] theorem State.setRow_rd (s : State) (l : Fin 48) (x : RowLane) (k : Nat) : (s.setRow l x).rd k = s.rd k := State.rd_of_regs (State.setRow_regs s l x) k
@[simp] theorem State.setRow_fld (s : State) (l : Fin 48) (x : RowLane) (g_ : Fld) : (s.setRow l x).fld g_ = s.fld g_ := State.fld_of_regs (State.setRow_regs s l x) g_
@[simp] theorem State.setRow_bit (s : State) (l : Fin 48) (x : RowLane) (g_ : Fld) : (s.setRow l x).bit g_ = s.bit g_ := State.bit_of_regs (State.setRow_regs s l x) g_
@[simp] theorem State.setRow_running (s : State) (l : Fin 48) (x : RowLane) (g_ : Nat) : (s.setRow l x).running g_ = s.running g_ := State.running_of_timers (State.setRow_timers s l x) g_
@[simp] theorem State.setRow_domOn (s : State) (l : Fin 48) (x : RowLane) (g_ : Nat) : (s.setRow l x).domOn g_ = s.domOn g_ := State.domOn_of_pwr (State.setRow_pwr s l x) g_

/-! `State.setAct` -/

@[simp] theorem State.setAct_regs (s : State) (f : Act → Act) : (s.setAct f).regs = s.regs := (rfl)
@[simp] theorem State.setAct_shown (s : State) (f : Act → Act) : (s.setAct f).shown = s.shown := (rfl)
@[simp] theorem State.setAct_mirror (s : State) (f : Act → Act) : (s.setAct f).mirror = s.mirror := (rfl)
@[simp] theorem State.setAct_mem (s : State) (f : Act → Act) : (s.setAct f).mem = s.mem := (rfl)
@[simp] theorem State.setAct_seam (s : State) (f : Act → Act) : (s.setAct f).seam = s.seam := (rfl)
@[simp] theorem State.setAct_cmt (s : State) (f : Act → Act) : (s.setAct f).cmt = s.cmt := (rfl)
@[simp] theorem State.setAct_own (s : State) (f : Act → Act) : (s.setAct f).own = s.own := (rfl)
@[simp] theorem State.setAct_nextPkt (s : State) (f : Act → Act) : (s.setAct f).nextPkt = s.nextPkt := (rfl)
@[simp] theorem State.setAct_rx (s : State) (f : Act → Act) : (s.setAct f).rx = s.rx := (rfl)
@[simp] theorem State.setAct_dsf (s : State) (f : Act → Act) : (s.setAct f).dsf = s.dsf := (rfl)
@[simp] theorem State.setAct_tmap (s : State) (f : Act → Act) : (s.setAct f).tmap = s.tmap := (rfl)
@[simp] theorem State.setAct_tribs (s : State) (f : Act → Act) : (s.setAct f).tribs = s.tribs := (rfl)
@[simp] theorem State.setAct_tfrags (s : State) (f : Act → Act) : (s.setAct f).tfrags = s.tfrags := (rfl)
@[simp] theorem State.setAct_rows (s : State) (f : Act → Act) : (s.setAct f).rows = s.rows := (rfl)
@[simp] theorem State.setAct_ttest (s : State) (f : Act → Act) : (s.setAct f).ttest = s.ttest := (rfl)
@[simp] theorem State.setAct_upb (s : State) (f : Act → Act) : (s.setAct f).upb = s.upb := (rfl)
@[simp] theorem State.setAct_restarts (s : State) (f : Act → Act) : (s.setAct f).restarts = s.restarts := (rfl)
@[simp] theorem State.setAct_gsm (s : State) (f : Act → Act) : (s.setAct f).gsm = s.gsm := (rfl)
@[simp] theorem State.setAct_txEff (s : State) (f : Act → Act) : (s.setAct f).txEff = s.txEff := (rfl)
@[simp] theorem State.setAct_pairs (s : State) (f : Act → Act) : (s.setAct f).pairs = s.pairs := (rfl)
@[simp] theorem State.setAct_key (s : State) (f : Act → Act) : (s.setAct f).key = s.key := (rfl)
@[simp] theorem State.setAct_pipes (s : State) (f : Act → Act) : (s.setAct f).pipes = s.pipes := (rfl)
@[simp] theorem State.setAct_epochs (s : State) (f : Act → Act) : (s.setAct f).epochs = s.epochs := (rfl)
@[simp] theorem State.setAct_prog (s : State) (f : Act → Act) : (s.setAct f).prog = s.prog := (rfl)
@[simp] theorem State.setAct_rcnt (s : State) (f : Act → Act) : (s.setAct f).rcnt = s.rcnt := (rfl)
@[simp] theorem State.setAct_rcntHeld (s : State) (f : Act → Act) : (s.setAct f).rcntHeld = s.rcntHeld := (rfl)
@[simp] theorem State.setAct_excWait (s : State) (f : Act → Act) : (s.setAct f).excWait = s.excWait := (rfl)
@[simp] theorem State.setAct_bufs (s : State) (f : Act → Act) : (s.setAct f).bufs = s.bufs := (rfl)
@[simp] theorem State.setAct_bufRot (s : State) (f : Act → Act) : (s.setAct f).bufRot = s.bufRot := (rfl)
@[simp] theorem State.setAct_qmap (s : State) (f : Act → Act) : (s.setAct f).qmap = s.qmap := (rfl)
@[simp] theorem State.setAct_memch (s : State) (f : Act → Act) : (s.setAct f).memch = s.memch := (rfl)
@[simp] theorem State.setAct_ecc (s : State) (f : Act → Act) : (s.setAct f).ecc = s.ecc := (rfl)
@[simp] theorem State.setAct_mxe (s : State) (f : Act → Act) : (s.setAct f).mxe = s.mxe := (rfl)
@[simp] theorem State.setAct_queues (s : State) (f : Act → Act) : (s.setAct f).queues = s.queues := (rfl)
@[simp] theorem State.setAct_turns (s : State) (f : Act → Act) : (s.setAct f).turns = s.turns := (rfl)
@[simp] theorem State.setAct_elig (s : State) (f : Act → Act) : (s.setAct f).elig = s.elig := (rfl)
@[simp] theorem State.setAct_shapers (s : State) (f : Act → Act) : (s.setAct f).shapers = s.shapers := (rfl)
@[simp] theorem State.setAct_policers (s : State) (f : Act → Act) : (s.setAct f).policers = s.policers := (rfl)
@[simp] theorem State.setAct_gates (s : State) (f : Act → Act) : (s.setAct f).gates = s.gates := (rfl)
@[simp] theorem State.setAct_gateBusy (s : State) (f : Act → Act) : (s.setAct f).gateBusy = s.gateBusy := (rfl)
@[simp] theorem State.setAct_lanes (s : State) (f : Act → Act) : (s.setAct f).lanes = s.lanes := (rfl)
@[simp] theorem State.setAct_lports (s : State) (f : Act → Act) : (s.setAct f).lports = s.lports := (rfl)
@[simp] theorem State.setAct_mdio (s : State) (f : Act → Act) : (s.setAct f).mdio = s.mdio := (rfl)
@[simp] theorem State.setAct_tim (s : State) (f : Act → Act) : (s.setAct f).tim = s.tim := (rfl)
@[simp] theorem State.setAct_evt (s : State) (f : Act → Act) : (s.setAct f).evt = s.evt := (rfl)
@[simp] theorem State.setAct_log (s : State) (f : Act → Act) : (s.setAct f).log = s.log := (rfl)
@[simp] theorem State.setAct_tsk (s : State) (f : Act → Act) : (s.setAct f).tsk = s.tsk := (rfl)
@[simp] theorem State.setAct_cpu (s : State) (f : Act → Act) : (s.setAct f).cpu = s.cpu := (rfl)
@[simp] theorem State.setAct_pwr (s : State) (f : Act → Act) : (s.setAct f).pwr = s.pwr := (rfl)
@[simp] theorem State.setAct_rst (s : State) (f : Act → Act) : (s.setAct f).rst = s.rst := (rfl)
@[simp] theorem State.setAct_sys (s : State) (f : Act → Act) : (s.setAct f).sys = s.sys := (rfl)
@[simp] theorem State.setAct_hif (s : State) (f : Act → Act) : (s.setAct f).hif = s.hif := (rfl)
@[simp] theorem State.setAct_pins (s : State) (f : Act → Act) : (s.setAct f).pins = s.pins := (rfl)
@[simp] theorem State.setAct_clock (s : State) (f : Act → Act) : (s.setAct f).clock = s.clock := (rfl)
@[simp] theorem State.setAct_timers (s : State) (f : Act → Act) : (s.setAct f).timers = s.timers := (rfl)
@[simp] theorem State.setAct_pending (s : State) (f : Act → Act) : (s.setAct f).pending = s.pending := (rfl)
@[simp] theorem State.setAct_dark (s : State) (f : Act → Act) : (s.setAct f).dark = s.dark := (rfl)
@[simp] theorem State.setAct_resp (s : State) (f : Act → Act) : (s.setAct f).resp = s.resp := (rfl)
@[simp] theorem State.setAct_out (s : State) (f : Act → Act) : (s.setAct f).out = s.out := (rfl)
@[simp] theorem State.setAct_fresh (s : State) (f : Act → Act) : (s.setAct f).fresh = s.fresh := (rfl)
@[simp] theorem State.setAct_rd (s : State) (f : Act → Act) (k : Nat) : (s.setAct f).rd k = s.rd k := State.rd_of_regs (State.setAct_regs s f) k
@[simp] theorem State.setAct_fld (s : State) (f : Act → Act) (g_ : Fld) : (s.setAct f).fld g_ = s.fld g_ := State.fld_of_regs (State.setAct_regs s f) g_
@[simp] theorem State.setAct_bit (s : State) (f : Act → Act) (g_ : Fld) : (s.setAct f).bit g_ = s.bit g_ := State.bit_of_regs (State.setAct_regs s f) g_
@[simp] theorem State.setAct_running (s : State) (f : Act → Act) (g_ : Nat) : (s.setAct f).running g_ = s.running g_ := State.running_of_timers (State.setAct_timers s f) g_
@[simp] theorem State.setAct_domOn (s : State) (f : Act → Act) (g_ : Nat) : (s.setAct f).domOn g_ = s.domOn g_ := State.domOn_of_pwr (State.setAct_pwr s f) g_

/-! `State.setPair` -/

@[simp] theorem State.setPair_regs (s : State) (n : Fin 8) (x : Pair) : (s.setPair n x).regs = s.regs := (rfl)
@[simp] theorem State.setPair_shown (s : State) (n : Fin 8) (x : Pair) : (s.setPair n x).shown = s.shown := (rfl)
@[simp] theorem State.setPair_mirror (s : State) (n : Fin 8) (x : Pair) : (s.setPair n x).mirror = s.mirror := (rfl)
@[simp] theorem State.setPair_mem (s : State) (n : Fin 8) (x : Pair) : (s.setPair n x).mem = s.mem := (rfl)
@[simp] theorem State.setPair_seam (s : State) (n : Fin 8) (x : Pair) : (s.setPair n x).seam = s.seam := (rfl)
@[simp] theorem State.setPair_cmt (s : State) (n : Fin 8) (x : Pair) : (s.setPair n x).cmt = s.cmt := (rfl)
@[simp] theorem State.setPair_own (s : State) (n : Fin 8) (x : Pair) : (s.setPair n x).own = s.own := (rfl)
@[simp] theorem State.setPair_nextPkt (s : State) (n : Fin 8) (x : Pair) : (s.setPair n x).nextPkt = s.nextPkt := (rfl)
@[simp] theorem State.setPair_rx (s : State) (n : Fin 8) (x : Pair) : (s.setPair n x).rx = s.rx := (rfl)
@[simp] theorem State.setPair_dsf (s : State) (n : Fin 8) (x : Pair) : (s.setPair n x).dsf = s.dsf := (rfl)
@[simp] theorem State.setPair_tmap (s : State) (n : Fin 8) (x : Pair) : (s.setPair n x).tmap = s.tmap := (rfl)
@[simp] theorem State.setPair_tribs (s : State) (n : Fin 8) (x : Pair) : (s.setPair n x).tribs = s.tribs := (rfl)
@[simp] theorem State.setPair_tfrags (s : State) (n : Fin 8) (x : Pair) : (s.setPair n x).tfrags = s.tfrags := (rfl)
@[simp] theorem State.setPair_rows (s : State) (n : Fin 8) (x : Pair) : (s.setPair n x).rows = s.rows := (rfl)
@[simp] theorem State.setPair_ttest (s : State) (n : Fin 8) (x : Pair) : (s.setPair n x).ttest = s.ttest := (rfl)
@[simp] theorem State.setPair_act (s : State) (n : Fin 8) (x : Pair) : (s.setPair n x).act = s.act := (rfl)
@[simp] theorem State.setPair_upb (s : State) (n : Fin 8) (x : Pair) : (s.setPair n x).upb = s.upb := (rfl)
@[simp] theorem State.setPair_restarts (s : State) (n : Fin 8) (x : Pair) : (s.setPair n x).restarts = s.restarts := (rfl)
@[simp] theorem State.setPair_gsm (s : State) (n : Fin 8) (x : Pair) : (s.setPair n x).gsm = s.gsm := (rfl)
@[simp] theorem State.setPair_txEff (s : State) (n : Fin 8) (x : Pair) : (s.setPair n x).txEff = s.txEff := (rfl)
@[simp] theorem State.setPair_key (s : State) (n : Fin 8) (x : Pair) : (s.setPair n x).key = s.key := (rfl)
@[simp] theorem State.setPair_pipes (s : State) (n : Fin 8) (x : Pair) : (s.setPair n x).pipes = s.pipes := (rfl)
@[simp] theorem State.setPair_epochs (s : State) (n : Fin 8) (x : Pair) : (s.setPair n x).epochs = s.epochs := (rfl)
@[simp] theorem State.setPair_prog (s : State) (n : Fin 8) (x : Pair) : (s.setPair n x).prog = s.prog := (rfl)
@[simp] theorem State.setPair_rcnt (s : State) (n : Fin 8) (x : Pair) : (s.setPair n x).rcnt = s.rcnt := (rfl)
@[simp] theorem State.setPair_rcntHeld (s : State) (n : Fin 8) (x : Pair) : (s.setPair n x).rcntHeld = s.rcntHeld := (rfl)
@[simp] theorem State.setPair_excWait (s : State) (n : Fin 8) (x : Pair) : (s.setPair n x).excWait = s.excWait := (rfl)
@[simp] theorem State.setPair_bufs (s : State) (n : Fin 8) (x : Pair) : (s.setPair n x).bufs = s.bufs := (rfl)
@[simp] theorem State.setPair_bufRot (s : State) (n : Fin 8) (x : Pair) : (s.setPair n x).bufRot = s.bufRot := (rfl)
@[simp] theorem State.setPair_qmap (s : State) (n : Fin 8) (x : Pair) : (s.setPair n x).qmap = s.qmap := (rfl)
@[simp] theorem State.setPair_memch (s : State) (n : Fin 8) (x : Pair) : (s.setPair n x).memch = s.memch := (rfl)
@[simp] theorem State.setPair_ecc (s : State) (n : Fin 8) (x : Pair) : (s.setPair n x).ecc = s.ecc := (rfl)
@[simp] theorem State.setPair_mxe (s : State) (n : Fin 8) (x : Pair) : (s.setPair n x).mxe = s.mxe := (rfl)
@[simp] theorem State.setPair_queues (s : State) (n : Fin 8) (x : Pair) : (s.setPair n x).queues = s.queues := (rfl)
@[simp] theorem State.setPair_turns (s : State) (n : Fin 8) (x : Pair) : (s.setPair n x).turns = s.turns := (rfl)
@[simp] theorem State.setPair_elig (s : State) (n : Fin 8) (x : Pair) : (s.setPair n x).elig = s.elig := (rfl)
@[simp] theorem State.setPair_shapers (s : State) (n : Fin 8) (x : Pair) : (s.setPair n x).shapers = s.shapers := (rfl)
@[simp] theorem State.setPair_policers (s : State) (n : Fin 8) (x : Pair) : (s.setPair n x).policers = s.policers := (rfl)
@[simp] theorem State.setPair_gates (s : State) (n : Fin 8) (x : Pair) : (s.setPair n x).gates = s.gates := (rfl)
@[simp] theorem State.setPair_gateBusy (s : State) (n : Fin 8) (x : Pair) : (s.setPair n x).gateBusy = s.gateBusy := (rfl)
@[simp] theorem State.setPair_lanes (s : State) (n : Fin 8) (x : Pair) : (s.setPair n x).lanes = s.lanes := (rfl)
@[simp] theorem State.setPair_lports (s : State) (n : Fin 8) (x : Pair) : (s.setPair n x).lports = s.lports := (rfl)
@[simp] theorem State.setPair_mdio (s : State) (n : Fin 8) (x : Pair) : (s.setPair n x).mdio = s.mdio := (rfl)
@[simp] theorem State.setPair_tim (s : State) (n : Fin 8) (x : Pair) : (s.setPair n x).tim = s.tim := (rfl)
@[simp] theorem State.setPair_evt (s : State) (n : Fin 8) (x : Pair) : (s.setPair n x).evt = s.evt := (rfl)
@[simp] theorem State.setPair_log (s : State) (n : Fin 8) (x : Pair) : (s.setPair n x).log = s.log := (rfl)
@[simp] theorem State.setPair_tsk (s : State) (n : Fin 8) (x : Pair) : (s.setPair n x).tsk = s.tsk := (rfl)
@[simp] theorem State.setPair_cpu (s : State) (n : Fin 8) (x : Pair) : (s.setPair n x).cpu = s.cpu := (rfl)
@[simp] theorem State.setPair_pwr (s : State) (n : Fin 8) (x : Pair) : (s.setPair n x).pwr = s.pwr := (rfl)
@[simp] theorem State.setPair_rst (s : State) (n : Fin 8) (x : Pair) : (s.setPair n x).rst = s.rst := (rfl)
@[simp] theorem State.setPair_sys (s : State) (n : Fin 8) (x : Pair) : (s.setPair n x).sys = s.sys := (rfl)
@[simp] theorem State.setPair_hif (s : State) (n : Fin 8) (x : Pair) : (s.setPair n x).hif = s.hif := (rfl)
@[simp] theorem State.setPair_pins (s : State) (n : Fin 8) (x : Pair) : (s.setPair n x).pins = s.pins := (rfl)
@[simp] theorem State.setPair_clock (s : State) (n : Fin 8) (x : Pair) : (s.setPair n x).clock = s.clock := (rfl)
@[simp] theorem State.setPair_timers (s : State) (n : Fin 8) (x : Pair) : (s.setPair n x).timers = s.timers := (rfl)
@[simp] theorem State.setPair_pending (s : State) (n : Fin 8) (x : Pair) : (s.setPair n x).pending = s.pending := (rfl)
@[simp] theorem State.setPair_dark (s : State) (n : Fin 8) (x : Pair) : (s.setPair n x).dark = s.dark := (rfl)
@[simp] theorem State.setPair_resp (s : State) (n : Fin 8) (x : Pair) : (s.setPair n x).resp = s.resp := (rfl)
@[simp] theorem State.setPair_out (s : State) (n : Fin 8) (x : Pair) : (s.setPair n x).out = s.out := (rfl)
@[simp] theorem State.setPair_fresh (s : State) (n : Fin 8) (x : Pair) : (s.setPair n x).fresh = s.fresh := (rfl)
@[simp] theorem State.setPair_rd (s : State) (n : Fin 8) (x : Pair) (k : Nat) : (s.setPair n x).rd k = s.rd k := State.rd_of_regs (State.setPair_regs s n x) k
@[simp] theorem State.setPair_fld (s : State) (n : Fin 8) (x : Pair) (g_ : Fld) : (s.setPair n x).fld g_ = s.fld g_ := State.fld_of_regs (State.setPair_regs s n x) g_
@[simp] theorem State.setPair_bit (s : State) (n : Fin 8) (x : Pair) (g_ : Fld) : (s.setPair n x).bit g_ = s.bit g_ := State.bit_of_regs (State.setPair_regs s n x) g_
@[simp] theorem State.setPair_running (s : State) (n : Fin 8) (x : Pair) (g_ : Nat) : (s.setPair n x).running g_ = s.running g_ := State.running_of_timers (State.setPair_timers s n x) g_
@[simp] theorem State.setPair_domOn (s : State) (n : Fin 8) (x : Pair) (g_ : Nat) : (s.setPair n x).domOn g_ = s.domOn g_ := State.domOn_of_pwr (State.setPair_pwr s n x) g_

/-! `State.setKey` -/

@[simp] theorem State.setKey_regs (s : State) (f : Key → Key) : (s.setKey f).regs = s.regs := (rfl)
@[simp] theorem State.setKey_shown (s : State) (f : Key → Key) : (s.setKey f).shown = s.shown := (rfl)
@[simp] theorem State.setKey_mirror (s : State) (f : Key → Key) : (s.setKey f).mirror = s.mirror := (rfl)
@[simp] theorem State.setKey_mem (s : State) (f : Key → Key) : (s.setKey f).mem = s.mem := (rfl)
@[simp] theorem State.setKey_seam (s : State) (f : Key → Key) : (s.setKey f).seam = s.seam := (rfl)
@[simp] theorem State.setKey_cmt (s : State) (f : Key → Key) : (s.setKey f).cmt = s.cmt := (rfl)
@[simp] theorem State.setKey_own (s : State) (f : Key → Key) : (s.setKey f).own = s.own := (rfl)
@[simp] theorem State.setKey_nextPkt (s : State) (f : Key → Key) : (s.setKey f).nextPkt = s.nextPkt := (rfl)
@[simp] theorem State.setKey_rx (s : State) (f : Key → Key) : (s.setKey f).rx = s.rx := (rfl)
@[simp] theorem State.setKey_dsf (s : State) (f : Key → Key) : (s.setKey f).dsf = s.dsf := (rfl)
@[simp] theorem State.setKey_tmap (s : State) (f : Key → Key) : (s.setKey f).tmap = s.tmap := (rfl)
@[simp] theorem State.setKey_tribs (s : State) (f : Key → Key) : (s.setKey f).tribs = s.tribs := (rfl)
@[simp] theorem State.setKey_tfrags (s : State) (f : Key → Key) : (s.setKey f).tfrags = s.tfrags := (rfl)
@[simp] theorem State.setKey_rows (s : State) (f : Key → Key) : (s.setKey f).rows = s.rows := (rfl)
@[simp] theorem State.setKey_ttest (s : State) (f : Key → Key) : (s.setKey f).ttest = s.ttest := (rfl)
@[simp] theorem State.setKey_act (s : State) (f : Key → Key) : (s.setKey f).act = s.act := (rfl)
@[simp] theorem State.setKey_upb (s : State) (f : Key → Key) : (s.setKey f).upb = s.upb := (rfl)
@[simp] theorem State.setKey_restarts (s : State) (f : Key → Key) : (s.setKey f).restarts = s.restarts := (rfl)
@[simp] theorem State.setKey_gsm (s : State) (f : Key → Key) : (s.setKey f).gsm = s.gsm := (rfl)
@[simp] theorem State.setKey_txEff (s : State) (f : Key → Key) : (s.setKey f).txEff = s.txEff := (rfl)
@[simp] theorem State.setKey_pairs (s : State) (f : Key → Key) : (s.setKey f).pairs = s.pairs := (rfl)
@[simp] theorem State.setKey_pipes (s : State) (f : Key → Key) : (s.setKey f).pipes = s.pipes := (rfl)
@[simp] theorem State.setKey_epochs (s : State) (f : Key → Key) : (s.setKey f).epochs = s.epochs := (rfl)
@[simp] theorem State.setKey_prog (s : State) (f : Key → Key) : (s.setKey f).prog = s.prog := (rfl)
@[simp] theorem State.setKey_rcnt (s : State) (f : Key → Key) : (s.setKey f).rcnt = s.rcnt := (rfl)
@[simp] theorem State.setKey_rcntHeld (s : State) (f : Key → Key) : (s.setKey f).rcntHeld = s.rcntHeld := (rfl)
@[simp] theorem State.setKey_excWait (s : State) (f : Key → Key) : (s.setKey f).excWait = s.excWait := (rfl)
@[simp] theorem State.setKey_bufs (s : State) (f : Key → Key) : (s.setKey f).bufs = s.bufs := (rfl)
@[simp] theorem State.setKey_bufRot (s : State) (f : Key → Key) : (s.setKey f).bufRot = s.bufRot := (rfl)
@[simp] theorem State.setKey_qmap (s : State) (f : Key → Key) : (s.setKey f).qmap = s.qmap := (rfl)
@[simp] theorem State.setKey_memch (s : State) (f : Key → Key) : (s.setKey f).memch = s.memch := (rfl)
@[simp] theorem State.setKey_ecc (s : State) (f : Key → Key) : (s.setKey f).ecc = s.ecc := (rfl)
@[simp] theorem State.setKey_mxe (s : State) (f : Key → Key) : (s.setKey f).mxe = s.mxe := (rfl)
@[simp] theorem State.setKey_queues (s : State) (f : Key → Key) : (s.setKey f).queues = s.queues := (rfl)
@[simp] theorem State.setKey_turns (s : State) (f : Key → Key) : (s.setKey f).turns = s.turns := (rfl)
@[simp] theorem State.setKey_elig (s : State) (f : Key → Key) : (s.setKey f).elig = s.elig := (rfl)
@[simp] theorem State.setKey_shapers (s : State) (f : Key → Key) : (s.setKey f).shapers = s.shapers := (rfl)
@[simp] theorem State.setKey_policers (s : State) (f : Key → Key) : (s.setKey f).policers = s.policers := (rfl)
@[simp] theorem State.setKey_gates (s : State) (f : Key → Key) : (s.setKey f).gates = s.gates := (rfl)
@[simp] theorem State.setKey_gateBusy (s : State) (f : Key → Key) : (s.setKey f).gateBusy = s.gateBusy := (rfl)
@[simp] theorem State.setKey_lanes (s : State) (f : Key → Key) : (s.setKey f).lanes = s.lanes := (rfl)
@[simp] theorem State.setKey_lports (s : State) (f : Key → Key) : (s.setKey f).lports = s.lports := (rfl)
@[simp] theorem State.setKey_mdio (s : State) (f : Key → Key) : (s.setKey f).mdio = s.mdio := (rfl)
@[simp] theorem State.setKey_tim (s : State) (f : Key → Key) : (s.setKey f).tim = s.tim := (rfl)
@[simp] theorem State.setKey_evt (s : State) (f : Key → Key) : (s.setKey f).evt = s.evt := (rfl)
@[simp] theorem State.setKey_log (s : State) (f : Key → Key) : (s.setKey f).log = s.log := (rfl)
@[simp] theorem State.setKey_tsk (s : State) (f : Key → Key) : (s.setKey f).tsk = s.tsk := (rfl)
@[simp] theorem State.setKey_cpu (s : State) (f : Key → Key) : (s.setKey f).cpu = s.cpu := (rfl)
@[simp] theorem State.setKey_pwr (s : State) (f : Key → Key) : (s.setKey f).pwr = s.pwr := (rfl)
@[simp] theorem State.setKey_rst (s : State) (f : Key → Key) : (s.setKey f).rst = s.rst := (rfl)
@[simp] theorem State.setKey_sys (s : State) (f : Key → Key) : (s.setKey f).sys = s.sys := (rfl)
@[simp] theorem State.setKey_hif (s : State) (f : Key → Key) : (s.setKey f).hif = s.hif := (rfl)
@[simp] theorem State.setKey_pins (s : State) (f : Key → Key) : (s.setKey f).pins = s.pins := (rfl)
@[simp] theorem State.setKey_clock (s : State) (f : Key → Key) : (s.setKey f).clock = s.clock := (rfl)
@[simp] theorem State.setKey_timers (s : State) (f : Key → Key) : (s.setKey f).timers = s.timers := (rfl)
@[simp] theorem State.setKey_pending (s : State) (f : Key → Key) : (s.setKey f).pending = s.pending := (rfl)
@[simp] theorem State.setKey_dark (s : State) (f : Key → Key) : (s.setKey f).dark = s.dark := (rfl)
@[simp] theorem State.setKey_resp (s : State) (f : Key → Key) : (s.setKey f).resp = s.resp := (rfl)
@[simp] theorem State.setKey_out (s : State) (f : Key → Key) : (s.setKey f).out = s.out := (rfl)
@[simp] theorem State.setKey_fresh (s : State) (f : Key → Key) : (s.setKey f).fresh = s.fresh := (rfl)
@[simp] theorem State.setKey_rd (s : State) (f : Key → Key) (k : Nat) : (s.setKey f).rd k = s.rd k := State.rd_of_regs (State.setKey_regs s f) k
@[simp] theorem State.setKey_fld (s : State) (f : Key → Key) (g_ : Fld) : (s.setKey f).fld g_ = s.fld g_ := State.fld_of_regs (State.setKey_regs s f) g_
@[simp] theorem State.setKey_bit (s : State) (f : Key → Key) (g_ : Fld) : (s.setKey f).bit g_ = s.bit g_ := State.bit_of_regs (State.setKey_regs s f) g_
@[simp] theorem State.setKey_running (s : State) (f : Key → Key) (g_ : Nat) : (s.setKey f).running g_ = s.running g_ := State.running_of_timers (State.setKey_timers s f) g_
@[simp] theorem State.setKey_domOn (s : State) (f : Key → Key) (g_ : Nat) : (s.setKey f).domOn g_ = s.domOn g_ := State.domOn_of_pwr (State.setKey_pwr s f) g_

/-! `State.setUpb` -/

@[simp] theorem State.setUpb_regs (s : State) (c : Chan) (x : Upb) : (s.setUpb c x).regs = s.regs := (rfl)
@[simp] theorem State.setUpb_shown (s : State) (c : Chan) (x : Upb) : (s.setUpb c x).shown = s.shown := (rfl)
@[simp] theorem State.setUpb_mirror (s : State) (c : Chan) (x : Upb) : (s.setUpb c x).mirror = s.mirror := (rfl)
@[simp] theorem State.setUpb_mem (s : State) (c : Chan) (x : Upb) : (s.setUpb c x).mem = s.mem := (rfl)
@[simp] theorem State.setUpb_seam (s : State) (c : Chan) (x : Upb) : (s.setUpb c x).seam = s.seam := (rfl)
@[simp] theorem State.setUpb_cmt (s : State) (c : Chan) (x : Upb) : (s.setUpb c x).cmt = s.cmt := (rfl)
@[simp] theorem State.setUpb_own (s : State) (c : Chan) (x : Upb) : (s.setUpb c x).own = s.own := (rfl)
@[simp] theorem State.setUpb_nextPkt (s : State) (c : Chan) (x : Upb) : (s.setUpb c x).nextPkt = s.nextPkt := (rfl)
@[simp] theorem State.setUpb_rx (s : State) (c : Chan) (x : Upb) : (s.setUpb c x).rx = s.rx := (rfl)
@[simp] theorem State.setUpb_dsf (s : State) (c : Chan) (x : Upb) : (s.setUpb c x).dsf = s.dsf := (rfl)
@[simp] theorem State.setUpb_tmap (s : State) (c : Chan) (x : Upb) : (s.setUpb c x).tmap = s.tmap := (rfl)
@[simp] theorem State.setUpb_tribs (s : State) (c : Chan) (x : Upb) : (s.setUpb c x).tribs = s.tribs := (rfl)
@[simp] theorem State.setUpb_tfrags (s : State) (c : Chan) (x : Upb) : (s.setUpb c x).tfrags = s.tfrags := (rfl)
@[simp] theorem State.setUpb_rows (s : State) (c : Chan) (x : Upb) : (s.setUpb c x).rows = s.rows := (rfl)
@[simp] theorem State.setUpb_ttest (s : State) (c : Chan) (x : Upb) : (s.setUpb c x).ttest = s.ttest := (rfl)
@[simp] theorem State.setUpb_act (s : State) (c : Chan) (x : Upb) : (s.setUpb c x).act = s.act := (rfl)
@[simp] theorem State.setUpb_restarts (s : State) (c : Chan) (x : Upb) : (s.setUpb c x).restarts = s.restarts := (rfl)
@[simp] theorem State.setUpb_gsm (s : State) (c : Chan) (x : Upb) : (s.setUpb c x).gsm = s.gsm := (rfl)
@[simp] theorem State.setUpb_txEff (s : State) (c : Chan) (x : Upb) : (s.setUpb c x).txEff = s.txEff := (rfl)
@[simp] theorem State.setUpb_pairs (s : State) (c : Chan) (x : Upb) : (s.setUpb c x).pairs = s.pairs := (rfl)
@[simp] theorem State.setUpb_key (s : State) (c : Chan) (x : Upb) : (s.setUpb c x).key = s.key := (rfl)
@[simp] theorem State.setUpb_pipes (s : State) (c : Chan) (x : Upb) : (s.setUpb c x).pipes = s.pipes := (rfl)
@[simp] theorem State.setUpb_epochs (s : State) (c : Chan) (x : Upb) : (s.setUpb c x).epochs = s.epochs := (rfl)
@[simp] theorem State.setUpb_prog (s : State) (c : Chan) (x : Upb) : (s.setUpb c x).prog = s.prog := (rfl)
@[simp] theorem State.setUpb_rcnt (s : State) (c : Chan) (x : Upb) : (s.setUpb c x).rcnt = s.rcnt := (rfl)
@[simp] theorem State.setUpb_rcntHeld (s : State) (c : Chan) (x : Upb) : (s.setUpb c x).rcntHeld = s.rcntHeld := (rfl)
@[simp] theorem State.setUpb_excWait (s : State) (c : Chan) (x : Upb) : (s.setUpb c x).excWait = s.excWait := (rfl)
@[simp] theorem State.setUpb_bufs (s : State) (c : Chan) (x : Upb) : (s.setUpb c x).bufs = s.bufs := (rfl)
@[simp] theorem State.setUpb_bufRot (s : State) (c : Chan) (x : Upb) : (s.setUpb c x).bufRot = s.bufRot := (rfl)
@[simp] theorem State.setUpb_qmap (s : State) (c : Chan) (x : Upb) : (s.setUpb c x).qmap = s.qmap := (rfl)
@[simp] theorem State.setUpb_memch (s : State) (c : Chan) (x : Upb) : (s.setUpb c x).memch = s.memch := (rfl)
@[simp] theorem State.setUpb_ecc (s : State) (c : Chan) (x : Upb) : (s.setUpb c x).ecc = s.ecc := (rfl)
@[simp] theorem State.setUpb_mxe (s : State) (c : Chan) (x : Upb) : (s.setUpb c x).mxe = s.mxe := (rfl)
@[simp] theorem State.setUpb_queues (s : State) (c : Chan) (x : Upb) : (s.setUpb c x).queues = s.queues := (rfl)
@[simp] theorem State.setUpb_turns (s : State) (c : Chan) (x : Upb) : (s.setUpb c x).turns = s.turns := (rfl)
@[simp] theorem State.setUpb_elig (s : State) (c : Chan) (x : Upb) : (s.setUpb c x).elig = s.elig := (rfl)
@[simp] theorem State.setUpb_shapers (s : State) (c : Chan) (x : Upb) : (s.setUpb c x).shapers = s.shapers := (rfl)
@[simp] theorem State.setUpb_policers (s : State) (c : Chan) (x : Upb) : (s.setUpb c x).policers = s.policers := (rfl)
@[simp] theorem State.setUpb_gates (s : State) (c : Chan) (x : Upb) : (s.setUpb c x).gates = s.gates := (rfl)
@[simp] theorem State.setUpb_gateBusy (s : State) (c : Chan) (x : Upb) : (s.setUpb c x).gateBusy = s.gateBusy := (rfl)
@[simp] theorem State.setUpb_lanes (s : State) (c : Chan) (x : Upb) : (s.setUpb c x).lanes = s.lanes := (rfl)
@[simp] theorem State.setUpb_lports (s : State) (c : Chan) (x : Upb) : (s.setUpb c x).lports = s.lports := (rfl)
@[simp] theorem State.setUpb_mdio (s : State) (c : Chan) (x : Upb) : (s.setUpb c x).mdio = s.mdio := (rfl)
@[simp] theorem State.setUpb_tim (s : State) (c : Chan) (x : Upb) : (s.setUpb c x).tim = s.tim := (rfl)
@[simp] theorem State.setUpb_evt (s : State) (c : Chan) (x : Upb) : (s.setUpb c x).evt = s.evt := (rfl)
@[simp] theorem State.setUpb_log (s : State) (c : Chan) (x : Upb) : (s.setUpb c x).log = s.log := (rfl)
@[simp] theorem State.setUpb_tsk (s : State) (c : Chan) (x : Upb) : (s.setUpb c x).tsk = s.tsk := (rfl)
@[simp] theorem State.setUpb_cpu (s : State) (c : Chan) (x : Upb) : (s.setUpb c x).cpu = s.cpu := (rfl)
@[simp] theorem State.setUpb_pwr (s : State) (c : Chan) (x : Upb) : (s.setUpb c x).pwr = s.pwr := (rfl)
@[simp] theorem State.setUpb_rst (s : State) (c : Chan) (x : Upb) : (s.setUpb c x).rst = s.rst := (rfl)
@[simp] theorem State.setUpb_sys (s : State) (c : Chan) (x : Upb) : (s.setUpb c x).sys = s.sys := (rfl)
@[simp] theorem State.setUpb_hif (s : State) (c : Chan) (x : Upb) : (s.setUpb c x).hif = s.hif := (rfl)
@[simp] theorem State.setUpb_pins (s : State) (c : Chan) (x : Upb) : (s.setUpb c x).pins = s.pins := (rfl)
@[simp] theorem State.setUpb_clock (s : State) (c : Chan) (x : Upb) : (s.setUpb c x).clock = s.clock := (rfl)
@[simp] theorem State.setUpb_timers (s : State) (c : Chan) (x : Upb) : (s.setUpb c x).timers = s.timers := (rfl)
@[simp] theorem State.setUpb_pending (s : State) (c : Chan) (x : Upb) : (s.setUpb c x).pending = s.pending := (rfl)
@[simp] theorem State.setUpb_dark (s : State) (c : Chan) (x : Upb) : (s.setUpb c x).dark = s.dark := (rfl)
@[simp] theorem State.setUpb_resp (s : State) (c : Chan) (x : Upb) : (s.setUpb c x).resp = s.resp := (rfl)
@[simp] theorem State.setUpb_out (s : State) (c : Chan) (x : Upb) : (s.setUpb c x).out = s.out := (rfl)
@[simp] theorem State.setUpb_fresh (s : State) (c : Chan) (x : Upb) : (s.setUpb c x).fresh = s.fresh := (rfl)
@[simp] theorem State.setUpb_rd (s : State) (c : Chan) (x : Upb) (k : Nat) : (s.setUpb c x).rd k = s.rd k := State.rd_of_regs (State.setUpb_regs s c x) k
@[simp] theorem State.setUpb_fld (s : State) (c : Chan) (x : Upb) (g_ : Fld) : (s.setUpb c x).fld g_ = s.fld g_ := State.fld_of_regs (State.setUpb_regs s c x) g_
@[simp] theorem State.setUpb_bit (s : State) (c : Chan) (x : Upb) (g_ : Fld) : (s.setUpb c x).bit g_ = s.bit g_ := State.bit_of_regs (State.setUpb_regs s c x) g_
@[simp] theorem State.setUpb_running (s : State) (c : Chan) (x : Upb) (g_ : Nat) : (s.setUpb c x).running g_ = s.running g_ := State.running_of_timers (State.setUpb_timers s c x) g_
@[simp] theorem State.setUpb_domOn (s : State) (c : Chan) (x : Upb) (g_ : Nat) : (s.setUpb c x).domOn g_ = s.domOn g_ := State.domOn_of_pwr (State.setUpb_pwr s c x) g_

/-! `State.setActCh` -/

@[simp] theorem State.setActCh_regs (s : State) (c : Chan) (x : ActCh) : (s.setActCh c x).regs = s.regs := (rfl)
@[simp] theorem State.setActCh_shown (s : State) (c : Chan) (x : ActCh) : (s.setActCh c x).shown = s.shown := (rfl)
@[simp] theorem State.setActCh_mirror (s : State) (c : Chan) (x : ActCh) : (s.setActCh c x).mirror = s.mirror := (rfl)
@[simp] theorem State.setActCh_mem (s : State) (c : Chan) (x : ActCh) : (s.setActCh c x).mem = s.mem := (rfl)
@[simp] theorem State.setActCh_seam (s : State) (c : Chan) (x : ActCh) : (s.setActCh c x).seam = s.seam := (rfl)
@[simp] theorem State.setActCh_cmt (s : State) (c : Chan) (x : ActCh) : (s.setActCh c x).cmt = s.cmt := (rfl)
@[simp] theorem State.setActCh_own (s : State) (c : Chan) (x : ActCh) : (s.setActCh c x).own = s.own := (rfl)
@[simp] theorem State.setActCh_nextPkt (s : State) (c : Chan) (x : ActCh) : (s.setActCh c x).nextPkt = s.nextPkt := (rfl)
@[simp] theorem State.setActCh_rx (s : State) (c : Chan) (x : ActCh) : (s.setActCh c x).rx = s.rx := (rfl)
@[simp] theorem State.setActCh_dsf (s : State) (c : Chan) (x : ActCh) : (s.setActCh c x).dsf = s.dsf := (rfl)
@[simp] theorem State.setActCh_tmap (s : State) (c : Chan) (x : ActCh) : (s.setActCh c x).tmap = s.tmap := (rfl)
@[simp] theorem State.setActCh_tribs (s : State) (c : Chan) (x : ActCh) : (s.setActCh c x).tribs = s.tribs := (rfl)
@[simp] theorem State.setActCh_tfrags (s : State) (c : Chan) (x : ActCh) : (s.setActCh c x).tfrags = s.tfrags := (rfl)
@[simp] theorem State.setActCh_rows (s : State) (c : Chan) (x : ActCh) : (s.setActCh c x).rows = s.rows := (rfl)
@[simp] theorem State.setActCh_ttest (s : State) (c : Chan) (x : ActCh) : (s.setActCh c x).ttest = s.ttest := (rfl)
@[simp] theorem State.setActCh_upb (s : State) (c : Chan) (x : ActCh) : (s.setActCh c x).upb = s.upb := (rfl)
@[simp] theorem State.setActCh_restarts (s : State) (c : Chan) (x : ActCh) : (s.setActCh c x).restarts = s.restarts := (rfl)
@[simp] theorem State.setActCh_gsm (s : State) (c : Chan) (x : ActCh) : (s.setActCh c x).gsm = s.gsm := (rfl)
@[simp] theorem State.setActCh_txEff (s : State) (c : Chan) (x : ActCh) : (s.setActCh c x).txEff = s.txEff := (rfl)
@[simp] theorem State.setActCh_pairs (s : State) (c : Chan) (x : ActCh) : (s.setActCh c x).pairs = s.pairs := (rfl)
@[simp] theorem State.setActCh_key (s : State) (c : Chan) (x : ActCh) : (s.setActCh c x).key = s.key := (rfl)
@[simp] theorem State.setActCh_pipes (s : State) (c : Chan) (x : ActCh) : (s.setActCh c x).pipes = s.pipes := (rfl)
@[simp] theorem State.setActCh_epochs (s : State) (c : Chan) (x : ActCh) : (s.setActCh c x).epochs = s.epochs := (rfl)
@[simp] theorem State.setActCh_prog (s : State) (c : Chan) (x : ActCh) : (s.setActCh c x).prog = s.prog := (rfl)
@[simp] theorem State.setActCh_rcnt (s : State) (c : Chan) (x : ActCh) : (s.setActCh c x).rcnt = s.rcnt := (rfl)
@[simp] theorem State.setActCh_rcntHeld (s : State) (c : Chan) (x : ActCh) : (s.setActCh c x).rcntHeld = s.rcntHeld := (rfl)
@[simp] theorem State.setActCh_excWait (s : State) (c : Chan) (x : ActCh) : (s.setActCh c x).excWait = s.excWait := (rfl)
@[simp] theorem State.setActCh_bufs (s : State) (c : Chan) (x : ActCh) : (s.setActCh c x).bufs = s.bufs := (rfl)
@[simp] theorem State.setActCh_bufRot (s : State) (c : Chan) (x : ActCh) : (s.setActCh c x).bufRot = s.bufRot := (rfl)
@[simp] theorem State.setActCh_qmap (s : State) (c : Chan) (x : ActCh) : (s.setActCh c x).qmap = s.qmap := (rfl)
@[simp] theorem State.setActCh_memch (s : State) (c : Chan) (x : ActCh) : (s.setActCh c x).memch = s.memch := (rfl)
@[simp] theorem State.setActCh_ecc (s : State) (c : Chan) (x : ActCh) : (s.setActCh c x).ecc = s.ecc := (rfl)
@[simp] theorem State.setActCh_mxe (s : State) (c : Chan) (x : ActCh) : (s.setActCh c x).mxe = s.mxe := (rfl)
@[simp] theorem State.setActCh_queues (s : State) (c : Chan) (x : ActCh) : (s.setActCh c x).queues = s.queues := (rfl)
@[simp] theorem State.setActCh_turns (s : State) (c : Chan) (x : ActCh) : (s.setActCh c x).turns = s.turns := (rfl)
@[simp] theorem State.setActCh_elig (s : State) (c : Chan) (x : ActCh) : (s.setActCh c x).elig = s.elig := (rfl)
@[simp] theorem State.setActCh_shapers (s : State) (c : Chan) (x : ActCh) : (s.setActCh c x).shapers = s.shapers := (rfl)
@[simp] theorem State.setActCh_policers (s : State) (c : Chan) (x : ActCh) : (s.setActCh c x).policers = s.policers := (rfl)
@[simp] theorem State.setActCh_gates (s : State) (c : Chan) (x : ActCh) : (s.setActCh c x).gates = s.gates := (rfl)
@[simp] theorem State.setActCh_gateBusy (s : State) (c : Chan) (x : ActCh) : (s.setActCh c x).gateBusy = s.gateBusy := (rfl)
@[simp] theorem State.setActCh_lanes (s : State) (c : Chan) (x : ActCh) : (s.setActCh c x).lanes = s.lanes := (rfl)
@[simp] theorem State.setActCh_lports (s : State) (c : Chan) (x : ActCh) : (s.setActCh c x).lports = s.lports := (rfl)
@[simp] theorem State.setActCh_mdio (s : State) (c : Chan) (x : ActCh) : (s.setActCh c x).mdio = s.mdio := (rfl)
@[simp] theorem State.setActCh_tim (s : State) (c : Chan) (x : ActCh) : (s.setActCh c x).tim = s.tim := (rfl)
@[simp] theorem State.setActCh_evt (s : State) (c : Chan) (x : ActCh) : (s.setActCh c x).evt = s.evt := (rfl)
@[simp] theorem State.setActCh_log (s : State) (c : Chan) (x : ActCh) : (s.setActCh c x).log = s.log := (rfl)
@[simp] theorem State.setActCh_tsk (s : State) (c : Chan) (x : ActCh) : (s.setActCh c x).tsk = s.tsk := (rfl)
@[simp] theorem State.setActCh_cpu (s : State) (c : Chan) (x : ActCh) : (s.setActCh c x).cpu = s.cpu := (rfl)
@[simp] theorem State.setActCh_pwr (s : State) (c : Chan) (x : ActCh) : (s.setActCh c x).pwr = s.pwr := (rfl)
@[simp] theorem State.setActCh_rst (s : State) (c : Chan) (x : ActCh) : (s.setActCh c x).rst = s.rst := (rfl)
@[simp] theorem State.setActCh_sys (s : State) (c : Chan) (x : ActCh) : (s.setActCh c x).sys = s.sys := (rfl)
@[simp] theorem State.setActCh_hif (s : State) (c : Chan) (x : ActCh) : (s.setActCh c x).hif = s.hif := (rfl)
@[simp] theorem State.setActCh_pins (s : State) (c : Chan) (x : ActCh) : (s.setActCh c x).pins = s.pins := (rfl)
@[simp] theorem State.setActCh_clock (s : State) (c : Chan) (x : ActCh) : (s.setActCh c x).clock = s.clock := (rfl)
@[simp] theorem State.setActCh_timers (s : State) (c : Chan) (x : ActCh) : (s.setActCh c x).timers = s.timers := (rfl)
@[simp] theorem State.setActCh_pending (s : State) (c : Chan) (x : ActCh) : (s.setActCh c x).pending = s.pending := (rfl)
@[simp] theorem State.setActCh_dark (s : State) (c : Chan) (x : ActCh) : (s.setActCh c x).dark = s.dark := (rfl)
@[simp] theorem State.setActCh_resp (s : State) (c : Chan) (x : ActCh) : (s.setActCh c x).resp = s.resp := (rfl)
@[simp] theorem State.setActCh_out (s : State) (c : Chan) (x : ActCh) : (s.setActCh c x).out = s.out := (rfl)
@[simp] theorem State.setActCh_fresh (s : State) (c : Chan) (x : ActCh) : (s.setActCh c x).fresh = s.fresh := (rfl)
@[simp] theorem State.setActCh_rd (s : State) (c : Chan) (x : ActCh) (k : Nat) : (s.setActCh c x).rd k = s.rd k := State.rd_of_regs (State.setActCh_regs s c x) k
@[simp] theorem State.setActCh_fld (s : State) (c : Chan) (x : ActCh) (g_ : Fld) : (s.setActCh c x).fld g_ = s.fld g_ := State.fld_of_regs (State.setActCh_regs s c x) g_
@[simp] theorem State.setActCh_bit (s : State) (c : Chan) (x : ActCh) (g_ : Fld) : (s.setActCh c x).bit g_ = s.bit g_ := State.bit_of_regs (State.setActCh_regs s c x) g_
@[simp] theorem State.setActCh_running (s : State) (c : Chan) (x : ActCh) (g_ : Nat) : (s.setActCh c x).running g_ = s.running g_ := State.running_of_timers (State.setActCh_timers s c x) g_
@[simp] theorem State.setActCh_domOn (s : State) (c : Chan) (x : ActCh) (g_ : Nat) : (s.setActCh c x).domOn g_ = s.domOn g_ := State.domOn_of_pwr (State.setActCh_pwr s c x) g_

/-! `State.setEqd` -/

@[simp] theorem State.setEqd_regs (s : State) (c : Chan) (eqd : Nat) : (s.setEqd c eqd).regs = s.regs := (rfl)
@[simp] theorem State.setEqd_shown (s : State) (c : Chan) (eqd : Nat) : (s.setEqd c eqd).shown = s.shown := (rfl)
@[simp] theorem State.setEqd_mirror (s : State) (c : Chan) (eqd : Nat) : (s.setEqd c eqd).mirror = s.mirror := (rfl)
@[simp] theorem State.setEqd_mem (s : State) (c : Chan) (eqd : Nat) : (s.setEqd c eqd).mem = s.mem := (rfl)
@[simp] theorem State.setEqd_seam (s : State) (c : Chan) (eqd : Nat) : (s.setEqd c eqd).seam = s.seam := (rfl)
@[simp] theorem State.setEqd_cmt (s : State) (c : Chan) (eqd : Nat) : (s.setEqd c eqd).cmt = s.cmt := (rfl)
@[simp] theorem State.setEqd_own (s : State) (c : Chan) (eqd : Nat) : (s.setEqd c eqd).own = s.own := (rfl)
@[simp] theorem State.setEqd_nextPkt (s : State) (c : Chan) (eqd : Nat) : (s.setEqd c eqd).nextPkt = s.nextPkt := (rfl)
@[simp] theorem State.setEqd_rx (s : State) (c : Chan) (eqd : Nat) : (s.setEqd c eqd).rx = s.rx := (rfl)
@[simp] theorem State.setEqd_dsf (s : State) (c : Chan) (eqd : Nat) : (s.setEqd c eqd).dsf = s.dsf := (rfl)
@[simp] theorem State.setEqd_tmap (s : State) (c : Chan) (eqd : Nat) : (s.setEqd c eqd).tmap = s.tmap := (rfl)
@[simp] theorem State.setEqd_tribs (s : State) (c : Chan) (eqd : Nat) : (s.setEqd c eqd).tribs = s.tribs := (rfl)
@[simp] theorem State.setEqd_tfrags (s : State) (c : Chan) (eqd : Nat) : (s.setEqd c eqd).tfrags = s.tfrags := (rfl)
@[simp] theorem State.setEqd_rows (s : State) (c : Chan) (eqd : Nat) : (s.setEqd c eqd).rows = s.rows := (rfl)
@[simp] theorem State.setEqd_ttest (s : State) (c : Chan) (eqd : Nat) : (s.setEqd c eqd).ttest = s.ttest := (rfl)
@[simp] theorem State.setEqd_upb (s : State) (c : Chan) (eqd : Nat) : (s.setEqd c eqd).upb = s.upb := (rfl)
@[simp] theorem State.setEqd_restarts (s : State) (c : Chan) (eqd : Nat) : (s.setEqd c eqd).restarts = s.restarts := (rfl)
@[simp] theorem State.setEqd_gsm (s : State) (c : Chan) (eqd : Nat) : (s.setEqd c eqd).gsm = s.gsm := (rfl)
@[simp] theorem State.setEqd_txEff (s : State) (c : Chan) (eqd : Nat) : (s.setEqd c eqd).txEff = s.txEff := (rfl)
@[simp] theorem State.setEqd_pairs (s : State) (c : Chan) (eqd : Nat) : (s.setEqd c eqd).pairs = s.pairs := (rfl)
@[simp] theorem State.setEqd_key (s : State) (c : Chan) (eqd : Nat) : (s.setEqd c eqd).key = s.key := (rfl)
@[simp] theorem State.setEqd_pipes (s : State) (c : Chan) (eqd : Nat) : (s.setEqd c eqd).pipes = s.pipes := (rfl)
@[simp] theorem State.setEqd_epochs (s : State) (c : Chan) (eqd : Nat) : (s.setEqd c eqd).epochs = s.epochs := (rfl)
@[simp] theorem State.setEqd_prog (s : State) (c : Chan) (eqd : Nat) : (s.setEqd c eqd).prog = s.prog := (rfl)
@[simp] theorem State.setEqd_rcnt (s : State) (c : Chan) (eqd : Nat) : (s.setEqd c eqd).rcnt = s.rcnt := (rfl)
@[simp] theorem State.setEqd_rcntHeld (s : State) (c : Chan) (eqd : Nat) : (s.setEqd c eqd).rcntHeld = s.rcntHeld := (rfl)
@[simp] theorem State.setEqd_excWait (s : State) (c : Chan) (eqd : Nat) : (s.setEqd c eqd).excWait = s.excWait := (rfl)
@[simp] theorem State.setEqd_bufs (s : State) (c : Chan) (eqd : Nat) : (s.setEqd c eqd).bufs = s.bufs := (rfl)
@[simp] theorem State.setEqd_bufRot (s : State) (c : Chan) (eqd : Nat) : (s.setEqd c eqd).bufRot = s.bufRot := (rfl)
@[simp] theorem State.setEqd_qmap (s : State) (c : Chan) (eqd : Nat) : (s.setEqd c eqd).qmap = s.qmap := (rfl)
@[simp] theorem State.setEqd_memch (s : State) (c : Chan) (eqd : Nat) : (s.setEqd c eqd).memch = s.memch := (rfl)
@[simp] theorem State.setEqd_ecc (s : State) (c : Chan) (eqd : Nat) : (s.setEqd c eqd).ecc = s.ecc := (rfl)
@[simp] theorem State.setEqd_mxe (s : State) (c : Chan) (eqd : Nat) : (s.setEqd c eqd).mxe = s.mxe := (rfl)
@[simp] theorem State.setEqd_queues (s : State) (c : Chan) (eqd : Nat) : (s.setEqd c eqd).queues = s.queues := (rfl)
@[simp] theorem State.setEqd_turns (s : State) (c : Chan) (eqd : Nat) : (s.setEqd c eqd).turns = s.turns := (rfl)
@[simp] theorem State.setEqd_elig (s : State) (c : Chan) (eqd : Nat) : (s.setEqd c eqd).elig = s.elig := (rfl)
@[simp] theorem State.setEqd_shapers (s : State) (c : Chan) (eqd : Nat) : (s.setEqd c eqd).shapers = s.shapers := (rfl)
@[simp] theorem State.setEqd_policers (s : State) (c : Chan) (eqd : Nat) : (s.setEqd c eqd).policers = s.policers := (rfl)
@[simp] theorem State.setEqd_gates (s : State) (c : Chan) (eqd : Nat) : (s.setEqd c eqd).gates = s.gates := (rfl)
@[simp] theorem State.setEqd_gateBusy (s : State) (c : Chan) (eqd : Nat) : (s.setEqd c eqd).gateBusy = s.gateBusy := (rfl)
@[simp] theorem State.setEqd_lanes (s : State) (c : Chan) (eqd : Nat) : (s.setEqd c eqd).lanes = s.lanes := (rfl)
@[simp] theorem State.setEqd_lports (s : State) (c : Chan) (eqd : Nat) : (s.setEqd c eqd).lports = s.lports := (rfl)
@[simp] theorem State.setEqd_mdio (s : State) (c : Chan) (eqd : Nat) : (s.setEqd c eqd).mdio = s.mdio := (rfl)
@[simp] theorem State.setEqd_tim (s : State) (c : Chan) (eqd : Nat) : (s.setEqd c eqd).tim = s.tim := (rfl)
@[simp] theorem State.setEqd_evt (s : State) (c : Chan) (eqd : Nat) : (s.setEqd c eqd).evt = s.evt := (rfl)
@[simp] theorem State.setEqd_log (s : State) (c : Chan) (eqd : Nat) : (s.setEqd c eqd).log = s.log := (rfl)
@[simp] theorem State.setEqd_tsk (s : State) (c : Chan) (eqd : Nat) : (s.setEqd c eqd).tsk = s.tsk := (rfl)
@[simp] theorem State.setEqd_cpu (s : State) (c : Chan) (eqd : Nat) : (s.setEqd c eqd).cpu = s.cpu := (rfl)
@[simp] theorem State.setEqd_pwr (s : State) (c : Chan) (eqd : Nat) : (s.setEqd c eqd).pwr = s.pwr := (rfl)
@[simp] theorem State.setEqd_rst (s : State) (c : Chan) (eqd : Nat) : (s.setEqd c eqd).rst = s.rst := (rfl)
@[simp] theorem State.setEqd_sys (s : State) (c : Chan) (eqd : Nat) : (s.setEqd c eqd).sys = s.sys := (rfl)
@[simp] theorem State.setEqd_hif (s : State) (c : Chan) (eqd : Nat) : (s.setEqd c eqd).hif = s.hif := (rfl)
@[simp] theorem State.setEqd_pins (s : State) (c : Chan) (eqd : Nat) : (s.setEqd c eqd).pins = s.pins := (rfl)
@[simp] theorem State.setEqd_clock (s : State) (c : Chan) (eqd : Nat) : (s.setEqd c eqd).clock = s.clock := (rfl)
@[simp] theorem State.setEqd_timers (s : State) (c : Chan) (eqd : Nat) : (s.setEqd c eqd).timers = s.timers := (rfl)
@[simp] theorem State.setEqd_pending (s : State) (c : Chan) (eqd : Nat) : (s.setEqd c eqd).pending = s.pending := (rfl)
@[simp] theorem State.setEqd_dark (s : State) (c : Chan) (eqd : Nat) : (s.setEqd c eqd).dark = s.dark := (rfl)
@[simp] theorem State.setEqd_resp (s : State) (c : Chan) (eqd : Nat) : (s.setEqd c eqd).resp = s.resp := (rfl)
@[simp] theorem State.setEqd_out (s : State) (c : Chan) (eqd : Nat) : (s.setEqd c eqd).out = s.out := (rfl)
@[simp] theorem State.setEqd_fresh (s : State) (c : Chan) (eqd : Nat) : (s.setEqd c eqd).fresh = s.fresh := (rfl)
@[simp] theorem State.setEqd_rd (s : State) (c : Chan) (eqd : Nat) (k : Nat) : (s.setEqd c eqd).rd k = s.rd k := State.rd_of_regs (State.setEqd_regs s c eqd) k
@[simp] theorem State.setEqd_fld (s : State) (c : Chan) (eqd : Nat) (g_ : Fld) : (s.setEqd c eqd).fld g_ = s.fld g_ := State.fld_of_regs (State.setEqd_regs s c eqd) g_
@[simp] theorem State.setEqd_bit (s : State) (c : Chan) (eqd : Nat) (g_ : Fld) : (s.setEqd c eqd).bit g_ = s.bit g_ := State.bit_of_regs (State.setEqd_regs s c eqd) g_
@[simp] theorem State.setEqd_running (s : State) (c : Chan) (eqd : Nat) (g_ : Nat) : (s.setEqd c eqd).running g_ = s.running g_ := State.running_of_timers (State.setEqd_timers s c eqd) g_
@[simp] theorem State.setEqd_domOn (s : State) (c : Chan) (eqd : Nat) (g_ : Nat) : (s.setEqd c eqd).domOn g_ = s.domOn g_ := State.domOn_of_pwr (State.setEqd_pwr s c eqd) g_

/-! `State.setProfile` -/

@[simp] theorem State.setProfile_regs (s : State) (c : Chan) (b : ProfileBody) : (s.setProfile c b).regs = s.regs := (rfl)
@[simp] theorem State.setProfile_shown (s : State) (c : Chan) (b : ProfileBody) : (s.setProfile c b).shown = s.shown := (rfl)
@[simp] theorem State.setProfile_mirror (s : State) (c : Chan) (b : ProfileBody) : (s.setProfile c b).mirror = s.mirror := (rfl)
@[simp] theorem State.setProfile_mem (s : State) (c : Chan) (b : ProfileBody) : (s.setProfile c b).mem = s.mem := (rfl)
@[simp] theorem State.setProfile_seam (s : State) (c : Chan) (b : ProfileBody) : (s.setProfile c b).seam = s.seam := (rfl)
@[simp] theorem State.setProfile_cmt (s : State) (c : Chan) (b : ProfileBody) : (s.setProfile c b).cmt = s.cmt := (rfl)
@[simp] theorem State.setProfile_own (s : State) (c : Chan) (b : ProfileBody) : (s.setProfile c b).own = s.own := (rfl)
@[simp] theorem State.setProfile_nextPkt (s : State) (c : Chan) (b : ProfileBody) : (s.setProfile c b).nextPkt = s.nextPkt := (rfl)
@[simp] theorem State.setProfile_rx (s : State) (c : Chan) (b : ProfileBody) : (s.setProfile c b).rx = s.rx := (rfl)
@[simp] theorem State.setProfile_dsf (s : State) (c : Chan) (b : ProfileBody) : (s.setProfile c b).dsf = s.dsf := (rfl)
@[simp] theorem State.setProfile_tmap (s : State) (c : Chan) (b : ProfileBody) : (s.setProfile c b).tmap = s.tmap := (rfl)
@[simp] theorem State.setProfile_tribs (s : State) (c : Chan) (b : ProfileBody) : (s.setProfile c b).tribs = s.tribs := (rfl)
@[simp] theorem State.setProfile_tfrags (s : State) (c : Chan) (b : ProfileBody) : (s.setProfile c b).tfrags = s.tfrags := (rfl)
@[simp] theorem State.setProfile_rows (s : State) (c : Chan) (b : ProfileBody) : (s.setProfile c b).rows = s.rows := (rfl)
@[simp] theorem State.setProfile_ttest (s : State) (c : Chan) (b : ProfileBody) : (s.setProfile c b).ttest = s.ttest := (rfl)
@[simp] theorem State.setProfile_upb (s : State) (c : Chan) (b : ProfileBody) : (s.setProfile c b).upb = s.upb := (rfl)
@[simp] theorem State.setProfile_restarts (s : State) (c : Chan) (b : ProfileBody) : (s.setProfile c b).restarts = s.restarts := (rfl)
@[simp] theorem State.setProfile_gsm (s : State) (c : Chan) (b : ProfileBody) : (s.setProfile c b).gsm = s.gsm := (rfl)
@[simp] theorem State.setProfile_txEff (s : State) (c : Chan) (b : ProfileBody) : (s.setProfile c b).txEff = s.txEff := (rfl)
@[simp] theorem State.setProfile_pairs (s : State) (c : Chan) (b : ProfileBody) : (s.setProfile c b).pairs = s.pairs := (rfl)
@[simp] theorem State.setProfile_key (s : State) (c : Chan) (b : ProfileBody) : (s.setProfile c b).key = s.key := (rfl)
@[simp] theorem State.setProfile_pipes (s : State) (c : Chan) (b : ProfileBody) : (s.setProfile c b).pipes = s.pipes := (rfl)
@[simp] theorem State.setProfile_epochs (s : State) (c : Chan) (b : ProfileBody) : (s.setProfile c b).epochs = s.epochs := (rfl)
@[simp] theorem State.setProfile_prog (s : State) (c : Chan) (b : ProfileBody) : (s.setProfile c b).prog = s.prog := (rfl)
@[simp] theorem State.setProfile_rcnt (s : State) (c : Chan) (b : ProfileBody) : (s.setProfile c b).rcnt = s.rcnt := (rfl)
@[simp] theorem State.setProfile_rcntHeld (s : State) (c : Chan) (b : ProfileBody) : (s.setProfile c b).rcntHeld = s.rcntHeld := (rfl)
@[simp] theorem State.setProfile_excWait (s : State) (c : Chan) (b : ProfileBody) : (s.setProfile c b).excWait = s.excWait := (rfl)
@[simp] theorem State.setProfile_bufs (s : State) (c : Chan) (b : ProfileBody) : (s.setProfile c b).bufs = s.bufs := (rfl)
@[simp] theorem State.setProfile_bufRot (s : State) (c : Chan) (b : ProfileBody) : (s.setProfile c b).bufRot = s.bufRot := (rfl)
@[simp] theorem State.setProfile_qmap (s : State) (c : Chan) (b : ProfileBody) : (s.setProfile c b).qmap = s.qmap := (rfl)
@[simp] theorem State.setProfile_memch (s : State) (c : Chan) (b : ProfileBody) : (s.setProfile c b).memch = s.memch := (rfl)
@[simp] theorem State.setProfile_ecc (s : State) (c : Chan) (b : ProfileBody) : (s.setProfile c b).ecc = s.ecc := (rfl)
@[simp] theorem State.setProfile_mxe (s : State) (c : Chan) (b : ProfileBody) : (s.setProfile c b).mxe = s.mxe := (rfl)
@[simp] theorem State.setProfile_queues (s : State) (c : Chan) (b : ProfileBody) : (s.setProfile c b).queues = s.queues := (rfl)
@[simp] theorem State.setProfile_turns (s : State) (c : Chan) (b : ProfileBody) : (s.setProfile c b).turns = s.turns := (rfl)
@[simp] theorem State.setProfile_elig (s : State) (c : Chan) (b : ProfileBody) : (s.setProfile c b).elig = s.elig := (rfl)
@[simp] theorem State.setProfile_shapers (s : State) (c : Chan) (b : ProfileBody) : (s.setProfile c b).shapers = s.shapers := (rfl)
@[simp] theorem State.setProfile_policers (s : State) (c : Chan) (b : ProfileBody) : (s.setProfile c b).policers = s.policers := (rfl)
@[simp] theorem State.setProfile_gates (s : State) (c : Chan) (b : ProfileBody) : (s.setProfile c b).gates = s.gates := (rfl)
@[simp] theorem State.setProfile_gateBusy (s : State) (c : Chan) (b : ProfileBody) : (s.setProfile c b).gateBusy = s.gateBusy := (rfl)
@[simp] theorem State.setProfile_lanes (s : State) (c : Chan) (b : ProfileBody) : (s.setProfile c b).lanes = s.lanes := (rfl)
@[simp] theorem State.setProfile_lports (s : State) (c : Chan) (b : ProfileBody) : (s.setProfile c b).lports = s.lports := (rfl)
@[simp] theorem State.setProfile_mdio (s : State) (c : Chan) (b : ProfileBody) : (s.setProfile c b).mdio = s.mdio := (rfl)
@[simp] theorem State.setProfile_tim (s : State) (c : Chan) (b : ProfileBody) : (s.setProfile c b).tim = s.tim := (rfl)
@[simp] theorem State.setProfile_evt (s : State) (c : Chan) (b : ProfileBody) : (s.setProfile c b).evt = s.evt := (rfl)
@[simp] theorem State.setProfile_log (s : State) (c : Chan) (b : ProfileBody) : (s.setProfile c b).log = s.log := (rfl)
@[simp] theorem State.setProfile_tsk (s : State) (c : Chan) (b : ProfileBody) : (s.setProfile c b).tsk = s.tsk := (rfl)
@[simp] theorem State.setProfile_cpu (s : State) (c : Chan) (b : ProfileBody) : (s.setProfile c b).cpu = s.cpu := (rfl)
@[simp] theorem State.setProfile_pwr (s : State) (c : Chan) (b : ProfileBody) : (s.setProfile c b).pwr = s.pwr := (rfl)
@[simp] theorem State.setProfile_rst (s : State) (c : Chan) (b : ProfileBody) : (s.setProfile c b).rst = s.rst := (rfl)
@[simp] theorem State.setProfile_sys (s : State) (c : Chan) (b : ProfileBody) : (s.setProfile c b).sys = s.sys := (rfl)
@[simp] theorem State.setProfile_hif (s : State) (c : Chan) (b : ProfileBody) : (s.setProfile c b).hif = s.hif := (rfl)
@[simp] theorem State.setProfile_pins (s : State) (c : Chan) (b : ProfileBody) : (s.setProfile c b).pins = s.pins := (rfl)
@[simp] theorem State.setProfile_clock (s : State) (c : Chan) (b : ProfileBody) : (s.setProfile c b).clock = s.clock := (rfl)
@[simp] theorem State.setProfile_timers (s : State) (c : Chan) (b : ProfileBody) : (s.setProfile c b).timers = s.timers := (rfl)
@[simp] theorem State.setProfile_pending (s : State) (c : Chan) (b : ProfileBody) : (s.setProfile c b).pending = s.pending := (rfl)
@[simp] theorem State.setProfile_dark (s : State) (c : Chan) (b : ProfileBody) : (s.setProfile c b).dark = s.dark := (rfl)
@[simp] theorem State.setProfile_resp (s : State) (c : Chan) (b : ProfileBody) : (s.setProfile c b).resp = s.resp := (rfl)
@[simp] theorem State.setProfile_out (s : State) (c : Chan) (b : ProfileBody) : (s.setProfile c b).out = s.out := (rfl)
@[simp] theorem State.setProfile_fresh (s : State) (c : Chan) (b : ProfileBody) : (s.setProfile c b).fresh = s.fresh := (rfl)
@[simp] theorem State.setProfile_rd (s : State) (c : Chan) (b : ProfileBody) (k : Nat) : (s.setProfile c b).rd k = s.rd k := State.rd_of_regs (State.setProfile_regs s c b) k
@[simp] theorem State.setProfile_fld (s : State) (c : Chan) (b : ProfileBody) (g_ : Fld) : (s.setProfile c b).fld g_ = s.fld g_ := State.fld_of_regs (State.setProfile_regs s c b) g_
@[simp] theorem State.setProfile_bit (s : State) (c : Chan) (b : ProfileBody) (g_ : Fld) : (s.setProfile c b).bit g_ = s.bit g_ := State.bit_of_regs (State.setProfile_regs s c b) g_
@[simp] theorem State.setProfile_running (s : State) (c : Chan) (b : ProfileBody) (g_ : Nat) : (s.setProfile c b).running g_ = s.running g_ := State.running_of_timers (State.setProfile_timers s c b) g_
@[simp] theorem State.setProfile_domOn (s : State) (c : Chan) (b : ProfileBody) (g_ : Nat) : (s.setProfile c b).domOn g_ = s.domOn g_ := State.domOn_of_pwr (State.setProfile_pwr s c b) g_

/-! `State.setRx` -/

@[simp] theorem State.setRx_regs (s : State) (c : Chan) (x : Rx) : (s.setRx c x).regs = s.regs := (rfl)
@[simp] theorem State.setRx_shown (s : State) (c : Chan) (x : Rx) : (s.setRx c x).shown = s.shown := (rfl)
@[simp] theorem State.setRx_mirror (s : State) (c : Chan) (x : Rx) : (s.setRx c x).mirror = s.mirror := (rfl)
@[simp] theorem State.setRx_mem (s : State) (c : Chan) (x : Rx) : (s.setRx c x).mem = s.mem := (rfl)
@[simp] theorem State.setRx_seam (s : State) (c : Chan) (x : Rx) : (s.setRx c x).seam = s.seam := (rfl)
@[simp] theorem State.setRx_cmt (s : State) (c : Chan) (x : Rx) : (s.setRx c x).cmt = s.cmt := (rfl)
@[simp] theorem State.setRx_own (s : State) (c : Chan) (x : Rx) : (s.setRx c x).own = s.own := (rfl)
@[simp] theorem State.setRx_nextPkt (s : State) (c : Chan) (x : Rx) : (s.setRx c x).nextPkt = s.nextPkt := (rfl)
@[simp] theorem State.setRx_dsf (s : State) (c : Chan) (x : Rx) : (s.setRx c x).dsf = s.dsf := (rfl)
@[simp] theorem State.setRx_tmap (s : State) (c : Chan) (x : Rx) : (s.setRx c x).tmap = s.tmap := (rfl)
@[simp] theorem State.setRx_tribs (s : State) (c : Chan) (x : Rx) : (s.setRx c x).tribs = s.tribs := (rfl)
@[simp] theorem State.setRx_tfrags (s : State) (c : Chan) (x : Rx) : (s.setRx c x).tfrags = s.tfrags := (rfl)
@[simp] theorem State.setRx_rows (s : State) (c : Chan) (x : Rx) : (s.setRx c x).rows = s.rows := (rfl)
@[simp] theorem State.setRx_ttest (s : State) (c : Chan) (x : Rx) : (s.setRx c x).ttest = s.ttest := (rfl)
@[simp] theorem State.setRx_act (s : State) (c : Chan) (x : Rx) : (s.setRx c x).act = s.act := (rfl)
@[simp] theorem State.setRx_upb (s : State) (c : Chan) (x : Rx) : (s.setRx c x).upb = s.upb := (rfl)
@[simp] theorem State.setRx_restarts (s : State) (c : Chan) (x : Rx) : (s.setRx c x).restarts = s.restarts := (rfl)
@[simp] theorem State.setRx_gsm (s : State) (c : Chan) (x : Rx) : (s.setRx c x).gsm = s.gsm := (rfl)
@[simp] theorem State.setRx_txEff (s : State) (c : Chan) (x : Rx) : (s.setRx c x).txEff = s.txEff := (rfl)
@[simp] theorem State.setRx_pairs (s : State) (c : Chan) (x : Rx) : (s.setRx c x).pairs = s.pairs := (rfl)
@[simp] theorem State.setRx_key (s : State) (c : Chan) (x : Rx) : (s.setRx c x).key = s.key := (rfl)
@[simp] theorem State.setRx_pipes (s : State) (c : Chan) (x : Rx) : (s.setRx c x).pipes = s.pipes := (rfl)
@[simp] theorem State.setRx_epochs (s : State) (c : Chan) (x : Rx) : (s.setRx c x).epochs = s.epochs := (rfl)
@[simp] theorem State.setRx_prog (s : State) (c : Chan) (x : Rx) : (s.setRx c x).prog = s.prog := (rfl)
@[simp] theorem State.setRx_rcnt (s : State) (c : Chan) (x : Rx) : (s.setRx c x).rcnt = s.rcnt := (rfl)
@[simp] theorem State.setRx_rcntHeld (s : State) (c : Chan) (x : Rx) : (s.setRx c x).rcntHeld = s.rcntHeld := (rfl)
@[simp] theorem State.setRx_excWait (s : State) (c : Chan) (x : Rx) : (s.setRx c x).excWait = s.excWait := (rfl)
@[simp] theorem State.setRx_bufs (s : State) (c : Chan) (x : Rx) : (s.setRx c x).bufs = s.bufs := (rfl)
@[simp] theorem State.setRx_bufRot (s : State) (c : Chan) (x : Rx) : (s.setRx c x).bufRot = s.bufRot := (rfl)
@[simp] theorem State.setRx_qmap (s : State) (c : Chan) (x : Rx) : (s.setRx c x).qmap = s.qmap := (rfl)
@[simp] theorem State.setRx_memch (s : State) (c : Chan) (x : Rx) : (s.setRx c x).memch = s.memch := (rfl)
@[simp] theorem State.setRx_ecc (s : State) (c : Chan) (x : Rx) : (s.setRx c x).ecc = s.ecc := (rfl)
@[simp] theorem State.setRx_mxe (s : State) (c : Chan) (x : Rx) : (s.setRx c x).mxe = s.mxe := (rfl)
@[simp] theorem State.setRx_queues (s : State) (c : Chan) (x : Rx) : (s.setRx c x).queues = s.queues := (rfl)
@[simp] theorem State.setRx_turns (s : State) (c : Chan) (x : Rx) : (s.setRx c x).turns = s.turns := (rfl)
@[simp] theorem State.setRx_elig (s : State) (c : Chan) (x : Rx) : (s.setRx c x).elig = s.elig := (rfl)
@[simp] theorem State.setRx_shapers (s : State) (c : Chan) (x : Rx) : (s.setRx c x).shapers = s.shapers := (rfl)
@[simp] theorem State.setRx_policers (s : State) (c : Chan) (x : Rx) : (s.setRx c x).policers = s.policers := (rfl)
@[simp] theorem State.setRx_gates (s : State) (c : Chan) (x : Rx) : (s.setRx c x).gates = s.gates := (rfl)
@[simp] theorem State.setRx_gateBusy (s : State) (c : Chan) (x : Rx) : (s.setRx c x).gateBusy = s.gateBusy := (rfl)
@[simp] theorem State.setRx_lanes (s : State) (c : Chan) (x : Rx) : (s.setRx c x).lanes = s.lanes := (rfl)
@[simp] theorem State.setRx_lports (s : State) (c : Chan) (x : Rx) : (s.setRx c x).lports = s.lports := (rfl)
@[simp] theorem State.setRx_mdio (s : State) (c : Chan) (x : Rx) : (s.setRx c x).mdio = s.mdio := (rfl)
@[simp] theorem State.setRx_tim (s : State) (c : Chan) (x : Rx) : (s.setRx c x).tim = s.tim := (rfl)
@[simp] theorem State.setRx_evt (s : State) (c : Chan) (x : Rx) : (s.setRx c x).evt = s.evt := (rfl)
@[simp] theorem State.setRx_log (s : State) (c : Chan) (x : Rx) : (s.setRx c x).log = s.log := (rfl)
@[simp] theorem State.setRx_tsk (s : State) (c : Chan) (x : Rx) : (s.setRx c x).tsk = s.tsk := (rfl)
@[simp] theorem State.setRx_cpu (s : State) (c : Chan) (x : Rx) : (s.setRx c x).cpu = s.cpu := (rfl)
@[simp] theorem State.setRx_pwr (s : State) (c : Chan) (x : Rx) : (s.setRx c x).pwr = s.pwr := (rfl)
@[simp] theorem State.setRx_rst (s : State) (c : Chan) (x : Rx) : (s.setRx c x).rst = s.rst := (rfl)
@[simp] theorem State.setRx_sys (s : State) (c : Chan) (x : Rx) : (s.setRx c x).sys = s.sys := (rfl)
@[simp] theorem State.setRx_hif (s : State) (c : Chan) (x : Rx) : (s.setRx c x).hif = s.hif := (rfl)
@[simp] theorem State.setRx_pins (s : State) (c : Chan) (x : Rx) : (s.setRx c x).pins = s.pins := (rfl)
@[simp] theorem State.setRx_clock (s : State) (c : Chan) (x : Rx) : (s.setRx c x).clock = s.clock := (rfl)
@[simp] theorem State.setRx_timers (s : State) (c : Chan) (x : Rx) : (s.setRx c x).timers = s.timers := (rfl)
@[simp] theorem State.setRx_pending (s : State) (c : Chan) (x : Rx) : (s.setRx c x).pending = s.pending := (rfl)
@[simp] theorem State.setRx_dark (s : State) (c : Chan) (x : Rx) : (s.setRx c x).dark = s.dark := (rfl)
@[simp] theorem State.setRx_resp (s : State) (c : Chan) (x : Rx) : (s.setRx c x).resp = s.resp := (rfl)
@[simp] theorem State.setRx_out (s : State) (c : Chan) (x : Rx) : (s.setRx c x).out = s.out := (rfl)
@[simp] theorem State.setRx_fresh (s : State) (c : Chan) (x : Rx) : (s.setRx c x).fresh = s.fresh := (rfl)
@[simp] theorem State.setRx_rd (s : State) (c : Chan) (x : Rx) (k : Nat) : (s.setRx c x).rd k = s.rd k := State.rd_of_regs (State.setRx_regs s c x) k
@[simp] theorem State.setRx_fld (s : State) (c : Chan) (x : Rx) (g_ : Fld) : (s.setRx c x).fld g_ = s.fld g_ := State.fld_of_regs (State.setRx_regs s c x) g_
@[simp] theorem State.setRx_bit (s : State) (c : Chan) (x : Rx) (g_ : Fld) : (s.setRx c x).bit g_ = s.bit g_ := State.bit_of_regs (State.setRx_regs s c x) g_
@[simp] theorem State.setRx_running (s : State) (c : Chan) (x : Rx) (g_ : Nat) : (s.setRx c x).running g_ = s.running g_ := State.running_of_timers (State.setRx_timers s c x) g_
@[simp] theorem State.setRx_domOn (s : State) (c : Chan) (x : Rx) (g_ : Nat) : (s.setRx c x).domOn g_ = s.domOn g_ := State.domOn_of_pwr (State.setRx_pwr s c x) g_

/-! `State.setDsf` -/

@[simp] theorem State.setDsf_regs (s : State) (c : Chan) (x : Dsf) : (s.setDsf c x).regs = s.regs := (rfl)
@[simp] theorem State.setDsf_shown (s : State) (c : Chan) (x : Dsf) : (s.setDsf c x).shown = s.shown := (rfl)
@[simp] theorem State.setDsf_mirror (s : State) (c : Chan) (x : Dsf) : (s.setDsf c x).mirror = s.mirror := (rfl)
@[simp] theorem State.setDsf_mem (s : State) (c : Chan) (x : Dsf) : (s.setDsf c x).mem = s.mem := (rfl)
@[simp] theorem State.setDsf_seam (s : State) (c : Chan) (x : Dsf) : (s.setDsf c x).seam = s.seam := (rfl)
@[simp] theorem State.setDsf_cmt (s : State) (c : Chan) (x : Dsf) : (s.setDsf c x).cmt = s.cmt := (rfl)
@[simp] theorem State.setDsf_own (s : State) (c : Chan) (x : Dsf) : (s.setDsf c x).own = s.own := (rfl)
@[simp] theorem State.setDsf_nextPkt (s : State) (c : Chan) (x : Dsf) : (s.setDsf c x).nextPkt = s.nextPkt := (rfl)
@[simp] theorem State.setDsf_rx (s : State) (c : Chan) (x : Dsf) : (s.setDsf c x).rx = s.rx := (rfl)
@[simp] theorem State.setDsf_tmap (s : State) (c : Chan) (x : Dsf) : (s.setDsf c x).tmap = s.tmap := (rfl)
@[simp] theorem State.setDsf_tribs (s : State) (c : Chan) (x : Dsf) : (s.setDsf c x).tribs = s.tribs := (rfl)
@[simp] theorem State.setDsf_tfrags (s : State) (c : Chan) (x : Dsf) : (s.setDsf c x).tfrags = s.tfrags := (rfl)
@[simp] theorem State.setDsf_rows (s : State) (c : Chan) (x : Dsf) : (s.setDsf c x).rows = s.rows := (rfl)
@[simp] theorem State.setDsf_ttest (s : State) (c : Chan) (x : Dsf) : (s.setDsf c x).ttest = s.ttest := (rfl)
@[simp] theorem State.setDsf_act (s : State) (c : Chan) (x : Dsf) : (s.setDsf c x).act = s.act := (rfl)
@[simp] theorem State.setDsf_upb (s : State) (c : Chan) (x : Dsf) : (s.setDsf c x).upb = s.upb := (rfl)
@[simp] theorem State.setDsf_restarts (s : State) (c : Chan) (x : Dsf) : (s.setDsf c x).restarts = s.restarts := (rfl)
@[simp] theorem State.setDsf_gsm (s : State) (c : Chan) (x : Dsf) : (s.setDsf c x).gsm = s.gsm := (rfl)
@[simp] theorem State.setDsf_txEff (s : State) (c : Chan) (x : Dsf) : (s.setDsf c x).txEff = s.txEff := (rfl)
@[simp] theorem State.setDsf_pairs (s : State) (c : Chan) (x : Dsf) : (s.setDsf c x).pairs = s.pairs := (rfl)
@[simp] theorem State.setDsf_key (s : State) (c : Chan) (x : Dsf) : (s.setDsf c x).key = s.key := (rfl)
@[simp] theorem State.setDsf_pipes (s : State) (c : Chan) (x : Dsf) : (s.setDsf c x).pipes = s.pipes := (rfl)
@[simp] theorem State.setDsf_epochs (s : State) (c : Chan) (x : Dsf) : (s.setDsf c x).epochs = s.epochs := (rfl)
@[simp] theorem State.setDsf_prog (s : State) (c : Chan) (x : Dsf) : (s.setDsf c x).prog = s.prog := (rfl)
@[simp] theorem State.setDsf_rcnt (s : State) (c : Chan) (x : Dsf) : (s.setDsf c x).rcnt = s.rcnt := (rfl)
@[simp] theorem State.setDsf_rcntHeld (s : State) (c : Chan) (x : Dsf) : (s.setDsf c x).rcntHeld = s.rcntHeld := (rfl)
@[simp] theorem State.setDsf_excWait (s : State) (c : Chan) (x : Dsf) : (s.setDsf c x).excWait = s.excWait := (rfl)
@[simp] theorem State.setDsf_bufs (s : State) (c : Chan) (x : Dsf) : (s.setDsf c x).bufs = s.bufs := (rfl)
@[simp] theorem State.setDsf_bufRot (s : State) (c : Chan) (x : Dsf) : (s.setDsf c x).bufRot = s.bufRot := (rfl)
@[simp] theorem State.setDsf_qmap (s : State) (c : Chan) (x : Dsf) : (s.setDsf c x).qmap = s.qmap := (rfl)
@[simp] theorem State.setDsf_memch (s : State) (c : Chan) (x : Dsf) : (s.setDsf c x).memch = s.memch := (rfl)
@[simp] theorem State.setDsf_ecc (s : State) (c : Chan) (x : Dsf) : (s.setDsf c x).ecc = s.ecc := (rfl)
@[simp] theorem State.setDsf_mxe (s : State) (c : Chan) (x : Dsf) : (s.setDsf c x).mxe = s.mxe := (rfl)
@[simp] theorem State.setDsf_queues (s : State) (c : Chan) (x : Dsf) : (s.setDsf c x).queues = s.queues := (rfl)
@[simp] theorem State.setDsf_turns (s : State) (c : Chan) (x : Dsf) : (s.setDsf c x).turns = s.turns := (rfl)
@[simp] theorem State.setDsf_elig (s : State) (c : Chan) (x : Dsf) : (s.setDsf c x).elig = s.elig := (rfl)
@[simp] theorem State.setDsf_shapers (s : State) (c : Chan) (x : Dsf) : (s.setDsf c x).shapers = s.shapers := (rfl)
@[simp] theorem State.setDsf_policers (s : State) (c : Chan) (x : Dsf) : (s.setDsf c x).policers = s.policers := (rfl)
@[simp] theorem State.setDsf_gates (s : State) (c : Chan) (x : Dsf) : (s.setDsf c x).gates = s.gates := (rfl)
@[simp] theorem State.setDsf_gateBusy (s : State) (c : Chan) (x : Dsf) : (s.setDsf c x).gateBusy = s.gateBusy := (rfl)
@[simp] theorem State.setDsf_lanes (s : State) (c : Chan) (x : Dsf) : (s.setDsf c x).lanes = s.lanes := (rfl)
@[simp] theorem State.setDsf_lports (s : State) (c : Chan) (x : Dsf) : (s.setDsf c x).lports = s.lports := (rfl)
@[simp] theorem State.setDsf_mdio (s : State) (c : Chan) (x : Dsf) : (s.setDsf c x).mdio = s.mdio := (rfl)
@[simp] theorem State.setDsf_tim (s : State) (c : Chan) (x : Dsf) : (s.setDsf c x).tim = s.tim := (rfl)
@[simp] theorem State.setDsf_evt (s : State) (c : Chan) (x : Dsf) : (s.setDsf c x).evt = s.evt := (rfl)
@[simp] theorem State.setDsf_log (s : State) (c : Chan) (x : Dsf) : (s.setDsf c x).log = s.log := (rfl)
@[simp] theorem State.setDsf_tsk (s : State) (c : Chan) (x : Dsf) : (s.setDsf c x).tsk = s.tsk := (rfl)
@[simp] theorem State.setDsf_cpu (s : State) (c : Chan) (x : Dsf) : (s.setDsf c x).cpu = s.cpu := (rfl)
@[simp] theorem State.setDsf_pwr (s : State) (c : Chan) (x : Dsf) : (s.setDsf c x).pwr = s.pwr := (rfl)
@[simp] theorem State.setDsf_rst (s : State) (c : Chan) (x : Dsf) : (s.setDsf c x).rst = s.rst := (rfl)
@[simp] theorem State.setDsf_sys (s : State) (c : Chan) (x : Dsf) : (s.setDsf c x).sys = s.sys := (rfl)
@[simp] theorem State.setDsf_hif (s : State) (c : Chan) (x : Dsf) : (s.setDsf c x).hif = s.hif := (rfl)
@[simp] theorem State.setDsf_pins (s : State) (c : Chan) (x : Dsf) : (s.setDsf c x).pins = s.pins := (rfl)
@[simp] theorem State.setDsf_clock (s : State) (c : Chan) (x : Dsf) : (s.setDsf c x).clock = s.clock := (rfl)
@[simp] theorem State.setDsf_timers (s : State) (c : Chan) (x : Dsf) : (s.setDsf c x).timers = s.timers := (rfl)
@[simp] theorem State.setDsf_pending (s : State) (c : Chan) (x : Dsf) : (s.setDsf c x).pending = s.pending := (rfl)
@[simp] theorem State.setDsf_dark (s : State) (c : Chan) (x : Dsf) : (s.setDsf c x).dark = s.dark := (rfl)
@[simp] theorem State.setDsf_resp (s : State) (c : Chan) (x : Dsf) : (s.setDsf c x).resp = s.resp := (rfl)
@[simp] theorem State.setDsf_out (s : State) (c : Chan) (x : Dsf) : (s.setDsf c x).out = s.out := (rfl)
@[simp] theorem State.setDsf_fresh (s : State) (c : Chan) (x : Dsf) : (s.setDsf c x).fresh = s.fresh := (rfl)
@[simp] theorem State.setDsf_rd (s : State) (c : Chan) (x : Dsf) (k : Nat) : (s.setDsf c x).rd k = s.rd k := State.rd_of_regs (State.setDsf_regs s c x) k
@[simp] theorem State.setDsf_fld (s : State) (c : Chan) (x : Dsf) (g_ : Fld) : (s.setDsf c x).fld g_ = s.fld g_ := State.fld_of_regs (State.setDsf_regs s c x) g_
@[simp] theorem State.setDsf_bit (s : State) (c : Chan) (x : Dsf) (g_ : Fld) : (s.setDsf c x).bit g_ = s.bit g_ := State.bit_of_regs (State.setDsf_regs s c x) g_
@[simp] theorem State.setDsf_running (s : State) (c : Chan) (x : Dsf) (g_ : Nat) : (s.setDsf c x).running g_ = s.running g_ := State.running_of_timers (State.setDsf_timers s c x) g_
@[simp] theorem State.setDsf_domOn (s : State) (c : Chan) (x : Dsf) (g_ : Nat) : (s.setDsf c x).domOn g_ = s.domOn g_ := State.domOn_of_pwr (State.setDsf_pwr s c x) g_

/-! `State.setReasm` -/

@[simp] theorem State.setReasm_regs (s : State) (c : Chan) (m : SMap Reasm) : (s.setReasm c m).regs = s.regs := (rfl)
@[simp] theorem State.setReasm_shown (s : State) (c : Chan) (m : SMap Reasm) : (s.setReasm c m).shown = s.shown := (rfl)
@[simp] theorem State.setReasm_mirror (s : State) (c : Chan) (m : SMap Reasm) : (s.setReasm c m).mirror = s.mirror := (rfl)
@[simp] theorem State.setReasm_mem (s : State) (c : Chan) (m : SMap Reasm) : (s.setReasm c m).mem = s.mem := (rfl)
@[simp] theorem State.setReasm_seam (s : State) (c : Chan) (m : SMap Reasm) : (s.setReasm c m).seam = s.seam := (rfl)
@[simp] theorem State.setReasm_cmt (s : State) (c : Chan) (m : SMap Reasm) : (s.setReasm c m).cmt = s.cmt := (rfl)
@[simp] theorem State.setReasm_own (s : State) (c : Chan) (m : SMap Reasm) : (s.setReasm c m).own = s.own := (rfl)
@[simp] theorem State.setReasm_nextPkt (s : State) (c : Chan) (m : SMap Reasm) : (s.setReasm c m).nextPkt = s.nextPkt := (rfl)
@[simp] theorem State.setReasm_rx (s : State) (c : Chan) (m : SMap Reasm) : (s.setReasm c m).rx = s.rx := (rfl)
@[simp] theorem State.setReasm_tmap (s : State) (c : Chan) (m : SMap Reasm) : (s.setReasm c m).tmap = s.tmap := (rfl)
@[simp] theorem State.setReasm_tribs (s : State) (c : Chan) (m : SMap Reasm) : (s.setReasm c m).tribs = s.tribs := (rfl)
@[simp] theorem State.setReasm_tfrags (s : State) (c : Chan) (m : SMap Reasm) : (s.setReasm c m).tfrags = s.tfrags := (rfl)
@[simp] theorem State.setReasm_rows (s : State) (c : Chan) (m : SMap Reasm) : (s.setReasm c m).rows = s.rows := (rfl)
@[simp] theorem State.setReasm_ttest (s : State) (c : Chan) (m : SMap Reasm) : (s.setReasm c m).ttest = s.ttest := (rfl)
@[simp] theorem State.setReasm_act (s : State) (c : Chan) (m : SMap Reasm) : (s.setReasm c m).act = s.act := (rfl)
@[simp] theorem State.setReasm_upb (s : State) (c : Chan) (m : SMap Reasm) : (s.setReasm c m).upb = s.upb := (rfl)
@[simp] theorem State.setReasm_restarts (s : State) (c : Chan) (m : SMap Reasm) : (s.setReasm c m).restarts = s.restarts := (rfl)
@[simp] theorem State.setReasm_gsm (s : State) (c : Chan) (m : SMap Reasm) : (s.setReasm c m).gsm = s.gsm := (rfl)
@[simp] theorem State.setReasm_txEff (s : State) (c : Chan) (m : SMap Reasm) : (s.setReasm c m).txEff = s.txEff := (rfl)
@[simp] theorem State.setReasm_pairs (s : State) (c : Chan) (m : SMap Reasm) : (s.setReasm c m).pairs = s.pairs := (rfl)
@[simp] theorem State.setReasm_key (s : State) (c : Chan) (m : SMap Reasm) : (s.setReasm c m).key = s.key := (rfl)
@[simp] theorem State.setReasm_pipes (s : State) (c : Chan) (m : SMap Reasm) : (s.setReasm c m).pipes = s.pipes := (rfl)
@[simp] theorem State.setReasm_epochs (s : State) (c : Chan) (m : SMap Reasm) : (s.setReasm c m).epochs = s.epochs := (rfl)
@[simp] theorem State.setReasm_prog (s : State) (c : Chan) (m : SMap Reasm) : (s.setReasm c m).prog = s.prog := (rfl)
@[simp] theorem State.setReasm_rcnt (s : State) (c : Chan) (m : SMap Reasm) : (s.setReasm c m).rcnt = s.rcnt := (rfl)
@[simp] theorem State.setReasm_rcntHeld (s : State) (c : Chan) (m : SMap Reasm) : (s.setReasm c m).rcntHeld = s.rcntHeld := (rfl)
@[simp] theorem State.setReasm_excWait (s : State) (c : Chan) (m : SMap Reasm) : (s.setReasm c m).excWait = s.excWait := (rfl)
@[simp] theorem State.setReasm_bufs (s : State) (c : Chan) (m : SMap Reasm) : (s.setReasm c m).bufs = s.bufs := (rfl)
@[simp] theorem State.setReasm_bufRot (s : State) (c : Chan) (m : SMap Reasm) : (s.setReasm c m).bufRot = s.bufRot := (rfl)
@[simp] theorem State.setReasm_qmap (s : State) (c : Chan) (m : SMap Reasm) : (s.setReasm c m).qmap = s.qmap := (rfl)
@[simp] theorem State.setReasm_memch (s : State) (c : Chan) (m : SMap Reasm) : (s.setReasm c m).memch = s.memch := (rfl)
@[simp] theorem State.setReasm_ecc (s : State) (c : Chan) (m : SMap Reasm) : (s.setReasm c m).ecc = s.ecc := (rfl)
@[simp] theorem State.setReasm_mxe (s : State) (c : Chan) (m : SMap Reasm) : (s.setReasm c m).mxe = s.mxe := (rfl)
@[simp] theorem State.setReasm_queues (s : State) (c : Chan) (m : SMap Reasm) : (s.setReasm c m).queues = s.queues := (rfl)
@[simp] theorem State.setReasm_turns (s : State) (c : Chan) (m : SMap Reasm) : (s.setReasm c m).turns = s.turns := (rfl)
@[simp] theorem State.setReasm_elig (s : State) (c : Chan) (m : SMap Reasm) : (s.setReasm c m).elig = s.elig := (rfl)
@[simp] theorem State.setReasm_shapers (s : State) (c : Chan) (m : SMap Reasm) : (s.setReasm c m).shapers = s.shapers := (rfl)
@[simp] theorem State.setReasm_policers (s : State) (c : Chan) (m : SMap Reasm) : (s.setReasm c m).policers = s.policers := (rfl)
@[simp] theorem State.setReasm_gates (s : State) (c : Chan) (m : SMap Reasm) : (s.setReasm c m).gates = s.gates := (rfl)
@[simp] theorem State.setReasm_gateBusy (s : State) (c : Chan) (m : SMap Reasm) : (s.setReasm c m).gateBusy = s.gateBusy := (rfl)
@[simp] theorem State.setReasm_lanes (s : State) (c : Chan) (m : SMap Reasm) : (s.setReasm c m).lanes = s.lanes := (rfl)
@[simp] theorem State.setReasm_lports (s : State) (c : Chan) (m : SMap Reasm) : (s.setReasm c m).lports = s.lports := (rfl)
@[simp] theorem State.setReasm_mdio (s : State) (c : Chan) (m : SMap Reasm) : (s.setReasm c m).mdio = s.mdio := (rfl)
@[simp] theorem State.setReasm_tim (s : State) (c : Chan) (m : SMap Reasm) : (s.setReasm c m).tim = s.tim := (rfl)
@[simp] theorem State.setReasm_evt (s : State) (c : Chan) (m : SMap Reasm) : (s.setReasm c m).evt = s.evt := (rfl)
@[simp] theorem State.setReasm_log (s : State) (c : Chan) (m : SMap Reasm) : (s.setReasm c m).log = s.log := (rfl)
@[simp] theorem State.setReasm_tsk (s : State) (c : Chan) (m : SMap Reasm) : (s.setReasm c m).tsk = s.tsk := (rfl)
@[simp] theorem State.setReasm_cpu (s : State) (c : Chan) (m : SMap Reasm) : (s.setReasm c m).cpu = s.cpu := (rfl)
@[simp] theorem State.setReasm_pwr (s : State) (c : Chan) (m : SMap Reasm) : (s.setReasm c m).pwr = s.pwr := (rfl)
@[simp] theorem State.setReasm_rst (s : State) (c : Chan) (m : SMap Reasm) : (s.setReasm c m).rst = s.rst := (rfl)
@[simp] theorem State.setReasm_sys (s : State) (c : Chan) (m : SMap Reasm) : (s.setReasm c m).sys = s.sys := (rfl)
@[simp] theorem State.setReasm_hif (s : State) (c : Chan) (m : SMap Reasm) : (s.setReasm c m).hif = s.hif := (rfl)
@[simp] theorem State.setReasm_pins (s : State) (c : Chan) (m : SMap Reasm) : (s.setReasm c m).pins = s.pins := (rfl)
@[simp] theorem State.setReasm_clock (s : State) (c : Chan) (m : SMap Reasm) : (s.setReasm c m).clock = s.clock := (rfl)
@[simp] theorem State.setReasm_timers (s : State) (c : Chan) (m : SMap Reasm) : (s.setReasm c m).timers = s.timers := (rfl)
@[simp] theorem State.setReasm_pending (s : State) (c : Chan) (m : SMap Reasm) : (s.setReasm c m).pending = s.pending := (rfl)
@[simp] theorem State.setReasm_dark (s : State) (c : Chan) (m : SMap Reasm) : (s.setReasm c m).dark = s.dark := (rfl)
@[simp] theorem State.setReasm_resp (s : State) (c : Chan) (m : SMap Reasm) : (s.setReasm c m).resp = s.resp := (rfl)
@[simp] theorem State.setReasm_out (s : State) (c : Chan) (m : SMap Reasm) : (s.setReasm c m).out = s.out := (rfl)
@[simp] theorem State.setReasm_fresh (s : State) (c : Chan) (m : SMap Reasm) : (s.setReasm c m).fresh = s.fresh := (rfl)
@[simp] theorem State.setReasm_rd (s : State) (c : Chan) (m : SMap Reasm) (k : Nat) : (s.setReasm c m).rd k = s.rd k := State.rd_of_regs (State.setReasm_regs s c m) k
@[simp] theorem State.setReasm_fld (s : State) (c : Chan) (m : SMap Reasm) (g_ : Fld) : (s.setReasm c m).fld g_ = s.fld g_ := State.fld_of_regs (State.setReasm_regs s c m) g_
@[simp] theorem State.setReasm_bit (s : State) (c : Chan) (m : SMap Reasm) (g_ : Fld) : (s.setReasm c m).bit g_ = s.bit g_ := State.bit_of_regs (State.setReasm_regs s c m) g_
@[simp] theorem State.setReasm_running (s : State) (c : Chan) (m : SMap Reasm) (g_ : Nat) : (s.setReasm c m).running g_ = s.running g_ := State.running_of_timers (State.setReasm_timers s c m) g_
@[simp] theorem State.setReasm_domOn (s : State) (c : Chan) (m : SMap Reasm) (g_ : Nat) : (s.setReasm c m).domOn g_ = s.domOn g_ := State.domOn_of_pwr (State.setReasm_pwr s c m) g_

/-! `State.setTsk` -/

@[simp] theorem State.setTsk_regs (s : State) (f : Tsk → Tsk) : (s.setTsk f).regs = s.regs := (rfl)
@[simp] theorem State.setTsk_shown (s : State) (f : Tsk → Tsk) : (s.setTsk f).shown = s.shown := (rfl)
@[simp] theorem State.setTsk_mirror (s : State) (f : Tsk → Tsk) : (s.setTsk f).mirror = s.mirror := (rfl)
@[simp] theorem State.setTsk_mem (s : State) (f : Tsk → Tsk) : (s.setTsk f).mem = s.mem := (rfl)
@[simp] theorem State.setTsk_seam (s : State) (f : Tsk → Tsk) : (s.setTsk f).seam = s.seam := (rfl)
@[simp] theorem State.setTsk_cmt (s : State) (f : Tsk → Tsk) : (s.setTsk f).cmt = s.cmt := (rfl)
@[simp] theorem State.setTsk_own (s : State) (f : Tsk → Tsk) : (s.setTsk f).own = s.own := (rfl)
@[simp] theorem State.setTsk_nextPkt (s : State) (f : Tsk → Tsk) : (s.setTsk f).nextPkt = s.nextPkt := (rfl)
@[simp] theorem State.setTsk_rx (s : State) (f : Tsk → Tsk) : (s.setTsk f).rx = s.rx := (rfl)
@[simp] theorem State.setTsk_dsf (s : State) (f : Tsk → Tsk) : (s.setTsk f).dsf = s.dsf := (rfl)
@[simp] theorem State.setTsk_tmap (s : State) (f : Tsk → Tsk) : (s.setTsk f).tmap = s.tmap := (rfl)
@[simp] theorem State.setTsk_tribs (s : State) (f : Tsk → Tsk) : (s.setTsk f).tribs = s.tribs := (rfl)
@[simp] theorem State.setTsk_tfrags (s : State) (f : Tsk → Tsk) : (s.setTsk f).tfrags = s.tfrags := (rfl)
@[simp] theorem State.setTsk_rows (s : State) (f : Tsk → Tsk) : (s.setTsk f).rows = s.rows := (rfl)
@[simp] theorem State.setTsk_ttest (s : State) (f : Tsk → Tsk) : (s.setTsk f).ttest = s.ttest := (rfl)
@[simp] theorem State.setTsk_act (s : State) (f : Tsk → Tsk) : (s.setTsk f).act = s.act := (rfl)
@[simp] theorem State.setTsk_upb (s : State) (f : Tsk → Tsk) : (s.setTsk f).upb = s.upb := (rfl)
@[simp] theorem State.setTsk_restarts (s : State) (f : Tsk → Tsk) : (s.setTsk f).restarts = s.restarts := (rfl)
@[simp] theorem State.setTsk_gsm (s : State) (f : Tsk → Tsk) : (s.setTsk f).gsm = s.gsm := (rfl)
@[simp] theorem State.setTsk_txEff (s : State) (f : Tsk → Tsk) : (s.setTsk f).txEff = s.txEff := (rfl)
@[simp] theorem State.setTsk_pairs (s : State) (f : Tsk → Tsk) : (s.setTsk f).pairs = s.pairs := (rfl)
@[simp] theorem State.setTsk_key (s : State) (f : Tsk → Tsk) : (s.setTsk f).key = s.key := (rfl)
@[simp] theorem State.setTsk_pipes (s : State) (f : Tsk → Tsk) : (s.setTsk f).pipes = s.pipes := (rfl)
@[simp] theorem State.setTsk_epochs (s : State) (f : Tsk → Tsk) : (s.setTsk f).epochs = s.epochs := (rfl)
@[simp] theorem State.setTsk_prog (s : State) (f : Tsk → Tsk) : (s.setTsk f).prog = s.prog := (rfl)
@[simp] theorem State.setTsk_rcnt (s : State) (f : Tsk → Tsk) : (s.setTsk f).rcnt = s.rcnt := (rfl)
@[simp] theorem State.setTsk_rcntHeld (s : State) (f : Tsk → Tsk) : (s.setTsk f).rcntHeld = s.rcntHeld := (rfl)
@[simp] theorem State.setTsk_excWait (s : State) (f : Tsk → Tsk) : (s.setTsk f).excWait = s.excWait := (rfl)
@[simp] theorem State.setTsk_bufs (s : State) (f : Tsk → Tsk) : (s.setTsk f).bufs = s.bufs := (rfl)
@[simp] theorem State.setTsk_bufRot (s : State) (f : Tsk → Tsk) : (s.setTsk f).bufRot = s.bufRot := (rfl)
@[simp] theorem State.setTsk_qmap (s : State) (f : Tsk → Tsk) : (s.setTsk f).qmap = s.qmap := (rfl)
@[simp] theorem State.setTsk_memch (s : State) (f : Tsk → Tsk) : (s.setTsk f).memch = s.memch := (rfl)
@[simp] theorem State.setTsk_ecc (s : State) (f : Tsk → Tsk) : (s.setTsk f).ecc = s.ecc := (rfl)
@[simp] theorem State.setTsk_mxe (s : State) (f : Tsk → Tsk) : (s.setTsk f).mxe = s.mxe := (rfl)
@[simp] theorem State.setTsk_queues (s : State) (f : Tsk → Tsk) : (s.setTsk f).queues = s.queues := (rfl)
@[simp] theorem State.setTsk_turns (s : State) (f : Tsk → Tsk) : (s.setTsk f).turns = s.turns := (rfl)
@[simp] theorem State.setTsk_elig (s : State) (f : Tsk → Tsk) : (s.setTsk f).elig = s.elig := (rfl)
@[simp] theorem State.setTsk_shapers (s : State) (f : Tsk → Tsk) : (s.setTsk f).shapers = s.shapers := (rfl)
@[simp] theorem State.setTsk_policers (s : State) (f : Tsk → Tsk) : (s.setTsk f).policers = s.policers := (rfl)
@[simp] theorem State.setTsk_gates (s : State) (f : Tsk → Tsk) : (s.setTsk f).gates = s.gates := (rfl)
@[simp] theorem State.setTsk_gateBusy (s : State) (f : Tsk → Tsk) : (s.setTsk f).gateBusy = s.gateBusy := (rfl)
@[simp] theorem State.setTsk_lanes (s : State) (f : Tsk → Tsk) : (s.setTsk f).lanes = s.lanes := (rfl)
@[simp] theorem State.setTsk_lports (s : State) (f : Tsk → Tsk) : (s.setTsk f).lports = s.lports := (rfl)
@[simp] theorem State.setTsk_mdio (s : State) (f : Tsk → Tsk) : (s.setTsk f).mdio = s.mdio := (rfl)
@[simp] theorem State.setTsk_tim (s : State) (f : Tsk → Tsk) : (s.setTsk f).tim = s.tim := (rfl)
@[simp] theorem State.setTsk_evt (s : State) (f : Tsk → Tsk) : (s.setTsk f).evt = s.evt := (rfl)
@[simp] theorem State.setTsk_log (s : State) (f : Tsk → Tsk) : (s.setTsk f).log = s.log := (rfl)
@[simp] theorem State.setTsk_cpu (s : State) (f : Tsk → Tsk) : (s.setTsk f).cpu = s.cpu := (rfl)
@[simp] theorem State.setTsk_pwr (s : State) (f : Tsk → Tsk) : (s.setTsk f).pwr = s.pwr := (rfl)
@[simp] theorem State.setTsk_rst (s : State) (f : Tsk → Tsk) : (s.setTsk f).rst = s.rst := (rfl)
@[simp] theorem State.setTsk_sys (s : State) (f : Tsk → Tsk) : (s.setTsk f).sys = s.sys := (rfl)
@[simp] theorem State.setTsk_hif (s : State) (f : Tsk → Tsk) : (s.setTsk f).hif = s.hif := (rfl)
@[simp] theorem State.setTsk_pins (s : State) (f : Tsk → Tsk) : (s.setTsk f).pins = s.pins := (rfl)
@[simp] theorem State.setTsk_clock (s : State) (f : Tsk → Tsk) : (s.setTsk f).clock = s.clock := (rfl)
@[simp] theorem State.setTsk_timers (s : State) (f : Tsk → Tsk) : (s.setTsk f).timers = s.timers := (rfl)
@[simp] theorem State.setTsk_pending (s : State) (f : Tsk → Tsk) : (s.setTsk f).pending = s.pending := (rfl)
@[simp] theorem State.setTsk_dark (s : State) (f : Tsk → Tsk) : (s.setTsk f).dark = s.dark := (rfl)
@[simp] theorem State.setTsk_resp (s : State) (f : Tsk → Tsk) : (s.setTsk f).resp = s.resp := (rfl)
@[simp] theorem State.setTsk_out (s : State) (f : Tsk → Tsk) : (s.setTsk f).out = s.out := (rfl)
@[simp] theorem State.setTsk_fresh (s : State) (f : Tsk → Tsk) : (s.setTsk f).fresh = s.fresh := (rfl)
@[simp] theorem State.setTsk_rd (s : State) (f : Tsk → Tsk) (k : Nat) : (s.setTsk f).rd k = s.rd k := State.rd_of_regs (State.setTsk_regs s f) k
@[simp] theorem State.setTsk_fld (s : State) (f : Tsk → Tsk) (g_ : Fld) : (s.setTsk f).fld g_ = s.fld g_ := State.fld_of_regs (State.setTsk_regs s f) g_
@[simp] theorem State.setTsk_bit (s : State) (f : Tsk → Tsk) (g_ : Fld) : (s.setTsk f).bit g_ = s.bit g_ := State.bit_of_regs (State.setTsk_regs s f) g_
@[simp] theorem State.setTsk_running (s : State) (f : Tsk → Tsk) (g_ : Nat) : (s.setTsk f).running g_ = s.running g_ := State.running_of_timers (State.setTsk_timers s f) g_
@[simp] theorem State.setTsk_domOn (s : State) (f : Tsk → Tsk) (g_ : Nat) : (s.setTsk f).domOn g_ = s.domOn g_ := State.domOn_of_pwr (State.setTsk_pwr s f) g_

/-! `State.setItem` -/

@[simp] theorem State.setItem_regs (s : State) (i : Nat) (x : Item) : (s.setItem i x).regs = s.regs := (rfl)
@[simp] theorem State.setItem_shown (s : State) (i : Nat) (x : Item) : (s.setItem i x).shown = s.shown := (rfl)
@[simp] theorem State.setItem_mirror (s : State) (i : Nat) (x : Item) : (s.setItem i x).mirror = s.mirror := (rfl)
@[simp] theorem State.setItem_mem (s : State) (i : Nat) (x : Item) : (s.setItem i x).mem = s.mem := (rfl)
@[simp] theorem State.setItem_seam (s : State) (i : Nat) (x : Item) : (s.setItem i x).seam = s.seam := (rfl)
@[simp] theorem State.setItem_cmt (s : State) (i : Nat) (x : Item) : (s.setItem i x).cmt = s.cmt := (rfl)
@[simp] theorem State.setItem_own (s : State) (i : Nat) (x : Item) : (s.setItem i x).own = s.own := (rfl)
@[simp] theorem State.setItem_nextPkt (s : State) (i : Nat) (x : Item) : (s.setItem i x).nextPkt = s.nextPkt := (rfl)
@[simp] theorem State.setItem_rx (s : State) (i : Nat) (x : Item) : (s.setItem i x).rx = s.rx := (rfl)
@[simp] theorem State.setItem_dsf (s : State) (i : Nat) (x : Item) : (s.setItem i x).dsf = s.dsf := (rfl)
@[simp] theorem State.setItem_tmap (s : State) (i : Nat) (x : Item) : (s.setItem i x).tmap = s.tmap := (rfl)
@[simp] theorem State.setItem_tribs (s : State) (i : Nat) (x : Item) : (s.setItem i x).tribs = s.tribs := (rfl)
@[simp] theorem State.setItem_tfrags (s : State) (i : Nat) (x : Item) : (s.setItem i x).tfrags = s.tfrags := (rfl)
@[simp] theorem State.setItem_rows (s : State) (i : Nat) (x : Item) : (s.setItem i x).rows = s.rows := (rfl)
@[simp] theorem State.setItem_ttest (s : State) (i : Nat) (x : Item) : (s.setItem i x).ttest = s.ttest := (rfl)
@[simp] theorem State.setItem_act (s : State) (i : Nat) (x : Item) : (s.setItem i x).act = s.act := (rfl)
@[simp] theorem State.setItem_upb (s : State) (i : Nat) (x : Item) : (s.setItem i x).upb = s.upb := (rfl)
@[simp] theorem State.setItem_restarts (s : State) (i : Nat) (x : Item) : (s.setItem i x).restarts = s.restarts := (rfl)
@[simp] theorem State.setItem_gsm (s : State) (i : Nat) (x : Item) : (s.setItem i x).gsm = s.gsm := (rfl)
@[simp] theorem State.setItem_txEff (s : State) (i : Nat) (x : Item) : (s.setItem i x).txEff = s.txEff := (rfl)
@[simp] theorem State.setItem_pairs (s : State) (i : Nat) (x : Item) : (s.setItem i x).pairs = s.pairs := (rfl)
@[simp] theorem State.setItem_key (s : State) (i : Nat) (x : Item) : (s.setItem i x).key = s.key := (rfl)
@[simp] theorem State.setItem_pipes (s : State) (i : Nat) (x : Item) : (s.setItem i x).pipes = s.pipes := (rfl)
@[simp] theorem State.setItem_epochs (s : State) (i : Nat) (x : Item) : (s.setItem i x).epochs = s.epochs := (rfl)
@[simp] theorem State.setItem_prog (s : State) (i : Nat) (x : Item) : (s.setItem i x).prog = s.prog := (rfl)
@[simp] theorem State.setItem_rcnt (s : State) (i : Nat) (x : Item) : (s.setItem i x).rcnt = s.rcnt := (rfl)
@[simp] theorem State.setItem_rcntHeld (s : State) (i : Nat) (x : Item) : (s.setItem i x).rcntHeld = s.rcntHeld := (rfl)
@[simp] theorem State.setItem_excWait (s : State) (i : Nat) (x : Item) : (s.setItem i x).excWait = s.excWait := (rfl)
@[simp] theorem State.setItem_bufs (s : State) (i : Nat) (x : Item) : (s.setItem i x).bufs = s.bufs := (rfl)
@[simp] theorem State.setItem_bufRot (s : State) (i : Nat) (x : Item) : (s.setItem i x).bufRot = s.bufRot := (rfl)
@[simp] theorem State.setItem_qmap (s : State) (i : Nat) (x : Item) : (s.setItem i x).qmap = s.qmap := (rfl)
@[simp] theorem State.setItem_memch (s : State) (i : Nat) (x : Item) : (s.setItem i x).memch = s.memch := (rfl)
@[simp] theorem State.setItem_ecc (s : State) (i : Nat) (x : Item) : (s.setItem i x).ecc = s.ecc := (rfl)
@[simp] theorem State.setItem_mxe (s : State) (i : Nat) (x : Item) : (s.setItem i x).mxe = s.mxe := (rfl)
@[simp] theorem State.setItem_queues (s : State) (i : Nat) (x : Item) : (s.setItem i x).queues = s.queues := (rfl)
@[simp] theorem State.setItem_turns (s : State) (i : Nat) (x : Item) : (s.setItem i x).turns = s.turns := (rfl)
@[simp] theorem State.setItem_elig (s : State) (i : Nat) (x : Item) : (s.setItem i x).elig = s.elig := (rfl)
@[simp] theorem State.setItem_shapers (s : State) (i : Nat) (x : Item) : (s.setItem i x).shapers = s.shapers := (rfl)
@[simp] theorem State.setItem_policers (s : State) (i : Nat) (x : Item) : (s.setItem i x).policers = s.policers := (rfl)
@[simp] theorem State.setItem_gates (s : State) (i : Nat) (x : Item) : (s.setItem i x).gates = s.gates := (rfl)
@[simp] theorem State.setItem_gateBusy (s : State) (i : Nat) (x : Item) : (s.setItem i x).gateBusy = s.gateBusy := (rfl)
@[simp] theorem State.setItem_lanes (s : State) (i : Nat) (x : Item) : (s.setItem i x).lanes = s.lanes := (rfl)
@[simp] theorem State.setItem_lports (s : State) (i : Nat) (x : Item) : (s.setItem i x).lports = s.lports := (rfl)
@[simp] theorem State.setItem_mdio (s : State) (i : Nat) (x : Item) : (s.setItem i x).mdio = s.mdio := (rfl)
@[simp] theorem State.setItem_tim (s : State) (i : Nat) (x : Item) : (s.setItem i x).tim = s.tim := (rfl)
@[simp] theorem State.setItem_evt (s : State) (i : Nat) (x : Item) : (s.setItem i x).evt = s.evt := (rfl)
@[simp] theorem State.setItem_log (s : State) (i : Nat) (x : Item) : (s.setItem i x).log = s.log := (rfl)
@[simp] theorem State.setItem_cpu (s : State) (i : Nat) (x : Item) : (s.setItem i x).cpu = s.cpu := (rfl)
@[simp] theorem State.setItem_pwr (s : State) (i : Nat) (x : Item) : (s.setItem i x).pwr = s.pwr := (rfl)
@[simp] theorem State.setItem_rst (s : State) (i : Nat) (x : Item) : (s.setItem i x).rst = s.rst := (rfl)
@[simp] theorem State.setItem_sys (s : State) (i : Nat) (x : Item) : (s.setItem i x).sys = s.sys := (rfl)
@[simp] theorem State.setItem_hif (s : State) (i : Nat) (x : Item) : (s.setItem i x).hif = s.hif := (rfl)
@[simp] theorem State.setItem_pins (s : State) (i : Nat) (x : Item) : (s.setItem i x).pins = s.pins := (rfl)
@[simp] theorem State.setItem_clock (s : State) (i : Nat) (x : Item) : (s.setItem i x).clock = s.clock := (rfl)
@[simp] theorem State.setItem_timers (s : State) (i : Nat) (x : Item) : (s.setItem i x).timers = s.timers := (rfl)
@[simp] theorem State.setItem_pending (s : State) (i : Nat) (x : Item) : (s.setItem i x).pending = s.pending := (rfl)
@[simp] theorem State.setItem_dark (s : State) (i : Nat) (x : Item) : (s.setItem i x).dark = s.dark := (rfl)
@[simp] theorem State.setItem_resp (s : State) (i : Nat) (x : Item) : (s.setItem i x).resp = s.resp := (rfl)
@[simp] theorem State.setItem_out (s : State) (i : Nat) (x : Item) : (s.setItem i x).out = s.out := (rfl)
@[simp] theorem State.setItem_fresh (s : State) (i : Nat) (x : Item) : (s.setItem i x).fresh = s.fresh := (rfl)
@[simp] theorem State.setItem_rd (s : State) (i : Nat) (x : Item) (k : Nat) : (s.setItem i x).rd k = s.rd k := State.rd_of_regs (State.setItem_regs s i x) k
@[simp] theorem State.setItem_fld (s : State) (i : Nat) (x : Item) (g_ : Fld) : (s.setItem i x).fld g_ = s.fld g_ := State.fld_of_regs (State.setItem_regs s i x) g_
@[simp] theorem State.setItem_bit (s : State) (i : Nat) (x : Item) (g_ : Fld) : (s.setItem i x).bit g_ = s.bit g_ := State.bit_of_regs (State.setItem_regs s i x) g_
@[simp] theorem State.setItem_running (s : State) (i : Nat) (x : Item) (g_ : Nat) : (s.setItem i x).running g_ = s.running g_ := State.running_of_timers (State.setItem_timers s i x) g_
@[simp] theorem State.setItem_domOn (s : State) (i : Nat) (x : Item) (g_ : Nat) : (s.setItem i x).domOn g_ = s.domOn g_ := State.domOn_of_pwr (State.setItem_pwr s i x) g_

/-! `State.setLevel` -/

@[simp] theorem State.setLevel_regs (s : State) (p : Nat) (l : List Nat) : (s.setLevel p l).regs = s.regs := (rfl)
@[simp] theorem State.setLevel_shown (s : State) (p : Nat) (l : List Nat) : (s.setLevel p l).shown = s.shown := (rfl)
@[simp] theorem State.setLevel_mirror (s : State) (p : Nat) (l : List Nat) : (s.setLevel p l).mirror = s.mirror := (rfl)
@[simp] theorem State.setLevel_mem (s : State) (p : Nat) (l : List Nat) : (s.setLevel p l).mem = s.mem := (rfl)
@[simp] theorem State.setLevel_seam (s : State) (p : Nat) (l : List Nat) : (s.setLevel p l).seam = s.seam := (rfl)
@[simp] theorem State.setLevel_cmt (s : State) (p : Nat) (l : List Nat) : (s.setLevel p l).cmt = s.cmt := (rfl)
@[simp] theorem State.setLevel_own (s : State) (p : Nat) (l : List Nat) : (s.setLevel p l).own = s.own := (rfl)
@[simp] theorem State.setLevel_nextPkt (s : State) (p : Nat) (l : List Nat) : (s.setLevel p l).nextPkt = s.nextPkt := (rfl)
@[simp] theorem State.setLevel_rx (s : State) (p : Nat) (l : List Nat) : (s.setLevel p l).rx = s.rx := (rfl)
@[simp] theorem State.setLevel_dsf (s : State) (p : Nat) (l : List Nat) : (s.setLevel p l).dsf = s.dsf := (rfl)
@[simp] theorem State.setLevel_tmap (s : State) (p : Nat) (l : List Nat) : (s.setLevel p l).tmap = s.tmap := (rfl)
@[simp] theorem State.setLevel_tribs (s : State) (p : Nat) (l : List Nat) : (s.setLevel p l).tribs = s.tribs := (rfl)
@[simp] theorem State.setLevel_tfrags (s : State) (p : Nat) (l : List Nat) : (s.setLevel p l).tfrags = s.tfrags := (rfl)
@[simp] theorem State.setLevel_rows (s : State) (p : Nat) (l : List Nat) : (s.setLevel p l).rows = s.rows := (rfl)
@[simp] theorem State.setLevel_ttest (s : State) (p : Nat) (l : List Nat) : (s.setLevel p l).ttest = s.ttest := (rfl)
@[simp] theorem State.setLevel_act (s : State) (p : Nat) (l : List Nat) : (s.setLevel p l).act = s.act := (rfl)
@[simp] theorem State.setLevel_upb (s : State) (p : Nat) (l : List Nat) : (s.setLevel p l).upb = s.upb := (rfl)
@[simp] theorem State.setLevel_restarts (s : State) (p : Nat) (l : List Nat) : (s.setLevel p l).restarts = s.restarts := (rfl)
@[simp] theorem State.setLevel_gsm (s : State) (p : Nat) (l : List Nat) : (s.setLevel p l).gsm = s.gsm := (rfl)
@[simp] theorem State.setLevel_txEff (s : State) (p : Nat) (l : List Nat) : (s.setLevel p l).txEff = s.txEff := (rfl)
@[simp] theorem State.setLevel_pairs (s : State) (p : Nat) (l : List Nat) : (s.setLevel p l).pairs = s.pairs := (rfl)
@[simp] theorem State.setLevel_key (s : State) (p : Nat) (l : List Nat) : (s.setLevel p l).key = s.key := (rfl)
@[simp] theorem State.setLevel_pipes (s : State) (p : Nat) (l : List Nat) : (s.setLevel p l).pipes = s.pipes := (rfl)
@[simp] theorem State.setLevel_epochs (s : State) (p : Nat) (l : List Nat) : (s.setLevel p l).epochs = s.epochs := (rfl)
@[simp] theorem State.setLevel_prog (s : State) (p : Nat) (l : List Nat) : (s.setLevel p l).prog = s.prog := (rfl)
@[simp] theorem State.setLevel_rcnt (s : State) (p : Nat) (l : List Nat) : (s.setLevel p l).rcnt = s.rcnt := (rfl)
@[simp] theorem State.setLevel_rcntHeld (s : State) (p : Nat) (l : List Nat) : (s.setLevel p l).rcntHeld = s.rcntHeld := (rfl)
@[simp] theorem State.setLevel_excWait (s : State) (p : Nat) (l : List Nat) : (s.setLevel p l).excWait = s.excWait := (rfl)
@[simp] theorem State.setLevel_bufs (s : State) (p : Nat) (l : List Nat) : (s.setLevel p l).bufs = s.bufs := (rfl)
@[simp] theorem State.setLevel_bufRot (s : State) (p : Nat) (l : List Nat) : (s.setLevel p l).bufRot = s.bufRot := (rfl)
@[simp] theorem State.setLevel_qmap (s : State) (p : Nat) (l : List Nat) : (s.setLevel p l).qmap = s.qmap := (rfl)
@[simp] theorem State.setLevel_memch (s : State) (p : Nat) (l : List Nat) : (s.setLevel p l).memch = s.memch := (rfl)
@[simp] theorem State.setLevel_ecc (s : State) (p : Nat) (l : List Nat) : (s.setLevel p l).ecc = s.ecc := (rfl)
@[simp] theorem State.setLevel_mxe (s : State) (p : Nat) (l : List Nat) : (s.setLevel p l).mxe = s.mxe := (rfl)
@[simp] theorem State.setLevel_queues (s : State) (p : Nat) (l : List Nat) : (s.setLevel p l).queues = s.queues := (rfl)
@[simp] theorem State.setLevel_turns (s : State) (p : Nat) (l : List Nat) : (s.setLevel p l).turns = s.turns := (rfl)
@[simp] theorem State.setLevel_elig (s : State) (p : Nat) (l : List Nat) : (s.setLevel p l).elig = s.elig := (rfl)
@[simp] theorem State.setLevel_shapers (s : State) (p : Nat) (l : List Nat) : (s.setLevel p l).shapers = s.shapers := (rfl)
@[simp] theorem State.setLevel_policers (s : State) (p : Nat) (l : List Nat) : (s.setLevel p l).policers = s.policers := (rfl)
@[simp] theorem State.setLevel_gates (s : State) (p : Nat) (l : List Nat) : (s.setLevel p l).gates = s.gates := (rfl)
@[simp] theorem State.setLevel_gateBusy (s : State) (p : Nat) (l : List Nat) : (s.setLevel p l).gateBusy = s.gateBusy := (rfl)
@[simp] theorem State.setLevel_lanes (s : State) (p : Nat) (l : List Nat) : (s.setLevel p l).lanes = s.lanes := (rfl)
@[simp] theorem State.setLevel_lports (s : State) (p : Nat) (l : List Nat) : (s.setLevel p l).lports = s.lports := (rfl)
@[simp] theorem State.setLevel_mdio (s : State) (p : Nat) (l : List Nat) : (s.setLevel p l).mdio = s.mdio := (rfl)
@[simp] theorem State.setLevel_tim (s : State) (p : Nat) (l : List Nat) : (s.setLevel p l).tim = s.tim := (rfl)
@[simp] theorem State.setLevel_evt (s : State) (p : Nat) (l : List Nat) : (s.setLevel p l).evt = s.evt := (rfl)
@[simp] theorem State.setLevel_log (s : State) (p : Nat) (l : List Nat) : (s.setLevel p l).log = s.log := (rfl)
@[simp] theorem State.setLevel_cpu (s : State) (p : Nat) (l : List Nat) : (s.setLevel p l).cpu = s.cpu := (rfl)
@[simp] theorem State.setLevel_pwr (s : State) (p : Nat) (l : List Nat) : (s.setLevel p l).pwr = s.pwr := (rfl)
@[simp] theorem State.setLevel_rst (s : State) (p : Nat) (l : List Nat) : (s.setLevel p l).rst = s.rst := (rfl)
@[simp] theorem State.setLevel_sys (s : State) (p : Nat) (l : List Nat) : (s.setLevel p l).sys = s.sys := (rfl)
@[simp] theorem State.setLevel_hif (s : State) (p : Nat) (l : List Nat) : (s.setLevel p l).hif = s.hif := (rfl)
@[simp] theorem State.setLevel_pins (s : State) (p : Nat) (l : List Nat) : (s.setLevel p l).pins = s.pins := (rfl)
@[simp] theorem State.setLevel_clock (s : State) (p : Nat) (l : List Nat) : (s.setLevel p l).clock = s.clock := (rfl)
@[simp] theorem State.setLevel_timers (s : State) (p : Nat) (l : List Nat) : (s.setLevel p l).timers = s.timers := (rfl)
@[simp] theorem State.setLevel_pending (s : State) (p : Nat) (l : List Nat) : (s.setLevel p l).pending = s.pending := (rfl)
@[simp] theorem State.setLevel_dark (s : State) (p : Nat) (l : List Nat) : (s.setLevel p l).dark = s.dark := (rfl)
@[simp] theorem State.setLevel_resp (s : State) (p : Nat) (l : List Nat) : (s.setLevel p l).resp = s.resp := (rfl)
@[simp] theorem State.setLevel_out (s : State) (p : Nat) (l : List Nat) : (s.setLevel p l).out = s.out := (rfl)
@[simp] theorem State.setLevel_fresh (s : State) (p : Nat) (l : List Nat) : (s.setLevel p l).fresh = s.fresh := (rfl)
@[simp] theorem State.setLevel_rd (s : State) (p : Nat) (l : List Nat) (k : Nat) : (s.setLevel p l).rd k = s.rd k := State.rd_of_regs (State.setLevel_regs s p l) k
@[simp] theorem State.setLevel_fld (s : State) (p : Nat) (l : List Nat) (g_ : Fld) : (s.setLevel p l).fld g_ = s.fld g_ := State.fld_of_regs (State.setLevel_regs s p l) g_
@[simp] theorem State.setLevel_bit (s : State) (p : Nat) (l : List Nat) (g_ : Fld) : (s.setLevel p l).bit g_ = s.bit g_ := State.bit_of_regs (State.setLevel_regs s p l) g_
@[simp] theorem State.setLevel_running (s : State) (p : Nat) (l : List Nat) (g_ : Nat) : (s.setLevel p l).running g_ = s.running g_ := State.running_of_timers (State.setLevel_timers s p l) g_
@[simp] theorem State.setLevel_domOn (s : State) (p : Nat) (l : List Nat) (g_ : Nat) : (s.setLevel p l).domOn g_ = s.domOn g_ := State.domOn_of_pwr (State.setLevel_pwr s p l) g_

/-! `State.setCorePort` -/

@[simp] theorem State.setCorePort_regs (s : State) (n : Fin 8) (p : Port) : (s.setCorePort n p).regs = s.regs := (rfl)
@[simp] theorem State.setCorePort_shown (s : State) (n : Fin 8) (p : Port) : (s.setCorePort n p).shown = s.shown := (rfl)
@[simp] theorem State.setCorePort_mirror (s : State) (n : Fin 8) (p : Port) : (s.setCorePort n p).mirror = s.mirror := (rfl)
@[simp] theorem State.setCorePort_mem (s : State) (n : Fin 8) (p : Port) : (s.setCorePort n p).mem = s.mem := (rfl)
@[simp] theorem State.setCorePort_seam (s : State) (n : Fin 8) (p : Port) : (s.setCorePort n p).seam = s.seam := (rfl)
@[simp] theorem State.setCorePort_cmt (s : State) (n : Fin 8) (p : Port) : (s.setCorePort n p).cmt = s.cmt := (rfl)
@[simp] theorem State.setCorePort_own (s : State) (n : Fin 8) (p : Port) : (s.setCorePort n p).own = s.own := (rfl)
@[simp] theorem State.setCorePort_nextPkt (s : State) (n : Fin 8) (p : Port) : (s.setCorePort n p).nextPkt = s.nextPkt := (rfl)
@[simp] theorem State.setCorePort_rx (s : State) (n : Fin 8) (p : Port) : (s.setCorePort n p).rx = s.rx := (rfl)
@[simp] theorem State.setCorePort_dsf (s : State) (n : Fin 8) (p : Port) : (s.setCorePort n p).dsf = s.dsf := (rfl)
@[simp] theorem State.setCorePort_tmap (s : State) (n : Fin 8) (p : Port) : (s.setCorePort n p).tmap = s.tmap := (rfl)
@[simp] theorem State.setCorePort_tribs (s : State) (n : Fin 8) (p : Port) : (s.setCorePort n p).tribs = s.tribs := (rfl)
@[simp] theorem State.setCorePort_tfrags (s : State) (n : Fin 8) (p : Port) : (s.setCorePort n p).tfrags = s.tfrags := (rfl)
@[simp] theorem State.setCorePort_rows (s : State) (n : Fin 8) (p : Port) : (s.setCorePort n p).rows = s.rows := (rfl)
@[simp] theorem State.setCorePort_ttest (s : State) (n : Fin 8) (p : Port) : (s.setCorePort n p).ttest = s.ttest := (rfl)
@[simp] theorem State.setCorePort_act (s : State) (n : Fin 8) (p : Port) : (s.setCorePort n p).act = s.act := (rfl)
@[simp] theorem State.setCorePort_upb (s : State) (n : Fin 8) (p : Port) : (s.setCorePort n p).upb = s.upb := (rfl)
@[simp] theorem State.setCorePort_restarts (s : State) (n : Fin 8) (p : Port) : (s.setCorePort n p).restarts = s.restarts := (rfl)
@[simp] theorem State.setCorePort_gsm (s : State) (n : Fin 8) (p : Port) : (s.setCorePort n p).gsm = s.gsm := (rfl)
@[simp] theorem State.setCorePort_txEff (s : State) (n : Fin 8) (p : Port) : (s.setCorePort n p).txEff = s.txEff := (rfl)
@[simp] theorem State.setCorePort_pairs (s : State) (n : Fin 8) (p : Port) : (s.setCorePort n p).pairs = s.pairs := (rfl)
@[simp] theorem State.setCorePort_key (s : State) (n : Fin 8) (p : Port) : (s.setCorePort n p).key = s.key := (rfl)
@[simp] theorem State.setCorePort_pipes (s : State) (n : Fin 8) (p : Port) : (s.setCorePort n p).pipes = s.pipes := (rfl)
@[simp] theorem State.setCorePort_epochs (s : State) (n : Fin 8) (p : Port) : (s.setCorePort n p).epochs = s.epochs := (rfl)
@[simp] theorem State.setCorePort_prog (s : State) (n : Fin 8) (p : Port) : (s.setCorePort n p).prog = s.prog := (rfl)
@[simp] theorem State.setCorePort_rcnt (s : State) (n : Fin 8) (p : Port) : (s.setCorePort n p).rcnt = s.rcnt := (rfl)
@[simp] theorem State.setCorePort_rcntHeld (s : State) (n : Fin 8) (p : Port) : (s.setCorePort n p).rcntHeld = s.rcntHeld := (rfl)
@[simp] theorem State.setCorePort_excWait (s : State) (n : Fin 8) (p : Port) : (s.setCorePort n p).excWait = s.excWait := (rfl)
@[simp] theorem State.setCorePort_bufs (s : State) (n : Fin 8) (p : Port) : (s.setCorePort n p).bufs = s.bufs := (rfl)
@[simp] theorem State.setCorePort_bufRot (s : State) (n : Fin 8) (p : Port) : (s.setCorePort n p).bufRot = s.bufRot := (rfl)
@[simp] theorem State.setCorePort_qmap (s : State) (n : Fin 8) (p : Port) : (s.setCorePort n p).qmap = s.qmap := (rfl)
@[simp] theorem State.setCorePort_memch (s : State) (n : Fin 8) (p : Port) : (s.setCorePort n p).memch = s.memch := (rfl)
@[simp] theorem State.setCorePort_ecc (s : State) (n : Fin 8) (p : Port) : (s.setCorePort n p).ecc = s.ecc := (rfl)
@[simp] theorem State.setCorePort_mxe (s : State) (n : Fin 8) (p : Port) : (s.setCorePort n p).mxe = s.mxe := (rfl)
@[simp] theorem State.setCorePort_queues (s : State) (n : Fin 8) (p : Port) : (s.setCorePort n p).queues = s.queues := (rfl)
@[simp] theorem State.setCorePort_turns (s : State) (n : Fin 8) (p : Port) : (s.setCorePort n p).turns = s.turns := (rfl)
@[simp] theorem State.setCorePort_elig (s : State) (n : Fin 8) (p : Port) : (s.setCorePort n p).elig = s.elig := (rfl)
@[simp] theorem State.setCorePort_shapers (s : State) (n : Fin 8) (p : Port) : (s.setCorePort n p).shapers = s.shapers := (rfl)
@[simp] theorem State.setCorePort_policers (s : State) (n : Fin 8) (p : Port) : (s.setCorePort n p).policers = s.policers := (rfl)
@[simp] theorem State.setCorePort_gates (s : State) (n : Fin 8) (p : Port) : (s.setCorePort n p).gates = s.gates := (rfl)
@[simp] theorem State.setCorePort_gateBusy (s : State) (n : Fin 8) (p : Port) : (s.setCorePort n p).gateBusy = s.gateBusy := (rfl)
@[simp] theorem State.setCorePort_lanes (s : State) (n : Fin 8) (p : Port) : (s.setCorePort n p).lanes = s.lanes := (rfl)
@[simp] theorem State.setCorePort_lports (s : State) (n : Fin 8) (p : Port) : (s.setCorePort n p).lports = s.lports := (rfl)
@[simp] theorem State.setCorePort_mdio (s : State) (n : Fin 8) (p : Port) : (s.setCorePort n p).mdio = s.mdio := (rfl)
@[simp] theorem State.setCorePort_tim (s : State) (n : Fin 8) (p : Port) : (s.setCorePort n p).tim = s.tim := (rfl)
@[simp] theorem State.setCorePort_evt (s : State) (n : Fin 8) (p : Port) : (s.setCorePort n p).evt = s.evt := (rfl)
@[simp] theorem State.setCorePort_log (s : State) (n : Fin 8) (p : Port) : (s.setCorePort n p).log = s.log := (rfl)
@[simp] theorem State.setCorePort_cpu (s : State) (n : Fin 8) (p : Port) : (s.setCorePort n p).cpu = s.cpu := (rfl)
@[simp] theorem State.setCorePort_pwr (s : State) (n : Fin 8) (p : Port) : (s.setCorePort n p).pwr = s.pwr := (rfl)
@[simp] theorem State.setCorePort_rst (s : State) (n : Fin 8) (p : Port) : (s.setCorePort n p).rst = s.rst := (rfl)
@[simp] theorem State.setCorePort_sys (s : State) (n : Fin 8) (p : Port) : (s.setCorePort n p).sys = s.sys := (rfl)
@[simp] theorem State.setCorePort_hif (s : State) (n : Fin 8) (p : Port) : (s.setCorePort n p).hif = s.hif := (rfl)
@[simp] theorem State.setCorePort_pins (s : State) (n : Fin 8) (p : Port) : (s.setCorePort n p).pins = s.pins := (rfl)
@[simp] theorem State.setCorePort_clock (s : State) (n : Fin 8) (p : Port) : (s.setCorePort n p).clock = s.clock := (rfl)
@[simp] theorem State.setCorePort_timers (s : State) (n : Fin 8) (p : Port) : (s.setCorePort n p).timers = s.timers := (rfl)
@[simp] theorem State.setCorePort_pending (s : State) (n : Fin 8) (p : Port) : (s.setCorePort n p).pending = s.pending := (rfl)
@[simp] theorem State.setCorePort_dark (s : State) (n : Fin 8) (p : Port) : (s.setCorePort n p).dark = s.dark := (rfl)
@[simp] theorem State.setCorePort_resp (s : State) (n : Fin 8) (p : Port) : (s.setCorePort n p).resp = s.resp := (rfl)
@[simp] theorem State.setCorePort_out (s : State) (n : Fin 8) (p : Port) : (s.setCorePort n p).out = s.out := (rfl)
@[simp] theorem State.setCorePort_fresh (s : State) (n : Fin 8) (p : Port) : (s.setCorePort n p).fresh = s.fresh := (rfl)
@[simp] theorem State.setCorePort_rd (s : State) (n : Fin 8) (p : Port) (k : Nat) : (s.setCorePort n p).rd k = s.rd k := State.rd_of_regs (State.setCorePort_regs s n p) k
@[simp] theorem State.setCorePort_fld (s : State) (n : Fin 8) (p : Port) (g_ : Fld) : (s.setCorePort n p).fld g_ = s.fld g_ := State.fld_of_regs (State.setCorePort_regs s n p) g_
@[simp] theorem State.setCorePort_bit (s : State) (n : Fin 8) (p : Port) (g_ : Fld) : (s.setCorePort n p).bit g_ = s.bit g_ := State.bit_of_regs (State.setCorePort_regs s n p) g_
@[simp] theorem State.setCorePort_running (s : State) (n : Fin 8) (p : Port) (g_ : Nat) : (s.setCorePort n p).running g_ = s.running g_ := State.running_of_timers (State.setCorePort_timers s n p) g_
@[simp] theorem State.setCorePort_domOn (s : State) (n : Fin 8) (p : Port) (g_ : Nat) : (s.setCorePort n p).domOn g_ = s.domOn g_ := State.domOn_of_pwr (State.setCorePort_pwr s n p) g_

/-! `State.setPwr` -/

@[simp] theorem State.setPwr_regs (s : State) (f : Pwr → Pwr) : (s.setPwr f).regs = s.regs := (rfl)
@[simp] theorem State.setPwr_shown (s : State) (f : Pwr → Pwr) : (s.setPwr f).shown = s.shown := (rfl)
@[simp] theorem State.setPwr_mirror (s : State) (f : Pwr → Pwr) : (s.setPwr f).mirror = s.mirror := (rfl)
@[simp] theorem State.setPwr_mem (s : State) (f : Pwr → Pwr) : (s.setPwr f).mem = s.mem := (rfl)
@[simp] theorem State.setPwr_seam (s : State) (f : Pwr → Pwr) : (s.setPwr f).seam = s.seam := (rfl)
@[simp] theorem State.setPwr_cmt (s : State) (f : Pwr → Pwr) : (s.setPwr f).cmt = s.cmt := (rfl)
@[simp] theorem State.setPwr_own (s : State) (f : Pwr → Pwr) : (s.setPwr f).own = s.own := (rfl)
@[simp] theorem State.setPwr_nextPkt (s : State) (f : Pwr → Pwr) : (s.setPwr f).nextPkt = s.nextPkt := (rfl)
@[simp] theorem State.setPwr_rx (s : State) (f : Pwr → Pwr) : (s.setPwr f).rx = s.rx := (rfl)
@[simp] theorem State.setPwr_dsf (s : State) (f : Pwr → Pwr) : (s.setPwr f).dsf = s.dsf := (rfl)
@[simp] theorem State.setPwr_tmap (s : State) (f : Pwr → Pwr) : (s.setPwr f).tmap = s.tmap := (rfl)
@[simp] theorem State.setPwr_tribs (s : State) (f : Pwr → Pwr) : (s.setPwr f).tribs = s.tribs := (rfl)
@[simp] theorem State.setPwr_tfrags (s : State) (f : Pwr → Pwr) : (s.setPwr f).tfrags = s.tfrags := (rfl)
@[simp] theorem State.setPwr_rows (s : State) (f : Pwr → Pwr) : (s.setPwr f).rows = s.rows := (rfl)
@[simp] theorem State.setPwr_ttest (s : State) (f : Pwr → Pwr) : (s.setPwr f).ttest = s.ttest := (rfl)
@[simp] theorem State.setPwr_act (s : State) (f : Pwr → Pwr) : (s.setPwr f).act = s.act := (rfl)
@[simp] theorem State.setPwr_upb (s : State) (f : Pwr → Pwr) : (s.setPwr f).upb = s.upb := (rfl)
@[simp] theorem State.setPwr_restarts (s : State) (f : Pwr → Pwr) : (s.setPwr f).restarts = s.restarts := (rfl)
@[simp] theorem State.setPwr_gsm (s : State) (f : Pwr → Pwr) : (s.setPwr f).gsm = s.gsm := (rfl)
@[simp] theorem State.setPwr_txEff (s : State) (f : Pwr → Pwr) : (s.setPwr f).txEff = s.txEff := (rfl)
@[simp] theorem State.setPwr_pairs (s : State) (f : Pwr → Pwr) : (s.setPwr f).pairs = s.pairs := (rfl)
@[simp] theorem State.setPwr_key (s : State) (f : Pwr → Pwr) : (s.setPwr f).key = s.key := (rfl)
@[simp] theorem State.setPwr_pipes (s : State) (f : Pwr → Pwr) : (s.setPwr f).pipes = s.pipes := (rfl)
@[simp] theorem State.setPwr_epochs (s : State) (f : Pwr → Pwr) : (s.setPwr f).epochs = s.epochs := (rfl)
@[simp] theorem State.setPwr_prog (s : State) (f : Pwr → Pwr) : (s.setPwr f).prog = s.prog := (rfl)
@[simp] theorem State.setPwr_rcnt (s : State) (f : Pwr → Pwr) : (s.setPwr f).rcnt = s.rcnt := (rfl)
@[simp] theorem State.setPwr_rcntHeld (s : State) (f : Pwr → Pwr) : (s.setPwr f).rcntHeld = s.rcntHeld := (rfl)
@[simp] theorem State.setPwr_excWait (s : State) (f : Pwr → Pwr) : (s.setPwr f).excWait = s.excWait := (rfl)
@[simp] theorem State.setPwr_bufs (s : State) (f : Pwr → Pwr) : (s.setPwr f).bufs = s.bufs := (rfl)
@[simp] theorem State.setPwr_bufRot (s : State) (f : Pwr → Pwr) : (s.setPwr f).bufRot = s.bufRot := (rfl)
@[simp] theorem State.setPwr_qmap (s : State) (f : Pwr → Pwr) : (s.setPwr f).qmap = s.qmap := (rfl)
@[simp] theorem State.setPwr_memch (s : State) (f : Pwr → Pwr) : (s.setPwr f).memch = s.memch := (rfl)
@[simp] theorem State.setPwr_ecc (s : State) (f : Pwr → Pwr) : (s.setPwr f).ecc = s.ecc := (rfl)
@[simp] theorem State.setPwr_mxe (s : State) (f : Pwr → Pwr) : (s.setPwr f).mxe = s.mxe := (rfl)
@[simp] theorem State.setPwr_queues (s : State) (f : Pwr → Pwr) : (s.setPwr f).queues = s.queues := (rfl)
@[simp] theorem State.setPwr_turns (s : State) (f : Pwr → Pwr) : (s.setPwr f).turns = s.turns := (rfl)
@[simp] theorem State.setPwr_elig (s : State) (f : Pwr → Pwr) : (s.setPwr f).elig = s.elig := (rfl)
@[simp] theorem State.setPwr_shapers (s : State) (f : Pwr → Pwr) : (s.setPwr f).shapers = s.shapers := (rfl)
@[simp] theorem State.setPwr_policers (s : State) (f : Pwr → Pwr) : (s.setPwr f).policers = s.policers := (rfl)
@[simp] theorem State.setPwr_gates (s : State) (f : Pwr → Pwr) : (s.setPwr f).gates = s.gates := (rfl)
@[simp] theorem State.setPwr_gateBusy (s : State) (f : Pwr → Pwr) : (s.setPwr f).gateBusy = s.gateBusy := (rfl)
@[simp] theorem State.setPwr_lanes (s : State) (f : Pwr → Pwr) : (s.setPwr f).lanes = s.lanes := (rfl)
@[simp] theorem State.setPwr_lports (s : State) (f : Pwr → Pwr) : (s.setPwr f).lports = s.lports := (rfl)
@[simp] theorem State.setPwr_mdio (s : State) (f : Pwr → Pwr) : (s.setPwr f).mdio = s.mdio := (rfl)
@[simp] theorem State.setPwr_tim (s : State) (f : Pwr → Pwr) : (s.setPwr f).tim = s.tim := (rfl)
@[simp] theorem State.setPwr_evt (s : State) (f : Pwr → Pwr) : (s.setPwr f).evt = s.evt := (rfl)
@[simp] theorem State.setPwr_log (s : State) (f : Pwr → Pwr) : (s.setPwr f).log = s.log := (rfl)
@[simp] theorem State.setPwr_tsk (s : State) (f : Pwr → Pwr) : (s.setPwr f).tsk = s.tsk := (rfl)
@[simp] theorem State.setPwr_cpu (s : State) (f : Pwr → Pwr) : (s.setPwr f).cpu = s.cpu := (rfl)
@[simp] theorem State.setPwr_rst (s : State) (f : Pwr → Pwr) : (s.setPwr f).rst = s.rst := (rfl)
@[simp] theorem State.setPwr_sys (s : State) (f : Pwr → Pwr) : (s.setPwr f).sys = s.sys := (rfl)
@[simp] theorem State.setPwr_hif (s : State) (f : Pwr → Pwr) : (s.setPwr f).hif = s.hif := (rfl)
@[simp] theorem State.setPwr_pins (s : State) (f : Pwr → Pwr) : (s.setPwr f).pins = s.pins := (rfl)
@[simp] theorem State.setPwr_clock (s : State) (f : Pwr → Pwr) : (s.setPwr f).clock = s.clock := (rfl)
@[simp] theorem State.setPwr_timers (s : State) (f : Pwr → Pwr) : (s.setPwr f).timers = s.timers := (rfl)
@[simp] theorem State.setPwr_pending (s : State) (f : Pwr → Pwr) : (s.setPwr f).pending = s.pending := (rfl)
@[simp] theorem State.setPwr_dark (s : State) (f : Pwr → Pwr) : (s.setPwr f).dark = s.dark := (rfl)
@[simp] theorem State.setPwr_resp (s : State) (f : Pwr → Pwr) : (s.setPwr f).resp = s.resp := (rfl)
@[simp] theorem State.setPwr_out (s : State) (f : Pwr → Pwr) : (s.setPwr f).out = s.out := (rfl)
@[simp] theorem State.setPwr_fresh (s : State) (f : Pwr → Pwr) : (s.setPwr f).fresh = s.fresh := (rfl)
@[simp] theorem State.setPwr_rd (s : State) (f : Pwr → Pwr) (k : Nat) : (s.setPwr f).rd k = s.rd k := State.rd_of_regs (State.setPwr_regs s f) k
@[simp] theorem State.setPwr_fld (s : State) (f : Pwr → Pwr) (g_ : Fld) : (s.setPwr f).fld g_ = s.fld g_ := State.fld_of_regs (State.setPwr_regs s f) g_
@[simp] theorem State.setPwr_bit (s : State) (f : Pwr → Pwr) (g_ : Fld) : (s.setPwr f).bit g_ = s.bit g_ := State.bit_of_regs (State.setPwr_regs s f) g_
@[simp] theorem State.setPwr_running (s : State) (f : Pwr → Pwr) (g_ : Nat) : (s.setPwr f).running g_ = s.running g_ := State.running_of_timers (State.setPwr_timers s f) g_

/-! `State.setRegulator` -/

@[simp] theorem State.setRegulator_regs (s : State) (line : Bool) (x : PmbReq) : (s.setRegulator line x).regs = s.regs := State.setRegulator_keeps line x (List.Subset.refl _) (SameBut.refl _ s) .regs (by decide)
@[simp] theorem State.setRegulator_shown (s : State) (line : Bool) (x : PmbReq) : (s.setRegulator line x).shown = s.shown := State.setRegulator_keeps line x (List.Subset.refl _) (SameBut.refl _ s) .shown (by decide)
@[simp] theorem State.setRegulator_mirror (s : State) (line : Bool) (x : PmbReq) : (s.setRegulator line x).mirror = s.mirror := State.setRegulator_keeps line x (List.Subset.refl _) (SameBut.refl _ s) .mirror (by decide)
@[simp] theorem State.setRegulator_mem (s : State) (line : Bool) (x : PmbReq) : (s.setRegulator line x).mem = s.mem := State.setRegulator_keeps line x (List.Subset.refl _) (SameBut.refl _ s) .mem (by decide)
@[simp] theorem State.setRegulator_seam (s : State) (line : Bool) (x : PmbReq) : (s.setRegulator line x).seam = s.seam := State.setRegulator_keeps line x (List.Subset.refl _) (SameBut.refl _ s) .seam (by decide)
@[simp] theorem State.setRegulator_cmt (s : State) (line : Bool) (x : PmbReq) : (s.setRegulator line x).cmt = s.cmt := State.setRegulator_keeps line x (List.Subset.refl _) (SameBut.refl _ s) .cmt (by decide)
@[simp] theorem State.setRegulator_own (s : State) (line : Bool) (x : PmbReq) : (s.setRegulator line x).own = s.own := State.setRegulator_keeps line x (List.Subset.refl _) (SameBut.refl _ s) .own (by decide)
@[simp] theorem State.setRegulator_nextPkt (s : State) (line : Bool) (x : PmbReq) : (s.setRegulator line x).nextPkt = s.nextPkt := State.setRegulator_keeps line x (List.Subset.refl _) (SameBut.refl _ s) .nextPkt (by decide)
@[simp] theorem State.setRegulator_rx (s : State) (line : Bool) (x : PmbReq) : (s.setRegulator line x).rx = s.rx := State.setRegulator_keeps line x (List.Subset.refl _) (SameBut.refl _ s) .rx (by decide)
@[simp] theorem State.setRegulator_dsf (s : State) (line : Bool) (x : PmbReq) : (s.setRegulator line x).dsf = s.dsf := State.setRegulator_keeps line x (List.Subset.refl _) (SameBut.refl _ s) .dsf (by decide)
@[simp] theorem State.setRegulator_tmap (s : State) (line : Bool) (x : PmbReq) : (s.setRegulator line x).tmap = s.tmap := State.setRegulator_keeps line x (List.Subset.refl _) (SameBut.refl _ s) .tmap (by decide)
@[simp] theorem State.setRegulator_tribs (s : State) (line : Bool) (x : PmbReq) : (s.setRegulator line x).tribs = s.tribs := State.setRegulator_keeps line x (List.Subset.refl _) (SameBut.refl _ s) .tribs (by decide)
@[simp] theorem State.setRegulator_tfrags (s : State) (line : Bool) (x : PmbReq) : (s.setRegulator line x).tfrags = s.tfrags := State.setRegulator_keeps line x (List.Subset.refl _) (SameBut.refl _ s) .tfrags (by decide)
@[simp] theorem State.setRegulator_rows (s : State) (line : Bool) (x : PmbReq) : (s.setRegulator line x).rows = s.rows := State.setRegulator_keeps line x (List.Subset.refl _) (SameBut.refl _ s) .rows (by decide)
@[simp] theorem State.setRegulator_ttest (s : State) (line : Bool) (x : PmbReq) : (s.setRegulator line x).ttest = s.ttest := State.setRegulator_keeps line x (List.Subset.refl _) (SameBut.refl _ s) .ttest (by decide)
@[simp] theorem State.setRegulator_act (s : State) (line : Bool) (x : PmbReq) : (s.setRegulator line x).act = s.act := State.setRegulator_keeps line x (List.Subset.refl _) (SameBut.refl _ s) .act (by decide)
@[simp] theorem State.setRegulator_upb (s : State) (line : Bool) (x : PmbReq) : (s.setRegulator line x).upb = s.upb := State.setRegulator_keeps line x (List.Subset.refl _) (SameBut.refl _ s) .upb (by decide)
@[simp] theorem State.setRegulator_restarts (s : State) (line : Bool) (x : PmbReq) : (s.setRegulator line x).restarts = s.restarts := State.setRegulator_keeps line x (List.Subset.refl _) (SameBut.refl _ s) .restarts (by decide)
@[simp] theorem State.setRegulator_gsm (s : State) (line : Bool) (x : PmbReq) : (s.setRegulator line x).gsm = s.gsm := State.setRegulator_keeps line x (List.Subset.refl _) (SameBut.refl _ s) .gsm (by decide)
@[simp] theorem State.setRegulator_txEff (s : State) (line : Bool) (x : PmbReq) : (s.setRegulator line x).txEff = s.txEff := State.setRegulator_keeps line x (List.Subset.refl _) (SameBut.refl _ s) .txEff (by decide)
@[simp] theorem State.setRegulator_pairs (s : State) (line : Bool) (x : PmbReq) : (s.setRegulator line x).pairs = s.pairs := State.setRegulator_keeps line x (List.Subset.refl _) (SameBut.refl _ s) .pairs (by decide)
@[simp] theorem State.setRegulator_key (s : State) (line : Bool) (x : PmbReq) : (s.setRegulator line x).key = s.key := State.setRegulator_keeps line x (List.Subset.refl _) (SameBut.refl _ s) .key (by decide)
@[simp] theorem State.setRegulator_pipes (s : State) (line : Bool) (x : PmbReq) : (s.setRegulator line x).pipes = s.pipes := State.setRegulator_keeps line x (List.Subset.refl _) (SameBut.refl _ s) .pipes (by decide)
@[simp] theorem State.setRegulator_epochs (s : State) (line : Bool) (x : PmbReq) : (s.setRegulator line x).epochs = s.epochs := State.setRegulator_keeps line x (List.Subset.refl _) (SameBut.refl _ s) .epochs (by decide)
@[simp] theorem State.setRegulator_prog (s : State) (line : Bool) (x : PmbReq) : (s.setRegulator line x).prog = s.prog := State.setRegulator_keeps line x (List.Subset.refl _) (SameBut.refl _ s) .prog (by decide)
@[simp] theorem State.setRegulator_rcnt (s : State) (line : Bool) (x : PmbReq) : (s.setRegulator line x).rcnt = s.rcnt := State.setRegulator_keeps line x (List.Subset.refl _) (SameBut.refl _ s) .rcnt (by decide)
@[simp] theorem State.setRegulator_rcntHeld (s : State) (line : Bool) (x : PmbReq) : (s.setRegulator line x).rcntHeld = s.rcntHeld := State.setRegulator_keeps line x (List.Subset.refl _) (SameBut.refl _ s) .rcntHeld (by decide)
@[simp] theorem State.setRegulator_excWait (s : State) (line : Bool) (x : PmbReq) : (s.setRegulator line x).excWait = s.excWait := State.setRegulator_keeps line x (List.Subset.refl _) (SameBut.refl _ s) .excWait (by decide)
@[simp] theorem State.setRegulator_bufs (s : State) (line : Bool) (x : PmbReq) : (s.setRegulator line x).bufs = s.bufs := State.setRegulator_keeps line x (List.Subset.refl _) (SameBut.refl _ s) .bufs (by decide)
@[simp] theorem State.setRegulator_bufRot (s : State) (line : Bool) (x : PmbReq) : (s.setRegulator line x).bufRot = s.bufRot := State.setRegulator_keeps line x (List.Subset.refl _) (SameBut.refl _ s) .bufRot (by decide)
@[simp] theorem State.setRegulator_qmap (s : State) (line : Bool) (x : PmbReq) : (s.setRegulator line x).qmap = s.qmap := State.setRegulator_keeps line x (List.Subset.refl _) (SameBut.refl _ s) .qmap (by decide)
@[simp] theorem State.setRegulator_memch (s : State) (line : Bool) (x : PmbReq) : (s.setRegulator line x).memch = s.memch := State.setRegulator_keeps line x (List.Subset.refl _) (SameBut.refl _ s) .memch (by decide)
@[simp] theorem State.setRegulator_ecc (s : State) (line : Bool) (x : PmbReq) : (s.setRegulator line x).ecc = s.ecc := State.setRegulator_keeps line x (List.Subset.refl _) (SameBut.refl _ s) .ecc (by decide)
@[simp] theorem State.setRegulator_mxe (s : State) (line : Bool) (x : PmbReq) : (s.setRegulator line x).mxe = s.mxe := State.setRegulator_keeps line x (List.Subset.refl _) (SameBut.refl _ s) .mxe (by decide)
@[simp] theorem State.setRegulator_queues (s : State) (line : Bool) (x : PmbReq) : (s.setRegulator line x).queues = s.queues := State.setRegulator_keeps line x (List.Subset.refl _) (SameBut.refl _ s) .queues (by decide)
@[simp] theorem State.setRegulator_turns (s : State) (line : Bool) (x : PmbReq) : (s.setRegulator line x).turns = s.turns := State.setRegulator_keeps line x (List.Subset.refl _) (SameBut.refl _ s) .turns (by decide)
@[simp] theorem State.setRegulator_elig (s : State) (line : Bool) (x : PmbReq) : (s.setRegulator line x).elig = s.elig := State.setRegulator_keeps line x (List.Subset.refl _) (SameBut.refl _ s) .elig (by decide)
@[simp] theorem State.setRegulator_shapers (s : State) (line : Bool) (x : PmbReq) : (s.setRegulator line x).shapers = s.shapers := State.setRegulator_keeps line x (List.Subset.refl _) (SameBut.refl _ s) .shapers (by decide)
@[simp] theorem State.setRegulator_policers (s : State) (line : Bool) (x : PmbReq) : (s.setRegulator line x).policers = s.policers := State.setRegulator_keeps line x (List.Subset.refl _) (SameBut.refl _ s) .policers (by decide)
@[simp] theorem State.setRegulator_gates (s : State) (line : Bool) (x : PmbReq) : (s.setRegulator line x).gates = s.gates := State.setRegulator_keeps line x (List.Subset.refl _) (SameBut.refl _ s) .gates (by decide)
@[simp] theorem State.setRegulator_gateBusy (s : State) (line : Bool) (x : PmbReq) : (s.setRegulator line x).gateBusy = s.gateBusy := State.setRegulator_keeps line x (List.Subset.refl _) (SameBut.refl _ s) .gateBusy (by decide)
@[simp] theorem State.setRegulator_lanes (s : State) (line : Bool) (x : PmbReq) : (s.setRegulator line x).lanes = s.lanes := State.setRegulator_keeps line x (List.Subset.refl _) (SameBut.refl _ s) .lanes (by decide)
@[simp] theorem State.setRegulator_lports (s : State) (line : Bool) (x : PmbReq) : (s.setRegulator line x).lports = s.lports := State.setRegulator_keeps line x (List.Subset.refl _) (SameBut.refl _ s) .lports (by decide)
@[simp] theorem State.setRegulator_mdio (s : State) (line : Bool) (x : PmbReq) : (s.setRegulator line x).mdio = s.mdio := State.setRegulator_keeps line x (List.Subset.refl _) (SameBut.refl _ s) .mdio (by decide)
@[simp] theorem State.setRegulator_tim (s : State) (line : Bool) (x : PmbReq) : (s.setRegulator line x).tim = s.tim := State.setRegulator_keeps line x (List.Subset.refl _) (SameBut.refl _ s) .tim (by decide)
@[simp] theorem State.setRegulator_evt (s : State) (line : Bool) (x : PmbReq) : (s.setRegulator line x).evt = s.evt := State.setRegulator_keeps line x (List.Subset.refl _) (SameBut.refl _ s) .evt (by decide)
@[simp] theorem State.setRegulator_log (s : State) (line : Bool) (x : PmbReq) : (s.setRegulator line x).log = s.log := State.setRegulator_keeps line x (List.Subset.refl _) (SameBut.refl _ s) .log (by decide)
@[simp] theorem State.setRegulator_tsk (s : State) (line : Bool) (x : PmbReq) : (s.setRegulator line x).tsk = s.tsk := State.setRegulator_keeps line x (List.Subset.refl _) (SameBut.refl _ s) .tsk (by decide)
@[simp] theorem State.setRegulator_cpu (s : State) (line : Bool) (x : PmbReq) : (s.setRegulator line x).cpu = s.cpu := State.setRegulator_keeps line x (List.Subset.refl _) (SameBut.refl _ s) .cpu (by decide)
@[simp] theorem State.setRegulator_rst (s : State) (line : Bool) (x : PmbReq) : (s.setRegulator line x).rst = s.rst := State.setRegulator_keeps line x (List.Subset.refl _) (SameBut.refl _ s) .rst (by decide)
@[simp] theorem State.setRegulator_sys (s : State) (line : Bool) (x : PmbReq) : (s.setRegulator line x).sys = s.sys := State.setRegulator_keeps line x (List.Subset.refl _) (SameBut.refl _ s) .sys (by decide)
@[simp] theorem State.setRegulator_hif (s : State) (line : Bool) (x : PmbReq) : (s.setRegulator line x).hif = s.hif := State.setRegulator_keeps line x (List.Subset.refl _) (SameBut.refl _ s) .hif (by decide)
@[simp] theorem State.setRegulator_pins (s : State) (line : Bool) (x : PmbReq) : (s.setRegulator line x).pins = s.pins := State.setRegulator_keeps line x (List.Subset.refl _) (SameBut.refl _ s) .pins (by decide)
@[simp] theorem State.setRegulator_clock (s : State) (line : Bool) (x : PmbReq) : (s.setRegulator line x).clock = s.clock := State.setRegulator_keeps line x (List.Subset.refl _) (SameBut.refl _ s) .clock (by decide)
@[simp] theorem State.setRegulator_timers (s : State) (line : Bool) (x : PmbReq) : (s.setRegulator line x).timers = s.timers := State.setRegulator_keeps line x (List.Subset.refl _) (SameBut.refl _ s) .timers (by decide)
@[simp] theorem State.setRegulator_pending (s : State) (line : Bool) (x : PmbReq) : (s.setRegulator line x).pending = s.pending := State.setRegulator_keeps line x (List.Subset.refl _) (SameBut.refl _ s) .pending (by decide)
@[simp] theorem State.setRegulator_dark (s : State) (line : Bool) (x : PmbReq) : (s.setRegulator line x).dark = s.dark := State.setRegulator_keeps line x (List.Subset.refl _) (SameBut.refl _ s) .dark (by decide)
@[simp] theorem State.setRegulator_resp (s : State) (line : Bool) (x : PmbReq) : (s.setRegulator line x).resp = s.resp := State.setRegulator_keeps line x (List.Subset.refl _) (SameBut.refl _ s) .resp (by decide)
@[simp] theorem State.setRegulator_out (s : State) (line : Bool) (x : PmbReq) : (s.setRegulator line x).out = s.out := State.setRegulator_keeps line x (List.Subset.refl _) (SameBut.refl _ s) .out (by decide)
@[simp] theorem State.setRegulator_fresh (s : State) (line : Bool) (x : PmbReq) : (s.setRegulator line x).fresh = s.fresh := State.setRegulator_keeps line x (List.Subset.refl _) (SameBut.refl _ s) .fresh (by decide)
@[simp] theorem State.setRegulator_rd (s : State) (line : Bool) (x : PmbReq) (k : Nat) : (s.setRegulator line x).rd k = s.rd k := State.rd_of_regs (State.setRegulator_regs s line x) k
@[simp] theorem State.setRegulator_fld (s : State) (line : Bool) (x : PmbReq) (g_ : Fld) : (s.setRegulator line x).fld g_ = s.fld g_ := State.fld_of_regs (State.setRegulator_regs s line x) g_
@[simp] theorem State.setRegulator_bit (s : State) (line : Bool) (x : PmbReq) (g_ : Fld) : (s.setRegulator line x).bit g_ = s.bit g_ := State.bit_of_regs (State.setRegulator_regs s line x) g_
@[simp] theorem State.setRegulator_running (s : State) (line : Bool) (x : PmbReq) (g_ : Nat) : (s.setRegulator line x).running g_ = s.running g_ := State.running_of_timers (State.setRegulator_timers s line x) g_

/-! `State.setHif` -/

@[simp] theorem State.setHif_regs (s : State) (f : Hif → Hif) : (s.setHif f).regs = s.regs := (rfl)
@[simp] theorem State.setHif_shown (s : State) (f : Hif → Hif) : (s.setHif f).shown = s.shown := (rfl)
@[simp] theorem State.setHif_mirror (s : State) (f : Hif → Hif) : (s.setHif f).mirror = s.mirror := (rfl)
@[simp] theorem State.setHif_mem (s : State) (f : Hif → Hif) : (s.setHif f).mem = s.mem := (rfl)
@[simp] theorem State.setHif_seam (s : State) (f : Hif → Hif) : (s.setHif f).seam = s.seam := (rfl)
@[simp] theorem State.setHif_cmt (s : State) (f : Hif → Hif) : (s.setHif f).cmt = s.cmt := (rfl)
@[simp] theorem State.setHif_own (s : State) (f : Hif → Hif) : (s.setHif f).own = s.own := (rfl)
@[simp] theorem State.setHif_nextPkt (s : State) (f : Hif → Hif) : (s.setHif f).nextPkt = s.nextPkt := (rfl)
@[simp] theorem State.setHif_rx (s : State) (f : Hif → Hif) : (s.setHif f).rx = s.rx := (rfl)
@[simp] theorem State.setHif_dsf (s : State) (f : Hif → Hif) : (s.setHif f).dsf = s.dsf := (rfl)
@[simp] theorem State.setHif_tmap (s : State) (f : Hif → Hif) : (s.setHif f).tmap = s.tmap := (rfl)
@[simp] theorem State.setHif_tribs (s : State) (f : Hif → Hif) : (s.setHif f).tribs = s.tribs := (rfl)
@[simp] theorem State.setHif_tfrags (s : State) (f : Hif → Hif) : (s.setHif f).tfrags = s.tfrags := (rfl)
@[simp] theorem State.setHif_rows (s : State) (f : Hif → Hif) : (s.setHif f).rows = s.rows := (rfl)
@[simp] theorem State.setHif_ttest (s : State) (f : Hif → Hif) : (s.setHif f).ttest = s.ttest := (rfl)
@[simp] theorem State.setHif_act (s : State) (f : Hif → Hif) : (s.setHif f).act = s.act := (rfl)
@[simp] theorem State.setHif_upb (s : State) (f : Hif → Hif) : (s.setHif f).upb = s.upb := (rfl)
@[simp] theorem State.setHif_restarts (s : State) (f : Hif → Hif) : (s.setHif f).restarts = s.restarts := (rfl)
@[simp] theorem State.setHif_gsm (s : State) (f : Hif → Hif) : (s.setHif f).gsm = s.gsm := (rfl)
@[simp] theorem State.setHif_txEff (s : State) (f : Hif → Hif) : (s.setHif f).txEff = s.txEff := (rfl)
@[simp] theorem State.setHif_pairs (s : State) (f : Hif → Hif) : (s.setHif f).pairs = s.pairs := (rfl)
@[simp] theorem State.setHif_key (s : State) (f : Hif → Hif) : (s.setHif f).key = s.key := (rfl)
@[simp] theorem State.setHif_pipes (s : State) (f : Hif → Hif) : (s.setHif f).pipes = s.pipes := (rfl)
@[simp] theorem State.setHif_epochs (s : State) (f : Hif → Hif) : (s.setHif f).epochs = s.epochs := (rfl)
@[simp] theorem State.setHif_prog (s : State) (f : Hif → Hif) : (s.setHif f).prog = s.prog := (rfl)
@[simp] theorem State.setHif_rcnt (s : State) (f : Hif → Hif) : (s.setHif f).rcnt = s.rcnt := (rfl)
@[simp] theorem State.setHif_rcntHeld (s : State) (f : Hif → Hif) : (s.setHif f).rcntHeld = s.rcntHeld := (rfl)
@[simp] theorem State.setHif_excWait (s : State) (f : Hif → Hif) : (s.setHif f).excWait = s.excWait := (rfl)
@[simp] theorem State.setHif_bufs (s : State) (f : Hif → Hif) : (s.setHif f).bufs = s.bufs := (rfl)
@[simp] theorem State.setHif_bufRot (s : State) (f : Hif → Hif) : (s.setHif f).bufRot = s.bufRot := (rfl)
@[simp] theorem State.setHif_qmap (s : State) (f : Hif → Hif) : (s.setHif f).qmap = s.qmap := (rfl)
@[simp] theorem State.setHif_memch (s : State) (f : Hif → Hif) : (s.setHif f).memch = s.memch := (rfl)
@[simp] theorem State.setHif_ecc (s : State) (f : Hif → Hif) : (s.setHif f).ecc = s.ecc := (rfl)
@[simp] theorem State.setHif_mxe (s : State) (f : Hif → Hif) : (s.setHif f).mxe = s.mxe := (rfl)
@[simp] theorem State.setHif_queues (s : State) (f : Hif → Hif) : (s.setHif f).queues = s.queues := (rfl)
@[simp] theorem State.setHif_turns (s : State) (f : Hif → Hif) : (s.setHif f).turns = s.turns := (rfl)
@[simp] theorem State.setHif_elig (s : State) (f : Hif → Hif) : (s.setHif f).elig = s.elig := (rfl)
@[simp] theorem State.setHif_shapers (s : State) (f : Hif → Hif) : (s.setHif f).shapers = s.shapers := (rfl)
@[simp] theorem State.setHif_policers (s : State) (f : Hif → Hif) : (s.setHif f).policers = s.policers := (rfl)
@[simp] theorem State.setHif_gates (s : State) (f : Hif → Hif) : (s.setHif f).gates = s.gates := (rfl)
@[simp] theorem State.setHif_gateBusy (s : State) (f : Hif → Hif) : (s.setHif f).gateBusy = s.gateBusy := (rfl)
@[simp] theorem State.setHif_lanes (s : State) (f : Hif → Hif) : (s.setHif f).lanes = s.lanes := (rfl)
@[simp] theorem State.setHif_lports (s : State) (f : Hif → Hif) : (s.setHif f).lports = s.lports := (rfl)
@[simp] theorem State.setHif_mdio (s : State) (f : Hif → Hif) : (s.setHif f).mdio = s.mdio := (rfl)
@[simp] theorem State.setHif_tim (s : State) (f : Hif → Hif) : (s.setHif f).tim = s.tim := (rfl)
@[simp] theorem State.setHif_evt (s : State) (f : Hif → Hif) : (s.setHif f).evt = s.evt := (rfl)
@[simp] theorem State.setHif_log (s : State) (f : Hif → Hif) : (s.setHif f).log = s.log := (rfl)
@[simp] theorem State.setHif_tsk (s : State) (f : Hif → Hif) : (s.setHif f).tsk = s.tsk := (rfl)
@[simp] theorem State.setHif_cpu (s : State) (f : Hif → Hif) : (s.setHif f).cpu = s.cpu := (rfl)
@[simp] theorem State.setHif_pwr (s : State) (f : Hif → Hif) : (s.setHif f).pwr = s.pwr := (rfl)
@[simp] theorem State.setHif_rst (s : State) (f : Hif → Hif) : (s.setHif f).rst = s.rst := (rfl)
@[simp] theorem State.setHif_sys (s : State) (f : Hif → Hif) : (s.setHif f).sys = s.sys := (rfl)
@[simp] theorem State.setHif_pins (s : State) (f : Hif → Hif) : (s.setHif f).pins = s.pins := (rfl)
@[simp] theorem State.setHif_clock (s : State) (f : Hif → Hif) : (s.setHif f).clock = s.clock := (rfl)
@[simp] theorem State.setHif_timers (s : State) (f : Hif → Hif) : (s.setHif f).timers = s.timers := (rfl)
@[simp] theorem State.setHif_pending (s : State) (f : Hif → Hif) : (s.setHif f).pending = s.pending := (rfl)
@[simp] theorem State.setHif_dark (s : State) (f : Hif → Hif) : (s.setHif f).dark = s.dark := (rfl)
@[simp] theorem State.setHif_resp (s : State) (f : Hif → Hif) : (s.setHif f).resp = s.resp := (rfl)
@[simp] theorem State.setHif_out (s : State) (f : Hif → Hif) : (s.setHif f).out = s.out := (rfl)
@[simp] theorem State.setHif_fresh (s : State) (f : Hif → Hif) : (s.setHif f).fresh = s.fresh := (rfl)
@[simp] theorem State.setHif_rd (s : State) (f : Hif → Hif) (k : Nat) : (s.setHif f).rd k = s.rd k := State.rd_of_regs (State.setHif_regs s f) k
@[simp] theorem State.setHif_fld (s : State) (f : Hif → Hif) (g_ : Fld) : (s.setHif f).fld g_ = s.fld g_ := State.fld_of_regs (State.setHif_regs s f) g_
@[simp] theorem State.setHif_bit (s : State) (f : Hif → Hif) (g_ : Fld) : (s.setHif f).bit g_ = s.bit g_ := State.bit_of_regs (State.setHif_regs s f) g_
@[simp] theorem State.setHif_running (s : State) (f : Hif → Hif) (g_ : Nat) : (s.setHif f).running g_ = s.running g_ := State.running_of_timers (State.setHif_timers s f) g_
@[simp] theorem State.setHif_domOn (s : State) (f : Hif → Hif) (g_ : Nat) : (s.setHif f).domOn g_ = s.domOn g_ := State.domOn_of_pwr (State.setHif_pwr s f) g_

/-! `State.setSeam` -/

@[simp] theorem State.setSeam_regs (s : State) (f : Seam → Seam) : (s.setSeam f).regs = s.regs := (rfl)
@[simp] theorem State.setSeam_shown (s : State) (f : Seam → Seam) : (s.setSeam f).shown = s.shown := (rfl)
@[simp] theorem State.setSeam_mirror (s : State) (f : Seam → Seam) : (s.setSeam f).mirror = s.mirror := (rfl)
@[simp] theorem State.setSeam_mem (s : State) (f : Seam → Seam) : (s.setSeam f).mem = s.mem := (rfl)
@[simp] theorem State.setSeam_cmt (s : State) (f : Seam → Seam) : (s.setSeam f).cmt = s.cmt := (rfl)
@[simp] theorem State.setSeam_own (s : State) (f : Seam → Seam) : (s.setSeam f).own = s.own := (rfl)
@[simp] theorem State.setSeam_nextPkt (s : State) (f : Seam → Seam) : (s.setSeam f).nextPkt = s.nextPkt := (rfl)
@[simp] theorem State.setSeam_rx (s : State) (f : Seam → Seam) : (s.setSeam f).rx = s.rx := (rfl)
@[simp] theorem State.setSeam_dsf (s : State) (f : Seam → Seam) : (s.setSeam f).dsf = s.dsf := (rfl)
@[simp] theorem State.setSeam_tmap (s : State) (f : Seam → Seam) : (s.setSeam f).tmap = s.tmap := (rfl)
@[simp] theorem State.setSeam_tribs (s : State) (f : Seam → Seam) : (s.setSeam f).tribs = s.tribs := (rfl)
@[simp] theorem State.setSeam_tfrags (s : State) (f : Seam → Seam) : (s.setSeam f).tfrags = s.tfrags := (rfl)
@[simp] theorem State.setSeam_rows (s : State) (f : Seam → Seam) : (s.setSeam f).rows = s.rows := (rfl)
@[simp] theorem State.setSeam_ttest (s : State) (f : Seam → Seam) : (s.setSeam f).ttest = s.ttest := (rfl)
@[simp] theorem State.setSeam_act (s : State) (f : Seam → Seam) : (s.setSeam f).act = s.act := (rfl)
@[simp] theorem State.setSeam_upb (s : State) (f : Seam → Seam) : (s.setSeam f).upb = s.upb := (rfl)
@[simp] theorem State.setSeam_restarts (s : State) (f : Seam → Seam) : (s.setSeam f).restarts = s.restarts := (rfl)
@[simp] theorem State.setSeam_gsm (s : State) (f : Seam → Seam) : (s.setSeam f).gsm = s.gsm := (rfl)
@[simp] theorem State.setSeam_txEff (s : State) (f : Seam → Seam) : (s.setSeam f).txEff = s.txEff := (rfl)
@[simp] theorem State.setSeam_pairs (s : State) (f : Seam → Seam) : (s.setSeam f).pairs = s.pairs := (rfl)
@[simp] theorem State.setSeam_key (s : State) (f : Seam → Seam) : (s.setSeam f).key = s.key := (rfl)
@[simp] theorem State.setSeam_pipes (s : State) (f : Seam → Seam) : (s.setSeam f).pipes = s.pipes := (rfl)
@[simp] theorem State.setSeam_epochs (s : State) (f : Seam → Seam) : (s.setSeam f).epochs = s.epochs := (rfl)
@[simp] theorem State.setSeam_prog (s : State) (f : Seam → Seam) : (s.setSeam f).prog = s.prog := (rfl)
@[simp] theorem State.setSeam_rcnt (s : State) (f : Seam → Seam) : (s.setSeam f).rcnt = s.rcnt := (rfl)
@[simp] theorem State.setSeam_rcntHeld (s : State) (f : Seam → Seam) : (s.setSeam f).rcntHeld = s.rcntHeld := (rfl)
@[simp] theorem State.setSeam_excWait (s : State) (f : Seam → Seam) : (s.setSeam f).excWait = s.excWait := (rfl)
@[simp] theorem State.setSeam_bufs (s : State) (f : Seam → Seam) : (s.setSeam f).bufs = s.bufs := (rfl)
@[simp] theorem State.setSeam_bufRot (s : State) (f : Seam → Seam) : (s.setSeam f).bufRot = s.bufRot := (rfl)
@[simp] theorem State.setSeam_qmap (s : State) (f : Seam → Seam) : (s.setSeam f).qmap = s.qmap := (rfl)
@[simp] theorem State.setSeam_memch (s : State) (f : Seam → Seam) : (s.setSeam f).memch = s.memch := (rfl)
@[simp] theorem State.setSeam_ecc (s : State) (f : Seam → Seam) : (s.setSeam f).ecc = s.ecc := (rfl)
@[simp] theorem State.setSeam_mxe (s : State) (f : Seam → Seam) : (s.setSeam f).mxe = s.mxe := (rfl)
@[simp] theorem State.setSeam_queues (s : State) (f : Seam → Seam) : (s.setSeam f).queues = s.queues := (rfl)
@[simp] theorem State.setSeam_turns (s : State) (f : Seam → Seam) : (s.setSeam f).turns = s.turns := (rfl)
@[simp] theorem State.setSeam_elig (s : State) (f : Seam → Seam) : (s.setSeam f).elig = s.elig := (rfl)
@[simp] theorem State.setSeam_shapers (s : State) (f : Seam → Seam) : (s.setSeam f).shapers = s.shapers := (rfl)
@[simp] theorem State.setSeam_policers (s : State) (f : Seam → Seam) : (s.setSeam f).policers = s.policers := (rfl)
@[simp] theorem State.setSeam_gates (s : State) (f : Seam → Seam) : (s.setSeam f).gates = s.gates := (rfl)
@[simp] theorem State.setSeam_gateBusy (s : State) (f : Seam → Seam) : (s.setSeam f).gateBusy = s.gateBusy := (rfl)
@[simp] theorem State.setSeam_lanes (s : State) (f : Seam → Seam) : (s.setSeam f).lanes = s.lanes := (rfl)
@[simp] theorem State.setSeam_lports (s : State) (f : Seam → Seam) : (s.setSeam f).lports = s.lports := (rfl)
@[simp] theorem State.setSeam_mdio (s : State) (f : Seam → Seam) : (s.setSeam f).mdio = s.mdio := (rfl)
@[simp] theorem State.setSeam_tim (s : State) (f : Seam → Seam) : (s.setSeam f).tim = s.tim := (rfl)
@[simp] theorem State.setSeam_evt (s : State) (f : Seam → Seam) : (s.setSeam f).evt = s.evt := (rfl)
@[simp] theorem State.setSeam_log (s : State) (f : Seam → Seam) : (s.setSeam f).log = s.log := (rfl)
@[simp] theorem State.setSeam_tsk (s : State) (f : Seam → Seam) : (s.setSeam f).tsk = s.tsk := (rfl)
@[simp] theorem State.setSeam_cpu (s : State) (f : Seam → Seam) : (s.setSeam f).cpu = s.cpu := (rfl)
@[simp] theorem State.setSeam_pwr (s : State) (f : Seam → Seam) : (s.setSeam f).pwr = s.pwr := (rfl)
@[simp] theorem State.setSeam_rst (s : State) (f : Seam → Seam) : (s.setSeam f).rst = s.rst := (rfl)
@[simp] theorem State.setSeam_sys (s : State) (f : Seam → Seam) : (s.setSeam f).sys = s.sys := (rfl)
@[simp] theorem State.setSeam_hif (s : State) (f : Seam → Seam) : (s.setSeam f).hif = s.hif := (rfl)
@[simp] theorem State.setSeam_pins (s : State) (f : Seam → Seam) : (s.setSeam f).pins = s.pins := (rfl)
@[simp] theorem State.setSeam_clock (s : State) (f : Seam → Seam) : (s.setSeam f).clock = s.clock := (rfl)
@[simp] theorem State.setSeam_timers (s : State) (f : Seam → Seam) : (s.setSeam f).timers = s.timers := (rfl)
@[simp] theorem State.setSeam_pending (s : State) (f : Seam → Seam) : (s.setSeam f).pending = s.pending := (rfl)
@[simp] theorem State.setSeam_dark (s : State) (f : Seam → Seam) : (s.setSeam f).dark = s.dark := (rfl)
@[simp] theorem State.setSeam_resp (s : State) (f : Seam → Seam) : (s.setSeam f).resp = s.resp := (rfl)
@[simp] theorem State.setSeam_out (s : State) (f : Seam → Seam) : (s.setSeam f).out = s.out := (rfl)
@[simp] theorem State.setSeam_fresh (s : State) (f : Seam → Seam) : (s.setSeam f).fresh = s.fresh := (rfl)
@[simp] theorem State.setSeam_rd (s : State) (f : Seam → Seam) (k : Nat) : (s.setSeam f).rd k = s.rd k := State.rd_of_regs (State.setSeam_regs s f) k
@[simp] theorem State.setSeam_fld (s : State) (f : Seam → Seam) (g_ : Fld) : (s.setSeam f).fld g_ = s.fld g_ := State.fld_of_regs (State.setSeam_regs s f) g_
@[simp] theorem State.setSeam_bit (s : State) (f : Seam → Seam) (g_ : Fld) : (s.setSeam f).bit g_ = s.bit g_ := State.bit_of_regs (State.setSeam_regs s f) g_
@[simp] theorem State.setSeam_running (s : State) (f : Seam → Seam) (g_ : Nat) : (s.setSeam f).running g_ = s.running g_ := State.running_of_timers (State.setSeam_timers s f) g_
@[simp] theorem State.setSeam_domOn (s : State) (f : Seam → Seam) (g_ : Nat) : (s.setSeam f).domOn g_ = s.domOn g_ := State.domOn_of_pwr (State.setSeam_pwr s f) g_

/-! `State.storeBytes` -/

@[simp] theorem State.storeBytes_regs (s : State) (a : Nat) (bs : List Byte) : (s.storeBytes a bs).regs = s.regs := State.storeBytes_keeps a bs (List.Subset.refl _) (SameBut.refl _ s) .regs (by decide)
@[simp] theorem State.storeBytes_shown (s : State) (a : Nat) (bs : List Byte) : (s.storeBytes a bs).shown = s.shown := State.storeBytes_keeps a bs (List.Subset.refl _) (SameBut.refl _ s) .shown (by decide)
@[simp] theorem State.storeBytes_mirror (s : State) (a : Nat) (bs : List Byte) : (s.storeBytes a bs).mirror = s.mirror := State.storeBytes_keeps a bs (List.Subset.refl _) (SameBut.refl _ s) .mirror (by decide)
@[simp] theorem State.storeBytes_seam (s : State) (a : Nat) (bs : List Byte) : (s.storeBytes a bs).seam = s.seam := State.storeBytes_keeps a bs (List.Subset.refl _) (SameBut.refl _ s) .seam (by decide)
@[simp] theorem State.storeBytes_cmt (s : State) (a : Nat) (bs : List Byte) : (s.storeBytes a bs).cmt = s.cmt := State.storeBytes_keeps a bs (List.Subset.refl _) (SameBut.refl _ s) .cmt (by decide)
@[simp] theorem State.storeBytes_own (s : State) (a : Nat) (bs : List Byte) : (s.storeBytes a bs).own = s.own := State.storeBytes_keeps a bs (List.Subset.refl _) (SameBut.refl _ s) .own (by decide)
@[simp] theorem State.storeBytes_nextPkt (s : State) (a : Nat) (bs : List Byte) : (s.storeBytes a bs).nextPkt = s.nextPkt := State.storeBytes_keeps a bs (List.Subset.refl _) (SameBut.refl _ s) .nextPkt (by decide)
@[simp] theorem State.storeBytes_rx (s : State) (a : Nat) (bs : List Byte) : (s.storeBytes a bs).rx = s.rx := State.storeBytes_keeps a bs (List.Subset.refl _) (SameBut.refl _ s) .rx (by decide)
@[simp] theorem State.storeBytes_dsf (s : State) (a : Nat) (bs : List Byte) : (s.storeBytes a bs).dsf = s.dsf := State.storeBytes_keeps a bs (List.Subset.refl _) (SameBut.refl _ s) .dsf (by decide)
@[simp] theorem State.storeBytes_tmap (s : State) (a : Nat) (bs : List Byte) : (s.storeBytes a bs).tmap = s.tmap := State.storeBytes_keeps a bs (List.Subset.refl _) (SameBut.refl _ s) .tmap (by decide)
@[simp] theorem State.storeBytes_tribs (s : State) (a : Nat) (bs : List Byte) : (s.storeBytes a bs).tribs = s.tribs := State.storeBytes_keeps a bs (List.Subset.refl _) (SameBut.refl _ s) .tribs (by decide)
@[simp] theorem State.storeBytes_tfrags (s : State) (a : Nat) (bs : List Byte) : (s.storeBytes a bs).tfrags = s.tfrags := State.storeBytes_keeps a bs (List.Subset.refl _) (SameBut.refl _ s) .tfrags (by decide)
@[simp] theorem State.storeBytes_rows (s : State) (a : Nat) (bs : List Byte) : (s.storeBytes a bs).rows = s.rows := State.storeBytes_keeps a bs (List.Subset.refl _) (SameBut.refl _ s) .rows (by decide)
@[simp] theorem State.storeBytes_ttest (s : State) (a : Nat) (bs : List Byte) : (s.storeBytes a bs).ttest = s.ttest := State.storeBytes_keeps a bs (List.Subset.refl _) (SameBut.refl _ s) .ttest (by decide)
@[simp] theorem State.storeBytes_act (s : State) (a : Nat) (bs : List Byte) : (s.storeBytes a bs).act = s.act := State.storeBytes_keeps a bs (List.Subset.refl _) (SameBut.refl _ s) .act (by decide)
@[simp] theorem State.storeBytes_upb (s : State) (a : Nat) (bs : List Byte) : (s.storeBytes a bs).upb = s.upb := State.storeBytes_keeps a bs (List.Subset.refl _) (SameBut.refl _ s) .upb (by decide)
@[simp] theorem State.storeBytes_restarts (s : State) (a : Nat) (bs : List Byte) : (s.storeBytes a bs).restarts = s.restarts := State.storeBytes_keeps a bs (List.Subset.refl _) (SameBut.refl _ s) .restarts (by decide)
@[simp] theorem State.storeBytes_gsm (s : State) (a : Nat) (bs : List Byte) : (s.storeBytes a bs).gsm = s.gsm := State.storeBytes_keeps a bs (List.Subset.refl _) (SameBut.refl _ s) .gsm (by decide)
@[simp] theorem State.storeBytes_txEff (s : State) (a : Nat) (bs : List Byte) : (s.storeBytes a bs).txEff = s.txEff := State.storeBytes_keeps a bs (List.Subset.refl _) (SameBut.refl _ s) .txEff (by decide)
@[simp] theorem State.storeBytes_pairs (s : State) (a : Nat) (bs : List Byte) : (s.storeBytes a bs).pairs = s.pairs := State.storeBytes_keeps a bs (List.Subset.refl _) (SameBut.refl _ s) .pairs (by decide)
@[simp] theorem State.storeBytes_key (s : State) (a : Nat) (bs : List Byte) : (s.storeBytes a bs).key = s.key := State.storeBytes_keeps a bs (List.Subset.refl _) (SameBut.refl _ s) .key (by decide)
@[simp] theorem State.storeBytes_dark (s : State) (a : Nat) (bs : List Byte) : (s.storeBytes a bs).dark = s.dark := State.storeBytes_keeps a bs (List.Subset.refl _) (SameBut.refl _ s) .dark (by decide)
@[simp] theorem State.storeBytes_pipes (s : State) (a : Nat) (bs : List Byte) : (s.storeBytes a bs).pipes = s.pipes := State.storeBytes_keeps a bs (List.Subset.refl _) (SameBut.refl _ s) .pipes (by decide)
@[simp] theorem State.storeBytes_epochs (s : State) (a : Nat) (bs : List Byte) : (s.storeBytes a bs).epochs = s.epochs := State.storeBytes_keeps a bs (List.Subset.refl _) (SameBut.refl _ s) .epochs (by decide)
@[simp] theorem State.storeBytes_prog (s : State) (a : Nat) (bs : List Byte) : (s.storeBytes a bs).prog = s.prog := State.storeBytes_keeps a bs (List.Subset.refl _) (SameBut.refl _ s) .prog (by decide)
@[simp] theorem State.storeBytes_rcnt (s : State) (a : Nat) (bs : List Byte) : (s.storeBytes a bs).rcnt = s.rcnt := State.storeBytes_keeps a bs (List.Subset.refl _) (SameBut.refl _ s) .rcnt (by decide)
@[simp] theorem State.storeBytes_rcntHeld (s : State) (a : Nat) (bs : List Byte) : (s.storeBytes a bs).rcntHeld = s.rcntHeld := State.storeBytes_keeps a bs (List.Subset.refl _) (SameBut.refl _ s) .rcntHeld (by decide)
@[simp] theorem State.storeBytes_excWait (s : State) (a : Nat) (bs : List Byte) : (s.storeBytes a bs).excWait = s.excWait := State.storeBytes_keeps a bs (List.Subset.refl _) (SameBut.refl _ s) .excWait (by decide)
@[simp] theorem State.storeBytes_bufs (s : State) (a : Nat) (bs : List Byte) : (s.storeBytes a bs).bufs = s.bufs := State.storeBytes_keeps a bs (List.Subset.refl _) (SameBut.refl _ s) .bufs (by decide)
@[simp] theorem State.storeBytes_bufRot (s : State) (a : Nat) (bs : List Byte) : (s.storeBytes a bs).bufRot = s.bufRot := State.storeBytes_keeps a bs (List.Subset.refl _) (SameBut.refl _ s) .bufRot (by decide)
@[simp] theorem State.storeBytes_qmap (s : State) (a : Nat) (bs : List Byte) : (s.storeBytes a bs).qmap = s.qmap := State.storeBytes_keeps a bs (List.Subset.refl _) (SameBut.refl _ s) .qmap (by decide)
@[simp] theorem State.storeBytes_memch (s : State) (a : Nat) (bs : List Byte) : (s.storeBytes a bs).memch = s.memch := State.storeBytes_keeps a bs (List.Subset.refl _) (SameBut.refl _ s) .memch (by decide)
@[simp] theorem State.storeBytes_mxe (s : State) (a : Nat) (bs : List Byte) : (s.storeBytes a bs).mxe = s.mxe := State.storeBytes_keeps a bs (List.Subset.refl _) (SameBut.refl _ s) .mxe (by decide)
@[simp] theorem State.storeBytes_queues (s : State) (a : Nat) (bs : List Byte) : (s.storeBytes a bs).queues = s.queues := State.storeBytes_keeps a bs (List.Subset.refl _) (SameBut.refl _ s) .queues (by decide)
@[simp] theorem State.storeBytes_turns (s : State) (a : Nat) (bs : List Byte) : (s.storeBytes a bs).turns = s.turns := State.storeBytes_keeps a bs (List.Subset.refl _) (SameBut.refl _ s) .turns (by decide)
@[simp] theorem State.storeBytes_elig (s : State) (a : Nat) (bs : List Byte) : (s.storeBytes a bs).elig = s.elig := State.storeBytes_keeps a bs (List.Subset.refl _) (SameBut.refl _ s) .elig (by decide)
@[simp] theorem State.storeBytes_shapers (s : State) (a : Nat) (bs : List Byte) : (s.storeBytes a bs).shapers = s.shapers := State.storeBytes_keeps a bs (List.Subset.refl _) (SameBut.refl _ s) .shapers (by decide)
@[simp] theorem State.storeBytes_policers (s : State) (a : Nat) (bs : List Byte) : (s.storeBytes a bs).policers = s.policers := State.storeBytes_keeps a bs (List.Subset.refl _) (SameBut.refl _ s) .policers (by decide)
@[simp] theorem State.storeBytes_gates (s : State) (a : Nat) (bs : List Byte) : (s.storeBytes a bs).gates = s.gates := State.storeBytes_keeps a bs (List.Subset.refl _) (SameBut.refl _ s) .gates (by decide)
@[simp] theorem State.storeBytes_gateBusy (s : State) (a : Nat) (bs : List Byte) : (s.storeBytes a bs).gateBusy = s.gateBusy := State.storeBytes_keeps a bs (List.Subset.refl _) (SameBut.refl _ s) .gateBusy (by decide)
@[simp] theorem State.storeBytes_lanes (s : State) (a : Nat) (bs : List Byte) : (s.storeBytes a bs).lanes = s.lanes := State.storeBytes_keeps a bs (List.Subset.refl _) (SameBut.refl _ s) .lanes (by decide)
@[simp] theorem State.storeBytes_lports (s : State) (a : Nat) (bs : List Byte) : (s.storeBytes a bs).lports = s.lports := State.storeBytes_keeps a bs (List.Subset.refl _) (SameBut.refl _ s) .lports (by decide)
@[simp] theorem State.storeBytes_mdio (s : State) (a : Nat) (bs : List Byte) : (s.storeBytes a bs).mdio = s.mdio := State.storeBytes_keeps a bs (List.Subset.refl _) (SameBut.refl _ s) .mdio (by decide)
@[simp] theorem State.storeBytes_tim (s : State) (a : Nat) (bs : List Byte) : (s.storeBytes a bs).tim = s.tim := State.storeBytes_keeps a bs (List.Subset.refl _) (SameBut.refl _ s) .tim (by decide)
@[simp] theorem State.storeBytes_evt (s : State) (a : Nat) (bs : List Byte) : (s.storeBytes a bs).evt = s.evt := State.storeBytes_keeps a bs (List.Subset.refl _) (SameBut.refl _ s) .evt (by decide)
@[simp] theorem State.storeBytes_log (s : State) (a : Nat) (bs : List Byte) : (s.storeBytes a bs).log = s.log := State.storeBytes_keeps a bs (List.Subset.refl _) (SameBut.refl _ s) .log (by decide)
@[simp] theorem State.storeBytes_tsk (s : State) (a : Nat) (bs : List Byte) : (s.storeBytes a bs).tsk = s.tsk := State.storeBytes_keeps a bs (List.Subset.refl _) (SameBut.refl _ s) .tsk (by decide)
@[simp] theorem State.storeBytes_cpu (s : State) (a : Nat) (bs : List Byte) : (s.storeBytes a bs).cpu = s.cpu := State.storeBytes_keeps a bs (List.Subset.refl _) (SameBut.refl _ s) .cpu (by decide)
@[simp] theorem State.storeBytes_pwr (s : State) (a : Nat) (bs : List Byte) : (s.storeBytes a bs).pwr = s.pwr := State.storeBytes_keeps a bs (List.Subset.refl _) (SameBut.refl _ s) .pwr (by decide)
@[simp] theorem State.storeBytes_rst (s : State) (a : Nat) (bs : List Byte) : (s.storeBytes a bs).rst = s.rst := State.storeBytes_keeps a bs (List.Subset.refl _) (SameBut.refl _ s) .rst (by decide)
@[simp] theorem State.storeBytes_sys (s : State) (a : Nat) (bs : List Byte) : (s.storeBytes a bs).sys = s.sys := State.storeBytes_keeps a bs (List.Subset.refl _) (SameBut.refl _ s) .sys (by decide)
@[simp] theorem State.storeBytes_hif (s : State) (a : Nat) (bs : List Byte) : (s.storeBytes a bs).hif = s.hif := State.storeBytes_keeps a bs (List.Subset.refl _) (SameBut.refl _ s) .hif (by decide)
@[simp] theorem State.storeBytes_pins (s : State) (a : Nat) (bs : List Byte) : (s.storeBytes a bs).pins = s.pins := State.storeBytes_keeps a bs (List.Subset.refl _) (SameBut.refl _ s) .pins (by decide)
@[simp] theorem State.storeBytes_clock (s : State) (a : Nat) (bs : List Byte) : (s.storeBytes a bs).clock = s.clock := State.storeBytes_keeps a bs (List.Subset.refl _) (SameBut.refl _ s) .clock (by decide)
@[simp] theorem State.storeBytes_timers (s : State) (a : Nat) (bs : List Byte) : (s.storeBytes a bs).timers = s.timers := State.storeBytes_keeps a bs (List.Subset.refl _) (SameBut.refl _ s) .timers (by decide)
@[simp] theorem State.storeBytes_pending (s : State) (a : Nat) (bs : List Byte) : (s.storeBytes a bs).pending = s.pending := State.storeBytes_keeps a bs (List.Subset.refl _) (SameBut.refl _ s) .pending (by decide)
@[simp] theorem State.storeBytes_resp (s : State) (a : Nat) (bs : List Byte) : (s.storeBytes a bs).resp = s.resp := State.storeBytes_keeps a bs (List.Subset.refl _) (SameBut.refl _ s) .resp (by decide)
@[simp] theorem State.storeBytes_fresh (s : State) (a : Nat) (bs : List Byte) : (s.storeBytes a bs).fresh = s.fresh := State.storeBytes_keeps a bs (List.Subset.refl _) (SameBut.refl _ s) .fresh (by decide)
@[simp] theorem State.storeBytes_rd (s : State) (a : Nat) (bs : List Byte) (g_ : Nat) : (s.storeBytes a bs).rd g_ = s.rd g_ := State.rd_of_regs (State.storeBytes_regs s a bs) g_
@[simp] theorem State.storeBytes_fld (s : State) (a : Nat) (bs : List Byte) (g_ : Fld) : (s.storeBytes a bs).fld g_ = s.fld g_ := State.fld_of_regs (State.storeBytes_regs s a bs) g_
@[simp] theorem State.storeBytes_bit (s : State) (a : Nat) (bs : List Byte) (g_ : Fld) : (s.storeBytes a bs).bit g_ = s.bit g_ := State.bit_of_regs (State.storeBytes_regs s a bs) g_
@[simp] theorem State.storeBytes_running (s : State) (a : Nat) (bs : List Byte) (g_ : Nat) : (s.storeBytes a bs).running g_ = s.running g_ := State.running_of_timers (State.storeBytes_timers s a bs) g_
@[simp] theorem State.storeBytes_domOn (s : State) (a : Nat) (bs : List Byte) (g_ : Nat) : (s.storeBytes a bs).domOn g_ = s.domOn g_ := State.domOn_of_pwr (State.storeBytes_pwr s a bs) g_

/-! `State.setCaches` -/

@[simp] theorem State.setCaches_regs (s : State) (f : List CacheLine → List CacheLine) : (s.setCaches f).regs = s.regs := State.setCaches_keeps f (List.Subset.refl _) (SameBut.refl _ s) .regs (by decide)
@[simp] theorem State.setCaches_shown (s : State) (f : List CacheLine → List CacheLine) : (s.setCaches f).shown = s.shown := State.setCaches_keeps f (List.Subset.refl _) (SameBut.refl _ s) .shown (by decide)
@[simp] theorem State.setCaches_mirror (s : State) (f : List CacheLine → List CacheLine) : (s.setCaches f).mirror = s.mirror := State.setCaches_keeps f (List.Subset.refl _) (SameBut.refl _ s) .mirror (by decide)
@[simp] theorem State.setCaches_mem (s : State) (f : List CacheLine → List CacheLine) : (s.setCaches f).mem = s.mem := State.setCaches_keeps f (List.Subset.refl _) (SameBut.refl _ s) .mem (by decide)
@[simp] theorem State.setCaches_seam (s : State) (f : List CacheLine → List CacheLine) : (s.setCaches f).seam = s.seam := State.setCaches_keeps f (List.Subset.refl _) (SameBut.refl _ s) .seam (by decide)
@[simp] theorem State.setCaches_cmt (s : State) (f : List CacheLine → List CacheLine) : (s.setCaches f).cmt = s.cmt := State.setCaches_keeps f (List.Subset.refl _) (SameBut.refl _ s) .cmt (by decide)
@[simp] theorem State.setCaches_own (s : State) (f : List CacheLine → List CacheLine) : (s.setCaches f).own = s.own := State.setCaches_keeps f (List.Subset.refl _) (SameBut.refl _ s) .own (by decide)
@[simp] theorem State.setCaches_nextPkt (s : State) (f : List CacheLine → List CacheLine) : (s.setCaches f).nextPkt = s.nextPkt := State.setCaches_keeps f (List.Subset.refl _) (SameBut.refl _ s) .nextPkt (by decide)
@[simp] theorem State.setCaches_rx (s : State) (f : List CacheLine → List CacheLine) : (s.setCaches f).rx = s.rx := State.setCaches_keeps f (List.Subset.refl _) (SameBut.refl _ s) .rx (by decide)
@[simp] theorem State.setCaches_dsf (s : State) (f : List CacheLine → List CacheLine) : (s.setCaches f).dsf = s.dsf := State.setCaches_keeps f (List.Subset.refl _) (SameBut.refl _ s) .dsf (by decide)
@[simp] theorem State.setCaches_tmap (s : State) (f : List CacheLine → List CacheLine) : (s.setCaches f).tmap = s.tmap := State.setCaches_keeps f (List.Subset.refl _) (SameBut.refl _ s) .tmap (by decide)
@[simp] theorem State.setCaches_tribs (s : State) (f : List CacheLine → List CacheLine) : (s.setCaches f).tribs = s.tribs := State.setCaches_keeps f (List.Subset.refl _) (SameBut.refl _ s) .tribs (by decide)
@[simp] theorem State.setCaches_tfrags (s : State) (f : List CacheLine → List CacheLine) : (s.setCaches f).tfrags = s.tfrags := State.setCaches_keeps f (List.Subset.refl _) (SameBut.refl _ s) .tfrags (by decide)
@[simp] theorem State.setCaches_rows (s : State) (f : List CacheLine → List CacheLine) : (s.setCaches f).rows = s.rows := State.setCaches_keeps f (List.Subset.refl _) (SameBut.refl _ s) .rows (by decide)
@[simp] theorem State.setCaches_ttest (s : State) (f : List CacheLine → List CacheLine) : (s.setCaches f).ttest = s.ttest := State.setCaches_keeps f (List.Subset.refl _) (SameBut.refl _ s) .ttest (by decide)
@[simp] theorem State.setCaches_act (s : State) (f : List CacheLine → List CacheLine) : (s.setCaches f).act = s.act := State.setCaches_keeps f (List.Subset.refl _) (SameBut.refl _ s) .act (by decide)
@[simp] theorem State.setCaches_upb (s : State) (f : List CacheLine → List CacheLine) : (s.setCaches f).upb = s.upb := State.setCaches_keeps f (List.Subset.refl _) (SameBut.refl _ s) .upb (by decide)
@[simp] theorem State.setCaches_restarts (s : State) (f : List CacheLine → List CacheLine) : (s.setCaches f).restarts = s.restarts := State.setCaches_keeps f (List.Subset.refl _) (SameBut.refl _ s) .restarts (by decide)
@[simp] theorem State.setCaches_gsm (s : State) (f : List CacheLine → List CacheLine) : (s.setCaches f).gsm = s.gsm := State.setCaches_keeps f (List.Subset.refl _) (SameBut.refl _ s) .gsm (by decide)
@[simp] theorem State.setCaches_txEff (s : State) (f : List CacheLine → List CacheLine) : (s.setCaches f).txEff = s.txEff := State.setCaches_keeps f (List.Subset.refl _) (SameBut.refl _ s) .txEff (by decide)
@[simp] theorem State.setCaches_pairs (s : State) (f : List CacheLine → List CacheLine) : (s.setCaches f).pairs = s.pairs := State.setCaches_keeps f (List.Subset.refl _) (SameBut.refl _ s) .pairs (by decide)
@[simp] theorem State.setCaches_key (s : State) (f : List CacheLine → List CacheLine) : (s.setCaches f).key = s.key := State.setCaches_keeps f (List.Subset.refl _) (SameBut.refl _ s) .key (by decide)
@[simp] theorem State.setCaches_dark (s : State) (f : List CacheLine → List CacheLine) : (s.setCaches f).dark = s.dark := State.setCaches_keeps f (List.Subset.refl _) (SameBut.refl _ s) .dark (by decide)
@[simp] theorem State.setCaches_pipes (s : State) (f : List CacheLine → List CacheLine) : (s.setCaches f).pipes = s.pipes := State.setCaches_keeps f (List.Subset.refl _) (SameBut.refl _ s) .pipes (by decide)
@[simp] theorem State.setCaches_epochs (s : State) (f : List CacheLine → List CacheLine) : (s.setCaches f).epochs = s.epochs := State.setCaches_keeps f (List.Subset.refl _) (SameBut.refl _ s) .epochs (by decide)
@[simp] theorem State.setCaches_prog (s : State) (f : List CacheLine → List CacheLine) : (s.setCaches f).prog = s.prog := State.setCaches_keeps f (List.Subset.refl _) (SameBut.refl _ s) .prog (by decide)
@[simp] theorem State.setCaches_rcnt (s : State) (f : List CacheLine → List CacheLine) : (s.setCaches f).rcnt = s.rcnt := State.setCaches_keeps f (List.Subset.refl _) (SameBut.refl _ s) .rcnt (by decide)
@[simp] theorem State.setCaches_rcntHeld (s : State) (f : List CacheLine → List CacheLine) : (s.setCaches f).rcntHeld = s.rcntHeld := State.setCaches_keeps f (List.Subset.refl _) (SameBut.refl _ s) .rcntHeld (by decide)
@[simp] theorem State.setCaches_excWait (s : State) (f : List CacheLine → List CacheLine) : (s.setCaches f).excWait = s.excWait := State.setCaches_keeps f (List.Subset.refl _) (SameBut.refl _ s) .excWait (by decide)
@[simp] theorem State.setCaches_bufs (s : State) (f : List CacheLine → List CacheLine) : (s.setCaches f).bufs = s.bufs := State.setCaches_keeps f (List.Subset.refl _) (SameBut.refl _ s) .bufs (by decide)
@[simp] theorem State.setCaches_bufRot (s : State) (f : List CacheLine → List CacheLine) : (s.setCaches f).bufRot = s.bufRot := State.setCaches_keeps f (List.Subset.refl _) (SameBut.refl _ s) .bufRot (by decide)
@[simp] theorem State.setCaches_qmap (s : State) (f : List CacheLine → List CacheLine) : (s.setCaches f).qmap = s.qmap := State.setCaches_keeps f (List.Subset.refl _) (SameBut.refl _ s) .qmap (by decide)
@[simp] theorem State.setCaches_memch (s : State) (f : List CacheLine → List CacheLine) : (s.setCaches f).memch = s.memch := State.setCaches_keeps f (List.Subset.refl _) (SameBut.refl _ s) .memch (by decide)
@[simp] theorem State.setCaches_ecc (s : State) (f : List CacheLine → List CacheLine) : (s.setCaches f).ecc = s.ecc := State.setCaches_keeps f (List.Subset.refl _) (SameBut.refl _ s) .ecc (by decide)
@[simp] theorem State.setCaches_mxe (s : State) (f : List CacheLine → List CacheLine) : (s.setCaches f).mxe = s.mxe := State.setCaches_keeps f (List.Subset.refl _) (SameBut.refl _ s) .mxe (by decide)
@[simp] theorem State.setCaches_queues (s : State) (f : List CacheLine → List CacheLine) : (s.setCaches f).queues = s.queues := State.setCaches_keeps f (List.Subset.refl _) (SameBut.refl _ s) .queues (by decide)
@[simp] theorem State.setCaches_turns (s : State) (f : List CacheLine → List CacheLine) : (s.setCaches f).turns = s.turns := State.setCaches_keeps f (List.Subset.refl _) (SameBut.refl _ s) .turns (by decide)
@[simp] theorem State.setCaches_elig (s : State) (f : List CacheLine → List CacheLine) : (s.setCaches f).elig = s.elig := State.setCaches_keeps f (List.Subset.refl _) (SameBut.refl _ s) .elig (by decide)
@[simp] theorem State.setCaches_shapers (s : State) (f : List CacheLine → List CacheLine) : (s.setCaches f).shapers = s.shapers := State.setCaches_keeps f (List.Subset.refl _) (SameBut.refl _ s) .shapers (by decide)
@[simp] theorem State.setCaches_policers (s : State) (f : List CacheLine → List CacheLine) : (s.setCaches f).policers = s.policers := State.setCaches_keeps f (List.Subset.refl _) (SameBut.refl _ s) .policers (by decide)
@[simp] theorem State.setCaches_gates (s : State) (f : List CacheLine → List CacheLine) : (s.setCaches f).gates = s.gates := State.setCaches_keeps f (List.Subset.refl _) (SameBut.refl _ s) .gates (by decide)
@[simp] theorem State.setCaches_gateBusy (s : State) (f : List CacheLine → List CacheLine) : (s.setCaches f).gateBusy = s.gateBusy := State.setCaches_keeps f (List.Subset.refl _) (SameBut.refl _ s) .gateBusy (by decide)
@[simp] theorem State.setCaches_lanes (s : State) (f : List CacheLine → List CacheLine) : (s.setCaches f).lanes = s.lanes := State.setCaches_keeps f (List.Subset.refl _) (SameBut.refl _ s) .lanes (by decide)
@[simp] theorem State.setCaches_lports (s : State) (f : List CacheLine → List CacheLine) : (s.setCaches f).lports = s.lports := State.setCaches_keeps f (List.Subset.refl _) (SameBut.refl _ s) .lports (by decide)
@[simp] theorem State.setCaches_mdio (s : State) (f : List CacheLine → List CacheLine) : (s.setCaches f).mdio = s.mdio := State.setCaches_keeps f (List.Subset.refl _) (SameBut.refl _ s) .mdio (by decide)
@[simp] theorem State.setCaches_tim (s : State) (f : List CacheLine → List CacheLine) : (s.setCaches f).tim = s.tim := State.setCaches_keeps f (List.Subset.refl _) (SameBut.refl _ s) .tim (by decide)
@[simp] theorem State.setCaches_evt (s : State) (f : List CacheLine → List CacheLine) : (s.setCaches f).evt = s.evt := State.setCaches_keeps f (List.Subset.refl _) (SameBut.refl _ s) .evt (by decide)
@[simp] theorem State.setCaches_log (s : State) (f : List CacheLine → List CacheLine) : (s.setCaches f).log = s.log := State.setCaches_keeps f (List.Subset.refl _) (SameBut.refl _ s) .log (by decide)
@[simp] theorem State.setCaches_tsk (s : State) (f : List CacheLine → List CacheLine) : (s.setCaches f).tsk = s.tsk := State.setCaches_keeps f (List.Subset.refl _) (SameBut.refl _ s) .tsk (by decide)
@[simp] theorem State.setCaches_pwr (s : State) (f : List CacheLine → List CacheLine) : (s.setCaches f).pwr = s.pwr := State.setCaches_keeps f (List.Subset.refl _) (SameBut.refl _ s) .pwr (by decide)
@[simp] theorem State.setCaches_rst (s : State) (f : List CacheLine → List CacheLine) : (s.setCaches f).rst = s.rst := State.setCaches_keeps f (List.Subset.refl _) (SameBut.refl _ s) .rst (by decide)
@[simp] theorem State.setCaches_sys (s : State) (f : List CacheLine → List CacheLine) : (s.setCaches f).sys = s.sys := State.setCaches_keeps f (List.Subset.refl _) (SameBut.refl _ s) .sys (by decide)
@[simp] theorem State.setCaches_hif (s : State) (f : List CacheLine → List CacheLine) : (s.setCaches f).hif = s.hif := State.setCaches_keeps f (List.Subset.refl _) (SameBut.refl _ s) .hif (by decide)
@[simp] theorem State.setCaches_pins (s : State) (f : List CacheLine → List CacheLine) : (s.setCaches f).pins = s.pins := State.setCaches_keeps f (List.Subset.refl _) (SameBut.refl _ s) .pins (by decide)
@[simp] theorem State.setCaches_clock (s : State) (f : List CacheLine → List CacheLine) : (s.setCaches f).clock = s.clock := State.setCaches_keeps f (List.Subset.refl _) (SameBut.refl _ s) .clock (by decide)
@[simp] theorem State.setCaches_timers (s : State) (f : List CacheLine → List CacheLine) : (s.setCaches f).timers = s.timers := State.setCaches_keeps f (List.Subset.refl _) (SameBut.refl _ s) .timers (by decide)
@[simp] theorem State.setCaches_pending (s : State) (f : List CacheLine → List CacheLine) : (s.setCaches f).pending = s.pending := State.setCaches_keeps f (List.Subset.refl _) (SameBut.refl _ s) .pending (by decide)
@[simp] theorem State.setCaches_resp (s : State) (f : List CacheLine → List CacheLine) : (s.setCaches f).resp = s.resp := State.setCaches_keeps f (List.Subset.refl _) (SameBut.refl _ s) .resp (by decide)
@[simp] theorem State.setCaches_out (s : State) (f : List CacheLine → List CacheLine) : (s.setCaches f).out = s.out := State.setCaches_keeps f (List.Subset.refl _) (SameBut.refl _ s) .out (by decide)
@[simp] theorem State.setCaches_fresh (s : State) (f : List CacheLine → List CacheLine) : (s.setCaches f).fresh = s.fresh := State.setCaches_keeps f (List.Subset.refl _) (SameBut.refl _ s) .fresh (by decide)
@[simp] theorem State.setCaches_rd (s : State) (f : List CacheLine → List CacheLine) (g_ : Nat) : (s.setCaches f).rd g_ = s.rd g_ := State.rd_of_regs (State.setCaches_regs s f) g_
@[simp] theorem State.setCaches_fld (s : State) (f : List CacheLine → List CacheLine) (g_ : Fld) : (s.setCaches f).fld g_ = s.fld g_ := State.fld_of_regs (State.setCaches_regs s f) g_
@[simp] theorem State.setCaches_bit (s : State) (f : List CacheLine → List CacheLine) (g_ : Fld) : (s.setCaches f).bit g_ = s.bit g_ := State.bit_of_regs (State.setCaches_regs s f) g_
@[simp] theorem State.setCaches_running (s : State) (f : List CacheLine → List CacheLine) (g_ : Nat) : (s.setCaches f).running g_ = s.running g_ := State.running_of_timers (State.setCaches_timers s f) g_
@[simp] theorem State.setCaches_domOn (s : State) (f : List CacheLine → List CacheLine) (g_ : Nat) : (s.setCaches f).domOn g_ = s.domOn g_ := State.domOn_of_pwr (State.setCaches_pwr s f) g_

/-! ### A field replaced in place -/

@[simp] theorem State.running_with_regs (s : State) {v} (x : Nat) : ({ s with regs := v } : State).running x = s.running x := rfl
@[simp] theorem State.domOn_with_regs (s : State) {v} (d : Nat) : ({ s with regs := v } : State).domOn d = s.domOn d := rfl
@[simp] theorem State.rd_with_shown (s : State) {v} (k : Nat) : ({ s with shown := v } : State).rd k = s.rd k := rfl
@[simp] theorem State.fld_with_shown (s : State) {v} (f : Fld) : ({ s with shown := v } : State).fld f = s.fld f := rfl
@[simp] theorem State.bit_with_shown (s : State) {v} (f : Fld) : ({ s with shown := v } : State).bit f = s.bit f := rfl
@[simp] theorem State.running_with_shown (s : State) {v} (x : Nat) : ({ s with shown := v } : State).running x = s.running x := rfl
@[simp] theorem State.domOn_with_shown (s : State) {v} (d : Nat) : ({ s with shown := v } : State).domOn d = s.domOn d := rfl
@[simp] theorem State.rd_with_mirror (s : State) {v} (k : Nat) : ({ s with mirror := v } : State).rd k = s.rd k := rfl
@[simp] theorem State.fld_with_mirror (s : State) {v} (f : Fld) : ({ s with mirror := v } : State).fld f = s.fld f := rfl
@[simp] theorem State.bit_with_mirror (s : State) {v} (f : Fld) : ({ s with mirror := v } : State).bit f = s.bit f := rfl
@[simp] theorem State.running_with_mirror (s : State) {v} (x : Nat) : ({ s with mirror := v } : State).running x = s.running x := rfl
@[simp] theorem State.domOn_with_mirror (s : State) {v} (d : Nat) : ({ s with mirror := v } : State).domOn d = s.domOn d := rfl
@[simp] theorem State.rd_with_mem (s : State) {v} (k : Nat) : ({ s with mem := v } : State).rd k = s.rd k := rfl
@[simp] theorem State.fld_with_mem (s : State) {v} (f : Fld) : ({ s with mem := v } : State).fld f = s.fld f := rfl
@[simp] theorem State.bit_with_mem (s : State) {v} (f : Fld) : ({ s with mem := v } : State).bit f = s.bit f := rfl
@[simp] theorem State.running_with_mem (s : State) {v} (x : Nat) : ({ s with mem := v } : State).running x = s.running x := rfl
@[simp] theorem State.domOn_with_mem (s : State) {v} (d : Nat) : ({ s with mem := v } : State).domOn d = s.domOn d := rfl
@[simp] theorem State.rd_with_seam (s : State) {v} (k : Nat) : ({ s with seam := v } : State).rd k = s.rd k := rfl
@[simp] theorem State.fld_with_seam (s : State) {v} (f : Fld) : ({ s with seam := v } : State).fld f = s.fld f := rfl
@[simp] theorem State.bit_with_seam (s : State) {v} (f : Fld) : ({ s with seam := v } : State).bit f = s.bit f := rfl
@[simp] theorem State.running_with_seam (s : State) {v} (x : Nat) : ({ s with seam := v } : State).running x = s.running x := rfl
@[simp] theorem State.domOn_with_seam (s : State) {v} (d : Nat) : ({ s with seam := v } : State).domOn d = s.domOn d := rfl
@[simp] theorem State.rd_with_cmt (s : State) {v} (k : Nat) : ({ s with cmt := v } : State).rd k = s.rd k := rfl
@[simp] theorem State.fld_with_cmt (s : State) {v} (f : Fld) : ({ s with cmt := v } : State).fld f = s.fld f := rfl
@[simp] theorem State.bit_with_cmt (s : State) {v} (f : Fld) : ({ s with cmt := v } : State).bit f = s.bit f := rfl
@[simp] theorem State.running_with_cmt (s : State) {v} (x : Nat) : ({ s with cmt := v } : State).running x = s.running x := rfl
@[simp] theorem State.domOn_with_cmt (s : State) {v} (d : Nat) : ({ s with cmt := v } : State).domOn d = s.domOn d := rfl
@[simp] theorem State.rd_with_own (s : State) {v} (k : Nat) : ({ s with own := v } : State).rd k = s.rd k := rfl
@[simp] theorem State.fld_with_own (s : State) {v} (f : Fld) : ({ s with own := v } : State).fld f = s.fld f := rfl
@[simp] theorem State.bit_with_own (s : State) {v} (f : Fld) : ({ s with own := v } : State).bit f = s.bit f := rfl
@[simp] theorem State.running_with_own (s : State) {v} (x : Nat) : ({ s with own := v } : State).running x = s.running x := rfl
@[simp] theorem State.domOn_with_own (s : State) {v} (d : Nat) : ({ s with own := v } : State).domOn d = s.domOn d := rfl
@[simp] theorem State.rd_with_nextPkt (s : State) {v} (k : Nat) : ({ s with nextPkt := v } : State).rd k = s.rd k := rfl
@[simp] theorem State.fld_with_nextPkt (s : State) {v} (f : Fld) : ({ s with nextPkt := v } : State).fld f = s.fld f := rfl
@[simp] theorem State.bit_with_nextPkt (s : State) {v} (f : Fld) : ({ s with nextPkt := v } : State).bit f = s.bit f := rfl
@[simp] theorem State.running_with_nextPkt (s : State) {v} (x : Nat) : ({ s with nextPkt := v } : State).running x = s.running x := rfl
@[simp] theorem State.domOn_with_nextPkt (s : State) {v} (d : Nat) : ({ s with nextPkt := v } : State).domOn d = s.domOn d := rfl
@[simp] theorem State.rd_with_rx (s : State) {v} (k : Nat) : ({ s with rx := v } : State).rd k = s.rd k := rfl
@[simp] theorem State.fld_with_rx (s : State) {v} (f : Fld) : ({ s with rx := v } : State).fld f = s.fld f := rfl
@[simp] theorem State.bit_with_rx (s : State) {v} (f : Fld) : ({ s with rx := v } : State).bit f = s.bit f := rfl
@[simp] theorem State.running_with_rx (s : State) {v} (x : Nat) : ({ s with rx := v } : State).running x = s.running x := rfl
@[simp] theorem State.domOn_with_rx (s : State) {v} (d : Nat) : ({ s with rx := v } : State).domOn d = s.domOn d := rfl
@[simp] theorem State.rd_with_dsf (s : State) {v} (k : Nat) : ({ s with dsf := v } : State).rd k = s.rd k := rfl
@[simp] theorem State.fld_with_dsf (s : State) {v} (f : Fld) : ({ s with dsf := v } : State).fld f = s.fld f := rfl
@[simp] theorem State.bit_with_dsf (s : State) {v} (f : Fld) : ({ s with dsf := v } : State).bit f = s.bit f := rfl
@[simp] theorem State.running_with_dsf (s : State) {v} (x : Nat) : ({ s with dsf := v } : State).running x = s.running x := rfl
@[simp] theorem State.domOn_with_dsf (s : State) {v} (d : Nat) : ({ s with dsf := v } : State).domOn d = s.domOn d := rfl
@[simp] theorem State.rd_with_tmap (s : State) {v} (k : Nat) : ({ s with tmap := v } : State).rd k = s.rd k := rfl
@[simp] theorem State.fld_with_tmap (s : State) {v} (f : Fld) : ({ s with tmap := v } : State).fld f = s.fld f := rfl
@[simp] theorem State.bit_with_tmap (s : State) {v} (f : Fld) : ({ s with tmap := v } : State).bit f = s.bit f := rfl
@[simp] theorem State.running_with_tmap (s : State) {v} (x : Nat) : ({ s with tmap := v } : State).running x = s.running x := rfl
@[simp] theorem State.domOn_with_tmap (s : State) {v} (d : Nat) : ({ s with tmap := v } : State).domOn d = s.domOn d := rfl
@[simp] theorem State.rd_with_tribs (s : State) {v} (k : Nat) : ({ s with tribs := v } : State).rd k = s.rd k := rfl
@[simp] theorem State.fld_with_tribs (s : State) {v} (f : Fld) : ({ s with tribs := v } : State).fld f = s.fld f := rfl
@[simp] theorem State.bit_with_tribs (s : State) {v} (f : Fld) : ({ s with tribs := v } : State).bit f = s.bit f := rfl
@[simp] theorem State.running_with_tribs (s : State) {v} (x : Nat) : ({ s with tribs := v } : State).running x = s.running x := rfl
@[simp] theorem State.domOn_with_tribs (s : State) {v} (d : Nat) : ({ s with tribs := v } : State).domOn d = s.domOn d := rfl
@[simp] theorem State.rd_with_tfrags (s : State) {v} (k : Nat) : ({ s with tfrags := v } : State).rd k = s.rd k := rfl
@[simp] theorem State.fld_with_tfrags (s : State) {v} (f : Fld) : ({ s with tfrags := v } : State).fld f = s.fld f := rfl
@[simp] theorem State.bit_with_tfrags (s : State) {v} (f : Fld) : ({ s with tfrags := v } : State).bit f = s.bit f := rfl
@[simp] theorem State.running_with_tfrags (s : State) {v} (x : Nat) : ({ s with tfrags := v } : State).running x = s.running x := rfl
@[simp] theorem State.domOn_with_tfrags (s : State) {v} (d : Nat) : ({ s with tfrags := v } : State).domOn d = s.domOn d := rfl
@[simp] theorem State.rd_with_rows (s : State) {v} (k : Nat) : ({ s with rows := v } : State).rd k = s.rd k := rfl
@[simp] theorem State.fld_with_rows (s : State) {v} (f : Fld) : ({ s with rows := v } : State).fld f = s.fld f := rfl
@[simp] theorem State.bit_with_rows (s : State) {v} (f : Fld) : ({ s with rows := v } : State).bit f = s.bit f := rfl
@[simp] theorem State.running_with_rows (s : State) {v} (x : Nat) : ({ s with rows := v } : State).running x = s.running x := rfl
@[simp] theorem State.domOn_with_rows (s : State) {v} (d : Nat) : ({ s with rows := v } : State).domOn d = s.domOn d := rfl
@[simp] theorem State.rd_with_ttest (s : State) {v} (k : Nat) : ({ s with ttest := v } : State).rd k = s.rd k := rfl
@[simp] theorem State.fld_with_ttest (s : State) {v} (f : Fld) : ({ s with ttest := v } : State).fld f = s.fld f := rfl
@[simp] theorem State.bit_with_ttest (s : State) {v} (f : Fld) : ({ s with ttest := v } : State).bit f = s.bit f := rfl
@[simp] theorem State.running_with_ttest (s : State) {v} (x : Nat) : ({ s with ttest := v } : State).running x = s.running x := rfl
@[simp] theorem State.domOn_with_ttest (s : State) {v} (d : Nat) : ({ s with ttest := v } : State).domOn d = s.domOn d := rfl
@[simp] theorem State.rd_with_act (s : State) {v} (k : Nat) : ({ s with act := v } : State).rd k = s.rd k := rfl
@[simp] theorem State.fld_with_act (s : State) {v} (f : Fld) : ({ s with act := v } : State).fld f = s.fld f := rfl
@[simp] theorem State.bit_with_act (s : State) {v} (f : Fld) : ({ s with act := v } : State).bit f = s.bit f := rfl
@[simp] theorem State.running_with_act (s : State) {v} (x : Nat) : ({ s with act := v } : State).running x = s.running x := rfl
@[simp] theorem State.domOn_with_act (s : State) {v} (d : Nat) : ({ s with act := v } : State).domOn d = s.domOn d := rfl
@[simp] theorem State.rd_with_upb (s : State) {v} (k : Nat) : ({ s with upb := v } : State).rd k = s.rd k := rfl
@[simp] theorem State.fld_with_upb (s : State) {v} (f : Fld) : ({ s with upb := v } : State).fld f = s.fld f := rfl
@[simp] theorem State.bit_with_upb (s : State) {v} (f : Fld) : ({ s with upb := v } : State).bit f = s.bit f := rfl
@[simp] theorem State.running_with_upb (s : State) {v} (x : Nat) : ({ s with upb := v } : State).running x = s.running x := rfl
@[simp] theorem State.domOn_with_upb (s : State) {v} (d : Nat) : ({ s with upb := v } : State).domOn d = s.domOn d := rfl
@[simp] theorem State.rd_with_restarts (s : State) {v} (k : Nat) : ({ s with restarts := v } : State).rd k = s.rd k := rfl
@[simp] theorem State.fld_with_restarts (s : State) {v} (f : Fld) : ({ s with restarts := v } : State).fld f = s.fld f := rfl
@[simp] theorem State.bit_with_restarts (s : State) {v} (f : Fld) : ({ s with restarts := v } : State).bit f = s.bit f := rfl
@[simp] theorem State.running_with_restarts (s : State) {v} (x : Nat) : ({ s with restarts := v } : State).running x = s.running x := rfl
@[simp] theorem State.domOn_with_restarts (s : State) {v} (d : Nat) : ({ s with restarts := v } : State).domOn d = s.domOn d := rfl
@[simp] theorem State.rd_with_gsm (s : State) {v} (k : Nat) : ({ s with gsm := v } : State).rd k = s.rd k := rfl
@[simp] theorem State.fld_with_gsm (s : State) {v} (f : Fld) : ({ s with gsm := v } : State).fld f = s.fld f := rfl
@[simp] theorem State.bit_with_gsm (s : State) {v} (f : Fld) : ({ s with gsm := v } : State).bit f = s.bit f := rfl
@[simp] theorem State.running_with_gsm (s : State) {v} (x : Nat) : ({ s with gsm := v } : State).running x = s.running x := rfl
@[simp] theorem State.domOn_with_gsm (s : State) {v} (d : Nat) : ({ s with gsm := v } : State).domOn d = s.domOn d := rfl
@[simp] theorem State.rd_with_txEff (s : State) {v} (k : Nat) : ({ s with txEff := v } : State).rd k = s.rd k := rfl
@[simp] theorem State.fld_with_txEff (s : State) {v} (f : Fld) : ({ s with txEff := v } : State).fld f = s.fld f := rfl
@[simp] theorem State.bit_with_txEff (s : State) {v} (f : Fld) : ({ s with txEff := v } : State).bit f = s.bit f := rfl
@[simp] theorem State.running_with_txEff (s : State) {v} (x : Nat) : ({ s with txEff := v } : State).running x = s.running x := rfl
@[simp] theorem State.domOn_with_txEff (s : State) {v} (d : Nat) : ({ s with txEff := v } : State).domOn d = s.domOn d := rfl
@[simp] theorem State.rd_with_pairs (s : State) {v} (k : Nat) : ({ s with pairs := v } : State).rd k = s.rd k := rfl
@[simp] theorem State.fld_with_pairs (s : State) {v} (f : Fld) : ({ s with pairs := v } : State).fld f = s.fld f := rfl
@[simp] theorem State.bit_with_pairs (s : State) {v} (f : Fld) : ({ s with pairs := v } : State).bit f = s.bit f := rfl
@[simp] theorem State.running_with_pairs (s : State) {v} (x : Nat) : ({ s with pairs := v } : State).running x = s.running x := rfl
@[simp] theorem State.domOn_with_pairs (s : State) {v} (d : Nat) : ({ s with pairs := v } : State).domOn d = s.domOn d := rfl
@[simp] theorem State.rd_with_key (s : State) {v} (k : Nat) : ({ s with key := v } : State).rd k = s.rd k := rfl
@[simp] theorem State.fld_with_key (s : State) {v} (f : Fld) : ({ s with key := v } : State).fld f = s.fld f := rfl
@[simp] theorem State.bit_with_key (s : State) {v} (f : Fld) : ({ s with key := v } : State).bit f = s.bit f := rfl
@[simp] theorem State.running_with_key (s : State) {v} (x : Nat) : ({ s with key := v } : State).running x = s.running x := rfl
@[simp] theorem State.domOn_with_key (s : State) {v} (d : Nat) : ({ s with key := v } : State).domOn d = s.domOn d := rfl
@[simp] theorem State.rd_with_pipes (s : State) {v} (k : Nat) : ({ s with pipes := v } : State).rd k = s.rd k := rfl
@[simp] theorem State.fld_with_pipes (s : State) {v} (f : Fld) : ({ s with pipes := v } : State).fld f = s.fld f := rfl
@[simp] theorem State.bit_with_pipes (s : State) {v} (f : Fld) : ({ s with pipes := v } : State).bit f = s.bit f := rfl
@[simp] theorem State.running_with_pipes (s : State) {v} (x : Nat) : ({ s with pipes := v } : State).running x = s.running x := rfl
@[simp] theorem State.domOn_with_pipes (s : State) {v} (d : Nat) : ({ s with pipes := v } : State).domOn d = s.domOn d := rfl
@[simp] theorem State.rd_with_epochs (s : State) {v} (k : Nat) : ({ s with epochs := v } : State).rd k = s.rd k := rfl
@[simp] theorem State.fld_with_epochs (s : State) {v} (f : Fld) : ({ s with epochs := v } : State).fld f = s.fld f := rfl
@[simp] theorem State.bit_with_epochs (s : State) {v} (f : Fld) : ({ s with epochs := v } : State).bit f = s.bit f := rfl
@[simp] theorem State.running_with_epochs (s : State) {v} (x : Nat) : ({ s with epochs := v } : State).running x = s.running x := rfl
@[simp] theorem State.domOn_with_epochs (s : State) {v} (d : Nat) : ({ s with epochs := v } : State).domOn d = s.domOn d := rfl
@[simp] theorem State.rd_with_prog (s : State) {v} (k : Nat) : ({ s with prog := v } : State).rd k = s.rd k := rfl
@[simp] theorem State.fld_with_prog (s : State) {v} (f : Fld) : ({ s with prog := v } : State).fld f = s.fld f := rfl
@[simp] theorem State.bit_with_prog (s : State) {v} (f : Fld) : ({ s with prog := v } : State).bit f = s.bit f := rfl
@[simp] theorem State.running_with_prog (s : State) {v} (x : Nat) : ({ s with prog := v } : State).running x = s.running x := rfl
@[simp] theorem State.domOn_with_prog (s : State) {v} (d : Nat) : ({ s with prog := v } : State).domOn d = s.domOn d := rfl
@[simp] theorem State.rd_with_rcnt (s : State) {v} (k : Nat) : ({ s with rcnt := v } : State).rd k = s.rd k := rfl
@[simp] theorem State.fld_with_rcnt (s : State) {v} (f : Fld) : ({ s with rcnt := v } : State).fld f = s.fld f := rfl
@[simp] theorem State.bit_with_rcnt (s : State) {v} (f : Fld) : ({ s with rcnt := v } : State).bit f = s.bit f := rfl
@[simp] theorem State.running_with_rcnt (s : State) {v} (x : Nat) : ({ s with rcnt := v } : State).running x = s.running x := rfl
@[simp] theorem State.domOn_with_rcnt (s : State) {v} (d : Nat) : ({ s with rcnt := v } : State).domOn d = s.domOn d := rfl
@[simp] theorem State.rd_with_rcntHeld (s : State) {v} (k : Nat) : ({ s with rcntHeld := v } : State).rd k = s.rd k := rfl
@[simp] theorem State.fld_with_rcntHeld (s : State) {v} (f : Fld) : ({ s with rcntHeld := v } : State).fld f = s.fld f := rfl
@[simp] theorem State.bit_with_rcntHeld (s : State) {v} (f : Fld) : ({ s with rcntHeld := v } : State).bit f = s.bit f := rfl
@[simp] theorem State.running_with_rcntHeld (s : State) {v} (x : Nat) : ({ s with rcntHeld := v } : State).running x = s.running x := rfl
@[simp] theorem State.domOn_with_rcntHeld (s : State) {v} (d : Nat) : ({ s with rcntHeld := v } : State).domOn d = s.domOn d := rfl
@[simp] theorem State.rd_with_excWait (s : State) {v} (k : Nat) : ({ s with excWait := v } : State).rd k = s.rd k := rfl
@[simp] theorem State.fld_with_excWait (s : State) {v} (f : Fld) : ({ s with excWait := v } : State).fld f = s.fld f := rfl
@[simp] theorem State.bit_with_excWait (s : State) {v} (f : Fld) : ({ s with excWait := v } : State).bit f = s.bit f := rfl
@[simp] theorem State.running_with_excWait (s : State) {v} (x : Nat) : ({ s with excWait := v } : State).running x = s.running x := rfl
@[simp] theorem State.domOn_with_excWait (s : State) {v} (d : Nat) : ({ s with excWait := v } : State).domOn d = s.domOn d := rfl
@[simp] theorem State.rd_with_bufs (s : State) {v} (k : Nat) : ({ s with bufs := v } : State).rd k = s.rd k := rfl
@[simp] theorem State.fld_with_bufs (s : State) {v} (f : Fld) : ({ s with bufs := v } : State).fld f = s.fld f := rfl
@[simp] theorem State.bit_with_bufs (s : State) {v} (f : Fld) : ({ s with bufs := v } : State).bit f = s.bit f := rfl
@[simp] theorem State.running_with_bufs (s : State) {v} (x : Nat) : ({ s with bufs := v } : State).running x = s.running x := rfl
@[simp] theorem State.domOn_with_bufs (s : State) {v} (d : Nat) : ({ s with bufs := v } : State).domOn d = s.domOn d := rfl
@[simp] theorem State.rd_with_bufRot (s : State) {v} (k : Nat) : ({ s with bufRot := v } : State).rd k = s.rd k := rfl
@[simp] theorem State.fld_with_bufRot (s : State) {v} (f : Fld) : ({ s with bufRot := v } : State).fld f = s.fld f := rfl
@[simp] theorem State.bit_with_bufRot (s : State) {v} (f : Fld) : ({ s with bufRot := v } : State).bit f = s.bit f := rfl
@[simp] theorem State.running_with_bufRot (s : State) {v} (x : Nat) : ({ s with bufRot := v } : State).running x = s.running x := rfl
@[simp] theorem State.domOn_with_bufRot (s : State) {v} (d : Nat) : ({ s with bufRot := v } : State).domOn d = s.domOn d := rfl
@[simp] theorem State.rd_with_qmap (s : State) {v} (k : Nat) : ({ s with qmap := v } : State).rd k = s.rd k := rfl
@[simp] theorem State.fld_with_qmap (s : State) {v} (f : Fld) : ({ s with qmap := v } : State).fld f = s.fld f := rfl
@[simp] theorem State.bit_with_qmap (s : State) {v} (f : Fld) : ({ s with qmap := v } : State).bit f = s.bit f := rfl
@[simp] theorem State.running_with_qmap (s : State) {v} (x : Nat) : ({ s with qmap := v } : State).running x = s.running x := rfl
@[simp] theorem State.domOn_with_qmap (s : State) {v} (d : Nat) : ({ s with qmap := v } : State).domOn d = s.domOn d := rfl
@[simp] theorem State.rd_with_memch (s : State) {v} (k : Nat) : ({ s with memch := v } : State).rd k = s.rd k := rfl
@[simp] theorem State.fld_with_memch (s : State) {v} (f : Fld) : ({ s with memch := v } : State).fld f = s.fld f := rfl
@[simp] theorem State.bit_with_memch (s : State) {v} (f : Fld) : ({ s with memch := v } : State).bit f = s.bit f := rfl
@[simp] theorem State.running_with_memch (s : State) {v} (x : Nat) : ({ s with memch := v } : State).running x = s.running x := rfl
@[simp] theorem State.domOn_with_memch (s : State) {v} (d : Nat) : ({ s with memch := v } : State).domOn d = s.domOn d := rfl
@[simp] theorem State.rd_with_ecc (s : State) {v} (k : Nat) : ({ s with ecc := v } : State).rd k = s.rd k := rfl
@[simp] theorem State.fld_with_ecc (s : State) {v} (f : Fld) : ({ s with ecc := v } : State).fld f = s.fld f := rfl
@[simp] theorem State.bit_with_ecc (s : State) {v} (f : Fld) : ({ s with ecc := v } : State).bit f = s.bit f := rfl
@[simp] theorem State.running_with_ecc (s : State) {v} (x : Nat) : ({ s with ecc := v } : State).running x = s.running x := rfl
@[simp] theorem State.domOn_with_ecc (s : State) {v} (d : Nat) : ({ s with ecc := v } : State).domOn d = s.domOn d := rfl
@[simp] theorem State.rd_with_mxe (s : State) {v} (k : Nat) : ({ s with mxe := v } : State).rd k = s.rd k := rfl
@[simp] theorem State.fld_with_mxe (s : State) {v} (f : Fld) : ({ s with mxe := v } : State).fld f = s.fld f := rfl
@[simp] theorem State.bit_with_mxe (s : State) {v} (f : Fld) : ({ s with mxe := v } : State).bit f = s.bit f := rfl
@[simp] theorem State.running_with_mxe (s : State) {v} (x : Nat) : ({ s with mxe := v } : State).running x = s.running x := rfl
@[simp] theorem State.domOn_with_mxe (s : State) {v} (d : Nat) : ({ s with mxe := v } : State).domOn d = s.domOn d := rfl
@[simp] theorem State.rd_with_queues (s : State) {v} (k : Nat) : ({ s with queues := v } : State).rd k = s.rd k := rfl
@[simp] theorem State.fld_with_queues (s : State) {v} (f : Fld) : ({ s with queues := v } : State).fld f = s.fld f := rfl
@[simp] theorem State.bit_with_queues (s : State) {v} (f : Fld) : ({ s with queues := v } : State).bit f = s.bit f := rfl
@[simp] theorem State.running_with_queues (s : State) {v} (x : Nat) : ({ s with queues := v } : State).running x = s.running x := rfl
@[simp] theorem State.domOn_with_queues (s : State) {v} (d : Nat) : ({ s with queues := v } : State).domOn d = s.domOn d := rfl
@[simp] theorem State.rd_with_turns (s : State) {v} (k : Nat) : ({ s with turns := v } : State).rd k = s.rd k := rfl
@[simp] theorem State.fld_with_turns (s : State) {v} (f : Fld) : ({ s with turns := v } : State).fld f = s.fld f := rfl
@[simp] theorem State.bit_with_turns (s : State) {v} (f : Fld) : ({ s with turns := v } : State).bit f = s.bit f := rfl
@[simp] theorem State.running_with_turns (s : State) {v} (x : Nat) : ({ s with turns := v } : State).running x = s.running x := rfl
@[simp] theorem State.domOn_with_turns (s : State) {v} (d : Nat) : ({ s with turns := v } : State).domOn d = s.domOn d := rfl
@[simp] theorem State.rd_with_elig (s : State) {v} (k : Nat) : ({ s with elig := v } : State).rd k = s.rd k := rfl
@[simp] theorem State.fld_with_elig (s : State) {v} (f : Fld) : ({ s with elig := v } : State).fld f = s.fld f := rfl
@[simp] theorem State.bit_with_elig (s : State) {v} (f : Fld) : ({ s with elig := v } : State).bit f = s.bit f := rfl
@[simp] theorem State.running_with_elig (s : State) {v} (x : Nat) : ({ s with elig := v } : State).running x = s.running x := rfl
@[simp] theorem State.domOn_with_elig (s : State) {v} (d : Nat) : ({ s with elig := v } : State).domOn d = s.domOn d := rfl
@[simp] theorem State.rd_with_shapers (s : State) {v} (k : Nat) : ({ s with shapers := v } : State).rd k = s.rd k := rfl
@[simp] theorem State.fld_with_shapers (s : State) {v} (f : Fld) : ({ s with shapers := v } : State).fld f = s.fld f := rfl
@[simp] theorem State.bit_with_shapers (s : State) {v} (f : Fld) : ({ s with shapers := v } : State).bit f = s.bit f := rfl
@[simp] theorem State.running_with_shapers (s : State) {v} (x : Nat) : ({ s with shapers := v } : State).running x = s.running x := rfl
@[simp] theorem State.domOn_with_shapers (s : State) {v} (d : Nat) : ({ s with shapers := v } : State).domOn d = s.domOn d := rfl
@[simp] theorem State.rd_with_policers (s : State) {v} (k : Nat) : ({ s with policers := v } : State).rd k = s.rd k := rfl
@[simp] theorem State.fld_with_policers (s : State) {v} (f : Fld) : ({ s with policers := v } : State).fld f = s.fld f := rfl
@[simp] theorem State.bit_with_policers (s : State) {v} (f : Fld) : ({ s with policers := v } : State).bit f = s.bit f := rfl
@[simp] theorem State.running_with_policers (s : State) {v} (x : Nat) : ({ s with policers := v } : State).running x = s.running x := rfl
@[simp] theorem State.domOn_with_policers (s : State) {v} (d : Nat) : ({ s with policers := v } : State).domOn d = s.domOn d := rfl
@[simp] theorem State.rd_with_gates (s : State) {v} (k : Nat) : ({ s with gates := v } : State).rd k = s.rd k := rfl
@[simp] theorem State.fld_with_gates (s : State) {v} (f : Fld) : ({ s with gates := v } : State).fld f = s.fld f := rfl
@[simp] theorem State.bit_with_gates (s : State) {v} (f : Fld) : ({ s with gates := v } : State).bit f = s.bit f := rfl
@[simp] theorem State.running_with_gates (s : State) {v} (x : Nat) : ({ s with gates := v } : State).running x = s.running x := rfl
@[simp] theorem State.domOn_with_gates (s : State) {v} (d : Nat) : ({ s with gates := v } : State).domOn d = s.domOn d := rfl
@[simp] theorem State.rd_with_gateBusy (s : State) {v} (k : Nat) : ({ s with gateBusy := v } : State).rd k = s.rd k := rfl
@[simp] theorem State.fld_with_gateBusy (s : State) {v} (f : Fld) : ({ s with gateBusy := v } : State).fld f = s.fld f := rfl
@[simp] theorem State.bit_with_gateBusy (s : State) {v} (f : Fld) : ({ s with gateBusy := v } : State).bit f = s.bit f := rfl
@[simp] theorem State.running_with_gateBusy (s : State) {v} (x : Nat) : ({ s with gateBusy := v } : State).running x = s.running x := rfl
@[simp] theorem State.domOn_with_gateBusy (s : State) {v} (d : Nat) : ({ s with gateBusy := v } : State).domOn d = s.domOn d := rfl
@[simp] theorem State.rd_with_lanes (s : State) {v} (k : Nat) : ({ s with lanes := v } : State).rd k = s.rd k := rfl
@[simp] theorem State.fld_with_lanes (s : State) {v} (f : Fld) : ({ s with lanes := v } : State).fld f = s.fld f := rfl
@[simp] theorem State.bit_with_lanes (s : State) {v} (f : Fld) : ({ s with lanes := v } : State).bit f = s.bit f := rfl
@[simp] theorem State.running_with_lanes (s : State) {v} (x : Nat) : ({ s with lanes := v } : State).running x = s.running x := rfl
@[simp] theorem State.domOn_with_lanes (s : State) {v} (d : Nat) : ({ s with lanes := v } : State).domOn d = s.domOn d := rfl
@[simp] theorem State.rd_with_lports (s : State) {v} (k : Nat) : ({ s with lports := v } : State).rd k = s.rd k := rfl
@[simp] theorem State.fld_with_lports (s : State) {v} (f : Fld) : ({ s with lports := v } : State).fld f = s.fld f := rfl
@[simp] theorem State.bit_with_lports (s : State) {v} (f : Fld) : ({ s with lports := v } : State).bit f = s.bit f := rfl
@[simp] theorem State.running_with_lports (s : State) {v} (x : Nat) : ({ s with lports := v } : State).running x = s.running x := rfl
@[simp] theorem State.domOn_with_lports (s : State) {v} (d : Nat) : ({ s with lports := v } : State).domOn d = s.domOn d := rfl
@[simp] theorem State.rd_with_mdio (s : State) {v} (k : Nat) : ({ s with mdio := v } : State).rd k = s.rd k := rfl
@[simp] theorem State.fld_with_mdio (s : State) {v} (f : Fld) : ({ s with mdio := v } : State).fld f = s.fld f := rfl
@[simp] theorem State.bit_with_mdio (s : State) {v} (f : Fld) : ({ s with mdio := v } : State).bit f = s.bit f := rfl
@[simp] theorem State.running_with_mdio (s : State) {v} (x : Nat) : ({ s with mdio := v } : State).running x = s.running x := rfl
@[simp] theorem State.domOn_with_mdio (s : State) {v} (d : Nat) : ({ s with mdio := v } : State).domOn d = s.domOn d := rfl
@[simp] theorem State.rd_with_tim (s : State) {v} (k : Nat) : ({ s with tim := v } : State).rd k = s.rd k := rfl
@[simp] theorem State.fld_with_tim (s : State) {v} (f : Fld) : ({ s with tim := v } : State).fld f = s.fld f := rfl
@[simp] theorem State.bit_with_tim (s : State) {v} (f : Fld) : ({ s with tim := v } : State).bit f = s.bit f := rfl
@[simp] theorem State.running_with_tim (s : State) {v} (x : Nat) : ({ s with tim := v } : State).running x = s.running x := rfl
@[simp] theorem State.domOn_with_tim (s : State) {v} (d : Nat) : ({ s with tim := v } : State).domOn d = s.domOn d := rfl
@[simp] theorem State.rd_with_evt (s : State) {v} (k : Nat) : ({ s with evt := v } : State).rd k = s.rd k := rfl
@[simp] theorem State.fld_with_evt (s : State) {v} (f : Fld) : ({ s with evt := v } : State).fld f = s.fld f := rfl
@[simp] theorem State.bit_with_evt (s : State) {v} (f : Fld) : ({ s with evt := v } : State).bit f = s.bit f := rfl
@[simp] theorem State.running_with_evt (s : State) {v} (x : Nat) : ({ s with evt := v } : State).running x = s.running x := rfl
@[simp] theorem State.domOn_with_evt (s : State) {v} (d : Nat) : ({ s with evt := v } : State).domOn d = s.domOn d := rfl
@[simp] theorem State.rd_with_log (s : State) {v} (k : Nat) : ({ s with log := v } : State).rd k = s.rd k := rfl
@[simp] theorem State.fld_with_log (s : State) {v} (f : Fld) : ({ s with log := v } : State).fld f = s.fld f := rfl
@[simp] theorem State.bit_with_log (s : State) {v} (f : Fld) : ({ s with log := v } : State).bit f = s.bit f := rfl
@[simp] theorem State.running_with_log (s : State) {v} (x : Nat) : ({ s with log := v } : State).running x = s.running x := rfl
@[simp] theorem State.domOn_with_log (s : State) {v} (d : Nat) : ({ s with log := v } : State).domOn d = s.domOn d := rfl
@[simp] theorem State.rd_with_tsk (s : State) {v} (k : Nat) : ({ s with tsk := v } : State).rd k = s.rd k := rfl
@[simp] theorem State.fld_with_tsk (s : State) {v} (f : Fld) : ({ s with tsk := v } : State).fld f = s.fld f := rfl
@[simp] theorem State.bit_with_tsk (s : State) {v} (f : Fld) : ({ s with tsk := v } : State).bit f = s.bit f := rfl
@[simp] theorem State.running_with_tsk (s : State) {v} (x : Nat) : ({ s with tsk := v } : State).running x = s.running x := rfl
@[simp] theorem State.domOn_with_tsk (s : State) {v} (d : Nat) : ({ s with tsk := v } : State).domOn d = s.domOn d := rfl
@[simp] theorem State.rd_with_cpu (s : State) {v} (k : Nat) : ({ s with cpu := v } : State).rd k = s.rd k := rfl
@[simp] theorem State.fld_with_cpu (s : State) {v} (f : Fld) : ({ s with cpu := v } : State).fld f = s.fld f := rfl
@[simp] theorem State.bit_with_cpu (s : State) {v} (f : Fld) : ({ s with cpu := v } : State).bit f = s.bit f := rfl
@[simp] theorem State.running_with_cpu (s : State) {v} (x : Nat) : ({ s with cpu := v } : State).running x = s.running x := rfl
@[simp] theorem State.domOn_with_cpu (s : State) {v} (d : Nat) : ({ s with cpu := v } : State).domOn d = s.domOn d := rfl
@[simp] theorem State.rd_with_pwr (s : State) {v} (k : Nat) : ({ s with pwr := v } : State).rd k = s.rd k := rfl
@[simp] theorem State.fld_with_pwr (s : State) {v} (f : Fld) : ({ s with pwr := v } : State).fld f = s.fld f := rfl
@[simp] theorem State.bit_with_pwr (s : State) {v} (f : Fld) : ({ s with pwr := v } : State).bit f = s.bit f := rfl
@[simp] theorem State.running_with_pwr (s : State) {v} (x : Nat) : ({ s with pwr := v } : State).running x = s.running x := rfl
@[simp] theorem State.rd_with_rst (s : State) {v} (k : Nat) : ({ s with rst := v } : State).rd k = s.rd k := rfl
@[simp] theorem State.fld_with_rst (s : State) {v} (f : Fld) : ({ s with rst := v } : State).fld f = s.fld f := rfl
@[simp] theorem State.bit_with_rst (s : State) {v} (f : Fld) : ({ s with rst := v } : State).bit f = s.bit f := rfl
@[simp] theorem State.running_with_rst (s : State) {v} (x : Nat) : ({ s with rst := v } : State).running x = s.running x := rfl
@[simp] theorem State.domOn_with_rst (s : State) {v} (d : Nat) : ({ s with rst := v } : State).domOn d = s.domOn d := rfl
@[simp] theorem State.rd_with_sys (s : State) {v} (k : Nat) : ({ s with sys := v } : State).rd k = s.rd k := rfl
@[simp] theorem State.fld_with_sys (s : State) {v} (f : Fld) : ({ s with sys := v } : State).fld f = s.fld f := rfl
@[simp] theorem State.bit_with_sys (s : State) {v} (f : Fld) : ({ s with sys := v } : State).bit f = s.bit f := rfl
@[simp] theorem State.running_with_sys (s : State) {v} (x : Nat) : ({ s with sys := v } : State).running x = s.running x := rfl
@[simp] theorem State.domOn_with_sys (s : State) {v} (d : Nat) : ({ s with sys := v } : State).domOn d = s.domOn d := rfl
@[simp] theorem State.rd_with_hif (s : State) {v} (k : Nat) : ({ s with hif := v } : State).rd k = s.rd k := rfl
@[simp] theorem State.fld_with_hif (s : State) {v} (f : Fld) : ({ s with hif := v } : State).fld f = s.fld f := rfl
@[simp] theorem State.bit_with_hif (s : State) {v} (f : Fld) : ({ s with hif := v } : State).bit f = s.bit f := rfl
@[simp] theorem State.running_with_hif (s : State) {v} (x : Nat) : ({ s with hif := v } : State).running x = s.running x := rfl
@[simp] theorem State.domOn_with_hif (s : State) {v} (d : Nat) : ({ s with hif := v } : State).domOn d = s.domOn d := rfl
@[simp] theorem State.rd_with_pins (s : State) {v} (k : Nat) : ({ s with pins := v } : State).rd k = s.rd k := rfl
@[simp] theorem State.fld_with_pins (s : State) {v} (f : Fld) : ({ s with pins := v } : State).fld f = s.fld f := rfl
@[simp] theorem State.bit_with_pins (s : State) {v} (f : Fld) : ({ s with pins := v } : State).bit f = s.bit f := rfl
@[simp] theorem State.running_with_pins (s : State) {v} (x : Nat) : ({ s with pins := v } : State).running x = s.running x := rfl
@[simp] theorem State.domOn_with_pins (s : State) {v} (d : Nat) : ({ s with pins := v } : State).domOn d = s.domOn d := rfl
@[simp] theorem State.rd_with_clock (s : State) {v} (k : Nat) : ({ s with clock := v } : State).rd k = s.rd k := rfl
@[simp] theorem State.fld_with_clock (s : State) {v} (f : Fld) : ({ s with clock := v } : State).fld f = s.fld f := rfl
@[simp] theorem State.bit_with_clock (s : State) {v} (f : Fld) : ({ s with clock := v } : State).bit f = s.bit f := rfl
@[simp] theorem State.running_with_clock (s : State) {v} (x : Nat) : ({ s with clock := v } : State).running x = s.running x := rfl
@[simp] theorem State.domOn_with_clock (s : State) {v} (d : Nat) : ({ s with clock := v } : State).domOn d = s.domOn d := rfl
@[simp] theorem State.rd_with_timers (s : State) {v} (k : Nat) : ({ s with timers := v } : State).rd k = s.rd k := rfl
@[simp] theorem State.fld_with_timers (s : State) {v} (f : Fld) : ({ s with timers := v } : State).fld f = s.fld f := rfl
@[simp] theorem State.bit_with_timers (s : State) {v} (f : Fld) : ({ s with timers := v } : State).bit f = s.bit f := rfl
@[simp] theorem State.domOn_with_timers (s : State) {v} (d : Nat) : ({ s with timers := v } : State).domOn d = s.domOn d := rfl
@[simp] theorem State.rd_with_pending (s : State) {v} (k : Nat) : ({ s with pending := v } : State).rd k = s.rd k := rfl
@[simp] theorem State.fld_with_pending (s : State) {v} (f : Fld) : ({ s with pending := v } : State).fld f = s.fld f := rfl
@[simp] theorem State.bit_with_pending (s : State) {v} (f : Fld) : ({ s with pending := v } : State).bit f = s.bit f := rfl
@[simp] theorem State.running_with_pending (s : State) {v} (x : Nat) : ({ s with pending := v } : State).running x = s.running x := rfl
@[simp] theorem State.domOn_with_pending (s : State) {v} (d : Nat) : ({ s with pending := v } : State).domOn d = s.domOn d := rfl
@[simp] theorem State.rd_with_resp (s : State) {v} (k : Nat) : ({ s with resp := v } : State).rd k = s.rd k := rfl
@[simp] theorem State.fld_with_resp (s : State) {v} (f : Fld) : ({ s with resp := v } : State).fld f = s.fld f := rfl
@[simp] theorem State.bit_with_resp (s : State) {v} (f : Fld) : ({ s with resp := v } : State).bit f = s.bit f := rfl
@[simp] theorem State.running_with_resp (s : State) {v} (x : Nat) : ({ s with resp := v } : State).running x = s.running x := rfl
@[simp] theorem State.domOn_with_resp (s : State) {v} (d : Nat) : ({ s with resp := v } : State).domOn d = s.domOn d := rfl
@[simp] theorem State.rd_with_out (s : State) {v} (k : Nat) : ({ s with out := v } : State).rd k = s.rd k := rfl
@[simp] theorem State.fld_with_out (s : State) {v} (f : Fld) : ({ s with out := v } : State).fld f = s.fld f := rfl
@[simp] theorem State.bit_with_out (s : State) {v} (f : Fld) : ({ s with out := v } : State).bit f = s.bit f := rfl
@[simp] theorem State.running_with_out (s : State) {v} (x : Nat) : ({ s with out := v } : State).running x = s.running x := rfl
@[simp] theorem State.domOn_with_out (s : State) {v} (d : Nat) : ({ s with out := v } : State).domOn d = s.domOn d := rfl
@[simp] theorem State.rd_with_fresh (s : State) {v} (k : Nat) : ({ s with fresh := v } : State).rd k = s.rd k := rfl
@[simp] theorem State.rd_with_dark (s : State) {v} (k : Nat) : ({ s with dark := v } : State).rd k = s.rd k := rfl
@[simp] theorem State.fld_with_fresh (s : State) {v} (f : Fld) : ({ s with fresh := v } : State).fld f = s.fld f := rfl
@[simp] theorem State.fld_with_dark (s : State) {v} (f : Fld) : ({ s with dark := v } : State).fld f = s.fld f := rfl
@[simp] theorem State.bit_with_fresh (s : State) {v} (f : Fld) : ({ s with fresh := v } : State).bit f = s.bit f := rfl
@[simp] theorem State.bit_with_dark (s : State) {v} (f : Fld) : ({ s with dark := v } : State).bit f = s.bit f := rfl
@[simp] theorem State.running_with_fresh (s : State) {v} (x : Nat) : ({ s with fresh := v } : State).running x = s.running x := rfl
@[simp] theorem State.running_with_dark (s : State) {v} (x : Nat) : ({ s with dark := v } : State).running x = s.running x := rfl
@[simp] theorem State.domOn_with_fresh (s : State) {v} (d : Nat) : ({ s with fresh := v } : State).domOn d = s.domOn d := rfl
@[simp] theorem State.domOn_with_dark (s : State) {v} (d : Nat) : ({ s with dark := v } : State).domOn d = s.domOn d := rfl

/-! ### What an operation changes -/

@[simp] theorem State.setSeam_seam (s : State) (f : Seam → Seam) : (s.setSeam f).seam = f s.seam := rfl
@[simp] theorem State.setTim_tim (s : State) (f : Tim → Tim) : (s.setTim f).tim = f s.tim := rfl
@[simp] theorem State.setAct_act (s : State) (f : Act → Act) : (s.setAct f).act = f s.act := rfl
@[simp] theorem State.setKey_key (s : State) (f : Key → Key) : (s.setKey f).key = f s.key := rfl
@[simp] theorem State.setTsk_tsk (s : State) (f : Tsk → Tsk) : (s.setTsk f).tsk = f s.tsk := rfl
@[simp] theorem State.setPwr_pwr (s : State) (f : Pwr → Pwr) : (s.setPwr f).pwr = f s.pwr := rfl
@[simp] theorem State.setHif_hif (s : State) (f : Hif → Hif) : (s.setHif f).hif = f s.hif := rfl
@[simp] theorem State.reply_resp (s : State) (x : Resp) : (s.reply x).resp = x := rfl
@[simp] theorem State.emit_out (s : State) (o : Out) : (s.emit o).out = o :: s.out := rfl
@[simp] theorem State.startTimer_timers (s : State) (t : Nat) : (s.startTimer t).timers = mapIns s.timers t s.clock.mono := rfl
@[simp] theorem State.stopTimer_timers (s : State) (t : Nat) : (s.stopTimer t).timers = mapDel s.timers t := rfl
@[simp] theorem State.setUpb_upb (s : State) (c : Chan) (x : Upb) : (s.setUpb c x).upb = s.upb.set c x := rfl
@[simp] theorem State.setActCh_act (s : State) (c : Chan) (x : ActCh) : (s.setActCh c x).act = { s.act with ch := s.act.ch.set c x } := rfl
@[simp] theorem State.setRx_rx (s : State) (c : Chan) (x : Rx) : (s.setRx c x).rx = s.rx.set c x := rfl
@[simp] theorem State.setDsf_dsf (s : State) (c : Chan) (x : Dsf) : (s.setDsf c x).dsf = s.dsf.set c x := rfl
@[simp] theorem State.setPair_pairs (s : State) (n : Fin 8) (x : Pair) : (s.setPair n x).pairs = s.pairs.set n x := rfl
@[simp] theorem State.setLane_lanes (s : State) (l : Fin 48) (x : Lane) : (s.setLane l x).lanes = s.lanes.set l x := rfl
@[simp] theorem State.setPort_lports (s : State) (p : Fin 8) (x : LPort) : (s.setPort p x).lports = s.lports.set p x := rfl
@[simp] theorem State.setCh_memch (s : State) (m : Chan) (c : MemCh) : (s.setCh m c).memch = s.memch.set m c := rfl
@[simp] theorem State.setPipe_pipes (s : State) (p : Fin 4) (x : Pipe) : (s.setPipe p x).pipes = s.pipes.set p x := rfl
@[simp] theorem State.setEpoch_epochs (s : State) (e : Fin 16) (x : Epoch) : (s.setEpoch e x).epochs = s.epochs.set e x := rfl
@[simp] theorem State.setFrags_tfrags (s : State) (c : Chan) (fs : List (List Byte)) : (s.setFrags c fs).tfrags = s.tfrags.set c fs := rfl
@[simp] theorem State.setRow_rows (s : State) (l : Fin 48) (x : RowLane) : (s.setRow l x).rows = s.rows.set l x := rfl
@[simp] theorem State.setBuf_bufs (s : State) (key : Nat) (b : Buf) : (s.setBuf key b).bufs = mapPut {} s.bufs key b := rfl
@[simp] theorem State.setQueue_queues (s : State) (q : Nat) (ps : List Pkt) : (s.setQueue q ps).queues = mapPut [] s.queues q ps := rfl
@[simp] theorem State.setTrib_tribs (s : State) (ctx : Fin 1024) (x : Trib) : (s.setTrib ctx x).tribs = mapPut {} s.tribs ctx.val x := rfl
@[simp] theorem State.setItem_tsk (s : State) (i : Nat) (x : Item) : (s.setItem i x).tsk = { s.tsk with items := mapPut {} s.tsk.items i x } := rfl
@[simp] theorem State.setLevel_tsk (s : State) (p : Nat) (l : List Nat) : (s.setLevel p l).tsk = { s.tsk with lists := mapPut [] s.tsk.lists p l } := rfl
@[simp] theorem State.setCorePort_tsk (s : State) (n : Fin 8) (p : Port) : (s.setCorePort n p).tsk = { s.tsk with ports := s.tsk.ports.set n p } := rfl
@[simp] theorem State.setCaches_cpu (s : State) (f : List CacheLine → List CacheLine) : (s.setCaches f).cpu = { s.cpu with caches := f s.cpu.caches } := rfl
@[simp] theorem State.writeByte_mem (s : State) (a : Nat) (b : Byte) : (s.writeByte a b).mem = mapPut 0 s.mem a b := rfl

end Sys2Proof.Machine
end

