-- ==== Sys2Proof/Laws/Frames.lean ====
section
/-! SUPPORT. Frames compose: what is left alone by two steps is left alone by both together, and a firing event changes only what
`FrameEv` allows. -/

namespace Sys2Proof

open Sys2Proof.Machine

variable {ps qs : List Part} {ks ls : List Nat} {s t u : State}

theorem Frame.refl (ps : List Part) (ks : List Nat) (s : State) : Frame ps ks s s := ⟨SameBut.refl _ s, fun _ _ => rfl⟩

theorem Frame.trans (h : Frame ps ks s t) (h' : Frame ps ks t u) : Frame ps ks s u :=
  ⟨SameBut.trans h.1 h'.1, fun k hk => (h'.2 k hk).trans (h.2 k hk)⟩

theorem Frame.mono (h : Frame ps ks s t) (h1 : ps ⊆ qs) (h2 : ks ⊆ ls) : Frame qs ls s t :=
  ⟨SameBut.mono (List.cons_subset_cons _ h1) h.1, fun k hk => h.2 k (fun m => hk (h2 m))⟩

theorem FrameEv.refl (ps : List Part) (ks : List Nat) (s : State) : FrameEv ps ks s s := ⟨SameBut.refl _ s, fun _ _ _ => rfl⟩

theorem FrameEv.trans (h : FrameEv ps ks s t) (h' : FrameEv ps ks t u) : FrameEv ps ks s u :=
  ⟨SameBut.trans h.1 h'.1, fun k hk he => (h'.2 k hk he).trans (h.2 k hk he)⟩

theorem FrameEv.mono (h : FrameEv ps ks s t) (h1 : ps ⊆ qs) (h2 : ks ⊆ ls) : FrameEv qs ls s t :=
  ⟨SameBut.mono (by intro x hx; rw [List.mem_append] at *; exact hx.imp_right (fun m => h1 m)) h.1, fun k hk he => h.2 k (fun m => hk (h2 m)) he⟩

theorem Frame.ev (h : Frame ps ks s t) : FrameEv ps ks s t :=
  ⟨SameBut.mono (by intro p hp; rcases List.mem_cons.1 hp with e | e
                    · subst e; exact List.mem_append_left _ (by decide)
                    · exact List.mem_append_right _ e) h.1, fun k hk _ => h.2 k hk⟩

theorem FrameEv.of_same (h : SameBut ps s t) (hr : t.regs = s.regs) : FrameEv ps ks s t :=
  ⟨SameBut.mono (List.subset_append_right _ _) h, fun k _ _ => State.rd_of_regs hr k⟩

/-- A firing event. -/
theorem FrameEv.fire (ps : List Part) (ks : List Nat) (s : State) (p b : Nat) : FrameEv ps ks s (s.fire p b) :=
  ⟨SameBut.mono (by intro x hx; apply List.mem_append_left; revert hx; cases x <;> decide)
    (State.fire_keeps p b (List.Subset.refl _) (SameBut.refl _ s)), fun k _ he => State.fire_rd s p b he⟩

theorem FrameEv.startTimer (h : FrameEv ps ks s t) (x : Nat) (hp : .timers ∈ ps) : FrameEv ps ks s (t.startTimer x) :=
  h.trans (FrameEv.of_same (SameBut.mono (by simpa using hp) (State.startTimer_keeps x (List.Subset.refl _) (SameBut.refl _ t))) rfl)

theorem FrameEv.stopTimer (h : FrameEv ps ks s t) (x : Nat) (hp : .timers ∈ ps) : FrameEv ps ks s (t.stopTimer x) :=
  h.trans (FrameEv.of_same (SameBut.mono (by simpa using hp) (State.stopTimer_keeps x (List.Subset.refl _) (SameBut.refl _ t))) rfl)

theorem FrameEv.setHif (h : FrameEv ps ks s t) (f : Hif → Hif) : FrameEv ps ks s (t.setHif f) :=
  h.trans ⟨SameBut.mono (by intro x hx; apply List.mem_append_left; revert hx; cases x <;> decide)
    (State.setHif_keeps f (List.Subset.refl _) (SameBut.refl _ t)), fun k _ _ => rfl⟩

theorem FrameEv.setTsk (h : FrameEv ps ks s t) (f : Tsk → Tsk) : FrameEv ps ks s (t.setTsk f) :=
  h.trans ⟨SameBut.mono (by intro x hx; apply List.mem_append_left; revert hx; cases x <;> decide)
    (State.setTsk_keeps f (List.Subset.refl _) (SameBut.refl _ t)), fun k _ _ => rfl⟩

/-- A step that leaves the registers alone. -/
theorem FrameEv.upd (h : FrameEv ps ks s t) (hs : SameBut qs t u) (hq : qs ⊆ ps) (hr : u.regs = t.regs) : FrameEv ps ks s u :=
  h.trans (FrameEv.of_same (SameBut.mono hq hs) hr)

theorem FrameEv.andFire (h : FrameEv ps ks s t) (p b : Nat) : FrameEv ps ks s (t.fire p b) := h.trans (FrameEv.fire _ _ _ _ _)

/-- A word is written. -/
theorem FrameEv.wr (h : FrameEv ps ks s t) (k : Nat) (w : Word) (hk : k ∈ ks) : FrameEv ps ks s (t.wr k w) :=
  h.trans ⟨SameBut.mono (by intro x hx; apply List.mem_append_left; revert hx; cases x <;> decide)
    (State.wr_keeps k w (List.Subset.refl _) (SameBut.refl _ t)),
    fun k' hk' _ => State.rd_wr_ne _ _ (fun e => hk' (e ▸ hk))⟩

theorem FrameEv.bump (h : FrameEv ps ks s t) (k : Nat) (hk : k ∈ ks) : FrameEv ps ks s (t.bump k) := h.wr _ _ hk

theorem FrameEv.bumpBy (h : FrameEv ps ks s t) (k n : Nat) (hk : k ∈ ks) : FrameEv ps ks s (t.bumpBy k n) := h.wr _ _ hk

theorem FrameEv.setFld (h : FrameEv ps ks s t) (f : Fld) (v : Nat) (hk : f.key ∈ ks) : FrameEv ps ks s (t.setFld f v) := h.wr _ _ hk

theorem FrameEv.store (h : FrameEv ps ks s t) (k : Nat) (v : Word) (hk : k ∈ ks) : FrameEv ps ks s (t.store k v) := h.wr _ _ hk

theorem FrameEv.reply (h : FrameEv ps ks s t) (x : Resp) (hp : .resp ∈ ps) : FrameEv ps ks s (t.reply x) :=
  h.trans (FrameEv.of_same (SameBut.mono (by simpa using hp) (State.reply_keeps x (List.Subset.refl _) (SameBut.refl _ t))) rfl)

theorem FrameEv.emit (h : FrameEv ps ks s t) (x : Out) : FrameEv ps ks s (t.emit x) :=
  h.trans ⟨SameBut.mono (by intro x hx; apply List.mem_append_left; revert hx; cases x <;> decide)
    (State.emit_keeps x (List.Subset.refl _) (SameBut.refl _ t)), fun k _ _ => rfl⟩

theorem FrameEv.setSeam (h : FrameEv ps ks s t) (f : Seam → Seam) : FrameEv ps ks s (t.setSeam f) :=
  h.trans ⟨SameBut.mono (by intro x hx; apply List.mem_append_left; revert hx; cases x <;> decide)
    (State.setSeam_keeps f (List.Subset.refl _) (SameBut.refl _ t)), fun k _ _ => rfl⟩

theorem FrameEv.foldl {α : Type} {f : State → α → State} (hf : ∀ t a, FrameEv ps ks t (f t a)) (l : List α) (s : State) :
    FrameEv ps ks s (l.foldl f s) := by
  induction l generalizing s with
  | nil => exact FrameEv.refl _ _ _
  | cons a l ih => exact (hf s a).trans (ih _)

theorem FrameEv.ite {c : Prop} [Decidable c] (h : FrameEv ps ks s t) (h' : FrameEv ps ks s u) :
    FrameEv ps ks s (if c then t else u) := by
  split <;> assumption

end Sys2Proof
end

