-- ==== Sys2Proof/Laws/Idle.lean ====
section
/-! SUPPORT. Which parts of the state each operation of Machine/Idle.lean can change. -/

namespace Sys2Proof.Machine

open Sys2Proof

set_option linter.unusedTactic false
set_option linter.unreachableTactic false
set_option linter.unusedVariables false

theorem State.rtcTick_keeps {L : List Part} {s0 s : State}
    (hL0 : [.own, .clock] ⊆ L) (h0 : SameBut L s0 s) :
    SameBut L s0 (s.rtcTick) := by
  unfold State.rtcTick
  exact (SameBut.ite (SameBut.upd_clock (Part.sub (by decide) hL0) h0) (SameBut.upd_own_clock (Part.sub (by decide) hL0) h0))

theorem State.lineTick_keeps {L : List Part} {s0 s : State}
    (hL0 : [.clock] ⊆ L) (h0 : SameBut L s0 s) :
    SameBut L s0 (s.lineTick) := by
  unfold State.lineTick
  exact (SameBut.ite (SameBut.upd_clock (Part.sub (by decide) hL0) h0) h0)

theorem State.fabTick_keeps {L : List Part} {s0 s : State}
    (hL0 : [.clock] ⊆ L) (h0 : SameBut L s0 s) :
    SameBut L s0 (s.fabTick) := by
  unfold State.fabTick
  exact (SameBut.ite (SameBut.upd_clock (Part.sub (by decide) hL0) h0) h0)

theorem State.idle_keeps {L : List Part} {s0 s : State}
    (hL0 : [.own, .clock] ⊆ L) (h0 : SameBut L s0 s) :
    SameBut L s0 (s.idle) := by
  unfold State.idle
  exact (SameBut.ite h0 (SameBut.upd_clock (Part.sub (by decide) hL0) (State.fabTick_keeps (Part.sub (by decide) hL0) (State.lineTick_keeps (Part.sub (by decide) hL0) (State.rtcTick_keeps (Part.sub (by decide) hL0) h0)))))

end Sys2Proof.Machine
end

