-- ==== Sys2Proof/Laws/Ownership.lean ====
section
/-! SUPPORT. Which parts of the state each operation of Machine/Ownership.lean can change. -/

namespace Sys2Proof.Machine

open Sys2Proof

set_option linter.unusedTactic false
set_option linter.unreachableTactic false
set_option linter.unusedVariables false

theorem State.opOwnClaim_keeps {L : List Part} {s0 s : State} (r : Req) (v : Word)
    (hL0 : [.regs, .seam, .cmt, .own, .evt, .tsk, .hif, .timers, .resp, .out] ⊆ L) (h0 : SameBut L s0 s) :
    SameBut L s0 (s.opOwnClaim r v) := by
  unfold State.opOwnClaim
  exact (SameBut.ite h0 (SameBut.ite (State.deny_keeps _ _ _ _ (Part.sub (by decide) hL0) h0) (SameBut.ite (SameBut.ite (State.deny_keeps _ _ _ _ (Part.sub (by decide) hL0) h0) (SameBut.ite (State.deny_keeps _ _ _ _ (Part.sub (by decide) hL0) h0) (State.closeForce_keeps (Part.sub (by decide) hL0) (State.thimbleMove_keeps (Part.sub (by decide) hL0) (State.setHolder_keeps _ (Part.sub (by decide) hL0) h0))))) (by
    split
    · exact (State.closePresence_keeps (Part.sub (by decide) hL0) (State.thimbleMove_keeps (Part.sub (by decide) hL0) (State.setHolder_keeps _ (Part.sub (by decide) hL0) h0)))
    · exact (State.deny_keeps _ _ _ _ (Part.sub (by decide) hL0) h0)
    · exact (SameBut.ite (State.closePresence_keeps (Part.sub (by decide) hL0) (State.thimbleMove_keeps (Part.sub (by decide) hL0) (State.setHolder_keeps _ (Part.sub (by decide) hL0) h0))) (State.deny_keeps _ _ _ _ (Part.sub (by decide) hL0) h0))))))

theorem State.opOwnRelease_keeps {L : List Part} {s0 s : State} (r : Req) (v : Word)
    (hL0 : [.regs, .seam, .cmt, .own, .evt, .tsk, .hif, .timers, .resp, .out] ⊆ L) (h0 : SameBut L s0 s) :
    SameBut L s0 (s.opOwnRelease r v) := by
  unfold State.opOwnRelease
  exact (SameBut.ite (SameBut.ite (State.closePresence_keeps (Part.sub (by decide) hL0) (State.thimbleMove_keeps (Part.sub (by decide) hL0) (State.setHolder_keeps _ (Part.sub (by decide) hL0) h0))) (State.deny_keeps _ _ _ _ (Part.sub (by decide) hL0) h0)) (SameBut.ite (State.deny_keeps _ _ _ _ (Part.sub (by decide) hL0) h0) (SameBut.ite (State.startTimer_keeps _ (Part.sub (by decide) hL0) (SameBut.upd_own (Part.sub (by decide) hL0) h0)) (State.deny_keeps _ _ _ _ (Part.sub (by decide) hL0) h0))))

theorem State.loseClaim_keeps {L : List Part} {s0 s : State} (r : Req)
    (hL0 : [.regs, .seam, .evt, .tsk, .hif, .resp, .out] ⊆ L) (h0 : SameBut L s0 s) :
    SameBut L s0 (s.loseClaim r) := by
  unfold State.loseClaim
  exact (State.deny_keeps _ _ _ _ (Part.sub (by decide) hL0) h0)

theorem State.ownClaims_keeps {L : List Part} {s0 s : State} (v : Word) (rs : List Req)
    (hL0 : [.regs, .seam, .cmt, .own, .evt, .tsk, .hif, .timers, .resp, .out] ⊆ L) (h0 : SameBut L s0 s) :
    SameBut L s0 (s.ownClaims v rs) := by
  unfold State.ownClaims
  split
  · exact h0
  · exact (SameBut.foldl (fun _ _ h2 => (State.access_keeps _ _ _ _ (Part.sub (by decide) hL0) (fun _ h3 => (State.loseClaim_keeps _ (Part.sub (by decide) hL0) h3)) h2)) (State.access_keeps _ _ _ _ (Part.sub (by decide) hL0) (fun _ h1 => (State.opOwnClaim_keeps _ _ (Part.sub (by decide) hL0) h1)) h0))

theorem State.leaseOut_keeps {L : List Part} {s0 s : State}
    (hL0 : [.regs, .seam, .cmt, .own, .evt, .tsk, .hif, .timers, .out] ⊆ L) (h0 : SameBut L s0 s) :
    SameBut L s0 (s.leaseOut) := by
  unfold State.leaseOut
  exact (SameBut.ite (State.holderLost_keeps _ (Part.sub (by decide) hL0) h0) h0)

theorem State.ownHand_keeps {L : List Part} {s0 s : State} (h : OwnHand)
    (hL0 : [.regs, .seam, .cmt, .own, .evt, .tsk, .hif, .timers, .resp, .out] ⊆ L) (h0 : SameBut L s0 s) :
    SameBut L s0 (s.ownHand h) := by
  unfold State.ownHand
  exact (State.ownClaims_keeps _ _ (Part.sub (by decide) hL0) (SameBut.foldl (fun _ _ h1 => (State.access_keeps _ _ _ _ (Part.sub (by decide) hL0) (fun _ h2 => (State.opOwnRelease_keeps _ _ (Part.sub (by decide) hL0) h2)) h1)) (SameBut.ite (State.leaseOut_keeps (Part.sub (by decide) hL0) (State.ownClaims_keeps _ _ (Part.sub (by decide) hL0) h0)) (State.ownClaims_keeps _ _ (Part.sub (by decide) hL0) h0))))

theorem State.opHeartbeat_keeps {L : List Part} {s0 s : State} (v : Word)
    (hL0 : [.timers] ⊆ L) (h0 : SameBut L s0 s) :
    SameBut L s0 (s.opHeartbeat v) := by
  unfold State.opHeartbeat
  exact (SameBut.ite (State.startTimer_keeps _ (Part.sub (by decide) hL0) h0) h0)

theorem State.opOwnCtl_keeps {L : List Part} {s0 s : State} (v : Word)
    (hL0 : [.regs, .timers] ⊆ L) (h0 : SameBut L s0 s) :
    SameBut L s0 (s.opOwnCtl v) := by
  unfold State.opOwnCtl
  exact (SameBut.ite (SameBut.ite (State.store_keeps _ _ (Part.sub (by decide) hL0) h0) (State.startTimer_keeps _ (Part.sub (by decide) hL0) (State.store_keeps _ _ (Part.sub (by decide) hL0) h0))) (State.stopTimer_keeps _ (Part.sub (by decide) hL0) (State.store_keeps _ _ (Part.sub (by decide) hL0) h0)))

theorem State.opPresCtl_keeps {L : List Part} {s0 s : State} (v : Word)
    (hL0 : [.regs, .seam, .own, .evt, .tsk, .hif, .timers, .out] ⊆ L) (h0 : SameBut L s0 s) :
    SameBut L s0 (s.opPresCtl v) := by
  unfold State.opPresCtl
  exact (SameBut.ite (State.closePresence_keeps (Part.sub (by decide) hL0) (State.store_keeps _ _ (Part.sub (by decide) hL0) h0)) (State.store_keeps _ _ (Part.sub (by decide) hL0) h0))

theorem State.sealArm_keeps {L : List Part} {s0 s : State}
    (hL0 : [.own] ⊆ L) (h0 : SameBut L s0 s) :
    SameBut L s0 (s.sealArm) := by
  unfold State.sealArm
  exact (SameBut.ite (SameBut.upd_own (Part.sub (by decide) hL0) h0) h0)

theorem State.opOwnStat_keeps {L : List Part} {s0 s : State} (v : Word)
    (hL0 : [.own] ⊆ L) (h0 : SameBut L s0 s) :
    SameBut L s0 (s.opOwnStat v) := by
  unfold State.opOwnStat
  exact (SameBut.ite (State.sealArm_keeps (Part.sub (by decide) hL0) (SameBut.upd_own (Part.sub (by decide) hL0) h0)) h0)

theorem State.sealBroken_keeps {L : List Part} {s0 s : State}
    (hL0 : [.regs, .seam, .own, .evt, .tsk, .hif, .timers, .out] ⊆ L) (h0 : SameBut L s0 s) :
    SameBut L s0 (s.sealBroken) := by
  unfold State.sealBroken
  exact (SameBut.ite (State.openForce_keeps (Part.sub (by decide) hL0) (State.fire_keeps _ _ (Part.sub (by decide) hL0) (SameBut.upd_own (Part.sub (by decide) hL0) h0))) (State.fire_keeps _ _ (Part.sub (by decide) hL0) (SameBut.upd_own (Part.sub (by decide) hL0) h0)))

theorem State.sealBit_keeps {L : List Part} {s0 s : State} (sent : Bool) (seen : Bool)
    (hL0 : [.regs, .seam, .own, .evt, .tsk, .hif, .timers, .out] ⊆ L) (h0 : SameBut L s0 s) :
    SameBut L s0 (s.sealBit sent seen) := by
  unfold State.sealBit
  exact (SameBut.ite (SameBut.ite (State.sealArm_keeps (Part.sub (by decide) hL0) (SameBut.upd_own (Part.sub (by decide) hL0) (SameBut.upd_own (Part.sub (by decide) hL0) h0))) (SameBut.upd_own (Part.sub (by decide) hL0) h0)) (SameBut.ite (State.sealBroken_keeps (Part.sub (by decide) hL0) (SameBut.upd_own (Part.sub (by decide) hL0) h0)) (SameBut.upd_own (Part.sub (by decide) hL0) h0)))

theorem State.sealSeen_keeps {L : List Part} {s0 s : State} (seen : List Bool)
    (hL0 : [.regs, .seam, .own, .evt, .tsk, .hif, .timers, .out] ⊆ L) (h0 : SameBut L s0 s) :
    SameBut L s0 (s.sealSeen seen) := by
  unfold State.sealSeen
  exact (SameBut.ite h0 (SameBut.foldl (fun _ _ h1 => (State.sealBit_keeps _ _ (Part.sub (by decide) hL0) h1)) h0))

theorem execElectionTimeout_keeps (s : State) :
    ResKeeps [.regs, .seam, .cmt, .own, .evt, .tsk, .hif, .timers, .out] s (execElectionTimeout s) := by
  have hL0 := List.Subset.refl ([.regs, .seam, .cmt, .own, .evt, .tsk, .hif, .timers, .out] : List Part)
  have h0 := SameBut.refl [.regs, .seam, .cmt, .own, .evt, .tsk, .hif, .timers, .out] s
  unfold execElectionTimeout
  exact (ResKeeps.next (SameBut.ite (State.decideElection_keeps _ (Part.sub (by decide) hL0) h0) h0))

theorem execOwnClaim_keeps (r : Req) (h : OwnHand) (s : State) :
    ResKeeps [.regs, .seam, .cmt, .own, .evt, .tsk, .hif, .timers, .resp, .out] s (execOwnClaim r h s) := by
  have hL0 := List.Subset.refl ([.regs, .seam, .cmt, .own, .evt, .tsk, .hif, .timers, .resp, .out] : List Part)
  have h0 := SameBut.refl [.regs, .seam, .cmt, .own, .evt, .tsk, .hif, .timers, .resp, .out] s
  unfold execOwnClaim
  exact (ResKeeps.next (State.ownHand_keeps _ (Part.sub (by decide) hL0) h0))

theorem execOwnClaimForced_keeps (r : Req) (h : OwnHand) (s : State) :
    ResKeeps [.regs, .seam, .cmt, .own, .evt, .tsk, .hif, .timers, .resp, .out] s (execOwnClaimForced r h s) := by
  have hL0 := List.Subset.refl ([.regs, .seam, .cmt, .own, .evt, .tsk, .hif, .timers, .resp, .out] : List Part)
  have h0 := SameBut.refl [.regs, .seam, .cmt, .own, .evt, .tsk, .hif, .timers, .resp, .out] s
  unfold execOwnClaimForced
  exact (ResKeeps.next (State.ownHand_keeps _ (Part.sub (by decide) hL0) h0))

theorem execOwnReleaseTarget_keeps (r : Req) (t : BitVec 2) (h : OwnHand) (s : State) :
    ResKeeps [.regs, .seam, .cmt, .own, .evt, .tsk, .hif, .timers, .resp, .out] s (execOwnReleaseTarget r t h s) := by
  have hL0 := List.Subset.refl ([.regs, .seam, .cmt, .own, .evt, .tsk, .hif, .timers, .resp, .out] : List Part)
  have h0 := SameBut.refl [.regs, .seam, .cmt, .own, .evt, .tsk, .hif, .timers, .resp, .out] s
  unfold execOwnReleaseTarget
  exact (ResKeeps.next (State.ownHand_keeps _ (Part.sub (by decide) hL0) h0))

theorem execOwnReleaseVacate_keeps (r : Req) (h : OwnHand) (s : State) :
    ResKeeps [.regs, .seam, .cmt, .own, .evt, .tsk, .hif, .timers, .resp, .out] s (execOwnReleaseVacate r h s) := by
  have hL0 := List.Subset.refl ([.regs, .seam, .cmt, .own, .evt, .tsk, .hif, .timers, .resp, .out] : List Part)
  have h0 := SameBut.refl [.regs, .seam, .cmt, .own, .evt, .tsk, .hif, .timers, .resp, .out] s
  unfold execOwnReleaseVacate
  exact (ResKeeps.next (State.ownHand_keeps _ (Part.sub (by decide) hL0) h0))

theorem execHandoverTimeout_keeps (s : State) :
    ResKeeps [.regs, .seam, .own, .evt, .tsk, .hif, .timers, .out] s (execHandoverTimeout s) := by
  have hL0 := List.Subset.refl ([.regs, .seam, .own, .evt, .tsk, .hif, .timers, .out] : List Part)
  have h0 := SameBut.refl [.regs, .seam, .own, .evt, .tsk, .hif, .timers, .out] s
  unfold execHandoverTimeout
  exact (ResKeeps.next (SameBut.ite (State.fire_keeps _ _ (Part.sub (by decide) hL0) (State.stopTimer_keeps _ (Part.sub (by decide) hL0) (SameBut.upd_own (Part.sub (by decide) hL0) h0))) h0))

theorem execLeaseExpire_keeps (h : OwnHand) (s : State) :
    ResKeeps [.regs, .seam, .cmt, .own, .evt, .tsk, .hif, .timers, .resp, .out] s (execLeaseExpire h s) := by
  have hL0 := List.Subset.refl ([.regs, .seam, .cmt, .own, .evt, .tsk, .hif, .timers, .resp, .out] : List Part)
  have h0 := SameBut.refl [.regs, .seam, .cmt, .own, .evt, .tsk, .hif, .timers, .resp, .out] s
  unfold execLeaseExpire
  exact (ResKeeps.next (State.ownHand_keeps _ (Part.sub (by decide) hL0) h0))

theorem execOwnHeartbeat_keeps (r : Req) (s : State) :
    ResKeeps [.regs, .seam, .evt, .tsk, .hif, .timers, .resp, .out] s (execOwnHeartbeat r s) := by
  have hL0 := List.Subset.refl ([.regs, .seam, .evt, .tsk, .hif, .timers, .resp, .out] : List Part)
  have h0 := SameBut.refl [.regs, .seam, .evt, .tsk, .hif, .timers, .resp, .out] s
  unfold execOwnHeartbeat
  exact (ResKeeps.next (State.access_keeps _ _ _ _ (Part.sub (by decide) hL0) (fun _ h1 => (State.opHeartbeat_keeps _ (Part.sub (by decide) hL0) h1)) h0))

theorem execPresenceDebounce_keeps (high : Bool) (s : State) :
    ResKeeps [.own] s (execPresenceDebounce high s) := by
  have hL0 := List.Subset.refl ([.own] : List Part)
  have h0 := SameBut.refl [.own] s
  unfold execPresenceDebounce
  exact (ResKeeps.next (SameBut.ite h0 (SameBut.ite (SameBut.upd_own (Part.sub (by decide) hL0) h0) (SameBut.upd_own (Part.sub (by decide) hL0) h0))))

theorem execPresenceOn_keeps (s : State) :
    ResKeeps [.regs, .seam, .own, .evt, .tsk, .hif, .timers, .out] s (execPresenceOn s) := by
  have hL0 := List.Subset.refl ([.regs, .seam, .own, .evt, .tsk, .hif, .timers, .out] : List Part)
  have h0 := SameBut.refl [.regs, .seam, .own, .evt, .tsk, .hif, .timers, .out] s
  unfold execPresenceOn
  exact (ResKeeps.next (SameBut.ite (State.openForce_keeps (Part.sub (by decide) hL0) (State.fire_keeps _ _ (Part.sub (by decide) hL0) (State.startTimer_keeps _ (Part.sub (by decide) hL0) (SameBut.upd_own (Part.sub (by decide) hL0) h0)))) h0))

theorem execPresenceStuck_keeps (s : State) :
    ResKeeps [.regs, .seam, .own, .evt, .tsk, .hif, .timers, .out] s (execPresenceStuck s) := by
  have hL0 := List.Subset.refl ([.regs, .seam, .own, .evt, .tsk, .hif, .timers, .out] : List Part)
  have h0 := SameBut.refl [.regs, .seam, .own, .evt, .tsk, .hif, .timers, .out] s
  unfold execPresenceStuck
  exact (ResKeeps.next (SameBut.ite (State.fire_keeps _ _ (Part.sub (by decide) hL0) (SameBut.upd_own (Part.sub (by decide) hL0) (State.closeForce_keeps (Part.sub (by decide) hL0) (State.closePresence_keeps (Part.sub (by decide) hL0) h0)))) h0))

theorem execPresenceUnstick_keeps (s : State) :
    ResKeeps [.own] s (execPresenceUnstick s) := by
  have hL0 := List.Subset.refl ([.own] : List Part)
  have h0 := SameBut.refl [.own] s
  unfold execPresenceUnstick
  exact (ResKeeps.next (SameBut.ite (SameBut.upd_own (Part.sub (by decide) hL0) h0) h0))

theorem execPresenceWindowExpire_keeps (s : State) :
    ResKeeps [.regs, .seam, .own, .evt, .tsk, .hif, .timers, .out] s (execPresenceWindowExpire s) := by
  have hL0 := List.Subset.refl ([.regs, .seam, .own, .evt, .tsk, .hif, .timers, .out] : List Part)
  have h0 := SameBut.refl [.regs, .seam, .own, .evt, .tsk, .hif, .timers, .out] s
  unfold execPresenceWindowExpire
  exact (ResKeeps.next (State.closePresence_keeps (Part.sub (by decide) hL0) h0))

theorem execForceWindowExpire_keeps (s : State) :
    ResKeeps [.own, .timers] s (execForceWindowExpire s) := by
  have hL0 := List.Subset.refl ([.own, .timers] : List Part)
  have h0 := SameBut.refl [.own, .timers] s
  unfold execForceWindowExpire
  exact (ResKeeps.next (State.closeForce_keeps (Part.sub (by decide) hL0) h0))

theorem execPresenceEnd_keeps (r : Req) (v : Word) (s : State) :
    ResKeeps [.regs, .seam, .own, .evt, .tsk, .hif, .timers, .resp, .out] s (execPresenceEnd r v s) := by
  have hL0 := List.Subset.refl ([.regs, .seam, .own, .evt, .tsk, .hif, .timers, .resp, .out] : List Part)
  have h0 := SameBut.refl [.regs, .seam, .own, .evt, .tsk, .hif, .timers, .resp, .out] s
  unfold execPresenceEnd
  exact (ResKeeps.next (State.access_keeps _ _ _ _ (Part.sub (by decide) hL0) (fun _ h1 => (State.opPresCtl_keeps _ (Part.sub (by decide) hL0) h1)) h0))

theorem execSealBreak_keeps (seen : List Bool) (s : State) :
    ResKeeps [.regs, .seam, .own, .evt, .tsk, .hif, .timers, .out] s (execSealBreak seen s) := by
  have hL0 := List.Subset.refl ([.regs, .seam, .own, .evt, .tsk, .hif, .timers, .out] : List Part)
  have h0 := SameBut.refl [.regs, .seam, .own, .evt, .tsk, .hif, .timers, .out] s
  unfold execSealBreak
  exact (ResKeeps.next (State.sealSeen_keeps _ (Part.sub (by decide) hL0) h0))

theorem execSealRearm_keeps (seen : List Bool) (s : State) :
    ResKeeps [.regs, .seam, .own, .evt, .tsk, .hif, .timers, .out] s (execSealRearm seen s) := by
  have hL0 := List.Subset.refl ([.regs, .seam, .own, .evt, .tsk, .hif, .timers, .out] : List Part)
  have h0 := SameBut.refl [.regs, .seam, .own, .evt, .tsk, .hif, .timers, .out] s
  unfold execSealRearm
  exact (ResKeeps.next (State.sealSeen_keeps _ (Part.sub (by decide) hL0) h0))

theorem execSealBrokenClear_keeps (r : Req) (s : State) :
    ResKeeps [.regs, .seam, .own, .evt, .tsk, .hif, .resp, .out] s (execSealBrokenClear r s) := by
  have hL0 := List.Subset.refl ([.regs, .seam, .own, .evt, .tsk, .hif, .resp, .out] : List Part)
  have h0 := SameBut.refl [.regs, .seam, .own, .evt, .tsk, .hif, .resp, .out] s
  unfold execSealBrokenClear
  exact (ResKeeps.next (State.access_keeps _ _ _ _ (Part.sub (by decide) hL0) (fun _ h1 => (State.opOwnStat_keeps _ (Part.sub (by decide) hL0) h1)) h0))

theorem execSealIntact_keeps (seen : List Bool) (s : State) :
    ResKeeps [.regs, .seam, .own, .evt, .tsk, .hif, .timers, .out] s (execSealIntact seen s) := by
  have hL0 := List.Subset.refl ([.regs, .seam, .own, .evt, .tsk, .hif, .timers, .out] : List Part)
  have h0 := SameBut.refl [.regs, .seam, .own, .evt, .tsk, .hif, .timers, .out] s
  unfold execSealIntact
  exact (ResKeeps.next (State.sealSeen_keeps _ (Part.sub (by decide) hL0) h0))

theorem execWakeL0Timeout_keeps (s : State) :
    ResKeeps [.regs, .seam, .cmt, .own, .evt, .tsk, .hif, .timers, .out] s (execWakeL0Timeout s) := by
  have hL0 := List.Subset.refl ([.regs, .seam, .cmt, .own, .evt, .tsk, .hif, .timers, .out] : List Part)
  have h0 := SameBut.refl [.regs, .seam, .cmt, .own, .evt, .tsk, .hif, .timers, .out] s
  unfold execWakeL0Timeout
  exact (ResKeeps.next (SameBut.ite (SameBut.ite (State.holderLost_keeps _ (Part.sub (by decide) hL0) (State.stopTimer_keeps _ (Part.sub (by decide) hL0) h0)) (State.stopTimer_keeps _ (Part.sub (by decide) hL0) h0)) h0))

end Sys2Proof.Machine
end

