-- ==== Sys2Proof/Laws/Registers.lean ====
section
/-! SUPPORT. Which parts of the state each operation of Machine/Registers.lean can change. -/

namespace Sys2Proof.Machine

open Sys2Proof

set_option linter.unusedTactic false
set_option linter.unreachableTactic false
set_option linter.unusedVariables false

theorem State.asOff_keeps {L : List Part} {s0 s : State}
    (hL0 : [.seam, .tribs, .rows, .ttest, .upb, .key] ⊆ L) (h0 : SameBut L s0 s) :
    SameBut L s0 (s.asOff) := by
  unfold State.asOff
  split
  · exact (SameBut.upd_seam_tribs_rows_ttest_upb_key (Part.sub (by decide) hL0) h0)
  · exact h0

theorem State.readEffect_keeps {L : List Part} {s0 s : State} (a : Nat)
    (hL0 : [.regs, .tim, .evt] ⊆ L) (h0 : SameBut L s0 s) :
    SameBut L s0 (s.readEffect a) := by
  unfold State.readEffect
  exact (SameBut.ite (SameBut.upd_evt (Part.sub (by decide) hL0) h0) (SameBut.ite (State.popTxts_keeps (Part.sub (by decide) hL0) h0) (SameBut.ite (State.latchTime_keeps (Part.sub (by decide) hL0) h0) (SameBut.ite (State.latchRtc_keeps (Part.sub (by decide) hL0) h0) (SameBut.ite (State.latchFc_keeps _ (Part.sub (by decide) hL0) h0) h0)))))

theorem State.mirrorReg_keeps {L : List Part} {s0 s : State} (whole : Bool) (a : Nat)
    (hL0 : [.mirror] ⊆ L) (h0 : SameBut L s0 s) :
    SameBut L s0 (s.mirrorReg whole a) := by
  unfold State.mirrorReg
  exact (SameBut.upd_mirror (Part.sub (by decide) hL0) h0)

theorem State.mirrorPage_keeps {L : List Part} {s0 s : State} (p : Nat) (whole : Bool)
    (hL0 : [.mirror, .hif] ⊆ L) (h0 : SameBut L s0 s) :
    SameBut L s0 (s.mirrorPage p whole) := by
  unfold State.mirrorPage
  exact (State.setHif_keeps _ (Part.sub (by decide) hL0) (SameBut.foldl (fun _ _ h1 => (State.mirrorReg_keeps _ _ (Part.sub (by decide) hL0) h1)) h0))

theorem State.mirrorSel_keeps {L : List Part} {s0 s : State} (r : Req) (a : Nat)
    (hL0 : [.mirror] ⊆ L) (h0 : SameBut L s0 s) :
    SameBut L s0 (s.mirrorSel r a) := by
  unfold State.mirrorSel
  exact (SameBut.ite h0 (SameBut.foldl (fun _ _ h1 => (State.mirrorReg_keeps _ _ (Part.sub (by decide) hL0) h1)) h0))

theorem State.writeHDR_keeps {L : List Part} {s0 s : State} (p : Nat) (o : Nat) (v : Word)
    (hL0 : [.regs, .shown, .seam, .rcnt, .rcntHeld, .evt, .tsk, .hif, .out] ⊆ L) (h0 : SameBut L s0 s) :
    SameBut L s0 (s.writeHDR p o v) := by
  unfold State.writeHDR
  exact (SameBut.ite (State.opPageCtl_keeps _ _ (Part.sub (by decide) hL0) h0) (SameBut.ite (State.opEvtMask_keeps _ _ (Part.sub (by decide) hL0) h0) (SameBut.ite (State.opEvtForce_keeps _ _ (Part.sub (by decide) hL0) h0) (State.store_keeps _ _ (Part.sub (by decide) hL0) h0))))

theorem State.writeLine_keeps {L : List Part} {s0 s : State} (r : Req) (p : Nat) (o : Nat) (v : Word)
    (hL0 : [.regs, .seam, .cmt, .rx, .dsf, .tmap, .tribs, .ttest, .act, .upb, .restarts, .gsm, .txEff, .pairs, .key, .pipes, .epochs, .shapers, .policers, .lanes, .tim, .evt, .log, .tsk, .hif, .clock, .timers, .resp, .out, .fresh] ⊆ L) (h0 : SameBut L s0 s) :
    SameBut L s0 (s.writeLine r p o v) := by
  unfold State.writeLine
  exact (SameBut.ite (SameBut.ite (State.opRxCtl_keeps _ _ (Part.sub (by decide) hL0) h0) (SameBut.ite (State.opCal_keeps _ _ (Part.sub (by decide) hL0) h0) (SameBut.ite (State.opAdapt_keeps _ _ (Part.sub (by decide) hL0) h0) (State.store_keeps _ _ (Part.sub (by decide) hL0) h0)))) (SameBut.ite (SameBut.ite h0 (SameBut.ite (State.opTxConfig_keeps _ _ _ (Part.sub (by decide) hL0) h0) (SameBut.ite (State.opTxConfig_keeps _ _ _ (Part.sub (by decide) hL0) h0) (SameBut.ite (State.opTxTest_keeps _ _ _ (Part.sub (by decide) hL0) h0) h0)))) (SameBut.ite (SameBut.ite (State.opChCmd_keeps _ _ (Part.sub (by decide) hL0) h0) (State.store_keeps _ _ (Part.sub (by decide) hL0) h0)) (SameBut.ite (SameBut.ite (State.opTrbCtl_keeps _ (Part.sub (by decide) hL0) h0) (SameBut.ite (State.viewTbl_keeps (Part.sub (by decide) hL0) (State.store_keeps _ _ (Part.sub (by decide) hL0) h0)) (SameBut.ite (State.opTblCmd_keeps _ (Part.sub (by decide) hL0) h0) (SameBut.ite (State.opTblData_keeps _ _ _ (Part.sub (by decide) hL0) h0) (SameBut.ite (State.opTblData_keeps _ _ _ (Part.sub (by decide) hL0) h0) (SameBut.ite (State.opStFlags_keeps _ (Part.sub (by decide) hL0) h0) (SameBut.ite (State.opTestCtl_keeps _ (Part.sub (by decide) hL0) h0) (State.store_keeps _ _ (Part.sub (by decide) hL0) h0)))))))) (SameBut.ite (SameBut.ite (State.opActCtl_keeps _ (Part.sub (by decide) hL0) h0) (SameBut.ite (State.opSerial_keeps _ _ _ (Part.sub (by decide) hL0) h0) (SameBut.ite (State.opSerial_keeps _ _ _ (Part.sub (by decide) hL0) h0) (SameBut.ite (State.opChanCtl_keeps _ (Part.sub (by decide) hL0) h0) (SameBut.ite (State.opGuardCmd_keeps _ _ (Part.sub (by decide) hL0) h0) (SameBut.ite (State.opLocalRel_keeps _ _ (Part.sub (by decide) hL0) h0) (State.store_keeps _ _ (Part.sub (by decide) hL0) h0))))))) (SameBut.ite (SameBut.ite (State.viewGsm_keeps (Part.sub (by decide) hL0) (State.store_keeps _ _ (Part.sub (by decide) hL0) h0)) (SameBut.ite (State.opGsmData_keeps _ _ (Part.sub (by decide) hL0) h0) (SameBut.ite (State.opGsmCmd_keeps _ (Part.sub (by decide) hL0) h0) (State.store_keeps _ _ (Part.sub (by decide) hL0) h0)))) (SameBut.ite (SameBut.ite (State.opKeyErase_keeps _ (Part.sub (by decide) hL0) h0) (State.store_keeps _ _ (Part.sub (by decide) hL0) h0)) (SameBut.ite (SameBut.ite (State.opUnwCfg_keeps _ _ (Part.sub (by decide) hL0) h0) (SameBut.ite (State.opKeyCmd_keeps _ _ (Part.sub (by decide) hL0) h0) (State.store_keeps _ _ (Part.sub (by decide) hL0) h0))) (SameBut.ite (SameBut.ite (State.opTimCtl_keeps _ (Part.sub (by decide) hL0) h0) (SameBut.ite (State.opTimCmd_keeps _ _ (Part.sub (by decide) hL0) h0) (SameBut.ite (State.opB_keeps _ _ _ (Part.sub (by decide) hL0) h0) (State.store_keeps _ _ (Part.sub (by decide) hL0) h0)))) h0)))))))))

theorem State.writePath_keeps {L : List Part} {s0 s : State} (r : Req) (p : Nat) (o : Nat) (v : Word)
    (hL0 : [.regs, .mem, .seam, .prog, .bufs, .bufRot, .qmap, .memch, .ecc, .mxe, .lports, .evt, .log, .tsk, .hif, .resp, .out, .fresh] ⊆ L) (h0 : SameBut L s0 s) :
    SameBut L s0 (s.writePath r p o v) := by
  unfold State.writePath
  exact (SameBut.ite (SameBut.ite (State.viewProg_keeps (Part.sub (by decide) hL0) (State.store_keeps _ _ (Part.sub (by decide) hL0) h0)) (SameBut.ite (State.opProgCmd_keeps _ _ (Part.sub (by decide) hL0) h0) (SameBut.ite (State.opProgData3_keeps _ _ (Part.sub (by decide) hL0) h0) (State.store_keeps _ _ (Part.sub (by decide) hL0) h0)))) (SameBut.ite (SameBut.ite (State.opFlowCtl_keeps _ _ (Part.sub (by decide) hL0) h0) (SameBut.ite (State.viewTree_keeps (Part.sub (by decide) hL0) (State.store_keeps _ _ (Part.sub (by decide) hL0) h0)) (SameBut.ite (State.opTreeData3_keeps _ _ (Part.sub (by decide) hL0) h0) (SameBut.ite (State.opFlowCmd_keeps _ _ _ (Part.sub (by decide) hL0) h0) (State.store_keeps _ _ (Part.sub (by decide) hL0) h0))))) (SameBut.ite (SameBut.ite (State.opBpmCtl_keeps _ _ (Part.sub (by decide) hL0) h0) (SameBut.ite (State.viewQmap_keeps (Part.sub (by decide) hL0) (State.store_keeps _ _ (Part.sub (by decide) hL0) h0)) (SameBut.ite (State.opQmapData_keeps _ _ (Part.sub (by decide) hL0) h0) (SameBut.ite (State.opQmapCmd_keeps _ (Part.sub (by decide) hL0) h0) (SameBut.ite (State.opBufCmd_keeps _ (Part.sub (by decide) hL0) h0) (SameBut.ite (State.opOnpCnt_keeps _ _ _ (Part.sub (by decide) hL0) h0) (SameBut.ite (State.opExtReg_keeps _ _ _ _ (Part.sub (by decide) hL0) h0) (State.store_keeps _ _ (Part.sub (by decide) hL0) h0)))))))) (SameBut.ite (SameBut.ite (State.opMemCmd_keeps _ _ _ (Part.sub (by decide) hL0) h0) (SameBut.ite (State.opSkip_keeps _ _ _ _ (Part.sub (by decide) hL0) h0) (SameBut.ite (State.opSkip_keeps _ _ _ _ (Part.sub (by decide) hL0) h0) (State.store_keeps _ _ (Part.sub (by decide) hL0) h0)))) (SameBut.ite (SameBut.ite (State.opCeCfg_keeps _ (Part.sub (by decide) hL0) h0) (SameBut.ite (State.opRetCmd_keeps _ _ (Part.sub (by decide) hL0) h0) (State.store_keeps _ _ (Part.sub (by decide) hL0) h0))) (SameBut.ite (State.opMxeCmd_keeps _ _ (Part.sub (by decide) hL0) h0) (State.store_keeps _ _ (Part.sub (by decide) hL0) h0)))))))

theorem State.writeQueue_keeps {L : List Part} {s0 s : State} (r : Req) (p : Nat) (o : Nat) (v : Word)
    (hL0 : [.regs, .seam, .rows, .shapers, .gates, .gateBusy, .lanes, .lports, .mdio, .evt, .tsk, .hif, .timers, .resp, .out] ⊆ L) (h0 : SameBut L s0 s) :
    SameBut L s0 (s.writeQueue r p o v) := by
  unfold State.writeQueue
  exact (SameBut.ite (SameBut.ite (State.opQCmd_keeps _ _ (Part.sub (by decide) hL0) h0) (State.store_keeps _ _ (Part.sub (by decide) hL0) h0)) (SameBut.ite (SameBut.ite (State.opShpCtl_keeps _ (Part.sub (by decide) hL0) h0) (State.store_keeps _ _ (Part.sub (by decide) hL0) h0)) (SameBut.ite (State.store_keeps _ _ (Part.sub (by decide) hL0) h0) (SameBut.ite (SameBut.ite (State.viewGate_keeps _ (Part.sub (by decide) hL0) (State.store_keeps _ _ (Part.sub (by decide) hL0) h0)) (SameBut.ite (State.opGateEntryLo_keeps _ _ (Part.sub (by decide) hL0) h0) (SameBut.ite (State.opGateShadow_keeps _ _ _ (Part.sub (by decide) hL0) h0) (SameBut.ite (State.opGateCmd_keeps _ _ (Part.sub (by decide) hL0) h0) (State.store_keeps _ _ (Part.sub (by decide) hL0) h0))))) (SameBut.ite (SameBut.ite (State.store_keeps _ _ (Part.sub (by decide) hL0) h0) (SameBut.ite (State.opLaneCtl_keeps _ _ (Part.sub (by decide) hL0) h0) (SameBut.ite (State.opLaneCmd_keeps _ _ (Part.sub (by decide) hL0) h0) (SameBut.ite (State.opLaneStat_keeps _ _ (Part.sub (by decide) hL0) h0) (State.store_keeps _ _ (Part.sub (by decide) hL0) h0))))) (SameBut.ite (SameBut.ite (State.opMdioCmd_keeps _ _ (Part.sub (by decide) hL0) h0) (SameBut.ite (State.opPortStat_keeps _ _ (Part.sub (by decide) hL0) h0) (State.store_keeps _ _ (Part.sub (by decide) hL0) h0))) (SameBut.ite (State.opSeamCtl_keeps _ (Part.sub (by decide) hL0) h0) (State.store_keeps _ _ (Part.sub (by decide) hL0) h0))))))))

theorem State.writeSystem_keeps {L : List Part} {s0 s : State} (r : Req) (p : Nat) (o : Nat) (v : Word)
    (hL0 : [.regs, .shown, .mirror, .seam, .cmt, .own, .nextPkt, .rx, .dsf, .tmap, .tribs, .tfrags, .rows, .ttest, .act, .upb, .restarts, .gsm, .txEff, .pairs, .key, .dark, .pipes, .epochs, .prog, .rcnt, .rcntHeld, .excWait, .bufs, .bufRot, .qmap, .memch, .ecc, .mxe, .queues, .turns, .elig, .shapers, .policers, .gates, .gateBusy, .lanes, .lports, .mdio, .tim, .evt, .log, .tsk, .cpu, .pwr, .rst, .sys, .hif, .clock, .timers, .resp, .out] ⊆ L) (h0 : SameBut L s0 s) :
    SameBut L s0 (s.writeSystem r p o v) := by
  unfold State.writeSystem
  exact (SameBut.ite (SameBut.ite (State.opExcCfg_keeps _ _ (Part.sub (by decide) hL0) h0) (SameBut.ite (State.opExcTail_keeps _ (Part.sub (by decide) hL0) h0) (SameBut.ite (State.opInject_keeps _ (Part.sub (by decide) hL0) h0) (State.store_keeps _ _ (Part.sub (by decide) hL0) h0)))) (SameBut.ite (SameBut.ite (State.opTskCtl_keeps _ (Part.sub (by decide) hL0) h0) (SameBut.ite (State.opItemCfg_keeps _ _ (Part.sub (by decide) hL0) h0) (SameBut.ite (State.opItemMask_keeps _ _ (Part.sub (by decide) hL0) h0) (SameBut.ite (State.opPost_keeps _ _ (Part.sub (by decide) hL0) h0) (SameBut.ite (State.cancelBy_keeps _ _ (Part.sub (by decide) hL0) h0) (State.store_keeps _ _ (Part.sub (by decide) hL0) h0)))))) (SameBut.ite (SameBut.ite (State.opCmtOpen_keeps _ _ (Part.sub (by decide) hL0) h0) (SameBut.ite (State.opCmtCommit_keeps _ _ (Part.sub (by decide) hL0) h0) (SameBut.ite (State.opCmtDiscard_keeps _ _ (Part.sub (by decide) hL0) h0) (SameBut.ite (State.opCmtAck_keeps _ _ (Part.sub (by decide) hL0) h0) (State.store_keeps _ _ (Part.sub (by decide) hL0) h0))))) (SameBut.ite (SameBut.ite (State.opEvtCtl_keeps _ (Part.sub (by decide) hL0) h0) (SameBut.ite (State.opMsixArm_keeps _ _ (Part.sub (by decide) hL0) h0) (SameBut.ite (State.opMsixArm_keeps _ _ (Part.sub (by decide) hL0) h0) (SameBut.ite (State.opLogCfg_keeps _ _ (Part.sub (by decide) hL0) h0) (State.store_keeps _ _ (Part.sub (by decide) hL0) h0))))) (SameBut.ite (SameBut.ite (State.opPwrCtl_keeps _ (Part.sub (by decide) hL0) h0) (SameBut.ite (State.opPwrCmd_keeps _ _ (Part.sub (by decide) hL0) h0) (SameBut.ite (State.opPmbCfg_keeps _ (Part.sub (by decide) hL0) h0) (State.store_keeps _ _ (Part.sub (by decide) hL0) h0)))) (SameBut.ite (SameBut.ite (State.opRstCmd_keeps _ (Part.sub (by decide) hL0) h0) (SameBut.ite (State.opCoreRun_keeps _ (Part.sub (by decide) hL0) h0) (SameBut.ite (State.opBootCmd_keeps _ _ (Part.sub (by decide) hL0) h0) (SameBut.ite (State.opWdtCfg_keeps _ (Part.sub (by decide) hL0) h0) (SameBut.ite (State.opWdtKick_keeps _ (Part.sub (by decide) hL0) h0) (State.store_keeps _ _ (Part.sub (by decide) hL0) h0)))))) (SameBut.ite (SameBut.ite (State.opI2cCmd_keeps _ _ (Part.sub (by decide) hL0) h0) (SameBut.ite (State.opFlashCmd_keeps _ (Part.sub (by decide) hL0) h0) (SameBut.ite (State.opJtagCtl_keeps _ _ (Part.sub (by decide) hL0) h0) (SameBut.ite (State.opMsixCtl_keeps _ _ (Part.sub (by decide) hL0) h0) (State.store_keeps _ _ (Part.sub (by decide) hL0) h0))))) (SameBut.ite (SameBut.ite (State.opOwnStat_keeps _ (Part.sub (by decide) hL0) h0) (SameBut.ite (State.opOwnRelease_keeps _ _ (Part.sub (by decide) hL0) h0) (SameBut.ite (State.opOwnClaim_keeps _ _ (Part.sub (by decide) hL0) h0) (SameBut.ite (State.opOwnCtl_keeps _ (Part.sub (by decide) hL0) h0) (SameBut.ite (State.opHeartbeat_keeps _ (Part.sub (by decide) hL0) h0) (SameBut.ite (State.opPresCtl_keeps _ (Part.sub (by decide) hL0) h0) (State.store_keeps _ _ (Part.sub (by decide) hL0) h0))))))) (SameBut.ite (State.opBistCtl_keeps _ (Part.sub (by decide) hL0) h0) (State.store_keeps _ _ (Part.sub (by decide) hL0) h0))))))))))

theorem State.writeAt_keeps {L : List Part} {s0 s : State} (r : Req) (a : Nat) (v : Word)
    (hL0 : [.regs, .shown, .mirror, .mem, .seam, .cmt, .own, .nextPkt, .rx, .dsf, .tmap, .tribs, .tfrags, .rows, .ttest, .act, .upb, .restarts, .gsm, .txEff, .pairs, .key, .dark, .pipes, .epochs, .prog, .rcnt, .rcntHeld, .excWait, .bufs, .bufRot, .qmap, .memch, .ecc, .mxe, .queues, .turns, .elig, .shapers, .policers, .gates, .gateBusy, .lanes, .lports, .mdio, .tim, .evt, .log, .tsk, .cpu, .pwr, .rst, .sys, .hif, .clock, .timers, .resp, .out, .fresh] ⊆ L) (h0 : SameBut L s0 s) :
    SameBut L s0 (s.writeAt r a v) := by
  unfold State.writeAt
  exact (SameBut.ite (State.writeHDR_keeps _ _ _ (Part.sub (by decide) hL0) h0) (SameBut.ite (State.writeLine_keeps _ _ _ _ (Part.sub (by decide) hL0) h0) (SameBut.ite (State.writePath_keeps _ _ _ _ (Part.sub (by decide) hL0) h0) (SameBut.ite (State.writeQueue_keeps _ _ _ _ (Part.sub (by decide) hL0) h0) (SameBut.ite (State.writeSystem_keeps _ _ _ _ (Part.sub (by decide) hL0) h0) h0)))))

theorem State.performWrite_keeps {L : List Part} {s0 s : State} (r : Req) (a : Nat) (v : Word)
    (hL0 : [.regs, .shown, .mirror, .mem, .seam, .cmt, .own, .nextPkt, .rx, .dsf, .tmap, .tribs, .tfrags, .rows, .ttest, .act, .upb, .restarts, .gsm, .txEff, .pairs, .key, .dark, .pipes, .epochs, .prog, .rcnt, .rcntHeld, .excWait, .bufs, .bufRot, .qmap, .memch, .ecc, .mxe, .queues, .turns, .elig, .shapers, .policers, .gates, .gateBusy, .lanes, .lports, .mdio, .tim, .evt, .log, .tsk, .cpu, .pwr, .rst, .sys, .hif, .clock, .timers, .resp, .out, .fresh] ⊆ L) (h0 : SameBut L s0 s) :
    SameBut L s0 (s.performWrite r a v) := by
  unfold State.performWrite
  exact (State.mirrorSel_keeps _ _ (Part.sub (by decide) hL0) (State.writeAt_keeps _ _ _ (Part.sub (by decide) hL0) h0))

theorem State.writeReg_keeps {L : List Part} {s0 s : State} (r : Req) (a : Nat) (v : Word) (full : Bool)
    (hL0 : [.regs, .shown, .mirror, .mem, .seam, .cmt, .own, .nextPkt, .rx, .dsf, .tmap, .tribs, .tfrags, .rows, .ttest, .act, .upb, .restarts, .gsm, .txEff, .pairs, .key, .dark, .pipes, .epochs, .prog, .rcnt, .rcntHeld, .excWait, .bufs, .bufRot, .qmap, .memch, .ecc, .mxe, .queues, .turns, .elig, .shapers, .policers, .gates, .gateBusy, .lanes, .lports, .mdio, .tim, .evt, .log, .tsk, .cpu, .pwr, .rst, .sys, .hif, .clock, .timers, .resp, .out, .fresh] ⊆ L) (h0 : SameBut L s0 s) :
    SameBut L s0 (s.writeReg r a v full) := by
  unfold State.writeReg
  exact (SameBut.ite (State.accessStaged_keeps _ _ _ _ (Part.sub (by decide) hL0) h0) (State.access_keeps _ _ _ _ (Part.sub (by decide) hL0) (fun _ h1 => (State.performWrite_keeps _ _ _ (Part.sub (by decide) hL0) h1)) h0))

theorem State.bankRead_keeps {L : List Part} {s0 s : State} (ofs : BitVec 10)
    (hL0 : [.hif, .resp] ⊆ L) (h0 : SameBut L s0 s) :
    SameBut L s0 (s.bankRead ofs) := by
  unfold State.bankRead
  exact (State.reply_keeps _ (Part.sub (by decide) hL0) (State.setHif_keeps _ (Part.sub (by decide) hL0) h0))

theorem State.bankWrite_keeps {L : List Part} {s0 s : State} (ofs : BitVec 10)
    (hL0 : [.regs, .seam, .evt, .tsk, .hif, .resp, .out] ⊆ L) (h0 : SameBut L s0 s) :
    SameBut L s0 (s.bankWrite ofs) := by
  unfold State.bankWrite
  exact (State.busError_keeps _ _ _ _ (Part.sub (by decide) hL0) h0)

theorem State.shelfEffect_keeps {L : List Part} {s0 s : State} (a : Nat)
    (hL0 : [.regs, .tim, .evt, .hif] ⊆ L) (h0 : SameBut L s0 s) :
    SameBut L s0 (s.shelfEffect a) := by
  unfold State.shelfEffect
  exact (SameBut.ite h0 (SameBut.ite (State.bump_keeps _ (Part.sub (by decide) hL0) h0) (State.setHif_keeps _ (Part.sub (by decide) hL0) (SameBut.ite (State.readEffect_keeps _ (Part.sub (by decide) hL0) h0) h0))))

theorem State.shelfLow_keeps {L : List Part} {s0 s : State} (a : Nat)
    (hL0 : [.regs, .tim, .evt, .hif, .resp] ⊆ L) (h0 : SameBut L s0 s) :
    SameBut L s0 (s.shelfLow a) := by
  unfold State.shelfLow
  exact (State.reply_keeps _ (Part.sub (by decide) hL0) (State.setHif_keeps _ (Part.sub (by decide) hL0) (State.shelfEffect_keeps _ (Part.sub (by decide) hL0) h0)))

theorem State.shelfHigh_keeps {L : List Part} {s0 s : State} (a : Nat)
    (hL0 : [.resp] ⊆ L) (h0 : SameBut L s0 s) :
    SameBut L s0 (s.shelfHigh a) := by
  unfold State.shelfHigh
  exact (State.reply_keeps _ (Part.sub (by decide) hL0) h0)

theorem State.shelfWrite_keeps {L : List Part} {s0 s : State} (a : Nat) (d : BitVec 16)
    (hL0 : [.regs, .seam, .evt, .tsk, .hif, .resp, .out] ⊆ L) (h0 : SameBut L s0 s) :
    SameBut L s0 (s.shelfWrite a d) := by
  unfold State.shelfWrite
  try dsimp only
  split
  · exact (SameBut.ite (State.reply_keeps _ (Part.sub (by decide) hL0) (State.setHif_keeps _ (Part.sub (by decide) hL0) (State.setHif_keeps _ (Part.sub (by decide) hL0) h0))) (State.busError_keeps _ _ _ _ (Part.sub (by decide) hL0) (State.fire_keeps _ _ (Part.sub (by decide) hL0) (State.bump_keeps _ (Part.sub (by decide) hL0) (State.setHif_keeps _ (Part.sub (by decide) hL0) h0)))))
  · exact (State.busError_keeps _ _ _ _ (Part.sub (by decide) hL0) (State.fire_keeps _ _ (Part.sub (by decide) hL0) (State.setHif_keeps _ (Part.sub (by decide) hL0) h0)))

theorem State.shelf_keeps {L : List Part} {s0 s : State} (f : State → State)
    (hL0 : [.resp] ⊆ L) (hop : ∀ t, SameBut L s0 t → SameBut L s0 (f t)) (h0 : SameBut L s0 s) :
    SameBut L s0 (s.shelf f) := by
  unfold State.shelf
  exact (SameBut.ite (hop _ h0) (State.reply_keeps _ (Part.sub (by decide) hL0) h0))

theorem execRegisterWrite_keeps (r : Req) (a : Addr) (v : Word) (full : Bool) (s : State) :
    ResKeeps [.regs, .shown, .mirror, .mem, .seam, .cmt, .own, .nextPkt, .rx, .dsf, .tmap, .tribs, .tfrags, .rows, .ttest, .act, .upb, .restarts, .gsm, .txEff, .pairs, .key, .dark, .pipes, .epochs, .prog, .rcnt, .rcntHeld, .excWait, .bufs, .bufRot, .qmap, .memch, .ecc, .mxe, .queues, .turns, .elig, .shapers, .policers, .gates, .gateBusy, .lanes, .lports, .mdio, .tim, .evt, .log, .tsk, .cpu, .pwr, .rst, .sys, .hif, .clock, .timers, .resp, .out, .fresh] s (execRegisterWrite r a v full s) := by
  have hL0 := List.Subset.refl ([.regs, .shown, .mirror, .mem, .seam, .cmt, .own, .nextPkt, .rx, .dsf, .tmap, .tribs, .tfrags, .rows, .ttest, .act, .upb, .restarts, .gsm, .txEff, .pairs, .key, .dark, .pipes, .epochs, .prog, .rcnt, .rcntHeld, .excWait, .bufs, .bufRot, .qmap, .memch, .ecc, .mxe, .queues, .turns, .elig, .shapers, .policers, .gates, .gateBusy, .lanes, .lports, .mdio, .tim, .evt, .log, .tsk, .cpu, .pwr, .rst, .sys, .hif, .clock, .timers, .resp, .out, .fresh] : List Part)
  have h0 := SameBut.refl [.regs, .shown, .mirror, .mem, .seam, .cmt, .own, .nextPkt, .rx, .dsf, .tmap, .tribs, .tfrags, .rows, .ttest, .act, .upb, .restarts, .gsm, .txEff, .pairs, .key, .dark, .pipes, .epochs, .prog, .rcnt, .rcntHeld, .excWait, .bufs, .bufRot, .qmap, .memch, .ecc, .mxe, .queues, .turns, .elig, .shapers, .policers, .gates, .gateBusy, .lanes, .lports, .mdio, .tim, .evt, .log, .tsk, .cpu, .pwr, .rst, .sys, .hif, .clock, .timers, .resp, .out, .fresh] s
  unfold execRegisterWrite
  exact (ResKeeps.next (State.writeReg_keeps _ _ _ _ (Part.sub (by decide) hL0) h0))

theorem execStagedWrite_keeps (r : Req) (a : Addr) (v : Word) (full : Bool) (s : State) :
    ResKeeps [.regs, .seam, .cmt, .evt, .tsk, .hif, .resp, .out] s (execStagedWrite r a v full s) := by
  have hL0 := List.Subset.refl ([.regs, .seam, .cmt, .evt, .tsk, .hif, .resp, .out] : List Part)
  have h0 := SameBut.refl [.regs, .seam, .cmt, .evt, .tsk, .hif, .resp, .out] s
  unfold execStagedWrite
  exact (ResKeeps.ite (ResKeeps.next (State.accessStaged_keeps _ _ _ _ (Part.sub (by decide) hL0) h0)) ResKeeps.fault)

theorem execShelfReadLow_keeps (slot : BitVec 7) (ofs : BitVec 10) (s : State) :
    ResKeeps [.regs, .tim, .evt, .hif, .resp] s (execShelfReadLow slot ofs s) := by
  have hL0 := List.Subset.refl ([.regs, .tim, .evt, .hif, .resp] : List Part)
  have h0 := SameBut.refl [.regs, .tim, .evt, .hif, .resp] s
  unfold execShelfReadLow
  exact (ResKeeps.next (State.shelf_keeps _ (Part.sub (by decide) hL0) (fun _ h1 => (SameBut.ite (State.bankRead_keeps _ (Part.sub (by decide) hL0) h1) (State.shelfLow_keeps _ (Part.sub (by decide) hL0) h1))) h0))

theorem execShelfReadHigh_keeps (slot : BitVec 7) (ofs : BitVec 10) (s : State) :
    ResKeeps [.hif, .resp] s (execShelfReadHigh slot ofs s) := by
  have hL0 := List.Subset.refl ([.hif, .resp] : List Part)
  have h0 := SameBut.refl [.hif, .resp] s
  unfold execShelfReadHigh
  exact (ResKeeps.next (State.shelf_keeps _ (Part.sub (by decide) hL0) (fun _ h1 => (SameBut.ite (State.bankRead_keeps _ (Part.sub (by decide) hL0) h1) (State.shelfHigh_keeps _ (Part.sub (by decide) hL0) h1))) h0))

theorem execShelfWriteLow_keeps (slot : BitVec 7) (ofs : BitVec 10) (d : BitVec 16) (s : State) :
    ResKeeps [.regs, .seam, .evt, .tsk, .hif, .resp, .out] s (execShelfWriteLow slot ofs d s) := by
  have hL0 := List.Subset.refl ([.regs, .seam, .evt, .tsk, .hif, .resp, .out] : List Part)
  have h0 := SameBut.refl [.regs, .seam, .evt, .tsk, .hif, .resp, .out] s
  unfold execShelfWriteLow
  exact (ResKeeps.next (State.shelf_keeps _ (Part.sub (by decide) hL0) (fun _ h1 => (SameBut.ite (State.bankWrite_keeps _ (Part.sub (by decide) hL0) h1) (State.reply_keeps _ (Part.sub (by decide) hL0) (State.setHif_keeps _ (Part.sub (by decide) hL0) h1)))) h0))

theorem execShelfWriteHigh_keeps (slot : BitVec 7) (ofs : BitVec 10) (d : BitVec 16) (s : State) :
    ResKeeps [.regs, .seam, .evt, .tsk, .hif, .resp, .out] s (execShelfWriteHigh slot ofs d s) := by
  have hL0 := List.Subset.refl ([.regs, .seam, .evt, .tsk, .hif, .resp, .out] : List Part)
  have h0 := SameBut.refl [.regs, .seam, .evt, .tsk, .hif, .resp, .out] s
  unfold execShelfWriteHigh
  exact (ResKeeps.next (State.shelf_keeps _ (Part.sub (by decide) hL0) (fun _ h1 => (SameBut.ite (State.bankWrite_keeps _ (Part.sub (by decide) hL0) h1) (State.shelfWrite_keeps _ _ (Part.sub (by decide) hL0) h1))) h0))

theorem execBankSlotRead_keeps (ofs : BitVec 10) (s : State) :
    ResKeeps [.hif, .resp] s (execBankSlotRead ofs s) := by
  have hL0 := List.Subset.refl ([.hif, .resp] : List Part)
  have h0 := SameBut.refl [.hif, .resp] s
  unfold execBankSlotRead
  exact (ResKeeps.next (State.shelf_keeps _ (Part.sub (by decide) hL0) (fun _ h1 => (State.bankRead_keeps _ (Part.sub (by decide) hL0) h1)) h0))

theorem execBankSlotWrite_keeps (ofs : BitVec 10) (_d : BitVec 16) (s : State) :
    ResKeeps [.regs, .seam, .evt, .tsk, .hif, .resp, .out] s (execBankSlotWrite ofs _d s) := by
  have hL0 := List.Subset.refl ([.regs, .seam, .evt, .tsk, .hif, .resp, .out] : List Part)
  have h0 := SameBut.refl [.regs, .seam, .evt, .tsk, .hif, .resp, .out] s
  unfold execBankSlotWrite
  exact (ResKeeps.next (State.shelf_keeps _ (Part.sub (by decide) hL0) (fun _ h1 => (State.bankWrite_keeps _ (Part.sub (by decide) hL0) h1)) h0))

theorem execShelfWriteEffect_keeps (s : State) :
    ResKeeps [.regs, .shown, .mirror, .mem, .seam, .cmt, .own, .nextPkt, .rx, .dsf, .tmap, .tribs, .tfrags, .rows, .ttest, .act, .upb, .restarts, .gsm, .txEff, .pairs, .key, .dark, .pipes, .epochs, .prog, .rcnt, .rcntHeld, .excWait, .bufs, .bufRot, .qmap, .memch, .ecc, .mxe, .queues, .turns, .elig, .shapers, .policers, .gates, .gateBusy, .lanes, .lports, .mdio, .tim, .evt, .log, .tsk, .cpu, .pwr, .rst, .sys, .hif, .clock, .timers, .resp, .out, .fresh] s (execShelfWriteEffect s) := by
  have hL0 := List.Subset.refl ([.regs, .shown, .mirror, .mem, .seam, .cmt, .own, .nextPkt, .rx, .dsf, .tmap, .tribs, .tfrags, .rows, .ttest, .act, .upb, .restarts, .gsm, .txEff, .pairs, .key, .dark, .pipes, .epochs, .prog, .rcnt, .rcntHeld, .excWait, .bufs, .bufRot, .qmap, .memch, .ecc, .mxe, .queues, .turns, .elig, .shapers, .policers, .gates, .gateBusy, .lanes, .lports, .mdio, .tim, .evt, .log, .tsk, .cpu, .pwr, .rst, .sys, .hif, .clock, .timers, .resp, .out, .fresh] : List Part)
  have h0 := SameBut.refl [.regs, .shown, .mirror, .mem, .seam, .cmt, .own, .nextPkt, .rx, .dsf, .tmap, .tribs, .tfrags, .rows, .ttest, .act, .upb, .restarts, .gsm, .txEff, .pairs, .key, .dark, .pipes, .epochs, .prog, .rcnt, .rcntHeld, .excWait, .bufs, .bufRot, .qmap, .memch, .ecc, .mxe, .queues, .turns, .elig, .shapers, .policers, .gates, .gateBusy, .lanes, .lports, .mdio, .tim, .evt, .log, .tsk, .cpu, .pwr, .rst, .sys, .hif, .clock, .timers, .resp, .out, .fresh] s
  unfold execShelfWriteEffect
  split
  · exact (ResKeeps.next h0)
  · exact (ResKeeps.next (State.writeReg_keeps _ _ _ _ (Part.sub (by decide) hL0) (State.setHif_keeps _ (Part.sub (by decide) hL0) h0)))

theorem execMirrorUpdate_keeps (page : BitVec 8) (whole : Bool) (s : State) :
    ResKeeps [.mirror, .hif] s (execMirrorUpdate page whole s) := by
  have hL0 := List.Subset.refl ([.mirror, .hif] : List Part)
  have h0 := SameBut.refl [.mirror, .hif] s
  unfold execMirrorUpdate
  exact (ResKeeps.next (SameBut.ite (State.mirrorPage_keeps _ _ (Part.sub (by decide) hL0) h0) h0))

theorem execUnusedPageAccess_keeps (r : Req) (rd : Bool) (a : Addr) (high : Bool) (s : State) :
    ResKeeps [.regs, .seam, .tim, .evt, .tsk, .hif, .resp, .out] s (execUnusedPageAccess r rd a high s) := by
  have hL0 := List.Subset.refl ([.regs, .seam, .tim, .evt, .tsk, .hif, .resp, .out] : List Part)
  have h0 := SameBut.refl [.regs, .seam, .tim, .evt, .tsk, .hif, .resp, .out] s
  unfold execUnusedPageAccess
  exact (ResKeeps.ite ResKeeps.fault (ResKeeps.ite (ResKeeps.next (State.reply_keeps _ (Part.sub (by decide) hL0) h0)) (ResKeeps.ite (ResKeeps.next (SameBut.ite (State.shelfHigh_keeps _ (Part.sub (by decide) hL0) h0) (State.shelfLow_keeps _ (Part.sub (by decide) hL0) h0))) (ResKeeps.next (State.busError_keeps _ _ _ _ (Part.sub (by decide) hL0) h0)))))

theorem execCopyComplete_keeps (k : CopyKind) (s : State) :
    ResKeeps [.regs, .tmap, .gsm, .prog, .qmap, .gates, .gateBusy] s (execCopyComplete k s) := by
  have hL0 := List.Subset.refl ([.regs, .tmap, .gsm, .prog, .qmap, .gates, .gateBusy] : List Part)
  have h0 := SameBut.refl [.regs, .tmap, .gsm, .prog, .qmap, .gates, .gateBusy] s
  unfold execCopyComplete
  exact (ResKeeps.next (by
    split
    · exact (State.copyTbl_keeps (Part.sub (by decide) hL0) h0)
    · exact (State.copyGsm_keeps (Part.sub (by decide) hL0) h0)
    · exact (State.copyProg_keeps (Part.sub (by decide) hL0) h0)
    · exact (State.copyQmap_keeps (Part.sub (by decide) hL0) h0)
    · exact (State.copyGate_keeps _ (Part.sub (by decide) hL0) h0)))

theorem execTableSelect_keeps (r : Req) (a : Addr) (v : Word) (s : State) :
    ResKeeps [.regs, .shown, .mirror, .mem, .seam, .cmt, .own, .nextPkt, .rx, .dsf, .tmap, .tribs, .tfrags, .rows, .ttest, .act, .upb, .restarts, .gsm, .txEff, .pairs, .key, .dark, .pipes, .epochs, .prog, .rcnt, .rcntHeld, .excWait, .bufs, .bufRot, .qmap, .memch, .ecc, .mxe, .queues, .turns, .elig, .shapers, .policers, .gates, .gateBusy, .lanes, .lports, .mdio, .tim, .evt, .log, .tsk, .cpu, .pwr, .rst, .sys, .hif, .clock, .timers, .resp, .out, .fresh] s (execTableSelect r a v s) := by
  have hL0 := List.Subset.refl ([.regs, .shown, .mirror, .mem, .seam, .cmt, .own, .nextPkt, .rx, .dsf, .tmap, .tribs, .tfrags, .rows, .ttest, .act, .upb, .restarts, .gsm, .txEff, .pairs, .key, .dark, .pipes, .epochs, .prog, .rcnt, .rcntHeld, .excWait, .bufs, .bufRot, .qmap, .memch, .ecc, .mxe, .queues, .turns, .elig, .shapers, .policers, .gates, .gateBusy, .lanes, .lports, .mdio, .tim, .evt, .log, .tsk, .cpu, .pwr, .rst, .sys, .hif, .clock, .timers, .resp, .out, .fresh] : List Part)
  have h0 := SameBut.refl [.regs, .shown, .mirror, .mem, .seam, .cmt, .own, .nextPkt, .rx, .dsf, .tmap, .tribs, .tfrags, .rows, .ttest, .act, .upb, .restarts, .gsm, .txEff, .pairs, .key, .dark, .pipes, .epochs, .prog, .rcnt, .rcntHeld, .excWait, .bufs, .bufRot, .qmap, .memch, .ecc, .mxe, .queues, .turns, .elig, .shapers, .policers, .gates, .gateBusy, .lanes, .lports, .mdio, .tim, .evt, .log, .tsk, .cpu, .pwr, .rst, .sys, .hif, .clock, .timers, .resp, .out, .fresh] s
  unfold execTableSelect
  exact (ResKeeps.ite (ResKeeps.next (State.access_keeps _ _ _ _ (Part.sub (by decide) hL0) (fun _ h1 => (State.performWrite_keeps _ _ _ (Part.sub (by decide) hL0) h1)) h0)) ResKeeps.fault)

theorem execReadBusError_keeps (r : Req) (a : Addr) (full : Bool) (s : State) :
    ResKeeps [.regs, .seam, .tim, .evt, .tsk, .hif, .resp, .out] s (execReadBusError r a full s) := by
  have hL0 := List.Subset.refl ([.regs, .seam, .tim, .evt, .tsk, .hif, .resp, .out] : List Part)
  have h0 := SameBut.refl [.regs, .seam, .tim, .evt, .tsk, .hif, .resp, .out] s
  unfold execReadBusError
  exact (ResKeeps.next (SameBut.ite h0 (State.readAccess_keeps _ _ _ _ _ (Part.sub (by decide) hL0) (fun _ h1 => (State.readEffect_keeps _ (Part.sub (by decide) hL0) h1)) h0)))

end Sys2Proof.Machine
end

