-- ==== Sys2Proof/Laws/SeamFacts.lean ====
section
/-! SUPPORT. Facts about the Seam and about commit slots: what an abort and a going-down Seam do. -/

namespace Sys2Proof.Machine

open Sys2Proof

set_option linter.unusedSimpArgs false
set_option linter.unusedTactic false


theorem fin4 : List.finRange 4 = [0, 1, 2, 3] := by decide


theorem State.abortSlot_frame (s : State) (i : Fin 4) (c) : FrameEv [.cmt] [R.CMT_CNT_ABORTED] s (s.abortSlot i c) := by
  unfold State.abortSlot
  exact FrameEv.trans ⟨by (intro p hp; cases p <;> first | (refine absurd ?_ hp; simp [evParts]; done) | (simp [Part.same]; done)), by (intro k hk he; simp_all [State.rd_wr, State.bump, State.bumpBy])⟩ (FrameEv.fire _ _ _ _ _)

@[simp] theorem State.abortSlot_cmt (s : State) (i : Fin 4) (c) : (s.abortSlot i c).cmt = { s.cmt with slots := s.cmt.slots.set i { s.cmt.slots[i] with st := .aborted, cause := c, writes := [], switched := [], pages := [] } } := by
  unfold State.abortSlot State.setSlot
  simp

theorem State.abortPreparing_frame (s : State) (i : Fin 4) : FrameEv [.cmt, .timers] [R.CMT_CNT_ABORTED] s (s.abortPreparing i) := by
  unfold State.abortPreparing
  dsimp only
  split
  · exact FrameEv.trans ((State.abortSlot_frame s i 4).mono (by (intro x hx; revert hx; simp; try tauto)) (by (intro x hx; revert hx; simp; try tauto))) ⟨by (intro p hp; cases p <;> first | (refine absurd ?_ hp; simp [evParts]; done) | (simp [Part.same]; done)), by (intro k hk he; simp_all [State.rd_wr, State.bump, State.bumpBy])⟩
  · exact FrameEv.refl _ _ _

theorem State.abortPreparing_slots (s : State) (i j : Fin 4) : (s.abortPreparing i).cmt.slots[j] = if j = i ∧ s.cmt.slots[i].st = .preparing then { s.cmt.slots[i] with st := .aborted, cause := 4, writes := [], switched := [], pages := [] } else s.cmt.slots[j] := by
  unfold State.abortPreparing
  dsimp only
  split
  · next h =>
    by_cases e : j = i
    · subst e
      have h' : s.cmt.slots[(j : Nat)].st = .preparing := h
      simp [h']
    · have : (i : Nat) ≠ j := fun h => e (Fin.ext h.symm)
      simp [e, Vector.getElem_set, this]
  · next h => exact (if_neg (fun x => h x.2)).symm

@[simp] theorem State.abortSlot_phase (s : State) (i : Fin 4) (c) : (s.abortSlot i c).seam.phase = s.seam.phase := by
  unfold State.abortSlot
  simp

theorem State.abortPreparing_seam (s : State) (i : Fin 4) : (s.abortPreparing i).seam.phase = s.seam.phase ∧ (s.abortPreparing i).seam.lost = s.seam.lost ∧ (s.abortPreparing i).seam.toLine = s.seam.toLine ∧ (s.abortPreparing i).seam.toFab = s.seam.toFab := by
  unfold State.abortPreparing
  dsimp only
  split <;> simp [State.abortSlot]

theorem State.seamDown_slots (s : State) (d e) (j : Fin 4) : (s.seamDown d e).cmt.slots[j] = if s.cmt.slots[j].st = .preparing then { s.cmt.slots[j] with st := .aborted, cause := 4, writes := [], switched := [], pages := [] } else s.cmt.slots[j] := by
  unfold State.seamDown
  dsimp only
  simp only [State.fireBoth, State.fire_cmt, State.startTimer_cmt]
  rw [fin4]
  simp only [List.foldl_cons, List.foldl_nil, State.abortPreparing_slots]
  fin_cases j <;> simp

theorem State.seamDown_frame (s : State) (d e) : FrameEv [.cmt, .timers] [R.CMT_CNT_ABORTED, R.SM_CNT_DOWN P.SML, R.SM_CNT_DOWN P.SMF, R.SM_CNT_FLIT_DROP P.SML, R.SM_CNT_FLIT_DROP P.SMF] s (s.seamDown d e) := by
  unfold State.seamDown
  dsimp only [State.fireBoth]
  refine FrameEv.trans ?_ (FrameEv.fire _ _ _ _ _)
  refine FrameEv.trans ?_ (FrameEv.fire _ _ _ _ _)
  refine FrameEv.trans ?_ (FrameEv.startTimer (FrameEv.refl _ _ _) _ (by simp))
  refine FrameEv.trans ?_ (FrameEv.foldl (fun t i => (State.abortPreparing_frame t i).mono (by (intro x hx; revert hx; simp; try tauto)) (by (intro x hx; revert hx; simp; try tauto))) _ _)
  exact ⟨by (intro p hp; cases p <;> first | (refine absurd ?_ hp; simp [evParts]; done) | (simp [Part.same]; done)), by (intro k hk he; simp_all [State.rd_wr, State.bump, State.bumpBy])⟩

theorem State.seamDown_seam (s : State) (d e) : (s.seamDown d e).seam.phase = .down ∧ (s.seamDown d e).seam.lost = false ∧ (s.seamDown d e).seam.toLine = [] ∧ (s.seamDown d e).seam.toFab = [] := by
  unfold State.seamDown
  dsimp only [State.fireBoth]
  simp only [fin4, List.foldl_cons, List.foldl_nil, State.fire_seam_phase, State.fire_seam_lost, State.fire_seam_toLine, State.fire_seam_toFab, State.startTimer_seam, State.abortPreparing_seam, State.bumpBy_seam, State.bump_seam, State.setSeam_seam]
  simp

theorem State.seamDown_cnt (s : State) (d e) : 
   (s.seamDown d e).rd (R.SM_CNT_DOWN P.SML) = s.rd (R.SM_CNT_DOWN P.SML) + 1 ∧ (s.seamDown d e).rd (R.SM_CNT_DOWN P.SMF) = s.rd (R.SM_CNT_DOWN P.SMF) + 1 ∧
   (s.seamDown d e).rd (R.SM_CNT_FLIT_DROP P.SML) = s.rd (R.SM_CNT_FLIT_DROP P.SML) + BitVec.ofNat 32 d ∧ (s.seamDown d e).rd (R.SM_CNT_FLIT_DROP P.SMF) = s.rd (R.SM_CNT_FLIT_DROP P.SMF) + BitVec.ofNat 32 e := by
  have F : ∀ (u : State) (k : Nat), k ≠ R.CMT_CNT_ABORTED → eventReg k = false → ((((List.finRange 4).foldl State.abortPreparing u).startTimer T.seamLost).fireBoth E.SM_SEAM_DOWN).rd k = u.rd k := by
    intro u k h1 h2
    unfold State.fireBoth
    rw [State.fire_rd _ _ _ h2, State.fire_rd _ _ _ h2, State.startTimer_rd]
    exact (FrameEv.foldl (ps := [.cmt, .timers]) (ks := [R.CMT_CNT_ABORTED]) (fun t i => State.abortPreparing_frame t i) _ _).2 k (by simpa using h1) h2
  unfold State.seamDown
  dsimp only
  refine ⟨?_, ?_, ?_, ?_⟩ <;> rw [F _ _ (by decide) (by decide)] <;> simp (decide := true) [State.rd_wr, State.bump, State.bumpBy]

theorem State.abortPreparing_lock (s : State) (i : Fin 4) : (s.abortPreparing i).seam.lockFab = s.seam.lockFab ∧
    (s.abortPreparing i).seam.lockLine = s.seam.lockLine := by
  unfold State.abortPreparing
  dsimp only
  split <;> simp [State.abortSlot]

theorem State.seamDown_lock (s : State) (d e : Nat) : (s.seamDown d e).seam.lockFab = s.seam.lockFab ∧
    (s.seamDown d e).seam.lockLine = s.seam.lockLine := by
  unfold State.seamDown
  dsimp only [State.fireBoth]
  simp only [fin4, List.foldl_cons, List.foldl_nil, State.fire_seam_lockFab, State.fire_seam_lockLine, State.startTimer_seam,
    State.abortPreparing_lock, State.bumpBy_seam, State.bump_seam, State.setSeam_seam]
  simp

theorem State.seamDown_running (s : State) (d e : Nat) : (s.seamDown d e).running T.seamLost = true := by
  unfold State.seamDown State.fireBoth
  dsimp only
  rw [State.running_of_timers (State.fire_timers _ _ _), State.running_of_timers (State.fire_timers _ _ _)]
  simp

theorem State.seamDown_raised (s : State) (d e : Nat) (h : s.pwr.on.getLsbD 11 = true) (h' : s.pwr.on.getLsbD 12 = true) :
    Raised (s.seamDown d e) P.SML E.SM_SEAM_DOWN ∧ Raised (s.seamDown d e) P.SMF E.SM_SEAM_DOWN := by
  have hp : (s.seamDown d e).pwr = s.pwr := (State.seamDown_frame s d e).1 .pwr (by decide)
  unfold State.seamDown State.fireBoth at *
  dsimp only at *
  simp only [State.fire_pwr] at hp
  constructor
  · apply State.fire_raised _ (by decide)
    show State.domOn _ 11 = true
    unfold State.domOn
    rw [State.fire_pwr, hp]; exact h
  · apply Raised_fire _ _ (by decide)
    apply State.fire_raised _ (by decide)
    show State.domOn _ 12 = true
    unfold State.domOn
    rw [hp]; exact h'



theorem Delivers.foldl {α : Type} {f : State → α → State} (hf : ∀ t a, Delivers t (f t a)) (l : List α) (s : State) : Delivers s (l.foldl f s) := by
  induction l generalizing s with
  | nil => exact Delivers.refl _
  | cons a l ih => exact (hf s a).trans (ih _)

theorem State.risePending_delivers (s : State) (p : Nat) : Delivers s (s.risePending p) := by
  unfold State.risePending
  apply Delivers.foldl
  intro t b
  split
  · exact State.pendingRise_delivers _ _ _
  · exact Delivers.refl _

theorem State.sendEvents_delivers (s : State) : Delivers s s.sendEvents := by
  unfold State.sendEvents
  dsimp only
  refine Delivers.trans ?_ (Delivers.foldl (fun t p => State.risePending_delivers _ _) _ _)
  have h1 : Delivers s (s.seam.held.foldl State.sendHeld (s.setSeam (fun m => { m with held := [], heldLost := 0 }))) := by
    refine Delivers.trans (⟨⟨_, _, rfl⟩, ⟨_, _, rfl⟩, _, rfl⟩ : Delivers s (s.setSeam (fun m => { m with held := [], heldLost := 0 }))) (Delivers.foldl ?_ _ _)
    intro t x
    unfold State.sendHeld
    dsimp only
    split
    · exact (State.record_delivers _ _).trans (State.fire_delivers _ _ _)
    · exact State.record_delivers _ _
  split
  · exact h1
  · exact (h1.trans (Delivers.of_same rfl rfl rfl)).trans (State.fire_delivers _ _ _)

theorem State.settleF_seam (s : State) : s.settleF.seam = s.seam := by
  unfold State.settleF; split <;> rfl

theorem State.settleF_clock (s : State) : s.settleF.clock = s.clock := by
  unfold State.settleF; split <;> rfl

theorem State.settleF_timers (s : State) : s.settleF.timers = s.timers := by
  unfold State.settleF; split <;> rfl

end Sys2Proof.Machine

namespace Sys2Proof

open Sys2Proof.Machine

variable {ps : List Part} {ks : List Nat}

theorem FrameEv.pendingRise (ps : List Part) (ks : List Nat) (s : State) (p b : Nat) : FrameEv ps ks s (s.pendingRise p b) :=
  ⟨SameBut.mono (by intro x hx; apply List.mem_append_left; revert hx; cases x <;> decide)
    (State.pendingRise_keeps p b (List.Subset.refl _) (SameBut.refl _ s)), fun k _ he => State.pendingRise_rd s p b (deliveryReg_of_eventReg he)⟩

theorem FrameEv.record (ps : List Part) (ks : List Nat) (s : State) (x : EvRec) : FrameEv ps ks s (s.record x) :=
  ⟨SameBut.mono (by intro x hx; apply List.mem_append_left; revert hx; cases x <;> decide)
    (State.record_keeps x (List.Subset.refl _) (SameBut.refl _ s)), fun k _ he => State.record_rd s x (deliveryReg_of_eventReg he)⟩

theorem FrameEv.risePending (ps : List Part) (ks : List Nat) (s : State) (p : Nat) : FrameEv ps ks s (s.risePending p) := by
  unfold State.risePending
  exact FrameEv.foldl (fun t b => FrameEv.ite (FrameEv.pendingRise _ _ _ _ _) (FrameEv.refl _ _ _)) _ _

theorem FrameEv.sendHeld (ps : List Part) (ks : List Nat) (s : State) (x : EvRec) : FrameEv ps ks s (s.sendHeld x) := by
  unfold State.sendHeld
  dsimp only
  split
  · exact (FrameEv.record _ _ _ _).andFire _ _
  · exact FrameEv.record _ _ _ _

theorem FrameEv.sendEvents (ps : List Part) (ks : List Nat) (s : State) : FrameEv ps ks s s.sendEvents := by
  unfold State.sendEvents
  dsimp only
  refine FrameEv.trans ?_ (FrameEv.foldl (fun t p => FrameEv.risePending _ _ _ _) _ _)
  split
  · exact ((FrameEv.refl _ _ _).setSeam _).trans (FrameEv.foldl (fun t p => FrameEv.sendHeld _ _ _ _) _ _)
  · refine FrameEv.andFire ⟨?_, ?_⟩ _ _
    · exact SameBut.trans (((FrameEv.refl ps ks s).setSeam _).trans (FrameEv.foldl (fun t p => FrameEv.sendHeld _ _ _ _) _ _)).1 (SameBut.mono (by intro x hx; apply List.mem_append_left; revert hx; cases x <;> decide) (State.bumpBy_keeps _ _ (List.Subset.refl _) (SameBut.refl _ _)))
    · intro k hk he
      rw [State.rd_bumpBy_ne _ _ (ne_of_eventReg he (by decide))]
      exact (((FrameEv.refl ps ks s).setSeam _).trans (FrameEv.foldl (fun t p => FrameEv.sendHeld _ _ _ _) _ _)).2 k hk he

end Sys2Proof
end

