-- ==== Sys2Proof/Laws/Moves.lean ====
section
/-! SUPPORT. Facts about thimble moves and the windows of chapter 3. -/

namespace Sys2Proof.Machine

open Sys2Proof

set_option linter.unusedSimpArgs false
set_option linter.unusedTactic false

theorem State.abortOpen_cmt (s : State) (l : List (Fin 4)) (hl : l.Nodup) (j : Fin 4) : (l.foldl (fun t i => if t.cmt.slots[i].st = .opened then t.abortSlot i 6 else t) s).cmt.slots[j] = if j ∈ l ∧ s.cmt.slots[j].st = .opened then { s.cmt.slots[j] with st := .aborted, cause := 6, writes := [], switched := [], pages := [] } else s.cmt.slots[j] := by
  induction l generalizing s with
  | nil => simp
  | cons a l ih =>
    rw [List.foldl_cons, ih _ (List.nodup_cons.1 hl).2]
    have ha := (List.nodup_cons.1 hl).1
    by_cases e : j = a
    · subst e
      simp only [ha, false_and, if_false, List.mem_cons, true_or, true_and]
      split
      · simp
      · rfl
    · have e' : (a : Nat) ≠ j := fun h => e (Fin.ext h.symm)
      have : (if s.cmt.slots[a].st = .opened then s.abortSlot a 6 else s).cmt.slots[j] = s.cmt.slots[j] := by
        split
        · simp [Vector.getElem_set, e']
        · rfl
      rw [this]
      simp [e]

theorem State.abortOpens_frame (s : State) : FrameEv [.cmt] [R.CMT_CNT_ABORTED] s ((List.finRange 4).foldl (fun t i => if t.cmt.slots[i].st = .opened then t.abortSlot i 6 else t) s) := by
  have hf : ∀ (t : State) (i : Fin 4), FrameEv [.cmt] [R.CMT_CNT_ABORTED] t (if t.cmt.slots[i].st = .opened then t.abortSlot i 6 else t) := by
    intro t i
    by_cases h : t.cmt.slots[i].st = .opened
    · rw [if_pos h]; exact State.abortSlot_frame _ _ _
    · rw [if_neg h]; exact FrameEv.refl _ _ _
  exact FrameEv.foldl hf _ _

theorem State.thimbleMove_frame (s : State) : FrameEv [.cmt] movedRegs s s.thimbleMove := by
  unfold State.thimbleMove
  dsimp only
  refine FrameEv.andFire (FrameEv.bump (FrameEv.setFld (FrameEv.trans ((State.abortOpens_frame _).mono (List.Subset.refl _) (by decide)) ?_) _ _ (by decide)) _ (by decide)) _ _
  have : ∀ (l : List Nat) (u : State), (∀ x ∈ l, x < 10) → FrameEv [.cmt] movedRegs u (l.foldl (fun t n => t.setFld (F.CMT_CUR_TAG_TAG n) 0) u) := by
    intro l
    induction l with
    | nil => intro u _; exact FrameEv.refl _ _ _
    | cons a l ih =>
      intro u hl
      rw [List.foldl_cons]
      refine FrameEv.trans (FrameEv.setFld (FrameEv.refl _ _ _) _ _ ?_) (ih _ (fun x hx => hl x (List.mem_cons_of_mem _ hx)))
      have := hl a (by simp)
      unfold movedRegs
      rw [List.mem_append]
      right
      exact List.mem_map.2 ⟨a, List.mem_range.2 this, rfl⟩
  exact this _ _ (fun x hx => List.mem_range.1 hx)

theorem State.curTags_zero (s : State) (m : Nat) (n : Nat) (h : n < m) : ((List.range m).foldl (fun (t : State) n => t.setFld (F.CMT_CUR_TAG_TAG n) 0) s).fld (F.CMT_CUR_TAG_TAG n) = 0 := by
  induction m with
  | zero => omega
  | succ m ih =>
    rw [List.range_succ, List.foldl_append]
    simp only [List.foldl_cons, List.foldl_nil]
    by_cases e : n = m
    · subst e; rw [State.fld_setFld_self _ _ _ (show 0 + 8 ≤ 32 by decide)]; rfl
    · rw [State.fld_setFld_key _ _ _ _ (show R.CMT_CUR_TAG n ≠ R.CMT_CUR_TAG m by unfold R.CMT_CUR_TAG; omega), ih (by omega)]

theorem State.thimbleMove_moved (s : State) : Moved s s.thimbleMove := by
  have e29 : ∀ k, eventReg k = false → ∀ u : State, (u.fire P.OWN E.OWN_THIMBLE_MOVED).rd k = u.rd k := fun k hk u => State.fire_rd _ _ _ hk
  refine ⟨?_, ?_, ?_, ?_⟩
  · intro j
    have hc : s.thimbleMove.cmt = ((List.finRange 4).foldl (fun t i => if t.cmt.slots[i].st = .opened then t.abortSlot i 6 else t) s).cmt := by
      unfold State.thimbleMove
      dsimp only
      rw [State.fire_cmt, State.bump_cmt, State.setFld_cmt]
      have : ∀ (l : List Nat) (u : State), (l.foldl (fun t n => t.setFld (F.CMT_CUR_TAG_TAG n) 0) u).cmt = u.cmt := by
        intro l; induction l with
        | nil => intro u; rfl
        | cons a l ih => intro u; rw [List.foldl_cons, ih, State.setFld_cmt]
      exact this _ _
    rw [hc, State.abortOpen_cmt _ _ (List.nodup_finRange 4)]
    simp only [List.mem_finRange, true_and]
  · intro n
    have hn : ∀ n : Fin 10, eventReg (R.CMT_CUR_TAG n.val) = false ∧ R.CMT_CUR_TAG n.val ≠ R.OWN_CNT_HANDOVER ∧ R.CMT_CUR_TAG n.val ≠ R.OWN_OWN_CTL := by decide
    unfold State.thimbleMove State.fld
    dsimp only
    rw [e29 _ (hn n).1, State.rd_bump_ne _ (hn n).2.1, State.rd_setFld_ne _ _ _ (hn n).2.2]
    exact State.curTags_zero _ 10 n.val n.isLt
  · unfold State.thimbleMove State.bit State.fld
    dsimp only
    rw [e29 _ (by decide), State.rd_bump_ne _ (by decide)]
    have := State.fld_setFld_self ((List.range 10).foldl (fun (t : State) n => t.setFld (F.CMT_CUR_TAG_TAG n) 0) ((List.finRange 4).foldl (fun t i => if t.cmt.slots[i].st = .opened then t.abortSlot i 6 else t) s)) F.OWN_OWN_CTL_DELEGATE_CORES 0 (by decide)
    unfold State.fld at this
    rw [this]; simp
  · unfold State.thimbleMove
    dsimp only
    rw [e29 _ (by decide), State.rd_bump_self, State.rd_setFld_ne _ _ _ (by decide)]
    congr 1
    have a1 : ∀ (l : List Nat) (u : State), (∀ x ∈ l, x < 10) → (l.foldl (fun (t : State) n => t.setFld (F.CMT_CUR_TAG_TAG n) 0) u).rd R.OWN_CNT_HANDOVER = u.rd R.OWN_CNT_HANDOVER := by
      intro l; induction l with
      | nil => intro u _; rfl
      | cons a l ih =>
        intro u hl
        rw [List.foldl_cons, ih _ (fun x hx => hl x (List.mem_cons_of_mem _ hx)), State.rd_setFld_ne]
        have := hl a (by simp)
        show R.OWN_CNT_HANDOVER ≠ R.CMT_CUR_TAG a
        unfold R.CMT_CUR_TAG R.OWN_CNT_HANDOVER; omega
    rw [a1 _ _ (fun x hx => List.mem_range.1 hx)]
    exact (State.abortOpens_frame s).2 _ (by decide) (by decide)

theorem State.thimbleMove_timers (s : State) : s.thimbleMove.timers = s.timers := (State.thimbleMove_frame s).1 .timers (by decide)

theorem State.thimbleMove_own (s : State) : s.thimbleMove.own = s.own := (State.thimbleMove_frame s).1 .own (by decide)


theorem Moved.pre {s s' t : State} (h : Moved s' t) (hc : s'.cmt = s.cmt) (hr : s'.rd R.OWN_CNT_HANDOVER = s.rd R.OWN_CNT_HANDOVER) :
    Moved s t := by
  obtain ⟨a, b, c, d⟩ := h
  rw [hc] at a
  exact ⟨a, b, c, d.trans (by rw [hr])⟩

theorem Moved.post {s t u : State} (h : Moved s t) (hc : u.cmt = t.cmt) (hr : ∀ k, eventReg k = false → u.rd k = t.rd k) :
    Moved s u := by
  obtain ⟨a, b, c, d⟩ := h
  have hn : ∀ n : Fin 10, eventReg (R.CMT_CUR_TAG n.val) = false := by decide
  refine ⟨by rw [hc]; exact a, fun n => ?_, ?_, ?_⟩
  · rw [← b n]; unfold State.fld; rw [hr _ (hn n)]
  · rw [← c]; unfold State.bit State.fld; rw [hr _ (by decide)]
  · rw [hr _ (by decide), d]

theorem State.setHolder_keys (s : State) (a : BitVec 2) (k : Nat) : (s.setHolder a).rd k = s.rd k := by
  unfold State.setHolder; dsimp only; split <;> rfl

theorem State.setHolder_frame (s : State) (a : BitVec 2) : FrameEv [.own, .timers] [] s (s.setHolder a) :=
  ⟨SameBut.mono (by decide) (State.setHolder_keeps (L := [.own, .timers]) a (List.Subset.refl _) (SameBut.refl _ s)), fun k _ _ => State.setHolder_keys s a k⟩

theorem State.setHolder_own (s : State) (a : BitVec 2) :
    (s.setHolder a).own = { s.own with st := if a = 3 then .vacant else .held, holder := a } := by
  unfold State.setHolder; dsimp only; split <;> rfl

theorem State.closePresence_frame (s : State) : FrameEv [.own, .timers] [] s s.closePresence := by
  refine ⟨State.closePresence_keeps (by decide) (SameBut.refl _ s), fun k hk he => ?_⟩
  unfold State.closePresence
  split
  · rw [State.fire_rd _ _ _ he]; rfl
  · rfl

theorem State.closePresence_own (s : State) : s.closePresence.own = { s.own with presWin := false } := by
  unfold State.closePresence
  split
  · rw [State.fire_own]; rfl
  · next h =>
    cases e : s.own with
    | mk => rw [e] at h; simp_all

theorem State.closePresence_cmt (s : State) : s.closePresence.cmt = s.cmt := (State.closePresence_frame s).1 .cmt (by decide)

theorem State.closeForce_frame (s : State) : FrameEv [.own, .timers] [] s s.closeForce :=
  ⟨State.closeForce_keeps (by decide) (SameBut.refl _ s), fun k hk he => rfl⟩

@[simp] theorem State.closeForce_own (s : State) : s.closeForce.own = { s.own with forceWin := false } := rfl

theorem State.openForce_frame (s : State) : FrameEv [.own, .timers] [] s s.openForce := by
  refine ⟨State.openForce_keeps (by decide) (SameBut.refl _ s), fun k hk he => ?_⟩
  unfold State.openForce
  rw [State.fire_rd _ _ _ he]; rfl

@[simp] theorem State.openForce_own (s : State) : s.openForce.own = { s.own with forceWin := true } := by
  unfold State.openForce; rw [State.fire_own]; rfl

/-- The holder becomes `a`, and the thimble moves (R83, R85-R87). -/

theorem State.move_facts (s : State) (a : BitVec 2) :
    Moved s (s.setHolder a).thimbleMove ∧ FrameEv [.cmt, .own, .timers] movedRegs s (s.setHolder a).thimbleMove ∧
    (s.setHolder a).thimbleMove.own = { s.own with st := if a = 3 then .vacant else .held, holder := a } := by
  refine ⟨Moved.pre (State.thimbleMove_moved _) (State.setHolder_cmt s a) (State.setHolder_keys s a _), ?_, ?_⟩
  · exact ((State.setHolder_frame s a).mono (by decide) (by decide)).trans ((State.thimbleMove_frame _).mono (by decide) (List.Subset.refl _))
  · rw [State.thimbleMove_own, State.setHolder_own]

/-- The same with the presence window closed after it. -/

theorem State.move_close_facts (s : State) (a : BitVec 2) :
    Moved s (s.setHolder a).thimbleMove.closePresence ∧ FrameEv [.cmt, .own, .timers] movedRegs s (s.setHolder a).thimbleMove.closePresence ∧
    (s.setHolder a).thimbleMove.closePresence.own = { s.own with st := if a = 3 then .vacant else .held, holder := a, presWin := false } := by
  obtain ⟨h1, h2, h3⟩ := State.move_facts s a
  refine ⟨Moved.post h1 (State.closePresence_cmt _) (fun k he => (State.closePresence_frame _).2 k (by simp) he), ?_, ?_⟩
  · exact h2.trans ((State.closePresence_frame _).mono (by decide) (by decide))
  · rw [State.closePresence_own, h3]

end Sys2Proof.Machine
end

