-- ==== Sys2Proof/Laws/PageFrames.lean ====
section
/-! SUPPORT. Frames that leave whole pages open, through the operations of the model. -/

namespace Sys2Proof

open Sys2Proof.Machine

variable {ps qs : List Part} {ks ls : List Nat} {s t u : State}

theorem FrameEv.page (h : FrameEv ps ks s t) (hk : ∀ k ∈ ks, pageOf k ∈ ls) : PageEv ps ls s t :=
  ⟨h.1, fun k h1 h2 => h.2 k (fun m => h1 (hk k m)) h2⟩

theorem PageEv.refl (ps : List Part) (ks : List Nat) (s : State) : PageEv ps ks s s := ⟨SameBut.refl _ s, fun _ _ _ => rfl⟩

theorem PageEv.trans (h : PageEv ps ks s t) (h' : PageEv ps ks t u) : PageEv ps ks s u :=
  ⟨SameBut.trans h.1 h'.1, fun k hk he => (h'.2 k hk he).trans (h.2 k hk he)⟩

theorem PageEv.mono (h : PageEv ps ks s t) (h1 : ps ⊆ qs) (h2 : ks ⊆ ls) : PageEv qs ls s t :=
  ⟨SameBut.mono (by intro x hx; rw [List.mem_append] at *; exact hx.imp_right (fun m => h1 m)) h.1, fun k hk he => h.2 k (fun m => hk (h2 m)) he⟩

theorem PageEv.of_same (h : SameBut ps s t) (hr : t.regs = s.regs) : PageEv ps ks s t :=
  ⟨SameBut.mono (List.subset_append_right _ _) h, fun k _ _ => State.rd_of_regs hr k⟩

/-- A firing event. -/
theorem PageEv.fire (ps : List Part) (ks : List Nat) (s : State) (p b : Nat) : PageEv ps ks s (s.fire p b) :=
  ⟨SameBut.mono (by intro x hx; apply List.mem_append_left; revert hx; cases x <;> decide)
    (State.fire_keeps p b (List.Subset.refl _) (SameBut.refl _ s)), fun k _ he => State.fire_rd s p b he⟩

theorem PageEv.startTimer (h : PageEv ps ks s t) (x : Nat) (hp : .timers ∈ ps) : PageEv ps ks s (t.startTimer x) :=
  h.trans (PageEv.of_same (SameBut.mono (by simpa using hp) (State.startTimer_keeps x (List.Subset.refl _) (SameBut.refl _ t))) rfl)

theorem PageEv.stopTimer (h : PageEv ps ks s t) (x : Nat) (hp : .timers ∈ ps) : PageEv ps ks s (t.stopTimer x) :=
  h.trans (PageEv.of_same (SameBut.mono (by simpa using hp) (State.stopTimer_keeps x (List.Subset.refl _) (SameBut.refl _ t))) rfl)

theorem PageEv.setHif (h : PageEv ps ks s t) (f : Hif → Hif) : PageEv ps ks s (t.setHif f) :=
  h.trans ⟨SameBut.mono (by intro x hx; apply List.mem_append_left; revert hx; cases x <;> decide)
    (State.setHif_keeps f (List.Subset.refl _) (SameBut.refl _ t)), fun k _ _ => rfl⟩

theorem PageEv.setTsk (h : PageEv ps ks s t) (f : Tsk → Tsk) : PageEv ps ks s (t.setTsk f) :=
  h.trans ⟨SameBut.mono (by intro x hx; apply List.mem_append_left; revert hx; cases x <;> decide)
    (State.setTsk_keeps f (List.Subset.refl _) (SameBut.refl _ t)), fun k _ _ => rfl⟩

/-- A step that leaves the registers alone. -/
theorem PageEv.upd (h : PageEv ps ks s t) (hs : SameBut qs t u) (hq : qs ⊆ ps) (hr : u.regs = t.regs) : PageEv ps ks s u :=
  h.trans (PageEv.of_same (SameBut.mono hq hs) hr)

theorem PageEv.andFire (h : PageEv ps ks s t) (p b : Nat) : PageEv ps ks s (t.fire p b) := h.trans (PageEv.fire _ _ _ _ _)

/-- A word is written. -/
theorem PageEv.wr (h : PageEv ps ks s t) (k : Nat) (w : Word) (hk : pageOf k ∈ ks) : PageEv ps ks s (t.wr k w) :=
  h.trans ⟨SameBut.mono (by intro x hx; apply List.mem_append_left; revert hx; cases x <;> decide)
    (State.wr_keeps k w (List.Subset.refl _) (SameBut.refl _ t)),
    fun k' hk' _ => State.rd_wr_ne _ _ (fun e => hk' (e ▸ hk))⟩

theorem PageEv.bump (h : PageEv ps ks s t) (k : Nat) (hk : pageOf k ∈ ks) : PageEv ps ks s (t.bump k) := h.wr _ _ hk

theorem PageEv.bumpBy (h : PageEv ps ks s t) (k n : Nat) (hk : pageOf k ∈ ks) : PageEv ps ks s (t.bumpBy k n) := h.wr _ _ hk

theorem PageEv.setFld (h : PageEv ps ks s t) (f : Fld) (v : Nat) (hk : pageOf f.key ∈ ks) : PageEv ps ks s (t.setFld f v) := h.wr _ _ hk

theorem PageEv.store (h : PageEv ps ks s t) (k : Nat) (v : Word) (hk : pageOf k ∈ ks) : PageEv ps ks s (t.store k v) := h.wr _ _ hk

theorem PageEv.reply (h : PageEv ps ks s t) (x : Resp) (hp : .resp ∈ ps) : PageEv ps ks s (t.reply x) :=
  h.trans (PageEv.of_same (SameBut.mono (by simpa using hp) (State.reply_keeps x (List.Subset.refl _) (SameBut.refl _ t))) rfl)

theorem PageEv.emit (h : PageEv ps ks s t) (x : Out) : PageEv ps ks s (t.emit x) :=
  h.trans ⟨SameBut.mono (by intro x hx; apply List.mem_append_left; revert hx; cases x <;> decide)
    (State.emit_keeps x (List.Subset.refl _) (SameBut.refl _ t)), fun k _ _ => rfl⟩

theorem PageEv.setSeam (h : PageEv ps ks s t) (f : Seam → Seam) : PageEv ps ks s (t.setSeam f) :=
  h.trans ⟨SameBut.mono (by intro x hx; apply List.mem_append_left; revert hx; cases x <;> decide)
    (State.setSeam_keeps f (List.Subset.refl _) (SameBut.refl _ t)), fun k _ _ => rfl⟩

theorem PageEv.foldl {α : Type} {f : State → α → State} (hf : ∀ t a, PageEv ps ks t (f t a)) (l : List α) (s : State) :
    PageEv ps ks s (l.foldl f s) := by
  induction l generalizing s with
  | nil => exact PageEv.refl _ _ _
  | cons a l ih => exact (hf s a).trans (ih _)

theorem PageEv.ite {c : Prop} [Decidable c] (h : PageEv ps ks s t) (h' : PageEv ps ks s u) :
    PageEv ps ks s (if c then t else u) := by
  split <;> assumption

theorem PageEv.lossTimer {π : List Part} {κ : List Nat} {σ τ : State} (hh : PageEv π κ σ τ)  (h0 : .timers ∈ π) : PageEv π κ σ (τ.lossTimer) :=
  hh.trans ⟨State.lossTimer_keeps (L := evParts ++ π)  (by simp [evParts, h0]) (SameBut.refl _ τ),
    fun kk _ _ => State.rd_of_regs ((State.lossTimer_keeps (L := [.timers])  (List.Subset.refl _) (SameBut.refl _ τ)) .regs (by decide)) kk⟩

theorem PageEv.dropId {π : List Part} {κ : List Nat} {σ τ : State} (hh : PageEv π κ σ τ)  (h0 : .act ∈ π) (h1 : .upb ∈ π) (h2 : .pairs ∈ π) : PageEv π κ σ (τ.dropId) :=
  hh.trans ⟨State.dropId_keeps (L := evParts ++ π)  (by simp [evParts, h0, h1, h2]) (SameBut.refl _ τ),
    fun kk _ _ => State.rd_of_regs ((State.dropId_keeps (L := [.act, .upb, .pairs])  (List.Subset.refl _) (SameBut.refl _ τ)) .regs (by decide)) kk⟩

theorem PageEv.rangeNow {π : List Part} {κ : List Nat} {σ τ : State} (hh : PageEv π κ σ τ) (c : Chan) (eqd : Nat) (h0 : .act ∈ π) : PageEv π κ σ (τ.rangeNow c eqd) :=
  hh.trans ⟨State.rangeNow_keeps (L := evParts ++ π) c eqd (by simp [evParts, h0]) (SameBut.refl _ τ),
    fun kk _ _ => State.rd_of_regs ((State.rangeNow_keeps (L := [.act]) c eqd (List.Subset.refl _) (SameBut.refl _ τ)) .regs (by decide)) kk⟩

theorem PageEv.schedule {π : List Part} {κ : List Nat} {σ τ : State} (hh : PageEv π κ σ τ) (c : Chan) (kind : BurstKind) (frame : Nat) (start : Nat) (pre : Nat) (h0 : .upb ∈ π) : PageEv π κ σ (τ.schedule c kind frame start pre) :=
  hh.trans ⟨State.schedule_keeps (L := evParts ++ π) c kind frame start pre (by simp [evParts, h0]) (SameBut.refl _ τ),
    fun kk _ _ => State.rd_of_regs ((State.schedule_keeps (L := [.upb]) c kind frame start pre (List.Subset.refl _) (SameBut.refl _ τ)) .regs (by decide)) kk⟩

theorem PageEv.setProfile {π : List Part} {κ : List Nat} {σ τ : State} (hh : PageEv π κ σ τ) (c : Chan) (b : ProfileBody) (h0 : .act ∈ π) : PageEv π κ σ (τ.setProfile c b) :=
  hh.trans ⟨State.setProfile_keeps (L := evParts ++ π) c b (by simp [evParts, h0]) (SameBut.refl _ τ),
    fun kk _ _ => State.rd_of_regs ((State.setProfile_keeps (L := [.act]) c b (List.Subset.refl _) (SameBut.refl _ τ)) .regs (by decide)) kk⟩

theorem PageEv.rangeBurst {π : List Part} {κ : List Nat} {σ τ : State} (hh : PageEv π κ σ τ) (c : Chan) (frame : Nat) (start : Nat) (pre : Nat) (h0 : .upb ∈ π) (h1 : .timers ∈ π) : PageEv π κ σ (τ.rangeBurst c frame start pre) :=
  hh.trans ⟨State.rangeBurst_keeps (L := evParts ++ π) c frame start pre (by simp [evParts, h0, h1]) (SameBut.refl _ τ),
    fun kk _ _ => State.rd_of_regs ((State.rangeBurst_keeps (L := [.upb, .timers]) c frame start pre (List.Subset.refl _) (SameBut.refl _ τ)) .regs (by decide)) kk⟩

theorem PageEv.stopCores {π : List Part} {κ : List Nat} {σ τ : State} (hh : PageEv π κ σ τ) (old : BitVec 8) (new : BitVec 8) (h0 : .cpu ∈ π) : PageEv π κ σ (τ.stopCores old new) :=
  hh.trans ⟨State.stopCores_keeps (L := evParts ++ π) old new (by simp [evParts, h0]) (SameBut.refl _ τ),
    fun kk _ _ => State.rd_of_regs ((State.stopCores_keeps (L := [.tsk, .cpu]) old new (List.Subset.refl _) (SameBut.refl _ τ)) .regs (by decide)) kk⟩

theorem PageEv.opWdtKick {π : List Part} {κ : List Nat} {σ τ : State} (hh : PageEv π κ σ τ) (v : Word) (h0 : .timers ∈ π) : PageEv π κ σ (τ.opWdtKick v) :=
  hh.trans ⟨State.opWdtKick_keeps (L := evParts ++ π) v (by simp [evParts, h0]) (SameBut.refl _ τ),
    fun kk _ _ => State.rd_of_regs ((State.opWdtKick_keeps (L := [.timers]) v (List.Subset.refl _) (SameBut.refl _ τ)) .regs (by decide)) kk⟩

theorem PageEv.beginStep {π : List Part} {κ : List Nat} {σ τ : State} (hh : PageEv π κ σ τ) (n : Nat) (h0 : .rst ∈ π) : PageEv π κ σ (τ.beginStep n) :=
  hh.trans ⟨State.beginStep_keeps (L := evParts ++ π) n (by simp [evParts, h0]) (SameBut.refl _ τ),
    fun kk _ _ => State.rd_of_regs ((State.beginStep_keeps (L := [.rst]) n (List.Subset.refl _) (SameBut.refl _ τ)) .regs (by decide)) kk⟩

theorem PageEv.endStep {π : List Part} {κ : List Nat} {σ τ : State} (hh : PageEv π κ σ τ) (n : Nat) (h0 : .rst ∈ π) : PageEv π κ σ (τ.endStep n) :=
  hh.trans ⟨State.endStep_keeps (L := evParts ++ π) n (by simp [evParts, h0]) (SameBut.refl _ τ),
    fun kk _ _ => State.rd_of_regs ((State.endStep_keeps (L := [.rst]) n (List.Subset.refl _) (SameBut.refl _ τ)) .regs (by decide)) kk⟩

theorem PageEv.copyFails {π : List Part} {κ : List Nat} {σ τ : State} (hh : PageEv π κ σ τ) (copy1 : Bool) (cause : BitVec 4) (h0 : .rst ∈ π) : PageEv π κ σ (τ.copyFails copy1 cause) :=
  hh.trans ⟨State.copyFails_keeps (L := evParts ++ π) copy1 cause (by simp [evParts, h0]) (SameBut.refl _ τ),
    fun kk _ _ => State.rd_of_regs ((State.copyFails_keeps (L := [.rst]) copy1 cause (List.Subset.refl _) (SameBut.refl _ τ)) .regs (by decide)) kk⟩

theorem PageEv.setTrib {π : List Part} {κ : List Nat} {σ τ : State} (hh : PageEv π κ σ τ) (ctx : Fin 1024) (x : Trib) (h0 : .tribs ∈ π) : PageEv π κ σ (τ.setTrib ctx x) :=
  hh.trans ⟨State.setTrib_keeps (L := evParts ++ π) ctx x (by simp [evParts, h0]) (SameBut.refl _ τ),
    fun kk _ _ => State.rd_of_regs ((State.setTrib_keeps (L := [.tribs]) ctx x (List.Subset.refl _) (SameBut.refl _ τ)) .regs (by decide)) kk⟩

theorem PageEv.turnEpoch {π : List Part} {κ : List Nat} {σ τ : State} (hh : PageEv π κ σ τ) (r : Nat) (h0 : .epochs ∈ π) : PageEv π κ σ (τ.turnEpoch r) :=
  hh.trans ⟨State.turnEpoch_keeps (L := evParts ++ π) r (by simp [evParts, h0]) (SameBut.refl _ τ),
    fun kk _ _ => State.rd_of_regs ((State.turnEpoch_keeps (L := [.epochs]) r (List.Subset.refl _) (SameBut.refl _ τ)) .regs (by decide)) kk⟩

theorem PageEv.dropMarks {π : List Part} {κ : List Nat} {σ τ : State} (hh : PageEv π κ σ τ) (tag : BitVec 8) (h0 : .cmt ∈ π) (h1 : .pipes ∈ π) : PageEv π κ σ (τ.dropMarks tag) :=
  hh.trans ⟨State.dropMarks_keeps (L := evParts ++ π) tag (by simp [evParts, h0, h1]) (SameBut.refl _ τ),
    fun kk _ _ => State.rd_of_regs ((State.dropMarks_keeps (L := [.cmt, .pipes]) tag (List.Subset.refl _) (SameBut.refl _ τ)) .regs (by decide)) kk⟩

theorem PageEv.markUnit {π : List Part} {κ : List Nat} {σ τ : State} (hh : PageEv π κ σ τ) (i : Fin 4) (u : ApplyUnit) (h0 : .cmt ∈ π) : PageEv π κ σ (τ.markUnit i u) :=
  hh.trans ⟨State.markUnit_keeps (L := evParts ++ π) i u (by simp [evParts, h0]) (SameBut.refl _ τ),
    fun kk _ _ => State.rd_of_regs ((State.markUnit_keeps (L := [.cmt]) i u (List.Subset.refl _) (SameBut.refl _ τ)) .regs (by decide)) kk⟩

theorem PageEv.loadEpochs {π : List Part} {κ : List Nat} {σ τ : State} (hh : PageEv π κ σ τ) (i : Fin 4) (h0 : .epochs ∈ π) : PageEv π κ σ (τ.loadEpochs i) :=
  hh.trans ⟨State.loadEpochs_keeps (L := evParts ++ π) i (by simp [evParts, h0]) (SameBut.refl _ τ),
    fun kk _ _ => State.rd_of_regs ((State.loadEpochs_keeps (L := [.epochs]) i (List.Subset.refl _) (SameBut.refl _ τ)) .regs (by decide)) kk⟩

theorem PageEv.setPolicers {π : List Part} {κ : List Nat} {σ τ : State} (hh : PageEv π κ σ τ) (i : Fin 4) (h0 : .policers ∈ π) : PageEv π κ σ (τ.setPolicers i) :=
  hh.trans ⟨State.setPolicers_keeps (L := evParts ++ π) i (by simp [evParts, h0]) (SameBut.refl _ τ),
    fun kk _ _ => State.rd_of_regs ((State.setPolicers_keeps (L := [.policers]) i (List.Subset.refl _) (SameBut.refl _ τ)) .regs (by decide)) kk⟩

theorem PageEv.setBuf {π : List Part} {κ : List Nat} {σ τ : State} (hh : PageEv π κ σ τ) (key : Nat) (b : Buf) (h0 : .bufs ∈ π) : PageEv π κ σ (τ.setBuf key b) :=
  hh.trans ⟨State.setBuf_keeps (L := evParts ++ π) key b (by simp [evParts, h0]) (SameBut.refl _ τ),
    fun kk _ _ => State.rd_of_regs ((State.setBuf_keeps (L := [.bufs]) key b (List.Subset.refl _) (SameBut.refl _ τ)) .regs (by decide)) kk⟩

theorem PageEv.setQueue {π : List Part} {κ : List Nat} {σ τ : State} (hh : PageEv π κ σ τ) (q : Nat) (ps : List Pkt) (h0 : .queues ∈ π) : PageEv π κ σ (τ.setQueue q ps) :=
  hh.trans ⟨State.setQueue_keeps (L := evParts ++ π) q ps (by simp [evParts, h0]) (SameBut.refl _ τ),
    fun kk _ _ => State.rd_of_regs ((State.setQueue_keeps (L := [.queues]) q ps (List.Subset.refl _) (SameBut.refl _ τ)) .regs (by decide)) kk⟩

theorem PageEv.stopBackPressure {π : List Part} {κ : List Nat} {σ τ : State} (hh : PageEv π κ σ τ) (rx : Option (Nat × Nat × Nat)) (h0 : .lports ∈ π) : PageEv π κ σ (τ.stopBackPressure rx) :=
  hh.trans ⟨State.stopBackPressure_keeps (L := evParts ++ π) rx (by simp [evParts, h0]) (SameBut.refl _ τ),
    fun kk _ _ => State.rd_of_regs ((State.stopBackPressure_keeps (L := [.lports]) rx (List.Subset.refl _) (SameBut.refl _ τ)) .regs (by decide)) kk⟩

theorem PageEv.reviveBuffers {π : List Part} {κ : List Nat} {σ τ : State} (hh : PageEv π κ σ τ) (m : Nat) (h0 : .bufs ∈ π) : PageEv π κ σ (τ.reviveBuffers m) :=
  hh.trans ⟨State.reviveBuffers_keeps (L := evParts ++ π) m (by simp [evParts, h0]) (SameBut.refl _ τ),
    fun kk _ _ => State.rd_of_regs ((State.reviveBuffers_keeps (L := [.bufs]) m (List.Subset.refl _) (SameBut.refl _ τ)) .regs (by decide)) kk⟩

theorem PageEv.setUpb {π : List Part} {κ : List Nat} {σ τ : State} (hh : PageEv π κ σ τ) (c : Chan) (x : Upb) (h0 : .upb ∈ π) : PageEv π κ σ (τ.setUpb c x) :=
  hh.trans ⟨State.setUpb_keeps (L := evParts ++ π) c x (by simp [evParts, h0]) (SameBut.refl _ τ),
    fun kk _ _ => State.rd_of_regs ((State.setUpb_keeps (L := [.upb]) c x (List.Subset.refl _) (SameBut.refl _ τ)) .regs (by decide)) kk⟩

theorem PageEv.setActCh {π : List Part} {κ : List Nat} {σ τ : State} (hh : PageEv π κ σ τ) (c : Chan) (x : ActCh) (h0 : .act ∈ π) : PageEv π κ σ (τ.setActCh c x) :=
  hh.trans ⟨State.setActCh_keeps (L := evParts ++ π) c x (by simp [evParts, h0]) (SameBut.refl _ τ),
    fun kk _ _ => State.rd_of_regs ((State.setActCh_keeps (L := [.act]) c x (List.Subset.refl _) (SameBut.refl _ τ)) .regs (by decide)) kk⟩

theorem PageEv.txSettle {π : List Part} {κ : List Nat} {σ τ : State} (hh : PageEv π κ σ τ) (c : Chan) (h0 : .txEff ∈ π) : PageEv π κ σ (τ.txSettle c) :=
  hh.trans ⟨State.txSettle_keeps (L := evParts ++ π) c (by simp [evParts, h0]) (SameBut.refl _ τ),
    fun kk _ _ => State.rd_of_regs ((State.txSettle_keeps (L := [.txEff]) c (List.Subset.refl _) (SameBut.refl _ τ)) .regs (by decide)) kk⟩

theorem PageEv.dropSpecial {π : List Part} {κ : List Nat} {σ τ : State} (hh : PageEv π κ σ τ)  (h0 : .upb ∈ π) : PageEv π κ σ (τ.dropSpecial) :=
  hh.trans ⟨State.dropSpecial_keeps (L := evParts ++ π)  (by simp [evParts, h0]) (SameBut.refl _ τ),
    fun kk _ _ => State.rd_of_regs ((State.dropSpecial_keeps (L := [.upb])  (List.Subset.refl _) (SameBut.refl _ τ)) .regs (by decide)) kk⟩

theorem PageEv.setEqd {π : List Part} {κ : List Nat} {σ τ : State} (hh : PageEv π κ σ τ) (c : Chan) (eqd : Nat) (h0 : .act ∈ π) : PageEv π κ σ (τ.setEqd c eqd) :=
  hh.trans ⟨State.setEqd_keeps (L := evParts ++ π) c eqd (by simp [evParts, h0]) (SameBut.refl _ τ),
    fun kk _ _ => State.rd_of_regs ((State.setEqd_keeps (L := [.act]) c eqd (List.Subset.refl _) (SameBut.refl _ τ)) .regs (by decide)) kk⟩

theorem PageEv.takeContainers {π : List Part} {κ : List Nat} {σ τ : State} (hh : PageEv π κ σ τ) (xs : List (Nat × List Byte)) (h0 : .tribs ∈ π) : PageEv π κ σ (τ.takeContainers xs) :=
  hh.trans ⟨State.takeContainers_keeps (L := evParts ++ π) xs (by simp [evParts, h0]) (SameBut.refl _ τ),
    fun kk _ _ => State.rd_of_regs ((State.takeContainers_keeps (L := [.tribs]) xs (List.Subset.refl _) (SameBut.refl _ τ)) .regs (by decide)) kk⟩

theorem PageEv.storeNode {π : List Part} {κ : List Nat} {σ τ : State} (hh : PageEv π κ σ τ) (n : Nat) (ws : List Word) (h0 : .mem ∈ π) : PageEv π κ σ (τ.storeNode n ws) :=
  hh.trans ⟨State.storeNode_keeps (L := evParts ++ π) n ws (by simp [evParts, h0]) (SameBut.refl _ τ),
    fun kk _ _ => State.rd_of_regs ((State.storeNode_keeps (L := [.mem]) n ws (List.Subset.refl _) (SameBut.refl _ τ)) .regs (by decide)) kk⟩

theorem PageEv.countRule {π : List Part} {κ : List Nat} {σ τ : State} (hh : PageEv π κ σ τ) (l : Leaf) (h0 : .rcnt ∈ π) : PageEv π κ σ (τ.countRule l) :=
  hh.trans ⟨State.countRule_keeps (L := evParts ++ π) l (by simp [evParts, h0]) (SameBut.refl _ τ),
    fun kk _ _ => State.rd_of_regs ((State.countRule_keeps (L := [.rcnt]) l (List.Subset.refl _) (SameBut.refl _ τ)) .regs (by decide)) kk⟩

theorem PageEv.toFlow {π : List Part} {κ : List Nat} {σ τ : State} (hh : PageEv π κ σ τ) (p : Fin 4) (k : Pkt) (h0 : .pipes ∈ π) : PageEv π κ σ (τ.toFlow p k) :=
  hh.trans ⟨State.toFlow_keeps (L := evParts ++ π) p k (by simp [evParts, h0]) (SameBut.refl _ τ),
    fun kk _ _ => State.rd_of_regs ((State.toFlow_keeps (L := [.pipes]) p k (List.Subset.refl _) (SameBut.refl _ τ)) .regs (by decide)) kk⟩

theorem PageEv.setCtx {π : List Part} {κ : List Nat} {σ τ : State} (hh : PageEv π κ σ τ) (ext : Bool) (i : Nat) (bs : List Byte) (h0 : .mem ∈ π) (h1 : .ecc ∈ π) : PageEv π κ σ (τ.setCtx ext i bs) :=
  hh.trans ⟨State.setCtx_keeps (L := evParts ++ π) ext i bs (by simp [evParts, h0, h1]) (SameBut.refl _ τ),
    fun kk _ _ => State.rd_of_regs ((State.setCtx_keeps (L := [.mem, .ecc, .out]) ext i bs (List.Subset.refl _) (SameBut.refl _ τ)) .regs (by decide)) kk⟩

theorem PageEv.sendOn {π : List Part} {κ : List Nat} {σ τ : State} (hh : PageEv π κ σ τ) (pipe : Fin 4) (q : Pkt) (h0 : .pipes ∈ π) (h1 : .excWait ∈ π) : PageEv π κ σ (τ.sendOn pipe q) :=
  hh.trans ⟨State.sendOn_keeps (L := evParts ++ π) pipe q (by simp [evParts, h0, h1]) (SameBut.refl _ τ),
    fun kk _ _ => State.rd_of_regs ((State.sendOn_keeps (L := [.pipes, .excWait]) pipe q (List.Subset.refl _) (SameBut.refl _ τ)) .regs (by decide)) kk⟩

theorem PageEv.setRx {π : List Part} {κ : List Nat} {σ τ : State} (hh : PageEv π κ σ τ) (c : Chan) (x : Rx) (h0 : .rx ∈ π) : PageEv π κ σ (τ.setRx c x) :=
  hh.trans ⟨State.setRx_keeps (L := evParts ++ π) c x (by simp [evParts, h0]) (SameBut.refl _ τ),
    fun kk _ _ => State.rd_of_regs ((State.setRx_keeps (L := [.rx]) c x (List.Subset.refl _) (SameBut.refl _ τ)) .regs (by decide)) kk⟩

theorem PageEv.setDsf {π : List Part} {κ : List Nat} {σ τ : State} (hh : PageEv π κ σ τ) (c : Chan) (x : Dsf) (h0 : .dsf ∈ π) : PageEv π κ σ (τ.setDsf c x) :=
  hh.trans ⟨State.setDsf_keeps (L := evParts ++ π) c x (by simp [evParts, h0]) (SameBut.refl _ τ),
    fun kk _ _ => State.rd_of_regs ((State.setDsf_keeps (L := [.dsf]) c x (List.Subset.refl _) (SameBut.refl _ τ)) .regs (by decide)) kk⟩

theorem PageEv.mapSection {π : List Part} {κ : List Nat} {σ τ : State} (hh : PageEv π κ σ τ) (c : Chan) (h : FrameHdr) (h0 : .dsf ∈ π) : PageEv π κ σ (τ.mapSection c h) :=
  hh.trans ⟨State.mapSection_keeps (L := evParts ++ π) c h (by simp [evParts, h0]) (SameBut.refl _ τ),
    fun kk _ _ => State.rd_of_regs ((State.mapSection_keeps (L := [.dsf]) c h (List.Subset.refl _) (SameBut.refl _ τ)) .regs (by decide)) kk⟩

theorem PageEv.newCandidate {π : List Part} {κ : List Nat} {σ τ : State} (hh : PageEv π κ σ τ) (c : Chan) (pos : Nat) (diff : Nat) (h0 : .dsf ∈ π) : PageEv π κ σ (τ.newCandidate c pos diff) :=
  hh.trans ⟨State.newCandidate_keeps (L := evParts ++ π) c pos diff (by simp [evParts, h0]) (SameBut.refl _ τ),
    fun kk _ _ => State.rd_of_regs ((State.newCandidate_keeps (L := [.dsf]) c pos diff (List.Subset.refl _) (SameBut.refl _ τ)) .regs (by decide)) kk⟩

theorem PageEv.setReasm {π : List Part} {κ : List Nat} {σ τ : State} (hh : PageEv π κ σ τ) (c : Chan) (m : SMap Reasm) (h0 : .dsf ∈ π) : PageEv π κ σ (τ.setReasm c m) :=
  hh.trans ⟨State.setReasm_keeps (L := evParts ++ π) c m (by simp [evParts, h0]) (SameBut.refl _ τ),
    fun kk _ _ => State.rd_of_regs ((State.setReasm_keeps (L := [.dsf]) c m (List.Subset.refl _) (SameBut.refl _ τ)) .regs (by decide)) kk⟩

theorem PageEv.joinFragment {π : List Part} {κ : List Nat} {σ τ : State} (hh : PageEv π κ σ τ) (c : Chan) (tid : Nat) (sop : Bool) (eop : Bool) (data : List Byte) (stamp : Nat) (h0 : .cmt ∈ π) (h1 : .nextPkt ∈ π) (h2 : .dsf ∈ π) (h3 : .pipes ∈ π) : PageEv π κ σ (τ.joinFragment c tid sop eop data stamp) :=
  hh.trans ⟨State.joinFragment_keeps (L := evParts ++ π) c tid sop eop data stamp (by simp [evParts, h0, h1, h2, h3]) (SameBut.refl _ τ),
    fun kk _ _ => State.rd_of_regs ((State.joinFragment_keeps (L := [.cmt, .nextPkt, .dsf, .pipes]) c tid sop eop data stamp (List.Subset.refl _) (SameBut.refl _ τ)) .regs (by decide)) kk⟩

theorem PageEv.spoilPacket {π : List Part} {κ : List Nat} {σ τ : State} (hh : PageEv π κ σ τ) (c : Chan) (tid : Nat) (eop : Bool) (h0 : .dsf ∈ π) : PageEv π κ σ (τ.spoilPacket c tid eop) :=
  hh.trans ⟨State.spoilPacket_keeps (L := evParts ++ π) c tid eop (by simp [evParts, h0]) (SameBut.refl _ τ),
    fun kk _ _ => State.rd_of_regs ((State.spoilPacket_keeps (L := [.dsf]) c tid eop (List.Subset.refl _) (SameBut.refl _ τ)) .regs (by decide)) kk⟩

theorem PageEv.setItem {π : List Part} {κ : List Nat} {σ τ : State} (hh : PageEv π κ σ τ) (i : Nat) (x : Item) : PageEv π κ σ (τ.setItem i x) :=
  hh.trans ⟨State.setItem_keeps (L := evParts ++ π) i x (by simp [evParts]) (SameBut.refl _ τ),
    fun kk _ _ => State.rd_of_regs ((State.setItem_keeps (L := [.tsk]) i x (List.Subset.refl _) (SameBut.refl _ τ)) .regs (by decide)) kk⟩

theorem PageEv.setLevel {π : List Part} {κ : List Nat} {σ τ : State} (hh : PageEv π κ σ τ) (p : Nat) (l : List Nat) : PageEv π κ σ (τ.setLevel p l) :=
  hh.trans ⟨State.setLevel_keeps (L := evParts ++ π) p l (by simp [evParts]) (SameBut.refl _ τ),
    fun kk _ _ => State.rd_of_regs ((State.setLevel_keeps (L := [.tsk]) p l (List.Subset.refl _) (SameBut.refl _ τ)) .regs (by decide)) kk⟩

theorem PageEv.setCorePort {π : List Part} {κ : List Nat} {σ τ : State} (hh : PageEv π κ σ τ) (n : Fin 8) (p : Port) : PageEv π κ σ (τ.setCorePort n p) :=
  hh.trans ⟨State.setCorePort_keeps (L := evParts ++ π) n p (by simp [evParts]) (SameBut.refl _ τ),
    fun kk _ _ => State.rd_of_regs ((State.setCorePort_keeps (L := [.tsk]) n p (List.Subset.refl _) (SameBut.refl _ τ)) .regs (by decide)) kk⟩

theorem PageEv.announceReady {π : List Part} {κ : List Nat} {σ τ : State} (hh : PageEv π κ σ τ) (i : Nat) (byYield : Bool) : PageEv π κ σ (τ.announceReady i byYield) :=
  hh.trans ⟨State.announceReady_keeps (L := evParts ++ π) i byYield (by simp [evParts]) (SameBut.refl _ τ),
    fun kk _ _ => State.rd_of_regs ((State.announceReady_keeps (L := [.tsk]) i byYield (List.Subset.refl _) (SameBut.refl _ τ)) .regs (by decide)) kk⟩

theorem PageEv.makeReady {π : List Part} {κ : List Nat} {σ τ : State} (hh : PageEv π κ σ τ) (i : Nat) (x : Item) (byYield : Bool) : PageEv π κ σ (τ.makeReady i x byYield) :=
  hh.trans ⟨State.makeReady_keeps (L := evParts ++ π) i x byYield (by simp [evParts]) (SameBut.refl _ τ),
    fun kk _ _ => State.rd_of_regs ((State.makeReady_keeps (L := [.tsk]) i x byYield (List.Subset.refl _) (SameBut.refl _ τ)) .regs (by decide)) kk⟩

theorem PageEv.unlist {π : List Part} {κ : List Nat} {σ τ : State} (hh : PageEv π κ σ τ) (i : Nat) : PageEv π κ σ (τ.unlist i) :=
  hh.trans ⟨State.unlist_keeps (L := evParts ++ π) i (by simp [evParts]) (SameBut.refl _ τ),
    fun kk _ _ => State.rd_of_regs ((State.unlist_keeps (L := [.tsk]) i (List.Subset.refl _) (SameBut.refl _ τ)) .regs (by decide)) kk⟩

theorem PageEv.postFlag {π : List Part} {κ : List Nat} {σ τ : State} (hh : PageEv π κ σ τ) (i : Nat) (f : Nat) : PageEv π κ σ (τ.postFlag i f) :=
  hh.trans ⟨State.postFlag_keeps (L := evParts ++ π) i f (by simp [evParts]) (SameBut.refl _ τ),
    fun kk _ _ => State.rd_of_regs ((State.postFlag_keeps (L := [.tsk]) i f (List.Subset.refl _) (SameBut.refl _ τ)) .regs (by decide)) kk⟩

theorem PageEv.cancelItem {π : List Part} {κ : List Nat} {σ τ : State} (hh : PageEv π κ σ τ) (i : Nat) : PageEv π κ σ (τ.cancelItem i) :=
  hh.trans ⟨State.cancelItem_keeps (L := evParts ++ π) i (by simp [evParts]) (SameBut.refl _ τ),
    fun kk _ _ => State.rd_of_regs ((State.cancelItem_keeps (L := [.tsk]) i (List.Subset.refl _) (SameBut.refl _ τ)) .regs (by decide)) kk⟩

theorem PageEv.finish {π : List Part} {κ : List Nat} {σ τ : State} (hh : PageEv π κ σ τ) (n : Fin 8) (i : Nat) (byYield : Bool) : PageEv π κ σ (τ.finish n i byYield) :=
  hh.trans ⟨State.finish_keeps (L := evParts ++ π) n i byYield (by simp [evParts]) (SameBut.refl _ τ),
    fun kk _ _ => State.rd_of_regs ((State.finish_keeps (L := [.tsk]) n i byYield (List.Subset.refl _) (SameBut.refl _ τ)) .regs (by decide)) kk⟩

theorem PageEv.stopCore {π : List Part} {κ : List Nat} {σ τ : State} (hh : PageEv π κ σ τ) (n : Fin 8) (h0 : .cpu ∈ π) : PageEv π κ σ (τ.stopCore n) :=
  hh.trans ⟨State.stopCore_keeps (L := evParts ++ π) n (by simp [evParts, h0]) (SameBut.refl _ τ),
    fun kk _ _ => State.rd_of_regs ((State.stopCore_keeps (L := [.tsk, .cpu]) n (List.Subset.refl _) (SameBut.refl _ τ)) .regs (by decide)) kk⟩

theorem PageEv.cancelBy {π : List Part} {κ : List Nat} {σ τ : State} (hh : PageEv π κ σ τ) (r : Req) (i : Nat) : PageEv π κ σ (τ.cancelBy r i) :=
  hh.trans ⟨State.cancelBy_keeps (L := evParts ++ π) r i (by simp [evParts]) (SameBut.refl _ τ),
    fun kk _ _ => State.rd_of_regs ((State.cancelBy_keeps (L := [.tsk]) r i (List.Subset.refl _) (SameBut.refl _ τ)) .regs (by decide)) kk⟩

theorem PageEv.applyPost {π : List Part} {κ : List Nat} {σ τ : State} (hh : PageEv π κ σ τ) : PageEv π κ σ (τ.applyPost) :=
  hh.trans ⟨State.applyPost_keeps (L := evParts ++ π)  (by simp [evParts]) (SameBut.refl _ τ),
    fun kk _ _ => State.rd_of_regs ((State.applyPost_keeps (L := [.tsk])  (List.Subset.refl _) (SameBut.refl _ τ)) .regs (by decide)) kk⟩

theorem PageEv.takeItem {π : List Part} {κ : List Nat} {σ τ : State} (hh : PageEv π κ σ τ) (n : Fin 8) (h0 : .resp ∈ π) : PageEv π κ σ (τ.takeItem n) :=
  hh.trans ⟨State.takeItem_keeps (L := evParts ++ π) n (by simp [evParts, h0]) (SameBut.refl _ τ),
    fun kk _ _ => State.rd_of_regs ((State.takeItem_keeps (L := [.tsk, .resp]) n (List.Subset.refl _) (SameBut.refl _ τ)) .regs (by decide)) kk⟩

theorem PageEv.giveUp {π : List Part} {κ : List Nat} {σ τ : State} (hh : PageEv π κ σ τ) (n : Fin 8) (i : Nat) (byYield : Bool) (h0 : .resp ∈ π) : PageEv π κ σ (τ.giveUp n i byYield) :=
  hh.trans ⟨State.giveUp_keeps (L := evParts ++ π) n i byYield (by simp [evParts, h0]) (SameBut.refl _ τ),
    fun kk _ _ => State.rd_of_regs ((State.giveUp_keeps (L := [.tsk, .resp]) n i byYield (List.Subset.refl _) (SameBut.refl _ τ)) .regs (by decide)) kk⟩

theorem PageEv.causeOf {π : List Part} {κ : List Nat} {σ τ : State} (hh : PageEv π κ σ τ) (n : Fin 8) (h0 : .resp ∈ π) : PageEv π κ σ (τ.causeOf n) :=
  hh.trans ⟨State.causeOf_keeps (L := evParts ++ π) n (by simp [evParts, h0]) (SameBut.refl _ τ),
    fun kk _ _ => State.rd_of_regs ((State.causeOf_keeps (L := [.tsk, .resp]) n (List.Subset.refl _) (SameBut.refl _ τ)) .regs (by decide)) kk⟩

theorem PageEv.itemOff {π : List Part} {κ : List Nat} {σ τ : State} (hh : PageEv π κ σ τ) (i : Nat) : PageEv π κ σ (τ.itemOff i) :=
  hh.trans ⟨State.itemOff_keeps (L := evParts ++ π) i (by simp [evParts]) (SameBut.refl _ τ),
    fun kk _ _ => State.rd_of_regs ((State.itemOff_keeps (L := [.tsk]) i (List.Subset.refl _) (SameBut.refl _ τ)) .regs (by decide)) kk⟩

theorem PageEv.itemOn {π : List Part} {κ : List Nat} {σ τ : State} (hh : PageEv π κ σ τ) (i : Nat) : PageEv π κ σ (τ.itemOn i) :=
  hh.trans ⟨State.itemOn_keeps (L := evParts ++ π) i (by simp [evParts]) (SameBut.refl _ τ),
    fun kk _ _ => State.rd_of_regs ((State.itemOn_keeps (L := [.tsk]) i (List.Subset.refl _) (SameBut.refl _ τ)) .regs (by decide)) kk⟩

theorem PageEv.opPost {π : List Part} {κ : List Nat} {σ τ : State} (hh : PageEv π κ σ τ) (r : Req) (v : Word) : PageEv π κ σ (τ.opPost r v) :=
  hh.trans ⟨State.opPost_keeps (L := evParts ++ π) r v (by simp [evParts]) (SameBut.refl _ τ),
    fun kk _ _ => State.rd_of_regs ((State.opPost_keeps (L := [.tsk]) r v (List.Subset.refl _) (SameBut.refl _ τ)) .regs (by decide)) kk⟩

theorem PageEv.takeHold {π : List Part} {κ : List Nat} {σ τ : State} (hh : PageEv π κ σ τ) (pos : Nat) (h0 : .bufs ∈ π) (h1 : .cpu ∈ π) : PageEv π κ σ (τ.takeHold pos) :=
  hh.trans ⟨State.takeHold_keeps (L := evParts ++ π) pos (by simp [evParts, h0, h1]) (SameBut.refl _ τ),
    fun kk _ _ => State.rd_of_regs ((State.takeHold_keeps (L := [.bufs, .cpu]) pos (List.Subset.refl _) (SameBut.refl _ τ)) .regs (by decide)) kk⟩

theorem PageEv.holdCounters {π : List Part} {κ : List Nat} {σ τ : State} (hh : PageEv π κ σ τ) (p : Nat) (h0 : .shown ∈ π) (h1 : .rcntHeld ∈ π) : PageEv π κ σ (τ.holdCounters p) :=
  hh.trans ⟨State.holdCounters_keeps (L := evParts ++ π) p (by simp [evParts, h0, h1]) (SameBut.refl _ τ),
    fun kk _ _ => State.rd_of_regs ((State.holdCounters_keeps (L := [.shown, .rcntHeld]) p (List.Subset.refl _) (SameBut.refl _ τ)) .regs (by decide)) kk⟩

theorem PageEv.releaseCounters {π : List Part} {κ : List Nat} {σ τ : State} (hh : PageEv π κ σ τ) (p : Nat) (h0 : .shown ∈ π) (h1 : .rcntHeld ∈ π) : PageEv π κ σ (τ.releaseCounters p) :=
  hh.trans ⟨State.releaseCounters_keeps (L := evParts ++ π) p (by simp [evParts, h0, h1]) (SameBut.refl _ τ),
    fun kk _ _ => State.rd_of_regs ((State.releaseCounters_keeps (L := [.shown, .rcntHeld]) p (List.Subset.refl _) (SameBut.refl _ τ)) .regs (by decide)) kk⟩

theorem PageEv.opRecRead {π : List Part} {κ : List Nat} {σ τ : State} (hh : PageEv π κ σ τ)  (h0 : .resp ∈ π) : PageEv π κ σ (τ.opRecRead) :=
  hh.trans ⟨State.opRecRead_keeps (L := evParts ++ π)  (by simp [evParts, h0]) (SameBut.refl _ τ),
    fun kk _ _ => State.rd_of_regs ((State.opRecRead_keeps (L := [.evt, .resp])  (List.Subset.refl _) (SameBut.refl _ τ)) .regs (by decide)) kk⟩

theorem PageEv.setSlot {π : List Part} {κ : List Nat} {σ τ : State} (hh : PageEv π κ σ τ) (i : Fin 4) (x : Slot) (h0 : .cmt ∈ π) : PageEv π κ σ (τ.setSlot i x) :=
  hh.trans ⟨State.setSlot_keeps (L := evParts ++ π) i x (by simp [evParts, h0]) (SameBut.refl _ τ),
    fun kk _ _ => State.rd_of_regs ((State.setSlot_keeps (L := [.cmt]) i x (List.Subset.refl _) (SameBut.refl _ τ)) .regs (by decide)) kk⟩

theorem PageEv.setHolder {π : List Part} {κ : List Nat} {σ τ : State} (hh : PageEv π κ σ τ) (a : BitVec 2) (h0 : .own ∈ π) (h1 : .timers ∈ π) : PageEv π κ σ (τ.setHolder a) :=
  hh.trans ⟨State.setHolder_keeps (L := evParts ++ π) a (by simp [evParts, h0, h1]) (SameBut.refl _ τ),
    fun kk _ _ => State.rd_of_regs ((State.setHolder_keeps (L := [.own, .timers]) a (List.Subset.refl _) (SameBut.refl _ τ)) .regs (by decide)) kk⟩

theorem PageEv.closeForce {π : List Part} {κ : List Nat} {σ τ : State} (hh : PageEv π κ σ τ)  (h0 : .own ∈ π) (h1 : .timers ∈ π) : PageEv π κ σ (τ.closeForce) :=
  hh.trans ⟨State.closeForce_keeps (L := evParts ++ π)  (by simp [evParts, h0, h1]) (SameBut.refl _ τ),
    fun kk _ _ => State.rd_of_regs ((State.closeForce_keeps (L := [.own, .timers])  (List.Subset.refl _) (SameBut.refl _ τ)) .regs (by decide)) kk⟩

theorem PageEv.rtcTick {π : List Part} {κ : List Nat} {σ τ : State} (hh : PageEv π κ σ τ)  (h0 : .own ∈ π) (h1 : .clock ∈ π) : PageEv π κ σ (τ.rtcTick) :=
  hh.trans ⟨State.rtcTick_keeps (L := evParts ++ π)  (by simp [evParts, h0, h1]) (SameBut.refl _ τ),
    fun kk _ _ => State.rd_of_regs ((State.rtcTick_keeps (L := [.own, .clock])  (List.Subset.refl _) (SameBut.refl _ τ)) .regs (by decide)) kk⟩

theorem PageEv.lineTick {π : List Part} {κ : List Nat} {σ τ : State} (hh : PageEv π κ σ τ)  (h0 : .clock ∈ π) : PageEv π κ σ (τ.lineTick) :=
  hh.trans ⟨State.lineTick_keeps (L := evParts ++ π)  (by simp [evParts, h0]) (SameBut.refl _ τ),
    fun kk _ _ => State.rd_of_regs ((State.lineTick_keeps (L := [.clock])  (List.Subset.refl _) (SameBut.refl _ τ)) .regs (by decide)) kk⟩

theorem PageEv.fabTick {π : List Part} {κ : List Nat} {σ τ : State} (hh : PageEv π κ σ τ)  (h0 : .clock ∈ π) : PageEv π κ σ (τ.fabTick) :=
  hh.trans ⟨State.fabTick_keeps (L := evParts ++ π)  (by simp [evParts, h0]) (SameBut.refl _ τ),
    fun kk _ _ => State.rd_of_regs ((State.fabTick_keeps (L := [.clock])  (List.Subset.refl _) (SameBut.refl _ τ)) .regs (by decide)) kk⟩

theorem PageEv.idle {π : List Part} {κ : List Nat} {σ τ : State} (hh : PageEv π κ σ τ)  (h0 : .own ∈ π) (h1 : .clock ∈ π) : PageEv π κ σ (τ.idle) :=
  hh.trans ⟨State.idle_keeps (L := evParts ++ π)  (by simp [evParts, h0, h1]) (SameBut.refl _ τ),
    fun kk _ _ => State.rd_of_regs ((State.idle_keeps (L := [.own, .clock])  (List.Subset.refl _) (SameBut.refl _ τ)) .regs (by decide)) kk⟩

theorem PageEv.setAct {π : List Part} {κ : List Nat} {σ τ : State} (hh : PageEv π κ σ τ) (f : Act → Act) (h0 : .act ∈ π) : PageEv π κ σ (τ.setAct f) :=
  hh.trans ⟨State.setAct_keeps (L := evParts ++ π) f (by simp [evParts, h0]) (SameBut.refl _ τ),
    fun kk _ _ => State.rd_of_regs ((State.setAct_keeps (L := [.act]) f (List.Subset.refl _) (SameBut.refl _ τ)) .regs (by decide)) kk⟩

theorem PageEv.noteResult {π : List Part} {κ : List Nat} {σ τ : State} (hh : PageEv π κ σ τ) (h : MsgHdr) (result : Nat) (h0 : .act ∈ π) : PageEv π κ σ (τ.noteResult h result) :=
  hh.trans ⟨State.noteResult_keeps (L := evParts ++ π) h result (by simp [evParts, h0]) (SameBut.refl _ τ),
    fun kk _ _ => State.rd_of_regs ((State.noteResult_keeps (L := [.act]) h result (List.Subset.refl _) (SameBut.refl _ τ)) .regs (by decide)) kk⟩

theorem PageEv.setPair {π : List Part} {κ : List Nat} {σ τ : State} (hh : PageEv π κ σ τ) (n : Fin 8) (x : Pair) (h0 : .pairs ∈ π) : PageEv π κ σ (τ.setPair n x) :=
  hh.trans ⟨State.setPair_keeps (L := evParts ++ π) n x (by simp [evParts, h0]) (SameBut.refl _ τ),
    fun kk _ _ => State.rd_of_regs ((State.setPair_keeps (L := [.pairs]) n x (List.Subset.refl _) (SameBut.refl _ τ)) .regs (by decide)) kk⟩

theorem PageEv.erasePair {π : List Part} {κ : List Nat} {σ τ : State} (hh : PageEv π κ σ τ) (n : Fin 8) (h0 : .upb ∈ π) (h1 : .pairs ∈ π) : PageEv π κ σ (τ.erasePair n) :=
  hh.trans ⟨State.erasePair_keeps (L := evParts ++ π) n (by simp [evParts, h0, h1]) (SameBut.refl _ τ),
    fun kk _ _ => State.rd_of_regs ((State.erasePair_keeps (L := [.upb, .pairs]) n (List.Subset.refl _) (SameBut.refl _ τ)) .regs (by decide)) kk⟩

theorem PageEv.eraseAll {π : List Part} {κ : List Nat} {σ τ : State} (hh : PageEv π κ σ τ)  (h0 : .upb ∈ π) (h1 : .pairs ∈ π) : PageEv π κ σ (τ.eraseAll) :=
  hh.trans ⟨State.eraseAll_keeps (L := evParts ++ π)  (by simp [evParts, h0, h1]) (SameBut.refl _ τ),
    fun kk _ _ => State.rd_of_regs ((State.eraseAll_keeps (L := [.upb, .pairs])  (List.Subset.refl _) (SameBut.refl _ τ)) .regs (by decide)) kk⟩

theorem PageEv.setKey {π : List Part} {κ : List Nat} {σ τ : State} (hh : PageEv π κ σ τ) (f : Key → Key) (h0 : .key ∈ π) : PageEv π κ σ (τ.setKey f) :=
  hh.trans ⟨State.setKey_keeps (L := evParts ++ π) f (by simp [evParts, h0]) (SameBut.refl _ τ),
    fun kk _ _ => State.rd_of_regs ((State.setKey_keeps (L := [.key]) f (List.Subset.refl _) (SameBut.refl _ τ)) .regs (by decide)) kk⟩

theorem PageEv.opKeyErase {π : List Part} {κ : List Nat} {σ τ : State} (hh : PageEv π κ σ τ) (v : Word) (h0 : .upb ∈ π) (h1 : .pairs ∈ π) : PageEv π κ σ (τ.opKeyErase v) :=
  hh.trans ⟨State.opKeyErase_keeps (L := evParts ++ π) v (by simp [evParts, h0, h1]) (SameBut.refl _ τ),
    fun kk _ _ => State.rd_of_regs ((State.opKeyErase_keeps (L := [.upb, .pairs]) v (List.Subset.refl _) (SameBut.refl _ τ)) .regs (by decide)) kk⟩

theorem PageEv.setLane {π : List Part} {κ : List Nat} {σ τ : State} (hh : PageEv π κ σ τ) (l : Fin 48) (x : Lane) (h0 : .lanes ∈ π) : PageEv π κ σ (τ.setLane l x) :=
  hh.trans ⟨State.setLane_keeps (L := evParts ++ π) l x (by simp [evParts, h0]) (SameBut.refl _ τ),
    fun kk _ _ => State.rd_of_regs ((State.setLane_keeps (L := [.lanes]) l x (List.Subset.refl _) (SameBut.refl _ τ)) .regs (by decide)) kk⟩

theorem PageEv.setPort {π : List Part} {κ : List Nat} {σ τ : State} (hh : PageEv π κ σ τ) (p : Fin 8) (x : LPort) (h0 : .lports ∈ π) : PageEv π κ σ (τ.setPort p x) :=
  hh.trans ⟨State.setPort_keeps (L := evParts ++ π) p x (by simp [evParts, h0]) (SameBut.refl _ τ),
    fun kk _ _ => State.rd_of_regs ((State.setPort_keeps (L := [.lports]) p x (List.Subset.refl _) (SameBut.refl _ τ)) .regs (by decide)) kk⟩

theorem PageEv.laneTo {π : List Part} {κ : List Nat} {σ τ : State} (hh : PageEv π κ σ τ) (l : Fin 48) (st : LaneSt) (h0 : .lanes ∈ π) (h1 : .timers ∈ π) : PageEv π κ σ (τ.laneTo l st) :=
  hh.trans ⟨State.laneTo_keeps (L := evParts ++ π) l st (by simp [evParts, h0, h1]) (SameBut.refl _ τ),
    fun kk _ _ => State.rd_of_regs ((State.laneTo_keeps (L := [.lanes, .timers]) l st (List.Subset.refl _) (SameBut.refl _ τ)) .regs (by decide)) kk⟩

theorem PageEv.laneStart {π : List Part} {κ : List Nat} {σ τ : State} (hh : PageEv π κ σ τ) (l : Fin 48) (h0 : .lanes ∈ π) (h1 : .timers ∈ π) : PageEv π κ σ (τ.laneStart l) :=
  hh.trans ⟨State.laneStart_keeps (L := evParts ++ π) l (by simp [evParts, h0, h1]) (SameBut.refl _ τ),
    fun kk _ _ => State.rd_of_regs ((State.laneStart_keeps (L := [.lanes, .timers]) l (List.Subset.refl _) (SameBut.refl _ τ)) .regs (by decide)) kk⟩

theorem PageEv.laneSleep {π : List Part} {κ : List Nat} {σ τ : State} (hh : PageEv π κ σ τ) (l : Fin 48) (h0 : .lanes ∈ π) (h1 : .timers ∈ π) : PageEv π κ σ (τ.laneSleep l) :=
  hh.trans ⟨State.laneSleep_keeps (L := evParts ++ π) l (by simp [evParts, h0, h1]) (SameBut.refl _ τ),
    fun kk _ _ => State.rd_of_regs ((State.laneSleep_keeps (L := [.lanes, .timers]) l (List.Subset.refl _) (SameBut.refl _ τ)) .regs (by decide)) kk⟩

theorem PageEv.laneWake {π : List Part} {κ : List Nat} {σ τ : State} (hh : PageEv π κ σ τ) (l : Fin 48) (h0 : .lanes ∈ π) (h1 : .timers ∈ π) : PageEv π κ σ (τ.laneWake l) :=
  hh.trans ⟨State.laneWake_keeps (L := evParts ++ π) l (by simp [evParts, h0, h1]) (SameBut.refl _ τ),
    fun kk _ _ => State.rd_of_regs ((State.laneWake_keeps (L := [.lanes, .timers]) l (List.Subset.refl _) (SameBut.refl _ τ)) .regs (by decide)) kk⟩

theorem PageEv.setMac {π : List Part} {κ : List Nat} {σ τ : State} (hh : PageEv π κ σ τ) (e : EthPort) (m : Mac) (h0 : .lanes ∈ π) (h1 : .lports ∈ π) : PageEv π κ σ (τ.setMac e m) :=
  hh.trans ⟨State.setMac_keeps (L := evParts ++ π) e m (by simp [evParts, h0, h1]) (SameBut.refl _ τ),
    fun kk _ _ => State.rd_of_regs ((State.setMac_keeps (L := [.lanes, .lports]) e m (List.Subset.refl _) (SameBut.refl _ τ)) .regs (by decide)) kk⟩

theorem PageEv.setPause {π : List Part} {κ : List Nat} {σ τ : State} (hh : PageEv π κ σ τ) (e : EthPort) (pri : Nat) (quanta : Nat) (h0 : .timers ∈ π) : PageEv π κ σ (τ.setPause e pri quanta) :=
  hh.trans ⟨State.setPause_keeps (L := evParts ++ π) e pri quanta (by simp [evParts, h0]) (SameBut.refl _ τ),
    fun kk _ _ => State.rd_of_regs ((State.setPause_keeps (L := [.timers]) e pri quanta (List.Subset.refl _) (SameBut.refl _ τ)) .regs (by decide)) kk⟩

theorem PageEv.opLaneStat {π : List Part} {κ : List Nat} {σ τ : State} (hh : PageEv π κ σ τ) (l : Fin 48) (v : Word) (h0 : .lanes ∈ π) : PageEv π κ σ (τ.opLaneStat l v) :=
  hh.trans ⟨State.opLaneStat_keeps (L := evParts ++ π) l v (by simp [evParts, h0]) (SameBut.refl _ τ),
    fun kk _ _ => State.rd_of_regs ((State.opLaneStat_keeps (L := [.lanes]) l v (List.Subset.refl _) (SameBut.refl _ τ)) .regs (by decide)) kk⟩

theorem PageEv.opPortStat {π : List Part} {κ : List Nat} {σ τ : State} (hh : PageEv π κ σ τ) (p : Fin 8) (v : Word) (h0 : .lports ∈ π) : PageEv π κ σ (τ.opPortStat p v) :=
  hh.trans ⟨State.opPortStat_keeps (L := evParts ++ π) p v (by simp [evParts, h0]) (SameBut.refl _ τ),
    fun kk _ _ => State.rd_of_regs ((State.opPortStat_keeps (L := [.lports]) p v (List.Subset.refl _) (SameBut.refl _ τ)) .regs (by decide)) kk⟩

theorem PageEv.readvertise {π : List Part} {κ : List Nat} {σ τ : State} (hh : PageEv π κ σ τ) (p : Fin 8) (adv : Nat) : PageEv π κ σ (τ.readvertise p adv) :=
  hh.trans ⟨State.readvertise_keeps (L := evParts ++ π) p adv (by simp [evParts]) (SameBut.refl _ τ),
    fun kk _ _ => State.rd_of_regs ((State.readvertise_keeps (L := [.out]) p adv (List.Subset.refl _) (SameBut.refl _ τ)) .regs (by decide)) kk⟩

theorem PageEv.setCh {π : List Part} {κ : List Nat} {σ τ : State} (hh : PageEv π κ σ τ) (m : Chan) (c : MemCh) (h0 : .memch ∈ π) : PageEv π κ σ (τ.setCh m c) :=
  hh.trans ⟨State.setCh_keeps (L := evParts ++ π) m c (by simp [evParts, h0]) (SameBut.refl _ τ),
    fun kk _ _ => State.rd_of_regs ((State.setCh_keeps (L := [.memch]) m c (List.Subset.refl _) (SameBut.refl _ τ)) .regs (by decide)) kk⟩

theorem PageEv.retResult {π : List Part} {κ : List Nat} {σ τ : State} (hh : PageEv π κ σ τ) (n : BitVec 3) (h0 : .ecc ∈ π) : PageEv π κ σ (τ.retResult n) :=
  hh.trans ⟨State.retResult_keeps (L := evParts ++ π) n (by simp [evParts, h0]) (SameBut.refl _ τ),
    fun kk _ _ => State.rd_of_regs ((State.retResult_keeps (L := [.ecc]) n (List.Subset.refl _) (SameBut.refl _ τ)) .regs (by decide)) kk⟩

theorem PageEv.startTraining {π : List Part} {κ : List Nat} {σ τ : State} (hh : PageEv π κ σ τ) (m : Chan) (eyeOnly : Bool) (h0 : .memch ∈ π) : PageEv π κ σ (τ.startTraining m eyeOnly) :=
  hh.trans ⟨State.startTraining_keeps (L := evParts ++ π) m eyeOnly (by simp [evParts, h0]) (SameBut.refl _ τ),
    fun kk _ _ => State.rd_of_regs ((State.startTraining_keeps (L := [.memch]) m eyeOnly (List.Subset.refl _) (SameBut.refl _ τ)) .regs (by decide)) kk⟩

theorem PageEv.rkPass {π : List Part} {κ : List Nat} {σ τ : State} (hh : PageEv π κ σ τ) (m : Chan) (h0 : .mxe ∈ π) : PageEv π κ σ (τ.rkPass m) :=
  hh.trans ⟨State.rkPass_keeps (L := evParts ++ π) m (by simp [evParts, h0]) (SameBut.refl _ τ),
    fun kk _ _ => State.rd_of_regs ((State.rkPass_keeps (L := [.mxe]) m (List.Subset.refl _) (SameBut.refl _ τ)) .regs (by decide)) kk⟩

theorem PageEv.rkAdvance {π : List Part} {κ : List Nat} {σ τ : State} (hh : PageEv π κ σ τ) (m : Chan) (h0 : .mxe ∈ π) : PageEv π κ σ (τ.rkAdvance m) :=
  hh.trans ⟨State.rkAdvance_keeps (L := evParts ++ π) m (by simp [evParts, h0]) (SameBut.refl _ τ),
    fun kk _ _ => State.rd_of_regs ((State.rkAdvance_keeps (L := [.mxe]) m (List.Subset.refl _) (SameBut.refl _ τ)) .regs (by decide)) kk⟩

theorem PageEv.trained {π : List Part} {κ : List Nat} {σ τ : State} (hh : PageEv π κ σ τ) (m : Chan) (gib : Nat) (h0 : .bufs ∈ π) (h1 : .memch ∈ π) : PageEv π κ σ (τ.trained m gib) :=
  hh.trans ⟨State.trained_keeps (L := evParts ++ π) m gib (by simp [evParts, h0, h1]) (SameBut.refl _ τ),
    fun kk _ _ => State.rd_of_regs ((State.trained_keeps (L := [.bufs, .memch]) m gib (List.Subset.refl _) (SameBut.refl _ τ)) .regs (by decide)) kk⟩

theorem PageEv.memWrite {π : List Part} {κ : List Nat} {σ τ : State} (hh : PageEv π κ σ τ) (pl : MemPlace) (data : List Byte) (h0 : .mem ∈ π) (h1 : .ecc ∈ π) : PageEv π κ σ (τ.memWrite pl data) :=
  hh.trans ⟨State.memWrite_keeps (L := evParts ++ π) pl data (by simp [evParts, h0, h1]) (SameBut.refl _ τ),
    fun kk _ _ => State.rd_of_regs ((State.memWrite_keeps (L := [.mem, .ecc, .out]) pl data (List.Subset.refl _) (SameBut.refl _ τ)) .regs (by decide)) kk⟩

theorem PageEv.writeByte {π : List Part} {κ : List Nat} {σ τ : State} (hh : PageEv π κ σ τ) (a : Nat) (b : Byte) (h0 : .mem ∈ π) : PageEv π κ σ (τ.writeByte a b) :=
  hh.trans ⟨State.writeByte_keeps (L := evParts ++ π) a b (by simp [evParts, h0]) (SameBut.refl _ τ),
    fun kk _ _ => State.rd_of_regs ((State.writeByte_keeps (L := [.mem]) a b (List.Subset.refl _) (SameBut.refl _ τ)) .regs (by decide)) kk⟩

theorem PageEv.zeroRange {π : List Part} {κ : List Nat} {σ τ : State} (hh : PageEv π κ σ τ) (a : Nat) (n : Nat) (h0 : .mem ∈ π) : PageEv π κ σ (τ.zeroRange a n) :=
  hh.trans ⟨State.zeroRange_keeps (L := evParts ++ π) a n (by simp [evParts, h0]) (SameBut.refl _ τ),
    fun kk _ _ => State.rd_of_regs ((State.zeroRange_keeps (L := [.mem]) a n (List.Subset.refl _) (SameBut.refl _ τ)) .regs (by decide)) kk⟩

theorem PageEv.msixDue {π : List Part} {κ : List Nat} {σ τ : State} (hh : PageEv π κ σ τ) (v : Nat) : PageEv π κ σ (τ.msixDue v) :=
  hh.trans ⟨State.msixDue_keeps (L := evParts ++ π) v (by simp [evParts]) (SameBut.refl _ τ),
    fun kk _ _ => State.rd_of_regs ((State.msixDue_keeps (L := [.hif, .out]) v (List.Subset.refl _) (SameBut.refl _ τ)) .regs (by decide)) kk⟩

theorem PageEv.drainPba {π : List Part} {κ : List Nat} {σ τ : State} (hh : PageEv π κ σ τ) : PageEv π κ σ (τ.drainPba) :=
  hh.trans ⟨State.drainPba_keeps (L := evParts ++ π)  (by simp [evParts]) (SameBut.refl _ τ),
    fun kk _ _ => State.rd_of_regs ((State.drainPba_keeps (L := [.hif, .out])  (List.Subset.refl _) (SameBut.refl _ τ)) .regs (by decide)) kk⟩

theorem PageEv.deliverPost {π : List Part} {κ : List Nat} {σ τ : State} (hh : PageEv π κ σ τ) (src : Nat) : PageEv π κ σ (τ.deliverPost src) :=
  hh.trans ⟨State.deliverPost_keeps (L := evParts ++ π) src (by simp [evParts]) (SameBut.refl _ τ),
    fun kk _ _ => State.rd_of_regs ((State.deliverPost_keeps (L := [.tsk]) src (List.Subset.refl _) (SameBut.refl _ τ)) .regs (by decide)) kk⟩

theorem PageEv.logStart {π : List Part} {κ : List Nat} {σ τ : State} (hh : PageEv π κ σ τ)  (h0 : .log ∈ π) : PageEv π κ σ (τ.logStart) :=
  hh.trans ⟨State.logStart_keeps (L := evParts ++ π)  (by simp [evParts, h0]) (SameBut.refl _ τ),
    fun kk _ _ => State.rd_of_regs ((State.logStart_keeps (L := [.log, .out])  (List.Subset.refl _) (SameBut.refl _ τ)) .regs (by decide)) kk⟩

theorem PageEv.coreFault {π : List Part} {κ : List Nat} {σ τ : State} (hh : PageEv π κ σ τ) (n : Fin 8) (cause : Nat) (addr : Nat) (h0 : .resp ∈ π) : PageEv π κ σ (τ.coreFault n cause addr) :=
  hh.trans ⟨State.coreFault_keeps (L := evParts ++ π) n cause addr (by simp [evParts, h0]) (SameBut.refl _ τ),
    fun kk _ _ => State.rd_of_regs ((State.coreFault_keeps (L := [.tsk, .resp]) n cause addr (List.Subset.refl _) (SameBut.refl _ τ)) .regs (by decide)) kk⟩

theorem PageEv.opHeartbeat {π : List Part} {κ : List Nat} {σ τ : State} (hh : PageEv π κ σ τ) (v : Word) (h0 : .timers ∈ π) : PageEv π κ σ (τ.opHeartbeat v) :=
  hh.trans ⟨State.opHeartbeat_keeps (L := evParts ++ π) v (by simp [evParts, h0]) (SameBut.refl _ τ),
    fun kk _ _ => State.rd_of_regs ((State.opHeartbeat_keeps (L := [.timers]) v (List.Subset.refl _) (SameBut.refl _ τ)) .regs (by decide)) kk⟩

theorem PageEv.sealArm {π : List Part} {κ : List Nat} {σ τ : State} (hh : PageEv π κ σ τ)  (h0 : .own ∈ π) : PageEv π κ σ (τ.sealArm) :=
  hh.trans ⟨State.sealArm_keeps (L := evParts ++ π)  (by simp [evParts, h0]) (SameBut.refl _ τ),
    fun kk _ _ => State.rd_of_regs ((State.sealArm_keeps (L := [.own])  (List.Subset.refl _) (SameBut.refl _ τ)) .regs (by decide)) kk⟩

theorem PageEv.opOwnStat {π : List Part} {κ : List Nat} {σ τ : State} (hh : PageEv π κ σ τ) (v : Word) (h0 : .own ∈ π) : PageEv π κ σ (τ.opOwnStat v) :=
  hh.trans ⟨State.opOwnStat_keeps (L := evParts ++ π) v (by simp [evParts, h0]) (SameBut.refl _ τ),
    fun kk _ _ => State.rd_of_regs ((State.opOwnStat_keeps (L := [.own]) v (List.Subset.refl _) (SameBut.refl _ τ)) .regs (by decide)) kk⟩

theorem PageEv.setPipe {π : List Part} {κ : List Nat} {σ τ : State} (hh : PageEv π κ σ τ) (p : Fin 4) (x : Pipe) (h0 : .pipes ∈ π) : PageEv π κ σ (τ.setPipe p x) :=
  hh.trans ⟨State.setPipe_keeps (L := evParts ++ π) p x (by simp [evParts, h0]) (SameBut.refl _ τ),
    fun kk _ _ => State.rd_of_regs ((State.setPipe_keeps (L := [.pipes]) p x (List.Subset.refl _) (SameBut.refl _ τ)) .regs (by decide)) kk⟩

theorem PageEv.setEpoch {π : List Part} {κ : List Nat} {σ τ : State} (hh : PageEv π κ σ τ) (e : Fin 16) (x : Epoch) (h0 : .epochs ∈ π) : PageEv π κ σ (τ.setEpoch e x) :=
  hh.trans ⟨State.setEpoch_keeps (L := evParts ++ π) e x (by simp [evParts, h0]) (SameBut.refl _ τ),
    fun kk _ _ => State.rd_of_regs ((State.setEpoch_keeps (L := [.epochs]) e x (List.Subset.refl _) (SameBut.refl _ τ)) .regs (by decide)) kk⟩

theorem PageEv.releaseParse {π : List Part} {κ : List Nat} {σ τ : State} (hh : PageEv π κ σ τ) (p : Fin 4) (h0 : .pipes ∈ π) : PageEv π κ σ (τ.releaseParse p) :=
  hh.trans ⟨State.releaseParse_keeps (L := evParts ++ π) p (by simp [evParts, h0]) (SameBut.refl _ τ),
    fun kk _ _ => State.rd_of_regs ((State.releaseParse_keeps (L := [.pipes]) p (List.Subset.refl _) (SameBut.refl _ τ)) .regs (by decide)) kk⟩

theorem PageEv.setSlotOf {π : List Part} {κ : List Nat} {σ τ : State} (hh : PageEv π κ σ τ) (p : Fin 4) (x : ParseSlot) (h0 : .pipes ∈ π) : PageEv π κ σ (τ.setSlotOf p x) :=
  hh.trans ⟨State.setSlotOf_keeps (L := evParts ++ π) p x (by simp [evParts, h0]) (SameBut.refl _ τ),
    fun kk _ _ => State.rd_of_regs ((State.setSlotOf_keeps (L := [.pipes]) p x (List.Subset.refl _) (SameBut.refl _ τ)) .regs (by decide)) kk⟩

theorem PageEv.absorb {π : List Part} {κ : List Nat} {σ τ : State} (hh : PageEv π κ σ τ) (p : Fin 4) (h0 : .cmt ∈ π) (h1 : .pipes ∈ π) : PageEv π κ σ (τ.absorb p) :=
  hh.trans ⟨State.absorb_keeps (L := evParts ++ π) p (by simp [evParts, h0, h1]) (SameBut.refl _ τ),
    fun kk _ _ => State.rd_of_regs ((State.absorb_keeps (L := [.cmt, .pipes]) p (List.Subset.refl _) (SameBut.refl _ τ)) .regs (by decide)) kk⟩

theorem PageEv.enterPath {π : List Part} {κ : List Nat} {σ τ : State} (hh : PageEv π κ σ τ) (k : Pkt) (h0 : .cmt ∈ π) (h1 : .nextPkt ∈ π) (h2 : .pipes ∈ π) : PageEv π κ σ (τ.enterPath k) :=
  hh.trans ⟨State.enterPath_keeps (L := evParts ++ π) k (by simp [evParts, h0, h1, h2]) (SameBut.refl _ τ),
    fun kk _ _ => State.rd_of_regs ((State.enterPath_keeps (L := [.cmt, .nextPkt, .pipes]) k (List.Subset.refl _) (SameBut.refl _ τ)) .regs (by decide)) kk⟩

theorem PageEv.setPwr {π : List Part} {κ : List Nat} {σ τ : State} (hh : PageEv π κ σ τ) (f : Pwr → Pwr) (h0 : .pwr ∈ π) : PageEv π κ σ (τ.setPwr f) :=
  hh.trans ⟨State.setPwr_keeps (L := evParts ++ π) f (by simp [evParts, h0]) (SameBut.refl _ τ),
    fun kk _ _ => State.rd_of_regs ((State.setPwr_keeps (L := [.pwr]) f (List.Subset.refl _) (SameBut.refl _ τ)) .regs (by decide)) kk⟩

theorem PageEv.setRegulator {π : List Part} {κ : List Nat} {σ τ : State} (hh : PageEv π κ σ τ) (line : Bool) (x : PmbReq) (h0 : .pwr ∈ π) : PageEv π κ σ (τ.setRegulator line x) :=
  hh.trans ⟨State.setRegulator_keeps (L := evParts ++ π) line x (by simp [evParts, h0]) (SameBut.refl _ τ),
    fun kk _ _ => State.rd_of_regs ((State.setRegulator_keeps (L := [.pwr]) line x (List.Subset.refl _) (SameBut.refl _ τ)) .regs (by decide)) kk⟩

theorem PageEv.commandReg {π : List Part} {κ : List Nat} {σ τ : State} (hh : PageEv π κ σ τ) (line : Bool) (l : BitVec 2) (on : Bool) (h0 : .pwr ∈ π) : PageEv π κ σ (τ.commandReg line l on) :=
  hh.trans ⟨State.commandReg_keeps (L := evParts ++ π) line l on (by simp [evParts, h0]) (SameBut.refl _ τ),
    fun kk _ _ => State.rd_of_regs ((State.commandReg_keeps (L := [.pwr, .out]) line l on (List.Subset.refl _) (SameBut.refl _ τ)) .regs (by decide)) kk⟩

theorem PageEv.regOff {π : List Part} {κ : List Nat} {σ τ : State} (hh : PageEv π κ σ τ) (line : Bool) (h0 : .pwr ∈ π) : PageEv π κ σ (τ.regOff line) :=
  hh.trans ⟨State.regOff_keeps (L := evParts ++ π) line (by simp [evParts, h0]) (SameBut.refl _ τ),
    fun kk _ _ => State.rd_of_regs ((State.regOff_keeps (L := [.pwr, .out]) line (List.Subset.refl _) (SameBut.refl _ τ)) .regs (by decide)) kk⟩

theorem PageEv.startLevel {π : List Part} {κ : List Nat} {σ τ : State} (hh : PageEv π κ σ τ) (l : BitVec 2) (h0 : .pwr ∈ π) : PageEv π κ σ (τ.startLevel l) :=
  hh.trans ⟨State.startLevel_keeps (L := evParts ++ π) l (by simp [evParts, h0]) (SameBut.refl _ τ),
    fun kk _ _ => State.rd_of_regs ((State.startLevel_keeps (L := [.pwr, .out]) l (List.Subset.refl _) (SameBut.refl _ τ)) .regs (by decide)) kk⟩

theorem PageEv.takeLevel {π : List Part} {κ : List Nat} {σ τ : State} (hh : PageEv π κ σ τ)  (h0 : .pwr ∈ π) : PageEv π κ σ (τ.takeLevel) :=
  hh.trans ⟨State.takeLevel_keeps (L := evParts ++ π)  (by simp [evParts, h0]) (SameBut.refl _ τ),
    fun kk _ _ => State.rd_of_regs ((State.takeLevel_keeps (L := [.pwr, .out])  (List.Subset.refl _) (SameBut.refl _ τ)) .regs (by decide)) kk⟩

theorem PageEv.bootStart {π : List Part} {κ : List Nat} {σ τ : State} (hh : PageEv π κ σ τ)  (h0 : .rst ∈ π) (h1 : .timers ∈ π) : PageEv π κ σ (τ.bootStart) :=
  hh.trans ⟨State.bootStart_keeps (L := evParts ++ π)  (by simp [evParts, h0, h1]) (SameBut.refl _ τ),
    fun kk _ _ => State.rd_of_regs ((State.bootStart_keeps (L := [.rst, .timers])  (List.Subset.refl _) (SameBut.refl _ τ)) .regs (by decide)) kk⟩

theorem PageEv.regStep {π : List Part} {κ : List Nat} {σ τ : State} (hh : PageEv π κ σ τ) (line : Option Bool) (fab : Option Bool) (h0 : .pwr ∈ π) : PageEv π κ σ (τ.regStep line fab) :=
  hh.trans ⟨State.regStep_keeps (L := evParts ++ π) line fab (by simp [evParts, h0]) (SameBut.refl _ τ),
    fun kk _ _ => State.rd_of_regs ((State.regStep_keeps (L := [.pwr, .out]) line fab (List.Subset.refl _) (SameBut.refl _ τ)) .regs (by decide)) kk⟩

theorem PageEv.memPower {π : List Part} {κ : List Nat} {σ τ : State} (hh : PageEv π κ σ τ) (m : Chan) (h0 : .memch ∈ π) : PageEv π κ σ (τ.memPower m) :=
  hh.trans ⟨State.memPower_keeps (L := evParts ++ π) m (by simp [evParts, h0]) (SameBut.refl _ τ),
    fun kk _ _ => State.rd_of_regs ((State.memPower_keeps (L := [.memch]) m (List.Subset.refl _) (SameBut.refl _ τ)) .regs (by decide)) kk⟩

theorem PageEv.nextEntry {π : List Part} {κ : List Nat} {σ τ : State} (hh : PageEv π κ σ τ)  (h0 : .pwr ∈ π) (h1 : .timers ∈ π) : PageEv π κ σ (τ.nextEntry) :=
  hh.trans ⟨State.nextEntry_keeps (L := evParts ++ π)  (by simp [evParts, h0, h1]) (SameBut.refl _ τ),
    fun kk _ _ => State.rd_of_regs ((State.nextEntry_keeps (L := [.pwr, .timers])  (List.Subset.refl _) (SameBut.refl _ τ)) .regs (by decide)) kk⟩

theorem PageEv.selfRefresh {π : List Part} {κ : List Nat} {σ τ : State} (hh : PageEv π κ σ τ)  (h0 : .memch ∈ π) (h1 : .pwr ∈ π) : PageEv π κ σ (τ.selfRefresh) :=
  hh.trans ⟨State.selfRefresh_keeps (L := evParts ++ π)  (by simp [evParts, h0, h1]) (SameBut.refl _ τ),
    fun kk _ _ => State.rd_of_regs ((State.selfRefresh_keeps (L := [.memch, .pwr])  (List.Subset.refl _) (SameBut.refl _ τ)) .regs (by decide)) kk⟩

theorem PageEv.enterDoze {π : List Part} {κ : List Nat} {σ τ : State} (hh : PageEv π κ σ τ)  (h0 : .memch ∈ π) (h1 : .pwr ∈ π) (h2 : .timers ∈ π) : PageEv π κ σ (τ.enterDoze) :=
  hh.trans ⟨State.enterDoze_keeps (L := evParts ++ π)  (by simp [evParts, h0, h1, h2]) (SameBut.refl _ τ),
    fun kk _ _ => State.rd_of_regs ((State.enterDoze_keeps (L := [.memch, .pwr, .timers])  (List.Subset.refl _) (SameBut.refl _ τ)) .regs (by decide)) kk⟩

theorem PageEv.acquire {π : List Part} {κ : List Nat} {σ τ : State} (hh : PageEv π κ σ τ) (c : Chan) (defaults : Bool) (h0 : .rx ∈ π) : PageEv π κ σ (τ.acquire c defaults) :=
  hh.trans ⟨State.acquire_keeps (L := evParts ++ π) c defaults (by simp [evParts, h0]) (SameBut.refl _ τ),
    fun kk _ _ => State.rd_of_regs ((State.acquire_keeps (L := [.rx]) c defaults (List.Subset.refl _) (SameBut.refl _ τ)) .regs (by decide)) kk⟩

theorem PageEv.losLow {π : List Part} {κ : List Nat} {σ τ : State} (hh : PageEv π κ σ τ) (c : Chan) (h0 : .pins ∈ π) : PageEv π κ σ (τ.losLow c) :=
  hh.trans ⟨State.losLow_keeps (L := evParts ++ π) c (by simp [evParts, h0]) (SameBut.refl _ τ),
    fun kk _ _ => State.rd_of_regs ((State.losLow_keeps (L := [.pins]) c (List.Subset.refl _) (SameBut.refl _ τ)) .regs (by decide)) kk⟩

theorem PageEv.mirrorReg {π : List Part} {κ : List Nat} {σ τ : State} (hh : PageEv π κ σ τ) (whole : Bool) (a : Nat) (h0 : .mirror ∈ π) : PageEv π κ σ (τ.mirrorReg whole a) :=
  hh.trans ⟨State.mirrorReg_keeps (L := evParts ++ π) whole a (by simp [evParts, h0]) (SameBut.refl _ τ),
    fun kk _ _ => State.rd_of_regs ((State.mirrorReg_keeps (L := [.mirror]) whole a (List.Subset.refl _) (SameBut.refl _ τ)) .regs (by decide)) kk⟩

theorem PageEv.mirrorPage {π : List Part} {κ : List Nat} {σ τ : State} (hh : PageEv π κ σ τ) (p : Nat) (whole : Bool) (h0 : .mirror ∈ π) : PageEv π κ σ (τ.mirrorPage p whole) :=
  hh.trans ⟨State.mirrorPage_keeps (L := evParts ++ π) p whole (by simp [evParts, h0]) (SameBut.refl _ τ),
    fun kk _ _ => State.rd_of_regs ((State.mirrorPage_keeps (L := [.mirror, .hif]) p whole (List.Subset.refl _) (SameBut.refl _ τ)) .regs (by decide)) kk⟩

theorem PageEv.bankRead {π : List Part} {κ : List Nat} {σ τ : State} (hh : PageEv π κ σ τ) (ofs : BitVec 10) (h0 : .resp ∈ π) : PageEv π κ σ (τ.bankRead ofs) :=
  hh.trans ⟨State.bankRead_keeps (L := evParts ++ π) ofs (by simp [evParts, h0]) (SameBut.refl _ τ),
    fun kk _ _ => State.rd_of_regs ((State.bankRead_keeps (L := [.hif, .resp]) ofs (List.Subset.refl _) (SameBut.refl _ τ)) .regs (by decide)) kk⟩

theorem PageEv.shelfHigh {π : List Part} {κ : List Nat} {σ τ : State} (hh : PageEv π κ σ τ) (a : Nat) (h0 : .resp ∈ π) : PageEv π κ σ (τ.shelfHigh a) :=
  hh.trans ⟨State.shelfHigh_keeps (L := evParts ++ π) a (by simp [evParts, h0]) (SameBut.refl _ τ),
    fun kk _ _ => State.rd_of_regs ((State.shelfHigh_keeps (L := [.resp]) a (List.Subset.refl _) (SameBut.refl _ τ)) .regs (by decide)) kk⟩

theorem PageEv.markSelected {π : List Part} {κ : List Nat} {σ τ : State} (hh : PageEv π κ σ τ) (q : Nat) (id : Nat) (h0 : .queues ∈ π) : PageEv π κ σ (τ.markSelected q id) :=
  hh.trans ⟨State.markSelected_keeps (L := evParts ++ π) q id (by simp [evParts, h0]) (SameBut.refl _ τ),
    fun kk _ _ => State.rd_of_regs ((State.markSelected_keeps (L := [.queues]) q id (List.Subset.refl _) (SameBut.refl _ τ)) .regs (by decide)) kk⟩

theorem PageEv.setTurn {π : List Part} {κ : List Nat} {σ τ : State} (hh : PageEv π κ σ τ) (sch : Nat) (pri : Nat) (t : Turn) (h0 : .turns ∈ π) : PageEv π κ σ (τ.setTurn sch pri t) :=
  hh.trans ⟨State.setTurn_keeps (L := evParts ++ π) sch pri t (by simp [evParts, h0]) (SameBut.refl _ τ),
    fun kk _ _ => State.rd_of_regs ((State.setTurn_keeps (L := [.turns]) sch pri t (List.Subset.refl _) (SameBut.refl _ τ)) .regs (by decide)) kk⟩

theorem PageEv.passTurns {π : List Part} {κ : List Nat} {σ τ : State} (hh : PageEv π κ σ τ) (sch : Nat) (el : List Nat) (h0 : .turns ∈ π) : PageEv π κ σ (τ.passTurns sch el) :=
  hh.trans ⟨State.passTurns_keeps (L := evParts ++ π) sch el (by simp [evParts, h0]) (SameBut.refl _ τ),
    fun kk _ _ => State.rd_of_regs ((State.passTurns_keeps (L := [.turns]) sch el (List.Subset.refl _) (SameBut.refl _ τ)) .regs (by decide)) kk⟩

theorem PageEv.noteEligible {π : List Part} {κ : List Nat} {σ τ : State} (hh : PageEv π κ σ τ) (qs : List Nat) (el : List Nat) (h0 : .elig ∈ π) : PageEv π κ σ (τ.noteEligible qs el) :=
  hh.trans ⟨State.noteEligible_keeps (L := evParts ++ π) qs el (by simp [evParts, h0]) (SameBut.refl _ τ),
    fun kk _ _ => State.rd_of_regs ((State.noteEligible_keeps (L := [.elig]) qs el (List.Subset.refl _) (SameBut.refl _ τ)) .regs (by decide)) kk⟩

theorem PageEv.consult {π : List Part} {κ : List Nat} {σ τ : State} (hh : PageEv π κ σ τ) (n : Nat) (h0 : .shapers ∈ π) : PageEv π κ σ (τ.consult n) :=
  hh.trans ⟨State.consult_keeps (L := evParts ++ π) n (by simp [evParts, h0]) (SameBut.refl _ τ),
    fun kk _ _ => State.rd_of_regs ((State.consult_keeps (L := [.shapers]) n (List.Subset.refl _) (SameBut.refl _ τ)) .regs (by decide)) kk⟩

theorem PageEv.takeCredit {π : List Part} {κ : List Nat} {σ τ : State} (hh : PageEv π κ σ τ) (n : Nat) (h0 : .shapers ∈ π) : PageEv π κ σ (τ.takeCredit n) :=
  hh.trans ⟨State.takeCredit_keeps (L := evParts ++ π) n (by simp [evParts, h0]) (SameBut.refl _ τ),
    fun kk _ _ => State.rd_of_regs ((State.takeCredit_keeps (L := [.shapers]) n (List.Subset.refl _) (SameBut.refl _ τ)) .regs (by decide)) kk⟩

theorem PageEv.setPolicer {π : List Part} {κ : List Nat} {σ τ : State} (hh : PageEv π κ σ τ) (n : Nat) (cfg : Word) (h0 : .policers ∈ π) : PageEv π κ σ (τ.setPolicer n cfg) :=
  hh.trans ⟨State.setPolicer_keeps (L := evParts ++ π) n cfg (by simp [evParts, h0]) (SameBut.refl _ τ),
    fun kk _ _ => State.rd_of_regs ((State.setPolicer_keeps (L := [.policers]) n cfg (List.Subset.refl _) (SameBut.refl _ τ)) .regs (by decide)) kk⟩

theorem PageEv.opGateCmd {π : List Part} {κ : List Nat} {σ τ : State} (hh : PageEv π κ σ τ) (r : Req) (v : Word) (h0 : .gateBusy ∈ π) : PageEv π κ σ (τ.opGateCmd r v) :=
  hh.trans ⟨State.opGateCmd_keeps (L := evParts ++ π) r v (by simp [evParts, h0]) (SameBut.refl _ τ),
    fun kk _ _ => State.rd_of_regs ((State.opGateCmd_keeps (L := [.gateBusy]) r v (List.Subset.refl _) (SameBut.refl _ τ)) .regs (by decide)) kk⟩

theorem PageEv.sendPrepare {π : List Part} {κ : List Nat} {σ τ : State} (hh : PageEv π κ σ τ) (i : Fin 4) (h0 : .cmt ∈ π) (h1 : .timers ∈ π) : PageEv π κ σ (τ.sendPrepare i) :=
  hh.trans ⟨State.sendPrepare_keeps (L := evParts ++ π) i (by simp [evParts, h0, h1]) (SameBut.refl _ τ),
    fun kk _ _ => State.rd_of_regs ((State.sendPrepare_keeps (L := [.seam, .cmt, .timers]) i (List.Subset.refl _) (SameBut.refl _ τ)) .regs (by decide)) kk⟩

theorem PageEv.linePrepare {π : List Part} {κ : List Nat} {σ τ : State} (hh : PageEv π κ σ τ) (tag : BitVec 8) (ws : SMap Word) : PageEv π κ σ (τ.linePrepare tag ws) :=
  hh.trans ⟨State.linePrepare_keeps (L := evParts ++ π) tag ws (by simp [evParts]) (SameBut.refl _ τ),
    fun kk _ _ => State.rd_of_regs ((State.linePrepare_keeps (L := [.seam]) tag ws (List.Subset.refl _) (SameBut.refl _ τ)) .regs (by decide)) kk⟩

theorem PageEv.lineAbort {π : List Part} {κ : List Nat} {σ τ : State} (hh : PageEv π κ σ τ) (tag : BitVec 8) : PageEv π κ σ (τ.lineAbort tag) :=
  hh.trans ⟨State.lineAbort_keeps (L := evParts ++ π) tag (by simp [evParts]) (SameBut.refl _ τ),
    fun kk _ _ => State.rd_of_regs ((State.lineAbort_keeps (L := [.seam]) tag (List.Subset.refl _) (SameBut.refl _ τ)) .regs (by decide)) kk⟩

theorem PageEv.setTim {π : List Part} {κ : List Nat} {σ τ : State} (hh : PageEv π κ σ τ) (f : Tim → Tim) (h0 : .tim ∈ π) : PageEv π κ σ (τ.setTim f) :=
  hh.trans ⟨State.setTim_keeps (L := evParts ++ π) f (by simp [evParts, h0]) (SameBut.refl _ τ),
    fun kk _ _ => State.rd_of_regs ((State.setTim_keeps (L := [.tim]) f (List.Subset.refl _) (SameBut.refl _ τ)) .regs (by decide)) kk⟩

theorem PageEv.settleF {π : List Part} {κ : List Nat} {σ τ : State} (hh : PageEv π κ σ τ)  (h0 : .tim ∈ π) : PageEv π κ σ (τ.settleF) :=
  hh.trans ⟨State.settleF_keeps (L := evParts ++ π)  (by simp [evParts, h0]) (SameBut.refl _ τ),
    fun kk _ _ => State.rd_of_regs ((State.settleF_keeps (L := [.tim])  (List.Subset.refl _) (SameBut.refl _ τ)) .regs (by decide)) kk⟩

theorem PageEv.steer {π : List Part} {κ : List Nat} {σ τ : State} (hh : PageEv π κ σ τ) (theta : ℤ) (h0 : .tim ∈ π) (h1 : .fresh ∈ π) : PageEv π κ σ (τ.steer theta) :=
  hh.trans ⟨State.steer_keeps (L := evParts ++ π) theta (by simp [evParts, h0, h1]) (SameBut.refl _ τ),
    fun kk _ _ => State.rd_of_regs ((State.steer_keeps (L := [.tim, .fresh]) theta (List.Subset.refl _) (SameBut.refl _ τ)) .regs (by decide)) kk⟩

theorem PageEv.servoStep {π : List Part} {κ : List Nat} {σ τ : State} (hh : PageEv π κ σ τ)  (h0 : .tim ∈ π) (h1 : .timers ∈ π) : PageEv π κ σ (τ.servoStep) :=
  hh.trans ⟨State.servoStep_keeps (L := evParts ++ π)  (by simp [evParts, h0, h1]) (SameBut.refl _ τ),
    fun kk _ _ => State.rd_of_regs ((State.servoStep_keeps (L := [.tim, .timers])  (List.Subset.refl _) (SameBut.refl _ τ)) .regs (by decide)) kk⟩

theorem PageEv.stepClock {π : List Part} {κ : List Nat} {σ τ : State} (hh : PageEv π κ σ τ) (x : TimeStep) (h0 : .lanes ∈ π) (h1 : .tim ∈ π) (h2 : .clock ∈ π) : PageEv π κ σ (τ.stepClock x) :=
  hh.trans ⟨State.stepClock_keeps (L := evParts ++ π) x (by simp [evParts, h0, h1, h2]) (SameBut.refl _ τ),
    fun kk _ _ => State.rd_of_regs ((State.stepClock_keeps (L := [.lanes, .tim, .clock]) x (List.Subset.refl _) (SameBut.refl _ τ)) .regs (by decide)) kk⟩

theorem PageEv.popTxts {π : List Part} {κ : List Nat} {σ τ : State} (hh : PageEv π κ σ τ)  (h0 : .tim ∈ π) : PageEv π κ σ (τ.popTxts) :=
  hh.trans ⟨State.popTxts_keeps (L := evParts ++ π)  (by simp [evParts, h0]) (SameBut.refl _ τ),
    fun kk _ _ => State.rd_of_regs ((State.popTxts_keeps (L := [.tim])  (List.Subset.refl _) (SameBut.refl _ τ)) .regs (by decide)) kk⟩

theorem PageEv.setFrags {π : List Part} {κ : List Nat} {σ τ : State} (hh : PageEv π κ σ τ) (c : Chan) (fs : List (List Byte)) (h0 : .tfrags ∈ π) : PageEv π κ σ (τ.setFrags c fs) :=
  hh.trans ⟨State.setFrags_keeps (L := evParts ++ π) c fs (by simp [evParts, h0]) (SameBut.refl _ τ),
    fun kk _ _ => State.rd_of_regs ((State.setFrags_keeps (L := [.tfrags]) c fs (List.Subset.refl _) (SameBut.refl _ τ)) .regs (by decide)) kk⟩

theorem PageEv.setRow {π : List Part} {κ : List Nat} {σ τ : State} (hh : PageEv π κ σ τ) (l : Fin 48) (x : RowLane) (h0 : .rows ∈ π) : PageEv π κ σ (τ.setRow l x) :=
  hh.trans ⟨State.setRow_keeps (L := evParts ++ π) l x (by simp [evParts, h0]) (SameBut.refl _ τ),
    fun kk _ _ => State.rd_of_regs ((State.setRow_keeps (L := [.rows]) l x (List.Subset.refl _) (SameBut.refl _ τ)) .regs (by decide)) kk⟩

theorem PageEv.opStFlags {π : List Part} {κ : List Nat} {σ τ : State} (hh : PageEv π κ σ τ) (v : Word) (h0 : .tribs ∈ π) : PageEv π κ σ (τ.opStFlags v) :=
  hh.trans ⟨State.opStFlags_keeps (L := evParts ++ π) v (by simp [evParts, h0]) (SameBut.refl _ τ),
    fun kk _ _ => State.rd_of_regs ((State.opStFlags_keeps (L := [.tribs]) v (List.Subset.refl _) (SameBut.refl _ τ)) .regs (by decide)) kk⟩

theorem PageEv.enqueuePost {π : List Part} {κ : List Nat} {σ τ : State} (hh : PageEv π κ σ τ) (p : Post) : PageEv π κ σ (τ.enqueuePost p) :=
  hh.trans ⟨State.enqueuePost_keeps (L := evParts ++ π) p (by simp [evParts]) (SameBut.refl _ τ),
    fun kk _ _ => State.rd_of_regs ((State.enqueuePost_keeps (L := [.tsk]) p (List.Subset.refl _) (SameBut.refl _ τ)) .regs (by decide)) kk⟩

theorem PageEv.flashStart {π : List Part} {κ : List Nat} {σ τ : State} (hh : PageEv π κ σ τ) : PageEv π κ σ (τ.flashStart) :=
  hh.trans ⟨State.flashStart_keeps (L := evParts ++ π)  (by simp [evParts]) (SameBut.refl _ τ),
    fun kk _ _ => State.rd_of_regs ((State.flashStart_keeps (L := [.hif, .out])  (List.Subset.refl _) (SameBut.refl _ τ)) .regs (by decide)) kk⟩

theorem PageEv.logEmit {π : List Part} {κ : List Nat} {σ τ : State} (hh : PageEv π κ σ τ) (used : Nat) (xs : List LogRec) : PageEv π κ σ (τ.logEmit used xs) :=
  hh.trans ⟨State.logEmit_keeps (L := evParts ++ π) used xs (by simp [evParts]) (SameBut.refl _ τ),
    fun kk _ _ => State.rd_of_regs ((State.logEmit_keeps (L := [.out]) used xs (List.Subset.refl _) (SameBut.refl _ τ)) .regs (by decide)) kk⟩

theorem PageEv.placeWritten {π : List Part} {κ : List Nat} {σ τ : State} (hh : PageEv π κ σ τ) (pl : MemPlace) (h0 : .ecc ∈ π) : PageEv π κ σ (τ.placeWritten pl) :=
  hh.trans ⟨State.placeWritten_keeps (L := evParts ++ π) pl (by simp [evParts, h0]) (SameBut.refl _ τ),
    fun kk _ _ => State.rd_of_regs ((State.placeWritten_keeps (L := [.ecc]) pl (List.Subset.refl _) (SameBut.refl _ τ)) .regs (by decide)) kk⟩

theorem PageEv.dramWrite {π : List Part} {κ : List Nat} {σ τ : State} (hh : PageEv π κ σ τ) (ch : Chan) (idx : Nat) (h0 : .ecc ∈ π) : PageEv π κ σ (τ.dramWrite ch idx) :=
  hh.trans ⟨State.dramWrite_keeps (L := evParts ++ π) ch idx (by simp [evParts, h0]) (SameBut.refl _ τ),
    fun kk _ _ => State.rd_of_regs ((State.dramWrite_keeps (L := [.ecc, .out]) ch idx (List.Subset.refl _) (SameBut.refl _ τ)) .regs (by decide)) kk⟩

theorem PageEv.dramRange {π : List Part} {κ : List Nat} {σ τ : State} (hh : PageEv π κ σ τ) (a : Nat) (n : Nat) (h0 : .ecc ∈ π) : PageEv π κ σ (τ.dramRange a n) :=
  hh.trans ⟨State.dramRange_keeps (L := evParts ++ π) a n (by simp [evParts, h0]) (SameBut.refl _ τ),
    fun kk _ _ => State.rd_of_regs ((State.dramRange_keeps (L := [.ecc, .out]) a n (List.Subset.refl _) (SameBut.refl _ τ)) .regs (by decide)) kk⟩

theorem PageEv.setCaches {π : List Part} {κ : List Nat} {σ τ : State} (hh : PageEv π κ σ τ) (f : List CacheLine → List CacheLine) (h0 : .cpu ∈ π) : PageEv π κ σ (τ.setCaches f) :=
  hh.trans ⟨State.setCaches_keeps (L := evParts ++ π) f (by simp [evParts, h0]) (SameBut.refl _ τ),
    fun kk _ _ => State.rd_of_regs ((State.setCaches_keeps (L := [.cpu]) f (List.Subset.refl _) (SameBut.refl _ τ)) .regs (by decide)) kk⟩

theorem PageEv.claimLine {π : List Part} {κ : List Nat} {σ τ : State} (hh : PageEv π κ σ τ) (n : Fin 8) (a : Nat) (h0 : .cpu ∈ π) : PageEv π κ σ (τ.claimLine n a) :=
  hh.trans ⟨State.claimLine_keeps (L := evParts ++ π) n a (by simp [evParts, h0]) (SameBut.refl _ τ),
    fun kk _ _ => State.rd_of_regs ((State.claimLine_keeps (L := [.cpu]) n a (List.Subset.refl _) (SameBut.refl _ τ)) .regs (by decide)) kk⟩

theorem PageEv.dropLines {π : List Part} {κ : List Nat} {σ τ : State} (hh : PageEv π κ σ τ) (n : Fin 8) (h0 : .cpu ∈ π) : PageEv π κ σ (τ.dropLines n) :=
  hh.trans ⟨State.dropLines_keeps (L := evParts ++ π) n (by simp [evParts, h0]) (SameBut.refl _ τ),
    fun kk _ _ => State.rd_of_regs ((State.dropLines_keeps (L := [.cpu]) n (List.Subset.refl _) (SameBut.refl _ τ)) .regs (by decide)) kk⟩

theorem PageEv.storeLine {π : List Part} {κ : List Nat} {σ τ : State} (hh : PageEv π κ σ τ) (n : Fin 8) (a : Nat) (h0 : .cpu ∈ π) (h1 : .fresh ∈ π) : PageEv π κ σ (τ.storeLine n a) :=
  hh.trans ⟨State.storeLine_keeps (L := evParts ++ π) n a (by simp [evParts, h0, h1]) (SameBut.refl _ τ),
    fun kk _ _ => State.rd_of_regs ((State.storeLine_keeps (L := [.cpu, .fresh]) n a (List.Subset.refl _) (SameBut.refl _ τ)) .regs (by decide)) kk⟩

theorem PageEv.lineWritten {π : List Part} {κ : List Nat} {σ τ : State} (hh : PageEv π κ σ τ) (n : Fin 8) (a : Nat) (data : List Byte) (h0 : .cpu ∈ π) : PageEv π κ σ (τ.lineWritten n a data) :=
  hh.trans ⟨State.lineWritten_keeps (L := evParts ++ π) n a data (by simp [evParts, h0]) (SameBut.refl _ τ),
    fun kk _ _ => State.rd_of_regs ((State.lineWritten_keeps (L := [.cpu]) n a data (List.Subset.refl _) (SameBut.refl _ τ)) .regs (by decide)) kk⟩

theorem PageEv.clearBegin {π : List Part} {κ : List Nat} {σ τ : State} (hh : PageEv π κ σ τ) (r : Req) (h0 : .ecc ∈ π) : PageEv π κ σ (τ.clearBegin r) :=
  hh.trans ⟨State.clearBegin_keeps (L := evParts ++ π) r (by simp [evParts, h0]) (SameBut.refl _ τ),
    fun kk _ _ => State.rd_of_regs ((State.clearBegin_keeps (L := [.ecc]) r (List.Subset.refl _) (SameBut.refl _ τ)) .regs (by decide)) kk⟩

theorem PageEv.entropyUp {π : List Part} {κ : List Nat} {σ τ : State} (hh : PageEv π κ σ τ)  (h0 : .mxe ∈ π) (h1 : .fresh ∈ π) : PageEv π κ σ (τ.entropyUp) :=
  hh.trans ⟨State.entropyUp_keeps (L := evParts ++ π)  (by simp [evParts, h0, h1]) (SameBut.refl _ τ),
    fun kk _ _ => State.rd_of_regs ((State.entropyUp_keeps (L := [.mxe, .fresh])  (List.Subset.refl _) (SameBut.refl _ τ)) .regs (by decide)) kk⟩

theorem PageEv.barPackets {π : List Part} {κ : List Nat} {σ τ : State} (hh : PageEv π κ σ τ) (ids : List Nat) (h0 : .upb ∈ π) : PageEv π κ σ (τ.barPackets ids) :=
  hh.trans ⟨State.barPackets_keeps (L := evParts ++ π) ids (by simp [evParts, h0]) (SameBut.refl _ τ),
    fun kk _ _ => State.rd_of_regs ((State.barPackets_keeps (L := [.upb]) ids (List.Subset.refl _) (SameBut.refl _ τ)) .regs (by decide)) kk⟩

theorem PageEv.testOn {π : List Part} {κ : List Nat} {σ τ : State} (hh : PageEv π κ σ τ) (c : Chan) (n : Nat) (h0 : .fresh ∈ π) : PageEv π κ σ (τ.testOn c n) :=
  hh.trans ⟨State.testOn_keeps (L := evParts ++ π) c n (by simp [evParts, h0]) (SameBut.refl _ τ),
    fun kk _ _ => State.rd_of_regs ((State.testOn_keeps (L := [.out, .fresh]) c n (List.Subset.refl _) (SameBut.refl _ τ)) .regs (by decide)) kk⟩

theorem PageEv.trimsIn {π : List Part} {κ : List Nat} {σ τ : State} (hh : PageEv π κ σ τ) (c : Chan) (h0 : .rx ∈ π) : PageEv π κ σ (τ.trimsIn c) :=
  hh.trans ⟨State.trimsIn_keeps (L := evParts ++ π) c (by simp [evParts, h0]) (SameBut.refl _ τ),
    fun kk _ _ => State.rd_of_regs ((State.trimsIn_keeps (L := [.rx]) c (List.Subset.refl _) (SameBut.refl _ τ)) .regs (by decide)) kk⟩

theorem PageEv.keepStream {π : List Part} {κ : List Nat} {σ τ : State} (hh : PageEv π κ σ τ) (c : Chan) (g : GroupIn) (h0 : .dsf ∈ π) : PageEv π κ σ (τ.keepStream c g) :=
  hh.trans ⟨State.keepStream_keeps (L := evParts ++ π) c g (by simp [evParts, h0]) (SameBut.refl _ τ),
    fun kk _ _ => State.rd_of_regs ((State.keepStream_keeps (L := [.dsf]) c g (List.Subset.refl _) (SameBut.refl _ τ)) .regs (by decide)) kk⟩

theorem PageEv.extendHold {π : List Part} {κ : List Nat} {σ τ : State} (hh : PageEv π κ σ τ) (c : Chan) (h0 : .rx ∈ π) : PageEv π κ σ (τ.extendHold c) :=
  hh.trans ⟨State.extendHold_keeps (L := evParts ++ π) c (by simp [evParts, h0]) (SameBut.refl _ τ),
    fun kk _ _ => State.rd_of_regs ((State.extendHold_keeps (L := [.rx]) c (List.Subset.refl _) (SameBut.refl _ τ)) .regs (by decide)) kk⟩

theorem PageEv.freeze {π : List Part} {κ : List Nat} {σ τ : State} (hh : PageEv π κ σ τ) (c : Chan) (gain : Nat) (h0 : .rx ∈ π) : PageEv π κ σ (τ.freeze c gain) :=
  hh.trans ⟨State.freeze_keeps (L := evParts ++ π) c gain (by simp [evParts, h0]) (SameBut.refl _ τ),
    fun kk _ _ => State.rd_of_regs ((State.freeze_keeps (L := [.rx]) c gain (List.Subset.refl _) (SameBut.refl _ τ)) .regs (by decide)) kk⟩

theorem PageEv.slipGrid {π : List Part} {κ : List Nat} {σ τ : State} (hh : PageEv π κ σ τ) (c : Chan) (offset : ℤ) (h0 : .dsf ∈ π) : PageEv π κ σ (τ.slipGrid c offset) :=
  hh.trans ⟨State.slipGrid_keeps (L := evParts ++ π) c offset (by simp [evParts, h0]) (SameBut.refl _ τ),
    fun kk _ _ => State.rd_of_regs ((State.slipGrid_keeps (L := [.dsf]) c offset (List.Subset.refl _) (SameBut.refl _ τ)) .regs (by decide)) kk⟩

theorem PageEv.adapt {π : List Part} {κ : List Nat} {σ τ : State} (hh : PageEv π κ σ τ) (c : Chan) (a : Adapt) (h0 : .rx ∈ π) : PageEv π κ σ (τ.adapt c a) :=
  hh.trans ⟨State.adapt_keeps (L := evParts ++ π) c a (by simp [evParts, h0]) (SameBut.refl _ τ),
    fun kk _ _ => State.rd_of_regs ((State.adapt_keeps (L := [.rx]) c a (List.Subset.refl _) (SameBut.refl _ τ)) .regs (by decide)) kk⟩

theorem PageEv.pmbSend {π : List Part} {κ : List Nat} {σ τ : State} (hh : PageEv π κ σ τ) (line : Bool) (cmds : List PmbCmd) : PageEv π κ σ (τ.pmbSend line cmds) :=
  hh.trans ⟨State.pmbSend_keeps (L := evParts ++ π) line cmds (by simp [evParts]) (SameBut.refl _ τ),
    fun kk _ _ => State.rd_of_regs ((State.pmbSend_keeps (L := [.out]) line cmds (List.Subset.refl _) (SameBut.refl _ τ)) .regs (by decide)) kk⟩

theorem PageEv.train {π : List Part} {κ : List Nat} {σ τ : State} (hh : PageEv π κ σ τ) : PageEv π κ σ (τ.train) :=
  hh.trans ⟨State.train_keeps (L := evParts ++ π)  (by simp [evParts]) (SameBut.refl _ τ),
    fun kk _ _ => State.rd_of_regs ((State.train_keeps (L := [.seam])  (List.Subset.refl _) (SameBut.refl _ τ)) .regs (by decide)) kk⟩

theorem PageEv.asOff {π : List Part} {κ : List Nat} {σ τ : State} (hh : PageEv π κ σ τ)  (h0 : .tribs ∈ π) (h1 : .rows ∈ π) (h2 : .ttest ∈ π) (h3 : .upb ∈ π) (h4 : .key ∈ π) : PageEv π κ σ (τ.asOff) :=
  hh.trans ⟨State.asOff_keeps (L := evParts ++ π)  (by simp [evParts, h0, h1, h2, h3, h4]) (SameBut.refl _ τ),
    fun kk _ _ => State.rd_of_regs ((State.asOff_keeps (L := [.seam, .tribs, .rows, .ttest, .upb, .key])  (List.Subset.refl _) (SameBut.refl _ τ)) .regs (by decide)) kk⟩

theorem PageEv.mirrorSel {π : List Part} {κ : List Nat} {σ τ : State} (hh : PageEv π κ σ τ) (r : Req) (a : Nat) (h0 : .mirror ∈ π) : PageEv π κ σ (τ.mirrorSel r a) :=
  hh.trans ⟨State.mirrorSel_keeps (L := evParts ++ π) r a (by simp [evParts, h0]) (SameBut.refl _ τ),
    fun kk _ _ => State.rd_of_regs ((State.mirrorSel_keeps (L := [.mirror]) r a (List.Subset.refl _) (SameBut.refl _ τ)) .regs (by decide)) kk⟩

theorem PageEv.with_shown {v} (hh : PageEv ps ks s t) (h0 : .shown ∈ ps) : PageEv ps ks s { t with shown := v } :=
  hh.trans ⟨by intro p hp; cases p <;> first | rfl | exact absurd (List.mem_append_right _ h0) hp, fun _ _ _ => rfl⟩

theorem PageEv.with_mirror {v} (hh : PageEv ps ks s t) (h0 : .mirror ∈ ps) : PageEv ps ks s { t with mirror := v } :=
  hh.trans ⟨by intro p hp; cases p <;> first | rfl | exact absurd (List.mem_append_right _ h0) hp, fun _ _ _ => rfl⟩

theorem PageEv.with_mem {v} (hh : PageEv ps ks s t) (h0 : .mem ∈ ps) : PageEv ps ks s { t with mem := v } :=
  hh.trans ⟨by intro p hp; cases p <;> first | rfl | exact absurd (List.mem_append_right _ h0) hp, fun _ _ _ => rfl⟩

theorem PageEv.with_seam {v} (hh : PageEv ps ks s t) : PageEv ps ks s { t with seam := v } :=
  hh.trans ⟨by intro p hp; cases p <;> first | rfl | exact absurd (List.mem_append_left _ (by decide)) hp, fun _ _ _ => rfl⟩

theorem PageEv.with_cmt {v} (hh : PageEv ps ks s t) (h0 : .cmt ∈ ps) : PageEv ps ks s { t with cmt := v } :=
  hh.trans ⟨by intro p hp; cases p <;> first | rfl | exact absurd (List.mem_append_right _ h0) hp, fun _ _ _ => rfl⟩

theorem PageEv.with_own {v} (hh : PageEv ps ks s t) (h0 : .own ∈ ps) : PageEv ps ks s { t with own := v } :=
  hh.trans ⟨by intro p hp; cases p <;> first | rfl | exact absurd (List.mem_append_right _ h0) hp, fun _ _ _ => rfl⟩

theorem PageEv.with_nextPkt {v} (hh : PageEv ps ks s t) (h0 : .nextPkt ∈ ps) : PageEv ps ks s { t with nextPkt := v } :=
  hh.trans ⟨by intro p hp; cases p <;> first | rfl | exact absurd (List.mem_append_right _ h0) hp, fun _ _ _ => rfl⟩

theorem PageEv.with_rx {v} (hh : PageEv ps ks s t) (h0 : .rx ∈ ps) : PageEv ps ks s { t with rx := v } :=
  hh.trans ⟨by intro p hp; cases p <;> first | rfl | exact absurd (List.mem_append_right _ h0) hp, fun _ _ _ => rfl⟩

theorem PageEv.with_dsf {v} (hh : PageEv ps ks s t) (h0 : .dsf ∈ ps) : PageEv ps ks s { t with dsf := v } :=
  hh.trans ⟨by intro p hp; cases p <;> first | rfl | exact absurd (List.mem_append_right _ h0) hp, fun _ _ _ => rfl⟩

theorem PageEv.with_tmap {v} (hh : PageEv ps ks s t) (h0 : .tmap ∈ ps) : PageEv ps ks s { t with tmap := v } :=
  hh.trans ⟨by intro p hp; cases p <;> first | rfl | exact absurd (List.mem_append_right _ h0) hp, fun _ _ _ => rfl⟩

theorem PageEv.with_tribs {v} (hh : PageEv ps ks s t) (h0 : .tribs ∈ ps) : PageEv ps ks s { t with tribs := v } :=
  hh.trans ⟨by intro p hp; cases p <;> first | rfl | exact absurd (List.mem_append_right _ h0) hp, fun _ _ _ => rfl⟩

theorem PageEv.with_tfrags {v} (hh : PageEv ps ks s t) (h0 : .tfrags ∈ ps) : PageEv ps ks s { t with tfrags := v } :=
  hh.trans ⟨by intro p hp; cases p <;> first | rfl | exact absurd (List.mem_append_right _ h0) hp, fun _ _ _ => rfl⟩

theorem PageEv.with_rows {v} (hh : PageEv ps ks s t) (h0 : .rows ∈ ps) : PageEv ps ks s { t with rows := v } :=
  hh.trans ⟨by intro p hp; cases p <;> first | rfl | exact absurd (List.mem_append_right _ h0) hp, fun _ _ _ => rfl⟩

theorem PageEv.with_ttest {v} (hh : PageEv ps ks s t) (h0 : .ttest ∈ ps) : PageEv ps ks s { t with ttest := v } :=
  hh.trans ⟨by intro p hp; cases p <;> first | rfl | exact absurd (List.mem_append_right _ h0) hp, fun _ _ _ => rfl⟩

theorem PageEv.with_act {v} (hh : PageEv ps ks s t) (h0 : .act ∈ ps) : PageEv ps ks s { t with act := v } :=
  hh.trans ⟨by intro p hp; cases p <;> first | rfl | exact absurd (List.mem_append_right _ h0) hp, fun _ _ _ => rfl⟩

theorem PageEv.with_upb {v} (hh : PageEv ps ks s t) (h0 : .upb ∈ ps) : PageEv ps ks s { t with upb := v } :=
  hh.trans ⟨by intro p hp; cases p <;> first | rfl | exact absurd (List.mem_append_right _ h0) hp, fun _ _ _ => rfl⟩

theorem PageEv.with_restarts {v} (hh : PageEv ps ks s t) (h0 : .restarts ∈ ps) : PageEv ps ks s { t with restarts := v } :=
  hh.trans ⟨by intro p hp; cases p <;> first | rfl | exact absurd (List.mem_append_right _ h0) hp, fun _ _ _ => rfl⟩

theorem PageEv.with_gsm {v} (hh : PageEv ps ks s t) (h0 : .gsm ∈ ps) : PageEv ps ks s { t with gsm := v } :=
  hh.trans ⟨by intro p hp; cases p <;> first | rfl | exact absurd (List.mem_append_right _ h0) hp, fun _ _ _ => rfl⟩

theorem PageEv.with_txEff {v} (hh : PageEv ps ks s t) (h0 : .txEff ∈ ps) : PageEv ps ks s { t with txEff := v } :=
  hh.trans ⟨by intro p hp; cases p <;> first | rfl | exact absurd (List.mem_append_right _ h0) hp, fun _ _ _ => rfl⟩

theorem PageEv.with_pairs {v} (hh : PageEv ps ks s t) (h0 : .pairs ∈ ps) : PageEv ps ks s { t with pairs := v } :=
  hh.trans ⟨by intro p hp; cases p <;> first | rfl | exact absurd (List.mem_append_right _ h0) hp, fun _ _ _ => rfl⟩

theorem PageEv.with_key {v} (hh : PageEv ps ks s t) (h0 : .key ∈ ps) : PageEv ps ks s { t with key := v } :=
  hh.trans ⟨by intro p hp; cases p <;> first | rfl | exact absurd (List.mem_append_right _ h0) hp, fun _ _ _ => rfl⟩

theorem PageEv.with_pipes {v} (hh : PageEv ps ks s t) (h0 : .pipes ∈ ps) : PageEv ps ks s { t with pipes := v } :=
  hh.trans ⟨by intro p hp; cases p <;> first | rfl | exact absurd (List.mem_append_right _ h0) hp, fun _ _ _ => rfl⟩

theorem PageEv.with_epochs {v} (hh : PageEv ps ks s t) (h0 : .epochs ∈ ps) : PageEv ps ks s { t with epochs := v } :=
  hh.trans ⟨by intro p hp; cases p <;> first | rfl | exact absurd (List.mem_append_right _ h0) hp, fun _ _ _ => rfl⟩

theorem PageEv.with_prog {v} (hh : PageEv ps ks s t) (h0 : .prog ∈ ps) : PageEv ps ks s { t with prog := v } :=
  hh.trans ⟨by intro p hp; cases p <;> first | rfl | exact absurd (List.mem_append_right _ h0) hp, fun _ _ _ => rfl⟩

theorem PageEv.with_rcnt {v} (hh : PageEv ps ks s t) (h0 : .rcnt ∈ ps) : PageEv ps ks s { t with rcnt := v } :=
  hh.trans ⟨by intro p hp; cases p <;> first | rfl | exact absurd (List.mem_append_right _ h0) hp, fun _ _ _ => rfl⟩

theorem PageEv.with_rcntHeld {v} (hh : PageEv ps ks s t) (h0 : .rcntHeld ∈ ps) : PageEv ps ks s { t with rcntHeld := v } :=
  hh.trans ⟨by intro p hp; cases p <;> first | rfl | exact absurd (List.mem_append_right _ h0) hp, fun _ _ _ => rfl⟩

theorem PageEv.with_excWait {v} (hh : PageEv ps ks s t) (h0 : .excWait ∈ ps) : PageEv ps ks s { t with excWait := v } :=
  hh.trans ⟨by intro p hp; cases p <;> first | rfl | exact absurd (List.mem_append_right _ h0) hp, fun _ _ _ => rfl⟩

theorem PageEv.with_bufs {v} (hh : PageEv ps ks s t) (h0 : .bufs ∈ ps) : PageEv ps ks s { t with bufs := v } :=
  hh.trans ⟨by intro p hp; cases p <;> first | rfl | exact absurd (List.mem_append_right _ h0) hp, fun _ _ _ => rfl⟩

theorem PageEv.with_bufRot {v} (hh : PageEv ps ks s t) (h0 : .bufRot ∈ ps) : PageEv ps ks s { t with bufRot := v } :=
  hh.trans ⟨by intro p hp; cases p <;> first | rfl | exact absurd (List.mem_append_right _ h0) hp, fun _ _ _ => rfl⟩

theorem PageEv.with_qmap {v} (hh : PageEv ps ks s t) (h0 : .qmap ∈ ps) : PageEv ps ks s { t with qmap := v } :=
  hh.trans ⟨by intro p hp; cases p <;> first | rfl | exact absurd (List.mem_append_right _ h0) hp, fun _ _ _ => rfl⟩

theorem PageEv.with_memch {v} (hh : PageEv ps ks s t) (h0 : .memch ∈ ps) : PageEv ps ks s { t with memch := v } :=
  hh.trans ⟨by intro p hp; cases p <;> first | rfl | exact absurd (List.mem_append_right _ h0) hp, fun _ _ _ => rfl⟩

theorem PageEv.with_ecc {v} (hh : PageEv ps ks s t) (h0 : .ecc ∈ ps) : PageEv ps ks s { t with ecc := v } :=
  hh.trans ⟨by intro p hp; cases p <;> first | rfl | exact absurd (List.mem_append_right _ h0) hp, fun _ _ _ => rfl⟩

theorem PageEv.with_mxe {v} (hh : PageEv ps ks s t) (h0 : .mxe ∈ ps) : PageEv ps ks s { t with mxe := v } :=
  hh.trans ⟨by intro p hp; cases p <;> first | rfl | exact absurd (List.mem_append_right _ h0) hp, fun _ _ _ => rfl⟩

theorem PageEv.with_queues {v} (hh : PageEv ps ks s t) (h0 : .queues ∈ ps) : PageEv ps ks s { t with queues := v } :=
  hh.trans ⟨by intro p hp; cases p <;> first | rfl | exact absurd (List.mem_append_right _ h0) hp, fun _ _ _ => rfl⟩

theorem PageEv.with_turns {v} (hh : PageEv ps ks s t) (h0 : .turns ∈ ps) : PageEv ps ks s { t with turns := v } :=
  hh.trans ⟨by intro p hp; cases p <;> first | rfl | exact absurd (List.mem_append_right _ h0) hp, fun _ _ _ => rfl⟩

theorem PageEv.with_elig {v} (hh : PageEv ps ks s t) (h0 : .elig ∈ ps) : PageEv ps ks s { t with elig := v } :=
  hh.trans ⟨by intro p hp; cases p <;> first | rfl | exact absurd (List.mem_append_right _ h0) hp, fun _ _ _ => rfl⟩

theorem PageEv.with_shapers {v} (hh : PageEv ps ks s t) (h0 : .shapers ∈ ps) : PageEv ps ks s { t with shapers := v } :=
  hh.trans ⟨by intro p hp; cases p <;> first | rfl | exact absurd (List.mem_append_right _ h0) hp, fun _ _ _ => rfl⟩

theorem PageEv.with_policers {v} (hh : PageEv ps ks s t) (h0 : .policers ∈ ps) : PageEv ps ks s { t with policers := v } :=
  hh.trans ⟨by intro p hp; cases p <;> first | rfl | exact absurd (List.mem_append_right _ h0) hp, fun _ _ _ => rfl⟩

theorem PageEv.with_gates {v} (hh : PageEv ps ks s t) (h0 : .gates ∈ ps) : PageEv ps ks s { t with gates := v } :=
  hh.trans ⟨by intro p hp; cases p <;> first | rfl | exact absurd (List.mem_append_right _ h0) hp, fun _ _ _ => rfl⟩

theorem PageEv.with_gateBusy {v} (hh : PageEv ps ks s t) (h0 : .gateBusy ∈ ps) : PageEv ps ks s { t with gateBusy := v } :=
  hh.trans ⟨by intro p hp; cases p <;> first | rfl | exact absurd (List.mem_append_right _ h0) hp, fun _ _ _ => rfl⟩

theorem PageEv.with_lanes {v} (hh : PageEv ps ks s t) (h0 : .lanes ∈ ps) : PageEv ps ks s { t with lanes := v } :=
  hh.trans ⟨by intro p hp; cases p <;> first | rfl | exact absurd (List.mem_append_right _ h0) hp, fun _ _ _ => rfl⟩

theorem PageEv.with_lports {v} (hh : PageEv ps ks s t) (h0 : .lports ∈ ps) : PageEv ps ks s { t with lports := v } :=
  hh.trans ⟨by intro p hp; cases p <;> first | rfl | exact absurd (List.mem_append_right _ h0) hp, fun _ _ _ => rfl⟩

theorem PageEv.with_mdio {v} (hh : PageEv ps ks s t) (h0 : .mdio ∈ ps) : PageEv ps ks s { t with mdio := v } :=
  hh.trans ⟨by intro p hp; cases p <;> first | rfl | exact absurd (List.mem_append_right _ h0) hp, fun _ _ _ => rfl⟩

theorem PageEv.with_tim {v} (hh : PageEv ps ks s t) (h0 : .tim ∈ ps) : PageEv ps ks s { t with tim := v } :=
  hh.trans ⟨by intro p hp; cases p <;> first | rfl | exact absurd (List.mem_append_right _ h0) hp, fun _ _ _ => rfl⟩

theorem PageEv.with_evt {v} (hh : PageEv ps ks s t) : PageEv ps ks s { t with evt := v } :=
  hh.trans ⟨by intro p hp; cases p <;> first | rfl | exact absurd (List.mem_append_left _ (by decide)) hp, fun _ _ _ => rfl⟩

theorem PageEv.with_log {v} (hh : PageEv ps ks s t) (h0 : .log ∈ ps) : PageEv ps ks s { t with log := v } :=
  hh.trans ⟨by intro p hp; cases p <;> first | rfl | exact absurd (List.mem_append_right _ h0) hp, fun _ _ _ => rfl⟩

theorem PageEv.with_tsk {v} (hh : PageEv ps ks s t) : PageEv ps ks s { t with tsk := v } :=
  hh.trans ⟨by intro p hp; cases p <;> first | rfl | exact absurd (List.mem_append_left _ (by decide)) hp, fun _ _ _ => rfl⟩

theorem PageEv.with_cpu {v} (hh : PageEv ps ks s t) (h0 : .cpu ∈ ps) : PageEv ps ks s { t with cpu := v } :=
  hh.trans ⟨by intro p hp; cases p <;> first | rfl | exact absurd (List.mem_append_right _ h0) hp, fun _ _ _ => rfl⟩

theorem PageEv.with_pwr {v} (hh : PageEv ps ks s t) (h0 : .pwr ∈ ps) : PageEv ps ks s { t with pwr := v } :=
  hh.trans ⟨by intro p hp; cases p <;> first | rfl | exact absurd (List.mem_append_right _ h0) hp, fun _ _ _ => rfl⟩

theorem PageEv.with_rst {v} (hh : PageEv ps ks s t) (h0 : .rst ∈ ps) : PageEv ps ks s { t with rst := v } :=
  hh.trans ⟨by intro p hp; cases p <;> first | rfl | exact absurd (List.mem_append_right _ h0) hp, fun _ _ _ => rfl⟩

theorem PageEv.with_sys {v} (hh : PageEv ps ks s t) (h0 : .sys ∈ ps) : PageEv ps ks s { t with sys := v } :=
  hh.trans ⟨by intro p hp; cases p <;> first | rfl | exact absurd (List.mem_append_right _ h0) hp, fun _ _ _ => rfl⟩

theorem PageEv.with_hif {v} (hh : PageEv ps ks s t) : PageEv ps ks s { t with hif := v } :=
  hh.trans ⟨by intro p hp; cases p <;> first | rfl | exact absurd (List.mem_append_left _ (by decide)) hp, fun _ _ _ => rfl⟩

theorem PageEv.with_pins {v} (hh : PageEv ps ks s t) (h0 : .pins ∈ ps) : PageEv ps ks s { t with pins := v } :=
  hh.trans ⟨by intro p hp; cases p <;> first | rfl | exact absurd (List.mem_append_right _ h0) hp, fun _ _ _ => rfl⟩

theorem PageEv.with_clock {v} (hh : PageEv ps ks s t) (h0 : .clock ∈ ps) : PageEv ps ks s { t with clock := v } :=
  hh.trans ⟨by intro p hp; cases p <;> first | rfl | exact absurd (List.mem_append_right _ h0) hp, fun _ _ _ => rfl⟩

theorem PageEv.with_timers {v} (hh : PageEv ps ks s t) (h0 : .timers ∈ ps) : PageEv ps ks s { t with timers := v } :=
  hh.trans ⟨by intro p hp; cases p <;> first | rfl | exact absurd (List.mem_append_right _ h0) hp, fun _ _ _ => rfl⟩

theorem PageEv.with_pending {v} (hh : PageEv ps ks s t) (h0 : .pending ∈ ps) : PageEv ps ks s { t with pending := v } :=
  hh.trans ⟨by intro p hp; cases p <;> first | rfl | exact absurd (List.mem_append_right _ h0) hp, fun _ _ _ => rfl⟩

theorem PageEv.with_resp {v} (hh : PageEv ps ks s t) (h0 : .resp ∈ ps) : PageEv ps ks s { t with resp := v } :=
  hh.trans ⟨by intro p hp; cases p <;> first | rfl | exact absurd (List.mem_append_right _ h0) hp, fun _ _ _ => rfl⟩

theorem PageEv.with_out {v} (hh : PageEv ps ks s t) : PageEv ps ks s { t with out := v } :=
  hh.trans ⟨by intro p hp; cases p <;> first | rfl | exact absurd (List.mem_append_left _ (by decide)) hp, fun _ _ _ => rfl⟩

theorem PageEv.with_fresh {v} (hh : PageEv ps ks s t) (h0 : .fresh ∈ ps) : PageEv ps ks s { t with fresh := v } :=
  hh.trans ⟨by intro p hp; cases p <;> first | rfl | exact absurd (List.mem_append_right _ h0) hp, fun _ _ _ => rfl⟩

theorem PageEv.with_dark {v} (hh : PageEv ps ks s t) (h0 : .dark ∈ ps) : PageEv ps ks s { t with dark := v } :=
  hh.trans ⟨by intro p hp; cases p <;> first | rfl | exact absurd (List.mem_append_right _ h0) hp, fun _ _ _ => rfl⟩

end Sys2Proof
end

