-- ==== Sys2Proof/Laws/Safe.lean ====
section
/-! SUPPORT. Memory keeps its canonical form: one lemma for each operation that writes memory or carries out another one. -/

namespace Sys2Proof.Machine

open Sys2Proof

set_option linter.unusedTactic false
set_option linter.unreachableTactic false
set_option linter.unusedVariables false

theorem Safe.keep {ps : List Part} {s t : State} (h : SameBut ps s t) (hm : Part.mem ∉ ps) (h0 : Safe s) : Safe t := by
  have a : t.mem = s.mem := h .mem hm
  unfold Safe at *
  rw [a]; exact h0

theorem Safe.ite {a b : State} {c : Prop} [Decidable c] (ha : Safe a) (hb : Safe b) : Safe (if c then a else b) := by
  split <;> assumption

theorem Safe.foldl {α : Type} {x : State} {f : State → α → State} {l : List α} (hf : ∀ t a, Safe t → Safe (f t a)) (h : Safe x) :
    Safe (l.foldl f x) := by
  induction l generalizing x with
  | nil => exact h
  | cons a l ih => exact ih (hf x a h)

/-- The state of an answer has its memory in canonical form. -/
def PairSafe {α : Type} (p : α × State) : Prop := Safe p.2

theorem PairSafe.keep {α : Type} {ps : List Part} {s : State} {p : α × State} (h : PairKeeps ps s p) (hm : Part.mem ∉ ps) (h0 : Safe s) :
    PairSafe p := Safe.keep h hm h0

theorem PairSafe.ite {α : Type} {a b : α × State} {c : Prop} [Decidable c] (ha : PairSafe a) (hb : PairSafe b) :
    PairSafe (if c then a else b) := by
  split <;> assumption

theorem PairSafe.mk {α : Type} {t : State} {a : α} (h : Safe t) : PairSafe (a, t) := h

theorem PairSafe.snd {α : Type} {p : α × State} (h : PairSafe p) : Safe p.2 := h

theorem PairSafe.pair {α : Type} {t : State} {a : α} {p : α × State} (hp : p = (a, t)) (h : PairSafe p) : Safe t := by
  rw [hp] at h; exact h

/-- Every next state that an outcome answers has its memory in canonical form. -/
def ResSafe (r : Res) : Prop := ∀ t, r = .next t → Safe t

theorem ResSafe.next {t : State} (h : Safe t) : ResSafe (.next t) := by
  intro u hu; cases hu; exact h

theorem ResSafe.fault {e : Fault} : ResSafe (.fault e) := by
  intro u hu; cases hu

theorem ResSafe.ite {a b : Res} {c : Prop} [Decidable c] (ha : ResSafe a) (hb : ResSafe b) : ResSafe (if c then a else b) := by
  split <;> assumption

theorem State.writeByte_safe {s : State} (a : Nat) (b : Byte) (h0 : Safe s) : Safe (s.writeByte a b) :=
  mapWf_mapPut (df := fun _ => (0 : Byte)) a b h0

theorem State.writeBytes_safe {s : State} (a : Nat) (bs : List Byte) (h0 : Safe s) : Safe (s.writeBytes a bs) := by
  induction bs generalizing a s with
  | nil => exact h0
  | cons b bs ih => exact ih (a + 1) (State.writeByte_safe a b h0)

theorem State.zeroRange_safe {s : State} (a n : Nat) (h0 : Safe s) : Safe (s.zeroRange a n) := by
  unfold Safe State.zeroRange Memory.wf at *
  exact mapWf_mapFilter (fun k => decide (k < a) || decide (a + n ≤ k)) h0

theorem State.access_safe (r : Req) (k : Nat) (full : Bool) (op : State → State) {s : State} (hop : ∀ t, Safe t → Safe (op t)) (h0 : Safe s) : Safe (s.access r k full op) := by
  unfold State.access
  exact (Safe.ite (Safe.keep (State.reply_keeps _ (List.Subset.refl _) (SameBut.refl _ _)) (by decide) h0) (by
    split
    · exact (hop _ (Safe.keep (State.reply_keeps _ (List.Subset.refl _) (SameBut.refl _ _)) (by decide) h0))
    · exact (Safe.keep (State.deny_keeps _ _ _ _ (List.Subset.refl _) (SameBut.refl _ _)) (by decide) h0)
    · exact (Safe.keep (State.busError_keeps _ _ _ _ (List.Subset.refl _) (SameBut.refl _ _)) (by decide) h0)))

theorem State.guarded_safe (r : Req) (k : Nat) (op : State → State) {s : State} (hop : ∀ t, Safe t → Safe (op t)) (h0 : Safe s) : Safe (s.guarded r k op) := by
  unfold State.guarded
  exact (Safe.ite (Safe.keep (State.deny_keeps _ _ _ _ (List.Subset.refl _) (SameBut.refl _ _)) (by decide) h0) (Safe.ite (Safe.keep (State.deny_keeps _ _ _ _ (List.Subset.refl _) (SameBut.refl _ _)) (by decide) h0) (hop _ h0)))

theorem State.readAccess_safe (r : Req) (k : Nat) (full : Bool) (value : Word) (op : State → State) {s : State} (hop : ∀ t, Safe t → Safe (op t)) (h0 : Safe s) : Safe (s.readAccess r k full value op) := by
  unfold State.readAccess
  exact (Safe.ite (Safe.keep (State.reply_keeps _ (List.Subset.refl _) (SameBut.refl _ _)) (by decide) h0) (by
    split
    · exact (Safe.ite (hop _ (Safe.keep (State.reply_keeps _ (List.Subset.refl _) (SameBut.refl _ _)) (by decide) h0)) (Safe.keep (State.reply_keeps _ (List.Subset.refl _) (SameBut.refl _ _)) (by decide) h0))
    · exact (Safe.keep (State.busError_keeps _ _ _ _ (List.Subset.refl _) (SameBut.refl _ _)) (by decide) h0)))

theorem State.storeBytes_safe (a : Nat) (bs : List Byte) {s : State} (h0 : Safe s) : Safe (s.storeBytes a bs) := by
  unfold State.storeBytes
  exact (Safe.keep (State.dramRange_keeps _ _ (List.Subset.refl _) (SameBut.refl _ _)) (by decide) (State.writeBytes_safe _ _ h0))

theorem State.writeBack_safe (x : CacheLine) {s : State} (h0 : Safe s) : Safe (s.writeBack x) := by
  unfold State.writeBack
  exact (Safe.ite (State.storeBytes_safe _ _ h0) h0)

theorem State.snoop_safe (n : Fin 8) (a : Nat) {s : State} (h0 : Safe s) : Safe (s.snoop n a) := by
  unfold State.snoop
  exact (Safe.keep (State.setCaches_keeps _ (List.Subset.refl _) (SameBut.refl _ _)) (by decide) (Safe.foldl (fun _ _ h1 => (State.writeBack_safe _ h1)) h0))

theorem State.makeRoom_safe (n : Fin 8) (instr : Bool) {s : State} (h0 : Safe s) : Safe (s.makeRoom n instr) := by
  unfold State.makeRoom
  exact (Safe.ite h0 (by
    try dsimp only
    split
    · exact (Safe.keep (State.setCaches_keeps _ (List.Subset.refl _) (SameBut.refl _ _)) (by decide) (State.writeBack_safe _ (PairSafe.snd (PairSafe.keep (State.freeVal_keeps (List.Subset.refl _) (SameBut.refl _ _)) (by decide) h0))))
    · exact (PairSafe.snd (PairSafe.keep (State.freeVal_keeps (List.Subset.refl _) (SameBut.refl _ _)) (by decide) h0))))

theorem State.takeLine_safe (n : Fin 8) (instr : Bool) (a : Nat) {s : State} (h0 : Safe s) : Safe (s.takeLine n instr a) := by
  unfold State.takeLine
  exact (Safe.keep (State.setCaches_keeps _ (List.Subset.refl _) (SameBut.refl _ _)) (by decide) (State.makeRoom_safe _ _ h0))

theorem State.fillStep_safe (m : Chan) {s : State} (h0 : Safe s) : Safe (s.fillStep m) := by
  unfold State.fillStep
  exact (Safe.ite h0 (Safe.ite (Safe.ite (Safe.keep (State.fire_keeps _ _ (List.Subset.refl _) (SameBut.refl _ _)) (by decide) (Safe.keep (State.setCh_keeps _ _ (List.Subset.refl _) (SameBut.refl _ _)) (by decide) (Safe.keep (State.setCh_keeps _ _ (List.Subset.refl _) (SameBut.refl _ _)) (by decide) (Safe.ite h0 (Safe.keep (State.dramWrite_keeps _ _ (List.Subset.refl _) (SameBut.refl _ _)) (by decide) (State.zeroRange_safe _ _ h0)))))) (Safe.keep (State.setCh_keeps _ _ (List.Subset.refl _) (SameBut.refl _ _)) (by decide) (Safe.ite h0 (Safe.keep (State.dramWrite_keeps _ _ (List.Subset.refl _) (SameBut.refl _ _)) (by decide) (State.zeroRange_safe _ _ h0))))) (Safe.keep (State.fire_keeps _ _ (List.Subset.refl _) (SameBut.refl _ _)) (by decide) (Safe.keep (State.setCh_keeps _ _ (List.Subset.refl _) (SameBut.refl _ _)) (by decide) h0))))

theorem State.memWrite_safe (pl : MemPlace) (data : List Byte) {s : State} (h0 : Safe s) : Safe (s.memWrite pl data) := by
  unfold State.memWrite
  exact (Safe.keep (State.placeWritten_keeps _ (List.Subset.refl _) (SameBut.refl _ _)) (by decide) (State.storeBytes_safe _ _ h0))

theorem execMemoryWrite_safe (u : MemUser) (pl : MemPlace) (data : List Byte) {s : State} (h0 : Safe s) : ResSafe (execMemoryWrite u pl data s) := by
  unfold execMemoryWrite
  exact (ResSafe.ite (ResSafe.ite (ResSafe.next (Safe.keep (State.memBusError_keeps _ _ _ (List.Subset.refl _) (SameBut.refl _ _)) (by decide) h0)) (ResSafe.next (by
    split
    · exact (Safe.keep (State.lineWritten_keeps _ _ _ (List.Subset.refl _) (SameBut.refl _ _)) (by decide) (State.memWrite_safe _ _ (Safe.keep (State.reply_keeps _ (List.Subset.refl _) (SameBut.refl _ _)) (by decide) h0)))
    · exact (State.memWrite_safe _ _ (Safe.keep (State.reply_keeps _ (List.Subset.refl _) (SameBut.refl _ _)) (by decide) h0))))) ResSafe.fault)

theorem State.lineFill_safe (n : Fin 8) (k : CoreAcc) (a : Nat) (l : Nat) (pl : MemPlace) (o : EccIn) {s : State} (h0 : Safe s) : Safe (s.lineFill n k a l pl o) := by
  unfold State.lineFill
  exact (Safe.ite (Safe.keep (State.reply_keeps _ (List.Subset.refl _) (SameBut.refl _ _)) (by decide) (Safe.ite (Safe.keep (State.storeLine_keeps _ _ (List.Subset.refl _) (SameBut.refl _ _)) (by decide) (Safe.ite (State.snoop_safe _ _ h0) h0)) (Safe.ite (State.snoop_safe _ _ h0) h0))) (by
    split
    · rename_i heq; have h1 := PairSafe.pair heq (PairSafe.keep (State.memRead_keeps _ _ _ (List.Subset.refl _) (SameBut.refl _ _)) (by decide) (Safe.ite (State.snoop_safe _ _ h0) h0))
      exact (Safe.keep (State.reply_keeps _ (List.Subset.refl _) (SameBut.refl _ _)) (by decide) (Safe.ite (Safe.keep (State.storeLine_keeps _ _ (List.Subset.refl _) (SameBut.refl _ _)) (by decide) (State.takeLine_safe _ _ _ h1)) (State.takeLine_safe _ _ _ h1)))
    · rename_i heq; have h2 := PairSafe.pair heq (PairSafe.keep (State.memRead_keeps _ _ _ (List.Subset.refl _) (SameBut.refl _ _)) (by decide) (Safe.ite (State.snoop_safe _ _ h0) h0))
      exact (Safe.keep (State.coreFault_keeps _ _ _ (List.Subset.refl _) (SameBut.refl _ _)) (by decide) h2)))

theorem execLineFill_safe (n : Fin 8) (k : CoreAcc) (a : Nat) (o : EccIn) {s : State} (h0 : Safe s) : ResSafe (execLineFill n k a o s) := by
  unfold execLineFill
  split
  · exact (ResSafe.next (State.lineFill_safe _ _ _ _ _ _ h0))
  · exact (ResSafe.next (Safe.ite h0 (Safe.keep (State.coreFault_keeps _ _ _ (List.Subset.refl _) (SameBut.refl _ _)) (by decide) h0)))

theorem execFillLine_safe (ch : Chan) {s : State} (h0 : Safe s) : ResSafe (execFillLine ch s) := by
  unfold execFillLine
  exact (ResSafe.next (State.fillStep_safe _ h0))

theorem State.storeNode_safe (n : Nat) (ws : List Word) {s : State} (h0 : Safe s) : Safe (s.storeNode n ws) := by
  unfold State.storeNode
  exact (State.writeBytes_safe _ _ h0)

theorem State.setCtx_safe (ext : Bool) (i : Nat) (bs : List Byte) {s : State} (h0 : Safe s) : Safe (s.setCtx ext i bs) := by
  unfold State.setCtx
  exact (State.storeBytes_safe _ _ h0)

theorem State.flowHit_safe (ext : Bool) (i : Nat) (k : Pkt) {s : State} (h0 : Safe s) : PairSafe (s.flowHit ext i k) := by
  unfold State.flowHit
  exact (PairSafe.mk (Safe.keep (State.bump_keeps _ (List.Subset.refl _) (SameBut.refl _ _)) (by decide) (State.setCtx_safe _ _ _ h0)))

theorem State.learn_safe (key : List Byte) {s : State} (h0 : Safe s) : Safe (s.learn key) := by
  unfold State.learn
  try dsimp only
  split
  · exact (Safe.keep (State.bump_keeps _ (List.Subset.refl _) (SameBut.refl _ _)) (by decide) (State.setCtx_safe _ _ _ h0))
  · exact (Safe.keep (State.bump_keeps _ (List.Subset.refl _) (SameBut.refl _ _)) (by decide) (State.setCtx_safe _ _ _ h0))
  · exact (Safe.keep (State.fire_keeps _ _ (List.Subset.refl _) (SameBut.refl _ _)) (by decide) (Safe.keep (State.bump_keeps _ (List.Subset.refl _) (SameBut.refl _ _)) (by decide) h0))

theorem State.flowStage_safe (p : Fin 4) (k : Pkt) (ue : Bool) {s : State} (h0 : Safe s) : Safe (s.flowStage p k ue) := by
  unfold State.flowStage
  exact (Safe.ite (Safe.keep (State.afterFlow_keeps _ _ (List.Subset.refl _) (SameBut.refl _ _)) (by decide) h0) (by
    try dsimp only
    split
    · exact (Safe.keep (State.afterFlow_keeps _ _ (List.Subset.refl _) (SameBut.refl _ _)) (by decide) (PairSafe.snd (State.flowHit_safe _ _ _ h0)))
    · exact (Safe.ite (Safe.keep (State.flowUe_keeps (List.Subset.refl _) (SameBut.refl _ _)) (by decide) h0) (by
        split
        · exact (Safe.keep (State.afterFlow_keeps _ _ (List.Subset.refl _) (SameBut.refl _ _)) (by decide) (PairSafe.snd (State.flowHit_safe _ _ _ h0)))
        · exact (Safe.keep (State.afterFlow_keeps _ _ (List.Subset.refl _) (SameBut.refl _ _)) (by decide) (Safe.ite (State.learn_safe _ (Safe.keep (State.bump_keeps _ (List.Subset.refl _) (SameBut.refl _ _)) (by decide) h0)) (Safe.keep (State.bump_keeps _ (List.Subset.refl _) (SameBut.refl _ _)) (by decide) h0)))))))

theorem State.opFlowCmd_safe (r : Req) (v : Word) (ue : Bool) {s : State} (h0 : Safe s) : Safe (s.opFlowCmd r v ue) := by
  unfold State.opFlowCmd
  exact (Safe.ite (Safe.keep (State.refuse_keeps _ _ (List.Subset.refl _) (SameBut.refl _ _)) (by decide) h0) (Safe.ite (State.setCtx_safe _ _ _ (Safe.ite (State.setCtx_safe _ _ _ (Safe.ite (Safe.ite (Safe.keep (State.setFld_keeps _ _ (List.Subset.refl _) (SameBut.refl _ _)) (by decide) (Safe.keep (State.setFld_keeps _ _ (List.Subset.refl _) (SameBut.refl _ _)) (by decide) h0)) (Safe.foldl (fun _ _ h1 => (Safe.keep (State.wr_keeps _ _ (List.Subset.refl _) (SameBut.refl _ _)) (by decide) h1)) (Safe.keep (State.setFld_keeps _ _ (List.Subset.refl _) (SameBut.refl _ _)) (by decide) h0))) (Safe.keep (State.setFld_keeps _ _ (List.Subset.refl _) (SameBut.refl _ _)) (by decide) h0))) (Safe.ite (Safe.ite (Safe.keep (State.setFld_keeps _ _ (List.Subset.refl _) (SameBut.refl _ _)) (by decide) (Safe.keep (State.setFld_keeps _ _ (List.Subset.refl _) (SameBut.refl _ _)) (by decide) h0)) (Safe.foldl (fun _ _ h2 => (Safe.keep (State.wr_keeps _ _ (List.Subset.refl _) (SameBut.refl _ _)) (by decide) h2)) (Safe.keep (State.setFld_keeps _ _ (List.Subset.refl _) (SameBut.refl _ _)) (by decide) h0))) (Safe.keep (State.setFld_keeps _ _ (List.Subset.refl _) (SameBut.refl _ _)) (by decide) h0)))) (Safe.ite (State.setCtx_safe _ _ _ (Safe.ite (Safe.ite (Safe.keep (State.setFld_keeps _ _ (List.Subset.refl _) (SameBut.refl _ _)) (by decide) (Safe.keep (State.setFld_keeps _ _ (List.Subset.refl _) (SameBut.refl _ _)) (by decide) h0)) (Safe.foldl (fun _ _ h3 => (Safe.keep (State.wr_keeps _ _ (List.Subset.refl _) (SameBut.refl _ _)) (by decide) h3)) (Safe.keep (State.setFld_keeps _ _ (List.Subset.refl _) (SameBut.refl _ _)) (by decide) h0))) (Safe.keep (State.setFld_keeps _ _ (List.Subset.refl _) (SameBut.refl _ _)) (by decide) h0))) (Safe.ite (Safe.ite (Safe.keep (State.setFld_keeps _ _ (List.Subset.refl _) (SameBut.refl _ _)) (by decide) (Safe.keep (State.setFld_keeps _ _ (List.Subset.refl _) (SameBut.refl _ _)) (by decide) h0)) (Safe.foldl (fun _ _ h4 => (Safe.keep (State.wr_keeps _ _ (List.Subset.refl _) (SameBut.refl _ _)) (by decide) h4)) (Safe.keep (State.setFld_keeps _ _ (List.Subset.refl _) (SameBut.refl _ _)) (by decide) h0))) (Safe.keep (State.setFld_keeps _ _ (List.Subset.refl _) (SameBut.refl _ _)) (by decide) h0)))))

theorem State.opTreeData3_safe (r : Req) (v : Word) {s : State} (h0 : Safe s) : Safe (s.opTreeData3 r v) := by
  unfold State.opTreeData3
  exact (Safe.ite (Safe.keep (State.refuse_keeps _ _ (List.Subset.refl _) (SameBut.refl _ _)) (by decide) h0) (Safe.keep (State.viewTree_keeps (List.Subset.refl _) (SameBut.refl _ _)) (by decide) (Safe.ite (Safe.keep (State.setFld_keeps _ _ (List.Subset.refl _) (SameBut.refl _ _)) (by decide) (State.storeNode_safe _ _ h0)) (State.storeNode_safe _ _ h0))))

theorem execFlowLookup_safe (pipe : Fin 4) (ue : Bool) {s : State} (h0 : Safe s) : ResSafe (execFlowLookup pipe ue s) := by
  unfold execFlowLookup
  split
  · exact (ResSafe.next h0)
  · exact (ResSafe.ite (ResSafe.next h0) (ResSafe.next (State.flowStage_safe _ _ _ (Safe.keep (State.setPipe_keeps _ _ (List.Subset.refl _) (SameBut.refl _ _)) (by decide) h0))))

theorem execFlowAge_safe (ext : Bool) (idx : Nat) {s : State} (h0 : Safe s) : ResSafe (execFlowAge ext idx s) := by
  unfold execFlowAge
  exact (ResSafe.next (Safe.ite (Safe.keep (State.bump_keeps _ (List.Subset.refl _) (SameBut.refl _ _)) (by decide) (State.setCtx_safe _ _ _ h0)) h0))

theorem execFlowRead_safe (r : Req) (v : Word) (ue : Bool) {s : State} (h0 : Safe s) : ResSafe (execFlowRead r v ue s) := by
  unfold execFlowRead
  exact (ResSafe.next (State.access_safe _ _ _ _ (fun _ h1 => (State.opFlowCmd_safe _ _ _ h1)) h0))

theorem execFlowWrite_safe (r : Req) (v : Word) {s : State} (h0 : Safe s) : ResSafe (execFlowWrite r v s) := by
  unfold execFlowWrite
  exact (ResSafe.next (State.access_safe _ _ _ _ (fun _ h1 => (State.opFlowCmd_safe _ _ _ h1)) h0))

theorem execFlowInvalidate_safe (r : Req) (v : Word) {s : State} (h0 : Safe s) : ResSafe (execFlowInvalidate r v s) := by
  unfold execFlowInvalidate
  exact (ResSafe.next (State.access_safe _ _ _ _ (fun _ h1 => (State.opFlowCmd_safe _ _ _ h1)) h0))

theorem execTreeDataWrite_safe (r : Req) (v : Word) {s : State} (h0 : Safe s) : ResSafe (execTreeDataWrite r v s) := by
  unfold execTreeDataWrite
  exact (ResSafe.next (State.access_safe _ _ _ _ (fun _ h1 => (State.opTreeData3_safe _ _ h1)) h0))

theorem execCoreTreeStore_safe (n : Fin 8) (node : Nat) (word : Fin 4) (v : Word) (full : Bool) {s : State} (h0 : Safe s) : ResSafe (execCoreTreeStore n node word v full s) := by
  unfold execCoreTreeStore
  exact (ResSafe.ite ResSafe.fault (ResSafe.ite (ResSafe.next h0) (ResSafe.ite (ResSafe.next (Safe.keep (State.coreFault_keeps _ _ _ (List.Subset.refl _) (SameBut.refl _ _)) (by decide) h0)) (ResSafe.ite (ResSafe.next (Safe.keep (SameBut.upd_cpu (List.Subset.refl _) (SameBut.refl _ _)) (by decide) h0)) (by
    split
    · exact (ResSafe.ite (ResSafe.ite (ResSafe.next (Safe.ite (Safe.keep (SameBut.upd_cpu (List.Subset.refl _) (SameBut.refl _ _)) (by decide) (Safe.keep (State.coreFault_keeps _ _ _ (List.Subset.refl _) (SameBut.refl _ _)) (by decide) h0)) (Safe.keep (SameBut.upd_cpu (List.Subset.refl _) (SameBut.refl _ _)) (by decide) (Safe.ite (Safe.keep (State.viewTree_keeps (List.Subset.refl _) (SameBut.refl _ _)) (by decide) (State.storeNode_safe _ _ (Safe.keep (State.reply_keeps _ (List.Subset.refl _) (SameBut.refl _ _)) (by decide) h0))) (State.storeNode_safe _ _ (Safe.keep (State.reply_keeps _ (List.Subset.refl _) (SameBut.refl _ _)) (by decide) h0)))))) (ResSafe.next (Safe.keep (SameBut.upd_cpu (List.Subset.refl _) (SameBut.refl _ _)) (by decide) h0))) (ResSafe.next (Safe.ite (Safe.keep (State.coreFault_keeps _ _ _ (List.Subset.refl _) (SameBut.refl _ _)) (by decide) h0) (Safe.keep (SameBut.upd_cpu (List.Subset.refl _) (SameBut.refl _ _)) (by decide) h0))))
    · exact (ResSafe.next (Safe.ite (Safe.keep (State.coreFault_keeps _ _ _ (List.Subset.refl _) (SameBut.refl _ _)) (by decide) h0) h0)))))))

theorem execBufferAllocate_safe (pipe : Fin 4) {s : State} (h0 : Safe s) : ResSafe (execBufferAllocate pipe s) := by
  unfold execBufferAllocate
  split
  · exact (ResSafe.next h0)
  · exact (by
      try dsimp only
      split
      · exact (ResSafe.next (Safe.keep (State.sendCopies_keeps _ _ _ (List.Subset.refl _) (SameBut.refl _ _)) (by decide) (Safe.keep (State.setBuf_keeps _ _ (List.Subset.refl _) (SameBut.refl _ _)) (by decide) (Safe.keep (State.setPipe_keeps _ _ (List.Subset.refl _) (SameBut.refl _ _)) (by decide) h0))))
      · exact (ResSafe.ite (ResSafe.next (Safe.keep (State.fire_keeps _ _ (List.Subset.refl _) (SameBut.refl _ _)) (by decide) (Safe.keep (State.bump_keeps _ (List.Subset.refl _) (SameBut.refl _ _)) (by decide) (Safe.keep (State.setPipe_keeps _ _ (List.Subset.refl _) (SameBut.refl _ _)) (by decide) h0)))) (by
          split
          · rename_i heq; have h1 := PairSafe.pair heq (PairSafe.keep (State.allocate_keeps _ _ (List.Subset.refl _) (SameBut.refl _ _)) (by decide) (Safe.keep (State.setPipe_keeps _ _ (List.Subset.refl _) (SameBut.refl _ _)) (by decide) h0))
            exact (ResSafe.next (Safe.keep (State.sendCopies_keeps _ _ _ (List.Subset.refl _) (SameBut.refl _ _)) (by decide) (State.storeBytes_safe _ _ (Safe.keep (State.setBuf_keeps _ _ (List.Subset.refl _) (SameBut.refl _ _)) (by decide) h1))))
          · rename_i heq; have h2 := PairSafe.pair heq (PairSafe.keep (State.allocate_keeps _ _ (List.Subset.refl _) (SameBut.refl _ _)) (by decide) (Safe.keep (State.setPipe_keeps _ _ (List.Subset.refl _) (SameBut.refl _ _)) (by decide) h0))
            exact (ResSafe.next (Safe.keep (State.fire_keeps _ _ (List.Subset.refl _) (SameBut.refl _ _)) (by decide) (Safe.keep (State.bump_keeps _ (List.Subset.refl _) (SameBut.refl _ _)) (by decide) h2))))))

theorem State.restore_safe (k : Pkt) (bs : List Byte) {s : State} (h0 : Safe s) : PairSafe (s.restore k bs) := by
  unfold State.restore
  exact (PairSafe.mk (by
    split
    · exact (State.storeBytes_safe _ _ (Safe.keep (State.setQueue_keeps _ _ (List.Subset.refl _) (SameBut.refl _ _)) (by decide) h0))
    · exact (Safe.keep (State.setQueue_keeps _ _ (List.Subset.refl _) (SameBut.refl _ _)) (by decide) h0)))

theorem State.tcEgress_safe (port : Nat) (k : Pkt) (stamp : Nat) {s : State} (h0 : Safe s) : PairSafe (s.tcEgress port k stamp) := by
  unfold State.tcEgress
  exact (PairSafe.ite (PairSafe.mk h0) (by
    split
    · exact (PairSafe.mk h0)
    · exact (PairSafe.ite (PairSafe.mk h0) (PairSafe.ite (PairSafe.mk (Safe.keep (State.fire_keeps _ _ (List.Subset.refl _) (SameBut.refl _ _)) (by decide) (Safe.keep (State.bump_keeps _ (List.Subset.refl _) (SameBut.refl _ _)) (by decide) h0))) (PairSafe.ite (PairSafe.mk (Safe.keep (State.bump_keeps _ (List.Subset.refl _) (SameBut.refl _ _)) (by decide) (PairSafe.snd (State.restore_safe _ _ h0)))) (PairSafe.ite (PairSafe.mk (Safe.keep (SameBut.upd_tim (List.Subset.refl _) (SameBut.refl _ _)) (by decide) h0)) (PairSafe.ite (PairSafe.mk h0) (by
        split
        · exact (PairSafe.mk (Safe.keep (State.bump_keeps _ (List.Subset.refl _) (SameBut.refl _ _)) (by decide) (Safe.keep (SameBut.upd_tim (List.Subset.refl _) (SameBut.refl _ _)) (by decide) (PairSafe.snd (State.restore_safe _ _ h0)))))
        · exact (PairSafe.mk (Safe.keep (State.fire_keeps _ _ (List.Subset.refl _) (SameBut.refl _ _)) (by decide) (Safe.keep (State.bump_keeps _ (List.Subset.refl _) (SameBut.refl _ _)) (by decide) h0)))))))))))

theorem State.egress_safe (port : Nat) (k : Pkt) (stamp : Nat) {s : State} (h0 : Safe s) : PairSafe (s.egress port k stamp) := by
  unfold State.egress
  exact (PairSafe.mk (Safe.keep (State.stampOut_keeps _ _ (List.Subset.refl _) (SameBut.refl _ _)) (by decide) (PairSafe.snd (State.tcEgress_safe _ _ _ h0))))

theorem State.transmit_safe (e : EthPort) (q : Nat) {s : State} (h0 : Safe s) : Safe (s.transmit e q) := by
  unfold State.transmit
  split
  · exact h0
  · exact (Safe.keep (State.setMac_keeps _ _ (List.Subset.refl _) (SameBut.refl _ _)) (by decide) (PairSafe.snd (State.egress_safe _ _ _ (Safe.keep (State.markSelected_keeps _ _ (List.Subset.refl _) (SameBut.refl _ _)) (by decide) h0))))

theorem State.endTx_safe (e : EthPort) (leave : State → Pkt → State) {s : State} (hop : ∀ t a2, Safe t → Safe (leave t a2)) (h0 : Safe s) : Safe (s.endTx e leave) := by
  unfold State.endTx
  split
  · exact h0
  · exact (by
      try dsimp only
      split
      · exact (Safe.keep (State.laneTodo_keeps _ (List.Subset.refl _) (SameBut.refl _ _)) (by decide) (Safe.keep (State.setLane_keeps _ _ (List.Subset.refl _) (SameBut.refl _ _)) (by decide) (Safe.keep (State.setMac_keeps _ _ (List.Subset.refl _) (SameBut.refl _ _)) (by decide) (hop _ _ h0))))
      · exact (Safe.keep (State.setPort_keeps _ _ (List.Subset.refl _) (SameBut.refl _ _)) (by decide) (Safe.keep (State.setMac_keeps _ _ (List.Subset.refl _) (SameBut.refl _ _)) (by decide) (hop _ _ h0))))

theorem execLaneSelect_safe (l : Fin 48) {s : State} (h0 : Safe s) : ResSafe (execLaneSelect l s) := by
  unfold execLaneSelect
  exact (ResSafe.ite (ResSafe.next h0) (by
    try dsimp only
    split
    · rename_i heq; have h3 := PairSafe.pair heq (PairSafe.keep (State.choose_keeps _ _ (List.Subset.refl _) (SameBut.refl _ _)) (by decide) (Safe.keep (State.noteEligible_keeps _ _ (List.Subset.refl _) (SameBut.refl _ _)) (by decide) (Safe.foldl (fun _ _ h2 => (Safe.ite h2 (Safe.keep (State.consult_keeps _ (List.Subset.refl _) (SameBut.refl _ _)) (by decide) h2))) (Safe.foldl (fun _ _ h1 => (Safe.keep (State.cleanHead_keeps _ _ _ (List.Subset.refl _) (SameBut.refl _ _)) (by decide) h1)) h0))))
      exact (ResSafe.next (State.transmit_safe _ _ (Safe.keep (State.takeCredit_keeps _ (List.Subset.refl _) (SameBut.refl _ _)) (by decide) h3)))
    · rename_i heq; have h6 := PairSafe.pair heq (PairSafe.keep (State.choose_keeps _ _ (List.Subset.refl _) (SameBut.refl _ _)) (by decide) (Safe.keep (State.noteEligible_keeps _ _ (List.Subset.refl _) (SameBut.refl _ _)) (by decide) (Safe.foldl (fun _ _ h5 => (Safe.ite h5 (Safe.keep (State.consult_keeps _ (List.Subset.refl _) (SameBut.refl _ _)) (by decide) h5))) (Safe.foldl (fun _ _ h4 => (Safe.keep (State.cleanHead_keeps _ _ _ (List.Subset.refl _) (SameBut.refl _ _)) (by decide) h4)) h0))))
      exact (ResSafe.next h6)))

theorem execPortSelect_safe (p : Fin 8) {s : State} (h0 : Safe s) : ResSafe (execPortSelect p s) := by
  unfold execPortSelect
  exact (ResSafe.ite (ResSafe.next h0) (by
    try dsimp only
    split
    · exact (ResSafe.next (State.transmit_safe _ _ (Safe.keep (State.noteEligible_keeps _ _ (List.Subset.refl _) (SameBut.refl _ _)) (by decide) (Safe.foldl (fun _ _ h1 => (Safe.keep (State.cleanHead_keeps _ _ _ (List.Subset.refl _) (SameBut.refl _ _)) (by decide) h1)) h0))))
    · exact (ResSafe.next (Safe.keep (State.noteEligible_keeps _ _ (List.Subset.refl _) (SameBut.refl _ _)) (by decide) (Safe.foldl (fun _ _ h2 => (Safe.keep (State.cleanHead_keeps _ _ _ (List.Subset.refl _) (SameBut.refl _ _)) (by decide) h2)) h0)))))

theorem State.sendFragment_safe (c : Chan) (b : Burst) (i : Bool) (key : List Byte) (p : Pulled) (n : Nat) {s : State} (h0 : Safe s) :
    Safe (s.sendFragment c b i key p n) := by
  unfold State.sendFragment
  refine Safe.keep (State.encrypted_keeps _ _ _ _ (List.Subset.refl _) (SameBut.refl _ _)) (by decide) ?_
  refine Safe.keep (State.bump_keeps _ (List.Subset.refl _) (SameBut.refl _ _)) (by decide) ?_
  refine Safe.keep (State.emit_keeps _ (List.Subset.refl _) (SameBut.refl _ _)) (by decide) ?_
  refine Safe.keep (State.setUpb_keeps _ _ (List.Subset.refl _) (SameBut.refl _ _)) (by decide) ?_
  exact Safe.ite h0 h0

theorem State.fragmentPlace_safe (c : Chan) (present : Nat) {s : State} (h0 : Safe s) : Safe (s.fragmentPlace c present) := by
  unfold State.fragmentPlace
  try dsimp only
  split
  · exact h0
  · exact (by
      try dsimp only
      split
      · exact (Safe.ite (Safe.keep (State.idleFragment_keeps _ _ _ (List.Subset.refl _) (SameBut.refl _ _)) (by decide) h0) (Safe.ite (Safe.keep (State.idleFragment_keeps _ _ _ (List.Subset.refl _) (SameBut.refl _ _)) (by decide) h0) (State.sendFragment_safe _ _ _ _ _ _ h0)))
      · exact (Safe.keep (State.idleFragment_keeps _ _ _ (List.Subset.refl _) (SameBut.refl _ _)) (by decide) h0)
      · exact (Safe.keep (State.idleFragment_keeps _ _ _ (List.Subset.refl _) (SameBut.refl _ _)) (by decide) h0))

theorem execPacketFragmentStart_safe (c : Chan) (present : Nat) {s : State} (h0 : Safe s) : ResSafe (execPacketFragmentStart c present s) := by
  unfold execPacketFragmentStart
  exact (ResSafe.next (State.fragmentPlace_safe _ _ h0))

theorem State.withPresence_safe (f : State → State) {s : State} (hop : ∀ t, Safe t → Safe (f t)) (h0 : Safe s) : Safe (s.withPresence f) := by
  unfold State.withPresence
  exact (Safe.keep (State.presenceMoved_keeps _ (List.Subset.refl _) (SameBut.refl _ _)) (by decide) (hop _ h0))

theorem State.takeMsg_safe (h : MsgHdr) (type : Nat) (mine : Bool) (accepts : List TermSt) (bad : Bool) (body : List Byte) (act : State → State) {s : State} (hop : ∀ t, Safe t → Safe (act t)) (h0 : Safe s) : Safe (s.takeMsg h type mine accepts bad body act) := by
  unfold State.takeMsg
  exact (Safe.ite h0 (by
    split
    · exact (Safe.keep (State.answer_keeps _ _ _ (List.Subset.refl _) (SameBut.refl _ _)) (by decide) (Safe.keep (State.bump_keeps _ (List.Subset.refl _) (SameBut.refl _ _)) (by decide) h0))
    · exact (Safe.ite (Safe.ite (Safe.keep (State.bump_keeps _ (List.Subset.refl _) (SameBut.refl _ _)) (by decide) h0) (Safe.keep (State.sendAck_keeps _ _ _ (List.Subset.refl _) (SameBut.refl _ _)) (by decide) (Safe.keep (State.bump_keeps _ (List.Subset.refl _) (SameBut.refl _ _)) (by decide) h0))) (Safe.ite (Safe.ite (Safe.keep (State.msgErr_keeps _ (List.Subset.refl _) (SameBut.refl _ _)) (by decide) h0) (Safe.keep (State.sendAck_keeps _ _ _ (List.Subset.refl _) (SameBut.refl _ _)) (by decide) (Safe.keep (State.msgErr_keeps _ (List.Subset.refl _) (SameBut.refl _ _)) (by decide) h0))) (Safe.keep (State.answer_keeps _ _ _ (List.Subset.refl _) (SameBut.refl _ _)) (by decide) (hop _ (Safe.keep (State.acted_keeps _ _ (List.Subset.refl _) (SameBut.refl _ _)) (by decide) h0)))))))

theorem State.writeDescriptor_safe {s : State} (h0 : Safe s) : Safe (s.writeDescriptor) := by
  unfold State.writeDescriptor
  split
  · exact h0
  · exact (Safe.ite (Safe.keep (State.dropHeld_keeps _ (List.Subset.refl _) (SameBut.refl _ _)) (by decide) (Safe.keep (State.fire_keeps _ _ (List.Subset.refl _) (SameBut.refl _ _)) (by decide) (Safe.keep (State.bump_keeps _ (List.Subset.refl _) (SameBut.refl _ _)) (by decide) (Safe.keep (SameBut.upd_excWait (List.Subset.refl _) (SameBut.refl _ _)) (by decide) h0)))) (Safe.keep (State.enqueuePost_keeps _ (List.Subset.refl _) (SameBut.refl _ _)) (by decide) (Safe.keep (State.bump_keeps _ (List.Subset.refl _) (SameBut.refl _ _)) (by decide) (Safe.keep (State.setFld_keeps _ _ (List.Subset.refl _) (SameBut.refl _ _)) (by decide) (Safe.keep (SameBut.upd_cpu (List.Subset.refl _) (SameBut.refl _ _)) (by decide) (State.storeBytes_safe _ _ (Safe.keep (SameBut.upd_excWait (List.Subset.refl _) (SameBut.refl _ _)) (by decide) h0)))))))

theorem State.port_safe (n : Fin 8) (f : State → State) {s : State} (hop : ∀ t, Safe t → Safe (f t)) (h0 : Safe s) : Safe (s.port n f) := by
  unfold State.port
  exact (Safe.ite (hop _ h0) h0)

theorem execExcDescriptorWrite_safe {s : State} (h0 : Safe s) : ResSafe (execExcDescriptorWrite s) := by
  unfold execExcDescriptorWrite
  exact (ResSafe.next (State.writeDescriptor_safe h0))

theorem State.endB3_safe (banks : List Nat) {s : State} (h0 : Safe s) : Safe (s.endB3 banks) := by
  unfold State.endB3
  exact (Safe.ite (Safe.ite (Safe.keep (State.setPwr_keeps _ (List.Subset.refl _) (SameBut.refl _ _)) (by decide) (Safe.keep (State.endStep_keeps _ (List.Subset.refl _) (SameBut.refl _ _)) (by decide) (State.zeroRange_safe _ _ (Safe.keep (State.retireBad_keeps _ (List.Subset.refl _) (SameBut.refl _ _)) (by decide) h0)))) (Safe.keep (State.finishWake_keeps (List.Subset.refl _) (SameBut.refl _ _)) (by decide) (Safe.keep (State.endStep_keeps _ (List.Subset.refl _) (SameBut.refl _ _)) (by decide) (State.zeroRange_safe _ _ (Safe.keep (State.retireBad_keeps _ (List.Subset.refl _) (SameBut.refl _ _)) (by decide) h0))))) (Safe.keep (State.endStep_keeps _ (List.Subset.refl _) (SameBut.refl _ _)) (by decide) (State.zeroRange_safe _ _ (Safe.keep (State.retireBad_keeps _ (List.Subset.refl _) (SameBut.refl _ _)) (by decide) h0))))

theorem State.loadImage_safe (h : BootHdr) (image : List Byte) {s : State} (h0 : Safe s) : PairSafe (s.loadImage h image) := by
  unfold State.loadImage
  exact (PairSafe.mk (State.storeBytes_safe _ _ h0))

theorem State.loadCopy1_safe (h : BootHdr) (image : List Byte) {s : State} (h0 : Safe s) : Safe (s.loadCopy1 h image) := by
  unfold State.loadCopy1
  split
  · rename_i heq; have h1 := PairSafe.pair heq (State.loadImage_safe _ _ h0)
    exact h1
  · rename_i heq; have h2 := PairSafe.pair heq (State.loadImage_safe _ _ h0)
    exact (Safe.keep (State.bootFail_keeps (List.Subset.refl _) (SameBut.refl _ _)) (by decide) (Safe.keep (State.copyFails_keeps _ _ (List.Subset.refl _) (SameBut.refl _ _)) (by decide) h2))

theorem State.useCopy1_safe (copy1 : List Byte) (image1 : List Byte) {s : State} (h0 : Safe s) : Safe (s.useCopy1 copy1 image1) := by
  unfold State.useCopy1
  exact (Safe.ite (State.loadCopy1_safe _ _ (Safe.keep (State.tryCopy1_keeps _ (List.Subset.refl _) (SameBut.refl _ _)) (by decide) h0)) (Safe.keep (State.tryCopy1_keeps _ (List.Subset.refl _) (SameBut.refl _ _)) (by decide) h0))

theorem State.endB6_safe (image : List Byte) (copy1 : List Byte) (image1 : List Byte) {s : State} (h0 : Safe s) : Safe (s.endB6 image copy1 image1) := by
  unfold State.endB6
  exact (Safe.keep (State.endStep_keeps _ (List.Subset.refl _) (SameBut.refl _ _)) (by decide) (by
    split
    · exact (Safe.ite (State.loadCopy1_safe _ _ h0) (by
        split
        · rename_i heq; have h1 := PairSafe.pair heq (State.loadImage_safe _ _ h0)
          exact h1
        · rename_i heq; have h2 := PairSafe.pair heq (State.loadImage_safe _ _ h0)
          exact (State.useCopy1_safe _ _ (Safe.keep (State.copyFails_keeps _ _ (List.Subset.refl _) (SameBut.refl _ _)) (by decide) h2))))
    · exact (State.useCopy1_safe _ _ h0)))

theorem State.bootDone_safe (o : BootDone) {s : State} (h0 : Safe s) : Safe (s.bootDone o) := by
  unfold State.bootDone
  split
  · exact (Safe.ite (Safe.keep (State.bootNext_keeps (List.Subset.refl _) (SameBut.refl _ _)) (by decide) (Safe.keep (State.endStep_keeps _ (List.Subset.refl _) (SameBut.refl _ _)) (by decide) (Safe.keep (SameBut.upd_key (List.Subset.refl _) (SameBut.refl _ _)) (by decide) h0))) h0)
  · exact (Safe.ite (Safe.keep (State.bootNext_keeps (List.Subset.refl _) (SameBut.refl _ _)) (by decide) (Safe.keep (State.endB2_keeps _ _ _ (List.Subset.refl _) (SameBut.refl _ _)) (by decide) h0)) h0)
  · exact (Safe.ite (Safe.keep (State.bootNext_keeps (List.Subset.refl _) (SameBut.refl _ _)) (by decide) (State.endB3_safe _ h0)) h0)
  · exact (Safe.ite (Safe.keep (State.bootNext_keeps (List.Subset.refl _) (SameBut.refl _ _)) (by decide) (Safe.keep (State.endB4_keeps _ _ _ _ (List.Subset.refl _) (SameBut.refl _ _)) (by decide) h0)) h0)
  · exact (Safe.ite (Safe.keep (State.endStep_keeps _ (List.Subset.refl _) (SameBut.refl _ _)) (by decide) h0) h0)
  · exact (Safe.ite (Safe.keep (State.bootNext_keeps (List.Subset.refl _) (SameBut.refl _ _)) (by decide) (State.endB6_safe _ _ _ h0)) h0)
  · exact (Safe.ite (Safe.keep (State.releaseCores_keeps (List.Subset.refl _) (SameBut.refl _ _)) (by decide) h0) h0)

theorem State.bistLeaves_safe (kind : Nat) (idx : Nat) {s : State} (h0 : Safe s) : Safe (s.bistLeaves kind idx) := by
  unfold State.bistLeaves
  split
  · exact (State.zeroRange_safe _ _ h0)
  · exact (Safe.keep (State.viewTree_keeps (List.Subset.refl _) (SameBut.refl _ _)) (by decide) (State.zeroRange_safe _ _ h0))
  · exact (Safe.keep (State.viewProg_keeps (List.Subset.refl _) (SameBut.refl _ _)) (by decide) (Safe.keep (SameBut.upd_prog (List.Subset.refl _) (SameBut.refl _ _)) (by decide) h0))
  · exact (State.zeroRange_safe _ _ h0)
  · exact (Safe.keep (State.setCh_keeps _ _ (List.Subset.refl _) (SameBut.refl _ _)) (by decide) h0)
  · exact h0

theorem State.bistEnd_safe (err : Nat) (addr : Word) {s : State} (h0 : Safe s) : Safe (s.bistEnd err addr) := by
  unfold State.bistEnd
  exact (Safe.ite h0 (Safe.keep (State.fire_keeps _ _ (List.Subset.refl _) (SameBut.refl _ _)) (by decide) (Safe.keep (SameBut.upd_sys (List.Subset.refl _) (SameBut.refl _ _)) (by decide) (Safe.keep (State.wr_keeps _ _ (List.Subset.refl _) (SameBut.refl _ _)) (by decide) (Safe.keep (State.wr_keeps _ _ (List.Subset.refl _) (SameBut.refl _ _)) (by decide) (State.bistLeaves_safe _ _ h0))))))

theorem execPowerOn_safe {s : State} (h0 : Safe s) : ResSafe (execPowerOn s) := by
  unfold execPowerOn
  refine ResSafe.next (Safe.ite ?_ h0)
  refine Safe.keep (State.regStep_keeps _ _ (List.Subset.refl _) (SameBut.refl _ _)) (by decide) ?_
  rfl

theorem execPowerLoss_safe {s : State} (h0 : Safe s) : ResSafe (execPowerLoss s) := by
  unfold execPowerLoss
  refine ResSafe.next ?_
  rfl

theorem execBootStepDone_safe (o : BootDone) {s : State} (h0 : Safe s) : ResSafe (execBootStepDone o s) := by
  unfold execBootStepDone
  exact (ResSafe.ite (ResSafe.next (State.bootDone_safe _ h0)) ResSafe.fault)

theorem execBistDone_safe (err : Nat) (addr : Word) {s : State} (h0 : Safe s) : ResSafe (execBistDone err addr s) := by
  unfold execBistDone
  exact (ResSafe.next (State.bistEnd_safe _ _ h0))

theorem State.writePath_safe (r : Req) (p : Nat) (o : Nat) (v : Word) {s : State} (h0 : Safe s) : Safe (s.writePath r p o v) := by
  unfold State.writePath
  exact (Safe.ite (Safe.ite (Safe.keep (State.viewProg_keeps (List.Subset.refl _) (SameBut.refl _ _)) (by decide) (Safe.keep (State.store_keeps _ _ (List.Subset.refl _) (SameBut.refl _ _)) (by decide) h0)) (Safe.ite (Safe.keep (State.opProgCmd_keeps _ _ (List.Subset.refl _) (SameBut.refl _ _)) (by decide) h0) (Safe.ite (Safe.keep (State.opProgData3_keeps _ _ (List.Subset.refl _) (SameBut.refl _ _)) (by decide) h0) (Safe.keep (State.store_keeps _ _ (List.Subset.refl _) (SameBut.refl _ _)) (by decide) h0)))) (Safe.ite (Safe.ite (Safe.keep (State.opFlowCtl_keeps _ _ (List.Subset.refl _) (SameBut.refl _ _)) (by decide) h0) (Safe.ite (Safe.keep (State.viewTree_keeps (List.Subset.refl _) (SameBut.refl _ _)) (by decide) (Safe.keep (State.store_keeps _ _ (List.Subset.refl _) (SameBut.refl _ _)) (by decide) h0)) (Safe.ite (State.opTreeData3_safe _ _ h0) (Safe.ite (State.opFlowCmd_safe _ _ _ h0) (Safe.keep (State.store_keeps _ _ (List.Subset.refl _) (SameBut.refl _ _)) (by decide) h0))))) (Safe.ite (Safe.ite (Safe.keep (State.opBpmCtl_keeps _ _ (List.Subset.refl _) (SameBut.refl _ _)) (by decide) h0) (Safe.ite (Safe.keep (State.viewQmap_keeps (List.Subset.refl _) (SameBut.refl _ _)) (by decide) (Safe.keep (State.store_keeps _ _ (List.Subset.refl _) (SameBut.refl _ _)) (by decide) h0)) (Safe.ite (Safe.keep (State.opQmapData_keeps _ _ (List.Subset.refl _) (SameBut.refl _ _)) (by decide) h0) (Safe.ite (Safe.keep (State.opQmapCmd_keeps _ (List.Subset.refl _) (SameBut.refl _ _)) (by decide) h0) (Safe.ite (Safe.keep (State.opBufCmd_keeps _ (List.Subset.refl _) (SameBut.refl _ _)) (by decide) h0) (Safe.ite (Safe.keep (State.opOnpCnt_keeps _ _ _ (List.Subset.refl _) (SameBut.refl _ _)) (by decide) h0) (Safe.ite (Safe.keep (State.opExtReg_keeps _ _ _ _ (List.Subset.refl _) (SameBut.refl _ _)) (by decide) h0) (Safe.keep (State.store_keeps _ _ (List.Subset.refl _) (SameBut.refl _ _)) (by decide) h0)))))))) (Safe.ite (Safe.ite (Safe.keep (State.opMemCmd_keeps _ _ _ (List.Subset.refl _) (SameBut.refl _ _)) (by decide) h0) (Safe.ite (Safe.keep (State.opSkip_keeps _ _ _ _ (List.Subset.refl _) (SameBut.refl _ _)) (by decide) h0) (Safe.ite (Safe.keep (State.opSkip_keeps _ _ _ _ (List.Subset.refl _) (SameBut.refl _ _)) (by decide) h0) (Safe.keep (State.store_keeps _ _ (List.Subset.refl _) (SameBut.refl _ _)) (by decide) h0)))) (Safe.ite (Safe.ite (Safe.keep (State.opCeCfg_keeps _ (List.Subset.refl _) (SameBut.refl _ _)) (by decide) h0) (Safe.ite (Safe.keep (State.opRetCmd_keeps _ _ (List.Subset.refl _) (SameBut.refl _ _)) (by decide) h0) (Safe.keep (State.store_keeps _ _ (List.Subset.refl _) (SameBut.refl _ _)) (by decide) h0))) (Safe.ite (Safe.keep (State.opMxeCmd_keeps _ _ (List.Subset.refl _) (SameBut.refl _ _)) (by decide) h0) (Safe.keep (State.store_keeps _ _ (List.Subset.refl _) (SameBut.refl _ _)) (by decide) h0)))))))

theorem State.writeAt_safe (r : Req) (a : Nat) (v : Word) {s : State} (h0 : Safe s) : Safe (s.writeAt r a v) := by
  unfold State.writeAt
  exact (Safe.ite (Safe.keep (State.writeHDR_keeps _ _ _ (List.Subset.refl _) (SameBut.refl _ _)) (by decide) h0) (Safe.ite (Safe.keep (State.writeLine_keeps _ _ _ _ (List.Subset.refl _) (SameBut.refl _ _)) (by decide) h0) (Safe.ite (State.writePath_safe _ _ _ _ h0) (Safe.ite (Safe.keep (State.writeQueue_keeps _ _ _ _ (List.Subset.refl _) (SameBut.refl _ _)) (by decide) h0) (Safe.ite (Safe.keep (State.writeSystem_keeps _ _ _ _ (List.Subset.refl _) (SameBut.refl _ _)) (by decide) h0) h0)))))

theorem State.performWrite_safe (r : Req) (a : Nat) (v : Word) {s : State} (h0 : Safe s) : Safe (s.performWrite r a v) := by
  unfold State.performWrite
  exact (Safe.keep (State.mirrorSel_keeps _ _ (List.Subset.refl _) (SameBut.refl _ _)) (by decide) (State.writeAt_safe _ _ _ h0))

theorem State.writeReg_safe (r : Req) (a : Nat) (v : Word) (full : Bool) {s : State} (h0 : Safe s) : Safe (s.writeReg r a v full) := by
  unfold State.writeReg
  exact (Safe.ite (Safe.keep (State.accessStaged_keeps _ _ _ _ (List.Subset.refl _) (SameBut.refl _ _)) (by decide) h0) (State.access_safe _ _ _ _ (fun _ h1 => (State.performWrite_safe _ _ _ h1)) h0))

theorem State.shelf_safe (f : State → State) {s : State} (hop : ∀ t, Safe t → Safe (f t)) (h0 : Safe s) : Safe (s.shelf f) := by
  unfold State.shelf
  exact (Safe.ite (hop _ h0) (Safe.keep (State.reply_keeps _ (List.Subset.refl _) (SameBut.refl _ _)) (by decide) h0))

theorem execRegisterWrite_safe (r : Req) (a : Addr) (v : Word) (full : Bool) {s : State} (h0 : Safe s) : ResSafe (execRegisterWrite r a v full s) := by
  unfold execRegisterWrite
  exact (ResSafe.next (State.writeReg_safe _ _ _ _ h0))

theorem execShelfWriteEffect_safe {s : State} (h0 : Safe s) : ResSafe (execShelfWriteEffect s) := by
  unfold execShelfWriteEffect
  split
  · exact (ResSafe.next h0)
  · exact (ResSafe.next (State.writeReg_safe _ _ _ _ (Safe.keep (State.setHif_keeps _ (List.Subset.refl _) (SameBut.refl _ _)) (by decide) h0)))

theorem execTableSelect_safe (r : Req) (a : Addr) (v : Word) {s : State} (h0 : Safe s) : ResSafe (execTableSelect r a v s) := by
  unfold execTableSelect
  exact (ResSafe.ite (ResSafe.next (State.access_safe _ _ _ _ (fun _ h1 => (State.performWrite_safe _ _ _ h1)) h0)) ResSafe.fault)

end Sys2Proof.Machine
end

