-- ==== Sys2Proof/Laws/Delivery.lean ====
section
/-! SUPPORT. What the delivery of events to the host and to the task engine can do: the arm bits, messages due and posts (R575, R576). -/

namespace Sys2Proof.Laws.Delivery

open Sys2Proof Sys2Proof.Machine

set_option linter.unusedVariables false

/-- A register of the vectors' arm bits. -/
def armReg (k : Nat) : Bool := decide (k = R.EVT_MSIX_ARM_LO) || decide (k = R.EVT_MSIX_ARM_HI)

theorem armKey_arm (v : Nat) : armReg (armKey v) = true := by unfold armKey armReg; split <;> simp

/-- What a delivery may do: disarm vectors, make messages due and enter posts; it takes none of them back. -/
structure Delivered (s t : State) : Prop where
  keep : SameBut [.regs, .hif, .tsk, .out] s t
  regs : ∀ k, armReg k = false → t.rd k = s.rd k
  out : ∀ x ∈ s.out, x ∈ t.out
  pba : ∀ x ∈ s.hif.pba, x ∈ t.hif.pba
  posts : ∀ x, s.postOutstanding x = true → t.postOutstanding x = true

theorem Delivered.refl (s : State) : Delivered s s := ⟨SameBut.refl _ s, fun _ _ => rfl, fun _ h => h, fun _ h => h, fun _ h => h⟩

theorem Delivered.trans {s t u : State} (a : Delivered s t) (b : Delivered t u) : Delivered s u :=
  ⟨SameBut.trans a.keep b.keep, fun k h => (b.regs k h).trans (a.regs k h), fun x h => b.out x (a.out x h), fun x h => b.pba x (a.pba x h),
   fun x h => b.posts x (a.posts x h)⟩

theorem msixDue_delivered (s : State) (v : Nat) : Delivered s (s.msixDue v) := by
  refine ⟨SameBut.mono (by decide) (State.msixDue_keeps v (List.Subset.refl _) (SameBut.refl _ s)), fun k _ => State.msixDue_rd s v k, ?_, ?_, ?_⟩
  · intro x hx; unfold State.msixDue; split
    · exact List.mem_cons_of_mem _ hx
    · split <;> exact hx
  · intro x hx; unfold State.msixDue; split
    · exact hx
    · split
      · exact hx
      · exact List.mem_append_left _ hx
  · intro x hx; unfold State.msixDue; split
    · exact hx
    · split <;> exact hx

theorem msixDue_due (s : State) (v : Nat) : (∃ a d, Out.msix v a d ∈ (s.msixDue v).out) ∨ v ∈ (s.msixDue v).hif.pba := by
  unfold State.msixDue; split
  · exact Or.inl ⟨_, _, List.mem_cons_self⟩
  · split
    · rename_i h; exact Or.inr (by simpa using h)
    · exact Or.inr (List.mem_append_right _ List.mem_cons_self)

theorem msixDue_armed (s : State) (v x : Nat) : (s.msixDue v).armed x = s.armed x := by unfold State.armed; rw [State.msixDue_rd]

theorem setFld_armed (s : State) (v x : Nat) (b : Bool) (hv : v < 64) (hx : x < 64) :
    (s.setFld ⟨armKey v, v % 32, 1⟩ (b2n b)).armed x = if x = v then b else s.armed x := by
  unfold State.armed State.setFld
  dsimp only
  by_cases hk : armKey x = armKey v
  · rw [hk, State.rd_wr_self, getLsbD_setField_one _ _ _ (Nat.mod_lt _ (by decide))]
    have hne : (32 : Nat) ≤ v ↔ 32 ≤ x := by
      unfold armKey at hk
      have : R.EVT_MSIX_ARM_LO ≠ R.EVT_MSIX_ARM_HI := by decide
      split at hk <;> split at hk
      · omega
      · first | exact absurd hk.symm this | exact absurd hk this
      · first | exact absurd hk this | exact absurd hk.symm this
      · omega
    by_cases hxv : x = v
    · subst hxv; rw [if_pos rfl, if_pos rfl]; cases b <;> rfl
    · rw [if_neg hxv, if_neg (by omega)]
  · rw [State.rd_wr_ne _ _ hk, if_neg (by rintro rfl; exact hk rfl)]

theorem vectorOf_lt (s : State) (g v : Nat) (h : s.vectorOf g = some v) : v < 64 := by
  unfold State.vectorOf at h
  split at h
  · have : s.fld (F.EVT_GRP_ROUTE_VECTOR g) < 2 ^ 6 := by unfold State.fld getField; exact Nat.mod_lt _ (Nat.two_pow_pos 6)
    injection h with h; rw [← h]; exact this
  · cases h

/-- A pending group is routed to the vector while delivery is on: arming it makes a message due at once (R576). -/
def owesMessage (s : State) (v : Nat) : Bool := s.bit F.EVT_EVT_CTL_EN && (List.range 96).any (fun g => decide (s.vectorOf g = some v) && s.groupPending g)

theorem rearm_eq (s : State) (v : Nat) : s.rearm v = if owesMessage s v then ((s.setFld ⟨armKey v, v % 32, 1⟩ 1).disarm v).msixDue v else s.setFld ⟨armKey v, v % 32, 1⟩ 1 := rfl

theorem ne_armKey {k : Nat} (h : armReg k = false) (v : Nat) : k ≠ armKey v := by
  rintro rfl; rw [armKey_arm] at h; cases h

theorem setFld_delivered (s : State) (v n : Nat) : Delivered s (s.setFld ⟨armKey v, v % 32, 1⟩ n) :=
  ⟨State.setFld_keeps _ _ (by decide) (SameBut.refl _ s), fun k h => State.rd_setFld_ne _ _ _ (ne_armKey h v), fun _ h => h, fun _ h => h, fun _ h => h⟩

theorem disarm_delivered (s : State) (v : Nat) : Delivered s (s.disarm v) := setFld_delivered s v 0

theorem rearm_delivered (s : State) (v : Nat) : Delivered s (s.rearm v) := by
  rw [rearm_eq]
  split
  · exact ((setFld_delivered s v 1).trans (disarm_delivered _ v)).trans (msixDue_delivered _ v)
  · exact setFld_delivered s v 1

theorem rearm_armed (s : State) (v x : Nat) (hv : v < 64) (hx : x < 64) : (s.rearm v).armed x = if x = v then !owesMessage s v else s.armed x := by
  have h1 : ∀ u : State, ∀ y, y < 64 → (u.setFld ⟨armKey v, v % 32, 1⟩ 1).armed y = if y = v then true else u.armed y := fun u y hy => setFld_armed u v y true hv hy
  have h0 : ∀ u : State, ∀ y, y < 64 → (u.disarm v).armed y = if y = v then false else u.armed y := fun u y hy => setFld_armed u v y false hv hy
  rw [rearm_eq]
  cases hc : owesMessage s v
  · simp only [Bool.false_eq_true, if_false, Bool.not_false]
    exact h1 s x hx
  · simp only [if_true, Bool.not_true]
    rw [msixDue_armed, h0 _ x hx, h1 s x hx]
    split <;> rfl

theorem armReg_header : ∀ p : Fin 256, armReg (R.HDR_EVT_RAW p.val) = false ∧ armReg (R.HDR_EVT_MASK p.val) = false ∧ armReg (R.HDR_PAGE_CTL p.val) = false := by decide +kernel

theorem armReg_route : ∀ g : Fin 96, armReg (R.EVT_GRP_ROUTE g.val) = false := by decide +kernel

theorem groupPage_lt : ∀ g : Fin 96, groupPage g.val < 256 ∧ groupOf (groupPage g.val) = g.val := by decide +kernel

theorem Delivered.vec {s t : State} (h : Delivered s t) (g : Nat) (hg : g < 96) : t.vectorOf g = s.vectorOf g := by
  have hk := h.regs _ (armReg_route ⟨g, hg⟩)
  unfold State.vectorOf State.bit State.fld
  rw [hk]

theorem Delivered.gpend {s t : State} (h : Delivered s t) (g : Nat) (hg : g < 96) : t.groupPending g = s.groupPending g := by
  obtain ⟨h1, h2, h3⟩ := armReg_header ⟨groupPage g, (groupPage_lt ⟨g, hg⟩).1⟩
  unfold State.groupPending State.pendBits State.bit State.fld
  rw [h.regs _ h1, h.regs _ h2]
  rw [h.regs _ h3]

theorem Delivered.hotEq {s t : State} (h : Delivered s t) (v : Nat) : owesMessage t v = owesMessage s v := by
  have he : t.bit F.EVT_EVT_CTL_EN = s.bit F.EVT_EVT_CTL_EN := by
    unfold State.bit State.fld; rw [h.regs _ (by decide)]
  have ha : (List.range 96).any (fun g => decide (t.vectorOf g = some v) && t.groupPending g) =
      (List.range 96).any (fun g => decide (s.vectorOf g = some v) && s.groupPending g) := by
    rw [Bool.eq_iff_iff, List.any_eq_true, List.any_eq_true]
    constructor <;>
    · rintro ⟨g, hg, hx⟩
      refine ⟨g, hg, ?_⟩
      first
      | (rw [h.vec g (List.mem_range.1 hg), h.gpend g (List.mem_range.1 hg)] at hx; exact hx)
      | (rw [h.vec g (List.mem_range.1 hg), h.gpend g (List.mem_range.1 hg)]; exact hx)
  unfold owesMessage
  rw [he, ha]

/-- The vector's message went out or waits in the pending array. -/
def MessageDue (v : Nat) (t : State) : Prop := (∃ a d, Out.msix v a d ∈ t.out) ∨ v ∈ t.hif.pba

theorem Delivered.due {s t : State} (h : Delivered s t) (v : Nat) (hd : MessageDue v s) : MessageDue v t := by
  rcases hd with ⟨a, d, hm⟩ | hm
  · exact Or.inl ⟨a, d, h.out _ hm⟩
  · exact Or.inr (h.pba _ hm)

/-- MSIX_ARM's fold over the bits of one arm register. -/
def rearmAll (v : Word) (off : Nat) (l : List Nat) (s : State) : State := l.foldl (fun t b => if v.getLsbD b then t.rearm (b + off) else t) s

theorem rearmAll_spec (v : Word) (off : Nat) (ho : off ≤ 32) (l : List Nat) (hl : ∀ b ∈ l, b < 32) (s : State) :
    Delivered s (rearmAll v off l s) ∧
    (∀ x, x < 64 → (rearmAll v off l s).armed x = if (∃ b ∈ l, v.getLsbD b = true ∧ x = b + off) then !owesMessage s x else s.armed x) ∧
    (∀ b ∈ l, v.getLsbD b = true → owesMessage s (b + off) = true → MessageDue (b + off) (rearmAll v off l s)) := by
  induction l generalizing s with
  | nil => exact ⟨Delivered.refl s, fun x _ => by rw [if_neg (by simp)]; rfl, by simp⟩
  | cons a l ih =>
    obtain ⟨u, hu⟩ : ∃ u : State, u = if v.getLsbD a then s.rearm (a + off) else s := ⟨_, rfl⟩
    have hc : rearmAll v off (a :: l) s = rearmAll v off l u := by rw [hu]; rfl
    have hDu : Delivered s u := by
      rw [hu]
      split
      · exact rearm_delivered s _
      · exact Delivered.refl s
    have ha : a < 32 := hl a (by simp)
    have hAu : ∀ x, x < 64 → u.armed x = if v.getLsbD a = true ∧ x = a + off then !owesMessage s x else s.armed x := by
      intro x hx
      rw [hu]
      by_cases hb : v.getLsbD a = true
      · rw [if_pos hb, rearm_armed s (a + off) x (by omega) hx]
        by_cases he : x = a + off
        · rw [if_pos he, if_pos ⟨hb, he⟩, he]
        · rw [if_neg he, if_neg (fun c => he c.2)]
      · rw [if_neg hb, if_neg (fun c => hb c.1)]
    have hdu : v.getLsbD a = true → owesMessage s (a + off) = true → MessageDue (a + off) u := by
      intro hb hcn
      rw [hu, if_pos hb, rearm_eq, hcn]
      exact msixDue_due _ _
    clear hu
    obtain ⟨i1, i2, i3⟩ := ih (fun b hb => hl b (List.mem_cons_of_mem _ hb)) u
    rw [hc]
    refine ⟨hDu.trans i1, fun x hx => ?_, fun b hb hv hcn => ?_⟩
    · rw [i2 x hx, hDu.hotEq, hAu x hx]
      by_cases h1 : ∃ b ∈ l, v.getLsbD b = true ∧ x = b + off
      · rw [if_pos h1, if_pos (by obtain ⟨b, hb, h⟩ := h1; exact ⟨b, List.mem_cons_of_mem _ hb, h⟩)]
      · rw [if_neg h1]
        by_cases h2 : v.getLsbD a = true ∧ x = a + off
        · rw [if_pos h2, if_pos ⟨a, by simp, h2⟩]
        · rw [if_neg h2, if_neg]
          rintro ⟨b, hb, h⟩
          rcases List.mem_cons.1 hb with rfl | hb
          · exact h2 h
          · exact h1 ⟨b, hb, h⟩
    · rcases List.mem_cons.1 hb with rfl | hb
      · exact i1.due _ (hdu hv hcn)
      · exact i3 b hb hv (by rw [hDu.hotEq]; exact hcn)

theorem owesMessage_false {s : State} {v : Nat} (h : s.bit F.EVT_EVT_CTL_EN = false ∨ ∀ g : Nat, g < 96 → s.vectorOf g = some v → s.groupPending g = false) : owesMessage s v = false := by
  unfold owesMessage
  rcases h with h | h
  · rw [h]; rfl
  · rw [Bool.and_eq_false_iff]; right
    rw [List.any_eq_false]
    intro g hg
    by_cases hv : s.vectorOf g = some v
    · rw [h g (List.mem_range.1 hg) hv]; simp
    · simp [hv]

theorem owesMessage_true {s : State} {v g : Nat} (h1 : s.bit F.EVT_EVT_CTL_EN = true) (h2 : g < 96) (h3 : s.vectorOf g = some v) (h4 : s.groupPending g = true) : owesMessage s v = true := by
  unfold owesMessage
  rw [h1, Bool.true_and, List.any_eq_true]
  exact ⟨g, List.mem_range.2 h2, by rw [h3, h4]; simp⟩

theorem armReg_event {k : Nat} (h : eventReg k = false) : armReg k = false := by
  unfold eventReg at h; unfold armReg
  simp only [Bool.or_eq_false_iff] at h ⊢
  exact ⟨h.1.1.2, h.1.2⟩

theorem Delivered.frame {s t : State} (h : Delivered s t) : FrameEv [.resp] [] s t :=
  ⟨SameBut.mono (by decide) h.keep, fun k _ he => h.regs k (armReg_event he)⟩

theorem enqueuePost_spec (s : State) (p : Post) : SameBut [.tsk] s (s.enqueuePost p) ∧ (s.enqueuePost p).regs = s.regs ∧ (s.enqueuePost p).tsk.queue ++ (s.enqueuePost p).tsk.stalled = s.tsk.queue ++ s.tsk.stalled ++ [p] := by
  refine ⟨State.enqueuePost_keeps p (List.Subset.refl _) (SameBut.refl _ s), ?_, ?_⟩
  · unfold State.enqueuePost; split <;> rfl
  · unfold State.enqueuePost
    split
    · rename_i h; show s.tsk.queue ++ [p] ++ s.tsk.stalled = _; rw [h.2]; simp
    · show s.tsk.queue ++ (s.tsk.stalled ++ [p]) = _; simp

theorem pendingRise_delivered (s : State) (p b : Nat) : Delivered s (s.pendingRise p b) := by
  have post : ∀ (u : State) (x : Nat), Delivered u (u.deliverPost x) := by
    intro u x
    unfold State.deliverPost
    split
    · obtain ⟨k1, k2, k3⟩ := enqueuePost_spec u ⟨BitVec.ofNat 12 (u.fld (F.EVT_SRC_ROUTE_ITEM x)), BitVec.ofNat 5 (u.fld (F.EVT_SRC_ROUTE_FLAG x)), some x, none, false⟩
      refine ⟨SameBut.mono (by decide) k1, fun k _ => State.rd_of_regs k2 k, ?_, ?_, ?_⟩
      · intro y hy; rw [k1 .out (by decide)]; exact hy
      · intro y hy; rw [k1 .hif (by decide)]; exact hy
      · intro y hy; unfold State.postOutstanding at *; rw [k3, List.any_append, hy]; rfl
    · exact Delivered.refl u
  have ms : ∀ (u : State) (g : Nat), Delivered u (u.deliverMsix g) := by
    intro u g
    unfold State.deliverMsix
    split
    · split
      · exact (disarm_delivered u _).trans (msixDue_delivered _ _)
      · exact Delivered.refl u
    · exact Delivered.refl u
  unfold State.pendingRise
  split
  · exact (ms s _).trans (post _ _)
  · exact Delivered.refl s

theorem enqueuePost_armed (u : State) (p : Post) (x : Nat) : (u.enqueuePost p).armed x = u.armed x := by
  unfold State.armed; rw [State.rd_of_regs (enqueuePost_spec u p).2.1]

theorem deliverPost_armed (u : State) (y x : Nat) : (u.deliverPost y).armed x = u.armed x := by
  unfold State.deliverPost; split
  · exact enqueuePost_armed _ _ _
  · rfl

theorem deliverMsix_armed (u : State) (g x : Nat) (hx : x < 64) : (u.deliverMsix g).armed x = if u.vectorOf g = some x then false else u.armed x := by
  unfold State.deliverMsix
  cases hv : u.vectorOf g with
  | none => rw [if_neg (by simp)]
  | some v =>
    have hvl := vectorOf_lt u g v hv
    simp only
    by_cases ha : u.armed v = true
    · rw [if_pos ha, msixDue_armed, show u.disarm v = u.setFld ⟨armKey v, v % 32, 1⟩ (b2n false) from rfl, setFld_armed u v x false hvl hx]
      by_cases h : x = v
      · subst h; simp
      · rw [if_neg h, if_neg (by simpa using fun c => h c.symm)]
    · rw [if_neg ha]
      by_cases h : v = x
      · subst h; simp at ha; simp [ha]
      · rw [if_neg (by simpa using h)]

theorem deliverMsix_due (u : State) (g x : Nat) (hv : u.vectorOf g = some x) (ha : u.armed x = true) : MessageDue x (u.deliverMsix g) := by
  unfold State.deliverMsix
  rw [hv]; simp only; rw [if_pos ha]
  exact msixDue_due _ _

/-- A rise leaves a vector's arm bit, or disarms it with its message due. -/
theorem pendingRise_armed (u : State) (p b x : Nat) (hx : x < 64) :
    ((u.pendingRise p b).armed x = u.armed x) ∨ ((u.pendingRise p b).armed x = false ∧ (u.armed x = true → MessageDue x (u.pendingRise p b))) := by
  unfold State.pendingRise
  split
  · rw [deliverPost_armed, deliverMsix_armed _ _ _ hx]
    by_cases h : u.vectorOf (groupOf p) = some x
    · right
      refine ⟨if_pos h, fun ha => ?_⟩
      have := deliverMsix_due u (groupOf p) x h ha
      unfold State.deliverPost
      split
      · obtain ⟨k1, -, -⟩ := enqueuePost_spec (u.deliverMsix (groupOf p)) ⟨BitVec.ofNat 12 ((u.deliverMsix (groupOf p)).fld (F.EVT_SRC_ROUTE_ITEM (srcNum p b))), BitVec.ofNat 5 ((u.deliverMsix (groupOf p)).fld (F.EVT_SRC_ROUTE_FLAG (srcNum p b))), some (srcNum p b), none, false⟩
        unfold MessageDue at *; rw [k1 .out (by decide), k1 .hif (by decide)]; exact this
      · exact this
    · left; exact if_neg h
  · exact Or.inl rfl

theorem pendingRise_disarms (u : State) (p b x : Nat) (hx : x < 64) (hd : u.delivers p = true) (hl : linePage p = true → u.seam.phase = .up) (hv : u.vectorOf (groupOf p) = some x) :
    (u.pendingRise p b).armed x = false ∧ (u.armed x = true → MessageDue x (u.pendingRise p b)) := by
  have h1 : (u.pendingRise p b).armed x = false := by
    unfold State.pendingRise
    rw [if_pos ⟨hd, hl⟩, deliverPost_armed, deliverMsix_armed _ _ _ hx, if_pos hv]
  rcases pendingRise_armed u p b x hx with h | h
  · exact ⟨h1, fun ha => by rw [h, ha] at h1; cases h1⟩
  · exact h

theorem pendingRise_posts (u : State) (p b : Nat) (hd : u.delivers p = true) (hl : linePage p = true → u.seam.phase = .up) (hr : ∀ w : State, Delivered u w → w.bit (F.EVT_SRC_ROUTE_EN (srcNum p b)) = true) :
    (u.pendingRise p b).postOutstanding (srcNum p b) = true := by
  unfold State.pendingRise
  rw [if_pos ⟨hd, hl⟩]
  have hm : Delivered u (u.deliverMsix (groupOf p)) := by
    unfold State.deliverMsix
    split
    · split
      · exact (disarm_delivered u _).trans (msixDue_delivered _ _)
      · exact Delivered.refl u
    · exact Delivered.refl u
  have hb := hr _ hm
  generalize u.deliverMsix (groupOf p) = w at *
  unfold State.deliverPost
  split
  · obtain ⟨-, -, k3⟩ := enqueuePost_spec w ⟨BitVec.ofNat 12 (w.fld (F.EVT_SRC_ROUTE_ITEM (srcNum p b))), BitVec.ofNat 5 (w.fld (F.EVT_SRC_ROUTE_FLAG (srcNum p b))), some (srcNum p b), none, false⟩
    unfold State.postOutstanding
    rw [k3, List.any_append]; simp
  · rename_i h
    by_contra hc
    exact h ⟨hb, hc⟩

theorem foldl_reaches {α : Type} (f : State → α → State) (J K : State → Prop) (l : List α) (a : α) (ha : a ∈ l)
    (hJ : ∀ t x, J t → J (f t x)) (hK : ∀ t x, K t → K (f t x)) (hit : ∀ t, J t → K (f t a)) (s : State) (h : J s) : K (l.foldl f s) := by
  induction l generalizing s with
  | nil => cases ha
  | cons c l ih =>
    rw [List.foldl_cons]
    rcases List.mem_cons.1 ha with rfl | hm
    · have : ∀ (l : List α) (t : State), K t → K (l.foldl f t) := by
        intro l; induction l with
        | nil => intro t h; exact h
        | cons d l ih => intro t h; exact ih _ (hK _ _ h)
      exact this l _ (hit s h)
    · exact ih hm _ (hJ _ _ h)

theorem foldl_keeps {α : Type} (f : State → α → State) (J : State → Prop) (hJ : ∀ t x, J t → J (f t x)) (l : List α) (s : State) (h : J s) : J (l.foldl f s) := by
  induction l generalizing s with
  | nil => exact h
  | cons c l ih => exact ih _ (hJ _ _ h)

/-- One bit of the fold of a page's pending sources. -/
def riseBit (w : Word) (p : Nat) (t : State) (b : Nat) : State := if w.getLsbD b then t.pendingRise p b else t

theorem risePending_eq (s : State) (p : Nat) : s.risePending p = (List.range 16).foldl (riseBit (s.pendBits p) p) s := rfl

theorem riseBit_keeps (J : State → Prop) (hJ : ∀ t p b, J t → J (t.pendingRise p b)) (w : Word) (p : Nat) (t : State) (b : Nat) (h : J t) : J (riseBit w p t b) := by
  unfold riseBit; split
  · exact hJ _ _ _ h
  · exact h

theorem risePending_keeps (J : State → Prop) (hJ : ∀ t p b, J t → J (t.pendingRise p b)) (p : Nat) (t : State) (h : J t) : J (t.risePending p) := by
  rw [risePending_eq]; exact foldl_keeps _ _ (fun t b h => riseBit_keeps J hJ _ _ t b h) _ _ h

theorem riseAll_reaches (J K : State → Prop) (hJ : ∀ t p b, J t → J (t.pendingRise p b)) (hK : ∀ t p b, K t → K (t.pendingRise p b))
    (g b : Nat) (hg : g < 96) (hb : b < 16) (hbit : ∀ t, J t → (t.pendBits (groupPage g)).getLsbD b = true)
    (hit : ∀ t, J t → K (t.pendingRise (groupPage g) b)) (s : State) (h : J s) :
    K ((List.range 96).foldl (fun t g => t.risePending (groupPage g)) s) := by
  refine foldl_reaches _ J K _ g (List.mem_range.2 hg) (fun t x h => risePending_keeps J hJ _ t h) (fun t x h => risePending_keeps K hK _ t h) (fun t ht => ?_) s h
  rw [risePending_eq]
  have hp := hbit t ht
  generalize t.pendBits (groupPage g) = w at *
  refine foldl_reaches _ J K _ b (List.mem_range.2 hb) (fun t x h => riseBit_keeps J hJ _ _ t x h) (fun t x h => riseBit_keeps K hK _ _ t x h) (fun u hu => ?_) t ht
  unfold riseBit; rw [if_pos hp]; exact hit u hu

theorem riseAll_keeps (J : State → Prop) (hJ : ∀ t p b, J t → J (t.pendingRise p b)) (s : State) (h : J s) :
    J ((List.range 96).foldl (fun t g => t.risePending (groupPage g)) s) :=
  foldl_keeps _ _ (fun t x h => risePending_keeps J hJ _ t h) _ _ h

end Sys2Proof.Laws.Delivery
end

