-- ==== Sys2Proof/Laws/ErrorLog.lean ====
section
/-! SUPPORT. What the log writer's start and the making of an error-log record change (R580, R691). -/

namespace Sys2Proof.Laws.ErrorLog

open Sys2Proof Sys2Proof.Machine

set_option linter.unusedVariables false

/-- What the log writer's start changes: how many records are being written, and that they go out. -/
theorem logStart_spec (s : State) : SameBut [.log, .out] s s.logStart ∧ s.logStart.log = { s.log with writing := s.logStart.log.writing } := by
  refine ⟨State.logStart_keeps (List.Subset.refl _) (SameBut.refl _ s), ?_⟩
  unfold State.logStart
  split <;> rfl

theorem logStart_frame {ks : List Nat} (s : State) : FrameEv [.log] ks s s.logStart := (FrameEv.refl _ _ s).logStart (by decide)

theorem logStart_rd (s : State) (k : Nat) : s.logStart.rd k = s.rd k := State.rd_of_regs ((logStart_spec s).1 .regs (by decide)) k

theorem setLog_frame {ks : List Nat} (s : State) (l : Log) : FrameEv [.log] ks s ({ s with log := l } : State) :=
  FrameEv.of_same (SameBut.upd_log (by decide) (SameBut.refl _ s)) rfl

theorem fire_log (s : State) (p b : Nat) : (s.fire p b).log = s.log := (State.fire_keeps p b (List.Subset.refl _) (SameBut.refl _ s)) .log (by decide)

theorem fire_rst (s : State) (p b : Nat) : (s.fire p b).rst = s.rst := (State.fire_keeps p b (List.Subset.refl _) (SameBut.refl _ s)) .rst (by decide)

theorem fire_pwr (s : State) (p b : Nat) : (s.fire p b).pwr = s.pwr := (State.fire_keeps p b (List.Subset.refl _) (SameBut.refl _ s)) .pwr (by decide)

/-- A record takes the next number and enters the buffer where it has room; what else the state holds stays. -/
theorem makeRecordIn_spec (s : State) (room cls page : Nat) (body : List Byte) :
    FrameEv [.log] [R.HDR_LOG_PTR page, R.EVT_CNT_LOG_LOST] s (s.makeRecordIn room cls page body) ∧
    (s.makeRecordIn room cls page body).log.seq = s.log.seq + 1 ∧
    (s.makeRecordIn room cls page body).log.pf = s.log.pf ∧ (s.makeRecordIn room cls page body).log.late = s.log.late ∧ (s.makeRecordIn room cls page body).log.flushed = s.log.flushed ∧
    (s.makeRecordIn room cls page body).hif.flashOp = s.hif.flashOp ∧ (s.makeRecordIn room cls page body).hif.flashRes = s.hif.flashRes ∧
    (∀ p b, b < 32 → Raised s p b → R.HDR_EVT_RAW p ≠ R.HDR_LOG_PTR page → Raised (s.makeRecordIn room cls page body) p b) ∧
    (s.log.buf.length < room → ∃ x : LogRec, (s.makeRecordIn room cls page body).log.buf = s.log.buf ++ [x] ∧ x.cls = cls ∧ x.page = page ∧ x.seq = s.log.seq ∧ x.time = s.deviceTime false) := by
  have hpr : ∀ p, R.HDR_EVT_RAW p ≠ R.EVT_CNT_LOG_LOST := by
    intro p; unfold R.HDR_EVT_RAW; have : R.EVT_CNT_LOG_LOST % 4096 ≠ 16 := by decide
    intro h; rw [← h] at this; omega
  by_cases hlt : s.log.buf.length < room
  · obtain ⟨x, hx⟩ : ∃ x : LogRec, x = ⟨s.log.seq, cls, page, s.deviceTime false, (body ++ List.replicate 32 0).take 32⟩ := ⟨_, rfl⟩
    obtain ⟨u, hu⟩ : ∃ u : State, u = { (s.wr (R.HDR_LOG_PTR page) (BitVec.ofNat 32 (2 ^ 31 + s.log.seq % 2 ^ 24))) with log := { s.log with seq := s.log.seq + 1, buf := s.log.buf ++ [x] } } := ⟨_, rfl⟩
    have hm : s.makeRecordIn room cls page body = u.logStart := by
      unfold State.makeRecordIn; dsimp only; rw [if_pos hlt, hu, hx]; rfl
    have hx' : x.cls = cls ∧ x.page = page ∧ x.seq = s.log.seq ∧ x.time = s.deviceTime false := by rw [hx]; exact ⟨rfl, rfl, rfl, rfl⟩
    clear hx
    have e1 : FrameEv [.log] [R.HDR_LOG_PTR page, R.EVT_CNT_LOG_LOST] s u := by
      rw [hu]; exact FrameEv.trans ((FrameEv.refl _ _ s).wr _ _ (by simp)) (setLog_frame _ _)
    have e2 : u.log = { s.log with seq := s.log.seq + 1, buf := s.log.buf ++ [x] } := by rw [hu]
    have e3 : u.hif = s.hif := by rw [hu]; rfl
    have e4 : ∀ k, k ≠ R.HDR_LOG_PTR page → u.rd k = s.rd k := by intro k h; rw [hu]; exact State.rd_wr_ne _ _ h
    clear hu
    rw [hm]
    obtain ⟨l1, l2⟩ := logStart_spec u
    have eh : u.logStart.hif = s.hif := (l1 .hif (by decide)).trans e3
    refine ⟨e1.trans (logStart_frame u), by rw [l2, e2], by rw [l2, e2], by rw [l2, e2], by rw [l2, e2], by rw [eh], by rw [eh], ?_, ?_⟩
    · intro p b _ h hne; unfold Raised at *; rw [logStart_rd, e4 _ hne]; exact h
    · intro _; exact ⟨x, by rw [l2, e2], hx'⟩
  · obtain ⟨u, hu⟩ : ∃ u : State, u = { (s.wr (R.HDR_LOG_PTR page) (BitVec.ofNat 32 (2 ^ 31 + s.log.seq % 2 ^ 24))) with log := { s.log with seq := s.log.seq + 1 } } := ⟨_, rfl⟩
    have hm : s.makeRecordIn room cls page body = (u.bump R.EVT_CNT_LOG_LOST).fire P.EVT E.EVT_LOG_LOST := by
      unfold State.makeRecordIn; dsimp only; rw [if_neg hlt, hu]; rfl
    have e1 : FrameEv [.log] [R.HDR_LOG_PTR page, R.EVT_CNT_LOG_LOST] s u := by
      rw [hu]; exact FrameEv.trans ((FrameEv.refl _ _ s).wr _ _ (by simp)) (setLog_frame _ _)
    have e2 : u.log = { s.log with seq := s.log.seq + 1 } := by rw [hu]
    have e3 : u.hif = s.hif := by rw [hu]; rfl
    have e4 : ∀ k, k ≠ R.HDR_LOG_PTR page → u.rd k = s.rd k := by intro k h; rw [hu]; exact State.rd_wr_ne _ _ h
    clear hu
    rw [hm]
    have el : ((u.bump R.EVT_CNT_LOG_LOST).fire P.EVT E.EVT_LOG_LOST).log = { s.log with seq := s.log.seq + 1 } := by rw [fire_log]; exact e2
    have eh : (u.bump R.EVT_CNT_LOG_LOST).hif = s.hif := e3
    refine ⟨(e1.bump _ (by simp)).andFire _ _, by rw [el], by rw [el], by rw [el], by rw [el], ?_, ?_, ?_, fun h => absurd h hlt⟩
    · rw [State.fire_hif_flashOp, eh]
    · rw [State.fire_hif_flashRes, eh]
    · intro p b _ h hne
      refine Raised_fire ?_ _ (by decide)
      unfold Raised at *; rw [State.rd_bump_ne _ (hpr p), e4 _ hne]; exact h

theorem makeRecordIn_rd (s : State) (room cls page : Nat) (body : List Byte) (k : Nat) (he : eventReg k = false) (h1 : k ≠ R.HDR_LOG_PTR page) (h2 : k ≠ R.EVT_CNT_LOG_LOST) :
    (s.makeRecordIn room cls page body).rd k = s.rd k := (makeRecordIn_spec s room cls page body).1.2 k (by simp [h1, h2]) he

theorem logOn_rd {s u : State} (h1 : u.rd R.EVT_LOG_CFG = s.rd R.EVT_LOG_CFG) (h2 : u.rst = s.rst) : u.logOn = s.logOn := by
  unfold State.logOn State.bit State.fld
  rw [show (F.EVT_LOG_CFG_EN).key = R.EVT_LOG_CFG from rfl, h1, h2]

end Sys2Proof.Laws.ErrorLog
end

