-- ==== Sys2Proof/Laws/HostEnds.lean ====
section
/-! SUPPORT. What the ends of a flash or OI2C operation, a byte buffer, the endpoint's reset, the drained message list, a join of the election and a move of the thimble leave (R82-R88, R638, R649-R655). -/

namespace Sys2Proof.Laws.HostEnds

open Sys2Proof Sys2Proof.Machine

set_option linter.unusedVariables false

theorem logStart_rd (s : State) (k : Nat) : s.logStart.rd k = s.rd k := State.rd_of_regs ((State.logStart_keeps (List.Subset.refl _) (SameBut.refl _ s)) .regs (by decide)) k

theorem logStart_hif (s : State) : s.logStart.hif = s.hif := (State.logStart_keeps (List.Subset.refl _) (SameBut.refl _ s)) .hif (by decide)

theorem flashEnd_spec (s : State) (res : BitVec 3) :
    FrameEv [.log] [R.HIF_CNT_FLASH_ERR] s (s.flashEnd res) ∧ (s.flashEnd res).hif.flashOp = none ∧ (s.flashEnd res).hif.flashRes = res ∧
    (res = 0 → FrameEv [.log] [] s (s.flashEnd res)) ∧
    (s.flashEnd res).rd R.HIF_CNT_FLASH_ERR = s.rd R.HIF_CNT_FLASH_ERR + (if res = 0 then 0 else 1) ∧
    (s.domOn 33 = true → Raised (s.flashEnd res) P.HIF E.HIF_FLASH_DONE) := by
  unfold State.flashEnd
  dsimp only
  refine ⟨?_, ?_, ?_, ?_, ?_, ?_⟩
  · refine FrameEv.logStart (FrameEv.andFire ?_ _ _) (by decide)
    exact FrameEv.ite ((FrameEv.refl _ _ s).setHif _) (((FrameEv.refl _ _ s).setHif _).bump _ (by decide))
  · rw [logStart_hif, State.fire_hif_flashOp]; split <;> rfl
  · rw [logStart_hif, State.fire_hif_flashRes]; split <;> rfl
  · intro h; rw [if_pos h]
    exact FrameEv.logStart (FrameEv.andFire ((FrameEv.refl _ _ s).setHif _) _ _) (by decide)
  · rw [logStart_rd, State.fire_rd _ _ _ (by decide)]; split
    · exact (BitVec.add_zero _).symm ▸ rfl
    · rw [State.rd_bump_self]; rfl
  · intro h
    unfold Raised; rw [logStart_rd]
    refine State.fire_raised ?_ (by decide)
    split <;> exact h

/-- Bytes put into word registers read back from their fields. -/
theorem putBytes_fld (s : State) (K : Nat) (bs : List Byte) (m : Nat) :
    (∀ k, k ∉ (List.range m).map (fun i => K + i / 4 * 4) → ((List.range m).foldl (fun (t : State) i => t.setFld ⟨K + i / 4 * 4, 24 - i % 4 * 8, 8⟩ (bs.getD i 0).toNat) s).rd k = s.rd k) ∧
    ∀ i, i < m → ((List.range m).foldl (fun (t : State) i => t.setFld ⟨K + i / 4 * 4, 24 - i % 4 * 8, 8⟩ (bs.getD i 0).toNat) s).fld ⟨K + i / 4 * 4, 24 - i % 4 * 8, 8⟩ = (bs.getD i 0).toNat := by
  induction m with
  | zero => exact ⟨fun _ _ => rfl, fun i h => absurd h (by omega)⟩
  | succ m ih =>
    rw [List.range_succ, List.foldl_append, List.foldl_cons, List.foldl_nil]
    constructor
    · intro k hk
      rw [List.map_append, List.mem_append, not_or] at hk
      rw [State.rd_setFld_ne _ _ _ (by intro h; exact hk.2 (by simp [h])), ih.1 k hk.1]
    · intro i hi
      by_cases h : i = m
      · subst h
        rw [State.fld_setFld_self _ _ _ (by show 24 - i % 4 * 8 + 8 ≤ 32; omega)]
        exact Nat.mod_eq_of_lt (bs.getD i 0).isLt
      · have hi2 : i < m := by omega
        by_cases hk : i / 4 = m / 4
        · rw [State.fld_setFld_apart _ _ _ _ (by show 24 - m % 4 * 8 + 8 ≤ 32; omega), ih.2 i hi2]
          show _ ∨ _
          simp only; omega
        · rw [State.fld_setFld_key _ _ _ _ (by show K + i / 4 * 4 ≠ K + m / 4 * 4; omega), ih.2 i hi2]

theorem putBytes_keep (s : State) (K : Nat) (bs : List Byte) : SameBut [.regs] s (s.putBytes K bs) :=
  State.putBytes_keeps K bs (List.Subset.refl _) (SameBut.refl _ s)

theorem i2cEnd_spec (s : State) (res : BitVec 2) :
    FrameEv [.out] [R.HIF_CNT_OI2C_ERR] s (s.i2cEnd res) ∧ (s.i2cEnd res).hif.i2cOp = none ∧ (s.i2cEnd res).hif.i2cRes = res ∧
    (res ≠ 3 → FrameEv [] [R.HIF_CNT_OI2C_ERR] s (s.i2cEnd res)) ∧ (res = 0 → FrameEv [] [] s (s.i2cEnd res)) ∧
    (s.i2cEnd res).rd R.HIF_CNT_OI2C_ERR = s.rd R.HIF_CNT_OI2C_ERR + (if res = 0 then 0 else 1) ∧
    (s.domOn 33 = true → Raised (s.i2cEnd res) P.HIF E.HIF_OI2C_DONE) := by
  unfold State.i2cEnd
  have hx : ∀ x, FrameEv [.out] [] s (s.emit x) := fun x => FrameEv.of_same (State.emit_keeps _ (List.Subset.refl _) (SameBut.refl _ s)) rfl
  dsimp only
  refine ⟨?_, ?_, ?_, ?_, ?_, ?_, ?_⟩
  · have h1 : FrameEv [.out] [] s (if res = 3 then s.emit .i2cClear else s) := FrameEv.ite (hx _) (FrameEv.refl _ _ s)
    exact FrameEv.andFire (FrameEv.ite ((h1.setHif _).mono (List.Subset.refl _) (List.nil_subset _))
      (((h1.setHif _).mono (List.Subset.refl _) (List.nil_subset _)).bump _ (by decide))) _ _
  · rw [State.fire_hif_i2cOp]; split <;> rfl
  · rw [State.fire_hif_i2cRes]; split <;> rfl
  · intro h; rw [if_neg h]
    exact FrameEv.andFire (FrameEv.ite ((FrameEv.refl _ _ s).setHif _) (((FrameEv.refl _ _ s).setHif _).bump _ (by decide))) _ _
  · intro h; rw [if_pos h, if_neg (by rw [h]; decide)]
    exact FrameEv.andFire ((FrameEv.refl _ _ s).setHif _) _ _
  · rw [State.fire_rd _ _ _ (by decide)]; split
    · rw [if_neg (by rename_i e; rw [e]; decide)]; exact (BitVec.add_zero _).symm ▸ rfl
    · rw [State.rd_bump_self, State.setHif_rd]; split <;> rfl
  · intro h
    refine State.fire_raised ?_ (by decide)
    split <;> split <;> exact h

theorem toBytesBE_word (w : Word) (i : Nat) (h : i < 4) : (toBytesBE 4 w.toNat).getD i 0 = BitVec.ofNat 8 (getField w (24 - i * 8) 8) := by
  unfold getField
  interval_cases i <;> simp only [toBytesBE, List.getD_cons_zero, List.getD_cons_succ] <;> apply BitVec.eq_of_toNat_eq <;> simp

/-- What sending messages keeps. -/
structure Sends (s t : State) : Prop where
  keep : SameBut [.hif, .out] s t
  l0 : t.hif.l0 = s.hif.l0
  width : t.hif.width = s.hif.width
  speed : t.hif.speed = s.hif.speed
  d3 : t.hif.d3 = s.hif.d3
  me : t.hif.msixEn = s.hif.msixEn
  fm : t.hif.funcMask = s.hif.funcMask
  out : ∀ x ∈ s.out, x ∈ t.out

theorem Sends.refl (s : State) : Sends s s := ⟨SameBut.refl _ s, rfl, rfl, rfl, rfl, rfl, rfl, fun _ h => h⟩

theorem Sends.trans {s t u : State} (a : Sends s t) (b : Sends t u) : Sends s u :=
  ⟨SameBut.trans a.keep b.keep, b.l0.trans a.l0, b.width.trans a.width, b.speed.trans a.speed, b.d3.trans a.d3, b.me.trans a.me, b.fm.trans a.fm,
   fun x h => b.out x (a.out x h)⟩

theorem Sends.rd {s t : State} (a : Sends s t) (k : Nat) : t.rd k = s.rd k := State.rd_of_regs (a.keep .regs (by decide)) k

/-- One step of the drain of the pending array. -/
def sendPending (t : State) (v : Nat) : State := ({ t with hif := { t.hif with pba := t.hif.pba.filter (· ≠ v) } }).msixDue v

theorem sendPending_sends (t : State) (v : Nat) : Sends t (sendPending t v) := by
  have hk : SameBut [.hif, .out] t (sendPending t v) := by
    unfold sendPending
    exact State.msixDue_keeps v (by decide) (SameBut.upd_hif (by decide) (SameBut.refl _ t))
  refine ⟨hk, ?_, ?_, ?_, ?_, ?_, ?_, ?_⟩
  all_goals
    unfold sendPending State.msixDue
    split
    · first | rfl | (intro x hx; exact List.mem_cons_of_mem _ hx)
    · split <;> first | rfl | exact fun x hx => hx

theorem sendPending_pba (t : State) (v : Nat) (h : t.hif.msixEn = true ∧ t.hif.funcMask = false ∧ t.hif.l0 = true) (x : Nat) :
    x ∈ (sendPending t v).hif.pba ↔ (x ≠ v ∧ x ∈ t.hif.pba) ∨ (x = v ∧ t.fld (F.HIF_MSIX_CTL_MASK v) ≠ 0) := by
  unfold sendPending State.msixDue
  by_cases hm : t.fld (F.HIF_MSIX_CTL_MASK v) = 0
  · rw [if_pos ⟨h.1, by show ¬ t.hif.funcMask = true; rw [h.2.1]; decide, h.2.2, hm⟩]
    show x ∈ t.hif.pba.filter (· ≠ v) ↔ _
    simp [hm]; tauto
  · rw [if_neg (fun c => hm c.2.2.2), if_neg (by simp)]
    show x ∈ t.hif.pba.filter (· ≠ v) ++ [v] ↔ _
    simp [hm]; tauto

theorem sendPending_out (t : State) (v : Nat) (h : t.hif.msixEn = true ∧ t.hif.funcMask = false ∧ t.hif.l0 = true) (hm : t.fld (F.HIF_MSIX_CTL_MASK v) = 0) :
    Out.msix v ((t.rd (R.HIF_MSIX_ADDR_LO v)).toNat / 4 * 4 + (t.rd (R.HIF_MSIX_ADDR_HI v)).toNat * 2 ^ 32) (t.rd (R.HIF_MSIX_DATA v)) ∈ (sendPending t v).out := by
  unfold sendPending State.msixDue
  rw [if_pos ⟨h.1, by show ¬ t.hif.funcMask = true; rw [h.2.1]; decide, h.2.2, hm⟩]
  exact List.mem_cons_self

theorem drain_fold (l : List Nat) (t : State) : Sends t (l.foldl sendPending t) ∧
    (t.hif.msixEn = true ∧ t.hif.funcMask = false ∧ t.hif.l0 = true →
      (∀ x, x ∈ (l.foldl sendPending t).hif.pba ↔ (x ∉ l ∧ x ∈ t.hif.pba) ∨ (x ∈ l ∧ t.fld (F.HIF_MSIX_CTL_MASK x) ≠ 0)) ∧
      (∀ x ∈ l, t.fld (F.HIF_MSIX_CTL_MASK x) = 0 → Out.msix x ((t.rd (R.HIF_MSIX_ADDR_LO x)).toNat / 4 * 4 + (t.rd (R.HIF_MSIX_ADDR_HI x)).toNat * 2 ^ 32) (t.rd (R.HIF_MSIX_DATA x)) ∈ (l.foldl sendPending t).out)) := by
  induction l generalizing t with
  | nil => exact ⟨Sends.refl t, fun _ => ⟨by simp, by simp⟩⟩
  | cons a l ih =>
    obtain ⟨h1, h2⟩ := ih (sendPending t a)
    have hs := sendPending_sends t a
    refine ⟨hs.trans h1, fun he => ?_⟩
    have hf : ∀ x, (sendPending t a).fld (F.HIF_MSIX_CTL_MASK x) = t.fld (F.HIF_MSIX_CTL_MASK x) := fun x => by unfold State.fld; rw [hs.rd]
    obtain ⟨g1, g2⟩ := h2 ⟨hs.me.trans he.1, hs.fm.trans he.2.1, hs.l0.trans he.2.2⟩
    refine ⟨fun x => ?_, fun x hx hm => ?_⟩
    · rw [List.foldl_cons, g1, sendPending_pba t a he, hf, List.mem_cons]
      by_cases hxa : x = a
      · subst hxa; simp; tauto
      · simp [hxa]
    · rw [List.foldl_cons]
      by_cases hxl : x ∈ l
      · have := g2 x hxl (by rw [hf]; exact hm)
        rw [hs.rd, hs.rd, hs.rd] at this; exact this
      · rcases List.mem_cons.1 hx with rfl | h
        · exact h1.out _ (sendPending_out t x he hm)
        · exact absurd h hxl

theorem drainPba_eq (s : State) : s.drainPba = s.hif.pba.foldl sendPending s := rfl

theorem leaveL0_spec (e : State) : FrameEv [] [] e e.leaveL0 ∧ e.leaveL0.hif.l0 = false ∧ e.leaveL0.hif.d3 = e.hif.d3 ∧
    e.leaveL0.hif.msixEn = e.hif.msixEn ∧ e.leaveL0.hif.funcMask = e.hif.funcMask ∧
    (e.hif.l0 = true → e.domOn 33 = true → Raised e.leaveL0 P.HIF E.HIF_PCIE_LINK) := by
  unfold State.leaveL0
  by_cases h : e.hif.l0 = true
  · rw [if_pos h]
    refine ⟨((FrameEv.refl _ _ e).setHif _).andFire _ _, ?_, ?_, ?_, ?_, ?_⟩
    · rw [State.fire_hif_l0]; rfl
    · rw [State.fire_hif_d3]; rfl
    · rw [State.fire_hif_msixEn]; rfl
    · rw [State.fire_hif_funcMask]; rfl
    · intro _ hd; exact State.fire_raised hd (by decide)
  · rw [if_neg h]
    exact ⟨FrameEv.refl _ _ e, by simpa using h, rfl, rfl, rfl, fun h2 => absurd h2 h⟩

/-- The endpoint's own part of its reset. -/
def endpointCleared (s : State) : State :=
  ({ s with regs := mapFilter (fun k => decide (k < R.HIF_MSIX_ADDR_LO 0 ∨ R.HIF_PBA_LO ≤ k)) s.regs } : State).setHif
    (fun h => { h with d3 := false, msixEn := false, funcMask := false, pba := [] })

theorem endpointCleared_rd (s : State) (k : Nat) : (endpointCleared s).rd k = if k < R.HIF_MSIX_ADDR_LO 0 ∨ R.HIF_PBA_LO ≤ k then s.rd k else resetWord k := by
  have : (endpointCleared s).rd k = mapGet (resetWord k) (mapFilter (fun k => decide (k < R.HIF_MSIX_ADDR_LO 0 ∨ R.HIF_PBA_LO ≤ k)) s.regs) k := rfl
  rw [this, mapGet_mapFilter]
  simp only [decide_eq_true_eq]; rfl

theorem endpointReset_eq (s : State) : s.endpointReset = if s.own.st ≠ .vacant ∧ s.own.holder = 0 then (endpointCleared s).holderLost false else endpointCleared s := rfl

theorem endpointCleared_keep (s : State) : SameBut [.regs, .hif] s (endpointCleared s) :=
  State.setHif_keeps _ (by decide) (SameBut.upd_regs (by decide) (SameBut.refl _ s))

theorem closePresence_hif (s : State) : s.closePresence.hif.l0 = s.hif.l0 ∧ s.closePresence.hif.d3 = s.hif.d3 ∧ s.closePresence.hif.msixEn = s.hif.msixEn ∧
    s.closePresence.hif.funcMask = s.hif.funcMask := by
  unfold State.closePresence
  split
  · rw [State.fire_hif_l0, State.fire_hif_d3, State.fire_hif_msixEn, State.fire_hif_funcMask]; exact ⟨rfl, rfl, rfl, rfl⟩
  · exact ⟨rfl, rfl, rfl, rfl⟩

theorem msix_not_event (k : Nat) (h1 : R.HIF_MSIX_ADDR_LO 0 ≤ k) (h2 : k < R.HIF_PBA_LO) : eventReg k = false ∧ k ∉ movedRegs := by
  constructor
  · unfold R.HIF_MSIX_ADDR_LO R.HIF_PBA_LO at *
    have h3 : ofsOf k ≠ 0x010 := by unfold ofsOf; omega
    have h4 : k ≠ R.EVT_MSIX_ARM_LO := by have : R.EVT_MSIX_ARM_LO < 0xA6800 := by decide
                                          omega
    have h5 : k ≠ R.EVT_MSIX_ARM_HI := by have : R.EVT_MSIX_ARM_HI < 0xA6800 := by decide
                                          omega
    have h6 : k ≠ R.EVT_CNT_REC_LOST := by have : R.EVT_CNT_REC_LOST < 0xA6800 := by decide
                                           omega
    unfold eventReg; simp only [h3, h4, h5, h6, decide_false, Bool.or_false]
  · intro hm
    have : ∀ x ∈ movedRegs, ¬ (R.HIF_MSIX_ADDR_LO 0 ≤ x ∧ x < R.HIF_PBA_LO) := by decide +kernel
    exact this k hm ⟨h1, h2⟩

theorem delivers_hif {s t : State} (h : Delivers s t) : t.hif.l0 = s.hif.l0 ∧ t.hif.d3 = s.hif.d3 ∧ t.hif.msixEn = s.hif.msixEn ∧ t.hif.funcMask = s.hif.funcMask ∧
    t.hif.width = s.hif.width ∧ t.hif.speed = s.hif.speed := by
  obtain ⟨_, _, ⟨p, hp⟩⟩ := h
  rw [hp]; exact ⟨rfl, rfl, rfl, rfl, rfl, rfl⟩

theorem abortSlot_delivers (s : State) (i : Fin 4) (c) : Delivers s (s.abortSlot i c) := by
  unfold State.abortSlot
  refine Delivers.trans ?_ (State.fire_delivers _ _ _)
  exact Delivers.of_same rfl rfl rfl

theorem moveTail_delivers (u : State) : Delivers u (((u.setFld F.OWN_OWN_CTL_DELEGATE_CORES 0).bump R.OWN_CNT_HANDOVER).fire P.OWN E.OWN_THIMBLE_MOVED) :=
  Delivers.trans (Delivers.of_same rfl rfl rfl) (State.fire_delivers _ _ _)

theorem abortAll_delivers (s : State) : Delivers s ((List.finRange 4).foldl (fun t i => if t.cmt.slots[i].st = .opened then t.abortSlot i 6 else t) s) := by
  refine Delivers.foldl (fun t i => ?_) _ s
  split
  · exact abortSlot_delivers _ _ _
  · exact Delivers.refl _

theorem tag_delivers (t : State) (f : Fld) : Delivers t (t.setFld f 0) := Delivers.of_same rfl rfl rfl

theorem tagList_delivers (l : List Nat) (s : State) : Delivers s (l.foldl (fun t n => t.setFld (F.CMT_CUR_TAG_TAG n) 0) s) := by
  induction l generalizing s with
  | nil => exact Delivers.refl s
  | cons a l ih => rw [List.foldl_cons]; exact (tag_delivers s _).trans (ih _)

theorem tags_delivers (s : State) : Delivers s ((List.range 10).foldl (fun t n => t.setFld (F.CMT_CUR_TAG_TAG n) 0) s) := tagList_delivers _ s

theorem thimbleMove_delivers (s : State) : Delivers s s.thimbleMove :=
  ((abortAll_delivers s).trans (tags_delivers _)).trans (moveTail_delivers _)

theorem setHolder_delivers (s : State) (a : BitVec 2) : Delivers s (s.setHolder a) := by
  unfold State.setHolder; dsimp only; split <;> exact Delivers.of_same rfl rfl rfl

theorem closePresence_delivers (s : State) : Delivers s s.closePresence := by
  unfold State.closePresence
  split
  · exact Delivers.trans (Delivers.of_same rfl rfl rfl) (State.fire_delivers _ _ _)
  · exact Delivers.refl _

/-- What the endpoint's reset gives (R638). -/
theorem endpointReset_spec (s : State) :
    (∀ k : Nat, R.HIF_MSIX_ADDR_LO 0 ≤ k → k < R.HIF_PBA_LO → s.endpointReset.rd k = resetWord k) ∧
      s.endpointReset.hif.d3 = false ∧ s.endpointReset.hif.msixEn = false ∧ s.endpointReset.hif.funcMask = false ∧
      s.endpointReset.hif.l0 = s.hif.l0 ∧ s.endpointReset.pwr = s.pwr ∧
      (s.own.st = .vacant ∨ s.own.holder ≠ 0 → SameBut evParts s s.endpointReset ∧
        (∀ k : Nat, k < R.HIF_MSIX_ADDR_LO 0 ∨ R.HIF_PBA_LO ≤ k → eventReg k = false → s.endpointReset.rd k = s.rd k)) ∧
      (s.own.st ≠ .vacant → s.own.holder = 0 → Moved s s.endpointReset ∧ SameBut (evParts ++ [.cmt, .own, .timers]) s s.endpointReset ∧
        s.endpointReset.own = { s.own with st := .vacant, holder := 3, presWin := false } ∧
        (∀ k : Nat, k < R.HIF_MSIX_ADDR_LO 0 ∨ R.HIF_PBA_LO ≤ k → k ∉ movedRegs → eventReg k = false → s.endpointReset.rd k = s.rd k)) := by
  rw [endpointReset_eq]
  have hk := endpointCleared_keep s
  have hr := endpointCleared_rd s
  have f1 : (endpointCleared s).hif.d3 = false := rfl
  have f2 : (endpointCleared s).hif.msixEn = false := rfl
  have f3 : (endpointCleared s).hif.funcMask = false := rfl
  have f4 : (endpointCleared s).hif.l0 = s.hif.l0 := rfl
  generalize endpointCleared s = b at *
  have e1 : b.own = s.own := hk .own (by decide)
  have e2 : b.cmt = s.cmt := hk .cmt (by decide)
  have e3 : b.pwr = s.pwr := hk .pwr (by decide)
  by_cases hc : s.own.st ≠ .vacant ∧ s.own.holder = 0
  · rw [if_pos hc]
    have hl : b.holderLost false = (b.setHolder 3).thimbleMove.closePresence := rfl
    rw [hl]
    obtain ⟨m1, m2, m3⟩ := State.move_close_facts b 3
    have hD : Delivers b (b.setHolder 3).thimbleMove.closePresence := ((setHolder_delivers b 3).trans (thimbleMove_delivers _)).trans (closePresence_delivers _)
    generalize (b.setHolder 3).thimbleMove.closePresence = t at *
    obtain ⟨d1, d2, d3, d4, -, -⟩ := delivers_hif hD
    refine ⟨?_, d2.trans f1, d3.trans f2, d4.trans f3, d1.trans f4, (m2.1 .pwr (by decide)).trans e3, ?_, ?_⟩
    · intro k h1 h2
      obtain ⟨g1, g2⟩ := msix_not_event k h1 h2
      rw [m2.2 k g2 g1, hr, if_neg (by omega)]
    · intro h; rcases h with h | h
      · exact absurd h hc.1
      · exact absurd hc.2 h
    · intro _ _
      refine ⟨Moved.pre m1 e2 ?_, ?_, ?_, ?_⟩
      · rw [hr, if_pos (by decide)]
      · exact SameBut.trans (SameBut.mono (by decide) hk) m2.1
      · rw [m3, e1]; rfl
      · intro k h1 h2 h3; rw [m2.2 k h2 h3, hr, if_pos h1]
  · rw [if_neg hc]
    refine ⟨?_, f1, f2, f3, f4, e3, ?_, ?_⟩
    · intro k h1 h2; rw [hr, if_neg (by omega)]
    · intro _
      exact ⟨SameBut.mono (by decide) hk, fun k h1 _ => by rw [hr, if_pos h1]⟩
    · intro h1 h2; exact absurd ⟨h1, h2⟩ hc

theorem raw_ne (p : Nat) : R.HDR_EVT_RAW p ≠ R.CMT_CNT_ABORTED ∧ R.HDR_EVT_RAW p ≠ R.OWN_OWN_CTL ∧ R.HDR_EVT_RAW p ≠ R.OWN_CNT_HANDOVER ∧ ∀ n, n < 10 → R.HDR_EVT_RAW p ≠ R.CMT_CUR_TAG n := by
  unfold R.HDR_EVT_RAW R.CMT_CNT_ABORTED R.OWN_OWN_CTL R.OWN_CNT_HANDOVER R.CMT_CUR_TAG
  refine ⟨by omega, by omega, by omega, fun n hn => by omega⟩

theorem raised_abortSlot {s : State} {p b : Nat} (h : Raised s p b) (i : Fin 4) (c) : Raised (s.abortSlot i c) p b := by
  unfold State.abortSlot
  refine Raised_fire ?_ _ (by decide)
  unfold Raised
  rw [State.rd_bump_ne _ (raw_ne p).1]; exact h

theorem raised_abortAll {p b : Nat} (l : List (Fin 4)) (s : State) (h : Raised s p b) :
    Raised (l.foldl (fun t i => if t.cmt.slots[i].st = .opened then t.abortSlot i 6 else t) s) p b := by
  induction l generalizing s with
  | nil => exact h
  | cons a l ih =>
    rw [List.foldl_cons]; apply ih; split
    · exact raised_abortSlot h _ _
    · exact h

theorem raised_tags {p b : Nat} (l : List Nat) (hl : ∀ x ∈ l, x < 10) (s : State) (h : Raised s p b) :
    Raised (l.foldl (fun (t : State) n => t.setFld (F.CMT_CUR_TAG_TAG n) 0) s) p b := by
  induction l generalizing s with
  | nil => exact h
  | cons a l ih =>
    rw [List.foldl_cons]; apply ih (fun x hx => hl x (List.mem_cons_of_mem _ hx))
    unfold Raised; rw [State.rd_setFld_ne _ _ _ ((raw_ne p).2.2.2 a (hl a (by simp)))]; exact h

theorem raised_moveTail {u : State} {p b : Nat} (h : Raised u p b) : Raised (((u.setFld F.OWN_OWN_CTL_DELEGATE_CORES 0).bump R.OWN_CNT_HANDOVER).fire P.OWN E.OWN_THIMBLE_MOVED) p b := by
  refine Raised_fire ?_ _ (by decide)
  unfold Raised
  rw [State.rd_bump_ne _ (raw_ne p).2.2.1, State.rd_setFld_ne _ _ _ (raw_ne p).2.1]; exact h

theorem raised_thimbleMove {s : State} {p b : Nat} (h : Raised s p b) : Raised s.thimbleMove p b :=
  raised_moveTail (raised_tags (List.range 10) (fun x hx => List.mem_range.1 hx) _ (raised_abortAll _ s h))

/-- The election's end. -/
def electedState (s : State) (timed : Bool) : State :=
  ({ s with own := { s.own with elected := true, timed := timed, cand := s.own.present } } : State).stopTimer T.election

theorem decideElection_eq (s : State) (timed : Bool) (a : Nat) (h : (priorityOrder (s.rst.straps.toNat % 4)).find? (fun a => natBit s.own.present.toNat a) = some a) :
    s.decideElection timed = ((electedState s timed).setHolder (BitVec.ofNat 2 a)).thimbleMove := by
  unfold State.decideElection
  simp only [h]
  rfl

/-- A candidate joins. -/
def joinedState (s : State) (a : Nat) : State := { s with own := { s.own with present := s.own.present ||| BitVec.ofNat 3 (2 ^ a) } }

theorem addCandidate_eq (s : State) (a : Nat) : s.addCandidate a = if s.own.elected ∨ ¬ (priorityOrder (s.rst.straps.toNat % 4)).contains a then s
  else if (priorityOrder (s.rst.straps.toNat % 4)).head? = some a then (joinedState s a).decideElection false else joinedState s a := rfl

theorem electedState_keep (s : State) (timed : Bool) : SameBut [.own, .timers] s (electedState s timed) :=
  State.stopTimer_keeps _ (by decide) (SameBut.upd_own (by decide) (SameBut.refl _ s))

theorem joinedState_keep (s : State) (a : Nat) : SameBut [.own] s (joinedState s a) := SameBut.upd_own (by decide) (SameBut.refl _ s)

theorem electedState_delivers (s : State) (timed : Bool) : Delivers s (electedState s timed) := Delivers.of_same rfl rfl rfl

theorem joinedState_delivers (s : State) (a : Nat) : Delivers s (joinedState s a) := Delivers.of_same rfl rfl rfl

theorem setHolder_running (s : State) (a : BitVec 2) (x : Nat) (h1 : x ≠ T.handover) (h2 : x ≠ T.lease) : (s.setHolder a).running x = s.running x := by
  unfold State.setHolder
  dsimp only
  split
  · rw [State.running_startTimer, State.running_stopTimer]; simp [h1, h2]; try rfl
  · rw [State.running_stopTimer, State.running_stopTimer]; simp [h1, h2]; try rfl

/-- The first agent of the order joins an undecided election. -/
theorem addCandidate_spec (b : State) (a : Nat) (ha : a < 3) (hf : (priorityOrder (b.rst.straps.toNat % 4)).head? = some a) (he : b.own.elected = false) :
    Moved b (b.addCandidate a) ∧ FrameEv [.cmt, .own, .timers] movedRegs b (b.addCandidate a) ∧
      (b.addCandidate a).own = { b.own with present := b.own.present ||| BitVec.ofNat 3 (2 ^ a), elected := true, timed := false,
                                            cand := b.own.present ||| BitVec.ofNat 3 (2 ^ a), st := .held, holder := BitVec.ofNat 2 a } ∧
      Delivers b (b.addCandidate a) ∧ (∀ p c, Raised b p c → Raised (b.addCandidate a) p c) ∧ (∀ x, x ≠ T.election → x ≠ T.handover → x ≠ T.lease → (b.addCandidate a).running x = b.running x) := by
  obtain ⟨l, hl⟩ : ∃ l, priorityOrder (b.rst.straps.toNat % 4) = a :: l := by
    cases h : priorityOrder (b.rst.straps.toNat % 4) with
    | nil => rw [h] at hf; cases hf
    | cons c l => rw [h] at hf; simp only [List.head?_cons, Option.some.injEq] at hf; exact ⟨l, by rw [hf]⟩
  have h2 : natBit (joinedState b a).own.present.toNat a = true := by
    show (b.own.present ||| BitVec.ofNat 3 (2 ^ a)).toNat.testBit a = true
    rw [BitVec.testBit_toNat, BitVec.getLsbD_or]
    have : (BitVec.ofNat 3 (2 ^ a)).getLsbD a = true := by interval_cases a <;> rfl
    rw [this, Bool.or_true]
  have h3 : (priorityOrder ((joinedState b a).rst.straps.toNat % 4)).find? (fun c => natBit (joinedState b a).own.present.toNat c) = some a := by
    show (priorityOrder (b.rst.straps.toNat % 4)).find? _ = some a
    rw [hl, List.find?_cons_of_pos h2]
  have hadd : b.addCandidate a = ((electedState (joinedState b a) false).setHolder (BitVec.ofNat 2 a)).thimbleMove := by
    rw [addCandidate_eq, if_neg (by rw [he, hl]; simp), if_pos hf, decideElection_eq _ _ _ h3]
  rw [hadd]
  have hK := electedState_keep (joinedState b a) false
  have hJ := joinedState_keep b a
  have hD := (joinedState_delivers b a).trans (electedState_delivers (joinedState b a) false)
  have ho : (electedState (joinedState b a) false).own = { b.own with present := b.own.present ||| BitVec.ofNat 3 (2 ^ a), elected := true, timed := false, cand := b.own.present ||| BitVec.ofNat 3 (2 ^ a) } := rfl
  have ht : ∀ x, x ≠ T.election → (electedState (joinedState b a) false).running x = b.running x := by
    intro x hx
    unfold electedState; rw [State.running_stopTimer]; simp [hx]; rfl
  have k2 : SameBut [.own, .timers] b (electedState (joinedState b a) false) := SameBut.trans (SameBut.mono (by decide) hJ) hK
  generalize electedState (joinedState b a) false = b2 at *
  obtain ⟨m1, m2, m3⟩ := State.move_facts b2 (BitVec.ofNat 2 a)
  have r2 : ∀ k, b2.rd k = b.rd k := fun k => State.rd_of_regs (k2 .regs (by decide)) k
  have hne : BitVec.ofNat 2 a ≠ 3 := by interval_cases a <;> decide
  refine ⟨Moved.pre m1 (k2 .cmt (by decide)) (r2 _), ?_, ?_, (hD.trans (setHolder_delivers _ _)).trans (thimbleMove_delivers _), ?_, ?_⟩
  · exact ⟨SameBut.trans (SameBut.mono (by decide) k2) m2.1, fun k h1 h2 => (m2.2 k h1 h2).trans (r2 k)⟩
  · rw [m3, ho, if_neg hne]
  · intro p c h
    refine raised_thimbleMove ?_
    unfold Raised; rw [State.setHolder_keys, r2]; exact h
  · intro x h1 h2 h3
    rw [State.running_of_timers (State.thimbleMove_timers _), setHolder_running _ _ _ h2 h3, ht x h1]

theorem drainPba_sends (s : State) : Sends s s.drainPba := by
  rw [drainPba_eq]; exact (drain_fold _ s).1

end Sys2Proof.Laws.HostEnds
end

