-- ==== Sys2Proof/Laws/Injection.lean ====
section
/-! SUPPORT. What the operations over the exception ring, its held buffers and the injection of a packet change (R397, R561-R564). -/

namespace Sys2Proof.Laws.Injection

open Sys2Proof Sys2Proof.Machine

set_option linter.unusedVariables false

theorem descriptor_length (p : Pkt) (hdl : Nat) (h : 40 ≤ p.key.length) : (descriptor p hdl).length = 64 := by
  have tb : ∀ n v, (toBytesBE n v).length = n := by
    intro n; induction n with
    | zero => intro v; rfl
    | succ n ih => intro v; simp only [toBytesBE, List.length_cons, ih]
  unfold descriptor
  simp only [List.length_append, tb, List.length_cons, List.length_nil, List.length_take, List.length_drop]
  omega

theorem takeHold_regs (s : State) (pos : Nat) : SameBut [.bufs, .cpu] s (s.takeHold pos) ∧ (s.takeHold pos).regs = s.regs :=
  ⟨State.takeHold_keeps pos (List.Subset.refl _) (SameBut.refl _ s), (State.takeHold_keeps pos (List.Subset.refl _) (SameBut.refl _ s)) .regs (by decide)⟩

theorem takeHold_ring (s : State) (pos : Nat) : (s.takeHold pos).cpu.ring = s.cpu.ring.filter (fun e => decide (e.1 ≠ pos)) := by
  unfold State.takeHold
  split
  · rename_i h
    rw [List.find?_eq_none] at h
    symm; rw [List.filter_eq_self]
    intro e he; have := h e he; simpa using this
  · dsimp only; split <;> rfl

theorem setBuf_buf (s : State) (k : Nat) (b : Buf) (j : Nat) : (s.setBuf k b).buf j = if j = k then b else s.buf j := by
  unfold State.setBuf State.buf; rw [mapGet_mapPut]

theorem takeHold_buf (s : State) (pos j : Nat) : (s.takeHold pos).buf j = s.buf j ∨
    ((∃ e ∈ s.cpu.ring, e.2 / 128 = j) ∧ (s.buf j).owner = excQueue ∧ (s.takeHold pos).buf j = { s.buf j with owner := swHolder }) := by
  unfold State.takeHold
  split
  · exact Or.inl rfl
  · rename_i k hdl h
    dsimp only
    split
    · rename_i hc
      by_cases hj : j = hdl / 128
      · right
        refine ⟨⟨_, List.mem_of_find?_eq_some h, hj.symm⟩, by rw [hj]; exact hc.2, ?_⟩
        rw [setBuf_buf, if_pos hj, hj]
      · left; rw [setBuf_buf, if_neg hj]; rfl
    · exact Or.inl rfl

theorem takeHold_hit (s : State) (pos hdl : Nat) (h : s.cpu.ring.find? (fun e => decide (e.1 = pos)) = some (pos, hdl))
    (h1 : (s.buf (hdl / 128)).count ≠ 0) (h2 : (s.buf (hdl / 128)).owner = excQueue) :
    (s.takeHold pos).buf (hdl / 128) = { s.buf (hdl / 128) with owner := swHolder } := by
  unfold State.takeHold
  rw [h]
  dsimp only
  rw [if_pos ⟨h1, h2⟩, setBuf_buf, if_pos rfl]

theorem find_filter_ne (l : List (Nat × Nat)) (pos p' : Nat) (hne : p' ≠ pos) :
    (l.filter (fun e => decide (e.1 ≠ pos))).find? (fun e => decide (e.1 = p')) = l.find? (fun e => decide (e.1 = p')) := by
  induction l with
  | nil => rfl
  | cons a l ih =>
    by_cases h : a.1 = pos
    · rw [List.filter_cons_of_neg (by simpa using h), ih, List.find?_cons_of_neg]
      simp; intro h2; exact hne (h2.symm.trans h)
    · rw [List.filter_cons_of_pos (by simpa using h)]
      by_cases h2 : a.1 = p'
      · rw [List.find?_cons_of_pos (by simpa using h2), List.find?_cons_of_pos (by simpa using h2)]
      · rw [List.find?_cons_of_neg (by simpa using h2), List.find?_cons_of_neg (by simpa using h2), ih]

/-- The holds of several ring places taken back. -/
def takeHolds (l : List Nat) (s : State) : State := l.foldl (fun (t : State) p => t.takeHold p) s

theorem takeHolds_spec (l : List Nat) (s : State) :
    SameBut [.bufs, .cpu] s (takeHolds l s) ∧ (takeHolds l s).regs = s.regs ∧
    (∀ e : Nat × Nat, e ∈ (takeHolds l s).cpu.ring ↔ e ∈ s.cpu.ring ∧ e.1 ∉ l) ∧
    (∀ j, (∀ e ∈ s.cpu.ring, e.2 / 128 ≠ j) → (takeHolds l s).buf j = s.buf j) ∧
    (∀ j, (takeHolds l s).buf j = s.buf j ∨ (s.buf j).owner = excQueue ∧ (takeHolds l s).buf j = { s.buf j with owner := swHolder }) ∧
    (∀ pos hdl, pos ∈ l → s.cpu.ring.find? (fun e => decide (e.1 = pos)) = some (pos, hdl) → (s.buf (hdl / 128)).count ≠ 0 →
      (s.buf (hdl / 128)).owner = excQueue → (takeHolds l s).buf (hdl / 128) = { s.buf (hdl / 128) with owner := swHolder }) := by
  induction l generalizing s with
  | nil => exact ⟨SameBut.refl _ s, rfl, by simp [takeHolds], fun _ _ => rfl, fun _ => Or.inl rfl, fun _ _ h => by cases h⟩
  | cons a l ih =>
    obtain ⟨i1, i2, i3, i4, i5, i6⟩ := ih (s.takeHold a)
    obtain ⟨k1, k2⟩ := takeHold_regs s a
    have hr := takeHold_ring s a
    have hc : takeHolds (a :: l) s = takeHolds l (s.takeHold a) := rfl
    rw [hc]
    have hsub : ∀ e, e ∈ (s.takeHold a).cpu.ring → e ∈ s.cpu.ring := by
      intro e he; rw [hr] at he; exact (List.mem_filter.1 he).1
    have ne : swHolder ≠ excQueue := by decide
    refine ⟨SameBut.trans k1 i1, i2.trans k2, ?_, ?_, ?_, ?_⟩
    · intro e; rw [i3, hr, List.mem_filter, List.mem_cons]; simp; tauto
    · intro j hj
      rw [i4 j (fun e he => hj e (hsub e he))]
      rcases takeHold_buf s a j with h | ⟨⟨e, he, h1⟩, -, -⟩
      · exact h
      · exact absurd h1 (hj e he)
    · intro j
      rcases takeHold_buf s a j with h | ⟨-, h2, h3⟩
      · rcases i5 j with h4 | ⟨h4, h5⟩
        · exact Or.inl (h4.trans h)
        · rw [h] at h4 h5; exact Or.inr ⟨h4, h5⟩
      · rcases i5 j with h4 | ⟨h4, h5⟩
        · exact Or.inr ⟨h2, h4.trans h3⟩
        · rw [h3] at h4; exact absurd h4 ne
    · intro pos hdl hp hf hcnt ho
      have hstep : (s.takeHold a).buf (hdl / 128) = { s.buf (hdl / 128) with owner := swHolder } →
          (takeHolds l (s.takeHold a)).buf (hdl / 128) = { s.buf (hdl / 128) with owner := swHolder } := by
        intro h
        rcases i5 (hdl / 128) with h4 | ⟨h4, h5⟩
        · exact h4.trans h
        · rw [h] at h4; exact absurd h4 ne
      by_cases hpa : pos = a
      · subst hpa; exact hstep (takeHold_hit s pos hdl hf hcnt ho)
      · have hpl : pos ∈ l := by rcases List.mem_cons.1 hp with h | h; exact absurd h hpa; exact h
        rcases takeHold_buf s a (hdl / 128) with h | ⟨-, -, h⟩
        · have := i6 pos hdl hpl (by rw [hr, find_filter_ne _ _ _ hpa]; exact hf) (by rw [h]; exact hcnt) (by rw [h]; exact ho)
          rw [this, h]
        · exact hstep h

theorem setQueue_queue (s : State) (q : Nat) (l : List Pkt) (j : Nat) : (s.setQueue q l).queue j = if j = q then l else s.queue j := by
  unfold State.setQueue State.queue; rw [mapGet_mapPut]

theorem setFld_queue (x : State) (f : Fld) (v j : Nat) : (x.setFld f v).queue j = x.queue j := rfl

theorem enqueue_mark (x : State) (f : Fld) (v : Nat) (c : Prop) [Decidable c] :
    Frame [] [f.key] x (if c then x.setFld f v else x) ∧ ∀ j, (if c then x.setFld f v else x).queue j = x.queue j := by
  split
  · exact ⟨⟨State.setFld_keeps _ _ (by decide) (SameBut.refl _ x), fun k hk => State.rd_setFld_ne _ _ _ (by simpa using hk)⟩, fun j => rfl⟩
  · exact ⟨Frame.refl _ _ x, fun j => rfl⟩

theorem bump64_rd (u : State) (A B n k : Nat) (h1 : k ≠ A) (h2 : k ≠ B) : (u.bump64 A B n).rd k = u.rd k := by
  unfold State.bump64
  dsimp only
  rw [State.rd_wr_ne _ _ h2, State.rd_wr_ne _ _ h1]

theorem enqueue_count (w : State) (q A B : Nat) (l : List Pkt) : Frame [.queues] [A, B] w ((w.setQueue q l).bump64 A B 1) ∧
    ∀ j, ((w.setQueue q l).bump64 A B 1).queue j = if j = q then l else w.queue j := by
  have h1 : SameBut [.queues] w (w.setQueue q l) := State.setQueue_keeps _ _ (List.Subset.refl _) (SameBut.refl _ w)
  have h3 := setQueue_queue w q l
  generalize w.setQueue q l = u at *
  have h2 : SameBut [.regs] u (u.bump64 A B 1) := State.bump64_keeps _ _ _ (List.Subset.refl _) (SameBut.refl _ u)
  refine ⟨⟨SameBut.trans (SameBut.mono (by decide) h1) (SameBut.mono (by decide) h2), fun k hk => ?_⟩, fun j => ?_⟩
  · simp only [List.mem_cons, List.not_mem_nil, or_false, not_or] at hk
    rw [bump64_rd _ _ _ _ _ hk.1 hk.2]
    exact State.rd_of_regs (h1 .regs (by decide)) k
  · have : (u.bump64 A B 1).queues = u.queues := h2 .queues (by decide)
    have h4 : (u.bump64 A B 1).queue j = u.queue j := by unfold State.queue; rw [this]
    rw [h4, h3 j]

/-- `State.enqueue` with its queue's fields as variables. -/
def enqueueAt (s : State) (p : Pkt) (q : Nat) (fm fl fh : Fld) (rdrop : Nat) : State :=
  let lim := s.ent fl
  if s.ent fm < p.len then
    (((s.bump rdrop).bump R.SCH_CNT_MAXLEN).fire P.SCH E.SCH_MAXLEN).dropHeld p
  else if lim ≠ 0 ∧ lim * 1024 < s.depth q + p.len then
    (((s.bump rdrop).bump R.SCH_CNT_QFULL).fire P.SCH E.SCH_QFULL).dropHeld p
  else
    let s1 := (s.setQueue q (s.queue q ++ [p])).bump64 R.SCH_CNT_ENQ_LO R.SCH_CNT_ENQ_HI 1
    if s1.fld fh < s1.depthKib q then s1.setFld fh (s1.depthKib q) else s1

theorem enqueue_eq (s : State) (p : Pkt) : s.enqueue p = enqueueAt s p p.queue (F.SCH_Q_LEN_MAX_LEN p.queue) (F.SCH_Q_LIM_LIM_KIB p.queue) (F.SCH_Q_HWM_KIB p.queue) (R.SCH_Q_DROP p.queue) := rfl

theorem enqueueAt_ok (w : State) (p : Pkt) (q : Nat) (fm fl fh : Fld) (rdrop : Nat) (h1 : p.len ≤ w.ent fm)
    (h2 : w.ent fl = 0 ∨ w.depth q + p.len ≤ w.ent fl * 1024) :
    Frame [.queues] [R.SCH_CNT_ENQ_LO, R.SCH_CNT_ENQ_HI, fh.key] w (enqueueAt w p q fm fl fh rdrop) ∧
    (enqueueAt w p q fm fl fh rdrop).queue q = w.queue q ++ [p] ∧ (∀ j, j ≠ q → (enqueueAt w p q fm fl fh rdrop).queue j = w.queue j) := by
  obtain ⟨x, hx⟩ : ∃ x, x = (w.setQueue q (w.queue q ++ [p])).bump64 R.SCH_CNT_ENQ_LO R.SCH_CNT_ENQ_HI 1 := ⟨_, rfl⟩
  have he : enqueueAt w p q fm fl fh rdrop = if x.fld fh < x.depthKib q then x.setFld fh (x.depthKib q) else x := by
    unfold enqueueAt
    dsimp only
    rw [if_neg (Nat.not_lt.2 h1), if_neg (by rintro ⟨a, b⟩; rcases h2 with h | h; exact a h; omega), ← hx]
  clear h1 h2
  obtain ⟨a1, a2⟩ := enqueue_count w q R.SCH_CNT_ENQ_LO R.SCH_CNT_ENQ_HI (w.queue q ++ [p])
  rw [← hx] at a1 a2
  clear hx
  obtain ⟨b1, b2⟩ := enqueue_mark x fh (x.depthKib q) (x.fld fh < x.depthKib q)
  rw [← he] at b1 b2
  clear he
  generalize enqueueAt w p q fm fl fh rdrop = t at *
  refine ⟨⟨SameBut.trans a1.1 (SameBut.mono (by decide) b1.1), fun k hk => ?_⟩, ?_, fun j hj => ?_⟩
  · simp only [List.mem_cons, List.not_mem_nil, or_false, not_or] at hk
    rw [b1.2 k (by simpa using hk.2.2), a1.2 k (by simp [hk.1, hk.2.1])]
  · rw [b2, a2, if_pos rfl]
  · rw [b2, a2, if_neg hj]

/-- A packet within its queue's limits joins it. -/
theorem enqueue_ok (w : State) (p : Pkt) (h1 : p.len ≤ w.ent (F.SCH_Q_LEN_MAX_LEN p.queue))
    (h2 : w.ent (F.SCH_Q_LIM_LIM_KIB p.queue) = 0 ∨ w.depth p.queue + p.len ≤ w.ent (F.SCH_Q_LIM_LIM_KIB p.queue) * 1024) :
    Frame [.queues] [R.SCH_CNT_ENQ_LO, R.SCH_CNT_ENQ_HI, R.SCH_Q_HWM p.queue] w (w.enqueue p) ∧
    (w.enqueue p).queue p.queue = w.queue p.queue ++ [p] ∧ (∀ j, j ≠ p.queue → (w.enqueue p).queue j = w.queue j) := by
  have := enqueueAt_ok w p p.queue _ _ (F.SCH_Q_HWM_KIB p.queue) (R.SCH_Q_DROP p.queue) h1 h2
  rw [← enqueue_eq] at this
  exact this

end Sys2Proof.Laws.Injection
end

