-- ==== Sys2Proof/Laws/Items.lean ====
section
/-! SUPPORT. What the operations over the task engine's items change: the levels, the announcement of a ready item, a flag that is set, a cancel, a post that is applied, the dispatcher's folds (R549-R558). -/

namespace Sys2Proof.Laws.Items

open Sys2Proof Sys2Proof.Machine

set_option linter.unusedVariables false

theorem setItem_item (s : State) (i j : Nat) (x : Item) : (s.setItem i x).item j = if j = i then x else s.item j := by
  simp only [State.setItem, State.setTsk, State.item, mapGet_mapPut]

theorem setLevel_level (s : State) (i j : Nat) (x : List Nat) : (s.setLevel i x).level j = if j = i then x else s.level j := by
  simp only [State.setLevel, State.setTsk, State.level, mapGet_mapPut]

theorem setLevel_item (s : State) (p : Nat) (l : List Nat) (j : Nat) : (s.setLevel p l).item j = s.item j := rfl

theorem fieldsAt_idxKey (a i : Nat) : fieldsAt (idxKey a i) = fieldsAt a := by
  have h1 : pageOf (idxKey a i) = pageOf a := by unfold pageOf idxKey; omega
  have h2 : ofsOf (idxKey a i) = ofsOf a := by unfold ofsOf idxKey; omega
  unfold fieldsAt; rw [h1, h2]

theorem setCorePort_ports (s : State) (m n : Fin 8) (p : Port) : ((s.setCorePort m p).tsk.ports[n]) = if m = n then p else s.tsk.ports[n] := by
  simp only [State.setCorePort, State.setTsk, Fin.getElem_fin, Vector.getElem_set]
  by_cases h : m = n
  · subst h; simp
  · rw [if_neg h, if_neg (by intro h2; exact h (Fin.ext h2))]

/-- What announcing a ready item keeps. -/
structure Announced (s t : State) : Prop where
  keep : SameBut [.tsk] s t
  items : t.tsk.items = s.tsk.items
  lists : t.tsk.lists = s.tsk.lists
  queue : t.tsk.queue = s.tsk.queue
  stalled : t.tsk.stalled = s.tsk.stalled
  holds : ∀ n : Fin 8, t.tsk.ports[n].holds = s.tsk.ports[n].holds
  mono : ∀ n : Fin 8, s.tsk.ports[n].dispatch = true → t.tsk.ports[n].dispatch = true

theorem Announced.refl (s : State) : Announced s s := ⟨SameBut.refl _ s, rfl, rfl, rfl, rfl, fun _ => rfl, fun _ h => h⟩

theorem Announced.trans {s t u : State} (a : Announced s t) (b : Announced t u) : Announced s u :=
  ⟨SameBut.trans a.keep b.keep, b.items.trans a.items, b.lists.trans a.lists, b.queue.trans a.queue, b.stalled.trans a.stalled,
   fun n => (b.holds n).trans (a.holds n), fun n h => b.mono n (a.mono n h)⟩

theorem Announced.disp (s : State) (m : Fin 8) : Announced s (s.setCorePort m { s.tsk.ports[m] with dispatch := true }) := by
  refine ⟨State.setCorePort_keeps _ _ (List.Subset.refl _) (SameBut.refl _ s), rfl, rfl, rfl, rfl, ?_, ?_⟩
  · intro n; rw [setCorePort_ports]; split
    · rename_i h; subst h; rfl
    · rfl
  · intro n h; rw [setCorePort_ports]; split
    · rfl
    · exact h

theorem Announced.pre (s : State) (m : Fin 8) : Announced s (s.setCorePort m { s.tsk.ports[m] with preempt := true }) := by
  refine ⟨State.setCorePort_keeps _ _ (List.Subset.refl _) (SameBut.refl _ s), rfl, rfl, rfl, rfl, ?_, ?_⟩
  · intro n; rw [setCorePort_ports]; split
    · rename_i h; subst h; rfl
    · rfl
  · intro n h; rw [setCorePort_ports]; split
    · rename_i h2; subst h2; exact h
    · exact h

theorem Announced.fold {α : Type} (f : State → α → State) (hf : ∀ s a, Announced s (f s a)) (l : List α) (s : State) : Announced s (l.foldl f s) := by
  induction l generalizing s with
  | nil => exact Announced.refl s
  | cons a l ih => exact (hf s a).trans (ih _)

theorem dispatch_fold (l : List (Fin 8)) (s : State) : ∀ n ∈ l, ((l.foldl (fun (t : State) (n : Fin 8) => t.setCorePort n { t.tsk.ports[n] with dispatch := true }) s).tsk.ports[n]).dispatch = true := by
  induction l generalizing s with
  | nil => intro n h; cases h
  | cons a l ih =>
    intro n hn
    rw [List.foldl_cons]
    rcases List.mem_cons.1 hn with rfl | h
    · refine (Announced.fold _ (fun s a => Announced.disp s a) l _).mono n ?_
      rw [setCorePort_ports, if_pos rfl]
    · exact ih _ n h

theorem Announced.announce (s : State) (i : Nat) (y : Bool) : Announced s (s.announceReady i y) := by
  unfold State.announceReady
  dsimp only
  split
  · exact Announced.fold _ (fun s a => Announced.disp s a) _ _
  · split
    · exact Announced.refl s
    · split
      · exact Announced.pre s _
      · exact Announced.refl s

theorem announceReady_dispatch (s : State) (i : Nat) (y : Bool) (n : Fin 8) (h1 : s.inCores i n = true) (h2 : s.idleCore n = true) :
    ((s.announceReady i y).tsk.ports[n]).dispatch = true := by
  have hm : n ∈ (List.finRange 8).filter (fun n => s.inCores i n && s.idleCore n) := by
    rw [List.mem_filter]; exact ⟨List.mem_finRange n, by simp [h1, h2]⟩
  unfold State.announceReady
  dsimp only
  rw [if_pos (List.ne_nil_of_mem hm)]
  exact dispatch_fold _ s n hm

theorem Announced.rd {s t : State} (a : Announced s t) (k : Nat) : t.rd k = s.rd k := State.rd_of_regs (a.keep .regs (by decide)) k

theorem Announced.inCores {s t : State} (a : Announced s t) (i : Nat) (n : Fin 8) : t.inCores i n = s.inCores i n := by
  unfold State.inCores State.fld; rw [a.rd]

theorem Announced.idle {s t : State} (a : Announced s t) (n : Fin 8) : t.idleCore n = s.idleCore n := by
  unfold State.idleCore; rw [a.rd, a.holds n]

theorem Announced.level {s t : State} (a : Announced s t) (p : Nat) : t.level p = s.level p := by
  unfold State.level; rw [a.lists]

theorem Announced.item {s t : State} (a : Announced s t) (p : Nat) : t.item p = s.item p := by
  unfold State.item; rw [a.items]

theorem postFlag_spec (s : State) (i f : Nat) :
    SameBut [.tsk] s (s.postFlag i f) ∧ (s.postFlag i f).tsk.queue = s.tsk.queue ∧ (s.postFlag i f).tsk.stalled = s.tsk.stalled ∧
      (∀ j : Nat, j ≠ i → (s.postFlag i f).item j = s.item j) ∧
      ((s.item i).st = .off → (s.postFlag i f).item i = s.item i) ∧
      ((s.item i).st ≠ .off → ∃ fl : Word, fl = (s.item i).flags ||| BitVec.ofNat 32 (2 ^ f) ∧
        ((s.item i).st ≠ .waiting ∨ s.condition i fl = false →
          (s.postFlag i f).item i = { s.item i with flags := fl } ∧ (s.postFlag i f).tsk.lists = s.tsk.lists ∧ (s.postFlag i f).tsk.ports = s.tsk.ports) ∧
        ((s.item i).st = .waiting → s.condition i fl = true →
          (s.postFlag i f).item i = { s.item i with st := .ready, flags := fl } ∧
          (s.postFlag i f).level (s.prio i) = s.level (s.prio i) ++ [i] ∧
          ∀ n : Fin 8, s.inCores i n = true → s.idleCore n = true → (s.postFlag i f).tsk.ports[n].dispatch = true)) := by
  refine ⟨State.postFlag_keeps i f (List.Subset.refl _) (SameBut.refl _ s), ?_⟩
  have hset : ∀ x : Item, (∀ j : Nat, j ≠ i → (s.setItem i x).item j = s.item j) ∧ (s.setItem i x).item i = x :=
    fun x => ⟨fun j hj => by rw [setItem_item, if_neg hj], by rw [setItem_item, if_pos rfl]⟩
  unfold State.postFlag
  dsimp only
  cases hst : (s.item i).st with
  | off => exact ⟨rfl, rfl, fun _ _ => rfl, fun _ => rfl, fun h => absurd rfl h⟩
  | waiting =>
    dsimp only
    by_cases hc : s.condition i ((s.item i).flags ||| BitVec.ofNat 32 (2 ^ f)) = true
    · rw [if_pos hc]
      unfold State.makeReady
      dsimp only
      rw [if_neg (by decide)]
      have ha := Announced.announce ((s.setItem i { s.item i with st := .ready, flags := (s.item i).flags ||| BitVec.ofNat 32 (2 ^ f) }).setLevel (s.prio i) (s.level (s.prio i) ++ [i])) i false
      refine ⟨ha.queue, ha.stalled, ?_, nofun, fun _ => ⟨_, rfl, ?_, ?_⟩⟩
      · intro j hj; rw [ha.item, setLevel_item]; exact (hset _).1 j hj
      · intro h; rcases h with h | h
        · exact absurd rfl h
        · rw [hc] at h; cases h
      · intro _ _
        refine ⟨?_, ?_, ?_⟩
        · rw [ha.item, setLevel_item]; exact (hset _).2
        · rw [ha.level, setLevel_level, if_pos rfl]
        · intro n h1 h2
          exact announceReady_dispatch _ i false n h1 h2
    · rw [if_neg hc]
      refine ⟨rfl, rfl, (hset _).1, nofun, fun _ => ⟨_, rfl, fun _ => ⟨?_, rfl, rfl⟩, fun _ h => absurd h hc⟩⟩
      exact (hset _).2
  | ready =>
    refine ⟨rfl, rfl, (hset _).1, nofun, fun _ => ⟨_, rfl, fun _ => ⟨?_, rfl, rfl⟩, nofun⟩⟩
    exact (hset _).2
  | running m =>
    refine ⟨rfl, rfl, (hset _).1, nofun, fun _ => ⟨_, rfl, fun _ => ⟨?_, rfl, rfl⟩, nofun⟩⟩
    exact (hset _).2

theorem no_cancel_ahead (l : List Post) (h : ∀ c ∈ l.head?, c.cancel = false) : l.takeWhile (fun x => x.cancel) = [] := by
  cases l with
  | nil => rfl
  | cons a l => simp [h a rfl]

theorem postApply_eq (s : State) (p : Post) (q : List Post) (hq : s.tsk.queue = p :: q) (h1 : ∀ c ∈ q.head?, c.cancel = false)
    (h2 : ∀ c ∈ (s.tsk.stalled.drop 1).head?, c.cancel = false) :
    s.applyPost = (s.postFlag p.item.toNat p.flag.toNat).setTsk (fun t => { t with queue := q ++ s.tsk.stalled.take 1, stalled := s.tsk.stalled.drop 1 }) := by
  have hp := postFlag_spec s p.item.toNat p.flag.toNat
  unfold State.applyPost
  rw [hq]
  dsimp only
  rw [no_cancel_ahead q h1]
  dsimp only [List.foldl_nil, List.length_nil, List.drop_zero]
  have hst := hp.2.2.1
  generalize s.postFlag p.item.toNat p.flag.toNat = u at *
  rw [← hst] at h2 ⊢
  cases hs : u.tsk.stalled with
  | nil =>
    simp only [List.take_nil, List.drop_nil, List.append_nil]
    unfold State.setTsk
    congr 1
    cases hu : u.tsk; rw [hu] at hs; dsimp only at hs; subst hs; rfl
  | cons y ys =>
    rw [hs] at h2
    simp only [List.drop_one, List.tail_cons] at h2
    dsimp only
    rw [no_cancel_ahead ys h2]
    simp

theorem store_fld_key (s : State) (k : Nat) (v : Word) (f : Fld) (hk : f.key = k) : (s.store k v).fld f = (s.store f.key v).fld f := by rw [hk]

theorem plainField_idxKey (a i lo w : Nat) : plainField ⟨idxKey a i, lo, w⟩ = plainField ⟨a, lo, w⟩ := by
  unfold plainField; simp only [fieldsAt_idxKey]

theorem itemCfg_plain (i : Nat) : plainField (F.TSK_ITEM_CFG_PRIO i) = true ∧ plainField (F.TSK_ITEM_CFG_MODE i) = true ∧ plainField (F.TSK_ITEM_CFG_PREEMPT i) = true ∧
    plainField (F.TSK_ITEM_CFG_EN i) = true ∧ plainField (F.TSK_ITEM_CFG_CORES i) = true ∧ plainField (F.TSK_ITEM_MASK_MASK i) = true := by
  refine ⟨?_, ?_, ?_, ?_, ?_, ?_⟩
  all_goals (refine (plainField_idxKey _ i _ _).trans ?_; clear i; decide +kernel)

theorem getField_bit (v : Word) (n : Nat) : getField v n 1 = if v.getLsbD n then 1 else 0 := by
  unfold getField
  rw [BitVec.getLsbD, Nat.testBit_eq_decide_div_mod_eq]
  simp only [Nat.pow_one, decide_eq_true_eq]
  split <;> omega

theorem itemMask_store (s : State) (i : Nat) (v : Word) : (s.store (R.TSK_ITEM_MASK i) v).rd (R.TSK_ITEM_MASK i) = v := by
  have h := State.fld_store_plain s (F.TSK_ITEM_MASK_MASK i) v (itemCfg_plain i).2.2.2.2.2
  simp only [State.fld, getField, Nat.pow_zero, Nat.div_one] at h
  apply BitVec.eq_of_toNat_eq
  have h1 := ((s.store (R.TSK_ITEM_MASK i) v).rd (R.TSK_ITEM_MASK i)).isLt
  have h2 := v.isLt
  omega

theorem tskCtl_plain : plainField F.TSK_TSK_CTL_EN = true := by decide +kernel

theorem itemOn_spec (s : State) (i : Nat) : SameBut [.tsk] s (s.itemOn i) ∧ (∀ j : Nat, j ≠ i → (s.itemOn i).item j = s.item j) ∧
    (s.itemOn i).tsk.ports = s.tsk.ports ∧ ((s.item i).st = .off → (s.itemOn i).item i = { st := .waiting }) ∧
    (∀ n : Fin 8, (s.item i).st = .running n → (s.itemOn i).item i = { s.item i with offAtEnd := false }) := by
  refine ⟨State.itemOn_keeps i (List.Subset.refl _) (SameBut.refl _ s), ?_⟩
  have hset : ∀ x : Item, (∀ j : Nat, j ≠ i → (s.setItem i x).item j = s.item j) ∧ (s.setItem i x).item i = x :=
    fun x => ⟨fun j hj => by rw [setItem_item, if_neg hj], by rw [setItem_item, if_pos rfl]⟩
  unfold State.itemOn
  dsimp only
  cases hst : (s.item i).st with
  | off => exact ⟨(hset _).1, rfl, fun _ => (hset _).2, nofun⟩
  | waiting => exact ⟨fun _ _ => rfl, rfl, nofun, nofun⟩
  | ready => exact ⟨fun _ _ => rfl, rfl, nofun, nofun⟩
  | running m => exact ⟨(hset _).1, rfl, nofun, fun _ _ => (hset _).2⟩

theorem itemOff_spec (s : State) (i : Nat) : SameBut [.tsk] s (s.itemOff i) ∧ (∀ j : Nat, j ≠ i → (s.itemOff i).item j = s.item j) ∧
    (s.itemOff i).tsk.ports = s.tsk.ports ∧ ((s.item i).st = .waiting ∨ (s.item i).st = .ready → (s.itemOff i).item i = {}) ∧
    (∀ n : Fin 8, (s.item i).st = .running n → (s.itemOff i).item i = { s.item i with flags := 0, consumed := 0, cancelled := true, offAtEnd := true }) := by
  refine ⟨State.itemOff_keeps i (List.Subset.refl _) (SameBut.refl _ s), ?_⟩
  have hset : ∀ (u : State) (x : Item), (∀ j : Nat, j ≠ i → (u.setItem i x).item j = u.item j) ∧ (u.setItem i x).item i = x :=
    fun u x => ⟨fun j hj => by rw [setItem_item, if_neg hj], by rw [setItem_item, if_pos rfl]⟩
  unfold State.itemOff
  dsimp only
  cases hst : (s.item i).st with
  | off => exact ⟨fun _ _ => rfl, rfl, by simp, nofun⟩
  | waiting => exact ⟨(hset s _).1, rfl, fun _ => (hset s _).2, nofun⟩
  | ready => exact ⟨(hset (s.unlist i) _).1, rfl, fun _ => (hset (s.unlist i) _).2, nofun⟩
  | running m => exact ⟨(hset s _).1, rfl, by simp, fun _ _ => (hset s _).2⟩

theorem announce_fold (s0 : State) (l : List Nat) (s : State) (hs : Announced s0 s) :
    Announced s0 (l.foldl (fun (u : State) i => u.announceReady i false) s) ∧
    ∀ i ∈ l, ∀ n : Fin 8, s0.inCores i n = true → s0.idleCore n = true → (l.foldl (fun (u : State) i => u.announceReady i false) s).tsk.ports[n].dispatch = true := by
  induction l generalizing s with
  | nil => exact ⟨hs, by simp⟩
  | cons a l ih =>
    rw [List.foldl_cons]
    have h := ih _ (hs.trans (Announced.announce s a false))
    refine ⟨h.1, ?_⟩
    intro i hi n h1 h2
    rcases List.mem_cons.1 hi with rfl | hi
    · refine (Announced.fold _ (fun s a => Announced.announce s a false) l _).mono n ?_
      exact announceReady_dispatch s i false n (by rw [hs.inCores]; exact h1) (by rw [hs.idle]; exact h2)
    · exact h.2 i hi n h1 h2

theorem announce_level_fold (s0 : State) (f : Nat → List Nat) (l : List Nat) (s : State) (hs : Announced s0 s) :
    Announced s0 (l.foldl (fun (t : State) p => (f p).foldl (fun (u : State) i => u.announceReady i false) t) s) ∧
    ∀ p ∈ l, ∀ i ∈ f p, ∀ n : Fin 8, s0.inCores i n = true → s0.idleCore n = true →
      (l.foldl (fun (t : State) p => (f p).foldl (fun (u : State) i => u.announceReady i false) t) s).tsk.ports[n].dispatch = true := by
  induction l generalizing s with
  | nil => exact ⟨hs, by simp⟩
  | cons a l ih =>
    rw [List.foldl_cons]
    have h0 := announce_fold s0 (f a) s hs
    have h := ih _ h0.1
    refine ⟨h.1, ?_⟩
    intro p hp i hi n h1 h2
    rcases List.mem_cons.1 hp with rfl | hp
    · exact (Announced.fold _ (fun s a => Announced.fold _ (fun s a => Announced.announce s a false) (f a) s) l _).mono n (h0.2 i hi n h1 h2)
    · exact h.2 p hp i hi n h1 h2

theorem nextItem_none {s : State} {n : Fin 8} (h : ∀ p i : Nat, p < 32 → i ∈ s.level p → s.inCores i n = false) : s.nextItem n = none := by
  unfold State.nextItem
  rw [List.findSome?_eq_none_iff]
  intro p hp
  rw [List.find?_eq_none]
  intro i hi
  simp [h p i (List.mem_range.1 hp) hi]

theorem nextItem_some {s : State} {n : Fin 8} {p i : Nat} {before after : List Nat} (hp : p < 32)
    (h : ∀ q j : Nat, q < p → j ∈ s.level q → s.inCores j n = false) (hl : s.level p = before ++ i :: after)
    (hb : ∀ j ∈ before, s.inCores j n = false) (hi : s.inCores i n = true) : s.nextItem n = some i := by
  unfold State.nextItem
  rw [List.findSome?_eq_some_iff]
  refine ⟨List.range p, p, (List.range (31 - p)).map (fun x => p + 1 + x), ?_, ?_, ?_⟩
  · have : 32 = p + 1 + (31 - p) := by omega
    rw [this, List.range_add, List.range_succ]
    simp
  · rw [hl, List.find?_append, List.find?_eq_none.2 (by intro j hj; simp [hb j hj])]
    simp [hi]
  · intro q hq
    rw [List.find?_eq_none]
    intro j hj
    simp [h q j (List.mem_range.1 hq) hj]

theorem cancelItem_spec (s : State) (i : Nat) : (∀ j : Nat, j ≠ i → (s.cancelItem i).item j = s.item j) ∧
      (s.cancelItem i).tsk.ports = s.tsk.ports ∧ (s.cancelItem i).tsk.queue = s.tsk.queue ∧ (s.cancelItem i).tsk.stalled = s.tsk.stalled ∧
      ((s.item i).st = .off → (s.cancelItem i).tsk = s.tsk) ∧
      ((s.item i).st = .waiting → (s.cancelItem i).item i = { s.item i with flags := 0 } ∧ (s.cancelItem i).tsk.lists = s.tsk.lists) ∧
      ((s.item i).st = .ready → (s.cancelItem i).item i = { s.item i with st := .waiting, flags := 0 } ∧
        (s.cancelItem i).level (s.prio i) = (s.level (s.prio i)).filter (fun j => decide (j ≠ i))) ∧
      (∀ n : Fin 8, (s.item i).st = .running n → (s.cancelItem i).tsk.lists = s.tsk.lists ∧
        (s.cancelItem i).item i = { s.item i with flags := 0, consumed := 0, cancelled := true }) := by
  unfold State.cancelItem
  dsimp only
  cases hst : (s.item i).st with
  | off => simp
  | waiting =>
    simp only [setItem_item]
    refine ⟨fun j hj => if_neg hj, rfl, rfl, rfl, nofun, fun _ => ⟨if_pos trivial, rfl⟩, nofun, nofun⟩
  | ready =>
    simp only [setItem_item]
    refine ⟨fun j hj => (if_neg hj).trans rfl, rfl, rfl, rfl, nofun, nofun, fun _ => ⟨if_pos trivial, ?_⟩, nofun⟩
    show (s.unlist i).level (s.prio i) = _
    unfold State.unlist; rw [setLevel_level, if_pos rfl]
  | running m =>
    simp only [setItem_item]
    refine ⟨fun j hj => if_neg hj, rfl, rfl, rfl, nofun, nofun, nofun, fun n _ => ⟨rfl, if_pos trivial⟩⟩

theorem getField_item (v : Word) : BitVec.ofNat 12 (getField v 0 12) = v.extractLsb' 0 12 := by
  apply BitVec.eq_of_toNat_eq; simp [getField, BitVec.extractLsb'_toNat]

theorem getField_flag (v : Word) : BitVec.ofNat 5 (getField v 16 5) = v.extractLsb' 16 5 := by
  apply BitVec.eq_of_toNat_eq; simp [getField, BitVec.extractLsb'_toNat, Nat.shiftRight_eq_div_pow]

theorem placeCancel_mem (r : Req) (c : Post) (q : List Post) : c ∈ placeCancel r c q ∧ (placeCancel r c q).length = q.length + 1 := by
  unfold placeCancel
  constructor
  · simp
  · simp only [List.length_append, List.length_take, List.length_cons, List.length_nil]
    have : (List.takeWhile (fun p => decide (p.req ≠ some r)) q.reverse).reverse.length ≤ q.length := by
      rw [List.length_reverse]
      have := (List.takeWhile_sublist (fun p : Post => decide (p.req ≠ some r)) (l := q.reverse)).length_le
      simpa using this
    omega

theorem take_eq {s : State} {n : Fin 8} {i : Nat} (hen : s.bit F.TSK_TSK_CTL_EN = true) (hn : s.nextItem n = some i) :
    s.takeItem n = (((s.unlist i).setItem i { s.item i with st := .running n, consumed := (s.item i).flags &&& s.rd (R.TSK_ITEM_MASK i), flags := (s.item i).flags &&& ~~~ s.rd (R.TSK_ITEM_MASK i) }).setCorePort n
      { s.tsk.ports[n] with holds := i :: s.tsk.ports[n].holds, flags := (s.item i).flags &&& s.rd (R.TSK_ITEM_MASK i), arg := s.rd (R.TSK_ITEM_ARG i) }).reply (.data (BitVec.ofNat 32 i)) := by
  unfold State.takeItem
  rw [hen, if_pos rfl, hn]

end Sys2Proof.Laws.Items
end

