-- ==== Sys2Proof/Tests/Slice0.lean ====
section
/-! SUPPORT. A refused term for each check of well-formedness, and states that meet hypotheses of statements. -/

namespace Sys2Proof.Tests

open Sys2Proof Sys2Proof.Machine

theorem test_reset_safe : Safe State.reset := by unfold Safe; decide

/-! ### One ill-formed term for each check of `Instr.wellFormed` -/

/-- The fixed part of a message. -/
def msgHdr : MsgHdr := ⟨0, 0, 0, 1, 0, 0⟩

theorem test_ill_grant : (Instr.grant msgHdr []).wellFormed = false := by decide
theorem test_ill_grant_field : (Instr.grant msgHdr (List.replicate 5 ⟨1024, 0, 0, 0, false, false⟩)).wellFormed = false := by decide
theorem test_ill_keyBlob : (Instr.keyBlob msgHdr (List.replicate 39 0)).wellFormed = false := by decide
theorem test_ill_bootStepDone_b2 : (Instr.bootStepDone (.b2 true [] [])).wellFormed = false := by decide
theorem test_ill_bootStepDone_b6 : (Instr.bootStepDone (.b6 [] [] [])).wellFormed = false := by decide
theorem test_ill_coreTreeStore : (Instr.coreTreeStore 0 (2 ^ 20) 0 0 true).wellFormed = false := by decide
theorem test_ill_groupDecode : (Instr.groupDecode 0 ⟨1, 0, []⟩).wellFormed = false := by decide
theorem test_ill_groupDecode_group : (Instr.groupDecode 0 ⟨250, 0, []⟩).wellFormed = false := by decide
theorem test_ill_preambleDetect : (Instr.preambleDetect 0 0 0 301 0).wellFormed = false := by decide
theorem test_ill_syncCandidate : (Instr.syncCandidate 0 3200000 0).wellFormed = false := by decide
theorem test_ill_pcieLinkUp : (Instr.pcieLinkUp 3 1 false false false).wellFormed = false := by decide
theorem test_ill_pcieLinkUp_speed : (Instr.pcieLinkUp 4 0 false false false).wellFormed = false := by decide
theorem test_ill_pfcReceive (e : EthPort) : (Instr.pfcReceive e 0 []).wellFormed = false := rfl
theorem test_ill_memoryWrite : (Instr.memoryWrite .scrub (.ext 0 0) (List.replicate 63 0)).wellFormed = false := by decide
theorem test_ill_trainingCountReached : (Instr.trainingCountReached 0 true ⟨0, 0, [], 0⟩).wellFormed = false := by decide
theorem test_ill_lqBlock : (Instr.lqBlock 0 0 ⟨301, 0, List.replicate 31 0, 0⟩).wellFormed = false := by decide
theorem test_ill_laneRowCheck : (Instr.laneRowCheck 0 ⟨0, [], 0, 0, 0⟩).wellFormed = false := by decide
theorem test_ill_stagedWrite : (Instr.stagedWrite .shelf 0x49044 0 true).wellFormed = false := by decide +kernel
theorem test_ill_unusedPageAccess : (Instr.unusedPageAccess .shelf true 0x49044 false).wellFormed = false := by decide
theorem test_ill_unusedPageAccess_offset : (Instr.unusedPageAccess .shelf true 0x3F001 false).wellFormed = false := by decide
theorem test_ill_tableSelect : (Instr.tableSelect .shelf 0x49040 0).wellFormed = false := by decide
theorem test_ill_gateShadowWrite : (Instr.gateShadowWrite .shelf 0x4C048 0).wellFormed = false := by decide

/-! ### States that meet the hypotheses of statements -/

/-- The shelf bus works and holds the thimble. -/
def shelfState : State := { State.reset with rst := { State.reset.rst with straps := 4 }, own := { st := .held, holder := 1 } }

/-- The same, and core 0 runs. -/
def coreState : State := shelfState.wr R.RST_CORE_RUN 1

theorem test_half_held : (shelfState.setHif (fun h => { h with holder := some (shelfState.shelfAddr 0 0, 1) })).hif.holder =
    some (shelfState.shelfAddr 0 0, 1) := rfl
theorem test_erase_fits : flashFits 3 0 4 = true := by decide
theorem test_power_fail_set : ({ shelfState with log := { shelfState.log with pf := true } } : State).log.pf = true := rfl

/-- The state `coreState` with the task engine on and item 5, with core 0 in its set, READY in its level. -/
def readyState : State :=
  ((((coreState.wr R.TSK_TSK_CTL 1).wr (R.TSK_ITEM_CFG 5) 0x00018003).setItem 5 { st := .ready, flags := 1 }).setLevel 3 [5])

/-- `shelfState` with an operation of each kind in progress and the presence window open. -/
def busyState : State :=
  { shelfState with own := { shelfState.own with presWin := true },
                    hif := { shelfState.hif with flashOp := some (3, 0, 4), i2cOp := some 0x80120000, l0 := true, msixEn := true } }

/-- The registers whose accesses the statements speak of, at the ends of each table's range. -/
def takenRegs : List Nat :=
  [R.HDR_EVT_RAW P.EVT, R.HDR_EVT_FORCE P.EVT, R.CMT_CMT_COMMIT, R.HIF_FLASH_CMD, 0x49044, 0x4A044, 0x4B044, 0x4C048] ++
  [R.TSK_POST, R.TSK_CANCEL, R.TSK_TSK_CTL, R.TSK_ITEM_MASK 0, R.TSK_ITEM_CFG 0, R.EVT_MSIX_ARM_LO, R.EVT_MSIX_ARM_HI, R.EVT_EVT_CTL] ++
  [R.HIF_OI2C_CMD, R.HIF_JTAG_CTL, R.HIF_MSIX_CTL 0, R.HIF_MSIX_CTL 63, R.CPU_EXC_TAIL, R.CPU_INJ_CMD, R.CPU_XWIN 0, R.CPU_XWIN 7]

theorem test_taken : ∀ a ∈ takenRegs, Taken shelfState .shelf a := by unfold Taken; decide +kernel

/-- The same with the Seam up, so that the pages of the line die can be written. -/
def upState : State := { shelfState with seam := { shelfState.seam with phase := .up } }

/-- The registers whose writes the statements O8 to O44 and O56 to O60 speak of, first by page of the line die, then of the fabric die. -/
def lineRegs : List Nat :=
  [R.DSF_CH_CMD 0, R.DSF_CH_CMD 3, R.LRX_RX_CTL 0, R.LRX_ADAPT_CMD 3, R.LRX_CAL_CTL 0, R.LTX_TX_CTL 3, R.LTX_TX_TEST 0, R.ACT_ACT_CTL] ++
  [R.ACT_GUARD_CMD, R.ACT_LOCAL_REL, R.ACT_SERIAL_LO, R.LCK_KEY_ERASE, R.KEY_KEY_CMD, R.KEY_UNW_CFG, R.KEY_UNW_LOCK, R.UPB_GSM_CMD] ++
  [R.UPB_GSM_DATA, R.TRB_TBL_CMD, R.TRB_TBL_DATA_HI]
def fabricRegs : List Nat :=
  [R.BPM_EXT_REG 31, R.BPM_ONP_CNT 7, R.BPQ_LANE_CMD 47, R.BPQ_LANE_CTL 0, R.CLS_TREE_DATA 3, R.MEM_MEM_CMD 3, R.MEM_SKIP_END 0] ++
  [R.PRS_PROG_DATA 3, R.SM_SEAM_CTL P.SMF, R.BPM_BPM_CTL, R.BPM_BUF_CMD, R.BPM_QMAP_CMD, R.BPM_QMAP_DATA, R.CLS_FLOW_CMD] ++
  [R.CMT_CMT_ACK, R.CMT_CMT_DISCARD, R.CMT_CMT_OPEN, R.CMT_TIMEOUT, R.ECC_CE_CFG, R.ECC_RET_CMD, R.GAT_G_CMD, R.GAT_G_LIST] ++
  [R.LMC_MDIO_CMD, R.MXE_MXE_CMD, R.OWN_OWN_CLAIM, R.OWN_OWN_HEARTBEAT, R.OWN_OWN_PRES_CTL, R.OWN_OWN_RELEASE, R.OWN_OWN_STAT] ++
  [R.PRS_PROG_CMD, R.PWR_PWR_CMD, R.PWR_PWR_CTL, R.RST_BOOT_CMD, R.RST_CORE_RUN, R.RST_RST_CMD, R.RST_WDT_KICK, R.SCH_Q_CMD] ++
  [R.SHP_SHP_CTL, R.SYS_BIST_CTL, R.TIM_B_OFS, R.TIM_TIM_CMD, R.TIM_TIM_CTL, R.HDR_PAGE_CTL P.EVT, R.HDR_EVT_MASK P.EVT]

theorem test_taken_line : ∀ a ∈ lineRegs, Taken upState .shelf a := by unfold Taken; decide +kernel
theorem test_taken_fabric : ∀ a ∈ fabricRegs, Taken upState .shelf a := by unfold Taken; decide +kernel

/-- The requesters, an item that core 0 runs and one that it does not, a ready item that TAKE finds, the presence window, an I2C read, the
endpoint, a full exception ring and a power failure with an erase in progress. -/
theorem test_witnesses :
    (shelfState.reaches .shelf = true ∧ coreState.reaches (.core 0) = true) ∧
    (((coreState.setItem 5 { st := .running 0 }).item 5).st = .running 0 ∧ (coreState.item 5).st ≠ .running 0) ∧
    (readyState.bit F.TSK_TSK_CTL_EN = true ∧ readyState.level 3 = [] ++ 5 :: [] ∧ readyState.inCores 5 0 = true ∧
      readyState.reaches (.core 0) = true) ∧
    (busyState.isDelegate .shelf = false ∧ busyState.own.presWin = true ∧ busyState.reaches .shelf = true ∧
      busyState.writeCause .shelf R.HIF_JTAG_CTL true = 0) ∧
    ((0x80120000 : Word).getLsbD 20 = true ∧ [(0 : Byte), 0].length = i2cLen 0x80120000) ∧
    (shelfState.endpointOn = true ∧ linkWf 4 4 = true ∧
      ({ shelfState with rst := { shelfState.rst with inReset := true } } : State).endpointOn = false) ∧
    ((shelfState.wr R.CPU_EXC_HEAD 1023).fld F.CPU_EXC_HEAD_HEAD + 1) % (shelfState.wr R.CPU_EXC_HEAD 1023).excSize =
      (shelfState.wr R.CPU_EXC_HEAD 1023).fld F.CPU_EXC_TAIL_TAIL ∧
    (shelfState.log.pf = false ∧ shelfState.rst.inReset = false ∧ shelfState.rst.unpowered = false ∧ shelfState.domOn 29 = true ∧
      busyState.hif.flashOp = some (3, 0, 4)) := by decide +kernel

/-- O56: the power states, the boot states, a regulator that waits, a self-test and the operations of the flash. -/
theorem test_witnesses_system :
    (upState.pwr.moving = false ∧ upState.pwr.step = .none ∧ upState.pwr.st = .run ∧ upState.inWake = false ∧
      upState.sleepCause .doze = 0 ∧ upState.log.pf = false ∧ upState.logOn = false ∧ upState.rst.devWait = none) ∧
    (∀ s : State, s = upState.setPwr (fun p => { p with entries := [.doze] }) → s.sleepReady = true ∧ s.sleepCause .doze = 0) ∧
    (∀ s : State, s = upState.setPwr (fun p => { p with st := .nap, limp := true }) → s.inWake = false ∧ s.domOn 0 = true ∧
      Taken s .shelf R.PWR_PWR_CMD) ∧
    (∀ s : State, s = upState.setPwr (fun p => { p with waitGood := 3, step := .logic }) →
      s.pwr.waitGood &&& domBit 0 ≠ 0 ∧ s.pwr.waitGood &&& ~~~ domBit 0 ≠ 0) ∧
    (∀ s : State, s = { upState with rst := { upState.rst with boot := .loading, steps := [2, 7], copy := false } } →
      s.inStep 2 = true ∧ s.inStep 7 = true) ∧
    (upState.bistIdle (getField (5 : Word) 1 3) (bistIndex (getField (5 : Word) 1 3) (getField (5 : Word) 16 9)) = true ∧
      upState.sys.active = false ∧ upState.endpointOn = true ∧ upState.flashCause 1 0 256 = 0 ∧
      (upState.wr R.EVT_LOG_CFG 0x00040100).flashCause 2 0x200000 4 = 0) := by
  refine ⟨?_, ?_, ?_, ?_, ?_, ?_⟩
  · decide +kernel
  · rintro s rfl; decide +kernel
  · rintro s rfl; unfold Taken; decide +kernel
  · rintro s rfl; decide +kernel
  · rintro s rfl; decide +kernel
  · decide +kernel

/-- A receive chain in TRACK with its channel aligned, group 1 of the frame dark and the rest for this terminal. -/
def trackState : State :=
  (upState.setRx 0 { upState.rx[0] with st := .track }).setDsf 0
    { upState.dsf[0] with st := .aligned, map := .valid, mfIdx := some 0, entries := [⟨1, 1, 1, 0⟩] }

/-- O57: a group in PREPARING with its reply on the way, a claim of a vacant thimble, a seal about to be found broken or intact, a dark
group ahead of a chain in TRACK. -/
theorem test_witnesses_line :
    (∀ s : State, s = { upState with cmt := { upState.cmt with slots := upState.cmt.slots.set 0 { st := .preparing, tag := 9 } },
                                     seam := { upState.seam with toFab := [.prepared 9] } } →
      s.slotOf 9 = some 0 ∧ s.seam.toFab = .prepared 9 :: [] ∧ s.cmt.slots[(0 : Fin 4)].st = .preparing) ∧
    (upState.slotOf 9 = none ∧ upState.freeSlot = some 0 ∧ usedPage P.EVT = true ∧ upState.domOn 31 = true) ∧
    (∀ s : State, s = { upState with own := { upState.own with elected := true, st := .vacant, sealUse := true, misses := 2, hits := 63,
                                                               matchSeen := true, cleared := true } } →
      Taken s .shelf R.OWN_OWN_CLAIM ∧ s.watches = true ∧ s.isDelegate .shelf = false) ∧
    (trackState.mapValid 0 = true ∧ trackState.markOf 0 ((trackState.dsf[(0 : Chan)]).place false 1) = .dark ∧
      trackState.markOf 0 ((trackState.dsf[(0 : Chan)]).place false 2) ≠ .dark) ∧
    (detectWf 300 163840 = true ∧ adaptWf ⟨300, 0, List.replicate 31 0, 0⟩ = true ∧ syncDiff syncWord = 0) := by
  refine ⟨?_, by decide +kernel, ?_, by decide +kernel, by decide +kernel⟩
  · rintro s rfl; decide +kernel
  · rintro s rfl; unfold Taken; decide +kernel

/-- O58: a burst that is due and one in progress, a key job at the head of the queue, a packet in recirculation. -/
theorem test_witnesses_control :
    (∀ s : State, s = (((upState.wr R.UPB_UPB_CTL 1).setRx 0 { upState.rx[0] with st := .track }).setUpb 0
        { upState.upb[0] with gt := [⟨.announce, 7, ⟨0, 0, 0, 10, false, false⟩, 0⟩], frame := some 6 }).setAct (fun a =>
          { a with st := .announcing, ch := a.ch.set 0 { a.ch[0] with prof := some ⟨0, 16, 0, 0, 0, 0, 0⟩ } }) →
      s.ncoOn 0 = true ∧ (s.profileFor 0 7).isSome = true ∧ notDark.contains s.act.st = true) ∧
    (∀ s : State, s = upState.setKey (fun k => { k with jobs := [⟨.memory, List.replicate 104 0, none⟩] }) →
      s.key.fusing = false ∧ s.key.locked = false ∧ s.key.jobs.length < 8) ∧
    (upState.act.st = .dark ∧ upState.key.busy = false ∧ upState.bit F.KEY_UNW_LOCK_LOCK = false) := by
  refine ⟨?_, ?_, by decide +kernel⟩
  · rintro s rfl; decide +kernel
  · rintro s rfl; decide +kernel

/-- O59: a buffer that software holds alone, a memory channel that fills, a lane that is up and drained, a port of 100 Mbit/s that may
step down, and a queue table whose copy runs. -/
theorem test_witnesses_data_path :
    (∀ s : State, s = upState.setBuf 0 { count := 1, owner := swHolder } → s.stale s.bufHdl = false ∧ (s.buf (s.bufHdl / 128)).owner = swHolder) ∧
    (upState.placeTested (.ext 0 0) = false ∧ upState.testing 0 none = false ∧
      upState.testing 3 none = false ∧ upState.nodeLocked 0 = false ∧ upState.extOff = false) ∧
    (∀ s : State, s = upState.setCh 0 { upState.ch 0 with st := .up, gib := 16 } → (s.ch 0).done = false ∧
      (s.ch 0).eave + 1 < (s.ch 0).lines ∧ s.skipOn 0 = false ∧ s.isAbove (.ext 0 0) = true) ∧
    (∀ s : State, s = (upState.setLane 47 { upState.lanes[47] with st := .up, mode := 1, signal := true }).wr R.SCH_SCH_CTL 0xFF →
      s.ethUp (.lane 47) = true ∧ s.lanes[(47 : Fin 48)].mac.tx = none ∧ s.quieting = false ∧ modeEth 1 = true ∧ s.drained 47 = true) ∧
    (∀ s : State, s = (upState.wr (R.LMC_PORT_CFG 7) 0xFFFFFFFF).setPort 7 { upState.lports[7] with link := true, hundred := true } →
      s.ethUp (.port 7) = true ∧ s.bit (F.LMC_PORT_CFG_STEP_EN 7) = true ∧ s.bit (F.LMC_PORT_CFG_CX_BP 7) = true) ∧
    ((upState.setFld F.BPM_QMAP_STAT_BUSY 1).bit F.BPM_QMAP_STAT_BUSY = true ∧ selectors.contains 0x49044 = true) := by
  refine ⟨?_, by decide +kernel, ?_, ?_, ?_, by decide +kernel⟩
  all_goals (rintro s rfl; decide +kernel)

/-- O60: a step of time that may be taken at once, a locked servo whose hold timer runs, a record in the ring and log records being
written. -/
theorem test_witnesses_host :
    (upState.tim.wait = none ∧ upState.transmitting = false ∧ upState.seam.phase = .up ∧ getField (1 : Word) 4 2 = 0 ∧
      upState.powered R.TIM_TIME_SEC_LO = true ∧ upState.readCause R.TIM_TIME_SEC_LO true = 0) ∧
    (∀ s : State, s = (upState.setTim (fun t => { t with servo := .locked })).startTimer T.servoHold →
      s.running T.servoHold = true ∧ s.tim.servo = .locked) ∧
    (∀ s : State, s = (upState.setTim (fun t => { t with qual := .good })).setFld F.TCL_OUT_CTL_PPS_EN 1 →
      s.bit F.TCL_OUT_CTL_PPS_EN = true ∧ s.squelched = false ∧ s.domOn 32 = true) ∧
    (upState.injHdl = 0 ∧ 0 < evNum P.EVT ∧ upState.powered (R.HDR_EVT_RAW P.EVT) = true ∧ linkWf 1 1 = true) := by
  refine ⟨by decide +kernel, ?_, ?_, by decide +kernel⟩
  all_goals (rintro s rfl; decide +kernel)

end Sys2Proof.Tests
end

section
/-! PROOF. The state after reset (O3): one lemma for each table of equal entries and for the register file. -/

namespace Sys2Proof.Proofs.Reset

open Sys2Proof Sys2Proof.Machine

/-- Every slot of the commit groups is empty after reset, and carries no tag. -/
theorem slot_reset (i : Fin 4) : State.reset.cmt.slots[i] = {} :=
  Vector.getElem_replicate i.isLt

/-- Every receive chain starts in the initial record of its table. -/
theorem rx_reset (c : Chan) : State.reset.rx[c] = {} :=
  Vector.getElem_replicate c.isLt

/-- Every backplane lane starts in the initial record of its table. -/
theorem lane_reset (l : Fin 48) : State.reset.lanes[l] = {} :=
  Vector.getElem_replicate l.isLt

/-- The register file lists no register after reset, so that each reads its reset value. -/
theorem rd_reset (k : Nat) : State.reset.rd k = resetWord k :=
  mapGet_nil (resetWord k) k

/-- Settles O3: the tables of slots, chains and lanes and the register file by the lemma of each, for every index; the
other fields are those of the initial record. -/
theorem resetValues : Obligations.ResetValues := by
  unfold Obligations.ResetValues
  refine ⟨?seam, fun i => ?slot, fun c => ?chain, ?terminal, fun l => ?lane, ?servo, ?time, rd_reset, ?memory, ?queue⟩
  case slot => rw [slot_reset i]
  case chain => rw [rx_reset c]
  case lane => rw [lane_reset l]
  case seam | terminal | servo | time | memory | queue => rfl

end Sys2Proof.Proofs.Reset
end

section
/-! SUPPORT. Frames of steps in which no event fires, through single operations: for `Frame` what Laws/Frames has for `FrameEv`. -/

namespace Sys2Proof

open Sys2Proof.Machine

variable {ps qs : List Part} {ks : List Nat} {s t u : State}

theorem Frame.upd (h : Frame ps ks s t) (hs : SameBut qs t u) (hq : qs ⊆ ps) (hr : u.regs = t.regs) : Frame ps ks s u :=
  h.trans ⟨SameBut.mono (List.subset_cons_of_subset _ hq) hs, fun k _ => State.rd_of_regs hr k⟩

theorem Frame.setSeam (h : Frame ps ks s t) (f : Seam → Seam) (hp : .seam ∈ ps) : Frame ps ks s (t.setSeam f) :=
  h.upd (State.setSeam_keeps f (List.Subset.refl _) (SameBut.refl _ t)) (by simpa using hp) rfl

theorem Frame.startTimer (h : Frame ps ks s t) (x : Nat) (hp : .timers ∈ ps) : Frame ps ks s (t.startTimer x) :=
  h.upd (State.startTimer_keeps x (List.Subset.refl _) (SameBut.refl _ t)) (by simpa using hp) rfl

theorem Frame.stopTimer (h : Frame ps ks s t) (x : Nat) (hp : .timers ∈ ps) : Frame ps ks s (t.stopTimer x) :=
  h.upd (State.stopTimer_keeps x (List.Subset.refl _) (SameBut.refl _ t)) (by simpa using hp) rfl

theorem Frame.reply (h : Frame ps ks s t) (x : Resp) (hp : .resp ∈ ps) : Frame ps ks s (t.reply x) :=
  h.upd (State.reply_keeps x (List.Subset.refl _) (SameBut.refl _ t)) (by simpa using hp) rfl

theorem Frame.wr (h : Frame ps ks s t) (k : Nat) (w : Word) (hk : k ∈ ks) : Frame ps ks s (t.wr k w) :=
  h.trans ⟨State.wr_keeps k w (by simp) (SameBut.refl _ t), fun _ hk' => State.rd_wr_ne _ _ (fun e => hk' (e ▸ hk))⟩

theorem Frame.bump (h : Frame ps ks s t) (k : Nat) (hk : k ∈ ks) : Frame ps ks s (t.bump k) := h.wr _ _ hk

theorem Frame.store (h : Frame ps ks s t) (k : Nat) (v : Word) (hk : k ∈ ks) : Frame ps ks s (t.store k v) := h.wr _ _ hk

end Sys2Proof
end

section
/-! PROOF. The Seam between the dies (O8, O9, O10): one equation for each case of a flit, of a lost lock, of Seam lost, of an
attempt and of a Seam that comes up; the obligations are assembled from them and from the facts of Laws/SeamFacts about a
Seam that goes down. -/

namespace Sys2Proof.Proofs.Seam

open Sys2Proof Sys2Proof.Machine

variable {s : State}

/-! ### The cases of a flit (R16, R688) -/

/-- The page of the die that a flit reaches. -/
def rxPage (toFab : Bool) : Nat := if toFab then P.SMF else P.SML

/-- How many flits in a row have failed their check at a die. -/
def failRun (toFab : Bool) (m : Seam) : Nat := if toFab then m.failFab else m.failLine

/-- The Seam with `n` failed flits in a row at a die. -/
def withFailRun (toFab : Bool) (n : Nat) (m : Seam) : Seam :=
  if toFab then { m with failFab := n } else { m with failLine := n }

theorem withFailRun_succ (toFab : Bool) (m : Seam) : withFailRun toFab (failRun toFab m + 1) m =
    if toFab then { m with failFab := m.failFab + 1 } else { m with failLine := m.failLine + 1 } := by
  cases toFab <;> rfl

/-- While the Seam is up or in training, it is neither down nor stopped. -/
theorem carries_not_idle (h : s.seam.phase = .up ∨ s.seam.phase = .training) :
    ¬ (s.seam.phase = .down ∨ s.seam.phase = .stopped) := by
  rcases h with h | h <;> simp [h]

theorem flit_idle (h : s.seam.phase = .down ∨ s.seam.phase = .stopped) (toFab ok : Bool) (d e : Nat) :
    s.flit toFab ok d e = s := by
  unfold State.flit
  exact if_pos h

theorem flit_good (h : s.seam.phase = .up ∨ s.seam.phase = .training) (toFab : Bool) (d e : Nat) :
    s.flit toFab true d e = s.setSeam (withFailRun toFab 0) := by
  unfold State.flit
  exact if_neg (carries_not_idle h)

theorem flit_replayed (h : s.seam.phase = .up ∨ s.seam.phase = .training) {toFab : Bool} (hn : failRun toFab s.seam < 8)
    (d e : Nat) :
    s.flit toFab false d e = ((s.bump (R.SM_CNT_CRC (rxPage toFab))).bump (R.SM_CNT_REPLAY (rxPage toFab))).setSeam
      (withFailRun toFab (failRun toFab s.seam + 1)) := by
  unfold State.flit
  rw [if_neg (carries_not_idle h)]
  exact if_pos hn

theorem flit_ninth (h : s.seam.phase = .up ∨ s.seam.phase = .training) {toFab : Bool} (hn : 8 ≤ failRun toFab s.seam)
    (d e : Nat) :
    s.flit toFab false d e = (s.bump (R.SM_CNT_CRC (rxPage toFab))).seamFail d e := by
  unfold State.flit
  rw [if_neg (carries_not_idle h)]
  exact if_neg (Nat.not_lt.mpr hn)

theorem seamFail_up (h : s.seam.phase = .up) (d e : Nat) : s.seamFail d e = s.seamDown d e := by
  unfold State.seamFail
  rw [h]

theorem seamFail_training (h : s.seam.phase = .training) (d e : Nat) :
    s.seamFail d e = s.setSeam (fun m => { m with phase := .down, failLine := 0, failFab := 0 }) := by
  unfold State.seamFail
  rw [h]

theorem exec_flit (toFab ok : Bool) (d e : Nat) (s : State) :
    exec (.seamFlitReceive toFab ok d e) s = .next (s.flit toFab ok d e) := rfl

theorem crc_ne_replay (p : Nat) : R.SM_CNT_CRC p ≠ R.SM_CNT_REPLAY p := by
  simp only [R.SM_CNT_CRC, R.SM_CNT_REPLAY]
  omega

/-- Settles O8: one clause for each case of `State.flit`; the two counters are different registers. -/
theorem seamFlits : Obligations.SeamFlits := by
  unfold Obligations.SeamFlits
  refine ⟨fun toFab d e s h hn => ?replayed, fun toFab d e s h => ?good, fun toFab d e s h hn => ?ninth,
    fun toFab ok d e s h => ?idle⟩
  case replayed =>
    refine ⟨_, by rw [exec_flit, flit_replayed h hn], ?_, ?_, ?_, withFailRun_succ toFab s.seam⟩
    · exact (((Frame.refl _ _ s).bump _ (by simp [rxPage])).bump _ (by simp [rxPage])).setSeam _ (by simp)
    · rw [State.setSeam_rd]
      exact (State.rd_bump_ne _ (crc_ne_replay _)).trans (State.rd_bump_self _ _)
    · rw [State.setSeam_rd]
      exact (State.rd_bump_self _ _).trans (congrArg (· + 1) (State.rd_bump_ne _ (crc_ne_replay _).symm))
  case good =>
    exact ⟨_, by rw [exec_flit, flit_good h], State.setSeam_keeps _ (List.Subset.refl _) (SameBut.refl _ s), rfl⟩
  case ninth =>
    refine ⟨_, by rw [exec_flit, flit_ninth (.inr h) hn, seamFail_training (s := s.bump _) h], ?_, ?_, rfl⟩
    · exact ((Frame.refl _ _ s).bump _ (by simp [rxPage])).setSeam _ (by simp)
    · rw [State.setSeam_rd]
      exact State.rd_bump_self _ _
  case idle => rw [exec_flit, flit_idle h]

/-! ### A Seam that fails (R16, R17, R689) -/

/-- The Seam with the lock of a receive lane lost. -/
def withoutLock (fab : Bool) (lane : Fin 16) (m : Seam) : Seam :=
  if fab then { m with lockFab := m.lockFab &&& ~~~ BitVec.ofNat 16 (2 ^ lane.val) }
  else { m with lockLine := m.lockLine &&& ~~~ BitVec.ofNat 16 (2 ^ lane.val) }

theorem withoutLock_phase (fab : Bool) (lane : Fin 16) (m : Seam) : (withoutLock fab lane m).phase = m.phase := by
  cases fab <;> rfl

theorem withoutLock_lockFab (fab : Bool) (lane : Fin 16) (m : Seam) : (withoutLock fab lane m).lockFab =
    if fab then m.lockFab &&& ~~~ BitVec.ofNat 16 (2 ^ lane.val) else m.lockFab := by
  cases fab <;> rfl

theorem withoutLock_lockLine (fab : Bool) (lane : Fin 16) (m : Seam) : (withoutLock fab lane m).lockLine =
    if fab then m.lockLine else m.lockLine &&& ~~~ BitVec.ofNat 16 (2 ^ lane.val) := by
  cases fab <;> rfl

theorem withoutLock_rest (fab : Bool) (lane : Fin 16) (m : Seam) : (withoutLock fab lane m).lost = m.lost ∧
    (withoutLock fab lane m).decisions = m.decisions ∧ (withoutLock fab lane m).preps = m.preps := by
  cases fab <;> exact ⟨rfl, rfl, rfl⟩

theorem exec_lockLoss (h : s.seam.phase ≠ .stopped) (fab : Bool) (l : Fin 16) (d e : Nat) :
    exec (.seamLaneLockLoss fab l d e) s =
      .next (((s.setSeam (withoutLock fab l)).seamFail d e).fire (if fab then P.SMFL else P.SMLL) l.val) :=
  congrArg Host.Outcome.next (if_neg h)

/-- The registers that `State.seamDown` writes, firing aside. -/
def downRegs : List Nat :=
  [R.CMT_CNT_ABORTED, R.SM_CNT_DOWN P.SML, R.SM_CNT_DOWN P.SMF, R.SM_CNT_FLIT_DROP P.SML, R.SM_CNT_FLIT_DROP P.SMF]

/-- The count of failed checks is neither a counter of a Seam that goes down nor a register of an event. -/
theorem crc_apart (toFab : Bool) : R.SM_CNT_CRC (rxPage toFab) ∉ downRegs ∧ eventReg (R.SM_CNT_CRC (rxPage toFab)) = false := by
  cases toFab <;> decide

theorem seamDown_crc (s : State) (toFab : Bool) (d e : Nat) :
    (s.seamDown d e).rd (R.SM_CNT_CRC (rxPage toFab)) = s.rd (R.SM_CNT_CRC (rxPage toFab)) :=
  (State.seamDown_frame s d e).2 _ (crc_apart toFab).1 (crc_apart toFab).2

/-- The count of failed checks leaves the counters of a Seam that goes down alone. -/
theorem bump_crc_downRegs (s : State) (toFab : Bool) {k : Nat} (hk : k ∈ downRegs) :
    (s.bump (R.SM_CNT_CRC (rxPage toFab))).rd k = s.rd k :=
  State.rd_bump_ne _ (fun e => (crc_apart toFab).1 (e ▸ hk))

theorem downRegs_not_event : ∀ k ∈ downRegs, eventReg k = false := by decide

theorem fire_rd_downRegs (s : State) (p b : Nat) {k : Nat} (hk : k ∈ downRegs) : (s.fire p b).rd k = s.rd k :=
  State.fire_rd s p b (downRegs_not_event k hk)

/-- The lane pages lie in the same domains as the Seam pages of their dies. -/
theorem fire_lane_raised {u : State} (fab : Bool) (l : Fin 16) (hl : u.domOn 11 = true) (hf : u.domOn 12 = true) :
    Raised (u.fire (if fab then P.SMFL else P.SMLL) l.val) (if fab then P.SMFL else P.SMLL) l.val := by
  refine State.fire_raised ?_ (by omega)
  cases fab
  · exact hl
  · exact hf

/-- Settles O9: the ninth failed check counts and then goes the way of `State.seamDown`; a lost lock takes the lane out
of the locks, goes the same way and fires the lane's own source; in TRAINING the same lock ends the attempt. -/
theorem seamFails : Obligations.SeamFails := by
  unfold Obligations.SeamFails
  refine ⟨fun toFab d e s h hl hf hn => ?ninth, fun fab l d e s h hl hf => ?lock, fun fab l d e s h => ?attempt⟩
  case ninth =>
    have hdown : exec (.seamFlitReceive toFab false d e) s = .next ((s.bump (R.SM_CNT_CRC (rxPage toFab))).seamDown d e) := by
      rw [exec_flit, flit_ninth (.inl h) hn, seamFail_up (s := s.bump _) h]
    obtain ⟨hphase, hlost, hline, hfab⟩ := State.seamDown_seam (s.bump (R.SM_CNT_CRC (rxPage toFab))) d e
    obtain ⟨cntL, cntF, dropL, dropF⟩ := State.seamDown_cnt (s.bump (R.SM_CNT_CRC (rxPage toFab))) d e
    rw [bump_crc_downRegs s toFab (by simp [downRegs])] at cntL cntF dropL dropF
    obtain ⟨raisedL, raisedF⟩ := State.seamDown_raised (s.bump (R.SM_CNT_CRC (rxPage toFab))) d e hl hf
    refine ⟨_, hdown, ?_, hphase, hlost, hline, hfab, ?_, cntL, cntF, dropL, dropF, State.seamDown_running _ d e, raisedL,
      raisedF, State.seamDown_slots _ d e⟩
    · exact ((FrameEv.refl _ _ s).bump _ (by simp [rxPage])).trans
        ((State.seamDown_frame _ d e).mono (List.Subset.refl _) (List.subset_append_left downRegs _))
    · exact (seamDown_crc _ toFab d e).trans (State.rd_bump_self _ _)
  case lock =>
    have hdown : exec (.seamLaneLockLoss fab l d e) s =
        .next (((s.setSeam (withoutLock fab l)).seamDown d e).fire (if fab then P.SMFL else P.SMLL) l.val) := by
      rw [exec_lockLoss (by simp [h]), seamFail_up ((withoutLock_phase fab l s.seam).trans h)]
    obtain ⟨hphase, hlost, -, -⟩ := State.seamDown_seam (s.setSeam (withoutLock fab l)) d e
    obtain ⟨lockF, lockL⟩ := State.seamDown_lock (s.setSeam (withoutLock fab l)) d e
    obtain ⟨cntL, cntF, dropL, dropF⟩ := State.seamDown_cnt (s.setSeam (withoutLock fab l)) d e
    obtain ⟨raisedL, raisedF⟩ := State.seamDown_raised (s.setSeam (withoutLock fab l)) d e hl hf
    have hpwr : ((s.setSeam (withoutLock fab l)).seamDown d e).pwr = s.pwr :=
      (State.seamDown_frame (s.setSeam (withoutLock fab l)) d e).1 .pwr (by decide)
    have hlane : l.val < 32 := by omega
    refine ⟨_, hdown, ?_, ?_, ?_, ?_, ?_, ?_, ?_, ?_, ?_, ?_, Raised_fire raisedL _ hlane, Raised_fire raisedF _ hlane,
      fire_lane_raised fab l ((State.domOn_of_pwr hpwr 11).trans hl) ((State.domOn_of_pwr hpwr 12).trans hf), ?_⟩
    · exact (((FrameEv.refl _ _ s).setSeam _).trans (State.seamDown_frame _ d e)).andFire _ _
    · exact (State.fire_seam_phase _ _ _).trans hphase
    · exact (State.fire_seam_lost _ _ _).trans hlost
    · rw [State.fire_seam_lockFab, lockF]
      exact withoutLock_lockFab fab l s.seam
    · rw [State.fire_seam_lockLine, lockL]
      exact withoutLock_lockLine fab l s.seam
    · exact (fire_rd_downRegs _ _ _ (by simp [downRegs])).trans cntL
    · exact (fire_rd_downRegs _ _ _ (by simp [downRegs])).trans cntF
    · exact (fire_rd_downRegs _ _ _ (by simp [downRegs])).trans dropL
    · exact (fire_rd_downRegs _ _ _ (by simp [downRegs])).trans dropF
    · exact (State.fire_running _ _ _ _).trans (State.seamDown_running _ d e)
    · intro i
      rw [State.fire_cmt]
      exact State.seamDown_slots _ d e i
  case attempt =>
    refine ⟨_, by rw [exec_lockLoss (by simp [h]), seamFail_training ((withoutLock_phase fab l s.seam).trans h)], ?_, rfl,
      withoutLock_rest fab l s.seam⟩
    exact State.setSeam_keeps _ (List.Subset.refl _) (State.setSeam_keeps _ (List.Subset.refl _) (SameBut.refl _ s))

/-! ### An outage (R17) -/

/-- The state in which Seam lost is noted, before the two dies fire: the 1 ms attempts run while RETRAIN_EN is 1. -/
def outage (s : State) : State :=
  let u := (s.setSeam (fun m => { m with lost := true })).stopTimer T.seamLost
  if s.bit (F.SM_SEAM_CTL_RETRAIN_EN P.SMF) then u.startTimer T.retrain else u

theorem exec_seamLost (hp : s.seam.phase = .down ∨ s.seam.phase = .training) (hl : s.seam.lost = false)
    (ht : s.running T.seamLost = true) (hb : s.seam.bringUp = false) :
    exec .seamLost s = .next ((outage s).fireBoth E.SM_SEAM_LOST) :=
  congrArg Host.Outcome.next (if_pos ⟨hp, by simp [hl], ht, .inl (by simp [hb])⟩)

theorem exec_seamLost_again (hl : s.seam.lost = true) : exec .seamLost s = .next s :=
  congrArg Host.Outcome.next (if_neg (fun h => h.2.1 hl))

theorem outage_keeps (s : State) : SameBut [.seam, .timers] s (outage s) := by
  have hstop : SameBut [.seam, .timers] s ((s.setSeam (fun m => { m with lost := true })).stopTimer T.seamLost) :=
    State.stopTimer_keeps _ (by decide) (State.setSeam_keeps _ (by decide) (SameBut.refl _ s))
  exact SameBut.ite (State.startTimer_keeps _ (by decide) hstop) hstop

theorem outage_seam (s : State) : (outage s).seam = { s.seam with lost := true } := by
  unfold outage
  split <;> rfl

theorem outage_seamLost_stopped (s : State) : (outage s).running T.seamLost = false := by
  unfold outage
  split <;> simp [T.seamLost, T.retrain]

theorem outage_retrains (h : s.bit (F.SM_SEAM_CTL_RETRAIN_EN P.SMF) = true) : (outage s).running T.retrain = true := by
  unfold outage
  rw [if_pos h]
  simp

/-! ### Attempts to train (R16, R17) -/

theorem train_down (h : s.seam.phase = .down) : s.train = s.setSeam (fun m => { m with phase := .training }) := if_pos h

theorem exec_retrain_timed (ht : s.running T.retrain = true) (he : s.bit (F.SM_SEAM_CTL_RETRAIN_EN P.SMF) = true) :
    exec .seamRetrainAttempt s = .next (s.startTimer T.retrain).train :=
  congrArg Host.Outcome.next (if_pos ⟨ht, he⟩)

theorem exec_retrain_untimed (ht : s.running T.retrain = false) :
    exec .seamRetrainAttempt s = .next (if s.seam.lost then s else s.train) :=
  congrArg Host.Outcome.next (if_neg (by simp [ht]))

theorem opSeamCtl_cleared {v : Word} (h : v.getLsbD 0 = false) :
    s.opSeamCtl v = (s.store (R.SM_SEAM_CTL P.SMF) v).stopTimer T.retrain :=
  if_pos (by simpa using h)

/-- RETRAIN_EN set while the Seam is down and it was 0 before: an attempt starts. -/
theorem opSeamCtl_starts {v : Word} (h : v.getLsbD 0 = true) (he : s.bit (F.SM_SEAM_CTL_RETRAIN_EN P.SMF) = false)
    (hp : s.seam.phase = .down) :
    s.opSeamCtl v = ((s.store (R.SM_SEAM_CTL P.SMF) v).setSeam (fun m => { m with phase := .training })).startTimer T.retrain :=
  (if_neg (not_not_intro h)).trans (if_neg (by simp [he, hp]))

theorem opSeamCtl_frame (s : State) (v : Word) : Frame [.seam, .timers, .resp] [R.SM_SEAM_CTL P.SMF] s (s.opSeamCtl v) := by
  have hstore : Frame [.seam, .timers, .resp] [R.SM_SEAM_CTL P.SMF] s (s.store (R.SM_SEAM_CTL P.SMF) v) :=
    (Frame.refl _ _ s).store _ _ (by simp)
  unfold State.opSeamCtl
  dsimp only
  split
  · exact hstore.stopTimer _ (by simp)
  · split
    · exact hstore
    · exact (hstore.setSeam _ (by simp)).startTimer _ (by simp)

theorem opSeamCtl_resp (s : State) (v : Word) : (s.opSeamCtl v).resp = s.resp :=
  State.opSeamCtl_keeps v (List.Subset.refl _) (SameBut.refl _ s) .resp (by decide)

theorem opSeamCtl_regs (s : State) (v : Word) : (s.opSeamCtl v).regs = (s.store (R.SM_SEAM_CTL P.SMF) v).regs := by
  unfold State.opSeamCtl
  dsimp only
  split
  · rfl
  · split <;> rfl

theorem opSeamCtl_bit (s : State) (v : Word) : (s.opSeamCtl v).bit (F.SM_SEAM_CTL_RETRAIN_EN P.SMF) = v.getLsbD 0 :=
  (State.bit_of_regs (opSeamCtl_regs s v) _).trans
    (State.bit_store_plain s (F.SM_SEAM_CTL_RETRAIN_EN P.SMF) v (by decide) rfl)

/-! ### The Seam comes up (R17, R512, R572) -/

theorem fireBoth_raised {u : State} {b : Nat} (hl : u.domOn 11 = true) (hf : u.domOn 12 = true) (hb : b < 32) :
    Raised (u.fireBoth b) P.SML b ∧ Raised (u.fireBoth b) P.SMF b := by
  have hline : (u.fire P.SMF b).powered (R.HDR_EVT_RAW P.SML) = true := (State.fire_domOn u P.SMF b 11).trans hl
  have hfab : u.powered (R.HDR_EVT_RAW P.SMF) = true := hf
  exact ⟨State.fire_raised hline hb, Raised_fire (State.fire_raised hfab hb) _ hb⟩

theorem fireBoth_delivers (u : State) (b : Nat) : Delivers u (u.fireBoth b) :=
  (State.fire_delivers _ _ _).trans (State.fire_delivers _ _ _)

/-- The part of `State.seamRises` before decisions and events: all locks held, both timers stopped, the time counters agree. -/
def linked (s : State) : State :=
  let u := ((s.setSeam (fun m => { m with phase := .up, lost := false, lockLine := BitVec.allOnes 16, lockFab := BitVec.allOnes 16,
                                          failLine := 0, failFab := 0, bringUp := false })).stopTimer T.seamLost).stopTimer T.retrain
  { u with clock := { u.clock with fab := u.clock.line, remF := u.clock.remL } }

/-- A servo that runs free or holds over takes its settled frequency. -/
def settled (s : State) : State := if s.tim.servo = .free ∨ s.tim.servo = .holdover then s.settleF else s

/-- The Seam is up and the line die's events have followed; SEAM_UP itself is yet to fire. -/
def risen (s : State) : State := (settled (linked s)).sendEvents

theorem exec_seamUp (hp : s.seam.phase = .training) (hl : s.domOn 11 = true) (hf : s.domOn 12 = true)
    (hd : s.seam.decisions = []) :
    exec .seamUp s = .next ((risen s).fireBoth E.SM_SEAM_UP) := by
  have hrises : s.seamRises = (s.seam.decisions.foldl State.lineDecision (settled (linked s))).sendEvents.fireBoth E.SM_SEAM_UP := rfl
  rw [hd] at hrises
  exact congrArg Host.Outcome.next ((if_pos ⟨hp, hl, hf⟩).trans hrises)

theorem linked_stopped (s : State) : (linked s).running T.seamLost = false ∧ (linked s).running T.retrain = false := by
  have hrun : ∀ x, (linked s).running x = ((s.stopTimer T.seamLost).stopTimer T.retrain).running x :=
    State.running_of_timers rfl
  simp [hrun]

theorem settled_seam (s : State) : (settled s).seam = s.seam := by
  unfold settled
  split
  · exact State.settleF_seam s
  · rfl

theorem risen_frame (s : State) : FrameEv [.clock, .tim, .timers] [] s (risen s) := by
  have hlinked : FrameEv [.clock, .tim, .timers] [] s (linked s) :=
    ((((FrameEv.refl _ _ s).setSeam _).stopTimer _ (by simp)).stopTimer _ (by simp)).with_clock (by simp)
  exact (hlinked.trans (FrameEv.ite ((FrameEv.refl _ _ _).settleF (by simp)) (FrameEv.refl _ _ _))).trans (FrameEv.sendEvents _ _ _)

/-- Settling the servo and sending the events touch the servo and the parts of events alone. -/
theorem risen_keeps (s : State) : SameBut (.tim :: evParts) (linked s) (risen s) :=
  State.sendEvents_keeps (by decide)
    (SameBut.ite (State.settleF_keeps (by decide) (SameBut.refl _ (linked s))) (SameBut.refl _ (linked s)))

theorem risen_fireBoth_seam (s : State) (b : Nat) :
    ∃ h n, ((risen s).fireBoth b).seam = { (linked s).seam with held := h, heldLost := n } := by
  obtain ⟨h, n, hseam⟩ := ((State.sendEvents_delivers (settled (linked s))).trans (fireBoth_delivers _ b)).1
  rw [settled_seam] at hseam
  exact ⟨h, n, hseam⟩

/-- Settles O10: one clause for each case of Seam lost, of an attempt and of a write of RETRAIN_EN; a Seam that comes up has
what `linked` sets, which neither the servo nor the events sent take back. -/
theorem seamOutage : Obligations.SeamOutage := by
  unfold Obligations.SeamOutage
  refine ⟨fun s hp hl ht hb => ?lost, fun s hl => exec_seamLost_again hl, fun s ht he hp => ?timed, fun s ht hl hp => ?early,
    fun s ht hl => ?held, fun r v s h => ?write, fun s hp hl hf hd => ?up⟩
  case lost =>
    exact ⟨outage s, exec_seamLost hp hl ht hb, outage_keeps s, outage_seam s, outage_seamLost_stopped s, outage_retrains⟩
  case timed =>
    refine ⟨_, by rw [exec_retrain_timed ht he, train_down (s := s.startTimer _) hp], ?_, rfl, by simp⟩
    exact State.setSeam_keeps _ (by decide) (State.startTimer_keeps _ (by decide) (SameBut.refl _ s))
  case early =>
    rw [exec_retrain_untimed ht, hl, train_down hp]
    rfl
  case held =>
    rw [exec_retrain_untimed ht, hl]
    rfl
  case write =>
    have htaken : exec (.retrainEnWrite r v) s = .next ((s.reply .done).opSeamCtl v) :=
      congrArg Host.Outcome.next (Taken_access h)
    refine ⟨_, htaken, ((Frame.refl _ _ s).reply _ (by simp)).trans (opSeamCtl_frame _ v), opSeamCtl_resp _ v,
      opSeamCtl_bit _ v, fun hv => ?_, fun hv he hp => ?_⟩
    · rw [opSeamCtl_cleared hv]
      exact ⟨by simp, rfl⟩
    · rw [opSeamCtl_starts (s := s.reply .done) hv he hp]
      exact ⟨rfl, by simp⟩
  case up =>
    obtain ⟨_, _, hseam⟩ := risen_fireBoth_seam s E.SM_SEAM_UP
    have hkeeps : SameBut (.tim :: evParts) (linked s) ((risen s).fireBoth E.SM_SEAM_UP) :=
      State.fireBoth_keeps _ (by decide) (risen_keeps s)
    have hrun := State.running_of_timers (hkeeps .timers (by decide))
    have hclock : ((risen s).fireBoth E.SM_SEAM_UP).clock = (linked s).clock := hkeeps .clock (by decide)
    have hpwr : (risen s).pwr = s.pwr := risen_keeps s .pwr (by decide)
    exact ⟨_, exec_seamUp hp hl hf hd, ((risen_frame s).andFire _ _).andFire _ _, congrArg Seam.phase hseam,
      congrArg Seam.lost hseam, congrArg Seam.lockLine hseam, congrArg Seam.lockFab hseam, congrArg Seam.failLine hseam,
      congrArg Seam.failFab hseam, (hrun _).trans (linked_stopped s).1, (hrun _).trans (linked_stopped s).2,
      (congrArg Clock.fab hclock :), (congrArg Clock.line hclock :),
      fireBoth_raised ((State.domOn_of_pwr hpwr 11).trans hl) ((State.domOn_of_pwr hpwr 12).trans hf) (by decide)⟩

end Sys2Proof.Proofs.Seam
end

section
/-! SUPPORT. Frames through the operations of commit commands, and what a bus error leaves alone. -/

namespace Sys2Proof

open Sys2Proof.Machine

variable {ps : List Part} {ks : List Nat} {s t : State}

theorem Frame.setSlot (h : Frame ps ks s t) (i : Fin 4) (x : Slot) (hp : .cmt ∈ ps) : Frame ps ks s (t.setSlot i x) :=
  h.upd (State.setSlot_keeps i x (List.Subset.refl _) (SameBut.refl _ t)) (by simpa using hp) rfl

theorem Frame.cmdStat (h : Frame ps ks s t) (r : Req) (tag : BitVec 8) (cmd res : Nat) (hk : R.CMT_CMD_STAT ∈ ks) :
    Frame ps ks s (t.cmdStat r tag cmd res) := h.wr _ _ hk

theorem Frame.setFld (h : Frame ps ks s t) (f : Fld) (v : Nat) (hk : f.key ∈ ks) : Frame ps ks s (t.setFld f v) := h.wr _ _ hk

namespace Machine

theorem State.busError_not_done (s : State) (r : Req) (k : Nat) (rd : Bool) (c : Nat) : (s.busError r k rd c).resp ≠ .done := by
  cases r with
  | pcie => cases rd <;> nofun
  | shelf => nofun
  | core n => nofun

theorem State.cmdRefuse_not_done (s : State) (r : Req) (k : Nat) (tag : BitVec 8) (cmd res : Nat) :
    (s.cmdRefuse r k tag cmd res).resp ≠ .done := State.busError_not_done _ _ _ _ _

end Machine

end Sys2Proof
end

section
/-! PROOF. CMT_COMMIT of an open slot (O13): one equation for each condition of R72, in the order in which they are judged. -/

namespace Sys2Proof.Proofs.Commit

open Sys2Proof Sys2Proof.Machine

variable {s : State} {r : Req} {tag : BitVec 8} {i : Fin 4}

/-- What CMT_COMMIT does with the slot once it is found open. -/
theorem exec_commit (ht : Taken s r R.CMT_CMT_COMMIT) (h0 : tag ≠ 0) (hs : s.slotOf tag = some i)
    (ho : s.cmt.slots[i].st = .opened) :
    exec (.cmtCommit r tag) s = .next ((s.reply .done).judgeCommit r i) := by
  have hfound : (s.reply .done).opCmtCommit r tag =
      match s.slotOf tag with
      | none => (s.reply .done).cmdRefuse r R.CMT_CMT_COMMIT tag 2 3
      | some i => if s.cmt.slots[i].st = .opened then (s.reply .done).judgeCommit r i
          else (s.reply .done).cmdRefuse r R.CMT_CMT_COMMIT tag 2 5 := if_neg h0
  rw [hs] at hfound
  exact congrArg Host.Outcome.next ((Taken_access ht).trans (hfound.trans (if_pos ho)))

/-! ### The conditions of R72 -/

theorem judge_powerFail (h : s.log.pf = true) :
    s.judgeCommit r i = s.cmdRefuse r R.CMT_CMT_COMMIT s.cmt.slots[i].tag 2 6 := if_pos h

/-- The command is accepted, which CMD_STAT shows. -/
def accepted (s : State) (r : Req) (i : Fin 4) : State := s.cmdStat r s.cmt.slots[i].tag 2 0

theorem accepted_cmt (s : State) (r : Req) (i : Fin 4) : (accepted s r i).cmt = s.cmt := State.wr_cmt _ _ _

theorem accepted_seam (s : State) (r : Req) (i : Fin 4) : (accepted s r i).seam = s.seam := State.wr_seam _ _ _

theorem judge_accepted (h : s.log.pf = false) : s.judgeCommit r i =
    if s.cmt.slots[i].writes = [] then (accepted s r i).slotApplied i
    else if s.cmt.slots[i].overflow then (accepted s r i).abortSlot i 2
    else if (mapKeys s.cmt.slots[i].writes).any (fun k => !linePage (pageOf k) && !s.powered k) then (accepted s r i).abortSlot i 3
    else if ¬ crossDie s.cmt.slots[i].writes then (accepted s r i).decideApply i
    else if s.seam.phase = .stopped then (accepted s r i).abortSlot i 3
    else if s.seam.phase ≠ .up then (accepted s r i).abortSlot i 4
    else (accepted s r i).sendPrepare i := if_neg (by simp [h])

theorem judge_empty (h : s.log.pf = false) (he : s.cmt.slots[i].writes = []) :
    s.judgeCommit r i = (accepted s r i).slotApplied i := (judge_accepted h).trans (if_pos he)

/-- A staged page of the fabric die lies in a domain that is off. -/
def darkPage (s : State) (i : Fin 4) : Bool :=
  (mapKeys s.cmt.slots[i].writes).any (fun k => !linePage (pageOf k) && !s.powered k)

/-- The cause with which a group is aborted, by the first condition of R72 that holds. -/
def abortCause (s : State) (i : Fin 4) : BitVec 4 :=
  if s.cmt.slots[i].overflow = true then 2 else if darkPage s i = true then 3
  else if s.seam.phase = .stopped then 3 else 4

theorem judge_aborts (h : s.log.pf = false) (he : s.cmt.slots[i].writes ≠ [])
    (hc : s.cmt.slots[i].overflow = true ∨ darkPage s i = true ∨ (crossDie s.cmt.slots[i].writes = true ∧ s.seam.phase ≠ .up)) :
    s.judgeCommit r i = (accepted s r i).abortSlot i (abortCause s i) := by
  rw [judge_accepted h, if_neg he]
  unfold abortCause
  by_cases hov : s.cmt.slots[i].overflow = true
  · rw [if_pos hov, if_pos hov]
  by_cases hdark : darkPage s i = true
  · rw [if_neg hov, if_neg hov, if_pos hdark]
    exact if_pos hdark
  obtain ⟨hcross, hup⟩ := (hc.resolve_left hov).resolve_left hdark
  rw [if_neg hov, if_neg hov, if_neg hdark]
  refine (if_neg hdark).trans ?_
  rw [if_neg (not_not_intro hcross)]
  by_cases hstop : s.seam.phase = .stopped
  · rw [if_pos hstop, if_pos hstop]
  · rw [if_neg hstop, if_neg hstop, if_pos hup]

/-- Neither OVERFLOW nor an unpowered page stands in the way. -/
theorem judge_whole (h : s.log.pf = false) (he : s.cmt.slots[i].writes ≠ []) (hov : s.cmt.slots[i].overflow = false)
    (hdark : darkPage s i = false) : s.judgeCommit r i =
    if ¬ crossDie s.cmt.slots[i].writes then (accepted s r i).decideApply i
    else if s.seam.phase = .stopped then (accepted s r i).abortSlot i 3
    else if s.seam.phase ≠ .up then (accepted s r i).abortSlot i 4
    else (accepted s r i).sendPrepare i := by
  rw [judge_accepted h, if_neg he, if_neg (ne_true_of_eq_false hov)]
  exact if_neg (ne_true_of_eq_false hdark)

theorem judge_prepares (h : s.log.pf = false) (he : s.cmt.slots[i].writes ≠ []) (hov : s.cmt.slots[i].overflow = false)
    (hdark : darkPage s i = false) (hc : crossDie s.cmt.slots[i].writes = true) (hup : s.seam.phase = .up) :
    s.judgeCommit r i = (accepted s r i).sendPrepare i := by
  rw [judge_whole h he hov hdark, if_neg (not_not_intro hc), if_neg (by simp [hup]), if_neg (not_not_intro hup)]

/-- The slot is in APPLYING and a marker waits for each pipeline. -/
def applies (s : State) (i : Fin 4) : State :=
  let u := s.setSlot i { s.cmt.slots[i] with st := .applying, pages := pagesOf s.cmt.slots[i].writes, switched := [] }
  { u with cmt := { u.cmt with waiting := u.cmt.waiting ++ (List.finRange 4).map (fun p => (s.cmt.slots[i].tag, p)) } }

theorem decideApply_single (hc : crossDie s.cmt.slots[i].writes = false) :
    s.decideApply i = ((applies s i).stopTimer (T.prep i.val)).switchNow i := by
  unfold State.decideApply
  dsimp only
  rw [if_neg (ne_true_of_eq_false hc)]
  rfl

theorem judge_decides (h : s.log.pf = false) (he : s.cmt.slots[i].writes ≠ []) (hov : s.cmt.slots[i].overflow = false)
    (hdark : darkPage s i = false) (hc : crossDie s.cmt.slots[i].writes = false) :
    s.judgeCommit r i = ((applies (accepted s r i) i).stopTimer (T.prep i.val)).switchNow i := by
  rw [judge_whole h he hov hdark, if_pos (ne_true_of_eq_false hc)]
  exact decideApply_single (s := accepted s r i) (by rwa [accepted_cmt])

/-! ### What each outcome leaves -/

theorem accepted_frame (ps : List Part) {ks : List Nat} (hk : R.CMT_CMD_STAT ∈ ks) (s : State) (r : Req) (i : Fin 4) :
    Frame ps ks s (accepted s r i) := (Frame.refl _ _ s).cmdStat _ _ _ _ hk

theorem applies_frame (s : State) (i : Fin 4) {ps : List Part} (hp : .cmt ∈ ps) (ks : List Nat) : Frame ps ks s (applies s i) :=
  ((Frame.refl ps ks s).setSlot _ _ hp).upd (SameBut.upd_cmt (List.Subset.refl _) (SameBut.refl [.cmt] _))
    (by simpa using hp) rfl

theorem setSlot_cmt (s : State) (i : Fin 4) (x : Slot) : (s.setSlot i x).cmt = { s.cmt with slots := s.cmt.slots.set i x } := rfl

theorem applies_cmt (s : State) (i : Fin 4) : (applies s i).cmt = { s.cmt with
    slots := s.cmt.slots.set i { s.cmt.slots[i] with st := .applying, pages := pagesOf s.cmt.slots[i].writes, switched := [] }
    waiting := s.cmt.waiting ++ (List.finRange 4).map (fun p => (s.cmt.slots[i].tag, p)) } := rfl

theorem sendPrepare_cmt (s : State) (i : Fin 4) : (s.sendPrepare i).cmt = { s.cmt with
    slots := s.cmt.slots.set i { s.cmt.slots[i] with st := .preparing, pages := pagesOf s.cmt.slots[i].writes } } := rfl

theorem sendPrepare_seam (s : State) (i : Fin 4) : (s.sendPrepare i).seam =
    { s.seam with toLine := s.seam.toLine ++ [.prepare s.cmt.slots[i].tag (lineWrites s.cmt.slots[i].writes)] } := rfl

theorem accepted_counter (s : State) (r : Req) (i : Fin 4) {k : Nat} (hk : k ≠ R.CMT_CMD_STAT) (x : Slot) :
    (((accepted s r i).setSlot i x).bump k).rd k = s.rd k + 1 := by
  rw [State.rd_bump_self, State.setSlot_rd]
  exact congrArg (· + 1) (State.rd_wr_ne _ _ hk)

theorem cmdRefuse_rd (s : State) (r : Req) (k : Nat) (tag : BitVec 8) (cmd res : Nat) {j : Nat} (hb : busReg j = false)
    (he : eventReg j = false) :
    (s.cmdRefuse r k tag cmd res).rd j = ((s.cmdStat r tag cmd res).bump R.CMT_CNT_REFUSED).rd j :=
  (State.busError_rd _ _ _ _ _ hb he).trans (State.fire_rd _ _ _ he)

/-- Settles O13: the equation of each condition, and what the operation that it leads to writes. -/
theorem commitIsJudged : Obligations.CommitIsJudged := by
  unfold Obligations.CommitIsJudged
  refine ⟨fun r tag i s ht h0 hs ho hf => ?refused, fun r tag i s ht h0 hs ho hf he => ?empty,
    fun r tag i s ht h0 hs ho hf he hc => ?aborted, fun r tag i s ht h0 hs ho hf he hov hdark hc hup => ?prepares,
    fun r tag i s ht h0 hs ho hf he hov hdark hc => ?decided⟩
  case refused =>
    refine ⟨_, by rw [exec_commit ht h0 hs ho, judge_powerFail (s := s.reply .done) hf], ?_, State.cmdRefuse_not_done _ _ _ _ _ _, ?_, ?_⟩
    · exact State.cmdRefuse_keeps _ _ _ _ _ (List.Subset.refl _) (SameBut.refl _ (s.reply .done)) .cmt (by decide)
    · rw [cmdRefuse_rd _ _ _ _ _ _ (by decide) (by decide), State.rd_bump_self]
      exact congrArg (· + 1) (State.rd_wr_ne _ _ (by decide))
    · rw [cmdRefuse_rd _ _ _ _ _ _ (by decide) (by decide), State.rd_bump_ne _ (by decide)]
      exact State.rd_wr_self _ _ _
  case empty =>
    refine ⟨_, by rw [exec_commit ht h0 hs ho, judge_empty (s := s.reply .done) hf he]; rfl, ?_, rfl, ?_, ?_⟩
    · exact (((((Frame.refl _ _ s).reply _ (by simp)).trans (accepted_frame _ (by simp) _ r i)).setSlot _ _ (by simp)).bump _ (by simp))
    · exact accepted_counter (s.reply .done) r i (by decide) _
    · rw [State.bump_cmt, setSlot_cmt, accepted_cmt]
      rfl
  case aborted =>
    refine ⟨_, by rw [exec_commit ht h0 hs ho, judge_aborts (s := s.reply .done) hf he hc]; rfl, ?_, rfl, ?_, ?_⟩
    · exact (((((Frame.refl _ _ s).reply _ (by simp)).trans (accepted_frame _ (by simp) _ r i)).setSlot _ _ (by simp)).bump _ (by simp))
    · exact accepted_counter (s.reply .done) r i (by decide) _
    · rw [State.bump_cmt, setSlot_cmt, accepted_cmt]
      rfl
  case prepares =>
    refine ⟨_, by rw [exec_commit ht h0 hs ho, judge_prepares (s := s.reply .done) hf he hov hdark hc hup], ?_, rfl, ?_, ?_, ?_⟩
    · exact ((((((Frame.refl _ _ s).reply _ (by simp)).trans (accepted_frame _ (by simp) _ r i)).setSlot _ _ (by simp)).setSeam _
        (by simp)).startTimer _ (by simp))
    · rw [sendPrepare_cmt, accepted_cmt]
      rfl
    · rw [sendPrepare_seam, accepted_seam, accepted_cmt]
      rfl
    · exact (State.running_startTimer _ _ _).trans (by simp)
  case decided =>
    refine ⟨_, by rw [exec_commit ht h0 hs ho, judge_decides (s := s.reply .done) hf he hov hdark hc], ?_, ?_⟩
    · exact (((Frame.refl _ _ s).reply _ (by simp)).trans (accepted_frame _ (by simp) _ r i)).trans (applies_frame _ i (by simp) _)
    · rw [applies_cmt, accepted_cmt]
      rfl

end Sys2Proof.Proofs.Commit
end

section
/-! SUPPORT. A bus error of a host (R640): what it changes, and what the host is answered. -/

namespace Sys2Proof

open Sys2Proof.Machine

variable {ps : List Part} {ks : List Nat} {s t : State}

theorem FrameEv.busErrorPcie (h : FrameEv ps ks s t) (k : Nat) (rd : Bool) (c : Nat) (hp : .resp ∈ ps)
    (hc : R.HIF_CNT_PCIE_BUSERR ∈ ks) (he : R.HIF_PCIE_ERR ∈ ks) : FrameEv ps ks s (t.busError .pcie k rd c) :=
  (((h.bump _ hc).wr _ _ he).andFire _ _).reply _ hp

theorem FrameEv.busErrorShelf (h : FrameEv ps ks s t) (k : Nat) (rd : Bool) (c : Nat) (hp : .resp ∈ ps)
    (hc : R.HIF_CNT_SB_BUSERR ∈ ks) (he : R.HIF_SB_ERR ∈ ks) : FrameEv ps ks s (t.busError .shelf k rd c) :=
  (((h.bump _ hc).wr _ _ he).andFire _ _).reply _ hp

namespace Machine

/-- The registers in which a bus error of a host is counted and recorded. -/
def busRegs : List Nat := [R.HIF_CNT_PCIE_BUSERR, R.HIF_PCIE_ERR, R.HIF_CNT_SB_BUSERR, R.HIF_SB_ERR]

theorem State.busError_host_frame {r : Req} (hr : isHost r = true) (s : State) (k : Nat) (rd : Bool) (c : Nat) :
    FrameEv [.resp] busRegs s (s.busError r k rd c) := by
  cases r with
  | pcie => exact (FrameEv.refl _ _ s).busErrorPcie _ _ _ (by simp) (by simp [busRegs]) (by simp [busRegs])
  | shelf => exact (FrameEv.refl _ _ s).busErrorShelf _ _ _ (by simp) (by simp [busRegs]) (by simp [busRegs])
  | core n => cases hr

theorem State.busError_host_write {r : Req} (hr : isHost r = true) (s : State) (k c : Nat) :
    (s.busError r k false c).resp = .busError (BitVec.ofNat 3 c) := by
  cases r with
  | pcie | shelf => rfl
  | core n => cases hr

theorem State.busError_shelf_counts (s : State) (k : Nat) (rd : Bool) (c : Nat) :
    (s.busError .shelf k rd c).rd R.HIF_CNT_SB_BUSERR = s.rd R.HIF_CNT_SB_BUSERR + 1 :=
  (State.fire_rd _ _ _ (by decide)).trans ((State.rd_wr_ne _ _ (by decide)).trans (State.rd_bump_self _ _))

theorem State.busError_pcie_counts (s : State) (k : Nat) (rd : Bool) (c : Nat) :
    (s.busError .pcie k rd c).rd R.HIF_CNT_PCIE_BUSERR = s.rd R.HIF_CNT_PCIE_BUSERR + 1 :=
  (State.fire_rd _ _ _ (by decide)).trans ((State.rd_wr_ne _ _ (by decide)).trans (State.rd_bump_self _ _))

end Machine

end Sys2Proof
end

section
/-! PROOF. Register writes (O14): the write that passes its checks, each check that fails, and the staged write. -/

namespace Sys2Proof.Proofs.RegisterAccess

open Sys2Proof Sys2Proof.Machine

variable {s : State} {r : Req} {k : Nat} {v : Word} {full : Bool}

/-! ### A write that passes its checks -/

theorem writeReg_plain (h : isStaged k = false) :
    s.writeReg r k v full = s.access r k full (fun t => t.performWrite r k v) := if_neg (ne_true_of_eq_false h)

theorem exec_write_taken {a : Addr} (h : isStaged a.toNat = false) (ht : Taken s r a.toNat) :
    exec (.registerWrite r a v true) s = .next ((s.reply .done).performWrite r a.toNat v) :=
  congrArg Host.Outcome.next ((writeReg_plain h).trans (Taken_access ht))

/-- A write of CMT.TIMEOUT stores the word, and no selector moves with it. -/
theorem performWrite_timeout (s : State) (r : Req) (v : Word) :
    s.performWrite r R.CMT_TIMEOUT v = s.store R.CMT_TIMEOUT v := by
  have hstore : s.writeAt r R.CMT_TIMEOUT v = s.store R.CMT_TIMEOUT v := rfl
  have hshown : shownBy r R.CMT_TIMEOUT = [] := by cases r <;> rfl
  unfold State.performWrite State.mirrorSel
  rw [hstore, hshown]
  exact ite_self _

/-! ### A write that fails a check -/

/-- The order in which the checks of a write are made (log entry 11). -/
theorem writeCause_of_two_le (h : 2 ≤ s.writeCause r k full) : s.writeCause r k full =
    if full = false ∨ k % 4 ≠ 0 then 3 else if usedPage (pageOf k) = false then 7
    else if linePage (pageOf k) = true ∧ (s.seam.phase = .down ∨ s.seam.phase = .training) then 5 else 4 := by
  unfold State.writeCause at h ⊢
  simp only [Bool.not_eq_true] at h ⊢
  split
  · rfl
  split
  · rfl
  rw [if_neg ‹_›, if_neg ‹_›] at h
  split at h
  · omega
  rw [if_neg ‹_›]
  split
  · rfl
  rw [if_neg ‹_›] at h
  split
  · rfl
  · rw [if_neg ‹_›] at h
    omega

theorem access_refused {op : State → State} (hr : s.reaches r = true) (h : 2 ≤ s.writeCause r k full) :
    s.access r k full op = s.busError r k false (s.writeCause r k full) := by
  unfold State.access
  rw [if_neg (not_not_intro hr)]
  split
  · omega
  · omega
  · rfl

/-! ### A staged write (R43-R45) -/

/-- The group to which the requester's CUR_TAG points. -/
def currentTag (s : State) (r : Req) : BitVec 8 := BitVec.ofNat 8 (s.fld (F.CMT_CUR_TAG_TAG (reqNum r)))

theorem currentTag_ne_zero (h : s.fld (F.CMT_CUR_TAG_TAG (reqNum r)) ≠ 0) : currentTag s r ≠ 0 := by
  have hlt : s.fld (F.CMT_CUR_TAG_TAG (reqNum r)) < 2 ^ 8 := Nat.mod_lt _ (Nat.two_pow_pos 8)
  intro hz
  have := congrArg BitVec.toNat hz
  rw [currentTag, BitVec.toNat_ofNat, Nat.mod_eq_of_lt hlt] at this
  exact h this

/-- The word enters the open group of the requester where no refusal of R44 holds. -/
theorem stage_enters {i : Fin 4} (htag : currentTag s r ≠ 0) (hs : s.slotOf (currentTag s r) = some i)
    (ho : s.cmt.slots[i].st = .opened) (hfree : ∀ j : Fin 4, j ≠ i → (s.cmt.slots[j]).holds k = false)
    (hp : s.powered k = true) (hroot : s.rootBusy k = false)
    (hroom : k ∈ mapKeys s.cmt.slots[i].writes ∨ s.cmt.slots[i].writes.length < 1024) :
    s.stage r k v = s.setSlot i { s.cmt.slots[i] with
      writes := mapIns s.cmt.slots[i].writes k (mergeWrite (fieldsAt k) 0 v) } := by
  have hfound : (if currentTag s r = 0 then none else s.slotOf (currentTag s r)) = some i := (if_neg htag).trans hs
  have hconflict : ¬ (List.finRange 4).any (fun j => decide (j ≠ i) && (s.cmt.slots[j]).holds k) = true := by
    simp only [List.any_eq_true, Bool.and_eq_true, decide_eq_true_eq, not_exists, not_and]
    exact fun j _ hj => ne_true_of_eq_false (hfree j hj)
  have hlimit : ¬ (¬ (mapKeys s.cmt.slots[i].writes).contains k = true ∧ 1024 ≤ s.cmt.slots[i].writes.length) := by
    rw [List.contains_iff_mem]
    exact fun hover => hroom.elim hover.1 (fun h => absurd hover.2 (Nat.not_le.mpr h))
  unfold State.stage
  dsimp only
  rw [show (if BitVec.ofNat 8 (s.fld (F.CMT_CUR_TAG_TAG (reqNum r))) = 0 then none
    else s.slotOf (BitVec.ofNat 8 (s.fld (F.CMT_CUR_TAG_TAG (reqNum r))))) = some i from hfound]
  dsimp only
  rw [if_neg (not_not_intro ho), if_neg hconflict, if_neg (not_not_intro hp), if_neg (ne_true_of_eq_false hroot), if_neg hlimit]

theorem accessStaged_passes (hr : s.reaches r = true) (ha : k % 4 = 0) (hu : usedPage (pageOf k) = true)
    (hw : s.mayWrite r k = true) : s.accessStaged r k true v = (s.reply .done).stage r k v := by
  unfold State.accessStaged
  rw [if_neg (not_not_intro hr), if_neg (by simp [ha]), if_neg (not_not_intro hu), if_neg (not_not_intro hw)]

/-- Settles O14: the access that passes or fails its checks, the register CMT.TIMEOUT as one that a write stores, the staged
write, and the page that is not used. -/
theorem registerWrites : Obligations.RegisterWrites := by
  unfold Obligations.RegisterWrites
  refine ⟨fun r a v s h ht => exec_write_taken h ht, fun r v s ht => ?timeout, fun r a v full s h hr hh hc => ?refused,
    fun r a v i s hst hr ha hu hw ha' hu' htag hs ho hfree hp hroot hroom => ?staged, fun r a high s hu ha hr hh => ?unused⟩
  case timeout =>
    refine ⟨_, exec_write_taken (a := BitVec.ofNat 20 R.CMT_TIMEOUT) (by decide) ht, ?_, ?_, ?_⟩
    all_goals rw [show (BitVec.ofNat 20 R.CMT_TIMEOUT).toNat = R.CMT_TIMEOUT from rfl, performWrite_timeout]
    · exact ((Frame.refl _ _ s).reply _ (by simp)).store _ _ (by simp)
    · rfl
    · exact State.fld_store_plain (s.reply .done) F.CMT_TIMEOUT_PREP_TO v (by decide)
  case refused =>
    exact ⟨_, congrArg Host.Outcome.next ((writeReg_plain h).trans (access_refused hr hc)), State.busError_host_frame hh _ _ _ _,
      State.busError_host_write hh _ _ _, writeCause_of_two_le hc⟩
  case staged =>
    have hstage := (accessStaged_passes (v := v) hr ha' hu' hw).trans
      (stage_enters (s := s.reply .done) (currentTag_ne_zero htag) hs ho hfree hp hroot hroom)
    refine ⟨_, (if_pos hst).trans (congrArg Host.Outcome.next hstage), congrArg Host.Outcome.next ((if_pos hst).trans hstage),
      ?_, rfl, rfl⟩
    exact State.setSlot_keeps _ _ (by decide) (State.reply_keeps _ (by decide) (SameBut.refl _ s))
  case unused =>
    refine ⟨s.busError r a.toNat false 7, ?_, State.busError_host_frame hh _ _ _ _, State.busError_host_write hh _ _ _⟩
    refine (if_neg (by simp [hu, ha])).trans ((if_neg (not_not_intro hr)).trans (if_neg (by simp)))

end Sys2Proof.Proofs.RegisterAccess
end

section
/-! PROOF. The shelf bus (O15, O45): one lemma for each kind of cycle, and what a cycle leaves of the half that is held. -/

namespace Sys2Proof.Proofs.Shelf

open Sys2Proof Sys2Proof.Machine

variable {s : State} {slot : BitVec 7} {ofs : BitVec 10} {a : Nat} {d lo : BitVec 16}

/-! ### Cycles of a slot and of the bank slot (R641, R642) -/

theorem shelf_reached {f : State → State} (h : s.reaches .shelf = true) : s.shelf f = f s := if_pos h

theorem exec_readLow (h : s.reaches .shelf = true) (hs : slot ≠ 127) :
    exec (.shelfReadLow slot ofs) s = .next (s.shelfLow (s.shelfAddr slot ofs)) :=
  congrArg Host.Outcome.next ((shelf_reached h).trans (if_neg hs))

theorem exec_readHigh (h : s.reaches .shelf = true) (hs : slot ≠ 127) :
    exec (.shelfReadHigh slot ofs) s = .next (s.shelfHigh (s.shelfAddr slot ofs)) :=
  congrArg Host.Outcome.next ((shelf_reached h).trans (if_neg hs))

/-- The low half is held. -/
def heldLow (s : State) (a : Nat) (d : BitVec 16) : State := (s.setHif (fun h => { h with holder := some (a, d) })).reply .done

theorem exec_writeLow (h : s.reaches .shelf = true) (hs : slot ≠ 127) :
    exec (.shelfWriteLow slot ofs d) s = .next (heldLow s (s.shelfAddr slot ofs) d) :=
  congrArg Host.Outcome.next ((shelf_reached h).trans (if_neg hs))

theorem exec_writeHigh (h : s.reaches .shelf = true) (hs : slot ≠ 127) :
    exec (.shelfWriteHigh slot ofs d) s = .next (s.shelfWrite (s.shelfAddr slot ofs) d) :=
  congrArg Host.Outcome.next ((shelf_reached h).trans (if_neg hs))

theorem exec_bankRead (h : s.reaches .shelf = true) : exec (.bankSlotRead ofs) s = .next (s.bankRead ofs) ∧
    exec (.shelfReadLow 127 ofs) s = .next (s.bankRead ofs) ∧ exec (.shelfReadHigh 127 ofs) s = .next (s.bankRead ofs) :=
  ⟨congrArg _ (shelf_reached h), congrArg _ (shelf_reached h), congrArg _ (shelf_reached h)⟩

theorem exec_bankWrite (h : s.reaches .shelf = true) (d : BitVec 16) : exec (.bankSlotWrite ofs d) s = .next (s.bankWrite ofs) ∧
    exec (.shelfWriteLow 127 ofs d) s = .next (s.bankWrite ofs) ∧ exec (.shelfWriteHigh 127 ofs d) s = .next (s.bankWrite ofs) :=
  ⟨congrArg _ (shelf_reached h), congrArg _ (shelf_reached h), congrArg _ (shelf_reached h)⟩

/-! ### Half words -/

theorem half_word (h : BitVec 16) : half h.toNat = .data (h.setWidth 32) := by
  unfold half
  rw [Nat.mod_eq_of_lt h.isLt]
  exact congrArg Resp.data (BitVec.eq_of_toNat_eq (by simp))

theorem half_bit (b : Bool) : half (b2n b) = .data (if b then 1 else 0) := by cases b <;> rfl

/-! ### Reads (R31, R32, R645) -/

/-- The mirror marks PAGE_STAT of a line page as stale while the Seam is down. -/
theorem mirrorShown_eq (s : State) (a : Nat) : s.mirrorShown a =
    if linePage (pageOf a) = true ∧ ofsOf a = 0x00C ∧ (s.seam.phase = .down ∨ s.seam.phase = .training)
    then s.mirrorWord a ||| 2 else s.mirrorWord a := by
  simp only [State.mirrorShown, State.seamIsDown, Bool.or_eq_true, decide_eq_true_eq]

/-- A low-half read without a read effect latches the high half of what it shows. -/
theorem shelfLow_plain (hu : usedPage (pageOf a) = true) (he : hasReadEffect a = false) : s.shelfLow a =
    (s.setHif (fun h => { h with latch := some (a, BitVec.ofNat 16 ((s.mirrorShown a).toNat / 2 ^ 16)) })).reply
      (half (s.mirrorShown a).toNat) := by
  have heffect : s.shelfEffect a = s := if_pos (.inl (ne_true_of_eq_false he))
  unfold State.shelfLow
  rw [heffect, if_pos hu]

theorem shelfHigh_latched {h : BitVec 16} (hu : usedPage (pageOf a) = true) (hl : s.hif.latch = some (a, h)) :
    s.shelfHigh a = s.reply (half h.toNat) := by
  unfold State.shelfHigh
  rw [hl]
  dsimp only
  rw [if_pos ⟨rfl, hu⟩]

theorem shelfHigh_unlatched (hu : usedPage (pageOf a) = true) (hl : ∀ h, s.hif.latch ≠ some (a, h)) :
    s.shelfHigh a = s.reply (half ((s.mirrorShown a).toNat / 2 ^ 16)) := by
  unfold State.shelfHigh
  cases hlatch : s.hif.latch with
  | none => rw [if_pos hu]
  | some p =>
    obtain ⟨b, h⟩ := p
    have hb : b ≠ a := fun e => hl h (e ▸ hlatch)
    dsimp only
    rw [if_neg (fun x => hb x.1), if_pos hu]

/-! ### Writes (R33, R34, R646) -/

/-- The held half is used up. -/
def dropHalf (s : State) : State := s.setHif (fun h => { h with holder := none })

theorem shelfWrite_completes (hh : s.hif.holder = some (a, lo)) (hl : s.hif.wbuf.length < 32) :
    s.shelfWrite a d = ((dropHalf s).setHif (fun h => { h with wbuf := h.wbuf ++ [(a, d ++ lo)] })).reply .done := by
  unfold State.shelfWrite
  rw [hh]
  dsimp only
  rw [if_pos rfl]
  exact if_pos hl

theorem shelfWrite_full (hh : s.hif.holder = some (a, lo)) (hl : 32 ≤ s.hif.wbuf.length) :
    s.shelfWrite a d = (((dropHalf s).bump R.HIF_CNT_SB_WOVF).fire P.HIF E.HIF_SB_WOVF).busError .shelf a false 6 := by
  unfold State.shelfWrite
  rw [hh]
  dsimp only
  rw [if_pos rfl]
  exact if_neg (Nat.not_lt.mpr hl)

theorem shelfWrite_mismatch (hh : ∀ lo, s.hif.holder ≠ some (a, lo)) :
    s.shelfWrite a d = ((dropHalf s).fire P.HIF E.HIF_HALF_MISMATCH).busError .shelf a false 6 := by
  unfold State.shelfWrite
  cases hheld : s.hif.holder with
  | none => rfl
  | some p =>
    obtain ⟨b, lo⟩ := p
    have hb : b ≠ a := fun e => hh lo (e ▸ hheld)
    dsimp only
    rw [if_neg hb]
    rfl

theorem Raised_wr {p b k : Nat} (h : Raised s p b) (w : Word) (hk : R.HDR_EVT_RAW p ≠ k) : Raised (s.wr k w) p b := by
  unfold Raised at *
  rw [State.rd_wr_ne _ _ hk]
  exact h

theorem Raised_bump {p b k : Nat} (h : Raised s p b) (hk : R.HDR_EVT_RAW p ≠ k) : Raised (s.bump k) p b := Raised_wr h _ hk

theorem Raised_reply {p b : Nat} (h : Raised s p b) (x : Resp) : Raised (s.reply x) p b := h

/-- A source of page HIF that has fired stays raised through a bus error of the shelf bus. -/
theorem raised_busErrorShelf {b : Nat} (h : Raised s P.HIF b) (k : Nat) (rd : Bool) (c : Nat) :
    Raised (s.busError .shelf k rd c) P.HIF b := by
  unfold State.busError
  dsimp only
  exact Raised_reply (Raised_fire (Raised_wr (Raised_bump h (by decide)) _ (by decide)) P.HIF (by decide)) _

theorem busErrorShelf_hif (s : State) (k : Nat) (rd : Bool) (c : Nat) :
    (s.busError .shelf k rd c).hif.holder = s.hif.holder ∧ (s.busError .shelf k rd c).hif.wbuf = s.hif.wbuf := by
  unfold State.busError
  dsimp only
  rw [State.reply_hif, State.fire_hif_holder, State.fire_hif_wbuf, State.wr_hif, State.bump_hif]
  exact ⟨rfl, rfl⟩

/-- SHELF_WRITE_EFFECT takes the oldest write out of the buffer. -/
theorem exec_writeEffect {v : Word} {rest : List (Nat × Word)} (h : s.hif.wbuf = (a, v) :: rest) :
    exec .shelfWriteEffect s = .next ((s.setHif (fun h => { h with wbuf := rest })).writeReg .shelf a v true) := by
  show execShelfWriteEffect s = _
  unfold execShelfWriteEffect
  rw [h]

/-! ### The half that is held (R33, R35) -/

theorem shelfEffect_hif (s : State) (a : Nat) : ∃ e, (s.shelfEffect a).hif = { s.hif with early := e } := by
  have hread : (s.readEffect a).hif = s.hif := State.readEffect_keeps a (List.Subset.refl _) (SameBut.refl _ s) .hif (by decide)
  unfold State.shelfEffect
  dsimp only
  split
  · exact ⟨_, rfl⟩
  split
  · exact ⟨_, rfl⟩
  split
  · refine ⟨_, congrArg (fun h : Hif => { h with early := h.early ++ [a] }) hread⟩
  · exact ⟨_, rfl⟩

theorem shelfLow_holder (s : State) (a : Nat) : (s.shelfLow a).hif.holder = s.hif.holder := by
  obtain ⟨_, he⟩ := shelfEffect_hif s a
  show (s.shelfEffect a).hif.holder = s.hif.holder
  rw [he]

theorem shelfHigh_holder (s : State) (a : Nat) : (s.shelfHigh a).hif.holder = s.hif.holder := rfl

theorem bankRead_holder (s : State) (ofs : BitVec 10) : (s.bankRead ofs).hif.holder = s.hif.holder := rfl

/-- A cycle leaves the held half alone where the cycle that the bus carries out does. -/
theorem shelf_holder {f : State → State} (h : (f s).hif.holder = s.hif.holder) : (s.shelf f).hif.holder = s.hif.holder := by
  unfold State.shelf
  split
  · exact h
  · rfl

/-- A read of a page that is not used, by either half. -/
theorem exec_unusedRead {x : Addr} (high : Bool) (hu : usedPage (pageOf x.toNat) = false) (ha : x.toNat % 4 = 0) :
    exec (.unusedPageAccess .shelf true x high) s =
      .next (if s.reaches .shelf then if high then s.shelfHigh x.toNat else s.shelfLow x.toNat else s.reply .ignored) := by
  refine (if_neg (by simp [hu, ha])).trans ?_
  by_cases hr : s.reaches .shelf = true
  · rw [if_neg (not_not_intro hr), if_pos hr]
    rfl
  · rw [if_pos hr, if_neg hr]

theorem unusedRead_holder (s : State) (high : Bool) (a : Nat) :
    (if s.reaches .shelf then if high then s.shelfHigh a else s.shelfLow a else s.reply .ignored).hif.holder = s.hif.holder := by
  split
  · cases high
    · exact shelfLow_holder s a
    · exact shelfHigh_holder s a
  · rfl

/-! ### The obligations -/

theorem heldLow_keeps (s : State) (a : Nat) (d : BitVec 16) : SameBut [.hif, .resp] s (heldLow s a d) :=
  State.reply_keeps _ (by decide) (State.setHif_keeps _ (by decide) (SameBut.refl _ s))

theorem completed_keeps (s : State) (w : Nat × Word) :
    SameBut [.hif, .resp] s (((dropHalf s).setHif (fun h => { h with wbuf := h.wbuf ++ [w] })).reply .done) :=
  State.reply_keeps _ (by decide) (State.setHif_keeps _ (by decide) (State.setHif_keeps _ (by decide) (SameBut.refl _ s)))

theorem bankRead_keeps (s : State) (ofs : BitVec 10) : SameBut [.hif, .resp] s (s.bankRead ofs) :=
  State.bankRead_keeps ofs (List.Subset.refl _) (SameBut.refl _ s)

/-- Page HIF has power where its domain is on. -/
theorem fire_hif_raised {b : Nat} (h : s.domOn 33 = true) (hb : b < 32) : Raised (s.fire P.HIF b) P.HIF b := State.fire_raised h hb

/-- Settles O15: each cycle by its lemma; a mismatch fires HALF_MISMATCH before the bus error is recorded. -/
theorem shelfBusCycles : Obligations.ShelfBusCycles := by
  unfold Obligations.ShelfBusCycles
  refine ⟨fun slot ofs s h hs hu he => ?low, fun a s => mirrorShown_eq s a, fun slot ofs x s h hs hu hl => ?latched,
    fun slot ofs s h hs hu hl => ?unlatched, fun slot ofs d s h hs => ?held, fun slot ofs lo d s h hs hh hl => ?completes,
    fun slot ofs d s h hs hh => ?mismatch, fun ofs s h => ?bank, fun ofs d s h => ?refused, fun a v rest s h => ?effect⟩
  case low =>
    refine ⟨_, (exec_readLow h hs).trans (congrArg Host.Outcome.next (shelfLow_plain hu he)), ?_, rfl, rfl⟩
    exact State.reply_keeps _ (by decide) (State.setHif_keeps _ (by decide) (SameBut.refl _ s))
  case latched =>
    exact ⟨_, (exec_readHigh h hs).trans (congrArg Host.Outcome.next (shelfHigh_latched hu hl)),
      State.reply_keeps _ (by decide) (SameBut.refl _ s), half_word x⟩
  case unlatched =>
    exact ⟨_, (exec_readHigh h hs).trans (congrArg Host.Outcome.next (shelfHigh_unlatched hu hl)),
      State.reply_keeps _ (by decide) (SameBut.refl _ s), rfl⟩
  case held => exact ⟨_, exec_writeLow h hs, heldLow_keeps s _ d, rfl, rfl⟩
  case completes =>
    exact ⟨_, (exec_writeHigh h hs).trans (congrArg Host.Outcome.next (shelfWrite_completes hh hl)), completed_keeps s _, rfl, rfl⟩
  case mismatch =>
    obtain ⟨hheld, hbuf⟩ := busErrorShelf_hif ((dropHalf s).fire P.HIF E.HIF_HALF_MISMATCH) (s.shelfAddr slot ofs) false 6
    refine ⟨_, (exec_writeHigh h hs).trans (congrArg Host.Outcome.next (shelfWrite_mismatch hh)), ?_, rfl,
      hheld.trans (State.fire_hif_holder _ _ _), hbuf.trans (State.fire_hif_wbuf _ _ _), ?_, fun hd => ?_⟩
    · exact (((FrameEv.refl _ _ s).setHif _).andFire _ _).busErrorShelf _ _ _ (by simp) (by simp) (by simp)
    · rw [State.busError_shelf_counts, State.fire_rd _ _ _ (by decide)]
      rfl
    · exact raised_busErrorShelf (fire_hif_raised (s := dropHalf s) hd (by decide)) _ _ _
  case bank =>
    obtain ⟨hread, hlow, hhigh⟩ := exec_bankRead (ofs := ofs) h
    exact ⟨_, hread, hlow, hhigh, bankRead_keeps s ofs, rfl, half_bit _⟩
  case refused =>
    obtain ⟨hwrite, hlow, hhigh⟩ := exec_bankWrite (ofs := ofs) h d
    exact ⟨_, hwrite, hlow, hhigh, (FrameEv.refl _ _ s).busErrorShelf _ _ _ (by simp) (by simp) (by simp), rfl,
      State.busError_shelf_counts _ _ _ _⟩
  case effect => exact ⟨_, exec_writeEffect h, State.setHif_keeps _ (by decide) (SameBut.refl _ s), rfl⟩

/-- Settles O45: the reads by what they leave of the held half, the writes by the cases of the high half; what has entered an
empty buffer is the oldest write of it. -/
theorem shelfHalfWrites : Obligations.ShelfHalfWrites := by
  unfold Obligations.ShelfHalfWrites
  refine ⟨fun slot ofs lo s h hs => ⟨_, exec_writeLow h hs, heldLow_keeps s _ lo, rfl, rfl⟩, fun slot ofs a high s => ?reads,
    fun slot ofs lo hi s h hs hh hl => ?completes, fun a w rest s h => ?effect, fun slot ofs lo hi s h hs hh hl => ?full⟩
  case reads =>
    refine ⟨⟨_, rfl, shelf_holder ?_⟩, ⟨_, rfl, shelf_holder ?_⟩, ⟨_, rfl, shelf_holder (bankRead_holder s ofs)⟩,
      fun hu ha => ⟨_, exec_unusedRead high hu ha, unusedRead_holder s high _⟩⟩
    · split
      · exact bankRead_holder s ofs
      · exact shelfLow_holder s _
    · split
      · exact bankRead_holder s ofs
      · exact shelfHigh_holder s _
  case completes =>
    refine ⟨_, (exec_writeHigh h hs).trans (congrArg Host.Outcome.next (shelfWrite_completes hh hl)), completed_keeps s _, rfl, rfl,
      fun hempty => ⟨_, exec_writeEffect (rest := []) ?_, State.setHif_keeps _ (by decide) (completed_keeps s _), ?_⟩⟩
    · exact congrArg (· ++ [(s.shelfAddr slot ofs, hi ++ lo)]) hempty
    · exact congrArg (fun w => { s.hif with holder := none, wbuf := w }) hempty.symm
  case effect => exact ⟨_, exec_writeEffect h, State.setHif_keeps _ (by decide) (SameBut.refl _ s), rfl⟩
  case full =>
    obtain ⟨hheld, hbuf⟩ := busErrorShelf_hif (((dropHalf s).bump R.HIF_CNT_SB_WOVF).fire P.HIF E.HIF_SB_WOVF) (s.shelfAddr slot ofs)
      false 6
    refine ⟨_, (exec_writeHigh h hs).trans (congrArg Host.Outcome.next (shelfWrite_full hh hl)), ?_, rfl,
      hheld.trans (State.fire_hif_holder _ _ _), hbuf.trans (State.fire_hif_wbuf _ _ _), ?_, fun hd => ?_⟩
    · exact ((((FrameEv.refl _ _ s).setHif _).bump _ (by simp)).andFire _ _).busErrorShelf _ _ _ (by simp) (by simp) (by simp)
    · rw [State.busError_rd _ _ _ _ _ (by decide) (by decide), State.fire_rd _ _ _ (by decide), State.rd_bump_self]
      rfl
    · exact raised_busErrorShelf (fire_hif_raised (s := (dropHalf s).bump _) hd (by decide)) _ _ _

end Sys2Proof.Proofs.Shelf
end

section
/-! PROOF. Counters, masks and the mirror of a page (O17). -/

namespace Sys2Proof.Proofs.PageControl

open Sys2Proof Sys2Proof.Machine

variable {s : State} {r : Req} {p k : Nat} {v : Word}

/-! ### The registers of the common header (R38) -/

theorem pageOf_header (page : BitVec 8) {o : Nat} (ho : o < 0x1000) : pageOf (page.toNat * 0x1000 + o) = page.toNat := by
  have := page.isLt
  unfold pageOf
  omega

/-- A page's own registers follow the common header. -/
theorem bodyOf_past_header (page : BitVec 8) : (bodyOf page.toNat).all (fun r => Nat.ble 0x40 r.ofs) = true :=
  (by decide +kernel : ∀ p : Fin 256, (bodyOf p.val).all (fun r => Nat.ble 0x40 r.ofs) = true) ⟨_, page.isLt⟩

theorem fieldsAt_header {page : BitVec 8} (hu : usedPage page.toNat = true) {o : Nat} (ho : o < 0x40) :
    fieldsAt (page.toNat * 0x1000 + o) = layoutHDR.filter (·.covers o) := by
  have hofs : ofsOf (page.toNat * 0x1000 + o) = o := by
    unfold ofsOf
    omega
  have hbody : ∀ x ∈ bodyOf page.toNat, x.covers o = false := fun x hx => by
    have hpast : 0x40 ≤ x.ofs := Nat.le_of_ble_eq_true (List.all_eq_true.1 (bodyOf_past_header page) x hx)
    unfold FieldRow.covers
    rw [decide_eq_false (by omega), Bool.false_and, Bool.false_and]
  unfold fieldsAt layoutOf
  rw [pageOf_header page (by omega), hofs, if_pos hu, List.filter_append, List.filter_filter]
  refine (congrArg _ (List.filter_eq_nil_iff.2 fun x hx => ?_)).trans (List.append_nil _)
  simp [hbody x hx]

/-- The common header is the same in every used page. -/
theorem fieldsAt_header_zero {page : BitVec 8} (hu : usedPage page.toNat = true) {o : Nat} (ho : o < 0x40) :
    fieldsAt (page.toNat * 0x1000 + o) = fieldsAt ((0 : BitVec 8).toNat * 0x1000 + o) :=
  (fieldsAt_header hu ho).trans (fieldsAt_header (page := 0) (by decide) ho).symm

theorem plainField_header {page : BitVec 8} (hu : usedPage page.toNat = true) {o : Nat} (ho : o < 0x40) (lo w : Nat) :
    plainField ⟨page.toNat * 0x1000 + o, lo, w⟩ = plainField ⟨(0 : BitVec 8).toNat * 0x1000 + o, lo, w⟩ := by
  unfold plainField
  rw [fieldsAt_header_zero hu ho]

theorem pageCtl_plain (page : BitVec 8) (hu : usedPage page.toNat = true) :
    plainField (F.HDR_PAGE_CTL_EVT_OUT page.toNat) = true ∧ plainField (F.HDR_PAGE_CTL_CNT_HOLD page.toNat) = true :=
  ⟨(plainField_header hu (by decide) 0 1).trans (by decide +kernel), (plainField_header hu (by decide) 1 1).trans (by decide +kernel)⟩

theorem evtMask_plain (page : BitVec 8) (hu : usedPage page.toNat = true) : plainField (F.HDR_EVT_MASK_SRC page.toNat) = true :=
  (plainField_header hu (by decide) 0 16).trans (by decide +kernel)

/-- PAGE_CTL holds no counter. -/
theorem pageCtl_not_counter {page : BitVec 8} (hu : usedPage page.toNat = true) : isCounter (R.HDR_PAGE_CTL page.toNat) = false := by
  unfold isCounter
  rw [fieldsAt_header_zero hu (by decide)]
  decide +kernel

theorem usedPage_of_taken {page : BitVec 8} {o : Nat} (ho : o < 0x1000) (h : Taken s r (page.toNat * 0x1000 + o)) :
    usedPage page.toNat = true := by
  have hused := (Taken_checks h).1
  rwa [pageOf_header page ho] at hused

/-- A bit that the second word does not set is as in the first. -/
theorem getLsbD_or_false {x : Word} {b : Nat} (hv : v.getLsbD b = false) (hx : x.getLsbD b = false) : (v ||| x).getLsbD b = false := by
  rw [BitVec.getLsbD_or, hv, hx, Bool.or_false]

theorem getLsbD_or_true (v : Word) {x : Word} {b : Nat} (hx : x.getLsbD b = true) : (v ||| x).getLsbD b = true := by
  rw [BitVec.getLsbD_or, hx, Bool.or_true]

/-! ### What PAGE_CTL does with the counters of its page -/

/-- A counter that is cleared reads its reset value; any other register reads as before. -/
theorem clearCounters_rd (s : State) (p k : Nat) :
    (s.clearCounters p).rd k = if pageOf k = p ∧ isCounter k = true then resetWord k else s.rd k := by
  have hregs : (s.clearCounters p).regs = mapFilter (fun k => !(decide (pageOf k = p) && isCounter k)) s.regs := by
    unfold State.clearCounters
    split <;> rfl
  unfold State.rd
  rw [hregs, mapGet_mapFilter]
  by_cases h : pageOf k = p ∧ isCounter k = true
  · rw [if_pos h, if_neg (by simp [h.1, h.2])]
  · rw [if_neg h, if_pos (by simpa [Decidable.or_iff_not_imp_left] using h)]

theorem releaseCounters_regs (s : State) (p : Nat) : (s.releaseCounters p).regs = s.regs := by
  unfold State.releaseCounters
  split <;> rfl

theorem holdCounters_regs (s : State) (p : Nat) : (s.holdCounters p).regs = s.regs := by
  unfold State.holdCounters
  split <;> rfl

/-- Entries put on top of a map are found first. -/
theorem mapGet_foldr_mapIns {α : Type} (d : α) (m o : SMap α) (k : Nat) :
    mapGet d (m.foldr (fun e m => mapIns m e.1 e.2) o) k = mapGet (mapGet d o k) m k := by
  induction m with
  | nil => rfl
  | cons e m ih =>
    rw [List.foldr_cons, mapGet_mapIns, ih]
    rfl

/-- What a counter shows while it is held is what it held when the hold began. -/
theorem holdCounters_shown (s : State) (hp : pageOf k = p) (hc : isCounter k = true) :
    mapGet (resetWord k) (s.holdCounters p).shown k = s.rd k := by
  have hshown : (s.holdCounters p).shown =
      (mapFilter (fun k => decide (pageOf k = p) && isCounter k) s.regs).foldr (fun e m => mapIns m e.1 e.2)
        (mapFilter (fun k => decide (pageOf k ≠ p)) s.shown) := by
    unfold State.holdCounters
    split <;> rfl
  rw [hshown, mapGet_foldr_mapIns, mapGet_mapFilter, mapGet_mapFilter, if_pos (by simp [hp, hc]), if_neg (by simp [hp])]
  rfl

/-! ### The cases of a write of PAGE_CTL -/

theorem opPageCtl_clear (h0 : v.getLsbD 0 = false) (h1 : v.getLsbD 1 = false) (h2 : v.getLsbD 2 = true) :
    s.opPageCtl p v = ((s.store (R.HDR_PAGE_CTL p) v).clearCounters p).releaseCounters p := by
  unfold State.opPageCtl
  simp only [h0, h1, h2, if_true, if_false, Bool.false_eq_true, false_and]

theorem opPageCtl_hold (h0 : v.getLsbD 0 = false) (h1 : v.getLsbD 1 = true) (h2 : v.getLsbD 2 = false)
    (hs : s.bit (F.HDR_PAGE_CTL_CNT_HOLD p) = false) :
    s.opPageCtl p v = (s.store (R.HDR_PAGE_CTL p) v).holdCounters p := by
  unfold State.opPageCtl
  simp only [h0, h1, h2, hs, if_true, if_false, Bool.false_eq_true, false_and]

theorem opPageCtl_held (h0 : v.getLsbD 0 = false) (h1 : v.getLsbD 1 = true) (h2 : v.getLsbD 2 = false)
    (hs : s.bit (F.HDR_PAGE_CTL_CNT_HOLD p) = true) : s.opPageCtl p v = s.store (R.HDR_PAGE_CTL p) v := by
  unfold State.opPageCtl
  simp only [h0, h1, h2, hs, if_true, if_false, Bool.false_eq_true, false_and]

theorem opPageCtl_evtOut (h0 : v.getLsbD 0 = true) (h1 : v.getLsbD 1 = false) (h2 : v.getLsbD 2 = false)
    (hs : s.bit (F.HDR_PAGE_CTL_EVT_OUT p) = false) :
    s.opPageCtl p v = ((s.store (R.HDR_PAGE_CTL p) v).releaseCounters p).risePending p := by
  unfold State.opPageCtl
  simp only [h0, h1, h2, hs, if_true, if_false, Bool.false_eq_true, not_false_eq_true, and_self]

theorem holdCounters_frame (s : State) (p : Nat) (ks : List Nat) : Frame [.shown, .rcntHeld, .resp] ks s (s.holdCounters p) :=
  (Frame.refl _ _ s).upd (State.holdCounters_keeps p (List.Subset.refl _) (SameBut.refl _ s)) (by decide) (holdCounters_regs s p)

theorem releaseCounters_frame (s : State) (p : Nat) (ks : List Nat) :
    Frame [.shown, .rcntHeld, .resp] ks s (s.releaseCounters p) :=
  (Frame.refl _ _ s).upd (State.releaseCounters_keeps p (List.Subset.refl _) (SameBut.refl _ s)) (by decide)
    (releaseCounters_regs s p)

/-! ### A write of EVT_MASK (R568) -/

theorem opEvtMask_frame (s : State) (p : Nat) (v : Word) (ps : List Part) :
    FrameEv ps [R.HDR_EVT_MASK p] s (s.opEvtMask p v) := by
  unfold State.opEvtMask
  exact ((FrameEv.refl _ _ s).store _ _ (by simp)).trans
    (FrameEv.foldl (fun t b => FrameEv.ite (FrameEv.pendingRise _ _ t p b) (FrameEv.refl _ _ t)) _ _)

theorem evtMask_not_delivery (p : Nat) : deliveryReg (R.HDR_EVT_MASK p) = false := by
  have hofs : ofsOf (R.HDR_EVT_MASK p) = 0x014 := by unfold ofsOf; simp only [R.HDR_EVT_MASK]; omega
  have hne : ∀ k, ofsOf k ≠ 0x014 → R.HDR_EVT_MASK p ≠ k := fun k hk e => hk (e ▸ hofs)
  simp only [deliveryReg, Bool.or_eq_false_iff, decide_eq_false_iff_not]
  exact ⟨⟨hne _ (by decide), hne _ (by decide)⟩, hne _ (by decide)⟩

/-- The pending rises that a cleared mask bit makes leave the stored mask alone. -/
theorem opEvtMask_rd (s : State) (p : Nat) (v : Word) :
    (s.opEvtMask p v).rd (R.HDR_EVT_MASK p) = (s.store (R.HDR_EVT_MASK p) v).rd (R.HDR_EVT_MASK p) := by
  unfold State.opEvtMask
  dsimp only
  generalize s.store (R.HDR_EVT_MASK p) v = t
  induction List.range (evNum p) generalizing t with
  | nil => rfl
  | cons b bs ih =>
    rw [List.foldl_cons, ih]
    split
    · exact State.pendingRise_rd t p b (evtMask_not_delivery p)
    · rfl

/-- The mask bits of a used page take what is written. -/
theorem evtMask_bits (s : State) {page : BitVec 8} (hu : usedPage page.toNat = true) (v : Word) {b : Nat} (hb : b < 16) :
    ((s.store (R.HDR_EVT_MASK page.toNat) v).rd (R.HDR_EVT_MASK page.toNat)).getLsbD b = v.getLsbD b := by
  have hfld := congrArg (Nat.testBit · b) (State.fld_store_plain s (F.HDR_EVT_MASK_SRC page.toNat) v (evtMask_plain page hu))
  simpa only [State.fld, getField_testBit, hb, decide_true, Bool.true_and, Nat.zero_add] using hfld

/-! ### The mirror takes a page (R644) -/

section

variable (s : State) (m : SMap Word)

/-- The same state with another mirror. -/
def withMirror (s : State) (m : SMap Word) : State := { s with mirror := m }

theorem asOff_withMirror : (withMirror s m).asOff = withMirror s.asOff m := by
  unfold withMirror State.asOff
  cases hd : s.dark <;> simp only [hd]

theorem computed_withMirror (r : Req) (p o : Nat) : computed (withMirror s m) r p o = computed s r p o := rfl

theorem powered_withMirror (a : Nat) : (withMirror s m).powered a = s.powered a := rfl

theorem readHDR_withMirror (p o : Nat) : readHDR (withMirror s m) p o = readHDR s p o := rfl

theorem shownWord_withMirror (k : Nat) : (withMirror s m).shownWord k = s.shownWord k := rfl

theorem resolve_withMirror (r : Req) (a : Nat) : (withMirror s m).resolve r a = s.resolve r a := rfl

/-- What the registers read as does not depend on the mirror. -/
theorem readWord_withMirror (r : Req) (a : Nat) : (withMirror s m).readWord r a = s.readWord r a := by
  have hsource : computed (if (withMirror s m).powered a then withMirror s m else (withMirror s m).asOff) r (pageOf a) (ofsOf a) =
      computed (if s.powered a then s else s.asOff) r (pageOf a) (ofsOf a) := by
    rw [powered_withMirror, asOff_withMirror]
    split
    · exact computed_withMirror s m r _ _
    · exact computed_withMirror s.asOff m r _ _
  unfold State.readWord
  dsimp only
  rw [hsource, readHDR_withMirror, resolve_withMirror, shownWord_withMirror]

end

theorem mirrorReg_whole (s : State) (a b : Nat) :
    (s.mirrorReg true a).mirrorWord b = if b = a then s.readWord .shelf a else s.mirrorWord b := by
  unfold State.mirrorReg State.mirrorWord
  by_cases h : b = a
  · subst h
    rw [if_pos rfl]
    exact mapGet_mapPut_self _ _ _ _
  · rw [if_neg h]
    exact mapGet_mapPut_apart _ _ _ _ h

theorem mirrorReg_readWord (s : State) (whole : Bool) (a : Nat) (r : Req) (b : Nat) :
    (s.mirrorReg whole a).readWord r b = s.readWord r b := by
  unfold State.mirrorReg
  exact readWord_withMirror s _ r b

/-- After the mirror has taken a list of registers, it holds the word of each of them. -/
theorem mirrorReg_foldl (s t : State) (l : List Nat) (a : Nat) (hread : ∀ b, t.readWord .shelf b = s.readWord .shelf b)
    (h : a ∈ l ∨ t.mirrorWord a = s.readWord .shelf a) :
    (l.foldl (fun (t : State) a => t.mirrorReg true a) t).mirrorWord a = s.readWord .shelf a := by
  induction l generalizing t with
  | nil => exact h.resolve_left List.not_mem_nil
  | cons b l ih =>
    rw [List.foldl_cons]
    refine ih _ (fun x => (mirrorReg_readWord t true b .shelf x).trans (hread x)) ?_
    rw [mirrorReg_whole]
    by_cases hb : a = b
    · rw [if_pos hb, hread, hb]
      exact .inr rfl
    · rw [if_neg hb]
      exact h.imp_left (fun hm => (List.mem_cons.1 hm).resolve_left hb)

/-- The registers of a page that the mirror takes in one step. -/
theorem mirrorPage_word (s : State) {p a : Nat} (h : a ∈ regsOf p) : (s.mirrorPage p true).mirrorWord a = s.readWord .shelf a := by
  have hall : (s.mirrorPage p true).mirror = ((regsOf p).foldl (fun (t : State) a => t.mirrorReg true a) s).mirror := by
    unfold State.mirrorPage
    simp only [Bool.not_true, Bool.and_false, Bool.false_eq_true, if_false]
    rfl
  unfold State.mirrorWord
  rw [hall]
  exact mirrorReg_foldl s s (regsOf p) a (fun _ => rfl) (.inl h)

theorem mirrorPage_hif (s : State) (p : Nat) (whole : Bool) : (s.mirrorPage p whole).hif = { s.hif with
    mirPend := if whole then s.hif.mirPend.filter (fun q => decide (q ≠ p)) else s.hif.mirPend
    early := s.hif.early.filter (fun a => decide (pageOf a ≠ p)) } := by
  have hfold : ∀ (l : List Nat) (t : State), (l.foldl (fun (t : State) a => t.mirrorReg whole a) t).hif = t.hif := by
    intro l t
    exact SameBut.foldl (fun _ a => State.mirrorReg_keeps whole a (List.Subset.refl _)) (SameBut.refl [.mirror] t) .hif (by decide)
  exact congrArg (fun h : Hif => { h with mirPend := if whole then h.mirPend.filter (fun q => decide (q ≠ p)) else h.mirPend
                                          early := h.early.filter (fun a => decide (pageOf a ≠ p)) }) (hfold _ _)

/-! ### The commands -/

theorem exec_cntClr {page : BitVec 8} (h : Taken s r (R.HDR_PAGE_CTL page.toNat)) :
    exec (.cntClr r page v) s = .next ((s.reply .done).opPageCtl page.toNat (v ||| 4)) :=
  congrArg Host.Outcome.next (Taken_access h)

theorem exec_cntHold {page : BitVec 8} (h : Taken s r (R.HDR_PAGE_CTL page.toNat)) :
    exec (.cntHold r page v) s = .next ((s.reply .done).opPageCtl page.toNat v) :=
  congrArg Host.Outcome.next (Taken_access h)

theorem exec_evtOutSet {page : BitVec 8} (h : Taken s r (R.HDR_PAGE_CTL page.toNat)) :
    exec (.evtOutSet r page v) s = .next ((s.reply .done).opPageCtl page.toNat (v ||| 1)) :=
  congrArg Host.Outcome.next (Taken_access h)

theorem exec_evtMaskWrite {page : BitVec 8} (bits : BitVec 16) (h : Taken s r (R.HDR_EVT_MASK page.toNat)) :
    exec (.evtMaskWrite r page bits) s = .next ((s.reply .done).opEvtMask page.toNat (bits.setWidth 32)) :=
  congrArg Host.Outcome.next (Taken_access h)

theorem exec_mirrorUpdate {page : BitVec 8} (whole : Bool) (hu : usedPage page.toNat = true) (hd : s.domOn 31 = true)
    (hl : linePage page.toNat = true → s.seam.phase = .up) :
    exec (.mirrorUpdate page whole) s = .next (s.mirrorPage page.toNat whole) :=
  congrArg Host.Outcome.next (if_pos ⟨hu, hd, hl⟩)

/-- Settles O17: the three cases of PAGE_CTL, the mask with the pending rises that follow it, and the mirror register by
register. -/
theorem countersAndMasks : Obligations.CountersAndMasks := by
  unfold Obligations.CountersAndMasks
  refine ⟨fun r page v s h h1 h0 => ?clear, fun r page v s h h0 h1 h2 hs => ?hold, fun r page v s h h1 h2 hs => ?evtOut,
    fun r page bits s h => ?mask, fun page whole s hu hd hl => ?mirror⟩
  case clear =>
    refine ⟨_, by rw [exec_cntClr h, opPageCtl_clear (getLsbD_or_false h0 (by decide)) (getLsbD_or_false h1 (by decide))
      (getLsbD_or_true v (by decide))], ?_, ?_, fun k hp hc => ?_, fun k hk hne => ?_⟩
    · exact State.releaseCounters_keeps _ (by decide) (State.clearCounters_keeps _ (by decide)
        (State.store_keeps _ _ (by decide) (State.reply_keeps _ (by decide) (SameBut.refl _ s))))
    · exact State.releaseCounters_keeps _ (by decide) (State.clearCounters_keeps _ (by decide)
        (State.store_keeps _ _ (by decide) (SameBut.refl [.regs, .shown, .rcnt, .rcntHeld] (s.reply .done)))) .resp (by decide)
    · rw [State.rd_of_regs (releaseCounters_regs _ _), clearCounters_rd, if_pos ⟨hp, hc⟩]
    · rw [State.rd_of_regs (releaseCounters_regs _ _), clearCounters_rd, if_neg hk, State.rd_store_ne _ _ hne]
      rfl
  case hold =>
    have hu := usedPage_of_taken (by decide) h
    refine ⟨_, by rw [exec_cntHold h, opPageCtl_hold (s := s.reply .done) h0 h1 h2 hs], ?_, ?_, ?_, fun k hp hc => ?_⟩
    · exact (((Frame.refl _ _ s).reply _ (by simp)).store _ _ (by simp)).trans (holdCounters_frame _ _ _)
    · exact State.holdCounters_keeps _ (List.Subset.refl _) (SameBut.refl _ _) .resp (by decide)
    · rw [State.bit_of_regs (holdCounters_regs _ _)]
      exact (State.bit_store_plain _ (F.HDR_PAGE_CTL_CNT_HOLD page.toNat) v (pageCtl_plain page hu).2 rfl).trans h1
    · have hne : k ≠ R.HDR_PAGE_CTL page.toNat := fun e => by
        rw [e, pageCtl_not_counter hu] at hc
        cases hc
      rw [holdCounters_shown _ hp hc, State.rd_store_ne _ _ hne]
      rfl
  case evtOut =>
    have hu := usedPage_of_taken (by decide) h
    refine ⟨_, by rw [exec_evtOutSet h, opPageCtl_evtOut (s := s.reply .done) (getLsbD_or_true v (by decide)) (getLsbD_or_false h1 (by decide))
      (getLsbD_or_false h2 (by decide)) hs], ?_, ?_, ?_⟩
    · exact (((Frame.refl _ _ s).reply _ (by simp)).store _ _ (by simp)).trans (releaseCounters_frame _ _ _)
    · exact State.releaseCounters_keeps _ (List.Subset.refl _) (SameBut.refl _ _) .resp (by decide)
    · rw [State.bit_of_regs (releaseCounters_regs _ _)]
      exact (State.bit_store_plain _ (F.HDR_PAGE_CTL_EVT_OUT page.toNat) _ (pageCtl_plain page hu).1 rfl).trans
        (getLsbD_or_true (b := 0) v (by decide))
  case mask =>
    have hu := usedPage_of_taken (by decide) h
    refine ⟨_, exec_evtMaskWrite bits h, ((FrameEv.refl _ _ s).reply _ (by simp)).trans (opEvtMask_frame _ _ _ _), fun b => ?_⟩
    rw [opEvtMask_rd, evtMask_bits _ hu _ b.isLt, BitVec.getLsbD_setWidth]
    simp
    omega
  case mirror =>
    refine ⟨_, exec_mirrorUpdate whole hu hd hl, State.mirrorPage_keeps _ _ (List.Subset.refl _) (SameBut.refl _ s), ?_, ?_, ?_⟩
    · rw [mirrorPage_hif]
    · rw [mirrorPage_hif]
    · rintro rfl a ha
      exact mirrorPage_word s ha

end Sys2Proof.Proofs.PageControl
end

section
/-! PROOF. Markers, boundaries and reads of the register space (O18). -/

namespace Sys2Proof.Proofs.Boundaries

open Sys2Proof Sys2Proof.Machine

variable {s : State} {tag : BitVec 8} {pipe : Fin 4} {st : Stage} {m : Marker} {i : Fin 4} {r : Req} {a : Addr} {full : Bool}

/-! ### Markers (R50, R51) -/

/-- The marker of the group stands behind everything that has arrived at the pipeline. -/
def marked (s : State) (tag : BitVec 8) (pipe : Fin 4) : State :=
  ({ s with cmt := { s.cmt with waiting := s.cmt.waiting.erase (tag, pipe) } }).setPipe pipe
    { s.pipes[pipe] with arr := s.pipes[pipe].arr ++ [Arrival.mark tag] }

theorem exec_markerInject (h : s.cmt.waiting.find? (fun w => decide (w.2 = pipe)) = some (tag, pipe)) :
    exec (.markerInject tag pipe) s = .next ((marked s tag pipe).absorb pipe) := by
  show execMarkerInject tag pipe s = _
  unfold execMarkerInject
  rw [h]
  exact if_neg (not_not_intro rfl)

/-- A marker of another group goes first. -/
theorem exec_markerInject_later {w : BitVec 8 × Fin 4} (h : s.cmt.waiting.find? (fun w => decide (w.2 = pipe)) = some w)
    (hw : w.1 ≠ tag) : exec (.markerInject tag pipe) s = .next s := by
  show execMarkerInject tag pipe s = _
  unfold execMarkerInject
  rw [h]
  exact if_pos hw

/-- The marker has passed a stage; past the policer it leaves. -/
def passedOn (s : State) (st : Stage) (m : Marker) : State :=
  let ms := if st = .police then s.cmt.markers.erase m
    else s.cmt.markers.map (fun n => if n = m then { n with passed := n.passed + 1 } else n)
  { s with cmt := { s.cmt with markers := ms } }

theorem exec_markerPass (hm : s.cmt.markers.find? (fun m => decide (m.pipe = pipe) && decide (m.tag = tag)) = some m)
    (hst : m.passed = stageNo st) (hpkt : (s.pipes[pipe]).ahead st m.ord = false)
    (hmark : s.cmt.markers.any (fun n => decide (n.pipe = pipe) && decide (n.ord < m.ord) && decide (n.passed ≤ m.passed)) = false)
    (hs : s.slotOf tag = some i) :
    exec (.markerPass tag pipe st) s = .next ((passedOn s st m).switchUnit i (.stage pipe st)) := by
  have hslot : (passedOn s st m).slotOf tag = some i := hs
  have hnext : exec (.markerPass tag pipe st) s =
      match (passedOn s st m).slotOf tag with
      | some i => .next ((passedOn s st m).switchUnit i (.stage pipe st))
      | none => .next (passedOn s st m) := by
    show execMarkerPass tag pipe st s = _
    unfold execMarkerPass
    rw [hm]
    refine if_neg ?_
    rintro (h | h | h)
    · exact h hst
    · exact Bool.false_ne_true (hpkt.symm.trans h)
    · exact Bool.false_ne_true (hmark.symm.trans h)
  rw [hnext, hslot]

/-! ### Boundaries of a block's own (R53, R55, R56) -/

/-- The state after a boundary of the unit, for the slot that carries the tag. -/
def atBoundary (s : State) (i : Fin 4) (u : ApplyUnit) : State :=
  match u with
  | .stage _ _ | .roll _ => s
  | .burst c => if (s.upb[c]).gt = [] ∧ (s.upb[c]).fixed = [] then s.switchUnit i u else s
  | .entry _ | .lane _ | .trib _ => s.switchUnit i u

theorem exec_boundaryApply (hs : s.slotOf tag = some i) (u : ApplyUnit) :
    exec (.boundaryApply tag u) s = .next (atBoundary s i u) := by
  show execBoundaryApply tag u s = _
  unfold execBoundaryApply
  rw [hs]
  cases u <;> rfl

/-! ### Reads of PCIe and of a core (R640) -/

theorem readEffect_plain (h : hasReadEffect a.toNat = false) : s.readEffect a.toNat = s := by
  have hne : ∀ k, hasReadEffect k = true → a.toNat ≠ k := fun k hk e => by
    rw [e, hk] at h
    cases h
  unfold State.readEffect
  rw [if_neg (hne _ (by decide)), if_neg (hne _ (by decide)), if_neg (hne _ (by decide)), if_neg (hne _ (by decide)),
    if_neg (ne_true_of_eq_false h)]

theorem exec_read (hr : r ≠ .shelf) : exec (.readBusError r a full) s =
    .next (s.readAccess r a.toNat full (s.readWord r a.toNat) (fun t => t.readEffect a.toNat)) :=
  congrArg Host.Outcome.next (if_neg hr)

theorem readCause_passes (ha : a.toNat % 4 = 0) (hu : usedPage (pageOf a.toNat) = true)
    (hl : linePage (pageOf a.toNat) = true → s.seam.phase = .up ∨ s.seam.phase = .stopped) : s.readCause a.toNat true = 0 := by
  unfold State.readCause
  rw [if_neg (by simp [ha]), if_neg (not_not_intro hu), if_neg]
  rintro ⟨hline, hdown⟩
  rcases hl hline with h | h <;> simp [h] at hdown

/-- A read that passes its checks and has no effect is answered. -/
theorem readAccess_answers {k : Nat} {w : Word} {op : State → State} (hr : s.reaches r = true) (hc : s.readCause k full = 0)
    (hop : op (s.reply (.data w)) = s.reply (.data w)) : s.readAccess r k full w op = s.reply (.data w) := by
  unfold State.readAccess
  rw [if_neg (not_not_intro hr), hc]
  exact (congrArg (ite _ · _) hop).trans (ite_self _)

theorem readAccess_refused {k : Nat} {w : Word} {op : State → State} (hr : s.reaches r = true) (hc : s.readCause k full ≠ 0) :
    s.readAccess r k full w op = s.busError r k true (s.readCause k full) := by
  unfold State.readAccess
  rw [if_neg (not_not_intro hr)]
  split
  · exact absurd ‹_› hc
  · rfl

/-- Settles O18: the marker that waits and the marker that passes, the boundaries unit by unit, and the two ends of a read. -/
theorem markersAndBoundaries : Obligations.MarkersAndBoundaries := by
  unfold Obligations.MarkersAndBoundaries
  refine ⟨fun tag pipe s h => ?inject, fun tag pipe w s h hw => exec_markerInject_later h hw,
    fun tag pipe st m i s hm hst hpkt hmark hs => ?pass, fun tag i s hs => ?boundary, fun r a s hr hreach ha hu hl he => ?answers,
    fun r a full s hr hhost hreach hc => ?refused⟩
  case inject =>
    exact ⟨_, exec_markerInject h, State.setPipe_keeps _ _ (by decide) (SameBut.upd_cmt (by decide) (SameBut.refl _ s)), rfl, rfl⟩
  case pass =>
    exact ⟨_, exec_markerPass hm hst hpkt hmark hs, SameBut.upd_cmt (by decide) (SameBut.refl _ s), rfl⟩
  case boundary =>
    refine ⟨fun k => exec_boundaryApply hs _, fun l => exec_boundaryApply hs _, fun c => exec_boundaryApply hs _, fun c hg hf => ?_,
      fun p st => exec_boundaryApply hs _, fun n => exec_boundaryApply hs _⟩
    exact (exec_boundaryApply hs _).trans (congrArg Host.Outcome.next (if_pos ⟨hg, hf⟩))
  case answers =>
    refine ⟨s.reply (.data (s.readWord r a.toNat)), (exec_read hr).trans (congrArg Host.Outcome.next ?_),
      State.reply_keeps _ (by decide) (SameBut.refl _ s), rfl⟩
    exact readAccess_answers hreach (readCause_passes ha hu hl) (readEffect_plain he)
  case refused =>
    refine ⟨_, (exec_read hr).trans (congrArg Host.Outcome.next (readAccess_refused hreach hc)), ?_⟩
    cases r with
    | pcie =>
      exact ⟨(FrameEv.refl _ _ s).busErrorPcie _ _ _ (by simp) (by simp) (by simp), rfl, State.busError_pcie_counts _ _ _ _⟩
    | shelf => exact absurd rfl hr
    | core n => cases hhost

end Sys2Proof.Proofs.Boundaries
end

section
/-! PROOF. The commit messages, commit commands and register groups of O57. -/

namespace Sys2Proof.Proofs.CommitEffects

open Sys2Proof Sys2Proof.Machine

variable {s : State} {r : Req} {tag : BitVec 8} {i : Fin 4} {rest : List CmtMsg}

/-! ### Slots -/

theorem setSlot_self (s : State) (i : Fin 4) (x : Slot) : (s.setSlot i x).cmt.slots[i] = x := Vector.getElem_set_self ..

theorem abortSlot_self (s : State) (i : Fin 4) (c : BitVec 4) : (s.abortSlot i c).cmt.slots[i] =
    { s.cmt.slots[i] with st := .aborted, cause := c, writes := [], switched := [], pages := [] } := by
  rw [State.abortSlot_cmt]
  exact Vector.getElem_set_self ..

theorem abortSlot_toFab (s : State) (i : Fin 4) (c : BitVec 4) : (s.abortSlot i c).seam.toFab = s.seam.toFab :=
  State.fire_seam_toFab _ _ _

theorem abortSlot_toLine (s : State) (i : Fin 4) (c : BitVec 4) : (s.abortSlot i c).seam.toLine = s.seam.toLine :=
  State.fire_seam_toLine _ _ _

/-! ### Messages between the dies (R64-R68) -/

/-- The line die has taken the oldest message. -/
def lineTook (s : State) (rest : List CmtMsg) : State := s.setSeam (fun m => { m with toLine := rest })

/-- The fabric die has taken the oldest reply. -/
def fabTook (s : State) (rest : List CmtMsg) : State := s.setSeam (fun m => { m with toFab := rest })

theorem prepare_completes {ws : SMap Word} (h : s.seam.toLine = .prepare tag ws :: rest)
    (hp : ws.all (fun e => s.powered e.1) = true) (hr : rest.contains (.abort tag) = false) :
    ∃ t, exec (.prepare tag) s = .next t ∧ t.seam.preps = s.seam.preps ++ [⟨tag, ws, false⟩] ∧
      t.seam.toFab = s.seam.toFab ++ [.prepared tag] ∧ t.seam.toLine = rest := by
  have htaken : exec (.prepare tag) s = .next ((lineTook s rest).linePrepare tag ws) := by
    show execPrepare tag s = _
    unfold execPrepare
    rw [h]
    exact congrArg Host.Outcome.next (if_pos rfl)
  have hloaded : (lineTook s rest).linePrepare tag ws =
      (lineTook s rest).setSeam (fun m => { m with
        preps := m.preps ++ [⟨tag, ws, false⟩], toFab := if rest.contains (.abort tag) then m.toFab else m.toFab ++ [.prepared tag] }) :=
    if_pos hp
  rw [hr] at hloaded
  exact ⟨_, htaken.trans (congrArg Host.Outcome.next hloaded), rfl, rfl, rfl⟩

/-- The decision to apply leaves the slot in APPLYING and the replies of the line die as they are. -/
theorem decideApply_spec (s : State) (i : Fin 4) : ∃ u : State, s.decideApply i = (u.stopTimer (T.prep i.val)).switchNow i ∧
    u.cmt.slots[i].st = .applying ∧ u.seam.toFab = s.seam.toFab := by
  refine ⟨_, rfl, ?_, ?_⟩
  · split <;> exact congrArg Slot.st (Vector.getElem_set_self ..)
  · split <;> rfl

theorem prepared_completes (h : s.seam.toFab = .prepared tag :: rest) (hs : s.slotOf tag = some i)
    (hp : s.cmt.slots[i].st = .preparing) :
    ∃ u : State, exec (.prepared tag) s = .next ((u.stopTimer (T.prep i.val)).switchNow i) ∧ u.cmt.slots[i].st = .applying ∧
      u.seam.toFab = rest := by
  have htaken : exec (.prepared tag) s = .next ((fabTook s rest).fabReply tag false) := by
    show execPrepared tag s = _
    unfold execPrepared
    rw [h]
    exact congrArg Host.Outcome.next (if_pos rfl)
  have hdecides : (fabTook s rest).fabReply tag false =
      (fabTook s rest).decideApply i := by
    unfold State.fabReply
    rw [show (fabTook s rest).slotOf tag = some i from hs]
    exact (if_neg (not_not_intro hp)).trans (if_neg Bool.false_ne_true)
  obtain ⟨u, hu, hst, hfab⟩ := decideApply_spec (fabTook s rest) i
  exact ⟨u, htaken.trans (congrArg Host.Outcome.next (hdecides.trans hu)), hst, hfab⟩

/-- The line die notes that it applies the group. -/
def noted (s : State) (tag : BitVec 8) : State :=
  s.setSeam (fun m => { m with
    decisions := m.decisions.filter (fun d => decide (d ≠ .apply tag))
    preps := m.preps.map (fun (p : Prep) => if p.tag = tag then { p with applied := true } else p) })

theorem lineApply_applying (hs : s.slotOf tag = some i) (ha : s.cmt.slots[i].st = .applying) :
    s.lineApply tag = ((noted s tag).groupRolls i).switchNow i := by
  have hfound : s.lineApply tag =
      match (noted s tag).slotOf tag with
      | some i => if (noted s tag).cmt.slots[i].st = .applying then ((noted s tag).groupRolls i).switchNow i else noted s tag
      | none => noted s tag := rfl
  rw [hfound, show (noted s tag).slotOf tag = some i from hs]
  exact if_pos ha

theorem apply_completes (h : s.seam.toLine = .apply tag :: rest) (hs : s.slotOf tag = some i)
    (ha : s.cmt.slots[i].st = .applying) :
    ∃ u : State, exec (.apply tag) s = .next ((u.groupRolls i).switchNow i) ∧ u.seam.toLine = rest ∧
      u.seam.preps = s.seam.preps.map (fun (p : Prep) => if p.tag = tag then { p with applied := true } else p) := by
  have htaken : exec (.apply tag) s = .next ((lineTook s rest).lineApply tag) := by
    show execApply tag s = _
    unfold execApply
    rw [h]
    exact congrArg Host.Outcome.next (if_pos rfl)
  exact ⟨_, htaken.trans (congrArg Host.Outcome.next (lineApply_applying (s := lineTook s rest) hs ha)), rfl, rfl⟩

theorem abort_completes (h : s.seam.toLine = .abort tag :: rest) :
    ∃ t, exec (.abort tag) s = .next t ∧ t.seam.toLine = rest ∧
      t.seam.preps = s.seam.preps.filter (fun p => decide (p.tag ≠ tag) || p.applied) := by
  have htaken : exec (.abort tag) s = .next ((lineTook s rest).lineAbort tag) := by
    show execAbort tag s = _
    unfold execAbort
    rw [h]
    exact congrArg Host.Outcome.next (if_pos rfl)
  exact ⟨_, htaken, rfl, rfl⟩

theorem abortDomainOff_completes (h : s.seam.toFab = .abortOff tag :: rest) (hs : s.slotOf tag = some i)
    (hp : s.cmt.slots[i].st = .preparing) :
    ∃ t, exec (.abortDomainOff tag) s = .next t ∧ t.cmt.slots[i].st = .aborted ∧ t.cmt.slots[i].cause = 3 ∧ t.seam.toFab = rest := by
  have htaken : exec (.abortDomainOff tag) s = .next ((fabTook s rest).fabReply tag true) := by
    show execAbortDomainOff tag s = _
    unfold execAbortDomainOff
    rw [h]
    exact congrArg Host.Outcome.next (if_pos rfl)
  have haborts : (fabTook s rest).fabReply tag true =
      ((fabTook s rest).abortSlot i 3).stopTimer (T.prep i.val) := by
    unfold State.fabReply
    rw [show (fabTook s rest).slotOf tag = some i from hs]
    exact (if_neg (not_not_intro hp)).trans (if_pos rfl)
  have hslot := abortSlot_self (fabTook s rest) i 3
  exact ⟨_, htaken.trans (congrArg Host.Outcome.next haborts), congrArg Slot.st hslot, congrArg Slot.cause hslot, abortSlot_toFab _ _ _⟩

theorem prepTimeout_completes (hs : s.slotOf tag = some i) (hp : s.cmt.slots[i].st = .preparing) (hup : s.seam.phase = .up) :
    ∃ t, exec (.prepTimeout tag) s = .next t ∧ t.cmt.slots[i].st = .aborted ∧ t.cmt.slots[i].cause = 5 ∧
      t.seam.toLine = s.seam.toLine ++ [.abort tag] := by
  have htaken : exec (.prepTimeout tag) s = .next (((s.abortSlot i 5).stopTimer (T.prep i.val)).setSeam (fun m => { m with
      toLine := m.toLine ++ [.abort tag]
      toFab := m.toFab.filter (fun d => decide (d ≠ .prepared tag ∧ d ≠ .abortOff tag))
      decisions := m.decisions ++ [.abort tag] })) := by
    show execPrepTimeout tag s = _
    unfold execPrepTimeout
    rw [hs]
    exact congrArg Host.Outcome.next (if_pos ⟨hp, hup⟩)
  have hslot := abortSlot_self s i 5
  exact ⟨_, htaken, congrArg Slot.st hslot, congrArg Slot.cause hslot, congrArg (· ++ [CmtMsg.abort tag]) (abortSlot_toLine s i 5)⟩

/-! ### Commit commands (R71) -/

theorem cmtOpen_completes (ht : Taken s r R.CMT_CMT_OPEN) (h0 : tag ≠ 0) (hs : s.slotOf tag = none) (hf : s.freeSlot = some i) :
    ∃ t, exec (.cmtOpen r tag) s = .next t ∧ t.resp = .done ∧ t.cmt.slots[i] = { st := .opened, tag := tag } := by
  have hopens : (s.reply .done).opCmtOpen r tag = (((s.reply .done).setSlot i { st := .opened, tag := tag }).cmdStat r tag 1 0) := by
    unfold State.opCmtOpen
    rw [if_neg h0, if_neg (by rw [show (s.reply .done).slotOf tag = none from hs]; exact Bool.false_ne_true),
      show (s.reply .done).freeSlot = some i from hf]
  exact ⟨_, congrArg Host.Outcome.next ((Taken_access ht).trans hopens), rfl, setSlot_self _ _ _⟩

theorem cmtDiscard_completes (ht : Taken s r R.CMT_CMT_DISCARD) (h0 : tag ≠ 0) (hs : s.slotOf tag = some i)
    (ho : s.cmt.slots[i].st = .opened) :
    ∃ t, exec (.cmtDiscard r tag) s = .next t ∧ t.resp = .done ∧ t.cmt.slots[i].st = .aborted ∧ t.cmt.slots[i].cause = 1 := by
  have haborts : (s.reply .done).opCmtDiscard r tag = ((s.reply .done).abortSlot i 1).cmdStat r tag 3 0 := by
    unfold State.opCmtDiscard
    rw [if_neg h0, show (s.reply .done).slotOf tag = some i from hs]
    exact if_pos ho
  have hslot : (((s.reply .done).abortSlot i 1).cmdStat r tag 3 0).cmt.slots[i] = _ :=
    (congrArg (fun m : Cmt => m.slots[i]) (State.wr_cmt _ _ _)).trans (abortSlot_self (s.reply .done) i 1)
  exact ⟨_, congrArg Host.Outcome.next ((Taken_access ht).trans haborts), (State.wr_resp _ _ _).trans
    (State.abortSlot_keeps i 1 (List.Subset.refl _) (SameBut.refl _ (s.reply .done)) .resp (by decide)),
    congrArg Slot.st hslot, congrArg Slot.cause hslot⟩

theorem cmtAck_completes (ht : Taken s r R.CMT_CMT_ACK) (h0 : tag ≠ 0) (hs : s.slotOf tag = some i)
    (he : s.cmt.slots[i].st = .applied ∨ s.cmt.slots[i].st = .aborted) :
    ∃ t, exec (.cmtAck r tag) s = .next t ∧ t.resp = .done ∧ t.cmt.slots[i].st = .free := by
  have hclears : (s.reply .done).opCmtAck r tag = ((s.reply .done).setSlot i {}).cmdStat r tag 4 0 := by
    unfold State.opCmtAck
    rw [if_neg h0, show (s.reply .done).slotOf tag = some i from hs]
    exact if_pos he
  exact ⟨_, congrArg Host.Outcome.next ((Taken_access ht).trans hclears), rfl, congrArg Slot.st (setSlot_self (s.reply .done) i {})⟩

theorem cmtCommit_completes (ht : Taken s r R.CMT_CMT_COMMIT) (h0 : tag ≠ 0) (hs : s.slotOf tag = some i)
    (ho : s.cmt.slots[i].st = .opened) (hf : s.log.pf = false) (he : s.cmt.slots[i].writes = []) :
    ∃ t, exec (.cmtCommit r tag) s = .next t ∧ t.resp = .done ∧ t.cmt.slots[i].st = .applied := by
  obtain ⟨-, hempty, -⟩ := Commit.commitIsJudged
  obtain ⟨u, hu, -, hresp, -, hcmt⟩ := hempty r tag i s ht h0 hs ho hf he
  refine ⟨_, hu, (State.fire_resp _ _ _).trans hresp, ?_⟩
  rw [State.fire_cmt, hcmt]
  exact congrArg Slot.st (Vector.getElem_set_self ..)

/-! ### Counters, masks, markers -/

open PageControl in
/-- CNT_HOLD set, whether or not it was set before. -/
theorem cntHold_completes {page : BitVec 8} {v : Word} (h : Taken s r (R.HDR_PAGE_CTL page.toNat)) (h0 : v.getLsbD 0 = false)
    (h1 : v.getLsbD 1 = true) (h2 : v.getLsbD 2 = false) :
    ∃ t, exec (.cntHold r page v) s = .next t ∧ t.resp = .done ∧ t.bit (F.HDR_PAGE_CTL_CNT_HOLD page.toNat) = true := by
  have hstored := (State.bit_store_plain (s.reply .done) (F.HDR_PAGE_CTL_CNT_HOLD page.toNat) v
    (pageCtl_plain page (usedPage_of_taken (by decide) h)).2 rfl).trans h1
  cases hb : s.bit (F.HDR_PAGE_CTL_CNT_HOLD page.toNat) with
  | false =>
    refine ⟨_, by rw [exec_cntHold h, opPageCtl_hold (s := s.reply .done) h0 h1 h2 hb], ?_, ?_⟩
    · exact State.holdCounters_keeps _ (List.Subset.refl _) (SameBut.refl _ _) .resp (by decide)
    · exact (State.bit_of_regs (holdCounters_regs _ _) _).trans hstored
  | true =>
    refine ⟨_, by rw [exec_cntHold h, opPageCtl_held (s := s.reply .done) h0 h1 h2 hb], rfl, hstored⟩

theorem markerInject_completes {pipe : Fin 4} (h : s.cmt.waiting.find? (fun w => decide (w.2 = pipe)) = some (tag, pipe)) :
    ∃ u : State, exec (.markerInject tag pipe) s = .next (u.absorb pipe) ∧ u.cmt.waiting = s.cmt.waiting.erase (tag, pipe) ∧
      u.pipes[pipe].arr = s.pipes[pipe].arr ++ [.mark tag] :=
  ⟨_, Boundaries.exec_markerInject h, rfl, congrArg Pipe.arr (Vector.getElem_set_self ..)⟩

end Sys2Proof.Proofs.CommitEffects
end

section
/-! PROOF. The ownership, presence and seal commands of O57. -/

namespace Sys2Proof.Proofs.OwnershipEffects

open Sys2Proof Sys2Proof.Machine

variable {s : State} {r : Req} {v : Word}

/-! ### One claim or release at a handshake (R89) -/

theorem agentOf_ne_none : ∀ r : Req, agentOf r ≠ 3
  | .pcie | .shelf => by decide
  | .core _ => (by decide : (2 : BitVec 2) ≠ 3)

/-- Whatever the priorities, a claim alone at its handshake is the one that is judged. -/
theorem sortClaims_single (s : State) (r : Req) : s.sortClaims [r] = [r] := by
  have hpri : s.rst.straps.toNat % 4 = 0 ∨ s.rst.straps.toNat % 4 = 1 ∨ s.rst.straps.toNat % 4 = 2 ∨
      s.rst.straps.toNat % 4 = 3 := by omega
  unfold State.sortClaims
  rcases hpri with h | h | h | h <;> rw [h] <;> cases r <;> rfl

theorem ownClaims_nil (s : State) (v : Word) : s.ownClaims v [] = s := by
  have hnone : s.sortClaims [] = [] := by simp [State.sortClaims]
  unfold State.ownClaims
  rw [hnone]

theorem ownClaims_single (s : State) (v : Word) (r : Req) :
    s.ownClaims v [r] = s.access r R.OWN_OWN_CLAIM true (fun t => t.opOwnClaim r v) := by
  unfold State.ownClaims
  rw [sortClaims_single]
  rfl

theorem exec_ownClaim (h : Taken s r R.OWN_OWN_CLAIM) : exec (.ownClaim r {}) s = .next ((s.reply .done).opOwnClaim r 1) := by
  have hhand : s.ownHand { claims := [r] } = (s.ownClaims 3 []).ownClaims 1 [r] := rfl
  rw [ownClaims_nil, ownClaims_single, Taken_access h] at hhand
  exact congrArg Host.Outcome.next hhand

theorem exec_ownClaimForced (h : Taken s r R.OWN_OWN_CLAIM) :
    exec (.ownClaimForced r {}) s = .next ((s.reply .done).opOwnClaim r 3) := by
  have hhand : s.ownHand { forced := [r] } = (s.ownClaims 3 [r]).ownClaims 1 [] := rfl
  rw [ownClaims_nil, ownClaims_single, Taken_access h] at hhand
  exact congrArg Host.Outcome.next hhand

/-- A release alone at its handshake. -/
theorem ownHand_release (h : Taken s r R.OWN_OWN_RELEASE) (x : BitVec 3) :
    s.ownHand { releases := [(r, x)] } = (s.reply .done).opOwnRelease r (x.setWidth 32) := by
  have hhand : s.ownHand { releases := [(r, x)] } = ((s.ownClaims 3 []).access r R.OWN_OWN_RELEASE true
    (fun u => u.opOwnRelease r (x.setWidth 32))).ownClaims 1 [] := rfl
  rwa [ownClaims_nil, ownClaims_nil, Taken_access h] at hhand

theorem ownHand_lost (s : State) : s.ownHand { lost := true } = s.leaseOut := by
  have hhand : s.ownHand { lost := true } = (s.ownClaims 3 []).leaseOut.ownClaims 1 [] := rfl
  rwa [ownClaims_nil, ownClaims_nil] at hhand

/-! ### The thimble (R83-R90) -/

/-- The thimble moves to an agent, and the presence window closes. -/
theorem move_to (s : State) (r : Req) : (s.setHolder (agentOf r)).thimbleMove.closePresence.own.st = .held ∧
    (s.setHolder (agentOf r)).thimbleMove.closePresence.own.holder = agentOf r ∧
    (s.setHolder (agentOf r)).thimbleMove.closePresence.resp = s.resp := by
  obtain ⟨-, hframe, hown⟩ := State.move_close_facts s (agentOf r)
  rw [if_neg (agentOf_ne_none r)] at hown
  exact ⟨congrArg Own.st hown, congrArg Own.holder hown, hframe.1 .resp (by decide)⟩

/-- The thimble moves to nobody, and the presence window closes. -/
theorem move_away (s : State) : (s.setHolder 3).thimbleMove.closePresence.own.st = .vacant ∧
    (s.setHolder 3).thimbleMove.closePresence.resp = s.resp := by
  obtain ⟨-, hframe, hown⟩ := State.move_close_facts s 3
  exact ⟨congrArg Own.st hown, hframe.1 .resp (by decide)⟩

theorem holderLost_vacant (s : State) (lease : Bool) : (s.holderLost lease).own.st = .vacant := by
  unfold State.holderLost
  dsimp only
  split
  · rw [State.fire_own]
    exact (move_away s).1
  · exact (move_away s).1

theorem decideElection_own (s : State) (timed : Bool) :
    (s.decideElection timed).own.elected = true ∧ (s.decideElection timed).own.timed = timed := by
  unfold State.decideElection
  dsimp only
  split
  · rw [State.thimbleMove_own, State.setHolder_own]
    exact ⟨rfl, rfl⟩
  · exact ⟨rfl, rfl⟩

theorem electionTimeout_completes (hr : s.running T.election = true) (he : s.own.elected = false) :
    ∃ t, exec .electionTimeout s = .next t ∧ t.own.elected = true ∧ t.own.timed = true :=
  ⟨_, congrArg Host.Outcome.next (if_pos ⟨hr, by simp [he]⟩), decideElection_own s true⟩

theorem opOwnClaim_vacant (he : s.own.elected = true) (hv : s.own.st = .vacant) :
    s.opOwnClaim r 1 = (s.setHolder (agentOf r)).thimbleMove.closePresence := by
  unfold State.opOwnClaim
  dsimp only
  rw [if_neg (by decide), if_neg (not_not_intro he), if_neg (by decide), hv]

theorem ownClaim_completes (h : Taken s r R.OWN_OWN_CLAIM) (he : s.own.elected = true) (hv : s.own.st = .vacant) :
    ∃ t, exec (.ownClaim r {}) s = .next t ∧ t.resp = .done ∧ t.own.st = .held ∧ t.own.holder = agentOf r := by
  obtain ⟨hst, hholder, hresp⟩ := move_to (s.reply .done) r
  exact ⟨_, by rw [exec_ownClaim h, opOwnClaim_vacant (s := s.reply .done) he hv], hresp, hst, hholder⟩

theorem opOwnClaim_forced (he : s.own.elected = true) (hd : s.isDelegate r = false) (hf : s.own.forceWin = true) :
    s.opOwnClaim r 3 = (s.setHolder (agentOf r)).thimbleMove.closeForce := by
  unfold State.opOwnClaim
  dsimp only
  rw [if_neg (by decide), if_neg (not_not_intro he), if_pos (by decide), if_neg (ne_true_of_eq_false hd), if_neg (not_not_intro hf)]

theorem ownClaimForced_completes (h : Taken s r R.OWN_OWN_CLAIM) (he : s.own.elected = true) (hd : s.isDelegate r = false)
    (hf : s.own.forceWin = true) :
    ∃ t, exec (.ownClaimForced r {}) s = .next t ∧ t.resp = .done ∧ t.own.st = .held ∧ t.own.holder = agentOf r ∧
      t.own.forceWin = false := by
  obtain ⟨-, hframe, hown⟩ := State.move_facts (s.reply .done) (agentOf r)
  rw [if_neg (agentOf_ne_none r)] at hown
  exact ⟨_, (exec_ownClaimForced h).trans (congrArg Host.Outcome.next (opOwnClaim_forced he hd hf)), hframe.1 .resp (by decide),
    congrArg Own.st hown, congrArg Own.holder hown, rfl⟩

/-- The TARGET field of a release, and its VACATE bit. -/
theorem release_target (t : BitVec 2) : BitVec.ofNat 2 (getField ((t.setWidth 3).setWidth 32) 0 2) = t ∧
    ((t.setWidth 3).setWidth 32 : Word).getLsbD 2 = false := by
  revert t
  decide

theorem ownReleaseTarget_completes {x : BitVec 2} (h : Taken s r R.OWN_OWN_RELEASE) (hh : s.own.st = .held)
    (hne : x ≠ s.own.holder) (h3 : x ≠ 3) :
    ∃ u, exec (.ownReleaseTarget r x {}) s = .next u ∧ u.resp = .done ∧ u.own.st = .releasing ∧ u.own.target = x := by
  obtain ⟨htarget, hvacate⟩ := release_target x
  have hop : (s.reply .done).opOwnRelease r ((x.setWidth 3).setWidth 32) =
      ({ s.reply .done with own := { s.own with st := .releasing, target := x } }).startTimer T.handover := by
    unfold State.opOwnRelease
    dsimp only
    rw [htarget, if_neg (ne_true_of_eq_false hvacate), if_neg (fun e => e.elim hne h3)]
    exact if_pos hh
  exact ⟨_, congrArg Host.Outcome.next ((ownHand_release h _).trans hop), rfl, rfl, rfl⟩

theorem ownReleaseVacate_completes (h : Taken s r R.OWN_OWN_RELEASE) (hh : s.own.st = .held) :
    ∃ u, exec (.ownReleaseVacate r {}) s = .next u ∧ u.resp = .done ∧ u.own.st = .vacant := by
  have hop : (s.reply .done).opOwnRelease r ((4 : BitVec 3).setWidth 32) =
      ((s.reply .done).setHolder 3).thimbleMove.closePresence := by
    unfold State.opOwnRelease
    dsimp only
    rw [if_pos (by decide)]
    exact if_pos hh
  obtain ⟨hst, hresp⟩ := move_away (s.reply .done)
  exact ⟨_, congrArg Host.Outcome.next ((ownHand_release h _).trans hop), hresp, hst⟩

theorem handoverTimeout_completes (h : s.own.st = .releasing) :
    ∃ t, exec .handoverTimeout s = .next t ∧ t.own.st = .held ∧ t.own.holder = s.own.holder :=
  ⟨_, congrArg Host.Outcome.next (if_pos h), congrArg Own.st (State.fire_own _ _ _),
    (congrArg Own.holder (State.fire_own _ _ _)).trans rfl⟩

theorem leaseExpire_completes (hv : s.own.st ≠ .vacant) (he : s.bit F.OWN_OWN_CTL_LEASE_EN = true)
    (hr : s.running T.lease = true) : ∃ t, exec (.leaseExpire {}) s = .next t ∧ t.own.st = .vacant :=
  ⟨_, congrArg Host.Outcome.next ((ownHand_lost s).trans (if_pos ⟨hv, he, hr⟩)), holderLost_vacant s true⟩

theorem ownHeartbeat_completes (h : Taken s r R.OWN_OWN_HEARTBEAT) (he : s.bit F.OWN_OWN_CTL_LEASE_EN = true) :
    ∃ t, exec (.ownHeartbeat r) s = .next t ∧ t.resp = .done ∧ t.running T.lease = true := by
  have hop : (s.reply .done).opHeartbeat 1 = (s.reply .done).startTimer T.lease := if_pos ⟨by decide, he⟩
  exact ⟨_, congrArg Host.Outcome.next ((Taken_access h).trans hop), rfl, by simp⟩

theorem wakeL0Timeout_completes (hr : s.running T.wakeL0 = true) (hv : s.own.st ≠ .vacant) (hh : s.own.holder = 0)
    (hl : s.hif.l0 = false) : ∃ t, exec .wakeL0Timeout s = .next t ∧ t.own.st = .vacant :=
  ⟨_, congrArg Host.Outcome.next ((if_pos hr).trans (if_pos ⟨hv, hh, by simp [hl]⟩)), holderLost_vacant _ false⟩

/-! ### Presence (R92-R95) -/

theorem presenceDebounce_completes (b : Bool) (hw : s.watches = true) :
    ∃ t, exec (.presenceDebounce b) s = .next t ∧ t.own.levelHigh = b := by
  refine ⟨_, congrArg Host.Outcome.next (if_neg (not_not_intro hw)), ?_⟩
  cases b <;> rfl

/-- The button has been held for 3 s: the presence window opens. -/
def pressed (s : State) : State := ({ s with own := { s.own with pressed := true, presWin := true } }).startTimer T.presence

theorem pressed_running (s : State) : (pressed s).running T.presence = true := (State.running_startTimer _ _ _).trans (by simp)

theorem openForce_running {x : Nat} (h : s.running x = true) : s.openForce.running x = true := by
  unfold State.openForce
  rw [State.fire_running, State.running_startTimer]
  exact (Bool.or_eq_true _ _).mpr (.inr h)

theorem presenceOn_completes (hw : s.watches = true) (hc : s.own.counting = true) (hp : s.own.pressed = false)
    (hs : s.own.stuck = false) :
    ∃ t, exec .presenceOn s = .next t ∧ t.own.presWin = true ∧ t.own.forceWin = true ∧ t.running T.presence = true := by
  have htaken : exec .presenceOn s = .next ((pressed s).fire P.OWN E.OWN_PRESENCE_ON).openForce :=
    congrArg Host.Outcome.next (if_pos ⟨hw, hc, by simp [hp], by simp [hs]⟩)
  refine ⟨_, htaken, ?_, ?_, openForce_running ((State.fire_running _ _ _ _).trans (pressed_running s))⟩
  · rw [State.openForce_own, State.fire_own]
    rfl
  · rw [State.openForce_own]

/-- The button counts as stuck. -/
def stuck (s : State) : State := { s with own := { s.own with stuck := true, counting := false, pressed := false } }

theorem closeBoth_own (s : State) : s.closePresence.closeForce.own = { s.own with presWin := false, forceWin := false } := by
  rw [State.closeForce_own, State.closePresence_own]

theorem presenceStuck_completes (hw : s.watches = true) (hc : s.own.counting = true) (hs : s.own.stuck = false) :
    ∃ t, exec .presenceStuck s = .next t ∧ t.own.stuck = true ∧ t.own.presWin = false ∧ t.own.forceWin = false := by
  have hown := State.fire_own (stuck s.closePresence.closeForce) P.OWN E.OWN_PRESENCE_STUCK
  have hclosed := closeBoth_own s
  exact ⟨_, congrArg Host.Outcome.next (if_pos ⟨hw, hc, by simp [hs]⟩), congrArg Own.stuck hown,
    (congrArg Own.presWin hown).trans (congrArg Own.presWin hclosed),
    (congrArg Own.forceWin hown).trans (congrArg Own.forceWin hclosed)⟩

theorem presenceUnstick_completes (hw : s.watches = true) (hs : s.own.stuck = true) (hl : s.own.levelHigh = true) :
    ∃ t, exec .presenceUnstick s = .next t ∧ t.own.stuck = false :=
  ⟨_, congrArg Host.Outcome.next (if_pos ⟨hw, hs, hl⟩), rfl⟩

theorem presenceWindowExpire_completes (s : State) : ∃ t, exec .presenceWindowExpire s = .next t ∧ t.own.presWin = false :=
  ⟨_, rfl, congrArg Own.presWin (State.closePresence_own s)⟩

theorem forceWindowExpire_completes (s : State) : ∃ t, exec .forceWindowExpire s = .next t ∧ t.own.forceWin = false :=
  ⟨_, rfl, rfl⟩

theorem presenceEnd_completes (v : Word) (h : Taken s r R.OWN_OWN_PRES_CTL) :
    ∃ t, exec (.presenceEnd r v) s = .next t ∧ t.resp = .done ∧ t.own.presWin = false := by
  have hend : (v ||| 0x100).getLsbD 8 = true := PageControl.getLsbD_or_true v (by decide)
  have hop : (s.reply .done).opPresCtl (v ||| 0x100) =
      ((s.reply .done).store R.OWN_OWN_PRES_CTL (v ||| 0x100)).closePresence := if_pos hend
  exact ⟨_, congrArg Host.Outcome.next ((Taken_access h).trans hop),
    State.closePresence_keeps (List.Subset.refl _) (SameBut.refl _ _) .resp (by decide),
    congrArg Own.presWin (State.closePresence_own _)⟩

/-! ### The seal (R97, R98) -/

/-- One bit of the loop is compared with the bit that SEAL_OUT sends. -/
theorem sealSeen_single (x : Bool) (hu : s.own.sealUse = true) (hw : s.watches = true) :
    s.sealSeen [x] = s.sealBit (s.own.lfsr.getLsbD 7) x := by
  unfold State.sealSeen
  exact if_neg (by simp [hu, hw])

theorem sealBreak_completes {x : Bool} (hu : s.own.sealUse = true) (hw : s.watches = true) (hx : x ≠ s.own.lfsr.getLsbD 7)
    (hm : 2 ≤ s.own.misses) (hseen : s.own.matchSeen = true) :
    ∃ t, exec (.sealBreak [x]) s = .next t ∧ t.own.broken = true ∧ t.own.sealOk = false ∧ t.own.armed = false := by
  have hthird : min 3 (s.own.misses + 1) = 3 := by omega
  have hbit : s.sealBit (s.own.lfsr.getLsbD 7) x =
      ({ s with own := { s.own with hits := 0, misses := min 3 (s.own.misses + 1), sealOk := false } }).sealBroken := by
    unfold State.sealBit
    exact (if_neg hx.symm).trans (if_pos ⟨hthird, hseen⟩)
  refine ⟨_, congrArg Host.Outcome.next ((sealSeen_single x hu hw).trans hbit), ?_⟩
  unfold State.sealBroken
  dsimp only
  split
  · rw [State.openForce_own, State.fire_own]
    exact ⟨rfl, rfl, rfl⟩
  · rw [State.fire_own]
    exact ⟨rfl, rfl, rfl⟩

/-- The state after the 64th match in a row, before the seal is armed. -/
def matched (s : State) : State :=
  { s with own := { s.own with hits := min 64 (s.own.hits + 1), misses := 0, matchSeen := true, matched64 := true, sealOk := true } }

theorem sealBit_matched {x : Bool} (hx : x = s.own.lfsr.getLsbD 7) (hh : 63 ≤ s.own.hits) :
    s.sealBit (s.own.lfsr.getLsbD 7) x = (matched s).sealArm := by
  have hlast : min 64 (s.own.hits + 1) = 64 := by omega
  unfold State.sealBit
  exact (if_pos hx.symm).trans (if_pos hlast)

theorem sealIntact_completes {x : Bool} (hu : s.own.sealUse = true) (hw : s.watches = true) (hx : x = s.own.lfsr.getLsbD 7)
    (hh : 63 ≤ s.own.hits) : ∃ t, exec (.sealIntact [x]) s = .next t ∧ t.own.sealOk = true := by
  refine ⟨_, congrArg Host.Outcome.next ((sealSeen_single x hu hw).trans (sealBit_matched hx hh)), ?_⟩
  unfold State.sealArm
  split <;> rfl

theorem sealRearm_completes {x : Bool} (hu : s.own.sealUse = true) (hw : s.watches = true) (hx : x = s.own.lfsr.getLsbD 7)
    (hh : 63 ≤ s.own.hits) (hc : s.own.cleared = true) : ∃ t, exec (.sealRearm [x]) s = .next t ∧ t.own.armed = true := by
  have harm : (matched s).sealArm = { matched s with own := { (matched s).own with armed := true } } := if_pos ⟨rfl, hc⟩
  exact ⟨_, congrArg Host.Outcome.next (((sealSeen_single x hu hw).trans (sealBit_matched hx hh)).trans harm), rfl⟩

theorem sealBrokenClear_completes (h : Taken s r R.OWN_OWN_STAT) (hb : s.own.broken = true) :
    ∃ t, exec (.sealBrokenClear r) s = .next t ∧ t.resp = .done ∧ t.own.broken = false := by
  have hop : (s.reply .done).opOwnStat 0x800 =
      ({ s.reply .done with own := { s.own with broken := false, cleared := true } }).sealArm := if_pos ⟨by decide, hb⟩
  refine ⟨_, congrArg Host.Outcome.next ((Taken_access h).trans hop), ?_, ?_⟩
  · exact State.sealArm_keeps (List.Subset.refl _) (SameBut.refl _ _) .resp (by decide)
  · unfold State.sealArm
    split <;> rfl

end Sys2Proof.Proofs.OwnershipEffects
end

section
/-! PROOF. The receiver commands of O57: what each operation of a chain leaves in its record, and the commands. -/

namespace Sys2Proof.Proofs.ReceiverEffects

open Sys2Proof Sys2Proof.Machine

variable {s : State} {r : Req} {c : Chan} {v : Word}

/-! ### The records of a chain and of its deframer -/

theorem setRx_self (s : State) (c : Chan) (x : Rx) : (s.setRx c x).rx[c] = x := Vector.getElem_set_self ..

theorem rxEvent_rx (s : State) (c : Chan) (b : Nat) : (s.rxEvent c b).rx = s.rx := State.fire_rx _ _ _

theorem rxEvent_rd (s : State) (c : Chan) (b : Nat) {k : Nat} (h : eventReg k = false) : (s.rxEvent c b).rd k = s.rd k :=
  State.fire_rd _ _ _ h

theorem dsfMove_rx (s : State) (c : Chan) (x : Dsf) : (s.dsfMove c x).rx = s.rx :=
  State.dsfMove_keeps c x (List.Subset.refl _) (SameBut.refl _ s) .rx (by decide)

theorem dsfLight_rx (s : State) (c : Chan) : (s.dsfLight c).rx = s.rx :=
  State.dsfLight_keeps c (List.Subset.refl _) (SameBut.refl _ s) .rx (by decide)

theorem rollsFail_rx (s : State) (c : Chan) : (s.rollsFail c).rx = s.rx :=
  State.rollsFail_keeps c (List.Subset.refl _) (SameBut.refl _ s) .rx (by decide)

theorem countDropped_rx (s : State) (c : Chan) (n : Nat) : (s.countDropped c n).rx = s.rx :=
  State.countDropped_keeps c n (List.Subset.refl _) (SameBut.refl _ s) .rx (by decide)

theorem cutBurst_rx (s : State) (c : Chan) : (s.cutBurst c).rx = s.rx :=
  State.cutBurst_keeps c (List.Subset.refl _) (SameBut.refl _ s) .rx (by decide)

theorem discardGrants_rx (s : State) (c : Chan) : (s.discardGrants c).rx = s.rx :=
  State.discardGrants_keeps c (List.Subset.refl _) (SameBut.refl _ s) .rx (by decide)

/-- Losing the map wakes a chain that dozes, and changes no other. -/
theorem mapLost_rx (h : (s.rx[c]).st ≠ .doze) : (s.mapLost c).rx = s.rx := by
  unfold State.mapLost
  dsimp only
  rw [if_neg h]
  rfl

theorem dsfOff_rx (h : (s.rx[c]).st ≠ .doze) : (s.dsfOff c).rx = s.rx := by
  unfold State.dsfOff
  dsimp only
  rw [rollsFail_rx]
  split
  · rfl
  · rw [State.stopTimer_rx, countDropped_rx, dsfMove_rx, mapLost_rx h]

theorem dsfOn_rx (h : (s.rx[c]).st ≠ .doze) : (s.dsfOn c).rx = s.rx := by
  unfold State.dsfOn
  split
  · rw [dsfMove_rx, mapLost_rx h]
  · rfl

theorem dsfHold_rx (h : (s.rx[c]).st ≠ .doze) : (s.dsfHold c).rx = s.rx := by
  unfold State.dsfHold
  dsimp only
  split
  · rw [State.startTimer_rx, mapLost_rx (by rwa [dsfMove_rx]), dsfMove_rx]
  · rfl

/-- Trims that come in change nothing else of the chain. -/
theorem trimsIn_rx (s : State) (c : Chan) :
    ∃ ts w, (s.trimsIn c).rx[c] = { s.rx[c] with trims := ts, trimWait := w } := by
  unfold State.trimsIn
  split
  · exact ⟨_, _, setRx_self _ _ _⟩
  · exact ⟨_, _, rfl⟩

theorem trimsIn_regs (s : State) (c : Chan) : (s.trimsIn c).regs = s.regs := by
  unfold State.trimsIn
  split <;> rfl

theorem acquire_st (s : State) (c : Chan) (d : Bool) : ((s.acquire c d).rx[c]).st = .acquire :=
  congrArg Rx.st (setRx_self _ _ _)

/-- A gain that a detection froze stays while the chain trains. -/
theorem acquire_frozen (h : (s.rx[c]).frozen = true) (d : Bool) : ((s.acquire c d).rx[c]).cur.agc = (s.rx[c]).cur.agc := by
  have hcur : ((s.acquire c d).rx[c]).cur = _ := congrArg Rx.cur (setRx_self _ _ _)
  rw [hcur, if_pos h]

theorem enterTrack_spec (s : State) (c : Chan) : ((s.enterTrack c).rx[c]).st = .track ∧ ((s.enterTrack c).rx[c]).lock = true :=
  ⟨congrArg Rx.st (setRx_self _ _ _), congrArg Rx.lock (setRx_self _ _ _)⟩

/-- A chain that leaves HELD acquires, and its deframer sees light. -/
theorem leaveHeld_eq (s : State) (c : Chan) (offset : Int) (t : Nat) :
    ∃ (u : State) (d : Bool), s.leaveHeld c offset t = (u.acquire c d).dsfLight c := ⟨_, _, rfl⟩

theorem leaveHeld_st (s : State) (c : Chan) (offset : Int) (t : Nat) : ((s.leaveHeld c offset t).rx[c]).st = .acquire := by
  obtain ⟨u, d, hu⟩ := leaveHeld_eq s c offset t
  rw [hu, dsfLight_rx]
  exact acquire_st u c d

/-- An unplanned hold. -/
theorem holdNow_spec (s : State) (c : Chan) (t : Nat) :
    ((s.holdNow c t).rx[c]).st = .held ∧ ((s.holdNow c t).rx[c]).planned = false := by
  have hheld : ∀ x : Rx, x.st = .held → (((s.setRx c x).bump (R.LRX_CNT_FREEZE c.val)).rxEvent c E.LRX_FROZEN).rx[c] = x := by
    intro x _
    rw [rxEvent_rx]
    exact setRx_self s c x
  unfold State.holdNow
  dsimp only
  rw [dsfHold_rx (by rw [hheld _ rfl]; exact (by decide : RxSt.held ≠ .doze)), hheld _ rfl]
  exact ⟨rfl, rfl⟩

/-! ### RX_CTL (R109) -/

theorem enable_plain (c : Chan) : plainField (F.LRX_RX_CTL_ENABLE c.val) = true := by
  revert c
  decide +kernel

theorem rxOn_st (h : (s.rx[c]).st = .off) (hl : s.pwr.limp = false) : ((s.rxOn c).rx[c]).st = .waitLight := by
  have hon : s.rxOn c = _ := if_neg (by rintro (e | e); exacts [e h, ne_true_of_eq_false hl e])
  rw [hon, discardGrants_rx, dsfOn_rx (by rw [setRx_self]; exact (by decide : RxSt.waitLight ≠ .doze)), setRx_self]

theorem rxEnable_completes (v : Word) (ht : Taken s r (R.LRX_RX_CTL c.val)) (h : (s.rx[c]).st = .off) (hl : s.pwr.limp = false) :
    ∃ t, exec (.rxEnable r c v) s = .next t ∧ t.resp = .done ∧ (t.rx[c]).st = .waitLight := by
  have hbit := (State.bit_store_plain (s.reply .done) (F.LRX_RX_CTL_ENABLE c.val) (v ||| 1) (enable_plain c) rfl).trans
    (PageControl.getLsbD_or_true (b := 0) v (by decide))
  have hop : (s.reply .done).opRxCtl c (v ||| 1) = ((s.reply .done).store (R.LRX_RX_CTL c.val) (v ||| 1)).rxOn c := if_pos hbit
  exact ⟨_, congrArg Host.Outcome.next ((Taken_access ht).trans hop),
    State.rxOn_keeps c (List.Subset.refl _) (SameBut.refl _ _) .resp (by decide), rxOn_st h hl⟩

theorem rxOff_st (h : (s.rx[c]).st ≠ .off) : ((s.rxOff c).rx[c]).st = .off := by
  have hoff : s.rxOff c = _ := if_neg h
  rw [hoff, discardGrants_rx, cutBurst_rx, dsfOff_rx (by rw [setRx_self]; exact (by decide : RxSt.off ≠ .doze)), setRx_self]

theorem rxDisable_completes (v : Word) (ht : Taken s r (R.LRX_RX_CTL c.val)) (h : (s.rx[c]).st ≠ .off) :
    ∃ t, exec (.rxDisable r c v) s = .next t ∧ t.resp = .done ∧ (t.rx[c]).st = .off := by
  have hcleared : (v &&& ~~~1).getLsbD 0 = false := by rw [BitVec.getLsbD_and]; simp
  have hbit := (State.bit_store_plain (s.reply .done) (F.LRX_RX_CTL_ENABLE c.val) (v &&& ~~~1) (enable_plain c) rfl).trans hcleared
  have hop : (s.reply .done).opRxCtl c (v &&& ~~~1) = ((s.reply .done).store (R.LRX_RX_CTL c.val) (v &&& ~~~1)).rxOff c :=
    if_neg (ne_true_of_eq_false hbit)
  exact ⟨_, congrArg Host.Outcome.next ((Taken_access ht).trans hop),
    State.rxOff_keeps c (List.Subset.refl _) (SameBut.refl _ _) .resp (by decide), rxOff_st h⟩

/-! ### From light to TRACK (R109, R125) -/

theorem detect_waitLight {offset : Int} {peak gain t : Nat} (h : (s.rx[c]).st = .waitLight)
    (hp : s.fld (F.LRX_PRE_CFG_THR c.val) ≤ peak) :
    s.detect c offset peak gain t = (((s.preLast c peak 0 true false).detected c t).freeze c gain).acquire c true := by
  unfold State.detect
  dsimp only
  rw [if_neg (Nat.not_lt.mpr hp), h]

theorem preambleDetect_completes (offset : Int) (peak : BitVec 8) {gain : BitVec 9} {lag : Nat} (hw : detectWf gain lag = true)
    (h : (s.rx[c]).st = .waitLight) (hp : s.fld (F.LRX_PRE_CFG_THR c.val) ≤ peak.toNat) :
    ∃ t, exec (.preambleDetect c offset peak gain lag) s = .next t ∧ (t.rx[c]).st = .acquire ∧ (t.rx[c]).cur.agc = gain.toNat := by
  obtain ⟨ts, w, htrims⟩ := trimsIn_rx s c
  have hst : ((s.trimsIn c).rx[c]).st = .waitLight := (congrArg Rx.st htrims).trans h
  have hthr : (s.trimsIn c).fld (F.LRX_PRE_CFG_THR c.val) ≤ peak.toNat := by rwa [State.fld_of_regs (trimsIn_regs s c)]
  refine ⟨_, (if_neg (not_not_intro hw)).trans (congrArg Host.Outcome.next (detect_waitLight hst hthr)), acquire_st _ _ _, ?_⟩
  rw [acquire_frozen (congrArg Rx.frozen (setRx_self _ _ _))]
  exact congrArg (fun x : Rx => x.cur.agc) (setRx_self _ _ _)

theorem blindAcquire_completes (h : (s.rx[c]).st = .waitLight) :
    ∃ t, exec (.blindAcquire c) s = .next t ∧ (t.rx[c]).st = .acquire ∧ t.pins.los[c] = false :=
  ⟨_, congrArg Host.Outcome.next (if_pos h), acquire_st _ _ _, Vector.getElem_set_self ..⟩

theorem trainingCountReached_completes {a : Adapt} (hw : adaptWf a = true) (h : (s.rx[c]).st = .acquire) :
    ∃ t, exec (.trainingCountReached c true a) s = .next t ∧ (t.rx[c]).st = .track ∧ (t.rx[c]).lock = true :=
  ⟨_, (if_neg (not_not_intro hw)).trans (congrArg Host.Outcome.next ((if_neg (not_not_intro h)).trans (if_pos rfl))),
    enterTrack_spec _ c⟩

/-! ### Holds and dozes (R109, R114, R126-R129) -/

theorem lrx_counters_not_event (c : Chan) : eventReg (R.LRX_CNT_FREEZE c.val) = false ∧ eventReg (R.LRX_CNT_LOL c.val) = false ∧
    eventReg (R.LRX_CNT_MISS c.val) = false ∧ eventReg (R.LRX_CNT_CLIP c.val) = false ∧ eventReg (R.LRX_LQ c.val) = false := by
  revert c
  decide

theorem plannedHold_completes {g : Fin 250} (h : (s.rx[c]).st = .track) (hm : s.mapValid c = true)
    (hd : s.markOf c ((s.dsf[c]).place false g.val) = .dark) :
    ∃ t, exec (.plannedHold c g) s = .next t ∧ (t.rx[c]).st = .held ∧ (t.rx[c]).planned = true ∧
      t.rd (R.LRX_CNT_FREEZE c.val) = s.rd (R.LRX_CNT_FREEZE c.val) + 1 := by
  refine ⟨_, congrArg Host.Outcome.next (if_pos ⟨h, hm, hd⟩), ?_, ?_, ?_⟩
  · rw [rxEvent_rx]
    exact congrArg Rx.st (setRx_self _ _ _)
  · rw [rxEvent_rx]
    exact congrArg Rx.planned (setRx_self _ _ _)
  · rw [rxEvent_rd _ _ _ (lrx_counters_not_event c).1]
    exact State.rd_bump_self _ _

theorem unplannedHold_completes (h : (s.rx[c]).st = .track) :
    ∃ t, exec (.unplannedHold c) s = .next t ∧ (t.rx[c]).st = .held ∧ (t.rx[c]).planned = false :=
  ⟨_, congrArg Host.Outcome.next (if_pos h), holdNow_spec s c _⟩

/-- The LOS pin is set, and the chain says so. -/
def losRaised (s : State) (c : Chan) : State :=
  ({ s with pins := { s.pins with los := s.pins.los.set c true } }).rxEvent c E.LRX_LOS

theorem losHigh_track (n : Nat) (h : (s.rx[c]).st = .track) :
    s.losHigh c n = (losRaised s c).holdNow c (s.clock.mono - symNs (min n 4095)) := by
  unfold State.losHigh
  dsimp only
  rw [h]
  rfl

theorem losAssert_completes (n : Nat) (h : (s.rx[c]).st = .track) :
    ∃ t, exec (.losAssert c n) s = .next t ∧ t.pins.los[c] = true ∧ (t.rx[c]).st = .held := by
  refine ⟨_, congrArg Host.Outcome.next (losHigh_track n h), ?_, (holdNow_spec _ c _).1⟩
  have hhold : ∀ (t : State) (n : Nat), (t.holdNow c n).pins = t.pins := fun t n =>
    State.holdNow_keeps c n (List.Subset.refl _) (SameBut.refl _ t) .pins (by decide)
  have hpins : (losRaised s c).pins = _ := State.fire_pins _ _ _
  rw [hhold, hpins]
  exact Vector.getElem_set_self ..

theorem dozeEnter_completes {g : Fin 250} (h : (s.rx[c]).st = .track) (he : s.bit (F.LRX_RX_CTL_DOZE_EN c.val) = true)
    (hm : s.mapValid c = true) (hrun : s.dozeRun c g.val = true) :
    ∃ t, exec (.dozeEnter c g) s = .next t ∧ (t.rx[c]).st = .doze :=
  ⟨_, congrArg Host.Outcome.next (if_pos ⟨h, he, hm, hrun⟩), congrArg Rx.st (setRx_self _ _ _)⟩

theorem dozeWake_completes (h : (s.rx[c]).st = .doze) : ∃ t, exec (.dozeWake c) s = .next t ∧ (t.rx[c]).st = .track :=
  ⟨_, congrArg Host.Outcome.next (if_pos h), (enterTrack_spec _ c).1⟩

theorem cdrLossOfLock_completes (h : (s.rx[c]).st = .track) :
    ∃ t, exec (.cdrLossOfLock c) s = .next t ∧ (t.rx[c]).st = .acquire ∧
      t.rd (R.LRX_CNT_LOL c.val) = s.rd (R.LRX_CNT_LOL c.val) + 1 := by
  refine ⟨_, congrArg Host.Outcome.next (if_pos h), acquire_st _ _ _, ?_⟩
  exact (rxEvent_rd (s.bump _) c E.LRX_LOL (lrx_counters_not_event c).2.1).trans (State.rd_bump_self _ _)

theorem armWindowOpen_completes (h : (s.rx[c]).st = .held) (hp : (s.rx[c]).planned = true) (ho : (s.rx[c]).openS = false)
    (ha : (s.rx[c]).armed = false) : ∃ t, exec (.armWindowOpen c) s = .next t ∧ (t.rx[c]).armed = true := by
  obtain ⟨ts, w, htrims⟩ := trimsIn_rx s c
  have hheld : ((s.trimsIn c).rx[c]).st = .held ∧ ((s.trimsIn c).rx[c]).planned = true ∧ ¬ ((s.trimsIn c).rx[c]).openS = true ∧
      ¬ ((s.trimsIn c).rx[c]).armed = true := by
    rw [htrims]
    exact ⟨h, hp, ne_true_of_eq_false ho, ne_true_of_eq_false ha⟩
  exact ⟨_, congrArg Host.Outcome.next (if_pos hheld), congrArg Rx.armed (setRx_self _ _ _)⟩

theorem armWindowClose_completes (h : (s.rx[c]).st = .held) (hp : (s.rx[c]).planned = true) (ha : (s.rx[c]).armed = true) :
    ∃ t, exec (.armWindowClose c) s = .next t ∧ (t.rx[c]).armed = false ∧ (t.rx[c]).openS = true ∧
      t.rd (R.LRX_CNT_MISS c.val) = s.rd (R.LRX_CNT_MISS c.val) + 1 := by
  refine ⟨_, congrArg Host.Outcome.next (if_pos ⟨h, hp, ha⟩), ?_, ?_, ?_⟩
  · rw [rxEvent_rx]
    exact congrArg Rx.armed (setRx_self _ _ _)
  · rw [rxEvent_rx]
    exact congrArg Rx.openS (setRx_self _ _ _)
  · obtain ⟨-, -, hmiss, -⟩ := lrx_counters_not_event c
    rw [rxEvent_rd _ _ _ hmiss]
    exact State.rd_bump_self _ _

/-! ### ADAPT_CMD (R117, R123) -/

theorem opAdapt_resp (s : State) (c : Chan) (v : Word) : (s.opAdapt c v).resp = s.resp :=
  State.opAdapt_keeps c v (List.Subset.refl _) (SameBut.refl _ s) .resp (by decide)

theorem simDetect_completes (v : Word) (ht : Taken s r (R.LRX_ADAPT_CMD c.val)) (h : (s.rx[c]).st = .held) :
    ∃ t, exec (.simDetect r c v) s = .next t ∧ t.resp = .done ∧ (t.rx[c]).st = .acquire := by
  refine ⟨_, congrArg Host.Outcome.next (Taken_access ht), opAdapt_resp _ _ _, ?_⟩
  unfold State.opAdapt
  dsimp only
  rw [if_pos ⟨PageControl.getLsbD_or_true v (by decide), h⟩]
  exact leaveHeld_st _ _ _ _

theorem saveDef_completes (ht : Taken s r (R.LRX_ADAPT_CMD c.val)) (h : (s.rx[c]).st = .track) (h2 : v.getLsbD 2 = false) :
    ∃ t, exec (.saveDef r c v) s = .next t ∧ t.resp = .done ∧ (t.rx[c]).dflt = (s.rx[c]).cur ∧ (t.rx[c]).defValid = true := by
  have hop : (s.reply .done).opAdapt c (v ||| 2) =
      (s.reply .done).setRx c { s.rx[c] with dflt := (s.rx[c]).cur, defValid := true } := by
    unfold State.opAdapt
    dsimp only
    rw [if_neg (by rintro ⟨-, hheld⟩; cases h.symm.trans hheld),
      if_neg (ne_true_of_eq_false (PageControl.getLsbD_or_false h2 (by decide))),
      if_pos ⟨PageControl.getLsbD_or_true v (by decide), h⟩]
    rfl
  exact ⟨_, congrArg Host.Outcome.next ((Taken_access ht).trans hop), rfl, congrArg Rx.dflt (setRx_self _ _ _),
    congrArg Rx.defValid (setRx_self _ _ _)⟩

theorem loadFactory_completes (ht : Taken s r (R.LRX_ADAPT_CMD c.val)) (h0 : v.getLsbD 0 = false) :
    ∃ t, exec (.loadFactory r c v) s = .next t ∧ t.resp = .done ∧ (t.rx[c]).dflt = factorySet ∧ (t.rx[c]).defValid = false := by
  have hop : (s.reply .done).opAdapt c (v ||| 4) =
      (s.reply .done).setRx c { s.rx[c] with dflt := factorySet, defValid := false } := by
    unfold State.opAdapt
    dsimp only
    rw [if_neg (fun hc => ne_true_of_eq_false (PageControl.getLsbD_or_false h0 (by decide)) hc.1),
      if_pos (PageControl.getLsbD_or_true v (by decide))]
    rfl
  exact ⟨_, congrArg Host.Outcome.next ((Taken_access ht).trans hop), rfl, congrArg Rx.dflt (setRx_self _ _ _),
    congrArg Rx.defValid (setRx_self _ _ _)⟩

/-! ### Measurements (R131-R135, R142) -/

theorem adapt_rd (s : State) (c : Chan) (a : Adapt) (k : Nat) : (s.adapt c a).rd k = s.rd k := rfl

theorem lqDone_rd (h : (s.rx[c]).st = .track) (lq : Nat) (a : Adapt) :
    (s.lqDone c lq a).rd (R.LRX_LQ c.val) = BitVec.ofNat 32 (min lq 400 + 2 ^ 16) := by
  obtain ⟨-, -, -, -, hlq⟩ := lrx_counters_not_event c
  unfold State.lqDone
  dsimp only
  rw [if_neg (not_not_intro h)]
  split
  · rw [rxEvent_rd _ _ _ hlq, State.setRx_rd, adapt_rd, State.rd_wr_self]
  · rw [State.setRx_rd, adapt_rd, State.rd_wr_self]

theorem lqBlock_completes (lq : BitVec 9) {a : Adapt} (hw : adaptWf a = true) (h : (s.rx[c]).st = .track) :
    ∃ t, exec (.lqBlock c lq a) s = .next t ∧ t.rd (R.LRX_LQ c.val) = BitVec.ofNat 32 (min lq.toNat 400 + 2 ^ 16) :=
  ⟨_, if_neg (not_not_intro hw), lqDone_rd h lq.toNat a⟩

theorem noiseMeasure_completes (floor : BitVec 10) (he : s.bit (F.LRX_RX_CTL_NF_EN c.val) = true) (h : (s.rx[c]).st = .held)
    (hp : (s.rx[c]).planned = true) (hs : 2 ≤ (s.rx[c]).span) :
    ∃ t, exec (.noiseMeasure c floor) s = .next t ∧ t.rd (R.LRX_NOISE c.val) = BitVec.ofNat 32 (floor.toNat + 2 ^ 16) :=
  ⟨_, congrArg Host.Outcome.next (if_pos ⟨he, h, hp, hs⟩), State.rd_wr_self _ _ _⟩

/-- The 16 bits of RATE_PPM, from the 32 of the word measured. -/
theorem rate_field (ppm : Int) :
    BitVec.ofNat 16 ((BitVec.ofInt 32 ppm).toNat % 2 ^ 16 % 2 ^ 16) = BitVec.ofInt 16 ppm := by
  apply BitVec.eq_of_toNat_eq
  rw [BitVec.toNat_ofNat, BitVec.toNat_ofInt, BitVec.toNat_ofInt]
  omega

/-- The state after a rate within 200 ppm has been measured. -/
def rated (s : State) (c : Chan) (ppm : Int) (lock : Bool) : State :=
  (s.setFld (F.LRX_RATE_PPM c.val) ((BitVec.ofInt 32 ppm).toNat % 2 ^ 16)).setRx c
    { s.rx[c] with rateOor := false, lock := if (s.rx[c]).st = .acquire then lock else (s.rx[c]).lock }

theorem rateDone_within {ppm : Int} (lock : Bool) (hn : s.ncoOn c = true) (h : ppm.natAbs ≤ 20000) :
    s.rateDone c ppm lock = rated s c ppm lock := by
  have hin : -(2 ^ 15) ≤ ppm ∧ ppm < 2 ^ 15 := by omega
  have hnear : decide (20000 < ppm.natAbs) = false := by simpa using h
  have hclose : decide (40000 < ppm.natAbs) = false := by
    rw [decide_eq_false_iff_not]
    omega
  unfold State.rateDone
  simp only [hn, not_true_eq_false, if_false, hin, and_self, if_true, hnear, hclose, Bool.false_eq_true, false_and, Bool.not_false,
    Bool.and_true]
  rfl

theorem rateMeasure_completes {ppm : Int} (lock : Bool) (hn : s.ncoOn c = true) (h : ppm.natAbs ≤ 20000) :
    ∃ t, exec (.rateMeasure c ppm lock) s = .next t ∧ BitVec.ofNat 16 (t.fld (F.LRX_RATE_PPM c.val)) = BitVec.ofInt 16 ppm ∧
      (t.rx[c]).rateOor = false := by
  refine ⟨_, congrArg Host.Outcome.next (rateDone_within lock hn h), ?_, congrArg Rx.rateOor (setRx_self _ _ _)⟩
  have hfld : (rated s c ppm lock).fld (F.LRX_RATE_PPM c.val) = (BitVec.ofInt 32 ppm).toNat % 2 ^ 16 % 2 ^ 16 := by
    unfold rated
    rw [State.setRx_fld]
    exact State.fld_setFld_self s (F.LRX_RATE_PPM c.val) _ (show 0 + 16 ≤ 32 by decide)
  rw [hfld]
  exact rate_field ppm

theorem clipBlock_completes {clips : Nat} (h : (s.rx[c]).st = .track) (hc : 2 ^ s.fld (F.LRX_AGC_CFG_CLIP_THR c.val) < clips) :
    ∃ t, exec (.clipBlock c clips) s = .next t ∧ t.rd (R.LRX_CNT_CLIP c.val) = s.rd (R.LRX_CNT_CLIP c.val) + 1 ∧
      (t.rx[c]).cur.agc = (s.rx[c]).cur.agc - 10 := by
  have hop : s.clipsDone c clips = ((s.bump (R.LRX_CNT_CLIP c.val)).adapt c { (s.rx[c]).cur with
      agc := (s.rx[c]).cur.agc - 10 }).rxEvent c E.LRX_CLIP := by
    unfold State.clipsDone
    dsimp only
    rw [if_neg (by rintro (e | e | e); exacts [(nomatch h.symm.trans e), (nomatch h.symm.trans e), Nat.not_le.mpr hc e])]
    exact if_pos h
  refine ⟨_, congrArg Host.Outcome.next hop, ?_, ?_⟩
  · obtain ⟨-, -, -, hclip, -⟩ := lrx_counters_not_event c
    rw [rxEvent_rd _ _ _ hclip, adapt_rd]
    exact State.rd_bump_self _ _
  · rw [rxEvent_rx]
    exact congrArg (fun x : Rx => x.cur.agc) (setRx_self _ _ _)

/-! ### Calibration (R136-R140) -/

theorem calStart_completes (ht : Taken s r (R.LRX_CAL_CTL c.val)) (hb : (s.rx[c]).calBusy = false) (h1 : v.getLsbD 1 = false)
    (h : (s.rx[c]).st = .off) :
    ∃ t, exec (.calStart r c v) s = .next t ∧ t.resp = .done ∧ (t.rx[c]).cal = .running ∧ (t.rx[c]).calSteps = 0 := by
  have hstart : (v ||| 1).getLsbD 0 = true := PageControl.getLsbD_or_true v (by decide)
  have hop : (s.reply .done).opCal c (v ||| 1) =
      ((s.reply .done).store (R.LRX_CAL_CTL c.val) (v ||| 1)).setRx c { s.rx[c] with cal := .running, calSteps := 0 } := by
    unfold State.opCal
    dsimp only
    rw [if_neg (fun hc => ne_true_of_eq_false (PageControl.getLsbD_or_false h1 (by decide)) hc.1),
      if_neg (fun hc => hc.elim (fun hn => hn hstart) (ne_true_of_eq_false hb))]
    exact if_pos h
  exact ⟨_, congrArg Host.Outcome.next ((Taken_access ht).trans hop), rfl, congrArg Rx.cal (setRx_self _ _ _),
    congrArg Rx.calSteps (setRx_self _ _ _)⟩

theorem calAbort_completes (v : Word) (ht : Taken s r (R.LRX_CAL_CTL c.val)) (hb : (s.rx[c]).calBusy = true) :
    ∃ t, exec (.calAbort r c v) s = .next t ∧ t.resp = .done ∧ (t.rx[c]).cal = .aborted := by
  have hop : (s.reply .done).opCal c (v ||| 2) =
      ((s.reply .done).store (R.LRX_CAL_CTL c.val) (v ||| 2)).setRx c { s.rx[c] with cal := .aborted } := by
    have hbusy : ¬ (v ||| 2).getLsbD 0 = true ∨ ((s.reply .done).rx[c]).calBusy = true := .inr hb
    unfold State.opCal
    simp only [if_pos hbusy]
    exact if_pos ⟨PageControl.getLsbD_or_true v (by decide), hb⟩
  exact ⟨_, congrArg Host.Outcome.next ((Taken_access ht).trans hop), rfl, congrArg Rx.cal (setRx_self _ _ _)⟩

theorem calStepEnd_off (k : Nat) (trim : Word) (hb : (s.rx[c]).calBusy = true) (h : (s.rx[c]).st = .off) :
    ((s.calStepEnd c k false trim).rx[c]).calSteps = (s.rx[c]).calSteps + 1 := by
  obtain ⟨ts, w, htrims⟩ := trimsIn_rx s c
  have hbusy : ((s.trimsIn c).rx[c]).calBusy = true := by rw [htrims]; exact hb
  have hoff : ((s.trimsIn c).rx[c]).st = .off := by rw [htrims]; exact h
  have hsteps : ((s.trimsIn c).rx[c]).calSteps = (s.rx[c]).calSteps := by rw [htrims]
  unfold State.calStepEnd
  dsimp only
  rw [if_neg (by rintro (e | e); exacts [e hbusy, e (.inl hoff)]), if_neg Bool.false_ne_true]
  refine Eq.trans ?_ (congrArg (· + 1) hsteps)
  by_cases hlast : ((s.trimsIn c).rx[c]).calSteps + 1 < 96
  · rw [if_pos hlast]
    exact congrArg Rx.calSteps (setRx_self _ _ _)
  · rw [if_neg hlast, rxEvent_rx]
    exact congrArg Rx.calSteps (setRx_self _ _ _)

theorem calStep_completes (k : Nat) (trim : Word) (hb : (s.rx[c]).calBusy = true) (h : (s.rx[c]).st = .off) :
    ∃ t, exec (.calStep c k false trim) s = .next t ∧ (t.rx[c]).calSteps = (s.rx[c]).calSteps + 1 :=
  ⟨_, rfl, calStepEnd_off k trim hb h⟩

end Sys2Proof.Proofs.ReceiverEffects
end

section
/-! PROOF. The deframer commands of O57. -/

namespace Sys2Proof.Proofs.DeframerEffects

open Sys2Proof Sys2Proof.Machine

variable {s : State} {r : Req} {c : Chan}

/-! ### The record of a deframer -/

theorem setDsf_self (s : State) (c : Chan) (x : Dsf) : (s.setDsf c x).dsf[c] = x := Vector.getElem_set_self ..

/-- Presence, rolls and the demapper follow a move of the deframer, and leave its record alone. -/
theorem dsfMove_self (s : State) (c : Chan) (x : Dsf) : (s.dsfMove c x).dsf[c] = x := by
  have hpresence : (s.withPresence (fun t => t.setDsf c x)).dsf = (s.setDsf c x).dsf :=
    State.presenceMoved_keeps _ (List.Subset.refl _) (SameBut.refl _ (s.setDsf c x)) .dsf (by decide)
  have hrolls : ∀ t : State, (t.rollsFail c).dsf = t.dsf := fun t =>
    State.rollsFail_keeps c (List.Subset.refl _) (SameBut.refl _ t) .dsf (by decide)
  have hlost : ∀ t : State, (t.tribFrameLost c).dsf = t.dsf := fun t =>
    State.tribFrameLost_keeps c (List.Subset.refl _) (SameBut.refl _ t) .dsf (by decide)
  have hdsf : (s.dsfMove c x).dsf = (s.setDsf c x).dsf := by
    unfold State.dsfMove
    dsimp only
    split <;> split <;> simp only [hlost, hrolls, hpresence]
  rw [hdsf]
  exact setDsf_self s c x

theorem dsfEvent_dsf (s : State) (c : Chan) (b : Nat) : (s.dsfEvent c b).dsf = s.dsf :=
  State.dsfEvent_keeps c b (List.Subset.refl _) (SameBut.refl _ s) .dsf (by decide)

theorem lossOfFrame_st (s : State) (c : Chan) : ((s.lossOfFrame c).dsf[c]).st = .hunt := by
  unfold State.lossOfFrame
  dsimp only
  rw [State.fire_dsf, State.stopTimer_dsf, dsfMove_self]
  rfl

/-! ### The search and the grid (R157-R164) -/

theorem syncCandidate_completes {pos : Nat} {w : BitVec 64} (hpos : pos < 3200000)
    (hst : (s.dsf[c]).st = .hunt ∨ (s.dsf[c]).st = .confirm) (hrx : (s.rx[c]).st = .track)
    (hw : syncDiff w ≤ s.fld F.DSF_ALIGN_CTL_SYNC_TOL) (hn : (s.dsf[c]).cands.length < 4)
    (hnew : ∀ k ∈ (s.dsf[c]).cands, k.pos ≠ pos) :
    ∃ t, exec (.syncCandidate c pos w) s = .next t ∧ (t.dsf[c]).cands = (s.dsf[c]).cands ++ [⟨pos, 0, 0⟩] := by
  have hfree : ¬ (s.dsf[c]).cands.any (fun k => decide (k.pos = pos)) = true := by
    simpa only [List.any_eq_true, decide_eq_true_eq, not_exists, not_and] using hnew
  exact ⟨_, (if_neg (Nat.not_le.mpr hpos)).trans (congrArg Host.Outcome.next (if_pos ⟨hst, hrx, hw, hn, hfree⟩)),
    congrArg Dsf.cands (setDsf_self _ _ _)⟩

theorem trimsIn_dsf (s : State) (c : Chan) : (s.trimsIn c).dsf = s.dsf :=
  State.trimsIn_keeps c (List.Subset.refl _) (SameBut.refl _ s) .dsf (by decide)

/-- Trims that come in at a group boundary do not decide whether the group is taken. -/
theorem trimsIn_takesGroup (s : State) (c : Chan) (g : GroupIn) : (s.trimsIn c).takesGroup c g = s.takesGroup c g := by
  have hset : ∀ x : Rx, x.st = (s.rx[c]).st → (s.setRx c x).takesGroup c g = s.takesGroup c g := by
    intro x hx
    have hrx : ((s.setRx c x).rx[c]).st = (s.rx[c]).st := (congrArg Rx.st (ReceiverEffects.setRx_self s c x)).trans hx
    unfold State.takesGroup
    rw [hrx]
    rfl
  unfold State.trimsIn
  split
  · exact hset _ rfl
  · rfl

/-- The state before a valid header in ALIGNED is taken: the grid has passed to the new frame. -/
def aligned (s : State) (c : Chan) (g : GroupIn) (h : FrameHdr) : State :=
  let t := (s.countCws c g.cws).chanCheck c g.cws h
  t.setDsf c { (t.dsf[c]).advance with run := 0, grpOk := true, grpDead := false, deliver := true, ctrl := true }

theorem groupDecode_aligned {g : GroupIn} {h : FrameHdr} (hh : g.hdr = some h) (ht : s.takesGroup c g = true)
    (hst : (s.dsf[c]).st = .aligned) (hv : headerValid c g.cws h = true) :
    s.groupDecode c g = ((aligned s c g h).goodHeader c h).keepStream c g := by
  have htaken : s.groupDecode c g = (((s.countCws c g.cws).chanCheck c g.cws h).alignedHeader c g.cws h).keepStream c g := by
    unfold State.groupDecode
    rw [if_neg (by simp [ht]), hst, hh]
  rw [htaken]
  exact congrArg (State.keepStream · c g) (if_pos hv)

theorem groupDecode_completes {x : GroupRaw} {g : GroupIn} {h : FrameHdr} (hw : groupWf x = true)
    (hg : (s.trimsIn c).readLine c x = g) (hh : g.hdr = some h) (ht : s.takesGroup c g = true)
    (hst : (s.dsf[c]).st = .aligned) (hv : headerValid c g.cws h = true) :
    ∃ u : State, exec (.groupDecode c x) s = .next ((u.goodHeader c h).keepStream c g) ∧ (u.dsf[c]).run = 0 ∧ (u.dsf[c]).grp = 0 := by
  have hdecode : s.decodeLine c x = ((aligned (s.trimsIn c) c g h).goodHeader c h).keepStream c g := by
    have hread : s.decodeLine c x = (s.trimsIn c).groupDecode c ((s.trimsIn c).readLine c x) := rfl
    rw [hread, hg]
    exact groupDecode_aligned hh ((trimsIn_takesGroup s c g).trans ht) (by rwa [trimsIn_dsf]) hv
  exact ⟨_, (if_neg (not_not_intro hw)).trans (congrArg Host.Outcome.next hdecode), congrArg Dsf.run (setDsf_self _ _ _),
    congrArg Dsf.grp (setDsf_self _ _ _)⟩

theorem plannedCoast_completes (hst : (s.dsf[c]).st = .aligned) (hd : s.markOf c ((s.dsf[c]).place true 0) = .dark) :
    ∃ t, exec (.plannedCoast c) s = .next t ∧ (t.dsf[c]).st = .coast ∧ (t.dsf[c]).planned = true :=
  ⟨_, congrArg Host.Outcome.next (if_pos ⟨hst, hd⟩), congrArg Dsf.st (dsfMove_self _ _ _), congrArg Dsf.planned (dsfMove_self _ _ _)⟩

theorem coastEnd_completes {g : Fin 250} (hst : (s.dsf[c]).st = .coast) (hp : (s.dsf[c]).planned = true)
    (hm : (s.rx[c]).mismatch = false) (hd : s.markOf c ((s.dsf[c]).place (decide (g.val = 0)) g.val) ≠ .dark) :
    ∃ t, exec (.coastEnd c g) s = .next t ∧ (t.dsf[c]).st = .aligned ∧ (t.dsf[c]).planned = false :=
  ⟨_, congrArg Host.Outcome.next ((if_pos ⟨hst, hp, hd⟩).trans (if_neg (ne_true_of_eq_false hm))),
    congrArg Dsf.st (dsfMove_self _ _ _), congrArg Dsf.planned (dsfMove_self _ _ _)⟩

theorem coastLimit_completes (hst : (s.dsf[c]).st = .coast) (hp : (s.dsf[c]).planned = false) :
    ∃ t, exec (.coastLimit c) s = .next t ∧ (t.dsf[c]).st = .hunt :=
  ⟨_, congrArg Host.Outcome.next (if_pos ⟨hst, ne_true_of_eq_false hp⟩), lossOfFrame_st _ c⟩

theorem coastFrameAdvance_completes (hst : (s.dsf[c]).st = .coast) :
    ∃ t, exec (.coastFrameAdvance c) s = .next t ∧ (t.dsf[c]).since = (s.dsf[c]).since + 1 ∧
      (t.dsf[c]).seed = ((s.dsf[c]).seed + 1) % 2 ^ 48 :=
  ⟨_, congrArg Host.Outcome.next (if_pos hst), congrArg Dsf.since (setDsf_self _ _ _), congrArg Dsf.seed (setDsf_self _ _ _)⟩

/-! ### The map (R175, R177) -/

/-- The map that was gathered is valid for the multiframe that begins. -/
def mapped (s : State) (c : Chan) (es : List MapEntry) (n : Nat) : State :=
  s.setDsf c { s.dsf[c] with secs := [], said := none, lastSec := 0, bad := false, map := .valid, entries := es, tail := n }

theorem multiframeStart_gathered {es : List MapEntry} {n : Nat} (hal : (s.dsf[c]).mfAl = true) (hidx : (s.dsf[c]).mfIdx = some 15)
    (ht : (s.dsf[c]).tail = 0) (hg : (s.dsf[c]).gathered = some (es, n)) :
    s.multiframeStart c = (mapped s c es n).extendHold c := by
  unfold State.multiframeStart
  dsimp only
  rw [if_neg (by rintro (e | e); exacts [e hal, e hidx]), if_neg (by omega), hg]
  rfl

theorem multiframeStart_completes {es : List MapEntry} {n : Nat} (hal : (s.dsf[c]).mfAl = true)
    (hidx : (s.dsf[c]).mfIdx = some 15) (ht : (s.dsf[c]).tail = 0) (hg : (s.dsf[c]).gathered = some (es, n)) :
    ∃ t, exec (.multiframeStart c) s = .next t ∧ (t.dsf[c]).map = .valid ∧ (t.dsf[c]).entries = es := by
  have hdsf : ((mapped s c es n).extendHold c).dsf = (mapped s c es n).dsf :=
    State.extendHold_keeps c (List.Subset.refl _) (SameBut.refl _ _) .dsf (by decide)
  refine ⟨_, congrArg Host.Outcome.next (multiframeStart_gathered hal hidx ht hg), ?_, ?_⟩ <;> rw [hdsf]
  · exact congrArg Dsf.map (setDsf_self _ _ _)
  · exact congrArg Dsf.entries (setDsf_self _ _ _)

/-! ### The bit-error ratio (R184) -/

/-- The mantissa and the exponent of a ratio fit their fields, and the state is the same but for a free value used. -/
theorem berRatio_spec (s : State) (num den : Nat) :
    (s.berRatio num den).1.1 ≤ 9 ∧ (s.berRatio num den).1.2 ≤ 15 ∧ (s.berRatio num den).2.dsf = s.dsf := by
  have hcode : ∀ x, ratioCode num den = some x → x.1 ≤ 9 ∧ x.2 ≤ 15 := by
    intro x hx
    unfold ratioCode at hx
    split at hx
    · cases hx
    · next i hi =>
      have hlt := List.mem_range.1 (List.mem_of_find?_eq_some hi)
      dsimp only at hx
      split at hx
      · cases hx
        exact ⟨‹_›, by omega⟩
      · split at hx
        · cases hx
          exact ⟨(by decide : 1 ≤ 9), by omega⟩
        · cases hx
  unfold State.berRatio
  split
  · next x hx =>
    split at hx
    · cases hx
    · exact ⟨(hcode x hx).1, (hcode x hx).2, rfl⟩
  · refine ⟨?_, ?_, rfl⟩ <;> simp only [freeRatio] <;> omega

/-- VALID of CHn_BER is bit 12 of the word that a second leaves. -/
theorem ber_valid {m e : Nat} (hm : m ≤ 9) (he : e ≤ 15) (b : Bool) :
    getField (BitVec.ofNat 32 (m + e * 2 ^ 8 + b2n b * 2 ^ 12)) 12 1 = 1 ↔ b = true := by
  unfold getField
  rw [BitVec.toNat_ofNat]
  cases b <;> simp only [b2n] <;> constructor <;> intro h <;> simp at h ⊢ <;> omega

theorem ber_reg_apart (c : Chan) : eventReg (R.DSF_CH_BER c.val) = false ∧ R.DSF_CH_BER c.val ≠ R.DSF_CH_STAT c.val := by
  revert c
  decide

theorem dsfEvent_rd (s : State) (c : Chan) (b : Nat) : (s.dsfEvent c b).rd (R.DSF_CH_BER c.val) = s.rd (R.DSF_CH_BER c.val) :=
  (State.fire_rd _ _ _ (ber_reg_apart c).1).trans (State.rd_setFld_ne _ _ _ (ber_reg_apart c).2)

/-- The word of CHn_BER for a mantissa, an exponent and the number of codewords decoded. -/
def berWord (m e n : Nat) : Word := BitVec.ofNat 32 (m + e * 2 ^ 8 + b2n (decide (1000 ≤ n)) * 2 ^ 12)

/-- A second writes its word and notes whether the ratio was high. -/
def berNoted (s : State) (c : Chan) (v : Word) (high : Bool) : State :=
  (s.wr (R.DSF_CH_BER c.val) v).setDsf c { (s.wr (R.DSF_CH_BER c.val) v).dsf[c] with berHigh := high }

/-- The state whose counts start again, with the ratio of the second that ended. -/
def berCounted (s : State) (c : Chan) : (Nat × Nat) × State :=
  (s.setDsf c { s.dsf[c] with berBits := 0, berCws := 0, berAll := 0 }).berRatio (s.dsf[c]).berBits ((s.dsf[c]).berCws * 6400)

/-- What a second leaves, before an event that the ratio raises. -/
def berDone (s : State) (c : Chan) (high : Bool) : State :=
  berNoted (berCounted s c).2 c (berWord (berCounted s c).1.1 (berCounted s c).1.2 (s.dsf[c]).berAll) high

theorem berSecond_eq (s : State) (c : Chan) : ∃ high : Bool, s.berSecond c =
    if high ∧ ¬ (s.dsf[c]).berHigh then (berDone s c high).dsfEvent c E.DSF_BER_HIGH else berDone s c high :=
  ⟨_, rfl⟩

theorem berSecond_cases (s : State) (c : Chan) : ∃ high : Bool, s.berSecond c = (berDone s c high).dsfEvent c E.DSF_BER_HIGH ∨
    s.berSecond c = berDone s c high := by
  obtain ⟨high, heq⟩ := berSecond_eq s c
  by_cases hraise : high ∧ ¬ (s.dsf[c]).berHigh
  · exact ⟨high, .inl (heq.trans (if_pos hraise))⟩
  · exact ⟨high, .inr (heq.trans (if_neg hraise))⟩

theorem berCounted_dsf (s : State) (c : Chan) :
    (berCounted s c).2.dsf[c] = { s.dsf[c] with berBits := 0, berCws := 0, berAll := 0 } := by
  unfold berCounted
  rw [(berRatio_spec _ _ _).2.2]
  exact setDsf_self _ _ _

theorem berNoted_counts (s : State) (c : Chan) (v : Word) (high : Bool) :
    ((berNoted s c v high).dsf[c]).berAll = (s.dsf[c]).berAll ∧ ((berNoted s c v high).dsf[c]).berCws = (s.dsf[c]).berCws := by
  unfold berNoted
  rw [setDsf_self, State.wr_dsf]
  exact ⟨rfl, rfl⟩

theorem berDone_dsf (s : State) (c : Chan) (high : Bool) :
    ((berDone s c high).dsf[c]).berAll = 0 ∧ ((berDone s c high).dsf[c]).berCws = 0 := by
  obtain ⟨hall, hcws⟩ := berNoted_counts (berCounted s c).2 c
    (berWord (berCounted s c).1.1 (berCounted s c).1.2 (s.dsf[c]).berAll) high
  exact ⟨hall.trans (congrArg Dsf.berAll (berCounted_dsf s c)), hcws.trans (congrArg Dsf.berCws (berCounted_dsf s c))⟩

theorem berDone_rd (s : State) (c : Chan) (high : Bool) : (berDone s c high).rd (R.DSF_CH_BER c.val) =
    berWord (berCounted s c).1.1 (berCounted s c).1.2 (s.dsf[c]).berAll :=
  (State.setDsf_rd _ _ _ _).trans (State.rd_wr_self _ _ _)

/-- What a second leaves: the counts start again, and CHn_BER holds the word of the ratio. -/
theorem berSecond_spec (s : State) (c : Chan) : ((s.berSecond c).dsf[c]).berAll = 0 ∧ ((s.berSecond c).dsf[c]).berCws = 0 ∧
    (s.berSecond c).rd (R.DSF_CH_BER c.val) = berWord (berCounted s c).1.1 (berCounted s c).1.2 (s.dsf[c]).berAll := by
  obtain ⟨high, heq⟩ := berSecond_cases s c
  obtain ⟨hall, hcws⟩ := berDone_dsf s c high
  have hword := berDone_rd s c high
  generalize berDone s c high = t at heq hall hcws hword
  obtain heq | heq := heq
  · rw [heq, dsfEvent_dsf, dsfEvent_rd]
    exact ⟨hall, hcws, hword⟩
  · rw [heq]
    exact ⟨hall, hcws, hword⟩

theorem berSecond_completes (s : State) (c : Chan) : ∃ t, exec (.berSecond c) s = .next t ∧ (t.dsf[c]).berAll = 0 ∧
    (t.dsf[c]).berCws = 0 ∧ (t.fld (F.DSF_CH_BER_VALID c.val) = 1 ↔ 1000 ≤ (s.dsf[c]).berAll) := by
  obtain ⟨hall, hcws, hword⟩ := berSecond_spec s c
  obtain ⟨hm, he, -⟩ := berRatio_spec (s.setDsf c { s.dsf[c] with berBits := 0, berCws := 0, berAll := 0 }) (s.dsf[c]).berBits
    ((s.dsf[c]).berCws * 6400)
  refine ⟨_, rfl, hall, hcws, ?_⟩
  have hfld : (s.berSecond c).fld (F.DSF_CH_BER_VALID c.val) = getField ((s.berSecond c).rd (R.DSF_CH_BER c.val)) 12 1 := rfl
  rw [hfld, hword]
  exact (ber_valid hm he _).trans decide_eq_true_iff

/-! ### Fragments (R185-R189) -/

/-- The next fragment begins where this one ends. -/
def fragmentPassed (s : State) (c : Chan) (h : BitVec 64) : State :=
  (s.setDsf c { s.dsf[c] with at_ := (s.dsf[c]).at_ + 8 + fragLen h }).rollDown c
    ((State.downFrame s c).getD 0)

theorem fragmentPassed_dsf (s : State) (c : Chan) (h : BitVec 64) :
    (fragmentPassed s c h).dsf[c] = { s.dsf[c] with at_ := (s.dsf[c]).at_ + 8 + fragLen h } := by
  have hroll : (fragmentPassed s c h).dsf = (s.setDsf c { s.dsf[c] with at_ := (s.dsf[c]).at_ + 8 + fragLen h }).dsf :=
    State.rollDown_keeps c _ (List.Subset.refl _) (SameBut.refl _ _) .dsf (by decide)
  rw [hroll]
  exact setDsf_self _ _ _

theorem fragmentPassed_tfrags (s : State) (c : Chan) (h : BitVec 64) : (fragmentPassed s c h).tfrags = s.tfrags :=
  State.rollDown_keeps c _ (List.Subset.refl _)
    (SameBut.refl _ (s.setDsf c { s.dsf[c] with at_ := (s.dsf[c]).at_ + 8 + fragLen h })) .tfrags (by decide)

/-- A fragment of a tributary that is for the terminal, in a whole group, while no label has been accepted. -/
theorem takeFragment_trib {h : BitVec 64} {f : FragIn} (hok : (s.dsf[c]).grpOk = true) (hpsl : (s.dsf[c]).psl = none)
    (htype : h.toNat / 2 ^ 60 = 2) (hbit : h.getLsbD 19 = false) :
    s.takeFragment c h f = s.setFrags c (s.tfrags[c] ++ [f.body]) := by
  unfold State.takeFragment
  dsimp only
  rw [if_neg (not_not_intro hok), hpsl]
  dsimp only
  rw [if_neg (by omega), if_neg (ne_true_of_eq_false hbit)]

theorem fragmentReceive_trib {stamp : Nat} {h : BitVec 64} (hdel : (s.dsf[c]).deliver = true) (hdead : (s.dsf[c]).grpDead = false)
    (hmine : s.markOf c ((s.dsf[c]).place false (s.dsf[c]).grp) = .mine)
    (hlen : (s.dsf[c]).at_ + 8 + fragLen h ≤ (s.dsf[c]).info.length) (hh : h = fragHeader (s.dsf[c]).info (s.dsf[c]).at_)
    (hhec : hecOf h = h.toNat % 2 ^ 16) (hok : (s.dsf[c]).grpOk = true) (htype : h.toNat / 2 ^ 60 = 2)
    (hhears : s.hears (h.toNat / 2 ^ 48 % 2 ^ 12) = true) :
    s.fragmentReceive c stamp =
      (fragmentPassed s c h).takeFragment c h ⟨slice (s.dsf[c]).info ((s.dsf[c]).at_ + 8) (fragLen h), stamp⟩ := by
  unfold State.fragmentReceive
  dsimp only
  rw [← hh, if_neg (by rintro (e | e | e | e); exacts [e hdel, ne_true_of_eq_false hdead e, e hmine, by omega]),
    if_neg (not_not_intro hhec), if_neg (by omega), if_pos hok, if_pos ⟨.inr htype, hhears⟩]
  rfl

theorem fragmentReceive_completes {stamp : Nat} {h : BitVec 64} (hdel : (s.dsf[c]).deliver = true) (hdead : (s.dsf[c]).grpDead = false)
    (hmine : s.markOf c ((s.dsf[c]).place false (s.dsf[c]).grp) = .mine)
    (hlen : (s.dsf[c]).at_ + 8 + fragLen h ≤ (s.dsf[c]).info.length) (hh : h = fragHeader (s.dsf[c]).info (s.dsf[c]).at_)
    (hhec : hecOf h = h.toNat % 2 ^ 16) (hok : (s.dsf[c]).grpOk = true) (htype : h.toNat / 2 ^ 60 = 2)
    (hbit : h.getLsbD 19 = false) (hpsl : (s.dsf[c]).psl = none) (hhears : s.hears (h.toNat / 2 ^ 48 % 2 ^ 12) = true) :
    ∃ t, exec (.fragmentReceive c stamp) s = .next t ∧
      t.tfrags[c] = s.tfrags[c] ++ [slice (s.dsf[c]).info ((s.dsf[c]).at_ + 8) (fragLen h)] := by
  have hdsf := fragmentPassed_dsf s c h
  have hkept := takeFragment_trib (f := ⟨slice (s.dsf[c]).info ((s.dsf[c]).at_ + 8) (fragLen h), stamp⟩)
    ((congrArg Dsf.grpOk hdsf).trans hok) ((congrArg Dsf.psl hdsf).trans hpsl) htype hbit
  rw [fragmentPassed_tfrags] at hkept
  exact ⟨_, congrArg Host.Outcome.next ((fragmentReceive_trib hdel hdead hmine hlen hh hhec hok htype hhears).trans hkept),
    Vector.getElem_set_self ..⟩

/-! ### FRAME_CNT (R168, R645) -/

theorem fcForget_completes (ht : Taken s r (R.DSF_CH_CMD c.val)) :
    ∃ t, exec (.fcForget r c) s = .next t ∧ t.resp = .done ∧ (t.dsf[c]).fc = none := by
  have hop : (s.reply .done).opChCmd c 1 = ((s.reply .done).setDsf c { s.dsf[c] with fc := none, since := 0 }).spendChannel c 2 :=
    if_pos (by decide)
  refine ⟨_, congrArg Host.Outcome.next ((Taken_access ht).trans hop), ?_, ?_⟩
  · exact State.spendChannel_keeps c 2 (List.Subset.refl _) (SameBut.refl _ _) .resp (by decide)
  · have hdsf : ∀ t : State, (t.spendChannel c 2).dsf = t.dsf := fun t =>
      State.spendChannel_keeps c 2 (List.Subset.refl _) (SameBut.refl _ t) .dsf (by decide)
    rw [hdsf]
    exact congrArg Dsf.fc (setDsf_self _ _ _)

/-- CHn_FC_LO reads as the low word of the frame count. -/
theorem readDSF_fcLo (s : State) (c : Chan) :
    (readDSF s (0x104 + c.val * 0x80)).getD 0 = BitVec.ofNat 32 ((s.downFrame c).getD 0) := by
  fin_cases c <;> rfl

theorem fcReadLatch_completes (hr : s.reaches r = true) (hc : s.readCause (R.DSF_CH_FC_LO c.val) true = 0)
    (hp : s.powered (R.DSF_CH_FC_LO c.val) = true) :
    ∃ t, exec (.fcReadLatch r c) s = .next t ∧ t.resp = .data (BitVec.ofNat 32 ((s.downFrame c).getD 0)) := by
  have hread : ∀ w op, s.readAccess r (R.DSF_CH_FC_LO c.val) true w op = op (s.reply (.data w)) := by
    intro w op
    unfold State.readAccess
    rw [if_neg (not_not_intro hr), hc]
    exact if_pos hp
  exact ⟨_, congrArg Host.Outcome.next (hread _ _), congrArg Resp.data (readDSF_fcLo s c)⟩

end Sys2Proof.Proofs.DeframerEffects
end

section
/-! PROOF. The tributary commands of O57. -/

namespace Sys2Proof.Proofs.TributaryEffects

open Sys2Proof Sys2Proof.Machine

variable {s t : State} {r : Req} {v : Word} {ctx : Fin 1024} {e : Nat} {l : Fin 48} {c : Chan}

/-! ### The record of a context -/

theorem trib_setTrib (s : State) (ctx : Fin 1024) (x : Trib) : (s.setTrib ctx x).trib ctx = x :=
  mapGet_mapPut_self (d := ({} : Trib)) s.tribs ctx.val x

theorem trib_setTrib_ne (s : State) {a b : Fin 1024} (x : Trib) (h : b ≠ a) : (s.setTrib a x).trib b = s.trib b :=
  mapGet_mapPut_ne (d := ({} : Trib)) s.tribs x (fun hv => h (Fin.ext hv))

theorem trib_of_tribs (h : t.tribs = s.tribs) (ctx : Fin 1024) : t.trib ctx = s.trib ctx :=
  congrArg (fun m => mapGet ({} : Trib) m ctx.val) h

theorem fire_trib (s : State) (f : Fld) (w p b : Nat) (ctx : Fin 1024) : ((s.setFld f w).fire p b).trib ctx = s.trib ctx :=
  trib_of_tribs ((State.fire_keeps p b (List.Subset.refl _) (SameBut.refl _ (s.setFld f w))) .tribs (by decide)) ctx

/-- Setting bits of ST_FLAGS.LATCH touches the latch of that context alone. -/
theorem tribFlag_trib (s : State) (ctx : Fin 1024) (bits : BitVec 9) :
    (∃ n, (s.tribFlag ctx bits).trib ctx = { s.trib ctx with latch := n }) ∧
      ∀ b, b ≠ ctx → (s.tribFlag ctx bits).trib b = s.trib b := by
  unfold State.tribFlag
  dsimp only
  split
  · exact ⟨⟨_, rfl⟩, fun _ _ => rfl⟩
  · split
    · exact ⟨⟨_, trib_setTrib _ _ _⟩, fun b hb => trib_setTrib_ne _ _ hb⟩
    · exact ⟨⟨_, (fire_trib _ _ _ _ _ _).trans (trib_setTrib _ _ _)⟩,
        fun b hb => (fire_trib _ _ _ _ _ _).trans (trib_setTrib_ne _ _ hb)⟩

theorem tribSet_trib (s : State) (ctx : Fin 1024) (x : Trib) : ∃ n, (s.tribSet ctx x).trib ctx = { x with latch := n } := by
  obtain ⟨n, hn⟩ := (tribFlag_trib (s.setTrib ctx x) ctx ((s.setTrib ctx x).tribNow ctx &&& ~~~ s.tribNow ctx)).1
  rw [trib_setTrib] at hn
  exact ⟨n, hn⟩

theorem tribSet_trib_ne (s : State) {a b : Fin 1024} (x : Trib) (h : b ≠ a) : (s.tribSet a x).trib b = s.trib b :=
  ((tribFlag_trib (s.setTrib a x) a _).2 b h).trans (trib_setTrib_ne s x h)

/-! ### The mapper and the demapper (R202, R207, R208, R211, R213) -/

theorem containerBuild_completes (hs : s.served ctx = some e) (hup : entUp e = true) :
    ∃ (u : State) (b : List Byte), exec (.containerBuild ctx) s =
      .next ((u.setTrib ctx { u.trib ctx with seq := ((s.trib ctx).seq + 1) % 16 }).queueContainer ctx b) := by
  have hexec : exec (.containerBuild ctx) s = .next (s.buildContainer ctx e) := by
    show execContainerBuild ctx s = _
    unfold execContainerBuild
    rw [hs]
    exact congrArg Host.Outcome.next (if_pos hup)
  exact ⟨_, _, hexec⟩

/-- The next container of a fragment, where its header checks and its context takes it and waits for no particular SEQ. -/
theorem receiveContainer_accepts {f : List Byte} {fs : List (List Byte)} (hf : s.tfrags[c] = f :: fs) (hlen : 3 ≤ f.length)
    (hcrc : crc8 ((f.take 2).map byteBits).flatten = f.getD 2 0) (hctx : ctx = Fin.ofNat 1024 (ofBytesBE (f.take 2) / 64))
    (hs : s.served ctx = some e) (hmap : s.mapEntry (s.tribCopy ctx) ctx.val = e) (hclass : entClass e ≤ 4)
    (hbytes : entBytes e ≤ f.length) (hdown : entDown e = true) (hchan : entChan e = c.val) (hexp : (s.trib ctx).expect = none) :
    s.receiveContainer c = (s.setFrags c (if f.drop (entBytes e) = [] then fs else f.drop (entBytes e) :: fs)).acceptContainer ctx e
      (f.take (entBytes e)) (ofBytesBE (f.take 2) / 4 % 16) := by
  unfold State.receiveContainer
  rw [hf]
  dsimp only
  rw [← hctx, hmap, if_neg (by rintro (h | h); exacts [by omega, h hcrc]), if_neg (by omega), if_neg (by omega), hs]
  dsimp only
  rw [if_neg (by rintro (h | h); exacts [h hdown, h hchan])]
  have hwait : ∀ (u : State) (bs : List Byte) (n : Nat), (u.trib ctx).expect = none →
      u.sequence ctx e bs n = u.acceptContainer ctx e bs n := by
    intro u bs n hu
    unfold State.sequence
    rw [hu]
  exact hwait _ _ _ hexp

theorem containerReceive_completes {f : List Byte} {fs : List (List Byte)} (hf : s.tfrags[c] = f :: fs) (hlen : 3 ≤ f.length)
    (hcrc : crc8 ((f.take 2).map byteBits).flatten = f.getD 2 0) (hctx : ctx = Fin.ofNat 1024 (ofBytesBE (f.take 2) / 64))
    (hs : s.served ctx = some e) (hmap : s.mapEntry (s.tribCopy ctx) ctx.val = e) (hclass : entClass e ≤ 4)
    (hbytes : entBytes e ≤ f.length) (hdown : entDown e = true) (hchan : entChan e = c.val) (hexp : (s.trib ctx).expect = none) :
    ∃ u : State, exec (.containerReceive c) s = .next (u.acceptContainer ctx e (f.take (entBytes e)) (ofBytesBE (f.take 2) / 4 % 16)) ∧
      u.tfrags = s.tfrags.set c (if f.drop (entBytes e) = [] then fs else f.drop (entBytes e) :: fs) :=
  ⟨_, congrArg Host.Outcome.next (receiveContainer_accepts hf hlen hcrc hctx hs hmap hclass hbytes hdown hchan hexp), rfl⟩

theorem desyncStart_completes (hs : s.served ctx = some e) (hdown : entDown e = true) (hflow : (s.trib ctx).flowing = false)
    (hloc : (s.trib ctx).loc = false) (hfill : entNom e * entPeriods e ≤ 2 * (s.trib ctx).down.length) :
    ∃ t, exec (.desyncStart ctx) s = .next t ∧ (t.trib ctx).flowing = true := by
  have hexec : exec (.desyncStart ctx) s = .next (s.setTrib ctx { s.trib ctx with flowing := true }) := by
    show execDesyncStart ctx s = _
    unfold execDesyncStart
    rw [hs]
    exact congrArg Host.Outcome.next (if_pos ⟨hdown, ne_true_of_eq_false hflow, ne_true_of_eq_false hloc, hfill⟩)
  exact ⟨_, hexec, congrArg Trib.flowing (trib_setTrib _ _ _)⟩

theorem locTimeout_completes (hs : s.served ctx = some e) (hdown : entDown e = true) (hrun : s.running (T.loc ctx.val) = true) :
    ∃ t, exec (.locTimeout ctx) s = .next t ∧ (t.trib ctx).loc = true ∧ t.running (T.loc ctx.val) = false := by
  have hexec : exec (.locTimeout ctx) s = .next (s.tribLoc ctx) := by
    show execLocTimeout ctx s = _
    unfold execLocTimeout
    rw [hs]
    exact congrArg Host.Outcome.next (if_pos ⟨hdown, hrun⟩)
  obtain ⟨n, hn⟩ := tribSet_trib s ctx { s.trib ctx with loc := true, expect := none }
  refine ⟨_, hexec, congrArg Trib.loc hn, ?_⟩
  unfold State.tribLoc
  rw [State.running_stopTimer]
  simp

/-! ### Rows and hairpins (R210, R219, R220, R222) -/

theorem row_setRow (s : State) (l : Fin 48) (x : RowLane) : (s.setRow l x).rows[l] = x := Vector.getElem_set_self ..

theorem laneRowCheck_completes {w : RowIn} (hw : w.slots.length = 16) (hl : s.tribLane l = true) (hst : (s.rows[l]).st = .hunt)
    (hm : w.marker = 0) :
    ∃ t, exec (.laneRowCheck l w) s = .next t ∧ (t.rows[l]).st = .check ∧ (t.rows[l]).row = 0 := by
  have hcheck : s.checkRow l w = s.setRow l { s.rows[l] with st := .check, row := 0 } := by
    unfold State.checkRow
    dsimp only
    rw [hst]
    exact if_pos hm
  exact ⟨_, (if_neg (not_not_intro hw)).trans (congrArg Host.Outcome.next ((if_pos hl).trans hcheck)),
    congrArg RowLane.st (row_setRow _ _ _), congrArg RowLane.row (row_setRow _ _ _)⟩

/-- The row that leaves moves the row counter of its lane on. -/
theorem tribRowTransmit_next (hl : s.tribLane l = true) : ∃ (u : State) (o : Out),
    exec (.tribRowTransmit l) s = .next ((u.setRow l { u.rows[l] with txRow := ((s.rows[l]).txRow + 1) % 256 }).emit o) := by
  show ∃ (u : State) (o : Out), execTribRowTransmit l s = _
  unfold execTribRowTransmit
  rw [if_neg (not_not_intro hl)]
  dsimp only
  obtain ⟨slots, s1⟩ := s.rowSlots l
  dsimp only
  obtain ⟨oh, s2⟩ := s1.overheadOut l (s.rows[l]).txRow
  dsimp only
  obtain ⟨⟨sent, ohSent⟩, s3⟩ := s2.acrossSeam slots oh
  exact ⟨s3, _, rfl⟩

theorem tribRowTransmit_completes (hl : s.tribLane l = true) :
    ∃ t, exec (.tribRowTransmit l) s = .next t ∧ (t.rows[l]).txRow = ((s.rows[l]).txRow + 1) % 256 := by
  obtain ⟨u, o, hexec⟩ := tribRowTransmit_next hl
  exact ⟨_, hexec, congrArg RowLane.txRow (row_setRow _ _ _)⟩

theorem hairpinByte_completes {b : SlotChar} {cs : List SlotChar} (hs : s.served ctx = some e) (hdir : entDir e = 3)
    (hon : s.domOn 9 = true) (hin : (s.trib ctx).hin = b :: cs) (hb : b ≠ .mark) :
    ∃ t, exec (.hairpinByte ctx) s = .next t ∧ (t.trib ctx).hin = cs ∧ (t.trib ctx).hout = (s.trib ctx).hout ++ [b] := by
  have hrun : ((s.trib ctx).hin.takeWhile (fun ch => decide (ch = .mark))).length + 1 = 1 := by
    rw [hin, List.takeWhile_cons_of_neg (by simp [hb])]
    rfl
  have hexec : exec (.hairpinByte ctx) s =
      .next (s.setTrib ctx { s.trib ctx with hin := cs, hout := (s.trib ctx).hout ++ [b] }) := by
    show execHairpinByte ctx s = _
    unfold execHairpinByte
    rw [hs]
    dsimp only
    rw [hrun, if_pos ⟨hdir, by rw [hin]; simp, hon⟩, hin]
    rfl
  exact ⟨_, hexec, congrArg Trib.hin (trib_setTrib _ _ _), congrArg Trib.hout (trib_setTrib _ _ _)⟩

/-! ### The map (R226, R228, R229) -/

theorem viewTbl_tmap (s : State) : s.viewTbl.tmap = s.tmap :=
  State.viewTbl_keeps (List.Subset.refl _) (SameBut.refl _ s) .tmap (by decide)

theorem viewTbl_resp (s : State) : s.viewTbl.resp = s.resp :=
  State.viewTbl_keeps (List.Subset.refl _) (SameBut.refl _ s) .resp (by decide)

/-- A write of TBL_DATA_HI that is taken stores the entry in the shadow. -/
theorem opTblData_stores (hview : s.bit F.TRB_TBL_ADDR_VIEW = false) (hbusy : s.bit F.TRB_TBL_STAT_BUSY = false)
    (happ : s.applying P.TRB = false) : (s.opTblData r true v).resp = s.resp ∧
      (s.opTblData r true v).tmap = mapPut 0 s.tmap ((1 - s.fld F.TRB_MAP_CTL_ACTIVE) * 1024 + s.fld F.TRB_TBL_ADDR_CTX)
        ((s.rd R.TRB_TBL_DATA_LO).toNat + v.toNat % 2 ^ 18 * 2 ^ 32) := by
  unfold State.opTblData
  dsimp only
  rw [if_neg (by simp [hview, hbusy, happ]), if_neg (not_not_intro rfl), viewTbl_resp, viewTbl_tmap]
  split
  · exact ⟨State.setFld_resp _ _ _, State.setFld_tmap _ _ _⟩
  · exact ⟨rfl, rfl⟩

theorem tblDataWrite_completes (ht : Taken s r R.TRB_TBL_DATA_HI) (hview : s.bit F.TRB_TBL_ADDR_VIEW = false)
    (hbusy : s.bit F.TRB_TBL_STAT_BUSY = false) (happ : s.applying P.TRB = false) :
    ∃ t, exec (.tblDataWrite r v) s = .next t ∧ t.resp = .done ∧
      t.tmap = mapPut 0 s.tmap ((1 - s.fld F.TRB_MAP_CTL_ACTIVE) * 1024 + s.fld F.TRB_TBL_ADDR_CTX)
        ((s.rd R.TRB_TBL_DATA_LO).toNat + v.toNat % 2 ^ 18 * 2 ^ 32) :=
  have hstored := opTblData_stores (s := s.reply .done) (r := r) (v := v) hview hbusy happ
  ⟨_, congrArg Host.Outcome.next (Taken_access ht), hstored.1, hstored.2⟩

/-- A copy that starts shows BUSY, whatever a check besides reports. -/
theorem opTblCmd_copies (h : v.getLsbD 0 = true) :
    (s.opTblCmd v).resp = s.resp ∧ (s.opTblCmd v).bit F.TRB_TBL_STAT_BUSY = true := by
  have hbusy : (s.setFld F.TRB_TBL_STAT_BUSY 1).fld F.TRB_TBL_STAT_BUSY = 1 := State.fld_setFld_self _ _ _ (by decide)
  have hkept : ∀ (t : State) (n m : Nat), ((t.setFld F.TRB_TBL_STAT_CONFLICT n).setFld F.TRB_TBL_STAT_CONFLICT_CTX m).fld
      F.TRB_TBL_STAT_BUSY = t.fld F.TRB_TBL_STAT_BUSY := fun t n m =>
    (State.fld_setFld_apart _ _ _ _ (by decide) (by decide)).trans (State.fld_setFld_apart _ _ _ _ (by decide) (by decide))
  unfold State.opTblCmd
  rw [if_pos h]
  split
  · dsimp only
    split
    · exact ⟨by simp only [State.setFld_resp], decide_eq_true ((hkept _ _ _).trans hbusy)⟩
    · exact ⟨by simp only [State.setFld_resp], decide_eq_true ((hkept _ _ _).trans hbusy)⟩
  · exact ⟨State.setFld_resp _ _ _, decide_eq_true hbusy⟩

theorem tblCopy_completes (ht : Taken s r R.TRB_TBL_CMD) :
    ∃ t, exec (.tblCopy r v) s = .next t ∧ t.resp = .done ∧ t.bit F.TRB_TBL_STAT_BUSY = true :=
  have hcopy := opTblCmd_copies (s := s.reply .done) (v := v ||| 1) (PageControl.getLsbD_or_true v (by decide))
  ⟨_, congrArg Host.Outcome.next (Taken_access ht), hcopy.1, hcopy.2⟩

/-- A check of a shadow without a conflict reports none. -/
theorem opTblCmd_checks (h : v.getLsbD 1 = true) (hnone : ∀ c < 1024, s.mapConflict (1 - s.fld F.TRB_MAP_CTL_ACTIVE) c = false) :
    (s.opTblCmd v).resp = s.resp ∧ (s.opTblCmd v).bit F.TRB_TBL_STAT_CONFLICT = false := by
  have hclear : ∀ t : State, ((t.setFld F.TRB_TBL_STAT_CONFLICT 0).setFld F.TRB_TBL_STAT_CONFLICT_CTX 0).fld
      F.TRB_TBL_STAT_CONFLICT = 0 := fun t =>
    (State.fld_setFld_apart _ _ _ _ (by decide) (by decide)).trans (State.fld_setFld_self _ _ _ (by decide))
  have hreport : ∀ t : State, (∀ c < 1024, t.mapConflict (1 - t.fld F.TRB_MAP_CTL_ACTIVE) c = false) →
      (List.range 1024).find? (fun c => t.mapConflict (1 - t.fld F.TRB_MAP_CTL_ACTIVE) c) = none := fun t ht =>
    List.find?_eq_none.2 fun c hc => ne_true_of_eq_false (ht c (List.mem_range.1 hc))
  have hactive : (s.setFld F.TRB_TBL_STAT_BUSY 1).fld F.TRB_MAP_CTL_ACTIVE = s.fld F.TRB_MAP_CTL_ACTIVE :=
    State.fld_setFld_key _ _ _ _ (by decide)
  unfold State.opTblCmd
  dsimp only
  rw [if_pos h]
  by_cases hcopy : v.getLsbD 0 = true
  · rw [if_pos hcopy, hreport _ (by rw [hactive]; exact hnone)]
    exact ⟨by simp only [State.setFld_resp], decide_eq_false (by rw [hclear]; decide)⟩
  · rw [if_neg hcopy, hreport _ hnone]
    exact ⟨by simp only [State.setFld_resp], decide_eq_false (by rw [hclear]; decide)⟩

theorem tblCheck_completes (ht : Taken s r R.TRB_TBL_CMD)
    (hnone : ∀ c < 1024, s.mapConflict (1 - s.fld F.TRB_MAP_CTL_ACTIVE) c = false) :
    ∃ t, exec (.tblCheck r v) s = .next t ∧ t.resp = .done ∧ t.bit F.TRB_TBL_STAT_CONFLICT = false :=
  have hcheck := opTblCmd_checks (s := s.reply .done) (v := v ||| 2) (PageControl.getLsbD_or_true v (by decide)) hnone
  ⟨_, congrArg Host.Outcome.next (Taken_access ht), hcheck.1, hcheck.2⟩

theorem frameSyncEdge_completes (hen : s.bit F.TCL_OUT_CTL_FS_EN = true) (hsq : s.squelched = false) (hon : s.domOn 32 = true) :
    ∃ u : State, exec .frameSyncEdge s = .next (u.emit .frameSync) :=
  ⟨_, congrArg Host.Outcome.next (if_pos ⟨hen, ne_true_of_eq_false hsq, hon⟩)⟩

/-! ### A second of the tributaries (R205) -/

/-- Which entry a context has in service stands in the map, the commit slots, and two registers. -/
theorem served_of (hmap : t.tmap = s.tmap) (hcmt : t.cmt = s.cmt) (hctl : t.rd R.TRB_TRB_CTL = s.rd R.TRB_TRB_CTL)
    (hact : t.rd R.TRB_MAP_CTL = s.rd R.TRB_MAP_CTL) (ctx : Fin 1024) : t.served ctx = s.served ctx := by
  have hcopy : t.tribCopy ctx = s.tribCopy ctx := by
    unfold State.tribCopy State.cfgFld State.cfgAt
    rw [hcmt, hact]
  have hentry : ∀ a b, t.mapEntry a b = s.mapEntry a b := fun a b => congrArg (fun m => mapGet 0 m (a * 1024 + b)) hmap
  have hconflict : ∀ a b, t.mapConflict a b = s.mapConflict a b := by
    intro a b
    unfold State.mapConflict
    simp only [hentry]
  have hen : t.bit F.TRB_TRB_CTL_EN = s.bit F.TRB_TRB_CTL_EN :=
    congrArg (fun w => decide (getField w F.TRB_TRB_CTL_EN.lo F.TRB_TRB_CTL_EN.w = 1)) hctl
  unfold State.served
  dsimp only
  rw [hcopy, hentry, hen, hconflict]

/-- The alarm bits of a context stand in a register of their own. -/
theorem tribFlag_rd (s : State) (ctx : Fin 1024) (bits : BitVec 9) {k : Nat} (hk : k ≠ R.TRB_TRIB_ALM (ctx.val / 32))
    (hev : eventReg k = false) : (s.tribFlag ctx bits).rd k = s.rd k := by
  unfold State.tribFlag
  dsimp only
  split
  · rfl
  · split
    · rfl
    · rw [State.fire_rd _ _ _ hev, State.rd_setFld_ne _ _ _ hk, State.setTrib_rd]

theorem alarms_apart (n : Fin 32) : R.TRB_TRB_CTL ≠ R.TRB_TRIB_ALM n.val ∧ R.TRB_MAP_CTL ≠ R.TRB_TRIB_ALM n.val := by
  revert n
  decide

theorem fit16_same (s : State) (x : ℤ) : (s.fit16 x).2.regs = s.regs ∧ (s.fit16 x).2.tribs = s.tribs := by
  unfold State.fit16
  split <;> exact ⟨rfl, rfl⟩

/-- The end of a second clears the net justifications of its context, and leaves the other contexts alone. -/
theorem rateSecond_spec (s : State) (ctx : Fin 1024) (e : Nat) :
    (∀ b, (s.rateSecond ctx e).served b = s.served b) ∧
    (((s.rateSecond ctx e).trib ctx).netDown = 0 ∧ ((s.rateSecond ctx e).trib ctx).netUp = 0) ∧
    ∀ b, b ≠ ctx → (s.rateSecond ctx e).trib b = s.trib b := by
  have hsame := State.rateSecond_keeps ctx e (List.Subset.refl _) (SameBut.refl _ s)
  obtain ⟨u, x, heq, hx, hregs, htribs⟩ : ∃ (u : State) (x : Trib), s.rateSecond ctx e = u.tribSet ctx x ∧
      (x.netDown = 0 ∧ x.netUp = 0) ∧ u.regs = s.regs ∧ u.tribs = s.tribs :=
    ⟨_, _, rfl, ⟨rfl, rfl⟩, (fit16_same _ _).1.trans (fit16_same _ _).1, (fit16_same _ _).2.trans (fit16_same _ _).2⟩
  have hrd : ∀ k, k ≠ R.TRB_TRIB_ALM (ctx.val / 32) → eventReg k = false → (s.rateSecond ctx e).rd k = s.rd k := fun k hk hev => by
    rw [heq]
    exact (tribFlag_rd _ _ _ hk hev).trans ((State.setTrib_rd _ _ _ _).trans (State.rd_of_regs hregs k))
  obtain ⟨hctl, hact⟩ := alarms_apart ⟨ctx.val / 32, by omega⟩
  refine ⟨served_of (hsame .tmap (by decide)) (hsame .cmt (by decide)) (hrd _ hctl (by decide)) (hrd _ hact (by decide)), ?_, ?_⟩
  · obtain ⟨n, hn⟩ := tribSet_trib u ctx x
    rw [heq, hn]
    exact hx
  · intro b hb
    rw [heq, tribSet_trib_ne _ _ hb]
    exact trib_of_tribs htribs b

/-- What a second does for one context. -/
def secondOf (t : State) (a : Fin 1024) : State :=
  match t.served a with
  | some e => if entDir e = 3 then t else t.rateSecond a e
  | none => t

theorem secondOf_served (t : State) (a b : Fin 1024) : (secondOf t a).served b = t.served b := by
  unfold secondOf
  split
  · split
    · rfl
    · exact (rateSecond_spec t a _).1 b
  · rfl

theorem secondOf_cleared (t : State) (a ctx : Fin 1024) (h : (t.trib ctx).netDown = 0 ∧ (t.trib ctx).netUp = 0) :
    ((secondOf t a).trib ctx).netDown = 0 ∧ ((secondOf t a).trib ctx).netUp = 0 := by
  unfold secondOf
  split
  · next e he =>
    split
    · exact h
    · obtain ⟨-, hself, hother⟩ := rateSecond_spec t a e
      by_cases hb : ctx = a
      · rw [hb]
        exact hself
      · rw [hother ctx hb]
        exact h
  · exact h

theorem secondOf_clears (hs : t.served ctx = some e) (hdir : entDir e ≠ 3) :
    ((secondOf t ctx).trib ctx).netDown = 0 ∧ ((secondOf t ctx).trib ctx).netUp = 0 := by
  unfold secondOf
  rw [hs]
  dsimp only
  rw [if_neg hdir]
  exact (rateSecond_spec t ctx e).2.1

theorem tribRateSecond_completes (hs : s.served ctx = some e) (hdir : entDir e ≠ 3) :
    ∃ t, exec .tribRateSecond s = .next t ∧ (t.trib ctx).netDown = 0 ∧ (t.trib ctx).netUp = 0 := by
  have hexec : exec .tribRateSecond s = .next ((List.finRange 1024).foldl secondOf s) := rfl
  refine ⟨_, hexec, ?_⟩
  exact Laws.Delivery.foldl_reaches secondOf (fun t => t.served ctx = some e)
    (fun t => (t.trib ctx).netDown = 0 ∧ (t.trib ctx).netUp = 0) _ ctx (List.mem_finRange ctx)
    (fun t a ht => (secondOf_served t a ctx).trans ht) (fun t a ht => secondOf_cleared t a ctx ht)
    (fun t ht => secondOf_clears ht hdir) s hs

end Sys2Proof.Proofs.TributaryEffects
end

section
/-! PROOF. Every command named in O57 completes: the clauses that rest on the statements of the page and the marker commands, and the
assembly. -/

namespace Sys2Proof.Proofs.LineDieCommands

open Sys2Proof Sys2Proof.Machine
open CommitEffects OwnershipEffects ReceiverEffects DeframerEffects TributaryEffects

variable {s : State} {r : Req} {page : BitVec 8} {v : Word}

theorem mirrorUpdate_completes (hu : usedPage page.toNat = true) (hd : s.domOn 31 = true)
    (hl : linePage page.toNat = true → s.seam.phase = .up) :
    ∃ t, exec (.mirrorUpdate page true) s = .next t ∧ ∀ a ∈ regsOf page.toNat, t.mirrorWord a = s.readWord .shelf a :=
  ⟨_, PageControl.exec_mirrorUpdate true hu hd hl, fun _ ha => PageControl.mirrorPage_word s ha⟩

theorem cntClr_completes (h : Taken s r (R.HDR_PAGE_CTL page.toNat)) (h1 : v.getLsbD 1 = false) (h0 : v.getLsbD 0 = false) :
    ∃ t, exec (.cntClr r page v) s = .next t ∧ t.resp = .done ∧
      ∀ k, pageOf k = page.toNat → isCounter k = true → t.rd k = resetWord k := by
  obtain ⟨hclear, -⟩ := PageControl.countersAndMasks
  obtain ⟨t, hexec, -, hresp, hcounters, -⟩ := hclear r page v s h h1 h0
  exact ⟨t, hexec, hresp, hcounters⟩

theorem evtOutSet_completes (h : Taken s r (R.HDR_PAGE_CTL page.toNat)) (h1 : v.getLsbD 1 = false) (h2 : v.getLsbD 2 = false)
    (hout : s.bit (F.HDR_PAGE_CTL_EVT_OUT page.toNat) = false) :
    ∃ u : State, exec (.evtOutSet r page v) s = .next (u.risePending page.toNat) ∧ u.resp = .done ∧
      u.bit (F.HDR_PAGE_CTL_EVT_OUT page.toNat) = true := by
  obtain ⟨-, -, hset, -⟩ := PageControl.countersAndMasks
  obtain ⟨u, hexec, -, hdone⟩ := hset r page v s h h1 h2 hout
  exact ⟨u, hexec, hdone⟩

theorem evtMaskWrite_completes (bits : BitVec 16) (h : Taken s r (R.HDR_EVT_MASK page.toNat)) :
    ∃ t, exec (.evtMaskWrite r page bits) s = .next t ∧
      ∀ b : Fin 16, (t.rd (R.HDR_EVT_MASK page.toNat)).getLsbD b.val = bits.getLsbD b.val := by
  obtain ⟨-, -, -, hmask, -⟩ := PageControl.countersAndMasks
  obtain ⟨t, hexec, -, hbits⟩ := hmask r page bits s h
  exact ⟨t, hexec, hbits⟩

/-- Settles O57: one lemma per command, in the files of the families. -/
theorem lineDieCommandsComplete : Obligations.LineDieCommandsComplete := by
  unfold Obligations.LineDieCommandsComplete
  exact ⟨
    fun _ _ _ _ h hp hr => prepare_completes h hp hr,
    fun _ _ _ _ h hs hp => prepared_completes h hs hp,
    fun _ _ _ _ h hs hp => apply_completes h hs hp,
    fun _ _ _ h => abort_completes h,
    fun _ _ _ _ h hs hp => abortDomainOff_completes h hs hp,
    fun _ _ _ hs hp hup => prepTimeout_completes hs hp hup,
    fun _ _ hu hd hl => mirrorUpdate_completes hu hd hl,
    fun _ _ _ _ h h1 h0 => cntClr_completes h h1 h0,
    fun _ _ _ _ h h0 h1 h2 => cntHold_completes h h0 h1 h2,
    fun _ _ _ _ h h1 h2 hout => evtOutSet_completes h h1 h2 hout,
    fun _ _ bits _ h => evtMaskWrite_completes bits h,
    fun _ _ _ _ ht h0 hs hf => cmtOpen_completes ht h0 hs hf,
    fun _ _ _ _ ht h0 hs ho hf he => cmtCommit_completes ht h0 hs ho hf he,
    fun _ _ _ _ ht h0 hs ho => cmtDiscard_completes ht h0 hs ho,
    fun _ _ _ _ ht h0 hs he => cmtAck_completes ht h0 hs he,
    fun _ _ _ h => markerInject_completes h,
    fun _ _ _ _ _ _ hm hst hpkt hmark hs => ⟨_, Boundaries.exec_markerPass hm hst hpkt hmark hs, rfl⟩,
    fun _ _ c _ hs => Boundaries.exec_boundaryApply hs (.trib c),
    fun _ hr he => electionTimeout_completes hr he,
    fun _ _ h he hv => ownClaim_completes h he hv,
    fun _ _ h he hd hf => ownClaimForced_completes h he hd hf,
    fun _ _ _ h hh hne h3 => ownReleaseTarget_completes h hh hne h3,
    fun _ _ h hh => ownReleaseVacate_completes h hh,
    fun _ h => handoverTimeout_completes h,
    fun _ hv he hr => leaseExpire_completes hv he hr,
    fun _ _ h he => ownHeartbeat_completes h he,
    fun _ hr hv hh hl => wakeL0Timeout_completes hr hv hh hl,
    fun b _ hw => presenceDebounce_completes b hw,
    fun _ hw hc hp hs => presenceOn_completes hw hc hp hs,
    fun _ hw hc hs => presenceStuck_completes hw hc hs,
    fun _ hw hs hl => presenceUnstick_completes hw hs hl,
    fun s _ => presenceWindowExpire_completes s,
    fun s => forceWindowExpire_completes s,
    fun _ v _ h _ => presenceEnd_completes v h,
    fun _ _ hu hw hx hm hseen => sealBreak_completes hu hw hx hm hseen,
    fun _ _ hu hw hx hh => sealIntact_completes hu hw hx hh,
    fun _ _ hu hw hx hh hc => sealRearm_completes hu hw hx hh hc,
    fun _ _ h hb => sealBrokenClear_completes h hb,
    fun _ _ v _ ht h hl => rxEnable_completes v ht h hl,
    fun _ _ v _ ht h => rxDisable_completes v ht h,
    fun _ offset peak _ _ _ hw h hp => preambleDetect_completes offset peak hw h hp,
    fun _ _ h => blindAcquire_completes h,
    fun _ _ _ hw h => trainingCountReached_completes hw h,
    fun _ _ _ h hm hd => plannedHold_completes h hm hd,
    fun _ _ h => unplannedHold_completes h,
    fun _ n _ h => losAssert_completes n h,
    fun _ _ _ h he hm hd => dozeEnter_completes h he hm hd,
    fun _ _ h => dozeWake_completes h,
    fun _ _ h => cdrLossOfLock_completes h,
    fun _ _ h hp ho ha => armWindowOpen_completes h hp ho ha,
    fun _ _ h hp ha => armWindowClose_completes h hp ha,
    fun _ _ v _ ht h => simDetect_completes v ht h,
    fun _ _ _ _ ht h h2 => saveDef_completes ht h h2,
    fun _ _ _ _ ht h0 => loadFactory_completes ht h0,
    fun _ lq _ _ hw h => lqBlock_completes lq hw h,
    fun _ floor _ he h hp hspan => noiseMeasure_completes floor he h hp hspan,
    fun _ _ lock _ hn h => rateMeasure_completes lock hn h,
    fun _ _ _ h hc => clipBlock_completes h hc,
    fun _ _ _ _ ht hb h1 h => calStart_completes ht hb h1 h,
    fun _ _ v _ ht hb => calAbort_completes v ht hb,
    fun _ k trim _ hb h => calStep_completes k trim hb h,
    fun _ _ _ _ hpos hst hrx hw hn hnew => syncCandidate_completes hpos hst hrx hw hn hnew,
    fun _ _ _ _ _ hw hg hh ht hst hv => groupDecode_completes hw hg hh ht hst hv,
    fun _ _ hst hd => plannedCoast_completes hst hd,
    fun _ _ _ hst hp hm hd => coastEnd_completes hst hp hm hd,
    fun _ _ hst hp => coastLimit_completes hst hp,
    fun _ _ hst => coastFrameAdvance_completes hst,
    fun _ _ _ _ hal hidx ht hg => multiframeStart_completes hal hidx ht hg,
    fun c s => berSecond_completes s c,
    fun _ _ _ _ hdel hdead hmine hlen hh hhec hok htype hbit hpsl hhears =>
      fragmentReceive_completes hdel hdead hmine hlen hh hhec hok htype hbit hpsl hhears,
    fun _ _ _ ht => fcForget_completes ht,
    fun _ _ _ hr hc hp => fcReadLatch_completes hr hc hp,
    fun _ _ _ hs hup => containerBuild_completes hs hup,
    fun _ _ _ _ _ _ hf hlen hcrc hctx hs hmap hclass hbytes hdown hchan hexp =>
      containerReceive_completes hf hlen hcrc hctx hs hmap hclass hbytes hdown hchan hexp,
    fun _ _ _ hs hdown hflow hloc hfill => desyncStart_completes hs hdown hflow hloc hfill,
    fun _ _ _ hs hdown hrun => locTimeout_completes hs hdown hrun,
    fun _ _ _ hw hl hst hm => laneRowCheck_completes hw hl hst hm,
    fun _ _ hl => tribRowTransmit_completes hl,
    fun _ _ _ _ _ hs hdir hon hin hb => hairpinByte_completes hs hdir hon hin hb,
    fun _ _ _ ht hview hbusy happ => tblDataWrite_completes ht hview hbusy happ,
    fun _ _ _ ht => tblCopy_completes ht,
    fun _ _ _ ht hnone => tblCheck_completes ht hnone,
    fun _ hen hsq hon => frameSyncEdge_completes hen hsq hon,
    fun _ _ _ hs hdir => tribRateSecond_completes hs hdir⟩

end Sys2Proof.Proofs.LineDieCommands
end

section
/-! SUPPORT. Ownership set in place, and a step judged from the reply that precedes it: what frames and thimble moves take from there. -/

namespace Sys2Proof

open Sys2Proof.Machine

variable {ps qs : List Part} {ks : List Nat} {s t u : State}

theorem Frame.setOwn (h : Frame ps ks s t) (o : Own) (hp : .own ∈ ps) : Frame ps ks s { t with own := o } :=
  h.upd (SameBut.upd_own (List.Subset.refl _) (SameBut.refl [.own] t)) (by simpa using hp) rfl

theorem FrameEv.setOwn (h : FrameEv ps ks s t) (o : Own) (hp : .own ∈ ps) : FrameEv ps ks s { t with own := o } :=
  h.upd (SameBut.upd_own (List.Subset.refl _) (SameBut.refl [.own] t)) (by simpa using hp) rfl

/-- A step from a state that differs from `s` in parts of the frame alone. -/
theorem FrameEv.afterSame (hk : SameBut qs s u) (hq : qs ⊆ ps) (hr : .regs ∉ qs) (h : FrameEv ps ks u t) : FrameEv ps ks s t :=
  ((FrameEv.refl ps ks s).upd hk hq (hk .regs hr)).trans h

/-- A thimble move from a state that differs from `s` in ownership, timers and the answer alone. -/
theorem Moved.afterSame (hk : SameBut [.own, .timers, .resp] s u) (h : Moved u t) : Moved s t :=
  Moved.pre h (hk .cmt (by decide)) (State.rd_of_regs (hk .regs (by decide)) _)

theorem SameBut.reply (s : State) (x : Resp) : SameBut [.resp] s (s.reply x) :=
  State.reply_keeps x (List.Subset.refl _) (SameBut.refl _ s)

/-- A source of page OWN raises its bit where the domain of the selvedge is on. -/
theorem Raised.fireOwn {b : Nat} (h : s.domOn 0 = true) (hb : b < 32) : Raised (s.fire P.OWN b) P.OWN b := State.fire_raised h hb

end Sys2Proof
end

section
/-! PROOF. The thimble (O19): one equation for each outcome of the election, of a claim, of a release and of a lost holder; what reaches
OWN at one handshake is taken apart into its commands. -/

namespace Sys2Proof.Proofs.Thimble

open Sys2Proof Sys2Proof.Machine Sys2Proof.Laws.HostEnds Sys2Proof.Proofs.OwnershipEffects

variable {s t : State} {r q : Req}

/-! ### The election (R83) -/

theorem priorityOrder_lt {pri a : Nat} (h : a ∈ priorityOrder pri) : a < 3 := by
  unfold priorityOrder at h
  split_ifs at h <;> simp at h <;> omega

theorem agent_ne_none {a : Nat} (h : a < 3) : BitVec.ofNat 2 a ≠ 3 := by
  interval_cases a <;> decide

theorem exec_electionTimeout (hr : s.running T.election = true) (he : s.own.elected = false) :
    exec .electionTimeout s = .next (s.decideElection true) :=
  congrArg Host.Outcome.next (if_pos ⟨hr, by simp [he]⟩)

/-- Without a candidate the election ends and nobody holds the thimble. -/
theorem decideElection_none {timed : Bool}
    (h : (priorityOrder (s.rst.straps.toNat % 4)).find? (fun a => natBit s.own.present.toNat a) = none) :
    s.decideElection timed = electedState s timed := by
  unfold State.decideElection
  simp only [h]
  rfl

theorem electedState_running (s : State) (timed : Bool) : (electedState s timed).running T.election = false := by
  unfold electedState
  rw [State.running_stopTimer]
  simp

theorem electionTimeout_gives {a : Nat} (hr : s.running T.election = true) (he : s.own.elected = false)
    (h : (priorityOrder (s.rst.straps.toNat % 4)).find? (fun a => natBit s.own.present.toNat a) = some a) :
    ∃ t, exec .electionTimeout s = .next t ∧ FrameEv [.cmt, .own, .timers] movedRegs s t ∧ Moved s t ∧
      t.own = { s.own with elected := true, timed := true, cand := s.own.present, st := .held, holder := BitVec.ofNat 2 a } := by
  obtain ⟨hmoved, hframe, hown⟩ := State.move_facts (electedState s true) (BitVec.ofNat 2 a)
  rw [if_neg (agent_ne_none (priorityOrder_lt (List.mem_of_find?_eq_some h)))] at hown
  have hsame := electedState_keep s true
  exact ⟨_, (exec_electionTimeout hr he).trans (congrArg Host.Outcome.next (decideElection_eq s true a h)),
    FrameEv.afterSame hsame (by decide) (by decide) hframe, Moved.afterSame (SameBut.mono (by decide) hsame) hmoved, hown⟩

theorem electionTimeout_leavesVacant (hr : s.running T.election = true) (he : s.own.elected = false)
    (h : (priorityOrder (s.rst.straps.toNat % 4)).find? (fun a => natBit s.own.present.toNat a) = none) :
    ∃ t, exec .electionTimeout s = .next t ∧ Frame [.own, .timers] [] s t ∧
      t.own = { s.own with elected := true, timed := true, cand := s.own.present } ∧ t.running T.election = false :=
  ⟨_, (exec_electionTimeout hr he).trans (congrArg Host.Outcome.next (decideElection_none h)),
    (Frame.refl _ _ s).upd (electedState_keep s true) (List.Subset.refl _) rfl, rfl, electedState_running s true⟩

/-! ### Claims (R85, R86, R102) -/

/-- The thimble is free for a claim: nobody holds it, or its holder is releasing it to the claimant. -/
def freeFor (s : State) (r : Req) : Prop := s.own.st = .vacant ∨ s.own.st = .releasing ∧ agentOf r = s.own.target

theorem opOwnClaim_free (he : s.own.elected = true) (hst : freeFor s r) :
    s.opOwnClaim r 1 = (s.setHolder (agentOf r)).thimbleMove.closePresence := by
  obtain hv | ⟨hrel, htarget⟩ := hst
  · exact opOwnClaim_vacant he hv
  · unfold State.opOwnClaim
    dsimp only
    rw [if_neg (by decide), if_neg (not_not_intro he), if_neg (by decide), hrel]
    exact if_pos htarget

theorem opOwnClaim_denied (h : s.own.elected = false ∨ s.own.st = .held ∨ s.own.st = .releasing ∧ agentOf r ≠ s.own.target) :
    s.opOwnClaim r 1 = s.deny r R.OWN_OWN_CLAIM 2 2 := by
  unfold State.opOwnClaim
  dsimp only
  rw [if_neg (by decide)]
  by_cases he : s.own.elected = true
  · rw [if_neg (not_not_intro he), if_neg (by decide)]
    obtain hheld | ⟨hrel, hother⟩ := h.resolve_left (ne_false_of_eq_true he)
    · rw [hheld]
    · rw [hrel]
      exact if_neg hother
  · exact if_pos he

/-- Once the election is decided, a claim moves the thimble or is refused. -/
theorem opOwnClaim_cases (he : s.own.elected = true) :
    s.opOwnClaim r 1 = (s.setHolder (agentOf r)).thimbleMove.closePresence ∨ s.opOwnClaim r 1 = s.deny r R.OWN_OWN_CLAIM 2 2 := by
  cases hst : s.own.st with
  | vacant => exact .inl (opOwnClaim_free he (.inl hst))
  | held => exact .inr (opOwnClaim_denied (.inr (.inl hst)))
  | releasing =>
    by_cases htarget : agentOf r = s.own.target
    · exact .inl (opOwnClaim_free he (.inr ⟨hst, htarget⟩))
    · exact .inr (opOwnClaim_denied (.inr (.inr ⟨hst, htarget⟩)))

/-- After the reply the thimble moves, and the presence window closes. -/
theorem moveClose_afterReply (s : State) (a : BitVec 2) :
    FrameEv [.cmt, .own, .timers, .resp] movedRegs s ((s.reply .done).setHolder a).thimbleMove.closePresence ∧
    Moved s ((s.reply .done).setHolder a).thimbleMove.closePresence ∧
    ((s.reply .done).setHolder a).thimbleMove.closePresence.own =
      { s.own with st := if a = 3 then .vacant else .held, holder := a, presWin := false } ∧
    ((s.reply .done).setHolder a).thimbleMove.closePresence.resp = .done := by
  obtain ⟨hmoved, hframe, hown⟩ := State.move_close_facts (s.reply .done) a
  have hreply := SameBut.reply s .done
  exact ⟨FrameEv.afterSame hreply (by decide) (by decide) (hframe.mono (by decide) (List.Subset.refl _)),
    Moved.afterSame (SameBut.mono (by decide) hreply) hmoved, hown, hframe.1 .resp (by decide)⟩

/-- A claim that is taken. -/
theorem ownClaim_takes (h : Taken s r R.OWN_OWN_CLAIM) (he : s.own.elected = true) (hst : freeFor s r) :
    ∃ t, exec (.ownClaim r {}) s = .next t ∧ FrameEv [.cmt, .own, .timers, .resp] movedRegs s t ∧ Moved s t ∧
      t.own = { s.own with st := .held, holder := agentOf r, presWin := false } ∧ t.resp = .done := by
  obtain ⟨hframe, hmoved, hown, hresp⟩ := moveClose_afterReply s (agentOf r)
  rw [if_neg (agentOf_ne_none r)] at hown
  exact ⟨_, (exec_ownClaim h).trans (congrArg Host.Outcome.next (opOwnClaim_free (s := s.reply .done) he hst)),
    hframe, hmoved, hown, hresp⟩

theorem ownClaim_refused (h : Taken s r R.OWN_OWN_CLAIM)
    (hst : s.own.elected = false ∨ s.own.st = .held ∨ s.own.st = .releasing ∧ agentOf r ≠ s.own.target) :
    exec (.ownClaim r {}) s = .next ((s.reply .done).deny r R.OWN_OWN_CLAIM 2 2) :=
  (exec_ownClaim h).trans (congrArg Host.Outcome.next (opOwnClaim_denied (s := s.reply .done) hst))

/-- A forced claim inside the force window. -/
theorem ownClaimForced_takes (h : Taken s r R.OWN_OWN_CLAIM) (he : s.own.elected = true) (hd : s.isDelegate r = false)
    (hf : s.own.forceWin = true) :
    ∃ t, exec (.ownClaimForced r {}) s = .next t ∧ FrameEv [.cmt, .own, .timers, .resp] movedRegs s t ∧ Moved s t ∧
      t.own = { s.own with st := .held, holder := agentOf r, forceWin := false } ∧ t.resp = .done := by
  obtain ⟨hmoved, hframe, hown⟩ := State.move_facts (s.reply .done) (agentOf r)
  rw [if_neg (agentOf_ne_none r)] at hown
  have hreply := SameBut.reply s .done
  have hwhole := (hframe.mono (qs := [.cmt, .own, .timers, .resp]) (by decide) (List.Subset.refl _)).closeForce (by decide) (by decide)
  refine ⟨_, (exec_ownClaimForced h).trans (congrArg Host.Outcome.next (opOwnClaim_forced he hd hf)),
    FrameEv.afterSame hreply (by decide) (by decide) hwhole,
    Moved.post (Moved.afterSame (SameBut.mono (by decide) hreply) hmoved) rfl (fun _ _ => rfl), ?_, hframe.1 .resp (by decide)⟩
  rw [State.closeForce_own, hown]
  rfl

/-! ### Two claims at one handshake (R89) -/

/-- Each agent has one place in the order of claims. -/
theorem claimOrder_places (n : Nat) : (claimOrder (n % 4)).Nodup ∧ ∀ a < 3, a ∈ claimOrder (n % 4) := by
  have hpri : n % 4 < 4 := Nat.mod_lt _ (by decide)
  interval_cases n % 4 <;> decide

theorem agentOf_lt : ∀ r : Req, (agentOf r).toNat < 3
  | .pcie | .shelf => by decide
  | .core _ => (by decide : (2 : BitVec 2).toNat < 3)

/-- Requesters in the order of their agents' places in `l`. -/
def byPlace (l : List Nat) (rs : List Req) : List Req :=
  (l.map (fun a => rs.filter (fun x => decide ((agentOf x).toNat = a)))).flatten

theorem byPlace_cons (a : Nat) (l : List Nat) (rs : List Req) :
    byPlace (a :: l) rs = rs.filter (fun x => decide ((agentOf x).toNat = a)) ++ byPlace l rs := rfl

theorem byPlace_congr {l : List Nat} {rs ps : List Req}
    (h : ∀ a ∈ l, rs.filter (fun x => decide ((agentOf x).toNat = a)) = ps.filter (fun x => decide ((agentOf x).toNat = a))) :
    byPlace l rs = byPlace l ps := by
  unfold byPlace
  rw [List.map_congr_left h]

/-- A requester whose agent has no place drops out. -/
theorem byPlace_absent {l : List Nat} (rs : List Req) (h : (agentOf r).toNat ∉ l) : byPlace l (rs ++ [r]) = byPlace l rs :=
  byPlace_congr (fun a ha => by
    have hne : (agentOf r).toNat ≠ a := fun e => h (e ▸ ha)
    rw [List.filter_append]
    simp [hne])

theorem byPlace_nil (l : List Nat) : byPlace l [] = [] := by simp [byPlace]

theorem byPlace_single {l : List Nat} (hl : l.Nodup) (h : (agentOf q).toNat ∈ l) : byPlace l [q] = [q] := by
  induction l with
  | nil => cases h
  | cons a l ih =>
    obtain ⟨ha, hl⟩ := List.nodup_cons.1 hl
    rw [byPlace_cons]
    by_cases hq : (agentOf q).toNat = a
    · have habsent : byPlace l ([] ++ [q]) = byPlace l [] := byPlace_absent [] (hq ▸ ha)
      rw [List.nil_append, byPlace_nil] at habsent
      simp [hq, habsent]
    · simp [hq, ih hl ((List.mem_cons.1 h).resolve_left hq)]

/-- Of two requesters the one whose agent has the earlier place comes first. -/
theorem byPlace_pair {l : List Nat} (hl : l.Nodup) (hr : (agentOf r).toNat ∈ l) (hq : (agentOf q).toNat ∈ l)
    (hlt : l.idxOf (agentOf r).toNat < l.idxOf (agentOf q).toNat) : byPlace l [q, r] = [r, q] := by
  induction l with
  | nil => cases hr
  | cons a l ih =>
    obtain ⟨ha, hl⟩ := List.nodup_cons.1 hl
    have hqa : (agentOf q).toNat ≠ a := by
      rintro rfl
      simp at hlt
    have hql := (List.mem_cons.1 hq).resolve_left hqa
    rw [byPlace_cons]
    by_cases hra : (agentOf r).toNat = a
    · have hrest : byPlace l [q, r] = [q] := (byPlace_absent [q] (hra ▸ ha)).trans (byPlace_single hl hql)
      simp [hqa, hra, hrest]
    · rw [List.idxOf_cons_ne _ (Ne.symm hra), List.idxOf_cons_ne _ (Ne.symm hqa)] at hlt
      simp [hqa, hra, ih hl ((List.mem_cons.1 hr).resolve_left hra) hql (Nat.lt_of_succ_lt_succ hlt)]

theorem sortClaims_eq_byPlace (s : State) (rs : List Req) : s.sortClaims rs = byPlace (claimOrder (s.rst.straps.toNat % 4)) rs := rfl

theorem sortClaims_pair (hlt : (claimOrder (s.rst.straps.toNat % 4)).idxOf (agentOf r).toNat <
    (claimOrder (s.rst.straps.toNat % 4)).idxOf (agentOf q).toNat) : s.sortClaims [q, r] = [r, q] := by
  obtain ⟨hplaces, hall⟩ := claimOrder_places s.rst.straps.toNat
  rw [sortClaims_eq_byPlace]
  exact byPlace_pair hplaces (hall _ (agentOf_lt r)) (hall _ (agentOf_lt q)) hlt

/-- Who reaches OWN_CLAIM at all may write it, so a claim is taken where the requester reaches the registers and page OWN has power. -/
theorem taken_ownClaim_iff : Taken s r R.OWN_OWN_CLAIM ↔ s.reaches r = true ∧ s.powered R.OWN_OWN_CLAIM = true := by
  refine and_congr_right (fun _ => ?_)
  have hclaim : R.OWN_OWN_CLAIM % 0x100000 = R.OWN_OWN_CLAIM := by decide
  have hmay : s.mayWrite r R.OWN_OWN_CLAIM = true := by
    unfold State.mayWrite
    rw [decide_eq_true hclaim, Bool.or_true, Bool.true_or]
  have hcause : s.writeCause r R.OWN_OWN_CLAIM true = if ¬ s.powered R.OWN_OWN_CLAIM then 4 else 0 := by
    unfold State.writeCause
    rw [if_neg (by decide), if_neg (by decide), if_neg (not_not_intro hmay), if_neg (fun h => absurd h.1 (by decide))]
  rw [hcause]
  split <;> simp_all

theorem reaches_congr (hrst : t.rst = s.rst) (hpwr : t.pwr = s.pwr) (hl0 : t.hif.l0 = s.hif.l0)
    (hrun : t.rd R.RST_CORE_RUN = s.rd R.RST_CORE_RUN) : t.reaches q = s.reaches q := by
  unfold State.reaches
  cases q <;> simp only [hrst, hl0, hrun, State.domOn_of_pwr hpwr]

/-- Neither a move of the thimble nor a refusal keeps another requester's claim from being taken. -/
theorem taken_after (h : Taken s q R.OWN_OWN_CLAIM) (hk : SameBut [.regs, .seam, .cmt, .own, .evt, .tsk, .hif, .timers, .resp, .out] s t)
    (hl0 : t.hif.l0 = s.hif.l0) (hrun : t.rd R.RST_CORE_RUN = s.rd R.RST_CORE_RUN) : Taken t q R.OWN_OWN_CLAIM := by
  have hpwr : t.pwr = s.pwr := hk .pwr (by decide)
  rw [taken_ownClaim_iff] at h ⊢
  refine ⟨(reaches_congr (hk .rst (by decide)) hpwr hl0 hrun).trans h.1, ?_⟩
  unfold State.powered
  rw [hpwr]
  exact h.2

theorem busError_l0 (s : State) (r : Req) (k : Nat) (rd : Bool) (c : Nat) : (s.busError r k rd c).hif.l0 = s.hif.l0 := by
  unfold State.busError
  cases r with
  | pcie | shelf =>
    dsimp only
    rw [State.reply_hif, State.fire_hif_l0, State.wr_hif, State.bump_hif]
  | core n => rfl

theorem deny_l0 (s : State) (r : Req) (k dc bc : Nat) : (s.deny r k dc bc).hif.l0 = s.hif.l0 := by
  unfold State.deny
  dsimp only
  rw [busError_l0, State.fire_hif_l0, State.wr_hif, State.bump_hif]

theorem deny_rd (s : State) (r : Req) (k dc bc : Nat) {j : Nat} (hb : busReg j = false) (he : eventReg j = false)
    (h1 : j ≠ R.OWN_CNT_DENIED) (h2 : j ≠ R.OWN_LAST_DENIED) : (s.deny r k dc bc).rd j = s.rd j := by
  unfold State.deny
  dsimp only
  rw [State.busError_rd _ _ _ _ _ hb he, State.fire_rd _ _ _ he, State.rd_wr_ne _ _ h2, State.rd_bump_ne _ h1]

/-- What a claim leaves for another claim at the same handshake: the election is decided, and the requesters reach OWN as before. -/
theorem opOwnClaim_leaves (s : State) (r : Req) (he : s.own.elected = true) : (s.opOwnClaim r 1).own.elected = true ∧
    (s.opOwnClaim r 1).hif.l0 = s.hif.l0 ∧ (s.opOwnClaim r 1).rd R.RST_CORE_RUN = s.rd R.RST_CORE_RUN := by
  obtain hmove | hdeny := opOwnClaim_cases (r := r) he
  · obtain ⟨-, hframe, hown⟩ := State.move_close_facts s (agentOf r)
    have hdel := ((setHolder_delivers s (agentOf r)).trans (thimbleMove_delivers _)).trans (closePresence_delivers _)
    rw [hmove]
    exact ⟨(congrArg Own.elected hown).trans he, (delivers_hif hdel).1, hframe.2 _ (by decide) (by decide)⟩
  · rw [hdeny]
    exact ⟨(congrArg Own.elected (State.deny_own s r _ _ _)).trans he, deny_l0 _ _ _ _ _,
      deny_rd _ _ _ _ _ (by decide) (by decide) (by decide) (by decide)⟩

/-- The beaten claim is refused with cause 3. -/
theorem exec_ownClaim_pair (hr : Taken s r R.OWN_OWN_CLAIM) (hq : Taken s q R.OWN_OWN_CLAIM) (he : s.own.elected = true)
    (hlt : (claimOrder (s.rst.straps.toNat % 4)).idxOf (agentOf r).toNat < (claimOrder (s.rst.straps.toNat % 4)).idxOf (agentOf q).toNat) :
    exec (.ownClaim q { claims := [r] }) s = .next ((((s.reply .done).opOwnClaim r 1).reply .done).deny q R.OWN_OWN_CLAIM 3 2) := by
  obtain ⟨helected, hl0, hrun⟩ := opOwnClaim_leaves (s.reply .done) r he
  have hkeeps : SameBut [.regs, .seam, .cmt, .own, .evt, .tsk, .hif, .timers, .resp, .out] s ((s.reply .done).opOwnClaim r 1) :=
    State.opOwnClaim_keeps r 1 (List.Subset.refl _) (SameBut.mono (by decide) (SameBut.reply s .done))
  have hhand : s.ownHand { claims := [q, r] } = (s.ownClaims 3 []).ownClaims 1 [q, r] := rfl
  have hclaims : s.ownClaims 1 [q, r] = ((s.access r R.OWN_OWN_CLAIM true (fun u => u.opOwnClaim r 1)).access q R.OWN_OWN_CLAIM true
      (fun u => u.loseClaim q)) := by
    unfold State.ownClaims
    rw [sortClaims_pair hlt]
    rfl
  rw [ownClaims_nil, hclaims, Taken_access hr, Taken_access (taken_after hq hkeeps hl0 hrun)] at hhand
  refine congrArg Host.Outcome.next (hhand.trans ?_)
  have hcause : (if (((s.reply .done).opOwnClaim r 1).reply .done).own.elected then 3 else 2) = 3 := if_pos helected
  unfold State.loseClaim
  rw [hcause]

/-! ### What reaches OWN at one handshake (R89) -/

theorem ownHand_forced (s : State) (q : Req) : s.ownHand { forced := [q] } = s.ownClaims 3 [q] := by
  have hhand : s.ownHand { forced := [q] } = (s.ownClaims 3 [q]).ownClaims 1 [] := rfl
  rwa [ownClaims_nil] at hhand

theorem ownHand_claim (s : State) (r : Req) : s.ownHand { claims := [r] } = s.ownClaims 1 [r] := by
  have hhand : s.ownHand { claims := [r] } = (s.ownClaims 3 []).ownClaims 1 [r] := rfl
  rwa [ownClaims_nil] at hhand

theorem ownHand_releases (s : State) (p : Req) (x : BitVec 3) : s.ownHand { releases := [(p, x)] } =
    s.access p R.OWN_OWN_RELEASE true (fun u => u.opOwnRelease p (x.setWidth 32)) := by
  have hhand : s.ownHand { releases := [(p, x)] } = ((s.ownClaims 3 []).access p R.OWN_OWN_RELEASE true
    (fun u => u.opOwnRelease p (x.setWidth 32))).ownClaims 1 [] := rfl
  rwa [ownClaims_nil, ownClaims_nil] at hhand

/-- The order of R89: forced claims, the end of the lease, releases, claims. -/
theorem ownHand_order (s : State) (r q p : Req) (x : BitVec 3) :
    s.ownHand { forced := [q], lost := true, releases := [(p, x)], claims := [r] } =
      (((s.ownHand { forced := [q] }).ownHand { lost := true }).ownHand { releases := [(p, x)] }).ownHand { claims := [r] } := by
  rw [ownHand_claim, ownHand_releases, ownHand_lost, ownHand_forced]
  rfl

/-! ### Releases and the handover (R85, R86) -/

theorem opOwnRelease_target {x : BitVec 2} (hh : s.own.st = .held) (hne : x ≠ s.own.holder) (h3 : x ≠ 3) :
    s.opOwnRelease r ((x.setWidth 3).setWidth 32) =
      ({ s with own := { s.own with st := .releasing, target := x } }).startTimer T.handover := by
  obtain ⟨htarget, hvacate⟩ := release_target x
  unfold State.opOwnRelease
  dsimp only
  rw [htarget, if_neg (ne_true_of_eq_false hvacate), if_neg (fun e => e.elim hne h3)]
  exact if_pos hh

theorem opOwnRelease_vacate (hh : s.own.st = .held) :
    s.opOwnRelease r ((4 : BitVec 3).setWidth 32) = (s.setHolder 3).thimbleMove.closePresence := by
  unfold State.opOwnRelease
  dsimp only
  rw [if_pos (by decide)]
  exact if_pos hh

theorem ownReleaseTarget_releases {x : BitVec 2} (h : Taken s r R.OWN_OWN_RELEASE) (hh : s.own.st = .held)
    (hne : x ≠ s.own.holder) (h3 : x ≠ 3) :
    ∃ u, exec (.ownReleaseTarget r x {}) s = .next u ∧ Frame [.own, .timers, .resp] [] s u ∧
      u.own = { s.own with st := .releasing, target := x } ∧ u.running T.handover = true ∧ u.resp = .done := by
  refine ⟨_, congrArg Host.Outcome.next ((ownHand_release h _).trans (opOwnRelease_target (s := s.reply .done) hh hne h3)),
    ?_, rfl, ?_, rfl⟩
  · exact (((Frame.refl _ _ s).reply _ (by decide)).setOwn _ (by decide)).startTimer _ (by decide)
  · rw [State.running_startTimer]
    simp

theorem ownReleaseVacate_vacates (h : Taken s r R.OWN_OWN_RELEASE) (hh : s.own.st = .held) :
    ∃ u, exec (.ownReleaseVacate r {}) s = .next u ∧ FrameEv [.cmt, .own, .timers, .resp] movedRegs s u ∧ Moved s u ∧
      u.own = { s.own with st := .vacant, holder := 3, presWin := false } ∧ u.resp = .done := by
  have hmove := moveClose_afterReply s 3
  exact ⟨_, congrArg Host.Outcome.next ((ownHand_release h _).trans (opOwnRelease_vacate (s := s.reply .done) hh)), hmove⟩

theorem handoverTimeout_holds (hst : s.own.st = .releasing) (hd : s.domOn 0 = true) :
    ∃ t, exec .handoverTimeout s = .next t ∧ FrameEv [.own, .timers] [] s t ∧ t.own = { s.own with st := .held } ∧
      t.running T.handover = false ∧ Raised t P.OWN E.OWN_HANDOVER_TIMEOUT := by
  refine ⟨_, congrArg Host.Outcome.next (if_pos hst), ?_, State.fire_own _ _ _, ?_, Raised.fireOwn hd (by decide)⟩
  · exact (((FrameEv.refl _ _ s).setOwn _ (by decide)).stopTimer _ (by decide)).andFire _ _
  · rw [State.fire_running, State.running_stopTimer]
    simp

/-! ### A lost holder (R88, R90) -/

/-- The holder is lost: the thimble moves to nobody, and the presence window closes. -/
theorem holderLost_moves (s : State) (lease : Bool) : FrameEv [.cmt, .own, .timers] movedRegs s (s.holderLost lease) ∧
    Moved s (s.holderLost lease) ∧ (s.holderLost lease).own = { s.own with st := .vacant, holder := 3, presWin := false } := by
  obtain ⟨hmoved, hframe, hown⟩ := State.move_close_facts s 3
  cases lease with
  | false => exact ⟨hframe, hmoved, hown⟩
  | true => exact ⟨hframe.andFire _ _, Moved.post hmoved (State.fire_cmt _ _ _) (fun _ he => State.fire_rd _ _ _ he),
      (State.fire_own _ _ _).trans hown⟩

theorem holderLost_raises (hd : s.domOn 0 = true) : Raised (s.holderLost true) P.OWN E.OWN_LEASE_EXPIRED := by
  obtain ⟨-, hframe, -⟩ := State.move_close_facts s 3
  exact Raised.fireOwn ((State.domOn_of_pwr (hframe.1 .pwr (by decide)) 0).trans hd) (by decide)

theorem leaseExpire_loses (hv : s.own.st ≠ .vacant) (he : s.bit F.OWN_OWN_CTL_LEASE_EN = true) (hr : s.running T.lease = true)
    (hd : s.domOn 0 = true) :
    ∃ t, exec (.leaseExpire {}) s = .next t ∧ FrameEv [.cmt, .own, .timers] movedRegs s t ∧ Moved s t ∧
      t.own = { s.own with st := .vacant, holder := 3, presWin := false } ∧ Raised t P.OWN E.OWN_LEASE_EXPIRED := by
  obtain ⟨hframe, hmoved, hown⟩ := holderLost_moves s true
  exact ⟨_, congrArg Host.Outcome.next ((ownHand_lost s).trans (if_pos ⟨hv, he, hr⟩)), hframe, hmoved, hown, holderLost_raises hd⟩

theorem ownHeartbeat_restarts (h : Taken s r R.OWN_OWN_HEARTBEAT) (he : s.bit F.OWN_OWN_CTL_LEASE_EN = true) :
    ∃ t, exec (.ownHeartbeat r) s = .next t ∧ Frame [.timers, .resp] [] s t ∧ t.timers = (s.startTimer T.lease).timers ∧
      t.running T.lease = true ∧ t.resp = .done := by
  have hop : (s.reply .done).opHeartbeat 1 = (s.reply .done).startTimer T.lease := if_pos ⟨by decide, he⟩
  exact ⟨_, congrArg Host.Outcome.next ((Taken_access h).trans hop),
    ((Frame.refl _ _ s).reply _ (by decide)).startTimer _ (by decide), rfl, by simp, rfl⟩

theorem wakeL0Timeout_loses (hr : s.running T.wakeL0 = true) (hv : s.own.st ≠ .vacant) (hh : s.own.holder = 0) (hl : s.hif.l0 = false) :
    ∃ t, exec .wakeL0Timeout s = .next t ∧ FrameEv [.cmt, .own, .timers] movedRegs s t ∧ Moved s t ∧
      t.own = { s.own with st := .vacant, holder := 3, presWin := false } := by
  obtain ⟨hframe, hmoved, hown⟩ := holderLost_moves (s.stopTimer T.wakeL0) false
  have hstop : SameBut [.timers] s (s.stopTimer T.wakeL0) := State.stopTimer_keeps _ (List.Subset.refl _) (SameBut.refl _ s)
  exact ⟨_, congrArg Host.Outcome.next ((if_pos hr).trans (if_pos ⟨hv, hh, by simp [hl]⟩)),
    FrameEv.afterSame hstop (by decide) (by decide) hframe, Moved.afterSame (SameBut.mono (by decide) hstop) hmoved, hown⟩

theorem wakeL0Timeout_spares (hr : s.running T.wakeL0 = true) (h : s.own.st = .vacant ∨ s.own.holder ≠ 0 ∨ s.hif.l0 = true) :
    exec .wakeL0Timeout s = .next (s.stopTimer T.wakeL0) := by
  refine congrArg Host.Outcome.next ((if_pos hr).trans (if_neg ?_))
  rintro ⟨hv, hh, hl⟩
  obtain h | h | h := h
  · exact hv h
  · exact h hh
  · exact hl h

/-- Settles O19: each outcome of the election, a claim, a release, a lost holder and a heartbeat by its lemma; commands that meet at
one handshake are taken apart by the order of R89. -/
theorem thimbleMoves : Obligations.ThimbleMoves := by
  unfold Obligations.ThimbleMoves
  exact ⟨fun _ _ hr he h => electionTimeout_gives hr he h,
    fun _ hr he h => electionTimeout_leavesVacant hr he h,
    fun _ _ ht he hst => ownClaim_takes ht he hst,
    fun _ _ ht hst => ⟨_, ownClaim_refused ht hst, rfl, State.deny_own _ _ _ _ _, State.deny_cmt _ _ _ _ _⟩,
    fun _ _ ht he hd hf => ownClaimForced_takes ht he hd hf,
    fun _ _ _ ht hh hne h3 => ownReleaseTarget_releases ht hh hne h3,
    fun _ _ ht hh => ownReleaseVacate_vacates ht hh,
    fun r q p x s => ⟨_, _, _, _, rfl, rfl, rfl, rfl, congrArg Host.Outcome.next (ownHand_order s r q p (x.setWidth 3))⟩,
    fun _ _ _ hr hq he hlt => ⟨_, exec_ownClaim hr, exec_ownClaim_pair hr hq he hlt⟩,
    fun _ hst hd => handoverTimeout_holds hst hd,
    fun _ hv he hr hd => leaseExpire_loses hv he hr hd,
    fun _ _ ht he => ownHeartbeat_restarts ht he,
    fun _ hr hv hh hl => wakeL0Timeout_loses hr hv hh hl,
    fun _ hr h => wakeL0Timeout_spares hr h⟩

end Sys2Proof.Proofs.Thimble
end

section
/-! PROOF. Presence and the seal (O20): what the windows' openings and closings raise and leave, and one equation for each kind of bit of
the seal loop. -/

namespace Sys2Proof.Proofs.Presence

open Sys2Proof Sys2Proof.Machine Sys2Proof.Proofs.OwnershipEffects

variable {s : State} {r : Req} {v : Word} {x : Bool}

/-! ### The windows (R93, R95) -/

theorem closePresence_raises (hw : s.own.presWin = true) (hd : s.domOn 0 = true) :
    Raised s.closePresence P.OWN E.OWN_PRESENCE_OFF := by
  unfold State.closePresence
  rw [if_pos hw]
  exact Raised.fireOwn hd (by decide)

theorem openForce_raises (hd : s.domOn 0 = true) : Raised s.openForce P.OWN E.OWN_FORCE_OPEN := Raised.fireOwn hd (by decide)

theorem openForce_raised {b : Nat} (h : Raised s P.OWN b) : Raised s.openForce P.OWN b := by
  have hopened : Raised (({ s with own := { s.own with forceWin := true } }).startTimer T.force) P.OWN b := h
  exact Raised_fire hopened _ (by decide)

theorem openForce_starts (s : State) : s.openForce.running T.force = true := by
  unfold State.openForce
  rw [State.fire_running, State.running_startTimer]
  simp

theorem closeForce_stops (s : State) : s.closeForce.running T.force = false := by
  unfold State.closeForce
  rw [State.running_stopTimer]
  simp

/-! ### The button (R92-R94) -/

theorem exec_debounce (h : s.watches = true) :
    exec (.presenceDebounce true) s =
      .next { s with own := { s.own with levelHigh := true, seenHigh := true, counting := false, pressed := false } } ∧
    exec (.presenceDebounce false) s =
      .next { s with own := { s.own with levelHigh := false, counting := s.own.levelHigh && s.own.seenHigh && !s.own.stuck } } :=
  ⟨congrArg Host.Outcome.next (if_neg (not_not_intro h)), congrArg Host.Outcome.next (if_neg (not_not_intro h))⟩

theorem exec_debounce_unwatched (h : s.watches = false) (b : Bool) : exec (.presenceDebounce b) s = .next s :=
  congrArg Host.Outcome.next (if_pos (ne_true_of_eq_false h))

theorem presenceOn_opens (hw : s.watches = true) (hc : s.own.counting = true) (hp : s.own.pressed = false) (hs : s.own.stuck = false)
    (hd : s.domOn 0 = true) :
    ∃ t, exec .presenceOn s = .next t ∧ FrameEv [.own, .timers] [] s t ∧
      t.own = { s.own with pressed := true, presWin := true, forceWin := true } ∧ t.running T.presence = true ∧
      t.running T.force = true ∧ Raised t P.OWN E.OWN_PRESENCE_ON ∧ Raised t P.OWN E.OWN_FORCE_OPEN := by
  have htaken : exec .presenceOn s = .next ((pressed s).fire P.OWN E.OWN_PRESENCE_ON).openForce :=
    congrArg Host.Outcome.next (if_pos ⟨hw, hc, by simp [hp], by simp [hs]⟩)
  have hframe : FrameEv [.own, .timers] [] s ((pressed s).fire P.OWN E.OWN_PRESENCE_ON) :=
    (((FrameEv.refl _ _ s).setOwn _ (by decide)).startTimer _ (by decide)).andFire _ _
  have hraised : Raised ((pressed s).fire P.OWN E.OWN_PRESENCE_ON) P.OWN E.OWN_PRESENCE_ON := Raised.fireOwn hd (by decide)
  have hdom : ((pressed s).fire P.OWN E.OWN_PRESENCE_ON).domOn 0 = true :=
    (State.domOn_of_pwr (hframe.1 .pwr (by decide)) 0).trans hd
  refine ⟨_, htaken, hframe.trans (State.openForce_frame _), ?_,
    openForce_running ((State.fire_running _ _ _ _).trans (pressed_running s)), openForce_starts _, openForce_raised hraised,
    openForce_raises hdom⟩
  rw [State.openForce_own, State.fire_own]
  rfl

theorem presenceStuck_closes (hw : s.watches = true) (hc : s.own.counting = true) (hs : s.own.stuck = false) (hd : s.domOn 0 = true) :
    ∃ t, exec .presenceStuck s = .next t ∧ FrameEv [.own, .timers] [] s t ∧
      t.own = { s.own with presWin := false, forceWin := false, stuck := true, counting := false, pressed := false } ∧
      Raised t P.OWN E.OWN_PRESENCE_STUCK := by
  have hclosed : FrameEv [.own, .timers] [] s s.closePresence.closeForce :=
    (State.closePresence_frame s).trans (State.closeForce_frame _)
  have hdom : (stuck s.closePresence.closeForce).domOn 0 = true := (State.domOn_of_pwr (hclosed.1 .pwr (by decide)) 0).trans hd
  refine ⟨(stuck s.closePresence.closeForce).fire P.OWN E.OWN_PRESENCE_STUCK,
    congrArg Host.Outcome.next (if_pos ⟨hw, hc, by simp [hs]⟩), (hclosed.setOwn _ (by decide)).andFire _ _, ?_,
    Raised.fireOwn hdom (by decide)⟩
  rw [State.fire_own]
  unfold stuck
  rw [closeBoth_own]

theorem exec_presenceUnstick (hw : s.watches = true) (hs : s.own.stuck = true) (hl : s.own.levelHigh = true) :
    exec .presenceUnstick s = .next { s with own := { s.own with stuck := false } } :=
  congrArg Host.Outcome.next (if_pos ⟨hw, hs, hl⟩)

theorem forceWindowExpire_closes (s : State) : ∃ t, exec .forceWindowExpire s = .next t ∧ Frame [.own, .timers] [] s t ∧
    t.own = { s.own with forceWin := false } ∧ t.running T.force = false :=
  ⟨_, rfl, ((Frame.refl _ _ s).setOwn _ (by decide)).stopTimer _ (by decide), rfl, closeForce_stops s⟩

/-- END closes the window; the field WIN_S takes what is written. -/
theorem presenceEnd_closes (h : Taken s r R.OWN_OWN_PRES_CTL) (hw : s.own.presWin = true) (hd : s.domOn 0 = true) :
    ∃ t, exec (.presenceEnd r v) s = .next t ∧ FrameEv [.own, .timers, .resp] [R.OWN_OWN_PRES_CTL] s t ∧
      t.own = { s.own with presWin := false } ∧ t.resp = .done ∧ t.fld F.OWN_OWN_PRES_CTL_WIN_S = getField v 0 8 ∧
      Raised t P.OWN E.OWN_PRESENCE_OFF := by
  have hend : (v ||| 0x100).getLsbD 8 = true := PageControl.getLsbD_or_true v (by decide)
  have hop : (s.reply .done).opPresCtl (v ||| 0x100) =
      ((s.reply .done).store R.OWN_OWN_PRES_CTL (v ||| 0x100)).closePresence := if_pos hend
  have hstored : FrameEv [.own, .timers, .resp] [R.OWN_OWN_PRES_CTL] s ((s.reply .done).store R.OWN_OWN_PRES_CTL (v ||| 0x100)) :=
    ((FrameEv.refl _ _ s).reply _ (by decide)).store _ _ (by decide)
  have hclose := State.closePresence_frame ((s.reply .done).store R.OWN_OWN_PRES_CTL (v ||| 0x100))
  refine ⟨_, congrArg Host.Outcome.next ((Taken_access h).trans hop), hstored.trans (hclose.mono (by decide) (by decide)),
    State.closePresence_own _, hclose.1 .resp (by decide), ?_, closePresence_raises hw hd⟩
  have hlow : ∀ i < 8, (v ||| 0x100).getLsbD (0 + i) = v.getLsbD (0 + i) := fun i hi => by
    have hzero : (0x100 : Word).getLsbD (0 + i) = false := by interval_cases i <;> rfl
    rw [BitVec.getLsbD_or, hzero, Bool.or_false]
  unfold State.fld
  rw [hclose.2 _ (by decide) (by decide)]
  exact (State.fld_store_plain (s.reply .done) F.OWN_OWN_PRES_CTL_WIN_S _ (by decide)).trans (getField_congr hlow)

/-! ### The seal loop (R97, R98) -/

/-- A mismatch is counted. -/
def missed (s : State) : State := { s with own := { s.own with hits := 0, misses := min 3 (s.own.misses + 1), sealOk := false } }

theorem sealBit_missed (hx : x ≠ s.own.lfsr.getLsbD 7) : s.sealBit (s.own.lfsr.getLsbD 7) x =
    if min 3 (s.own.misses + 1) = 3 ∧ s.own.matchSeen then (missed s).sealBroken else missed s := by
  unfold State.sealBit
  exact if_neg hx.symm

/-- A match before the 64th in a row is counted. -/
theorem sealBit_counted (hx : x = s.own.lfsr.getLsbD 7) (hh : s.own.hits < 63) : s.sealBit (s.own.lfsr.getLsbD 7) x =
    { s with own := { s.own with hits := s.own.hits + 1, misses := 0, matchSeen := true } } := by
  have hcount : min 64 (s.own.hits + 1) = s.own.hits + 1 := by omega
  unfold State.sealBit
  rw [if_pos hx.symm, hcount]
  exact if_neg (by omega)

/-- The seal is armed where both conditions hold, and stays as it was elsewhere. -/
theorem sealArm_eq (s : State) : s.sealArm =
    { s with own := { s.own with armed := s.own.armed || s.own.matched64 && s.own.cleared } } := by
  unfold State.sealArm
  by_cases h : s.own.matched64 ∧ s.own.cleared
  · rw [if_pos h, h.1, h.2, Bool.and_self, Bool.or_true]
  · have hnot : (s.own.matched64 && s.own.cleared) = false := by simpa using h
    rw [if_neg h, hnot, Bool.or_false]

theorem sealBit_sixtyFourth (hx : x = s.own.lfsr.getLsbD 7) (hh : 63 ≤ s.own.hits) : s.sealBit (s.own.lfsr.getLsbD 7) x =
    { s with own := { s.own with hits := 64, misses := 0, matchSeen := true, matched64 := true, sealOk := true,
                                 armed := s.own.armed || s.own.cleared } } := by
  have hlast : min 64 (s.own.hits + 1) = 64 := by omega
  rw [sealBit_matched hx hh, sealArm_eq]
  unfold matched
  rw [hlast]
  simp

theorem exec_sealBreak (hu : s.own.sealUse = true) (hw : s.watches = true) :
    exec (.sealBreak [x]) s = .next (s.sealBit (s.own.lfsr.getLsbD 7) x) :=
  congrArg Host.Outcome.next (sealSeen_single x hu hw)

theorem exec_seal_unused (seen : List Bool) (h : s.own.sealUse = false ∨ s.watches = false) : exec (.sealBreak seen) s = .next s :=
  congrArg Host.Outcome.next (if_pos (h.imp ne_true_of_eq_false ne_true_of_eq_false))

/-- The seal is broken and no longer armed. -/
def brokenSeal (s : State) : State := { s with own := { s.own with
  broken := true, sealOk := false, matchSeen := false, matched64 := false, cleared := false, armed := false } }

theorem sealBroken_eq (s : State) : s.sealBroken = if s.own.armed then ((brokenSeal s).fire P.OWN E.OWN_SEAL_BROKEN).openForce
    else (brokenSeal s).fire P.OWN E.OWN_SEAL_BROKEN := rfl

/-- The third mismatch in a row breaks the seal, and opens the force window where the seal was armed. -/
theorem sealBreak_breaks (hu : s.own.sealUse = true) (hw : s.watches = true) (hd : s.domOn 0 = true) (hx : x ≠ s.own.lfsr.getLsbD 7)
    (hm : 2 ≤ s.own.misses) (hseen : s.own.matchSeen = true) :
    ∃ t, exec (.sealBreak [x]) s = .next t ∧ FrameEv [.own, .timers] [] s t ∧
      t.own = { s.own with broken := true, sealOk := false, hits := 0, misses := 3, matchSeen := false, matched64 := false,
                           cleared := false, armed := false, forceWin := s.own.forceWin || s.own.armed } ∧
      Raised t P.OWN E.OWN_SEAL_BROKEN ∧ (s.own.armed = true → t.running T.force = true ∧ Raised t P.OWN E.OWN_FORCE_OPEN) ∧
      (s.own.armed = false → t.timers = s.timers) := by
  have hthird : min 3 (s.own.misses + 1) = 3 := by omega
  have hexec : exec (.sealBreak [x]) s = .next (missed s).sealBroken :=
    (exec_sealBreak hu hw).trans (congrArg Host.Outcome.next ((sealBit_missed hx).trans (if_pos ⟨hthird, hseen⟩)))
  have hframe : FrameEv [.own, .timers] [] s ((brokenSeal (missed s)).fire P.OWN E.OWN_SEAL_BROKEN) :=
    (((FrameEv.refl _ _ s).setOwn _ (by decide)).setOwn _ (by decide)).andFire _ _
  have hown : ((brokenSeal (missed s)).fire P.OWN E.OWN_SEAL_BROKEN).own = { s.own with
      broken := true, sealOk := false, hits := 0, misses := 3, matchSeen := false, matched64 := false, cleared := false,
      armed := false } := by
    rw [State.fire_own]
    unfold brokenSeal missed
    rw [hthird]
  have hraised : Raised ((brokenSeal (missed s)).fire P.OWN E.OWN_SEAL_BROKEN) P.OWN E.OWN_SEAL_BROKEN := Raised.fireOwn hd (by decide)
  rw [sealBroken_eq] at hexec
  by_cases harmed : s.own.armed = true
  · have hdom : ((brokenSeal (missed s)).fire P.OWN E.OWN_SEAL_BROKEN).domOn 0 = true :=
      (State.domOn_of_pwr (hframe.1 .pwr (by decide)) 0).trans hd
    refine ⟨_, hexec.trans (congrArg Host.Outcome.next (if_pos harmed)), hframe.trans (State.openForce_frame _), ?_,
      openForce_raised hraised, fun _ => ⟨openForce_starts _, openForce_raises hdom⟩, fun h => absurd harmed (ne_true_of_eq_false h)⟩
    rw [State.openForce_own, hown, harmed, Bool.or_true]
  · refine ⟨_, hexec.trans (congrArg Host.Outcome.next (if_neg harmed)), hframe, ?_, hraised, fun h => absurd h harmed,
      fun _ => State.fire_timers _ _ _⟩
    rw [hown, Bool.eq_false_iff.mpr harmed, Bool.or_false]

theorem exec_sealBreak_counts (hu : s.own.sealUse = true) (hw : s.watches = true) (hx : x ≠ s.own.lfsr.getLsbD 7)
    (h : s.own.misses < 2 ∨ s.own.matchSeen = false) : exec (.sealBreak [x]) s = .next (missed s) := by
  refine (exec_sealBreak hu hw).trans (congrArg Host.Outcome.next ((sealBit_missed hx).trans (if_neg ?_)))
  rintro ⟨hthird, hseen⟩
  obtain hfew | hnone := h
  · omega
  · exact absurd hseen (ne_true_of_eq_false hnone)

theorem exec_sealBrokenClear (h : Taken s r R.OWN_OWN_STAT) (hb : s.own.broken = true) : exec (.sealBrokenClear r) s =
    .next { s with own := { s.own with broken := false, cleared := true, armed := s.own.armed || s.own.matched64 }, resp := .done } := by
  have hop : (s.reply .done).opOwnStat 0x800 =
      ({ s.reply .done with own := { s.own with broken := false, cleared := true } }).sealArm := if_pos ⟨by decide, hb⟩
  refine congrArg Host.Outcome.next ((Taken_access h).trans (hop.trans ?_))
  rw [sealArm_eq]
  simp [State.reply]

/-- Settles O20: the button and the windows by the lemma of each command; the seal commands by the equation of the bit that they bring. -/
theorem presenceAndSeal : Obligations.PresenceAndSeal := by
  unfold Obligations.PresenceAndSeal
  exact ⟨fun _ hw => exec_debounce hw,
    fun _ hw b => exec_debounce_unwatched hw b,
    fun _ hw hc hp hs hd => presenceOn_opens hw hc hp hs hd,
    fun _ hw hc hs hd => presenceStuck_closes hw hc hs hd,
    fun _ hw hs hl => exec_presenceUnstick hw hs hl,
    fun s hw hd => ⟨_, rfl, State.closePresence_frame s, State.closePresence_own s, closePresence_raises hw hd⟩,
    forceWindowExpire_closes,
    fun _ _ _ ht hw hd => presenceEnd_closes ht hw hd,
    fun _ _ hu hw hd hx hm hseen => sealBreak_breaks hu hw hd hx hm hseen,
    fun _ _ hu hw hx h => exec_sealBreak_counts hu hw hx h,
    fun _ _ hu hw hx hh => ⟨(exec_sealBreak hu hw).trans (congrArg Host.Outcome.next (sealBit_sixtyFourth hx hh)), rfl⟩,
    fun _ _ hu hw hx hh => ⟨(exec_sealBreak hu hw).trans (congrArg Host.Outcome.next (sealBit_counted hx hh)), rfl⟩,
    fun seen _ => ⟨rfl, rfl, exec_seal_unused seen⟩,
    fun _ _ ht hb => exec_sealBrokenClear ht hb⟩

end Sys2Proof.Proofs.Presence
end

section
/-! PROOF. The endpoint's link (O53): what the link leaves of the endpoint as it reaches and leaves L0, its resets, and the messages that
a vector's mask held. -/

namespace Sys2Proof.Proofs.HostLinks

open Sys2Proof Sys2Proof.Machine Sys2Proof.Laws.HostEnds

variable {s : State} {r : Req} {width speed : BitVec 3} {d3 me fm : Bool}

/-! ### The link reaches L0 (R82, R639, R655) -/

/-- What the host configured is recorded, and the wait for L0 after a wake ends. -/
def linked (s : State) (width speed : BitVec 3) (d3 me fm : Bool) : State :=
  (s.stopTimer T.wakeL0).setHif (fun h => { h with l0 := true, width := width, speed := speed, d3 := d3, msixEn := me, funcMask := fm })

/-- `t` shows the link in L0 as the host configured it, and waits for it no longer. -/
structure Configured (t : State) (width speed : BitVec 3) (d3 me fm : Bool) : Prop where
  l0 : t.hif.l0 = true
  width : t.hif.width = width
  speed : t.hif.speed = speed
  d3 : t.hif.d3 = d3
  msixEn : t.hif.msixEn = me
  funcMask : t.hif.funcMask = fm
  wake : t.running T.wakeL0 = false

theorem exec_pcieLinkUp (hw : linkWf width speed = true) (hon : s.endpointOn = true) :
    exec (.pcieLinkUp width speed d3 me fm) s = .next (s.enterL0 width speed d3 me fm) :=
  (if_neg (not_not_intro hw)).trans (congrArg Host.Outcome.next (if_pos hon))

/-- The messages of the PBA go out over the link. -/
def drained (s : State) (width speed : BitVec 3) (d3 me fm : Bool) : State := (linked s width speed d3 me fm).drainPba

theorem linked_stopped (s : State) : (linked s width speed d3 me fm).running T.wakeL0 = false := by
  have hstop : (linked s width speed d3 me fm).running T.wakeL0 = (s.stopTimer T.wakeL0).running T.wakeL0 := rfl
  rw [hstop, State.running_stopTimer]
  simp

theorem drained_configured (s : State) : Configured (drained s width speed d3 me fm) width speed d3 me fm :=
  have h := drainPba_sends (linked s width speed d3 me fm)
  ⟨h.l0, h.width, h.speed, h.d3, h.me, h.fm,
    (State.running_of_timers (h.keep .timers (by decide)) _).trans (linked_stopped s)⟩

theorem drained_keeps (s : State) : SameBut [.timers, .hif, .out] s (drained s width speed d3 me fm) :=
  SameBut.trans (State.setHif_keeps _ (by decide) (State.stopTimer_keeps _ (by decide) (SameBut.refl _ s)))
    (SameBut.mono (by decide) (drainPba_sends (linked s width speed d3 me fm)).keep)

theorem drained_frame (s : State) : FrameEv [.timers] [] s (drained s width speed d3 me fm) :=
  (((FrameEv.refl _ _ s).stopTimer _ (by decide)).setHif _).drainPba

/-- A delivered event and a candidate that joins leave the record of the link. -/
theorem Configured.delivers {t u : State} (h : Configured t width speed d3 me fm) (hd : Delivers t u)
    (hr : u.running T.wakeL0 = t.running T.wakeL0) : Configured u width speed d3 me fm :=
  have ⟨hl0, hd3, hme, hfm, hwidth, hspeed⟩ := delivers_hif hd
  ⟨hl0.trans h.l0, hwidth.trans h.width, hspeed.trans h.speed, hd3.trans h.d3, hme.trans h.msixEn, hfm.trans h.funcMask, hr.trans h.wake⟩

/-- The rise of the link is raised. -/
def risen (s : State) (width speed : BitVec 3) (d3 me fm : Bool) : State :=
  (drained s width speed d3 me fm).fire P.HIF E.HIF_PCIE_LINK

theorem risen_configured (s : State) : Configured (risen s width speed d3 me fm) width speed d3 me fm :=
  (drained_configured s).delivers (State.fire_delivers _ _ _) (State.fire_running _ _ _ _)

theorem risen_frame (s : State) : FrameEv [.timers] [] s (risen s width speed d3 me fm) := (drained_frame s).andFire _ _

theorem risen_raised (hd : s.domOn 33 = true) : Raised (risen s width speed d3 me fm) P.HIF E.HIF_PCIE_LINK :=
  State.fire_raised ((State.domOn_of_pwr (drained_keeps s .pwr (by decide)) 33).trans hd) (by decide)

theorem enterL0_again (h : s.hif.l0 = true) : s.enterL0 width speed d3 me fm = drained s width speed d3 me fm := if_pos h

theorem enterL0_rise (h : s.hif.l0 = false) : s.enterL0 width speed d3 me fm = (risen s width speed d3 me fm).addCandidate 0 :=
  if_neg (ne_true_of_eq_false h)

/-- PCIe comes too late to be a candidate, or is none. -/
theorem addCandidate_none {a : Nat} (h : s.own.elected = true ∨ (priorityOrder (s.rst.straps.toNat % 4)).contains a = false) :
    s.addCandidate a = s := by
  rw [addCandidate_eq]
  exact if_pos (h.imp_right ne_true_of_eq_false)

theorem addCandidate_waits {a : Nat} (he : s.own.elected = false) (hc : (priorityOrder (s.rst.straps.toNat % 4)).contains a = true)
    (hf : (priorityOrder (s.rst.straps.toNat % 4)).head? ≠ some a) : s.addCandidate a = joinedState s a := by
  have hopen : ¬ (s.own.elected = true ∨ ¬ (priorityOrder (s.rst.straps.toNat % 4)).contains a = true) :=
    fun h => h.elim (ne_true_of_eq_false he) (not_not_intro hc)
  rw [addCandidate_eq, if_neg hopen, if_neg hf]

/-- A candidate that joins, or comes too late, leaves the link, what is raised and the wait for L0 as they were. -/
theorem addCandidate_leaves (s : State) : Delivers s (s.addCandidate 0) ∧ (∀ p c, Raised s p c → Raised (s.addCandidate 0) p c) ∧
    (s.addCandidate 0).running T.wakeL0 = s.running T.wakeL0 := by
  by_cases hnone : s.own.elected = true ∨ (priorityOrder (s.rst.straps.toNat % 4)).contains 0 = false
  · rw [addCandidate_none hnone]
    exact ⟨Delivers.refl s, fun _ _ h => h, rfl⟩
  · rw [not_or, Bool.not_eq_true, Bool.not_eq_false] at hnone
    obtain ⟨he, hc⟩ := hnone
    by_cases hf : (priorityOrder (s.rst.straps.toNat % 4)).head? = some 0
    · obtain ⟨-, -, -, hdel, hraised, hrun⟩ := addCandidate_spec s 0 (by decide) hf he
      exact ⟨hdel, hraised, hrun _ (by decide) (by decide) (by decide)⟩
    · rw [addCandidate_waits he hc hf]
      exact ⟨joinedState_delivers s 0, fun _ _ h => h, rfl⟩

theorem enterL0_configured (s : State) : Configured (s.enterL0 width speed d3 me fm) width speed d3 me fm := by
  by_cases hl : s.hif.l0 = true
  · rw [enterL0_again hl]
    exact drained_configured s
  · rw [enterL0_rise (Bool.eq_false_iff.mpr hl)]
    obtain ⟨hdel, -, hrun⟩ := addCandidate_leaves (risen s width speed d3 me fm)
    exact (risen_configured s).delivers hdel hrun

theorem enterL0_raises (hl : s.hif.l0 = false) (hd : s.domOn 33 = true) :
    Raised (s.enterL0 width speed d3 me fm) P.HIF E.HIF_PCIE_LINK := by
  obtain ⟨-, hraised, -⟩ := addCandidate_leaves (risen s width speed d3 me fm)
  rw [enterL0_rise hl]
  exact hraised _ _ (risen_raised hd)

theorem risen_own (s : State) : (risen s width speed d3 me fm).own = s.own := (risen_frame s).1 .own (by decide)

theorem risen_rst (s : State) : (risen s width speed d3 me fm).rst = s.rst := (risen_frame s).1 .rst (by decide)

theorem enterL0_settled (h : s.hif.l0 = true ∨ s.own.elected = true) : FrameEv [.timers] [] s (s.enterL0 width speed d3 me fm) := by
  by_cases hl : s.hif.l0 = true
  · rw [enterL0_again hl]
    exact drained_frame s
  · have he : (risen s width speed d3 me fm).own.elected = true := (congrArg Own.elected (risen_own s)).trans (h.resolve_left hl)
    rw [enterL0_rise (Bool.eq_false_iff.mpr hl), addCandidate_none (.inl he)]
    exact risen_frame s

/-- PCIe is first in the order, so its candidacy decides the election. -/
theorem enterL0_decides (hl : s.hif.l0 = false) (he : s.own.elected = false)
    (hf : (priorityOrder (s.rst.straps.toNat % 4)).head? = some 0) :
    FrameEv [.cmt, .own, .timers] movedRegs s (s.enterL0 width speed d3 me fm) ∧ Moved s (s.enterL0 width speed d3 me fm) ∧
    (s.enterL0 width speed d3 me fm).own = { s.own with
      present := s.own.present ||| 1, elected := true, timed := false, cand := s.own.present ||| 1, st := .held, holder := 0 } := by
  have hown := risen_own (width := width) (speed := speed) (d3 := d3) (me := me) (fm := fm) s
  have hframe := risen_frame (width := width) (speed := speed) (d3 := d3) (me := me) (fm := fm) s
  have hfirst : (priorityOrder ((risen s width speed d3 me fm).rst.straps.toNat % 4)).head? = some 0 := by rwa [risen_rst]
  obtain ⟨hmoved, hjoin, hjoined, -⟩ := addCandidate_spec _ 0 (by decide) hfirst ((congrArg Own.elected hown).trans he)
  rw [enterL0_rise hl]
  refine ⟨(hframe.mono (by decide) (by decide)).trans hjoin,
    Moved.pre hmoved (hframe.1 .cmt (by decide)) (hframe.2 _ (by decide) (by decide)), ?_⟩
  rw [hjoined, hown]
  rfl

/-- PCIe is not first in the order: it is a candidate where the order has it at all. -/
theorem enterL0_joins (hl : s.hif.l0 = false) (he : s.own.elected = false)
    (hf : (priorityOrder (s.rst.straps.toNat % 4)).head? ≠ some 0) :
    FrameEv [.own, .timers] [] s (s.enterL0 width speed d3 me fm) ∧ (s.enterL0 width speed d3 me fm).own =
      if (priorityOrder (s.rst.straps.toNat % 4)).contains 0 then { s.own with present := s.own.present ||| 1 } else s.own := by
  have hown := risen_own (width := width) (speed := speed) (d3 := d3) (me := me) (fm := fm) s
  have hrst := risen_rst (width := width) (speed := speed) (d3 := d3) (me := me) (fm := fm) s
  have hframe : FrameEv [.own, .timers] [] s (risen s width speed d3 me fm) :=
    (risen_frame s).mono (by decide) (List.Subset.refl _)
  rw [enterL0_rise hl]
  by_cases hc : (priorityOrder (s.rst.straps.toNat % 4)).contains 0 = true
  · rw [addCandidate_waits ((congrArg Own.elected hown).trans he) (by rwa [hrst]) (by rwa [hrst]), if_pos hc]
    refine ⟨hframe.setOwn _ (by decide), ?_⟩
    unfold joinedState
    rw [hown]
    rfl
  · rw [addCandidate_none (.inr (by rw [hrst]; exact Bool.eq_false_iff.mpr hc)), if_neg hc]
    exact ⟨hframe, hown⟩

/-! ### The link leaves L0 and the endpoint is reset (R88, R613, R638) -/

theorem leaveL0_held (h : s.hif.l0 = false) : s.leaveL0 = s := if_neg (ne_true_of_eq_false h)

theorem leaveL0_width (h : s.hif.l0 = true) : s.leaveL0.hif.width = 0 := by
  unfold State.leaveL0
  rw [if_pos h, State.fire_hif_width]
  rfl

theorem leaveL0_cmt (s : State) : s.leaveL0.cmt = s.cmt := (leaveL0_spec s).1.1 .cmt (by decide)

/-- What a reset of the endpoint leaves, whatever becomes of the link. -/
structure EndpointReset (s t : State) : Prop where
  table : ∀ k : Nat, R.HIF_MSIX_ADDR_LO 0 ≤ k → k < R.HIF_PBA_LO → t.rd k = resetWord k
  d3 : t.hif.d3 = false
  msixEn : t.hif.msixEn = false
  funcMask : t.hif.funcMask = false
  kept : s.own.st = .vacant ∨ s.own.holder ≠ 0 → SameBut evParts s t ∧
    ∀ k : Nat, k < R.HIF_MSIX_ADDR_LO 0 ∨ R.HIF_PBA_LO ≤ k → eventReg k = false → t.rd k = s.rd k
  lost : s.own.st ≠ .vacant → s.own.holder = 0 → Moved s t ∧ SameBut (evParts ++ [.cmt, .own, .timers]) s t ∧
    t.own = { s.own with st := .vacant, holder := 3, presWin := false } ∧
    ∀ k : Nat, k < R.HIF_MSIX_ADDR_LO 0 ∨ R.HIF_PBA_LO ≤ k → k ∉ movedRegs → eventReg k = false → t.rd k = s.rd k

theorem endpointReset_resets (s : State) : EndpointReset s s.endpointReset :=
  have ⟨htable, hd3, hme, hfm, _, _, hkept, hlost⟩ := endpointReset_spec s
  ⟨htable, hd3, hme, hfm, hkept, hlost⟩

theorem EndpointReset.leaveL0 {t : State} (h : EndpointReset s t) : EndpointReset s t.leaveL0 := by
  obtain ⟨hframe, -, hd3, hme, hfm, -⟩ := leaveL0_spec t
  have hsame : ∀ k, eventReg k = false → t.leaveL0.rd k = t.rd k := fun k => hframe.2 k (by simp)
  refine ⟨fun k hlo hhi => ?_, hd3.trans h.d3, hme.trans h.msixEn, hfm.trans h.funcMask, fun hst => ?_, fun hst hh => ?_⟩
  · exact (hsame k (msix_not_event k hlo hhi).1).trans (h.table k hlo hhi)
  · obtain ⟨hparts, hregs⟩ := h.kept hst
    exact ⟨hparts.trans hframe.1, fun k hk he => (hsame k he).trans (hregs k hk he)⟩
  · obtain ⟨hmoved, hparts, hown, hregs⟩ := h.lost hst hh
    exact ⟨Moved.post hmoved (leaveL0_cmt t) hsame, hparts.trans (SameBut.mono (by decide) hframe.1),
      (hframe.1 .own (by decide)).trans hown, fun k hk hm he => (hsame k he).trans (hregs k hk hm he)⟩

theorem endpointReset_l0 (s : State) : s.endpointReset.hif.l0 = s.hif.l0 := by
  obtain ⟨-, -, -, -, hl0, -⟩ := endpointReset_spec s
  exact hl0

theorem endpointReset_domOn (s : State) (d : Nat) : s.endpointReset.domOn d = s.domOn d := by
  obtain ⟨-, -, -, -, -, hpwr, -⟩ := endpointReset_spec s
  exact State.domOn_of_pwr hpwr d

theorem resetAndLeave_leaves (s : State) : s.endpointReset.leaveL0.hif.l0 = false ∧
    (s.hif.l0 = true → s.domOn 33 = true → Raised s.endpointReset.leaveL0 P.HIF E.HIF_PCIE_LINK) := by
  obtain ⟨-, hl0, -, -, -, hraised⟩ := leaveL0_spec s.endpointReset
  exact ⟨hl0, fun hl hd => hraised ((endpointReset_l0 s).trans hl) ((endpointReset_domOn s 33).trans hd)⟩

/-- A link down, a hot reset and PERST_N reset the endpoint and take the link out of L0. -/
theorem exec_linkReset {i : Instr} (hi : i ∈ [Instr.pcieLinkDown, .pcieHotReset, .perstAssert]) (hon : s.endpointOn = true) :
    exec i s = .next s.endpointReset.leaveL0 := by
  have htaken : (if s.endpointOn then s.endpointReset.leaveL0 else s) = s.endpointReset.leaveL0 := if_pos hon
  simp only [List.mem_cons, List.not_mem_nil, or_false] at hi
  obtain rfl | rfl | rfl := hi <;> exact congrArg Host.Outcome.next htaken

theorem exec_pcieFlr (hon : s.endpointOn = true) (hl : s.hif.l0 = true) : exec .pcieFlr s = .next s.endpointReset :=
  congrArg Host.Outcome.next (if_pos ⟨hon, hl⟩)

theorem exec_pcieFlr_unlinked (hl : s.hif.l0 = false) : exec .pcieFlr s = .next s :=
  congrArg Host.Outcome.next (if_neg (fun h => ne_true_of_eq_false hl h.2))

theorem exec_endpointOff {i : Instr} (hoff : s.endpointOn = false) (hw : linkWf width speed = true)
    (hi : i ∈ [Instr.pcieLinkUp width speed d3 me fm, .pcieLinkDown, .pcieHotReset, .perstAssert, .pcieFlr]) :
    exec i s = .next s := by
  have hheld : (if s.endpointOn then s.endpointReset.leaveL0 else s) = s := if_neg (ne_true_of_eq_false hoff)
  simp only [List.mem_cons, List.not_mem_nil, or_false] at hi
  obtain rfl | rfl | rfl | rfl | rfl := hi
  · exact (if_neg (not_not_intro hw)).trans (congrArg Host.Outcome.next (if_neg (ne_true_of_eq_false hoff)))
  · exact congrArg Host.Outcome.next hheld
  · exact congrArg Host.Outcome.next hheld
  · exact congrArg Host.Outcome.next hheld
  · exact congrArg Host.Outcome.next (if_neg (fun h => ne_true_of_eq_false hoff h.1))

/-! ### A vector is unmasked (R639) -/

theorem maskPlain (vec : Fin 64) : plainField (F.HIF_MSIX_CTL_MASK vec.val) = true := by
  revert vec
  decide +kernel

/-- The mask of the vector is lifted. -/
def unmasked (s : State) (vec : Fin 64) : State := (s.reply .done).store (R.HIF_MSIX_CTL vec.val) 0

theorem exec_msixUnmask {vec : Fin 64} (h : Taken s r (R.HIF_MSIX_CTL vec.val)) :
    exec (.msixUnmask r vec) s = .next (unmasked s vec).drainPba := by
  have hop : (s.reply .done).opMsixCtl vec.val 0 = (unmasked s vec).drainPba := by
    unfold State.opMsixCtl
    exact if_neg (by decide)
  exact congrArg Host.Outcome.next ((Taken_access h).trans hop)

theorem unmasked_fld (s : State) (vec : Fin 64) : (unmasked s vec).fld (F.HIF_MSIX_CTL_MASK vec.val) = 0 :=
  (State.fld_store_plain (s.reply .done) (F.HIF_MSIX_CTL_MASK vec.val) 0 (maskPlain vec)).trans (by decide : getField 0 0 1 = 0)

theorem unmasked_rd (s : State) (vec : Fin 64) {k : Nat} (hk : k ≠ R.HIF_MSIX_CTL vec.val) : (unmasked s vec).rd k = s.rd k :=
  State.rd_store_ne _ _ hk

theorem unmasked_frame (s : State) (vec : Fin 64) : Frame [.hif, .resp, .out] [R.HIF_MSIX_CTL vec.val] s (unmasked s vec) :=
  ((Frame.refl _ _ s).reply _ (by decide)).store _ _ (by simp)

/-- The registers of a vector's message lie apart from the masks. -/
theorem message_regs_apart (v n : Nat) : R.HIF_MSIX_ADDR_LO v ≠ R.HIF_MSIX_CTL n ∧ R.HIF_MSIX_ADDR_HI v ≠ R.HIF_MSIX_CTL n ∧
    R.HIF_MSIX_DATA v ≠ R.HIF_MSIX_CTL n := by
  unfold R.HIF_MSIX_ADDR_LO R.HIF_MSIX_ADDR_HI R.HIF_MSIX_DATA R.HIF_MSIX_CTL
  omega

theorem drained_fld (u : State) (f : Fld) : u.drainPba.fld f = u.fld f :=
  State.fld_of_regs ((drainPba_sends u).keep .regs (by decide)) f

/-- With MSI-X enabled the PBA keeps the vectors that are masked. -/
theorem drainPba_pba {u : State} (h : u.hif.msixEn = true ∧ u.hif.funcMask = false ∧ u.hif.l0 = true) (v : Nat) :
    v ∈ u.drainPba.hif.pba ↔ v ∈ u.hif.pba ∧ u.fld (F.HIF_MSIX_CTL_MASK v) ≠ 0 := by
  rw [drainPba_eq, ((drain_fold u.hif.pba u).2 h).1 v]
  tauto

theorem msixUnmask_lifts {vec : Fin 64} (h : Taken s r (R.HIF_MSIX_CTL vec.val)) :
    ∃ t, exec (.msixUnmask r vec) s = .next t ∧ Frame [.hif, .resp, .out] [R.HIF_MSIX_CTL vec.val] s t ∧ t.resp = .done ∧
      t.fld (F.HIF_MSIX_CTL_MASK vec.val) = 0 ∧
      (s.hif.msixEn = true → s.hif.funcMask = false → s.hif.l0 = true →
        (∀ v : Nat, v ∈ t.hif.pba ↔ v ∈ s.hif.pba ∧ t.fld (F.HIF_MSIX_CTL_MASK v) ≠ 0) ∧
        (∀ v ∈ s.hif.pba, t.fld (F.HIF_MSIX_CTL_MASK v) = 0 →
          Out.msix v ((s.rd (R.HIF_MSIX_ADDR_LO v)).toNat / 4 * 4 + (s.rd (R.HIF_MSIX_ADDR_HI v)).toNat * 2 ^ 32)
            (s.rd (R.HIF_MSIX_DATA v)) ∈ t.out)) := by
  have hsends := drainPba_sends (unmasked s vec)
  refine ⟨_, exec_msixUnmask h, (unmasked_frame s vec).upd hsends.keep (by decide) (hsends.keep .regs (by decide)),
    hsends.keep .resp (by decide), (drained_fld _ _).trans (unmasked_fld s vec), fun hme hfm hl => ⟨fun v => ?_, fun v hv hmask => ?_⟩⟩
  · rw [drained_fld]
    exact drainPba_pba (u := unmasked s vec) ⟨hme, hfm, hl⟩ v
  · rw [drained_fld] at hmask
    obtain ⟨hlo, hhi, hdata⟩ := message_regs_apart v vec.val
    have hsent := ((drain_fold s.hif.pba (unmasked s vec)).2 ⟨hme, hfm, hl⟩).2 v hv hmask
    rwa [unmasked_rd s vec hlo, unmasked_rd s vec hhi, unmasked_rd s vec hdata] at hsent

/-- Settles O53: the link that rises by the lemma of each case of the election; the resets by what a reset of the endpoint leaves, which
the link's leaving L0 keeps. -/
theorem hostLink : Obligations.HostLink := by
  unfold Obligations.HostLink
  refine ⟨fun width speed d3 me fm s hw hon => ?up, fun i s hon hi => ?reset,
    fun _ _ _ _ _ _ _ hoff hw hi => exec_endpointOff hoff hw hi,
    fun s hl => ?leave, fun s hl => ⟨congrArg Host.Outcome.next (leaveL0_held hl), exec_pcieFlr_unlinked hl⟩,
    fun _ _ _ ht => msixUnmask_lifts ht⟩
  case up =>
    obtain ⟨hl0, hwidth, hspeed, hd3, hme, hfm, hwake⟩ :=
      enterL0_configured (width := width) (speed := speed) (d3 := d3) (me := me) (fm := fm) s
    exact ⟨_, exec_pcieLinkUp hw hon, hl0, hwidth, hspeed, hd3, hme, hfm, hwake, fun hl hd => enterL0_raises hl hd, enterL0_settled,
      fun hl he hf => enterL0_decides hl he hf, fun hl he hf => enterL0_joins hl he hf⟩
  case reset =>
    obtain hi | ⟨rfl, hl⟩ := hi
    · obtain ⟨htable, hd3, hme, hfm, hkept, hlost⟩ := (endpointReset_resets s).leaveL0
      have hflr : i ≠ .pcieFlr := fun e => absurd (e ▸ hi) (by decide)
      exact ⟨_, exec_linkReset hi hon, htable, hd3, hme, hfm, fun e => absurd e hflr, fun _ => resetAndLeave_leaves s, hkept, hlost⟩
    · obtain ⟨htable, hd3, hme, hfm, hkept, hlost⟩ := endpointReset_resets s
      exact ⟨_, exec_pcieFlr hon hl, htable, hd3, hme, hfm, fun _ => (endpointReset_l0 s).trans hl, fun e => absurd rfl e, hkept, hlost⟩
  case leave =>
    obtain ⟨hframe, hl0, -, -, -, hraised⟩ := leaveL0_spec s
    exact ⟨_, rfl, hframe, hl0, leaveL0_width hl, fun hd => hraised hl hd⟩

end Sys2Proof.Proofs.HostLinks
end

section
/-! PROOF. The receive chain's states (O21): RX_DISABLE counts the gated groups of a planned hold with the NF_EN that it has just
written, where the statement counts them with the NF_EN of before. -/

namespace Sys2Proof.Proofs.ReceiverStates

open Sys2Proof Sys2Proof.Machine Sys2Proof.Proofs.ReceiverEffects

variable {s u : State} {c : Chan}

/-! ### A channel on which nothing is left to end -/

/-- The deframer of the channel is off, no roll of its key pairs is pending, its burst framer holds nothing, and no group is being
applied: what follows a chain into OFF finds nothing to end. -/
def ChannelIdle (s : State) (c : Chan) : Prop :=
  (s.dsf[c]).st = .off ∧ (s.pair (pairUp c)).roll = none ∧ (s.pair (pairDown c)).roll = none ∧ s.upb[c] = {} ∧ s.applyingSlots = []

/-- Being idle is a matter of the deframer, the pairs, the burst framer and the commit slots. -/
theorem ChannelIdle.of_frame {ks : List Nat} (hi : ChannelIdle s c) (hf : FrameEv [.rx, .resp] ks s u) : ChannelIdle u c := by
  obtain ⟨hdsf, hup, hdown, hupb, hslots⟩ := hi
  have hpairs : u.pairs = s.pairs := hf.1 .pairs (by decide)
  refine ⟨?_, ?_, ?_, ?_, ?_⟩
  · rwa [show u.dsf = s.dsf from hf.1 .dsf (by decide)]
  · unfold State.pair at hup ⊢
    rwa [hpairs]
  · unfold State.pair at hdown ⊢
    rwa [hpairs]
  · rwa [show u.upb = s.upb from hf.1 .upb (by decide)]
  · unfold State.applyingSlots at hslots ⊢
    rwa [show u.cmt = s.cmt from hf.1 .cmt (by decide)]

theorem rollsFail_idle (hup : (u.pair (pairUp c)).roll = none) (hdown : (u.pair (pairDown c)).roll = none) : u.rollsFail c = u := by
  have hstays : ∀ n : Fin 8, (u.pair n).roll = none → (if (u.pair n).roll.isSome then u.rollFail n else u) = u := fun n hn =>
    if_neg (by rw [hn]; exact Bool.false_ne_true)
  unfold State.rollsFail
  rw [List.foldl_cons, hstays _ hup, List.foldl_cons, hstays _ hdown, List.foldl_nil]

theorem dsfOff_idle (hi : ChannelIdle u c) : u.dsfOff c = u := by
  obtain ⟨hdsf, hup, hdown, -, -⟩ := hi
  have hoff : u.dsfOff c = u.rollsFail c := congrArg (fun t : State => t.rollsFail c) (if_pos hdsf)
  rw [hoff, rollsFail_idle hup hdown]

/-- Without a burst in progress only the windows are dropped. -/
theorem cutBurst_idle (hupb : u.upb[c] = {}) : u.cutBurst c = u.setUpb c {} := by
  unfold State.cutBurst
  rw [hupb]

theorem gsmIdle_idle (hslots : u.applyingSlots = []) : u.gsmIdle c = u := by
  unfold State.gsmIdle State.switchAny
  rw [hslots]
  exact ite_self _

/-- Without packets in progress only the count of restarts is written. -/
theorem restartPackets_idle {k : Nat} (hupb : u.upb[c] = {}) (hr : k ≠ R.UPB_CNT_RESTART c.val) :
    (u.restartPackets c false).applyingSlots = u.applyingSlots ∧ (u.restartPackets c false).rd k = u.rd k := by
  unfold State.restartPackets
  rw [hupb]
  exact ⟨rfl, State.rd_bumpBy_ne _ _ hr⟩

/-- Discarding the grants of a burst framer that holds nothing writes its counters alone. -/
theorem discardGrants_idle_rd {k : Nat} (hupb : u.upb[c] = {}) (hslots : u.applyingSlots = []) (he : eventReg k = false)
    (hd : k ≠ R.UPB_CNT_GRANT_DISC c.val) (hr : k ≠ R.UPB_CNT_RESTART c.val) : (u.discardGrants c).rd k = u.rd k := by
  obtain ⟨hsame, hrd⟩ := restartPackets_idle (u := (u.setUpb c {}).bumpBy (R.UPB_CNT_GRANT_DISC c.val) 0)
    (Vector.getElem_set_self ..) hr
  unfold State.discardGrants State.dropGrants
  rw [State.fire_rd _ _ _ he, hupb]
  exact (congrArg (State.rd · k) (gsmIdle_idle (hsame.trans hslots))).trans (hrd.trans (State.rd_bumpBy_ne _ _ hd))

/-- Neither an event nor the burst framer writes the count of gated groups. -/
theorem dozeCount_apart (c : Chan) : eventReg (R.LRX_CNT_DOZE_GRP c.val) = false ∧
    R.LRX_CNT_DOZE_GRP c.val ≠ R.UPB_CNT_GRANT_DISC c.val ∧ R.LRX_CNT_DOZE_GRP c.val ≠ R.UPB_CNT_RESTART c.val := by
  revert c
  decide

/-- What follows an idle channel's chain into OFF leaves the count of gated groups alone. -/
theorem chainEnds_rd (hi : ChannelIdle u c) :
    (((u.dsfOff c).cutBurst c).discardGrants c).rd (R.LRX_CNT_DOZE_GRP c.val) = u.rd (R.LRX_CNT_DOZE_GRP c.val) := by
  obtain ⟨he, hd, hr⟩ := dozeCount_apart c
  have hoff := dsfOff_idle hi
  obtain ⟨-, -, -, hupb, hslots⟩ := hi
  rw [hoff, cutBurst_idle hupb]
  exact discardGrants_idle_rd (Vector.getElem_set_self ..) hslots he hd hr

/-! ### A planned hold that is measured -/

/-- The shelf bus holds the thimble, the Seam is up, and chain 0 has been in a planned hold of two dark groups for 500 ns, with NF_EN at
its reset value 1. -/
def measuredHold : State :=
  { State.reset.setRx 0 { st := .held, planned := true, span := 2 } with
    rst := { State.reset.rst with straps := 4 }, own := { st := .held, holder := 1 },
    seam := { State.reset.seam with phase := .up }, clock := { State.reset.clock with mono := 500 } }

theorem measuredHold_idle : ChannelIdle measuredHold 0 := by
  unfold ChannelIdle
  decide +kernel

theorem measuredHold_taken : Taken measuredHold .shelf (R.LRX_RX_CTL 0) := by
  unfold Taken
  decide +kernel

/-- Both dark groups have begun, the second of them in the noise window, with the ADC on. -/
theorem measuredHold_gated :
    measuredHold.gatedGroups 0 (groupsBegun (measuredHold.rx[(0 : Chan)]).span
      (measuredHold.clock.mono - (measuredHold.rx[(0 : Chan)]).ageFrom)) = 1 := by
  decide +kernel

/-- A write of 0 to RX_CTL clears NF_EN, and counts both groups as gated. -/
theorem measuredHold_disable :
    ∃ t, exec (.rxDisable .shelf 0 0) measuredHold = .next t ∧ t.rd (R.LRX_CNT_DOZE_GRP 0) = 2 :=
  ⟨_, rfl, by decide +kernel⟩

/-- Refutes O21 in its clause for RX_DISABLE: the write of RX_CTL that disables a chain also sets NF_EN, by which the model then judges the
groups of the hold that have already begun. In `measuredHold` a write of 0 counts two groups as gated, where the statement, judging by the
NF_EN of before the write, has one. -/
theorem not_receiveStates : ¬ Obligations.ReceiveStates := by
  unfold Obligations.ReceiveStates
  rintro ⟨-, hdisable, -⟩
  obtain ⟨u, hexec, hframe, -, -, hcount⟩ :=
    hdisable .shelf 0 0 measuredHold measuredHold_taken (by decide +kernel)
  obtain ⟨t, hnext, htwo⟩ := measuredHold_disable
  have hends : t = ((u.dsfOff 0).cutBurst 0).discardGrants 0 := Host.Outcome.next.inj (hnext.symm.trans hexec)
  have hkept : u.rd (R.LRX_CNT_DOZE_GRP 0) = 2 :=
    (chainEnds_rd (measuredHold_idle.of_frame hframe)).symm.trans (hends ▸ htwo)
  rw [if_neg (by decide +kernel), if_pos (by decide +kernel), measuredHold_gated] at hcount
  exact absurd (hkept.symm.trans hcount) (by decide +kernel)

end Sys2Proof.Proofs.ReceiverStates
end

section
/-! SUPPORT. Frames through the operations of a receive chain, and one equation or specification for each of those that other
operations share: training, a loss of lock, the end of a hold at the expected place. -/

namespace Sys2Proof

open Sys2Proof.Machine Sys2Proof.Proofs.ReceiverEffects

variable {ps : List Part} {ks : List Nat} {s t : State} {c : Chan}

theorem Frame.setRx (h : Frame ps ks s t) (c : Chan) (x : Rx) (hp : .rx ∈ ps) : Frame ps ks s (t.setRx c x) :=
  h.upd (State.setRx_keeps c x (List.Subset.refl _) (SameBut.refl _ t)) (by simpa using hp) rfl

theorem FrameEv.fireWith (h : FrameEv ps ks s t) (p b : Nat) (wins : Bool) (n : Nat) : FrameEv ps ks s (t.fireWith p b wins n) :=
  h.trans ⟨SameBut.mono (List.subset_append_of_subset_left _ (by decide))
    (State.fireWith_keeps p b wins n (List.Subset.refl _) (SameBut.refl _ t)), fun _ _ he => State.fireWith_rd _ _ _ _ _ he⟩

theorem FrameEv.rxEvent (h : FrameEv ps ks s t) (c : Chan) (b : Nat) : FrameEv ps ks s (t.rxEvent c b) := h.andFire _ _

/-- A register that a step neither lists nor raises an event in reads as before. -/
theorem FrameEv.rd_eq (h : FrameEv ps ks s t) {k : Nat} (hk : k ∉ ks) (he : eventReg k = false) : t.rd k = s.rd k := h.2 k hk he

namespace Machine

/-! ### Training (R109, R118) -/

/-- The record of a chain that has entered ACQUIRE. -/
def acquired (s : State) (c : Chan) (defaults : Bool) : Rx :=
  { s.rx[c] with st := .acquire, planned := false, armed := false, openS := false, lock := false, past := [],
                 cur := frozenStart s c (if defaults then (s.rx[c]).dflt else (s.rx[c]).cur) }

theorem startOf_eq (s : State) (c : Chan) (a : Adapt) :
    Sys2Proof.startOf s c a = if s.bit (F.LRX_EQ_CFG_CTLE_HOLD c.val) then
      { a with ctle := BitVec.ofNat 4 (s.fld (F.LRX_EQ_CFG_CTLE_FIX c.val)) } else a := by
  unfold Sys2Proof.startOf
  split <;> rfl

theorem State.acquire_eq (s : State) (c : Chan) (d : Bool) : s.acquire c d = s.setRx c (acquired s c d) := by
  unfold State.acquire acquired frozenStart
  rw [startOf_eq]

/-- What a chain trains from depends on its record and on EQ_CFG. -/
theorem frozenStart_congr (hrx : t.rx[c] = s.rx[c]) (hcfg : t.rd (R.LRX_EQ_CFG c.val) = s.rd (R.LRX_EQ_CFG c.val)) (a : Adapt) :
    frozenStart t c a = frozenStart s c a := by
  unfold frozenStart Sys2Proof.startOf State.bit State.fld
  rw [hrx, hcfg]

theorem acquired_congr (hrx : t.rx[c] = s.rx[c]) (hcfg : t.rd (R.LRX_EQ_CFG c.val) = s.rd (R.LRX_EQ_CFG c.val)) (d : Bool) :
    acquired t c d = acquired s c d := by
  unfold acquired
  rw [frozenStart_congr hrx hcfg, hrx]

/-- No event writes EQ_CFG, RATE or the counters of a detection. -/
theorem lrx_not_event (c : Chan) : eventReg (R.LRX_EQ_CFG c.val) = false ∧ eventReg (R.LRX_RATE c.val) = false ∧
    eventReg (R.LRX_CNT_DETECT c.val) = false ∧ eventReg (R.LRX_CNT_SLIP c.val) = false := by
  revert c
  decide

/-- CDR_LOSS_OF_LOCK and the rate limit: the lock is lost, counted, and the chain trains from the defaults. -/
theorem lockLost_spec (h : (s.rx[c]).st = .track) :
    FrameEv [.rx] [R.LRX_CNT_LOL c.val] s (s.lockLost c) ∧ (s.lockLost c).rx = s.rx.set c (acquired s c true) ∧
      (s.lockLost c).rd (R.LRX_CNT_LOL c.val) = s.rd (R.LRX_CNT_LOL c.val) + 1 := by
  obtain ⟨he, -⟩ := lrx_not_event c
  have hlost : s.lockLost c = ((s.bump (R.LRX_CNT_LOL c.val)).rxEvent c E.LRX_LOL).acquire c true := if_pos h
  have hframe : FrameEv [.rx] [R.LRX_CNT_LOL c.val] s ((s.bump (R.LRX_CNT_LOL c.val)).rxEvent c E.LRX_LOL) :=
    ((FrameEv.refl _ _ s).bump _ List.mem_cons_self).rxEvent _ _
  have hrx : ((s.bump (R.LRX_CNT_LOL c.val)).rxEvent c E.LRX_LOL).rx = s.rx := rxEvent_rx _ _ _
  rw [hlost, State.acquire_eq, acquired_congr (by rw [hrx]) (hframe.rd_eq (by simp) he)]
  refine ⟨hframe.setRx _ _ (by decide), by rw [State.setRx_rx, hrx], ?_⟩
  obtain ⟨-, hlol, -⟩ := lrx_counters_not_event c
  exact (rxEvent_rd _ _ _ hlol).trans (State.rd_bump_self _ _)

/-! ### The end of a hold (R109, R116, R122, R123) -/

theorem countGated_frame (s : State) (c : Chan) : FrameEv [] [R.LRX_CNT_DOZE_GRP c.val] s (s.countGated c) :=
  .ite ((FrameEv.refl _ _ s).bumpBy _ _ List.mem_cons_self)
    (.ite ((FrameEv.refl _ _ s).bumpBy _ _ List.mem_cons_self) (FrameEv.refl _ _ s))

theorem countGated_rx (s : State) (c : Chan) : (s.countGated c).rx = s.rx :=
  State.countGated_keeps c (List.Subset.refl _) (SameBut.refl _ s) .rx (by decide)

theorem detected_rx (s : State) (c : Chan) (t : Nat) : (s.detected c t).rx = s.rx := State.fireWith_rx _ _ _ _ _

/-- Where the age of the held state is over 10 ms, the use of the defaults is counted. -/
def defaultsUsed (s : State) (c : Chan) (late : Bool) : State :=
  if late then (s.bump (R.LRX_CNT_DEFAULTS c.val)).rxEvent c E.LRX_DEFAULTS_USED else s

theorem defaultsUsed_frame (s : State) (c : Chan) (late : Bool) : FrameEv [] [R.LRX_CNT_DEFAULTS c.val] s (defaultsUsed s c late) :=
  .ite (((FrameEv.refl _ _ s).bump _ List.mem_cons_self).rxEvent _ _) (FrameEv.refl _ _ s)

theorem defaultsUsed_rx (s : State) (c : Chan) (late : Bool) : (defaultsUsed s c late).rx = s.rx := by
  unfold defaultsUsed
  split
  · exact rxEvent_rx _ _ _
  · rfl

/-- A detection at the expected place takes the chain out of HELD: the grid stays, and the age decides what it trains from. -/
theorem leaveHeld_inPlace (s : State) (c : Chan) (t : Nat) :
    ∃ u : State, s.leaveHeld c 0 t = u.dsfLight c ∧ FrameEv [.rx] (R.LRX_CNT_DOZE_GRP c.val :: detectRegs c) s u ∧
      u.rx = s.rx.set c (acquired s c (s.ageOver c)) ∧
      u.rd (R.LRX_CNT_DETECT c.val) = s.rd (R.LRX_CNT_DETECT c.val) + 1 ∧
      u.rd (R.LRX_CNT_SLIP c.val) = s.rd (R.LRX_CNT_SLIP c.val) := by
  have hleft : s.leaveHeld c 0 t =
      ((defaultsUsed ((s.countGated c).detected c t) c (s.ageOver c)).acquire c (s.ageOver c)).dsfLight c := rfl
  have hseen : FrameEv [] (R.LRX_CNT_DOZE_GRP c.val :: detectRegs c) s ((s.countGated c).detected c t) :=
    (((countGated_frame s c).mono (List.Subset.refl _) (List.cons_subset_cons _ (List.nil_subset _))).bump _
      (by simp [detectRegs])).fireWith _ _ _ _
  have hused : FrameEv [] (R.LRX_CNT_DOZE_GRP c.val :: detectRegs c) s
      (defaultsUsed ((s.countGated c).detected c t) c (s.ageOver c)) :=
    hseen.trans ((defaultsUsed_frame _ c _).mono (List.Subset.refl _) (by simp [detectRegs]))
  have hrx : (defaultsUsed ((s.countGated c).detected c t) c (s.ageOver c)).rx = s.rx := by
    rw [defaultsUsed_rx, detected_rx, countGated_rx]
  have hcounted : ∀ k, k ≠ R.LRX_CNT_DEFAULTS c.val → eventReg k = false →
      (defaultsUsed ((s.countGated c).detected c t) c (s.ageOver c)).rd k = ((s.countGated c).bump (R.LRX_CNT_DETECT c.val)).rd k :=
    fun k hk he => ((defaultsUsed_frame _ c _).rd_eq (by simpa using hk) he).trans (State.fireWith_rd _ _ _ _ _ he)
  obtain ⟨he, -, hde, hse⟩ := lrx_not_event c
  refine ⟨_, hleft, ?_, ?_, ?_, ?_⟩
  · exact (hused.mono (List.nil_subset _) (List.Subset.refl _)).acquire _ _ (by decide)
  · rw [State.acquire_eq, State.setRx_rx, hrx, acquired_congr (by rw [hrx]) (hused.rd_eq (by simp [detectRegs]) he)]
  · rw [State.acquire_eq, State.setRx_rd, hcounted _ (by simp) hde, State.rd_bump_self, (countGated_frame s c).rd_eq (by simp) hde]
  · rw [State.acquire_eq, State.setRx_rd, hcounted _ (by simp) hse, State.rd_bump_ne _ (by simp), (countGated_frame s c).rd_eq (by simp) hse]

end Machine
end Sys2Proof
end

section
/-! PROOF. The receive chain's measurements, trained defaults and calibration (O22): one equation for each command, and what the state
that it leaves shows. -/

namespace Sys2Proof.Proofs.ReceiverMeasures

open Sys2Proof Sys2Proof.Machine Sys2Proof.Proofs.ReceiverEffects

variable {s : State} {r : Req} {c : Chan} {v : Word}

/-! ### ADAPT_CMD (R117, R123) -/

/-- What SAVE_DEF and LOAD_FACTORY of one write leave. -/
def withDefaults (s : State) (c : Chan) (v : Word) : State :=
  if v.getLsbD 2 then s.setRx c { s.rx[c] with dflt := factorySet, defValid := false }
  else if v.getLsbD 1 ∧ (s.rx[c]).st = .track then s.setRx c { s.rx[c] with dflt := (s.rx[c]).cur, defValid := true } else s

theorem withDefaults_factory (h2 : v.getLsbD 2 = true) :
    withDefaults s c v = s.setRx c { s.rx[c] with dflt := factorySet, defValid := false } := if_pos h2

theorem withDefaults_saved (h2 : v.getLsbD 2 = false) (h1 : v.getLsbD 1 = true) (h : (s.rx[c]).st = .track) :
    withDefaults s c v = s.setRx c { s.rx[c] with dflt := (s.rx[c]).cur, defValid := true } :=
  (if_neg (ne_true_of_eq_false h2)).trans (if_pos ⟨h1, h⟩)

theorem withDefaults_none (h2 : v.getLsbD 2 = false) (h : (s.rx[c]).st ≠ .track) : withDefaults s c v = s :=
  (if_neg (ne_true_of_eq_false h2)).trans (if_neg (fun hc => h hc.2))

/-- A write that simulates no detection only sets the defaults. -/
theorem opAdapt_defaults (h : ¬ (v.getLsbD 0 = true ∧ (s.rx[c]).st = .held)) : s.opAdapt c v = withDefaults s c v := if_neg h

theorem saveDef_saves (ht : Taken s r (R.LRX_ADAPT_CMD c.val)) (h : (s.rx[c]).st = .track) (h2 : v.getLsbD 2 = false) :
    ∃ t, exec (.saveDef r c v) s = .next t ∧ Frame [.rx, .resp] [] s t ∧ t.resp = .done ∧
      t.rx = s.rx.set c { s.rx[c] with dflt := (s.rx[c]).cur, defValid := true } := by
  have hop : (s.reply .done).opAdapt c (v ||| 2) =
      (s.reply .done).setRx c { s.rx[c] with dflt := (s.rx[c]).cur, defValid := true } :=
    (opAdapt_defaults (by rintro ⟨-, hheld⟩; cases h.symm.trans hheld)).trans
      (withDefaults_saved (PageControl.getLsbD_or_false h2 (by decide)) (PageControl.getLsbD_or_true v (by decide)) h)
  exact ⟨_, congrArg Host.Outcome.next ((Taken_access ht).trans hop),
    ((Frame.refl _ _ s).reply _ (by decide)).setRx _ _ (by decide), rfl, rfl⟩

theorem loadFactory_loads (ht : Taken s r (R.LRX_ADAPT_CMD c.val)) (h : v.getLsbD 0 = false ∨ (s.rx[c]).st ≠ .held) :
    ∃ t, exec (.loadFactory r c v) s = .next t ∧ Frame [.rx, .resp] [] s t ∧ t.resp = .done ∧
      t.rx = s.rx.set c { s.rx[c] with dflt := factorySet, defValid := false } := by
  have hnone : ¬ ((v ||| 4).getLsbD 0 = true ∧ (s.rx[c]).st = .held) := fun hc =>
    h.elim (fun h0 => ne_true_of_eq_false (PageControl.getLsbD_or_false h0 (by decide)) hc.1) (fun hst => hst hc.2)
  have hop : (s.reply .done).opAdapt c (v ||| 4) =
      (s.reply .done).setRx c { s.rx[c] with dflt := factorySet, defValid := false } :=
    (opAdapt_defaults (s := s.reply .done) hnone).trans (withDefaults_factory (PageControl.getLsbD_or_true v (by decide)))
  exact ⟨_, congrArg Host.Outcome.next ((Taken_access ht).trans hop),
    ((Frame.refl _ _ s).reply _ (by decide)).setRx _ _ (by decide), rfl, rfl⟩

/-- The gain at which a simulated detection freezes: the second of two free values, 0 to 30 dB, where a window or the open search lets
the fast AGC act (R125, log entry 136). -/
def simGain (s : State) : Nat := (Config.freeWord (s.fresh + 1)).toNat % 301

/-- PRE_LAST shows a simulated detection, its peak a free value. -/
def simShown (s : State) (c : Chan) (v : Word) : State :=
  (withDefaults s c v).freeVal.2.freeVal.2.preLast c ((Config.freeWord s.fresh).toNat % 256) 0 (s.rx[c]).openS true

theorem simShown_rx (s : State) (c : Chan) (v : Word) : (simShown s c v).rx = (withDefaults s c v).rx := by
  unfold simShown State.preLast
  rw [State.wr_rx]
  rfl

/-- The state in which a simulated detection leaves HELD. -/
def simulated (s : State) (c : Chan) (v : Word) : State :=
  (simShown s c v).freeze c (if (s.rx[c]).openS ∨ (s.rx[c]).armed then simGain s else (s.rx[c]).cur.agc)

theorem withDefaults_fresh (s : State) (c : Chan) (v : Word) : (withDefaults s c v).fresh = s.fresh := by
  unfold withDefaults
  split
  · rfl
  · split <;> rfl

theorem opAdapt_simulates (h0 : v.getLsbD 0 = true) (h : (s.rx[c]).st = .held) :
    s.opAdapt c v = (simulated s c v).leaveHeld c 0 s.clock.line := by
  unfold simulated simShown simGain
  rw [← withDefaults_fresh s c v]
  exact if_pos ⟨h0, h⟩

theorem withDefaults_held (h : (s.rx[c]).st = .held) : (withDefaults s c v).rx = s.rx.set c { s.rx[c] with
    dflt := if v.getLsbD 2 then factorySet else (s.rx[c]).dflt, defValid := !v.getLsbD 2 && (s.rx[c]).defValid } := by
  cases h2 : v.getLsbD 2 with
  | true =>
    rw [withDefaults_factory h2]
    rfl
  | false =>
    rw [withDefaults_none h2 (by rw [h]; exact (by decide : RxSt.held ≠ .track))]
    exact (Vector.set_getElem_self c.isLt).symm

theorem withDefaults_frame (s : State) (c : Chan) (v : Word) : FrameEv [.rx] [] s (withDefaults s c v) :=
  .ite ((FrameEv.refl _ _ s).setRx _ _ (by decide)) (.ite ((FrameEv.refl _ _ s).setRx _ _ (by decide)) (FrameEv.refl _ _ s))

theorem simulated_frame (s : State) (c : Chan) (v : Word) : FrameEv [.rx, .fresh] [R.LRX_PRE_LAST c.val] s (simulated s c v) :=
  (((((withDefaults_frame s c v).mono (by decide) (List.nil_subset _)).with_fresh (by decide)).with_fresh (by decide)).wr _ _
    List.mem_cons_self).freeze _ _ (by decide)

/-- The record of a chain in HELD whose defaults have been set and whose fast AGC has frozen. -/
def simulatedChain (s : State) (c : Chan) (v : Word) : Rx :=
  { s.rx[c] with
    dflt := if v.getLsbD 2 then factorySet else (s.rx[c]).dflt, defValid := !v.getLsbD 2 && (s.rx[c]).defValid, frozen := true,
    cur := { (s.rx[c]).cur with agc := if (s.rx[c]).openS ∨ (s.rx[c]).armed then simGain s else (s.rx[c]).cur.agc } }

theorem freeze_rx {z : State} {x : Rx} (n : Nat) (hz : z.rx = s.rx.set c x) :
    (z.freeze c n).rx = s.rx.set c { x with frozen := true, cur := { x.cur with agc := n } } := by
  unfold State.freeze
  rw [State.setRx_rx, hz, Vector.set_set]
  simp

theorem simulated_rx (h : (s.rx[c]).st = .held) : (simulated s c v).rx = s.rx.set c (simulatedChain s c v) :=
  freeze_rx _ ((simShown_rx s c v).trans (withDefaults_held h))

theorem simulated_ageOver (h : (s.rx[c]).st = .held) : (simulated s c v).ageOver c = s.ageOver c := by
  unfold State.ageOver
  rw [simulated_rx h, show (simulated s c v).clock = s.clock from (simulated_frame s c v).1 .clock (by decide)]
  simp [simulatedChain]

/-- The chain that a simulated detection leaves. -/
theorem simulated_acquired (h : (s.rx[c]).st = .held) (late : Bool) :
    acquired (simulated s c v) c late = { s.rx[c] with
      st := .acquire, planned := false, armed := false, openS := false, lock := false, past := [], frozen := true,
      dflt := if v.getLsbD 2 then factorySet else (s.rx[c]).dflt, defValid := !v.getLsbD 2 && (s.rx[c]).defValid,
      cur := { startOf s c (if late then (if v.getLsbD 2 then factorySet else (s.rx[c]).dflt) else (s.rx[c]).cur) with
        agc := if (s.rx[c]).openS ∨ (s.rx[c]).armed then simGain s else (s.rx[c]).cur.agc } } := by
  have hchain : (simulated s c v).rx[c] = simulatedChain s c v := by
    rw [simulated_rx h]
    exact Vector.getElem_set_self ..
  obtain ⟨he, -⟩ := lrx_not_event c
  have hstart : ∀ a, startOf (simulated s c v) c a = startOf s c a := by
    intro a
    unfold startOf State.bit State.fld
    rw [(simulated_frame s c v).rd_eq (by simp) he]
  unfold acquired frozenStart
  rw [hchain, hstart]
  cases late <;> rfl

theorem simDetect_detects {d : Adapt} (ht : Taken s r (R.LRX_ADAPT_CMD c.val)) (h : (s.rx[c]).st = .held)
    (hd : d = if v.getLsbD 2 then factorySet else (s.rx[c]).dflt) :
    ∃ u g, exec (.simDetect r c v) s = .next (u.dsfLight c) ∧
      FrameEv [.rx, .resp, .fresh] (R.LRX_CNT_DOZE_GRP c.val :: detectRegs c) s u ∧ g ≤ 300 ∧
      u.resp = .done ∧ u.rd (R.LRX_CNT_DETECT c.val) = s.rd (R.LRX_CNT_DETECT c.val) + 1 ∧
      u.rd (R.LRX_CNT_SLIP c.val) = s.rd (R.LRX_CNT_SLIP c.val) ∧
      u.rx = s.rx.set c { s.rx[c] with
        st := .acquire, planned := false, armed := false, openS := false, lock := false, past := [], frozen := true, dflt := d,
        defValid := !v.getLsbD 2 && (s.rx[c]).defValid,
        cur := { startOf s c (if s.ageOver c then d else (s.rx[c]).cur) with
          agc := if (s.rx[c]).openS = true ∨ (s.rx[c]).armed = true then g else (s.rx[c]).cur.agc } } := by
  have hfactory : (v ||| 1).getLsbD 2 = v.getLsbD 2 := by rw [BitVec.getLsbD_or]; simp
  have hop := opAdapt_simulates (s := s.reply .done) (PageControl.getLsbD_or_true (b := 0) v (x := 1) (by decide)) h
  have hframe := simulated_frame (s.reply .done) c (v ||| 1)
  obtain ⟨u, hleft, hleave, hrx, hdetect, hslip⟩ :=
    leaveHeld_inPlace (simulated (s.reply .done) c (v ||| 1)) c (s.reply .done).clock.line
  obtain ⟨-, -, hde, hse⟩ := lrx_not_event c
  refine ⟨u, simGain s, congrArg Host.Outcome.next ((Taken_access ht).trans (hop.trans hleft)), ?_,
    Nat.le_of_lt_succ (Nat.mod_lt _ (by decide)), ?_, ?_, ?_, ?_⟩
  · exact (((FrameEv.refl _ _ s).reply _ (by decide)).trans (hframe.mono (by decide) (by simp [detectRegs]))).trans
      (hleave.mono (by decide) (List.Subset.refl _))
  · exact (hleave.1 .resp (by decide)).trans (hframe.1 .resp (by decide))
  · rw [hdetect, hframe.rd_eq (by simp) hde]
    rfl
  · rw [hslip, hframe.rd_eq (by simp) hse]
    rfl
  · rw [hrx, simulated_rx (s := s.reply .done) h, Vector.set_set, simulated_acquired (s := s.reply .done) h,
      simulated_ageOver (s := s.reply .done) h, hfactory, hd]
    rfl

/-! ### Quality, noise, rate and clipping (R131-R135, R142) -/

/-- The chain after an LQ block: the state that the block leaves, and whether LQ_LOW may be raised again. -/
def lqChain (s : State) (c : Chan) (lq : Nat) (a : Adapt) : Rx :=
  { s.rx[c] with
    cur := { a with ctle := (s.rx[c]).cur.ctle },
    past := (s.clock.mono, (s.rx[c]).cur) :: (s.rx[c]).past.filter (fun e => decide (s.clock.mono ≤ e.1 + 160)),
    lqLow := ((s.rx[c]).lqLow || (decide (lq < s.fld (F.LRX_LQ_CFG_LOW c.val)) && !(s.rx[c]).lqLow)) &&
      !decide (s.fld (F.LRX_LQ_CFG_LOW c.val) + 10 ≤ lq) }

theorem adapt_setLow_rx {t : State} (hrx : t.rx = s.rx) (hclock : t.clock = s.clock) (b : Adapt) (low : Bool) :
    ((t.adapt c b).setRx c { (t.adapt c b).rx[c] with lqLow := low }).rx = s.rx.set c { s.rx[c] with
      cur := b, past := (s.clock.mono, (s.rx[c]).cur) :: (s.rx[c]).past.filter (fun e => decide (s.clock.mono ≤ e.1 + 160)),
      lqLow := low } := by
  unfold State.adapt
  rw [setRx_self, State.setRx_rx, State.setRx_rx, Vector.set_set, hrx, hclock]

theorem lqDone_rx (h : (s.rx[c]).st = .track) (lq : Nat) (a : Adapt) :
    (s.lqDone c lq a).rx = s.rx.set c (lqChain s c lq a) := by
  unfold State.lqDone
  rw [if_neg (not_not_intro h)]
  dsimp only
  split
  · exact (rxEvent_rx _ _ _).trans (adapt_setLow_rx (State.wr_rx (s.losLow c) _ _) (State.wr_clock (s.losLow c) _ _) _ _)
  · exact adapt_setLow_rx (State.wr_rx (s.losLow c) _ _) (State.wr_clock (s.losLow c) _ _) _ _

theorem lqDone_frame (s : State) (c : Chan) (lq : Nat) (a : Adapt) :
    FrameEv [.rx, .pins] [R.LRX_LQ c.val] s (s.lqDone c lq a) := by
  have hshown : ∀ (b : Adapt) (x : Rx) (w : Word),
      FrameEv [.rx, .pins] [R.LRX_LQ c.val] s ((((s.losLow c).wr (R.LRX_LQ c.val) w).adapt c b).setRx c x) := fun b x w =>
    ((((FrameEv.refl _ _ s).losLow _ (by decide)).wr _ _ List.mem_cons_self).adapt _ _ (by decide)).setRx _ _ (by decide)
  unfold State.lqDone
  exact .ite (FrameEv.refl _ _ s) (.ite ((hshown _ _ _).rxEvent _ _) (hshown _ _ _))

/-- A fall raises LQ_LOW once: whether the chain is low does not depend on whether it was low before the fall. -/
theorem lqLow_step (was low : Bool) : (was || (low && !was)) = (was || low) := by
  cases was <;> simp

theorem lqBlock_shows (lq : BitVec 9) {a : Adapt} (hw : adaptWf a = true) (h : (s.rx[c]).st = .track) :
    ∃ t, exec (.lqBlock c lq a) s = .next t ∧ FrameEv [.rx, .pins] [R.LRX_LQ c.val] s t ∧
      t.rd (R.LRX_LQ c.val) = BitVec.ofNat 32 (min lq.toNat 400 + 2 ^ 16) ∧
      (t.rx[c]).cur = { a with ctle := (s.rx[c]).cur.ctle } ∧ (t.rx[c]).st = .track ∧
      (t.rx[c]).lqLow = (((s.rx[c]).lqLow || decide (lq.toNat < s.fld (F.LRX_LQ_CFG_LOW c.val))) &&
        !decide (s.fld (F.LRX_LQ_CFG_LOW c.val) + 10 ≤ lq.toNat)) ∧
      t.rx = s.rx.set c (t.rx[c]) := by
  have hrx := lqDone_rx h lq.toNat a
  have hchain : (s.lqDone c lq.toNat a).rx[c] = lqChain s c lq.toNat a := by
    rw [hrx]
    exact Vector.getElem_set_self ..
  refine ⟨_, if_neg (not_not_intro hw), lqDone_frame s c lq.toNat a, lqDone_rd h lq.toNat a, ?_⟩
  rw [hchain]
  exact ⟨rfl, h, congrArg (· && _) (lqLow_step _ _), hrx⟩

theorem exec_noiseMeasure (floor : BitVec 10) (he : s.bit (F.LRX_RX_CTL_NF_EN c.val) = true) (h : (s.rx[c]).st = .held)
    (hp : (s.rx[c]).planned = true) (hs : 2 ≤ (s.rx[c]).span) :
    exec (.noiseMeasure c floor) s = .next (s.wr (R.LRX_NOISE c.val) (BitVec.ofNat 32 (floor.toNat + 2 ^ 16))) :=
  congrArg Host.Outcome.next (if_pos ⟨he, h, hp, hs⟩)

/-- The state that shows a measured rate: beyond 200 ppm out of range, and in ACQUIRE with the judgement of the phase detector. -/
def rateShown (s : State) (c : Chan) (w : Nat) (out lock : Bool) : State :=
  (s.setFld (F.LRX_RATE_PPM c.val) w).setRx c
    { s.rx[c] with rateOor := out, lock := if (s.rx[c]).st = .acquire then lock else (s.rx[c]).lock }

theorem rateShown_fld (s : State) (c : Chan) (w : Nat) (out lock : Bool) :
    (rateShown s c w out lock).fld (F.LRX_RATE_PPM c.val) = w % 2 ^ 16 := by
  unfold rateShown
  rw [State.setRx_fld]
  exact State.fld_setFld_self s (F.LRX_RATE_PPM c.val) w (show 0 + 16 ≤ 32 by decide)

/-- RATE_OOR is raised where the rate goes out of range. -/
def rateRaised (s z : State) (c : Chan) (out : Bool) : State := if out ∧ ¬ (s.rx[c]).rateOor then z.rxEvent c E.LRX_RATE_OOR else z

theorem rateRaised_rx (s z : State) (c : Chan) (out : Bool) : (rateRaised s z c out).rx = z.rx := by
  unfold rateRaised
  split
  · exact rxEvent_rx _ _ _
  · rfl

theorem rateRaised_frame (s z : State) (c : Chan) (out : Bool) : FrameEv [] [] z (rateRaised s z c out) :=
  .ite ((FrameEv.refl _ _ z).rxEvent _ _) (FrameEv.refl _ _ z)

theorem rateDone_shown {ppm : Int} (lock : Bool) (hn : s.ncoOn c = true) (hlo : -(2 ^ 15) ≤ ppm) (hhi : ppm < 2 ^ 15) :
    s.rateDone c ppm lock = rateRaised s
      (rateShown s c ((BitVec.ofInt 32 ppm).toNat % 2 ^ 16) (decide (20000 < ppm.natAbs)) lock) c (decide (20000 < ppm.natAbs)) := by
  have hnear : decide (40000 < ppm.natAbs) = false := by
    rw [decide_eq_false_iff_not]
    omega
  unfold State.rateDone
  simp only [hn, not_true_eq_false, if_false, hlo, hhi, and_self, if_true, hnear, Bool.false_eq_true, Bool.not_false, Bool.and_true]
  rfl

theorem rateMeasure_shows {ppm : Int} (lock : Bool) (hn : s.ncoOn c = true) (hlo : -(2 ^ 15) ≤ ppm) (hhi : ppm < 2 ^ 15) :
    ∃ t, exec (.rateMeasure c ppm lock) s = .next t ∧ FrameEv [.rx] [R.LRX_RATE c.val] s t ∧
      BitVec.ofNat 16 (t.fld (F.LRX_RATE_PPM c.val)) = BitVec.ofInt 16 ppm ∧
      t.rx = s.rx.set c { s.rx[c] with
        rateOor := decide (20000 < ppm.natAbs), lock := if (s.rx[c]).st = .acquire then lock else (s.rx[c]).lock } := by
  have hraised := rateRaised_frame s (rateShown s c ((BitVec.ofInt 32 ppm).toNat % 2 ^ 16) (decide (20000 < ppm.natAbs)) lock) c
    (decide (20000 < ppm.natAbs))
  obtain ⟨-, he, -⟩ := lrx_not_event c
  refine ⟨_, congrArg Host.Outcome.next (rateDone_shown lock hn hlo hhi), ?_, ?_, ?_⟩
  · exact (((FrameEv.refl _ _ s).setFld _ _ List.mem_cons_self).setRx _ _ (by decide)).trans
      (hraised.mono (List.nil_subset _) (List.nil_subset _))
  · have hfld := (congrArg (getField · 0 16) (hraised.rd_eq List.not_mem_nil he)).trans (rateShown_fld s c _ _ lock)
    exact (congrArg (BitVec.ofNat 16) hfld).trans (rate_field ppm)
  · rw [rateRaised_rx]
    rfl

/-- Beyond 400 ppm, and so beyond what the field holds, the lock is lost. -/
theorem rateDone_lost {ppm : Int} (lock : Bool) (h : (s.rx[c]).st = .track) (hfar : 40000 < ppm.natAbs) :
    s.rateDone c ppm lock =
      (rateRaised s (rateShown s.freeVal.2 c (s.freeVal.1.toNat % 2 ^ 16) true false) c true).lockLost c := by
  have hnco : s.ncoOn c = true := by
    unfold State.ncoOn
    rw [h]
  have hwide : ¬ (-(2 ^ 15) ≤ ppm ∧ ppm < 2 ^ 15) := by omega
  have hout : decide (20000 < ppm.natAbs) = true := by
    rw [decide_eq_true_iff]
    omega
  unfold State.rateDone rateRaised rateShown
  simp only [hnco, not_true_eq_false, if_false, hwide, decide_eq_true hfar, hout, if_true, Bool.not_true, Bool.and_false]
  rfl

theorem rateMeasure_loses {ppm : Int} (lock : Bool) (h : (s.rx[c]).st = .track) (hfar : 40000 < ppm.natAbs) :
    ∃ t, exec (.rateMeasure c ppm lock) s = .next t ∧ FrameEv [.rx, .fresh] [R.LRX_RATE c.val, R.LRX_CNT_LOL c.val] s t ∧
      (t.rx[c]).st = .acquire ∧ (t.rx[c]).rateOor = true ∧ t.rd (R.LRX_CNT_LOL c.val) = s.rd (R.LRX_CNT_LOL c.val) + 1 := by
  obtain ⟨z, hz⟩ : ∃ z, z = rateRaised s (rateShown s.freeVal.2 c (s.freeVal.1.toNat % 2 ^ 16) true false) c true := ⟨_, rfl⟩
  have hshown : FrameEv [.rx, .fresh] [R.LRX_RATE c.val] s (rateShown s.freeVal.2 c (s.freeVal.1.toNat % 2 ^ 16) true false) :=
    (((FrameEv.refl _ _ s).with_fresh (by decide)).setFld _ _ List.mem_cons_self).setRx _ _ (by decide)
  have hframe : FrameEv [.rx, .fresh] [R.LRX_RATE c.val] s z :=
    hz ▸ hshown.trans ((rateRaised_frame _ _ _ _).mono (List.nil_subset _) (List.nil_subset _))
  have hrx : z.rx = (rateShown s.freeVal.2 c (s.freeVal.1.toNat % 2 ^ 16) true false).rx := hz ▸ rateRaised_rx _ _ _ _
  have hst : (z.rx[c]).st = .track := by
    rw [hrx]
    exact (congrArg Rx.st (setRx_self _ _ _)).trans h
  have hoor : (z.rx[c]).rateOor = true := by
    rw [hrx]
    exact congrArg Rx.rateOor (setRx_self _ _ _)
  obtain ⟨hlost, hlrx, hlol⟩ := lockLost_spec hst
  have hchain : (z.lockLost c).rx[c] = acquired z c true := by
    rw [hlrx]
    exact Vector.getElem_set_self ..
  obtain ⟨-, he, -⟩ := lrx_counters_not_event c
  refine ⟨z.lockLost c, congrArg Host.Outcome.next ((rateDone_lost lock h hfar).trans (by rw [hz])), ?_, ?_, ?_, ?_⟩
  · exact (hframe.mono (List.Subset.refl _) (by simp)).trans (hlost.mono (by decide) (by simp))
  · rw [hchain]
    rfl
  · rw [hchain]
    exact hoor
  · rw [hlol, hframe.rd_eq (by simp) he]

theorem clipsDone_eq {clips : Nat} (hoff : (s.rx[c]).st ≠ .off) (hdoze : (s.rx[c]).st ≠ .doze)
    (hc : 2 ^ s.fld (F.LRX_AGC_CFG_CLIP_THR c.val) < clips) : s.clipsDone c clips =
      if (s.rx[c]).st = .track then
        ((s.bump (R.LRX_CNT_CLIP c.val)).adapt c { (s.rx[c]).cur with agc := (s.rx[c]).cur.agc - 10 }).rxEvent c E.LRX_CLIP
      else s.bump (R.LRX_CNT_CLIP c.val) :=
  if_neg (by rintro (e | e | e); exacts [hoff e, hdoze e, Nat.not_le.mpr hc e])

theorem clipBlock_counts {clips : Nat} (hoff : (s.rx[c]).st ≠ .off) (hdoze : (s.rx[c]).st ≠ .doze)
    (hc : 2 ^ s.fld (F.LRX_AGC_CFG_CLIP_THR c.val) < clips) :
    ∃ t, exec (.clipBlock c clips) s = .next t ∧ FrameEv [.rx] [R.LRX_CNT_CLIP c.val] s t ∧
      t.rd (R.LRX_CNT_CLIP c.val) = s.rd (R.LRX_CNT_CLIP c.val) + 1 ∧
      t.rx = if (s.rx[c]).st = .track then s.rx.set c { s.rx[c] with
        cur := { (s.rx[c]).cur with agc := (s.rx[c]).cur.agc - 10 },
        past := (s.clock.mono, (s.rx[c]).cur) :: (s.rx[c]).past.filter (fun e => decide (s.clock.mono ≤ e.1 + 160)) } else s.rx := by
  have hexec : exec (.clipBlock c clips) s = .next _ := congrArg Host.Outcome.next (clipsDone_eq hoff hdoze hc)
  have hcount : FrameEv [.rx] [R.LRX_CNT_CLIP c.val] s (s.bump (R.LRX_CNT_CLIP c.val)) :=
    (FrameEv.refl _ _ s).bump _ List.mem_cons_self
  obtain ⟨-, -, -, hclip, -⟩ := lrx_counters_not_event c
  by_cases h : (s.rx[c]).st = .track
  · rw [if_pos h] at hexec ⊢
    refine ⟨_, hexec, (hcount.adapt _ _ (by decide)).rxEvent _ _, ?_, rxEvent_rx _ _ _⟩
    rw [rxEvent_rd _ _ _ hclip, adapt_rd]
    exact State.rd_bump_self _ _
  · rw [if_neg h] at hexec ⊢
    exact ⟨_, hexec, hcount, State.rd_bump_self _ _, rfl⟩

/-! ### Calibration (R136-R140) -/

theorem policy_plain (c : Chan) : plainField (F.LRX_CAL_CTL_POLICY c.val) = true := by
  revert c
  decide +kernel

/-- A start outside a pass: it runs in OFF, waits under the waiting policy, and is refused elsewhere. -/
theorem opCal_starts (hb : (s.rx[c]).calBusy = false) (h0 : v.getLsbD 0 = true) (h1 : v.getLsbD 1 = false) : s.opCal c v =
    if (s.rx[c]).st = .off then (s.store (R.LRX_CAL_CTL c.val) v).setRx c { s.rx[c] with cal := .running, calSteps := 0 }
    else if v.getLsbD 2 then
      ((s.store (R.LRX_CAL_CTL c.val) v).setRx c { s.rx[c] with cal := .refused }).rxEvent c E.LRX_CAL_REFUSED
    else (s.store (R.LRX_CAL_CTL c.val) v).setRx c { s.rx[c] with cal := .waiting, calSteps := 0 } := by
  have hpolicy : (s.store (R.LRX_CAL_CTL c.val) v).bit (F.LRX_CAL_CTL_POLICY c.val) = v.getLsbD 2 :=
    State.bit_store_plain s (F.LRX_CAL_CTL_POLICY c.val) v (policy_plain c) rfl
  unfold State.opCal
  dsimp only
  rw [if_neg (fun hc => ne_true_of_eq_false h1 hc.1), hpolicy]
  exact if_neg (fun hc => hc.elim (fun hn => hn h0) (ne_true_of_eq_false hb))

theorem calStart_judged (ht : Taken s r (R.LRX_CAL_CTL c.val)) (hb : (s.rx[c]).calBusy = false) (h1 : v.getLsbD 1 = false) :
    ∃ t, exec (.calStart r c v) s = .next t ∧ FrameEv [.rx, .resp] [R.LRX_CAL_CTL c.val] s t ∧ t.resp = .done ∧
      (t.rx[c]).cal = (if (s.rx[c]).st = .off then .running else if v.getLsbD 2 then .refused else .waiting) ∧
      ((t.rx[c]).cal ≠ .refused → (t.rx[c]).calSteps = 0) := by
  have h2 : (v ||| 1).getLsbD 2 = v.getLsbD 2 := by rw [BitVec.getLsbD_or]; simp
  have hop := opCal_starts (s := s.reply .done) hb (PageControl.getLsbD_or_true (b := 0) v (x := 1) (by decide))
    (PageControl.getLsbD_or_false h1 (by decide))
  rw [h2] at hop
  have hexec : exec (.calStart r c v) s = .next _ := congrArg Host.Outcome.next ((Taken_access ht).trans hop)
  have hset : ∀ x : Rx, FrameEv [.rx, .resp] [R.LRX_CAL_CTL c.val] s
      (((s.reply .done).store (R.LRX_CAL_CTL c.val) (v ||| 1)).setRx c x) := fun x =>
    (((FrameEv.refl _ _ s).reply _ (by decide)).store _ _ List.mem_cons_self).setRx _ _ (by decide)
  by_cases hoff : (s.rx[c]).st = .off
  · rw [if_pos hoff]
    exact ⟨_, hexec.trans (congrArg Host.Outcome.next (if_pos hoff)), hset _, rfl, congrArg Rx.cal (setRx_self _ _ _),
      fun _ => congrArg Rx.calSteps (setRx_self _ _ _)⟩
  · rw [if_neg hoff]
    have hexec' := hexec.trans (congrArg Host.Outcome.next (if_neg hoff))
    cases hp : v.getLsbD 2 with
    | true =>
      have hcal : ((((s.reply .done).store (R.LRX_CAL_CTL c.val) (v ||| 1)).setRx c
          { s.rx[c] with cal := .refused }).rxEvent c E.LRX_CAL_REFUSED).rx[c] = { s.rx[c] with cal := .refused } := by
        rw [rxEvent_rx]
        exact setRx_self _ _ _
      exact ⟨_, hexec'.trans (congrArg Host.Outcome.next (if_pos hp)), (hset _).rxEvent _ _, State.fire_resp _ _ _,
        congrArg Rx.cal hcal, fun hn => absurd (congrArg Rx.cal hcal) hn⟩
    | false =>
      exact ⟨_, hexec'.trans (congrArg Host.Outcome.next (if_neg (ne_true_of_eq_false hp))), hset _, rfl,
        congrArg Rx.cal (setRx_self _ _ _), fun _ => congrArg Rx.calSteps (setRx_self _ _ _)⟩

theorem calAbort_aborts (ht : Taken s r (R.LRX_CAL_CTL c.val)) (hb : (s.rx[c]).calBusy = true) :
    ∃ t, exec (.calAbort r c v) s = .next t ∧ Frame [.rx, .resp] [R.LRX_CAL_CTL c.val] s t ∧ t.resp = .done ∧
      t.rx = s.rx.set c { s.rx[c] with cal := .aborted } := by
  have hop : (s.reply .done).opCal c (v ||| 2) =
      ((s.reply .done).store (R.LRX_CAL_CTL c.val) (v ||| 2)).setRx c { s.rx[c] with cal := .aborted } := by
    have hbusy : ¬ (v ||| 2).getLsbD 0 = true ∨ ((s.reply .done).rx[c]).calBusy = true := .inr hb
    unfold State.opCal
    simp only [if_pos hbusy]
    exact if_pos ⟨PageControl.getLsbD_or_true v (by decide), hb⟩
  exact ⟨_, congrArg Host.Outcome.next ((Taken_access ht).trans hop),
    (((Frame.refl _ _ s).reply _ (by decide)).store _ _ List.mem_cons_self).setRx _ _ (by decide), rfl, rfl⟩

/-- Trims that come in before a chain is replaced do not outlast it. -/
theorem trimsIn_setRx (s : State) (c : Chan) (x : Rx) : (s.trimsIn c).setRx c x = s.setRx c x := by
  unfold State.trimsIn
  split
  · unfold State.setRx
    rw [Vector.set_set]
  · rfl

/-- Trims that come in are no part of what a calibration step is judged by. -/
theorem trimsIn_judged (s : State) (c : Chan) (k : Nat) :
    ((s.trimsIn c).rx[c]).calBusy = (s.rx[c]).calBusy ∧ ((s.trimsIn c).rx[c]).calGroup k = (s.rx[c]).calGroup k ∧
      ((s.trimsIn c).rx[c]).st = (s.rx[c]).st ∧ ((s.trimsIn c).rx[c]).calGrps = (s.rx[c]).calGrps ∧
      ((s.trimsIn c).rx[c]).calSteps = (s.rx[c]).calSteps := by
  obtain ⟨ts, w, htrims⟩ := trimsIn_rx s c
  rw [htrims]
  exact ⟨rfl, rfl, rfl, rfl, rfl⟩

/-- The chain after a group that a calibration step has taken, counted or not. -/
def calTaken (s : State) (c : Chan) (k : Nat) : Rx :=
  { (s.trimsIn c).rx[c] with
    cal := if (s.rx[c]).st = .off then .running else .waiting,
    calGrps := if (s.rx[c]).st = .off then (s.rx[c]).calGrps else k :: (s.rx[c]).calGrps }

/-- The chain after a step that is counted, its trims waiting. -/
def calCounted (s : State) (c : Chan) (k : Nat) (trim : Word) : Rx :=
  { calTaken s c k with calSteps := (s.rx[c]).calSteps + 1, trimWait := some ((s.rx[c]).calSteps, trim) }

theorem calStepEnd_eq {k : Nat} {x : Bool} {trim : Word} (hb : (s.rx[c]).calBusy = true)
    (hg : (s.rx[c]).st = .off ∨ (s.rx[c]).calGroup k = true) : s.calStepEnd c k x trim =
      if x then s.setRx c (calTaken s c k)
      else if (s.rx[c]).calSteps + 1 < 96 then s.setRx c (calCounted s c k trim)
      else (s.setRx c { calCounted s c k trim with cal := .done }).rxEvent c E.LRX_CAL_DONE := by
  obtain ⟨hbusy, hgroup, hst, hgrps, hsteps⟩ := trimsIn_judged s c k
  unfold State.calStepEnd calCounted calTaken
  dsimp only
  rw [hbusy, hgroup, hst, hgrps, hsteps]
  simp only [trimsIn_setRx]
  exact if_neg (by rintro (e | e); exacts [e hb, e hg])

theorem calStep_counts {k : Nat} {trim : Word} (hb : (s.rx[c]).calBusy = true)
    (hg : (s.rx[c]).st = .off ∨ (s.rx[c]).calGroup k = true) :
    ∃ t, exec (.calStep c k false trim) s = .next t ∧ FrameEv [.rx] [] s t ∧
      t.rx = s.rx.set c { (s.trimsIn c).rx[c] with
        cal := if 96 ≤ (s.rx[c]).calSteps + 1 then .done else if (s.rx[c]).st = .off then .running else .waiting,
        calSteps := (s.rx[c]).calSteps + 1,
        calGrps := if (s.rx[c]).st = .off then (s.rx[c]).calGrps else k :: (s.rx[c]).calGrps,
        trimWait := some ((s.rx[c]).calSteps, trim) } := by
  have hexec : exec (.calStep c k false trim) s = .next _ := congrArg Host.Outcome.next (calStepEnd_eq hb hg)
  have hset : ∀ x : Rx, FrameEv [.rx] [] s (s.setRx c x) := fun x => (FrameEv.refl _ _ s).setRx _ _ (by decide)
  by_cases hlast : 96 ≤ (s.rx[c]).calSteps + 1
  · rw [if_pos hlast]
    exact ⟨_, hexec.trans (congrArg Host.Outcome.next (if_neg (Nat.not_lt.mpr hlast))), (hset _).rxEvent _ _, rxEvent_rx _ _ _⟩
  · rw [if_neg hlast]
    exact ⟨_, hexec.trans (congrArg Host.Outcome.next (if_pos (Nat.not_le.mp hlast))), hset _, rfl⟩

theorem calStepEnd_none {k : Nat} {x : Bool} {trim : Word}
    (h : (s.rx[c]).calBusy = false ∨ (s.rx[c]).st ≠ .off ∧ (s.rx[c]).calGroup k = false) : s.calStepEnd c k x trim = s := by
  obtain ⟨hbusy, hgroup, hst, -, -⟩ := trimsIn_judged s c k
  unfold State.calStepEnd
  dsimp only
  rw [hbusy, hgroup, hst]
  refine if_pos (h.imp ne_true_of_eq_false ?_)
  rintro ⟨hoff, hnone⟩ (e | e)
  exacts [hoff e, ne_true_of_eq_false hnone e]

/-- Settles O22, each command by its own lemma. -/
theorem receiveMeasures : Obligations.ReceiveMeasures := by
  unfold Obligations.ReceiveMeasures
  exact ⟨fun _ _ _ _ ht h h2 => saveDef_saves ht h h2,
    fun _ _ _ _ ht h => loadFactory_loads ht h,
    fun _ _ _ _ _ ht h hd => simDetect_detects ht h hd,
    fun _ lq _ _ hw h => lqBlock_shows lq hw h,
    fun _ floor _ he h hp hs => exec_noiseMeasure floor he h hp hs,
    fun _ _ lock _ hn hlo hhi => rateMeasure_shows lock hn hlo hhi,
    fun _ _ lock _ h hfar => rateMeasure_loses lock h hfar,
    fun _ _ _ hoff hdoze hc => clipBlock_counts hoff hdoze hc,
    fun _ _ _ _ ht hb h1 => calStart_judged ht hb h1,
    fun _ _ _ _ ht hb => calAbort_aborts ht hb,
    fun _ _ _ _ hb hg => calStep_counts hb hg,
    fun _ _ _ _ hb hg => congrArg Host.Outcome.next (calStepEnd_eq hb hg),
    fun _ _ _ _ _ h => congrArg Host.Outcome.next (calStepEnd_none h)⟩

end Sys2Proof.Proofs.ReceiverMeasures
end

section
/-! SUPPORT. What counting the codewords of a group and checking the channel of its header leave of the deframer and of the registers. -/

namespace Sys2Proof

open Sys2Proof.Machine Sys2Proof.Proofs.DeframerEffects Sys2Proof.Proofs.ReceiverEffects

variable {ps : List Part} {ks : List Nat} {s t : State} {c : Chan}

theorem FrameEv.bump64 (h : FrameEv ps ks s t) (lo hi n : Nat) (hlo : lo ∈ ks) (hhi : hi ∈ ks) : FrameEv ps ks s (t.bump64 lo hi n) :=
  (h.wr _ _ hlo).wr _ _ hhi

theorem FrameEv.dsfEvent (h : FrameEv ps ks s t) (c : Chan) (b : Nat) (hk : R.DSF_CH_STAT c.val ∈ ks) :
    FrameEv ps ks s (t.dsfEvent c b) := (h.setFld _ _ hk).andFire _ _

/-- A field of a register that a step neither lists nor raises an event in reads as before. -/
theorem FrameEv.fld_eq (h : FrameEv ps ks s t) {f : Fld} (hk : f.key ∉ ks) (he : eventReg f.key = false) : t.fld f = s.fld f :=
  congrArg (getField · f.lo f.w) (h.rd_eq hk he)

namespace Machine

/-- The registers of a channel that its codewords and the check of its header write. -/
def cwRegs (c : Chan) : List Nat :=
  [R.DSF_CH_STAT c.val, R.DSF_CNT_CW_LO c.val, R.DSF_CNT_CW_HI c.val, R.DSF_CNT_CW_CORR c.val, R.DSF_CNT_CW_UNCORR c.val,
   R.DSF_CNT_SYM_CORR_LO c.val, R.DSF_CNT_SYM_CORR_HI c.val, R.DSF_CNT_BIT_CORR_LO c.val, R.DSF_CNT_BIT_CORR_HI c.val]

theorem cwRegs_page (c : Chan) : ∀ k ∈ cwRegs c, pageOf k ∈ [P.DSF] := by
  revert c
  decide

/-- Neither the codewords nor an event write ALIGN_CTL or the count of errored headers. -/
theorem cwRegs_apart (c : Chan) : R.DSF_ALIGN_CTL ∉ cwRegs c ∧ eventReg R.DSF_ALIGN_CTL = false ∧
    R.DSF_CNT_HDR_ERR c.val ∉ cwRegs c ∧ eventReg (R.DSF_CNT_HDR_ERR c.val) = false := by
  revert c
  decide

theorem hdrErr_page (c : Chan) : pageOf (R.DSF_CNT_HDR_ERR c.val) ∈ [P.DSF] := by
  revert c
  decide

/-- Two records of a deframer that differ in the counts of R184 at most. -/
def Dsf.Recounts (x y : Dsf) : Prop := ∃ bits cws all, y = { x with berBits := bits, berCws := cws, berAll := all }

theorem Dsf.Recounts.refl (x : Dsf) : x.Recounts x := ⟨_, _, _, rfl⟩

theorem Dsf.Recounts.trans {x y z : Dsf} (h : x.Recounts y) (h' : y.Recounts z) : x.Recounts z := by
  obtain ⟨_, _, _, rfl⟩ := h
  obtain ⟨_, _, _, rfl⟩ := h'
  exact ⟨_, _, _, rfl⟩

/-- A step that touches no deframer keeps the counts besides. -/
theorem Dsf.Recounts.of_dsf {x : Dsf} (hx : x.Recounts (s.dsf[c])) (h : t.dsf = s.dsf) : x.Recounts (t.dsf[c]) := by
  rwa [h]

/-- A codeword has been decoded, and is counted as that. -/
def seenCw (s : State) (c : Chan) : State :=
  (s.setDsf c { s.dsf[c] with berAll := (s.dsf[c]).berAll + 1 }).bump64 (R.DSF_CNT_CW_LO c.val) (R.DSF_CNT_CW_HI c.val) 1

/-- A codeword that could be corrected has its symbols and bits counted. -/
def correctedCw (s : State) (c : Chan) (w : CwResult) : State :=
  ((if w.syms = 0 then seenCw s c else (seenCw s c).bump (R.DSF_CNT_CW_CORR c.val)).bump64
    (R.DSF_CNT_SYM_CORR_LO c.val) (R.DSF_CNT_SYM_CORR_HI c.val) w.syms).bump64
    (R.DSF_CNT_BIT_CORR_LO c.val) (R.DSF_CNT_BIT_CORR_HI c.val) w.bits

theorem countCw_eq (s : State) (c : Chan) (w : CwResult) : s.countCw c w =
    if w.uncorr then ((seenCw s c).bump (R.DSF_CNT_CW_UNCORR c.val)).dsfEvent c E.DSF_UNCORR
    else (correctedCw s c w).setDsf c { (correctedCw s c w).dsf[c] with
      berBits := ((correctedCw s c w).dsf[c]).berBits + w.bits, berCws := ((correctedCw s c w).dsf[c]).berCws + 1 } := rfl

theorem seenCw_frame (s : State) (c : Chan) : FrameEv [.dsf] (cwRegs c) s (seenCw s c) :=
  ((FrameEv.refl _ _ s).setDsf _ _ (by decide)).bump64 _ _ _ (by simp [cwRegs]) (by simp [cwRegs])

theorem correctedCw_frame (s : State) (c : Chan) (w : CwResult) : FrameEv [.dsf] (cwRegs c) s (correctedCw s c w) :=
  ((FrameEv.ite (seenCw_frame s c) ((seenCw_frame s c).bump _ (by simp [cwRegs]))).bump64 _ _ _
    (by simp [cwRegs]) (by simp [cwRegs])).bump64 _ _ _ (by simp [cwRegs]) (by simp [cwRegs])

theorem countCw_frame (s : State) (c : Chan) (w : CwResult) : FrameEv [.dsf] (cwRegs c) s (s.countCw c w) := by
  rw [countCw_eq]
  exact .ite (((seenCw_frame s c).bump _ (by simp [cwRegs])).dsfEvent _ _ (by simp [cwRegs]))
    ((correctedCw_frame s c w).setDsf _ _ (by decide))

theorem seenCw_dsf (s : State) (c : Chan) : (s.dsf[c]).Recounts ((seenCw s c).dsf[c]) := by
  unfold seenCw
  rw [State.bump64_dsf, setDsf_self]
  exact ⟨_, _, _, rfl⟩

theorem correctedCw_dsf (s : State) (c : Chan) (w : CwResult) : (correctedCw s c w).dsf = (seenCw s c).dsf := by
  unfold correctedCw
  rw [State.bump64_dsf, State.bump64_dsf]
  split
  · rfl
  · exact State.bump_dsf _ _

theorem countCw_dsf (s : State) (c : Chan) (w : CwResult) : (s.dsf[c]).Recounts ((s.countCw c w).dsf[c]) := by
  rw [countCw_eq]
  split
  · exact (seenCw_dsf s c).of_dsf ((dsfEvent_dsf _ _ _).trans (State.bump_dsf _ _))
  · rw [setDsf_self, correctedCw_dsf]
    exact (seenCw_dsf s c).trans ⟨_, _, _, rfl⟩

theorem countCws_frame (s : State) (c : Chan) (ws : List CwResult) : FrameEv [.dsf] (cwRegs c) s (s.countCws c ws) :=
  FrameEv.foldl (fun t w => countCw_frame t c w) ws s

theorem countCws_dsf (s : State) (c : Chan) (ws : List CwResult) : (s.dsf[c]).Recounts ((s.countCws c ws).dsf[c]) := by
  unfold State.countCws
  induction ws generalizing s with
  | nil => exact .refl _
  | cons w ws ih => exact (countCw_dsf s c w).trans (ih _)

theorem chanCheck_frame (s : State) (c : Chan) (ws : List CwResult) (h : FrameHdr) :
    FrameEv [] (cwRegs c) s (s.chanCheck c ws h) :=
  .ite ((FrameEv.refl _ _ s).dsfEvent _ _ (by simp [cwRegs])) (FrameEv.refl _ _ s)

/-- A group with a header has been read: the trims of a calibration step are in, its codewords are counted, its CHAN is checked. -/
def State.checked (s : State) (c : Chan) (ws : List CwResult) (h : FrameHdr) : State :=
  ((s.trimsIn c).countCws c ws).chanCheck c ws h

/-- Codewords are counted after the trims have come in. -/
theorem counted_frame (s : State) (c : Chan) (ws : List CwResult) :
    FrameEv [.dsf, .rx] (cwRegs c) s ((s.trimsIn c).countCws c ws) :=
  ((FrameEv.refl _ _ s).trimsIn c (by decide)).trans ((countCws_frame _ c ws).mono (by decide) (List.Subset.refl _))

theorem counted_dsf (s : State) (c : Chan) (ws : List CwResult) :
    (s.dsf[c]).Recounts (((s.trimsIn c).countCws c ws).dsf[c]) :=
  ((Dsf.Recounts.refl _).of_dsf (trimsIn_dsf s c)).trans (countCws_dsf _ c ws)

theorem checked_frame (s : State) (c : Chan) (ws : List CwResult) (h : FrameHdr) :
    FrameEv [.dsf, .rx] (cwRegs c) s (s.checked c ws h) :=
  (counted_frame s c ws).trans ((chanCheck_frame _ c ws h).mono (List.nil_subset _) (List.Subset.refl _))

theorem checked_dsf (s : State) (c : Chan) (ws : List CwResult) (h : FrameHdr) : (s.dsf[c]).Recounts ((s.checked c ws h).dsf[c]) :=
  (counted_dsf s c ws).of_dsf (State.chanCheck_keeps c ws h (List.Subset.refl _) (SameBut.refl _ _) .dsf (by decide))

theorem checked_page (s : State) (c : Chan) (ws : List CwResult) (h : FrameHdr) :
    PageEv [.dsf, .rx] [P.DSF] s (s.checked c ws h) := (checked_frame s c ws h).page (cwRegs_page c)

end Machine
end Sys2Proof
end

section
/-! PROOF. The deframer's states (O23): one equation for each outcome of a header in the search and on the grid, and the rows of R160 and
R162 for a coast. -/

namespace Sys2Proof.Proofs.DeframerStates

open Sys2Proof Sys2Proof.Machine Sys2Proof.Proofs.DeframerEffects Sys2Proof.Proofs.ReceiverEffects

variable {s : State} {c : Chan} {r : GroupRaw} {g : GroupIn} {h : FrameHdr} {k : Cand}

/-! ### The search takes up candidates (R157) -/

theorem syncCandidate_adds {pos : Nat} {w : BitVec 64} (hpos : pos < 3200000)
    (hst : (s.dsf[c]).st = .hunt ∨ (s.dsf[c]).st = .confirm) (hrx : (s.rx[c]).st = .track)
    (hw : syncDiff w ≤ s.fld F.DSF_ALIGN_CTL_SYNC_TOL) (hn : (s.dsf[c]).cands.length < 4)
    (hnew : ∀ k ∈ (s.dsf[c]).cands, k.pos ≠ pos) :
    exec (.syncCandidate c pos w) s = .next (s.setDsf c { s.dsf[c] with cands := (s.dsf[c]).cands ++ [⟨pos, 0, 0⟩] }) := by
  have hfree : ¬ (s.dsf[c]).cands.any (fun k => decide (k.pos = pos)) = true := by
    simpa only [List.any_eq_true, decide_eq_true_eq, not_exists, not_and] using hnew
  exact (if_neg (Nat.not_le.mpr hpos)).trans (congrArg Host.Outcome.next (if_pos ⟨hst, hrx, hw, hn, hfree⟩))

theorem syncCandidate_passes {pos : Nat} {w : BitVec 64} (hpos : pos < 3200000)
    (hno : (s.dsf[c]).st ≠ .hunt ∧ (s.dsf[c]).st ≠ .confirm ∨ (s.rx[c]).st ≠ .track ∨ s.fld F.DSF_ALIGN_CTL_SYNC_TOL < syncDiff w ∨
      4 ≤ (s.dsf[c]).cands.length ∨ ∃ k ∈ (s.dsf[c]).cands, k.pos = pos) : exec (.syncCandidate c pos w) s = .next s := by
  refine (if_neg (Nat.not_le.mpr hpos)).trans (congrArg Host.Outcome.next (if_neg ?_))
  rintro ⟨hst, hrx, hw, hn, hfree⟩
  obtain ⟨hhunt, hconfirm⟩ | hrx' | hw' | hn' | ⟨k, hk, hkpos⟩ := hno
  · exact hst.elim hhunt hconfirm
  · exact hrx' hrx
  · exact Nat.not_le.mpr hw' hw
  · exact Nat.not_le.mpr hn hn'
  · exact hfree (List.any_eq_true.2 ⟨k, hk, decide_eq_true hkpos⟩)

/-! ### Which groups are decoded (R145, R160, R180, R182) -/

/-- A place on the grid is the free-run place, in VERIFY one near it, and during the search any. -/
theorem onGrid_iff (hoff : (s.dsf[c]).st ≠ .off) : s.onGrid c g = true ↔
    ((s.dsf[c]).st = .aligned ∨ (s.dsf[c]).st = .coast → lineOffset ((s.dsf[c]).grid + g.grp * groupSyms) g.at_ = 0) ∧
    ((s.dsf[c]).st = .verify → (lineOffset ((s.dsf[c]).grid + g.grp * groupSyms) g.at_).natAbs ≤
      if g.grp = 0 then s.fld F.DSF_ALIGN_CTL_VERIFY_WIN else 0) := by
  unfold State.onGrid
  cases hst : (s.dsf[c]).st with
  | off => exact absurd hst hoff
  | hunt | confirm | aligned | coast | verify =>
    simp only [hst]
    simp

theorem takesGroup_iff : s.takesGroup c g = true ↔ ((s.dsf[c]).st ≠ .off ∧ (s.rx[c]).st ≠ .doze ∧
    s.markOf c ((s.dsf[c]).place (decide (g.grp = 0)) g.grp) ≠ .dark ∧
    ((s.dsf[c]).st = .aligned ∨ (s.dsf[c]).st = .coast → lineOffset ((s.dsf[c]).grid + g.grp * groupSyms) g.at_ = 0) ∧
    ((s.dsf[c]).st = .verify → (lineOffset ((s.dsf[c]).grid + g.grp * groupSyms) g.at_).natAbs ≤
      if g.grp = 0 then s.fld F.DSF_ALIGN_CTL_VERIFY_WIN else 0)) := by
  unfold State.takesGroup
  simp only [Bool.and_eq_true, decide_eq_true_eq, and_assoc]
  exact and_congr_right fun hoff => and_congr_right fun _ => and_congr_right fun _ => onGrid_iff hoff

/-- GROUP_DECODE decodes the group that its symbols give, the trims of a calibration step being in. -/
theorem exec_groupDecode (hw : groupWf r = true) (hg : (s.trimsIn c).readLine c r = g) :
    exec (.groupDecode c r) s = .next ((s.trimsIn c).groupDecode c g) :=
  (if_neg (not_not_intro hw)).trans (congrArg (fun x => Host.Outcome.next ((s.trimsIn c).groupDecode c x)) hg)

theorem exec_untaken (hw : groupWf r = true) (hg : (s.trimsIn c).readLine c r = g) (ht : s.takesGroup c g = false) :
    exec (.groupDecode c r) s = .next (s.trimsIn c) :=
  (exec_groupDecode hw hg).trans (congrArg Host.Outcome.next (if_pos ((trimsIn_takesGroup s c g).trans ht)))

/-- A group that is taken is decoded as the state of the deframer and its header say. -/
theorem exec_taken {z : State} (hw : groupWf r = true) (hg : (s.trimsIn c).readLine c r = g) (ht : s.takesGroup c g = true)
    (hz : (s.trimsIn c).takesGroup c g = true → (s.trimsIn c).groupDecode c g = z.keepStream c g) :
    exec (.groupDecode c r) s = .next (z.keepStream c g) :=
  (exec_groupDecode hw hg).trans (congrArg Host.Outcome.next (hz ((trimsIn_takesGroup s c g).trans ht)))

theorem exec_search (hw : groupWf r = true) (hg : (s.trimsIn c).readLine c r = g) (hh : g.hdr = some h)
    (ht : s.takesGroup c g = true) (hst : (s.dsf[c]).st = .hunt ∨ (s.dsf[c]).st = .confirm) :
    exec (.groupDecode c r) s = .next (((s.trimsIn c).candHeader c g.cws h).keepStream c g) := by
  refine exec_taken hw hg ht fun ht' => ?_
  unfold State.groupDecode
  rw [if_neg (ne_false_of_eq_true ht'), trimsIn_dsf, hh]
  obtain hst | hst := hst <;> rw [hst]

theorem exec_grid (hw : groupWf r = true) (hg : (s.trimsIn c).readLine c r = g) (hh : g.hdr = some h)
    (ht : s.takesGroup c g = true) (hst : (s.dsf[c]).st = .aligned) :
    exec (.groupDecode c r) s = .next (((s.checked c g.cws h).alignedHeader c g.cws h).keepStream c g) := by
  refine exec_taken hw hg ht fun ht' => ?_
  unfold State.groupDecode
  rw [if_neg (ne_false_of_eq_true ht'), trimsIn_dsf, hst, hh]
  rfl

theorem exec_later (hw : groupWf r = true) (hg : (s.trimsIn c).readLine c r = g) (hh : g.hdr = none)
    (ht : s.takesGroup c g = true) (hst : (s.dsf[c]).st = .aligned) :
    exec (.groupDecode c r) s = .next ((((s.trimsIn c).countCws c g.cws).laterGroup c g).keepStream c g) := by
  refine exec_taken hw hg ht fun ht' => ?_
  unfold State.groupDecode
  rw [if_neg (ne_false_of_eq_true ht'), trimsIn_dsf, hst, hh]

/-! ### The header of a candidate (R158-R160) -/

/-- The deframer that a candidate aligns at the place of its last header. -/
def alignedAt (x : Dsf) (pos : Nat) : Dsf :=
  { x with st := .aligned, planned := false, cands := [], run := 0, grid := pos, grp := 0, grpOk := true, grpDead := true, past := [],
           deliver := false, ctrl := false, mfAl := false, mfIdx := none }

/-- The deframer that has confirmed a candidate at `pos` `n` times, the last with FRAME_CNT `f`. -/
def confirmedAt (x : Dsf) (pos n f : Nat) : Dsf :=
  { x with st := .confirm, cands := x.cands.map (fun e => if e.pos = pos then ⟨e.pos, n, f⟩ else e) }

theorem candHeader_found (hk : (s.dsf[c]).cands.find? (fun k => decide (k.pos = h.pos)) = some k) (ws : List CwResult) :
    (s.trimsIn c).candHeader c ws h =
      if ¬ headerValid c ws h then (s.checked c ws h).dropCandidate c h.pos
      else if 0 < k.conf ∧ h.frameCnt.toNat ≠ (k.fc + 1) % 2 ^ 48 then ((s.checked c ws h).seenHeader c h).dropCandidate c h.pos
      else if s.fld F.DSF_ALIGN_CTL_N_CONFIRM ≤ k.conf + 1 then
        ((((s.checked c ws h).dsfMove c (alignedAt ((s.checked c ws h).dsf[c]) h.pos)).countDropped c
          ((s.dsf[c]).cands.length - 1)).dsfEvent c E.DSF_REALIGNED).goodHeader c h
      else ((s.checked c ws h).dsfMove c
        (confirmedAt ((s.checked c ws h).dsf[c]) h.pos (k.conf + 1) h.frameCnt.toNat)).seenHeader c h := by
  unfold State.candHeader
  dsimp only
  rw [trimsIn_dsf, hk, State.fld_of_regs (trimsIn_regs s c)]
  rfl

/-- The valid header in sequence that confirms a candidate for the last time aligns. -/
theorem exec_aligns (hw : groupWf r = true) (hg : (s.trimsIn c).readLine c r = g) (hh : g.hdr = some h)
    (ht : s.takesGroup c g = true) (hst : (s.dsf[c]).st = .hunt ∨ (s.dsf[c]).st = .confirm)
    (hk : (s.dsf[c]).cands.find? (fun k => decide (k.pos = h.pos)) = some k) (hv : headerValid c g.cws h = true)
    (hseq : 0 < k.conf → h.frameCnt.toNat = (k.fc + 1) % 2 ^ 48) (hn : s.fld F.DSF_ALIGN_CTL_N_CONFIRM ≤ k.conf + 1) :
    exec (.groupDecode c r) s = .next ((((((s.checked c g.cws h).dsfMove c
      (alignedAt ((s.checked c g.cws h).dsf[c]) h.pos)).countDropped c ((s.dsf[c]).cands.length - 1)).dsfEvent c
      E.DSF_REALIGNED).goodHeader c h).keepStream c g) := by
  rw [exec_search hw hg hh ht hst, candHeader_found hk, if_neg (not_not_intro hv), if_neg (fun e => e.2 (hseq e.1)), if_pos hn]

/-- An earlier one confirms it once more. -/
theorem exec_confirms (hw : groupWf r = true) (hg : (s.trimsIn c).readLine c r = g) (hh : g.hdr = some h)
    (ht : s.takesGroup c g = true) (hst : (s.dsf[c]).st = .hunt ∨ (s.dsf[c]).st = .confirm)
    (hk : (s.dsf[c]).cands.find? (fun k => decide (k.pos = h.pos)) = some k) (hv : headerValid c g.cws h = true)
    (hseq : 0 < k.conf → h.frameCnt.toNat = (k.fc + 1) % 2 ^ 48) (hn : k.conf + 1 < s.fld F.DSF_ALIGN_CTL_N_CONFIRM) :
    exec (.groupDecode c r) s = .next ((((s.checked c g.cws h).dsfMove c
      (confirmedAt ((s.checked c g.cws h).dsf[c]) h.pos (k.conf + 1) h.frameCnt.toNat)).seenHeader c h).keepStream c g) := by
  rw [exec_search hw hg hh ht hst, candHeader_found hk, if_neg (not_not_intro hv), if_neg (fun e => e.2 (hseq e.1)),
    if_neg (Nat.not_le.mpr hn)]

theorem confirmedAt_cands (s : State) (c : Chan) (ws : List CwResult) (h : FrameHdr) (pos n f : Nat) :
    (confirmedAt ((s.checked c ws h).dsf[c]) pos n f).cands =
      (s.dsf[c]).cands.map (fun e => if e.pos = pos then ⟨e.pos, n, f⟩ else e) := by
  obtain ⟨_, _, _, hx⟩ := checked_dsf s c ws h
  rw [hx]
  rfl

/-- A header that is not valid, or valid and out of sequence, drops its candidate. -/
theorem exec_drops (hw : groupWf r = true) (hg : (s.trimsIn c).readLine c r = g) (hh : g.hdr = some h)
    (ht : s.takesGroup c g = true) (hst : (s.dsf[c]).st = .hunt ∨ (s.dsf[c]).st = .confirm)
    (hk : (s.dsf[c]).cands.find? (fun k => decide (k.pos = h.pos)) = some k) :
    (headerValid c g.cws h = false →
      exec (.groupDecode c r) s = .next (((s.checked c g.cws h).dropCandidate c h.pos).keepStream c g)) ∧
    (headerValid c g.cws h = true → 0 < k.conf → h.frameCnt.toNat ≠ (k.fc + 1) % 2 ^ 48 →
      exec (.groupDecode c r) s =
        .next ((((s.checked c g.cws h).seenHeader c h).dropCandidate c h.pos).keepStream c g)) := by
  rw [exec_search hw hg hh ht hst, candHeader_found hk]
  constructor
  · intro hv
    rw [if_pos (ne_true_of_eq_false hv)]
  · intro hv hc hf
    rw [if_neg (not_not_intro hv), if_pos ⟨hc, hf⟩]

/-! ### The header of a frame on the grid (R160, R164) -/

/-- The deframer after an errored header that does not lose alignment. -/
def erred (x : Dsf) (ok : Bool) : Dsf :=
  { x with run := min (x.run + 1) 15, grpOk := ok, grpDead := decide (x.st = .verify), deliver := decide (x.st = .aligned),
           ctrl := false, mfIdx := if x.mfAl then x.mfIdx else none }

theorem badHeader_goesOn {x : Dsf} (hrun : x.run + 1 < s.fld F.DSF_ALIGN_CTL_M_LOSE) (ok : Bool) : s.badHeader c x ok =
    ((s.bump (R.DSF_CNT_HDR_ERR c.val)).setDsf c (erred x ok)).groupLost ok (decide (x.st = .aligned)) :=
  if_neg (Nat.not_le.mpr hrun)

theorem badHeader_loses {x : Dsf} (hrun : s.fld F.DSF_ALIGN_CTL_M_LOSE ≤ x.run + 1) (ok : Bool) :
    s.badHeader c x ok = ((s.bump (R.DSF_CNT_HDR_ERR c.val)).setDsf c x).lossOfFrame c := if_pos hrun

/-- The deframer on the grid, its header read, as the grid passes to the new frame. -/
def passed (s : State) (c : Chan) (ws : List CwResult) (h : FrameHdr) : Dsf := ((s.checked c ws h).dsf[c]).advance

/-- Reading a header leaves the run and the state to be judged. -/
theorem passed_spec (s : State) (c : Chan) (ws : List CwResult) (h : FrameHdr) :
    (passed s c ws h).run = (s.dsf[c]).run ∧ (passed s c ws h).st = (s.dsf[c]).st := by
  obtain ⟨_, _, _, hx⟩ := checked_dsf s c ws h
  unfold passed
  rw [hx]
  exact ⟨rfl, rfl⟩

/-- An errored header is counted once. -/
theorem erred_counted (s : State) (c : Chan) (ws : List CwResult) (h : FrameHdr) (x : Dsf) :
    (((s.checked c ws h).bump (R.DSF_CNT_HDR_ERR c.val)).setDsf c x).rd (R.DSF_CNT_HDR_ERR c.val) =
      s.rd (R.DSF_CNT_HDR_ERR c.val) + 1 := by
  obtain ⟨-, -, hk, he⟩ := cwRegs_apart c
  rw [State.setDsf_rd, State.rd_bump_self, (checked_frame s c ws h).rd_eq hk he]

/-- Neither reading the group nor its header changes M_LOSE. -/
theorem checked_mLose (s : State) (c : Chan) (ws : List CwResult) (h : FrameHdr) :
    (s.checked c ws h).fld F.DSF_ALIGN_CTL_M_LOSE = s.fld F.DSF_ALIGN_CTL_M_LOSE := by
  obtain ⟨hk, he, -⟩ := cwRegs_apart c
  exact (checked_frame s c ws h).fld_eq hk he

theorem erred_page (s : State) (c : Chan) (ws : List CwResult) (h : FrameHdr) (x : Dsf) :
    PageEv [.dsf, .rx] [P.DSF] s (((s.checked c ws h).bump (R.DSF_CNT_HDR_ERR c.val)).setDsf c x) :=
  ((checked_page s c ws h).bump _ (hdrErr_page c)).setDsf _ _ (by decide)

theorem exec_erred (hw : groupWf r = true) (hg : (s.trimsIn c).readLine c r = g) (hh : g.hdr = some h)
    (ht : s.takesGroup c g = true) (hst : (s.dsf[c]).st = .aligned) (hv : headerValid c g.cws h = false) :
    exec (.groupDecode c r) s =
      .next (((s.checked c g.cws h).badHeader c (passed s c g.cws h) (wholeGroup g.cws)).keepStream c g) :=
  (exec_grid hw hg hh ht hst).trans
    (congrArg (fun u : State => Host.Outcome.next (u.keepStream c g)) (if_neg (ne_true_of_eq_false hv)))

/-- A valid header on the grid is taken, its run clear. -/
theorem exec_takesHeader (hw : groupWf r = true) (hg : (s.trimsIn c).readLine c r = g) (hh : g.hdr = some h)
    (ht : s.takesGroup c g = true) (hst : (s.dsf[c]).st = .aligned) (hv : headerValid c g.cws h = true) :
    ∃ u, exec (.groupDecode c r) s = .next ((u.goodHeader c h).keepStream c g) ∧ PageEv [.dsf, .rx] [P.DSF] s u ∧
      (u.dsf[c]).run = 0 ∧ (u.dsf[c]).grp = 0 ∧ (u.dsf[c]).deliver = true ∧ (u.dsf[c]).grpDead = false := by
  have htaken : (s.checked c g.cws h).alignedHeader c g.cws h = ((s.checked c g.cws h).setDsf c { passed s c g.cws h with
      run := 0, grpOk := true, grpDead := false, deliver := true, ctrl := true }).goodHeader c h := if_pos hv
  refine ⟨_, (exec_grid hw hg hh ht hst).trans (congrArg (fun u : State => Host.Outcome.next (u.keepStream c g)) htaken),
    (checked_page s c g.cws h).setDsf _ _ (by decide), ?_⟩
  rw [setDsf_self]
  exact ⟨rfl, rfl, rfl, rfl⟩

/-- An errored header short of the Mth in a row is counted and adds to the run. -/
theorem exec_countsErred (hw : groupWf r = true) (hg : (s.trimsIn c).readLine c r = g) (hh : g.hdr = some h)
    (ht : s.takesGroup c g = true) (hst : (s.dsf[c]).st = .aligned) (hv : headerValid c g.cws h = false)
    (hrun : (s.dsf[c]).run + 1 < s.fld F.DSF_ALIGN_CTL_M_LOSE) :
    ∃ u, exec (.groupDecode c r) s = .next ((u.groupLost (wholeGroup g.cws) true).keepStream c g) ∧ PageEv [.dsf, .rx] [P.DSF] s u ∧
      (u.dsf[c]).st = .aligned ∧ (u.dsf[c]).run = min ((s.dsf[c]).run + 1) 15 ∧
      u.rd (R.DSF_CNT_HDR_ERR c.val) = s.rd (R.DSF_CNT_HDR_ERR c.val) + 1 := by
  obtain ⟨hpassed, hgrid⟩ := passed_spec s c g.cws h
  have hexec := exec_erred hw hg hh ht hst hv
  rw [badHeader_goesOn (by rwa [hpassed, checked_mLose]), decide_eq_true (hgrid.trans hst)] at hexec
  refine ⟨_, hexec, erred_page s c g.cws h _, ?_, ?_, erred_counted s c g.cws h _⟩ <;> rw [setDsf_self]
  · exact hgrid.trans hst
  · exact congrArg (fun n => min (n + 1) 15) hpassed

/-- The Mth loses alignment. -/
theorem exec_losesAlignment (hw : groupWf r = true) (hg : (s.trimsIn c).readLine c r = g) (hh : g.hdr = some h)
    (ht : s.takesGroup c g = true) (hst : (s.dsf[c]).st = .aligned) (hv : headerValid c g.cws h = false)
    (hrun : s.fld F.DSF_ALIGN_CTL_M_LOSE ≤ (s.dsf[c]).run + 1) :
    ∃ u, exec (.groupDecode c r) s = .next ((u.lossOfFrame c).keepStream c g) ∧ PageEv [.dsf, .rx] [P.DSF] s u ∧
      u.rd (R.DSF_CNT_HDR_ERR c.val) = s.rd (R.DSF_CNT_HDR_ERR c.val) + 1 := by
  obtain ⟨hpassed, -⟩ := passed_spec s c g.cws h
  have hexec := exec_erred hw hg hh ht hst hv
  rw [badHeader_loses (by rwa [hpassed, checked_mLose])] at hexec
  exact ⟨_, hexec, erred_page s c g.cws h _, erred_counted s c g.cws h _⟩

/-- A later group is counted in codewords, and where lost told to the demapper. -/
theorem exec_countsGroup (hw : groupWf r = true) (hg : (s.trimsIn c).readLine c r = g) (hh : g.hdr = none)
    (ht : s.takesGroup c g = true) (hst : (s.dsf[c]).st = .aligned) :
    ∃ u, exec (.groupDecode c r) s = .next ((u.groupLost (wholeGroup g.cws) (s.dsf[c]).deliver).keepStream c g) ∧
      PageEv [.dsf, .rx] [P.DSF] s u ∧ (u.dsf[c]).grp = g.grp ∧ (u.dsf[c]).grpOk = wholeGroup g.cws ∧ (u.dsf[c]).grpDead = false := by
  obtain ⟨_, _, _, hx⟩ := counted_dsf s c g.cws
  have hexec := exec_later hw hg hh ht hst
  unfold State.laterGroup at hexec
  dsimp only at hexec
  rw [hx] at hexec
  refine ⟨_, hexec, ((counted_frame s c g.cws).page (cwRegs_page c)).setDsf _ _ (by decide), ?_⟩
  rw [setDsf_self]
  exact ⟨rfl, rfl, rfl⟩

/-- Only a lost group of a frame that is delivered is told to the demapper. -/
theorem groupLost_cases (s : State) :
    s.groupLost true true = s ∧ s.groupLost false false = s ∧ s.groupLost false true = s.bump R.TRB_CNT_GRP_LOST :=
  ⟨rfl, rfl, rfl⟩

/-! ### A coast (R160, R162) -/

theorem plannedCoast_moves (hst : (s.dsf[c]).st = .aligned) (hd : s.markOf c ((s.dsf[c]).place true 0) = .dark) :
    exec (.plannedCoast c) s = .next (s.dsfMove c { (s.dsf[c]).advance with
      st := .coast, planned := true, grpOk := false, grpDead := true, deliver := true, ctrl := false }) :=
  congrArg Host.Outcome.next (if_pos ⟨hst, hd⟩)

/-- A planned coast ends in VERIFY where a slip of the chain has put the grid in doubt, and in ALIGNED elsewhere. -/
theorem coastEnd_moves {g : Fin 250} (hst : (s.dsf[c]).st = .coast) (hp : (s.dsf[c]).planned = true)
    (hd : s.markOf c ((s.dsf[c]).place (decide (g.val = 0)) g.val) ≠ .dark) :
    ∃ x, exec (.coastEnd c g) s = .next (s.dsfMove c x) ∧ x.st = (if (s.rx[c]).mismatch then .verify else .aligned) ∧
      x.planned = false ∧ x.run = 0 ∧ x.fc = (s.dsf[c]).fc ∧ x.since = (s.dsf[c]).since := by
  cases hm : (s.rx[c]).mismatch with
  | true => exact ⟨_, congrArg Host.Outcome.next ((if_pos ⟨hst, hp, hd⟩).trans (if_pos hm)), rfl, rfl, rfl, rfl, rfl⟩
  | false =>
    exact ⟨_, congrArg Host.Outcome.next ((if_pos ⟨hst, hp, hd⟩).trans (if_neg (ne_true_of_eq_false hm))), rfl, rfl, rfl, rfl, rfl⟩

theorem coastLimit_loses (hst : (s.dsf[c]).st = .coast) (hp : (s.dsf[c]).planned = false) :
    ∃ u, exec (.coastLimit c) s = .next (u.lossOfFrame c) ∧ FrameEv [] [R.DSF_CH_STAT c.val] s u :=
  ⟨_, congrArg Host.Outcome.next (if_pos ⟨hst, ne_true_of_eq_false hp⟩), (FrameEv.refl _ _ s).dsfEvent _ _ List.mem_cons_self⟩

/-- Settles O23: the search, the headers on the grid and the coast by the lemma of each outcome. -/
theorem deframerStates : Obligations.DeframerStates := by
  unfold Obligations.DeframerStates
  refine ⟨fun _ _ _ _ hpos hst hrx hw hn hnew => syncCandidate_adds hpos hst hrx hw hn hnew,
    fun _ _ _ _ hpos hno => syncCandidate_passes hpos hno,
    fun _ _ _ => takesGroup_iff,
    fun c _ g h _ s hw hg hh ht hst hk hv hseq hn =>
      ⟨_, _, exec_aligns hw hg hh ht hst hk hv hseq hn, checked_page s c g.cws h, rfl, rfl, rfl, rfl, rfl, rfl, rfl⟩,
    fun c _ g h _ s hw hg hh ht hst hk hv hseq hn =>
      ⟨_, _, exec_confirms hw hg hh ht hst hk hv hseq hn, checked_page s c g.cws h, rfl, confirmedAt_cands s c g.cws h _ _ _⟩,
    fun c _ g h _ s hw hg hh ht hst hk => ⟨_, checked_page s c g.cws h, exec_drops hw hg hh ht hst hk⟩,
    fun _ _ _ _ _ hw hg hh ht hst hv => exec_takesHeader hw hg hh ht hst hv,
    fun _ _ _ _ _ hw hg hh ht hst hv hrun => exec_countsErred hw hg hh ht hst hv hrun,
    fun _ _ _ _ _ hw hg hh ht hst hv hrun => exec_losesAlignment hw hg hh ht hst hv hrun,
    fun _ _ _ _ hw hg hh ht hst => exec_countsGroup hw hg hh ht hst,
    fun _ _ _ _ hw hg ht => exec_untaken hw hg ht,
    groupLost_cases,
    fun _ _ hst hd => plannedCoast_moves hst hd,
    fun _ _ _ hst hp hd => coastEnd_moves hst hp hd,
    fun _ _ hst hp => coastLimit_loses hst hp,
    fun _ _ hst => congrArg Host.Outcome.next (if_pos hst)⟩

end Sys2Proof.Proofs.DeframerStates
end

section
/-! PROOF. The contents of a frame (O24): the fragment that carries out a roll is heard under the LISTEN registers of before the roll, where
the statement asks those that a group ended by the roll has written. -/

namespace Sys2Proof.Proofs.DeframerContents

open Sys2Proof Sys2Proof.Machine Sys2Proof.Proofs.DeframerEffects

variable {s : State} {c : Chan} {stamp : Nat} {h : BitVec 64}

/-- A fragment of a whole group that is not for the terminal moves the place on and carries out a roll. -/
theorem fragmentReceive_unheard (hdel : (s.dsf[c]).deliver = true) (hdead : (s.dsf[c]).grpDead = false)
    (hmine : s.markOf c ((s.dsf[c]).place false (s.dsf[c]).grp) = .mine)
    (hlen : (s.dsf[c]).at_ + 8 + fragLen h ≤ (s.dsf[c]).info.length) (hh : h = fragHeader (s.dsf[c]).info (s.dsf[c]).at_)
    (hhec : hecOf h = h.toNat % 2 ^ 16) (hok : (s.dsf[c]).grpOk = true) (hhears : s.hears (h.toNat / 2 ^ 48 % 2 ^ 12) = false) :
    s.fragmentReceive c stamp = fragmentPassed s c h := by
  unfold State.fragmentReceive
  dsimp only
  rw [← hh, if_neg (by rintro (e | e | e | e); exacts [e hdel, ne_true_of_eq_false hdead e, e hmine, by omega]),
    if_neg (not_not_intro hhec), if_neg (by omega), if_pos hok, if_neg (fun e => ne_true_of_eq_false hhears e.2)]
  rfl

/-- The header of an empty tributary fragment for terminal 5. -/
def emptyFragment : BitVec 64 := 0x200500000000184F

/-- A group in APPLYING that waits for the roll of pair 1 alone, and holds a word for LISTEN0 with which the terminal hears ID 5. -/
def rolledGroup : Slot where
  st := .applying
  tag := 1
  writes := [(R.DSF_LISTEN 0, 0x80000005), (R.LCK_ROLL_CTL 1, 1)]
  switched := [.entry (R.DSF_LISTEN 0)]
  pages := [P.DSF, P.LCK]

/-- Channel 0 delivers a whole group that holds `emptyFragment`; its downstream roll is due, and belongs to `rolledGroup`. -/
def rollDue : State :=
  { State.reset with
    dsf := State.reset.dsf.set 0 { deliver := true, grpOk := true, info := toBytesBE 8 emptyFragment.toNat }
    pairs := State.reset.pairs.set 1 { k0 := { st := .loaded }, roll := some ⟨false, 0, true⟩ }
    cmt := { State.reset.cmt with slots := State.reset.cmt.slots.set 0 rolledGroup }
    seam := { State.reset.seam with preps := [⟨1, [], true⟩] } }

/-- Before the roll the terminal does not hear ID 5, after it it does. -/
theorem rollDue_hears : rollDue.hears 5 = false ∧ (fragmentPassed rollDue 0 emptyFragment).hears 5 = true := by
  decide +kernel

/-- Refutes O24 in its clause for a tributary fragment that carries out a roll: the model judges the terminal ID of the fragment by the
state of before the roll, the statement by the one that the roll leaves, in which a group that the roll ends has applied. In `rollDue` that
group writes LISTEN0, and the statement has a fragment added that the model passes over. (No run stages a write of LISTEN0, but the statement
is about every state.) -/
theorem not_deframerContents : ¬ Obligations.DeframerContents := by
  unfold Obligations.DeframerContents
  rintro ⟨-, -, -, -, -, -, -, -, hpasses, -⟩
  obtain ⟨hbefore, hafter⟩ := rollDue_hears
  obtain ⟨-, hadds⟩ := hpasses 0 0 emptyFragment (fragmentPassed rollDue 0 emptyFragment) rollDue rfl rfl (by decide +kernel)
    (by decide +kernel) (by decide +kernel) (by decide +kernel) rfl rfl
  have hadded := hadds (by decide +kernel) hafter (by decide +kernel) (.inl rfl)
  have hpassed : exec (.fragmentReceive 0 0) rollDue = .next (fragmentPassed rollDue 0 emptyFragment) :=
    congrArg Host.Outcome.next (fragmentReceive_unheard rfl rfl (by decide +kernel) (by decide +kernel) (by decide +kernel)
      (by decide +kernel) rfl hbefore)
  have hfrags := congrArg State.tfrags (Host.Outcome.next.inj (hpassed.symm.trans hadded))
  rw [fragmentPassed_tfrags] at hfrags
  exact absurd hfrags (by decide +kernel)

end Sys2Proof.Proofs.DeframerContents
end

section
/-! SUPPORT. Frames that leave page TRB open, through the operations of the mapper, the demapper and the rows. -/

namespace Sys2Proof

open Sys2Proof.Machine

variable {ps : List Part} {ks : List Nat} {s t : State}

/-! ### Keys of page TRB -/

/-- The register of an index stands in the page of the register that it belongs to. -/
theorem pageOf_idxKey (a i : Nat) : pageOf (idxKey a i) = pageOf a := by
  unfold pageOf idxKey
  omega

theorem idxKey_mem_trb {a : Nat} (h : pageOf a = P.TRB) (i : Nat) : pageOf (idxKey a i) ∈ [P.TRB] :=
  List.mem_singleton.2 ((pageOf_idxKey a i).trans h)

theorem alarmReg_mem_trb (ctx : Fin 1024) : pageOf (R.TRB_TRIB_ALM (ctx.val / 32)) ∈ [P.TRB] := by
  have hn : ∀ n : Fin 32, pageOf (R.TRB_TRIB_ALM n.val) ∈ [P.TRB] := by decide
  exact hn ⟨ctx.val / 32, by omega⟩

/-! ### Free values -/

theorem PageEv.ite_snd {α : Type} {c : Prop} [Decidable c] {p q : α × State} (h : PageEv ps ks s p.2) (h' : PageEv ps ks s q.2) :
    PageEv ps ks s (if c then p else q).2 := by
  split <;> assumption

theorem PageEv.bumpIf {c : Prop} [Decidable c] (h : PageEv ps ks s t) (k : Nat) (hk : pageOf k ∈ ks) :
    PageEv ps ks s (if c then t.bump k else t) := .ite (h.bump k hk) h

theorem PageEv.freeVal (h : PageEv ps ks s t) (hf : .fresh ∈ ps) : PageEv ps ks s t.freeVal.2 := h.with_fresh hf

theorem PageEv.freeBits (h : PageEv ps ks s t) (hf : .fresh ∈ ps) (n : Nat) : PageEv ps ks s (t.freeBits n).2 := by
  induction n generalizing t with
  | zero => exact h
  | succ n ih => exact ih (h.freeVal hf)

/-! ### A context's record and its alarm (R231) -/

theorem PageEv.tribFlag (h : PageEv ps [P.TRB] s t) (ht : .tribs ∈ ps) (ctx : Fin 1024) (bits : BitVec 9) :
    PageEv ps [P.TRB] s (t.tribFlag ctx bits) :=
  .ite h (.ite (h.setTrib _ _ ht) (((h.setTrib _ _ ht).setFld _ _ (alarmReg_mem_trb ctx)).andFire _ _))

theorem PageEv.tribSet (h : PageEv ps [P.TRB] s t) (ht : .tribs ∈ ps) (ctx : Fin 1024) (x : Trib) :
    PageEv ps [P.TRB] s (t.tribSet ctx x) := (h.setTrib _ _ ht).tribFlag ht _ _

theorem PageEv.tribSlip (h : PageEv ps [P.TRB] s t) (ht : .tribs ∈ ps) (ctx : Fin 1024) : PageEv ps [P.TRB] s (t.tribSlip ctx) :=
  (h.bump _ (idxKey_mem_trb rfl _)).tribFlag ht _ _

/-! ### The mapper (R202-R207) -/

theorem PageEv.takeBits (h : PageEv ps [P.TRB] s t) (ht : .tribs ∈ ps) (ctx : Fin 1024) (e : Nat) :
    PageEv ps [P.TRB] s (t.takeBits ctx e).2 := by
  refine PageEv.setTrib (.ite (PageEv.tribSlip ?justified ht ctx) ?justified) _ _ ht
  have hforced := fun force : Bool => h.bumpIf (c := force = true) R.TRB_CNT_FORCE (by decide)
  exact .ite ((hforced _).bump _ (idxKey_mem_trb rfl _)) ((hforced _).bumpIf _ (idxKey_mem_trb rfl _))

theorem PageEv.takeOctets (h : PageEv ps [P.TRB] s t) (ht : .tribs ∈ ps) (hf : .fresh ∈ ps) (ctx : Fin 1024) (e : Nat) :
    PageEv ps [P.TRB] s (t.takeOctets ctx e).2 :=
  .ite_snd (PageEv.tribSlip (.ite_snd h (h.freeBits hf _)) ht _) (h.setTrib _ _ ht)

theorem PageEv.containerBytes (h : PageEv ps ks s t) (hf : .fresh ∈ ps) (ctx : Fin 1024) (e seq : Nat) (jn jp : Bool) (oh : Byte)
    (data : List Bool) : PageEv ps ks s (t.containerBytes ctx e seq jn jp oh data).2 :=
  .ite_snd h (h.freeBits hf _)

/-! ### The demapper (R198, R206, R211-R214) -/

theorem PageEv.storeDown (h : PageEv ps [P.TRB] s t) (ht : .tribs ∈ ps) (ctx : Fin 1024) (e : Nat) (bs : List Bool) :
    PageEv ps [P.TRB] s (t.storeDown ctx e bs) :=
  .ite (h.setTrib _ _ ht) (.ite ((h.setTrib _ _ ht).tribSlip ht _) ((h.setTrib _ _ ht).tribSlip ht _))

theorem PageEv.analyse (h : PageEv ps [P.TRB] s t) (ht : .ttest ∈ ps) (hf : .fresh ∈ ps) (ctx : Fin 1024) (bs : List Bool) :
    PageEv ps [P.TRB] s (t.analyse ctx bs) :=
  .ite (.ite ((((h.freeVal hf).with_ttest ht).bumpBy _ _ (by decide)).andFire _ _) ((h.freeVal hf).with_ttest ht)) h

/-! ### The rows (R208-R213, R219) -/

theorem PageEv.slotByte (h : PageEv ps [P.TRB] s t) (ht : .tribs ∈ ps) (ctx : Fin 1024) (e : Nat) :
    PageEv ps [P.TRB] s (t.slotByte ctx e).2 :=
  .ite_snd h (.ite_snd (h.setTrib _ _ ht) (.ite_snd (h.setTrib _ _ ht) ((h.setTrib _ _ ht).tribSlip ht _)))

theorem PageEv.slotOut (h : PageEv ps [P.TRB] s t) (ht : .tribs ∈ ps) (ctx : Fin 1024) (e : Nat) :
    PageEv ps [P.TRB] s (t.slotOut ctx e).2 := by
  unfold State.slotOut
  refine .ite_snd ?hairpin (.ite_snd ?octets (.ite_snd (h.setTrib _ _ ht) (.ite_snd (h.setTrib _ _ ht) ((h.setTrib _ _ ht).slotByte ht _ _))))
  case hairpin =>
    split
    · exact h.setTrib _ _ ht
    · exact h
  case octets =>
    split
    · exact h
    · exact .ite_snd (h.setTrib _ _ ht) (h.setTrib _ _ ht)

theorem PageEv.slotAt (h : PageEv ps [P.TRB] s t) (ht : .tribs ∈ ps) (l : Fin 48) (i : Nat) : PageEv ps [P.TRB] s (t.slotAt l i).2 := by
  unfold State.slotAt
  split
  · exact h.slotOut ht _ _
  · exact h

theorem PageEv.slotsOut (h : PageEv ps [P.TRB] s t) (ht : .tribs ∈ ps) (l : Fin 48) (is : List Nat) :
    PageEv ps [P.TRB] s (t.slotsOut l is).2 := by
  induction is generalizing t with
  | nil => exact h
  | cons i is ih =>
    have hrest := ih (h.slotAt ht l i)
    unfold State.slotsOut
    exact hrest

theorem PageEv.overheadOut (h : PageEv ps ks s t) (hf : .fresh ∈ ps) (l : Fin 48) (row : Nat) :
    PageEv ps ks s (t.overheadOut l row).2 := by
  unfold State.overheadOut
  split
  · exact h
  · exact .ite_snd (.ite_snd h (h.freeVal hf)) (.ite_snd (.ite_snd h h) h)

theorem PageEv.acrossSeam (h : PageEv ps ks s t) (hf : .fresh ∈ ps) (slots : List SlotChar) (oh : Byte) :
    PageEv ps ks s (t.acrossSeam slots oh).2 := .ite_snd h (h.freeVal hf)

/-! ### A period of the frame sync and a second (R205, R206) -/

theorem PageEv.framePeriod (h : PageEv ps [P.TRB] s t) (ht : .tribs ∈ ps) (hf : .fresh ∈ ps) (ctx : Fin 1024) (e : Nat) :
    PageEv ps [P.TRB] s (t.framePeriod ctx e) :=
  .ite (.ite h (h.setTrib _ _ ht)) (.ite (h.setTrib _ _ ht) (.ite (h.setTrib _ _ ht) (.ite (h.setTrib _ _ ht)
    (.ite ((h.setTrib _ _ ht).tribSlip ht _) (((h.freeBits hf _).setTrib _ _ ht).tribSlip ht _)))))

theorem PageEv.fit16 (h : PageEv ps ks s t) (hf : .fresh ∈ ps) (x : Int) : PageEv ps ks s (t.fit16 x).2 := .ite_snd h (h.freeVal hf)

theorem PageEv.rateSecond (h : PageEv ps [P.TRB] s t) (ht : .tribs ∈ ps) (hf : .fresh ∈ ps) (ctx : Fin 1024) (e : Nat) :
    PageEv ps [P.TRB] s (t.rateSecond ctx e) := ((h.fit16 hf _).fit16 hf _).tribSet ht _ _

end Sys2Proof
end

section
/-! PROOF. Containers (O25): how the header of a container is judged, one equation for each outcome of its SEQ, and what building and
accepting one leave alone. -/

namespace Sys2Proof.Proofs.TributaryContainers

open Sys2Proof Sys2Proof.Machine

variable {s : State} {c : Chan} {ctx : Fin 1024} {e seq : Nat} {f bytes : List Byte} {fs : List (List Byte)}

/-! ### The mapper (R201, R202, R207) -/

/-- A container that is built enters the queue behind a step of SEQ; drawing its bits changes the record, the test generator and the free
values alone. -/
theorem buildContainer_queues (s : State) (ctx : Fin 1024) (e : Nat) :
    ∃ (u : State) (b : List Byte), s.buildContainer ctx e =
      (u.setTrib ctx { u.trib ctx with seq := ((s.trib ctx).seq + 1) % 16 }).queueContainer ctx b ∧
      PageEv [.tribs, .ttest, .fresh] [P.TRB] s u := by
  unfold State.buildContainer
  dsimp only
  generalize hbits : (if (s.mapperAis e (s.trib ctx) && !s.generates ctx) = true then _ else _ : (List Bool × Bool × Bool) × State) = p
  have hp : PageEv [.tribs, .ttest, .fresh] [P.TRB] s p.2 := by
    have hs : PageEv [.tribs, .ttest, .fresh] [P.TRB] s s := .refl _ _ s
    subst hbits
    exact .ite_snd (hs.setTrib _ _ (by decide))
      (.ite_snd (hs.takeOctets (by decide) (by decide) _ _) (hs.takeBits (by decide) _ _))
  obtain ⟨⟨bs, jn, jp⟩, s1⟩ := p
  exact ⟨_, _, rfl, (hp.with_ttest (by decide)).containerBytes (by decide) _ _ _ _ _ _ _⟩

theorem containerBuild_queues (hs : s.served ctx = some e) (hup : entUp e = true) :
    ∃ (u : State) (b : List Byte), exec (.containerBuild ctx) s =
      .next ((u.setTrib ctx { u.trib ctx with seq := ((s.trib ctx).seq + 1) % 16 }).queueContainer ctx b) ∧
      PageEv [.tribs, .ttest, .fresh] [P.TRB] s u := by
  have hexec : exec (.containerBuild ctx) s = .next (s.buildContainer ctx e) := by
    show execContainerBuild ctx s = _
    unfold execContainerBuild
    rw [hs]
    exact congrArg Host.Outcome.next (if_pos hup)
  obtain ⟨u, b, hbuild, hpage⟩ := buildContainer_queues s ctx e
  exact ⟨u, b, hexec.trans (congrArg Host.Outcome.next hbuild), hpage⟩

/-! ### A context out of service -/

/-- The commands of one context do nothing to one that is out of service. -/
theorem unserved_idle (hs : s.served ctx = none) : exec (.containerBuild ctx) s = .next s ∧ exec (.desyncStart ctx) s = .next s ∧
    exec (.locTimeout ctx) s = .next s ∧ exec (.hairpinByte ctx) s = .next s := by
  show execContainerBuild ctx s = _ ∧ execDesyncStart ctx s = _ ∧ execLocTimeout ctx s = _ ∧ execHairpinByte ctx s = _
  unfold execContainerBuild execDesyncStart execLocTimeout execHairpinByte
  rw [hs]
  exact ⟨rfl, rfl, rfl, rfl⟩

/-! ### A received container (R199, R211) -/

/-- What the first container of a fragment leaves of the fragments of its channel. -/
def leftover (e : Nat) (f : List Byte) (fs : List (List Byte)) : List (List Byte) :=
  if f.drop (entBytes e) = [] then fs else f.drop (entBytes e) :: fs

theorem setFrags_frame (s : State) (c : Chan) (ks : List Nat) (fs : List (List Byte)) : Frame [.tfrags] ks s (s.setFrags c fs) :=
  (Frame.refl _ _ s).upd (State.setFrags_keeps _ _ (List.Subset.refl _) (SameBut.refl _ s)) (List.Subset.refl _) rfl

/-- A header that fails its check ends the fragment, counted and raised. -/
theorem receiveContainer_badHeader (hf : s.tfrags[c] = f :: fs) (hcrc : crc8 ((f.take 2).map byteBits).flatten ≠ f.getD 2 0) :
    s.receiveContainer c = (s.setFrags c fs).chdrErr := by
  unfold State.receiveContainer
  rw [hf]
  exact if_pos (.inr hcrc)

theorem containerReceive_badHeader (hf : s.tfrags[c] = f :: fs) (hcrc : crc8 ((f.take 2).map byteBits).flatten ≠ f.getD 2 0) :
    ∃ t, exec (.containerReceive c) s = .next t ∧ FrameEv [.tfrags] [R.TRB_CNT_CHDR_ERR] s t ∧ t.tfrags = s.tfrags.set c fs ∧
      t.rd R.TRB_CNT_CHDR_ERR = s.rd R.TRB_CNT_CHDR_ERR + 1 := by
  refine ⟨_, congrArg Host.Outcome.next (receiveContainer_badHeader hf hcrc),
    (((FrameEv.refl _ _ s).setFrags _ _ (by decide)).bump _ (by decide)).andFire _ _, ?_, ?_⟩
  · exact State.fire_keeps _ _ (List.Subset.refl _) (SameBut.refl _ _) .tfrags (by decide)
  · exact (State.fire_rd _ _ _ (by decide)).trans (State.rd_bump_self _ _)

/-- A container that can be read goes by the entry in service: none takes it, or one of the other direction or another channel does not, or
its SEQ decides. -/
theorem receiveContainer_reads (hf : s.tfrags[c] = f :: fs) (hlen : 3 ≤ f.length)
    (hcrc : crc8 ((f.take 2).map byteBits).flatten = f.getD 2 0) (hctx : ctx = Fin.ofNat 1024 (ofBytesBE (f.take 2) / 64))
    (hmap : s.mapEntry (s.tribCopy ctx) ctx.val = e) (hclass : entClass e ≤ 4) (hbytes : entBytes e ≤ f.length) :
    s.receiveContainer c = (s.served ctx).elim ((s.setFrags c (leftover e f fs)).bump R.TRB_CNT_FRAG_BAD) (fun d =>
      if ¬ entDown d ∨ entChan d ≠ c.val then (s.setFrags c (leftover e f fs)).bump R.TRB_CNT_FRAG_BAD
      else (s.setFrags c (leftover e f fs)).sequence ctx d (f.take (entBytes d)) (ofBytesBE (f.take 2) / 4 % 16)) := by
  unfold State.receiveContainer
  rw [hf]
  dsimp only
  rw [← hctx, hmap, if_neg (by rintro (h | h); exacts [by omega, h hcrc]), if_neg (by omega), if_neg (by omega)]
  cases s.served ctx <;> rfl

theorem containerReceive_unserved (hf : s.tfrags[c] = f :: fs) (hlen : 3 ≤ f.length)
    (hcrc : crc8 ((f.take 2).map byteBits).flatten = f.getD 2 0) (hctx : ctx = Fin.ofNat 1024 (ofBytesBE (f.take 2) / 64))
    (hmap : s.mapEntry (s.tribCopy ctx) ctx.val = e) (hclass : entClass e ≤ 4) (hbytes : entBytes e ≤ f.length)
    (hs : s.served ctx = none) :
    ∃ t, exec (.containerReceive c) s = .next t ∧ Frame [.tfrags] [R.TRB_CNT_FRAG_BAD] s t ∧
      t.rd R.TRB_CNT_FRAG_BAD = s.rd R.TRB_CNT_FRAG_BAD + 1 := by
  have hbad := receiveContainer_reads hf hlen hcrc hctx hmap hclass hbytes
  rw [hs] at hbad
  exact ⟨_, congrArg Host.Outcome.next hbad,
    (setFrags_frame s c _ _).bump _ (by decide),
    State.rd_bump_self _ _⟩

theorem containerReceive_served (hf : s.tfrags[c] = f :: fs) (hlen : 3 ≤ f.length)
    (hcrc : crc8 ((f.take 2).map byteBits).flatten = f.getD 2 0) (hctx : ctx = Fin.ofNat 1024 (ofBytesBE (f.take 2) / 64))
    (hmap : s.mapEntry (s.tribCopy ctx) ctx.val = e) (hclass : entClass e ≤ 4) (hbytes : entBytes e ≤ f.length)
    (hs : s.served ctx = some e) (hdown : entDown e = true) (hchan : entChan e = c.val) :
    exec (.containerReceive c) s = .next ((s.setFrags c (leftover e f fs)).sequence ctx e (f.take (entBytes e))
      (ofBytesBE (f.take 2) / 4 % 16)) := by
  have htaken := receiveContainer_reads hf hlen hcrc hctx hmap hclass hbytes
  rw [hs] at htaken
  exact congrArg Host.Outcome.next (htaken.trans (if_neg (by rintro (h | h); exacts [h hdown, h hchan])))

/-- Without an expected SEQ every container is accepted. -/
theorem sequence_unexpected (h : (s.trib ctx).expect = none) : s.sequence ctx e bytes seq = s.acceptContainer ctx e bytes seq := by
  unfold State.sequence
  rw [h]

/-- A container 8 or more behind its expected SEQ is dropped, counted. -/
theorem sequence_behind {want : Nat} (h : (s.trib ctx).expect = some want) (hd : 8 ≤ (seq + 16 - want) % 16) :
    s.sequence ctx e bytes seq = s.bump (R.TRB_CNT_SEQ_ERR ctx.val) := by
  unfold State.sequence
  rw [h]
  exact if_pos hd

/-- A container with the expected SEQ is accepted, with no fill before it. -/
theorem sequence_inOrder {want : Nat} (h : (s.trib ctx).expect = some want) (hd : (seq + 16 - want) % 16 = 0) :
    s.sequence ctx e bytes seq = s.acceptContainer ctx e bytes seq := by
  unfold State.sequence
  rw [h]
  dsimp only
  rw [hd]
  exact if_neg (by decide)

theorem containerReceive_judges (hf : s.tfrags[c] = f :: fs) (hlen : 3 ≤ f.length)
    (hcrc : crc8 ((f.take 2).map byteBits).flatten = f.getD 2 0) (hctx : ctx = Fin.ofNat 1024 (ofBytesBE (f.take 2) / 64))
    (hs : s.served ctx = some e) (hmap : s.mapEntry (s.tribCopy ctx) ctx.val = e) (hclass : entClass e ≤ 4)
    (hbytes : entBytes e ≤ f.length) (hdown : entDown e = true) (hchan : entChan e = c.val) :
    ∃ u, Frame [.tfrags] [] s u ∧ u.tfrags = s.tfrags.set c (leftover e f fs) ∧
      (∀ want, (s.trib ctx).expect = some want → 8 ≤ (ofBytesBE (f.take 2) / 4 % 16 + 16 - want) % 16 →
        exec (.containerReceive c) s = .next (u.bump (R.TRB_CNT_SEQ_ERR ctx.val))) ∧
      (((s.trib ctx).expect = none ∨ ∃ want, (s.trib ctx).expect = some want ∧ (ofBytesBE (f.take 2) / 4 % 16 + 16 - want) % 16 = 0) →
        exec (.containerReceive c) s = .next (u.acceptContainer ctx e (f.take (entBytes e)) (ofBytesBE (f.take 2) / 4 % 16))) := by
  have hexec := containerReceive_served hf hlen hcrc hctx hmap hclass hbytes hs hdown hchan
  refine ⟨s.setFrags c (leftover e f fs),
    setFrags_frame s c _ _, rfl, ?_, ?_⟩
  · intro want hwant hd
    exact hexec.trans (congrArg Host.Outcome.next (sequence_behind hwant hd))
  · rintro (hnone | ⟨want, hwant, hd⟩)
    · exact hexec.trans (congrArg Host.Outcome.next (sequence_unexpected hnone))
    · exact hexec.trans (congrArg Host.Outcome.next (sequence_inOrder hwant hd))

/-- Accepting a container changes the record, the test signal, the LOC timer and the free values, and registers of page TRB. -/
theorem acceptContainer_page (s : State) (ctx : Fin 1024) (e : Nat) (bytes : List Byte) (seq : Nat) :
    PageEv [.tribs, .ttest, .timers, .fresh] [P.TRB] s (s.acceptContainer ctx e bytes seq) := by
  have hs : PageEv [.tribs, .ttest, .timers, .fresh] [P.TRB] s s := .refl _ _ s
  unfold State.acceptContainer
  refine .ite ?analysed (PageEv.storeDown ?analysed (by decide) _ _ _)
  exact ((((((hs.bumpIf _ (by decide)).bumpIf _ (idxKey_mem_trb rfl _)).bumpIf _ (idxKey_mem_trb rfl _)).tribSet (by decide) _ _).startTimer
    _ (by decide)).analyse (by decide) (by decide) _ _)

/-! ### Play-out, loss of containers, a second (R205, R208, R213) -/

theorem desyncStart_flows (hs : s.served ctx = some e) (hdown : entDown e = true) (hflow : (s.trib ctx).flowing = false)
    (hloc : (s.trib ctx).loc = false) (hfill : entNom e * entPeriods e ≤ 2 * (s.trib ctx).down.length) :
    exec (.desyncStart ctx) s = .next (s.setTrib ctx { s.trib ctx with flowing := true }) := by
  show execDesyncStart ctx s = _
  unfold execDesyncStart
  rw [hs]
  exact congrArg Host.Outcome.next (if_pos ⟨hdown, ne_true_of_eq_false hflow, ne_true_of_eq_false hloc, hfill⟩)

theorem locTimeout_loses (hs : s.served ctx = some e) (hdown : entDown e = true) (hrun : s.running (T.loc ctx.val) = true) :
    exec (.locTimeout ctx) s = .next (s.tribLoc ctx) := by
  show execLocTimeout ctx s = _
  unfold execLocTimeout
  rw [hs]
  exact congrArg Host.Outcome.next (if_pos ⟨hdown, hrun⟩)

theorem secondOf_page (t : State) (a : Fin 1024) : PageEv [.tribs, .fresh] [P.TRB] t (TributaryEffects.secondOf t a) := by
  unfold TributaryEffects.secondOf
  split
  · exact .ite (.refl _ _ t) ((PageEv.refl _ _ t).rateSecond (by decide) (by decide) _ _)
  · exact .refl _ _ t

theorem tribRateSecond_page (s : State) : ∃ t, exec .tribRateSecond s = .next t ∧ PageEv [.tribs, .fresh] [P.TRB] s t :=
  ⟨(List.finRange 1024).foldl TributaryEffects.secondOf s, rfl, .foldl secondOf_page _ s⟩

/-- Settles O25: the mapper, the demapper and the desynchroniser by the lemma of each outcome. -/
theorem tributaryContainers : Obligations.TributaryContainers := by
  unfold Obligations.TributaryContainers
  exact ⟨fun _ _ _ hs hup => containerBuild_queues hs hup,
    fun _ _ hs => unserved_idle hs,
    fun _ _ _ _ hf hcrc => containerReceive_badHeader hf hcrc,
    fun _ _ _ _ hf hlen hcrc hclass hbytes hs => containerReceive_unserved hf hlen hcrc rfl rfl hclass hbytes hs,
    fun _ _ _ _ _ _ hf hlen hcrc hctx hs hmap hclass hbytes hdown hchan =>
      containerReceive_judges hf hlen hcrc hctx hs hmap hclass hbytes hdown hchan,
    fun ctx e bytes seq s => acceptContainer_page s ctx e bytes seq,
    fun _ _ _ hs hdown hflow hloc hfill => desyncStart_flows hs hdown hflow hloc hfill,
    fun ctx _ s hs hdown hrun => ⟨_, locTimeout_loses hs hdown hrun, rfl, (PageEv.refl _ _ s).tribSet (by decide) ctx _⟩,
    tribRateSecond_page⟩

end Sys2Proof.Proofs.TributaryContainers
end

section
/-! PROOF. Rows and the map (O26): one equation for each row that a lane judges, the row that leaves, and what a write of the map's registers
leaves alone. -/

namespace Sys2Proof.Proofs.TributaryRows

open Sys2Proof Sys2Proof.Machine Sys2Proof.Proofs.TributaryEffects

variable {s t : State} {r : Req} {v : Word} {ctx : Fin 1024} {e : Nat} {l : Fin 48} {w : RowIn}

/-! ### A row is judged (R220) -/

theorem laneRowCheck_checks (hw : w.slots.length = 16) (hl : s.tribLane l = true) :
    exec (.laneRowCheck l w) s = .next (s.checkRow l w) :=
  (if_neg (not_not_intro hw)).trans (congrArg Host.Outcome.next (if_pos hl))

/-- A marker 0 in HUNT is taken for that of row 0. -/
theorem checkRow_begins (hst : (s.rows[l]).st = .hunt) (hm : w.marker = 0) :
    s.checkRow l w = s.setRow l { s.rows[l] with st := .check, row := 0 } := by
  unfold State.checkRow
  dsimp only
  rw [hst]
  exact if_pos hm

/-- A wrong marker in CHECK. -/
theorem checkRow_fallsBack (hst : (s.rows[l]).st = .check) (hm : w.marker ≠ if ((s.rows[l]).row + 1) % 256 = 0 then 0 else 1) :
    s.checkRow l w = s.setRow l { s.rows[l] with st := .hunt } := by
  unfold State.checkRow
  dsimp only
  rw [hst]
  exact if_pos (by simpa using hm)

/-- The 256th right marker in CHECK. -/
theorem checkRow_syncs (hst : (s.rows[l]).st = .check) (hrow : ((s.rows[l]).row + 1) % 256 = 0) (hm : w.marker = 0) :
    s.checkRow l w = (s.setRow l { s.rows[l] with st := .sync, row := 0, run := 0, rdi := false }).laneUp l := by
  unfold State.checkRow
  dsimp only
  rw [hst, hrow]
  dsimp only
  rw [if_neg (by simp [hm]), if_pos rfl]

/-- The fourth errored row in a row. -/
theorem checkRow_loses (hst : (s.rows[l]).st = .sync)
    (hbad : w.marker ≠ (if ((s.rows[l]).row + 1) % 256 = 0 then 0 else 1) ∨ rowGood w = false) (hrun : 3 ≤ (s.rows[l]).run) :
    s.checkRow l w =
      ((s.setRow l { s.rows[l] with st := .hunt, run := 0, rdi := true }).laneLost l).fire P.TRB E.TRB_LANE_SYNC_LOSS := by
  have hwrong : ¬ (decide (w.marker = if ((s.rows[l]).row + 1) % 256 = 0 then 0 else 1) = true ∧ rowGood w = true) := by
    rintro ⟨hm, hg⟩
    rcases hbad with hbad | hbad
    · exact hbad (of_decide_eq_true hm)
    · exact ne_true_of_eq_false hbad hg
  unfold State.checkRow
  dsimp only
  rw [hst]
  exact (if_neg hwrong).trans (if_neg (by omega))

/-! ### Hairpins (R222) -/

theorem hairpinByte_moves {n : Nat} (hn : n = ((s.trib ctx).hin.takeWhile (fun ch => decide (ch = .mark))).length + 1)
    (hs : s.served ctx = some e) (hdir : entDir e = 3) (hon : s.domOn 9 = true) (hin : n ≤ (s.trib ctx).hin.length) :
    exec (.hairpinByte ctx) s = .next (s.setTrib ctx
      { s.trib ctx with hin := (s.trib ctx).hin.drop n, hout := (s.trib ctx).hout ++ (s.trib ctx).hin.take n }) := by
  subst hn
  show execHairpinByte ctx s = _
  unfold execHairpinByte
  rw [hs]
  exact congrArg Host.Outcome.next (if_pos ⟨hdir, hin, hon⟩)

/-! ### The row that leaves (R210, R219) -/

theorem slotsOut_length (s : State) (l : Fin 48) (is : List Nat) : (s.slotsOut l is).1.length = is.length := by
  induction is generalizing s with
  | nil => rfl
  | cons i is ih =>
    simp only [State.slotsOut, List.length_cons, ih]

theorem acrossSeam_length (s : State) (slots : List SlotChar) (oh : Byte) :
    (s.acrossSeam slots oh).1.1.length = slots.length := by
  unfold State.acrossSeam
  split
  · rfl
  · exact List.length_map _

/-- One row of sixteen slots leaves, with its CRC over what is sent, and moves the row counter on. -/
theorem tribRowTransmit_sends (hl : s.tribLane l = true) : ∃ (u : State) (cs : List SlotChar) (b : Byte),
    exec (.tribRowTransmit l) s = .next ((u.setRow l { u.rows[l] with txRow := ((s.rows[l]).txRow + 1) % 256 }).emit
      (.row l (s.rows[l]).txRow cs b (rowCrc cs b) (BitVec.ofNat 8 (b2n (s.rows[l]).rdi * 0x80)))) ∧
    PageEv [.tribs, .fresh] [P.TRB] s u ∧ cs.length = 16 := by
  show ∃ (u : State) (cs : List SlotChar) (b : Byte), execTribRowTransmit l s = _ ∧ _
  unfold execTribRowTransmit
  rw [if_neg (not_not_intro hl)]
  dsimp only
  have hslots : PageEv [.tribs, .fresh] [P.TRB] s (s.rowSlots l).2 := (PageEv.refl _ _ s).slotsOut (by decide) l (List.range 16)
  have hcount : (s.rowSlots l).1.length = 16 := slotsOut_length s l (List.range 16)
  refine ⟨_, _, _, rfl, (hslots.overheadOut (by decide) l _).acrossSeam (by decide) _ _, ?_⟩
  rw [acrossSeam_length]
  exact hcount

/-! ### The map (R226, R228, R229) -/

/-- The registers of the map's view. -/
def viewRegs : List Nat := [R.TRB_TBL_ADDR, R.TRB_TBL_DATA_LO, R.TRB_TBL_DATA_HI, R.TRB_TBL_STAT]

theorem viewTbl_frame {ps : List Part} (h : Frame ps viewRegs s t) : Frame ps viewRegs s t.viewTbl :=
  ((h.wr _ _ (by decide)).wr _ _ (by decide)).setFld _ _ (by decide)

theorem opTblData_frame (hview : s.bit F.TRB_TBL_ADDR_VIEW = false) (hbusy : s.bit F.TRB_TBL_STAT_BUSY = false)
    (happ : s.applying P.TRB = false) : Frame [.tmap] viewRegs s (s.opTblData r true v) := by
  have hstored : ∀ m, Frame [.tmap] viewRegs s { s with tmap := m } := fun m =>
    (Frame.refl _ _ s).upd (SameBut.upd_tmap (List.Subset.refl _) (SameBut.refl [.tmap] s)) (List.Subset.refl _) rfl
  unfold State.opTblData
  dsimp only
  rw [if_neg (by simp [hview, hbusy, happ]), if_neg (not_not_intro rfl)]
  split
  · exact viewTbl_frame ((hstored _).setFld _ _ (by decide))
  · exact viewTbl_frame (hstored _)

theorem opTblData_refuses (h : s.bit F.TRB_TBL_ADDR_VIEW = true ∨ s.bit F.TRB_TBL_STAT_BUSY = true ∨ s.applying P.TRB = true) :
    s.opTblData r true v = s.refuse r R.TRB_TBL_DATA_HI := if_pos h

theorem opTblCmd_frame (s : State) (v : Word) : Frame [.resp] [R.TRB_TBL_STAT] s (s.opTblCmd v) := by
  have hcopy : Frame [.resp] [R.TRB_TBL_STAT] s (if v.getLsbD 0 then s.setFld F.TRB_TBL_STAT_BUSY 1 else s) := by
    split
    · exact (Frame.refl _ _ s).setFld _ _ (by decide)
    · exact Frame.refl _ _ s
  unfold State.opTblCmd
  dsimp only
  split
  · split
    · exact (hcopy.setFld _ _ (by decide)).setFld _ _ (by decide)
    · exact (hcopy.setFld _ _ (by decide)).setFld _ _ (by decide)
  · exact hcopy

theorem tblDataWrite_stores (ht : Taken s r R.TRB_TBL_DATA_HI) (hview : s.bit F.TRB_TBL_ADDR_VIEW = false)
    (hbusy : s.bit F.TRB_TBL_STAT_BUSY = false) (happ : s.applying P.TRB = false) :
    ∃ t, exec (.tblDataWrite r v) s = .next t ∧ Frame [.tmap, .resp] viewRegs s t ∧
      t.resp = .done ∧ t.tmap = mapPut 0 s.tmap ((1 - s.fld F.TRB_MAP_CTL_ACTIVE) * 1024 + s.fld F.TRB_TBL_ADDR_CTX)
        ((s.rd R.TRB_TBL_DATA_LO).toNat + v.toNat % 2 ^ 18 * 2 ^ 32) := by
  obtain ⟨hresp, htmap⟩ := opTblData_stores (s := s.reply .done) (r := r) (v := v) hview hbusy happ
  exact ⟨_, congrArg Host.Outcome.next (Taken_access ht), ((Frame.refl _ _ s).reply _ (by decide)).trans
    ((opTblData_frame (s := s.reply .done) hview hbusy happ).mono (by decide) (List.Subset.refl _)), hresp, htmap⟩

theorem tblDataWrite_refuses (ht : Taken s r R.TRB_TBL_DATA_HI)
    (h : s.bit F.TRB_TBL_ADDR_VIEW = true ∨ s.bit F.TRB_TBL_STAT_BUSY = true ∨ s.applying P.TRB = true) :
    exec (.tblDataWrite r v) s = .next ((s.reply .done).refuse r R.TRB_TBL_DATA_HI) :=
  congrArg Host.Outcome.next ((Taken_access ht).trans (opTblData_refuses h))

/-- A write of TBL_CMD that is taken changes TBL_STAT and the answer alone. -/
theorem tblCmd_frame (s : State) (v : Word) : Frame [.resp] [R.TRB_TBL_STAT] s ((s.reply .done).opTblCmd v) :=
  ((Frame.refl _ _ s).reply _ (by decide)).trans (opTblCmd_frame _ v)

theorem tblCopy_starts (ht : Taken s r R.TRB_TBL_CMD) :
    ∃ t, exec (.tblCopy r v) s = .next t ∧ Frame [.resp] [R.TRB_TBL_STAT] s t ∧ t.resp = .done ∧
      t.bit F.TRB_TBL_STAT_BUSY = true := by
  obtain ⟨hresp, hbusy⟩ := opTblCmd_copies (s := s.reply .done) (v := v ||| 1) (PageControl.getLsbD_or_true v (by decide))
  exact ⟨_, congrArg Host.Outcome.next (Taken_access ht), tblCmd_frame s _, hresp, hbusy⟩

/-- A check of a shadow in conflict reports the lowest context in conflict, whether a copy starts with it or not. -/
theorem opTblCmd_reports {c : Nat} (h : v.getLsbD 1 = true)
    (hc : (List.range 1024).find? (fun c => s.mapConflict (1 - s.fld F.TRB_MAP_CTL_ACTIVE) c) = some c) :
    (s.opTblCmd v).resp = s.resp ∧ (s.opTblCmd v).bit F.TRB_TBL_STAT_CONFLICT = true ∧
      (s.opTblCmd v).fld F.TRB_TBL_STAT_CONFLICT_CTX = c := by
  have hlt : c < 2 ^ 10 := List.mem_range.1 (List.mem_of_find?_eq_some hc)
  have hset : ∀ t : State,
      ((t.setFld F.TRB_TBL_STAT_CONFLICT 1).setFld F.TRB_TBL_STAT_CONFLICT_CTX c).bit F.TRB_TBL_STAT_CONFLICT = true ∧
      ((t.setFld F.TRB_TBL_STAT_CONFLICT 1).setFld F.TRB_TBL_STAT_CONFLICT_CTX c).fld F.TRB_TBL_STAT_CONFLICT_CTX = c := fun t =>
    ⟨decide_eq_true ((State.fld_setFld_apart _ _ _ _ (by decide) (by decide)).trans (State.fld_setFld_self _ _ _ (by decide))),
      (State.fld_setFld_self _ _ _ (by decide)).trans (Nat.mod_eq_of_lt hlt)⟩
  have hactive : (s.setFld F.TRB_TBL_STAT_BUSY 1).fld F.TRB_MAP_CTL_ACTIVE = s.fld F.TRB_MAP_CTL_ACTIVE :=
    State.fld_setFld_key _ _ _ _ (by decide)
  have hcopied : (List.range 1024).find? (fun c => (s.setFld F.TRB_TBL_STAT_BUSY 1).mapConflict
      (1 - (s.setFld F.TRB_TBL_STAT_BUSY 1).fld F.TRB_MAP_CTL_ACTIVE) c) = some c := by
    rw [hactive]
    exact hc
  unfold State.opTblCmd
  dsimp only
  rw [if_pos h]
  by_cases hcopy : v.getLsbD 0 = true
  · rw [if_pos hcopy, hcopied]
    exact ⟨by simp only [State.setFld_resp], hset _⟩
  · rw [if_neg hcopy, hc]
    exact ⟨by simp only [State.setFld_resp], hset _⟩

theorem tblCheck_reports {c : Nat} (ht : Taken s r R.TRB_TBL_CMD)
    (hc : (List.range 1024).find? (fun c => s.mapConflict (1 - s.fld F.TRB_MAP_CTL_ACTIVE) c) = some c) :
    ∃ t, exec (.tblCheck r v) s = .next t ∧ Frame [.resp] [R.TRB_TBL_STAT] s t ∧ t.resp = .done ∧
      t.bit F.TRB_TBL_STAT_CONFLICT = true ∧ t.fld F.TRB_TBL_STAT_CONFLICT_CTX = c := by
  obtain ⟨hresp, hconflict, hctx⟩ :=
    opTblCmd_reports (s := s.reply .done) (v := v ||| 2) (PageControl.getLsbD_or_true v (by decide)) hc
  exact ⟨_, congrArg Host.Outcome.next (Taken_access ht), tblCmd_frame s _, hresp, hconflict, hctx⟩

theorem tblCheck_clears (ht : Taken s r R.TRB_TBL_CMD) (hnone : ∀ c < 1024, s.mapConflict (1 - s.fld F.TRB_MAP_CTL_ACTIVE) c = false) :
    ∃ t, exec (.tblCheck r v) s = .next t ∧ Frame [.resp] [R.TRB_TBL_STAT] s t ∧ t.resp = .done ∧
      t.bit F.TRB_TBL_STAT_CONFLICT = false := by
  obtain ⟨hresp, hconflict⟩ :=
    opTblCmd_checks (s := s.reply .done) (v := v ||| 2) (PageControl.getLsbD_or_true v (by decide)) hnone
  exact ⟨_, congrArg Host.Outcome.next (Taken_access ht), tblCmd_frame s _, hresp, hconflict⟩

/-! ### The frame sync (R206) -/

/-- What an edge of the frame sync does for one context. -/
def edgeOf (t : State) (c : Fin 1024) : State :=
  match t.served c with
  | some e => if entClass e = 4 ∧ entDir e ≠ 2 then t.framePeriod c e else t
  | none => t

theorem edgeOf_page (t : State) (c : Fin 1024) : PageEv [.tribs, .fresh] [P.TRB] t (edgeOf t c) := by
  unfold edgeOf
  split
  · exact .ite ((PageEv.refl _ _ t).framePeriod (by decide) (by decide) _ _) (.refl _ _ t)
  · exact .refl _ _ t

/-- Only a context of class 4 takes its period from the frame sync. -/
theorem edgeOf_idle (h : ∀ c e, s.served c = some e → entClass e ≠ 4) (c : Fin 1024) : edgeOf s c = s := by
  unfold edgeOf
  split
  · next e he => exact if_neg (fun hc => h c e he hc.1)
  · rfl

theorem frameSyncEdge_serves (s : State) :
    ∃ u, exec .frameSyncEdge s = .next (if s.bit F.TCL_OUT_CTL_FS_EN = true ∧ s.squelched = false ∧ s.domOn 32 = true then
      u.emit .frameSync else u) ∧ PageEv [.tribs, .fresh] [P.TRB] s u ∧ ((∀ c e, s.served c = some e → entClass e ≠ 4) → u = s) := by
  have hexec : exec .frameSyncEdge s = .next (if s.bit F.TCL_OUT_CTL_FS_EN = true ∧ ¬ s.squelched = true ∧ s.domOn 32 = true then
      ((List.finRange 1024).foldl edgeOf s).emit .frameSync else (List.finRange 1024).foldl edgeOf s) := rfl
  simp only [Bool.not_eq_true] at hexec
  exact ⟨_, hexec, .foldl edgeOf_page _ s, fun h => List.foldl_fixed' (edgeOf_idle h) _⟩

/-- Settles O26: the rows, the map and the frame sync by the lemma of each outcome. -/
theorem tributaryRows : Obligations.TributaryRows := by
  unfold Obligations.TributaryRows
  exact ⟨fun _ _ _ hw hl hst hm => (laneRowCheck_checks hw hl).trans (congrArg Host.Outcome.next (checkRow_begins hst hm)),
    fun _ _ _ hw hl hst hm => (laneRowCheck_checks hw hl).trans (congrArg Host.Outcome.next (checkRow_fallsBack hst hm)),
    fun _ _ _ hw hl hst hrow hm =>
      ⟨_, (laneRowCheck_checks hw hl).trans (congrArg Host.Outcome.next (checkRow_syncs hst hrow hm)), rfl⟩,
    fun _ _ _ hw hl hst hbad hrun _ =>
      ⟨_, (laneRowCheck_checks hw hl).trans (congrArg Host.Outcome.next (checkRow_loses hst hbad hrun)), rfl⟩,
    fun _ _ _ hs hdir hon hin => ⟨_, rfl, hairpinByte_moves rfl hs hdir hon hin⟩,
    fun _ _ hl => tribRowTransmit_sends hl,
    fun _ _ _ ht hview hbusy happ => tblDataWrite_stores ht hview hbusy happ,
    fun _ _ _ ht h => tblDataWrite_refuses ht h,
    fun _ _ _ ht => tblCopy_starts ht,
    fun _ _ _ _ ht hc => tblCheck_reports ht hc,
    fun _ _ _ ht hnone => tblCheck_clears ht hnone,
    frameSyncEdge_serves⟩

end Sys2Proof.Proofs.TributaryRows
end

section
/-! PROOF. Control messages (O27): one lemma for each way in which a message of a slot is judged, one for each answer (R236-R238, R244),
then one line for each type. -/

namespace Sys2Proof.Proofs.ControlMessages

open Sys2Proof Sys2Proof.Machine

variable {s : State} {h : MsgHdr} {type : Nat} {accepts : List TermSt} {mine bad : Bool} {body : List Byte} {act : State → State}

/-! ### A message acted on is recorded (R240) -/

/-- The record of a message acted on: the last of its TYPE and PARAM. -/
def recorded (s : State) (h : MsgHdr) (type : Nat) (a : Act) : Act :=
  { a with seqs := ⟨type, h.param, h.seq, s.clock.mono, if type = 0x0D then none else some 0⟩ ::
    a.seqs.filter (fun x => !(decide (x.type = type) && decide (x.param = h.param))) }

/-- A message counted, with its place in MSG_LAST and its record. -/
def counted (s : State) (h : MsgHdr) (type : Nat) : State :=
  ((s.bump R.ACT_CNT_MSG_OK).wr R.ACT_MSG_LAST
    (BitVec.ofNat 32 (type + h.seq.toNat * 2 ^ 8 + h.chan.val * 2 ^ 16 + h.slot.val * 2 ^ 18))).setAct (recorded s h type)

/-- Word `n` of the message goes into the capture. -/
def captureWord (s : State) (h : MsgHdr) (t : State) (n : Nat) : State :=
  t.wr (R.ACT_CAP n) (BitVec.ofNat 32 (ofBytesBE (((s.slotBytes h).drop (4 * n)).take 4)))

theorem acted_eq (s : State) (h : MsgHdr) (type : Nat) : s.acted h type =
    if (counted s h type).fld F.ACT_CAP_SEL_TYPE = type then (List.range 12).foldl (captureWord s h) (counted s h type)
    else counted s h type := rfl

/-- The capture changes words of CAP0-CAP11 alone. -/
theorem capture_frame (s : State) (h : MsgHdr) (ns : List Nat) (hn : ns ⊆ List.range 12) (t : State) :
    FrameEv [] ((List.range 12).map R.ACT_CAP) t (ns.foldl (captureWord s h) t) := by
  induction ns generalizing t with
  | nil => exact .refl _ _ t
  | cons n ns ih =>
    obtain ⟨hn, hns⟩ := List.cons_subset.1 hn
    exact ((FrameEv.refl _ _ t).wr _ _ (List.mem_map_of_mem hn)).trans (ih hns _)

theorem counted_page (s : State) (h : MsgHdr) (type : Nat) : PageEv [.act] [P.ACT] s (counted s h type) :=
  (((PageEv.refl _ _ s).bump _ (by decide)).wr _ _ (by decide)).setAct _ (by decide)

theorem captured_frame (s : State) (h : MsgHdr) (type : Nat) :
    FrameEv [] ((List.range 12).map R.ACT_CAP) (counted s h type) (s.acted h type) := by
  rw [acted_eq]
  exact .ite (capture_frame s h _ (List.Subset.refl _) _) (.refl _ _ _)

theorem acted_page (s : State) (h : MsgHdr) (type : Nat) : PageEv [.act] [P.ACT] s (s.acted h type) :=
  (counted_page s h type).trans (((captured_frame s h type).page (by decide)).mono (by decide) (List.Subset.refl _))

theorem acted_counts (s : State) (h : MsgHdr) (type : Nat) : (s.acted h type).rd R.ACT_CNT_MSG_OK = s.rd R.ACT_CNT_MSG_OK + 1 := by
  rw [(captured_frame s h type).2 _ (by decide) (by decide), counted, State.setAct_rd, State.rd_wr_ne _ _ (by decide), State.rd_bump_self]

theorem counted_act (s : State) (h : MsgHdr) (type : Nat) : (counted s h type).act = recorded s h type s.act := by
  rw [counted, State.setAct_act, State.wr_act, State.bump_act]

theorem acted_act (s : State) (h : MsgHdr) (type : Nat) : (s.acted h type).act = recorded s h type s.act := by
  rw [← counted_act]
  exact (captured_frame s h type).1 .act (by decide)

@[simp] theorem acted_st (s : State) (h : MsgHdr) (type : Nat) : (s.acted h type).act.st = s.act.st := by rw [acted_act]; rfl

@[simp] theorem acted_tid (s : State) (h : MsgHdr) (type : Nat) : (s.acted h type).act.tid = s.act.tid := by rw [acted_act]; rfl

/-! ### How a message is judged (R236-R238) -/

/-- A message in its slot, for the terminal, no repeat, in a state that accepts it and in range is acted on and answered. -/
theorem takeMsg_acts (hc : s.carries h type body = true) (hu : s.forUs h = true) (hr : s.repeatOf h type = none)
    (hm : mine = true) (ha : accepts.contains s.act.st = true) (hb : bad = false) :
    s.takeMsg h type mine accepts bad body act = (act (s.acted h type)).answer h type (if type = 0x0D then none else some 0) := by
  unfold State.takeMsg
  rw [if_neg (by simp [hc, hu, hm]), hr]
  dsimp only
  rw [if_neg (not_not_intro ha), if_neg (by simp [hb])]

theorem takeMsg_notMine (hm : mine = false) : s.takeMsg h type mine accepts bad body act = s :=
  if_pos (.inr (.inr (by simp [hm])))

theorem takeMsg_repeats {x : SeqRec} (hc : s.carries h type body = true) (hu : s.forUs h = true) (hr : s.repeatOf h type = some x)
    (hm : mine = true) :
    s.takeMsg h type mine accepts bad body act = (s.bump R.ACT_CNT_MSG_REP).answer h type x.result := by
  unfold State.takeMsg
  rw [if_neg (by simp [hc, hu, hm]), hr]

theorem takeMsg_wrongState (hc : s.carries h type body = true) (hu : s.forUs h = true) (hr : s.repeatOf h type = none)
    (hm : mine = true) (ha : accepts.contains s.act.st = false) (hn : noAck type = false) :
    s.takeMsg h type mine accepts bad body act = (s.bump R.ACT_CNT_MSG_STATE).sendAck h type 1 := by
  unfold State.takeMsg
  rw [if_neg (by simp [hc, hu, hm]), hr]
  dsimp only
  rw [if_pos (by rw [ha]; decide), if_neg (by simp [hn])]

/-! ### How a message is answered (R244) -/

theorem answer_acks (hn : noAck type = false) (n : Nat) : s.answer h type (some n) = s.sendAck h type n := by
  have ht : type ≠ 0x0F := by
    rintro rfl
    exact absurd hn (by decide)
  exact (if_neg ht).trans (if_neg (by simp [hn]))

theorem answer_silent (hn : noAck type = true) (ht : type ≠ 0x0F) (x : Option Nat) : s.answer h type x = s :=
  (if_neg ht).trans (if_pos hn)

theorem answer_status (hi : s.act.tid = some h.tid) (x : Option Nat) : s.answer h 0x0F x = s.queueStatus 0 :=
  (if_pos rfl).trans (if_pos hi)

/-- The ACK of a KEY_BLOB waits for the end of its job (R329). -/
theorem answer_keyBlob (s : State) (h : MsgHdr) : s.answer h 0x0D none = s := by
  unfold State.answer
  rw [if_neg (by decide), if_neg (by decide)]

/-- A message of an acknowledged type, KEY_BLOB apart, that is acted on. -/
theorem takeMsg_acks (hc : s.carries h type body = true) (hu : s.forUs h = true) (hr : s.repeatOf h type = none)
    (hm : mine = true) (ha : accepts.contains s.act.st = true) (hb : bad = false) (hn : noAck type = false) (hk : type ≠ 0x0D) :
    s.takeMsg h type mine accepts bad body act = (act (s.acted h type)).sendAck h type 0 := by
  rw [takeMsg_acts hc hu hr hm ha hb, if_neg hk, answer_acks hn]

/-- A message of a type that has no acknowledgement, STATUS_REQ apart, that is acted on. -/
theorem takeMsg_silent (hc : s.carries h type body = true) (hu : s.forUs h = true) (hr : s.repeatOf h type = none)
    (hm : mine = true) (ha : accepts.contains s.act.st = true) (hb : bad = false) (hn : noAck type = true) (ht : type ≠ 0x0F) :
    s.takeMsg h type mine accepts bad body act = act (s.acted h type) := by
  rw [takeMsg_acts hc hu hr hm ha hb, answer_silent hn ht]

/-! ### The types (R241, R242, R257, R259, R262, R322) -/

theorem profile_taken {b : ProfileBody} (hc : s.carries h 0x01 (profileBytes b) = true) (hu : s.forUs h = true)
    (hr : s.repeatOf h 0x01 = none) (ha : notDark.contains s.act.st = true) (hb : profileOk b = true) :
    exec (.profile h b) s = .next (((s.acted h 0x01).setProfile (msgChan h) b).sendAck h 0x01 0) :=
  congrArg Host.Outcome.next (takeMsg_acks hc hu hr rfl ha (by rw [hb]; rfl) (by decide) (by decide))

/-- The values of an ANNOUNCE_WINDOW lie in their ranges. -/
theorem announce_inRange {start len : BitVec 16} (h1 : start.toNat ≤ 49999) (h2 : 0 < len.toNat) (h3 : len.toNat ≤ 50000) {begun : Bool}
    (h4 : begun = false) :
    (decide (49999 < start.toNat) || decide (len.toNat = 0) || decide (50000 < len.toNat) || begun) = false := by
  simp [h1, h3, h4, Nat.pos_iff_ne_zero.1 h2]

theorem announceWindow_taken {frame : BitVec 48} {start len : BitVec 16} {pre : BitVec 24} {chance draw : BitVec 8} {ofs : Nat}
    (hc : s.carries h 0x02 (toBytesBE 6 frame.toNat ++ toBytesBE 2 start.toNat ++ toBytesBE 2 len.toNat ++ toBytesBE 3 pre.toNat ++
      [chance]) = true) (hu : s.forUs h = true) (hr : s.repeatOf h 0x02 = none)
    (ha : s.act.st = .announcing ∨ (s.act.st = .listening ∧ s.bit F.ACT_ACT_CTL_ANN_EN = true ∧
      ((s.act.ch[msgChan h]).prof.or (s.act.ch[msgChan h]).profNext).isSome = true))
    (h1 : start.toNat ≤ 49999) (h2 : 0 < len.toNat) (h3 : len.toNat ≤ 50000) (h4 : s.begunPre (msgChan h) pre.toNat frame.toNat = false) :
    exec (.announceWindow h frame start len pre chance draw ofs) s = .next (((s.acted h 0x02).announce (msgChan h) frame.toNat start.toNat
      len.toNat pre.toNat chance.toNat draw.toNat ofs).sendAck h 0x02 0) := by
  have hbad := announce_inRange h1 h2 h3 h4
  refine congrArg Host.Outcome.next (takeMsg_acks hc hu hr ?mine ?accepted hbad (by decide) (by decide))
  case mine =>
    rcases ha with ha | ⟨-, hen, hprof⟩
    · simp [ha]
    · rw [hen, hprof]
      simp
  case accepted =>
    rcases ha with ha | ⟨ha, -, -⟩ <;> rw [ha] <;> decide

theorem assignId_taken {tid : BitVec 12} (hc : s.carries h 0x03 (toBytesBE 8 s.serial.toNat ++ toBytesBE 2 tid.toNat) = true)
    (hu : s.forUs h = true) (hr : s.repeatOf h 0x03 = none) (ha : s.act.st = .announcing) (hi : tid ≠ 0xFFF) :
    exec (.assignId h s.serial tid) s = .next (((s.acted h 0x03).takeId (msgChan h) tid).sendAck h 0x03 0) :=
  congrArg Host.Outcome.next (takeMsg_acks hc hu hr (decide_eq_true rfl) (by rw [ha]; decide) (decide_eq_false hi) (by decide) (by decide))

theorem assignId_otherSerial {serial : BitVec 64} (hs : serial ≠ s.serial) (tid : BitVec 12) :
    exec (.assignId h serial tid) s = .next s :=
  congrArg Host.Outcome.next (takeMsg_notMine (decide_eq_false hs))

theorem rangingGrant_taken {frame : BitVec 48} {start : BitVec 16} {pre : BitVec 24}
    (hc : s.carries h 0x04 (toBytesBE 6 frame.toNat ++ toBytesBE 2 start.toNat ++ toBytesBE 3 pre.toNat) = true) (hu : s.forUs h = true)
    (hr : s.repeatOf h 0x04 = none) (ha : inService.contains s.act.st = true) (h1 : start.toNat ≤ 49999)
    (h2 : s.begunPre (msgChan h) pre.toNat frame.toNat = false) :
    exec (.rangingGrant h frame start pre) s =
      .next (((s.acted h 0x04).rangeBurst (msgChan h) frame.toNat start.toNat pre.toNat).sendAck h 0x04 0) :=
  congrArg Host.Outcome.next (takeMsg_acks hc hu hr rfl ha (by simp [h1, h2]) (by decide) (by decide))

theorem setDelay_taken {eqd : BitVec 24} {frame : BitVec 48}
    (hc : s.carries h 0x05 (toBytesBE 3 eqd.toNat ++ toBytesBE 6 frame.toNat) = true) (hu : s.forUs h = true)
    (hr : s.repeatOf h 0x05 = none) (ha : inService.contains s.act.st = true) :
    exec (.setDelay h eqd frame) s = .next (((s.acted h 0x05).takeDelay (msgChan h) eqd.toNat frame.toNat).sendAck h 0x05 0) :=
  congrArg Host.Outcome.next (takeMsg_acks hc hu hr rfl ha rfl (by decide) (by decide))

theorem grant_taken {es : List GrantEntry} (hw : grantWf es = true)
    (hc : s.carries h 0x06 (es.map (fun e => toBytesBE 8 (entryNum e))).flatten = true) (hu : s.forUs h = true)
    (hr : s.repeatOf h 0x06 = none) (ha : s.act.st = .operating) (hp : h.param ≠ 0) (he : es.all entryOk = true) :
    exec (.grant h es) s = .next (es.foldl (fun (u : State) e => u.insertEntry ((h.frame.toNat + h.param.toNat) % 2 ^ 48) e)
      (s.acted h 0x06)) :=
  (if_neg (not_not_intro hw)).trans (congrArg Host.Outcome.next
    (takeMsg_silent hc hu hr rfl (by rw [ha]; decide) (by rw [he]; simpa using hp) (by decide) (by decide)))

theorem move_taken {b : MoveBody} (hc : s.carries h 0x07 (moveBytes b) = true) (hu : s.forUs h = true) (hr : s.repeatOf h 0x07 = none)
    (ha : s.act.st = .operating ∨ s.act.st = .holdover) (hb : b.mode ≠ 3) :
    exec (.move h b) s = .next (((s.acted h 0x07).takeMove b).sendAck h 0x07 0) :=
  congrArg Host.Outcome.next (takeMsg_acks hc hu hr rfl (by rcases ha with ha | ha <;> rw [ha] <;> decide) (decide_eq_false hb)
    (by decide) (by decide))

theorem deactivate_taken (hc : s.carries h 0x08 [] = true) (hu : s.forUs h = true) (hr : s.repeatOf h 0x08 = none)
    (ha : inService.contains s.act.st = true) :
    exec (.deactivate h) s =
      .next ((((((s.acted h 0x08).dropId).unrangeAll).go .listening).fire P.ACT E.ACT_DEACTIVATED).sendAck h 0x08 0) :=
  congrArg Host.Outcome.next (takeMsg_acks hc hu hr rfl ha rfl (by decide) (by decide))

/-- SILENCE and EMERGENCY_STOP are accepted in every state. -/
theorem anyState_accepted (st : TermSt) : (TermSt.dark :: notDark).contains st = true := by cases st <;> decide

theorem silence_taken {b : SilBody} (hc : s.carries h 0x09 (silBytes b) = true) (hu : s.forUs h = true) (hm : s.serialOk b = true)
    (hr : s.repeatOf h 0x09 = none) :
    exec (.silence h b) s = .next (if s.act.st = .silenced then s.acted h 0x09 else (s.acted h 0x09).silenceNow b.reason false) := by
  refine congrArg Host.Outcome.next
    ((takeMsg_silent hc hu hr hm (anyState_accepted _) rfl (by decide) (by decide)).trans ?_)
  rw [acted_st]

theorem emergencyStop_taken {b : SilBody} (hc : s.carries h 0x0A (silBytes b) = true) (hu : s.forUs h = true) (hm : s.serialOk b = true)
    (hr : s.repeatOf h 0x0A = none) :
    exec (.emergencyStop h b) s = .next ((s.acted h 0x0A).silenceNow b.reason true) :=
  congrArg Host.Outcome.next (takeMsg_silent hc hu hr hm (anyState_accepted _) rfl (by decide) (by decide))

theorem release_taken {b : SilBody} (hc : s.carries h 0x0B (silBytes b) = true) (hu : s.forUs h = true) (hm : s.serialOk b = true)
    (hr : s.repeatOf h 0x0B = none) (ha : s.act.st = .silenced) :
    exec (.release h b) s = .next (((s.acted h 0x0B).releaseNow b.resume).sendAck h 0x0B 0) :=
  congrArg Host.Outcome.next (takeMsg_acks hc hu hr hm (by rw [ha]; decide) rfl (by decide) (by decide))

theorem timeOfDay_taken {frame sec : BitVec 48} {ns : BitVec 32}
    (hc : s.carries h 0x0C (toBytesBE 6 frame.toNat ++ toBytesBE 6 sec.toNat ++ toBytesBE 4 ns.toNat) = true) (hu : s.forUs h = true)
    (hr : s.repeatOf h 0x0C = none) (ha : notDark.contains s.act.st = true) (hn : ns.toNat < 1000000000) :
    exec (.timeOfDay h frame sec ns) s =
      .next (((s.acted h 0x0C).todSample (msgChan h) h.frame.toNat frame.toNat sec.toNat ns.toNat).sendAck h 0x0C 0) :=
  congrArg Host.Outcome.next (takeMsg_acks hc hu hr rfl ha (decide_eq_false (by omega)) (by decide) (by decide))

theorem keyBlob_taken {bytes : List Byte} (hl : bytes.length = 40) (hc : s.carries h 0x0D bytes = true) (hu : s.forUs h = true)
    (hr : s.repeatOf h 0x0D = none) (ha : inService.contains s.act.st = true) :
    exec (.keyBlob h bytes) s = .next ((s.acted h 0x0D).queueJob ⟨.link (msgPair h) (h.param.getLsbD 2), bytes, some h⟩) :=
  (if_neg (not_not_intro hl)).trans (congrArg Host.Outcome.next
    ((takeMsg_acts hc hu hr rfl ha rfl).trans (answer_keyBlob _ h)))

/-- No frame of the pair's direction that a KEY_SWITCH names has begun. -/
theorem keySwitch_inRange {frame : BitVec 48} (hf : ∀ k, s.pairFrame (msgPair h) = some k → frameGe k frame.toNat = false) :
    (match s.pairFrame (msgPair h) with | some k => frameGe k frame.toNat | none => false) = false := by
  split
  · next k hk => exact hf k hk
  · rfl

theorem keySwitch_localRoll {frame : BitVec 48} (hc : s.carries h 0x0E (toBytesBE 6 frame.toNat) = true) (hu : s.forUs h = true)
    (hr : s.repeatOf h 0x0E = none) (ha : inService.contains s.act.st = true)
    (hf : ∀ k, s.pairFrame (msgPair h) = some k → frameGe k frame.toNat = false)
    (hl : natBit (s.fld F.LCK_LCK_CTL_LOCAL_ROLL) (msgChan h).val = true) : exec (.keySwitch h frame) s = .next (s.sendAck h 0x0E 1) :=
  if_pos ⟨hl, hc, hu, by rw [hr]; rfl, ha, keySwitch_inRange hf⟩

theorem keySwitch_taken {frame : BitVec 48} (hc : s.carries h 0x0E (toBytesBE 6 frame.toNat) = true) (hu : s.forUs h = true)
    (hr : s.repeatOf h 0x0E = none) (ha : inService.contains s.act.st = true)
    (hf : ∀ k, s.pairFrame (msgPair h) = some k → frameGe k frame.toNat = false)
    (hl : natBit (s.fld F.LCK_LCK_CTL_LOCAL_ROLL) (msgChan h).val = false) :
    exec (.keySwitch h frame) s = .next (((s.acted h 0x0E).orderRoll (msgPair h) ⟨h.param.getLsbD 2, frame.toNat, false⟩).sendAck h 0x0E 0) :=
  (if_neg (fun hroll => absurd hroll.1 (by simp [hl]))).trans (congrArg Host.Outcome.next
    (takeMsg_acks hc hu hr rfl ha (keySwitch_inRange hf) (by decide) (by decide)))

theorem statusReq_taken (hc : s.carries h 0x0F [] = true) (hu : s.forUs h = true) (hr : s.repeatOf h 0x0F = none)
    (ha : inService.contains s.act.st = true) (hi : s.act.tid = some h.tid) :
    exec (.statusReq h) s = .next ((s.acted h 0x0F).queueStatus 0) :=
  congrArg Host.Outcome.next ((takeMsg_acts hc hu hr rfl ha rfl).trans (answer_status ((acted_tid s h 0x0F).trans hi) _))

/-! ### Repeats, refusals and rejects (R236-R238) -/

theorem deactivate_repeated {x : SeqRec} (hc : s.carries h 0x08 [] = true) (hu : s.forUs h = true) (hr : s.repeatOf h 0x08 = some x)
    (hx : x.result = some 0) : exec (.deactivate h) s = .next ((s.bump R.ACT_CNT_MSG_REP).sendAck h 0x08 0) := by
  refine congrArg Host.Outcome.next ((takeMsg_repeats hc hu hr rfl).trans ?_)
  rw [hx]
  exact answer_acks (by decide) 0

theorem deactivate_refused (hc : s.carries h 0x08 [] = true) (hu : s.forUs h = true) (hr : s.repeatOf h 0x08 = none)
    (ha : inService.contains s.act.st = false) : exec (.deactivate h) s = .next ((s.bump R.ACT_CNT_MSG_STATE).sendAck h 0x08 1) :=
  congrArg Host.Outcome.next (takeMsg_wrongState hc hu hr rfl ha (by decide))

/-- A message of a marked slot that fails MCRC is counted and raised. -/
theorem reject_crc (hs : s.inSlot h = true) (hg : mcrcGood (s.slotBytes h) = false) (type : BitVec 8) :
    exec (.controlMessageReject h type true) s = .next (s.msgErr R.ACT_CNT_MSG_CRC) :=
  congrArg Host.Outcome.next ((if_neg (by simp [hs, hg])).trans (if_pos rfl))

theorem msgErr_frame (s : State) (k : Nat) : FrameEv [] [k] s (s.msgErr k) :=
  ((FrameEv.refl _ _ s).bump k (List.mem_singleton_self k)).andFire _ _

theorem msgErr_counts {k : Nat} (hk : eventReg k = false) : (s.msgErr k).rd k = s.rd k + 1 :=
  (State.fire_rd _ _ _ hk).trans (State.rd_bump_self _ _)

theorem msgErr_raised (hd : s.domOn 9 = true) (k : Nat) : Raised (s.msgErr k) P.ACT E.ACT_MSG_ERR :=
  State.fire_raised ((State.bump_domOn s k 9).trans hd) (by decide)

/-- A message that passes MCRC, with a bad type. -/
theorem reject_unknown {type : BitVec 8} (hc : s.carries h type.toNat [] = true) (hu : s.forUs h = true)
    (ht : type = 0 ∨ 0x10 ≤ type.toNat) :
    exec (.controlMessageReject h type false) s = .next ((s.msgErr R.ACT_CNT_MSG_UNK).sendAck h type.toNat 2) := by
  have hparts := hc
  simp only [State.carries, Bool.and_eq_true] at hparts
  obtain ⟨⟨⟨hslot, hcrc⟩, -⟩, -⟩ := hparts
  have hunknown : ¬ (1 ≤ type.toNat ∧ type.toNat ≤ 0x0F) := by
    rcases ht with rfl | ht
    · decide
    · omega
  exact congrArg Host.Outcome.next ((if_neg (by simp [hslot, hcrc])).trans ((if_neg (by decide)).trans
    ((if_neg (by simp [hc, hu])).trans (if_neg hunknown))))

theorem bump_frame (s : State) (k : Nat) : Frame [] [k] s (s.bump k) := (Frame.refl _ _ s).bump k (List.mem_singleton_self k)

/-- Settles O27: each type by its lemma, and the answers of R238 by theirs. -/
theorem controlMessages : Obligations.ControlMessages := by
  unfold Obligations.ControlMessages
  exact ⟨fun h type s => ⟨acted_page s h type, acted_counts s h type⟩,
    fun _ _ _ hc hu hr ha hb => profile_taken hc hu hr ha hb,
    fun _ _ _ _ _ _ _ _ _ hc hu hr ha h1 h2 h3 h4 => announceWindow_taken hc hu hr ha h1 h2 h3 h4,
    fun _ _ _ hc hu hr ha hi => assignId_taken hc hu hr ha hi,
    fun _ _ tid _ hs => assignId_otherSerial hs tid,
    fun _ _ _ _ _ hc hu hr ha h1 h2 => rangingGrant_taken hc hu hr ha h1 h2,
    fun _ _ _ _ hc hu hr ha => setDelay_taken hc hu hr ha,
    fun _ _ _ hw hc hu hr ha hp he => grant_taken hw hc hu hr ha hp he,
    fun _ _ _ hc hu hr ha hb => move_taken hc hu hr ha hb,
    fun _ _ hc hu hr ha => deactivate_taken hc hu hr ha,
    fun _ _ _ hu hm => ⟨fun hc hr => silence_taken hc hu hm hr, fun hc hr => emergencyStop_taken hc hu hm hr,
      fun hc hr ha => release_taken hc hu hm hr ha⟩,
    fun _ _ _ _ _ hc hu hr ha hn => timeOfDay_taken hc hu hr ha hn,
    fun _ _ _ hl hc hu hr ha => keyBlob_taken hl hc hu hr ha,
    fun _ _ _ hc hu hr ha hf => ⟨fun hl => keySwitch_localRoll hc hu hr ha hf hl, fun hl => keySwitch_taken hc hu hr ha hf hl⟩,
    fun _ _ hc hu hr ha hi => statusReq_taken hc hu hr ha hi,
    fun _ _ s hc hu hr hx => ⟨_, deactivate_repeated hc hu hr hx, bump_frame s _, State.rd_bump_self s _⟩,
    fun _ s hc hu hr ha => ⟨_, deactivate_refused hc hu hr ha, bump_frame s _, State.rd_bump_self s _⟩,
    fun _ type s hs hg => ⟨_, reject_crc hs hg type, msgErr_frame s _, msgErr_counts (by decide), fun hd => msgErr_raised hd _⟩,
    fun _ _ _ hc hu ht => reject_unknown hc hu ht⟩

end Sys2Proof.Proofs.ControlMessages
end

section
/-! SUPPORT. What the operations that the timers, the guard and the builder share leave of the activation record and of the builders. -/

namespace Sys2Proof.Proofs.TerminalEffects

open Sys2Proof Sys2Proof.Machine

variable {ps : List Part} {ks : List Nat} {s t u : State}

theorem setUpb_self (s : State) (c : Chan) (x : Upb) : (s.setUpb c x).upb[c] = x := Vector.getElem_set_self _

theorem txSettle_upb (s : State) (c : Chan) : (s.txSettle c).upb = s.upb := rfl

/-! ### Discards leave the activation record alone, the message queue apart (R207, R245, R275) -/

/-- The activation record is as before, the message queue apart. -/
def QueueOnly (s t : State) : Prop := t.act = { s.act with umsgs := t.act.umsgs }

theorem QueueOnly.of_eq (h : t.act = s.act) : QueueOnly s t := by rw [QueueOnly, h]

theorem QueueOnly.trans (h : QueueOnly s t) (h' : QueueOnly t u) : QueueOnly s u := by
  rw [QueueOnly] at *
  rw [h', h]

theorem QueueOnly.st (h : QueueOnly s t) : t.act.st = s.act.st := by rw [h]

theorem QueueOnly.ch (h : QueueOnly s t) : t.act.ch = s.act.ch := by rw [h]

theorem QueueOnly.foldl {α : Type} {f : State → α → State} (hf : ∀ t x, QueueOnly t (f t x)) (l : List α) (s : State) :
    QueueOnly s (l.foldl f s) := by
  induction l generalizing s with
  | nil => exact .of_eq rfl
  | cons x l ih => exact (hf s x).trans (ih _)

theorem QueueOnly.foldr {α : Type} {f : α → State → State} (hf : ∀ x t, QueueOnly t (f x t)) (l : List α) (s : State) :
    QueueOnly s (l.foldr f s) := by
  induction l with
  | nil => exact .of_eq rfl
  | cons x l ih => exact ih.trans (hf x _)

theorem requeue_queueOnly (s : State) (m : UMsg) : QueueOnly s (s.requeue m) := by
  unfold State.requeue
  split
  · rfl
  · exact .of_eq (by simp)

theorem unfix_queueOnly (s : State) (b : Burst) : QueueOnly s (s.unfix b) :=
  (QueueOnly.foldr (fun m t => requeue_queueOnly t m) b.msgs s).trans (.foldr (fun _ _ => .of_eq (by simp)) b.conts _)

@[simp] theorem restartPackets_act (s : State) (c : Chan) (cut : Bool) : (s.restartPackets c cut).act = s.act :=
  State.restartPackets_keeps c cut (List.Subset.refl _) (SameBut.refl _ s) .act (by decide)

@[simp] theorem gsmIdle_act (s : State) (c : Chan) : (s.gsmIdle c).act = s.act := by
  unfold State.gsmIdle
  split
  · exact State.switchAny_keeps _ (List.Subset.refl _) (SameBut.refl _ s) .act (by decide)
  · rfl

@[simp] theorem cutBurst_act (s : State) (c : Chan) : (s.cutBurst c).act = s.act :=
  State.cutBurst_keeps c (List.Subset.refl _) (SameBut.refl _ s) .act (by decide)

theorem dropGrants_queueOnly (s : State) (c : Chan) : QueueOnly s (s.dropGrants c) :=
  (QueueOnly.foldr (fun b t => unfix_queueOnly t b) _ (s.setUpb c _)).trans
    (.of_eq ((gsmIdle_act _ c).trans ((restartPackets_act _ c false).trans (State.bumpBy_act _ _ _))))

theorem discardGrants_queueOnly (s : State) (c : Chan) : QueueOnly s (s.discardGrants c) :=
  (dropGrants_queueOnly s c).trans (.of_eq (State.fire_act _ _ _))

theorem discardAll_queueOnly (s : State) : QueueOnly s s.discardAll :=
  (QueueOnly.foldl (fun t c => dropGrants_queueOnly t c) _ s).trans (.of_eq (State.fire_act _ _ _))

/-! ### A move of the terminal (R246) -/

@[simp] theorem timersFor_act (st : TermSt) (s : State) : (timersFor st s).act = s.act :=
  timersFor_keeps st (List.Subset.refl _) (SameBut.refl _ s) .act (by decide)

@[simp] theorem dropSpecial_act (s : State) : s.dropSpecial.act = s.act :=
  State.dropSpecial_keeps (List.Subset.refl _) (SameBut.refl _ s) .act (by decide)

theorem timersFor_frame (h : FrameEv ps ks s t) (st : TermSt) (hp : .timers ∈ ps) : FrameEv ps ks s (timersFor st t) := by
  cases st
  case announcing => exact (((h.startTimer _ hp).stopTimer _ hp).stopTimer _ hp).lossTimer hp
  case ranging => exact (((h.stopTimer _ hp).startTimer _ hp).stopTimer _ hp).lossTimer hp
  case holdover => exact (((h.stopTimer _ hp).stopTimer _ hp).startTimer _ hp).lossTimer hp
  all_goals exact (((h.stopTimer _ hp).stopTimer _ hp).stopTimer _ hp).lossTimer hp

/-- The new state is entered, before grants are discarded. -/
def entered (s : State) (st : TermSt) : State :=
  let s2 := timersFor st ((s.setAct (fun a => { a with st := st, planned := false })).fire P.ACT E.ACT_STATE_CHANGE)
  let s3 := if st = .dark ∨ st = .listening ∨ st = .silenced then
    (s2.setAct (fun a => { a with umsgs := [] })).dropSpecial else s2
  if st = .announcing then s3.setAct (fun a => { a with annCnt := 0 }) else s3

theorem go_eq (s : State) (st : TermSt) :
    s.go st = if s.act.st = st then s else if s.act.st = .operating then (entered s st).discardAll else entered s st := rfl

theorem entered_st (s : State) (st : TermSt) : (entered s st).act.st = st := by
  unfold entered
  dsimp only
  split <;> split <;> simp

theorem entered_ch (s : State) (st : TermSt) : (entered s st).act.ch = s.act.ch := by
  unfold entered
  dsimp only
  split <;> split <;> simp

theorem entered_frame (s : State) (st : TermSt) : FrameEv [.act, .timers, .upb] [] s (entered s st) := by
  have htimers := timersFor_frame (((FrameEv.refl [.act, .timers, .upb] [] s).setAct (fun a => { a with st := st, planned := false })
    (by decide)).andFire P.ACT E.ACT_STATE_CHANGE) st (by decide)
  have hempty := FrameEv.ite (c := st = .dark ∨ st = .listening ∨ st = .silenced)
    ((htimers.setAct (fun a => { a with umsgs := [] }) (by decide)).dropSpecial (by decide)) htimers
  exact .ite (hempty.setAct _ (by decide)) hempty

@[simp] theorem go_st (s : State) (st : TermSt) : (s.go st).act.st = st := by
  rw [go_eq]
  split
  · assumption
  · split
    · exact (discardAll_queueOnly _).st.trans (entered_st s st)
    · exact entered_st s st

@[simp] theorem go_ch (s : State) (st : TermSt) : (s.go st).act.ch = s.act.ch := by
  rw [go_eq]
  split
  · rfl
  · split
    · exact (discardAll_queueOnly _).ch.trans (entered_ch s st)
    · exact entered_ch s st

/-- A move that does not leave Operating discards no grant. -/
theorem go_frame (h : s.act.st ≠ .operating) (st : TermSt) : FrameEv [.act, .timers, .upb] [] s (s.go st) := by
  rw [go_eq, if_neg h]
  exact .ite (.refl _ _ s) (entered_frame s st)

/-! ### RANGED and the delays (R251, R258) -/

theorem loseRanged_ch (s : State) (c : Chan) : (s.loseRanged c).act.ch = s.act.ch.set c { s.act.ch[c] with ranged := false } := by
  unfold State.loseRanged
  split
  · exact (discardGrants_queueOnly _ c).ch
  · next h =>
    have hranged : { s.act.ch[c] with ranged := false } = s.act.ch[c] := by rw [← Bool.eq_false_iff.2 h]
    rw [hranged]
    exact (Vector.set_getElem_self _).symm

/-- A channel has lost RANGED if it is among those, or had none. -/
theorem foldl_loseRanged_ch (cs : List Chan) (s : State) (c : Chan) :
    ((cs.foldl (fun (t : State) (c : Chan) => t.loseRanged c) s).act.ch[c]).eqd = (s.act.ch[c]).eqd ∧
    (c ∈ cs ∨ (s.act.ch[c]).ranged = false → ((cs.foldl (fun (t : State) (c : Chan) => t.loseRanged c) s).act.ch[c]).ranged = false) := by
  induction cs generalizing s with
  | nil => exact ⟨rfl, fun h => h.resolve_left (by simp)⟩
  | cons d cs ih =>
    obtain ⟨heqd, hranged⟩ := ih (s.loseRanged d)
    rw [List.foldl_cons]
    rcases eq_or_ne c d with rfl | hne
    · have hc : (s.loseRanged c).act.ch[c] = { s.act.ch[c] with ranged := false } := by simp [loseRanged_ch]
      exact ⟨heqd.trans (by rw [hc]), fun _ => hranged (.inr (by rw [hc]))⟩
    · have hc : (s.loseRanged d).act.ch[c] = s.act.ch[c] := by
        simp [loseRanged_ch, Vector.getElem_set_ne, Fin.val_ne_of_ne hne.symm]
      rw [hc] at heqd hranged
      exact ⟨heqd, fun h => hranged (h.imp_left (fun hm => (List.mem_cons.1 hm).resolve_left hne))⟩

theorem loseAll_ch (s : State) (c : Chan) :
    (s.loseAll.act.ch[c]).eqd = (s.act.ch[c]).eqd ∧ (s.loseAll.act.ch[c]).ranged = false :=
  (foldl_loseRanged_ch (List.finRange 4) s c).imp_right (fun h => h (.inl (List.mem_finRange c)))

theorem enterHold_act (s : State) (planned : Bool) (ms : Nat) :
    (s.enterHold planned ms).act = { (s.go .holdover).act with planned := planned, holdMs := ms } := by
  unfold State.enterHold
  simp

/-! ### The terminal's ID (R233, R318) -/

@[simp] theorem eraseAll_act (s : State) : s.eraseAll.act = s.act :=
  State.eraseAll_keeps (List.Subset.refl _) (SameBut.refl _ s) .act (by decide)

@[simp] theorem dropId_st (s : State) : s.dropId.act.st = s.act.st := by
  unfold State.dropId
  split
  · simp
  · rfl

end Sys2Proof.Proofs.TerminalEffects
end

section
/-! PROOF. The terminal's timers, its switches and the laser guard (O28): what a move, the guard and its clearing leave, then one line for
each command. -/

namespace Sys2Proof.Proofs.TerminalTimers

open Sys2Proof Sys2Proof.Machine Sys2Proof.Proofs.TerminalEffects

variable {s : State} {r : Req} {v : Word} {c : Chan} {ps : List Part} {ks : List Nat}

/-! ### The timers (R246, R258) -/

theorem raised_of_frameEv {u : State} (h : FrameEv ps ks s u) (hp : Part.pwr ∉ evParts ++ ps) (b : Nat) (hb : b < 32) :
    s.domOn 9 = true → Raised (u.fire P.ACT b) P.ACT b :=
  fun hd => State.fire_raised ((State.domOn_of_pwr (h.1 .pwr hp) 9).trans hd) hb

theorem announceTimeout_ends (h : s.act.st = .announcing) :
    exec .announceTimeout s = .next (((s.go .listening).bump R.ACT_CNT_ANN_TO).fire P.ACT E.ACT_ANN_TIMEOUT) :=
  congrArg Host.Outcome.next (if_pos h)

theorem announceTimeout_frame (h : s.act.st = .announcing) :
    FrameEv [.act, .timers, .upb] [R.ACT_CNT_ANN_TO] s ((s.go .listening).bump R.ACT_CNT_ANN_TO) :=
  ((go_frame (by rw [h]; decide) .listening).mono (List.Subset.refl _) (List.nil_subset _)).bump _ (by decide)

theorem announceTimeout_counts (h : s.act.st = .announcing) :
    (((s.go .listening).bump R.ACT_CNT_ANN_TO).fire P.ACT E.ACT_ANN_TIMEOUT).rd R.ACT_CNT_ANN_TO = s.rd R.ACT_CNT_ANN_TO + 1 := by
  have hgo := (go_frame (s := s) (by rw [h]; decide) .listening).2 R.ACT_CNT_ANN_TO (by decide) (by decide)
  rw [State.fire_rd _ _ _ (by decide), State.rd_bump_self, hgo]

theorem rangingTimeout_ends (h : s.act.st = .ranging) :
    exec .rangingTimeout s = .next ((s.dropId.go .listening).fire P.ACT E.ACT_RANGE_TIMEOUT) :=
  congrArg Host.Outcome.next (if_pos h)

theorem rangingTimeout_frame (h : s.act.st = .ranging) : FrameEv [.act, .timers, .upb, .pairs] [] s (s.dropId.go .listening) :=
  ((FrameEv.refl _ _ s).dropId (by decide) (by decide) (by decide)).trans
    ((go_frame (by rw [dropId_st, h]; decide) .listening).mono (by decide) (List.Subset.refl _))

theorem lossTimeout_holds (h : s.act.st = .operating) (hr : s.running T.loss = true) :
    exec .lossTimeout s = .next (s.loseAll.enterHold false (s.fld F.ACT_TMR_CFG1_HOLD_MS)) :=
  congrArg Host.Outcome.next (if_pos ⟨h, hr⟩)

/-- Holdover after a loss of presence: no MOVE planned it, and each channel keeps its delay (R258). -/
theorem lossHold_act (s : State) (ms : Nat) : (s.loseAll.enterHold false ms).act.st = .holdover ∧
    (s.loseAll.enterHold false ms).act.planned = false ∧
    ∀ c : Chan, ((s.loseAll.enterHold false ms).act.ch[c]).ranged = false ∧
      ((s.loseAll.enterHold false ms).act.ch[c]).eqd = (s.act.ch[c]).eqd := by
  rw [enterHold_act]
  refine ⟨go_st _ _, rfl, fun c => ?_⟩
  dsimp only
  rw [go_ch]
  exact (loseAll_ch s c).symm

theorem holdTimeout_ends (h : s.act.st = .holdover) : exec .holdTimeout s = .next
    ((s.dropId.unrangeAll.go (if s.dropId.unrangeAll.anyEnabled then .listening else .dark)).fire P.ACT E.ACT_HOLD_EXPIRED) :=
  congrArg Host.Outcome.next (if_pos h)

theorem holdEnd_st (u : State) : ((u.go (if u.anyEnabled then .listening else .dark)).fire P.ACT E.ACT_HOLD_EXPIRED).act.st = .listening ∨
    ((u.go (if u.anyEnabled then .listening else .dark)).fire P.ACT E.ACT_HOLD_EXPIRED).act.st = .dark := by
  rw [State.fire_act, go_st]
  split
  · exact .inl rfl
  · exact .inr rfl

/-! ### The switches (R232, R246, R262) -/

theorem actDisable_clears (v : Word) : ((s.reply .done).store R.ACT_ACT_CTL (v &&& ~~~1)).bit F.ACT_ACT_CTL_EN = false := by
  have hcleared : (v &&& ~~~1).getLsbD 0 = false := by
    rw [BitVec.getLsbD_and]
    simp
  exact (State.bit_store_plain (s.reply .done) F.ACT_ACT_CTL_EN _ (by decide +kernel) rfl).trans hcleared

theorem actDisable_turnsOff (ht : Taken s r R.ACT_ACT_CTL) (hen : s.bit F.ACT_ACT_CTL_EN = true) :
    exec (.actDisable r v) s = .next (((s.reply .done).store R.ACT_ACT_CTL (v &&& ~~~1)).actOff) :=
  congrArg Host.Outcome.next ((Taken_access ht).trans
    ((if_neg (ne_true_of_eq_false (actDisable_clears v))).trans (if_pos ((State.reply_bit s .done _).trans hen))))

/-- A register of one field over the whole word takes the word written. -/
theorem rd_store_whole (s : State) (f : Fld) (v : Word) (hf : plainField f = true) (hlo : f.lo = 0) (hw : f.w = 32) :
    (s.store f.key v).rd f.key = v := by
  have hfld := State.fld_store_plain s f v hf
  simp only [State.fld, getField, hlo, hw, Nat.pow_zero, Nat.div_one] at hfld
  rw [Nat.mod_eq_of_lt (BitVec.isLt _), Nat.mod_eq_of_lt (BitVec.isLt _)] at hfld
  exact BitVec.eq_of_toNat_eq hfld

/-- The register that a write of the serial names. -/
abbrev serialReg (hi : Bool) : Nat := if hi then R.ACT_SERIAL_HI else R.ACT_SERIAL_LO

theorem serial_stored (s : State) (hi : Bool) (v : Word) : (s.store (serialReg hi) v).rd (serialReg hi) = v := by
  cases hi
  · exact rd_store_whole s F.ACT_SERIAL_LO_SERIAL v (by decide +kernel) rfl rfl
  · exact rd_store_whole s F.ACT_SERIAL_HI_SERIAL v (by decide +kernel) rfl rfl

theorem serialWrite_stores {hi : Bool} (ht : Taken s r (serialReg hi)) (h : s.act.st = .dark) :
    exec (.serialWrite r hi v) s = .next ((s.reply .done).store (serialReg hi) v) :=
  congrArg Host.Outcome.next ((Taken_access ht).trans (if_pos h))

theorem serialWrite_refused {hi : Bool} (ht : Taken s r (serialReg hi)) (h : s.act.st ≠ .dark) :
    exec (.serialWrite r hi v) s = .next ((s.reply .done).refuse r (serialReg hi)) :=
  congrArg Host.Outcome.next ((Taken_access ht).trans (if_neg h))

theorem localRel_eq (ht : Taken s r R.ACT_LOCAL_REL) (hp : Present s r) : exec (.localRel r v) s =
    .next (if s.act.st = .silenced then (s.reply .done).releaseNow false else s.reply .done) := by
  have hpresent : Present (s.reply .done) r := hp
  exact congrArg Host.Outcome.next ((Taken_access ht).trans
    ((if_pos (PageControl.getLsbD_or_true v (by decide))).trans (Present_guarded hpresent)))

/-! ### The guard trips (R264, R265) -/

/-- The registers that a cut burst writes. -/
def cutRegs (c : Chan) : List Nat := [R.UPB_CNT_WORDS_LO c.val, R.UPB_CNT_WORDS_HI c.val, R.UPB_CNT_RESTART c.val]

theorem freeVal_frame (s : State) (hp : .fresh ∈ ps) : FrameEv ps ks s s.freeVal.2 :=
  .of_same (SameBut.mono (by simpa using hp) (PairKeeps.snd (State.freeVal_keeps (List.Subset.refl _) (SameBut.refl _ s)))) rfl

/-- The packets that a restart takes back: those pulled, and with a cut those sent. -/
def takenBack (x : Upb) (cut : Bool) : List Pulled := (if cut then x.sent else []) ++ x.pulled

/-- The packets begun among them. -/
def begunOf (ps : List Pulled) : Nat := (ps.filter (fun p => decide (0 < p.sent))).length

/-- The packets of a channel have gone back and are counted; RESTART is not yet raised. -/
def restarted (s : State) (c : Chan) (cut : Bool) : State :=
  let x := s.upb[c]
  (({ s.setUpb c { x with pulled := [], sent := if cut then [] else x.sent } with
      restarts := s.restarts ++ (takenBack x cut).map (fun (p : Pulled) => (p.gs, p.pkt)) }).barPackets
    ((takenBack x cut).map (fun (p : Pulled) => p.pkt.id))).bumpBy (R.UPB_CNT_RESTART c.val) (begunOf (takenBack x cut))

theorem restartPackets_eq (s : State) (c : Chan) (cut : Bool) : s.restartPackets c cut =
    if begunOf (takenBack s.upb[c] cut) = 0 then restarted s c cut else (restarted s c cut).fire P.UPB E.UPB_RESTART := rfl

theorem restarted_frame {u : State} (h : FrameEv ps ks s u) (cut : Bool) (h1 : .upb ∈ ps) (h2 : .restarts ∈ ps)
    (hk : R.UPB_CNT_RESTART c.val ∈ ks) : FrameEv ps ks s (restarted u c cut) :=
  (((h.setUpb c _ h1).with_restarts h2).barPackets _ h1).bumpBy _ _ hk

theorem restartPackets_frame {u : State} (h : FrameEv ps ks s u) (cut : Bool) (h1 : .upb ∈ ps) (h2 : .restarts ∈ ps)
    (hk : R.UPB_CNT_RESTART c.val ∈ ks) : FrameEv ps ks s (u.restartPackets c cut) := by
  have hrestarted := restarted_frame h cut h1 h2 hk
  rw [restartPackets_eq]
  exact .ite hrestarted (hrestarted.andFire _ _)

theorem restartPackets_ends (hcur : (s.upb[c]).cur = none) (hwins : (s.upb[c]).wins = []) (cut : Bool) :
    ((s.restartPackets c cut).upb[c]).cur = none ∧ ((s.restartPackets c cut).upb[c]).wins = [] := by
  have hupb : (s.restartPackets c cut).upb = (restarted s c cut).upb := by
    rw [restartPackets_eq]
    split
    · rfl
    · exact State.fire_upb _ _ _
  rw [hupb]
  exact ⟨by simpa [restarted, State.barPackets, State.setUpb] using hcur, by simpa [restarted, State.barPackets, State.setUpb] using hwins⟩

/-- The burst in progress, of `n` words sent, has left the builder. -/
def cutOff (s : State) (c : Chan) (b : Burst) (n : Nat) : State :=
  let s2 := (s.bump64 (R.UPB_CNT_WORDS_LO c.val) (R.UPB_CNT_WORDS_HI c.val) n).emit (.levels c ((s.levelsFor c b).take (64 * n)))
  s2.setUpb c { s2.upb[c] with cur := none, wins := [] }

theorem cutOff_frame {u : State} (h : FrameEv [.act, .upb, .restarts, .txEff, .fresh, .out] (cutRegs c) s u) (b : Burst) (n : Nat) :
    FrameEv [.act, .upb, .restarts, .txEff, .fresh, .out] (cutRegs c) s (cutOff u c b n) :=
  ((h.bump64 _ _ n (by simp [cutRegs]) (by simp [cutRegs])).emit _).setUpb c _ (by decide)

theorem cutBurst_eq (s : State) (c : Chan) : s.cutBurst c = match (s.upb[c]).cur with
    | none => s.setUpb c { s.upb[c] with wins := [] }
    | some b => ((cutOff s.freeVal.2 c b (s.freeVal.1.toNat % (b.g.e.len + 1))).restartPackets c true).txSettle c := rfl

theorem cutBurst_frame {u : State} (h : FrameEv [.act, .upb, .restarts, .txEff, .fresh, .out] (cutRegs c) s u) :
    FrameEv [.act, .upb, .restarts, .txEff, .fresh, .out] (cutRegs c) s (u.cutBurst c) := by
  rw [cutBurst_eq]
  split
  · exact h.setUpb _ _ (by decide)
  · next b _ =>
    exact (restartPackets_frame (cutOff_frame (h.trans (freeVal_frame u (by decide))) b _) true (by decide) (by decide)
      (by simp [cutRegs])).txSettle _ (by decide)

theorem cutBurst_none (h : (s.upb[c]).cur = none) : s.cutBurst c = s.setUpb c { s.upb[c] with wins := [] } := by
  rw [cutBurst_eq, h]

theorem cutBurst_some {b : Burst} (h : (s.upb[c]).cur = some b) : s.cutBurst c =
    ((cutOff s.freeVal.2 c b (s.freeVal.1.toNat % (b.g.e.len + 1))).restartPackets c true).txSettle c := by
  rw [cutBurst_eq, h]

theorem cutOff_upb (s : State) (c : Chan) (b : Burst) (n : Nat) :
    ((cutOff s c b n).upb[c]).cur = none ∧ ((cutOff s c b n).upb[c]).wins = [] := by
  rw [cutOff, setUpb_self]
  exact ⟨rfl, rfl⟩

theorem cutBurst_ends (s : State) (c : Chan) : ((s.cutBurst c).upb[c]).cur = none ∧ ((s.cutBurst c).upb[c]).wins = [] := by
  cases h : (s.upb[c]).cur with
  | none =>
    rw [cutBurst_none h, setUpb_self]
    exact ⟨h, rfl⟩
  | some b =>
    rw [cutBurst_some h, txSettle_upb]
    obtain ⟨hcur, hwins⟩ := cutOff_upb s.freeVal.2 c b (s.freeVal.1.toNat % (b.g.e.len + 1))
    exact restartPackets_ends hcur hwins true

/-- The trip has set its latch and cut the burst. -/
def tripped (s : State) (c : Chan) (fb : Bool) : State :=
  (s.setActCh c { s.act.ch[c] with trip := true, fb := (s.act.ch[c]).fb || fb }).cutBurst c

theorem tripGuard_eq (s : State) (c : Chan) (fb : Bool) : s.tripGuard c fb =
    ((((tripped s c fb).discardGrants c).bump R.ACT_CNT_GUARD).fire P.ACT E.ACT_GUARD_TRIP).queueStatus 1 := rfl

theorem tripped_frame (s : State) (c : Chan) (fb : Bool) :
    FrameEv [.act, .upb, .restarts, .txEff, .fresh, .out] (cutRegs c) s (tripped s c fb) :=
  cutBurst_frame ((FrameEv.refl _ _ s).setActCh _ _ (by decide))

theorem tripped_act (s : State) (c : Chan) (fb : Bool) : (tripped s c fb).act =
    { s.act with ch := s.act.ch.set c { s.act.ch[c] with trip := true, fb := (s.act.ch[c]).fb || fb } } := cutBurst_act _ c

theorem guardTrip_act (s : State) (c : Chan) :
    (tripped s c false).act = { s.act with ch := s.act.ch.set c { s.act.ch[c] with trip := true } } := by
  rw [tripped_act, Bool.or_false]

theorem guardFbTrip_act (s : State) (c : Chan) :
    (tripped s c true).act = { s.act with ch := s.act.ch.set c { s.act.ch[c] with trip := true, fb := true } } := by
  rw [tripped_act, Bool.or_true]

/-! ### The guard is cleared and tested (R267, R268) -/

/-- GUARD_CLR of one channel. -/
def clearGuard (v : Word) (t : State) (c : Chan) : State :=
  if v.getLsbD c.val then t.setActCh c { t.act.ch[c] with trip := false, fb := false } else t

/-- GUARD_TEST of one channel. -/
def testGuard (v : Word) (t : State) (c : Chan) : State :=
  if v.getLsbD (8 + c.val) && t.txDisable c then t.tripGuard c false else t

theorem opGuardCmd_eq (s : State) (r : Req) (v : Word) : s.opGuardCmd r v =
    if getField v 0 4 ≠ 0 ∧ s.act.st = .silenced then s.refuse r R.ACT_GUARD_CMD
    else (List.finRange 4).foldl (testGuard v) ((List.finRange 4).foldl (clearGuard v) s) := rfl

theorem getLsbD_of_getField_zero {lo n i : Nat} (h : getField v lo n = 0) (hi : i < n) : v.getLsbD (lo + i) = false := by
  have hbit := getField_testBit v lo n i
  rwa [h, Nat.zero_testBit, decide_eq_true hi, Bool.true_and, eq_comm] at hbit

theorem foldl_testGuard_none (h : getField v 8 4 = 0) (s : State) : (List.finRange 4).foldl (testGuard v) s = s :=
  List.foldl_fixed' (fun c => if_neg (by rw [getLsbD_of_getField_zero h c.isLt]; simp)) _

theorem foldl_clearGuard_none (h : getField v 0 4 = 0) (s : State) : (List.finRange 4).foldl (clearGuard v) s = s :=
  List.foldl_fixed' (fun c => if_neg (ne_true_of_eq_false (by simpa using getLsbD_of_getField_zero h c.isLt))) _

theorem clearGuard_frame (s : State) (c : Chan) : Frame [.act] [] s (clearGuard v s c) := by
  unfold clearGuard
  split
  · exact (Frame.refl _ _ s).upd (State.setActCh_keeps c _ (List.Subset.refl _) (SameBut.refl _ s)) (List.Subset.refl _) rfl
  · exact .refl _ _ s

theorem foldl_clearGuard_frame (cs : List Chan) (s : State) : Frame [.act] [] s (cs.foldl (clearGuard v) s) := by
  induction cs generalizing s with
  | nil => exact .refl _ _ s
  | cons c cs ih => exact (clearGuard_frame s c).trans (ih _)

theorem clearGuard_trip (s : State) (c d : Chan) :
    ((clearGuard v s d).act.ch[c]).trip = ((s.act.ch[c]).trip && !(decide (c = d) && v.getLsbD c.val)) := by
  unfold clearGuard
  rcases eq_or_ne c d with rfl | hne
  · split
    · next h => simp [State.setActCh, State.setAct, h]
    · next h => simp [h]
  · split
    · simp [State.setActCh, State.setAct, Vector.getElem_set_ne, Fin.val_ne_of_ne hne.symm, hne]
    · simp [hne]

theorem foldl_clearGuard_trip (cs : List Chan) (s : State) (c : Chan) :
    ((cs.foldl (clearGuard v) s).act.ch[c]).trip = ((s.act.ch[c]).trip && !(decide (c ∈ cs) && v.getLsbD c.val)) := by
  induction cs generalizing s with
  | nil => simp
  | cons d cs ih =>
    rw [List.foldl_cons, ih, clearGuard_trip]
    rw [Bool.and_assoc, show decide (c ∈ d :: cs) = (decide (c = d) || decide (c ∈ cs)) by simp]
    cases decide (c = d) <;> cases decide (c ∈ cs) <;> cases v.getLsbD c.val <;> rfl

/-- The latches that GUARD_CLR names are cleared, with no GUARD_TEST besides. -/
theorem guardCmd_clears (ht : Taken s r R.ACT_GUARD_CMD) (hs : getField v 0 4 = 0 ∨ s.act.st ≠ .silenced) (h8 : getField v 8 4 = 0) :
    exec (.guardClr r v) s = .next ((List.finRange 4).foldl (clearGuard v) (s.reply .done)) := by
  have hop : (s.reply .done).opGuardCmd r v = (List.finRange 4).foldl (clearGuard v) (s.reply .done) := by
    rw [opGuardCmd_eq, if_neg (fun h => hs.elim h.1 (fun hn => hn h.2)), foldl_testGuard_none h8]
  exact congrArg Host.Outcome.next ((Taken_access ht).trans hop)

theorem cleared_frame (s : State) (v : Word) : Frame [.act, .resp] [] s ((List.finRange 4).foldl (clearGuard v) (s.reply .done)) :=
  ((Frame.refl _ _ s).reply .done (by decide)).trans ((foldl_clearGuard_frame _ _).mono (by decide) (List.Subset.refl _))

theorem cleared_resp (s : State) (v : Word) : ((List.finRange 4).foldl (clearGuard v) (s.reply .done)).resp = .done :=
  (foldl_clearGuard_frame _ (s.reply .done)).1 .resp (by decide)

theorem cleared_trip (s : State) (v : Word) (c : Chan) :
    (((List.finRange 4).foldl (clearGuard v) (s.reply .done)).act.ch[c]).trip = ((s.act.ch[c]).trip && !v.getLsbD c.val) := by
  rw [foldl_clearGuard_trip, decide_eq_true (List.mem_finRange c), Bool.true_and]
  rfl

/-- GUARD_TEST of channel `c` alone. -/
def testOne (c : Chan) : Word := BitVec.ofNat 32 (2 ^ (8 + c.val))

theorem testOne_bit : ∀ c d : Chan, (testOne c).getLsbD (8 + d.val) = decide (d = c) := by decide

theorem testOne_clears (c : Chan) : getField (testOne c) 0 4 = 0 := by
  revert c
  decide

theorem foldl_testGuard_notIn {cs : List Chan} (hc : c ∉ cs) (s : State) : cs.foldl (testGuard (testOne c)) s = s := by
  induction cs with
  | nil => rfl
  | cons d cs ih =>
    obtain ⟨hd, hcs⟩ := not_or.1 (fun h => hc (List.mem_cons.2 h))
    have htest : testGuard (testOne c) s d = s := if_neg (by rw [testOne_bit, decide_eq_false (Ne.symm hd)]; simp)
    rw [List.foldl_cons, htest, ih hcs]

theorem foldl_testGuard_one {cs : List Chan} (hn : cs.Nodup) (hc : c ∈ cs) (h : s.txDisable c = true) :
    cs.foldl (testGuard (testOne c)) s = s.tripGuard c false := by
  induction cs with
  | nil => exact absurd hc (by simp)
  | cons d cs ih =>
    obtain ⟨hd, hcs⟩ := List.nodup_cons.1 hn
    rw [List.foldl_cons]
    rcases List.mem_cons.1 hc with rfl | hm
    · rw [foldl_testGuard_notIn hd]
      exact if_pos (by rw [testOne_bit, h]; simp)
    · have htest : testGuard (testOne c) s d = s :=
        if_neg (by rw [testOne_bit, decide_eq_false (ne_of_mem_of_not_mem hm hd).symm]; simp)
      rw [htest, ih hcs hm]

theorem guardTest_trips (ht : Taken s r R.ACT_GUARD_CMD) (h : s.txDisable c = true) :
    exec (.guardTest r (testOne c)) s = .next ((s.reply .done).tripGuard c false) := by
  have hdis : (s.reply .done).txDisable c = true := h
  have hop : (s.reply .done).opGuardCmd r (testOne c) = (s.reply .done).tripGuard c false := by
    rw [opGuardCmd_eq, if_neg (fun hne => hne.1 (testOne_clears c)), foldl_clearGuard_none (testOne_clears c),
      foldl_testGuard_one (List.nodup_finRange 4) (List.mem_finRange c) hdis]
  exact congrArg Host.Outcome.next ((Taken_access ht).trans hop)

/-- Settles O28, each timer, switch and guard command by its own lemma. -/
theorem terminalTimers : Obligations.TerminalTimers := by
  unfold Obligations.TerminalTimers
  exact ⟨fun s h => ⟨_, announceTimeout_ends h, (announceTimeout_frame h).andFire _ _, (congrArg Act.st (State.fire_act _ _ _)).trans (go_st s _),
      announceTimeout_counts h, raised_of_frameEv (announceTimeout_frame h) (by decide) _ (by decide)⟩,
    fun s h => ⟨_, rangingTimeout_ends h, (rangingTimeout_frame h).andFire _ _,
      (congrArg Act.st (State.fire_act _ _ _)).trans (go_st s.dropId _),
      raised_of_frameEv (rangingTimeout_frame h) (by decide) _ (by decide)⟩,
    fun s h hr => ⟨lossTimeout_holds h hr, lossHold_act s _⟩,
    fun s h => ⟨_, holdTimeout_ends h, rfl, holdEnd_st _⟩,
    fun s => ⟨fun h => congrArg Host.Outcome.next (if_neg h), fun h => congrArg Host.Outcome.next (if_neg h),
      fun h => congrArg Host.Outcome.next (if_neg (fun ho => h ho.1)), fun h => congrArg Host.Outcome.next (if_neg h)⟩,
    fun r v s ht hen => ⟨actDisable_turnsOff ht hen, actDisable_clears v⟩,
    fun r hi v s ht => ⟨fun h => ⟨_, serialWrite_stores ht h, ((Frame.refl _ _ s).reply .done (by decide)).store _ _ (by simp),
      rfl, serial_stored _ hi v⟩, fun h => serialWrite_refused ht h⟩,
    fun r v s ht hd hp => ⟨fun h => (localRel_eq ht ⟨hd, hp⟩).trans (by rw [if_pos h]),
      fun h => (localRel_eq ht ⟨hd, hp⟩).trans (by rw [if_neg h])⟩,
    fun c s => ⟨tripped s c false, congrArg Host.Outcome.next (tripGuard_eq s c false), tripped_frame s c false,
      guardTrip_act s c, cutBurst_ends _ c⟩,
    fun c s => ⟨tripped s c true, congrArg Host.Outcome.next (tripGuard_eq s c true), tripped_frame s c true,
      guardFbTrip_act s c, cutBurst_ends _ c⟩,
    fun r v s ht hs h8 => ⟨_, guardCmd_clears ht hs h8, guardCmd_clears ht hs h8, cleared_frame s v, cleared_resp s v, cleared_trip s v⟩,
    fun r c s ht h => guardTest_trips ht h⟩

end Sys2Proof.Proofs.TerminalTimers
end

section
/-! PROOF. Upstream bursts (O29): what each step of a burst leaves in the builder of its channel, then one line for each command. -/

namespace Sys2Proof.Proofs.UpstreamBursts

open Sys2Proof Sys2Proof.Machine Sys2Proof.Proofs.TerminalEffects

variable {s t : State} {r : Req} {v : Word} {c : Chan} {g : Grant} {gs : List Grant} {p : ProfileBody} {b : Burst} {bs : List Burst}

/-! ### What leaves the builders alone -/

theorem upb_of_frameEv {ps : List Part} {ks : List Nat} (h : FrameEv ps ks s t) (hp : Part.upb ∉ evParts ++ ps) : t.upb = s.upb := h.1 .upb hp

theorem skipBurst_upb (s : State) (c : Chan) : (s.skipBurst c).upb = s.upb :=
  State.skipBurst_keeps c (List.Subset.refl _) (SameBut.refl _ s) .upb (by decide)

theorem unfix_upb (s : State) (b : Burst) : (s.unfix b).upb = s.upb :=
  State.unfix_keeps b (List.Subset.refl _) (SameBut.refl _ s) .upb (by decide)

theorem rollFrame_upb (s : State) (c : Chan) (k : Nat) : (s.rollFrame c k).upb = s.upb :=
  State.rollFrame_keeps c k (List.Subset.refl _) (SameBut.refl _ s) .upb (by decide)

theorem gsmIdle_upb (s : State) (c : Chan) : (s.gsmIdle c).upb = s.upb := by
  unfold State.gsmIdle
  split
  · exact State.switchAny_keeps _ (List.Subset.refl _) (SameBut.refl _ s) .upb (by decide)
  · rfl

theorem specialMsg_upb (s : State) (c : Chan) (k : BurstKind) : (s.specialMsg c k).2.upb = s.upb :=
  PairKeeps.snd (State.specialMsg_keeps c k (List.Subset.refl _) (SameBut.refl _ s)) .upb (by decide)

theorem numberMsgs_upb (s : State) (ms : List UMsg) : (s.numberMsgs ms).2.upb = s.upb := rfl

theorem foldl_skipBurst_upb {α : Type} (c : Chan) (xs : List α) (s : State) :
    (xs.foldl (fun (t : State) _ => t.skipBurst c) s).upb = s.upb := by
  induction xs generalizing s with
  | nil => rfl
  | cons x xs ih => exact (ih _).trans (skipBurst_upb s c)

theorem foldr_unfix_upb (bs : List Burst) (s : State) : (bs.foldr (fun b (t : State) => t.unfix b) s).upb = s.upb := by
  induction bs with
  | nil => rfl
  | cons b bs ih => exact (unfix_upb _ b).trans ih

/-! ### A frame begins (R252, R273, R288) -/

/-- Which grants the table covers stands in the deframer alone. -/
theorem covers_of_dsf (h : t.dsf = s.dsf) (c : Chan) (k : Nat) : t.covers c k = s.covers c k := by
  funext g
  unfold State.covers State.frameGoing State.frameAgo State.inFrame State.downFrame
  rw [h]

theorem dropPast_upb (s : State) (c : Chan) (k : Nat) : ((s.dropPast c k).upb[c]) =
    { s.upb[c] with gt := (s.upb[c]).gt.filter (s.covers c k), fixed := (s.upb[c]).fixed.filter (fun b => s.covers c k b.g) } := by
  unfold State.dropPast
  rw [foldl_skipBurst_upb, foldr_unfix_upb]
  exact setUpb_self _ _ _

/-- The PROFILE that waits for the frame is in effect. -/
def profiled (s : State) (c : Chan) : State :=
  match (s.act.ch[c]).profNext with
  | some p => s.setActCh c { s.act.ch[c] with prof := some p, profNext := none }
  | none => s

/-- The builder at the start of frame `k`, before grants of past frames go. -/
def begunUpb (s : State) (c : Chan) (k : Nat) : Upb :=
  let x := (profiled s c).upb[c]
  let g := (s.dsf[c]).grid
  let a := s.act.ch[c]
  { x with frame := some k, idx := 0, grid := g, eqd := a.eqd,
           busy := if x.frame.isSome then x.busy - (frameSyms + lineOffset x.grid g + a.eqd - x.eqd) else 0 }

theorem beginFrame_eq (s : State) (c : Chan) (k : Nat) : s.beginFrame c k =
    ((((profiled s c).setUpb c (begunUpb s c k)).dropPast c k).rollFrame c k).gsmIdle c := rfl

theorem profiled_keeps (s : State) (c : Chan) : (profiled s c).upb = s.upb ∧ (profiled s c).dsf = s.dsf := by
  unfold profiled
  split
  · exact ⟨rfl, rfl⟩
  · exact ⟨rfl, rfl⟩

theorem beginFrame_upb (s : State) (c : Chan) (k : Nat) : ((s.beginFrame c k).upb[c]).frame = some k ∧ ((s.beginFrame c k).upb[c]).idx = 0 ∧
    ((s.beginFrame c k).upb[c]).gt = (s.upb[c]).gt.filter (s.covers c k) ∧
    ((s.beginFrame c k).upb[c]).fixed = (s.upb[c]).fixed.filter (fun b => s.covers c k b.g) := by
  obtain ⟨hupb, hdsf⟩ := profiled_keeps s c
  have hcovers : ((profiled s c).setUpb c (begunUpb s c k)).covers c k = s.covers c k := covers_of_dsf hdsf c k
  rw [beginFrame_eq, gsmIdle_upb, rollFrame_upb, dropPast_upb, hcovers, setUpb_self]
  refine ⟨rfl, rfl, ?_, ?_⟩
  · exact congrArg (fun u : Vector Upb 4 => (u[c]).gt.filter (s.covers c k)) hupb
  · exact congrArg (fun u : Vector Upb 4 => (u[c]).fixed.filter (fun b => s.covers c k b.g)) hupb

theorem upstreamFrameStart_begins {k : Nat} (hn : s.ncoOn c = true) (hd : (s.act.ch[c]).eqdNext = none)
    (hk : s.frameAt c (s.act.ch[c]).eqd = some k) : exec (.upstreamFrameStart c) s = .next (s.beginFrame c k) := by
  have hnext : s.nextFrame c = s.beginFrame c k := by
    unfold State.nextFrame
    dsimp only
    rw [hk]
    dsimp only
    rw [hd]
  exact congrArg Host.Outcome.next ((if_pos hn).trans hnext)

/-- Without the NCO, or without a downstream frame, no upstream frame begins. -/
theorem upstreamFrameStart_idle (h : s.ncoOn c = false ∨ s.downFrame c = none) : exec (.upstreamFrameStart c) s = .next s := by
  refine congrArg Host.Outcome.next ?_
  split
  · next hn =>
    have hdown := h.resolve_left (by rw [hn]; decide)
    unfold State.nextFrame State.frameAt State.frameAgo
    dsimp only
    rw [hdown]
  · rfl

/-! ### The content of a burst is fixed (R254, R255, R276, R293) -/

/-- A burst of R254 takes the long preamble and carries no packets. -/
def specialBurst (s : State) (g : Grant) (p : ProfileBody) : Burst :=
  { g := { g with e := { g.e with len := 4 * p.preWords.toNat + 8 } },
    h := ⟨if g.kind = .announce then 0xFFF else s.ownTid, 0, g.frame, if g.kind = .announce then 1 else 2, s.log.pf, true, 0, 0⟩,
    prof := p, msgs := [], conts := [], room := 7 }

theorem fixBurst_special (hg : (s.upb[c]).gt = g :: gs) (hp : s.profileFor c g.frame = some p) (hk : g.kind ≠ .data) :
    exec (.burstFix c) s = .next ((s.setUpb c { s.upb[c] with gt := gs }).setUpb c
      { (s.setUpb c { s.upb[c] with gt := gs }).upb[c] with fixed := (s.upb[c]).fixed ++ [specialBurst s g p] }) := by
  refine congrArg Host.Outcome.next ?_
  unfold State.fixBurst
  dsimp only
  rw [hg]
  dsimp only
  rw [hp]
  exact if_pos hk

theorem setUpb_frame {ps : List Part} {ks : List Nat} (h : Frame ps ks s t) (x : Upb) (hp : .upb ∈ ps) : Frame ps ks s (t.setUpb c x) :=
  h.upd (State.setUpb_keeps c x (List.Subset.refl _) (SameBut.refl _ t)) (by simpa using hp) rfl

theorem setUpb_setUpb (s : State) (c : Chan) (x y : Upb) : ((s.setUpb c x).setUpb c y).upb = s.upb.set c y :=
  Vector.set_set ..

theorem burstFix_special (hg : (s.upb[c]).gt = g :: gs) (hp : s.profileFor c g.frame = some p) (hk : g.kind ≠ .data) :
    ∃ t b, exec (.burstFix c) s = .next t ∧ Frame [.upb] [] s t ∧
      t.upb = s.upb.set c { s.upb[c] with gt := gs, fixed := (s.upb[c]).fixed ++ [b] } ∧ b.g.frame = g.frame ∧
      b.g.e.len = 4 * p.preWords.toNat + 8 ∧ b.h.long = true ∧ b.key = none :=
  ⟨_, specialBurst s g p, fixBurst_special hg hp hk, setUpb_frame (setUpb_frame (.refl _ _ s) _ (by decide)) _ (by decide),
    by rw [setUpb_setUpb, setUpb_self], rfl, rfl, rfl, rfl⟩

/-- A burst of data that is long enough for its preamble. -/
theorem burstFix_data (hg : (s.upb[c]).gt = g :: gs) (hp : s.profileFor c g.frame = some p) (hk : g.kind = .data)
    (hl : preWords p g.e.longPre + 5 ≤ g.e.len) : exec (.burstFix c) s =
      .next (if s.pastDelay c g then (s.setUpb c { s.upb[c] with gt := gs }).skipBurst c
        else (s.setUpb c { s.upb[c] with gt := gs }).fixData c g p) := by
  refine congrArg Host.Outcome.next ?_
  unfold State.fixBurst
  dsimp only
  rw [hg]
  dsimp only
  rw [hp]
  exact (if_neg (not_not_intro hk)).trans (if_neg (Nat.not_lt.2 hl))

theorem burstFix_none (h : (s.upb[c]).gt = []) : exec (.burstFix c) s = .next s := by
  refine congrArg Host.Outcome.next ?_
  unfold State.fixBurst
  dsimp only
  rw [h]

/-! ### A burst begins (R270, R277, R284) -/

theorem burstStart_none (h : (s.upb[c]).fixed = []) : exec (.burstStart c) s = .next s := by
  refine congrArg Host.Outcome.next ?_
  unfold State.startBurst
  dsimp only
  rw [h]

/-- The first of the bursts that are fixed has left their list. -/
def unlisted (s : State) (c : Chan) (bs : List Burst) : State := (s.setUpb c { s.upb[c] with fixed := bs }).gsmIdle c

/-- The state in which the burst in progress has ended, and the messages of the next one: its own and those of R254. -/
def openMsgs (s : State) (c : Chan) (b : Burst) (bs : List Burst) : List UMsg × State :=
  let sp := ((unlisted s c bs).wordsEnd c).specialMsg c b.g.kind
  sp.2.numberMsgs (b.msgs ++ sp.1)

/-- The burst as it begins. -/
def openedBurst (s : State) (c : Chan) (b : Burst) (bs : List Burst) : Burst :=
  let b1 := { b with msgs := (openMsgs s c b bs).1, key := s.startKey c b.key }
  { b1 with stream := b1.opening c }

/-- The builder with the burst in progress. -/
def openedUpb (s : State) (c : Chan) (b : Burst) (bs : List Burst) : Upb :=
  let x := (openMsgs s c b bs).2.upb[c]
  { x with cur := some (openedBurst s c b bs), wins := x.wins ++ [b.window], busy := s.burstAt c b.g + b.g.e.len * 64 }

/-- The burst is in progress and counted; its messages and containers have not been sent. -/
def openedState (s : State) (c : Chan) (b : Burst) (bs : List Burst) : State :=
  (((openMsgs s c b bs).2.setUpb c (openedUpb s c b bs)).bump (R.UPB_CNT_BURST c.val)).emit (.burst c b.h b.g.e.start b.g.e.len)

/-- The burst has begun, its messages and containers are on their way. -/
def opened (s : State) (c : Chan) (b : Burst) (bs : List Burst) : State :=
  b.conts.foldl (fun (t : State) y => t.emit (.container c y.2))
    ((openMsgs s c b bs).1.foldl (fun (t : State) m => t.emit (.message c m)) (openedState s c b bs))

theorem startBurst_eq (hf : (s.upb[c]).fixed = b :: bs) : s.startBurst c =
    if ¬ s.mayTx c (decide (b.g.kind = .data)) then (unlisted s c bs).unfix b
    else if s.displaced c b.g ∨ (decide (b.g.kind = .data) ∧ s.pastDelay c b.g) then ((unlisted s c bs).unfix b).skipBurst c
    else opened s c b bs := by
  unfold State.startBurst
  dsimp only
  rw [hf]
  rfl

theorem burstStart_barred (hf : (s.upb[c]).fixed = b :: bs) (hm : s.mayTx c (decide (b.g.kind = .data)) = false) :
    exec (.burstStart c) s = .next ((unlisted s c bs).unfix b) :=
  congrArg Host.Outcome.next ((startBurst_eq hf).trans (if_pos (ne_true_of_eq_false hm)))

theorem burstStart_displaced (hf : (s.upb[c]).fixed = b :: bs) (hm : s.mayTx c (decide (b.g.kind = .data)) = true)
    (hd : s.displaced c b.g = true ∨ (b.g.kind = .data ∧ s.pastDelay c b.g = true)) :
    exec (.burstStart c) s = .next (((unlisted s c bs).unfix b).skipBurst c) :=
  congrArg Host.Outcome.next ((startBurst_eq hf).trans ((if_neg (not_not_intro hm)).trans
    (if_pos (hd.imp_right (And.imp_left decide_eq_true)))))

theorem burstStart_begins (hf : (s.upb[c]).fixed = b :: bs) (hm : s.mayTx c (decide (b.g.kind = .data)) = true)
    (hd : s.displaced c b.g = false) (hp : b.g.kind = .data → s.pastDelay c b.g = false) :
    exec (.burstStart c) s = .next (opened s c b bs) := by
  refine congrArg Host.Outcome.next ((startBurst_eq hf).trans ((if_neg (not_not_intro hm)).trans (if_neg ?_)))
  rintro (h | ⟨hk, h⟩)
  · exact absurd h (by rw [hd]; decide)
  · exact absurd h (by rw [hp (of_decide_eq_true hk)]; decide)

/-! ### The words of a burst end (R291) -/

theorem sentFrom_upb (s : State) (k : Pkt) : (s.sentFrom k).upb = s.upb :=
  State.sentFrom_keeps k (List.Subset.refl _) (SameBut.refl _ s) .upb (by decide)

theorem releasePacket_upb (s : State) (c : Chan) :
    (s.releasePacket c).upb = s.upb.set c { s.upb[c] with sent := (s.upb[c]).sent.tail } := by
  unfold State.releasePacket
  dsimp only
  cases h : (s.upb[c]).sent with
  | nil =>
    dsimp only
    rw [show { s.upb[c] with sent := [].tail } = s.upb[c] by rw [List.tail_nil, ← h]]
    exact (Vector.set_getElem_self _).symm
  | cons p ps =>
    dsimp only
    rw [State.bump_upb, sentFrom_upb, State.setUpb_upb, List.tail_cons]

theorem releaseAll_upb (s : State) (c : Chan) (n : Nat) :
    ((s.releaseAll c n).upb[c]) = { s.upb[c] with sent := (s.upb[c]).sent.drop n } := by
  induction n generalizing s with
  | zero => rfl
  | succ n ih =>
    rw [State.releaseAll, ih, releasePacket_upb]
    simp only [Fin.getElem_fin, Vector.getElem_set_self, List.drop_tail]

/-- The words of the burst have been counted and are on the pairs. -/
def wordsSent (s : State) (c : Chan) (b : Burst) : State :=
  ((s.setUpb c { s.upb[c] with cur := none }).bump64 (R.UPB_CNT_WORDS_LO c.val) (R.UPB_CNT_WORDS_HI c.val) b.g.e.len).emit
    (.levels c (s.levelsFor c b))

theorem wordsEnd_none (h : (s.upb[c]).cur = none) : s.wordsEnd c = s := by
  unfold State.wordsEnd
  dsimp only
  rw [h]

theorem wordsEnd_some (h : (s.upb[c]).cur = some b) :
    s.wordsEnd c = ((wordsSent s c b).releaseAll c (s.upb[c]).sent.length).txSettle c := by
  unfold State.wordsEnd
  dsimp only
  rw [h]
  rfl

theorem wordsSent_frame (s : State) (c : Chan) (b : Burst) :
    FrameEv [.upb] [R.UPB_CNT_WORDS_LO c.val, R.UPB_CNT_WORDS_HI c.val] s (wordsSent s c b) :=
  (((FrameEv.refl _ _ s).setUpb c _ (by decide)).bump64 _ _ _ (by simp) (by simp)).emit _

theorem wordsSent_upb (s : State) (c : Chan) (b : Burst) : (wordsSent s c b).upb = s.upb.set c { s.upb[c] with cur := none } := rfl

/-- What the end of the words of a burst leaves in the builder: the burst and the packets sent have left it. -/
theorem wordsEnd_upb (s : State) (c : Chan) : ((s.wordsEnd c).upb[c]).cur = none ∧ ((s.wordsEnd c).upb[c]).fixed = (s.upb[c]).fixed ∧
    ((s.wordsEnd c).upb[c]).wins = (s.upb[c]).wins := by
  cases h : (s.upb[c]).cur with
  | none =>
    rw [wordsEnd_none h]
    exact ⟨h, rfl, rfl⟩
  | some b =>
    rw [wordsEnd_some h, txSettle_upb, releaseAll_upb, wordsSent_upb]
    simp only [Fin.getElem_fin, Vector.getElem_set_self, and_self]

/-! ### What a burst that has begun leaves (R277, R284) -/

theorem foldl_emit_frame {α : Type} (f : α → Out) (xs : List α) (s : State) :
    FrameEv [] [] s (xs.foldl (fun (t : State) x => t.emit (f x)) s) :=
  .foldl (fun t x => (FrameEv.refl _ _ t).emit (f x)) xs s

theorem mem_foldl_emit {α : Type} (f : α → Out) (xs : List α) (s : State) {o : Out} (h : o ∈ s.out) :
    o ∈ (xs.foldl (fun (t : State) x => t.emit (f x)) s).out := by
  induction xs generalizing s with
  | nil => exact h
  | cons x xs ih => exact ih _ (List.mem_cons_of_mem _ h)

theorem opened_frame (s : State) (c : Chan) (b : Burst) (bs : List Burst) : FrameEv [] [] (openedState s c b bs) (opened s c b bs) :=
  (foldl_emit_frame _ _ _).trans (foldl_emit_frame _ _ _)

theorem opened_out (s : State) (c : Chan) (b : Burst) (bs : List Burst) : .burst c b.h b.g.e.start b.g.e.len ∈ (opened s c b bs).out :=
  mem_foldl_emit _ _ _ (mem_foldl_emit _ _ _ List.mem_cons_self)

theorem opened_upb (s : State) (c : Chan) (b : Burst) (bs : List Burst) : (opened s c b bs).upb[c] = openedUpb s c b bs := by
  rw [upb_of_frameEv (opened_frame s c b bs) (by decide)]
  exact setUpb_self _ _ _

theorem openMsgs_upb (s : State) (c : Chan) (b : Burst) (bs : List Burst) :
    (openMsgs s c b bs).2.upb = ((unlisted s c bs).wordsEnd c).upb :=
  (numberMsgs_upb _ _).trans (specialMsg_upb _ c b.g.kind)

theorem unlisted_upb (s : State) (c : Chan) (bs : List Burst) : (unlisted s c bs).upb[c] = { s.upb[c] with fixed := bs } := by
  rw [unlisted, gsmIdle_upb, setUpb_self]

theorem openedUpb_lists (s : State) (c : Chan) (b : Burst) (bs : List Burst) : (openedUpb s c b bs).fixed = bs ∧
    (openedUpb s c b bs).wins = (s.upb[c]).wins ++ [b.window] := by
  obtain ⟨-, hfixed, hwins⟩ := wordsEnd_upb (unlisted s c bs) c
  rw [unlisted_upb] at hfixed hwins
  exact ⟨(congrArg (fun u : Vector Upb 4 => (u[c]).fixed) (openMsgs_upb s c b bs)).trans hfixed,
    congrArg (· ++ [b.window]) ((congrArg (fun u : Vector Upb 4 => (u[c]).wins) (openMsgs_upb s c b bs)).trans hwins)⟩

/-- A burst of data carries the messages that were fixed for it. -/
theorem openedBurst_msgs (hk : b.g.kind = .data) : (openedBurst s c b bs).msgs.length = b.msgs.length := by
  have hmsgs : (openedBurst s c b bs).msgs = (openMsgs s c b bs).1 := rfl
  rw [hmsgs, openMsgs, hk]
  simp [State.numberMsgs, State.specialMsg]

theorem unlisted_waiting (hg : (s.upb[c]).gt ≠ []) (bs : List Burst) : unlisted s c bs = s.setUpb c { s.upb[c] with fixed := bs } :=
  if_neg (fun h => hg ((congrArg Upb.gt (setUpb_self s c { s.upb[c] with fixed := bs })).symm.trans h.1))

theorem openMsgs_frame (s : State) (c : Chan) (b : Burst) (bs : List Burst) :
    FrameEv [.act] [R.ACT_CNT_ANN] ((unlisted s c bs).wordsEnd c) (openMsgs s c b bs).2 := by
  have hspecial : FrameEv [.act] [R.ACT_CNT_ANN] ((unlisted s c bs).wordsEnd c) (((unlisted s c bs).wordsEnd c).specialMsg c b.g.kind).2 := by
    cases b.g.kind
    case data => exact .refl _ _ _
    case announce => exact ((FrameEv.refl _ _ _).setAct _ (by decide)).bump _ (by decide)
    case rangeResp => exact .refl _ _ _
  exact hspecial.setAct _ (by decide)

/-- With a grant in the table and no burst in progress, what begins is the burst alone. -/
theorem openMsgs_fresh (hg : (s.upb[c]).gt ≠ []) (hc : (s.upb[c]).cur = none) (b : Burst) (bs : List Burst) :
    FrameEv [.upb, .act] [R.ACT_CNT_ANN] s (openMsgs s c b bs).2 := by
  have hstart : (unlisted s c bs).wordsEnd c = s.setUpb c { s.upb[c] with fixed := bs } := by
    rw [unlisted_waiting hg, wordsEnd_none]
    rw [setUpb_self]
    exact hc
  have hframe := openMsgs_frame s c b bs
  rw [hstart] at hframe
  exact ((FrameEv.refl _ _ s).setUpb c _ (by decide)).trans (hframe.mono (by decide) (List.Subset.refl _))

theorem burstCount_plain (c : Chan) : eventReg (R.UPB_CNT_BURST c.val) = false ∧ R.UPB_CNT_BURST c.val ≠ R.ACT_CNT_ANN := by
  revert c
  decide

theorem openedState_frame (hg : (s.upb[c]).gt ≠ []) (hc : (s.upb[c]).cur = none) (b : Burst) (bs : List Burst) :
    FrameEv [.upb, .act] [R.UPB_CNT_BURST c.val, R.ACT_CNT_ANN] s (openedState s c b bs) :=
  ((((openMsgs_fresh hg hc b bs).mono (List.Subset.refl _) (by simp)).setUpb c _ (by decide)).bump _ (by simp)).emit _

theorem opened_counts (hg : (s.upb[c]).gt ≠ []) (hc : (s.upb[c]).cur = none) (b : Burst) (bs : List Burst) :
    (opened s c b bs).rd (R.UPB_CNT_BURST c.val) = s.rd (R.UPB_CNT_BURST c.val) + 1 := by
  obtain ⟨hev, hne⟩ := burstCount_plain c
  rw [(opened_frame s c b bs).2 _ (by simp) hev, openedState, State.emit_rd, State.rd_bump_self, State.setUpb_rd,
    (openMsgs_fresh hg hc b bs).2 _ (by simpa using hne) hev]

/-- What has begun is the burst that was fixed, with its key and its stream as they are then. -/
theorem openedBurst_parts (s : State) (c : Chan) (b : Burst) (bs : List Burst) : (openedBurst s c b bs).g = b.g ∧
    (openedBurst s c b bs).h = b.h ∧ (openedBurst s c b bs).key = s.startKey c b.key ∧
    (openedBurst s c b bs).stream = (openedBurst s c b bs).opening c := ⟨rfl, rfl, rfl, rfl⟩

/-! ### A burst ends (R277, R291) -/

theorem burstEnd_window (h : 1 < (s.upb[c]).wins.length) :
    exec (.burstEnd c) s = .next (s.setUpb c { s.upb[c] with wins := (s.upb[c]).wins.drop 1 }) := by
  refine congrArg Host.Outcome.next ?_
  unfold State.endBurst
  rw [if_neg (Nat.not_le.2 h)]

theorem burstEnd_last (hw : (s.upb[c]).wins.length ≤ 1) :
    exec (.burstEnd c) s = .next ((s.wordsEnd c).setUpb c { (s.wordsEnd c).upb[c] with wins := [] }) := by
  have hwins : ((s.wordsEnd c).upb[c]).wins.drop 1 = [] := by
    rw [(wordsEnd_upb s c).2.2]
    exact List.drop_eq_nil_of_le hw
  refine congrArg Host.Outcome.next ?_
  unfold State.endBurst
  rw [if_pos hw]
  dsimp only
  rw [hwins]

theorem burstEnd_upb (s : State) (c : Chan) :
    (((s.wordsEnd c).setUpb c { (s.wordsEnd c).upb[c] with wins := [] }).upb[c]).cur = none ∧
    (((s.wordsEnd c).setUpb c { (s.wordsEnd c).upb[c] with wins := [] }).upb[c]).wins = [] := by
  rw [setUpb_self]
  exact ⟨(wordsEnd_upb s c).1, rfl⟩

/-! ### Fragments and packets (R287, R288, R291, R294, R450) -/

/-- An idle fragment has gone out in the burst. -/
def idled (b : Burst) : Burst := { b with room := b.room - 8, stream := b.stream ++ fragWord 0 b.h.tid 0 0 none false false }

theorem fragmentStart_idle (hc : (s.upb[c]).cur = some b) (hk : b.key = none ∨ s.bit F.LCK_LCK_CTL_EN = false) (n : Nat) :
    exec (.packetFragmentStart c n) s = .next (s.idleFragment c b false) := by
  have hkey : (if s.bit F.LCK_LCK_CTL_EN then b.key else none) = none := by
    rcases hk with hk | hk <;> rw [hk]
    · exact ite_self _
    · rfl
  refine congrArg Host.Outcome.next ?_
  unfold State.fragmentPlace
  dsimp only
  rw [hc]
  dsimp only
  rw [hkey]

theorem idleFragment_full (h : b.room < 8) (late : Bool) : s.idleFragment c b late = s := if_pos h

theorem idleFragment_goes (h : 8 ≤ b.room) :
    s.idleFragment c b false = (s.setUpb c { s.upb[c] with cur := some (idled b) }).emit (.idleFragment c) := by
  unfold State.idleFragment
  rw [if_neg (Nat.not_lt.2 h)]
  dsimp only
  rw [if_neg (by decide), Bool.or_false]
  rfl

theorem idled_frame (s : State) (c : Chan) (x : Upb) : Frame [.upb, .out] [] s ((s.setUpb c x).emit (.idleFragment c)) :=
  (setUpb_frame (.refl _ _ s) x (by decide)).upd (State.emit_keeps _ (List.Subset.refl _) (SameBut.refl _ _)) (by decide) rfl

theorem fragmentStart_sends {i : Bool} {key : List Byte} {q : Pulled} {n : Nat} (hc : (s.upb[c]).cur = some b)
    (hk : b.key = some (i, key)) (hen : s.bit F.LCK_LCK_CTL_EN = true)
    (hq : (((s.upb[c]).pulled.filter (fun p => decide (p.gs = b.g.e.gs))).find? (fun p => decide (0 < p.sent))).or
      ((s.upb[c]).pulled.filter (fun p => decide (p.gs = b.g.e.gs))).head? = some q)
    (hn : q.pkt.len - q.sent ≤ n) (h0 : 0 < q.pkt.len - q.sent) (hmax : q.pkt.len - q.sent ≤ 4079)
    (hroom : q.pkt.len - q.sent + 24 ≤ b.room) :
    exec (.packetFragmentStart c n) s = .next (s.sendFragment c b i key q (q.pkt.len - q.sent)) := by
  have hlen : min (min n (q.pkt.len - q.sent)) (min 4079 (b.room - 24)) = q.pkt.len - q.sent := by omega
  refine congrArg Host.Outcome.next ?_
  unfold State.fragmentPlace
  dsimp only
  rw [hc]
  dsimp only
  rw [if_pos hen, hk, hq]
  dsimp only
  rw [hlen, if_neg (by omega), if_neg (by omega)]

theorem fragmentStart_none (h : (s.upb[c]).cur = none) (n : Nat) : exec (.packetFragmentStart c n) s = .next s := by
  refine congrArg Host.Outcome.next ?_
  unfold State.fragmentPlace
  dsimp only
  rw [h]

theorem packetRelease_none (h : (s.upb[c]).sent = []) : exec (.packetRelease c) s = .next s := by
  refine congrArg Host.Outcome.next ?_
  unfold State.releasePacket
  dsimp only
  rw [h]

theorem packetRelease_releases {q : Pulled} {qs : List Pulled} (h : (s.upb[c]).sent = q :: qs) : exec (.packetRelease c) s =
    .next (((s.setUpb c { s.upb[c] with sent := qs }).sentFrom q.pkt).bump (R.UPB_CNT_PKT c.val)) := by
  refine congrArg Host.Outcome.next ?_
  unfold State.releasePacket
  dsimp only
  rw [h]

theorem gsSelect_selects (hp : s.pulling c = some b) (hh : s.act.st ≠ .holdover) (hs : s.seam.phase = .up) :
    exec (.gsSelect c) s = .next (s.selectFor c b) := by
  refine congrArg Host.Outcome.next ?_
  rw [hp]
  exact if_neg (fun h => h.elim hh (fun hn => hn hs))

theorem gsSelect_idle (h : s.pulling c = none ∨ s.act.st = .holdover ∨ s.seam.phase ≠ .up) : exec (.gsSelect c) s = .next s := by
  refine congrArg Host.Outcome.next ?_
  cases hp : s.pulling c with
  | none => rfl
  | some b => exact if_pos (h.resolve_left (by rw [hp]; exact Option.some_ne_none b))

/-- The builder after a selection of a restarted packet: it goes before those not begun. -/
def restartedUpb (x : Upb) (g : Nat) (k : Pkt) : Upb :=
  { x with pulled := x.pulled.filter (fun y => decide (0 < y.sent)) ++ [{ gs := g, pkt := k, sent := 0 }] ++
    x.pulled.filter (fun y => decide (y.sent = 0)) }

theorem selectFor_restarted {q : Nat × Pkt}
    (h : s.restarts.find? (fun p => decide (p.1 = b.g.e.gs) && !b.barred.contains p.2.id) = some q) :
    s.selectFor c b = { s.setUpb c (restartedUpb s.upb[c] b.g.e.gs q.2) with restarts := s.restarts.erase q } := by
  unfold State.selectFor
  dsimp only
  rw [h]
  rfl

theorem restartedPulled_frame (s : State) (c : Chan) (x : Upb) (m : List (Nat × Pkt)) :
    Frame [.upb, .restarts] [] s { s.setUpb c x with restarts := m } :=
  (setUpb_frame (.refl _ _ s) x (by decide)).upd (SameBut.upd_restarts (List.Subset.refl _) (SameBut.refl [.restarts] _)) (by decide) rfl

/-! ### The grant-stream map (R298, R299) -/

/-- The registers of the map's view. -/
def gsmRegs : List Nat := [R.UPB_GSM_ADDR, R.UPB_GSM_DATA, R.UPB_GSM_STAT]

theorem viewGsm_frame {ps : List Part} (h : Frame ps gsmRegs s t) : Frame ps gsmRegs s t.viewGsm :=
  (h.wr _ _ (by decide)).setFld _ _ (by decide)

/-- The word of an entry of the map: a grant stream and its valid bit. -/
def gsmWord (v : Word) : Nat := getField v 0 10 + getField v 15 1 * 2 ^ 15

/-- The shadow map with the entry of the queue that GSM_ADDR names. -/
def gsmStored (s : State) (v : Word) : State :=
  { s with gsm := mapPut 0 s.gsm ((1 - s.fld F.UPB_GSM_CTL_ACTIVE) * 2 ^ 13 + s.fld F.UPB_GSM_ADDR_QUEUE) (gsmWord v) }

theorem opGsmData_eq (hview : s.bit F.UPB_GSM_ADDR_VIEW = false) (hbusy : s.bit F.UPB_GSM_STAT_BUSY = false)
    (happ : s.applying P.UPB = false) : s.opGsmData r v =
      (if s.bit F.UPB_GSM_ADDR_AUTO_INC then (gsmStored s v).setFld F.UPB_GSM_ADDR_QUEUE (s.fld F.UPB_GSM_ADDR_QUEUE + 1)
        else gsmStored s v).viewGsm :=
  if_neg (by simp [hview, hbusy, happ])

theorem gsmStored_frame (s : State) (v : Word) : Frame [.gsm] gsmRegs s (gsmStored s v) :=
  (Frame.refl _ _ s).upd (SameBut.upd_gsm (List.Subset.refl _) (SameBut.refl [.gsm] s)) (List.Subset.refl _) rfl

theorem opGsmData_frame (hview : s.bit F.UPB_GSM_ADDR_VIEW = false) (hbusy : s.bit F.UPB_GSM_STAT_BUSY = false)
    (happ : s.applying P.UPB = false) : Frame [.gsm] gsmRegs s (s.opGsmData r v) := by
  rw [opGsmData_eq hview hbusy happ]
  split
  · exact viewGsm_frame ((gsmStored_frame s v).setFld _ _ (by decide))
  · exact viewGsm_frame (gsmStored_frame s v)

theorem viewGsm_gsm (s : State) : s.viewGsm.gsm = s.gsm :=
  State.viewGsm_keeps (List.Subset.refl _) (SameBut.refl _ s) .gsm (by decide)

theorem opGsmData_gsm (hview : s.bit F.UPB_GSM_ADDR_VIEW = false) (hbusy : s.bit F.UPB_GSM_STAT_BUSY = false)
    (happ : s.applying P.UPB = false) : (s.opGsmData r v).gsm = (gsmStored s v).gsm := by
  rw [opGsmData_eq hview hbusy happ, viewGsm_gsm]
  split
  · exact State.setFld_gsm _ _ _
  · rfl

/-- A write of GSM_DATA that is taken. -/
theorem gsmDataWrite_eq (ht : Taken s r R.UPB_GSM_DATA) : exec (.gsmDataWrite r v) s = .next ((s.reply .done).opGsmData r v) :=
  congrArg Host.Outcome.next (Taken_access ht)

theorem gsmDataWrite_stores (ht : Taken s r R.UPB_GSM_DATA) (hview : s.bit F.UPB_GSM_ADDR_VIEW = false)
    (hbusy : s.bit F.UPB_GSM_STAT_BUSY = false) (happ : s.applying P.UPB = false) :
    ∃ t, exec (.gsmDataWrite r v) s = .next t ∧ Frame [.gsm, .resp] gsmRegs s t ∧ t.resp = .done ∧
      t.gsm = mapPut 0 s.gsm ((1 - s.fld F.UPB_GSM_CTL_ACTIVE) * 2 ^ 13 + s.fld F.UPB_GSM_ADDR_QUEUE) (gsmWord v) := by
  have hframe := opGsmData_frame (s := s.reply .done) (r := r) (v := v) hview hbusy happ
  exact ⟨_, gsmDataWrite_eq ht, ((Frame.refl _ _ s).reply .done (by decide)).trans (hframe.mono (by decide) (List.Subset.refl _)),
    hframe.1 .resp (by decide), opGsmData_gsm (s := s.reply .done) hview hbusy happ⟩

theorem gsmDataWrite_refused (ht : Taken s r R.UPB_GSM_DATA)
    (h : s.bit F.UPB_GSM_ADDR_VIEW = true ∨ s.bit F.UPB_GSM_STAT_BUSY = true ∨ s.applying P.UPB = true) :
    exec (.gsmDataWrite r v) s = .next ((s.reply .done).refuse r R.UPB_GSM_DATA) :=
  (gsmDataWrite_eq ht).trans (congrArg Host.Outcome.next (if_pos h))

theorem gsmCopy_starts (ht : Taken s r R.UPB_GSM_CMD) :
    ∃ t, exec (.gsmCopy r v) s = .next t ∧ Frame [.resp] [R.UPB_GSM_STAT] s t ∧ t.resp = .done ∧ t.bit F.UPB_GSM_STAT_BUSY = true := by
  have hop : (s.reply .done).opGsmCmd (v ||| 1) = (s.reply .done).setFld F.UPB_GSM_STAT_BUSY 1 :=
    if_pos (PageControl.getLsbD_or_true v (by decide))
  exact ⟨_, congrArg Host.Outcome.next ((Taken_access ht).trans hop), ((Frame.refl _ _ s).reply .done (by decide)).setFld _ _ (by decide),
    State.setFld_resp _ _ _, decide_eq_true (State.fld_setFld_self _ _ _ (by decide))⟩

/-! ### The transmitter (R301, R302) -/

/-- The register that a write of the transmitter's settings names. -/
abbrev txReg (c : Chan) (fir : Bool) : Nat := if fir then R.LTX_TX_FIR c.val else R.LTX_TX_CTL c.val

theorem txConfigWrite_eq {fir : Bool} (ht : Taken s r (txReg c fir)) :
    exec (.txConfigWrite r c fir v) s = .next ((s.reply .done).opTxConfig c fir v) := congrArg Host.Outcome.next (Taken_access ht)

theorem opTxConfig_eq (s : State) (c : Chan) (fir : Bool) (v : Word) : s.opTxConfig c fir v =
    if (s.upb[c]).cur.isSome then s.store (txReg c fir) v else (s.store (txReg c fir) v).txSettle c := rfl

theorem opTxConfig_frame (s : State) (c : Chan) (fir : Bool) (v : Word) : Frame [.txEff] [txReg c fir] s (s.opTxConfig c fir v) := by
  have hstore := (Frame.refl [.txEff] [txReg c fir] s).store (txReg c fir) v (by simp)
  rw [opTxConfig_eq]
  split
  · exact hstore
  · exact hstore.upd (State.txSettle_keeps c (List.Subset.refl _) (SameBut.refl _ _)) (List.Subset.refl _) rfl

/-- The settings take effect unless a burst is in progress. -/
theorem opTxConfig_txEff (s : State) (c : Chan) (fir : Bool) (v : Word) : (s.opTxConfig c fir v).txEff =
    if (s.upb[c]).cur.isSome then s.txEff else s.txEff.set c
      ⟨(s.opTxConfig c fir v).rd (R.LTX_TX_CTL c.val), (s.opTxConfig c fir v).rd (R.LTX_TX_FIR c.val)⟩ := by
  rw [opTxConfig_eq]
  split
  · rfl
  · rfl

theorem txConfigWrite_stores {fir : Bool} (ht : Taken s r (txReg c fir)) : ∃ t, exec (.txConfigWrite r c fir v) s = .next t ∧
    Frame [.resp, .txEff] [txReg c fir] s t ∧ t.resp = .done ∧ t.txEff = (if (s.upb[c]).cur.isSome then s.txEff else
      s.txEff.set c ⟨t.rd (R.LTX_TX_CTL c.val), t.rd (R.LTX_TX_FIR c.val)⟩) := by
  have hframe := opTxConfig_frame (s.reply .done) c fir v
  exact ⟨_, txConfigWrite_eq ht, ((Frame.refl _ _ s).reply .done (by decide)).trans (hframe.mono (by decide) (List.Subset.refl _)),
    hframe.1 .resp (by decide), opTxConfig_txEff (s.reply .done) c fir v⟩

theorem txTestWrite_off (ht : Taken s r (R.LTX_TX_TEST c.val)) (h : getField v 0 2 = 0) :
    exec (.txTestWrite r c v) s = .next ((s.reply .done).store (R.LTX_TX_TEST c.val) v) :=
  congrArg Host.Outcome.next ((Taken_access ht).trans (if_pos h))

theorem txTestWrite_on (ht : Taken s r (R.LTX_TX_TEST c.val)) (h : getField v 0 2 ≠ 0)
    (hs : s.act.st = .dark ∨ s.act.st = .listening ∨ s.act.st = .silenced) :
    exec (.txTestWrite r c v) s = .next (((s.reply .done).store (R.LTX_TX_TEST c.val) v).testOn c (getField v 0 2)) := by
  refine congrArg Host.Outcome.next ((Taken_access ht).trans ((if_neg h).trans (if_neg (not_not_intro ?_))))
  rw [State.reply_act]
  rcases hs with hs | hs | hs <;> rw [hs]

theorem txTestWrite_refused (ht : Taken s r (R.LTX_TX_TEST c.val)) (h : getField v 0 2 ≠ 0)
    (hs : s.act.st ∈ [.announcing, .ranging, .operating, .holdover]) :
    exec (.txTestWrite r c v) s = .next ((s.reply .done).refuse r (R.LTX_TX_TEST c.val)) := by
  refine congrArg Host.Outcome.next ((Taken_access ht).trans ((if_neg h).trans (if_pos ?_)))
  rw [State.reply_act]
  simp only [List.mem_cons, List.not_mem_nil, or_false] at hs
  rcases hs with hs | hs | hs | hs <;> rw [hs] <;> decide

/-- Settles O29, each command by its own lemmas. -/
theorem upstreamBursts : Obligations.UpstreamBursts := by
  unfold Obligations.UpstreamBursts
  exact ⟨fun c k s hn hd hk => ⟨_, upstreamFrameStart_begins hn hd hk, rfl, beginFrame_upb s c k⟩,
    fun c s h => upstreamFrameStart_idle h,
    fun c g gs p s hg hp hk => burstFix_special hg hp hk,
    fun c g gs p s hg hp hk hl => ⟨fun h => (burstFix_data hg hp hk hl).trans (congrArg _ (if_neg (ne_true_of_eq_false h))),
      fun h => (burstFix_data hg hp hk hl).trans (congrArg _ (if_pos h))⟩,
    fun c s => ⟨burstFix_none, burstStart_none, packetRelease_none, fun n h => fragmentStart_none h n⟩,
    fun c b bs s hf hm hd hp =>
      have hparts := openedBurst_parts s c b bs
      ⟨_, openedBurst s c b bs, burstStart_begins hf hm hd hp, (congrArg Upb.fixed (opened_upb s c b bs)).trans (openedUpb_lists s c b bs).1,
        congrArg Upb.cur (opened_upb s c b bs), hparts.1, hparts.2.1, hparts.2.2.1, hparts.2.2.2, openedBurst_msgs,
        (congrArg Upb.wins (opened_upb s c b bs)).trans (openedUpb_lists s c b bs).2, opened_out s c b bs,
        fun hg hc => ⟨(openedState_frame hg hc b bs).trans ((opened_frame s c b bs).mono (by decide) (by simp)), opened_counts hg hc b bs⟩⟩,
    fun c b bs s hf => ⟨burstStart_barred hf, burstStart_displaced hf⟩,
    fun c s h => burstEnd_window h,
    fun c b s hw hc => ⟨_, wordsSent s c b, burstEnd_last hw, (burstEnd_upb s c).1, (burstEnd_upb s c).2, by rw [wordsEnd_some hc],
      wordsSent_frame s c b, wordsSent_upb s c b, rfl⟩,
    fun c b n s hc hk => ⟨fun hr => (fragmentStart_idle hc hk n).trans (congrArg _ (idleFragment_full hr false)),
      fun hr => ⟨_, (fragmentStart_idle hc hk n).trans (congrArg _ (idleFragment_goes hr)), idled_frame s c _, rfl, rfl⟩⟩,
    fun c b i key p n s hc hk hen hp hn h0 hmax hroom => fragmentStart_sends hc hk hen hp hn h0 hmax hroom,
    fun c p ps s h => packetRelease_releases h,
    fun c s => ⟨gsSelect_idle, fun b p hp hh hs hq => ⟨_, gsSelect_selects hp hh hs,
      by rw [selectFor_restarted hq]; exact restartedPulled_frame s c _ _,
      by rw [selectFor_restarted hq]⟩, fun b hp hh hs => gsSelect_selects hp hh hs⟩,
    fun r v s ht => ⟨gsmDataWrite_stores ht, gsmDataWrite_refused ht⟩,
    fun r v s ht => gsmCopy_starts ht,
    fun r c fir v s ht => txConfigWrite_stores ht,
    fun r c v s ht => ⟨txTestWrite_off ht, txTestWrite_on ht, txTestWrite_refused ht⟩⟩

end Sys2Proof.Proofs.UpstreamBursts
end

section
/-! PROOF. The key commands of O58: what a job, an erase and the lock leave, then one line for each command. -/

namespace Sys2Proof.Proofs.KeyCommands

open Sys2Proof Sys2Proof.Machine

variable {s : State} {r : Req} {v w : Word} {j : KeyJob} {js : List KeyJob} {n : Fin 8}

/-! ### Jobs (R328-R330, R336) -/

/-- A memory key has become the next key of the engine of the memory. -/
def nextKeyLoaded (s : State) (key : List Byte) : State :=
  ({ s with mxe := { s.mxe with next := some (key.take 32, key.drop 32), nextWrap := true } }).fire P.MXE E.MXE_NEXT_LOADED

theorem unwrapMemory_loads {key : List Byte} (hj : s.key.jobs = j :: js) (hf : s.key.fusing = false) (hl : s.key.locked = false)
    (he : s.key.entropy = true) (ht : j.target = .memory) (hu : j.unwrap s.wrapKey = (true, true, key)) (hr : s.mxe.running = false)
    (hk : key.take 32 ≠ key.drop 32) : exec .unwrapJobComplete s = .next ((nextKeyLoaded s key).jobEnd j 0) := by
  have hdone : s.unwrapDone j = (nextKeyLoaded s key).jobEnd j 0 := by
    unfold State.unwrapDone
    rw [hu]
    dsimp only
    rw [if_neg (ne_true_of_eq_false hl), if_neg (not_not_intro he), ht, if_neg (by decide), if_neg (by decide), if_neg (by decide)]
    exact (if_neg (ne_true_of_eq_false hr)).trans (if_neg hk)
  refine congrArg Host.Outcome.next ?_
  rw [hj]
  exact (if_neg (ne_true_of_eq_false hf)).trans hdone

theorem nextKeyLoaded_mxe (s : State) (key : List Byte) :
    (nextKeyLoaded s key).mxe = { s.mxe with next := some (key.take 32, key.drop 32), nextWrap := true } := State.fire_mxe _ _ _

/-- The pair that KEY_CMD names. -/
def cmdPair (w : Word) : Fin 8 := if w.getLsbD 6 then pairUp (Fin.ofNat 4 (getField w 4 2)) else pairDown (Fin.ofNat 4 (getField w 4 2))

/-- The target that KEY_CMD names. -/
def cmdTarget (w : Word) : KeyTarget :=
  if getField w 0 2 = 0 then .link (cmdPair w) (w.getLsbD 7) else if getField w 0 2 = 1 then .memory
  else if getField w 0 2 = 2 then .wrap else .reserved

/-- What KEY_CMD does unless a job of the owner is in the queue. -/
def cmdAct (r : Req) (w : Word) (u : State) : State :=
  if u.key.busy then u.refuse r R.KEY_KEY_CMD else u.queueJob ⟨cmdTarget w, u.blobBytes, none⟩

theorem opKeyCmd_eq (hw : w.getLsbD 8 = true) :
    s.opKeyCmd r w = if getField w 0 2 = 2 then s.guarded r R.KEY_KEY_CMD (cmdAct r w) else cmdAct r w s :=
  if_neg (not_not_intro hw)

/-- The word that a key command writes: START and its target. -/
def cmdWord (v : Word) (t : Nat) : Word := setField (v ||| 0x100) 0 2 t

theorem cmdWord_starts (v : Word) (t : Nat) : (cmdWord v t).getLsbD 8 = true := by
  rw [cmdWord, setField_getLsbD _ _ _ (by decide), if_neg (by decide)]
  exact PageControl.getLsbD_or_true v (by decide)

theorem cmdWord_target (v : Word) (t : Nat) : getField (cmdWord v t) 0 2 = t % 4 := getField_setField _ 0 2 t (by decide)

theorem cmdAct_queues (hb : s.key.busy = false) (hl : s.key.jobs.length < 8) :
    cmdAct r w s = s.setKey (fun k => { k with jobs := k.jobs ++ [⟨cmdTarget w, s.blobBytes, none⟩] }) :=
  (if_neg (ne_true_of_eq_false hb)).trans (if_pos hl)

/-- The job has been queued. -/
def jobQueued (s : State) (t : KeyTarget) : State :=
  (s.reply .done).setKey (fun k => { k with jobs := k.jobs ++ [⟨t, s.blobBytes, none⟩] })

theorem jobQueued_parts (s : State) (t : KeyTarget) :
    (jobQueued s t).resp = .done ∧ (jobQueued s t).key.jobs = s.key.jobs ++ [⟨t, s.blobBytes, none⟩] := ⟨rfl, rfl⟩

theorem keyCmdLink_queues (ht : Taken s r R.KEY_KEY_CMD) (hb : s.key.busy = false) (hl : s.key.jobs.length < 8) :
    exec (.keyCmdLink r v) s = .next (jobQueued s (.link (cmdPair (cmdWord v 0)) ((cmdWord v 0).getLsbD 7))) := by
  have htarget : cmdTarget (cmdWord v 0) = .link (cmdPair (cmdWord v 0)) ((cmdWord v 0).getLsbD 7) := if_pos (cmdWord_target v 0)
  have hop : (s.reply .done).opKeyCmd r (cmdWord v 0) = jobQueued s (cmdTarget (cmdWord v 0)) := by
    rw [opKeyCmd_eq (cmdWord_starts v 0), cmdWord_target, if_neg (by decide)]
    exact cmdAct_queues (s := s.reply .done) hb hl
  rw [← htarget]
  exact congrArg Host.Outcome.next ((Taken_access ht).trans hop)

theorem keyCmdMemory_queues (ht : Taken s r R.KEY_KEY_CMD) (hb : s.key.busy = false) (hl : s.key.jobs.length < 8) :
    exec (.keyCmdMemory r v) s = .next (jobQueued s .memory) := by
  have htarget : cmdTarget (cmdWord v 1) = .memory := by
    rw [cmdTarget, cmdWord_target, if_neg (by decide), if_pos (by decide)]
  have hop : (s.reply .done).opKeyCmd r (cmdWord v 1) = jobQueued s (cmdTarget (cmdWord v 1)) := by
    rw [opKeyCmd_eq (cmdWord_starts v 1), cmdWord_target, if_neg (by decide)]
    exact cmdAct_queues (s := s.reply .done) hb hl
  rw [← htarget]
  exact congrArg Host.Outcome.next ((Taken_access ht).trans hop)

theorem keyCmdWrap_queues (ht : Taken s r R.KEY_KEY_CMD) (hp : Present s r) (hb : s.key.busy = false) (hl : s.key.jobs.length < 8) :
    exec (.keyCmdWrap r v) s = .next (jobQueued s .wrap) := by
  have htarget : cmdTarget (cmdWord v 2) = .wrap := by
    rw [cmdTarget, cmdWord_target, if_neg (by decide), if_neg (by decide), if_pos (by decide)]
  have hpresent : Present (s.reply .done) r := hp
  have hop : (s.reply .done).opKeyCmd r (cmdWord v 2) = jobQueued s (cmdTarget (cmdWord v 2)) := by
    rw [opKeyCmd_eq (cmdWord_starts v 2), cmdWord_target, if_pos (by decide), Present_guarded hpresent]
    exact cmdAct_queues (s := s.reply .done) hb hl
  rw [← htarget]
  exact congrArg Host.Outcome.next ((Taken_access ht).trans hop)

/-- The wrapping key stands in its fuse slot and is counted. -/
def fuseInstalled (s : State) (i : Nat) : State :=
  ((s.setKey (fun k => { k with fused := k.fused ||| BitVec.ofNat 8 (2 ^ i), wraps := mapIns k.wraps i k.newKey })).bump
    R.KEY_CNT_INSTALL).fire P.KEY E.KEY_WRAP_INSTALLED

theorem fuseProgramDone_installs {i : Nat} (hj : s.key.jobs = j :: js) (hs : s.key.freeSlot = some i) (hf : s.key.fusing = true) :
    exec (.fuseProgramDone true) s = .next ((fuseInstalled s i).jobEnd j 0) := by
  refine congrArg Host.Outcome.next ?_
  rw [hj, hs]
  exact (if_neg (not_not_intro hf)).trans (if_pos rfl)

theorem fuseInstalled_fused (s : State) (i : Nat) : (fuseInstalled s i).key.fused = s.key.fused ||| BitVec.ofNat 8 (2 ^ i) := by
  rw [fuseInstalled, State.fire_key, State.bump_key]
  rfl

/-! ### Lockout, entropy, the lock (R331, R332, R334) -/

theorem lockoutEnd_ends (h : s.key.locked = true) : exec .lockoutEnd s =
    .next ((s.setKey (fun k => { k with locked := false, backoff := min 1024 (2 * k.backoff) })).stopTimer T.lockout) :=
  congrArg Host.Outcome.next (if_pos h)

theorem entropyTestFail_line (s : State) : exec (.entropyTestFail false) s =
    .next ((s.setKey (fun k => { k with entropy := false })).fire P.KEY E.KEY_ENTROPY_FAIL) := rfl

theorem entropyTestFail_entropy (s : State) :
    ((s.setKey (fun k => { k with entropy := false })).fire P.KEY E.KEY_ENTROPY_FAIL).key.entropy = false := by
  rw [State.fire_key]
  rfl

/-- UNW_LOCK has one field, which a write of 1 sets. -/
theorem unwLock_fields : fieldsAt R.KEY_UNW_LOCK = [⟨0x044, 1, 0x4, 0, 1, .w1s, 0, 0, 0⟩] := by decide +kernel

theorem unwLock_sets (s : State) : (s.store R.KEY_UNW_LOCK 1).bit F.KEY_UNW_LOCK_LOCK = true := by
  have hword : (s.store R.KEY_UNW_LOCK 1).rd R.KEY_UNW_LOCK = s.rd R.KEY_UNW_LOCK ||| 1 := by
    rw [State.rd_store_self, unwLock_fields]
    rfl
  have hbit : (s.store R.KEY_UNW_LOCK 1).bit F.KEY_UNW_LOCK_LOCK = ((s.store R.KEY_UNW_LOCK 1).rd R.KEY_UNW_LOCK).getLsbD 0 :=
    (getLsbD_eq_getField _).symm
  rw [hbit, hword]
  exact PageControl.getLsbD_or_true _ (by decide)

theorem unwLock_locks (ht : Taken s r R.KEY_UNW_LOCK) :
    ∃ t, exec (.unwLock r) s = .next t ∧ t.bit F.KEY_UNW_LOCK_LOCK = true :=
  ⟨_, congrArg Host.Outcome.next (Taken_access ht), unwLock_sets _⟩

theorem unwCfgWrite_stores (ht : Taken s r R.KEY_UNW_CFG) (h : s.bit F.KEY_UNW_LOCK_LOCK = false) :
    exec (.unwCfgWrite r v) s = .next ((s.reply .done).store R.KEY_UNW_CFG v) :=
  congrArg Host.Outcome.next ((Taken_access ht).trans
    (if_neg (fun hlock => absurd hlock.1 (ne_true_of_eq_false ((State.reply_bit s .done _).trans h)))))

/-! ### Erasing (R318) -/

/-- Both indices of a pair are empty. -/
def Erased (s : State) (n : Fin 8) : Prop := (s.pair n).k0 = {} ∧ (s.pair n).k1 = {}

theorem erasePair_pairs (s : State) (d : Fin 8) :
    (s.erasePair d).pairs = s.pairs.set d { s.pair d with k0 := {}, k1 := {}, hist := [], old := none } := by
  unfold State.erasePair
  dsimp only
  split
  · rfl
  · rfl

theorem erasePair_erases (s : State) (n : Fin 8) : Erased (s.erasePair n) n := by
  unfold Erased State.pair
  rw [erasePair_pairs]
  simp

theorem erasePair_keepsErased (h : Erased s n) (d : Fin 8) : Erased (s.erasePair d) n := by
  rcases eq_or_ne d n with rfl | hne
  · exact erasePair_erases s d
  · unfold Erased State.pair at *
    rw [erasePair_pairs]
    simpa [Vector.getElem_set_ne, Fin.val_ne_of_ne hne] using h

/-- A pass over pairs that leaves none holding a key again erases each that it erases once. -/
theorem foldl_erases {f : State → Fin 8 → State} (hkeep : ∀ t d, Erased t n → Erased (f t d) n) (hself : ∀ t, Erased (f t n) n)
    {ns : List (Fin 8)} (s : State) (hn : n ∈ ns ∨ Erased s n) : Erased (ns.foldl f s) n := by
  induction ns generalizing s with
  | nil => exact hn.resolve_left (by simp)
  | cons d ns ih =>
    refine ih (f s d) ?_
    rcases hn with hn | hn
    · rcases List.mem_cons.1 hn with rfl | hm
      · exact .inr (hself s)
      · exact .inl hm
    · exact .inr (hkeep s d hn)

theorem eraseAll_erases (s : State) (n : Fin 8) : Erased s.eraseAll n :=
  foldl_erases (fun _ d h => erasePair_keepsErased h d) (fun t => erasePair_erases t n) s (.inl (List.mem_finRange n))

/-- KEY_ERASE of one pair, if its bit is set. -/
def eraseNamed (v : Word) (t : State) (d : Fin 8) : State := if v.getLsbD d.val then t.erasePair d else t

theorem eraseNamed_erases (hv : v.getLsbD n.val = true) (s : State) : Erased ((List.finRange 8).foldl (eraseNamed v) s) n := by
  refine foldl_erases (fun t d h => ?_) (fun t => ?_) s (.inl (List.mem_finRange n))
  · unfold eraseNamed
    split
    · exact erasePair_keepsErased h d
    · exact h
  · rw [eraseNamed, if_pos hv]
    exact erasePair_erases t n

theorem opKeyErase_all (hv : v.getLsbD 8 = true) : s.opKeyErase v = s.eraseAll := if_pos hv

theorem opKeyErase_named (hv : v.getLsbD 8 = false) : s.opKeyErase v = (List.finRange 8).foldl (eraseNamed v) s :=
  if_neg (ne_true_of_eq_false hv)

theorem opKeyErase_resp (s : State) (v : Word) : (s.opKeyErase v).resp = s.resp :=
  State.opKeyErase_keeps v (List.Subset.refl _) (SameBut.refl _ s) .resp (by decide)

theorem keyErasePair_erases {pairs : BitVec 8} (ht : Taken s r R.LCK_KEY_ERASE) (hn : pairs.getLsbD n.val = true) :
    ∃ t, exec (.keyErasePair r pairs) s = .next t ∧ t.resp = .done ∧ Erased t n := by
  have hall : (pairs.setWidth 32).getLsbD 8 = false := by simp
  have hnamed : (pairs.setWidth 32).getLsbD n.val = true := by
    rw [BitVec.getLsbD_setWidth, hn]
    simp only [Bool.and_true, decide_eq_true_eq]
    omega
  refine ⟨_, congrArg Host.Outcome.next (Taken_access ht), opKeyErase_resp _ _, ?_⟩
  rw [opKeyErase_named hall]
  exact eraseNamed_erases hnamed _

theorem keyEraseAll_erases (ht : Taken s r R.LCK_KEY_ERASE) :
    ∃ t, exec (.keyEraseAll r) s = .next t ∧ t.resp = .done ∧ ∀ n : Fin 8, Erased t n := by
  refine ⟨_, congrArg Host.Outcome.next (Taken_access ht), opKeyErase_resp _ _, fun n => ?_⟩
  rw [opKeyErase_all (by decide)]
  exact eraseAll_erases _ n

end Sys2Proof.Proofs.KeyCommands
end

section
/-! PROOF. The parse commands of O58: one lemma for the step of an instruction that has been fetched (R345-R347), then one line for each
instruction, and the commands of the stage and of program memory. -/

namespace Sys2Proof.Proofs.ParseCommands

open Sys2Proof Sys2Proof.Machine

variable {s : State} {r : Req} {v w : Word} {e : Fin 128} {p : Fin 4} {k : Pkt} {g : Engine} {op : Nat}

/-! ### The step of an instruction (R345-R347) -/

/-- What the end of an instruction at `pc` leaves of packet `k`. -/
def stepped (s : State) (p : Fin 4) (k : Pkt) (pc : Nat) : PRes → State
  | .cont k' g' => s.setSlotOf p ⟨k', .engine g'⟩
  | .ends k' => s.parseEnd p k' true
  | .mal k' => s.parseMal p k'
  | .fault c => s.parseFault p k c pc

/-- A fetched instruction takes its step. -/
theorem parseOp_fetched {is : Nat → Bool} (h : Fetches s e op p k g w) (ho : is op = true) (f : Pkt → Engine → Word → PRes) :
    s.parseOp e is f = stepped s p k g.pc (f k (advanced g) w) := by
  obtain ⟨hrun, hw, hop, hsteps⟩ := h
  unfold State.parseOp
  rw [hrun]
  dsimp only
  rw [hw, hop, if_neg (by rw [ho]; simpa using hsteps)]
  unfold advanced
  cases f k { g with pc := (g.pc + 1) % 1024, steps := g.steps + 1 } w <;> rfl

/-- An instruction of one opcode after which the program goes on. -/
theorem parseOp_goesOn {f : Pkt → Engine → Word → PRes} {k' : Pkt} {g' : Engine} (h : Fetches s e op p k g w)
    (hf : f k (advanced g) w = .cont k' g') : s.parseOp e (· == op) f = s.setSlotOf p ⟨k', .engine g'⟩ := by
  rw [parseOp_fetched (is := fun n => n == op) h (beq_self_eq_true op) f, hf]
  rfl

/-! ### Registers and flags (R345, R346) -/

theorem nop_steps (h : Fetches s e 0x00 p k g w) : exec (.nop e) s = .next (s.setSlotOf p ⟨k, .engine (advanced g)⟩) :=
  congrArg Host.Outcome.next (parseOp_goesOn h rfl)

theorem ldi_steps (h : Fetches s e 0x02 p k g w) :
    exec (.ldi e) s = .next (s.setSlotOf p ⟨k, .engine ((advanced g).setReg (insX w) (insImm w))⟩) :=
  congrArg Host.Outcome.next (parseOp_goesOn h rfl)

theorem addi_steps (h : Fetches s e 0x04 p k g w) :
    exec (.addi e) s = .next (s.setSlotOf p ⟨k, .engine ((advanced g).setReg (insX w) (g.reg (insX w) + insImm w))⟩) :=
  congrArg Host.Outcome.next (parseOp_goesOn h rfl)

theorem add_steps (h : Fetches s e 0x05 p k g w) :
    exec (.add e) s = .next (s.setSlotOf p ⟨k, .engine ((advanced g).setReg (insX w) (g.a + g.b))⟩) :=
  congrArg Host.Outcome.next (parseOp_goesOn h rfl)

theorem andi_steps (h : Fetches s e 0x06 p k g w) :
    exec (.andi e) s = .next (s.setSlotOf p ⟨k, .engine ((advanced g).setReg (insX w) (g.reg (insX w) &&& insImm w))⟩) :=
  congrArg Host.Outcome.next (parseOp_goesOn h rfl)

theorem shl_steps (h : Fetches s e 0x07 p k g w) :
    exec (.shl e) s = .next (s.setSlotOf p ⟨k, .engine ((advanced g).setReg (insX w) (g.reg (insX w) <<< getField w 0 4))⟩) :=
  congrArg Host.Outcome.next (parseOp_goesOn h rfl)

theorem shr_steps (h : Fetches s e 0x08 p k g w) :
    exec (.shr e) s = .next (s.setSlotOf p ⟨k, .engine ((advanced g).setReg (insX w) (g.reg (insX w) >>> getField w 0 4))⟩) :=
  congrArg Host.Outcome.next (parseOp_goesOn h rfl)

theorem flag_steps (h : Fetches s e 0x11 p k g w) : exec (.flag e) s =
    .next (s.setSlotOf p ⟨{ k with pf := k.pf ||| BitVec.ofNat 4 (2 ^ getField w 0 2) }, .engine (advanced g)⟩) :=
  congrArg Host.Outcome.next (parseOp_goesOn h rfl)

/-! ### Loads and the key (R345, R348) -/

theorem opLd_loads (h : windowEnd k (g.c + getField w 18 8) ((getField w 15 3 + getField w 11 4) / 8 + 1) = none) :
    ∃ x, opLd k g w = .cont k (g.setReg (insX w) x) := by
  unfold opLd
  dsimp only
  rw [← Nat.add_assoc, Nat.add_sub_cancel, h]
  exact ⟨_, rfl⟩

theorem ld_steps (h : Fetches s e 0x01 p k g w)
    (hend : windowEnd k (g.c + getField w 18 8) ((getField w 15 3 + getField w 11 4) / 8 + 1) = none) :
    ∃ x, exec (.ld e) s = .next (s.setSlotOf p ⟨k, .engine ((advanced g).setReg (insX w) x)⟩) :=
  (opLd_loads (g := advanced g) hend).imp (fun _ hx => congrArg Host.Outcome.next (parseOp_goesOn h hx))

theorem opLdm_loads (h : getField w 0 3 ≤ 5) : ∃ x, opLdm k g w = .cont k (g.setReg (insX w) x) := by
  unfold opLdm
  generalize getField w 0 3 = m at h
  interval_cases m <;> exact ⟨_, rfl⟩

theorem ldm_steps (h : Fetches s e 0x03 p k g w) (hn : getField w 0 3 ≤ 5) :
    ∃ x, exec (.ldm e) s = .next (s.setSlotOf p ⟨k, .engine ((advanced g).setReg (insX w) x)⟩) :=
  (opLdm_loads (k := k) (g := advanced g) hn).imp (fun _ hx => congrArg Host.Outcome.next (parseOp_goesOn h hx))

theorem opExt_extracts (h2 : 2 ≤ getField w 21 6) (h64 : getField w 21 6 + (getField w 8 4 + 1) ≤ 64)
    (hend : windowEnd k (g.c + getField w 13 8) (getField w 8 4 + 1) = none) : ∃ x, opExt k g w = .cont { k with key := x } g := by
  unfold opExt
  dsimp only
  rw [if_neg (by omega), hend]
  exact ⟨_, rfl⟩

theorem ext_steps (h : Fetches s e 0x0D p k g w) (h2 : 2 ≤ getField w 21 6) (h64 : getField w 21 6 + (getField w 8 4 + 1) ≤ 64)
    (hend : windowEnd k (g.c + getField w 13 8) (getField w 8 4 + 1) = none) :
    ∃ x, exec (.ext e) s = .next (s.setSlotOf p ⟨{ k with key := x }, .engine (advanced g)⟩) :=
  (opExt_extracts (g := advanced g) h2 h64 hend).imp (fun _ hx => congrArg Host.Outcome.next (parseOp_goesOn h hx))

theorem kst_steps (h : Fetches s e 0x0E p k g w) (h2 : 2 ≤ getField w 20 6) (h62 : getField w 20 6 ≤ 62) :
    ∃ x, exec (.kst e) s = .next (s.setSlotOf p ⟨{ k with key := x }, .engine (advanced g)⟩) := by
  have hstores : opKst k (advanced g) w = .cont { k with key := putBytes k.key (getField w 20 6) (toBytesBE 2 ((advanced g).reg (insX w)).toNat) }
      (advanced g) := if_neg (by omega)
  exact ⟨_, congrArg Host.Outcome.next (parseOp_goesOn h hstores)⟩

/-! ### Jumps (R345, R352) -/

/-- The engine after a jump. -/
def jumped (g : Engine) (w : Word) : Engine := { advanced g with pc := getField w 16 10 }

theorem jumpTo_goes (h : 64 ≤ getField w 16 10) : jumpTo k (advanced g) w = .cont k (jumped g w) := if_neg (Nat.not_lt.2 h)

/-- A jump under a condition on the engine. -/
theorem condJump_goes {c : Prop} [Decidable c] (h : 64 ≤ getField w 16 10) :
    (if c then jumpTo k (advanced g) w else .cont k (advanced g)) = .cont k (if c then jumped g w else advanced g) := by
  rw [jumpTo_goes h]
  split <;> rfl

theorem jmp_steps (h64 : 64 ≤ getField w 16 10) (h : Fetches s e 0x0C p k g w) :
    exec (.jmp e) s = .next (s.setSlotOf p ⟨k, .engine (jumped g w)⟩) :=
  congrArg Host.Outcome.next (parseOp_goesOn h (jumpTo_goes h64))

theorem jeq_steps (h64 : 64 ≤ getField w 16 10) (h : Fetches s e 0x09 p k g w) :
    exec (.jeq e) s = .next (s.setSlotOf p ⟨k, .engine (if g.reg (insX w) = insImm w then jumped g w else advanced g)⟩) :=
  congrArg Host.Outcome.next (parseOp_goesOn h (condJump_goes h64))

theorem jne_steps (h64 : 64 ≤ getField w 16 10) (h : Fetches s e 0x0A p k g w) :
    exec (.jne e) s = .next (s.setSlotOf p ⟨k, .engine (if g.reg (insX w) = insImm w then advanced g else jumped g w)⟩) := by
  rw [← ite_not]
  exact congrArg Host.Outcome.next (parseOp_goesOn h (condJump_goes h64))

theorem jlt_steps (h64 : 64 ≤ getField w 16 10) (h : Fetches s e 0x0B p k g w) :
    exec (.jlt e) s =
      .next (s.setSlotOf p ⟨k, .engine (if (g.reg (insX w)).toNat < (insImm w).toNat then jumped g w else advanced g)⟩) :=
  congrArg Host.Outcome.next (parseOp_goesOn h (condJump_goes h64))

/-! ### Headers and lengths (R349, R350) -/

theorem opHdr_passes {len eo : Nat} (hrule : hdrRule k g (getField w 21 6) (g.reg (w.getLsbD 20)) (getField w 18 2) = some (len, true, eo, false))
    (hh : g.h ≠ 16) (he : g.c + len ≤ g.e) (hwin : g.c + len ≤ 256) : opHdr k g w =
      .cont { k with hdrs := k.hdrs ++ [(getField w 21 6, g.c)] } { g with c := g.c + len, h := g.h + 1, e := eo } := by
  unfold opHdr
  dsimp only
  rw [hrule]
  dsimp only
  rw [if_neg hh, if_neg (by simp; omega), if_neg (Nat.not_lt.2 hwin), if_neg (by decide)]

theorem hdr_steps {len eo : Nat} (h : Fetches s e 0x0F p k g w)
    (hrule : hdrRule k g (getField w 21 6) (g.reg (w.getLsbD 20)) (getField w 18 2) = some (len, true, eo, false))
    (hh : g.h ≠ 16) (he : g.c + len ≤ g.e) (hwin : g.c + len ≤ 256) : exec (.hdr e) s =
      .next (s.setSlotOf p ⟨{ k with hdrs := k.hdrs ++ [(getField w 21 6, g.c)] },
        .engine { advanced g with c := g.c + len, h := g.h + 1, e := eo }⟩) :=
  congrArg Host.Outcome.next (parseOp_goesOn h (opHdr_passes (g := advanced g) hrule hh he hwin))

theorem opLchk_passes (hx : g.c + (g.reg (insX w)).toNat ≤ g.e) (hle : w.getLsbD 25 = true) : opLchk k g w =
    .cont k (if w.getLsbD 24 then { g with e := g.c + (g.reg (insX w)).toNat } else g) := by
  unfold opLchk
  dsimp only
  rw [if_pos hle, if_neg (by simp; omega)]

theorem lchk_steps (h : Fetches s e 0x10 p k g w) (hx : g.c + (g.reg (insX w)).toNat ≤ g.e) (hle : w.getLsbD 25 = true) :
    exec (.lchk e) s = .next (s.setSlotOf p
      ⟨k, .engine (if w.getLsbD 24 then { advanced g with e := g.c + (g.reg (insX w)).toNat } else advanced g)⟩) :=
  congrArg Host.Outcome.next (parseOp_goesOn h (opLchk_passes (g := advanced g) hx hle))

/-! ### The ends of a parse and its faults (R351-R353) -/

theorem done_ends (h : Fetches s e 0x12 p k g w) : exec (.done e) s = .next (s.parseEnd p k true) :=
  congrArg Host.Outcome.next (parseOp_fetched h rfl _)

theorem mal_ends (h : Fetches s e 0x13 p k g w) : exec (.mal e) s = .next (s.parseMal p k) :=
  congrArg Host.Outcome.next (parseOp_fetched h rfl _)

theorem illegalOpcode_faults (ho : 0x14 ≤ op) (h : Fetches s e op p k g w) : exec (.illegalOpcode e) s = .next (s.parseFault p k 1 g.pc) :=
  congrArg Host.Outcome.next (parseOp_fetched h (decide_eq_true ho) _)

theorem stepBudgetFault_faults (h : s.running? e = some (p, k, g)) (hs : s.fld F.PRS_PRS_CFG_STEP_MAX ≤ g.steps) :
    exec (.stepBudgetFault e) s = .next (s.parseFault p k 2 g.pc) := by
  refine congrArg Host.Outcome.next ?_
  rw [h]
  exact if_pos hs

theorem programFetchUe_drops (h : s.running? e = some (p, k, g)) :
    exec (.programFetchUe e) s = .next (((s.bump R.PRS_CNT_PROG_UE).fire P.PRS E.PRS_PROG_UE).dropSlot p k.id) := by
  refine congrArg Host.Outcome.next ?_
  rw [h]

theorem fixedExtract_extracts {z : ParseSlot} (h : (s.pipes[p]).parse.find? (fun z => decide (z.st = .extract)) = some z) :
    exec (.fixedExtract p) s =
      .next (if (extract z.pkt).2 then s.parseMal p (extract z.pkt).1 else s.parseEnd p (extract z.pkt).1 false) := by
  refine congrArg Host.Outcome.next ?_
  rw [h]

theorem parseStart_recirculated {ks : List Pkt} (h : (s.pipes[p]).rc = k :: ks) :
    exec (.parseStart p) s = .next ((s.setPipe p { s.pipes[p] with rc := ks }).parseStart p k) := by
  show execParseStart p s = _
  unfold execParseStart
  dsimp only
  rw [h]

/-! ### Program memory (R356, R358) -/

/-- The four words that PROG_DATA holds, the last of them written now. -/
def progWord (s : State) (v : Word) (i : Nat) : Word := if i = 3 then v else s.rd (R.PRS_PROG_DATA i)

/-- The first of the four words in the shadow. -/
def progBase (s : State) : Nat := (1 - s.fld F.PRS_PROG_CTL_ACTIVE) * 1024 + s.fld F.PRS_PROG_ADDR_WORD / 4 * 4

/-- The four words stand in the shadow. -/
def progStored (s : State) (v : Word) : State :=
  { s with prog := (List.range 4).foldl (fun m i => mapPut 0 m (progBase s + i) (progWord s v i)) s.prog }

theorem opProgData3_eq (hview : s.bit F.PRS_PROG_ADDR_VIEW = false) (hbusy : s.bit F.PRS_PROG_STAT_BUSY = false)
    (happ : s.applying P.PRS = false) (htest : s.testing 2 none = false) : s.opProgData3 r v =
      (if s.bit F.PRS_PROG_ADDR_AUTO_INC then (progStored s v).setFld F.PRS_PROG_ADDR_WORD (s.fld F.PRS_PROG_ADDR_WORD / 4 * 4 + 4)
        else progStored s v).viewProg :=
  if_neg (by simp [hview, hbusy, happ, htest])

theorem viewProg_prog (s : State) : s.viewProg.prog = s.prog :=
  State.viewProg_keeps (List.Subset.refl _) (SameBut.refl _ s) .prog (by decide)

theorem progStored_last (s : State) (v : Word) : mapGet 0 (progStored s v).prog (progBase s + 3) = v :=
  mapGet_mapPut_self _ _ _ _

theorem opProgData3_stores (hview : s.bit F.PRS_PROG_ADDR_VIEW = false) (hbusy : s.bit F.PRS_PROG_STAT_BUSY = false)
    (happ : s.applying P.PRS = false) (htest : s.testing 2 none = false) :
    mapGet 0 (s.opProgData3 r v).prog (progBase s + 3) = v := by
  rw [opProgData3_eq hview hbusy happ htest, viewProg_prog]
  split
  · rw [State.setFld_prog]
    exact progStored_last s v
  · exact progStored_last s v

theorem opProgData3_resp (hview : s.bit F.PRS_PROG_ADDR_VIEW = false) (hbusy : s.bit F.PRS_PROG_STAT_BUSY = false)
    (happ : s.applying P.PRS = false) (htest : s.testing 2 none = false) : (s.opProgData3 r v).resp = s.resp := by
  rw [opProgData3_eq hview hbusy happ htest,
    State.viewProg_keeps (List.Subset.refl _) (SameBut.refl _ _) .resp (by decide)]
  split
  · rw [State.setFld_resp]
    rfl
  · rfl

theorem progDataWrite_stores (ht : Taken s r (R.PRS_PROG_DATA 3)) (hview : s.bit F.PRS_PROG_ADDR_VIEW = false)
    (hbusy : s.bit F.PRS_PROG_STAT_BUSY = false) (happ : s.applying P.PRS = false) (htest : s.testing 2 none = false) :
    ∃ t, exec (.progDataWrite r v) s = .next t ∧ t.resp = .done ∧ mapGet 0 t.prog (progBase s + 3) = v :=
  ⟨_, congrArg Host.Outcome.next (Taken_access ht), opProgData3_resp (s := s.reply .done) hview hbusy happ htest,
    opProgData3_stores (s := s.reply .done) hview hbusy happ htest⟩

theorem progCopy_starts (ht : Taken s r R.PRS_PROG_CMD) (htest : s.testing 2 none = false) :
    ∃ t, exec (.progCopy r v) s = .next t ∧ t.resp = .done ∧ t.bit F.PRS_PROG_STAT_BUSY = true := by
  have hop : (s.reply .done).opProgCmd r (v ||| 1) = (s.reply .done).setFld F.PRS_PROG_STAT_BUSY 1 :=
    (if_neg (not_not_intro (PageControl.getLsbD_or_true v (by decide)))).trans (if_neg (ne_true_of_eq_false htest))
  exact ⟨_, congrArg Host.Outcome.next ((Taken_access ht).trans hop), State.setFld_resp _ _ _,
    decide_eq_true (State.fld_setFld_self _ _ _ (by decide))⟩

end Sys2Proof.Proofs.ParseCommands
end

section
/-! PROOF. Every command named in O58 completes: the clauses that rest on the statements of the messages, the timers and the bursts, and
the obligation. -/

namespace Sys2Proof.Proofs.ControlCompletion

open Sys2Proof Sys2Proof.Machine Sys2Proof.Proofs.TerminalEffects Sys2Proof.Proofs.TerminalTimers Sys2Proof.Proofs.UpstreamBursts
  Sys2Proof.Proofs.KeyCommands Sys2Proof.Proofs.ParseCommands

variable {s : State} {r : Req} {v : Word} {c : Chan}

/-! ### Messages, timers, the guard -/

theorem reject_completes {h : MsgHdr} (hs : s.inSlot h = true) (hg : mcrcGood (s.slotBytes h) = false) (type : BitVec 8) :
    ∃ t, exec (.controlMessageReject h type true) s = .next t ∧ t.rd R.ACT_CNT_MSG_CRC = s.rd R.ACT_CNT_MSG_CRC + 1 :=
  ⟨_, ControlMessages.reject_crc hs hg type, ControlMessages.msgErr_counts (by decide)⟩

theorem announceTimeout_completes (h : s.act.st = .announcing) : ∃ t, exec .announceTimeout s = .next t ∧ t.act.st = .listening ∧
    t.rd R.ACT_CNT_ANN_TO = s.rd R.ACT_CNT_ANN_TO + 1 :=
  ⟨_, announceTimeout_ends h, (congrArg Act.st (State.fire_act _ _ _)).trans (go_st s _), announceTimeout_counts h⟩

theorem rangingTimeout_completes (h : s.act.st = .ranging) : ∃ t, exec .rangingTimeout s = .next t ∧ t.act.st = .listening :=
  ⟨_, rangingTimeout_ends h, (congrArg Act.st (State.fire_act _ _ _)).trans (go_st s.dropId _)⟩

theorem serialWrite_completes (ht : Taken s r R.ACT_SERIAL_LO) (h : s.act.st = .dark) :
    ∃ t, exec (.serialWrite r false v) s = .next t ∧ t.resp = .done ∧ t.rd R.ACT_SERIAL_LO = v :=
  ⟨_, serialWrite_stores (hi := false) ht h, State.store_resp _ _ _, serial_stored _ false v⟩

theorem localRel_completes (ht : Taken s r R.ACT_LOCAL_REL) (hd : s.isDelegate r = false) (hp : s.own.presWin = true)
    (h : s.act.st = .silenced) : exec (.localRel r v) s = .next ((s.reply .done).releaseNow false) :=
  (localRel_eq ht ⟨hd, hp⟩).trans (congrArg Host.Outcome.next (if_pos h))

theorem tripped_latch (s : State) (c : Chan) (fb : Bool) :
    ((tripped s c fb).act.ch[c]).trip = true ∧ ((tripped s c fb).act.ch[c]).fb = ((s.act.ch[c]).fb || fb) := by
  rw [tripped_act]
  simp

/-! ### Bursts -/

theorem upstreamFrameStart_completes {k : Nat} (hn : s.ncoOn c = true) (hd : (s.act.ch[c]).eqdNext = none)
    (hk : s.frameAt c (s.act.ch[c]).eqd = some k) :
    ∃ t, exec (.upstreamFrameStart c) s = .next t ∧ (t.upb[c]).frame = some k ∧ (t.upb[c]).idx = 0 :=
  ⟨_, upstreamFrameStart_begins hn hd hk, (beginFrame_upb s c k).1, (beginFrame_upb s c k).2.1⟩

theorem burstFix_completes {g : Grant} {gs : List Grant} {p : ProfileBody} (hg : (s.upb[c]).gt = g :: gs)
    (hp : s.profileFor c g.frame = some p) (hk : g.kind ≠ .data) :
    ∃ t b, exec (.burstFix c) s = .next t ∧ (t.upb[c]).gt = gs ∧ (t.upb[c]).fixed = (s.upb[c]).fixed ++ [b] ∧ b.h.long = true := by
  obtain ⟨t, b, hexec, -, hupb, -, -, hlong, -⟩ := burstFix_special hg hp hk
  have hbuilder : t.upb[c] = { s.upb[c] with gt := gs, fixed := (s.upb[c]).fixed ++ [b] } := by
    rw [hupb]
    exact Vector.getElem_set_self _
  exact ⟨t, b, hexec, congrArg Upb.gt hbuilder, congrArg Upb.fixed hbuilder, hlong⟩

theorem burstStart_completes {b : Burst} {bs : List Burst} (hf : (s.upb[c]).fixed = b :: bs)
    (hm : s.mayTx c (decide (b.g.kind = .data)) = true) (hd : s.displaced c b.g = false)
    (hp : b.g.kind = .data → s.pastDelay c b.g = false) :
    ∃ t b', exec (.burstStart c) s = .next t ∧ (t.upb[c]).fixed = bs ∧ (t.upb[c]).cur = some b' ∧ b'.h = b.h :=
  ⟨_, openedBurst s c b bs, burstStart_begins hf hm hd hp, (congrArg Upb.fixed (opened_upb s c b bs)).trans (openedUpb_lists s c b bs).1,
    congrArg Upb.cur (opened_upb s c b bs), rfl⟩

theorem gsmDataWrite_completes (ht : Taken s r R.UPB_GSM_DATA) (hview : s.bit F.UPB_GSM_ADDR_VIEW = false)
    (hbusy : s.bit F.UPB_GSM_STAT_BUSY = false) (happ : s.applying P.UPB = false) :
    ∃ t, exec (.gsmDataWrite r v) s = .next t ∧ t.resp = .done ∧
      t.gsm = mapPut 0 s.gsm ((1 - s.fld F.UPB_GSM_CTL_ACTIVE) * 2 ^ 13 + s.fld F.UPB_GSM_ADDR_QUEUE) (gsmWord v) := by
  obtain ⟨t, hexec, -, hresp, hgsm⟩ := gsmDataWrite_stores (v := v) ht hview hbusy happ
  exact ⟨t, hexec, hresp, hgsm⟩

theorem gsmCopy_completes (ht : Taken s r R.UPB_GSM_CMD) :
    ∃ t, exec (.gsmCopy r v) s = .next t ∧ t.resp = .done ∧ t.bit F.UPB_GSM_STAT_BUSY = true := by
  obtain ⟨t, hexec, -, hresp, hbusy⟩ := gsmCopy_starts (v := v) ht
  exact ⟨t, hexec, hresp, hbusy⟩

/-- With no burst in progress the settings take effect at once (R301). -/
theorem txConfigWrite_completes (ht : Taken s r (R.LTX_TX_CTL c.val)) (hc : (s.upb[c]).cur = none) :
    ∃ t, exec (.txConfigWrite r c false v) s = .next t ∧ t.resp = .done ∧ (t.txEff[c]).ctl = t.rd (R.LTX_TX_CTL c.val) := by
  obtain ⟨t, hexec, -, hresp, heff⟩ := txConfigWrite_stores (fir := false) (v := v) ht
  refine ⟨t, hexec, hresp, ?_⟩
  rw [heff, if_neg (by rw [hc]; decide)]
  exact congrArg TxEff.ctl (Vector.getElem_set_self _)

/-- Settles O58: messages, timers and bursts by the lemmas of O27, O28 and O29, keys and the parse stage by theirs. -/
theorem controlBurstKeyParseCommandsComplete : Obligations.ControlBurstKeyParseCommandsComplete := by
  unfold Obligations.ControlBurstKeyParseCommandsComplete
  exact ⟨fun _ _ _ hc hu hr ha hb => ControlMessages.profile_taken hc hu hr ha hb,
    fun _ _ _ _ _ _ _ _ _ hc hu hr ha h1 h2 h3 h4 => ControlMessages.announceWindow_taken hc hu hr (.inl ha) h1 h2 h3 h4,
    fun _ _ _ hc hu hr ha hi => ControlMessages.assignId_taken hc hu hr ha hi,
    fun _ _ _ _ _ hc hu hr ha h1 h2 => ControlMessages.rangingGrant_taken hc hu hr ha h1 h2,
    fun _ _ _ _ hc hu hr ha => ControlMessages.setDelay_taken hc hu hr ha,
    fun _ _ _ hw hc hu hr ha hp he => ControlMessages.grant_taken hw hc hu hr ha hp he,
    fun _ _ _ hc hu hr ha hb => ControlMessages.move_taken hc hu hr ha hb,
    fun _ _ hc hu hr ha => ControlMessages.deactivate_taken hc hu hr ha,
    fun _ _ _ hc hu hm hr ha => (ControlMessages.silence_taken hc hu hm hr).trans (congrArg Host.Outcome.next (if_neg ha)),
    fun _ _ _ hc hu hm hr => ControlMessages.emergencyStop_taken hc hu hm hr,
    fun _ _ _ hc hu hm hr ha => ControlMessages.release_taken hc hu hm hr ha,
    fun _ _ _ _ _ hc hu hr ha hn => ControlMessages.timeOfDay_taken hc hu hr ha hn,
    fun _ _ _ hl hc hu hr ha => ControlMessages.keyBlob_taken hl hc hu hr ha,
    fun _ _ _ hc hu hr ha hf hl => ControlMessages.keySwitch_taken hc hu hr ha hf hl,
    fun _ _ hc hu hr ha hi => ControlMessages.statusReq_taken hc hu hr ha hi,
    fun _ type _ hs hg => reject_completes hs hg type,
    fun _ h => announceTimeout_completes h,
    fun _ h => rangingTimeout_completes h,
    fun s h hr => ⟨_, lossTimeout_holds h hr, (lossHold_act s _).1⟩,
    fun _ h => ⟨_, holdTimeout_ends h, holdEnd_st _⟩,
    fun _ _ _ ht hen => actDisable_turnsOff ht hen,
    fun _ _ _ ht h => serialWrite_completes ht h,
    fun _ _ _ ht hd hp h => localRel_completes ht hd hp h,
    fun c s => ⟨tripped s c false, congrArg Host.Outcome.next (tripGuard_eq s c false), (tripped_latch s c false).1, (cutBurst_ends _ c).1⟩,
    fun c s => ⟨tripped s c true, congrArg Host.Outcome.next (tripGuard_eq s c true), (tripped_latch s c true).1,
      (tripped_latch s c true).2.trans (Bool.or_true _), (cutBurst_ends _ c).1⟩,
    fun _ v s ht hs h8 => ⟨_, guardCmd_clears ht (.inr hs) h8, cleared_resp s v, cleared_trip s v⟩,
    fun _ _ _ ht h => guardTest_trips ht h,
    fun _ _ _ hn hd hk => upstreamFrameStart_completes hn hd hk,
    fun _ _ _ _ _ hg hp hk => burstFix_completes hg hp hk,
    fun _ _ _ _ hf hm hd hp => burstStart_completes hf hm hd hp,
    fun c _ s hw _ => ⟨_, burstEnd_last hw, burstEnd_upb s c⟩,
    fun _ _ _ _ _ _ _ hc hk hen hp hn h0 hmax hroom => fragmentStart_sends hc hk hen hp hn h0 hmax hroom,
    fun _ _ _ _ h => packetRelease_releases h,
    fun _ _ _ hp hh hs => gsSelect_selects hp hh hs,
    fun _ _ _ ht hview hbusy happ => gsmDataWrite_completes ht hview hbusy happ,
    fun _ _ _ ht => gsmCopy_completes ht,
    fun _ _ _ _ ht hc => txConfigWrite_completes ht hc,
    fun _ _ _ _ ht h hs => txTestWrite_on ht h hs,
    fun _ _ key s hj hf hl he ht hu hr hk => ⟨nextKeyLoaded s key, unwrapMemory_loads hj hf hl he ht hu hr hk, nextKeyLoaded_mxe s key⟩,
    fun _ _ _ ht hb hl => ⟨_, _, _, keyCmdLink_queues ht hb hl, jobQueued_parts _ _⟩,
    fun _ _ _ ht hb hl => ⟨_, keyCmdMemory_queues ht hb hl, jobQueued_parts _ _⟩,
    fun _ _ _ ht hd hp hb hl => ⟨_, keyCmdWrap_queues ht ⟨hd, hp⟩ hb hl, jobQueued_parts _ _⟩,
    fun _ _ i s hj hs hf => ⟨fuseInstalled s i, fuseProgramDone_installs hj hs hf, fuseInstalled_fused s i⟩,
    fun _ h => ⟨_, lockoutEnd_ends h, rfl, rfl⟩,
    fun s => ⟨_, entropyTestFail_line s, entropyTestFail_entropy s⟩,
    fun _ _ _ _ ht hn => keyErasePair_erases ht hn,
    fun _ _ ht => keyEraseAll_erases ht,
    fun _ _ ht => unwLock_locks ht,
    fun _ _ _ ht h => unwCfgWrite_stores ht h,
    fun _ _ _ _ h => parseStart_recirculated h,
    fun _ _ _ _ _ _ => ⟨nop_steps, ldi_steps, addi_steps, add_steps, andi_steps, shl_steps, shr_steps, flag_steps⟩,
    fun _ _ _ _ _ _ => ⟨ld_steps, ldm_steps, ext_steps, kst_steps⟩,
    fun _ _ _ _ _ _ h64 => ⟨jeq_steps h64, jne_steps h64, jlt_steps h64, jmp_steps h64⟩,
    fun _ _ _ _ _ _ _ _ h hrule hh he hwin => hdr_steps h hrule hh he hwin,
    fun _ _ _ _ _ _ h hx hle => lchk_steps h hx hle,
    fun _ _ _ _ _ _ => ⟨done_ends, mal_ends, fun _ ho h => illegalOpcode_faults ho h, stepBudgetFault_faults, programFetchUe_drops⟩,
    fun _ _ _ h => fixedExtract_extracts h,
    fun _ _ _ ht hview hbusy happ htest => progDataWrite_stores ht hview hbusy happ htest,
    fun _ _ _ ht htest => progCopy_starts ht htest⟩

end Sys2Proof.Proofs.ControlCompletion
end

section
/-! PROOF. The unwrap engine, its commands and the erasing of keys (O30): the end of a job as four stages with a frame for each, one
lemma for each check that a job can fail, then the commands. -/

namespace Sys2Proof.Proofs.KeysAndUnwrap

open Sys2Proof Sys2Proof.Machine KeyCommands

variable {s : State} {r : Req} {v : Word} {j : KeyJob} {js : List KeyJob} {n : Fin 8} {i : Bool} {icv len : Bool} {key : List Byte}

/-! ### Frames -/

theorem setKey_frame (s : State) (f : Key → Key) : Frame [.key] [] s (s.setKey f) :=
  (Frame.refl _ _ s).upd (State.setKey_keeps f (List.Subset.refl _) (SameBut.refl _ s)) (List.Subset.refl _) rfl

theorem setPair_frame (s : State) (n : Fin 8) (x : Pair) : Frame [.pairs] [] s (s.setPair n x) :=
  (Frame.refl _ _ s).upd (State.setPair_keeps n x (List.Subset.refl _) (SameBut.refl _ s)) (List.Subset.refl _) rfl

theorem queueMsg_frame (s : State) (type : BitVec 8) (body : List Byte) : FrameEv [.act] [R.ACT_CNT_UMSG_DROP] s (s.queueMsg type body) :=
  .ite ((FrameEv.refl _ _ s).setAct _ (by decide)) (((FrameEv.refl _ _ s).bump _ (by decide)).andFire _ _)

theorem sendAck_frame (s : State) (h : MsgHdr) (type result : Nat) : FrameEv [.act] [R.ACT_CNT_UMSG_DROP] s (s.sendAck h type result) :=
  .ite (queueMsg_frame s _ _) (.refl _ _ s)

/-! ### The end of a job (R329, R331) -/

/-- The job at the head has left the queue. -/
def dequeued (s : State) : State := s.setKey (fun k => { k with jobs := k.jobs.tail, fusing := false })

/-- The event of a result is raised, and a success counted. -/
def announced (s : State) (result : Nat) : State :=
  if result = 0 then (s.bump R.KEY_CNT_UNWRAP_OK).fire P.KEY E.KEY_UNWRAP_DONE else s.fire P.KEY E.KEY_UNWRAP_FAIL

/-- A failed check or a duplicate key is counted. -/
def tallied (s : State) (result : Nat) : State :=
  if result = 1 ∨ result = 2 then s.bump R.KEY_CNT_UNWRAP_FAIL else if result = 3 then s.bump R.KEY_CNT_DUP_KEY else s

/-- A success ends the row of failures; the eighth failure of a row locks the engine (R331). -/
def struck (s : State) (result : Nat) : State :=
  if result = 0 then s.setKey (fun k => { k with fails := 0, backoff := 1 })
  else if result = 1 ∨ result = 2 then
    (if s.key.fails + 1 < 8 then s.setKey (fun k => { k with fails := k.fails + 1 })
    else ((s.setKey (fun k => { k with fails := 0, locked := true })).startTimer T.lockout).fire P.KEY E.KEY_LOCKOUT)
  else s

/-- The job's sender learns the result: by an ACK, or in KEY_JOB. -/
def answered (s : State) (j : KeyJob) (result : Nat) : State :=
  match j.msg with
  | some h => (s.noteResult h (ackOf result)).sendAck h 0x0D (ackOf result)
  | none => s.setFld F.KEY_KEY_JOB_RESULT result

theorem jobEnd_eq (s : State) (j : KeyJob) (result : Nat) :
    s.jobEnd j result = answered (struck (tallied (announced (dequeued s) result) result) result) j result := rfl

theorem announced_frame (s : State) (result : Nat) : FrameEv [] [R.KEY_CNT_UNWRAP_OK] s (announced s result) :=
  .ite (((FrameEv.refl _ _ s).bump _ (by decide)).andFire _ _) (.fire _ _ s _ _)

theorem tallied_frame (s : State) (result : Nat) : FrameEv [] [R.KEY_CNT_UNWRAP_FAIL, R.KEY_CNT_DUP_KEY] s (tallied s result) :=
  .ite ((FrameEv.refl _ _ s).bump _ (by decide)) (.ite ((FrameEv.refl _ _ s).bump _ (by decide)) (.refl _ _ s))

theorem struck_frame (s : State) (result : Nat) : FrameEv [.key, .timers] [] s (struck s result) :=
  have hkey : ∀ f, FrameEv [.key, .timers] [] s (s.setKey f) := fun f => (FrameEv.refl _ _ s).setKey f (by decide)
  .ite (hkey _) (.ite (.ite (hkey _) (((hkey _).startTimer _ (by decide)).andFire _ _)) (.refl _ _ s))

theorem answered_frame (s : State) (j : KeyJob) (result : Nat) :
    FrameEv [.act] [R.KEY_KEY_JOB, R.ACT_CNT_UMSG_DROP] s (answered s j result) := by
  unfold answered
  split
  · exact ((FrameEv.refl _ _ s).noteResult _ _ (by decide)).trans ((sendAck_frame _ _ _ _).mono (by decide) (by decide))
  · exact (FrameEv.refl _ _ s).setFld _ _ (by decide)

/-- What follows the counting of a result leaves the counters of results alone. -/
theorem answered_struck_frame (s : State) (j : KeyJob) (result : Nat) :
    FrameEv [.key, .act, .timers] [R.KEY_KEY_JOB, R.ACT_CNT_UMSG_DROP] s (answered (struck s result) j result) :=
  ((struck_frame s result).mono (by decide) (by decide)).trans ((answered_frame _ j result).mono (by decide) (by decide))

theorem jobEnd_frame (s : State) (j : KeyJob) (result : Nat) :
    FrameEv [.key, .act, .timers] [R.KEY_CNT_UNWRAP_OK, R.KEY_CNT_UNWRAP_FAIL, R.KEY_CNT_DUP_KEY, R.KEY_KEY_JOB, R.ACT_CNT_UMSG_DROP] s
      (s.jobEnd j result) := by
  rw [jobEnd_eq]
  have hdequeued := (FrameEv.refl [.key, .act, .timers] [] s).setKey (fun k => { k with jobs := k.jobs.tail, fusing := false }) (by decide)
  exact (((hdequeued.mono (by decide) (by decide)).trans ((announced_frame _ result).mono (by decide) (by decide))).trans
    ((tallied_frame _ result).mono (by decide) (by decide))).trans ((answered_struck_frame _ j result).mono (by decide) (by decide))

theorem struck_jobs (s : State) (result : Nat) : (struck s result).key.jobs = s.key.jobs := by
  unfold struck
  split_ifs
  · rfl
  · rfl
  · rw [State.fire_key]
    rfl
  · rfl

theorem jobEnd_jobs (s : State) (j : KeyJob) (result : Nat) : (s.jobEnd j result).key.jobs = s.key.jobs.tail :=
  have hanswered : (s.jobEnd j result).key = _ := (answered_frame _ j result).1 .key (by decide)
  have htallied : (tallied (announced (dequeued s) result) result).key = (dequeued s).key :=
    ((tallied_frame _ result).1 .key (by decide)).trans ((announced_frame _ result).1 .key (by decide))
  calc (s.jobEnd j result).key.jobs
    _ = (struck (tallied (announced (dequeued s) result) result) result).key.jobs := congrArg Key.jobs hanswered
    _ = (tallied (announced (dequeued s) result) result).key.jobs := struck_jobs _ _
    _ = s.key.jobs.tail := congrArg Key.jobs htallied

theorem jobEnd_countsOk (s : State) (j : KeyJob) : (s.jobEnd j 0).rd R.KEY_CNT_UNWRAP_OK = s.rd R.KEY_CNT_UNWRAP_OK + 1 := by
  rw [jobEnd_eq, (answered_struck_frame _ j 0).2 _ (by decide) (by decide), (tallied_frame _ 0).2 _ (by decide) (by decide), announced,
    if_pos rfl, State.fire_rd _ _ _ (by decide), State.rd_bump_self]
  rfl

/-- A counter that the tally of a result increments counts the end of the job. -/
theorem jobEnd_counts {k result : Nat} (hk : k ∈ [R.KEY_CNT_UNWRAP_FAIL, R.KEY_CNT_DUP_KEY]) (ht : ∀ t, tallied t result = t.bump k)
    (s : State) (j : KeyJob) : (s.jobEnd j result).rd k = s.rd k + 1 := by
  have hkeys : ∀ k ∈ [R.KEY_CNT_UNWRAP_FAIL, R.KEY_CNT_DUP_KEY],
      eventReg k = false ∧ k ∉ [R.KEY_CNT_UNWRAP_OK] ∧ k ∉ [R.KEY_KEY_JOB, R.ACT_CNT_UMSG_DROP] := by decide
  obtain ⟨hevent, hok, hanswer⟩ := hkeys k hk
  rw [jobEnd_eq, (answered_struck_frame _ j result).2 k hanswer hevent, ht, State.rd_bump_self, (announced_frame _ result).2 k hok hevent]
  rfl

theorem jobEnd_countsFail (s : State) (j : KeyJob) {result : Nat} (h : result = 1 ∨ result = 2) :
    (s.jobEnd j result).rd R.KEY_CNT_UNWRAP_FAIL = s.rd R.KEY_CNT_UNWRAP_FAIL + 1 :=
  jobEnd_counts (by decide) (fun _ => if_pos h) s j

theorem jobEnd_countsDuplicate (s : State) (j : KeyJob) : (s.jobEnd j 3).rd R.KEY_CNT_DUP_KEY = s.rd R.KEY_CNT_DUP_KEY + 1 :=
  jobEnd_counts (by decide) (fun _ => (if_neg (by decide)).trans (if_pos rfl)) s j

/-! ### The checks of the job at the head (R328-R332) -/

/-- The job at the head of the queue has been unwrapped with a result, and no fuse is being programmed. -/
structure AtHead (s : State) (j : KeyJob) (js : List KeyJob) (icv len : Bool) (key : List Byte) : Prop where
  jobs : s.key.jobs = j :: js
  fusing : s.key.fusing = false
  unwrap : j.unwrap s.wrapKey = (icv, len, key)

theorem AtHead.exec (h : AtHead s j js icv len key) : exec .unwrapJobComplete s = .next (s.unwrapDone j) := by
  refine congrArg Host.Outcome.next ?_
  rw [h.jobs]
  exact if_neg (ne_true_of_eq_false h.fusing)

theorem exec_unwrapJobComplete_idle (h : s.key.jobs = [] ∨ s.key.fusing = true) : exec .unwrapJobComplete s = .next s := by
  refine congrArg Host.Outcome.next ?_
  rcases hjobs : s.key.jobs with - | ⟨j, js⟩
  · rfl
  · exact if_pos (h.resolve_left (by simp [hjobs]))

theorem unwrapDone_locked (hl : s.key.locked = true) : s.unwrapDone j = s.jobEnd j 6 := if_pos hl

theorem unwrapDone_noEntropy (hl : s.key.locked = false) (he : s.key.entropy = false) : s.unwrapDone j = s.jobEnd j 7 :=
  (if_neg (ne_true_of_eq_false hl)).trans (if_pos (ne_true_of_eq_false he))

/-- The engine may unwrap: it is not locked out, and its entropy source passes its tests. -/
def Ready (s : State) : Prop := s.key.locked = false ∧ s.key.entropy = true

theorem unwrapDone_reserved (hr : Ready s) (ht : j.target = .reserved) : s.unwrapDone j = s.jobEnd j 2 := by
  simp [State.unwrapDone, hr.1, hr.2, ht]

theorem unwrapDone_badIcv (h : AtHead s j js false len key) (hr : Ready s) (ht : j.target ≠ .reserved) :
    s.unwrapDone j = s.jobEnd j 1 := by
  simp [State.unwrapDone, h.unwrap, hr.1, hr.2, ht]

theorem unwrapDone_badLength (h : AtHead s j js true false key) (hr : Ready s) (ht : j.target ≠ .reserved) :
    s.unwrapDone j = s.jobEnd j 2 := by
  simp [State.unwrapDone, h.unwrap, hr.1, hr.2, ht]

/-! ### The key goes to its target (R312, R317, R336, R437) -/

theorem unwrapDone_link (h : AtHead s j js true true key) (hr : Ready s) (ht : j.target = .link n i) :
    s.unwrapDone j = s.loadKey j n i key := by
  simp [State.unwrapDone, h.unwrap, hr.1, hr.2, ht]

theorem unwrapDone_memory (h : AtHead s j js true true key) (hr : Ready s) (ht : j.target = .memory) :
    s.unwrapDone j = if s.mxe.running then s.jobEnd j 10 else if key.take 32 = key.drop 32 then s.jobEnd j 11
      else (nextKeyLoaded s key).jobEnd j 0 := by
  simp [State.unwrapDone, h.unwrap, hr.1, hr.2, ht, nextKeyLoaded]

theorem unwrapDone_wrap (h : AtHead s j js true true key) (hr : Ready s) (ht : j.target = .wrap) :
    s.unwrapDone j = if s.key.freeSlot = none then s.installEnd j 8 else if s.log.pf then s.installEnd j 9
      else s.setKey (fun k => { k with fusing := true, newKey := key }) := by
  simp [State.unwrapDone, h.unwrap, hr.1, hr.2, ht]

theorem nextKeyLoaded_frame (s : State) (key : List Byte) : FrameEv [.mxe] [] s (nextKeyLoaded s key) :=
  ((FrameEv.refl _ _ s).with_mxe (by decide)).andFire _ _

/-- A key of the pair has another check value, or its index is empty. -/
theorem held_iff {k : KeySlot} {cv : BitVec 64} :
    (decide (k.st ≠ .empty) && decide (k.cv = cv)) = true ↔ ¬ (k.cv ≠ cv ∨ k.st = .empty) := by
  simp [and_comm]

/-- A link key that its pair does not hold and did not hold lately goes into an empty index. -/
theorem loadKey_loads (hst : ((s.pair n).slot i).st = .empty) (h0 : (s.pair n).k0.cv ≠ Config.keyCheck key ∨ (s.pair n).k0.st = .empty)
    (h1 : (s.pair n).k1.cv ≠ Config.keyCheck key ∨ (s.pair n).k1.st = .empty)
    (hhist : (s.pair n).hist.contains (Config.keyCheck key) = false) :
    s.loadKey j n i key =
      (s.setPair n ((s.pair n).setSlot i { st := .loaded, key := key, cv := Config.keyCheck key })).jobEnd j 0 := by
  have hactive : ((s.pair n).slot i).st ≠ .active := by simp [hst]
  unfold State.loadKey
  dsimp only
  rw [if_neg hactive, if_pos hst, if_neg]
  rintro (hheld | hheld | hheld)
  · exact held_iff.1 hheld h0
  · exact held_iff.1 hheld h1
  · exact ne_true_of_eq_false hhist hheld

theorem setPair_pair (s : State) (n : Fin 8) (x : Pair) : (s.setPair n x).pair n = x := Vector.getElem_set_self _

/-! ### The key commands (R329, R330, R336) -/

theorem opKeyCmd_act {t : Nat} (ht : t % 4 ≠ 2) : s.opKeyCmd r (cmdWord v t) = cmdAct r (cmdWord v t) s := by
  rw [opKeyCmd_eq (cmdWord_starts v t), cmdWord_target, if_neg ht]

theorem opKeyCmd_busy {t : Nat} (ht : t % 4 ≠ 2) (hb : s.key.busy = true) :
    (s.reply .done).opKeyCmd r (cmdWord v t) = (s.reply .done).refuse r R.KEY_KEY_CMD :=
  (opKeyCmd_act ht).trans (if_pos hb)

theorem keyCmdLink_busy (ht : Taken s r R.KEY_KEY_CMD) (hb : s.key.busy = true) :
    exec (.keyCmdLink r v) s = .next ((s.reply .done).refuse r R.KEY_KEY_CMD) :=
  congrArg Host.Outcome.next ((Taken_access ht).trans (opKeyCmd_busy (t := 0) (by decide) hb))

theorem keyCmdMemory_busy (ht : Taken s r R.KEY_KEY_CMD) (hb : s.key.busy = true) :
    exec (.keyCmdMemory r v) s = .next ((s.reply .done).refuse r R.KEY_KEY_CMD) :=
  congrArg Host.Outcome.next ((Taken_access ht).trans (opKeyCmd_busy (t := 1) (by decide) hb))

theorem reply_frame (s : State) (x : Resp) : Frame [.resp] [] s (s.reply x) := (Frame.refl _ _ s).reply x (by decide)

theorem jobQueued_frame (s : State) (t : KeyTarget) : Frame [.key, .resp] [] s (jobQueued s t) :=
  ((reply_frame s .done).mono (by decide) (by decide)).trans ((setKey_frame _ _).mono (by decide) (by decide))

/-! ### Fuses, lockout, entropy (R331, R332, R336) -/

theorem fuseInstalled_frame (s : State) (i : Nat) : FrameEv [.key] [R.KEY_CNT_INSTALL] s (fuseInstalled s i) :=
  (((FrameEv.refl _ _ s).setKey _ (by decide)).bump _ (by decide)).andFire _ _

theorem fuseInstalled_key (s : State) (i : Nat) : (fuseInstalled s i).key =
    { s.key with fused := s.key.fused ||| BitVec.ofNat 8 (2 ^ i), wraps := mapIns s.key.wraps i s.key.newKey } :=
  State.fire_key _ _ _

theorem fuseInstalled_counts (s : State) (i : Nat) : (fuseInstalled s i).rd R.KEY_CNT_INSTALL = s.rd R.KEY_CNT_INSTALL + 1 := by
  rw [fuseInstalled, State.fire_rd _ _ _ (by decide), State.rd_bump_self, State.setKey_rd]

/-- The fuse slot failed its read-back. -/
def fuseBad (s : State) (i : Nat) : State := s.setKey (fun k => { k with bad := k.bad ||| BitVec.ofNat 8 (2 ^ i) })

theorem fuseProgramDone_fails {i : Nat} (hj : s.key.jobs = j :: js) (hs : s.key.freeSlot = some i) (hf : s.key.fusing = true) :
    exec (.fuseProgramDone false) s = .next ((fuseBad s i).installEnd j 9) := by
  refine congrArg Host.Outcome.next ?_
  rw [hj, hs]
  exact (if_neg (not_not_intro hf)).trans (if_neg Bool.false_ne_true)

/-- The lockout has ended; the next lasts twice as long. -/
def unlocked (s : State) : State :=
  (s.setKey (fun k => { k with locked := false, backoff := min 1024 (2 * k.backoff) })).stopTimer T.lockout

theorem unlocked_frame (s : State) : Frame [.key, .timers] [] s (unlocked s) :=
  ((setKey_frame s _).mono (by decide) (by decide)).stopTimer _ (by decide)

theorem unlocked_timer (s : State) : (unlocked s).running T.lockout = false := by
  simp [unlocked]

theorem lockoutEnd_idle (h : s.key.locked = false) : exec .lockoutEnd s = .next s :=
  congrArg Host.Outcome.next (if_neg (ne_true_of_eq_false h))

/-- The entropy source of the line die has failed its test. -/
def entropyLost (s : State) : State := (s.setKey (fun k => { k with entropy := false })).fire P.KEY E.KEY_ENTROPY_FAIL

theorem entropyLost_frame (s : State) : FrameEv [.key] [] s (entropyLost s) :=
  ((FrameEv.refl _ _ s).setKey _ (by decide)).andFire _ _

theorem entropyLost_raises (h : s.domOn (domainOf (R.HDR_EVT_RAW P.KEY)) = true) : Raised (entropyLost s) P.KEY E.KEY_ENTROPY_FAIL :=
  State.fire_raised h (by decide)

/-! ### Erasing (R318) -/

/-- A pair without keys and history. -/
def erased (x : Pair) : Pair := { x with k0 := {}, k1 := {}, hist := [], old := none }

theorem erasePair_pair (s : State) (d n : Fin 8) : (s.erasePair d).pair n = if n = d then erased (s.pair n) else s.pair n := by
  unfold State.pair
  rw [erasePair_pairs]
  rcases eq_or_ne n d with rfl | hne
  · rw [if_pos rfl]
    exact Vector.getElem_set_self _
  · rw [if_neg hne]
    exact Vector.getElem_set_ne _ _ (fun h => hne (Fin.ext h.symm))

theorem erased_erased (x : Pair) : erased (erased x) = erased x := rfl

/-- A pass over pairs of which each step erases the pair that it comes to, if `p` names it, erases those that `p` names. -/
theorem foldl_erases_iff {f : State → Fin 8 → State} {p : Fin 8 → Bool}
    (hf : ∀ t d n, (f t d).pair n = if n = d ∧ p d then erased (t.pair n) else t.pair n) (ds : List (Fin 8)) (s : State) (n : Fin 8) :
    (ds.foldl f s).pair n = if n ∈ ds ∧ p n then erased (s.pair n) else s.pair n := by
  induction ds generalizing s with
  | nil => simp
  | cons d ds ih =>
    rw [List.foldl_cons, ih, hf]
    rcases eq_or_ne n d with rfl | hne
    · by_cases hp : p n = true
      · simp [hp, erased_erased]
      · simp [hp]
    · simp [hne]

theorem eraseAll_pair (s : State) (n : Fin 8) : s.eraseAll.pair n = erased (s.pair n) :=
  (foldl_erases_iff (p := fun _ => true) (fun t d n => by simp [erasePair_pair]) _ s n).trans (if_pos ⟨List.mem_finRange n, rfl⟩)

theorem eraseNamed_pair (v : Word) (t : State) (d n : Fin 8) :
    (eraseNamed v t d).pair n = if n = d ∧ v.getLsbD d.val then erased (t.pair n) else t.pair n := by
  unfold eraseNamed
  by_cases hv : v.getLsbD d.val = true
  · simp [hv, erasePair_pair]
  · simp [hv]

theorem opKeyErase_pair (hv : v.getLsbD 8 = false) (s : State) (n : Fin 8) :
    (s.opKeyErase v).pair n = if v.getLsbD n.val then erased (s.pair n) else s.pair n := by
  rw [opKeyErase_named hv, foldl_erases_iff (p := fun d => v.getLsbD d.val) (eraseNamed_pair v)]
  simp

theorem opKeyErase_frame (s : State) (v : Word) : Frame [.pairs, .upb, .resp] [] s ((s.reply .done).opKeyErase v) :=
  have hkeeps := State.opKeyErase_keeps v (List.Subset.refl _) (SameBut.refl _ (s.reply .done))
  ((reply_frame s .done).mono (by decide) (by decide)).upd hkeeps (by decide) (hkeeps .regs (by decide))

theorem getLsbD_pairs (pairs : BitVec 8) (n : Fin 8) : (pairs.setWidth 32).getLsbD n.val = pairs.getLsbD n.val := by
  rw [BitVec.getLsbD_setWidth, decide_eq_true (by omega), Bool.true_and]

theorem exec_keyErasePair (ht : Taken s r R.LCK_KEY_ERASE) (pairs : BitVec 8) :
    exec (.keyErasePair r pairs) s = .next ((s.reply .done).opKeyErase (pairs.setWidth 32)) :=
  congrArg Host.Outcome.next (Taken_access ht)

theorem keyErasePair_pair (pairs : BitVec 8) (s : State) (n : Fin 8) : ((s.reply .done).opKeyErase (pairs.setWidth 32)).pair n =
    if pairs.getLsbD n.val then erased (s.pair n) else s.pair n := by
  rw [opKeyErase_pair (by simp), getLsbD_pairs]
  rfl

theorem exec_keyEraseAll (ht : Taken s r R.LCK_KEY_ERASE) : exec (.keyEraseAll r) s = .next ((s.reply .done).opKeyErase 0x100) :=
  congrArg Host.Outcome.next (Taken_access ht)

theorem keyEraseAll_pair (s : State) (n : Fin 8) : ((s.reply .done).opKeyErase 0x100).pair n = erased (s.pair n) := by
  rw [opKeyErase_all (by decide), eraseAll_pair]
  rfl

/-! ### The lock of the countermeasures (R334) -/

theorem exec_unwLock (ht : Taken s r R.KEY_UNW_LOCK) : exec (.unwLock r) s = .next ((s.reply .done).store R.KEY_UNW_LOCK 1) :=
  congrArg Host.Outcome.next (Taken_access ht)

/-- A locked countermeasure that is on may not be switched off. -/
theorem unwCfgWrite_refused (ht : Taken s r R.KEY_UNW_CFG) (hl : s.bit F.KEY_UNW_LOCK_LOCK = true)
    (hv : v.getLsbD F.KEY_UNW_CFG_SHUFFLE.lo = false) (hs : s.fld F.KEY_UNW_CFG_SHUFFLE = 1) :
    exec (.unwCfgWrite r v) s = .next ((s.reply .done).refuse r R.KEY_UNW_CFG) := by
  have hoff : getField v F.KEY_UNW_CFG_SHUFFLE.lo F.KEY_UNW_CFG_SHUFFLE.w = 0 := by
    rw [getLsbD_eq_getField, decide_eq_false_iff_not] at hv
    exact (Nat.mod_two_eq_zero_or_one _).resolve_right hv
  have hlower : decide (getField v F.KEY_UNW_CFG_SHUFFLE.lo F.KEY_UNW_CFG_SHUFFLE.w < (s.reply .done).fld F.KEY_UNW_CFG_SHUFFLE) = true := by
    rw [State.reply_fld, hoff, hs]
    rfl
  exact congrArg Host.Outcome.next ((Taken_access ht).trans (if_pos ⟨hl, .inr (.inr (.inr hlower))⟩))

/-- Settles O30: the outcome of each check of a job, what the end of a job leaves, and each command by its lemma. -/
theorem keysAndUnwrap : Obligations.KeysAndUnwrap := by
  unfold Obligations.KeysAndUnwrap
  refine ⟨fun j js icv len key s hj hf hu => ?checks, fun s h => exec_unwrapJobComplete_idle h,
    fun j js n i key s hj hf hl he ht hu hst h0 h1 hhist => ?loads,
    fun j result s => ⟨jobEnd_frame s j result, jobEnd_jobs s j result, fun h => h ▸ jobEnd_countsOk s j, jobEnd_countsFail s j,
      fun h => h ▸ jobEnd_countsDuplicate s j⟩,
    fun r v s ht => ⟨fun hb => ⟨keyCmdLink_busy ht hb, keyCmdMemory_busy ht hb⟩, fun hb hlen =>
      ⟨⟨_, _, _, keyCmdLink_queues ht hb hlen, jobQueued_frame s _, jobQueued_parts s _⟩,
        ⟨_, keyCmdMemory_queues ht hb hlen, jobQueued_frame s _, jobQueued_parts s _⟩⟩⟩,
    fun r v s ht hd hp hb hlen => ⟨_, keyCmdWrap_queues ht ⟨hd, hp⟩ hb hlen, jobQueued_frame s _, jobQueued_parts s _⟩,
    fun j js i s hj hs hf =>
      ⟨⟨fuseInstalled s i, fuseProgramDone_installs hj hs hf, fuseInstalled_frame s i, fuseInstalled_key s i, fuseInstalled_counts s i⟩,
        ⟨fuseBad s i, fuseProgramDone_fails hj hs hf, setKey_frame s _, rfl⟩⟩,
    fun s => ⟨fun h => ⟨unlocked s, lockoutEnd_ends h, unlocked_frame s, rfl, unlocked_timer s⟩, lockoutEnd_idle⟩,
    fun s => ⟨rfl, entropyLost s, entropyTestFail_line s, entropyLost_frame s, State.fire_key _ _ _, entropyLost_raises⟩,
    fun r pairs s ht =>
      ⟨⟨_, exec_keyErasePair ht pairs, opKeyErase_frame s _, opKeyErase_resp _ _, keyErasePair_pair pairs s⟩,
        ⟨_, exec_keyEraseAll ht, opKeyErase_frame s _, opKeyErase_resp _ _, keyEraseAll_pair s⟩⟩,
    fun r v s => ⟨fun ht => ⟨_, exec_unwLock ht, ((reply_frame s .done).mono (by decide) (by decide)).store _ _ (by decide), unwLock_sets _⟩,
      unwCfgWrite_stores, unwCfgWrite_refused⟩⟩
  case checks =>
    have h : AtHead s j js icv len key := ⟨hj, hf, hu⟩
    rw [h.exec]
    refine ⟨fun hl => congrArg _ (unwrapDone_locked hl), fun hl he => congrArg _ (unwrapDone_noEntropy hl he),
      fun hl he ht => congrArg _ (unwrapDone_reserved ⟨hl, he⟩ ht), ?icv, ?len, ?target⟩
    case icv =>
      rintro hl he ht rfl
      exact congrArg _ (unwrapDone_badIcv h ⟨hl, he⟩ ht)
    case len =>
      rintro hl he ht rfl rfl
      exact congrArg _ (unwrapDone_badLength h ⟨hl, he⟩ ht)
    case target =>
      rintro hl he rfl rfl
      have hready : Ready s := ⟨hl, he⟩
      exact ⟨fun n i ht hst => congrArg _ ((unwrapDone_link h hready ht).trans (if_pos hst)),
        fun ht hrun => congrArg _ ((unwrapDone_memory h hready ht).trans (if_pos hrun)),
        fun ht hrun heq => congrArg _ ((unwrapDone_memory h hready ht).trans ((if_neg (ne_true_of_eq_false hrun)).trans (if_pos heq))),
        fun ht hrun hne => ⟨nextKeyLoaded s key, h.exec.symm.trans (unwrapMemory_loads hj hf hl he ht hu hrun hne),
          nextKeyLoaded_frame s key, nextKeyLoaded_mxe s key⟩,
        fun ht hfree => congrArg _ ((unwrapDone_wrap h hready ht).trans (if_pos hfree)),
        fun ht hfree hpf => congrArg _ ((unwrapDone_wrap h hready ht).trans ((if_neg hfree).trans (if_pos hpf))),
        fun ht hfree hpf =>
          congrArg _ ((unwrapDone_wrap h hready ht).trans ((if_neg hfree).trans (if_neg (ne_true_of_eq_false hpf))))⟩
  case loads =>
    have h : AtHead s j js true true key := ⟨hj, hf, hu⟩
    refine ⟨_, ?_, setPair_frame s n _, setPair_pair s n _⟩
    rw [h.exec, unwrapDone_link h ⟨hl, he⟩ ht, loadKey_loads hst h0 h1 hhist]

end Sys2Proof.Proofs.KeysAndUnwrap
end

section
/-! PROOF. The parse instructions (O31): what lets a program go on changes the packets of its pipeline alone; then one equation for each
other end of an instruction, and the engine that runs no program. -/

namespace Sys2Proof

open Sys2Proof.Machine

variable {ps : List Part} {ks : List Nat} {s t : State}

theorem Frame.setPipe (h : Frame ps ks s t) (p : Fin 4) (x : Pipe) (hp : .pipes ∈ ps) : Frame ps ks s (t.setPipe p x) :=
  h.upd (State.setPipe_keeps p x (List.Subset.refl _) (SameBut.refl _ t)) (by simpa using hp) rfl

end Sys2Proof

namespace Sys2Proof.Proofs.ParseInstructions

open Sys2Proof Sys2Proof.Machine Sys2Proof.Proofs.ParseCommands

variable {s : State} {w : Word} {e : Fin 128} {p : Fin 4} {k : Pkt} {g : Engine} {op : Nat}

/-! ### The program goes on -/

theorem setSlotOf_frame (s : State) (p : Fin 4) (x : ParseSlot) : Frame [.pipes] [] s (s.setSlotOf p x) :=
  (Frame.refl _ _ s).setPipe p _ (by decide)

/-- A command that replaces the slot of its packet leaves everything else alone. -/
theorem goesOn {c : Instr} {x : ParseSlot} (h : exec c s = .next (s.setSlotOf p x)) :
    ∃ t, exec c s = .next t ∧ Frame [.pipes] [] s t ∧ t = s.setSlotOf p x :=
  ⟨_, h, setSlotOf_frame s p x, rfl⟩

/-- A fetched instruction ends as its operation says. -/
theorem parseOp_ends {f : Pkt → Engine → Word → PRes} {x : PRes} (h : Fetches s e op p k g w) (hf : f k (advanced g) w = x) :
    (.next (s.parseOp e (· == op) f) : Res) = .next (stepped s p k g.pc x) :=
  congrArg Host.Outcome.next ((parseOp_fetched (is := (· == op)) h (beq_self_eq_true op) f).trans (congrArg _ hf))

/-! ### Loads (R345, R348) -/

/-- The bits that LD loads. -/
def ldValue (k : Pkt) (g : Engine) (w : Word) : BitVec 16 :=
  BitVec.ofNat 16 (ofBytesBE (k.bytes (g.c + getField w 18 8) ((getField w 15 3 + getField w 11 4) / 8 + 1)) /
    2 ^ (8 * ((getField w 15 3 + getField w 11 4) / 8 + 1) - getField w 15 3 - (getField w 11 4 + 1)) % 2 ^ (getField w 11 4 + 1))

theorem opLd_value (h : windowEnd k (g.c + getField w 18 8) ((getField w 15 3 + getField w 11 4) / 8 + 1) = none) :
    opLd k g w = .cont k (g.setReg (insX w) (ldValue k g w)) := by
  unfold opLd
  dsimp only
  rw [← Nat.add_assoc, Nat.add_sub_cancel, h]
  rfl

theorem opLd_stops {x : PRes} (h : windowEnd k (g.c + getField w 18 8) ((getField w 15 3 + getField w 11 4) / 8 + 1) = some x) :
    opLd k g w = x := by
  unfold opLd
  dsimp only
  rw [← Nat.add_assoc, Nat.add_sub_cancel, h]

/-- The first byte read decides where it lies past the packet or past the window. -/
theorem windowEnd_first (i n : Nat) (h : k.l ≤ i ∨ 256 ≤ i) :
    windowEnd k i (n + 1) = some (if k.l ≤ i then .mal k else .ends { k with deep := true }) := by
  have hfind : (List.range (n + 1)).find? (fun j => decide (k.l ≤ i + j) || decide (256 ≤ i + j)) = some 0 := by
    rw [List.range_succ_eq_map, List.find?_cons_of_pos (by simpa using h)]
  unfold windowEnd
  rw [hfind]
  dsimp only
  rw [apply_ite some]
  rfl

theorem ld_past (h : Fetches s e 0x01 p k g w) (hl : k.l ≤ g.c + getField w 18 8) : exec (.ld e) s = .next (s.parseMal p k) :=
  parseOp_ends h (opLd_stops ((windowEnd_first _ _ (.inl hl)).trans (congrArg some (if_pos hl))))

theorem ld_deep (h : Fetches s e 0x01 p k g w) (hw : 256 ≤ g.c + getField w 18 8) (hl : g.c + getField w 18 8 < k.l) :
    exec (.ld e) s = .next (s.parseEnd p { k with deep := true } true) :=
  parseOp_ends h (opLd_stops ((windowEnd_first _ _ (.inr hw)).trans (congrArg some (if_neg (Nat.not_le.2 hl)))))

/-- What LDM loads, by the number in its word. -/
def ldmSource (k : Pkt) (g : Engine) : List Nat := [k.src, k.pass, k.l, g.c, g.e, g.h]

theorem opLdm_source (h : getField w 0 3 ≤ 5) :
    opLdm k g w = .cont k (g.setReg (insX w) (BitVec.ofNat 16 ((ldmSource k g).getD (getField w 0 3) 0))) := by
  unfold opLdm
  generalize getField w 0 3 = m at h
  interval_cases m <;> rfl

theorem opLdm_reserved (h : 5 < getField w 0 3) : opLdm k g w = .fault 1 := by
  have h8 : getField w 0 3 < 8 := Nat.mod_lt _ (by decide)
  unfold opLdm
  generalize getField w 0 3 = m at h h8
  interval_cases m <;> rfl

/-! ### Jumps (R345, R352, R356) -/

theorem jumpTo_faults (h : getField w 16 10 < 64) : jumpTo k (advanced g) w = .fault 3 := if_pos h

/-- The ends of a jump under a condition on the engine. -/
theorem condJump_ends {i : Instr} {c : Engine → Word → Prop} [∀ g w, Decidable (c g w)] (h : Fetches s e op p k g w)
    (hi : exec i s = .next (s.parseOp e (· == op) (fun k g w => if c g w then jumpTo k g w else .cont k g))) :
    (¬ c (advanced g) w → ∃ t, exec i s = .next t ∧ Frame [.pipes] [] s t ∧ t = s.setSlotOf p ⟨k, .engine (advanced g)⟩) ∧
    (c (advanced g) w → 64 ≤ getField w 16 10 → ∃ t, exec i s = .next t ∧ Frame [.pipes] [] s t ∧
      t = s.setSlotOf p ⟨k, .engine (jumped g w)⟩) ∧
    (c (advanced g) w → getField w 16 10 < 64 → exec i s = .next (s.parseFault p k 3 g.pc)) :=
  ⟨fun hc => goesOn (hi.trans (parseOp_ends (x := .cont k (advanced g)) h (if_neg hc))),
    fun hc ht => goesOn (hi.trans (parseOp_ends (x := .cont k (jumped g w)) h ((if_pos hc).trans (jumpTo_goes ht)))),
    fun hc ht => hi.trans (parseOp_ends (x := .fault 3) h ((if_pos hc).trans (jumpTo_faults ht)))⟩

/-! ### The key (R345, R348, R352) -/

theorem opExt_faults (h : getField w 21 6 < 2 ∨ 64 < getField w 21 6 + (getField w 8 4 + 1)) : opExt k g w = .fault 5 := if_pos h

theorem opExt_writes (h2 : 2 ≤ getField w 21 6) (h64 : getField w 21 6 + (getField w 8 4 + 1) ≤ 64)
    (hend : windowEnd k (g.c + getField w 13 8) (getField w 8 4 + 1) = none) : opExt k g w =
      .cont { k with key := putBytes k.key (getField w 21 6) (k.bytes (g.c + getField w 13 8) (getField w 8 4 + 1)) } g := by
  unfold opExt
  dsimp only
  rw [if_neg (by omega), hend]

theorem opKst_faults (h : getField w 20 6 < 2 ∨ 62 < getField w 20 6) : opKst k g w = .fault 5 := if_pos h

theorem opKst_writes (h2 : 2 ≤ getField w 20 6) (h62 : getField w 20 6 ≤ 62) : opKst k g w =
    .cont { k with key := putBytes k.key (getField w 20 6) (toBytesBE 2 (g.reg (insX w)).toNat) } g := if_neg (by omega)

/-! ### Headers and lengths (R349, R350) -/

theorem opHdr_faults (h : hdrRule k g (getField w 21 6) (g.reg (w.getLsbD 20)) (getField w 18 2) = none) : opHdr k g w = .fault 4 := by
  unfold opHdr
  dsimp only
  rw [h]

section Rule

variable {len eo : Nat} {ok frag : Bool}
  (hrule : hdrRule k g (getField w 21 6) (g.reg (w.getLsbD 20)) (getField w 18 2) = some (len, ok, eo, frag))

include hrule

theorem opHdr_full (hh : g.h = 16) : opHdr k g w = .ends { k with deep := true } := by
  unfold opHdr
  dsimp only
  rw [hrule]
  exact if_pos hh

theorem opHdr_bad (hh : g.h ≠ 16) (hbad : ok = false ∨ g.e < g.c + len) : opHdr k g w = .mal k := by
  have hmal : ¬ ok = true ∨ (g.e : Int) - g.c < len := hbad.imp ne_true_of_eq_false (by omega)
  unfold opHdr
  dsimp only
  rw [hrule]
  exact (if_neg hh).trans (if_pos hmal)

end Rule

theorem opLchk_short (hle : w.getLsbD 25 = true) (h : g.e < g.c + (g.reg (insX w)).toNat) : opLchk k g w = .mal k := by
  unfold opLchk
  dsimp only
  rw [if_pos hle]
  exact if_pos (by simp; omega)

theorem opLchk_differs (hle : w.getLsbD 25 = false) (h : g.e ≠ g.c + (g.reg (insX w)).toNat) : opLchk k g w = .mal k := by
  unfold opLchk
  dsimp only
  rw [if_neg (ne_true_of_eq_false hle)]
  exact if_pos (by simp; omega)

theorem opLchk_fits (h : g.c + (g.reg (insX w)).toNat ≤ g.e) (heq : w.getLsbD 25 = true ∨ g.c + (g.reg (insX w)).toNat = g.e) :
    opLchk k g w = .cont k (if w.getLsbD 24 then { g with e := g.c + (g.reg (insX w)).toNat } else g) := by
  by_cases hle : w.getLsbD 25 = true
  · exact opLchk_passes h hle
  · have he : g.c + (g.reg (insX w)).toNat = g.e := heq.resolve_left hle
    unfold opLchk
    dsimp only
    rw [if_neg hle]
    exact if_neg (by simp; omega)

/-! ### No program runs -/

theorem parseOp_idle (h : s.running? e = none) (is : Nat → Bool) (f : Pkt → Engine → Word → PRes) :
    (.next (s.parseOp e is f) : Res) = .next s := by
  unfold State.parseOp
  rw [h]

theorem stepBudgetFault_idle (h : s.running? e = none) : exec (.stepBudgetFault e) s = .next s := by
  refine congrArg Host.Outcome.next ?_
  rw [h]

theorem programFetchUe_idle (h : s.running? e = none) : exec (.programFetchUe e) s = .next s := by
  refine congrArg Host.Outcome.next ?_
  rw [h]

/-- Settles O31: each instruction by the equation of the end that its operands give it. -/
theorem parseInstructions : Obligations.ParseInstructions := by
  unfold Obligations.ParseInstructions
  refine ⟨fun _ _ _ _ _ _ h => goesOn (nop_steps h), fun _ _ _ _ _ _ h => goesOn (ldi_steps h), fun _ _ _ _ _ _ h => goesOn (addi_steps h),
    fun _ _ _ _ _ _ h => goesOn (add_steps h), fun _ _ _ _ _ _ h => goesOn (andi_steps h), fun _ _ _ _ _ _ h => goesOn (shl_steps h),
    fun _ _ _ _ _ _ h => goesOn (shr_steps h), fun _ _ _ _ _ _ h => goesOn (flag_steps h),
    fun _ _ _ g _ _ h hend => goesOn (parseOp_ends h (opLd_value (g := advanced g) hend)),
    fun _ _ _ _ _ _ h => ⟨ld_past h, ld_deep h⟩,
    fun _ _ _ g _ _ h => ⟨fun hn => goesOn (parseOp_ends h (opLdm_source (g := advanced g) hn)),
      fun hn => parseOp_ends h (opLdm_reserved hn)⟩,
    fun _ _ _ _ _ _ h => condJump_ends (c := fun g w => g.reg (insX w) = insImm w) h rfl,
    fun _ _ _ _ _ _ h => condJump_ends (c := fun g w => g.reg (insX w) ≠ insImm w) h rfl,
    fun _ _ _ _ _ _ h => condJump_ends (c := fun g w => (g.reg (insX w)).toNat < (insImm w).toNat) h rfl,
    fun _ _ _ _ _ _ h => ⟨fun ht => goesOn (jmp_steps ht h), fun ht => parseOp_ends h (jumpTo_faults ht)⟩,
    fun _ _ _ g _ _ h => ⟨fun hk => parseOp_ends h (opExt_faults hk),
      fun h2 h64 hend => goesOn (parseOp_ends h (opExt_writes (g := advanced g) h2 h64 hend))⟩,
    fun _ _ _ g _ _ h => ⟨fun hk => parseOp_ends h (opKst_faults hk),
      fun h2 h62 => goesOn (parseOp_ends h (opKst_writes (g := advanced g) h2 h62))⟩,
    fun _ _ _ g _ _ h => ⟨fun hr => parseOp_ends h (opHdr_faults (g := advanced g) hr), fun _ _ _ _ hr =>
      ⟨fun hh => parseOp_ends h (opHdr_full (g := advanced g) hr hh),
        fun hh hbad => parseOp_ends h (opHdr_bad (g := advanced g) hr hh hbad),
        ?hdr⟩⟩,
    fun _ _ _ g _ _ h => ⟨fun hle hx => parseOp_ends h (opLchk_short (g := advanced g) hle hx),
      fun hle hx => parseOp_ends h (opLchk_differs (g := advanced g) hle hx),
      fun hx heq => goesOn (parseOp_ends h (opLchk_fits (g := advanced g) hx heq))⟩,
    fun _ _ _ _ _ _ => ⟨done_ends, mal_ends, fun _ ho h => illegalOpcode_faults ho h, stepBudgetFault_faults, programFetchUe_drops⟩,
    fun e s h => ?idle⟩
  case hdr =>
    rintro hh rfl he hwin rfl
    exact goesOn (hdr_steps h hr hh he hwin)
  case idle =>
    have hop := parseOp_idle h
    exact ⟨hop _ _, hop _ _, hop _ _, hop _ _, hop _ _, hop _ _, hop _ _, hop _ _, hop _ _, hop _ _, hop _ _, hop _ _, hop _ _, hop _ _,
      hop _ _, hop _ _, hop _ _, hop _ _, hop _ _, hop _ _, hop _ _, stepBudgetFault_idle h, programFetchUe_idle h⟩

end Sys2Proof.Proofs.ParseInstructions
end

section
/-! PROOF. The parse stage (O32): how a packet enters it, what each end of a parse leaves, and the commands on program memory. -/

namespace Sys2Proof

open Sys2Proof.Machine

variable {ps : List Part} {ks : List Nat} {s t : State}

/-- Words are written at the keys of a list. -/
theorem Frame.foldl_wr (h : Frame ps ks s t) (key : Nat → Nat) (w : Nat → Word) (l : List Nat) (hk : ∀ i ∈ l, key i ∈ ks) :
    Frame ps ks s (l.foldl (fun (u : State) i => u.wr (key i) (w i)) t) := by
  induction l generalizing t with
  | nil => exact h
  | cons i l ih =>
    rw [List.forall_mem_cons] at hk
    exact ih (h.wr _ _ hk.1) hk.2

theorem FrameEv.retireEpochs (h : FrameEv ps ks s t) (hp : .epochs ∈ ps) : FrameEv ps ks s t.retireEpochs :=
  h.trans (FrameEv.foldl (fun u e => .ite (((FrameEv.refl _ _ u).setEpoch e _ hp).andFire _ _) (FrameEv.refl _ _ u)) _ t)

theorem FrameEv.dropSlot (h : FrameEv ps ks s t) (p : Fin 4) (id : Nat) (hp : .pipes ∈ ps) (he : .epochs ∈ ps) :
    FrameEv ps ks s (t.dropSlot p id) := ((h.setPipe p _ hp).releaseParse p hp).retireEpochs he

theorem FrameEv.countFlags (h : FrameEv ps ks s t) (k : Pkt) (hd : R.PRS_CNT_DEEP ∈ ks) (hf : R.PRS_CNT_FRAG ∈ ks) :
    FrameEv ps ks s (t.countFlags k) :=
  .ite ((FrameEv.ite (h.bump _ hd) h).bump _ hf) (.ite (h.bump _ hd) h)

namespace Machine

theorem State.retireEpochs_rd (s : State) {k : Nat} (he : eventReg k = false) : s.retireEpochs.rd k = s.rd k :=
  ((FrameEv.refl [.epochs] [] s).retireEpochs (by decide)).rd_eq (by simp) he

theorem State.retireEpochs_pipes (s : State) : s.retireEpochs.pipes = s.pipes :=
  State.retireEpochs_keeps (List.Subset.refl _) (SameBut.refl _ s) .pipes (by decide)

end Machine

end Sys2Proof

namespace Sys2Proof.Proofs.ParseStage

open Sys2Proof Sys2Proof.Machine Sys2Proof.Proofs.ParseCommands

variable {s : State} {r : Req} {v : Word} {p : Fin 4} {k : Pkt}

/-! ### A packet enters the stage (R341, R343, R344, R356) -/

theorem parseStart_idle (hrc : (s.pipes[p]).rc = []) (harr : (s.pipes[p]).arr = []) : exec (.parseStart p) s = .next s := by
  show execParseStart p s = _
  unfold execParseStart
  dsimp only
  rw [hrc, harr]

theorem parseStart_new {xs : List Arrival} (hrc : (s.pipes[p]).rc = []) (harr : (s.pipes[p]).arr = .pkt k :: xs) :
    exec (.parseStart p) s = .next (((s.setPipe p { s.pipes[p] with arr := xs }).parseStart p k).absorb p) := by
  show execParseStart p s = _
  unfold execParseStart
  dsimp only
  rw [hrc, harr]

/-- The pipelines with a packet that has entered the parse stage of one of them last. -/
def enteredPipes (s : State) (p : Fin 4) (k : Pkt) (fb : Bool) (st : ParseSt) : Vector Pipe 4 :=
  s.pipes.set p { s.pipes[p] with
    ord := (s.pipes[p]).ord + 1, parse := (s.pipes[p]).parse ++ [⟨{ k.clean with ord := (s.pipes[p]).ord, fb := fb }, st⟩] }

/-- A packet has entered the parse stage. -/
def entered (s : State) (p : Fin 4) (k : Pkt) (fb : Bool) (st : ParseSt) : State := { s with pipes := enteredPipes s p k fb st }

theorem entered_frame (s : State) (p : Fin 4) (k : Pkt) (fb : Bool) (st : ParseSt) : Frame [.pipes] [] s (entered s p k fb st) :=
  (Frame.refl _ _ s).setPipe p _ (by decide)

theorem parseStart_off (h : s.bit F.PRS_PRS_CTL_EN = false) :
    s.parseStart p k = (entered s p k true .extract).bump R.PRS_CNT_FB_OFF := if_pos (ne_true_of_eq_false h)

theorem parseStart_busy (h : s.bit F.PRS_PRS_CTL_EN = true) (hfree : (s.pipes[p]).freeEngine p = none) :
    s.parseStart p k = ((entered s p k true .extract).bump R.PRS_CNT_FB_BUSY).fire P.PRS E.PRS_FB_BUSY := by
  unfold State.parseStart
  dsimp only
  rw [if_neg (not_not_intro h), hfree]
  rfl

/-- The word at which the program of a new packet starts. -/
def entryPc (s : State) (p : Fin 4) (k : Pkt) : Nat := (mapGet 0 s.prog (s.dispatchCopy p * 1024 + k.src)).toNat % 1024

theorem parseStart_runs {e : Fin 128} (h : s.bit F.PRS_PRS_CTL_EN = true) (hfree : (s.pipes[p]).freeEngine p = some e) (hnew : k.pass = 0)
    (hpc : 64 ≤ entryPc s p k) :
    s.parseStart p k = entered s p k false (.engine ⟨e, s.dispatchCopy p, 0, k.l, 0, 0, 0, entryPc s p k, 0⟩) := by
  have hfirst : decide (k.pass = 0) = true := decide_eq_true hnew
  unfold State.parseStart
  dsimp only
  rw [if_neg (not_not_intro h), hfree]
  dsimp only
  rw [show ({ k.clean with ord := (s.pipes[p]).ord, fb := false } : Pkt).pass = k.pass from rfl, hfirst]
  exact if_neg (Nat.not_lt.2 hpc)

/-- The extractor takes a packet for which no engine runs: it is counted at `key`. -/
theorem toExtractor_frame (s : State) (p : Fin 4) (k : Pkt) (key : Nat) :
    FrameEv [.pipes] [key] s ((entered s p k true .extract).bump key) := ((entered_frame s p k true _).ev.mono (by decide) (by simp)).bump _ (by simp)

theorem toExtractor_counts (s : State) (p : Fin 4) (k : Pkt) (key : Nat) :
    ((entered s p k true .extract).bump key).rd key = s.rd key + 1 := State.rd_bump_self _ _

/-! ### The ends of a parse (R351, R352) -/

theorem parseEnd_frame (s : State) (p : Fin 4) (k : Pkt) :
    FrameEv [.pipes] [R.PRS_CNT_DEEP, R.PRS_CNT_FRAG, R.PRS_CNT_PARSED_LO, R.PRS_CNT_PARSED_HI] s (s.parseEnd p k true) :=
  ((((FrameEv.refl _ _ s).countFlags k (by decide) (by decide)).bump64 _ _ _ (by decide) (by decide)).setSlotOf p _ (by decide)).releaseParse
    p (by decide)

theorem parseMal_frame (s : State) (p : Fin 4) (k : Pkt) : FrameEv [.pipes, .epochs] [R.PRS_CNT_MALFORMED] s (s.parseMal p k) :=
  have hcounted := ((FrameEv.refl [.pipes, .epochs] [R.PRS_CNT_MALFORMED] s).bump R.PRS_CNT_MALFORMED (by decide)).andFire P.PRS E.PRS_MALFORMED
  .ite (((hcounted.setSlotOf p _ (by decide)).releaseParse p (by decide)).retireEpochs (by decide))
    (hcounted.dropSlot p _ (by decide) (by decide))

/-- From the count on, a MALFORMED packet changes no register but those of events. -/
theorem parseMal_counts (s : State) (p : Fin 4) (k : Pkt) : (s.parseMal p k).rd R.PRS_CNT_MALFORMED = s.rd R.PRS_CNT_MALFORMED + 1 := by
  have hafter : FrameEv [.pipes, .epochs] [] (s.bump R.PRS_CNT_MALFORMED) (s.parseMal p k) :=
    have hfired := (FrameEv.refl [.pipes, .epochs] [] (s.bump R.PRS_CNT_MALFORMED)).andFire P.PRS E.PRS_MALFORMED
    .ite (((hfired.setSlotOf p _ (by decide)).releaseParse p (by decide)).retireEpochs (by decide))
      (hfired.dropSlot p _ (by decide) (by decide))
  exact (hafter.rd_eq (by simp) (by decide)).trans (State.rd_bump_self _ _)

/-- What FAULT_LAST records of a fault. -/
def faultLast (k : Pkt) (cause pc : Nat) : Word := BitVec.ofNat 32 (cause + pc % 1024 * 2 ^ 3 + k.src * 2 ^ 13 + k.pass * 2 ^ 19)

/-- A fault has been counted and recorded. -/
def faulted (s : State) (k : Pkt) (cause pc : Nat) : State := (s.bump R.PRS_CNT_FAULT).wr R.PRS_FAULT_LAST (faultLast k cause pc)

theorem parseFault_after (s : State) (p : Fin 4) (k : Pkt) (cause pc : Nat) :
    FrameEv [.pipes] [] (faulted s k cause pc) (s.parseFault p k cause pc) :=
  ((FrameEv.refl _ _ _).setSlotOf p _ (by decide)).andFire _ _

theorem parseFault_frame (s : State) (p : Fin 4) (k : Pkt) (cause pc : Nat) :
    FrameEv [.pipes] [R.PRS_CNT_FAULT, R.PRS_FAULT_LAST] s (s.parseFault p k cause pc) :=
  (((FrameEv.refl _ _ s).bump _ (by decide)).wr _ _ (by decide)).trans ((parseFault_after s p k cause pc).mono (by decide) (by decide))

theorem parseFault_counts (s : State) (p : Fin 4) (k : Pkt) (cause pc : Nat) :
    (s.parseFault p k cause pc).rd R.PRS_CNT_FAULT = s.rd R.PRS_CNT_FAULT + 1 :=
  ((parseFault_after s p k cause pc).rd_eq (by simp) (by decide)).trans ((State.rd_wr_ne _ _ (by decide)).trans (State.rd_bump_self _ _))

theorem parseFault_records (s : State) (p : Fin 4) (k : Pkt) (cause pc : Nat) :
    (s.parseFault p k cause pc).rd R.PRS_FAULT_LAST = faultLast k cause pc :=
  ((parseFault_after s p k cause pc).rd_eq (by simp) (by decide)).trans (State.rd_wr_self _ _ _)

/-! ### Program memory (R356, R358) -/

theorem progDataWrite_refused (ht : Taken s r (R.PRS_PROG_DATA 3))
    (h : s.bit F.PRS_PROG_ADDR_VIEW = true ∨ s.bit F.PRS_PROG_STAT_BUSY = true ∨ s.applying P.PRS = true ∨ s.testing 2 none = true) :
    exec (.progDataWrite r v) s = .next ((s.reply .done).refuse r (R.PRS_PROG_DATA 3)) :=
  congrArg Host.Outcome.next ((Taken_access ht).trans (if_pos h))

/-- The registers that show program memory, and the address that selects them. -/
def progRegs : List Nat := [R.PRS_PROG_ADDR, R.PRS_PROG_DATA 0, R.PRS_PROG_DATA 1, R.PRS_PROG_DATA 2, R.PRS_PROG_DATA 3]

section Store

variable (hview : s.bit F.PRS_PROG_ADDR_VIEW = false) (hbusy : s.bit F.PRS_PROG_STAT_BUSY = false) (happ : s.applying P.PRS = false)
  (htest : s.testing 2 none = false)

include hview hbusy happ htest

theorem opProgData3_frame : Frame [.prog] progRegs s (s.opProgData3 r v) := by
  have hstored : Frame [.prog] progRegs s (progStored s v) :=
    (Frame.refl _ _ s).upd (SameBut.upd_prog (List.Subset.refl _) (SameBut.refl [.prog] s)) (by decide) rfl
  rw [opProgData3_eq hview hbusy happ htest]
  refine Frame.foldl_wr ?_ _ _ _ (by decide)
  split
  · exact hstored.setFld _ _ (by decide)
  · exact hstored

theorem opProgData3_prog : (s.opProgData3 r v).prog = (progStored s v).prog := by
  rw [opProgData3_eq hview hbusy happ htest, viewProg_prog]
  split
  · exact State.setFld_prog _ _ _
  · rfl

end Store

theorem progDataWrite_eq (ht : Taken s r (R.PRS_PROG_DATA 3)) :
    exec (.progDataWrite r v) s = .next ((s.reply .done).opProgData3 r v) := congrArg Host.Outcome.next (Taken_access ht)

theorem progCopy_eq (ht : Taken s r R.PRS_PROG_CMD) (htest : s.testing 2 none = false) :
    exec (.progCopy r v) s = .next ((s.reply .done).setFld F.PRS_PROG_STAT_BUSY 1) :=
  congrArg Host.Outcome.next ((Taken_access ht).trans
    ((if_neg (not_not_intro (PageControl.getLsbD_or_true v (by decide)))).trans (if_neg (ne_true_of_eq_false htest))))

/-- Settles O32: the ways into the stage by one equation each, the ends of a parse by their frames and counts, then program memory. -/
theorem parseStage : Obligations.ParseStage := by
  unfold Obligations.ParseStage
  refine ⟨fun _ _ hrc harr => parseStart_idle hrc harr, fun _ _ _ _ hrc => parseStart_recirculated hrc,
    fun _ _ _ _ hrc harr => parseStart_new hrc harr, fun p k s => ⟨fun hoff => ?off, fun hen hfree => ?busy, fun e hen hfree hnew hpc => ?runs⟩,
    fun _ _ _ h => fixedExtract_extracts h,
    fun p k s => ⟨parseEnd_frame s p k, parseMal_frame s p k, parseMal_counts s p k, fun c pc =>
      ⟨parseFault_frame s p k c pc, parseFault_counts s p k c pc, parseFault_records s p k c pc⟩⟩,
    fun r v s ht => ⟨progDataWrite_refused ht, fun hview hbusy happ htest =>
      ⟨_, progDataWrite_eq ht, ?stores, opProgData3_resp (s := s.reply .done) hview hbusy happ htest,
        opProgData3_prog (s := s.reply .done) hview hbusy happ htest⟩⟩,
    fun r v s ht htest => ⟨_, progCopy_eq ht htest, ((Frame.refl _ _ s).reply _ (by decide)).setFld _ _ (by decide), State.setFld_resp _ _ _,
      decide_eq_true (State.fld_setFld_self _ _ _ (by decide))⟩⟩
  case off =>
    rw [parseStart_off hoff]
    exact ⟨toExtractor_frame s p k _, toExtractor_counts s p k _, State.bump_pipes _ _⟩
  case busy =>
    rw [parseStart_busy hen hfree]
    exact ⟨(toExtractor_frame s p k _).andFire _ _, (State.fire_rd _ _ _ (by decide)).trans (toExtractor_counts s p k _),
      (State.fire_pipes _ _ _).trans (State.bump_pipes _ _)⟩
  case runs =>
    rw [parseStart_runs hen hfree hnew hpc]
    exact ⟨entered_frame s p k _ _, rfl⟩
  case stores =>
    exact ((Frame.refl [.prog, .resp] progRegs s).reply .done (by decide)).trans
      ((opProgData3_frame (s := s.reply .done) hview hbusy happ htest).mono (by decide) (List.Subset.refl _))

end Sys2Proof.Proofs.ParseStage
end

section
/-! SUPPORT. Bytes stored in memory, as one relation: where they stand they read back, and every other byte reads as before. -/

namespace Sys2Proof.Machine

open Sys2Proof

variable {s t u : State} {a n : Nat} {bs : List Byte}

theorem length_toBytesBE (n v : Nat) : (toBytesBE n v).length = n := by
  induction n with
  | zero => rfl
  | succ n ih => rw [toBytesBE, List.length_cons, ih]

/-- The memory of `t` is that of `s` with the bytes `bs` from `a` upward. -/
def Stores (s t : State) (a : Nat) (bs : List Byte) : Prop := t.mem = (s.writeBytes a bs).mem

theorem State.readByte_of_mem (h : t.mem = s.mem) (x : Nat) : t.readByte x = s.readByte x := by
  unfold State.readByte
  rw [h]

theorem State.readBytes_of_mem (h : t.mem = s.mem) (x n : Nat) : t.readBytes x n = s.readBytes x n := by
  unfold State.readBytes State.readByte
  rw [h]

theorem Stores.out (h : Stores s t a bs) (hn : bs.length = n) (x : Nat) (hx : x < a ∨ a + n ≤ x) : t.readByte x = s.readByte x :=
  (State.readByte_of_mem h x).trans (State.readByte_writeBytes_out bs s a x (by rwa [hn]))

theorem Stores.readBytes (h : Stores s t a bs) (hn : bs.length = n) : t.readBytes a n = bs := by
  rw [State.readBytes_of_mem h, ← hn, State.readBytes_writeBytes]

theorem writeBytes_mem_congr (h : t.mem = s.mem) (a : Nat) (bs : List Byte) : (t.writeBytes a bs).mem = (s.writeBytes a bs).mem := by
  induction bs generalizing s t a with
  | nil => exact h
  | cons b bs ih =>
    have hbyte : (t.writeByte a b).mem = (s.writeByte a b).mem := by rw [State.writeByte_mem, State.writeByte_mem, h]
    exact ih hbyte (a + 1)

/-- Steps that leave memory alone may come before and after. -/
theorem Stores.of_mem (h : Stores s t a bs) (hs : s.mem = u.mem) {t' : State} (ht : t'.mem = t.mem) : Stores u t' a bs :=
  ht.trans (h.trans (writeBytes_mem_congr hs a bs))

theorem State.storeBytes_stores (s : State) (a : Nat) (bs : List Byte) : Stores s (s.storeBytes a bs) a bs :=
  State.dramRange_keeps a bs.length (List.Subset.refl _) (SameBut.refl _ _) .mem (by decide)

/-- Bytes below external memory reach no DRAM. -/
theorem State.storeBytes_chip (s : State) (bs : List Byte) (h : a < extBase) : s.storeBytes a bs = s.writeBytes a bs := if_pos (.inl h)

theorem State.setCtx_stores (s : State) (ext : Bool) (i : Nat) (bs : List Byte) : Stores s (s.setCtx ext i bs) (s.ctxAddr ext i) bs :=
  State.storeBytes_stores s _ bs

theorem State.setCtx_chip (s : State) (i : Nat) (bs : List Byte) : s.setCtx false i bs = s.writeBytes (s.ctxAddr false i) bs := by
  refine State.storeBytes_chip s bs ?_
  show flowBase + 64 * (i % 65536) < extBase
  unfold flowBase extBase
  omega

end Sys2Proof.Machine

namespace Sys2Proof

open Sys2Proof.Machine

variable {ps : List Part} {ks : List Nat} {s t : State}

theorem Frame.storeBytes (h : Frame ps ks s t) (a : Nat) (bs : List Byte) (hm : .mem ∈ ps) (he : .ecc ∈ ps) (ho : .out ∈ ps) :
    Frame ps ks s (t.storeBytes a bs) :=
  h.upd (State.storeBytes_keeps a bs (List.Subset.refl _) (SameBut.refl _ t)) (by simp [hm, he, ho]) (State.storeBytes_regs t a bs)

theorem Frame.setCtx (h : Frame ps ks s t) (ext : Bool) (i : Nat) (bs : List Byte) (hm : .mem ∈ ps) (he : .ecc ∈ ps) (ho : .out ∈ ps) :
    Frame ps ks s (t.setCtx ext i bs) := h.storeBytes _ _ hm he ho

theorem Frame.writeBytes (h : Frame ps ks s t) (a : Nat) (bs : List Byte) (hm : .mem ∈ ps) : Frame ps ks s (t.writeBytes a bs) :=
  have hkeeps := State.writeBytes_keeps a bs (List.Subset.refl _) (SameBut.refl [.mem] t)
  h.upd hkeeps (by simpa using hm) (hkeeps .regs (by decide))

end Sys2Proof
end

section
/-! PROOF. The classifier and what follows it up to the queue (O33): each command with nothing to take, then one equation for each way in
which it treats the first packet of its stage. -/

namespace Sys2Proof.Proofs.Classifier

open Sys2Proof Sys2Proof.Machine

variable {s : State} {pipe : Fin 4} {k : Pkt} {ks : List Pkt} {ue : Bool} {u : Option Nat}

/-! ### No packet, or one that waits behind a marker (R51) -/

theorem classifyWalk_idle (h : (s.pipes[pipe]).cls = [] ∨ (∃ k ks, (s.pipes[pipe]).cls = k :: ks ∧ s.behindMark pipe 1 k.ord = true)) :
    exec (.classifyWalk pipe u) s = .next s := by
  show execClassifyWalk pipe u s = _
  unfold execClassifyWalk
  rcases h with h | ⟨k, ks, h, hb⟩
  · rw [h]
  · rw [h]
    exact if_pos hb

theorem flowLookup_idle (h : (s.pipes[pipe]).flow = [] ∨ (∃ k ks, (s.pipes[pipe]).flow = k :: ks ∧ s.behindMark pipe 2 k.ord = true)) :
    exec (.flowLookup pipe ue) s = .next s := by
  show execFlowLookup pipe ue s = _
  unfold execFlowLookup
  rcases h with h | ⟨k, ks, h, hb⟩
  · rw [h]
  · rw [h]
    exact if_pos hb

theorem police_idle (h : (s.pipes[pipe]).pol = [] ∨ (∃ k ks, (s.pipes[pipe]).pol = k :: ks ∧ s.behindMark pipe 3 k.ord = true)) :
    exec (.police pipe) s = .next s := by
  show execPolice pipe s = _
  unfold execPolice
  rcases h with h | ⟨k, ks, h, hb⟩
  · rw [h]
  · rw [h]
    exact if_pos hb

theorem recirculate_empty (h : (s.pipes[pipe]).rcOut = []) : exec (.recirculate pipe) s = .next s := by
  show execRecirculate pipe s = _
  unfold execRecirculate
  dsimp only
  rw [h]

theorem bufferAllocate_empty (h : (s.pipes[pipe]).buf = []) : exec (.bufferAllocate pipe) s = .next s := by
  show execBufferAllocate pipe s = _
  unfold execBufferAllocate
  rw [h]

theorem enqueue_empty (h : (s.pipes[pipe]).enq = []) : exec (.enqueue pipe) s = .next s := by
  show execEnqueue pipe s = _
  unfold execEnqueue
  rw [h]

theorem enqueue_takes (h : (s.pipes[pipe]).enq = k :: ks) :
    exec (.enqueue pipe) s = .next ((s.setPipe pipe { s.pipes[pipe] with enq := ks }).enqueue k) := by
  show execEnqueue pipe s = _
  unfold execEnqueue
  rw [h]

/-! ### Walks (R360, R363, R369) -/

/-- The first packet has left the classifier's stage. -/
def unclassified (s : State) (pipe : Fin 4) (ks : List Pkt) : State := s.setPipe pipe { s.pipes[pipe] with cls := ks }

theorem unclassified_frame (s : State) (pipe : Fin 4) (ks : List Pkt) : Frame [.pipes] [] s (unclassified s pipe ks) :=
  (Frame.refl _ _ s).setPipe pipe _ (by decide)

section Walk

variable (hcls : (s.pipes[pipe]).cls = k :: ks) (hb : s.behindMark pipe 1 k.ord = false)

include hcls hb

theorem classifyWalk_noRules (h : s.bit F.CLS_CLS_CTL_EN = false ∨ k.epoch.or (s.epochFor pipe k.src) = none) :
    exec (.classifyWalk pipe u) s = .next (((unclassified s pipe ks).bump R.CLS_CNT_NO_RULES).retireEpochs) := by
  have hep : (if ¬ s.bit F.CLS_CLS_CTL_EN = true then none else k.epoch.or (s.epochFor pipe k.src)) = none := by
    rcases h with h | h
    · exact if_pos (ne_true_of_eq_false h)
    · rw [h, ite_self]
  show execClassifyWalk pipe u s = _
  unfold execClassifyWalk
  rw [hcls]
  dsimp only
  rw [if_neg (ne_true_of_eq_false hb), hep]
  rfl

variable {e : Fin 16} (hen : s.bit F.CLS_CLS_CTL_EN = true) (hep : k.epoch.or (s.epochFor pipe k.src) = some e)

include hen hep

theorem classifyWalk_ue (hw : s.walkFrom (s.epochs[e]) k.fullKey (s.epochs[e]).root u 32 = .ue) : exec (.classifyWalk pipe u) s =
    .next ((((unclassified s pipe ks).bump R.CLS_CNT_TREE_UE).fire P.CLS E.CLS_TREE_UE).retireEpochs) := by
  show execClassifyWalk pipe u s = _
  unfold execClassifyWalk
  rw [hcls]
  dsimp only
  rw [if_neg (ne_true_of_eq_false hb), if_neg (not_not_intro hen), hep]
  dsimp only
  rw [hw]
  rfl

theorem classifyWalk_leaf {l : Leaf} (hw : s.walkFrom (s.epochs[e]) k.fullKey (s.epochs[e]).root u 32 = .leaf l) :
    exec (.classifyWalk pipe u) s = .next ((((unclassified s pipe ks).bump64 R.CLS_CNT_CLS_LO R.CLS_CNT_CLS_HI 1).leafAction pipe
      { k with epoch := some e } l).retireEpochs) := by
  show execClassifyWalk pipe u s = _
  unfold execClassifyWalk
  rw [hcls]
  dsimp only
  rw [if_neg (ne_true_of_eq_false hb), if_neg (not_not_intro hen), hep]
  dsimp only
  rw [hw]
  rfl

end Walk

/-- A packet that is dropped at the classifier, and counted at `key`. -/
theorem dropped_frame (s : State) (pipe : Fin 4) (ks : List Pkt) (key : Nat) :
    FrameEv [.pipes, .epochs] [key] s ((unclassified s pipe ks).bump key) :=
  ((unclassified_frame s pipe ks).ev.mono (by decide) (List.nil_subset _)).bump _ (List.mem_singleton_self _)

theorem dropped_counts (s : State) (pipe : Fin 4) (ks : List Pkt) (key : Nat) :
    ((unclassified s pipe ks).bump key).rd key = s.rd key + 1 := State.rd_bump_self _ _

/-! ### Recirculation (R372) -/

/-- A packet that has turned back to the parser. -/
def recirculated (s : State) (pipe : Fin 4) (k : Pkt) (ks : List Pkt) : State :=
  (s.setPipe pipe { s.pipes[pipe] with rcOut := ks, rc := (s.pipes[pipe]).rc ++ [{ k with pass := k.pass + 1 }] }).bump R.CLS_CNT_RECIRC

theorem recirculate_passes (h : (s.pipes[pipe]).rcOut = k :: ks) (hroom : (s.pipes[pipe]).rc.length < 64) :
    exec (.recirculate pipe) s = .next (recirculated s pipe k ks) := by
  show execRecirculate pipe s = _
  unfold execRecirculate
  dsimp only
  rw [h]
  exact if_neg (Nat.not_le.2 hroom)

theorem recirculated_frame (s : State) (pipe : Fin 4) (k : Pkt) (ks : List Pkt) :
    Frame [.pipes] [R.CLS_CNT_RECIRC] s (recirculated s pipe k ks) := ((Frame.refl _ _ s).setPipe pipe _ (by decide)).bump _ (by decide)

/-- A packet that finds 64 waiting to be parsed again. -/
def turnedAway (s : State) (pipe : Fin 4) (ks : List Pkt) : State := (s.setPipe pipe { s.pipes[pipe] with rcOut := ks }).bump R.CLS_CNT_RC_DROP

theorem recirculate_drops (h : (s.pipes[pipe]).rcOut = k :: ks) (hfull : 64 ≤ (s.pipes[pipe]).rc.length) :
    exec (.recirculate pipe) s = .next (((turnedAway s pipe ks).fire P.CLS E.CLS_RC_DROP).retireEpochs) := by
  show execRecirculate pipe s = _
  unfold execRecirculate
  dsimp only
  rw [h]
  exact if_pos hfull

theorem turnedAway_frame (s : State) (pipe : Fin 4) (ks : List Pkt) :
    FrameEv [.pipes, .epochs] [R.CLS_CNT_RC_DROP] s (turnedAway s pipe ks) :=
  ((FrameEv.refl _ _ s).setPipe pipe _ (by decide)).bump _ (by decide)

/-! ### Policing (R462) -/

/-- The first packet has left the policer's stage. -/
def unpoliced (s : State) (pipe : Fin 4) (ks : List Pkt) : State := s.setPipe pipe { s.pipes[pipe] with pol := ks }

theorem police_passes (h : (s.pipes[pipe]).pol = k :: ks) (hb : s.behindMark pipe 3 k.ord = false) (hp : k.leaf.polEn = false) :
    ∃ t, exec (.police pipe) s = .next t ∧ Frame [.pipes] [] s t ∧
      t.pipes = s.pipes.set pipe { s.pipes[pipe] with pol := ks, buf := (s.pipes[pipe]).buf ++ [k] } := by
  have hset : (unpoliced s pipe ks).pipes[pipe] = { s.pipes[pipe] with pol := ks } := Vector.getElem_set_self _
  refine ⟨(unpoliced s pipe ks).setPipe pipe { (unpoliced s pipe ks).pipes[pipe] with buf := ((unpoliced s pipe ks).pipes[pipe]).buf ++ [k] },
    ?_, ((Frame.refl _ _ s).setPipe pipe _ (by decide)).setPipe pipe _ (by decide), ?_⟩
  · show execPolice pipe s = _
    unfold execPolice
    rw [h]
    dsimp only
    rw [if_neg (ne_true_of_eq_false hb), if_neg (ne_true_of_eq_false hp)]
    rfl
  · rw [State.setPipe_pipes, hset]
    exact Vector.set_set _ _

theorem police_meets (h : (s.pipes[pipe]).pol = k :: ks) (hb : s.behindMark pipe 3 k.ord = false) (hp : k.leaf.polEn = true) :
    exec (.police pipe) s = .next (if ((unpoliced s pipe ks).policer pipe k.leaf.policer).1 then
      (((unpoliced s pipe ks).policer pipe k.leaf.policer).2).setPipe pipe
        { (((unpoliced s pipe ks).policer pipe k.leaf.policer).2).pipes[pipe] with
          buf := ((((unpoliced s pipe ks).policer pipe k.leaf.policer).2).pipes[pipe]).buf ++ [k] }
      else ((unpoliced s pipe ks).policer pipe k.leaf.policer).2) := by
  show execPolice pipe s = _
  unfold execPolice unpoliced
  rw [h]
  dsimp only
  rw [if_neg (ne_true_of_eq_false hb), if_pos hp]
  generalize State.policer _ pipe k.leaf.policer = x
  obtain ⟨passes, t⟩ := x
  cases passes <;> rfl

end Sys2Proof.Proofs.Classifier
end

section
/-! PROOF. The flow contexts (O33): the flow stage, ageing, and the commands of FLOW_CMD on the context addressed. -/

namespace Sys2Proof.Proofs.FlowContexts

open Sys2Proof Sys2Proof.Machine

variable {s : State} {pipe : Fin 4} {k : Pkt} {ks : List Pkt} {ue ext : Bool} {i : Nat} {r : Req} {v : Word}

theorem length_ctx (s : State) (ext : Bool) (i : Nat) : (s.ctx ext i).length = 64 := by
  unfold State.ctx State.readBytes
  rw [List.length_map, List.length_range]

/-! ### The flow stage (R376, R377, R381) -/

/-- The first packet has left the flow stage. -/
def unflowed (s : State) (pipe : Fin 4) (ks : List Pkt) : State := s.setPipe pipe { s.pipes[pipe] with flow := ks }

theorem flowLookup_takes (h : (s.pipes[pipe]).flow = k :: ks) (hb : s.behindMark pipe 2 k.ord = false) :
    exec (.flowLookup pipe ue) s = .next ((unflowed s pipe ks).flowStage pipe k ue) := by
  show execFlowLookup pipe ue s = _
  unfold execFlowLookup
  rw [h]
  exact if_neg (ne_true_of_eq_false hb)

theorem flowStage_passes (h : k.leaf.flow ≠ 1 ∧ k.leaf.flow ≠ 2) : s.flowStage pipe k ue = s.afterFlow pipe k :=
  if_pos (not_or.2 h)

theorem flowStage_hits (hf : k.leaf.flow = 1 ∨ k.leaf.flow = 2) (hon : s.bit F.CLS_FLOW_CTL_ON_EN = true)
    (hi : s.findCtx false (s.flowKey pipe k) = some i) :
    s.flowStage pipe k ue = (s.flowHit false i k).2.afterFlow pipe (s.flowHit false i k).1 := by
  unfold State.flowStage
  dsimp only
  rw [if_neg (not_not_intro hf), if_pos hon, hi]

theorem flowStage_ue (hf : k.leaf.flow = 1 ∨ k.leaf.flow = 2)
    (hmiss : s.bit F.CLS_FLOW_CTL_ON_EN = false ∨ s.findCtx false (s.flowKey pipe k) = none) (hext : s.extFlow = true) :
    s.flowStage pipe k true = s.flowUe := by
  have hnone : (if s.bit F.CLS_FLOW_CTL_ON_EN = true then s.findCtx false (s.flowKey pipe k) else none) = none := by
    rcases hmiss with h | h
    · exact if_neg (ne_true_of_eq_false h)
    · rw [h, ite_self]
  unfold State.flowStage
  dsimp only
  rw [if_neg (not_not_intro hf), hnone]
  exact if_pos ⟨hext, .inl rfl⟩

/-- What a hit leaves in the bytes of a context: one hit more, and the time. -/
def hitCtx (s : State) (i : Nat) : List Byte :=
  (s.ctx false i).take 48 ++ toBytesBE 4 (min (2 ^ 32 - 1) (ofBytesBE (((s.ctx false i).drop 48).take 4) + 1)) ++ toBytesBE 2 s.flowMs ++
    (s.ctx false i).drop 54

theorem length_hitCtx (s : State) (i : Nat) : (hitCtx s i).length = 64 := by
  simp [hitCtx, length_ctx, length_toBytesBE]

theorem flowHit_state (s : State) (i : Nat) (k : Pkt) : (s.flowHit false i k).2 = (s.setCtx false i (hitCtx s i)).bump R.CLS_CNT_FLOW_HIT := rfl

theorem flowHit_frame (s : State) (pipe : Fin 4) (ks : List Pkt) (i : Nat) (k : Pkt) :
    Frame [.pipes, .mem] [R.CLS_CNT_FLOW_HIT] s ((unflowed s pipe ks).flowHit false i k).2 := by
  rw [flowHit_state, State.setCtx_chip]
  exact (((Frame.refl _ _ s).setPipe pipe _ (by decide)).writeBytes _ _ (by decide)).bump _ (by decide)

theorem flowHit_counts (s : State) (i : Nat) (k : Pkt) : (s.flowHit false i k).2.rd R.CLS_CNT_FLOW_HIT = s.rd R.CLS_CNT_FLOW_HIT + 1 := by
  rw [flowHit_state, State.rd_bump_self, State.setCtx_rd]

theorem flowHit_stores (s : State) (i : Nat) (k : Pkt) : Stores s (s.flowHit false i k).2 (s.ctxAddr false i) (hitCtx s i) :=
  (State.setCtx_stores s false i _).of_mem rfl (State.bump_mem _ _)

/-! ### VALID (R374, R378, R379) -/

/-- A context with its VALID bit cleared. -/
def invalidCtx (c : List Byte) : List Byte := c.take 40 ++ [(c.getD 40 0) &&& 0x7F] ++ c.drop 41

theorem length_invalidCtx {c : List Byte} (h : c.length = 64) : (invalidCtx c).length = 64 := by
  simp [invalidCtx, h]

theorem ctxBit_invalidCtx {c : List Byte} (h : c.length = 64) : ctxBit (invalidCtx c) 7 = false := by
  have hbyte : (invalidCtx c).getD 40 0 = c.getD 40 0 &&& 0x7F := by
    have hlen : (c.take 40).length = 40 := by rw [List.length_take, h]; rfl
    unfold invalidCtx
    rw [List.append_assoc, List.getD_append_right _ _ _ _ (by rw [hlen]), hlen]
    rfl
  unfold ctxBit
  rw [hbyte, BitVec.getLsbD_and, show (0x7F : Byte).getLsbD 7 = false from by decide, Bool.and_false]

/-- The context `i` has been made invalid. -/
def invalidated (s : State) (ext : Bool) (i : Nat) : State := s.setCtx ext i (invalidCtx (s.ctx ext i))

theorem invalidated_stores (s : State) (ext : Bool) (i : Nat) :
    Stores s (invalidated s ext i) (s.ctxAddr ext i) (invalidCtx (s.ctx ext i)) := State.setCtx_stores s ext i _

theorem flowAge_idle (h : s.fld F.CLS_FLOW_CTL_AGE_MS = 0 ∨ ctxBit (s.ctx ext i) 7 = false) : exec (.flowAge ext i) s = .next s :=
  congrArg Host.Outcome.next (if_neg (fun hage => h.elim hage.1 (ne_false_of_eq_true hage.2.1)))

theorem flowAge_ages (hage : s.fld F.CLS_FLOW_CTL_AGE_MS ≠ 0) (hv : ctxBit (s.ctx ext i) 7 = true)
    (hl : ((s.ctx ext i).getD 54 0).getLsbD 0 = true)
    (hpast : s.fld F.CLS_FLOW_CTL_AGE_MS < (s.flowMs + 65536 - ofBytesBE (((s.ctx ext i).drop 52).take 2)) % 65536)
    (hx : ext = false ∨ s.ctxAbove i = false) :
    exec (.flowAge ext i) s = .next ((invalidated s ext i).bump R.CLS_CNT_AGED) :=
  congrArg Host.Outcome.next (if_pos ⟨hage, hv, hl, hpast, fun h => hx.elim (ne_false_of_eq_true h.1) (ne_false_of_eq_true h.2)⟩)

theorem flowAge_clears (hage : s.fld F.CLS_FLOW_CTL_AGE_MS ≠ 0) (hv : ctxBit (s.ctx ext i) 7 = true)
    (hl : ((s.ctx ext i).getD 54 0).getLsbD 0 = true)
    (hpast : s.fld F.CLS_FLOW_CTL_AGE_MS < (s.flowMs + 65536 - ofBytesBE (((s.ctx ext i).drop 52).take 2)) % 65536)
    (hx : ext = false ∨ s.ctxAbove i = false) :
    ∃ t, exec (.flowAge ext i) s = .next t ∧ Frame [.mem, .ecc, .out] [R.CLS_CNT_AGED] s t ∧ t.rd R.CLS_CNT_AGED = s.rd R.CLS_CNT_AGED + 1 ∧
      ctxBit (t.readBytes (s.ctxAddr ext i) 64) 7 = false ∧
      (∀ a, (a < s.ctxAddr ext i ∨ s.ctxAddr ext i + 64 ≤ a) → t.readByte a = s.readByte a) := by
  have hlen := length_invalidCtx (length_ctx s ext i)
  have hstores : Stores s ((invalidated s ext i).bump R.CLS_CNT_AGED) (s.ctxAddr ext i) (invalidCtx (s.ctx ext i)) :=
    (invalidated_stores s ext i).of_mem rfl (State.bump_mem _ _)
  refine ⟨_, flowAge_ages hage hv hl hpast hx, ((Frame.refl _ _ s).setCtx ext i _ (by decide) (by decide) (by decide)).bump _ (by decide), ?_,
    ?_, hstores.out hlen⟩
  · rw [State.rd_bump_self]
    exact congrArg (· + 1) (State.setCtx_rd _ _ _ _ _)
  · rw [hstores.readBytes hlen]
    exact ctxBit_invalidCtx (length_ctx s ext i)

/-! ### FLOW_CMD (R379, R381, R629) -/

theorem opFlowCmd_refused (hx : s.bit F.CLS_FLOW_ADDR_EXT = false) (htest : s.testing 3 none = true) :
    s.opFlowCmd r v ue = s.refuse r R.CLS_FLOW_CMD := if_pos ⟨ne_true_of_eq_false hx, htest⟩

/-- FLOW_DATA as the bytes of a context. -/
def flowData (s : State) : List Byte := ((List.range 16).map (fun j => toBytesBE 4 (s.rd (R.CLS_FLOW_DATA j)).toNat)).flatten

theorem length_flowData (s : State) : (flowData s).length = 64 := by
  simp [flowData, List.length_flatten, length_toBytesBE, Function.comp_def]

/-- A command begins: no error is shown. -/
def begun (s : State) : State := s.setFld F.CLS_FLOW_STAT_ERROR 0

theorem begun_ctxAddr (s : State) (ext : Bool) (i : Nat) : (begun s).ctxAddr ext i = s.ctxAddr ext i := by
  unfold State.ctxAddr begun
  rw [State.fld_setFld_key _ _ _ _ (by decide)]

theorem begun_ctx (s : State) (ext : Bool) (i : Nat) : (begun s).ctx ext i = s.ctx ext i := by
  unfold State.ctx
  rw [begun_ctxAddr]
  exact State.readBytes_of_mem (State.setFld_mem _ _ _) _ _

theorem begun_flowData (s : State) : flowData (begun s) = flowData s := by
  have hdata (j : Nat) : (begun s).rd (R.CLS_FLOW_DATA j) = s.rd (R.CLS_FLOW_DATA j) :=
    State.rd_setFld_ne _ _ _ (by simp only [R.CLS_FLOW_DATA, R.CLS_FLOW_STAT]; omega)
  unfold flowData
  simp only [hdata]

/-- FLOW_DATA shows the bytes `c` of a context. -/
def shows (s : State) (c : List Byte) : State :=
  (List.range 16).foldl (fun (t : State) j => t.wr (R.CLS_FLOW_DATA j) (BitVec.ofNat 32 (ofBytesBE ((c.drop (4 * j)).take 4)))) s

/-- The last word shown is that of the last four bytes. -/
theorem shows_last {c : List Byte} (h : c.length = 64) (s : State) :
    (shows s c).rd (R.CLS_FLOW_DATA 15) = BitVec.ofNat 32 (ofBytesBE (c.drop 60)) := by
  unfold shows
  rw [List.range_succ, List.foldl_append, List.foldl_cons, List.foldl_nil, State.rd_wr_self,
    List.take_of_length_le (by rw [List.length_drop, h])]

/-- The context addressed is read into FLOW_DATA, unless the read meets an error. -/
def ctxShown (s : State) (ue : Bool) : State :=
  if s.bit F.CLS_FLOW_ADDR_EXT = true ∧ (ue = true ∨ s.ctxAbove (s.fld F.CLS_FLOW_ADDR_INDEX) = true) then
    (begun s).setFld F.CLS_FLOW_STAT_ERROR 1
  else shows (begun s) (s.ctx (s.bit F.CLS_FLOW_ADDR_EXT) (s.fld F.CLS_FLOW_ADDR_INDEX))

section Cmd

variable (hok : s.bit F.CLS_FLOW_ADDR_EXT = true ∨ s.testing 3 none = false)

include hok

theorem not_tested : ¬ (¬ s.bit F.CLS_FLOW_ADDR_EXT = true ∧ s.testing 3 none = true) :=
  fun h => hok.elim h.1 (ne_false_of_eq_true h.2)

theorem opFlowCmd_reads (h0 : v.getLsbD 0 = true) (h1 : v.getLsbD 1 = false) (h2 : v.getLsbD 2 = false) :
    s.opFlowCmd r v ue = ctxShown s ue := by
  unfold State.opFlowCmd
  dsimp only
  rw [if_neg (not_tested hok), if_pos h0, if_neg (ne_true_of_eq_false h1), if_neg (ne_true_of_eq_false h2)]
  show (if _ then _ else shows (begun s) ((begun s).ctx _ _)) = _
  rw [begun_ctx]
  rfl

theorem opFlowCmd_writes (h0 : v.getLsbD 0 = false) (h1 : v.getLsbD 1 = true) (h2 : v.getLsbD 2 = false) : s.opFlowCmd r v ue =
    (begun s).setCtx (s.bit F.CLS_FLOW_ADDR_EXT) (s.fld F.CLS_FLOW_ADDR_INDEX) (flowData s) := by
  unfold State.opFlowCmd
  dsimp only
  rw [if_neg (not_tested hok), if_neg (ne_true_of_eq_false h0), if_pos h1, if_neg (ne_true_of_eq_false h2)]
  exact congrArg _ (begun_flowData s)

theorem opFlowCmd_invalidates (h0 : v.getLsbD 0 = false) (h1 : v.getLsbD 1 = false) (h2 : v.getLsbD 2 = true) : s.opFlowCmd r v ue =
    invalidated (begun s) (s.bit F.CLS_FLOW_ADDR_EXT) (s.fld F.CLS_FLOW_ADDR_INDEX) := by
  unfold State.opFlowCmd
  dsimp only
  rw [if_neg (not_tested hok), if_neg (ne_true_of_eq_false h0), if_neg (ne_true_of_eq_false h1), if_pos h2]
  rfl

end Cmd

/-- The registers of a context that is read. -/
def readRegs : List Nat := R.CLS_FLOW_STAT :: (List.range 16).map R.CLS_FLOW_DATA

theorem ctxShown_frame (s : State) (ue : Bool) : Frame [] readRegs s (ctxShown s ue) := by
  have hbegun : Frame [] readRegs s (begun s) := (Frame.refl _ _ s).setFld _ _ (by decide)
  unfold ctxShown
  split
  · exact hbegun.setFld _ _ (by decide)
  · exact hbegun.foldl_wr _ _ _ (by decide)

theorem ctxShown_error (hx : s.bit F.CLS_FLOW_ADDR_EXT = true) (h : ue = true ∨ s.ctxAbove (s.fld F.CLS_FLOW_ADDR_INDEX) = true) :
    (ctxShown s ue).bit F.CLS_FLOW_STAT_ERROR = true := by
  unfold ctxShown
  rw [if_pos ⟨hx, h⟩]
  exact decide_eq_true (State.fld_setFld_self _ _ _ (by decide))

theorem ctxShown_last (h : s.bit F.CLS_FLOW_ADDR_EXT = false ∨ (ue = false ∧ s.ctxAbove (s.fld F.CLS_FLOW_ADDR_INDEX) = false)) :
    (ctxShown s ue).rd (R.CLS_FLOW_DATA 15) =
      BitVec.ofNat 32 (ofBytesBE ((s.ctx (s.bit F.CLS_FLOW_ADDR_EXT) (s.fld F.CLS_FLOW_ADDR_INDEX)).drop 60)) := by
  have hread : ¬ (s.bit F.CLS_FLOW_ADDR_EXT = true ∧ (ue = true ∨ s.ctxAbove (s.fld F.CLS_FLOW_ADDR_INDEX) = true)) := by
    rintro ⟨hx, hue⟩
    rcases h with h | ⟨h1, h2⟩
    · exact ne_false_of_eq_true hx h
    · exact hue.elim (ne_true_of_eq_false h1) (ne_true_of_eq_false h2)
  unfold ctxShown
  rw [if_neg hread]
  exact shows_last (length_ctx _ _ _) _

section Commands

variable (ht : Taken s r R.CLS_FLOW_CMD) (hok : s.bit F.CLS_FLOW_ADDR_EXT = true ∨ s.testing 3 none = false)

include ht

theorem flowRead_op : exec (.flowRead r v ue) s = .next ((s.reply .done).opFlowCmd r (v ||| 1) ue) :=
  congrArg Host.Outcome.next (Taken_access ht)

theorem flowWrite_op : exec (.flowWrite r v) s = .next ((s.reply .done).opFlowCmd r (v ||| 2) false) :=
  congrArg Host.Outcome.next (Taken_access ht)

theorem flowInvalidate_op : exec (.flowInvalidate r v) s = .next ((s.reply .done).opFlowCmd r (v ||| 4) false) :=
  congrArg Host.Outcome.next (Taken_access ht)

include hok

theorem flowRead_shows (h1 : v.getLsbD 1 = false) (h2 : v.getLsbD 2 = false) :
    exec (.flowRead r v ue) s = .next (ctxShown (s.reply .done) ue) :=
  (flowRead_op ht).trans (congrArg Host.Outcome.next (opFlowCmd_reads (s := s.reply .done) hok (PageControl.getLsbD_or_true v (by decide))
    (PageControl.getLsbD_or_false h1 (by decide)) (PageControl.getLsbD_or_false h2 (by decide))))

/-- The context addressed takes the bytes of FLOW_DATA. -/
theorem flowWrite_stores (h0 : v.getLsbD 0 = false) (h2 : v.getLsbD 2 = false) :
    ∃ t, exec (.flowWrite r v) s = .next t ∧ Frame [.resp, .mem, .ecc, .out] [R.CLS_FLOW_STAT] s t ∧ t.resp = .done ∧
      Stores s t (s.ctxAddr (s.bit F.CLS_FLOW_ADDR_EXT) (s.fld F.CLS_FLOW_ADDR_INDEX)) (flowData s) := by
  have hop := opFlowCmd_writes (s := s.reply .done) (ue := false) (r := r) hok (PageControl.getLsbD_or_false h0 (x := 2) (by decide))
    (PageControl.getLsbD_or_true v (by decide)) (PageControl.getLsbD_or_false h2 (by decide))
  refine ⟨_, (flowWrite_op ht).trans (congrArg Host.Outcome.next hop),
    (((Frame.refl _ _ s).reply _ (by decide)).setFld _ _ (by decide)).setCtx _ _ _ (by decide) (by decide) (by decide), ?_, ?_⟩
  · exact State.setCtx_resp _ _ _ _
  · have hstores := State.setCtx_stores (begun (s.reply .done)) (s.bit F.CLS_FLOW_ADDR_EXT) (s.fld F.CLS_FLOW_ADDR_INDEX) (flowData s)
    rw [begun_ctxAddr] at hstores
    exact hstores.of_mem (u := s) rfl rfl

/-- The context addressed is made invalid. -/
theorem flowInvalidate_stores (h0 : v.getLsbD 0 = false) (h1 : v.getLsbD 1 = false) :
    ∃ t, exec (.flowInvalidate r v) s = .next t ∧ Frame [.resp, .mem, .ecc, .out] [R.CLS_FLOW_STAT] s t ∧ t.resp = .done ∧
      Stores s t (s.ctxAddr (s.bit F.CLS_FLOW_ADDR_EXT) (s.fld F.CLS_FLOW_ADDR_INDEX))
        (invalidCtx (s.ctx (s.bit F.CLS_FLOW_ADDR_EXT) (s.fld F.CLS_FLOW_ADDR_INDEX))) := by
  have hop := opFlowCmd_invalidates (s := s.reply .done) (ue := false) (r := r) hok (PageControl.getLsbD_or_false h0 (x := 4) (by decide))
    (PageControl.getLsbD_or_false h1 (by decide)) (PageControl.getLsbD_or_true v (by decide))
  refine ⟨_, (flowInvalidate_op ht).trans (congrArg Host.Outcome.next hop),
    (((Frame.refl _ _ s).reply _ (by decide)).setFld _ _ (by decide)).setCtx _ _ _ (by decide) (by decide) (by decide), ?_, ?_⟩
  · exact State.setCtx_resp _ _ _ _
  · have hstores := invalidated_stores (begun (s.reply .done)) (s.bit F.CLS_FLOW_ADDR_EXT) (s.fld F.CLS_FLOW_ADDR_INDEX)
    rw [begun_ctxAddr, begun_ctx] at hstores
    exact hstores.of_mem (u := s) rfl rfl

end Commands

/-- A command on a context of the table under test is refused. -/
theorem flowCommands_refused (ht : Taken s r R.CLS_FLOW_CMD) (hx : s.bit F.CLS_FLOW_ADDR_EXT = false) (htest : s.testing 3 none = true) :
    exec (.flowRead r v false) s = .next ((s.reply .done).refuse r R.CLS_FLOW_CMD) ∧
    exec (.flowWrite r v) s = .next ((s.reply .done).refuse r R.CLS_FLOW_CMD) ∧
    exec (.flowInvalidate r v) s = .next ((s.reply .done).refuse r R.CLS_FLOW_CMD) := by
  have hop (w : Word) : (.next ((s.reply .done).opFlowCmd r w false) : Res) = .next ((s.reply .done).refuse r R.CLS_FLOW_CMD) :=
    congrArg Host.Outcome.next (opFlowCmd_refused (s := s.reply .done) hx htest)
  exact ⟨(flowRead_op ht).trans (hop _), (flowWrite_op ht).trans (hop _), (flowInvalidate_op ht).trans (hop _)⟩

end Sys2Proof.Proofs.FlowContexts
end

section
/-! PROOF. Nodes of the tree memory (O33): their store through TREE_DATA and by a control core. -/

namespace Sys2Proof

open Sys2Proof.Machine

variable {ps : List Part} {ks : List Nat} {s t : State}

theorem Frame.storeNode (h : Frame ps ks s t) (n : Nat) (ws : List Word) (hm : .mem ∈ ps) : Frame ps ks s (t.storeNode n ws) :=
  h.writeBytes _ _ hm

theorem Frame.setCpu (h : Frame ps ks s t) (c : Cpu) (hp : .cpu ∈ ps) : Frame ps ks s { t with cpu := c } :=
  h.upd (SameBut.upd_cpu (List.Subset.refl _) (SameBut.refl [.cpu] t)) (by simpa using hp) rfl

end Sys2Proof

namespace Sys2Proof.Proofs.TreeNodes

open Sys2Proof Sys2Proof.Machine

variable {s : State} {r : Req} {v a b c : Word} {n : Fin 8} {node : Nat}

/-- The bytes of a node's words (log entry 32). -/
def nodeBytes (ws : List Word) : List Byte := (ws.map (fun w => (toBytesBE 4 w.toNat).reverse)).flatten

theorem length_nodeBytes (ws : List Word) : (nodeBytes ws).length = 4 * ws.length := by
  induction ws with
  | nil => rfl
  | cons w ws ih =>
    show ((toBytesBE 4 w.toNat).reverse ++ nodeBytes ws).length = _
    rw [List.length_append, List.length_reverse, length_toBytesBE, ih, List.length_cons]
    omega

theorem storeNode_stores (s : State) (node : Nat) (ws : List Word) : Stores s (s.storeNode node ws) (nodeAddr node) (nodeBytes ws) := rfl

theorem viewTree_mem (s : State) : s.viewTree.mem = s.mem :=
  State.viewTree_keeps (List.Subset.refl _) (SameBut.refl _ s) .mem (by decide)

theorem viewTree_resp (s : State) : s.viewTree.resp = s.resp :=
  State.viewTree_keeps (List.Subset.refl _) (SameBut.refl _ s) .resp (by decide)

/-! ### TREE_DATA (R365, R629) -/

theorem treeDataWrite_op (ht : Taken s r (R.CLS_TREE_DATA 3)) :
    exec (.treeDataWrite r v) s = .next ((s.reply .done).opTreeData3 r v) := congrArg Host.Outcome.next (Taken_access ht)

theorem treeDataWrite_refused (ht : Taken s r (R.CLS_TREE_DATA 3))
    (h : s.nodeLocked (s.fld F.CLS_TREE_ADDR_NODE) = true ∨ s.testing 1 (some (s.fld F.CLS_TREE_ADDR_NODE / 4096)) = true) :
    exec (.treeDataWrite r v) s = .next ((s.reply .done).refuse r (R.CLS_TREE_DATA 3)) :=
  (treeDataWrite_op ht).trans (congrArg Host.Outcome.next (if_pos h))

/-- The words that TREE_DATA holds, the last of them written now. -/
def treeWords (s : State) (v : Word) : List Word := [s.rd (R.CLS_TREE_DATA 0), s.rd (R.CLS_TREE_DATA 1), s.rd (R.CLS_TREE_DATA 2), v]

/-- The node addressed has been stored, and the address has moved on under AUTO_INC. -/
def nodeStored (s : State) (v : Word) : State :=
  if s.bit F.CLS_TREE_ADDR_AUTO_INC then
    (s.storeNode (s.fld F.CLS_TREE_ADDR_NODE) (treeWords s v)).setFld F.CLS_TREE_ADDR_NODE (s.fld F.CLS_TREE_ADDR_NODE + 1)
  else s.storeNode (s.fld F.CLS_TREE_ADDR_NODE) (treeWords s v)

theorem opTreeData3_stores (hl : s.nodeLocked (s.fld F.CLS_TREE_ADDR_NODE) = false)
    (ht : s.testing 1 (some (s.fld F.CLS_TREE_ADDR_NODE / 4096)) = false) : s.opTreeData3 r v = (nodeStored s v).viewTree :=
  if_neg (fun h => h.elim (ne_true_of_eq_false hl) (ne_true_of_eq_false ht))

/-- The registers that show tree memory, and the address that selects them. -/
def treeRegs : List Nat := [R.CLS_TREE_ADDR, R.CLS_TREE_DATA 0, R.CLS_TREE_DATA 1, R.CLS_TREE_DATA 2, R.CLS_TREE_DATA 3]

theorem nodeStored_frame (s : State) (v : Word) : Frame [.mem] treeRegs s (nodeStored s v) := by
  have hstore : Frame [.mem] treeRegs s (s.storeNode (s.fld F.CLS_TREE_ADDR_NODE) (treeWords s v)) :=
    (Frame.refl _ _ s).storeNode _ _ (by decide)
  unfold nodeStored
  split
  · exact hstore.setFld _ _ (by decide)
  · exact hstore

theorem nodeStored_stores (s : State) (v : Word) :
    Stores s (nodeStored s v) (nodeAddr (s.fld F.CLS_TREE_ADDR_NODE)) (nodeBytes (treeWords s v)) := by
  have hstores := storeNode_stores s (s.fld F.CLS_TREE_ADDR_NODE) (treeWords s v)
  unfold nodeStored
  split
  · exact hstores.of_mem rfl (State.setFld_mem _ _ _)
  · exact hstores

theorem treeDataWrite_stores (ht : Taken s r (R.CLS_TREE_DATA 3)) (hl : s.nodeLocked (s.fld F.CLS_TREE_ADDR_NODE) = false)
    (htest : s.testing 1 (some (s.fld F.CLS_TREE_ADDR_NODE / 4096)) = false) :
    ∃ t, exec (.treeDataWrite r v) s = .next t ∧ Frame [.mem, .resp] treeRegs s t ∧ t.resp = .done ∧
      Stores s t (nodeAddr (s.fld F.CLS_TREE_ADDR_NODE)) (nodeBytes (treeWords s v)) := by
  have hframe := nodeStored_frame (s.reply .done) v
  have hresp : (nodeStored (s.reply .done) v).resp = .done := hframe.1 .resp (by decide)
  refine ⟨_, (treeDataWrite_op ht).trans (congrArg Host.Outcome.next (opTreeData3_stores (s := s.reply .done) hl htest)), ?_,
    (viewTree_resp _).trans hresp, ?_⟩
  · exact (((Frame.refl _ _ s).reply .done (by decide)).trans (hframe.mono (by decide) (List.Subset.refl _))).foldl_wr _ _ _ (by decide)
  · exact (nodeStored_stores (s.reply .done) v).of_mem (u := s) rfl (viewTree_mem _)

/-! ### CORE_TREE_STORE (R546) -/

/-- The words of a node that core `n` holds back. -/
def heldNode (s : State) (n : Fin 8) (h : Option NodeHold) : State := { s with cpu := { s.cpu with nodes := s.cpu.nodes.set n h } }

theorem heldNode_self (s : State) (n : Fin 8) (h : Option NodeHold) : (heldNode s n h).cpu.nodes[n] = h := Vector.getElem_set_self _

section Store

variable (hn : node < 2 ^ 20) (hr : s.reaches (.core n) = true)

include hn hr

theorem coreTreeStore_first : exec (.coreTreeStore n node 0 v true) s = .next (heldNode s n (some ⟨node, [v]⟩)) := by
  show execCoreTreeStore n node 0 v true s = _
  unfold execCoreTreeStore
  dsimp only
  rw [if_neg (Nat.not_le.2 hn), if_neg (not_not_intro hr), if_neg (by decide), if_pos rfl]
  rfl

theorem coreTreeStore_narrow : exec (.coreTreeStore n node 0 v false) s = .next (s.coreFault n 7 (nodeAddr node)) := by
  show execCoreTreeStore n node 0 v false s = _
  unfold execCoreTreeStore
  dsimp only
  rw [if_neg (Nat.not_le.2 hn), if_neg (not_not_intro hr), if_pos (by decide)]
  rfl

theorem coreTreeStore_unheld (h : s.cpu.nodes[n] = none) :
    exec (.coreTreeStore n node 3 v true) s = .next (s.coreFault n 7 (nodeAddr node + 12)) := by
  show execCoreTreeStore n node 3 v true s = _
  unfold execCoreTreeStore
  dsimp only
  rw [if_neg (Nat.not_le.2 hn), if_neg (not_not_intro hr), if_neg (by decide), if_neg (by decide), h]
  rfl

/-- The fourth word completes a node that TREE_DATA does not show. -/
theorem coreTreeStore_last (h : s.cpu.nodes[n] = some ⟨node, [a, b, c]⟩) (hl : s.nodeLocked node = false)
    (ht : s.testing 1 (some (node / 4096)) = false) (hne : s.fld F.CLS_TREE_ADDR_NODE ≠ node) :
    exec (.coreTreeStore n node 3 v true) s = .next (heldNode ((s.reply .done).storeNode node [a, b, c, v]) n none) := by
  have hfree : ¬ (s.nodeLocked node = true ∨ s.testing 1 (some (node / 4096)) = true) :=
    fun h => h.elim (ne_true_of_eq_false hl) (ne_true_of_eq_false ht)
  show execCoreTreeStore n node 3 v true s = _
  unfold execCoreTreeStore
  dsimp only
  rw [if_neg (Nat.not_le.2 hn), if_neg (not_not_intro hr), if_neg (by decide), if_neg (by decide), h]
  dsimp only
  rw [if_pos ⟨rfl, rfl⟩, if_pos rfl, if_neg hfree, if_neg hne]
  rfl

end Store

theorem coreNode_frame (s : State) (n : Fin 8) (node : Nat) (ws : List Word) :
    Frame [.cpu, .mem, .resp] [] s (heldNode ((s.reply .done).storeNode node ws) n none) :=
  (((Frame.refl _ _ s).reply _ (by decide)).storeNode _ _ (by decide)).setCpu _ (by decide)

theorem coreNode_stores (s : State) (n : Fin 8) (node : Nat) (ws : List Word) :
    Stores s (heldNode ((s.reply .done).storeNode node ws) n none) (nodeAddr node) (nodeBytes ws) :=
  (storeNode_stores (s.reply .done) node ws).of_mem (u := s) (t' := heldNode _ n none) rfl rfl

end Sys2Proof.Proofs.TreeNodes
end

section
/-! PROOF. Buffers for packets (O33): what BUFFER_ALLOCATE does with the first packet of its stage; and the obligation. -/

namespace Sys2Proof

open Sys2Proof.Machine

variable {ps : List Part} {ks : List Nat} {s t : State}

theorem Frame.setBuf (h : Frame ps ks s t) (key : Nat) (b : Buf) (hp : .bufs ∈ ps) : Frame ps ks s (t.setBuf key b) :=
  h.upd (State.setBuf_keeps key b (List.Subset.refl _) (SameBut.refl _ t)) (by simpa using hp) rfl

end Sys2Proof

namespace Sys2Proof.Proofs.Classifier

open Sys2Proof Sys2Proof.Machine Sys2Proof.Proofs.FlowContexts Sys2Proof.Proofs.TreeNodes

variable {s : State} {pipe : Fin 4} {k : Pkt} {ks : List Pkt}

/-- The first packet has left the buffer stage. -/
def unbuffered (s : State) (pipe : Fin 4) (ks : List Pkt) : State := s.setPipe pipe { s.pipes[pipe] with buf := ks }

theorem unbuffered_frame (s : State) (pipe : Fin 4) (ks : List Pkt) : Frame [.pipes] [] s (unbuffered s pipe ks) :=
  (Frame.refl _ _ s).setPipe pipe _ (by decide)

/-- The record of the buffer `key` with the received packet `k`. -/
def received (u : State) (key : Nat) (k : Pkt) : Buf := { u.buf key with rx := some (k.src, k.len, u.rxPriority k) }

/-- The received packet `k` stands in the buffer `key`. -/
def filled (u : State) (key : Nat) (k : Pkt) : State := (u.setBuf key (received u key k)).storeBytes (u.bufAddr key) k.data

theorem filled_frame (u : State) (key : Nat) (k : Pkt) : Frame [.bufs, .mem, .ecc, .out] [] u (filled u key k) :=
  ((Frame.refl _ _ u).setBuf _ _ (by decide)).storeBytes _ _ (by decide) (by decide) (by decide)

theorem filled_buf (u : State) (key : Nat) (k : Pkt) : (filled u key k).buf key = received u key k := by
  unfold State.buf filled
  rw [State.storeBytes_bufs]
  exact mapGet_mapPut_self _ _ _ _

theorem filled_stores (u : State) (key : Nat) (k : Pkt) : Stores u (filled u key k) (u.bufAddr key) k.data :=
  (State.storeBytes_stores (u.setBuf key (received u key k)) _ _).of_mem (u := u) rfl rfl

section Allocate

variable (hbuf : (s.pipes[pipe]).buf = k :: ks) (hhdl : k.hdl = none)

include hbuf hhdl

theorem bufferAllocate_tooLong (h : 65536 < k.len) : exec (.bufferAllocate pipe) s =
    .next (((unbuffered s pipe ks).bump R.BPM_CNT_TOO_LONG).fire P.BPM E.BPM_TOO_LONG) := by
  show execBufferAllocate pipe s = _
  unfold execBufferAllocate
  rw [hbuf]
  dsimp only
  rw [hhdl]
  exact if_pos h

theorem bufferAllocate_none {u : State} (h : k.len ≤ 65536) (ha : (unbuffered s pipe ks).allocate k.queue k.len = (none, u)) :
    exec (.bufferAllocate pipe) s = .next ((u.bump R.BPM_CNT_NOBUF).fire P.BPM E.BPM_NOBUF) := by
  show execBufferAllocate pipe s = _
  unfold unbuffered at ha
  unfold execBufferAllocate
  rw [hbuf]
  dsimp only
  rw [hhdl]
  dsimp only
  rw [if_neg (Nat.not_lt.2 h), ha]

theorem bufferAllocate_fills {u : State} {key : Nat} (h : k.len ≤ 65536)
    (ha : (unbuffered s pipe ks).allocate k.queue k.len = (some key, u)) :
    exec (.bufferAllocate pipe) s = .next ((filled u key k).sendCopies pipe k ((filled u key k).handleOf key)) := by
  have hhandle : (filled u key k).handleOf key =
      (u.setBuf key (received u key k)).handleOf key := by
    unfold State.handleOf State.buf filled
    rw [State.storeBytes_bufs]
  rw [hhandle]
  show execBufferAllocate pipe s = _
  unfold unbuffered at ha
  unfold execBufferAllocate
  rw [hbuf]
  dsimp only
  rw [hhdl]
  dsimp only
  rw [if_neg (Nat.not_lt.2 h), ha]
  rfl

end Allocate

/-- Disabled pools hand out no buffer. -/
theorem allocate_off (h : s.bit F.BPM_BPM_CTL_EN = false) (q len : Nat) : s.allocate q len = (none, s) := if_pos (ne_true_of_eq_false h)

/-- A packet that gets no buffer is dropped, counted at `key` and raised. -/
theorem unbuffered_dropped (s : State) (pipe : Fin 4) (ks : List Pkt) (key p b : Nat) (he : eventReg key = false) :
    FrameEv [.pipes] [key] s (((unbuffered s pipe ks).bump key).fire p b) ∧
      (((unbuffered s pipe ks).bump key).fire p b).pipes = s.pipes.set pipe { s.pipes[pipe] with buf := ks } ∧
      (((unbuffered s pipe ks).bump key).fire p b).rd key = s.rd key + 1 :=
  ⟨(((unbuffered_frame s pipe ks).ev.mono (by decide) (List.nil_subset _)).bump _ (List.mem_singleton_self _)).andFire _ _,
    (State.fire_pipes _ _ _).trans (State.bump_pipes _ _), (State.fire_rd _ _ _ he).trans (State.rd_bump_self _ _)⟩

/-- Settles O33: each stage by the equations for its first packet, then contexts, nodes and buffers. -/
theorem classifierAndFlows : Obligations.ClassifierAndFlows := by
  unfold Obligations.ClassifierAndFlows
  refine ⟨fun pipe u b s => ⟨classifyWalk_idle, flowLookup_idle, police_idle, recirculate_empty, bufferAllocate_empty, enqueue_empty⟩,
    fun pipe k ks u s hcls hb => ⟨fun h => ?noRules, fun e hen hep => ⟨fun hw => ?ue, fun l hw => ?leaf⟩⟩,
    fun pipe k ks s h => ⟨fun hroom => ?recirculates, fun hfull => ?turnsAway⟩,
    fun pipe k ks ue s h hb => ⟨fun hf => ?passes, fun i hf hon hi => ?hits, fun hf hmiss hext hue => ?flowUe⟩,
    fun ext i s => ⟨flowAge_idle, flowAge_clears⟩, fun r v ue s ht hok h1 h2 => ?reads, fun r v s ht hok h0 => ⟨fun h2 => ?writes, fun h1 => ?invalidates⟩,
    fun r v s ht hx htest => flowCommands_refused ht hx htest,
    fun r v s ht => ⟨treeDataWrite_refused ht, fun hl htest => ?tree⟩,
    fun n node v a b c s hn hr => ⟨?first, fun hheld hl htest hne => ?last, coreTreeStore_unheld hn hr, coreTreeStore_narrow hn hr⟩,
    fun pipe k ks s => ⟨police_passes, police_meets, enqueue_takes⟩,
    fun pipe k ks s hbuf hhdl => ⟨fun hlong => ?tooLong, fun hlen hoff => ?off, fun key u hlen ha => ?fills⟩⟩
  case noRules =>
    exact ⟨_, classifyWalk_noRules hcls hb h, (dropped_frame s pipe ks _).retireEpochs (by decide),
      (State.retireEpochs_pipes _).trans (State.bump_pipes _ _), (State.retireEpochs_rd _ (by decide)).trans (dropped_counts s pipe ks _)⟩
  case ue =>
    exact ⟨_, classifyWalk_ue hcls hb hen hep hw, ((dropped_frame s pipe ks _).andFire _ _).retireEpochs (by decide),
      (State.retireEpochs_pipes _).trans ((State.fire_pipes _ _ _).trans (State.bump_pipes _ _)),
      (State.retireEpochs_rd _ (by decide)).trans ((State.fire_rd _ _ _ (by decide)).trans (dropped_counts s pipe ks _))⟩
  case leaf =>
    exact ⟨_, classifyWalk_leaf hcls hb hen hep hw,
      ((unclassified_frame s pipe ks).ev.mono (by decide) (List.nil_subset _)).bump64 _ _ _ (by decide) (by decide), State.bump64_pipes _ _ _ _⟩
  case recirculates =>
    exact ⟨_, recirculate_passes h hroom, recirculated_frame s pipe k ks, State.bump_pipes _ _, State.rd_bump_self _ _⟩
  case turnsAway =>
    exact ⟨_, recirculate_drops h hfull, ((turnedAway_frame s pipe ks).andFire _ _).retireEpochs (by decide),
      (State.retireEpochs_pipes _).trans ((State.fire_pipes _ _ _).trans (State.bump_pipes _ _)),
      (State.retireEpochs_rd _ (by decide)).trans ((State.fire_rd _ _ _ (by decide)).trans (State.rd_bump_self _ _))⟩
  case passes => exact (flowLookup_takes h hb).trans (congrArg Host.Outcome.next (flowStage_passes hf))
  case hits =>
    exact ⟨_, _, (flowLookup_takes h hb).trans (congrArg Host.Outcome.next (flowStage_hits (s := unflowed s pipe ks) hf hon hi)),
      flowHit_frame s pipe ks i k, flowHit_counts _ i k, (flowHit_stores (unflowed s pipe ks) i k).out (length_hitCtx _ i)⟩
  case flowUe =>
    subst hue
    exact ⟨_, (flowLookup_takes h hb).trans (congrArg Host.Outcome.next (flowStage_ue (s := unflowed s pipe ks) hf hmiss hext)),
      (((FrameEv.refl _ _ s).setPipe pipe _ (by decide)).bump _ (by decide)).andFire _ _,
      (State.fire_rd _ _ _ (by decide)).trans (State.rd_bump_self _ _), (State.fire_pipes _ _ _).trans (State.bump_pipes _ _)⟩
  case reads =>
    exact ⟨_, flowRead_shows ht hok h1 h2,
      ((Frame.refl _ _ s).reply .done (by decide)).trans ((ctxShown_frame _ ue).mono (List.nil_subset _) (List.Subset.refl _)),
      (ctxShown_frame (s.reply .done) ue).1 .resp (by decide), fun h => ctxShown_error (s := s.reply .done) h.1 h.2,
      fun h => ctxShown_last (s := s.reply .done) h⟩
  case writes =>
    obtain ⟨t, hexec, hframe, hresp, hstores⟩ := flowWrite_stores ht hok h0 h2
    exact ⟨t, hexec, hframe, hresp, hstores.readBytes (length_flowData s), hstores.out (length_flowData s)⟩
  case invalidates =>
    obtain ⟨t, hexec, hframe, hresp, hstores⟩ := flowInvalidate_stores ht hok h0 h1
    have hlen := length_invalidCtx (length_ctx s (s.bit F.CLS_FLOW_ADDR_EXT) (s.fld F.CLS_FLOW_ADDR_INDEX))
    refine ⟨t, hexec, hframe, hresp, ?_, hstores.out hlen⟩
    rw [hstores.readBytes hlen]
    exact ctxBit_invalidCtx (length_ctx _ _ _)
  case tree =>
    obtain ⟨t, hexec, hframe, hresp, hstores⟩ := treeDataWrite_stores ht hl htest
    exact ⟨t, hexec, hframe, hresp, hstores.readBytes (length_nodeBytes _), hstores.out (length_nodeBytes _)⟩
  case first => exact ⟨_, coreTreeStore_first hn hr, (Frame.refl _ _ s).setCpu _ (by decide), heldNode_self _ _ _⟩
  case last =>
    exact ⟨_, coreTreeStore_last hn hr hheld hl htest hne, coreNode_frame s n node _, heldNode_self _ _ _,
      (coreNode_stores s n node _).readBytes (length_nodeBytes _), (coreNode_stores s n node _).out (length_nodeBytes _)⟩
  case tooLong => exact ⟨_, bufferAllocate_tooLong hbuf hhdl hlong, unbuffered_dropped s pipe ks _ _ _ (by decide)⟩
  case off =>
    exact ⟨_, bufferAllocate_none hbuf hhdl hlen (allocate_off (s := unbuffered s pipe ks) hoff _ _), unbuffered_dropped s pipe ks _ _ _ (by decide)⟩
  case fills =>
    exact ⟨filled u key k, bufferAllocate_fills hbuf hhdl hlen ha, filled_frame u key k, congrArg Buf.rx (filled_buf u key k),
      (filled_stores u key k).out rfl⟩

end Sys2Proof.Proofs.Classifier
end

section
/-! PROOF. The backplane lanes of O59 (R478-R486, R494, R495): what an event and a move leave of a lane, then one lemma for each
command. -/

namespace Sys2Proof.Proofs.LaneCommands

open Sys2Proof Sys2Proof.Machine

variable {s : State} {r : Req} {l : Fin 48} {v w : Word}

/-! ### A lane after a move and after an event -/

@[simp] theorem setLane_lane (s : State) (l : Fin 48) (x : Lane) : (s.setLane l x).lanes[l] = x := Vector.getElem_set_self _

theorem laneTo_lane (s : State) (l : Fin 48) (st : LaneSt) : (s.laneTo l st).lanes[l] = { s.lanes[l] with st := st } := by
  unfold State.laneTo
  dsimp only
  split
  · exact setLane_lane s l _
  · exact setLane_lane s l _

theorem laneTo_st (s : State) (l : Fin 48) (st : LaneSt) : (s.laneTo l st).lanes[l].st = st := congrArg Lane.st (laneTo_lane s l st)

theorem laneTo_rd (s : State) (l : Fin 48) (st : LaneSt) (k : Nat) : (s.laneTo l st).rd k = s.rd k :=
  State.rd_of_regs (State.laneTo_keeps l st (List.Subset.refl _) (SameBut.refl _ s) .regs (by decide)) k

/-- An event latches its bit in CAUSE and leaves the rest of the lane. -/
theorem laneEvent_lane (s : State) (l : Fin 48) (b : Nat) : ∃ c : BitVec 10, (s.laneEvent l b).lanes[l] = { s.lanes[l] with cause := c } := by
  unfold State.laneEvent
  rw [State.fire_lanes]
  by_cases hb : 4 ≤ b
  · exact ⟨_, (congrArg (fun t : State => t.lanes[l]) (if_pos hb)).trans (setLane_lane s l _)⟩
  · exact ⟨s.lanes[l].cause, congrArg (fun t : State => t.lanes[l]) (if_neg hb)⟩

theorem laneEvent_st (s : State) (l : Fin 48) (b : Nat) : (s.laneEvent l b).lanes[l].st = s.lanes[l].st := by
  obtain ⟨c, hc⟩ := laneEvent_lane s l b
  rw [hc]

theorem laneEvent_recal (s : State) (l : Fin 48) (b : Nat) : (s.laneEvent l b).lanes[l].recal = s.lanes[l].recal := by
  obtain ⟨c, hc⟩ := laneEvent_lane s l b
  rw [hc]

theorem laneEvent_rd (s : State) (l : Fin 48) (b : Nat) {k : Nat} (hk : eventReg k = false) : (s.laneEvent l b).rd k = s.rd k := by
  unfold State.laneEvent
  rw [State.fire_rd _ _ _ hk]
  split
  · exact State.setLane_rd s l _ k
  · rfl

theorem laneEvent_raised (b : Nat) (hon : s.domOn (domainOf (R.HDR_EVT_RAW (P.BPQ + l.val / 4))) = true) (hb : b < 32) :
    Raised (s.laneEvent l b) (P.BPQ + l.val / 4) b := by
  unfold State.laneEvent
  dsimp only
  split
  · exact State.fire_raised (s := s.setLane l _) hon hb
  · exact State.fire_raised hon hb

theorem linkDown_rd_ctl (s : State) (l : Fin 48) : (s.bump (R.BPQ_CNT_LINK_DOWN l.val)).rd (R.BPQ_LANE_CTL l.val) = s.rd (R.BPQ_LANE_CTL l.val) :=
  State.rd_bump_ne s (by simp only [R.BPQ_LANE_CTL, R.BPQ_CNT_LINK_DOWN]; omega)

/-- The state to which Start leads rests on LANE_CTL alone. -/
theorem startOf_of_ctl {t : State} (h : t.rd (R.BPQ_LANE_CTL l.val) = s.rd (R.BPQ_LANE_CTL l.val)) (mode : Nat) :
    t.startOf l mode = s.startOf l mode := by
  unfold State.startOf State.bit State.fld
  dsimp only
  rw [h]

/-- A lane whose link goes down is counted and starts anew. -/
def linkFallen (s : State) (l : Fin 48) : State := ((s.bump (R.BPQ_CNT_LINK_DOWN l.val)).laneStart l).linkChg l

theorem linkFallen_st (s : State) (l : Fin 48) : (linkFallen s l).lanes[l].st = s.startOf l s.lanes[l].mode :=
  (laneEvent_st _ l _).trans ((laneTo_st _ l _).trans (startOf_of_ctl (linkDown_rd_ctl s l) _))

theorem linkFallen_counts (s : State) (l : Fin 48) :
    (linkFallen s l).rd (R.BPQ_CNT_LINK_DOWN l.val) = s.rd (R.BPQ_CNT_LINK_DOWN l.val) + 1 := by
  have hk : eventReg (R.BPQ_CNT_LINK_DOWN l.val) = false := by revert l; decide
  exact (laneEvent_rd _ l _ hk).trans ((laneTo_rd _ l _ _).trans (State.rd_bump_self s _))

/-! ### LANE_CTL and LANE_CMD -/

theorem laneCtlWrite_restarts (ht : Taken s r (R.BPQ_LANE_CTL l.val)) (hlimp : s.pwr.limp = false) (hoff : s.lanes[l].st = .off) :
    exec (.laneCtlWrite r l v) s = .next (((s.reply .done).store (R.BPQ_LANE_CTL l.val) v).laneRestart l) := by
  refine (congrArg Host.Outcome.next (Taken_access ht)).trans (congrArg Host.Outcome.next ?_)
  have hst : (((s.reply .done).store (R.BPQ_LANE_CTL l.val) v).lane l).st = .off := hoff
  unfold State.opLaneCtl
  dsimp only
  rw [if_neg (fun h => ne_true_of_eq_false hlimp h.1), hst]

/-- Of the five commands of LANE_CMD a word holds the one at bit `n` alone. -/
def OnlyCommand (n : Nat) (w : Word) : Prop := ∀ i, i < 5 → w.getLsbD i = decide (i = n)

theorem getLsbD_of_getField_zero {lo n : Nat} (h : getField v lo n = 0) {i : Nat} (hlo : lo ≤ i) (hhi : i < lo + n) : v.getLsbD i = false := by
  have hbit := getField_testBit v lo n (i - lo)
  rw [h, Nat.zero_testBit, decide_eq_true (by omega), Bool.true_and, Nat.add_sub_cancel' hlo] at hbit
  exact hbit.symm

theorem onlyCommand_or {n : Nat} (hn : n < 32) (hlo : ∀ i, i < n → v.getLsbD i = false) (hhi : ∀ i, n < i → i < 5 → v.getLsbD i = false) :
    OnlyCommand n (v ||| BitVec.twoPow 32 n) := by
  intro i hi
  rw [BitVec.getLsbD_or, BitVec.getLsbD_twoPow]
  rcases Nat.lt_trichotomy i n with h | rfl | h
  · simp [hlo i h, Nat.ne_of_lt h, Nat.ne_of_gt h]
  · simp [hn]
  · simp [hhi i h hi, Nat.ne_of_lt h, Nat.ne_of_gt h]

theorem opLaneCmd_sleep (hw : OnlyCommand 0 w) (hup : s.lanes[l].st = .up) :
    s.opLaneCmd l w = (s.setLane l { s.lane l with todo := some .sleep }).laneTodo l := by
  have hst : (s.lane l).st = .up := hup
  unfold State.opLaneCmd
  simp only [hw 0 (by decide), hw 1 (by decide), hw 2 (by decide), hw 3 (by decide), hw 4 (by decide), hst]
  rfl

theorem opLaneCmd_wake (hw : OnlyCommand 1 w) : s.opLaneCmd l w = s.laneWake l := by
  unfold State.opLaneCmd
  simp only [hw 0 (by decide), hw 1 (by decide), hw 2 (by decide), hw 3 (by decide), hw 4 (by decide)]
  rfl

theorem opLaneCmd_recal (hw : OnlyCommand 2 w) : s.opLaneCmd l w = s.recalRequest l := by
  unfold State.opLaneCmd
  simp only [hw 0 (by decide), hw 1 (by decide), hw 2 (by decide), hw 3 (by decide), hw 4 (by decide)]
  rfl

theorem opLaneCmd_abort (hw : OnlyCommand 3 w) (hwait : s.lanes[l].recal = .waiting) :
    s.opLaneCmd l w = s.setLane l { s.lane l with recal := .aborted } := by
  have hst : (s.lane l).recal = .waiting := hwait
  unfold State.opLaneCmd
  simp only [hw 0 (by decide), hw 1 (by decide), hw 2 (by decide), hw 3 (by decide), hw 4 (by decide), Nat.reduceEqDiff, decide_true, decide_false,
    Bool.false_eq_true, false_and, true_and, if_true, if_false, hst]

theorem opLaneCmd_retrain (hw : OnlyCommand 4 w) (hup : s.lanes[l].st = .up) : s.opLaneCmd l w = linkFallen s l := by
  have hst : (s.lane l).st = .up := hup
  unfold State.opLaneCmd linkFallen
  simp only [hw 0 (by decide), hw 1 (by decide), hw 2 (by decide), hw 3 (by decide), hw 4 (by decide), Nat.reduceEqDiff, decide_true, decide_false,
    Bool.false_eq_true, false_and, true_and, if_true, if_false, hst]

theorem laneWake_wakes (hs : s.lanes[l].st = .sleep) (href : s.pins.ref156 = true) : s.laneWake l = s.laneTo l .waking :=
  if_pos ⟨hs, href⟩

/-- With no frame in transmission the lane sleeps at once. -/
theorem laneTodo_sleeps (s : State) (l : Fin 48) (htx : s.lanes[l].mac.tx = none) :
    ((s.setLane l { s.lane l with todo := some .sleep }).laneTodo l).lanes[l].st = .sleep := by
  have hlane : (s.setLane l { s.lane l with todo := some .sleep }).lane l = { s.lane l with todo := some .sleep } := setLane_lane s l _
  have htx' : (s.lane l).mac.tx = none := htx
  unfold State.laneTodo
  rw [hlane]
  dsimp only
  rw [htx']
  exact laneTo_st _ l _

theorem laneSleep_completes (ht : Taken s r (R.BPQ_LANE_CMD l.val)) (hv : getField v 1 4 = 0) (hup : s.lanes[l].st = .up)
    (htx : s.lanes[l].mac.tx = none) : ∃ t, exec (.laneSleep r l v) s = .next t ∧ t.lanes[l].st = .sleep := by
  have hop := opLaneCmd_sleep (s := s.reply .done) (l := l) (onlyCommand_or (n := 0) (by decide) (fun i hi => absurd hi (Nat.not_lt_zero i))
    (fun i h h' => getLsbD_of_getField_zero hv h h')) hup
  exact ⟨_, congrArg Host.Outcome.next ((Taken_access ht).trans hop), laneTodo_sleeps (s.reply .done) l htx⟩

theorem laneWake_completes (ht : Taken s r (R.BPQ_LANE_CMD l.val)) (h0 : v.getLsbD 0 = false) (hv : getField v 2 3 = 0)
    (hs : s.lanes[l].st = .sleep) (href : s.pins.ref156 = true) : ∃ t, exec (.laneWake r l v) s = .next t ∧ t.lanes[l].st = .waking := by
  have hop := opLaneCmd_wake (s := s.reply .done) (l := l) (onlyCommand_or (n := 1) (by decide)
    (fun i hi => (Nat.lt_one_iff.mp hi).symm ▸ h0) (fun i h h' => getLsbD_of_getField_zero hv h h'))
  exact ⟨_, congrArg Host.Outcome.next ((Taken_access ht).trans (hop.trans (laneWake_wakes hs href))), laneTo_st _ l _⟩

/-- The lane in recalibration. -/
def recalibrating (s : State) (l : Fin 48) : State := (s.setLane l { s.lane l with recal := .running }).laneTo l .recal

theorem recalibrating_lane (s : State) (l : Fin 48) :
    (recalibrating s l).lanes[l].st = .recal ∧ (recalibrating s l).lanes[l].recal = .running := by
  unfold recalibrating
  rw [laneTo_lane, setLane_lane]
  exact ⟨rfl, rfl⟩

theorem laneRecal_completes (ht : Taken s r (R.BPQ_LANE_CMD l.val)) (h0 : getField v 0 2 = 0) (h3 : getField v 3 2 = 0)
    (hd : s.drained l = true) :
    ∃ t, exec (.laneRecal r l v) s = .next t ∧ t.lanes[l].st = .recal ∧ t.lanes[l].recal = .running := by
  have hop := opLaneCmd_recal (s := s.reply .done) (l := l) (onlyCommand_or (n := 2) (by decide)
    (fun i hi => getLsbD_of_getField_zero h0 (Nat.zero_le i) (by omega)) (fun i h h' => getLsbD_of_getField_zero h3 h h'))
  have hreq : (s.reply .done).recalRequest l = recalibrating (s.reply .done) l := if_pos hd
  exact ⟨_, congrArg Host.Outcome.next ((Taken_access ht).trans (hop.trans hreq)), recalibrating_lane _ l⟩

theorem laneRecalAbort_completes (ht : Taken s r (R.BPQ_LANE_CMD l.val)) (hv : getField v 0 3 = 0) (h4 : v.getLsbD 4 = false)
    (hw : s.lanes[l].recal = .waiting) : ∃ t, exec (.laneRecalAbort r l v) s = .next t ∧ t.lanes[l].recal = .aborted := by
  have hop := opLaneCmd_abort (s := s.reply .done) (l := l) (onlyCommand_or (n := 3) (by decide)
    (fun i hi => getLsbD_of_getField_zero hv (Nat.zero_le i) (by omega)) (fun i h h' => (show i = 4 by omega) ▸ h4)) hw
  exact ⟨_, congrArg Host.Outcome.next ((Taken_access ht).trans hop), congrArg Lane.recal (setLane_lane _ l _)⟩

theorem laneRetrain_completes (ht : Taken s r (R.BPQ_LANE_CMD l.val)) (hv : getField v 0 4 = 0) (hup : s.lanes[l].st = .up) :
    ∃ t, exec (.laneRetrain r l v) s = .next t ∧ t.lanes[l].st = s.startOf l s.lanes[l].mode ∧
      t.rd (R.BPQ_CNT_LINK_DOWN l.val) = s.rd (R.BPQ_CNT_LINK_DOWN l.val) + 1 := by
  have hop := opLaneCmd_retrain (s := s.reply .done) (l := l) (onlyCommand_or (n := 4) (by decide)
    (fun i hi => getLsbD_of_getField_zero hv (Nat.zero_le i) (by omega)) (fun i h h' => absurd h (by omega))) hup
  exact ⟨_, congrArg Host.Outcome.next ((Taken_access ht).trans hop), linkFallen_st _ l, linkFallen_counts _ l⟩

/-! ### Negotiation, training, lock -/

theorem negotiationComplete_completes {mode : BitVec 3} {fec : BitVec 2} (hs : s.lanes[l].st = .negotiate)
    (had : s.advertised l mode.toNat = true) :
    ∃ t, exec (.negotiationComplete l mode fec) s = .next t ∧ t.lanes[l].mode = mode.toNat ∧
      t.lanes[l].st = if s.bit (F.BPQ_LANE_CTL_TRAIN_EN l.val) then .train else .sync := by
  refine ⟨_, if_neg (not_or.mpr ⟨not_not_intro hs, not_not_intro had⟩), ?_, ?_⟩
  · rw [laneTo_lane, setLane_lane]
  · rw [laneTo_st]

theorem linkTrainingComplete_completes (hs : s.lanes[l].st = .train) :
    ∃ t, exec (.linkTrainingComplete l) s = .next t ∧ t.lanes[l].st = .sync :=
  ⟨_, congrArg Host.Outcome.next (if_pos hs), laneTo_st _ l _⟩

theorem linkTrainingTimeout_completes (hs : s.lanes[l].st = .train) (hr : s.running (T.train l.val) = true) :
    ∃ t, exec (.linkTrainingTimeout l) s = .next t ∧
      t.lanes[l].st = if s.bit (F.BPQ_LANE_CTL_AN_EN l.val) then .negotiate else .train :=
  ⟨_, congrArg Host.Outcome.next (if_pos ⟨hs, hr⟩), laneTo_st _ l _⟩

theorem pcsLock_completes (hm : modeEth s.lanes[l].mode = true) (hs : s.lanes[l].st = .sync) :
    ∃ t, exec (.pcsLock l) s = .next t ∧ t.lanes[l].st = .up :=
  ⟨_, congrArg Host.Outcome.next ((if_pos hm).trans (if_pos hs)), (laneEvent_st _ l _).trans (laneTo_st _ l _)⟩

theorem pcsLockLoss_completes (hm : modeEth s.lanes[l].mode = true) (hs : s.lanes[l].st = .up) :
    ∃ t, exec (.pcsLockLoss l) s = .next t ∧ t.lanes[l].st = s.startOf l s.lanes[l].mode :=
  ⟨linkFallen s l, congrArg Host.Outcome.next ((if_pos hm).trans (if_pos hs)), linkFallen_st s l⟩

/-! ### Recalibration, waking, the reference -/

theorem recalRun_completes (hw : s.lanes[l].recal = .waiting) (hd : s.drained l = true) :
    ∃ t, exec (.recalRun l) s = .next t ∧ t.lanes[l].st = .recal ∧ t.lanes[l].recal = .running :=
  ⟨recalibrating s l, congrArg Host.Outcome.next (if_pos ⟨hw, hd⟩), recalibrating_lane s l⟩

theorem recalEnd_completes (hs : s.lanes[l].st = .recal) :
    ∃ t, exec (.recalEnd l) s = .next t ∧ t.lanes[l].st = .up ∧ t.lanes[l].recal = .done := by
  refine ⟨_, congrArg Host.Outcome.next (if_pos hs), (laneEvent_st _ l _).trans (laneTo_st _ l _), (laneEvent_recal _ l _).trans ?_⟩
  rw [laneTo_lane, setLane_lane]

theorem wakeOnSignal_completes (hw : s.bit (F.BPQ_SLEEP_CFG_WAKE_ON_SIG l.val) = true) (hs : s.lanes[l].st = .sleep)
    (href : s.pins.ref156 = true) : ∃ t, exec (.wakeOnSignal l) s = .next t ∧ t.lanes[l].st = .waking :=
  ⟨_, congrArg Host.Outcome.next ((if_pos hw).trans
    (laneWake_wakes (s := s.setLane l { s.lane l with signal := true }) ((congrArg Lane.st (setLane_lane s l _)).trans hs) href)), laneTo_st _ l _⟩

theorem wakeOnQueue_completes {q : Nat} (hq : q ∈ laneQueues l) (hw : s.bit (F.BPQ_SLEEP_CFG_WAKE_ON_Q l.val) = true)
    (hd : s.fld (F.BPQ_SLEEP_CFG_WAKE_KIB l.val) ≤ s.depthKib q) (hs : s.lanes[l].st = .sleep) (href : s.pins.ref156 = true) :
    ∃ t, exec (.wakeOnQueue l) s = .next t ∧ t.lanes[l].st = .waking :=
  ⟨_, congrArg Host.Outcome.next ((if_pos ⟨hw, List.any_eq_true.mpr ⟨q, hq, decide_eq_true hd⟩⟩).trans (laneWake_wakes hs href)),
    laneTo_st _ l _⟩

theorem laneTo_domOn (s : State) (l : Fin 48) (st : LaneSt) (d : Nat) : (s.laneTo l st).domOn d = s.domOn d :=
  State.domOn_of_pwr (State.laneTo_keeps l st (List.Subset.refl _) (SameBut.refl _ s) .pwr (by decide)) d

theorem pllReady_completes (hs : s.lanes[l].st = .waking) (href : s.pins.ref156 = true)
    (hon : s.domOn (domainOf (R.HDR_EVT_RAW (P.BPQ + l.val / 4))) = true) :
    ∃ t, exec (.pllReady l) s = .next t ∧ Raised t (P.BPQ + l.val / 4) E.BPQ_WAKE_DONE := by
  refine ⟨_, if_neg (not_or.mpr ⟨not_not_intro hs, not_not_intro href⟩), laneEvent_raised _ ?_ (by decide)⟩
  split
  · exact (laneTo_domOn s l _ _).trans hon
  · exact (laneTo_domOn s l _ _).trans hon

theorem foldl_pins {α : Type} (l : List α) (g : State → α → State) (hg : ∀ t a, (g t a).pins = t.pins) (s : State) :
    (l.foldl g s).pins = s.pins := by
  induction l generalizing s with
  | nil => rfl
  | cons a as ih => exact (ih (g s a)).trans (hg s a)

theorem refLoss_completes (s : State) : ∃ t, exec .refLoss s = .next t ∧ t.pins = { s.pins with ref156 := false } := by
  refine ⟨_, rfl, congrArg (fun p : Pins => { p with ref156 := false }) ?_⟩
  rw [foldl_pins _ _ (fun t l => State.laneEvent_keeps l _ (List.Subset.refl _) (SameBut.refl _ t) .pins (by decide)),
    foldl_pins _ _ (fun t l => ?_)]
  refine (State.laneTo_keeps l _ (List.Subset.refl _) (SameBut.refl _ _) .pins (by decide)).trans ?_
  split
  · exact State.bump_pins t _
  · rfl

end Sys2Proof.Proofs.LaneCommands
end

section
/-! PROOF. The Ethernet ports of O59 (R452-R454, R491, R496-R507): selections, frames, flow control, collisions, the PHY and MDIO. -/

namespace Sys2Proof.Proofs.PortCommands

open Sys2Proof Sys2Proof.Machine

variable {s : State} {r : Req} {v : Word} {e : EthPort} {l : Fin 48} {p : Fin 8}

/-! ### Selections (R452-R454) -/

theorem laneSelect_selects (hup : s.lanes[l].st = .up) (heth : s.ethUp (.lane l) = true) (hen : s.bit F.SCH_SCH_CTL_EN_BP = true)
    (htx : s.lanes[l].mac.tx = none) (htodo : s.lanes[l].todo = none) (hwait : s.tim.wait = none) (hq : s.quieting = false)
    {s1 s2 s3 s4 : State} {el : List Nat} {q : Nat}
    (h1 : s1 = (laneQueues l).foldl (fun (t : State) q => t.cleanHead (.lane l) q (t.queue q).length) s)
    (h2 : s2 = (laneQueues l).foldl (fun (t : State) q => if (t.waiting q) = [] then t else t.consult (q + 1024)) s1)
    (hel : el = (laneQueues l).filter (fun q => s2.laneEligible l q)) (h3 : s3 = s2.noteEligible (laneQueues l) el)
    (h4 : s3.choose (1024 + l.val) el = (some q, s4)) :
    exec (.laneSelect l) s = .next ((s4.takeCredit (q + 1024)).transmit (.lane l) q) := by
  have hfree : ¬((s.lane l).st ≠ .up ∨ ¬ s.ethUp (.lane l) ∨ ¬ s.bit F.SCH_SCH_CTL_EN_BP ∨ (s.lane l).mac.tx.isSome ∨
      (s.lane l).todo.isSome ∨ (s.tim.wait.isSome ∧ decide ((s.gateList l.val (s.gateCopy l)).len ≠ 0)) ∨ s.quieting) := by
    unfold State.lane
    rw [hup, heth, hen, htx, htodo, hwait, hq]
    simp
  show execLaneSelect l s = _
  unfold execLaneSelect
  dsimp only
  rw [if_neg hfree, ← h1, ← h2, ← hel, ← h3, h4]

theorem portSelect_selects (heth : s.ethUp (.port p) = true) (hen : s.bit F.SCH_SCH_CTL_EN_BP = true) (htx : s.lports[p].mac.tx = none)
    (hpause : s.running (T.pause (48 + p.val) 8) = false) (hquiet : s.quieting = false) {s1 s2 : State} {qs el : List Nat} {q : Nat}
    {qr : List Nat} (hqs : qs = (List.range 4).map (fun q => 8960 + 4 * p.val + q))
    (h1 : s1 = qs.foldl (fun (t : State) q => t.cleanHead (.port p) q (t.queue q).length) s)
    (hel : el = qs.filter (fun q => decide (s1.waiting q ≠ []))) (h2 : s2 = s1.noteEligible qs el) (hq : el = q :: qr) :
    exec (.portSelect p) s = .next (s2.transmit (.port p) q) := by
  have hfree : ¬(¬ s.ethUp (.port p) ∨ ¬ s.bit F.SCH_SCH_CTL_EN_BP ∨ s.lports[p].mac.tx.isSome ∨
      s.running (T.pause (48 + p.val) 8) ∨ s.quieting) := by
    rw [heth, hen, htx, hpause, hquiet]
    simp
  show execPortSelect p s = _
  unfold execPortSelect
  dsimp only
  rw [if_neg hfree, ← hqs, ← h1, ← hel, ← h2, hq]

/-! ### Reception (R491, R496, R497) -/

theorem frameReceive_accepts {f : FrameIn} (heth : s.ethUp e = true) (hlen : 63 < f.len) (hmax : f.len ≤ (s.countFec e f).maxFrame e)
    (hfcs : f.fcsOk = true) (hunc : f.unc = 0) (htype : halfAt f.bytes 12 ≠ 0x8808) :
    exec (.frameReceive e f) s = .next (((s.countFec e f).countRxOk e).enterPath
      { src := srcOf e, len := f.len, data := f.bytes, stamp := f.stamp, steps := (s.countFec e f).tim.steps }) := by
  refine congrArg Host.Outcome.next ((if_pos heth).trans ?_)
  unfold State.frameIn
  dsimp only
  rw [if_neg (Nat.not_le.mpr hlen), if_neg (Nat.not_lt.mpr hmax), if_neg (not_or.mpr ⟨not_not_intro hfcs, not_not_intro hunc⟩), if_neg htype]

/-- The counts of a port are none of the registers that hold its flow-control mode. -/
theorem countRxOk_fcMode (s : State) (e : EthPort) : (s.countRxOk e).fcMode e = s.fcMode e := by
  cases e with
  | lane l =>
    have hctl : (s.countRxOk (.lane l)).rd (R.BPQ_FC_CFG l.val) = s.rd (R.BPQ_FC_CFG l.val) :=
      (State.rd_wr_ne _ _ (by simp only [R.BPQ_FC_CFG, R.BPQ_CNT_RX_OK_HI]; omega)).trans
        (State.rd_wr_ne _ _ (by simp only [R.BPQ_FC_CFG, R.BPQ_CNT_RX_OK_LO]; omega))
    exact congrArg (fun w => getField w _ _) hctl
  | port p =>
    have hctl : (s.countRxOk (.port p)).rd (R.LMC_PORT_CFG p.val) = s.rd (R.LMC_PORT_CFG p.val) :=
      State.rd_bump_ne s (by simp only [R.LMC_PORT_CFG, R.LMC_CNT_RX_OK]; omega)
    unfold State.fcMode State.fld
    dsimp only
    rw [hctl]
    rfl

/-- A time of 0 ends the pause, another one starts it. -/
theorem setPause_running (s : State) (e : EthPort) (pri quanta : Nat) :
    (s.setPause e pri quanta).running (T.pause (srcOf e) pri) = decide (quanta ≠ 0) := by
  unfold State.setPause
  by_cases hz : quanta = 0
  · rw [if_pos hz, State.running_stopTimer]
    simp [hz]
  · rw [if_neg hz, State.running_startTimer]
    simp [hz]

theorem pauseReceive_completes {quanta : BitVec 16} (heth : s.ethUp e = true) (hfc : s.fcMode e = 1) :
    ∃ t, exec (.pauseReceive e quanta) s = .next t ∧ t.running (T.pause (srcOf e) 8) = decide (quanta.toNat ≠ 0) :=
  ⟨_, congrArg Host.Outcome.next ((if_pos heth).trans (if_pos ((countRxOk_fcMode s e).trans hfc))), setPause_running _ e 8 _⟩

theorem pfcReceive_takes {en : BitVec 8} {quanta : List (BitVec 16)} (hlen : quanta.length = 8) (heth : s.ethUp e = true)
    (hfc : s.fcMode e = 2) :
    exec (.pfcReceive e en quanta) s = .next ((List.range 8).foldl (fun (t : State) p => if en.getLsbD p then
      t.setPause e p ((quanta.map BitVec.toNat).getD p 0) else t) ((s.countRxOk e).portBump e R.BPQ_CNT_PAUSE_RX R.LMC_CNT_PAUSE_RX)) :=
  (if_neg (not_not_intro hlen)).trans
    (congrArg Host.Outcome.next ((if_pos heth).trans (if_pos ((countRxOk_fcMode s e).trans hfc))))

theorem pauseTimerExpire_completes (s : State) (e : EthPort) (p : Fin 8) :
    ∃ t, exec (.pauseTimerExpire e (some p)) s = .next t ∧ t.running (T.pause (srcOf e) p.val) = false := by
  refine ⟨_, rfl, ?_⟩
  rw [State.running_stopTimer]
  simp

theorem pauseSend_pauses (hthr : (s.fcThr e).1 ≠ 0) (heth : s.ethUp e = true) (hfc : s.fcMode e = 1) (hoff : (s.mac e).xoff = false)
    (hheld : (s.fcThr e).1 ≤ s.heldKib e none) :
    exec (.pauseSend e) s = .next ((s.setMac e { s.mac e with xoff := true }).sendPause e true none (s.fcThr e).2.2) := by
  refine congrArg Host.Outcome.next ?_
  unfold State.pauseSend
  dsimp only
  rw [if_neg (not_or.mpr ⟨hthr, not_not_intro heth⟩), if_pos hfc, if_pos ⟨ne_true_of_eq_false hoff, hheld⟩]

theorem pauseRefresh_pauses (hthr : (s.fcThr e).1 ≠ 0) (heth : s.ethUp e = true) (hfc : s.fcMode e = 1) (hoff : (s.mac e).xoff = true)
    (hheld : (s.fcThr e).2.1 < s.heldKib e none) : exec (.pauseRefresh e) s = .next (s.sendPause e true none (s.fcThr e).2.2) := by
  refine congrArg Host.Outcome.next ?_
  unfold State.pauseAgain
  dsimp only
  rw [if_neg (not_or.mpr ⟨hthr, not_not_intro heth⟩), if_pos hfc, if_pos ⟨hoff, hheld⟩]

/-! ### Transmission (R499, R502, R504) -/

theorem txUnderrun_ends {k : Pkt} (h : s.sending e = some k) :
    exec (.txUnderrun e) s = .next (((((s.portBump e R.BPQ_CNT_UNDERRUN R.LMC_CNT_UNDERRUN).macEvent e E.BPQ_UNDERRUN E.LMC_UNDERRUN).raiseStart e).emit
      (.badFcs e)).endTx e State.leaveQueue) :=
  congrArg Host.Outcome.next (if_pos (Option.isSome_iff_exists.mpr ⟨k, h⟩))

theorem frameTransmitEnd_ends {k : Pkt} (h : s.sending e = some k) :
    exec (.frameTransmitEnd e) s = .next (((s.countTxOk e).emit (.frame e (k.hdl.getD 0))).endTx e State.sentFrom) := by
  show execFrameTransmitEnd e s = _
  unfold execFrameTransmitEnd
  rw [h]

@[simp] theorem setPort_port (s : State) (p : Fin 8) (x : LPort) : (s.setPort p x).lports[p] = x := Vector.getElem_set_self _

theorem collision_completes {bit : Nat} {rnd : BitVec 10} (hhalf : s.lports[p].full = false) (htx : s.lports[p].mac.tx ≠ none)
    (hfree : s.lports[p].backoff = none) (hbit : bit < 512) (htries : s.lports[p].tries < 15) :
    ∃ t, exec (.collision p bit rnd) s = .next t ∧ t.out = .jam p :: s.out ∧ t.lports[p].tries = s.lports[p].tries + 1 ∧
      t.lports[p].backoff = some (rnd.toNat % 2 ^ min 10 (s.lports[p].tries + 1)) := by
  have hcarrier : ¬(s.lports[p].full ∨ s.lports[p].mac.tx = none ∨ s.lports[p].backoff.isSome) := by
    rw [hhalf, hfree]
    simpa using htx
  exact ⟨_, (if_neg hcarrier).trans ((if_neg (Nat.not_le.mpr hbit)).trans (if_neg (Nat.not_le.mpr htries))), rfl,
    congrArg LPort.tries (setPort_port _ p _), congrArg LPort.backoff (setPort_port _ p _)⟩

theorem backoffExpire_completes (h : s.lports[p].backoff ≠ none) :
    ∃ t, exec (.backoffExpire p) s = .next t ∧ t.lports[p].backoff = none :=
  ⟨_, congrArg Host.Outcome.next (if_pos (Option.isSome_iff_ne_none.mpr h)), congrArg LPort.backoff (setPort_port s p _)⟩

theorem cxBpStart_completes (heth : s.ethUp (.port p) = true) (hcx : s.bit (F.LMC_PORT_CFG_CX_BP p.val) = true)
    (hhalf : s.lports[p].full = false) (hbp : s.lports[p].bp = false) (hthr : s.fld (F.LMC_PORT_THR_XOFF_KIB p.val) ≠ 0)
    (hheld : s.fld (F.LMC_PORT_THR_XOFF_KIB p.val) ≤ s.heldKib (.port p) none) :
    ∃ t, exec (.cxBpStart p) s = .next t ∧ t.lports[p].bp = true :=
  ⟨_, congrArg Host.Outcome.next (if_pos ⟨heth, hcx, ne_true_of_eq_false hhalf, ne_true_of_eq_false hbp, hthr, hheld⟩),
    congrArg LPort.bp (setPort_port s p _)⟩

/-! ### The PHY of a port (R505, R506) -/

/-- An event latches its bit in CAUSE and leaves the rest of the port. -/
theorem portEvent_port (s : State) (p : Fin 8) (b : Nat) : ∃ c : BitVec 7, (s.portEvent p b).lports[p] = { s.lports[p] with cause := c } := by
  unfold State.portEvent
  rw [State.fire_lports]
  by_cases hb : 8 ≤ b
  · exact ⟨_, (congrArg (fun t : State => t.lports[p]) (if_pos hb)).trans (setPort_port s p _)⟩
  · exact ⟨s.lports[p].cause, congrArg (fun t : State => t.lports[p]) (if_neg hb)⟩

theorem phyPoll_completes {r1 r4 r5 : BitVec 16} (hen : s.bit (F.LMC_PORT_CFG_EN p.val) = true) (hlimp : s.pwr.limp = false)
    (hon : s.domOn 27 = true) : ∃ t, exec (.phyPoll p r1 r4 r5) s = .next t ∧ t.lports[p].link = r1.getLsbD 2 := by
  have hpolls : ¬(¬ s.bit (F.LMC_PORT_CFG_EN p.val) ∨ s.pwr.limp ∨ ¬ s.domOn 27) := by simp [hen, hlimp, hon]
  refine ⟨_, if_neg hpolls, ?_⟩
  split
  · exact congrArg LPort.link (setPort_port s p _)
  · obtain ⟨c, hc⟩ := portEvent_port (s.setPort p _) p p.val
    rw [hc, setPort_port]

theorem stepPort_stepped (s : State) (p : Fin 8) (down : Bool) : (s.stepPort p down).lports[p].stepped = down := by
  unfold State.stepPort
  obtain ⟨c, hc⟩ := portEvent_port ((s.setPort p { s.lports[p] with stepped := down }).bump (R.LMC_CNT_STEP p.val)) p E.LMC_STEP
  rw [hc]
  exact congrArg LPort.stepped (setPort_port s p _)

theorem portStepDown_completes (heth : s.ethUp (.port p) = true) (hen : s.bit (F.LMC_PORT_CFG_STEP_EN p.val) = true)
    (hforce : s.bit (F.LMC_PORT_CFG_FORCE p.val) = false) (hfast : s.lports[p].hundred = true) (hst : s.lports[p].stepped = false) :
    ∃ t, exec (.portStepDown p) s = .next t ∧ t.lports[p].stepped = true :=
  ⟨_, congrArg Host.Outcome.next (if_pos ⟨heth, hen, ne_true_of_eq_false hforce, hfast, ne_true_of_eq_false hst⟩), stepPort_stepped _ p true⟩

theorem portStepUp_completes {q : Nat} (hq : q < 4) (hst : s.lports[p].stepped = true)
    (hdeep : s.fld (F.LMC_PORT_FC_UP_KIB p.val) < s.depthKib (8960 + 4 * p.val + q)) :
    ∃ t, exec (.portStepUp p) s = .next t ∧ t.lports[p].stepped = false :=
  ⟨_, congrArg Host.Outcome.next (if_pos ⟨hst, List.any_eq_true.mpr ⟨q, List.mem_range.mpr hq, decide_eq_true hdeep⟩⟩), stepPort_stepped _ p false⟩

/-! ### MDIO (R507) -/

/-- MDIO_CMD with GO and the operation `op`. -/
def mdioWord (v : Word) (op : Nat) : Word := setField (v ||| 0x80000000) 26 2 op

theorem mdioWord_go (v : Word) (op : Nat) : (mdioWord v op).getLsbD 31 = true := by
  unfold mdioWord
  rw [setField_getLsbD _ _ _ (by decide), if_neg (by decide)]
  exact PageControl.getLsbD_or_true v (by decide)

theorem opMdioCmd_sends {op : Nat} (hop : op = 1 ∨ op = 2) (hfree : s.mdio = none) :
    s.opMdioCmd r (mdioWord v op) =
      (({ s with mdio := some (mdioWord v op) }).setFld F.LMC_MDIO_STAT_BUSY 1).emit (.mdio (mdioWord v op)) := by
  have hfld : getField (mdioWord v op) 26 2 = op := by
    refine (getField_setField _ 26 2 op (by decide)).trans (Nat.mod_eq_of_lt ?_)
    omega
  unfold State.opMdioCmd
  rw [if_neg (not_not_intro (mdioWord_go v op)), if_neg (by rw [hfree]; decide), if_pos (by rw [hfld]; exact hop)]

theorem mdioFrameDone_completes {data : BitVec 16} {ack : Bool} {w : Word} (h : s.mdio = some w) :
    ∃ t, exec (.mdioFrameDone data ack) s = .next t ∧ t.mdio = none := by
  show ∃ t, execMdioFrameDone data ack s = .next t ∧ _
  unfold execMdioFrameDone
  rw [h]
  refine ⟨_, rfl, (State.fire_mdio _ _ _).trans ?_⟩
  split <;> rfl

theorem mdioWrite_completes (ht : Taken s r R.LMC_MDIO_CMD) (hfree : s.mdio = none) :
    ∃ t, exec (.mdioWrite r v) s = .next t ∧ t.resp = .done ∧ t.mdio = some (setField (v ||| 0x80000000) 26 2 1) :=
  ⟨_, congrArg Host.Outcome.next ((Taken_access ht).trans (opMdioCmd_sends (s := s.reply .done) (.inl rfl) hfree)), rfl, rfl⟩

theorem mdioRead_completes (ht : Taken s r R.LMC_MDIO_CMD) (hfree : s.mdio = none) :
    ∃ t, exec (.mdioRead r v) s = .next t ∧ t.resp = .done ∧ t.mdio = some (setField (v ||| 0x80000000) 26 2 2) :=
  ⟨_, congrArg Host.Outcome.next ((Taken_access ht).trans (opMdioCmd_sends (s := s.reply .done) (.inr rfl) hfree)), rfl, rfl⟩

end Sys2Proof.Proofs.PortCommands
end

section
/-! PROOF. The memory commands of O59 (R411-R444): accesses to a place, the fill, the scrubber, retirement, re-keying, the channels. -/

namespace Sys2Proof.Proofs.MemoryCommands

open Sys2Proof Sys2Proof.Machine

variable {s : State} {r : Req} {v : Word} {u : MemUser} {pl : MemPlace} {o : EccIn} {m : Chan}

/-! ### Accesses to a place (R411-R418, R542-R544) -/

/-- A read that meets no error leaves the state alone. -/
theorem memRead_ok (ht : s.placeTested pl = false) (ha : s.isAbove pl = false) (hj : eccJudge pl o = .ok) : s.memRead u pl o = (true, s) := by
  unfold State.memRead
  rw [if_neg (ne_true_of_eq_false ht), if_neg (fun h => ne_true_of_eq_false ha h.1), hj]

theorem memoryRead_completes (u : MemUser) (ha : s.isAbove pl = false) (ht : s.placeTested pl = false) (hj : eccJudge pl o = .ok) :
    ∃ t, exec (.memoryRead u pl o) s = .next t ∧ t.resp = .done ∧ t.mem = s.mem := by
  refine ⟨s.reply .done, ?_, rfl, rfl⟩
  show execMemoryRead u pl o s = _
  unfold execMemoryRead
  rw [memRead_ok ht ha hj]

theorem memWrite_stores (s : State) (pl : MemPlace) (data : List Byte) : Stores s (s.memWrite pl data) (placeAddr pl) data :=
  State.storeBytes_stores s (placeAddr pl) data

theorem lineWritten_keeps_all (s : State) (n : Fin 8) (a : Nat) (data : List Byte) : SameBut [.cpu] s (s.lineWritten n a data) :=
  State.lineWritten_keeps n a data (List.Subset.refl _) (SameBut.refl _ s)

theorem memWrite_resp (s : State) (pl : MemPlace) (data : List Byte) : (s.memWrite pl data).resp = s.resp :=
  State.memWrite_keeps pl data (List.Subset.refl _) (SameBut.refl _ s) .resp (by decide)

theorem memoryWrite_completes {data : List Byte} (hlen : data.length = placeSize pl) (ht : s.placeTested pl = false) :
    ∃ t, exec (.memoryWrite u pl data) s = .next t ∧ t.resp = .done ∧ t.readBytes (placeAddr pl) (placeSize pl) = data := by
  refine ⟨_, (if_pos hlen).trans (if_neg (ne_true_of_eq_false ht)), ?_⟩
  have hstores : Stores s ((s.reply .done).memWrite pl data) (placeAddr pl) data :=
    (memWrite_stores (s.reply .done) pl data).of_mem (State.reply_mem s .done) rfl
  have hresp : ((s.reply .done).memWrite pl data).resp = .done := memWrite_resp _ pl data
  split
  · next n =>
    have hkeeps := lineWritten_keeps_all ((s.reply .done).memWrite pl data) n (placeAddr pl) data
    exact ⟨(hkeeps .resp (by decide)).trans hresp, (hstores.of_mem rfl (hkeeps .mem (by decide))).readBytes hlen⟩
  · exact ⟨hresp, hstores.readBytes hlen⟩

/-- An empty cache takes a line as its memory holds it. -/
theorem takeLine_empty (n : Fin 8) (instr : Bool) (a : Nat) (h : s.cpu.caches = []) :
    s.takeLine n instr a = s.setCaches (fun l => ⟨n, instr, a, false, false, s.readBytes a 64⟩ :: l) := by
  have hroom : s.makeRoom n instr = s := by
    unfold State.makeRoom
    rw [h]
    rfl
  unfold State.takeLine
  rw [hroom]

theorem lineFill_completes {n : Fin 8} {a : Nat} (hp : s.corePlace n a = some pl) (ha : s.isAbove pl = false) (ht : s.placeTested pl = false)
    (hc : s.cpu.caches = []) (hj : eccJudge pl o = .ok) :
    ∃ t, exec (.lineFill n .fetch a o) s = .next t ∧ t.resp = .done ∧
      t.cpu.caches = [⟨n, true, s.coreLine n a, false, false, s.readBytes (s.coreLine n a) 64⟩] := by
  have hmiss : ¬ s.cpu.caches.any (fun x => x.at_ n true (s.coreLine n a)) := by rw [hc]; exact Bool.false_ne_true
  have hfill : s.lineFill n .fetch a (s.coreLine n a) pl o = (s.takeLine n true (s.coreLine n a)).reply .done := by
    refine (if_neg hmiss).trans ?_
    show (match s.memRead (.req (.core n)) pl o with | (true, s1) => _ | (false, s1) => _) = _
    rw [memRead_ok ht ha hj]
    rfl
  refine ⟨(s.takeLine n true (s.coreLine n a)).reply .done, ?_, rfl, ?_⟩
  · show execLineFill n .fetch a o s = _
    unfold execLineFill
    rw [hp]
    exact congrArg Host.Outcome.next hfill
  · rw [takeLine_empty n true _ hc]
    exact congrArg _ hc

/-- A narrow write is recorded and ends with a bus error; memory stays. -/
theorem narrowWrite_completes (u : MemUser) (pl : MemPlace) (s : State) :
    ∃ t : State, exec (.narrowWrite u pl) s = .next (t.memBusError u pl false) ∧ t.mem = s.mem := by
  refine ⟨_, rfl, (State.fire_mem _ _ _).trans
    ((State.placeRecord_keeps _ _ _ _ _ _ _ (List.Subset.refl _) (SameBut.refl _ _) .mem (by decide)).trans ?_)⟩
  split
  · exact State.bump_mem s _
  · exact State.bump_mem s _

/-! ### The fill and the scrubber (R421, R426) -/

theorem zeroRange_zero (s : State) {a n x : Nat} (hlo : a ≤ x) (hhi : x < a + n) : (s.zeroRange a n).readByte x = 0 := by
  unfold State.readByte State.zeroRange
  rw [mapGet_mapFilter, if_neg]
  simp [Nat.not_lt.mpr hlo, Nat.not_le.mpr hhi]

theorem dramWrite_mem (s : State) (ch : Chan) (idx : Nat) : (s.dramWrite ch idx).mem = s.mem :=
  State.dramWrite_keeps ch idx (List.Subset.refl _) (SameBut.refl _ s) .mem (by decide)

theorem fillLine_completes (hst : (s.ch m).st = .up) (hdone : (s.ch m).done = false) (hpause : s.bit (F.MEM_FILL_CFG_PAUSE m.val) = false)
    (htest : s.testing 4 (some m.val) = false) (hroom : (s.ch m).eave + 1 < (s.ch m).lines) (hskip : s.skipOn m = false)
    (hpage : s.ecc.pages.contains ((m.val * 2 ^ 29 + (s.ch m).eave) / 64) = false) :
    ∃ t, exec (.fillLine m) s = .next t ∧ t.ch m = { s.ch m with eave := (s.ch m).eave + 1 } ∧
      ∀ a, placeAddr (.ext m (s.ch m).eave) ≤ a → a < placeAddr (.ext m (s.ch m).eave) + 64 → t.readByte a = 0 := by
  have hfill : s.fillStep m = ((s.zeroRange (placeAddr (.ext m (s.ch m).eave)) 64).dramWrite m (s.ch m).eave).setCh m
      { s.ch m with eave := (s.ch m).eave + 1 } := by
    have hruns : ¬((s.ch m).st ≠ .up ∨ (s.ch m).done ∨ s.bit (F.MEM_FILL_CFG_PAUSE m.val) ∨ s.testing 4 (some m.val)) := by
      rw [hst, hdone, hpause, htest]
      decide
    unfold State.fillStep
    dsimp only
    rw [if_neg hruns, if_pos (Nat.lt_of_succ_lt hroom), if_neg (Nat.ne_of_lt hroom), hskip, hpage]
    rfl
  refine ⟨_, congrArg Host.Outcome.next hfill, Vector.getElem_set_self _, fun a hlo hhi => ?_⟩
  refine (State.readByte_of_mem ?_ a).trans (zeroRange_zero s hlo hhi)
  exact (State.setCh_mem _ m _).trans (dramWrite_mem _ m _)

theorem scrubRead_completes {ch : Chan} {idx : Nat} (hen : s.bit F.ECC_SCRUB_CFG_EN = true) (hon : s.extOff = false)
    (ha : s.isAbove (.ext ch idx) = false) (ht : s.placeTested (.ext ch idx) = false)
    (hp : s.ecc.pages.contains ((ch.val * 2 ^ 29 + idx) / 64) = false) (hl : s.lastLine ch idx = true)
    (hj : eccJudge (.ext ch idx) o = .ok) (hdom : s.domOn (domainOf (R.HDR_EVT_RAW P.ECC)) = true) :
    ∃ t, exec (.scrubRead (.ext ch idx) o) s = .next t ∧ Raised t P.ECC E.ECC_SCRUB_PASS := by
  have hscrub : s.scrub (.ext ch idx) o =
      (s.setFld F.ECC_SCRUB_STAT_EXT_PASSES (s.fld F.ECC_SCRUB_STAT_EXT_PASSES + 1)).fire P.ECC E.ECC_SCRUB_PASS := by
    have hruns : ¬(¬ s.bit F.ECC_SCRUB_CFG_EN ∨ s.extOff ∨ s.placeTested (.ext ch idx)) := by
      rw [hen, hon, ht]
      decide
    have hreads : ¬(s.isAbove (.ext ch idx) ∨ s.ecc.pages.contains ((ch.val * 2 ^ 29 + idx) / 64)) := by
      rw [ha, hp]
      decide
    unfold State.scrub
    rw [if_neg hruns]
    dsimp only
    rw [if_neg hreads, if_pos hl, memRead_ok ht ha hj]
  exact ⟨_, congrArg Host.Outcome.next hscrub, State.fire_raised (s := s.setFld _ _) hdom (by decide)⟩

/-! ### Retirement and tracking (R428, R430, R433) -/

theorem retireSilicon_rd (s : State) (n : Nat) {k : Nat} (hk : k ≠ R.BPM_CNT_RETIRED_BUF) : (s.retireSilicon false n).rd k = s.rd k := by
  have hregs : (s.retireSilicon false n).regs = (s.bumpBy R.BPM_CNT_RETIRED_BUF (s.freeOn false n)).regs := by
    unfold State.retireSilicon State.leavePools
    rw [if_neg Bool.false_ne_true]
  exact (State.rd_of_regs hregs k).trans (State.rd_bumpBy_ne _ _ hk)

/-- The page has left the pools and is recorded and counted. -/
def pageRetired (s : State) (n src : Nat) : State := (s.retireSilicon false n).retireNote false n src

theorem memRecord_ecc (s : State) (page kind src : Nat) (b2 : Byte) (cw addr synd sym arg : Nat) :
    ∃ body, (s.memRecord page kind src b2 cw addr synd sym arg).ecc = { s.ecc with last := body } :=
  ⟨_, State.makeRecord_ecc _ _ _ _⟩

theorem memRecord_rd (s : State) (page kind src : Nat) (b2 : Byte) (cw addr synd sym arg : Nat) {k : Nat} (he : eventReg k = false)
    (hptr : k ≠ R.HDR_LOG_PTR page) (hlost : k ≠ R.EVT_CNT_LOG_LOST) : (s.memRecord page kind src b2 cw addr synd sym arg).rd k = s.rd k :=
  Laws.ErrorLog.makeRecordIn_rd _ 64 1 page _ k he hptr hlost

theorem pageRetired_pages (s : State) (n src : Nat) : n ∈ (pageRetired s n src).ecc.pages := by
  obtain ⟨body, hbody⟩ := memRecord_ecc (s.retireSilicon false n) P.ECC 8 src 0 0 (retEntry false n) 0 0xFF 0
  have hecc : (pageRetired s n src).ecc = { (s.retireSilicon false n).ecc with last := body } :=
    (State.fire_ecc _ _ _).trans ((State.bump_ecc _ _).trans hbody)
  rw [hecc]
  exact List.mem_cons_self

theorem pageRetired_counts (s : State) (n src : Nat) : (pageRetired s n src).rd R.ECC_CNT_RETIRED = s.rd R.ECC_CNT_RETIRED + 1 := by
  refine (State.fire_rd _ _ _ (by decide)).trans ((State.rd_bump_self _ _).trans (congrArg (· + 1) ?_))
  exact (memRecord_rd _ _ _ _ _ _ _ _ _ _ (by decide) (by decide) (by decide)).trans (retireSilicon_rd s n (by decide))

/-- A page in service is retired and its entry goes to the list. -/
theorem retireCmd_page {n src : Nat} (hnew : s.ecc.pages.contains n = false) (hsfdp : s.rst.noSfdp = false) (hroom : s.ecc.list < 4096) :
    s.retireCmd false n src =
      { pageRetired s n src with ecc := { (pageRetired s n src).ecc with append := true, src := src } } := by
  have hknown : ¬ (if false then s.ecc.banks else s.ecc.pages).contains n = true := ne_true_of_eq_false hnew
  refine (if_neg (fun h => absurd h.1 Bool.false_ne_true)).trans ((if_neg hknown).trans ?_)
  exact (if_neg (ne_true_of_eq_false hsfdp)).trans (if_neg (Nat.not_le.mpr hroom))

theorem retire_completes (ht : Taken s r R.ECC_RET_CMD) (happ : s.ecc.append = false) (hclr : s.ecc.clear = false)
    (h1 : v.getLsbD 1 = false) (hbank : s.bit F.ECC_RET_ADDR_BANK = false)
    (hnew : s.ecc.pages.contains (s.fld F.ECC_RET_ADDR_PAGE) = false) (hsfdp : s.rst.noSfdp = false) (hroom : s.ecc.list < 4096) :
    ∃ t, exec (.retire r v) s = .next t ∧ t.ecc.append = true ∧ s.fld F.ECC_RET_ADDR_PAGE ∈ t.ecc.pages ∧
      t.rd R.ECC_CNT_RETIRED = s.rd R.ECC_CNT_RETIRED + 1 := by
  have hnamed : (s.reply .done).retireNamed r = (s.reply .done).retireCmd false (s.fld F.ECC_RET_ADDR_PAGE) (reqNum r) := by
    have hbank' : (s.reply .done).bit F.ECC_RET_ADDR_BANK = false := hbank
    unfold State.retireNamed
    rw [hbank']
    rfl
  have hop : (s.reply .done).opRetCmd r (v ||| 1) = (s.reply .done).retireNamed r := by
    unfold State.opRetCmd
    dsimp only
    rw [if_neg (show ¬((s.reply .done).ecc.append = true ∨ (s.reply .done).ecc.clear = true) by simp [happ, hclr]),
      if_neg (ne_true_of_eq_false (PageControl.getLsbD_or_false h1 (by decide))), if_pos (PageControl.getLsbD_or_true v (by decide))]
  have hcmd := retireCmd_page (s := s.reply .done) (src := reqNum r) hnew hsfdp hroom
  exact ⟨_, congrArg Host.Outcome.next ((Taken_access ht).trans (hop.trans (hnamed.trans hcmd))), rfl, pageRetired_pages _ _ _,
    pageRetired_counts _ _ _⟩

theorem clearList_completes (ht : Taken s r R.ECC_RET_CMD) (happ : s.ecc.append = false) (hclr : s.ecc.clear = false)
    (h0 : v.getLsbD 0 = false) (hp : Present s r) (hsfdp : s.rst.noSfdp = false) (hpf : s.log.pf = false) :
    ∃ t, exec (.clearList r v) s = .next t ∧ t.ecc = { s.ecc with clear := true, src := reqNum r } := by
  have hop : (s.reply .done).opRetCmd r (v ||| 2) = (s.reply .done).clearBegin r := by
    unfold State.opRetCmd
    dsimp only
    rw [if_neg (show ¬((s.reply .done).ecc.append = true ∨ (s.reply .done).ecc.clear = true) by simp [happ, hclr]), if_pos (PageControl.getLsbD_or_true v (by decide)),
      Present_guarded (show Present (s.reply .done) r from hp), if_neg (ne_true_of_eq_false (PageControl.getLsbD_or_false h0 (by decide)))]
  have hbegin : (s.reply .done).clearBegin r = { s.reply .done with ecc := { s.ecc with clear := true, src := reqNum r } } :=
    (if_neg (ne_true_of_eq_false hsfdp)).trans (if_neg (ne_true_of_eq_false hpf))
  exact ⟨_, congrArg Host.Outcome.next ((Taken_access ht).trans (hop.trans hbegin)), rfl⟩

theorem retCmdDone_completes (ok : Bool) (happ : s.ecc.append = true) (hclr : s.ecc.clear = false) :
    ∃ t, exec (.retCmdDone ok) s = .next t ∧
      t.ecc = { s.ecc with append := false, list := if ok then s.ecc.list + 1 else s.ecc.list, result := if ok then 0 else 4 } := by
  refine ⟨_, congrArg Host.Outcome.next ((if_neg (ne_true_of_eq_false hclr)).trans (if_pos happ)), rfl⟩

theorem trackClr_completes (ht : Taken s r R.ECC_CE_CFG) :
    ∃ t, exec (.trackClr r v) s = .next t ∧ t.resp = .done ∧ t.ecc = { s.ecc with track := [] } :=
  ⟨_, congrArg Host.Outcome.next ((Taken_access ht).trans (if_pos (PageControl.getLsbD_or_true v (by decide)))), rfl, rfl⟩

/-! ### Re-keying (R437-R439) -/

theorem rekey_begins (ht : Taken s r R.MXE_MXE_CMD) (h1 : v.getLsbD 1 = false) (hnext : s.mxe.next ≠ none) (hrun : s.mxe.running = false)
    (hgen : s.mxe.kgen ≠ 0xFFFF) (htest : s.testing 4 none = false) :
    ∃ u : State, exec (.rekey r v) s = .next (((List.finRange 4).foldl State.rkAdvance u).rkFinish) ∧
      u.mxe = { s.mxe with running := true, ptr := Vector.replicate 4 0, passed := Vector.replicate 4 false } := by
  have hmay : ¬((s.reply .done).mxe.next = none ∨ (s.reply .done).mxe.running ∨ (s.reply .done).mxe.kgen = 0xFFFF ∨
      (s.reply .done).testing 4 none) :=
    not_or.mpr ⟨hnext, not_or.mpr ⟨ne_true_of_eq_false hrun, not_or.mpr ⟨hgen, ne_true_of_eq_false htest⟩⟩⟩
  refine ⟨_, congrArg Host.Outcome.next ((Taken_access ht).trans ((if_neg (ne_true_of_eq_false (PageControl.getLsbD_or_false h1 (by decide)))).trans
    ((if_pos (PageControl.getLsbD_or_true v (by decide))).trans (if_neg hmay)))), rfl⟩

/-- A pair has been drawn and waits as the next one. -/
def pairDrawn (s : State) : State :=
  { s with fresh := s.fresh + 2,
           mxe := { s.mxe with next := some (Config.freeKey s.fresh, Config.freeKey (s.fresh + 1)), nextWrap := false } }

theorem fresh_completes (ht : Taken s r R.MXE_MXE_CMD) (h0 : v.getLsbD 0 = false) (hrun : s.mxe.running = false) :
    ∃ t, exec (.fresh r v) s = .next t ∧
      t.mxe = { s.mxe with next := some (Config.freeKey s.fresh, Config.freeKey (s.fresh + 1)), nextWrap := false } := by
  have hop : (s.reply .done).opMxeCmd r (v ||| 2) = (pairDrawn (s.reply .done)).fire P.MXE E.MXE_NEXT_LOADED := by
    unfold State.opMxeCmd
    dsimp only
    rw [if_neg (ne_true_of_eq_false (PageControl.getLsbD_or_false h0 (by decide))), if_pos (PageControl.getLsbD_or_true v (by decide)),
      if_neg (ne_true_of_eq_false (show (s.reply .done).mxe.running = false from hrun))]
    rfl
  exact ⟨_, congrArg Host.Outcome.next ((Taken_access ht).trans hop), State.fire_mxe _ _ _⟩

/-- A channel whose pointer stands below the eave line needs no step over. -/
theorem rkAdvance_below (hrun : s.mxe.running = true) (hpass : s.mxe.passed[m] = false) (hst : (s.ch m).st ≠ .withdrawn)
    (hptr : s.mxe.ptr[m] < (s.ch m).eave) : s.rkAdvance m = s :=
  (if_neg (not_or.mpr ⟨not_not_intro hrun, ne_true_of_eq_false hpass⟩)).trans ((if_neg hst).trans (if_pos hptr))

theorem rekeyLine_reads (hrun : s.mxe.running = true) (hpass : s.mxe.passed[m] = false) (hon : s.extOff = false)
    (hst : (s.ch m).st ≠ .withdrawn) (hptr : s.mxe.ptr[m] < (s.ch m).eave) :
    ∃ (u w : State) (ok : Bool), s.memRead .rekey (.ext m s.mxe.ptr[m]) o = (ok, u) ∧
      w = { u with mxe := { u.mxe with ptr := u.mxe.ptr.set m (s.mxe.ptr[m] + 1) } } ∧
      exec (.rekeyLine m o) s = .next (((if ok then w.dramWrite m s.mxe.ptr[m] else w).rkAdvance m).rkFinish) := by
  refine ⟨_, _, _, rfl, rfl, congrArg Host.Outcome.next ?_⟩
  rw [if_pos ⟨hrun, ne_true_of_eq_false hpass, ne_true_of_eq_false hon⟩, rkAdvance_below hrun hpass hst hptr]
  exact if_neg (ne_true_of_eq_false hpass)

/-! ### The channels (R424, R444) -/

theorem ch_setCh (s : State) (m : Chan) (c : MemCh) : (s.setCh m c).ch m = c := Vector.getElem_set_self _

theorem memTrain_completes (ht : Taken s r (R.MEM_MEM_CMD m.val)) (htest : s.testing 4 (some m.val) = false) (h1 : v.getLsbD 1 = false)
    (hst : (s.ch m).st = .off) (hlimp : s.pwr.limp = false) (hent : s.mxe.entropyOk = true) :
    ∃ t, exec (.memTrain r m v) s = .next t ∧ t.resp = .done ∧ (t.ch m).st = .training := by
  have hop : (s.reply .done).opMemCmd r m (v ||| 1) = (s.reply .done).startTraining m false := by
    unfold State.opMemCmd
    dsimp only
    rw [if_neg (ne_true_of_eq_false (show (s.reply .done).testing 4 (some m.val) = false from htest)),
      if_neg (fun h => ne_true_of_eq_false (PageControl.getLsbD_or_false h1 (by decide)) h.1), if_pos (PageControl.getLsbD_or_true v (by decide)),
      show ((s.reply .done).ch m).st = .off from hst]
  have hstart : (s.reply .done).startTraining m false = (s.reply .done).setCh m
      { s.ch m with st := .training, eyeOnly := false, want := false, cap := s.memCap m } :=
    (if_neg (ne_true_of_eq_false hlimp)).trans (if_pos hent)
  exact ⟨_, congrArg Host.Outcome.next ((Taken_access ht).trans (hop.trans hstart)), rfl, congrArg MemCh.st (ch_setCh _ m _)⟩

theorem memWithdraw_withdraws (ht : Taken s r (R.MEM_MEM_CMD m.val)) (htest : s.testing 4 (some m.val) = false) (h0 : v.getLsbD 0 = false)
    (hst : (s.ch m).st = .up) : exec (.memWithdraw r m v) s = .next ((s.reply .done).withdraw m 0 (reqNum r)) := by
  refine congrArg Host.Outcome.next ((Taken_access ht).trans ?_)
  unfold State.opMemCmd
  dsimp only
  rw [if_neg (ne_true_of_eq_false (show (s.reply .done).testing 4 (some m.val) = false from htest)),
    if_pos ⟨PageControl.getLsbD_or_true v (by decide), hst⟩, if_neg (ne_true_of_eq_false (PageControl.getLsbD_or_false h0 (by decide)))]

theorem skipWindowWrite_stores (ht : Taken s r (R.MEM_SKIP_END m.val)) (hrun : s.mxe.running = false) (hskip : s.skipOn m = false) :
    exec (.skipWindowWrite r m true v) s = .next ((s.reply .done).store (R.MEM_SKIP_END m.val) v) := by
  refine congrArg Host.Outcome.next ((Taken_access ht).trans ?_)
  have hfree : ¬((s.reply .done).mxe.running = true ∨
      ((s.reply .done).skipOn m && decide ((s.reply .done).skipStart m ≤ ((s.reply .done).ch m).eave)) = true ∨
      (!true && v.getLsbD 31 && decide (getField v 0 20 * 1024 ≤ ((s.reply .done).ch m).eave)) = true) := by
    rw [show (s.reply .done).mxe.running = false from hrun, show (s.reply .done).skipOn m = false from hskip]
    simp
  exact if_neg hfree

end Sys2Proof.Proofs.MemoryCommands
end

section
/-! PROOF. The buffer, table, gate and scheduler commands of O59 (R384-R408, R446, R460, R468-R473). -/

namespace Sys2Proof.Proofs.TableCommands

open Sys2Proof Sys2Proof.Machine

variable {s : State} {r : Req} {v w : Word}

/-! ### Commands on a buffer (R398, R408) -/

theorem bufOp_op (v : Word) {op : Nat} (h : op < 8) : getField (setField v 0 3 op) 0 3 = op :=
  (getField_setField v 0 3 op (by decide)).trans (Nat.mod_eq_of_lt h)

/-- The answer to the requester is no part of what a command on a buffer looks at. -/
theorem reply_bufHdl (s : State) (x : Resp) : (s.reply x).bufHdl = s.bufHdl := rfl

theorem reply_buf (s : State) (x : Resp) (key : Nat) : (s.reply x).buf key = s.buf key := rfl

theorem reply_stale (s : State) (x : Resp) (hdl : Nat) : (s.reply x).stale hdl = s.stale hdl := rfl

/-- The buffer has further holders, and its owner is the one that BUF_ARG names. -/
def shared (s : State) (key add : Nat) : State :=
  (s.setBuf key { s.buf key with count := (s.buf key).count + add, owner := s.fld F.BPM_BUF_ARG_LAST_OWNER }).bump R.BPM_CNT_SHARE

theorem opBufCmd_shares (hl : s.stale s.bufHdl = false) (hc : (s.buf (s.bufHdl / 128)).count + getField v 8 8 ≤ 255) :
    s.opBufCmd (setField v 0 3 1) = (shared s (s.bufHdl / 128) (getField v 8 8)).showBuf (s.bufHdl / 128) 0 := by
  have hshare (hdl : Nat) (h : s.stale hdl = false) (hc : (s.buf (hdl / 128)).count + getField v 8 8 ≤ 255) :
      s.bufShare hdl (getField v 8 8) (s.fld F.BPM_BUF_ARG_LAST_OWNER) swHolder 1 = (0, shared s (hdl / 128) (getField v 8 8)) :=
    (if_neg (ne_true_of_eq_false h)).trans (if_neg (Nat.not_lt.mpr hc))
  unfold State.opBufCmd
  dsimp only
  rw [bufOp_op v (by decide), getField_setField_above v 0 3 1 8 8 (by decide) (by decide), hshare _ hl hc]
  rfl

/-- One holder less. -/
def released (s : State) (key : Nat) : State := s.setBuf key { s.buf key with count := (s.buf key).count - 1 }

theorem opBufCmd_releases (hl : s.stale s.bufHdl = false) (ho : (s.buf (s.bufHdl / 128)).owner ≠ swHolder)
    (hc : 2 < (s.buf (s.bufHdl / 128)).count) :
    s.opBufCmd (setField v 0 3 2) = (released s (s.bufHdl / 128)).showBuf (s.bufHdl / 128) 0 := by
  have hrelease (hdl : Nat) (h : s.stale hdl = false) (ho : (s.buf (hdl / 128)).owner ≠ swHolder) (hc : 2 < (s.buf (hdl / 128)).count) :
      s.bufRelease hdl swHolder 2 = (0, released s (hdl / 128)) :=
    (if_neg (ne_true_of_eq_false h)).trans ((if_neg (Ne.symm ho)).trans ((if_neg (Nat.not_lt.mpr (Nat.le_of_lt hc))).trans
      (if_neg (fun h => Nat.ne_of_gt hc h.1))))
  unfold State.opBufCmd
  dsimp only
  rw [bufOp_op v (by decide), hrelease _ hl ho hc]
  rfl

theorem opBufCmd_frees (hl : s.stale s.bufHdl = false) (ho : (s.buf (s.bufHdl / 128)).owner = swHolder)
    (hc : (s.buf (s.bufHdl / 128)).count = 1) :
    s.opBufCmd (setField v 0 3 3) = (s.doFree (s.bufHdl / 128)).showBuf (s.bufHdl / 128) 0 := by
  have hfree (hdl : Nat) (h : s.stale hdl = false) (ho : (s.buf (hdl / 128)).owner = swHolder) (hc : (s.buf (hdl / 128)).count = 1) :
      s.bufFree hdl swHolder 3 = (0, s.doFree (hdl / 128)) :=
    (if_neg (ne_true_of_eq_false h)).trans ((if_neg (not_not_intro ho.symm)).trans (if_pos hc))
  unfold State.opBufCmd
  dsimp only
  rw [bufOp_op v (by decide), hfree _ hl ho hc]
  rfl

theorem opBufCmd_query (hw : getField w 0 3 = 4) : s.opBufCmd w = s.showBuf (s.bufHdl / 128) 0 := by
  unfold State.opBufCmd
  dsimp only
  rw [hw]
  rfl

theorem opBufCmd_alloc {key : Nat} {u : State} (hw : getField w 0 3 = 5) (hen : s.bit F.BPM_BPM_CTL_EN = true)
    (ha : s.allocPool (w.getLsbD 19) (getField w 16 3) swHolder = (some key, u)) :
    s.opBufCmd w = ((u.wr R.BPM_BUF_HDL_LO (BitVec.ofNat 32 (u.handleOf key))).wr R.BPM_BUF_HDL_HI
      (BitVec.ofNat 32 (u.handleOf key / 2 ^ 32))).showBuf key 0 := by
  unfold State.opBufCmd
  dsimp only
  rw [hw, if_pos hen, ha]
  rfl

theorem bufShare_completes (ht : Taken s r R.BPM_BUF_CMD) (hl : s.stale s.bufHdl = false)
    (hc : (s.buf (s.bufHdl / 128)).count + getField v 8 8 ≤ 255) :
    ∃ t, exec (.bufShare r v) s = .next t ∧ t.resp = .done ∧ t.bufs = mapPut {} s.bufs (s.bufHdl / 128) { s.buf (s.bufHdl / 128) with
      count := (s.buf (s.bufHdl / 128)).count + getField v 8 8, owner := s.fld F.BPM_BUF_ARG_LAST_OWNER } := by
  have hop := opBufCmd_shares (s := s.reply .done) (v := v) (by rwa [reply_bufHdl, reply_stale]) (by rwa [reply_bufHdl, reply_buf])
  rw [reply_bufHdl] at hop
  exact ⟨_, congrArg Host.Outcome.next ((Taken_access ht).trans hop), rfl, rfl⟩

theorem bufRelease_completes (ht : Taken s r R.BPM_BUF_CMD) (hl : s.stale s.bufHdl = false) (ho : (s.buf (s.bufHdl / 128)).owner ≠ swHolder)
    (hc : 2 < (s.buf (s.bufHdl / 128)).count) :
    ∃ t, exec (.bufRelease r v) s = .next t ∧ t.resp = .done ∧
      t.bufs = mapPut {} s.bufs (s.bufHdl / 128) { s.buf (s.bufHdl / 128) with count := (s.buf (s.bufHdl / 128)).count - 1 } := by
  have hop := opBufCmd_releases (s := s.reply .done) (v := v) (by rwa [reply_bufHdl, reply_stale]) (by rwa [reply_bufHdl, reply_buf])
    (by rwa [reply_bufHdl, reply_buf])
  rw [reply_bufHdl] at hop
  exact ⟨_, congrArg Host.Outcome.next ((Taken_access ht).trans hop), rfl, rfl⟩

theorem bufFree_frees (ht : Taken s r R.BPM_BUF_CMD) (hl : s.stale s.bufHdl = false) (ho : (s.buf (s.bufHdl / 128)).owner = swHolder)
    (hc : (s.buf (s.bufHdl / 128)).count = 1) :
    exec (.bufFree r v) s = .next (((s.reply .done).doFree (s.bufHdl / 128)).showBuf (s.bufHdl / 128) 0) := by
  have hop := opBufCmd_frees (s := s.reply .done) (v := v) (by rwa [reply_bufHdl, reply_stale]) (by rwa [reply_bufHdl, reply_buf])
    (by rwa [reply_bufHdl, reply_buf])
  rw [reply_bufHdl] at hop
  exact congrArg Host.Outcome.next ((Taken_access ht).trans hop)

theorem bufQuery_completes (ht : Taken s r R.BPM_BUF_CMD) :
    ∃ t, exec (.bufQuery r v) s = .next t ∧ t.resp = .done ∧ t.rd R.BPM_BUF_STAT = BitVec.ofNat 32 (min (s.buf (s.bufHdl / 128)).count 2 * 2 ^ 4 +
      b2n (s.buf (s.bufHdl / 128)).pend * 2 ^ 6 + (s.buf (s.bufHdl / 128)).count * 2 ^ 8 + (s.buf (s.bufHdl / 128)).owner * 2 ^ 16) := by
  have hop := opBufCmd_query (s := s.reply .done) (bufOp_op v (op := 4) (by decide))
  refine ⟨_, congrArg Host.Outcome.next ((Taken_access ht).trans hop), rfl, ?_⟩
  unfold State.showBuf
  rw [State.rd_wr_self, Nat.zero_add]
  rfl

theorem bufAlloc_allocates {key : Nat} {u : State} (ht : Taken s r R.BPM_BUF_CMD) (hen : s.bit F.BPM_BPM_CTL_EN = true)
    (ha : (s.reply .done).allocPool (v.getLsbD 19) (getField v 16 3) swHolder = (some key, u)) :
    exec (.bufAlloc r v) s = .next (((u.wr R.BPM_BUF_HDL_LO (BitVec.ofNat 32 (u.handleOf key))).wr R.BPM_BUF_HDL_HI
      (BitVec.ofNat 32 (u.handleOf key / 2 ^ 32))).showBuf key 0) := by
  have htier : (setField v 0 3 5).getLsbD 19 = v.getLsbD 19 := (setField_getLsbD v 5 19 (by decide)).trans (if_neg (by decide))
  have hpool : getField (setField v 0 3 5) 16 3 = getField v 16 3 := getField_setField_above v 0 3 5 16 3 (by decide) (by decide)
  exact congrArg Host.Outcome.next ((Taken_access ht).trans
    (opBufCmd_alloc (s := s.reply .done) (bufOp_op v (op := 5) (by decide)) hen (by rw [htier, hpool]; exact ha)))

/-! ### The pools and the queue map (R385, R386, R395) -/

theorem bpmEnable_completes (ht : Taken s r R.BPM_BPM_CTL) (h0 : v.getLsbD 0 = true) (hfit : s.onpBytes ≤ 48 * 2 ^ 20)
    (htest : s.testing 0 none = false) : ∃ t, exec (.bpmEnable r v) s = .next t ∧ t.resp = .done ∧ t.bit F.BPM_BPM_CTL_EN = true :=
  ⟨_, congrArg Host.Outcome.next ((Taken_access ht).trans
      (if_neg (fun h => h.2.elim (Nat.not_lt.mpr hfit) (ne_true_of_eq_false htest)))), State.store_resp _ _ _,
    (State.bit_store_plain _ F.BPM_BPM_CTL_EN v (by decide) rfl).trans h0⟩

theorem onpCntWrite_stores {k : Fin 8} (ht : Taken s r (R.BPM_ONP_CNT k.val)) (hoff : s.bit F.BPM_BPM_CTL_EN = false) :
    exec (.onpCntWrite r k v) s = .next ((s.reply .done).store (R.BPM_ONP_CNT k.val) v) :=
  congrArg Host.Outcome.next ((Taken_access ht).trans (if_neg (ne_true_of_eq_false hoff)))

theorem extRegWrite_completes {k : Fin 8} {m : Chan} (ht : Taken s r (R.BPM_EXT_REG (4 * k.val + m.val)))
    (h31 : (mergeWrite (fieldsAt (R.BPM_EXT_REG (4 * k.val + m.val))) (s.rd (R.BPM_EXT_REG (4 * k.val + m.val))) v).getLsbD 31 = false)
    (hoff : s.regionOn true k.val m.val = false) (hheld : s.heldKeys true k.val m.val = []) :
    ∃ t, exec (.extRegWrite r k m v) s = .next t ∧ t.resp = .done ∧ t.rd (R.BPM_EXT_REG (4 * k.val + m.val)) =
      mergeWrite (fieldsAt (R.BPM_EXT_REG (4 * k.val + m.val))) (s.rd (R.BPM_EXT_REG (4 * k.val + m.val))) v := by
  refine ⟨_, congrArg Host.Outcome.next ((Taken_access ht).trans ((if_neg (fun h => ne_true_of_eq_false h31 h.1)).trans
    (if_neg (fun h => h.2.elim (ne_true_of_eq_false hoff) (fun hne => hne hheld))))), State.wr_resp _ _ _, State.rd_wr_self _ _ _⟩

theorem viewQmap_keeps_all (s : State) : SameBut [.regs] s s.viewQmap := State.viewQmap_keeps (List.Subset.refl _) (SameBut.refl _ s)

theorem qmapDataWrite_completes (ht : Taken s r R.BPM_QMAP_DATA) (hview : s.bit F.BPM_QMAP_ADDR_VIEW = false)
    (hbusy : s.bit F.BPM_QMAP_STAT_BUSY = false) (happ : s.applying P.BPM = false) :
    ∃ t, exec (.qmapDataWrite r v) s = .next t ∧ t.resp = .done ∧
      t.qmap = mapPut 0 s.qmap ((1 - s.fld F.BPM_QMAP_CTL_ACTIVE) * 2 ^ 14 + s.fld F.BPM_QMAP_ADDR_QUEUE) (getField v 0 5) := by
  refine ⟨_, congrArg Host.Outcome.next ((Taken_access ht).trans (if_neg (not_or.mpr ⟨ne_true_of_eq_false hview,
    not_or.mpr ⟨ne_true_of_eq_false hbusy, ne_true_of_eq_false happ⟩⟩))), ((viewQmap_keeps_all _) .resp (by decide)).trans ?_,
    ((viewQmap_keeps_all _) .qmap (by decide)).trans ?_⟩
  · split <;> rfl
  · split <;> rfl

theorem qmapCopy_completes (ht : Taken s r R.BPM_QMAP_CMD) :
    ∃ t, exec (.qmapCopy r v) s = .next t ∧ t.resp = .done ∧ t.bit F.BPM_QMAP_STAT_BUSY = true :=
  ⟨_, congrArg Host.Outcome.next ((Taken_access ht).trans (if_pos (PageControl.getLsbD_or_true v (by decide)))), State.setFld_resp _ _ _,
    decide_eq_true (State.fld_setFld_self _ F.BPM_QMAP_STAT_BUSY 1 (by decide))⟩

theorem copyComplete_qmap_completes (h : s.bit F.BPM_QMAP_STAT_BUSY = true) :
    ∃ t, exec (.copyComplete .qmap) s = .next t ∧ t.bit F.BPM_QMAP_STAT_BUSY = false := by
  refine ⟨_, congrArg Host.Outcome.next (if_pos h), decide_eq_false ?_⟩
  have hview : ∀ u : State, u.viewQmap.rd R.BPM_QMAP_STAT = u.rd R.BPM_QMAP_STAT := fun u => State.rd_wr_ne u _ (by decide)
  unfold State.fld
  rw [hview]
  exact (State.fld_setFld_self _ F.BPM_QMAP_STAT_BUSY 0 (by decide)).trans_ne (by decide)

theorem tableSelect_writes {a : Addr} (ha : selectors.contains a.toNat = true) (ht : Taken s r a.toNat) :
    exec (.tableSelect r a v) s = .next ((s.reply .done).performWrite r a.toNat v) :=
  (if_pos ha).trans (congrArg Host.Outcome.next (Taken_access ht))

/-! ### Gate lists (R468, R469) -/

/-- What a requester sees of a list is in registers. -/
theorem viewGate_keeps_all (s : State) (q : Nat) : SameBut [.regs] s (s.viewGate q) :=
  State.viewGate_keeps q (List.Subset.refl _) (SameBut.refl _ s)

theorem viewGates_keeps_all (s : State) (l : Nat) (g : GateList) : SameBut [.regs] s (s.viewGates l g) :=
  State.viewGates_keeps l g (List.Subset.refl _) (SameBut.refl _ s)

theorem opGateShadow_list {l : Nat} (hl : l = s.fld (F.GAT_G_SEL_LANE (reqNum r))) (hview : s.bit (F.GAT_G_SEL_VIEW (reqNum r)) = false)
    (hbusy : s.gateBusy.any (fun x => decide (x.val = l)) = false) (happ : s.applying P.GAT = false) :
    (s.opGateShadow r R.GAT_G_LIST v).gates = mapPut {} s.gates (l * 2 + (1 - s.fld (gateBit l)))
      { s.gateList l (1 - s.fld (gateBit l)) with len := (mergeWrite (fieldsAt R.GAT_G_LIST) 0 v).toNat } := by
  subst hl
  unfold State.opGateShadow
  dsimp only
  rw [if_neg (not_or.mpr ⟨ne_true_of_eq_false hview, not_or.mpr ⟨ne_true_of_eq_false hbusy, ne_true_of_eq_false happ⟩⟩),
    if_neg (by decide), if_pos rfl, viewGate_keeps_all _ _ .gates (by decide), viewGates_keeps_all _ _ _ .gates (by decide)]
  rfl

theorem gateShadowWrite_completes {l : Nat} (ht : Taken s r R.GAT_G_LIST) (hl : l = s.fld (F.GAT_G_SEL_LANE (reqNum r)))
    (hview : s.bit (F.GAT_G_SEL_VIEW (reqNum r)) = false) (hbusy : s.gateBusy.any (fun x => decide (x.val = l)) = false)
    (happ : s.applying P.GAT = false) :
    ∃ t, exec (.gateShadowWrite r (BitVec.ofNat 20 R.GAT_G_LIST) v) s = .next t ∧
      (t.gateList l (1 - s.fld (gateBit l))).len = (mergeWrite (fieldsAt R.GAT_G_LIST) 0 v).toNat := by
  have haddr : (BitVec.ofNat 20 R.GAT_G_LIST).toNat = R.GAT_G_LIST := by decide
  refine ⟨(s.reply .done).opGateShadow r R.GAT_G_LIST v, ?_, ?_⟩
  · show execGateShadowWrite r (BitVec.ofNat 20 R.GAT_G_LIST) v s = _
    unfold execGateShadowWrite
    rw [haddr, if_pos (by decide), Taken_access ht]
  · unfold State.gateList
    rw [opGateShadow_list (s := s.reply .done) hl hview hbusy happ]
    exact congrArg GateList.len (mapGet_mapPut_self _ _ _ _)

theorem gateCopy_completes (ht : Taken s r R.GAT_G_CMD) :
    ∃ t, exec (.gateCopy r v) s = .next t ∧ t.resp = .done ∧
      t.gateBusy = (Fin.ofNat 48 (s.fld (F.GAT_G_SEL_LANE (reqNum r))) :: s.gateBusy).dedup :=
  ⟨_, congrArg Host.Outcome.next ((Taken_access ht).trans (if_pos (PageControl.getLsbD_or_true v (by decide)))), rfl, rfl⟩

/-! ### Depth maxima and shapers (R446, R460) -/

theorem hwmClr_completes (ht : Taken s r R.SCH_Q_CMD) (h1 : v.getLsbD 1 = false) :
    ∃ t, exec (.hwmClr r v) s = .next t ∧ t.resp = .done ∧ t.rd (R.SCH_Q_HWM (s.fld (F.SCH_Q_SEL_QUEUE (reqNum r)))) = 0 := by
  have hop : (s.reply .done).opQCmd r (v ||| 1) = (s.reply .done).wr (R.SCH_Q_HWM (s.fld (F.SCH_Q_SEL_QUEUE (reqNum r)))) 0 :=
    (if_neg (ne_true_of_eq_false (PageControl.getLsbD_or_false h1 (by decide)))).trans (if_pos (PageControl.getLsbD_or_true v (by decide)))
  exact ⟨_, congrArg Host.Outcome.next ((Taken_access ht).trans hop), State.wr_resp _ _ _, State.rd_wr_self _ _ _⟩

/-- The depth maximum of a queue is 0 after reset. -/
theorem resetWord_hwm (n : Nat) : resetWord (R.SCH_Q_HWM n) = 0 := by
  have hpage : pageOf (R.SCH_Q_HWM n) = P.SCH := (Sys2Proof.pageOf_idxKey _ n).trans rfl
  unfold resetWord
  rw [if_neg (fun h => absurd (hpage.symm.trans h.1) (by decide)), Laws.Items.fieldsAt_idxKey]
  decide

theorem hwmClrAll_completes (ht : Taken s r R.SCH_Q_CMD) (h0 : v.getLsbD 0 = false) :
    ∃ t, exec (.hwmClrAll r v) s = .next t ∧ t.resp = .done ∧ ∀ n, t.rd (R.SCH_Q_HWM n) = 0 := by
  have hop : (s.reply .done).opQCmd r (v ||| 2) =
      { s.reply .done with regs := mapFilter (fun k => !(decide (pageOf k = P.SCH) && decide (ofsOf k = 0x060))) s.regs } := by
    unfold State.opQCmd
    dsimp only
    rw [if_neg (ne_true_of_eq_false (PageControl.getLsbD_or_false h0 (by decide))), if_pos (PageControl.getLsbD_or_true v (by decide))]
    rfl
  refine ⟨_, congrArg Host.Outcome.next ((Taken_access ht).trans hop), rfl, fun n => ?_⟩
  have hpage : pageOf (R.SCH_Q_HWM n) = P.SCH := (Sys2Proof.pageOf_idxKey _ n).trans rfl
  have hofs : ofsOf (R.SCH_Q_HWM n) = 0x060 := by unfold ofsOf; simp only [R.SCH_Q_HWM, idxKey]; omega
  unfold State.rd
  rw [mapGet_mapFilter, hpage, hofs, if_neg (by decide)]
  exact resetWord_hwm n

theorem shpEnable_completes (ht : Taken s r R.SHP_SHP_CTL) (hoff : s.bit F.SHP_SHP_CTL_EN = false) :
    ∃ u : State, exec (.shpEnable r v) s = .next ((u.shapersListed.filter u.shaperOn).foldl State.setShaper u) ∧ u.bit F.SHP_SHP_CTL_EN = true := by
  have h0 : (v ||| 1).getLsbD 0 = true := PageControl.getLsbD_or_true v (by decide)
  exact ⟨_, congrArg Host.Outcome.next ((Taken_access ht).trans ((if_neg (not_not_intro h0)).trans (if_neg (ne_true_of_eq_false hoff)))),
    (State.bit_store_plain _ F.SHP_SHP_CTL_EN _ (by decide) rfl).trans h0⟩

end Sys2Proof.Proofs.TableCommands
end

section
/-! PROOF. Every command named in O59 completes: the clauses that rest on the statements of the classifier and the flow contexts, and the
obligation. -/

namespace Sys2Proof.Proofs.DataPathCompletion

open Sys2Proof Sys2Proof.Machine Sys2Proof.Proofs.Classifier Sys2Proof.Proofs.FlowContexts Sys2Proof.Proofs.TreeNodes
  Sys2Proof.Proofs.LaneCommands Sys2Proof.Proofs.PortCommands Sys2Proof.Proofs.MemoryCommands Sys2Proof.Proofs.TableCommands

variable {s : State} {pipe : Fin 4} {k : Pkt} {ks : List Pkt} {r : Req} {v : Word} {i : Nat}

theorem classifyWalk_completes {e : Fin 16} {l : Leaf} (hcls : (s.pipes[pipe]).cls = k :: ks) (hb : s.behindMark pipe 1 k.ord = false)
    (hen : s.bit F.CLS_CLS_CTL_EN = true) (hep : k.epoch.or (s.epochFor pipe k.src) = some e)
    (hw : s.walkFrom (s.epochs[e]) k.fullKey (s.epochs[e]).root none 32 = .leaf l) :
    ∃ u : State, exec (.classifyWalk pipe none) s = .next ((u.leafAction pipe { k with epoch := some e } l).retireEpochs) ∧
      u.pipes = s.pipes.set pipe { s.pipes[pipe] with cls := ks } :=
  ⟨_, classifyWalk_leaf hcls hb hen hep hw, State.bump64_pipes _ _ _ _⟩

theorem recirculate_completes (h : (s.pipes[pipe]).rcOut = k :: ks) (hroom : (s.pipes[pipe]).rc.length < 64) :
    ∃ t, exec (.recirculate pipe) s = .next t ∧
      t.pipes = s.pipes.set pipe { s.pipes[pipe] with rcOut := ks, rc := (s.pipes[pipe]).rc ++ [{ k with pass := k.pass + 1 }] } :=
  ⟨_, recirculate_passes h hroom, State.bump_pipes _ _⟩

theorem flowLookup_completes (h : (s.pipes[pipe]).flow = k :: ks) (hb : s.behindMark pipe 2 k.ord = false)
    (hf : k.leaf.flow = 1 ∨ k.leaf.flow = 2) (hon : s.bit F.CLS_FLOW_CTL_ON_EN = true)
    (hfound : (s.findCtx false (s.flowKey pipe k)).isSome = true) :
    ∃ (u : State) (q : Pkt), exec (.flowLookup pipe false) s = .next (u.afterFlow pipe q) ∧
      u.rd R.CLS_CNT_FLOW_HIT = s.rd R.CLS_CNT_FLOW_HIT + 1 := by
  obtain ⟨i, hi⟩ := Option.isSome_iff_exists.mp hfound
  exact ⟨_, _, (flowLookup_takes h hb).trans (congrArg Host.Outcome.next (flowStage_hits (s := unflowed s pipe ks) hf hon hi)),
    flowHit_counts _ i k⟩

theorem flowAge_completes (hage : s.fld F.CLS_FLOW_CTL_AGE_MS ≠ 0) (hv : ctxBit (s.ctx false i) 7 = true)
    (hl : ((s.ctx false i).getD 54 0).getLsbD 0 = true)
    (hpast : s.fld F.CLS_FLOW_CTL_AGE_MS < (s.flowMs + 65536 - ofBytesBE (((s.ctx false i).drop 52).take 2)) % 65536) :
    ∃ t, exec (.flowAge false i) s = .next t ∧ t.rd R.CLS_CNT_AGED = s.rd R.CLS_CNT_AGED + 1 ∧
      ctxBit (t.readBytes (s.ctxAddr false i) 64) 7 = false := by
  obtain ⟨t, hexec, -, hcount, hbit, -⟩ := flowAge_clears hage hv hl hpast (.inl rfl)
  exact ⟨t, hexec, hcount, hbit⟩

theorem flowRead_completes (ht : Taken s r R.CLS_FLOW_CMD) (hx : s.bit F.CLS_FLOW_ADDR_EXT = false) (htest : s.testing 3 none = false)
    (h1 : v.getLsbD 1 = false) (h2 : v.getLsbD 2 = false) :
    ∃ t, exec (.flowRead r v false) s = .next t ∧ t.resp = .done ∧
      t.rd (R.CLS_FLOW_DATA 15) = BitVec.ofNat 32 (ofBytesBE ((s.ctx false (s.fld F.CLS_FLOW_ADDR_INDEX)).drop 60)) := by
  have hlast := ctxShown_last (s := s.reply .done) (ue := false) (.inl hx)
  rw [show (s.reply .done).bit F.CLS_FLOW_ADDR_EXT = false from hx] at hlast
  exact ⟨_, flowRead_shows ht (.inr htest) h1 h2, (ctxShown_frame (s.reply .done) false).1 .resp (by decide), hlast⟩

theorem flowWrite_completes (ht : Taken s r R.CLS_FLOW_CMD) (hx : s.bit F.CLS_FLOW_ADDR_EXT = false) (htest : s.testing 3 none = false)
    (h0 : v.getLsbD 0 = false) (h2 : v.getLsbD 2 = false) :
    ∃ t, exec (.flowWrite r v) s = .next t ∧ t.resp = .done ∧ t.readBytes (s.ctxAddr false (s.fld F.CLS_FLOW_ADDR_INDEX)) 64 =
      ((List.range 16).map (fun j => toBytesBE 4 (s.rd (R.CLS_FLOW_DATA j)).toNat)).flatten := by
  obtain ⟨t, hexec, -, hresp, hstores⟩ := flowWrite_stores ht (.inr htest) h0 h2
  rw [hx] at hstores
  exact ⟨t, hexec, hresp, hstores.readBytes (length_flowData s)⟩

theorem flowInvalidate_completes (ht : Taken s r R.CLS_FLOW_CMD) (hx : s.bit F.CLS_FLOW_ADDR_EXT = false) (htest : s.testing 3 none = false)
    (h0 : v.getLsbD 0 = false) (h1 : v.getLsbD 1 = false) :
    ∃ t, exec (.flowInvalidate r v) s = .next t ∧ t.resp = .done ∧
      ctxBit (t.readBytes (s.ctxAddr false (s.fld F.CLS_FLOW_ADDR_INDEX)) 64) 7 = false := by
  obtain ⟨t, hexec, -, hresp, hstores⟩ := flowInvalidate_stores ht (.inr htest) h0 h1
  rw [hx] at hstores
  have hlen := length_ctx s false (s.fld F.CLS_FLOW_ADDR_INDEX)
  refine ⟨t, hexec, hresp, ?_⟩
  rw [hstores.readBytes (length_invalidCtx hlen)]
  exact ctxBit_invalidCtx hlen

theorem treeDataWrite_completes (ht : Taken s r (R.CLS_TREE_DATA 3)) (hl : s.nodeLocked (s.fld F.CLS_TREE_ADDR_NODE) = false)
    (htest : s.testing 1 (some (s.fld F.CLS_TREE_ADDR_NODE / 4096)) = false) :
    ∃ t, exec (.treeDataWrite r v) s = .next t ∧ t.resp = .done ∧ t.readBytes (nodeAddr (s.fld F.CLS_TREE_ADDR_NODE)) 16 =
      ([s.rd (R.CLS_TREE_DATA 0), s.rd (R.CLS_TREE_DATA 1), s.rd (R.CLS_TREE_DATA 2), v].map (fun w => (toBytesBE 4 w.toNat).reverse)).flatten := by
  obtain ⟨t, hexec, -, hresp, hstores⟩ := treeDataWrite_stores (v := v) ht hl htest
  exact ⟨t, hexec, hresp, hstores.readBytes (length_nodeBytes _)⟩

theorem police_completes (h : (s.pipes[pipe]).pol = k :: ks) (hb : s.behindMark pipe 3 k.ord = false) (hp : k.leaf.polEn = false) :
    ∃ t, exec (.police pipe) s = .next t ∧ t.pipes = s.pipes.set pipe { s.pipes[pipe] with pol := ks, buf := (s.pipes[pipe]).buf ++ [k] } := by
  obtain ⟨t, hexec, -, hpipes⟩ := police_passes h hb hp
  exact ⟨t, hexec, hpipes⟩

/-- Settles O59: the classifier and the flow contexts by the lemmas of O33, then memory, tables, lanes and ports by theirs. -/
theorem dataPathAndPortCommandsComplete : Obligations.DataPathAndPortCommandsComplete := by
  unfold Obligations.DataPathAndPortCommandsComplete
  exact ⟨fun _ _ _ _ _ _ hcls hb hen hep hw => classifyWalk_completes hcls hb hen hep hw,
    fun _ _ _ _ h hroom => recirculate_completes h hroom,
    fun _ _ _ _ h hb hf hon hfound => flowLookup_completes h hb hf hon hfound,
    fun _ _ hage hv hl hpast => flowAge_completes hage hv hl hpast,
    fun _ _ _ ht hx htest h1 h2 => flowRead_completes ht hx htest h1 h2,
    fun _ _ _ ht hx htest h0 h2 => flowWrite_completes ht hx htest h0 h2,
    fun _ _ _ ht hx htest h0 h1 => flowInvalidate_completes ht hx htest h0 h1,
    fun _ _ _ ht hl htest => treeDataWrite_completes ht hl htest,
    fun _ _ _ _ hn hr => ⟨_, coreTreeStore_first hn hr, heldNode_self _ _ _⟩,
    fun _ k _ key u _ hbuf hhdl hlen ha =>
      ⟨filled u key k, bufferAllocate_fills hbuf hhdl hlen ha, congrArg Buf.rx (filled_buf u key k)⟩,
    fun _ _ _ _ h => enqueue_takes h,
    fun _ _ _ _ h hb hp => police_completes h hb hp,
    fun _ _ _ ht hl hc => bufShare_completes ht hl hc,
    fun _ _ _ ht hl ho hc => bufRelease_completes ht hl ho hc,
    fun _ _ _ ht hl ho hc => bufFree_frees ht hl ho hc,
    fun _ _ _ ht => bufQuery_completes ht,
    fun _ _ _ _ _ ht hen ha => bufAlloc_allocates ht hen ha,
    fun _ _ _ ht h0 hfit htest => bpmEnable_completes ht h0 hfit htest,
    fun _ _ _ _ ht hoff => onpCntWrite_stores ht hoff,
    fun _ _ _ _ _ ht h31 hoff hheld => extRegWrite_completes ht h31 hoff hheld,
    fun _ _ _ ht hview hbusy happ => qmapDataWrite_completes ht hview hbusy happ,
    fun _ _ _ ht => qmapCopy_completes ht,
    fun u _ _ _ ha ht hj => memoryRead_completes u ha ht hj,
    fun _ _ _ _ hlen ht => memoryWrite_completes hlen ht,
    fun _ _ _ _ _ hp ha ht hc hj => lineFill_completes hp ha ht hc hj,
    fun _ _ hst hdone hpause htest hroom hskip hpage => fillLine_completes hst hdone hpause htest hroom hskip hpage,
    fun _ _ _ _ hen hon ha ht hp hl hj hdom => scrubRead_completes hen hon ha ht hp hl hj hdom,
    fun _ _ _ ht happ hclr h1 hbank hnew hsfdp hroom => retire_completes ht happ hclr h1 hbank hnew hsfdp hroom,
    fun _ _ _ ht happ hclr h0 hd hp hsfdp hpf => clearList_completes ht happ hclr h0 ⟨hd, hp⟩ hsfdp hpf,
    fun ok _ happ hclr => retCmdDone_completes ok happ hclr,
    fun _ _ _ ht => trackClr_completes ht,
    fun _ _ _ ht h1 hnext hrun hgen htest => rekey_begins ht h1 hnext hrun hgen htest,
    fun _ _ _ ht h0 hrun => fresh_completes ht h0 hrun,
    fun _ _ _ hrun hpass hon hst hptr => rekeyLine_reads hrun hpass hon hst hptr,
    fun _ _ _ _ ht htest h1 hst hlimp hent => memTrain_completes ht htest h1 hst hlimp hent,
    fun _ _ _ _ ht htest h0 hst => memWithdraw_withdraws ht htest h0 hst,
    fun _ _ _ _ ht hrun hskip => skipWindowWrite_stores ht hrun hskip,
    fun _ h => copyComplete_qmap_completes h,
    fun _ _ _ _ ha ht => tableSelect_writes ha ht,
    fun _ _ => rfl,
    fun _ _ _ _ ht hl hview hbusy happ => gateShadowWrite_completes ht hl hview hbusy happ,
    fun _ _ _ ht => gateCopy_completes ht,
    fun _ _ _ ht h1 => hwmClr_completes ht h1,
    fun _ _ _ ht h0 => hwmClrAll_completes ht h0,
    fun _ _ _ ht hoff => shpEnable_completes ht hoff,
    fun _ _ _ _ ht hlimp hoff => laneCtlWrite_restarts ht hlimp hoff,
    fun _ _ _ _ ht hv hup htx => laneSleep_completes ht hv hup htx,
    fun _ _ _ _ ht h0 hv hs href => laneWake_completes ht h0 hv hs href,
    fun _ _ _ _ ht h0 h3 hd => laneRecal_completes ht h0 h3 hd,
    fun _ _ _ _ ht hv h4 hw => laneRecalAbort_completes ht hv h4 hw,
    fun _ _ _ _ ht hv hup => laneRetrain_completes ht hv hup,
    fun _ _ _ _ hs had => negotiationComplete_completes hs had,
    fun _ _ hs => linkTrainingComplete_completes hs,
    fun _ _ hs hr => linkTrainingTimeout_completes hs hr,
    fun _ _ hm hs => pcsLock_completes hm hs,
    fun _ _ hm hs => pcsLockLoss_completes hm hs,
    fun _ _ hw hd => recalRun_completes hw hd,
    fun _ _ hs => recalEnd_completes hs,
    fun _ _ hw hs href => wakeOnSignal_completes hw hs href,
    fun _ _ _ hq hw hd hs href => wakeOnQueue_completes hq hw hd hs href,
    fun _ _ hs href hon => pllReady_completes hs href hon,
    fun s => refLoss_completes s,
    fun _ => ⟨_, rfl, rfl⟩,
    fun _ _ hup heth hen htx htodo hwait hq _ _ _ _ _ _ h1 h2 hel h3 h4 => laneSelect_selects hup heth hen htx htodo hwait hq h1 h2 hel h3 h4,
    fun _ _ heth hen htx hpause hquiet _ _ _ _ _ _ hqs h1 hel h2 hq => portSelect_selects heth hen htx hpause hquiet hqs h1 hel h2 hq,
    fun _ _ _ heth hlen hmax hfcs hunc htype => frameReceive_accepts heth hlen hmax hfcs hunc htype,
    fun _ _ _ heth hfc => pauseReceive_completes heth hfc,
    fun _ _ _ _ hlen heth hfc => pfcReceive_takes hlen heth hfc,
    fun e p s => pauseTimerExpire_completes s e p,
    fun _ _ hthr heth hfc hoff hheld => pauseSend_pauses hthr heth hfc hoff hheld,
    fun _ _ hthr heth hfc hoff hheld => pauseRefresh_pauses hthr heth hfc hoff hheld,
    fun _ _ _ h => txUnderrun_ends h,
    fun _ _ _ h => frameTransmitEnd_ends h,
    fun _ _ _ _ hhalf htx hfree hbit htries => collision_completes hhalf htx hfree hbit htries,
    fun _ _ h => backoffExpire_completes h,
    fun _ _ heth hcx hhalf hbp hthr hheld => cxBpStart_completes heth hcx hhalf hbp hthr hheld,
    fun _ _ _ _ _ hen hlimp hon => phyPoll_completes hen hlimp hon,
    fun _ _ heth hen hforce hfast hst => portStepDown_completes heth hen hforce hfast hst,
    fun _ _ _ hq hst hdeep => portStepUp_completes hq hst hdeep,
    fun _ _ _ ht hfree => mdioWrite_completes ht hfree,
    fun _ _ _ ht hfree => mdioRead_completes ht hfree,
    fun _ _ _ _ h => mdioFrameDone_completes h,
    fun u pl s => narrowWrite_completes u pl s⟩

end Sys2Proof.Proofs.DataPathCompletion
end

section
/-! PROOF. Commands on buffers and the configuration of the pools (O34): the equations of the outcomes that the completion of these
commands leaves open, and what a shared, a refused and a freed buffer leave alone. -/

namespace Sys2Proof.Proofs.BufferPools

open Sys2Proof Sys2Proof.Machine Sys2Proof.Proofs.TableCommands

variable {s : State} {r : Req} {v w : Word}

/-! ### What the operations on a buffer leave alone -/

theorem bufRefuse_frame (s : State) (hdl cause holder op : Nat) :
    FrameEv [.log] [R.BPM_CNT_REFUSED, R.BPM_LAST_REFUSE_LO, R.BPM_LAST_REFUSE_HI, R.HDR_LOG_PTR P.BPM, R.EVT_CNT_LOG_LOST] s
      (s.bufRefuse hdl cause holder op) :=
  (((((FrameEv.refl _ _ s).bump _ (by decide)).wr _ _ (by decide)).wr _ _ (by decide)).trans
    ((Laws.ErrorLog.makeRecordIn_spec _ 64 2 P.BPM _).1.mono (by decide) (by decide))).andFire _ _

theorem doFree_frame (s : State) (key : Nat) : FrameEv [.bufs, .lports] [R.BPM_CNT_RETIRED_BUF] s (s.doFree key) := by
  have hfreed := ((FrameEv.refl [.bufs, .lports] [R.BPM_CNT_RETIRED_BUF] s).setBuf key { gen := (s.buf key).gen + 1, dead := (s.buf key).dead }
    (by decide)).stopBackPressure (s.buf key).rx (by decide)
  have hcounted := FrameEv.ite (c := s.onRetired key = true ∧ ¬ (s.buf key).dead = true) (hfreed.bump R.BPM_CNT_RETIRED_BUF (by decide)) hfreed
  exact FrameEv.ite (hcounted.andFire _ _) hcounted

theorem stopBackPressure_bufs (s : State) (rx : Option (Nat × Nat × Nat)) : (s.stopBackPressure rx).bufs = s.bufs :=
  State.stopBackPressure_keeps rx (List.Subset.refl _) (SameBut.refl _ s) .bufs (by decide)

/-- R398: the buffer is FREE and has its next generation, whatever a free counts and raises besides. -/
theorem doFree_bufs (s : State) (key : Nat) :
    (s.doFree key).bufs = mapPut {} s.bufs key { gen := (s.buf key).gen + 1, dead := (s.buf key).dead } := by
  unfold State.doFree
  dsimp only
  rw [apply_ite State.bufs, State.fire_bufs, ite_self, apply_ite State.bufs, State.bump_bufs, ite_self, stopBackPressure_bufs]
  rfl

theorem showBuf_rd (s : State) (key result : Nat) : (s.showBuf key result).rd R.BPM_BUF_STAT =
    BitVec.ofNat 32 (result + min (s.buf key).count 2 * 2 ^ 4 + b2n (s.buf key).pend * 2 ^ 6 + (s.buf key).count * 2 ^ 8 +
      (s.buf key).owner * 2 ^ 16) := State.rd_wr_self _ _ _

/-! ### A buffer shared, released and freed (R398) -/

theorem bufShare_shares (ht : Taken s r R.BPM_BUF_CMD) (hl : s.stale s.bufHdl = false)
    (hc : (s.buf (s.bufHdl / 128)).count + getField v 8 8 ≤ 255) :
    exec (.bufShare r v) s = .next ((shared (s.reply .done) (s.bufHdl / 128) (getField v 8 8)).showBuf (s.bufHdl / 128) 0) :=
  congrArg Host.Outcome.next ((Taken_access ht).trans (opBufCmd_shares (s := s.reply .done) hl hc))

theorem bufRelease_releases (ht : Taken s r R.BPM_BUF_CMD) (hl : s.stale s.bufHdl = false)
    (ho : (s.buf (s.bufHdl / 128)).owner ≠ swHolder) (hc : 2 < (s.buf (s.bufHdl / 128)).count) :
    exec (.bufRelease r v) s = .next ((released (s.reply .done) (s.bufHdl / 128)).showBuf (s.bufHdl / 128) 0) :=
  congrArg Host.Outcome.next ((Taken_access ht).trans (opBufCmd_releases (s := s.reply .done) hl ho hc))

/-- The free of a buffer that has other holders is remembered. -/
def pended (s : State) (key : Nat) : State := s.setBuf key { s.buf key with pend := true }

theorem bufFree_waits (hdl : Nat) (hl : s.stale hdl = false) (ho : (s.buf (hdl / 128)).owner = swHolder)
    (hc : (s.buf (hdl / 128)).count ≠ 1) (hp : (s.buf (hdl / 128)).pend = false) : s.bufFree hdl swHolder 3 = (0, pended s (hdl / 128)) :=
  (if_neg (ne_true_of_eq_false hl)).trans ((if_neg (not_not_intro ho.symm)).trans ((if_neg hc).trans (if_neg (ne_true_of_eq_false hp))))

theorem opBufCmd_pends (hl : s.stale s.bufHdl = false) (ho : (s.buf (s.bufHdl / 128)).owner = swHolder)
    (hc : (s.buf (s.bufHdl / 128)).count ≠ 1) (hp : (s.buf (s.bufHdl / 128)).pend = false) :
    s.opBufCmd (setField v 0 3 3) = (pended s (s.bufHdl / 128)).showBuf (s.bufHdl / 128) 0 := by
  unfold State.opBufCmd
  dsimp only
  rw [bufOp_op v (by decide), bufFree_waits _ hl ho hc hp]
  rfl

theorem bufFree_pends (ht : Taken s r R.BPM_BUF_CMD) (hl : s.stale s.bufHdl = false) (ho : (s.buf (s.bufHdl / 128)).owner = swHolder)
    (hc : (s.buf (s.bufHdl / 128)).count ≠ 1) (hp : (s.buf (s.bufHdl / 128)).pend = false) :
    exec (.bufFree r v) s = .next ((pended (s.reply .done) (s.bufHdl / 128)).showBuf (s.bufHdl / 128) 0) :=
  congrArg Host.Outcome.next ((Taken_access ht).trans (opBufCmd_pends (s := s.reply .done) hl ho hc hp))

/-! ### A stale handle (R398, R399) -/

theorem stale_refused {hdl : Nat} (hl : s.stale hdl = true) (holder op : Nat) :
    (∀ add owner, s.bufShare hdl add owner holder op = (4, s.bufRefuse hdl 4 holder op)) ∧
    s.bufRelease hdl holder op = (4, s.bufRefuse hdl 4 holder op) ∧ s.bufFree hdl holder op = (4, s.bufRefuse hdl 4 holder op) :=
  ⟨fun _ _ => if_pos hl, if_pos hl, if_pos hl⟩

theorem opBufCmd_stale (hl : s.stale s.bufHdl = true) :
    s.opBufCmd (setField v 0 3 1) = (s.bufRefuse s.bufHdl 4 swHolder 1).showBuf (s.bufHdl / 128) 4 ∧
    s.opBufCmd (setField v 0 3 2) = (s.bufRefuse s.bufHdl 4 swHolder 2).showBuf (s.bufHdl / 128) 4 ∧
    s.opBufCmd (setField v 0 3 3) = (s.bufRefuse s.bufHdl 4 swHolder 3).showBuf (s.bufHdl / 128) 4 := by
  obtain ⟨hshare, -, -⟩ := stale_refused hl swHolder 1
  obtain ⟨-, hrelease, -⟩ := stale_refused hl swHolder 2
  obtain ⟨-, -, hfree⟩ := stale_refused hl swHolder 3
  unfold State.opBufCmd
  dsimp only
  rw [bufOp_op v (op := 1) (by decide), bufOp_op v (op := 2) (by decide), bufOp_op v (op := 3) (by decide), hshare,
    hrelease, hfree]
  exact ⟨rfl, rfl, rfl⟩

/-! ### BUF_QUERY and BUF_ALLOC (R408) -/

theorem bufQuery_shows (ht : Taken s r R.BPM_BUF_CMD) : exec (.bufQuery r v) s = .next ((s.reply .done).showBuf (s.bufHdl / 128) 0) :=
  congrArg Host.Outcome.next ((Taken_access ht).trans (opBufCmd_query (s := s.reply .done) (bufOp_op v (op := 4) (by decide))))

theorem opBufCmd_allocOff (hw : getField w 0 3 = 5) (hoff : s.bit F.BPM_BPM_CTL_EN = false) :
    s.opBufCmd w = s.showBuf (s.bufHdl / 128) 7 := by
  unfold State.opBufCmd
  dsimp only
  rw [hw, if_neg (ne_true_of_eq_false hoff)]
  rfl

theorem bufAlloc_off (ht : Taken s r R.BPM_BUF_CMD) (hoff : s.bit F.BPM_BPM_CTL_EN = false) :
    exec (.bufAlloc r v) s = .next ((s.reply .done).showBuf (s.bufHdl / 128) 7) :=
  congrArg Host.Outcome.next ((Taken_access ht).trans (opBufCmd_allocOff (s := s.reply .done) (bufOp_op v (op := 5) (by decide)) hoff))

/-! ### The pools and the queue map (R385, R386, R395) -/

theorem bpmEnable_refused (ht : Taken s r R.BPM_BPM_CTL) (h0 : v.getLsbD 0 = true)
    (h : 48 * 2 ^ 20 < s.onpBytes ∨ s.testing 0 none = true) :
    exec (.bpmEnable r v) s = .next ((s.reply .done).refuse r R.BPM_BPM_CTL) :=
  congrArg Host.Outcome.next ((Taken_access ht).trans (if_pos ⟨h0, h⟩))

theorem bpmEnable_stores (ht : Taken s r R.BPM_BPM_CTL)
    (h : v.getLsbD 0 = false ∨ (s.onpBytes ≤ 48 * 2 ^ 20 ∧ s.testing 0 none = false)) :
    exec (.bpmEnable r v) s = .next ((s.reply .done).store R.BPM_BPM_CTL v) := by
  have hallowed : ¬ (v.getLsbD 0 = true ∧ (48 * 2 ^ 20 < s.onpBytes ∨ s.testing 0 none = true)) := by
    rintro ⟨h0, hbad⟩
    obtain hoff | ⟨hfit, htest⟩ := h
    · exact ne_true_of_eq_false hoff h0
    · exact hbad.elim (Nat.not_lt.2 hfit) (ne_true_of_eq_false htest)
  exact congrArg Host.Outcome.next ((Taken_access ht).trans (if_neg hallowed))

theorem onpCntWrite_refused {k : Fin 8} (ht : Taken s r (R.BPM_ONP_CNT k.val)) (hon : s.bit F.BPM_BPM_CTL_EN = true) :
    exec (.onpCntWrite r k v) s = .next ((s.reply .done).refuse r (R.BPM_ONP_CNT k.val)) :=
  congrArg Host.Outcome.next ((Taken_access ht).trans (if_pos hon))

/-- What a write of `v` leaves in the register at `k`. -/
def merged (s : State) (k : Nat) (v : Word) : Word := mergeWrite (fieldsAt k) (s.rd k) v

theorem extRegWrite_stores {k : Fin 8} {m : Chan} (ht : Taken s r (R.BPM_EXT_REG (4 * k.val + m.val)))
    (h31 : (merged s (R.BPM_EXT_REG (4 * k.val + m.val)) v).getLsbD 31 = false) (hoff : s.regionOn true k.val m.val = false)
    (hheld : s.heldKeys true k.val m.val = []) :
    exec (.extRegWrite r k m v) s = .next ((s.reply .done).store (R.BPM_EXT_REG (4 * k.val + m.val)) v) :=
  congrArg Host.Outcome.next ((Taken_access ht).trans ((if_neg (fun h => ne_true_of_eq_false h31 h.1)).trans
    (if_neg (fun h => h.2.elim (ne_true_of_eq_false hoff) (fun hne => hne hheld)))))

/-- The entry of the shadow queue map that QMAP_ADDR names is written, and QMAP_ADDR moves on where it does so by itself. -/
def qmapStored (s : State) (v : Word) : State :=
  let s1 := { s with qmap := mapPut 0 s.qmap ((1 - s.fld F.BPM_QMAP_CTL_ACTIVE) * 2 ^ 14 + s.fld F.BPM_QMAP_ADDR_QUEUE) (getField v 0 5) }
  if s.bit F.BPM_QMAP_ADDR_AUTO_INC then s1.setFld F.BPM_QMAP_ADDR_QUEUE (s.fld F.BPM_QMAP_ADDR_QUEUE + 1) else s1

theorem qmapStored_parts (s : State) (v : Word) : Frame [.qmap] [R.BPM_QMAP_ADDR] s (qmapStored s v) ∧ (qmapStored s v).resp = s.resp ∧
    (qmapStored s v).qmap = mapPut 0 s.qmap ((1 - s.fld F.BPM_QMAP_CTL_ACTIVE) * 2 ^ 14 + s.fld F.BPM_QMAP_ADDR_QUEUE) (getField v 0 5) := by
  have hput (m : SMap Nat) : Frame [.qmap] [R.BPM_QMAP_ADDR] s { s with qmap := m } :=
    (Frame.refl _ _ s).upd (SameBut.upd_qmap (List.Subset.refl _) (SameBut.refl _ s)) (List.Subset.refl _) rfl
  unfold qmapStored
  dsimp only
  split
  · exact ⟨(hput _).setFld _ _ (by decide), rfl, rfl⟩
  · exact ⟨hput _, rfl, rfl⟩

theorem qmapDataWrite_stores (ht : Taken s r R.BPM_QMAP_DATA) (hview : s.bit F.BPM_QMAP_ADDR_VIEW = false)
    (hbusy : s.bit F.BPM_QMAP_STAT_BUSY = false) (happ : s.applying P.BPM = false) :
    exec (.qmapDataWrite r v) s = .next (qmapStored (s.reply .done) v).viewQmap :=
  congrArg Host.Outcome.next ((Taken_access ht).trans (if_neg (not_or.mpr ⟨ne_true_of_eq_false hview,
    not_or.mpr ⟨ne_true_of_eq_false hbusy, ne_true_of_eq_false happ⟩⟩)))

theorem qmapDataWrite_refused (ht : Taken s r R.BPM_QMAP_DATA)
    (h : s.bit F.BPM_QMAP_ADDR_VIEW = true ∨ s.bit F.BPM_QMAP_STAT_BUSY = true ∨ s.applying P.BPM = true) :
    exec (.qmapDataWrite r v) s = .next ((s.reply .done).refuse r R.BPM_QMAP_DATA) :=
  congrArg Host.Outcome.next ((Taken_access ht).trans (if_pos h))

theorem qmapCopy_starts (ht : Taken s r R.BPM_QMAP_CMD) :
    exec (.qmapCopy r v) s = .next ((s.reply .done).setFld F.BPM_QMAP_STAT_BUSY 1) :=
  congrArg Host.Outcome.next ((Taken_access ht).trans (if_pos (PageControl.getLsbD_or_true v (by decide))))

/-- Settles O34: each command by its equation, and the frame of the state that it leaves. -/
theorem bufferCommands : Obligations.BufferCommands := by
  unfold Obligations.BufferCommands
  have hreply (ks : List Nat) (s : State) : Frame [.resp] ks s (s.reply .done) := (Frame.refl _ _ s).reply _ (by decide)
  have hbufs (ks : List Nat) (s : State) (key : Nat) (b : Buf) : Frame [.bufs, .resp] ks s ((s.reply .done).setBuf key b) :=
    ((Frame.refl _ _ s).reply _ (by decide)).setBuf _ _ (by decide)
  refine ⟨fun r v s ht hl hc => ?shares, fun r v s ht hl => ?stale, fun r v s ht hl ho hc => ?releases,
    fun r v s ht hl ho => ⟨bufFree_frees ht hl ho, fun hc hp => ?pends⟩, fun key s => ⟨doFree_frame s key, doFree_bufs s key⟩,
    fun r v s ht => ⟨?queries, fun hoff => ?allocOff, fun key u => bufAlloc_allocates ht⟩,
    fun r v s ht => ⟨bpmEnable_refused ht, fun h => ?enables⟩, fun r k v s ht => ⟨onpCntWrite_refused ht, fun hoff => ?counts⟩,
    fun r k m v s ht h31 hoff hheld => ?regions, fun r v s ht => ⟨fun hview hbusy happ => ?maps, qmapDataWrite_refused ht⟩,
    fun r v s ht => ?copies⟩
  case shares =>
    exact ⟨_, bufShare_shares ht hl hc, ((hbufs _ s _ _).bump _ (by decide)).wr _ _ (by decide), rfl, rfl,
      (State.rd_wr_ne _ _ (by decide)).trans (State.rd_bump_self _ _)⟩
  case stale =>
    obtain ⟨hshare, hrelease, hfree⟩ := opBufCmd_stale (s := s.reply .done) (v := v) hl
    exact ⟨congrArg Host.Outcome.next ((Taken_access ht).trans hshare), congrArg Host.Outcome.next ((Taken_access ht).trans hrelease),
      congrArg Host.Outcome.next ((Taken_access ht).trans hfree), bufRefuse_frame⟩
  case releases => exact ⟨_, bufRelease_releases ht hl ho hc, (hbufs _ s _ _).wr _ _ (by decide), rfl, rfl⟩
  case pends => exact ⟨_, bufFree_pends ht hl ho hc hp, (hbufs _ s _ _).wr _ _ (by decide), rfl, rfl⟩
  case queries =>
    refine ⟨_, bufQuery_shows ht, (hreply _ s).wr _ _ (by decide), rfl, (showBuf_rd _ _ _).trans ?_⟩
    rw [Nat.zero_add]
    rfl
  case allocOff => exact ⟨_, bufAlloc_off ht hoff, (hreply _ s).wr _ _ (by decide), rfl, showBuf_rd _ _ _⟩
  case enables =>
    exact ⟨_, bpmEnable_stores ht h, (hreply _ s).store _ _ (by decide), State.store_resp _ _ _,
      State.bit_store_plain _ F.BPM_BPM_CTL_EN v (by decide) rfl⟩
  case counts => exact ⟨_, onpCntWrite_stores ht hoff, (hreply _ s).store _ _ (List.mem_singleton_self _), State.store_resp _ _ _⟩
  case regions =>
    exact ⟨_, extRegWrite_stores ht h31 hoff hheld, (hreply _ s).store _ _ (List.mem_singleton_self _), State.store_resp _ _ _,
      State.rd_store_self _ _ _⟩
  case maps =>
    obtain ⟨hframe, hresp, hqmap⟩ := qmapStored_parts (s.reply .done) v
    exact ⟨_, qmapDataWrite_stores ht hview hbusy happ,
      ((((Frame.refl _ _ s).reply .done (by decide)).trans (hframe.mono (by decide) (by decide))).wr _ _ (by decide)),
      ((viewQmap_keeps_all _) .resp (by decide)).trans hresp, ((viewQmap_keeps_all _) .qmap (by decide)).trans hqmap⟩
  case copies =>
    exact ⟨_, qmapCopy_starts ht, (hreply _ s).setFld _ _ (by decide), State.setFld_resp _ _ _,
      decide_eq_true (State.fld_setFld_self _ F.BPM_QMAP_STAT_BUSY 1 (by decide))⟩

end Sys2Proof.Proofs.BufferPools
end

section
/-! PROOF. The exception queue, injection and the windows (O54): one equation for each outcome of a descriptor, of a move of the ring's tail
and of an injection, and what the state that each leaves keeps. -/

namespace Sys2Proof.Proofs.ExceptionQueue

open Sys2Proof Sys2Proof.Machine

variable {s t : State} {r : Req} {v w : Word} {p : Pkt} {ps : List Pkt}

theorem fireCpu_raised {b : Nat} (h : s.domOn 28 = true) (hb : b < 32) : Raised (s.fire P.CPU b) P.CPU b := State.fire_raised h hb

/-! ### A descriptor is written (R561, R562) -/

/-- The address of the position that EXC_HEAD names. -/
def headAddr (s : State) : Nat := s.fld F.CPU_EXC_BASE_ADDR * 64 + 64 * s.fld F.CPU_EXC_HEAD_HEAD

/-- The post that a descriptor makes. -/
def excPost (s : State) : Post :=
  ⟨BitVec.ofNat 12 (s.fld F.CPU_EXC_CFG_EXC_ITEM), BitVec.ofNat 5 (s.fld F.CPU_EXC_CFG_EXC_FLAG), none, none, false⟩

/-- The descriptor of `p` stands in memory, and no other packet than `ps` waits. -/
def described (s : State) (p : Pkt) (ps : List Pkt) : State :=
  State.storeBytes { s with excWait := ps } (headAddr s) (descriptor p (p.hdl.getD 0))

/-- The position holds the handle of `p`. -/
def ringed (s : State) (p : Pkt) (ps : List Pkt) : State :=
  { described s p ps with cpu := { (described s p ps).cpu with
      ring := mapIns (described s p ps).cpu.ring (s.fld F.CPU_EXC_HEAD_HEAD) (p.hdl.getD 0) } }

/-- EXC_HEAD has advanced and the descriptor is counted. -/
def advancedHead (s : State) (p : Pkt) (ps : List Pkt) : State :=
  ((ringed s p ps).setFld F.CPU_EXC_HEAD_HEAD ((s.fld F.CPU_EXC_HEAD_HEAD + 1) % s.excSize)).bump R.CPU_CNT_EXC_DESC

theorem excDescriptorWrite_idle (h : s.excWait = []) : exec .excDescriptorWrite s = .next s := by
  refine congrArg Host.Outcome.next ?_
  unfold State.writeDescriptor
  rw [h]

theorem excDescriptorWrite_writes (h : s.excWait = p :: ps)
    (hroom : (s.fld F.CPU_EXC_HEAD_HEAD + 1) % s.excSize ≠ s.fld F.CPU_EXC_TAIL_TAIL) :
    exec .excDescriptorWrite s = .next ((advancedHead s p ps).enqueuePost (excPost s)) := by
  refine congrArg Host.Outcome.next ?_
  unfold State.writeDescriptor
  rw [h]
  exact if_neg hroom

theorem advancedHead_frame (s : State) (p : Pkt) (ps : List Pkt) :
    Frame [.mem, .ecc, .out, .excWait, .cpu] [R.CPU_EXC_HEAD, R.CPU_CNT_EXC_DESC] s (advancedHead s p ps) := by
  have hwait : Frame [.mem, .ecc, .out, .excWait, .cpu] [R.CPU_EXC_HEAD, R.CPU_CNT_EXC_DESC] s { s with excWait := ps } :=
    (Frame.refl _ _ s).upd (SameBut.upd_excWait (List.Subset.refl _) (SameBut.refl _ s)) (by decide) rfl
  have hring : Frame [.mem, .ecc, .out, .excWait, .cpu] [R.CPU_EXC_HEAD, R.CPU_CNT_EXC_DESC] s (ringed s p ps) :=
    (hwait.storeBytes _ _ (by decide) (by decide) (by decide)).upd (SameBut.upd_cpu (List.Subset.refl _) (SameBut.refl _ _)) (by decide) rfl
  exact (hring.setFld _ _ (by decide)).bump _ (by decide)

theorem advancedHead_stores (s : State) (p : Pkt) (ps : List Pkt) :
    Stores s (advancedHead s p ps) (headAddr s) (descriptor p (p.hdl.getD 0)) :=
  (State.storeBytes_stores { s with excWait := ps } _ _).of_mem (u := s) rfl rfl

theorem advancedHead_excWait (s : State) (p : Pkt) (ps : List Pkt) : (advancedHead s p ps).excWait = ps := State.storeBytes_excWait _ _ _

theorem advancedHead_cpu (s : State) (p : Pkt) (ps : List Pkt) :
    (advancedHead s p ps).cpu = { s.cpu with ring := mapIns s.cpu.ring (s.fld F.CPU_EXC_HEAD_HEAD) (p.hdl.getD 0) } :=
  congrArg (fun c : Cpu => { c with ring := mapIns c.ring (s.fld F.CPU_EXC_HEAD_HEAD) (p.hdl.getD 0) }) (State.storeBytes_cpu _ _ _)

theorem advancedHead_head (s : State) (p : Pkt) (ps : List Pkt) :
    (advancedHead s p ps).fld F.CPU_EXC_HEAD_HEAD = (s.fld F.CPU_EXC_HEAD_HEAD + 1) % s.excSize % 2 ^ 12 := by
  unfold State.fld advancedHead
  rw [State.rd_bump_ne _ (by decide)]
  exact State.fld_setFld_self _ F.CPU_EXC_HEAD_HEAD _ (by decide)

theorem advancedHead_counts (s : State) (p : Pkt) (ps : List Pkt) :
    (advancedHead s p ps).rd R.CPU_CNT_EXC_DESC = s.rd R.CPU_CNT_EXC_DESC + 1 := by
  have hbefore : (ringed s p ps).rd R.CPU_CNT_EXC_DESC = s.rd R.CPU_CNT_EXC_DESC := State.storeBytes_rd _ _ _ _
  rw [← hbefore, ← State.rd_setFld_ne (ringed s p ps) F.CPU_EXC_HEAD_HEAD _ (by decide)]
  exact State.rd_bump_self _ _

/-! ### A full ring (R563) -/

/-- The packet is dropped: counted and raised. -/
def excDropped (s : State) (ps : List Pkt) : State :=
  (State.bump { s with excWait := ps } R.CPU_CNT_EXC_DROP).fire P.CPU E.CPU_EXC_DROP

theorem excDescriptorWrite_drops (h : s.excWait = p :: ps)
    (hfull : (s.fld F.CPU_EXC_HEAD_HEAD + 1) % s.excSize = s.fld F.CPU_EXC_TAIL_TAIL) :
    exec .excDescriptorWrite s = .next ((excDropped s ps).dropHeld p) := by
  refine congrArg Host.Outcome.next ?_
  unfold State.writeDescriptor
  rw [h]
  exact if_pos hfull

theorem excDropped_drops (s : State) (ps : List Pkt) : FrameEv [.excWait] [R.CPU_CNT_EXC_DROP] s (excDropped s ps) ∧
    (excDropped s ps).rd R.CPU_CNT_EXC_DROP = s.rd R.CPU_CNT_EXC_DROP + 1 ∧
    (s.domOn 28 = true → Raised (excDropped s ps) P.CPU E.CPU_EXC_DROP) := by
  have hwait : FrameEv [.excWait] [R.CPU_CNT_EXC_DROP] s { s with excWait := ps } := (FrameEv.refl _ _ s).with_excWait (by decide)
  exact ⟨(hwait.bump _ (by decide)).andFire _ _, (State.fire_rd _ _ _ (by decide)).trans (State.rd_bump_self _ _),
    fun hd => fireCpu_raised hd (by decide)⟩

theorem dropHeld_keeps_all (s : State) (p : Pkt) : SameBut (evParts ++ [.excWait, .bufs, .lports, .log]) s (s.dropHeld p) :=
  State.dropHeld_keeps p (by decide) (SameBut.refl _ s)

theorem excDropped_excWait (s : State) (ps : List Pkt) (p : Pkt) : ((excDropped s ps).dropHeld p).excWait = ps :=
  (State.dropHeld_keeps p (List.Subset.refl _) (SameBut.refl _ _) .excWait (by decide)).trans (State.fire_excWait _ _ _)

theorem dropHeld_none (s : State) (h : p.hdl = none) : s.dropHeld p = s := by
  unfold State.dropHeld
  rw [h]

theorem dropHeld_some (s : State) {hdl : Nat} (h : p.hdl = some hdl) : s.dropHeld p = s.letGo hdl p.queue := by
  unfold State.dropHeld
  rw [h]

/-! ### The tail of the ring (R397, R563) -/

/-- The positions that a tail passes on its way from `old`. -/
def passed (old d n : Nat) : List Nat := (List.range d).map (fun i => (old + i) % n)

theorem not_mem_passed {old d n x : Nat} : x ∉ passed old d n ↔ ∀ i : Nat, i < d → x ≠ (old + i) % n := by
  simp only [passed, List.mem_map, List.mem_range, not_exists, not_and]
  exact forall₂_congr (fun _ _ => ne_comm)

theorem mem_passed {old d n i : Nat} (h : i < d) : (old + i) % n ∈ passed old d n := List.mem_map.2 ⟨i, List.mem_range.2 h, rfl⟩

/-- The tail that a write of `v` names. -/
def newTail (s : State) (v : Word) : Nat := getField v 0 12 % s.excSize

/-- How many positions a tail passes that moves there. -/
def tailSpan (s : State) (v : Word) : Nat := (newTail s v + s.excSize - s.fld F.CPU_EXC_TAIL_TAIL % s.excSize) % s.excSize

/-- The holds of the positions passed are software's. -/
def tailTaken (s : State) (v : Word) : State :=
  Laws.Injection.takeHolds (passed (s.fld F.CPU_EXC_TAIL_TAIL) (tailSpan s v) s.excSize) s

theorem opExcTail_eq (s : State) (v : Word) : s.opExcTail v = (tailTaken s v).setFld F.CPU_EXC_TAIL_TAIL (newTail s v) :=
  congrArg (fun u : State => u.setFld F.CPU_EXC_TAIL_TAIL (newTail s v)) List.foldl_map.symm

theorem excTailWrite_moves (ht : Taken s r R.CPU_EXC_TAIL) :
    exec (.excTailWrite r v) s = .next ((tailTaken (s.reply .done) v).setFld F.CPU_EXC_TAIL_TAIL (newTail s v)) :=
  congrArg Host.Outcome.next ((Taken_access ht).trans (opExcTail_eq _ v))

theorem newTail_fits (s : State) (v : Word) : newTail s v % 2 ^ 12 = newTail s v :=
  Nat.mod_eq_of_lt (Nat.lt_of_le_of_lt (Nat.mod_le _ _) (Nat.mod_lt _ (by decide)))

/-! ### Injection (R564) -/

/-- What a command of an injection writes to INJ_CMD: GO, and PATH as the command says. -/
def injWord (direct : Bool) (v : Word) : Word := if direct then v ||| 3 else (v ||| 1) &&& ~~~2

theorem injWord_go (direct : Bool) (v : Word) : (injWord direct v).getLsbD 0 = true := by
  cases direct <;> simp [injWord]

theorem injWord_path (direct : Bool) (v : Word) : (injWord direct v).getLsbD 1 = direct := by
  cases direct <;> simp [injWord]

/-- The words of the two commands are those of the write above PATH. -/
theorem injWord_above (direct : Bool) (v : Word) {i : Nat} (h : 2 ≤ i) (h32 : i < 32) : (injWord direct v).getLsbD i = v.getLsbD i := by
  have hconst : ∀ i : Fin 32, 2 ≤ i.val →
      (3 : Word).getLsbD i.val = false ∧ (1 : Word).getLsbD i.val = false ∧ (~~~2 : Word).getLsbD i.val = true := by decide
  obtain ⟨h3, h1, h2⟩ := hconst ⟨i, h32⟩ h
  cases direct
  case false =>
    show ((v ||| 1) &&& ~~~2).getLsbD i = _
    rw [BitVec.getLsbD_and, BitVec.getLsbD_or, h1, h2, Bool.or_false, Bool.and_true]
  case true =>
    show (v ||| 3).getLsbD i = _
    rw [BitVec.getLsbD_or, h3, Bool.or_false]

theorem injWord_queue (direct : Bool) (v : Word) : getField (injWord direct v) 3 14 = getField v 3 14 :=
  getField_congr (fun i hi => injWord_above direct v (by omega) (by omega))

theorem exec_inject {direct : Bool} {i : Instr} (ht : Taken s r R.CPU_INJ_CMD)
    (hi : direct = false ∧ i = .injectPath r v ∨ direct = true ∧ i = .injectDirect r v) :
    exec i s = .next ((s.reply .done).opInject (injWord direct v)) := by
  obtain ⟨rfl, rfl⟩ | ⟨rfl, rfl⟩ := hi
  · exact congrArg Host.Outcome.next (Taken_access ht)
  · exact congrArg Host.Outcome.next (Taken_access ht)

/-- Why an injection of the buffer that INJ_HDL names is refused. -/
def NotInjectable (s : State) (direct : Bool) (q : Nat) : Prop :=
  s.stale s.injHdl = true ∨ (s.buf (s.injHdl / 128)).owner ≠ swHolder ∨ (s.buf (s.injHdl / 128)).count ≠ 1 ∨ direct = true ∧ 8991 < q

theorem injectable {direct : Bool} {q : Nat} (hl : s.stale s.injHdl = false) (ho : (s.buf (s.injHdl / 128)).owner = swHolder)
    (hc : (s.buf (s.injHdl / 128)).count = 1) (hq : direct = true → q ≤ 8991) : ¬ NotInjectable s direct q := by
  rintro (h | h | h | ⟨hd, h⟩)
  · exact ne_true_of_eq_false hl h
  · exact h ho
  · exact h hc
  · exact Nat.not_lt.2 (hq hd) h

/-- The packet that stands in the buffer that INJ_HDL names. -/
def injPkt (s : State) (ts : Bool) : Pkt :=
  { src := 60, len := s.fld F.CPU_INJ_LEN_S, data := s.readBytes (s.bufAddr (s.injHdl / 128)) (s.fld F.CPU_INJ_LEN_S), hdl := some s.injHdl,
    tsTag := if ts then some (s.fld F.CPU_INJ_TAG_TAG) else none, steps := s.tim.steps }

/-- The injection ends with result 0 and is counted. -/
def injected (s : State) : State := (s.setFld F.CPU_INJ_STAT_RESULT 0).bump R.CPU_CNT_INJ

/-- The queue `q` holds the buffer that INJ_HDL names. -/
def queueHeld (s : State) (q : Nat) : State := (injected s).setBuf (s.injHdl / 128) { s.buf (s.injHdl / 128) with owner := q }

/-- The packet has its number. -/
def numbered (s : State) (q : Nat) : State := { queueHeld s q with nextPkt := s.nextPkt + 1 }

theorem opInject_refused (hw : w.getLsbD 0 = true) (h : NotInjectable s (w.getLsbD 1) (getField w 3 14)) :
    s.opInject w = (s.setFld F.CPU_INJ_STAT_RESULT 1).fire P.CPU E.CPU_INJ_ERR :=
  (if_neg (not_not_intro hw)).trans (if_pos h)

theorem opInject_path (hw : w.getLsbD 0 = true) (hpath : w.getLsbD 1 = false) (h : ¬ NotInjectable s (w.getLsbD 1) (getField w 3 14)) :
    s.opInject w = (injected s).enterPath (injPkt s (w.getLsbD 2)) :=
  (if_neg (not_not_intro hw)).trans ((if_neg h).trans (if_neg (ne_true_of_eq_false hpath)))

theorem injected_frame (s : State) {ps : List Part} {ks : List Nat} (h1 : R.CPU_INJ_STAT ∈ ks) (h2 : R.CPU_CNT_INJ ∈ ks) :
    Frame ps ks s (injected s) := ((Frame.refl _ _ s).setFld _ _ h1).bump _ h2

theorem injected_counts (s : State) : (injected s).rd R.CPU_CNT_INJ = s.rd R.CPU_CNT_INJ + 1 :=
  (State.rd_bump_self _ _).trans (congrArg (· + 1) (State.rd_setFld_ne _ _ _ (by decide)))

theorem injected_result (s : State) : (injected s).fld F.CPU_INJ_STAT_RESULT = 0 := by
  unfold State.fld injected
  rw [State.rd_bump_ne _ (by decide)]
  exact State.fld_setFld_self s F.CPU_INJ_STAT_RESULT 0 (by decide)

theorem numbered_frame (s : State) (q : Nat) : Frame [.nextPkt, .bufs] [R.CPU_INJ_STAT, R.CPU_CNT_INJ] s (numbered s q) :=
  ((injected_frame s (by decide) (by decide)).setBuf _ _ (by decide)).upd (SameBut.upd_nextPkt (List.Subset.refl _) (SameBut.refl _ _))
    (by decide) rfl

theorem numbered_buf (s : State) (q key : Nat) :
    (numbered s q).buf key = if key = s.injHdl / 128 then { s.buf (s.injHdl / 128) with owner := q } else s.buf key :=
  Laws.Injection.setBuf_buf (injected s) _ _ key

theorem buf_congr (h : t.bufs = s.bufs) (key : Nat) : t.buf key = s.buf key := by
  unfold State.buf
  rw [h]

/-- An entry's configuration is read from its register and from the commit slots. -/
theorem ent_congr {f : Fld} (hcmt : t.cmt = s.cmt) (hrd : t.rd f.key = s.rd f.key) : t.ent f = s.ent f := by
  unfold State.ent State.cfgFld State.cfgAt
  rw [hcmt, hrd]

/-- The registers of an index stand above those without one. -/
theorem ne_idxKey {k : Nat} (h : k < 0x100000) (a i : Nat) : k ≠ idxKey a i := by
  unfold idxKey
  omega

/-- Nothing that an injection writes configures a queue. -/
theorem numbered_ent (s : State) (q a i lo n : Nat) : (numbered s q).ent ⟨idxKey a i, lo, n⟩ = s.ent ⟨idxKey a i, lo, n⟩ := by
  refine ent_congr rfl ((numbered_frame s q).2 _ ?_)
  simp only [List.mem_cons, List.not_mem_nil, or_false, not_or]
  exact ⟨(ne_idxKey (by decide) a i).symm, (ne_idxKey (by decide) a i).symm⟩

/-- The injected packet is at the tail of the queue `q`. -/
def joined (s : State) (q : Nat) (ts : Bool) : State := (numbered s q).enqueue { injPkt s ts with id := s.nextPkt, queue := q }

theorem opInject_direct (hw : w.getLsbD 0 = true) (hpath : w.getLsbD 1 = true) (h : ¬ NotInjectable s (w.getLsbD 1) (getField w 3 14)) :
    s.opInject w = joined s (getField w 3 14) (w.getLsbD 2) :=
  (if_neg (not_not_intro hw)).trans ((if_neg h).trans (if_pos hpath))

section Joined

variable {q : Nat} {ts : Bool} (hlen : s.fld F.CPU_INJ_LEN_S ≤ s.ent (F.SCH_Q_LEN_MAX_LEN q))
  (hlim : s.ent (F.SCH_Q_LIM_LIM_KIB q) = 0 ∨ s.depth q + s.fld F.CPU_INJ_LEN_S ≤ s.ent (F.SCH_Q_LIM_LIM_KIB q) * 1024)

include hlen hlim

/-- A packet within the limits of its queue joins it (R447, R564). -/
theorem joined_queues : Frame [.queues] [R.SCH_CNT_ENQ_LO, R.SCH_CNT_ENQ_HI, R.SCH_Q_HWM q] (numbered s q) (joined s q ts) ∧
    (joined s q ts).queue q = s.queue q ++ [{ injPkt s ts with id := s.nextPkt, queue := q }] ∧
    ∀ q' : Nat, q' ≠ q → (joined s q ts).queue q' = s.queue q' := by
  rw [← numbered_ent s q] at hlen hlim
  exact Laws.Injection.enqueue_ok (numbered s q) { injPkt s ts with id := s.nextPkt, queue := q } hlen hlim

theorem joined_frame : Frame [.nextPkt, .bufs, .queues]
    [R.CPU_INJ_STAT, R.CPU_CNT_INJ, R.SCH_CNT_ENQ_LO, R.SCH_CNT_ENQ_HI, R.SCH_Q_HWM q] s (joined s q ts) :=
  ((numbered_frame s q).mono (by decide) (by simp)).trans ((joined_queues hlen hlim).1.mono (by decide) (by simp))

theorem joined_rd {k : Nat} (hk : k < 0x100000) (hlo : k ≠ R.SCH_CNT_ENQ_LO) (hhi : k ≠ R.SCH_CNT_ENQ_HI) :
    (joined s q ts).rd k = (injected s).rd k :=
  (joined_queues hlen hlim).1.2 k (by simp [hlo, hhi, ne_idxKey hk])

theorem joined_result : (joined s q ts).fld F.CPU_INJ_STAT_RESULT = 0 := by
  rw [← injected_result s]
  unfold State.fld
  rw [joined_rd hlen hlim (by decide) (by decide) (by decide)]

theorem joined_counts : (joined s q ts).rd R.CPU_CNT_INJ = s.rd R.CPU_CNT_INJ + 1 :=
  (joined_rd hlen hlim (by decide) (by decide) (by decide)).trans (injected_counts s)

theorem joined_buf (key : Nat) :
    (joined s q ts).buf key = if key = s.injHdl / 128 then { s.buf (s.injHdl / 128) with owner := q } else s.buf key :=
  (buf_congr ((joined_queues hlen hlim).1.1 .bufs (by decide)) key).trans (numbered_buf s q key)

end Joined

/-! ### The windows (R545) -/

/-- The row of XWIN in the table of page CPU. -/
def windowRow : FieldRow := ⟨0x040, 8, 0x4, 0, 10, .rw, 0, 0, 511⟩

theorem xwin_fields : ∀ n : Fin 8, fieldsAt (R.CPU_XWIN n.val) = [windowRow] := by decide +kernel

/-- A field without a least value takes what is written up to its greatest. -/
theorem clamp_eq_min {row : FieldRow} (hmn : row.mn = 0) (hmx : row.mx ≠ 0) (x : Nat) : row.clamp x = min row.mx x := by
  unfold FieldRow.clamp
  dsimp only
  rw [hmn, Nat.zero_max, if_neg hmx]

theorem xwin_stored (s : State) (n : Fin 8) (v : Word) :
    (s.store (R.CPU_XWIN n.val) v).fld (F.CPU_XWIN_BASE n.val) = min 511 (getField v 0 10) := by
  have hstored := State.fld_store s (F.CPU_XWIN_BASE n.val) v (r := windowRow) (by rw [xwin_fields]; decide)
    (by rw [xwin_fields]; exact List.mem_singleton_self _) ⟨rfl, rfl⟩ (.inl rfl)
  rw [clamp_eq_min rfl (by decide)] at hstored
  exact hstored.trans (Nat.mod_eq_of_lt (Nat.lt_of_le_of_lt (Nat.min_le_left _ _) (by decide : 511 < 2 ^ 10)))

theorem xwinWrite_stores {n : Fin 8} (ht : Taken s r (R.CPU_XWIN n.val)) :
    exec (.xwinWrite r n v) s = .next ((s.reply .done).store (R.CPU_XWIN n.val) v) := congrArg Host.Outcome.next (Taken_access ht)

/-- Settles O54: a descriptor, a move of the tail and an injection by the equations of their outcomes. -/
theorem exceptionsAndInjection : Obligations.ExceptionsAndInjection := by
  unfold Obligations.ExceptionsAndInjection
  refine ⟨fun s => excDescriptorWrite_idle, fun p ps h a hdl s hwait hh ha hhdl hkey hroom => ?writes, fun p ps s hwait hfull => ?drops,
    fun r v n old new s ht hn hold hnew => ?tail, fun r v direct q hdl n b p i s ht hi hq hhdl hb hn hp => ?injects,
    fun r n v s ht => ⟨_, xwinWrite_stores ht, ((Frame.refl _ _ s).reply _ (by decide)).store _ _ (List.mem_singleton_self _),
      State.store_resp _ _ _, xwin_stored _ n v⟩⟩
  case writes =>
    subst hh ha hhdl
    have hlen := Laws.Injection.descriptor_length p (p.hdl.getD 0) hkey
    have hstores : Stores s ((advancedHead s p ps).enqueuePost (excPost s)) (headAddr s) (descriptor p (p.hdl.getD 0)) :=
      (advancedHead_stores s p ps).of_mem rfl (State.enqueuePost_mem _ _)
    obtain ⟨hkeeps, hregs, hposts⟩ := Laws.Delivery.enqueuePost_spec (advancedHead s p ps) (excPost s)
    have htsk : (advancedHead s p ps).tsk = s.tsk := (advancedHead_frame s p ps).1 .tsk (by decide)
    refine ⟨_, excDescriptorWrite_writes hwait hroom, ?_, (State.enqueuePost_excWait _ _).trans (advancedHead_excWait s p ps),
      hstores.readBytes hlen, hstores.out hlen, (State.enqueuePost_fld _ _ _).trans (advancedHead_head s p ps),
      (State.enqueuePost_rd _ _ _).trans (advancedHead_counts s p ps), (State.enqueuePost_cpu _ _).trans (advancedHead_cpu s p ps), ?_⟩
    · exact ((advancedHead_frame s p ps).mono (by decide) (List.Subset.refl _)).upd hkeeps (by decide) hregs
    · rw [hposts, htsk]
      rfl
  case drops =>
    obtain ⟨hframe, hcounts, hraises⟩ := excDropped_drops s ps
    refine ⟨_, excDescriptorWrite_drops hwait hfull, (SameBut.mono (by decide) hframe.1).trans (dropHeld_keeps_all _ p),
      excDropped_excWait s ps p, fun hnone => ?_, fun hdl hsome => ⟨excDropped s ps, hframe, hcounts, hraises, dropHeld_some _ hsome⟩⟩
    rw [dropHeld_none _ hnone]
    exact ⟨hframe, hcounts, hraises⟩
  case tail =>
    subst hn hold hnew
    obtain ⟨hkeeps, hregs, hring, hfree, -, hheld⟩ := Laws.Injection.takeHolds_spec
      (passed (s.fld F.CPU_EXC_TAIL_TAIL) (tailSpan s v) s.excSize) (s.reply .done)
    have htaken : Frame [.bufs, .cpu, .resp] [R.CPU_EXC_TAIL] s (tailTaken (s.reply .done) v) :=
      ((Frame.refl _ _ s).reply _ (by decide)).upd hkeeps (by decide) hregs
    refine ⟨_, excTailWrite_moves ht, htaken.setFld _ _ (by decide), hkeeps .resp (by decide),
      (State.fld_setFld_self _ F.CPU_EXC_TAIL_TAIL _ (by decide)).trans (newTail_fits s v),
      fun e => (hring e).trans (and_congr_right' not_mem_passed), ?_, hfree⟩
    rintro i hdl b hi hfind rfl hcount howner
    exact hheld _ hdl (mem_passed hi) hfind hcount howner
  case injects =>
    subst hq hhdl hb hn hp
    have hgo := injWord_go direct v
    have hpath := injWord_path direct v
    have hqueue := injWord_queue direct v
    have hts := injWord_above direct v (i := 2) (by decide) (by decide)
    refine ⟨fun h => ?refused, fun hl ho hc hd => ?path, fun hl ho hc hd hq hlen hlim => ?direct⟩
    case refused =>
      refine ⟨_, (exec_inject ht hi).trans (congrArg Host.Outcome.next (opInject_refused (s := s.reply .done) hgo ?_)),
        (((FrameEv.refl _ _ s).reply _ (by decide)).setFld _ _ (by decide)).andFire _ _, State.fire_resp _ _ _, ?_,
        fun hd => fireCpu_raised hd (by decide)⟩
      · rw [hpath, hqueue]
        exact h
      · unfold State.fld
        rw [State.fire_rd _ _ _ (by decide)]
        exact State.fld_setFld_self _ F.CPU_INJ_STAT_RESULT 1 (by decide)
    case path =>
      subst hd
      have hok : ¬ NotInjectable (s.reply .done) ((injWord false v).getLsbD 1) (getField (injWord false v) 3 14) := by
        rw [hpath]
        exact injectable hl ho hc nofun
      have hop := opInject_path hgo hpath hok
      rw [hts] at hop
      exact ⟨_, (exec_inject ht hi).trans (congrArg Host.Outcome.next hop),
        ((Frame.refl _ _ s).reply _ (by decide)).trans (injected_frame _ (by decide) (by decide)), rfl, injected_result _, injected_counts _⟩
    case direct =>
      subst hd
      have hok : ¬ NotInjectable (s.reply .done) ((injWord true v).getLsbD 1) (getField (injWord true v) 3 14) := by
        rw [hpath, hqueue]
        exact injectable hl ho hc (fun _ => hq)
      have hop := opInject_direct hgo hpath hok
      rw [hts, hqueue] at hop
      obtain ⟨-, hjoins, hothers⟩ := joined_queues (s := s.reply .done) (ts := v.getLsbD 2) hlen hlim
      have hframe := joined_frame (s := s.reply .done) (ts := v.getLsbD 2) hlen hlim
      have hbuf := joined_buf (s := s.reply .done) (ts := v.getLsbD 2) hlen hlim
      exact ⟨_, (exec_inject ht hi).trans (congrArg Host.Outcome.next hop),
        ((Frame.refl _ _ s).reply _ (by decide)).trans (hframe.mono (by decide) (List.Subset.refl _)), hframe.1 .resp (by decide),
        joined_result hlen hlim, joined_counts hlen hlim, hjoins, hothers, (hbuf _).trans (if_pos rfl),
        fun key hne => (hbuf key).trans (if_neg hne)⟩

end Sys2Proof.Proofs.ExceptionQueue
end

section
/-! PROOF. Which parts of the state each command may change (O41 to O44), as one function of the command; from it the queue's order (O6),
the canonical form of memory (O4, O5), and which commands take a next state (O1, O7). -/

namespace Sys2Proof.Proofs.Parts

open Sys2Proof Sys2Proof.Machine
set_option Elab.async false

/-- The parts of the state that a command may change, whatever its operands and the state. -/
def partsOf : Instr → List Part
  | .seamFlitReceive .. | .seamLaneLockLoss .. | .prepTimeout .. =>
      [.regs, .seam, .cmt, .evt, .tsk, .hif, .timers, .out]
  | .seamLost =>
      [.regs, .seam, .evt, .tsk, .hif, .timers, .out]
  | .seamRetrainAttempt =>
      [.seam, .timers]
  | .seamUp =>
      [.regs, .seam, .cmt, .tribs, .pairs, .pipes, .epochs, .shapers, .policers, .tim, .evt, .tsk, .hif, .clock, .timers, .out]
  | .retrainEnWrite .. | .ownHeartbeat .. | .wdtKick .. =>
      [.regs, .seam, .evt, .tsk, .hif, .timers, .resp, .out]
  | .prepare .. | .abort .. =>
      [.seam]
  | .prepared .. | .abortDomainOff .. | .markerPass .. | .boundaryApply .. | .gateSwitch .. =>
      [.regs, .seam, .cmt, .tribs, .pipes, .epochs, .shapers, .policers, .evt, .tsk, .hif, .timers, .out]
  | .apply .. =>
      [.regs, .seam, .cmt, .tribs, .pairs, .pipes, .epochs, .shapers, .policers, .evt, .tsk, .hif, .timers, .out]
  | .registerWrite .. | .shelfWriteEffect | .tableSelect .. =>
      [.regs, .shown, .mirror, .mem, .seam, .cmt, .own, .nextPkt, .rx, .dsf, .tmap, .tribs, .tfrags, .rows, .ttest, .act, .upb,
      .restarts, .gsm, .txEff, .pairs, .key, .dark, .pipes, .epochs, .prog, .rcnt, .rcntHeld, .excWait, .bufs, .bufRot, .qmap,
      .memch, .ecc, .mxe, .queues, .turns, .elig, .shapers, .policers, .gates, .gateBusy, .lanes, .lports, .mdio, .tim, .evt,
      .log, .tsk, .cpu, .pwr, .rst, .sys, .hif, .clock, .timers, .resp, .out, .fresh]
  | .stagedWrite .. | .cmtOpen .. | .cmtDiscard .. | .cmtAck .. =>
      [.regs, .seam, .cmt, .evt, .tsk, .hif, .resp, .out]
  | .shelfReadLow .. =>
      [.regs, .tim, .evt, .hif, .resp]
  | .shelfReadHigh .. | .bankSlotRead .. =>
      [.hif, .resp]
  | .shelfWriteLow .. | .shelfWriteHigh .. | .bankSlotWrite .. | .evtRawClear .. | .evtMaskWrite .. | .evtForce .. | .tblCopy ..
  | .tblCheck .. | .serialWrite .. | .gsmCopy .. | .unwLock .. | .unwCfgWrite .. | .progCopy .. | .bpmEnable .. | .onpCntWrite ..
  | .extRegWrite .. | .qmapCopy .. | .skipWindowWrite .. | .hwmClr .. | .hwmClrAll .. | .timeReadLatch .. | .fcReadLatch ..
  | .rtcReadLatch .. | .tskPost .. | .tskCancel .. | .itemCfgWrite .. | .tskEnable .. | .xwinWrite .. | .recRead .. | .msixArm ..
  | .evtEnable .. | .msixUnmask .. | .flashRead .. | .flashProg .. | .flashErase .. | .oi2cWrite .. | .oi2cRead .. =>
      [.regs, .seam, .evt, .tsk, .hif, .resp, .out]
  | .mirrorUpdate .. =>
      [.mirror, .hif]
  | .unusedPageAccess .. | .txtsRead .. | .readBusError .. =>
      [.regs, .seam, .tim, .evt, .tsk, .hif, .resp, .out]
  | .cntClr .. | .cntHold .. | .evtOutSet .. =>
      [.regs, .shown, .seam, .rcnt, .rcntHeld, .evt, .tsk, .hif, .resp, .out]
  | .cmtCommit .. =>
      [.regs, .seam, .cmt, .tribs, .pipes, .epochs, .shapers, .policers, .evt, .tsk, .hif, .timers, .resp, .out]
  | .markerInject .. =>
      [.cmt, .pipes]
  | .electionTimeout | .wakeL0Timeout | .pcieLinkUp .. | .pcieLinkDown | .pcieHotReset | .pcieFlr | .perstAssert =>
      [.regs, .seam, .cmt, .own, .evt, .tsk, .hif, .timers, .out]
  | .ownClaim .. | .ownClaimForced .. | .ownReleaseTarget .. | .ownReleaseVacate .. | .leaseExpire .. =>
      [.regs, .seam, .cmt, .own, .evt, .tsk, .hif, .timers, .resp, .out]
  | .handoverTimeout | .presenceOn | .presenceStuck | .presenceWindowExpire | .sealBreak .. | .sealRearm .. | .sealIntact .. =>
      [.regs, .seam, .own, .evt, .tsk, .hif, .timers, .out]
  | .presenceDebounce .. | .presenceUnstick =>
      [.own]
  | .forceWindowExpire =>
      [.own, .timers]
  | .presenceEnd .. =>
      [.regs, .seam, .own, .evt, .tsk, .hif, .timers, .resp, .out]
  | .sealBrokenClear .. =>
      [.regs, .seam, .own, .evt, .tsk, .hif, .resp, .out]
  | .rxEnable .. | .rxDisable .. =>
      [.regs, .seam, .cmt, .rx, .dsf, .tribs, .act, .upb, .restarts, .txEff, .pairs, .pipes, .epochs, .shapers, .policers, .evt,
      .tsk, .hif, .timers, .resp, .out, .fresh]
  | .preambleDetect .. | .unplannedHold .. | .groupDecode .. | .coastLimit .. =>
      [.regs, .seam, .cmt, .rx, .dsf, .tribs, .act, .upb, .restarts, .pairs, .pipes, .epochs, .shapers, .policers, .evt, .tsk,
      .hif, .timers, .out]
  | .blindAcquire .. =>
      [.rx, .pins]
  | .trainingCountReached .. | .lqBlock .. =>
      [.regs, .seam, .rx, .evt, .tsk, .hif, .pins, .out]
  | .plannedHold .. | .cdrLossOfLock .. | .armWindowClose .. | .clipBlock .. | .calStep .. =>
      [.regs, .seam, .rx, .evt, .tsk, .hif, .out]
  | .losAssert .. =>
      [.regs, .seam, .cmt, .rx, .dsf, .tribs, .act, .upb, .restarts, .pairs, .pipes, .epochs, .shapers, .policers, .evt, .tsk,
      .hif, .pins, .timers, .out]
  | .dozeEnter .. =>
      [.rx]
  | .dozeWake .. | .armWindowOpen .. =>
      [.regs, .rx]
  | .simDetect .. | .saveDef .. | .loadFactory .. =>
      [.regs, .seam, .cmt, .rx, .dsf, .tribs, .act, .upb, .restarts, .pairs, .pipes, .epochs, .shapers, .policers, .evt, .tsk,
      .hif, .timers, .resp, .out, .fresh]
  | .noiseMeasure .. | .rtcTrimMeasure .. =>
      [.regs]
  | .rateMeasure .. =>
      [.regs, .seam, .rx, .evt, .tsk, .hif, .out, .fresh]
  | .calStart .. | .calAbort .. =>
      [.regs, .seam, .rx, .evt, .tsk, .hif, .resp, .out]
  | .syncCandidate .. | .coastFrameAdvance .. =>
      [.dsf]
  | .plannedCoast .. | .coastEnd .. =>
      [.regs, .seam, .cmt, .dsf, .tribs, .act, .upb, .restarts, .pairs, .pipes, .epochs, .shapers, .policers, .evt, .tsk, .hif,
      .timers, .out]
  | .multiframeStart .. =>
      [.regs, .seam, .rx, .dsf, .evt, .tsk, .hif, .out]
  | .berSecond .. =>
      [.regs, .seam, .dsf, .evt, .tsk, .hif, .out, .fresh]
  | .fragmentReceive .. =>
      [.regs, .seam, .cmt, .nextPkt, .dsf, .tribs, .tfrags, .pairs, .pipes, .epochs, .shapers, .policers, .evt, .tsk, .hif,
      .timers, .out]
  | .fcForget .. =>
      [.regs, .seam, .dsf, .pairs, .evt, .tsk, .hif, .resp, .out]
  | .containerBuild .. =>
      [.regs, .seam, .tribs, .ttest, .evt, .tsk, .hif, .out, .fresh]
  | .containerReceive .. =>
      [.regs, .seam, .tribs, .tfrags, .ttest, .evt, .tsk, .hif, .timers, .out, .fresh]
  | .desyncStart .. | .hairpinByte .. =>
      [.tribs]
  | .locTimeout .. =>
      [.regs, .seam, .tribs, .evt, .tsk, .hif, .timers, .out]
  | .tribRateSecond | .frameSyncEdge =>
      [.regs, .seam, .tribs, .evt, .tsk, .hif, .out, .fresh]
  | .laneRowCheck .. =>
      [.regs, .seam, .tribs, .rows, .lanes, .evt, .tsk, .hif, .timers, .out]
  | .tblDataWrite .. =>
      [.regs, .seam, .tmap, .evt, .tsk, .hif, .resp, .out]
  | .copyComplete .. =>
      [.regs, .tmap, .gsm, .prog, .qmap, .gates, .gateBusy]
  | .profile .. | .statusReq .. | .controlMessageReject .. =>
      [.regs, .seam, .act, .evt, .tsk, .hif, .out]
  | .announceWindow .. | .assignId .. | .setDelay .. | .move .. | .announceTimeout | .lossTimeout =>
      [.regs, .seam, .cmt, .tribs, .act, .upb, .restarts, .pipes, .epochs, .shapers, .policers, .evt, .tsk, .hif, .timers, .out]
  | .rangingGrant .. =>
      [.regs, .seam, .act, .upb, .evt, .tsk, .hif, .timers, .out]
  | .grant .. =>
      [.regs, .seam, .act, .upb, .evt, .tsk, .hif, .out]
  | .deactivate .. | .rangingTimeout | .holdTimeout =>
      [.regs, .seam, .cmt, .tribs, .act, .upb, .restarts, .pairs, .pipes, .epochs, .shapers, .policers, .evt, .tsk, .hif,
      .timers, .out]
  | .silence .. | .emergencyStop .. =>
      [.regs, .seam, .cmt, .tribs, .act, .upb, .restarts, .txEff, .pipes, .epochs, .shapers, .policers, .evt, .log, .tsk, .hif,
      .timers, .out, .fresh]
  | .release .. =>
      [.regs, .seam, .cmt, .tribs, .act, .upb, .restarts, .pairs, .pipes, .epochs, .shapers, .policers, .evt, .log, .tsk, .hif,
      .timers, .out]
  | .timeOfDay .. =>
      [.regs, .seam, .act, .tim, .evt, .tsk, .hif, .timers, .out, .fresh]
  | .keyBlob .. | .fuseProgramDone .. =>
      [.regs, .seam, .act, .key, .evt, .tsk, .hif, .timers, .out]
  | .keySwitch .. =>
      [.regs, .seam, .cmt, .tribs, .act, .pairs, .pipes, .epochs, .shapers, .policers, .evt, .tsk, .hif, .timers, .out]
  | .actDisable .. =>
      [.regs, .seam, .cmt, .tribs, .act, .upb, .restarts, .pairs, .pipes, .epochs, .shapers, .policers, .evt, .tsk, .hif,
      .timers, .resp, .out]
  | .localRel .. =>
      [.regs, .seam, .cmt, .tribs, .act, .upb, .restarts, .pairs, .pipes, .epochs, .shapers, .policers, .evt, .log, .tsk, .hif,
      .timers, .resp, .out]
  | .guardTrip .. | .guardFbTrip .. =>
      [.regs, .seam, .cmt, .tribs, .act, .upb, .restarts, .txEff, .pipes, .epochs, .shapers, .policers, .evt, .tsk, .hif,
      .timers, .out, .fresh]
  | .guardClr .. | .guardTest .. =>
      [.regs, .seam, .cmt, .tribs, .act, .upb, .restarts, .txEff, .pipes, .epochs, .shapers, .policers, .evt, .tsk, .hif,
      .timers, .resp, .out, .fresh]
  | .upstreamFrameStart .. | .burstFix .. =>
      [.regs, .seam, .cmt, .tribs, .act, .upb, .pairs, .pipes, .epochs, .shapers, .policers, .evt, .tsk, .hif, .timers, .out]
  | .burstStart .. =>
      [.regs, .seam, .cmt, .tribs, .act, .upb, .txEff, .pipes, .epochs, .bufs, .queues, .shapers, .policers, .lports, .evt, .log,
      .tsk, .hif, .timers, .out]
  | .burstEnd .. =>
      [.regs, .seam, .upb, .txEff, .bufs, .queues, .lports, .evt, .log, .tsk, .hif, .out]
  | .packetFragmentStart .. =>
      [.regs, .mem, .seam, .upb, .pairs, .ecc, .queues, .tim, .evt, .tsk, .hif, .out]
  | .packetRelease .. =>
      [.regs, .seam, .upb, .bufs, .queues, .lports, .evt, .log, .tsk, .hif, .out]
  | .gsmDataWrite .. =>
      [.regs, .seam, .gsm, .evt, .tsk, .hif, .resp, .out]
  | .txConfigWrite .. =>
      [.regs, .seam, .txEff, .evt, .tsk, .hif, .resp, .out]
  | .txTestWrite .. =>
      [.regs, .seam, .evt, .tsk, .hif, .resp, .out, .fresh]
  | .unwrapJobComplete =>
      [.regs, .seam, .act, .pairs, .key, .mxe, .evt, .tsk, .hif, .timers, .out]
  | .keyCmdLink .. | .keyCmdMemory .. | .keyCmdWrap .. =>
      [.regs, .seam, .act, .key, .evt, .tsk, .hif, .timers, .resp, .out]
  | .lockoutEnd =>
      [.key, .timers]
  | .entropyTestFail .. =>
      [.regs, .seam, .key, .mxe, .evt, .tsk, .hif, .out]
  | .keyErasePair .. | .keyEraseAll .. | .jtagOpen .. | .jtagClose .. =>
      [.regs, .seam, .upb, .pairs, .evt, .tsk, .hif, .resp, .out]
  | .parseStart .. =>
      [.regs, .seam, .cmt, .pipes, .evt, .tsk, .hif, .out]
  | .nop .. | .ld .. | .ldi .. | .ldm .. | .addi .. | .add .. | .andi .. | .shl .. | .shr .. | .jeq .. | .jne .. | .jlt ..
  | .jmp .. | .ext .. | .kst .. | .hdr .. | .lchk .. | .flag .. | .done .. | .mal .. | .illegalOpcode .. | .programFetchUe ..
  | .fixedExtract .. | .recirculate .. =>
      [.regs, .seam, .pipes, .epochs, .evt, .tsk, .hif, .out]
  | .stepBudgetFault .. =>
      [.regs, .seam, .pipes, .evt, .tsk, .hif, .out]
  | .classifyWalk .. =>
      [.regs, .seam, .pipes, .epochs, .rcnt, .evt, .tsk, .hif, .out]
  | .flowLookup .. =>
      [.regs, .mem, .seam, .pipes, .ecc, .evt, .tsk, .hif, .out]
  | .flowAge .. =>
      [.regs, .mem, .ecc, .out]
  | .flowRead .. | .flowWrite .. | .flowInvalidate .. =>
      [.regs, .mem, .seam, .ecc, .evt, .tsk, .hif, .resp, .out]
  | .treeDataWrite .. =>
      [.regs, .mem, .seam, .evt, .tsk, .hif, .resp, .out]
  | .coreTreeStore .. =>
      [.regs, .mem, .tsk, .cpu, .resp]
  | .progDataWrite .. =>
      [.regs, .seam, .prog, .evt, .tsk, .hif, .resp, .out]
  | .bufferAllocate .. =>
      [.regs, .mem, .seam, .nextPkt, .pipes, .excWait, .bufs, .bufRot, .ecc, .evt, .log, .tsk, .hif, .out, .fresh]
  | .bufShare .. | .bufRelease .. | .bufFree .. | .bufQuery .. | .bufAlloc .. =>
      [.regs, .seam, .bufs, .bufRot, .lports, .evt, .log, .tsk, .hif, .resp, .out, .fresh]
  | .qmapDataWrite .. =>
      [.regs, .seam, .qmap, .evt, .tsk, .hif, .resp, .out]
  | .memoryRead .. | .narrowWrite .. | .retire .. | .clearList .. =>
      [.regs, .seam, .ecc, .evt, .log, .tsk, .hif, .resp, .out]
  | .memoryWrite .. =>
      [.regs, .mem, .seam, .ecc, .evt, .tsk, .cpu, .hif, .resp, .out]
  | .lineFill .. =>
      [.regs, .mem, .seam, .ecc, .evt, .log, .tsk, .cpu, .hif, .resp, .out, .fresh]
  | .fillLine .. =>
      [.regs, .mem, .seam, .memch, .ecc, .evt, .tsk, .hif, .out]
  | .scrubRead .. | .powerFailAssert =>
      [.regs, .seam, .ecc, .evt, .log, .tsk, .hif, .out]
  | .trackClr .. =>
      [.regs, .seam, .ecc, .evt, .tsk, .hif, .resp, .out]
  | .rekey .. | .fresh .. =>
      [.regs, .seam, .ecc, .mxe, .evt, .log, .tsk, .hif, .resp, .out, .fresh]
  | .rekeyLine .. =>
      [.regs, .seam, .ecc, .mxe, .evt, .log, .tsk, .hif, .out]
  | .memTrain .. | .memWithdraw .. =>
      [.regs, .seam, .bufs, .memch, .ecc, .mxe, .evt, .log, .tsk, .hif, .resp, .out]
  | .trainingDone .. | .trainingFail .. | .memoryStepTimeout .. =>
      [.regs, .seam, .cmt, .rx, .dsf, .tribs, .act, .upb, .restarts, .pairs, .pipes, .epochs, .bufs, .memch, .ecc, .mxe,
      .shapers, .policers, .tim, .evt, .log, .tsk, .pwr, .rst, .hif, .clock, .timers, .out, .fresh]
  | .enqueue .. =>
      [.regs, .seam, .pipes, .bufs, .queues, .lports, .evt, .log, .tsk, .hif, .out]
  | .gsSelect .. =>
      [.regs, .seam, .upb, .restarts, .bufs, .queues, .turns, .elig, .shapers, .lports, .evt, .log, .tsk, .hif, .out]
  | .laneSelect .. =>
      [.regs, .mem, .seam, .bufs, .ecc, .queues, .turns, .elig, .shapers, .lanes, .lports, .tim, .evt, .log, .tsk, .hif, .out]
  | .portSelect .. =>
      [.regs, .mem, .seam, .bufs, .ecc, .queues, .elig, .lanes, .lports, .tim, .evt, .log, .tsk, .hif, .out]
  | .police .. =>
      [.regs, .pipes, .policers]
  | .gateShadowWrite .. =>
      [.regs, .seam, .gates, .evt, .tsk, .hif, .resp, .out]
  | .gateCopy .. =>
      [.regs, .seam, .gateBusy, .evt, .tsk, .hif, .resp, .out]
  | .shpEnable .. =>
      [.regs, .seam, .shapers, .evt, .tsk, .hif, .resp, .out]
  | .laneCtlWrite .. | .laneSleep .. | .laneWake .. | .laneRecal .. | .laneRecalAbort .. | .laneRetrain .. =>
      [.regs, .seam, .rows, .lanes, .evt, .tsk, .hif, .timers, .resp, .out]
  | .negotiationComplete .. | .linkTrainingComplete .. | .recalRun .. | .wakeOnSignal .. | .wakeOnQueue .. =>
      [.lanes, .timers]
  | .linkTrainingTimeout .. | .pcsLock .. | .pcsLockLoss .. | .recalEnd .. | .pllReady .. =>
      [.regs, .seam, .lanes, .evt, .tsk, .hif, .timers, .out]
  | .refLoss =>
      [.regs, .seam, .lanes, .evt, .tsk, .hif, .pins, .timers, .out]
  | .refReturn =>
      [.pins]
  | .frameReceive .. =>
      [.regs, .seam, .cmt, .nextPkt, .pipes, .lanes, .lports, .evt, .tsk, .hif, .timers, .out]
  | .pauseReceive .. | .pfcReceive .. =>
      [.regs, .seam, .lanes, .lports, .evt, .tsk, .hif, .timers, .out]
  | .pauseTimerExpire .. =>
      [.timers]
  | .pauseSend .. =>
      [.regs, .lanes, .lports, .out]
  | .pauseRefresh .. =>
      [.regs, .out]
  | .txUnderrun .. | .frameTransmitEnd .. | .collision .. =>
      [.regs, .seam, .rows, .bufs, .queues, .lanes, .lports, .evt, .log, .tsk, .hif, .timers, .out]
  | .backoffExpire .. =>
      [.lports, .timers]
  | .cxBpStart .. =>
      [.regs, .lports]
  | .phyPoll .. | .portStepDown .. | .portStepUp .. =>
      [.regs, .seam, .lports, .evt, .tsk, .hif, .out]
  | .mdioWrite .. | .mdioRead .. =>
      [.regs, .seam, .mdio, .evt, .tsk, .hif, .resp, .out]
  | .mdioFrameDone .. =>
      [.regs, .seam, .mdio, .evt, .tsk, .hif, .out]
  | .servoHoldTimeout | .bStale =>
      [.regs, .seam, .tim, .evt, .tsk, .hif, .timers, .out]
  | .servoDisable .. =>
      [.regs, .seam, .tim, .evt, .tsk, .hif, .timers, .resp, .out]
  | .stepByRefused .. | .stepToTime .. | .stepByAmount .. | .switchA .. | .switchB .. =>
      [.regs, .seam, .lanes, .tim, .evt, .tsk, .hif, .clock, .timers, .resp, .out]
  | .stepApply =>
      [.regs, .seam, .lanes, .tim, .evt, .tsk, .hif, .clock, .timers, .out]
  | .bSample .. =>
      [.regs, .seam, .tim, .evt, .tsk, .hif, .timers, .resp, .out, .fresh]
  | .rtcFail | .ppsEdge =>
      [.regs, .seam, .tim, .evt, .tsk, .hif, .out]
  | .fuEntryExpire .. =>
      [.tim]
  | .todUartMessage =>
      [.tim, .out]
  | .take .. | .itemDone .. | .yield .. | .portPost .. | .portCancel .. | .causeRead .. =>
      [.tsk, .resp]
  | .postApply =>
      [.tsk]
  | .excDescriptorWrite =>
      [.regs, .mem, .seam, .excWait, .bufs, .ecc, .lports, .evt, .log, .tsk, .cpu, .hif, .out]
  | .excTailWrite .. =>
      [.regs, .seam, .bufs, .evt, .tsk, .cpu, .hif, .resp, .out]
  | .injectPath .. | .injectDirect .. =>
      [.regs, .seam, .cmt, .nextPkt, .pipes, .bufs, .queues, .lports, .evt, .log, .tsk, .hif, .resp, .out]
  | .eventFire .. | .oi2cDone .. | .oi2cSclTimeout | .pcieL0Exit =>
      [.regs, .seam, .evt, .tsk, .hif, .out]
  | .logPageProgram .. | .powerFailFlushDone .. | .resetAssert | .watchdogExpire =>
      [.regs, .shown, .mirror, .seam, .cmt, .own, .rx, .dsf, .tmap, .tribs, .tfrags, .rows, .ttest, .act, .upb, .restarts, .gsm,
      .txEff, .pairs, .key, .dark, .pipes, .epochs, .prog, .rcnt, .rcntHeld, .excWait, .bufs, .bufRot, .qmap, .memch, .ecc, .mxe,
      .queues, .turns, .elig, .shapers, .policers, .gates, .gateBusy, .lanes, .lports, .mdio, .tim, .evt, .log, .tsk, .cpu, .pwr,
      .rst, .sys, .hif, .clock, .timers, .out]
  | .logSectorErase =>
      [.log, .out]
  | .powerFailClear | .flashCmdDone .. =>
      [.regs, .seam, .evt, .log, .tsk, .hif, .out]
  | .levelWrite .. =>
      [.regs, .seam, .evt, .tsk, .pwr, .hif, .resp, .out]
  | .regulatorAck .. | .dozeAutoExit | .wakeSource .. | .domainPowerGood .. =>
      [.regs, .seam, .cmt, .rx, .dsf, .tribs, .act, .upb, .restarts, .pairs, .pipes, .epochs, .memch, .shapers, .policers, .tim,
      .evt, .tsk, .pwr, .rst, .hif, .clock, .timers, .out]
  | .pmbusAttemptTimeout .. =>
      [.regs, .seam, .evt, .tsk, .pwr, .hif, .out]
  | .doze .. | .nap .. | .deep .. | .wake .. | .leaveLimp .. =>
      [.regs, .seam, .cmt, .rx, .dsf, .tribs, .act, .upb, .restarts, .pairs, .pipes, .epochs, .memch, .shapers, .policers, .tim,
      .evt, .tsk, .pwr, .rst, .hif, .clock, .timers, .resp, .out]
  | .sleepEntry =>
      [.regs, .shown, .mirror, .seam, .cmt, .own, .rx, .dsf, .tmap, .tribs, .tfrags, .rows, .ttest, .act, .upb, .restarts, .gsm,
      .txEff, .pairs, .key, .dark, .pipes, .epochs, .prog, .rcnt, .rcntHeld, .excWait, .bufs, .bufRot, .qmap, .memch, .ecc, .mxe,
      .queues, .turns, .elig, .shapers, .policers, .gates, .gateBusy, .lanes, .lports, .mdio, .tim, .evt, .log, .tsk, .cpu, .pwr,
      .rst, .sys, .hif, .pins, .clock, .timers, .out, .fresh]
  | .sleepWaitTimeout =>
      [.regs, .seam, .evt, .tsk, .pwr, .hif, .timers, .out]
  | .oscReadyRise =>
      [.regs, .seam, .cmt, .rx, .dsf, .tribs, .act, .upb, .restarts, .pairs, .pipes, .epochs, .memch, .shapers, .policers, .tim,
      .evt, .tsk, .pwr, .rst, .hif, .pins, .clock, .timers, .out]
  | .oscTimeout =>
      [.regs, .seam, .cmt, .rx, .dsf, .tribs, .act, .upb, .restarts, .txEff, .pairs, .pipes, .epochs, .memch, .shapers,
      .policers, .tim, .evt, .tsk, .pwr, .rst, .hif, .clock, .timers, .out, .fresh]
  | .domainTimeout .. =>
      [.regs, .seam, .cmt, .rx, .dsf, .tribs, .act, .upb, .restarts, .pairs, .pipes, .epochs, .shapers, .policers, .tim, .evt,
      .tsk, .pwr, .rst, .hif, .clock, .timers, .out]
  | .powerOn =>
      [.regs, .shown, .mirror, .mem, .seam, .cmt, .own, .rx, .dsf, .tmap, .tribs, .tfrags, .rows, .ttest, .act, .upb, .restarts,
      .gsm, .txEff, .pairs, .key, .dark, .pipes, .epochs, .prog, .rcnt, .rcntHeld, .excWait, .bufs, .bufRot, .qmap, .memch, .ecc,
      .mxe, .queues, .turns, .elig, .shapers, .policers, .gates, .gateBusy, .lanes, .lports, .mdio, .tim, .evt, .log, .tsk, .cpu,
      .pwr, .rst, .sys, .hif, .clock, .timers, .out]
  | .powerLoss =>
      [.regs, .shown, .mirror, .mem, .seam, .cmt, .own, .rx, .dsf, .tmap, .tribs, .tfrags, .rows, .ttest, .act, .upb, .restarts,
      .gsm, .txEff, .pairs, .key, .dark, .pipes, .epochs, .prog, .rcnt, .rcntHeld, .excWait, .bufs, .bufRot, .qmap, .memch, .ecc,
      .mxe, .queues, .turns, .elig, .shapers, .policers, .gates, .gateBusy, .lanes, .lports, .mdio, .tim, .evt, .log, .tsk, .cpu,
      .pwr, .rst, .sys, .hif, .pins, .clock, .timers]
  | .resetRelease .. =>
      [.regs, .seam, .cmt, .own, .rx, .dsf, .tribs, .act, .upb, .restarts, .pairs, .pipes, .epochs, .shapers, .policers, .tim,
      .evt, .tsk, .pwr, .rst, .hif, .clock, .timers, .out]
  | .devRst .. =>
      [.regs, .shown, .mirror, .seam, .cmt, .own, .rx, .dsf, .tmap, .tribs, .tfrags, .rows, .ttest, .act, .upb, .restarts, .gsm,
      .txEff, .pairs, .key, .dark, .pipes, .epochs, .prog, .rcnt, .rcntHeld, .excWait, .bufs, .bufRot, .qmap, .memch, .ecc, .mxe,
      .queues, .turns, .elig, .shapers, .policers, .gates, .gateBusy, .lanes, .lports, .mdio, .tim, .evt, .log, .tsk, .cpu, .pwr,
      .rst, .sys, .hif, .clock, .timers, .resp, .out]
  | .coreRunWrite .. =>
      [.regs, .seam, .cmt, .own, .evt, .tsk, .cpu, .hif, .timers, .resp, .out]
  | .bootStepDone .. =>
      [.regs, .mem, .seam, .cmt, .own, .tribs, .act, .upb, .restarts, .key, .pipes, .epochs, .memch, .ecc, .shapers, .policers,
      .evt, .log, .tsk, .cpu, .pwr, .rst, .hif, .timers, .out, .fresh]
  | .flashReadTimeout =>
      [.regs, .seam, .memch, .evt, .tsk, .rst, .hif, .out]
  | .bootRetry .. | .bootRun .. =>
      [.regs, .seam, .cmt, .own, .evt, .tsk, .cpu, .rst, .hif, .timers, .resp, .out]
  | .bistGo .. =>
      [.regs, .seam, .evt, .tsk, .sys, .hif, .resp, .out]
  | .bistDone .. =>
      [.regs, .mem, .seam, .prog, .memch, .evt, .tsk, .sys, .hif, .out]
  | .tribRowTransmit .. =>
      [.regs, .seam, .tribs, .rows, .evt, .tsk, .hif, .out, .fresh]
  | .entropyTestPass .. =>
      [.regs, .key, .memch, .mxe, .rst, .fresh]
  | .retCmdDone .. =>
      [.regs, .seam, .ecc, .evt, .log, .tsk, .hif, .out, .fresh]

/-- No command changes a part outside its list: the lemma of its meaning. -/
theorem exec_keeps (c : Instr) (s : State) : ResKeeps (partsOf c) s (exec c s) := by
  cases c with
  | seamFlitReceive toFab ok dropLine dropFab => exact execSeamFlitReceive_keeps toFab ok dropLine dropFab s
  | seamLaneLockLoss fab lane dropLine dropFab => exact execSeamLaneLockLoss_keeps fab lane dropLine dropFab s
  | seamLost => exact execSeamLost_keeps s
  | seamRetrainAttempt => exact execSeamRetrainAttempt_keeps s
  | seamUp => exact execSeamUp_keeps s
  | retrainEnWrite r v => exact execRetrainEnWrite_keeps r v s
  | prepare tag => exact execPrepare_keeps tag s
  | prepared tag => exact execPrepared_keeps tag s
  | apply tag => exact execApply_keeps tag s
  | abort tag => exact execAbort_keeps tag s
  | abortDomainOff tag => exact execAbortDomainOff_keeps tag s
  | prepTimeout tag => exact execPrepTimeout_keeps tag s
  | registerWrite r a v full => exact execRegisterWrite_keeps r a v full s
  | stagedWrite r a v full => exact execStagedWrite_keeps r a v full s
  | shelfReadLow slot ofs => exact execShelfReadLow_keeps slot ofs s
  | shelfReadHigh slot ofs => exact execShelfReadHigh_keeps slot ofs s
  | shelfWriteLow slot ofs d => exact execShelfWriteLow_keeps slot ofs d s
  | shelfWriteHigh slot ofs d => exact execShelfWriteHigh_keeps slot ofs d s
  | bankSlotRead ofs => exact execBankSlotRead_keeps ofs s
  | bankSlotWrite ofs d => exact execBankSlotWrite_keeps ofs d s
  | shelfWriteEffect => exact execShelfWriteEffect_keeps s
  | mirrorUpdate page whole => exact execMirrorUpdate_keeps page whole s
  | unusedPageAccess r rd a high => exact execUnusedPageAccess_keeps r rd a high s
  | cntClr r page v => exact execCntClr_keeps r page v s
  | cntHold r page v => exact execCntHold_keeps r page v s
  | evtOutSet r page v => exact execEvtOutSet_keeps r page v s
  | evtRawClear r page bits firing => exact execEvtRawClear_keeps r page bits firing s
  | evtMaskWrite r page bits => exact execEvtMaskWrite_keeps r page bits s
  | evtForce r page bits => exact execEvtForce_keeps r page bits s
  | cmtOpen r tag => exact execCmtOpen_keeps r tag s
  | cmtCommit r tag => exact execCmtCommit_keeps r tag s
  | cmtDiscard r tag => exact execCmtDiscard_keeps r tag s
  | cmtAck r tag => exact execCmtAck_keeps r tag s
  | markerInject tag pipe => exact execMarkerInject_keeps tag pipe s
  | markerPass tag pipe st => exact execMarkerPass_keeps tag pipe st s
  | boundaryApply tag u => exact execBoundaryApply_keeps tag u s
  | electionTimeout => exact execElectionTimeout_keeps s
  | ownClaim r h => exact execOwnClaim_keeps r h s
  | ownClaimForced r h => exact execOwnClaimForced_keeps r h s
  | ownReleaseTarget r t h => exact execOwnReleaseTarget_keeps r t h s
  | ownReleaseVacate r h => exact execOwnReleaseVacate_keeps r h s
  | handoverTimeout => exact execHandoverTimeout_keeps s
  | leaseExpire h => exact execLeaseExpire_keeps h s
  | ownHeartbeat r => exact execOwnHeartbeat_keeps r s
  | presenceDebounce high => exact execPresenceDebounce_keeps high s
  | presenceOn => exact execPresenceOn_keeps s
  | presenceStuck => exact execPresenceStuck_keeps s
  | presenceUnstick => exact execPresenceUnstick_keeps s
  | presenceWindowExpire => exact execPresenceWindowExpire_keeps s
  | forceWindowExpire => exact execForceWindowExpire_keeps s
  | presenceEnd r v => exact execPresenceEnd_keeps r v s
  | sealBreak seen => exact execSealBreak_keeps seen s
  | sealRearm seen => exact execSealRearm_keeps seen s
  | sealBrokenClear r => exact execSealBrokenClear_keeps r s
  | wakeL0Timeout => exact execWakeL0Timeout_keeps s
  | rxEnable r c v => exact execRxEnable_keeps r c v s
  | rxDisable r c v => exact execRxDisable_keeps r c v s
  | preambleDetect c offset peak gain lag => exact execPreambleDetect_keeps c offset peak gain lag s
  | blindAcquire c => exact execBlindAcquire_keeps c s
  | trainingCountReached c locked a => exact execTrainingCountReached_keeps c locked a s
  | plannedHold c g => exact execPlannedHold_keeps c g s
  | unplannedHold c => exact execUnplannedHold_keeps c s
  | losAssert c idle => exact execLosAssert_keeps c idle s
  | dozeEnter c g => exact execDozeEnter_keeps c g s
  | dozeWake c => exact execDozeWake_keeps c s
  | cdrLossOfLock c => exact execCdrLossOfLock_keeps c s
  | armWindowClose c => exact execArmWindowClose_keeps c s
  | simDetect r c v => exact execSimDetect_keeps r c v s
  | saveDef r c v => exact execSaveDef_keeps r c v s
  | loadFactory r c v => exact execLoadFactory_keeps r c v s
  | lqBlock c lq a => exact execLqBlock_keeps c lq a s
  | noiseMeasure c floor => exact execNoiseMeasure_keeps c floor s
  | rateMeasure c ppm lock => exact execRateMeasure_keeps c ppm lock s
  | clipBlock c clips => exact execClipBlock_keeps c clips s
  | calStart r c v => exact execCalStart_keeps r c v s
  | calAbort r c v => exact execCalAbort_keeps r c v s
  | calStep c k nonIdle trim => exact execCalStep_keeps c k nonIdle trim s
  | syncCandidate c pos window => exact execSyncCandidate_keeps c pos window s
  | groupDecode c g => exact execGroupDecode_keeps c g s
  | plannedCoast c => exact execPlannedCoast_keeps c s
  | coastEnd c g => exact execCoastEnd_keeps c g s
  | coastLimit c => exact execCoastLimit_keeps c s
  | coastFrameAdvance c => exact execCoastFrameAdvance_keeps c s
  | multiframeStart c => exact execMultiframeStart_keeps c s
  | berSecond c => exact execBerSecond_keeps c s
  | fragmentReceive c stamp => exact execFragmentReceive_keeps c stamp s
  | fcForget r c => exact execFcForget_keeps r c s
  | containerBuild ctx => exact execContainerBuild_keeps ctx s
  | containerReceive c => exact execContainerReceive_keeps c s
  | desyncStart ctx => exact execDesyncStart_keeps ctx s
  | locTimeout ctx => exact execLocTimeout_keeps ctx s
  | tribRateSecond => exact execTribRateSecond_keeps s
  | laneRowCheck l row => exact execLaneRowCheck_keeps l row s
  | hairpinByte ctx => exact execHairpinByte_keeps ctx s
  | tblDataWrite r v => exact execTblDataWrite_keeps r v s
  | tblCopy r v => exact execTblCopy_keeps r v s
  | tblCheck r v => exact execTblCheck_keeps r v s
  | copyComplete k => exact execCopyComplete_keeps k s
  | tableSelect r a v => exact execTableSelect_keeps r a v s
  | profile h b => exact execProfile_keeps h b s
  | announceWindow h frame start len pre chance draw ofs => exact execAnnounceWindow_keeps h frame start len pre chance draw ofs s
  | assignId h serial tid => exact execAssignId_keeps h serial tid s
  | rangingGrant h frame start pre => exact execRangingGrant_keeps h frame start pre s
  | setDelay h eqd frame => exact execSetDelay_keeps h eqd frame s
  | grant h es => exact execGrant_keeps h es s
  | move h b => exact execMove_keeps h b s
  | deactivate h => exact execDeactivate_keeps h s
  | silence h b => exact execSilence_keeps h b s
  | emergencyStop h b => exact execEmergencyStop_keeps h b s
  | release h b => exact execRelease_keeps h b s
  | timeOfDay h frame sec ns => exact execTimeOfDay_keeps h frame sec ns s
  | keyBlob h bytes => exact execKeyBlob_keeps h bytes s
  | keySwitch h frame => exact execKeySwitch_keeps h frame s
  | statusReq h => exact execStatusReq_keeps h s
  | controlMessageReject h type crcFail => exact execControlMessageReject_keeps h type crcFail s
  | announceTimeout => exact execAnnounceTimeout_keeps s
  | rangingTimeout => exact execRangingTimeout_keeps s
  | lossTimeout => exact execLossTimeout_keeps s
  | holdTimeout => exact execHoldTimeout_keeps s
  | actDisable r v => exact execActDisable_keeps r v s
  | serialWrite r hi v => exact execSerialWrite_keeps r hi v s
  | localRel r v => exact execLocalRel_keeps r v s
  | guardTrip c => exact execGuardTrip_keeps c s
  | guardFbTrip c => exact execGuardFbTrip_keeps c s
  | guardClr r v => exact execGuardClr_keeps r v s
  | guardTest r v => exact execGuardTest_keeps r v s
  | upstreamFrameStart c => exact execUpstreamFrameStart_keeps c s
  | burstFix c => exact execBurstFix_keeps c s
  | burstStart c => exact execBurstStart_keeps c s
  | burstEnd c => exact execBurstEnd_keeps c s
  | packetFragmentStart c present => exact execPacketFragmentStart_keeps c present s
  | packetRelease c => exact execPacketRelease_keeps c s
  | gsmDataWrite r v => exact execGsmDataWrite_keeps r v s
  | gsmCopy r v => exact execGsmCopy_keeps r v s
  | txConfigWrite r c fir v => exact execTxConfigWrite_keeps r c fir v s
  | txTestWrite r c v => exact execTxTestWrite_keeps r c v s
  | unwrapJobComplete => exact execUnwrapJobComplete_keeps s
  | keyCmdLink r v => exact execKeyCmdLink_keeps r v s
  | keyCmdMemory r v => exact execKeyCmdMemory_keeps r v s
  | keyCmdWrap r v => exact execKeyCmdWrap_keeps r v s
  | fuseProgramDone ok => exact execFuseProgramDone_keeps ok s
  | lockoutEnd => exact execLockoutEnd_keeps s
  | entropyTestFail fab => exact execEntropyTestFail_keeps fab s
  | keyErasePair r pairs => exact execKeyErasePair_keeps r pairs s
  | keyEraseAll r => exact execKeyEraseAll_keeps r s
  | unwLock r => exact execUnwLock_keeps r s
  | unwCfgWrite r v => exact execUnwCfgWrite_keeps r v s
  | parseStart pipe => exact execParseStart_keeps pipe s
  | nop e => exact execNop_keeps e s
  | ld e => exact execLd_keeps e s
  | ldi e => exact execLdi_keeps e s
  | ldm e => exact execLdm_keeps e s
  | addi e => exact execAddi_keeps e s
  | add e => exact execAdd_keeps e s
  | andi e => exact execAndi_keeps e s
  | shl e => exact execShl_keeps e s
  | shr e => exact execShr_keeps e s
  | jeq e => exact execJeq_keeps e s
  | jne e => exact execJne_keeps e s
  | jlt e => exact execJlt_keeps e s
  | jmp e => exact execJmp_keeps e s
  | ext e => exact execExt_keeps e s
  | kst e => exact execKst_keeps e s
  | hdr e => exact execHdr_keeps e s
  | lchk e => exact execLchk_keeps e s
  | flag e => exact execFlag_keeps e s
  | done e => exact execDone_keeps e s
  | mal e => exact execMal_keeps e s
  | illegalOpcode e => exact execIllegalOpcode_keeps e s
  | stepBudgetFault e => exact execStepBudgetFault_keeps e s
  | programFetchUe e => exact execProgramFetchUe_keeps e s
  | fixedExtract pipe => exact execFixedExtract_keeps pipe s
  | classifyWalk pipe ueAt => exact execClassifyWalk_keeps pipe ueAt s
  | recirculate pipe => exact execRecirculate_keeps pipe s
  | flowLookup pipe ue => exact execFlowLookup_keeps pipe ue s
  | flowAge ext idx => exact execFlowAge_keeps ext idx s
  | flowRead r v ue => exact execFlowRead_keeps r v ue s
  | flowWrite r v => exact execFlowWrite_keeps r v s
  | flowInvalidate r v => exact execFlowInvalidate_keeps r v s
  | treeDataWrite r v => exact execTreeDataWrite_keeps r v s
  | coreTreeStore n node word v full => exact execCoreTreeStore_keeps n node word v full s
  | progDataWrite r v => exact execProgDataWrite_keeps r v s
  | progCopy r v => exact execProgCopy_keeps r v s
  | bufferAllocate pipe => exact execBufferAllocate_keeps pipe s
  | bufShare r v => exact execBufShare_keeps r v s
  | bufRelease r v => exact execBufRelease_keeps r v s
  | bufFree r v => exact execBufFree_keeps r v s
  | bufQuery r v => exact execBufQuery_keeps r v s
  | bufAlloc r v => exact execBufAlloc_keeps r v s
  | bpmEnable r v => exact execBpmEnable_keeps r v s
  | onpCntWrite r k v => exact execOnpCntWrite_keeps r k v s
  | extRegWrite r k m v => exact execExtRegWrite_keeps r k m v s
  | qmapDataWrite r v => exact execQmapDataWrite_keeps r v s
  | qmapCopy r v => exact execQmapCopy_keeps r v s
  | memoryRead u pl o => exact execMemoryRead_keeps u pl o s
  | memoryWrite u pl data => exact execMemoryWrite_keeps u pl data s
  | narrowWrite u pl => exact execNarrowWrite_keeps u pl s
  | lineFill n k a o => exact execLineFill_keeps n k a o s
  | fillLine ch => exact execFillLine_keeps ch s
  | scrubRead pl o => exact execScrubRead_keeps pl o s
  | retire r v => exact execRetire_keeps r v s
  | clearList r v => exact execClearList_keeps r v s
  | trackClr r v => exact execTrackClr_keeps r v s
  | rekey r v => exact execRekey_keeps r v s
  | fresh r v => exact execFresh_keeps r v s
  | rekeyLine ch o => exact execRekeyLine_keeps ch o s
  | memTrain r m v => exact execMemTrain_keeps r m v s
  | memWithdraw r m v => exact execMemWithdraw_keeps r m v s
  | trainingDone m gib => exact execTrainingDone_keeps m gib s
  | trainingFail m stp => exact execTrainingFail_keeps m stp s
  | skipWindowWrite r m endReg v => exact execSkipWindowWrite_keeps r m endReg v s
  | enqueue pipe => exact execEnqueue_keeps pipe s
  | gsSelect c => exact execGsSelect_keeps c s
  | laneSelect l => exact execLaneSelect_keeps l s
  | portSelect p => exact execPortSelect_keeps p s
  | police pipe => exact execPolice_keeps pipe s
  | gateSwitch l => exact execGateSwitch_keeps l s
  | gateShadowWrite r a v => exact execGateShadowWrite_keeps r a v s
  | gateCopy r v => exact execGateCopy_keeps r v s
  | hwmClr r v => exact execHwmClr_keeps r v s
  | hwmClrAll r v => exact execHwmClrAll_keeps r v s
  | shpEnable r v => exact execShpEnable_keeps r v s
  | laneCtlWrite r l v => exact execLaneCtlWrite_keeps r l v s
  | laneSleep r l v => exact execLaneSleep_keeps r l v s
  | laneWake r l v => exact execLaneWake_keeps r l v s
  | laneRecal r l v => exact execLaneRecal_keeps r l v s
  | laneRecalAbort r l v => exact execLaneRecalAbort_keeps r l v s
  | laneRetrain r l v => exact execLaneRetrain_keeps r l v s
  | negotiationComplete l mode fec => exact execNegotiationComplete_keeps l mode fec s
  | linkTrainingComplete l => exact execLinkTrainingComplete_keeps l s
  | linkTrainingTimeout l => exact execLinkTrainingTimeout_keeps l s
  | pcsLock l => exact execPcsLock_keeps l s
  | pcsLockLoss l => exact execPcsLockLoss_keeps l s
  | recalRun l => exact execRecalRun_keeps l s
  | recalEnd l => exact execRecalEnd_keeps l s
  | wakeOnSignal l => exact execWakeOnSignal_keeps l s
  | wakeOnQueue l => exact execWakeOnQueue_keeps l s
  | pllReady l => exact execPllReady_keeps l s
  | refLoss => exact execRefLoss_keeps s
  | refReturn => exact execRefReturn_keeps s
  | frameReceive e f => exact execFrameReceive_keeps e f s
  | pauseReceive e quanta => exact execPauseReceive_keeps e quanta s
  | pfcReceive e en quanta => exact execPfcReceive_keeps e en quanta s
  | pauseTimerExpire e pri => exact execPauseTimerExpire_keeps e pri s
  | pauseSend e => exact execPauseSend_keeps e s
  | pauseRefresh e => exact execPauseRefresh_keeps e s
  | txUnderrun e => exact execTxUnderrun_keeps e s
  | frameTransmitEnd e => exact execFrameTransmitEnd_keeps e s
  | collision p bit rnd => exact execCollision_keeps p bit rnd s
  | backoffExpire p => exact execBackoffExpire_keeps p s
  | cxBpStart p => exact execCxBpStart_keeps p s
  | phyPoll p r1 r4 r5 => exact execPhyPoll_keeps p r1 r4 r5 s
  | portStepDown p => exact execPortStepDown_keeps p s
  | portStepUp p => exact execPortStepUp_keeps p s
  | mdioWrite r v => exact execMdioWrite_keeps r v s
  | mdioRead r v => exact execMdioRead_keeps r v s
  | mdioFrameDone data ack => exact execMdioFrameDone_keeps data ack s
  | servoHoldTimeout => exact execServoHoldTimeout_keeps s
  | servoDisable r v => exact execServoDisable_keeps r v s
  | stepByRefused r v => exact execStepByRefused_keeps r v s
  | stepToTime r v => exact execStepToTime_keeps r v s
  | stepByAmount r v => exact execStepByAmount_keeps r v s
  | stepApply => exact execStepApply_keeps s
  | switchA r v => exact execSwitchA_keeps r v s
  | switchB r v => exact execSwitchB_keeps r v s
  | bSample r v => exact execBSample_keeps r v s
  | bStale => exact execBStale_keeps s
  | rtcTrimMeasure ppm => exact execRtcTrimMeasure_keeps ppm s
  | rtcFail => exact execRtcFail_keeps s
  | fuEntryExpire idx => exact execFuEntryExpire_keeps idx s
  | txtsRead r => exact execTxtsRead_keeps r s
  | timeReadLatch r => exact execTimeReadLatch_keeps r s
  | fcReadLatch r c => exact execFcReadLatch_keeps r c s
  | rtcReadLatch r => exact execRtcReadLatch_keeps r s
  | ppsEdge => exact execPpsEdge_keeps s
  | frameSyncEdge => exact execFrameSyncEdge_keeps s
  | todUartMessage => exact execTodUartMessage_keeps s
  | take n => exact execTake_keeps n s
  | itemDone n item => exact execItemDone_keeps n item s
  | yield n item => exact execYield_keeps n item s
  | portPost n item flag => exact execPortPost_keeps n item flag s
  | portCancel n item => exact execPortCancel_keeps n item s
  | causeRead n => exact execCauseRead_keeps n s
  | tskPost r v => exact execTskPost_keeps r v s
  | tskCancel r v => exact execTskCancel_keeps r v s
  | postApply => exact execPostApply_keeps s
  | itemCfgWrite r maskReg v => exact execItemCfgWrite_keeps r maskReg v s
  | tskEnable r v => exact execTskEnable_keeps r v s
  | excDescriptorWrite => exact execExcDescriptorWrite_keeps s
  | excTailWrite r v => exact execExcTailWrite_keeps r v s
  | injectPath r v => exact execInjectPath_keeps r v s
  | injectDirect r v => exact execInjectDirect_keeps r v s
  | xwinWrite r n v => exact execXwinWrite_keeps r n v s
  | eventFire page bit => exact execEventFire_keeps page bit s
  | recRead r => exact execRecRead_keeps r s
  | msixArm r hi v => exact execMsixArm_keeps r hi v s
  | evtEnable r v => exact execEvtEnable_keeps r v s
  | logPageProgram ok => exact execLogPageProgram_keeps ok s
  | logSectorErase => exact execLogSectorErase_keeps s
  | powerFailAssert => exact execPowerFailAssert_keeps s
  | powerFailFlushDone late => exact execPowerFailFlushDone_keeps late s
  | powerFailClear => exact execPowerFailClear_keeps s
  | levelWrite r v => exact execLevelWrite_keeps r v s
  | regulatorAck line => exact execRegulatorAck_keeps line s
  | pmbusAttemptTimeout line => exact execPmbusAttemptTimeout_keeps line s
  | doze r v => exact execDoze_keeps r v s
  | nap r v => exact execNap_keeps r v s
  | deep r v => exact execDeep_keeps r v s
  | wake r v => exact execWake_keeps r v s
  | leaveLimp r v => exact execLeaveLimp_keeps r v s
  | sleepEntry => exact execSleepEntry_keeps s
  | sleepWaitTimeout => exact execSleepWaitTimeout_keeps s
  | dozeAutoExit => exact execDozeAutoExit_keeps s
  | wakeSource w => exact execWakeSource_keeps w s
  | oscReadyRise => exact execOscReadyRise_keeps s
  | oscTimeout => exact execOscTimeout_keeps s
  | domainPowerGood d => exact execDomainPowerGood_keeps d s
  | domainTimeout d => exact execDomainTimeout_keeps d s
  | powerOn => exact execPowerOn_keeps s
  | powerLoss => exact execPowerLoss_keeps s
  | resetAssert => exact execResetAssert_keeps s
  | resetRelease straps => exact execResetRelease_keeps straps s
  | devRst r v => exact execDevRst_keeps r v s
  | watchdogExpire => exact execWatchdogExpire_keeps s
  | wdtKick r v => exact execWdtKick_keeps r v s
  | coreRunWrite r v => exact execCoreRunWrite_keeps r v s
  | bootStepDone o => exact execBootStepDone_keeps o s
  | flashReadTimeout => exact execFlashReadTimeout_keeps s
  | bootRetry r v => exact execBootRetry_keeps r v s
  | bootRun r v => exact execBootRun_keeps r v s
  | bistGo r v => exact execBistGo_keeps r v s
  | bistDone err addr => exact execBistDone_keeps err addr s
  | pcieLinkUp width speed d3 msixEn funcMask => exact execPcieLinkUp_keeps width speed d3 msixEn funcMask s
  | pcieLinkDown => exact execPcieLinkDown_keeps s
  | pcieHotReset => exact execPcieHotReset_keeps s
  | pcieFlr => exact execPcieFlr_keeps s
  | perstAssert => exact execPerstAssert_keeps s
  | msixUnmask r vec => exact execMsixUnmask_keeps r vec s
  | flashRead r v => exact execFlashRead_keeps r v s
  | flashProg r v => exact execFlashProg_keeps r v s
  | flashErase r v => exact execFlashErase_keeps r v s
  | flashCmdDone bad data => exact execFlashCmdDone_keeps bad data s
  | oi2cWrite r v => exact execOi2cWrite_keeps r v s
  | oi2cRead r v => exact execOi2cRead_keeps r v s
  | oi2cDone result data => exact execOi2cDone_keeps result data s
  | oi2cSclTimeout => exact execOi2cSclTimeout_keeps s
  | jtagOpen r v => exact execJtagOpen_keeps r v s
  | jtagClose r v => exact execJtagClose_keeps r v s
  | armWindowOpen c => exact execArmWindowOpen_keeps c s
  | tribRowTransmit l => exact execTribRowTransmit_keeps l s
  | entropyTestPass fab => exact execEntropyTestPass_keeps fab s
  | retCmdDone ok => exact execRetCmdDone_keeps ok s
  | memoryStepTimeout m => exact execMemoryStepTimeout_keeps m s
  | pcieL0Exit => exact execPcieL0Exit_keeps s
  | readBusError r a full => exact execReadBusError_keeps r a full s
  | sealIntact seen => exact execSealIntact_keeps seen s

/-! ### The parts of each command's meaning (O41 to O44) -/

/-- Settles O41: each clause is `exec_keeps` at its command. -/
theorem partsOfLineDieCommands : Obligations.PartsOfLineDieCommands := by
  unfold Obligations.PartsOfLineDieCommands
  repeat' apply And.intro
  all_goals
    intros
    rename_i h
    exact (exec_keeps _ _ _ h :)

/-- Settles O42: each clause is `exec_keeps` at its command. -/
theorem partsOfDataPathCommands : Obligations.PartsOfDataPathCommands := by
  unfold Obligations.PartsOfDataPathCommands
  repeat' apply And.intro
  all_goals
    intros
    rename_i h
    exact (exec_keeps _ _ _ h :)

/-- Settles O43: each clause is `exec_keeps` at its command. -/
theorem partsOfPortAndTimeCommands : Obligations.PartsOfPortAndTimeCommands := by
  unfold Obligations.PartsOfPortAndTimeCommands
  repeat' apply And.intro
  all_goals
    intros
    rename_i h
    exact (exec_keeps _ _ _ h :)

/-- Settles O44: each clause is `exec_keeps` at its command. -/
theorem partsOfSystemCommands : Obligations.PartsOfSystemCommands := by
  unfold Obligations.PartsOfSystemCommands
  repeat' apply And.intro
  all_goals
    intros
    rename_i h
    exact (exec_keeps _ _ _ h :)

/-! ### The front of the queue (O1, O6) -/

theorem step_cons {c : Instr} {cs : List Instr} {s : State} (h : s.pending = c :: cs) : step s = exec c { s with pending := cs } := by
  unfold step
  rw [h]

theorem step_nil {s : State} (h : s.pending = []) : step s = .next s.idle := by
  unfold step
  rw [h]

/-- Settles O1: `step` on a queue that is not empty. -/
theorem stepRunsFront : Obligations.StepRunsFront := by
  unfold Obligations.StepRunsFront
  exact ⟨fun _ _ => step_cons rfl, fun _ _ _ h => step_cons h⟩

/-- A part that a list does not name. -/
theorem notMem_of_contains {ps : List Part} {p : Part} (h : ps.contains p = false) : p ∉ ps := by
  simpa using h

/-- No command touches the queue. -/
theorem partsOf_contains_pending (c : Instr) : (partsOf c).contains .pending = false := by
  cases c <;> rfl

/-- Settles O6: the command's meaning starts from the queue's rest and leaves the queue alone. -/
theorem queueFifo : Obligations.QueueFifo := by
  unfold Obligations.QueueFifo
  intro c cs s t hq ht
  rw [step_cons hq] at ht
  exact exec_keeps c _ t ht .pending (notMem_of_contains (partsOf_contains_pending c))

/-! ### The memory's canonical form (O4, O5) -/

/-- The commands whose meaning can write memory. -/
def writesMemory : Instr → Bool
  | .registerWrite .. | .shelfWriteEffect | .tableSelect .. | .packetFragmentStart .. | .flowLookup .. | .flowAge .. | .flowRead ..
  | .flowWrite .. | .flowInvalidate .. | .treeDataWrite .. | .coreTreeStore .. | .bufferAllocate .. | .memoryWrite .. | .lineFill ..
  | .fillLine .. | .laneSelect .. | .portSelect .. | .excDescriptorWrite | .powerOn | .powerLoss | .bootStepDone .. | .bistDone .. => true
  | _ => false

theorem partsOf_contains_mem (c : Instr) : (partsOf c).contains .mem = writesMemory c := by
  cases c <;> rfl

/-- A command that can write memory keeps it in canonical form, by the lemma of its meaning. -/
theorem exec_safe_of_writesMemory {c : Instr} {s : State} (h : writesMemory c = true) (h0 : Safe s) : ResSafe (exec c s) := by
  cases c with
  | registerWrite r a v full => exact execRegisterWrite_safe r a v full h0
  | shelfWriteEffect => exact execShelfWriteEffect_safe h0
  | tableSelect r a v => exact execTableSelect_safe r a v h0
  | packetFragmentStart ch present => exact execPacketFragmentStart_safe ch present h0
  | flowLookup pipe ue => exact execFlowLookup_safe pipe ue h0
  | flowAge ext idx => exact execFlowAge_safe ext idx h0
  | flowRead r v ue => exact execFlowRead_safe r v ue h0
  | flowWrite r v => exact execFlowWrite_safe r v h0
  | flowInvalidate r v => exact execFlowInvalidate_safe r v h0
  | treeDataWrite r v => exact execTreeDataWrite_safe r v h0
  | coreTreeStore n node word v full => exact execCoreTreeStore_safe n node word v full h0
  | bufferAllocate pipe => exact execBufferAllocate_safe pipe h0
  | memoryWrite u pl data => exact execMemoryWrite_safe u pl data h0
  | lineFill n k a o => exact execLineFill_safe n k a o h0
  | fillLine ch => exact execFillLine_safe ch h0
  | laneSelect l =>
    dsimp only [exec]
    exact execLaneSelect_safe l h0
  | portSelect p =>
    dsimp only [exec]
    exact execPortSelect_safe p h0
  | excDescriptorWrite => exact execExcDescriptorWrite_safe h0
  | powerOn => exact execPowerOn_safe h0
  | powerLoss => exact execPowerLoss_safe h0
  | bootStepDone o => exact execBootStepDone_safe o h0
  | bistDone err addr => exact execBistDone_safe err addr h0
  | _ => exact absurd h Bool.false_ne_true

/-- The meaning of every command keeps memory in canonical form. -/
theorem exec_safe (c : Instr) {s : State} (h0 : Safe s) : ResSafe (exec c s) := by
  cases h : writesMemory c
  · exact fun t ht => Safe.keep (exec_keeps c s t ht) (notMem_of_contains ((partsOf_contains_mem c).trans h)) h0
  · exact exec_safe_of_writesMemory h h0

/-- Settles O4: memory lists no cell. -/
theorem resetSafe : Obligations.ResetSafe := by
  unfold Obligations.ResetSafe
  exact (rfl : Memory.wf [] = true)

/-- Settles O5: an idle step leaves memory alone, and every command keeps its form (`exec_safe`). -/
theorem safeKept : Obligations.SafeKept := by
  unfold Obligations.SafeKept
  intro s t h0 ht
  match hq : s.pending with
  | [] =>
    rw [step_nil hq] at ht
    cases ht
    exact Safe.keep (State.idle_keeps (List.Subset.refl _) (SameBut.refl _ s)) (by decide) h0
  | c :: cs =>
    rw [step_cons hq] at ht
    exact exec_safe c (s := { s with pending := cs }) h0 t ht

/-! ### Which commands take a next state -/

/-- The outcome is a next state. -/
def answers : Res → Bool
  | .next _ => true
  | _ => false

theorem answers_next (t : State) : answers (.next t) = true := rfl

theorem exists_next_of_answers {r : Res} (h : answers r = true) : ∃ t, r = .next t := by
  cases r with
  | next t => exact ⟨t, rfl⟩
  | fault e => cases h
  | refused e => cases h

/-- The outcome is a next state where the command is well-formed, and the fault of an ill-formed command elsewhere. -/
def Judged (ok : Bool) (r : Res) : Prop := (ok = true → answers r = true) ∧ (ok = false → r = .fault .illFormed)

theorem Judged.unchecked {r : Res} (h : answers r = true) : Judged true r := ⟨fun _ => h, fun e => absurd e (by decide)⟩

/-- A meaning that first lets the ill-formed command fault. -/
theorem Judged.refusing {ok : Bool} {c : Prop} [Decidable c] {r : Res} (hok : ok = true ↔ ¬ c) (h : answers r = true) :
    Judged ok (if c then .fault .illFormed else r) :=
  ⟨fun e => by rwa [if_neg (hok.1 e)], fun e => if_pos (by by_contra hc; rw [hok.2 hc] at e; cases e)⟩

/-- A meaning that goes on where the command is well-formed. -/
theorem Judged.admitting {ok : Bool} {c : Prop} [Decidable c] {r : Res} (hok : ok = true ↔ c) (h : answers r = true) :
    Judged ok (if c then r else .fault .illFormed) :=
  ⟨fun e => by rwa [if_pos (hok.1 e)], fun e => if_neg (fun hc => by rw [hok.2 hc] at e; cases e)⟩

theorem judged_execMemoryWrite (u : MemUser) (pl : MemPlace) (data : List Byte) (s : State) :
    Judged (Instr.memoryWrite u pl data).wellFormed (execMemoryWrite u pl data s) := by
  unfold execMemoryWrite
  refine Judged.admitting decide_eq_true_iff ?_
  repeat' first | with_reducible exact answers_next _ | split

theorem judged_execCoreTreeStore (n : Fin 8) (node : Nat) (word : Fin 4) (v : Word) (full : Bool) (s : State) :
    Judged (Instr.coreTreeStore n node word v full).wellFormed (execCoreTreeStore n node word v full s) := by
  unfold execCoreTreeStore
  refine Judged.refusing (decide_eq_true_iff.trans Nat.not_le.symm) ?_
  repeat' first | with_reducible exact answers_next _ | split

theorem judged_execUnusedPageAccess (r : Req) (rd : Bool) (a : Addr) (high : Bool) (s : State) :
    Judged (Instr.unusedPageAccess r rd a high).wellFormed (execUnusedPageAccess r rd a high s) := by
  unfold execUnusedPageAccess
  refine Judged.refusing (Iff.trans (Bool.and_eq_true _ _).to_iff ?_) ?_
  · rw [Bool.not_eq_true', decide_eq_true_iff, not_or, not_not, Bool.not_eq_true]
  repeat' first | with_reducible exact answers_next _ | split

/-- A well-formed command takes a next state and an ill-formed one faults: by the check that its meaning makes first, where it makes
one, and by the cases of the meaning. -/
theorem exec_judged (c : Instr) (s : State) : Judged c.wellFormed (exec c s) := by
  cases c
  case grant | groupDecode | preambleDetect | pcieLinkUp | trainingCountReached | lqBlock => exact Judged.refusing not_not.symm rfl
  case keyBlob | pfcReceive | laneRowCheck => exact Judged.refusing (decide_eq_true_iff.trans not_ne_iff.symm) rfl
  case syncCandidate => exact Judged.refusing (decide_eq_true_iff.trans Nat.not_le.symm) rfl
  case bootStepDone | stagedWrite | tableSelect | gateShadowWrite => exact Judged.admitting Iff.rfl rfl
  case memoryWrite u pl data => exact judged_execMemoryWrite u pl data s
  case coreTreeStore n node word v full => exact judged_execCoreTreeStore n node word v full s
  case unusedPageAccess r rd a high => exact judged_execUnusedPageAccess r rd a high s
  case prepare | prepared | apply | abort | abortDomainOff | prepTimeout | shelfWriteEffect | markerInject | markerPass | boundaryApply
      | keySwitch | parseStart | classifyWalk | recirculate | flowLookup | bufferAllocate | memoryRead | lineFill | enqueue
      | laneSelect | portSelect | police | negotiationComplete | pllReady | frameTransmitEnd | collision | phyPoll | mdioFrameDone
      | rtcTrimMeasure | powerFailAssert =>
    refine Judged.unchecked ?_
    dsimp only [exec, execPrepare, execPrepared, execApply, execAbort, execAbortDomainOff, execPrepTimeout, execShelfWriteEffect,
      execMarkerInject, execMarkerPass, execBoundaryApply, execKeySwitch, execParseStart, execClassifyWalk, execRecirculate,
      execFlowLookup, execBufferAllocate, execMemoryRead, execLineFill, execEnqueue, execLaneSelect, execPortSelect, execPolice,
      execNegotiationComplete, execPllReady, execFrameTransmitEnd, execCollision, execPhyPoll, execMdioFrameDone,
      execRtcTrimMeasure, execPowerFailAssert]
    repeat' first | with_reducible exact answers_next _ | split
  all_goals exact Judged.unchecked rfl

/-- Settles O7, by `exec_judged`. -/
theorem totality : Obligations.Totality := by
  unfold Obligations.Totality
  exact fun c s => ⟨fun h => exists_next_of_answers ((exec_judged c s).1 h), (exec_judged c s).2⟩

end Sys2Proof.Proofs.Parts
end

section
/-! PROOF. What a firing event does to raw bits, stamps and records; forced firings and firings that win over a clear (O16, O46). -/

namespace Sys2Proof.Proofs.EventFirings

open Sys2Proof Sys2Proof.Machine
set_option Elab.async false
open Sys2Proof.Laws.Delivery

variable {s t : State} {r : Req} {p b : Nat} {wins : Bool}

/-! ### The pages' sources (R566) -/

theorem evNum_le (page : BitVec 8) : evNum page.toNat ≤ 16 :=
  (by decide +kernel : ∀ q : Fin 256, evNum q.val ≤ 16) ⟨_, page.isLt⟩

/-- A register of EVT_FORCE lies in the domain of its page's EVT_RAW. -/
theorem powered_raw_of_force {page : BitVec 8} (h : Taken s r (R.HDR_EVT_FORCE page.toNat)) :
    s.powered (R.HDR_EVT_RAW page.toNat) = true := by
  have hdom : domainOf (R.HDR_EVT_FORCE page.toNat) = domainOf (R.HDR_EVT_RAW page.toNat) :=
    (by decide +kernel : ∀ p : Fin 256, domainOf (R.HDR_EVT_FORCE p.val) = domainOf (R.HDR_EVT_RAW p.val)) ⟨_, page.isLt⟩
  have hpow := (Taken_checks h).2.2
  unfold State.powered at *
  rwa [hdom] at hpow

/-- REC_LOST shares its number with no other source. -/
theorem srcNum_recLost {page : BitVec 8} (hb : b < evNum page.toNat) (h : srcNum P.EVT E.EVT_REC_LOST = srcNum page.toNat b) :
    page.toNat = P.EVT ∧ b = E.EVT_REC_LOST := by
  have hgroup : ∀ q : Fin 256, 0 < evNum q.val → groupOf P.EVT = groupOf q.val → q.val = P.EVT := by decide +kernel
  have hlt := Nat.lt_of_lt_of_le hb (evNum_le _)
  simp only [srcNum] at h
  have hE : E.EVT_REC_LOST = 0 := rfl
  exact ⟨hgroup ⟨_, page.isLt⟩ (by show 0 < evNum page.toNat; omega) (by show groupOf P.EVT = groupOf page.toNat; omega), by omega⟩

/-! ### One firing (R568, R569, R570) -/

theorem rd_setRaw_ne {k : Nat} (h : k ≠ R.HDR_EVT_RAW p) : (s.setFld ⟨R.HDR_EVT_RAW p, b, 1⟩ 1).rd k = s.rd k :=
  State.rd_setFld_ne _ _ _ h

theorem bit_setRaw_recEn : (s.setFld ⟨R.HDR_EVT_RAW p, b, 1⟩ 1).bit F.EVT_EVT_CTL_REC_EN = s.bit F.EVT_EVT_CTL_REC_EN := by
  unfold State.bit State.fld
  rw [rd_setRaw_ne (ne_of_eventReg (by decide) (eventReg_raw p))]

theorem record_stamps (s : State) (x : EvRec) : (s.record x).evt.stamps = s.evt.stamps := by
  unfold State.record
  repeat' split
  all_goals rfl

/-- The state in which the raw bit of a rise is set and its stamp taken. -/
def stamped (s : State) (p b t : Nat) : State :=
  let u := s.setFld ⟨R.HDR_EVT_RAW p, b, 1⟩ 1
  { u with evt := { u.evt with stamps := mapPut 0 u.evt.stamps (srcNum p b) t } }

/-- A rise leaves what its record leaves: the delivery that may follow touches neither stamps nor records. -/
theorem fireAt_rise (h : (wins || !(s.rd (R.HDR_EVT_RAW p)).getLsbD b) = true) (t : Nat) :
    (s.fireAt p b wins t).evt = ((stamped s p b t).record ⟨srcNum p b, linePage p, t⟩).evt ∧
      (s.fireAt p b wins t).seam = ((stamped s p b t).record ⟨srcNum p b, linePage p, t⟩).seam := by
  unfold State.fireAt
  simp only [h, if_true]
  split
  · exact ⟨rfl, rfl⟩
  · exact ⟨State.pendingRise_keeps p b (List.Subset.refl _) (SameBut.refl _ _) .evt (by decide),
      State.pendingRise_keeps p b (List.Subset.refl _) (SameBut.refl _ _) .seam (by decide)⟩

theorem fireAt_stays (h : (wins || !(s.rd (R.HDR_EVT_RAW p)).getLsbD b) = false) (t : Nat) :
    s.fireAt p b wins t = s.setFld ⟨R.HDR_EVT_RAW p, b, 1⟩ 1 := by
  unfold State.fireAt
  simp only [h, Bool.false_eq_true, if_false]

theorem fireAt_stamps (s : State) (p b : Nat) (wins : Bool) (t : Nat) : (s.fireAt p b wins t).evt.stamps =
    if (wins || !(s.rd (R.HDR_EVT_RAW p)).getLsbD b) = true then mapPut 0 s.evt.stamps (srcNum p b) t else s.evt.stamps := by
  cases h : wins || !(s.rd (R.HDR_EVT_RAW p)).getLsbD b
  · rw [fireAt_stays h, if_neg (by decide)]
    rfl
  · rw [(fireAt_rise h t).1, record_stamps, if_pos rfl]
    rfl

theorem fireAt_stamp_self (h : (wins || !(s.rd (R.HDR_EVT_RAW p)).getLsbD b) = true) (t : Nat) :
    mapGet 0 (s.fireAt p b wins t).evt.stamps (srcNum p b) = t := by
  rw [fireAt_stamps, if_pos h, mapGet_mapPut_self]

theorem fireAt_stamp_ne {n : Nat} (hn : n ≠ srcNum p b) (t : Nat) :
    mapGet 0 (s.fireAt p b wins t).evt.stamps n = mapGet 0 s.evt.stamps n := by
  rw [fireAt_stamps]
  split
  · exact mapGet_mapPut_ne _ _ _ hn
  · rfl

theorem record_ring (x : EvRec) (hrec : s.bit F.EVT_EVT_CTL_REC_EN = true) (hd : s.domOn 29 = true)
    (hl : x.line = true → s.seam.phase = .up) (hroom : s.evt.ring.length < 512) : (s.record x).evt.ring = s.evt.ring ++ [x] := by
  unfold State.record
  rw [if_neg (by simp [hrec, hd]), if_neg (fun h => h.2 (hl h.1)), if_pos hroom]

theorem record_held (x : EvRec) (hrec : s.bit F.EVT_EVT_CTL_REC_EN = true) (hd : s.domOn 29 = true) (hl : x.line = true)
    (hdown : s.seam.phase ≠ .up) (hroom : s.seam.held.length < 64) : (s.record x).seam.held = s.seam.held ++ [x] := by
  unfold State.record
  rw [if_neg (by simp [hrec, hd]), if_pos ⟨hl, hdown⟩, if_pos hroom]

/-- A raw bit after a firing with its possible REC_LOST. -/
theorem fireWith_raw_other {q c : Nat} (hb : b < 32) (h : ¬ (q = p ∧ c = b)) (hlost : ¬ (q = P.EVT ∧ c = E.EVT_REC_LOST)) (t : Nat) :
    ((s.fireWith p b wins t).rd (R.HDR_EVT_RAW q)).getLsbD c = (s.rd (R.HDR_EVT_RAW q)).getLsbD c := by
  unfold State.fireWith
  split
  · rfl
  · dsimp only
    split
    · rw [State.fireAt_raw _ _ _ _ _ _ _ (by decide), State.fireAt_raw _ _ _ _ _ _ _ hb, decide_eq_false hlost, decide_eq_false h]
      rfl
    · rw [State.fireAt_raw _ _ _ _ _ _ _ hb, decide_eq_false h]
      rfl

theorem fireWith_frame (s : State) (p b : Nat) (wins : Bool) (t : Nat) : FrameEv [] [] s (s.fireWith p b wins t) :=
  ⟨SameBut.mono (by decide) (State.fireWith_keeps p b wins t (List.Subset.refl _) (SameBut.refl _ s)),
    fun _ _ he => State.fireWith_rd s p b wins t he⟩

/-- A rise where no record is discarded is one firing and no REC_LOST. -/
theorem fireWith_eq_fireAt (hpow : s.powered (R.HDR_EVT_RAW p) = true) (hfull : s.ringFull (linePage p) = false) (t : Nat) :
    s.fireWith p b wins t = s.fireAt p b wins t := by
  unfold State.fireWith
  rw [if_neg (by simp [hpow]), hfull]
  rfl

theorem deviceTime_of_clock (h : t.clock = s.clock) (line : Bool) : t.deviceTime line = s.deviceTime line := by
  unfold State.deviceTime
  rw [h]

/-- A REC_LOST takes the time of the fabric die for its own stamp and leaves every other. -/
theorem fireAt_recLost_stamp {n D : Nat} (hn : n = srcNum P.EVT E.EVT_REC_LOST → D = s.deviceTime false)
    (h : mapGet 0 s.evt.stamps n = D) : mapGet 0 (s.fireAt P.EVT E.EVT_REC_LOST false (s.deviceTime false)).evt.stamps n = D := by
  by_cases e : n = srcNum P.EVT E.EVT_REC_LOST
  · rw [fireAt_stamps, ← e]
    split
    · rw [mapGet_mapPut_self, hn e]
    · exact h
  · rw [fireAt_stamp_ne e, h]

/-- The stamp that one firing leaves stays when a REC_LOST follows it. -/
theorem fireWith_stamp (hpow : s.powered (R.HDR_EVT_RAW p) = true) {n D t : Nat}
    (hn : n = srcNum P.EVT E.EVT_REC_LOST → D = s.deviceTime false) (h : mapGet 0 (s.fireAt p b wins t).evt.stamps n = D) :
    mapGet 0 (s.fireWith p b wins t).evt.stamps n = D := by
  unfold State.fireWith
  rw [if_neg (by simp [hpow])]
  dsimp only
  split
  · exact fireAt_recLost_stamp (fun e => (hn e).trans (deviceTime_of_clock (State.fireAt_clock _ _ _ _ _) _).symm) h
  · exact h

/-! ### The commands (R568) -/

theorem exec_eventFire {page : BitVec 8} {b : Fin 16} (hb : b.val < evNum page.toNat) (s : State) :
    exec (.eventFire page b) s = .next (s.fire page.toNat b.val) :=
  congrArg Host.Outcome.next (if_pos hb)

theorem exec_eventFire_past {page : BitVec 8} {b : Fin 16} (hb : evNum page.toNat ≤ b.val) (s : State) :
    exec (.eventFire page b) s = .next s :=
  congrArg Host.Outcome.next (if_neg (Nat.not_lt.2 hb))

/-- Source `b` of a page fires if it is one of `firing`, at the handshake of a write that clears `bits`, if that write is taken. -/
def overStep (p : Nat) (took : Bool) (bits firing : BitVec 16) (u : State) (b : Nat) : State :=
  if firing.getLsbD b then u.fireWith p b (took && bits.getLsbD b) (u.deviceTime (linePage p)) else u

theorem overStep_pwr {took : Bool} {bits firing : BitVec 16} (u : State) (b : Nat) : (overStep p took bits firing u b).pwr = u.pwr := by
  unfold overStep
  split
  · exact State.fireWith_pwr _ _ _ _ _
  · rfl

theorem overStep_clock {took : Bool} {bits firing : BitVec 16} (u : State) (b : Nat) :
    (overStep p took bits firing u b).clock = u.clock := by
  unfold overStep
  split
  · exact State.fireWith_clock _ _ _ _ _
  · rfl

/-- The sources `firing` of a page fire at that handshake. -/
def fireOver (p : Nat) (took : Bool) (bits firing : BitVec 16) (s : State) : State :=
  (List.range (evNum p)).foldl (overStep p took bits firing) s

theorem getLsbD_setWidth_word (bits : BitVec 16) (b : Nat) : (bits.setWidth 32).getLsbD b = bits.getLsbD b := by
  rw [BitVec.getLsbD_setWidth]
  by_cases hb : b < 32
  · rw [decide_eq_true hb, Bool.true_and]
  · rw [decide_eq_false hb, Bool.false_and, BitVec.getLsbD_of_ge _ _ (by omega)]

/-- A write of EVT_FORCE fires its sources, over no clear. -/
theorem exec_evtForce {page : BitVec 8} (bits : BitVec 16) (h : Taken s r (R.HDR_EVT_FORCE page.toNat)) :
    exec (.evtForce r page bits) s = .next (fireOver page.toNat false 0 bits (s.reply .done)) := by
  refine congrArg Host.Outcome.next ((Taken_access h).trans ?_)
  unfold State.opEvtForce
  simp only [getLsbD_setWidth_word]
  rfl

/-- The state after a write of EVT_RAW that is taken. -/
def cleared (s : State) (p : Nat) (bits : BitVec 16) : State := (s.reply .done).store (R.HDR_EVT_RAW p) (bits.setWidth 32)

theorem exec_evtRawClear {page : BitVec 8} (bits firing : BitVec 16) (h : Taken s r (R.HDR_EVT_RAW page.toNat)) :
    exec (.evtRawClear r page bits firing) s = .next (fireOver page.toNat true bits firing (cleared s page.toNat bits)) := by
  show execEvtRawClear r page bits firing s = _
  unfold execEvtRawClear
  dsimp only
  rw [Taken_access h]
  rfl

/-- A write of EVT_RAW clears the bits written. -/
theorem cleared_raw {page : BitVec 8} (hu : usedPage page.toNat = true) (s : State) (bits : BitVec 16) :
    (cleared s page.toNat bits).rd (R.HDR_EVT_RAW page.toNat) = s.rd (R.HDR_EVT_RAW page.toNat) &&& ~~~ (bits.setWidth 32) := by
  have hrows : fieldsAt (R.HDR_EVT_RAW page.toNat) = [⟨0x010, 1, 0x4, 0, 16, .w1c, 0, 0, 0⟩] :=
    (PageControl.fieldsAt_header_zero hu (o := 0x010) (by decide)).trans (by decide +kernel)
  have hfield : BitVec.ofNat 32 (getField (bits.setWidth 32) 0 16 * 2 ^ 0) = bits.setWidth 32 := by
    apply BitVec.eq_of_toNat_eq
    have := bits.isLt
    simp only [getField, BitVec.toNat_ofNat, BitVec.toNat_setWidth]
    omega
  unfold cleared
  rw [State.rd_store_self, hrows]
  unfold mergeWrite
  simp only [List.foldl_cons, List.foldl_nil, hfield]
  rfl

theorem not_raised_cleared {page : BitVec 8} {bits : BitVec 16} (hu : usedPage page.toNat = true)
    (hbit : bits.getLsbD b = true) : ¬ Raised (cleared s page.toNat bits) page.toNat b := by
  unfold Raised
  rw [cleared_raw hu, BitVec.getLsbD_and, BitVec.getLsbD_not, getLsbD_setWidth_word, hbit]
  simp

theorem cleared_frame (s : State) (p : Nat) (bits : BitVec 16) : Frame [.resp] [R.HDR_EVT_RAW p] s (cleared s p bits) :=
  ((Frame.refl _ _ s).reply _ (by decide)).store _ _ (by simp)

/-! ### The firings of several sources -/

theorem fireOver_frame (p : Nat) (took : Bool) (bits firing : BitVec 16) (s : State) : FrameEv [] [] s (fireOver p took bits firing s) :=
  FrameEv.foldl (fun t b => FrameEv.ite (fireWith_frame t p b _ _) (FrameEv.refl _ _ t)) _ s

/-- Of several sources of a page with power, each that fires ends raised: no firing lowers another. -/
theorem fireOver_raised {page : BitVec 8} {took : Bool} {bits firing : BitVec 16} (hpow : s.powered (R.HDR_EVT_RAW page.toNat) = true)
    (hb : b < evNum page.toNat) (hf : firing.getLsbD b = true) : Raised (fireOver page.toNat took bits firing s) page.toNat b := by
  have := evNum_le page
  refine Raised_foldl (fun u x hx hr => ?_) (fun u x => overStep_pwr u x) (.inr ⟨b, List.mem_range.2 hb, fun u hu => ?_⟩)
  · have := List.mem_range.1 hx
    unfold overStep
    split
    · exact Raised_fireWith hr _ _ _ (by omega)
    · exact hr
  · unfold overStep
    rw [if_pos hf]
    exact State.fireWith_raised _ _ (by unfold State.powered at *; rwa [hu]) (by omega)

/-- `u` has the power and the clocks of `s`. -/
def SameClocks (s u : State) : Prop := u.pwr = s.pwr ∧ u.clock = s.clock

/-- So it has when a source of `p` has taken the device time besides. -/
def StampedNow (s : State) (p b : Nat) (u : State) : Prop :=
  SameClocks s u ∧ mapGet 0 u.evt.stamps (srcNum p b) = s.deviceTime (linePage p)

theorem SameClocks.powered {u : State} {k : Nat} (h : SameClocks s u) (hpow : s.powered k = true) : u.powered k = true := by
  unfold State.powered at *
  rwa [h.1]

theorem SameClocks.overStep {u : State} {took : Bool} {bits firing : BitVec 16} (h : SameClocks s u) (x : Nat) :
    SameClocks s (EventFirings.overStep p took bits firing u x) := ⟨(overStep_pwr u x).trans h.1, (overStep_clock u x).trans h.2⟩

/-- The source REC_LOST is on the fabric die. -/
theorem deviceTime_recLost {page : BitVec 8} {u : State} (hb : b < evNum page.toNat) (h : SameClocks s u)
    (e : srcNum page.toNat b = srcNum P.EVT E.EVT_REC_LOST) : s.deviceTime (linePage page.toNat) = u.deviceTime false := by
  rw [(srcNum_recLost hb e.symm).1, deviceTime_of_clock h.2]
  rfl

/-- A firing that wins over its clear takes the device time as its stamp, whatever else fires. -/
theorem fireOver_stamp {page : BitVec 8} {bits firing : BitVec 16} (hpow : s.powered (R.HDR_EVT_RAW page.toNat) = true)
    (hb : b < evNum page.toNat) (hf : firing.getLsbD b = true) (hbit : bits.getLsbD b = true) :
    mapGet 0 (fireOver page.toNat true bits firing s).evt.stamps (srcNum page.toNat b) = s.deviceTime (linePage page.toNat) := by
  have own (u : State) (hu : SameClocks s u) : StampedNow s page.toNat b (overStep page.toNat true bits firing u b) := by
    refine ⟨hu.overStep b, ?_⟩
    unfold overStep
    rw [if_pos hf, hbit]
    exact fireWith_stamp (hu.powered hpow) (deviceTime_recLost hb hu) ((fireAt_stamp_self rfl _).trans (deviceTime_of_clock hu.2 _))
  have other (u : State) (x : Nat) (hx : x ≠ b) (hu : StampedNow s page.toNat b u) :
      StampedNow s page.toNat b (overStep page.toNat true bits firing u x) := by
    refine ⟨hu.1.overStep x, ?_⟩
    unfold overStep
    split
    · exact fireWith_stamp (hu.1.powered hpow) (deviceTime_recLost hb hu.1)
        ((fireAt_stamp_ne (by unfold srcNum; omega) _).trans hu.2)
    · exact hu.2
  exact (foldl_reaches _ (SameClocks s) (StampedNow s page.toNat b) _ b (List.mem_range.2 hb) (fun u x hu => hu.overStep x)
    (fun u x hu => if hx : x = b then hx ▸ own u hu.1 else other u x hx hu) own s ⟨rfl, rfl⟩).2

/-- A fold over a page's sources that acts on one of them only. -/
theorem foldl_range_single {g : State → Nat → State} {n : Nat} (hb : b < n) (hg : ∀ u x, x ≠ b → g u x = u) (s : State) :
    (List.range n).foldl g s = g s b := by
  induction n with
  | zero => omega
  | succ n ih =>
    rw [List.range_succ, List.foldl_append, List.foldl_cons, List.foldl_nil]
    by_cases h : n = b
    · subst h
      have hid : ∀ l : List Nat, (∀ x ∈ l, x ≠ n) → l.foldl g s = s := by
        intro l
        induction l with
        | nil => exact fun _ => rfl
        | cons a l ih =>
          intro hl
          rw [List.foldl_cons, hg _ _ (hl a (by simp)), ih (fun x hx => hl x (List.mem_cons_of_mem _ hx))]
      rw [hid _ (fun x hx => Nat.ne_of_lt (List.mem_range.1 hx))]
    · rw [hg _ _ h, ih (by omega)]

theorem getLsbD_single (hb : b < 16) (x : Nat) : (1#16 <<< b).getLsbD x = decide (x = b) := by
  rw [BitVec.getLsbD_shiftLeft, BitVec.getLsbD_one]
  by_cases h : x = b
  · subst h
    simp [hb]
  · rw [decide_eq_false h]
    by_cases hlt : x < b
    · simp [hlt]
    · simp [show x - b ≠ 0 by omega]

/-- Where one source fires, nothing else happens. -/
theorem fireOver_one {page : BitVec 8} (hb : b < evNum page.toNat) (took : Bool) (bits : BitVec 16) (s : State) :
    fireOver page.toNat took bits (1#16 <<< b) s =
      s.fireWith page.toNat b (took && bits.getLsbD b) (s.deviceTime (linePage page.toNat)) := by
  have hlt := Nat.lt_of_lt_of_le hb (evNum_le page)
  unfold fireOver overStep
  rw [foldl_range_single hb (fun u x hx => by rw [getLsbD_single hlt, if_neg (by simpa using hx)]), getLsbD_single hlt, if_pos (by simp)]

/-- With its bit cleared, a source that wins over its clear does what it does alone. -/
theorem fireOver_single {page : BitVec 8} {bits : BitVec 16} (hb : b < evNum page.toNat) (hbit : bits.getLsbD b = true)
    (hclear : ¬ Raised s page.toNat b) : fireOver page.toNat true bits (1#16 <<< b) s = s.fire page.toNat b := by
  have hraw : (s.rd (R.HDR_EVT_RAW page.toNat)).getLsbD b = false := by simpa [Raised] using hclear
  rw [fireOver_one hb]
  unfold State.fire State.fireWith State.fireAt
  simp only [hbit, hraw, Bool.and_self, Bool.not_false, Bool.or_true]

/-! ### The record of a rise (R570, R572) -/

section

variable (hrec : s.bit F.EVT_EVT_CTL_REC_EN = true) (hd : s.domOn 29 = true)
include hrec hd

/-- A rise with records enabled and room in the ring adds its record at the ring's end. -/
theorem fire_ring (hpow : s.powered (R.HDR_EVT_RAW p) = true) (hclear : ¬ Raised s p b) (hl : linePage p = true → s.seam.phase = .up)
    (hroom : s.evt.ring.length < 512) : mapGet 0 (s.fire p b).evt.stamps (srcNum p b) = s.deviceTime (linePage p) ∧
      (s.fire p b).evt.ring = s.evt.ring ++ [⟨srcNum p b, linePage p, s.deviceTime (linePage p)⟩] := by
  have hrise : (false || !(s.rd (R.HDR_EVT_RAW p)).getLsbD b) = true := by simpa [Raised] using hclear
  have hfull : s.ringFull (linePage p) = false := by
    unfold State.ringFull
    rw [decide_eq_false (Nat.not_le.2 hroom), Bool.and_false]
  unfold State.fire
  rw [fireWith_eq_fireAt hpow hfull]
  refine ⟨fireAt_stamp_self hrise _, ?_⟩
  rw [(fireAt_rise hrise _).1]
  exact record_ring (s := stamped s p b _) _ (bit_setRaw_recEn.trans hrec) hd hl hroom

/-- While the Seam is not up, a line-die rise with records enabled is held. -/
theorem fire_held (hpow : s.powered (R.HDR_EVT_RAW p) = true) (hclear : ¬ Raised s p b) (hl : linePage p = true)
    (hdown : s.seam.phase ≠ .up) (hroom : s.seam.held.length < 64) :
    (s.fire p b).seam.held = s.seam.held ++ [⟨srcNum p b, true, s.deviceTime true⟩] := by
  have hrise : (false || !(s.rd (R.HDR_EVT_RAW p)).getLsbD b) = true := by simpa [Raised] using hclear
  have hfull : s.ringFull (linePage p) = false := by
    unfold State.ringFull
    rw [hl, decide_eq_true hdown]
    simp
  unfold State.fire
  rw [fireWith_eq_fireAt hpow hfull, (fireAt_rise hrise _).2]
  refine (record_held (s := stamped s p b _) _ (bit_setRaw_recEn.trans hrec) hd hl hdown hroom).trans ?_
  rw [hl]
  rfl

end

theorem bit_cleared_recEn (s : State) (p : Nat) (bits : BitVec 16) :
    (cleared s p bits).bit F.EVT_EVT_CTL_REC_EN = s.bit F.EVT_EVT_CTL_REC_EN := by
  unfold State.bit State.fld
  rw [(cleared_frame s p bits).2 _ (by simpa using ne_of_eventReg (by decide) (eventReg_raw p))]

theorem powered_of_raw {page : BitVec 8} (h : Taken s r (R.HDR_EVT_RAW page.toNat)) : s.powered (R.HDR_EVT_RAW page.toNat) = true :=
  (Taken_checks h).2.2

theorem powered_cleared {page : BitVec 8} (h : Taken s r (R.HDR_EVT_RAW page.toNat)) (bits : BitVec 16) :
    (cleared s page.toNat bits).powered (R.HDR_EVT_RAW page.toNat) = true := (powered_of_raw h :)

theorem fireOver_none (p : Nat) (took : Bool) (bits : BitVec 16) (s : State) : fireOver p took bits 0 s = s :=
  foldl_keeps _ (· = s) (fun u x hu => (if_neg (by simp)).trans hu) _ _ rfl

/-- A clear at which nothing fires. -/
theorem exec_evtRawClear_none {page : BitVec 8} (bits : BitVec 16) (h : Taken s r (R.HDR_EVT_RAW page.toNat)) :
    exec (.evtRawClear r page bits 0) s = .next (cleared s page.toNat bits) := by
  rw [exec_evtRawClear bits 0 h, fireOver_none]

/-- Settles O16: one firing, its record, and the writes of EVT_FORCE and EVT_RAW as folds of firings. -/
theorem eventFiring : Obligations.EventFiring := by
  unfold Obligations.EventFiring
  refine ⟨fun page b s hb hpow => ?fires, fun page b s hb hpow hclear hrec hd hl hroom => ?records, fun page b s hb => exec_eventFire_past hb s,
    fun r page bits s h => ?force, fun r page bits s h => ?clear, fun r page bits firing b s hb hf hpow => ?wins⟩
  case fires =>
    exact ⟨_, exec_eventFire hb s, FrameEv.fire _ _ _ _ _, State.fire_raised hpow (by omega),
      fun q c hne hlost => fireWith_raw_other (by omega) hne hlost _⟩
  case records => exact ⟨_, exec_eventFire hb s, fire_ring hrec hd hpow hclear hl hroom⟩
  case force =>
    exact ⟨_, exec_evtForce bits h, ((FrameEv.refl _ _ s).reply _ (by decide)).trans ((fireOver_frame _ _ _ _ _).mono (by simp) (List.Subset.refl _)),
      (fireOver_frame _ _ _ _ _).1 .resp (by decide), fun b hb hbit => fireOver_raised (powered_raw_of_force h) hb hbit⟩
  case clear =>
    exact ⟨_, exec_evtRawClear_none bits h, cleared_frame s _ bits, rfl,
      cleared_raw (PageControl.usedPage_of_taken (by decide) h) s bits⟩
  case wins =>
    refine ⟨_, rfl, fireOver_raised (took := _) (bits := bits) ?_ hb hf⟩
    unfold State.powered at *
    rwa [State.access_keeps _ _ _ _ (List.Subset.refl _) (fun _ h1 => State.store_keeps _ _ (by decide) h1) (SameBut.refl _ s) .pwr (by decide)]

/-- Settles O46: a firing at the handshake of a clear is a rise, and with its bit cleared it is the firing alone. -/
theorem firingWins : Obligations.FiringWins := by
  unfold Obligations.FiringWins
  refine ⟨fun page b s hb hpow => ⟨_, exec_eventFire hb s, State.fire_raised hpow (by omega)⟩,
    fun r page bits firing b s h hb hbit hf => ?stamped, fun r page bits b s h hb hbit => ?alone,
    fun r page bits s h => ⟨exec_evtForce bits h, fun b u hb => exec_eventFire hb u⟩,
    fun r page b s h hb => by rw [exec_evtForce _ h, fireOver_one hb, exec_eventFire hb]; rfl⟩
  case stamped =>
    exact ⟨_, exec_evtRawClear bits firing h,
      ⟨SameBut.trans (SameBut.mono (by decide) (cleared_frame s page.toNat bits).1)
        (SameBut.mono (by decide) (fireOver_frame page.toNat true bits firing (cleared s page.toNat bits)).1),
        fun k hk he => ((fireOver_frame _ _ _ _ _).2 k hk he).trans
          ((cleared_frame s page.toNat bits).2 k (by simpa using ne_of_eventReg he (eventReg_raw _)))⟩,
      (fireOver_frame _ _ _ _ _).1 .resp (by decide), fireOver_raised (powered_cleared h bits) hb hf, fireOver_stamp (powered_cleared h bits) hb hf hbit⟩
  case alone =>
    have hclear : ¬ Raised (cleared s page.toNat bits) page.toNat b.val :=
      not_raised_cleared (PageControl.usedPage_of_taken (by decide) h) hbit
    exact ⟨_, _, exec_evtRawClear_none bits h, hclear,
      (exec_evtRawClear bits _ h).trans (congrArg _ (fireOver_single hb hbit hclear)), exec_eventFire hb _,
      fun hrec hd hl hroom => (fire_ring (s := cleared s page.toNat bits) ((bit_cleared_recEn _ _ _).trans hrec) hd
        (powered_cleared h bits) hclear hl hroom).2,
      fun hrec hd hl hdown hroom => fire_held (s := cleared s page.toNat bits) ((bit_cleared_recEn _ _ _).trans hrec) hd
        (powered_cleared h bits) hclear hl hdown hroom⟩

end Sys2Proof.Proofs.EventFirings
end

section
/-! PROOF. Work items: what a core takes and gives up, what enters and leaves the post queue, how items are configured and the dispatcher
switched on (O48, O50, O51). -/

namespace Sys2Proof.Proofs.WorkItems

open Sys2Proof Sys2Proof.Machine
set_option Elab.async false
open Sys2Proof.Laws.Items

variable {s : State} {r : Req} {n : Fin 8} {i : Nat} {v : Word}

/-! ### A core's port (R556) -/

/-- An access of a core that runs to its port. -/
theorem port_reached (h : s.reaches (.core n) = true) (f : State → State) : s.port n f = f s := if_pos h

section

variable (h : s.reaches (.core n) = true)
include h

theorem exec_take : exec (.take n) s = .next (s.takeItem n) := congrArg Host.Outcome.next (port_reached h _)

theorem exec_itemDone (item : BitVec 12) : exec (.itemDone n item) s = .next (s.giveUp n item.toNat false) :=
  congrArg Host.Outcome.next (port_reached h _)

theorem exec_yield (item : BitVec 12) : exec (.yield n item) s = .next (s.giveUp n item.toNat true) :=
  congrArg Host.Outcome.next (port_reached h _)

theorem exec_causeRead : exec (.causeRead n) s = .next (s.causeOf n) := congrArg Host.Outcome.next (port_reached h _)

theorem exec_portPost (item : BitVec 12) (flag : BitVec 5) :
    exec (.portPost n item flag) s = .next ((s.reply .done).enqueuePost ⟨item, flag, none, some (.core n), false⟩) :=
  congrArg Host.Outcome.next (port_reached h _)

theorem exec_portCancel (item : BitVec 12) : exec (.portCancel n item) s = .next ((s.reply .done).cancelBy (.core n) item.toNat) :=
  congrArg Host.Outcome.next (port_reached h _)

end

/-! ### DONE and YIELD (R550, R551) -/

theorem setItem_self (s : State) (i : Nat) (x : Item) : (s.setItem i x).item i = x := by rw [setItem_item, if_pos rfl]

theorem makeReady_item (s : State) (i : Nat) (x : Item) (y : Bool) : (s.makeReady i x y).item i = { x with st := .ready } := by
  unfold State.makeReady
  dsimp only
  rw [(Announced.announce _ i y).item, setLevel_item, setItem_self]

theorem makeReady_holds (s : State) (i : Nat) (x : Item) (y : Bool) (m : Fin 8) :
    (s.makeReady i x y).tsk.ports[m].holds = s.tsk.ports[m].holds := by
  unfold State.makeReady
  exact (Announced.announce _ i y).holds m

/-- The item that a core gave up. -/
def givenUp (s : State) (i : Nat) (byYield : Bool) : Item :=
  let x := s.item i
  if x.offAtEnd then {}
  else if x.cancelled then { x with st := .waiting, consumed := 0, cancelled := false }
  else if byYield then { x with st := .ready, flags := x.flags ||| x.consumed, consumed := 0 }
  else { x with st := if s.condition i x.flags then .ready else .waiting, consumed := 0 }

/-- The core holds the item no more. -/
def dropItem (s : State) (n : Fin 8) (i : Nat) : State :=
  s.setCorePort n { s.tsk.ports[n] with holds := s.tsk.ports[n].holds.filter (fun j => decide (j ≠ i)) }

theorem dropItem_holds (s : State) (n : Fin 8) (i : Nat) :
    (dropItem s n i).tsk.ports[n].holds = s.tsk.ports[n].holds.filter (fun j => decide (j ≠ i)) := by
  unfold dropItem
  rw [setCorePort_ports, if_pos rfl]

theorem finish_spec (s : State) (n : Fin 8) (i : Nat) (byYield : Bool) : (s.finish n i byYield).item i = givenUp s i byYield ∧
    (s.finish n i byYield).tsk.ports[n].holds = s.tsk.ports[n].holds.filter (fun j => decide (j ≠ i)) := by
  have stays (x : Item) : ((dropItem s n i).setItem i x).item i = x ∧
      ((dropItem s n i).setItem i x).tsk.ports[n].holds = s.tsk.ports[n].holds.filter (fun j => decide (j ≠ i)) :=
    ⟨setItem_self _ _ _, dropItem_holds s n i⟩
  have lists (x : Item) (y : Bool) : ((dropItem s n i).makeReady i x y).item i = { x with st := .ready } ∧
      ((dropItem s n i).makeReady i x y).tsk.ports[n].holds = s.tsk.ports[n].holds.filter (fun j => decide (j ≠ i)) :=
    ⟨makeReady_item _ _ _ _, (makeReady_holds _ _ _ _ _).trans (dropItem_holds s n i)⟩
  unfold State.finish givenUp
  dsimp only
  by_cases hoff : (s.item i).offAtEnd = true
  · rw [if_pos hoff, if_pos hoff]
    exact stays _
  · rw [if_neg hoff, if_neg hoff]
    by_cases hcancel : (s.item i).cancelled = true
    · rw [if_pos hcancel, if_pos hcancel]
      exact stays _
    · rw [if_neg hcancel, if_neg hcancel]
      cases byYield with
      | true => exact lists _ true
      | false =>
        rw [if_neg Bool.false_ne_true, if_neg Bool.false_ne_true]
        by_cases hc : s.condition i (s.item i).flags = true
        · rw [if_pos hc, if_pos hc]
          exact lists _ false
        · rw [if_neg hc, if_neg hc]
          exact stays _

/-- DONE or YIELD of an item that the core runs. -/
theorem giveUp_held (hrun : (s.item i).st = .running n) (byYield : Bool) :
    s.giveUp n i byYield = (s.finish n i byYield).reply .done := if_pos hrun

/-- DONE or YIELD of an item that the core does not run. -/
theorem giveUp_fault (hrun : (s.item i).st ≠ .running n) (byYield : Bool) :
    s.giveUp n i byYield = s.coreFault n 7 (if byYield then 0x70000010 else 0x7000000C) := if_neg hrun

theorem finish_done_frame (s : State) (n : Fin 8) (i : Nat) (byYield : Bool) :
    SameBut [.tsk, .resp] s ((s.finish n i byYield).reply .done) :=
  State.reply_keeps _ (by decide) (State.finish_keeps n i byYield (by decide) (SameBut.refl _ s))

/-- Settles O48: an access fault of the core's port where the item is not its own, `finish` where it is. -/
theorem itemNotHeld : Obligations.ItemNotHeld := by
  unfold Obligations.ItemNotHeld
  refine ⟨fun n item s h hrun c hc => ?fault, fun n item s h hrun => ?done, fun n item s h hrun => ?yield⟩
  case fault =>
    have answer (byYield : Bool) (hexec : exec c s = .next (s.giveUp n item.toNat byYield)) : ∃ (t : State) (c' m : Nat),
        exec c s = .next t ∧ SameBut [.tsk, .resp] s t ∧ t.resp = .accessFault ∧
          t.tsk = { s.tsk with ports := s.tsk.ports.set n { s.tsk.ports[n] with lastCause := c', lastMtval := m } } := by
      rw [giveUp_fault hrun] at hexec
      exact ⟨_, _, _, hexec, State.coreFault_keeps _ _ _ (List.Subset.refl _) (SameBut.refl _ s), rfl, rfl⟩
    rcases List.mem_pair.1 hc with rfl | rfl
    · exact answer false (exec_itemDone h item)
    · exact answer true (exec_yield h item)
  case done =>
    have hfin := finish_spec s n item.toNat false
    exact ⟨_, (exec_itemDone h item).trans (congrArg _ (giveUp_held hrun false)), finish_done_frame s n _ false, rfl, hfin.2, hfin.1⟩
  case yield =>
    have hfin := finish_spec s n item.toNat true
    exact ⟨_, (exec_yield h item).trans (congrArg _ (giveUp_held hrun true)), finish_done_frame s n _ true, rfl, hfin.2, hfin.1⟩

/-! ### TAKE, CAUSE, posts and cancels (R552 to R555, R558) -/

theorem takeItem_none (h : s.bit F.TSK_TSK_CTL_EN = false ∨ ∀ p i : Nat, p < 32 → i ∈ s.level p → s.inCores i n = false) :
    s.takeItem n = s.reply (.data 0x80000000) := by
  have hnone : (if s.bit F.TSK_TSK_CTL_EN then s.nextItem n else none) = none := by
    rcases h with h | h
    · rw [h, if_neg (by decide)]
    · rw [nextItem_none h, ite_self]
  unfold State.takeItem
  rw [hnone]

/-- An item that core `n` takes: the flags of its mask are consumed. -/
def takenItem (s : State) (n : Fin 8) (i : Nat) : Item :=
  { s.item i with st := .running n, consumed := (s.item i).flags &&& s.rd (R.TSK_ITEM_MASK i),
                  flags := (s.item i).flags &&& ~~~ s.rd (R.TSK_ITEM_MASK i) }

/-- The port of a core that takes item `i`. -/
def takingPort (s : State) (n : Fin 8) (i : Nat) : Port :=
  { s.tsk.ports[n] with holds := i :: s.tsk.ports[n].holds, flags := (s.item i).flags &&& s.rd (R.TSK_ITEM_MASK i),
                        arg := s.rd (R.TSK_ITEM_ARG i) }

/-- Core `n` takes item `i`. -/
def withTaken (s : State) (n : Fin 8) (i : Nat) : State := ((s.unlist i).setItem i (takenItem s n i)).setCorePort n (takingPort s n i)

theorem withTaken_item (s : State) (n : Fin 8) (i j : Nat) : (withTaken s n i).item j = if j = i then takenItem s n i else s.item j := by
  have hport (u : State) (p : Port) : (u.setCorePort n p).item j = u.item j := rfl
  have hlist : (s.unlist i).item j = s.item j := rfl
  unfold withTaken
  rw [hport, setItem_item, hlist]

theorem withTaken_level (s : State) (n : Fin 8) (i : Nat) :
    (withTaken s n i).level (s.prio i) = (s.level (s.prio i)).filter (fun j => decide (j ≠ i)) := by
  have hlists : (withTaken s n i).level (s.prio i) = (s.unlist i).level (s.prio i) := rfl
  rw [hlists]
  unfold State.unlist
  rw [setLevel_level, if_pos rfl]

theorem withTaken_port (s : State) (n : Fin 8) (i : Nat) : (withTaken s n i).tsk.ports[n] = takingPort s n i := by
  unfold withTaken
  rw [setCorePort_ports, if_pos rfl]

theorem withTaken_frame (s : State) (n : Fin 8) (i : Nat) : SameBut [.tsk] s (withTaken s n i) :=
  State.setCorePort_keeps _ _ (by decide) (State.setItem_keeps _ _ (by decide) (State.unlist_keeps _ (by decide) (SameBut.refl _ s)))

theorem exec_tskPost (h : Taken s r R.TSK_POST) : exec (.tskPost r v) s =
    .next ((s.reply .done).enqueuePost ⟨v.extractLsb' 0 12, v.extractLsb' 16 5, none, some r, false⟩) := by
  refine (congrArg Host.Outcome.next (Taken_access h)).trans ?_
  unfold State.opPost
  rw [getField_item, getField_flag]

theorem exec_tskCancel (h : Taken s r R.TSK_CANCEL) :
    exec (.tskCancel r v) s = .next ((s.reply .done).cancelBy r (v.extractLsb' 0 12).toNat) := by
  refine (congrArg Host.Outcome.next (Taken_access h)).trans ?_
  have hitem : getField v 0 12 = (v.extractLsb' 0 12).toNat := by
    rw [← getField_item, BitVec.toNat_ofNat]
    exact (Nat.mod_eq_of_lt (Nat.mod_lt _ (by decide))).symm
  rw [hitem]

/-- `c` is a cancel of `item` by `r`, through TSK.CANCEL or the port of a core, that is taken. -/
def CancelTaken (s : State) (r : Req) (c : Instr) (item : BitVec 12) : Prop :=
  (∃ v : Word, c = .tskCancel r v ∧ v.extractLsb' 0 12 = item ∧ Taken s r R.TSK_CANCEL) ∨
    ∃ n : Fin 8, r = .core n ∧ c = .portCancel n item ∧ s.reaches r = true

theorem CancelTaken.exec {c : Instr} {item : BitVec 12} (h : CancelTaken s r c item) :
    exec c s = .next ((s.reply .done).cancelBy r item.toNat) := by
  rcases h with ⟨v, rfl, rfl, ht⟩ | ⟨n, rfl, rfl, hr⟩
  · exact exec_tskCancel ht
  · exact exec_portCancel hr item

theorem cancelBy_frame (s : State) (r : Req) (i : Nat) : SameBut [.tsk, .resp] s ((s.reply .done).cancelBy r i) :=
  State.cancelBy_keeps r i (by decide) (State.reply_keeps _ (by decide) (SameBut.refl _ s))

theorem cancelBy_resp (s : State) (r : Req) (i : Nat) : ((s.reply .done).cancelBy r i).resp = .done :=
  State.cancelBy_keeps r i (List.Subset.refl _) (SameBut.refl _ _) .resp (by decide)

/-- With no post of its requester outstanding, a cancel takes effect at once. -/
theorem cancelBy_now (h : ∀ p ∈ s.tsk.queue ++ s.tsk.stalled, p.req ≠ some r) (i : Nat) : s.cancelBy r i = s.cancelItem i := by
  have hnone {l : List Post} (hl : ∀ p ∈ l, p.req ≠ some r) : l.any (fun p => decide (p.req = some r)) = false := by
    simpa using hl
  unfold State.cancelBy
  dsimp only
  rw [hnone (fun p hp => h p (List.mem_append_right _ hp)), if_neg (by decide),
    hnone (fun p hp => h p (List.mem_append_left _ hp)), if_neg (by decide)]

/-- With a post of its requester outstanding, a cancel joins it where it waits. -/
theorem cancelBy_waits (h : ∃ p ∈ s.tsk.queue ++ s.tsk.stalled, p.req = some r) (item : BitVec 12) :
    (s.cancelBy r item.toNat).tsk.items = s.tsk.items ∧ (s.cancelBy r item.toNat).tsk.lists = s.tsk.lists ∧
      (s.cancelBy r item.toNat).tsk.ports = s.tsk.ports ∧
      (⟨item, 0, none, some r, true⟩ : Post) ∈ (s.cancelBy r item.toNat).tsk.queue ++ (s.cancelBy r item.toNat).tsk.stalled ∧
      (s.cancelBy r item.toNat).tsk.queue.length + (s.cancelBy r item.toNat).tsk.stalled.length =
        s.tsk.queue.length + s.tsk.stalled.length + 1 := by
  have hitem : BitVec.ofNat 12 item.toNat = item := BitVec.ofNat_toNat 12 item |>.trans (by simp)
  unfold State.cancelBy
  dsimp only
  rw [hitem]
  split
  · refine ⟨rfl, rfl, rfl, List.mem_append_right _ (placeCancel_mem _ _ _).1, ?_⟩
    show s.tsk.queue.length + (placeCancel _ _ _).length = _
    rw [(placeCancel_mem _ _ _).2]
    omega
  · next hstalled =>
    have hqueue : s.tsk.queue.any (fun p => decide (p.req = some r)) = true := by
      obtain ⟨p, hp, hreq⟩ := h
      rcases List.mem_append.1 hp with hp | hp
      · exact List.any_eq_true.2 ⟨p, hp, decide_eq_true hreq⟩
      · exact absurd (List.any_eq_true.2 ⟨p, hp, decide_eq_true hreq⟩) hstalled
    rw [if_pos hqueue]
    refine ⟨rfl, rfl, rfl, List.mem_append_left _ (placeCancel_mem _ _ _).1, ?_⟩
    show (placeCancel _ _ _).length + s.tsk.stalled.length = _
    rw [(placeCancel_mem _ _ _).2]
    omega

/-- Where a post goes. -/
theorem enqueuePost_spec (s : State) (p : Post) :
    ((s.tsk.queue.filter (fun x => !x.cancel)).length < 256 → s.tsk.stalled = [] →
      (s.enqueuePost p).tsk = { s.tsk with queue := s.tsk.queue ++ [p] }) ∧
    (256 ≤ (s.tsk.queue.filter (fun x => !x.cancel)).length ∨ s.tsk.stalled ≠ [] →
      (s.enqueuePost p).tsk = { s.tsk with stalled := s.tsk.stalled ++ [p] }) := by
  unfold State.enqueuePost
  refine ⟨fun hroom hnone => by rw [if_pos ⟨hroom, hnone⟩], fun hfull => ?_⟩
  rw [if_neg]
  rintro ⟨hroom, hnone⟩
  rcases hfull with h | h
  · omega
  · exact h hnone

theorem enqueuePost_frame (s : State) (p : Post) : SameBut [.tsk, .resp] s ((s.reply .done).enqueuePost p) :=
  State.enqueuePost_keeps p (by decide) (State.reply_keeps _ (by decide) (SameBut.refl _ s))

theorem enqueuePost_resp (s : State) (p : Post) : ((s.reply .done).enqueuePost p).resp = .done :=
  State.enqueuePost_keeps p (List.Subset.refl _) (SameBut.refl _ _) .resp (by decide)

/-- Settles O50: `nextItem` for TAKE, `enqueuePost` for posts, `cancelBy` for cancels. -/
theorem portsAndPosts : Obligations.PortsAndPosts := by
  unfold Obligations.PortsAndPosts
  refine ⟨fun n s h hnone => by rw [exec_take h, takeItem_none hnone], fun n p i before after s h hen hp hbelow hl hbefore hi => ?takes,
    fun n s h => ?cause, fun n item flag s h => ?portPost, fun r v s h => ?tskPost, fun r c item s hfree hc => ?cancelNow,
    fun r c item s hc hout => ?cancelWaits⟩
  case takes =>
    have hexec : exec (.take n) s = .next ((withTaken s n i).reply (.data (BitVec.ofNat 32 i))) :=
      (exec_take h).trans (congrArg _ (take_eq hen (nextItem_some hp hbelow hl hbefore hi)))
    exact ⟨_, hexec, State.reply_keeps _ (by decide) (SameBut.mono (by decide) (withTaken_frame s n i)), rfl,
      (withTaken_item s n i i).trans (if_pos rfl), fun j hj => (withTaken_item s n i j).trans (if_neg hj), withTaken_level s n i, withTaken_port s n i⟩
  case cause => exact ⟨_, exec_causeRead h, State.causeOf_keeps n (List.Subset.refl _) (SameBut.refl _ s), rfl, rfl⟩
  case portPost =>
    exact ⟨_, exec_portPost h item flag, enqueuePost_frame s _, enqueuePost_resp s _, enqueuePost_spec (s.reply .done) _⟩
  case tskPost => exact ⟨_, exec_tskPost h, enqueuePost_frame s _, enqueuePost_resp s _, enqueuePost_spec (s.reply .done) _⟩
  case cancelNow =>
    refine ⟨_, CancelTaken.exec hc, cancelBy_frame s r _, cancelBy_resp s r _, ?_⟩
    rw [cancelBy_now (s := s.reply .done) hfree]
    exact cancelItem_spec (s.reply .done) item.toNat
  case cancelWaits =>
    exact ⟨_, CancelTaken.exec hc, cancelBy_frame s r _, cancelBy_resp s r _, cancelBy_waits (s := s.reply .done) hout item⟩

/-! ### A post is applied (R550, R552) -/

/-- Settles the application of the oldest post: its flag is set, the queue moves up and a stalled post enters. -/
theorem postApply_moves {p : Post} {q : List Post} (hq : s.tsk.queue = p :: q) (hhead : ∀ c ∈ q.head?, c.cancel = false)
    (hnext : ∀ c ∈ (s.tsk.stalled.drop 1).head?, c.cancel = false) :
    exec .postApply s = .next ((s.postFlag p.item.toNat p.flag.toNat).setTsk (fun t =>
      { t with queue := q ++ s.tsk.stalled.take 1, stalled := s.tsk.stalled.drop 1 })) :=
  congrArg Host.Outcome.next (postApply_eq s p q hq hhead hnext)

theorem exec_postApply_empty (h : s.tsk.queue = []) : exec .postApply s = .next s := by
  refine congrArg Host.Outcome.next ?_
  unfold State.applyPost
  rw [h]

/-! ### The registers of an item (R565) -/

theorem exec_itemMask (h : Taken s r (R.TSK_ITEM_MASK (s.fld (F.TSK_ITEM_SEL_ITEM (reqNum r))))) :
    exec (.itemCfgWrite r true v) s = .next ((s.reply .done).opItemMask r v) :=
  congrArg Host.Outcome.next ((if_pos rfl).trans (Taken_access h))

theorem exec_itemCfg (h : Taken s r (R.TSK_ITEM_CFG (s.fld (F.TSK_ITEM_SEL_ITEM (reqNum r))))) :
    exec (.itemCfgWrite r false v) s = .next ((s.reply .done).opItemCfg r v) :=
  congrArg Host.Outcome.next ((if_neg Bool.false_ne_true).trans (Taken_access h))

/-- ITEM_CFG takes what is written; EN set or cleared moves the item. -/
def configured (s : State) (i : Nat) (v : Word) : State :=
  let u := s.store (R.TSK_ITEM_CFG i) v
  if v.getLsbD 15 = true ∧ ¬ s.bit (F.TSK_ITEM_CFG_EN i) = true then u.itemOn i
  else if s.bit (F.TSK_ITEM_CFG_EN i) = true ∧ ¬ v.getLsbD 15 = true then u.itemOff i
  else u

/-- A write of ITEM_CFG moves the priority, the mode or the core set of item `i`. -/
def CfgMoves (s : State) (i : Nat) (v : Word) : Prop :=
  s.fld (F.TSK_ITEM_CFG_PRIO i) ≠ getField v 0 5 ∨ s.fld (F.TSK_ITEM_CFG_MODE i) ≠ getField v 8 1 ∨
    s.fld (F.TSK_ITEM_CFG_CORES i) ≠ getField v 16 8

theorem opItemCfg_refused (hi : i = s.fld (F.TSK_ITEM_SEL_ITEM (reqNum r))) (hen : s.bit (F.TSK_ITEM_CFG_EN i) = true)
    (hm : CfgMoves s i v) : s.opItemCfg r v = s.refuse r (R.TSK_ITEM_CFG i) := by
  subst hi
  unfold State.opItemCfg
  simp only [decide_eq_true_eq]
  exact if_pos ⟨hen, hm⟩

theorem opItemCfg_stores (hi : i = s.fld (F.TSK_ITEM_SEL_ITEM (reqNum r))) (h : s.bit (F.TSK_ITEM_CFG_EN i) = true → ¬ CfgMoves s i v) :
    s.opItemCfg r v = configured s i v := by
  subst hi
  have hnow := State.bit_store_plain s (F.TSK_ITEM_CFG_EN (s.fld (F.TSK_ITEM_SEL_ITEM (reqNum r)))) v (itemCfg_plain _).2.2.2.1 rfl
  unfold State.opItemCfg configured
  simp only [decide_eq_true_eq]
  rw [if_neg (fun hm => h hm.1 hm.2), hnow]

/-- The item after a write of its EN. -/
theorem configured_spec (s : State) (i : Nat) (v : Word) :
    SameBut [.tsk] (s.store (R.TSK_ITEM_CFG i) v) (configured s i v) ∧ (∀ j : Nat, j ≠ i → (configured s i v).item j = s.item j) ∧
      (configured s i v).tsk.ports = s.tsk.ports ∧ (s.bit (F.TSK_ITEM_CFG_EN i) = v.getLsbD 15 → (configured s i v).tsk = s.tsk) ∧
      (s.bit (F.TSK_ITEM_CFG_EN i) = false → v.getLsbD 15 = true → (s.item i).st = .off → (configured s i v).item i = { st := .waiting }) ∧
      (∀ n : Fin 8, s.bit (F.TSK_ITEM_CFG_EN i) = false → v.getLsbD 15 = true → (s.item i).st = .running n →
        (configured s i v).item i = { s.item i with offAtEnd := false }) ∧
      (s.bit (F.TSK_ITEM_CFG_EN i) = true → v.getLsbD 15 = false → (s.item i).st = .waiting ∨ (s.item i).st = .ready →
        (configured s i v).item i = {}) ∧
      (∀ n : Fin 8, s.bit (F.TSK_ITEM_CFG_EN i) = true → v.getLsbD 15 = false → (s.item i).st = .running n →
        (configured s i v).item i = { s.item i with flags := 0, consumed := 0, cancelled := true, offAtEnd := true }) := by
  have htsk : (s.store (R.TSK_ITEM_CFG i) v).tsk = s.tsk := State.store_tsk _ _ _
  have hitem (j : Nat) : (s.store (R.TSK_ITEM_CFG i) v).item j = s.item j := by
    unfold State.item
    rw [htsk]
  unfold configured
  generalize s.store (R.TSK_ITEM_CFG i) v = u at *
  obtain ⟨onKeep, onOthers, onPorts, onOff, onRun⟩ := itemOn_spec u i
  obtain ⟨offKeep, offOthers, offPorts, offListed, offRun⟩ := itemOff_spec u i
  simp only [hitem, htsk] at onOthers onPorts onOff onRun offOthers offPorts offListed offRun
  cases hwas : s.bit (F.TSK_ITEM_CFG_EN i) <;> cases hnow : v.getLsbD 15
  case false.true =>
    rw [if_pos ⟨rfl, Bool.false_ne_true⟩]
    exact ⟨onKeep, onOthers, onPorts, nofun, fun _ _ => onOff, fun n _ _ => onRun n, nofun, nofun⟩
  case true.false =>
    rw [if_neg (fun h => Bool.false_ne_true h.1), if_pos ⟨rfl, Bool.false_ne_true⟩]
    exact ⟨offKeep, offOthers, offPorts, nofun, nofun, nofun, fun _ _ => offListed, fun n _ _ => offRun n⟩
  case false.false =>
    rw [if_neg (fun h => Bool.false_ne_true h.1), if_neg (fun h => Bool.false_ne_true h.1)]
    exact ⟨SameBut.refl _ _, fun j _ => hitem j, congrArg Tsk.ports htsk, fun _ => htsk, nofun, nofun, nofun, nofun⟩
  case true.true =>
    rw [if_neg (fun h => h.2 rfl), if_neg (fun h => h.2 rfl)]
    exact ⟨SameBut.refl _ _, fun j _ => hitem j, congrArg Tsk.ports htsk, fun _ => htsk, nofun, nofun, nofun, nofun⟩

/-! ### TSK_CTL (R557) -/

/-- Every listed item is announced anew. -/
def announcedAll (s : State) (u : State) : State :=
  (List.range 32).foldl (fun (t : State) p => (s.level p).foldl (fun (w : State) i => w.announceReady i false) t) u

theorem exec_tskEnable (h : Taken s r R.TSK_TSK_CTL) : exec (.tskEnable r v) s = .next
    (if s.bit F.TSK_TSK_CTL_EN = true then (s.reply .done).store R.TSK_TSK_CTL (v ||| 1)
     else announcedAll s ((s.reply .done).store R.TSK_TSK_CTL (v ||| 1))) := by
  have hset : (v ||| 1).getLsbD 0 = true := PageControl.getLsbD_or_true v (by decide)
  refine (congrArg Host.Outcome.next (Taken_access h)).trans (congrArg Host.Outcome.next ?_)
  unfold State.opTskCtl
  by_cases hen : s.bit F.TSK_TSK_CTL_EN = true
  · rw [if_pos hen]
    exact if_neg (fun hc => hc.2 hen)
  · rw [if_neg hen]
    exact if_pos ⟨hset, hen⟩

theorem inCores_store_ctl (s : State) (w : Word) (i : Nat) (n : Fin 8) : ((s.reply .done).store R.TSK_TSK_CTL w).inCores i n = s.inCores i n := by
  have hne : R.TSK_ITEM_CFG i ≠ R.TSK_TSK_CTL := by simp only [R.TSK_ITEM_CFG, R.TSK_TSK_CTL, idxKey]; omega
  unfold State.inCores State.fld
  rw [State.rd_store_ne _ _ hne]
  rfl

theorem idleCore_store_ctl (s : State) (w : Word) (n : Fin 8) : ((s.reply .done).store R.TSK_TSK_CTL w).idleCore n = s.idleCore n := by
  unfold State.idleCore
  rw [State.rd_store_ne _ _ (by decide)]
  rfl

/-- Settles O51: `postFlag` under a post, `configured` under the registers of an item, the announcements under TSK_CTL. -/
theorem itemsAndDispatch : Obligations.ItemsAndDispatch := by
  unfold Obligations.ItemsAndDispatch
  refine ⟨fun s h => exec_postApply_empty h, fun p q s hq hhead hnext => ?apply, fun r v i s hi h => ?mask, fun r v i s hi h => ?cfg,
    fun r v s h => ?enable⟩
  case apply =>
    obtain ⟨hkeep, -, -, hspec⟩ := postFlag_spec s p.item.toNat p.flag.toNat
    exact ⟨_, postApply_moves hq hhead hnext, State.setTsk_keeps _ (List.Subset.refl _) hkeep, rfl, rfl, hspec⟩
  case mask =>
    have hexec := exec_itemMask (v := v) (hi ▸ h)
    have hop : (s.reply .done).opItemMask r v = if s.bit (F.TSK_ITEM_CFG_EN i) = true ∧ s.rd (R.TSK_ITEM_MASK i) ≠ v then
        (s.reply .done).refuse r (R.TSK_ITEM_MASK i) else (s.reply .done).store (R.TSK_ITEM_MASK i) v := by
      subst hi
      rfl
    rw [hop] at hexec
    refine ⟨fun hfree => ?_, fun hen hne => hexec.trans (congrArg _ (if_pos ⟨hen, hne⟩))⟩
    have hstore : ¬ (s.bit (F.TSK_ITEM_CFG_EN i) = true ∧ s.rd (R.TSK_ITEM_MASK i) ≠ v) := fun hc => by
      rcases hfree with h | h
      · exact absurd hc.1 (by rw [h]; decide)
      · exact hc.2 h
    exact ⟨_, hexec.trans (congrArg _ (if_neg hstore)), ((Frame.refl _ _ s).reply _ (by decide)).store _ _ (by simp), rfl, itemMask_store _ _ _⟩
  case cfg =>
    have hexec := exec_itemCfg (v := v) (hi ▸ h)
    refine ⟨fun hen hm => hexec.trans (congrArg _ (opItemCfg_refused (s := s.reply .done) hi hen hm)), fun hfree => ?_⟩
    have hstay : s.bit (F.TSK_ITEM_CFG_EN i) = true → ¬ CfgMoves s i v := fun hen hm => by
      rcases hfree with h | ⟨hprio, hmode, hcores⟩
      · rw [h] at hen
        cases hen
      · rcases hm with hm | hm | hm
        · exact hm hprio
        · exact hm hmode
        · exact hm hcores
    obtain ⟨hkeep, hspec⟩ := configured_spec (s.reply .done) i v
    have hfld (f : Fld) : (configured (s.reply .done) i v).fld f = ((s.reply .done).store (R.TSK_ITEM_CFG i) v).fld f :=
      State.fld_of_regs (hkeep .regs (by decide)) f
    obtain ⟨hprio, hmode, hpreempt, hen, hcores, -⟩ := itemCfg_plain i
    refine ⟨_, hexec.trans (congrArg _ (opItemCfg_stores (s := s.reply .done) hi hstay)), ?_, hkeep .resp (by decide),
      (hfld _).trans (State.fld_store_plain _ (F.TSK_ITEM_CFG_PRIO i) v hprio), (hfld _).trans (State.fld_store_plain _ (F.TSK_ITEM_CFG_MODE i) v hmode),
      (hfld _).trans (State.fld_store_plain _ (F.TSK_ITEM_CFG_PREEMPT i) v hpreempt), (hfld _).trans (State.fld_store_plain _ (F.TSK_ITEM_CFG_EN i) v hen),
      (hfld _).trans (State.fld_store_plain _ (F.TSK_ITEM_CFG_CORES i) v hcores), hspec⟩
    have hstored : Frame [.tsk, .resp] [R.TSK_ITEM_CFG i] s ((s.reply .done).store (R.TSK_ITEM_CFG i) v) :=
      ((Frame.refl _ _ s).reply _ (by decide)).store _ _ (by simp)
    exact ⟨SameBut.trans hstored.1 (SameBut.mono (by decide) hkeep), fun k hk => (State.rd_of_regs (hkeep .regs (by decide)) k).trans (hstored.2 k hk)⟩
  case enable =>
    have hstored : Frame [.tsk, .resp] [R.TSK_TSK_CTL] s ((s.reply .done).store R.TSK_TSK_CTL (v ||| 1)) :=
      ((Frame.refl _ _ s).reply _ (by decide)).store _ _ (by simp)
    have hbit : ((s.reply .done).store R.TSK_TSK_CTL (v ||| 1)).bit F.TSK_TSK_CTL_EN = true :=
      (State.bit_store_plain _ F.TSK_TSK_CTL_EN _ tskCtl_plain rfl).trans (PageControl.getLsbD_or_true v (by decide))
    by_cases hen : s.bit F.TSK_TSK_CTL_EN = true
    · refine ⟨_, (exec_tskEnable h).trans (congrArg _ (if_pos hen)), hstored, rfl, hbit, rfl, rfl, fun _ => rfl, fun _ => rfl, fun _ _ _ hoff => ?_⟩
      rw [hen] at hoff
      cases hoff
    · obtain ⟨hann, hdisp⟩ := announce_level_fold ((s.reply .done).store R.TSK_TSK_CTL (v ||| 1)) s.level (List.range 32) _ (Announced.refl _)
      refine ⟨_, (exec_tskEnable h).trans (congrArg _ (if_neg hen)), ⟨SameBut.trans hstored.1 (SameBut.mono (by decide) hann.keep),
          fun k hk => (hann.rd k).trans (hstored.2 k hk)⟩, hann.keep .resp (by decide), (State.bit_of_regs (hann.keep .regs (by decide)) _).trans hbit,
        hann.items, hann.lists, hann.holds, fun h => absurd h hen, fun p i n _ hp hi hc hidle => ?_⟩
      exact hdisp p (List.mem_range.2 hp) i hi n ((inCores_store_ctl s _ i n).trans hc) ((idleCore_store_ctl s _ n).trans hidle)

end Sys2Proof.Proofs.WorkItems
end

section
/-! PROOF. The boot flash, the management I2C master and the JTAG port (O52). -/

namespace Sys2Proof.Proofs.HostPorts

open Sys2Proof Sys2Proof.Machine
set_option Elab.async false
open Sys2Proof.Laws.HostEnds

variable {s : State} {r : Req} {v w : Word} {op a len : Nat}

/-! ### Flash commands (R649, R650) -/

/-- The log writer keeps a host's flash command from going out: it programs a page, or has a record to program before an erase. -/
abbrev FlashHeld (s : State) (op : Nat) : Prop := s.log.writing ≠ 0 ∨ (op = 3 ∧ s.logOn = true ∧ s.log.buf ≠ [])

/-- A flash command is taken. -/
def asked (s : State) (op a len : Nat) : State := s.setHif (fun h => { h with flashOp := some (op, a, len), flashRun := false })

theorem asked_starts (s : State) (op a len : Nat) : SameBut [.hif, .out] s (asked s op a len).flashStart ∧
    (asked s op a len).flashStart.hif = { s.hif with flashOp := some (op, a, len), flashRun := decide (¬ FlashHeld s op) } ∧
    (asked s op a len).flashStart.out = if FlashHeld s op then s.out else .flash op a len :: s.out := by
  have hkeep : SameBut [.hif, .out] s (asked s op a len).flashStart :=
    State.flashStart_keeps (List.Subset.refl _) (State.setHif_keeps _ (by decide) (SameBut.refl _ s))
  have hstart : (asked s op a len).flashStart = if FlashHeld s op then asked s op a len else
      { asked s op a len with hif := { (asked s op a len).hif with flashRun := true } }.emit (.flash op a len) := by
    have hheld : ((asked s op a len).hif.flashRun = true ∨ (asked s op a len).log.writing ≠ 0 ∨
        (op = 3 ∧ (asked s op a len).logOn = true ∧ (asked s op a len).log.buf ≠ [])) ↔ FlashHeld s op :=
      or_iff_right Bool.false_ne_true
    exact ite_congr (propext hheld) (fun _ => rfl) (fun _ => rfl)
  refine ⟨hkeep, ?_⟩
  rw [hstart]
  by_cases hh : FlashHeld s op
  · rw [if_pos hh, if_pos hh, decide_eq_false (not_not_intro hh)]
    exact ⟨rfl, rfl⟩
  · rw [if_neg hh, if_neg hh, decide_eq_true hh]
    exact ⟨rfl, rfl⟩

/-- No reason of R649 forbids the command. -/
theorem flashCause_zero (hfree : s.hif.flashOp = none) (hw : op ≠ 1 → s.inLogArea a (flashSpan op len) = false ∧ s.rst.noSfdp = false)
    (hpf : s.log.pf = false) (hfits : flashFits op a len = true) : s.flashCause op a len = 0 := by
  unfold State.flashCause
  rw [if_neg (by rw [hfree]; decide), if_neg (fun h => absurd h.2 (by rw [(hw h.1).1]; decide)), if_neg (by rw [hpf]; decide),
    if_neg (fun h => absurd h.2 (by rw [(hw h.1).2]; decide)), if_neg (not_not_intro hfits)]

theorem opFlashCmd_takes (hop : getField w 0 2 = op) (h0 : op ≠ 0) (hlen : getField w 8 9 = len)
    (hc : s.flashCause op (s.fld F.HIF_FLASH_ADDR_ADDR) len = 0) :
    s.opFlashCmd w = (asked s op (s.fld F.HIF_FLASH_ADDR_ADDR) len).flashStart := by
  subst hop hlen
  exact (if_neg h0).trans (if_pos hc)

/-- A flash command is refused with its reason. -/
def flashRefused (s : State) (c : Nat) : State :=
  ((s.setHif (fun h => { h with flashRes := BitVec.ofNat 3 c })).bump R.HIF_CNT_FLASH_ERR).fire P.HIF E.HIF_FLASH_ERR

theorem opFlashCmd_refuses (hop : getField w 0 2 = op) (h0 : op ≠ 0) (hlen : getField w 8 9 = len)
    (hc : s.flashCause op (s.fld F.HIF_FLASH_ADDR_ADDR) len ≠ 0) :
    s.opFlashCmd w = flashRefused s (s.flashCause op (s.fld F.HIF_FLASH_ADDR_ADDR) len) := by
  subst hop hlen
  exact (if_neg h0).trans (if_neg hc)

/-- OP of the word that a flash command writes. -/
theorem flashWord_op (v : Word) {op : Nat} (h : op < 4) : getField (setField v 0 2 op) 0 2 = op :=
  (getField_setField v 0 2 op (by decide)).trans (Nat.mod_eq_of_lt h)

theorem flashWord_len (v : Word) (op : Nat) : getField (setField v 0 2 op) 8 9 = getField v 8 9 :=
  getField_setField_above v 0 2 op 8 9 (by decide) (by decide)

/-- `i` is the flash command with OP `op`. -/
def IsFlash (i : Instr) (r : Req) (v : Word) (op : Nat) : Prop :=
  op = 1 ∧ i = .flashRead r v ∨ op = 2 ∧ i = .flashProg r v ∨ op = 3 ∧ i = .flashErase r v

theorem IsFlash.opCode {i : Instr} (h : IsFlash i r v op) : op ≠ 0 ∧ op < 4 := by
  rcases h with ⟨rfl, -⟩ | ⟨rfl, -⟩ | ⟨rfl, -⟩ <;> decide

theorem IsFlash.exec {i : Instr} (h : IsFlash i r v op) (ht : Taken s r R.HIF_FLASH_CMD) :
    exec i s = .next ((s.reply .done).opFlashCmd (setField v 0 2 op)) := by
  rcases h with ⟨rfl, rfl⟩ | ⟨rfl, rfl⟩ | ⟨rfl, rfl⟩ <;> exact congrArg Host.Outcome.next (Taken_access ht)

/-- A flash command that no reason forbids is taken, and goes out unless the log writer holds it. -/
theorem flash_taken {i : Instr} (hi : IsFlash i r v op) (ht : Taken s r R.HIF_FLASH_CMD)
    (hc : s.flashCause op (s.fld F.HIF_FLASH_ADDR_ADDR) (getField v 8 9) = 0) :
    ∃ t, exec i s = .next t ∧ SameBut [.hif, .resp, .out] s t ∧ t.resp = .done ∧
      t.hif = { s.hif with flashOp := some (op, s.fld F.HIF_FLASH_ADDR_ADDR, getField v 8 9), flashRun := decide (¬ FlashHeld s op) } ∧
      t.out = if FlashHeld s op then s.out else .flash op (s.fld F.HIF_FLASH_ADDR_ADDR) (getField v 8 9) :: s.out := by
  obtain ⟨h0, h4⟩ := hi.opCode
  obtain ⟨hkeep, hhif, hout⟩ := asked_starts (s.reply .done) op (s.fld F.HIF_FLASH_ADDR_ADDR) (getField v 8 9)
  refine ⟨_, (hi.exec ht).trans (congrArg _ (opFlashCmd_takes (s := s.reply .done) (flashWord_op v h4) h0 (flashWord_len v op) hc)),
    SameBut.trans (State.reply_keeps _ (by decide) (SameBut.refl _ s)) (SameBut.mono (by decide) hkeep), hkeep .resp (by decide), hhif, hout⟩

theorem flash_refused {i : Instr} (hi : IsFlash i r v op) (ht : Taken s r R.HIF_FLASH_CMD)
    (hc : s.flashCause op (s.fld F.HIF_FLASH_ADDR_ADDR) (getField v 8 9) ≠ 0) :
    exec i s = .next (flashRefused (s.reply .done) (s.flashCause op (s.fld F.HIF_FLASH_ADDR_ADDR) (getField v 8 9))) := by
  obtain ⟨h0, h4⟩ := hi.opCode
  exact (hi.exec ht).trans (congrArg _ (opFlashCmd_refuses (s := s.reply .done) (flashWord_op v h4) h0 (flashWord_len v op) hc))

theorem flashRefused_spec (s : State) (c : Nat) : FrameEv [] [R.HIF_CNT_FLASH_ERR] s (flashRefused s c) ∧
    (flashRefused s c).hif.flashOp = s.hif.flashOp ∧ (flashRefused s c).hif.flashRes = BitVec.ofNat 3 c ∧
    (flashRefused s c).rd R.HIF_CNT_FLASH_ERR = s.rd R.HIF_CNT_FLASH_ERR + 1 ∧
    (s.domOn 33 = true → Raised (flashRefused s c) P.HIF E.HIF_FLASH_ERR) := by
  unfold flashRefused
  exact ⟨(((FrameEv.refl _ _ s).setHif _).bump _ (by decide)).andFire _ _, State.fire_hif_flashOp _ _ _, State.fire_hif_flashRes _ _ _,
    (State.fire_rd _ _ _ (by decide)).trans (State.rd_bump_self _ _), fun h => State.fire_raised h (by decide)⟩

/-! ### The end of a flash command (R650) -/

theorem exec_flashRead_done {data : List Byte} (hop : s.hif.flashOp = some (1, a, data.length)) (hrun : s.hif.flashRun = true) :
    exec (.flashCmdDone false data) s = .next ((s.putBytes (R.HIF_FLASH_BUF 0) data).flashEnd 0) := by
  refine congrArg Host.Outcome.next ?_
  unfold State.flashDone
  rw [if_pos hrun, hop]
  exact if_neg (by simp)

theorem exec_flash_done {bad : Bool} {data : List Byte} (hop : s.hif.flashOp = some (op, a, len)) (hrun : s.hif.flashRun = true)
    (h : op = 2 ∨ op = 3 ∧ bad = false) : exec (.flashCmdDone bad data) s = .next (s.flashEnd (if bad then 5 else 0)) := by
  refine congrArg Host.Outcome.next ?_
  unfold State.flashDone
  rw [if_pos hrun, hop]
  rcases h with rfl | ⟨rfl, rfl⟩ <;> rfl

theorem eventReg_flashBuf {i : Nat} (h : i < 256) : eventReg (R.HIF_FLASH_BUF 0 + i / 4 * 4) = false := by
  have hofs : ofsOf (R.HIF_FLASH_BUF 0 + i / 4 * 4) ≠ 0x010 := by
    show (0xA6100 + 0 * 0x4 + i / 4 * 4) % 4096 ≠ 0x010
    omega
  have hlow {k : Nat} (hk : k < 0xA6100) : R.HIF_FLASH_BUF 0 + i / 4 * 4 ≠ k := by
    show 0xA6100 + 0 * 0x4 + i / 4 * 4 ≠ k
    omega
  unfold eventReg
  rw [decide_eq_false hofs, decide_eq_false (hlow (by decide)), decide_eq_false (hlow (by decide)), decide_eq_false (hlow (by decide))]
  rfl

/-- The registers that take the first `n` bytes. -/
theorem putBytes_frame (s : State) (k : Nat) (bs : List Byte) :
    Frame [] ((List.range bs.length).map (fun i => k + i / 4 * 4)) s (s.putBytes k bs) :=
  ⟨putBytes_keep s k bs, (putBytes_fld s k bs bs.length).1⟩

/-! ### I2C transactions (R651, R652) -/

/-- A transaction is taken and goes out. -/
def i2cSent (s : State) (w : Word) : State :=
  (s.setHif (fun h => { h with i2cOp := some w })).emit (.i2c w (if w.getLsbD 20 then [] else s.i2cBytes (i2cLen w)))

theorem opI2cCmd_sends (h31 : w.getLsbD 31 = true) (hfree : s.hif.i2cOp = none) : s.opI2cCmd r w = i2cSent s w :=
  (if_neg (not_not_intro h31)).trans (if_neg (by rw [hfree]; decide))

theorem opI2cCmd_busy (h31 : w.getLsbD 31 = true) (hbusy : s.hif.i2cOp ≠ none) : s.opI2cCmd r w = s.refuse r R.HIF_OI2C_CMD :=
  (if_neg (not_not_intro h31)).trans (if_pos (Option.isSome_iff_ne_none.2 hbusy))

/-- The word that an I2C command writes: GO, and READ as the command says. -/
def i2cWord (v : Word) (rd : Bool) : Word := if rd then v ||| 0x80100000 else setField (v ||| 0x80000000) 20 1 0

theorem i2cWord_bits (v : Word) (rd : Bool) : (i2cWord v rd).getLsbD 31 = true ∧ (i2cWord v rd).getLsbD 20 = rd ∧
    ∀ b : Nat, b < 31 → b ≠ 20 → (i2cWord v rd).getLsbD b = v.getLsbD b := by
  have hclear (x : Word) (i : Nat) : (setField x 20 1 0).getLsbD i = if i = 20 then false else x.getLsbD i :=
    getLsbD_setField_one x 0 i (by decide)
  have hother (m : Word) (b : Nat) (hm : m.getLsbD b = false) : (v ||| m).getLsbD b = v.getLsbD b := by
    rw [BitVec.getLsbD_or, hm, Bool.or_false]
  cases rd with
  | false =>
    refine ⟨(hclear _ _).trans (PageControl.getLsbD_or_true v (by decide)), hclear _ _, fun b hb hne => ?_⟩
    exact ((hclear _ _).trans (if_neg hne)).trans (hother _ b ((by decide : ∀ n, n < 31 → (0x80000000 : Word).getLsbD n = false) b hb))
  | true =>
    refine ⟨PageControl.getLsbD_or_true v (by decide), PageControl.getLsbD_or_true v (by decide), fun b hb hne => ?_⟩
    exact hother _ b ((by decide : ∀ n, n < 31 → n ≠ 20 → (0x80100000 : Word).getLsbD n = false) b hb hne)

theorem i2cLen_word (v : Word) (rd : Bool) : i2cLen (i2cWord v rd) = i2cLen v := by
  unfold i2cLen
  rw [getField_congr fun i hi => (i2cWord_bits v rd).2.2 (16 + i) (by omega) (by omega)]

/-- `i` is the I2C command with READ `rd`. -/
def IsI2c (i : Instr) (r : Req) (v : Word) (rd : Bool) : Prop := rd = false ∧ i = .oi2cWrite r v ∨ rd = true ∧ i = .oi2cRead r v

theorem IsI2c.exec {i : Instr} {rd : Bool} (h : IsI2c i r v rd) (ht : Taken s r R.HIF_OI2C_CMD) :
    exec i s = .next ((s.reply .done).opI2cCmd r (i2cWord v rd)) := by
  rcases h with ⟨rfl, rfl⟩ | ⟨rfl, rfl⟩ <;> exact congrArg Host.Outcome.next (Taken_access ht)

theorem i2cEnd_frame (s : State) (result : BitVec 2) : FrameEv [] [R.HIF_CNT_OI2C_ERR] s (s.i2cEnd result) := by
  obtain ⟨hframe, hno⟩ := (i2cEnd_spec s result).1
  exact ⟨SameBut.mono (by decide) hframe, hno⟩

/-- The bytes of two registers, one by one. -/
theorem bytes_getD (w x : Word) {i : Nat} (h : i < 8) : (toBytesBE 4 w.toNat ++ toBytesBE 4 x.toNat).getD i 0 =
    BitVec.ofNat 8 (getField (if i < 4 then w else x) (24 - i % 4 * 8) 8) := by
  have hlen : (toBytesBE 4 w.toNat).length = 4 := rfl
  by_cases hi : i < 4
  · rw [List.getD_append _ _ _ _ (by omega), toBytesBE_word w i hi, if_pos hi, Nat.mod_eq_of_lt hi]
  · rw [List.getD_append_right _ _ _ _ (by omega), hlen, toBytesBE_word x _ (by omega), if_neg hi, show i % 4 = i - 4 by omega]

/-- The bytes put into OI2C_DATA0 and OI2C_DATA1 are what these hold. -/
theorem i2cBytes_putBytes (s : State) {data : List Byte} (h : data.length ≤ 8) : (s.putBytes R.HIF_OI2C_DATA0 data).i2cBytes data.length = data := by
  refine List.ext_getElem (by simp [State.i2cBytes, toBytesBE]; omega) fun i _ hi => ?_
  have hfld := (putBytes_fld s R.HIF_OI2C_DATA0 data data.length).2 i hi
  have hkey : R.HIF_OI2C_DATA0 + i / 4 * 4 = if i < 4 then R.HIF_OI2C_DATA0 else R.HIF_OI2C_DATA1 := by
    split
    · omega
    · show 0xA605C + i / 4 * 4 = 0xA6060
      omega
  have hword : getField (if i < 4 then (s.putBytes R.HIF_OI2C_DATA0 data).rd R.HIF_OI2C_DATA0 else (s.putBytes R.HIF_OI2C_DATA0 data).rd R.HIF_OI2C_DATA1)
      (24 - i % 4 * 8) 8 = (data.getD i 0).toNat := by
    rw [← apply_ite, ← hkey]
    exact hfld
  have hget : ((s.putBytes R.HIF_OI2C_DATA0 data).i2cBytes data.length).getD i 0 = data.getD i 0 := by
    unfold State.i2cBytes
    rw [List.getD_eq_getElem?_getD, List.getElem?_take_of_lt hi, ← List.getD_eq_getElem?_getD, bytes_getD _ _ (by omega), hword]
    exact BitVec.ofNat_toNat _ _ |>.trans (BitVec.setWidth_eq _)
  rwa [List.getD_eq_getElem _ _ (by assumption), List.getD_eq_getElem _ _ hi] at hget

theorem exec_i2c_done {data : List Byte} {result : BitVec 2} (hop : s.hif.i2cOp = some w) (h : result ≠ 0 ∨ w.getLsbD 20 = false) :
    s.i2cDone result data = s.i2cEnd result := by
  unfold State.i2cDone
  rw [hop]
  refine if_neg fun hc => ?_
  rcases h with h | h
  · exact h hc.1
  · exact absurd hc.2 (by rw [h]; decide)

theorem exec_i2cRead_done {data : List Byte} (hop : s.hif.i2cOp = some w) (h : w.getLsbD 20 = true) (hlen : data.length = i2cLen w) :
    exec (.oi2cDone 0 data) s = .next ((s.putBytes R.HIF_OI2C_DATA0 data).i2cEnd 0) := by
  refine congrArg Host.Outcome.next ?_
  unfold State.i2cDone
  rw [hop]
  exact (if_pos ⟨rfl, h⟩).trans (if_pos hlen)

/-! ### JTAG (R653, R654) -/

/-- The port opens, and every link key is erased. -/
def jtagOpened (s : State) : State := ((s.eraseAll).setHif (fun h => { h with jtag := true })).fire P.HIF E.HIF_JTAG_OPEN

/-- The port closes. -/
def jtagClosed (s : State) : State := s.setHif (fun h => { h with jtag := false, tap := { h with jtag := false }.tapSelect h.tap })

theorem exec_jtagOpen (ht : Taken s r R.HIF_JTAG_CTL) (hp : Present s r) : exec (.jtagOpen r v) s =
    .next (if v.getLsbD 1 then jtagClosed (jtagOpened (s.reply .done)) else jtagOpened (s.reply .done)) := by
  have h0 : (v ||| 1).getLsbD 0 = true := PageControl.getLsbD_or_true v (by decide)
  have h1 : (v ||| 1).getLsbD 1 = v.getLsbD 1 := by rw [BitVec.getLsbD_or]; exact Bool.or_false _
  have hop : (s.reply .done).opJtagCtl r (v ||| 1) =
      if (v ||| 1).getLsbD 1 then jtagClosed (jtagOpened (s.reply .done)) else jtagOpened (s.reply .done) :=
    (if_pos h0).trans (Present_guarded (s := s.reply .done) hp)
  rw [h1] at hop
  exact congrArg Host.Outcome.next ((Taken_access ht).trans hop)

theorem exec_jtagClose (ht : Taken s r R.HIF_JTAG_CTL) (h : v.getLsbD 0 = false) :
    exec (.jtagClose r v) s = .next (jtagClosed (s.reply .done)) := by
  have h0 : (v ||| 2).getLsbD 0 = false := PageControl.getLsbD_or_false h (by decide)
  have h1 : (v ||| 2).getLsbD 1 = true := PageControl.getLsbD_or_true v (by decide)
  have hop : (s.reply .done).opJtagCtl r (v ||| 2) = jtagClosed (s.reply .done) := (if_neg (by rw [h0]; decide)).trans (if_pos h1)
  exact congrArg Host.Outcome.next ((Taken_access ht).trans hop)

theorem eraseAll_regs (s : State) : s.eraseAll.regs = s.regs := State.eraseAll_keeps (List.Subset.refl _) (SameBut.refl _ s) .regs (by decide)

theorem jtagOpened_frame (s : State) : FrameEv [.pairs, .upb] [] s (jtagOpened s) :=
  (((FrameEv.refl _ _ s).upd (State.eraseAll_keeps (List.Subset.refl _) (SameBut.refl _ s)) (by decide) (eraseAll_regs s)).setHif _).andFire _ _

theorem eraseAll_reply (s : State) (x : Resp) : (s.reply x).eraseAll.pairs = s.eraseAll.pairs :=
  Vector.ext fun i hi => (KeysAndUnwrap.eraseAll_pair (s.reply x) ⟨i, hi⟩).trans (KeysAndUnwrap.eraseAll_pair s ⟨i, hi⟩).symm

theorem jtagOpened_pairs (s : State) : (jtagOpened (s.reply .done)).pairs = s.eraseAll.pairs :=
  (State.fire_keeps _ _ (List.Subset.refl _) (SameBut.refl _ _) .pairs (by decide)).trans (eraseAll_reply s .done)

theorem jtagOpened_raises (h : s.domOn 33 = true) : Raised (jtagOpened s) P.HIF E.HIF_JTAG_OPEN :=
  State.fire_raised ((State.domOn_of_pwr (State.eraseAll_keeps (List.Subset.refl _) (SameBut.refl _ s) .pwr (by decide)) 33).trans h) (by decide)

/-- Settles O52: flash commands by `flash_taken` and `flash_refused`, I2C transactions by `i2cSent` and `i2cEnd`, JTAG by `jtagOpened` and `jtagClosed`. -/
theorem flashI2cAndJtag : Obligations.FlashI2cAndJtag := by
  unfold Obligations.FlashI2cAndJtag
  refine ⟨fun r v op a len i s ht hi ha hlen => ?flash, fun data a s hop hrun hn => ?flashRead, fun bad data op a len s hop hrun h => ?flashDone,
    fun r v rd i s ht hi => ?i2c, fun result data w i s hop hi => ?i2cDone, fun data w s hop h20 hlen => ?i2cRead,
    fun r v s ht hp => ?jtagOpen, fun r v s ht h => ?jtagClose⟩
  case flash =>
    subst ha hlen
    have hflash : IsFlash i r v op := hi.imp_right Or.inl
    have hle : op ≠ 3 := by rcases hi with ⟨rfl, -⟩ | ⟨rfl, -⟩ <;> decide
    have hheld : FlashHeld s op ↔ ¬ s.log.writing = 0 := or_iff_left fun h => hle h.1
    refine ⟨fun hfree hw hpf hfits => ?_, fun hc => ?_⟩
    · have hspan : flashSpan op (getField v 8 9) = getField v 8 9 := if_neg hle
      have hop2 (hne : op ≠ 1) : op = 2 := (hi.resolve_left fun h => hne h.1).1
      obtain ⟨t, hexec, hkeep, hresp, hhif, hout⟩ := flash_taken hflash ht
        (flashCause_zero hfree (fun hne => hspan.symm ▸ hw (hop2 hne)) hpf hfits)
      simp only [hheld, ite_not] at hout
      rw [decide_eq_decide.2 ((not_congr hheld).trans not_not)] at hhif
      exact ⟨t, hexec, hkeep, hresp, hhif, hout⟩
    · obtain ⟨hframe, hop, hres, hcnt, hraise⟩ := flashRefused_spec (s.reply .done) (s.flashCause op (s.fld F.HIF_FLASH_ADDR_ADDR) (getField v 8 9))
      exact ⟨_, flash_refused hflash ht hc, ((FrameEv.refl _ _ s).reply _ (by decide)).trans (hframe.mono (by decide) (List.Subset.refl _)),
        hframe.1 .resp (by decide), hop, hres, hcnt, hraise⟩
  case flashRead =>
    obtain ⟨-, hop', hres, hclean, -, hraise⟩ := flashEnd_spec (s.putBytes (R.HIF_FLASH_BUF 0) data) 0
    have hput := putBytes_frame s (R.HIF_FLASH_BUF 0) data
    refine ⟨_, exec_flashRead_done hop hrun, (hput.mono (by decide) (List.Subset.refl _)).ev.trans ((hclean rfl).mono (List.Subset.refl _) (List.nil_subset _)),
      hop', hres, fun h => hraise ((State.domOn_of_pwr (hput.1 .pwr (by decide)) 33).trans h), fun i hi => ?_⟩
    refine Eq.trans ?_ ((putBytes_fld s (R.HIF_FLASH_BUF 0) data data.length).2 i hi)
    exact congrArg (fun x => getField x _ _) ((hclean rfl).2 _ List.not_mem_nil (eventReg_flashBuf (by omega)))
  case flashDone =>
    obtain ⟨hframe, hop', hres, -, hcnt, hraise⟩ := flashEnd_spec s (if bad then 5 else 0)
    refine ⟨_, exec_flash_done hop hrun h, hframe, hop', hres, ?_, hraise⟩
    cases bad <;> exact hcnt
  case i2c =>
    obtain ⟨h31, h20, hbits⟩ := i2cWord_bits v rd
    refine ⟨fun hfree => ?_, fun hbusy => (IsI2c.exec hi ht).trans (congrArg _ (opI2cCmd_busy (s := s.reply .done) h31 hbusy))⟩
    refine ⟨_, i2cWord v rd, (IsI2c.exec hi ht).trans (congrArg _ (opI2cCmd_sends (s := s.reply .done) h31 hfree)),
      State.emit_keeps _ (by decide) (State.setHif_keeps _ (by decide) (State.reply_keeps _ (by decide) (SameBut.refl _ s))), rfl, h31, h20, hbits, rfl, ?_⟩
    show Out.i2c _ (if (i2cWord v rd).getLsbD 20 then [] else s.i2cBytes (i2cLen (i2cWord v rd))) :: s.out = _
    rw [h20, i2cLen_word]
  case i2cDone =>
    obtain ⟨-, hop', hres, -, -, hcnt, hraise⟩ := i2cEnd_spec s result
    refine ⟨_, ?_, i2cEnd_frame s result, hop', hres, hcnt, hraise⟩
    rcases hi with ⟨rfl, h⟩ | ⟨rfl, rfl⟩
    · exact congrArg Host.Outcome.next (exec_i2c_done hop h)
    · exact congrArg Host.Outcome.next (exec_i2c_done hop (Or.inl (by decide)))
  case i2cRead =>
    have h8 : data.length ≤ 8 := hlen ▸ Nat.min_le_left _ _
    have hput := putBytes_frame s R.HIF_OI2C_DATA0 data
    obtain ⟨-, hop', hres, -, hclean, -, hraise⟩ := i2cEnd_spec (s.putBytes R.HIF_OI2C_DATA0 data) 0
    have hkeys : ((List.range data.length).map (fun i => R.HIF_OI2C_DATA0 + i / 4 * 4)) ⊆ [R.HIF_OI2C_DATA0, R.HIF_OI2C_DATA1] := fun k hk => by
      obtain ⟨i, hi, rfl⟩ := List.mem_map.1 hk
      have hi8 := List.mem_range.1 hi
      refine List.mem_pair.2 ?_
      show 0xA605C + i / 4 * 4 = 0xA605C ∨ 0xA605C + i / 4 * 4 = 0xA6060
      omega
    have hrd (k : Nat) (he : eventReg k = false) := (hclean rfl).2 k List.not_mem_nil he
    refine ⟨_, exec_i2cRead_done hop h20 hlen, (hput.mono (List.Subset.refl _) hkeys).ev.trans ((hclean rfl).mono (List.Subset.refl _) (List.nil_subset _)),
      hop', hres, ?_, fun h => hraise ((State.domOn_of_pwr (hput.1 .pwr (by decide)) 33).trans h)⟩
    refine Eq.trans ?_ (i2cBytes_putBytes s h8)
    unfold State.i2cBytes
    rw [hrd _ (by decide), hrd _ (by decide)]
  case jtagOpen =>
    have hopen : FrameEv [.pairs, .upb, .resp] [] s (jtagOpened (s.reply .done)) :=
      ((FrameEv.refl _ _ s).reply _ (by decide)).trans ((jtagOpened_frame _).mono (by decide) (List.Subset.refl _))
    have hresp : (jtagOpened (s.reply .done)).resp = .done := (jtagOpened_frame _).1 .resp (by decide)
    have hjtag : (jtagOpened (s.reply .done)).hif.jtag = true := State.fire_hif_jtag _ _ _
    have hraise (h : s.domOn 33 = true) : Raised (jtagOpened (s.reply .done)) P.HIF E.HIF_JTAG_OPEN := jtagOpened_raises h
    have hexec := exec_jtagOpen (v := v) ht hp
    cases hv : v.getLsbD 1 with
    | false =>
      rw [hv, if_neg (by decide)] at hexec
      exact ⟨_, hexec, hopen, hresp, jtagOpened_pairs s, hjtag, hraise⟩
    | true =>
      rw [hv, if_pos rfl] at hexec
      exact ⟨_, hexec, hopen.setHif _, hresp, jtagOpened_pairs s, rfl, hraise⟩
  case jtagClose =>
    exact ⟨_, exec_jtagClose ht h, State.setHif_keeps _ (by decide) (State.reply_keeps _ (by decide) (SameBut.refl _ s)), rfl, rfl⟩

end Sys2Proof.Proofs.HostPorts
end

section
/-! PROOF. Records, the vectors' arm bits, delivery, the error log, and the begin and the end of a power failure (O49, O55). -/

namespace Sys2Proof.Proofs.RecordsAndPower

open Sys2Proof Sys2Proof.Machine
set_option Elab.async false
open Sys2Proof.Laws.Delivery Sys2Proof.Laws.ErrorLog

variable {s : State} {r : Req} {v : Word}

/-! ### The end of a power failure (R587) -/

/-- The power failure has ended. -/
def pfEnded (s : State) : State := ({ s with log := { s.log with pf := false } } : State).fire P.EVT E.EVT_PF_CLEAR

theorem pfEnded_log (s : State) : (pfEnded s).log = { s.log with pf := false } := fire_log _ _ _

theorem exec_powerFailClear (h : s.log.pf = true) : exec .powerFailClear s = .next (pfEnded s) := congrArg Host.Outcome.next (if_pos h)

theorem pfEnded_frame (s : State) : FrameEv [.log] [] s (pfEnded s) := (setLog_frame s _).andFire _ _

/-- PF_STAT shows the power failure and its flush (R584, R586). -/
theorem readWord_pfStat (h : s.domOn 29 = true) (r : Req) :
    s.readWord r R.EVT_PF_STAT = BitVec.ofNat 32 (b2n s.log.pf + b2n s.log.flushed * 2 + b2n s.log.late * 4) := by
  have hon : s.powered R.EVT_PF_STAT = true := h
  have hshown : (if ofsOf R.EVT_PF_STAT < 0x040 then readHDR s (pageOf R.EVT_PF_STAT) (ofsOf R.EVT_PF_STAT)
      else computed (if s.powered R.EVT_PF_STAT then s else s.asOff) r (pageOf R.EVT_PF_STAT) (ofsOf R.EVT_PF_STAT)) =
      some (BitVec.ofNat 32 (b2n s.log.pf + b2n s.log.flushed * 2 + b2n s.log.late * 4)) := by
    rw [if_neg (by decide), if_pos hon]
    rfl
  unfold State.readWord
  dsimp only
  rw [if_neg (by decide), hshown]

theorem pfStat_clear (h : s.domOn 29 = true) (hpf : s.log.pf = false) (r : Req) : (s.readWord r R.EVT_PF_STAT).getLsbD 0 = false := by
  rw [readWord_pfStat h, hpf]
  cases s.log.flushed <;> cases s.log.late <;> decide

/-- A commit outside a power failure is answered, whatever becomes of its group. -/
theorem judgeCommit_resp (h : s.log.pf = false) (i : Fin 4) : (s.judgeCommit r i).resp = s.resp := by
  rw [Commit.judge_accepted h]
  have hacc : SameBut [.regs, .seam, .cmt, .tribs, .pipes, .epochs, .shapers, .policers, .evt, .tsk, .hif, .timers, .out] s
      (Commit.accepted s r i) := State.cmdStat_keeps _ _ _ _ (by decide) (SameBut.refl _ s)
  have habort (c : BitVec 4) := State.abortSlot_keeps i c (by decide) hacc
  exact SameBut.ite (State.slotApplied_keeps i (by decide) hacc) (SameBut.ite (habort 2) (SameBut.ite (habort 3)
    (SameBut.ite (State.decideApply_keeps i (by decide) hacc) (SameBut.ite (habort 3) (SameBut.ite (habort 4)
      (State.sendPrepare_keeps i (by decide) hacc)))))) .resp (by decide)

/-- The log writer erases its oldest sector. -/
theorem exec_logSectorErase (hon : s.logOn = true) (hpf : s.log.pf = false) (hbuf : s.log.buf = []) (hprog : s.hostProgram = false)
    (hdue : (s.logSlots - s.log.flash.length) / 64 < 2) : exec .logSectorErase s = .next (({ s with log :=
      { s.log with flash := s.log.flash.drop 64, head := (s.log.head + 64) % s.logSlots } } : State).emit (.logErase (s.logAddr s.log.head))) :=
  congrArg Host.Outcome.next (if_pos ⟨hon, by rw [hpf]; decide, hbuf, by rw [hprog]; decide, hdue⟩)

/-- Settles O49: what follows the failure's end rests on PF being 0 in `pfEnded`. -/
theorem powerFailEnds : Obligations.PowerFailEnds := by
  unfold Obligations.PowerFailEnds
  refine ⟨fun s hpf => ?_, fun s hpf => congrArg Host.Outcome.next (if_neg (by rw [hpf]; decide))⟩
  have hclear : (pfEnded s).log.pf = false := congrArg Log.pf (pfEnded_log s)
  have hdom (h : s.domOn 29 = true) : (pfEnded s).domOn 29 = true := (State.domOn_of_pwr (fire_pwr _ _ _) 29).trans h
  refine ⟨_, exec_powerFailClear hpf, pfEnded_frame s, pfEnded_log s, fun h => State.fire_raised h (by decide), fun r h => pfStat_clear (hdom h) hclear r,
    fun r tag i ht h0 hs ho => ?commit, fun r v ht hfree hsfdp harea hfits => ?erase, fun hon hbuf hprog hdue => ?sector⟩
  case commit => exact ⟨_, Commit.exec_commit ht h0 hs ho, judgeCommit_resp (s := (pfEnded s).reply .done) hclear i⟩
  case erase =>
    have hcause := HostPorts.flashCause_zero hfree (fun _ => ⟨harea, hsfdp⟩) hclear hfits
    obtain ⟨u, hexec, hkeep, hresp, hhif, -⟩ := HostPorts.flash_taken (v := v) (Or.inr (Or.inr ⟨rfl, rfl⟩)) ht hcause
    refine ⟨u, hexec, hkeep, hresp, hhif.trans ?_⟩
    have hgoes : ¬ HostPorts.FlashHeld (pfEnded s) 3 ↔
        (pfEnded s).log.writing = 0 ∧ ((pfEnded s).logOn = false ∨ (pfEnded s).log.buf = []) := by
      cases hl : (pfEnded s).logOn <;> simp [HostPorts.FlashHeld, hl]
    rw [decide_eq_decide.2 hgoes]
  case sector =>
    exact ⟨_, exec_logSectorErase hon hclear hbuf hprog hdue, State.emit_keeps _ (by decide) (SameBut.upd_log (by decide) (SameBut.refl _ _)), rfl, rfl⟩

/-! ### Records and arm bits (R570, R576) -/

theorem exec_recRead (hr : s.reaches r = true) (hd : s.domOn 29 = true) :
    exec (.recRead r) s = .next (s.reply (.data s.recNs)).opRecRead := by
  have hcause : s.readCause R.EVT_REC_NS true = 0 :=
    (if_neg (by decide)).trans ((if_neg (by decide)).trans (if_neg fun h => absurd h.1 (by decide)))
  have hon : s.powered R.EVT_REC_NS = true := hd
  refine congrArg Host.Outcome.next ((if_neg (not_not_intro hr)).trans ?_)
  rw [hcause]
  exact if_pos hon

theorem exec_msixArm {hi : Bool} (ht : Taken s r (if hi then R.EVT_MSIX_ARM_HI else R.EVT_MSIX_ARM_LO)) :
    exec (.msixArm r hi v) s = .next (rearmAll v (32 * b2n hi) (List.range 32) (s.reply .done)) :=
  congrArg Host.Outcome.next (Taken_access ht)

/-- The vectors that a write of one arm register names. -/
theorem named_iff {hi : Bool} {b : Nat} (hb : b < 32) : (∃ c ∈ List.range 32, v.getLsbD c = true ∧ b + 32 * b2n hi = c + 32 * b2n hi) ↔ v.getLsbD b = true :=
  ⟨fun ⟨c, _, hc, he⟩ => by rwa [Nat.add_right_cancel he], fun h => ⟨b, List.mem_range.2 hb, h, rfl⟩⟩

/-! ### Delivery is switched on (R575) -/

/-- EVT_CTL is written with EN set. -/
def eventsOn (s : State) (v : Word) : State := (s.reply .done).store R.EVT_EVT_CTL (v ||| 1)

/-- Every pending source of every group rises. -/
def allRise (s : State) : State := (List.range 96).foldl (fun t g => t.risePending (groupPage g)) s

theorem exec_evtEnable (ht : Taken s r R.EVT_EVT_CTL) :
    exec (.evtEnable r v) s = .next (if s.bit F.EVT_EVT_CTL_EN then eventsOn s v else allRise (eventsOn s v)) := by
  have hset : (v ||| 1).getLsbD 0 = true := PageControl.getLsbD_or_true v (by decide)
  refine congrArg Host.Outcome.next ((Taken_access ht).trans ?_)
  unfold State.opEvtCtl
  cases hen : s.bit F.EVT_EVT_CTL_EN with
  | true => exact if_neg fun h => h.2 hen
  | false => exact if_pos ⟨hset, ne_true_of_eq_false hen⟩

theorem evtCtl_plain : plainField F.EVT_EVT_CTL_EN = true ∧ plainField F.EVT_EVT_CTL_REC_EN = true := by decide +kernel

theorem eventsOn_frame (s : State) (v : Word) : Frame [.resp] [R.EVT_EVT_CTL] s (eventsOn s v) :=
  ((Frame.refl _ _ s).reply _ (by decide)).store _ _ (by decide)

theorem eventsOn_bits (s : State) (v : Word) :
    (eventsOn s v).bit F.EVT_EVT_CTL_EN = true ∧ (eventsOn s v).bit F.EVT_EVT_CTL_REC_EN = v.getLsbD 1 := by
  obtain ⟨hen, hrec⟩ := evtCtl_plain
  refine ⟨(State.bit_store_plain _ F.EVT_EVT_CTL_EN _ hen rfl).trans (PageControl.getLsbD_or_true v (by decide)),
    (State.bit_store_plain _ F.EVT_EVT_CTL_REC_EN _ hrec rfl).trans ?_⟩
  rw [BitVec.getLsbD_or]
  exact Bool.or_false _

theorem allRise_delivered (s : State) : Delivered s (allRise s) :=
  riseAll_keeps (Delivered s) (fun t p b h => h.trans (pendingRise_delivered t p b)) s (Delivered.refl s)

theorem Delivered.bit {s t : State} (h : Delivered s t) (f : Fld) (hf : armReg f.key = false) : t.bit f = s.bit f := by
  unfold State.bit State.fld
  rw [h.regs _ hf]

/-- A vector that was armed is disarmed with its message due. -/
def Disarmed (s : State) (x : Nat) (t : State) : Prop := t.armed x = false ∧ (s.armed x = true → MessageDue x t)

/-- Deliveries have left the vector's arm bit, or disarmed it. -/
def Arms (s : State) (x : Nat) (t : State) : Prop := Delivered s t ∧ (t.armed x = s.armed x ∨ Disarmed s x t)

theorem Disarmed.rise {x : Nat} {t : State} (hx : x < 64) (h : Disarmed s x t) (p b : Nat) : Disarmed s x (t.pendingRise p b) := by
  have hdue (ha : s.armed x = true) := (pendingRise_delivered t p b).due x (h.2 ha)
  rcases pendingRise_armed t p b x hx with he | ⟨hoff, -⟩
  · exact ⟨he.trans h.1, hdue⟩
  · exact ⟨hoff, hdue⟩

theorem Arms.rise {x : Nat} {t : State} (hx : x < 64) (h : Arms s x t) (p b : Nat) : Arms s x (t.pendingRise p b) := by
  obtain ⟨hdel, hold⟩ := h
  refine ⟨hdel.trans (pendingRise_delivered t p b), ?_⟩
  rcases hold with heq | hdis
  · rcases pendingRise_armed t p b x hx with he | ⟨hoff, hdue⟩
    · exact Or.inl (he.trans heq)
    · exact Or.inr ⟨hoff, fun ha => hdue (heq.trans ha)⟩
  · exact Or.inr (hdis.rise hx p b)

/-- A rise of a group that is routed to the vector disarms it. -/
theorem Arms.hit {x p : Nat} {t : State} (hx : x < 64) (h : Arms s x t) (b : Nat) (hd : t.delivers p = true)
    (hl : linePage p = true → t.seam.phase = .up) (hv : t.vectorOf (groupOf p) = some x) : Disarmed s x (t.pendingRise p b) := by
  obtain ⟨hoff, hdue⟩ := pendingRise_disarms t p b x hx hd hl hv
  refine ⟨hoff, fun ha => ?_⟩
  rcases h.2 with heq | hdis
  · exact hdue (heq.trans ha)
  · exact (hdis.rise hx p b).2 ha

section

variable {g b : Nat} (hg : g < 96)
include hg

theorem Delivered.pend {s t : State} (h : Delivered s t) : t.pendBits (groupPage g) = s.pendBits (groupPage g) := by
  obtain ⟨hraw, hmask, -⟩ := armReg_header ⟨groupPage g, (groupPage_lt ⟨g, hg⟩).1⟩
  unfold State.pendBits
  rw [h.regs _ hraw, h.regs _ hmask]

theorem Delivered.delivers {s t : State} (h : Delivered s t) : t.delivers (groupPage g) = s.delivers (groupPage g) := by
  obtain ⟨-, -, hctl⟩ := armReg_header ⟨groupPage g, (groupPage_lt ⟨g, hg⟩).1⟩
  unfold State.delivers
  rw [State.domOn_of_pwr (h.keep .pwr (by decide)), Delivered.bit h F.EVT_EVT_CTL_EN (by decide), Delivered.bit h (F.HDR_PAGE_CTL_EVT_OUT (groupPage g)) hctl]

variable (hb : b < 16) (hpend : (s.pendBits (groupPage g)).getLsbD b = true) (hd : s.delivers (groupPage g) = true)
  (hl : linePage (groupPage g) = true → s.seam.phase = .up)
include hb hpend hd hl

/-- A pending source disarms the vector of its group. -/
theorem allRise_disarms {x : Nat} (hv : s.vectorOf g = some x) : Disarmed s x (allRise s) := by
  have hx := vectorOf_lt s g x hv
  refine riseAll_reaches (Arms s x) (Disarmed s x) (fun t p b h => h.rise hx p b) (fun t p b h => h.rise hx p b) g b hg hb
    (fun t h => by rwa [Delivered.pend hg h.1]) (fun t h => h.hit hx b ?_ ?_ ?_) s ⟨Delivered.refl s, Or.inl rfl⟩
  · rw [Delivered.delivers hg h.1, hd]
  · exact fun hline => (congrArg Seam.phase (h.1.keep .seam (by decide))).trans (hl hline)
  · rw [(groupPage_lt ⟨g, hg⟩).2, h.1.vec g hg, hv]

/-- A pending source whose route posts has its post outstanding. -/
theorem allRise_posts (hr : s.bit (F.EVT_SRC_ROUTE_EN (16 * g + b)) = true) : (allRise s).postOutstanding (16 * g + b) = true := by
  have hsrc : srcNum (groupPage g) b = 16 * g + b := congrArg (fun n => 16 * n + b) (groupPage_lt ⟨g, hg⟩).2
  have hkey : armReg (R.EVT_SRC_ROUTE (16 * g + b)) = false := by
    unfold armReg
    rw [decide_eq_false (by simp only [R.EVT_SRC_ROUTE, R.EVT_MSIX_ARM_LO, idxKey]; omega),
      decide_eq_false (by simp only [R.EVT_SRC_ROUTE, R.EVT_MSIX_ARM_HI, idxKey]; omega)]
    rfl
  refine riseAll_reaches (Delivered s) (fun t => t.postOutstanding (16 * g + b) = true) (fun t p b h => h.trans (pendingRise_delivered t p b))
    (fun t p b h => (pendingRise_delivered t p b).posts _ h) g b hg hb (fun t h => by rwa [Delivered.pend hg h]) (fun t h => ?_) s (Delivered.refl s)
  rw [← hsrc]
  refine pendingRise_posts t _ b ((Delivered.delivers hg h).trans hd) (fun hline => (congrArg Seam.phase (h.keep .seam (by decide))).trans (hl hline)) fun w hw => ?_
  rw [hsrc]
  exact (Delivered.bit (h.trans hw) (F.EVT_SRC_ROUTE_EN (16 * g + b)) hkey).trans hr

end

/-- EVT_CTL lies apart from the headers of the pages and from the groups' routes. -/
theorem eventsOn_pend (s : State) (v : Word) (p : Nat) : (eventsOn s v).pendBits p = s.pendBits p := by
  obtain ⟨-, hrd⟩ := eventsOn_frame s v
  unfold State.pendBits
  rw [hrd (R.HDR_EVT_RAW p) (by simp only [R.HDR_EVT_RAW, R.EVT_EVT_CTL, List.mem_singleton]; omega),
    hrd (R.HDR_EVT_MASK p) (by simp only [R.HDR_EVT_MASK, R.EVT_EVT_CTL, List.mem_singleton]; omega)]

theorem eventsOn_delivers {p : Nat} (hd : s.domOn 29 = true) (hout : s.bit (F.HDR_PAGE_CTL_EVT_OUT p) = true) (v : Word) :
    (eventsOn s v).delivers p = true := by
  have hctl : (eventsOn s v).bit (F.HDR_PAGE_CTL_EVT_OUT p) = s.bit (F.HDR_PAGE_CTL_EVT_OUT p) := by
    unfold State.bit State.fld
    rw [(eventsOn_frame s v).2 _ (by simp only [R.HDR_PAGE_CTL, R.EVT_EVT_CTL, List.mem_singleton]; omega)]
  have hon : (eventsOn s v).domOn 29 = true := hd
  unfold State.delivers
  rw [hon, (eventsOn_bits s v).1, hctl, hout]
  rfl

theorem eventsOn_rd (s : State) (v : Word) {k : Nat} (hk : k ≠ R.EVT_EVT_CTL) : (eventsOn s v).rd k = s.rd k :=
  (eventsOn_frame s v).2 k (by simpa using hk)

theorem eventsOn_vectorOf (s : State) (v : Word) (g : Nat) : (eventsOn s v).vectorOf g = s.vectorOf g := by
  unfold State.vectorOf State.bit State.fld
  rw [eventsOn_rd s v (by simp only [R.EVT_GRP_ROUTE, R.EVT_EVT_CTL]; omega)]

theorem eventsOn_armed (s : State) (v : Word) (x : Nat) : (eventsOn s v).armed x = s.armed x := by
  unfold State.armed
  rw [eventsOn_rd s v (by unfold armKey; split <;> decide)]

/-! ### A page program of the log writer ends (R580, R581) -/

/-- What the log writer leaves when a host's command and its own next program may begin. -/
theorem written_ends (u : State) : FrameEv [.log] [] u u.flashStart.logStart ∧
    u.flashStart.logStart.log = { u.log with writing := u.flashStart.logStart.log.writing } := by
  have hstart : SameBut [.hif, .out] u u.flashStart := State.flashStart_keeps (List.Subset.refl _) (SameBut.refl _ u)
  refine ⟨FrameEv.trans ⟨SameBut.mono (by decide) hstart, fun k _ _ => State.rd_of_regs (hstart .regs (by decide)) k⟩ (logStart_frame _), ?_⟩
  exact (logStart_spec u.flashStart).2.trans (congrArg (fun l : Log => { l with writing := u.flashStart.logStart.log.writing }) (hstart .log (by decide)))

/-- The records being written are committed. -/
def committed (s : State) : State :=
  ({ s with log := { s.log with writing := 0, retried := false, buf := s.log.buf.drop s.log.writing,
                                flash := s.log.flash ++ (s.log.buf.take s.log.writing).map some } } : State).bumpBy R.EVT_CNT_LOG_REC s.log.writing

/-- The flash as a failed program leaves it. -/
def spoilt (s : State) : List (Option LogRec) := s.log.flash ++ List.replicate s.log.writing none

/-- The records being written go out once more at the next slots. -/
def rewritten (s : State) : State :=
  let m := min (4 - (spoilt s).length % 4) s.log.writing
  ({ s with log := { s.log with retried := true, writing := m, flash := spoilt s } } : State).logEmit (spoilt s).length
    ((s.log.buf.take s.log.writing).take m)

/-- The records being written are lost. -/
def lost (s : State) : State :=
  (({ s with log := { s.log with writing := 0, retried := false, buf := s.log.buf.drop s.log.writing, flash := spoilt s, flashErr := true } } : State).bumpBy
    R.EVT_CNT_LOG_LOST s.log.writing).fire P.EVT E.EVT_LOG_FLASH_ERR

theorem logProgrammed_eq (h : s.log.writing ≠ 0) (ok : Bool) : s.logProgrammed ok =
    if ok then (committed s).flashStart.logStart else if ¬ s.log.retried then rewritten s else (lost s).flashStart.logStart := if_neg h

theorem committed_frame (s : State) : FrameEv [.log] [R.EVT_CNT_LOG_REC, R.EVT_CNT_LOG_LOST] s (committed s) :=
  (setLog_frame s _).bumpBy _ _ (by decide)

theorem rewritten_frame (s : State) : FrameEv [.log] [R.EVT_CNT_LOG_REC, R.EVT_CNT_LOG_LOST] s (rewritten s) := (setLog_frame s _).emit _

theorem lost_frame (s : State) : FrameEv [.log] [R.EVT_CNT_LOG_REC, R.EVT_CNT_LOG_LOST] s (lost s) :=
  ((setLog_frame s _).bumpBy _ _ (by decide)).andFire _ _

theorem spoilt_length (s : State) : (spoilt s).length = s.log.flash.length + s.log.writing := by
  unfold spoilt
  rw [List.length_append, List.length_replicate]

theorem resetIfFlushed_none (h : s.rst.devWait = none) : s.resetIfFlushed = s := by
  unfold State.resetIfFlushed
  rw [h]

/-! ### A power failure begins (R584, R585) -/

/-- PF is set, counted and raised. -/
def pfBegun (s : State) : State :=
  (({ s with log := { s.log with pf := true, flushed := false, late := false } } : State).bump R.EVT_CNT_PF).fire P.EVT E.EVT_PF_ASSERT

/-- A host's erase ends with result 3. -/
def eraseFailed (s : State) : State :=
  ((s.setHif (fun h => { h with flashOp := none, flashRun := false, flashRes := 3 })).bump R.HIF_CNT_FLASH_ERR).fire P.HIF E.HIF_FLASH_DONE

/-- A host's erase of the flash is stopped. -/
def eraseStopped (s : State) : State :=
  match s.hif.flashOp with
  | some (3, _, _) => eraseFailed s
  | _ => s

/-- An erase of the retirement list ends with 4. -/
def clearEnded (s : State) : State := if s.ecc.clear then { s with ecc := { s.ecc with clear := false, result := 4 } } else s

/-- The state in which the record of the failure is made. -/
def pfReady (s : State) : State := clearEnded (eraseStopped (pfBegun s))

/-- The record of the failure has been made. -/
def pfRecorded (s : State) (body : List Byte) : State := (pfReady s).makeRecordIn 65 4 P.EVT body

theorem exec_powerFailAssert (hpf : s.log.pf = false) (hin : s.rst.inReset = false) (hun : s.rst.unpowered = false) (hd : s.domOn 29 = true) :
    ∃ body, exec .powerFailAssert s = .next (if (pfRecorded s body).logOn then pfRecorded s body
      else { pfRecorded s body with log := { (pfRecorded s body).log with flushed := true } }) :=
  ⟨_, if_neg (by simp [hpf, hin, hun, hd])⟩

theorem eraseStopped_other (h : ∀ a n : Nat, s.hif.flashOp ≠ some (3, a, n)) : eraseStopped s = s := by
  unfold eraseStopped
  split
  · next a n hop => exact absurd hop (h a n)
  · rfl

theorem eraseStopped_erase {a n : Nat} (h : s.hif.flashOp = some (3, a, n)) : eraseStopped s = eraseFailed s := by
  unfold eraseStopped
  rw [h]
  rfl

/-- An erase is stopped, or nothing changes. -/
theorem eraseStopped_or (s : State) : eraseStopped s = eraseFailed s ∨ eraseStopped s = s := by
  unfold eraseStopped
  split
  · exact Or.inl rfl
  · exact Or.inr rfl

theorem eraseFailed_frame (s : State) : FrameEv [] [R.HIF_CNT_FLASH_ERR] s (eraseFailed s) :=
  (((FrameEv.refl _ _ s).setHif _).bump _ (by decide)).andFire _ _

theorem eraseFailed_spec (s : State) : (eraseFailed s).hif.flashOp = none ∧ (eraseFailed s).hif.flashRes = 3 ∧
    (eraseFailed s).rd R.HIF_CNT_FLASH_ERR = s.rd R.HIF_CNT_FLASH_ERR + 1 ∧ (s.domOn 33 = true → Raised (eraseFailed s) P.HIF E.HIF_FLASH_DONE) :=
  ⟨State.fire_hif_flashOp _ _ _, State.fire_hif_flashRes _ _ _, (State.fire_rd _ _ _ (by decide)).trans (State.rd_bump_self _ _),
    fun h => State.fire_raised h (by decide)⟩

theorem eraseStopped_frame (s : State) : FrameEv [] [R.HIF_CNT_FLASH_ERR] s (eraseStopped s) := by
  rcases eraseStopped_or s with h | h <;> rw [h]
  · exact eraseFailed_frame s
  · exact FrameEv.refl _ _ s

theorem eraseStopped_raised {p b : Nat} (h : Raised s p b) : Raised (eraseStopped s) p b := by
  rcases eraseStopped_or s with he | he <;> rw [he]
  · unfold eraseFailed
    refine Raised_fire ?_ _ (by decide)
    have hne : R.HDR_EVT_RAW p ≠ R.HIF_CNT_FLASH_ERR := (ne_of_eventReg (by decide) (eventReg_raw p)).symm
    unfold Raised at *
    rw [State.rd_bump_ne _ hne, State.setHif_rd]
    exact h
  · exact h

theorem clearEnded_keeps (s : State) : SameBut [.ecc] s (clearEnded s) :=
  SameBut.ite (SameBut.upd_ecc (List.Subset.refl _) (SameBut.refl _ s)) (SameBut.refl _ s)

theorem clearEnded_on (h : s.ecc.clear = true) : (clearEnded s).ecc = { s.ecc with clear := false, result := 4 } := by
  unfold clearEnded
  rw [if_pos h]

theorem clearEnded_off (h : s.ecc.clear = false) : clearEnded s = s := if_neg (by rw [h]; decide)

theorem clearEnded_rd (s : State) (k : Nat) : (clearEnded s).rd k = s.rd k := State.rd_of_regs (clearEnded_keeps s .regs (by decide)) k

theorem pfBegun_log (s : State) : (pfBegun s).log = { s.log with pf := true, flushed := false, late := false } := fire_log _ _ _

theorem pfBegun_frame (s : State) : FrameEv [.log] [R.EVT_CNT_PF] s (pfBegun s) := ((setLog_frame s _).bump _ (by decide)).andFire _ _

theorem pfBegun_flash (s : State) : (pfBegun s).hif.flashOp = s.hif.flashOp := State.fire_hif_flashOp _ _ _

theorem pfReady_frame (s : State) : FrameEv [.log, .ecc] [R.EVT_CNT_PF, R.HIF_CNT_FLASH_ERR] s (pfReady s) :=
  (((pfBegun_frame s).mono (by decide) (by decide)).trans ((eraseStopped_frame _).mono (by decide) (by decide))).upd (clearEnded_keeps _) (by decide)
    (clearEnded_keeps _ .regs (by decide))

theorem pfReady_log (s : State) : (pfReady s).log = { s.log with pf := true, flushed := false, late := false } :=
  ((clearEnded_keeps _ .log (by decide)).trans ((eraseStopped_frame _).1 .log (by decide))).trans (pfBegun_log s)

theorem pfReady_hif (s : State) : (pfReady s).hif = (eraseStopped (pfBegun s)).hif := clearEnded_keeps _ .hif (by decide)

/-- The parts of the state that the record is made from. -/
theorem pfReady_ecc (s : State) : (s.ecc.clear = true → (pfReady s).ecc.clear = false ∧ (pfReady s).ecc.result = 4) ∧
    (s.ecc.clear = false → (pfReady s).ecc = s.ecc) := by
  have hecc : (eraseStopped (pfBegun s)).ecc = s.ecc := ((eraseStopped_frame _).1 .ecc (by decide)).trans ((pfBegun_frame s).1 .ecc (by decide))
  refine ⟨fun h => ?_, fun h => ?_⟩
  · have hend := clearEnded_on (s := eraseStopped (pfBegun s)) (by rw [hecc, h])
    exact ⟨congrArg Ecc.clear hend, congrArg Ecc.result hend⟩
  · exact (congrArg State.ecc (clearEnded_off (s := eraseStopped (pfBegun s)) (by rw [hecc, h]))).trans hecc

theorem pfReady_raised (hd : s.domOn 29 = true) : Raised (pfReady s) P.EVT E.EVT_PF_ASSERT := by
  have hbegun : Raised (pfBegun s) P.EVT E.EVT_PF_ASSERT := State.fire_raised hd (by decide)
  have hstopped := eraseStopped_raised hbegun
  unfold Raised at *
  exact (congrArg (fun w : Word => w.getLsbD E.EVT_PF_ASSERT) (clearEnded_rd _ _)).trans hstopped

/-- The flash command of a host where none erases. -/
theorem pfReady_kept (h : ∀ a n : Nat, s.hif.flashOp ≠ some (3, a, n)) :
    (pfReady s).hif.flashOp = s.hif.flashOp ∧ (pfReady s).rd R.HIF_CNT_FLASH_ERR = s.rd R.HIF_CNT_FLASH_ERR := by
  have hstay := eraseStopped_other (s := pfBegun s) (by rwa [pfBegun_flash])
  refine ⟨?_, ?_⟩
  · rw [pfReady_hif, hstay, pfBegun_flash]
  · exact (clearEnded_rd _ _).trans ((congrArg (fun u : State => u.rd R.HIF_CNT_FLASH_ERR) hstay).trans ((pfBegun_frame s).2 _ (by decide) (by decide)))

/-- A host's erase has ended with result 3. -/
theorem pfReady_stopped {a n : Nat} (h : s.hif.flashOp = some (3, a, n)) : (pfReady s).hif.flashOp = none ∧ (pfReady s).hif.flashRes = 3 ∧
    (pfReady s).rd R.HIF_CNT_FLASH_ERR = s.rd R.HIF_CNT_FLASH_ERR + 1 ∧ (s.domOn 33 = true → Raised (pfReady s) P.HIF E.HIF_FLASH_DONE) := by
  have hstop := eraseStopped_erase (s := pfBegun s) ((pfBegun_flash s).trans h)
  obtain ⟨hop, hres, hcnt, hraise⟩ := eraseFailed_spec (pfBegun s)
  rw [← hstop] at hop hres hcnt hraise
  refine ⟨(congrArg Hif.flashOp (pfReady_hif s)).trans hop, (congrArg Hif.flashRes (pfReady_hif s)).trans hres,
    (clearEnded_rd _ _).trans (hcnt.trans (congrArg (· + 1) ((pfBegun_frame s).2 _ (by decide) (by decide)))), fun hd => ?_⟩
  have hraised := hraise ((State.domOn_of_pwr ((pfBegun_frame s).1 .pwr (by decide)) 33).trans hd)
  unfold Raised at *
  exact (congrArg (fun w : Word => w.getLsbD E.HIF_FLASH_DONE) (clearEnded_rd _ _)).trans hraised

theorem pfReady_cnt (s : State) : (pfReady s).rd R.EVT_CNT_PF = s.rd R.EVT_CNT_PF + 1 := by
  refine (clearEnded_rd _ _).trans (((eraseStopped_frame _).2 _ (by decide) (by decide)).trans ?_)
  exact (State.fire_rd _ _ _ (by decide)).trans (State.rd_bump_self _ _)

theorem pfRecorded_logOn (s : State) (body : List Byte) : (pfRecorded s body).logOn = s.logOn :=
  logOn_rd ((makeRecordIn_rd _ _ _ _ _ _ (by decide) (by decide) (by decide)).trans ((pfReady_frame s).2 _ (by decide) (by decide)))
    (((makeRecordIn_spec _ _ _ _ _).1.1 .rst (by decide)).trans ((pfReady_frame s).1 .rst (by decide)))

/-- The flush begins, or ends at once where the log writer may not program. -/
theorem flush_begins (u : State) {v : State} (hv : v = if u.logOn then u else { u with log := { u.log with flushed := true } }) :
    SameBut [.log] u v ∧ v.log = { u.log with flushed := if u.logOn then u.log.flushed else true } := by
  subst hv
  cases u.logOn
  · exact ⟨SameBut.upd_log (List.Subset.refl _) (SameBut.refl _ u), rfl⟩
  · exact ⟨SameBut.refl _ u, rfl⟩

/-- Settles O55: arm bits by `rearmAll`, delivery by `allRise`, log pages by `logProgrammed_eq`, a power failure by `pfRecorded`. -/
theorem recordsAndLog : Obligations.RecordsAndLog := by
  unfold Obligations.RecordsAndLog
  refine ⟨fun r s hr hd => ?read, fun r hi v s ht => ?arm, fun r v s ht => ?enable, fun ok s hw => ?page, fun s hpf hin hun hd => ?assert,
    fun s h => congrArg id (if_pos ?inert), fun late s hpf hfl hbuf hw => ?flush, fun late s h => congrArg Host.Outcome.next (if_neg ?held)⟩
  case read =>
    have hkeep : SameBut [.evt, .resp] s (s.reply (.data s.recNs)) := State.reply_keeps _ (by decide) (SameBut.refl _ s)
    exact ⟨_, exec_recRead hr hd, SameBut.upd_evt (by decide) (State.reply_keeps _ (by decide) hkeep), rfl, rfl⟩
  case arm =>
    have hoff : 32 * b2n hi ≤ 32 := by cases hi <;> decide
    obtain ⟨hdel, harm, hdue⟩ := rearmAll_spec v (32 * b2n hi) hoff (List.range 32) (fun b hb => List.mem_range.1 hb) (s.reply .done)
    refine ⟨_, exec_msixArm ht, ((FrameEv.refl _ _ s).reply _ (by decide)).trans hdel.frame, hdel.keep .resp (by decide), fun b hb => ?_,
      fun b hb hv => ?_, fun b hb hv hq => ?_, fun b g hb hv hen hg hvec hgp => ?_⟩
    · refine (harm _ (by cases hi <;> simp [b2n] <;> omega)).trans (if_neg ?_)
      rintro ⟨c, hc, -, he⟩
      have hc32 := List.mem_range.1 hc
      cases hi <;> simp [b2n] at he <;> omega
    · exact (harm _ (by omega)).trans (if_neg fun h => absurd ((named_iff hb).1 h) (by rw [hv]; decide))
    · rw [harm _ (by omega), if_pos ((named_iff hb).2 hv), owesMessage_false (s := s.reply .done) hq]
      rfl
    · have howes : owesMessage (s.reply .done) (b + 32 * b2n hi) = true := owesMessage_true (s := s.reply .done) hen hg hvec hgp
      refine ⟨?_, hdue b (List.mem_range.2 hb) hv howes⟩
      rw [harm _ (by omega), if_pos ((named_iff hb).2 hv), howes]
      rfl
  case enable =>
    have hexec := exec_evtEnable (v := v) ht
    have hframe := eventsOn_frame s v
    obtain ⟨hen, hrec⟩ := eventsOn_bits s v
    cases hwas : s.bit F.EVT_EVT_CTL_EN with
    | true =>
      rw [hwas, if_pos rfl] at hexec
      exact ⟨_, hexec, hframe.ev, rfl, hen, hrec, fun _ => hframe, nofun⟩
    | false =>
      rw [hwas, if_neg (by decide)] at hexec
      have hdel := allRise_delivered (eventsOn s v)
      refine ⟨_, hexec, hframe.ev.trans (hdel.frame.mono (List.Subset.refl _) (List.nil_subset _)), hdel.keep .resp (by decide),
        (Delivered.bit hdel _ (by decide)).trans hen, (Delivered.bit hdel _ (by decide)).trans hrec, nofun, fun g b _ hg hb hp hout hl => ?_⟩
      have hpend : ((eventsOn s v).pendBits (groupPage g)).getLsbD b = true := by rwa [eventsOn_pend]
      have hdelivers := eventsOn_delivers (Taken_checks ht).2.2 hout v
      refine ⟨fun vec hvec => ?_, fun hr => allRise_posts hg hb hpend hdelivers hl ?_⟩
      · obtain ⟨hoff, hdue⟩ := allRise_disarms hg hb hpend hdelivers hl ((eventsOn_vectorOf s v g).trans hvec)
        exact ⟨hoff, fun ha => hdue ((eventsOn_armed s v vec).trans ha)⟩
      · unfold State.bit State.fld
        rw [eventsOn_rd s v (by simp only [R.EVT_SRC_ROUTE, R.EVT_EVT_CTL, idxKey]; omega)]
        exact hr
  case page =>
    have hexec (u : State) (hu : s.logProgrammed ok = u) : exec (.logPageProgram ok) s = .next u.resetIfFlushed :=
      congrArg (fun x : State => Host.Outcome.next x.resetIfFlushed) hu
    have hstays {u : State} (hu : FrameEv [.log] [R.EVT_CNT_LOG_REC, R.EVT_CNT_LOG_LOST] s u) (h : s.rst.devWait = none) : u.resetIfFlushed = u :=
      resetIfFlushed_none ((congrArg Rst.devWait (hu.1 .rst (by decide))).trans h)
    have heq := logProgrammed_eq hw ok
    cases ok with
    | true =>
      rw [if_pos rfl] at heq
      obtain ⟨hends, hlog⟩ := written_ends (committed s)
      have hframe := (committed_frame s).trans (hends.mono (List.Subset.refl _) (List.nil_subset _))
      refine ⟨_, hexec _ heq, hstays hframe, hframe, (congrArg Log.seq hlog :), fun _ => ⟨congrArg Log.flash hlog, congrArg Log.buf hlog,
        congrArg Log.retried hlog, ?_, ?_⟩, nofun⟩
      · exact (hends.2 _ (by decide) (by decide)).trans (State.rd_bumpBy_self _ _ _)
      · exact (hends.2 _ (by decide) (by decide)).trans (State.rd_bumpBy_ne _ _ (by decide))
    | false =>
      rw [if_neg (by decide)] at heq
      cases hre : s.log.retried with
      | false =>
        rw [hre, if_pos (by decide)] at heq
        have hframe := rewritten_frame s
        refine ⟨_, hexec _ heq, hstays hframe, hframe, rfl, nofun, fun _ => ⟨rfl, rfl, fun _ => ⟨rfl, rfl, ?_, rfl⟩, nofun⟩⟩
        show min (4 - (spoilt s).length % 4) s.log.writing = _
        rw [spoilt_length]
      | true =>
        rw [hre, if_neg (by decide)] at heq
        obtain ⟨hends, hlog⟩ := written_ends (lost s)
        have hlost : (lost s).log = _ := fire_log _ _ _
        rw [hlost] at hlog
        have hframe := (lost_frame s).trans (hends.mono (List.Subset.refl _) (List.nil_subset _))
        have hrd (k : Nat) (hk : eventReg k = false) : (lost s).flashStart.logStart.rd k =
            (({ s with log := { s.log with writing := 0, retried := false, buf := s.log.buf.drop s.log.writing, flash := spoilt s, flashErr := true } } : State).bumpBy
              R.EVT_CNT_LOG_LOST s.log.writing).rd k := (hends.2 k (by simp) hk).trans (State.fire_rd _ _ _ hk)
        refine ⟨_, hexec _ heq, hstays hframe, hframe, (congrArg Log.seq hlog :), nofun, fun _ => ⟨congrArg Log.flash hlog,
          (hrd _ (by decide)).trans (State.rd_bumpBy_ne _ _ (by decide)), nofun, fun _ => ⟨congrArg Log.buf hlog, congrArg Log.retried hlog,
          congrArg Log.flashErr hlog, (hrd _ (by decide)).trans (State.rd_bumpBy_self _ _ _), fun hd => ?_⟩⟩⟩
        have hraised : Raised (lost s) P.EVT E.EVT_LOG_FLASH_ERR := State.fire_raised hd (by decide)
        have hregs : (lost s).flashStart.logStart.regs = (lost s).regs :=
          State.logStart_keeps (L := [.hif, .out, .log]) (by decide) (State.flashStart_keeps (by decide) (SameBut.refl _ _)) .regs (by decide)
        unfold Raised at *
        exact (congrArg (fun w : Word => w.getLsbD E.EVT_LOG_FLASH_ERR) (State.rd_of_regs hregs _)).trans hraised
  case assert =>
    obtain ⟨body, hexec⟩ := exec_powerFailAssert hpf hin hun hd
    obtain ⟨hkeep, hlog⟩ := flush_begins (pfRecorded s body) rfl
    generalize (if (pfRecorded s body).logOn then pfRecorded s body else _ : State) = t at *
    obtain ⟨hrec, hseq, hpf', hlate, hflushed, hop, hres, hraised, hroom⟩ := makeRecordIn_spec (pfReady s) 65 4 P.EVT body
    have hrd (k : Nat) : t.rd k = (pfRecorded s body).rd k := State.rd_of_regs (hkeep .regs (by decide)) k
    have hkept (k : Nat) (hk : k ≠ R.HDR_LOG_PTR P.EVT ∧ k ≠ R.EVT_CNT_LOG_LOST ∧ eventReg k = false) : t.rd k = (pfReady s).rd k :=
      (hrd k).trans (makeRecordIn_rd _ _ _ _ _ _ hk.2.2 hk.1 hk.2.1)
    have hrise {p b : Nat} (hb : b < 32) (h : Raised (pfReady s) p b) (hne : R.HDR_EVT_RAW p ≠ R.HDR_LOG_PTR P.EVT) : Raised t p b := by
      have hr : Raised (pfRecorded s body) p b := hraised p b hb h hne
      unfold Raised at *
      rwa [hrd]
    have hhif : t.hif = (pfRecorded s body).hif := hkeep .hif (by decide)
    have hready := pfReady_log s
    refine ⟨t, hexec, ?_, (congrArg Log.pf hlog).trans (hpf'.trans (congrArg Log.pf hready)), (congrArg Log.late hlog).trans (hlate.trans (congrArg Log.late hready)),
      ?_, (hkept _ (by decide)).trans (pfReady_cnt s), hrise (by decide) (pfReady_raised hd) (by decide), fun a n hfl => ?_, fun hfl => ?_,
      (congrArg Log.seq hlog).trans (hseq.trans (congrArg (fun l : Log => l.seq + 1) hready :)), fun h => ?_, fun h => ?_, fun h => ?_⟩
    · refine (((pfReady_frame s).mono (by decide) (by decide)).trans (hrec.mono (by decide) (by decide))).trans ?_
      exact ⟨SameBut.mono (by decide) hkeep, fun k _ _ => hrd k⟩
    · refine (congrArg Log.flushed hlog).trans ?_
      show (if (pfRecorded s body).logOn then _ else true) = _
      rw [pfRecorded_logOn]
      cases s.logOn
      · rfl
      · exact hflushed.trans (congrArg Log.flushed hready)
    · obtain ⟨h1, h2, h3, h4⟩ := pfReady_stopped hfl
      exact ⟨(congrArg Hif.flashOp hhif).trans (hop.trans h1), (congrArg Hif.flashRes hhif).trans (hres.trans h2), (hkept _ (by decide)).trans h3,
        fun h33 => hrise (by decide) (h4 h33) (by decide)⟩
    · obtain ⟨h1, h2⟩ := pfReady_kept hfl
      exact ⟨(congrArg Hif.flashOp hhif).trans (hop.trans h1), (hkept _ (by decide)).trans h2⟩
    · have hecc : t.ecc = (pfReady s).ecc := (hkeep .ecc (by decide)).trans (hrec.1 .ecc (by decide))
      rw [hecc]
      exact (pfReady_ecc s).1 h
    · exact ((hkeep .ecc (by decide)).trans (hrec.1 .ecc (by decide))).trans ((pfReady_ecc s).2 h)
    · obtain ⟨x, hbuf, hcls, hpage, hxseq, htime⟩ := hroom (by rw [hready]; exact h)
      rw [hready] at hbuf hxseq
      refine ⟨x, (congrArg Log.buf hlog).trans hbuf, hcls, hpage, hxseq, htime.trans ?_⟩
      exact congrArg (fun c : Clock => c.fab) ((pfReady_frame s).1 .clock (by decide))
  case inert => exact Or.imp_right (Or.imp_right Or.inl) h
  case flush =>
    exact ⟨_, congrArg Host.Outcome.next (if_pos ⟨hpf, by rw [hfl]; decide, hbuf, hw⟩), fun h => resetIfFlushed_none h, rfl⟩
  case held =>
    rintro ⟨h1, h2, h3, h4⟩
    rcases h with h | h | h | h
    · exact absurd h1 (by rw [h]; decide)
    · exact h2 h
    · exact h h3
    · exact h h4

end Sys2Proof.Proofs.RecordsAndPower
end

section
/-! PROOF. The backplane lanes: what each command and each move leaves of the lanes and of everything else (O38). -/

namespace Sys2Proof.Proofs.LaneMoves

open Sys2Proof Sys2Proof.Machine
set_option Elab.async false
open Sys2Proof.Proofs.LaneCommands

variable {s t : State} {r : Req} {l : Fin 48} {v w : Word} {ps : List Part} {ks : List Nat}

/-! ### Frames and lanes of the moves -/

theorem setLane_frame (s : State) (l : Fin 48) (x : Lane) : Frame [.lanes] [] s (s.setLane l x) :=
  (Frame.refl _ _ s).upd (State.setLane_keeps l x (List.Subset.refl _) (SameBut.refl _ s)) (List.Subset.refl _) rfl

theorem laneTo_frame (s : State) (l : Fin 48) (st : LaneSt) : Frame [.lanes, .timers] [] s (s.laneTo l st) :=
  (Frame.refl _ _ s).upd (State.laneTo_keeps l st (List.Subset.refl _) (SameBut.refl _ s)) (by decide)
    (State.laneTo_keeps l st (List.Subset.refl _) (SameBut.refl _ s) .regs (by decide))

theorem laneEvent_frame (s : State) (l : Fin 48) (b : Nat) : FrameEv [.lanes] [] s (s.laneEvent l b) := by
  unfold State.laneEvent
  exact (FrameEv.ite (setLane_frame s l _).ev (FrameEv.refl _ _ s)).andFire _ _

theorem laneTo_lanes (s : State) (l : Fin 48) (st : LaneSt) : (s.laneTo l st).lanes = s.lanes.set l { s.lanes[l] with st := st } := by
  unfold State.laneTo
  dsimp only
  split <;> rfl

/-- The lane is replaced and moves. -/
theorem setLane_laneTo (s : State) (l : Fin 48) (x : Lane) (st : LaneSt) : ((s.setLane l x).laneTo l st).lanes = s.lanes.set l { x with st := st } := by
  rw [laneTo_lanes, setLane_lane]
  exact Vector.set_set _ l.isLt

theorem setLane_laneTo_frame (s : State) (l : Fin 48) (x : Lane) (st : LaneSt) : Frame [.lanes, .timers] [] s ((s.setLane l x).laneTo l st) :=
  ((setLane_frame s l x).mono (by decide) (List.Subset.refl _)).trans (laneTo_frame _ l st)

/-- LINK_CHG is latched in no lane. -/
theorem linkChg_lanes (s : State) (l : Fin 48) : (s.linkChg l).lanes = s.lanes :=
  (State.fire_lanes _ _ _).trans (congrArg State.lanes (if_neg (by omega : ¬ 4 ≤ l.val % 4)))

theorem linkChg_raised (hon : s.domOn (domainOf (R.HDR_EVT_RAW (P.BPQ + l.val / 4))) = true) :
    Raised (s.linkChg l) (P.BPQ + l.val / 4) (l.val % 4) := laneEvent_raised _ hon (by omega)

theorem linkFallen_lanes (s : State) (l : Fin 48) : (linkFallen s l).lanes = s.lanes.set l { s.lanes[l] with st := s.startOf l s.lanes[l].mode } := by
  have hstart : (s.bump (R.BPQ_CNT_LINK_DOWN l.val)).startOf l s.lanes[l].mode = s.startOf l s.lanes[l].mode := startOf_of_ctl (linkDown_rd_ctl s l) _
  have hlanes := laneTo_lanes (s.bump (R.BPQ_CNT_LINK_DOWN l.val)) l ((s.bump (R.BPQ_CNT_LINK_DOWN l.val)).startOf l s.lanes[l].mode)
  rw [hstart] at hlanes
  exact (linkChg_lanes _ l).trans ((congrArg State.lanes (congrArg (State.laneTo _ l) hstart)).trans hlanes)

theorem linkFallen_frame (s : State) (l : Fin 48) : FrameEv [.lanes, .timers] [R.BPQ_CNT_LINK_DOWN l.val] s (linkFallen s l) :=
  (((FrameEv.refl _ _ s).bump _ (List.mem_singleton_self _)).trans ((laneTo_frame _ l _).ev.mono (List.Subset.refl _) (List.nil_subset _))).trans
    ((laneEvent_frame _ l _).mono (by decide) (List.nil_subset _))

theorem linkFallen_raised (hon : s.domOn (domainOf (R.HDR_EVT_RAW (P.BPQ + l.val / 4))) = true) :
    Raised (linkFallen s l) (P.BPQ + l.val / 4) (l.val % 4) := linkChg_raised ((laneTo_domOn _ l _ _).trans hon)

/-! ### LANE_CTL (R484, R485, R610) -/

/-- LANE_CTL is written and a restart waits. -/
def restartAsked (s : State) (l : Fin 48) (v : Word) : State :=
  (s.store (R.BPQ_LANE_CTL l.val) v).setLane l { s.lanes[l] with todo := some .restart }

theorem restartAsked_frame (s : State) (l : Fin 48) (v : Word) : Frame [.lanes] [R.BPQ_LANE_CTL l.val] s (restartAsked s l v) :=
  ((Frame.refl _ _ s).store _ _ (List.mem_singleton_self _)).trans ((setLane_frame _ l _).mono (List.Subset.refl _) (List.nil_subset _))

theorem opLaneCtl_limp (hlimp : s.pwr.limp = true) (hv : getField v 0 3 ≠ 0) : s.opLaneCtl l v = s := if_pos ⟨hlimp, hv⟩

theorem opLaneCtl_asks (hlimp : s.pwr.limp = false) (hoff : s.lanes[l].st ≠ .off) (hsleep : s.lanes[l].st ≠ .sleep) :
    s.opLaneCtl l v = (restartAsked s l v).laneTodo l := by
  unfold State.opLaneCtl
  dsimp only
  rw [if_neg (fun h => ne_true_of_eq_false hlimp h.1)]
  split
  · next h => exact absurd h hoff
  · next h => exact absurd h hsleep
  · rfl

theorem laneTodo_waits (htx : s.lanes[l].mac.tx ≠ none) : s.laneTodo l = s := by
  unfold State.laneTodo
  split
  · next h => exact absurd h htx
  · next h => exact absurd h htx
  · rfl

theorem laneTodo_restarts (htodo : s.lanes[l].todo = some .restart) (htx : s.lanes[l].mac.tx = none) : s.laneTodo l = s.laneRestart l := by
  have htodo' : (s.lane l).todo = some .restart := htodo
  have htx' : (s.lane l).mac.tx = none := htx
  unfold State.laneTodo
  rw [htodo', htx']

theorem laneTodo_sleeping (htodo : s.lanes[l].todo = some .sleep) (htx : s.lanes[l].mac.tx = none) : s.laneTodo l = s.laneSleep l := by
  have htodo' : (s.lane l).todo = some .sleep := htodo
  have htx' : (s.lane l).mac.tx = none := htx
  unfold State.laneTodo
  rw [htodo', htx']

section

variable (ht : Taken s r (R.BPQ_LANE_CTL l.val)) (hlimp : s.pwr.limp = false) (hoff : s.lanes[l].st ≠ .off) (hsleep : s.lanes[l].st ≠ .sleep)
include ht hlimp hoff hsleep

theorem laneCtlWrite_waits (htx : s.lanes[l].mac.tx ≠ none) : exec (.laneCtlWrite r l v) s = .next (restartAsked (s.reply .done) l v) := by
  have hlane : (restartAsked (s.reply .done) l v).lanes[l] = { s.lanes[l] with todo := some .restart } := setLane_lane _ l _
  refine congrArg Host.Outcome.next ((Taken_access ht).trans ((opLaneCtl_asks (s := s.reply .done) hlimp hoff hsleep).trans (laneTodo_waits ?_)))
  rw [hlane]
  exact htx

theorem laneCtlWrite_now (htx : s.lanes[l].mac.tx = none) :
    exec (.laneCtlWrite r l v) s = .next ((restartAsked (s.reply .done) l v).laneRestart l) := by
  have hlane : (restartAsked (s.reply .done) l v).lanes[l] = { s.lanes[l] with todo := some .restart } := setLane_lane _ l _
  refine congrArg Host.Outcome.next ((Taken_access ht).trans ((opLaneCtl_asks (s := s.reply .done) hlimp hoff hsleep).trans (laneTodo_restarts ?_ ?_)))
  · rw [hlane]
  · rw [hlane]
    exact htx

end

/-! ### LANE_CMD (R485, R494, R495) -/

section

variable (ht : Taken s r (R.BPQ_LANE_CMD l.val))
include ht

theorem exec_laneSleep (hv : getField v 1 4 = 0) (hup : s.lanes[l].st = .up) :
    exec (.laneSleep r l v) s = .next (((s.reply .done).setLane l { s.lanes[l] with todo := some .sleep }).laneTodo l) := by
  have hop := opLaneCmd_sleep (s := s.reply .done) (l := l) (onlyCommand_or (n := 0) (by decide) (fun i hi => absurd hi (Nat.not_lt_zero i))
    (fun i h h' => getLsbD_of_getField_zero hv h h')) hup
  exact congrArg Host.Outcome.next ((Taken_access ht).trans hop)

theorem exec_laneWake (h0 : v.getLsbD 0 = false) (hv : getField v 2 3 = 0) : exec (.laneWake r l v) s = .next ((s.reply .done).laneWake l) := by
  have hop := opLaneCmd_wake (s := s.reply .done) (l := l) (onlyCommand_or (n := 1) (by decide)
    (fun i hi => (Nat.lt_one_iff.mp hi).symm ▸ h0) (fun i h h' => getLsbD_of_getField_zero hv h h'))
  exact congrArg Host.Outcome.next ((Taken_access ht).trans hop)

theorem exec_laneRecal (h0 : getField v 0 2 = 0) (h3 : getField v 3 2 = 0) :
    exec (.laneRecal r l v) s = .next ((s.reply .done).recalRequest l) := by
  have hop := opLaneCmd_recal (s := s.reply .done) (l := l) (onlyCommand_or (n := 2) (by decide)
    (fun i hi => getLsbD_of_getField_zero h0 (Nat.zero_le i) (by omega)) (fun i h h' => getLsbD_of_getField_zero h3 h h'))
  exact congrArg Host.Outcome.next ((Taken_access ht).trans hop)

theorem exec_laneRecalAbort (hv : getField v 0 3 = 0) (h4 : v.getLsbD 4 = false) :
    exec (.laneRecalAbort r l v) s = .next (if s.lanes[l].recal = .waiting then
      (s.reply .done).setLane l { s.lanes[l] with recal := .aborted } else s.reply .done) := by
  have hw : OnlyCommand 3 (v ||| BitVec.twoPow 32 3) := onlyCommand_or (n := 3) (by decide)
    (fun i hi => getLsbD_of_getField_zero hv (Nat.zero_le i) (by omega)) (fun i h h' => (show i = 4 by omega) ▸ h4)
  have hop : (s.reply .done).opLaneCmd l (v ||| BitVec.twoPow 32 3) = if s.lanes[l].recal = .waiting then
      (s.reply .done).setLane l { s.lanes[l] with recal := .aborted } else s.reply .done := by
    by_cases hwait : s.lanes[l].recal = .waiting
    · rw [if_pos hwait]
      exact opLaneCmd_abort (s := s.reply .done) hw hwait
    · have hidle : ¬ ((s.reply .done).lane l).recal = .waiting := hwait
      rw [if_neg hwait]
      unfold State.opLaneCmd
      simp only [hw 0 (by decide), hw 1 (by decide), hw 2 (by decide), hw 3 (by decide), hw 4 (by decide), Nat.reduceEqDiff, decide_true, decide_false,
        Bool.false_eq_true, false_and, true_and, if_false, hidle]
  exact congrArg Host.Outcome.next ((Taken_access ht).trans hop)

theorem exec_laneRetrain (hv : getField v 0 4 = 0) :
    exec (.laneRetrain r l v) s = .next (if s.lanes[l].st = .up then linkFallen (s.reply .done) l else s.reply .done) := by
  have hw : OnlyCommand 4 (v ||| BitVec.twoPow 32 4) := onlyCommand_or (n := 4) (by decide)
    (fun i hi => getLsbD_of_getField_zero hv (Nat.zero_le i) (by omega)) (fun i h h' => absurd h (by omega))
  have hop : (s.reply .done).opLaneCmd l (v ||| BitVec.twoPow 32 4) =
      if s.lanes[l].st = .up then linkFallen (s.reply .done) l else s.reply .done := by
    by_cases hup : s.lanes[l].st = .up
    · rw [if_pos hup]
      exact opLaneCmd_retrain (s := s.reply .done) hw hup
    · have hdown : ¬ ((s.reply .done).lane l).st = .up := hup
      rw [if_neg hup]
      unfold State.opLaneCmd
      simp only [hw 0 (by decide), hw 1 (by decide), hw 2 (by decide), hw 3 (by decide), hw 4 (by decide), Nat.reduceEqDiff, decide_true, decide_false,
        Bool.false_eq_true, false_and, true_and, if_false, hdown]
  exact congrArg Host.Outcome.next ((Taken_access ht).trans hop)

end

theorem laneWake_idle (h : s.lanes[l].st ≠ .sleep ∨ s.pins.ref156 = false) : s.laneWake l = s := by
  refine if_neg fun hc => ?_
  rcases h with h | h
  · exact h hc.1
  · exact ne_true_of_eq_false h hc.2

theorem recalRequest_drained (h : s.drained l = true) : s.recalRequest l = recalibrating s l := if_pos h

theorem recalRequest_waits (h : s.drained l = false) (hup : s.lanes[l].st = .up) (hp : s.bit (F.BPQ_LANE_CTL_RECAL_POLICY l.val) = false) :
    s.recalRequest l = s.setLane l { s.lanes[l] with recal := .waiting } :=
  (if_neg (ne_true_of_eq_false h)).trans (if_pos ⟨hup, by rw [hp]; rfl⟩)

/-- A request for recalibration is refused. -/
def recalRefused (s : State) (l : Fin 48) : State := (s.setLane l { s.lanes[l] with recal := .refused }).laneEvent l E.BPQ_RECAL_REFUSED

theorem recalRequest_refused (h : s.drained l = false) (hp : s.lanes[l].st ≠ .up ∨ s.bit (F.BPQ_LANE_CTL_RECAL_POLICY l.val) = true) :
    s.recalRequest l = recalRefused s l := by
  refine (if_neg (ne_true_of_eq_false h)).trans (if_neg fun hc => ?_)
  rcases hp with hp | hp
  · exact hp hc.1
  · exact absurd hc.2 (by rw [hp]; decide)

theorem recalRefused_frame (s : State) (l : Fin 48) : FrameEv [.lanes] [] s (recalRefused s l) :=
  (setLane_frame s l _).ev.trans (laneEvent_frame _ l _)

theorem recalRefused_recal (s : State) (l : Fin 48) : (recalRefused s l).lanes[l].recal = .refused :=
  (laneEvent_recal _ l _).trans (congrArg Lane.recal (setLane_lane s l _))

/-! ### The reference (R483) -/

/-- The lanes that a loss of the reference meets at work. -/
def lanesAtWork (s : State) : List (Fin 48) :=
  (List.finRange 48).filter (fun l => decide ((s.lane l).st ≠ .off) && decide ((s.lane l).st ≠ .sleep))

/-- A lane falls back to WAKING. -/
def refFall (t : State) (l : Fin 48) : State :=
  (if (t.lane l).st = .up then t.bump (R.BPQ_CNT_LINK_DOWN l.val) else t).laneTo l .waking

/-- The lanes fall back to WAKING and each raises its loss. -/
def refFallen (s : State) (ls : List (Fin 48)) : State :=
  ls.foldl (fun (t : State) (l : Fin 48) => t.laneEvent l E.BPQ_REF_LOSS) (ls.foldl refFall s)

/-- The pin of the reference is clear. -/
def refGone (s : State) : State := { s with pins := { s.pins with ref156 := false } }

theorem exec_refLoss (s : State) : exec .refLoss s = .next (refGone (refFallen s (lanesAtWork s))) := rfl

theorem refFall_frame (t : State) (l : Fin 48) : FrameEv [.lanes, .timers] ((List.range 48).map R.BPQ_CNT_LINK_DOWN) t (refFall t l) := by
  have hk : R.BPQ_CNT_LINK_DOWN l.val ∈ (List.range 48).map R.BPQ_CNT_LINK_DOWN := List.mem_map_of_mem (List.mem_range.2 l.isLt)
  exact (FrameEv.ite ((FrameEv.refl _ _ t).bump _ hk) (FrameEv.refl _ _ t)).trans ((laneTo_frame _ l _).ev.mono (List.Subset.refl _) (List.nil_subset _))

theorem refFallen_frame (s : State) (ls : List (Fin 48)) :
    FrameEv [.lanes, .timers] ((List.range 48).map R.BPQ_CNT_LINK_DOWN) s (refFallen s ls) :=
  (FrameEv.foldl refFall_frame ls s).trans
    (FrameEv.foldl (fun t l => (laneEvent_frame t l _).mono (by decide) (List.nil_subset _)) ls _)

theorem lanesAtWork_nil (h : ∀ l : Fin 48, s.lanes[l].st = .off ∨ s.lanes[l].st = .sleep) : lanesAtWork s = [] := by
  refine List.filter_eq_nil_iff.2 fun l _ => ?_
  rcases h l with h | h
  · have hoff : (s.lane l).st = .off := h
    rw [hoff]
    decide
  · have hsleep : (s.lane l).st = .sleep := h
    rw [hsleep]
    decide

/-! ### The commands of lanes -/

/-- A reply in front of a move. -/
theorem Frame.replied {x : Resp} (h : Frame ps ks (s.reply x) t) (hp : .resp ∈ ps) : Frame ps ks s t := ((Frame.refl ps ks s).reply x hp).trans h

theorem FrameEv.replied {x : Resp} (h : FrameEv ps ks (s.reply x) t) (hp : .resp ∈ ps) : FrameEv ps ks s t := ((FrameEv.refl ps ks s).reply x hp).trans h

/-- What LANE_RECAL leaves of the lane, by what it meets. -/
theorem laneRecal_spec (ht : Taken s r (R.BPQ_LANE_CMD l.val)) (h0 : getField v 0 2 = 0) (h3 : getField v 3 2 = 0) :
    (s.drained l = true → ∃ t, exec (.laneRecal r l v) s = .next t ∧ Frame [.lanes, .timers, .resp] [] s t ∧
      t.lanes = s.lanes.set l { s.lanes[l] with recal := .running, st := .recal }) ∧
    (s.drained l = false → s.lanes[l].st = .up → s.bit (F.BPQ_LANE_CTL_RECAL_POLICY l.val) = false →
      ∃ t, exec (.laneRecal r l v) s = .next t ∧ Frame [.lanes, .resp] [] s t ∧ t.lanes = s.lanes.set l { s.lanes[l] with recal := .waiting }) ∧
    (s.drained l = false → (s.lanes[l].st ≠ .up ∨ s.bit (F.BPQ_LANE_CTL_RECAL_POLICY l.val) = true) →
      ∃ t, exec (.laneRecal r l v) s = .next t ∧ FrameEv [.lanes, .resp] [] s t ∧ t.lanes[l].recal = .refused ∧
        (s.domOn (domainOf (R.HDR_EVT_RAW (P.BPQ + l.val / 4))) = true → Raised t (P.BPQ + l.val / 4) E.BPQ_RECAL_REFUSED)) := by
  have hexec := exec_laneRecal ht h0 h3
  refine ⟨fun hd => ?_, fun hd hup hp => ?_, fun hd hp => ?_⟩
  · exact ⟨_, hexec.trans (congrArg _ (recalRequest_drained (s := s.reply .done) hd)),
      Frame.replied ((setLane_laneTo_frame _ l _ _).mono (by decide) (List.Subset.refl _)) (by decide), setLane_laneTo _ l _ _⟩
  · exact ⟨_, hexec.trans (congrArg _ (recalRequest_waits (s := s.reply .done) hd hup hp)),
      Frame.replied ((setLane_frame _ l _).mono (by decide) (List.Subset.refl _)) (by decide), rfl⟩
  · exact ⟨_, hexec.trans (congrArg _ (recalRequest_refused (s := s.reply .done) hd hp)),
      FrameEv.replied ((recalRefused_frame _ l).mono (by decide) (List.Subset.refl _)) (by decide), recalRefused_recal _ l,
      fun hon => laneEvent_raised _ hon (by decide)⟩

/-- PCS lock and its loss. -/
theorem pcs_spec (l : Fin 48) (s : State) :
    (modeEth s.lanes[l].mode = true → s.lanes[l].st = .sync → ∃ t, exec (.pcsLock l) s = .next t ∧ FrameEv [.lanes, .timers] [] s t ∧
      t.lanes = s.lanes.set l { s.lanes[l] with signal := true, st := .up } ∧
      (s.domOn (domainOf (R.HDR_EVT_RAW (P.BPQ + l.val / 4))) = true → Raised t (P.BPQ + l.val / 4) (l.val % 4))) ∧
    (modeEth s.lanes[l].mode = false ∨ s.lanes[l].st ≠ .sync → exec (.pcsLock l) s = .next s) ∧
    (modeEth s.lanes[l].mode = true → s.lanes[l].st = .up → ∃ t, exec (.pcsLockLoss l) s = .next t ∧
      FrameEv [.lanes, .timers] [R.BPQ_CNT_LINK_DOWN l.val] s t ∧
      t.lanes = s.lanes.set l { s.lanes[l] with st := s.startOf l s.lanes[l].mode } ∧
      t.rd (R.BPQ_CNT_LINK_DOWN l.val) = s.rd (R.BPQ_CNT_LINK_DOWN l.val) + 1 ∧
      (s.domOn (domainOf (R.HDR_EVT_RAW (P.BPQ + l.val / 4))) = true → Raised t (P.BPQ + l.val / 4) (l.val % 4))) ∧
    (modeEth s.lanes[l].mode = false ∨ s.lanes[l].st ≠ .up → exec (.pcsLockLoss l) s = .next s) := by
  have hidle {x : LaneSt} {u : State} (h : modeEth s.lanes[l].mode = false ∨ s.lanes[l].st ≠ x) :
      (if modeEth (s.lane l).mode then (if (s.lane l).st = x then u else s) else s) = s := by
    rcases h with h | h
    · exact if_neg (ne_true_of_eq_false h)
    · exact (congrArg (fun z => if modeEth (s.lane l).mode then z else s) (if_neg h)).trans (ite_self s)
  refine ⟨fun hm hs => ?_, fun h => congrArg Host.Outcome.next (hidle h), fun hm hs => ?_, fun h => congrArg Host.Outcome.next (hidle h)⟩
  · refine ⟨_, congrArg Host.Outcome.next ((if_pos hm).trans (if_pos hs)), (setLane_laneTo_frame s l _ .up).ev.trans ((laneEvent_frame _ l _).mono (by decide) (List.Subset.refl _)),
      (linkChg_lanes _ l).trans (setLane_laneTo s l _ .up), fun hon => linkChg_raised ((laneTo_domOn _ l _ _).trans hon)⟩
  · exact ⟨linkFallen s l, congrArg Host.Outcome.next ((if_pos hm).trans (if_pos hs)), linkFallen_frame s l, linkFallen_lanes s l, linkFallen_counts s l,
      linkFallen_raised⟩

theorem eventReg_trainFail : ∀ l : Fin 48, eventReg (R.BPQ_CNT_TRAIN_FAIL l.val) = false := by decide

/-- Settles O38: each move is `setLane`, `laneTo` and `laneEvent` one after another. -/
theorem backplaneLanes : Obligations.BackplaneLanes := by
  unfold Obligations.BackplaneLanes
  refine ⟨fun r l v s ht => ?ctl, fun r l v s ht hv hup => ?sleep, fun r l v s ht h0 hv => ?wake, fun r l v s ht h0 h3 => laneRecal_spec ht h0 h3,
    fun r l v s ht hv h4 => ?abort, fun r l v s ht hv => ?retrain, fun l mode fec s => ?negotiate, fun l s => ?train, pcs_spec, fun l s => ?recal,
    fun l s => ?signal, fun l s => ?pll, fun s => ?ref⟩
  case ctl =>
    refine ⟨fun hlimp hmode => congrArg Host.Outcome.next ((Taken_access ht).trans (opLaneCtl_limp (s := s.reply .done) hlimp hmode)),
      fun hlimp hoff => laneCtlWrite_restarts ht hlimp hoff, fun hlimp hoff hsleep htx => ?_, fun hlimp hoff hsleep htx => ?_⟩
    · exact ⟨_, laneCtlWrite_waits ht hlimp hoff hsleep htx, Frame.replied ((restartAsked_frame _ l v).mono (by decide) (List.Subset.refl _)) (by decide), rfl⟩
    · exact ⟨_, laneCtlWrite_now ht hlimp hoff hsleep htx, Frame.replied ((restartAsked_frame _ l v).mono (by decide) (List.Subset.refl _)) (by decide), rfl⟩
  case sleep =>
    have hexec := exec_laneSleep ht hv hup
    have hlane : ((s.reply .done).setLane l { s.lanes[l] with todo := some .sleep }).lanes[l] = { s.lanes[l] with todo := some .sleep } := setLane_lane _ l _
    refine ⟨fun htx => ?_, fun htx => ?_⟩
    · rw [laneTodo_sleeping (by rw [hlane]) (by rw [hlane]; exact htx)] at hexec
      refine ⟨_, hexec, Frame.replied (((setLane_frame _ l _).mono (by decide) (List.Subset.refl _)).trans
        ((setLane_laneTo_frame _ l _ _).mono (by decide) (List.Subset.refl _))) (by decide), (setLane_laneTo _ l _ _).trans ?_⟩
      have htwice : ((s.reply .done).setLane l { s.lanes[l] with todo := some .sleep }).lane l = { s.lanes[l] with todo := some .sleep } := hlane
      rw [htwice]
      exact Vector.set_set _ l.isLt
    · rw [laneTodo_waits (by rw [hlane]; exact htx)] at hexec
      exact ⟨_, hexec, Frame.replied ((setLane_frame _ l _).mono (by decide) (List.Subset.refl _)) (by decide), rfl⟩
  case wake =>
    have hexec := exec_laneWake ht h0 hv
    refine ⟨fun hs href => ?_, fun h => hexec.trans (congrArg _ (laneWake_idle (s := s.reply .done) h))⟩
    exact ⟨_, hexec.trans (congrArg _ (laneWake_wakes (s := s.reply .done) hs href)),
      Frame.replied ((laneTo_frame _ l _).mono (by decide) (List.Subset.refl _)) (by decide), laneTo_lanes _ l _⟩
  case abort =>
    have hexec := exec_laneRecalAbort ht hv h4
    refine ⟨fun hw => ?_, fun hw => hexec.trans (congrArg _ (if_neg hw))⟩
    exact ⟨_, hexec.trans (congrArg _ (if_pos hw)), Frame.replied ((setLane_frame _ l _).mono (by decide) (List.Subset.refl _)) (by decide), rfl⟩
  case retrain =>
    have hexec := exec_laneRetrain ht hv
    refine ⟨fun hup => ?_, fun hup => hexec.trans (congrArg _ (if_neg hup))⟩
    exact ⟨_, hexec.trans (congrArg _ (if_pos hup)), FrameEv.replied ((linkFallen_frame _ l).mono (by decide) (List.Subset.refl _)) (by decide),
      linkFallen_lanes _ l, linkFallen_counts _ l, fun hon => linkFallen_raised hon⟩
  case negotiate =>
    refine ⟨fun hs had => ⟨_, if_neg (not_or.mpr ⟨not_not_intro hs, not_not_intro had⟩), setLane_laneTo_frame s l _ _, setLane_laneTo s l _ _⟩,
      fun h => if_pos (h.imp_right ne_true_of_eq_false)⟩
  case train =>
    refine ⟨fun hs => ⟨_, congrArg Host.Outcome.next (if_pos hs), setLane_laneTo_frame s l _ _, setLane_laneTo s l _ _⟩,
      fun hs => congrArg Host.Outcome.next (if_neg hs), fun hs hr => ?_, fun h => congrArg Host.Outcome.next (if_neg fun hc => ?_)⟩
    · have hk : eventReg (R.BPQ_CNT_TRAIN_FAIL l.val) = false := eventReg_trainFail l
      exact ⟨_, congrArg Host.Outcome.next (if_pos ⟨hs, hr⟩), (((FrameEv.refl _ _ s).bump _ (List.mem_singleton_self _)).trans
        ((laneEvent_frame _ l _).mono (by decide) (List.nil_subset _))).trans ((laneTo_frame _ l _).ev.mono (by decide) (List.nil_subset _)),
        (laneTo_rd _ l _ _).trans ((laneEvent_rd _ l _ hk).trans (State.rd_bump_self s _)), laneTo_st _ l _⟩
    · rcases h with h | h
      · exact h hc.1
      · exact ne_true_of_eq_false h hc.2
  case recal =>
    refine ⟨fun hw hd => ⟨recalibrating s l, congrArg Host.Outcome.next (if_pos ⟨hw, hd⟩), setLane_laneTo_frame s l _ _, setLane_laneTo s l _ _⟩,
      fun h => congrArg Host.Outcome.next (if_neg fun hc => ?_), fun hs => ?_, fun hs => congrArg Host.Outcome.next (if_neg hs)⟩
    · rcases h with h | h
      · exact h hc.1
      · exact ne_true_of_eq_false h hc.2
    · refine ⟨_, congrArg Host.Outcome.next (if_pos hs), (setLane_laneTo_frame s l _ _).ev.trans ((laneEvent_frame _ l _).mono (by decide) (List.Subset.refl _)),
        (laneEvent_st _ l _).trans (laneTo_st _ l _), (laneEvent_recal _ l _).trans ?_, fun hon => laneEvent_raised _ ((laneTo_domOn _ l _ _).trans hon) (by decide)⟩
      rw [laneTo_lane, setLane_lane]
  case signal =>
    have hlane : (s.setLane l { s.lanes[l] with signal := true }).lanes[l] = { s.lanes[l] with signal := true } := setLane_lane _ l _
    refine ⟨fun hw => ⟨_, congrArg Host.Outcome.next (if_neg (ne_true_of_eq_false hw)), setLane_frame s l _, rfl⟩, fun hw hs href => ?_,
      fun hw => congrArg Host.Outcome.next (if_neg fun hc => ne_true_of_eq_false hw hc.1), fun q hq hw hd hs href => ?_⟩
    · have hwakes := laneWake_wakes (s := s.setLane l { s.lanes[l] with signal := true }) (l := l) (by rw [hlane]; exact hs) href
      exact ⟨_, congrArg Host.Outcome.next ((if_pos hw).trans hwakes), setLane_laneTo_frame s l _ _, setLane_laneTo s l _ _⟩
    · exact ⟨_, congrArg Host.Outcome.next ((if_pos ⟨hw, List.any_eq_true.mpr ⟨q, hq, decide_eq_true hd⟩⟩).trans (laneWake_wakes hs href)),
        laneTo_frame s l _, laneTo_lanes s l _⟩
  case pll =>
    refine ⟨fun hs href => ?_, fun h => if_pos (h.imp_right ne_true_of_eq_false)⟩
    have hexec : exec (.pllReady l) s = .next ((if (s.bit (F.BPQ_LANE_CTL_KEEP_COEF l.val) && s.lanes[l].coef) || !modeTrains s.lanes[l].mode
        then s.laneTo l .sync else s.laneStart l).laneEvent l E.BPQ_WAKE_DONE) := if_neg (not_or.mpr ⟨not_not_intro hs, not_not_intro href⟩)
    refine ⟨_, hexec, ((FrameEv.ite (laneTo_frame s l _).ev (laneTo_frame s l _).ev).trans ((laneEvent_frame _ l _).mono (by decide) (List.Subset.refl _))),
      (laneEvent_st _ l _).trans ?_, fun hon => laneEvent_raised _ ?_ (by decide)⟩
    · split
      · exact laneTo_st s l _
      · exact laneTo_st s l _
    · split
      · exact (laneTo_domOn s l _ _).trans hon
      · exact (laneTo_domOn s l _ _).trans hon
  case ref =>
    have hgone (u : State) : Frame [.pins] [] u (refGone u) := (Frame.refl _ _ u).upd (SameBut.upd_pins (List.Subset.refl _) (SameBut.refl _ u)) (List.Subset.refl _) rfl
    have hret : Frame [.pins] [] s { s with pins := { s.pins with ref156 := true } } :=
      (Frame.refl _ _ s).upd (SameBut.upd_pins (List.Subset.refl _) (SameBut.refl _ s)) (List.Subset.refl _) rfl
    refine ⟨⟨_, rfl, hret, rfl⟩, fun h => ⟨refGone s, ?_, hgone s, rfl⟩, ⟨_, exec_refLoss s, ?_, ?_⟩⟩
    · rw [exec_refLoss, lanesAtWork_nil h]
      rfl
    · exact ((refFallen_frame s _).mono (by decide) (List.Subset.refl _)).trans ((hgone _).ev.mono (by decide) (List.nil_subset _))
    · exact congrArg (fun p : Pins => { p with ref156 := false }) ((refFallen_frame s (lanesAtWork s)).1 .pins (by decide))

end Sys2Proof.Proofs.LaneMoves
end

section
/-! PROOF. The Ethernet ports: selections, frames, flow control, collisions, the PHY and MDIO (O39). -/

namespace Sys2Proof.Proofs.PortMoves

open Sys2Proof Sys2Proof.Machine
set_option Elab.async false
open Sys2Proof.Proofs.PortCommands

variable {s t : State} {r : Req} {v : Word} {e : EthPort} {l : Fin 48} {p : Fin 8}

/-! ### Selections (R452, R453) -/

theorem laneSelect_idle (h : s.lanes[l].st ≠ .up ∨ s.ethUp (.lane l) = false ∨ s.bit F.SCH_SCH_CTL_EN_BP = false ∨
    s.lanes[l].mac.tx.isSome = true ∨ s.lanes[l].todo.isSome = true ∨ s.quieting = true) : exec (.laneSelect l) s = .next s := by
  have hbusy : (s.lane l).st ≠ .up ∨ ¬ s.ethUp (.lane l) ∨ ¬ s.bit F.SCH_SCH_CTL_EN_BP ∨ (s.lane l).mac.tx.isSome ∨
      (s.lane l).todo.isSome ∨ (s.tim.wait.isSome ∧ decide ((s.gateList l.val (s.gateCopy l)).len ≠ 0)) ∨ s.quieting :=
    h.imp_right (Or.imp ne_true_of_eq_false (Or.imp ne_true_of_eq_false (Or.imp_right (Or.imp_right Or.inr))))
  show execLaneSelect l s = _
  unfold execLaneSelect
  dsimp only
  rw [if_pos hbusy]

/-- A lane that can send and whose queues hold nothing that may go selects nothing. -/
theorem laneSelect_none (hup : s.lanes[l].st = .up) (heth : s.ethUp (.lane l) = true) (hen : s.bit F.SCH_SCH_CTL_EN_BP = true)
    (htx : s.lanes[l].mac.tx = none) (htodo : s.lanes[l].todo = none) (hwait : s.tim.wait = none) (hq : s.quieting = false)
    {s1 s2 s3 s4 : State} {el : List Nat}
    (h1 : s1 = (laneQueues l).foldl (fun (t : State) q => t.cleanHead (.lane l) q (t.queue q).length) s)
    (h2 : s2 = (laneQueues l).foldl (fun (t : State) q => if (t.waiting q) = [] then t else t.consult (q + 1024)) s1)
    (hel : el = (laneQueues l).filter (fun q => s2.laneEligible l q)) (h3 : s3 = s2.noteEligible (laneQueues l) el)
    (h4 : s3.choose (1024 + l.val) el = (none, s4)) : exec (.laneSelect l) s = .next s4 := by
  have hfree : ¬((s.lane l).st ≠ .up ∨ ¬ s.ethUp (.lane l) ∨ ¬ s.bit F.SCH_SCH_CTL_EN_BP ∨ (s.lane l).mac.tx.isSome ∨
      (s.lane l).todo.isSome ∨ (s.tim.wait.isSome ∧ decide ((s.gateList l.val (s.gateCopy l)).len ≠ 0)) ∨ s.quieting) := by
    unfold State.lane
    rw [hup, heth, hen, htx, htodo, hwait, hq]
    simp
  show execLaneSelect l s = _
  unfold execLaneSelect
  dsimp only
  rw [if_neg hfree, ← h1, ← h2, ← hel, ← h3, h4]

theorem portSelect_idle (h : s.ethUp (.port p) = false ∨ s.bit F.SCH_SCH_CTL_EN_BP = false ∨ s.lports[p].mac.tx.isSome = true ∨
    s.running (T.pause (48 + p.val) 8) = true ∨ s.quieting = true) : exec (.portSelect p) s = .next s :=
  if_pos (h.imp ne_true_of_eq_false (Or.imp_left ne_true_of_eq_false))

theorem portSelect_none (heth : s.ethUp (.port p) = true) (hen : s.bit F.SCH_SCH_CTL_EN_BP = true) (htx : s.lports[p].mac.tx = none)
    (hpause : s.running (T.pause (48 + p.val) 8) = false) (hquiet : s.quieting = false) {s1 s2 : State} {qs el : List Nat}
    (hqs : qs = (List.range 4).map (fun q => 8960 + 4 * p.val + q))
    (h1 : s1 = qs.foldl (fun (t : State) q => t.cleanHead (.port p) q (t.queue q).length) s)
    (hel : el = qs.filter (fun q => decide (s1.waiting q ≠ []))) (h2 : s2 = s1.noteEligible qs el) (hnone : el = []) :
    exec (.portSelect p) s = .next s2 := by
  have hfree : ¬(¬ s.ethUp (.port p) ∨ ¬ s.bit F.SCH_SCH_CTL_EN_BP ∨ s.lports[p].mac.tx.isSome ∨
      s.running (T.pause (48 + p.val) 8) ∨ s.quieting) := by
    rw [heth, hen, htx, hpause, hquiet]
    simp
  show execPortSelect p s = _
  unfold execPortSelect
  dsimp only
  rw [if_neg hfree, ← hqs, ← h1, ← hel, ← h2, hnone]

/-! ### Reception (R491, R492) -/

/-- How a received frame is judged. -/
theorem frameReceive_judged (heth : s.ethUp e = true) (f : FrameIn) :
    (f.len ≤ 63 → exec (.frameReceive e f) s = .next (((s.countFec e f).portBump e R.BPQ_CNT_RUNT R.LMC_CNT_RUNT).discardFrame f)) ∧
    (63 < f.len → (s.countFec e f).maxFrame e < f.len → exec (.frameReceive e f) s =
      .next ((((s.countFec e f).portBump e R.BPQ_CNT_OVERSIZE R.LMC_CNT_OVERSIZE).macEvent e E.BPQ_OVERSIZE E.LMC_OVERSIZE).discardFrame f)) ∧
    (63 < f.len → f.len ≤ (s.countFec e f).maxFrame e → (f.fcsOk = false ∨ f.unc ≠ 0) →
      exec (.frameReceive e f) s = .next (((s.countFec e f).portBump e R.BPQ_CNT_FCS R.LMC_CNT_FCS).discardFrame f)) ∧
    (63 < f.len → f.len ≤ (s.countFec e f).maxFrame e → f.fcsOk = true → f.unc = 0 → halfAt f.bytes 12 = 0x8808 →
      exec (.frameReceive e f) s = .next (((s.countFec e f).countRxOk e).controlFrame e f.bytes)) := by
  have hin (u : State) (hu : s.frameIn e f = u) : exec (.frameReceive e f) s = .next u := congrArg Host.Outcome.next ((if_pos heth).trans hu)
  refine ⟨fun hlen => hin _ (if_pos hlen), fun hlen hmax => hin _ ((if_neg (Nat.not_le.mpr hlen)).trans (if_pos hmax)), fun hlen hmax hbad => hin _ ?_,
    fun hlen hmax hfcs hunc htype => hin _ ?_⟩
  · exact (if_neg (Nat.not_le.mpr hlen)).trans ((if_neg (Nat.not_lt.mpr hmax)).trans (if_pos (hbad.imp_left ne_true_of_eq_false)))
  · exact (if_neg (Nat.not_le.mpr hlen)).trans ((if_neg (Nat.not_lt.mpr hmax)).trans
      ((if_neg (not_or.mpr ⟨not_not_intro hfcs, not_not_intro hunc⟩)).trans (if_pos htype)))

/-! ### PAUSE and PFC (R496, R497) -/

theorem setPause_timers (s : State) (e : EthPort) (pri quanta b : Nat) : (s.setPause e pri quanta).running b =
    if b = T.pause (srcOf e) pri then decide (quanta ≠ 0) else s.running b := by
  unfold State.setPause
  by_cases hz : quanta = 0
  · rw [if_pos hz, State.running_stopTimer, decide_eq_false (not_not_intro hz)]
    by_cases hb : b = T.pause (srcOf e) pri <;> simp [hb]
  · rw [if_neg hz, State.running_startTimer, decide_eq_true hz]
    by_cases hb : b = T.pause (srcOf e) pri <;> simp [hb]

/-- A PAUSE frame has been counted. -/
def pauseCounted (s : State) (e : EthPort) : State := (s.countRxOk e).portBump e R.BPQ_CNT_PAUSE_RX R.LMC_CNT_PAUSE_RX

theorem pauseCounted_frame (s : State) (e : EthPort) : Frame [] (match e with
    | .lane l => [R.BPQ_CNT_RX_OK_LO l.val, R.BPQ_CNT_RX_OK_HI l.val, R.BPQ_CNT_PAUSE_RX l.val]
    | .port p => [R.LMC_CNT_RX_OK p.val, R.LMC_CNT_PAUSE_RX p.val]) s (pauseCounted s e) := by
  cases e with
  | lane l => exact (((Frame.refl _ _ s).wr _ _ (by simp)).wr _ _ (by simp)).bump _ (by simp)
  | port p => exact ((Frame.refl _ _ s).bump _ (by simp)).bump _ (by simp)

theorem exec_pauseReceive {quanta : BitVec 16} (heth : s.ethUp e = true) (hfc : s.fcMode e = 1) :
    exec (.pauseReceive e quanta) s = .next ((pauseCounted s e).setPause e 8 quanta.toNat) :=
  congrArg Host.Outcome.next ((if_pos heth).trans (if_pos ((countRxOk_fcMode s e).trans hfc)))

theorem exec_pauseReceive_ignored {quanta : BitVec 16} (heth : s.ethUp e = true) (hfc : s.fcMode e ≠ 1) :
    exec (.pauseReceive e quanta) s = .next ((s.countRxOk e).fcIgnore e) :=
  congrArg Host.Outcome.next ((if_pos heth).trans (if_neg fun h => hfc ((countRxOk_fcMode s e).symm.trans h)))

theorem setPause_frame (s : State) (e : EthPort) (pri quanta : Nat) : Frame [.timers] [] s (s.setPause e pri quanta) :=
  (Frame.refl _ _ s).upd (State.setPause_keeps e pri quanta (List.Subset.refl _) (SameBut.refl _ s)) (List.Subset.refl _)
    (State.setPause_keeps e pri quanta (List.Subset.refl _) (SameBut.refl _ s) .regs (by decide))

theorem stopTimer_frame (s : State) (b : Nat) : Frame [.timers] [] s (s.stopTimer b) := (Frame.refl _ _ s).stopTimer _ (by decide)

/-! ### PAUSE goes out (R498) -/

theorem pauseSend_off (h : (s.fcThr e).1 = 0 ∨ s.ethUp e = false) : s.pauseSend e = s := by
  unfold State.pauseSend
  dsimp only
  exact if_pos (h.imp_right ne_true_of_eq_false)

theorem pauseAgain_off (h : (s.fcThr e).1 = 0 ∨ s.ethUp e = false) : s.pauseAgain e = s := by
  unfold State.pauseAgain
  dsimp only
  exact if_pos (h.imp_right ne_true_of_eq_false)

section

variable (hthr : (s.fcThr e).1 ≠ 0) (heth : s.ethUp e = true)
include hthr heth

theorem pauseSend_resumes (hfc : s.fcMode e = 1) (hon : (s.mac e).xoff = true) (hheld : s.heldKib e none ≤ (s.fcThr e).2.1) :
    s.pauseSend e = (s.setMac e { s.mac e with xoff := false }).sendPause e false none 0 := by
  unfold State.pauseSend
  dsimp only
  rw [if_neg (not_or.mpr ⟨hthr, not_not_intro heth⟩), if_pos hfc, if_neg (fun h => h.1 hon), if_pos ⟨hon, hheld⟩]

theorem pauseAgain_quiet (hfc : s.fcMode e = 1) (hoff : (s.mac e).xoff = false) : s.pauseAgain e = s := by
  unfold State.pauseAgain
  dsimp only
  rw [if_neg (not_or.mpr ⟨hthr, not_not_intro heth⟩), if_pos hfc, if_neg (fun h => ne_true_of_eq_false hoff h.1)]

theorem pauseAgain_pfc (hfc : s.fcMode e = 2) : s.pauseAgain e =
    if s.priorities e (fun k => decide ((s.fcThr e).2.1 < k)) &&& (s.mac e).pfc ≠ 0 then
      s.sendPause e true (some (s.priorities e (fun k => decide ((s.fcThr e).2.1 < k)) &&& (s.mac e).pfc)) (s.fcThr e).2.2 else s := by
  unfold State.pauseAgain
  dsimp only
  rw [if_neg (not_or.mpr ⟨hthr, not_not_intro heth⟩), if_neg (by rw [hfc]; decide), if_pos hfc]

/-- The PFC frames of one crossing: those that pause and those that resume. -/
def pfcSent (s : State) (e : EthPort) (on off : BitVec 8) (time : Nat) : State :=
  let u := if on ≠ 0 then s.sendPause e true (some on) time else s
  if off ≠ 0 then u.sendPause e false (some off) 0 else u

theorem pauseSend_pfc (hfc : s.fcMode e = 2) : s.pauseSend e =
    (pfcSent s e (s.priorities e (fun k => decide ((s.fcThr e).1 ≤ k)) &&& ~~~ (s.mac e).pfc)
      (s.priorities e (fun k => decide (k ≤ (s.fcThr e).2.1)) &&& (s.mac e).pfc) (s.fcThr e).2.2).setMac e { s.mac e with pfc :=
      ((s.mac e).pfc ||| (s.priorities e (fun k => decide ((s.fcThr e).1 ≤ k)) &&& ~~~ (s.mac e).pfc)) &&&
        ~~~ (s.priorities e (fun k => decide (k ≤ (s.fcThr e).2.1)) &&& (s.mac e).pfc) } := by
  unfold State.pauseSend
  dsimp only
  rw [if_neg (not_or.mpr ⟨hthr, not_not_intro heth⟩), if_neg (by rw [hfc]; decide), if_pos hfc]
  rfl

end

/-- The pages of the Ethernet ports. -/
abbrev ethPages : List Nat := P.LMC :: (List.range 12).map (P.BPQ + ·)

theorem sendPause_frame (s : State) (e : EthPort) (xoff : Bool) (pfc : Option (BitVec 8)) (quanta : Nat) :
    PageEv [] ethPages s (s.sendPause e xoff pfc quanta) := by
  have hlane : ∀ l : Fin 48, pageOf (R.BPQ_CNT_PAUSE_TX l.val) ∈ ethPages := by decide
  have hport : ∀ p : Fin 8, pageOf (R.LMC_CNT_PAUSE_TX p.val) ∈ ethPages := by decide
  cases e with
  | lane l => exact ((PageEv.refl _ _ s).bump _ (hlane l)).emit _
  | port p => exact ((PageEv.refl _ _ s).bump _ (hport p)).emit _

theorem pfcSent_frame (s : State) (e : EthPort) (on off : BitVec 8) (time : Nat) : PageEv [] ethPages s (pfcSent s e on off time) := by
  have hon : PageEv [] ethPages s (if on ≠ 0 then s.sendPause e true (some on) time else s) := PageEv.ite (sendPause_frame _ _ _ _ _) (PageEv.refl _ _ s)
  exact PageEv.ite (hon.trans (sendPause_frame _ _ _ _ _)) hon

/-! ### Collisions and back-pressure (R502, R504) -/

theorem setPort_frame (s : State) (p : Fin 8) (x : LPort) : Frame [.lports] [] s (s.setPort p x) :=
  (Frame.refl _ _ s).upd (State.setPort_keeps p x (List.Subset.refl _) (SameBut.refl _ s)) (List.Subset.refl _) rfl

theorem collision_idle {bit : Nat} {rnd : BitVec 10} (h : s.lports[p].full = true ∨ s.lports[p].mac.tx = none ∨ s.lports[p].backoff.isSome = true) :
    exec (.collision p bit rnd) s = .next s := if_pos h

section

variable {bit : Nat} {rnd : BitVec 10} (hhalf : s.lports[p].full = false) (htx : s.lports[p].mac.tx ≠ none) (hfree : s.lports[p].backoff = none)
include hhalf htx hfree

theorem collision_met : ¬(s.lports[p].full ∨ s.lports[p].mac.tx = none ∨ s.lports[p].backoff.isSome) := by
  rw [hhalf, hfree]
  simpa using htx

theorem collision_late (hbit : 512 ≤ bit) : exec (.collision p bit rnd) s = .next (((((s.bump (R.LMC_CNT_COLL p.val)).emit (.jam p)).bump
    (R.LMC_CNT_LATE_COLL p.val)).portEvent p E.LMC_LATE_COLL).endTx (.port p) State.leaveQueue) :=
  (if_neg (collision_met hhalf htx hfree)).trans (if_pos hbit)

theorem collision_gives_up (hbit : bit < 512) (htries : 15 ≤ s.lports[p].tries) : exec (.collision p bit rnd) s =
    .next (((((s.bump (R.LMC_CNT_COLL p.val)).emit (.jam p)).bump (R.LMC_CNT_EXC_COLL p.val)).portEvent p E.LMC_EXC_COLL).endTx (.port p) State.leaveQueue) :=
  (if_neg (collision_met hhalf htx hfree)).trans ((if_neg (Nat.not_le.mpr hbit)).trans (if_pos htries))

/-- The frame waits for its back-off. -/
def backedOff (s : State) (p : Fin 8) (slots : Nat) : State :=
  (((s.bump (R.LMC_CNT_COLL p.val)).emit (.jam p)).setPort p { s.lports[p] with tries := s.lports[p].tries + 1, backoff := some slots }).startTimer
    (T.backoff p.val)

theorem collision_waits (hbit : bit < 512) (htries : s.lports[p].tries < 15) :
    exec (.collision p bit rnd) s = .next (backedOff s p (rnd.toNat % 2 ^ min 10 (s.lports[p].tries + 1))) :=
  (if_neg (collision_met hhalf htx hfree)).trans ((if_neg (Nat.not_le.mpr hbit)).trans (if_neg (Nat.not_le.mpr htries)))

end

theorem backedOff_frame (s : State) (p : Fin 8) (slots : Nat) : Frame [.lports, .out, .timers] [R.LMC_CNT_COLL p.val] s (backedOff s p slots) := by
  have hemit : Frame [.lports, .out, .timers] [R.LMC_CNT_COLL p.val] s ((s.bump (R.LMC_CNT_COLL p.val)).emit (.jam p)) :=
    ((Frame.refl _ _ s).bump _ (List.mem_singleton_self _)).upd (State.emit_keeps _ (List.Subset.refl _) (SameBut.refl _ _)) (by decide) rfl
  exact (hemit.trans ((setPort_frame _ p _).mono (by decide) (List.nil_subset _))).startTimer _ (by decide)

/-! ### The PHY of a port (R505, R506) -/

/-- Speed and duplex that a poll finds: forced, or by the best common ability. -/
def phyMode (s : State) (p : Fin 8) (c : BitVec 16) : Bool × Bool :=
  if s.bit (F.LMC_PORT_CFG_FORCE p.val) then (s.bit (F.LMC_PORT_CFG_FORCE_100 p.val), s.bit (F.LMC_PORT_CFG_FORCE_FULL p.val))
  else if c.getLsbD 8 then (true, true)
  else if c.getLsbD 7 then (true, false)
  else if c.getLsbD 6 then (false, true)
  else if c.getLsbD 5 then (false, false)
  else (s.lports[p].hundred, s.lports[p].full)

/-- A port that has been polled. -/
def polled (s : State) (p : Fin 8) (up : Bool) (m : Bool × Bool) : State :=
  let u := s.setPort p { s.lports[p] with link := up, hundred := m.1, full := m.2 }
  if up = s.lports[p].link then u else u.portEvent p p.val

theorem exec_phyPoll {r1 r4 r5 : BitVec 16} (hen : s.bit (F.LMC_PORT_CFG_EN p.val) = true) (hlimp : s.pwr.limp = false) (hon : s.domOn 27 = true) :
    exec (.phyPoll p r1 r4 r5) s = .next (polled s p (r1.getLsbD 2) (phyMode s p (r4 &&& r5))) :=
  if_neg (by simp [hen, hlimp, hon])

theorem portEvent_frame (s : State) (p : Fin 8) (b : Nat) : FrameEv [.lports] [] s (s.portEvent p b) := by
  unfold State.portEvent
  exact (FrameEv.ite (setPort_frame s p _).ev (FrameEv.refl _ _ s)).andFire _ _

theorem portEvent_raised (b : Nat) (hon : s.domOn (domainOf (R.HDR_EVT_RAW P.LMC)) = true) (hb : b < 32) : Raised (s.portEvent p b) P.LMC b := by
  unfold State.portEvent
  dsimp only
  split
  · exact State.fire_raised (s := s.setPort p _) hon hb
  · exact State.fire_raised hon hb

theorem portEvent_rd (s : State) (p : Fin 8) (b : Nat) {k : Nat} (hk : eventReg k = false) : (s.portEvent p b).rd k = s.rd k :=
  (portEvent_frame s p b).2 k List.not_mem_nil hk

theorem polled_frame (s : State) (p : Fin 8) (up : Bool) (m : Bool × Bool) : FrameEv [.lports] [] s (polled s p up m) :=
  FrameEv.ite (setPort_frame s p _).ev ((setPort_frame s p _).ev.trans (portEvent_frame _ p _))

theorem polled_port (s : State) (p : Fin 8) (up : Bool) (m : Bool × Bool) :
    (polled s p up m).lports[p].link = up ∧ (polled s p up m).lports[p].hundred = m.1 ∧ (polled s p up m).lports[p].full = m.2 := by
  have hport : (s.setPort p { s.lports[p] with link := up, hundred := m.1, full := m.2 }).lports[p] =
      { s.lports[p] with link := up, hundred := m.1, full := m.2 } := setPort_port s p _
  unfold polled
  dsimp only
  split
  · rw [hport]
    exact ⟨rfl, rfl, rfl⟩
  · obtain ⟨c, hc⟩ := portEvent_port (s.setPort p { s.lports[p] with link := up, hundred := m.1, full := m.2 }) p p.val
    rw [hc, hport]
    exact ⟨rfl, rfl, rfl⟩

theorem polled_raised (hon : s.domOn (domainOf (R.HDR_EVT_RAW P.LMC)) = true) {up : Bool} (h : up ≠ s.lports[p].link) (m : Bool × Bool) :
    Raised (polled s p up m) P.LMC p.val := by
  unfold polled
  dsimp only
  rw [if_neg h]
  exact portEvent_raised (s := s.setPort p _) p.val hon (by omega)

theorem stepped_spec (s : State) (p : Fin 8) (adv : Nat) (down : Bool) : FrameEv [.lports, .out] [R.LMC_CNT_STEP p.val] s ((s.readvertise p adv).stepPort p down) ∧
    ((s.readvertise p adv).stepPort p down).rd (R.LMC_CNT_STEP p.val) = s.rd (R.LMC_CNT_STEP p.val) + 1 ∧
    (s.domOn (domainOf (R.HDR_EVT_RAW P.LMC)) = true → Raised ((s.readvertise p adv).stepPort p down) P.LMC E.LMC_STEP) := by
  have hk : eventReg (R.LMC_CNT_STEP p.val) = false := (by decide : ∀ p : Fin 8, eventReg (R.LMC_CNT_STEP p.val) = false) p
  have hsend : FrameEv [.lports, .out] [R.LMC_CNT_STEP p.val] s (s.readvertise p adv) := ((FrameEv.refl _ _ s).emit _).emit _
  refine ⟨((hsend.trans ((setPort_frame _ p _).ev.mono (by decide) (List.nil_subset _))).bump _ (List.mem_singleton_self _)).trans
    ((portEvent_frame _ p _).mono (by decide) (List.nil_subset _)), (portEvent_rd _ p _ hk).trans (State.rd_bump_self _ _), fun hon => ?_⟩
  exact portEvent_raised (s := ((s.readvertise p adv).setPort p _).bump _) E.LMC_STEP hon (by decide)

/-! ### MDIO (R507) -/

theorem opMdioCmd_busy (op : Nat) (h : s.mdio ≠ none) : s.opMdioCmd r (mdioWord v op) = s.refuse r R.LMC_MDIO_CMD :=
  (if_neg (not_not_intro (mdioWord_go v op))).trans (if_pos (Option.isSome_iff_ne_none.2 h))

/-- The MDIO holds another frame, or none. -/
def withMdio (s : State) (x : Option Word) : State := { s with mdio := x }

theorem withMdio_frame (s : State) (x : Option Word) : Frame [.mdio] [] s (withMdio s x) :=
  (Frame.refl _ _ s).upd (SameBut.upd_mdio (List.Subset.refl _) (SameBut.refl _ s)) (List.Subset.refl _) rfl

/-- An MDIO frame goes out. -/
def mdioSent (s : State) (w : Word) : State := ((withMdio s (some w)).setFld F.LMC_MDIO_STAT_BUSY 1).emit (.mdio w)

theorem mdioSent_frame (s : State) (w : Word) : Frame [.mdio, .out] [R.LMC_MDIO_STAT] s (mdioSent s w) :=
  (((withMdio_frame s _).mono (by decide) (List.nil_subset _)).setFld F.LMC_MDIO_STAT_BUSY 1 (by decide)).upd
    (State.emit_keeps _ (List.Subset.refl _) (SameBut.refl _ _)) (by decide) rfl

theorem mdioSent_busy (s : State) (w : Word) : (mdioSent s w).bit F.LMC_MDIO_STAT_BUSY = true :=
  decide_eq_true (State.fld_setFld_self _ F.LMC_MDIO_STAT_BUSY 1 (by decide))

/-- What the end of an MDIO frame leaves in MDIO_STAT. -/
def mdioShown (s : State) (w : Word) (data : BitVec 16) (ack : Bool) : State :=
  let u := (withMdio s none).setFld F.LMC_MDIO_STAT_BUSY 0
  if getField w 26 2 = 2 then (u.setFld F.LMC_MDIO_STAT_DATA data.toNat).setFld F.LMC_MDIO_STAT_NO_ACK (b2n (!ack)) else u

theorem exec_mdioFrameDone {w : Word} (h : s.mdio = some w) (data : BitVec 16) (ack : Bool) :
    exec (.mdioFrameDone data ack) s = .next ((mdioShown s w data ack).fire P.LMC E.LMC_MDIO_DONE) := by
  show execMdioFrameDone data ack s = _
  unfold execMdioFrameDone
  rw [h]
  rfl

theorem mdioShown_frame (s : State) (w : Word) (data : BitVec 16) (ack : Bool) : Frame [.mdio] [R.LMC_MDIO_STAT] s (mdioShown s w data ack) := by
  have hend : Frame [.mdio] [R.LMC_MDIO_STAT] s ((withMdio s none).setFld F.LMC_MDIO_STAT_BUSY 0) :=
    ((withMdio_frame s none).mono (List.Subset.refl _) (List.nil_subset _)).setFld F.LMC_MDIO_STAT_BUSY 0 (by decide)
  unfold mdioShown
  dsimp only
  split
  · exact (hend.setFld _ _ (by decide)).setFld _ _ (by decide)
  · exact hend

theorem mdioShown_mdio (s : State) (w : Word) (data : BitVec 16) (ack : Bool) : (mdioShown s w data ack).mdio = none := by
  unfold mdioShown
  dsimp only
  split <;> rfl

theorem mdioShown_data {w : Word} (h : getField w 26 2 = 2) (s : State) (data : BitVec 16) (ack : Bool) :
    (mdioShown s w data ack).fld F.LMC_MDIO_STAT_DATA = data.toNat := by
  unfold mdioShown
  dsimp only
  rw [if_pos h, State.fld_setFld_apart _ F.LMC_MDIO_STAT_NO_ACK F.LMC_MDIO_STAT_DATA _ (by decide) (by decide), State.fld_setFld_self _ _ _ (by decide)]
  exact Nat.mod_eq_of_lt data.isLt

/-- What the MDIO commands leave. -/
theorem mdio_spec (ht : Taken s r R.LMC_MDIO_CMD) {i : Instr} {op : Nat} (hop : op = 1 ∨ op = 2)
    (hexec : exec i s = .next (s.access r R.LMC_MDIO_CMD true (fun t => t.opMdioCmd r (mdioWord v op)))) :
    (s.mdio ≠ none → exec i s = .next ((s.reply .done).refuse r R.LMC_MDIO_CMD)) ∧
    (s.mdio = none → ∃ t, exec i s = .next t ∧ Frame [.mdio, .out, .resp] [R.LMC_MDIO_STAT] s t ∧ t.resp = .done ∧
      t.mdio = some (mdioWord v op) ∧ t.bit F.LMC_MDIO_STAT_BUSY = true) := by
  rw [Taken_access ht] at hexec
  refine ⟨fun h => hexec.trans (congrArg _ (opMdioCmd_busy (s := s.reply .done) op h)), fun h => ?_⟩
  exact ⟨mdioSent (s.reply .done) (mdioWord v op), hexec.trans (congrArg _ (opMdioCmd_sends (s := s.reply .done) hop h)),
    LaneMoves.Frame.replied ((mdioSent_frame _ _).mono (by decide) (List.Subset.refl _)) (by decide), rfl, rfl, mdioSent_busy _ _⟩

/-- Settles O39: selections, judged frames, pause timers, collisions, polls and MDIO frames by the equations of their commands. -/
theorem portsAndFrames : Obligations.PortsAndFrames := by
  unfold Obligations.PortsAndFrames
  refine ⟨fun l s => ⟨laneSelect_idle, fun hup heth hen htx htodo hwait hq s1 s2 s3 s4 el h1 h2 hel h3 =>
      ⟨laneSelect_none hup heth hen htx htodo hwait hq h1 h2 hel h3, fun q => laneSelect_selects hup heth hen htx htodo hwait hq h1 h2 hel h3⟩⟩,
    fun p s => ⟨portSelect_idle, fun heth hen htx hpause hq s1 s2 qs el hqs h1 hel h2 =>
      ⟨portSelect_none heth hen htx hpause hq hqs h1 hel h2, fun q qr => portSelect_selects heth hen htx hpause hq hqs h1 hel h2⟩⟩,
    fun e f s => ?frame, fun e quanta s => ?pause, fun e en quanta s => ?pfc, fun e s => ?expire, fun e s => ?send, fun e s => ?tx,
    fun p bit rnd s => ?collision, fun p s => ?backoff, fun p r1 r4 r5 s => ?poll, fun p s => ?step, fun r v s ht => ?mdio, fun data ack s => ?done⟩
  case frame =>
    refine ⟨fun heth => congrArg Host.Outcome.next (if_neg (ne_true_of_eq_false heth)), fun heth => ?_⟩
    obtain ⟨hrunt, hover, hbad, hctl⟩ := frameReceive_judged heth f
    exact ⟨hrunt, hover, hbad, hctl, fun hlen hmax hfcs hunc htype => frameReceive_accepts heth hlen hmax hfcs hunc htype⟩
  case pause =>
    refine ⟨fun heth => congrArg Host.Outcome.next (if_neg (ne_true_of_eq_false heth)), fun heth hfc => ?_, exec_pauseReceive_ignored⟩
    refine ⟨_, exec_pauseReceive heth hfc, ((pauseCounted_frame s e).mono (List.nil_subset _) (List.Subset.refl _)).trans
      ((setPause_frame _ e _ _).mono (List.Subset.refl _) (List.nil_subset _)), fun b => ?_⟩
    rw [setPause_timers, State.running_of_timers ((pauseCounted_frame s e).1 .timers (by decide))]
  case pfc =>
    refine ⟨fun hlen => if_pos hlen, fun hlen heth => (if_neg (not_not_intro hlen)).trans (congrArg Host.Outcome.next (if_neg (ne_true_of_eq_false heth))),
      pfcReceive_takes, fun hlen heth hfc => (if_neg (not_not_intro hlen)).trans (congrArg Host.Outcome.next ((if_pos heth).trans (if_neg fun h => ?_)))⟩
    exact hfc ((countRxOk_fcMode s e).symm.trans h)
  case expire =>
    exact ⟨⟨_, rfl, stopTimer_frame s _, fun b => State.running_stopTimer s _ b⟩, fun p => ⟨_, rfl, stopTimer_frame s _, fun b => State.running_stopTimer s _ b⟩⟩
  case send =>
    refine ⟨fun h => ⟨congrArg Host.Outcome.next (pauseSend_off h), congrArg Host.Outcome.next (pauseAgain_off h)⟩, fun hthr heth hfc =>
      ⟨pauseSend_pauses hthr heth hfc, fun hon hheld => congrArg Host.Outcome.next (pauseSend_resumes hthr heth hfc hon hheld),
        pauseRefresh_pauses hthr heth hfc, fun hoff => congrArg Host.Outcome.next (pauseAgain_quiet hthr heth hfc hoff)⟩,
      fun hthr heth hfc again hagain => ?_, fun hthr heth hfc => ⟨_, congrArg Host.Outcome.next (pauseSend_pfc hthr heth hfc), pfcSent_frame s e _ _ _⟩⟩
    subst hagain
    exact ⟨fun h => congrArg Host.Outcome.next ((pauseAgain_pfc hthr heth hfc).trans (if_neg (not_not_intro h))),
      fun h => congrArg Host.Outcome.next ((pauseAgain_pfc hthr heth hfc).trans (if_pos h))⟩
  case tx =>
    refine ⟨fun h => ⟨congrArg Host.Outcome.next (if_neg (by rw [h]; decide)), ?_⟩, fun k h => ⟨txUnderrun_ends h, frameTransmitEnd_ends h⟩⟩
    show execFrameTransmitEnd e s = _
    unfold execFrameTransmitEnd
    rw [h]
  case collision =>
    refine ⟨collision_idle, fun hhalf htx hfree => ⟨collision_late hhalf htx hfree, collision_gives_up hhalf htx hfree, fun hbit htries => ?_⟩⟩
    exact ⟨_, collision_waits hhalf htx hfree hbit htries, backedOff_frame s p _, State.rd_bump_self s _, rfl, rfl⟩
  case backoff =>
    refine ⟨fun h => congrArg Host.Outcome.next (if_neg (by rw [h]; decide)), fun h => ?_, fun heth hcx hhalf hbp hthr hheld => ?_,
      fun h => congrArg Host.Outcome.next (if_neg fun hc => ?_)⟩
    · exact ⟨_, congrArg Host.Outcome.next (if_pos (Option.isSome_iff_ne_none.2 h)),
        ((setPort_frame s p _).mono (by decide) (List.Subset.refl _)).stopTimer _ (by decide), rfl⟩
    · exact ⟨_, congrArg Host.Outcome.next (if_pos ⟨heth, hcx, ne_true_of_eq_false hhalf, ne_true_of_eq_false hbp, hthr, hheld⟩),
        ((setPort_frame s p _).mono (List.Subset.refl _) (List.nil_subset _)).bump _ (List.mem_singleton_self _), rfl,
        (State.rd_bump_self _ _).trans (congrArg (· + 1) (State.setPort_rd s p _ _))⟩
    · obtain ⟨heth, hcx, hhalf, hbp, -⟩ := hc
      rcases h with h | h | h | h
      · exact ne_true_of_eq_false h heth
      · exact ne_true_of_eq_false h hcx
      · exact hhalf h
      · exact hbp h
  case poll =>
    refine ⟨fun h => if_pos (h.imp ne_true_of_eq_false (Or.imp_right ne_true_of_eq_false)), fun hen hlimp hon => ?_⟩
    obtain ⟨hlink, hhundred, hfull⟩ := polled_port s p (r1.getLsbD 2) (phyMode s p (r4 &&& r5))
    refine ⟨_, exec_phyPoll hen hlimp hon, polled_frame s p _ _, hlink, fun hf => ?_, fun hf h8 => ?_, fun hne hd => polled_raised hd hne _⟩
    · have hmode : phyMode s p (r4 &&& r5) = (s.bit (F.LMC_PORT_CFG_FORCE_100 p.val), s.bit (F.LMC_PORT_CFG_FORCE_FULL p.val)) := if_pos hf
      rw [hmode] at hhundred hfull ⊢
      exact ⟨hhundred, hfull⟩
    · have hmode : phyMode s p (r4 &&& r5) = (true, true) := (if_neg (ne_true_of_eq_false hf)).trans (if_pos h8)
      rw [hmode] at hhundred hfull ⊢
      exact ⟨hhundred, hfull⟩
  case step =>
    refine ⟨fun heth hen hforce hfast hst => ?_, fun h => congrArg Host.Outcome.next (if_neg fun hc => ?_), fun q hq hst hdeep => ?_,
      fun h => congrArg Host.Outcome.next (if_neg fun hc => ne_true_of_eq_false h hc.1)⟩
    · obtain ⟨hframe, hcnt, hraise⟩ := stepped_spec s p 0x0061 true
      exact ⟨_, congrArg Host.Outcome.next (if_pos ⟨heth, hen, ne_true_of_eq_false hforce, hfast, ne_true_of_eq_false hst⟩), hframe,
        stepPort_stepped _ p true, hcnt, hraise⟩
    · obtain ⟨heth, -, -, hfast, hst⟩ := hc
      rcases h with h | h | h
      · exact ne_true_of_eq_false h heth
      · exact ne_true_of_eq_false h hfast
      · exact hst h
    · obtain ⟨hframe, hcnt, -⟩ := stepped_spec s p 0x01E1 false
      exact ⟨_, congrArg Host.Outcome.next (if_pos ⟨hst, List.any_eq_true.mpr ⟨q, List.mem_range.mpr hq, decide_eq_true hdeep⟩⟩), hframe,
        stepPort_stepped _ p false, hcnt⟩
  case mdio =>
    obtain ⟨hwbusy, hwsent⟩ := mdio_spec ht (i := .mdioWrite r v) (v := v) (Or.inl rfl) rfl
    obtain ⟨hrbusy, hrsent⟩ := mdio_spec ht (i := .mdioRead r v) (v := v) (Or.inr rfl) rfl
    exact ⟨fun h => ⟨hwbusy h, hrbusy h⟩, hwsent, hrsent⟩
  case done =>
    refine ⟨fun h => ?_, fun w h => ⟨_, exec_mdioFrameDone h data ack, (mdioShown_frame s w data ack).ev.andFire _ _,
      (State.fire_mdio _ _ _).trans (mdioShown_mdio s w data ack), fun hop => ?_, fun hon => State.fire_raised ?_ (by decide)⟩⟩
    · show execMdioFrameDone data ack s = _
      unfold execMdioFrameDone
      rw [h]
    · exact (congrArg (fun x => getField x _ _) (State.fire_rd _ _ _ (by decide))).trans (mdioShown_data hop s data ack)
    · exact (State.domOn_of_pwr ((mdioShown_frame s w data ack).1 .pwr (by decide)) _).trans hon

end Sys2Proof.Proofs.PortMoves
end

section
/-! PROOF. The selectors Q_SEL, S_SEL, P_SEL and G_SEL, of which each requester has its own copy (O47). -/

namespace Sys2Proof.Proofs.Selectors

open Sys2Proof Sys2Proof.Machine
set_option Elab.async false

variable {s t : State} {r : Req} {v : Word} {a k : Nat}

/-! ### The four registers (R472) -/

/-- The addresses of Q_SEL, S_SEL, P_SEL and G_SEL. -/
abbrev selAddrs : List Nat := [0x49044, 0x4A044, 0x4B044, 0x4C048]

/-- What a selector is: a listed one, neither staged nor read with an effect, with fields that are written alone. -/
theorem selAddrs_plain : ∀ a ∈ selAddrs, selectors.contains a = true ∧ isStaged a = false ∧ fieldsAt a ≠ [] ∧ rowsApart (fieldsAt a) = true ∧
    (∀ x ∈ fieldsAt a, x.ty = .rw) ∧ hasReadEffect a = false := by decide

theorem resolve_selector (ha : a ∈ selAddrs) (s : State) (r : Req) : s.resolve r a = idxKey a (reqNum r) := by
  simp only [List.mem_cons, List.not_mem_nil, or_false] at ha
  rcases ha with rfl | rfl | rfl | rfl <;> rfl

theorem computed_selector (ha : a ∈ selAddrs) (s : State) (r : Req) : computed s r (pageOf a) (ofsOf a) = none := by
  simp only [List.mem_cons, List.not_mem_nil, or_false] at ha
  rcases ha with rfl | rfl | rfl | rfl <;> rfl

/-- A register whose fields are all written and read shows what it holds. -/
theorem shownWord_rw (h : ∀ x ∈ fieldsAt k, x.ty = .rw) : s.shownWord k = s.rd k := by
  have hctr : (fieldsAt k).any (fun x => decide (x.ty = .ctr)) = false := List.any_eq_false.2 fun x hx => by rw [h x hx]; decide
  have hwo (rows : List FieldRow) (hrows : ∀ x ∈ rows, x.ty = .rw) (w : Word) :
      rows.foldl (fun z x => if x.ty = .wo then setField z x.lo x.w 0 else z) w = w := by
    induction rows with
    | nil => rfl
    | cons x xs ih =>
      have hx : x.ty ≠ .wo := by rw [hrows x List.mem_cons_self]; decide
      rw [List.foldl_cons, if_neg hx]
      exact ih fun y hy => hrows y (List.mem_cons_of_mem _ hy)
  unfold State.shownWord
  dsimp only
  rw [hwo _ h, hctr, Bool.and_false]
  rfl

/-- A requester reads its own copy. -/
theorem readWord_selector (ha : a ∈ selAddrs) (s : State) (r : Req) : s.readWord r a = s.rd (idxKey a (reqNum r)) := by
  obtain ⟨-, -, hfields, -, hrw, -⟩ := selAddrs_plain a ha
  have hofs : ¬ ofsOf a < 0x040 := (by decide : ∀ a ∈ selAddrs, ¬ ofsOf a < 0x040) a ha
  unfold State.readWord
  dsimp only
  rw [if_neg hfields, if_neg hofs, computed_selector ha, resolve_selector ha]
  exact shownWord_rw (by rwa [Laws.Items.fieldsAt_idxKey])

/-! ### A write -/

/-- What a write of a selector stores and shows. -/
def selected (s : State) (r : Req) (a : Nat) (v : Word) : State :=
  if a = 0x4C048 then (s.store (idxKey a (reqNum r)) v).viewGate (reqNum r) else s.store (idxKey a (reqNum r)) v

theorem writeAt_selector (ha : a ∈ selAddrs) (s : State) (r : Req) (v : Word) : s.writeAt r a v = selected s r a v := by
  obtain ⟨hofs, hline, hpath, hqueue, hback⟩ := (by decide : ∀ a ∈ selAddrs, ¬ ofsOf a < 0x040 ∧ ¬ pageOf a < 0x40 ∧ ¬ pageOf a ≤ 0x48 ∧
    pageOf a ≤ 0x5B ∧ pageOf a * 0x1000 + ofsOf a = a) a ha
  unfold State.writeAt selected
  dsimp only
  rw [if_neg hofs, if_neg hline, if_neg hpath, if_pos hqueue]
  unfold State.writeQueue
  dsimp only
  rw [hback, resolve_selector ha]
  simp only [List.mem_cons, List.not_mem_nil, or_false] at ha
  rcases ha with rfl | rfl | rfl | rfl
  case inl => rw [if_pos (by decide), if_neg (by decide), if_neg (by decide)]
  case inr.inl => rw [if_neg (by decide), if_pos (by decide), if_neg (by decide), if_neg (by decide)]
  case inr.inr.inl => rw [if_neg (by decide), if_neg (by decide), if_pos (by decide), if_neg (by decide)]
  case inr.inr.inr =>
    rw [if_neg (by decide), if_neg (by decide), if_neg (by decide), if_pos (by decide), if_pos (by decide), if_pos (by decide)]

/-- What a requester sees of the gate lists. -/
abbrev gateViews (q : Nat) : List Nat :=
  [idxKey R.GAT_G_ENTRY_LO q, idxKey R.GAT_G_ENTRY_HI q, idxKey R.GAT_G_LIST q, idxKey R.GAT_G_CYCLE q, idxKey R.GAT_G_PHASE q]

theorem viewGate_frame (s : State) (q : Nat) : Frame [] (gateViews q) s (s.viewGate q) :=
  (((((Frame.refl _ _ s).wr _ _ (by simp)).wr _ _ (by simp)).wr _ _ (by simp)).wr _ _ (by simp)).wr _ _ (by simp)

theorem selected_frame (s : State) (r : Req) (a : Nat) (v : Word) :
    Frame [] (idxKey a (reqNum r) :: if a = 0x4C048 then gateViews (reqNum r) else []) s (selected s r a v) := by
  unfold selected
  split
  · exact ((Frame.refl _ _ s).store _ _ List.mem_cons_self).trans ((viewGate_frame _ _).mono (List.Subset.refl _) (List.subset_cons_self _ _))
  · exact (Frame.refl _ _ s).store _ _ List.mem_cons_self

/-- A selector's own field is none of the views. -/
theorem selected_rd (ha : a ∈ selAddrs) (s : State) (r : Req) (v : Word) :
    (selected s r a v).rd (idxKey a (reqNum r)) = (s.store (idxKey a (reqNum r)) v).rd (idxKey a (reqNum r)) := by
  unfold selected
  split
  · next h =>
    refine (viewGate_frame _ _).2 _ ?_
    subst h
    simp only [idxKey, R.GAT_G_ENTRY_LO, R.GAT_G_ENTRY_HI, R.GAT_G_LIST, R.GAT_G_CYCLE, R.GAT_G_PHASE, List.mem_cons, List.not_mem_nil, or_false]
    omega
  · rfl

/-- A field of a selector after a write. -/
theorem selected_fld (ha : a ∈ selAddrs) (s : State) (r : Req) (v : Word) {x : FieldRow} (hx : x ∈ fieldsAt a) (f : Fld)
    (hf : f.key = idxKey a (reqNum r) ∧ x.lo = f.lo ∧ x.w = f.w) : (selected s r a v).fld f = x.clamp (getField v f.lo f.w) % 2 ^ f.w := by
  obtain ⟨-, -, -, hapart, hrw, -⟩ := selAddrs_plain a ha
  obtain ⟨hkey, hlo⟩ := hf
  have hfields : fieldsAt f.key = fieldsAt a := by rw [hkey, Laws.Items.fieldsAt_idxKey]
  refine Eq.trans ?_ (State.fld_store s f v (by rwa [hfields]) (by rwa [hfields]) hlo (Or.inl (hrw x hx)))
  unfold State.fld
  rw [hkey, selected_rd ha]

theorem mirrorSel_frame (s : State) (r : Req) (a : Nat) : Frame [.mirror] [] s (s.mirrorSel r a) :=
  (Frame.refl _ _ s).upd (State.mirrorSel_keeps r a (List.Subset.refl _) (SameBut.refl _ s)) (List.Subset.refl _)
    (State.mirrorSel_keeps r a (List.Subset.refl _) (SameBut.refl _ s) .regs (by decide))

/-- The state after a write of a selector. -/
def selectDone (s : State) (r : Req) (a : Nat) (v : Word) : State := (selected (s.reply .done) r a v).mirrorSel r a

theorem selectDone_frame (s : State) (r : Req) (a : Nat) (v : Word) :
    Frame [.resp, .mirror] (idxKey a (reqNum r) :: if a = 0x4C048 then gateViews (reqNum r) else []) s (selectDone s r a v) :=
  (((Frame.refl _ _ s).reply _ (by decide)).trans ((selected_frame _ r a v).mono (List.nil_subset _) (List.Subset.refl _))).trans
    ((mirrorSel_frame _ r a).mono (by decide) (List.nil_subset _))

theorem selectDone_resp (s : State) (r : Req) (a : Nat) (v : Word) : (selectDone s r a v).resp = .done :=
  ((mirrorSel_frame _ r a).1 .resp (by decide)).trans ((selected_frame _ r a v).1 .resp (by decide))

theorem selectDone_fld (ha : a ∈ selAddrs) (s : State) (r : Req) (v : Word) {x : FieldRow} (hx : x ∈ fieldsAt a) (f : Fld)
    (hf : f.key = idxKey a (reqNum r) ∧ x.lo = f.lo ∧ x.w = f.w) : (selectDone s r a v).fld f = x.clamp (getField v f.lo f.w) % 2 ^ f.w :=
  (congrArg (fun w => getField w f.lo f.w) ((mirrorSel_frame _ r a).2 f.key List.not_mem_nil)).trans (selected_fld ha _ r v hx f hf)

theorem reqNum_inj {r q : Req} (h : reqNum r = reqNum q) : r = q := by
  have hcore (n : Fin 8) : reqNum (.core n) = 2 + n.val := rfl
  have hpcie : reqNum .pcie = 0 := rfl
  have hshelf : reqNum .shelf = 1 := rfl
  cases r with
  | pcie => cases q with | pcie => rfl | shelf => omega | core m => have := hcore m; omega
  | shelf => cases q with | pcie => omega | shelf => rfl | core m => have := hcore m; omega
  | core n =>
    have hn := hcore n
    cases q with
    | pcie => omega
    | shelf => omega
    | core m =>
      have hm := hcore m
      exact congrArg Req.core (Fin.ext (by omega))

/-- The copy of one requester is neither the copy nor a view of another. -/
theorem copy_apart (ha : a ∈ selAddrs) {q : Req} (hne : q ≠ r) :
    idxKey a (reqNum q) ∉ idxKey a (reqNum r) :: if a = 0x4C048 then gateViews (reqNum r) else [] := by
  have hnum : reqNum q ≠ reqNum r := fun h => hne (reqNum_inj h)
  rw [List.mem_cons, not_or]
  refine ⟨by unfold idxKey; omega, ?_⟩
  split
  · next h =>
    subst h
    simp only [idxKey, R.GAT_G_ENTRY_LO, R.GAT_G_ENTRY_HI, R.GAT_G_LIST, R.GAT_G_CYCLE, R.GAT_G_PHASE, List.mem_cons, List.not_mem_nil, or_false]
    omega
  · exact List.not_mem_nil

theorem getField_lt (w : Word) (lo n : Nat) : getField w lo n < 2 ^ n := Nat.mod_lt _ (Nat.two_pow_pos n)

/-- A field without a range keeps what is written. -/
theorem clamp_free {x : FieldRow} (h : x.mn = 0 ∧ x.mx = 0) (w : Word) (lo n : Nat) : x.clamp (getField w lo n) % 2 ^ n = getField w lo n := by
  unfold FieldRow.clamp
  rw [h.1, h.2]
  simp only [Nat.zero_max, if_true]
  exact Nat.mod_eq_of_lt (getField_lt w lo n)

/-- A field with an upper end stops there. -/
theorem clamp_max {x : FieldRow} {m : Nat} (h : x.mn = 0 ∧ x.mx = m) (hm : m ≠ 0) (w : Word) (lo n : Nat) :
    x.clamp (getField w lo n) % 2 ^ n = min m (getField w lo n) := by
  unfold FieldRow.clamp
  rw [h.1, h.2, if_neg hm, Nat.zero_max]
  exact Nat.mod_eq_of_lt (Nat.lt_of_le_of_lt (Nat.min_le_right _ _) (getField_lt w lo n))

/-! ### A read -/

theorem exec_read_selector {x : Addr} (ha : x.toNat ∈ selAddrs) (hr : s.reaches r = true) (hne : r ≠ .shelf) :
    exec (.readBusError r x true) s = .next (s.reply (.data (s.rd (idxKey x.toNat (reqNum r))))) := by
  obtain ⟨-, -, -, -, -, heffect⟩ := selAddrs_plain x.toNat ha
  have hcause : s.readCause x.toNat true = 0 := by
    have hchecks := (by decide : ∀ a ∈ selAddrs, a % 4 = 0 ∧ usedPage (pageOf a) = true ∧ linePage (pageOf a) = false) x.toNat ha
    obtain ⟨halign, hused, hline⟩ := hchecks
    unfold State.readCause
    rw [if_neg (by simp [halign]), if_neg (not_not_intro hused), if_neg (fun h => ne_true_of_eq_false hline h.1)]
  have hquiet (u : State) : u.readEffect x.toNat = u := by
    have hnone := (by decide : ∀ a ∈ selAddrs, a ≠ R.EVT_REC_NS ∧ a ≠ R.TCL_TXTS_NS ∧ a ≠ R.TIM_TIME_SEC_LO ∧ a ≠ R.TIM_RTC_LO) x.toNat ha
    obtain ⟨h1, h2, h3, h4⟩ := hnone
    unfold State.readEffect
    rw [if_neg h1, if_neg h2, if_neg h3, if_neg h4, if_neg (ne_true_of_eq_false heffect)]
  refine congrArg Host.Outcome.next ((if_neg hne).trans ?_)
  unfold State.readAccess
  rw [if_neg (not_not_intro hr), hcause]
  dsimp only
  rw [hquiet, ite_self, readWord_selector ha]
  rfl

/-- Settles O47: a write leaves `selectDone`, and each requester reads its own copy. -/
theorem selectorsPerRequester : Obligations.SelectorsPerRequester := by
  unfold Obligations.SelectorsPerRequester
  refine ⟨fun r a v s ha ht => ?write, fun r a s ha => ⟨readWord_selector ha s r, fun hr hne => exec_read_selector ha hr hne⟩⟩
  obtain ⟨hlisted, hstaged, -⟩ := selAddrs_plain a.toNat ha
  have hwrite : (s.reply .done).performWrite r a.toNat v = selectDone s r a.toNat v :=
    congrArg (fun u : State => u.mirrorSel r a.toNat) (writeAt_selector ha (s.reply .done) r v)
  refine ⟨selectDone s r a.toNat v, (TableCommands.tableSelect_writes hlisted ht).trans (congrArg _ hwrite),
    (RegisterAccess.exec_write_taken hstaged ht).trans (congrArg _ hwrite), selectDone_frame s r a.toNat v, selectDone_resp s r a.toNat v, fun q hq => ?_,
    fun h => ?_, fun h => ?_, fun h => ?_, fun h => ?_⟩
  · rw [readWord_selector ha, readWord_selector ha]
    exact (selectDone_frame s r a.toNat v).2 _ (copy_apart ha hq)
  · rw [h] at ha ⊢
    exact (selectDone_fld ha s r v (x := ⟨0x044, 1, 4, 0, 14, .rw, 0, 0, 8991⟩) (by decide) (F.SCH_Q_SEL_QUEUE (reqNum r)) ⟨rfl, rfl, rfl⟩).trans
      (clamp_max ⟨rfl, rfl⟩ (by decide) _ _ _)
  · rw [h] at ha ⊢
    exact (selectDone_fld ha s r v (x := ⟨0x044, 1, 4, 0, 14, .rw, 0, 0, 9983⟩) (by decide) (F.SHP_S_SEL_SHAPER (reqNum r)) ⟨rfl, rfl, rfl⟩).trans
      (clamp_max ⟨rfl, rfl⟩ (by decide) _ _ _)
  · rw [h] at ha ⊢
    exact (selectDone_fld ha s r v (x := ⟨0x044, 1, 4, 0, 14, .rw, 0, 0, 0⟩) (by decide) (F.POL_P_SEL_POLICER (reqNum r)) ⟨rfl, rfl, rfl⟩).trans
      (clamp_free ⟨rfl, rfl⟩ _ _ _)
  · rw [h] at ha ⊢
    refine ⟨?_, ?_, ?_, ?_⟩
    · exact (selectDone_fld ha s r v (x := ⟨0x048, 1, 4, 0, 6, .rw, 0, 0, 47⟩) (by decide) (F.GAT_G_SEL_LANE (reqNum r)) ⟨rfl, rfl, rfl⟩).trans
        (clamp_max ⟨rfl, rfl⟩ (by decide) _ _ _)
    · exact (selectDone_fld ha s r v (x := ⟨0x048, 1, 4, 8, 6, .rw, 0, 0, 0⟩) (by decide) (F.GAT_G_SEL_ENTRY (reqNum r)) ⟨rfl, rfl, rfl⟩).trans
        (clamp_free ⟨rfl, rfl⟩ _ _ _)
    · exact (selectDone_fld ha s r v (x := ⟨0x048, 1, 4, 16, 1, .rw, 0, 0, 0⟩) (by decide) (F.GAT_G_SEL_VIEW (reqNum r)) ⟨rfl, rfl, rfl⟩).trans
        (clamp_free ⟨rfl, rfl⟩ _ _ _)
    · exact (selectDone_fld ha s r v (x := ⟨0x048, 1, 4, 17, 1, .rw, 1, 0, 0⟩) (by decide) (F.GAT_G_SEL_AUTO_INC (reqNum r)) ⟨rfl, rfl, rfl⟩).trans
        (clamp_free ⟨rfl, rfl⟩ _ _ _)

end Sys2Proof.Proofs.Selectors
end

section
/-! PROOF. Accesses to a memory, the fill engine and the scrubber (O35). -/

namespace Sys2Proof.Proofs.MemoryPlaces

open Sys2Proof Sys2Proof.Machine
set_option Elab.async false

variable {s t : State} {r : Req} {v : Word} {u : MemUser} {pl : MemPlace} {o : EccIn} {m : Chan}

/-! ### What a read may find, and what it changes (R415, R416, R423, R427-R429) -/

/-- The pages of the memory controllers, of error correction and of events. -/
abbrev memPages : List Nat := [0x43, 0x44, 0x45, 0x46, P.ECC, P.EVT]

theorem chanPage_mem : ∀ m : Chan, 0x43 + m.val ∈ memPages := by decide

theorem placePage_mem : ∀ pl : MemPlace, placePage pl ∈ memPages
  | .ext ch _ => chanPage_mem ch
  | .chip _ _ => (by decide : P.ECC ∈ memPages)

theorem ecc_frame {ks : List Nat} (s : State) (e : Ecc) : Frame [.ecc] ks s { s with ecc := e } :=
  (Frame.refl _ _ s).upd (SameBut.upd_ecc (List.Subset.refl _) (SameBut.refl _ s)) (List.Subset.refl _) rfl

theorem ecc_page (s : State) (e : Ecc) : PageEv [.ecc, .log] memPages s { s with ecc := e } :=
  (PageEv.refl _ _ s).upd (SameBut.upd_ecc (List.Subset.refl _) (SameBut.refl _ s)) (by decide) rfl

theorem memRecord_frame (s : State) (page kind src : Nat) (b2 : Byte) (cw addr synd sym arg : Nat) :
    FrameEv [.ecc, .log] [R.HDR_LOG_PTR page, R.EVT_CNT_LOG_LOST] s (s.memRecord page kind src b2 cw addr synd sym arg) := by
  have hecc (e : Ecc) : FrameEv [.ecc, .log] [R.HDR_LOG_PTR page, R.EVT_CNT_LOG_LOST] s { s with ecc := e } :=
    (FrameEv.refl _ _ s).upd (SameBut.upd_ecc (List.Subset.refl _) (SameBut.refl _ s)) (by decide) rfl
  have hmake (w : State) (body : List Byte) : FrameEv [.ecc, .log] [R.HDR_LOG_PTR page, R.EVT_CNT_LOG_LOST] w (w.makeRecord 1 page body) :=
    (Laws.ErrorLog.makeRecordIn_spec w 64 1 page body).1.mono (by decide) (List.Subset.refl _)
  unfold State.memRecord
  exact (hecc _).trans (hmake _ _)

/-- The registers that a record of a page changes lie in that page and in EVT. -/
theorem recordKeys_page {p : Nat} (hp : p ∈ memPages) : ∀ k ∈ [R.HDR_LOG_PTR p, R.EVT_CNT_LOG_LOST], pageOf k ∈ memPages := by
  have hevery : ∀ p ∈ memPages, ∀ k ∈ [R.HDR_LOG_PTR p, R.EVT_CNT_LOG_LOST], pageOf k ∈ memPages := by decide
  exact hevery p hp

theorem placeRecord_page {p : Nat} (hp : p ∈ memPages) (s : State) (kind : Nat) (u : MemUser) (pl : MemPlace) (cw synd sym : Nat) :
    PageEv [.ecc, .log] memPages s (s.placeRecord p kind u pl cw synd sym) :=
  (memRecord_frame s p kind (userNum u) (placeByte2 pl) cw (placeNum pl) synd sym 0).page (recordKeys_page hp)

theorem dramWrite_page (s : State) (ch : Chan) (idx : Nat) : PageEv [.ecc, .log] memPages s (s.dramWrite ch idx) :=
  ((PageEv.refl _ _ s).emit _).trans (ecc_page _ _)

theorem trackCe_page (s : State) (u : MemUser) (pl : MemPlace) (cw synd sym : Nat) :
    PageEv [.ecc, .log] memPages s (s.trackCe u pl cw synd sym) := by
  unfold State.trackCe
  split
  case h_1 => exact PageEv.refl _ _ s
  case h_2 =>
    dsimp only
    split
    case h_1 =>
      split
      case isTrue => exact (((ecc_page s _).trans (placeRecord_page (by decide) _ 3 u pl cw synd sym)).bump _ (by decide)).andFire _ _
      case isFalse => exact ecc_page s _
    case h_2 => exact ecc_page s _

theorem memCe_page (s : State) (u : MemUser) (pl : MemPlace) (cw synd sym : Nat) :
    PageEv [.ecc, .log] memPages s (s.memCe u pl cw synd sym) := by
  have hkeys : ∀ m : Chan, pageOf (R.MEM_CNT_CE m.val) ∈ memPages ∧ pageOf (R.MEM_CNT_WB m.val) ∈ memPages := by decide
  cases pl with
  | ext ch idx =>
    exact ((((PageEv.refl _ _ s).bump _ (hkeys ch).1).bump _ (hkeys ch).2).trans (dramWrite_page _ ch idx)).trans (trackCe_page _ u _ cw synd sym)
  | chip mem idx => exact ((PageEv.refl _ _ s).bump _ (by decide)).trans (trackCe_page _ u _ cw synd sym)

/-- The counter of a place's uncorrectable errors. -/
def ueCounter : MemPlace → Nat
  | .ext ch _ => R.MEM_CNT_UE ch.val
  | .chip _ _ => R.ECC_CNT_ON_UE

theorem ueCounter_page : ∀ pl : MemPlace, pageOf (ueCounter pl) ∈ memPages
  | .ext ch _ => (by decide : ∀ m : Chan, pageOf (R.MEM_CNT_UE m.val) ∈ memPages) ch
  | .chip _ _ => (by decide : pageOf R.ECC_CNT_ON_UE ∈ memPages)

theorem memUe_page (s : State) (u : MemUser) (pl : MemPlace) (cw synd : Nat) : PageEv [.ecc, .log] memPages s (s.memUe u pl cw synd) := by
  have hcount : PageEv [.ecc, .log] memPages s (s.bump (ueCounter pl)) := (PageEv.refl _ _ s).bump _ (ueCounter_page pl)
  have hrecord (kind : Nat) := hcount.trans (placeRecord_page (placePage_mem pl) (s.bump (ueCounter pl)) kind u pl cw synd 0xFF)
  cases pl with
  | ext ch idx => exact (PageEv.ite hcount ((hrecord 2).trans (ecc_page _ _))).andFire _ _
  | chip mem idx => exact (PageEv.ite hcount ((hrecord 5).trans (ecc_page _ _))).andFire _ _

theorem memRead_ce {cw : BitVec 4} {sym : BitVec 8} {synd : BitVec 32} (ht : s.placeTested pl = false) (ha : s.isAbove pl = false)
    (hj : eccJudge pl o = .ce cw sym synd) : s.memRead u pl o = (true, s.memCe u pl cw.toNat synd.toNat sym.toNat) := by
  unfold State.memRead
  rw [if_neg (ne_true_of_eq_false ht), if_neg (fun h => ne_true_of_eq_false ha h.1), hj]

theorem memRead_ue {cw : BitVec 4} {synd : BitVec 32} (ht : s.placeTested pl = false) (ha : s.isAbove pl = false)
    (hj : eccJudge pl o = .ue cw synd) : s.memRead u pl o = (false, s.memUe u pl cw.toNat synd.toNat) := by
  unfold State.memRead
  rw [if_neg (ne_true_of_eq_false ht), if_neg (fun h => ne_true_of_eq_false ha h.1), hj]

theorem memRead_tested (ht : s.placeTested pl = true) : s.memRead u pl o = (false, s) := if_pos ht

theorem memRead_above {ch : Chan} {idx : Nat} (ht : s.placeTested (.ext ch idx) = false) (ha : (s.ch ch).eave ≤ idx) (hu : u ≠ .rekey) :
    s.memRead u (.ext ch idx) o = (false, s.aboveEave u ch idx) := by
  have habove : s.isAbove (.ext ch idx) = true := decide_eq_true ha
  exact (if_neg (ne_true_of_eq_false ht)).trans (if_pos ⟨habove, hu⟩)

/-- A read that finds its memory tested or covered, or right, keeps to the memory pages. -/
theorem memRead_page (s : State) (u : MemUser) (pl : MemPlace) (o : EccIn) : PageEv [.ecc, .log] memPages s (s.memRead u pl o).2 := by
  have hkey : ∀ m : Chan, pageOf (R.MEM_CNT_ABOVE_EAVE m.val) ∈ memPages := by decide
  unfold State.memRead
  split
  case isTrue => exact PageEv.refl _ _ s
  case isFalse =>
    split
    case isTrue =>
      cases pl with
      | ext ch idx =>
        exact (((PageEv.refl _ _ s).bump _ (hkey ch)).trans (placeRecord_page (chanPage_mem ch) _ 7 u (.ext ch idx) 0 0 0xFF)).andFire _ _
      | chip mem idx => exact PageEv.refl _ _ s
    case isFalse =>
      split
      case h_1 => exact PageEv.refl _ _ s
      case h_2 => exact memCe_page s u pl _ _ _
      case h_3 => exact memUe_page s u pl _ _

theorem aboveEave_frame (s : State) (u : MemUser) (ch : Chan) (idx : Nat) :
    FrameEv [.ecc, .log] [R.MEM_CNT_ABOVE_EAVE ch.val, R.HDR_LOG_PTR (0x43 + ch.val), R.EVT_CNT_LOG_LOST] s (s.aboveEave u ch idx) :=
  (((FrameEv.refl _ _ s).bump _ List.mem_cons_self).trans
    ((memRecord_frame _ (0x43 + ch.val) 7 (userNum u) _ 0 _ 0 0xFF 0).mono (List.Subset.refl _) (List.subset_cons_self _ _))).andFire _ _

theorem aboveEave_counts (s : State) (u : MemUser) (ch : Chan) (idx : Nat) :
    (s.aboveEave u ch idx).rd (R.MEM_CNT_ABOVE_EAVE ch.val) = s.rd (R.MEM_CNT_ABOVE_EAVE ch.val) + 1 := by
  have hplain : ∀ m : Chan, eventReg (R.MEM_CNT_ABOVE_EAVE m.val) = false ∧ R.MEM_CNT_ABOVE_EAVE m.val ≠ R.HDR_LOG_PTR (0x43 + m.val) ∧
      R.MEM_CNT_ABOVE_EAVE m.val ≠ R.EVT_CNT_LOG_LOST := by decide
  obtain ⟨hevent, hptr, hlost⟩ := hplain ch
  exact (State.fire_rd _ _ _ hevent).trans ((MemoryCommands.memRecord_rd _ _ 7 _ _ _ _ _ _ _ hevent hptr hlost).trans (State.rd_bump_self s _))

/-! ### Commands that read (R416, R629) -/

theorem exec_memoryRead_ok {w : State} (h : s.memRead u pl o = (true, w)) : exec (.memoryRead u pl o) s = .next (w.reply .done) := by
  show execMemoryRead u pl o s = _
  unfold execMemoryRead
  rw [h]

theorem exec_memoryRead_bad {w : State} (h : s.memRead u pl o = (false, w)) :
    exec (.memoryRead u pl o) s = .next (w.memBusError u pl true) := by
  show execMemoryRead u pl o s = _
  unfold execMemoryRead
  rw [h]

/-! ### Writes (R417, R418, R542) -/

/-- A full write has reached its memory; a core's copy holds it too. -/
def fullWritten (s : State) (u : MemUser) (pl : MemPlace) (data : List Byte) : State :=
  match u with
  | .req (.core n) => ((s.reply .done).memWrite pl data).lineWritten n (placeAddr pl) data
  | _ => (s.reply .done).memWrite pl data

theorem exec_memoryWrite {data : List Byte} (hlen : data.length = placeSize pl) (ht : s.placeTested pl = false) :
    exec (.memoryWrite u pl data) s = .next (fullWritten s u pl data) :=
  (if_pos hlen).trans (if_neg (ne_true_of_eq_false ht))

/-- Whoever writes, only the cached lines differ. -/
theorem fullWritten_cpu (s : State) (u : MemUser) (pl : MemPlace) (data : List Byte) :
    SameBut [.cpu] ((s.reply .done).memWrite pl data) (fullWritten s u pl data) := by
  unfold fullWritten
  split
  · exact State.lineWritten_keeps _ _ _ (List.Subset.refl _) (SameBut.refl _ _)
  · exact SameBut.refl _ _

theorem memWrite_same (s : State) (pl : MemPlace) (data : List Byte) : SameBut [.mem, .ecc, .out] s (s.memWrite pl data) :=
  State.memWrite_keeps pl data (List.Subset.refl _) (SameBut.refl _ s)

theorem fullWritten_frame (s : State) (u : MemUser) (pl : MemPlace) (data : List Byte) :
    Frame [.mem, .ecc, .resp, .out, .cpu] [] s (fullWritten s u pl data) :=
  (((Frame.refl _ _ s).reply .done (by decide)).upd (memWrite_same _ pl data) (by decide) (memWrite_same _ pl data .regs (by decide))).upd
    (fullWritten_cpu s u pl data) (by decide) (fullWritten_cpu s u pl data .regs (by decide))

theorem fullWritten_resp (s : State) (u : MemUser) (pl : MemPlace) (data : List Byte) : (fullWritten s u pl data).resp = .done :=
  (fullWritten_cpu s u pl data .resp (by decide)).trans (memWrite_same _ pl data .resp (by decide))

/-- The caches stay where no core writes. -/
theorem fullWritten_caches (s : State) (pl : MemPlace) (data : List Byte) (hu : ∀ n, u ≠ .req (.core n)) : (fullWritten s u pl data).cpu = s.cpu := by
  unfold fullWritten
  split
  · next n => exact absurd rfl (hu n)
  · exact memWrite_same _ pl data .cpu (by decide)

theorem fullWritten_stores (s : State) (u : MemUser) (pl : MemPlace) (data : List Byte) :
    Stores s (fullWritten s u pl data) (placeAddr pl) data :=
  (MemoryCommands.memWrite_stores (s.reply .done) pl data).of_mem (State.reply_mem s .done) (fullWritten_cpu s u pl data .mem (by decide))

/-- The counter of a place's narrow writes. -/
def narrowCounter : MemPlace → Nat
  | .ext ch _ => R.MEM_CNT_NARROW ch.val
  | .chip _ _ => R.ECC_CNT_ON_NARROW

theorem narrowCounter_page : ∀ pl : MemPlace, pageOf (narrowCounter pl) ∈ memPages
  | .ext ch _ => (by decide : ∀ m : Chan, pageOf (R.MEM_CNT_NARROW m.val) ∈ memPages) ch
  | .chip _ _ => (by decide : pageOf R.ECC_CNT_ON_NARROW ∈ memPages)

/-- A narrow write has been counted, recorded and raised. -/
def narrowNoted (s : State) (u : MemUser) (pl : MemPlace) : State :=
  ((s.bump (narrowCounter pl)).placeRecord P.ECC 6 u pl 0 0 0xFF).fire P.ECC E.ECC_NARROW

theorem exec_narrowWrite (s : State) (u : MemUser) (pl : MemPlace) :
    exec (.narrowWrite u pl) s = .next ((narrowNoted s u pl).memBusError u pl false) := by
  cases pl <;> rfl

theorem narrowNoted_page (s : State) (u : MemUser) (pl : MemPlace) : PageEv [.ecc, .log] memPages s (narrowNoted s u pl) :=
  (((PageEv.refl _ _ s).bump _ (narrowCounter_page pl)).trans (placeRecord_page (by decide) _ 6 u pl 0 0 0xFF)).andFire _ _

/-! ### Fills of a core's cache (R542, R543) -/

theorem setCaches_same {f : List CacheLine → List CacheLine} (h : f s.cpu.caches = s.cpu.caches) : s.setCaches f = s := by
  unfold State.setCaches
  rw [h]

/-- With no line cached nothing is written back for a core's access. -/
theorem snoop_empty (h : s.cpu.caches = []) (n : Fin 8) (a : Nat) : s.snoop n a = s := by
  unfold State.snoop
  rw [h]
  exact setCaches_same (by rw [List.filter_nil, List.foldl_nil, h]; rfl)

/-- The line of a core has entered its cache, and is changed by a store. -/
def lineTaken (s : State) (n : Fin 8) (k : CoreAcc) (l : Nat) : State :=
  (if k = .store then (s.takeLine n (decide (k = .fetch)) l).storeLine n l else s.takeLine n (decide (k = .fetch)) l).reply .done

/-- With no line cached a fill is a read of its place, whose line enters the cache. -/
theorem lineFill_read {w : State} {n : Fin 8} (h : s.cpu.caches = []) (hr : s.memRead (.req (.core n)) pl o = (true, w)) (k : CoreAcc) (a l : Nat) :
    s.lineFill n k a l pl o = lineTaken w n k l := by
  unfold State.lineFill
  dsimp only
  rw [snoop_empty h, ite_self, h, List.any_nil, if_neg Bool.false_ne_true, hr]
  rfl

theorem lineFill_faults {w : State} {n : Fin 8} (h : s.cpu.caches = []) (hr : s.memRead (.req (.core n)) pl o = (false, w)) (k : CoreAcc)
    (a l : Nat) : s.lineFill n k a l pl o = w.coreFault n (accCause k) a := by
  unfold State.lineFill
  dsimp only
  rw [snoop_empty h, ite_self, h, List.any_nil, if_neg Bool.false_ne_true, hr]

theorem exec_lineFill {n : Fin 8} {k : CoreAcc} {a : Nat} (hp : s.corePlace n a = some pl) :
    exec (.lineFill n k a o) s = .next (s.lineFill n k a (s.coreLine n a) pl o) := by
  show execLineFill n k a o s = _
  unfold execLineFill
  rw [hp]

theorem takeLine_frame (h : s.cpu.caches = []) (n : Fin 8) (instr : Bool) (l : Nat) : Frame [.cpu, .fresh, .resp] [] s (s.takeLine n instr l) := by
  rw [MemoryCommands.takeLine_empty n instr l h]
  exact (Frame.refl _ _ s).upd (SameBut.upd_cpu (List.Subset.refl _) (SameBut.refl _ s)) (by decide) rfl

theorem storeLine_same (s : State) (n : Fin 8) (l : Nat) : SameBut [.cpu, .fresh] s (s.storeLine n l) :=
  State.storeLine_keeps n l (List.Subset.refl _) (SameBut.refl _ s)

theorem lineTaken_frame (h : s.cpu.caches = []) (n : Fin 8) (k : CoreAcc) (l : Nat) : Frame [.cpu, .fresh, .resp] [] s (lineTaken s n k l) := by
  have htake := takeLine_frame h n (decide (k = .fetch)) l
  unfold lineTaken
  split
  · exact (htake.upd (storeLine_same _ n l) (by decide) (storeLine_same _ n l .regs (by decide))).reply _ (by decide)
  · exact htake.reply _ (by decide)

theorem lineTaken_cpu (h : s.cpu.caches = []) (n : Fin 8) {k : CoreAcc} (hk : k ≠ .store) (l : Nat) :
    (lineTaken s n k l).cpu = { s.cpu with caches := [⟨n, decide (k = .fetch), l, false, false, s.readBytes l 64⟩] } := by
  unfold lineTaken
  rw [if_neg hk, MemoryCommands.takeLine_empty n _ l h]
  unfold State.setCaches
  rw [h]
  rfl

/-- A fetch of a cached line needs no fill. -/
theorem lineFill_cached {n : Fin 8} {a l : Nat} (h : s.cpu.caches.any (fun x => x.at_ n true l) = true) :
    s.lineFill n .fetch a l pl o = s.reply .done := if_pos h

/-! ### The fill engine (R421, R422) -/

/-- A line of the fill engine is written. -/
def lineZeroed (s : State) (m : Chan) : State :=
  ((s.zeroRange (placeAddr (.ext m (s.ch m).eave)) 64).dramWrite m (s.ch m).eave).setCh m { s.ch m with eave := (s.ch m).eave + 1 }

theorem fillStep_idle (h : (s.ch m).st ≠ .up ∨ (s.ch m).done = true ∨ s.bit (F.MEM_FILL_CFG_PAUSE m.val) = true) : s.fillStep m = s := by
  have hstop : (s.ch m).st ≠ .up ∨ (s.ch m).done = true ∨ s.bit (F.MEM_FILL_CFG_PAUSE m.val) = true ∨ s.testing 4 (some m.val) = true := by tauto
  exact if_pos hstop

theorem fillStep_line (hst : (s.ch m).st = .up) (hdone : (s.ch m).done = false) (hpause : s.bit (F.MEM_FILL_CFG_PAUSE m.val) = false)
    (htest : s.testing 4 (some m.val) = false) (hroom : (s.ch m).eave + 1 < (s.ch m).lines) (hskip : s.skipOn m = false)
    (hpage : s.ecc.pages.contains ((m.val * 2 ^ 29 + (s.ch m).eave) / 64) = false) : s.fillStep m = lineZeroed s m := by
  have hruns : ¬((s.ch m).st ≠ .up ∨ (s.ch m).done ∨ s.bit (F.MEM_FILL_CFG_PAUSE m.val) ∨ s.testing 4 (some m.val)) := by
    rw [hst, hdone, hpause, htest]
    decide
  unfold State.fillStep
  dsimp only
  rw [if_neg hruns, if_pos (Nat.lt_of_succ_lt hroom), if_neg (Nat.ne_of_lt hroom), hskip, hpage]
  rfl

theorem lineZeroed_frame (s : State) (m : Chan) : Frame [.mem, .memch, .ecc, .out] [] s (lineZeroed s m) := by
  have hzero : SameBut [.mem] s (s.zeroRange (placeAddr (.ext m (s.ch m).eave)) 64) := State.zeroRange_keeps _ _ (List.Subset.refl _) (SameBut.refl _ s)
  have hdram (x : State) (i : Nat) : SameBut [.ecc, .out] x (x.dramWrite m i) := State.dramWrite_keeps m i (List.Subset.refl _) (SameBut.refl _ x)
  exact (((Frame.refl _ _ s).upd hzero (by decide) (hzero .regs (by decide))).upd (hdram _ _) (by decide) (hdram _ _ .regs (by decide))).upd
    (SameBut.upd_memch (List.Subset.refl _) (SameBut.refl _ _)) (by decide) rfl

theorem zeroRange_out (s : State) {a n x : Nat} (hx : x < a ∨ a + n ≤ x) : (s.zeroRange a n).readByte x = s.readByte x := by
  unfold State.readByte State.zeroRange
  rw [mapGet_mapFilter, if_pos]
  simpa using hx

theorem lineZeroed_mem (s : State) (m : Chan) : (lineZeroed s m).mem = (s.zeroRange (placeAddr (.ext m (s.ch m).eave)) 64).mem :=
  (State.setCh_mem _ m _).trans (MemoryCommands.dramWrite_mem _ m _)

/-! ### The scrubber (R426) -/

theorem scrub_idle (h : s.bit F.ECC_SCRUB_CFG_EN = false ∨ s.extOff = true) : s.scrub pl o = s := by
  refine if_pos ?_
  rcases h with hen | hoff
  · exact .inl (by rw [hen]; decide)
  · exact .inr (.inl hoff)

/-- A pass of the external memory has ended. -/
def scrubPassed (s : State) : State :=
  (s.setFld F.ECC_SCRUB_STAT_EXT_PASSES (s.fld F.ECC_SCRUB_STAT_EXT_PASSES + 1)).fire P.ECC E.ECC_SCRUB_PASS

theorem scrub_last {ch : Chan} {idx : Nat} (hen : s.bit F.ECC_SCRUB_CFG_EN = true) (hon : s.extOff = false)
    (ha : s.isAbove (.ext ch idx) = false) (ht : s.placeTested (.ext ch idx) = false)
    (hp : s.ecc.pages.contains ((ch.val * 2 ^ 29 + idx) / 64) = false) (hl : s.lastLine ch idx = true)
    (hj : eccJudge (.ext ch idx) o = .ok) : s.scrub (.ext ch idx) o = scrubPassed s := by
  have hruns : ¬(¬ s.bit F.ECC_SCRUB_CFG_EN ∨ s.extOff ∨ s.placeTested (.ext ch idx)) := by
    rw [hen, hon, ht]
    decide
  have hreads : ¬(s.isAbove (.ext ch idx) ∨ s.ecc.pages.contains ((ch.val * 2 ^ 29 + idx) / 64)) := by
    rw [ha, hp]
    decide
  unfold State.scrub
  rw [if_neg hruns]
  dsimp only
  rw [if_neg hreads, if_pos hl, MemoryCommands.memRead_ok ht ha hj]
  rfl

theorem scrubPassed_frame (s : State) : FrameEv [] [R.ECC_SCRUB_STAT] s (scrubPassed s) :=
  ((FrameEv.refl _ _ s).setFld _ _ List.mem_cons_self).andFire _ _

/-! ### O35 -/

/-- Settles O35: each clause is what one of the operations above leaves. -/
theorem memoryErrors : Obligations.MemoryErrors := by
  unfold Obligations.MemoryErrors
  refine ⟨fun u pl o s ha ht => ⟨fun hj => ?readOk, fun cw sym synd hj => ?readCe, fun cw synd hj => ?readUe⟩,
    fun u pl o data s ht => ⟨exec_memoryRead_bad (memRead_tested ht), fun hlen => (if_pos hlen).trans (if_pos ht)⟩,
    fun u ch idx o s ha hu ht => ⟨_, exec_memoryRead_bad (memRead_above ht ha hu), aboveEave_frame s u ch idx, aboveEave_counts s u ch idx⟩,
    fun u pl data s hlen ht => ⟨_, exec_memoryWrite hlen ht, fullWritten_frame s u pl data, fullWritten_resp s u pl data,
      fullWritten_caches s pl data, (fullWritten_stores s u pl data).readBytes hlen, fun a ha => (fullWritten_stores s u pl data).out hlen a ha⟩,
    fun u pl data s hlen => if_neg hlen, fun u pl s => ?narrow, fun n k a pl o s hp ha ht hc => ⟨fun hj => ?fillOk, fun cw synd hj => ?fillUe⟩,
    fun n a pl o s hp hc => (exec_lineFill hp).trans (congrArg _ (lineFill_cached hc)), fun n k a o s hp => ?unmapped,
    fun m s => ⟨fun h => congrArg Host.Outcome.next (fillStep_idle h), fun hst hdone hpause htest hroom hskip hpage => ?fill⟩,
    fun pl o s => ⟨fun h => congrArg Host.Outcome.next (scrub_idle h), fun ch idx hpl hen hon ha ht hp hl hj => ?scrub⟩⟩
  case readOk =>
    exact ⟨_, exec_memoryRead_ok (MemoryCommands.memRead_ok ht ha hj), (Frame.refl _ _ s).reply _ (by decide), rfl⟩
  case readCe => exact ⟨_, exec_memoryRead_ok (memRead_ce ht ha hj), memCe_page s u pl _ _ _⟩
  case readUe => exact ⟨_, exec_memoryRead_bad (memRead_ue ht ha hj), memUe_page s u pl _ _⟩
  case narrow =>
    refine ⟨_, exec_narrowWrite s u pl, narrowNoted_page s u pl, ?_⟩
    have hrecord := State.placeRecord_keeps P.ECC 6 u pl 0 0 0xFF (List.Subset.refl _) (SameBut.refl _ (s.bump (narrowCounter pl)))
    exact (State.fire_mem _ _ _).trans ((hrecord .mem (by decide)).trans (State.bump_mem s _))
  case fillOk =>
    exact ⟨lineTaken s n k (s.coreLine n a), (exec_lineFill hp).trans (congrArg _ (lineFill_read hc (MemoryCommands.memRead_ok ht ha hj) k a _)),
      lineTaken_frame hc n k _, rfl, fun hk => lineTaken_cpu hc n hk _⟩
  case fillUe =>
    exact ⟨s.memUe (.req (.core n)) pl cw.toNat synd.toNat,
      (exec_lineFill hp).trans (congrArg _ (lineFill_faults hc (memRead_ue ht ha hj) k a _)), memUe_page s _ pl _ _⟩
  case unmapped =>
    show execLineFill n k a o s = _
    unfold execLineFill
    rw [hp]
  case fill =>
    refine ⟨lineZeroed s m, congrArg Host.Outcome.next (fillStep_line hst hdone hpause htest hroom hskip hpage), lineZeroed_frame s m,
      MemoryCommands.ch_setCh _ m _, fun a hlo hhi => ?_, fun a ha => ?_⟩
    · exact (State.readByte_of_mem (lineZeroed_mem s m) a).trans (MemoryCommands.zeroRange_zero s hlo hhi)
    · exact (State.readByte_of_mem (lineZeroed_mem s m) a).trans (zeroRange_out s ha)
  case scrub =>
    subst hpl
    exact ⟨_, congrArg Host.Outcome.next (scrub_last hen hon ha ht hp hl hj), scrubPassed_frame s,
      fun hdom => State.fire_raised (s := s.setFld _ _) hdom (by decide)⟩

end Sys2Proof.Proofs.MemoryPlaces
end

section
/-! PROOF. Retirement, the tracking table, re-keying, the channels and the skip window (O36). -/

namespace Sys2Proof.Proofs.MemoryControls

open Sys2Proof Sys2Proof.Machine
set_option Elab.async false
open Sys2Proof.Proofs.MemoryCommands Sys2Proof.Proofs.MemoryPlaces

variable {s t : State} {r : Req} {v : Word} {o : EccIn} {m : Chan} {n src : Nat}

/-- A handover of the answer is part of every taken write. -/
theorem replied_frame {ps : List Part} {ks : List Nat} (s : State) (hp : .resp ∈ ps) : Frame ps ks s (s.reply .done) :=
  (Frame.refl _ _ s).reply _ hp

/-! ### RET_CMD (R430, R433, R434) -/

theorem bit0_set (v : Word) : (v ||| 1).getLsbD 0 = true := PageControl.getLsbD_or_true v (by decide)

theorem bit1_set (v : Word) : (v ||| 2).getLsbD 1 = true := PageControl.getLsbD_or_true v (by decide)

theorem bit1_left (h : v.getLsbD 1 = false) : (v ||| 1).getLsbD 1 = false := PageControl.getLsbD_or_false h (by decide)

theorem bit0_left (h : v.getLsbD 0 = false) : (v ||| 2).getLsbD 0 = false := PageControl.getLsbD_or_false h (by decide)

theorem opRetCmd_busy (h : s.ecc.append = true ∨ s.ecc.clear = true) (v : Word) : s.opRetCmd r v = s.refuse r R.ECC_RET_CMD := if_pos h

theorem opRetCmd_retire (happ : s.ecc.append = false) (hclr : s.ecc.clear = false) (h0 : v.getLsbD 0 = true) (h1 : v.getLsbD 1 = false) :
    s.opRetCmd r v = s.retireNamed r := by
  unfold State.opRetCmd
  dsimp only
  rw [if_neg (by rw [happ, hclr]; decide), if_neg (ne_true_of_eq_false h1), if_pos h0]

theorem opRetCmd_clear (happ : s.ecc.append = false) (hclr : s.ecc.clear = false) (h0 : v.getLsbD 0 = false) (h1 : v.getLsbD 1 = true)
    (hp : Present s r) : s.opRetCmd r v = s.clearBegin r := by
  unfold State.opRetCmd
  dsimp only
  rw [if_neg (by rw [happ, hclr]; decide), if_pos h1, Present_guarded hp, if_neg (ne_true_of_eq_false h0)]

theorem exec_retire (ht : Taken s r R.ECC_RET_CMD) (happ : s.ecc.append = false) (hclr : s.ecc.clear = false) (h1 : v.getLsbD 1 = false) :
    exec (.retire r v) s = .next ((s.reply .done).retireNamed r) :=
  congrArg Host.Outcome.next ((Taken_access ht).trans (opRetCmd_retire (s := s.reply .done) happ hclr (bit0_set v) (bit1_left h1)))

theorem retireNamed_page (h : s.bit F.ECC_RET_ADDR_BANK = false) (r : Req) :
    s.retireNamed r = s.retireCmd false (s.fld F.ECC_RET_ADDR_PAGE) (reqNum r) := by
  unfold State.retireNamed
  rw [h]
  rfl

/-- A bank that does not exist. -/
theorem retireNamed_noBank (h : s.bit F.ECC_RET_ADDR_BANK = true) (hbank : 384 ≤ s.fld F.ECC_RET_ADDR_PAGE % 512) (r : Req) :
    s.retireNamed r = s.retResult 2 := by
  unfold State.retireNamed
  rw [h]
  exact if_pos ⟨rfl, hbank⟩

theorem retireCmd_known (h : s.ecc.pages.contains n = true) : s.retireCmd false n src = s.retResult 1 :=
  (if_neg (fun hb => absurd hb.1 Bool.false_ne_true)).trans (if_pos h)

/-- What follows the retirement of a page in silicon. -/
theorem retireCmd_new (h : s.ecc.pages.contains n = false) : s.retireCmd false n src =
    if s.rst.noSfdp then (pageRetired s n src).retResult 5
    else if 4096 ≤ s.ecc.list then ((pageRetired s n src).retResult 3).fire P.ECC E.ECC_LIST_FULL
    else { pageRetired s n src with ecc := { (pageRetired s n src).ecc with append := true, src := src } } := by
  have hknown : ¬ (if false then s.ecc.banks else s.ecc.pages).contains n = true := ne_true_of_eq_false h
  exact (if_neg (fun hb => absurd hb.1 Bool.false_ne_true)).trans (if_neg hknown)

theorem retireSilicon_frame (s : State) (n : Nat) : Frame [.ecc] [R.BPM_CNT_RETIRED_BUF] s (s.retireSilicon false n) := by
  have hregs : (s.retireSilicon false n).regs = (s.bumpBy R.BPM_CNT_RETIRED_BUF (s.freeOn false n)).regs := by
    unfold State.retireSilicon State.leavePools
    rw [if_neg Bool.false_ne_true]
  have hkeeps : SameBut [.regs, .ecc] s (s.retireSilicon false n) := State.retireSilicon_keeps false n (List.Subset.refl _) (SameBut.refl _ s)
  exact ⟨hkeeps, fun k hk => retireSilicon_rd s n (fun h => hk (by rw [h]; exact List.mem_singleton_self _))⟩

theorem pageRetired_frame (s : State) (n src : Nat) : FrameEv [.ecc, .log, .resp]
    [R.BPM_CNT_RETIRED_BUF, R.HDR_LOG_PTR P.ECC, R.EVT_CNT_LOG_LOST, R.ECC_CNT_RETIRED] s (pageRetired s n src) :=
  ((((retireSilicon_frame s n).ev.mono (by decide) (by decide)).trans
    ((memRecord_frame _ P.ECC 8 src 0 0 (retEntry false n) 0 0xFF 0).mono (by decide) (by decide))).bump _ (by decide)).andFire _ _

/-- The new page goes to the list. -/
def pageListed (s : State) (n src : Nat) : State :=
  { pageRetired s n src with ecc := { (pageRetired s n src).ecc with append := true, src := src } }

theorem pageListed_frame (s : State) (n src : Nat) : FrameEv [.ecc, .log, .resp]
    [R.BPM_CNT_RETIRED_BUF, R.HDR_LOG_PTR P.ECC, R.EVT_CNT_LOG_LOST, R.ECC_CNT_RETIRED] s (pageListed s n src) :=
  (pageRetired_frame s n src).trans ((ecc_frame _ _).ev.mono (by decide) (List.Subset.refl _))

theorem clearBegin_begins (hsfdp : s.rst.noSfdp = false) (r : Req) : s.clearBegin r =
    { s with ecc := if s.log.pf then { s.ecc with result := 4 } else { s.ecc with clear := true, src := reqNum r } } := by
  unfold State.clearBegin State.retResult
  rw [if_neg (ne_true_of_eq_false hsfdp)]
  split <;> rfl

/-! ### The end of the flash part (R430, R433) -/

theorem retDone_idle (happ : s.ecc.append = false) (hclr : s.ecc.clear = false) (ok : Bool) : s.retDone ok = s := by
  unfold State.retDone
  dsimp only
  rw [happ, hclr, if_neg Bool.false_ne_true, if_neg Bool.false_ne_true]

/-- The append has ended. -/
def appendDone (s : State) (ok : Bool) : State :=
  { s with ecc := { s.ecc with append := false, list := if ok then s.ecc.list + 1 else s.ecc.list, result := if ok then 0 else 4 } }

theorem retDone_append (happ : s.ecc.append = true) (hclr : s.ecc.clear = false) (ok : Bool) : s.retDone ok = appendDone s ok :=
  (if_neg (ne_true_of_eq_false hclr)).trans (if_pos happ)

/-- The erase of the list has ended. -/
def clearDone (s : State) (ok : Bool) : State :=
  { s with ecc := { s.ecc with clear := false, list := if ok then 0 else s.ecc.list, result := if ok then 0 else 4 } }

/-- The record of an erased list, whose ADDR is free (log entry 28). -/
def clearNoted (s : State) (src : Nat) : State :=
  s.freeVal.2.memRecord P.ECC 9 src 0 0 s.freeVal.1.toNat 0 0xFF 0

theorem retDone_clear (happ : s.ecc.append = false) (hclr : s.ecc.clear = true) (ok : Bool) :
    s.retDone ok = if ok then clearNoted (clearDone s ok) s.ecc.src else clearDone s ok := by
  unfold State.retDone
  dsimp only
  rw [hclr, if_pos rfl, happ, if_neg Bool.false_ne_true]
  rfl

theorem freeVal_frame {ks : List Nat} (s : State) : Frame [.fresh] ks s s.freeVal.2 :=
  (Frame.refl _ _ s).upd (SameBut.upd_fresh (List.Subset.refl _) (SameBut.refl _ s)) (List.Subset.refl _) rfl

theorem clearNoted_frame (s : State) (src : Nat) :
    FrameEv [.ecc, .log, .fresh] [R.HDR_LOG_PTR P.ECC, R.EVT_CNT_LOG_LOST] s (clearNoted s src) :=
  ((freeVal_frame s).ev.mono (by decide) (List.Subset.refl _)).trans
    ((memRecord_frame _ P.ECC 9 src 0 0 s.freeVal.1.toNat 0 0xFF 0).mono (by decide) (List.Subset.refl _))

theorem clearNoted_ecc (s : State) (src : Nat) : ∃ body, (clearNoted s src).ecc = { s.ecc with last := body } :=
  memRecord_ecc s.freeVal.2 P.ECC 9 src 0 0 s.freeVal.1.toNat 0 0xFF 0

theorem clearDone_frame (s : State) (ok : Bool) :
    FrameEv [.ecc, .log, .fresh] [R.HDR_LOG_PTR P.ECC, R.EVT_CNT_LOG_LOST] s (clearDone s ok) :=
  (ecc_frame s _).ev.mono (by decide) (List.Subset.refl _)

theorem exec_retCmdDone_clear (happ : s.ecc.append = false) (hclr : s.ecc.clear = true) (ok : Bool) :
    ∃ t, exec (.retCmdDone ok) s = .next t ∧ FrameEv [.ecc, .log, .fresh] [R.HDR_LOG_PTR P.ECC, R.EVT_CNT_LOG_LOST] s t ∧
      t.ecc.clear = false ∧ t.ecc.list = if ok then 0 else s.ecc.list := by
  refine ⟨_, congrArg Host.Outcome.next (retDone_clear happ hclr ok), ?_⟩
  cases ok with
  | false => exact ⟨clearDone_frame s false, rfl, rfl⟩
  | true =>
    obtain ⟨body, hbody⟩ := clearNoted_ecc (clearDone s true) s.ecc.src
    exact ⟨(clearDone_frame s true).trans (clearNoted_frame _ _), congrArg Ecc.clear hbody, congrArg Ecc.list hbody⟩

/-! ### The tracking table (R428) -/

theorem exec_trackClr (ht : Taken s r R.ECC_CE_CFG) (v : Word) : exec (.trackClr r v) s =
    .next { (s.reply .done).store R.ECC_CE_CFG (v ||| 0x100) with ecc := { s.ecc with track := [] } } :=
  congrArg Host.Outcome.next ((Taken_access ht).trans (if_pos (PageControl.getLsbD_or_true v (by decide))))

/-! ### Re-keying (R437-R439) -/

theorem mxe_frame {ks : List Nat} (s : State) (x : Mxe) : Frame [.mxe] ks s { s with mxe := x } :=
  (Frame.refl _ _ s).upd (SameBut.upd_mxe (List.Subset.refl _) (SameBut.refl _ s)) (List.Subset.refl _) rfl

theorem rekey_refused (h1 : v.getLsbD 1 = false) (h0 : v.getLsbD 0 = true) (h : s.mxe.next = none ∨ s.mxe.running = true) :
    s.opMxeCmd r v = (s.refuse r R.MXE_MXE_CMD).fire P.MXE E.MXE_REKEY_REFUSED := by
  have hmay : s.mxe.next = none ∨ s.mxe.running = true ∨ s.mxe.kgen = 0xFFFF ∨ s.testing 4 none = true := by tauto
  exact (if_neg (ne_true_of_eq_false h1)).trans ((if_pos h0).trans (if_pos hmay))

/-- A pass has begun at the first line of every channel. -/
def passBegun (s : State) : State :=
  { s with mxe := { s.mxe with running := true, ptr := Vector.replicate 4 0, passed := Vector.replicate 4 false } }

theorem rekey_runs (h1 : v.getLsbD 1 = false) (h0 : v.getLsbD 0 = true) (hnext : s.mxe.next ≠ none) (hrun : s.mxe.running = false)
    (hgen : s.mxe.kgen ≠ 0xFFFF) (htest : s.testing 4 none = false) :
    s.opMxeCmd r v = ((List.finRange 4).foldl State.rkAdvance (passBegun s)).rkFinish := by
  have hmay : ¬(s.mxe.next = none ∨ s.mxe.running ∨ s.mxe.kgen = 0xFFFF ∨ s.testing 4 none) :=
    not_or.mpr ⟨hnext, not_or.mpr ⟨ne_true_of_eq_false hrun, not_or.mpr ⟨hgen, ne_true_of_eq_false htest⟩⟩⟩
  exact (if_neg (ne_true_of_eq_false h1)).trans ((if_pos h0).trans (if_neg hmay))

theorem fresh_refused (h0 : v.getLsbD 0 = false) (h1 : v.getLsbD 1 = true) (hrun : s.mxe.running = true) :
    s.opMxeCmd r v = s.refuse r R.MXE_MXE_CMD := by
  unfold State.opMxeCmd
  dsimp only
  rw [if_neg (ne_true_of_eq_false h0), if_pos h1, if_pos hrun]

theorem fresh_draws (h0 : v.getLsbD 0 = false) (h1 : v.getLsbD 1 = true) (hrun : s.mxe.running = false) :
    s.opMxeCmd r v = (pairDrawn s).fire P.MXE E.MXE_NEXT_LOADED := by
  unfold State.opMxeCmd
  dsimp only
  rw [if_neg (ne_true_of_eq_false h0), if_pos h1, if_neg (ne_true_of_eq_false hrun)]
  rfl

theorem pairDrawn_frame (s : State) : Frame [.mxe, .fresh] [] s (pairDrawn s) :=
  ((Frame.refl _ _ s).upd (SameBut.upd_fresh (v0 := s.fresh + 2) (List.Subset.refl _) (SameBut.refl _ s)) (by decide) rfl).trans
    ((mxe_frame _ _).mono (by decide) (List.Subset.refl _))

theorem exec_rekeyLine_idle (h : s.mxe.running = false ∨ s.mxe.passed[m] = true ∨ s.extOff = true) (o : EccIn) :
    exec (.rekeyLine m o) s = .next s := by
  refine congrArg Host.Outcome.next (if_neg ?_)
  rintro ⟨hrun, hpass, hon⟩
  rcases h with h | h | h
  · exact ne_true_of_eq_false h hrun
  · exact hpass h
  · exact hon h

/-! ### The channels and the skip window (R424, R444) -/

theorem opMemCmd_tested (h : s.testing 4 (some m.val) = true) (v : Word) : s.opMemCmd r m v = s.refuse r (R.MEM_MEM_CMD m.val) := if_pos h

/-- MEM_CMD.TRAIN alone, of a channel that is up or trains. -/
theorem opMemCmd_trainUp (htest : s.testing 4 (some m.val) = false) (h0 : v.getLsbD 0 = true) (h1 : v.getLsbD 1 = false)
    (hst : (s.ch m).st = .up ∨ (s.ch m).st = .training) : s.opMemCmd r m v = s.refuse r (R.MEM_MEM_CMD m.val) := by
  unfold State.opMemCmd
  dsimp only
  rw [if_neg (ne_true_of_eq_false htest), if_pos h0, if_neg (fun h => ne_true_of_eq_false h1 h.1)]
  rcases hst with h | h <;> rw [h]

/-- MEM_CMD.TRAIN alone, of a channel that is down. -/
theorem opMemCmd_trainDown (htest : s.testing 4 (some m.val) = false) (h0 : v.getLsbD 0 = true) (h1 : v.getLsbD 1 = false)
    (hst : (s.ch m).st = .off ∨ (s.ch m).st = .withdrawn) : s.opMemCmd r m v = s.startTraining m false := by
  unfold State.opMemCmd
  dsimp only
  rw [if_neg (ne_true_of_eq_false htest), if_pos h0, if_neg (fun h => ne_true_of_eq_false h1 h.1)]
  rcases hst with h | h <;> rw [h]

/-- MEM_CMD.WITHDRAW alone. -/
theorem opMemCmd_withdraw (htest : s.testing 4 (some m.val) = false) (h0 : v.getLsbD 0 = false) (h1 : v.getLsbD 1 = true) :
    s.opMemCmd r m v = if (s.ch m).st = .up then s.withdraw m 0 (reqNum r) else s := by
  unfold State.opMemCmd
  dsimp only
  rw [if_neg (ne_true_of_eq_false htest), if_neg (ne_true_of_eq_false h0)]
  simp only [h1, true_and]

/-- Training of a channel that is down has begun. -/
def trainBegun (s : State) (m : Chan) : State :=
  { s with memch := s.memch.set m { s.ch m with st := .training, eyeOnly := false, want := false, cap := s.memCap m } }

theorem startTraining_begins (hlimp : s.pwr.limp = false) (hent : s.mxe.entropyOk = true) : s.startTraining m false = trainBegun s m :=
  (if_neg (ne_true_of_eq_false hlimp)).trans (if_pos hent)

theorem trainBegun_frame {ks : List Nat} (s : State) (m : Chan) : Frame [.memch] ks s (trainBegun s m) :=
  (Frame.refl _ _ s).upd (SameBut.upd_memch (List.Subset.refl _) (SameBut.refl _ s)) (List.Subset.refl _) rfl

/-- The register of one end of the skip window. -/
abbrev skipReg (m : Chan) (endReg : Bool) : Nat := if endReg then R.MEM_SKIP_END m.val else R.MEM_SKIP_START m.val

theorem opSkip_refused {endReg : Bool} (h : s.mxe.running = true ∨ (s.skipOn m = true ∧ s.skipStart m ≤ (s.ch m).eave)) (v : Word) :
    s.opSkip r m endReg v = s.refuse r (skipReg m endReg) := by
  refine if_pos (h.imp_right fun hold => .inl ?_)
  rw [hold.1, decide_eq_true hold.2]
  rfl

theorem opSkip_stores {endReg : Bool} (hrun : s.mxe.running = false) (hskip : s.skipOn m = false) (hv : endReg = true ∨ v.getLsbD 31 = false) :
    s.opSkip r m endReg v = s.store (skipReg m endReg) v := by
  have hnew : (!endReg && v.getLsbD 31) = false := by
    rcases hv with h | h
    · rw [h]; rfl
    · rw [h, Bool.and_false]
  refine if_neg ?_
  rw [hrun, hskip, hnew]
  simp

/-! ### O36 -/

/-- Settles O36: each clause is what one of the operations above leaves. -/
theorem memoryControl : Obligations.MemoryControl := by
  unfold Obligations.MemoryControl
  refine ⟨fun r v s ht h => ⟨congrArg Host.Outcome.next ((Taken_access ht).trans (opRetCmd_busy (s := s.reply .done) h _)),
      congrArg Host.Outcome.next ((Taken_access ht).trans (opRetCmd_busy (s := s.reply .done) h _))⟩,
    fun r v s ht happ hclr h1 => ?retire, fun r v s ht happ hclr h0 hdel hwin hsfdp => ?clear,
    fun ok s => ⟨fun happ hclr => congrArg Host.Outcome.next (retDone_idle happ hclr ok),
      fun happ hclr => ⟨_, congrArg Host.Outcome.next (retDone_append happ hclr ok), ecc_frame s _, rfl⟩,
      fun happ hclr => exec_retCmdDone_clear happ hclr ok⟩,
    fun r v s ht => ⟨_, exec_trackClr ht v, ((replied_frame s (by decide)).store _ _ List.mem_cons_self).trans
      ((ecc_frame _ _).mono (by decide) (List.Subset.refl _)), rfl, rfl⟩,
    fun r v s ht => ?keys, fun ch o s => ⟨fun h => exec_rekeyLine_idle h o, fun hrun hpass hon hst hptr => ?rekeyLine⟩,
    fun r m v s ht => ?channel, fun r m endReg v s ht => ?skip⟩
  case retire =>
    have hexec : exec (.retire r v) s = .next ((s.reply .done).retireNamed r) := exec_retire ht happ hclr h1
    refine ⟨fun hbank hpage => ⟨_, hexec.trans (congrArg _ (retireNamed_noBank (s := s.reply .done) hbank hpage r)),
      (replied_frame s (by decide)).trans ((ecc_frame _ _).mono (by decide) (List.Subset.refl _)), rfl⟩, fun hbank => ?_⟩
    have hcmd : exec (.retire r v) s = .next ((s.reply .done).retireCmd false (s.fld F.ECC_RET_ADDR_PAGE) (reqNum r)) :=
      hexec.trans (congrArg _ (retireNamed_page (s := s.reply .done) hbank r))
    have hretired (h : s.ecc.pages.contains (s.fld F.ECC_RET_ADDR_PAGE) = false) :=
      hcmd.trans (congrArg Host.Outcome.next (retireCmd_new (s := s.reply .done) (src := reqNum r) h))
    refine ⟨fun h => ⟨_, hcmd.trans (congrArg _ (retireCmd_known (s := s.reply .done) h)),
        (replied_frame s (by decide)).trans ((ecc_frame _ _).mono (by decide) (List.Subset.refl _)), rfl⟩,
      fun h hsfdp => (hretired h).trans (congrArg _ (if_pos hsfdp)),
      fun h hsfdp hfull => ⟨_, (hretired h).trans (congrArg _ ((if_neg (ne_true_of_eq_false hsfdp)).trans (if_pos hfull))), rfl⟩,
      fun h hsfdp hroom => ⟨pageListed (s.reply .done) (s.fld F.ECC_RET_ADDR_PAGE) (reqNum r),
        (hretired h).trans (congrArg _ ((if_neg (ne_true_of_eq_false hsfdp)).trans (if_neg (Nat.not_le.mpr hroom)))), rfl, rfl,
        pageRetired_pages _ _ _, (replied_frame s (by decide)).ev.trans (pageListed_frame _ _ _), pageRetired_counts _ _ _⟩⟩
  case clear =>
    have hop := opRetCmd_clear (s := s.reply .done) (r := r) happ hclr (bit0_left h0) (bit1_set v) ⟨hdel, hwin⟩
    exact ⟨_, congrArg Host.Outcome.next ((Taken_access ht).trans (hop.trans (clearBegin_begins (s := s.reply .done) hsfdp r))),
      (replied_frame s (by decide)).trans ((ecc_frame _ _).mono (by decide) (List.Subset.refl _)), rfl⟩
  case keys =>
    refine ⟨fun h1 h => congrArg Host.Outcome.next ((Taken_access ht).trans
        (rekey_refused (s := s.reply .done) (bit1_left h1) (bit0_set v) h)),
      fun h1 hnext hrun hgen htest => ⟨passBegun (s.reply .done), congrArg Host.Outcome.next ((Taken_access ht).trans
        (rekey_runs (s := s.reply .done) (bit1_left h1) (bit0_set v) hnext hrun hgen htest)),
        (replied_frame s (by decide)).trans ((mxe_frame _ _).mono (by decide) (List.Subset.refl _)), rfl⟩,
      fun h0 hrun => congrArg Host.Outcome.next ((Taken_access ht).trans
        (fresh_refused (s := s.reply .done) (bit0_left h0) (bit1_set v) hrun)),
      fun h0 hrun => ⟨_, congrArg Host.Outcome.next ((Taken_access ht).trans
        (fresh_draws (s := s.reply .done) (bit0_left h0) (bit1_set v) hrun)), ?_, State.fire_mxe _ _ _,
        fun hdom => State.fire_raised (s := pairDrawn (s.reply .done)) hdom (by decide)⟩⟩
    exact ((replied_frame s (by decide)).trans ((pairDrawn_frame _).mono (by decide) (List.Subset.refl _))).ev.andFire _ _
  case rekeyLine =>
    obtain ⟨u, w, ok, hread, hw, hexec⟩ := rekeyLine_reads (o := o) hrun hpass hon hst hptr
    have hu : (s.memRead .rekey (.ext ch s.mxe.ptr[ch]) o).2 = u := congrArg Prod.snd hread
    exact ⟨u, w, ok, hread, hw, hexec, hu ▸ memRead_page s .rekey (.ext ch s.mxe.ptr[ch]) o⟩
  case channel =>
    have hdraw (htest : s.testing 4 (some m.val) = false) (h0 : v.getLsbD 0 = false) : exec (.memWithdraw r m v) s = _ :=
      congrArg Host.Outcome.next ((Taken_access ht).trans
        (opMemCmd_withdraw (s := s.reply .done) htest (bit0_left h0) (bit1_set v)))
    exact ⟨fun h => ⟨congrArg Host.Outcome.next ((Taken_access ht).trans (opMemCmd_tested (s := s.reply .done) h _)),
        congrArg Host.Outcome.next ((Taken_access ht).trans (opMemCmd_tested (s := s.reply .done) h _))⟩,
      fun htest h1 hst => congrArg Host.Outcome.next ((Taken_access ht).trans
        (opMemCmd_trainUp (s := s.reply .done) htest (bit0_set v) (bit1_left h1) hst)),
      fun htest h1 hst hlimp hent => ⟨trainBegun (s.reply .done) m, congrArg Host.Outcome.next ((Taken_access ht).trans
        ((opMemCmd_trainDown (s := s.reply .done) htest (bit0_set v) (bit1_left h1) hst).trans
          (startTraining_begins (s := s.reply .done) hlimp hent))),
        (replied_frame s (by decide)).trans ((trainBegun_frame _ m).mono (by decide) (List.Subset.refl _)), rfl, rfl⟩,
      fun htest h0 hst => (hdraw htest h0).trans (congrArg _ (if_pos hst)),
      fun htest h0 hst => (hdraw htest h0).trans (congrArg _ (if_neg hst))⟩
  case skip =>
    exact ⟨fun h => congrArg Host.Outcome.next ((Taken_access ht).trans (opSkip_refused (s := s.reply .done) h v)),
      fun hrun hskip hv => ⟨_, congrArg Host.Outcome.next ((Taken_access ht).trans (opSkip_stores (s := s.reply .done) hrun hskip hv)),
        (replied_frame s (by decide)).store _ _ (List.mem_singleton_self _), rfl⟩⟩

end Sys2Proof.Proofs.MemoryControls
end

section
/-! PROOF. Device time: the servo's hold time, forced steps, sources, domain B, the RTC, the latching reads, the outputs (O40). -/

namespace Sys2Proof.Proofs.DeviceTimes

open Sys2Proof Sys2Proof.Machine
set_option Elab.async false

variable {s t : State} {r : Req} {v w : Word}

theorem replied_frame {ps : List Part} {ks : List Nat} (s : State) (hp : .resp ∈ ps) : Frame ps ks s (s.reply .done) :=
  (Frame.refl _ _ s).reply _ hp

theorem setTim_frame {ks : List Nat} (s : State) (f : Tim → Tim) : Frame [.tim] ks s (s.setTim f) :=
  (Frame.refl _ _ s).upd (State.setTim_keeps f (List.Subset.refl _) (SameBut.refl _ s)) (List.Subset.refl _) rfl

/-! ### The servo (R512, R519) -/

/-- The time state once the servo is in `q`, and f is I, which the Seam may hold (R512). -/
def settled (s : State) (q : ServoSt) : Tim := { s.tim with servo := q, f := if s.seam.phase = .up then s.tim.i else s.tim.f }

/-- The servo goes to `q` and its hold timer stops. -/
def servoTo (s : State) (q : ServoSt) : State := ((s.setTim (fun t => { t with servo := q })).settleF).stopTimer T.servoHold

theorem settleF_frame {ks : List Nat} (s : State) : Frame [.tim] ks s s.settleF := by
  unfold State.settleF
  split
  · exact setTim_frame s _
  · exact Frame.refl _ _ s

theorem settleF_tim (s : State) : s.settleF.tim = { s.tim with f := if s.seam.phase = .up then s.tim.i else s.tim.f } := by
  unfold State.settleF
  split <;> rfl

theorem servoTo_frame {ks : List Nat} (s : State) (q : ServoSt) : Frame [.tim, .timers] ks s (servoTo s q) :=
  (((setTim_frame s _).trans (settleF_frame _)).mono (by decide) (List.Subset.refl _)).stopTimer _ (by decide)

theorem servoTo_tim (s : State) (q : ServoSt) : (servoTo s q).tim = settled s q := settleF_tim _

theorem exec_servoHoldTimeout_idle (h : s.running T.servoHold = false ∨ s.tim.servo = .free ∨ s.tim.servo = .holdover) :
    exec .servoHoldTimeout s = .next s := by
  refine congrArg Host.Outcome.next (ite_eq_right_iff.mpr fun hrun => if_neg ?_)
  rcases h with h | h | h
  · exact absurd hrun (ne_true_of_eq_false h)
  · rw [h]; decide
  · rw [h]; decide

theorem exec_servoHoldTimeout (hrun : s.running T.servoHold = true) (hst : s.tim.servo = .acquire ∨ s.tim.servo = .locked) :
    exec .servoHoldTimeout s = .next ((servoTo s .holdover).fire P.TIM E.TIM_HOLDOVER) :=
  congrArg Host.Outcome.next ((if_pos hrun).trans (if_pos hst))

/-- The servo is FREE: TIM_CTL with EN 0 has been stored. -/
def servoFreed (s : State) (v : Word) : State := servoTo ((s.reply .done).store R.TIM_TIM_CTL v) .free

/-- The registers of domain B. -/
abbrev regsB : List Nat := [R.TIM_B_CFG, R.TIM_B_AT_SEC, R.TIM_B_AT_NS, R.TIM_B_OFS]

/-- The time state without domain B. -/
def timOff (x : Tim) : Tim := { x with srcB := false, b := .off, phi := 0, nu := 0, bRun := 0, bAt := none }

/-- Domain B has ended (log entry 39). -/
def domainBEnded (s : State) : State :=
  (regsB.foldl (fun (t : State) k => t.wr k (resetWord k))
    (s.setTim timOff)).stopTimer T.bHold

/-- SERVO_DISABLE writes TIM_CTL with EN 0. -/
abbrev disableWord (v : Word) : Word := v &&& ~~~ 1

theorem disableWord_bits (v : Word) : (disableWord v).getLsbD 0 = false ∧ (disableWord v).getLsbD 1 = v.getLsbD 1 := by
  constructor <;> simp [disableWord]

theorem servoFreed_bit (s : State) (v : Word) {f : Fld} (hf : plainField f = true) (hw : f.w = 1) (hk : f.key = R.TIM_TIM_CTL) :
    (servoFreed s v).bit f = v.getLsbD f.lo := by
  have hrd : (servoFreed s v).bit f = ((s.reply .done).store f.key v).bit f := by
    have hkept : (servoFreed s v).rd f.key = ((s.reply .done).store f.key v).rd f.key := by
      rw [hk]
      exact (servoTo_frame (ks := []) _ .free).2 _ List.not_mem_nil
    unfold State.bit State.fld
    rw [hkept]
  exact hrd.trans (State.bit_store_plain _ f v hf hw)

theorem exec_servoDisable (ht : Taken s r R.TIM_TIM_CTL) (v : Word) : exec (.servoDisable r v) s =
    .next (if v.getLsbD 1 then servoFreed s (disableWord v) else domainBEnded (servoFreed s (disableWord v))) := by
  obtain ⟨h0, h1⟩ := disableWord_bits v
  have hen : ((s.reply .done).store R.TIM_TIM_CTL (disableWord v)).bit F.TIM_TIM_CTL_EN = false :=
    (State.bit_store_plain (s.reply .done) F.TIM_TIM_CTL_EN (disableWord v) (by decide) rfl).trans h0
  have hcompat : (servoFreed s (disableWord v)).bit F.TIM_TIM_CTL_COMPAT = v.getLsbD 1 :=
    (servoFreed_bit s (disableWord v) (f := F.TIM_TIM_CTL_COMPAT) (by decide) rfl rfl).trans h1
  refine congrArg Host.Outcome.next ((Taken_access ht).trans ?_)
  unfold State.opTimCtl
  dsimp only
  rw [hen, if_neg Bool.false_ne_true]
  show (if (servoFreed s (disableWord v)).bit F.TIM_TIM_CTL_COMPAT then servoFreed s (disableWord v)
    else domainBEnded (servoFreed s (disableWord v))) = _
  rw [hcompat]

theorem servoFreed_frame (s : State) (v : Word) : Frame [.tim, .timers, .resp] (R.TIM_TIM_CTL :: regsB) s (servoFreed s v) :=
  ((replied_frame s (by decide)).store _ _ List.mem_cons_self).trans ((servoTo_frame _ .free).mono (by decide) (List.Subset.refl _))

theorem domainBEnded_frame (s : State) : Frame [.tim, .timers, .resp] (R.TIM_TIM_CTL :: regsB) s (domainBEnded s) := by
  have hoff : Frame [.tim, .timers, .resp] (R.TIM_TIM_CTL :: regsB) s (s.setTim timOff) := (setTim_frame s _).mono (by decide) (List.Subset.refl _)
  exact (hoff.foldl_wr (fun k => k) resetWord regsB fun k hk => List.mem_cons_of_mem _ hk).stopTimer _ (by decide)

theorem domainBEnded_servo (s : State) : (domainBEnded s).tim.servo = s.tim.servo := rfl

/-! ### Forced steps (R521-R523) -/

/-- The command word of a forced step: MODE `n / 2`, STEP 1. -/
abbrev stepWord (v : Word) (n : Nat) : Word := setField v 0 3 n

theorem stepWord_go (v : Word) {n : Nat} (hn : n.testBit 0 = true) : (stepWord v n).getLsbD 0 = true :=
  (setField_getLsbD v n 0 (by decide)).trans hn

theorem stepWord_mode (v : Word) (n : Nat) : getField (stepWord v n) 1 2 = getField (BitVec.ofNat 32 n) 1 2 := by
  refine getField_congr fun i hi => ?_
  rw [setField_getLsbD v n (1 + i) (by decide), if_pos (by omega), BitVec.getLsbD_ofNat, decide_eq_true (by omega), Bool.true_and]
  rfl

theorem stepWord_alone (n : Nat) (hv : getField v 4 2 = 0) : (stepWord v n).getLsbD 4 = false ∧ (stepWord v n).getLsbD 5 = false := by
  have hbit (i : Nat) (hlo : 4 ≤ i) (hhi : i < 4 + 2) : (stepWord v n).getLsbD i = false := by
    rw [setField_getLsbD v n i (by decide), if_neg (by omega)]
    exact LaneCommands.getLsbD_of_getField_zero hv hlo hhi
  exact ⟨hbit 4 (by decide) (by decide), hbit 5 (by decide) (by decide)⟩

/-- A step in mode `m` may not be asked for. -/
def StepBarred (s : State) (m : Nat) : Prop :=
  (m = 0 ∧ ¬ s.bit F.TIM_REF_SEC_HI_VALID = true) ∨ s.seam.phase ≠ .up ∨ s.tim.wait.isSome = true

theorem opTimCmd_barred {m : Nat} (h0 : w.getLsbD 0 = true) (hm : getField w 1 2 = m) (h : StepBarred s m) :
    s.opTimCmd r w = s.refuse r R.TIM_TIM_CMD := by
  subst hm
  exact if_pos (.inr ⟨h0, h⟩)

theorem opTimCmd_step {m : Nat} (h0 : w.getLsbD 0 = true) (hm : getField w 1 2 = m) (hm3 : m ≠ 3) (h4 : w.getLsbD 4 = false)
    (h5 : w.getLsbD 5 = false) (h : ¬ StepBarred s m) : s.opTimCmd r w = s.requestStep (s.stepOf m) := by
  subst hm
  have hmay : ¬(getField w 1 2 = 3 ∨ (w.getLsbD 0 = true ∧ StepBarred s (getField w 1 2))) := not_or.mpr ⟨hm3, fun hb => h hb.2⟩
  refine (if_neg hmay).trans ?_
  rw [if_neg (ne_true_of_eq_false h5), if_neg (ne_true_of_eq_false h4), if_pos h0]

/-- The commands of a forced step. -/
def IsStep (i : Instr) (r : Req) (v : Word) (n : Nat) : Prop :=
  ∀ s, exec i s = .next (s.access r R.TIM_TIM_CMD true (fun t => t.opTimCmd r (stepWord v n)))

/-- A step's command names one of three modes. -/
def StepCode (n m : Nat) : Prop := n.testBit 0 = true ∧ getField (BitVec.ofNat 32 n) 1 2 = m ∧ m ≠ 3

theorem step_refused {i : Instr} {n m : Nat} (hi : IsStep i r v n) (hn : StepCode n m) (ht : Taken s r R.TIM_TIM_CMD) (h : StepBarred s m) :
    exec i s = .next ((s.reply .done).refuse r R.TIM_TIM_CMD) := by
  obtain ⟨hgo, hmode, -⟩ := hn
  exact (hi s).trans (congrArg _ ((Taken_access ht).trans
    (opTimCmd_barred (s := s.reply .done) (stepWord_go v hgo) ((stepWord_mode v n).trans hmode) h)))

theorem step_requested {i : Instr} {n m : Nat} (hi : IsStep i r v n) (hn : StepCode n m) (ht : Taken s r R.TIM_TIM_CMD)
    (hv : getField v 4 2 = 0) (h : ¬ StepBarred s m) : exec i s = .next ((s.reply .done).requestStep (s.stepOf m)) := by
  obtain ⟨hgo, hmode, hm3⟩ := hn
  obtain ⟨h4, h5⟩ := stepWord_alone n hv
  exact (hi s).trans (congrArg _ ((Taken_access ht).trans
    (opTimCmd_step (s := s.reply .done) (stepWord_go v hgo) ((stepWord_mode v n).trans hmode) hm3 h4 h5 h)))

/-- A step waits while a frame is sent. -/
theorem step_waits {i : Instr} {n m : Nat} (hi : IsStep i r v n) (hn : StepCode n m) (ht : Taken s r R.TIM_TIM_CMD)
    (hv : getField v 4 2 = 0) (h : ¬ StepBarred s m) (hbusy : s.transmitting = true) :
    ∃ t, exec i s = .next t ∧ Frame [.tim, .resp] [] s t ∧ t.tim = { s.tim with wait := some (s.stepOf m) } :=
  ⟨_, (step_requested hi hn ht hv h).trans (congrArg _ (if_pos hbusy)),
    (replied_frame s (by decide)).trans ((setTim_frame _ _).mono (by decide) (List.Subset.refl _)), rfl⟩

theorem step_taken {i : Instr} {n m : Nat} {x : TimeStep} (hi : IsStep i r v n) (hn : StepCode n m) (ht : Taken s r R.TIM_TIM_CMD)
    (hv : getField v 4 2 = 0) (h : ¬ StepBarred s m) (hidle : s.transmitting = false) (hx : s.stepOf m = x) :
    exec i s = .next ((s.reply .done).stepTime x) := by
  subst hx
  exact (step_requested hi hn ht hv h).trans (congrArg _ (if_neg (ne_true_of_eq_false hidle)))

theorem stepOf_byRefused (s : State) : s.stepOf 0 = .by_ (-(s.refNs * 65536)) := if_pos rfl

theorem stepOf_toTime (s : State) : s.stepOf 1 = .to_ (s.stepNs * 65536) := (if_neg (by decide)).trans (if_pos rfl)

theorem stepOf_byAmount (s : State) :
    s.stepOf 2 = .by_ ((if s.bit F.TIM_STEP_SEC_HI_NEG then -(s.stepNs : Int) else s.stepNs) * 65536) :=
  (if_neg (by decide)).trans (if_neg (by decide))

theorem isStep_byRefused (r : Req) (v : Word) : IsStep (.stepByRefused r v) r v 1 := fun _ => rfl

theorem isStep_toTime (r : Req) (v : Word) : IsStep (.stepToTime r v) r v 3 := fun _ => rfl

theorem isStep_byAmount (r : Req) (v : Word) : IsStep (.stepByAmount r v) r v 5 := fun _ => rfl

theorem stepCode_byRefused : StepCode 1 0 := ⟨by decide, by decide, by decide⟩

theorem stepCode_toTime : StepCode 3 1 := ⟨by decide, by decide, by decide⟩

theorem stepCode_byAmount : StepCode 5 2 := ⟨by decide, by decide, by decide⟩

/-- With the Seam up and no step waiting only the first mode has a condition of its own. -/
theorem not_stepBarred {m : Nat} (hup : s.seam.phase = .up) (hwait : s.tim.wait = none) (hm : m = 0 → s.bit F.TIM_REF_SEC_HI_VALID = true) :
    ¬ StepBarred s m := by
  unfold StepBarred
  rw [hup, hwait]
  rintro (⟨h0, hvalid⟩ | hphase | hsome)
  · exact hvalid (hm h0)
  · exact hphase rfl
  · exact Bool.false_ne_true hsome

/-! ### A step takes effect (R470, R522, R523) -/

/-- What a step has left once its quality is judged: the clock, the lanes, the steps taken and those waiting, and every raised bit. -/
structure StepLeft (s t : State) : Prop where
  frame : FrameEv [.tim, .timers] [] s t
  wait : t.tim.wait = s.tim.wait
  steps : t.tim.steps = s.tim.steps
  raised : ∀ p b, Raised s p b → Raised t p b

theorem StepLeft.refl (s : State) : StepLeft s s := ⟨FrameEv.refl _ _ s, rfl, rfl, fun _ _ h => h⟩

theorem StepLeft.trans {u : State} (h : StepLeft s t) (h' : StepLeft t u) : StepLeft s u :=
  ⟨h.frame.trans h'.frame, h'.wait.trans h.wait, h'.steps.trans h.steps, fun p b hr => h'.raised p b (h.raised p b hr)⟩

/-- The quality is `q`, and raised. -/
def qualRaised (s : State) (q : QualSt) : State := (s.setTim (fun t => { t with qual := q })).fire P.TIM E.TIM_QUAL_CHANGE

theorem qualRaised_left (s : State) (q : QualSt) : StepLeft s (qualRaised s q) := by
  have htim : (qualRaised s q).tim = { s.tim with qual := q } := State.fire_tim _ _ _
  exact ⟨((setTim_frame s _).mono (by decide) (List.Subset.refl _)).ev.andFire _ _, by rw [htim], by rw [htim],
    fun p b h => Raised_fire (s := s.setTim (fun t => { t with qual := q })) h P.TIM (by decide)⟩

theorem setQual_left (s : State) (q : QualSt) : StepLeft s (s.setQual q) := by
  have heq (q' : QualSt) : StepLeft s (if s.tim.qual = q' then s else qualRaised s q') := by
    split
    · exact StepLeft.refl s
    · exact qualRaised_left s q'
  exact heq _

theorem stepQual_left (s : State) : StepLeft s s.stepQual := by
  unfold State.stepQual
  split
  · exact setQual_left s _
  · exact StepLeft.refl s

theorem servoStep_left (s : State) : StepLeft s s.servoStep := by
  unfold State.servoStep
  split
  case h_1 => exact StepLeft.refl s
  case h_2 =>
    exact ⟨(((Frame.refl _ _ s).startTimer _ (by decide)).trans ((setTim_frame _ _).mono (by decide) (List.Subset.refl _))).ev, rfl, rfl,
      fun _ _ h => h⟩
  case h_3 => exact ⟨((setTim_frame s _).mono (by decide) (List.Subset.refl _)).ev, rfl, rfl, fun _ _ h => h⟩

/-- The step has moved both counters and is counted and raised. -/
def stepRaised (s : State) (x : TimeStep) : State :=
  (((s.stepClock x).bump R.TIM_CNT_STEP).setFld F.TIM_REF_SEC_HI_VALID 0).fire P.TIM E.TIM_STEPPED

theorem stepTime_left (s : State) (x : TimeStep) : StepLeft (stepRaised s x) (s.stepTime x) :=
  (servoStep_left (stepRaised s x)).trans (stepQual_left (stepRaised s x).servoStep)

theorem stepClock_frame {ks : List Nat} (s : State) (x : TimeStep) : Frame [.lanes, .tim, .clock] ks s (s.stepClock x) :=
  (Frame.refl _ _ s).upd (State.stepClock_keeps x (List.Subset.refl _) (SameBut.refl _ s)) (List.Subset.refl _) rfl

theorem stepRaised_frame (s : State) (x : TimeStep) :
    FrameEv [.tim, .timers, .clock, .lanes] [R.TIM_CNT_STEP, R.TIM_REF_SEC_HI] s (stepRaised s x) :=
  (((((stepClock_frame s x).mono (by decide) (List.Subset.refl _)).ev).bump _ (by decide)).setFld _ _ (by decide)).andFire _ _

theorem stepRaised_same (s : State) (x : TimeStep) :
    SameBut [.regs, .evt, .seam, .tsk, .hif, .out] (s.stepClock x) (stepRaised s x) :=
  State.fire_keeps _ _ (by decide) (State.setFld_keeps _ _ (by decide) (State.bump_keeps _ (by decide) (SameBut.refl _ (s.stepClock x))))

theorem stepRaised_counts (s : State) (x : TimeStep) : (stepRaised s x).rd R.TIM_CNT_STEP = s.rd R.TIM_CNT_STEP + 1 :=
  (State.fire_rd _ _ _ (by decide)).trans ((State.rd_setFld_ne _ _ _ (by decide)).trans (State.rd_bump_self (s.stepClock x) _))

theorem stepRaised_raised (hdom : s.domOn (domainOf (R.HDR_EVT_RAW P.TIM)) = true) (x : TimeStep) : Raised (stepRaised s x) P.TIM E.TIM_STEPPED := by
  have hpwr : (((s.stepClock x).bump R.TIM_CNT_STEP).setFld F.TIM_REF_SEC_HI_VALID 0).pwr = s.pwr :=
    (State.setFld_pwr _ _ _).trans ((State.bump_pwr _ _).trans ((stepClock_frame (ks := []) s x).1 .pwr (by decide)))
  exact State.fire_raised ((State.domOn_of_pwr hpwr _).trans hdom) (by decide)

theorem stepTime_frame (s : State) (x : TimeStep) :
    FrameEv [.tim, .timers, .clock, .lanes] [R.TIM_CNT_STEP, R.TIM_REF_SEC_HI] s (s.stepTime x) :=
  (stepRaised_frame s x).trans ((stepTime_left s x).frame.mono (by decide) (List.nil_subset _))

theorem stepTime_lanes (s : State) (x : TimeStep) :
    (s.stepTime x).lanes = s.lanes.map (fun y => if y.mac.tx.isSome then { y with lag := y.lag + s.stepAmount x } else y) :=
  ((stepTime_left s x).frame.1 .lanes (by decide)).trans (stepRaised_same s x .lanes (by decide))

theorem stepTime_clock (s : State) (x : TimeStep) : (s.stepTime x).clock = s.clock.stepped x :=
  ((stepTime_left s x).frame.1 .clock (by decide)).trans (stepRaised_same s x .clock (by decide))

theorem stepTime_tim (s : State) (x : TimeStep) : (s.stepTime x).tim.wait = none ∧ (s.stepTime x).tim.steps = s.tim.steps + 1 := by
  have htim : (stepRaised s x).tim = (s.stepClock x).tim := stepRaised_same s x .tim (by decide)
  exact ⟨(stepTime_left s x).wait.trans (congrArg Tim.wait htim), (stepTime_left s x).steps.trans (congrArg Tim.steps htim)⟩

theorem stepTime_counts (s : State) (x : TimeStep) : (s.stepTime x).rd R.TIM_CNT_STEP = s.rd R.TIM_CNT_STEP + 1 :=
  ((stepTime_left s x).frame.2 _ List.not_mem_nil (by decide)).trans (stepRaised_counts s x)

theorem stepTime_raised (hdom : s.domOn (domainOf (R.HDR_EVT_RAW P.TIM)) = true) (x : TimeStep) : Raised (s.stepTime x) P.TIM E.TIM_STEPPED :=
  (stepTime_left s x).raised _ _ (stepRaised_raised hdom x)

theorem exec_stepApply {x : TimeStep} (h : s.tim.wait = some x) : exec .stepApply s = .next (s.stepTime x) := by
  show execStepApply s = _
  unfold execStepApply
  rw [h]

theorem exec_stepApply_none (h : s.tim.wait = none) : exec .stepApply s = .next s := by
  show execStepApply s = _
  unfold execStepApply
  rw [h]

/-! ### Sources (R525) -/

theorem opTimCmd_switch (h0 : w.getLsbD 0 = false) (hm : getField w 1 2 ≠ 3) (s : State) (r : Req) :
    s.opTimCmd r w = if w.getLsbD 5 then (if w.getLsbD 4 then s.switchToA else s).switchToB else if w.getLsbD 4 then s.switchToA else s := by
  refine (if_neg (not_or.mpr ⟨hm, fun h => ne_true_of_eq_false h0 h.1⟩)).trans ?_
  rw [if_neg (ne_true_of_eq_false h0)]

/-- A word with no step asked for, and one bit more above it. -/
theorem switchWord_quiet (hv : getField v 0 3 = 0) (x : Word) (hx : ∀ i, i < 3 → x.getLsbD i = false) :
    (v ||| x).getLsbD 0 = false ∧ getField (v ||| x) 1 2 ≠ 3 := by
  have hbit (i : Nat) (hi : i < 3) : (v ||| x).getLsbD i = false := by
    rw [BitVec.getLsbD_or, LaneCommands.getLsbD_of_getField_zero hv (Nat.zero_le i) (by omega), hx i hi]
    rfl
  refine ⟨hbit 0 (by decide), ?_⟩
  have hmode : getField (v ||| x) 1 2 = getField 0 1 2 := getField_congr fun i hi => (hbit (1 + i) (by omega)).trans BitVec.getLsbD_zero.symm
  rw [hmode]
  decide

/-- The source is A, and a switch is counted and raised. -/
theorem exec_switchA (ht : Taken s r R.TIM_TIM_CMD) (hv : getField v 0 3 = 0) (h5 : v.getLsbD 5 = false) :
    exec (.switchA r v) s = .next (s.reply .done).switchToA := by
  obtain ⟨h0, hm⟩ := switchWord_quiet hv 0x10 (by decide)
  refine congrArg Host.Outcome.next ((Taken_access ht).trans ((opTimCmd_switch h0 hm _ r).trans ?_))
  rw [if_neg (ne_true_of_eq_false (PageControl.getLsbD_or_false h5 (by decide))), if_pos (PageControl.getLsbD_or_true v (by decide))]

theorem exec_switchB (ht : Taken s r R.TIM_TIM_CMD) (hv : getField v 0 3 = 0) (h4 : v.getLsbD 4 = false) :
    exec (.switchB r v) s = .next (s.reply .done).switchToB := by
  obtain ⟨h0, hm⟩ := switchWord_quiet hv 0x20 (by decide)
  refine congrArg Host.Outcome.next ((Taken_access ht).trans ((opTimCmd_switch h0 hm _ r).trans ?_))
  rw [if_pos (PageControl.getLsbD_or_true v (by decide)), if_neg (ne_true_of_eq_false (PageControl.getLsbD_or_false h4 (by decide)))]

/-- The time state changes and a switch is counted and raised. -/
theorem switched_spec (s : State) (f : Tim → Tim) : FrameEv [.tim, .resp] [R.TIM_CNT_SWITCH] s ((s.reply .done).setTim f).switched ∧
    ((s.reply .done).setTim f).switched.tim = f s.tim ∧
    ((s.reply .done).setTim f).switched.rd R.TIM_CNT_SWITCH = s.rd R.TIM_CNT_SWITCH + 1 ∧
    (s.domOn (domainOf (R.HDR_EVT_RAW P.TIM)) = true → Raised ((s.reply .done).setTim f).switched P.TIM E.TIM_SWITCHED) :=
  ⟨((((replied_frame s (by decide)).trans ((setTim_frame _ f).mono (by decide) (List.Subset.refl _))).bump _ List.mem_cons_self).ev).andFire _ _,
    State.fire_tim _ _ _, (State.fire_rd _ _ _ (by decide)).trans (State.rd_bump_self _ _),
    fun hdom => State.fire_raised (s := ((s.reply .done).setTim f).bump R.TIM_CNT_SWITCH) hdom (by decide)⟩

/-- Domain B is locked in phase (R525). -/
def InPhase (s : State) : Prop :=
  s.bit F.TIM_TIM_CTL_COMPAT = true ∧ s.tim.b = .locked ∧ s.tim.phi.natAbs ≤ s.fld F.TIM_JUMP_CFG_JUMP_NS * 16

/-- The time state once the source is B. -/
def timB (s : State) (x : Tim) : Tim := { x with srcB := true, f := clampTo s.flim (x.f + x.nu), i := clampTo s.flim (x.i + x.nu) }

theorem timB_reply (s : State) (x : Tim) :
    timB (s.reply .done) x = { x with srcB := true, f := clampTo s.flim (x.f + x.nu), i := clampTo s.flim (x.i + x.nu) } := rfl

theorem switchToB_switches (h : InPhase s) : s.switchToB = (s.setTim (timB s)).switched := if_pos h

theorem switchToB_refused (h : ¬ InPhase s) : s.switchToB = s.fire P.TIM E.TIM_SWITCH_REFUSED := if_neg h

theorem not_inPhase (h : s.bit F.TIM_TIM_CTL_COMPAT = false ∨ s.tim.b ≠ .locked ∨ s.fld F.TIM_JUMP_CFG_JUMP_NS * 16 < s.tim.phi.natAbs) :
    ¬ InPhase s := by
  rintro ⟨hcompat, hlocked, hphi⟩
  rcases h with h | h | h
  · exact ne_true_of_eq_false h hcompat
  · exact h hlocked
  · exact absurd hphi (Nat.not_le.mpr h)

/-! ### Domain B (R524) -/

theorem opB_off (h : s.bit F.TIM_TIM_CTL_COMPAT = false) : s.opB r R.TIM_B_OFS v = s.refuse r R.TIM_B_OFS := if_pos (ne_true_of_eq_false h)

theorem opB_sample (h : s.bit F.TIM_TIM_CTL_COMPAT = true) : s.opB r R.TIM_B_OFS v = (s.store R.TIM_B_OFS v).bSample :=
  (if_neg (not_not_intro h)).trans (if_pos rfl)

/-- Domain B has gone stale. -/
def staleB (s : State) : State := ((s.stopTimer T.bHold).setTim (fun t => { t with b := .stale })).fire P.TIM E.TIM_B_STATE

theorem setB_stale (h : s.tim.b = .acquire ∨ s.tim.b = .locked) : (s.stopTimer T.bHold).setB .stale = staleB s := by
  have hne : (s.stopTimer T.bHold).tim.b ≠ .stale := by
    show s.tim.b ≠ .stale
    rcases h with h | h <;> rw [h] <;> decide
  exact (if_neg hne).trans (if_pos (.inr rfl))

theorem staleB_tim (s : State) : (staleB s).tim = { s.tim with b := .stale } := State.fire_tim _ _ _

theorem staleB_frame (s : State) : FrameEv [.tim, .timers] [] s (staleB s) :=
  ((((Frame.refl _ _ s).stopTimer _ (by decide)).trans ((setTim_frame _ _).mono (by decide) (List.Subset.refl _))).ev).andFire _ _

theorem exec_bStale_idle (h : s.running T.bHold = false ∨ (s.tim.b ≠ .acquire ∧ s.tim.b ≠ .locked)) : exec .bStale s = .next s := by
  refine congrArg Host.Outcome.next (if_neg ?_)
  rintro ⟨hrun, hst⟩
  rcases h with h | ⟨hacq, hlock⟩
  · exact ne_true_of_eq_false h hrun
  · exact hst.elim hacq hlock

theorem exec_bStale (hrun : s.running T.bHold = true) (h : s.tim.b = .acquire ∨ s.tim.b = .locked) :
    exec .bStale s = .next (if s.tim.srcB then ((s.stopTimer T.bHold).setB .stale).toHoldover else staleB s) := by
  have hsrc : ((s.stopTimer T.bHold).setB .stale).tim.srcB = s.tim.srcB := by rw [setB_stale h, staleB_tim]
  refine congrArg Host.Outcome.next ((if_pos ⟨hrun, h⟩).trans ?_)
  dsimp only
  rw [hsrc, setB_stale h]

/-! ### The RTC (R526, R527) -/

/-- RTC_TRIM holds a measurement. -/
def trimStored (s : State) (ppm : BitVec 24) : State := (s.setFld F.TIM_RTC_TRIM_PPM ppm.toNat).setFld F.TIM_RTC_TRIM_VALID 1

theorem trimStored_ppm (s : State) (ppm : BitVec 24) : (trimStored s ppm).fld F.TIM_RTC_TRIM_PPM = ppm.toNat :=
  (State.fld_setFld_apart _ _ _ _ (by decide) (by decide)).trans
    ((State.fld_setFld_self s _ _ (by decide)).trans (Nat.mod_eq_of_lt ppm.isLt))

theorem trimStored_valid (s : State) (ppm : BitVec 24) : (trimStored s ppm).bit F.TIM_RTC_TRIM_VALID = true :=
  decide_eq_true (State.fld_setFld_self _ F.TIM_RTC_TRIM_VALID 1 (by decide))

/-! ### The latching reads (R509, R526, R530) -/

/-- A read that passes its checks, of a register that has power, is answered and has its effect. -/
theorem readAccess_effect {k : Nat} {x : Word} {op : State → State} (hr : s.reaches r = true) (hc : s.readCause k true = 0)
    (hp : s.powered k = true) : s.readAccess r k true x op = op (s.reply (.data x)) := by
  unfold State.readAccess
  rw [if_neg (not_not_intro hr), hc]
  exact if_pos hp

theorem txts_oldest {x : Nat × Nat} {l : List (Nat × Nat)} (h : s.tim.txts = x :: l) :
    (readTCL s 0x054).getD 0 = BitVec.ofNat 32 (nsOf (x.2 * 4096)) := by
  unfold readTCL
  rw [h]
  rfl

theorem latchTime_frame (s : State) : Frame [] [R.TIM_TIME_SEC_HI, R.TIM_TIME_NS, R.TIM_TIME_FRAC] s s.latchTime :=
  (((Frame.refl _ _ s).wr _ _ (by decide)).wr _ _ (by decide)).wr _ _ (by decide)

theorem latchTime_secHi (s : State) : s.latchTime.rd R.TIM_TIME_SEC_HI = BitVec.ofNat 32 (secOf s.clock.line / 2 ^ 32 % 2 ^ 16) :=
  (State.rd_wr_ne _ _ (by decide)).trans ((State.rd_wr_ne _ _ (by decide)).trans (State.rd_wr_self s _ _))

theorem latchTime_ns (s : State) : s.latchTime.rd R.TIM_TIME_NS = BitVec.ofNat 32 (nsOf s.clock.line) :=
  (State.rd_wr_ne _ _ (by decide)).trans (State.rd_wr_self _ _ _)

theorem latchTime_frac (s : State) : s.latchTime.rd R.TIM_TIME_FRAC = BitVec.ofNat 32 (s.clock.line % 65536) := State.rd_wr_self _ _ _

/-- The answer of the read of TIME_SEC_LO. -/
theorem exec_timeReadLatch (hr : s.reaches r = true) (hc : s.readCause R.TIM_TIME_SEC_LO true = 0) (hp : s.powered R.TIM_TIME_SEC_LO = true) :
    exec (.timeReadLatch r) s = .next (s.reply (.data (BitVec.ofNat 32 (secOf s.clock.line)))).latchTime :=
  congrArg Host.Outcome.next (readAccess_effect hr hc hp)

theorem exec_rtcReadLatch (hr : s.reaches r = true) (hc : s.readCause R.TIM_RTC_LO true = 0) (hp : s.powered R.TIM_RTC_LO = true) :
    exec (.rtcReadLatch r) s = .next (s.reply (.data (BitVec.ofNat 32 s.clock.rtc))).latchRtc :=
  congrArg Host.Outcome.next (readAccess_effect hr hc hp)

theorem exec_txtsRead (hr : s.reaches r = true) (hc : s.readCause R.TCL_TXTS_NS true = 0) (hp : s.powered R.TCL_TXTS_NS = true) :
    exec (.txtsRead r) s = .next (s.reply (.data ((readTCL s 0x054).getD 0))).popTxts :=
  congrArg Host.Outcome.next (readAccess_effect hr hc hp)

/-! ### The outputs (R537-R539) -/

theorem exec_ppsEdge_idle (h : s.bit F.TCL_OUT_CTL_PPS_EN = false ∨ s.squelched = true ∨ s.domOn 32 = false) : exec .ppsEdge s = .next s := by
  refine congrArg Host.Outcome.next (if_pos ?_)
  rcases h with h | h | h
  · exact .inl (ne_true_of_eq_false h)
  · exact .inr (.inl h)
  · exact .inr (.inr (.inr (ne_true_of_eq_false h)))

/-- The time state after a pulse. -/
def pulsedTim (s : State) : Tim :=
  { s.tim with ppsAt := some s.clock.mono, todDue := some (secOf (s.clock.fab + s.fld F.TCL_PPS_CFG_ADJ_NS * 65536)) }

/-- A pulse goes out, and a time-of-day message is due. -/
def pulsed (s : State) : State := (({ s with tim := pulsedTim s } : State).emit .pps).fire P.TCL E.TCL_PPS

theorem exec_ppsEdge (hen : s.bit F.TCL_OUT_CTL_PPS_EN = true) (hsq : s.squelched = false) (hdom : s.domOn 32 = true)
    (hfirst : s.tim.ppsAt = none) : exec .ppsEdge s = .next (pulsed s) := by
  refine congrArg Host.Outcome.next (if_neg ?_)
  rw [hen, hsq, hdom, hfirst]
  simp

theorem pulsed_frame (s : State) : FrameEv [.tim] [] s (pulsed s) := (((setTim_frame s fun _ => pulsedTim s).ev).emit _).andFire _ _

theorem pulsed_tim (s : State) : (pulsed s).tim = pulsedTim s := State.fire_tim _ _ _

/-- No message is due any more. -/
def todTaken (s : State) : State := s.setTim (fun t => { t with todDue := none })

theorem exec_todUartMessage_none (h : s.tim.todDue = none) : exec .todUartMessage s = .next s := by
  show execTodUartMessage s = _
  unfold execTodUartMessage
  rw [h]

theorem exec_todUartMessage {sec : Nat} (h : s.tim.todDue = some sec) : exec .todUartMessage s =
    .next (if s.bit F.TCL_TODU_CFG_EN ∧ ¬ s.squelched ∧ s.domOn 32 then (todTaken s).emit (.tod (s.todText sec)) else todTaken s) := by
  show execTodUartMessage s = _
  unfold execTodUartMessage
  rw [h]
  rfl

theorem exec_todUartMessage_sent {sec : Nat} (h : s.tim.todDue = some sec) (hen : s.bit F.TCL_TODU_CFG_EN = true) (hsq : s.squelched = false)
    (hdom : s.domOn 32 = true) : exec .todUartMessage s = .next ((todTaken s).emit (.tod (s.todText sec))) :=
  (exec_todUartMessage h).trans (congrArg _ (if_pos ⟨hen, ne_true_of_eq_false hsq, hdom⟩))

/-! ### O40 -/

/-- Settles O40: each clause is what one of the operations above leaves. -/
theorem deviceTime : Obligations.DeviceTime := by
  unfold Obligations.DeviceTime
  refine ⟨fun s => ⟨exec_servoHoldTimeout_idle, fun hrun hst => ⟨_, exec_servoHoldTimeout hrun hst, (servoTo_frame s .holdover).ev.andFire _ _,
      (State.fire_tim _ _ _).trans (servoTo_tim s .holdover), fun hdom => ?hold⟩⟩,
    fun r v s ht => ?disable, fun r v s ht => ⟨fun hvalid => ?noSample, fun h => ?barred, fun hv hup hwait hbusy => ?waits,
      fun hv hup hwait hidle => ?steps⟩,
    fun s => ⟨exec_stepApply_none, fun x hx => ⟨_, exec_stepApply hx, rfl, stepTime_frame s x, stepTime_lanes s x, stepTime_clock s x,
      (stepTime_tim s x).1, (stepTime_tim s x).2, stepTime_counts s x, fun hdom => stepTime_raised hdom x⟩⟩,
    fun r v s ht hv => ⟨fun h5 => ⟨_, exec_switchA ht hv h5, switched_spec s _⟩, fun h4 hcompat hb hphi => ?toB, fun h4 h => ?notB⟩,
    fun r v s ht => ⟨fun h => congrArg Host.Outcome.next ((Taken_access ht).trans (opB_off (s := s.reply .done) h)),
      fun h => congrArg Host.Outcome.next ((Taken_access ht).trans (opB_sample (s := s.reply .done) h))⟩,
    fun s => ⟨exec_bStale_idle, fun hrun hst hsrc => ⟨staleB s, (exec_bStale hrun hst).trans (congrArg _ (if_neg (ne_true_of_eq_false hsrc))),
        staleB_frame s, staleB_tim s, fun hdom => ?stale⟩,
      fun hrun hst hsrc => (exec_bStale hrun hst).trans (congrArg _ (if_pos hsrc))⟩,
    fun ppm s => ⟨fun h => ⟨trimStored s ppm, if_pos h, ((Frame.refl _ _ s).setFld _ _ (by decide)).setFld _ _ (by decide), trimStored_ppm s ppm,
        trimStored_valid s ppm⟩, fun h => if_neg h,
      ⟨_, rfl, ((setTim_frame s _).ev).andFire _ _, State.fire_tim _ _ _, fun hdom => State.fire_raised (s := s.setTim _) hdom (by decide)⟩⟩,
    fun r s hr => ⟨fun hc hp => ⟨_, exec_txtsRead hr hc hp, ?popped, rfl, fun x l h => congrArg Resp.data (txts_oldest h)⟩,
      fun hc hp => ⟨_, exec_timeReadLatch hr hc hp, ?latched, rfl, latchTime_secHi _, latchTime_ns _, latchTime_frac _⟩,
      fun hc hp => ⟨_, exec_rtcReadLatch hr hc hp, ?rtc, rfl, State.rd_wr_self _ _ _⟩⟩,
    fun s => ⟨exec_ppsEdge_idle, fun hen hsq hdom hfirst => ⟨pulsed s, exec_ppsEdge hen hsq hdom hfirst, pulsed_frame s, rfl, pulsed_tim s⟩,
      exec_todUartMessage_none, fun sec h hen hsq hdom => ⟨_, exec_todUartMessage_sent h hen hsq hdom, ?sent, rfl, rfl⟩,
      fun sec h hen => ⟨todTaken s, (exec_todUartMessage h).trans (congrArg _ (if_neg fun hall => ne_true_of_eq_false hen hall.1)),
        setTim_frame s _, rfl⟩⟩,
    fun idx s => ⟨_, rfl, setTim_frame s (fun x => { x with fu := x.fu.eraseIdx idx.val }), rfl⟩⟩
  case hold => exact State.fire_raised (s := servoTo s .holdover) ((State.domOn_of_pwr ((servoTo_frame (ks := []) s .holdover).1 .pwr (by decide)) _).trans hdom) (by decide)
  case disable =>
    by_cases h1 : v.getLsbD 1 = true
    · exact ⟨_, (exec_servoDisable ht v).trans (congrArg _ (if_pos h1)), servoFreed_frame s _,
        congrArg Tim.servo (servoTo_tim _ _), fun _ => servoTo_tim _ _⟩
    · exact ⟨_, (exec_servoDisable ht v).trans (congrArg _ (if_neg h1)), (servoFreed_frame s _).trans (domainBEnded_frame _),
        (domainBEnded_servo _).trans (congrArg Tim.servo (servoTo_tim _ _)), fun h => absurd h h1⟩
  case noSample => exact step_refused (isStep_byRefused r v) stepCode_byRefused ht (.inl ⟨rfl, ne_true_of_eq_false hvalid⟩)
  case barred =>
    exact ⟨step_refused (isStep_byRefused r v) stepCode_byRefused ht (.inr h), step_refused (isStep_toTime r v) stepCode_toTime ht (.inr h),
      step_refused (isStep_byAmount r v) stepCode_byAmount ht (.inr h)⟩
  case waits =>
    exact ⟨fun hvalid => step_waits (isStep_byRefused r v) stepCode_byRefused ht hv (not_stepBarred hup hwait fun _ => hvalid) hbusy,
      step_waits (isStep_toTime r v) stepCode_toTime ht hv (not_stepBarred hup hwait fun h => absurd h (by decide)) hbusy,
      step_waits (isStep_byAmount r v) stepCode_byAmount ht hv (not_stepBarred hup hwait fun h => absurd h (by decide)) hbusy⟩
  case steps =>
    exact ⟨fun hvalid => step_taken (isStep_byRefused r v) stepCode_byRefused ht hv (not_stepBarred hup hwait fun _ => hvalid) hidle (stepOf_byRefused s),
      step_taken (isStep_toTime r v) stepCode_toTime ht hv (not_stepBarred hup hwait fun h => absurd h (by decide)) hidle (stepOf_toTime s),
      step_taken (isStep_byAmount r v) stepCode_byAmount ht hv (not_stepBarred hup hwait fun h => absurd h (by decide)) hidle (stepOf_byAmount s)⟩
  case toB =>
    have hphase : InPhase (s.reply .done) := ⟨hcompat, hb, hphi⟩
    obtain ⟨hframe, htim, hcount, hraised⟩ := switched_spec s (timB (s.reply .done))
    exact ⟨((s.reply .done).setTim (timB (s.reply .done))).switched, (exec_switchB ht hv h4).trans (congrArg _ (switchToB_switches hphase)),
      hframe, htim.trans (timB_reply s _), hcount, hraised⟩
  case notB =>
    have hphase : ¬ InPhase (s.reply .done) := not_inPhase (s := s.reply .done) h
    exact ⟨_, (exec_switchB ht hv h4).trans (congrArg _ (switchToB_refused hphase)), (replied_frame s (by decide)).ev.andFire _ _,
      fun hdom => State.fire_raised (s := s.reply .done) hdom (by decide)⟩
  case stale => exact State.fire_raised (s := (s.stopTimer T.bHold).setTim (fun t => { t with b := .stale })) hdom (by decide)
  case popped => exact ((Frame.refl _ _ s).reply _ (by decide)).trans ((setTim_frame _ _).mono (by decide) (List.Subset.refl _))
  case latched => exact ((Frame.refl _ _ s).reply _ (by decide)).trans ((latchTime_frame _).mono (List.nil_subset _) (List.Subset.refl _))
  case rtc => exact ((Frame.refl _ _ s).reply _ (by decide)).wr _ _ (List.mem_singleton_self _)
  case sent =>
    exact (setTim_frame s _).mono (by decide) (List.Subset.refl _) |>.upd (State.emit_keeps _ (List.Subset.refl _) (SameBut.refl _ _)) (by decide) rfl

end Sys2Proof.Proofs.DeviceTimes
end

section
/-! PROOF. The time, work item, injection, event, log and host commands of O60, from what these families' statements say of them. -/

namespace Sys2Proof.Proofs.TimeItemAndHost

open Sys2Proof Sys2Proof.Machine
set_option Elab.async false

variable {s : State} {r : Req} {v : Word} {n : Fin 8} {item : BitVec 12}

/-! ### Time (R519-R530, R537-R539) -/

theorem servoHoldTimeout_completes (hrun : s.running T.servoHold = true) (hst : s.tim.servo = .locked) :
    ∃ t, exec .servoHoldTimeout s = .next t ∧ t.tim.servo = .holdover :=
  ⟨_, DeviceTimes.exec_servoHoldTimeout hrun (.inr hst),
    congrArg Tim.servo ((State.fire_tim (DeviceTimes.servoTo s .holdover) P.TIM E.TIM_HOLDOVER).trans (DeviceTimes.servoTo_tim s .holdover))⟩

theorem servoDisable_completes (ht : Taken s r R.TIM_TIM_CTL) (v : Word) : ∃ t, exec (.servoDisable r v) s = .next t ∧ t.tim.servo = .free := by
  obtain ⟨-, hdisable, -⟩ : Obligations.DeviceTime := DeviceTimes.deviceTime
  obtain ⟨t, hexec, -, hservo, -⟩ := hdisable r v s ht
  exact ⟨t, hexec, hservo⟩

theorem stepByRefused_steps (ht : Taken s r R.TIM_TIM_CMD) (hv : getField v 4 2 = 0) (hup : s.seam.phase = .up) (hwait : s.tim.wait = none)
    (hidle : s.transmitting = false) (hvalid : s.bit F.TIM_REF_SEC_HI_VALID = true) :
    exec (.stepByRefused r v) s = .next ((s.reply .done).stepTime (.by_ (-(s.refNs * 65536)))) :=
  DeviceTimes.step_taken (DeviceTimes.isStep_byRefused r v) DeviceTimes.stepCode_byRefused ht hv
    (DeviceTimes.not_stepBarred hup hwait fun _ => hvalid) hidle (DeviceTimes.stepOf_byRefused s)

theorem stepToTime_steps (ht : Taken s r R.TIM_TIM_CMD) (hv : getField v 4 2 = 0) (hup : s.seam.phase = .up) (hwait : s.tim.wait = none)
    (hidle : s.transmitting = false) : exec (.stepToTime r v) s = .next ((s.reply .done).stepTime (.to_ (s.stepNs * 65536))) :=
  DeviceTimes.step_taken (DeviceTimes.isStep_toTime r v) DeviceTimes.stepCode_toTime ht hv
    (DeviceTimes.not_stepBarred hup hwait fun h => absurd h (by decide)) hidle (DeviceTimes.stepOf_toTime s)

theorem stepByAmount_steps (ht : Taken s r R.TIM_TIM_CMD) (hv : getField v 4 2 = 0) (hup : s.seam.phase = .up) (hwait : s.tim.wait = none)
    (hidle : s.transmitting = false) : exec (.stepByAmount r v) s = .next ((s.reply .done).stepTime
      (.by_ ((if s.bit F.TIM_STEP_SEC_HI_NEG then -(s.stepNs : Int) else s.stepNs) * 65536))) :=
  DeviceTimes.step_taken (DeviceTimes.isStep_byAmount r v) DeviceTimes.stepCode_byAmount ht hv
    (DeviceTimes.not_stepBarred hup hwait fun h => absurd h (by decide)) hidle (DeviceTimes.stepOf_byAmount s)

theorem switchA_completes (ht : Taken s r R.TIM_TIM_CMD) (hv : getField v 0 3 = 0) (h5 : v.getLsbD 5 = false) :
    ∃ t, exec (.switchA r v) s = .next t ∧ t.tim = { s.tim with srcB := false } ∧ t.rd R.TIM_CNT_SWITCH = s.rd R.TIM_CNT_SWITCH + 1 := by
  obtain ⟨-, htim, hcount, -⟩ := DeviceTimes.switched_spec s (fun t => { t with srcB := false })
  exact ⟨_, DeviceTimes.exec_switchA ht hv h5, htim, hcount⟩

theorem switchB_completes (ht : Taken s r R.TIM_TIM_CMD) (hv : getField v 0 3 = 0) (h4 : v.getLsbD 4 = false)
    (hphase : DeviceTimes.InPhase (s.reply .done)) :
    ∃ t, exec (.switchB r v) s = .next t ∧ t.tim.srcB = true ∧ t.rd R.TIM_CNT_SWITCH = s.rd R.TIM_CNT_SWITCH + 1 := by
  obtain ⟨-, htim, hcount, -⟩ := DeviceTimes.switched_spec s (DeviceTimes.timB (s.reply .done))
  refine ⟨_, (DeviceTimes.exec_switchB ht hv h4).trans (congrArg _ (DeviceTimes.switchToB_switches hphase)), ?_, hcount⟩
  rw [htim]
  rfl

theorem txtsRead_completes {x : Nat × Nat} {l : List (Nat × Nat)} (hr : s.reaches r = true) (hc : s.readCause R.TCL_TXTS_NS true = 0)
    (hp : s.powered R.TCL_TXTS_NS = true) (hx : s.tim.txts = x :: l) :
    ∃ t, exec (.txtsRead r) s = .next t ∧ t.resp = .data (BitVec.ofNat 32 (nsOf (x.2 * 4096))) ∧ t.tim.txts = l :=
  ⟨_, DeviceTimes.exec_txtsRead hr hc hp, congrArg Resp.data (DeviceTimes.txts_oldest hx), congrArg List.tail hx⟩

/-! ### Work items (R550-R558) -/

theorem take_completes {p i : Nat} {before after : List Nat} (h : s.reaches (.core n) = true) (hen : s.bit F.TSK_TSK_CTL_EN = true) (hp : p < 32)
    (hbelow : ∀ q j : Nat, q < p → j ∈ s.level q → s.inCores j n = false) (hl : s.level p = before ++ i :: after)
    (hbefore : ∀ j ∈ before, s.inCores j n = false) (hi : s.inCores i n = true) :
    ∃ t, exec (.take n) s = .next t ∧ t.resp = .data (BitVec.ofNat 32 i) ∧ (t.item i).st = .running n := by
  obtain ⟨-, htake, -⟩ : Obligations.PortsAndPosts := WorkItems.portsAndPosts
  obtain ⟨t, hexec, -, hresp, hitem, -⟩ := htake n p i before after s h hen hp hbelow hl hbefore hi
  exact ⟨t, hexec, hresp, by rw [hitem]⟩

theorem itemDone_completes (h : s.reaches (.core n) = true) (hrun : (s.item item.toNat).st = .running n)
    (hend : (s.item item.toNat).offAtEnd = false) (hcan : (s.item item.toNat).cancelled = false) :
    ∃ t, exec (.itemDone n item) s = .next t ∧ t.resp = .done ∧
      (t.item item.toNat).st = if s.condition item.toNat (s.item item.toNat).flags then .ready else .waiting := by
  obtain ⟨-, hdone, -⟩ : Obligations.ItemNotHeld := WorkItems.itemNotHeld
  obtain ⟨t, hexec, -, hresp, -, hitem⟩ := hdone n item s h hrun
  refine ⟨t, hexec, hresp, ?_⟩
  rw [hitem, if_neg (ne_true_of_eq_false hend), if_neg (ne_true_of_eq_false hcan)]

theorem yield_completes (h : s.reaches (.core n) = true) (hrun : (s.item item.toNat).st = .running n)
    (hend : (s.item item.toNat).offAtEnd = false) (hcan : (s.item item.toNat).cancelled = false) :
    ∃ t, exec (.yield n item) s = .next t ∧ t.resp = .done ∧ t.item item.toNat = { s.item item.toNat with
      st := .ready, flags := (s.item item.toNat).flags ||| (s.item item.toNat).consumed, consumed := 0 } := by
  obtain ⟨-, -, hyield⟩ : Obligations.ItemNotHeld := WorkItems.itemNotHeld
  obtain ⟨t, hexec, -, hresp, -, hitem⟩ := hyield n item s h hrun
  refine ⟨t, hexec, hresp, ?_⟩
  rw [hitem, if_neg (ne_true_of_eq_false hend), if_neg (ne_true_of_eq_false hcan)]

theorem portPost_completes (flag : BitVec 5) (h : s.reaches (.core n) = true) (hroom : (s.tsk.queue.filter (fun x => !x.cancel)).length < 256)
    (hst : s.tsk.stalled = []) : ∃ t, exec (.portPost n item flag) s = .next t ∧ t.resp = .done ∧
      t.tsk.queue = s.tsk.queue ++ [⟨item, flag, none, some (.core n), false⟩] := by
  obtain ⟨-, -, -, hpost, -⟩ : Obligations.PortsAndPosts := WorkItems.portsAndPosts
  obtain ⟨t, hexec, -, hresp, hqueue, -⟩ := hpost n item flag s h
  exact ⟨t, hexec, hresp, by rw [hqueue hroom hst]⟩

theorem causeRead_completes (h : s.reaches (.core n) = true) : ∃ t, exec (.causeRead n) s = .next t ∧
    t.resp = .data (BitVec.ofNat 32 (b2n s.tsk.ports[n].dispatch + b2n s.tsk.ports[n].preempt * 2)) ∧ t.tsk.ports[n].dispatch = false := by
  obtain ⟨-, -, hcause, -⟩ : Obligations.PortsAndPosts := WorkItems.portsAndPosts
  obtain ⟨t, hexec, -, hresp, htsk⟩ := hcause n s h
  refine ⟨t, hexec, hresp, ?_⟩
  have hport : t.tsk.ports[n] = { s.tsk.ports[n] with dispatch := false, preempt := false } := by
    rw [htsk]
    exact Vector.getElem_set_self _
  rw [hport]

theorem tskPost_completes (ht : Taken s r R.TSK_POST) (v : Word) (hroom : (s.tsk.queue.filter (fun x => !x.cancel)).length < 256)
    (hst : s.tsk.stalled = []) : ∃ t, exec (.tskPost r v) s = .next t ∧ t.resp = .done ∧
      t.tsk.queue = s.tsk.queue ++ [⟨v.extractLsb' 0 12, v.extractLsb' 16 5, none, some r, false⟩] := by
  obtain ⟨-, -, -, -, hpost, -⟩ : Obligations.PortsAndPosts := WorkItems.portsAndPosts
  obtain ⟨t, hexec, -, hresp, hqueue, -⟩ := hpost r v s ht
  exact ⟨t, hexec, hresp, by rw [hqueue hroom hst]⟩

/-- A post that makes its item ready. -/
theorem postApply_completes {p : Post} (hq : s.tsk.queue = [p]) (hst : s.tsk.stalled = []) (hw : (s.item p.item.toNat).st = .waiting)
    (hc : s.condition p.item.toNat ((s.item p.item.toNat).flags ||| BitVec.ofNat 32 (2 ^ p.flag.toNat)) = true) :
    ∃ t, exec .postApply s = .next t ∧ t.tsk.queue = [] ∧ t.level (s.prio p.item.toNat) = s.level (s.prio p.item.toNat) ++ [p.item.toNat] ∧
      (t.item p.item.toNat).st = .ready := by
  obtain ⟨-, happly, -⟩ : Obligations.ItemsAndDispatch := WorkItems.itemsAndDispatch
  have hnone : ∀ c ∈ (s.tsk.stalled.drop 1).head?, c.cancel = false := by
    rw [hst]
    exact fun c hc => absurd hc (Option.not_mem_none c)
  obtain ⟨t, hexec, -, hqueue, -, -, -, hflag⟩ := happly p [] s hq (fun c hc => absurd hc (Option.not_mem_none c)) hnone
  obtain ⟨fl, rfl, -, hready⟩ := hflag (by rw [hw]; decide)
  obtain ⟨hitem, hlevel, -⟩ := hready hw hc
  refine ⟨t, hexec, ?_, hlevel, by rw [hitem]⟩
  rw [hqueue, hst]
  rfl

theorem itemMask_completes {i : Nat} (hi : i = s.fld (F.TSK_ITEM_SEL_ITEM (reqNum r))) (ht : Taken s r (R.TSK_ITEM_MASK i))
    (hen : s.bit (F.TSK_ITEM_CFG_EN i) = false) :
    ∃ t, exec (.itemCfgWrite r true v) s = .next t ∧ t.resp = .done ∧ t.rd (R.TSK_ITEM_MASK i) = v := by
  obtain ⟨-, -, hmask, -⟩ : Obligations.ItemsAndDispatch := WorkItems.itemsAndDispatch
  obtain ⟨t, hexec, -, hresp, hrd⟩ := (hmask r v i s hi ht).1 (.inl hen)
  exact ⟨t, hexec, hresp, hrd⟩

theorem tskEnable_completes (ht : Taken s r R.TSK_TSK_CTL) (v : Word) :
    ∃ t, exec (.tskEnable r v) s = .next t ∧ t.resp = .done ∧ t.bit F.TSK_TSK_CTL_EN = true := by
  obtain ⟨-, -, -, -, henable⟩ : Obligations.ItemsAndDispatch := WorkItems.itemsAndDispatch
  obtain ⟨t, hexec, -, hresp, hen, -⟩ := henable r v s ht
  exact ⟨t, hexec, hresp, hen⟩

/-! ### Exceptions and injection (R561-R565) -/

theorem excDescriptorWrite_completes {p : Pkt} {ps : List Pkt} (hw : s.excWait = p :: ps)
    (hroom : (s.fld F.CPU_EXC_HEAD_HEAD + 1) % s.excSize ≠ s.fld F.CPU_EXC_TAIL_TAIL) :
    ∃ t, exec .excDescriptorWrite s = .next t ∧ t.excWait = ps ∧ t.rd R.CPU_CNT_EXC_DESC = s.rd R.CPU_CNT_EXC_DESC + 1 ∧
      t.cpu = { s.cpu with ring := mapIns s.cpu.ring (s.fld F.CPU_EXC_HEAD_HEAD) (p.hdl.getD 0) } :=
  ⟨_, ExceptionQueue.excDescriptorWrite_writes hw hroom,
    (State.enqueuePost_excWait _ _).trans (ExceptionQueue.advancedHead_excWait s p ps),
    (State.enqueuePost_rd _ _ _).trans (ExceptionQueue.advancedHead_counts s p ps),
    (State.enqueuePost_cpu _ _).trans (ExceptionQueue.advancedHead_cpu s p ps)⟩

theorem excTailWrite_completes (ht : Taken s r R.CPU_EXC_TAIL) (v : Word) :
    ∃ t, exec (.excTailWrite r v) s = .next t ∧ t.resp = .done ∧ t.fld F.CPU_EXC_TAIL_TAIL = getField v 0 12 % s.excSize := by
  obtain ⟨-, -, -, htail, -⟩ : Obligations.ExceptionsAndInjection := ExceptionQueue.exceptionsAndInjection
  obtain ⟨t, hexec, -, hresp, hfld, -⟩ := htail r v _ _ _ s ht rfl rfl rfl
  exact ⟨t, hexec, hresp, hfld⟩

theorem injectPath_completes {hdl n : Nat} {p : Pkt} (ht : Taken s r R.CPU_INJ_CMD) (hhdl : hdl = s.injHdl) (hn : n = s.fld F.CPU_INJ_LEN_S)
    (hp : p = { src := 60, len := n, data := s.readBytes (s.bufAddr (hdl / 128)) n, hdl := some hdl,
                tsTag := if v.getLsbD 2 then some (s.fld F.CPU_INJ_TAG_TAG) else none, steps := s.tim.steps })
    (hstale : s.stale hdl = false) (howner : (s.buf (hdl / 128)).owner = swHolder) (hcount : (s.buf (hdl / 128)).count = 1) :
    ∃ u : State, exec (.injectPath r v) s = .next (u.enterPath p) ∧ u.resp = .done ∧ u.rd R.CPU_CNT_INJ = s.rd R.CPU_CNT_INJ + 1 := by
  obtain ⟨-, -, -, -, hinject, -⟩ : Obligations.ExceptionsAndInjection := ExceptionQueue.exceptionsAndInjection
  obtain ⟨-, hpath, -⟩ := hinject r v false _ hdl n _ p (.injectPath r v) s ht (.inl ⟨rfl, rfl⟩) rfl hhdl rfl hn hp
  obtain ⟨u, hexec, -, hresp, -, hcnt⟩ := hpath hstale howner hcount rfl
  exact ⟨u, hexec, hresp, hcnt⟩

theorem injectDirect_completes {q hdl n : Nat} (ht : Taken s r R.CPU_INJ_CMD) (hq : q = getField v 3 14) (hhdl : hdl = s.injHdl)
    (hn : n = s.fld F.CPU_INJ_LEN_S) (hstale : s.stale hdl = false) (howner : (s.buf (hdl / 128)).owner = swHolder)
    (hcount : (s.buf (hdl / 128)).count = 1) (hmax : q ≤ 8991) (hlen : n ≤ s.ent (F.SCH_Q_LEN_MAX_LEN q))
    (hlim : s.ent (F.SCH_Q_LIM_LIM_KIB q) = 0 ∨ s.depth q + n ≤ s.ent (F.SCH_Q_LIM_LIM_KIB q) * 1024) :
    ∃ t, exec (.injectDirect r v) s = .next t ∧ t.resp = .done ∧ t.rd R.CPU_CNT_INJ = s.rd R.CPU_CNT_INJ + 1 ∧
      (t.queue q).length = (s.queue q).length + 1 ∧ t.buf (hdl / 128) = { s.buf (hdl / 128) with owner := q } := by
  obtain ⟨-, -, -, -, hinject, -⟩ : Obligations.ExceptionsAndInjection := ExceptionQueue.exceptionsAndInjection
  obtain ⟨-, -, hdirect⟩ := hinject r v true q hdl n _ _ (.injectDirect r v) s ht (.inr ⟨rfl, rfl⟩) hq hhdl rfl hn rfl
  obtain ⟨t, hexec, -, hresp, -, hcnt, hqueue, -, hbuf, -⟩ := hdirect hstale howner hcount rfl hmax hlen hlim
  exact ⟨t, hexec, hresp, hcnt, by rw [hqueue, List.length_append, List.length_singleton], hbuf⟩

/-! ### Events, records and the log (R568-R587) -/

theorem evtRawClear_completes {page : BitVec 8} {bits : BitVec 16} {b : Fin 16} (ht : Taken s r (R.HDR_EVT_RAW page.toNat))
    (hbit : bits.getLsbD b.val = true) : ∃ t, exec (.evtRawClear r page bits 0) s = .next t ∧ ¬ Raised t page.toNat b.val :=
  ⟨_, EventFirings.exec_evtRawClear_none bits ht, EventFirings.not_raised_cleared (PageControl.usedPage_of_taken (by decide) ht) hbit⟩

theorem recRead_completes {x : EvRec} {l : List EvRec} (hr : s.reaches r = true) (hdom : s.domOn 29 = true) (hx : s.evt.ring = x :: l) :
    ∃ t, exec (.recRead r) s = .next t ∧ t.resp = .data (BitVec.ofNat 32 (nsOf x.stamp)) ∧ t.evt.ring = l := by
  obtain ⟨hread, -⟩ : Obligations.RecordsAndLog := RecordsAndPower.recordsAndLog
  obtain ⟨t, hexec, -, hevt, hresp⟩ := hread r s hr hdom
  rw [hx] at hresp
  exact ⟨t, hexec, hresp, by rw [hevt, hx]; rfl⟩

theorem msixArm_completes {hi : Bool} {b : Nat} (ht : Taken s r (if hi then R.EVT_MSIX_ARM_HI else R.EVT_MSIX_ARM_LO))
    (hoff : s.bit F.EVT_EVT_CTL_EN = false) (hb : b < 32) (hbit : v.getLsbD b = true) :
    ∃ t, exec (.msixArm r hi v) s = .next t ∧ t.resp = .done ∧ t.armed (b + 32 * b2n hi) = true := by
  obtain ⟨-, harm, -⟩ : Obligations.RecordsAndLog := RecordsAndPower.recordsAndLog
  obtain ⟨t, hexec, -, hresp, -, -, harmed, -⟩ := harm r hi v s ht
  exact ⟨t, hexec, hresp, harmed b hb hbit (.inl hoff)⟩

theorem evtEnable_completes (ht : Taken s r R.EVT_EVT_CTL) (v : Word) :
    ∃ t, exec (.evtEnable r v) s = .next t ∧ t.resp = .done ∧ t.bit F.EVT_EVT_CTL_EN = true := by
  obtain ⟨-, -, henable, -⟩ : Obligations.RecordsAndLog := RecordsAndPower.recordsAndLog
  obtain ⟨t, hexec, -, hresp, hen, -⟩ := henable r v s ht
  exact ⟨t, hexec, hresp, hen⟩

theorem logPageProgram_completes (h : s.log.writing ≠ 0) : ∃ u : State, exec (.logPageProgram true) s = .next u.resetIfFlushed ∧
    u.log.flash = s.log.flash ++ (s.log.buf.take s.log.writing).map some ∧ u.log.buf = s.log.buf.drop s.log.writing := by
  obtain ⟨-, -, -, hprogram, -⟩ : Obligations.RecordsAndLog := RecordsAndPower.recordsAndLog
  obtain ⟨u, hexec, -, -, -, hdone, -⟩ := hprogram true s h
  obtain ⟨hflash, hbuf, -⟩ := hdone rfl
  exact ⟨u, hexec, hflash, hbuf⟩

/-- With no page being programmed the host programs none either. -/
theorem logSectorErase_completes (hpf : s.log.pf = false) (hon : s.logOn = true) (hbuf : s.log.buf = []) (hprog : s.hostProgram = false)
    (hdue : (s.fld F.EVT_LOG_CFG_SECT * 64 - s.log.flash.length) / 64 < 2) :
    ∃ t, exec .logSectorErase s = .next t ∧ t.log.flash = s.log.flash.drop 64 ∧ t.out = .logErase (s.logAddr s.log.head) :: s.out :=
  ⟨_, RecordsAndPower.exec_logSectorErase hon hpf hbuf hprog hdue, rfl, rfl⟩

theorem powerFailAssert_completes (hpf : s.log.pf = false) (hin : s.rst.inReset = false) (hun : s.rst.unpowered = false)
    (hdom : s.domOn 29 = true) : ∃ t, exec .powerFailAssert s = .next t ∧ t.log.pf = true ∧ Raised t P.EVT E.EVT_PF_ASSERT := by
  obtain ⟨-, -, -, -, hassert, -⟩ : Obligations.RecordsAndLog := RecordsAndPower.recordsAndLog
  obtain ⟨t, hexec, -, hset, -, -, -, hraised, -⟩ := hassert s hpf hin hun hdom
  exact ⟨t, hexec, hset, hraised⟩

theorem powerFailFlushDone_completes (late : Bool) (hpf : s.log.pf = true) (hfl : s.log.flushed = false) (hbuf : s.log.buf = [])
    (hw : s.log.writing = 0) : exec (.powerFailFlushDone late) s =
      .next ({ s with log := { s.log with flushed := true, late := late } } : State).resetIfFlushed := by
  obtain ⟨-, -, -, -, -, -, hflush, -⟩ : Obligations.RecordsAndLog := RecordsAndPower.recordsAndLog
  obtain ⟨u, hexec, -, rfl⟩ := hflush late s hpf hfl hbuf hw
  exact hexec

/-! ### PCIe, the flash, I2C and JTAG (R639-R654) -/

theorem pcieLinkUp_completes {width speed : BitVec 3} (d3 me fm : Bool) (hw : linkWf width speed = true) (hon : s.endpointOn = true) :
    ∃ t, exec (.pcieLinkUp width speed d3 me fm) s = .next t ∧ t.hif.l0 = true ∧ t.hif.width = width ∧ t.hif.speed = speed := by
  obtain ⟨hup, -⟩ : Obligations.HostLink := HostLinks.hostLink
  obtain ⟨t, hexec, hl0, hwidth, hspeed, -⟩ := hup width speed d3 me fm s hw hon
  exact ⟨t, hexec, hl0, hwidth, hspeed⟩

theorem pcieFlr_completes (hon : s.endpointOn = true) (hl : s.hif.l0 = true) : ∃ t, exec .pcieFlr s = .next t ∧ t.hif.msixEn = false ∧
    ∀ k : Nat, R.HIF_MSIX_ADDR_LO 0 ≤ k → k < R.HIF_PBA_LO → t.rd k = resetWord k := by
  obtain ⟨-, hreset, -⟩ : Obligations.HostLink := HostLinks.hostLink
  obtain ⟨t, hexec, hwords, -, hmsix, -⟩ := hreset .pcieFlr s hon (.inr ⟨rfl, hl⟩)
  exact ⟨t, hexec, hmsix, hwords⟩

theorem pcieL0Exit_completes (hl : s.hif.l0 = true) : ∃ t, exec .pcieL0Exit s = .next t ∧ t.hif.l0 = false := by
  obtain ⟨-, -, -, hexit, -⟩ : Obligations.HostLink := HostLinks.hostLink
  obtain ⟨t, hexec, -, hl0, -⟩ := hexit s hl
  exact ⟨t, hexec, hl0⟩

theorem msixUnmask_completes {vec : Fin 64} (ht : Taken s r (R.HIF_MSIX_CTL vec.val)) :
    ∃ t, exec (.msixUnmask r vec) s = .next t ∧ t.resp = .done ∧ t.fld (F.HIF_MSIX_CTL_MASK vec.val) = 0 := by
  obtain ⟨-, -, -, -, -, hunmask⟩ : Obligations.HostLink := HostLinks.hostLink
  obtain ⟨t, hexec, -, hresp, hmask, -⟩ := hunmask r vec s ht
  exact ⟨t, hexec, hresp, hmask⟩

theorem flashErase_completes (ht : Taken s r R.HIF_FLASH_CMD) (hfree : s.hif.flashOp = none) (hsfdp : s.rst.noSfdp = false)
    (hpf : s.log.pf = false) (harea : s.inLogArea (s.fld F.HIF_FLASH_ADDR_ADDR) (flashSpan 3 (getField v 8 9)) = false)
    (hfits : flashFits 3 (s.fld F.HIF_FLASH_ADDR_ADDR) (getField v 8 9) = true) :
    ∃ t, exec (.flashErase r v) s = .next t ∧ t.resp = .done ∧ t.hif.flashOp = some (3, s.fld F.HIF_FLASH_ADDR_ADDR, getField v 8 9) := by
  obtain ⟨t, hexec, -, hresp, hhif, -⟩ := HostPorts.flash_taken (op := 3) (v := v) (.inr (.inr ⟨rfl, rfl⟩)) ht
    (HostPorts.flashCause_zero hfree (fun _ => ⟨harea, hsfdp⟩) hpf hfits)
  exact ⟨t, hexec, hresp, by rw [hhif]⟩

theorem flashCmdDone_completes {op a len : Nat} (hop : s.hif.flashOp = some (op, a, len)) (hrun : s.hif.flashRun = true) (h : op = 2 ∨ op = 3) :
    ∃ t, exec (.flashCmdDone false []) s = .next t ∧ t.hif.flashOp = none ∧ t.hif.flashRes = 0 := by
  obtain ⟨-, -, hdone, -⟩ : Obligations.FlashI2cAndJtag := HostPorts.flashI2cAndJtag
  obtain ⟨t, hexec, -, hnone, hres, -⟩ := hdone false [] op a len s hop hrun (h.imp_right fun h3 => ⟨h3, rfl⟩)
  exact ⟨t, hexec, hnone, hres⟩

theorem oi2cDone_completes {w : Word} (hop : s.hif.i2cOp = some w) (h20 : w.getLsbD 20 = false) :
    ∃ t, exec (.oi2cDone 0 []) s = .next t ∧ t.hif.i2cOp = none ∧ t.hif.i2cRes = 0 := by
  obtain ⟨-, -, -, -, hdone, -⟩ : Obligations.FlashI2cAndJtag := HostPorts.flashI2cAndJtag
  obtain ⟨t, hexec, -, hnone, hres, -⟩ := hdone 0 [] w (.oi2cDone 0 []) s hop (.inl ⟨rfl, .inr h20⟩)
  exact ⟨t, hexec, hnone, hres⟩

theorem jtagOpen_completes (ht : Taken s r R.HIF_JTAG_CTL) (hp : Present s r) (h1 : v.getLsbD 1 = false) :
    ∃ t, exec (.jtagOpen r v) s = .next t ∧ t.resp = .done ∧ t.hif.jtag = true ∧ t.pairs = s.eraseAll.pairs :=
  ⟨_, (HostPorts.exec_jtagOpen ht hp).trans (congrArg _ (if_neg (ne_true_of_eq_false h1))),
    (HostPorts.jtagOpened_frame (s.reply .done)).1 .resp (by decide), State.fire_hif_jtag _ _ _, HostPorts.jtagOpened_pairs s⟩

/-! ### O60 -/

/-- Settles O60: each command by its lemma above, or by the equation of its outcome. -/
theorem timeItemAndHostCommandsComplete : Obligations.TimeItemAndHostCommandsComplete := by
  unfold Obligations.TimeItemAndHostCommandsComplete
  exact ⟨fun s => servoHoldTimeout_completes, fun r v s ht => servoDisable_completes ht v, fun r v s => stepByRefused_steps,
    fun r v s => stepToTime_steps, fun r v s => stepByAmount_steps,
    fun x s h => ⟨_, DeviceTimes.exec_stepApply h, DeviceTimes.stepTime_clock s x, (DeviceTimes.stepTime_tim s x).1, DeviceTimes.stepTime_counts s x⟩,
    fun r v s => switchA_completes, fun r v s ht hv h4 hcompat hb hphi => switchB_completes ht hv h4 ⟨hcompat, hb, hphi⟩,
    fun r v s ht h => congrArg Host.Outcome.next ((Taken_access ht).trans (DeviceTimes.opB_sample (s := s.reply .done) h)),
    fun s hrun hst hsrc => ⟨_, (DeviceTimes.exec_bStale hrun (.inr hst)).trans (congrArg _ (if_neg (ne_true_of_eq_false hsrc))),
      DeviceTimes.staleB_tim s⟩,
    fun ppm s h => ⟨DeviceTimes.trimStored s ppm, if_pos h, DeviceTimes.trimStored_ppm s ppm, DeviceTimes.trimStored_valid s ppm⟩,
    fun s => ⟨_, rfl, State.fire_tim _ _ _⟩, fun idx s => ⟨_, rfl, rfl⟩, fun r x l s => txtsRead_completes,
    fun r s hr hc hp => ⟨_, DeviceTimes.exec_timeReadLatch hr hc hp, rfl, DeviceTimes.latchTime_ns _⟩,
    fun r s hr hc hp => ⟨_, DeviceTimes.exec_rtcReadLatch hr hc hp, rfl, State.rd_wr_self _ _ _⟩,
    fun s hen hsq hdom hfirst => ⟨_, DeviceTimes.exec_ppsEdge hen hsq hdom hfirst, congrArg Tim.ppsAt (DeviceTimes.pulsed_tim s)⟩,
    fun sec s h hen hsq hdom => ⟨_, DeviceTimes.exec_todUartMessage_sent h hen hsq hdom, rfl, rfl⟩,
    fun n p i before after s => take_completes, fun n item s => itemDone_completes, fun n item s => yield_completes,
    fun n item flag s => portPost_completes flag, fun n s => causeRead_completes, fun r v s ht => tskPost_completes ht v,
    fun p s hq hst _ => postApply_completes hq hst, fun r v i s => itemMask_completes, fun r v s ht => tskEnable_completes ht v,
    fun p ps s => excDescriptorWrite_completes, fun r v s ht => excTailWrite_completes ht v, fun r v hdl n p s => injectPath_completes,
    fun r v q hdl n s => injectDirect_completes,
    fun r n v s ht => ⟨_, ExceptionQueue.xwinWrite_stores ht, State.store_resp _ _ _, ExceptionQueue.xwin_stored _ n v⟩,
    fun page b s hb hpow => ⟨_, EventFirings.exec_eventFire hb s, State.fire_raised hpow (by omega)⟩,
    fun r page bits b s ht _ => evtRawClear_completes ht, fun r page bits s ht => EventFirings.exec_evtForce bits ht,
    fun r x l s => recRead_completes, fun r hi v b s => msixArm_completes, fun r v s ht => evtEnable_completes ht v,
    fun s => logPageProgram_completes, fun s hpf hon hbuf hprog hdue _ _ => logSectorErase_completes hpf hon hbuf hprog hdue,
    fun s => powerFailAssert_completes, fun late s => powerFailFlushDone_completes late,
    fun s h => ⟨_, RecordsAndPower.exec_powerFailClear h, RecordsAndPower.pfEnded_log s⟩,
    fun width speed d3 me fm s => pcieLinkUp_completes d3 me fm, fun s => pcieFlr_completes, fun s => pcieL0Exit_completes,
    fun r vec s => msixUnmask_completes, fun r v s => flashErase_completes, fun op a len s => flashCmdDone_completes,
    fun w s => oi2cDone_completes, fun r v s => jtagOpen_completes,
    fun r v s ht h => ⟨_, HostPorts.exec_jtagClose ht h, rfl, rfl⟩⟩

end Sys2Proof.Proofs.TimeItemAndHost
end

section
/-! PROOF. The power, sleep, reset, boot, self-test, training and board commands of O56. -/

namespace Sys2Proof.Proofs.SystemCommands

open Sys2Proof Sys2Proof.Machine
set_option Elab.async false

variable {s t : State} {r : Req} {v w : Word} {m : Chan}

/-! ### Memory training (R443, R444) -/

theorem memCheck_idle (h : s.pwr.step ≠ .memory) : s.memCheck = s := by
  unfold State.memCheck
  exact if_neg fun hc => h hc.1

theorem ch_of_memch (h : t.memch = s.memch) (m : Chan) : t.ch m = s.ch m := congrArg (fun x : Vector MemCh 4 => x[m]) h

theorem trained_ch (s : State) (m : Chan) (gib : Nat) : ((s.trained m gib).ch m).st = .up ∧ ((s.trained m gib).ch m).fail = 0 := by
  unfold State.trained
  dsimp only
  by_cases he : (s.ch m).eyeOnly = true
  · rw [if_pos he, MemoryCommands.ch_setCh]
    exact ⟨rfl, rfl⟩
  · rw [if_neg he, ch_of_memch (State.reviveBuffers_keeps m.val (List.Subset.refl _) (SameBut.refl _ _) .memch (by decide)),
      MemoryCommands.ch_setCh]
    exact ⟨rfl, rfl⟩

theorem trainingDone_completes {gib : Nat} (hst : (s.ch m).st = .training) (hcap : (s.ch m).eyeOnly = true ∨ gib = (s.ch m).cap)
    (hstep : s.pwr.step ≠ .memory) :
    ∃ t, exec (.trainingDone m gib) s = .next t ∧ (t.ch m).st = .up ∧ (t.ch m).fail = 0 := by
  have hpwr : (s.trained m gib).pwr = s.pwr := State.trained_keeps m gib (List.Subset.refl _) (SameBut.refl _ s) .pwr (by decide)
  refine ⟨s.trained m gib, congrArg Host.Outcome.next ((if_pos hst).trans ?_), trained_ch s m gib⟩
  rw [if_pos hcap]
  exact memCheck_idle (hpwr.symm ▸ hstep)

/-- What follows a channel's withdrawal leaves the channels as they are. -/
theorem withdraw_memch (s : State) (m : Chan) (stp : BitVec 4) (src : Nat) :
    (s.withdraw m stp src).memch = (s.setCh m { s.ch m with st := .withdrawn, fail := stp, want := false }).memch := by
  have hL := List.Subset.refl ([.regs, .seam, .bufs, .ecc, .mxe, .evt, .log, .tsk, .hif, .out] : List Part)
  unfold State.withdraw
  refine State.rkFinish_keeps (Part.sub (by decide) hL) (State.rkAdvance_keeps _ (Part.sub (by decide) hL) ?_) .memch (by decide)
  refine State.fire_keeps _ _ (Part.sub (by decide) hL) (State.fire_keeps _ _ (Part.sub (by decide) hL) (State.bump_keeps _ (Part.sub (by decide) hL) ?_))
  refine State.memRecord_keeps _ _ _ _ _ _ _ _ _ (Part.sub (by decide) hL) (State.fire_keeps _ _ (Part.sub (by decide) hL) ?_)
  exact State.setFld_keeps _ _ (Part.sub (by decide) hL) (State.killBuffers_keeps _ (Part.sub (by decide) hL) (SameBut.refl _ _))

theorem withdrawFree_ch (s : State) (m : Chan) (stp : BitVec 4) :
    (s.withdrawFree m stp).ch m = { s.ch m with st := .withdrawn, fail := stp, want := false } :=
  (ch_of_memch (withdraw_memch { s with fresh := s.fresh + 1 } m stp _) m).trans (MemoryCommands.ch_setCh _ m _)

theorem trainingFail_completes {stp : BitVec 4} (hst : (s.ch m).st = .training) (hstep : s.pwr.step ≠ .memory) :
    ∃ t, exec (.trainingFail m stp) s = .next t ∧ (t.ch m).st = .withdrawn ∧ (t.ch m).fail = stp := by
  have hpwr : (s.withdrawFree m stp).pwr = s.pwr := State.withdrawFree_keeps m stp (List.Subset.refl _) (SameBut.refl _ s) .pwr (by decide)
  refine ⟨s.withdrawFree m stp, congrArg Host.Outcome.next ((if_pos hst).trans (memCheck_idle (hpwr.symm ▸ hstep))), ?_⟩
  rw [withdrawFree_ch]
  exact ⟨rfl, rfl⟩

theorem memoryStepTimeout_completes (hstep : s.pwr.step = .memory) (hpend : s.memPending m = true) :
    ∃ u : State, exec (.memoryStepTimeout m) s = .next u.memCheck ∧ (u.ch m).st = .withdrawn :=
  ⟨_, congrArg Host.Outcome.next (if_pos ⟨hstep, hpend⟩), congrArg MemCh.st (withdrawFree_ch { s with fresh := s.fresh + 1 } m _)⟩

/-! ### Cancels (R554) -/

/-- A cancel of a waiting item with no post outstanding. -/
theorem cancel_completes {c : Instr} {item : BitVec 12} (hc : WorkItems.CancelTaken s r c item) (hw : (s.item item.toNat).st = .waiting)
    (hst : s.tsk.stalled = []) (hq : s.tsk.queue = []) :
    ∃ t, exec c s = .next t ∧ t.resp = .done ∧ t.item item.toNat = { s.item item.toNat with flags := 0 } := by
  obtain ⟨-, -, -, -, -, hcancel, -⟩ : Obligations.PortsAndPosts := WorkItems.portsAndPosts
  have hnone : ∀ p ∈ s.tsk.queue ++ s.tsk.stalled, p.req ≠ some r := by
    rw [hst, hq]
    exact fun p hp => absurd hp List.not_mem_nil
  obtain ⟨t, hexec, -, hresp, -, -, -, -, -, hwait, -⟩ := hcancel r c item s hnone hc
  exact ⟨t, hexec, hresp, (hwait hw).1⟩

theorem tskCancel_completes (ht : Taken s r R.TSK_CANCEL) (hw : (s.item (getField v 0 12)).st = .waiting) (hst : s.tsk.stalled = [])
    (hq : s.tsk.queue = []) :
    ∃ t, exec (.tskCancel r v) s = .next t ∧ t.resp = .done ∧ t.item (getField v 0 12) = { s.item (getField v 0 12) with flags := 0 } := by
  rw [getField_eq_extract] at hw ⊢
  exact cancel_completes (.inl ⟨v, rfl, rfl, ht⟩) hw hst hq

/-! ### Regulators and levels (R596-R599) -/

theorem reg_of_pwr (h : t.pwr = s.pwr) (line : Bool) : t.reg line = s.reg line := congrArg (fun p : Pwr => if line then p.regL else p.regF) h

theorem reg_setRegulator (s : State) (line : Bool) (x : PmbReq) : (s.setRegulator line x).reg line = x := by
  cases line <;> rfl

/-- A commanded regulator waits for its acknowledgement, and nothing else of the page's state changes. -/
theorem commandReg_pwr (s : State) (line : Bool) (l : BitVec 2) (on : Bool) :
    ∃ x : PmbReq, x.waiting = true ∧ (s.commandReg line l on).pwr = (s.setRegulator line x).pwr := by
  unfold State.commandReg
  exact ⟨⟨true, 0, _, true⟩, rfl, State.pmbSend_keeps _ _ (List.Subset.refl _) (SameBut.refl _ _) .pwr (by decide)⟩

theorem startLevel_pwr (s : State) (l : BitVec 2) : ∃ a b : PmbReq, (s.startLevel l).pwr =
    { s.pwr with levelFrom := s.pwr.levelNow, levelTo := l, levelNow := slower s.pwr.levelNow l, moving := true, regL := a, regF := b } := by
  obtain ⟨a, -, hline⟩ := commandReg_pwr
    (s.setPwr (fun p => { p with levelFrom := s.pwr.levelNow, levelTo := l, levelNow := slower s.pwr.levelNow l, moving := true })) true l false
  obtain ⟨b, -, hfab⟩ := commandReg_pwr _ false l false
  refine ⟨a, b, hfab.trans ?_⟩
  exact congrArg (fun p : Pwr => { p with regF := b }) hline

theorem startLevel_resp (s : State) (l : BitVec 2) : (s.startLevel l).resp = s.resp :=
  State.startLevel_keeps l (List.Subset.refl _) (SameBut.refl _ s) .resp (by decide)

theorem levelWrite_completes (ht : Taken s r R.PWR_PWR_CTL) (v : Word) (hm : s.pwr.moving = false) (hstep : s.pwr.step = .none) :
    ∃ t, exec (.levelWrite r v) s = .next t ∧ t.resp = .done ∧ t.pwr.moving = true ∧ t.pwr.levelFrom = s.pwr.levelNow ∧
      t.pwr.levelTo = v.setWidth 2 ∧ t.pwr.levelNow = slower s.pwr.levelNow (v.setWidth 2) := by
  have hidle : ¬ ((s.reply .done).pwr.moving = true ∨ (s.reply .done).pwr.step ≠ .none) :=
    fun h => h.elim (ne_true_of_eq_false hm) (not_not_intro hstep)
  obtain ⟨a, b, hpwr⟩ := startLevel_pwr ((s.reply .done).store R.PWR_PWR_CTL v) (v.setWidth 2)
  rw [State.store_pwr] at hpwr
  refine ⟨_, congrArg Host.Outcome.next ((Taken_access ht).trans (if_neg hidle)), (startLevel_resp _ _).trans (State.store_resp _ _ _), ?_⟩
  rw [hpwr]
  exact ⟨rfl, rfl, rfl, rfl⟩

theorem takeLevel_none (h : s.pwr.heldLevel = none) : s.takeLevel = s := by
  unfold State.takeLevel
  rw [h]

/-- The change of level has ended. -/
def levelEnded (s : State) : State :=
  ((s.setPwr (fun p => { p with levelNow := p.levelTo, moving := false })).bump R.PWR_CNT_LEVEL).fire P.PWR E.PWR_LEVEL_DONE

theorem levelEnded_pwr (s : State) : (levelEnded s).pwr = { s.pwr with levelNow := s.pwr.levelTo, moving := false } :=
  (State.fire_pwr _ _ _).trans (State.bump_pwr _ _)

theorem levelEnded_counts (s : State) : (levelEnded s).rd R.PWR_CNT_LEVEL = s.rd R.PWR_CNT_LEVEL + 1 :=
  (State.fire_rd _ _ _ (by decide)).trans ((State.rd_bump_self _ _).trans (congrArg (· + 1) (State.setPwr_rd _ _ _)))

theorem levelDone_ends (h : s.pwr.heldLevel = none) : s.levelDone = levelEnded s :=
  takeLevel_none (s := levelEnded s) ((congrArg Pwr.heldLevel (levelEnded_pwr s)).trans h)

/-- A regulator has answered. -/
def answered (s : State) (line : Bool) : State := s.setRegulator line { s.reg line with waiting := false }

theorem answered_pwr (s : State) (line : Bool) : (answered s line).pwr.levelTo = s.pwr.levelTo ∧ (answered s line).pwr.moving = s.pwr.moving ∧
    (answered s line).pwr.heldLevel = s.pwr.heldLevel := by
  cases line <;> exact ⟨rfl, rfl, rfl⟩

theorem answered_both {line : Bool} (h : (s.reg (!line)).waiting = false) :
    ¬ ((answered s line).pwr.regL.waiting = true ∨ (answered s line).pwr.regF.waiting = true) := by
  cases line with
  | false => exact fun hc => hc.elim (ne_true_of_eq_false h) Bool.false_ne_true
  | true => exact fun hc => hc.elim Bool.false_ne_true (ne_true_of_eq_false h)

theorem regulatorAck_completes {line : Bool} (hw : (s.reg line).waiting = true) (ho : (s.reg (!line)).waiting = false)
    (hm : s.pwr.moving = true) (hheld : s.pwr.heldLevel = none) :
    ∃ t, exec (.regulatorAck line) s = .next t ∧ t.pwr.levelNow = s.pwr.levelTo ∧ t.pwr.moving = false ∧
      t.rd R.PWR_CNT_LEVEL = s.rd R.PWR_CNT_LEVEL + 1 := by
  obtain ⟨hto, hmoving, hheld'⟩ := answered_pwr s line
  have hdone : (answered s line).regsDone = levelEnded (answered s line) :=
    (if_neg (answered_both ho)).trans ((if_pos (hmoving.trans hm)).trans (levelDone_ends (hheld'.trans hheld)))
  refine ⟨_, congrArg Host.Outcome.next ((if_pos hw).trans hdone), ?_, ?_, ?_⟩
  · rw [levelEnded_pwr]
    exact hto
  · rw [levelEnded_pwr]
  · exact (levelEnded_counts _).trans (congrArg (· + 1) (State.setRegulator_rd _ _ _ _))

theorem pmbusAttemptTimeout_completes {line : Bool} (hw : (s.reg line).waiting = true) (hr : (s.reg line).retries < 3) :
    ∃ t, exec (.pmbusAttemptTimeout line) s = .next t ∧ t.reg line = { s.reg line with retries := (s.reg line).retries + 1 } ∧
      t.rd R.PWR_CNT_PMB_RETRY = s.rd R.PWR_CNT_PMB_RETRY + 1 := by
  have hsent (u : State) (cmds : List PmbCmd) : SameBut [.out] u (u.pmbSend line cmds) :=
    State.pmbSend_keeps _ _ (List.Subset.refl _) (SameBut.refl _ u)
  refine ⟨_, congrArg Host.Outcome.next ((if_neg (not_not_intro hw)).trans (if_pos hr)), ?_, ?_⟩
  · exact (reg_of_pwr (hsent _ _ .pwr (by decide)) line).trans ((reg_of_pwr (State.bump_pwr _ _) line).trans (reg_setRegulator s line _))
  · refine (State.rd_of_regs (hsent _ _ .regs (by decide)) _).trans ((State.rd_bump_self _ _).trans (congrArg (· + 1) ?_))
    exact State.setRegulator_rd _ _ _ _

/-! ### Sleep commands (R601-R605) -/

theorem opPwrCmd_doze (h0 : w.getLsbD 0 = true) (h1 : w.getLsbD 1 = false) (h2 : w.getLsbD 2 = false) (h3 : w.getLsbD 3 = false)
    (h4 : w.getLsbD 4 = false) : s.opPwrCmd r w = s.sleepCmd .doze := by
  unfold State.opPwrCmd
  simp only [h0, h1, h2, h3, h4, Bool.false_eq_true, false_and, if_true, if_false]

theorem opPwrCmd_nap (h0 : w.getLsbD 0 = false) (h1 : w.getLsbD 1 = true) (h2 : w.getLsbD 2 = false) (h3 : w.getLsbD 3 = false)
    (h4 : w.getLsbD 4 = false) : s.opPwrCmd r w = s.sleepCmd .nap := by
  unfold State.opPwrCmd
  simp only [h0, h1, h2, h3, h4, Bool.false_eq_true, false_and, if_true, if_false]

theorem opPwrCmd_deep (h0 : w.getLsbD 0 = false) (h1 : w.getLsbD 1 = false) (h2 : w.getLsbD 2 = true) (h3 : w.getLsbD 3 = false)
    (h4 : w.getLsbD 4 = false) : s.opPwrCmd r w = s.sleepCmd .deep := by
  unfold State.opPwrCmd
  simp only [h0, h1, h2, h3, h4, Bool.false_eq_true, false_and, if_true, if_false]

theorem opPwrCmd_wake (h0 : w.getLsbD 0 = false) (h1 : w.getLsbD 1 = false) (h2 : w.getLsbD 2 = false) (h3 : w.getLsbD 3 = true)
    (h4 : w.getLsbD 4 = false) (hst : s.pwr.st = .nap) (hwake : s.inWake = false) : s.opPwrCmd r w = s.startWake 1 0 := by
  unfold State.opPwrCmd
  simp only [h0, h1, h2, h3, h4, hst, hwake, Bool.false_eq_true, not_false_eq_true, or_true, and_self, if_true, if_false]

theorem opPwrCmd_leaveLimp (h0 : w.getLsbD 0 = false) (h1 : w.getLsbD 1 = false) (h2 : w.getLsbD 2 = false) (h3 : w.getLsbD 3 = false)
    (h4 : w.getLsbD 4 = true) (hosc : s.pins.oscReady = true) (hlimp : s.pwr.limp = true) (hstep : s.pwr.step = .none) :
    s.opPwrCmd r w = ((s.setPwr (fun p => { p with limp := false })).startChains).memStep := by
  unfold State.opPwrCmd
  simp only [h0, h1, h2, h3, h4, hosc, hlimp, hstep, Bool.false_eq_true, not_true_eq_false, false_and, and_self, if_true, if_false]

/-- A sleep command for a deeper state waits. -/
theorem sleepCmd_waits {st : SleepSt} (hwake : s.inWake = false) (hdeeper : s.pwr.st.num < st.num) (hcause : s.sleepCause st = 0) :
    (s.sleepCmd st).resp = s.resp ∧ (s.sleepCmd st).pwr.entries = s.pwr.entries ++ [st] := by
  refine ⟨State.sleepCmd_keeps st (List.Subset.refl _) (SameBut.refl _ s) .resp (by decide), ?_⟩
  have htaken : ¬ (s.inWake = true ∨ st.num ≤ s.pwr.st.num) := fun h => h.elim (ne_true_of_eq_false hwake) (Nat.not_le.mpr hdeeper)
  unfold State.sleepCmd
  dsimp only
  rw [if_neg htaken, if_neg (not_not_intro hcause)]
  by_cases hfirst : s.pwr.entries = []
  · rw [if_pos hfirst]
    rfl
  · rw [if_neg hfirst]
    rfl

/-- Only a power failure refuses the deeper sleep commands. -/
theorem sleepCause_none {st : SleepSt} (hpf : s.log.pf = false) (hst : st ≠ .doze) : s.sleepCause st = 0 :=
  (if_neg (ne_true_of_eq_false hpf)).trans (if_pos hst)

theorem doze_completes (ht : Taken s r R.PWR_PWR_CMD) (h1 : v.getLsbD 1 = false) (h2 : v.getLsbD 2 = false) (h3 : v.getLsbD 3 = false)
    (h4 : v.getLsbD 4 = false) (hst : s.pwr.st = .run) (hwake : s.inWake = false) (hcause : s.sleepCause .doze = 0) :
    ∃ t, exec (.doze r v) s = .next t ∧ t.resp = .done ∧ t.pwr.entries = s.pwr.entries ++ [.doze] := by
  have hop : (s.reply .done).opPwrCmd r (v ||| 1) = (s.reply .done).sleepCmd .doze :=
    opPwrCmd_doze (PageControl.getLsbD_or_true v (by decide)) (PageControl.getLsbD_or_false h1 (by decide))
      (PageControl.getLsbD_or_false h2 (by decide)) (PageControl.getLsbD_or_false h3 (by decide)) (PageControl.getLsbD_or_false h4 (by decide))
  have hdeeper : (s.reply .done).pwr.st.num < SleepSt.doze.num := by
    show s.pwr.st.num < 1
    rw [hst]
    decide
  exact ⟨_, congrArg Host.Outcome.next ((Taken_access ht).trans hop), sleepCmd_waits (s := s.reply .done) hwake hdeeper hcause⟩

theorem nap_completes (ht : Taken s r R.PWR_PWR_CMD) (h0 : v.getLsbD 0 = false) (h2 : v.getLsbD 2 = false) (h3 : v.getLsbD 3 = false)
    (h4 : v.getLsbD 4 = false) (hst : s.pwr.st = .run ∨ s.pwr.st = .doze) (hwake : s.inWake = false) (hpf : s.log.pf = false) :
    ∃ t, exec (.nap r v) s = .next t ∧ t.resp = .done ∧ t.pwr.entries = s.pwr.entries ++ [.nap] := by
  have hop : (s.reply .done).opPwrCmd r (v ||| 2) = (s.reply .done).sleepCmd .nap :=
    opPwrCmd_nap (PageControl.getLsbD_or_false h0 (by decide)) (PageControl.getLsbD_or_true v (by decide))
      (PageControl.getLsbD_or_false h2 (by decide)) (PageControl.getLsbD_or_false h3 (by decide)) (PageControl.getLsbD_or_false h4 (by decide))
  have hdeeper : (s.reply .done).pwr.st.num < SleepSt.nap.num := by
    show s.pwr.st.num < 2
    rcases hst with hst | hst <;> rw [hst] <;> decide
  exact ⟨_, congrArg Host.Outcome.next ((Taken_access ht).trans hop),
    sleepCmd_waits (s := s.reply .done) hwake hdeeper (sleepCause_none hpf (by decide))⟩

theorem num_lt_deep {st : SleepSt} (h : st ≠ .deep) : st.num < SleepSt.deep.num := by
  cases st with
  | run => decide
  | doze => decide
  | nap => decide
  | deep => exact absurd rfl h

theorem deep_completes (ht : Taken s r R.PWR_PWR_CMD) (h0 : v.getLsbD 0 = false) (h1 : v.getLsbD 1 = false) (h3 : v.getLsbD 3 = false)
    (h4 : v.getLsbD 4 = false) (hst : s.pwr.st ≠ .deep) (hwake : s.inWake = false) (hpf : s.log.pf = false) :
    ∃ t, exec (.deep r v) s = .next t ∧ t.resp = .done ∧ t.pwr.entries = s.pwr.entries ++ [.deep] := by
  have hop : (s.reply .done).opPwrCmd r (v ||| 4) = (s.reply .done).sleepCmd .deep :=
    opPwrCmd_deep (PageControl.getLsbD_or_false h0 (by decide)) (PageControl.getLsbD_or_false h1 (by decide))
      (PageControl.getLsbD_or_true v (by decide)) (PageControl.getLsbD_or_false h3 (by decide)) (PageControl.getLsbD_or_false h4 (by decide))
  exact ⟨_, congrArg Host.Outcome.next ((Taken_access ht).trans hop),
    sleepCmd_waits (s := s.reply .done) hwake (num_lt_deep hst) (sleepCause_none hpf (by decide))⟩

theorem nextEntry_pwr (s : State) : s.nextEntry.pwr =
    { s.pwr with entries := s.pwr.entries.tail, step := if s.pwr.step = .entering then .none else s.pwr.step } := by
  unfold State.nextEntry
  dsimp only
  split <;> rfl

theorem selfRefresh_pwr (s : State) : s.selfRefresh.pwr = { s.pwr with on := s.pwr.on &&& ~~~ memDoms, wakeLevel := s.pwr.levelNow } := by
  unfold State.selfRefresh
  refine (State.setPwr_pwr _ _).trans (congrArg (fun p : Pwr => { p with on := p.on &&& ~~~ memDoms, wakeLevel := p.levelNow }) ?_)
  refine SameBut.foldl (ps := [.memch]) (fun u m hu => ?_) (SameBut.refl _ s) .pwr (by decide)
  dsimp only
  split <;> exact State.setCh_keeps _ _ (List.Subset.refl _) hu

theorem sleepEntry_dozes {rest : List SleepSt} (he : s.pwr.entries = .doze :: rest) (hst : s.pwr.st = .run) (hready : s.sleepReady = true)
    (hcause : s.sleepCause .doze = 0) : s.sleepEntry = s.enterDoze := by
  have hstep : s.pwr.step = .none := by
    unfold State.sleepReady at hready
    simp only [Bool.and_eq_true, decide_eq_true_eq] at hready
    obtain ⟨⟨-, hidle⟩, -⟩ := hready
    exact hidle
  unfold State.sleepEntry
  rw [he]
  dsimp only
  rw [if_neg (by rw [hstep]; decide), if_neg (not_not_intro hready), if_neg (not_not_intro hcause), if_neg (by rw [hst]; decide), if_pos rfl]

theorem sleepEntry_completes {rest : List SleepSt} (he : s.pwr.entries = .doze :: rest) (hst : s.pwr.st = .run) (hready : s.sleepReady = true)
    (hcause : s.sleepCause .doze = 0) :
    ∃ t, exec .sleepEntry s = .next t ∧ t.pwr.st = .doze ∧ t.pwr.entries = rest ∧ t.pwr.on = s.pwr.on &&& ~~~ memDoms := by
  refine ⟨_, congrArg Host.Outcome.next (sleepEntry_dozes he hst hready hcause), ?_⟩
  unfold State.enterDoze
  rw [nextEntry_pwr, State.setPwr_pwr, selfRefresh_pwr]
  exact ⟨rfl, congrArg List.tail he, rfl⟩

theorem sleepRefuse_pwr (s : State) (cause : Nat) : (s.sleepRefuse cause).pwr = { s.pwr with refuse := BitVec.ofNat 3 cause } :=
  State.fire_pwr _ _ _

theorem sleepWaitTimeout_completes {e : SleepSt} {rest : List SleepSt} (he : s.pwr.entries = e :: rest) (hstep : s.pwr.step ≠ .entering) :
    ∃ t, exec .sleepWaitTimeout s = .next t ∧ t.pwr.entries = rest ∧ t.pwr.refuse = 1 := by
  have hwaits : s.pwr.entries ≠ [] := by
    rw [he]
    exact List.cons_ne_nil _ _
  refine ⟨_, congrArg Host.Outcome.next (if_pos ⟨hwaits, hstep⟩), ?_⟩
  rw [nextEntry_pwr, sleepRefuse_pwr]
  exact ⟨congrArg List.tail he, rfl⟩

/-! ### Wakes (R606-R608) -/

/-- A wake's source stands in WAKE_LAST, and its failed domains are tried again. -/
def wakeBegun (s : State) (src gpio : Nat) : State :=
  (s.wr R.PWR_WAKE_LAST (BitVec.ofNat 32 (src + gpio * 2 ^ 4))).setPwr (fun p =>
    { p with waking := !p.fromReset, dead := 0, regL := { p.regL with met := false }, regF := { p.regF with met := false } })

theorem wakeBegun_last (s : State) (src gpio : Nat) : (wakeBegun s src gpio).rd R.PWR_WAKE_LAST = BitVec.ofNat 32 (src + gpio * 2 ^ 4) :=
  (State.setPwr_rd _ _ _).trans (State.rd_wr_self _ _ _)

theorem startWake_doze (h : s.pwr.st = .doze) (src gpio : Nat) : s.startWake src gpio = (wakeBegun s src gpio).memStep := by
  unfold State.startWake
  rw [h]
  rfl

theorem startWake_nap (h : s.pwr.st = .nap) (src gpio : Nat) : s.startWake src gpio =
    (wakeBegun s src gpio).regStep (some true) (if s.pwr.levelNow = s.pwr.wakeLevel then none else some false) := by
  unfold State.startWake
  rw [h]
  rfl

/-- The regulator step with the line regulator. -/
theorem regStep_pwr (s : State) (on : Bool) (fab : Option Bool) : ∃ x y : PmbReq, x.waiting = true ∧
    (s.regStep (some on) fab).pwr = { s.pwr with step := .regulator, regL := x, regF := y } := by
  obtain ⟨x, hx, hline⟩ := commandReg_pwr (s.setPwr (fun p => { p with step := .regulator })) true s.pwr.wakeLevel on
  cases fab with
  | none => exact ⟨x, s.pwr.regF, hx, hline⟩
  | some b =>
    obtain ⟨y, -, hfab⟩ := commandReg_pwr
      ((s.setPwr (fun p => { p with step := .regulator })).commandReg true s.pwr.wakeLevel on) false s.pwr.wakeLevel b
    exact ⟨x, y, hx, hfab.trans (congrArg (fun p : Pwr => { p with regF := y }) hline)⟩

theorem regStep_frame (s : State) (line fab : Option Bool) : SameBut [.pwr, .out] s (s.regStep line fab) :=
  State.regStep_keeps line fab (List.Subset.refl _) (SameBut.refl _ s)

/-- A wake from Nap commands the line regulator. -/
theorem startWake_nap_spec (h : s.pwr.st = .nap) (src gpio : Nat) : (s.startWake src gpio).resp = s.resp ∧
    (s.startWake src gpio).pwr.step = .regulator ∧ (s.startWake src gpio).rd R.PWR_WAKE_LAST = BitVec.ofNat 32 (src + gpio * 2 ^ 4) ∧
    ((s.startWake src gpio).reg true).waiting = true := by
  have hframe := regStep_frame (wakeBegun s src gpio) (some true) (if s.pwr.levelNow = s.pwr.wakeLevel then none else some false)
  obtain ⟨x, y, hx, hpwr⟩ := regStep_pwr (wakeBegun s src gpio) true (if s.pwr.levelNow = s.pwr.wakeLevel then none else some false)
  rw [startWake_nap h]
  refine ⟨hframe .resp (by decide), congrArg Pwr.step hpwr, (State.rd_of_regs (hframe .regs (by decide)) _).trans (wakeBegun_last s src gpio), ?_⟩
  exact (congrArg (fun p : Pwr => p.regL.waiting) hpwr).trans hx

theorem wake_completes (ht : Taken s r R.PWR_PWR_CMD) (h0 : v.getLsbD 0 = false) (h1 : v.getLsbD 1 = false) (h2 : v.getLsbD 2 = false)
    (h4 : v.getLsbD 4 = false) (hst : s.pwr.st = .nap) (hwake : s.inWake = false) :
    ∃ t, exec (.wake r v) s = .next t ∧ t.resp = .done ∧ t.pwr.step = .regulator ∧ t.rd R.PWR_WAKE_LAST = 1 ∧ (t.reg true).waiting = true := by
  have hop : (s.reply .done).opPwrCmd r (v ||| 8) = (s.reply .done).startWake 1 0 :=
    opPwrCmd_wake (s := s.reply .done) (PageControl.getLsbD_or_false h0 (by decide)) (PageControl.getLsbD_or_false h1 (by decide))
      (PageControl.getLsbD_or_false h2 (by decide)) (PageControl.getLsbD_or_true v (by decide)) (PageControl.getLsbD_or_false h4 (by decide)) hst hwake
  exact ⟨_, congrArg Host.Outcome.next ((Taken_access ht).trans hop), startWake_nap_spec (s := s.reply .done) hst 1 0⟩

theorem leaveLimp_completes (ht : Taken s r R.PWR_PWR_CMD) (h0 : v.getLsbD 0 = false) (h1 : v.getLsbD 1 = false) (h2 : v.getLsbD 2 = false)
    (h3 : v.getLsbD 3 = false) (hosc : s.pins.oscReady = true) (hlimp : s.pwr.limp = true) (hstep : s.pwr.step = .none) :
    ∃ u : State, exec (.leaveLimp r v) s = .next u.startChains.memStep ∧ u.resp = .done ∧ u.pwr = { s.pwr with limp := false } := by
  have hop : (s.reply .done).opPwrCmd r (v ||| 16) = (((s.reply .done).setPwr (fun p => { p with limp := false })).startChains).memStep :=
    opPwrCmd_leaveLimp (s := s.reply .done) (PageControl.getLsbD_or_false h0 (by decide)) (PageControl.getLsbD_or_false h1 (by decide))
      (PageControl.getLsbD_or_false h2 (by decide)) (PageControl.getLsbD_or_false h3 (by decide)) (PageControl.getLsbD_or_true v (by decide))
      hosc hlimp hstep
  exact ⟨_, congrArg Host.Outcome.next ((Taken_access ht).trans hop), rfl, rfl⟩

theorem dozeAutoExit_completes (hst : s.pwr.st = .doze) (hwake : s.inWake = false) (hdue : s.act.st = .holdover ∨ s.spilling = true) :
    ∃ u : State, exec .dozeAutoExit s = .next u.memStep ∧ u.rd R.PWR_WAKE_LAST = 6 ∧ u.pwr.st = .doze := by
  have hfired : (s.fire P.PWR E.PWR_DOZE_EXIT).pwr.st = .doze := (congrArg Pwr.st (State.fire_pwr _ _ _)).trans hst
  exact ⟨_, congrArg Host.Outcome.next ((if_pos ⟨hst, ne_true_of_eq_false hwake, hdue⟩).trans (startWake_doze hfired 6 0)),
    wakeBegun_last _ 6 0, hfired⟩

theorem wakeSource_completes {k : Fin 8} (hsrc : (s.rd R.PWR_WAKE_SRC).getLsbD k.val = true) (hst : s.pwr.st = .nap) (hwake : s.inWake = false)
    (hun : s.rst.unpowered = false) (he : s.pwr.entries = []) :
    ∃ t, exec (.wakeSource (.gpio k)) s = .next t ∧ t.pwr.step = .regulator ∧
      t.rd R.PWR_WAKE_LAST = BitVec.ofNat 32 (2 + k.val * 2 ^ 4) := by
  have hawake : ¬ (s.inWake = true ∨ s.rst.unpowered = true) := fun h => h.elim (ne_true_of_eq_false hwake) (ne_true_of_eq_false hun)
  have hwakes : s.wakeBy 2 k.val = s.startWake 2 k.val :=
    (if_neg hawake).trans ((if_neg (not_not_intro he)).trans (if_neg (by rw [hst]; decide)))
  obtain ⟨-, hstep, hlast, -⟩ := startWake_nap_spec hst 2 k.val
  exact ⟨_, congrArg Host.Outcome.next ((if_pos hsrc).trans hwakes), hstep, hlast⟩

/-! ### The oscillator and the domains (R608, R610) -/

theorem oscReadyRise_completes (hstep : s.pwr.step ≠ .oscillator) (hlimp : s.pwr.limp = true) (hosc : s.pins.oscReady = false)
    (hdom : s.domOn 0 = true) : ∃ t, exec .oscReadyRise s = .next t ∧ t.pins.oscReady = true ∧ Raised t P.PWR E.PWR_OSC_BACK :=
  ⟨_, congrArg Host.Outcome.next ((if_neg hstep).trans (if_pos ⟨hlimp, ne_true_of_eq_false hosc⟩)), congrArg Pins.oscReady (State.fire_pins _ _ _),
    State.fire_raised (s := { s with pins := { s.pins with oscReady := true } }) hdom (by decide)⟩

theorem enterLimp_pwr (s : State) : s.enterLimp.pwr = { s.pwr with limp := true } := by
  have hL := List.Subset.refl ([.regs, .seam, .cmt, .rx, .dsf, .tribs, .act, .upb, .restarts, .txEff, .pairs, .pipes, .epochs, .shapers, .policers,
    .tim, .evt, .tsk, .hif, .timers, .out, .fresh] : List Part)
  unfold State.enterLimp
  refine (State.setQual_keeps _ (Part.sub (by decide) hL) (SameBut.foldl (fun _ _ hu => State.rxOff_keeps _ (Part.sub (by decide) hL) hu)
    (SameBut.refl _ _)) .pwr (by decide)).trans ?_
  exact (State.fire_pwr _ _ _).trans (State.bump_pwr _ _)

theorem oscTimeout_completes (hstep : s.pwr.step = .oscillator) :
    ∃ u : State, exec .oscTimeout s = .next u.oscDone ∧ u.pwr.limp = true ∧ u.pwr.step = .oscillator := by
  refine ⟨_, congrArg Host.Outcome.next (if_pos hstep), ?_⟩
  rw [enterLimp_pwr]
  exact ⟨rfl, hstep⟩

/-- A domain has come up. -/
def domainUp (s : State) (d : Fin 34) : State := s.setPwr (fun p => { p with on := p.on ||| domBit d, waitGood := p.waitGood &&& ~~~ domBit d })

/-- A domain has come up, and the event tree takes a wake failure that waited for it. -/
def domainUpTold (s : State) (d : Fin 34) : State :=
  if d.val = 29 ∧ (domainUp s d).pwr.failHeld then ((domainUp s d).setPwr (fun p => { p with failHeld := false })).fire P.PWR E.PWR_WAKE_FAIL
  else domainUp s d

theorem domainUpTold_pwr (s : State) (d : Fin 34) : ∃ b : Bool, (domainUpTold s d).pwr = { (domainUp s d).pwr with failHeld := b } := by
  unfold domainUpTold
  split
  · exact ⟨false, State.fire_pwr _ _ _⟩
  · exact ⟨_, rfl⟩

theorem domGood_waits {d : Fin 34} (hwait : s.pwr.waitGood &&& domBit d ≠ 0) (hstep : s.pwr.step = .logic)
    (hleft : s.pwr.waitGood &&& ~~~ domBit d ≠ 0) : s.domGood d = domainUpTold s d := by
  obtain ⟨b, hpwr⟩ := domainUpTold_pwr s d
  have hlogic : (domainUpTold s d).pwr.step = .logic := (congrArg Pwr.step hpwr).trans hstep
  have hmore : (domainUpTold s d).pwr.waitGood ≠ 0 := fun h => hleft ((congrArg Pwr.waitGood hpwr).symm.trans h)
  have hmem : ¬ (domainUpTold s d).pwr.step = .memory := by
    rw [hlogic]
    decide
  exact (if_neg hwait).trans ((if_neg hmem).trans (if_neg fun hc => hmore hc.2))

theorem domainPowerGood_completes {d : Fin 34} (hwait : s.pwr.waitGood &&& domBit d ≠ 0) (hstep : s.pwr.step = .logic)
    (hleft : s.pwr.waitGood &&& ~~~ domBit d ≠ 0) :
    ∃ t, exec (.domainPowerGood d) s = .next t ∧ t.pwr.on = s.pwr.on ||| domBit d ∧ t.pwr.waitGood = s.pwr.waitGood &&& ~~~ domBit d := by
  obtain ⟨b, hpwr⟩ := domainUpTold_pwr s d
  exact ⟨_, congrArg Host.Outcome.next (domGood_waits hwait hstep hleft), congrArg Pwr.on hpwr, congrArg Pwr.waitGood hpwr⟩

/-- A domain has failed. -/
def domainDown (s : State) (d : Fin 34) : State :=
  ((s.setPwr (fun p => { p with dead := p.dead ||| domBit d, waitGood := p.waitGood &&& ~~~ domBit d })).setFld
    ⟨if d.val < 32 then R.PWR_DOM_FAIL_LO else R.PWR_DOM_FAIL_HI, d.val % 32, 1⟩ 1).fire P.PWR E.PWR_DOMAIN_FAIL

theorem domainDown_pwr (s : State) (d : Fin 34) : (domainDown s d).pwr =
    { s.pwr with dead := s.pwr.dead ||| domBit d, waitGood := s.pwr.waitGood &&& ~~~ domBit d } :=
  (State.fire_pwr _ _ _).trans (State.setFld_pwr _ _ _)

theorem domFail_waits {d : Fin 34} (hwait : s.pwr.waitGood &&& domBit d ≠ 0) (hstep : s.pwr.step = .logic)
    (hleft : s.pwr.waitGood &&& ~~~ domBit d ≠ 0) : s.domFail d = domainDown s d := by
  have hpwr := domainDown_pwr s d
  have hlogic : (domainDown s d).pwr.step = .logic := (congrArg Pwr.step hpwr).trans hstep
  have hmore : (domainDown s d).pwr.waitGood ≠ 0 := fun h => hleft ((congrArg Pwr.waitGood hpwr).symm.trans h)
  have hmem : ¬ (domainDown s d).pwr.step = .memory := by
    rw [hlogic]
    decide
  exact (if_neg hwait).trans ((if_neg hmem).trans (if_neg fun hc => hmore hc.2))

theorem domainTimeout_completes {d : Fin 34} (hwait : s.pwr.waitGood &&& domBit d ≠ 0) (hstep : s.pwr.step = .logic)
    (hleft : s.pwr.waitGood &&& ~~~ domBit d ≠ 0) :
    ∃ t, exec (.domainTimeout d) s = .next t ∧ t.pwr.dead = s.pwr.dead ||| domBit d ∧ t.pwr.waitGood = s.pwr.waitGood &&& ~~~ domBit d ∧
      t.pwr.on = s.pwr.on := by
  refine ⟨_, congrArg Host.Outcome.next (domFail_waits hwait hstep hleft), ?_⟩
  rw [domainDown_pwr]
  exact ⟨rfl, rfl, rfl⟩

/-! ### Power and resets (R588, R613-R619) -/

/-- The device with power, before its first regulator step. -/
def poweredOn (s : State) : State :=
  { s.forget (fun _ => false) with
    act := {}, tim := { rtcFail := true }, mem := [], own := {}, clock := {}, pwr := { on := domBit 0, fromReset := true },
    rst := { (s.forget (fun _ => false)).rst with cause := 1, unpowered := false, straps := 0 } }

theorem powerOn_completes (h : s.rst.unpowered = true) : ∃ t, exec .powerOn s = .next t ∧ t.rst.unpowered = false ∧ t.rst.cause = 1 ∧ t.mem = [] ∧
    t.pwr.step = .regulator ∧ t.pwr.on = domBit 0 := by
  have hframe := regStep_frame (poweredOn s) (some true) (some true)
  have hrst : ((poweredOn s).regStep (some true) (some true)).rst = (poweredOn s).rst := hframe .rst (by decide)
  obtain ⟨x, y, -, hpwr⟩ := regStep_pwr (poweredOn s) true (some true)
  refine ⟨(poweredOn s).regStep (some true) (some true), congrArg Host.Outcome.next (if_pos h), ?_, ?_, hframe .mem (by decide),
    congrArg Pwr.step hpwr, congrArg Pwr.on hpwr⟩
  · rw [hrst]
    rfl
  · rw [hrst]
    rfl

theorem powerLoss_completes (s : State) : ∃ t, exec .powerLoss s = .next t ∧ t.rst.unpowered = true ∧ t.pwr.on = 0 ∧ t.mem = [] ∧
    t.log.flash = s.log.flash :=
  ⟨_, rfl, rfl, rfl, rfl, rfl⟩

/-- What a device reset leaves, before its first step. -/
def resetTo (s : State) (cause : BitVec 3) : State :=
  { s.forget keptReg with
    own := { sealUse := s.own.sealUse, armed := s.own.armed, lfsr := s.own.lfsr, hits := s.own.hits, misses := s.own.misses,
             matchSeen := s.own.matchSeen }
    clock := { rtc := s.clock.rtc, rtcNs := s.clock.rtcNs }
    pwr := { on := s.pwr.on, fromReset := true }
    rst := { (s.forget keptReg).rst with cause := cause } }

/-- While RESET_N is low, a reset sequence ends with its oscillator step. -/
theorem oscStep_held (hfrom : s.pwr.fromReset = true) (hin : s.rst.inReset = true) : SameBut [.pwr, .out, .timers] s s.oscStep := by
  have hstop : SameBut [.pwr, .out, .timers] s (s.stopTimer T.osc) := State.stopTimer_keeps _ (by decide) (SameBut.refl _ s)
  unfold State.oscStep
  refine SameBut.ite (State.startTimer_keeps _ (by decide) (State.setPwr_keeps _ (by decide) (SameBut.refl _ s))) ?_
  unfold State.oscDone
  dsimp only
  rw [if_pos (show (s.stopTimer T.osc).pwr.fromReset = true from hfrom), if_pos (show (s.stopTimer T.osc).rst.inReset = true from hin)]
  exact State.setPwr_keeps _ (by decide) hstop

theorem deviceReset_held (hin : s.rst.inReset = true) (cause : BitVec 3) :
    SameBut [.pwr, .out, .timers] (resetTo s cause) (s.deviceReset cause) := by
  unfold State.deviceReset
  exact SameBut.ite (SameBut.mono (by decide) (regStep_frame (resetTo s cause) _ _)) (oscStep_held (s := resetTo s cause) rfl hin)

theorem resetAssert_completes (hin : s.rst.inReset = false) (hun : s.rst.unpowered = false) : ∃ t, exec .resetAssert s = .next t ∧
    t.rst.inReset = true ∧ t.rst.cause = 2 ∧ t.rst.boot = .idle ∧ t.mem = s.mem ∧ t.act.silenced = s.act.silenced := by
  have hframe := deviceReset_held (s := { s with rst := { s.rst with inReset := true } }) rfl 2
  have hrst := hframe .rst (by decide)
  have hmem := hframe .mem (by decide)
  have hact := hframe .act (by decide)
  have hlow : ¬ (s.rst.inReset = true ∨ s.rst.unpowered = true) := fun h => h.elim (ne_true_of_eq_false hin) (ne_true_of_eq_false hun)
  exact ⟨_, congrArg Host.Outcome.next (if_neg hlow), congrArg Rst.inReset hrst, congrArg Rst.cause hrst, congrArg Rst.boot hrst, hmem,
    (congrArg Act.silenced hact).trans rfl⟩

theorem decideElection_sealUse (s : State) (timed : Bool) : (s.decideElection timed).own.sealUse = s.own.sealUse := by
  unfold State.decideElection
  dsimp only
  split
  · rw [State.thimbleMove_own, State.setHolder_own]
    rfl
  · rfl

theorem addCandidate_sealUse (s : State) (a : Nat) : (s.addCandidate a).own.sealUse = s.own.sealUse := by
  unfold State.addCandidate
  dsimp only
  split
  · rfl
  · split
    · exact decideElection_sealUse _ _
    · rfl

theorem electionStart_sealUse (s : State) : s.electionStart.own.sealUse = s.own.sealUse := by
  unfold State.electionStart
  dsimp only
  split
  · exact addCandidate_sealUse _ _
  · rfl

/-- RESET_N has risen: the straps are sampled. -/
def released (s : State) (straps : BitVec 5) : State :=
  { s with rst := { s.rst with inReset := false, straps := straps }, own := { sealUse := straps.getLsbD 3, armed := straps.getLsbD 3 } }

theorem resetRelease_completes {straps : BitVec 5} (hin : s.rst.inReset = true) (hun : s.rst.unpowered = false) (hstep : s.pwr.step ≠ .none) :
    ∃ t, exec (.resetRelease straps) s = .next t ∧ t.rst.inReset = false ∧ t.rst.straps = straps ∧ t.own.sealUse = straps.getLsbD 3 := by
  have hkeep : SameBut [.regs, .seam, .cmt, .own, .evt, .tsk, .hif, .timers, .out] (released s straps) (released s straps).electionStart :=
    State.electionStart_keeps (List.Subset.refl _) (SameBut.refl _ _)
  have hrst := hkeep .rst (by decide)
  have hbusy : (released s straps).electionStart.pwr.step ≠ .none := fun h => hstep ((congrArg Pwr.step (hkeep .pwr (by decide))).symm.trans h)
  refine ⟨(released s straps).electionStart, congrArg Host.Outcome.next ?_, congrArg Rst.inReset hrst, congrArg Rst.straps hrst,
    electionStart_sealUse (released s straps)⟩
  exact (if_neg (not_not_intro hin)).trans ((if_neg (ne_true_of_eq_false hun)).trans (if_neg fun hc => hbusy hc.2.1))

/-- A device reset is asked for. -/
def resetAsked (s : State) (cause : BitVec 3) : State := { s with rst := { s.rst with devWait := some cause } }

/-- With the error log off there is nothing to flush. -/
theorem askReset_resets (hwait : s.rst.devWait = none) (hpf : s.log.pf = false) (hoff : s.logOn = false) (cause : BitVec 3) :
    s.askReset cause = (resetAsked s cause).softReset cause := by
  have hlog : (resetAsked s cause).logStart = resetAsked s cause := if_neg fun hc => ne_true_of_eq_false hoff hc.1
  have hended : (resetAsked s cause).flushEnded = true := by
    refine (if_neg (ne_true_of_eq_false hpf)).trans ?_
    rw [show (resetAsked s cause).logOn = false from hoff]
    rfl
  have hcarried : (resetAsked s cause).resetIfFlushed = (resetAsked s cause).softReset cause := if_pos hended
  unfold State.askReset
  rw [hwait]
  exact (congrArg State.resetIfFlushed hlog).trans hcarried

theorem devRst_completes (ht : Taken s r R.RST_RST_CMD) (v : Word) (hwait : s.rst.devWait = none) (hpf : s.log.pf = false) (hoff : s.logOn = false) :
    ∃ u : State, exec (.devRst r v) s = .next (u.deviceReset 3).electionStart ∧ u.resp = .done ∧ SameBut [.rst, .resp] s u := by
  have hop : (s.reply .done).opRstCmd (v ||| 1) = (resetAsked (s.reply .done) 3).softReset 3 :=
    (if_pos (PageControl.getLsbD_or_true v (by decide))).trans (askReset_resets (s := s.reply .done) hwait hpf hoff 3)
  exact ⟨resetAsked (s.reply .done) 3, congrArg Host.Outcome.next ((Taken_access ht).trans hop), rfl,
    SameBut.upd_rst (by decide) (State.reply_keeps _ (by decide) (SameBut.refl _ s))⟩

/-! ### The watchdog and the cores (R626, R627) -/

theorem watchdogExpire_completes (hrun : s.running T.watchdog = true) (hms : s.fld F.RST_WDT_CFG_TIMEOUT_MS ≠ 0)
    (hact : s.fld F.RST_WDT_CFG_ACTION = 0) (hdom : s.domOn 29 = true) :
    ∃ t, exec .watchdogExpire s = .next t ∧ t.running T.watchdog = false ∧ Raised t P.RST E.RST_WDT := by
  refine ⟨_, congrArg Host.Outcome.next ((if_pos ⟨hrun, hms⟩).trans (if_pos hact)), ?_, State.fire_raised (s := s.stopTimer T.watchdog) hdom (by decide)⟩
  rw [State.fire_running, State.running_stopTimer]
  simp

theorem wdtKick_completes (ht : Taken s r R.RST_WDT_KICK) (v : Word) (hms : s.fld F.RST_WDT_CFG_TIMEOUT_MS ≠ 0) :
    exec (.wdtKick r v) s = .next ((s.reply .done).startTimer T.watchdog) :=
  congrArg Host.Outcome.next ((Taken_access ht).trans (if_pos ⟨PageControl.getLsbD_or_true v (by decide), hms⟩))

theorem coreRunWrite_completes (ht : Taken s r R.RST_CORE_RUN) (h0 : v.getLsbD 0 = true) :
    ∃ t, exec (.coreRunWrite r v) s = .next t ∧ t.resp = .done ∧ t.fld F.RST_CORE_RUN_RUN = getField v 0 8 := by
  have hframe (u : State) (old new : BitVec 8) : SameBut [.tsk, .cpu] u (u.stopCores old new) :=
    State.stopCores_keeps old new (List.Subset.refl _) (SameBut.refl _ u)
  have hfld (old new : BitVec 8) : (((s.reply .done).store R.RST_CORE_RUN v).stopCores old new).fld F.RST_CORE_RUN_RUN = getField v 0 8 :=
    (State.fld_of_regs (hframe _ old new .regs (by decide)) _).trans (State.fld_store_plain (s.reply .done) F.RST_CORE_RUN_RUN v (by decide))
  have hruns : getField v 0 8 ≠ 0 := fun h => absurd ((TerminalTimers.getLsbD_of_getField_zero h (i := 0) (by decide)).symm.trans h0) (by decide)
  have hgone (old new : BitVec 8) : (((s.reply .done).store R.RST_CORE_RUN v).stopCores old new).coresGone =
      ((s.reply .done).store R.RST_CORE_RUN v).stopCores old new := if_neg fun hc => hruns ((hfld old new).symm.trans hc.1)
  exact ⟨_, congrArg Host.Outcome.next ((Taken_access ht).trans (hgone _ _)), (hframe _ _ _ .resp (by decide)).trans (State.store_resp _ _ _), hfld _ _⟩

/-! ### The boot (R623-R625) -/

/-- The cores run from ENTRY. -/
def coresReleased (s : State) : State :=
  (({ s with rst := { s.rst with boot := .running, steps := s.rst.steps.filter (fun n => decide (n ≠ 7)), ended := 7 :: s.rst.ended } }.setCaches
    (fun _ => [])).wr R.RST_CORE_RUN (if s.rst.hdr.any BootHdr.allCores then 0xFF else 1)).fire P.RST E.RST_BOOT_DONE

theorem coresReleased_spec (s : State) : (coresReleased s).resp = s.resp ∧ (coresReleased s).rst.boot = .running ∧
    (coresReleased s).rd R.RST_CORE_RUN = if s.rst.hdr.any BootHdr.allCores = true then 0xFF else 1 :=
  ⟨State.fire_resp _ _ _, congrArg Rst.boot (State.fire_rst _ _ _), (State.fire_rd _ _ _ (by decide)).trans (State.rd_wr_self _ _ _)⟩

/-- Once the election is decided, the cores are no candidate. -/
theorem releaseCores_elected (h : s.own.elected = true) : s.releaseCores = coresReleased s :=
  HostLinks.addCandidate_none (s := coresReleased s) (.inl ((congrArg Own.elected (State.fire_own _ _ _)).trans h))

theorem bootStepDone_completes (hstep : s.inStep 7 = true) (hel : s.own.elected = true) :
    ∃ t, exec (.bootStepDone .b7) s = .next t ∧ t.rst.boot = .running ∧
      t.rd R.RST_CORE_RUN = (if s.rst.hdr.any BootHdr.allCores = true then 0xFF else 1) := by
  obtain ⟨-, hboot, hrun⟩ := coresReleased_spec s
  exact ⟨_, congrArg Host.Outcome.next ((if_pos hstep).trans (releaseCores_elected hel)), hboot, hrun⟩

theorem flashReadTimeout_completes (hstep : s.inStep 2 = true) (hcopy : s.rst.copy = false) :
    ∃ t, exec .flashReadTimeout s = .next t ∧ t.rst = { s.rst with cause0 := 4, copy := true } :=
  ⟨_, congrArg Host.Outcome.next ((if_pos hstep).trans (if_neg (ne_true_of_eq_false hcopy))), rfl⟩

/-- The boot starts again with the header of copy 0. -/
def retried (s : State) : State :=
  { s with rst := { s.rst with boot := .loading, copy := false, cause0 := 0, cause1 := 0, hdr := none,
                               ended := s.rst.ended.filter (fun n => decide (n ≠ 2 ∧ n ≠ 6)) } }

/-- A step that has not ended runs once it has begun. -/
theorem beginStep_runs {n : Nat} (h : s.rst.ended.contains n = false) :
    ∃ l : List Nat, s.beginStep n = { s with rst := { s.rst with steps := l } } ∧ n ∈ l := by
  by_cases hin : s.rst.steps.contains n = true
  · exact ⟨s.rst.steps, if_pos (.inl hin), List.contains_iff_mem.mp hin⟩
  · exact ⟨s.rst.steps ++ [n], if_neg (not_or.mpr ⟨hin, ne_true_of_eq_false h⟩), List.mem_append_right _ List.mem_cons_self⟩

theorem bootRetry_completes (ht : Taken s r R.RST_BOOT_CMD) (h1 : v.getLsbD 1 = false) (hst : s.rst.boot = .failed) :
    ∃ t, exec (.bootRetry r v) s = .next t ∧ t.resp = .done ∧ t.rst.boot = .loading ∧ t.rst.copy = false ∧ t.rst.hdr = none ∧ 2 ∈ t.rst.steps := by
  have hop : (s.reply .done).opBootCmd r (v ||| 1) = (retried (s.reply .done)).beginStep 2 := by
    unfold State.opBootCmd
    dsimp only
    rw [if_neg (ne_true_of_eq_false (PageControl.getLsbD_or_false h1 (by decide))), if_pos (PageControl.getLsbD_or_true v (by decide)),
      if_pos (show (s.reply .done).rst.boot = .failed from hst)]
    rfl
  have hended : (retried (s.reply .done)).rst.ended.contains 2 = false := by
    simp [retried]
  obtain ⟨l, hbegin, hl⟩ := beginStep_runs hended
  rw [hbegin] at hop
  exact ⟨_, congrArg Host.Outcome.next ((Taken_access ht).trans hop), rfl, rfl, rfl, rfl, hl⟩

theorem bootRun_completes (ht : Taken s r R.RST_BOOT_CMD) (h0 : v.getLsbD 0 = false) (hst : s.rst.boot = .held) (hel : s.own.elected = true) :
    ∃ t, exec (.bootRun r v) s = .next t ∧ t.resp = .done ∧ t.rst.boot = .running := by
  have hop : (s.reply .done).opBootCmd r (v ||| 2) = coresReleased (s.reply .done) := by
    unfold State.opBootCmd
    dsimp only
    rw [if_pos (PageControl.getLsbD_or_true v (by decide)), if_pos (show (s.reply .done).rst.boot = .held from hst),
      if_neg (ne_true_of_eq_false (PageControl.getLsbD_or_false h0 (by decide))), releaseCores_elected (s := s.reply .done) hel]
  obtain ⟨hresp, hboot, -⟩ := coresReleased_spec (s.reply .done)
  exact ⟨_, congrArg Host.Outcome.next ((Taken_access ht).trans hop), hresp, hboot⟩

/-! ### Memory self-test and entropy (R332, R628, R629) -/

/-- A test runs in its target. -/
def testBegun (s : State) (v : Word) (kind idx : Nat) : State :=
  ({ s.store R.SYS_BIST_CTL v with sys := ⟨.running, true, kind, idx⟩ }.wr R.SYS_BIST_ERR 0).wr R.SYS_BIST_ADDR 0

theorem testBegun_err (s : State) (v : Word) (kind idx : Nat) : (testBegun s v kind idx).rd R.SYS_BIST_ERR = 0 :=
  (State.rd_wr_ne _ _ (by decide)).trans (State.rd_wr_self _ _ _)

theorem testBegun_resp (s : State) (v : Word) (kind idx : Nat) : (testBegun s v kind idx).resp = s.resp :=
  State.wr_keeps _ _ (by decide) (State.wr_keeps _ _ (by decide) (SameBut.upd_sys (by decide) (State.store_keeps _ _ (by decide)
    (SameBut.refl [.regs, .sys] s)))) .resp (by decide)

/-- The answer to the requester is no part of what an idle target looks like. -/
theorem reply_bistIdle (s : State) (x : Resp) (kind idx : Nat) : (s.reply x).bistIdle kind idx = s.bistIdle kind idx := by
  unfold State.bistIdle
  rfl

theorem opBistCtl_begins {kind idx : Nat} (hgo : w.getLsbD 0 = true) (hkind : getField w 1 3 = kind)
    (hidx : bistIndex kind (getField w 16 9) = idx) (hfree : s.sys.active = false) (hidle : s.bistIdle kind idx = true) :
    s.opBistCtl w = testBegun s w kind idx := by
  subst hkind hidx
  have hready : ¬ (s.sys.active = true ∨ ¬ s.bistIdle (getField w 1 3) (bistIndex (getField w 1 3) (getField w 16 9)) = true) :=
    fun h => h.elim (ne_true_of_eq_false hfree) (not_not_intro hidle)
  unfold State.opBistCtl
  dsimp only
  rw [if_neg (not_not_intro hgo), if_neg hready]
  rfl

theorem bistGo_completes (ht : Taken s r R.SYS_BIST_CTL) (hfree : s.sys.active = false)
    (hidle : s.bistIdle (getField (v ||| 1) 1 3) (bistIndex (getField (v ||| 1) 1 3) (getField (v ||| 1) 16 9)) = true) :
    ∃ t, exec (.bistGo r v) s = .next t ∧ t.resp = .done ∧ t.sys.bist = .running ∧ t.sys.active = true ∧ t.rd R.SYS_BIST_ERR = 0 :=
  ⟨_, congrArg Host.Outcome.next ((Taken_access ht).trans (opBistCtl_begins (s := s.reply .done) (PageControl.getLsbD_or_true v (by decide)) rfl rfl
    hfree ((reply_bistIdle s _ _ _).trans hidle))), testBegun_resp _ _ _ _, rfl, rfl, testBegun_err _ _ _ _⟩

theorem bistDone_completes (err : Nat) (addr : Word) (h : s.sys.active = true) :
    ∃ t, exec (.bistDone err addr) s = .next t ∧ t.sys.active = false ∧ t.sys.bist = (if err = 0 then .passed else .failed) :=
  ⟨_, congrArg Host.Outcome.next (if_neg (not_not_intro h)), congrArg Sys.active (State.fire_sys _ _ _), congrArg Sys.bist (State.fire_sys _ _ _)⟩

/-! ### The board's interfaces (R639, R649-R652) -/

theorem pcieDown_completes {i : Instr} (hi : i = .pcieLinkDown ∨ i = .pcieHotReset ∨ i = .perstAssert) (hon : s.endpointOn = true) :
    ∃ t, exec i s = .next t ∧ t.hif.l0 = false ∧ t.hif.d3 = false ∧ t.hif.msixEn = false := by
  obtain ⟨-, hreset, -⟩ : Obligations.HostLink := HostLinks.hostLink
  have hflr : i ≠ .pcieFlr := by
    rcases hi with rfl | rfl | rfl <;> exact fun h => by cases h
  obtain ⟨t, hexec, -, hd3, hmsix, -, -, hdown, -⟩ := hreset i s hon (.inl (by simpa using hi))
  exact ⟨t, hexec, (hdown hflr).1, hd3, hmsix⟩

/-- A read or program that no reason forbids goes out while the log writer programs no page. -/
theorem flash_completes {i : Instr} {op : Nat} (hi : HostPorts.IsFlash i r v op) (h3 : op ≠ 3) (ht : Taken s r R.HIF_FLASH_CMD)
    (hc : s.flashCause op (s.fld F.HIF_FLASH_ADDR_ADDR) (getField v 8 9) = 0) (hw : s.log.writing = 0) :
    ∃ t, exec i s = .next t ∧ t.resp = .done ∧ t.hif.flashOp = some (op, s.fld F.HIF_FLASH_ADDR_ADDR, getField v 8 9) ∧ t.hif.flashRun = true := by
  obtain ⟨t, hexec, -, hresp, hhif, -⟩ := HostPorts.flash_taken hi ht hc
  have hgoes : ¬ HostPorts.FlashHeld s op := fun h => h.elim (not_not_intro hw) fun h => h3 h.1
  exact ⟨t, hexec, hresp, congrArg Hif.flashOp hhif, (congrArg Hif.flashRun hhif).trans (decide_eq_true hgoes)⟩

theorem oi2c_completes {i : Instr} {rd : Bool} (hi : HostPorts.IsI2c i r v rd) (ht : Taken s r R.HIF_OI2C_CMD) (hfree : s.hif.i2cOp = none) :
    ∃ t, exec i s = .next t ∧ t.resp = .done ∧ t.hif.i2cOp = some (HostPorts.i2cWord v rd) := by
  obtain ⟨h31, -⟩ := HostPorts.i2cWord_bits v rd
  exact ⟨_, (hi.exec ht).trans (congrArg _ (HostPorts.opI2cCmd_sends (s := s.reply .done) h31 hfree)), rfl, rfl⟩

theorem oi2cSclTimeout_completes (h : s.hif.i2cOp = some w) : ∃ t, exec .oi2cSclTimeout s = .next t ∧ t.hif.i2cOp = none ∧ t.hif.i2cRes = 2 ∧
    t.rd R.HIF_CNT_OI2C_ERR = s.rd R.HIF_CNT_OI2C_ERR + 1 := by
  obtain ⟨-, -, -, -, hdone, -⟩ : Obligations.FlashI2cAndJtag := HostPorts.flashI2cAndJtag
  obtain ⟨t, hexec, -, hnone, hres, hcnt, -⟩ := hdone 2 [] w .oi2cSclTimeout s h (.inr ⟨rfl, rfl⟩)
  exact ⟨t, hexec, hnone, hres, hcnt⟩

/-! ### O56 -/

/-- Settles O56: each command by its lemma above. -/
theorem systemCommandsComplete : Obligations.SystemCommandsComplete := by
  unfold Obligations.SystemCommandsComplete
  exact ⟨fun m gib s => trainingDone_completes, fun m stp s => trainingFail_completes,
    fun n item s hr => cancel_completes (.inr ⟨n, rfl, rfl, hr⟩), fun r v s => tskCancel_completes,
    fun r v s ht => levelWrite_completes ht v, fun line s => regulatorAck_completes, fun line s => pmbusAttemptTimeout_completes,
    fun r v s => doze_completes, fun r v s => nap_completes, fun r v s => deep_completes, fun r v s => wake_completes,
    fun r v s => leaveLimp_completes, fun rest s => sleepEntry_completes, fun e rest s => sleepWaitTimeout_completes,
    fun s => dozeAutoExit_completes, fun k s => wakeSource_completes, fun s => oscReadyRise_completes, fun s => oscTimeout_completes,
    fun d s => domainPowerGood_completes, fun d s => domainTimeout_completes, fun s => powerOn_completes, powerLoss_completes,
    fun s => resetAssert_completes, fun straps s => resetRelease_completes, fun r v s ht => devRst_completes ht v,
    fun s => watchdogExpire_completes, fun r v s ht => wdtKick_completes ht v, fun r v s => coreRunWrite_completes,
    fun s => bootStepDone_completes, fun s => flashReadTimeout_completes, fun r v s => bootRetry_completes, fun r v s => bootRun_completes,
    fun r v s => bistGo_completes, fun err addr s => bistDone_completes err addr, fun i s => pcieDown_completes,
    fun r v s => flash_completes (.inl ⟨rfl, rfl⟩) (by decide), fun r v s => flash_completes (.inr (.inl ⟨rfl, rfl⟩)) (by decide),
    fun r v s => oi2c_completes (.inl ⟨rfl, rfl⟩), fun r v s => oi2c_completes (.inr ⟨rfl, rfl⟩), fun w s => oi2cSclTimeout_completes,
    fun s => ⟨_, rfl, rfl, State.setKey_keeps _ (by decide) (SameBut.refl _ s)⟩, fun m s => memoryStepTimeout_completes⟩

end Sys2Proof.Proofs.SystemCommands
end
